-- ==== Sys2Proof/Word.lean ====
section
/-! DEFINITION. The words the controller's software sees: the 32-bit register word (R75), the octet and the
64-bit identifier. Everything the spec counts rather than masks is a `Nat`. -/

namespace Sys2Proof

/-- One register word: accesses to register pages are 32 bits wide (R75). -/
abbrev Word := BitVec 32

/-- One octet. -/
abbrev Byte := BitVec 8

/-- A 64-bit identifier: EUI-64, DIE_ID. -/
abbrev Id64 := BitVec 64

end Sys2Proof
end

