-- ==== Sys2Proof/Syntax.lean ====
section
/-! DEFINITION. The commands of the ZK-4208, one constructor for each row of spec/opcode_table.json. A command is
what reaches the block from outside it or what one of its own sequencers completes; its operands carry what the
spec's rule for that step reads from outside the state. -/

namespace Sys2Proof

/-- The route of a register access (R18, R75): BAR0 or MGMT SPI. -/
inductive Route where
  | bar0 | mgmtSpi
deriving DecidableEq, Repr

/-- The register window of a host write: BAR0 (R86, R88) or the trusted window BAR4 (R375). -/
inductive Bar where
  | bar0 | bar4
deriving DecidableEq, Repr

/-- A frame type of the MHR (R226). -/
inductive FrameType where
  | beacon | data | ack | command | other
deriving DecidableEq, Repr

/-- An address of the MHR: none, short, or extended (the EUI-64). -/
inductive AirAddr where
  | none | short (a : Nat) | extended (eui : Nat)
deriving DecidableEq, Repr

/-- The MHR of a received frame, as the lane decodes it (R225 to R227). `pan` is the destination PAN ID and `srcPan` the source PAN
ID, each where the PAN ID compression rules leave it in the frame; `tooShort` marks a PSDU too short to hold its MHR. -/
structure Mhr where
  version  : Nat
  ftype    : FrameType
  pan      : Option Nat
  dst      : AirAddr
  src      : AirAddr
  ackReq   : Bool
  seq      : Nat
  security : Bool
  tooShort : Bool := false
  srcPan   : Option Nat := none
deriving DecidableEq, Repr

/-- The PAN ID by which a frame belongs to a slot (R225): its destination's, else its source's. -/
def Mhr.panId (m : Mhr) : Option Nat :=
  match m.pan with
  | some p => some p
  | none => m.srcPan

/-- The host's writes of MSI-X Enable and Function Mask, and Bus Master Enable as it stands (R99). -/
structure MsixControl where
  enable    : Bool
  funcMask  : Bool := false
  busMaster : Bool
deriving DecidableEq, Repr

/-- What a read of a core record from copy A meets (R290, R291): good parity, an octet mended from copy B, or one that has failed in both
copies. -/
inductive Parity where
  | good | mended | lost
deriving DecidableEq, Repr

/-- What a NODE command meets in the table (R288, R290, R291): nothing, an octet of the core record mended or lost, or a DDR error of the
extended record. -/
inductive NodeFind where
  | good | mended | lost | ddrError
deriving DecidableEq, Repr

/-- What a read request asks for: the address of its first word, the words that follow it in a read request of the core table
window (R283), the register window that it addresses, and what a read of the core table window meets. -/
structure ReadSpan where
  addr : Nat
  more : Nat := 0
  bar  : Bar := .bar0
  find : Parity := .good
deriving DecidableEq, Repr

/-- What the PHR of a received frame says (R207 to R209, R212, R213); of an OFDM frame also the scrambler's seed index. -/
inductive Phr where
  | fsk (reserved : Bool) (length : Nat) (fcs2 whitened : Bool)
  | ofdm (hcsOk : Bool) (mcs : Nat) (reserved : Bool) (length : Nat) (seed : Fin 4)
  | oqpsk (reserved : Bool) (length : Nat)
  | modeSwitch (checkOk : Bool) (mode : Nat)
deriving DecidableEq, Repr

/-- A Path record IE (R259). -/
structure PathIe where
  truncated : Bool
  addrs     : List Nat
deriving DecidableEq, Repr

/-- A Poll IE (R258). -/
structure PollIe where
  appt    : Bool
  cancel  : Bool
  ticks   : Nat
  guardUs : Nat
deriving DecidableEq, Repr

/-- A Mesh time IE (R258). -/
structure MeshIe where
  ticks    : Nat
  synced   : Bool
  freeRun  : Bool
  stratum  : Nat
  priority : Nat
deriving DecidableEq, Repr

/-- An IPv6 packet (R299 to R310): its header fields, 128-bit addresses as numbers and `payload` the Payload Length, and the octets
after the header; those that `body` does not list are 0. -/
structure Ipv6 where
  trafficClass : Nat
  flowLabel    : Nat
  payload      : Nat
  nextHeader   : Nat
  hopLimit     : Nat
  src          : Nat
  dst          : Nat
  body         : List Byte := []
deriving DecidableEq, Repr

/-- A PTP message as it stands in a frame (R465): versionPTP, messageType, messageLength, the octets present, whether
the UDP length and checksum are good, and domainNumber. -/
structure PtpMsg where
  version : Nat
  mtype   : Nat
  length  : Nat
  octets  : Nat
  udpOk   : Bool
  domain  : Nat
deriving DecidableEq, Repr

/-- A received Ethernet frame (R427 to R432, R463): 48-bit destination with octet 0 most significant, the EtherType
after one 0x8100 tag, that tag's TCI, opcode and pause time of a MAC control frame, the complete IPv6 header if there
is one, destination and port of a UDP/IPv4 packet, and the PTP message found where the transports of R463 place it. -/
structure EthFrame where
  dst       : Nat
  etherType : Nat
  tci       : Option Nat := none
  opcode    : Nat := 0
  pauseTime : Nat := 0
  ip        : Option Ipv6 := none
  udp4      : Option (Nat × Nat) := none
  ptp       : Option PtpMsg := none
deriving DecidableEq, Repr

/-- What follows the MHR and its security header (R302, R305, R314, R565): the command identifier of a MAC command frame, as whether it
is a Data Request, or the octets of another frame's payload. -/
inductive Payload where
  | command (dataRequest : Bool)
  | data (octets : List Byte)
deriving DecidableEq, Repr

/-- The measured figures of a received frame, before encoding (R220): RSSI and noise floor in 0.5 dB, frequency
offset in 10 Hz, SNR and EVM in 0.25 dB. -/
structure Figures where
  rssi  : Int
  freq  : Int
  snr   : Int
  evm   : Int
deriving DecidableEq, Repr

/-- The decrypted content of a received frame at its verdict: its vendor-specific header IEs, each as its octets from the
descriptor on (R257), and its payload. -/
structure Body where
  ies     : List (List Byte) := []
  payload : Payload
deriving DecidableEq, Repr

/-- What reading the PUF sources gives against the helper data in use (R356): the most corrections in a codeword of each
in-service block and of the delay line, `none` where the block or the line does not reproduce its key, and whether the
helper TAG verifies. -/
structure PufRead where
  sram0 : Option Nat
  sram1 : Option Nat
  delay : Option Nat
  tagOk : Bool := true
deriving DecidableEq, Repr

/-- The content of a node entry that the active mirrors (R582). -/
structure NodeRec where
  index   : Nat
  eui     : Nat
  keyRef  : Nat
  keyGen  : Nat
  flags   : Nat
  wrapped : Nat
  port    : Nat := 0
  first   : Nat := 0
  pathCtl : Nat := 0
  path    : List Nat := []
deriving DecidableEq, Repr

/-- A protected belay record other than a heartbeat (R579, R582). -/
inductive RopeRec where
  | reserve (finger start : Nat)
  | slot (i : Nat) (attr : Word) (parent : Nat) (wrapped : List Byte)
  | node (r : NodeRec)
  | replay (entries : List (Nat × Nat × Nat))
  | syncDone
deriving DecidableEq, Repr

/-- Where the two paths of a cipher engine disagree (R399, R407): a frame cipher context by its user, or a storage cipher
engine at an address, with whether the repeat disagrees too and whether the unit belongs to a SCIPHER job. -/
inductive PathUser where
  | reception (lane : Fin 136)
  | transmission (fe : Fin 4)
  | job
  | storage (engine : Fin 3) (addr : Nat) (again job : Bool)
deriving DecidableEq, Repr

/-- What an access to a DDR line meets: clean, one bit of it corrected, or uncorrectable, with the syndrome (R515), or an access that
the storage cipher ends after two mismatches (R407). -/
inductive Ecc where
  | clean | corrected (syndrome : Byte) | uncorrectable (syndrome : Byte) | failed
deriving DecidableEq, Repr

/-- Where the SRAM scrubber finds a parity error (R512, R513, R519). A location held in two copies has one bad copy, or
`both` bad or differing; a free location is unoccupied. -/
inductive SramPlace where
  | core (index : Fin 262144) (both : Bool)
  | slot (i : Fin 1024) (both : Bool)
  | buffer (frame : Nat)
  | free
  | cache (node : Fin 262144)
  | lane (i : Fin 136)
  | modulator (fe : Fin 4)
  | profile
  | work (pg : Nat) (frame : Option Nat)
  | config (pg : Nat)
  | supervisor (core : Fin 2) (pauseUs : Nat)
deriving DecidableEq, Repr

/-- A find of the SRAM scrubber: where, its octet offset within the memory, and, where the location fails again after it is
rewritten, its macro, row and column (R600). -/
structure SramFind where
  place : SramPlace
  off   : Nat
  again : Option (Nat × Nat × Nat)
deriving DecidableEq, Repr

/-- A host access through BAR2 (R479): a read of `n` octets, or octets to be written with their byte enables. -/
inductive Bar2 where
  | read (off n : Nat)
  | write (off : Nat) (octets : List (Option Byte))
deriving DecidableEq, Repr

/-- How a copy ends (R482). -/
inductive CopyHow where
  | complete | completerError | ddrError
deriving DecidableEq, Repr

/-- What of a transmit slot cannot be read for an uncorrectable DDR error (R489, R516). -/
inductive SlotLoss where
  | none | tally | header | payload
deriving DecidableEq, Repr

/-- How the programming of a settings copy goes (R523, R524): to its end, up to a sector where the device reports a failure, up to a
sector where power is lost between the erase and the end of programming, or up to a sector whose encryption fails twice (R407). -/
inductive SectorRun where
  | done
  | fails (sector : Nat)
  | cut (sector : Nat)
  | cipher (sector : Nat)
deriving DecidableEq, Repr

/-- The commands. -/
inductive Instr where
  /-- SAG_WARN (R52): A rail stays below its low warning threshold for the 2 µs filter, which sets SAG_WARN_LATCH and raises SAG_WARN. -/
  | sagWarn (rail : Fin 10)
  /-- SUPPLY_HIGH (R52): A rail stays above its high warning threshold for the 2 µs filter, which sets HIGH_LATCH and raises SUPPLY_HIGH. -/
  | supplyHigh (rail : Fin 10)
  /-- SAG_RESET (R53): A rail stays below its low reset threshold for the filter, which asserts a sag reset, sets SAG_CAUSE and increments SAG_COUNT. -/
  | sagReset (rails : BitVec 10)
  /-- AON_POWER_ON_RESET (R53): VDD_AON stays below 1.30 V for 2 µs, so the always-on domain takes its own power-on reset and loses every PWR field. -/
  | aonPowerOnReset
  /-- SUPPLIES_VALID (R54): Every monitored rail has been above its reset threshold plus hysteresis for 1 ms, which releases POR or the sag reset and begins the start. -/
  | suppliesValid (seqLate roleStrap campStrap pwrFailHigh : Bool)
  /-- TAMPER_SUPPLY_CHANGEOVER (R42): VDD_AON crosses 1.60 V, and the tamper domain changes over between VDD_AON and VBAT_TAMPER. -/
  | tamperSupplyChangeover (toVbat : Bool)
  /-- VBAT_CROSSING (R56): VBAT_TAMPER crosses 1.0 V or 2.3 V after the 1 ms filter, which updates PRESENT or LOW and may raise VBAT_LOW. -/
  | vbatCrossing (mv : Nat)
  /-- VBAT_MEASUREMENT (R56): VBAT_TAMPER is measured once per second into PWR.VBAT.MV. -/
  | vbatMeasurement (mv : Nat)
  /-- PWR_FAIL (R58): A filtered falling level on PWR_FAIL_N raises PWR_FAIL, sets FELL and starts bivouac entry. -/
  | pwrFail
  /-- PWR_RESTORED (R616): PWR_FAIL_N has stayed high for 100 ms, which latches PWR_RESTORED and starts bivouac exit. -/
  | pwrRestored
  /-- XO32K_FAULT (R62): No crystal edge arrives for 100 µs, so XO32K_FAULT is raised and the always-on domain runs from the divided RC clock. -/
  | xo32kFault
  /-- XO32K_RETURN (R62): The crystal returns, which resumes ratio learning and the fine check. -/
  | xo32kReturn
  /-- REFCLK_ABSENT (R64): No REFCLK40_IN edge arrives for 1 µs, which raises REFCLK_FAULT. -/
  | refclkAbsent
  /-- REFCLK_COARSE_CHECK (R64): At every 4 crystal cycles the REFCLK count is checked against ±2,000 ppm, or against ±15 % on the RC clock. -/
  | refclkCoarseCheck (count : Nat)
  /-- REFCLK_FINE_GATE (R64): A 1 s gate completes: it learns or slews the ratio, faults beyond ±50 ppm and clears REFCLK_FAULT when it passes. -/
  | refclkFineGate (count : Nat)
  /-- REFCLK_RESTORED (R65): REFCLK40_IN has passed the coarse check for 10 ms, so the controller performs a warm reset with REFCLK_FAULT as its cause. -/
  | refclkRestored
  /-- SDSREF_MEASUREMENT (R66): Each second REFCLK156 is measured against REFCLK40_IN, and SDSREF_FAULT is raised outside ±200 ppm. -/
  | sdsrefMeasurement (ppm100 : Int)
  /-- PLL_REQUEST (R68): A block requests its fast clock, which ungates it, starts the PLL or cancels a pending power-down. -/
  | pllRequest (pll : Fin 7)
  /-- PLL_LOCK (R67): A started PLL achieves lock within 25 µs. -/
  | pllLock (pll : Fin 7)
  /-- PLL_HOLD_EXPIRY (R68): No request has remained for PLL_HOLD, so the PLL powers down. -/
  | pllHoldExpiry (pll : Fin 7)
  /-- PLL_UNLOCK (R69): A requested PLL loses lock, which sets UNLOCK_SEEN and raises PLL_UNLOCK. -/
  | pllUnlock (pll : Fin 7)
  /-- TEMP_SAMPLE (R71): The four junction sensors are sampled every 10 ms, and TEMP_WARN and TEMP_TRIP are raised or cleared. -/
  | tempSample (t0 t1 t2 t3 : Int)
  /-- REGISTER_WRITE (R76): A write to a register field that has no step of its own is applied, or is rejected whole under R76. -/
  | registerWrite (bar : Bar) (addr : Nat) (byteEn : BitVec 4) (data : Word)
  /-- RC_COUNTER_READ (R9): A read of an RC field returns its value and then clears it. -/
  | rcCounterRead (route : Route) (span : ReadSpan)
  /-- CTRL_ENABLE (R81): A write of CTRL.ENABLE 0→1 moves the page from OFF or STOPPED to STARTING, or from DRAINING to RUN. -/
  | ctrlEnable (pg : Nat) (route : Route)
  /-- CTRL_DISABLE (R81): A write of CTRL.ENABLE 1→0 moves RUN to DRAINING, or STARTING to STOPPED. -/
  | ctrlDisable (pg : Nat) (route : Route)
  /-- FORCE_STOP (R81): A write of CTRL.FORCE_STOP aborts in-flight work into STOPPED, or block-resets STOPPED or FAULT to OFF. -/
  | forceStop (pg : Nat) (route : Route) (keep : Bool)
  /-- SELF_TEST_REQ (R84): A write of CTRL.SELF_TEST_REQ starts a self-test, waits for reserve, or ends with BAD_STATE. -/
  | selfTestReq (pg : Nat) (route : Route)
  /-- CTRL_LOCK (R79): A write of 1 to CTRL.LOCK locks the page's RWL fields and ENABLE until the next device reset. -/
  | ctrlLock (pg : Nat) (route : Route)
  /-- START_SEQUENCE_DONE (R81): A block's start sequence completes into RUN, or fails into FAULT with a detail code. -/
  | startSequenceDone (pg : Nat) (failure : Option Byte)
  /-- DRAIN_COMPLETE (R81): The last in-flight item of a DRAINING page reaches its disposition, and the page enters STOPPED with DRAINED = 1. -/
  | drainComplete (pg : Nat)
  /-- BLOCK_FAULT (R81): An internal fault is detected, and the page enters FAULT. -/
  | blockFault (pg : Nat)
  /-- SELF_TEST_DONE (R84): A self-test ends, and the page returns to its former state or enters FAULT with a result.
  `failure` is the first part that failed, numbered from 0 in the order of the page's rule. -/
  | selfTestDone (pg : Nat) (failure : Option Byte)
  /-- SELF_TEST_WAIT_EXPIRY (R84): No reserve unit frees within TEST_WAIT, so the request ends as NO_RESERVE. -/
  | selfTestWaitExpiry (pg : Nat)
  /-- EVT_FORCE (R96): A write to EVT_FORCE latches the event bits as if their conditions had occurred. -/
  | evtForce (pg : Nat) (route : Route) (bits : Word)
  /-- HOLDOFF_EXPIRY (R99): A vector's holdoff ends, and one message follows if assertions were merged and VEC_STATUS is still set. -/
  | holdoffExpiry (vec : Fin 32)
  /-- MSIX_UNMASK (R99): The host unmasks a vector or the function, and a message is sent if the pending bit is still set. -/
  | msixUnmask (vec : Option (Fin 32))
  /-- MSIX_ENABLE (R99): The host writes MSI-X Enable and Function Mask; enabling sends one message for each vector whose
VEC_STATUS bit is 1. -/
  | msixEnable (control : MsixControl)
  /-- MGMT_ACK (R100): A write to EVT.MGMT_ACK acknowledges asserted sources toward MGMT_EVT_N. -/
  | mgmtAck (group : Fin 8) (bits : Word)
  /-- MGMT_SPI_READ (R91): A MGMT SPI READ transaction returns data words from the addressed page. -/
  | mgmtSpiRead (mode3 : Bool) (addr : Nat) (words : Nat)
  /-- MGMT_SPI_WRITE (R91): A MGMT SPI WRITE transaction applies each complete data word to the addressed page. -/
  | mgmtSpiWrite (mode3 : Bool) (addr : Nat) (data : List Word)
  /-- MGMT_SPI_STATUS (R91): A MGMT SPI STATUS transaction returns the status octet and clears bits [2:0]. -/
  | mgmtSpiStatus (mode3 : Bool)
  /-- QUAD_ON (R91): A QUAD_ON command makes later MGMT SPI transactions quad. -/
  | quadOn (mode3 : Bool)
  /-- QUAD_OFF (R91): A QUAD_OFF command in quad mode makes later transactions single. -/
  | quadOff (mode3 : Bool)
  /-- MGMT_SPI_CS_RISE (R91): MGMT_SPI_CS_N rises and ends the transaction, which discards any partial word. -/
  | mgmtSpiCsRise (partialBits : Nat)
  /-- GPIO_EDGE (R93): A filtered enabled edge on an input GPIO ball sets its EDGE bit and latches GPIO_EDGE. -/
  | gpioEdge (ball : Fin 16) (level : Bool)
  /-- I2C1_CMD (R94): A write to I2C1.CMD starts one I2C1 read or write transaction. -/
  | i2c1Cmd (route : Route) (data : Word)
  /-- I2C1_DONE (R94): An I2C1 transaction ends with DONE or NACK and latches I2C1_DONE. -/
  | i2c1Done (nack : Bool) (octet : Byte)
  /-- I2C1_TIMEOUT (R94): Clock stretching for more than 25 ms abandons the transaction with TIMEOUT, clocks SCL free and sends STOP. -/
  | i2c1Timeout
  /-- EXTEST (R95): The EXTEST instruction drives the balls from the boundary register and mutes every TX DAC, where it is accepted. -/
  | extest
  /-- IDCODE (R95): The IDCODE instruction selects the IDCODE register. -/
  | idcode
  /-- SAMPLE_PRELOAD (R95): The SAMPLE/PRELOAD instruction samples or preloads the boundary register. -/
  | samplePreload (boundary : Nat)
  /-- CLAMP (R95): The CLAMP instruction holds the balls from the boundary register, where it is accepted. -/
  | clamp
  /-- HIGHZ (R95): The HIGHZ instruction places the balls in high impedance, where it is accepted. -/
  | highz
  /-- BYPASS (R95): BYPASS, or any other code, selects the bypass register and returns the balls to their functional levels. -/
  | bypass
  /-- JTAG_TRST (R95): JTAG_TRST_N low holds the test access port in Test-Logic-Reset. -/
  | jtagTrst
  /-- TUNE_GO (R106): A write of FEn.TUNE_GO starts a retune to the pending centre and span. -/
  | tuneGo (fe : Fin 4)
  /-- RETUNE_DRAIN_EXPIRY (R106): DRAIN_MAX expires during a retune, so the remaining lanes end as DROP_DISABLED and SYNTH_CAL begins. -/
  | retuneDrainExpiry (fe : Fin 4)
  /-- SYNTH_LOCK (R110): The synthesiser locks, and the front end moves from SYNTH_CAL to SETTLE. -/
  | synthLock (fe : Fin 4) (vcoBand lockUs : Nat)
  /-- SETTLE_ELAPSED (R110): 12 µs of SETTLE elapse, and the front end enters RX or CAL. -/
  | settleElapsed (fe : Fin 4) (errorHz : Int)
  /-- RX_TX_ELAPSED (R110): The 96 µs RX_TX turnaround ends, the first symbol leaves and the front end enters TX. -/
  | rxTxElapsed (fe : Fin 4)
  /-- ANSWER_GRANT_SAMPLE (R133): For an answer, COEXn_GNT is sampled at the PA_EN rise, and a low grant withholds the answer. -/
  | answerGrantSample (fe : Fin 4) (gntLevel : Bool)
  /-- TX_LAST_SYMBOL (R110): The last transmitted symbol is sent, the front end enters TX_RX and a frame without an acknowledgement request reaches its disposition. -/
  | txLastSymbol (fe : Fin 4)
  /-- TX_RX_ELAPSED (R110): The 48 µs TX_RX turnaround ends, and the front end returns to RX, or to STANDBY under listen-through. -/
  | txRxElapsed (fe : Fin 4)
  /-- SYNTH_UNLOCK (R111): The synthesiser loses lock: transmission stops, bound lanes end and SYNTH_CAL runs. -/
  | synthUnlock (fe : Fin 4)
  /-- SYNTH_RETRY (R111): A lock attempt is retried 1 ms later, and the page enters FAULT after the third failure. -/
  | synthRetry (fe : Fin 4)
  /-- CALIBRATION_TEMPERATURE_TRIGGER (R112): PWR.TEMP[0] differs from CAL_TEMP by more than 10 °C, which triggers the calibration set, relieved or deferred. -/
  | calibrationTemperatureTrigger (fe : Fin 4)
  /-- CALIBRATION_IQ_AGE_TRIGGER (R112): CAL_AGE reaches 24 h, which triggers an IQ calibration, relieved or deferred. -/
  | calibrationIqAgeTrigger (fe : Fin 4)
  /-- CALIBRATION_DONE (R113): A calibration or calibration set ends, results are stored and the front end returns to RX. -/
  | calibrationDone (fe : Fin 4) (measured second : Nat)
  /-- CALIBRATION_RETRY_TIMER (R114): Every 10 min, a stale in-service calibration is retried. -/
  | calibrationRetryTimer (fe : Fin 4)
  /-- CAL_REQ_OSC (R115): A CAL_REQ bit 0 requests the OSC calibration under relief. -/
  | calReqOsc (fe : Fin 4)
  /-- CAL_REQ_SYNTH (R115): A CAL_REQ bit 1 requests the SYNTH calibration under relief. -/
  | calReqSynth (fe : Fin 4)
  /-- CAL_REQ_AAF (R115): A CAL_REQ bit 2 requests the AAF calibration under relief. -/
  | calReqAaf (fe : Fin 4)
  /-- CAL_REQ_DC (R115): A CAL_REQ bit 3 requests the DC calibration under relief. -/
  | calReqDc (fe : Fin 4)
  /-- CAL_REQ_IQ (R115): A CAL_REQ bit 4 requests the IQ calibration under relief. -/
  | calReqIq (fe : Fin 4)
  /-- CALIBRATION_OVERDUE (R115): A deferral reaches DEFER_MAX, which sets OVERDUE, latches FE_CAL_FAIL and may calibrate unrelieved. -/
  | calibrationOverdue (fe : Fin 4)
  /-- RELIEF_HAND_OVER (R119): FE3's ring has filled for 256 µs and FEk is in RX, so FE3 takes logical front end k and FEk enters RELIEVED. -/
  | reliefHandOver
  /-- RELIEVED_LANES_ENDED (R119): FEk's last own lane ends, and FEk enters CAL, or the page enters TEST. -/
  | relievedLanesEnded
  /-- RELIEF_HANDBACK (R119): FEk's ring has refilled for 256 µs after calibration, and new detections and transmissions return to FEk. -/
  | reliefHandback
  /-- RELIEF_FE3_LANES_ENDED (R119): FE3's last lane of the relief ends, and FE3 returns to STANDBY and IDLE. -/
  | reliefFe3LanesEnded
  /-- ROLE_IDLE (R117): A write of FE3.ROLE.MODE = IDLE puts FE3 on standby for relief. -/
  | roleIdle
  /-- ROLE_EXTEND (R117): A write of FE3.ROLE.MODE = EXTEND makes FE3 a fourth front end fed by SCHED3. -/
  | roleExtend
  /-- ROLE_SUBSTITUTE (R122): A write of FE3.ROLE.MODE = SUBSTITUTE makes FE3 act permanently as FEk. -/
  | roleSubstitute (k : Fin 4)
  /-- ROLE_LISTEN_THROUGH (R123): A write of FE3.ROLE.MODE = LISTEN_THROUGH makes FE3 receive FEk's span. -/
  | roleListenThrough (k : Fin 4)
  /-- LT_SATURATION (R125): FE3's ADC saturates for more than 2 µs while FEk transmits, which suspends listen-through. -/
  | ltSaturation
  /-- LT_RESUME (R125): A write of FE3.LT.RESUME clears SUSPENDED and returns reception to FE3. -/
  | ltResume
  /-- DWELL_STOP (R139): A transmission reaches DWELL ms, so the DAC mutes and the frame ends as TX_ABANDON_REG. -/
  | dwellStop (fe : Fin 4)
  /-- PROG_COMMIT (R141): A write of REGLOCK.PROG_COMMIT checks the staged image and starts blowing the next profile bank. -/
  | progCommit
  /-- PROG_BANK_DONE (R141): Bank fuse programming ends, and PROG_STATE reports the outcome. -/
  | progBankDone (ok : Bool)
  /-- COEX_GRANT (R132): A filtered COEXn_GNT rise lets a waiting frame enter RX_TX. -/
  | coexGrant (fe : Fin 4)
  /-- COEX_GNT_TIMEOUT (R132): The grant does not arrive within GNT_TIMEOUT or the slip tolerance, so the frame ends as TX_ABANDON_COEX. -/
  | coexGntTimeout (fe : Fin 4)
  /-- COEX_GNT_WITHDRAWN (R134): GNT falls during RX_TX or TX, so the DAC mutes and the frame ends as TX_ABANDON_COEX. -/
  | coexGntWithdrawn (fe : Fin 4)
  /-- BIN_ENERGY_UPDATE (R154): Every 16 µs, the 128 µs energy of every in-span bin is updated. -/
  | binEnergyUpdate (fe : Fin 4) (bins : List (Nat × Int))
  /-- DETECTION (R157): The detection engine declares a preamble on a searched channel. -/
  | detection (fe : Fin 4) (set : Fin 8) (channel metric : Nat) (rssi freq : Int) (window : Nat)
  /-- DETECTION_REOFFER (R159): A persisting preamble with no bound lane is offered again after 64 µs. -/
  | detectionReoffer (fe : Fin 4) (set : Fin 8) (channel metric : Nat) (rssi freq : Int) (window : Nat)
  /-- LANE_WAKE_DONE (R166): A bound lane's clock is running and it begins reading from its start sample. -/
  | laneWakeDone (lane : Fin 136)
  /-- PREAMBLE_LOSS (R167): The correlation stays below CORR_MIN for 8 symbols, so the frame ends as DROP_SYNC_FAIL. -/
  | preambleLoss (lane : Fin 136)
  /-- SEARCH_MAX_EXPIRY (R167): SEARCH_MAX µs of samples pass without sync, so the frame ends as DROP_SYNC_FAIL. -/
  | searchMaxExpiry (lane : Fin 136)
  /-- SYNC_MATCH (R202): A searched sync value, or the OFDM LTF end, or the O-QPSK SFD, matches and the lane enters HEADER.
Of what the lane has before it, its mode takes one: of the FSK family `last`, the last 32 received bits, the first on air in bit 0
(R202); of OFDM the end of the LTF, with the carrier offset that the correction of R166 leaves (R210, R211); of O-QPSK the chips in
error of each of the two decoded SFD symbols (R212). -/
  | syncMatch (lane : Fin 136) (last : BitVec 32) (residualHz : Int) (sfdErrors : Nat × Nat)
  /-- PHR_COMPLETE (R207): The PHR has arrived and is checked, and the lane enters PAYLOAD or the frame ends as DROP_PHR_BAD. -/
  | phrComplete (lane : Fin 136) (phr : Phr)
  /-- LAST_SYMBOL (R167): The predicted last symbol is received, and the lane enters ENDING. -/
  | lastSymbol (lane : Fin 136)
  /-- GAIN_STEP_DOWN (R173): With no lane bound, the span exceeds the gain target and the analog gain index steps down. -/
  | gainStepDown (fe : Fin 4)
  /-- GAIN_STEP_UP (R173): The target has been met with 9 dB to spare for UP_HOLD, and the gain index steps up. -/
  | gainStepUp (fe : Fin 4)
  /-- FORCED_GAIN_STEP (R174): The ADC saturates for 2 µs while lanes are bound, the gain steps down and the lanes are marked GAIN_STEP. -/
  | forcedGainStep (fe : Fin 4)
  /-- GAIN_RECOVERY (R176): The held-down time reaches RECOVER_MS, and the front end stops offering detections. -/
  | gainRecovery (fe : Fin 4)
  /-- GAIN_RECOVERY_END (R176): The gain has met its target for UP_HOLD, or 10 ms have passed, and offering restarts. -/
  | gainRecoveryEnd (fe : Fin 4)
  /-- CAPTURE_FIFO_PUSH (R183): A lane writes a PSDU octet into its capture FIFO, which the packet-buffer writer drains. -/
  | captureFifoPush (lane : Fin 136) (drain last : Bool)
  /-- LANE_WATCHDOG (R185): A lane is still bound 100 µs past its last symbol or past SEARCH_MAX, and is found faulty. -/
  | laneWatchdog (lane : Fin 136)
  /-- LANE_FAULT (R186): A faulty lane enters FAULT, its frame ends and a RESERVE lane substitutes. -/
  | laneFault (lane : Fin 136) (parity : Bool)
  /-- LANE_TEST_DONE (R186): A faulty lane's 200 µs self-test ends, and the lane enters RESERVE or RETIRED. -/
  | laneTestDone (lane : Fin 136) (passed : Bool)
  /-- LANE_SELFCHECK (R188): Every SELFCHECK seconds an idle lane runs its 20 µs self-check. -/
  | laneSelfcheck (lane : Fin 136) (passed : Bool)
  /-- TX_MOD_FAULT (R216): The modulator's two streams disagree or a parity check fails, so the DAC mutes and the frame ends as DROP_PARITY. -/
  | txModFault (fe : Fin 4) (parity : Bool)
  /-- MHR_COMPLETE (R227): A frame's MHR completes: the PAN and address checks run and the core record is read. -/
  | mhrComplete (lane : Fin 136) (mhr : Mhr) (find : Parity)
  /-- AUX_SECURITY_HEADER (R228): The auxiliary security header completes, and the security checks run and the key is resolved. -/
  | auxSecurityHeader (lane : Fin 136) (level : Nat) (suppressed : Bool) (kim keyIndex counter : Nat)
  /-- KEY_READY (R232): The frame's key becomes ready, and CCM* starts on held blocks. -/
  | keyReady (lane : Fin 136)
  /-- FRAME_VERDICT (R228): 0.8 µs after the last symbol, the frame's verdict is given, it is released to its destination and the lane is freed. -/
  | frameVerdict (lane : Fin 136) (fcsOk micOk : Bool) (figs : Figures) (body : Body)
  /-- POLL_FETCH (R242): The pending-frame fetch for a poll answer completes or is late at 60 µs, and the frame counter is taken or the empty answer chosen. -/
  | pollFetch (fe : Fin 4) (late : Bool)
  /-- ACK_VERDICT (R244): A received acknowledgement is checked and matched against the open acknowledgement wait. -/
  | ackVerdict (lane : Fin 136) (fcsOk micOk : Bool)
  /-- ACK_WAIT_EXPIRY (R244): ACK_WAIT passes without a match, so the frame is retried, stays pending or follows R31. -/
  | ackWaitExpiry (fe : Fin 4)
  /-- APPT_CHECK (R246): 10 ms before an appointment, the pending frame is queued in S2 or the appointment lapses or is skipped. -/
  | apptCheck (node : Fin 262144)
  /-- BEACON_DUE (R251): A track's beacon time arrives, and an Enhanced Beacon is built and queued in S0. -/
  | beaconDue (track : Fin 8)
  /-- PEER_BEACON (R254): A beacon from a tracked peer is authenticated and updates its LAST_HEARD, STATE and OFFSET_NS. -/
  | peerBeacon (lane : Fin 136) (fcsOk micOk : Bool) (figs : Figures) (ies : List (List Byte))
  /-- PEER_MISS (R255): A peer's expected beacon time plus PEER_TOL passes without a beacon. -/
  | peerMiss (peer : Fin 32)
  /-- SWEEPER_VISIT (R277): The sweeper visits an entry and ages HIT, STALE or PATH_VALID. -/
  | sweeperVisit
  /-- PATH_REREAD (R271): A reader that found the core and extended parts inconsistent reads them again 0.5 µs later. -/
  | pathReread
  /-- WINDOW_WRITE (R284): A host write to the core table window is applied to both copies or discarded whole. -/
  | windowWrite (off : Fin 8388608) (complete : Bool) (words : List Word)
  /-- NODE_READ (R287): The READ command copies a node's records to CMD_CORE and CMD_EXT. -/
  | nodeRead (index : Fin 262144) (find : NodeFind)
  /-- NODE_ADMIT (R287): The ADMIT command writes a new node entry. -/
  | nodeAdmit (index : Fin 262144) (find : NodeFind)
  /-- NODE_UPDATE (R287): The UPDATE command writes masked fields of an entry. -/
  | nodeUpdate (index : Fin 262144) (find : NodeFind)
  /-- NODE_REMOVE (R289): The REMOVE command zeroes a node and ends its downlink frames. -/
  | nodeRemove (index : Fin 262144) (find : NodeFind)
  /-- NODE_PIN (R287): The PIN command writes a path and sets PITON. -/
  | nodePin (index : Fin 262144) (find : NodeFind)
  /-- NODE_UNPIN (R287): The UNPIN command clears PITON. -/
  | nodeUnpin (index : Fin 262144)
  /-- NODE_SCAN_ADVANCE (R294): A MGMT SPI read of NODE.SCAN[7] advances the scan to the next VALID entry. -/
  | nodeScanAdvance
  /-- KEYS_SCAN_ADVANCE (R392): A MGMT SPI read of KEYS.SCAN[3] advances the scan to the next VALID slot. -/
  | keysScanAdvance
  /-- ETH_FRAME_HAND_ON (R427): An accepted Ethernet frame is handed to MAC control, PTP and the ingress judgement. -/
  | ethFrameHandOn (port : Fin 2)
  /-- PENDING_TIMEOUT_CHECK (R311): The 1 ms check ends pending frames older than PENDING_TIMEOUT. -/
  | pendingTimeoutCheck
  /-- REASSEMBLY_TIMEOUT (R314): A reassembly context's time-out expires and its fragments end as DROP_REASM_TIMEOUT. -/
  | reassemblyTimeout
  /-- SCHED_SELECTION (R326): A scheduler selects and commits a queue head by strict priority and deficit round-robin. -/
  | schedSelection (logical : Fin 4)
  /-- BUCKET_REFILL (R328): At each 1 ms boundary of device time, every shaper level rises by its rate. -/
  | bucketRefill
  /-- HORIZON_EXPIRY (R339): An uncommitted frame passes its queue's horizon and ends as TX_ABANDON_REG or TX_ABANDON_SLIP. -/
  | horizonExpiry (logical : Fin 4)
  /-- FRAME_ENTER_RX_TX (R336): A committed frame reaches its planned moment and its front end enters RX_TX. -/
  | frameEnterRxTx (logical : Fin 4)
  /-- LBT_BACKOFF_EXPIRY (R333): A queue's listen-before-talk back-off ends, and it becomes eligible again. -/
  | lbtBackoffExpiry (logical : Fin 4) (queue : Fin 16)
  /-- LBT_RETEST (R333): A busy timed frame is tested again at each 16 µs energy update. -/
  | lbtRetest (logical : Fin 4)
  /-- SLIP_EXPIRY (R338): A committed frame's planned first symbol plus its slip tolerance passes, and the frame ends by its last cause. -/
  | slipExpiry (logical : Fin 4)
  /-- DWELL_RUN_CLOSE (R332): A channel has not transmitted for DWELL ms, and its dwell run closes. -/
  | dwellRunClose (logical : Fin 4) (hz : Nat)
  /-- PUF_AUTO_REFRESH (R359): PUF_AGE reaches 17,532 h, or 24 h passes after PUF_ALARM, and Celley refreshes the helper data. -/
  | pufAutoRefresh (pairs disagree : BitVec 1024) (read : PufRead) (flashError : Bool)
  /-- PUF_ENROL (R355): The ENROL command gives the device a new identity in RECOVERY. -/
  | pufEnrol (entropyOk : Bool) (pairs : BitVec 1024) (read : PufRead) (flashError : Bool)
  /-- PUF_REFRESH (R359): The REFRESH command re-enrols the same keys into a new helper copy. -/
  | pufRefresh (pairs disagree : BitVec 1024) (read : PufRead) (flashError : Bool)
  /-- PUF_SWAP (R360): The SWAP command replaces an in-service SRAM PUF block with a reserve block. -/
  | pufSwap (out into : Fin 4) (read : PufRead) (flashError : Bool)
  /-- PUF_RESEAL (R365): The RESEAL command draws a new mask and a new root after MASK_LOST. -/
  | pufReseal (entropyOk : Bool) (read : PufRead) (flashError : Bool)
  /-- LC_TRANSITION (R390): An LC.CMD write with a TARGET performs a life-cycle transition. -/
  | lcTransition (target : Fin 8) (withSeal flashError : Bool)
  /-- LC_SEAL (R366): LC.CMD.SEAL seals the root, re-encrypts flash and warm-resets. -/
  | lcSeal (flashError : Bool)
  /-- LC_EXIT (R635): LC.CMD.EXIT arms leaving RECOVERY at the next warm reset. -/
  | lcExit
  /-- TRUST_UNLOCK (R376): The UNLOCK command verifies an unlock token and opens the trusted lock. -/
  | trustUnlock
  /-- TRUST_CLOSE (R375): The CLOSE command closes the trusted lock. -/
  | trustClose
  /-- TRUST_DURATION_EXPIRY (R375): TRUST.DURATION seconds pass since opening, and the lock closes. -/
  | trustDurationExpiry
  /-- KEY_LOAD (R378): The LOAD operation places a key in a slot. -/
  | keyLoad (slot : Fin 1024)
  /-- KEY_UNWRAP_LOAD (R378): The UNWRAP_LOAD operation unwraps a key into a slot. -/
  | keyUnwrapLoad (slot : Fin 1024)
  /-- KEY_DERIVE (R369): The DERIVE operation derives a child slot from a parent. -/
  | keyDerive (slot : Fin 1024) (labelLen contextLen : Fin 32)
  /-- KEY_ERASE (R378): The ERASE operation zeroizes a slot, and with FORGET removes its journal entry. -/
  | keyErase (slot : Fin 1024) (forget : Bool)
  /-- KEY_EXPORT (R379): The EXPORT operation writes a slot blob to the window. -/
  | keyExport (slot : Fin 1024) (ddrError : Bool)
  /-- KEY_IMPORT (R379): The IMPORT operation reads a slot blob into a slot. -/
  | keyImport (slot : Fin 1024) (ddrError : Bool)
  /-- KEY_WRAP_OUT (R379): The WRAP_OUT operation writes an RFC 3394 wrap of a supplied key. -/
  | keyWrapOut (slot : Fin 1024) (ddrError : Bool)
  /-- KEY_OP_DONE (R378): A FRAME_ENC key operation ends once its counter reservation is durable, and RESULT is set. -/
  | keyOpDone (durable : Bool)
  /-- CACHE_FLUSH_DONE (R383): Within 4 µs of a slot change, cache entries of the old generation are discarded and CACHE_FLUSHED latches. -/
  | cacheFlushDone (slot : Fin 1024)
  /-- JOURNAL_WRITE_DONE (R386): A counter-journal write becomes durable and CEIL takes the new ceiling, or a failure raises FLASH_ERROR and the write is retried. -/
  | journalWriteDone (slot : Fin 1024) (ok : Bool)
  /-- PATH_MISMATCH (R399): An FCE's two paths disagree on a block, so the context's work ends as a crypto fault. -/
  | pathMismatch (user : PathUser)
  /-- KNOWN_ANSWER_CHECK (R400): The known-answer check after a mismatch completes, and may start retirement. -/
  | knownAnswerCheck (engine : Fin 9) (passed : Bool)
  /-- ENGINE_DRAINED (R400): A retiring engine's last context ends, and it enters RETIRED. -/
  | engineDrained (engine : Fin 9)
  /-- CCM_ENCRYPT (R403): JOB.GO = 1 starts a CCM encryption job. -/
  | ccmEncrypt
  /-- CCM_DECRYPT (R403): JOB.GO = 2 starts a CCM decryption job. -/
  | ccmDecrypt
  /-- CCM_JOB_DONE (R403): A CCM job ends and JOB_STATUS.RESULT is set. -/
  | ccmJobDone (ddrError : Bool)
  /-- SCIPHER_XTS_ENCRYPT (R408): SCIPHER OP 1 starts an XTS encryption job. -/
  | scipherXtsEncrypt
  /-- SCIPHER_XTS_DECRYPT (R408): SCIPHER OP 2 starts an XTS decryption job. -/
  | scipherXtsDecrypt
  /-- SCIPHER_CBC_ENCRYPT (R408): SCIPHER OP 3 starts a CBC encryption job in RECOVERY. -/
  | scipherCbcEncrypt
  /-- SCIPHER_CBC_DECRYPT (R408): SCIPHER OP 4 starts a CBC decryption job in RECOVERY. -/
  | scipherCbcDecrypt
  /-- SCIPHER_CTR (R408): SCIPHER OP 5 starts a CTR job in RECOVERY. -/
  | scipherCtr
  /-- SCIPHER_CFB_ENCRYPT (R408): SCIPHER OP 6 starts a CFB-128 encryption job in RECOVERY. -/
  | scipherCfbEncrypt
  /-- SCIPHER_CFB_DECRYPT (R408): SCIPHER OP 7 starts a CFB-128 decryption job in RECOVERY. -/
  | scipherCfbDecrypt
  /-- SCIPHER_JOB_DONE (R408): A SCIPHER job ends and SCIPHER_DONE latches. -/
  | scipherJobDone (ddrError : Bool)
  /-- PKE_VERIFY_P256 (R410): PKE OP 1 starts an ECDSA P-256 verification. -/
  | pkeVerifyP256 (hashIn : Bool) (slot : Fin 1024)
  /-- PKE_VERIFY_P384 (R410): PKE OP 2 starts an ECDSA P-384 verification. -/
  | pkeVerifyP384 (hashIn : Bool) (slot : Fin 1024)
  /-- PKE_VERIFY_ED25519 (R410): PKE OP 3 starts an Ed25519 verification. -/
  | pkeVerifyEd25519 (hashIn : Bool) (slot : Fin 1024)
  /-- PKE_PAIR_PUBLIC (R409): PKE OP 4 computes the pairing public key. -/
  | pkePairPublic (hashIn : Bool) (slot : Fin 1024)
  /-- PKE_PAIR_ECDH (R411): PKE OP 5 requests the pairing ECDH. -/
  | pkePairEcdh (hashIn : Bool) (slot : Fin 1024)
  /-- PKE_DONE (R409): A PKE operation ends, its result is set and PKE_DONE latches. -/
  | pkeDone (ddrError fault : Bool)
  /-- ETH_LINK_CHANGE (R422): A port's link goes up or down, which latches ETH_LINK. -/
  | ethLinkChange (port : Fin 2) (los sync anDone fullDuplex remote partnerPause partnerAsm : Bool) (speed : Fin 4)
  /-- ETH_FRAME_END (R426): A reception ends and is judged runt, giant, bad FCS or out of staging space, or accepted.
`since` is the time in ns since the reception began, `stampAgo` that since its timestamp point in 2^-16 ns. -/
  | ethFrameEnd (port : Fin 2) (size : Nat) (fcsOk codeError : Bool) (since stampAgo : Nat) (frame : EthFrame)
  /-- PAUSE_TIMER_EXPIRY (R433): The peer's pause timer expires, and waiting frames may start. -/
  | pauseTimerExpiry (port : Fin 2)
  /-- EGRESS_OFFER (R431): A frame is offered to a port and its egress hold time-out starts. -/
  | egressOffer (port : Fin 2)
  /-- EGRESS_FRAME_START (R430): The next complete frame starts on an idle port. -/
  | egressFrameStart (port : Fin 2)
  /-- EGRESS_FRAME_END (R430): A frame's last octet leaves the port. -/
  | egressFrameEnd (port : Fin 2)
  /-- EGRESS_HOLD_TIMEOUT (R431): A frame has not started within EGRESS_HOLD, so it ends as DROP_RING_FULL. -/
  | egressHoldTimeout (port : Fin 2)
  /-- BUFFER_HIGH (R435): The downlink buffer level reaches HIGH, which latches and sends a PAUSE to the peer. -/
  | bufferHigh (port : Fin 2)
  /-- PAUSE_REPEAT (R435): Half the last pause time elapses while the level stays above LOW, and PAUSE is sent again. -/
  | pauseRepeat (port : Fin 2)
  /-- BUFFER_LOW (R435): The level falls to LOW, a pause-0 frame is sent and PAUSING_PEER clears. -/
  | bufferLow (port : Fin 2)
  /-- PAUSE_MAX_HOLD (R435): PAUSING_PEER has lasted MAX_HOLD ms, so the port sends pause-0 and gives up. -/
  | pauseMaxHold (port : Fin 2)
  /-- SFP_MOD_ABS_CHANGE (R438): ETHn_MOD_ABS is stable for 1 ms, and the module is present or removed. -/
  | sfpModAbsChange (port : Fin 2) (absent : Bool)
  /-- SFP_ID_READ (R438): 300 ms after presence, the module's identification octets are read and their checksums checked. -/
  | sfpIdRead (port : Fin 2) (octets : List Byte)
  /-- SFP_DDM_POLL (R438): Every second, DDM octets are read into SFP_DDM. -/
  | sfpDdmPoll (port : Fin 2) (octets : List Byte)
  /-- SFP_LOS_CHANGE (R438): The filtered ETHn_LOS changes, and SFP_CHANGE latches. -/
  | sfpLosChange (port : Fin 2) (level : Bool)
  /-- SFP_ACCESS (R439): A write to SFP.ACCESS starts a host I2C transaction to the module. -/
  | sfpAccess (port : Fin 2) (data : Word)
  /-- SFP_ACCESS_DONE (R439): The module access ends with its result. -/
  | sfpAccessDone (port : Fin 2) (nack timeout : Bool) (octet : Byte)
  /-- SFP_NACK_RETRY (R437): A NACKed module transaction is retried 10 ms later, up to 3 times. -/
  | sfpNackRetry (port : Fin 2)
  /-- ETH_OCTET_LO_READ (R443): A read of a main octet counter's LO word returns the low half, clears the counter and latches HI. -/
  | ethOctetLoRead (route : Route) (port : Fin 2) (tx : Bool)
  /-- RMON_LO_READ (R444): A read of an RMON counter's LO word latches its HI snapshot. -/
  | rmonLoRead (route : Route) (port : Fin 2) (counter : Fin 39)
  /-- INCR_HI_WRITE (R450): A write to TIME.INCR_HI applies the staged increment pair, or is rejected as RANGE. -/
  | incrHiWrite (route : Route) (data : Word)
  /-- TIME_NOW_READ (R451): A read of TIME.NOW[0] latches a snapshot of device time. -/
  | timeNowRead
  /-- MESH_NOW_READ (R451): A read of MESH_NOW[0] latches a snapshot of mesh time. -/
  | meshNowRead
  /-- PPS_IN_TS_READ (R451): A read of PPS_IN_TS[0] latches the timestamp snapshot. -/
  | ppsInTsRead
  /-- TIME_SET (R452): The SET command loads device time at the next cycle. -/
  | timeSet (route : Route) (meshHold : Bool)
  /-- TIME_ADJUST (R452): The ADJUST command adds ADJ_NS to device time at the next cycle. -/
  | timeAdjust (route : Route) (meshHold : Bool)
  /-- HOLDOVER (R455): HOLDOVER_S passes without an INCR_HI or CMD write, and holdover begins. -/
  | holdover
  /-- PPS_IN_EDGE (R457): A filtered PPS_IN edge is timestamped and accepted or counted as bad. -/
  | ppsInEdge (ago : Nat)
  /-- PPS_IN_LOST (R457): 1.5 s pass without an accepted edge, and PPS_IN_LOST latches. -/
  | ppsInLost
  /-- PPS_OUT_PULSE (R458): Device time passes a whole second plus OFFSET_NS, and a PPS_OUT pulse starts. -/
  | ppsOutPulse
  /-- PPS_OUT_PULSE_END (R458): The pulse width elapses, and PPS_OUT returns. -/
  | ppsOutPulseEnd
  /-- MESH_OFFSET_WRITE (R459): A write to MESH.OFFSET_HI applies the staged mesh offset. -/
  | meshOffsetWrite (data : Word)
  /-- TSQ_POP (R468): A read of TSQ[n][4] removes the head entry of the transmit timestamp queue. -/
  | tsqPop (port : Fin 2)
  /-- PCIE_FUNCTION_RESET (R477): PERST_N low, a hot reset or an FLR resets the configuration space and ends a running copy. -/
  | pcieFunctionReset (perst : Bool)
  /-- PCIE_CONFIG_READY (R477): 80 ms after PERST_N rises, the configuration space stops answering with retry status. -/
  | pcieConfigReady
  /-- PCIE_LINK (R481): The Data Link Layer goes up or down, which latches PCIE_LINK and masks or releases the vectors. -/
  | pcieLink (up : Bool) (speed width : Nat) (busMaster : Bool)
  /-- BAR2_ACCESS (R479): A host access through BAR2 reaches DDR through the storage cipher. -/
  | bar2Access (access : Bar2) (ecc : Ecc)
  /-- COPY_TO_HOST (R482): COPY.GO = 1 starts a copy from the window to host memory. -/
  | copyToHost
  /-- COPY_FROM_HOST (R482): COPY.GO = 2 starts a copy from host memory into the window. -/
  | copyFromHost
  /-- COPY_CPL_TIMEOUT (R482): A read request's completion does not arrive within 50 ms, and the copy stops. -/
  | copyCplTimeout (octets : List Byte) (moved : Nat)
  /-- COPY_DONE (R482): A copy ends, and RESULT is set. -/
  | copyDone (how : CopyHow) (octets : List Byte) (moved : Nat)
  /-- RING_ENABLE (R484): A write of RING[r].CFG.ENABLE 0→1 initialises the tally bytes and enables the ring. -/
  | ringEnable (ring : Fin 32)
  /-- RING_HAND_OVER (R493): A packet is handed to a receive ring and claims slots or waits. -/
  | ringHandOver (ecc : Bool)
  /-- RING_FILL_DONE (R492): A claimed slot is filled and its tally set to HOST, so the packet ends as OK_DELIVERED. -/
  | ringFillDone (ring : Fin 32) (payload : List Byte)
  /-- RING_TIMEOUT (R493): A waiting packet's ring time-out expires, and it ends as DROP_RING_FULL. -/
  | ringTimeout (ring : Fin 32)
  /-- HOST_TALLY_WRITE (R490): A host write into a tally array is checked octet by octet and may free or hand over slots. -/
  | hostTallyWrite (ring : Fin 32) (slot : Nat) (octets : List (Option Byte))
  /-- TX_SLOT_TAKE (R495): The controller takes a DEVICE transmit slot, copies it and checks it. -/
  | txSlotTake (ring : Fin 32) (lost : SlotLoss)
  /-- NOTICE_POP (R502): A read of NOTICE.POP_LO pops one item and latches POP_HI. -/
  | noticePop
  /-- HOSTIF_WARM_RESET (R503): A write of 0xC3A5 to HOSTIF.WARM_RESET causes a warm reset. -/
  | hostifWarmReset
  /-- DDR_ALERT (R515): DDR_ALERT_N asserts, and the failed command is repeated once. -/
  | ddrAlert (addr : Fin 17179869184) (again : Bool)
  /-- SRAM_SCRUB_PASS (R518): Every 60 s, the SRAM scrubber makes a pass of pair compares and parity reads. -/
  | sramScrubPass (finds : List SramFind)
  /-- DDR_SCRUB (R518): The DDR scrubber reads the next line at its pass rate. -/
  | ddrScrub (ecc : Ecc)
  /-- FILL_CHUNK_DONE (R521): A 64 MiB fill chunk ends, stalled accesses to it complete and the next chunk is chosen. -/
  | fillChunkDone
  /-- DDR_TRAINING_DONE (R530): DDR training ends, and the DDR page enters RUN or, after a second failure, FAULT. -/
  | ddrTrainingDone (ok : Bool) (sizeGib : Nat) (twoRanks : Bool)
  /-- TEST_WRITE (R526): TEST.GO OP 1 writes DATA to the test location through the normal path. -/
  | testWrite (route : Route)
  /-- TEST_FLIP_DATA (R526): TEST.GO OP 2 XORs DATA into the stored data bits. -/
  | testFlipData (route : Route)
  /-- TEST_FLIP_CHECK (R526): TEST.GO OP 3 XORs CHECK into the stored check or parity bits. -/
  | testFlipCheck (route : Route)
  /-- TEST_READ (R526): TEST.GO OP 4 reads through the normal path and reports the outcome. -/
  | testRead (route : Route)
  /-- TEST_READ_RAW (R526): TEST.GO OP 5 returns the stored bits without correction. -/
  | testReadRaw (route : Route)
  /-- FLASH_TIMEOUT (R523): A flash operation exceeds TIMEOUT_MS, and FLASH_ERROR latches. -/
  | flashTimeout (sector : Nat)
  /-- FWUP_INSTALL (R540): The INSTALL command verifies and writes a staged package to the inactive partition. -/
  | fwupInstall
  /-- INSTALL_DONE (R540): The stored package passes its second check, so INACTIVE becomes READY and UPDATE_READY latches. -/
  | installDone (failures : Nat) (erase : Bool)
  /-- FWUP_ACTIVATE_LIVE (R542): The ACTIVATE_LIVE command starts the new Celley on the idle core. -/
  | fwupActivateLive (readBack : Bool)
  /-- LIVE_EPOCH_HANDOVER (R542): At the next epoch boundary the active core quiesces and the new core adopts the supervisor role. -/
  | liveEpochHandover (pauseUs : Nat)
  /-- FWUP_ACTIVATE_AT_RESET (R541): The ACTIVATE_AT_RESET command writes a TRIAL activation record for the next reset. -/
  | fwupActivateAtReset
  /-- FWUP_CONFIRM (R551): The CONFIRM command blows rollback fuses and confirms the trial. -/
  | fwupConfirm
  /-- FWUP_REVERT (R553): The REVERT command returns to the previous set at the next reset. -/
  | fwupRevert
  /-- FWUP_STORE_PROFILE (R548): The STORE_PROFILE command checks and stores a settings profile. -/
  | fwupStoreProfile (run : SectorRun)
  /-- OWNER_COSIGN_WRITE (R555): A write of 1 to POLICY.OWNER_COSIGN with the lock open blows the fuse. -/
  | ownerCosignWrite
  /-- HANDOVER_RECORD (R544): At every epoch boundary, the idle core receives the active core's hand-over record. -/
  | handoverRecord
  /-- SUPERVISOR_CORE_FAULT (R544): The active core stops, and the idle core adopts the last record within 250 µs. -/
  | supervisorCoreFault (core : Fin 2) (pauseUs : Nat)
  /-- CORE_RELOAD_DONE (R544): A stopped core's reload and SRAM test end, and it becomes IDLE or is retired. -/
  | coreReloadDone (passed : Bool)
  /-- TRIAL_EXPIRY (R551): TRIAL_LEFT reaches 0, and CONFIRM_DUE latches. -/
  | trialExpiry
  /-- TRIAL_RECORD_REWRITE (R534): Every 3,600 powered seconds in TRIAL, the activation record is rewritten with TRIAL_ELAPSED. -/
  | trialRecordRewrite
  /-- MICROCODE_LOAD_DONE (R546): A reserve lane finishes loading new microcode and replaces an old in-service lane. -/
  | microcodeLoadDone (lane : Fin 136)
  /-- DISSEM_SETUP (R559): The SETUP command encodes a campaign's source into intermediate symbols. -/
  | dissemSetup (campaign : Fin 16)
  /-- SETUP_DONE (R559): SETUP ends, and the campaign enters READY. -/
  | setupDone (ddrError : Bool)
  /-- DISSEM_START (R562): The START command puts a READY campaign in RUNNING. -/
  | dissemStart (campaign : Fin 16)
  /-- DISSEM_STOP (R568): The STOP command ends a campaign as STOPPED. -/
  | dissemStop (campaign : Fin 16)
  /-- DISSEM_ABORT (R568): The ABORT command ends a campaign as ABORTED and stops its frames. -/
  | dissemAbort (campaign : Fin 16)
  /-- DISSEM_CLEAR (R570): The CLEAR command returns a campaign to IDLE. -/
  | dissemClear (campaign : Fin 16)
  /-- DISSEM_EXPORT (R570): The EXPORT command copies a campaign's progress table to the window. -/
  | dissemExport (campaign : Fin 16) (ddrError : Bool)
  /-- WINDOW_PLAN (R566): LEAD ticks before a nominal window start, the window is planned and an announcement is queued. -/
  | windowPlan (campaign : Fin 16) (logical : Fin 4)
  /-- WINDOW_OPEN (R566): Mesh time reaches a planned window start, so WINDOW.OPEN sets and CAMPAIGN_WINDOW latches. -/
  | windowOpen (campaign : Fin 16) (logical : Fin 4) (sourceError : Bool)
  /-- WINDOW_CLOSE (R567): The window ends, and uncommitted symbol frames end as TX_ABANDON_SLIP. -/
  | windowClose (campaign : Fin 16) (logical : Fin 4)
  /-- BELAY_HEARTBEAT_SEND (R580): Every 250 µs, a HEARTBEAT record is sent to the partner. -/
  | belayHeartbeatSend
  /-- BELAY_HEARTBEAT_RX (R580): An authenticated heartbeat from the partner updates health, acknowledgements and partner time. -/
  | belayHeartbeatRx (role health ack seq : Nat) (partnerNs : Int)
  /-- ATTACH_ACTIVATE (R586): The future active's raised ceilings become durable, and it raises ACT_OUT and resynchronises the standby. -/
  | attachActivate
  /-- PARTNER_LOST (R580): 1 ms passes without an authenticated heartbeat, so the partner is lost and a non-active member enters WAITING. -/
  | partnerLost
  /-- LONE_CEILING_WAIT (R584): 5 ms after PARTNER_LOST, the active may extend ceilings alone. -/
  | loneCeilingWait
  /-- BELAY_LANE_FAIL (R578): The record lane fails, and the sender moves to the spare lane and resends. -/
  | belayLaneFail (lane : Fin 2)
  /-- BELAY_HELLO (R581): A HELLO is received, the partner pin is checked and the session key is derived. -/
  | belayHello (die : BitVec 64) (pub : List Byte) (nonce role : Nat) (prefer : Bool)
  /-- BELAY_RECORD_RX (R579): A protected belay record is authenticated and applied in SEQ order. -/
  | belayRecordRx (seq : Nat) (inOrder ok : Bool) (record : RopeRec) (euis : List Nat)
  /-- BELAY_RECORD_RESEND (R579): A record unacknowledged 1 ms after sending is sent again. -/
  | belayRecordResend
  /-- REPLAY_MIRROR (R582): Every 50 ms, the active sends REPLAY records of changed entries. -/
  | replayMirror
  /-- GIVE_UP_TIMER (R588): Masked health conditions have held for GIVE_UP_MS with a healthy standby, so the active relinquishes. -/
  | giveUpTimer
  /-- ROPE_RELINQUISH (R588): The RELINQUISH command gives up control to a healthy standby. -/
  | ropeRelinquish
  /-- ROPE_FORCE_TAKEOVER (R592): The FORCE_TAKEOVER command raises journal ceilings by FORCE_SKIP in WAITING. -/
  | ropeForceTakeover
  /-- FORCE_TAKEOVER_DURABLE (R592): The forced ceilings are durable, and the member raises ACT_OUT and enters ACTIVE. -/
  | forceTakeoverDurable (ok : Bool)
  /-- PARTNER_ACT_FALL (R589): A standby sees PARTNER_ACT_IN fall, and adopts S as TXCNT for every key. -/
  | partnerActFall
  /-- TAKEOVER_DELAY_EXPIRY (R589): TAKEOVER_US after the edge, the standby raises ACT_OUT and enters ACTIVE. -/
  | takeoverDelayExpiry
  /-- TX_MUTE_TIMER (R590): 1.5 ms after ACT_OUT falls, every TX DAC of the relinquishing controller mutes. -/
  | txMuteTimer
  /-- PARTNER_ACT_RISE (R590): The relinquishing controller sees PARTNER_ACT_IN rise, releases its lines and enters SYNCING or WAITING. -/
  | partnerActRise
  /-- RECLAIM_TIMER (R590): PARTNER_ACT_IN has not risen by 3,100 µs, so the controller re-enters ACTIVE. -/
  | reclaimTimer
  /-- DUAL_ACTIVE (R591): Both controllers are ACTIVE, and the loser of R585 relinquishes. -/
  | dualActive
  /-- RETIRE_FE (R601): A write of RESERVE.RETIRE_FE retires a front end in FAULT or STOPPED. -/
  | retireFe (route : Route) (data : Word)
  /-- WEAR_SAMPLE (R603): Every 10 ms, thermal and transmit wear monitors accrue consumption. -/
  | wearSample
  /-- WEAR_OSCILLATOR_MEASURE (R602): Every 24 h, the stressed ring oscillators are measured. -/
  | wearOscillatorMeasure (l0 l1 l2 l3 : Nat)
  /-- WEAR_CHECKPOINT (R604): Every 3,600 powered seconds, POWERED_S and the wear counters are checkpointed. -/
  | wearCheckpoint
  /-- TAMPER_MESH (R605): An active mesh mismatch is detected and the tamper response runs. -/
  | tamperMesh (sensor : Fin 2)
  /-- TAMPER_SWITCH (R605): A tamper switch leaves its normal level and the tamper response runs. -/
  | tamperSwitch (sensor : Fin 2)
  /-- TAMPER_ENV (R605): A temperature or supply-glitch detection triggers the tamper response. -/
  | tamperEnv (glitch : Bool)
  /-- CAIRN_RECORD_WRITE (R609): A queued cairn log record is written within 2 ms of its cause. -/
  | cairnRecordWrite
  /-- NOTE_GO (R611): A write of CAIRN.NOTE_GO writes a NOTE record. -/
  | noteGo
  /-- CAIRN_REC_READ (R612): A read of CAIRN.REC[0] latches the record at SEL. -/
  | cairnRecRead
  /-- KEY_MIRROR_DONE (R614): The key mirror is complete, DDR enters self-refresh and parts outside the profile power down. -/
  | keyMirrorDone
  /-- BIVOUAC_ENTERED (R614): BIVOUAC.STATE reads BIVOUAC and BIVOUAC_ENTERED latches. -/
  | bivouacEntered
  /-- BIVOUAC_EXITED (R616): The restarted parts are back, STATE reads NORMAL and BIVOUAC_EXITED latches. -/
  | bivouacExited
  /-- DEEP_AFTER_EXPIRY (R617): DEEP_AFTER seconds of bivouac pass, and the controller enters deep hold. -/
  | deepAfterExpiry
  /-- DEEP_NOW_SET (R617): A write of BIVOUAC.DEEP_NOW = 1 enters deep hold. -/
  | deepNowSet
  /-- DEEP_NOW_CLEAR (R617): A write of BIVOUAC.DEEP_NOW = 0 returns from deep hold to bivouac. -/
  | deepNowClear
  /-- POWER_ON_RESET (R622): VDD_CORE rises from below 0.1 V with the always-on domain kept. -/
  | powerOnReset
  /-- RST_N (R623): RST_N low after its filter causes a warm reset. -/
  | rstN
  /-- START_CLOCKS_LOCKED (R626): REFCLK passes the coarse check and the PLLs lock, and the start runs fill, root, fuses, manifest, Celley and settings. -/
  | startClocksLocked (puf : PufRead) (entropyOk flashError : Bool) (pairs : BitVec 1024) (cs0Log2 cs1Log2 : Nat) (readBack : Bool)
  /-- START_RUN (R626): The first fine gate after step 2 completes, BOOT_FAILS is written 0 and STAGE reads RUN. -/
  | startRun
  /-- REQ_WARM_RESET (R632): A signed WARM_RESET request causes a warm reset. -/
  | reqWarmReset
  /-- REQ_ENTER (R632): A signed ENTER request arms base camp for the next start. -/
  | reqEnter
  /-- REQ_EXIT (R635): A signed EXIT request arms leaving base camp. -/
  | reqExit
  /-- REQ_CLEAR_TAMPER (R634): A signed CLEAR_TAMPER request clears TAMPER_STATUS and writes a NOTE record. -/
  | reqClearTamper (breach : Fin 256)
  /-- REQ_REVERT (R632): A signed REVERT request acts as FWUP REVERT in base camp. -/
  | reqRevert
  /-- SUPPLY_CONDITION_CLEAR (R51): A rail that was beyond its low or high warning threshold returns past it by the hysteresis for the 2 µs filter, and the warning condition clears. -/
  | supplyConditionClear (rail : Fin 10) (high : Bool)
  /-- TAMPER_DOMAIN_SUPPLY_LOSS (R363): Both tamper-domain supplies stay interrupted for 15 ms ± 5 ms, and the domain's own loss detector clears the mask. -/
  | tamperDomainSupplyLoss
  /-- BELAY_BLOCK_LOCK (R578): A belay lane gains block lock, so the lane becomes usable and pairing begins with a HELLO. -/
  | belayBlockLock (lane : Fin 2)
deriving DecidableEq, Repr

end Sys2Proof
end

