-- ==== Sys2Proof/Decode.lean ====
section
/-! DEFINITION. The command that a word spells by the bits of spec/opcode_table.json. No row of that table gives
bits: a command reaches the block through its registers, its pins and its own sequencers, so no word spells one. -/

namespace Sys2Proof

/-- The command spelt by an `nbits` wide word `w`: none, since no row of the table has an encoding. -/
def decodeTableWord (nbits w : Nat) : Option Instr :=
  match nbits, w with
  | _, _ => none

end Sys2Proof
end

