-- ==== Sys2Proof/Machine/Field.lean ====
section
/-! DEFINITION. What a register field is: where it lies, how it is accessed (R9), what it holds after reset,
which resets keep it (R622), which values a write may give it and in which page states (R76). Also the facts of
the page map (R86) and of the event source table (R104, R103) that decide reset values. -/

namespace Sys2Proof.Machine

/-- The access types of R9. -/
inductive Access where
  | ro | rw | rw1c | wo | rc | rwl | rws
deriving DecidableEq, Repr

/-- What keeps a field over the resets of R622. -/
inductive Life where
  | ordinary     -- cleared by every device reset
  | rws          -- kept by a warm reset only (R9)
  | alwaysOn     -- kept by every reset but an always-on power-on
  | tamper       -- held by the tamper domain over every reset
  | nonvolatile  -- fuses, the cairn log, flash records and checkpoints
deriving DecidableEq, Repr

/-- The values a write may give a field (R76, RANGE). -/
inductive Lim where
  | any
  | range (lo hi : Nat)
  | signed (lo hi : Int)
  | oneOf (vs : List Nat)
  | aligned (bits : Nat)
  | multiple (m lo hi : Nat)
  | phyMode
deriving DecidableEq, Repr

/-- The page states in which a write may change a field (R76, STATE). -/
inductive Gate where
  | always | off | offOrStopped
deriving DecidableEq, Repr

/-- One register field: its page index (R86; BAR4 of R377 stands as pages 0x80 to 0x83), word offset, lowest bit,
width, access type, reset value, the resets that keep it, and the limits of a write. -/
structure Field where
  page  : Nat
  off   : Nat
  lo    : Nat
  width : Nat
  acc   : Access
  reset : Nat
  life  : Life
  lim   : Lim
  gate  : Gate
deriving DecidableEq, Repr

/-- A number for each `Life`, the topmost part of a field's key. -/
def Life.code : Life → Nat
  | .ordinary => 0
  | .rws => 1
  | .alwaysOn => 2
  | .tamper => 3
  | .nonvolatile => 4

/-- The key a field is stored under: what keeps it, its page, offset and lowest bit. -/
def Field.key (f : Field) : Nat :=
  ((f.life.code * 256 + f.page % 256) * 16384 + f.off % 16384) * 32 + f.lo % 32

/-- The life code a key carries. -/
def keyLife (k : Nat) : Nat := k / (32 * 16384 * 256)

/-- The page a key carries. -/
def keyPage (k : Nat) : Nat := k / (32 * 16384) % 256

/-- The head-only pages of R86. -/
def headOnly (pg : Nat) : Bool :=
  pg ∈ [0x00, 0x01, 0x02, 0x03, 0x04, 0x05, 0x06, 0x0C, 0x12, 0x13, 0x14, 0x3A, 0x3B, 0x42, 0x4E]

/-- The pages of the page map (R86). -/
def isPage (pg : Nat) : Bool :=
  headOnly pg || pg ∈ [0x08, 0x09, 0x0A, 0x0B, 0x0D, 0x10, 0x11, 0x18, 0x19, 0x1A, 0x1B, 0x20, 0x21, 0x22, 0x24,
    0x25, 0x26, 0x27, 0x28, 0x29, 0x30, 0x31, 0x32, 0x33, 0x38, 0x39, 0x3C, 0x3D, 0x40, 0x41, 0x44, 0x45, 0x46,
    0x48, 0x4A, 0x4C]

/-- The instance number of a page within its block (R74). -/
def pageInstance (pg : Nat) : Nat :=
  if 0x08 ≤ pg ∧ pg ≤ 0x0B then pg - 0x08
  else if 0x12 ≤ pg ∧ pg ≤ 0x14 then pg - 0x12
  else if 0x24 ≤ pg ∧ pg ≤ 0x27 then pg - 0x24
  else if 0x38 ≤ pg ∧ pg ≤ 0x39 then pg - 0x38
  else if 0x3A ≤ pg ∧ pg ≤ 0x3B then pg - 0x3A
  else 0

/-- PAGE_ID.BLOCK: 0x2A00 plus the index of the block's first page (R74). -/
def pageBlock (pg : Nat) : Nat := 0x2A00 + (pg - pageInstance pg)

/-- The event group of a page (R86). -/
def pageGroup (pg : Nat) : Nat :=
  if pg ∈ [0x01, 0x02, 0x03, 0x06] then 0
  else if pg ∈ [0x08, 0x09, 0x0A, 0x0B, 0x0C, 0x0D] then 1
  else if pg ∈ [0x10, 0x11, 0x12, 0x13, 0x14, 0x18] then 2
  else if pg ∈ [0x19, 0x1A, 0x1B, 0x20] then 3
  else if pg ∈ [0x21, 0x22, 0x24, 0x25, 0x26, 0x27, 0x28, 0x29] then 4
  else if pg ∈ [0x30, 0x31, 0x32, 0x33] then 5
  else if pg ∈ [0x38, 0x39, 0x3A, 0x3B, 0x3C, 0x3D] then 6
  else 7

/-- A run of sources of the event source table (R104): first source, first page, number of pages (one source a
page), page bit, mask reset value. -/
structure SourceRow where
  src   : Nat
  page  : Nat
  count : Nat
  bit   : Nat
  mask  : Nat
deriving DecidableEq, Repr

/-- The event source table of R104 (sources 32g + 29 to 32g + 31 follow R98). -/
def sourceTable : List SourceRow :=
  [⟨0, 0x02, 1, 0, 1⟩, ⟨1, 0x02, 1, 1, 1⟩, ⟨2, 0x02, 1, 2, 1⟩, ⟨3, 0x02, 1, 3, 1⟩, ⟨4, 0x02, 1, 4, 1⟩,
   ⟨5, 0x02, 1, 5, 1⟩, ⟨6, 0x02, 1, 6, 1⟩, ⟨7, 0x01, 1, 0, 1⟩, ⟨8, 0x01, 1, 1, 1⟩, ⟨9, 0x03, 1, 0, 1⟩,
   ⟨10, 0x03, 1, 1, 1⟩, ⟨11, 0x03, 1, 2, 1⟩, ⟨12, 0x03, 1, 3, 1⟩, ⟨13, 0x03, 1, 4, 1⟩, ⟨14, 0x03, 1, 5, 1⟩,
   ⟨15, 0x03, 1, 6, 1⟩, ⟨16, 0x03, 1, 7, 1⟩, ⟨17, 0x06, 1, 0, 0⟩, ⟨18, 0x06, 1, 1, 0⟩,
   ⟨32, 0x08, 4, 0, 1⟩, ⟨36, 0x08, 4, 1, 1⟩, ⟨40, 0x08, 4, 2, 1⟩, ⟨44, 0x08, 4, 3, 0⟩] ++
  [⟨48, 0x0C, 1, 0, 0⟩, ⟨49, 0x0C, 1, 1, 1⟩, ⟨50, 0x0C, 1, 2, 0⟩, ⟨51, 0x0D, 1, 0, 1⟩, ⟨52, 0x0D, 1, 1, 1⟩,
   ⟨64, 0x10, 1, 0, 0⟩, ⟨65, 0x10, 1, 1, 0⟩, ⟨66, 0x10, 1, 2, 0⟩, ⟨67, 0x11, 1, 0, 0⟩, ⟨68, 0x11, 1, 1, 0⟩,
   ⟨69, 0x11, 1, 2, 1⟩, ⟨70, 0x11, 1, 3, 1⟩, ⟨71, 0x11, 1, 4, 1⟩, ⟨72, 0x11, 1, 5, 1⟩, ⟨73, 0x11, 1, 6, 0⟩,
   ⟨74, 0x18, 1, 0, 1⟩, ⟨75, 0x18, 1, 1, 0⟩,
   ⟨96, 0x19, 1, 0, 1⟩, ⟨97, 0x19, 1, 1, 1⟩, ⟨98, 0x19, 1, 2, 0⟩, ⟨99, 0x19, 1, 3, 0⟩, ⟨100, 0x19, 1, 4, 0⟩,
   ⟨101, 0x19, 1, 5, 0⟩, ⟨102, 0x1A, 1, 0, 1⟩, ⟨103, 0x1A, 1, 1, 0⟩, ⟨104, 0x1A, 1, 2, 1⟩, ⟨105, 0x1A, 1, 3, 1⟩] ++
  [⟨106, 0x1B, 1, 0, 0⟩, ⟨107, 0x20, 1, 0, 0⟩, ⟨108, 0x20, 1, 1, 0⟩, ⟨109, 0x20, 1, 2, 0⟩, ⟨110, 0x20, 1, 3, 0⟩,
   ⟨111, 0x20, 1, 4, 0⟩, ⟨128, 0x24, 4, 0, 1⟩, ⟨132, 0x24, 4, 1, 0⟩, ⟨136, 0x28, 1, 0, 0⟩, ⟨137, 0x29, 1, 0, 1⟩,
   ⟨138, 0x29, 1, 1, 0⟩, ⟨139, 0x29, 1, 2, 1⟩, ⟨140, 0x21, 1, 0, 0⟩, ⟨141, 0x21, 1, 1, 0⟩, ⟨142, 0x21, 1, 2, 0⟩,
   ⟨143, 0x22, 1, 0, 0⟩, ⟨144, 0x22, 1, 1, 0⟩, ⟨160, 0x30, 1, 0, 0⟩, ⟨161, 0x30, 1, 1, 0⟩, ⟨162, 0x30, 1, 2, 1⟩,
   ⟨163, 0x30, 1, 3, 1⟩, ⟨164, 0x30, 1, 4, 0⟩, ⟨165, 0x31, 1, 0, 1⟩, ⟨166, 0x31, 1, 1, 1⟩, ⟨167, 0x31, 1, 2, 1⟩,
   ⟨168, 0x32, 1, 0, 1⟩, ⟨169, 0x32, 1, 1, 0⟩, ⟨170, 0x33, 1, 0, 0⟩, ⟨171, 0x33, 1, 1, 1⟩] ++
  [⟨192, 0x38, 2, 0, 1⟩, ⟨194, 0x38, 2, 1, 0⟩, ⟨196, 0x38, 2, 2, 1⟩, ⟨198, 0x38, 2, 3, 1⟩, ⟨200, 0x38, 2, 4, 0⟩,
   ⟨202, 0x3A, 2, 0, 1⟩, ⟨204, 0x3C, 1, 0, 0⟩, ⟨205, 0x3C, 1, 1, 1⟩, ⟨206, 0x3C, 1, 2, 1⟩, ⟨207, 0x3C, 1, 3, 0⟩,
   ⟨208, 0x3D, 1, 0, 1⟩, ⟨209, 0x3D, 1, 1, 1⟩, ⟨210, 0x3D, 1, 2, 1⟩, ⟨224, 0x40, 1, 0, 1⟩, ⟨225, 0x40, 1, 1, 1⟩,
   ⟨226, 0x40, 1, 2, 1⟩, ⟨227, 0x41, 1, 0, 1⟩, ⟨228, 0x41, 1, 1, 0⟩, ⟨229, 0x42, 1, 0, 1⟩, ⟨230, 0x4C, 1, 0, 1⟩,
   ⟨231, 0x44, 1, 0, 0⟩, ⟨232, 0x44, 1, 1, 1⟩, ⟨233, 0x45, 1, 0, 1⟩, ⟨234, 0x46, 1, 0, 0⟩, ⟨235, 0x46, 1, 1, 1⟩,
   ⟨236, 0x46, 1, 2, 0⟩, ⟨237, 0x46, 1, 3, 1⟩, ⟨238, 0x48, 1, 0, 1⟩, ⟨239, 0x48, 1, 1, 1⟩, ⟨240, 0x48, 1, 2, 1⟩] ++
  [⟨241, 0x4A, 1, 0, 1⟩, ⟨242, 0x4A, 1, 1, 1⟩, ⟨243, 0x4A, 1, 2, 1⟩, ⟨244, 0x4A, 1, 3, 1⟩, ⟨245, 0x05, 1, 0, 1⟩,
   ⟨246, 0x05, 1, 1, 1⟩, ⟨247, 0x05, 1, 2, 1⟩, ⟨248, 0x4E, 1, 0, 0⟩, ⟨249, 0x4E, 1, 1, 0⟩, ⟨250, 0x4E, 1, 2, 0⟩]

/-- Whether a row of the source table lies on page `pg`. -/
def SourceRow.onPage (r : SourceRow) (pg : Nat) : Bool := r.page ≤ pg && pg < r.page + r.count

/-- The bits of a page that have a source: those of R104, and 29 to 31 on every page (R97). -/
def pageEventBits (pg : Nat) : Nat :=
  (sourceTable.filter (·.onPage pg)).foldl (fun m r => m ||| 2 ^ r.bit) 0xE0000000

/-- The reset value of EVT_MASK (R104; R97 gives bits 29 to 31 the values 0, 1 and 1). -/
def evtMaskReset (pg : Nat) : Nat :=
  (sourceTable.filter (·.onPage pg)).foldl (fun m r => m ||| (r.mask * 2 ^ r.bit)) 0xC0000000

/-- The source of a page bit (R104, R98); `none` for a bit without one. -/
def sourceOf (pg bit : Nat) : Option Nat :=
  if 29 ≤ bit then some (32 * pageGroup pg + bit)
  else ((sourceTable.filter (fun r => r.onPage pg && r.bit == bit)).map (fun r => r.src + (pg - r.page))).head?

/-- ROUTE.VECTOR at reset: the group's number (R103). -/
def routeVecReset (s : Nat) : Nat := s / 32

/-- ROUTE.TO_MSIX at reset (R103): 0 for the ETHSTAT, RESERVE and MGMT sources, else 1. -/
def routeMsixReset (s : Nat) : Nat :=
  if s = 202 ∨ s = 203 ∨ (245 ≤ s ∧ s ≤ 250) then 0 else 1

/-- MGMT_ROUTE[g] at reset (R103): all of G0, the ETHSTAT sources of G6, the RESERVE, MGMT and ROPE sources of G7. -/
def mgmtRouteReset (g : Nat) : Nat :=
  if g = 0 then 0xFFFFFFFF
  else if g = 6 then 0x00000C00
  else if g = 7 then 0x07FE0000
  else 0

/-- One row of a page's register table: one word, or `count` words `stride` octets apart. -/
inductive Row where
  | one (off : Nat) (f : Field)
  | arr (base stride count : Nat) (f : Nat → Field)

/-- The field of a row that lies in the word at `off`, if any. -/
def Row.at (r : Row) (off : Nat) : Option Field :=
  match r with
  | .one o f => if o = off then some f else none
  | .arr b st n f =>
    if b ≤ off ∧ (off - b) % st = 0 ∧ (off - b) / st < n then some (f ((off - b) / st)) else none

/-- The DETAIL codes of a page's self-test, one for each part that can fail, in the order of its rule. -/
def testParts (pg : Nat) : List Nat :=
  if 0x08 ≤ pg ∧ pg ≤ 0x0B then [1, 2, 3, 4, 5, 6, 7]
  else if pg = 0x10 then [0x10, 0x11, 0x12, 0x13]
  else if pg = 0x11 then List.range 136
  else if pg = 0x18 then [0x20, 0x21, 0x22, 0x23, 0x30, 0x31, 0x32, 0x33]
  else if pg = 0x19 then [0x40, 0x41]
  else if pg = 0x1A then [0x50]
  else if pg = 0x1B then [0x51]
  else if pg = 0x20 then [0x60, 0x61, 0x62, 0x63]
  else if pg = 0x21 then [0x70, 0x71]
  else if pg = 0x22 then [0x72]
  else if 0x24 ≤ pg ∧ pg ≤ 0x27 then [0x80, 0x81, 0x82]
  else if pg = 0x28 then [0x88]
  else if pg = 0x29 then [0x98, 0x99]
  else if pg = 0x30 then [0x90, 0x91, 0x92]
  else if pg = 0x31 then [0xA0, 0xA1, 0xA2, 0xA3, 0xA4, 0xA5, 0xA6, 0xA7, 0xA8]
  else if pg = 0x32 then [0xB0, 0xB1, 0xB2]
  else if pg = 0x33 then [0xC0, 0xC1, 0xC2, 0xC3, 0xC4]
  else if pg = 0x38 ∨ pg = 0x39 then [0xD0, 0xD1, 0xD2]
  else if pg = 0x3C then [0xE0, 0xE1]
  else if pg = 0x3D then [0xE8, 0xE9, 0xEA]
  else if pg = 0x40 then [0xF0]
  else if pg = 0x41 then [0xF1]
  else if pg = 0x45 then [0xFA, 0xFB]
  else if pg = 0x46 then [0xF8, 0xF9]
  else if pg = 0x48 then [0xF4, 0xF5]
  else if pg = 0x4A then [0xC8, 0xC9, 0xCA]
  else if pg = 0x4C then [0xF2]
  else []

/-- The DETAIL of a self-test whose part number `n` is the first to fail. No rule gives COEX or DDR a code: there the octet is the
command's own (log 12). -/
def testDetail (pg : Nat) (n : BitVec 8) : Nat :=
  match testParts pg with
  | [] => n.toNat
  | x :: r => (x :: r).getD n.toNat x

end Sys2Proof.Machine
end

