-- ==== Sys2Proof/Machine/RegsB.lean ====
section
/-! DEFINITION. The register fields of the front-end, lane, PHY and MAC pages, as the register tables of the spec
lay them out: page, offset, lowest bit, width, access type (R9), reset value, what keeps the field over a reset
(R622), and the values and page states in which a write is accepted (R76). -/

namespace Sys2Proof.Machine

namespace F.FE

/-- TUNE.CENTRE_HZ: pending LO frequency, 1 Hz steps. -/
def TUNE_CENTRE_HZ (n : Nat) : Field := ⟨(0x08 + n % 4), 0x040, 0, 32, .rw, (if n = 2 then 2441750000 else 868000000), .ordinary, .any, .always⟩
/-- SPAN.WIDTH: pending span per R105. -/
def SPAN_WIDTH (n : Nat) : Field := ⟨(0x08 + n % 4), 0x044, 0, 2, .rw, 2, .ordinary, .any, .always⟩
/-- SPAN.BAND: 0 sub-GHz, 1 2.4 GHz; writable only in OFF or STOPPED. -/
def SPAN_BAND (n : Nat) : Field := ⟨(0x08 + n % 4), 0x044, 4, 1, (if n = 3 then .rw else .ro), (if n = 2 then 1 else 0), .ordinary, .any, .offOrStopped⟩
/-- SPAN.DRAIN_MAX: lane drain before a retune, 0–255 ms. -/
def SPAN_DRAIN_MAX (n : Nat) : Field := ⟨(0x08 + n % 4), 0x044, 8, 8, .rw, 0, .ordinary, .any, .always⟩
/-- TUNE_GO: 1 = retune per R106. -/
def TUNE_GO (n : Nat) : Field := ⟨(0x08 + n % 4), 0x048, 0, 1, .wo, 0, .ordinary, .any, .always⟩
/-- RF_STATE.STATE: per R108. -/
def RF_STATE_STATE (n : Nat) : Field := ⟨(0x08 + n % 4), 0x04C, 0, 4, .ro, 0, .ordinary, .any, .always⟩
/-- RF_STATE.LOGICAL: logical front end served, per R118. -/
def RF_STATE_LOGICAL (n : Nat) : Field := ⟨(0x08 + n % 4), 0x04C, 4, 2, .ro, n, .ordinary, .any, .always⟩
/-- RF_STATE.RETUNE_PENDING: 1 = retune under way. -/
def RF_STATE_RETUNE_PENDING (n : Nat) : Field := ⟨(0x08 + n % 4), 0x04C, 8, 1, .ro, 0, .ordinary, .any, .always⟩
/-- ROLE.MODE: per R117; 4 reads only; a write of 4 or of 5–7 that would change MODE is rejected as RANGE; a write that leaves MODE and FOR as they are changes nothing, per R76 (FE3). -/
def ROLE_MODE (n : Nat) : Field := ⟨(0x08 + n % 4), 0x050, 0, 3, .rw, 0, .ordinary, (.range 0 4), .always⟩
/-- ROLE.FOR: front end k, 0–2; 3 rejected (FE3). -/
def ROLE_FOR (n : Nat) : Field := ⟨(0x08 + n % 4), 0x050, 4, 2, .rw, 0, .ordinary, (.range 0 2), .always⟩
/-- ANT.RX_SEL: ANT_SEL code when receiving. -/
def ANT_RX_SEL (n : Nat) : Field := ⟨(0x08 + n % 4), 0x054, 0, 2, .rw, 0, .ordinary, .any, .always⟩
/-- ANT.TX_SEL: ANT_SEL code when transmitting. -/
def ANT_TX_SEL (n : Nat) : Field := ⟨(0x08 + n % 4), 0x054, 2, 2, .rw, 0, .ordinary, .any, .always⟩
/-- ANT.RELIEF_SEL[0–2]: FE3's ANT_SEL code when acting for FE0, FE1, FE2 (FE3). -/
def ANT_RELIEF_SEL (n : Nat) (j : Nat) : Field := ⟨(0x08 + n % 4), 0x054, (8 + 2 * j), 2, .rw, 0, .ordinary, .any, .always⟩
/-- LINES.POLARITY: 1 = invert line, per R128; writable only in OFF or STOPPED. -/
def LINES_POLARITY (n : Nat) : Field := ⟨(0x08 + n % 4), 0x058, 0, 6, .rw, 0, .ordinary, .any, .offOrStopped⟩
/-- LINES.PA_LEAD: P, 2–60 µs. -/
def LINES_PA_LEAD (n : Nat) : Field := ⟨(0x08 + n % 4), 0x058, 8, 6, .rw, 20, .ordinary, (.range 2 60), .offOrStopped⟩
/-- LINES.RAMP: A, 2–15 µs. -/
def LINES_RAMP (n : Nat) : Field := ⟨(0x08 + n % 4), 0x058, 16, 4, .rw, 4, .ordinary, (.range 2 15), .offOrStopped⟩
/-- LINES_NOW: present physical levels. -/
def LINES_NOW (n : Nat) : Field := ⟨(0x08 + n % 4), 0x05C, 0, 6, .ro, 0, .ordinary, .any, .always⟩
/-- EXT_GAIN: declared gain ball to antenna port, signed, 0.25 dB, −80 to +160. -/
def EXT_GAIN (n : Nat) : Field := ⟨(0x08 + n % 4), 0x060, 0, 16, .rw, 0, .ordinary, (.signed (-80) 160), .always⟩
/-- ACK_POWER: acknowledgement and poll-answer power, signed, 0.5 dBm, −40 to +32 (FE2 and FE3 in band 1: +24); the range is checked against the band in effect at the write; a later change of FE3's SPAN.BAND is not rejected for it and does not change it, and the band maximum of R126 then limits what is applied. -/
def ACK_POWER (n : Nat) : Field := ⟨(0x08 + n % 4), 0x064, 0, 8, .rw, 0, .ordinary, (.signed (-40) 32), .always⟩
/-- TX_STATUS.REQUESTED: power requested for the last transmission started, lowered or not, signed, 0.5 dBm, per R126. -/
def TX_STATUS_REQUESTED (n : Nat) : Field := ⟨(0x08 + n % 4), 0x068, 0, 8, .ro, 0, .ordinary, .any, .always⟩
/-- TX_STATUS.APPLIED: power applied to that transmission; −128 when R126 refused it. -/
def TX_STATUS_APPLIED (n : Nat) : Field := ⟨(0x08 + n % 4), 0x068, 8, 8, .ro, 0, .ordinary, .any, .always⟩
/-- TX_STATUS.CEILING: regulatory ceiling of that transmission, saturating at −127. -/
def TX_STATUS_CEILING (n : Nat) : Field := ⟨(0x08 + n % 4), 0x068, 16, 8, .ro, 0, .ordinary, .any, .always⟩
/-- TX_CLIPPED: transmissions lowered to a ceiling; wraps at 2^32. -/
def TX_CLIPPED (n : Nat) : Field := ⟨(0x08 + n % 4), 0x06C, 0, 32, .rc, 0, .ordinary, .any, .always⟩
/-- CAL_CFG.DEFER_MAX: 1–1,440 min. -/
def CAL_CFG_DEFER_MAX (n : Nat) : Field := ⟨(0x08 + n % 4), 0x070, 0, 11, .rw, 60, .ordinary, (.range 1 1440), .always⟩
/-- CAL_CFG.UNRELIEVED: 1 = calibrate unrelieved when overdue. -/
def CAL_CFG_UNRELIEVED (n : Nat) : Field := ⟨(0x08 + n % 4), 0x070, 16, 1, .rw, 0, .ordinary, .any, .always⟩
/-- CAL_REQ: bit 0 OSC, 1 SYNTH, 2 AAF, 3 DC, 4 IQ; follows R84. -/
def CAL_REQ (n : Nat) : Field := ⟨(0x08 + n % 4), 0x074, 0, 5, .wo, 0, .ordinary, .any, .always⟩
/-- CAL_STATUS.RESULT: as TEST_STATUS.RESULT, for CAL_REQ. -/
def CAL_STATUS_RESULT (n : Nat) : Field := ⟨(0x08 + n % 4), 0x078, 0, 3, .ro, 0, .ordinary, .any, .always⟩
/-- CAL_STATUS.DEFER_TEMP: 1 = temperature calibration deferred. -/
def CAL_STATUS_DEFER_TEMP (n : Nat) : Field := ⟨(0x08 + n % 4), 0x078, 3, 1, .ro, 0, .ordinary, .any, .always⟩
/-- CAL_STATUS.DEFER_IQ: 1 = 24 h IQ calibration deferred. -/
def CAL_STATUS_DEFER_IQ (n : Nat) : Field := ⟨(0x08 + n % 4), 0x078, 4, 1, .ro, 0, .ordinary, .any, .always⟩
/-- CAL_STATUS.STALE: 1 = in-service failure, previous results kept. -/
def CAL_STATUS_STALE (n : Nat) : Field := ⟨(0x08 + n % 4), 0x078, 5, 1, .ro, 0, .ordinary, .any, .always⟩
/-- CAL_STATUS.OVERDUE: 1 = deferral reached DEFER_MAX. -/
def CAL_STATUS_OVERDUE (n : Nat) : Field := ⟨(0x08 + n % 4), 0x078, 6, 1, .ro, 0, .ordinary, .any, .always⟩
/-- CAL_STATUS.LAST_FAIL: detail code of the last failure. -/
def CAL_STATUS_LAST_FAIL (n : Nat) : Field := ⟨(0x08 + n % 4), 0x078, 8, 8, .ro, 0, .ordinary, .any, .always⟩
/-- CAL_TEMP: PWR.TEMP[0] at the last full set, 0.125 °C, two's complement. -/
def CAL_TEMP (n : Nat) : Field := ⟨(0x08 + n % 4), 0x07C, 0, 12, .ro, 0, .ordinary, .any, .always⟩
/-- CAL_AGE: seconds since the last IQ calibration. -/
def CAL_AGE (n : Nat) : Field := ⟨(0x08 + n % 4), 0x080, 0, 32, .ro, 0, .ordinary, .any, .always⟩
/-- CAL_OSC.BANDS: VCO band codes found, 0–64. -/
def CAL_OSC_BANDS (n : Nat) : Field := ⟨(0x08 + n % 4), 0x084, 0, 7, .ro, 0, .ordinary, .any, .always⟩
/-- CAL_SYNTH.VCO_BAND: band in use. -/
def CAL_SYNTH_VCO_BAND (n : Nat) : Field := ⟨(0x08 + n % 4), 0x088, 0, 6, .ro, 0, .ordinary, .any, .always⟩
/-- CAL_SYNTH.LOCK_US: last lock time, µs. -/
def CAL_SYNTH_LOCK_US (n : Nat) : Field := ⟨(0x08 + n % 4), 0x088, 8, 8, .ro, 0, .ordinary, .any, .always⟩
/-- CAL_AAF.BW_KHZ: measured −3 dB bandwidth. -/
def CAL_AAF_BW_KHZ (n : Nat) : Field := ⟨(0x08 + n % 4), 0x08C, 0, 16, .ro, 0, .ordinary, .any, .always⟩
/-- CAL_DC.RESID_I: worst residual over gain steps, ADC LSB. -/
def CAL_DC_RESID_I (n : Nat) : Field := ⟨(0x08 + n % 4), 0x090, 0, 8, .ro, 0, .ordinary, .any, .always⟩
/-- CAL_DC.RESID_Q: as RESID_I. -/
def CAL_DC_RESID_Q (n : Nat) : Field := ⟨(0x08 + n % 4), 0x090, 8, 8, .ro, 0, .ordinary, .any, .always⟩
/-- CAL_IQ.IMAGE_REJ: image rejection, 0.25 dB. -/
def CAL_IQ_IMAGE_REJ (n : Nat) : Field := ⟨(0x08 + n % 4), 0x094, 0, 10, .ro, 0, .ordinary, .any, .always⟩
/-- UNLOCK_COUNT: lock losses, saturating. -/
def UNLOCK_COUNT (n : Nat) : Field := ⟨(0x08 + n % 4), 0x098, 0, 16, .rc, 0, .ordinary, .any, .always⟩
/-- LT.ISOLATION_DB: declared isolation, 45–90 dB (FE3). -/
def LT_ISOLATION_DB (n : Nat) : Field := ⟨(0x08 + n % 4), 0x09C, 0, 7, .rw, 45, .ordinary, (.range 45 90), .always⟩
/-- LT.GAIN_DB: held gain reduction, 0–30 dB (FE3). -/
def LT_GAIN_DB (n : Nat) : Field := ⟨(0x08 + n % 4), 0x09C, 8, 5, .rw, 20, .ordinary, (.range 0 30), .always⟩
/-- LT.SUSPENDED: 1 = suspended per R125 (FE3). -/
def LT_SUSPENDED (n : Nat) : Field := ⟨(0x08 + n % 4), 0x09C, 16, 1, .ro, 0, .ordinary, .any, .always⟩
/-- LT.RESUME: 1 = resume (FE3). -/
def LT_RESUME (n : Nat) : Field := ⟨(0x08 + n % 4), 0x09C, 17, 1, .wo, 0, .ordinary, .any, .always⟩

end F.FE

open F.FE in
/-- Part 0 of the words of page FE (R142). -/
def rowsFE_0 (n : Nat) : List Row := [
  Row.one 0x040 (TUNE_CENTRE_HZ n),
  Row.one 0x044 (SPAN_WIDTH n),
  Row.one 0x044 (SPAN_BAND n),
  Row.one 0x044 (SPAN_DRAIN_MAX n),
  Row.one 0x048 (TUNE_GO n),
  Row.one 0x04C (RF_STATE_STATE n),
  Row.one 0x04C (RF_STATE_LOGICAL n),
  Row.one 0x04C (RF_STATE_RETUNE_PENDING n),
  Row.one 0x054 (ANT_RX_SEL n),
  Row.one 0x054 (ANT_TX_SEL n),
  Row.one 0x058 (LINES_POLARITY n),
  Row.one 0x058 (LINES_PA_LEAD n),
  Row.one 0x058 (LINES_RAMP n),
  Row.one 0x05C (LINES_NOW n),
  Row.one 0x060 (EXT_GAIN n),
  Row.one 0x064 (ACK_POWER n),
  Row.one 0x068 (TX_STATUS_REQUESTED n),
  Row.one 0x068 (TX_STATUS_APPLIED n),
  Row.one 0x068 (TX_STATUS_CEILING n),
  Row.one 0x06C (TX_CLIPPED n),
  Row.one 0x070 (CAL_CFG_DEFER_MAX n),
  Row.one 0x070 (CAL_CFG_UNRELIEVED n),
  Row.one 0x074 (CAL_REQ n),
  Row.one 0x078 (CAL_STATUS_RESULT n)]

open F.FE in
/-- Part 1 of the words of page FE (R142). -/
def rowsFE_1 (n : Nat) : List Row := [
  Row.one 0x078 (CAL_STATUS_DEFER_TEMP n),
  Row.one 0x078 (CAL_STATUS_DEFER_IQ n),
  Row.one 0x078 (CAL_STATUS_STALE n),
  Row.one 0x078 (CAL_STATUS_OVERDUE n),
  Row.one 0x078 (CAL_STATUS_LAST_FAIL n),
  Row.one 0x07C (CAL_TEMP n),
  Row.one 0x080 (CAL_AGE n),
  Row.one 0x084 (CAL_OSC_BANDS n),
  Row.one 0x088 (CAL_SYNTH_VCO_BAND n),
  Row.one 0x088 (CAL_SYNTH_LOCK_US n),
  Row.one 0x08C (CAL_AAF_BW_KHZ n),
  Row.one 0x090 (CAL_DC_RESID_I n),
  Row.one 0x090 (CAL_DC_RESID_Q n),
  Row.one 0x094 (CAL_IQ_IMAGE_REJ n),
  Row.one 0x098 (UNLOCK_COUNT n)]

open F.FE in
/-- The words of FEn that FE3 alone has (R142). -/
def rowsFE_only3 (n : Nat) : List Row :=
  if n = 3 then [
    Row.one 0x050 (ROLE_MODE n),
    Row.one 0x050 (ROLE_FOR n),
    Row.one 0x054 (ANT_RELIEF_SEL n 0),
    Row.one 0x054 (ANT_RELIEF_SEL n 1),
    Row.one 0x054 (ANT_RELIEF_SEL n 2),
    Row.one 0x09C (LT_ISOLATION_DB n),
    Row.one 0x09C (LT_GAIN_DB n),
    Row.one 0x09C (LT_SUSPENDED n),
    Row.one 0x09C (LT_RESUME n)]
  else []

/-- The words of page FE, row by row (R142). -/
def rowsFE (n : Nat) : List Row := List.flatten [rowsFE_0 n, rowsFE_1 n, rowsFE_only3 n]

namespace F.REGLOCK

/-- STATUS.BANK: active bank. -/
def STATUS_BANK : Field := ⟨0x0C, 0x040, 0, 2, .ro, 0, .ordinary, .any, .always⟩
/-- STATUS.VALID: 1 = an active profile exists. -/
def STATUS_VALID : Field := ⟨0x0C, 0x040, 2, 1, .ro, 0, .ordinary, .any, .always⟩
/-- STATUS.BLANK: 1 = no bank programmed. -/
def STATUS_BLANK : Field := ⟨0x0C, 0x040, 3, 1, .ro, 1, .ordinary, .any, .always⟩
/-- STATUS.PROGRAMMED: bit b = bank b programmed. -/
def STATUS_PROGRAMMED : Field := ⟨0x0C, 0x040, 4, 4, .ro, 0, .ordinary, .any, .always⟩
/-- STATUS.PROG_STATE: 0 IDLE, 1 BUSY, 2 DONE, 3 BAD_IMAGE, 4 BANK_FAILED. -/
def STATUS_PROG_STATE : Field := ⟨0x0C, 0x040, 8, 3, .ro, 0, .ordinary, .any, .always⟩
/-- REGION: active header REGION. -/
def REGION : Field := ⟨0x0C, 0x044, 0, 16, .ro, 0, .ordinary, .any, .always⟩
/-- SEQUENCE: active header SEQUENCE. -/
def SEQUENCE : Field := ⟨0x0C, 0x048, 0, 32, .ro, 0, .ordinary, .any, .always⟩
/-- CEILING_HITS: transmissions refused or lowered by the profile. -/
def CEILING_HITS : Field := ⟨0x0C, 0x04C, 0, 32, .rc, 0, .ordinary, .any, .always⟩
/-- LBT_BUSY: busy listen-before-talk outcomes. -/
def LBT_BUSY : Field := ⟨0x0C, 0x050, 0, 32, .rc, 0, .ordinary, .any, .always⟩
/-- ACK_WITHHELD: per R139. -/
def ACK_WITHHELD : Field := ⟨0x0C, 0x054, 0, 32, .rc, 0, .ordinary, .any, .always⟩
/-- PROG_COMMIT: 1 = program next bank, per R141. -/
def PROG_COMMIT : Field := ⟨0x0C, 0x058, 0, 1, .wo, 0, .ordinary, .any, .always⟩
/-- PROFILE: active 784-octet image; zeros without an active profile. -/
def PROFILE (k : Nat) : Field := ⟨0x0C, (0x400 + 4 * k), 0, 32, .ro, 0, .nonvolatile, .any, .always⟩
/-- PROG_STAGE: staging image, per R141. -/
def PROG_STAGE (k : Nat) : Field := ⟨0x0C, (0x800 + 4 * k), 0, 32, .rw, 0, .ordinary, .any, .always⟩

end F.REGLOCK

open F.REGLOCK in
/-- Part 0 of the words of page REGLOCK (R145). -/
def rowsREGLOCK_0 : List Row := [
  Row.one 0x040 STATUS_BANK,
  Row.one 0x040 STATUS_VALID,
  Row.one 0x040 STATUS_BLANK,
  Row.one 0x040 STATUS_PROGRAMMED,
  Row.one 0x040 STATUS_PROG_STATE,
  Row.one 0x044 REGION,
  Row.one 0x048 SEQUENCE,
  Row.one 0x04C CEILING_HITS,
  Row.one 0x050 LBT_BUSY,
  Row.one 0x054 ACK_WITHHELD,
  Row.one 0x058 PROG_COMMIT,
  Row.arr 0x400 4 196 (fun i => PROFILE i),
  Row.arr 0x800 4 196 (fun i => PROG_STAGE i)]

/-- The words of page REGLOCK, row by row (R145). -/
def rowsREGLOCK : List Row := List.flatten [rowsREGLOCK_0]

namespace F.COEX

/-- CFG[n].ENABLE: 1 = coexistence on for front end n. -/
def CFG_ENABLE (n : Nat) : Field := ⟨0x0D, (0x040 + 0x10 * n), 0, 1, .rw, 0, .ordinary, .any, .always⟩
/-- CFG[n].REQ_POL: 1 = REQ active low. -/
def CFG_REQ_POL (n : Nat) : Field := ⟨0x0D, (0x040 + 0x10 * n), 1, 1, .rw, 0, .ordinary, .any, .always⟩
/-- CFG[n].GNT_POL: 1 = GNT active low. -/
def CFG_GNT_POL (n : Nat) : Field := ⟨0x0D, (0x040 + 0x10 * n), 2, 1, .rw, 0, .ordinary, .any, .always⟩
/-- CFG[n].PRI_POL: 1 = PRI active low. -/
def CFG_PRI_POL (n : Nat) : Field := ⟨0x0D, (0x040 + 0x10 * n), 3, 1, .rw, 0, .ordinary, .any, .always⟩
/-- CFG[n].LEAD: 0–255 µs. -/
def CFG_LEAD (n : Nat) : Field := ⟨0x0D, (0x040 + 0x10 * n), 8, 8, .rw, 0, .ordinary, .any, .always⟩
/-- GNT_TIMEOUT[n]: 0–10,000 µs. -/
def GNT_TIMEOUT (n : Nat) : Field := ⟨0x0D, (0x044 + 0x10 * n), 0, 14, .rw, 1000, .ordinary, (.range 0 10000), .always⟩
/-- PRI_MASK[n]: bit 0 acknowledgements and poll answers; bits 1–4 S0–S3; bit 5 W0–W11. -/
def PRI_MASK (n : Nat) : Field := ⟨0x0D, (0x048 + 0x10 * n), 0, 6, .rw, 0x3, .ordinary, .any, .always⟩
/-- REQUESTS[n]: requests raised. -/
def REQUESTS (n : Nat) : Field := ⟨0x0D, (0x080 + 0x10 * n), 0, 32, .rc, 0, .ordinary, .any, .always⟩
/-- TIMEOUTS[n]: per R132. -/
def TIMEOUTS (n : Nat) : Field := ⟨0x0D, (0x084 + 0x10 * n), 0, 32, .rc, 0, .ordinary, .any, .always⟩
/-- WITHDRAWN[n]: per R134. -/
def WITHDRAWN (n : Nat) : Field := ⟨0x0D, (0x088 + 0x10 * n), 0, 32, .rc, 0, .ordinary, .any, .always⟩
/-- ZERO_TOL_DENIED[n]: per R133. -/
def ZERO_TOL_DENIED (n : Nat) : Field := ⟨0x0D, (0x08C + 0x10 * n), 0, 32, .rc, 0, .ordinary, .any, .always⟩

end F.COEX

open F.COEX in
/-- Part 0 of the words of page COEX (R144). -/
def rowsCOEX_0 : List Row := [
  Row.arr 0x040 0x10 4 (fun i => CFG_ENABLE i),
  Row.arr 0x040 0x10 4 (fun i => CFG_REQ_POL i),
  Row.arr 0x040 0x10 4 (fun i => CFG_GNT_POL i),
  Row.arr 0x040 0x10 4 (fun i => CFG_PRI_POL i),
  Row.arr 0x040 0x10 4 (fun i => CFG_LEAD i),
  Row.arr 0x044 0x10 4 (fun i => GNT_TIMEOUT i),
  Row.arr 0x048 0x10 4 (fun i => PRI_MASK i),
  Row.arr 0x080 0x10 4 (fun i => REQUESTS i),
  Row.arr 0x084 0x10 4 (fun i => TIMEOUTS i),
  Row.arr 0x088 0x10 4 (fun i => WITHDRAWN i),
  Row.arr 0x08C 0x10 4 (fun i => ZERO_TOL_DENIED i)]

/-- The words of page COEX, row by row (R144). -/
def rowsCOEX : List Row := List.flatten [rowsCOEX_0]

namespace F.CHAN

/-- DETECT_EN: bit n = detection on for logical front end n. -/
def DETECT_EN : Field := ⟨0x10, 0x040, 0, 4, .rw, 0xf, .ordinary, .any, .always⟩
/-- GAIN_CFG[n].BYP_FROM: first gain index with BYP asserted, 0–8. -/
def GAIN_CFG_BYP_FROM (n : Nat) : Field := ⟨0x10, (0x048 + 0x4 * n), 0, 4, .rw, 8, .ordinary, (.range 0 8), .always⟩
/-- GAIN_CFG[n].EXT_LNA_DB: external LNA gain, 0–30 dB, per R172. -/
def GAIN_CFG_EXT_LNA_DB (n : Nat) : Field := ⟨0x10, (0x048 + 0x4 * n), 8, 5, .rw, 0, .ordinary, (.range 0 30), .always⟩
/-- GAIN_CFG[n].BACKOFF: idle headroom below ADC full scale, 6–15 dB. -/
def GAIN_CFG_BACKOFF (n : Nat) : Field := ⟨0x10, (0x048 + 0x4 * n), 16, 4, .rw, 12, .ordinary, (.range 6 15), .always⟩
/-- GAIN_CFG[n].UP_HOLD: 10–255 µs. -/
def GAIN_CFG_UP_HOLD (n : Nat) : Field := ⟨0x10, (0x048 + 0x4 * n), 24, 8, .rw, 100, .ordinary, (.range 10 255), .always⟩
/-- GAIN_NOW[n].INDEX: present analog gain index. -/
def GAIN_NOW_INDEX (n : Nat) : Field := ⟨0x10, (0x058 + 0x4 * n), 0, 3, .ro, 0, .ordinary, .any, .always⟩
/-- GAIN_NOW[n].SATURATED: 1 = ADC saturated now. -/
def GAIN_NOW_SATURATED (n : Nat) : Field := ⟨0x10, (0x058 + 0x4 * n), 8, 1, .ro, 0, .ordinary, .any, .always⟩
/-- GAIN_NOW[n].FROZEN: 1 = a lane reads this front end. -/
def GAIN_NOW_FROZEN (n : Nat) : Field := ⟨0x10, (0x058 + 0x4 * n), 9, 1, .ro, 0, .ordinary, .any, .always⟩
/-- DETECTIONS[n]: offers to the lane pool; wraps at 2^32. -/
def DETECTIONS (n : Nat) : Field := ⟨0x10, (0x068 + 0x4 * n), 0, 32, .rc, 0, .ordinary, .any, .always⟩
/-- OVERLOAD[n]: reports discarded per R160; wraps at 2^32. -/
def OVERLOAD (n : Nat) : Field := ⟨0x10, (0x078 + 0x4 * n), 0, 32, .rc, 0, .ordinary, .any, .always⟩
/-- FORCED_STEPS[n]: per R174; wraps at 2^32. -/
def FORCED_STEPS (n : Nat) : Field := ⟨0x10, (0x088 + 0x4 * n), 0, 32, .rc, 0, .ordinary, .any, .always⟩
/-- RECOVERIES[n]: per R176; wraps at 2^32. -/
def RECOVERIES (n : Nat) : Field := ⟨0x10, (0x098 + 0x4 * n), 0, 32, .rc, 0, .ordinary, .any, .always⟩
/-- GAIN_RECOVER[n].RECOVER_MS: 0 = off, 1–10,000 ms. -/
def GAIN_RECOVER_RECOVER_MS (n : Nat) : Field := ⟨0x10, (0x0A8 + 0x4 * n), 0, 14, .rw, 0, .ordinary, (.range 0 10000), .always⟩
/-- LISTEN[n][s].CFG.MODE: PHY mode code. -/
def LISTEN_CFG_MODE (n : Nat) (s : Nat) : Field := ⟨0x10, (0x100 + 0x80 * n + 0x10 * s), 0, 8, .rw, 0, .ordinary, .phyMode, .always⟩
/-- LISTEN[n][s].CFG.ENABLE: 1 = set enabled. -/
def LISTEN_CFG_ENABLE (n : Nat) (s : Nat) : Field := ⟨0x10, (0x100 + 0x80 * n + 0x10 * s), 8, 1, .rw, 0, .ordinary, .any, .always⟩
/-- LISTEN[n][s].CH0_HZ: centre of channel 0, 1 Hz steps. -/
def LISTEN_CH0_HZ (n : Nat) (s : Nat) : Field := ⟨0x10, (0x104 + 0x80 * n + 0x10 * s), 0, 32, .rw, 0, .ordinary, .any, .always⟩
/-- LISTEN[n][s].RASTER.SPACING_KHZ: 1–65,535 kHz. -/
def LISTEN_RASTER_SPACING_KHZ (n : Nat) (s : Nat) : Field := ⟨0x10, (0x108 + 0x80 * n + 0x10 * s), 0, 16, .rw, 200, .ordinary, (.range 1 65535), .always⟩
/-- LISTEN[n][s].RASTER.COUNT: 1–256 channels; total per R155. -/
def LISTEN_RASTER_COUNT (n : Nat) (s : Nat) : Field := ⟨0x10, (0x108 + 0x80 * n + 0x10 * s), 16, 9, .rw, 1, .ordinary, (.range 1 256), .always⟩
/-- LISTEN[n][s].DETECT.CORR_MIN: 64–240, in 1/256. -/
def LISTEN_DETECT_CORR_MIN (n : Nat) (s : Nat) : Field := ⟨0x10, (0x10C + 0x80 * n + 0x10 * s), 0, 8, .rw, 141, .ordinary, (.range 64 240), .always⟩
/-- LISTEN[n][s].DETECT.SNR_MIN: signed, 0.5 dB, −12 to +40 (−6 to +20 dB). -/
def LISTEN_DETECT_SNR_MIN (n : Nat) (s : Nat) : Field := ⟨0x10, (0x10C + 0x80 * n + 0x10 * s), 8, 8, .rw, 0, .ordinary, (.signed (-12) 40), .always⟩
/-- LISTEN_STATUS[n][s]: channels that meet R155 for the front end serving n, in every page state, 0–256. -/
def LISTEN_STATUS (n : Nat) (s : Nat) : Field := ⟨0x10, (0x300 + 0x20 * n + 0x4 * s), 0, 9, .ro, 0, .ordinary, .any, .always⟩
/-- ENERGY[n][b]: bin energy, signed, 0.5 dBm units; 0x8000 invalid, per R154. -/
def ENERGY (n : Nat) (b : Nat) : Field := ⟨0x10, (0x800 + 0x200 * n + 4 * (b / 2)), (16 * (b % 2)), 16, .ro, 0x8000, .ordinary, .any, .always⟩

end F.CHAN

open F.CHAN in
/-- Part 0 of the words of page CHAN (R190). -/
def rowsCHAN_0 : List Row := [
  Row.one 0x040 DETECT_EN,
  Row.arr 0x048 0x4 4 (fun i => GAIN_CFG_BYP_FROM i),
  Row.arr 0x048 0x4 4 (fun i => GAIN_CFG_EXT_LNA_DB i),
  Row.arr 0x048 0x4 4 (fun i => GAIN_CFG_BACKOFF i),
  Row.arr 0x048 0x4 4 (fun i => GAIN_CFG_UP_HOLD i),
  Row.arr 0x058 0x4 4 (fun i => GAIN_NOW_INDEX i),
  Row.arr 0x058 0x4 4 (fun i => GAIN_NOW_SATURATED i),
  Row.arr 0x058 0x4 4 (fun i => GAIN_NOW_FROZEN i),
  Row.arr 0x068 0x4 4 (fun i => DETECTIONS i),
  Row.arr 0x078 0x4 4 (fun i => OVERLOAD i),
  Row.arr 0x088 0x4 4 (fun i => FORCED_STEPS i),
  Row.arr 0x098 0x4 4 (fun i => RECOVERIES i),
  Row.arr 0x0A8 0x4 4 (fun i => GAIN_RECOVER_RECOVER_MS i),
  Row.arr 0x100 0x10 8 (fun i => LISTEN_CFG_MODE 0 i),
  Row.arr 0x180 0x10 8 (fun i => LISTEN_CFG_MODE 1 i),
  Row.arr 0x200 0x10 8 (fun i => LISTEN_CFG_MODE 2 i),
  Row.arr 0x280 0x10 8 (fun i => LISTEN_CFG_MODE 3 i),
  Row.arr 0x100 0x10 8 (fun i => LISTEN_CFG_ENABLE 0 i),
  Row.arr 0x180 0x10 8 (fun i => LISTEN_CFG_ENABLE 1 i),
  Row.arr 0x200 0x10 8 (fun i => LISTEN_CFG_ENABLE 2 i),
  Row.arr 0x280 0x10 8 (fun i => LISTEN_CFG_ENABLE 3 i),
  Row.arr 0x104 0x10 8 (fun i => LISTEN_CH0_HZ 0 i),
  Row.arr 0x184 0x10 8 (fun i => LISTEN_CH0_HZ 1 i),
  Row.arr 0x204 0x10 8 (fun i => LISTEN_CH0_HZ 2 i)]

open F.CHAN in
/-- Part 1 of the words of page CHAN (R190). -/
def rowsCHAN_1 : List Row := [
  Row.arr 0x284 0x10 8 (fun i => LISTEN_CH0_HZ 3 i),
  Row.arr 0x108 0x10 8 (fun i => LISTEN_RASTER_SPACING_KHZ 0 i),
  Row.arr 0x188 0x10 8 (fun i => LISTEN_RASTER_SPACING_KHZ 1 i),
  Row.arr 0x208 0x10 8 (fun i => LISTEN_RASTER_SPACING_KHZ 2 i),
  Row.arr 0x288 0x10 8 (fun i => LISTEN_RASTER_SPACING_KHZ 3 i),
  Row.arr 0x108 0x10 8 (fun i => LISTEN_RASTER_COUNT 0 i),
  Row.arr 0x188 0x10 8 (fun i => LISTEN_RASTER_COUNT 1 i),
  Row.arr 0x208 0x10 8 (fun i => LISTEN_RASTER_COUNT 2 i),
  Row.arr 0x288 0x10 8 (fun i => LISTEN_RASTER_COUNT 3 i),
  Row.arr 0x10C 0x10 8 (fun i => LISTEN_DETECT_CORR_MIN 0 i),
  Row.arr 0x18C 0x10 8 (fun i => LISTEN_DETECT_CORR_MIN 1 i),
  Row.arr 0x20C 0x10 8 (fun i => LISTEN_DETECT_CORR_MIN 2 i),
  Row.arr 0x28C 0x10 8 (fun i => LISTEN_DETECT_CORR_MIN 3 i),
  Row.arr 0x10C 0x10 8 (fun i => LISTEN_DETECT_SNR_MIN 0 i),
  Row.arr 0x18C 0x10 8 (fun i => LISTEN_DETECT_SNR_MIN 1 i),
  Row.arr 0x20C 0x10 8 (fun i => LISTEN_DETECT_SNR_MIN 2 i),
  Row.arr 0x28C 0x10 8 (fun i => LISTEN_DETECT_SNR_MIN 3 i),
  Row.arr 0x300 0x4 8 (fun i => LISTEN_STATUS 0 i),
  Row.arr 0x320 0x4 8 (fun i => LISTEN_STATUS 1 i),
  Row.arr 0x340 0x4 8 (fun i => LISTEN_STATUS 2 i),
  Row.arr 0x360 0x4 8 (fun i => LISTEN_STATUS 3 i),
  Row.arr 0x800 4 128 (fun i => ENERGY 0 (2 * i + 0)),
  Row.arr 0x800 4 128 (fun i => ENERGY 0 (2 * i + 1)),
  Row.arr 0xA00 4 128 (fun i => ENERGY 1 (2 * i + 0))]

open F.CHAN in
/-- Part 2 of the words of page CHAN (R190). -/
def rowsCHAN_2 : List Row := [
  Row.arr 0xA00 4 128 (fun i => ENERGY 1 (2 * i + 1)),
  Row.arr 0xC00 4 128 (fun i => ENERGY 2 (2 * i + 0)),
  Row.arr 0xC00 4 128 (fun i => ENERGY 2 (2 * i + 1)),
  Row.arr 0xE00 4 128 (fun i => ENERGY 3 (2 * i + 0)),
  Row.arr 0xE00 4 128 (fun i => ENERGY 3 (2 * i + 1))]

/-- The words of page CHAN, row by row (R190). -/
def rowsCHAN : List Row := List.flatten [rowsCHAN_0, rowsCHAN_1, rowsCHAN_2]

namespace F.LANEPOOL

/-- CAPTURE.ENABLE: 1 = capture candidates offered. -/
def CAPTURE_ENABLE : Field := ⟨0x11, 0x040, 0, 1, .rw, 1, .ordinary, .any, .always⟩
/-- CAPTURE.MARGIN_DB: 3–12 dB; values 0–2 and 13–15 rejected. -/
def CAPTURE_MARGIN_DB : Field := ⟨0x11, 0x040, 8, 4, .rw, 6, .ordinary, (.range 3 12), .always⟩
/-- PRE_ROLL: 0–32 µs. -/
def PRE_ROLL : Field := ⟨0x11, 0x044, 0, 6, .rw, 8, .ordinary, (.range 0 32), .always⟩
/-- SEARCH_MAX: 200–65,535 µs. -/
def SEARCH_MAX : Field := ⟨0x11, 0x048, 0, 16, .rw, 2000, .ordinary, (.range 200 65535), .always⟩
/-- SELFCHECK: 1–3,600 s. -/
def SELFCHECK : Field := ⟨0x11, 0x04C, 0, 12, .rw, 60, .ordinary, (.range 1 3600), .always⟩
/-- FE_LIMIT[n].MIN: 0–64; sum over n at most 128. -/
def FE_LIMIT_MIN (n : Nat) : Field := ⟨0x11, (0x050 + 0x4 * n), 0, 7, .rw, 0, .ordinary, (.range 0 64), .always⟩
/-- FE_LIMIT[n].MAX: 1–64, not below MIN. -/
def FE_LIMIT_MAX (n : Nat) : Field := ⟨0x11, (0x050 + 0x4 * n), 8, 7, .rw, 64, .ordinary, (.range 1 64), .always⟩
/-- IN_SERVICE[k]: bit j = lane 32k + j in service. -/
def IN_SERVICE (k : Nat) : Field := ⟨0x11, (0x060 + 0x4 * k), 0, 32, .ro, (if k < 4 then 0xFFFFFFFF else 0), .ordinary, .any, .always⟩
/-- COUNTS.IN_SERVICE: lanes in service. -/
def COUNTS_IN_SERVICE : Field := ⟨0x11, 0x074, 0, 8, .ro, 128, .ordinary, .any, .always⟩
/-- COUNTS.RESERVE: lanes in RESERVE. -/
def COUNTS_RESERVE : Field := ⟨0x11, 0x074, 8, 4, .ro, 8, .ordinary, .any, .always⟩
/-- COUNTS.RETIRED: lanes in RETIRED. -/
def COUNTS_RETIRED : Field := ⟨0x11, 0x074, 16, 8, .ro, 0, .ordinary, .any, .always⟩
/-- BOUND: lanes bound per front end. -/
def BOUND (n : Nat) : Field := ⟨0x11, 0x078, (8 * n), 7, .ro, 0, .ordinary, .any, .always⟩
/-- BOUND_PEAK: highest BOUND of each front end since last read; a read restarts every octet from that front end's BOUND in the cycle of the read, per R497. -/
def BOUND_PEAK (n : Nat) : Field := ⟨0x11, 0x07C, (8 * n), 7, .rc, 0, .ordinary, .any, .always⟩
/-- STARVED[n]: per R170. -/
def STARVED (n : Nat) : Field := ⟨0x11, (0x080 + 0x4 * n), 0, 32, .rc, 0, .ordinary, .any, .always⟩
/-- PREEMPTED[n]: per R169. -/
def PREEMPTED (n : Nat) : Field := ⟨0x11, (0x090 + 0x4 * n), 0, 32, .rc, 0, .ordinary, .any, .always⟩
/-- CAPTURED[n]: per R178. -/
def CAPTURED (n : Nat) : Field := ⟨0x11, (0x0A0 + 0x4 * n), 0, 32, .rc, 0, .ordinary, .any, .always⟩
/-- GAIN_MARKED[n]: frames ending as DROP_GAIN_STEP, per R175. -/
def GAIN_MARKED (n : Nat) : Field := ⟨0x11, (0x0B0 + 0x4 * n), 0, 32, .rc, 0, .ordinary, .any, .always⟩
/-- TX_PREEMPTED[n]: per R179. -/
def TX_PREEMPTED (n : Nat) : Field := ⟨0x11, (0x0C0 + 0x4 * n), 0, 32, .rc, 0, .ordinary, .any, .always⟩
/-- FAULTS: per R186. -/
def FAULTS : Field := ⟨0x11, 0x0D0, 0, 32, .rc, 0, .ordinary, .any, .always⟩
/-- FIFO_REFUSED: per R184. -/
def FIFO_REFUSED : Field := ⟨0x11, 0x0D4, 0, 32, .rc, 0, .ordinary, .any, .always⟩
/-- LAST_SUBST.FAULTY: faulty lane of the last substitution. -/
def LAST_SUBST_FAULTY : Field := ⟨0x11, 0x0D8, 0, 8, .ro, 0, .ordinary, .any, .always⟩
/-- LAST_SUBST.SUBSTITUTE: lane that replaced it. -/
def LAST_SUBST_SUBSTITUTE : Field := ⟨0x11, 0x0D8, 8, 8, .ro, 0, .ordinary, .any, .always⟩
/-- LAST_SUBST.COUNT: substitutions since reset, saturating at 65,535. -/
def LAST_SUBST_COUNT : Field := ⟨0x11, 0x0D8, 16, 16, .ro, 0, .ordinary, .any, .always⟩

end F.LANEPOOL

open F.LANEPOOL in
/-- Part 0 of the words of page LANEPOOL (R192). -/
def rowsLANEPOOL_0 : List Row := [
  Row.one 0x040 CAPTURE_ENABLE,
  Row.one 0x040 CAPTURE_MARGIN_DB,
  Row.one 0x044 PRE_ROLL,
  Row.one 0x048 SEARCH_MAX,
  Row.one 0x04C SELFCHECK,
  Row.arr 0x050 0x4 4 (fun i => FE_LIMIT_MIN i),
  Row.arr 0x050 0x4 4 (fun i => FE_LIMIT_MAX i),
  Row.arr 0x060 0x4 5 (fun i => IN_SERVICE i),
  Row.one 0x074 COUNTS_IN_SERVICE,
  Row.one 0x074 COUNTS_RESERVE,
  Row.one 0x074 COUNTS_RETIRED,
  Row.one 0x078 (BOUND 0),
  Row.one 0x078 (BOUND 1),
  Row.one 0x078 (BOUND 2),
  Row.one 0x078 (BOUND 3),
  Row.one 0x07C (BOUND_PEAK 0),
  Row.one 0x07C (BOUND_PEAK 1),
  Row.one 0x07C (BOUND_PEAK 2),
  Row.one 0x07C (BOUND_PEAK 3),
  Row.arr 0x080 0x4 4 (fun i => STARVED i),
  Row.arr 0x090 0x4 4 (fun i => PREEMPTED i),
  Row.arr 0x0A0 0x4 4 (fun i => CAPTURED i),
  Row.arr 0x0B0 0x4 4 (fun i => GAIN_MARKED i),
  Row.arr 0x0C0 0x4 4 (fun i => TX_PREEMPTED i)]

open F.LANEPOOL in
/-- Part 1 of the words of page LANEPOOL (R192). -/
def rowsLANEPOOL_1 : List Row := [
  Row.one 0x0D0 FAULTS,
  Row.one 0x0D4 FIFO_REFUSED,
  Row.one 0x0D8 LAST_SUBST_FAULTY,
  Row.one 0x0D8 LAST_SUBST_SUBSTITUTE,
  Row.one 0x0D8 LAST_SUBST_COUNT]

/-- The words of page LANEPOOL, row by row (R192). -/
def rowsLANEPOOL : List Row := List.flatten [rowsLANEPOOL_0, rowsLANEPOOL_1]

namespace F.PHY

/-- SYNC_CFG[n].TOL16: SFD bit errors tolerated, 0–3. -/
def SYNC_CFG_TOL16 (n : Nat) : Field := ⟨0x18, (0x040 + 0x4 * n), 0, 2, .rw, 1, .ordinary, .any, .always⟩
/-- SYNC_CFG[n].TOL32: extended-word bit errors tolerated, 0–6; 7 rejected. -/
def SYNC_CFG_TOL32 (n : Nat) : Field := ⟨0x18, (0x040 + 0x4 * n), 4, 3, .rw, 2, .ordinary, (.range 0 6), .always⟩
/-- SYNC_CFG[n].RX_FORM: 0 SFD, 1 extended, 2 both; 3 rejected; per R201. -/
def SYNC_CFG_RX_FORM (n : Nat) : Field := ⟨0x18, (0x040 + 0x4 * n), 8, 2, .rw, 0, .ordinary, (.range 0 2), .always⟩
/-- SYNC_CFG[n].SFD_SET: phySunFskSfd value, 0 or 1. -/
def SYNC_CFG_SFD_SET (n : Nat) : Field := ⟨0x18, (0x040 + 0x4 * n), 12, 1, .rw, 0, .ordinary, .any, .always⟩
/-- SYNC_CFG[n].TX_EXT: 1 = scheduled FSK frames use the extended word; per R201. -/
def SYNC_CFG_TX_EXT (n : Nat) : Field := ⟨0x18, (0x040 + 0x4 * n), 16, 1, .rw, 0, .ordinary, .any, .always⟩
/-- SYNC32_UNCODED: extended word for uncoded frames, bit 0 first on air; per R201. -/
def SYNC32_UNCODED : Field := ⟨0x18, 0x050, 0, 32, .rw, 0, .ordinary, .any, .always⟩
/-- SYNC32_CODED: extended word for coded frames; per R201. -/
def SYNC32_CODED : Field := ⟨0x18, 0x054, 0, 32, .rw, 0, .ordinary, .any, .always⟩
/-- FEC_CFG[n].SCHEME: 0 NRNSC, 1 RSC. -/
def FEC_CFG_SCHEME (n : Nat) : Field := ⟨0x18, (0x060 + 0x4 * n), 0, 1, .rw, 0, .ordinary, .any, .always⟩
/-- FEC_CFG[n].INTERLEAVE: 1 = interleaver on; rejected with SCHEME 0. -/
def FEC_CFG_INTERLEAVE (n : Nat) : Field := ⟨0x18, (0x060 + 0x4 * n), 1, 1, .rw, 0, .ordinary, .any, .always⟩
/-- TX_CFG[n].PREAMBLE_OCTETS: FSK preamble, 4–1,000 octets. -/
def TX_CFG_PREAMBLE_OCTETS (n : Nat) : Field := ⟨0x18, (0x070 + 0x4 * n), 0, 10, .rw, 8, .ordinary, (.range 4 1000), .always⟩
/-- TX_CFG[n].DW: 1 = whiten transmitted FSK PSDUs. -/
def TX_CFG_DW (n : Nat) : Field := ⟨0x18, (0x070 + 0x4 * n), 12, 1, .rw, 1, .ordinary, .any, .always⟩
/-- TX_CFG[n].SHAPING: 0 Gaussian BT 0.5, 1 Gaussian BT 1.0, 2 none; 3 rejected. -/
def TX_CFG_SHAPING (n : Nat) : Field := ⟨0x18, (0x070 + 0x4 * n), 13, 2, .rw, 0, .ordinary, (.range 0 2), .always⟩
/-- TX_CFG[n].FEC: 1 = FEC for scheduled FSK frames that leave it to the default. -/
def TX_CFG_FEC (n : Nat) : Field := ⟨0x18, (0x070 + 0x4 * n), 16, 1, .rw, 0, .ordinary, .any, .always⟩
/-- TX_CFG[n].OQPSK_PREAMBLE: 4–15 octets. -/
def TX_CFG_OQPSK_PREAMBLE (n : Nat) : Field := ⟨0x18, (0x070 + 0x4 * n), 20, 4, .rw, 4, .ordinary, (.range 4 15), .always⟩
/-- OFDM_CFG.FCS_2: 0 = 4-octet FCS, 1 = 2-octet FCS for OFDM. -/
def OFDM_CFG_FCS_2 : Field := ⟨0x18, 0x080, 0, 1, .rw, 0, .ordinary, .any, .always⟩
/-- MS_CFG.FOLLOW: 1 = follow mode switches, per R213. -/
def MS_CFG_FOLLOW : Field := ⟨0x18, 0x084, 0, 1, .rw, 1, .ordinary, .any, .always⟩
/-- MS_CFG.GAP_US: 100–4,000 µs. -/
def MS_CFG_GAP_US : Field := ⟨0x18, 0x084, 16, 12, .rw, 1000, .ordinary, (.range 100 4000), .always⟩
/-- PHR_BAD[n]: PHRs failed; wraps at 2^32. -/
def PHR_BAD (n : Nat) : Field := ⟨0x18, (0x090 + 0x4 * n), 0, 32, .rc, 0, .ordinary, .any, .always⟩
/-- MS_RX[n]: mode switches followed; wraps at 2^32. -/
def MS_RX (n : Nat) : Field := ⟨0x18, (0x0A0 + 0x4 * n), 0, 32, .rc, 0, .ordinary, .any, .always⟩
/-- PHR_LAST[n]: reason of the last PHR failure: 0 none, 1 LENGTH_SHORT, 2 RESERVED_SET, 3 HCS, 4 RATE, 5 MS_CHECK, 6 MS_UNSUPPORTED, 7 MS_NOT_FOLLOWED. -/
def PHR_LAST (n : Nat) : Field := ⟨0x18, (0x0B0 + 0x4 * n), 0, 4, .ro, 0, .ordinary, .any, .always⟩
/-- TX_FAULTS: per R216; wraps at 2^32. -/
def TX_FAULTS : Field := ⟨0x18, 0x0C0, 0, 32, .rc, 0, .ordinary, .any, .always⟩
/-- TX_FAULT_LAST.FE: physical front end of the last fault. -/
def TX_FAULT_LAST_FE : Field := ⟨0x18, 0x0C4, 0, 2, .ro, 0, .ordinary, .any, .always⟩
/-- TX_FAULT_LAST.CAUSE: 1 compare mismatch, 2 parity. -/
def TX_FAULT_LAST_CAUSE : Field := ⟨0x18, 0x0C4, 8, 2, .ro, 0, .ordinary, .any, .always⟩
/-- TX_FAULT_LAST.MODE: mode code of the faulted frame. -/
def TX_FAULT_LAST_MODE : Field := ⟨0x18, 0x0C4, 16, 8, .ro, 0, .ordinary, .any, .always⟩
/-- SYNC_HIST[n][e]: sync matches with e differing bits; wraps at 2^32. -/
def SYNC_HIST (n : Nat) (e : Nat) : Field := ⟨0x18, (0x100 + 0x20 * n + 0x4 * e), 0, 32, .rc, 0, .ordinary, .any, .always⟩

end F.PHY

open F.PHY in
/-- Part 0 of the words of page PHY (R223). -/
def rowsPHY_0 : List Row := [
  Row.arr 0x040 0x4 4 (fun i => SYNC_CFG_TOL16 i),
  Row.arr 0x040 0x4 4 (fun i => SYNC_CFG_TOL32 i),
  Row.arr 0x040 0x4 4 (fun i => SYNC_CFG_RX_FORM i),
  Row.arr 0x040 0x4 4 (fun i => SYNC_CFG_SFD_SET i),
  Row.arr 0x040 0x4 4 (fun i => SYNC_CFG_TX_EXT i),
  Row.one 0x050 SYNC32_UNCODED,
  Row.one 0x054 SYNC32_CODED,
  Row.arr 0x060 0x4 4 (fun i => FEC_CFG_SCHEME i),
  Row.arr 0x060 0x4 4 (fun i => FEC_CFG_INTERLEAVE i),
  Row.arr 0x070 0x4 4 (fun i => TX_CFG_PREAMBLE_OCTETS i),
  Row.arr 0x070 0x4 4 (fun i => TX_CFG_DW i),
  Row.arr 0x070 0x4 4 (fun i => TX_CFG_SHAPING i),
  Row.arr 0x070 0x4 4 (fun i => TX_CFG_FEC i),
  Row.arr 0x070 0x4 4 (fun i => TX_CFG_OQPSK_PREAMBLE i),
  Row.one 0x080 OFDM_CFG_FCS_2,
  Row.one 0x084 MS_CFG_FOLLOW,
  Row.one 0x084 MS_CFG_GAP_US,
  Row.arr 0x090 0x4 4 (fun i => PHR_BAD i),
  Row.arr 0x0A0 0x4 4 (fun i => MS_RX i),
  Row.arr 0x0B0 0x4 4 (fun i => PHR_LAST i),
  Row.one 0x0C0 TX_FAULTS,
  Row.one 0x0C4 TX_FAULT_LAST_FE,
  Row.one 0x0C4 TX_FAULT_LAST_CAUSE,
  Row.one 0x0C4 TX_FAULT_LAST_MODE]

open F.PHY in
/-- Part 1 of the words of page PHY (R223). -/
def rowsPHY_1 : List Row := [
  Row.arr 0x100 0x4 7 (fun i => SYNC_HIST 0 i),
  Row.arr 0x120 0x4 7 (fun i => SYNC_HIST 1 i),
  Row.arr 0x140 0x4 7 (fun i => SYNC_HIST 2 i),
  Row.arr 0x160 0x4 7 (fun i => SYNC_HIST 3 i)]

/-- The words of page PHY, row by row (R223). -/
def rowsPHY : List Row := List.flatten [rowsPHY_0, rowsPHY_1]

namespace F.MAC

/-- PAN[p].PAN_ID: PAN ID of slot p, per R225. -/
def PAN_PAN_ID (p : Nat) : Field := ⟨0x19, (0x040 + 0x10 * p), 0, 16, .rw, 0xffff, .ordinary, .any, .always⟩
/-- PAN[p].ENABLE: 1 = slot enabled. -/
def PAN_ENABLE (p : Nat) : Field := ⟨0x19, (0x040 + 0x10 * p), 16, 1, .rw, 0, .ordinary, .any, .always⟩
/-- PAN[p].INSECURE: 1 = accept unsecured and level 1–4 frames, per R233. -/
def PAN_INSECURE (p : Nat) : Field := ⟨0x19, (0x040 + 0x10 * p), 17, 1, .rw, 0, .ordinary, .any, .always⟩
/-- PAN[p].JOIN_TO_RING: 1 = deliver join frames, per R233. -/
def PAN_JOIN_TO_RING (p : Nat) : Field := ⟨0x19, (0x040 + 0x10 * p), 18, 1, .rw, 0, .ordinary, .any, .always⟩
/-- PAN[p].GROUP_SLOT: slot for key-identifier mode 1 and key reference 0xFFFF. -/
def PAN_GROUP_SLOT (p : Nat) : Field := ⟨0x19, (0x044 + 0x10 * p), 0, 10, .rw, 0, .ordinary, .any, .always⟩
/-- PAN[p].GROUP_INDEX: key index for mode 1, 1–255; 0 rejected. -/
def PAN_GROUP_INDEX (p : Nat) : Field := ⟨0x19, (0x044 + 0x10 * p), 16, 8, .rw, 1, .ordinary, (.range 1 255), .always⟩
/-- PAN[p].TX_GROUP_SLOT: slot securing beacons and group-keyed frames sent. -/
def PAN_TX_GROUP_SLOT (p : Nat) : Field := ⟨0x19, (0x048 + 0x10 * p), 0, 10, .rw, 0, .ordinary, .any, .always⟩
/-- PAN[p].BEACON_LEVEL: 0, 5, 6 or 7; others rejected; 0 per R251. -/
def PAN_BEACON_LEVEL (p : Nat) : Field := ⟨0x19, (0x048 + 0x10 * p), 16, 3, .rw, 5, .ordinary, (.oneOf [0, 5, 6, 7]), .always⟩
/-- PAN[p].DSN: last data sequence number used. -/
def PAN_DSN (p : Nat) : Field := ⟨0x19, (0x04C + 0x10 * p), 0, 8, .ro, 0, .ordinary, .any, .always⟩
/-- ACK_CFG.ENABLE: 1 = answers sent, per R239. -/
def ACK_CFG_ENABLE : Field := ⟨0x19, 0x080, 0, 1, .rw, 1, .ordinary, .any, .always⟩
/-- ACK_CFG.TIME_IE: 1 = Time correction IE in Enhanced ACKs. -/
def ACK_CFG_TIME_IE : Field := ⟨0x19, 0x080, 1, 1, .rw, 1, .ordinary, .any, .always⟩
/-- ACK_CFG.TIME_IN_ANSWER: 1 = Mesh time IE in poll answers. -/
def ACK_CFG_TIME_IN_ANSWER : Field := ⟨0x19, 0x080, 2, 1, .rw, 0, .ordinary, .any, .always⟩
/-- ACK_CFG.REQUIRE_SECURE_RX: 1 = only secured acknowledgements match, per R244. -/
def ACK_CFG_REQUIRE_SECURE_RX : Field := ⟨0x19, 0x080, 3, 1, .rw, 0, .ordinary, .any, .always⟩
/-- ACK_WAIT: 200–20,000 µs. -/
def ACK_WAIT : Field := ⟨0x19, 0x084, 0, 15, .rw, 2000, .ordinary, (.range 200 20000), .always⟩
/-- RETRY.MAX_ATTEMPTS: 1–8. -/
def RETRY_MAX_ATTEMPTS : Field := ⟨0x19, 0x088, 0, 4, .rw, 4, .ordinary, (.range 1 8), .always⟩
/-- APPT_CFG.ENABLE: 1 = appointments granted. -/
def APPT_CFG_ENABLE : Field := ⟨0x19, 0x08C, 0, 1, .rw, 1, .ordinary, .any, .always⟩
/-- APPT_CFG.MIN_DRIFT: drift floor, 0.125 ppm units, 0–32,767. -/
def APPT_CFG_MIN_DRIFT : Field := ⟨0x19, 0x08C, 16, 15, .rw, 80, .ordinary, .any, .always⟩
/-- TXCNT.WARN_SLOT: slot that last reached 0xFF00_0000. -/
def TXCNT_WARN_SLOT : Field := ⟨0x19, 0x090, 0, 10, .ro, 0, .ordinary, .any, .always⟩
/-- TXCNT.STOP_SLOT: slot that last became exhausted. -/
def TXCNT_STOP_SLOT : Field := ⟨0x19, 0x090, 16, 10, .ro, 0, .ordinary, .any, .always⟩
/-- PASSED: frames that passed their verdict and were delivered, consumed or handed on; a join frame ended as DROP_ADDR under R233 is not counted. -/
def PASSED : Field := ⟨0x19, 0x0A0, 0, 32, .rc, 0, .ordinary, .any, .always⟩
/-- ADDR_DROPS: DROP_ADDR. -/
def ADDR_DROPS : Field := ⟨0x19, 0x0A4, 0, 32, .rc, 0, .ordinary, .any, .always⟩
/-- AUTH_DROPS: DROP_AUTH. -/
def AUTH_DROPS : Field := ⟨0x19, 0x0A8, 0, 32, .rc, 0, .ordinary, .any, .always⟩
/-- REPLAY_DROPS: DROP_REPLAY. -/
def REPLAY_DROPS : Field := ⟨0x19, 0x0AC, 0, 32, .rc, 0, .ordinary, .any, .always⟩
/-- KEY_UNKNOWN: DROP_KEY_UNKNOWN. -/
def KEY_UNKNOWN : Field := ⟨0x19, 0x0B0, 0, 32, .rc, 0, .ordinary, .any, .always⟩
/-- KEY_REVOKED: DROP_KEY_REVOKED, received and sent. -/
def KEY_REVOKED : Field := ⟨0x19, 0x0B4, 0, 32, .rc, 0, .ordinary, .any, .always⟩
/-- CRYPTO_FAULTS: DROP_CRYPTO_FAULT. -/
def CRYPTO_FAULTS : Field := ⟨0x19, 0x0B8, 0, 32, .rc, 0, .ordinary, .any, .always⟩
/-- INSECURE: INSECURE frames accepted. -/
def INSECURE : Field := ⟨0x19, 0x0BC, 0, 32, .rc, 0, .ordinary, .any, .always⟩
/-- JOIN_RX: join frames delivered. -/
def JOIN_RX : Field := ⟨0x19, 0x0C0, 0, 32, .rc, 0, .ordinary, .any, .always⟩
/-- ACKS_SENT: Imm-Acks and Enhanced ACKs sent. -/
def ACKS_SENT : Field := ⟨0x19, 0x0C4, 0, 32, .rc, 0, .ordinary, .any, .always⟩
/-- DUP_ACKED: per R238. -/
def DUP_ACKED : Field := ⟨0x19, 0x0C8, 0, 32, .rc, 0, .ordinary, .any, .always⟩
/-- ACKS_MATCHED: per R244. -/
def ACKS_MATCHED : Field := ⟨0x19, 0x0CC, 0, 32, .rc, 0, .ordinary, .any, .always⟩
/-- POLLS: polls that passed their verdict. -/
def POLLS : Field := ⟨0x19, 0x0D0, 0, 32, .rc, 0, .ordinary, .any, .always⟩
/-- ANSWERS_DATA: poll answers carrying a frame. -/
def ANSWERS_DATA : Field := ⟨0x19, 0x0D4, 0, 32, .rc, 0, .ordinary, .any, .always⟩
/-- ANSWERS_EMPTY: polls answered with an acknowledgement with frame pending clear, whatever the cause, per R242. -/
def ANSWERS_EMPTY : Field := ⟨0x19, 0x0D8, 0, 32, .rc, 0, .ordinary, .any, .always⟩
/-- FETCH_LATE: per R242. -/
def FETCH_LATE : Field := ⟨0x19, 0x0DC, 0, 32, .rc, 0, .ordinary, .any, .always⟩
/-- ANSWER_BUSY: per R239. -/
def ANSWER_BUSY : Field := ⟨0x19, 0x0E0, 0, 32, .rc, 0, .ordinary, .any, .always⟩
/-- LATE_VERDICT: per R239. -/
def LATE_VERDICT : Field := ⟨0x19, 0x0E4, 0, 32, .rc, 0, .ordinary, .any, .always⟩
/-- APPT_GRANTED: per R245. -/
def APPT_GRANTED : Field := ⟨0x19, 0x0E8, 0, 32, .rc, 0, .ordinary, .any, .always⟩
/-- APPT_REFUSED: per R245. -/
def APPT_REFUSED : Field := ⟨0x19, 0x0EC, 0, 32, .rc, 0, .ordinary, .any, .always⟩
/-- APPT_SKIPS: per R246. -/
def APPT_SKIPS : Field := ⟨0x19, 0x0F0, 0, 32, .rc, 0, .ordinary, .any, .always⟩
/-- RETRIES: per R244. -/
def RETRIES : Field := ⟨0x19, 0x0F4, 0, 32, .rc, 0, .ordinary, .any, .always⟩
/-- POLL_MISFIT: per R242. -/
def POLL_MISFIT : Field := ⟨0x19, 0x0F8, 0, 32, .rc, 0, .ordinary, .any, .always⟩

end F.MAC

open F.MAC in
/-- Part 0 of the words of page MAC (R260). -/
def rowsMAC_0 : List Row := [
  Row.arr 0x040 0x10 4 (fun i => PAN_PAN_ID i),
  Row.arr 0x040 0x10 4 (fun i => PAN_ENABLE i),
  Row.arr 0x040 0x10 4 (fun i => PAN_INSECURE i),
  Row.arr 0x040 0x10 4 (fun i => PAN_JOIN_TO_RING i),
  Row.arr 0x044 0x10 4 (fun i => PAN_GROUP_SLOT i),
  Row.arr 0x044 0x10 4 (fun i => PAN_GROUP_INDEX i),
  Row.arr 0x048 0x10 4 (fun i => PAN_TX_GROUP_SLOT i),
  Row.arr 0x048 0x10 4 (fun i => PAN_BEACON_LEVEL i),
  Row.arr 0x04C 0x10 4 (fun i => PAN_DSN i),
  Row.one 0x080 ACK_CFG_ENABLE,
  Row.one 0x080 ACK_CFG_TIME_IE,
  Row.one 0x080 ACK_CFG_TIME_IN_ANSWER,
  Row.one 0x080 ACK_CFG_REQUIRE_SECURE_RX,
  Row.one 0x084 ACK_WAIT,
  Row.one 0x088 RETRY_MAX_ATTEMPTS,
  Row.one 0x08C APPT_CFG_ENABLE,
  Row.one 0x08C APPT_CFG_MIN_DRIFT,
  Row.one 0x090 TXCNT_WARN_SLOT,
  Row.one 0x090 TXCNT_STOP_SLOT,
  Row.one 0x0A0 PASSED,
  Row.one 0x0A4 ADDR_DROPS,
  Row.one 0x0A8 AUTH_DROPS,
  Row.one 0x0AC REPLAY_DROPS,
  Row.one 0x0B0 KEY_UNKNOWN]

open F.MAC in
/-- Part 1 of the words of page MAC (R260). -/
def rowsMAC_1 : List Row := [
  Row.one 0x0B4 KEY_REVOKED,
  Row.one 0x0B8 CRYPTO_FAULTS,
  Row.one 0x0BC INSECURE,
  Row.one 0x0C0 JOIN_RX,
  Row.one 0x0C4 ACKS_SENT,
  Row.one 0x0C8 DUP_ACKED,
  Row.one 0x0CC ACKS_MATCHED,
  Row.one 0x0D0 POLLS,
  Row.one 0x0D4 ANSWERS_DATA,
  Row.one 0x0D8 ANSWERS_EMPTY,
  Row.one 0x0DC FETCH_LATE,
  Row.one 0x0E0 ANSWER_BUSY,
  Row.one 0x0E4 LATE_VERDICT,
  Row.one 0x0E8 APPT_GRANTED,
  Row.one 0x0EC APPT_REFUSED,
  Row.one 0x0F0 APPT_SKIPS,
  Row.one 0x0F4 RETRIES,
  Row.one 0x0F8 POLL_MISFIT]

/-- The words of page MAC, row by row (R260). -/
def rowsMAC : List Row := List.flatten [rowsMAC_0, rowsMAC_1]

namespace F.BEACON

/-- TRACK[t].PAN: PAN slot. -/
def TRACK_PAN (t : Nat) : Field := ⟨0x1A, (0x040 + 0x10 * t), 0, 2, .rw, 0, .ordinary, .any, .always⟩
/-- TRACK[t].FE: logical front end. -/
def TRACK_FE (t : Nat) : Field := ⟨0x1A, (0x040 + 0x10 * t), 4, 2, .rw, 0, .ordinary, .any, .always⟩
/-- TRACK[t].ENABLE: 1 = track sends. -/
def TRACK_ENABLE (t : Nat) : Field := ⟨0x1A, (0x040 + 0x10 * t), 8, 1, .rw, 0, .ordinary, .any, .always⟩
/-- TRACK[t].MODE: PHY mode code, per R194. -/
def TRACK_MODE (t : Nat) : Field := ⟨0x1A, (0x040 + 0x10 * t), 16, 8, .rw, 0, .ordinary, .phyMode, .always⟩
/-- TRACK[t].CHANNEL_HZ: channel centre, 1 Hz steps. -/
def TRACK_CHANNEL_HZ (t : Nat) : Field := ⟨0x1A, (0x044 + 0x10 * t), 0, 32, .rw, 0, .ordinary, .any, .always⟩
/-- TRACK[t].INTERVAL: 3,277–19,660,800 ticks (0.1–600 s). -/
def TRACK_INTERVAL (t : Nat) : Field := ⟨0x1A, (0x048 + 0x10 * t), 0, 32, .rw, 32768, .ordinary, (.range 3277 19660800), .always⟩
/-- TRACK[t].OFFSET: 0 to INTERVAL − 1 ticks. -/
def TRACK_OFFSET (t : Nat) : Field := ⟨0x1A, (0x04C + 0x10 * t), 0, 32, .rw, 0, .ordinary, .any, .always⟩
/-- CFG.SLIP_US: 0–10,000 µs. -/
def CFG_SLIP_US : Field := ⟨0x1A, 0x0C0, 0, 16, .rw, 500, .ordinary, (.range 0 10000), .always⟩
/-- CFG.COPY_TO_RING: 1 = copy peer beacons, per R234. -/
def CFG_COPY_TO_RING : Field := ⟨0x1A, 0x0C0, 16, 1, .rw, 0, .ordinary, .any, .always⟩
/-- CFG.OWN_PRIORITY: 0–255. -/
def CFG_OWN_PRIORITY : Field := ⟨0x1A, 0x0C0, 24, 8, .rw, 128, .ordinary, .any, .always⟩
/-- PEER_TOL: 100–65,535 µs. -/
def PEER_TOL : Field := ⟨0x1A, 0x0C4, 0, 16, .rw, 2000, .ordinary, (.range 100 65535), .always⟩
/-- REF.PEER: reference peer index; 63 = own. -/
def REF_PEER : Field := ⟨0x1A, 0x0C8, 0, 6, .ro, 63, .ordinary, .any, .always⟩
/-- REF.FREE_RUN: 1 = free-running, per R256. -/
def REF_FREE_RUN : Field := ⟨0x1A, 0x0C8, 8, 1, .ro, 0, .ordinary, .any, .always⟩
/-- BSN[t]: last beacon sequence number of track t. -/
def BSN (t : Nat) : Field := ⟨0x1A, (0x0D0 + 4 * (t / 4)), (8 * (t % 4)), 8, .ro, 0, .ordinary, .any, .always⟩
/-- UNKNOWN_BEACONS: per R254. -/
def UNKNOWN_BEACONS : Field := ⟨0x1A, 0x0E0, 0, 32, .rc, 0, .ordinary, .any, .always⟩
/-- LATE: per R251. -/
def LATE : Field := ⟨0x1A, 0x0E4, 0, 32, .rc, 0, .ordinary, .any, .always⟩
/-- SENT: beacons sent. -/
def SENT : Field := ⟨0x1A, 0x0E8, 0, 32, .rc, 0, .ordinary, .any, .always⟩
/-- PEER[i].EUI64_LO: low word of the peer's EUI-64. -/
def PEER_EUI64_LO (i : Nat) : Field := ⟨0x1A, (0x100 + 0x20 * i), 0, 32, .rw, 0, .ordinary, .any, .always⟩
/-- PEER[i].EUI64_HI: high word. -/
def PEER_EUI64_HI (i : Nat) : Field := ⟨0x1A, (0x104 + 0x20 * i), 0, 32, .rw, 0, .ordinary, .any, .always⟩
/-- PEER[i].INTERVAL: expected interval, 3,277–19,660,800 ticks. -/
def PEER_INTERVAL (i : Nat) : Field := ⟨0x1A, (0x108 + 0x20 * i), 0, 32, .rw, 32768, .ordinary, (.range 3277 19660800), .always⟩
/-- PEER[i].ENABLE: 1 = tracked. -/
def PEER_ENABLE (i : Nat) : Field := ⟨0x1A, (0x10C + 0x20 * i), 0, 1, .rw, 0, .ordinary, .any, .always⟩
/-- PEER[i].KEY_SLOT: key slot for the peer's beacons. -/
def PEER_KEY_SLOT (i : Nat) : Field := ⟨0x1A, (0x10C + 0x20 * i), 4, 10, .rw, 0, .ordinary, .any, .always⟩
/-- PEER[i].STATE: 0 UNSEEN, 1 PRESENT, 2 ABSENT. -/
def PEER_STATE (i : Nat) : Field := ⟨0x1A, (0x10C + 0x20 * i), 16, 2, .ro, 0, .ordinary, .any, .always⟩
/-- PEER[i].MISSES: consecutive misses, 0–3. -/
def PEER_MISSES (i : Nat) : Field := ⟨0x1A, (0x10C + 0x20 * i), 20, 2, .ro, 0, .ordinary, .any, .always⟩
/-- PEER[i].LAST_HEARD: low 32 bits of mesh time. -/
def PEER_LAST_HEARD (i : Nat) : Field := ⟨0x1A, (0x110 + 0x20 * i), 0, 32, .ro, 0, .ordinary, .any, .always⟩
/-- PEER[i].OFFSET_NS: signed, per R254. -/
def PEER_OFFSET_NS (i : Nat) : Field := ⟨0x1A, (0x114 + 0x20 * i), 0, 32, .ro, 0, .ordinary, .any, .always⟩
/-- PEER[i].LAST_FC: last accepted beacon counter. -/
def PEER_LAST_FC (i : Nat) : Field := ⟨0x1A, (0x118 + 0x20 * i), 0, 32, .ro, 0, .ordinary, .any, .always⟩
/-- PEER[i].HEARD: beacons passed, saturating. -/
def PEER_HEARD (i : Nat) : Field := ⟨0x1A, (0x11C + 0x20 * i), 0, 16, .rc, 0, .ordinary, .any, .always⟩
/-- PEER[i].LOST_COUNT: PEER_LOST occurrences, saturating. -/
def PEER_LOST_COUNT (i : Nat) : Field := ⟨0x1A, (0x11C + 0x20 * i), 16, 16, .rc, 0, .ordinary, .any, .always⟩

end F.BEACON

open F.BEACON in
/-- Part 0 of the words of page BEACON (R262). -/
def rowsBEACON_0 : List Row := [
  Row.arr 0x040 0x10 8 (fun i => TRACK_PAN i),
  Row.arr 0x040 0x10 8 (fun i => TRACK_FE i),
  Row.arr 0x040 0x10 8 (fun i => TRACK_ENABLE i),
  Row.arr 0x040 0x10 8 (fun i => TRACK_MODE i),
  Row.arr 0x044 0x10 8 (fun i => TRACK_CHANNEL_HZ i),
  Row.arr 0x048 0x10 8 (fun i => TRACK_INTERVAL i),
  Row.arr 0x04C 0x10 8 (fun i => TRACK_OFFSET i),
  Row.one 0x0C0 CFG_SLIP_US,
  Row.one 0x0C0 CFG_COPY_TO_RING,
  Row.one 0x0C0 CFG_OWN_PRIORITY,
  Row.one 0x0C4 PEER_TOL,
  Row.one 0x0C8 REF_PEER,
  Row.one 0x0C8 REF_FREE_RUN,
  Row.arr 0x0D0 4 2 (fun i => BSN (4 * i + 0)),
  Row.arr 0x0D0 4 2 (fun i => BSN (4 * i + 1)),
  Row.arr 0x0D0 4 2 (fun i => BSN (4 * i + 2)),
  Row.arr 0x0D0 4 2 (fun i => BSN (4 * i + 3)),
  Row.one 0x0E0 UNKNOWN_BEACONS,
  Row.one 0x0E4 LATE,
  Row.one 0x0E8 SENT,
  Row.arr 0x100 0x20 32 (fun i => PEER_EUI64_LO i),
  Row.arr 0x104 0x20 32 (fun i => PEER_EUI64_HI i),
  Row.arr 0x108 0x20 32 (fun i => PEER_INTERVAL i),
  Row.arr 0x10C 0x20 32 (fun i => PEER_ENABLE i)]

open F.BEACON in
/-- Part 1 of the words of page BEACON (R262). -/
def rowsBEACON_1 : List Row := [
  Row.arr 0x10C 0x20 32 (fun i => PEER_KEY_SLOT i),
  Row.arr 0x10C 0x20 32 (fun i => PEER_STATE i),
  Row.arr 0x10C 0x20 32 (fun i => PEER_MISSES i),
  Row.arr 0x110 0x20 32 (fun i => PEER_LAST_HEARD i),
  Row.arr 0x114 0x20 32 (fun i => PEER_OFFSET_NS i),
  Row.arr 0x118 0x20 32 (fun i => PEER_LAST_FC i),
  Row.arr 0x11C 0x20 32 (fun i => PEER_HEARD i),
  Row.arr 0x11C 0x20 32 (fun i => PEER_LOST_COUNT i)]

/-- The words of page BEACON, row by row (R262). -/
def rowsBEACON : List Row := List.flatten [rowsBEACON_0, rowsBEACON_1]

namespace F.WAKEF

/-- CFG.CEILING: 1–96 nodes per filter. -/
def CFG_CEILING : Field := ⟨0x1B, 0x040, 0, 7, .rw, 48, .ordinary, (.range 1 96), .always⟩
/-- PENDING[p]: nodes of slot p with PENDING set. -/
def PENDING (p : Nat) : Field := ⟨0x1B, (0x044 + 0x4 * p), 0, 18, .ro, 0, .ordinary, .any, .always⟩
/-- PART[p].INDEX: last partition carried for slot p. -/
def PART_INDEX (p : Nat) : Field := ⟨0x1B, (0x054 + 0x4 * p), 0, 12, .ro, 0, .ordinary, .any, .always⟩
/-- PART[p].K: present k, per R253. -/
def PART_K (p : Nat) : Field := ⟨0x1B, (0x054 + 0x4 * p), 12, 4, .ro, 0, .ordinary, .any, .always⟩
/-- PARTITIONED: beacons built with k > 0. -/
def PARTITIONED : Field := ⟨0x1B, 0x064, 0, 32, .rc, 0, .ordinary, .any, .always⟩
/-- OVER_CEILING: per R253. -/
def OVER_CEILING : Field := ⟨0x1B, 0x068, 0, 32, .rc, 0, .ordinary, .any, .always⟩
/-- PENDING_PEAK: highest PENDING[p] of any slot since last read. -/
def PENDING_PEAK : Field := ⟨0x1B, 0x06C, 0, 18, .rc, 0, .ordinary, .any, .always⟩

end F.WAKEF

open F.WAKEF in
/-- Part 0 of the words of page WAKEF (R263). -/
def rowsWAKEF_0 : List Row := [
  Row.one 0x040 CFG_CEILING,
  Row.arr 0x044 0x4 4 (fun i => PENDING i),
  Row.arr 0x054 0x4 4 (fun i => PART_INDEX i),
  Row.arr 0x054 0x4 4 (fun i => PART_K i),
  Row.one 0x064 PARTITIONED,
  Row.one 0x068 OVER_CEILING,
  Row.one 0x06C PENDING_PEAK]

/-- The words of page WAKEF, row by row (R263). -/
def rowsWAKEF : List Row := List.flatten [rowsWAKEF_0]

end Sys2Proof.Machine
end

