-- ==== Sys2Proof/Machine/RegsC.lean ====
section
/-! DEFINITION. The register fields of the node, forwarding, scheduling and dissemination pages, as the register tables of the spec
lay them out: page, offset, lowest bit, width, access type (R9), reset value, what keeps the field over a reset
(R622), and the values and page states in which a write is accepted (R76). -/

namespace Sys2Proof.Machine

namespace F.NODE

/-- EXT_BASE_LO: DDR address bits [31:0] of the extended table; bits [24:0] must be 0; writable only in OFF; per R267. -/
def EXT_BASE_LO : Field := ⟨0x20, 0x040, 0, 32, .rw, 0, .ordinary, (.aligned 25), .off⟩
/-- EXT_BASE_HI: DDR address bits [33:32]; writable only in OFF. -/
def EXT_BASE_HI : Field := ⟨0x20, 0x044, 0, 2, .rw, 0, .ordinary, .any, .off⟩
/-- SWEEP.PERIOD: k, 0–16; period 2^k s. -/
def SWEEP_PERIOD : Field := ⟨0x20, 0x048, 0, 5, .rw, 10, .ordinary, (.range 0 16), .always⟩
/-- SWEEP.ENABLE: 1 = sweeper runs. -/
def SWEEP_ENABLE : Field := ⟨0x20, 0x048, 8, 1, .rw, 1, .ordinary, .any, .always⟩
/-- SWEEP_POSITION: next index to visit. -/
def SWEEP_POSITION : Field := ⟨0x20, 0x04C, 0, 18, .ro, 0, .ordinary, .any, .always⟩
/-- SWEEP_EPOCH: completed passes; wraps at 2^16. -/
def SWEEP_EPOCH : Field := ⟨0x20, 0x050, 0, 16, .ro, 0, .ordinary, .any, .always⟩
/-- CMD.INDEX: entry for the command. -/
def CMD_INDEX : Field := ⟨0x20, 0x054, 0, 18, .wo, 0, .ordinary, .any, .always⟩
/-- CMD.OP: operation, 1–6, per R287. -/
def CMD_OP : Field := ⟨0x20, 0x054, 24, 4, .wo, 0, .ordinary, (.range 1 6), .always⟩
/-- CMD_STATUS.BUSY: 1 = command running. -/
def CMD_STATUS_BUSY : Field := ⟨0x20, 0x058, 0, 1, .ro, 0, .ordinary, .any, .always⟩
/-- CMD_STATUS.RESULT: 0 NONE, 1 DONE, 2 BAD_INDEX, 3 EXISTS, 4 ABSENT, 5 BAD_FIELD, 6 DDR_ERROR. -/
def CMD_STATUS_RESULT : Field := ⟨0x20, 0x058, 4, 4, .ro, 0, .ordinary, .any, .always⟩
/-- CMD_STATUS.OP: operation of the last command. -/
def CMD_STATUS_OP : Field := ⟨0x20, 0x058, 8, 4, .ro, 0, .ordinary, .any, .always⟩
/-- CMD_STATUS.INDEX: index of the last command. -/
def CMD_STATUS_INDEX : Field := ⟨0x20, 0x058, 14, 18, .ro, 0, .ordinary, .any, .always⟩
/-- CMD_MASK: bit b = write core octet b, for UPDATE. -/
def CMD_MASK : Field := ⟨0x20, 0x05C, 0, 32, .rw, 0, .ordinary, .any, .always⟩
/-- CMD_FLAG_MASK: bit b = write flag b, for UPDATE. -/
def CMD_FLAG_MASK : Field := ⟨0x20, 0x060, 0, 8, .rw, 0, .ordinary, .any, .always⟩
/-- CMD_EXT_MASK: bit w = write extended word w (octets 4w–4w+3), for UPDATE. -/
def CMD_EXT_MASK : Field := ⟨0x20, 0x064, 0, 32, .rw, 0, .ordinary, .any, .always⟩
/-- CMD_CORE[0–7]: core record image, octets 4i–4i+3. -/
def CMD_CORE (k : Nat) : Field := ⟨0x20, (0x080 + 0x4 * k), 0, 32, .rw, 0, .ordinary, .any, .always⟩
/-- LEARNED: PATH_VALID set by learning. -/
def LEARNED : Field := ⟨0x20, 0x0A0, 0, 32, .rc, 0, .ordinary, .any, .always⟩
/-- MOVED: per R275. -/
def MOVED : Field := ⟨0x20, 0x0A4, 0, 32, .rc, 0, .ordinary, .any, .always⟩
/-- PITON_MISMATCH: per R275. -/
def PITON_MISMATCH : Field := ⟨0x20, 0x0A8, 0, 32, .rc, 0, .ordinary, .any, .always⟩
/-- AGED: per R277. -/
def AGED : Field := ⟨0x20, 0x0AC, 0, 32, .rc, 0, .ordinary, .any, .always⟩
/-- IE_IGNORED: per R274. -/
def IE_IGNORED : Field := ⟨0x20, 0x0B0, 0, 32, .rc, 0, .ordinary, .any, .always⟩
/-- IE_TRUNCATED: per R274. -/
def IE_TRUNCATED : Field := ⟨0x20, 0x0B4, 0, 32, .rc, 0, .ordinary, .any, .always⟩
/-- UNKNOWN_ORIGIN: per R273. -/
def UNKNOWN_ORIGIN : Field := ⟨0x20, 0x0B8, 0, 32, .rc, 0, .ordinary, .any, .always⟩
/-- BLOCKED_HEARD: per R227 and R273. -/
def BLOCKED_HEARD : Field := ⟨0x20, 0x0BC, 0, 32, .rc, 0, .ordinary, .any, .always⟩
/-- WINDOW_DISCARDS: per R284 and R285. -/
def WINDOW_DISCARDS : Field := ⟨0x20, 0x0C0, 0, 32, .rc, 0, .ordinary, .any, .always⟩
/-- WINDOW_LAST: index of the last discarded window write. -/
def WINDOW_LAST : Field := ⟨0x20, 0x0C4, 0, 18, .ro, 0, .ordinary, .any, .always⟩
/-- LOST: per R291. -/
def LOST : Field := ⟨0x20, 0x0C8, 0, 32, .rc, 0, .ordinary, .any, .always⟩
/-- LOST_INDEX: last entry lost. -/
def LOST_INDEX : Field := ⟨0x20, 0x0CC, 0, 18, .ro, 0, .ordinary, .any, .always⟩
/-- LOST_INDEX.VALID: 1 = an entry has been lost since reset. -/
def LOST_INDEX_VALID : Field := ⟨0x20, 0x0CC, 31, 1, .ro, 0, .ordinary, .any, .always⟩
/-- COUNT_VALID: entries with VALID = 1. -/
def COUNT_VALID : Field := ⟨0x20, 0x0D0, 0, 18, .ro, 0, .ordinary, .any, .always⟩
/-- COUNT_PATH: entries with PATH_VALID = 1. -/
def COUNT_PATH : Field := ⟨0x20, 0x0D4, 0, 18, .ro, 0, .ordinary, .any, .always⟩
/-- COUNT_PITON: entries with PITON = 1. -/
def COUNT_PITON : Field := ⟨0x20, 0x0D8, 0, 18, .ro, 0, .ordinary, .any, .always⟩
/-- COUNT_SLEEPY: entries with SLEEPY = 1. -/
def COUNT_SLEEPY : Field := ⟨0x20, 0x0DC, 0, 18, .ro, 0, .ordinary, .any, .always⟩
/-- CMD_EXT[0–31]: extended record image, octets 4w–4w+3. -/
def CMD_EXT (k : Nat) : Field := ⟨0x20, (0x100 + 0x4 * k), 0, 32, .rw, 0, .ordinary, .any, .always⟩
/-- SCAN[0].INDEX: index of the scanned entry. -/
def SCAN0_INDEX : Field := ⟨0x20, 0x200, 0, 18, .ro, 0, .ordinary, .any, .always⟩
/-- SCAN[0].NONE: 1 = no entry is VALID. -/
def SCAN0_NONE : Field := ⟨0x20, 0x200, 23, 1, .ro, 1, .ordinary, .any, .always⟩
/-- SCAN[0].FLAGS: FLAGS octet. -/
def SCAN0_FLAGS : Field := ⟨0x20, 0x200, 24, 8, .ro, 0, .ordinary, .any, .always⟩
/-- SCAN[1–2]: EUI64, low word first. -/
def SCAN_EUI (k : Nat) : Field := ⟨0x20, (0x204 + 4 * k), 0, 32, .ro, 0, .ordinary, .any, .always⟩
/-- SCAN[3]: LAST_HEARD. -/
def SCAN3 : Field := ⟨0x20, 0x20C, 0, 32, .ro, 0, .ordinary, .any, .always⟩
/-- SCAN[4].PORT: PORT octet. -/
def SCAN4_PORT : Field := ⟨0x20, 0x210, 0, 8, .ro, 0, .ordinary, .any, .always⟩
/-- SCAN[4].FIRST_HOP: FIRST_HOP. -/
def SCAN4_FIRST_HOP : Field := ⟨0x20, 0x210, 8, 16, .ro, 0, .ordinary, .any, .always⟩
/-- SCAN[4].ASSAY: ASSAY. -/
def SCAN4_ASSAY : Field := ⟨0x20, 0x210, 24, 8, .ro, 0, .ordinary, .any, .always⟩
/-- SCAN[5].DRIFT: DRIFT. -/
def SCAN5_DRIFT : Field := ⟨0x20, 0x214, 0, 16, .ro, 0, .ordinary, .any, .always⟩
/-- SCAN[5].APPT: APPT. -/
def SCAN5_APPT : Field := ⟨0x20, 0x214, 16, 8, .ro, 0, .ordinary, .any, .always⟩
/-- SCAN[6]: RX_PASSED. -/
def SCAN6 : Field := ⟨0x20, 0x218, 0, 32, .ro, 0, .ordinary, .any, .always⟩
/-- SCAN[7].MOVES: MOVES; a read over MGMT SPI advances the scan, per R294. -/
def SCAN7_MOVES : Field := ⟨0x20, 0x21C, 0, 16, .ro, 0, .ordinary, .any, .always⟩
/-- SCAN[7].LAST_DISP: LAST_DISP. -/
def SCAN7_LAST_DISP : Field := ⟨0x20, 0x21C, 16, 8, .ro, 0, .ordinary, .any, .always⟩

end F.NODE

open F.NODE in
/-- Part 0 of the words of page NODE (R295). -/
def rowsNODE_0 : List Row := [
  Row.one 0x040 EXT_BASE_LO,
  Row.one 0x044 EXT_BASE_HI,
  Row.one 0x048 SWEEP_PERIOD,
  Row.one 0x048 SWEEP_ENABLE,
  Row.one 0x04C SWEEP_POSITION,
  Row.one 0x050 SWEEP_EPOCH,
  Row.one 0x054 CMD_INDEX,
  Row.one 0x054 CMD_OP,
  Row.one 0x058 CMD_STATUS_BUSY,
  Row.one 0x058 CMD_STATUS_RESULT,
  Row.one 0x058 CMD_STATUS_OP,
  Row.one 0x058 CMD_STATUS_INDEX,
  Row.one 0x05C CMD_MASK,
  Row.one 0x060 CMD_FLAG_MASK,
  Row.one 0x064 CMD_EXT_MASK,
  Row.arr 0x080 0x4 8 (fun i => CMD_CORE i),
  Row.one 0x0A0 LEARNED,
  Row.one 0x0A4 MOVED,
  Row.one 0x0A8 PITON_MISMATCH,
  Row.one 0x0AC AGED,
  Row.one 0x0B0 IE_IGNORED,
  Row.one 0x0B4 IE_TRUNCATED,
  Row.one 0x0B8 UNKNOWN_ORIGIN,
  Row.one 0x0BC BLOCKED_HEARD]

open F.NODE in
/-- Part 1 of the words of page NODE (R295). -/
def rowsNODE_1 : List Row := [
  Row.one 0x0C0 WINDOW_DISCARDS,
  Row.one 0x0C4 WINDOW_LAST,
  Row.one 0x0C8 LOST,
  Row.one 0x0CC LOST_INDEX,
  Row.one 0x0CC LOST_INDEX_VALID,
  Row.one 0x0D0 COUNT_VALID,
  Row.one 0x0D4 COUNT_PATH,
  Row.one 0x0D8 COUNT_PITON,
  Row.one 0x0DC COUNT_SLEEPY,
  Row.arr 0x100 0x4 32 (fun i => CMD_EXT i),
  Row.one 0x200 SCAN0_INDEX,
  Row.one 0x200 SCAN0_NONE,
  Row.one 0x200 SCAN0_FLAGS,
  Row.arr 0x204 4 2 (fun i => SCAN_EUI i),
  Row.one 0x20C SCAN3,
  Row.one 0x210 SCAN4_PORT,
  Row.one 0x210 SCAN4_FIRST_HOP,
  Row.one 0x210 SCAN4_ASSAY,
  Row.one 0x214 SCAN5_DRIFT,
  Row.one 0x214 SCAN5_APPT,
  Row.one 0x218 SCAN6,
  Row.one 0x21C SCAN7_MOVES,
  Row.one 0x21C SCAN7_LAST_DISP]

/-- The words of page NODE, row by row (R295). -/
def rowsNODE : List Row := List.flatten [rowsNODE_0, rowsNODE_1]

namespace F.FWD

/-- CFG.NOMATCH_TO_RING: 1 = unmatched prefixes to ETH_OTHER, per R310. -/
def CFG_NOMATCH_TO_RING : Field := ⟨0x21, 0x040, 0, 1, .rw, 0, .ordinary, .any, .always⟩
/-- CFG.UNRESOLVED_TO_RING: 1 = unresolvable IIDs to ETH_OTHER, per R310. -/
def CFG_UNRESOLVED_TO_RING : Field := ⟨0x21, 0x040, 1, 1, .rw, 0, .ordinary, .any, .always⟩
/-- CFG.ETH_OTHER_TO_RING: 1 = frames not taken to ETH_OTHER, per R309. -/
def CFG_ETH_OTHER_TO_RING : Field := ⟨0x21, 0x040, 2, 1, .rw, 1, .ordinary, .any, .always⟩
/-- PENDING_TIMEOUT: 1–65,535 s; 0 rejected. -/
def PENDING_TIMEOUT : Field := ⟨0x21, 0x044, 0, 16, .rw, 600, .ordinary, (.range 1 65535), .always⟩
/-- PEND_MAX: 1–64 frames per node. -/
def PEND_MAX : Field := ⟨0x21, 0x048, 0, 7, .rw, 8, .ordinary, (.range 1 64), .always⟩
/-- PEND_TOTAL: pending frames of all nodes. -/
def PEND_TOTAL : Field := ⟨0x21, 0x04C, 0, 20, .ro, 0, .ordinary, .any, .always⟩
/-- PEND_PEAK: highest PEND_TOTAL since last read. -/
def PEND_PEAK : Field := ⟨0x21, 0x050, 0, 20, .rc, 0, .ordinary, .any, .always⟩
/-- RING_MAP.CLASSc, c = 0–7: ring for class c, 0–15. -/
def RING_MAP_CLASS (c : Nat) : Field := ⟨0x21, 0x060, (4 * c), 4, .rw, 0, .ordinary, .any, .always⟩
/-- RING_MAP.CLASS8: ring for UPLINK_HOST. -/
def RING_MAP_CLASS8 : Field := ⟨0x21, 0x064, 0, 4, .rw, 0, .ordinary, .any, .always⟩
/-- SLOT[p].PREFIX_HI: prefix octets 0–3. -/
def SLOT_PREFIX_HI (p : Nat) : Field := ⟨0x21, (0x080 + 0x20 * p), 0, 32, .rw, 0, .ordinary, .any, .always⟩
/-- SLOT[p].PREFIX_LO: prefix octets 4–7. -/
def SLOT_PREFIX_LO (p : Nat) : Field := ⟨0x21, (0x084 + 0x20 * p), 0, 32, .rw, 0, .ordinary, .any, .always⟩
/-- SLOT[p].PREFIX_EN: 1 = prefix in use, per R299. -/
def SLOT_PREFIX_EN (p : Nat) : Field := ⟨0x21, (0x088 + 0x20 * p), 0, 1, .rw, 0, .ordinary, .any, .always⟩
/-- SLOT[p].TARGET: 0 ETH0, 1 ETH1, 2 host; 3 rejected. -/
def SLOT_TARGET (p : Nat) : Field := ⟨0x21, (0x088 + 0x20 * p), 1, 2, .rw, 0, .ordinary, (.range 0 2), .always⟩
/-- SLOT[p].HAIRPIN: 1 = mesh-to-mesh forwarded, per R302. -/
def SLOT_HAIRPIN (p : Nat) : Field := ⟨0x21, (0x088 + 0x20 * p), 3, 1, .rw, 0, .ordinary, .any, .always⟩
/-- SLOT[p].VLAN_EN: 1 = tagged. -/
def SLOT_VLAN_EN (p : Nat) : Field := ⟨0x21, (0x088 + 0x20 * p), 4, 1, .rw, 1, .ordinary, .any, .always⟩
/-- SLOT[p].VID: 1–4,094; others rejected. -/
def SLOT_VID (p : Nat) : Field := ⟨0x21, (0x088 + 0x20 * p), 16, 12, .rw, 1, .ordinary, (.range 1 4094), .always⟩
/-- SLOT[p].PCP: priority of uplink frames. -/
def SLOT_PCP (p : Nat) : Field := ⟨0x21, (0x088 + 0x20 * p), 28, 3, .rw, 0, .ordinary, .any, .always⟩
/-- SLOT[p].GW_MAC_HI: gateway MAC octets 0–1. -/
def SLOT_GW_MAC_HI (p : Nat) : Field := ⟨0x21, (0x08C + 0x20 * p), 0, 16, .rw, 0, .ordinary, .any, .always⟩
/-- SLOT[p].PCP_LOW: priority of policer-marked uplink frames. -/
def SLOT_PCP_LOW (p : Nat) : Field := ⟨0x21, (0x08C + 0x20 * p), 16, 3, .rw, 0, .ordinary, .any, .always⟩
/-- SLOT[p].GW_MAC_LO: gateway MAC octets 2–5. -/
def SLOT_GW_MAC_LO (p : Nat) : Field := ⟨0x21, (0x090 + 0x20 * p), 0, 32, .rw, 0, .ordinary, .any, .always⟩
/-- SLOT[p].LEVEL: security level of downlink frames, 5–7. -/
def SLOT_LEVEL (p : Nat) : Field := ⟨0x21, (0x094 + 0x20 * p), 0, 3, .rw, 5, .ordinary, (.range 5 7), .always⟩
/-- SLOT[p].RPI_EN: 1 = RPI-6LoRH added, per R307. -/
def SLOT_RPI_EN (p : Nat) : Field := ⟨0x21, (0x094 + 0x20 * p), 8, 1, .rw, 0, .ordinary, .any, .always⟩
/-- SLOT[p].RPI_INSTANCE: RPLInstanceID. -/
def SLOT_RPI_INSTANCE (p : Nat) : Field := ⟨0x21, (0x094 + 0x20 * p), 16, 8, .rw, 0, .ordinary, .any, .always⟩
/-- DOWN[f].MODE: downlink PHY mode code, per R194. -/
def DOWN_MODE (f : Nat) : Field := ⟨0x21, (0x100 + 0x8 * f), 0, 8, .rw, 0, .ordinary, .phyMode, .always⟩
/-- DOWN[f].CHANNEL_HZ: downlink channel centre, 1 Hz. -/
def DOWN_CHANNEL_HZ (f : Nat) : Field := ⟨0x21, (0x104 + 0x8 * f), 0, 32, .rw, 0, .ordinary, .any, .always⟩
/-- ALIAS[a].PREFIX_HI: prefix octets 0–3. -/
def ALIAS_PREFIX_HI (a : Nat) : Field := ⟨0x21, (0x180 + 0x10 * a), 0, 32, .rw, 0, .ordinary, .any, .always⟩
/-- ALIAS[a].PREFIX_LO: prefix octets 4–7. -/
def ALIAS_PREFIX_LO (a : Nat) : Field := ⟨0x21, (0x184 + 0x10 * a), 0, 32, .rw, 0, .ordinary, .any, .always⟩
/-- ALIAS[a].SLOT: serving slot. -/
def ALIAS_SLOT (a : Nat) : Field := ⟨0x21, (0x188 + 0x10 * a), 0, 2, .rw, 0, .ordinary, .any, .always⟩
/-- ALIAS[a].ENABLE: 1 = in use. -/
def ALIAS_ENABLE (a : Nat) : Field := ⟨0x21, (0x188 + 0x10 * a), 8, 1, .rw, 0, .ordinary, .any, .always⟩
/-- UP_ETH: uplink packets queued to ETH0 or ETH1. -/
def UP_ETH : Field := ⟨0x21, 0x300, 0, 32, .rc, 0, .ordinary, .any, .always⟩
/-- UP_RING: packets delivered to any class. -/
def UP_RING : Field := ⟨0x21, 0x304, 0, 32, .rc, 0, .ordinary, .any, .always⟩
/-- HAIRPINS: packets entering the downlink tree by hairpin. -/
def HAIRPINS : Field := ⟨0x21, 0x308, 0, 32, .rc, 0, .ordinary, .any, .always⟩
/-- DOWN_QUEUED: downlink frames queued to a scheduler. -/
def DOWN_QUEUED : Field := ⟨0x21, 0x30C, 0, 32, .rc, 0, .ordinary, .any, .always⟩
/-- DOWN_PENDING: downlink frames stored as pending. -/
def DOWN_PENDING : Field := ⟨0x21, 0x310, 0, 32, .rc, 0, .ordinary, .any, .always⟩
/-- NO_PATH: per R310. -/
def NO_PATH : Field := ⟨0x21, 0x314, 0, 32, .rc, 0, .ordinary, .any, .always⟩
/-- HOP_LIMIT: per R304. -/
def HOP_LIMIT : Field := ⟨0x21, 0x318, 0, 32, .rc, 0, .ordinary, .any, .always⟩
/-- PEND_TIMEOUTS: per R311. -/
def PEND_TIMEOUTS : Field := ⟨0x21, 0x31C, 0, 32, .rc, 0, .ordinary, .any, .always⟩
/-- PEND_EVICTED: per R311. -/
def PEND_EVICTED : Field := ⟨0x21, 0x320, 0, 32, .rc, 0, .ordinary, .any, .always⟩
/-- BIG: packets delivered to BIG. -/
def BIG : Field := ⟨0x21, 0x324, 0, 32, .rc, 0, .ordinary, .any, .always⟩
/-- UNPARSED: payloads delivered to UNPARSED. -/
def UNPARSED : Field := ⟨0x21, 0x328, 0, 32, .rc, 0, .ordinary, .any, .always⟩

end F.FWD

open F.FWD in
/-- Part 0 of the words of page FWD (R318). -/
def rowsFWD_0 : List Row := [
  Row.one 0x040 CFG_NOMATCH_TO_RING,
  Row.one 0x040 CFG_UNRESOLVED_TO_RING,
  Row.one 0x040 CFG_ETH_OTHER_TO_RING,
  Row.one 0x044 PENDING_TIMEOUT,
  Row.one 0x048 PEND_MAX,
  Row.one 0x04C PEND_TOTAL,
  Row.one 0x050 PEND_PEAK,
  Row.one 0x060 (RING_MAP_CLASS 0),
  Row.one 0x060 (RING_MAP_CLASS 1),
  Row.one 0x060 (RING_MAP_CLASS 2),
  Row.one 0x060 (RING_MAP_CLASS 3),
  Row.one 0x060 (RING_MAP_CLASS 4),
  Row.one 0x060 (RING_MAP_CLASS 5),
  Row.one 0x060 (RING_MAP_CLASS 6),
  Row.one 0x060 (RING_MAP_CLASS 7),
  Row.one 0x064 RING_MAP_CLASS8,
  Row.arr 0x080 0x20 4 (fun i => SLOT_PREFIX_HI i),
  Row.arr 0x084 0x20 4 (fun i => SLOT_PREFIX_LO i),
  Row.arr 0x088 0x20 4 (fun i => SLOT_PREFIX_EN i),
  Row.arr 0x088 0x20 4 (fun i => SLOT_TARGET i),
  Row.arr 0x088 0x20 4 (fun i => SLOT_HAIRPIN i),
  Row.arr 0x088 0x20 4 (fun i => SLOT_VLAN_EN i),
  Row.arr 0x088 0x20 4 (fun i => SLOT_VID i),
  Row.arr 0x088 0x20 4 (fun i => SLOT_PCP i)]

open F.FWD in
/-- Part 1 of the words of page FWD (R318). -/
def rowsFWD_1 : List Row := [
  Row.arr 0x08C 0x20 4 (fun i => SLOT_GW_MAC_HI i),
  Row.arr 0x08C 0x20 4 (fun i => SLOT_PCP_LOW i),
  Row.arr 0x090 0x20 4 (fun i => SLOT_GW_MAC_LO i),
  Row.arr 0x094 0x20 4 (fun i => SLOT_LEVEL i),
  Row.arr 0x094 0x20 4 (fun i => SLOT_RPI_EN i),
  Row.arr 0x094 0x20 4 (fun i => SLOT_RPI_INSTANCE i),
  Row.arr 0x100 0x8 4 (fun i => DOWN_MODE i),
  Row.arr 0x104 0x8 4 (fun i => DOWN_CHANNEL_HZ i),
  Row.arr 0x180 0x10 12 (fun i => ALIAS_PREFIX_HI i),
  Row.arr 0x184 0x10 12 (fun i => ALIAS_PREFIX_LO i),
  Row.arr 0x188 0x10 12 (fun i => ALIAS_SLOT i),
  Row.arr 0x188 0x10 12 (fun i => ALIAS_ENABLE i),
  Row.one 0x300 UP_ETH,
  Row.one 0x304 UP_RING,
  Row.one 0x308 HAIRPINS,
  Row.one 0x30C DOWN_QUEUED,
  Row.one 0x310 DOWN_PENDING,
  Row.one 0x314 NO_PATH,
  Row.one 0x318 HOP_LIMIT,
  Row.one 0x31C PEND_TIMEOUTS,
  Row.one 0x320 PEND_EVICTED,
  Row.one 0x324 BIG,
  Row.one 0x328 UNPARSED]

/-- The words of page FWD, row by row (R318). -/
def rowsFWD : List Row := List.flatten [rowsFWD_0, rowsFWD_1]

namespace F.FRAG

/-- BASE_LO: DDR address bits [31:0] of the reassembly region; bits [19:0] must be 0; writable only in OFF. -/
def BASE_LO : Field := ⟨0x22, 0x040, 0, 32, .rw, 0, .ordinary, (.aligned 20), .off⟩
/-- BASE_HI: DDR address bits [33:32]; writable only in OFF. -/
def BASE_HI : Field := ⟨0x22, 0x044, 0, 2, .rw, 0, .ordinary, .any, .off⟩
/-- TIMEOUT: 1–60 s. -/
def TIMEOUT : Field := ⟨0x22, 0x048, 0, 6, .rw, 10, .ordinary, (.range 1 60), .always⟩
/-- PER_SOURCE_MAX: 1–4,096 contexts per MHR source. -/
def PER_SOURCE_MAX : Field := ⟨0x22, 0x04C, 0, 13, .rw, 16, .ordinary, (.range 1 4096), .always⟩
/-- IN_USE: contexts held. -/
def IN_USE : Field := ⟨0x22, 0x050, 0, 13, .ro, 0, .ordinary, .any, .always⟩
/-- IN_USE_PEAK: highest IN_USE since last read. -/
def IN_USE_PEAK : Field := ⟨0x22, 0x054, 0, 13, .rc, 0, .ordinary, .any, .always⟩
/-- LEVEL.HIGH: 1–4,096. -/
def LEVEL_HIGH : Field := ⟨0x22, 0x058, 0, 13, .rw, 3584, .ordinary, (.range 1 4096), .always⟩
/-- LEVEL.LATCH: 1 = IN_USE has reached HIGH, per R315. -/
def LEVEL_LATCH : Field := ⟨0x22, 0x058, 16, 1, .rw1c, 0, .ordinary, .any, .always⟩
/-- TAG: next datagram tag. -/
def TAG : Field := ⟨0x22, 0x05C, 0, 16, .ro, 0, .ordinary, .any, .always⟩
/-- COMPLETED: datagrams reassembled. -/
def COMPLETED : Field := ⟨0x22, 0x060, 0, 32, .rc, 0, .ordinary, .any, .always⟩
/-- TIMEOUTS: per R314. -/
def TIMEOUTS : Field := ⟨0x22, 0x064, 0, 32, .rc, 0, .ordinary, .any, .always⟩
/-- NO_CONTEXT: per R314. -/
def NO_CONTEXT : Field := ⟨0x22, 0x068, 0, 32, .rc, 0, .ordinary, .any, .always⟩
/-- OVERLAPS: per R314. -/
def OVERLAPS : Field := ⟨0x22, 0x06C, 0, 32, .rc, 0, .ordinary, .any, .always⟩
/-- OVERSIZE: per R314. -/
def OVERSIZE : Field := ⟨0x22, 0x070, 0, 32, .rc, 0, .ordinary, .any, .always⟩
/-- SUN_FRAGS: per R302. -/
def SUN_FRAGS : Field := ⟨0x22, 0x074, 0, 32, .rc, 0, .ordinary, .any, .always⟩
/-- DATAGRAMS_SENT: downlink datagrams fragmented. -/
def DATAGRAMS_SENT : Field := ⟨0x22, 0x078, 0, 32, .rc, 0, .ordinary, .any, .always⟩
/-- FRAGMENTS_SENT: fragments transmitted. -/
def FRAGMENTS_SENT : Field := ⟨0x22, 0x07C, 0, 32, .rc, 0, .ordinary, .any, .always⟩

end F.FRAG

open F.FRAG in
/-- Part 0 of the words of page FRAG (R320). -/
def rowsFRAG_0 : List Row := [
  Row.one 0x040 BASE_LO,
  Row.one 0x044 BASE_HI,
  Row.one 0x048 TIMEOUT,
  Row.one 0x04C PER_SOURCE_MAX,
  Row.one 0x050 IN_USE,
  Row.one 0x054 IN_USE_PEAK,
  Row.one 0x058 LEVEL_HIGH,
  Row.one 0x058 LEVEL_LATCH,
  Row.one 0x05C TAG,
  Row.one 0x060 COMPLETED,
  Row.one 0x064 TIMEOUTS,
  Row.one 0x068 NO_CONTEXT,
  Row.one 0x06C OVERLAPS,
  Row.one 0x070 OVERSIZE,
  Row.one 0x074 SUN_FRAGS,
  Row.one 0x078 DATAGRAMS_SENT,
  Row.one 0x07C FRAGMENTS_SENT]

/-- The words of page FRAG, row by row (R320). -/
def rowsFRAG : List Row := List.flatten [rowsFRAG_0]

namespace F.SCHED

/-- CFG.SLIP_DEFAULT: slip tolerance of forwarded frames, 0–10,000 µs. -/
def CFG_SLIP_DEFAULT (n : Nat) : Field := ⟨(0x24 + n % 4), 0x040, 0, 14, .rw, 10000, .ordinary, (.range 0 10000), .always⟩
/-- CFG.DEFAULT_POWER: signed, 0.5 dBm, −40 to +32 (+24 in band 1). -/
def CFG_DEFAULT_POWER (n : Nat) : Field := ⟨(0x24 + n % 4), 0x040, 16, 8, .rw, 0, .ordinary, (.signed (-40) 32), .always⟩
/-- LBT.BACKOFF_MIN: 0–65,535 µs. -/
def LBT_BACKOFF_MIN (n : Nat) : Field := ⟨(0x24 + n % 4), 0x044, 0, 16, .rw, 160, .ordinary, .any, .always⟩
/-- LBT.BACKOFF_MAX: 0–65,535 µs, not below MIN. -/
def LBT_BACKOFF_MAX (n : Nat) : Field := ⟨(0x24 + n % 4), 0x044, 16, 16, .rw, 5000, .ordinary, .any, .always⟩
/-- BLIND.CEIL_PERMILLE: 1–1,000, per R335. -/
def BLIND_CEIL_PERMILLE (n : Nat) : Field := ⟨(0x24 + n % 4), 0x048, 0, 10, .rw, 1000, .ordinary, (.range 1 1000), .always⟩
/-- BLIND_USED: permille over the last 1,000 ms. -/
def BLIND_USED (n : Nat) : Field := ⟨(0x24 + n % 4), 0x04C, 0, 10, .ro, 0, .ordinary, .any, .always⟩
/-- WINDOW.QUEUE: weighted queue index 0–11 for symbols; 12–15 rejected. -/
def WINDOW_QUEUE (n : Nat) : Field := ⟨(0x24 + n % 4), 0x050, 0, 4, .rw, 11, .ordinary, (.range 0 11), .always⟩
/-- WINDOW.OPEN: 1 = a dissemination window is open, per R345. -/
def WINDOW_OPEN (n : Nat) : Field := ⟨(0x24 + n % 4), 0x050, 8, 1, .ro, 0, .ordinary, .any, .always⟩
/-- LEVEL.HIGH: 1–65,535 frames. -/
def LEVEL_HIGH (n : Nat) : Field := ⟨(0x24 + n % 4), 0x054, 0, 16, .rw, 4096, .ordinary, (.range 1 65535), .always⟩
/-- LEVEL.LATCH: 1 = QUEUED has reached HIGH. -/
def LEVEL_LATCH (n : Nat) : Field := ⟨(0x24 + n % 4), 0x054, 16, 1, .rw1c, 0, .ordinary, .any, .always⟩
/-- QUEUED: frames in all 16 queues. -/
def QUEUED (n : Nat) : Field := ⟨(0x24 + n % 4), 0x058, 0, 16, .ro, 0, .ordinary, .any, .always⟩
/-- QUEUED_PEAK: highest QUEUED since last read. -/
def QUEUED_PEAK (n : Nat) : Field := ⟨(0x24 + n % 4), 0x05C, 0, 16, .rc, 0, .ordinary, .any, .always⟩
/-- SLIP_LAST: slip of the last frame started with slip, µs, saturating. -/
def SLIP_LAST (n : Nat) : Field := ⟨(0x24 + n % 4), 0x060, 0, 16, .ro, 0, .ordinary, .any, .always⟩
/-- SLIP_MAX: highest slip since last read. -/
def SLIP_MAX (n : Nat) : Field := ⟨(0x24 + n % 4), 0x064, 0, 16, .rc, 0, .ordinary, .any, .always⟩
/-- SLIPPED: frames started with slip above 0. -/
def SLIPPED (n : Nat) : Field := ⟨(0x24 + n % 4), 0x068, 0, 32, .rc, 0, .ordinary, .any, .always⟩
/-- ABANDON_SLIP: TX_ABANDON_SLIP. -/
def ABANDON_SLIP (n : Nat) : Field := ⟨(0x24 + n % 4), 0x06C, 0, 32, .rc, 0, .ordinary, .any, .always⟩
/-- ABANDON_REG: TX_ABANDON_REG. -/
def ABANDON_REG (n : Nat) : Field := ⟨(0x24 + n % 4), 0x070, 0, 32, .rc, 0, .ordinary, .any, .always⟩
/-- ABANDON_COEX: TX_ABANDON_COEX. -/
def ABANDON_COEX (n : Nat) : Field := ⟨(0x24 + n % 4), 0x074, 0, 32, .rc, 0, .ordinary, .any, .always⟩
/-- LBT_DEFERRALS: per R333. -/
def LBT_DEFERRALS (n : Nat) : Field := ⟨(0x24 + n % 4), 0x078, 0, 32, .rc, 0, .ordinary, .any, .always⟩
/-- DESC_REJECTS: per R343. -/
def DESC_REJECTS (n : Nat) : Field := ⟨(0x24 + n % 4), 0x07C, 0, 32, .rc, 0, .ordinary, .any, .always⟩
/-- ANSWER_WAITS: per R336. -/
def ANSWER_WAITS (n : Nat) : Field := ⟨(0x24 + n % 4), 0x080, 0, 32, .rc, 0, .ordinary, .any, .always⟩
/-- Q[q].CIR: committed rate, 0–1,000,000 µs/s. -/
def Q_CIR (n : Nat) (q : Nat) : Field := ⟨(0x24 + n % 4), (0x100 + 0x20 * q), 0, 20, .rw, 1000000, .ordinary, (.range 0 1000000), .always⟩
/-- Q[q].CBS: committed burst, 0–2,000,000 µs. -/
def Q_CBS (n : Nat) (q : Nat) : Field := ⟨(0x24 + n % 4), (0x104 + 0x20 * q), 0, 21, .rw, 100000, .ordinary, (.range 0 2000000), .always⟩
/-- Q[q].PIR: peak rate, CIR–1,000,000 µs/s. -/
def Q_PIR (n : Nat) (q : Nat) : Field := ⟨(0x24 + n % 4), (0x108 + 0x20 * q), 0, 20, .rw, 1000000, .ordinary, (.range 0 1000000), .always⟩
/-- Q[q].PBS: peak burst, 0–2,000,000 µs. -/
def Q_PBS (n : Nat) (q : Nat) : Field := ⟨(0x24 + n % 4), (0x10C + 0x20 * q), 0, 21, .rw, 100000, .ordinary, (.range 0 2000000), .always⟩
/-- Q[q].QUANTUM: 1–65,535 µs; on S0–S3 reads 0 and a non-zero write is rejected. -/
def Q_QUANTUM (n : Nat) (q : Nat) : Field := ⟨(0x24 + n % 4), (0x110 + 0x20 * q), 0, 16, .rw, (if q < 4 then 0 else 10000), .ordinary, (if q < 4 then .range 0 0 else .range 1 65535), .always⟩
/-- Q[q].HORIZON: 1–60,000 ms. -/
def Q_HORIZON (n : Nat) (q : Nat) : Field := ⟨(0x24 + n % 4), (0x110 + 0x20 * q), 16, 16, .rw, 10000, .ordinary, (.range 1 60000), .always⟩
/-- Q[q].LEVEL_C: committed level, signed, 0.001 µs. -/
def Q_LEVEL_C (n : Nat) (q : Nat) : Field := ⟨(0x24 + n % 4), (0x114 + 0x20 * q), 0, 32, .ro, 100000000, .ordinary, .any, .always⟩
/-- Q[q].LEVEL_P: peak level, signed, 0.001 µs. -/
def Q_LEVEL_P (n : Nat) (q : Nat) : Field := ⟨(0x24 + n % 4), (0x118 + 0x20 * q), 0, 32, .ro, 100000000, .ordinary, .any, .always⟩
/-- Q[q].DEPTH: frames queued. -/
def Q_DEPTH (n : Nat) (q : Nat) : Field := ⟨(0x24 + n % 4), (0x11C + 0x20 * q), 0, 16, .ro, 0, .ordinary, .any, .always⟩
/-- Q[q].HOLD: 0 NONE, 1 EMPTY, 2 TIMED, 3 SHAPER, 4 DUTY, 5 DWELL, 6 LBT, 7 BLIND, 8 GUARD, 9 WINDOW, 10 ACK_WAIT, 11 FRONT_END, 12 DRR. -/
def Q_HOLD (n : Nat) (q : Nat) : Field := ⟨(0x24 + n % 4), (0x11C + 0x20 * q), 16, 4, .ro, 1, .ordinary, .any, .always⟩
/-- DEFICIT[q]: deficit, µs; 0 for S0–S3. -/
def DEFICIT (n : Nat) (q : Nat) : Field := ⟨(0x24 + n % 4), (0x300 + 0x4 * q), 0, 32, .ro, 0, .ordinary, .any, .always⟩
/-- SENT[q]: frames that entered RX_TX. -/
def SENT (n : Nat) (q : Nat) : Field := ⟨(0x24 + n % 4), (0x340 + 0x4 * q), 0, 32, .rc, 0, .ordinary, .any, .always⟩
/-- ABANDONED[q]: frames ending with a code 0x60–0x62. -/
def ABANDONED (n : Nat) (q : Nat) : Field := ⟨(0x24 + n % 4), (0x380 + 0x4 * q), 0, 32, .rc, 0, .ordinary, .any, .always⟩
/-- DUTY_USED[e]: usage of profile entry e per R331, µs. -/
def DUTY_USED (n : Nat) (e : Nat) : Field := ⟨(0x24 + n % 4), (0x400 + 0x4 * e), 0, 32, .ro, 0, .ordinary, .any, .always⟩
/-- DUTY_ALLOW[e]: allowance of entry e, µs; 0xFFFF_FFFF without a duty ceiling. -/
def DUTY_ALLOW (n : Nat) (e : Nat) : Field := ⟨(0x24 + n % 4), (0x440 + 0x4 * e), 0, 32, .ro, 0, .ordinary, .any, .always⟩

end F.SCHED

open F.SCHED in
/-- Part 0 of the words of page SCHED (R350). -/
def rowsSCHED_0 (n : Nat) : List Row := [
  Row.one 0x040 (CFG_SLIP_DEFAULT n),
  Row.one 0x040 (CFG_DEFAULT_POWER n),
  Row.one 0x044 (LBT_BACKOFF_MIN n),
  Row.one 0x044 (LBT_BACKOFF_MAX n),
  Row.one 0x048 (BLIND_CEIL_PERMILLE n),
  Row.one 0x04C (BLIND_USED n),
  Row.one 0x050 (WINDOW_QUEUE n),
  Row.one 0x050 (WINDOW_OPEN n),
  Row.one 0x054 (LEVEL_HIGH n),
  Row.one 0x054 (LEVEL_LATCH n),
  Row.one 0x058 (QUEUED n),
  Row.one 0x05C (QUEUED_PEAK n),
  Row.one 0x060 (SLIP_LAST n),
  Row.one 0x064 (SLIP_MAX n),
  Row.one 0x068 (SLIPPED n),
  Row.one 0x06C (ABANDON_SLIP n),
  Row.one 0x070 (ABANDON_REG n),
  Row.one 0x074 (ABANDON_COEX n),
  Row.one 0x078 (LBT_DEFERRALS n),
  Row.one 0x07C (DESC_REJECTS n),
  Row.one 0x080 (ANSWER_WAITS n),
  Row.arr 0x100 0x20 16 (fun i => Q_CIR n i),
  Row.arr 0x104 0x20 16 (fun i => Q_CBS n i),
  Row.arr 0x108 0x20 16 (fun i => Q_PIR n i)]

open F.SCHED in
/-- Part 1 of the words of page SCHED (R350). -/
def rowsSCHED_1 (n : Nat) : List Row := [
  Row.arr 0x10C 0x20 16 (fun i => Q_PBS n i),
  Row.arr 0x110 0x20 16 (fun i => Q_QUANTUM n i),
  Row.arr 0x110 0x20 16 (fun i => Q_HORIZON n i),
  Row.arr 0x114 0x20 16 (fun i => Q_LEVEL_C n i),
  Row.arr 0x118 0x20 16 (fun i => Q_LEVEL_P n i),
  Row.arr 0x11C 0x20 16 (fun i => Q_DEPTH n i),
  Row.arr 0x11C 0x20 16 (fun i => Q_HOLD n i),
  Row.arr 0x300 0x4 16 (fun i => DEFICIT n i),
  Row.arr 0x340 0x4 16 (fun i => SENT n i),
  Row.arr 0x380 0x4 16 (fun i => ABANDONED n i),
  Row.arr 0x400 0x4 16 (fun i => DUTY_USED n i),
  Row.arr 0x440 0x4 16 (fun i => DUTY_ALLOW n i)]

/-- The words of page SCHED, row by row (R350). -/
def rowsSCHED (n : Nat) : List Row := List.flatten [rowsSCHED_0 n, rowsSCHED_1 n]

namespace F.POLICE

/-- DSCP_MAP[0–6]: 3-bit class per DSCP; in DSCP_MAP[6] bits [29:12] are reserved. -/
def DSCP_MAP (k : Nat) : Field := ⟨0x28, (0x040 + 0x4 * k), 0, (if k = 6 then 12 else 30), .rw, 0, .ordinary, .any, .always⟩
/-- CLASS[c].CIR: 0–1,250,000,000 octets/s. -/
def CLASS_CIR (c : Nat) : Field := ⟨0x28, (0x080 + 0x20 * c), 0, 32, .rw, 1250000000, .ordinary, (.range 0 1250000000), .always⟩
/-- CLASS[c].CBS: 0–16,777,215 octets. -/
def CLASS_CBS (c : Nat) : Field := ⟨0x28, (0x084 + 0x20 * c), 0, 24, .rw, 1000000, .ordinary, .any, .always⟩
/-- CLASS[c].PIR: CIR–1,250,000,000 octets/s. -/
def CLASS_PIR (c : Nat) : Field := ⟨0x28, (0x088 + 0x20 * c), 0, 32, .rw, 1250000000, .ordinary, (.range 0 1250000000), .always⟩
/-- CLASS[c].PBS: 0–16,777,215 octets. -/
def CLASS_PBS (c : Nat) : Field := ⟨0x28, (0x08C + 0x20 * c), 0, 24, .rw, 1000000, .ordinary, .any, .always⟩
/-- CLASS[c].ENABLE: 1 = policer active, per R347. -/
def CLASS_ENABLE (c : Nat) : Field := ⟨0x28, (0x090 + 0x20 * c), 0, 1, .rw, 0, .ordinary, .any, .always⟩
/-- CLASS[c].QUEUE: weighted queue index 0–11 for green packets; 12–15 rejected. -/
def CLASS_QUEUE (c : Nat) : Field := ⟨0x28, (0x090 + 0x20 * c), 8, 4, .rw, 0, .ordinary, (.range 0 11), .always⟩
/-- CLASS[c].LEVEL_C: Tc, whole octets. -/
def CLASS_LEVEL_C (c : Nat) : Field := ⟨0x28, (0x094 + 0x20 * c), 0, 24, .ro, 0, .ordinary, .any, .always⟩
/-- CLASS[c].LEVEL_P: Tp, whole octets. -/
def CLASS_LEVEL_P (c : Nat) : Field := ⟨0x28, (0x098 + 0x20 * c), 0, 24, .ro, 0, .ordinary, .any, .always⟩
/-- UP[p].CIR: as CLASS. -/
def UP_CIR (p : Nat) : Field := ⟨0x28, (0x180 + 0x20 * p), 0, 32, .rw, 1250000000, .ordinary, (.range 0 1250000000), .always⟩
/-- UP[p].CBS: as CLASS. -/
def UP_CBS (p : Nat) : Field := ⟨0x28, (0x184 + 0x20 * p), 0, 24, .rw, 1000000, .ordinary, .any, .always⟩
/-- UP[p].PIR: as CLASS. -/
def UP_PIR (p : Nat) : Field := ⟨0x28, (0x188 + 0x20 * p), 0, 32, .rw, 1250000000, .ordinary, (.range 0 1250000000), .always⟩
/-- UP[p].PBS: as CLASS. -/
def UP_PBS (p : Nat) : Field := ⟨0x28, (0x18C + 0x20 * p), 0, 24, .rw, 1000000, .ordinary, .any, .always⟩
/-- UP[p].ENABLE: 1 = policer active. -/
def UP_ENABLE (p : Nat) : Field := ⟨0x28, (0x190 + 0x20 * p), 0, 1, .rw, 0, .ordinary, .any, .always⟩
/-- UP[p].LEVEL_C: Tc, whole octets. -/
def UP_LEVEL_C (p : Nat) : Field := ⟨0x28, (0x194 + 0x20 * p), 0, 24, .ro, 0, .ordinary, .any, .always⟩
/-- UP[p].LEVEL_P: Tp, whole octets. -/
def UP_LEVEL_P (p : Nat) : Field := ⟨0x28, (0x198 + 0x20 * p), 0, 24, .ro, 0, .ordinary, .any, .always⟩
/-- CLASS_GREEN[c]: green packets. -/
def CLASS_GREEN (c : Nat) : Field := ⟨0x28, (0x200 + 0x4 * c), 0, 32, .rc, 0, .ordinary, .any, .always⟩
/-- CLASS_YELLOW[c]: yellow packets. -/
def CLASS_YELLOW (c : Nat) : Field := ⟨0x28, (0x220 + 0x4 * c), 0, 32, .rc, 0, .ordinary, .any, .always⟩
/-- CLASS_RED[c]: red packets. -/
def CLASS_RED (c : Nat) : Field := ⟨0x28, (0x240 + 0x4 * c), 0, 32, .rc, 0, .ordinary, .any, .always⟩
/-- UP_GREEN[p]: green packets. -/
def UP_GREEN (p : Nat) : Field := ⟨0x28, (0x260 + 0x4 * p), 0, 32, .rc, 0, .ordinary, .any, .always⟩
/-- UP_YELLOW[p]: yellow packets. -/
def UP_YELLOW (p : Nat) : Field := ⟨0x28, (0x270 + 0x4 * p), 0, 32, .rc, 0, .ordinary, .any, .always⟩
/-- UP_RED[p]: red packets. -/
def UP_RED (p : Nat) : Field := ⟨0x28, (0x280 + 0x4 * p), 0, 32, .rc, 0, .ordinary, .any, .always⟩

end F.POLICE

open F.POLICE in
/-- Part 0 of the words of page POLICE (R352). -/
def rowsPOLICE_0 : List Row := [
  Row.arr 0x040 0x4 7 (fun i => DSCP_MAP i),
  Row.arr 0x080 0x20 8 (fun i => CLASS_CIR i),
  Row.arr 0x084 0x20 8 (fun i => CLASS_CBS i),
  Row.arr 0x088 0x20 8 (fun i => CLASS_PIR i),
  Row.arr 0x08C 0x20 8 (fun i => CLASS_PBS i),
  Row.arr 0x090 0x20 8 (fun i => CLASS_ENABLE i),
  Row.arr 0x090 0x20 8 (fun i => CLASS_QUEUE i),
  Row.arr 0x094 0x20 8 (fun i => CLASS_LEVEL_C i),
  Row.arr 0x098 0x20 8 (fun i => CLASS_LEVEL_P i),
  Row.arr 0x180 0x20 4 (fun i => UP_CIR i),
  Row.arr 0x184 0x20 4 (fun i => UP_CBS i),
  Row.arr 0x188 0x20 4 (fun i => UP_PIR i),
  Row.arr 0x18C 0x20 4 (fun i => UP_PBS i),
  Row.arr 0x190 0x20 4 (fun i => UP_ENABLE i),
  Row.arr 0x194 0x20 4 (fun i => UP_LEVEL_C i),
  Row.arr 0x198 0x20 4 (fun i => UP_LEVEL_P i),
  Row.arr 0x200 0x4 8 (fun i => CLASS_GREEN i),
  Row.arr 0x220 0x4 8 (fun i => CLASS_YELLOW i),
  Row.arr 0x240 0x4 8 (fun i => CLASS_RED i),
  Row.arr 0x260 0x4 4 (fun i => UP_GREEN i),
  Row.arr 0x270 0x4 4 (fun i => UP_YELLOW i),
  Row.arr 0x280 0x4 4 (fun i => UP_RED i)]

/-- The words of page POLICE, row by row (R352). -/
def rowsPOLICE : List Row := List.flatten [rowsPOLICE_0]

namespace F.DISSEM

/-- SRC_BASE_LO: DDR address bits [31:0]; bits [25:0] must be 0; writable only in OFF; per R557. -/
def SRC_BASE_LO : Field := ⟨0x29, 0x040, 0, 32, .rw, 0, .ordinary, (.aligned 26), .off⟩
/-- SRC_BASE_HI: DDR address bits [33:32]; writable only in OFF. -/
def SRC_BASE_HI : Field := ⟨0x29, 0x044, 0, 2, .rw, 0, .ordinary, .any, .off⟩
/-- STAGE.OFFSET: window offset for SETUP and EXPORT; bits [5:0] must be 0. -/
def STAGE_OFFSET : Field := ⟨0x29, 0x048, 0, 28, .rw, 0, .ordinary, (.aligned 6), .always⟩
/-- CMD.CAMPAIGN: campaign c. -/
def CMD_CAMPAIGN : Field := ⟨0x29, 0x04C, 0, 4, .wo, 0, .ordinary, .any, .always⟩
/-- CMD.OP: 1 SETUP, 2 START, 3 STOP, 4 ABORT, 5 CLEAR, 6 EXPORT; 0 and 7 rejected. -/
def CMD_OP : Field := ⟨0x29, 0x04C, 8, 3, .wo, 0, .ordinary, (.range 1 6), .always⟩
/-- CMD_STATUS.BUSY: 1 = command running. -/
def CMD_STATUS_BUSY : Field := ⟨0x29, 0x050, 0, 1, .ro, 0, .ordinary, .any, .always⟩
/-- CMD_STATUS.RESULT: 0 NONE, 1 DONE, 2 BAD_STATE, 3 BAD_PARAM, 4 DDR_ERROR, 5 ABORTED. -/
def CMD_STATUS_RESULT : Field := ⟨0x29, 0x050, 4, 4, .ro, 0, .ordinary, .any, .always⟩
/-- CMD_STATUS.CAMPAIGN: campaign of the last command. -/
def CMD_STATUS_CAMPAIGN : Field := ⟨0x29, 0x050, 8, 4, .ro, 0, .ordinary, .any, .always⟩
/-- RUNNING: bit c = campaign c RUNNING. -/
def RUNNING : Field := ⟨0x29, 0x054, 0, 16, .ro, 0, .ordinary, .any, .always⟩
/-- SYMBOLS_SENT: symbol frames that entered RX_TX, all campaigns. -/
def SYMBOLS_SENT : Field := ⟨0x29, 0x058, 0, 32, .rc, 0, .ordinary, .any, .always⟩
/-- REPORTS: per R569. -/
def REPORTS : Field := ⟨0x29, 0x05C, 0, 32, .rc, 0, .ordinary, .any, .always⟩
/-- REPORTS_STALE: per R569. -/
def REPORTS_STALE : Field := ⟨0x29, 0x060, 0, 32, .rc, 0, .ordinary, .any, .always⟩
/-- PROG_SEL.INDEX: node index, per R570. -/
def PROG_SEL_INDEX : Field := ⟨0x29, 0x064, 0, 18, .rw, 0, .ordinary, .any, .always⟩
/-- PROG_SEL.CAMPAIGN: campaign. -/
def PROG_SEL_CAMPAIGN : Field := ⟨0x29, 0x064, 20, 4, .rw, 0, .ordinary, .any, .always⟩
/-- PROG_DATA: the selected record: [3:0] STATE, [31:8] RECEIVED. -/
def PROG_DATA : Field := ⟨0x29, 0x068, 0, 32, .ro, 0, .ordinary, .any, .always⟩
/-- C[c].CFG.PAN: PAN slot p. -/
def C_CFG_PAN (c : Nat) : Field := ⟨0x29, (0x100 + 0x80 * c), 0, 2, .rw, 0, .ordinary, .any, .always⟩
/-- C[c].CFG.FE_MASK: bit n = logical front end n. -/
def C_CFG_FE_MASK (c : Nat) : Field := ⟨0x29, (0x100 + 0x80 * c), 4, 4, .rw, 0, .ordinary, .any, .always⟩
/-- C[c].CFG.IN_BEACON: 1 = announcements in beacons, per R566. -/
def C_CFG_IN_BEACON (c : Nat) : Field := ⟨0x29, (0x100 + 0x80 * c), 8, 1, .rw, 1, .ordinary, .any, .always⟩
/-- C[c].CFG.END_AT_TARGET: per R568. -/
def C_CFG_END_AT_TARGET (c : Nat) : Field := ⟨0x29, (0x100 + 0x80 * c), 9, 1, .rw, 0, .ordinary, .any, .always⟩
/-- C[c].CFG.LEVEL: 5–7. -/
def C_CFG_LEVEL (c : Nat) : Field := ⟨0x29, (0x100 + 0x80 * c), 12, 3, .rw, 5, .ordinary, (.range 5 7), .always⟩
/-- C[c].CFG.DONE_STATE: 1–14. -/
def C_CFG_DONE_STATE (c : Nat) : Field := ⟨0x29, (0x100 + 0x80 * c), 16, 4, .rw, 3, .ordinary, (.range 1 14), .always⟩
/-- C[c].CFG.MODE: PHY mode code, per R194. -/
def C_CFG_MODE (c : Nat) : Field := ⟨0x29, (0x100 + 0x80 * c), 24, 8, .rw, 0, .ordinary, .phyMode, .always⟩
/-- C[c].T: 4–1,024, multiple of 4. -/
def C_T (c : Nat) : Field := ⟨0x29, (0x104 + 0x80 * c), 0, 11, .rw, 1024, .ordinary, (.multiple 4 4 1024), .always⟩
/-- C[c].F: 1–57,756,672 octets. -/
def C_F (c : Nat) : Field := ⟨0x29, (0x108 + 0x80 * c), 0, 26, .rw, 1, .ordinary, (.range 1 57756672), .always⟩
/-- C[c].IMAGE_ID: host's image identifier. -/
def C_IMAGE_ID (c : Nat) : Field := ⟨0x29, (0x10C + 0x80 * c), 0, 32, .rw, 0, .ordinary, .any, .always⟩
/-- C[c].CHANNEL_HZ[0–3]: channel centre per logical front end, 1 Hz. -/
def C_CHANNEL_HZ (c : Nat) (f : Nat) : Field := ⟨0x29, (0x110 + 0x80 * c + 0x4 * f), 0, 32, .rw, 0, .ordinary, .any, .always⟩
/-- C[c].PERIOD: 32,768–2,147,483,648 ticks. -/
def C_PERIOD (c : Nat) : Field := ⟨0x29, (0x120 + 0x80 * c), 0, 32, .rw, 19660800, .ordinary, (.range 32768 2147483648), .always⟩
/-- C[c].OFFSET: 0 to PERIOD − 1 ticks. -/
def C_OFFSET (c : Nat) : Field := ⟨0x29, (0x124 + 0x80 * c), 0, 32, .rw, 0, .ordinary, .any, .always⟩
/-- C[c].WIN_TICKS: 3,277 ticks to PERIOD − LEAD. -/
def C_WIN_TICKS (c : Nat) : Field := ⟨0x29, (0x128 + 0x80 * c), 0, 32, .rw, 983040, .ordinary, (.range 3277 2147483648), .always⟩
/-- C[c].LEAD: 328–983,040 ticks. -/
def C_LEAD (c : Nat) : Field := ⟨0x29, (0x12C + 0x80 * c), 0, 32, .rw, 32768, .ordinary, (.range 328 983040), .always⟩
/-- C[c].WIN_SYMBOLS: 1–65,535 per front end per window. -/
def C_WIN_SYMBOLS (c : Nat) : Field := ⟨0x29, (0x130 + 0x80 * c), 0, 16, .rw, 64, .ordinary, (.range 1 65535), .always⟩
/-- C[c].MAX_SYMBOLS: 0 = no limit. -/
def C_MAX_SYMBOLS (c : Nat) : Field := ⟨0x29, (0x134 + 0x80 * c), 0, 24, .rw, 0, .ordinary, .any, .always⟩
/-- C[c].TARGET: 0 = none; 1–262,132 nodes. -/
def C_TARGET (c : Nat) : Field := ⟨0x29, (0x138 + 0x80 * c), 0, 18, .rw, 0, .ordinary, (.range 0 262132), .always⟩
/-- C[c].STATUS.STATE: per R561. -/
def C_STATUS_STATE (c : Nat) : Field := ⟨0x29, (0x140 + 0x80 * c), 0, 3, .ro, 0, .ordinary, .any, .always⟩
/-- C[c].STATUS.END_REASON: per R568. -/
def C_STATUS_END_REASON (c : Nat) : Field := ⟨0x29, (0x140 + 0x80 * c), 4, 4, .ro, 0, .ordinary, .any, .always⟩
/-- C[c].STATUS.EPOCH: per R559. -/
def C_STATUS_EPOCH (c : Nat) : Field := ⟨0x29, (0x140 + 0x80 * c), 8, 8, .ro, 0, .ordinary, .any, .always⟩
/-- C[c].STATUS.K: source symbols. -/
def C_STATUS_K (c : Nat) : Field := ⟨0x29, (0x140 + 0x80 * c), 16, 16, .ro, 0, .ordinary, .any, .always⟩
/-- C[c].ESI_NEXT: per R560. -/
def C_ESI_NEXT (c : Nat) : Field := ⟨0x29, (0x144 + 0x80 * c), 0, 24, .ro, 0, .ordinary, .any, .always⟩
/-- C[c].SENT: symbol frames that entered RX_TX. -/
def C_SENT (c : Nat) : Field := ⟨0x29, (0x148 + 0x80 * c), 0, 24, .ro, 0, .ordinary, .any, .always⟩
/-- C[c].WINDOWS: windows opened, saturating. -/
def C_WINDOWS (c : Nat) : Field := ⟨0x29, (0x14C + 0x80 * c), 0, 16, .ro, 0, .ordinary, .any, .always⟩
/-- C[c].COMPLETE: per R569. -/
def C_COMPLETE (c : Nat) : Field := ⟨0x29, (0x150 + 0x80 * c), 0, 18, .ro, 0, .ordinary, .any, .always⟩
/-- C[c].FAILED: per R569. -/
def C_FAILED (c : Nat) : Field := ⟨0x29, (0x154 + 0x80 * c), 0, 18, .ro, 0, .ordinary, .any, .always⟩
/-- C[c].REPORTED: per R569. -/
def C_REPORTED (c : Nat) : Field := ⟨0x29, (0x158 + 0x80 * c), 0, 18, .ro, 0, .ordinary, .any, .always⟩
/-- C[c].NEXT_WIN: low 32 bits of the earliest planned window start. -/
def C_NEXT_WIN (c : Nat) : Field := ⟨0x29, (0x15C + 0x80 * c), 0, 32, .ro, 0, .ordinary, .any, .always⟩
/-- C[c].WITHDRAWN: per R567. -/
def C_WITHDRAWN (c : Nat) : Field := ⟨0x29, (0x160 + 0x80 * c), 0, 32, .rc, 0, .ordinary, .any, .always⟩

end F.DISSEM

open F.DISSEM in
/-- Part 0 of the words of page DISSEM (R572). -/
def rowsDISSEM_0 : List Row := [
  Row.one 0x040 SRC_BASE_LO,
  Row.one 0x044 SRC_BASE_HI,
  Row.one 0x048 STAGE_OFFSET,
  Row.one 0x04C CMD_CAMPAIGN,
  Row.one 0x04C CMD_OP,
  Row.one 0x050 CMD_STATUS_BUSY,
  Row.one 0x050 CMD_STATUS_RESULT,
  Row.one 0x050 CMD_STATUS_CAMPAIGN,
  Row.one 0x054 RUNNING,
  Row.one 0x058 SYMBOLS_SENT,
  Row.one 0x05C REPORTS,
  Row.one 0x060 REPORTS_STALE,
  Row.one 0x064 PROG_SEL_INDEX,
  Row.one 0x064 PROG_SEL_CAMPAIGN,
  Row.one 0x068 PROG_DATA,
  Row.arr 0x100 0x80 16 (fun i => C_CFG_PAN i),
  Row.arr 0x100 0x80 16 (fun i => C_CFG_FE_MASK i),
  Row.arr 0x100 0x80 16 (fun i => C_CFG_IN_BEACON i),
  Row.arr 0x100 0x80 16 (fun i => C_CFG_END_AT_TARGET i),
  Row.arr 0x100 0x80 16 (fun i => C_CFG_LEVEL i),
  Row.arr 0x100 0x80 16 (fun i => C_CFG_DONE_STATE i),
  Row.arr 0x100 0x80 16 (fun i => C_CFG_MODE i),
  Row.arr 0x104 0x80 16 (fun i => C_T i),
  Row.arr 0x108 0x80 16 (fun i => C_F i)]

open F.DISSEM in
/-- Part 1 of the words of page DISSEM (R572). -/
def rowsDISSEM_1 : List Row := [
  Row.arr 0x10C 0x80 16 (fun i => C_IMAGE_ID i),
  Row.arr 0x110 0x4 4 (fun i => C_CHANNEL_HZ 0 i),
  Row.arr 0x190 0x4 4 (fun i => C_CHANNEL_HZ 1 i),
  Row.arr 0x210 0x4 4 (fun i => C_CHANNEL_HZ 2 i),
  Row.arr 0x290 0x4 4 (fun i => C_CHANNEL_HZ 3 i),
  Row.arr 0x310 0x4 4 (fun i => C_CHANNEL_HZ 4 i),
  Row.arr 0x390 0x4 4 (fun i => C_CHANNEL_HZ 5 i),
  Row.arr 0x410 0x4 4 (fun i => C_CHANNEL_HZ 6 i),
  Row.arr 0x490 0x4 4 (fun i => C_CHANNEL_HZ 7 i),
  Row.arr 0x510 0x4 4 (fun i => C_CHANNEL_HZ 8 i),
  Row.arr 0x590 0x4 4 (fun i => C_CHANNEL_HZ 9 i),
  Row.arr 0x610 0x4 4 (fun i => C_CHANNEL_HZ 10 i),
  Row.arr 0x690 0x4 4 (fun i => C_CHANNEL_HZ 11 i),
  Row.arr 0x710 0x4 4 (fun i => C_CHANNEL_HZ 12 i),
  Row.arr 0x790 0x4 4 (fun i => C_CHANNEL_HZ 13 i),
  Row.arr 0x810 0x4 4 (fun i => C_CHANNEL_HZ 14 i),
  Row.arr 0x890 0x4 4 (fun i => C_CHANNEL_HZ 15 i),
  Row.arr 0x120 0x80 16 (fun i => C_PERIOD i),
  Row.arr 0x124 0x80 16 (fun i => C_OFFSET i),
  Row.arr 0x128 0x80 16 (fun i => C_WIN_TICKS i),
  Row.arr 0x12C 0x80 16 (fun i => C_LEAD i),
  Row.arr 0x130 0x80 16 (fun i => C_WIN_SYMBOLS i),
  Row.arr 0x134 0x80 16 (fun i => C_MAX_SYMBOLS i),
  Row.arr 0x138 0x80 16 (fun i => C_TARGET i)]

open F.DISSEM in
/-- Part 2 of the words of page DISSEM (R572). -/
def rowsDISSEM_2 : List Row := [
  Row.arr 0x140 0x80 16 (fun i => C_STATUS_STATE i),
  Row.arr 0x140 0x80 16 (fun i => C_STATUS_END_REASON i),
  Row.arr 0x140 0x80 16 (fun i => C_STATUS_EPOCH i),
  Row.arr 0x140 0x80 16 (fun i => C_STATUS_K i),
  Row.arr 0x144 0x80 16 (fun i => C_ESI_NEXT i),
  Row.arr 0x148 0x80 16 (fun i => C_SENT i),
  Row.arr 0x14C 0x80 16 (fun i => C_WINDOWS i),
  Row.arr 0x150 0x80 16 (fun i => C_COMPLETE i),
  Row.arr 0x154 0x80 16 (fun i => C_FAILED i),
  Row.arr 0x158 0x80 16 (fun i => C_REPORTED i),
  Row.arr 0x15C 0x80 16 (fun i => C_NEXT_WIN i),
  Row.arr 0x160 0x80 16 (fun i => C_WITHDRAWN i)]

/-- The words of page DISSEM, row by row (R572). -/
def rowsDISSEM : List Row := List.flatten [rowsDISSEM_0, rowsDISSEM_1, rowsDISSEM_2]

end Sys2Proof.Machine
end

