-- ==== Sys2Proof/Machine/RegsD.lean ====
section
/-! DEFINITION. The register fields of the key, cipher, Ethernet and time pages, as the register tables of the spec
lay them out: page, offset, lowest bit, width, access type (R9), reset value, what keeps the field over a reset
(R622), and the values and page states in which a write is accepted (R76). -/

namespace Sys2Proof.Machine

namespace F.KEYS

/-- SEL: slot shown in SLOT_*. -/
def SEL : Field := ⟨0x30, 0x040, 0, 10, .rw, 0, .ordinary, .any, .always⟩
/-- SLOT_ATTR: attribute word of SEL. -/
def SLOT_ATTR : Field := ⟨0x30, 0x044, 0, 32, .ro, 0, .ordinary, .any, .always⟩
/-- SLOT_PARENT: parent word of SEL, per R372. -/
def SLOT_PARENT : Field := ⟨0x30, 0x048, 0, 32, .ro, 0, .ordinary, .any, .always⟩
/-- SLOT_TXCNT: next transmit counter, per R385. -/
def SLOT_TXCNT : Field := ⟨0x30, 0x04C, 0, 32, .ro, 0, .ordinary, .any, .always⟩
/-- SLOT_CEILING: durable ceiling. -/
def SLOT_CEILING : Field := ⟨0x30, 0x050, 0, 32, .ro, 0, .ordinary, .any, .always⟩
/-- SLOT_USES: uses since reset. -/
def SLOT_USES : Field := ⟨0x30, 0x054, 0, 32, .ro, 0, .ordinary, .any, .always⟩
/-- SCAN[0].SLOT: scanned slot. -/
def SCAN0_SLOT : Field := ⟨0x30, 0x060, 0, 10, .ro, 0, .ordinary, .any, .always⟩
/-- SCAN[0].NONE: 1 = no slot VALID. -/
def SCAN0_NONE : Field := ⟨0x30, 0x060, 31, 1, .ro, 1, .ordinary, .any, .always⟩
/-- SCAN[1]: attribute word. -/
def SCAN1 : Field := ⟨0x30, 0x064, 0, 32, .ro, 0, .ordinary, .any, .always⟩
/-- SCAN[2]: parent word. -/
def SCAN2 : Field := ⟨0x30, 0x068, 0, 32, .ro, 0, .ordinary, .any, .always⟩
/-- SCAN[3]: uses; advances per above. -/
def SCAN3 : Field := ⟨0x30, 0x06C, 0, 32, .ro, 0, .ordinary, .any, .always⟩
/-- ROOT.READY: 1 = root available. -/
def ROOT_READY : Field := ⟨0x30, 0x080, 0, 1, .ro, 0, .ordinary, .any, .always⟩
/-- ROOT.SEALED: 1 = sealed. -/
def ROOT_SEALED : Field := ⟨0x30, 0x080, 1, 1, .ro, 0, .nonvolatile, .any, .always⟩
/-- ROOT.ALARM: per R358. -/
def ROOT_ALARM : Field := ⟨0x30, 0x080, 2, 1, .rw1c, 0, .ordinary, .any, .always⟩
/-- ROOT.RESULT: 0 NOT_RUN, 1 OK, 2 NO_HELPER, 3 SRAM_FAIL, 4 DELAY_FAIL, 5 TAG_FAIL, 6 MASK_LOST, 7 HALTED, 8 ENROLLED, 9 DECOMMISSIONED; NOT_RUN also throughout BLANK, per R356. -/
def ROOT_RESULT : Field := ⟨0x30, 0x080, 8, 4, .ro, 0, .ordinary, .any, .always⟩
/-- PUF_SRAM.BLOCKS: in-service blocks. -/
def PUF_SRAM_BLOCKS (j : Nat) : Field := ⟨0x30, 0x084, (2 * j), 2, .ro, 0, .ordinary, .any, .always⟩
/-- PUF_SRAM.RETIRED: bit b = block b retired. -/
def PUF_SRAM_RETIRED : Field := ⟨0x30, 0x084, 4, 4, .ro, 0, .ordinary, .any, .always⟩
/-- PUF_SRAM.BLOCK_FAIL: bit b = block b failed to decode. -/
def PUF_SRAM_BLOCK_FAIL : Field := ⟨0x30, 0x084, 8, 4, .rw1c, 0, .ordinary, .any, .always⟩
/-- PUF_SRAM.WORST: most corrections in one codeword, 0–21. -/
def PUF_SRAM_WORST : Field := ⟨0x30, 0x084, 16, 5, .ro, 0, .ordinary, .any, .always⟩
/-- PUF_DELAY.USABLE: non-retired pairs. -/
def PUF_DELAY_USABLE : Field := ⟨0x30, 0x088, 0, 11, .ro, 1024, .ordinary, .any, .always⟩
/-- PUF_DELAY.WORST: most corrections in one codeword, 0–10. -/
def PUF_DELAY_WORST : Field := ⟨0x30, 0x088, 16, 4, .ro, 0, .ordinary, .any, .always⟩
/-- PUF_AGE: powered hours since enrolment. -/
def PUF_AGE : Field := ⟨0x30, 0x08C, 0, 32, .ro, 0, .ordinary, .any, .always⟩
/-- IDENTITY[0–1]: ROOT_ID, low word first, from the cycle ROOT_READY sets, per R356; 0 while ROOT_READY = 0. -/
def IDENTITY (k : Nat) : Field := ⟨0x30, (0x090 + 0x4 * k), 0, 32, .ro, 0, .ordinary, .any, .always⟩
/-- CACHE_VALID: cache entries held. -/
def CACHE_VALID : Field := ⟨0x30, 0x098, 0, 13, .ro, 0, .ordinary, .any, .always⟩
/-- CACHE_HITS: . -/
def CACHE_HITS : Field := ⟨0x30, 0x09C, 0, 32, .rc, 0, .ordinary, .any, .always⟩
/-- CACHE_MISSES: . -/
def CACHE_MISSES : Field := ⟨0x30, 0x0A0, 0, 32, .rc, 0, .ordinary, .any, .always⟩
/-- UNWRAP_FAILS: per R380. -/
def UNWRAP_FAILS : Field := ⟨0x30, 0x0A4, 0, 32, .rc, 0, .ordinary, .any, .always⟩
/-- SUPPRESSED: per R382. -/
def SUPPRESSED : Field := ⟨0x30, 0x0A8, 0, 32, .rc, 0, .ordinary, .any, .always⟩
/-- RESERVE_WAITS: per R386. -/
def RESERVE_WAITS : Field := ⟨0x30, 0x0AC, 0, 32, .rc, 0, .ordinary, .any, .always⟩
/-- JOURNAL_USED: fingerprints recorded, 0–16,384. -/
def JOURNAL_USED : Field := ⟨0x30, 0x0B0, 0, 15, .ro, 0, .ordinary, .any, .always⟩
/-- TRUST_DENIED: per R375. -/
def TRUST_DENIED : Field := ⟨0x30, 0x0B4, 0, 32, .rc, 0, .ordinary, .any, .always⟩
/-- LOAD_STATUS: copy of BAR4 LOAD.STATUS. -/
def LOAD_STATUS : Field := ⟨0x30, 0x0B8, 0, 32, .ro, 0, .ordinary, .any, .always⟩
/-- LC.STATE: per R389. -/
def LC_STATE : Field := ⟨0x30, 0x0BC, 0, 3, .ro, 1, .nonvolatile, .any, .always⟩
/-- LC.FUSED: fused state. -/
def LC_FUSED : Field := ⟨0x30, 0x0BC, 4, 3, .ro, 1, .nonvolatile, .any, .always⟩

end F.KEYS

open F.KEYS in
/-- Part 0 of the words of page KEYS (R392). -/
def rowsKEYS_0 : List Row := [
  Row.one 0x040 SEL,
  Row.one 0x044 SLOT_ATTR,
  Row.one 0x048 SLOT_PARENT,
  Row.one 0x04C SLOT_TXCNT,
  Row.one 0x050 SLOT_CEILING,
  Row.one 0x054 SLOT_USES,
  Row.one 0x060 SCAN0_SLOT,
  Row.one 0x060 SCAN0_NONE,
  Row.one 0x064 SCAN1,
  Row.one 0x068 SCAN2,
  Row.one 0x06C SCAN3,
  Row.one 0x080 ROOT_READY,
  Row.one 0x080 ROOT_SEALED,
  Row.one 0x080 ROOT_ALARM,
  Row.one 0x080 ROOT_RESULT,
  Row.one 0x084 (PUF_SRAM_BLOCKS 0),
  Row.one 0x084 (PUF_SRAM_BLOCKS 1),
  Row.one 0x084 PUF_SRAM_RETIRED,
  Row.one 0x084 PUF_SRAM_BLOCK_FAIL,
  Row.one 0x084 PUF_SRAM_WORST,
  Row.one 0x088 PUF_DELAY_USABLE,
  Row.one 0x088 PUF_DELAY_WORST,
  Row.one 0x08C PUF_AGE,
  Row.arr 0x090 0x4 2 (fun i => IDENTITY i)]

open F.KEYS in
/-- Part 1 of the words of page KEYS (R392). -/
def rowsKEYS_1 : List Row := [
  Row.one 0x098 CACHE_VALID,
  Row.one 0x09C CACHE_HITS,
  Row.one 0x0A0 CACHE_MISSES,
  Row.one 0x0A4 UNWRAP_FAILS,
  Row.one 0x0A8 SUPPRESSED,
  Row.one 0x0AC RESERVE_WAITS,
  Row.one 0x0B0 JOURNAL_USED,
  Row.one 0x0B4 TRUST_DENIED,
  Row.one 0x0B8 LOAD_STATUS,
  Row.one 0x0BC LC_STATE,
  Row.one 0x0BC LC_FUSED]

/-- The words of page KEYS, row by row (R392). -/
def rowsKEYS : List Row := List.flatten [rowsKEYS_0, rowsKEYS_1]

namespace F.FCRYPTO

/-- ENGINE[e].STATE: 0 IN_SERVICE, 1 DRAINING, 2 TEST, 3 RESERVE, 4 RETIRED. -/
def ENGINE_STATE (e : Nat) : Field := ⟨0x31, (0x040 + 0x4 * e), 0, 3, .ro, (if e = 8 then 3 else 0), .ordinary, .any, .always⟩
/-- ENGINE[e].CONTEXTS: contexts held, 0–32. -/
def ENGINE_CONTEXTS (e : Nat) : Field := ⟨0x31, (0x040 + 0x4 * e), 8, 6, .ro, 0, .ordinary, .any, .always⟩
/-- ENGINE[e].FAULTS_24H: mismatches in the last 24 h, 0–3. -/
def ENGINE_FAULTS_24H (e : Nat) : Field := ⟨0x31, (0x040 + 0x4 * e), 16, 2, .ro, 0, .ordinary, .any, .always⟩
/-- ENGINE[e].FAULTS_TOTAL: mismatches since reset, saturating at 255. -/
def ENGINE_FAULTS_TOTAL (e : Nat) : Field := ⟨0x31, (0x040 + 0x4 * e), 24, 8, .ro, 0, .ordinary, .any, .always⟩
/-- MISMATCHES: per R399. -/
def MISMATCHES : Field := ⟨0x31, 0x070, 0, 32, .rc, 0, .ordinary, .any, .always⟩
/-- LAST_FAULT.ENGINE: engine of the last fault. -/
def LAST_FAULT_ENGINE : Field := ⟨0x31, 0x074, 0, 4, .ro, 0, .ordinary, .any, .always⟩
/-- LAST_FAULT.USER: 0 reception, 1 transmission, 2 job. -/
def LAST_FAULT_USER : Field := ⟨0x31, 0x074, 8, 2, .ro, 0, .ordinary, .any, .always⟩
/-- LAST_FAULT.CAUSE: 1 mismatch, 2 known-answer check, 3 self-test. -/
def LAST_FAULT_CAUSE : Field := ⟨0x31, 0x074, 12, 2, .ro, 0, .ordinary, .any, .always⟩
/-- NO_ENGINE: per R398. -/
def NO_ENGINE : Field := ⟨0x31, 0x078, 0, 32, .rc, 0, .ordinary, .any, .always⟩
/-- JOB.SLOT: slot, per R402. -/
def JOB_SLOT : Field := ⟨0x31, 0x080, 0, 10, .rw, 0, .ordinary, .any, .always⟩
/-- JOB.TAG_LEN: 0 four, 1 eight, 2 sixteen octets; 3 rejected. -/
def JOB_TAG_LEN : Field := ⟨0x31, 0x080, 16, 2, .rw, 0, .ordinary, (.range 0 2), .always⟩
/-- JOB.SRC: shared-window offset; bits [5:0] must be 0. -/
def JOB_SRC : Field := ⟨0x31, 0x084, 0, 28, .rw, 0, .ordinary, (.aligned 6), .always⟩
/-- JOB.DST: as SRC. -/
def JOB_DST : Field := ⟨0x31, 0x088, 0, 28, .rw, 0, .ordinary, (.aligned 6), .always⟩
/-- JOB.AAD_LEN: 0–16,384 octets. -/
def JOB_AAD_LEN : Field := ⟨0x31, 0x08C, 0, 15, .rw, 0, .ordinary, (.range 0 16384), .always⟩
/-- JOB.LENGTH: 0–16,384 octets; AAD_LEN + LENGTH at most 16,384, per R403. -/
def JOB_LENGTH : Field := ⟨0x31, 0x090, 0, 15, .rw, 0, .ordinary, (.range 0 16384), .always⟩
/-- JOB.NONCE[0–3]: nonce octet 0 in bits [7:0] of word 0; in word 3 bits [31:8] reserved. -/
def JOB_NONCE (k : Nat) : Field := ⟨0x31, (0x094 + 0x4 * k), 0, (if k = 3 then 8 else 32), .rw, 0, .ordinary, .any, .always⟩
/-- JOB.GO: 1 ENCRYPT, 2 DECRYPT; 0 and 3 rejected; rejected as ACTION while BUSY. -/
def JOB_GO : Field := ⟨0x31, 0x0A4, 0, 2, .wo, 0, .ordinary, (.range 1 2), .always⟩
/-- JOB_STATUS.BUSY: 1 = job running. -/
def JOB_STATUS_BUSY : Field := ⟨0x31, 0x0A8, 0, 1, .ro, 0, .ordinary, .any, .always⟩
/-- JOB_STATUS.RESULT: 0 NONE, 1 DONE, 2 AUTH_FAIL, 3 KEY_UNUSABLE, 4 KEY_REVOKED, 5 CRYPTO_FAULT, 6 DDR_ERROR, 7 ABORTED, 8 BAD_JOB. -/
def JOB_STATUS_RESULT : Field := ⟨0x31, 0x0A8, 4, 4, .ro, 0, .ordinary, .any, .always⟩

end F.FCRYPTO

open F.FCRYPTO in
/-- Part 0 of the words of page FCRYPTO (R415). -/
def rowsFCRYPTO_0 : List Row := [
  Row.arr 0x040 0x4 9 (fun i => ENGINE_STATE i),
  Row.arr 0x040 0x4 9 (fun i => ENGINE_CONTEXTS i),
  Row.arr 0x040 0x4 9 (fun i => ENGINE_FAULTS_24H i),
  Row.arr 0x040 0x4 9 (fun i => ENGINE_FAULTS_TOTAL i),
  Row.one 0x070 MISMATCHES,
  Row.one 0x074 LAST_FAULT_ENGINE,
  Row.one 0x074 LAST_FAULT_USER,
  Row.one 0x074 LAST_FAULT_CAUSE,
  Row.one 0x078 NO_ENGINE,
  Row.one 0x080 JOB_SLOT,
  Row.one 0x080 JOB_TAG_LEN,
  Row.one 0x084 JOB_SRC,
  Row.one 0x088 JOB_DST,
  Row.one 0x08C JOB_AAD_LEN,
  Row.one 0x090 JOB_LENGTH,
  Row.arr 0x094 0x4 4 (fun i => JOB_NONCE i),
  Row.one 0x0A4 JOB_GO,
  Row.one 0x0A8 JOB_STATUS_BUSY,
  Row.one 0x0A8 JOB_STATUS_RESULT]

/-- The words of page FCRYPTO, row by row (R415). -/
def rowsFCRYPTO : List Row := List.flatten [rowsFCRYPTO_0]

namespace F.SCIPHER

/-- STATUS.DDR_KEY: 0 EPHEMERAL, 1 ROOT, per R406. -/
def STATUS_DDR_KEY : Field := ⟨0x32, 0x040, 0, 1, .ro, 0, .ordinary, .any, .always⟩
/-- STATUS.FLASH_KEY: 1 = protected flash usable. -/
def STATUS_FLASH_KEY : Field := ⟨0x32, 0x040, 1, 1, .ro, 0, .ordinary, .any, .always⟩
/-- MISMATCHES: per R407. -/
def MISMATCHES : Field := ⟨0x32, 0x044, 0, 32, .rc, 0, .ordinary, .any, .always⟩
/-- RETRIES: per R407. -/
def RETRIES : Field := ⟨0x32, 0x048, 0, 32, .rc, 0, .ordinary, .any, .always⟩
/-- FAILED: per R407. -/
def FAILED : Field := ⟨0x32, 0x04C, 0, 32, .rc, 0, .ordinary, .any, .always⟩
/-- LAST_MISMATCH.ENGINE: 0 SE0, 1 SE1, 2 SE2. -/
def LAST_MISMATCH_ENGINE : Field := ⟨0x32, 0x050, 0, 2, .ro, 0, .ordinary, .any, .always⟩
/-- LAST_MISMATCH.ADDR_LO: DDR or flash address bits [31:0]. -/
def LAST_MISMATCH_ADDR_LO : Field := ⟨0x32, 0x054, 0, 32, .ro, 0, .ordinary, .any, .always⟩
/-- LAST_MISMATCH.ADDR_HI: address bits [33:32]. -/
def LAST_MISMATCH_ADDR_HI : Field := ⟨0x32, 0x058, 0, 2, .ro, 0, .ordinary, .any, .always⟩
/-- JOB.SLOT: STORAGE slot, per R408. -/
def JOB_SLOT : Field := ⟨0x32, 0x080, 0, 10, .rw, 0, .ordinary, .any, .always⟩
/-- JOB.SRC: shared-window offset; bits [5:0] must be 0. -/
def JOB_SRC : Field := ⟨0x32, 0x084, 0, 28, .rw, 0, .ordinary, (.aligned 6), .always⟩
/-- JOB.DST: as SRC; may equal SRC. -/
def JOB_DST : Field := ⟨0x32, 0x088, 0, 28, .rw, 0, .ordinary, (.aligned 6), .always⟩
/-- JOB.LENGTH: 1–16,777,215 octets; checked against OP at GO. -/
def JOB_LENGTH : Field := ⟨0x32, 0x08C, 0, 24, .rw, 0, .ordinary, (.range 1 16777215), .always⟩
/-- JOB.DU_LOG2: XTS data unit 2^9–2^12 octets; others rejected. -/
def JOB_DU_LOG2 : Field := ⟨0x32, 0x090, 0, 4, .rw, 12, .ordinary, (.range 9 12), .always⟩
/-- JOB.IV[0–3]: IV, counter block or data unit number; octet 0 in bits [7:0] of word 0. -/
def JOB_IV (k : Nat) : Field := ⟨0x32, (0x094 + 0x4 * k), 0, 32, .rw, 0, .ordinary, .any, .always⟩
/-- JOB.GO: OP 1–7 per R408; 0 rejected; rejected as ACTION while BUSY, as RANGE for a length the OP forbids. -/
def JOB_GO : Field := ⟨0x32, 0x0A4, 0, 3, .wo, 0, .ordinary, (.range 1 7), .always⟩
/-- JOB_STATUS.BUSY: 1 = job running. -/
def JOB_STATUS_BUSY : Field := ⟨0x32, 0x0A8, 0, 1, .ro, 0, .ordinary, .any, .always⟩
/-- JOB_STATUS.RESULT: 0 NONE, 1 DONE, 3 KEY_UNUSABLE, 4 KEY_REVOKED, 5 CRYPTO_FAULT, 6 DDR_ERROR, 7 ABORTED. -/
def JOB_STATUS_RESULT : Field := ⟨0x32, 0x0A8, 4, 4, .ro, 0, .ordinary, .any, .always⟩

end F.SCIPHER

open F.SCIPHER in
/-- Part 0 of the words of page SCIPHER (R417). -/
def rowsSCIPHER_0 : List Row := [
  Row.one 0x040 STATUS_DDR_KEY,
  Row.one 0x040 STATUS_FLASH_KEY,
  Row.one 0x044 MISMATCHES,
  Row.one 0x048 RETRIES,
  Row.one 0x04C FAILED,
  Row.one 0x050 LAST_MISMATCH_ENGINE,
  Row.one 0x054 LAST_MISMATCH_ADDR_LO,
  Row.one 0x058 LAST_MISMATCH_ADDR_HI,
  Row.one 0x080 JOB_SLOT,
  Row.one 0x084 JOB_SRC,
  Row.one 0x088 JOB_DST,
  Row.one 0x08C JOB_LENGTH,
  Row.one 0x090 JOB_DU_LOG2,
  Row.arr 0x094 0x4 4 (fun i => JOB_IV i),
  Row.one 0x0A4 JOB_GO,
  Row.one 0x0A8 JOB_STATUS_BUSY,
  Row.one 0x0A8 JOB_STATUS_RESULT]

/-- The words of page SCIPHER, row by row (R417). -/
def rowsSCIPHER : List Row := List.flatten [rowsSCIPHER_0]

namespace F.PKE

/-- CMD.OP: operation 1–5 per R409; writing a non-zero OP starts it; 6 and 7 rejected. -/
def CMD_OP : Field := ⟨0x33, 0x040, 0, 3, .rw, 0, .ordinary, (.range 0 5), .always⟩
/-- CMD.HASH_IN: 1 = hash the message at ADDR, per R410. -/
def CMD_HASH_IN : Field := ⟨0x33, 0x040, 4, 1, .rw, 0, .ordinary, .any, .always⟩
/-- CMD.SLOT: VERIFY slot for OP 1–3. -/
def CMD_SLOT : Field := ⟨0x33, 0x040, 16, 10, .rw, 0, .ordinary, .any, .always⟩
/-- STATUS.BUSY: 1 = host operation accepted and not finished. -/
def STATUS_BUSY : Field := ⟨0x33, 0x044, 0, 1, .ro, 0, .ordinary, .any, .always⟩
/-- STATUS.RESULT: 0 NONE, 1 VALID, 2 INVALID, 3 BAD_KEY, 4 PIN_MISMATCH, 5 KEY_UNUSABLE, 6 FAULT, 7 ABORTED, 8 DDR_ERROR, 9 NO_ROOT, 10 DONE. -/
def STATUS_RESULT : Field := ⟨0x33, 0x044, 4, 4, .ro, 0, .ordinary, .any, .always⟩
/-- ADDR: message offset in the shared window. -/
def ADDR : Field := ⟨0x33, 0x048, 0, 28, .rw, 0, .ordinary, .any, .always⟩
/-- LENGTH: message length, 0–16,777,215 octets. -/
def LENGTH : Field := ⟨0x33, 0x04C, 0, 24, .rw, 0, .ordinary, .any, .always⟩
/-- HASH: 0 SHA-256, 1 SHA-384, 2 SHA-512; 3 rejected. -/
def HASH : Field := ⟨0x33, 0x050, 0, 2, .rw, 1, .ordinary, (.range 0 2), .always⟩
/-- OPS: operations completed, all users. -/
def OPS : Field := ⟨0x33, 0x060, 0, 32, .rc, 0, .ordinary, .any, .always⟩
/-- INVALIDS: results INVALID, BAD_KEY or PIN_MISMATCH. -/
def INVALIDS : Field := ⟨0x33, 0x064, 0, 32, .rc, 0, .ordinary, .any, .always⟩
/-- PUBKEY[0–23]: public key, octet 0 in bits [7:0] of word 0. -/
def PUBKEY (k : Nat) : Field := ⟨0x33, (0x100 + 0x4 * k), 0, 32, .rw, 0, .ordinary, .any, .always⟩
/-- SIG[0–23]: signature, as PUBKEY. -/
def SIG (k : Nat) : Field := ⟨0x33, (0x180 + 0x4 * k), 0, 32, .rw, 0, .ordinary, .any, .always⟩
/-- DIGEST[0–15]: digest, as PUBKEY. -/
def DIGEST (k : Nat) : Field := ⟨0x33, (0x200 + 0x4 * k), 0, 32, .rw, 0, .ordinary, .any, .always⟩
/-- RESULT[0–15]: PAIR_PUBLIC output X ‖ Y; zero after any other operation. -/
def RESULT (k : Nat) : Field := ⟨0x33, (0x280 + 0x4 * k), 0, 32, .ro, 0, .ordinary, .any, .always⟩

end F.PKE

open F.PKE in
/-- Part 0 of the words of page PKE (R419). -/
def rowsPKE_0 : List Row := [
  Row.one 0x040 CMD_OP,
  Row.one 0x040 CMD_HASH_IN,
  Row.one 0x040 CMD_SLOT,
  Row.one 0x044 STATUS_BUSY,
  Row.one 0x044 STATUS_RESULT,
  Row.one 0x048 ADDR,
  Row.one 0x04C LENGTH,
  Row.one 0x050 HASH,
  Row.one 0x060 OPS,
  Row.one 0x064 INVALIDS,
  Row.arr 0x100 0x4 24 (fun i => PUBKEY i),
  Row.arr 0x180 0x4 24 (fun i => SIG i),
  Row.arr 0x200 0x4 16 (fun i => DIGEST i),
  Row.arr 0x280 0x4 16 (fun i => RESULT i)]

/-- The words of page PKE, row by row (R419). -/
def rowsPKE : List Row := List.flatten [rowsPKE_0]

namespace F.BAR4

/-- TRUST.STATUS.OPEN: 1 = lock open. -/
def TRUST_STATUS_OPEN : Field := ⟨0x80, 0x000, 0, 1, .ro, 1, .ordinary, .any, .always⟩
/-- TRUST.STATUS.BUSY: 1 = verification running. -/
def TRUST_STATUS_BUSY : Field := ⟨0x80, 0x000, 1, 1, .ro, 0, .ordinary, .any, .always⟩
/-- TRUST.STATUS.RESULT: 0 NONE, 1 OPENED, 2 BAD_PIN, 3 BAD_SIG, 4 REFUSED. -/
def TRUST_STATUS_RESULT : Field := ⟨0x80, 0x000, 4, 3, .ro, 0, .ordinary, .any, .always⟩
/-- TRUST.STATUS.REMAINING: seconds until closing; 0xFFFF while open from reset. -/
def TRUST_STATUS_REMAINING : Field := ⟨0x80, 0x000, 16, 16, .ro, 0xFFFF, .ordinary, .any, .always⟩
/-- TRUST.NONCE[0–3]: nonce, low word first. -/
def TRUST_NONCE (k : Nat) : Field := ⟨0x80, (0x010 + 0x4 * k), 0, 32, .ro, 0, .ordinary, .any, .always⟩
/-- TRUST.DURATION: 1–65,535 s. -/
def TRUST_DURATION : Field := ⟨0x80, 0x020, 0, 16, .rw, 3600, .ordinary, (.range 1 65535), .always⟩
/-- TRUST.CMD: 1 UNLOCK, 2 CLOSE; 0 and 3 rejected. -/
def TRUST_CMD : Field := ⟨0x80, 0x024, 0, 2, .wo, 0, .ordinary, (.range 1 2), .always⟩
/-- TRUST.PUBKEY[0–23]: owner public key, octet 0 in bits [7:0] of word 0. -/
def TRUST_PUBKEY (k : Nat) : Field := ⟨0x80, (0x100 + 0x4 * k), 0, 32, .wo, 0, .ordinary, .any, .always⟩
/-- TRUST.SIG[0–23]: signature, as PUBKEY. -/
def TRUST_SIG (k : Nat) : Field := ⟨0x80, (0x180 + 0x4 * k), 0, 32, .wo, 0, .ordinary, .any, .always⟩
/-- LOAD.DATA[0–7]: key, label or context; key octet 0 in bits [7:0] of DATA[0]. -/
def LOAD_DATA (k : Nat) : Field := ⟨0x80, (0x1000 + 0x4 * k), 0, 32, .wo, 0, .ordinary, .any, .always⟩
/-- LOAD.ATTR: attribute word, per R370. -/
def LOAD_ATTR : Field := ⟨0x80, 0x1020, 0, 32, .wo, 0, .ordinary, .any, .always⟩
/-- LOAD.PARENT: parent slot for UNWRAP_LOAD, DERIVE and WRAP_OUT. -/
def LOAD_PARENT : Field := ⟨0x80, 0x1024, 0, 10, .wo, 0, .ordinary, .any, .always⟩
/-- LOAD.ADDR: offset in the shared window, 64-octet aligned. -/
def LOAD_ADDR : Field := ⟨0x80, 0x1028, 0, 28, .wo, 0, .ordinary, (.aligned 6), .always⟩
/-- COMMIT.SLOT: target slot. -/
def COMMIT_SLOT : Field := ⟨0x80, 0x1030, 0, 10, .wo, 0, .ordinary, .any, .always⟩
/-- COMMIT.OP: operation per R378; 0 rejected. -/
def COMMIT_OP : Field := ⟨0x80, 0x1030, 12, 3, .wo, 0, .ordinary, (.range 1 7), .always⟩
/-- COMMIT.LABEL_LEN: DERIVE label length 1–16, in DATA[0–3]. -/
def COMMIT_LABEL_LEN : Field := ⟨0x80, 0x1030, 16, 5, .wo, 0, .ordinary, .any, .always⟩
/-- COMMIT.CONTEXT_LEN: DERIVE context length 0–16, in DATA[4–7]. -/
def COMMIT_CONTEXT_LEN : Field := ⟨0x80, 0x1030, 24, 5, .wo, 0, .ordinary, .any, .always⟩
/-- COMMIT.FORGET: with ERASE: remove the key's journal entry, per R388. -/
def COMMIT_FORGET : Field := ⟨0x80, 0x1030, 29, 1, .wo, 0, .ordinary, .any, .always⟩
/-- LOAD.STATUS.BUSY: 1 = operation running. -/
def LOAD_STATUS_BUSY : Field := ⟨0x80, 0x1034, 0, 1, .ro, 0, .ordinary, .any, .always⟩
/-- LOAD.STATUS.RESULT: per R378. -/
def LOAD_STATUS_RESULT : Field := ⟨0x80, 0x1034, 4, 4, .ro, 0, .ordinary, .any, .always⟩
/-- LOAD.STATUS.SLOT: slot of the last operation. -/
def LOAD_STATUS_SLOT : Field := ⟨0x80, 0x1034, 16, 10, .ro, 0, .ordinary, .any, .always⟩
/-- LC.CMD.TARGET: target state, per R390. -/
def LC_CMD_TARGET : Field := ⟨0x80, 0x2000, 0, 3, .wo, 0, .ordinary, .any, .always⟩
/-- LC.CMD.SEAL: 1 = seal, per R366; with TARGET PROVISIONED, seal as part of the transition. -/
def LC_CMD_SEAL : Field := ⟨0x80, 0x2000, 8, 1, .wo, 0, .ordinary, .any, .always⟩
/-- LC.CMD.EXIT: 1 = leave RECOVERY at the next warm reset. -/
def LC_CMD_EXIT : Field := ⟨0x80, 0x2000, 9, 1, .wo, 0, .ordinary, .any, .always⟩
/-- LC.CMD.CONFIRM: must be 0xA5C3; otherwise rejected as RANGE. -/
def LC_CMD_CONFIRM : Field := ⟨0x80, 0x2000, 16, 16, .wo, 0, .ordinary, (.oneOf [0xA5C3]), .always⟩
/-- LC.STATUS.BUSY: 1 = transition running. -/
def LC_STATUS_BUSY : Field := ⟨0x80, 0x2004, 0, 1, .ro, 0, .ordinary, .any, .always⟩
/-- LC.STATUS.RESULT: 0 NONE, 1 DONE, 2 REFUSED, 3 NO_ROOT, 4 NO_PROFILE, 5 VBAT, 6 FLASH_ERROR. -/
def LC_STATUS_RESULT : Field := ⟨0x80, 0x2004, 4, 4, .ro, 0, .ordinary, .any, .always⟩
/-- LC.OWNER_PIN[0–11]: SHA-384 of the owner public key, for MANUFACTURE to PROVISIONED. -/
def LC_OWNER_PIN (k : Nat) : Field := ⟨0x80, (0x2010 + 0x4 * k), 0, 32, .wo, 0, .ordinary, .any, .always⟩
/-- PUF.CMD.OP: 1 ENROL, 2 REFRESH, 3 SWAP, 4 RESEAL; others rejected. -/
def PUF_CMD_OP : Field := ⟨0x80, 0x3000, 0, 3, .wo, 0, .ordinary, (.range 1 4), .always⟩
/-- PUF.CMD.SWAP_OUT: in-service block to retire. -/
def PUF_CMD_SWAP_OUT : Field := ⟨0x80, 0x3000, 8, 2, .wo, 0, .ordinary, .any, .always⟩
/-- PUF.CMD.SWAP_IN: reserve block to enrol. -/
def PUF_CMD_SWAP_IN : Field := ⟨0x80, 0x3000, 12, 2, .wo, 0, .ordinary, .any, .always⟩
/-- PUF.STATUS.BUSY: 1 = command running. -/
def PUF_STATUS_BUSY : Field := ⟨0x80, 0x3004, 0, 1, .ro, 0, .ordinary, .any, .always⟩
/-- PUF.STATUS.RESULT: 0 NONE, 1 DONE, 2 REFUSED, 3 NO_ENTROPY, 4 RECONSTRUCT_FAIL, 5 PAIRS_LOW, 6 FLASH_ERROR, 7 VBAT. -/
def PUF_STATUS_RESULT : Field := ⟨0x80, 0x3004, 4, 4, .ro, 0, .ordinary, .any, .always⟩

end F.BAR4

open F.BAR4 in
/-- Part 0 of the words of page BAR4 (R375, R377). -/
def rowsBAR4_0 : List Row := [
  Row.one 0x000 TRUST_STATUS_OPEN,
  Row.one 0x000 TRUST_STATUS_BUSY,
  Row.one 0x000 TRUST_STATUS_RESULT,
  Row.one 0x000 TRUST_STATUS_REMAINING,
  Row.arr 0x010 0x4 4 (fun i => TRUST_NONCE i),
  Row.one 0x020 TRUST_DURATION,
  Row.one 0x024 TRUST_CMD,
  Row.arr 0x100 0x4 24 (fun i => TRUST_PUBKEY i),
  Row.arr 0x180 0x4 24 (fun i => TRUST_SIG i),
  Row.arr 0x1000 0x4 8 (fun i => LOAD_DATA i),
  Row.one 0x1020 LOAD_ATTR,
  Row.one 0x1024 LOAD_PARENT,
  Row.one 0x1028 LOAD_ADDR,
  Row.one 0x1030 COMMIT_SLOT,
  Row.one 0x1030 COMMIT_OP,
  Row.one 0x1030 COMMIT_LABEL_LEN,
  Row.one 0x1030 COMMIT_CONTEXT_LEN,
  Row.one 0x1030 COMMIT_FORGET,
  Row.one 0x1034 LOAD_STATUS_BUSY,
  Row.one 0x1034 LOAD_STATUS_RESULT,
  Row.one 0x1034 LOAD_STATUS_SLOT,
  Row.one 0x2000 LC_CMD_TARGET,
  Row.one 0x2000 LC_CMD_SEAL,
  Row.one 0x2000 LC_CMD_EXIT]

open F.BAR4 in
/-- Part 1 of the words of page BAR4 (R375, R377). -/
def rowsBAR4_1 : List Row := [
  Row.one 0x2000 LC_CMD_CONFIRM,
  Row.one 0x2004 LC_STATUS_BUSY,
  Row.one 0x2004 LC_STATUS_RESULT,
  Row.arr 0x2010 0x4 12 (fun i => LC_OWNER_PIN i),
  Row.one 0x3000 PUF_CMD_OP,
  Row.one 0x3000 PUF_CMD_SWAP_OUT,
  Row.one 0x3000 PUF_CMD_SWAP_IN,
  Row.one 0x3004 PUF_STATUS_BUSY,
  Row.one 0x3004 PUF_STATUS_RESULT]

/-- The words of page BAR4, row by row (R375, R377). -/
def rowsBAR4 : List Row := List.flatten [rowsBAR4_0, rowsBAR4_1]

namespace F.ETH

/-- MODE.SEL: per R421; writable only in OFF or STOPPED. -/
def MODE_SEL (n : Nat) : Field := ⟨(0x38 + n % 2), 0x040, 0, 3, .rw, 0, .ordinary, (.range 0 4), .offOrStopped⟩
/-- MODE.AN: 1 = auto-negotiation in modes 3 and 4. -/
def MODE_AN (n : Nat) : Field := ⟨(0x38 + n % 2), 0x040, 4, 1, .rw, 1, .ordinary, .any, .offOrStopped⟩
/-- MODE.LOS_USE: 1 = ETHn_LOS high holds the link down. -/
def MODE_LOS_USE (n : Nat) : Field := ⟨(0x38 + n % 2), 0x040, 8, 1, .rw, 1, .ordinary, .any, .offOrStopped⟩
/-- MODE.TX_POL: 1 = invert the transmit lane. -/
def MODE_TX_POL (n : Nat) : Field := ⟨(0x38 + n % 2), 0x040, 9, 1, .rw, 0, .ordinary, .any, .offOrStopped⟩
/-- MODE.RX_POL: 1 = invert the receive lane. -/
def MODE_RX_POL (n : Nat) : Field := ⟨(0x38 + n % 2), 0x040, 10, 1, .rw, 0, .ordinary, .any, .offOrStopped⟩
/-- MAC_ADDR_LO: octets 2–5, per R424. -/
def MAC_ADDR_LO (n : Nat) : Field := ⟨(0x38 + n % 2), 0x044, 0, 32, .rw, 0, .ordinary, .any, .always⟩
/-- MAC_ADDR_HI: octets 0–1. -/
def MAC_ADDR_HI (n : Nat) : Field := ⟨(0x38 + n % 2), 0x048, 0, 16, .rw, 0, .ordinary, .any, .always⟩
/-- MAX_FRAME: 1,518–9,216 octets. -/
def MAX_FRAME (n : Nat) : Field := ⟨(0x38 + n % 2), 0x04C, 0, 14, .rw, 1522, .ordinary, (.range 1518 9216), .always⟩
/-- EGRESS_HOLD: 1–100,000 µs; 0 rejected. -/
def EGRESS_HOLD (n : Nat) : Field := ⟨(0x38 + n % 2), 0x050, 0, 17, .rw, 10000, .ordinary, (.range 1 100000), .always⟩
/-- PAUSE.RX_EN: 1 = obey received pause, per R432. -/
def PAUSE_RX_EN (n : Nat) : Field := ⟨(0x38 + n % 2), 0x054, 0, 1, .rw, 1, .ordinary, .any, .always⟩
/-- PAUSE.TX_EN: 1 = send pause, per R435. -/
def PAUSE_TX_EN (n : Nat) : Field := ⟨(0x38 + n % 2), 0x054, 1, 1, .rw, 1, .ordinary, .any, .always⟩
/-- PAUSE.TIME: 1–65,535 quanta; 0 rejected. -/
def PAUSE_TIME (n : Nat) : Field := ⟨(0x38 + n % 2), 0x054, 16, 16, .rw, 0xffff, .ordinary, (.range 1 65535), .always⟩
/-- PAUSE.MAX_HOLD: 0 = no limit, 1–65,535 ms. -/
def PAUSE_MAX_HOLD (n : Nat) : Field := ⟨(0x38 + n % 2), 0x058, 0, 16, .rw, 1000, .ordinary, .any, .always⟩
/-- BUFFER.HIGH: 1–4,194,303 KiB. -/
def BUFFER_HIGH (n : Nat) : Field := ⟨(0x38 + n % 2), 0x05C, 0, 22, .rw, 16384, .ordinary, (.range 1 4194303), .always⟩
/-- BUFFER.LOW: 0–4,194,302 KiB, below HIGH. -/
def BUFFER_LOW (n : Nat) : Field := ⟨(0x38 + n % 2), 0x060, 0, 22, .rw, 8192, .ordinary, (.range 0 4194302), .always⟩
/-- BUFFER.LEVEL: downlink buffer level, KiB, per R434. -/
def BUFFER_LEVEL (n : Nat) : Field := ⟨(0x38 + n % 2), 0x064, 0, 23, .ro, 0, .ordinary, .any, .always⟩
/-- BUFFER.PEAK: highest LEVEL since last read. -/
def BUFFER_PEAK (n : Nat) : Field := ⟨(0x38 + n % 2), 0x068, 0, 23, .rc, 0, .ordinary, .any, .always⟩
/-- BUFFER.LATCH: 1 = LEVEL has reached HIGH. -/
def BUFFER_LATCH (n : Nat) : Field := ⟨(0x38 + n % 2), 0x06C, 0, 1, .rw1c, 0, .ordinary, .any, .always⟩
/-- STATUS.UP: 1 = link up, per R422. -/
def STATUS_UP (n : Nat) : Field := ⟨(0x38 + n % 2), 0x070, 0, 1, .ro, 0, .ordinary, .any, .always⟩
/-- STATUS.PAUSED_BY_PEER: per R433. -/
def STATUS_PAUSED_BY_PEER (n : Nat) : Field := ⟨(0x38 + n % 2), 0x070, 1, 1, .ro, 0, .ordinary, .any, .always⟩
/-- STATUS.PAUSING_PEER: per R435. -/
def STATUS_PAUSING_PEER (n : Nat) : Field := ⟨(0x38 + n % 2), 0x070, 2, 1, .ro, 0, .ordinary, .any, .always⟩
/-- STATUS.PAUSE_GAVE_UP: per R435. -/
def STATUS_PAUSE_GAVE_UP (n : Nat) : Field := ⟨(0x38 + n % 2), 0x070, 3, 1, .ro, 0, .ordinary, .any, .always⟩
/-- STATUS.PAUSE_RX_ACTIVE: per R432. -/
def STATUS_PAUSE_RX_ACTIVE (n : Nat) : Field := ⟨(0x38 + n % 2), 0x070, 4, 1, .ro, 0, .ordinary, .any, .always⟩
/-- STATUS.PAUSE_TX_ACTIVE: per R432. -/
def STATUS_PAUSE_TX_ACTIVE (n : Nat) : Field := ⟨(0x38 + n % 2), 0x070, 5, 1, .ro, 0, .ordinary, .any, .always⟩
/-- STATUS.SGMII_SPEED: 0 1,000, 1 100, 2 10 Mb/s. -/
def STATUS_SGMII_SPEED (n : Nat) : Field := ⟨(0x38 + n % 2), 0x070, 6, 2, .ro, 0, .ordinary, .any, .always⟩
/-- STATUS.DOWN_REASON: 0 none; 1–5 per R422; 6 PORT_OFF while the page is OFF. -/
def STATUS_DOWN_REASON (n : Nat) : Field := ⟨(0x38 + n % 2), 0x070, 8, 4, .ro, 6, .ordinary, .any, .always⟩
/-- PAUSE_REMAIN: quanta left of the peer's pause. -/
def PAUSE_REMAIN (n : Nat) : Field := ⟨(0x38 + n % 2), 0x074, 0, 16, .ro, 0, .ordinary, .any, .always⟩
/-- LINK_CHANGES: saturating at 65,535. -/
def LINK_CHANGES (n : Nat) : Field := ⟨(0x38 + n % 2), 0x078, 0, 16, .rc, 0, .ordinary, .any, .always⟩
/-- RX_GOOD: frames accepted by R425 and R426, MAC control included. -/
def RX_GOOD (n : Nat) : Field := ⟨(0x38 + n % 2), 0x080, 0, 32, .rc, 0, .ordinary, .any, .always⟩
/-- RX_RUNT: DROP_ETH_RUNT. -/
def RX_RUNT (n : Nat) : Field := ⟨(0x38 + n % 2), 0x084, 0, 32, .rc, 0, .ordinary, .any, .always⟩
/-- RX_GIANT: DROP_ETH_GIANT. -/
def RX_GIANT (n : Nat) : Field := ⟨(0x38 + n % 2), 0x088, 0, 32, .rc, 0, .ordinary, .any, .always⟩
/-- RX_FCS: DROP_ETH_FCS. -/
def RX_FCS (n : Nat) : Field := ⟨(0x38 + n % 2), 0x08C, 0, 32, .rc, 0, .ordinary, .any, .always⟩
/-- RX_NO_BUFFER: per R426. -/
def RX_NO_BUFFER (n : Nat) : Field := ⟨(0x38 + n % 2), 0x090, 0, 32, .rc, 0, .ordinary, .any, .always⟩
/-- RX_PAUSE: per R432. -/
def RX_PAUSE (n : Nat) : Field := ⟨(0x38 + n % 2), 0x094, 0, 32, .rc, 0, .ordinary, .any, .always⟩
/-- RX_CTRL_OTHER: per R432. -/
def RX_CTRL_OTHER (n : Nat) : Field := ⟨(0x38 + n % 2), 0x098, 0, 32, .rc, 0, .ordinary, .any, .always⟩
/-- RX_MALFORMED: per R429. -/
def RX_MALFORMED (n : Nat) : Field := ⟨(0x38 + n % 2), 0x09C, 0, 32, .rc, 0, .ordinary, .any, .always⟩
/-- TX_GOOD: frames sent, PAUSE frames excluded. -/
def TX_GOOD (n : Nat) : Field := ⟨(0x38 + n % 2), 0x0A0, 0, 32, .rc, 0, .ordinary, .any, .always⟩
/-- TX_PAUSE: per R435. -/
def TX_PAUSE (n : Nat) : Field := ⟨(0x38 + n % 2), 0x0A4, 0, 32, .rc, 0, .ordinary, .any, .always⟩
/-- TX_TIMEOUT: per R431. -/
def TX_TIMEOUT (n : Nat) : Field := ⟨(0x38 + n % 2), 0x0A8, 0, 32, .rc, 0, .ordinary, .any, .always⟩
/-- TX_ABORTED: per R422 and R441. -/
def TX_ABORTED (n : Nat) : Field := ⟨(0x38 + n % 2), 0x0AC, 0, 32, .rc, 0, .ordinary, .any, .always⟩
/-- PAUSE_GIVEUP: per R435. -/
def PAUSE_GIVEUP (n : Nat) : Field := ⟨(0x38 + n % 2), 0x0B0, 0, 32, .rc, 0, .ordinary, .any, .always⟩
/-- RX_OCTETS_LO: octets of RX_GOOD frames, low half; per R443. -/
def RX_OCTETS_LO (n : Nat) : Field := ⟨(0x38 + n % 2), 0x0B4, 0, 32, .rc, 0, .ordinary, .any, .always⟩
/-- RX_OCTETS_HI: high half latched by the LO read. -/
def RX_OCTETS_HI (n : Nat) : Field := ⟨(0x38 + n % 2), 0x0B8, 0, 32, .ro, 0, .ordinary, .any, .always⟩
/-- TX_OCTETS_LO: octets sent, low half. -/
def TX_OCTETS_LO (n : Nat) : Field := ⟨(0x38 + n % 2), 0x0BC, 0, 32, .rc, 0, .ordinary, .any, .always⟩
/-- TX_OCTETS_HI: high half. -/
def TX_OCTETS_HI (n : Nat) : Field := ⟨(0x38 + n % 2), 0x0C0, 0, 32, .ro, 0, .ordinary, .any, .always⟩
/-- SFP.CFG.ENABLE: 1 = manage the module, per R437. -/
def SFP_CFG_ENABLE (n : Nat) : Field := ⟨(0x38 + n % 2), 0x0C4, 0, 1, .rw, 1, .ordinary, .any, .always⟩
/-- SFP.CFG.FAST: 1 = 400 kHz. -/
def SFP_CFG_FAST (n : Nat) : Field := ⟨(0x38 + n % 2), 0x0C4, 1, 1, .rw, 0, .ordinary, .any, .always⟩
/-- SFP.CFG.FORCE_TX_DIS: 1 = hold ETHn_TX_DIS high. -/
def SFP_CFG_FORCE_TX_DIS (n : Nat) : Field := ⟨(0x38 + n % 2), 0x0C4, 2, 1, .rw, 0, .ordinary, .any, .always⟩
/-- SFP.STATUS.PRESENT: per R438. -/
def SFP_STATUS_PRESENT (n : Nat) : Field := ⟨(0x38 + n % 2), 0x0C8, 0, 1, .ro, 0, .ordinary, .any, .always⟩
/-- SFP.STATUS.ID_VALID: per R438. -/
def SFP_STATUS_ID_VALID (n : Nat) : Field := ⟨(0x38 + n % 2), 0x0C8, 1, 1, .ro, 0, .ordinary, .any, .always⟩
/-- SFP.STATUS.CC_BAD: per R438. -/
def SFP_STATUS_CC_BAD (n : Nat) : Field := ⟨(0x38 + n % 2), 0x0C8, 2, 1, .ro, 0, .ordinary, .any, .always⟩
/-- SFP.STATUS.DDM: per R438. -/
def SFP_STATUS_DDM (n : Nat) : Field := ⟨(0x38 + n % 2), 0x0C8, 3, 1, .ro, 0, .ordinary, .any, .always⟩
/-- SFP.STATUS.LOS: filtered ETHn_LOS. -/
def SFP_STATUS_LOS (n : Nat) : Field := ⟨(0x38 + n % 2), 0x0C8, 4, 1, .ro, 0, .ordinary, .any, .always⟩
/-- SFP.STATUS.BUSY: 1 = host access running. -/
def SFP_STATUS_BUSY (n : Nat) : Field := ⟨(0x38 + n % 2), 0x0C8, 7, 1, .ro, 0, .ordinary, .any, .always⟩
/-- SFP.STATUS.RESULT: 0 NONE, 1 DONE, 2 NACK, 3 TIMEOUT, 4 ABSENT. -/
def SFP_STATUS_RESULT (n : Nat) : Field := ⟨(0x38 + n % 2), 0x0C8, 8, 3, .ro, 0, .ordinary, .any, .always⟩
/-- SFP.ACCESS.ADDR: octet address. -/
def SFP_ACCESS_ADDR (n : Nat) : Field := ⟨(0x38 + n % 2), 0x0CC, 0, 8, .wo, 0, .ordinary, .any, .always⟩
/-- SFP.ACCESS.DEV: 0 device 0xA0, 1 device 0xA2. -/
def SFP_ACCESS_DEV (n : Nat) : Field := ⟨(0x38 + n % 2), 0x0CC, 8, 1, .wo, 0, .ordinary, .any, .always⟩
/-- SFP.ACCESS.WRITE: 1 = write DATA. -/
def SFP_ACCESS_WRITE (n : Nat) : Field := ⟨(0x38 + n % 2), 0x0CC, 9, 1, .wo, 0, .ordinary, .any, .always⟩
/-- SFP.ACCESS.DATA: octet to write. -/
def SFP_ACCESS_DATA (n : Nat) : Field := ⟨(0x38 + n % 2), 0x0CC, 16, 8, .wo, 0, .ordinary, .any, .always⟩
/-- SFP.READ_DATA: octet of the last read. -/
def SFP_READ_DATA (n : Nat) : Field := ⟨(0x38 + n % 2), 0x0D0, 0, 8, .ro, 0, .ordinary, .any, .always⟩
/-- SFP_DDM[0–2]: device 0xA2 octets 96–105, octet 96 in bits [7:0] of word 0; bits [31:16] of word 2 read 0. -/
def SFP_DDM (n : Nat) (k : Nat) : Field := ⟨(0x38 + n % 2), (0x0D4 + 0x4 * k), 0, 32, .ro, 0, .ordinary, .any, .always⟩
/-- SFP_ID[0–23]: device 0xA0 octets 0–95, octet 4k in bits [7:0] of word k. -/
def SFP_ID (n : Nat) (k : Nat) : Field := ⟨(0x38 + n % 2), (0x100 + 0x4 * k), 0, 32, .ro, 0, .ordinary, .any, .always⟩

end F.ETH

open F.ETH in
/-- Part 0 of the words of page ETH (R446). -/
def rowsETH_0 (n : Nat) : List Row := [
  Row.one 0x040 (MODE_SEL n),
  Row.one 0x040 (MODE_AN n),
  Row.one 0x040 (MODE_LOS_USE n),
  Row.one 0x040 (MODE_TX_POL n),
  Row.one 0x040 (MODE_RX_POL n),
  Row.one 0x044 (MAC_ADDR_LO n),
  Row.one 0x048 (MAC_ADDR_HI n),
  Row.one 0x04C (MAX_FRAME n),
  Row.one 0x050 (EGRESS_HOLD n),
  Row.one 0x054 (PAUSE_RX_EN n),
  Row.one 0x054 (PAUSE_TX_EN n),
  Row.one 0x054 (PAUSE_TIME n),
  Row.one 0x058 (PAUSE_MAX_HOLD n),
  Row.one 0x05C (BUFFER_HIGH n),
  Row.one 0x060 (BUFFER_LOW n),
  Row.one 0x064 (BUFFER_LEVEL n),
  Row.one 0x068 (BUFFER_PEAK n),
  Row.one 0x06C (BUFFER_LATCH n),
  Row.one 0x070 (STATUS_UP n),
  Row.one 0x070 (STATUS_PAUSED_BY_PEER n),
  Row.one 0x070 (STATUS_PAUSING_PEER n),
  Row.one 0x070 (STATUS_PAUSE_GAVE_UP n),
  Row.one 0x070 (STATUS_PAUSE_RX_ACTIVE n),
  Row.one 0x070 (STATUS_PAUSE_TX_ACTIVE n)]

open F.ETH in
/-- Part 1 of the words of page ETH (R446). -/
def rowsETH_1 (n : Nat) : List Row := [
  Row.one 0x070 (STATUS_SGMII_SPEED n),
  Row.one 0x070 (STATUS_DOWN_REASON n),
  Row.one 0x074 (PAUSE_REMAIN n),
  Row.one 0x078 (LINK_CHANGES n),
  Row.one 0x080 (RX_GOOD n),
  Row.one 0x084 (RX_RUNT n),
  Row.one 0x088 (RX_GIANT n),
  Row.one 0x08C (RX_FCS n),
  Row.one 0x090 (RX_NO_BUFFER n),
  Row.one 0x094 (RX_PAUSE n),
  Row.one 0x098 (RX_CTRL_OTHER n),
  Row.one 0x09C (RX_MALFORMED n),
  Row.one 0x0A0 (TX_GOOD n),
  Row.one 0x0A4 (TX_PAUSE n),
  Row.one 0x0A8 (TX_TIMEOUT n),
  Row.one 0x0AC (TX_ABORTED n),
  Row.one 0x0B0 (PAUSE_GIVEUP n),
  Row.one 0x0B4 (RX_OCTETS_LO n),
  Row.one 0x0B8 (RX_OCTETS_HI n),
  Row.one 0x0BC (TX_OCTETS_LO n),
  Row.one 0x0C0 (TX_OCTETS_HI n),
  Row.one 0x0C4 (SFP_CFG_ENABLE n),
  Row.one 0x0C4 (SFP_CFG_FAST n),
  Row.one 0x0C4 (SFP_CFG_FORCE_TX_DIS n)]

open F.ETH in
/-- Part 2 of the words of page ETH (R446). -/
def rowsETH_2 (n : Nat) : List Row := [
  Row.one 0x0C8 (SFP_STATUS_PRESENT n),
  Row.one 0x0C8 (SFP_STATUS_ID_VALID n),
  Row.one 0x0C8 (SFP_STATUS_CC_BAD n),
  Row.one 0x0C8 (SFP_STATUS_DDM n),
  Row.one 0x0C8 (SFP_STATUS_LOS n),
  Row.one 0x0C8 (SFP_STATUS_BUSY n),
  Row.one 0x0C8 (SFP_STATUS_RESULT n),
  Row.one 0x0CC (SFP_ACCESS_ADDR n),
  Row.one 0x0CC (SFP_ACCESS_DEV n),
  Row.one 0x0CC (SFP_ACCESS_WRITE n),
  Row.one 0x0CC (SFP_ACCESS_DATA n),
  Row.one 0x0D0 (SFP_READ_DATA n),
  Row.arr 0x0D4 0x4 3 (fun i => SFP_DDM n i),
  Row.arr 0x100 0x4 24 (fun i => SFP_ID n i)]

/-- The words of page ETH, row by row (R446). -/
def rowsETH (n : Nat) : List Row := List.flatten [rowsETH_0 n, rowsETH_1 n, rowsETH_2 n]

namespace F.ETHSTAT

/-- HALF_WHICH[0]: bit i = counter i's most significant bit has changed, i = 0–31, per R445. -/
def HALF_WHICH0 (n : Nat) : Field := ⟨(0x3A + n % 2), 0x040, 0, 32, .rw1c, 0, .ordinary, .any, .always⟩
/-- HALF_WHICH[1]: bit i − 32, for i = 32–38. -/
def HALF_WHICH1 (n : Nat) : Field := ⟨(0x3A + n % 2), 0x044, 0, 7, .rw1c, 0, .ordinary, .any, .always⟩
/-- COUNTER[i].LO: low word of counter i, at 0x100 + 8 × i for i = 0–38, per R444; a read latches HI. -/
def COUNTER_LO (n : Nat) (i : Nat) : Field := ⟨(0x3A + n % 2), (0x100 + 0x8 * i), 0, 32, .ro, 0, .ordinary, .any, .always⟩
/-- COUNTER[i].HI: at 0x104 + 8 × i: bits [47:32] of an octet counter or [39:32] of a frame counter, from the latched snapshot. -/
def COUNTER_HI (n : Nat) (i : Nat) : Field := ⟨(0x3A + n % 2), (0x104 + 0x8 * i), 0, 16, .ro, 0, .ordinary, .any, .always⟩

end F.ETHSTAT

open F.ETHSTAT in
/-- Part 0 of the words of page ETHSTAT (R448). -/
def rowsETHSTAT_0 (n : Nat) : List Row := [
  Row.one 0x040 (HALF_WHICH0 n),
  Row.one 0x044 (HALF_WHICH1 n),
  Row.arr 0x100 0x8 39 (fun i => COUNTER_LO n i),
  Row.arr 0x104 0x8 39 (fun i => COUNTER_HI n i)]

/-- The words of page ETHSTAT, row by row (R448). -/
def rowsETHSTAT (n : Nat) : List Row := List.flatten [rowsETHSTAT_0 n]

namespace F.TIME

/-- INCR_LO: INCR_FRAC, staged, per R450. -/
def INCR_LO : Field := ⟨0x3C, 0x040, 0, 32, .rws, 0, .rws, .any, .always⟩
/-- INCR_HI: INCR_INT; the write applies INCR_LO and INCR_HI, within 0.9995–1.0005 ns. -/
def INCR_HI : Field := ⟨0x3C, 0x044, 0, 2, .rws, 1, .rws, .any, .always⟩
/-- NOW[0]: FRAC; the read latches the snapshot, per R451. -/
def NOW0 : Field := ⟨0x3C, 0x048, 0, 16, .ro, 0, .ordinary, .any, .always⟩
/-- NOW[1]: NS of the snapshot. -/
def NOW1 : Field := ⟨0x3C, 0x04C, 0, 30, .ro, 0, .ordinary, .any, .always⟩
/-- NOW[2]: SEC [31:0]. -/
def NOW2 : Field := ⟨0x3C, 0x050, 0, 32, .ro, 0, .ordinary, .any, .always⟩
/-- NOW[3]: SEC [47:32]. -/
def NOW3 : Field := ⟨0x3C, 0x054, 0, 16, .ro, 0, .ordinary, .any, .always⟩
/-- SET[0–3]: value for SET, laid out as NOW; NS above 999,999,999 rejected. -/
def SET0 : Field := ⟨0x3C, 0x058, 0, 16, .rw, 0, .ordinary, .any, .always⟩
/-- SET[0–3]: value for SET, laid out as NOW; NS above 999,999,999 rejected. -/
def SET1 : Field := ⟨0x3C, 0x05C, 0, 30, .rw, 0, .ordinary, (.range 0 999999999), .always⟩
/-- SET[0–3]: value for SET, laid out as NOW; NS above 999,999,999 rejected. -/
def SET2 : Field := ⟨0x3C, 0x060, 0, 32, .rw, 0, .ordinary, .any, .always⟩
/-- SET[0–3]: value for SET, laid out as NOW; NS above 999,999,999 rejected. -/
def SET3 : Field := ⟨0x3C, 0x064, 0, 16, .rw, 0, .ordinary, .any, .always⟩
/-- ADJ_NS: signed ns for ADJUST. -/
def ADJ_NS : Field := ⟨0x3C, 0x068, 0, 32, .rw, 0, .ordinary, .any, .always⟩
/-- CMD.OP: 1 SET, 2 ADJUST; 0 and 3 rejected; per R452. -/
def CMD_OP : Field := ⟨0x3C, 0x06C, 0, 2, .wo, 0, .ordinary, (.range 1 2), .always⟩
/-- CMD.MESH_HOLD: 1 = keep mesh time unstepped, per R459. -/
def CMD_MESH_HOLD : Field := ⟨0x3C, 0x06C, 8, 1, .wo, 0, .ordinary, .any, .always⟩
/-- STATUS.UNSET: 1 = not set since power-on or tamper. -/
def STATUS_UNSET : Field := ⟨0x3C, 0x070, 0, 1, .ro, 1, .ordinary, .any, .always⟩
/-- STATUS.HOLDOVER: per R455. -/
def STATUS_HOLDOVER : Field := ⟨0x3C, 0x070, 1, 1, .ro, 0, .ordinary, .any, .always⟩
/-- STATUS.COARSE: per R454. -/
def STATUS_COARSE : Field := ⟨0x3C, 0x070, 2, 1, .ro, 0, .ordinary, .any, .always⟩
/-- STATUS.RESTORED: per R454. -/
def STATUS_RESTORED : Field := ⟨0x3C, 0x070, 3, 1, .ro, 0, .ordinary, .any, .always⟩
/-- HOLDOVER_S: 1–3,600 s. -/
def HOLDOVER_S : Field := ⟨0x3C, 0x074, 0, 12, .rw, 10, .ordinary, (.range 1 3600), .always⟩
/-- STEP_LAST: last step, signed ns, saturating. -/
def STEP_LAST : Field := ⟨0x3C, 0x078, 0, 32, .ro, 0, .ordinary, .any, .always⟩
/-- STEPS: device-time steps. -/
def STEPS : Field := ⟨0x3C, 0x07C, 0, 32, .rc, 0, .ordinary, .any, .always⟩
/-- PPS_IN.CFG.ENABLE: 1 = PPS_IN on. -/
def PPS_IN_CFG_ENABLE : Field := ⟨0x3C, 0x080, 0, 1, .rw, 0, .ordinary, .any, .always⟩
/-- PPS_IN.CFG.POL: 0 rising, 1 falling edge. -/
def PPS_IN_CFG_POL : Field := ⟨0x3C, 0x080, 1, 1, .rw, 0, .ordinary, .any, .always⟩
/-- PPS_IN.CFG.TOL_US: 1–100,000 µs. -/
def PPS_IN_CFG_TOL_US : Field := ⟨0x3C, 0x080, 4, 17, .rw, 1000, .ordinary, (.range 1 100000), .always⟩
/-- PPS_IN_TS[0–3]: last accepted edge; a read of word 0 latches. -/
def PPS_IN_TS0 : Field := ⟨0x3C, 0x084, 0, 16, .ro, 0, .ordinary, .any, .always⟩
/-- PPS_IN_TS[0–3]: last accepted edge; a read of word 0 latches. -/
def PPS_IN_TS1 : Field := ⟨0x3C, 0x088, 0, 30, .ro, 0, .ordinary, .any, .always⟩
/-- PPS_IN_TS[0–3]: last accepted edge; a read of word 0 latches. -/
def PPS_IN_TS2 : Field := ⟨0x3C, 0x08C, 0, 32, .ro, 0, .ordinary, .any, .always⟩
/-- PPS_IN_TS[0–3]: last accepted edge; a read of word 0 latches. -/
def PPS_IN_TS3 : Field := ⟨0x3C, 0x090, 0, 16, .ro, 0, .ordinary, .any, .always⟩
/-- PPS_IN_EDGES: accepted edges. -/
def PPS_IN_EDGES : Field := ⟨0x3C, 0x094, 0, 32, .rc, 0, .ordinary, .any, .always⟩
/-- PPS_IN_BAD: edges not accepted. -/
def PPS_IN_BAD : Field := ⟨0x3C, 0x098, 0, 32, .rc, 0, .ordinary, .any, .always⟩
/-- PPS_OUT.CFG.ENABLE: 1 = PPS_OUT on. -/
def PPS_OUT_CFG_ENABLE : Field := ⟨0x3C, 0x0A0, 0, 1, .rw, 0, .ordinary, .any, .always⟩
/-- PPS_OUT.CFG.GATE: 1 = no pulse while UNSET or HOLDOVER. -/
def PPS_OUT_CFG_GATE : Field := ⟨0x3C, 0x0A0, 1, 1, .rw, 1, .ordinary, .any, .always⟩
/-- PPS_OUT.CFG.POL: 1 = active low. -/
def PPS_OUT_CFG_POL : Field := ⟨0x3C, 0x0A0, 2, 1, .rw, 0, .ordinary, .any, .always⟩
/-- PPS_OUT.OFFSET_NS: signed, ±500,000,000 ns. -/
def PPS_OUT_OFFSET_NS : Field := ⟨0x3C, 0x0A4, 0, 32, .rw, 0, .ordinary, (.signed (-500000000) 500000000), .always⟩
/-- PPS_OUT.WIDTH_US: 1–500,000 µs. -/
def PPS_OUT_WIDTH_US : Field := ⟨0x3C, 0x0A8, 0, 19, .rw, 100000, .ordinary, (.range 1 500000), .always⟩
/-- MESH.OFFSET_LO: [15:0] tick fraction, [31:16] ticks [15:0]; staged. -/
def MESH_OFFSET_LO : Field := ⟨0x3C, 0x0B0, 0, 32, .rw, 0, .ordinary, .any, .always⟩
/-- MESH.OFFSET_HI: ticks [47:16], signed; the write applies both. -/
def MESH_OFFSET_HI : Field := ⟨0x3C, 0x0B4, 0, 32, .rw, 0, .ordinary, .any, .always⟩
/-- MESH.RATE_PPB: R, signed ppb. -/
def MESH_RATE_PPB : Field := ⟨0x3C, 0x0B8, 0, 32, .ro, 0, .ordinary, .any, .always⟩
/-- MESH.RATE_MAX: 0–200,000 ppb. -/
def MESH_RATE_MAX : Field := ⟨0x3C, 0x0BC, 0, 18, .rw, 100000, .ordinary, (.range 0 200000), .always⟩
/-- MESH.STEP_NS: 1,000–1,000,000,000 ns. -/
def MESH_STEP_NS : Field := ⟨0x3C, 0x0C0, 0, 30, .rw, 1000000, .ordinary, (.range 1000 1000000000), .always⟩
/-- MESH.STEPS: mesh steps per R460. -/
def MESH_STEPS : Field := ⟨0x3C, 0x0C4, 0, 32, .rc, 0, .ordinary, .any, .always⟩
/-- MESH.LAST_CORR_NS: last c of R460, signed. -/
def MESH_LAST_CORR_NS : Field := ⟨0x3C, 0x0C8, 0, 32, .ro, 0, .ordinary, .any, .always⟩
/-- MESH_NOW[0]: tick fraction; the read latches. -/
def MESH_NOW0 : Field := ⟨0x3C, 0x0CC, 0, 16, .ro, 0, .ordinary, .any, .always⟩
/-- MESH_NOW[1]: ticks [31:0]. -/
def MESH_NOW1 : Field := ⟨0x3C, 0x0D0, 0, 32, .ro, 0, .ordinary, .any, .always⟩
/-- MESH_NOW[2]: ticks [63:32]. -/
def MESH_NOW2 : Field := ⟨0x3C, 0x0D4, 0, 32, .ro, 0, .ordinary, .any, .always⟩
/-- DOMAIN.ID: domain ID, per R469. -/
def DOMAIN_ID : Field := ⟨0x3C, 0x0E0, 0, 16, .rw, 0, .ordinary, .any, .always⟩
/-- DOMAIN.ROUTER: router index, 0–16,383. -/
def DOMAIN_ROUTER : Field := ⟨0x3C, 0x0E0, 16, 14, .rw, 0, .ordinary, .any, .always⟩

end F.TIME

open F.TIME in
/-- Part 0 of the words of page TIME (R472). -/
def rowsTIME_0 : List Row := [
  Row.one 0x040 INCR_LO,
  Row.one 0x044 INCR_HI,
  Row.one 0x048 NOW0,
  Row.one 0x04C NOW1,
  Row.one 0x050 NOW2,
  Row.one 0x054 NOW3,
  Row.one 0x058 SET0,
  Row.one 0x05C SET1,
  Row.one 0x060 SET2,
  Row.one 0x064 SET3,
  Row.one 0x068 ADJ_NS,
  Row.one 0x06C CMD_OP,
  Row.one 0x06C CMD_MESH_HOLD,
  Row.one 0x070 STATUS_UNSET,
  Row.one 0x070 STATUS_HOLDOVER,
  Row.one 0x070 STATUS_COARSE,
  Row.one 0x070 STATUS_RESTORED,
  Row.one 0x074 HOLDOVER_S,
  Row.one 0x078 STEP_LAST,
  Row.one 0x07C STEPS,
  Row.one 0x080 PPS_IN_CFG_ENABLE,
  Row.one 0x080 PPS_IN_CFG_POL,
  Row.one 0x080 PPS_IN_CFG_TOL_US,
  Row.one 0x084 PPS_IN_TS0]

open F.TIME in
/-- Part 1 of the words of page TIME (R472). -/
def rowsTIME_1 : List Row := [
  Row.one 0x088 PPS_IN_TS1,
  Row.one 0x08C PPS_IN_TS2,
  Row.one 0x090 PPS_IN_TS3,
  Row.one 0x094 PPS_IN_EDGES,
  Row.one 0x098 PPS_IN_BAD,
  Row.one 0x0A0 PPS_OUT_CFG_ENABLE,
  Row.one 0x0A0 PPS_OUT_CFG_GATE,
  Row.one 0x0A0 PPS_OUT_CFG_POL,
  Row.one 0x0A4 PPS_OUT_OFFSET_NS,
  Row.one 0x0A8 PPS_OUT_WIDTH_US,
  Row.one 0x0B0 MESH_OFFSET_LO,
  Row.one 0x0B4 MESH_OFFSET_HI,
  Row.one 0x0B8 MESH_RATE_PPB,
  Row.one 0x0BC MESH_RATE_MAX,
  Row.one 0x0C0 MESH_STEP_NS,
  Row.one 0x0C4 MESH_STEPS,
  Row.one 0x0C8 MESH_LAST_CORR_NS,
  Row.one 0x0CC MESH_NOW0,
  Row.one 0x0D0 MESH_NOW1,
  Row.one 0x0D4 MESH_NOW2,
  Row.one 0x0E0 DOMAIN_ID,
  Row.one 0x0E0 DOMAIN_ROUTER]

/-- The words of page TIME, row by row (R472). -/
def rowsTIME : List Row := List.flatten [rowsTIME_0, rowsTIME_1]

namespace F.PTP

/-- CFG[n].ENABLE: 1 = take PTP frames on ETHn. -/
def CFG_ENABLE (n : Nat) : Field := ⟨0x3D, (0x040 + 0x40 * n), 0, 1, .rw, 0, .ordinary, .any, .always⟩
/-- CFG[n].L2: Layer 2 transport, per R463. -/
def CFG_L2 (n : Nat) : Field := ⟨0x3D, (0x040 + 0x40 * n), 1, 1, .rw, 1, .ordinary, .any, .always⟩
/-- CFG[n].UDP4: UDP/IPv4 transport. -/
def CFG_UDP4 (n : Nat) : Field := ⟨0x3D, (0x040 + 0x40 * n), 2, 1, .rw, 0, .ordinary, .any, .always⟩
/-- CFG[n].UDP6: UDP/IPv6 transport. -/
def CFG_UDP6 (n : Nat) : Field := ⟨0x3D, (0x040 + 0x40 * n), 3, 1, .rw, 1, .ordinary, .any, .always⟩
/-- CFG[n].DOMAIN_CHECK: 1 = check domainNumber. -/
def CFG_DOMAIN_CHECK (n : Nat) : Field := ⟨0x3D, (0x040 + 0x40 * n), 4, 1, .rw, 0, .ordinary, .any, .always⟩
/-- CFG[n].DOMAIN: PTP domainNumber. -/
def CFG_DOMAIN (n : Nat) : Field := ⟨0x3D, (0x040 + 0x40 * n), 8, 8, .rw, 0, .ordinary, .any, .always⟩
/-- RX_CORR_NS[n]: signed, −1,000 to +1,000 ns. -/
def RX_CORR_NS (n : Nat) : Field := ⟨0x3D, (0x044 + 0x40 * n), 0, 16, .rw, 0, .ordinary, (.signed (-1000) 1000), .always⟩
/-- TX_CORR_NS[n]: signed, −1,000 to +1,000 ns. -/
def TX_CORR_NS (n : Nat) : Field := ⟨0x3D, (0x048 + 0x40 * n), 0, 16, .rw, 0, .ordinary, (.signed (-1000) 1000), .always⟩
/-- IPV4_ADDR[n]: unicast address, network order, first octet in [31:24]. -/
def IPV4_ADDR (n : Nat) : Field := ⟨0x3D, (0x04C + 0x40 * n), 0, 32, .rw, 0, .ordinary, .any, .always⟩
/-- IPV6_ADDR[n][0–3]: unicast address, octets 4k–4k+3, first octet in [31:24]. -/
def IPV6_ADDR (n : Nat) (k : Nat) : Field := ⟨0x3D, (0x050 + 0x40 * n + 0x4 * k), 0, 32, .rw, 0, .ordinary, .any, .always⟩
/-- TSQ[n][0–4]: head entry; the read of word 4 removes it. -/
def TSQ (n : Nat) (k : Nat) : Field := ⟨0x3D, (0x060 + 0x40 * n + 0x4 * k), 0, 32, .ro, 0, .ordinary, .any, .always⟩
/-- TSQ_COUNT[n]: entries queued, 0–16. -/
def TSQ_COUNT (n : Nat) : Field := ⟨0x3D, (0x074 + 0x40 * n), 0, 5, .ro, 0, .ordinary, .any, .always⟩
/-- TSQ_LOST[n]: per R468. -/
def TSQ_LOST (n : Nat) : Field := ⟨0x3D, (0x078 + 0x40 * n), 0, 32, .rc, 0, .ordinary, .any, .always⟩
/-- RX_TAKEN[n]: frames taken that passed R465. -/
def RX_TAKEN (n : Nat) : Field := ⟨0x3D, (0x100 + 0x4 * n), 0, 32, .rc, 0, .ordinary, .any, .always⟩
/-- TX_STAMPED[n]: frames sent with a one-step rewrite or a queue entry. -/
def TX_STAMPED (n : Nat) : Field := ⟨0x3D, (0x108 + 0x4 * n), 0, 32, .rc, 0, .ordinary, .any, .always⟩
/-- INSANE[n]: per R465. -/
def INSANE (n : Nat) : Field := ⟨0x3D, (0x110 + 0x4 * n), 0, 32, .rc, 0, .ordinary, .any, .always⟩
/-- TX_TS_BAD[n]: per R467. -/
def TX_TS_BAD (n : Nat) : Field := ⟨0x3D, (0x118 + 0x4 * n), 0, 32, .rc, 0, .ordinary, .any, .always⟩
/-- INSANE_LAST.REASON: 0 none, 1 VERSION, 2 TYPE, 3 LENGTH, 4 UDP, 5 DOMAIN. -/
def INSANE_LAST_REASON : Field := ⟨0x3D, 0x120, 0, 3, .ro, 0, .ordinary, .any, .always⟩
/-- INSANE_LAST.PORT: port of the last failure. -/
def INSANE_LAST_PORT : Field := ⟨0x3D, 0x120, 8, 1, .ro, 0, .ordinary, .any, .always⟩

end F.PTP

open F.PTP in
/-- Part 0 of the words of page PTP (R474). -/
def rowsPTP_0 : List Row := [
  Row.arr 0x040 0x40 2 (fun i => CFG_ENABLE i),
  Row.arr 0x040 0x40 2 (fun i => CFG_L2 i),
  Row.arr 0x040 0x40 2 (fun i => CFG_UDP4 i),
  Row.arr 0x040 0x40 2 (fun i => CFG_UDP6 i),
  Row.arr 0x040 0x40 2 (fun i => CFG_DOMAIN_CHECK i),
  Row.arr 0x040 0x40 2 (fun i => CFG_DOMAIN i),
  Row.arr 0x044 0x40 2 (fun i => RX_CORR_NS i),
  Row.arr 0x048 0x40 2 (fun i => TX_CORR_NS i),
  Row.arr 0x04C 0x40 2 (fun i => IPV4_ADDR i),
  Row.arr 0x050 0x4 4 (fun i => IPV6_ADDR 0 i),
  Row.arr 0x090 0x4 4 (fun i => IPV6_ADDR 1 i),
  Row.arr 0x060 0x4 5 (fun i => TSQ 0 i),
  Row.arr 0x0A0 0x4 5 (fun i => TSQ 1 i),
  Row.arr 0x074 0x40 2 (fun i => TSQ_COUNT i),
  Row.arr 0x078 0x40 2 (fun i => TSQ_LOST i),
  Row.arr 0x100 0x4 2 (fun i => RX_TAKEN i),
  Row.arr 0x108 0x4 2 (fun i => TX_STAMPED i),
  Row.arr 0x110 0x4 2 (fun i => INSANE i),
  Row.arr 0x118 0x4 2 (fun i => TX_TS_BAD i),
  Row.one 0x120 INSANE_LAST_REASON,
  Row.one 0x120 INSANE_LAST_PORT]

/-- The words of page PTP, row by row (R474). -/
def rowsPTP : List Row := List.flatten [rowsPTP_0]

end Sys2Proof.Machine
end

