-- ==== Sys2Proof/Machine/RegsE.lean ====
section
/-! DEFINITION. The register fields of the host, memory, firmware and rope-team pages, as the register tables of the spec
lay them out: page, offset, lowest bit, width, access type (R9), reset value, what keeps the field over a reset
(R622), and the values and page states in which a write is accepted (R76). -/

namespace Sys2Proof.Machine

namespace F.HOSTIF

/-- LINK.SPEED: 1–4 = 2.5, 5, 8, 16 GT/s, the negotiated rate while LINK.UP = 1; 0 while it is 0; per R476. -/
def LINK_SPEED : Field := ⟨0x40, 0x040, 0, 3, .ro, 0, .ordinary, .any, .always⟩
/-- LINK.WIDTH: 1, 2 or 4 lanes, the negotiated width while LINK.UP = 1; 0 while it is 0; per R476. -/
def LINK_WIDTH : Field := ⟨0x40, 0x040, 4, 3, .ro, 0, .ordinary, .any, .always⟩
/-- LINK.UP: 1 = Data Link Layer up, per R481. -/
def LINK_UP : Field := ⟨0x40, 0x040, 8, 1, .ro, 0, .ordinary, .any, .always⟩
/-- WIN_BASE_LO: DDR address bits [31:0]; bits [27:0] must be 0; writable only in OFF; per R479. -/
def WIN_BASE_LO : Field := ⟨0x40, 0x044, 0, 32, .rw, 0, .ordinary, (.aligned 28), .off⟩
/-- WIN_BASE_HI: DDR address bits [33:32]; writable only in OFF. -/
def WIN_BASE_HI : Field := ⟨0x40, 0x048, 0, 2, .rw, 0, .ordinary, .any, .off⟩
/-- UNMAPPED.OFFSET: offset of the last unmapped access, per R480. -/
def UNMAPPED_OFFSET : Field := ⟨0x40, 0x04C, 0, 28, .ro, 0, .ordinary, .any, .always⟩
/-- UNMAPPED.BAR: 0 BAR0, 1 BAR2. -/
def UNMAPPED_BAR : Field := ⟨0x40, 0x04C, 28, 2, .ro, 0, .ordinary, .any, .always⟩
/-- UNMAPPED.WRITE: 1 = write. -/
def UNMAPPED_WRITE : Field := ⟨0x40, 0x04C, 31, 1, .ro, 0, .ordinary, .any, .always⟩
/-- UNMAPPED_COUNT: per R480. -/
def UNMAPPED_COUNT : Field := ⟨0x40, 0x050, 0, 32, .rc, 0, .ordinary, .any, .always⟩
/-- CPL_TIMEOUTS: per R482. -/
def CPL_TIMEOUTS : Field := ⟨0x40, 0x054, 0, 32, .rc, 0, .ordinary, .any, .always⟩
/-- WARM_RESET: 0xC3A5 = warm reset, per Start-up, Resets and Base Camp; other values rejected as RANGE. -/
def WARM_RESET : Field := ⟨0x40, 0x058, 0, 16, .wo, 0, .ordinary, (.oneOf [0xC3A5]), .always⟩
/-- COPY.HOST_LO: host address bits [31:0]; bits [1:0] must be 0. -/
def COPY_HOST_LO : Field := ⟨0x40, 0x060, 0, 32, .rw, 0, .ordinary, (.aligned 2), .always⟩
/-- COPY.HOST_HI: host address bits [63:32]. -/
def COPY_HOST_HI : Field := ⟨0x40, 0x064, 0, 32, .rw, 0, .ordinary, .any, .always⟩
/-- COPY.WIN: window offset; bits [1:0] must be 0. -/
def COPY_WIN : Field := ⟨0x40, 0x068, 0, 28, .rw, 0, .ordinary, (.aligned 2), .always⟩
/-- COPY.LENGTH: 4–16,777,212 octets, multiple of 4. -/
def COPY_LENGTH : Field := ⟨0x40, 0x06C, 0, 24, .rw, 4, .ordinary, (.multiple 4 4 16777212), .always⟩
/-- COPY.GO: 1 to host, 2 from host; 0 and 3 rejected; per R482. -/
def COPY_GO : Field := ⟨0x40, 0x070, 0, 2, .wo, 0, .ordinary, (.range 1 2), .always⟩
/-- COPY.STATUS.BUSY: 1 = copy running. -/
def COPY_STATUS_BUSY : Field := ⟨0x40, 0x074, 0, 1, .ro, 0, .ordinary, .any, .always⟩
/-- COPY.STATUS.RESULT: 0 NONE, 1 DONE, 2 CPL_TIMEOUT, 3 CPL_ERROR, 4 LINK_DOWN, 5 ABORTED, 6 DDR_ERROR, 7 NO_BUS_MASTER. -/
def COPY_STATUS_RESULT : Field := ⟨0x40, 0x074, 4, 4, .ro, 0, .ordinary, .any, .always⟩
/-- COPY.DONE_OCTETS: octets moved by the last copy. -/
def COPY_DONE_OCTETS : Field := ⟨0x40, 0x078, 0, 24, .ro, 0, .ordinary, .any, .always⟩

end F.HOSTIF

open F.HOSTIF in
/-- Part 0 of the words of page HOSTIF (R503). -/
def rowsHOSTIF_0 : List Row := [
  Row.one 0x040 LINK_SPEED,
  Row.one 0x040 LINK_WIDTH,
  Row.one 0x040 LINK_UP,
  Row.one 0x044 WIN_BASE_LO,
  Row.one 0x048 WIN_BASE_HI,
  Row.one 0x04C UNMAPPED_OFFSET,
  Row.one 0x04C UNMAPPED_BAR,
  Row.one 0x04C UNMAPPED_WRITE,
  Row.one 0x050 UNMAPPED_COUNT,
  Row.one 0x054 CPL_TIMEOUTS,
  Row.one 0x058 WARM_RESET,
  Row.one 0x060 COPY_HOST_LO,
  Row.one 0x064 COPY_HOST_HI,
  Row.one 0x068 COPY_WIN,
  Row.one 0x06C COPY_LENGTH,
  Row.one 0x070 COPY_GO,
  Row.one 0x074 COPY_STATUS_BUSY,
  Row.one 0x074 COPY_STATUS_RESULT,
  Row.one 0x078 COPY_DONE_OCTETS]

/-- The words of page HOSTIF, row by row (R503). -/
def rowsHOSTIF : List Row := List.flatten [rowsHOSTIF_0]

namespace F.RINGS

/-- RING[r].CFG.ENABLE: 1 = ring in use, per R484. -/
def RING_CFG_ENABLE (r : Nat) : Field := ⟨0x41, (0x100 + 0x20 * r), 0, 1, .rw, 0, .ordinary, .any, .always⟩
/-- RING[r].CFG.KIND: rings 16–31: per R483, 3 rejected; rings 0–15: non-zero rejected. -/
def RING_CFG_KIND (r : Nat) : Field := ⟨0x41, (0x100 + 0x20 * r), 1, 2, .rw, 0, .ordinary, (if r < 16 then .range 0 0 else .range 0 2), .always⟩
/-- RING[r].CFG.QUEUE_EN: DOWNLINK only, per R483. -/
def RING_CFG_QUEUE_EN (r : Nat) : Field := ⟨0x41, (0x100 + 0x20 * r), 8, 1, .rw, 0, .ordinary, .any, .always⟩
/-- RING[r].CFG.QUEUE: weighted queue 0–11; 12–15 rejected. -/
def RING_CFG_QUEUE (r : Nat) : Field := ⟨0x41, (0x100 + 0x20 * r), 12, 4, .rw, 0, .ordinary, (.range 0 11), .always⟩
/-- RING[r].BASE: window offset of slot 0. -/
def RING_BASE (r : Nat) : Field := ⟨0x41, (0x104 + 0x20 * r), 12, 16, .rw, 0, .ordinary, .any, .always⟩
/-- RING[r].TALLY_OFF: window offset of the tally array. -/
def RING_TALLY_OFF (r : Nat) : Field := ⟨0x41, (0x108 + 0x20 * r), 6, 22, .rw, 0, .ordinary, .any, .always⟩
/-- RING[r].SIZE: 2–65,536 slots. -/
def RING_SIZE (r : Nat) : Field := ⟨0x41, (0x10C + 0x20 * r), 0, 17, .rw, 2, .ordinary, (.range 2 65536), .always⟩
/-- RING[r].TIMEOUT: 1–100,000 µs for receive rings; non-zero write rejected on transmit rings. -/
def RING_TIMEOUT (r : Nat) : Field := ⟨0x41, (0x110 + 0x20 * r), 0, 17, .rw, (if r < 16 then 1000 else 0), .ordinary, (if r < 16 then .range 1 100000 else .range 0 0), .always⟩
/-- RING[r].POS.NEXT: next slot to claim or take. -/
def RING_POS_NEXT (r : Nat) : Field := ⟨0x41, (0x114 + 0x20 * r), 0, 16, .ro, 0, .ordinary, .any, .always⟩
/-- RING[r].POS.LAP: pass number L, per R489. -/
def RING_POS_LAP (r : Nat) : Field := ⟨0x41, (0x114 + 0x20 * r), 16, 6, .ro, 0, .ordinary, .any, .always⟩
/-- RING[r].LEVEL: per R497. -/
def RING_LEVEL (r : Nat) : Field := ⟨0x41, (0x118 + 0x20 * r), 0, 17, .ro, 0, .ordinary, .any, .always⟩
/-- RING[r].LEVEL_HIGH: 1–65,536 slots. -/
def RING_LEVEL_HIGH (r : Nat) : Field := ⟨0x41, (0x11C + 0x20 * r), 0, 17, .rw, 65536, .ordinary, (.range 1 65536), .always⟩
/-- RING[r].LEVEL_LATCH: per R497. -/
def RING_LEVEL_LATCH (r : Nat) : Field := ⟨0x41, (0x11C + 0x20 * r), 31, 1, .rw1c, 0, .ordinary, .any, .always⟩
/-- PEAK[r]: highest LEVEL, per R497. -/
def PEAK (r : Nat) : Field := ⟨0x41, (0x500 + 0x4 * r), 0, 17, .rc, 0, .ordinary, .any, .always⟩
/-- PACKETS[r]: packets delivered, or transmit packets accepted. -/
def PACKETS (r : Nat) : Field := ⟨0x41, (0x580 + 0x4 * r), 0, 32, .rc, 0, .ordinary, .any, .always⟩
/-- FULL_DROPS[r]: per R493; 0 on transmit rings. -/
def FULL_DROPS (r : Nat) : Field := ⟨0x41, (0x600 + 0x4 * r), 0, 32, .rc, 0, .ordinary, .any, .always⟩
/-- BAD[r]: per R495; 0 on receive rings. -/
def BAD (r : Nat) : Field := ⟨0x41, (0x680 + 0x4 * r), 0, 32, .rc, 0, .ordinary, .any, .always⟩
/-- WAITING[r]: packets waiting for slots, per R493. -/
def WAITING (r : Nat) : Field := ⟨0x41, (0x700 + 0x4 * r), 0, 16, .ro, 0, .ordinary, .any, .always⟩

end F.RINGS

open F.RINGS in
/-- Part 0 of the words of page RINGS (R505). -/
def rowsRINGS_0 : List Row := [
  Row.arr 0x100 0x20 32 (fun i => RING_CFG_ENABLE i),
  Row.arr 0x100 0x20 32 (fun i => RING_CFG_KIND i),
  Row.arr 0x100 0x20 32 (fun i => RING_CFG_QUEUE_EN i),
  Row.arr 0x100 0x20 32 (fun i => RING_CFG_QUEUE i),
  Row.arr 0x104 0x20 32 (fun i => RING_BASE i),
  Row.arr 0x108 0x20 32 (fun i => RING_TALLY_OFF i),
  Row.arr 0x10C 0x20 32 (fun i => RING_SIZE i),
  Row.arr 0x110 0x20 32 (fun i => RING_TIMEOUT i),
  Row.arr 0x114 0x20 32 (fun i => RING_POS_NEXT i),
  Row.arr 0x114 0x20 32 (fun i => RING_POS_LAP i),
  Row.arr 0x118 0x20 32 (fun i => RING_LEVEL i),
  Row.arr 0x11C 0x20 32 (fun i => RING_LEVEL_HIGH i),
  Row.arr 0x11C 0x20 32 (fun i => RING_LEVEL_LATCH i),
  Row.arr 0x500 0x4 32 (fun i => PEAK i),
  Row.arr 0x580 0x4 32 (fun i => PACKETS i),
  Row.arr 0x600 0x4 32 (fun i => FULL_DROPS i),
  Row.arr 0x680 0x4 32 (fun i => BAD i),
  Row.arr 0x700 0x4 32 (fun i => WAITING i)]

/-- The words of page RINGS, row by row (R505). -/
def rowsRINGS : List Row := List.flatten [rowsRINGS_0]

namespace F.TALLY

/-- ILLEGAL: discarded tally octets, per R490; wraps at 2^32. -/
def ILLEGAL : Field := ⟨0x42, 0x040, 0, 32, .rc, 0, .ordinary, .any, .always⟩
/-- ILLEGAL_LAST.RING: ring of the last discarded octet. -/
def ILLEGAL_LAST_RING : Field := ⟨0x42, 0x044, 0, 5, .ro, 0, .ordinary, .any, .always⟩
/-- ILLEGAL_LAST.SLOT: its slot. -/
def ILLEGAL_LAST_SLOT : Field := ⟨0x42, 0x044, 8, 16, .ro, 0, .ordinary, .any, .always⟩
/-- ILLEGAL_LAST.VALUE: the octet written. -/
def ILLEGAL_LAST_VALUE : Field := ⟨0x42, 0x044, 24, 8, .ro, 0, .ordinary, .any, .always⟩
/-- POISONED: per R489; wraps at 2^32. -/
def POISONED : Field := ⟨0x42, 0x048, 0, 32, .rc, 0, .ordinary, .any, .always⟩
/-- POISON_LAST.RING: ring of the last poisoning. -/
def POISON_LAST_RING : Field := ⟨0x42, 0x04C, 0, 5, .ro, 0, .ordinary, .any, .always⟩
/-- POISON_LAST.SLOT: first slot poisoned. -/
def POISON_LAST_SLOT : Field := ⟨0x42, 0x04C, 8, 16, .ro, 0, .ordinary, .any, .always⟩
/-- POISON_LAST.CAUSE: 1 LAP, 2 CHAIN, 3 ECC. -/
def POISON_LAST_CAUSE : Field := ⟨0x42, 0x04C, 24, 3, .ro, 0, .ordinary, .any, .always⟩

end F.TALLY

open F.TALLY in
/-- Part 0 of the words of page TALLY (R507). -/
def rowsTALLY_0 : List Row := [
  Row.one 0x040 ILLEGAL,
  Row.one 0x044 ILLEGAL_LAST_RING,
  Row.one 0x044 ILLEGAL_LAST_SLOT,
  Row.one 0x044 ILLEGAL_LAST_VALUE,
  Row.one 0x048 POISONED,
  Row.one 0x04C POISON_LAST_RING,
  Row.one 0x04C POISON_LAST_SLOT,
  Row.one 0x04C POISON_LAST_CAUSE]

/-- The words of page TALLY, row by row (R507). -/
def rowsTALLY : List Row := List.flatten [rowsTALLY_0]

namespace F.DDR

/-- SIZE_GIB: trained size, 2–16 GiB. -/
def SIZE_GIB : Field := ⟨0x44, 0x040, 0, 5, .ro, 0, .ordinary, .any, .always⟩
/-- RANKS: 0 one rank, 1 two. -/
def RANKS : Field := ⟨0x44, 0x040, 8, 1, .ro, 0, .ordinary, .any, .always⟩
/-- PRESERVE: 1 = keep DDR at the next warm reset, per R522. -/
def PRESERVE : Field := ⟨0x44, 0x044, 0, 1, .rws, 0, .rws, .any, .always⟩
/-- HOT_BASE_LO: bivouac hot region, 64 MiB; bits [25:0] must be 0; writable in every page state while CANARY.BIVOUAC.STATE reads NORMAL, and rejected as STATE otherwise. -/
def HOT_BASE_LO : Field := ⟨0x44, 0x048, 0, 32, .rw, 0, .ordinary, (.aligned 26), .always⟩
/-- HOT_BASE_HI: bits [33:32]. -/
def HOT_BASE_HI : Field := ⟨0x44, 0x04C, 0, 2, .rw, 0, .ordinary, .any, .always⟩
/-- FILL.STATE: 0 not started, 1 filling, 2 done, 3 skipped by PRESERVE. -/
def FILL_STATE : Field := ⟨0x44, 0x050, 0, 2, .ro, 0, .ordinary, .any, .always⟩
/-- FILL.CHUNKS_DONE: 0–256. -/
def FILL_CHUNKS_DONE : Field := ⟨0x44, 0x050, 16, 9, .ro, 0, .ordinary, .any, .always⟩
/-- STALLS: per R521. -/
def STALLS : Field := ⟨0x44, 0x054, 0, 32, .rc, 0, .ordinary, .any, .always⟩
/-- STALL_MAX_US: longest stall, saturating. -/
def STALL_MAX_US : Field := ⟨0x44, 0x058, 0, 16, .rc, 0, .ordinary, .any, .always⟩
/-- CA_RETRIES: per R515. -/
def CA_RETRIES : Field := ⟨0x44, 0x05C, 0, 32, .rc, 0, .ordinary, .any, .always⟩

end F.DDR

open F.DDR in
/-- Part 0 of the words of page DDR (R530). -/
def rowsDDR_0 : List Row := [
  Row.one 0x040 SIZE_GIB,
  Row.one 0x040 RANKS,
  Row.one 0x044 PRESERVE,
  Row.one 0x048 HOT_BASE_LO,
  Row.one 0x04C HOT_BASE_HI,
  Row.one 0x050 FILL_STATE,
  Row.one 0x050 FILL_CHUNKS_DONE,
  Row.one 0x054 STALLS,
  Row.one 0x058 STALL_MAX_US,
  Row.one 0x05C CA_RETRIES]

/-- The words of page DDR, row by row (R530). -/
def rowsDDR : List Row := List.flatten [rowsDDR_0]

namespace F.FLASH

/-- CS0_LOG2: CS0 size 2^n MiB, from the device's discovery table; 0 = absent. -/
def CS0_LOG2 : Field := ⟨0x45, 0x040, 0, 4, .ro, 0, .ordinary, .any, .always⟩
/-- CS1_LOG2: as CS0. -/
def CS1_LOG2 : Field := ⟨0x45, 0x040, 4, 4, .ro, 0, .ordinary, .any, .always⟩
/-- TIMEOUT_MS: 10–65,535 ms. -/
def TIMEOUT_MS : Field := ⟨0x45, 0x044, 0, 16, .rw, 2000, .ordinary, (.range 10 65535), .always⟩
/-- ERRORS: per R523; wraps at 2^32. -/
def ERRORS : Field := ⟨0x45, 0x048, 0, 32, .rc, 0, .ordinary, .any, .always⟩
/-- LAST_ERROR.CAUSE: 1 program, 2 erase, 3 time-out, 4 no key, 5 journal. -/
def LAST_ERROR_CAUSE : Field := ⟨0x45, 0x04C, 0, 3, .ro, 0, .ordinary, .any, .always⟩
/-- LAST_ERROR.SECTOR: sector number, per R405. -/
def LAST_ERROR_SECTOR : Field := ⟨0x45, 0x04C, 8, 24, .ro, 0, .ordinary, .any, .always⟩

end F.FLASH

open F.FLASH in
/-- Part 0 of the words of page FLASH (R531). -/
def rowsFLASH_0 : List Row := [
  Row.one 0x040 CS0_LOG2,
  Row.one 0x040 CS1_LOG2,
  Row.one 0x044 TIMEOUT_MS,
  Row.one 0x048 ERRORS,
  Row.one 0x04C LAST_ERROR_CAUSE,
  Row.one 0x04C LAST_ERROR_SECTOR]

/-- The words of page FLASH, row by row (R531). -/
def rowsFLASH : List Row := List.flatten [rowsFLASH_0]

namespace F.MEMINT

/-- SCRUB.DDR_HOURS: 1–168 h. -/
def SCRUB_DDR_HOURS : Field := ⟨0x46, 0x040, 0, 8, .rw, 12, .ordinary, (.range 1 168), .always⟩
/-- SCRUB.DDR_POS: next line address ÷ 64. -/
def SCRUB_DDR_POS : Field := ⟨0x46, 0x044, 0, 32, .ro, 0, .ordinary, .any, .always⟩
/-- SCRUB.DDR_PASSES: completed DDR passes, saturating. -/
def SCRUB_DDR_PASSES : Field := ⟨0x46, 0x048, 0, 16, .ro, 0, .ordinary, .any, .always⟩
/-- SCRUB.SRAM_PASSES: completed SRAM passes, wrapping. -/
def SCRUB_SRAM_PASSES : Field := ⟨0x46, 0x04C, 0, 16, .ro, 0, .ordinary, .any, .always⟩
/-- DDR_CE_COUNT: per R515. -/
def DDR_CE_COUNT : Field := ⟨0x46, 0x050, 0, 32, .rc, 0, .ordinary, .any, .always⟩
/-- DDR_UE_COUNT: per R515. -/
def DDR_UE_COUNT : Field := ⟨0x46, 0x054, 0, 32, .rc, 0, .ordinary, .any, .always⟩
/-- DDR_LAST.ADDR_LO: line address bits [31:0]. -/
def DDR_LAST_ADDR_LO : Field := ⟨0x46, 0x058, 0, 32, .ro, 0, .ordinary, .any, .always⟩
/-- DDR_LAST.ADDR_HI: bits [33:32]. -/
def DDR_LAST_ADDR_HI : Field := ⟨0x46, 0x05C, 0, 2, .ro, 0, .ordinary, .any, .always⟩
/-- DDR_LAST.SYNDROME: syndrome. -/
def DDR_LAST_SYNDROME : Field := ⟨0x46, 0x05C, 8, 8, .ro, 0, .ordinary, .any, .always⟩
/-- DDR_LAST.UE: 1 = uncorrectable. -/
def DDR_LAST_UE : Field := ⟨0x46, 0x05C, 16, 1, .ro, 0, .ordinary, .any, .always⟩
/-- SRAM_CE_COUNT: per R512. -/
def SRAM_CE_COUNT : Field := ⟨0x46, 0x060, 0, 32, .rc, 0, .ordinary, .any, .always⟩
/-- SRAM_UE_COUNT: per R512, R513 and R519. -/
def SRAM_UE_COUNT : Field := ⟨0x46, 0x064, 0, 32, .rc, 0, .ordinary, .any, .always⟩
/-- SRAM_LAST.MEMORY: 0 core table, 1 key slots, 2 packet buffers, 3 other, 4 register page. -/
def SRAM_LAST_MEMORY : Field := ⟨0x46, 0x068, 0, 4, .ro, 0, .ordinary, .any, .always⟩
/-- SRAM_LAST.OFFSET: octet offset within the memory. -/
def SRAM_LAST_OFFSET : Field := ⟨0x46, 0x068, 4, 25, .ro, 0, .ordinary, .any, .always⟩
/-- SLOT_LOST: per R512. -/
def SLOT_LOST : Field := ⟨0x46, 0x06C, 0, 10, .ro, 0, .ordinary, .any, .always⟩
/-- SLOT_LOST.VALID: 1 = a slot has been lost since reset. -/
def SLOT_LOST_VALID : Field := ⟨0x46, 0x06C, 31, 1, .ro, 0, .ordinary, .any, .always⟩
/-- PPR_USED: repairs applied, 0–8; held in the always-on domain with the repair list of R517, so it is kept through every reset except an always-on power-on. -/
def PPR_USED : Field := ⟨0x46, 0x070, 0, 4, .ro, 0, .ordinary, .any, .always⟩
/-- PPR_PENDING: rows awaiting repair, 0–8. -/
def PPR_PENDING : Field := ⟨0x46, 0x070, 8, 4, .ro, 0, .ordinary, .any, .always⟩
/-- TEST.TARGET: 0 DDR test row, 1 core table A, 2 core table B, 3 key slots A, 4 key slots B, 5 packet buffers, 6 other. -/
def TEST_TARGET : Field := ⟨0x46, 0x080, 0, 3, .rwl, 0, .ordinary, (.range 0 6), .always⟩
/-- TEST.OFFSET: word offset: 0–1,023 for DDR, 0–7 for SRAM; a value above 7 with an SRAM target is rejected as RANGE. -/
def TEST_OFFSET : Field := ⟨0x46, 0x084, 0, 10, .rwl, 0, .ordinary, (.range 0 1023), .always⟩
/-- TEST.DATA[0–1]: data or XOR mask, low word first. -/
def TEST_DATA (k : Nat) : Field := ⟨0x46, (0x088 + 0x4 * k), 0, 32, .rwl, 0, .ordinary, .any, .always⟩
/-- TEST.CHECK: check or parity bits, or XOR mask. -/
def TEST_CHECK : Field := ⟨0x46, 0x090, 0, 8, .rwl, 0, .ordinary, .any, .always⟩
/-- TEST.GO: OP 1–5 per R526; 0, 6, 7 rejected; rejected as LOCKED under CTRL.LOCK. -/
def TEST_GO : Field := ⟨0x46, 0x094, 0, 3, .wo, 0, .ordinary, (.range 1 5), .always⟩
/-- TEST.STATUS.OUTCOME: per R526. -/
def TEST_STATUS_OUTCOME : Field := ⟨0x46, 0x098, 0, 2, .ro, 0, .ordinary, .any, .always⟩
/-- TEST.STATUS.SYNDROME: per R526. -/
def TEST_STATUS_SYNDROME : Field := ⟨0x46, 0x098, 8, 8, .ro, 0, .ordinary, .any, .always⟩

end F.MEMINT

open F.MEMINT in
/-- Part 0 of the words of page MEMINT (R528). -/
def rowsMEMINT_0 : List Row := [
  Row.one 0x040 SCRUB_DDR_HOURS,
  Row.one 0x044 SCRUB_DDR_POS,
  Row.one 0x048 SCRUB_DDR_PASSES,
  Row.one 0x04C SCRUB_SRAM_PASSES,
  Row.one 0x050 DDR_CE_COUNT,
  Row.one 0x054 DDR_UE_COUNT,
  Row.one 0x058 DDR_LAST_ADDR_LO,
  Row.one 0x05C DDR_LAST_ADDR_HI,
  Row.one 0x05C DDR_LAST_SYNDROME,
  Row.one 0x05C DDR_LAST_UE,
  Row.one 0x060 SRAM_CE_COUNT,
  Row.one 0x064 SRAM_UE_COUNT,
  Row.one 0x068 SRAM_LAST_MEMORY,
  Row.one 0x068 SRAM_LAST_OFFSET,
  Row.one 0x06C SLOT_LOST,
  Row.one 0x06C SLOT_LOST_VALID,
  Row.one 0x070 PPR_USED,
  Row.one 0x070 PPR_PENDING,
  Row.one 0x080 TEST_TARGET,
  Row.one 0x084 TEST_OFFSET,
  Row.arr 0x088 0x4 2 (fun i => TEST_DATA i),
  Row.one 0x090 TEST_CHECK,
  Row.one 0x094 TEST_GO,
  Row.one 0x098 TEST_STATUS_OUTCOME]

open F.MEMINT in
/-- Part 1 of the words of page MEMINT (R528). -/
def rowsMEMINT_1 : List Row := [
  Row.one 0x098 TEST_STATUS_SYNDROME]

/-- The words of page MEMINT, row by row (R528). -/
def rowsMEMINT : List Row := List.flatten [rowsMEMINT_0, rowsMEMINT_1]

namespace F.FWUP

/-- CMD.OP: 1 INSTALL, 2 ACTIVATE_LIVE, 3 ACTIVATE_AT_RESET, 4 CONFIRM, 5 REVERT, 6 STORE_PROFILE; 0 and 7 rejected; rejected as ACTION while BUSY. -/
def CMD_OP : Field := ⟨0x48, 0x040, 0, 3, .wo, 0, .ordinary, (.range 1 6), .always⟩
/-- STAGE.OFFSET: window offset; bits [11:0] must be 0. -/
def STAGE_OFFSET : Field := ⟨0x48, 0x044, 0, 28, .rw, 0, .ordinary, (.aligned 12), .always⟩
/-- STAGE.LENGTH: 64–8,388,608 octets. -/
def STAGE_LENGTH : Field := ⟨0x48, 0x048, 0, 24, .rw, 0, .ordinary, (.range 64 8388608), .always⟩
/-- STATUS.BUSY: 1 = command running. -/
def STATUS_BUSY : Field := ⟨0x48, 0x04C, 0, 1, .ro, 0, .ordinary, .any, .always⟩
/-- STATUS.RESULT: 0 NONE, 1 DONE, 2 BAD_FORMAT, 3 BAD_SIGNATURE, 4 OWNER_SIG_REQUIRED, 5 ROLLBACK, 6 DIGEST, 7 FLASH_ERROR, 8 NO_IDLE_CORE, 9 NOT_READY, 10 MIGRATION_FAILED, 11 REFUSED, 12 ABORTED, 13 LIVE_NOT_PERMITTED. -/
def STATUS_RESULT : Field := ⟨0x48, 0x04C, 4, 4, .ro, 0, .ordinary, .any, .always⟩
/-- STATUS.FALLBACK_CAUSE: per R550. -/
def STATUS_FALLBACK_CAUSE : Field := ⟨0x48, 0x04C, 8, 4, .ro, 0, .ordinary, .any, .always⟩
/-- STATUS.SETTINGS_BAD: per R548. -/
def STATUS_SETTINGS_BAD : Field := ⟨0x48, 0x04C, 12, 1, .ro, 0, .ordinary, .any, .always⟩
/-- ACT.ACTIVE: 0 A, 1 B. -/
def ACT_ACTIVE : Field := ⟨0x48, 0x050, 0, 1, .ro, 0, .nonvolatile, .any, .always⟩
/-- ACT.STATE: 0 CONFIRMED, 1 TRIAL. -/
def ACT_STATE : Field := ⟨0x48, 0x050, 1, 1, .ro, 0, .nonvolatile, .any, .always⟩
/-- ACT.INACTIVE: per R533. -/
def ACT_INACTIVE : Field := ⟨0x48, 0x050, 4, 2, .ro, 0, .nonvolatile, .any, .always⟩
/-- ACT.SETTINGS: per R533. -/
def ACT_SETTINGS : Field := ⟨0x48, 0x050, 8, 2, .ro, 0, .nonvolatile, .any, .always⟩
/-- ACT.PART_MAP: per R533. -/
def ACT_PART_MAP : Field := ⟨0x48, 0x050, 12, 4, .ro, 4, .nonvolatile, .any, .always⟩
/-- ACT.BOOT_FAILS: per R538. -/
def ACT_BOOT_FAILS : Field := ⟨0x48, 0x050, 16, 2, .ro, 0, .nonvolatile, .any, .always⟩
/-- ACTIVE_SEQ[0–1]: low word first. -/
def ACTIVE_SEQ (k : Nat) : Field := ⟨0x48, (0x054 + 0x4 * k), 0, 32, .ro, 0, .nonvolatile, .any, .always⟩
/-- INACTIVE_SEQ[0–1]: low word first. -/
def INACTIVE_SEQ (k : Nat) : Field := ⟨0x48, (0x05C + 0x4 * k), 0, 32, .ro, 0, .nonvolatile, .any, .always⟩
/-- ROLLBACK.FUSED: 0–128. -/
def ROLLBACK_FUSED : Field := ⟨0x48, 0x064, 0, 8, .ro, 0, .nonvolatile, .any, .always⟩
/-- ROLLBACK.ACTIVE: ACTIVE_LEVEL. -/
def ROLLBACK_ACTIVE : Field := ⟨0x48, 0x064, 8, 8, .ro, 0, .nonvolatile, .any, .always⟩
/-- ROLLBACK.INACTIVE: INACTIVE_LEVEL. -/
def ROLLBACK_INACTIVE : Field := ⟨0x48, 0x064, 16, 8, .ro, 0, .nonvolatile, .any, .always⟩
/-- SCHEMA.ACTIVE: SCHEMA of the active set. -/
def SCHEMA_ACTIVE : Field := ⟨0x48, 0x068, 0, 16, .ro, 0, .nonvolatile, .any, .always⟩
/-- SCHEMA.SETTINGS: version of the applied settings copy. -/
def SCHEMA_SETTINGS : Field := ⟨0x48, 0x068, 16, 16, .ro, 0, .ordinary, .any, .always⟩
/-- TRIAL_S: 60–604,800 s. -/
def TRIAL_S : Field := ⟨0x48, 0x06C, 0, 20, .rw, 86400, .ordinary, (.range 60 604800), .always⟩
/-- TRIAL_LEFT: powered seconds left. -/
def TRIAL_LEFT : Field := ⟨0x48, 0x070, 0, 20, .ro, 0, .ordinary, .any, .always⟩
/-- POLICY.OWNER_COSIGN: writing 1 while the trusted lock is open blows the fuse; otherwise rejected as STATE; writing 0 has no effect. -/
def POLICY_OWNER_COSIGN : Field := ⟨0x48, 0x074, 0, 1, .rw, 0, .nonvolatile, .any, .always⟩
/-- SUP.ACTIVE_CORE: 0 SUP0, 1 SUP1. -/
def SUP_ACTIVE_CORE : Field := ⟨0x48, 0x078, 0, 1, .ro, 0, .ordinary, .any, .always⟩
/-- SUP.IDLE_STATE: 0 IDLE, 1 LOADING, 2 TESTING, 3 RETIRED. -/
def SUP_IDLE_STATE : Field := ⟨0x48, 0x078, 4, 2, .ro, 0, .ordinary, .any, .always⟩
/-- LAST_PAUSE_US: per R543. -/
def LAST_PAUSE_US : Field := ⟨0x48, 0x07C, 0, 16, .ro, 0, .ordinary, .any, .always⟩
/-- HANDOVERS: per R543 and R544. -/
def HANDOVERS : Field := ⟨0x48, 0x080, 0, 32, .rc, 0, .ordinary, .any, .always⟩
/-- ROLL.DONE: lanes on the new microcode, 0–136. -/
def ROLL_DONE : Field := ⟨0x48, 0x084, 0, 8, .ro, 0, .ordinary, .any, .always⟩
/-- ROLL.ACTIVE: 1 = roll under way. -/
def ROLL_ACTIVE : Field := ⟨0x48, 0x084, 8, 1, .ro, 0, .ordinary, .any, .always⟩
/-- ROLL.OUT: lanes out of service for the roll, 0–8. -/
def ROLL_OUT : Field := ⟨0x48, 0x084, 16, 4, .ro, 0, .ordinary, .any, .always⟩
/-- FE_SEQ_NEW: bit n = FEn on the new bank. -/
def FE_SEQ_NEW : Field := ⟨0x48, 0x088, 0, 4, .ro, 0, .ordinary, .any, .always⟩
/-- PROFILE_REJECTS: per R548. -/
def PROFILE_REJECTS : Field := ⟨0x48, 0x08C, 0, 32, .rc, 0, .ordinary, .any, .always⟩
/-- PROFILE_FIRST_REJECT: entry index. -/
def PROFILE_FIRST_REJECT : Field := ⟨0x48, 0x090, 0, 17, .ro, 0, .ordinary, .any, .always⟩

end F.FWUP

open F.FWUP in
/-- Part 0 of the words of page FWUP (R555). -/
def rowsFWUP_0 : List Row := [
  Row.one 0x040 CMD_OP,
  Row.one 0x044 STAGE_OFFSET,
  Row.one 0x048 STAGE_LENGTH,
  Row.one 0x04C STATUS_BUSY,
  Row.one 0x04C STATUS_RESULT,
  Row.one 0x04C STATUS_FALLBACK_CAUSE,
  Row.one 0x04C STATUS_SETTINGS_BAD,
  Row.one 0x050 ACT_ACTIVE,
  Row.one 0x050 ACT_STATE,
  Row.one 0x050 ACT_INACTIVE,
  Row.one 0x050 ACT_SETTINGS,
  Row.one 0x050 ACT_PART_MAP,
  Row.one 0x050 ACT_BOOT_FAILS,
  Row.arr 0x054 0x4 2 (fun i => ACTIVE_SEQ i),
  Row.arr 0x05C 0x4 2 (fun i => INACTIVE_SEQ i),
  Row.one 0x064 ROLLBACK_FUSED,
  Row.one 0x064 ROLLBACK_ACTIVE,
  Row.one 0x064 ROLLBACK_INACTIVE,
  Row.one 0x068 SCHEMA_ACTIVE,
  Row.one 0x068 SCHEMA_SETTINGS,
  Row.one 0x06C TRIAL_S,
  Row.one 0x070 TRIAL_LEFT,
  Row.one 0x074 POLICY_OWNER_COSIGN,
  Row.one 0x078 SUP_ACTIVE_CORE]

open F.FWUP in
/-- Part 1 of the words of page FWUP (R555). -/
def rowsFWUP_1 : List Row := [
  Row.one 0x078 SUP_IDLE_STATE,
  Row.one 0x07C LAST_PAUSE_US,
  Row.one 0x080 HANDOVERS,
  Row.one 0x084 ROLL_DONE,
  Row.one 0x084 ROLL_ACTIVE,
  Row.one 0x084 ROLL_OUT,
  Row.one 0x088 FE_SEQ_NEW,
  Row.one 0x08C PROFILE_REJECTS,
  Row.one 0x090 PROFILE_FIRST_REJECT]

/-- The words of page FWUP, row by row (R555). -/
def rowsFWUP : List Row := List.flatten [rowsFWUP_0, rowsFWUP_1]

namespace F.ROPE

/-- CFG.PAIR_SLOT: session-key slot, per R581; writable only in OFF. -/
def CFG_PAIR_SLOT : Field := ⟨0x4A, 0x040, 0, 10, .rw, 1023, .ordinary, .any, .off⟩
/-- CFG.STANDBY_RINGS: per R577. -/
def CFG_STANDBY_RINGS : Field := ⟨0x4A, 0x040, 16, 1, .rw, 0, .ordinary, .any, .always⟩
/-- CFG.PREFER: per R585. -/
def CFG_PREFER : Field := ⟨0x4A, 0x040, 17, 1, .rw, 0, .ordinary, .any, .always⟩
/-- TAKEOVER_US: 1,600–3,000 µs. -/
def TAKEOVER_US : Field := ⟨0x4A, 0x044, 0, 12, .rw, 1600, .ordinary, (.range 1600 3000), .always⟩
/-- GIVE_UP_MASK: per R587. -/
def GIVE_UP_MASK : Field := ⟨0x4A, 0x048, 0, 10, .rw, 0x3ff, .ordinary, .any, .always⟩
/-- GIVE_UP_MS: 1–65,535 ms. -/
def GIVE_UP_MS : Field := ⟨0x4A, 0x04C, 0, 16, .rw, 100, .ordinary, (.range 1 65535), .always⟩
/-- ROLE.STATE: per R576. -/
def ROLE_STATE : Field := ⟨0x4A, 0x050, 0, 3, .ro, 0, .ordinary, .any, .always⟩
/-- ROLE.PARTNER_ACT: filtered PARTNER_ACT_IN. -/
def ROLE_PARTNER_ACT : Field := ⟨0x4A, 0x050, 4, 1, .ro, 0, .ordinary, .any, .always⟩
/-- ROLE.ACT_OUT: level of ACT_OUT. -/
def ROLE_ACT_OUT : Field := ⟨0x4A, 0x050, 5, 1, .ro, 0, .ordinary, .any, .always⟩
/-- HEALTH.OWN: per R587. -/
def HEALTH_OWN : Field := ⟨0x4A, 0x054, 0, 10, .ro, 0, .ordinary, .any, .always⟩
/-- HEALTH.PARTNER: from the last heartbeat. -/
def HEALTH_PARTNER : Field := ⟨0x4A, 0x054, 16, 10, .ro, 0, .ordinary, .any, .always⟩
/-- LINK.LANE0_OK: block lock on lane 0. -/
def LINK_LANE0_OK : Field := ⟨0x4A, 0x058, 0, 1, .ro, 0, .ordinary, .any, .always⟩
/-- LINK.LANE1_OK: block lock on lane 1. -/
def LINK_LANE1_OK : Field := ⟨0x4A, 0x058, 1, 1, .ro, 0, .ordinary, .any, .always⟩
/-- LINK.TX_LANE: lane sending records. -/
def LINK_TX_LANE : Field := ⟨0x4A, 0x058, 2, 1, .ro, 0, .ordinary, .any, .always⟩
/-- LINK.ATTACHED: per R581. -/
def LINK_ATTACHED : Field := ⟨0x4A, 0x058, 3, 1, .ro, 0, .ordinary, .any, .always⟩
/-- LINK.PIN_BAD: per R581. -/
def LINK_PIN_BAD : Field := ⟨0x4A, 0x058, 4, 1, .ro, 0, .ordinary, .any, .always⟩
/-- CMD: 1 RELINQUISH, 2 FORCE_TAKEOVER; 0 and 3 rejected. -/
def CMD : Field := ⟨0x4A, 0x05C, 0, 2, .wo, 0, .ordinary, (.range 1 2), .always⟩
/-- CMD_STATUS.RESULT: 0 NONE, 1 DONE, 2 NO_PARTNER, 3 REFUSED, 4 FLASH_ERROR. -/
def CMD_STATUS_RESULT : Field := ⟨0x4A, 0x060, 0, 4, .ro, 0, .ordinary, .any, .always⟩
/-- FORCE_SKIP: 65,536–2,147,483,648. -/
def FORCE_SKIP : Field := ⟨0x4A, 0x064, 0, 32, .rw, 16777216, .ordinary, (.range 65536 2147483648), .always⟩
/-- PARTNER_TIME_NS: signed, saturating, per R580. -/
def PARTNER_TIME_NS : Field := ⟨0x4A, 0x068, 0, 32, .ro, 0, .ordinary, .any, .always⟩
/-- LAST_GAP_US: per R589. -/
def LAST_GAP_US : Field := ⟨0x4A, 0x06C, 0, 12, .ro, 0, .ordinary, .any, .always⟩
/-- SWITCHOVERS: per R589. -/
def SWITCHOVERS : Field := ⟨0x4A, 0x070, 0, 32, .rc, 0, .ordinary, .any, .always⟩
/-- LOST_COUNT: per R580. -/
def LOST_COUNT : Field := ⟨0x4A, 0x074, 0, 32, .rc, 0, .ordinary, .any, .always⟩
/-- RECORDS_BAD: per R579. -/
def RECORDS_BAD : Field := ⟨0x4A, 0x078, 0, 32, .rc, 0, .ordinary, .any, .always⟩
/-- RECORDS_RESENT: per R579. -/
def RECORDS_RESENT : Field := ⟨0x4A, 0x07C, 0, 32, .rc, 0, .ordinary, .any, .always⟩
/-- MIRROR_REFUSED: per R582 and R583. -/
def MIRROR_REFUSED : Field := ⟨0x4A, 0x080, 0, 32, .rc, 0, .ordinary, .any, .always⟩
/-- ANSWERS_SUPPRESSED: per R577. -/
def ANSWERS_SUPPRESSED : Field := ⟨0x4A, 0x084, 0, 32, .rc, 0, .ordinary, .any, .always⟩
/-- RECLAIMS: per R590. -/
def RECLAIMS : Field := ⟨0x4A, 0x088, 0, 32, .rc, 0, .ordinary, .any, .always⟩
/-- DUAL_ACTIVE_COUNT: per R591. -/
def DUAL_ACTIVE_COUNT : Field := ⟨0x4A, 0x08C, 0, 32, .rc, 0, .ordinary, .any, .always⟩
/-- PARTNER_PIN[0–7]: 32 octets, octet 0 in bits [7:0] of word 0. -/
def PARTNER_PIN (k : Nat) : Field := ⟨0x4A, (0x100 + 0x4 * k), 0, 32, .rw, 0, .ordinary, .any, .always⟩
/-- OWN_PUB[0–15]: X ‖ Y, as PARTNER_PIN. -/
def OWN_PUB (k : Nat) : Field := ⟨0x4A, (0x180 + 0x4 * k), 0, 32, .ro, 0, .ordinary, .any, .always⟩

end F.ROPE

open F.ROPE in
/-- Part 0 of the words of page ROPE (R596). -/
def rowsROPE_0 : List Row := [
  Row.one 0x040 CFG_PAIR_SLOT,
  Row.one 0x040 CFG_STANDBY_RINGS,
  Row.one 0x040 CFG_PREFER,
  Row.one 0x044 TAKEOVER_US,
  Row.one 0x048 GIVE_UP_MASK,
  Row.one 0x04C GIVE_UP_MS,
  Row.one 0x050 ROLE_STATE,
  Row.one 0x050 ROLE_PARTNER_ACT,
  Row.one 0x050 ROLE_ACT_OUT,
  Row.one 0x054 HEALTH_OWN,
  Row.one 0x054 HEALTH_PARTNER,
  Row.one 0x058 LINK_LANE0_OK,
  Row.one 0x058 LINK_LANE1_OK,
  Row.one 0x058 LINK_TX_LANE,
  Row.one 0x058 LINK_ATTACHED,
  Row.one 0x058 LINK_PIN_BAD,
  Row.one 0x05C CMD,
  Row.one 0x060 CMD_STATUS_RESULT,
  Row.one 0x064 FORCE_SKIP,
  Row.one 0x068 PARTNER_TIME_NS,
  Row.one 0x06C LAST_GAP_US,
  Row.one 0x070 SWITCHOVERS,
  Row.one 0x074 LOST_COUNT,
  Row.one 0x078 RECORDS_BAD]

open F.ROPE in
/-- Part 1 of the words of page ROPE (R596). -/
def rowsROPE_1 : List Row := [
  Row.one 0x07C RECORDS_RESENT,
  Row.one 0x080 MIRROR_REFUSED,
  Row.one 0x084 ANSWERS_SUPPRESSED,
  Row.one 0x088 RECLAIMS,
  Row.one 0x08C DUAL_ACTIVE_COUNT,
  Row.arr 0x100 0x4 8 (fun i => PARTNER_PIN i),
  Row.arr 0x180 0x4 16 (fun i => OWN_PUB i)]

/-- The words of page ROPE, row by row (R596). -/
def rowsROPE : List Row := List.flatten [rowsROPE_0, rowsROPE_1]

namespace F.NOTICE

/-- ENABLE: bit t = type t pushed; bits 0 and 9–15 reserved. -/
def ENABLE : Field := ⟨0x4C, 0x040, 1, 8, .rw, 0xff, .ordinary, .any, .always⟩
/-- COUNT: notices held, assembly included, 0–1,024. -/
def COUNT : Field := ⟨0x4C, 0x044, 0, 11, .ro, 0, .ordinary, .any, .always⟩
/-- COUNT_PEAK: highest COUNT, per R497. -/
def COUNT_PEAK : Field := ⟨0x4C, 0x048, 0, 11, .rc, 0, .ordinary, .any, .always⟩
/-- REFUSED: refused pushes; wraps at 2^32. -/
def REFUSED : Field := ⟨0x4C, 0x04C, 0, 32, .rc, 0, .ordinary, .any, .always⟩
/-- LAST_REFUSED: the last refused notice. -/
def LAST_REFUSED : Field := ⟨0x4C, 0x050, 0, 16, .ro, 0, .ordinary, .any, .always⟩
/-- POP_LO: lanes 0–1; the read pops, per R502. -/
def POP_LO : Field := ⟨0x4C, 0x080, 0, 32, .ro, 0, .ordinary, .any, .always⟩
/-- POP_HI: lanes 2–3 latched by the POP_LO read. -/
def POP_HI : Field := ⟨0x4C, 0x084, 0, 32, .ro, 0, .ordinary, .any, .always⟩

end F.NOTICE

open F.NOTICE in
/-- Part 0 of the words of page NOTICE (R508). -/
def rowsNOTICE_0 : List Row := [
  Row.one 0x040 ENABLE,
  Row.one 0x044 COUNT,
  Row.one 0x048 COUNT_PEAK,
  Row.one 0x04C REFUSED,
  Row.one 0x050 LAST_REFUSED,
  Row.one 0x080 POP_LO,
  Row.one 0x084 POP_HI]

/-- The words of page NOTICE, row by row (R508). -/
def rowsNOTICE : List Row := List.flatten [rowsNOTICE_0]

end Sys2Proof.Machine
end

