-- ==== Sys2Proof/Config.lean ====
section
/-! DEFINITION. The free values of the model: what the spec leaves open, or takes from a standard or from chance
without stating the result. Each is a constant without a body, so nothing can be proved of its value. -/

namespace Sys2Proof.Config

/-- A fresh random word: the entropy source of R362, nonces and challenges. The argument is the draw's number. -/
opaque entropy : Nat → Nat

/-- The reference of the lane gain code DIGITAL_GAIN, internal to the part and not specified (R166). -/
opaque gainReference : Int

/-- The intermediate symbols of RFC 6330 for an object and a symbol size (R559). -/
opaque intermediate : List Byte → Nat → List Byte

/-- The encoding symbol of RFC 6330 for intermediate symbols, K, T and an ESI (R559). -/
opaque encodingSymbol : List Byte → Nat → Nat → Nat → List Byte

/-- P-384 verification of a digest under the key that the OWNER_PIN fuse pins, for a record that carries no public key
(R547): pin, signature, digest. -/
opaque verifyPinned : List Byte → List Byte → List Byte → Bool

/-! ### Memories -/

/-- The spare rows and the spare columns of an SRAM macro: 2 % of its rows and of its columns, whose numbers the spec does
not state (R598). -/
opaque spareRows : Nat → Nat

/-- The spare columns of an SRAM macro. -/
opaque spareColumns : Nat → Nat

/-- The bank group and rank of a DDR row, for which at most one repair is applied (R517). -/
opaque bankGroup : Nat → Nat

/-- The 8 check bits of the (72, 64) Hsiao code over a word of a DDR line; the spec does not state the code's matrix (R515). -/
opaque checkBits : Nat → Nat

/-! ### The PUF sources -/

/-- The BCH codeword of 115 or 64 information bits, of the code's length 255 or 127; the spec states neither the generator
polynomial nor the order of the bits (R354). -/
opaque bch : Nat → Nat → Nat

end Sys2Proof.Config
end

