-- ==== Sys2Proof/Machine/RegsA.lean ====
section
/-! DEFINITION. The register fields of the page head, identity, supply, clock, event, reserve and management pages, as the register tables of the spec
lay them out: page, offset, lowest bit, width, access type (R9), reset value, what keeps the field over a reset
(R622), and the values and page states in which a write is accepted (R76). -/

namespace Sys2Proof.Machine

namespace F.HEAD

/-- PAGE_ID.BLOCK: block code. -/
def PAGE_ID_BLOCK (pg : Nat) : Field := ⟨pg, 0x000, 16, 16, .ro, (pageBlock pg), .nonvolatile, .any, .always⟩
/-- PAGE_ID.INSTANCE: instance number. -/
def PAGE_ID_INSTANCE (pg : Nat) : Field := ⟨pg, 0x000, 8, 8, .ro, (pageInstance pg), .nonvolatile, .any, .always⟩
/-- PAGE_ID.LAYOUT: layout version. -/
def PAGE_ID_LAYOUT (pg : Nat) : Field := ⟨pg, 0x000, 0, 8, .ro, 0x1, .nonvolatile, .any, .always⟩
/-- PAGE_REV.MAP: map revision within the layout version. -/
def PAGE_REV_MAP (pg : Nat) : Field := ⟨pg, 0x004, 0, 16, .ro, 0x0, .nonvolatile, .any, .always⟩
/-- PAGE_REV.STEPPING: silicon stepping. -/
def PAGE_REV_STEPPING (pg : Nat) : Field := ⟨pg, 0x004, 16, 8, .ro, 0, .nonvolatile, .any, .always⟩
/-- CTRL.ENABLE: 1 = block to run. -/
def CTRL_ENABLE (pg : Nat) : Field := ⟨pg, 0x008, 0, 1, .rwl, (if headOnly pg then 1 else 0), .ordinary, .any, .always⟩
/-- CTRL.FORCE_STOP: 1 = abort in-flight work. -/
def CTRL_FORCE_STOP (pg : Nat) : Field := ⟨pg, 0x008, 1, 1, .wo, 0, .ordinary, .any, .always⟩
/-- CTRL.SELF_TEST_REQ: 1 = request self-test. -/
def CTRL_SELF_TEST_REQ (pg : Nat) : Field := ⟨pg, 0x008, 2, 1, .wo, 0, .ordinary, .any, .always⟩
/-- CTRL.LOCK: 1 = page locked until reset. -/
def CTRL_LOCK (pg : Nat) : Field := ⟨pg, 0x008, 3, 1, .rw, 0, .ordinary, .any, .always⟩
/-- STATE.STATE: block state. -/
def STATE_STATE (pg : Nat) : Field := ⟨pg, 0x00C, 0, 3, .ro, (if headOnly pg then 2 else 0), .ordinary, .any, .always⟩
/-- STATE.BUSY: 1 = work in flight or a transition under way. -/
def STATE_BUSY (pg : Nat) : Field := ⟨pg, 0x00C, 8, 1, .ro, 0, .ordinary, .any, .always⟩
/-- STATE.DRAINED: 1 = STOPPED reached by drain. -/
def STATE_DRAINED (pg : Nat) : Field := ⟨pg, 0x00C, 9, 1, .ro, 0, .ordinary, .any, .always⟩
/-- EVT_RAW: live conditions. -/
def EVT_RAW (pg : Nat) : Field := ⟨pg, 0x010, 0, 32, .ro, 0, .ordinary, .any, .always⟩
/-- EVT_LATCH: sticky events. -/
def EVT_LATCH (pg : Nat) : Field := ⟨pg, 0x014, 0, 32, .rw1c, 0, .ordinary, .any, .always⟩
/-- EVT_MASK: 1 = forwarded to the aggregator. -/
def EVT_MASK (pg : Nat) : Field := ⟨pg, 0x018, 0, 32, .rw, (evtMaskReset pg), .ordinary, .any, .always⟩
/-- EVT_FORCE: 1 = latch the bit as if its condition occurred. -/
def EVT_FORCE (pg : Nat) : Field := ⟨pg, 0x01C, 0, 32, .wo, 0, .ordinary, .any, .always⟩
/-- REJECT_ADDR.OFFSET: offset of the last rejected write. -/
def REJECT_ADDR_OFFSET (pg : Nat) : Field := ⟨pg, 0x020, 0, 12, .ro, 0, .ordinary, .any, .always⟩
/-- REJECT_ADDR.REASON: reason code, per R76. -/
def REJECT_ADDR_REASON (pg : Nat) : Field := ⟨pg, 0x020, 12, 3, .ro, 0, .ordinary, .any, .always⟩
/-- REJECT_ADDR.ROUTE: 0 = BAR0, 1 = MGMT SPI. -/
def REJECT_ADDR_ROUTE (pg : Nat) : Field := ⟨pg, 0x020, 15, 1, .ro, 0, .ordinary, .any, .always⟩
/-- REJECT_DATA: data of the last rejected write. -/
def REJECT_DATA (pg : Nat) : Field := ⟨pg, 0x024, 0, 32, .ro, 0, .ordinary, .any, .always⟩
/-- REJECT_COUNT: rejected writes, saturating at 65,535. -/
def REJECT_COUNT (pg : Nat) : Field := ⟨pg, 0x028, 0, 16, .rc, 0, .ordinary, .any, .always⟩
/-- PARITY_STATUS.CONFIG: 1 = parity error in the page's configuration registers. -/
def PARITY_STATUS_CONFIG (pg : Nat) : Field := ⟨pg, 0x02C, 0, 1, .rw1c, 0, .ordinary, .any, .always⟩
/-- PARITY_STATUS.WORK: 1 = parity error in the block's working state. -/
def PARITY_STATUS_WORK (pg : Nat) : Field := ⟨pg, 0x02C, 1, 1, .rw1c, 0, .ordinary, .any, .always⟩
/-- TEST_STATUS.RESULT: 0 NONE, 1 WAITING, 2 RUNNING, 3 PASSED, 4 FAILED, 5 NO_RESERVE, 6 BAD_STATE, 7 ABORTED. -/
def TEST_STATUS_RESULT (pg : Nat) : Field := ⟨pg, 0x030, 0, 3, .ro, 0, .ordinary, .any, .always⟩
/-- TEST_STATUS.DETAIL: failure detail, defined in the block's chapter. -/
def TEST_STATUS_DETAIL (pg : Nat) : Field := ⟨pg, 0x030, 8, 8, .ro, 0, .ordinary, .any, .always⟩
/-- TEST_WAIT: SELF_TEST_WAIT, 1–10,000 ms; 0 is rejected. -/
def TEST_WAIT (pg : Nat) : Field := ⟨pg, 0x034, 0, 14, .rw, 1000, .ordinary, (.range 1 10000), .always⟩

end F.HEAD

open F.HEAD in
/-- Part 0 of the words of page HEAD (R73). -/
def rowsHEAD_0 (pg : Nat) : List Row := [
  Row.one 0x000 (PAGE_ID_BLOCK pg),
  Row.one 0x000 (PAGE_ID_INSTANCE pg),
  Row.one 0x000 (PAGE_ID_LAYOUT pg),
  Row.one 0x004 (PAGE_REV_MAP pg),
  Row.one 0x004 (PAGE_REV_STEPPING pg),
  Row.one 0x008 (CTRL_ENABLE pg),
  Row.one 0x008 (CTRL_FORCE_STOP pg),
  Row.one 0x008 (CTRL_SELF_TEST_REQ pg),
  Row.one 0x008 (CTRL_LOCK pg),
  Row.one 0x00C (STATE_STATE pg),
  Row.one 0x00C (STATE_BUSY pg),
  Row.one 0x00C (STATE_DRAINED pg),
  Row.one 0x010 (EVT_RAW pg),
  Row.one 0x014 (EVT_LATCH pg),
  Row.one 0x018 (EVT_MASK pg),
  Row.one 0x01C (EVT_FORCE pg),
  Row.one 0x020 (REJECT_ADDR_OFFSET pg),
  Row.one 0x020 (REJECT_ADDR_REASON pg),
  Row.one 0x020 (REJECT_ADDR_ROUTE pg),
  Row.one 0x024 (REJECT_DATA pg),
  Row.one 0x028 (REJECT_COUNT pg),
  Row.one 0x02C (PARITY_STATUS_CONFIG pg),
  Row.one 0x02C (PARITY_STATUS_WORK pg),
  Row.one 0x030 (TEST_STATUS_RESULT pg)]

open F.HEAD in
/-- Part 1 of the words of page HEAD (R73). -/
def rowsHEAD_1 (pg : Nat) : List Row := [
  Row.one 0x030 (TEST_STATUS_DETAIL pg),
  Row.one 0x034 (TEST_WAIT pg)]

/-- The words of page HEAD, row by row (R73). -/
def rowsHEAD (pg : Nat) : List Row := List.flatten [rowsHEAD_0 pg, rowsHEAD_1 pg]

namespace F.IDENT

/-- VENDOR_CID: Galeaven's IEEE company ID, used in every own IE. -/
def VENDOR_CID : Field := ⟨0x00, 0x040, 0, 24, .ro, 0x4AD327, .nonvolatile, .any, .always⟩
/-- PART.NUMBER: part number. -/
def PART_NUMBER : Field := ⟨0x00, 0x044, 0, 16, .ro, 0x4208, .nonvolatile, .any, .always⟩
/-- PART.GRADE: 0 = ZK-4208-IB, 1 = ZK-4208-XB. -/
def PART_GRADE : Field := ⟨0x00, 0x044, 16, 4, .ro, 0, .nonvolatile, .any, .always⟩
/-- DIE_ID[0–1]: 64-bit unique die number, low word first. -/
def DIE_ID (k : Nat) : Field := ⟨0x00, (0x048 + 0x4 * k), 0, 32, .ro, 0, .nonvolatile, .any, .always⟩
/-- EUI64[0–1]: the controller's own EUI-64, low word first. -/
def EUI64 (k : Nat) : Field := ⟨0x00, (0x050 + 0x4 * k), 0, 32, .ro, 0, .nonvolatile, .any, .always⟩
/-- LIFECYCLE: life-cycle state, encoded as in Root Secret, Key Slots and Derivation. -/
def LIFECYCLE : Field := ⟨0x00, 0x058, 0, 3, .ro, 1, .nonvolatile, .any, .always⟩
/-- CELLEY_VERSION: [31:24] major, [23:16] minor, [15:0] build of the running Celley. -/
def CELLEY_VERSION : Field := ⟨0x00, 0x05C, 0, 32, .ro, 0, .nonvolatile, .any, .always⟩
/-- IDCODE: IEEE 1149.1 IDCODE, per R95. -/
def IDCODE : Field := ⟨0x00, 0x060, 0, 32, .ro, 0x04208001, .nonvolatile, .any, .always⟩
/-- PCI_IDS.VENDOR: PCI Express Vendor ID, per R476. -/
def PCI_IDS_VENDOR : Field := ⟨0x00, 0x064, 0, 16, .ro, 0, .nonvolatile, .any, .always⟩
/-- PCI_IDS.REVISION: PCI Express Revision ID, equal to PAGE_REV.STEPPING. -/
def PCI_IDS_REVISION : Field := ⟨0x00, 0x064, 16, 8, .ro, 0, .nonvolatile, .any, .always⟩

end F.IDENT

open F.IDENT in
/-- Part 0 of the words of page IDENT (R90). -/
def rowsIDENT_0 : List Row := [
  Row.one 0x040 VENDOR_CID,
  Row.one 0x044 PART_NUMBER,
  Row.one 0x044 PART_GRADE,
  Row.arr 0x048 0x4 2 (fun i => DIE_ID i),
  Row.arr 0x050 0x4 2 (fun i => EUI64 i),
  Row.one 0x058 LIFECYCLE,
  Row.one 0x05C CELLEY_VERSION,
  Row.one 0x060 IDCODE,
  Row.one 0x064 PCI_IDS_VENDOR,
  Row.one 0x064 PCI_IDS_REVISION]

/-- The words of page IDENT, row by row (R90). -/
def rowsIDENT : List Row := List.flatten [rowsIDENT_0]

namespace F.CLK

/-- PLL_STATUS.LOCK: 1 = PLL locked. -/
def PLL_STATUS_LOCK : Field := ⟨0x01, 0x040, 0, 7, .ro, 0, .ordinary, .any, .always⟩
/-- PLL_STATUS.UNLOCK_SEEN: 1 = PLL lost lock while requested; raises PLL_UNLOCK. -/
def PLL_STATUS_UNLOCK_SEEN : Field := ⟨0x01, 0x040, 16, 7, .rw1c, 0, .ordinary, .any, .always⟩
/-- PLL_FORCE: 1 = keep PLL running without requests. -/
def PLL_FORCE : Field := ⟨0x01, 0x044, 0, 7, .rw, 0, .ordinary, .any, .always⟩
/-- PLL_HOLD: idle hold before power-down, 1–65,535 µs; 0 is rejected. -/
def PLL_HOLD : Field := ⟨0x01, 0x048, 0, 16, .rw, 1000, .ordinary, (.range 1 65535), .always⟩
/-- REFCLK_PPM: last fine-gate deviation from the learned ratio, two's complement, 0.01 ppm units, saturating at ±327.67 ppm. -/
def REFCLK_PPM : Field := ⟨0x01, 0x04C, 0, 16, .ro, 0, .ordinary, .any, .always⟩
/-- REFCLK_PPM.VALID: 1 = a fine gate has completed. -/
def REFCLK_PPM_VALID : Field := ⟨0x01, 0x04C, 31, 1, .ro, 0, .ordinary, .any, .always⟩
/-- XO32K_RATIO: learned REFCLK cycles per 32,768 crystal cycles (nominal 40,000,000). -/
def XO32K_RATIO : Field := ⟨0x01, 0x050, 0, 26, .ro, 0x2625a00, .alwaysOn, .any, .always⟩
/-- XO32K_RATIO.LEARNED: 1 = ratio learned since always-on power-on. -/
def XO32K_RATIO_LEARNED : Field := ⟨0x01, 0x050, 31, 1, .ro, 0, .alwaysOn, .any, .always⟩
/-- SDSREF_PPM: REFCLK156 deviation against REFCLK40_IN, two's complement, 0.01 ppm units. -/
def SDSREF_PPM : Field := ⟨0x01, 0x054, 0, 16, .ro, 0, .ordinary, .any, .always⟩
/-- SDSREF_PPM.VALID: 1 = a measurement has completed. -/
def SDSREF_PPM_VALID : Field := ⟨0x01, 0x054, 31, 1, .ro, 0, .ordinary, .any, .always⟩

end F.CLK

open F.CLK in
/-- Part 0 of the words of page CLK (R69). -/
def rowsCLK_0 : List Row := [
  Row.one 0x040 PLL_STATUS_LOCK,
  Row.one 0x040 PLL_STATUS_UNLOCK_SEEN,
  Row.one 0x044 PLL_FORCE,
  Row.one 0x048 PLL_HOLD,
  Row.one 0x04C REFCLK_PPM,
  Row.one 0x04C REFCLK_PPM_VALID,
  Row.one 0x050 XO32K_RATIO,
  Row.one 0x050 XO32K_RATIO_LEARNED,
  Row.one 0x054 SDSREF_PPM,
  Row.one 0x054 SDSREF_PPM_VALID]

/-- The words of page CLK, row by row (R69). -/
def rowsCLK : List Row := List.flatten [rowsCLK_0]

namespace F.PWR

/-- RAIL_OK: 1 = rail above its low reset threshold. -/
def RAIL_OK : Field := ⟨0x02, 0x040, 0, 10, .ro, 0, .alwaysOn, .any, .always⟩
/-- SAG_WARN_LATCH: 1 = low warning since last clear. -/
def SAG_WARN_LATCH : Field := ⟨0x02, 0x044, 0, 10, .rw1c, 0, .alwaysOn, .any, .always⟩
/-- HIGH_LATCH: 1 = high warning since last clear. -/
def HIGH_LATCH : Field := ⟨0x02, 0x048, 0, 10, .rw1c, 0, .alwaysOn, .any, .always⟩
/-- SAG_CAUSE.RAILS: 1 = rail caused a sag reset since last clear. -/
def SAG_CAUSE_RAILS : Field := ⟨0x02, 0x04C, 0, 10, .rw1c, 0, .alwaysOn, .any, .always⟩
/-- SAG_CAUSE.SEQ_LATE: 1 = a group 3 rail was late at power-up (R47). -/
def SAG_CAUSE_SEQ_LATE : Field := ⟨0x02, 0x04C, 16, 1, .rw1c, 0, .alwaysOn, .any, .always⟩
/-- SAG_COUNT: sag resets since always-on power-on, saturating at 65,535. -/
def SAG_COUNT : Field := ⟨0x02, 0x050, 0, 16, .ro, 0, .alwaysOn, .any, .always⟩
/-- VBAT.PRESENT: 1 = VBAT_TAMPER ≥ 1.0 V. -/
def VBAT_PRESENT : Field := ⟨0x02, 0x054, 0, 1, .ro, 0, .alwaysOn, .any, .always⟩
/-- VBAT.LOW: 1 = VBAT_TAMPER between 1.0 V and 2.3 V. -/
def VBAT_LOW : Field := ⟨0x02, 0x054, 1, 1, .ro, 0, .alwaysOn, .any, .always⟩
/-- VBAT.MV: last measurement, 1 mV steps, 0–4,095 mV. -/
def VBAT_MV : Field := ⟨0x02, 0x054, 16, 12, .ro, 0, .alwaysOn, .any, .always⟩
/-- PWR_FAIL.LEVEL: filtered level of PWR_FAIL_N. -/
def PWR_FAIL_LEVEL : Field := ⟨0x02, 0x058, 0, 1, .ro, 1, .alwaysOn, .any, .always⟩
/-- PWR_FAIL.FELL: 1 = filtered falling edge since last clear. -/
def PWR_FAIL_FELL : Field := ⟨0x02, 0x058, 1, 1, .rw1c, 0, .alwaysOn, .any, .always⟩
/-- TEMP[n].VALUE: sensor n, two's complement, 0.125 °C steps. -/
def TEMP_VALUE (i : Nat) : Field := ⟨0x02, (0x060 + 0x4 * i), 0, 12, .ro, 0, .alwaysOn, .any, .always⟩
/-- TEMP[n].VALID: 1 = at least one sample taken. -/
def TEMP_VALID (i : Nat) : Field := ⟨0x02, (0x060 + 0x4 * i), 15, 1, .ro, 0, .alwaysOn, .any, .always⟩

end F.PWR

open F.PWR in
/-- Part 0 of the words of page PWR (R57). -/
def rowsPWR_0 : List Row := [
  Row.one 0x040 RAIL_OK,
  Row.one 0x044 SAG_WARN_LATCH,
  Row.one 0x048 HIGH_LATCH,
  Row.one 0x04C SAG_CAUSE_RAILS,
  Row.one 0x04C SAG_CAUSE_SEQ_LATE,
  Row.one 0x050 SAG_COUNT,
  Row.one 0x054 VBAT_PRESENT,
  Row.one 0x054 VBAT_LOW,
  Row.one 0x054 VBAT_MV,
  Row.one 0x058 PWR_FAIL_LEVEL,
  Row.one 0x058 PWR_FAIL_FELL,
  Row.arr 0x060 0x4 4 (fun i => TEMP_VALUE i),
  Row.arr 0x060 0x4 4 (fun i => TEMP_VALID i)]

/-- The words of page PWR, row by row (R57). -/
def rowsPWR : List Row := List.flatten [rowsPWR_0]

namespace F.CANARY

/-- CFG.MESH_EN: bit n = mesh n on; per R606. -/
def CFG_MESH_EN : Field := ⟨0x03, 0x040, 0, 2, .rw, 0, .ordinary, .any, .always⟩
/-- CFG.SW_EN: switch n on. -/
def CFG_SW_EN : Field := ⟨0x03, 0x040, 2, 2, .rw, 0, .ordinary, .any, .always⟩
/-- CFG.SW_POL: normal level of switch n. -/
def CFG_SW_POL : Field := ⟨0x03, 0x040, 4, 2, .rw, 0, .ordinary, .any, .always⟩
/-- CFG.TEMP_EN: temperature sensor on. -/
def CFG_TEMP_EN : Field := ⟨0x03, 0x040, 8, 1, .rw, 1, .ordinary, .any, .always⟩
/-- CFG.GLITCH_EN: glitch detector on. -/
def CFG_GLITCH_EN : Field := ⟨0x03, 0x040, 9, 1, .rw, 1, .ordinary, .any, .always⟩
/-- TAMPER_STATUS.SENSORS: [0] mesh 0, [1] mesh 1, [2] switch 0, [3] switch 1, [4] temperature, [5] glitch. -/
def TAMPER_STATUS_SENSORS : Field := ⟨0x03, 0x044, 0, 6, .ro, 0, .tamper, .any, .always⟩
/-- TAMPER_STATUS.ZEROIZED: 1 = zeroization ran. -/
def TAMPER_STATUS_ZEROIZED : Field := ⟨0x03, 0x044, 8, 1, .ro, 0, .tamper, .any, .always⟩
/-- TAMPER_STATUS.PHASE: per R607. -/
def TAMPER_STATUS_PHASE : Field := ⟨0x03, 0x044, 12, 3, .ro, 0, .tamper, .any, .always⟩
/-- BIVOUAC.CFG.ETH0: per R613. -/
def BIVOUAC_CFG_ETH0 : Field := ⟨0x03, 0x048, 0, 1, .rw, 1, .ordinary, .any, .always⟩
/-- BIVOUAC.CFG.DEEP_AFTER: 0 = never, 1–65,535 s. -/
def BIVOUAC_CFG_DEEP_AFTER : Field := ⟨0x03, 0x048, 16, 16, .rw, 0, .ordinary, .any, .always⟩
/-- BIVOUAC.STATE: 0 NORMAL, 1 ENTERING, 2 BIVOUAC, 3 DEEP. -/
def BIVOUAC_STATE : Field := ⟨0x03, 0x04C, 0, 2, .ro, 0, .ordinary, .any, .always⟩
/-- BIVOUAC.DEEP_NOW: 1 = enter deep hold; 0 = leave it, per R617. -/
def BIVOUAC_DEEP_NOW : Field := ⟨0x03, 0x050, 0, 1, .rw, 0, .ordinary, .any, .always⟩
/-- BIVOUAC.ENTRIES: bivouac entries. -/
def BIVOUAC_ENTRIES : Field := ⟨0x03, 0x054, 0, 32, .rc, 0, .ordinary, .any, .always⟩
/-- GASP_FORWARDED: per R615. -/
def GASP_FORWARDED : Field := ⟨0x03, 0x058, 0, 32, .rc, 0, .ordinary, .any, .always⟩
/-- GASP_LOST: per R615. -/
def GASP_LOST : Field := ⟨0x03, 0x05C, 0, 32, .rc, 0, .ordinary, .any, .always⟩
/-- PATH_DEFERRED: per R615. -/
def PATH_DEFERRED : Field := ⟨0x03, 0x060, 0, 32, .rc, 0, .ordinary, .any, .always⟩

end F.CANARY

open F.CANARY in
/-- Part 0 of the words of page CANARY (R620). -/
def rowsCANARY_0 : List Row := [
  Row.one 0x040 CFG_MESH_EN,
  Row.one 0x040 CFG_SW_EN,
  Row.one 0x040 CFG_SW_POL,
  Row.one 0x040 CFG_TEMP_EN,
  Row.one 0x040 CFG_GLITCH_EN,
  Row.one 0x044 TAMPER_STATUS_SENSORS,
  Row.one 0x044 TAMPER_STATUS_ZEROIZED,
  Row.one 0x044 TAMPER_STATUS_PHASE,
  Row.one 0x048 BIVOUAC_CFG_ETH0,
  Row.one 0x048 BIVOUAC_CFG_DEEP_AFTER,
  Row.one 0x04C BIVOUAC_STATE,
  Row.one 0x050 BIVOUAC_DEEP_NOW,
  Row.one 0x054 BIVOUAC_ENTRIES,
  Row.one 0x058 GASP_FORWARDED,
  Row.one 0x05C GASP_LOST,
  Row.one 0x060 PATH_DEFERRED]

/-- The words of page CANARY, row by row (R620). -/
def rowsCANARY : List Row := List.flatten [rowsCANARY_0]

namespace F.EVT

/-- SRC_STATUS[g]: bit b = source 32g + b asserted. -/
def SRC_STATUS (g : Nat) : Field := ⟨0x04, (0x040 + 0x4 * g), 0, 32, .ro, 0, .ordinary, .any, .always⟩
/-- GROUP_SUMMARY: bit g = a source of group g asserted. -/
def GROUP_SUMMARY : Field := ⟨0x04, 0x060, 0, 8, .ro, 0, .ordinary, .any, .always⟩
/-- PIN_STATUS.EVT_N: 1 = EVT_N driven low. -/
def PIN_STATUS_EVT_N : Field := ⟨0x04, 0x064, 0, 1, .ro, 0, .ordinary, .any, .always⟩
/-- PIN_STATUS.MGMT_EVT_N: 1 = MGMT_EVT_N driven low. -/
def PIN_STATUS_MGMT_EVT_N : Field := ⟨0x04, 0x064, 1, 1, .ro, 0, .ordinary, .any, .always⟩
/-- VEC_STATUS: bit v = an asserted source routed to v with TO_MSIX = 1. -/
def VEC_STATUS : Field := ⟨0x04, 0x068, 0, 32, .ro, 0, .ordinary, .any, .always⟩
/-- MSG_COUNT: MSI-X messages sent; wraps at 2^32. -/
def MSG_COUNT : Field := ⟨0x04, 0x06C, 0, 32, .rc, 0, .ordinary, .any, .always⟩
/-- MGMT_ROUTE[g]: bit b = source 32g + b drives MGMT_EVT_N. -/
def MGMT_ROUTE (g : Nat) : Field := ⟨0x04, (0x080 + 0x4 * g), 0, 32, .rw, (mgmtRouteReset g), .ordinary, .any, .always⟩
/-- MGMT_ACK[g]: 1 = acknowledge source 32g + b toward MGMT_EVT_N. -/
def MGMT_ACK (g : Nat) : Field := ⟨0x04, (0x0A0 + 0x4 * g), 0, 32, .wo, 0, .ordinary, .any, .always⟩
/-- MGMT_PEND[g]: 1 = asserted, routed and not acknowledged. -/
def MGMT_PEND (g : Nat) : Field := ⟨0x04, (0x0C0 + 0x4 * g), 0, 32, .ro, 0, .ordinary, .any, .always⟩
/-- REJECT_PAGES[k]: bit j = page 32k + j has REJECT_COUNT ≠ 0. -/
def REJECT_PAGES (k : Nat) : Field := ⟨0x04, (0x0E0 + 0x4 * k), 0, 32, .ro, 0, .ordinary, .any, .always⟩
/-- PARITY_PAGES[k]: bit j = page 32k + j has PARITY_STATUS ≠ 0. -/
def PARITY_PAGES (k : Nat) : Field := ⟨0x04, (0x0F0 + 0x4 * k), 0, 32, .ro, 0, .ordinary, .any, .always⟩
/-- ROUTE[s].VECTOR: MSI-X vector 0–31. -/
def ROUTE_VECTOR (s : Nat) : Field := ⟨0x04, (0x100 + 4 * (s / 4)), (8 * (s % 4) + 0), 5, .rw, (routeVecReset s), .ordinary, .any, .always⟩
/-- ROUTE[s].TO_MSIX: 1 = source signals its vector. -/
def ROUTE_TO_MSIX (s : Nat) : Field := ⟨0x04, (0x100 + 4 * (s / 4)), (8 * (s % 4) + 5), 1, .rw, (routeMsixReset s), .ordinary, .any, .always⟩
/-- ROUTE[s].TO_EVT_N: 1 = source drives EVT_N. -/
def ROUTE_TO_EVT_N (s : Nat) : Field := ⟨0x04, (0x100 + 4 * (s / 4)), (8 * (s % 4) + 6), 1, .rw, 0, .ordinary, .any, .always⟩
/-- HOLDOFF[v]: minimum spacing of messages on vector v, 0–65,535 µs. -/
def HOLDOFF (v : Nat) : Field := ⟨0x04, (0x200 + 0x4 * v), 0, 16, .rw, 0, .ordinary, .any, .always⟩

end F.EVT

open F.EVT in
/-- Part 0 of the words of page EVT (R102). -/
def rowsEVT_0 : List Row := [
  Row.arr 0x040 0x4 8 (fun i => SRC_STATUS i),
  Row.one 0x060 GROUP_SUMMARY,
  Row.one 0x064 PIN_STATUS_EVT_N,
  Row.one 0x064 PIN_STATUS_MGMT_EVT_N,
  Row.one 0x068 VEC_STATUS,
  Row.one 0x06C MSG_COUNT,
  Row.arr 0x080 0x4 8 (fun i => MGMT_ROUTE i),
  Row.arr 0x0A0 0x4 8 (fun i => MGMT_ACK i),
  Row.arr 0x0C0 0x4 8 (fun i => MGMT_PEND i),
  Row.arr 0x0E0 0x4 3 (fun i => REJECT_PAGES i),
  Row.arr 0x0F0 0x4 3 (fun i => PARITY_PAGES i),
  Row.arr 0x100 4 64 (fun i => ROUTE_VECTOR (4 * i + 0)),
  Row.arr 0x100 4 64 (fun i => ROUTE_VECTOR (4 * i + 1)),
  Row.arr 0x100 4 64 (fun i => ROUTE_VECTOR (4 * i + 2)),
  Row.arr 0x100 4 64 (fun i => ROUTE_VECTOR (4 * i + 3)),
  Row.arr 0x100 4 64 (fun i => ROUTE_TO_MSIX (4 * i + 0)),
  Row.arr 0x100 4 64 (fun i => ROUTE_TO_MSIX (4 * i + 1)),
  Row.arr 0x100 4 64 (fun i => ROUTE_TO_MSIX (4 * i + 2)),
  Row.arr 0x100 4 64 (fun i => ROUTE_TO_MSIX (4 * i + 3)),
  Row.arr 0x100 4 64 (fun i => ROUTE_TO_EVT_N (4 * i + 0)),
  Row.arr 0x100 4 64 (fun i => ROUTE_TO_EVT_N (4 * i + 1)),
  Row.arr 0x100 4 64 (fun i => ROUTE_TO_EVT_N (4 * i + 2)),
  Row.arr 0x100 4 64 (fun i => ROUTE_TO_EVT_N (4 * i + 3)),
  Row.arr 0x200 0x4 32 (fun i => HOLDOFF i)]

/-- The words of page EVT, row by row (R102). -/
def rowsEVT : List Row := List.flatten [rowsEVT_0]

namespace F.RESERVE

/-- REMAIN.LANES: RESERVE lanes left. -/
def REMAIN_LANES : Field := ⟨0x05, 0x040, 0, 4, .ro, 8, .ordinary, .any, .always⟩
/-- REMAIN.FCE: . -/
def REMAIN_FCE : Field := ⟨0x05, 0x040, 8, 2, .ro, 1, .ordinary, .any, .always⟩
/-- REMAIN.SUP: 1 = a second core not retired. -/
def REMAIN_SUP : Field := ⟨0x05, 0x040, 12, 1, .ro, 1, .ordinary, .any, .always⟩
/-- REMAIN.FE: 0 while FE3 substitutes or is retired. -/
def REMAIN_FE : Field := ⟨0x05, 0x040, 16, 1, .ro, 1, .ordinary, .any, .always⟩
/-- REMAIN.PUF_BLOCKS: . -/
def REMAIN_PUF_BLOCKS : Field := ⟨0x05, 0x040, 20, 2, .ro, 2, .ordinary, .any, .always⟩
/-- REMAIN.BELAY: 1 = spare lane usable. -/
def REMAIN_BELAY : Field := ⟨0x05, 0x040, 24, 1, .ro, 1, .ordinary, .any, .always⟩
/-- REMAIN.PARTITION: 1 = location 2 unused. -/
def REMAIN_PARTITION : Field := ⟨0x05, 0x040, 28, 1, .ro, 1, .ordinary, .any, .always⟩
/-- REMAIN.PAIRS: non-retired pairs beyond 512. -/
def REMAIN_PAIRS : Field := ⟨0x05, 0x044, 0, 10, .ro, 512, .ordinary, .any, .always⟩
/-- REMAIN.REPAIR_FUSES: field-repair entries left. -/
def REMAIN_REPAIR_FUSES : Field := ⟨0x05, 0x044, 16, 9, .ro, 256, .ordinary, .any, .always⟩
/-- REMAIN.SRAM_WORST: percent of spares left in the most-used macro. -/
def REMAIN_SRAM_WORST : Field := ⟨0x05, 0x048, 0, 7, .ro, 100, .ordinary, .any, .always⟩
/-- RETIRED_LANES[0–4]: bit j = lane 32k + j fused retired. -/
def RETIRED_LANES (k : Nat) : Field := ⟨0x05, (0x050 + 0x4 * k), 0, 32, .ro, 0, .nonvolatile, .any, .always⟩
/-- RETIRED_OTHER.FCE: bit e = FCEe. -/
def RETIRED_OTHER_FCE : Field := ⟨0x05, 0x064, 0, 9, .ro, 0, .nonvolatile, .any, .always⟩
/-- RETIRED_OTHER.SUP: bit c = SUPc. -/
def RETIRED_OTHER_SUP : Field := ⟨0x05, 0x064, 12, 2, .ro, 0, .nonvolatile, .any, .always⟩
/-- RETIRED_OTHER.FE: bit n = FEn. -/
def RETIRED_OTHER_FE : Field := ⟨0x05, 0x064, 16, 4, .ro, 0, .nonvolatile, .any, .always⟩
/-- RETIRE_FE.FE: front end to retire, per R601. -/
def RETIRE_FE_FE : Field := ⟨0x05, 0x068, 0, 2, .wo, 0, .ordinary, .any, .always⟩
/-- RETIRE_FE.CONFIRM: must be 0x5A3C; otherwise rejected as RANGE. -/
def RETIRE_FE_CONFIRM : Field := ⟨0x05, 0x068, 16, 16, .wo, 0, .ordinary, (.oneOf [0x5A3C]), .always⟩
/-- ENGAGED_COUNT: per R599; wraps at 2^32. -/
def ENGAGED_COUNT : Field := ⟨0x05, 0x06C, 0, 32, .rc, 0, .ordinary, .any, .always⟩
/-- POWERED_S: per R604. -/
def POWERED_S : Field := ⟨0x05, 0x070, 0, 32, .ro, 0, .nonvolatile, .any, .always⟩
/-- WEAR_INDEX: 0.1 permille, per R603. -/
def WEAR_INDEX : Field := ⟨0x05, 0x074, 0, 16, .ro, 0, .nonvolatile, .any, .always⟩
/-- WEAR_INDEX.WHICH: monitor. -/
def WEAR_INDEX_WHICH : Field := ⟨0x05, 0x074, 16, 4, .ro, 0, .nonvolatile, .any, .always⟩
/-- WEAR[0–15]: WEAR[i] in bits [16(i mod 2) + 15:16(i mod 2)] of word ⌊i ÷ 2⌋. -/
def WEAR (i : Nat) : Field := ⟨0x05, (0x080 + 4 * (i / 2)), (16 * (i % 2)), 16, .ro, 0, .nonvolatile, .any, .always⟩

end F.RESERVE

open F.RESERVE in
/-- Part 0 of the words of page RESERVE (R619). -/
def rowsRESERVE_0 : List Row := [
  Row.one 0x040 REMAIN_LANES,
  Row.one 0x040 REMAIN_FCE,
  Row.one 0x040 REMAIN_SUP,
  Row.one 0x040 REMAIN_FE,
  Row.one 0x040 REMAIN_PUF_BLOCKS,
  Row.one 0x040 REMAIN_BELAY,
  Row.one 0x040 REMAIN_PARTITION,
  Row.one 0x044 REMAIN_PAIRS,
  Row.one 0x044 REMAIN_REPAIR_FUSES,
  Row.one 0x048 REMAIN_SRAM_WORST,
  Row.arr 0x050 0x4 5 (fun i => RETIRED_LANES i),
  Row.one 0x064 RETIRED_OTHER_FCE,
  Row.one 0x064 RETIRED_OTHER_SUP,
  Row.one 0x064 RETIRED_OTHER_FE,
  Row.one 0x068 RETIRE_FE_FE,
  Row.one 0x068 RETIRE_FE_CONFIRM,
  Row.one 0x06C ENGAGED_COUNT,
  Row.one 0x070 POWERED_S,
  Row.one 0x074 WEAR_INDEX,
  Row.one 0x074 WEAR_INDEX_WHICH,
  Row.arr 0x080 4 8 (fun i => WEAR (2 * i + 0)),
  Row.arr 0x080 4 8 (fun i => WEAR (2 * i + 1))]

/-- The words of page RESERVE, row by row (R619). -/
def rowsRESERVE : List Row := List.flatten [rowsRESERVE_0]

namespace F.CAIRN

/-- HEAD: next position written. -/
def HEAD : Field := ⟨0x06, 0x040, 0, 10, .ro, 0, .nonvolatile, .any, .always⟩
/-- SEQ_NEXT: SEQ of the next record. -/
def SEQ_NEXT : Field := ⟨0x06, 0x044, 0, 32, .ro, 0, .nonvolatile, .any, .always⟩
/-- COUNT: records held, 0–1,024. -/
def COUNT : Field := ⟨0x06, 0x048, 0, 11, .ro, 0, .nonvolatile, .any, .always⟩
/-- SEL: position read through REC. -/
def SEL : Field := ⟨0x06, 0x04C, 0, 10, .rw, 0, .ordinary, .any, .always⟩
/-- REC[0–7]: record octets 4k–4k+3; a read of REC[0] latches. -/
def REC (k : Nat) : Field := ⟨0x06, (0x050 + 0x4 * k), 0, 32, .ro, 0, .ordinary, .any, .always⟩
/-- READ_MARK: per R612. -/
def READ_MARK : Field := ⟨0x06, 0x070, 0, 32, .rw, 0, .ordinary, .any, .always⟩
/-- LOST: per R612. -/
def LOST : Field := ⟨0x06, 0x074, 0, 32, .rc, 0, .ordinary, .any, .always⟩
/-- OVERWRITES: all overwrites since manufacture; wraps at 2^32. -/
def OVERWRITES : Field := ⟨0x06, 0x078, 0, 32, .ro, 0, .nonvolatile, .any, .always⟩
/-- DROPPED: per R609. -/
def DROPPED : Field := ⟨0x06, 0x07C, 0, 32, .rc, 0, .ordinary, .any, .always⟩
/-- NOTE[0–1]: DATA of a NOTE record. -/
def NOTE (k : Nat) : Field := ⟨0x06, (0x080 + 0x4 * k), 0, 32, .rw, 0, .ordinary, .any, .always⟩
/-- NOTE_GO: 1 = write a NOTE record. -/
def NOTE_GO : Field := ⟨0x06, 0x088, 0, 1, .wo, 0, .ordinary, .any, .always⟩

end F.CAIRN

open F.CAIRN in
/-- Part 0 of the words of page CAIRN (R621). -/
def rowsCAIRN_0 : List Row := [
  Row.one 0x040 HEAD,
  Row.one 0x044 SEQ_NEXT,
  Row.one 0x048 COUNT,
  Row.one 0x04C SEL,
  Row.arr 0x050 0x4 8 (fun i => REC i),
  Row.one 0x070 READ_MARK,
  Row.one 0x074 LOST,
  Row.one 0x078 OVERWRITES,
  Row.one 0x07C DROPPED,
  Row.arr 0x080 0x4 2 (fun i => NOTE i),
  Row.one 0x088 NOTE_GO]

/-- The words of page CAIRN, row by row (R621). -/
def rowsCAIRN : List Row := List.flatten [rowsCAIRN_0]

namespace F.MGMT

/-- SPI_STATUS.QUAD: 1 = quad mode on. -/
def SPI_STATUS_QUAD : Field := ⟨0x4E, 0x040, 0, 1, .ro, 0, .ordinary, .any, .always⟩
/-- SPI_STATUS.MODE3: mode of the last transaction: 0 = mode 0, 1 = mode 3. -/
def SPI_STATUS_MODE3 : Field := ⟨0x4E, 0x040, 1, 1, .ro, 0, .ordinary, .any, .always⟩
/-- SPI_DISCARDS: discarded words and unusable addresses, saturating at 65,535; each raises SPI_ERROR. -/
def SPI_DISCARDS : Field := ⟨0x4E, 0x044, 0, 16, .rc, 0, .ordinary, .any, .always⟩
/-- CONSOLE.ENABLE: 1 = UART console on; writing 1 in DEPLOYED is rejected as STATE. -/
def CONSOLE_ENABLE : Field := ⟨0x4E, 0x048, 0, 1, .rw, 0, .ordinary, .any, .always⟩
/-- SCRATCH: no effect; for link checks. -/
def SCRATCH : Field := ⟨0x4E, 0x04C, 0, 32, .rw, 0, .ordinary, .any, .always⟩
/-- GPIO.DIR: 1 = ball drives OUT. -/
def GPIO_DIR : Field := ⟨0x4E, 0x100, 0, 16, .rw, 0, .ordinary, .any, .always⟩
/-- GPIO.OUT: level driven. -/
def GPIO_OUT : Field := ⟨0x4E, 0x104, 0, 16, .rw, 0, .ordinary, .any, .always⟩
/-- GPIO.IN: filtered level at the ball. -/
def GPIO_IN : Field := ⟨0x4E, 0x108, 0, 16, .ro, 0, .ordinary, .any, .always⟩
/-- GPIO.PULL_EN: 1 = internal pull on an input ball. -/
def GPIO_PULL_EN : Field := ⟨0x4E, 0x10C, 0, 16, .rw, 0xFFFF, .ordinary, .any, .always⟩
/-- GPIO.PULL_UP: 1 = pull-up, 0 = pull-down. -/
def GPIO_PULL_UP : Field := ⟨0x4E, 0x10C, 16, 16, .rw, 0, .ordinary, .any, .always⟩
/-- GPIO.EDGE_EN.RISE: 1 = a rising edge sets EDGE. -/
def GPIO_EDGE_EN_RISE : Field := ⟨0x4E, 0x110, 0, 16, .rw, 0, .ordinary, .any, .always⟩
/-- GPIO.EDGE_EN.FALL: 1 = a falling edge sets EDGE. -/
def GPIO_EDGE_EN_FALL : Field := ⟨0x4E, 0x110, 16, 16, .rw, 0, .ordinary, .any, .always⟩
/-- GPIO.EDGE: 1 = an enabled edge was seen. -/
def GPIO_EDGE : Field := ⟨0x4E, 0x114, 0, 16, .rw1c, 0, .ordinary, .any, .always⟩
/-- I2C1.CFG.FAST: 1 = 400 kHz. -/
def I2C1_CFG_FAST : Field := ⟨0x4E, 0x120, 0, 1, .rw, 0, .ordinary, .any, .always⟩
/-- I2C1.CMD.ADDR: 7-bit device address. -/
def I2C1_CMD_ADDR : Field := ⟨0x4E, 0x124, 0, 7, .wo, 0, .ordinary, .any, .always⟩
/-- I2C1.CMD.READ: 1 = read. -/
def I2C1_CMD_READ : Field := ⟨0x4E, 0x124, 7, 1, .wo, 0, .ordinary, .any, .always⟩
/-- I2C1.CMD.NO_REG: 1 = no register octet. -/
def I2C1_CMD_NO_REG : Field := ⟨0x4E, 0x124, 8, 1, .wo, 0, .ordinary, .any, .always⟩
/-- I2C1.CMD.REG: register octet. -/
def I2C1_CMD_REG : Field := ⟨0x4E, 0x124, 16, 8, .wo, 0, .ordinary, .any, .always⟩
/-- I2C1.CMD.DATA: octet to write. -/
def I2C1_CMD_DATA : Field := ⟨0x4E, 0x124, 24, 8, .wo, 0, .ordinary, .any, .always⟩
/-- I2C1.STATUS.BUSY: 1 = transaction running. -/
def I2C1_STATUS_BUSY : Field := ⟨0x4E, 0x128, 0, 1, .ro, 0, .ordinary, .any, .always⟩
/-- I2C1.STATUS.RESULT: 0 NONE, 1 DONE, 2 NACK, 3 TIMEOUT. -/
def I2C1_STATUS_RESULT : Field := ⟨0x4E, 0x128, 4, 3, .ro, 0, .ordinary, .any, .always⟩
/-- I2C1.STATUS.READ_DATA: octet of the last read. -/
def I2C1_STATUS_READ_DATA : Field := ⟨0x4E, 0x128, 8, 8, .ro, 0, .ordinary, .any, .always⟩
/-- START.STAGE: 0 POR, 1 CLOCKS, 2 ROOT, 3 FUSES, 4 MANIFEST, 5 CELLEY, 6 DDR, 7 HOST, 8 RUN, 15 BASECAMP; per R626. -/
def START_STAGE : Field := ⟨0x4E, 0x060, 0, 4, .ro, 0, .ordinary, .any, .always⟩
/-- START.REASON: lowest cause of R630; 0 outside base camp. -/
def START_REASON : Field := ⟨0x4E, 0x060, 4, 4, .ro, 0, .ordinary, .any, .always⟩
/-- START.RESET_KIND: kind of the reset that began this start, coded as the RESET record of R611. -/
def START_RESET_KIND : Field := ⟨0x4E, 0x060, 8, 3, .ro, 0, .ordinary, .any, .always⟩
/-- START.WARM_SOURCE: per R623; 0 for other resets. -/
def START_WARM_SOURCE : Field := ⟨0x4E, 0x060, 12, 3, .ro, 0, .ordinary, .any, .always⟩
/-- START.ENTER_PENDING: per R632. -/
def START_ENTER_PENDING : Field := ⟨0x4E, 0x060, 16, 1, .ro, 0, .alwaysOn, .any, .always⟩
/-- START.EXIT_PENDING: per R635. -/
def START_EXIT_PENDING : Field := ⟨0x4E, 0x060, 17, 1, .ro, 0, .ordinary, .any, .always⟩
/-- START.CAUSES: bit r = cause r of R630 holds. -/
def START_CAUSES : Field := ⟨0x4E, 0x064, 1, 10, .ro, 0, .ordinary, .any, .always⟩
/-- START.RUN_MS: ms from supplies valid to RUN, saturating; 0 in base camp. -/
def START_RUN_MS : Field := ⟨0x4E, 0x068, 0, 16, .ro, 0, .ordinary, .any, .always⟩
/-- START.LOOP: forced warm resets counted, per R625. -/
def START_LOOP : Field := ⟨0x4E, 0x06C, 0, 3, .ro, 0, .alwaysOn, .any, .always⟩
/-- REQ_NONCE[0–3]: nonce, low word first. -/
def REQ_NONCE (k : Nat) : Field := ⟨0x4E, (0x080 + 0x4 * k), 0, 32, .ro, 0, .ordinary, .any, .always⟩
/-- REQ_GO: 1 = check and act on REQ_BUF; 0 rejected as RANGE. -/
def REQ_GO : Field := ⟨0x4E, 0x090, 0, 1, .wo, 0, .ordinary, (.oneOf [1]), .always⟩
/-- REQ_STATUS.BUSY: 1 = request being checked. -/
def REQ_STATUS_BUSY : Field := ⟨0x4E, 0x094, 0, 1, .ro, 0, .ordinary, .any, .always⟩
/-- REQ_STATUS.RESULT: 0 NONE, 1 DONE, 2 BAD_FORMAT, 3 BAD_KEY, 4 BAD_SIG, 5 REFUSED, 6 SENSOR_ACTIVE. -/
def REQ_STATUS_RESULT : Field := ⟨0x4E, 0x094, 4, 4, .ro, 0, .ordinary, .any, .always⟩
/-- REQ_BUF[0–56]: request record, octet 4k in bits [7:0] of word k. -/
def REQ_BUF (k : Nat) : Field := ⟨0x4E, (0x400 + 0x4 * k), 0, 32, .rw, 0, .ordinary, .any, .always⟩

end F.MGMT

open F.MGMT in
/-- Part 0 of the words of page MGMT (R92, R93, R94, R636). -/
def rowsMGMT_0 : List Row := [
  Row.one 0x040 SPI_STATUS_QUAD,
  Row.one 0x040 SPI_STATUS_MODE3,
  Row.one 0x044 SPI_DISCARDS,
  Row.one 0x048 CONSOLE_ENABLE,
  Row.one 0x04C SCRATCH,
  Row.one 0x100 GPIO_DIR,
  Row.one 0x104 GPIO_OUT,
  Row.one 0x108 GPIO_IN,
  Row.one 0x10C GPIO_PULL_EN,
  Row.one 0x10C GPIO_PULL_UP,
  Row.one 0x110 GPIO_EDGE_EN_RISE,
  Row.one 0x110 GPIO_EDGE_EN_FALL,
  Row.one 0x114 GPIO_EDGE,
  Row.one 0x120 I2C1_CFG_FAST,
  Row.one 0x124 I2C1_CMD_ADDR,
  Row.one 0x124 I2C1_CMD_READ,
  Row.one 0x124 I2C1_CMD_NO_REG,
  Row.one 0x124 I2C1_CMD_REG,
  Row.one 0x124 I2C1_CMD_DATA,
  Row.one 0x128 I2C1_STATUS_BUSY,
  Row.one 0x128 I2C1_STATUS_RESULT,
  Row.one 0x128 I2C1_STATUS_READ_DATA,
  Row.one 0x060 START_STAGE,
  Row.one 0x060 START_REASON]

open F.MGMT in
/-- Part 1 of the words of page MGMT (R92, R93, R94, R636). -/
def rowsMGMT_1 : List Row := [
  Row.one 0x060 START_RESET_KIND,
  Row.one 0x060 START_WARM_SOURCE,
  Row.one 0x060 START_ENTER_PENDING,
  Row.one 0x060 START_EXIT_PENDING,
  Row.one 0x064 START_CAUSES,
  Row.one 0x068 START_RUN_MS,
  Row.one 0x06C START_LOOP,
  Row.arr 0x080 0x4 4 (fun i => REQ_NONCE i),
  Row.one 0x090 REQ_GO,
  Row.one 0x094 REQ_STATUS_BUSY,
  Row.one 0x094 REQ_STATUS_RESULT,
  Row.arr 0x400 0x4 57 (fun i => REQ_BUF i)]

/-- The words of page MGMT, row by row (R92, R93, R94, R636). -/
def rowsMGMT : List Row := List.flatten [rowsMGMT_0, rowsMGMT_1]

end Sys2Proof.Machine
end

