-- ==== Sys2Proof/Machine/Types.lean ====
section
/-! DEFINITION. The records the state of the ZK-4208 is built of: dispositions, lanes, front ends, frames, nodes and
key slots. -/

namespace Sys2Proof.Machine

/-- Sparse data by number, keys strictly rising. -/
abbrev Tbl (α : Type) := List (Nat × α)

/-- The disposition codes of R13. -/
inductive Disp where
  | okDelivered | okTransmitted | okAcked
  | dropSyncFail | dropPhrBad | dropFcs | dropCaptured | dropTxPreempt | dropGainStep
  | dropAddr | dropAuth | dropReplay | dropKeyRevoked | dropKeyUnknown | dropCryptoFault
  | dropPoliced | dropNoPath | dropReasmTimeout | dropReasmNoContext | dropHopLimit
  | dropRingFull | dropParity | dropDisabled
  | dropEthRunt | dropEthGiant | dropEthFcs
  | txAbandonSlip | txAbandonReg | txAbandonCoex | txCounterExhausted | rendezvousSkipped | txAbandonPendingTimeout
deriving DecidableEq, Repr

/-- The code of a disposition (R13). -/
def Disp.code : Disp → Nat
  | .okDelivered => 0x00
  | .okTransmitted => 0x01
  | .okAcked => 0x02
  | .dropSyncFail => 0x10
  | .dropPhrBad => 0x11
  | .dropFcs => 0x12
  | .dropCaptured => 0x13
  | .dropTxPreempt => 0x14
  | .dropGainStep => 0x15
  | .dropAddr => 0x20
  | .dropAuth => 0x21
  | .dropReplay => 0x22
  | .dropKeyRevoked => 0x23
  | .dropKeyUnknown => 0x24
  | .dropCryptoFault => 0x25
  | .dropPoliced => 0x30
  | .dropNoPath => 0x31
  | .dropReasmTimeout => 0x32
  | .dropReasmNoContext => 0x33
  | .dropHopLimit => 0x34
  | .dropRingFull => 0x40
  | .dropParity => 0x41
  | .dropDisabled => 0x42
  | .dropEthRunt => 0x50
  | .dropEthGiant => 0x51
  | .dropEthFcs => 0x52
  | .txAbandonSlip => 0x60
  | .txAbandonReg => 0x61
  | .txAbandonCoex => 0x62
  | .txCounterExhausted => 0x63
  | .rendezvousSkipped => 0x64
  | .txAbandonPendingTimeout => 0x65

/-! ### Lanes -/

/-- The lane states of R165. -/
inductive LaneState where
  | idle | waking | search | header | payload | ending | reserve | check | test | fault | retired
deriving DecidableEq, Repr

/-- What the air MAC holds of a frame between its MHR and its verdict (R228, R231): the MHR, the node index and the
core record as read, the verdict fixed so far, the INSECURE mark, the security level, the frame counter, the slot
whose key decrypts the frame with its generation, the node whose wrapped key it is with whether the cache missed it,
whether the key is ready, the CCM context's engine and whether its two paths have disagreed, the slot settings at the
MHR (R260), its key-identifier mode and index, and the nonce (R229). -/
structure Rx where
  mhr      : Option Mhr := none
  node     : Option Nat := none
  pan      : Nat := 0
  snap     : Option (BitVec 256) := none
  fixed    : Option Disp := none
  insecure : Bool := false
  level    : Nat := 0
  counter  : Nat := 0
  keySlot  : Option Nat := none
  keyGen   : Nat := 0
  keyNode  : Option Nat := none
  keyReady : Bool := false
  engine   : Option Nat := none
  mismatch : Bool := false
  cacheMiss : Bool := false
  panInsecure : Bool := false
  panJoin  : Bool := false
  panSlot  : Nat := 0
  panIndex : Nat := 0
  kim      : Nat := 0
  keyIndex : Nat := 0
  nonce    : List Byte := []
deriving DecidableEq, Repr

/-- A lane: the fields of its status record (R181) with the time of SEQ's last advance (R182), and what the lane keeps beside it: among
it the receive fields as
they stood when the lane was bound (R217), the OFDM seed index received (R208), the gain index at the start of the RSSI interval
(R219), its predicted last symbol (R185), the release that waits for its capture FIFO (R167), and when a
fault's test begins or an idle self-check ends, with what the check finds (R186, R188). -/
structure Lane where
  state         : LaneState := .idle
  gainStep      : Bool := false
  victim        : Bool := false
  captor        : Bool := false
  preempted     : Bool := false
  listenThrough : Bool := false
  outcome       : Option Disp := none
  logical       : Nat := 0
  physical      : Nat := 0
  set           : Nat := 0
  mode          : Nat := 0
  channel       : Nat := 0
  bin           : Nat := 0
  peer          : Option Nat := none
  detectUs      : Nat := 0
  startSample   : Nat := 0
  rssi          : Int := 0
  freq          : Int := 0
  floor         : Int := 0
  digitalGain   : Nat := 0
  gainStart     : Nat := 0
  gainNow       : Nat := 0
  length        : Nat := 0
  octets        : Nat := 0
  syncErrors    : Nat := 0
  endUs         : Nat := 0
  nodeIndex     : Option Nat := none
  counter       : Nat := 0
  binds         : Nat := 0
  passed        : Nat := 0
  busyNs        : Nat := 0
  faultsTotal   : Nat := 0
  fifo          : Nat := 0
  seq           : Nat := 0
  seqAt         : Nat := 0
  /- beside the record -/
  frame         : Nat := 0
  hz            : Nat := 0
  spacing       : Nat := 0
  captors       : List Nat := []
  prey          : Option Nat := none
  liveAt        : Nat := 0
  boundAt       : Nat := 0
  idleSince     : Nat := 0
  searchFrom    : Nat := 0
  gapUntil      : Nat := 0
  faultTimes    : List Nat := []
  coded         : Bool := false
  ext           : Bool := false
  whitened      : Bool := false
  fcs2          : Bool := false
  switched      : Bool := false
  phrMesh       : Int := 0
  phrDevice     : Nat := 0
  lastSymbol    : Nat := 0
  tol16         : Nat := 1
  tol32         : Nat := 2
  form          : Nat := 0
  follow        : Bool := true
  ofdmFcs2      : Bool := false
  gapUs         : Nat := 0
  sfdSet        : Nat := 0
  word32        : Nat := 0
  coded32       : Nat := 0
  seed          : Nat := 0
  gainSync      : Nat := 0
  due           : Nat := 0
  freeing       : Option (Option Disp) := none
  stepAt        : Nat := 0
  checkOk       : Bool := false
  rx            : Rx := {}
deriving DecidableEq, Repr

/-! ### Front ends -/

/-- The calibrations of R112. -/
inductive CalKind where
  | osc | synth | aaf | dc | iq | loopback
deriving DecidableEq, Repr

/-- Why a front end calibrates (R112 to R116, R84, R106): `relief` is FE3 before a relief, `relock` a lock without a tuning
change of its own. -/
inductive CalWhy where
  | start | temperature | iqAge | request | selfTest | retry | retune | relock | relief
deriving DecidableEq, Repr

/-- What a transmission carries: a frame of a scheduler, a poll answer, or an acknowledgement to a node, with frame
pending set or clear. -/
inductive TxWhat where
  | scheduled (frame : Nat)
  | pollAnswer (frame : Nat)
  | ack (node : Option Nat) (enhanced framePending : Bool)
deriving DecidableEq, Repr

/-- What the modulator reads as the front end enters RX_TX (R208, R214): the preamble length in octets, the whitening bit, the
pulse shape, the FEC scheme and interleaving, the OFDM FCS length and the scrambler's seed index. -/
structure TxCfg where
  preamble   : Nat := 0
  white      : Bool := false
  shaping    : Nat := 0
  scheme     : Nat := 0
  interleave : Bool := false
  fcs2       : Bool := false
  seed       : Nat := 0
deriving DecidableEq, Repr

/-- A transmission from entry to RX_TX to the end of its last symbol (R110, R126, R336), with the settings that the modulator
read then, the slot and counter that
secure it with the nonce (R229), the engine of its context, the frame-pending bit of an answer and the time correction of an
Enhanced ACK (R240, R241), and of what the controller forms itself the octets before and after the Mesh time IE, whether there
is one, and once the first symbol has left the whole without MIC and FCS. -/
structure Tx where
  what      : TxWhat
  logical   : Nat
  mode      : Nat
  hz        : Nat
  airNs     : Nat
  entry     : Nat
  firstAt   : Option Nat := none
  ackReq    : Bool := false
  seq       : Nat := 0
  secured   : Option (Nat × Nat) := none
  engine    : Option Nat := none
  fp        : Bool := false
  corr      : Int := 0
  clipped   : Bool := false
  coded     : Bool := false
  ext       : Bool := false
  cfg       : TxCfg := {}
  nonce     : List Byte := []
  key       : List Byte := []
  front     : List Byte := []
  meshIe    : Bool := false
  back      : List Byte := []
  octets    : List Byte := []
deriving DecidableEq, Repr

/-- A poll answer being fetched (R242): the node, the permitting entry, the FCS length of the answer (2 octets, or 4), what the
poll was, and the time correction. -/
structure Fetch where
  node   : Nat
  entry  : Nat
  fcs2   : Bool
  seq    : Nat
  enhanced : Bool
  corr   : Int
  clipped : Bool
deriving DecidableEq, Repr

/-- One 16 µs energy update of a front end: when, and the valid bins with their values in 0.5 dBm (R154). -/
structure Snapshot where
  time : Nat
  bins : List (Nat × Int)
deriving DecidableEq, Repr

/-- A report of a preamble (R159): when, the channel, its set and metric, the lane bound for it and whether it was offered. -/
structure Report where
  at_     : Nat
  hz      : Nat
  spacing : Nat
  set     : Nat
  metric  : Nat
  lane    : Option Nat := none
  offered : Bool := false
deriving DecidableEq, Repr

/-- A physical front end beyond its page: the tuning in effect, the entry time of its RF_STATE, the calibrations
still to run with whether they are a full set (R113), the needs that wait to be calibrated unrelieved (R115), lock attempts, the transmission and the poll fetch under way, coexistence lines, the energy history,
and the shared gain's bookkeeping. Of the control lines it holds the levels as TX_RX began, whether PA_EN has been cut
(R130, R134) and whether the DAC was muted before a ramp (R111, R127, R139); of coexistence, when REQ and PRI fall (R132). `after` is the state that TX_RX leads to when it is not RX, and
`lastHz` the channel of the last transmission (R124). FE3 alone uses `resuming`, a resumption of listen-through that waits for
FEk (R125), and `gainWas`, the gain index before listen-through held it (R124). `reports` are those of the present 8 µs interval (R159), `gainLog` the gain steps
of the last 10 ms with the index that each moved from, latest first, `satAt` the last 2 µs of saturation and `forcedLast` the last forced gain step (R174). -/
structure Fe where
  centre    : Nat := 0
  width     : Nat := 2
  band      : Nat := 0
  since     : Nat := 0
  todo      : List CalKind := []
  why       : CalWhy := .start
  second    : Bool := false
  lockTries : Nat := 0
  failed    : List CalKind := []
  deferFrom : Option Nat := none
  overdueSet : Bool := false
  waiting   : List CalWhy := []
  full      : Bool := false
  fromState : Nat := 0
  tx        : Option Tx := none
  fetch     : Option Fetch := none
  req       : Bool := false
  pri       : Bool := false
  gnt       : Bool := true
  energy    : List Snapshot := []
  offerUs   : Nat := 0
  starved   : List (Nat × Nat) := []
  offers    : Nat := 0
  stepAt    : Nat := 0
  downAt    : Option Nat := none
  forcedAt  : Option Nat := none
  recovering : Bool := false
  ofdmSeed  : Nat := 0
  calTemps  : Tbl Int := []
  calIqAt   : Tbl Nat := []
  ackWaits  : List Nat := []
  entryLines : Nat := 0
  cut       : Bool := false
  muted     : Bool := false
  reqOff    : Option Nat := none
  after     : Option Nat := none
  lastHz    : Nat := 0
  resuming  : Bool := false
  gainWas   : Option Nat := none
  reports   : List Report := []
  gainLog   : List (Nat × Nat) := []
  satAt     : Option Nat := none
  forcedLast : Option Nat := none
deriving DecidableEq, Repr

/-- How far a relief has come (R119). -/
inductive ReliefStage where
  | preparing | filling | relieving | calibrating | refilling | finishing
deriving DecidableEq, Repr

/-- A relief of FEk by FE3: what FEk is relieved for. -/
structure Relief where
  k     : Nat
  cals  : List CalKind
  why   : CalWhy
  stage : ReliefStage := .preparing
deriving DecidableEq, Repr

/-! ### Frames -/

/-- What a frame of the downlink side is. `host` names the transmit ring and slot it came from. -/
inductive FrameKind where
  | data
  | beacon (track : Nat)
  | announcement (campaign : Nat)
  | symbol (campaign : Nat)
  | host (ring slot : Nat)
deriving DecidableEq, Repr

/-- The last cause that held a committed frame (R338). -/
inductive Held where
  | none | answer | coex | lbt | synth | counter | other
deriving DecidableEq, Repr

/-- Where a frame of the downlink side stands: in the forwarding engine, where it is in no queue and no list yet, or beyond it. -/
inductive Place where
  | engine
  | queued
  | committed (planned : Nat) (held : Held)
  | air
  | ackWait
  | pending
  | ended (d : Disp)
deriving DecidableEq, Repr

/-- A frame of the downlink side, in a queue, in the pending store or in the air (R310, R323, R342). Lengths are in
octets, from the MHR through the payload. `order` sorts the frames of one queue, `listed` those of one pending list, and `deficit`
is the queue's deficit before the frame was committed (R329). `keyIndex` is the key index of a frame secured in key-identifier mode 1,
`payload` what is sent: a host frame whole, of the controller's own frames what follows the MHR and its security header. -/
structure Frame where
  kind      : FrameKind
  place     : Place := .queued
  order     : Int := 0
  listed    : Int := 0
  node      : Option Nat := none
  firstHop  : Option Nat := none
  hops      : Nat := 1
  fe        : Nat := 0
  queue     : Nat := 4
  length    : Nat
  mode      : Nat := 0
  hz        : Nat := 0
  power     : Int := -128
  fec       : Nat := 0
  sync      : Nat := 0
  extra     : Nat := 0
  fcs2      : Bool := false
  secure    : Bool := false
  level     : Nat := 0
  slot      : Nat := 0
  gen       : Nat := 0
  keyIndex  : Option Nat := none
  timed     : Bool := false
  start     : Nat := 0
  slipTol   : Nat := 0
  ackReq    : Bool := false
  attempts  : Nat := 0
  entered   : Nat := 0
  seq       : Option Nat := none
  appt      : Bool := false
  skipped   : Bool := false
  inFlight  : Bool := false
  expired   : Bool := false
  pendedAt  : Nat := 0
  plan      : Nat := 0
  group     : Option Nat := none
  cost      : Nat := 0
  deficit   : Nat := 0
  blind     : Nat := 0
  slipDone  : Bool := false
  answered  : Bool := false
  tag       : Nat := 0
  airFe     : Nat := 0
  polled    : Bool := false
  also      : List Nat := []
  source    : Option Nat := none
  mem       : Nat := 0
  payload   : List Byte := []
  seen      : Nat := 0
  sentAt    : Nat := 0
deriving DecidableEq, Repr

/-- A packet or frame delivered to a class (R301): the received frames that share its disposition, its class and form
(R491), its receive metadata, and its octets where they are not those that the filling of its slots brings. `device` is in units of 2^-32 ns. -/
structure Item where
  frames   : List Nat := []
  octets   : Nat
  cls      : Nat := 0
  form     : Nat := 0
  origin   : Nat := 0
  marks    : Nat := 0
  node     : Option Nat := none
  counter  : Nat := 0
  assay    : List Byte := []
  device   : Nat := 0
  mesh     : Nat := 0
  tci      : Nat := 0
  since    : Nat := 0
  data     : Option (List Byte) := none
deriving DecidableEq, Repr

/-- An IPv6 packet on its way through the forwarding engine: the frames that share its disposition, the metadata of a
delivery, the MHR source, the host slot it came from, the weighted queue that its class gives, and whether the hop
limit rule has been applied, and the slot and node that the prefix step has found. -/
structure Packet where
  ip     : Ipv6
  id     : Nat
  also   : List Nat := []
  item   : Item
  source : Option Nat := none
  host   : Option (Nat × Nat) := none
  queue  : Nat := 4
  hop    : Bool := false
  found  : Option (Nat × Nat) := none
deriving DecidableEq, Repr

/-- A reader that waits to read a node's two parts again (R271). -/
inductive Reader where
  | command (index : Nat)
  | scan (index : Nat)
  | packet (p : Packet)
deriving DecidableEq, Repr

/-- How a frame is addressed on Ethernet (R444). -/
inductive Cast where
  | unicast | multicast | broadcast
deriving DecidableEq, Repr

/-- A frame toward an Ethernet port: the frames that share its disposition, the host slot that returns with it, its
length in octets from the destination address to the octet before the FCS, those octets where the model forms
them, its PTP request (R466) with the offset of its PTP header, and when it was offered. -/
structure Egress where
  frames   : List Nat := []
  fromSlot : Option (Nat × Nat) := none
  source   : Option Nat := none
  octets   : Nat
  cast     : Cast := .unicast
  dst      : Nat := 0
  content  : List Byte := []
  tagged   : Bool := false
  tci      : Nat := 0
  time     : Bool := false
  tsMode   : Nat := 0
  tsId     : Nat := 0
  t2       : Nat := 0
  ptpType  : Option Nat := none
  ptpSeq   : Nat := 0
  ptpAt    : Nat := 0
  offered  : Nat := 0
deriving DecidableEq, Repr

/-- A frame in a port's receive staging (R426): its number, its size with the FCS, its content and the receive timestamp
(R464). -/
structure Staged where
  frame : Nat
  size  : Nat
  eth   : EthFrame
  stamp : Nat
deriving DecidableEq, Repr

/-- What the last one-step request wrote (R467): the originTimestamp in nanoseconds, if any, and what was added to the
correctionField. -/
structure OneStep where
  origin : Option Nat
  added  : Int
deriving DecidableEq, Repr

/-- An entry of a transmit timestamp queue (R468); `stamp` in units of 2^-16 ns. -/
structure TsEntry where
  tsId  : Nat
  mtype : Nat
  seq   : Nat
  stamp : Nat
deriving DecidableEq, Repr

/-- An Ethernet port beyond its page (R422 to R445): the conditions of its link, receive staging, frames to be offered,
the egress queue, the frame in transmission with its transmit timestamp (`none` in `airFrame` while a PAUSE frame is
sent), the PAUSE frame waiting, the pause timer's end, the last pause time sent and since when the peer is paused, the
64-bit octet counters, the RMON counters, the module access under way with its
retries, and the timestamp queue. -/
structure Port where
  los       : Bool := false
  sync      : Bool := false
  anDone    : Bool := false
  fullDuplex : Bool := true
  remote    : Bool := false
  partnerPause : Bool := false
  partnerAsm : Bool := false
  speed     : Nat := 0
  upAt      : Nat := 0
  downAt    : Nat := 0
  openAt    : Nat := 0
  drainAt   : Nat := 0
  resumedAt : Nat := 0
  stopAt    : Nat := 0
  staging   : List Staged := []
  offers    : List Egress := []
  queue     : List Egress := []
  busy      : Bool := false
  airFrame  : Option Egress := none
  airPause  : Option Nat := none
  airStamp  : Nat := 0
  pauseWait : Option Nat := none
  pauseEnd  : Option Nat := none
  pauseSent : Nat := 0
  pauseFrom : Nat := 0
  rxOctets  : Nat := 0
  txOctets  : Nat := 0
  rmon      : Tbl Nat := []
  access    : Option Word := none
  retries   : Nat := 0
  oneStep   : Option OneStep := none
  tsq       : List TsEntry := []
deriving DecidableEq, Repr

/-- A receive fill in progress: the first slot, the number of slots, the pass of each and the item (R492). -/
structure Fill where
  slot  : Nat
  count : Nat
  laps  : List Nat
  item  : Item
deriving DecidableEq, Repr

/-- A ring beyond its page: packets waiting for slots, fills in progress, and the transmit slots held (first slot and
count, R495, R496), with the packets delivered to it (RING_SEQ, R491). -/
structure Ring where
  waiting : List Item := []
  fills   : List Fill := []
  held    : List (Nat × Nat) := []
  seq     : Nat := 0
deriving DecidableEq, Repr

/-- A policer's buckets in 1/1,024 octet, and the time of its previous packet (R347). -/
structure Meter where
  tc : Nat := 0
  tp : Nat := 0
  last : Nat := 0
deriving DecidableEq, Repr

/-! ### Nodes and keys -/

/-- What the chip holds of a node-table entry: the core record (R268), octet 0 in the lowest bits; and whether an offset is held
and a drift sample has been taken, which no value of theirs says (R247). -/
structure NodeCore where
  core : BitVec 256 := 0
  offset  : Bool := false
  sampled : Bool := false
deriving DecidableEq, Repr

/-- A node-table entry: with its extended record (R270), which lies in DDR, octet 0 in the lowest bits. -/
structure Node extends NodeCore where
  ext  : BitVec 1024 := 0
deriving DecidableEq, Repr

/-- A key slot (R370 to R373, R385): the attribute word, the parent word without GEN, GEN, the key material, the
next transmit counter and its durable ceiling, the uses, and whether a ceiling write is under way. -/
structure Slot where
  attr    : BitVec 32 := 0
  parent  : Option (Nat × Nat) := none
  gen     : Nat := 0
  key     : List Byte := []
  txcnt   : Nat := 0
  ceil    : Nat := 0
  uses    : Nat := 0
  writing : Bool := false
deriving DecidableEq, Repr

/-- One dwell run of a logical front end: its channel, the airtime it holds, the end of its last transmission, the DWELL of its
entry, and the T of transmissions that have not ended: 0 for an acknowledgement, else the frame's number plus 1 (R332). -/
structure DwellRun where
  hz      : Nat
  usedNs  : Nat
  lastAt  : Nat
  dwellNs : Nat
  pending : Tbl Nat := []
deriving DecidableEq, Repr

/-- The rates and bursts of a queue's buckets that are in force (R328): a write takes effect at a 1 ms boundary. -/
structure Shaper where
  cir : Nat := 1000000
  cbs : Nat := 100000
  pir : Nat := 1000000
  pbs : Nat := 100000
deriving DecidableEq, Repr

/-- A scheduler beyond its page: the round-robin pointer, the shaper of each queue in force, back-off ends by queue, dwell runs,
blinding charges by millisecond. -/
structure Sched where
  pointer  : Nat := 0
  shapers  : Tbl Shaper := []
  backoff  : Tbl Nat := []
  runs     : List DwellRun := []
  blind    : List (Nat × Nat) := []
deriving DecidableEq, Repr

/-- The duty account of a profile entry (R331): airtime radiated by second, and reservations by frame. -/
structure Duty where
  seconds  : List (Nat × Nat) := []
  reserved : List (Nat × Nat) := []
deriving DecidableEq, Repr

/-- A reassembly context (R314): the source's node index, tag and datagram size, when its time-out started, the
ranges held with the received frames that filled them, and the first fragment's octets with how many octets of the datagram they stand
for, with its MHR addresses. -/
structure Reasm where
  node    : Nat
  tag     : Nat
  size    : Nat
  since   : Nat
  ranges  : List (Nat × Nat)
  frames  : List Nat
  first   : Option (List Byte × Nat) := none
  srcAddr : AirAddr := .none
  dstAddr : AirAddr := .none
  proto   : Item
deriving DecidableEq, Repr

/-- A dissemination window (R566): its logical front end, its start in mesh ticks, whether it is open, and how many of its
symbol frames have been committed. -/
structure Window where
  fe        : Nat
  start     : Nat
  isOpen    : Bool := false
  committed : Nat := 0
deriving DecidableEq, Repr

/-- A campaign beyond its registers (R557 to R570): the mesh time of START, the number of the next nominal window by
front end, the windows planned or open, the next encoding symbol identifier, the end that waits for the last frame, and
whether a FINAL announcement is carried. -/
structure Campaign where
  started  : Nat := 0
  nominal  : Tbl Nat := []
  windows  : List Window := []
  esi      : Nat := 0
  final    : Bool := false
deriving DecidableEq, Repr

/-- A beacon track beyond its registers (R251, R253, R460): the mesh times, in ticks, for which it has sent beacons, and the k and
the next partition of its wake filter. -/
structure Track where
  sent : List Int := []
  k    : Nat := 0
  next : Nat := 0
deriving DecidableEq, Repr

/-- A tracked peer beyond its registers (R254 to R256): what its last Mesh time IE said. -/
structure Peer where
  stratum  : Nat := 15
  priority : Nat := 255
  synced   : Bool := false
deriving DecidableEq, Repr

/-- The device clock (R449 to R461): device time and its advance in units of 2^-32 ns, the increment in effect, mesh
OFFSET in 2^-16 ticks with the part that earlier rates have added, the advance at which the present rate began, at which
the last reference beacon came, at which device time was last steered and at which a step was last accepted; PPS_IN's
last accepted edge by device time and by the advance, whether its loss has been reported; the PPS_OUT pulse and the
advance at its rise, and the greatest device time from which a step went back (R458). -/
structure Clock where
  device   : Nat := 0
  advanced : Nat := 0
  incr     : Nat := 4294967296
  offset   : Int := 0
  rateFrom : Nat := 0
  refAt    : Option Nat := none
  steerAt  : Nat := 0
  stepAt   : Option Nat := none
  ppsStamp : Nat := 0
  ppsLast  : Option Nat := none
  ppsLost  : Bool := false
  pulse    : Bool := false
  pulseAt  : Option Nat := none
  top      : Nat := 0
deriving DecidableEq, Repr

/-! ### The canary, wear and the cairn log -/

/-- A cairn log record on its way to the store (R610): POWERED_S, device time and life cycle at the cause, KIND, FLAGS and
DATA. -/
structure CairnItem where
  powered   : Nat
  devSec    : Nat
  devMs     : Nat
  kind      : Nat
  flags     : Nat
  lifecycle : Nat
  data      : List Nat
deriving DecidableEq, Repr

/-- The cairn log (R609): the records by position as 32 octets, the queue, and the records dropped since the last
LOG_DROPPED record. -/
structure Cairn where
  store   : Tbl (List Nat) := []
  queue   : List CairnItem := []
  dropped : Nat := 0
deriving DecidableEq, Repr

/-- A checkpoint copy (R604): POWERED_S and WEAR[0-15]. -/
structure Checkpoint where
  powered : Nat := 0
  wear    : List Nat := []
deriving DecidableEq, Repr

/-- The wear monitors beyond their registers (R602 to R604): consumption below one unit by monitor, the swing followed by
monitor 13, the two checkpoint copies with which of them is the newer, and powered time below one second in ns. -/
structure Wear where
  acc     : Tbl Nat := []
  seen    : Bool := false
  rising  : Bool := false
  low     : Int := 0
  high    : Int := 0
  copy0   : Checkpoint := {}
  copy1   : Checkpoint := {}
  second  : Bool := false
  part    : Nat := 0
deriving DecidableEq, Repr

/-! ### The root and its operations -/

/-- A valid helper copy (R361): whether ROOT_KCV was taken with the mask, the enrolment count and time, the in-service
blocks, SRAM_OFFSET, the pair map, the two keys that the code offset carries, ROOT_KCV, KCV_S and KCV_D, the helper bits of the two
blocks and of the delay line, and TAG. -/
structure Helper where
  withMask   : Bool
  refresh    : Nat
  enrolledAt : Nat
  block0     : Nat
  block1     : Nat
  offset     : Nat
  pairs      : Nat
  ks         : Nat
  kd         : Nat
  kcv        : Nat
  kcvS       : Nat
  kcvD       : Nat
  sram0      : Nat
  sram1      : Nat
  delay      : Nat
  tag        : Nat
deriving DecidableEq, Repr

/-- The counter journal as flash holds it beyond its ceilings (R386, R532): the SEQ of the next record, the SEQ of each
fingerprint's latest record, the current half, and the records in it. -/
structure JournalLog where
  seq   : Nat := 0
  seqs  : Tbl Nat := []
  half  : Nat := 0
  used  : Nat := 0
deriving DecidableEq, Repr

/-- The PUF sources and the root (R354 to R366): the two helper copies in flash, which blocks and pairs are retired, how
often in succession a pair has disagreed, the offsets used, K_S, K_D and the root while they are held, the mask of the
tamper domain, the OWNER_PIN and VENDOR_PIN fuses, when the trusted lock closes, whether LC.OWNER_PIN has been written, when
PUF_ALARM last latched, the SRAM blocks in service (R360), and the key pair of the DDR cipher in force (R404,
R406), and the counter journal's records in flash. -/
structure Root where
  copy0     : Option Helper := none
  copy1     : Option Helper := none
  blocks    : Nat := 0
  pairs     : Nat := 0
  strikes   : Tbl Nat := []
  offsets   : List Nat := []
  keys      : Option (Nat × Nat) := none
  root      : Option Nat := none
  mask      : Option Nat := none
  ownerPin  : Option Nat := none
  vendorPin : Nat := 0
  trustEnd  : Option Nat := none
  pinSet    : Bool := false
  alarmAt   : Option Nat := none
  serving0  : Nat := 0
  serving1  : Nat := 1
  ddrKey    : List Byte := []
  records   : JournalLog := {}
deriving DecidableEq, Repr

/-- A key operation whose counter reservation is being written (R386): the target slot, what the slot will hold, the
parent with the GEN it had, the fingerprint, and when the operation began. -/
structure KeyOp where
  target : Nat
  next   : Slot
  parent : Option (Nat × Nat)
  finger : Nat
  begun  : Nat
deriving DecidableEq, Repr

/-- Where a self-test of FCRYPTO in RUN stands with the engine whose turn it is (R85): it waits for FCE8, drains while FCE8
serves, runs its vectors, or has passed and FCE8 drains back to RESERVE; or, with the page in TEST, it runs its vectors with nothing
to serve. -/
inductive EnginePhase where
  | waiting | draining | running | returning | still
deriving DecidableEq, Repr

/-- A self-test of FCRYPTO (R85, R416): the engine whose turn it is, its phase, the first that failed, and with the page in TEST the
ENGINE.STATE that the engine returns to. -/
structure EngineTest where
  unit   : Nat := 0
  phase  : EnginePhase := .waiting
  failed : Option Nat := none
  back   : Nat := 0
deriving DecidableEq, Repr

/-- A running CCM or SCIPHER job (R402, R408): the operation, slot and GEN, the key, the parameters at GO, the engine of a
CCM job and whether its paths have disagreed. -/
structure Job where
  op     : Nat
  slot   : Nat
  gen    : Nat
  key    : List Byte
  src    : Nat
  dst    : Nat
  aad    : Nat
  len    : Nat
  tag    : Nat
  nonce  : Nat
  engine : Option Nat := none
  fault  : Bool := false
deriving DecidableEq, Repr

/-- A running PKE operation of the host (R409): the operation, its slot with GEN, the result with its output that will be given, and
whether its message lies in the shared window. -/
structure PkeOp where
  op     : Nat
  slot   : Option (Nat × Nat)
  result : Nat
  out    : List Nat
  window : Bool := false
deriving DecidableEq, Repr

/-! ### Memory integrity -/

/-- A test word (R525): the data last written through the normal path, and the data and check bits flipped since. -/
structure TestWord where
  data  : Nat := 0
  flipD : Nat := 0
  flipC : Nat := 0
deriving DecidableEq, Repr

/-- A host access that waits for its chunk (R521), with the time its stall began. -/
structure Stall where
  chunk  : Nat
  since  : Nat
  access : Bar2
deriving DecidableEq, Repr

/-- An SRAM location that failed again after it was rewritten (R600): its macro, row and column, and when. -/
structure SramSpot where
  macro_ : Nat
  row    : Nat
  col    : Nat
  at_    : Nat
deriving DecidableEq, Repr

/-- An operation of TEST.GO on the DDR test row that waits for the end of self-refresh (R24): OP, OFFSET, DATA and CHECK. -/
structure TestWait where
  op    : Nat
  off   : Nat
  data  : Nat
  check : Nat
deriving DecidableEq, Repr

/-- Memory integrity beyond its registers: test words by target and offset, DDR rows listed for repair and the bank groups
whose repair is used (R517), correctable errors by row and time, SRAM locations that have failed and the repair entries
blown by macro, column or row, and number (R600), the chunks filled, the chunk being filled and the accesses that wait
(R520, R521), when a DDR line was last uncorrectable (R587), and the test operations that wait for DDR (R24). -/
structure MemCheck where
  test    : Tbl TestWord := []
  repair  : List Nat := []
  groups  : List Nat := []
  ceRows  : List (Nat × Nat) := []
  sramBad : List SramSpot := []
  blown   : List (Nat × Bool × Nat) := []
  filled  : List Nat := []
  filling : Option Nat := none
  bases   : List Nat := []
  ueAt    : Option Nat := none
  stalls  : List Stall := []
  tests   : List TestWait := []
deriving DecidableEq, Repr

/-! ### The controller's own firmware -/

/-- An activation record (R533). -/
structure ActRec where
  trial         : Bool := false
  active        : Nat := 0
  inactive      : Nat := 0
  settings      : Nat := 0
  partMap       : Nat := 4
  bootFails     : Nat := 0
  cause         : Nat := 0
  count         : Nat := 0
  activeSeq     : Nat := 0
  inactiveSeq   : Nat := 0
  activeLevel   : Nat := 0
  inactiveLevel : Nat := 0
  elapsed       : Nat := 0
deriving DecidableEq, Repr

/-- A firmware command under way (R540 to R542): its OP, the octets it works on, when it began and, for a live activation,
whether its record has been written. -/
structure FwCmd where
  op       : Nat
  octets   : List Byte
  begun    : Nat
  recorded : Bool := false
deriving DecidableEq, Repr

/-- Firmware beyond its registers: the two activation record copies, the partition locations as octets,
the programmed sectors of the settings copies by sector number, as they decrypt under the root that they were written under, with
that root (R405, R524), the settings copy of the previous set, the command under way, the lanes that run the new microcode and
those that load it, the front ends whose bank is still to be switched, core faults (core and time), when the last hand-over record was
received, the powered seconds of the trial, and a REVERT that waits for the next reset. -/
structure Firmware where
  rec0     : Option ActRec := none
  rec1     : Option ActRec := none
  parts    : Tbl (List Byte) := []
  sectors  : Tbl (List Byte) := []
  roots    : Tbl Nat := []
  back     : Nat := 0
  cmd      : Option FwCmd := none
  newLanes : List Nat := []
  rolling  : List Nat := []
  banks    : List Nat := []
  faults   : List (Nat × Nat) := []
  recordAt : Nat := 0
  trial    : Nat := 0
  revert   : Bool := false
deriving DecidableEq, Repr

/-! ### Rope team -/

/-- The rope unit beyond its registers (R574 to R593): whether ROLE_STRAP made the chip a member, the partner's identity,
role and preference, whether a session key is held, the sequence numbers sent and received, records not yet
acknowledged with their SEQ, the takeover starts by fingerprint, the ceilings of the partner's journal, ceilings being
exchanged, when the partner was lost and whether ceilings may be extended alone (R584), whether the loss found a standby
(R589), when PARTNER_ACT_IN fell and when the own ACT_OUT fell, an attachment as the future active, a forced takeover under
way, and the replay states last sent. -/
structure Rope where
  member    : Bool := false
  partner   : Option Nat := none
  pRole     : Nat := 1
  pPrefer   : Bool := false
  session   : Option (List Byte) := none
  sent      : Nat := 0
  got       : Nat := 0
  unacked   : List (Nat × RopeRec) := []
  starts    : Tbl Nat := []
  theirs    : Tbl Nat := []
  lostAt    : Option Nat := none
  mayExtend : Bool := true
  fellAt    : Option Nat := none
  droppedAt : Option Nat := none
  wasStandby : Bool := false
  attaching : Bool := false
  forcing   : Bool := false
  replays   : Tbl (Nat × Nat) := []
  nonce     : Nat := 0
deriving DecidableEq, Repr

/-! ### The rest -/

/-- A running copy (R482): the direction, the host address, the window offset and the octets to move. -/
structure CopyOp where
  toHost : Bool
  host   : Nat
  win    : Nat
  len    : Nat
deriving DecidableEq, Repr

/-- The start and bivouac sequences beyond their registers: whether POR or a reset is held, whether its release is a POR
release that samples the straps (R38), the time of supplies valid, the base camp strap as sampled, the last forced warm resets (R625), failed DDR trainings, whether this start keeps DDR,
base camp causes that last until the exit (R630), whether PWR_FAIL_N is low, for which a start enters bivouac at RUN (R59), the page
states saved at bivouac entry (R616), the profile image that a bank is being blown with (R141), whether the key mirror of
bivouac entry is complete (R614 step 3), and whether the life-cycle state that this start goes on in is RECOVERY (R390). -/
structure Boot where
  held     : Bool := true
  por      : Bool := true
  validAt  : Nat := 0
  camp     : Bool := false
  loops    : List Nat := []
  trains   : Nat := 0
  keep     : Bool := false
  causes   : Nat := 0
  powerLow : Bool := false
  saved    : Tbl Nat := []
  blowing  : List Byte := []
  mirrored : Bool := false
  recovery : Bool := false
deriving DecidableEq, Repr

end Sys2Proof.Machine
end

