-- ==== Sys2Proof/Machine/State.lean ====
section
/-! DEFINITION. The state of the ZK-4208 as plain data, the reasons a step can stop, and the state after reset.
Register fields are held sparsely: a field not listed holds its reset value (R73 to R75). -/

namespace Sys2Proof.Machine

/-- Reasons the machine stops with a fault. The spec gives every command of the table an effect, so the one fault
is a stop on a command that no sender can form. -/
inductive Fault where
  /-- Raised by the page-head commands for a page number outside the page map of R86; safe. -/
  | noSuchPage
deriving DecidableEq, Repr

/-- Reasons a command has no meaning. -/
inductive Refusal where
  /-- Raised by the dispatch of a command that has no meaning yet; safe. -/
  | notModelled (mnemonic : String)
deriving DecidableEq, Repr

/-- The MSI-X function (R99, R88): enable and masks, the pending-bit array, the running holdoffs with their merged
assertions, the table's address and data words, the vector of the last message, whether the Data Link Layer is up and the
function may master the bus (R481), whether the configuration space answers (R477), and whether PERST_N is known to be low
(R67). -/
structure Msix where
  enabled : Bool := false
  funcMask : Bool := false
  vecMask : BitVec 32 := 0xFFFFFFFF
  pending : BitVec 32 := 0
  holdRun : BitVec 32 := 0
  merged  : BitVec 32 := 0
  table   : Tbl Nat := []
  last    : Option Nat := none
  link    : Bool := false
  master  : Bool := false
  answers : Bool := false
  perstLow : Bool := false
deriving DecidableEq, Repr

/-- The MGMT SPI slave (R91): the transaction under way and what STATUS reports of the previous one. -/
structure Spi where
  active      : Bool := false
  writing     : Bool := false
  rejected    : Bool := false
  unusable    : Bool := false
  partialWord : Bool := false
  sentStatus  : Byte := 0
  reply       : List Word := []
deriving DecidableEq, Repr

/-- The boundary-scan instruction selected (R95). -/
inductive JtagInstr where
  | extest | idcode | samplePreload | clamp | highz | bypass
deriving DecidableEq, Repr

/-- The boundary-scan port (R95). -/
structure Jtag where
  instr    : JtagInstr := .idcode
  boundary : Nat := 0
deriving DecidableEq, Repr

/-- A PLL on demand (R67, R68). -/
inductive PllPhase where
  | off | starting | locked
deriving DecidableEq, Repr

/-- The state of one PLL: its phase and whether a block requests it. -/
structure Pll where
  phase     : PllPhase := .off
  requested : Bool := false
deriving DecidableEq, Repr

/-- The canary's watch beyond its registers: the supply of the tamper domain (R42), whether the crystal has started
(R61), whether REFCLK40_IN is absent (R65), when the ratio was learned or last moved (R64), the rails below their low and
above their high warning thresholds (R51), and a tamper record that waits for the next start (R607). -/
structure Watch where
  tamperOnVbat  : Bool := false
  xoRunning     : Bool := false
  refclkAbsent  : Bool := false
  slewAt        : Nat := 0
  lowRails      : Nat := 0
  highRails     : Nat := 0
  deferred      : List CairnItem := []
deriving DecidableEq, Repr

/-- The I2C1 transaction under way (R94): the command word. -/
structure I2c where
  running : Option Nat := none
deriving DecidableEq, Repr

/-- The state of the controller. -/
structure State where
  /-- The commands that wait, first in, first out. -/
  pending : List Instr
  /-- Time since the model's reset, in nanoseconds. -/
  now     : Nat
  /-- Draws made so far from the free values of Config. -/
  draws   : Nat
  /-- The register fields that do not hold their reset value, by `Field.key`. -/
  regs    : Tbl Nat
  /-- The word the last register read returned. -/
  readData : Word
  msix    : Msix
  /-- The sources acknowledged toward MGMT_EVT_N (R100). -/
  acked   : BitVec 256
  spi     : Spi
  jtag    : Jtag
  plls    : Tbl Pll
  watch   : Watch
  i2c     : I2c
  clock   : Clock
  /-- The next number of a frame, and the dispositions given so far, latest first (R13, R14). -/
  nextFrame : Nat
  ledger  : List (Nat × Disp)
  lanes   : Tbl Lane
  /-- Channels on which a lane was pre-empted, with spacing and time (R169). -/
  preempts : List (Nat × Nat × Nat)
  /-- Faulty lanes without a substitute so far (R187), and the next lane of a LANEPOOL self-test with the first that failed (R189). -/
  laneDebt : List Nat
  poolTest : Option (Nat × Option Nat)
  fes     : Tbl Fe
  relief  : Option Relief
  reliefQueue : List Relief
  /-- The fused profile banks, as octets (R136, R140). -/
  banks   : Tbl (List Byte)
  frames  : Tbl Frame
  scheds  : Tbl Sched
  duty    : Tbl Duty
  /-- The core records of the node table; the extended records lie in `ddr` (R266). -/
  nodes   : Tbl NodeCore
  slots   : Tbl Slot
  /-- The key cache: node, UNWRAP slot and its GEN, the most recently used first (R380). -/
  cache   : List (Nat × Nat × Nat)
  reasm   : Tbl Reasm
  /-- Readers that wait to read a node again (R271). -/
  rereads : List Reader
  /-- DDR by address; an address not listed reads 0 (the fill of R520). -/
  ddr     : List Host.Cell
  /-- The octets the last BAR2 read returned, and whether they came poisoned (R516). -/
  hostData : List Byte
  hostPoison : Bool
  /-- Packets delivered to a class and not yet handed to their ring (R301). -/
  delivered : List Item
  rings   : Tbl Ring
  /-- The notices held, oldest first (R501). -/
  notices : List Nat
  ports   : Tbl Port
  /-- The policers, CLASS[c] as c and UP[p] as 8 + p (R346). -/
  meters  : Tbl Meter
  campaigns : Tbl Campaign
  tracks  : Tbl Track
  peers   : Tbl Peer
  /-- Words latched for the next read on the same route, by route, page and offset (R443, R444, R451, R612). -/
  latched : Tbl Nat
  cairn   : Cairn
  wear    : Wear
  root    : Root
  /-- The counter journal: fingerprint and ceiling (R386). -/
  journal : List (Nat × Nat)
  keyOp   : Option KeyOp
  ccmJob  : Option Job
  sciJob  : Option Job
  pkeOp   : Option PkeOp
  /-- Mismatch times of the frame cipher engines (R400), the engines with a check outstanding, and a self-test of the engines
  in service (R85). -/
  engineFaults : Tbl (List Nat)
  engineChecks : List Nat
  engineTest : Option EngineTest
  mem     : MemCheck
  fw      : Firmware
  rope    : Rope
  copy    : Option CopyOp
  boot    : Boot
deriving DecidableEq, Repr

/-- The machine right after reset: held at an always-on power-on, with no rail good (R53, R54). DEDUCED (log entry 16): VBAT_TAMPER
then supplies the tamper domain (R42, R53). -/
def State.reset : State where
  pending := []
  now := 0
  draws := 0
  regs := []
  readData := 0
  msix := {}
  acked := 0
  spi := {}
  jtag := {}
  plls := []
  watch := { tamperOnVbat := true }
  i2c := {}
  clock := {}
  nextFrame := 0
  ledger := []
  lanes := []
  preempts := []
  laneDebt := []
  poolTest := none
  fes := []
  relief := none
  reliefQueue := []
  banks := []
  frames := []
  scheds := []
  duty := []
  nodes := []
  slots := []
  cache := []
  reasm := []
  rereads := []
  ddr := []
  hostData := []
  hostPoison := false
  delivered := []
  rings := []
  notices := []
  ports := []
  meters := []
  campaigns := []
  tracks := []
  peers := []
  latched := []
  cairn := {}
  wear := {}
  root := {}
  journal := []
  keyOp := none
  ccmJob := none
  sciJob := none
  pkeOp := none
  engineFaults := []
  engineChecks := []
  engineTest := none
  mem := {}
  fw := {}
  rope := {}
  copy := none
  boot := {}

end Sys2Proof.Machine
end

