-- ==== Sys2Proof/Machine/Ops.lean ====
section
/-! DEFINITION. The named operations over sparse tables and register fields, the page head (R73 to R84), and the
event path (R96 to R101). Every later meaning is written over them. -/

namespace Sys2Proof.Machine

/-! ### Sparse tables -/

/-- The entry at `k`, if listed. -/
def find {α : Type} : Tbl α → Nat → Option α
  | [], _ => none
  | (k, v) :: r, x => if x = k then some v else find r x

/-- The entry at `k`, or the default. -/
def look {α : Type} (t : Tbl α) (k : Nat) (d : α) : α := (find t k).getD d

/-- `t` with `v` at `k`, keys kept rising. -/
def insert {α : Type} : Tbl α → Nat → α → Tbl α
  | [], x, w => [(x, w)]
  | (k, v) :: r, x, w =>
    if x < k then (x, w) :: (k, v) :: r
    else if x = k then (x, w) :: r
    else (k, v) :: insert r x w

/-- `t` without the entry at `k`. -/
def erase {α : Type} : Tbl α → Nat → Tbl α
  | [], _ => []
  | (k, v) :: r, x => if x = k then erase r x else (k, v) :: erase r x

/-- Every entry changed by `f`. -/
def mapTbl {α : Type} (f : Nat → α → α) : Tbl α → Tbl α
  | [] => []
  | (k, v) :: r => (k, f k v) :: mapTbl f r

/-! ### Register fields -/

/-- The value a field holds (R75). -/
def rd (f : Field) (s : State) : Nat := look s.regs f.key f.reset

/-- `s` with field `f` holding `v`, cut to the field's width. A value equal to the reset value is not listed. -/
def wr (f : Field) (v : Nat) (s : State) : State :=
  { s with regs :=
      if v % 2 ^ f.width = f.reset then erase s.regs f.key else insert s.regs f.key (v % 2 ^ f.width) }

/-- A one-bit field as a truth value. -/
def isSet (f : Field) (s : State) : Bool := rd f s != 0

/-- Writes a truth value to a one-bit field. -/
def wrBool (f : Field) (b : Bool) (s : State) : State := wr f (if b then 1 else 0) s

/-- A counter's increment, wrapping at its width. -/
def inc (f : Field) (s : State) : State := wr f (rd f s + 1) s

/-- A counter's advance by `n`, wrapping at its width. -/
def incBy (f : Field) (n : Nat) (s : State) : State := wr f (rd f s + n) s

/-- A counter's increment, saturating at its width. -/
def incSat (f : Field) (s : State) : State := wr f (min (rd f s + 1) (2 ^ f.width - 1)) s

/-- Raises a peak field to `v` if `v` is higher. -/
def peak (f : Field) (v : Nat) (s : State) : State := wr f (max (rd f s) v) s

/-- Sets bits of a field. -/
def orBits (f : Field) (m : Nat) (s : State) : State := wr f (rd f s ||| m) s

/-- Clears bits of a field. -/
def clearBits (f : Field) (m : Nat) (s : State) : State := wr f (rd f s - (rd f s &&& m)) s

/-- A signed value as a field of width `w` holds it. -/
def ofInt (w : Nat) (v : Int) : Nat := (v % (2 ^ w : Int)).toNat

/-- The signed value of a field of width `w`. -/
def toInt (w : Nat) (v : Nat) : Int := if 2 * v < 2 ^ w then v else (v : Int) - 2 ^ w

/-- The signed value a field holds. -/
def rdInt (f : Field) (s : State) : Int := toInt f.width (rd f s)

/-- Writes a signed value. -/
def wrInt (f : Field) (v : Int) (s : State) : State := wr f (ofInt f.width v) s

/-- A signed value kept within `lo` and `hi`. -/
def clamp (lo hi v : Int) : Int := max lo (min hi v)

/-- The number of the next free draw; the counter advances. -/
def draw (s : State) : Nat × State := (s.draws, { s with draws := s.draws + 1 })

/-! ### Pages (R80, R81) -/

/-- STATE.STATE values of R80. -/
def OFF : Nat := 0
/-- R80. -/
def STARTING : Nat := 1
/-- R80. -/
def RUN : Nat := 2
/-- R80. -/
def DRAINING : Nat := 3
/-- R80. -/
def STOPPED : Nat := 4
/-- R80. -/
def TEST : Nat := 5
/-- R80. -/
def FAULT : Nat := 6
/-- R80. -/
def RETIRED : Nat := 7

/-- STATE.STATE of a page. -/
def pageState (pg : Nat) (s : State) : Nat := rd (F.HEAD.STATE_STATE pg) s

/-! ### The event path -/

/-- The pages of an event group (R86). -/
def groupPages (g : Nat) : List Nat :=
  match g with
  | 0 => [0x01, 0x02, 0x03, 0x06]
  | 1 => [0x08, 0x09, 0x0A, 0x0B, 0x0C, 0x0D]
  | 2 => [0x10, 0x11, 0x12, 0x13, 0x14, 0x18]
  | 3 => [0x19, 0x1A, 0x1B, 0x20]
  | 4 => [0x21, 0x22, 0x24, 0x25, 0x26, 0x27, 0x28, 0x29]
  | 5 => [0x30, 0x31, 0x32, 0x33]
  | 6 => [0x38, 0x39, 0x3A, 0x3B, 0x3C, 0x3D]
  | _ => [0x00, 0x04, 0x05, 0x40, 0x41, 0x42, 0x44, 0x45, 0x46, 0x48, 0x4A, 0x4C, 0x4E]

/-- Whether a page bit is latched and forwarded (R98). -/
def bitAsserted (pg bit : Nat) (s : State) : Bool :=
  (rd (F.HEAD.EVT_LATCH pg) s).testBit bit && (rd (F.HEAD.EVT_MASK pg) s).testBit bit

/-- Whether an aggregator source is asserted (R98). -/
def srcAsserted (src : Nat) (s : State) : Bool :=
  if 29 ≤ src % 32 then (groupPages (src / 32)).any (fun pg => bitAsserted pg (src % 32) s)
  else sourceTable.any (fun r =>
    r.src ≤ src && src < r.src + r.count && bitAsserted (r.page + (src - r.src)) r.bit s)

/-- The vector a source signals: its ROUTE.VECTOR while it is asserted and TO_MSIX is 1 (R99). -/
def reachVec (src : Nat) (s : State) : Option Nat :=
  if srcAsserted src s && isSet (F.EVT.ROUTE_TO_MSIX src) s then some (rd (F.EVT.ROUTE_VECTOR src) s) else none

/-- VEC_STATUS bit `v` (R102). -/
def vecStatus (v : Nat) (s : State) : Bool := (List.range 256).any (fun src => reachVec src s == some v)

/-- One MSI-X message for vector `v`: counted, and the vector's holdoff starts (R99). DESIGN CHOICE (log entry 11): bits that one
command latches one after the other assert in successive cycles, and only those of one latching assert in the same cycle. -/
def sendMsix (v : Nat) (s : State) : State :=
  let s := inc F.EVT.MSG_COUNT s
  { s with msix := { s.msix with
      last := some v
      pending := s.msix.pending &&& ~~~(1#32 <<< v)
      merged := s.msix.merged &&& ~~~(1#32 <<< v)
      holdRun := if rd (F.EVT.HOLDOFF v) s = 0 then s.msix.holdRun else s.msix.holdRun ||| (1#32 <<< v) } }

/-- Whether vector `v` is masked, by itself or with the function (R99), or as if masked while the link is down or Bus Master
Enable is 0 (R481). -/
def vecMasked (v : Nat) (s : State) : Bool :=
  s.msix.funcMask || s.msix.vecMask.getLsbD v || !s.msix.link || !s.msix.master

/-- An assertion for vector `v` (R99): nothing while MSI-X is disabled, the pending bit while it is masked, merged
while its holdoff runs, else a message. -/
def assertVec (v : Nat) (s : State) : State :=
  if !s.msix.enabled then s
  else if vecMasked v s then { s with msix := { s.msix with pending := s.msix.pending ||| (1#32 <<< v) } }
  else if s.msix.holdRun.getLsbD v then { s with msix := { s.msix with merged := s.msix.merged ||| (1#32 <<< v) } }
  else sendMsix v s

/-- Clears the pending bits of the vectors in `vs` whose VEC_STATUS bit has fallen to 0 (R99). -/
def dropPending (vs : List Nat) (s : State) : State :=
  vs.foldl (fun s v =>
    if s.msix.pending.getLsbD v && !vecStatus v s then
      { s with msix := { s.msix with pending := s.msix.pending &&& ~~~(1#32 <<< v) } }
    else s) s

/-- What follows a change of latches, masks or routes from `old` to `s` for the sources in `srcs`: one assertion for
each vector newly reached (R99), the acknowledgement of a source that has deasserted ends (R100), and the pending
bits follow VEC_STATUS. -/
def settle (srcs : List Nat) (old s : State) : State :=
  let fresh := (srcs.filterMap (fun src => if reachVec src s = reachVec src old then none else reachVec src s)).eraseDups
  let left := (srcs.filterMap (fun src => if reachVec src s = reachVec src old then none else reachVec src old)).eraseDups
  let gone := srcs.filter (fun src => !srcAsserted src s)
  let s := { s with acked := gone.foldl (fun a src => a &&& ~~~(1#256 <<< src)) s.acked }
  dropPending left (fresh.foldl (fun s v => assertVec v s) s)

/-- The sources of the bits of a page. -/
def pageSources (pg : Nat) : List Nat := (List.range 32).filterMap (fun b => sourceOf pg b)

/-- Latches bits of a page (R96), with what follows in the aggregator. -/
def latchBits (pg m : Nat) (s : State) : State :=
  settle ((List.range 32).filterMap (fun b => if m.testBit b then sourceOf pg b else none)) s
    (orBits (F.HEAD.EVT_LATCH pg) m s)

/-- Latches one bit of a page: an occurrence (R96). -/
def latch (pg bit : Nat) (s : State) : State :=
  settle (sourceOf pg bit).toList s (orBits (F.HEAD.EVT_LATCH pg) (2 ^ bit) s)

/-- Raises a condition that is a level: EVT_RAW shows it, and the bit latches (R96). -/
def raise (pg bit : Nat) (s : State) : State :=
  latch pg bit (orBits (F.HEAD.EVT_RAW pg) (2 ^ bit) s)

/-- Ends a level condition: EVT_RAW falls, and the latch stays (R96). -/
def lower (pg bit : Nat) (s : State) : State := clearBits (F.HEAD.EVT_RAW pg) (2 ^ bit) s

/-- Whether a level condition is active. -/
def rawSet (pg bit : Nat) (s : State) : Bool := (rd (F.HEAD.EVT_RAW pg) s).testBit bit

/-- Clears latched bits of a page; a bit whose condition persists stays (R96). -/
def clearLatch (pg m : Nat) (s : State) : State :=
  let m := m - (m &&& rd (F.HEAD.EVT_RAW pg) s)
  settle (pageSources pg) s (clearBits (F.HEAD.EVT_LATCH pg) m s)

/-- The level on EVT_N: driven low while an asserted source has TO_EVT_N = 1 (R100), and released while a reset is held
(R34). -/
def evtNLow (s : State) : Bool :=
  !s.boot.held && (List.range 256).any (fun src => srcAsserted src s && isSet (F.EVT.ROUTE_TO_EVT_N src) s)

/-- MGMT_PEND of a source: asserted, routed and not acknowledged (R100). -/
def mgmtPend (src : Nat) (s : State) : Bool :=
  srcAsserted src s && (rd (F.EVT.MGMT_ROUTE (src / 32)) s).testBit (src % 32) && !s.acked.getLsbD src

/-- The level on MGMT_EVT_N: driven low while any bit of MGMT_PEND is 1 (R100), and released while a reset is held (R34). -/
def mgmtEvtNLow (s : State) : Bool := !s.boot.held && (List.range 256).any (fun src => mgmtPend src s)

/-! ### The page head -/

/-- Moves a page to a state; the STATE event latches on a change (R97). -/
def setPageState (pg v : Nat) (s : State) : State :=
  if pageState pg s = v then s else latch pg 29 (wr (F.HEAD.STATE_STATE pg) v s)

/-- Sets TEST_STATUS.RESULT; the STATE event latches on a change to a value of 3 or more (R97). -/
def setTestResult (pg v : Nat) (s : State) : State :=
  if rd (F.HEAD.TEST_STATUS_RESULT pg) s = v then s
  else
    let s := wr (F.HEAD.TEST_STATUS_RESULT pg) v s
    if 3 ≤ v then latch pg 29 s else s

/-- The rejection reasons of R76, in the order in which the first that applies is recorded. -/
inductive Reason where
  | range | reservedBit | locked | state | route | partialEnables | action
deriving DecidableEq, Repr

/-- REJECT_ADDR.REASON codes (R76). -/
def Reason.code : Reason → Nat
  | .range => 1
  | .reservedBit => 2
  | .locked => 3
  | .state => 4
  | .route => 5
  | .partialEnables => 6
  | .action => 7

/-- REJECT_ADDR.ROUTE codes (R73). -/
def routeCode : Route → Nat
  | .bar0 => 0
  | .mgmtSpi => 1

/-- Records a rejected write (R76): REJECT_ADDR and REJECT_DATA take it, REJECT_COUNT advances, bit 31 latches. A
write rejected over MGMT SPI is also what STATUS reports (R91). -/
def reject (pg off : Nat) (route : Route) (why : Reason) (data : Word) (s : State) : State :=
  let s := wr (F.HEAD.REJECT_ADDR_OFFSET pg) off s
  let s := wr (F.HEAD.REJECT_ADDR_REASON pg) why.code s
  let s := wr (F.HEAD.REJECT_ADDR_ROUTE pg) (routeCode route) s
  let s := wr (F.HEAD.REJECT_DATA pg) data.toNat s
  let s := incSat (F.HEAD.REJECT_COUNT pg) s
  let s := latch pg 31 s
  match route with
  | .bar0 => s
  | .mgmtSpi => { s with spi := { s.spi with rejected := true } }

/-- A parity error in a page's configuration registers or working state (R73, R97). -/
def parityError (pg : Nat) (work : Bool) (s : State) : State :=
  latch pg 30 (wr (if work then F.HEAD.PARITY_STATUS_WORK pg else F.HEAD.PARITY_STATUS_CONFIG pg) 1 s)

end Sys2Proof.Machine
end

