-- ==== Sys2Proof/Machine/Phy.lean ====
section
/-! DEFINITION. Device and mesh time (R449 to R459), the PHY mode codes and airtimes (R194 to R197), powers, the
regulatory profile (R136 to R140), and the disposition ledger (R13, R14). -/

namespace Sys2Proof.Machine

/-! ### Time -/

/-- Device time in whole nanoseconds (R449). -/
def deviceNs (s : State) : Nat := s.clock.device / 2 ^ 32

/-- The advance of device time since reset in nanoseconds: the count that steps do not touch (R453). -/
def advNs (s : State) : Nat := s.clock.advanced / 2 ^ 32

/-- Milliseconds by the advance of R453. -/
def advMs (s : State) : Nat := advNs s / 1000000

/-- Seconds by the advance of R453. -/
def advSec (s : State) : Nat := advNs s / 1000000000

/-- Lane record time: device time in microseconds, 32 bits (R181). -/
def deviceUs (s : State) : Nat := deviceNs s / 1000 % 2 ^ 32

/-- Mesh time in units of 2^-16 tick (R459). -/
def meshFine (s : State) : Int :=
  let d := deviceNs s
  let run : Nat := advNs s - s.clock.rateFrom
  (d * 2 ^ 31 / 1000000000 : Nat) + (run : Int) * 2 ^ 31 * rdInt F.TIME.MESH_RATE_PPB s / 1000000000 / 1000000000 +
    s.clock.offset

/-- Mesh time in ticks, 64 bits (R459). -/
def meshTicks (s : State) : Nat := (meshFine s / 2 ^ 16 % 2 ^ 64).toNat

/-- The low 32 bits of mesh time (R235, R270). -/
def meshLow (s : State) : Nat := meshTicks s % 2 ^ 32

/-- The `bits`-bit tick value `v` extended as the value nearest mesh time `m`, the later one when two are equally near
(R258). -/
def extendTicks (bits v : Nat) (m : Int) : Int :=
  let base := m - m % 2 ^ bits + (v % 2 ^ bits : Nat)
  let half : Int := 2 ^ (bits - 1)
  if m + half < base then base - 2 ^ bits
  else if base + half ≤ m then base + 2 ^ bits
  else base

/-! ### PHY modes -/

/-- The families of R194. -/
inductive Family where
  | fsk2 | fsk4 | ofdm | oqpsk
deriving DecidableEq, Repr

/-- The family of a mode code; none for a code outside the tables of R194. -/
def modeFamily (m : Nat) : Option Family :=
  if 0x10 ≤ m ∧ m ≤ 0x19 then some .fsk2
  else if m ∈ [0x22, 0x23, 0x26, 0x27, 0x28, 0x29] then some .fsk4
  else if (0x40 ≤ m ∧ m ≤ 0x43) ∨ (0x48 ≤ m ∧ m ≤ 0x4D) ∨ (0x51 ≤ m ∧ m ≤ 0x56) ∨ (0x5A ≤ m ∧ m ≤ 0x5E) then some .ofdm
  else if m = 0x60 then some .oqpsk
  else none

/-- The band a mode is defined for (R195). -/
def modeBand (m : Nat) : Nat := if m = 0x60 then 1 else 0

/-- Whether a mode is defined for a band (R195). -/
def modeInBand (m band : Nat) : Bool := (modeFamily m).isSome && modeBand m == band

/-- Whether a mode is SUN FSK. -/
def isFsk (m : Nat) : Bool := modeFamily m == some .fsk2 || modeFamily m == some .fsk4

/-- The bit rate of a SUN FSK mode in kb/s (R194). -/
def fskRate (m : Nat) : Nat := [50, 100, 150, 200, 300].getD (m % 16 / 2) 50

/-- The option (1 to 4) of an OFDM mode. -/
def ofdmOption (m : Nat) : Nat := (m - 0x40) / 8 + 1

/-- The MCS of an OFDM mode. -/
def ofdmMcs (m : Nat) : Nat := m % 8

/-- The valid MCS of an OFDM option (R194). -/
def ofdmMcsValid (opt mcs : Nat) : Bool :=
  match opt with
  | 1 => mcs ≤ 3
  | 2 => mcs ≤ 5
  | 3 => 1 ≤ mcs && mcs ≤ 6
  | _ => 2 ≤ mcs && mcs ≤ 6

/-- N_DBPS of an OFDM mode (R194). -/
def nDbps (m : Nat) : Nat :=
  match ofdmOption m with
  | 1 => [12, 24, 48, 96].getD (ofdmMcs m) 12
  | 2 => [6, 12, 24, 48, 72, 96].getD (ofdmMcs m) 6
  | 3 => [0, 6, 12, 24, 36, 48, 72].getD (ofdmMcs m) 6
  | _ => [0, 0, 6, 12, 18, 24, 36].getD (ofdmMcs m) 6

/-- N_PHR of an OFDM mode (R197). -/
def nPhr (m : Nat) : Nat := if ofdmOption m = 1 then 3 else 6

/-- The airtime in nanoseconds of a frame with preamble `p`, sync length `sy` and PSDU length `l` in octets
(R197). -/
def airNs (m p sy l : Nat) (coded : Bool) : Nat :=
  match modeFamily m with
  | some .ofdm => (6 + nPhr m + (8 * l + 6 + nDbps m - 1) / nDbps m) * 120000
  | some .oqpsk => (p + 2 + l) * 32000
  | some _ =>
    if coded then (8 * (p + sy) + 16 * (3 + l)) * 1000000 / fskRate m
    else (p + sy + 2 + l) * 8000000 / fskRate m
  | none => 0

/-- The SFD of SUN FSK for phySunFskSfd = `set`, the first bit on air in bit 0 (R200). The values are those of IEEE 802.15.4-2020,
which the specification refers to and does not print (PRESUMED, log entry 42). -/
def sfdWord (set : Nat) (coded : Bool) : Nat :=
  match set, coded with
  | 0, false => 0x7209
  | 0, true => 0x72F6
  | _, false => 0x705E
  | _, true => 0xB4C6

/-- How many of the low `n` bits of two words differ. -/
def bitsApart (n a b : Nat) : Nat := ((List.range n).filter (fun k => a.testBit k != b.testBit k)).length

/-- The duration in nanoseconds of the sync word of the FSK family, the LTF of OFDM or the SFD of O-QPSK (R197, R212). -/
def syncNs (m : Nat) (ext : Bool) : Nat :=
  match modeFamily m with
  | some .ofdm => 240000
  | some .oqpsk => 32000
  | some _ => (if ext then 32 else 16) * 1000000 / fskRate m
  | none => 0

/-- What precedes the PHR of a frame, in nanoseconds (R197, R212): the preamble of `p` octets and the sync word, the training
fields of OFDM, or the SFD of O-QPSK. -/
def headNs (m p : Nat) (ext : Bool) : Nat :=
  match modeFamily m with
  | some .ofdm => 720000
  | some .oqpsk => (p + 1) * 32000
  | some _ => (p + (if ext then 4 else 2)) * 8000000 / fskRate m
  | none => 0

/-- The airtime in nanoseconds of a PSDU of `l` octets (R197). -/
def psduNs (m l : Nat) (coded : Bool) : Nat :=
  match modeFamily m with
  | some .ofdm => ((8 * l + 6 + nDbps m - 1) / nDbps m) * 120000
  | some .oqpsk => l * 32000
  | some _ => (if coded then 16 else 8) * l * 1000000 / fskRate m
  | none => 0

/-- The air time of one preamble octet, in nanoseconds (R246). -/
def octetNs (m : Nat) : Nat :=
  match modeFamily m with
  | some .oqpsk => 32000
  | some .ofdm => 120000
  | some _ => 8000000 / fskRate m
  | none => 1

/-- The longest PSDU of a mode, in octets (R207, R209, R212). -/
def maxPsdu (m : Nat) : Nat := if m = 0x60 then 127 else 2047

/-- The FCS length of a frame (R206), with `fcs2` what its PHR or, for OFDM, the setting that it was bound or sent with
says. -/
def fcsOctets (m : Nat) (fcs2 : Bool) : Nat := if modeFamily m = some .oqpsk ∨ fcs2 then 2 else 4

/-- The FCS length of a frame to be sent (R206), with `fcs2` the FCS type of a SUN FSK frame. -/
def fcsLen (m : Nat) (fcs2 : Bool) (s : State) : Nat :=
  fcsOctets m (if modeFamily m = some .ofdm then isSet F.PHY.OFDM_CFG_FCS_2 s else fcs2)

/-- The MIC length of a security level (R229). -/
def micLen (level : Nat) : Nat :=
  match level with
  | 5 => 4
  | 6 => 8
  | 7 => 16
  | _ => 0

/-- The sensitivity of R147 in dBm that LQI refers to (R221): the table's value for either modulation index, of which R147 says
that it lies within 1 dB (DESIGN CHOICE, log entry 25). -/
def sensitivity (m : Nat) (coded : Bool) : Int :=
  match modeFamily m with
  | some .fsk2 => [-112, -109, -107, -106, -103].getD (m % 16 / 2) (-112) - (if coded then 3 else 0)
  | some .fsk4 => [0, -105, 0, -102, -100].getD (m % 16 / 2) (-105) - (if coded then 3 else 0)
  | some .ofdm =>
    match ofdmOption m with
    | 1 => [-103, -100, -96, -92].getD (ofdmMcs m) (-103)
    | 2 => [-106, -103, -100, -96, -93, -91].getD (ofdmMcs m) (-106)
    | 3 => [0, -108, -105, -101, -99, -97, -94].getD (ofdmMcs m) (-108)
    | _ => [0, 0, -110, -107, -105, -103, -100].getD (ofdmMcs m) (-110)
  | _ => -101

/-- LQI (R221) from an RSSI in 0.5 dB units. -/
def lqi (m : Nat) (coded : Bool) (rssi : Int) : Nat :=
  (clamp 0 255 (2 * rssi - 4 * sensitivity m coded)).toNat

/-! ### Powers -/

/-- 10^(k/80) in units of 10^-12, rounded, for k from 0 to 79. -/
def powerTable : List Nat :=
  [1000000000000, 1029200527194, 1059253725177, 1090184492385, 1122018454302, 1154781984689,
   1188502227437, 1223207119050, 1258925411794, 1295686697517, 1333521432163, 1372460961008,
   1412537544623, 1453784385608, 1496235656094, 1539926526059, 1584893192461, 1631172909228,
   1678804018123, 1727825980508, 1778279410039, 1830206106311, 1883649089490, 1938652635952,
   1995262314969, 2053525026457, 2113489039837, 2175204034020, 2238721138568, 2304092976056,
   2371373705662, 2440619068042, 2511886431510, 2585234839562, 2660725059799, 2738419634264,
   2818382931264, 2900681198693, 2985382618918, 3072557365267, 3162277660168, 3254617834980,
   3349654391578, 3447466065731, 3548133892336, 3651741272548, 3758374042884, 3868120546331,
   3981071705535, 4097321098135, 4216965034286, 4340102636447, 4466835921510, 4597269885309,
   4731512589615, 4869675251659, 5011872336273, 5158221650723, 5308844442310, 5463865498819,
   5623413251903, 5787619883491, 5956621435290, 6130557921498, 6309573444802, 6493816315762,
   6683439175686, 6878599123088, 7079457843841, 7286181745132, 7498942093325, 7717915155850,
   7943282347243, 8175230379437, 8413951416452, 8659643233601, 8912509381337, 9172759353898,
   9440608762859, 9716279515771]

/-- A power given in 0.125 dB units re 1 mW, as a linear number in units of 10^-52 mW, to 12 places; the units are
the same for every power the model compares or adds. -/
def linear (v : Int) : Nat :=
  let k := (v + 3200).toNat
  powerTable.getD (k % 80) 0 * 10 ^ (k / 80)

/-- The power sum of values in 0.5 dB units (R154, R157). -/
def powerSum (vs : List Int) : Nat := (vs.map (fun v => linear (4 * v))).foldl (· + ·) 0

/-- The assay summary's encoding of a linear power (R222): the 0.25 dB step nearest in dB, from 1 to 255. -/
def encodeAssay (p : Nat) : Nat :=
  1 + ((List.range 254).filter (fun i => linear (8 * (-120) + 2 * ((i : Int) + 2) - 1) ≤ p)).length

/-- The assay summary after a frame of the given RSSI in 0.5 dB (R222). -/
def nextAssay (old : Nat) (rssi : Int) : Nat :=
  if old = 0 then (clamp 1 255 (2 * rssi + 480)).toNat
  else encodeAssay ((7 * linear (8 * (-120) + 2 * (old : Int)) + linear (4 * rssi)) / 8)

/-! ### The regulatory profile -/

/-- One bit step of the reflected CRC-32 of R136. -/
def crcStep (c : Nat) : Nat := if c % 2 = 1 then (c / 2) ^^^ 0xEDB88320 else c / 2

/-- The CRC-32 of R136 over octets. -/
def crc32 (bs : List Nat) : Nat :=
  (bs.foldl (fun c b => crcStep (crcStep (crcStep (crcStep (crcStep (crcStep (crcStep (crcStep (c ^^^ b)))))))))
    0xFFFFFFFF) ^^^ 0xFFFFFFFF

/-- A little-endian number from octets. -/
def leNat : List Nat → Nat
  | [] => 0
  | b :: r => b + 256 * leNat r

/-- `n` octets of `v`, least significant first. -/
def octetsOf : Nat → Nat → List Nat
  | 0, _ => []
  | n + 1, v => v % 256 :: octetsOf n (v / 256)

/-- A little-endian number from bytes. -/
def leBytes (bs : List Byte) : Nat := leNat (bs.map BitVec.toNat)

/-- `n` bytes of a number, least significant first. -/
def bytesLe (n v : Nat) : List Byte := (octetsOf n v).map (BitVec.ofNat 8)

/-- A big-endian number from bytes. -/
def beBytes (bs : List Byte) : Nat := leBytes bs.reverse

/-- `n` bytes of a number, most significant first. -/
def bytesBe (n v : Nat) : List Byte := (bytesLe n v).reverse

/-- `n` octets at octet `o` of a frame as a big-endian number. -/
def netNum (b : List Byte) (o n : Nat) : Nat := beBytes ((b.drop o).take n)

/-- A field of `n` octets at octet `o` of an image. -/
def imageField (img : List Nat) (o n : Nat) : Nat := leNat ((img.drop o).take n)

/-- A field of the active profile's entry `e` (R137), read from REGLOCK.PROFILE. -/
def entryField (e o n : Nat) (s : State) : Nat :=
  let a := 16 + 48 * e + o
  leNat ((List.range n).map (fun i => rd (F.REGLOCK.PROFILE ((a + i) / 4)) s / 256 ^ ((a + i) % 4) % 256))

/-- Whether entry `e` permits a transmission at `hz` in `band` (R138). -/
def entryPermits (e hz band : Nat) (s : State) : Bool :=
  let khz := hz / 1000
  let flags := entryField e 14 2 s / 256
  let lo := entryField e 0 4 s
  let hi := entryField e 4 4 s
  let ch0 := entryField e 8 4 s
  let sp := entryField e 12 2 s
  let c := (khz - ch0) / sp
  e < rd (F.REGLOCK.PROFILE 1) s / 256 % 256 && flags % 2 == 1 && flags / 4 % 2 == band && hz % 1000 == 0 && ch0 ≤ khz && sp ≠ 0 &&
    (khz - ch0) % sp == 0 && c < entryField e 14 1 s && (entryField e 32 16 s).testBit c &&
    2 * lo + sp ≤ 2 * khz && 2 * khz + sp ≤ 2 * hi

/-- The permitting entry of R138, if any. -/
def permittingEntry (hz band : Nat) (s : State) : Option Nat :=
  if isSet F.REGLOCK.STATUS_VALID s then (List.range 16).find? (fun e => entryPermits e hz band s) else none

/-- DWELL of an entry in nanoseconds; 0 means no limit (R137). -/
def entryDwellNs (e : Nat) (s : State) : Nat := entryField e 28 2 s * 1000000

/-- The duty allowance of an entry in nanoseconds; none without a duty ceiling (R331). -/
def dutyAllow (e : Nat) (s : State) : Option Nat :=
  if entryField e 20 2 s = 1000 then none
  else some (entryField e 20 2 s * entryField e 22 2 s * 1000000)

/-- Whether an image of 784 octets passes the checks of R140: header, CRC, and ranges of every field. -/
def entryValid (img : List Nat) (e : Nat) : Bool :=
  let f := fun o n => imageField img (16 + 48 * e + o) n
  let sig := fun (w v : Nat) => toInt w v
  let flags := f 15 1
  let band := flags / 4 % 2
  flags / 16 == 0 && f 25 1 == 0 && f 30 2 == 0 &&
    (flags % 2 == 0 ||
      (f 0 4 < f 4 4 && (if band = 0 then 410000 ≤ f 0 4 && f 4 4 ≤ 960000 else 2400000 ≤ f 0 4 && f 4 4 ≤ 2483500) &&
        1 ≤ f 12 2 && 1 ≤ f 14 1 && f 14 1 ≤ 128 &&
        -160 ≤ sig 16 (f 16 2) && sig 16 (f 16 2) ≤ 144 && -80 ≤ sig 16 (f 18 2) && sig 16 (f 18 2) ≤ 160 &&
        1 ≤ f 20 2 && f 20 2 ≤ 1000 && 1 ≤ f 22 2 && f 22 2 ≤ 3600 &&
        sig 8 (f 24 1) ≤ -40))

/-- The whole check of R140 on an image. -/
def imageValid (img : List Nat) : Bool :=
  img.length == 784 && imageField img 0 4 == 0x47524B5A && imageField img 4 1 == 1 &&
    1 ≤ imageField img 5 1 && imageField img 5 1 ≤ 16 &&
    imageField img 12 4 == crc32 (img.take 12 ++ img.drop 16) &&
    (List.range 16).all (fun e =>
      if e < imageField img 5 1 then entryValid img e
      else (img.drop (16 + 48 * e)).take 48 == List.replicate 48 0)

/-! ### The ledger -/

/-- Records the one disposition of a frame (R14). -/
def close (id : Nat) (d : Disp) (s : State) : State := { s with ledger := (id, d) :: s.ledger }

/-- Records one disposition for the frames that share it (R30). -/
def closeAll (ids : List Nat) (d : Disp) (s : State) : State := ids.foldl (fun s i => close i d s) s

/-- A fresh frame number. -/
def newFrame (s : State) : Nat × State := (s.nextFrame, { s with nextFrame := s.nextFrame + 1 })

end Sys2Proof.Machine
end

