-- ==== Sys2Proof/Machine/Aes.lean ====
section
/-! DEFINITION. AES and the modes that the spec names: CMAC (R361, R367), CCM* (R229, R403), key wrap (R379), XTS (R404, R405,
R408), CBC, CTR and CFB-128 (R408). PRESUMED (log entry 48): the spec names FIPS 197, SP 800-38B, RFC 3610, RFC 3394 and
IEEE 1619 and does not restate them. A block is a list of 16 octets as numbers; a text stands as a number, the first octet lowest,
where its length is known beside it. -/

namespace Sys2Proof.Machine

/-! ### The block cipher -/

/-- Multiplication by x in GF(2^8). -/
def xtime (a : Nat) : Nat := if a < 128 then 2 * a else (2 * a) ^^^ 0x11B

/-- Multiplication in GF(2^8). -/
def gfMul (a b : Nat) : Nat :=
  ((List.range 8).foldl (fun (x : Nat × Nat) i => (if b.testBit i then x.1 ^^^ x.2 else x.1, xtime x.2)) (0, a)).1

/-- The inverse in GF(2^8), 0 for 0: the product of the squares a^2, a^4, … a^128. -/
def gfInv (a : Nat) : Nat :=
  ((List.range 7).foldl (fun (x : Nat × Nat) _ => let q := gfMul x.2 x.2; (gfMul x.1 q, q)) (1, a)).1

/-- An octet rotated left. -/
def rotl8 (a k : Nat) : Nat := (a * 2 ^ k) % 256 + a * 2 ^ k / 256

/-- SubBytes of each octet. -/
def sboxTable : Array Nat :=
  ((List.range 256).map (fun a => let b := gfInv a
    b ^^^ rotl8 b 1 ^^^ rotl8 b 2 ^^^ rotl8 b 3 ^^^ rotl8 b 4 ^^^ 0x63)).toArray

/-- InvSubBytes of each octet. -/
def invSboxTable : Array Nat :=
  ((List.range 256).map (fun a => gfInv (rotl8 a 1 ^^^ rotl8 a 3 ^^^ rotl8 a 6 ^^^ 5))).toArray

/-- Two lists of octets, XORed. -/
def xorOctets (a b : List Nat) : List Nat := a.zipWith (· ^^^ ·) b

/-- MixColumns with the first row of its matrix. -/
def mixColumns (m s : List Nat) : List Nat :=
  (List.range 16).map (fun i =>
    (List.range 4).foldl (fun v j => v ^^^ gfMul (s.getD (i / 4 * 4 + j) 0) (m.getD ((j + 4 - i % 4) % 4) 0)) 0)

/-- The words of the key schedule for a key of 16 or 32 octets. -/
def keySchedule (key : List Nat) : List (List Nat) :=
  let nk := if 32 ≤ key.length then 8 else 4
  let first := (List.range nk).map (fun i => (key.drop (4 * i)).take 4)
  let sub := fun (w : List Nat) => w.map (fun a => sboxTable.getD a 0)
  ((List.range (3 * nk + 28)).foldl (fun (x : Array (List Nat) × Nat) k =>
    let i := k + nk
    let t := x.1.getD (i - 1) []
    let t := if i % nk = 0 then xorOctets (sub (t.drop 1 ++ t.take 1)) [x.2, 0, 0, 0]
      else if nk = 8 ∧ i % 8 = 4 then sub t else t
    (x.1.push (xorOctets (x.1.getD (i - nk) []) t), if i % nk = 0 then xtime x.2 else x.2)) (first.toArray, 1)).1.toList

/-- The round keys. -/
def roundKeys (key : List Nat) : List (List Nat) :=
  let w := (keySchedule key).toArray
  (List.range (w.size / 4)).map (fun r => (List.range 4).flatMap (fun j => w.getD (4 * r + j) []))

/-- Encryption of a block under round keys. -/
def encryptWith (rk : List (List Nat)) (b : List Nat) : List Nat :=
  let sub := fun (s : List Nat) => s.map (fun a => sboxTable.getD a 0)
  let rows := fun (s : List Nat) => (List.range 16).map (fun i => s.getD ((i + 4 * (i % 4)) % 16) 0)
  let n := rk.length - 1
  let s := ((rk.drop 1).take (n - 1)).foldl (fun s k => xorOctets (mixColumns [2, 3, 1, 1] (rows (sub s))) k)
    (xorOctets b (rk.headD []))
  xorOctets (rows (sub s)) (rk.getLastD [])

/-- Decryption of a block under round keys. -/
def decryptWith (rk : List (List Nat)) (b : List Nat) : List Nat :=
  let sub := fun (s : List Nat) => s.map (fun a => invSboxTable.getD a 0)
  let rows := fun (s : List Nat) => (List.range 16).map (fun i => s.getD ((i + 16 - 4 * (i % 4)) % 16) 0)
  let n := rk.length - 1
  let s := ((rk.drop 1).take (n - 1)).reverse.foldl (fun s k => mixColumns [14, 11, 13, 9] (xorOctets (sub (rows s)) k))
    (xorOctets b (rk.getLastD []))
  xorOctets (sub (rows s)) (rk.headD [])

/-- The octets of a key or a text as numbers. -/
def nats (l : List Byte) : List Nat := l.map BitVec.toNat

/-- A text in blocks of 16 octets; the last may be shorter. -/
def blocks (t : List Nat) : List (List Nat) := (List.range ((t.length + 15) / 16)).map (fun i => (t.drop (16 * i)).take 16)

/-- A block as a number, the first octet highest. -/
def blockNum (b : List Nat) : Nat := b.foldl (fun v a => v * 256 + a) 0

/-- `n` octets of a number, the first octet highest. -/
def numBlock (n v : Nat) : List Nat := (octetsOf n v).reverse

/-- A block of zeros. -/
def zeroBlock : List Nat := List.replicate 16 0

/-! ### CMAC -/

/-- Doubling in GF(2^128), the first octet highest. -/
def cmacDouble (v : Nat) : Nat := if v < 2 ^ 127 then 2 * v else (2 * v % 2 ^ 128) ^^^ 0x87

/-- AES-CMAC: key, message (R361, R367). -/
def cmac (key m : List Byte) : Nat :=
  let rk := roundKeys (nats key)
  let k1 := cmacDouble (blockNum (encryptWith rk zeroBlock))
  let bs := blocks (nats m)
  let last := bs.getLastD []
  let last := if last.length = 16 then xorOctets last (numBlock 16 k1)
    else xorOctets ((last ++ [0x80] ++ zeroBlock).take 16) (numBlock 16 (cmacDouble k1))
  let x := bs.dropLast.foldl (fun x b => encryptWith rk (xorOctets x b)) zeroBlock
  leNat (encryptWith rk (xorOctets x last))

/-! ### CCM* -/

/-- A text padded with zeros to whole blocks. -/
def padBlocks (t : List Nat) : List Nat := t ++ List.replicate ((16 - t.length % 16) % 16) 0

/-- The counter block A_i for a nonce of 13 octets. -/
def ccmCounter (nonce : List Nat) (i : Nat) : List Nat := [1] ++ nonce ++ numBlock 2 i

/-- The CBC-MAC of B_0, the associated data and the text, for a tag of `m` octets. -/
def ccmMac (rk : List (List Nat)) (nonce aad text : List Nat) (m : Nat) : List Nat :=
  let flags := 1 + (if m = 0 then 0 else 8 * ((m - 2) / 2)) + (if aad.isEmpty then 0 else 64)
  let a := if aad.isEmpty then [] else padBlocks (numBlock 2 aad.length ++ aad)
  (blocks ([flags] ++ nonce ++ numBlock 2 text.length ++ a ++ padBlocks text)).foldl
    (fun x b => encryptWith rk (xorOctets x b)) zeroBlock

/-- The text under the key stream of A_1, A_2, …. -/
def ccmStream (rk : List (List Nat)) (nonce text : List Nat) : List Nat :=
  ((List.range ((text.length + 15) / 16)).zip (blocks text)).flatMap (fun x =>
    xorOctets x.2 (encryptWith rk (ccmCounter nonce (x.1 + 1))))

/-- The tag of `m` octets. -/
def ccmTag (rk : List (List Nat)) (nonce aad text : List Nat) (m : Nat) : List Nat :=
  (xorOctets (ccmMac rk nonce aad text m) (encryptWith rk (ccmCounter nonce 0))).take m

/-- CCM* encryption (R229, R403): key, nonce, associated data, text, tag length; the ciphertext with the tag after it. -/
def ccmSeal (key nonce aad text : List Byte) (m : Nat) : Nat :=
  let rk := roundKeys (nats key)
  leNat (ccmStream rk (nats nonce) (nats text) ++ ccmTag rk (nats nonce) (nats aad) (nats text) m)

/-- CCM* decryption (R229, R403) of a ciphertext with its tag after it; none where the tag fails. -/
def ccmOpen (key nonce aad text : List Byte) (m : Nat) : Option Nat :=
  let rk := roundKeys (nats key)
  let n := text.length - m
  let plain := ccmStream rk (nats nonce) (nats (text.take n))
  if ccmTag rk (nats nonce) (nats aad) plain m = nats (text.drop n) then some (leNat plain) else none

/-! ### Key wrap -/

/-- The initial value of RFC 3394. -/
def wrapIv : List Nat := List.replicate 8 0xA6

/-- The RFC 3394 wrap of key material of whole 8-octet halves (R379); 8 octets longer than the material. -/
def wrap (key data : List Byte) : Nat :=
  let rk := roundKeys (nats key)
  let n := data.length / 8
  let r := ((List.range (6 * n)).foldl (fun (x : List Nat × List (List Nat)) k =>
    match x.2 with
    | [] => x
    | h :: rest =>
      let b := encryptWith rk (x.1 ++ h)
      (xorOctets (b.take 8) (numBlock 8 (k + 1)), rest ++ [b.drop 8]))
    (wrapIv, (List.range n).map (fun i => (nats data).drop (8 * i) |>.take 8)))
  leNat (r.1 ++ r.2.flatten)

/-- The RFC 3394 unwrap (R379, R380): the key material, or none where the integrity check fails. -/
def unwrap (key data : List Byte) : Option (List Byte) :=
  let rk := roundKeys (nats key)
  let n := data.length / 8 - 1
  let r := ((List.range (6 * n)).reverse.foldl (fun (x : List Nat × List (List Nat)) k =>
    let b := decryptWith rk (xorOctets x.1 (numBlock 8 (k + 1)) ++ x.2.getLastD [])
    (b.take 8, b.drop 8 :: x.2.dropLast))
    ((nats data).take 8, (List.range n).map (fun i => (nats data).drop (8 * i + 8) |>.take 8)))
  if r.1 = wrapIv then some (r.2.flatten.map (BitVec.ofNat 8)) else none

/-! ### XTS, CBC, CTR and CFB -/

/-- Doubling of a tweak, the first octet lowest. -/
def xtsDouble (v : Nat) : Nat := if v < 2 ^ 127 then 2 * v else (2 * v % 2 ^ 128) ^^^ 0x87

/-- One data unit of whole blocks under XTS: the key pair of 64 octets, the data unit number. -/
def xtsUnit (decrypt : Bool) (key : List Byte) (number : Nat) (t : List Nat) : List Nat :=
  let rk := roundKeys (nats (key.take 32))
  let tweak := leNat (encryptWith (roundKeys (nats (key.drop 32))) (octetsOf 16 number))
  ((blocks t).foldl (fun (x : List Nat × Nat) b =>
    let w := octetsOf 16 x.2
    let o := xorOctets ((if decrypt then decryptWith rk else encryptWith rk) (xorOctets b w)) w
    (x.1 ++ o, xtsDouble x.2)) ([], tweak)).1

/-- Data units of `du` octets from the number on (R408). -/
def xtsUnits (decrypt : Bool) (key : List Byte) (number du : Nat) (t : List Nat) : List Nat :=
  (List.range (t.length / max 1 du)).flatMap (fun j => xtsUnit decrypt key (number + j) ((t.drop (du * j)).take du))

/-- CBC (R408). -/
def cbc (decrypt : Bool) (key : List Byte) (iv : List Nat) (t : List Nat) : List Nat :=
  let rk := roundKeys (nats key)
  ((blocks t).foldl (fun (x : List Nat × List Nat) b =>
    let o := if decrypt then xorOctets (decryptWith rk b) x.2 else encryptWith rk (xorOctets b x.2)
    (x.1 ++ o, if decrypt then b else o)) ([], iv)).1

/-- CTR (R408): the whole block increments, big-endian. -/
def ctr (key : List Byte) (iv : List Nat) (t : List Nat) : List Nat :=
  let rk := roundKeys (nats key)
  ((List.range ((t.length + 15) / 16)).zip (blocks t)).flatMap (fun x =>
    xorOctets x.2 (encryptWith rk (numBlock 16 ((blockNum iv + x.1) % 2 ^ 128))))

/-- CFB-128 (R408). -/
def cfb (decrypt : Bool) (key : List Byte) (iv : List Nat) (t : List Nat) : List Nat :=
  let rk := roundKeys (nats key)
  ((blocks t).foldl (fun (x : List Nat × List Nat) b =>
    let o := xorOctets b (encryptWith rk x.2)
    (x.1 ++ o, if decrypt then b else o)) ([], iv)).1

/-- A SCIPHER job's output (R408): operation, key, IV field, data-unit size, text. -/
def storageCipher (op : Nat) (key iv : List Byte) (du : Nat) (text : List Byte) : Nat :=
  let t := nats text
  let v := nats iv
  leNat (match op with
    | 1 => xtsUnits false key (leNat v) du t
    | 2 => xtsUnits true key (leNat v) du t
    | 3 => cbc false key v t
    | 4 => cbc true key v t
    | 5 => ctr key v t
    | 6 => cfb false key v t
    | _ => cfb true key v t)

end Sys2Proof.Machine
end

