-- ==== Sys2Proof/Machine/Cairn.lean ====
section
/-! DEFINITION. The cairn log (R609 to R612) and what the reserve logic records: engagements, low reserve and retirement
(R599 to R601). -/

namespace Sys2Proof.Machine

/-! ### The log -/

/-- The page of CAIRN. -/
def cairnPage : Nat := 0x06

/-- One bit step of the CRC-16 of IEEE 802.15.4-2020 (R206). -/
def crc16Step (c : Nat) : Nat := if c % 2 = 1 then (c / 2) ^^^ 0x8408 else c / 2

/-- The CRC-16 of R206 over octets. -/
def crc16 (bs : List Nat) : Nat :=
  bs.foldl (fun c b =>
    crc16Step (crc16Step (crc16Step (crc16Step (crc16Step (crc16Step (crc16Step (crc16Step (c ^^^ b))))))))) 0

/-- A record of the present moment (R610): device time reads 0 with TIME_UNSET. -/
def cairnItem (kind : Nat) (data : List Nat) (s : State) : CairnItem :=
  let unset := isSet F.TIME.STATUS_UNSET s
  { powered := rd F.RESERVE.POWERED_S s
    devSec := if unset then 0 else deviceNs s / 1000000000
    devMs := if unset then 0 else deviceNs s / 1000000 % 1000
    kind, flags := if unset then 1 else 0
    lifecycle := rd F.IDENT.LIFECYCLE s, data }

/-- A record joins the queue of 32; while it is full, records are dropped and counted (R609). -/
def queueRecord (x : CairnItem) (s : State) : State :=
  if s.cairn.queue.length < 32 then { s with cairn := { s.cairn with queue := s.cairn.queue ++ [x] } }
  else inc F.CAIRN.DROPPED { s with cairn := { s.cairn with dropped := s.cairn.dropped + 1 } }

/-- Writes a record of `kind` with DATA (R611). -/
def logCairn (kind : Nat) (data : List Nat) (s : State) : State := queueRecord (cairnItem kind data s) s

/-- Kinds of R611. -/
def K_SUPPLY : Nat := 0x01
/-- R611. -/
def K_RESET : Nat := 0x02
/-- R611. -/
def K_CLOCK : Nat := 0x03
/-- R611. -/
def K_TEMP : Nat := 0x04
/-- R611. -/
def K_TAMPER : Nat := 0x05
/-- R611. -/
def K_ZEROIZED : Nat := 0x06
/-- R611. -/
def K_LIFECYCLE : Nat := 0x07
/-- R611. -/
def K_RETIRED : Nat := 0x08
/-- R611. -/
def K_ENGAGED : Nat := 0x09
/-- R611. -/
def K_RESERVE_LOW : Nat := 0x0A
/-- R611. -/
def K_WEAR_STEP : Nat := 0x0B
/-- R611. -/
def K_BIVOUAC : Nat := 0x0C
/-- R611. -/
def K_UPDATE : Nat := 0x0D
/-- R611. -/
def K_NOTE : Nat := 0x0E
/-- R611. -/
def K_LOG_DROPPED : Nat := 0x0F

/-- The record is written on the 32.768 kHz clock: deep hold, or no REFCLK40_IN (R610). -/
def slowClock (s : State) : Bool := rd F.CANARY.BIVOUAC_STATE s == 3 || s.watch.refclkAbsent

/-- The 32 octets of a record (R610). -/
def recordOctets (x : CairnItem) (seq : Nat) (slow : Bool) : List Nat :=
  let body := octetsOf 4 seq ++ octetsOf 4 x.powered ++ octetsOf 6 x.devSec ++ octetsOf 2 x.devMs ++
    [x.kind, x.flags + (if slow then 2 else 0), x.lifecycle % 8, 0] ++ (x.data ++ List.replicate 8 0).take 8 ++ [0, 0]
  body ++ octetsOf 2 (crc16 body)

/-- The SEQ of the record at a position. -/
def recordSeq (p : Nat) (s : State) : Nat := leNat ((look s.cairn.store p []).take 4)

/-- A queued record is written at HEAD (R609); one that overwrites a record above READ_MARK counts in LOST (R612). When
room returns after records were dropped, a LOG_DROPPED record follows. -/
def cairnWrite (s : State) : State :=
  match s.cairn.queue with
  | [] => s
  | x :: r =>
    let h := rd F.CAIRN.HEAD s
    let seq := rd F.CAIRN.SEQ_NEXT s
    let full := rd F.CAIRN.COUNT s == 1024
    let s1 := if full then inc F.CAIRN.OVERWRITES s else s
    let s1 := if full && decide (rd F.CAIRN.READ_MARK s < recordSeq h s) then latch cairnPage 0 (inc F.CAIRN.LOST s1) else s1
    let s1 := { s1 with cairn := { s1.cairn with
      queue := r, store := insert s1.cairn.store h (recordOctets x seq (slowClock s)) } }
    let s1 := wr F.CAIRN.HEAD (h + 1) (wr F.CAIRN.SEQ_NEXT (seq + 1) (wr F.CAIRN.COUNT (min 1024 (rd F.CAIRN.COUNT s + 1)) s1))
    let s1 := latch cairnPage 1 s1
    if s1.cairn.dropped = 0 then s1
    else
      let n := s1.cairn.dropped
      logCairn K_LOG_DROPPED (octetsOf 4 n) { s1 with cairn := { s1.cairn with dropped := 0 } }

/-- A read of REC[0]: the record at SEL is latched into REC[0] to REC[7] (R612). -/
def cairnRead (s : State) : State :=
  let o := look s.cairn.store (rd F.CAIRN.SEL s) []
  let s := (List.range 8).foldl (fun s k => wr (F.CAIRN.REC k) (leNat ((o.drop (4 * k)).take 4)) s) s
  { s with readData := BitVec.ofNat 32 (rd (F.CAIRN.REC 0) s) }

/-! ### Reserve -/

/-- The page of RESERVE. -/
def reservePage : Nat := 0x05

/-- An engagement (R599): class, the unit replaced, the substitute. -/
def engaged (cls unit sub : Nat) (s : State) : State :=
  logCairn K_ENGAGED [cls, unit % 256, sub % 256] (latch reservePage 0 (inc F.RESERVE.ENGAGED_COUNT s))

/-- RESERVE_LOW of a class (R599). -/
def reserveLow (cls : Nat) (s : State) : State := logCairn K_RESERVE_LOW [cls] (latch reservePage 1 s)

/-- A retirement fuse is blown (R601): lanes are class 0, frame cipher engines 1, supervisor cores 2, front ends 3. -/
def blowRetired (cls unit : Nat) (s : State) : State :=
  let s :=
    match cls with
    | 0 => orBits (F.RESERVE.RETIRED_LANES (unit / 32)) (2 ^ (unit % 32)) s
    | 1 => orBits F.RESERVE.RETIRED_OTHER_FCE (2 ^ unit) s
    | 2 => orBits F.RESERVE.RETIRED_OTHER_SUP (2 ^ unit) s
    | _ => orBits F.RESERVE.RETIRED_OTHER_FE (2 ^ unit) s
  logCairn K_RETIRED [cls, unit] s

/-- Whether a unit's retirement fuse is blown. -/
def isRetired (cls unit : Nat) (s : State) : Bool :=
  match cls with
  | 0 => (rd (F.RESERVE.RETIRED_LANES (unit / 32)) s).testBit (unit % 32)
  | 1 => (rd F.RESERVE.RETIRED_OTHER_FCE s).testBit unit
  | 2 => (rd F.RESERVE.RETIRED_OTHER_SUP s).testBit unit
  | _ => (rd F.RESERVE.RETIRED_OTHER_FE s).testBit unit

/-- A REMAIN field takes a value; its fall to 0 is low reserve of the class (R599). -/
def setRemain (f : Field) (cls v : Nat) (s : State) : State :=
  let old := rd f s
  let s := wr f v s
  if old ≠ 0 ∧ v = 0 then reserveLow cls s else s

/-! ### Clock faults -/

/-- REFCLK_FAULT or XO32K_FAULT sets or clears (R62, R64), with its CLOCK record (R611): `bit` is 0 or 1 of CANARY. -/
def clockFault (bit : Nat) (on : Bool) (s : State) : State :=
  if rawSet 0x03 bit s = on then s
  else logCairn K_CLOCK [bit, if on then 1 else 0] (if on then raise 0x03 bit s else lower 0x03 bit s)

end Sys2Proof.Machine
end

