-- ==== Sys2Proof/Machine/Sha.lean ====
section
/-! DEFINITION. SHA-256, SHA-384 and SHA-512 (R370, R376, R410). PRESUMED (log entry 48): the spec names FIPS 180-4 and does not
restate it. A digest stands as a number, its first octet lowest. -/

namespace Sys2Proof.Machine

/-- The first `n` primes. -/
def primes (n : Nat) : List Nat :=
  ((List.range 500).filter (fun p => 2 ≤ p && (List.range p).all (fun d => d < 2 || p % d != 0))).take n

/-- The largest number whose power `k` does not exceed `x`, found bit by bit below 2^72. -/
def rootFloor (k x : Nat) : Nat :=
  (List.range 72).reverse.foldl (fun r i => if (r + 2 ^ i) ^ k ≤ x then r + 2 ^ i else r) 0

/-- 64 bits of the fraction of the square root of a prime. -/
def sqrtBits (p : Nat) : Nat := rootFloor 2 (p * 2 ^ 128) % 2 ^ 64

/-- The round constants of SHA-512; the upper halves of the first 64 are those of SHA-256. -/
def shaConstants : List Nat := (primes 80).map (fun p => rootFloor 3 (p * 2 ^ 192) % 2 ^ 64)

/-- What distinguishes the two word lengths: bits of a word, rounds, and the rotation counts of the four functions, the last of
the two small ones being a shift. -/
structure ShaForm where
  w      : Nat
  rounds : Nat
  big0   : List Nat
  big1   : List Nat
  small0 : List Nat
  small1 : List Nat

/-- SHA-256. -/
def form256 : ShaForm :=
  { w := 32, rounds := 64, big0 := [2, 13, 22], big1 := [6, 11, 25], small0 := [7, 18, 3], small1 := [17, 19, 10] }

/-- SHA-384 and SHA-512. -/
def form512 : ShaForm :=
  { w := 64, rounds := 80, big0 := [28, 34, 39], big1 := [14, 18, 41], small0 := [1, 8, 7], small1 := [19, 61, 6] }

/-- A word rotated right. -/
def rotr (w k x : Nat) : Nat := x / 2 ^ k + x % 2 ^ k * 2 ^ (w - k)

/-- The three rotations of a large function. -/
def shaBig (w : Nat) (r : List Nat) (x : Nat) : Nat :=
  rotr w (r.getD 0 0) x ^^^ rotr w (r.getD 1 0) x ^^^ rotr w (r.getD 2 0) x

/-- The two rotations and the shift of a small function. -/
def shaSmall (w : Nat) (r : List Nat) (x : Nat) : Nat := rotr w (r.getD 0 0) x ^^^ rotr w (r.getD 1 0) x ^^^ (x / 2 ^ r.getD 2 0)

/-- The message padded to whole blocks of 16 words. -/
def shaPad (f : ShaForm) (m : List Byte) : List Nat :=
  let len := 2 * f.w
  let l := m.length + 1 + f.w / 4
  m.map BitVec.toNat ++ [0x80] ++ List.replicate ((len - l % len) % len) 0 ++ (octetsOf (f.w / 4) (8 * m.length)).reverse

/-- The words of the schedule of one block. -/
def shaSchedule (f : ShaForm) (b : List Nat) : Array Nat :=
  let first := (List.range 16).map (fun i => ((b.drop (f.w / 8 * i)).take (f.w / 8)).foldl (fun v a => v * 256 + a) 0)
  (List.range (f.rounds - 16)).foldl (fun (x : Array Nat) k =>
    let i := k + 16
    x.push ((shaSmall f.w f.small1 (x.getD (i - 2) 0) + x.getD (i - 7) 0 + shaSmall f.w f.small0 (x.getD (i - 15) 0) +
      x.getD (i - 16) 0) % 2 ^ f.w)) first.toArray

/-- One round on the eight working words. -/
def shaRound (f : ShaForm) (s : List Nat) (kw : Nat) : List Nat :=
  match s with
  | [a, b, c, d, e, g, h, i] =>
    let t1 := i + shaBig f.w f.big1 e + ((e &&& g) ^^^ ((2 ^ f.w - 1 - e) &&& h)) + kw
    let t2 := shaBig f.w f.big0 a + ((a &&& b) ^^^ (a &&& c) ^^^ (b &&& c))
    [(t1 + t2) % 2 ^ f.w, a, b, c, (d + t1) % 2 ^ f.w, e, g, h]
  | _ => s

/-- One block into the chaining value. -/
def shaBlock (f : ShaForm) (h : List Nat) (b : List Nat) : List Nat :=
  let w := shaSchedule f b
  let s := ((List.range f.rounds).zip shaConstants).foldl (fun s x => shaRound f s (x.2 / 2 ^ (64 - f.w) + w.getD x.1 0)) h
  h.zipWith (fun a b => (a + b) % 2 ^ f.w) s

/-- The octets of the chaining value after a whole message. -/
def shaOctets (f : ShaForm) (h : List Nat) (m : List Byte) : List Nat :=
  let t := shaPad f m
  ((List.range (t.length / (2 * f.w))).foldl (fun h i => shaBlock f h ((t.drop (2 * f.w * i)).take (2 * f.w))) h).flatMap
    (fun v => (octetsOf (f.w / 8) v).reverse)

/-- SHA-256 (R410). -/
def sha256 (m : List Byte) : Nat := leNat (shaOctets form256 ((primes 8).map (fun p => sqrtBits p / 2 ^ 32)) m)

/-- SHA-384 (R370, R376). -/
def sha384 (m : List Byte) : Nat := leNat ((shaOctets form512 (((primes 16).drop 8).map sqrtBits) m).take 48)

/-- SHA-512 (R410). -/
def sha512 (m : List Byte) : Nat := leNat (shaOctets form512 ((primes 8).map sqrtBits) m)

end Sys2Proof.Machine
end

