-- ==== Sys2Proof/Machine/Curve.lean ====
section
/-! DEFINITION. The public-key operations of R409 to R411: ECDSA verification on P-256 and P-384, Ed25519 verification, and the
public key and shared secret of the pairing scalar. PRESUMED (log entry 48): the spec names FIPS 186-5 and RFC 8032, whose curves
these are, and does not restate them. -/

namespace Sys2Proof.Machine

/-- `a - b` modulo `p`. -/
def subMod (p a b : Nat) : Nat := (a + (p - b % p)) % p

/-- The bits of a number below 2^`n`, the highest first. -/
def bitsOf (n v : Nat) : List Bool := (List.range n).reverse.map v.testBit

/-- `a` to the power `e` modulo `p`, for an exponent below 2^400. -/
def powMod (p a e : Nat) : Nat :=
  (bitsOf 400 e).foldl (fun r b => let r := r * r % p; if b then r * a % p else r) 1

/-- The inverse modulo a prime. -/
def invMod (p a : Nat) : Nat := powMod p (a % p) (p - 2)

/-! ### P-256 and P-384 -/

/-- A curve y² = x³ − 3x + b over a prime field with a base point of prime order, and octets of a coordinate. -/
structure Curve where
  p  : Nat
  n  : Nat
  b  : Nat
  gx : Nat
  gy : Nat
  octets : Nat

/-- P-256. -/
def p256 : Curve where
  p := 2 ^ 256 - 2 ^ 224 + 2 ^ 192 + 2 ^ 96 - 1
  n := 0xFFFFFFFF00000000FFFFFFFFFFFFFFFFBCE6FAADA7179E84F3B9CAC2FC632551
  b := 0x5AC635D8AA3A93E7B3EBBD55769886BC651D06B0CC53B0F63BCE3C3E27D2604B
  gx := 0x6B17D1F2E12C4247F8BCE6E563A440F277037D812DEB33A0F4A13945D898C296
  gy := 0x4FE342E2FE1A7F9B8EE7EB4A7C0F9E162BCE33576B315ECECBB6406837BF51F5
  octets := 32

/-- P-384. -/
def p384 : Curve where
  p := 2 ^ 384 - 2 ^ 128 - 2 ^ 96 + 2 ^ 32 - 1
  n := 0xFFFFFFFFFFFFFFFFFFFFFFFFFFFFFFFFFFFFFFFFFFFFFFFFC7634D81F4372DDF581A0DB248B0A77AECEC196ACCC52973
  b := 0xB3312FA7E23EE7E4988E056BE3F82D19181D9C6EFE8141120314088F5013875AC656398D8A2ED19D2A85C8EDD3EC2AEF
  gx := 0xAA87CA22BE8B05378EB1C71EF320AD746E1D3B628BA79B9859F741E082542A385502F25DBF55296C3A545E3872760AB7
  gy := 0x3617DE4A96262C6F5D9E98BF9292DC29F8F41DBD289A147CE9DA3113B5F0B8C00A60B1CE1D7E819D7A431D7C90EA0E5F
  octets := 48

/-- A point in Jacobian coordinates; Z = 0 is the point at infinity. -/
structure JPoint where
  x : Nat
  y : Nat
  z : Nat

/-- The point at infinity. -/
def jZero : JPoint := { x := 1, y := 1, z := 0 }

/-- A point doubled. -/
def Curve.dbl (c : Curve) (a : JPoint) : JPoint :=
  let p := c.p
  let d := a.z * a.z % p
  let g := a.y * a.y % p
  let b := a.x * g % p
  let l := 3 * (subMod p a.x d * (a.x + d)) % p
  let x := subMod p (l * l) (8 * b)
  { x, y := subMod p (l * subMod p (4 * b) x) (8 * g * g), z := 2 * a.y * a.z % p }

/-- The sum of two points. -/
def Curve.add (c : Curve) (a b : JPoint) : JPoint :=
  let p := c.p
  if a.z = 0 then b
  else if b.z = 0 then a
  else
    let za := a.z * a.z % p
    let zb := b.z * b.z % p
    let u := a.x * zb % p
    let s := a.y * b.z * zb % p
    let h := subMod p (b.x * za) u
    let r := subMod p (b.y * a.z * za) s
    if h = 0 then (if r = 0 then c.dbl a else jZero)
    else
      let h2 := h * h % p
      let h3 := h * h2 % p
      let v := u * h2 % p
      let x := subMod p (r * r) (h3 + 2 * v)
      { x, y := subMod p (r * subMod p v x) (s * h3), z := h * a.z * b.z % p }

/-- A multiple of a point. -/
def Curve.mul (c : Curve) (k : Nat) (a : JPoint) : JPoint :=
  (bitsOf 384 k).foldl (fun r b => let r := c.dbl r; if b then c.add r a else r) jZero

/-- The affine coordinates of a point; none for the point at infinity. -/
def Curve.affine (c : Curve) (a : JPoint) : Option (Nat × Nat) :=
  if a.z = 0 then none
  else
    let i := invMod c.p a.z
    some (a.x * i * i % c.p, a.y * i * i * i % c.p)

/-- The base point. -/
def Curve.base (c : Curve) : JPoint := { x := c.gx, y := c.gy, z := 1 }

/-- The point of a public key X ‖ Y (R410); none where it is not a point of the curve or not in canonical form. -/
def Curve.point (c : Curve) (pub : List Byte) : Option JPoint :=
  let x := beBytes (pub.take c.octets)
  let y := beBytes (pub.drop c.octets)
  if c.p ≤ x ∨ c.p ≤ y ∨ y * y % c.p ≠ subMod c.p (x * x * x + c.b) (3 * x) then none else some { x, y, z := 1 }

/-- ECDSA verification of a digest (R410); none where the key is not valid. -/
def Curve.verify (c : Curve) (pub sig digest : List Byte) : Option Bool :=
  match c.point pub with
  | none => none
  | some q =>
    let r := beBytes (sig.take c.octets)
    let s := beBytes (sig.drop c.octets)
    if r = 0 ∨ c.n ≤ r ∨ s = 0 ∨ c.n ≤ s then some false
    else
      let z := beBytes (digest.take c.octets)
      let w := invMod c.n s
      match c.affine (c.add (c.mul (z * w % c.n) c.base) (c.mul (r * w % c.n) q)) with
      | none => some false
      | some x => some (x.1 % c.n == r)

/-! ### Ed25519 -/

/-- The field of Ed25519. -/
def edP : Nat := 2 ^ 255 - 19
/-- The order of its base point. -/
def edL : Nat := 2 ^ 252 + 27742317777372353535851937790883648493
/-- The constant d of the curve −x² + y² = 1 + d x² y². -/
def edD : Nat := subMod edP 0 (121665 * invMod edP 121666)

/-- A point in extended coordinates. -/
structure EdPoint where
  x : Nat
  y : Nat
  z : Nat
  t : Nat

/-- The neutral point. -/
def edZero : EdPoint := { x := 0, y := 1, z := 1, t := 0 }

/-- The sum of two points. -/
def EdPoint.add (a b : EdPoint) : EdPoint :=
  let p := edP
  let u := subMod p a.y a.x * subMod p b.y b.x % p
  let v := (a.y + a.x) * (b.y + b.x) % p
  let w := 2 * a.t * b.t * edD % p
  let d := 2 * a.z * b.z % p
  let e := subMod p v u
  let f := subMod p d w
  let g := (d + w) % p
  let h := (v + u) % p
  { x := e * f % p, y := g * h % p, z := f * g % p, t := e * h % p }

/-- A multiple of a point. -/
def EdPoint.mul (k : Nat) (a : EdPoint) : EdPoint :=
  (bitsOf 256 k).foldl (fun r b => let r := r.add r; if b then r.add a else r) edZero

/-- Whether two points are the same. -/
def EdPoint.same (a b : EdPoint) : Bool := a.x * b.z % edP == b.x * a.z % edP && a.y * b.z % edP == b.y * a.z % edP

/-- The point of a 32-octet encoding; none where it is not on the curve or not in canonical form. -/
def edDecode (o : List Byte) : Option EdPoint :=
  let v := leBytes (o.take 32)
  let y := v % 2 ^ 255
  let p := edP
  let y2 := y * y % p
  let u := subMod p y2 1
  let w := (edD * y2 + 1) % p
  let x2 := u * invMod p w % p
  let x := powMod p x2 ((p + 3) / 8)
  let x := if x * x % p = x2 then x else x * powMod p 2 ((p - 1) / 4) % p
  if p ≤ y ∨ x * x % p ≠ x2 ∨ (x = 0 ∧ 2 ^ 255 ≤ v) then none
  else
    let x := if x % 2 = v / 2 ^ 255 then x else p - x
    some { x, y, z := 1, t := x * y % p }

/-- The base point: y = 4/5, with the even x. -/
def edBase : EdPoint := (edDecode (bytesLe 32 (4 * invMod edP 5 % edP))).getD edZero

/-- Ed25519 verification (R410), without the cofactor; none where the key is not valid. -/
def edVerify (pub sig m : List Byte) : Option Bool :=
  match edDecode pub with
  | none => none
  | some a =>
    match edDecode (sig.take 32) with
    | none => some false
    | some r =>
      let s := leBytes (sig.drop 32)
      if edL ≤ s then some false
      else
        let k := sha512 (sig.take 32 ++ pub.take 32 ++ m) % edL
        some (((edBase.mul s).same (r.add (a.mul k))))

/-! ### The operations -/

/-- Signature verification (R376, R409, R410): curve (1 P-256, 2 P-384, 3 Ed25519), public key, signature, and the digest
or, for Ed25519, the message; none where the key is not a valid key. -/
def verify (op : Nat) (pub sig m : List Byte) : Option Bool :=
  match op with
  | 1 => p256.verify pub sig m
  | 2 => p384.verify pub sig m
  | _ => edVerify pub sig m

/-- A point's coordinates X ‖ Y, most significant octet first. -/
def pointOctets (x : Nat × Nat) : List Byte := bytesBe 32 x.1 ++ bytesBe 32 x.2

/-- The pairing scalar of the ZK PAIR output (R368): the output modulo n − 1, plus 1. That its first octet is the highest is
PRESUMED (log entry 48). -/
def scalarOf (out : List Byte) : Nat := beBytes out % (p256.n - 1) + 1

/-- The P-256 public key of the pairing scalar (R409). -/
def pairPublic (out : List Byte) : Nat := leBytes (pointOctets ((p256.affine (p256.mul (scalarOf out) p256.base)).getD (0, 0)))

/-- The shared secret of the pairing scalar and a peer's public key (R411): the x-coordinate of the product; none where the key is
not a point of the curve (R410). -/
def pairEcdh (out pub : List Byte) : Option Nat :=
  match p256.point pub with
  | none => none
  | some q => (p256.affine (p256.mul (scalarOf out) q)).map (fun x => leBytes (bytesBe 32 x.1))

end Sys2Proof.Machine
end

