-- ==== Sys2Proof/Machine/Memory.lean ====
section
/-! DEFINITION. DDR as bytes by address, in one canonical form: addresses strictly rising, and no entry equal to 0, what
an unlisted address reads as (R520). -/

namespace Sys2Proof.Machine

/-- The form: addresses strictly rising from `lo` on, no zero listed. -/
def Memory.wfFrom : Nat → List Host.Cell → Bool
  | _, [] => true
  | lo, (a, b) :: r => decide (lo ≤ a) && b != 0 && Memory.wfFrom (a + 1) r

/-- The canonical form. -/
def Memory.wf (m : List Host.Cell) : Bool := Memory.wfFrom 0 m

/-- The byte at an address. -/
def readByte : List Host.Cell → Nat → Byte
  | [], _ => 0
  | (a, b) :: r, x => if x = a then b else if x < a then 0 else readByte r x

/-- The memory with one byte written. -/
def writeByte : List Host.Cell → Nat → Byte → List Host.Cell
  | [], x, v => if v = 0 then [] else [(x, v)]
  | (a, b) :: r, x, v =>
    if x < a then (if v = 0 then (a, b) :: r else (x, v) :: (a, b) :: r)
    else if x = a then (if v = 0 then r else (a, v) :: r)
    else (a, b) :: writeByte r x v

/-- `n` octets from an address on. -/
def readOctets (m : List Host.Cell) (a n : Nat) : List Byte := (List.range n).map (fun i => readByte m (a + i))

/-- Octets written from an address on. -/
def writeOctets : List Host.Cell → Nat → List Byte → List Host.Cell
  | m, _, [] => m
  | m, a, v :: r => writeOctets (writeByte m a v) (a + 1) r

/-- Zeros written from an address on: every cell in the range goes. -/
def zeroRange (m : List Host.Cell) (a n : Nat) : List Host.Cell := m.filter (fun c => c.1 < a || a + n ≤ c.1)

/-- `n` octets copied from `a` to `b`; the two ranges do not meet. -/
def copyRange (m : List Host.Cell) (a b n : Nat) : List Host.Cell :=
  (m.filter (fun c => decide (a ≤ c.1) && decide (c.1 < a + n))).foldl
    (fun m c => writeByte m (c.1 - a + b) c.2) (zeroRange m b n)

end Sys2Proof.Machine
end

