-- ==== Sys2Proof/Machine/Keys.lean ====
section
/-! DEFINITION. The node-table records (R268 to R270, R280) and key slots at use (R370 to R374, R384 to R386). -/

namespace Sys2Proof.Machine

/-! ### Conditions of the whole controller -/

/-- A rope-team member that does not transmit: WAITING, SYNCING or STANDBY (R576, R577). -/
def roleMuted (s : State) : Bool := rd F.ROPE.ROLE_STATE s ∈ [1, 2, 3]

/-- Whether the role lets new transmissions start (R576). -/
def mayTransmit (s : State) : Bool := rd F.ROPE.ROLE_STATE s ∈ [0, 4]

/-- Whether a relinquishing member holds its lines (R590). -/
def linesHeld (s : State) : Bool := rd F.ROPE.ROLE_STATE s == 5

/-- Whether the start has reached RUN, before which no front end starts a transmission (R628). -/
def started (s : State) : Bool := rd F.MGMT.START_STAGE s == 8

/-- Bivouac or deep hold (R613, R615). -/
def inBivouac (s : State) : Bool := 2 ≤ rd F.CANARY.BIVOUAC_STATE s

/-- REFCLK_FAULT active (R65). -/
def refclkFault (s : State) : Bool := rawSet 0x03 0 s

/-- TEMP_TRIP active (R71). -/
def tempTrip (s : State) : Bool := rawSet 0x02 6 s

/-! ### Octet fields -/

/-- `n` octets of `x` from octet `o`, little-endian. -/
def oct {w : Nat} (x : BitVec w) (o n : Nat) : Nat := x.toNat / 256 ^ o % 256 ^ n

/-- `x` with `v` in its `n` octets from octet `o`. -/
def setOct {w : Nat} (x : BitVec w) (o n v : Nat) : BitVec w :=
  BitVec.ofNat w (x.toNat - oct x o n * 256 ^ o + v % 256 ^ n * 256 ^ o)

/-- Bit `b` of octet `o`. -/
def octBit {w : Nat} (x : BitVec w) (o b : Nat) : Bool := (oct x o 1).testBit b

/-- `x` with bit `b` of octet `o` set to `v`. -/
def setOctBit {w : Nat} (x : BitVec w) (o b : Nat) (v : Bool) : BitVec w :=
  setOct x o 1 (if v then oct x o 1 ||| 2 ^ b else oct x o 1 - (oct x o 1 &&& 2 ^ b))

/-! ### The core record (R268, R269) -/

/-- The octet of FLAGS. -/
def flagsOct : Nat := 19

/-- FLAGS.VALID (R269). -/
def NodeCore.valid (n : NodeCore) : Bool := octBit n.core flagsOct 0
/-- FLAGS.PITON (R269). -/
def NodeCore.piton (n : NodeCore) : Bool := octBit n.core flagsOct 1
/-- FLAGS.PENDING (R269). -/
def NodeCore.pending (n : NodeCore) : Bool := octBit n.core flagsOct 2
/-- FLAGS.SLEEPY (R269). -/
def NodeCore.sleepy (n : NodeCore) : Bool := octBit n.core flagsOct 3
/-- FLAGS.BLOCKED (R269). -/
def NodeCore.blocked (n : NodeCore) : Bool := octBit n.core flagsOct 4
/-- FLAGS.PATH_VALID (R269). -/
def NodeCore.pathValid (n : NodeCore) : Bool := octBit n.core flagsOct 5
/-- FLAGS.HIT (R269). -/
def NodeCore.hit (n : NodeCore) : Bool := octBit n.core flagsOct 6
/-- FLAGS.STALE (R269). -/
def NodeCore.stale (n : NodeCore) : Bool := octBit n.core flagsOct 7
/-- EUI64 (R268). -/
def NodeCore.eui (n : NodeCore) : Nat := oct n.core 0 8
/-- KEY_REF (R268). -/
def NodeCore.keyRef (n : NodeCore) : Nat := oct n.core 16 2
/-- KEY_GEN (R268). -/
def NodeCore.keyGen (n : NodeCore) : Nat := oct n.core 18 1
/-- PORT (R268). -/
def NodeCore.port (n : NodeCore) : Nat := oct n.core 20 1
/-- FIRST_HOP (R268). -/
def NodeCore.firstHop (n : NodeCore) : Nat := oct n.core 21 2
/-- The logical front end of PORT. -/
def NodeCore.fe (n : NodeCore) : Nat := n.port % 4
/-- The hop count of PORT. -/
def NodeCore.hops (n : NodeCore) : Nat := n.port / 16 + 1
/-- COUNT of PATH_CTL (R270). -/
def Node.pathCount (n : Node) : Nat := oct n.ext 0 1 % 32
/-- PATH_GEN (R270). -/
def Node.pathGen (n : Node) : Nat := oct n.ext 1 1
/-- PATH_ADDR[i] (R270). -/
def Node.pathAddr (n : Node) (i : Nat) : Nat := oct n.ext (2 + 2 * i) 2
/-- The path's addresses, the node first. -/
def Node.path (n : Node) : List Nat := (List.range n.pathCount).map n.pathAddr
/-- Whether the two parts agree on the path (R271). -/
def Node.consistent (n : Node) : Bool := n.port / 4 % 4 == n.pathGen % 4

/-- A node with one flag set or cleared. -/
def Node.flag (b : Nat) (v : Bool) (n : Node) : Node := { n with core := setOctBit n.core flagsOct b v }
/-- A node with core octets written. -/
def Node.wcore (o len v : Nat) (n : Node) : Node := { n with core := setOct n.core o len v }
/-- A node with extended octets written. -/
def Node.wext (o len v : Nat) (n : Node) : Node := { n with ext := setOct n.ext o len v }
/-- A counter of the extended record advanced, wrapping (R270). -/
def Node.bump (o len : Nat) (n : Node) : Node := n.wext o len (oct n.ext o len + 1)
/-- A counter of the extended record advanced, saturating (R270). -/
def Node.bumpSat (o len : Nat) (n : Node) : Node := n.wext o len (min (oct n.ext o len + 1) (256 ^ len - 1))

/-- Whether an index is reserved (R265). -/
def reservedIndex (i : Nat) : Bool := i % 65536 ∈ [0x0000, 0xFFFE, 0xFFFF]

/-- Whether a short address is reserved (R265). -/
def reservedShort (a : Nat) : Bool := a ∈ [0x0000, 0xFFFE, 0xFFFF]

/-- Where the extended record of an entry lies in DDR (R266). -/
def extAddr (i : Nat) (s : State) : Nat := rd F.NODE.EXT_BASE_LO s + rd F.NODE.EXT_BASE_HI s * 2 ^ 32 + 128 * i

/-- The extended record of an entry, as DDR holds it. -/
def extRecord (i : Nat) (s : State) : BitVec 1024 := BitVec.ofNat 1024 (leBytes (readOctets s.ddr (extAddr i s) 128))

/-- The core record of an entry; one never written reads zero. -/
def nodeCore (i : Nat) (s : State) : NodeCore := look s.nodes i {}

/-- The entry of a node index. -/
def node (i : Nat) (s : State) : Node := { nodeCore i s with ext := extRecord i s }

/-- The entry as the data plane sees it: while NODE is OFF every entry acts as though VALID were 0 (R297). -/
def nodeSeen (i : Nat) (s : State) : Node := if pageState 0x20 s = OFF then (node i s).flag 0 false else node i s

/-- Moves a count register with a flag. -/
def countFlag (f : Field) (old new : Bool) (s : State) : State :=
  if old == new then s else if new then wr f (rd f s + 1) s else wr f (rd f s - 1) s

/-- Writes the two parts of an entry: the extended record, where it changes, and the core record. -/
def storeNode (i : Nat) (n : Node) (s : State) : State :=
  { s with
    nodes := if n.toNodeCore = {} then erase s.nodes i else insert s.nodes i n.toNodeCore
    ddr := if n.ext = extRecord i s then s.ddr else writeOctets s.ddr (extAddr i s) (bytesLe 128 n.ext.toNat) }

/-- Writes an entry, both copies at once, with the counts that follow its flags (R290, R295, R263). -/
def setNode (i : Nat) (n : Node) (s : State) : State :=
  let o := node i s
  let s := storeNode i n s
  let s := countFlag F.NODE.COUNT_VALID o.valid n.valid s
  let s := countFlag F.NODE.COUNT_PATH o.pathValid n.pathValid s
  let s := countFlag F.NODE.COUNT_PITON o.piton n.piton s
  let s := countFlag F.NODE.COUNT_SLEEPY o.sleepy n.sleepy s
  let s := countFlag (F.WAKEF.PENDING (i / 65536)) o.pending n.pending s
  peak F.WAKEF.PENDING_PEAK (rd (F.WAKEF.PENDING (i / 65536)) s) s

/-- Changes an entry. -/
def modNode (i : Nat) (f : Node → Node) (s : State) : State := setNode i (f (node i s)) s

/-- Per-node statistics, which advance only while the entry is VALID (R293) as the data plane sees it (R297), and not in bivouac
(R615). -/
def nodeStat (i : Nat) (f : Node → Node) (s : State) : State :=
  if (nodeSeen i s).valid && !inBivouac s then modNode i f s else s

/-- LAST_DISP of a node (R293). -/
def lastDisp (i : Nat) (d : Disp) (s : State) : State := nodeStat i (fun n => n.wext 122 1 d.code) s

/-- The statistics of a received frame of node `i` that ends with `d` (R293). -/
def rxStat (i : Option Nat) (d : Disp) (s : State) : State :=
  match i with
  | none => s
  | some i =>
    nodeStat i (fun n =>
      let n := if 0x21 ≤ d.code ∧ d.code ≤ 0x25 then n.bump 108 4 else n
      n.wext 122 1 d.code) s

/-- The statistics of a downlink frame to node `i` that ends with `d` (R293). -/
def txStat (i : Option Nat) (d : Disp) (s : State) : State :=
  match i with
  | none => s
  | some i =>
    nodeStat i (fun n =>
      let n := if d = .okAcked ∨ d = .okTransmitted then n.bump 112 4 else n
      let n := if 0x60 ≤ d.code ∧ d.code ≤ 0x65 then n.bump 116 4 else n
      n.wext 122 1 d.code) s

/-! ### Key slots -/

/-- A slot; one never written is empty (R370). -/
def slot (i : Nat) (s : State) : Slot := look s.slots i {}

/-- Writes a slot. -/
def setSlot (i : Nat) (k : Slot) (s : State) : State :=
  { s with slots := if k = {} then erase s.slots i else insert s.slots i k }

/-- Changes a slot. -/
def modSlot (i : Nat) (f : Slot → Slot) (s : State) : State := setSlot i (f (slot i s)) s

/-- VALID of the attribute word (R370). -/
def Slot.valid (k : Slot) : Bool := k.attr.getLsbD 31
/-- A usage bit, 4 to 11 (R370). -/
def Slot.use (k : Slot) (b : Nat) : Bool := k.attr.getLsbD b
/-- ALG (R370). -/
def Slot.alg (k : Slot) : Nat := k.attr.toNat % 16

/-- USAGE bits (R370). -/
def FRAME_ENC : Nat := 4
/-- R370. -/
def FRAME_DEC : Nat := 5
/-- R370. -/
def STORAGE : Nat := 6
/-- R370. -/
def KDF_PARENT : Nat := 7
/-- R370. -/
def WRAP : Nat := 8
/-- R370. -/
def UNWRAP : Nat := 9
/-- R370. -/
def VERIFY : Nat := 10
/-- R370. -/
def PAIR : Nat := 11
/-- MASTER bits (R370). -/
def HOST_NORMAL : Nat := 12
/-- R370. -/
def HOST_TRUSTED : Nat := 13
/-- R370. -/
def SUPERVISOR : Nat := 14
/-- R370. -/
def LANE_CRYPTO : Nat := 16
/-- R370. -/
def STORAGE_ENGINE : Nat := 17
/-- R370. -/
def BELAY : Nat := 18
/-- R370. -/
def DISSEM : Nat := 19

/-- What R374 finds at a use. -/
inductive KeyUse where
  | ok | unusable | revoked
deriving DecidableEq, Repr

/-- Whether every ancestor's GEN equals the one recorded below it; at most 3 ancestors (R372, R374 step 6). -/
def ancestorsHold : Nat → Slot → State → Bool
  | 0, _, _ => true
  | d + 1, k, s =>
    match k.parent with
    | none => true
    | some (p, g) => (slot p s).gen == g && ancestorsHold d (slot p s) s

/-- Steps 1 to 5 of R374. No slot is usable in BLANK and DECOMMISSIONED (R391). -/
def slotUsable (i master usage : Nat) (s : State) : Bool :=
  let k := slot i s
  k.valid && k.attr.getLsbD master && k.use usage && rd F.KEYS.LC_STATE s ∈ [1, 2, 3, 4] &&
    k.attr.getLsbD (20 + rd F.KEYS.LC_STATE s) &&
    (!k.attr.getLsbD 26 || isSet F.KEYS.ROOT_SEALED s)

/-- A slot's key leaves the slot: zeroized, VALID 0, GEN + 1 (R373, R384). -/
def Slot.invalidated (k : Slot) : Slot :=
  { k with attr := k.attr &&& 0x7FFFFFFF, gen := (k.gen + 1) % 256, key := [], writing := false }

/-- ERASE: the slot invalidated, ALG 0 (R378). -/
def Slot.erased (k : Slot) : Slot := { k.invalidated with attr := k.attr &&& 0x7FFFFFF0 }

/-- A use of a slot (R374): a child that fails step 6 is erased (R384), and a use that passes counts. -/
def useSlot (i master usage : Nat) (s : State) : KeyUse × State :=
  if !slotUsable i master usage s then (.unusable, s)
  else if !ancestorsHold 3 (slot i s) s then (.revoked, setSlot i (slot i s).invalidated s)
  else (.ok, modSlot i (fun k => { k with uses := (k.uses + 1) % 2 ^ 32 }) s)

/-- An output suppressed because its key changed under it (R382). -/
def suppress (s : State) : State := latch 0x30 0 (inc F.KEYS.SUPPRESSED s)

/-- The ancestors' generations of a slot hold and its own is `g` (R382). -/
def keyHolds (i g : Nat) (s : State) : Bool := (slot i s).gen == g && ancestorsHold 3 (slot i s) s

/-! ### The key cache (R380, R381) -/

/-- Writes the cache. -/
def setCache (c : List (Nat × Nat × Nat)) (s : State) : State := wr F.KEYS.CACHE_VALID c.length { s with cache := c }

/-- Looks up a node's key under a slot and its GEN: a hit becomes the most recently used; both are counted. -/
def cacheLookup (n sl g : Nat) (s : State) : Bool × State :=
  if (n, sl, g) ∈ s.cache then
    (true, inc F.KEYS.CACHE_HITS (setCache ((n, sl, g) :: s.cache.filter (· ≠ (n, sl, g))) s))
  else (false, inc F.KEYS.CACHE_MISSES s)

/-- A fetched key enters its set of four ways, in place of the node's former entry or of the least recently used. -/
def cacheInsert (n sl g : Nat) (s : State) : State :=
  let c := s.cache.filter (fun x => x.1 ≠ n)
  let set := c.filter (fun x => x.1 % 1024 == n % 1024)
  let c := if 4 ≤ set.length then
      match set.getLast? with
      | some v => c.filter (· ≠ v)
      | none => c
    else c
  setCache ((n, sl, g) :: c) s

/-- The node's entry is discarded (R381). -/
def cacheDrop (n : Nat) (s : State) : State :=
  if s.cache.any (fun x => x.1 == n) then setCache (s.cache.filter (fun x => x.1 ≠ n)) s else s

/-! ### Frame cipher engines (R395 to R400) -/

/-- What a request for a context gives: an engine, or the code that the frame ends with. -/
inductive Context where
  | on (engine : Nat) | refused (d : Disp)
deriving DecidableEq, Repr

/-- The in-service engine with the fewest contexts, the lower number among equals (R398). -/
def leastLoaded (s : State) : Option Nat :=
  let serving := (List.range 9).filter (fun e => rd (F.FCRYPTO.ENGINE_STATE e) s == 0)
  ((if inBivouac s then serving.take 1 else serving).filter (fun e => decide (rd (F.FCRYPTO.ENGINE_CONTEXTS e) s < 32))).foldl (fun b e =>
      match b with
      | none => some e
      | some x =>
        if rd (F.FCRYPTO.ENGINE_CONTEXTS e) s < rd (F.FCRYPTO.ENGINE_CONTEXTS x) s then some e else some x) none

/-- A context whose key becomes ready (R398); outside RUN it is refused (R416). -/
def takeEngine (s : State) : Context × State :=
  if pageState 0x31 s ≠ RUN then (.refused .dropDisabled, s)
  else
    match leastLoaded s with
    | some e => (.on e, wr (F.FCRYPTO.ENGINE_CONTEXTS e) (rd (F.FCRYPTO.ENGINE_CONTEXTS e) s + 1) s)
    | none => (.refused .dropCryptoFault, inc F.FCRYPTO.NO_ENGINE s)

/-- A context ends. -/
def freeEngine (e : Option Nat) (s : State) : State :=
  match e with
  | some e => wr (F.FCRYPTO.ENGINE_CONTEXTS e) (rd (F.FCRYPTO.ENGINE_CONTEXTS e) s - 1) s
  | none => s

/-- What taking a transmit counter gives (R248, R249, R386). -/
inductive Take where
  | value (v : Nat) | wait | exhausted
deriving DecidableEq, Repr

/-- Takes the next frame counter of a slot: none left ends in exhaustion, at the ceiling the frame waits, else the
value is used up; 0xFF00_0000 warns, and 16,384 below the ceiling the next ceiling is written (R249, R386). -/
def takeCounter (i : Nat) (s : State) : Take × State :=
  let k := slot i s
  if k.txcnt = 0xFFFFFFFF then
    let s := latch 0x19 1 (wr F.MAC.TXCNT_STOP_SLOT i s)
    (.exhausted, s)
  else if k.ceil ≤ k.txcnt then (.wait, inc F.KEYS.RESERVE_WAITS s)
  else
    let s := if k.txcnt = 0xFF000000 then latch 0x19 0 (wr F.MAC.TXCNT_WARN_SLOT i s) else s
    let s := modSlot i (fun k => { k with
      txcnt := k.txcnt + 1
      writing := k.writing || (k.ceil ≤ k.txcnt + 1 + 16384 && k.ceil < 0xFFFFFFFF) }) s
    (.value k.txcnt, s)

end Sys2Proof.Machine
end

