-- ==== Sys2Proof/Machine/Lanes.lean ====
section
/-! DEFINITION. The channelizer, the detection engine, the lane pool and the shared gain (R151 to R193), with the
reception rules of the PHY (R200 to R213). -/

namespace Sys2Proof.Machine

/-! ### Front ends: which serves which -/

/-- A physical front end's record. FE2 starts in the 2.4 GHz band (R105). -/
def fe (n : Nat) (s : State) : Fe :=
  look s.fes n { centre := (F.FE.TUNE_CENTRE_HZ n).reset, band := (F.FE.SPAN_BAND n).reset }

/-- Writes a front end's record. -/
def setFe (n : Nat) (f : Fe) (s : State) : State := { s with fes := insert s.fes n f }

/-- Changes a front end's record. -/
def modFe (n : Nat) (f : Fe → Fe) (s : State) : State := setFe n (f (fe n s)) s

/-- RF_STATE codes (R108). -/
def RF_OFF : Nat := 0
/-- R108. -/
def RF_STANDBY : Nat := 1
/-- R108. -/
def RF_SYNTH_CAL : Nat := 2
/-- R108. -/
def RF_SETTLE : Nat := 3
/-- R108. -/
def RF_RX : Nat := 4
/-- R108. -/
def RF_RX_TX : Nat := 5
/-- R108. -/
def RF_TX : Nat := 6
/-- R108. -/
def RF_TX_RX : Nat := 7
/-- R108. -/
def RF_CAL : Nat := 8
/-- R108. -/
def RF_RELIEVED : Nat := 9
/-- R108. -/
def RF_RETIRED : Nat := 10

/-- The page of front end `n`. -/
def fePage (n : Nat) : Nat := 0x08 + n % 4

/-- RF_STATE of a physical front end. -/
def rf (n : Nat) (s : State) : Nat := rd (F.FE.RF_STATE_STATE n) s

/-- FE3.ROLE.MODE (R117). -/
def role (s : State) : Nat := rd (F.FE.ROLE_MODE 3) s

/-- FE3.ROLE.FOR. -/
def roleFor (s : State) : Nat := rd (F.FE.ROLE_FOR 3) s

/-- Whether FE3 takes the detections and transmissions of FEk in a relief: from hand-over to handback (R119). -/
def relieves (k : Nat) (s : State) : Bool :=
  match s.relief with
  | some r => r.k == k && (r.stage == .relieving || r.stage == .calibrating || r.stage == .refilling)
  | none => false

/-- Whether a page state leaves its front end serving (R322). -/
def feServes (n : Nat) (s : State) : Bool := !(pageState (fePage n) s ∈ [OFF, STOPPED, FAULT, RETIRED])

/-- The physical front end that transmits for logical front end `n` (R118, R119, R123, R322). -/
def txServer (n : Nat) (s : State) : Option Nat :=
  if relieves n s then some 3
  else if role s = 2 ∧ roleFor s = n then (if feServes 3 s then some 3 else none)
  else if n = 3 then (if role s = 1 ∧ feServes 3 s then some 3 else none)
  else if feServes n s then some n
  else none

/-- Whether FE3 listens through for `n`: neither suspended nor waiting for FEk to resume (R123, R125). -/
def listensThrough (n : Nat) (s : State) : Bool :=
  role s == 3 && roleFor s == n && n != 3 && !isSet (F.FE.LT_SUSPENDED 3) s && !(fe 3 s).resuming

/-- The physical front end that receives for logical front end `n`. -/
def rxServer (n : Nat) (s : State) : Option Nat :=
  if listensThrough n s then (if feServes 3 s then some 3 else none) else txServer n s

/-- Whether coexistence is on for a front end (R132, R135). -/
def coexOn (p : Nat) (s : State) : Bool := isSet (F.COEX.CFG_ENABLE p) s && pageState 0x0D s == RUN

/-- REQ rises, with PRI, while coexistence is on, and is counted (R132, R133). -/
def raiseReq (p : Nat) (pri : Bool) (s : State) : State :=
  if coexOn p s then modFe p (fun f => { f with req := true, pri, reqOff := none }) (inc (F.COEX.REQUESTS p) s) else s

/-- REQ and PRI fall at once; in a switch-over gap they hold (R590). -/
def lowerReq (p : Nat) (s : State) : State :=
  if linesHeld s then s else modFe p (fun f => { f with req := false, pri := false, reqOff := none }) s

/-- REQ and PRI fall with PA_EN, RAMP + 1 µs into TX_RX (R132). There is one REQ per front end: where an answer went before a
committed frame whose request was raised, it falls with the answer's PA_EN and is not raised again for the frame (DESIGN CHOICE, log
entry 22). -/
def reqFalls (p : Nat) (s : State) : State :=
  if linesHeld s then s
  else modFe p (fun f => { f with reqOff := some (s.now + (rd (F.FE.LINES_RAMP p) s + 1) * 1000) }) s

/-- Whether REQ is raised now. -/
def reqUp (p : Nat) (s : State) : Bool :=
  (fe p s).req && (match (fe p s).reqOff with
    | some t => decide (s.now < t)
    | none => true)

/-- The logical front end that a physical one serves, RF_STATE.LOGICAL (R118). -/
def logicalOf (p : Nat) (s : State) : Nat := rd (F.FE.RF_STATE_LOGICAL p) s

/-- Half the span of a band and width, in Hz (R105). -/
def halfSpan (band width : Nat) : Nat :=
  if band = 0 then [4000000, 8000000, 16000000].getD width 16000000
  else [10500000, 21000000, 42000000].getD width 42000000

/-- The bin spacing in units of 1/256 Hz (R151): input rate divided by 256. -/
def binSpacing256 (band width : Nat) : Nat :=
  if band = 0 then [10000000, 20000000, 40000000].getD width 40000000
  else [25000000, 50000000, 100000000].getD width 100000000

/-- The channelizer input rate in samples per second (R151). -/
def sampleRate (band width : Nat) : Nat := binSpacing256 band width

/-- |a - b|. -/
def dist (a b : Nat) : Nat := (a - b) + (b - a)

/-- Whether a channel lies within the span of a front end (R107, R155); spacing in Hz. -/
def inSpan (f : Fe) (hz spacing : Nat) : Bool := 2 * dist hz f.centre + spacing ≤ 2 * halfSpan f.band f.width

/-- The bins a channel covers: centres within f ± max(spacing, bin spacing)/2, at least one (R153). A bin outside the span has no
energy (R152), so a channel that covers one has no valid energy. -/
def channelBins (f : Fe) (hz spacing : Nat) : List Nat :=
  let bs := binSpacing256 f.band f.width
  let half := max (spacing * 256) bs
  (List.range 256).filter (fun b =>
    let c : Int := (f.centre : Int) * 256 + ((b : Int) - 128) * bs
    (2 * (c - (hz : Int) * 256)).natAbs ≤ half)

/-- The centre bin of a channel: the bin whose centre lies nearest. -/
def centreBin (f : Fe) (hz : Nat) : Nat :=
  let bs := binSpacing256 f.band f.width
  (clamp 0 255 (128 + (2 * ((hz : Int) - f.centre) * 256 + bs) / (2 * bs))).toNat

/-! ### Listen sets -/

/-- The centre of channel `c` of a listen set (R155). -/
def channelHz (n set c : Nat) (s : State) : Nat :=
  rd (F.CHAN.LISTEN_CH0_HZ n set) s + c * rd (F.CHAN.LISTEN_RASTER_SPACING_KHZ n set) s * 1000

/-- Whether channel `c` of set `set` of logical front end `n` meets R155 for physical front end `p`. -/
def channelMeets (n set c p : Nat) (s : State) : Bool :=
  isSet (F.CHAN.LISTEN_CFG_ENABLE n set) s && c < rd (F.CHAN.LISTEN_RASTER_COUNT n set) s &&
    modeInBand (rd (F.CHAN.LISTEN_CFG_MODE n set) s) (fe p s).band &&
    inSpan (fe p s) (channelHz n set c s) (rd (F.CHAN.LISTEN_RASTER_SPACING_KHZ n set) s * 1000)

/-- LISTEN_STATUS of one set (R155). -/
def listenCount (n set : Nat) (s : State) : Nat :=
  match rxServer n s with
  | none => 0
  | some p =>
    if isSet (F.CHAN.LISTEN_CFG_ENABLE n set) s then
      ((List.range (rd (F.CHAN.LISTEN_RASTER_COUNT n set) s)).filter (fun c => channelMeets n set c p s)).length
    else 0

/-- LISTEN_STATUS of every set brought up to date. -/
def refreshListen (s : State) : State :=
  (List.range 32).foldl (fun s i => wr (F.CHAN.LISTEN_STATUS (i / 8) (i % 8)) (listenCount (i / 8) (i % 8) s) s) s

/-! ### Lanes -/

/-- A lane; lanes 128 to 135 start in RESERVE (R165, R192). -/
def lane (i : Nat) (s : State) : Lane := look s.lanes i (if i < 128 then {} else { state := .reserve })

/-- Bound: from WAKING to ENDING. -/
def Lane.bound (l : Lane) : Bool := l.state ∈ [.waking, .search, .header, .payload, .ending]

/-- Reading a front end's samples: bound and before ENDING. -/
def Lane.reading (l : Lane) : Bool := l.state ∈ [.waking, .search, .header, .payload]

/-- In service (R165): IDLE, bound or in the idle self-check. -/
def Lane.inService (l : Lane) : Bool := l.bound || l.state == .idle || l.state == .check

/-- Lane numbers. -/
def laneNumbers : List Nat := List.range 136

/-- Lanes bound for a logical front end, by BOUND (R192). -/
def boundCount (f : Nat) (s : State) : Nat := rd (F.LANEPOOL.BOUND f) s

/-- Whether any lane reads physical front end `p`. -/
def anyReading (p : Nat) (s : State) : Bool := s.lanes.any (fun x => x.2.reading && x.2.physical == p)

/-- Moves a count by a truth value that changes. -/
def shiftCount (f : Field) (old new : Bool) (s : State) : State :=
  match old, new with
  | true, false => wr f (rd f s - 1) s
  | false, true => wr f (rd f s + 1) s
  | _, _ => s

/-- GAIN_NOW.FROZEN follows the lanes; with none reading, a held-down gain starts afresh (R174, R176). -/
def freezeGain (p : Nat) (s : State) : State :=
  let b := anyReading p s
  let s := wrBool (F.CHAN.GAIN_NOW_FROZEN p) b s
  if b then s else modFe p (fun f => { f with forcedAt := none }) s

/-- Faults of a lane within the last 24 h. -/
def faults24 (l : Lane) (now : Nat) : Nat := (l.faultTimes.filter (fun t => now < t + 86400000000000)).length

/-- The time for which a lane has been bound, in nanoseconds. -/
def busyTime (l : Lane) (now : Nat) : Nat := l.busyNs + (if l.bound then now - l.boundAt else 0)

/-- SEQ of a lane record (R182): time alone has changed BUSY_S, CATCHING_UP or FAULTS since SEQ was last advanced as often as it
counts here. -/
def laneSeq (l : Lane) (now : Nat) : Nat :=
  let busy := busyTime l now / 1000000000 - busyTime l l.seqAt / 1000000000
  let live := if l.bound && decide (l.seqAt < l.liveAt) && decide (l.liveAt ≤ now) then 1 else 0
  (l.seq + 2 * (busy + live + (faults24 l l.seqAt - faults24 l now))) % 2 ^ 32

/-- Writes a lane, with SEQ even again (R182) and the pool's counts (R192). The specification does not say whether IN_SERVICE and
COUNTS.IN_SERVICE fall for the lanes that R613 leaves out of service in bivouac: they stay counted, and only take no binding (DESIGN
CHOICE, log entry 24). -/
def setLane (i : Nat) (l : Lane) (s : State) : State :=
  let o := lane i s
  let s := { s with lanes := insert s.lanes i { l with seq := (laneSeq o s.now + 2) % 2 ^ 32, seqAt := s.now } }
  let s := if o.bound && !l.bound || o.bound && o.logical != l.logical then
    wr (F.LANEPOOL.BOUND o.logical) (rd (F.LANEPOOL.BOUND o.logical) s - 1) s else s
  let s := if l.bound && (!o.bound || o.logical != l.logical) then
    let s := wr (F.LANEPOOL.BOUND l.logical) (rd (F.LANEPOOL.BOUND l.logical) s + 1) s
    peak (F.LANEPOOL.BOUND_PEAK l.logical) (rd (F.LANEPOOL.BOUND l.logical) s) s else s
  let s := shiftCount F.LANEPOOL.COUNTS_IN_SERVICE o.inService l.inService s
  let s := shiftCount F.LANEPOOL.COUNTS_RESERVE (o.state == .reserve) (l.state == .reserve) s
  let s := shiftCount F.LANEPOOL.COUNTS_RETIRED (o.state == .retired) (l.state == .retired) s
  let s := if o.inService == l.inService then s
    else if l.inService then orBits (F.LANEPOOL.IN_SERVICE (i / 32)) (2 ^ (i % 32)) s
    else clearBits (F.LANEPOOL.IN_SERVICE (i / 32)) (2 ^ (i % 32)) s
  let s := if o.reading && o.physical != l.physical then freezeGain o.physical s else s
  if o.reading || l.reading then freezeGain l.physical s else s

/-- Changes a lane. -/
def modLane (i : Nat) (f : Lane → Lane) (s : State) : State := setLane i (f (lane i s)) s

/-- Changes fields of the records of the lanes that satisfy `q`, each with SEQ even again (R182); no lane changes its state. -/
def changeLanes (q : Lane → Bool) (g : Lane → Lane) (s : State) : State :=
  { s with lanes := mapTbl (fun _ l => if q l then { g l with seq := (laneSeq l s.now + 2) % 2 ^ 32, seqAt := s.now } else l) s.lanes }

/-- A captor lets go of its victims; one with no captor left is no victim any more (R178). -/
def freeVictims (i : Nat) (s : State) : State :=
  changeLanes (fun l => decide (i ∈ l.captors)) (fun l =>
    let c := l.captors.erase i
    { l with captors := c, victim := !c.isEmpty, peer := if c.isEmpty then l.prey else c.head? }) s

/-- The gain index of a front end moves; the records of the lanes bound on it show the index now (R181). -/
def setGain (p i : Nat) (s : State) : State :=
  changeLanes (fun l => l.bound && l.physical == p) (fun l => { l with gainNow := i })
    (wr (F.CHAN.GAIN_NOW_INDEX p) i (modFe p (fun f => { f with
      stepAt := s.now, downAt := if rd (F.CHAN.GAIN_NOW_INDEX p) s < i then some s.now else f.downAt, gainLog := (s.now, rd (F.CHAN.GAIN_NOW_INDEX p) s) :: f.gainLog.filter (fun x => s.now < x.1 + 10000000) }) s))

/-- The gain index of a front end at time `t` within the last 10 ms: what the first step after it moved from, else the present
index. -/
def indexAt (p t : Nat) (s : State) : Nat :=
  match ((fe p s).gainLog.filter (fun x => decide (t < x.1))).getLast? with
  | some x => x.2
  | none => rd (F.CHAN.GAIN_NOW_INDEX p) s

/-- A lane is released to IDLE; `d` is the disposition with which its frame ended on the lane, if it did (R167,
R181). -/
def releaseLane (i : Nat) (d : Option Disp) (s : State) : State :=
  let s := modLane i (fun l => { l with
    state := .idle, outcome := d, endUs := deviceUs s, idleSince := s.now, freeing := none, busyNs := l.busyNs + (s.now - l.boundAt)
    gainNow := rd (F.CHAN.GAIN_NOW_INDEX l.physical) s, fifo := 0, captors := []
    passed := if d.isNone then (l.passed + 1) % 2 ^ 32 else l.passed
    rx := { l.rx with engine := none } }) (freeEngine (lane i s).rx.engine s)
  freeVictims i s

/-- The counters that follow a disposition reached on a lane (R192, R260). -/
def countLaneEnd (f : Nat) (d : Disp) (s : State) : State :=
  match d with
  | .dropCaptured => inc (F.LANEPOOL.CAPTURED f) s
  | .dropGainStep => inc (F.LANEPOOL.GAIN_MARKED f) s
  | .dropTxPreempt => inc (F.LANEPOOL.TX_PREEMPTED f) s
  | .dropAddr => inc F.MAC.ADDR_DROPS s
  | .dropAuth => inc F.MAC.AUTH_DROPS s
  | .dropReplay => inc F.MAC.REPLAY_DROPS s
  | .dropKeyUnknown => inc F.MAC.KEY_UNKNOWN s
  | .dropKeyRevoked => inc F.MAC.KEY_REVOKED s
  | .dropCryptoFault => inc F.MAC.CRYPTO_FAULTS s
  | _ => s

/-- The code a lane's frame takes: a marked frame's receive failure or DROP_AUTH is DROP_GAIN_STEP (R175). -/
def laneCode (l : Lane) (d : Disp) : Disp :=
  if l.gainStep ∧ (d = .dropSyncFail ∨ d = .dropPhrBad ∨ d = .dropFcs ∨ d = .dropAuth) then .dropGainStep
  else d

/-- A lane's frame has its disposition: counted, entered in the ledger and in the node's statistics. -/
def closeLane (l : Lane) (d : Disp) (s : State) : State := rxStat l.nodeIndex d (close l.frame d (countLaneEnd l.logical d s))

/-- A lane's frame ends on the lane, and the lane is released; a lane that only waits for its FIFO is released as its verdict
left it. -/
def endLane (i : Nat) (d : Disp) (s : State) : State :=
  let l := lane i s
  match l.freeing with
  | some o => releaseLane i o s
  | none => releaseLane i (some (laneCode l d)) (closeLane l (laneCode l d) s)

/-- The octets of the packet buffer in use, of its 6 MiB (R19): those of the frames, packets and receptions that it holds, and the
two ports' staging, which is reserved (R426). The specification gives no overhead, so none is counted (DESIGN CHOICE, log
entry 24). Queued and pending downlink frames lie in it, as R617 has it; R516 and BUFFER.HIGH speak of DDR (DESIGN CHOICE, log entry
24). -/
def bufferUsed (s : State) : Nat :=
  let sum := fun (l : List Nat) => l.foldl (· + ·) 0
  2 * 262144 + sum ((s.lanes.filter (·.2.bound)).map (fun x => x.2.octets - x.2.fifo)) + sum (s.frames.map (·.2.length)) +
    sum (s.delivered.map (·.octets)) +
    sum (s.rings.map (fun x => sum (x.2.waiting.map (·.octets)) + sum (x.2.fills.map (·.item.octets)))) +
    sum (s.ports.map (fun x => sum (x.2.offers.map (·.octets)) + sum (x.2.queue.map (·.octets))))

/-- Whether the packet buffer has space for `n` octets more. -/
def bufferFits (n : Nat) (s : State) : Bool := bufferUsed s + n ≤ 6291456

/-- The packet buffer has no free space. -/
def bufferFull (s : State) : Bool := 6291456 ≤ bufferUsed s

/-- A verdict releases a lane once its capture FIFO is empty (R167): at once, since the writer drains the rest at the frame's last
octet, or while the packet buffer is full when it has space again (R184). -/
def releaseDrained (i : Nat) (o : Option Disp) (s : State) : State :=
  if (lane i s).fifo ≠ 0 ∧ bufferFull s then modLane i (fun l => { l with freeing := some o }) s else releaseLane i o s

/-- A frame ends with its verdict. -/
def endVerdict (i : Nat) (d : Disp) (s : State) : State :=
  let l := lane i s
  if l.freeing.isSome then s
  else releaseDrained i (some (laneCode l d)) (closeLane l (laneCode l d) s)

/-- A frame that passes its verdict and is consumed there (R234): the lane counts it as passed. -/
def passLane (i : Nat) (s : State) : State :=
  let l := lane i s
  releaseDrained i none (closeLane l .okDelivered s)

/-- Ends every lane that satisfies `p`. -/
def endLanes (p : Lane → Bool) (d : Disp) (s : State) : State :=
  (s.lanes.filter (fun x => x.2.bound && p x.2)).foldl (fun s x => endLane x.1 d s) s

/-- Whether any bound lane satisfies `p`. -/
def anyLane (p : Lane → Bool) (s : State) : Bool := s.lanes.any (fun x => x.2.bound && p x.2)

/-! ### Energy (R154, R157) -/

/-- The valid value of a bin in a snapshot. -/
def Snapshot.value (x : Snapshot) (b : Nat) : Option Int := find x.bins b

/-- The channel energy of a snapshot as a linear power; none while a covered bin has no value. -/
def channelPower (bins : List Nat) (x : Snapshot) : Option Nat :=
  if bins.all (fun b => (x.value b).isSome) then some (powerSum (bins.filterMap x.value)) else none

/-- A bin's noise floor: the lowest valid value within the last 100 ms (R157). The rule does not say whether values from before a
retune still count for the bin of the same number: they do (DESIGN CHOICE, log entry 24). -/
def binFloor (f : Fe) (b : Nat) (now : Nat) : Option Int :=
  ((f.energy.filter (fun x => now ≤ x.time + 100000000)).filterMap (fun x => x.value b)).foldl
    (fun m v => some (match m with | none => v | some w => min v w)) none

/-- The present energy of a channel, in linear power; none while invalid. -/
def energyNow (n hz spacing : Nat) (s : State) : Option Nat :=
  let f := fe n s
  match f.energy.head? with
  | none => none
  | some x =>
    let bins := channelBins f hz spacing
    if bins.all (fun b => (binFloor f b s.now).isSome) then channelPower bins x else none

/-- The noise floor of a channel, in linear power. -/
def channelFloor (n hz spacing : Nat) (s : State) : Option Nat :=
  let f := fe n s
  let bins := channelBins f hz spacing
  let fl := bins.map (fun b => binFloor f b s.now)
  if fl.all (·.isSome) then some (powerSum (fl.filterMap id)) else none

/-- The 0.5 dB step nearest a linear power, from -260 to +20. -/
def halfDb (p : Nat) : Int :=
  -260 + ((List.range 280).filter (fun i => linear (4 * (-260) + 4 * ((i : Int) + 1) - 2) ≤ p)).length

/-- Values of ENERGY become absent: every bin reads 0x8000 (R154). -/
def dropEnergy (n : Nat) (s : State) : State :=
  (List.range 256).foldl (fun s b => wr (F.CHAN.ENERGY n b) 0x8000 s) s

/-- A 16 µs energy update (R154): outside RX and RELIEVED, and for 128 µs after the return to RX, nothing is valid. -/
def energyUpdate (n : Nat) (bins : List (Nat × Int)) (s : State) : State :=
  let f := fe n s
  let on := rf n s = RF_RX ∨ rf n s = RF_RELIEVED
  let old := f.energy.filter (fun x => s.now ≤ x.time + 100000000)
  let bins := (bins.filter (fun x =>
    x.1 < 256 && ((x.1 : Int) - 128).natAbs * binSpacing256 f.band f.width ≤ halfSpan f.band f.width * 256)).foldl
      (fun t x => insert t x.1 x.2) []
  if on ∧ f.since + 128000 ≤ s.now then
    let s := setFe n { f with energy := { time := s.now, bins := bins } :: old } s
    bins.foldl (fun s x => wrInt (F.CHAN.ENERGY n x.1) x.2 s) s
  else
    dropEnergy n (setFe n { f with energy := { time := s.now, bins := [] } :: old } s)

/-! ### Allocation (R168 to R170, R177) -/

/-- FE_LIMIT minima that the lanes in service can meet, in the order FE0 to FE3 (R187). -/
def minima (s : State) : List Nat :=
  ((List.range 4).foldl (fun (a : Nat × List Nat) g =>
    let m := min (rd (F.LANEPOOL.FE_LIMIT_MIN g) s) a.1
    (a.1 - m, a.2 ++ [m])) (rd F.LANEPOOL.COUNTS_IN_SERVICE s, [])).2

/-- The IDLE lanes in service; in bivouac only the 8 lowest-numbered lanes in service take bindings (R613). -/
def idleLanes (s : State) : List Nat :=
  let l := if inBivouac s then (laneNumbers.filter (fun i => (lane i s).inService)).take 8 else laneNumbers
  l.filter (fun i => (lane i s).state == .idle)

/-- Two channels are the same when their centres differ by less than half the larger spacing (R159). -/
def sameChannel (hz1 sp1 hz2 sp2 : Nat) : Bool := 2 * dist hz1 hz2 < max sp1 sp2

/-- The lanes bound on a channel of a logical front end. A frame heard on two overlapping spans has a lane on each (R237). -/
def lanesOn (f hz spacing : Nat) (s : State) : List Nat :=
  (s.lanes.filter (fun x => x.2.bound && x.2.logical == f && sameChannel x.2.hz x.2.spacing hz spacing)).map (·.1)

/-- Steps 2 and 3 of R168. -/
def mayBind (f : Nat) (s : State) : Bool :=
  boundCount f s < rd (F.LANEPOOL.FE_LIMIT_MAX f) s &&
    ((List.range 4).map (fun g => if g = f then 0 else (minima s).getD g 0 - boundCount g s)).foldl (· + ·) 0 + 1
      ≤ (idleLanes s).length

/-- The lane that has been IDLE longest, the lowest number among equals (R168 step 4). -/
def longestIdle (s : State) : Option Nat :=
  (idleLanes s).foldl (fun b i =>
    match b with
    | none => some i
    | some j => if (lane i s).idleSince < (lane j s).idleSince then some i else some j) none

/-- Whether a lane on the channel was pre-empted within the last 1 ms (R169). -/
def recentPreempt (hz spacing : Nat) (s : State) : Bool :=
  s.preempts.any (fun p => sameChannel p.1 p.2.1 hz spacing && s.now < p.2.2 + 1000000)

/-- Whether a lane may be pre-empted for an offer of `f` at `rssi` (R169). -/
def preemptable (f : Nat) (rssi : Int) (l : Lane) (s : State) : Bool :=
  (l.state == .waking || l.state == .search) && l.rssi < rssi && !recentPreempt l.hz l.spacing s &&
    (l.logical == f ||
      (boundCount f s < rd (F.LANEPOOL.FE_LIMIT_MAX f) s &&
        (minima s).getD l.logical 0 < boundCount l.logical s))

/-- The victim of R169: lowest DETECT_RSSI, the most recently bound among equals. The rule chooses no lane among those bound at the
same instant: the lowest number is taken (DESIGN CHOICE, log entry 24). -/
def preemptVictim (f : Nat) (rssi : Int) (s : State) : Option Nat :=
  (laneNumbers.filter (fun i => preemptable f rssi (lane i s) s)).foldl (fun b i =>
    match b with
    | none => some i
    | some j =>
      let x := lane i s
      let y := lane j s
      if x.rssi < y.rssi ∨ (x.rssi = y.rssi ∧ y.boundAt < x.boundAt) then some i else some j) none

/-- What a detection offers (R157). -/
structure Offer where
  logical  : Nat
  physical : Nat
  set      : Nat
  channel  : Nat
  hz       : Nat
  spacing  : Nat
  mode     : Nat
  rssi     : Int
  freq     : Int
  floor    : Int
  window   : Nat
deriving DecidableEq, Repr

/-- When the sample with index `w` was taken: the latest such, since the index wraps at 2^32 (R163). -/
def sampleTime (f : Fe) (w now : Nat) : Nat :=
  let n := (now - f.since) * sampleRate f.band f.width / 1000000000
  f.since + (n - (n + 2 ^ 32 - w % 2 ^ 32) % 2 ^ 32) * 1000000000 / sampleRate f.band f.width

/-- The start sample of R164 as a time: the window start less PRE_ROLL. -/
def lookBack (o : Offer) (s : State) : Nat := sampleTime (fe o.physical s) o.window s.now - rd F.LANEPOOL.PRE_ROLL s * 1000

/-- The first valid sample the lane can read: not before the 256 µs the ring holds, not before the front end's
entry to RX, and after the settling of the last gain step within the look-back, which is its last invalid sample (R163,
R164). -/
def startTime (o : Offer) (s : State) : Nat :=
  let f := fe o.physical s
  let t := max (lookBack o s) (max f.since (s.now - 256000))
  if f.stepAt ≠ 0 ∧ t < f.stepAt + 1000 then f.stepAt + 1000 else t

/-- Whether the ADC counts as saturated now (R174, R190): each 2 µs of saturation is reported by itself, and it is taken to last
until the next report is due (DESIGN CHOICE, log entry 24). -/
def saturated (p : Nat) (s : State) : Bool :=
  match (fe p s).satAt with
  | some t => decide (s.now ≤ t + 2000)
  | none => false

/-- Whether a lane bound now is marked with GAIN_STEP (R174): saturation at index 7 continues, or its start sample precedes the end
of a forced step's settling. The start sample is the nominal one, before R164 moves it past that settling, since no other
could precede its end (DESIGN CHOICE, log entry 24). -/
def bornMarked (o : Offer) (s : State) : Bool :=
  (saturated o.physical s && rd (F.CHAN.GAIN_NOW_INDEX o.physical) s == 7) ||
    match (fe o.physical s).forcedLast with
    | some t => decide (lookBack o s < t + 1000)
    | none => false

/-- Binds lane `i` to an offer (R166): the record describes the new frame (R181). PEER names the victim bound most recently; among
victims bound at the same instant, for which R177 names none, the highest number (DESIGN CHOICE, log entry 24). R181 gives PEER of a
lane that is victim and captor at once two meanings: it names the newest captor, and once that lane has no captor left its own
victim (DESIGN CHOICE, log entry 24). -/
def bindLane (i : Nat) (o : Offer) (victims : List Nat) (preempted : Option Disp) (s : State) : State :=
  let f := fe o.physical s
  let l := lane i s
  let newest := victims.foldl (fun b v =>
    match b with
    | none => some v
    | some w => if (lane w s).boundAt ≤ (lane v s).boundAt then some v else some w) none
  let (id, s) := newFrame s
  let rssi := clamp (-260) 20 o.rssi
  let marked := bornMarked o s
  let s := setLane i { l with
    state := .waking, gainStep := marked, victim := false, captor := !victims.isEmpty
    preempted := preempted.isSome, outcome := preempted, listenThrough := role s == 3 && o.physical == 3
    logical := o.logical, physical := o.physical, set := o.set, mode := o.mode
    channel := o.channel, bin := centreBin f o.hz, peer := newest, detectUs := deviceUs s
    startSample := (startTime o s - f.since) * sampleRate f.band f.width / 1000000000 % 2 ^ 32
    rssi := rssi, freq := o.freq, floor := o.floor
    digitalGain := (clamp 0 127 (Config.gainReference - rssi)).toNat
    gainStart := rd (F.CHAN.GAIN_NOW_INDEX o.physical) s, gainNow := rd (F.CHAN.GAIN_NOW_INDEX o.physical) s
    length := 0, octets := 0, syncErrors := 0, nodeIndex := none, counter := 0, binds := (l.binds + 1) % 2 ^ 32
    fifo := 0, frame := id, hz := o.hz, spacing := o.spacing, captors := [], boundAt := s.now
    prey := newest, liveAt := 0
    searchFrom := startTime o s, gapUntil := 0, coded := false, ext := false, whitened := false, fcs2 := false
    switched := false, tol16 := rd (F.PHY.SYNC_CFG_TOL16 o.logical) s, tol32 := rd (F.PHY.SYNC_CFG_TOL32 o.logical) s
    form := rd (F.PHY.SYNC_CFG_RX_FORM o.logical) s, follow := isSet F.PHY.MS_CFG_FOLLOW s
    ofdmFcs2 := isSet F.PHY.OFDM_CFG_FCS_2 s, gapUs := rd F.PHY.MS_CFG_GAP_US s
    sfdSet := rd (F.PHY.SYNC_CFG_SFD_SET o.logical) s, word32 := rd F.PHY.SYNC32_UNCODED s
    coded32 := rd F.PHY.SYNC32_CODED s, seed := 0, gainSync := rd (F.CHAN.GAIN_NOW_INDEX o.physical) s, due := 0, freeing := none, rx := {} } s
  let s := modFe o.physical (fun f => { f with reports := f.reports.map (fun r =>
    if r.set = o.set ∧ r.hz = o.hz then { r with lane := some i } else r) }) s
  victims.foldl (fun s v => modLane v (fun l =>
    { l with victim := true, captors := i :: l.captors, peer := some i }) s) s

/-- Notes that the preamble on a channel has been offered in vain, or is offered again (R170). -/
def noteStarved (p hz : Nat) (s : State) : State :=
  modFe p (fun f =>
    let rest := f.starved.filter (fun x => x.1 ≠ hz && decide (s.now ≤ x.2 + 65000))
    { f with starved := (hz, s.now) :: rest }) s

/-- Whether the preamble on a channel has been counted as starved: `again` marks an offer that follows the previous one
by 64 µs with no break in the preamble (R170). -/
def starvedBefore (p hz : Nat) (again : Bool) (s : State) : Bool :=
  again && (fe p s).starved.any (fun x => x.1 == hz && decide (s.now ≤ x.2 + 65000))

/-- An offer to the lane pool (R168 to R170): a free lane, a pre-empted one, or none. A preamble is counted as starved
once. R177 does not say what the record shows of a victim of the candidate's own whose lane is taken: it is not pre-empted, so
PREEMPTED, ENDED_ON_LANE and OUTCOME read 0 as at a binding from IDLE (DESIGN CHOICE, log entry 24). -/
def offer (o : Offer) (again : Bool) (s : State) : State :=
  let on := lanesOn o.logical o.hz o.spacing s
  if pageState 0x11 s ≠ RUN then s
  else if mayBind o.logical s then
    match longestIdle s with
    | some i => bindLane i o on none s
    | none => s
  else
    match preemptVictim o.logical o.rssi s with
    | some v =>
      let l := lane v s
      if v ∈ on then
        let s := endLane v .dropCaptured s
        bindLane v o (on.filter (· ≠ v)) none s
      else
        let s := endLane v .dropSyncFail s
        let d := laneCode l .dropSyncFail
        let s := { s with preempts := (l.hz, l.spacing, s.now) ::
          s.preempts.filter (fun p => s.now < p.2.2 + 1000000) }
        let s := latch 0x11 1 (inc (F.LANEPOOL.PREEMPTED l.logical) s)
        bindLane v o on (some d) s
    | none =>
      let t := noteStarved o.physical o.hz s
      if starvedBefore o.physical o.hz again s then t else latch 0x11 0 (inc (F.LANEPOOL.STARVED o.logical) t)

/-- Whether a physical front end's engine searches (R162, R119, R176): RX, page RUN, CHAN in RUN with the bit set,
no retune or unrelieved calibration waiting, no recovery, and this front end takes the detections. -/
def searches (p : Nat) (s : State) : Bool :=
  let n := logicalOf p s
  rf p s == RF_RX && pageState (fePage p) s == RUN && pageState 0x10 s == RUN &&
    (rd F.CHAN.DETECT_EN s).testBit n && !isSet (F.FE.RF_STATE_RETUNE_PENDING p) s &&
    (fe p s).waiting.isEmpty && !(fe p s).recovering && rxServer n s == some p

/-- Whether the channel is closed to new lanes by listen-through's 2 MHz guard, while FEk is in RX_TX, TX or TX_RX (R124). -/
def guardedChannel (p hz : Nat) (s : State) : Bool :=
  role s == 3 && p == 3 && (rf (roleFor s) s ∈ [RF_RX_TX, RF_TX, RF_TX_RX]) &&
    decide (dist hz (fe (roleFor s) s).lastHz < 2000000)

/-- The reports of the present 8 µs interval that name the channel from another set (R159). The interval is a multiple of 8 µs of
the model's time (DESIGN CHOICE, log entry 24). -/
def rivals (p set hz spacing : Nat) (s : State) : List Report :=
  (fe p s).reports.filter (fun r => r.at_ / 8000 == s.now / 8000 && r.set != set && sameChannel r.hz r.spacing hz spacing)

/-- A report is noted for the rest of its 8 µs interval (R159). -/
def noteReport (p set hz spacing metric : Nat) (s : State) : State :=
  let r : Report := { at_ := s.now, hz, spacing, set, metric }
  modFe p (fun f => { f with reports := r :: f.reports.filter (fun x => x.at_ / 8000 == s.now / 8000) }) s

/-- A better report of the same 8 µs interval takes the place of the one that lane `i` was bound for (R159): the binding stands,
and describes this report, whatever the beaten one displaced: the model cannot know a later report of the interval when the first
comes (DESIGN CHOICE, log entry 24). -/
def retake (i : Nat) (o : Offer) (s : State) : State :=
  let rssi := clamp (-260) 20 o.rssi
  let f := fe o.physical s
  modLane i (fun l => { l with
    set := o.set, mode := o.mode, channel := o.channel, bin := centreBin f o.hz, hz := o.hz, spacing := o.spacing
    startSample := (startTime o s - f.since) * sampleRate f.band f.width / 1000000000 % 2 ^ 32
    rssi := rssi, freq := o.freq, floor := o.floor, digitalGain := (clamp 0 127 (Config.gainReference - rssi)).toNat
    searchFrom := startTime o s }) s

/-- A report is offered to the lane pool while the engine has offers left in this microsecond (R160), and counted. -/
def offerReport (o : Offer) (again : Bool) (s : State) : State :=
  let p := o.physical
  let f := fe p s
  let us := s.now / 1000
  let count := if f.offerUs = us then f.offers else 0
  if 16 ≤ count then
    let s := if starvedBefore p o.hz again s then noteStarved p o.hz s else s
    latch 0x10 0 (inc (F.CHAN.OVERLOAD p) s)
  else
    let r := f.reports.map (fun r => if r.set = o.set ∧ r.hz = o.hz then { r with offered := true } else r)
    offer o again (inc (F.CHAN.DETECTIONS p) (setFe p { f with offerUs := us, offers := count + 1, reports := r } s))

/-- A better report in the place of those in `beaten`, of which one was offered in vain (R159): the offer is the same, so it is
counted once, and as starved once. -/
def offerBetter (o : Offer) (beaten : List Report) (s : State) : State :=
  if (fe o.physical s).starved.any (fun x => beaten.any (fun r => r.hz == x.1) && decide (s.now ≤ x.2 + 65000)) then
    offer o true (noteStarved o.physical o.hz s)
  else offer o false s

/-- The lane of a beaten report that can still take the better one: not yet past its search. -/
def beatenLane (l : List Report) (s : State) : Option Nat :=
  l.findSome? (fun r => match r.lane with
    | some i => if (lane i s).state = .waking ∨ (lane i s).state = .search then some i else none
    | none => none)

/-- A declared detection (R157 to R160, R177); RSSI spans -130 to +10 dBm (R28). -/
def detect (p set channel metric : Nat) (rssi freq : Int) (window : Nat) (again : Bool) (s : State) : State :=
  let n := logicalOf p s
  let hz := channelHz n set channel s
  let sp := rd (F.CHAN.LISTEN_RASTER_SPACING_KHZ n set) s * 1000
  let rssi := clamp (-260) 20 rssi
  if searches p s ∧ channelMeets n set channel p s ∧ rd (F.CHAN.LISTEN_DETECT_CORR_MIN n set) s ≤ metric ∧
      ¬ guardedChannel p hz s then
    match energyNow p hz sp s, channelFloor p hz sp s with
    | some e, some fl =>
      let snr := rdInt (F.CHAN.LISTEN_DETECT_SNR_MIN n set) s
      if e * 10 ^ 12 < fl * linear (4 * snr) / 10 ^ 40 then s
      else
        let others := rivals p set hz sp s
        let s := noteReport p set hz sp metric s
        let o : Offer :=
          { logical := n, physical := p, set, channel, hz, spacing := sp, mode := rd (F.CHAN.LISTEN_CFG_MODE n set) s
            rssi, freq, floor := halfDb fl, window }
        if others.any (fun r => decide (metric < r.metric) || r.metric == metric && decide (r.set < set)) then s
        else
          match beatenLane others s with
          | some i => retake i o s
          | none =>
            let on := lanesOn n hz sp s
            let best := (on.map (fun i => (lane i s).rssi)).foldl max (-10000)
            if on.isEmpty ∨ (isSet F.LANEPOOL.CAPTURE_ENABLE s ∧ best + 2 * rd F.LANEPOOL.CAPTURE_MARGIN_DB s ≤ rssi) then
              if others.any (·.offered) then offerBetter o others s else offerReport o again s
            else s
    | _, _ => s
  else s

/-! ### A lane's reception (R166, R167, R202, R207 to R213) -/

/-- The lane's clock runs and it reads from its start sample (R166): reading at twice real time, it is live once as
much time again has passed as it lags now (R164). -/
def laneAwake (i : Nat) (s : State) : State :=
  if (lane i s).state = .waking then
    modLane i (fun l => { l with state := .search, liveAt := 2 * s.now - l.searchFrom }) s
  else s

/-- A lane's own sync failure: of a victim DROP_CAPTURED, which prevails over the mark (R178). -/
def syncFails (i : Nat) (s : State) : State := endLane i (if (lane i s).victim then .dropCaptured else .dropSyncFail) s

/-- Preamble loss: suspended within the gap after a followed mode switch (R167, R213). -/
def preambleLoss (i : Nat) (s : State) : State :=
  if (lane i s).state = .search ∧ (lane i s).gapUntil ≤ s.now then syncFails i s else s

/-- SEARCH_MAX passes without sync (R167). -/
def searchExpiry (i : Nat) (s : State) : State := if (lane i s).state = .search then syncFails i s else s

/-- A searched sync value: coded or not, the extended word or the SFD, and the differing bits. -/
structure SyncHit where
  coded  : Bool
  ext    : Bool
  errors : Nat
deriving DecidableEq, Repr

/-- The searched values that match at a bit position, in the order in which equal ones are preferred: the uncoded value, then the SFD
(R200, R202). -/
def syncHits (l : Lane) (bits : Nat) : List SyncHit :=
  let sfd := fun (c : Bool) => ({ coded := c, ext := false, errors := bitsApart 16 (bits / 2 ^ 16) (sfdWord l.sfdSet c) } : SyncHit)
  let word := fun (c : Bool) =>
    ({ coded := c, ext := true, errors := bitsApart 32 bits (if c then l.coded32 else l.word32) } : SyncHit)
  [sfd false, word false, sfd true, word true].filter (fun h =>
    if h.ext then l.form != 0 && decide (h.errors ≤ l.tol32) else l.form != 1 && decide (h.errors ≤ l.tol16))

/-- The match that a lane takes: the fewest differing bits, the first among equals (R202). -/
def bestHit (hits : List SyncHit) : Option SyncHit :=
  hits.foldl (fun b h => match b with
    | none => some h
    | some x => if h.errors < x.errors then some h else some x) none

/-- How far a lane lags behind the live sample: by as much as is left until it is live (R164). -/
def laneLag (l : Lane) (now : Nat) : Nat := l.liveAt - now

/-- The lane has its sync match: HEADER, and the PHR starts with its next sample (R202, R210, R212, R241). The RSSI interval began
with the sync word, whose gain index the assay record shows (R219, R220). -/
def synced (i : Nat) (h : SyncHit) (s : State) : State :=
  let l := lane i s
  let lag := laneLag l s.now
  setLane i { l with
    state := .header, coded := h.coded, ext := h.ext, syncErrors := h.errors
    gainSync := indexAt l.physical (s.now - lag - syncNs l.mode h.ext) s
    phrMesh := meshFine s - (lag * 2 ^ 31 / 1000000000 : Nat), phrDevice := s.clock.device - lag * 2 ^ 32 } s

/-- What a lane in SEARCH makes of what it has received (R202, R210 to R212): a match within the tolerances; an OFDM carrier
offset outside ±40 kHz is not acquired, and the frame ends. -/
def syncMatch (i : Nat) (last : BitVec 32) (offset : Int) (sfd : Nat × Nat) (s : State) : State :=
  let l := lane i s
  if l.state ≠ .search then s
  else
    match modeFamily l.mode with
    | some .ofdm =>
      if 40000 < offset.natAbs then syncFails i s
      else synced i { coded := false, ext := false, errors := 0 } s
    | some .oqpsk =>
      if sfd.1 ≤ 8 ∧ sfd.2 ≤ 8 then synced i { coded := false, ext := false, errors := 0 } s else s
    | some _ =>
      match bestHit (syncHits l last.toNat) with
      | some h => inc (F.PHY.SYNC_HIST l.logical h.errors) (synced i h s)
      | none => s
    | none => s

/-- A PHR that fails (R207): counted with its reason, and the frame ends. -/
def phrBad (i reason : Nat) (s : State) : State :=
  let f := (lane i s).logical
  endLane i .dropPhrBad (wr (F.PHY.PHR_LAST f) reason (inc (F.PHY.PHR_BAD f) s))

/-- A valid PHR, which the air carried as long ago as the lane lags (R185): the lane enters PAYLOAD and its victims end as captured, but for one that has reached its last symbol (R167,
R178). -/
def phrGood (i length mode : Nat) (fcs2 whitened : Bool) (s : State) : State :=
  let s := modLane i (fun l => { l with
    state := .payload, length, mode, fcs2, whitened, due := s.now - laneLag l s.now + psduNs mode length l.coded }) s
  endLanes (fun l => decide (i ∈ l.captors) && l.state != .ending) .dropCaptured s

/-- A mode switch PHR (R213). -/
def phrSwitch (i : Nat) (ok : Bool) (mode : Nat) (s : State) : State :=
  let l := lane i s
  if !ok then phrBad i 5 s
  else if !l.follow then phrBad i 7 s
  else if !modeInBand mode (fe l.physical s).band then phrBad i 6 s
  else
    let s := setLane i { l with
      state := .search, mode, switched := true, searchFrom := s.now
      gapUntil := s.now + l.gapUs * 1000 } s
    latch 0x18 1 (inc (F.PHY.MS_RX l.logical) s)

/-- The PHR has arrived (R207, R209, R212). -/
def phrComplete (i : Nat) (p : Phr) (s : State) : State :=
  let l := lane i s
  if l.state ≠ .header then s
  else
    match p with
    | .modeSwitch ok m => if isFsk l.mode then phrSwitch i ok m s else s
    | .fsk reserved len fcs2 whitened =>
      if !isFsk l.mode then s
      else if reserved then phrBad i 2 s
      else if len < (if fcs2 then 4 else 6) then phrBad i 1 s
      else phrGood i len l.mode fcs2 whitened s
    | .ofdm hcsOk mcs reserved len seed =>
      let opt := ofdmOption l.mode
      let fcs := if l.ofdmFcs2 then 2 else 4
      if modeFamily l.mode ≠ some .ofdm then s
      else if !hcsOk then phrBad i 3 s
      else if !ofdmMcsValid opt mcs then phrBad i 4 s
      else if reserved then phrBad i 2 s
      else if len < 2 + fcs then phrBad i 1 s
      else phrGood i len (0x40 + 8 * (opt - 1) + mcs) l.ofdmFcs2 false (modLane i (fun l => { l with seed := seed.val }) s)
    | .oqpsk reserved len =>
      if modeFamily l.mode ≠ some .oqpsk then s
      else if reserved then phrBad i 2 s
      else if len < 4 then phrBad i 1 s
      else phrGood i len l.mode true false s

/-- The last symbol (R167): ENDING; a victim that gets this far completes normally (R178). R178 clears VICTIM when no captor is
left and names no other moment: at the last symbol it stays set (DESIGN CHOICE, log entry 24). -/
def lastSymbol (i : Nat) (s : State) : State :=
  if (lane i s).state = .payload then modLane i (fun l => { l with state := .ending, lastSymbol := s.now }) s else s

/-- A push into the capture FIFO of 64 octets; the writer drains 8 at a time, and the rest at the last octet, and stops only while
the packet buffer has no free space (R183, R184). `drain` says that the writer has come to this FIFO by then; a full FIFO
it always drains. -/
def capturePush (i : Nat) (drain last : Bool) (s : State) : State :=
  let l := lane i s
  if ¬ (l.state = .payload ∨ l.state = .ending) then s
  else if l.freeing.isSome then s
  else if 64 ≤ l.fifo ∧ bufferFull s then
    latch 0x11 5 (inc F.LANEPOOL.FIFO_REFUSED (endLane i .dropRingFull s))
  else
    let n := if 64 ≤ l.fifo then l.fifo - 8 + 1 else l.fifo + 1
    let n := if drain ∧ !bufferFull s then (if last then 0 else n % 8) else n
    setLane i { l with octets := l.octets + 1, fifo := n } s

/-! ### Lane faults and the reserve (R185 to R189) -/

/-- The lowest RESERVE lane. -/
def lowestReserve (s : State) : Option Nat := laneNumbers.find? (fun i => (lane i s).state == .reserve)

/-- LANE_RESERVE_EMPTY latches when a substitution leaves COUNTS.RESERVE at 0 (R193). -/
def reserveLeft (s : State) : State := if rd F.LANEPOOL.COUNTS_RESERVE s = 0 then latch 0x11 4 s else s

/-- A RESERVE lane enters service in the place of lane `i` (R186); with none, the pool goes on with fewer (R187). -/
def substitute (i : Nat) (s : State) : State :=
  match lowestReserve s with
  | some r =>
    let s := modLane r (fun l => { l with state := .idle, idleSince := s.now }) s
    let s := wr F.LANEPOOL.LAST_SUBST_FAULTY i (wr F.LANEPOOL.LAST_SUBST_SUBSTITUTE r s)
    reserveLeft (engaged 0 i r (latch 0x11 3 (incSat F.LANEPOOL.LAST_SUBST_COUNT s)))
  | none => latch 0x11 4 { s with laneDebt := s.laneDebt ++ [i] }

/-- A faulty lane (R186): its frame ends, it enters FAULT, and a RESERVE lane takes its place in service within 10 µs, after
which it is tested. A lane not in service, in RESERVE or under test, needs none in its place. -/
def laneFault (i : Nat) (parity : Bool) (s : State) : State :=
  let l := lane i s
  if l.state = .fault ∨ l.state = .retired then s
  else
    let s := if l.bound then endLane i (if parity then .dropParity else .dropSyncFail) s else s
    let s := modLane i (fun l => { l with
      state := .fault, faultTimes := s.now :: l.faultTimes.filter (fun t => s.now < t + 86400000000000)
      faultsTotal := min 255 (l.faultsTotal + 1), stepAt := s.now + 10000 }) s
    let s := latch 0x11 2 (inc F.LANEPOOL.FAULTS s)
    if l.inService then substitute i s else s

/-- When a lane in SEARCH has read SEARCH_MAX µs of samples from its start sample: at twice real time until it is live (R164,
R167). -/
def searchEnd (l : Lane) (s : State) : Nat :=
  let m := rd F.LANEPOOL.SEARCH_MAX s * 1000
  let t := (m + l.searchFrom + l.liveAt) / 2
  if t < l.liveAt then t else l.searchFrom + m

/-- Whether a lane is stuck (R185): bound 100 µs after its predicted last symbol, or in SEARCH 100 µs after SEARCH_MAX. -/
def laneStuck (i : Nat) (s : State) : Bool :=
  let l := lane i s
  match l.state with
  | .search => decide (searchEnd l s + 100000 ≤ s.now)
  | .payload | .ending => decide (l.due + 100000 ≤ s.now)
  | _ => false

/-- The lane watchdog (R185). -/
def laneWatchdog (i : Nat) (s : State) : State := if laneStuck i s then laneFault i false s else s

/-- While lanes in service are short and a RESERVE lane exists, it enters service (R187). -/
def payDebt (s : State) : State :=
  match s.laneDebt with
  | [] => s
  | i :: r => if (lowestReserve s).isSome then substitute i { s with laneDebt := r } else s

/-- A lane is withdrawn permanently, and its fuse is blown (R186, R601). -/
def retireLane (i : Nat) (s : State) : State := blowRetired 0 i (modLane i (fun l => { l with state := .retired }) s)

/-- The idle self-check of a lane begins (R188): one lane at a time, and only while at least 8 other lanes in service are IDLE.
`passed` is what it will find. -/
def laneSelfcheck (i : Nat) (passed : Bool) (s : State) : State :=
  if (lane i s).state = .idle ∧ 9 ≤ (idleLanes s).length ∧ ¬ s.lanes.any (fun x => x.2.state == .check) then
    modLane i (fun l => { l with state := .check, stepAt := s.now + 20000, checkOk := passed }) s
  else s

/-- A self-check or a fault goes on (R186, R188): a check ends after 20 µs, or is abandoned when fewer than 8 other lanes are IDLE;
a faulty lane's test begins. -/
def laneOn (i : Nat) (s : State) : State :=
  let l := lane i s
  if l.state = .check then
    if (idleLanes s).length < 8 then modLane i (fun l => { l with state := .idle, idleSince := s.now }) s
    else if s.now < l.stepAt then s
    else if l.checkOk then modLane i (fun l => { l with state := .idle, idleSince := s.now }) s
    else laneFault i false s
  else if l.state = .fault ∧ l.stepAt ≤ s.now then modLane i (fun l => { l with state := .test }) s
  else s

/-- A lane that its verdict left to drain is released once the packet buffer has space (R167). -/
def laneDrained (i : Nat) (s : State) : State :=
  match (lane i s).freeing with
  | some o => if bufferFull s then s else releaseLane i o s
  | none => s

/-- The lanes whose state changes by time or by what other lanes and the packet buffer do. -/
def lanesWaiting (s : State) : List Nat :=
  (s.lanes.filter (fun x => x.2.state == .check || x.2.state == .fault || x.2.freeing.isSome)).map (·.1)

/-- Every such lane goes on. -/
def laneStep (s : State) : State := (lanesWaiting s).foldl (fun s i => laneDrained i (laneOn i s)) s

/-! ### Shared gain (R172 to R176) -/

/-- Whether listen-through holds FE3's gain: FEk in RX_TX, TX or TX_RX (R124). -/
def gainHeld (p : Nat) (s : State) : Bool :=
  p == 3 && listensThrough (roleFor s) s && (rf (roleFor s) s ∈ [RF_RX_TX, RF_TX, RF_TX_RX])

/-- The gain falls a step: the index rises, at most once per 2 µs, to 7 (R173). -/
def gainDown (p : Nat) (s : State) : State :=
  let f := fe p s
  let i := rd (F.CHAN.GAIN_NOW_INDEX p) s
  if anyReading p s ∨ gainHeld p s ∨ i = 7 ∨ f.downAt.any (fun t => s.now < t + 2000) then s else setGain p (i + 1) s

/-- The gain rises a step: the index falls. -/
def gainUp (p : Nat) (s : State) : State :=
  let i := rd (F.CHAN.GAIN_NOW_INDEX p) s
  if anyReading p s ∨ gainHeld p s ∨ i = 0 then s else setGain p (i - 1) s

/-- Saturation for 2 µs (R174): ADC_SATURATED latches; while lanes read and the index is below 7, it forces a step
and marks them; at index 7 it only marks. Under listen-through the held gain does not step (R124). -/
def forcedStep (p : Nat) (s : State) : State :=
  let s := latch 0x10 1 (modFe p (fun f => { f with satAt := some s.now }) s)
  let i := rd (F.CHAN.GAIN_NOW_INDEX p) s
  let mark := changeLanes (fun l => l.reading && l.physical == p) (fun l => { l with gainStep := true })
  if !anyReading p s ∨ gainHeld p s then s
  else if i = 7 then mark s
  else
    let s := setGain p (i + 1) s
    let s := modFe p (fun f => { f with forcedLast := some s.now, forcedAt := some (f.forcedAt.getD s.now) }) s
    mark (latch 0x10 2 (inc (F.CHAN.FORCED_STEPS p) s))

/-- The held-down time reaches RECOVER_MS: offering stops (R176). -/
def gainRecovery (p : Nat) (s : State) : State :=
  if rd (F.CHAN.GAIN_RECOVER_RECOVER_MS p) s = 0 ∨ (fe p s).forcedAt = none then s
  else inc (F.CHAN.RECOVERIES p) (modFe p (fun f => { f with recovering := true }) s)

/-- Offering restarts (R176). -/
def gainRecovered (p : Nat) (s : State) : State := modFe p (fun f => { f with recovering := false }) s

end Sys2Proof.Machine
end

