-- ==== Sys2Proof/Machine/Frames.lean ====
section
/-! DEFINITION. Frames of the downlink side: their table, what they cost (R197, R324), the regulatory accounts (R331,
R332, R335), the pending store (R311) and the end of a frame. -/

namespace Sys2Proof.Machine

/-- The frame numbered `id`. -/
def frame? (id : Nat) (s : State) : Option Frame := find s.frames id

/-- Writes a frame. -/
def setFrame (id : Nat) (f : Frame) (s : State) : State := { s with frames := insert s.frames id f }

/-- Changes a frame, if there is one. -/
def modFrame (id : Nat) (g : Frame → Frame) (s : State) : State :=
  match frame? id s with
  | some f => setFrame id (g f) s
  | none => s

/-- Places one entry into a list sorted by `order`. -/
def insertByOrder (x : Nat × Frame) : List (Nat × Frame) → List (Nat × Frame)
  | [] => [x]
  | y :: r => if x.2.order ≤ y.2.order then x :: y :: r else y :: insertByOrder x r

/-- The frames that satisfy `p`, in their order. -/
def framesWhere (p : Frame → Bool) (s : State) : List (Nat × Frame) :=
  (s.frames.filter (fun x => p x.2)).foldr insertByOrder []

/-- The frames of queue `q` of scheduler `n`, the head first. -/
def queueFrames (n q : Nat) (s : State) : List (Nat × Frame) :=
  framesWhere (fun f => f.place == .queued && f.fe == n && f.queue == q) s

/-- Places one entry into a list sorted by `listed`. -/
def insertListed (x : Nat × Frame) : List (Nat × Frame) → List (Nat × Frame)
  | [] => [x]
  | y :: r => if x.2.listed ≤ y.2.listed then x :: y :: r else y :: insertListed x r

/-- Every frame on a node's pending list, those in flight for a poll or an appointment too, the oldest first (R311). -/
def listedFrames (i : Nat) (s : State) : List (Nat × Frame) :=
  (s.frames.filter (fun x => x.2.node == some i && (x.2.place == .pending || x.2.inFlight))).foldr insertListed []

/-- The frames of a node's pending list that stand in the store, the oldest first (R311). -/
def pendingFrames (i : Nat) (s : State) : List (Nat × Frame) := (listedFrames i s).filter (fun x => x.2.place == .pending)

/-- The place at the end of all pending lists. -/
def tailListed (s : State) : Int := (s.frames.map (fun x => x.2.listed)).foldl max 0 + 1

/-- The committed frame of scheduler `n`. -/
def committedFrame (n : Nat) (s : State) : Option (Nat × Frame) :=
  s.frames.find? (fun x => x.2.fe == n && match x.2.place with | .committed _ _ => true | _ => false)

/-- The next order number at the tail of all. -/
def tailOrder (s : State) : Int := (s.frames.map (fun x => x.2.order)).foldl max 0 + 1

/-- The next order number at the head of all. -/
def headOrder (s : State) : Int := (s.frames.map (fun x => x.2.order)).foldl min 0 - 1

/-! ### What a transmission costs -/

/-- The mode a frame is sent in (R342): the one it was built for, which is DOWN[n].MODE as it then stood where the
descriptor gives none; with DOWN[n].MODE 0 it has none yet. -/
def Frame.modeNow (f : Frame) (s : State) : Nat := if f.mode = 0 then rd (F.FWD.DOWN_MODE f.fe) s else f.mode

/-- The channel a frame is sent on (R342). -/
def Frame.hzNow (f : Frame) (s : State) : Nat := if f.hz = 0 then rd (F.FWD.DOWN_CHANNEL_HZ f.fe) s else f.hz

/-- Whether a frame is FEC-coded (R342, R214). -/
def Frame.coded (f : Frame) (s : State) : Bool :=
  isFsk (f.modeNow s) && (if f.fec = 0 then isSet (F.PHY.TX_CFG_FEC f.fe) s else f.fec == 2)

/-- Whether a frame carries the extended sync word (R342, R200). -/
def Frame.extSync (f : Frame) (s : State) : Bool :=
  isFsk (f.modeNow s) && (if f.sync = 0 then isSet (F.PHY.SYNC_CFG_TX_EXT f.fe) s else f.sync == 2)

/-- The configured preamble of a mode on logical front end `n`, in octets (R199, R212). -/
def preambleOf (m n : Nat) (s : State) : Nat :=
  if m = 0x60 then rd (F.PHY.TX_CFG_OQPSK_PREAMBLE n) s else rd (F.PHY.TX_CFG_PREAMBLE_OCTETS n) s

/-- The PSDU length L of a frame in a mode (R342): supplied octets, MIC and FCS. -/
def Frame.psdu (f : Frame) (m : Nat) (s : State) : Nat :=
  f.length + (if f.secure then micLen f.level else 0) + fcsLen m f.fcs2 s

/-- T of a frame, in nanoseconds (R324). -/
def Frame.airNs (f : Frame) (s : State) : Nat :=
  let m := f.modeNow s
  Machine.airNs m (preambleOf m f.fe s + f.extra) (if f.extSync s then 4 else 2) (f.psdu m s) (f.coded s)

/-- C of a frame, in nanoseconds: T + 144 µs (R324). -/
def Frame.costNs (f : Frame) (s : State) : Nat := f.airNs s + 144000

/-- Nanoseconds as whole microseconds, rounded up. -/
def usUp (ns : Nat) : Nat := (ns + 999) / 1000

/-! ### Regulatory accounts -/

/-- The band of the physical front end that would send for `n`. -/
def bandOf (n : Nat) (s : State) : Nat :=
  match txServer n s with
  | some p => (fe p s).band
  | none => modeBand (rd (F.FWD.DOWN_MODE n) s)

/-- The duty account of entry `e`. -/
def dutyOf (e : Nat) (s : State) : Duty := look s.duty e {}

/-- Airtime of a transmission radiated so far. -/
def radiated (t : Tx) (now : Nat) : Nat :=
  match t.firstAt with
  | some f => min t.airNs (now - f)
  | none => 0

/-- What the answer under way on a front end has radiated of entry `e` so far: answers have no reservation (R331, R334). -/
def answerRadiated (e now : Nat) (f : Fe) : Nat :=
  match f.tx with
  | none => 0
  | some t =>
    match t.what with
    | .scheduled _ => 0
    | .pollAnswer _ | .ack _ _ _ => if t.entry = e then radiated t now else 0

/-- The usage of entry `e` in nanoseconds (R331). -/
def dutyUsed (e : Nat) (s : State) : Nat :=
  let d := dutyOf e s
  let w := entryField e 22 2 s
  ((d.seconds.filter (fun x => advSec s ≤ x.1 + w)).map (·.2)).foldl (· + ·) 0 + (d.reserved.map (·.2)).foldl (· + ·) 0 +
    (s.fes.map (fun x => answerRadiated e s.now x.2)).foldl (· + ·) 0

/-- DUTY_USED and DUTY_ALLOW of entry `e` on every SCHED page (R331). -/
def showDuty (e : Nat) (s : State) : State :=
  (List.range 4).foldl (fun s n =>
    wr (F.SCHED.DUTY_ALLOW n e) (match dutyAllow e s with | some a => a / 1000 | none => 0xFFFFFFFF)
      (wr (F.SCHED.DUTY_USED n e) (dutyUsed e s / 1000) s)) s

/-- Writes a duty account. -/
def setDuty (e : Nat) (d : Duty) (s : State) : State := showDuty e { s with duty := insert s.duty e d }

/-- Whether T more passes the duty check (R331). -/
def dutyPasses (e t : Nat) (s : State) : Bool :=
  match dutyAllow e s with
  | some a => dutyUsed e s + t ≤ a
  | none => true

/-- Reserves T for a frame. -/
def dutyReserve (e id t : Nat) (s : State) : State :=
  setDuty e { dutyOf e s with reserved := (id, t) :: (dutyOf e s).reserved } s

/-- Releases a frame's reservations in every account. -/
def dutyRelease (id : Nat) (s : State) : State :=
  s.duty.foldl (fun s x =>
    if x.2.reserved.any (·.1 == id) then
      setDuty x.1 { x.2 with reserved := x.2.reserved.filter (·.1 ≠ id) } s
    else s) s

/-- Adds airtime to one second of an account. -/
def addSecond (sec ns : Nat) : List (Nat × Nat) → List (Nat × Nat)
  | [] => [(sec, ns)]
  | (k, v) :: r => if k = sec then (k, v + ns) :: r else (k, v) :: addSecond sec ns r

/-- Airtime radiated up to now by the advance of R453, charged to each second for the part radiated in it; the
longest frame touches two seconds after its first (R331). -/
def dutyCharge (e ns : Nat) (s : State) : State :=
  let d := dutyOf e s
  let stop := advNs s
  let start := stop - ns
  let part := fun (sec : Nat) => min stop ((sec + 1) * 1000000000) - max start (sec * 1000000000)
  let first := start / 1000000000
  let lost := ns - (stop - start)
  let keep := d.seconds.filter (fun x => advSec s ≤ x.1 + entryField e 22 2 s)
  let secs := (List.range (stop / 1000000000 - first + 1)).foldl (fun l i =>
    if part (first + i) = 0 then l else addSecond (first + i) (part (first + i)) l) keep
  setDuty e { d with seconds := if lost = 0 then secs else addSecond first lost secs } s

/-- A scheduler's record. -/
def sched (n : Nat) (s : State) : Sched := look s.scheds n {}

/-- Changes a scheduler's record. -/
def modSched (n : Nat) (g : Sched → Sched) (s : State) : State := { s with scheds := insert s.scheds n (g (sched n s)) }

/-- The T that a dwell run holds: of transmissions that have ended and of those still to come. -/
def DwellRun.total (r : DwellRun) : Nat := r.usedNs + (r.pending.map (·.2)).foldl (· + ·) 0

/-- The open dwell runs of `n` (R332): a run closes after DWELL without a transmission. One that a committed frame or an answer
under way has joined stays open. -/
def openRuns (n : Nat) (s : State) : List DwellRun :=
  (sched n s).runs.filter (fun r => decide (s.now < r.lastAt + r.dwellNs) || !r.pending.isEmpty)

/-- The dwell check of R332. -/
def dwellPasses (n e hz t : Nat) (s : State) : Bool :=
  let d := entryDwellNs e s
  d == 0 ||
    match (openRuns n s).find? (fun r => r.hz == hz) with
    | some r => r.total + t ≤ d
    | none => t ≤ d && (openRuns n s).length < 16

/-- What a dwell run knows a transmission by. -/
def TxWhat.dwellKey : TxWhat → Nat
  | .scheduled id | .pollAnswer id => id + 1
  | .ack _ _ _ => 0

/-- T joins the run of a channel for the transmission `key`, which opens one if there is none (R326, R332, R334). -/
def dwellAdd (n e hz key t : Nat) (s : State) : State :=
  if entryDwellNs e s = 0 then s
  else
    let runs := openRuns n s
    let runs :=
      if runs.any (·.hz == hz) then runs.map (fun r => if r.hz = hz then { r with pending := insert r.pending key t } else r)
      else runs ++ [{ hz, usedNs := 0, lastAt := s.now, dwellNs := entryDwellNs e s, pending := [(key, t)] }]
    modSched n (fun k => { k with runs }) s

/-- The transmission `key` of `n` has ended: its T stays in its run, and what it radiated is the run's last transmission (R329,
R332). -/
def dwellSettle (n key : Nat) (sent : Bool) (s : State) : State :=
  modSched n (fun k => { k with runs := k.runs.map (fun r =>
    match find r.pending key with
    | some t => { r with usedNs := r.usedNs + t, lastAt := if sent then s.now else r.lastAt, pending := erase r.pending key }
    | none => r) }) s

/-- The transmission `key` of `n` does not take place: its T leaves its run, and a run that nothing else opened is gone (R329). -/
def dwellRefund (n key : Nat) (s : State) : State :=
  modSched n (fun k =>
    let runs := k.runs.map (fun r => { r with pending := erase r.pending key })
    { k with runs := runs.filter (fun r => r.usedNs ≠ 0 || !r.pending.isEmpty) }) s

/-- F of R335, in permille. -/
def blindFraction (n hz : Nat) (s : State) : Nat :=
  if listensThrough n s then
    let chans := (List.range 8).flatMap (fun set =>
      (List.range (rd (F.CHAN.LISTEN_RASTER_COUNT n set) s)).filterMap (fun c =>
        if channelMeets n set c 3 s then some (channelHz n set c s) else none))
    if chans.isEmpty then 0
    else ((chans.filter (fun c => dist c hz < 2000000)).length * 1000 + chans.length - 1) / chans.length
  else if ((List.range 8).map (fun set => listenCount n set s)).foldl (· + ·) 0 = 0 then 0
  else 1000

/-- B of R335, in µs, for a cost in nanoseconds. -/
def blindCharge (n hz cost : Nat) (s : State) : Nat := (cost * blindFraction n hz s + 999999) / 1000000

/-- The blinding account's sum over the current and the previous 999 ms (R335). -/
def blindSum (n : Nat) (s : State) : Nat :=
  (((sched n s).blind.filter (fun x => advMs s < x.1 + 1000)).map (·.2)).foldl (· + ·) 0

/-- BLIND_USED (R335). -/
def showBlind (n : Nat) (s : State) : State := wr (F.SCHED.BLIND_USED n) (min 1023 (blindSum n s / 1000)) s

/-- Charges the blinding account. -/
def blindAdd (n b : Nat) (s : State) : State :=
  showBlind n (modSched n (fun k => { k with
    blind := addSecond (advMs s) b (k.blind.filter (fun x => advMs s < x.1 + 1000)) }) s)

/-- Takes a charge back, from the milliseconds that hold it (R329). -/
def blindRefund (n b : Nat) (s : State) : State :=
  showBlind n (modSched n (fun k => { k with
    blind := (k.blind.foldr (fun x a =>
      let t := min a.1 x.2
      (a.1 - t, (x.1, x.2 - t) :: a.2)) (b, [])).2 }) s)

/-! ### What an SRAM error records (R512, R513) -/

/-- SRAM_LAST (R513). -/
def sramLast (memory off : Nat) (s : State) : State :=
  wr F.MEMINT.SRAM_LAST_MEMORY memory (wr F.MEMINT.SRAM_LAST_OFFSET off s)

/-- A corrected SRAM parity error (R512, R290). -/
def sramCorrected (memory off : Nat) (s : State) : State :=
  latch 0x46 2 (inc F.MEMINT.SRAM_CE_COUNT (sramLast memory off s))

/-- An uncorrectable SRAM parity error (R512, R513). -/
def sramLost (memory off : Nat) (s : State) : State :=
  latch 0x46 3 (inc F.MEMINT.SRAM_UE_COUNT (sramLast memory off s))

/-! ### The pending store (R311) -/

/-- The downlink buffer handle of a frame in PEND_HEAD: its number plus 1; 0 for none. -/
def handle (id : Nat) : Nat := (id + 1) % 2 ^ 32

/-- PEND_COUNT, PEND_HEAD and PENDING of a node follow its list (R270, R311). An entry that was removed or lost stays as that left it
(R289, R291). -/
def syncPending (i : Nat) (s : State) : State :=
  let l := listedFrames i s
  let n := node i s
  if !n.valid && !n.pending then s
  else
    let was := n.pending
    let n := n.wext 88 2 l.length
    let n := n.wext 92 4 (match l.head? with | some x => handle x.1 | none => 0)
    let n := if !was && !l.isEmpty then n.wext 96 4 (meshLow s) else n
    setNode i (n.flag 2 (!l.isEmpty)) s

/-- PEND_TOTAL and its peak (R318). -/
def countPending (s : State) : State :=
  let t := (s.frames.filter (fun x => x.2.place == .pending || x.2.inFlight)).length
  peak F.FWD.PEND_PEAK t (wr F.FWD.PEND_TOTAL t s)

/-- The SCHED page of logical front end `n`. -/
def schedPage (n : Nat) : Nat := 0x24 + n % 4

/-- DEPTH, QUEUED and the level of scheduler `n` (R350, R351); a weighted queue that is empty has no deficit (R327). -/
def recount (n : Nat) (s : State) : State :=
  let old := rd (F.SCHED.QUEUED n) s
  let s := (List.range 16).foldl (fun s q =>
    let d := (queueFrames n q s).length
    wr (F.SCHED.Q_DEPTH n q) d (if 4 ≤ q ∧ d = 0 then wr (F.SCHED.DEFICIT n q) 0 s else s)) s
  let t := (s.frames.filter (fun x => x.2.place == .queued && x.2.fe == n)).length
  let s := peak (F.SCHED.QUEUED_PEAK n) t (wr (F.SCHED.QUEUED n) t s)
  let h := rd (F.SCHED.LEVEL_HIGH n) s
  if old < h ∧ h ≤ t then latch (schedPage n) 1 (wr (F.SCHED.LEVEL_LATCH n) 1 s) else s

/-! ### The end of a frame -/

/-- The scheduler's counters when a frame of it ends (R350, R351). -/
def countAbandon (f : Frame) (d : Disp) (s : State) : State :=
  let hit := fun (c : Field) (s : State) =>
    latch (schedPage f.fe) 0 (inc (F.SCHED.ABANDONED f.fe f.queue) (inc c s))
  match d with
  | .txAbandonSlip => hit (F.SCHED.ABANDON_SLIP f.fe) s
  | .txAbandonReg => hit (F.SCHED.ABANDON_REG f.fe) s
  | .txAbandonCoex => hit (F.SCHED.ABANDON_COEX f.fe) s
  | .dropKeyRevoked => inc F.MAC.KEY_REVOKED s
  | _ => s

/-- Whether a frame has ended. -/
def Frame.over (f : Frame) : Bool :=
  match f.place with
  | .ended _ => true
  | _ => false

/-- A committed frame ends or goes back without having entered RX_TX: its T leaves the dwell run, which counts transmissions (R332,
DEDUCED, log entry 30), and the coexistence request falls (R132). -/
def leaveCommitted (id : Nat) (f : Frame) (s : State) : State :=
  match f.place with
  | .committed _ _ =>
    let s := dwellRefund f.fe (id + 1) s
    match txServer f.fe s with
    | some p => lowerReq p s
    | none => s
  | _ => s

/-- One frame ends: its disposition, its accounts and its node's statistics. It stays listed as ended until what
follows from its end has been done. -/
def endOne (id : Nat) (d : Disp) (s : State) : State :=
  match frame? id s with
  | none => s
  | some f =>
    match f.place with
    | .ended _ => s
    | p =>
      let queueing : Bool := match p with
        | .queued | .committed _ _ | .air | .ackWait => !f.polled
        | _ => false
      let s := setFrame id { f with place := .ended d, inFlight := false } s
      let s := leaveCommitted id f (dutyRelease id s)
      let s := if f.group.isNone then closeAll (id :: f.also) d s else s
      let s := if queueing then countAbandon f d s
        else if d = .dropKeyRevoked then inc F.MAC.KEY_REVOKED s else s
      let s := rxStat f.source d (txStat f.node d s)
      let s := match f.node with
        | some i => countPending (syncPending i s)
        | none => s
      recount f.fe s

/-- Whether a fragment of datagram `g` has not ended. -/
def groupOpen (g : Nat) (s : State) : Bool :=
  s.frames.any (fun x => x.2.group == some g && !x.2.over)

/-- A frame ends, unless it has ended already (R14); the other fragments of its datagram that have not ended take its code unless
it was acknowledged, and the datagram's one disposition is given once none is left (R313). -/
def endFrame (id : Nat) (d : Disp) (s : State) : State :=
  match frame? id s with
  | none => s
  | some f =>
    let live : Bool := !f.over
    let s := endOne id d s
    match f.group with
    | some g =>
      if !live then s
      else if d = .okAcked then (if groupOpen g s then s else closeAll f.also d s)
      else
        closeAll f.also d
          ((s.frames.filter (fun x => x.2.group == some g && x.1 ≠ id)).foldl (fun s x => endOne x.1 d s) s)
    | none => s

/-- Ends every frame that satisfies `p`. -/
def endFrames (p : Frame → Bool) (d : Disp) (s : State) : State :=
  (s.frames.filter (fun x => p x.2)).foldl (fun s x => endFrame x.1 d s) s

/-- A frame joins its node's pending list (R311): eviction of the oldest frame not in flight when the list grows
beyond PEND_MAX; the frame itself ends when every other is in flight. -/
def storePending (id : Nat) (s : State) : State :=
  match frame? id s with
  | none => s
  | some f =>
    match f.node with
    | none => endFrame id .txAbandonSlip s
    | some i =>
      if f.over then s
      else if roleMuted s then endFrame id .dropDisabled s
      else if !(node i s).valid then endFrame id .dropNoPath s
      else if rd F.FWD.PEND_MAX s ≤ ((listedFrames i s).filter (fun x => x.1 ≠ id)).length ∧ (pendingFrames i s).all (fun x => x.2.inFlight) then
        endFrame id .txAbandonPendingTimeout (inc F.FWD.PEND_EVICTED s)
      else
        let s := setFrame id { f with
          place := .pending, order := tailOrder s, listed := tailListed s, inFlight := false, polled := false, pendedAt := s.now
          expired := false } s
        let s := countPending (syncPending i (recount f.fe s))
        let s := inc F.FWD.DOWN_PENDING s
        if rd F.FWD.PEND_MAX s < (listedFrames i s).length then
          let s := inc F.FWD.PEND_EVICTED s
          match (pendingFrames i s).find? (fun x => !x.2.inFlight) with
          | some x => endFrame x.1 .txAbandonPendingTimeout s
          | none => s
        else s

end Sys2Proof.Machine
end

