-- ==== Sys2Proof/Machine/Ies.lean ====
section
/-! DEFINITION. What the controller's own frames hold as octets, and what it reads from those of others: information elements
(R257 to R259, R564), acknowledgements (R240), beacons (R251), campaign frames (R563, R566), and the nonce of a secured frame
(R229). The frame control and security control values that the specification does not print are those of IEEE 802.15.4-2020,
to which it refers (PRESUMED, log entry 42). -/

namespace Sys2Proof.Machine

/-- IDENT.EUI64. -/
def ownEui (s : State) : Nat := rd (F.IDENT.EUI64 0) s + rd (F.IDENT.EUI64 1) s * 2 ^ 32

/-- The CCM* nonce of a frame (R229): the source EUI-64 and the frame counter, most significant octet first, and the level. -/
def ccmNonce (eui counter level : Nat) : List Byte := bytesBe 8 eui ++ bytesBe 4 counter ++ bytesBe 1 level

/-! ### Information elements (R257 to R259) -/

/-- The company ID in the order in which it is written (R257). -/
def cidOctets (s : State) : List Byte := bytesBe 3 (rd F.IDENT.VENDOR_CID s)

/-- An IE of Galeaven's own (R257): descriptor, company ID, KIND and the fields of the kind. -/
def ownIe (kind : Nat) (fields : List Byte) (s : State) : List Byte :=
  bytesLe 2 (4 + fields.length) ++ cidOctets s ++ bytesLe 1 kind ++ fields

/-- A number of `n` octets at octet `o` of an IE, least significant first. -/
def ieNum (b : List Byte) (o n : Nat) : Nat := leBytes ((b.drop o).take n)

/-- What an own IE that is not ignored says to the controller (R258, R259). -/
inductive OwnIe where
  | path (p : PathIe) | poll (p : PollIe) | mesh (m : MeshIe)
deriving DecidableEq, Repr

/-- Reads an IE: none for one that is not Galeaven's own, and for one with a KIND that means nothing to the controller, an
unexpected length or a non-zero reserved bit, which is ignored (R257). -/
def readIe (b : List Byte) (s : State) : Option OwnIe :=
  let len := ieNum b 0 2
  let flags := ieNum b 6 1
  if b.length ≠ 2 + len ∨ len < 5 ∨ 128 ≤ len ∨ (b.drop 2).take 3 ≠ cidOctets s then none
  else
    match ieNum b 5 1 with
    | 1 =>
      let count := flags % 32
      if flags / 64 ≠ 0 ∨ count = 0 ∨ 16 < count ∨ len ≠ 5 + 2 * count then none
      else some (.path { truncated := flags.testBit 5, addrs := (List.range count).map (fun i => ieNum b (7 + 2 * i) 2) })
    | 2 =>
      let appt := flags.testBit 0
      if flags / 4 ≠ 0 ∨ len ≠ (if appt then 11 else 5) then none
      else some (.poll { appt, cancel := flags.testBit 1, ticks := ieNum b 7 4, guardUs := ieNum b 11 2 })
    | 4 =>
      let f := ieNum b 10 1
      if len ≠ 10 ∨ f / 64 ≠ 0 then none
      else some (.mesh { ticks := ieNum b 6 4, synced := f.testBit 0, freeRun := f.testBit 1, stratum := f / 4 % 16
                         priority := ieNum b 11 1 })
    | _ => none

/-- The own IEs of a frame that are not ignored. -/
def ownIes (ies : List (List Byte)) (s : State) : List OwnIe := ies.filterMap (fun b => readIe b s)

/-- The Path record IE of a frame; of several, the first (DEDUCED, log entry 42). -/
def pathIe (ies : List (List Byte)) (s : State) : Option PathIe :=
  (ownIes ies s).findSome? (fun e => match e with | .path p => some p | _ => none)

/-- The Poll IE of a frame. -/
def pollIe (ies : List (List Byte)) (s : State) : Option PollIe :=
  (ownIes ies s).findSome? (fun e => match e with | .poll p => some p | _ => none)

/-- The Mesh time IE of a frame. -/
def meshIe (ies : List (List Byte)) (s : State) : Option MeshIe :=
  (ownIes ies s).findSome? (fun e => match e with | .mesh m => some m | _ => none)

/-- The octets of a Mesh time IE (R258). -/
def meshIeOctets (m : MeshIe) (s : State) : List Byte :=
  ownIe 4 (bytesLe 4 m.ticks ++ bytesLe 1 (m.synced.toNat + 2 * m.freeRun.toNat + 4 * m.stratum) ++ bytesLe 1 m.priority) s

/-- A peer beyond its registers. -/
def peer (i : Nat) (s : State) : Peer := look s.peers i {}

/-- The Mesh time IE that the controller sends in a frame whose PHR starts in `ns` nanoseconds (R258, R462): mesh time then,
SYNCED, FREE_RUN, STRATUM and PRIORITY. PEER[r].STATE 1 is PRESENT. -/
def ownMeshIe (ns : Nat) (s : State) : MeshIe :=
  let r := rd F.BEACON.REF_PEER s
  let free := isSet F.BEACON.REF_FREE_RUN s
  { ticks := ((meshFine s + (ns * 2 ^ 31 / 1000000000 : Nat)) / 2 ^ 16 % 2 ^ 32).toNat
    synced := if r = 63 then !free && !isSet F.TIME.STATUS_UNSET s && !isSet F.TIME.STATUS_HOLDOVER s && !isSet F.TIME.STATUS_COARSE s
      else rd (F.BEACON.PEER_STATE r) s == 1 && (peer r s).synced
    freeRun := free
    stratum := if r = 63 then 0 else (peer r s).stratum + 1
    priority := if r = 63 then rd F.BEACON.CFG_OWN_PRIORITY s else (peer r s).priority }

/-- DOMAIN and ROUTER of a Hemal format (R563). -/
def domainOctets (s : State) : List Byte := bytesLe 2 (rd F.TIME.DOMAIN_ID s) ++ bytesLe 2 (rd F.TIME.DOMAIN_ROUTER s)

/-- The Dissemination announcement IE of campaign `c` on front end `n` (R564), with the window that starts at `window`, or with
WINDOW = 0. -/
def announcementIe (c n : Nat) (window : Option Nat) (s : State) : List Byte :=
  ownIe 5 (domainOctets s ++
    bytesLe 1 (c + 16 * window.isSome.toNat + 32 * (decide (rd (F.DISSEM.C_STATUS_STATE c) s = 4)).toNat) ++
    bytesLe 1 (rd (F.DISSEM.C_STATUS_EPOCH c) s) ++ bytesLe 4 (rd (F.DISSEM.C_IMAGE_ID c) s) ++ bytesLe 4 (rd (F.DISSEM.C_F c) s) ++
    bytesLe 2 (rd (F.DISSEM.C_T c) s) ++ bytesLe 1 0 ++
    (match window with
     | some w => bytesLe 4 w ++ bytesLe 4 (rd (F.DISSEM.C_WIN_TICKS c) s) ++ bytesLe 1 (rd (F.DISSEM.C_CFG_MODE c) s) ++
         bytesLe 4 (rd (F.DISSEM.C_CHANNEL_HZ c n) s)
     | none => [])) s

/-! ### Acknowledgements (R240) -/

/-- The octets of an acknowledgement up to its FCS: an Imm-Ack, or an Enhanced ACK with its Time correction IE, which TIME_IE = 0
leaves out. -/
def ackOctets (enhanced pending timeIe : Bool) (seq : Nat) (corr : Int) (clipped : Bool) : List Byte :=
  let fp := 16 * pending.toNat
  if !enhanced then bytesLe 2 (0x0002 + fp) ++ bytesLe 1 seq
  else if timeIe then
    bytesLe 2 (0x2202 + fp) ++ bytesLe 1 seq ++ bytesLe 2 0x0F02 ++ bytesLe 2 (ofInt 12 corr + 4096 * clipped.toNat)
  else bytesLe 2 (0x2002 + fp) ++ bytesLe 1 seq

/-! ### Beacons and campaign frames (R251, R563, R566) -/

/-- The auxiliary security header of a group-keyed frame (R251, R563): level, key-identifier mode 1, frame counter, index. -/
def groupAux (p level counter : Nat) (s : State) : List Byte :=
  bytesLe 1 (level + 8) ++ bytesLe 4 counter ++ bytesLe 1 (rd (F.MAC.PAN_GROUP_INDEX p) s)

/-- The MHR of an Enhanced Beacon of slot `p` (R251): version 2, IEs, the source PAN ID and EUI-64, and its security header. -/
def beaconMhr (p seq level counter : Nat) (s : State) : List Byte :=
  bytesLe 2 (if level = 0 then 0xE200 else 0xE208) ++ bytesLe 1 seq ++ bytesLe 2 (rd (F.MAC.PAN_PAN_ID p) s) ++
    bytesLe 8 (ownEui s) ++ (if level = 0 then [] else groupAux p level counter s)

/-- The MHR of a campaign's frame of slot `p` (R563, R566): version 2, broadcast from 0x0000 with PAN ID compression, with its
security header; `ies` says that header IEs follow. -/
def broadcastMhr (p seq level counter : Nat) (ies : Bool) (s : State) : List Byte :=
  bytesLe 2 (if ies then 0xAA49 else 0xA849) ++ bytesLe 1 seq ++ bytesLe 2 (rd (F.MAC.PAN_PAN_ID p) s) ++ bytesLe 2 0xFFFF ++
    bytesLe 2 0x0000 ++ groupAux p level counter s

/-- The MHR of a downlink frame of the forwarding engine (R310): a data frame of version 2 from 0x0000 to the first hop, with PAN ID
compression, and its security header; `fp` is its frame-pending bit, and `ies` says that a header IE follows. The frame asks for an
acknowledgement (R242). -/
def dataMhr (f : Frame) (seq counter : Nat) (fp ies : Bool) (s : State) : List Byte :=
  let hop := f.firstHop.getD 0
  bytesLe 2 (0xA861 + 8 * f.secure.toNat + 16 * fp.toNat + 512 * ies.toNat) ++ bytesLe 1 seq ++
    bytesLe 2 (rd (F.MAC.PAN_PAN_ID (hop / 65536)) s) ++ bytesLe 2 (hop % 65536) ++ bytesLe 2 0 ++
    (if !f.secure then []
     else
       match f.keyIndex with
       | some x => bytesLe 1 (f.level + 8) ++ bytesLe 4 counter ++ bytesLe 1 x
       | none => bytesLe 1 f.level ++ bytesLe 4 counter)

/-- Octets of the sequence number and the addressing fields of a frame that a host supplies, by its frame control field (IEEE
802.15.4-2020). -/
def addressLen (fcf : Nat) : Nat :=
  let v2 : Bool := fcf / 4096 % 4 == 2
  let size := fun (m : Nat) => if m = 2 then 2 else if m = 3 then 8 else 0
  let d := fcf / 1024 % 4
  let r := fcf / 2 ^ 14 % 4
  let comp := fcf.testBit 6
  let pans : Nat :=
    if v2 then
      if d = 0 ∧ r = 0 then (if comp then 1 else 0)
      else if d = 0 ∨ r = 0 ∨ (d = 3 ∧ r = 3) then (if comp then 0 else 1)
      else if comp then 1 else 2
    else (if d = 0 then 0 else 1) + (if r = 0 ∨ comp then 0 else 1)
  (if v2 && fcf.testBit 8 then 0 else 1) + 2 * pans + size d + size r

/-- Octets of an auxiliary security header with 4-octet frame counter, by its security control octet. -/
def auxLen (control : Nat) : Nat :=
  5 + match control / 8 % 4 with
    | 0 => 0
    | 1 => 1
    | 2 => 5
    | _ => 9

/-- Octets of the header IEs at the head of `b`, with the termination after them. -/
def headerIesLen (b : List Byte) : Nat → Nat → Nat
  | 0, o => o
  | fuel + 1, o =>
    let d := ieNum b o 2
    if b.length < o + 2 ∨ d / 2 ^ 15 = 1 then o
    else if d / 128 % 256 ∈ [0x7E, 0x7F] then o + 2 + d % 128
    else headerIesLen b fuel (o + 2 + d % 128)

/-- What a host frame sends before and after the octets that its MIC level encrypts (R342): the supplied MHR, with the frame counter
overwritten where the frame is secured, its header IEs and a command identifier, then the payload. In a poll answer (`polled`) the
acknowledgement-request and frame-pending bits are the controller's (R242). -/
def hostParts (f : Frame) (counter : Nat) (fp : Bool) : List Byte × List Byte :=
  let fcf := ieNum f.payload 0 2
  let fcf := if f.polled then fcf - (fcf / 16 % 4) * 16 + 16 * fp.toNat + 32 else fcf
  let a := 2 + addressLen fcf
  let aux := if fcf.testBit 3 then auxLen (ieNum f.payload a 1) else 0
  let h := a + aux
  let h := if fcf / 4096 % 4 = 2 ∧ fcf.testBit 9 then h + headerIesLen (f.payload.drop h) f.payload.length 0 else h
  let h := if fcf % 8 = 3 then h + 1 else h
  let counted := (f.payload.take h).drop 2
  let head := bytesLe 2 fcf ++
    (if f.secure ∧ fcf.testBit 3 then counted.take (a - 1) ++ bytesLe 4 counter ++ counted.drop (a + 3) else counted)
  (head, f.payload.drop h)

/-- What stands before and after a Mesh time IE in a frame, and whether a scheduled one has it: beacons, announcements and
symbol frames, data frames of the forwarding engine, and host frames; `fp` and `ies` say whether a poll answer has its frame-pending
bit and a Mesh time IE (R242). -/
def frameParts (f : Frame) (seq counter : Nat) (fp ies : Bool) (s : State) : List Byte × Bool × List Byte :=
  match f.kind with
  | .beacon t => (beaconMhr (rd (F.BEACON.TRACK_PAN t) s) seq f.level counter s, true, f.payload)
  | .announcement c => (broadcastMhr (rd (F.DISSEM.C_CFG_PAN c) s) seq f.level counter true s ++ f.payload, true, [])
  | .symbol c => (broadcastMhr (rd (F.DISSEM.C_CFG_PAN c) s) seq f.level counter false s ++ f.payload, false, [])
  | .data => (dataMhr f seq counter fp ies s, false, f.payload)
  | .host _ _ =>
    let p := hostParts f counter fp
    (p.1, false, p.2)

/-- The PSDU of a frame up to its FCS (R229, R231, R342): the octets `back` after its MHR and IEs, `head`, as they are or, with a key,
encrypted and followed by the MIC of the nonce's level. -/
def sealPsdu (key nonce head back : List Byte) : List Byte :=
  match nonce.getLast? with
  | none => head ++ back
  | some v => head ++ bytesLe (back.length + micLen v.toNat) (ccmSeal key nonce head back (micLen v.toNat))

/-! ### The Hemal report (R565) -/

/-- A Hemal report payload: `whole` says that it is 19 octets long with a zero reserved nibble. -/
structure HemalReport where
  domain   : Nat
  router   : Nat
  campaign : Nat
  epoch    : Nat
  imageId  : Nat
  state    : Nat
  received : Nat
  whole    : Bool
deriving DecidableEq, Repr

/-- Reads a payload; none for one that is no Hemal report payload. -/
def readHemal (b : List Byte) (s : State) : Option HemalReport :=
  if ieNum b 0 1 = 0x25 ∧ (b.drop 1).take 3 = cidOctets s ∧ b.length ≥ 5 ∧ ieNum b 4 1 = 0x11 then
    some { domain := ieNum b 5 2, router := ieNum b 7 2, campaign := ieNum b 9 1, epoch := ieNum b 10 1
           imageId := ieNum b 11 4, state := ieNum b 15 1 % 16, received := ieNum b 16 3
           whole := b.length == 19 && ieNum b 15 1 / 16 == 0 }
  else none

end Sys2Proof.Machine
end

