-- ==== Sys2Proof/Machine/Lowpan.lean ====
section
/-! DEFINITION. IPv6 packets as octets, and their forms in the mesh (R302 to R307, R313): compression, decompression and the
fragment headers. The encodings are those of RFC 8200, RFC 6282, RFC 8138 and RFC 4944, to which the specification refers
(PRESUMED, log entry 49). -/

namespace Sys2Proof.Machine

/-! ### IPv6 packets -/

/-- The payload octets of a packet; those that an operand does not list are 0. -/
def ipv6Body (i : Ipv6) : List Byte := (i.body ++ List.replicate i.payload 0).take i.payload

/-- The 40 octets of an IPv6 header. -/
def ipv6Header (i : Ipv6) : List Byte :=
  bytesBe 4 (6 * 2 ^ 28 + i.trafficClass * 2 ^ 20 + i.flowLabel) ++ bytesBe 2 i.payload ++ bytesBe 1 i.nextHeader ++
    bytesBe 1 i.hopLimit ++ bytesBe 16 i.src ++ bytesBe 16 i.dst

/-- The octets of a packet. -/
def ipv6Octets (i : Ipv6) : List Byte := ipv6Header i ++ ipv6Body i

/-- The packet that octets hold. -/
def ipv6Of (b : List Byte) : Ipv6 :=
  let w := netNum b 0 4
  { trafficClass := w / 2 ^ 20 % 256, flowLabel := w % 2 ^ 20, payload := netNum b 4 2, nextHeader := netNum b 6 1
    hopLimit := netNum b 7 1, src := netNum b 8 16, dst := netNum b 24 16, body := b.drop 40 }

/-- Where the upper layer of a packet begins in its payload, past hop-by-hop, routing, fragment and destination options headers;
a later fragment has none. -/
def upperLayer (b : List Byte) : Nat → Nat → Nat → Nat × Nat
  | 0, nh, o => (nh, o)
  | fuel + 1, nh, o =>
    if nh = 0 ∨ nh = 43 ∨ nh = 60 then upperLayer b fuel (netNum b o 1) (o + 8 + 8 * netNum b (o + 1) 1)
    else if nh = 44 ∧ netNum b (o + 2) 2 / 8 = 0 then upperLayer b fuel (netNum b o 1) (o + 8)
    else (nh, o)

/-- Whether a packet is an RPL message (R302): an ICMPv6 header of type 155 in its chain. -/
def isRpl (i : Ipv6) : Bool :=
  let b := ipv6Body i
  let u := upperLayer b b.length i.nextHeader 0
  u.1 == 58 && netNum b u.2 1 == 155

/-- The UDP destination port of a packet whose UDP header stands directly after the IPv6 header. -/
def udpPort (i : Ipv6) : Option Nat := if i.nextHeader = 17 then some (netNum (ipv6Body i) 2 2) else none

/-- The sum of the 16-bit words of octets. -/
def sum16 : List Byte → Nat
  | [] => 0
  | [a] => a.toNat * 256
  | a :: b :: r => a.toNat * 256 + b.toNat + sum16 r

/-- The UDP checksum of a UDP header with checksum 0 and its data, with the pseudo-header of the two addresses. -/
def udpChecksum (src dst : Nat) (udp : List Byte) : Nat :=
  let n := sum16 (bytesBe 16 src ++ bytesBe 16 dst ++ bytesBe 4 udp.length ++ bytesBe 4 17 ++ udp)
  let n := n % 65536 + n / 65536
  let c := 65535 - (n % 65536 + n / 65536)
  if c = 0 then 65535 else c

/-! ### Interface identifiers -/

/-- The interface identifier of a short address (R300). -/
def shortIid (x : Nat) : Nat := 0x000000fffe000000 + x % 65536

/-- The short address of an IID of the R300 form. -/
def iidShort (a : Nat) : Option Nat := if a % 2 ^ 64 / 65536 = 0x000000fffe00 then some (a % 65536) else none

/-- The IID that an address elided in favour of the link layer takes from the MHR (R305). -/
def airIid : AirAddr → Nat
  | .none => 0
  | .short a => shortIid a
  | .extended e => e ^^^ 2 ^ 57

/-! ### Compression (R306, R307) -/

/-- A compressed field: the bits that say its form, and its inline octets. -/
abbrev Packed := Nat × List Byte

/-- TF: traffic class and flow label, elided only where they are zero. -/
def packTf (i : Ipv6) : Packed :=
  let ecn := i.trafficClass % 4
  let dscp := i.trafficClass / 4
  if i.trafficClass = 0 ∧ i.flowLabel = 0 then (3, [])
  else if i.flowLabel = 0 then (2, bytesBe 1 (ecn * 64 + dscp))
  else if dscp = 0 then (1, bytesBe 3 (ecn * 2 ^ 22 + i.flowLabel))
  else (0, bytesBe 4 ((ecn * 64 + dscp) * 2 ^ 24 + i.flowLabel))

/-- HLIM: elided where it is 1, 64 or 255. -/
def packHopLimit (i : Ipv6) : Packed :=
  if i.hopLimit = 1 then (1, []) else if i.hopLimit = 64 then (2, []) else if i.hopLimit = 255 then (3, [])
  else (0, bytesBe 1 i.hopLimit)

/-- An address against the context `c`: its context bit above its two mode bits. `elide` says that the link layer gives its IID. -/
def packAddr (a : Nat) (c : Option Nat) (elide : Bool) : Packed :=
  if c ≠ some (a / 2 ^ 64) then (0, bytesBe 16 a)
  else if elide then (7, [])
  else
    match iidShort a with
    | some x => (6, bytesBe 2 x)
    | none => (5, bytesBe 8 (a % 2 ^ 64))

/-- The prefix table entry, of 16, that gives the shortest field. -/
def bestContext (f : Nat → Packed) : Nat :=
  (List.range 16).foldl (fun b e => if (f e).2.length < (f b).2.length then e else b) 0

/-- The second octet of IPHC and the addresses, with the CID extension only where it shortens the header (R306): `ctx` gives the
prefix of an entry in use, `own` is the slot's own. The source is the controller's 0x0000 and the destination the node itself on a
path of one hop. -/
def packAddrs (ctx : Nat → Option Nat) (own : Nat) (i : Ipv6) (oneHop : Bool) : Packed × Packed × Packed :=
  let src := fun e => packAddr i.src (ctx e) (oneHop && i.src % 2 ^ 64 == shortIid 0)
  let dst := fun e => packAddr i.dst (ctx e) oneHop
  let s := bestContext src
  let d := bestContext dst
  let bits := fun (x y : Packed) => x.1 / 4 * 64 + x.1 % 4 * 16 + y.1
  if (src own).2.length + (dst own).2.length ≤ 1 + (src s).2.length + (dst d).2.length then
    ((bits (src own) (dst own), []), src own, dst own)
  else ((128 + bits (src s) (dst d), bytesBe 1 (s * 16 + d)), src s, dst d)

/-- Whether NHC represents the packet's UDP header exactly: it stands directly after the IPv6 header, and its length is the payload's. -/
def udpFits (i : Ipv6) : Bool := i.nextHeader == 17 && decide (8 ≤ i.payload) && netNum (ipv6Body i) 4 2 == i.payload

/-- NHC UDP: the ports in their shortest form, and the checksum inline. -/
def packUdp (b : List Byte) : List Byte :=
  let s := netNum b 0 2
  let d := netNum b 2 2
  (if s / 16 = 0xF0B ∧ d / 16 = 0xF0B then bytesBe 1 0xF3 ++ bytesBe 1 (s % 16 * 16 + d % 16)
   else if d / 256 = 0xF0 then bytesBe 1 0xF1 ++ bytesBe 2 s ++ bytesBe 1 d
   else if s / 256 = 0xF0 then bytesBe 1 0xF2 ++ bytesBe 1 s ++ bytesBe 2 d
   else bytesBe 1 0xF0 ++ bytesBe 2 s ++ bytesBe 2 d) ++ (b.drop 6).take 2

/-- The 6LoRHs before the IPHC header (R307), with the page switch: an RPI, down and of rank 0, for the RPLInstanceID given, and an
RH3 of 2-octet addresses for the hops between the first and the node. -/
def packRoute (rpi : Option Nat) (route : List Nat) : List Byte :=
  let r := match rpi with
    | none => []
    | some 0 => bytesBe 1 0x93 ++ bytesBe 1 5 ++ bytesBe 1 0
    | some n => bytesBe 1 0x91 ++ bytesBe 1 5 ++ bytesBe 1 n ++ bytesBe 1 0
  let h := if route.isEmpty then [] else bytesBe 1 (0x80 + (route.length - 1)) ++ bytesBe 1 1 ++ route.flatMap (bytesBe 2)
  if r.isEmpty && h.isEmpty then [] else bytesBe 1 0xF1 ++ r ++ h

/-- The hops after the first and before the node, nearest first (R307): PATH_ADDR[COUNT - 2] down to PATH_ADDR[1]. -/
def routeOf (path : List Nat) : List Nat := path.dropLast.tail.reverse

/-- The uncompressed header length H (R313): what the compressed header stands for. -/
def plainHeader (i : Ipv6) : Nat := if udpFits i then 48 else 40

/-- The compressed header of a packet for a node `hops` away at the end of `path`, node first (R306, R307). -/
def packHeader (ctx : Nat → Option Nat) (own : Nat) (rpi : Option Nat) (hops : Nat) (path : List Nat) (i : Ipv6) : List Byte :=
  let udp := udpFits i
  let tf := packTf i
  let hl := packHopLimit i
  let a := packAddrs ctx own i (hops == 1)
  packRoute rpi (if 3 ≤ hops then routeOf path else []) ++
    bytesBe 1 (0x60 + tf.1 * 8 + 4 * udp.toNat + hl.1) ++ bytesBe 1 a.1.1 ++ a.1.2 ++ tf.2 ++
    (if udp then [] else bytesBe 1 i.nextHeader) ++ hl.2 ++ a.2.1.2 ++ a.2.2.2 ++
    (if udp then packUdp (ipv6Body i) else [])

/-! ### Fragments (R313, R314) -/

/-- The header of FRAG1: datagram size and tag. -/
def frag1Header (size tag : Nat) : List Byte := bytesBe 2 (24 * 2 ^ 11 + size) ++ bytesBe 2 tag

/-- The header of FRAGN: size, tag, and offset in units of 8 octets. -/
def fragNHeader (size tag offset : Nat) : List Byte := bytesBe 2 (28 * 2 ^ 11 + size) ++ bytesBe 2 tag ++ bytesBe 1 (offset / 8)

/-- A fragment: datagram size, tag, offset in octets, whether it is a FRAG1, and what follows its header. -/
structure Fragment where
  size   : Nat
  tag    : Nat
  offset : Nat
  first  : Bool
  octets : List Byte
deriving DecidableEq, Repr

/-- Whether a payload begins with a fragment header (R302). -/
def beginsFragment (b : List Byte) : Bool := netNum b 0 1 / 8 ∈ [24, 28]

/-- Reads a fragment; none where the payload ends before its header does. -/
def readFragment (b : List Byte) : Option Fragment :=
  let first : Bool := netNum b 0 1 / 8 == 24
  let n := if first then 4 else 5
  if b.length < n then none
  else some { size := netNum b 0 2 % 2 ^ 11, tag := netNum b 2 2, offset := if first then 0 else netNum b 4 1 * 8, first, octets := b.drop n }

/-! ### Decompression (R305, R306) -/

/-- A field of `n` octets and what follows it; none where fewer are left. -/
def takeField (n : Nat) (b : List Byte) : Option (Nat × List Byte) := if n ≤ b.length then some (netNum b 0 n, b.drop n) else none

/-- An address of IPHC: context bit, mode, the context's prefix, the MHR's address. The form with the context bit and mode 0 is the
unspecified address of a source (`unspec`), and reserved for a destination. -/
def unpackAddr (ac am : Nat) (c : Option Nat) (l : AirAddr) (unspec : Bool) (b : List Byte) : Option (Nat × List Byte) :=
  if am = 0 then (if ac = 0 then takeField 16 b else if unspec then some (0, b) else none)
  else
    match (if ac = 0 then some (0xfe80 * 2 ^ 48) else c) with
    | none => none
    | some x =>
      match am with
      | 1 => (takeField 8 b).map (fun y => (x * 2 ^ 64 + y.1, y.2))
      | 2 => (takeField 2 b).map (fun y => (x * 2 ^ 64 + shortIid y.1, y.2))
      | _ => some (x * 2 ^ 64 + airIid l, b)

/-- A destination of stateless multicast compression. -/
def unpackMulticast (am : Nat) (b : List Byte) : Option (Nat × List Byte) :=
  match am with
  | 0 => takeField 16 b
  | 1 => (takeField 6 b).map (fun y => (0xff * 2 ^ 120 + y.1 / 2 ^ 40 * 2 ^ 112 + y.1 % 2 ^ 40, y.2))
  | 2 => (takeField 4 b).map (fun y => (0xff * 2 ^ 120 + y.1 / 2 ^ 24 * 2 ^ 112 + y.1 % 2 ^ 24, y.2))
  | _ => (takeField 1 b).map (fun y => (0xff02 * 2 ^ 112 + y.1, y.2))

/-- Traffic class and flow label. -/
def unpackTf (tf : Nat) (b : List Byte) : Option ((Nat × Nat) × List Byte) :=
  match tf with
  | 0 => (takeField 4 b).map (fun y => ((y.1 / 2 ^ 24 % 64 * 4 + y.1 / 2 ^ 30, y.1 % 2 ^ 20), y.2))
  | 1 => (takeField 3 b).map (fun y => ((y.1 / 2 ^ 22, y.1 % 2 ^ 20), y.2))
  | 2 => (takeField 1 b).map (fun y => ((y.1 % 64 * 4 + y.1 / 64, 0), y.2))
  | _ => some ((0, 0), b)

/-- The hop limit by its mode. -/
def unpackHopLimit (mode : Nat) (b : List Byte) : Option (Nat × List Byte) :=
  match mode with
  | 0 => takeField 1 b
  | 1 => some (1, b)
  | 2 => some (64, b)
  | _ => some (255, b)

/-- The two addresses by the second octet `w` of IPHC, against the contexts `cs` and `cd`. -/
def unpackAddrs (w : Nat) (cs cd : Option Nat) (ls ld : AirAddr) (b : List Byte) : Option ((Nat × Nat) × List Byte) :=
  match unpackAddr (w / 64 % 2) (w / 16 % 4) cs ls true b with
  | none => none
  | some (src, b) =>
    (if w.testBit 3 then unpackMulticast (w % 4) b else unpackAddr (w / 4 % 2) (w % 4) cd ld false b).map
      (fun y => ((src, y.1), y.2))

/-- The IPHC header at the head of `b`: the packet without its payload, whether NHC follows, and what follows. -/
def unpackHead (ctx : Nat → Option Nat) (own : Nat) (ls ld : AirAddr) (b : List Byte) : Option (Ipv6 × Bool × List Byte) :=
  let w := netNum b 0 2
  if b.length < 2 ∨ w / 2 ^ 13 ≠ 3 ∨ (w.testBit 3 ∧ w.testBit 2) then none
  else
    match (if w.testBit 7 then takeField 1 (b.drop 2) else some (own * 16 + own, b.drop 2)) with
    | none => none
    | some (cid, b) =>
      match unpackTf (w / 2 ^ 11 % 4) b with
      | none => none
      | some (t, b) =>
        match (if w.testBit 10 then some (0, b) else takeField 1 b) with
        | none => none
        | some (nextHeader, b) =>
          match unpackHopLimit (w / 2 ^ 8 % 4) b with
          | none => none
          | some (hopLimit, b) =>
            (unpackAddrs w (ctx (cid / 16)) (ctx (cid % 16)) ls ld b).map (fun a =>
              ({ trafficClass := t.1, flowLabel := t.2, payload := 0, nextHeader, hopLimit, src := a.1.1, dst := a.1.2 },
                w.testBit 10, a.2))

/-- The ports of NHC UDP by their form. -/
def unpackPorts (form : Nat) (b : List Byte) : Option ((Nat × Nat) × List Byte) :=
  match form with
  | 0 => (takeField 4 b).map (fun y => ((y.1 / 65536, y.1 % 65536), y.2))
  | 1 => (takeField 3 b).map (fun y => ((y.1 / 256, 0xF000 + y.1 % 256), y.2))
  | 2 => (takeField 3 b).map (fun y => ((0xF000 + y.1 / 65536, y.1 % 65536), y.2))
  | _ => (takeField 1 b).map (fun y => ((0xF0B0 + y.1 / 16, 0xF0B0 + y.1 % 16), y.2))

/-- UDP from its NHC form, the first octet `c` taken: an elided checksum is computed (R305). -/
def unpackUdp (c src dst : Nat) (b : List Byte) : Option (List Byte) :=
  match unpackPorts (c % 4) b with
  | none => none
  | some (p, b) =>
    let front := fun (b : List Byte) => bytesBe 2 p.1 ++ bytesBe 2 p.2 ++ bytesBe 2 (8 + b.length)
    if c.testBit 2 then some (front b ++ bytesBe 2 (udpChecksum src dst (front b ++ bytesBe 2 0 ++ b)) ++ b)
    else (takeField 2 b).map (fun y => front y.2 ++ bytesBe 2 y.1 ++ y.2)

/-- The padding options that make an extension header a multiple of 8 octets. -/
def padOptions : Nat → List Byte
  | 0 => []
  | 1 => [0]
  | n + 2 => bytesBe 1 1 ++ bytesBe 1 n ++ List.replicate n 0

/-- What decompression stands at: a packet, or the header after one with the given addresses. -/
inductive Unpacking where
  | packet | header (src dst : Nat)
deriving DecidableEq, Repr

/-- An extension header of protocol `p` (R305), its next header number and what follows its NHC octets already known: the octets of
the header, and the rest. A fragment header has 7 octets, the first reserved; the others a length octet. -/
def unpackExt (p nh : Nat) (b : List Byte) : Option (List Byte × List Byte) :=
  if p = 44 then (if 7 ≤ b.length then some (bytesBe 1 nh ++ b.take 7, b.drop 7) else none)
  else
    match takeField 1 b with
    | none => none
    | some (n, b) =>
      let pad := (8 - (n + 2) % 8) % 8
      if b.length < n ∨ (p = 43 ∧ pad ≠ 0) then none
      else some (bytesBe 1 nh ++ bytesBe 1 ((n + 2 + pad) / 8 - 1) ++ b.take n ++ padOptions pad, b.drop n)

/-- The protocol of an NHC extension header that is accepted (R305). -/
def nhcProtocol : Nat → Option Nat
  | 0 => some 0
  | 1 => some 43
  | 2 => some 44
  | 3 => some 60
  | _ => none

/-- Decompression of IPHC and of the NHC headers after it: the protocol number and the octets of what begins here. Every header takes
one unit of `fuel`. -/
def unpack (ctx : Nat → Option Nat) (own : Nat) (ls ld : AirAddr) : Nat → Unpacking → List Byte → Option (Nat × List Byte)
  | 0, _, _ => none
  | fuel + 1, .packet, b =>
    match unpackHead ctx own ls ld b with
    | none => none
    | some (i, nhc, b) =>
      (if nhc then unpack ctx own ls ld fuel (.header i.src i.dst) b else some (i.nextHeader, b)).map (fun x =>
        (41, ipv6Octets { i with nextHeader := x.1, payload := x.2.length, body := x.2 }))
  | fuel + 1, .header src dst, b =>
    match b with
    | [] => none
    | c :: b =>
      let c := c.toNat
      if c / 8 = 30 then (unpackUdp c src dst b).map (fun u => (17, u))
      else if c / 16 ≠ 14 then none
      else if c / 2 % 8 = 7 then unpack ctx own ls ld fuel .packet b
      else
        match nhcProtocol (c / 2 % 8) with
        | none => none
        | some p =>
          if c.testBit 0 then
            match unpackExt p 0 b with
            | none => none
            | some (h, r) =>
              (unpack ctx own ls ld fuel (.header src dst) r).map (fun x => (p, bytesBe 1 x.1 ++ h.drop 1 ++ x.2))
          else
            match b with
            | [] => none
            | nh :: b => (unpackExt p nh.toNat b).map (fun x => (p, x.1 ++ x.2))

/-- What the 6LoRHs before a packet say: the option of an RPI, the addresses of RH3s, and the encapsulator and hop limit of
IP-in-IP. -/
structure Routing where
  rpi    : Option (List Byte) := none
  route  : List Nat := []
  encaps : Option (Nat × Nat) := none
deriving DecidableEq, Repr

/-- An address whose last octets `b` replace those of `ref`. -/
def mergeAddr (ref : Nat) (b : List Byte) : Nat := ref / 2 ^ (8 * b.length) * 2 ^ (8 * b.length) + beBytes b

/-- One Critical 6LoRH (R305), its first two octets `w` taken: RH3 of types 0 to 4, RPI of type 5, IP-in-IP of type 6. `root` is the
address that the first is relative to. -/
def unpackRoute (root w : Nat) (r : Routing) (b : List Byte) : Option (Routing × List Byte) :=
  let x := w / 256 % 32
  match w % 256 with
  | 5 =>
    let i := if x.testBit 1 then 0 else 1
    let k := if x.testBit 0 then 1 else 2
    if b.length < i + k then none
    else some ({ r with rpi := some (bytesBe 1 (x / 4 % 8 * 32) ++ bytesBe 1 (netNum b 0 i) ++ bytesBe 2 (netNum b i k)) }, b.drop (i + k))
  | 6 =>
    if x = 0 ∨ b.length < x then none
    else some ({ r with encaps := some (netNum b 0 1, mergeAddr root ((b.drop 1).take (x - 1))) }, b.drop x)
  | t =>
    let n := 2 ^ t
    if 4 < t ∨ b.length < (x + 1) * n then none
    else
      let route := (List.range (x + 1)).foldl (fun l k => l ++ [mergeAddr (l.getLast?.getD root) ((b.drop (k * n)).take n)]) r.route
      some ({ r with route }, b.drop ((x + 1) * n))

/-- The 6LoRHs of page 1, up to the first other dispatch; none where one is not accepted. -/
def unpackRoutes (root : Nat) : Nat → Routing → List Byte → Option (Routing × List Byte)
  | 0, _, _ => none
  | fuel + 1, r, b =>
    let w := netNum b 0 2
    if netNum b 0 1 / 64 ≠ 2 then some (r, b)
    else if b.length < 2 ∨ w / 2 ^ 13 ≠ 4 then none
    else
      match unpackRoute root w r (b.drop 2) with
      | none => none
      | some (r, b) => unpackRoutes root fuel r b

/-- A packet with the headers that its RPI and RH3 stand for before its payload: a hop-by-hop header with the RPL option, and a routing
header of type 3 with whole addresses. -/
def withRouting (r : Routing) (i : Ipv6) : Ipv6 :=
  let n := r.route.length
  let x := if n = 0 then (i.nextHeader, i.body)
    else (43, bytesBe 1 i.nextHeader ++ bytesBe 1 (2 * n) ++ bytesBe 1 3 ++ bytesBe 1 n ++ bytesBe 4 0 ++ r.route.flatMap (bytesBe 16) ++ i.body)
  let x := match r.rpi with
    | none => x
    | some o => (0, bytesBe 1 x.1 ++ bytesBe 1 0 ++ bytesBe 1 0x63 ++ bytesBe 1 4 ++ o ++ x.2)
  { i with nextHeader := x.1, body := x.2, payload := x.2.length }

/-- Decompression of an uplink payload (R305): an uncompressed packet, IPHC, or IPHC after the 6LoRHs of page 1. None for any other
form. `root` is the controller's own address in the slot. -/
def unpackPayload (ctx : Nat → Option Nat) (own root : Nat) (ls ld : AirAddr) (b : List Byte) : Option Ipv6 :=
  let d := netNum b 0 1
  if d = 0x41 then
    let p := b.drop 1
    if 40 ≤ p.length ∧ netNum p 0 1 / 16 = 6 ∧ 40 + netNum p 4 2 ≤ p.length then some (ipv6Of p) else none
  else if d = 0xF1 then
    match unpackRoutes root b.length {} (b.drop 1) with
    | none => none
    | some (r, b) =>
      (unpack ctx own ls ld (b.length + 1) .packet b).map (fun o =>
        match r.encaps with
        | none => withRouting r (ipv6Of o.2)
        | some (hopLimit, src) =>
          withRouting r { trafficClass := 0, flowLabel := 0, payload := o.2.length, nextHeader := 41, hopLimit, src
                          dst := r.route.headD root, body := o.2 })
  else (unpack ctx own ls ld (b.length + 1) .packet b).map (fun x => ipv6Of x.2)

end Sys2Proof.Machine
end

