-- ==== Sys2Proof/Machine/Nodes.lean ====
section
/-! DEFINITION. The node table at work (R264 to R297): learning, the sweeper, the core table window, the commands of the
NODE page, lost entries and the scan. -/

namespace Sys2Proof.Machine

/-- A path: logical front end, addresses in Path record order (the node first), and whether an IE or a pin gave it. -/
structure MeshPath where
  fe     : Nat
  addrs  : List Nat
  fromIe : Bool
deriving DecidableEq, Repr

/-- FIRST_HOP of a path: its last address. -/
def MeshPath.firstHop (r : MeshPath) : Nat := r.addrs.getLast?.getD 0

/-- The stored path of an entry. -/
def Node.route (n : Node) : MeshPath := { fe := n.fe, addrs := n.path, fromIe := octBit n.ext 0 6 }

/-- Two paths are equal when front end and addresses agree (R273). -/
def MeshPath.same (a b : MeshPath) : Bool := a.fe == b.fe && a.addrs == b.addrs

/-- The PORT octet of a path with [3:2] zero. -/
def MeshPath.port (r : MeshPath) : Nat := r.fe % 4 + 16 * ((r.addrs.length - 1) % 16)

/-- A path is written, both parts at once: PATH_CTL, PATH_ADDR and PATH_GEN + 1, then PORT and FIRST_HOP (R271). -/
def Node.writePath (r : MeshPath) (n : Node) : Node :=
  let g := (n.pathGen + 1) % 256
  let n := n.wext 0 1 (r.addrs.length % 32 + if r.fromIe then 64 else 0)
  let n := n.wext 1 1 g
  let n := n.wext 2 32 ((List.range 16).foldl (fun v i => v + (r.addrs.getD i 0) % 65536 * 65536 ^ i) 0)
  (n.wcore 20 1 (r.port + 4 * (g % 4))).wcore 21 2 r.firstHop

/-- `learn` of R273 on one entry; in bivouac no path changes, and the extended record stays (R615). -/
def learn (i : Nat) (r : MeshPath) (s : State) : State :=
  let n := node i s
  let s :=
    if inBivouac s then
      if !n.piton && (!n.pathValid || !n.route.same r) then inc F.CANARY.PATH_DEFERRED s else s
    else if n.piton then
      if n.route.same r then s
      else
        let s := modNode i (fun n => ((n.wext 34 2 r.firstHop).wext 36 1 r.port).bumpSat 37 1) s
        latch 0x20 2 (inc F.NODE.PITON_MISMATCH s)
    else if !n.pathValid then
      latch 0x20 1 (inc F.NODE.LEARNED (modNode i (fun n => (n.writePath r).flag 5 true) s))
    else if n.route.same r then s
    else
      let s := modNode i (fun n => ((n.writePath r).bumpSat 120 2).wext 124 4 (meshLow s)) s
      latch 0x20 0 (inc F.NODE.MOVED s)
  modNode i (fun n => n.flag 6 true) s

/-- Whether a Path record IE from sender `src` passes R259 and R274. -/
def pathUsable (src : Nat) (p : PathIe) : Bool :=
  1 ≤ p.addrs.length && p.addrs.length ≤ 16 && p.addrs.getLast? == some src && !p.truncated &&
    p.addrs.eraseDups == p.addrs && p.addrs.all (fun a => !reservedShort a)

/-- Learning at a passing verdict (R272 to R276): the sender `src` in slot `p` on front end `f`, then the originator of
a usable Path record. `phr` is the mesh time of the PHR's start, low 32 bits. -/
def learnFrame (p f src phr : Nat) (ie : Option PathIe) (s : State) : State :=
  let i := p * 65536 + src
  if !(nodeSeen i s).valid ∨ (node i s).blocked ∨ reservedShort src then s
  else
    let s := learn i { fe := f, addrs := [src], fromIe := false } s
    match ie with
    | none => s
    | some x =>
      if !pathUsable src x then
        (if x.truncated then inc F.NODE.IE_TRUNCATED s else inc F.NODE.IE_IGNORED s)
      else if x.addrs.length < 2 then s
      else
        let o := p * 65536 + x.addrs.headD 0
        if reservedIndex o ∨ !(nodeSeen o s).valid then inc F.NODE.UNKNOWN_ORIGIN s
        else if (node o s).blocked then latch 0x20 4 (inc F.NODE.BLOCKED_HEARD s)
        else
          let s := learn o { fe := f, addrs := x.addrs, fromIe := true } s
          nodeStat o (fun n => n.bump 104 4) (modNode o (fun n => n.wcore 24 4 phr) s)

/-! ### The sweeper (R277, R278) -/

/-- The ageing rule of R277 on an entry. -/
def Node.swept (n : Node) : Node :=
  if n.hit then (n.flag 6 false).flag 7 false
  else if !n.stale then n.flag 7 true
  else if !n.piton then n.flag 5 false
  else n

/-- A visit of the entry at SWEEP_POSITION; after the last index the pass ends and the next starts. -/
def sweeperVisit (s : State) : State :=
  if pageState 0x20 s ≠ RUN ∨ !isSet F.NODE.SWEEP_ENABLE s then s
  else
    let i := rd F.NODE.SWEEP_POSITION s
    let n := node i s
    let s := if !n.valid then s
      else
        let s := if n.pathValid && !n.swept.pathValid then inc F.NODE.AGED s else s
        setNode i n.swept s
    if i + 1 = 262144 then latch 0x20 3 (inc F.NODE.SWEEP_EPOCH (wr F.NODE.SWEEP_POSITION 0 s))
    else wr F.NODE.SWEEP_POSITION (i + 1) s

/-! ### The core table window (R283 to R285) -/

/-- Whether KEY_REF is a slot or the PAN group key (R287). -/
def keyRefValid (k : Nat) : Bool := k ≤ 1023 || k == 0xFFFF

/-- Octets that a window write does not change: PORT, FIRST_HOP, SCRATCH (R285). -/
def windowKept : List Nat := [20, 21, 22, 31]

/-- DRIFT written by software counts as an estimate where it is not 0 (DESIGN CHOICE, log 26). -/
def Node.driftGiven (n : Node) : Node := { n with sampled := oct n.core 28 2 != 0 }

/-- DRIFT_O and DRIFT_T written by software count as an offset held where they are not 0 (DESIGN CHOICE, log 26). -/
def Node.offsetGiven (n : Node) : Node := { n with offset := oct n.ext 80 8 != 0 }

/-- One octet of a window write: PENDING keeps its value. -/
def windowOctet (n : Node) (o v : Nat) : Node :=
  if o ∈ windowKept then n
  else if o = flagsOct then (n.wcore o 1 v).flag 2 n.pending
  else if o = 28 ∨ o = 29 then (n.wcore o 1 v).driftGiven
  else n.wcore o 1 v

/-- A discarded window write is counted with its index. -/
def windowDiscard (i : Nat) (s : State) : State := wr F.NODE.WINDOW_LAST i (inc F.NODE.WINDOW_DISCARDS s)

/-- The part of a window write that falls into record `i`, as (octet, value) pairs. -/
def windowRecord (i : Nat) (octets : List (Nat × Nat)) (s : State) : State :=
  setNode i (octets.foldl (fun n x => windowOctet n x.1 x.2) (node i s)) s

/-- Whether a window write may not change record `i`: a reserved entry, or a KEY_REF that it would leave bad (R285). -/
def windowBad (i : Nat) (octets : List (Nat × Nat)) (s : State) : Bool :=
  reservedIndex i || !keyRefValid (octets.foldl (fun n x => windowOctet n x.1 x.2) (node i s)).keyRef

/-- A host write of octets at window offset `off`: applied record by record, in ascending order; a write that is not
whole aligned words, or of which a record may not be changed, is discarded whole (R284, R285). -/
def windowWrite (off : Nat) (complete : Bool) (words : List Word) (s : State) : State :=
  if !complete ∨ off % 4 ≠ 0 then windowDiscard (off / 32) s
  else
    let octs := (List.range (4 * words.length)).map (fun k =>
      (off + k, (words.getD (k / 4) 0).toNat / 256 ^ (k % 4) % 256))
    let last := (off + 4 * words.length - 1) / 32
    let records := (List.range (last + 1 - off / 32)).map (fun r =>
      (off / 32 + r, (octs.filter (fun x => x.1 / 32 == off / 32 + r)).map (fun x => (x.1 % 32, x.2))))
    match records.find? (fun r => windowBad r.1 r.2 s) with
    | some r => windowDiscard r.1 s
    | none => records.foldl (fun s r => windowRecord r.1 r.2 s) s

/-! ### The commands (R286 to R289) -/

/-- CMD_STATUS.RESULT codes (R295). -/
def N_DONE : Nat := 1
/-- R295. -/
def N_BAD_INDEX : Nat := 2
/-- R295. -/
def N_EXISTS : Nat := 3
/-- R295. -/
def N_ABSENT : Nat := 4
/-- R295. -/
def N_BAD_FIELD : Nat := 5
/-- R295. -/
def N_DDR_ERROR : Nat := 6

/-- A command ends. -/
def nodeResult (op i r : Nat) (s : State) : State :=
  let s := wr F.NODE.CMD_STATUS_OP op (wr F.NODE.CMD_STATUS_INDEX i s)
  wr F.NODE.CMD_STATUS_BUSY 0 (wr F.NODE.CMD_STATUS_RESULT r s)

/-- The record image of CMD_CORE. -/
def cmdCore (s : State) : BitVec 256 :=
  BitVec.ofNat 256 ((List.range 8).foldl (fun v k => v + rd (F.NODE.CMD_CORE k) s * 2 ^ (32 * k)) 0)

/-- The record image of CMD_EXT. -/
def cmdExt (s : State) : BitVec 1024 :=
  BitVec.ofNat 1024 ((List.range 32).foldl (fun v k => v + rd (F.NODE.CMD_EXT k) s * 2 ^ (32 * k)) 0)

/-- The path that CMD_CORE and CMD_EXT name, if well formed for entry `i` (R287). -/
def wellFormedPath (i : Nat) (c : BitVec 256) (e : BitVec 1024) : Option MeshPath :=
  let n : Node := { core := c, ext := e }
  let a := n.path
  if 1 ≤ n.pathCount ∧ n.pathCount ≤ 16 ∧ n.hops = n.pathCount ∧ a.head? = some (i % 65536) ∧
      a.getLast? = some n.firstHop ∧ a.eraseDups = a ∧ a.all (fun x => !reservedShort x) then
    some { fe := n.fe, addrs := a, fromIe := true }
  else none

/-- Copies an entry to CMD_CORE and CMD_EXT (READ). -/
def copyToCmd (i : Nat) (s : State) : State :=
  let n := node i s
  let s := (List.range 8).foldl (fun s k => wr (F.NODE.CMD_CORE k) (oct n.core (4 * k) 4) s) s
  (List.range 32).foldl (fun s k => wr (F.NODE.CMD_EXT k) (oct n.ext (4 * k) 4) s) s

/-- Every queued or pending downlink frame of a node ends (R289, R291). -/
def endNodeFrames (i : Nat) (d : Disp) (s : State) : State :=
  endFrames (fun f => f.node == some i && (match f.place with
    | .queued | .committed _ _ | .pending => true
    | _ => false)) d s

/-- Both copies of a core record have lost an octet (R291). A reserved entry stays all zero (R265). -/
def nodeLost (i : Nat) (s : State) : State :=
  let s := setNode i ({ node i s with core := 0, sampled := false }.flag 4 (!reservedIndex i)) s
  let s := endNodeFrames i .dropParity s
  inc F.NODE.LOST (wr F.NODE.LOST_INDEX_VALID 1 (wr F.NODE.LOST_INDEX i s))

/-- A read of the core record of an entry has met a loss of both copies: the error is reported, with the record's place in the table, and
the entry is lost (R291). -/
def coreLost (i : Nat) (s : State) : State := sramLost 0 (32 * i) (nodeLost i s)

/-- A read of the core record of an entry mends an octet of copy A (R290). -/
def coreMended (i : Nat) (s : State) : State := sramCorrected 0 (32 * i) s

/-- The checks of a write to CMD (R286), then the command, which `find` meets in the table. -/
def nodeCmd (op i : Nat) (find : NodeFind) (run : State → State) (s : State) : State :=
  let data := BitVec.ofNat 32 (i % 2 ^ 18 + op * 2 ^ 24)
  if pageState 0x20 s ≠ RUN then reject 0x20 0x054 .bar0 .state data s
  else if isSet F.NODE.CMD_STATUS_BUSY s then reject 0x20 0x054 .bar0 .action data s
  else if reservedIndex i ∨ 262144 ≤ i then nodeResult op (i % 2 ^ 18) N_BAD_INDEX s
  else
    match find with
    | .lost => nodeResult op i N_DDR_ERROR (coreLost i s)
    | .mended => run (coreMended i s)
    | _ => run s

/-- READ: an entry whose two parts disagree is read again (R271). -/
def nodeRead (i : Nat) (find : NodeFind) (s : State) : State :=
  nodeCmd 1 i find (fun s =>
    if find = .ddrError then nodeResult 1 i N_DDR_ERROR s
    else if (node i s).consistent then nodeResult 1 i N_DONE (copyToCmd i s)
    else
      let s := wr F.NODE.CMD_STATUS_OP 1 (wr F.NODE.CMD_STATUS_INDEX i (wr F.NODE.CMD_STATUS_BUSY 1 s))
      { s with rereads := s.rereads ++ [.command i] }) s

/-- The bits of an extended record that no field of R270 takes are zero, and so are the addresses a path does not use. -/
def Node.tidy (n : Node) : Node :=
  let n := (((n.wext 0 1 (n.pathCount + oct n.ext 0 1 / 64 % 2 * 64)).wext 38 2 0).wext 74 1 (oct n.ext 74 1 % 4)).wext 90 2 0
  (List.range 16).foldl (fun n i => if i < n.pathCount then n else n.wext (2 + 2 * i) 2 0) (n.wext 123 1 0)

/-- ADMIT (R287, R637): the extended record first, with PATH_GEN advanced by 1, then the core record. -/
def nodeAdmit (i : Nat) (find : NodeFind) (s : State) : State :=
  nodeCmd 2 i find (fun s =>
    let o := node i s
    let c := cmdCore s
    let n : Node := { core := c, ext := cmdExt s }
    if o.valid then nodeResult 2 i N_EXISTS s
    else if !keyRefValid n.keyRef ∨ (n.piton ∧ (wellFormedPath i c (cmdExt s)).isNone) then
      nodeResult 2 i N_BAD_FIELD s
    else if find = .ddrError then nodeResult 2 i N_DDR_ERROR s
    else
      let g := (o.pathGen + 1) % 256
      let n := ((n.wext 88 40 0).wext 1 1 g).tidy.driftGiven.offsetGiven
      let n := n.wext 0 1 (n.pathCount + if n.piton then 64 else oct n.ext 0 1 / 64 % 2 * 64)
      let n := n.wcore 20 1 (n.port - n.port / 4 % 4 * 4 + 4 * (g % 4))
      let n := (n.wcore 30 1 0).wcore 31 1 0
      let n := (((n.flag 0 true).flag 2 false).flag 6 false).flag 7 false
      nodeResult 2 i N_DONE (cacheDrop i (setNode i (n.flag 5 n.piton) s))) s

/-- Octets of CMD_CORE under CMD_MASK; FLAGS goes by CMD_FLAG_MASK instead. -/
def maskCore (m : Nat) (c : BitVec 256) (n : Node) : Node :=
  let n := (List.range 31).foldl (fun n o => if m.testBit o && o != flagsOct then n.wcore o 1 (oct c o 1) else n) n
  if m.testBit 28 || m.testBit 29 then n.driftGiven else n

/-- Flags under CMD_FLAG_MASK. HIT can be cleared and not set (R276). -/
def maskFlags (m : Nat) (c : BitVec 256) (n : Node) : Node :=
  (List.range 8).foldl (fun x b => if m.testBit b then x.flag b (octBit c flagsOct b && (b != 6 || n.hit)) else x) n

/-- Words of CMD_EXT under CMD_EXT_MASK; octet 1 stays (R637). -/
def maskExt (m : Nat) (e : BitVec 1024) (n : Node) : Node :=
  let x := (List.range 32).foldl (fun (x : Node) w => if m.testBit w then x.wext (4 * w) 4 (oct e (4 * w) 4) else x) n
  let x := if m = 0 then x else (x.wext 1 1 n.pathGen).tidy
  if m.testBit 20 || m.testBit 21 then x.offsetGiven else x

/-- UPDATE (R287, R637). -/
def nodeUpdate (i : Nat) (find : NodeFind) (s : State) : State :=
  nodeCmd 3 i find (fun s =>
    let o := node i s
    let c := cmdCore s
    let m := rd F.NODE.CMD_MASK s
    let fm := rd F.NODE.CMD_FLAG_MASK s
    let em := rd F.NODE.CMD_EXT_MASK s
    let n := maskExt em (cmdExt s) (maskFlags fm c (maskCore m c o))
    let moved : Bool := n.port != o.port || n.firstHop != o.firstHop || oct n.ext 0 1 % 32 != oct o.ext 0 1 % 32 ||
      oct n.ext 2 32 != oct o.ext 2 32 || octBit n.ext 0 6 != octBit o.ext 0 6
    if !o.valid then nodeResult 3 i N_ABSENT s
    else if m.testBit 31 || fm.testBit 0 || fm.testBit 2 ||
        (m.testBit 20 && oct c 20 1 / 4 % 4 != o.port / 4 % 4) ||
        em.testBit 22 || em.testBit 23 || em.testBit 24 || !keyRefValid n.keyRef then nodeResult 3 i N_BAD_FIELD s
    else if moved ∧ (wellFormedPath i n.core n.ext).isNone then nodeResult 3 i N_BAD_FIELD s
    else if find = .ddrError then nodeResult 3 i N_DDR_ERROR s
    else
      let n := if moved then n.writePath { n.route with fromIe := octBit n.ext 0 6 } else n
      let keyed : Bool := n.keyRef != o.keyRef || n.keyGen != o.keyGen || oct n.ext 40 24 != oct o.ext 40 24
      nodeResult 3 i N_DONE (setNode i n (if keyed then cacheDrop i s else s))) s

/-- REMOVE (R289): core record, extended record, then the node's downlink frames. -/
def nodeRemove (i : Nat) (find : NodeFind) (s : State) : State :=
  nodeCmd 4 i find (fun s =>
    if !(node i s).valid then nodeResult 4 i N_ABSENT s
    else if find = .ddrError then nodeResult 4 i N_DDR_ERROR s
    else nodeResult 4 i N_DONE (endNodeFrames i .dropNoPath (cacheDrop i (setNode i {} s)))) s

/-- PIN (R287). -/
def nodePin (i : Nat) (find : NodeFind) (s : State) : State :=
  nodeCmd 5 i find (fun s =>
    let o := node i s
    if !o.valid then nodeResult 5 i N_ABSENT s
    else
      match wellFormedPath i (cmdCore s) (cmdExt s) with
      | none => nodeResult 5 i N_BAD_FIELD s
      | some r =>
        if find = .ddrError then nodeResult 5 i N_DDR_ERROR s
        else
          let same : Bool := o.route == r && o.hops == r.addrs.length && o.firstHop == r.firstHop
          let n := if same then o else o.writePath r
          nodeResult 5 i N_DONE (setNode i ((n.flag 1 true).flag 5 true) s)) s

/-- UNPIN (R287). -/
def nodeUnpin (i : Nat) (s : State) : State :=
  nodeCmd 6 i .good (fun s =>
    let o := node i s
    if !o.valid then nodeResult 6 i N_ABSENT s
    else
      let n := if o.piton then ((o.flag 1 false).flag 6 true).flag 7 false else o
      nodeResult 6 i N_DONE (setNode i n s)) s

/-- FORCE_STOP of NODE: a command in flight ends as DDR_ERROR (R297). -/
def nodeForceStop (s : State) : State :=
  if isSet F.NODE.CMD_STATUS_BUSY s then
    let s := { s with rereads := s.rereads.filter (fun r => match r with
      | .command _ => false
      | _ => true) }
    nodeResult (rd F.NODE.CMD_STATUS_OP s) (rd F.NODE.CMD_STATUS_INDEX s) N_DDR_ERROR s
  else s

/-! ### The scan (R294) -/

/-- The SCAN registers show entry `i`. -/
def showScan (i : Nat) (s : State) : State :=
  let n := node i s
  let s := wr F.NODE.SCAN0_INDEX i (wr F.NODE.SCAN0_NONE 0 (wr F.NODE.SCAN0_FLAGS (oct n.core flagsOct 1) s))
  let s := (List.range 2).foldl (fun s k => wr (F.NODE.SCAN_EUI k) (oct n.core (4 * k) 4) s) s
  let s := wr F.NODE.SCAN3 (oct n.core 24 4) s
  let s := wr F.NODE.SCAN4_PORT n.port (wr F.NODE.SCAN4_FIRST_HOP n.firstHop (wr F.NODE.SCAN4_ASSAY (oct n.core 23 1) s))
  let s := wr F.NODE.SCAN5_DRIFT (oct n.core 28 2) (wr F.NODE.SCAN5_APPT (oct n.core 30 1) s)
  let s := wr F.NODE.SCAN6 (oct n.ext 100 4) s
  wr F.NODE.SCAN7_MOVES (oct n.ext 120 2) (wr F.NODE.SCAN7_LAST_DISP (oct n.ext 122 1) s)

/-- The SCAN registers with no VALID entry. -/
def clearScan (s : State) : State :=
  let s := wr F.NODE.SCAN0_INDEX 0 (wr F.NODE.SCAN0_NONE 1 (wr F.NODE.SCAN0_FLAGS 0 s))
  let s := (List.range 2).foldl (fun s k => wr (F.NODE.SCAN_EUI k) 0 s) s
  let s := wr F.NODE.SCAN3 0 (wr F.NODE.SCAN4_PORT 0 (wr F.NODE.SCAN4_FIRST_HOP 0 (wr F.NODE.SCAN4_ASSAY 0 s)))
  wr F.NODE.SCAN5_DRIFT 0 (wr F.NODE.SCAN5_APPT 0 (wr F.NODE.SCAN6 0 (wr F.NODE.SCAN7_MOVES 0 (wr F.NODE.SCAN7_LAST_DISP 0 s))))

/-- The next VALID entry after `i`, wrapping from the highest to the lowest. -/
def nextValid (i : Nat) (s : State) : Option Nat :=
  let v := (s.nodes.filter (fun x => x.2.valid)).map (·.1)
  match v.find? (fun k => i < k) with
  | some k => some k
  | none => v.head?

/-- The scan moves on to an entry; one whose parts disagree is read again first. -/
def scanTo (i : Nat) (s : State) : State :=
  if (node i s).consistent then showScan i s else { s with rereads := s.rereads ++ [.scan i] }

/-- The read of SCAN[7] over MGMT SPI advances the scan. -/
def nodeScanAdvance (s : State) : State :=
  match nextValid (if isSet F.NODE.SCAN0_NONE s then 262144 else rd F.NODE.SCAN0_INDEX s) s with
  | some i => scanTo i s
  | none => clearScan s

/-- Between advances the scan follows the table: no entry while none is VALID, and the first VALID one when an entry
appears or the scanned one is gone. -/
def refreshScan (s : State) : State :=
  let i := rd F.NODE.SCAN0_INDEX s
  if isSet F.NODE.SCAN0_NONE s ∨ !(node i s).valid then
    match nextValid (if isSet F.NODE.SCAN0_NONE s then 262144 else i) s with
    | some k => if s.rereads.any (fun r => r == .scan k) then s else scanTo k s
    | none => if isSet F.NODE.SCAN0_NONE s then s else clearScan s
  else s

/-- A waiting READ command or scan reads again; false when the parts still disagree. -/
def rereadNode (r : Reader) (s : State) : Bool × State :=
  match r with
  | .command i => if (node i s).consistent then (true, nodeResult 1 i N_DONE (copyToCmd i s)) else (false, s)
  | .scan i => if (node i s).consistent then (true, showScan i s) else (false, s)
  | .packet _ => (false, s)

end Sys2Proof.Machine
end

