-- ==== Sys2Proof/Machine/Rings.lean ====
section
/-! DEFINITION. The shared window and its rings (R479 to R502): tally bytes, receive and transmit slots, levels, and the
notices. -/

namespace Sys2Proof.Machine

/-! ### The window -/

/-- The DDR address of a window offset (R479). -/
def winAddr (x : Nat) (s : State) : Nat := rd F.HOSTIF.WIN_BASE_LO s + rd F.HOSTIF.WIN_BASE_HI s * 2 ^ 32 + x

/-- Octets of the window. -/
def winRead (x n : Nat) (s : State) : List Byte := readOctets s.ddr (winAddr x s) n

/-- Writes octets into the window. -/
def winWrite (x : Nat) (bs : List Byte) (s : State) : State := { s with ddr := writeOctets s.ddr (winAddr x s) bs }

/-- The 12-octet time of R491: SEC in 6 octets, NS in 4, FRAC in 2, from device time in units of 2^-32 ns. -/
def timeBytes (d : Nat) : List Byte :=
  bytesLe 6 (d / 2 ^ 32 / 1000000000) ++ bytesLe 4 (d / 2 ^ 32 % 1000000000) ++ bytesLe 2 (d / 2 ^ 16 % 2 ^ 16)

/-! ### Notices (R501) -/

/-- Pushes a notice: only while its type is enabled and the page is in RUN; refused at 1,024 (R499 to R501, R509). -/
def pushNotice (type arg : Nat) (s : State) : State :=
  if pageState 0x4C s ≠ RUN ∨ !(rd F.NOTICE.ENABLE s).testBit (type - 1) then s
  else
    let v := type * 4096 + arg % 4096
    if 1024 ≤ s.notices.length then
      latch 0x4C 0 (wr F.NOTICE.LAST_REFUSED v (inc F.NOTICE.REFUSED s))
    else
      let s := { s with notices := s.notices ++ [v] }
      peak F.NOTICE.COUNT_PEAK s.notices.length (wr F.NOTICE.COUNT s.notices.length s)

/-- A notice about a ring slot. -/
def slotNotice (type r i : Nat) (s : State) : State := pushNotice type (r + i % 128 * 32) s

/-- A pop (R498, R499, R502): four lanes, or what is held, an idle item from an empty FIFO. -/
def noticePop (s : State) : State :=
  let lane := fun i => s.notices.getD i 0
  let v := s.notices.drop 4
  let s := wr F.NOTICE.POP_HI (lane 2 + lane 3 * 65536)
    { s with readData := BitVec.ofNat 32 (lane 0 + lane 1 * 65536), notices := v }
  wr F.NOTICE.COUNT v.length s

/-- Every notice held is discarded (R509). -/
def dropNotices (s : State) : State := wr F.NOTICE.COUNT 0 { s with notices := [] }

/-! ### Rings and tallies -/

/-- A ring beyond its page. -/
def ring (r : Nat) (s : State) : Ring := look s.rings r {}

/-- Changes a ring; WAITING follows (R505). -/
def modRing (r : Nat) (f : Ring → Ring) (s : State) : State :=
  let g := f (ring r s)
  wr (F.RINGS.WAITING r) g.waiting.length { s with rings := insert s.rings r g }

/-- Tally owners (R486). -/
def T_FREE : Nat := 0
/-- R486. -/
def T_DEVICE : Nat := 1
/-- R486. -/
def T_HOST : Nat := 2
/-- R486. -/
def T_POISON : Nat := 3

/-- The window offset of a tally byte. -/
def tallyOff (r i : Nat) (s : State) : Nat := rd (F.RINGS.RING_TALLY_OFF r) s * 64 + i

/-- The window offset of a slot. -/
def slotOff (r i : Nat) (s : State) : Nat := rd (F.RINGS.RING_BASE r) s * 4096 + i * 4096

/-- SIZE of a ring. -/
def ringSize (r : Nat) (s : State) : Nat := rd (F.RINGS.RING_SIZE r) s

/-- A tally byte. -/
def tally (r i : Nat) (s : State) : Nat := (readByte s.ddr (winAddr (tallyOff r i s) s)).toNat

/-- Writes a tally byte. -/
def setTally (r i owner lap : Nat) (s : State) : State :=
  { s with ddr := writeByte s.ddr (winAddr (tallyOff r i s) s) (BitVec.ofNat 8 (owner + lap % 64 * 4)) }

/-- LEVEL of a ring (R497): slots not available to the producer. -/
def ringLevel (r : Nat) (s : State) : Nat :=
  if r < 16 then ((List.range (ringSize r s)).filter (fun i => tally r i s % 4 ≠ T_FREE)).length
  else ((ring r s).held.map (·.2)).foldl (· + ·) 0

/-- LEVEL, its peak and its latch brought up to date (R497). The slots that a transmit ring holds when it is disabled
still leave its LEVEL as they return. -/
def refreshLevel (r : Nat) (s : State) : State :=
  if r < 16 && !isSet (F.RINGS.RING_CFG_ENABLE r) s then s
  else
    let old := rd (F.RINGS.RING_LEVEL r) s
    let v := ringLevel r s
    let h := rd (F.RINGS.RING_LEVEL_HIGH r) s
    let s := peak (F.RINGS.PEAK r) v (wr (F.RINGS.RING_LEVEL r) v s)
    if old < h ∧ h ≤ v then latch 0x41 1 (wr (F.RINGS.RING_LEVEL_LATCH r) 1 s) else s

/-- POS advances by `n` slots; the pass number follows a wrap (R489). -/
def advanceRing (r n : Nat) (s : State) : State :=
  let z := ringSize r s
  let x := rd (F.RINGS.RING_POS_NEXT r) s + n
  wr (F.RINGS.RING_POS_NEXT r) (x % z) (wr (F.RINGS.RING_POS_LAP r) (rd (F.RINGS.RING_POS_LAP r) s + x / z) s)

/-- The slots of a packet of `n` from NEXT on, each with its pass number. -/
def ringSpan (r n : Nat) (s : State) : List (Nat × Nat) :=
  let z := ringSize r s
  let x := rd (F.RINGS.RING_POS_NEXT r) s
  let l := rd (F.RINGS.RING_POS_LAP r) s
  (List.range n).map (fun j => ((x + j) % z, (l + (x + j) / z) % 64))

/-- Poisoning of slots from NEXT on, each with the pass it belongs to (R489). -/
def poisonSlots (r n cause : Nat) (s : State) : State :=
  let span := ringSpan r n s
  let first := (span.headD (0, 0)).1
  let s := span.foldl (fun s x => setTally r x.1 T_POISON x.2 s) s
  let s := wr F.TALLY.POISON_LAST_RING r (wr F.TALLY.POISON_LAST_SLOT first (wr F.TALLY.POISON_LAST_CAUSE cause s))
  let s := latch 0x42 0 (inc F.TALLY.POISONED s)
  refreshLevel r (advanceRing r n (slotNotice 4 r first s))

/-- Enabling a ring (R484): every tally FREE with lap 63, position and pass 0. -/
def startRing (r : Nat) (s : State) : State :=
  let z := ringSize r s
  let s := winWrite (tallyOff r 0 s) (List.replicate z 0xFC) s
  let s := wr (F.RINGS.RING_POS_NEXT r) 0 (wr (F.RINGS.RING_POS_LAP r) 0 s)
  refreshLevel r (modRing r (fun g => { g with held := [] }) (wr (F.RINGS.RING_CFG_ENABLE r) 1 s))

/-- Whether two areas of the window meet. -/
def areasMeet (a n b m : Nat) : Bool := decide (a < b + m) && decide (b < a + n)

/-- The areas of an enabled ring: slot array and tally array. -/
def ringAreas (r : Nat) (s : State) : List (Nat × Nat) :=
  [(slotOff r 0 s, ringSize r s * 4096), (tallyOff r 0 s, ringSize r s)]

/-- Whether the areas of ring `r` fit (R484): inside the window, apart from each other and from every other enabled
ring's. -/
def ringFits (r : Nat) (s : State) : Bool :=
  let mine := ringAreas r s
  mine.all (fun a => a.1 + a.2 ≤ 2 ^ 28) &&
    !areasMeet (slotOff r 0 s) (ringSize r s * 4096) (tallyOff r 0 s) (ringSize r s) &&
    (List.range 32).all (fun q =>
      q == r || !isSet (F.RINGS.RING_CFG_ENABLE q) s ||
        (ringAreas q s).all (fun b => mine.all (fun a => !areasMeet a.1 a.2 b.1 b.2)))

/-- A write of RING[r].CFG.ENABLE 0→1. -/
def ringEnable (r : Nat) (s : State) : State :=
  if isSet (F.RINGS.RING_CFG_ENABLE r) s then s
  else if ringFits r s then startRing r s
  else reject 0x41 (0x100 + 0x20 * r) .bar0 .range 1 s

/-! ### Receive rings (R489 to R493) -/

/-- A packet's disposition reaches every frame that shares it, and its MHR source's statistics. -/
def endItem (x : Item) (d : Disp) (s : State) : State := rxStat x.node d (closeAll x.frames d s)

/-- Slots of a packet (R485). -/
def slotsFor (octets : Nat) : Nat := max 1 ((octets + 4031) / 4032)

/-- Waiting packets of a receive ring claim slots in their order (R489, R493): slot NEXT is skipped if POISON,
poisoned if FREE with a wrong LAP; the packet waits while any slot it needs is not FREE with its LAP. `fuel` bounds the
slots passed over. -/
def claims (r : Nat) : Nat → State → State
  | 0, s => s
  | fuel + 1, s =>
    match (ring r s).waiting with
    | [] => s
    | x :: rest =>
      let i := rd (F.RINGS.RING_POS_NEXT r) s
      let l := rd (F.RINGS.RING_POS_LAP r) s
      let t := tally r i s
      if t % 4 = T_POISON then
        (if (List.range (ringSize r s)).all (fun k => tally r k s % 4 == T_POISON) then s
         else claims r fuel (advanceRing r 1 s))
      else if t % 4 = T_FREE ∧ t / 4 ≠ (l + 63) % 64 then claims r fuel (poisonSlots r 1 1 s)
      else
        let n := slotsFor x.octets
        let span := ringSpan r n s
        if n ≤ ringSize r s ∧ span.all (fun y => tally r y.1 s == (y.2 + 63) % 64 * 4) then
          let s := span.foldl (fun s y => winWrite (slotOff r y.1 s) (bytesLe 4 0) (setTally r y.1 T_DEVICE y.2 s)) s
          let s := modRing r (fun g => { g with
            waiting := rest, fills := g.fills ++ [{ slot := i, count := n, laps := span.map (·.2), item := x }] }) s
          claims r fuel (refreshLevel r (advanceRing r n s))
        else s

/-- Claims with enough fuel for every slot and packet. -/
def claimAll (r : Nat) (s : State) : State :=
  if pageState 0x41 s = RUN ∧ isSet (F.RINGS.RING_CFG_ENABLE r) s then
    claims r (2 * ringSize r s + (ring r s).waiting.length + 2) s
  else s

/-- The ring that takes a class (R301). -/
def classRing (c : Nat) (s : State) : Nat :=
  if c < 8 then rd (F.FWD.RING_MAP_CLASS c) s else rd F.FWD.RING_MAP_CLASS8 s

/-- The oldest delivered packet is handed to its ring (R493): it ends at once while the ring or the page does not take
it, else it claims its slots or waits. A tally read that fails uncorrectably poisons slot NEXT (R489). -/
def ringHandOver (ecc : Bool) (s : State) : State :=
  match s.delivered with
  | [] => s
  | x :: rest =>
    let s := { s with delivered := rest }
    let r := classRing x.cls s
    if pageState 0x41 s ≠ RUN ∨ !isSet (F.RINGS.RING_CFG_ENABLE r) s then endItem x .dropDisabled s
    else
      let s := modRing r (fun g => { g with waiting := g.waiting ++ [{ x with since := s.now }] }) s
      claimAll r (if ecc ∧ tally r (rd (F.RINGS.RING_POS_NEXT r) s) s % 4 ≠ T_POISON then poisonSlots r 1 3 s else s)

/-- The 64-octet header of a receive slot (R491), without the LENGTH word. -/
def rxHeader (x : Item) (seq : Nat) : List Byte :=
  bytesLe 1 x.cls ++ bytesLe 1 x.form ++ bytesLe 1 x.origin ++ bytesLe 1 x.marks ++
    bytesLe 4 (match x.node with | some i => i % 2 ^ 18 + 2 ^ 31 | none => 0) ++
    bytesLe 4 x.counter ++ (x.assay ++ List.replicate 16 0).take 16 ++ timeBytes x.device ++ bytesLe 4 x.mesh ++
    bytesLe 2 x.tci ++ bytesLe 2 0 ++ bytesLe 4 seq ++ List.replicate 8 0

/-- One slot of a fill is written: payload, header, LENGTH word (R488). -/
def fillSlot (r : Nat) (f : Fill) (payload : List Byte) (j : Nat) (s : State) : State :=
  let i := (f.slot + j) % ringSize r s
  let part := (payload.drop (4032 * j)).take 4032
  let s := winWrite (slotOff r i s + 64) part s
  let s := winWrite (slotOff r i s + 4) (if j = 0 then rxHeader f.item (ring r s).seq else List.replicate 60 0) s
  winWrite (slotOff r i s)
    (bytesLe 4 (if j = 0 then f.item.octets % 2 ^ 14 + f.count * 2 ^ 16 else part.length + 2 ^ 30)) s

/-- The oldest fill of a ring is complete (R488, R492): its slots become HOST, the first last, and the packet ends as
OK_DELIVERED. The payload is the packet that the engine formed, or else what the command brings. -/
def ringFillDone (r : Nat) (payload : List Byte) (s : State) : State :=
  match (ring r s).fills with
  | [] => s
  | f :: rest =>
    let bytes := (f.item.data.getD payload ++ List.replicate f.item.octets 0).take f.item.octets
    let s := (List.range f.count).foldl (fun s j => fillSlot r f bytes j s) s
    let s := (List.range f.count).reverse.foldl (fun s j =>
      setTally r ((f.slot + j) % ringSize r s) T_HOST (f.laps.getD j 0) s) s
    let s := modRing r (fun g => { g with fills := rest, seq := (g.seq + 1) % 2 ^ 32 }) s
    let s := endItem f.item .okDelivered (inc (F.RINGS.PACKETS r) s)
    refreshLevel r (slotNotice 1 r f.slot s)

/-- The ring time-out of the oldest waiting packet of a ring (R493). -/
def ringTimeout (r : Nat) (s : State) : State :=
  match (ring r s).waiting with
  | [] => s
  | x :: rest =>
    let s := modRing r (fun g => { g with waiting := rest }) s
    let s := endItem x .dropRingFull (inc (F.RINGS.FULL_DROPS r) s)
    claimAll r (pushNotice 3 r (latch 0x41 0 s))

/-! ### Host writes into the window (R487, R490) -/

/-- The changes that R487 gives to the host. -/
def hostMay (r old new : Nat) : Bool :=
  old == new ||
    (if r < 16 then (old % 4 == T_HOST || old % 4 == T_POISON) && new % 4 == T_FREE
     else (old % 4 == T_FREE && new % 4 == T_HOST) || ((old % 4 == T_FREE || old % 4 == T_HOST) && new % 4 == T_DEVICE) ||
       (old % 4 == T_POISON && new % 4 == T_FREE))

/-- The enabled ring whose tally array holds a window offset, while tallies are checked (R490, R506). -/
def tallyRing (x : Nat) (s : State) : Option Nat :=
  if pageState 0x41 s ≠ OFF ∧ pageState 0x41 s ≠ STOPPED then
    (List.range 32).find? (fun r =>
      isSet (F.RINGS.RING_CFG_ENABLE r) s && decide (tallyOff r 0 s ≤ x) && decide (x < tallyOff r 0 s + ringSize r s))
  else none

/-- One octet of a host write. -/
def hostOctet (x : Nat) (v : Byte) (s : State) : State :=
  match tallyRing x s with
  | none => winWrite x [v] s
  | some r =>
    let i := x - tallyOff r 0 s
    if hostMay r (tally r i s) v.toNat then winWrite x [v] s
    else
      let s := wr F.TALLY.ILLEGAL_LAST_RING r (wr F.TALLY.ILLEGAL_LAST_SLOT i (wr F.TALLY.ILLEGAL_LAST_VALUE v.toNat s))
      latch 0x42 0 (inc F.TALLY.ILLEGAL s)

/-- The octets of a host write that are enabled, from offset `x` on. -/
def hostOctets : Nat → List (Option Byte) → State → State
  | _, [], s => s
  | x, b :: bs, s => hostOctets (x + 1) bs (match b with | some v => hostOctet x v s | none => s)

/-- A host write into the window: octet by octet, then freed receive slots are claimed. -/
def hostWrite (x : Nat) (bs : List (Option Byte)) (s : State) : State :=
  let rs := (List.range 16).filter (fun r => isSet (F.RINGS.RING_CFG_ENABLE r) s &&
    areasMeet x bs.length (tallyOff r 0 s) (ringSize r s))
  rs.foldl (fun s r => claimAll r (refreshLevel r s)) (hostOctets x bs s)

/-- A host write into the tally array of ring `r` from slot `i` on. -/
def hostTallyWrite (r i : Nat) (bs : List (Option Byte)) (s : State) : State :=
  if pageState 0x40 s = OFF then s else hostWrite (tallyOff r i s) bs s

/-! ### Transmit slots (R494 to R496) -/

/-- RESULT codes of STATUS (R494). -/
def S_DONE : Nat := 1
/-- R494. -/
def S_QUEUED : Nat := 2
/-- R494. -/
def S_BAD_DESC : Nat := 3
/-- R494. -/
def S_BAD_SLOT : Nat := 4
/-- R494. -/
def S_RELEASED : Nat := 5

/-- A held transmit slot returns: STATUS, DONE_TIME, then the tallies FREE, the first slot last (R494, R496, R501). -/
def returnSlot (r i result disp : Nat) (s : State) : State :=
  match (ring r s).held.find? (fun h => h.1 == i) with
  | none => s
  | some h =>
    let s := winWrite (slotOff r i s + 40) (timeBytes s.clock.device) s
    let s := winWrite (slotOff r i s + 4) (bytesLe 4 (disp % 256 + result * 256)) s
    let s := (List.range h.2).reverse.foldl (fun s j =>
      let k := (i + j) % ringSize r s
      setTally r k T_FREE (tally r k s / 4) s) s
    let s := modRing r (fun g => { g with held := g.held.filter (fun y => y.1 ≠ i) }) s
    slotNotice 2 r i (refreshLevel r s)

/-- A slot that is returned with a failed check (R495). -/
def badSlot (r i result : Nat) (s : State) : State := returnSlot r i result 0 (inc (F.RINGS.BAD r) s)

/-- DRAINING of RINGS: waiting packets end (R506). -/
def ringsDrain (s : State) : State :=
  (List.range 16).foldl (fun s r =>
    let w := (ring r s).waiting
    w.foldl (fun s x => endItem x .dropDisabled s) (modRing r (fun g => { g with waiting := [] }) s)) s

/-- The held slots of the transmit rings, ring and slot, in ascending ARG of their notices (R501). -/
def heldSlots (s : State) : List (Nat × Nat) :=
  ((List.range 16).map (fun k => (ring (16 + k) s).held.map (fun h => (16 + k, h.1)))).flatten.insertionSort
    (fun a b => a.2 % 128 * 32 + a.1 ≤ b.2 % 128 * 32 + b.1)

/-- FORCE_STOP of RINGS (R506): waiting packets end and held slots return. -/
def ringsForceStop (s : State) : State :=
  let s := ringsDrain s
  (heldSlots s).foldl (fun s h => returnSlot h.1 h.2 S_RELEASED 0 s) s

/-- A block reset of RINGS (R82): packets that wait or are being filled end, and no slot is held any more. -/
def ringsDiscard (s : State) : State :=
  let s := ringsDrain s
  (List.range 32).foldl (fun s r =>
    let w := (ring r s).fills
    w.foldl (fun s f => endItem f.item .dropDisabled s) (modRing r (fun g => { g with fills := [], held := [] }) s)) s

/-- Whether RINGS has drained: no fill in progress and no transmit slot held (R506). -/
def ringsDrained (s : State) : Bool := (s.rings.all (fun x => x.2.fills.isEmpty && x.2.held.isEmpty))

end Sys2Proof.Machine
end

