-- ==== Sys2Proof/Machine/Ether.lean ====
section
/-! DEFINITION. The backhaul Ethernet ports (R421 to R448) with their PTP timestamping (R463 to R468) and module
management (R437 to R439). -/

namespace Sys2Proof.Machine

/-- The page of a port. -/
def ethPage (n : Nat) : Nat := 0x38 + n % 2

/-- The statistics page of a port. -/
def ethStatPage (n : Nat) : Nat := 0x3A + n % 2

/-- A port beyond its page. -/
def port (n : Nat) (s : State) : Port := look s.ports n {}

/-- Changes a port. -/
def modPort (n : Nat) (f : Port → Port) (s : State) : State := { s with ports := insert s.ports n (f (port n s)) }

/-- A word latched for the next read on a route. -/
def latchWord (rt : Route) (pg off v : Nat) (s : State) : State :=
  { s with latched := insert s.latched ((routeCode rt * 256 + pg) * 16384 + off) v }

/-- A latched word; 0 if none has been latched. -/
def latchedWord (rt : Route) (pg off : Nat) (s : State) : Nat := look s.latched ((routeCode rt * 256 + pg) * 16384 + off) 0

/-! ### Rates (R421) -/

/-- The speed code of a port in SGMII: the PHY's word gives it while MODE.AN is 1, else it is 1,000 Mb/s. -/
def sgmiiSpeed (n : Nat) (s : State) : Nat := if isSet (F.ETH.MODE_AN n) s then (port n s).speed else 0

/-- Picoseconds of an octet in a port's mode. -/
def octetPs (n : Nat) (s : State) : Nat :=
  match rd (F.ETH.MODE_SEL n) s with
  | 0 => 800
  | 1 => 1600
  | 2 => 3200
  | 3 => 8000
  | _ => [8000, 80000, 800000].getD (sgmiiSpeed n s) 8000

/-- Picoseconds of a pause quantum, 64 octets. -/
def quantumPs (n : Nat) (s : State) : Nat := 64 * octetPs n s

/-- A port's own MAC address, octet 0 most significant (R424). -/
def macAddr (n : Nat) (s : State) : Nat := rd (F.ETH.MAC_ADDR_HI n) s * 2 ^ 32 + rd (F.ETH.MAC_ADDR_LO n) s

/-- How a 48-bit destination is addressed. -/
def castOf (dst : Nat) : Cast :=
  if dst = 0xFFFFFFFFFFFF then .broadcast else if dst / 2 ^ 40 % 2 = 1 then .multicast else .unicast

/-! ### RMON (R444, R445) -/

/-- The width of RMON counter `i`. -/
def rmonWidth (i : Nat) : Nat := if i < 3 then 48 else 40

/-- An RMON counter. -/
def rmonCount (n i : Nat) (s : State) : Nat := look (port n s).rmon i 0

/-- Advances an RMON counter; a change of its most significant bit sets HALF_WHICH and latches RMON_HALF. -/
def rmonAdd (n i v : Nat) (s : State) : State :=
  let w := rmonWidth i
  let old := rmonCount n i s
  let new := (old + v) % 2 ^ w
  let s := modPort n (fun p => { p with rmon := insert p.rmon i new }) s
  let s := wr (F.ETHSTAT.COUNTER_LO n i) new s
  if old / 2 ^ (w - 1) = new / 2 ^ (w - 1) then s
  else
    latch (ethStatPage n) 0
      (if i < 32 then orBits (F.ETHSTAT.HALF_WHICH0 n) (2 ^ i) s else orBits (F.ETHSTAT.HALF_WHICH1 n) (2 ^ (i - 32)) s)

/-- Advances an RMON counter by 1. -/
def rmon (n i : Nat) (s : State) : State := rmonAdd n i 1 s

/-- The bin of a size, 0 to 6. -/
def sizeBin (size : Nat) : Nat :=
  if size ≤ 64 then 0 else if size ≤ 127 then 1 else if size ≤ 255 then 2 else if size ≤ 511 then 3
  else if size ≤ 1023 then 4 else if size ≤ 1518 then 5 else 6

/-- The counter of an address kind, from a base. -/
def castCounter (base : Nat) : Cast → Nat
  | .unicast => base
  | .multicast => base + 1
  | .broadcast => base + 2

/-- A read of an RMON counter's LO word latches its HI snapshot (R444). -/
def rmonLoRead (rt : Route) (n i : Nat) (s : State) : State :=
  let v := rmonCount n i s
  let s := latchWord rt (ethStatPage n) (0x104 + 8 * i) (v / 2 ^ 32) s
  let s := wr (F.ETHSTAT.COUNTER_HI n i) (v / 2 ^ 32) s
  { s with readData := BitVec.ofNat 32 v }

/-- Main octet counters: the registers show their words (R443). -/
def showOctets (n : Nat) (s : State) : State :=
  wr (F.ETH.RX_OCTETS_LO n) (port n s).rxOctets (wr (F.ETH.TX_OCTETS_LO n) (port n s).txOctets s)

/-- A read of a main octet counter's LO word (R443): the low half is returned, the counter cleared, the high half
latched. -/
def ethOctetLoRead (rt : Route) (n : Nat) (tx : Bool) (s : State) : State :=
  let v := if tx then (port n s).txOctets else (port n s).rxOctets
  let s := latchWord rt (ethPage n) (if tx then 0x0C0 else 0x0B8) (v / 2 ^ 32 % 2 ^ 32) s
  let s := if tx then wr (F.ETH.TX_OCTETS_HI n) (v / 2 ^ 32) s else wr (F.ETH.RX_OCTETS_HI n) (v / 2 ^ 32) s
  let s := modPort n (fun p => if tx then { p with txOctets := 0 } else { p with rxOctets := 0 }) s
  showOctets n { s with readData := BitVec.ofNat 32 v }

/-! ### Frames end -/

/-- A frame toward a port ends. -/
def endEgress (x : Egress) (d : Disp) (s : State) : State :=
  let s := rxStat x.source d (closeAll x.frames d s)
  match x.fromSlot with
  | some (r, i) => returnSlot r i S_DONE d.code s
  | none => s

/-- The frame in transmission is lost (R422, R441). -/
def abortAir (n : Nat) (d : Disp) (s : State) : State :=
  match (port n s).airFrame with
  | some x =>
    let s := modPort n (fun p => { p with airFrame := none, busy := false }) s
    endEgress x d (rmon n 38 (inc (F.ETH.TX_ABORTED n) s))
  | none => modPort n (fun p => { p with busy := false, airPause := none }) s

/-! ### Link and pause state (R422, R432) -/

/-- PAUSE and ASM_DIR as the port advertises them (IEEE 802.3 Annex 28B). -/
def localPause (n : Nat) (s : State) : Bool × Bool :=
  match isSet (F.ETH.PAUSE_RX_EN n) s, isSet (F.ETH.PAUSE_TX_EN n) s with
  | true, true => (true, false)
  | true, false => (true, true)
  | false, true => (false, true)
  | false, false => (false, false)

/-- Whether pause reception and transmission are active (R432); a muted role sends none (R577). -/
def pauseActive (n : Nat) (s : State) : Bool × Bool :=
  let rx := isSet (F.ETH.PAUSE_RX_EN n) s
  let tx := isSet (F.ETH.PAUSE_TX_EN n) s
  let both :=
    if rd (F.ETH.MODE_SEL n) s < 3 ∨ !isSet (F.ETH.MODE_AN n) s then (rx, tx)
    else
      let l := localPause n s
      let p := port n s
      if l.1 && p.partnerPause then (rx, tx)
      else if !l.1 && l.2 && p.partnerPause && p.partnerAsm then (false, tx)
      else if l.1 && l.2 && !p.partnerPause && p.partnerAsm then (rx, false)
      else (false, false)
  (both.1, both.2 && !roleMuted s)

/-- The pause timer runs. -/
def pausedByPeer (n : Nat) (s : State) : Bool :=
  match (port n s).pauseEnd with
  | some t => decide (s.now < t)
  | none => false

/-- The quanta left of the peer's pause (R433). -/
def pauseRemain (n : Nat) (s : State) : Nat := ((port n s).pauseEnd.getD 0 - s.now) * 1000 / quantumPs n s

/-- STATUS and PAUSE_REMAIN brought up to date. -/
def showPause (n : Nat) (s : State) : State :=
  let a := pauseActive n s
  let s := wrBool (F.ETH.STATUS_PAUSE_RX_ACTIVE n) a.1 (wrBool (F.ETH.STATUS_PAUSE_TX_ACTIVE n) a.2 s)
  let s := wrBool (F.ETH.STATUS_PAUSED_BY_PEER n) (pausedByPeer n s) s
  wr (F.ETH.PAUSE_REMAIN n) (pauseRemain n s) s

/-- DOWN_REASON of R422; 0 when the link is up. -/
def downReason (n : Nat) (s : State) : Nat :=
  let p := port n s
  let an := isSet (F.ETH.MODE_AN n) s && decide (3 ≤ rd (F.ETH.MODE_SEL n) s)
  if pageState (ethPage n) s = OFF then 6
  else if isSet (F.ETH.MODE_LOS_USE n) s && p.los then 1
  else if !p.sync then 2
  else if an && !p.anDone then 3
  else if an && !p.fullDuplex then 4
  else if p.remote then 5
  else 0

/-- The link state brought up to date: a change latches ETH_LINK, and a fall ends the frame in transmission and the
pause timer (R422, R433). -/
def refreshLink (n : Nat) (s : State) : State :=
  let r := downReason n s
  let was := isSet (F.ETH.STATUS_UP n) s
  let s := wr (F.ETH.STATUS_DOWN_REASON n) r s
  let s := wr (F.ETH.STATUS_SGMII_SPEED n) (if rd (F.ETH.MODE_SEL n) s = 4 then sgmiiSpeed n s else 0) s
  if was = (r == 0) then showPause n s
  else
    let s := latch (ethPage n) 0 (incSat (F.ETH.LINK_CHANGES n) (wrBool (F.ETH.STATUS_UP n) (r == 0) s))
    let s := pushNotice 8 (n + if r = 0 then 16 else 0) s
    if r = 0 then showPause n (modPort n (fun p => { p with upAt := s.now }) s)
    else showPause n (abortAir n .dropRingFull (modPort n (fun p => { p with pauseEnd := none, downAt := s.now }) s))

/-- The filtered ETHn_LOS takes a level: a change latches SFP_CHANGE (R438). -/
def setLos (n : Nat) (level : Bool) (s : State) : State :=
  let s := modPort n (fun p => { p with los := level }) s
  if isSet (F.ETH.SFP_STATUS_LOS n) s = level then s
  else latch (ethPage n) 3 (wrBool (F.ETH.SFP_STATUS_LOS n) level s)

/-- The conditions of a port's link change (R422). -/
def ethLinkChange (n : Nat) (los sync anDone fullDuplex remote partnerPause partnerAsm : Bool) (speed : Nat) (s : State) : State :=
  refreshLink n
    (modPort n (fun p => { p with sync, anDone, fullDuplex, remote, partnerPause, partnerAsm, speed }) (setLos n los s))

/-! ### Reception (R425 to R429) -/

/-- RMON of a reception (R444). -/
def rmonReceive (n size : Nat) (fcsOk code : Bool) (f : EthFrame) (s : State) : State :=
  let mx := rd (F.ETH.MAX_FRAME n) s
  let s := rmon n 3 (rmonAdd n 0 size s)
  let s := if code then rmon n 19 s else s
  if size < 64 then rmon n (if fcsOk then 14 else 15) s
  else if mx < size then rmon n (if fcsOk then 16 else 17) s
  else
    let s := rmon n (7 + sizeBin size) s
    if !fcsOk then rmon n 18 s
    else
      let s := rmon n (castCounter 4 (castOf f.dst)) (rmonAdd n 1 size s)
      if f.tci.isSome then rmon n 20 s else s

/-- A PAUSE frame loads the pause timer while reception is active (R433). -/
def loadPause (n q : Nat) (s : State) : State :=
  if !(pauseActive n s).1 then s
  else
    let s := modPort n (fun p => { p with pauseEnd := if q = 0 then none else some (s.now + q * quantumPs n s / 1000) }) s
    let s := showPause n s
    if q = 0 then s else latch (ethPage n) 1 s

/-- Whether a frame is a PAUSE frame to this port (R432). -/
def isPause (n : Nat) (f : EthFrame) (s : State) : Bool :=
  f.etherType == 0x8808 && f.opcode == 1 && (f.dst == 0x0180C2000001 || f.dst == macAddr n s)

/-- Whether a reception that began at `t` was accepted as it began (R441): the link was up, and the page was in RUN or
DRAINING. -/
def receptionOpen (n t : Nat) (s : State) : Bool :=
  let p := port n s
  let st := pageState (ethPage n) s
  decide (p.upAt ≤ t) && (isSet (F.ETH.STATUS_UP n) s || decide (t < p.downAt)) && decide (p.openAt ≤ t) &&
    (st == RUN || st == DRAINING || (st != OFF && decide (t < p.stopAt)))

/-- Whether a reception that began at `t` began while the page drained (R441). -/
def begunDraining (n t : Nat) (s : State) : Bool :=
  let p := port n s
  let st := pageState (ethPage n) s
  decide (p.drainAt ≤ t) && (st == DRAINING || (st == RUN && decide (t < p.resumedAt)))

/-- Whether a frame of `size` octets finds the staging of its port full (R426): 256 KiB, of which the frames staged hold their
octets. -/
def stagingFull (n size : Nat) (s : State) : Bool :=
  decide (262144 < ((port n s).staging.map (·.size)).foldl (· + ·) 0 + size)

/-- A reception ends (R422, R425, R426, R441): not accepted where it began with the link down or in OFF, STOPPED,
STARTING, TEST and FAULT; one that was in staging as the page stopped has ended there; else runt, giant, bad FCS, no
staging space, in that order, where a link lost on the way fails the FCS; else staged, or ended where it began while the
page drained. `since` is the time since the reception began in ns, `ago` that since the timestamp point in 2^-16 ns. -/
def ethFrameEnd (n size : Nat) (fcsOk code : Bool) (since ago : Nat) (f : EthFrame) (s : State) : State :=
  let st := pageState (ethPage n) s
  let begun := s.now - since
  let fcsOk := fcsOk && (isSet (F.ETH.STATUS_UP n) s || !receptionOpen n begun s)
  let s := if st = OFF then s else rmonReceive n size fcsOk code f s
  let s := if (st = STOPPED ∨ st = DRAINING) ∧ fcsOk ∧ 64 ≤ size ∧ isPause n f s ∧ isSet (F.ETH.STATUS_UP n) s then
    loadPause n f.pauseTime s else s
  if !receptionOpen n begun s then s
  else if st ≠ RUN ∧ st ≠ DRAINING then
    if begun * 1000 + quantumPs n s ≤ (port n s).stopAt * 1000 then
      let (id, s) := newFrame s
      close id .dropDisabled s
    else s
  else
    let (id, s) := newFrame s
    if size < 64 then close id .dropEthRunt (inc (F.ETH.RX_RUNT n) s)
    else if rd (F.ETH.MAX_FRAME n) s < size then close id .dropEthGiant (inc (F.ETH.RX_GIANT n) s)
    else if !fcsOk then close id .dropEthFcs (inc (F.ETH.RX_FCS n) s)
    else if stagingFull n size s then close id .dropRingFull (rmon n 23 (inc (F.ETH.RX_NO_BUFFER n) s))
    else
      let s := inc (F.ETH.RX_GOOD n) (modPort n (fun p => { p with rxOctets := (p.rxOctets + size) % 2 ^ 64 }) s)
      let s := showOctets n s
      if begunDraining n begun s then close id .dropDisabled s
      else
        let stamp := ((s.clock.device : Int) / 2 ^ 16 - ago + rdInt (F.PTP.RX_CORR_NS n) s * 2 ^ 16).toNat
        let s := if isPause n f s then loadPause n f.pauseTime s else s
        modPort n (fun p => { p with staging := p.staging ++ [{ frame := id, size, eth := f, stamp }] }) s

/-- A MAC control frame is consumed (R432). A PAUSE frame has loaded the timer at the end of its FCS (R433). -/
def macControl (n : Nat) (x : Staged) (s : State) : State :=
  if isPause n x.eth s then
    close x.frame .okDelivered (rmon n 21 (inc (F.ETH.RX_PAUSE n) s))
  else close x.frame .dropAddr (rmon n 22 (inc (F.ETH.RX_CTRL_OTHER n) s))

/-! ### PTP (R463 to R468) -/

/-- IPV6_ADDR[n], its words in network order. -/
def ptpV6 (n : Nat) (s : State) : Nat :=
  (List.range 4).foldl (fun v k => v * 2 ^ 32 + rd (F.PTP.IPV6_ADDR n k) s) 0

/-- Whether the time unit takes a frame (R463). -/
def ptpTaken (n : Nat) (f : EthFrame) (s : State) : Bool :=
  pageState 0x3D s == RUN && isSet (F.PTP.CFG_ENABLE n) s &&
    ((isSet (F.PTP.CFG_L2 n) s && f.etherType == 0x88F7 &&
        (f.dst == 0x011B19000000 || f.dst == 0x0180C200000E || f.dst == macAddr n s)) ||
      (isSet (F.PTP.CFG_UDP4 n) s && f.etherType == 0x0800 &&
        (match f.udp4 with
         | some (a, p) => (p == 319 || p == 320) && (a == 0xE0000181 || a == 0xE000006B || a == rd (F.PTP.IPV4_ADDR n) s)
         | none => false)) ||
      (isSet (F.PTP.CFG_UDP6 n) s && f.etherType == 0x86DD &&
        (match f.ip with
         | some i => (udpPort i == some 319 || udpPort i == some 320) &&
             ((i.dst / 2 ^ 116 == 0xFF0 && i.dst % 2 ^ 112 == 0x181) || i.dst == 0xFF02 * 2 ^ 112 + 0x6B ||
               i.dst == ptpV6 n s)
         | none => false)))

/-- The first check of R465 that a message fails; 0 when it passes them all. -/
def ptpInsane (n : Nat) (udp : Bool) (m : PtpMsg) (s : State) : Nat :=
  if m.version ≠ 2 then 1
  else if ¬ (m.mtype ≤ 3 ∨ (8 ≤ m.mtype ∧ m.mtype ≤ 0xD)) then 2
  else if m.length < 34 ∨ m.octets < m.length then 3
  else if udp && !m.udpOk then 4
  else if isSet (F.PTP.CFG_DOMAIN_CHECK n) s && m.domain != rd (F.PTP.CFG_DOMAIN n) s then 5
  else 0

/-- A packet or frame joins those delivered to a class (R301). -/
def deliverItem (x : Item) (s : State) : State := { s with delivered := s.delivered ++ [x] }

/-- An Ethernet frame as it is delivered whole (R428, R491); `stamp` in 2^-16 ns. -/
def ethItem (n : Nat) (x : Staged) : Item :=
  { frames := [x.frame], octets := x.size - 4, cls := 7, form := 2, origin := n + 4, device := x.stamp * 2 ^ 16
    tci := x.eth.tci.getD 0 }

/-- A PTP frame is checked and delivered with its timestamp (R465). -/
def ptpTake (n : Nat) (x : Staged) (s : State) : State :=
  let m := x.eth.ptp.getD { version := 0, mtype := 0, length := 0, octets := 0, udpOk := true, domain := 0 }
  let r := ptpInsane n (x.eth.etherType != 0x88F7) m s
  if r = 0 then
    deliverItem { ethItem n x with marks := 8 } (inc (F.PTP.RX_TAKEN n) s)
  else
    let s := wr F.PTP.INSANE_LAST_REASON r (wr F.PTP.INSANE_LAST_PORT n (inc (F.PTP.INSANE n) s))
    close x.frame .dropAddr (latch 0x3D 2 s)

/-- The queue's head in the TSQ registers (R468). -/
def showTsq (n : Nat) (s : State) : State :=
  let q := (port n s).tsq
  let s := wr (F.PTP.TSQ_COUNT n) q.length s
  let w : List Nat := match q.head? with
    | some e =>
      let ns := e.stamp / 2 ^ 16
      [e.tsId % 2 ^ 16 + e.mtype % 16 * 2 ^ 16 + 2 ^ 31, e.stamp % 2 ^ 16 + e.seq % 2 ^ 16 * 2 ^ 16,
        ns % 1000000000, ns / 1000000000 % 2 ^ 32, ns / 1000000000 / 2 ^ 32 % 2 ^ 16]
    | none => [0, 0, 0, 0, 0]
  (List.range 5).foldl (fun s k => wr (F.PTP.TSQ n k) (w.getD k 0) s) s

/-- A two-step frame pushes its timestamp; a full queue refuses it (R468). -/
def tsPush (n : Nat) (e : TsEntry) (s : State) : State :=
  if 16 ≤ (port n s).tsq.length then latch 0x3D n (inc (F.PTP.TSQ_LOST n) s)
  else
    let s := showTsq n (modPort n (fun p => { p with tsq := p.tsq ++ [e] }) s)
    let s := inc (F.PTP.TX_STAMPED n) s
    pushNotice 5 (n + (port n s).tsq.length * 16) s

/-- A read of TSQ[n][4] removes the head (R468). -/
def tsqPop (n : Nat) (s : State) : State :=
  let s := { s with readData := BitVec.ofNat 32 (rd (F.PTP.TSQ n 4) s) }
  showTsq n (modPort n (fun p => { p with tsq := p.tsq.tail }) s)

/-- A request that cannot be served (R467). -/
def ptpBad (n : Nat) (s : State) : State := latch 0x3D 2 (inc (F.PTP.TX_TS_BAD n) s)

/-- A frame's octets from `o` on replaced by `v`. -/
def putOctets (o : Nat) (v b : List Byte) : List Byte := b.take o ++ v ++ b.drop (o + v.length)

/-- The UDP checksum after a rewrite (R467): 0 over IPv4, computed again over IPv6, and none where the frame carries no
UDP right behind its IP header. -/
def udpRewritten (tagged : Bool) (b : List Byte) : List Byte :=
  let l := if tagged then 18 else 14
  let type := netNum b (l - 2) 2
  if type = 0x0800 ∧ netNum b (l + 9) 1 = 17 then putOctets (l + 4 * (netNum b l 1 % 16) + 6) (bytesBe 2 0) b
  else if type = 0x86DD ∧ netNum b (l + 6) 1 = 17 then
    let z := putOctets (l + 46) (bytesBe 2 0) b
    putOctets (l + 46)
      (bytesBe 2 (udpChecksum (netNum b (l + 8) 16) (netNum b (l + 24) 16) ((z.drop (l + 40)).take (netNum b (l + 44) 2)))) b
  else b

/-- The content of a frame after its one-step rewrite (R467): originTimestamp, correctionField and UDP checksum. -/
def rewritten (x : Egress) (r : OneStep) : List Byte :=
  let b := match r.origin with
    | some ns => putOctets (x.ptpAt + 34) (bytesBe 6 (ns / 1000000000) ++ bytesBe 4 (ns % 1000000000)) x.content
    | none => x.content
  let c := (((netNum b (x.ptpAt + 8) 8 : Nat) : Int) + r.added) % 2 ^ 64
  udpRewritten x.tagged (putOctets (x.ptpAt + 8) (bytesBe 8 c.toNat) b)

/-- The PTP request of a frame at its timestamp point (R467). -/
def oneStep (n : Nat) (x : Egress) (stamp : Nat) (s : State) : State :=
  if x.tsMode = 0 then s
  else if pageState 0x3D s ≠ RUN then inc (F.PTP.TX_TS_BAD n) s
  else if x.tsMode = 1 then (if x.ptpType.isNone then ptpBad n s else s)
  else if x.ptpType ≠ some (if x.tsMode = 2 then 0 else 3) then ptpBad n s
  else
    let r : OneStep := if x.tsMode = 2 then { origin := some (stamp / 2 ^ 16), added := ((stamp % 2 ^ 16 : Nat) : Int) }
      else { origin := none, added := (stamp : Int) - x.t2 }
    inc (F.PTP.TX_STAMPED n) (modPort n (fun p => { p with
      oneStep := some r, airFrame := some { x with content := rewritten x r } }) s)

/-! ### Transmission (R430, R431) -/

/-- Frames of the time unit go ahead of every frame not yet started. -/
def enqueueEgress (x : Egress) (q : List Egress) : List Egress :=
  if x.time then q.filter (·.time) ++ [x] ++ q.filter (fun y => !y.time) else q ++ [x]

/-- The oldest frame toward a port is offered to it (R431, R441). The first 1,024 frames of `queue` hold the places of the egress
queue, and those behind them wait for one under the same time-out (R430). -/
def egressOffer (n : Nat) (s : State) : State :=
  match (port n s).offers with
  | [] => s
  | x :: r =>
    let s := modPort n (fun p => { p with offers := r }) s
    if pageState (ethPage n) s ≠ RUN ∨ roleMuted s then endEgress x .dropDisabled s
    else modPort n (fun p => { p with queue := enqueueEgress { x with offered := s.now } p.queue }) s

/-- The next complete frame starts on an idle port (R430, R433): a waiting PAUSE frame first, which the peer's pause
does not hold. -/
def egressFrameStart (n : Nat) (s : State) : State :=
  let p := port n s
  let st := pageState (ethPage n) s
  if p.busy ∨ !isSet (F.ETH.STATUS_UP n) s then s
  else
    match p.pauseWait with
    | some q => modPort n (fun p => { p with pauseWait := none, busy := true, airPause := some q }) s
    | none =>
      if ¬ (st = RUN ∨ st = DRAINING) ∨ pausedByPeer n s ∨ roleMuted s then s
      else
        match p.queue with
        | [] => s
        | x :: r =>
          let stamp := ((s.clock.device : Int) / 2 ^ 16 + (8 * octetPs n s * 2 ^ 16 / 1000 : Nat) +
            rdInt (F.PTP.TX_CORR_NS n) s * 2 ^ 16).toNat
          let s := modPort n (fun p => { p with queue := r, busy := true, airFrame := some x, airStamp := stamp }) s
          oneStep n x stamp s

/-- Counters of a frame sent (R443, R444); the size counts padding and FCS. -/
def countSent (n size : Nat) (cast : Cast) (tagged : Bool) (s : State) : State :=
  let s := modPort n (fun p => { p with txOctets := (p.txOctets + size) % 2 ^ 64 }) s
  let s := rmon n 24 (rmonAdd n 2 size (showOctets n s))
  let s := rmon n (28 + sizeBin size) (rmon n (castCounter 25 cast) s)
  if tagged then rmon n 35 s else s

/-- A frame's last octet leaves (R430, R468, R496). -/
def egressFrameEnd (n : Nat) (s : State) : State :=
  let p := port n s
  match p.airPause, p.airFrame with
  | some _, _ =>
    let s := modPort n (fun p => { p with airPause := none, busy := false }) s
    countSent n 64 .multicast false (rmon n 36 (inc (F.ETH.TX_PAUSE n) s))
  | none, some x =>
    let s := modPort n (fun p => { p with airFrame := none, busy := false }) s
    let s := inc (F.ETH.TX_GOOD n) (countSent n (max 64 (x.octets + 4)) x.cast x.tagged s)
    let s := match x.tsMode, x.ptpType with
      | 1, some m =>
        if pageState 0x3D s = RUN then tsPush n { tsId := x.tsId, mtype := m, seq := x.ptpSeq, stamp := p.airStamp } s else s
      | _, _ => s
    endEgress x (if x.fromSlot.isSome then .okTransmitted else .okDelivered) s
  | none, none => s

/-- The egress hold time-out of the frame offered longest (R431). -/
def egressHoldTimeout (n : Nat) (s : State) : State :=
  let q := (port n s).queue
  match q with
  | [] => s
  | x :: r =>
    let old := r.foldl (fun m y => if y.offered < m.offered then y else m) x
    let s := modPort n (fun p => { p with queue := p.queue.erase old }) s
    endEgress old .dropRingFull (latch (ethPage n) 2 (rmon n 37 (inc (F.ETH.TX_TIMEOUT n) s)))

/-- The peer's pause timer expires (R433). -/
def pauseTimerExpiry (n : Nat) (s : State) : State := showPause n (modPort n (fun p => { p with pauseEnd := none }) s)

/-! ### Pause toward the peer (R434 to R436) -/

/-- A PAUSE frame is called for; one still waiting is replaced (R436). -/
def sendPause (n q : Nat) (s : State) : State :=
  if (pauseActive n s).2 then modPort n (fun p => { p with pauseWait := some q, pauseSent := q }) s else s

/-- Whether the page state lets the pause rules act (R441). -/
def pauseRules (n : Nat) (s : State) : Bool := pageState (ethPage n) s ∈ [RUN, DRAINING, STOPPED]

/-- The downlink buffer level reaches HIGH (R434, R435). -/
def bufferHigh (n : Nat) (s : State) : State :=
  if rd (F.ETH.BUFFER_LEVEL n) s < rd (F.ETH.BUFFER_HIGH n) s then s
  else
    let s := latch (ethPage n) 4 (wr (F.ETH.BUFFER_LATCH n) 1 s)
    if pauseRules n s && (pauseActive n s).2 && !isSet (F.ETH.STATUS_PAUSE_GAVE_UP n) s &&
        !isSet (F.ETH.STATUS_PAUSING_PEER n) s then
      sendPause n (rd (F.ETH.PAUSE_TIME n) s)
        (modPort n (fun p => { p with pauseFrom := s.now }) (wr (F.ETH.STATUS_PAUSING_PEER n) 1 s))
    else s

/-- Half the last pause time has elapsed while the level stays above LOW (R435). -/
def pauseRepeat (n : Nat) (s : State) : State :=
  if pauseRules n s && isSet (F.ETH.STATUS_PAUSING_PEER n) s &&
      decide (rd (F.ETH.BUFFER_LOW n) s < rd (F.ETH.BUFFER_LEVEL n) s) then
    sendPause n (rd (F.ETH.PAUSE_TIME n) s) s
  else s

/-- The level falls to LOW (R435). -/
def bufferLow (n : Nat) (s : State) : State :=
  if rd (F.ETH.BUFFER_LOW n) s < rd (F.ETH.BUFFER_LEVEL n) s then s
  else
    let was := isSet (F.ETH.STATUS_PAUSING_PEER n) s
    let s := wr (F.ETH.STATUS_PAUSING_PEER n) 0 (wr (F.ETH.STATUS_PAUSE_GAVE_UP n) 0 s)
    if was && pauseRules n s then sendPause n 0 s else s

/-- PAUSING_PEER has lasted MAX_HOLD (R435). -/
def pauseMaxHold (n : Nat) (s : State) : State :=
  if isSet (F.ETH.STATUS_PAUSING_PEER n) s && rd (F.ETH.PAUSE_MAX_HOLD n) s != 0 && pauseRules n s then
    let s := sendPause n 0 (wr (F.ETH.STATUS_PAUSING_PEER n) 0 s)
    inc (F.ETH.PAUSE_GIVEUP n) (wr (F.ETH.STATUS_PAUSE_GAVE_UP n) 1 s)
  else s

/-- The downlink buffer level in KiB, rounded up (R434). -/
def bufferLevel (s : State) : Nat :=
  (((s.frames.filter (fun x => match x.2.place with
    | .ended _ => false
    | _ => true)).map (fun x => x.2.mem)).foldl (· + ·) 0 + 1023) / 1024

/-- BUFFER.LEVEL and its peak on both pages. -/
def refreshBuffer (s : State) : State :=
  let v := bufferLevel s
  (List.range 2).foldl (fun s n => peak (F.ETH.BUFFER_PEAK n) v (wr (F.ETH.BUFFER_LEVEL n) v s)) s

/-! ### Modules (R437 to R440) -/

/-- The level on ETHn_TX_DIS (R440). -/
def txDisHigh (n : Nat) (s : State) : Bool :=
  !((pageState (ethPage n) s ∈ [STARTING, RUN, DRAINING, STOPPED]) && isSet (F.ETH.SFP_STATUS_PRESENT n) s &&
    !isSet (F.ETH.SFP_CFG_FORCE_TX_DIS n) s)

/-- A host access ends (R439). -/
def sfpResult (n r : Nat) (s : State) : State :=
  wr (F.ETH.SFP_STATUS_BUSY n) 0 (wr (F.ETH.SFP_STATUS_RESULT n) r (modPort n (fun p => { p with access := none, retries := 0 }) s))

/-- ETHn_MOD_ABS is stable at a new level (R438). -/
def sfpModAbs (n : Nat) (absent : Bool) (s : State) : State :=
  if !isSet (F.ETH.SFP_CFG_ENABLE n) s ∨ isSet (F.ETH.SFP_STATUS_PRESENT n) s = !absent then s
  else
    let s := latch (ethPage n) 3 (wrBool (F.ETH.SFP_STATUS_PRESENT n) (!absent) s)
    if !absent then s
    else
      let s := if isSet (F.ETH.SFP_STATUS_BUSY n) s then sfpResult n 4 s else s
      let s := wr (F.ETH.SFP_STATUS_ID_VALID n) 0 (wr (F.ETH.SFP_STATUS_CC_BAD n) 0 (wr (F.ETH.SFP_STATUS_DDM n) 0 s))
      let s := (List.range 24).foldl (fun s k => wr (F.ETH.SFP_ID n k) 0 s) s
      (List.range 3).foldl (fun s k => wr (F.ETH.SFP_DDM n k) 0 s) s

/-- Word `k` of octets, the first in bits [7:0]. -/
def wordOf (bs : List Byte) (k : Nat) : Nat := leBytes ((bs.drop (4 * k)).take 4)

/-- The low 8 bits of the sum of octets `a` to `b - 1`. -/
def octetSum (bs : List Byte) (a b : Nat) : Nat := (((bs.drop a).take (b - a)).map BitVec.toNat).foldl (· + ·) 0 % 256

/-- The identification octets have been read (R438). -/
def sfpIdRead (n : Nat) (bs : List Byte) (s : State) : State :=
  if !isSet (F.ETH.SFP_CFG_ENABLE n) s ∨ !isSet (F.ETH.SFP_STATUS_PRESENT n) s ∨ isSet (F.ETH.SFP_STATUS_BUSY n) s then s
  else
    let at' := fun i => (bs.getD i 0).toNat
    let ok := at' 63 == octetSum bs 0 63 && at' 95 == octetSum bs 64 95
    let s := (List.range 24).foldl (fun s k => wr (F.ETH.SFP_ID n k) (wordOf bs k) s) s
    let s := wrBool (F.ETH.SFP_STATUS_ID_VALID n) ok (wrBool (F.ETH.SFP_STATUS_CC_BAD n) (!ok) s)
    latch (ethPage n) 3 (wrBool (F.ETH.SFP_STATUS_DDM n) ((at' 92).testBit 6) s)

/-- The diagnostic octets have been read (R438). -/
def sfpDdmPoll (n : Nat) (bs : List Byte) (s : State) : State :=
  if isSet (F.ETH.SFP_CFG_ENABLE n) s && isSet (F.ETH.SFP_STATUS_DDM n) s && !isSet (F.ETH.SFP_STATUS_BUSY n) s then
    (List.range 3).foldl (fun s k => wr (F.ETH.SFP_DDM n k) (wordOf (bs.take 10) k) s) s
  else s

/-- The filtered ETHn_LOS changes (R438, R422). -/
def sfpLos (n : Nat) (level : Bool) (s : State) : State :=
  if isSet (F.ETH.SFP_STATUS_LOS n) s = level then s else refreshLink n (setLos n level s)

/-- A write to SFP.ACCESS (R439). -/
def sfpAccess (n : Nat) (data : Word) (s : State) : State :=
  if isSet (F.ETH.SFP_STATUS_BUSY n) s then reject (ethPage n) 0x0CC .bar0 .action data s
  else if !isSet (F.ETH.SFP_STATUS_PRESENT n) s ∨ !isSet (F.ETH.SFP_CFG_ENABLE n) s then sfpResult n 4 s
  else wr (F.ETH.SFP_STATUS_BUSY n) 1 (modPort n (fun p => { p with access := some data, retries := 0 }) s)

/-- A host access ends: done, NACK after its retries, or held beyond 25 ms (R437, R439). -/
def sfpAccessDone (n : Nat) (nack timeout : Bool) (octet : Byte) (s : State) : State :=
  match (port n s).access with
  | none => s
  | some w =>
    if timeout then sfpResult n 3 s
    else if nack then sfpResult n 2 s
    else
      let s := if w.getLsbD 9 then s else wr (F.ETH.SFP_READ_DATA n) octet.toNat s
      sfpResult n 1 s

/-- A NACKed transaction is tried again, up to 3 times (R437). -/
def sfpNackRetry (n : Nat) (s : State) : State :=
  if (port n s).access.isNone then s
  else if 3 ≤ (port n s).retries then sfpResult n 2 s
  else modPort n (fun p => { p with retries := p.retries + 1 }) s

/-- FORCE_STOP of a port (R441). -/
def ethForceStop (n : Nat) (s : State) : State :=
  let p := port n s
  let s := modPort n (fun p => { p with staging := [], queue := [], stopAt := s.now }) s
  let s := p.staging.foldl (fun s x => close x.frame .dropDisabled s) s
  let s := p.queue.foldl (fun s x => endEgress x .dropDisabled s) s
  if p.airFrame.isSome then abortAir n .dropDisabled s else s

/-- Whether a port has drained (R441). -/
def ethDrained (n : Nat) (s : State) : Bool :=
  (port n s).staging.isEmpty && (port n s).queue.isEmpty && !(port n s).busy

end Sys2Proof.Machine
end

