-- ==== Sys2Proof/Machine/Sched.lean ====
section
/-! DEFINITION. The airtime schedulers (R322 to R345): queue entry, eligibility, selection, charges and refunds,
shapers, horizons, retries. -/

namespace Sys2Proof.Machine

/-- The HOLD codes of R350. -/
inductive Hold where
  | none | empty | timed | shaper | duty | dwell | lbt | blind | guard | window | ackWait | frontEnd | drr
deriving DecidableEq, Repr

/-- R350. -/
def Hold.code : Hold → Nat
  | .none => 0
  | .empty => 1
  | .timed => 2
  | .shaper => 3
  | .duty => 4
  | .dwell => 5
  | .lbt => 6
  | .blind => 7
  | .guard => 8
  | .window => 9
  | .ackWait => 10
  | .frontEnd => 11
  | .drr => 12

/-- LEAD of the physical front end serving `n`, in nanoseconds: while coexistence is on for it (R325). -/
def leadNs (n : Nat) (s : State) : Nat :=
  match txServer n s with
  | some p => if coexOn p s then rd (F.COEX.CFG_LEAD p) s * 1000 else 0
  | none => 0

/-- Nanoseconds from now until mesh time `t` (in 2^-16 ticks). -/
def untilMesh (t : Nat) (s : State) : Int := ((t : Int) - meshFine s) * 1000000000 / 2 ^ 31

/-- REG_CEILING with its count (R126, R138, R330). -/
def regCeiling (s : State) : State := latch 0x0C 0 (inc F.REGLOCK.CEILING_HITS s)

/-- Whether a frame fails R330: no permitting entry, span, mode, DWELL or duty allowance. The entry, if it passes. -/
def regEntry (f : Frame) (s : State) : Option Nat :=
  let b := bandOf f.fe s
  let hz := f.hzNow s
  let t := f.airNs s
  match permittingEntry hz b s with
  | none => none
  | some e =>
    let span := match txServer f.fe s with
      | some p => inSpan (fe p s) hz (entryField e 12 2 s * 1000)
      | none => true
    if !span || !modeInBand (f.modeNow s) b || (entryDwellNs e s ≠ 0 && entryDwellNs e s < t) then none
    else
      match dutyAllow e s with
      | some a => if a < t then none else some e
      | none => some e

/-- A frame enters its queue at the tail (R323): refused while the page is not in RUN (R351), judged by R330. -/
def enqueue (id : Nat) (s : State) : State :=
  match frame? id s with
  | none => s
  | some f =>
    if pageState (schedPage f.fe) s ≠ RUN ∨ roleMuted s then endFrame id .dropDisabled s
    else
      let s := setFrame id { f with place := .queued, order := tailOrder s, entered := s.now, airFe := f.fe } s
      match regEntry f s with
      | none => endFrame id .txAbandonReg (regCeiling s)
      | some _ => recount f.fe s

/-- A frame returns to the head of its queue (R333, R337, R340). -/
def requeueHead (id : Nat) (s : State) : State :=
  let s := modFrame id (fun f => { f with place := .queued, order := headOrder s }) s
  match frame? id s with
  | some f => recount f.fe s
  | none => s

/-! ### Shapers (R328) -/

/-- The shaper of a queue in force: its registers as they stood at the last 1 ms boundary. -/
def shaper (n q : Nat) (s : State) : Shaper := look (sched n s).shapers q {}

/-- The registers of a queue's shaper come into force. -/
def takeShaper (n q : Nat) (s : State) : State :=
  let x : Shaper := { cir := rd (F.SCHED.Q_CIR n q) s, cbs := rd (F.SCHED.Q_CBS n q) s, pir := rd (F.SCHED.Q_PIR n q) s,
                      pbs := rd (F.SCHED.Q_PBS n q) s }
  modSched n (fun k => { k with shapers := insert k.shapers q x }) s

/-- Whether the committed bucket counts as at or above 0. -/
def committedOk (n q : Nat) (s : State) : Bool :=
  (shaper n q s).cir == 1000000 || 0 ≤ rdInt (F.SCHED.Q_LEVEL_C n q) s

/-- Whether the peak bucket counts as at or above 0. -/
def peakOk (n q : Nat) (s : State) : Bool :=
  (shaper n q s).pir == 1000000 || 0 ≤ rdInt (F.SCHED.Q_LEVEL_P n q) s

/-- One bucket's refill at a 1 ms boundary: its rate in units, capped at its burst; an unshaped bucket reads its
burst. Units are 0.001 µs. -/
def refillLevel (rate burst : Nat) (level : Int) : Int :=
  if rate = 1000000 then burst * 1000 else min (burst * 1000) (level + rate)

/-- The refill of every bucket of scheduler `n` (R328). -/
def refill (n : Nat) (s : State) : State :=
  (List.range 16).foldl (fun s q =>
    let s := takeShaper n q s
    let x := shaper n q s
    let s := wrInt (F.SCHED.Q_LEVEL_C n q) (refillLevel x.cir x.cbs (rdInt (F.SCHED.Q_LEVEL_C n q) s)) s
    wrInt (F.SCHED.Q_LEVEL_P n q) (refillLevel x.pir x.pbs (rdInt (F.SCHED.Q_LEVEL_P n q) s)) s) s

/-- Buckets are full when the page enters RUN (R328). -/
def fillBuckets (n : Nat) (s : State) : State :=
  (List.range 16).foldl (fun s q =>
    let s := takeShaper n q s
    let x := shaper n q s
    wr (F.SCHED.Q_LEVEL_C n q) (x.cbs * 1000) (wr (F.SCHED.Q_LEVEL_P n q) (x.pbs * 1000) s)) s

/-- Subtracts a cost from both buckets; an unshaped one is not charged. -/
def chargeBuckets (n q cost : Nat) (s : State) : State :=
  let x := shaper n q s
  let s := if x.cir = 1000000 then s else wrInt (F.SCHED.Q_LEVEL_C n q) (rdInt (F.SCHED.Q_LEVEL_C n q) s - cost) s
  if x.pir = 1000000 then s
  else wrInt (F.SCHED.Q_LEVEL_P n q) (rdInt (F.SCHED.Q_LEVEL_P n q) s - cost) s

/-- Gives a cost back to both buckets, capped at their bursts (R329). -/
def refundBuckets (n q cost : Nat) (s : State) : State :=
  let x := shaper n q s
  let s := if x.cir = 1000000 then s
    else wrInt (F.SCHED.Q_LEVEL_C n q) (min (x.cbs * 1000) (rdInt (F.SCHED.Q_LEVEL_C n q) s + cost)) s
  if x.pir = 1000000 then s
  else wrInt (F.SCHED.Q_LEVEL_P n q) (min (x.pbs * 1000) (rdInt (F.SCHED.Q_LEVEL_P n q) s + cost)) s

/-! ### Selection (R325 to R327) -/

/-- Whether an acknowledgement is awaited on logical front end `n` (R244). -/
def ackAwaited (n : Nat) (s : State) : Bool := s.frames.any (fun x => x.2.place == .ackWait && x.2.airFe == n)

/-- Whether front end `p` runs a calibration outside any relief (R115, R116): a lock after a lock loss is none (R337). -/
def unrelievedNow (p : Nat) (s : State) : Bool :=
  (rf p s ∈ [RF_SYNTH_CAL, RF_SETTLE, RF_CAL]) && (fe p s).why ∈ [.temperature, .iqAge, .retry, .request, .selfTest] &&
    match s.relief with
    | some r => r.k != p
    | none => true

/-- A selection moment of scheduler `n`, apart from the acknowledgement wait (R325). -/
def selectionMoment (n : Nat) (s : State) : Bool :=
  (pageState (schedPage n) s ∈ [RUN, DRAINING]) && (committedFrame n s).isNone && mayTransmit s && !refclkFault s && !tempTrip s &&
    pageState 0x18 s == RUN &&
    match txServer n s with
    | none => false
    | some p =>
      pageState (fePage p) s == RUN && !(rf p s ∈ [RF_RX_TX, RF_TX, RF_TX_RX]) &&
        !isSet (F.FE.RF_STATE_RETUNE_PENDING p) s && (fe p s).waiting.isEmpty && rf p s ≠ RF_CAL && !unrelievedNow p s

/-- The planned entry to RX_TX of a frame committed now: LEAD from now, or START - 96 µs (R336). -/
def plannedEntry (f : Frame) (s : State) : Nat :=
  if f.timed then ((s.now : Int) + untilMesh f.start s - 96000).toNat else s.now + leadNs f.fe s

/-- The first check of R325 that the head of queue `q` fails; none when it passes them all. A head that R330 refuses has no entry to
be held by; it ends at its commitment. -/
def headHold (n q : Nat) (f : Frame) (s : State) : Hold :=
  let lead := leadNs n s
  let heads := (List.range 16).filterMap (fun q => (queueFrames n q s).head?)
  let guarded := heads.all (fun x =>
    !x.2.timed || (s.now + lead + f.costNs s : Nat) ≤ (s.now : Int) + untilMesh x.2.start s - 96000)
  if f.timed && (lead : Int) + 96000 < untilMesh f.start s then .timed
  else if !f.timed && !guarded then .guard
  else if !(if q < 4 then committedOk n q s && peakOk n q s else committedOk n q s || peakOk n q s) then .shaper
  else
    let e := regEntry f s
    if e.any (fun e => !dutyPasses e (f.airNs s) s) then .duty
    else if e.any (fun e => !dwellPasses n e (f.hzNow s) (f.airNs s) s) then .dwell
    else if s.now < look (sched n s).backoff q 0 then .lbt
    else if 4 ≤ q && rd (F.SCHED.BLIND_CEIL_PERMILLE n) s < 1000 &&
        rd (F.SCHED.BLIND_CEIL_PERMILLE n) s * 1000 < blindSum n s + blindCharge n (f.hzNow s) (f.costNs s) s then .blind
    else if q == rd (F.SCHED.WINDOW_QUEUE n) s + 4 && !isSet (F.SCHED.WINDOW_OPEN n) s then .window
    else if !f.timed && ackAwaited n s then .ackWait
    else .none

/-- What HOLD reads for queue `q` (R325). -/
def holdOf (n q : Nat) (s : State) : Hold :=
  match (queueFrames n q s).head? with
  | none => .empty
  | some x => if selectionMoment n s then headHold n q x.2 s else .frontEnd

/-- HOLD as it reads between selections: what holds the head now, and DRR while an eligible head was passed over at the last one. -/
def holdView (n q : Nat) (s : State) : Nat :=
  let h := holdOf n q s
  if h = .none ∧ rd (F.SCHED.Q_HOLD n q) s = Hold.drr.code then Hold.drr.code else h.code

/-- HOLD of every queue; an eligible head that was not chosen reads DRR when `chosen` says a frame was. -/
def showHold (n : Nat) (chosen : Bool) (before : List Hold) (s : State) : State :=
  (List.range 16).foldl (fun s q =>
    let h := holdOf n q s
    let h := if chosen && before.getD q .empty == .none && h != .empty then .drr else h
    wr (F.SCHED.Q_HOLD n q) h.code s) s

/-- What frame `f` is charged when it is committed with regulatory entry `e` (R326, R336): C to the buckets and, in a weighted
queue, to the deficit, T in the duty account and the dwell run, and the blinding. -/
def commitCharges (id : Nat) (f : Frame) (e : Nat) (s : State) : State :=
  let n := f.fe
  let c := f.costNs s
  let q := chargeBuckets n f.queue c s
  let q := if 4 ≤ f.queue then wr (F.SCHED.DEFICIT n f.queue) (rd (F.SCHED.DEFICIT n f.queue) q - usUp c) q else q
  blindAdd n (blindCharge n (f.hzNow s) c s) (dwellAdd n e (f.hzNow q) (id + 1) (f.airNs s) (dutyReserve e id (f.airNs s) q))

/-- Frame `f` as it stands committed in state `s`: its planned entry and its charge are fixed (R326, R336), and the deficit of its
queue is kept for a refund (R329). -/
def committedAs (f : Frame) (s : State) : Frame :=
  { f with
    place := .committed (plannedEntry f s) .none, cost := f.costNs s, deficit := rd (F.SCHED.DEFICIT f.fe f.queue) s, blind := blindCharge f.fe (f.hzNow s) (f.costNs s) s,
    slipDone := false, answered := false }

/-- The coexistence request of a frame committed from queue `q` for front end `n` rises LEAD before it (R132). -/
def commitReq (n q : Nat) (s : State) : State :=
  match txServer n s with
  | some p => raiseReq p ((rd (F.COEX.PRI_MASK p) s).testBit (if q < 4 then q + 1 else 5)) s
  | none => s

/-- A node's appointment is skipped (R246): state SKIPPED, latched and counted. -/
def markSkipped (i : Nat) (s : State) : State :=
  latch 0x19 4 (inc F.MAC.APPT_SKIPS (modNode i (fun n => n.wcore 30 1 3) s))

/-- An appointment is skipped (R246), and the frame stays in, or returns to, the pending store. -/
def skipAppointment (i : Nat) (id : Nat) (s : State) : State :=
  let s := markSkipped i s
  match frame? id s with
  | none => s
  | some f =>
    let s := leaveCommitted id f (dutyRelease id s)
    let s := setFrame id { f with
      place := .pending, inFlight := false, appt := false, timed := false, extra := 0, skipped := true } s
    countPending (syncPending i (recount f.fe s))

/-- Commits a queued frame (R326, R336): it is charged, its planned entry is fixed, and its request is raised. A
frame that R330 refuses now ends; that of an appointment cannot start, and the appointment is skipped (R246). -/
def commitFrame (id : Nat) (s : State) : State :=
  match frame? id s with
  | none => s
  | some f =>
    match regEntry f s with
    | none =>
      match f.appt, f.node with
      | true, some i => skipAppointment i id (regCeiling s)
      | _, _ => endFrame id .txAbandonReg (regCeiling s)
    | some e => commitReq f.fe f.queue (recount f.fe (setFrame id (committedAs f s) (commitCharges id f e s)))

/-- A charge is refunded in full and the frame returns to the head of its queue (R329). -/
def withdraw (id : Nat) (s : State) : State :=
  match frame? id s with
  | none => s
  | some f =>
    let n := f.fe
    let s := refundBuckets n f.queue f.cost s
    let s := if 4 ≤ f.queue then wr (F.SCHED.DEFICIT n f.queue) f.deficit s else s
    requeueHead id (leaveCommitted id f (blindRefund n f.blind (dutyRelease id s)))

/-- The next queue of `a` after the pointer's, in ascending order, wrapping (R327). -/
def nextWeighted (n : Nat) (a : List Nat) (s : State) : Option Nat :=
  let p := (sched n s).pointer
  ((List.range 12).map (fun i => (p + 1 + i) % 12 + 4)).find? (fun q => q ∈ a)

/-- Whether the pointer's queue is in `a` and its deficit covers its head's cost (R327). -/
def pointerServes (n : Nat) (a : List Nat) (s : State) : Option (Nat × Frame) :=
  let p := (sched n s).pointer + 4
  match (queueFrames n p s).head? with
  | some x => if p ∈ a ∧ usUp (x.2.costNs s) ≤ rd (F.SCHED.DEFICIT n p) s then some x else none
  | none => none

/-- The deficit round-robin of R327 over the weighted queues in `a`: each turn of the pointer adds a quantum, and a
deficit covers its head within as many turns as `fuel`. -/
def drr (n : Nat) (a : List Nat) : Nat → State → State
  | 0, s => s
  | fuel + 1, s =>
    match pointerServes n a s with
    | some x =>
      commitFrame x.1 s
    | none =>
      match nextWeighted n a s with
      | none => s
      | some q =>
        let s := modSched n (fun k => { k with pointer := q - 4 }) s
        drr n a fuel (wr (F.SCHED.DEFICIT n q) (rd (F.SCHED.DEFICIT n q) s + rd (F.SCHED.Q_QUANTUM n q) s) s)

/-- Ends every uncommitted untimed frame whose horizon has passed (R339): TX_ABANDON_REG when its queue's head then
reads HOLD DUTY, DWELL or LBT. -/
def endHorizons (n : Nat) (s : State) : State :=
  (s.frames.filter (fun x => x.2.place == .queued && x.2.fe == n && !x.2.timed &&
      x.2.entered + rd (F.SCHED.Q_HORIZON n x.2.queue) s * 1000000 < s.now)).foldl (fun s x =>
    let h := holdOf n x.2.queue s
    endFrame x.1 (if h = .duty ∨ h = .dwell ∨ h = .lbt then .txAbandonReg else .txAbandonSlip) s) s

/-- One selection of scheduler `n` (R326). -/
def select (n : Nat) (s : State) : State :=
  if !selectionMoment n s then showHold n false [] s
  else
    let s := endHorizons n s
    let before := (List.range 16).map (fun q => holdOf n q s)
    let ok := fun (q : Nat) => before.getD q .empty == .none
    let s' :=
      match (List.range 4).find? (fun q => ok q) with
      | some q =>
        match (queueFrames n q s).head? with
        | some x => commitFrame x.1 s
        | none => s
      | none =>
        let w := (List.range 12).map (· + 4)
        let a := w.filter (fun q => ok q && committedOk n q s)
        let a := if a.isEmpty then w.filter (fun q => ok q && peakOk n q s) else a
        drr n a 20000000 s
    showHold n (committedFrame n s').isSome before s'

/-! ### Retries, acknowledgement waits and abandonment -/

/-- A frame that was in flight goes back to its node's pending list (R311, R242): it ends instead if its time-out has
passed meanwhile, or if its node has been removed (R289). -/
def backToPending (id : Nat) (s : State) : State :=
  match frame? id s with
  | none => s
  | some f =>
    match f.node with
    | none => endFrame id .txAbandonPendingTimeout s
    | some i =>
      if !(node i s).valid then endFrame id .dropNoPath s
      else if f.expired then
        endFrame id (if f.skipped then .rendezvousSkipped else .txAbandonPendingTimeout)
          (latch 0x21 2 (inc F.FWD.PEND_TIMEOUTS s))
      else
        countPending (syncPending i (recount f.fe (setFrame id { f with
          place := .pending, inFlight := false, polled := false, appt := false, timed := false, extra := 0 } s)))

/-- A frame whose acknowledgement wait ends unmatched (R244, R31): a poll answer or an appointment frame stays
pending, a scheduled frame is queued again or, after its last attempt, is marked pending or ends. R31 goes by the node's hop count:
a host frame whose descriptor names no node (NODE_VALID 0) has none and no pending list, and ends as TX_ABANDON_SLIP (DESIGN
CHOICE, log entry 29). -/
def unmatched (id : Nat) (s : State) : State :=
  match frame? id s with
  | none => s
  | some f =>
    if f.place ≠ .ackWait then s
    else if f.polled || f.appt then backToPending id s
    else if f.attempts < rd F.MAC.RETRY_MAX_ATTEMPTS s then requeueHead id (inc F.MAC.RETRIES s)
    else if f.hops = 1 ∧ f.node.isSome then storePending id s
    else endFrame id .txAbandonSlip s

/-- The slip tolerance of a committed frame passes (R338): a grant that did not come in time is counted (R132), and an appointment
frame is not ended. -/
def slipExpiry (id : Nat) (s : State) : State :=
  match frame? id s with
  | none => s
  | some f =>
    match f.place with
    | .committed _ held =>
      let s := match held, txServer f.fe s with
        | .coex, some p => latch 0x0D 0 (inc (F.COEX.TIMEOUTS p) s)
        | _, _ => s
      if f.appt then
        match f.node with
        | some i => skipAppointment i id s
        | none => endFrame id .txAbandonSlip s
      else
        match held with
        | .coex => endFrame id .txAbandonCoex s
        | .lbt => endFrame id .txAbandonReg s
        | _ =>
          let s := match f.kind with
            | .beacon _ => latch 0x1A 3 (inc F.BEACON.LATE s)
            | _ => s
          endFrame id .txAbandonSlip s
    | _ => s

/-- Whether a queued timed frame's START has passed by more than its slip tolerance (R338, R339). -/
def Frame.tooLate (f : Frame) (s : State) : Bool :=
  f.place == .queued && f.timed && decide (untilMesh f.start s + f.slipTol * 1000 < 0)

/-- A timed frame that has not been committed in time ends as an abandonment; that of an appointment stays pending, and the
appointment is skipped (R246, R339). -/
def lateFrame (id : Nat) (s : State) : State :=
  match frame? id s with
  | none => s
  | some f =>
    match f.appt, f.node with
    | true, some i => skipAppointment i id s
    | _, _ =>
      match f.kind with
      | .beacon _ => endFrame id .txAbandonSlip (latch 0x1A 3 (inc F.BEACON.LATE s))
      | _ => endFrame id .txAbandonSlip s

/-- The slip tolerance of the committed frame of scheduler `n` is spent (R338), or that of timed frames that still wait in its
queues. -/
def slipNow (n : Nat) (s : State) : State :=
  let s := match committedFrame n s with
    | some x => slipExpiry x.1 s
    | none => s
  (s.frames.filter (fun x => x.2.fe == n && x.2.tooLate s)).foldl (fun s x => lateFrame x.1 s) s

/-- The back-off of queue `q` ends, and the queue is eligible again (R333). -/
def backoffExpiry (n q : Nat) (s : State) : State :=
  showHold n false [] (modSched n (fun k => { k with backoff := erase k.backoff q }) s)

/-- The dwell run of a channel closes (R332). -/
def dwellClose (n hz : Nat) (s : State) : State :=
  showHold n false [] (modSched n (fun k => { k with runs := k.runs.filter (fun r => r.hz ≠ hz) }) s)

/-- A committed frame meets a retune, an unrelieved calibration, a page leaving RUN, REFCLK_FAULT or TEMP_TRIP
(R337): untimed, it is withdrawn; timed, it stays. -/
def holdCommitted (n : Nat) (s : State) : State :=
  match committedFrame n s with
  | some (id, f) => if f.timed then s else withdraw id s
  | none => s

/-- Records what held a committed frame (R338). -/
def heldBy (id : Nat) (h : Held) (s : State) : State :=
  modFrame id (fun f => match f.place with
    | .committed p _ => { f with place := .committed p h }
    | _ => f) s

/-- FORCE_STOP of SCHEDn (R351) on what is queued or committed. -/
def schedForceStop (n : Nat) (s : State) : State :=
  let s := endFrames (fun f => f.fe == n && match f.place with
    | .queued | .committed _ _ => true
    | _ => false) .dropDisabled s
  endFrames (fun f => f.airFe == n && f.place == .ackWait && !f.polled) .dropDisabled s

/-- Whether scheduler `n` has drained (R351). -/
def schedDrained (n : Nat) (s : State) : Bool :=
  !s.frames.any (fun x => match x.2.place with
    | .queued | .committed _ _ => x.2.fe == n
    | .air | .ackWait => x.2.airFe == n && !x.2.polled
    | _ => false)

end Sys2Proof.Machine
end

