-- ==== Sys2Proof/Machine/FrontEnd.lean ====
section
/-! DEFINITION. The radio front ends (R105 to R145): operating states, tuning, calibration, FE3's roles and relief,
listen-through, the transmit path with its power ceiling and coexistence, and the control lines. -/

namespace Sys2Proof.Machine

/-! ### Control lines (R128 to R131) -/

/-- Packs PA_EN, LNA_EN, TRSW, BYP and ANT_SEL into LINES_NOW's bits. -/
def packLines (pa lna trsw byp : Bool) (ant : Nat) : Nat :=
  pa.toNat + 2 * lna.toNat + 4 * trsw.toNat + 8 * byp.toNat + 16 * (ant % 4)

/-- The FEk whose RELIEF_SEL[k] FE3 drives: from the first step of a relief to its end, and while it substitutes (R117,
R119). -/
def antennaFor (p : Nat) (s : State) : Option Nat :=
  if p ≠ 3 then none
  else
    match s.relief with
    | some r => some r.k
    | none => if role s = 2 then some (roleFor s) else none

/-- Whether a front end holds the OFF levels for bivouac or deep hold (R131, R613): its page stands in STOPPED for it. -/
def heldOff (p : Nat) (s : State) : Bool :=
  pageState (fePage p) s == STOPPED && rd F.CANARY.BIVOUAC_STATE s != 0 && (p != 0 || rd F.CANARY.BIVOUAC_STATE s == 3)

/-- The logical levels of a front end's six lines, by state and by time in the turnarounds (R129, R130, R131). TX_RX starts from
the levels that it began with, so a transmission cut before PA_EN rose raises nothing; PA_EN cut by R134 stays 0. -/
def lineLevels (p : Nat) (s : State) : Nat :=
  let f := fe p s
  let lt : Bool := listensThrough p s && !roleMuted s
  let us := (s.now - f.since) / 1000
  let gain : Bool := rd (F.CHAN.GAIN_CFG_BYP_FROM p) s ≤ rd (F.CHAN.GAIN_NOW_INDEX p) s
  let rx := match antennaFor p s with
    | some k => rd (F.FE.ANT_RELIEF_SEL 3 k) s
    | none => rd (F.FE.ANT_RX_SEL p) s
  let tx := match antennaFor p s with
    | some k => rd (F.FE.ANT_RELIEF_SEL 3 k) s
    | none => rd (F.FE.ANT_TX_SEL p) s
  let pl := rd (F.FE.LINES_PA_LEAD p) s
  let a := rd (F.FE.LINES_RAMP p) s
  let e := f.entryLines
  let st := rf p s
  let substituted : Bool := role s == 2 && roleFor s == p && p != 3
  if st = RF_OFF ∨ st = RF_RETIRED ∨ pageState (fePage p) s = FAULT ∨ substituted ∨ heldOff p s then 0
  else if st = RF_STANDBY then (if lt then packLines false false true true tx else packLines false false false false rx)
  else if st = RF_SYNTH_CAL ∨ st = RF_CAL then packLines false false false false rx
  else if st = RF_SETTLE ∨ st = RF_RX ∨ st = RF_RELIEVED then packLines false true false gain rx
  else if roleMuted s then packLines false true false gain rx
  else if st = RF_RX_TX then
    if lt then packLines (96 ≤ us + pl) false true true tx
    else packLines (96 ≤ us + pl) (us < 2) (4 ≤ us) (if us < 2 then gain else true) (if us < 4 then rx else tx)
  else if st = RF_TX then packLines true false true true tx
  else
    let pa : Bool := decide (us < a + 1) && e.testBit 0 && !f.cut
    if lt then packLines pa false true true tx
    else packLines pa (decide (a + 5 ≤ us) || e.testBit 1) (decide (us < a + 3) && e.testBit 2)
      (if us < a + 5 then e.testBit 3 else gain) (if us < a + 3 then e / 16 else rx)

/-- The physical levels, LINES_NOW: low in a reset, the configured polarity from STANDBY onward (R128), and in a switch-over gap
the last values (R590). R128 and R131 do not say whether the polarity applies to OFF levels that follow a STANDBY: it does to those
that a front end holds in STANDBY (bivouac, deep hold, FAULT, substituted), and not in RF_STATE OFF or RETIRED, where all six lines
are low (DESIGN CHOICE, log entry 22). -/
def linesNow (p : Nat) (s : State) : Nat :=
  if s.boot.held then 0
  else if linesHeld s then rd (F.FE.LINES_NOW p) s
  else if rf p s = RF_OFF ∨ rf p s = RF_RETIRED then 0
  else lineLevels p s ^^^ rd (F.FE.LINES_POLARITY p) s

/-- LINES_NOW is stored: what a switch-over gap holds (R590). -/
def showLines (p : Nat) (s : State) : State := wr (F.FE.LINES_NOW p) (linesNow p s) s

/-- The gain index at which listen-through holds FE3: GAIN_DB in steps of 6 dB, rounded up (R124, R172). -/
def heldIndex (s : State) : Nat := min 7 ((rd (F.FE.LT_GAIN_DB 3) s + 5) / 6)

/-- FE3's gain is held while FEk is in RX_TX, TX or TX_RX under listen-through, and then takes the index it had (R124). -/
def holdGain (s : State) : State :=
  let k := roleFor s
  let held : Bool := listensThrough k s && (rf k s ∈ [RF_RX_TX, RF_TX, RF_TX_RX])
  match (fe 3 s).gainWas, held with
  | none, true =>
    let i := rd (F.CHAN.GAIN_NOW_INDEX 3) s
    setGain 3 (heldIndex s) (modFe 3 (fun f => { f with gainWas := some i }) s)
  | some i, false => setGain 3 i (modFe 3 (fun f => { f with gainWas := none }) s)
  | _, _ => s

/-- Listen-through resumes when FEk reaches STANDBY or RX, which is then STANDBY (R125). -/
def ltReturns (p v : Nat) (s : State) : Bool :=
  (fe 3 s).resuming && role s == 3 && roleFor s == p && p != 3 && (v == RF_STANDBY || v == RF_RX)

/-- A front end enters an operating state: samples leave with RX, energy values become absent outside RX and
RELIEVED (R154, R163), and the lines follow. -/
def enterRf (p v : Nat) (s : State) : State :=
  let e := lineLevels p s
  let s := if v = RF_RX ∨ v = RF_RELIEVED then s else dropEnergy p s
  let on : Bool := v == RF_RX || v == RF_RELIEVED
  let same : Bool := (rf p s == RF_RX || rf p s == RF_RELIEVED) && on
  let s := modFe p (fun f => if same then f else { f with
    since := s.now, energy := if v = RF_RX then f.energy else { time := s.now, bins := [] } :: f.energy
    entryLines := if v = RF_TX_RX then e else f.entryLines, cut := f.cut && v == RF_TX_RX
    muted := f.muted && v == RF_TX_RX }) s
  holdGain (showLines p (wr (F.FE.RF_STATE_STATE p) v s))

/-- A front end enters an operating state, or STANDBY in its place where listen-through resumes. -/
def setRf (p v : Nat) (s : State) : State :=
  if ltReturns p v s then refreshListen (enterRf p RF_STANDBY (modFe 3 (fun f => { f with resuming := false }) s))
  else enterRf p v s

/-- FE3 free for relief: page RUN, role IDLE, in STANDBY and not calibrating (R115). -/
def fe3Free (s : State) : Bool :=
  pageState 0x0B s == RUN && role s == 0 && s.relief.isNone && rf 3 s == RF_STANDBY && (fe 3 s).todo.isEmpty

/-! ### Tuning and calibration -/

/-- The centre, width and band that a front end takes when it starts, retunes or takes up a role: its own pending values, of
a substitute those of FEk, under listen-through those in effect on FEk (R106, R117, R123). -/
def tuningOf (p : Nat) (s : State) : Nat × Nat × Nat :=
  let own := fun (k : Nat) => (rd (F.FE.TUNE_CENTRE_HZ k) s, rd (F.FE.SPAN_WIDTH k) s, rd (F.FE.SPAN_BAND k) s)
  if p = 3 ∧ role s = 2 then own (roleFor s)
  else if p = 3 ∧ role s = 3 then ((fe (roleFor s) s).centre, (fe (roleFor s) s).width, (fe (roleFor s) s).band)
  else own p

/-- The pending tuning takes effect (R106). -/
def applyTuning (p : Nat) (s : State) : State :=
  let t := tuningOf p s
  refreshListen (modFe p (fun f => { f with centre := t.1, width := t.2.1, band := t.2.2 }) s)

/-- Whether the tuning to be taken has another span width, which calls for the anti-alias filter's calibration (R112). -/
def widthChanges (p : Nat) (s : State) : Bool :=
  (fe p s).width != (tuningOf p s).2.1 || (fe p s).band != (tuningOf p s).2.2

/-- The calibrations of a tuning change (R112). -/
def tuningCals (p : Nat) (s : State) : List CalKind := if widthChanges p s then [.synth, .aaf] else [.synth]

/-- The operating state a front end rests in when nothing more is to calibrate: STANDBY for an idle FE3, for a front end that
transmits for listen-through and with the page in STOPPED, else RX (R109, R110, R117, R123). -/
def restState (p : Nat) (s : State) : Nat :=
  if pageState (fePage p) s = STOPPED then RF_STANDBY
  else if p = 3 ∧ role s = 0 ∧ s.relief.isNone then RF_STANDBY
  else if listensThrough p s then RF_STANDBY
  else RF_RX

/-- Begins the next calibration of a set. -/
def nextCal (p : Nat) (s : State) : State :=
  match (fe p s).todo.head? with
  | some .synth => setRf p RF_SYNTH_CAL s
  | some _ => setRf p RF_CAL s
  | none => setRf p (restState p s) s

/-- The full set of R113, in its order. -/
def fullSet : List CalKind := [.osc, .synth, .aaf, .dc, .iq]

/-- Starts a set of calibrations. -/
def startCals (p : Nat) (why : CalWhy) (cals : List CalKind) (s : State) : State :=
  nextCal p (modFe p (fun f => { f with
    todo := cals, why, second := false, lockTries := 0, full := fullSet.all (fun k => decide (k ∈ cals)) }) s)

/-- The synthesiser locks again, with nothing else to calibrate (R111, R119). -/
def relock (p : Nat) (s : State) : State :=
  setRf p RF_SYNTH_CAL (modFe p (fun f => { f with todo := [], why := .relock, full := false, second := false, lockTries := 0 }) s)

/-- Whether a front end is between RX and the end of a transmission (R110). -/
def inTurn (p : Nat) (s : State) : Bool := rf p s ∈ [RF_RX_TX, RF_TX, RF_TX_RX]

/-- As `relock`, after TX_RX if a transmission is under way or has just ended (R110, R111). -/
def relockAfter (p : Nat) (s : State) : State :=
  if inTurn p s then modFe p (fun f => { f with
    after := some RF_SYNTH_CAL, todo := [], why := .relock, full := false, second := false, lockTries := 0 }) s
  else relock p s

/-- FE3 calibrates for the tuning of a new role: after a set that is under way, after a transmission that is under way, or now.
The specification cuts a transmission for none of these (R110); that it completes first is a DESIGN CHOICE (log entry 22). -/
def roleCals (cals : List CalKind) (s : State) : State :=
  if !(fe 3 s).todo.isEmpty then modFe 3 (fun f => { f with todo := f.todo ++ cals }) s
  else if inTurn 3 s then modFe 3 (fun f => { f with
    after := some RF_SYNTH_CAL, todo := cals, why := .relock, full := false, second := false, lockTries := 0 }) s
  else startCals 3 .relock cals s

/-- FE3 rests in STANDBY: after a set of calibrations, a lock or a transmission that is under way, or now. -/
def rest3 (s : State) : State :=
  if !(fe 3 s).todo.isEmpty ∨ rf 3 s = RF_SYNTH_CAL ∨ rf 3 s = RF_SETTLE then s
  else if inTurn 3 s then modFe 3 (fun f => { f with after := some RF_STANDBY }) s
  else setRf 3 RF_STANDBY s

/-- The detail code of a calibration (R112). -/
def CalKind.detail : CalKind → Nat
  | .osc => 1
  | .synth => 2
  | .aaf => 3
  | .dc => 4
  | .iq => 5
  | .loopback => 6

/-- The start of an FEn page (R110, R113): pending tuning in effect, RF_STATE STANDBY, then the full set. -/
def feStart (p : Nat) (s : State) : State :=
  let s := applyTuning p s
  startCals p .start fullSet (setRf p RF_STANDBY s)

/-- CAL_AGE and the set held per band after an IQ calibration, CAL_TEMP after a full set (R113, R116). -/
def noteCal (p : Nat) (k : CalKind) (s : State) : State :=
  if k = .iq then
    modFe p (fun f => { f with calIqAt := insert f.calIqAt f.band s.now }) (wr (F.FE.CAL_AGE p) 0 s)
  else s

/-- A full set has ended: CAL_TEMP takes PWR.TEMP[0] (R113). -/
def noteSet (p : Nat) (s : State) : State :=
  let t := rdInt (F.PWR.TEMP_VALUE 0) s
  modFe p (fun f => { f with calTemps := insert f.calTemps f.band t }) (wrInt (F.FE.CAL_TEMP p) t s)

/-- The RESULT codes of TEST_STATUS (R73). -/
def T_WAITING : Nat := 1
/-- R73. -/
def T_RUNNING : Nat := 2
/-- R73. -/
def T_PASSED : Nat := 3
/-- R73. -/
def T_FAILED : Nat := 4
/-- R73. -/
def T_NO_RESERVE : Nat := 5
/-- R73. -/
def T_BAD_STATE : Nat := 6
/-- R73. -/
def T_ABORTED : Nat := 7

/-- FE3 leaves a relief before FEk has begun to calibrate: FEk returns to RX and its need waits again. -/
def reliefBroken (r : Relief) (s : State) : State :=
  if r.stage ∈ [.preparing, .filling, .relieving] then
    let s := if rf r.k s = RF_RELIEVED then setRf r.k RF_RX s else s
    let s := if r.why = .selfTest then setTestResult (fePage r.k) T_WAITING s
      else if r.why = .request then wr (F.FE.CAL_STATUS_RESULT r.k) T_WAITING s else s
    { s with reliefQueue := { r with stage := .preparing } :: s.reliefQueue }
  else s

/-- The relief ends: FE3's role reads IDLE again, it serves itself, and FE_RELIEVED3 latches (R119). -/
def dropRelief (s : State) : State :=
  latch 0x0B 3 (wr (F.FE.RF_STATE_LOGICAL 3) 3 (wr (F.FE.ROLE_MODE 3) 0 { s with relief := none }))

/-- The relief of FEk that FE3 has prepared breaks off or FEk leaves service in it: FE3 rests. -/
def freeFe3 (s : State) : State := rest3 (dropRelief (modFe 3 (fun f => { f with todo := [], full := false }) s))

/-- A front end's page leaves service: the needs and requests of calibration that it has are no more (R115), a start runs the full
set (R113). A request or a self-test that waits or runs ends with `v` (R84, DEDUCED, log entry 22). -/
def dropNeeds (p v : Nat) (s : State) : State :=
  let s := { s with reliefQueue := s.reliefQueue.filter (fun r => r.k ≠ p) }
  let s := modFe p (fun f => { f with todo := [], full := false, waiting := [], after := none, lockTries := 0, deferFrom := none }) s
  let s := wr (F.FE.CAL_STATUS_DEFER_TEMP p) 0 (wr (F.FE.CAL_STATUS_DEFER_IQ p) 0 (wr (F.FE.CAL_STATUS_OVERDUE p) 0 s))
  let s := wr (F.FE.RF_STATE_RETUNE_PENDING p) 0 s
  let s := if rd (F.HEAD.TEST_STATUS_RESULT (fePage p)) s ∈ [T_WAITING, T_RUNNING] then setTestResult (fePage p) v s else s
  if rd (F.FE.CAL_STATUS_RESULT p) s ∈ [T_WAITING, T_RUNNING] then wr (F.FE.CAL_STATUS_RESULT p) v s else s

/-- A relief when front end `p` leaves service by a fault: FE3's own fault breaks it, and one of FEk before hand-over frees FE3;
later FE3 hands back (R119). -/
def reliefFaulted (p : Nat) (s : State) : State :=
  match s.relief with
  | none => s
  | some r =>
    if p = 3 then reliefBroken r (dropRelief s)
    else if r.k ≠ p then s
    else if r.stage = .preparing ∨ r.stage = .filling then freeFe3 s
    else if r.stage = .finishing then s
    else { s with relief := some { r with stage := .refilling } }

/-- An FEn page enters FAULT: STANDBY with the DAC muted, DETAIL, and FE_FAULT (R109, R114, R143). -/
def feFault (p detail : Nat) (s : State) : State :=
  let s := wr (F.HEAD.TEST_STATUS_DETAIL (fePage p)) detail s
  let s := reliefFaulted p (dropNeeds p T_ABORTED s)
  let s := holdCommitted (logicalOf p s) s
  refreshListen (setRf p RF_STANDBY (latch (fePage p) 2 (setPageState (fePage p) FAULT s)))

/-- Ends every retry flag of a calibration that has passed: STALE falls when none is left (R114). -/
def clearStale (p : Nat) (k : CalKind) (s : State) : State :=
  let s := modFe p (fun f => { f with failed := f.failed.filter (· ≠ k) }) s
  if (fe p s).failed.isEmpty then wr (F.FE.CAL_STATUS_STALE p) 0 s else s

/-- A front end returns from a relieved calibration to RX, and its ring refills (R119 step 5). -/
def reliefRefill (p : Nat) (s : State) : State :=
  match s.relief with
  | some r => if r.k = p then { s with relief := some { r with stage := .refilling } } else s
  | none => s

/-- The page state that a self-test returns to (R81): the state before TEST, DRAINING if ENABLE is 0 by then. -/
def afterTest (pg was : Nat) (s : State) : Nat :=
  if was = RUN ∧ ¬ isSet (F.HEAD.CTRL_ENABLE pg) s then DRAINING else was

/-- The automatic needs that a set meets leave the queue, and with none left deferred OVERDUE falls (R115). The temperature's full
set holds the IQ calibration too (R113). -/
def deferralsMet (p : Nat) (temp : Bool) (s : State) : State :=
  let s := if temp then wr (F.FE.CAL_STATUS_DEFER_TEMP p) 0 s else s
  let s := wr (F.FE.CAL_STATUS_DEFER_IQ p) 0 s
  let s := { s with reliefQueue := s.reliefQueue.filter (fun r =>
    !(r.k == p && (r.why == .iqAge || temp && r.why == .temperature))) }
  let s := modFe p (fun f => { f with waiting := f.waiting.filter (fun w => !(w == .iqAge || temp && w == .temperature)) }) s
  if isSet (F.FE.CAL_STATUS_DEFER_TEMP p) s then s
  else wr (F.FE.CAL_STATUS_OVERDUE p) 0 (modFe p (fun f => { f with deferFrom := none }) s)

/-- FE3 has locked on FEk's span with a usable set: it receives, and its ring fills (R119 step 2). -/
def reliefReady (s : State) : State :=
  match s.relief with
  | some r => { setRf 3 RF_RX s with relief := some { r with stage := .filling } }
  | none => setRf 3 (restState 3 s) s

/-- A full set has ended (R113): it meets the automatic needs too. -/
def fullDone (p : Nat) (s : State) : State :=
  if (fe p s).full then deferralsMet p true (noteSet p (modFe p (fun f => { f with full := false }) s)) else s

/-- A set of calibrations has ended with nothing left to run. -/
def calsDone (p : Nat) (s : State) : State :=
  let f := fe p s
  let s := fullDone p s
  match f.why with
  | .start =>
    let s := setPageState (fePage p) RUN s
    refreshListen (setRf p (restState p s) s)
  | .temperature => reliefRefill p (setRf p (restState p s) s)
  | .iqAge =>
    reliefRefill p (setRf p (restState p s) (deferralsMet p false s))
  | .request =>
    let s := wr (F.FE.CAL_STATUS_RESULT p) (if f.failed.isEmpty then T_PASSED else T_FAILED) s
    reliefRefill p (setRf p (restState p s) s)
  | .selfTest =>
    let s := setTestResult (fePage p) T_PASSED s
    let s := setPageState (fePage p) (afterTest (fePage p) f.fromState s) s
    let s := refreshListen (reliefRefill p (setRf p (restState p s) s))
    wr (F.HEAD.STATE_BUSY (fePage p)) 0 s
  | .retry => reliefRefill p (setRf p (restState p s) s)
  | .retune =>
    let s := wr (F.FE.RF_STATE_RETUNE_PENDING p) 0 s
    setRf p (restState p s) (modFe p (fun f => { f with lockTries := 0 }) s)
  | .relock => setRf p (restState p s) (modFe p (fun f => { f with lockTries := 0 }) s)
  | .relief => reliefReady s

/-- The calibration at the head passes: the next one begins, or the set ends. -/
def calPass (p : Nat) (s : State) : State :=
  match (fe p s).todo with
  | [] => s
  | k :: r =>
    let s := clearStale p k (noteCal p k s)
    let s := modFe p (fun f => { f with todo := r, second := false }) s
    if r.isEmpty then calsDone p s else nextCal p s

/-- A second failure of a calibration (R114): FE_CAL_FAIL with its code; in the start or a self-test the page enters
FAULT, in service the previous results stay, marked STALE, to be retried. -/
def calFail (p detail : Nat) (s : State) : State :=
  let f := fe p s
  match f.todo with
  | [] => s
  | k :: r =>
    let s := latch (fePage p) 0 (wr (F.FE.CAL_STATUS_LAST_FAIL p) detail s)
    match f.why with
    | .start => feFault p detail s
    | .selfTest => reliefRefill p (feFault p detail (setTestResult (fePage p) T_FAILED s))
    | _ =>
      let s := wr (F.FE.CAL_STATUS_STALE p) 1 s
      let s := modFe p (fun f => { f with
        failed := if k ∈ f.failed then f.failed else f.failed ++ [k], todo := r, second := false }) s
      if r.isEmpty then calsDone p s else nextCal p s

/-- Whether the measured result of the calibration in progress meets its limit (R112), and the detail code if not.
OSC: band codes found, and how many of them are out of monotonic order; AAF: bandwidth in kHz; DC: residuals; IQ: image rejection in 0.25 dB; LOOPBACK: level error in
dB and frequency error in Hz. -/
def calVerdict (p : Nat) (k : CalKind) (v w : Nat) (s : State) : Option Nat :=
  let f := fe p s
  let spanKhz := 2 * halfSpan f.band f.width / 1000
  match k with
  | .osc => if refclkFault s then some 7 else if v = 64 ∧ w = 0 then none else some 1
  | .synth => none
  | .aaf => if 20 * dist (100 * v) (55 * spanKhz) ≤ 55 * spanKhz then none else some 3
  | .dc => if v ≤ 16 ∧ w ≤ 16 then none else some 4
  | .iq => if 160 ≤ v then none else some 5
  | .loopback => if v ≤ 1 ∧ w ≤ 1000 then none else some 6

/-- The result registers of a calibration (R142). -/
def storeCal (p : Nat) (k : CalKind) (v w : Nat) (s : State) : State :=
  match k with
  | .osc => wr (F.FE.CAL_OSC_BANDS p) v s
  | .synth => wr (F.FE.CAL_SYNTH_VCO_BAND p) v (wr (F.FE.CAL_SYNTH_LOCK_US p) w s)
  | .aaf => wr (F.FE.CAL_AAF_BW_KHZ p) v s
  | .dc => wr (F.FE.CAL_DC_RESID_I p) v (wr (F.FE.CAL_DC_RESID_Q p) w s)
  | .iq => wr (F.FE.CAL_IQ_IMAGE_REJ p) v s
  | .loopback => s

/-- A calibration ends with its measured result (R113, R114): passed, retried once, or failed. -/
def calDone (p v w : Nat) (s : State) : State :=
  let f := fe p s
  match f.todo.head? with
  | none | some .synth => s
  | some k =>
    if rf p s ≠ RF_CAL then s
    else
      match calVerdict p k v w s with
      | none => calPass p (storeCal p k v w s)
      | some d =>
        if f.second then calFail p d s else setRf p RF_CAL (modFe p (fun f => { f with second := true }) s)

/-- The request or the self-test that a front end runs ends with `v`. -/
def endRequests (p v : Nat) (s : State) : State :=
  match (fe p s).why with
  | .selfTest => if rd (F.HEAD.TEST_STATUS_RESULT (fePage p)) s = T_RUNNING then setTestResult (fePage p) v s else s
  | .request => if rd (F.FE.CAL_STATUS_RESULT p) s = T_RUNNING then wr (F.FE.CAL_STATUS_RESULT p) v s else s
  | _ => s

/-- A lock attempt fails (R111): up to 3, 1 ms apart, and the third failure puts the page into FAULT. -/
def lockFailed (p : Nat) (s : State) : State :=
  let s := modFe p (fun f => { f with lockTries := f.lockTries + 1 }) s
  if 3 ≤ (fe p s).lockTries then feFault p 2 (endRequests p T_FAILED s) else setRf p RF_SYNTH_CAL s

/-- The next lock attempt (R111): only while the front end locks. -/
def lockRetry (p : Nat) (s : State) : State := if rf p s = RF_SYNTH_CAL ∨ rf p s = RF_SETTLE then lockFailed p s else s

/-- Lock: SYNTH_CAL to SETTLE; a lock later than 38 µs is none (R110, R112). The synthesiser derives from REFCLK40_IN and does not
lock while it is absent (R65, R67; DEDUCED, log entry 22). -/
def synthLock (p band us : Nat) (s : State) : State :=
  if rf p s ≠ RF_SYNTH_CAL then s
  else if 38 < us ∨ s.watch.refclkAbsent then lockFailed p s
  else setRf p RF_SETTLE (storeCal p .synth band us s)

/-- The end of SETTLE (R110): the frequency must lie within ±100 Hz; the next calibration follows, or RX. A relief's
FE3 goes on to fill its ring (R119). -/
def settleElapsed (p : Nat) (err : Int) (s : State) : State :=
  if rf p s ≠ RF_SETTLE then s
  else if 100 < err.natAbs ∨ s.watch.refclkAbsent then lockFailed p s
  else
    let s := modFe p (fun f => { f with lockTries := 0 }) s
    match (fe p s).todo with
    | .synth :: _ => calPass p s
    | _ :: _ => nextCal p s
    | [] =>
      match s.relief with
      | some r =>
        if p = 3 ∧ r.stage = .preparing then reliefReady s
        else calsDone p (modFe p (fun f => { f with why := .relock }) s)
      | none => calsDone p (modFe p (fun f => { f with why := .relock }) s)

/-! ### Ending a transmission early -/

/-- Charges what a transmission radiated and frees its reservation (R331); it joins its dwell run (R332). -/
def chargeTx (t : Tx) (ns : Nat) (s : State) : State :=
  let s := match t.what with
    | .scheduled id | .pollAnswer id => dutyRelease id s
    | .ack _ _ _ => s
  let s := dwellSettle t.logical t.what.dwellKey (ns != 0) s
  if ns = 0 then s else dutyCharge t.entry ns s

/-- The scrambler's seed index advances after an OFDM transmission, cut or complete (R208). -/
def advanceSeed (p : Nat) (t : Tx) (s : State) : State :=
  if modeFamily t.mode = some .ofdm ∧ t.firstAt.isSome then modFe p (fun f => { f with ofdmSeed := (f.ofdmSeed + 1) % 4 }) s
  else s

/-- PA_EN falls at once, and REQ and PRI with it (R133, R134). -/
def paFalls (p : Nat) (s : State) : State := lowerReq p (modFe p (fun f => { f with cut := true, muted := true }) s)

/-- A transmission is cut: the DAC mutes, the front end enters TX_RX, what was radiated is charged, and the frame ends
with `d`; an acknowledgement has no disposition (R110, R134, R216). PA_EN falls at once where the grant is withdrawn, and
otherwise at its edge of TX_RX (R130). -/
def cutTx (p : Nat) (d : Disp) (s : State) : State :=
  match (fe p s).tx with
  | none => s
  | some t =>
    let s := advanceSeed p t (freeEngine t.engine (chargeTx t (radiated t s.now) s))
    let s := modFe p (fun f => { f with tx := none, fetch := none, muted := true }) s
    let s := setRf p RF_TX_RX (if d = .txAbandonCoex then paFalls p s else reqFalls p s)
    match t.what with
    | .scheduled id | .pollAnswer id => endFrame id d s
    | .ack _ _ _ => s

/-- Whether a front end transmits or is about to. -/
def sending (p : Nat) (s : State) : Bool := rf p s == RF_RX_TX || rf p s == RF_TX

/-- Lock loss in RX, RX_TX, TX or TX_RX (R111). R111 does not name RELIEVED: there too the loss is counted, the lanes that the front
end still feeds end, and the synthesiser is calibrated again, after which the front end is in RX (DESIGN CHOICE, log entry 22). -/
def synthUnlock (p : Nat) (s : State) : State :=
  if rf p s ∈ [RF_RX, RF_RX_TX, RF_TX, RF_TX_RX, RF_RELIEVED] then
    let s := latch (fePage p) 1 (incSat (F.FE.UNLOCK_COUNT p) s)
    let s := cutTx p .txAbandonReg s
    relockAfter p (endLanes (fun l => l.physical == p) .dropSyncFail s)
  else s

/-! ### Retunes (R106) -/

/-- The lanes that a retune of `p` waits for and ends: those bound to it, and those of FE3 while it listens through for it. -/
def retuned (p : Nat) (s : State) (l : Lane) : Bool :=
  l.physical == p || (l.physical == 3 && role s == 3 && roleFor s == p)

/-- The retune's SYNTH_CAL begins on the new span; a new width calls for AAF (R106, R112). FE3 follows the front end for which it
listens through (R123). -/
def beginRetune (p : Nat) (s : State) : State :=
  let s := endLanes (retuned p s) .dropDisabled s
  let cals := tuningCals p s
  let s := startCals p .retune cals (applyTuning p s)
  if role s = 3 ∧ roleFor s = p ∧ p ≠ 3 ∧ pageState 0x0B s = RUN then roleCals (tuningCals 3 s) (applyTuning 3 s) else s

/-- A retune goes on once the front end is back in RX and its lanes have ended; with DRAIN_MAX 0 they end at once. -/
def retuneStep (p : Nat) (s : State) : State :=
  if isSet (F.FE.RF_STATE_RETUNE_PENDING p) s && (rf p s == RF_RX || rf p s == RF_STANDBY) && (fe p s).todo.isEmpty && pageState (fePage p) s == RUN &&
      (rd (F.FE.SPAN_DRAIN_MAX p) s == 0 || !anyLane (retuned p s) s)
  then beginRetune p s else s

/-- Whether front end `p` takes part in a relief. -/
def inRelief (p : Nat) (s : State) : Bool :=
  match s.relief with
  | some r => r.k == p || p == 3
  | none => false

/-- Whether a calibration of a front end, a lock among them, is under way or about to begin. -/
def calibrating (p : Nat) (s : State) : Bool :=
  !(fe p s).todo.isEmpty || !(fe p s).waiting.isEmpty || (fe p s).after == some RF_SYNTH_CAL ||
    rf p s ∈ [RF_SYNTH_CAL, RF_SETTLE, RF_CAL]

/-- A write of TUNE_GO (R106). -/
def tuneGo (p : Nat) (s : State) : State :=
  if pageState (fePage p) s ≠ RUN then reject (fePage p) 0x048 .bar0 .state 1 s
  else if isSet (F.FE.RF_STATE_RETUNE_PENDING p) s || calibrating p s || inRelief p s then
    reject (fePage p) 0x048 .bar0 .action 1 s
  else retuneStep p (holdCommitted (logicalOf p s) (wr (F.FE.RF_STATE_RETUNE_PENDING p) 1 s))

/-- DRAIN_MAX expires (R106): the lanes still bound end. -/
def retuneExpiry (p : Nat) (s : State) : State :=
  if isSet (F.FE.RF_STATE_RETUNE_PENDING p) s && (rf p s == RF_RX || rf p s == RF_STANDBY) && (fe p s).todo.isEmpty &&
      pageState (fePage p) s == RUN then
    beginRetune p s
  else s

/-! ### Relief (R115 to R121) -/

/-- Whether FE3's calibration set for a band is usable: within 10 °C, IQ less than 24 h old (R116). -/
def reliefSetUsable (band : Nat) (s : State) : Bool :=
  match find (fe 3 s).calTemps band, find (fe 3 s).calIqAt band with
  | some t, some a => (rdInt (F.PWR.TEMP_VALUE 0) s - t).natAbs ≤ 80 && decide (s.now < a + 86400000000000)
  | _, _ => false

/-- FE3 starts to relieve FEk (R119 step 1): tuned to FEk's span, calibrated first if its set is not usable; MODE
reads RELIEF, a request that waited runs (R84) and FE_RELIEVED3 latches. R119 lets FE_RELIEVED3 latch when FE3 starts acting for another front end and does not
say at which of its steps that is: the model takes step 1, where FE3 tunes and drives RELIEF_SEL[k] (DESIGN CHOICE, log
entry 22). -/
def startRelief (r : Relief) (s : State) : State :=
  let f := fe r.k s
  let s := modFe 3 (fun g => { g with centre := f.centre, width := f.width, band := f.band }) s
  let s := { s with relief := some { r with stage := .preparing } }
  let s := latch 0x0B 3 (wr (F.FE.ROLE_MODE 3) 4 s)
  let s := if r.why = .selfTest then setTestResult (fePage r.k) T_RUNNING s
    else if r.why = .request then wr (F.FE.CAL_STATUS_RESULT r.k) T_RUNNING s else s
  if reliefSetUsable f.band s then relock 3 s else startCals 3 .relief fullSet s

/-- The oldest waiting need of a front end in service is served when FE3 is free (R121); a deferred calibration of FE3 itself then
runs (R116). -/
def serveRelief (s : State) : State :=
  match s.reliefQueue.find? (fun r => pageState (fePage r.k) s == RUN) with
  | none => s
  | some r =>
    if !fe3Free s then s
    else
      let s := { s with reliefQueue := s.reliefQueue.erase r }
      if r.k = 3 then startCals 3 r.why r.cals s else startRelief r s

/-- A need for relief joins the queue; FE3 serves it at once if free. -/
def needRelief (r : Relief) (s : State) : State := serveRelief { s with reliefQueue := s.reliefQueue ++ [r] }

/-- The request of the committed frame of scheduler `n` moves from front end `p` to the one that serves `n` now: each front end has
its own REQ (R132). -/
def moveReq (n p : Nat) (s : State) : State :=
  match committedFrame n s with
  | some (_, f) => commitReq n f.queue (lowerReq p s)
  | none => s

/-- Hand-over (R119 step 3): FE3 in RX with its ring full and FEk in RX, its page in RUN. -/
def handOver (s : State) : State :=
  match s.relief with
  | some r =>
    if r.stage = .filling ∧ rf r.k s = RF_RX ∧ rf 3 s = RF_RX ∧ pageState (fePage r.k) s = RUN then
      let s := { s with relief := some { r with stage := .relieving } }
      let s := wr (F.FE.RF_STATE_LOGICAL 3) r.k (latch (fePage r.k) 3 s)
      moveReq r.k r.k (refreshListen (showLines 3 (setRf r.k RF_RELIEVED s)))
    else s
  | none => s

/-- FEk's own lanes have ended (R119 step 4): it enters CAL, or its page enters TEST. A page that has left RUN meanwhile calibrates
no more: FEk is in RX again, the request ends, and FE3 hands back (R81; DEDUCED, log entry 22). -/
def relievedLanesEnded (s : State) : State :=
  match s.relief with
  | some r =>
    if r.stage = .relieving ∧ ¬ anyLane (fun l => l.physical == r.k) s then
      if pageState (fePage r.k) s ≠ RUN then
        let s := setRf r.k RF_RX { s with relief := some { r with stage := .finishing } }
        refreshListen (if r.why = .selfTest then setTestResult (fePage r.k) T_ABORTED s
          else if r.why = .request then wr (F.FE.CAL_STATUS_RESULT r.k) T_ABORTED s else s)
      else
        let s := { s with relief := some { r with stage := .calibrating } }
        let s := if r.why = .selfTest then
            setPageState (fePage r.k) TEST (modFe r.k (fun f => { f with fromState := RUN }) s) else s
        startCals r.k r.why r.cals s
    else s
  | none => s

/-- Handback (R119 step 6). -/
def handback (s : State) : State :=
  match s.relief with
  | some r =>
    if r.stage = .refilling ∧ ¬ sending 3 s ∧ rf 3 s ≠ RF_TX_RX then
      moveReq r.k 3 (refreshListen (latch (fePage r.k) 3 { s with relief := some { r with stage := .finishing } }))
    else s
  | none => s

/-- FE3's last lane of the relief ends (R119 step 7): STANDBY and IDLE, and the next need is served (R121). -/
def reliefOver (s : State) : State :=
  match s.relief with
  | some r =>
    if r.stage = .finishing ∧ ¬ anyLane (fun l => l.physical == 3) s then
      serveRelief (refreshListen (setRf 3 RF_STANDBY (dropRelief s)))
    else s
  | none => s

/-- The set of an automatic need. -/
def needCals (p : Nat) (why : CalWhy) (s : State) : List CalKind :=
  match why with
  | .temperature => fullSet
  | .retry => (fe p s).failed
  | _ => [.iq]

/-- An unrelieved calibration, the oldest that waits, starts once the front end is in RX with no lane of its own (R115). -/
def unrelievedStep (p : Nat) (s : State) : State :=
  match (fe p s).waiting with
  | [] => s
  | w :: r =>
    if rf p s == RF_RX && (fe p s).todo.isEmpty && !anyLane (fun l => l.physical == p) s && !inRelief p s then
      startCals p w (needCals p w s) (modFe p (fun f => { f with waiting := r }) s)
    else s

/-- A front end is to calibrate unrelieved: no new detections or scheduled transmissions, and its lanes end first. -/
def calUnrelieved (p : Nat) (why : CalWhy) (s : State) : State :=
  unrelievedStep p (modFe p (fun f => { f with waiting := if why ∈ f.waiting then f.waiting else f.waiting ++ [why] })
    (holdCommitted (logicalOf p s) s))

/-- An automatic calibration (R115, R116): FE3 at once while IDLE; FE0 to FE2 relieved when FE3 is free, deferred
otherwise; in bivouac unrelieved. -/
def autoCal (p : Nat) (why : CalWhy) (s : State) : State :=
  let cals := needCals p why s
  let deferred := fun (s : State) =>
    let s := if why = .temperature then wr (F.FE.CAL_STATUS_DEFER_TEMP p) 1 s else wr (F.FE.CAL_STATUS_DEFER_IQ p) 1 s
    modFe p (fun f => { f with deferFrom := some (f.deferFrom.getD s.now) }) s
  if pageState (fePage p) s ≠ RUN then s
  else if p ≠ 3 ∧ inBivouac s then calUnrelieved p why s
  else if fe3Free s then needRelief { k := p, cals, why } s
  else
    let s := deferred s
    { s with reliefQueue := s.reliefQueue ++ [{ k := p, cals, why }] }

/-- The temperature trigger (R112): PWR.TEMP[0] differs from CAL_TEMP by more than 10 °C. -/
def tempTrigger (p : Nat) (s : State) : State :=
  if (rdInt (F.PWR.TEMP_VALUE 0) s - rdInt (F.FE.CAL_TEMP p) s).natAbs ≤ 80 then s
  else if isSet (F.FE.CAL_STATUS_DEFER_TEMP p) s then s
  else autoCal p .temperature s

/-- The 24 h trigger (R112). -/
def iqTrigger (p : Nat) (s : State) : State :=
  if isSet (F.FE.CAL_STATUS_DEFER_IQ p) s then s else autoCal p .iqAge s

/-- A deferral reaches DEFER_MAX (R115, R143). With both deferred the temperature's full set, which holds the IQ calibration, runs
unrelieved. -/
def calOverdue (p : Nat) (s : State) : State :=
  let dt := isSet (F.FE.CAL_STATUS_DEFER_TEMP p) s
  let dq := isSet (F.FE.CAL_STATUS_DEFER_IQ p) s
  if (dt || dq) && !isSet (F.FE.CAL_STATUS_OVERDUE p) s then
    let s := wr (F.FE.CAL_STATUS_LAST_FAIL p) 9 (wr (F.FE.CAL_STATUS_OVERDUE p) 1 s)
    let s := wr (F.HEAD.TEST_STATUS_DETAIL (fePage p)) 9 s
    let s := latch (fePage p) 0 s
    if isSet (F.FE.CAL_CFG_UNRELIEVED p) s then
      let s := { s with reliefQueue := s.reliefQueue.filter (fun r =>
        !(r.k == p && (r.why == .temperature || r.why == .iqAge))) }
      calUnrelieved p (if dt then .temperature else .iqAge) s
    else s
  else s

/-- A self-test or calibration request waits or runs on a front end (R84). -/
def feRequestOpen (p : Nat) (s : State) : Bool :=
  rd (F.HEAD.TEST_STATUS_RESULT (fePage p)) s ∈ [T_WAITING, T_RUNNING] || rd (F.FE.CAL_STATUS_RESULT p) s ∈ [T_WAITING, T_RUNNING]

/-- The calibrations that a CAL_REQ word asks for (R142). -/
def requestedCals (data : Nat) : List CalKind :=
  ([(0, CalKind.osc), (1, .synth), (2, .aaf), (3, .dc), (4, .iq)].filter (fun x => data.testBit x.1)).map (·.2)

/-- A write of CAL_REQ (R115, R84): FE0 to FE2 in RUN under relief, WAITING until FE3 is free; FE3 as a unit without
reserve, in RUN only while it carries no load. While a request waits or runs on the page the write is rejected whole. R84 names
STOPPED neither among the states that end a request of a unit with reserve as BAD_STATE nor as one that accepts it: a CAL_REQ of
FE0 to FE2 in STOPPED ends as BAD_STATE (DESIGN CHOICE, log entry 22). -/
def calReq (p data : Nat) (s : State) : State :=
  let cals := requestedCals data
  if cals.isEmpty then s
  else if feRequestOpen p s then reject (fePage p) 0x074 .bar0 .action (BitVec.ofNat 32 data) s
  else if p = 3 then
    if pageState 0x0B s = STOPPED ∨ fe3Free s then
      startCals 3 .request cals (wr (F.FE.CAL_STATUS_RESULT 3) T_RUNNING s)
    else wr (F.FE.CAL_STATUS_RESULT 3) T_BAD_STATE s
  else if pageState (fePage p) s ≠ RUN then wr (F.FE.CAL_STATUS_RESULT p) T_BAD_STATE s
  else needRelief { k := p, cals, why := .request } (wr (F.FE.CAL_STATUS_RESULT p) T_WAITING s)

/-- Every 10 min a stale calibration is retried (R114), under relief as any automatic one, and in bivouac unrelieved (R116). -/
def calRetry (p : Nat) (s : State) : State :=
  let f := fe p s
  if f.failed.isEmpty ∨ pageState (fePage p) s ≠ RUN then s
  else if p = 3 then (if fe3Free s then startCals 3 .retry f.failed s else s)
  else if inBivouac s then calUnrelieved p .retry s
  else if s.reliefQueue.any (fun r => r.k == p && r.why == .retry) then s
  else needRelief { k := p, cals := f.failed, why := .retry } s

/-! ### FE3's roles (R117, R122 to R125) -/

/-- Whether the state of FEk allows a role (R117). -/
def roleAllowed (mode k : Nat) (s : State) : Bool :=
  match mode with
  | 2 => k < 3 && (pageState (fePage k) s ∈ [OFF, STOPPED, FAULT, RETIRED])
  | 3 => k < 3 && pageState (fePage k) s == RUN && (fe k s).band == rd (F.FE.SPAN_BAND 3) s
  | _ => true

/-- FE3 takes up the tuning of its new role: its lanes end, and it calibrates for the tuning change while its page is in RUN
(R112, R117). -/
def retake3 (s : State) : State :=
  let cals := tuningCals 3 s
  let s := applyTuning 3 s
  refreshListen (if pageState 0x0B s = RUN then roleCals cals s else s)

/-- A write of ROLE (R117): rejected while FE3 relieves, out of range, or where FEk's state forbids it; a write that
changes nothing changes nothing. The specification names no disposition for the frames of the lanes bound on FE3 when its
role changes, IDLE among the new roles: they end as DROP_DISABLED (DESIGN CHOICE, log entry 22). Nor does it name one for the
lanes bound on FEk's own receive path when LISTEN_THROUGH begins: they end as DROP_TX_PREEMPT (DESIGN CHOICE, log entry 22). -/
def writeRole (mode k : Nat) (s : State) : State :=
  let data := BitVec.ofNat 32 (mode + 16 * k)
  let forWas := roleFor s
  if mode = role s ∧ k = forWas then s
  else if k = 3 ∨ 5 ≤ mode ∨ (mode = 4 ∧ role s ≠ 4) then reject 0x0B 0x050 .bar0 .range data s
  else if role s = 4 ∨ !roleAllowed mode k s then reject 0x0B 0x050 .bar0 .state data s
  else
    let was := role s
    let s := endLanes (fun l => l.physical == 3) .dropDisabled s
    let s := modFe 3 (fun f => { f with resuming := false }) s
    let s := holdGain (wr (F.FE.ROLE_MODE 3) mode (wr (F.FE.ROLE_FOR 3) k s))
    let s := if was = 2 then latch 0x0B 3 s else s
    let s := if was = 3 ∧ rf forWas s = RF_STANDBY ∧ pageState (fePage forWas) s = RUN then setRf forWas RF_RX s else s
    match mode with
    | 0 =>
      let s := wr (F.FE.RF_STATE_LOGICAL 3) 3 s
      serveRelief (refreshListen (if pageState 0x0B s = RUN then rest3 s else s))
    | 1 => retake3 (wr (F.FE.RF_STATE_LOGICAL 3) 3 s)
    | 2 => retake3 (engaged 3 k 3 (latch 0x0B 3 (wr (F.FE.RF_STATE_LOGICAL 3) k s)))
    | _ =>
      let s := wr (F.FE.LT_SUSPENDED 3) 0 (wr (F.FE.RF_STATE_LOGICAL 3) k s)
      let s := if rf k s = RF_RX then
          setRf k RF_STANDBY (endLanes (fun l => l.physical == k) .dropTxPreempt s) else s
      retake3 (holdGain s)

/-- Saturation while FEk transmits under listen-through (R125): suspended, and FE3's lanes are marked by the
gain-step rule. -/
def ltSaturation (s : State) : State :=
  let k := roleFor s
  if listensThrough k s ∧ inTurn k s then
    let s := modFe 3 (fun f => { f with gainWas := none }) s
    refreshListen (forcedStep 3 (wr (F.FE.LT_SUSPENDED 3) 1 s))
  else s

/-- A write of LT.RESUME (R125): reception returns to FE3 at FEk's next STANDBY or RX, at once if FEk is in one of them. The
specification names no disposition for the frames of the lanes then bound on FEk's own receive path: they end as
DROP_TX_PREEMPT (DESIGN CHOICE, log entry 22). -/
def ltResume (s : State) : State :=
  let k := roleFor s
  if !isSet (F.FE.LT_SUSPENDED 3) s ∨ role s ≠ 3 then wr (F.FE.LT_SUSPENDED 3) 0 s
  else
    let s := wr (F.FE.LT_SUSPENDED 3) 0 s
    if rf k s = RF_RX then refreshListen (setRf k RF_STANDBY (endLanes (fun l => l.physical == k) .dropTxPreempt s))
    else if rf k s = RF_STANDBY then refreshListen s
    else modFe 3 (fun f => { f with resuming := true }) s

/-! ### The transmit path -/

/-- The regulatory ceiling at the ball in 0.5 dB steps, rounded down: LIMIT less the larger gain (R126). -/
def ceilingHalf (p e : Nat) (s : State) : Int :=
  let limit := toInt 16 (entryField e 16 2 s)
  let gain := max (toInt 16 (entryField e 18 2 s)) (rdInt (F.FE.EXT_GAIN p) s)
  (limit - gain).fdiv 2

/-- The band maximum in 0.5 dB (R126). -/
def bandMax (band : Nat) : Int := if band = 0 then 32 else 24

/-- Whether the ceiling reaches the band's minimum output of -20 dBm (R126). -/
def powerAllowed (p e : Nat) (s : State) : Bool := -40 ≤ ceilingHalf p e s

/-- The request and the ceiling are recorded, the ceiling saturating at -127 (R126). -/
def notePower (p e : Nat) (req : Int) (s : State) : State :=
  wrInt (F.FE.TX_STATUS_REQUESTED p) req (wrInt (F.FE.TX_STATUS_CEILING p) (clamp (-127) 127 (ceilingHalf p e s)) s)

/-- A transmission that no output could keep below the ceiling (R126): APPLIED reads -128. -/
def refusePower (p e : Nat) (req : Int) (s : State) : State :=
  regCeiling (wrInt (F.FE.TX_STATUS_APPLIED p) (-128) (notePower p e req s))

/-- The power of a transmission at its start (R126): the lowest of the request, the band maximum and the ceiling, recorded; a
request that is lowered is counted. -/
def startPower (p e : Nat) (req : Int) (s : State) : State :=
  let a := min req (min (bandMax (fe p s).band) (ceilingHalf p e s))
  let s := wrInt (F.FE.TX_STATUS_APPLIED p) a (notePower p e req s)
  if a < req then regCeiling (inc (F.FE.TX_CLIPPED p) s) else s

/-- The lanes that a transmission of `p` for logical `n` ends (R120, R124, R179): those reading `p`, and FE3's during
a relief; under listen-through only those within 2 MHz of the channel. -/
def preemptLanes (p n hz : Nat) (s : State) : State :=
  let both : Bool := match s.relief with
    | some r => r.k == n && (r.stage != .preparing && r.stage != .filling)
    | none => false
  if listensThrough n s then
    endLanes (fun l => l.physical == 3 && l.reading && dist l.hz hz < 2000000) .dropTxPreempt s
  else
    endLanes (fun l => l.reading && (l.physical == p || (both && (l.physical == n || l.physical == 3)))) .dropTxPreempt s

/-- What the modulator reads for a transmission of logical front end `n` in a mode (R205, R208, R214); `extra` preamble octets
are asked for by the frame. -/
def txCfg (p n mode extra : Nat) (s : State) : TxCfg :=
  { preamble := preambleOf mode n s + extra, white := isSet (F.PHY.TX_CFG_DW n) s, shaping := rd (F.PHY.TX_CFG_SHAPING n) s
    scheme := rd (F.PHY.FEC_CFG_SCHEME n) s, interleave := isSet (F.PHY.FEC_CFG_INTERLEAVE n) s
    fcs2 := isSet F.PHY.OFDM_CFG_FCS_2 s, seed := (fe p s).ofdmSeed }

/-- A front end enters RX_TX for a transmission (R110, R179). -/
def enterRxTx (p : Nat) (t : Tx) (s : State) : State :=
  let s := preemptLanes p t.logical t.hz s
  setRf p RF_RX_TX (modFe p (fun f => { f with tx := some t, lastHz := t.hz }) s)

/-- Whether a front end can enter RX_TX: RX, or STANDBY under listen-through (R110). -/
def readyToSend (p n : Nat) (s : State) : Bool :=
  rf p s == RF_RX || (rf p s == RF_STANDBY && listensThrough n s && p == n)

/-- LBT on a channel (R333): none while the energy is not valid over LBT_MIN_LISTEN, else whether it is clear. -/
def lbtClear (n e hz : Nat) (s : State) : Option Bool :=
  match rxServer n s with
  | none => none
  | some p =>
    let f := fe p s
    let bins := channelBins f hz (entryField e 12 2 s * 1000)
    let win := entryField e 26 2 s * 1000
    let limit := linear (8 * toInt 8 (entryField e 24 1 s))
    match f.energy with
    | [] => none
    | x :: r =>
      let used := x :: r.filter (fun y => s.now < y.time + win)
      let vals := used.map (channelPower bins)
      if vals.all (·.isSome) ∧ f.since + win ≤ s.now then
        some (vals.all (fun v => match v with | some v => decide (v ≤ limit) | none => false))
      else none

/-- FLAGS of an entry (R137). -/
def entryFlag (e b : Nat) (s : State) : Bool := (entryField e 15 1 s).testBit b

/-- What the key of a frame says at its transmission (R248 to R250): a counter, a wait, or the code it ends with. -/
inductive KeyTake where
  | ready (counter : Nat) | wait | refused (d : Disp)
deriving DecidableEq, Repr

/-- The outgoing key slot of a frame is checked (R242, R250, R374): the code that the frame ends with, if any. Steps 1
to 5 of R374 come before the generation (DEDUCED); a generation that has changed is no use. -/
def keyCheck (f : Frame) (s : State) : Option Disp × State :=
  if slotUsable f.slot LANE_CRYPTO FRAME_ENC s ∧ ancestorsHold 3 (slot f.slot s) s ∧ (slot f.slot s).gen ≠ f.gen then
    (some .dropKeyRevoked, s)
  else
    match useSlot f.slot LANE_CRYPTO FRAME_ENC s with
    | (.unusable, s) => (some .dropKeyUnknown, s)
    | (.revoked, s) => (some .dropKeyRevoked, s)
    | (.ok, s) => (none, s)

/-- The outgoing key slot is checked and the next counter taken (R248, R249, R250, R374). -/
def takeKey (f : Frame) (s : State) : KeyTake × State :=
  if !f.secure then (.ready 0, s)
  else
    match keyCheck f s with
    | (some d, s) => (.refused d, s)
    | (none, s) =>
      match takeCounter f.slot s with
      | (.value v, s) => (.ready v, s)
      | (.wait, s) => (.wait, s)
      | (.exhausted, s) => (.refused .txCounterExhausted, s)

/-- A timed frame that asks for an acknowledgement, or a poll answer, ends an open wait unmatched as it enters RX_TX
(R244). -/
def closeWait (n : Nat) (s : State) : State :=
  match s.frames.find? (fun x => x.2.place == .ackWait && x.2.airFe == n) with
  | some x => unmatched x.1 s
  | none => s

/-- The PAN slot of a frame: its node's, or its campaign's. -/
def Frame.pan (f : Frame) (s : State) : Option Nat :=
  match f.node, f.kind with
  | some i, _ => some (i / 65536)
  | none, .symbol c | none, .announcement c => some (rd (F.DISSEM.C_CFG_PAN c) s)
  | none, _ => none

/-- The sequence number of a frame: its own, or the slot's next data sequence number, assigned on the first attempt and
kept on later ones (R242). -/
def assignSeq (id : Nat) (f : Frame) (s : State) : Nat × State :=
  match f.seq, f.pan s with
  | some q, _ => (q, s)
  | none, some p =>
    let q := (rd (F.MAC.PAN_DSN p) s + 1) % 256
    (q, modFrame id (fun f => { f with seq := some q }) (wr (F.MAC.PAN_DSN p) q s))
  | none, none => (0, s)

/-- The power that a scheduled frame asks for (R126). -/
def askedPower (f : Frame) (s : State) : Int :=
  if f.power = -128 then rdInt (F.SCHED.CFG_DEFAULT_POWER f.fe) s else f.power

/-- A committed frame enters RX_TX on `p` under entry `e`. -/
def startScheduled (id p e : Nat) (f : Frame) (counter engine : Option Nat) (s : State) : State :=
  let (q, s) := assignSeq id f s
  let f := { f with seq := some q }
  let s := if f.ackReq && f.timed then closeWait f.fe s else s
  let t : Tx :=
    { what := .scheduled id, logical := f.fe, mode := f.modeNow s, hz := f.hzNow s, airNs := f.airNs s, entry := e
      ackReq := f.ackReq, seq := q, secured := counter.map (fun c => (f.slot, c)), engine, coded := f.coded s
      ext := f.extSync s, cfg := txCfg p f.fe (f.modeNow s) f.extra s
      nonce := match counter with
        | some c => ccmNonce (ownEui s) c f.level
        | none => []
      key := if counter.isSome then (slot f.slot s).key else []
      front := (frameParts f q (counter.getD 0) false false s).1, meshIe := (frameParts f q (counter.getD 0) false false s).2.1
      back := (frameParts f q (counter.getD 0) false false s).2.2 }
  let plan := match f.place with
    | .committed q _ => q
    | _ => s.now
  let s := setFrame id { f with place := .air, airFe := f.fe, attempts := f.attempts + 1, entered := f.entered, plan := plan } s
  enterRxTx p t (startPower p e (askedPower f s) (inc (F.SCHED.SENT f.fe f.queue) s))

/-- A committed frame that cannot start ends with `d`; that of an appointment stays pending, and the appointment is skipped
(R246). -/
def cannotStart (id : Nat) (d : Disp) (s : State) : State :=
  match frame? id s with
  | none => s
  | some f =>
    match f.appt, f.node with
    | true, some i => skipAppointment i id s
    | _, _ => endFrame id d s

/-- A committed frame whose key or context refuses it ends with `d` (R248 to R250, R398); its appointment is skipped (R246). -/
def refusedStart (id : Nat) (d : Disp) (s : State) : State :=
  match frame? id s with
  | none => s
  | some f =>
    match f.appt, f.node with
    | true, some i => endFrame id d (markSkipped i s)
    | _, _ => endFrame id d s

/-- Whether front end `p` starts no scheduled transmission (R106, R109, R115): its page is not in RUN, it drains for a retune, or an
unrelieved calibration waits for its lanes. -/
def startBarred (p : Nat) (s : State) : Bool :=
  pageState (fePage p) s != RUN || isSet (F.FE.RF_STATE_RETUNE_PENDING p) s || !(fe p s).waiting.isEmpty

/-- How far past its planned entry to RX_TX a committed frame is, in nanoseconds: its slip if it entered now (R336). -/
def Frame.slipNs (f : Frame) (s : State) : Nat :=
  match f.place with
  | .committed q _ => s.now - q
  | _ => 0

/-- What the key of a frame would end it with at its transmission, without a use of it (R242, R250, R374). -/
def keyRefuses (f : Frame) (s : State) : Option Disp :=
  if !f.secure then none
  else if !slotUsable f.slot LANE_CRYPTO FRAME_ENC s then some .dropKeyUnknown
  else if !ancestorsHold 3 (slot f.slot s) s ∨ (slot f.slot s).gen ≠ f.gen then some .dropKeyRevoked
  else none

/-- A committed frame cannot start for a reason of the transmit stage: a key that refuses it in the same cycle is of an earlier
stage, and its code is the frame's (R14). -/
def stageFirst (id : Nat) (f : Frame) (later : State → State) (s : State) : State :=
  match keyRefuses f s with
  | some d => refusedStart id d s
  | none => later s

/-- The committed frame of scheduler `n` at its planned moment or when what held it ends (R132, R333, R336, R337); an untimed
frame does not enter RX_TX while an acknowledgement is awaited (R244), and one whose slip would exceed its tolerance does not
either: it ends when its planned first symbol and the tolerance have passed (R338). -/
def enterRxTxFrame (n : Nat) (s : State) : State :=
  match committedFrame n s with
  | none => s
  | some (id, f) =>
    match txServer n s with
    | none => heldBy id .other s
    | some p =>
      if !readyToSend p n s then
        if sending p s ∨ rf p s = RF_TX_RX then
          let s := if f.answered then s else
            modFrame id (fun f => { f with answered := true }) (inc (F.SCHED.ANSWER_WAITS n) s)
          heldBy id .answer s
        else heldBy id (if rf p s = RF_SYNTH_CAL ∨ rf p s = RF_SETTLE then .synth else .other) s
      else if f.slipTol * 1000 < f.slipNs s then
        if f.slipTol * 1000 + 96000 ≤ f.slipNs s then stageFirst id f (slipExpiry id) s else s
      else if startBarred p s then heldBy id .other s
      else if !f.timed && ackAwaited n s then heldBy id .other s
      else if refclkFault s ∨ tempTrip s ∨ pageState 0x18 s ≠ RUN ∨ !mayTransmit s ∨ !started s then heldBy id .other s
      else if coexOn p s && !(fe p s).gnt then
        if rd (F.COEX.GNT_TIMEOUT p) s = 0 then
          stageFirst id f (fun s => cannotStart id .txAbandonCoex (latch 0x0D 0 (inc (F.COEX.TIMEOUTS p) (lowerReq p s)))) s
        else heldBy id .coex s
      else
        match permittingEntry (f.hzNow s) (fe p s).band s with
        | none => stageFirst id f (fun s => cannotStart id .txAbandonReg (regCeiling s)) s
        | some e =>
          if !inSpan (fe p s) (f.hzNow s) (entryField e 12 2 s * 1000) ∨ !modeInBand (f.modeNow s) (fe p s).band then
            stageFirst id f (fun s => cannotStart id .txAbandonReg (regCeiling s)) s
          else
            let lbt := if entryFlag e 1 s then lbtClear n e (f.hzNow s) s else some true
            match lbt with
            | none => heldBy id .other s
            | some false =>
              let s := latch 0x0C 2 (inc F.REGLOCK.LBT_BUSY (inc (F.SCHED.LBT_DEFERRALS n) s))
              if f.timed then heldBy id .lbt s
              else
                let s := withdraw id s
                let lo := rd (F.SCHED.LBT_BACKOFF_MIN n) s
                let hi := rd (F.SCHED.LBT_BACKOFF_MAX n) s
                let (k, s) := draw s
                let us := lo + Config.entropy k % (hi - lo + 1)
                modSched n (fun x => { x with backoff := insert x.backoff f.queue (s.now + us * 1000) }) s
            | some true =>
              if !powerAllowed p e s then
                stageFirst id f (fun s => cannotStart id .txAbandonReg (refusePower p e (askedPower f s) s)) s
              else
                match takeKey f s with
                | (.refused d, s) => refusedStart id d s
                | (.wait, s) => heldBy id .counter s
                | (.ready c, s) =>
                  if !f.secure then startScheduled id p e f none none s
                  else
                    match takeEngine s with
                    | (.refused d, s) => refusedStart id d s
                    | (.on x, s) => startScheduled id p e f (some c) (some x) s

/-- A busy timed frame is tested again at an energy update (R333). -/
def lbtRetest (n : Nat) (s : State) : State :=
  match committedFrame n s with
  | some (_, f) =>
    match f.place with
    | .committed _ .lbt => enterRxTxFrame n s
    | _ => s
  | none => s

/-- The 96 µs have passed (R110): TX, with the first symbol; a frame's slip is recorded, in whole microseconds rounded down (R338;
the rounding is a DESIGN CHOICE, log entry 29). -/
def rxTxElapsed (p : Nat) (s : State) : State :=
  match (fe p s).tx with
  | none => s
  | some t =>
    if rf p s ≠ RF_RX_TX then s
    else
      let ie := if t.meshIe then meshIeOctets (ownMeshIe (headNs t.mode t.cfg.preamble t.ext) s) s else []
      let s := modFe p (fun f => { f with tx := some { t with firstAt := some s.now, octets := sealPsdu t.key t.nonce (t.front ++ ie) t.back } }) s
      let s := setRf p RF_TX s
      match t.what with
      | .ack _ _ _ => inc F.MAC.ACKS_SENT s
      | .pollAnswer _ => s
      | .scheduled id =>
        match frame? id s with
        | none => s
        | some f =>
          let ns := s.now - (f.plan + 96000)
          let slip := ns / 1000
          if ns = 0 then s
          else
            let n := t.logical
            peak (F.SCHED.SLIP_MAX n) (min slip 65535) (wr (F.SCHED.SLIP_LAST n) (min slip 65535) (inc (F.SCHED.SLIPPED n) s))

/-- What follows a frame's last symbol: an acknowledgement wait, or OK_TRANSMITTED (R244, R13). -/
def frameSent (id : Nat) (t : Tx) (s : State) : State :=
  match frame? id s with
  | none => s
  | some f =>
    let s := match f.kind with
      | .beacon _ => inc F.BEACON.SENT s
      | _ => s
    let s := if f.group.isSome then inc F.FRAG.FRAGMENTS_SENT s else s
    if t.ackReq then setFrame id { f with place := .ackWait, airFe := t.logical, sentAt := s.now } s
    else endFrame id .okTransmitted s

/-- The last symbol (R110): TX_RX, the airtime charged, and the frame's disposition or wait. -/
def txLastSymbol (p : Nat) (s : State) : State :=
  match (fe p s).tx with
  | none => s
  | some t =>
    if rf p s ≠ RF_TX then s
    else
      let s := advanceSeed p t (freeEngine t.engine (chargeTx t t.airNs s))
      let s := setRf p RF_TX_RX (reqFalls p (modFe p (fun f => { f with tx := none, fetch := none }) s))
      match t.what with
      | .scheduled id | .pollAnswer id => frameSent id t s
      | .ack _ _ _ => s

/-- The end of TX_RX (R110): RX, or STANDBY under listen-through and where the page has stopped, or what a lock loss or a change
of role has left to do; a retune or an unrelieved calibration goes on. -/
def txRxElapsed (p : Nat) (s : State) : State :=
  if rf p s ≠ RF_TX_RX then s
  else
    let next := (fe p s).after
    let s := modFe p (fun f => { f with after := none }) s
    if pageState (fePage p) s = STOPPED ∨ pageState (fePage p) s = FAULT then setRf p RF_STANDBY s
    else if next = some RF_SYNTH_CAL then (if (fe p s).todo.isEmpty then relock p s else nextCal p s)
    else unrelievedStep p (retuneStep p (setRf p (restState p s) s))

/-- DWELL stop (R139): the frame ends as TX_ABANDON_REG. -/
def dwellStop (p : Nat) (s : State) : State := if rf p s = RF_TX then cutTx p .txAbandonReg s else s

/-- A modulator fault (R216). -/
def txModFault (p : Nat) (parity : Bool) (s : State) : State :=
  match (fe p s).tx with
  | none => s
  | some t =>
    let s := wr F.PHY.TX_FAULT_LAST_FE p (wr F.PHY.TX_FAULT_LAST_CAUSE (if parity then 2 else 1) s)
    let s := wr F.PHY.TX_FAULT_LAST_MODE t.mode s
    cutTx p .dropParity (latch 0x18 0 (inc F.PHY.TX_FAULTS s))

/-! ### Coexistence (R132 to R134) -/

/-- The filtered rise of GNT: a frame that waits for it enters RX_TX. -/
def coexGrant (p : Nat) (s : State) : State :=
  let s := modFe p (fun f => { f with gnt := true }) s
  match committedFrame (logicalOf p s) s with
  | some (_, f) =>
    match f.place with
    | .committed plan _ => if plan ≤ s.now then enterRxTxFrame (logicalOf p s) s else s
    | _ => s
  | none => s

/-- GNT has not risen in time (R132). -/
def coexTimeout (p : Nat) (s : State) : State :=
  match committedFrame (logicalOf p s) s with
  | some (id, _) =>
    if (fe p s).gnt ∨ !reqUp p s then s
    else cannotStart id .txAbandonCoex (latch 0x0D 0 (inc (F.COEX.TIMEOUTS p) (lowerReq p s)))
  | none => s

/-- GNT falls: in RX_TX or TX the transmission is cut (R134). -/
def coexWithdrawn (p : Nat) (s : State) : State :=
  let s := modFe p (fun f => { f with gnt := false }) s
  if coexOn p s && sending p s then
    cutTx p .txAbandonCoex (latch 0x0D 1 (inc (F.COEX.WITHDRAWN p) s))
  else s

/-- Whether the level at the ball of GNT is a grant, by the configured polarity (R135, R144). -/
def grants (p : Nat) (level : Bool) (s : State) : Bool := level != isSet (F.COEX.CFG_GNT_POL p) s

/-- The grant sampled at the PA_EN rise of an answer (R133): without it nothing is sent; a poll answer stays pending. -/
def answerGrant (p : Nat) (level : Bool) (s : State) : State :=
  match (fe p s).tx with
  | none => s
  | some t =>
    if grants p level s ∨ !coexOn p s ∨ rf p s ≠ RF_RX_TX then s
    else
      match t.what with
      | .scheduled _ => s
      | .ack _ _ _ =>
        let s := paFalls p (modFe p (fun f => { f with tx := none, fetch := none }) s)
        let s := dwellSettle t.logical t.what.dwellKey false s
        setRf p RF_TX_RX (inc (F.COEX.ZERO_TOL_DENIED p) s)
      | .pollAnswer id =>
        let s := paFalls p (modFe p (fun f => { f with tx := none, fetch := none }) s)
        let s := dwellSettle t.logical t.what.dwellKey false (freeEngine t.engine s)
        backToPending id (setRf p RF_TX_RX (inc (F.COEX.ZERO_TOL_DENIED p) s))

/-! ### Profile banks (R140, R141) -/

/-- The octets of PROG_STAGE. -/
def stagedImage (s : State) : List Nat :=
  (List.range 196).flatMap (fun k => octetsOf 4 (rd (F.REGLOCK.PROG_STAGE k) s))

/-- The active profile is read from the highest-numbered programmed bank (R140). -/
def loadProfile (s : State) : State :=
  let top := (List.range 4).reverse.find? (fun b => (find s.banks b).isSome)
  let s := wr F.REGLOCK.STATUS_PROGRAMMED (((List.range 4).filter (fun b => (find s.banks b).isSome)).foldl
    (fun m b => m + 2 ^ b) 0) s
  let s := wrBool F.REGLOCK.STATUS_BLANK top.isNone s
  let img := match top with
    | some b => (look s.banks b []).map BitVec.toNat
    | none => []
  let good := imageValid img
  let s := (List.range 196).foldl (fun s k => wr (F.REGLOCK.PROFILE k) (if good then imageField img (4 * k) 4 else 0) s) s
  let s := wrBool F.REGLOCK.STATUS_VALID good s
  let s := wr F.REGLOCK.STATUS_BANK (if good then top.getD 0 else 0) s
  let s := wr F.REGLOCK.REGION (if good then imageField img 6 2 else 0) s
  let s := wr F.REGLOCK.SEQUENCE (if good then imageField img 8 4 else 0) s
  let s := if top.isSome ∧ ¬ good then latch 0x0C 1 s else s
  (List.range 16).foldl (fun s e => showDuty e s) s

/-- A write of PROG_COMMIT (R141): the staged image is checked, and the next bank begins to blow with that image. -/
def progCommit (s : State) : State :=
  let lc := rd F.KEYS.LC_STATE s
  if !(lc == 1 || lc == 2) || rd F.REGLOCK.STATUS_PROGRAMMED s == 15 then reject 0x0C 0x058 .bar0 .state 1 s
  else if rd F.REGLOCK.STATUS_PROG_STATE s = 1 then reject 0x0C 0x058 .bar0 .action 1 s
  else if imageValid (stagedImage s) then
    wr F.REGLOCK.STATUS_PROG_STATE 1 { s with boot := { s.boot with blowing := (stagedImage s).map (BitVec.ofNat 8) } }
  else wr F.REGLOCK.STATUS_PROG_STATE 3 s

/-- The bank has been blown, or has failed (R141); it becomes active at the next start. -/
def progDone (ok : Bool) (s : State) : State :=
  if rd F.REGLOCK.STATUS_PROG_STATE s ≠ 1 then s
  else
    match (List.range 4).find? (fun b => (find s.banks b).isNone) with
    | none => s
    | some b =>
      let img := if ok then s.boot.blowing else []
      let s := { s with banks := insert s.banks b img, boot := { s.boot with blowing := [] } }
      let s := orBits F.REGLOCK.STATUS_PROGRAMMED (2 ^ b) (wr F.REGLOCK.STATUS_BLANK 0 s)
      wr F.REGLOCK.STATUS_PROG_STATE (if ok then 2 else 4) s

/-! ### Page events of a front end (R109) -/

/-- The operating state of a front end whose page leaves service is `v`; out of a transmission that has been cut it gets there
through TX_RX (R109, R110). -/
def restAs (p v : Nat) (s : State) : State := if v = RF_STANDBY ∧ rf p s = RF_TX_RX then s else setRf p v s

/-- A relief that front end `p` takes part in ends with its page's service: FE3's part breaks it, and FE3 leaves off acting for a
front end that stops, with the frames it holds for it (R109, R119). -/
def reliefStopped (p : Nat) (s : State) : State :=
  match s.relief with
  | some r =>
    if p = 3 then reliefBroken r (dropRelief s)
    else if r.k = p then freeFe3 (endLanes (fun l => l.physical == 3) .dropDisabled (cutTx 3 .dropDisabled s))
    else s
  | none => s

/-- What a front end whose page has stopped leaves off: its calibrations, requests and needs, a retune, a relief (R109, R115,
R119), and its operating state is `v`. -/
def feStops (p v : Nat) (s : State) : State := refreshListen (restAs p v (reliefStopped p (dropNeeds p T_ABORTED s)))

/-- FORCE_STOP of an FEn page in RUN or DRAINING (R109): lanes and a transmission end as DROP_DISABLED, those of FE3 while it
acts for this front end among them. -/
def feForceStop (p : Nat) (s : State) : State :=
  let s := cutTx p .dropDisabled s
  let s := endLanes (fun l => l.physical == p) .dropDisabled s
  feStops p RF_STANDBY (holdCommitted (logicalOf p s) s)

end Sys2Proof.Machine
end

