-- ==== Sys2Proof/Machine/Forward.lean ====
section
/-! DEFINITION. The forwarding engine (R299 to R321): prefixes, delivery classes, uplink and downlink, header
compression lengths, fragmentation and reassembly, with the policers (R346 to R348). -/

namespace Sys2Proof.Machine

/-! ### Prefixes (R299, R300) -/

/-- Prefix table entry `e` as 64 bits; none while not in use. -/
def prefixEntry (e : Nat) (s : State) : Option Nat :=
  if e < 4 then
    if isSet (F.FWD.SLOT_PREFIX_EN e) s then some (rd (F.FWD.SLOT_PREFIX_HI e) s * 2 ^ 32 + rd (F.FWD.SLOT_PREFIX_LO e) s) else none
  else if isSet (F.FWD.ALIAS_ENABLE (e - 4)) s then
    some (rd (F.FWD.ALIAS_PREFIX_HI (e - 4)) s * 2 ^ 32 + rd (F.FWD.ALIAS_PREFIX_LO (e - 4)) s)
  else none

/-- The slot that entry `e` serves. -/
def entrySlot (e : Nat) (s : State) : Nat := if e < 4 then e else rd (F.FWD.ALIAS_SLOT (e - 4)) s

/-- The entry in use that an address's /64 matches. -/
def prefixOf (a : Nat) (s : State) : Option Nat := (List.range 16).find? (fun e => prefixEntry e s == some (a / 2 ^ 64))

/-- Whether an address is one of the controller's own in slot `p` (R300). -/
def ownAddress (p a : Nat) (s : State) : Bool :=
  let iid := a % 2 ^ 64
  (iid == shortIid 0 || iid == ownEui s ^^^ 2 ^ 57) &&
    (a / 2 ^ 64 == 0xfe80 * 2 ^ 48 ||
      (List.range 16).any (fun e => entrySlot e s == p && prefixEntry e s == some (a / 2 ^ 64)))

/-- A multicast destination. -/
def isMulticast (a : Nat) : Bool := a / 2 ^ 120 == 0xFF

/-- A link-local destination, fe80::/10. -/
def isLinkLocal (a : Nat) : Bool := a / 2 ^ 118 == 0x3FA

/-- Octets of an IPv6 packet. -/
def packetLen (i : Ipv6) : Nat := 40 + i.payload

/-! ### Policers (R346 to R348) -/

/-- The colours of R347. -/
inductive Colour where
  | green | yellow | red
deriving DecidableEq, Repr

/-- The class of a packet (R346, R352). -/
def dscpClass (i : Ipv6) (s : State) : Nat :=
  let d := i.trafficClass / 4
  rd (F.POLICE.DSCP_MAP (d / 10)) s / 8 ^ (d % 10) % 8

/-- The fields of policer `m`: CLASS[m], or UP[m - 8]. -/
def meterField (cls up : Nat → Field) (m : Nat) : Field := if m < 8 then cls m else up (m - 8)

/-- A policer's buckets become full; what the page shows of them stays (R82). -/
def resetMeter (m : Nat) (s : State) : State :=
  let tc := rd (meterField F.POLICE.CLASS_CBS F.POLICE.UP_CBS m) s * 1024
  let tp := rd (meterField F.POLICE.CLASS_PBS F.POLICE.UP_PBS m) s * 1024
  { s with meters := insert s.meters m { tc, tp, last := s.now } }

/-- A policer's buckets filled: ENABLE goes from 0 to 1 (R347). -/
def fillMeter (m : Nat) (s : State) : State :=
  resetMeter m
    (wr (meterField F.POLICE.CLASS_LEVEL_C F.POLICE.UP_LEVEL_C m) (rd (meterField F.POLICE.CLASS_CBS F.POLICE.UP_CBS m) s)
      (wr (meterField F.POLICE.CLASS_LEVEL_P F.POLICE.UP_LEVEL_P m) (rd (meterField F.POLICE.CLASS_PBS F.POLICE.UP_PBS m) s) s))

/-- A policer judges a packet of `b` octets (R347, R349). -/
def police (m b : Nat) (s : State) : Colour × State :=
  if pageState 0x28 s ≠ RUN then (.green, s)
  else if !isSet (meterField F.POLICE.CLASS_ENABLE F.POLICE.UP_ENABLE m) s then
    (.green, inc (meterField F.POLICE.CLASS_GREEN F.POLICE.UP_GREEN m) s)
  else
    let g := look s.meters m {}
    let dt := s.now - g.last
    let grow := fun (rate burst v : Nat) => min (burst * 1024) (v + rate * dt * 1024 / 1000000000)
    let tc := grow (rd (meterField F.POLICE.CLASS_CIR F.POLICE.UP_CIR m) s)
      (rd (meterField F.POLICE.CLASS_CBS F.POLICE.UP_CBS m) s) g.tc
    let tp := grow (rd (meterField F.POLICE.CLASS_PIR F.POLICE.UP_PIR m) s)
      (rd (meterField F.POLICE.CLASS_PBS F.POLICE.UP_PBS m) s) g.tp
    let colour : Colour := if tp < b * 1024 then .red else if tc < b * 1024 then .yellow else .green
    let tc := if colour = .green then tc - b * 1024 else tc
    let tp := if colour = .red then tp else tp - b * 1024
    let s := { s with meters := insert s.meters m { tc, tp, last := s.now } }
    let s := wr (meterField F.POLICE.CLASS_LEVEL_C F.POLICE.UP_LEVEL_C m) (tc / 1024) s
    let s := wr (meterField F.POLICE.CLASS_LEVEL_P F.POLICE.UP_LEVEL_P m) (tp / 1024) s
    match colour with
    | .green => (.green, inc (meterField F.POLICE.CLASS_GREEN F.POLICE.UP_GREEN m) s)
    | .yellow => (.yellow, inc (meterField F.POLICE.CLASS_YELLOW F.POLICE.UP_YELLOW m) s)
    | .red => (.red, latch 0x28 0 (inc (meterField F.POLICE.CLASS_RED F.POLICE.UP_RED m) s))

/-- The weighted queue of a class by colour, as a queue number (R348). -/
def classQueue (c : Nat) (col : Colour) (s : State) : Nat :=
  let q := rd (F.POLICE.CLASS_QUEUE c) s
  4 + (if col = .yellow then min 11 (q + 1) else q)

/-! ### Ends of a packet -/

/-- A packet reaches its disposition in the engine; a host slot returns with its code (R496). -/
def endPacket (p : Packet) (d : Disp) (s : State) : State :=
  let s := rxStat p.source d (closeAll (p.id :: p.also) d s)
  match p.host with
  | some (r, i) => returnSlot r i S_DONE d.code s
  | none => s

/-- A packet has left the engine for a queue, the pending store or a class (R496). -/
def packetQueued (p : Packet) (s : State) : State :=
  match p.host with
  | some (r, i) => returnSlot r i S_QUEUED 0 s
  | none => s

/-- Delivery of an item to a class (R301); in bivouac and, without STANDBY_RINGS, on a muted member it ends instead
(R615, R577). -/
def deliver (c : Nat) (x : Item) (s : State) : State :=
  if inBivouac s ∨ (roleMuted s ∧ !isSet F.ROPE.CFG_STANDBY_RINGS s) then endItem x .dropDisabled s
  else
    let s := inc F.FWD.UP_RING s
    let s := if c = 6 then inc F.FWD.BIG s else if c = 4 then inc F.FWD.UNPARSED s else s
    deliverItem { x with cls := c } s

/-- Delivery of a packet to a class, as an IPv6 packet, or whole where it came as an Ethernet frame to ETH_OTHER. -/
def deliverPacket (c : Nat) (p : Packet) (s : State) : State :=
  let whole : Bool := c == 7 && p.item.form == 2
  let x := { p.item with
    frames := p.id :: p.also
    octets := if whole then p.item.octets else packetLen p.ip
    data := if whole then p.item.data else some (ipv6Octets p.ip)
    form := if whole then 2 else 1 }
  packetQueued p (deliver c x s)

/-- RPL or the other class (R302). -/
def deliverTo (c : Nat) (p : Packet) (s : State) : State := deliverPacket (if isRpl p.ip then 1 else c) p s

/-! ### The hop limit (R304) -/

/-- The hop limit rule: none when the packet ends here. -/
def hopRule (p : Packet) (s : State) : Option Packet × State :=
  if p.hop then (some p, s)
  else if p.host.isSome then
    (if p.ip.hopLimit = 0 then (none, endPacket p .dropHopLimit (latch 0x21 1 (inc F.FWD.HOP_LIMIT s)))
     else (some { p with hop := true }, s))
  else if p.ip.hopLimit ≤ 1 then (none, endPacket p .dropHopLimit (latch 0x21 1 (inc F.FWD.HOP_LIMIT s)))
  else (some { p with hop := true, ip := { p.ip with hopLimit := p.ip.hopLimit - 1 } }, s)

/-! ### Compression against the prefix table (R306, R307) -/

/-- The compressed header of a packet of slot `p` for the node of entry `e`. -/
def compressed (p : Nat) (e : Node) (i : Ipv6) (s : State) : List Byte :=
  packHeader (fun x => prefixEntry x s) p (if isSet (F.FWD.SLOT_RPI_EN p) s then some (rd (F.FWD.SLOT_RPI_INSTANCE p) s) else none)
    e.hops e.path i

/-! ### Downlink (R310 to R313) -/

/-- A downlink frame enters the pending store or its queue, unless it has ended with its datagram (R313); VALID is checked again
(R310). -/
def enterDown (id : Nat) (pend : Bool) (s : State) : State :=
  match frame? id s with
  | none => s
  | some f =>
    if f.over then s
    else if !(match f.node with | some i => (nodeSeen i s).valid | none => true) then endFrame id .dropNoPath s
    else if pend then storePending id s
    else
      let s := enqueue id s
      if (frame? id s).any Frame.over then s else inc F.FWD.DOWN_QUEUED s

/-- The payload carried in each fragment of a datagram (R313), FRAG1 first, as the place where it begins and its length; `a` octets of
space, `c` of compressed header that stand for `h`, and `total` octets of payload. -/
def fragmentData (a c h total : Nat) : List (Nat × Nat) :=
  let p1 := (h + (a - 4 - c)) / 8 * 8 - h
  let p := (a - 5) / 8 * 8
  let rest := total - p1
  (0, p1) :: (if p = 0 then [] else (List.range ((rest + p - 1) / p)).map (fun k => (p1 + k * p, min p (rest - k * p))))

/-- Whether a frame does not fit one PSDU of its mode (R310); mode 0 never fragments. -/
def needsFragments (f : Frame) (s : State) : Bool :=
  let m := rd (F.FWD.DOWN_MODE f.fe) s
  m != 0 && decide (maxPsdu m < f.psdu m s)

/-- What each fragment of a datagram with compressed header `c` carries, with its own header (R313); `a` octets of space. -/
def fragmentTexts (a tag : Nat) (c : List Byte) (i : Ipv6) : List (List Byte) :=
  let h := plainHeader i
  let size := packetLen i
  let rest := (ipv6Body i).drop (h - 40)
  (fragmentData a c.length h (size - h)).zipIdx.map (fun y =>
    (if y.2 = 0 then frag1Header size tag ++ c else fragNHeader size tag (h + y.1.1)) ++ (rest.drop y.1.1).take y.1.2)

/-- A datagram with compressed header `c` is fragmented (R313): every fragment a frame of its own, entered together and in order. Until it
enters a fragment is in the engine, in no queue and no list. -/
def fragmentDown (p : Packet) (f : Frame) (ovh : Nat) (c : List Byte) (pend : Bool) (s : State) : State :=
  let parts := fragmentTexts (127 - ovh - micLen f.level - 2) (rd F.FRAG.TAG s) c p.ip
  let s := inc F.FRAG.DATAGRAMS_SENT (inc F.FRAG.TAG s)
  let (s, ids) := (List.range parts.length).foldl (fun (x : State × List Nat) k =>
    let (id, s) := newFrame x.1
    let text := parts.getD k []
    let len := ovh + text.length
    (setFrame id { f with length := len, mem := len, payload := text, group := some p.id, also := p.id :: p.also } s, x.2 ++ [id]))
    (s, [])
  ids.foldl (fun s id => enterDown id pend s) s

/-- The queue or store has taken a packet, or has ended it at entry: a host slot returns accordingly (R496). -/
def afterEntry (p : Packet) (s : State) : State :=
  match p.host with
  | none => s
  | some (r, i) =>
    match s.ledger.find? (fun x => x.1 == p.id) with
    | some x => returnSlot r i S_DONE x.2.code s
    | none => returnSlot r i S_QUEUED 0 s

/-- The key slot of a downlink frame to first hop entry `h` in slot `p`, and the header's length (R310, R248). -/
def downKey (p : Nat) (h : Node) (s : State) : Nat × Nat :=
  if h.keyRef = 0xFFFF then (rd (F.MAC.PAN_TX_GROUP_SLOT p) s, 6) else (h.keyRef, 5)

/-- The frame of a packet for node `n` in slot `p`, from its entry and its first hop's (R310, R344). -/
def buildDown (p : Packet) (sl n : Nat) (s : State) : State :=
  let e := node n s
  let fh := sl * 65536 + e.firstHop
  let k := downKey sl (node fh s) s
  let c := compressed sl e p.ip s
  let ovh := 9 + k.2
  let text := c ++ (ipv6Body p.ip).drop (plainHeader p.ip - 40)
  let len := ovh + text.length
  let f : Frame :=
    { kind := .data, place := .engine, node := some n, firstHop := some fh, hops := e.hops, fe := e.fe, airFe := e.fe
      mode := rd (F.FWD.DOWN_MODE e.fe) s, hz := rd (F.FWD.DOWN_CHANNEL_HZ e.fe) s
      queue := p.queue, length := len, secure := true, level := rd (F.FWD.SLOT_LEVEL sl) s, slot := k.1
      gen := if (node fh s).keyRef = 0xFFFF then (slot k.1 s).gen else (node fh s).keyGen
      keyIndex := if (node fh s).keyRef = 0xFFFF then some (rd (F.MAC.PAN_GROUP_INDEX sl) s) else none, payload := text
      slipTol := rd (F.SCHED.CFG_SLIP_DEFAULT e.fe) s, ackReq := true, also := p.also, source := p.source, mem := len }
  let pend : Bool := e.sleepy && e.hops == 1
  let s := if needsFragments f s then fragmentDown p f ovh c pend s
    else enterDown p.id pend (setFrame p.id f s)
  afterEntry p s

/-- Whether a packet that reaches the compression step for node `n` in slot `sl` is too large for it (R307, R310). -/
def treeBig (p : Packet) (sl n : Nat) (s : State) : Bool :=
  let e := nodeSeen n s
  e.valid && !e.blocked && (e.pathValid || e.piton) && e.consistent && (nodeSeen (sl * 65536 + e.firstHop) s).valid &&
    decide (1280 < packetLen p.ip)

/-- The downlink tree from the lookup of node `n` in slot `sl` on (R310, R615). A packet whose path must be read again has passed the
prefix step, and keeps its slot and node (R316). -/
def treeNode (p : Packet) (sl n : Nat) (s : State) : State :=
  let e := nodeSeen n s
  let fh := sl * 65536 + e.firstHop
  if treeBig p sl n s then deliverPacket 6 p s
  else
    match hopRule p s with
    | (none, s) => txStat (some n) .dropHopLimit s
    | (some p, s) =>
      if inBivouac s && !(e.valid && e.fe == 0 && e.hops == 1) then txStat (some n) .dropNoPath (endPacket p .dropNoPath s)
      else if !e.valid || e.blocked then txStat (some n) .dropNoPath (endPacket p .dropNoPath s)
      else if !e.pathValid && !e.piton then
        txStat (some n) .dropNoPath (endPacket p .dropNoPath (latch 0x21 0 (inc F.FWD.NO_PATH s)))
      else if !e.consistent then { s with rereads := s.rereads ++ [.packet { p with found := some (sl, n) }] }
      else if !(nodeSeen fh s).valid then txStat (some n) .dropKeyUnknown (endPacket p .dropKeyUnknown s)
      else buildDown p sl n s

/-- The downlink tree (R310). -/
def downlinkTree (p : Packet) (s : State) : State :=
  if roleMuted s then endPacket p .dropDisabled s
  else
    match prefixOf p.ip.dst s with
    | none => if isSet F.FWD.CFG_NOMATCH_TO_RING s then deliverPacket 7 p s else endPacket p .dropNoPath s
    | some x =>
      match iidShort p.ip.dst with
      | none => if isSet F.FWD.CFG_UNRESOLVED_TO_RING s then deliverPacket 7 p s else endPacket p .dropNoPath s
      | some a =>
        if a = 0 then deliverPacket 2 p s
        else if reservedShort a then endPacket p .dropNoPath s
        else treeNode p (entrySlot x s) (entrySlot x s * 65536 + a) s

/-- Whether the downlink tree delivers a packet to a class: then the hop limit rule does not apply to it (R304). -/
def treeDelivers (p : Packet) (s : State) : Bool :=
  match prefixOf p.ip.dst s, iidShort p.ip.dst with
  | none, _ => isSet F.FWD.CFG_NOMATCH_TO_RING s
  | some _, none => isSet F.FWD.CFG_UNRESOLVED_TO_RING s
  | some x, some a => a == 0 || (!reservedShort a && treeBig p (entrySlot x s) (entrySlot x s * 65536 + a) s)

/-- Every waiting reader reads its node again (R271). -/
def pathReread (s : State) : State :=
  s.rereads.foldl (fun s r =>
    match r with
    | .packet p =>
      if roleMuted s then endPacket p .dropDisabled s
      else
        match p.found with
        | some (sl, n) => treeNode p sl n s
        | none => downlinkTree p s
    | _ =>
      let (ok, s) := rereadNode r s
      if ok then s else { s with rereads := s.rereads ++ [r] }) { s with rereads := [] }

/-! ### Uplink (R302, R303) -/

/-- The gateway's MAC address of a slot. -/
def gwMac (p : Nat) (s : State) : Nat := rd (F.FWD.SLOT_GW_MAC_HI p) s * 2 ^ 32 + rd (F.FWD.SLOT_GW_MAC_LO p) s

/-- The Ethernet frame of an uplink packet of slot `p` toward port `n` (R303), its octets up to the FCS. -/
def uplinkFrame (p : Packet) (sl n : Nat) (low : Bool) (s : State) : Egress :=
  let tagged := isSet (F.FWD.SLOT_VLAN_EN sl) s
  let pcp := if low then rd (F.FWD.SLOT_PCP_LOW sl) s else rd (F.FWD.SLOT_PCP sl) s
  let tci := if tagged then pcp * 8192 + rd (F.FWD.SLOT_VID sl) s else 0
  { frames := p.id :: p.also, source := p.source, octets := packetLen p.ip + (if tagged then 18 else 14)
    cast := castOf (gwMac sl s), dst := gwMac sl s, tagged, tci
    content := bytesBe 6 (gwMac sl s) ++ bytesBe 6 (macAddr n s) ++ (if tagged then bytesBe 2 0x8100 ++ bytesBe 2 tci else []) ++
      bytesBe 2 0x86DD ++ ipv6Octets p.ip }

/-- A packet of slot `p` leaves toward Ethernet: sized, its hop limit decremented, policed and queued (R302, R304,
R346); in bivouac toward ETH0 (R615). -/
def uplinkEthernet (p : Packet) (sl : Nat) (s : State) : State :=
  let n := if inBivouac s then 0 else rd (F.FWD.SLOT_TARGET sl) s
  if rd (F.ETH.MAX_FRAME n) s < (uplinkFrame p sl n false s).octets + 4 then deliverPacket 6 p s
  else
    match hopRule p s with
    | (none, s) => s
    | (some p, s) =>
      match police (8 + sl) (packetLen p.ip) s with
      | (.red, s) => endPacket p .dropPoliced s
      | (col, s) =>
        if roleMuted s then endPacket p .dropDisabled s
        else if inBivouac s ∧ (!isSet F.CANARY.BIVOUAC_CFG_ETH0 s ∨ rd F.CANARY.BIVOUAC_STATE s = 3) then
          endPacket p .dropDisabled (inc F.CANARY.GASP_LOST s)
        else
          let x := uplinkFrame p sl n (col == .yellow) s
          let s := if inBivouac s then inc F.CANARY.GASP_FORWARDED s else s
          modPort n (fun q => { q with offers := q.offers ++ [x] }) (inc F.FWD.UP_ETH s)

/-- A packet of slot `p` that has been decompressed (R302). -/
def routeUplink (p : Packet) (sl : Nat) (s : State) : State :=
  if ownAddress sl p.ip.dst s then deliverTo 2 p s
  else if isMulticast p.ip.dst then deliverTo 3 p s
  else if isLinkLocal p.ip.dst then endPacket p .dropNoPath s
  else if (prefixOf p.ip.dst s).isSome then
    if !isSet (F.FWD.SLOT_HAIRPIN sl) s then deliverPacket 5 p s
    else if inBivouac s ∨ roleMuted s then endPacket p .dropDisabled s
    else if p.ip.hopLimit ≤ 1 && !treeDelivers p s then (hopRule p s).2
    else
      match police (8 + sl) (packetLen p.ip) s with
      | (.red, s) => endPacket p .dropPoliced s
      | (col, s) => downlinkTree { p with queue := classQueue (dscpClass p.ip s) col s } (inc F.FWD.HAIRPINS s)
  else if rd (F.FWD.SLOT_TARGET sl) s = 2 ∧ !inBivouac s then deliverPacket 8 p s
  else uplinkEthernet p sl s

/-! ### Decompression (R305, R306) -/

/-- Decompression of an uplink payload in slot `sl`, with the MHR's addresses (R305, R306): none where the form or a context is not
accepted. A 6LoRH's first address is relative to the controller's own in the slot. -/
def decompress (sl : Nat) (src dst : AirAddr) (b : List Byte) (s : State) : Option Ipv6 :=
  unpackPayload (fun e => prefixEntry e s) sl ((prefixEntry sl s).getD (0xfe80 * 2 ^ 48) * 2 ^ 64 + shortIid 0) src dst b

/-! ### Reassembly (R314, R315) -/

/-- IN_USE with its peak and its latch. -/
def countReasm (s : State) : State :=
  let old := rd F.FRAG.IN_USE s
  let v := s.reasm.length
  let h := rd F.FRAG.LEVEL_HIGH s
  let s := peak F.FRAG.IN_USE_PEAK v (wr F.FRAG.IN_USE v s)
  if old < h ∧ h ≤ v then wr F.FRAG.LEVEL_LATCH 1 s else s

/-- A fragment that finds no context (R314). -/
def noContext (x : Item) (s : State) : State :=
  endItem x .dropReasmNoContext (latch 0x22 1 (inc F.FRAG.NO_CONTEXT s))

/-- The lowest free context number. -/
def freeContext (s : State) : Option Nat := (List.range 4096).find? (fun k => (find s.reasm k).isNone)

/-- The context of a datagram. -/
def contextOf (n tag size : Nat) (s : State) : Option (Nat × Reasm) :=
  s.reasm.find? (fun x => x.2.node == n && x.2.tag == tag && x.2.size == size)

/-- Where the buffer of context `k` lies in DDR (R314). -/
def reasmAddr (k : Nat) (s : State) : Nat := rd F.FRAG.BASE_LO s + rd F.FRAG.BASE_HI s * 2 ^ 32 + 1280 * k

/-- A complete datagram is decompressed from its first fragment, which the buffer continues, and follows R302 (R314). -/
def datagramComplete (k : Nat) (c : Reasm) (s : State) : State :=
  let s := countReasm (inc F.FRAG.COMPLETED { s with reasm := erase s.reasm k })
  let item := { c.proto with marks := c.proto.marks ||| 32, octets := c.size }
  if pageState 0x21 s ≠ RUN then endItem { item with frames := c.frames } .dropDisabled s
  else
    match c.first.bind (fun x =>
      decompress (c.node / 65536) c.srcAddr c.dstAddr (x.1 ++ readOctets s.ddr (reasmAddr k s + x.2) (c.size - x.2)) s) with
    | some ip =>
      routeUplink { ip, id := c.frames.headD 0, also := c.frames.tail, item, source := some c.node } (c.node / 65536) s
    | none => deliver 4 { item with frames := c.frames } s

/-- The octets of the datagram that a fragment stands for: those of a FRAG1 as they decompress. Of a FRAG1 that does not decompress they
are its own (DESIGN CHOICE, log entry 28), and the datagram fails when it is complete. -/
def Fragment.plain (x : Fragment) (sl : Nat) (src dst : AirAddr) (s : State) : List Byte :=
  if x.first then
    match decompress sl src dst x.octets s with
    | some ip => ipv6Octets ip
    | none => x.octets
  else x.octets

/-- A received fragment (R314): its octets enter the context's buffer in DDR. -/
def fragmentIn (x : Item) (m : Mhr) (n : Nat) (y : Fragment) (s : State) : State :=
  let st := pageState 0x22 s
  if ¬ (st = RUN ∨ st = DRAINING) then endItem x .dropDisabled s
  else if 1280 < y.size then noContext x (inc F.FRAG.OVERSIZE s)
  else
    let held := contextOf n y.tag y.size s
    if held.isNone ∧ st = DRAINING then endItem x .dropDisabled s
    else if held.isNone ∧ ((freeContext s).isNone ∨
        rd F.FRAG.PER_SOURCE_MAX s ≤ (s.reasm.filter (fun y => y.2.node == n)).length) then noContext x s
    else
      let k := match held with
        | some y => y.1
        | none => (freeContext s).getD 0
      let c := match held with
        | some y => y.2
        | none => { node := n, tag := y.tag, size := y.size, since := s.now, ranges := [], frames := [], srcAddr := m.src, dstAddr := m.dst, proto := x }
      let plain := y.plain (n / 65536) m.src m.dst s
      if y.size < y.offset + plain.length ∨ c.ranges.any (fun r => areasMeet y.offset plain.length r.1 r.2) then
        let s := if held.isNone then countReasm { s with reasm := insert s.reasm k c } else s
        endItem x .dropReasmNoContext (inc F.FRAG.OVERLAPS s)
      else
        let c := { c with
          ranges := (y.offset, plain.length) :: c.ranges, frames := c.frames ++ x.frames
          first := if y.first then some (y.octets, plain.length) else c.first, proto := if y.first then x else c.proto }
        let s := countReasm { s with
          reasm := insert s.reasm k c, ddr := writeOctets s.ddr (reasmAddr k s + y.offset) plain }
        if (c.ranges.map (·.2)).foldl (· + ·) 0 = y.size then datagramComplete k c s else s

/-- The oldest context whose time-out has passed ends (R314). -/
def reasmTimeout (s : State) : State :=
  let due := s.reasm.filter (fun x => decide (x.2.since + rd F.FRAG.TIMEOUT s * 1000000000 ≤ s.now))
  due.foldl (fun s x =>
    let s := countReasm { s with reasm := erase s.reasm x.1 }
    let s := latch 0x22 0 (inc F.FRAG.TIMEOUTS s)
    endItem { x.2.proto with frames := x.2.frames } .dropReasmTimeout s) s

/-- FORCE_STOP of FRAG, and bivouac entry (R321, R614): every fragment held ends. -/
def endReasm (s : State) : State :=
  let c := s.reasm
  c.foldl (fun s x => endItem { x.2.proto with frames := x.2.frames } .dropDisabled s) (countReasm { s with reasm := [] })

/-- The 1 ms check of the pending store (R311), which deep hold suspends (R617). -/
def pendingTimeouts (s : State) : State :=
  if rd F.CANARY.BIVOUAC_STATE s = 3 then s else
  let lim := rd F.FWD.PENDING_TIMEOUT s * 1000000000
  let due := s.frames.filter (fun x => (x.2.place == .pending || x.2.inFlight) && decide (x.2.pendedAt + lim ≤ s.now))
  due.foldl (fun s x =>
    if x.2.inFlight then modFrame x.1 (fun f => { f with expired := true }) s
    else
      endFrame x.1 (if x.2.skipped then .rendezvousSkipped else .txAbandonPendingTimeout)
        (latch 0x21 2 (inc F.FWD.PEND_TIMEOUTS s))) s

/-! ### What passes its verdict (R302) -/

/-- A passing frame of slot `p` with MHR `m`: `mac` marks a MAC command, a join frame or an INSECURE frame, `sun` a SUN mode. -/
def uplink (x : Item) (m : Mhr) (sl : Nat) (mac sun : Bool) (body : Payload) (s : State) : State :=
  if pageState 0x21 s ≠ RUN then endItem x .dropDisabled s
  else if mac then deliver 0 x s
  else
    match body with
    | .command _ => deliver 0 x s
    | .data b =>
      if beginsFragment b then
        if sun then deliver 4 x (inc F.FRAG.SUN_FRAGS s)
        else
          match readFragment b with
          | some y => fragmentIn x m (x.node.getD 0) y s
          | none => deliver 4 x s
      else
        match decompress sl m.src m.dst b s with
        | some ip => routeUplink { ip, id := x.frames.headD 0, also := x.frames.tail, item := x, source := x.node } sl s
        | none => deliver 4 x s

/-! ### Ethernet ingress (R309, R427 to R429) -/

/-- Whether a frame's VLAN, or its absence, matches a slot with TARGET n (R309, R428). -/
def vlanMatches (n : Nat) (f : EthFrame) (s : State) : Bool :=
  let vid := match f.tci with
    | some t => t % 4096
    | none => 0
  (List.range 4).any (fun p =>
    isSet (F.FWD.SLOT_PREFIX_EN p) s && rd (F.FWD.SLOT_TARGET p) s == n &&
      (if isSet (F.FWD.SLOT_VLAN_EN p) s then vid != 0 && vid == rd (F.FWD.SLOT_VID p) s else vid == 0))

/-- A frame not taken into the downlink path (R309). -/
def ethOther (n : Nat) (x : Staged) (s : State) : State :=
  if isSet F.FWD.CFG_ETH_OTHER_TO_RING s then deliver 7 (ethItem n x) s else close x.frame .dropAddr s

/-- The judgement of an IPv6 frame with its packet (R309). -/
def ethIpv6 (n : Nat) (x : Staged) (ip : Ipv6) (s : State) : State :=
  let f := x.eth
  if !vlanMatches n f s then ethOther n x s
  else if f.dst ≠ macAddr n s ∧ f.dst / 2 ^ 40 % 2 = 0 then close x.frame .dropAddr s
  else
    let c := dscpClass ip s
    match police c x.size s with
    | (.red, s) => close x.frame .dropPoliced s
    | (col, s) =>
      let item := { ethItem n x with marks := if col = .yellow then 16 else 0 }
      let p : Packet := { ip, id := x.frame, item, queue := classQueue c col s }
      if isMulticast ip.dst then deliverTo 3 p s
      else if (List.range 4).any (fun sl => ownAddress sl ip.dst s) then deliverTo 2 p s
      else downlinkTree p s

/-- The oldest staged frame is handed on (R427): MAC control, PTP, then the ingress judgement. A frame stays in staging until the engine
can copy it into its place; with no space for it in the packet buffer it waits there (R19, DESIGN CHOICE, log entry 24). -/
def ethHandOn (n : Nat) (s : State) : State :=
  match (port n s).staging with
  | [] => s
  | x :: r =>
    if x.eth.etherType ≠ 0x8808 ∧ !bufferFits x.size s then s
    else
      let s := modPort n (fun p => { p with staging := r }) s
      let room := x.size - 4 - (if x.eth.tci.isSome then 18 else 14)
      if x.eth.etherType = 0x8808 then macControl n x s
      else if ptpTaken n x.eth s then ptpTake n x s
      else if pageState 0x21 s ≠ RUN then close x.frame .dropDisabled s
      else if x.eth.etherType ≠ 0x86DD then ethOther n x s
      else
        match x.eth.ip with
        | none => close x.frame .dropAddr (inc (F.ETH.RX_MALFORMED n) s)
        | some ip =>
          if room < packetLen ip then close x.frame .dropAddr (inc (F.ETH.RX_MALFORMED n) s)
          else ethIpv6 n x ip s

/-- FORCE_STOP of FWD (R319): packets that wait to read a path end. -/
def fwdForceStop (s : State) : State :=
  let r := s.rereads
  r.foldl (fun s x => match x with
    | .packet p => endPacket p .dropDisabled s
    | y => { s with rereads := s.rereads ++ [y] }) { s with rereads := [] }

end Sys2Proof.Machine
end

