-- ==== Sys2Proof/Machine/Dissem.lean ====
section
/-! DEFINITION. Hemal node image dissemination (R557 to R573): commands, windows, symbol and announcement frames, reports
and the end of a campaign. -/

namespace Sys2Proof.Machine

/-- STATUS.STATE codes (R561). -/
def C_IDLE : Nat := 0
/-- R561. -/
def C_PREPARING : Nat := 1
/-- R561. -/
def C_READY : Nat := 2
/-- R561. -/
def C_RUNNING : Nat := 3
/-- R561. -/
def C_ENDED : Nat := 4

/-- END_REASON codes (R568). -/
inductive EndReason where
  | target | budget | stopped | aborted | esiExhausted | ddrError | keyUnusable
deriving DecidableEq, Repr

/-- R568. -/
def EndReason.code : EndReason → Nat
  | .target => 1
  | .budget => 2
  | .stopped => 3
  | .aborted => 4
  | .esiExhausted => 5
  | .ddrError => 6
  | .keyUnusable => 7

/-- A campaign's record. -/
def campaign (c : Nat) (s : State) : Campaign := look s.campaigns c {}

/-- Changes a campaign's record. -/
def modCampaign (c : Nat) (f : Campaign → Campaign) (s : State) : State :=
  { s with campaigns := insert s.campaigns c (f (campaign c s)) }

/-- STATUS.STATE of a campaign. -/
def cState (c : Nat) (s : State) : Nat := rd (F.DISSEM.C_STATUS_STATE c) s

/-- A campaign's source slot in DDR (R557). -/
def sourceSlot (c : Nat) (s : State) : Nat :=
  rd F.DISSEM.SRC_BASE_LO s + rd F.DISSEM.SRC_BASE_HI s * 2 ^ 32 + c * 2 ^ 26

/-- A campaign's progress table (R557). -/
def progressTable (c : Nat) (s : State) : Nat := sourceSlot c s + 0x3F00000

/-- K, the number of source symbols (R558). -/
def sourceSymbols (c : Nat) (s : State) : Nat :=
  (rd (F.DISSEM.C_F c) s + rd (F.DISSEM.C_T c) s - 1) / rd (F.DISSEM.C_T c) s

/-- Moves a campaign to a state; RUNNING follows. -/
def setCState (c v : Nat) (s : State) : State :=
  let s := wr (F.DISSEM.C_STATUS_STATE c) v s
  if v = C_RUNNING then orBits F.DISSEM.RUNNING (2 ^ c) s else clearBits F.DISSEM.RUNNING (2 ^ c) s

/-- NEXT_WIN: the earliest planned window start that has not opened. -/
def showNextWin (c : Nat) (s : State) : State :=
  let ws := ((campaign c s).windows.filter (fun w => !w.isOpen)).map (·.start)
  wr (F.DISSEM.C_NEXT_WIN c) (match ws with
    | [] => 0
    | x :: r => r.foldl min x) s

/-- WINDOW.OPEN of SCHEDn: a window of some campaign is open on `n` (R345, R566). -/
def showWindowOpen (n : Nat) (s : State) : State :=
  wrBool (F.SCHED.WINDOW_OPEN n) (s.campaigns.any (fun x => x.2.windows.any (fun w => w.isOpen && w.fe == n))) s

/-- CMD_STATUS.RESULT codes (R572). -/
def D_DONE : Nat := 1
/-- R572. -/
def D_BAD_STATE : Nat := 2
/-- R572. -/
def D_BAD_PARAM : Nat := 3
/-- R572. -/
def D_DDR_ERROR : Nat := 4
/-- R572. -/
def D_ABORTED : Nat := 5

/-- A command ends. -/
def dissemResult (c r : Nat) (s : State) : State :=
  wr F.DISSEM.CMD_STATUS_BUSY 0 (wr F.DISSEM.CMD_STATUS_CAMPAIGN c (wr F.DISSEM.CMD_STATUS_RESULT r s))

/-- A write to CMD (R561, R573): rejected outside RUN, and while a command runs; STOP and ABORT reach a campaign that is
being set up. -/
def dissemCmd (c op : Nat) (run : State → State) (s : State) : State :=
  let data := BitVec.ofNat 32 (c + op * 256)
  let stops : Bool := (op == 3 || op == 4) && cState c s == C_PREPARING
  if pageState 0x29 s ≠ RUN then reject 0x29 0x04C .bar0 .state data s
  else if isSet F.DISSEM.CMD_STATUS_BUSY s ∧ ¬ stops then reject 0x29 0x04C .bar0 .action data s
  else run s

/-- Whether F, T and MODE keep to R558. -/
def encodable (c : Nat) (s : State) : Bool :=
  let t := rd (F.DISSEM.C_T c) s
  1 ≤ rd (F.DISSEM.C_F c) s && rd (F.DISSEM.C_F c) s ≤ 57756672 && t % 4 == 0 && 4 ≤ t && t ≤ 1024 &&
    sourceSymbols c s ≤ 56403 && (rd (F.DISSEM.C_CFG_MODE c) s != 0x60 || t ≤ 92)

/-- The logical front ends of a campaign. -/
def campaignFes (c : Nat) (s : State) : List Nat :=
  (List.range 4).filter (fun n => (rd (F.DISSEM.C_CFG_FE_MASK c) s).testBit n)

/-- START (R562). -/
def dissemStart (c : Nat) (s : State) : State :=
  dissemCmd c 2 (fun s =>
    if cState c s ≠ C_READY then dissemResult c D_BAD_STATE s
    else if (campaignFes c s).isEmpty ∨ (modeFamily (rd (F.DISSEM.C_CFG_MODE c) s)).isNone ∨
        (campaignFes c s).any (fun n => rd (F.DISSEM.C_CHANNEL_HZ c n) s == 0) ∨
        rd (F.DISSEM.C_PERIOD c) s < rd (F.DISSEM.C_WIN_TICKS c) s + rd (F.DISSEM.C_LEAD c) s then
      dissemResult c D_BAD_PARAM s
    else
      let s := modCampaign c (fun _ => { started := meshTicks s }) s
      let s := wr (F.DISSEM.C_ESI_NEXT c) 0 (wr (F.DISSEM.C_SENT c) 0 (wr (F.DISSEM.C_WINDOWS c) 0 s))
      dissemResult c D_DONE (showNextWin c (setCState c C_RUNNING s))) s

/-! ### Frames -/

/-- The frame of an announcement on front end `n` of the window that starts at `window`, or of none (R566). -/
def announcement (c n : Nat) (window : Option Nat) (s : State) : Frame :=
  let p := rd (F.DISSEM.C_CFG_PAN c) s
  let sl := rd (F.MAC.PAN_TX_GROUP_SLOT p) s
  let ie := announcementIe c n window s
  { kind := .announcement c, fe := n, airFe := n, queue := 3, length := 15 + ie.length + 12, secure := true
    level := rd (F.DISSEM.C_CFG_LEVEL c) s, slot := sl, gen := (slot sl s).gen, slipTol := 10000, mem := 27 + ie.length
    payload := ie }

/-- An announcement is queued in S3 (R566, R568). -/
def queueAnnouncement (c n : Nat) (window : Option Nat) (s : State) : State :=
  let (id, s) := newFrame s
  enqueue id (setFrame id (announcement c n window s) s)

/-- The octets of a symbol frame's payload (R563). -/
def symbolPayload (c esi : Nat) (s : State) : List Byte :=
  let t := rd (F.DISSEM.C_T c) s
  let mem := readOctets s.ddr (sourceSlot c s) 0x3F00000
  [0x25] ++ cidOctets s ++ [0x10] ++ domainOctets s ++
    [BitVec.ofNat 8 c, BitVec.ofNat 8 (rd (F.DISSEM.C_STATUS_EPOCH c) s)] ++ bytesLe 3 esi ++
    Config.encodingSymbol mem (rd (F.DISSEM.C_STATUS_K c) s) t esi

/-- The frame of a symbol on front end `n` (R563, R567). -/
def symbolFrame (c n esi : Nat) (s : State) : Frame :=
  let p := rd (F.DISSEM.C_CFG_PAN c) s
  let sl := rd (F.MAC.PAN_TX_GROUP_SLOT p) s
  let len := 29 + rd (F.DISSEM.C_T c) s
  { kind := .symbol c, fe := n, airFe := n, queue := rd (F.SCHED.WINDOW_QUEUE n) s + 4, length := len
    mode := rd (F.DISSEM.C_CFG_MODE c) s, hz := rd (F.DISSEM.C_CHANNEL_HZ c n) s, secure := true
    level := rd (F.DISSEM.C_CFG_LEVEL c) s, slot := sl, gen := (slot sl s).gen
    slipTol := rd (F.SCHED.CFG_SLIP_DEFAULT n) s, mem := len, payload := symbolPayload c esi s }

/-- Whether a frame is a symbol frame of the campaign that has not ended. -/
def liveSymbol (c : Nat) (f : Frame) : Bool :=
  f.kind == .symbol c && match f.place with
    | .ended _ => false
    | _ => true

/-- Uncommitted symbol frames of a campaign on a front end. -/
def waitingSymbols (c n : Nat) (s : State) : Nat :=
  (s.frames.filter (fun x => x.2.kind == .symbol c && x.2.fe == n && x.2.place == .queued)).length

/-- Live symbol frames of a campaign that have not entered RX_TX, on all front ends. -/
def unsentSymbols (c : Nat) (s : State) : Nat :=
  (s.frames.filter (fun x => liveSymbol c x.2 && x.2.seen ≤ 1)).length

/-- One more symbol frame is queued in an open window, if the limits of R567 allow it. -/
def queueSymbol (c n : Nat) (s : State) : State :=
  let k := campaign c s
  let max := rd (F.DISSEM.C_MAX_SYMBOLS c) s
  match k.windows.find? (fun w => w.isOpen && w.fe == n) with
  | none => s
  | some w =>
    if cState c s ≠ C_RUNNING ∨ 2 ≤ waitingSymbols c n s ∨
        rd (F.DISSEM.C_WIN_SYMBOLS c) s ≤ w.committed + waitingSymbols c n s ∨
        (max ≠ 0 ∧ max ≤ rd (F.DISSEM.C_SENT c) s + unsentSymbols c s) ∨ 2 ^ 24 ≤ k.esi then s
    else
      let f := symbolFrame c n k.esi s
      let s := wr (F.DISSEM.C_ESI_NEXT c) (k.esi + 1) (modCampaign c (fun k => { k with esi := k.esi + 1 }) s)
      let (id, s) := newFrame s
      enqueue id (setFrame id f s)

/-! ### The end of a campaign (R568) -/

/-- The symbol frames of a campaign in the air stop (R568, ABORTED). -/
def cutSymbols (c : Nat) (s : State) : State :=
  (List.range 4).foldl (fun s p =>
    match (fe p s).tx with
    | some t =>
      match t.what with
      | .scheduled id =>
        match frame? id s with
        | some f => if f.kind == .symbol c then cutTx p .dropDisabled s else s
        | none => s
      | _ => s
    | none => s) s

/-- A campaign ends. For BUDGET and ESI_EXHAUSTED its open windows run on to their end. -/
def endCampaign (c : Nat) (why : EndReason) (s : State) : State :=
  let atOnce : Bool := why != .budget && why != .esiExhausted
  let s := wr (F.DISSEM.C_STATUS_END_REASON c) why.code (setCState c C_ENDED s)
  let s := modCampaign c (fun k => { k with
    windows := if atOnce then [] else k.windows.filter (·.isOpen), final := true }) s
  let s := (List.range 4).foldl (fun s n => showWindowOpen n s) (showNextWin c s)
  let s := if !atOnce then s
    else endFrames (fun f => (f.kind == .symbol c || f.kind == .announcement c) && f.place == .queued) .dropDisabled s
  let s := if why ≠ .aborted then s
    else
      let s := endFrames (fun f => f.kind == .symbol c && match f.place with
        | .committed _ _ => true
        | _ => false) .dropDisabled s
      cutSymbols c s
  let s := if why = .target ∨ why = .budget then latch 0x29 0 s
    else if why = .esiExhausted ∨ why = .ddrError ∨ why = .keyUnusable then latch 0x29 2 s
    else s
  (campaignFes c s).foldl (fun s n => queueAnnouncement c n none s) s

/-- STOP and ABORT (R561, R568): a campaign that is being set up returns to IDLE. -/
def dissemEnd (c op : Nat) (why : EndReason) (s : State) : State :=
  dissemCmd c op (fun s =>
    if cState c s = C_PREPARING then dissemResult c D_ABORTED (setCState c C_IDLE s)
    else if cState c s = C_RUNNING then dissemResult c D_DONE (endCampaign c why s)
    else dissemResult c D_BAD_STATE s) s

/-- CLEAR (R570). -/
def dissemClear (c : Nat) (s : State) : State :=
  dissemCmd c 5 (fun s =>
    if cState c s = C_READY ∨ cState c s = C_ENDED then
      dissemResult c D_DONE (modCampaign c (fun k => { k with final := false }) (setCState c C_IDLE s))
    else dissemResult c D_BAD_STATE s) s

/-- EXPORT (R570): the progress table is copied to the window. -/
def dissemExport (c : Nat) (ddrError : Bool) (s : State) : State :=
  dissemCmd c 6 (fun s =>
    if !(cState c s ∈ [C_READY, C_RUNNING, C_ENDED]) then dissemResult c D_BAD_STATE s
    else if ddrError then dissemResult c D_DDR_ERROR s
    else
      dissemResult c D_DONE { s with
        ddr := copyRange s.ddr (progressTable c s) (winAddr (rd F.DISSEM.STAGE_OFFSET s) s) (2 ^ 20) }) s

/-! ### Windows (R566, R567) -/

/-- The number of the next nominal window of a campaign on a front end: the first start after START that has not been
planned. -/
def nextNominal (c n : Nat) (s : State) : Nat :=
  let k := campaign c s
  let p := rd (F.DISSEM.C_PERIOD c) s
  match find k.nominal n with
  | some x => x
  | none => if k.started < rd (F.DISSEM.C_OFFSET c) s then 0 else (k.started - rd (F.DISSEM.C_OFFSET c) s) / p + 1

/-- The end of every window planned on `n` by any campaign. -/
def windowsEnd (n : Nat) (s : State) : Nat :=
  (s.campaigns.flatMap (fun x => (x.2.windows.filter (·.fe == n)).map (fun w =>
    w.start + rd (F.DISSEM.C_WIN_TICKS x.1) s))).foldl max 0

/-- LEAD ticks before its nominal start a window is planned and announced (R566). -/
def windowPlan (c n : Nat) (s : State) : State :=
  if cState c s ≠ C_RUNNING ∨ ¬ n ∈ campaignFes c s then s
  else
    let x := nextNominal c n s
    let w : Window := { fe := n, start := max (x * rd (F.DISSEM.C_PERIOD c) s + rd (F.DISSEM.C_OFFSET c) s) (windowsEnd n s) }
    let s := modCampaign c (fun k => { k with nominal := insert k.nominal n (x + 1), windows := k.windows ++ [w] }) s
    queueAnnouncement c n (some w.start) (showNextWin c s)

/-- Changes the first window of a campaign on `n` that satisfies `p`. -/
def modWindow (p : Window → Bool) (f : Window → Window) : List Window → List Window
  | [] => []
  | w :: r => if p w then f w :: r else w :: modWindow p f r

/-- A planned window opens (R566); a symbol whose source read cannot be corrected ends, and the campaign with it (R568). A window whose whole
span has passed does not open. -/
def windowOpen (c n : Nat) (sourceError : Bool) (s : State) : State :=
  match (campaign c s).windows.find? (fun w => !w.isOpen && w.fe == n) with
  | none => s
  | some w =>
    if cState c s ≠ C_RUNNING then s
    else if w.start + rd (F.DISSEM.C_WIN_TICKS c) s ≤ meshTicks s then
      showNextWin c (modCampaign c (fun k => { k with windows := k.windows.erase w }) s)
    else
      let s := modCampaign c (fun k => { k with
        windows := modWindow (fun w => !w.isOpen && w.fe == n) (fun w => { w with isOpen := true }) k.windows }) s
      let s := incSat (F.DISSEM.C_WINDOWS c) (latch 0x29 1 (showWindowOpen n (showNextWin c s)))
      let t := queueSymbol c n s
      if sourceError ∧ t.nextFrame ≠ s.nextFrame then endCampaign c .ddrError (endFrame s.nextFrame .dropParity t)
      else queueSymbol c n t

/-- A window ends (R567): its uncommitted symbol frames are withdrawn. -/
def windowClose (c n : Nat) (s : State) : State :=
  if (campaign c s).windows.any (fun w => w.isOpen && w.fe == n) then
    let k := waitingSymbols c n s
    let s := endFrames (fun f => f.kind == .symbol c && f.fe == n && f.place == .queued) .txAbandonSlip s
    let s := incBy (F.DISSEM.C_WITHDRAWN c) k s
    showWindowOpen n (modCampaign c (fun x => { x with
      windows := x.windows.filter (fun w => !(w.isOpen && w.fe == n)) }) s)
  else s

/-! ### SETUP (R559) -/

/-- SETUP (R559): PREPARING, and the campaign's EPOCH advances. A window that BUDGET or ESI_EXHAUSTED left open ends here
(DESIGN CHOICE, log 44). -/
def dissemSetup (c : Nat) (s : State) : State :=
  dissemCmd c 1 (fun s =>
    if !(cState c s ∈ [C_IDLE, C_READY, C_ENDED]) then dissemResult c D_BAD_STATE s
    else if !encodable c s then dissemResult c D_BAD_PARAM s
    else
      let s := (List.range 4).foldl (fun s n => windowClose c n s) s
      let s := modCampaign c (fun _ => {}) (setCState c C_PREPARING s)
      let s := wr (F.DISSEM.C_STATUS_EPOCH c) (rd (F.DISSEM.C_STATUS_EPOCH c) s + 1) s
      wr F.DISSEM.CMD_STATUS_BUSY 1 (wr F.DISSEM.CMD_STATUS_CAMPAIGN c (wr F.DISSEM.CMD_STATUS_RESULT 0 s))) s

/-- SETUP ends (R559): the intermediate symbols stand in the source slot, the progress table is zero, READY; an
uncorrectable read leaves the campaign IDLE. -/
def setupDone (ddrError : Bool) (s : State) : State :=
  let c := rd F.DISSEM.CMD_STATUS_CAMPAIGN s
  if !isSet F.DISSEM.CMD_STATUS_BUSY s || cState c s != C_PREPARING then s
  else if ddrError then dissemResult c D_DDR_ERROR (setCState c C_IDLE s)
  else
    let obj := winRead (rd F.DISSEM.STAGE_OFFSET s) (rd (F.DISSEM.C_F c) s) s
    let sym := Config.intermediate obj (rd (F.DISSEM.C_T c) s)
    let s := { s with ddr := zeroRange (writeOctets s.ddr (sourceSlot c s) sym) (progressTable c s) (2 ^ 20) }
    let s := wr (F.DISSEM.C_COMPLETE c) 0 (wr (F.DISSEM.C_FAILED c) 0 (wr (F.DISSEM.C_REPORTED c) 0 s))
    dissemResult c D_DONE (setCState c C_READY (wr (F.DISSEM.C_STATUS_K c) (sourceSymbols c s) s))

/-! ### What follows commitments and ends -/

/-- A symbol frame committed since the last look counts in its window, and the next one is queued; one that has entered
RX_TX counts as sent (R567). -/
def followSymbol (id : Nat) (s : State) : State :=
  match frame? id s with
  | none => s
  | some f =>
    match f.kind with
    | .symbol c =>
      let gone : Bool := match f.place with
        | .committed _ _ | .air => true
        | .ended d => f.attempts != 0 || d == .okTransmitted
        | _ => false
      let air : Bool := f.attempts != 0 && f.place != .queued
      let s := if gone && f.seen == 0 then
          let s := modFrame id (fun f => { f with seen := 1 }) s
          let s := modCampaign c (fun k => { k with
            windows := modWindow (fun w => w.isOpen && w.fe == f.fe) (fun w => { w with committed := w.committed + 1 }) k.windows }) s
          queueSymbol c f.fe s
        else s
      if air && f.seen ≤ 1 then
        inc F.DISSEM.SYMBOLS_SENT (inc (F.DISSEM.C_SENT c) (modFrame id (fun f => { f with seen := 2 }) s))
      else s
    | _ => s

/-- A campaign's frame that has ended for want of its key ends the campaign; then a TARGET that COMPLETE has reached, also where
TARGET came down to it; then BUDGET and ESI_EXHAUSTED, once the last
committed frame has ended (R568). -/
def followCampaign (c : Nat) (s : State) : State :=
  if cState c s ≠ C_RUNNING then s
  else
    let max := rd (F.DISSEM.C_MAX_SYMBOLS c) s
    let keyed := s.frames.any (fun x => (x.2.kind == .symbol c || x.2.kind == .announcement c) &&
      (x.2.place == .ended .dropKeyUnknown || x.2.place == .ended .txCounterExhausted))
    let busy := s.frames.any (fun x => liveSymbol c x.2 && x.2.place != .queued)
    let t := rd (F.DISSEM.C_TARGET c) s
    if keyed then endCampaign c .keyUnusable s
    else if isSet (F.DISSEM.C_CFG_END_AT_TARGET c) s ∧ t ≠ 0 ∧ t ≤ rd (F.DISSEM.C_COMPLETE c) s then endCampaign c .target s
    else if max ≠ 0 ∧ max ≤ rd (F.DISSEM.C_SENT c) s ∧ ¬ busy then endCampaign c .budget s
    else if 2 ^ 24 ≤ (campaign c s).esi ∧ ¬ s.frames.any (fun x => liveSymbol c x.2) then endCampaign c .esiExhausted s
    else s

/-- The whole follow-up, with PROG_DATA of the selected record (R570). -/
def followDissem (s : State) : State :=
  let s := s.frames.foldl (fun s x => followSymbol x.1 s) s
  s.campaigns.foldl (fun s x => followCampaign x.1 s) s

/-- PROG_DATA: the entry that PROG_SEL names (R572). -/
def showProgress (s : State) : State :=
  let a := progressTable (rd F.DISSEM.PROG_SEL_CAMPAIGN s) s + 4 * rd F.DISSEM.PROG_SEL_INDEX s
  wr F.DISSEM.PROG_DATA (leBytes (readOctets s.ddr a 4)) s

/-! ### Reports (R569) -/

/-- Moves a count register by whether a record counted before and counts now. -/
def moveCount (f : Field) (old new : Bool) (s : State) : State := countFlag f old new s

/-- COMPLETE after a write of DONE_STATE: the records of the progress table as they stand (R569). -/
def recountComplete (c : Nat) (s : State) : State :=
  let a := progressTable c s
  wr (F.DISSEM.C_COMPLETE c) (s.ddr.filter (fun x => decide (a ≤ x.1) && decide (x.1 < a + 2 ^ 20) && (x.1 - a) % 4 == 0 &&
    decide (rd (F.DISSEM.C_CFG_DONE_STATE c) s ≤ x.2.toNat % 16) && decide (x.2.toNat % 16 ≤ 14))).length s

/-- A Hemal report of node `n` in slot `p`: true when DISSEM takes it. -/
def hemalReport (p n : Nat) (r : HemalReport) (s : State) : Bool × State :=
  let c := r.campaign
  if pageState 0x29 s = OFF then (false, s)
  else if r.whole ∧ c < 16 ∧ r.domain = rd F.TIME.DOMAIN_ID s ∧ r.router = rd F.TIME.DOMAIN_ROUTER s ∧
      (cState c s = C_READY ∨ cState c s = C_RUNNING ∨ cState c s = C_ENDED) ∧
      r.epoch = rd (F.DISSEM.C_STATUS_EPOCH c) s ∧ r.imageId = rd (F.DISSEM.C_IMAGE_ID c) s ∧
      p = rd (F.DISSEM.C_CFG_PAN c) s then
    let a := progressTable c s + 4 * n
    let old := (readByte s.ddr a).toNat % 16
    let new := r.state % 16
    let done := fun (x : Nat) => decide (rd (F.DISSEM.C_CFG_DONE_STATE c) s ≤ x) && decide (x ≤ 14)
    let s := { s with ddr := writeOctets s.ddr a (bytesLe 1 new ++ bytesLe 3 r.received) }
    let s := moveCount (F.DISSEM.C_REPORTED c) (old != 0) (new != 0) s
    let s := moveCount (F.DISSEM.C_COMPLETE c) (done old) (done new) s
    let s := inc F.DISSEM.REPORTS (moveCount (F.DISSEM.C_FAILED c) (old == 15) (new == 15) s)
    let t := rd (F.DISSEM.C_TARGET c) s
    (true, if isSet (F.DISSEM.C_CFG_END_AT_TARGET c) s && t != 0 && decide (t ≤ rd (F.DISSEM.C_COMPLETE c) s) &&
        cState c s == C_RUNNING then endCampaign c .target s else s)
  else (false, inc F.DISSEM.REPORTS_STALE s)

/-! ### The page (R573) and announcements in beacons (R566) -/

/-- Every RUNNING campaign ends. -/
def endCampaigns (why : EndReason) (s : State) : State :=
  (List.range 16).foldl (fun s c => if cState c s = C_RUNNING then endCampaign c why s else s) s

/-- FORCE_STOP of DISSEM: a running command ends as ABORTED, its campaign returns to IDLE. -/
def dissemForceStop (s : State) : State :=
  let c := rd F.DISSEM.CMD_STATUS_CAMPAIGN s
  let s := if isSet F.DISSEM.CMD_STATUS_BUSY s then
      dissemResult c D_ABORTED (if cState c s = C_PREPARING then setCState c C_IDLE s else s)
    else s
  endCampaigns .aborted s

/-- No campaign frame is committed or in the air. -/
def dissemDrained (s : State) : Bool :=
  !s.frames.any (fun x => (match x.2.kind with
    | .symbol _ | .announcement _ => true
    | _ => false) && (match x.2.place with
    | .committed _ _ | .air | .ackWait => true
    | _ => false))

/-- The next planned window start of a campaign on a front end. -/
def nextWindow (c n : Nat) (s : State) : Option Nat :=
  (((campaign c s).windows.filter (fun w => w.fe == n && !w.isOpen)).map (·.start)).head?

/-- Places a campaign into a list sorted by its next window, the lower number first among equals. -/
def byWindow (x : Nat × Option Nat) : List (Nat × Option Nat) → List (Nat × Option Nat)
  | [] => [x]
  | y :: r =>
    let first : Bool := match x.2, y.2 with
      | some a, some b => decide (a < b) || a == b && decide (x.1 < y.1)
      | some _, none => true
      | none, some _ => false
      | none, none => decide (x.1 < y.1)
    if first then x :: y :: r else y :: byWindow x r

/-- The announcement IEs in a beacon of slot `p` on front end `n`: at most two, RUNNING campaigns by their next window first,
then ENDED ones whose FINAL IE is carried. -/
def beaconAnnouncements (p n : Nat) (s : State) : List Byte :=
  let mine := (List.range 16).filter (fun c => isSet (F.DISSEM.C_CFG_IN_BEACON c) s &&
    rd (F.DISSEM.C_CFG_PAN c) s == p && (rd (F.DISSEM.C_CFG_FE_MASK c) s).testBit n)
  let run : List (Nat × Option Nat) := ((mine.filter (fun c => cState c s == C_RUNNING)).map (fun c => (c, nextWindow c n s))).foldr byWindow []
  let fin := mine.filter (fun c => cState c s == C_ENDED && (campaign c s).final)
  ((run ++ fin.map (fun c => (c, none))).take 2).flatMap (fun (x : Nat × Option Nat) => announcementIe x.1 n x.2 s)

end Sys2Proof.Machine
end

