-- ==== Sys2Proof/Machine/Mac.lean ====
section
/-! DEFINITION. The air MAC (R225 to R250): the MHR, security and verdict of a received frame, the replay window, answers
and polls, acknowledgements and appointments. -/

namespace Sys2Proof.Machine

/-! ### PAN slots and accepted forms (R225, R226) -/

/-- The enabled slot whose PAN_ID is `pan`. -/
def panSlot (pan : Option Nat) (s : State) : Option Nat :=
  match pan with
  | none => none
  | some x => (List.range 4).find? (fun p => isSet (F.MAC.PAN_ENABLE p) s && rd (F.MAC.PAN_PAN_ID p) s == x)

/-- Whether a destination is the controller's unicast address (R226, R239). -/
def toController (a : AirAddr) (s : State) : Bool :=
  match a with
  | .short x => x == 0
  | .extended e => e == ownEui s
  | .none => false

/-- Whether a frame's form is one that R226 accepts. -/
def formAccepted (m : Mhr) (s : State) : Bool :=
  (m.version == 1 || m.version == 2) &&
    match m.ftype with
    | .data | .command =>
      (toController m.dst s || m.dst == .short 0xFFFF) &&
        (match m.src with
         | .short a => !reservedShort a
         | .extended _ => true
         | .none => false)
    | .ack => m.dst == .none && m.src == .none
    | .beacon => m.dst == .none && (match m.src with
        | .extended _ => true
        | _ => false)
    | .other => false

/-- The node index of a short source in slot `p`. -/
def sourceNode (p : Nat) (m : Mhr) : Option Nat :=
  match m.src with
  | .short a => some (p * 65536 + a % 65536)
  | _ => none

/-- Writes a lane's MAC record. -/
def setRx (i : Nat) (r : Rx) (s : State) : State := modLane i (fun l => { l with rx := r }) s

/-- Changes a lane's MAC record. -/
def modRx (i : Nat) (f : Rx → Rx) (s : State) : State := modLane i (fun l => { l with rx := f l.rx }) s

/-- Fixes a verdict (R228). -/
def fix (i : Nat) (d : Disp) (s : State) : State := modRx i (fun r => { r with fixed := some d }) s

/-! ### At the MHR (R227, R228) -/

/-- A frame without security, or at a level below 5: DROP_AUTH, or INSECURE where the slot allows it. -/
def noSecurity (i : Nat) (s : State) : State :=
  if (lane i s).rx.panInsecure then modRx i (fun r => { r with insecure := true }) s else fix i .dropAuth s

/-- The core record is read and the slot's settings are taken. -/
def readRecord (i p : Nat) (m : Mhr) (s : State) : State :=
  let n := sourceNode p m
  let s := modLane i (fun l => { l with
    nodeIndex := n
    rx := { l.rx with
      mhr := some m, pan := p, node := n, snap := n.map (fun k => (nodeSeen k s).core)
      panInsecure := isSet (F.MAC.PAN_INSECURE p) s, panJoin := isSet (F.MAC.PAN_JOIN_TO_RING p) s
      panSlot := rd (F.MAC.PAN_GROUP_SLOT p) s, panIndex := rd (F.MAC.PAN_GROUP_INDEX p) s } }) s
  if m.security then s else noSecurity i s

/-- The frame that awaits an acknowledgement on logical front end `n`. -/
def awaiting (n : Nat) (s : State) : Option (Nat × Frame) :=
  s.frames.find? (fun x => x.2.place == .ackWait && x.2.airFe == n)

/-- The MHR of an acknowledgement is kept, with the settings of the slot of the transmission that it answers (R225, R260). -/
def readAck (i : Nat) (m : Mhr) (s : State) : State :=
  let r := (lane i s).rx
  match (awaiting (lane i s).logical s).bind (fun x => x.2.firstHop) with
  | none => setRx i { r with mhr := some m } s
  | some h =>
    let p := h / 65536
    setRx i { r with
      mhr := some m, pan := p, panSlot := rd (F.MAC.PAN_GROUP_SLOT p) s, panIndex := rd (F.MAC.PAN_GROUP_INDEX p) s } s

/-- The MHR is complete (R227). `find` is what the read of the core record meets (R290, R291). -/
def mhrComplete (i : Nat) (m : Mhr) (find : Parity) (s : State) : State :=
  let l := lane i s
  if ¬ (l.state = .payload ∨ l.state = .ending) ∨ l.rx.mhr.isSome then s
  else if m.tooShort then setRx i { l.rx with mhr := some m } s
  else if pageState 0x19 s ≠ RUN then endLane i .dropDisabled s
  else if !formAccepted m s then endLane i .dropAddr s
  else if m.ftype = .ack then readAck i m s
  else
    match panSlot m.panId s with
    | none => endLane i .dropAddr s
    | some p =>
      if m.ftype = .beacon then setRx i { l.rx with mhr := some m, pan := p } s
      else
        match sourceNode p m with
        | none => readRecord i p m s
        | some n =>
          let s := if find = .mended then coreMended n s else s
          if find = .lost then coreLost n (endLane i .dropParity (modLane i (fun l => { l with nodeIndex := some n }) s))
          else if (node n s).blocked then
            latch 0x20 4 (inc F.NODE.BLOCKED_HEARD
              (endLane i .dropAddr (modLane i (fun l => { l with nodeIndex := some n }) s)))
          else readRecord i p m s

/-! ### The auxiliary security header and the key (R228 to R233) -/

/-- The slot that a core record's KEY_REF names, in PAN settings with group slot `g` (R230). -/
def refSlot (core : BitVec 256) (g : Nat) : Nat := if oct core 16 2 = 0xFFFF then g else oct core 16 2

/-- Resolves a frame's key (R230): the slot must be usable, directly or as a wrapping slot, and the record's generation
must equal that of the slot it names. -/
def resolveKey (i kim : Nat) (s : State) : State :=
  let r := (lane i s).rx
  let named := match r.snap with
    | some c => refSlot c r.panSlot
    | none => r.panSlot
  let wrapped : Bool := kim == 0 && (match r.snap with
    | some c => oct c 16 2 != 0xFFFF
    | none => false) && (slot named s).use UNWRAP && !(slot named s).use FRAME_DEC
  let sl := if kim = 1 then r.panSlot else named
  match useSlot sl LANE_CRYPTO (if wrapped then UNWRAP else FRAME_DEC) s with
  | (.unusable, s) => fix i .dropKeyUnknown s
  | (.revoked, s) => fix i .dropKeyRevoked s
  | (.ok, s) =>
    let stale : Bool := match r.snap with
      | some c => oct c 18 1 != (slot named s).gen
      | none => false
    if stale then fix i .dropKeyRevoked s
    else
      match wrapped, r.node with
      | true, some n =>
        let (hit, s) := cacheLookup n sl (slot sl s).gen s
        modRx i (fun r => { r with keySlot := some sl, keyNode := some n, cacheMiss := !hit }) s
      | _, _ => modRx i (fun r => { r with keySlot := some sl }) s

/-- The tracked peer of a source EUI-64, while the page works. -/
def trackedPeer (eui : Nat) (s : State) : Option Nat :=
  if pageState 0x1A s = RUN ∨ pageState 0x1A s = DRAINING then
    (List.range 32).find? (fun i => isSet (F.BEACON.PEER_ENABLE i) s &&
      rd (F.BEACON.PEER_EUI64_LO i) s + rd (F.BEACON.PEER_EUI64_HI i) s * 2 ^ 32 == eui)
  else none

/-- The key of a tracked peer's secured beacon (R254): without one that may be used, the beacon ends as one of an unknown source at its
verdict. -/
def resolveBeacon (i : Nat) (m : Mhr) (s : State) : State :=
  match m.src with
  | .extended e =>
    match trackedPeer e s with
    | none => s
    | some k =>
      let sl := rd (F.BEACON.PEER_KEY_SLOT k) s
      let u := useSlot sl LANE_CRYPTO FRAME_DEC s
      if u.1 = .ok then modRx i (fun r => { r with keySlot := some sl }) u.2 else u.2
  | _ => s

/-- The key and the nonce of a secured acknowledgement (R244, R230): resolved for a frame from the awaited frame's first hop, by the
settings of its slot as they stood at the acknowledgement's MHR (R260). -/
def resolveAck (i : Nat) (s : State) : State :=
  let l := lane i s
  let r := l.rx
  match (awaiting l.logical s).bind (fun x => x.2.firstHop) with
  | none => s
  | some h =>
    let e := node h s
    let s := modRx i (fun r => { r with nonce := ccmNonce e.eui r.counter r.level }) s
    let sl := if r.kim = 1 then r.panSlot else refSlot e.core r.panSlot
    let wrapped : Bool := r.kim == 0 && e.keyRef != 0xFFFF && (slot sl s).use UNWRAP && !(slot sl s).use FRAME_DEC
    if ¬ (r.kim = 0 ∨ r.kim = 1) ∨ (r.kim = 1 ∧ r.keyIndex ≠ r.panIndex) ∨ !(nodeSeen h s).valid then fix i .dropKeyUnknown s
    else
      match useSlot sl LANE_CRYPTO (if wrapped then UNWRAP else FRAME_DEC) s with
      | (.unusable, s) => fix i .dropKeyUnknown s
      | (.revoked, s) => fix i .dropKeyRevoked s
      | (.ok, s) =>
        if (slot (refSlot e.core r.panSlot) s).gen ≠ e.keyGen then fix i .dropKeyRevoked s
        else if !wrapped then modRx i (fun r => { r with keySlot := some sl }) s
        else
          let (hit, s) := cacheLookup h sl (slot sl s).gen s
          modRx i (fun r => { r with keySlot := some sl, keyNode := some h, cacheMiss := !hit }) s

/-- The nonce of a received frame (R229): its source EUI-64 is the record's for a short source, else the one it states. -/
def frameNonce (r : Rx) (m : Mhr) (level counter : Nat) : List Byte :=
  match m.src, r.snap with
  | .extended e, _ => ccmNonce e counter level
  | _, some c => ccmNonce (oct c 0 8) counter level
  | _, none => []

/-- The auxiliary security header is complete (R228, R233). That of an acknowledgement or a beacon is judged at the verdict; its key is
resolved here as any frame's (R398). -/
def auxHeader (i level : Nat) (suppressed : Bool) (kim keyIndex counter : Nat) (s : State) : State :=
  let l := lane i s
  match l.rx.mhr with
  | none => s
  | some m =>
    if ¬ (l.state = .payload ∨ l.state = .ending) ∨ !m.security ∨ l.rx.fixed.isSome ∨ m.tooShort then s
    else
      let s := modLane i (fun l => { l with
        counter := counter, rx := { l.rx with level, counter, kim, keyIndex, nonce := frameNonce l.rx m level counter } }) s
      match m.ftype with
      | .ack => if m.version ≠ 2 then s else if level < 5 ∨ suppressed then fix i .dropAuth s else resolveAck i s
      | .beacon => if level < 5 ∨ suppressed then fix i .dropAddr s else resolveBeacon i m s
      | _ =>
        let join : Bool := l.rx.node.isNone
        if level < 5 then noSecurity i s
        else if suppressed then fix i .dropAuth s
        else if ¬ (kim = 0 ∨ kim = 1) ∨ (join ∧ kim ≠ 1) then fix i .dropKeyUnknown s
        else if kim = 1 ∧ keyIndex ≠ l.rx.panIndex then fix i .dropKeyUnknown s
        else if (match l.rx.snap with
            | some c => !octBit c flagsOct 0
            | none => false) then fix i .dropKeyUnknown s
        else resolveKey i kim s

/-- The wrapped key of a node under a slot, unwrapped (R379, R380); in bivouac it stands in the key mirror (R615). -/
def nodeKey (n sl : Nat) (s : State) : Option (List Byte) :=
  unwrap (slot sl s).key
    (if inBivouac s then readOctets s.ddr (rd F.DDR.HOT_BASE_LO s + rd F.DDR.HOT_BASE_HI s * 2 ^ 32 + 24 * n) 24
     else bytesLe 24 (oct (node n s).ext 40 24))

/-- The key becomes ready (R232): a key that missed the cache is unwrapped and stored; then the context is placed on an
engine (R398). -/
def keyReady (i : Nat) (s : State) : State :=
  let l := lane i s
  let r := l.rx
  match r.keySlot with
  | none => s
  | some sl =>
    if r.keyReady ∨ r.fixed.isSome ∨ ¬ (l.state = .payload ∨ l.state = .ending) then s
    else
      let good : Bool := match r.keyNode with
        | some n => !r.cacheMiss || (nodeKey n sl s).isSome
        | none => true
      if !good then fix i .dropKeyUnknown (inc F.KEYS.UNWRAP_FAILS s)
      else
        let s := match r.keyNode with
          | some n => if r.cacheMiss then cacheInsert n sl (slot sl s).gen s else s
          | none => s
        match takeEngine s with
        | (.refused d, s) => endLane i d s
        | (.on e, s) => modRx i (fun r => { r with keyReady := true, keyGen := (slot sl s).gen, engine := some e }) s

/-! ### The replay window (R236 to R238) -/

/-- What the replay rule says of a counter. -/
inductive Replay where
  | accept (hw map : Nat) | duplicate | old
deriving DecidableEq, Repr

/-- The replay rule on high water `hw` and bitmap `map`. -/
def replay (hw map fc : Nat) : Replay :=
  if hw < fc then .accept fc ((if 32 ≤ fc - hw then 0 else map * 2 ^ (fc - hw) % 2 ^ 32) ||| 1)
  else if hw < fc + 32 then
    if map.testBit (hw - fc) then .duplicate else .accept hw (map ||| 2 ^ (hw - fc))
  else .old

/-! ### The assay record (R219 to R222) -/

/-- a / b rounded to the nearest integer, ties away from zero. -/
def roundDiv (a : Int) (b : Nat) : Int :=
  if 0 ≤ a then (2 * a + b) / (2 * b) else -((2 * (-a) + b) / (2 * b))

/-- The assay record of a frame, 16 octets. -/
def assayRecord (l : Lane) (f : Figures) : List Byte :=
  let rssi := clamp (-260) 20 f.rssi
  let freq := clamp (-32767) 32767 f.freq
  let ppm := clamp (-32767) 32767 (roundDiv (freq * 10 * 100000000) (max l.hz 1))
  bytesLe 2 (ofInt 16 rssi) ++ bytesLe 2 (ofInt 16 l.floor) ++ bytesLe 2 (ofInt 16 freq) ++ bytesLe 2 (ofInt 16 ppm) ++
    [BitVec.ofNat 8 (ofInt 8 (clamp (-32) 127 f.snr)), BitVec.ofNat 8 (clamp 0 160 f.evm).toNat,
     BitVec.ofNat 8 (lqi l.mode l.coded rssi), BitVec.ofNat 8 l.mode,
     BitVec.ofNat 8 (l.syncErrors % 8 + 8 * l.coded.toNat + 16 * l.whitened.toNat + 32 * l.ext.toNat +
       64 * l.switched.toNat + 128 * l.gainStep.toNat),
     BitVec.ofNat 8 (l.logical % 4 + l.physical % 4 * 4 + 16 * l.listenThrough.toNat +
       32 * (decide (rssi ≠ f.rssi)).toNat),
     BitVec.ofNat 8 l.channel, BitVec.ofNat 8 (l.set % 8 + l.gainSync % 8 * 8)]

/-! ### Time corrections and drift (R241, R247) -/

/-- Mesh time in 2^-16 ticks at the start of a lane's PHR, less the time a Mesh time IE states, in whole µs. -/
def meshOffset (l : Lane) (ie : MeshIe) : Int :=
  roundDiv ((l.phrMesh - extendTicks 32 ie.ticks (l.phrMesh / 65536) * 65536) * 1000000) (2 ^ 31)

/-- The low 32 bits of mesh time at the start of a lane's PHR. -/
def phrLow (l : Lane) : Nat := (l.phrMesh / 65536 % 2 ^ 32).toNat

/-- A drift sample (R247): the offset `o` at time `t`, ticks. An offset held for 2^31 ticks or more counts as none (R270). -/
def driftSample (o : Int) (t : Nat) (n : Node) : Node :=
  let o' := toInt 32 (oct n.ext 80 4)
  let t' := oct n.ext 84 4
  let dt : Nat := (t + 2 ^ 32 - t') % 2 ^ 32
  let store := fun (n : Node) => { (n.wext 80 4 (ofInt 32 o)).wext 84 4 t with offset := true }
  if !n.offset ∨ 2 ^ 31 ≤ dt then store n
  else if dt < 327680 then n
  else
    let est := toInt 16 (oct n.core 28 2)
    let v := if n.sampled then roundDiv (3 * est * dt + (o - o') * 8 * 32768) (4 * dt)
      else roundDiv ((o - o') * 8 * 32768) dt
    store { n.wcore 28 2 (ofInt 16 (clamp (-32767) 32767 v)) with sampled := true }

/-! ### Answers (R139, R239 to R243) -/

/-- The airtime of an answer of `psdu` octets with the settings `cfg` (R214). -/
def replyNs (mode : Nat) (cfg : TxCfg) (coded ext : Bool) (psdu : Nat) : Nat :=
  airNs mode cfg.preamble (if ext then 4 else 2) psdu coded

/-- The FCS length of an Enhanced ACK (R240): 2 octets, or for OFDM as FCS_2 says. -/
def ackFcs (mode : Nat) (cfg : TxCfg) (enhanced : Bool) : Nat :=
  if enhanced && modeFamily mode == some .ofdm && !cfg.fcs2 then 4 else 2

/-- Whether a poll answer takes a 2-octet FCS (R242): for OFDM as FCS_2 says, else as the poll's PHR says. -/
def answerFcs2 (mode : Nat) (cfg : TxCfg) (fcs2 : Bool) : Bool := if modeFamily mode = some .ofdm then cfg.fcs2 else fcs2

/-- The PSDU of a pending frame as a poll answer (R242). -/
def answerPsdu (mode : Nat) (fcs2 : Bool) (f : Frame) (s : State) : Nat :=
  f.length + (if isSet F.MAC.ACK_CFG_TIME_IN_ANSWER s then 12 else 0) + (if f.secure then micLen f.level else 0) +
    fcsOctets mode fcs2

/-- An answer that a check of R139 forbids. -/
def withheld (s : State) : State := inc F.REGLOCK.ACK_WITHHELD s

/-- The checks that R139 makes of an answer of `t` ns at its start: the permitting entry, the span, the power ceiling, the
duty ceiling and listen-before-talk, whose energy must be valid and below the threshold. The entry, if it passes; an answer
refused counts in ACK_WITHHELD. -/
def answerEntry (p n hz t : Nat) (s : State) : Option Nat × State :=
  match permittingEntry hz (fe p s).band s with
  | none => (none, withheld (regCeiling s))
  | some e =>
    if !inSpan (fe p s) hz (entryField e 12 2 s * 1000) then (none, withheld (regCeiling s))
    else if !powerAllowed p e s then (none, withheld (refusePower p e (rdInt (F.FE.ACK_POWER p) s) s))
    else if !dutyPasses e t s then (none, withheld s)
    else if !entryFlag e 1 s || entryFlag e 3 s then (some e, s)
    else
      match lbtClear n e hz s with
      | some true => (some e, s)
      | some false => (none, withheld (latch 0x0C 2 (inc F.REGLOCK.LBT_BUSY s)))
      | none => (none, withheld s)

/-- An answer is charged to the dwell run of its entry and to blinding (R334, R335). -/
def chargeAnswer (n e hz key t : Nat) (s : State) : State :=
  blindAdd n (blindCharge n hz (t + 144000) s) (dwellAdd n e hz key t s)

/-- The conditions of R239 apart from the frame: the verdict's time, the front end, PHY, the role. -/
inductive AnswerFrom where
  | on (p : Nat) | no
deriving DecidableEq, Repr

/-- Which front end sends an answer for a frame on lane record `l`, with the counts of one that is lost. A page in DRAINING answers
nothing more: R239 lists every state of the page but RUN, and R109's answers that "are still sent" are those already in RX_TX
(DEDUCED, log entry 22). -/
def answerFrom (l : Lane) (s : State) : AnswerFrom × State :=
  if l.lastSymbol + 2000 < s.now then (.no, inc F.MAC.LATE_VERDICT s)
  else if !mayTransmit s then (.no, inc F.ROPE.ANSWERS_SUPPRESSED s)
  else if !started s then (.no, s)
  else
    match txServer l.logical s with
    | none => (.no, inc F.MAC.ANSWER_BUSY s)
    | some p =>
      if pageState (fePage p) s ≠ RUN ∨ !readyToSend p l.logical s then (.no, inc F.MAC.ANSWER_BUSY s)
      else if pageState 0x18 s ≠ RUN ∨ refclkFault s ∨ tempTrip s then (.no, s)
      else (.on p, s)

/-- The time correction of a frame: clipped to ±2,047 µs (R241). -/
def timeCorrection (l : Lane) (mesh : Option MeshIe) : Int × Bool :=
  match mesh with
  | none => (0, false)
  | some ie =>
    let o := meshOffset l ie
    (clamp (-2047) 2047 o, o ≠ clamp (-2047) 2047 o)

/-- The transmission of an acknowledgement with the settings `cfg` (R240): its octets and its airtime. -/
def ackTx (t : Tx) (n : Option Nat) (enhanced fp : Bool) (corr : Int) (clipped : Bool) (seq : Nat) (s : State) : Tx :=
  let octets := ackOctets enhanced fp (isSet F.MAC.ACK_CFG_TIME_IE s) seq corr clipped
  { t with
    what := .ack n enhanced fp, ackReq := false, seq, fp, corr, clipped, front := octets
    airNs := replyNs t.mode t.cfg t.coded t.ext (octets.length + ackFcs t.mode t.cfg enhanced) }

/-- An answer enters RX_TX (R133, R139): REQ rises, and the power is recorded. A poll answer that asks for an acknowledgement ends an
open wait unmatched at that moment (R244), also when its fetch then fails (DEDUCED, log entry 26). -/
def sendAnswer (p : Nat) (t : Tx) (s : State) : State :=
  let s := if t.ackReq then closeWait t.logical s else s
  enterRxTx p t (startPower p t.entry (rdInt (F.FE.ACK_POWER p) s) (raiseReq p ((rd (F.COEX.PRI_MASK p) s).testBit 0) s))

/-- What an answer to the frame of lane record `l` is sent with (R214, R240). -/
def answerTx (p : Nat) (l : Lane) (what : TxWhat) (s : State) : Tx :=
  { what, logical := l.logical, mode := l.mode, hz := l.hz, airNs := 0, entry := 0, coded := l.coded, ext := l.ext
    cfg := txCfg p l.logical l.mode 0 s }

/-- The answer to a frame that calls for one (R239 to R242): an acknowledgement, or to a poll of a node with PENDING the
fetch of its oldest pending frame, in whose place an acknowledgement goes if it fails. -/
def answer (l : Lane) (dup poll : Bool) (mesh : Option MeshIe) (s : State) : State :=
  match l.rx.mhr with
  | none => s
  | some m =>
    if !m.ackReq ∨ !toController m.dst s ∨ !isSet F.MAC.ACK_CFG_ENABLE s then s
    else
      match answerFrom l s with
      | (.no, s) => s
      | (.on p, s) =>
        let enhanced : Bool := m.version == 2
        let pend : Bool := match l.rx.snap with
          | some c => octBit c flagsOct 2
          | none => false
        let corr := timeCorrection l mesh
        let first := match l.rx.node with
          | some n => if poll && pend then (pendingFrames n s).head?.map (fun x => (n, x)) else none
          | none => none
        match first with
        | none =>
          let t := ackTx (answerTx p l (.ack none false false) s) l.rx.node enhanced (pend && !poll) corr.1 corr.2 m.seq s
          match answerEntry p l.logical l.hz t.airNs s with
          | (none, s) => s
          | (some e, s) =>
            let s := if dup then inc F.MAC.DUP_ACKED s else s
            let s := if poll then inc F.MAC.ANSWERS_EMPTY s else s
            sendAnswer p { t with entry := e } (chargeAnswer l.logical e l.hz 0 t.airNs s)
        | some (n, (id, f)) =>
          let t := answerTx p l (.pollAnswer id) s
          let fcs2 := answerFcs2 l.mode t.cfg l.fcs2
          let ns := replyNs l.mode t.cfg l.coded l.ext (answerPsdu l.mode fcs2 f s)
          match answerEntry p l.logical l.hz ns s with
          | (none, s) => s
          | (some e, s) =>
            let s := setFrame id { f with place := .air, inFlight := true, polled := true, airFe := l.logical } s
            let s := modFe p (fun x => { x with
              fetch := some { node := n, entry := e, fcs2, seq := m.seq, enhanced, corr := corr.1, clipped := corr.2 } }) s
            sendAnswer p { t with entry := e, airNs := ns, ackReq := true } s

/-- The empty answer takes the fetched frame's place (R242). -/
def emptyAnswer (p : Nat) (t : Tx) (f : Fetch) (s : State) : State :=
  let t := ackTx t (some f.node) f.enhanced false f.corr f.clipped f.seq s
  let s := modFe p (fun x => { x with fetch := none, tx := some t }) s
  chargeAnswer t.logical f.entry t.hz 0 t.airNs (inc F.MAC.ANSWERS_EMPTY s)

/-- A fetched frame goes out as the answer (R242): sequence number, frame-pending bit and charges. -/
def dataAnswer (p id : Nat) (t : Tx) (x : Fetch) (f : Frame) (c : Option Nat) (e : Option Nat) (s : State) : State :=
  let (q, s) := assignSeq id f s
  let ns := replyNs t.mode t.cfg t.coded t.ext (answerPsdu t.mode x.fcs2 f s)
  let s := setFrame id { f with
    place := .air, inFlight := true, polled := true, airFe := t.logical, seq := some q, attempts := f.attempts + 1 } s
  let fp : Bool := 2 ≤ (listedFrames x.node s).length
  let ie := isSet F.MAC.ACK_CFG_TIME_IN_ANSWER s
  let parts := frameParts { f with polled := true } q (c.getD 0) fp ie s
  let s := modFe p (fun y => { y with
    fetch := none
    tx := some { t with
      airNs := ns, seq := q, ackReq := true, secured := c.map (fun c => (f.slot, c)), engine := e
      fp, meshIe := ie, key := if c.isSome then (slot f.slot s).key else [], front := parts.1, back := parts.2.2
      nonce := match c with
        | some c => ccmNonce (ownEui s) c f.level
        | none => [] } }) s
  chargeAnswer t.logical x.entry t.hz (id + 1) ns (inc F.MAC.ANSWERS_DATA s)

/-- The fetch of a poll answer ends, or is late at 60 µs (R242). -/
def pollFetch (p : Nat) (late : Bool) (s : State) : State :=
  match (fe p s).fetch, (fe p s).tx with
  | some x, some t =>
    match t.what with
    | .pollAnswer id =>
      match frame? id s with
      | none => emptyAnswer p t x s
      | some f =>
        let fit : Bool := answerPsdu t.mode x.fcs2 f s ≤ maxPsdu t.mode
        if late then
          emptyAnswer p t x (backToPending id (latch 0x19 3 (inc F.MAC.FETCH_LATE s)))
        else
          match (if f.secure then keyCheck f s else (none, s)) with
          | (some d, s) => emptyAnswer p t x (endFrame id d s)
          | (none, s) =>
            if f.secure ∧ (slot f.slot s).txcnt = 0xFFFFFFFF then
              emptyAnswer p t x (endFrame id .txCounterExhausted (takeCounter f.slot s).2)
            else if !fit then emptyAnswer p t x (backToPending id (inc F.MAC.POLL_MISFIT s))
            else if !f.secure then dataAnswer p id t x f none none s
            else
              match takeCounter f.slot s with
              | (.wait, s) => emptyAnswer p t x (backToPending id s)
              | (.exhausted, s) => emptyAnswer p t x (endFrame id .txCounterExhausted s)
              | (.value c, s) =>
                match takeEngine s with
                | (.refused d, s) => emptyAnswer p t x (endFrame id d s)
                | (.on e, s) => dataAnswer p id t x f (some c) (some e) s
    | _ => s
  | _, _ => s

/-! ### Appointments (R245, R246) -/

/-- A Poll IE's request (R245): CANCEL ends the appointment, APPT asks for one. -/
def appointment (l : Lane) (n : Nat) (ie : PollIe) (s : State) : State :=
  if ie.appt && ie.cancel then s
  else if ie.cancel then modNode n (fun x => x.wcore 30 1 0) s
  else if !ie.appt then s
  else
    let now := meshTicks s
    let when_ := extendTicks 32 ie.ticks now
    let at_ := when_.toNat
    let good : Bool := isSet F.MAC.APPT_CFG_ENABLE s && !inBivouac s &&
      (isFsk l.mode || modeFamily l.mode == some .oqpsk) && decide ((now : Int) + 328 ≤ when_) && decide (when_ ≤ (now : Int) + 2 ^ 31)
    if !good then inc F.MAC.APPT_REFUSED s
    else
      let s := modNode n (fun x => (((((x.wext 64 8 at_).wext 72 2 ie.guardUs).wext 74 1 l.logical).wext 75 1 l.mode).wext
        76 4 l.hz).wcore 30 1 1) s
      inc F.MAC.APPT_GRANTED s

/-- W of R246 in units of 1/262,144 µs: the guard and the drift since the node was last heard. -/
def wakeWidth (n : Node) (s : State) : Nat :=
  let at_ := oct n.ext 64 8
  let heard := extendTicks 32 (oct n.core 24 4) (meshTicks s)
  let drift := max (toInt 16 (oct n.core 28 2)).natAbs (rd F.MAC.APPT_CFG_MIN_DRIFT s)
  oct n.ext 72 2 * 262144 + drift * ((at_ : Int) - heard).toNat

/-- The check 10 ms before an appointment (R246). -/
def apptCheck (i : Nat) (s : State) : State :=
  let n := node i s
  if oct n.core 30 1 % 4 ≠ 1 then s
  else
    match (pendingFrames i s).head? with
    | none => modNode i (fun x => x.wcore 30 1 0) s
    | some (id, f) =>
      let w := wakeWidth n s
      let mode := oct n.ext 75 1
      let per := octetNs mode
      let f := { f with
        fe := oct n.ext 74 1 % 4, queue := 2, mode, hz := oct n.ext 76 4, timed := true, start := oct n.ext 64 8 * 65536
        slipTol := 1, extra := (w * 1000 + 262144 * per - 1) / (262144 * per), appt := true, inFlight := true
        ackReq := true }
      if 8000 * 262144 < w ∨ (regEntry f s).isNone ∨ maxPsdu mode < f.psdu mode s ∨ pageState (schedPage f.fe) s ≠ RUN ∨
          roleMuted s then skipAppointment i id s
      else
        let s := modNode i (fun x => x.wcore 30 1 2) (setFrame id f s)
        countPending (syncPending i (enqueue id s))

/-! ### The verdict (R228, R232 to R235) -/

/-- The record's own comparisons at the verdict (R230, R282): the entry has not changed since the MHR, and its generation
is that of the slot it names. -/
def recordHolds (r : Rx) (s : State) : Bool :=
  match r.node, r.snap with
  | some n, some c =>
    let k := (nodeSeen n s).core
    octBit k flagsOct 0 == octBit c flagsOct 0 && oct k 0 8 == oct c 0 8 && oct k 16 2 == oct c 16 2 &&
      oct k 18 1 == oct c 18 1 && (slot (refSlot c r.panSlot) s).gen == oct c 18 1
  | _, _ => true

/-- What a passing frame carries to its destination. -/
def frameItem (l : Lane) (figs : Figures) (join insecure : Bool) (s : State) : Item :=
  { frames := [l.frame], octets := l.length - fcsOctets l.mode l.fcs2 - (if insecure then 0 else micLen l.rx.level)
    form := 0, origin := l.logical, marks := l.gainStep.toNat + 2 * join.toNat + 4 * insecure.toNat, node := l.rx.node
    counter := if 5 ≤ l.rx.level then l.rx.counter else 0, assay := assayRecord l figs, device := l.phrDevice
    mesh := phrLow l, since := s.now }

/-- Whether a frame is a poll: a Data Request command, or a data frame with a Poll IE (R242). -/
def isPoll (m : Mhr) (b : Body) (s : State) : Bool :=
  match m.ftype, b.payload with
  | .command, .command d => d
  | .data, _ => (pollIe b.ies s).isSome
  | _, _ => false

/-- Whether a frame is a Data Request command, which the MAC consumes (R234). -/
def isDataRequest (m : Mhr) (b : Body) : Bool :=
  match m.ftype, b.payload with
  | .command, .command d => d
  | _, _ => false

/-- The one write of the core record at a passing verdict (R235): window, assay, last heard and drift. -/
def writeRecord (l : Lane) (n hw map : Nat) (figs : Figures) (mesh : Option MeshIe) (s : State) : State :=
  modNode n (fun x =>
    let x := ((x.wcore 8 4 hw).wcore 12 4 map).wcore 23 1 (nextAssay (oct x.core 23 1) (clamp (-260) 20 figs.rssi))
    let x := x.wcore 24 4 (phrLow l)
    match mesh with
    | some ie => if inBivouac s then x else driftSample (meshOffset l ie) (phrLow l) x
    | none => x) s

/-- A passing frame of a short source reaches its destination: Hemal reports to DISSEM, Data Requests to the MAC, the rest
per R302. -/
def handOn (l : Lane) (m : Mhr) (x : Item) (b : Body) (s : State) : State :=
  let mac : Bool := m.ftype == .command
  let sun : Bool := modeFamily l.mode != some .oqpsk
  if isDataRequest m b then endItem x .okDelivered s
  else
    match m.ftype, l.rx.node, b.payload with
    | .data, some n, .data bs =>
      match readHemal bs s with
      | none => uplink x m l.rx.pan mac sun b.payload s
      | some r =>
        match hemalReport l.rx.pan n r s with
        | (true, s) => endItem x .okDelivered s
        | (false, s) => uplink x m l.rx.pan mac sun b.payload s
    | _, _, _ => uplink x m l.rx.pan mac sun b.payload s

/-- A join frame, or an INSECURE one, has passed (R233): it goes to the ring whatever it is, and a Data Request or a Poll IE in it is no
poll (DESIGN CHOICE, log entry 26: R234 and R242 do not say whether such a frame polls). -/
def passUnrecorded (i : Nat) (m : Mhr) (figs : Figures) (b : Body) (s : State) : State :=
  let l := lane i s
  let join : Bool := l.rx.node.isNone
  if join && !l.rx.panJoin then endVerdict i .dropAddr s
  else
    let x := frameItem l figs join l.rx.insecure s
    let s := inc F.MAC.PASSED (releaseDrained i none s)
    let s := if l.rx.insecure then latch 0x19 5 (inc F.MAC.INSECURE s) else s
    let s := if join then inc F.MAC.JOIN_RX s else s
    let s := match l.rx.node with
      | some n => nodeStat n (fun n => n.bump 100 4) s
      | none => s
    let s := answer l false false (meshIe b.ies s) s
    uplink x m l.rx.pan true (modeFamily l.mode != some .oqpsk) b.payload s

/-- A frame of a short source has passed (R235, R239, R245). -/
def passRecorded (i n hw map : Nat) (m : Mhr) (figs : Figures) (b : Body) (s : State) : State :=
  let l := lane i s
  let x := frameItem l figs false false s
  let s := writeRecord l n hw map figs (meshIe b.ies s) s
  let s := learnFrame l.rx.pan l.logical (n % 65536) (phrLow l) (pathIe b.ies s) s
  let s := nodeStat n (fun n => n.bump 100 4) s
  let s := inc F.MAC.PASSED (releaseDrained i none s)
  let poll := isPoll m b s
  let s := if poll then inc F.MAC.POLLS s else s
  let s := match poll, pollIe b.ies s with
    | true, some ie => appointment l n ie s
    | _, _ => s
  let s := answer l false poll (meshIe b.ies s) s
  handOn l m x b s

/-- The verdict of a frame judged by R228. A secured frame whose PSDU ends before its auxiliary security header is complete has no verdict
that the spec states: nothing follows here, and the watchdog ends its lane (DESIGN CHOICE, log entry 26). -/
def frameVerdict (i : Nat) (fcsOk micOk : Bool) (figs : Figures) (b : Body) (s : State) : State :=
  let l := lane i s
  let r := l.rx
  match r.mhr with
  | none => if l.state = .ending ∧ l.freeing.isNone then endVerdict i (if fcsOk then .dropAddr else .dropFcs) s else s
  | some m =>
    if l.state ≠ .ending ∨ l.freeing.isSome ∨ m.ftype = .ack ∨ m.ftype = .beacon then s
    else if !fcsOk then endVerdict i .dropFcs s
    else if m.tooShort then endVerdict i .dropAddr s
    else
      match r.fixed with
      | some d => endVerdict i d s
      | none =>
        if r.insecure then passUnrecorded i m figs b s
        else
          match r.keySlot with
          | none => s
          | some sl =>
            if !r.keyReady then s
            else if !keyHolds sl r.keyGen s then endVerdict i .dropKeyRevoked (suppress s)
            else if !recordHolds r s then endVerdict i .dropKeyRevoked s
            else if r.mismatch then endVerdict i .dropCryptoFault s
            else if !micOk then endVerdict i .dropAuth (latch 0x19 2 s)
            else
              match r.node with
              | none => passUnrecorded i m figs b s
              | some n =>
                let c := (node n s).core
                match replay (oct c 8 4) (oct c 12 4) r.counter with
                | .accept hw map => passRecorded i n hw map m figs b s
                | .duplicate => answer l true false (meshIe b.ies s) (endVerdict i .dropReplay s)
                | .old => endVerdict i .dropReplay s

/-! ### Acknowledgements (R244) -/

/-- Whether an acknowledgement of a lane matches an open wait: sequence number, time of detection, and security where it
is required. -/
def ackMatches (l : Lane) (m : Mhr) (f : Frame) (s : State) : Bool :=
  f.seq == some m.seq && decide (l.boundAt ≤ f.sentAt + rd F.MAC.ACK_WAIT s * 1000) &&
    (!isSet F.MAC.ACK_CFG_REQUIRE_SECURE_RX s || (m.version == 2 && m.security && decide (5 ≤ l.rx.level)))

/-- A matched acknowledgement: OK_ACKED, PENDING follows the list, and the acknowledgement is consumed (R234, R244). -/
def ackMatched (i id : Nat) (s : State) : State :=
  let s := passLane i s
  let s := inc F.MAC.PASSED (inc F.MAC.ACKS_MATCHED s)
  let s := match frame? id s with
    | some f => if f.appt then
        match f.node with
        | some n => modNode n (fun x => x.wcore 30 1 0) s
        | none => s
      else s
    | none => s
  endFrame id .okAcked s

/-- The verdict of a received acknowledgement (R244). A secured one waits for its key, and a changed key or a mismatch of its engine ends
it as any frame (R382, R399). -/
def ackVerdict (i : Nat) (fcsOk micOk : Bool) (s : State) : State :=
  let l := lane i s
  match l.rx.mhr with
  | none => s
  | some m =>
    if l.state ≠ .ending ∨ l.freeing.isSome ∨ m.ftype ≠ .ack then s
    else if !fcsOk then endVerdict i .dropFcs s
    else if m.tooShort then endVerdict i .dropAddr s
    else
      match (if m.version = 2 then l.rx.fixed else none) with
      | some d => endVerdict i d s
      | none =>
        match awaiting l.logical s with
        | none => endVerdict i .dropAddr s
        | some (id, f) =>
          let secured : Bool := m.version == 2 && m.security
          if !secured then (if ackMatches l m f s then ackMatched i id s else endVerdict i .dropAddr s)
          else
            match l.rx.keySlot with
            | none => endVerdict i .dropKeyUnknown s
            | some sl =>
              if !l.rx.keyReady then s
              else if !keyHolds sl l.rx.keyGen s then endVerdict i .dropKeyRevoked (suppress s)
              else if l.rx.mismatch then endVerdict i .dropCryptoFault s
              else if !micOk then endVerdict i .dropAuth (latch 0x19 2 s)
              else if ackMatches l m f s then ackMatched i id s
              else endVerdict i .dropAddr s

/-- ACK_WAIT passes without a match (R244). -/
def ackWaitExpiry (n : Nat) (s : State) : State :=
  match awaiting n s with
  | some (id, f) =>
    let s := if f.appt then
        match f.node with
        | some i => modNode i (fun x => x.wcore 30 1 0) s
        | none => s
      else s
    unmatched id s
  | none => s

/-! ### The MAC page (R261) -/

/-- Whether a lane's frame is between its MHR and its verdict. -/
def Lane.judged (l : Lane) : Bool :=
  l.freeing.isNone && match l.rx.mhr with
    | some m => !m.tooShort
    | none => false

/-- FORCE_STOP of MAC: frames between MHR and verdict end. -/
def macForceStop (s : State) : State := endLanes Lane.judged .dropDisabled s

/-- No frame remains between MHR and verdict. -/
def macDrained (s : State) : Bool := !anyLane Lane.judged s

end Sys2Proof.Machine
end

