-- ==== Sys2Proof/Machine/Beacon.lean ====
section
/-! DEFINITION. Beacon tracks and the wake filter (R251 to R253), tracked peers and the mesh-time reference (R254 to R256),
and how mesh time follows it (R459 to R462). -/

namespace Sys2Proof.Machine

/-! ### Mesh time (R459, R460) -/

/-- Changes the clock. -/
def modClock (f : Clock → Clock) (s : State) : State := { s with clock := f s.clock }

/-- OFFSET takes a value, in 2^-16 ticks; the registers show it. -/
def setOffset (v : Int) (s : State) : State :=
  let s := modClock (fun c => { c with offset := v }) s
  wr F.TIME.MESH_OFFSET_LO (ofInt 64 v % 2 ^ 32) (wr F.TIME.MESH_OFFSET_HI (ofInt 64 v / 2 ^ 32) s)

/-- R takes a value under tracking: what the former rate has added since it began stays in OFFSET, so that mesh time
continues (DEDUCED, log 50). -/
def setRate (r : Int) (s : State) : State :=
  let run : Int := ((advNs s - s.clock.rateFrom : Nat) : Int)
  let kept := run * 2 ^ 31 * rdInt F.TIME.MESH_RATE_PPB s / 1000000000 / 1000000000
  let s := setOffset (s.clock.offset + kept) s
  let s := modClock (fun c => { c with rateFrom := advNs s }) s
  wrInt F.TIME.MESH_RATE_PPB r s

/-- R returns to 0 and OFFSET keeps its value (R460, R461). -/
def dropRate (s : State) : State :=
  wrInt F.TIME.MESH_RATE_PPB 0 (modClock (fun c => { c with rateFrom := advNs s }) s)

/-- Nanoseconds in 2^-16 ticks. -/
def nsFine (ns : Int) : Int := roundDiv (ns * 2 ^ 31) 1000000000

/-- The correction of R460 at a passing beacon of the reference peer. -/
def meshCorrect (offsetNs : Int) (s : State) : State :=
  let c := offsetNs + 15259
  let now := advNs s
  let big : Bool := decide (rd F.TIME.MESH_STEP_NS s < c.natAbs)
  let s := match s.clock.refAt with
    | some at_ =>
      if big then latch 0x3C 3 (inc F.TIME.MESH_STEPS (setOffset (s.clock.offset + nsFine c) s))
      else
        let dt := max 1 (now - at_)
        let max_ : Int := rd F.TIME.MESH_RATE_MAX s
        let r := rdInt F.TIME.MESH_RATE_PPB s + roundDiv (c * 1000000000) (16 * dt)
        let s := setRate (clamp (-max_) max_ r) s
        setOffset (s.clock.offset + roundDiv (nsFine c) 4) s
    | none => latch 0x3C 3 (inc F.TIME.MESH_STEPS (setOffset (s.clock.offset + nsFine c) s))
  let s := modClock (fun k => { k with refAt := some now }) s
  wrInt F.TIME.MESH_LAST_CORR_NS (clamp (-2147483648) 2147483647 c) s

/-! ### Peers (R254 to R256) -/

/-- PEER[i].STATE values (R262). -/
def P_UNSEEN : Nat := 0
/-- R262. -/
def P_PRESENT : Nat := 1
/-- R262. -/
def P_ABSENT : Nat := 2

/-- Whether pair `a` is better than `b`: PRIORITY, then STRATUM, lower is better. -/
def betterPair (a b : Nat × Nat) : Bool := decide (a.1 < b.1) || a.1 == b.1 && decide (a.2 < b.2)

/-- The pair of a peer. -/
def peerPair (i : Nat) (s : State) : Nat × Nat := ((peer i s).priority, (peer i s).stratum)

/-- Whether a peer is eligible as the reference. -/
def eligible (i : Nat) (s : State) : Bool :=
  isSet (F.BEACON.PEER_ENABLE i) s && rd (F.BEACON.PEER_STATE i) s == P_PRESENT && decide ((peer i s).stratum ≤ 14) &&
    betterPair (peerPair i s) (rd F.BEACON.CFG_OWN_PRIORITY s, 0)

/-- The best eligible peer, the lower index among equals. -/
def bestPeer (s : State) : Option Nat :=
  ((List.range 32).filter (fun i => eligible i s)).foldl (fun b i =>
    match b with
    | none => some i
    | some x => if betterPair (peerPair i s) (peerPair x s) then some i else some x) none

/-- The reference is chosen again (R256). With no eligible peer after a followed one, mesh time free-runs when `lost` says
that the reference was lost, and else the controller is its own reference, with R at 0 (R460). -/
def chooseReference (lost : Bool) (s : State) : State :=
  let old := rd F.BEACON.REF_PEER s
  let s := match bestPeer s with
    | some i =>
      let s := wr F.BEACON.REF_FREE_RUN 0 (wr F.BEACON.REF_PEER i s)
      if i = old then s else modClock (fun c => { c with refAt := none }) s
    | none =>
      let s := if old = 63 then s else if lost then wr F.BEACON.REF_FREE_RUN 1 s else dropRate s
      modClock (fun c => { c with refAt := none }) (wr F.BEACON.REF_PEER 63 s)
  if rd F.BEACON.REF_PEER s = old then s else latch 0x1A 2 s

/-- Mesh time in ns at the start of a lane's PHR subtracted from the time a Mesh time IE states. -/
def peerOffsetNs (l : Lane) (ie : MeshIe) : Int :=
  roundDiv ((extendTicks 32 ie.ticks (l.phrMesh / 65536) * 65536 - l.phrMesh) * 1000000000) (2 ^ 31)

/-- A beacon of peer `i` has passed (R254). -/
def peerPassed (i : Nat) (l : Lane) (mesh : Option MeshIe) (s : State) : State :=
  let found : Bool := rd (F.BEACON.PEER_STATE i) s != P_PRESENT
  let s := wr (F.BEACON.PEER_LAST_FC i) l.rx.counter (wr (F.BEACON.PEER_LAST_HEARD i) (phrLow l) s)
  let s := wr (F.BEACON.PEER_MISSES i) 0 (wr (F.BEACON.PEER_STATE i) P_PRESENT (incSat (F.BEACON.PEER_HEARD i) s))
  let s := match mesh with
    | some ie =>
      let s := wrInt (F.BEACON.PEER_OFFSET_NS i) (clamp (-2147483648) 2147483647 (peerOffsetNs l ie)) s
      { s with peers := insert s.peers i { stratum := ie.stratum, priority := ie.priority, synced := ie.synced } }
    | none => s
  let s := if found then chooseReference false (latch 0x1A 1 s) else s
  match mesh with
  | some ie => if rd F.BEACON.REF_PEER s = i then meshCorrect (peerOffsetNs l ie) s else s
  | none => s

/-- A beacon that ends as DROP_ADDR after the peer tracker has counted it (R234). -/
def unknownBeacon (i : Nat) (s : State) : State := endVerdict i .dropAddr (inc F.BEACON.UNKNOWN_BEACONS s)

/-- The verdict of a received beacon (R234, R254): FCS, the tracked peer, its key, its MIC and its counter. A changed key or a mismatch
of its engine ends it as any frame (R382, R399). -/
def peerBeacon (i : Nat) (fcsOk micOk : Bool) (figs : Figures) (ies : List (List Byte)) (s : State) : State :=
  let l := lane i s
  match l.rx.mhr with
  | none => s
  | some m =>
    if l.state ≠ .ending ∨ l.freeing.isSome ∨ m.ftype ≠ .beacon then s
    else if !fcsOk then endVerdict i .dropFcs s
    else if m.tooShort then endVerdict i .dropAddr s
    else
      match m.src with
      | .extended e =>
        match trackedPeer e s with
        | none => unknownBeacon i s
        | some k =>
          if !m.security ∨ l.rx.level < 5 ∨ l.rx.fixed.isSome then unknownBeacon i s
          else
            match l.rx.keySlot with
            | some sl =>
              if !l.rx.keyReady then s
              else if !keyHolds sl l.rx.keyGen s then endVerdict i .dropKeyRevoked (suppress s)
              else if l.rx.mismatch then endVerdict i .dropCryptoFault s
              else if !micOk ∨ l.rx.counter ≤ rd (F.BEACON.PEER_LAST_FC k) s then unknownBeacon i s
              else
                let s := inc F.MAC.PASSED (peerPassed k l (meshIe ies s) s)
                if isSet F.BEACON.CFG_COPY_TO_RING s then
                  deliver 0 (frameItem l figs false false s) (releaseDrained i none s)
                else passLane i s
            | none => unknownBeacon i s
      | _ => unknownBeacon i s

/-- An expected beacon time of a peer passes with PEER_TOL (R255). -/
def peerMiss (i : Nat) (s : State) : State :=
  if !isSet (F.BEACON.PEER_ENABLE i) s ∨ rd (F.BEACON.PEER_STATE i) s ≠ P_PRESENT ∨
      ¬ (pageState 0x1A s = RUN ∨ pageState 0x1A s = DRAINING) then s
  else
    let k := rd (F.BEACON.PEER_MISSES i) s + 1
    let s := wr (F.BEACON.PEER_MISSES i) k s
    if k < 3 then s
    else
      let s := wr (F.BEACON.PEER_STATE i) P_ABSENT (incSat (F.BEACON.PEER_LOST_COUNT i) s)
      chooseReference (rd F.BEACON.REF_PEER s == i) (latch 0x1A 0 s)

/-! ### The wake filter (R252, R253) -/

/-- The octets of an EUI-64 in the order of an extended address field. -/
def euiOctets (e : Nat) : List Nat := octetsOf 8 e

/-- The EUI-64s of the nodes of slot `p` whose PENDING flag is set. -/
def pendingEuis (p : Nat) (s : State) : List Nat :=
  (s.nodes.filter (fun x => x.1 / 65536 == p && x.2.pending)).map (fun x => x.2.eui)

/-- The largest partition under 2^k partitions. -/
def fullest (k : Nat) (cs : List Nat) : Nat := (cs.map (fun c => (cs.filter (fun d => d % 2 ^ k == c % 2 ^ k)).length)).foldl max 0

/-- The smallest k from 0 to 12 for which no partition exceeds the ceiling; 12 where none does. -/
def chooseK (ceiling : Nat) (cs : List Nat) : Nat := ((List.range 13).find? (fun k => fullest k cs ≤ ceiling)).getD 12

/-- The four bit indices of a node in a filter of sequence number `q` (R252). -/
def filterBits (e q : Nat) : List Nat :=
  let a := crc32 (euiOctets e ++ [q])
  let b := crc32 (q :: euiOctets e)
  [a % 512, a / 512 % 512, a / 2 ^ 18 % 512, b % 512]

/-- The 64 octets of a filter. -/
def filterOctets (es : List Nat) (q : Nat) : List Byte :=
  bytesLe 64 ((es.flatMap (fun e => filterBits e q)).foldl (fun v b => v ||| 2 ^ b) 0)

/-- Changes a track. -/
def modTrack (t : Nat) (f : Track → Track) (s : State) : State := { s with tracks := insert s.tracks t (f (look s.tracks t {})) }

/-- The Wake filter IE of track `t`'s beacon for slot `p` with sequence number `q` (R259), with what the choice of k records. -/
def wakeFilter (t p q : Nat) (s : State) : List Byte × State :=
  let es := pendingEuis p s
  let cs := es.map (fun e => crc32 (euiOctets e))
  let k := chooseK (rd F.WAKEF.CFG_CEILING s) cs
  let tr := look s.tracks t {}
  let part := if tr.k = k then tr.next % 2 ^ k else 0
  let s := modTrack t (fun x => { x with k, next := (part + 1) % 2 ^ k }) s
  let s := if rd (F.WAKEF.PART_K p) s = 0 ∧ k ≠ 0 then latch 0x1B 0 s else s
  let s := wr (F.WAKEF.PART_INDEX p) part (wr (F.WAKEF.PART_K p) k s)
  let s := if k ≠ 0 then inc F.WAKEF.PARTITIONED s else s
  let mine := es.filter (fun e => crc32 (euiOctets e) % 2 ^ k == part)
  let s := if rd F.WAKEF.CFG_CEILING s < mine.length then inc F.WAKEF.OVER_CEILING s else s
  (ownIe 3 (bytesLe 2 (part % 4096 + k * 4096) ++ filterOctets mine q) s, s)

/-! ### Tracks (R251) -/

/-- How long before its beacon time a beacon is built and queued: 10 ms in ticks, as for an appointment (R246). R251 says when the beacon
is sent and not when it is queued (DESIGN CHOICE, log entry 26). -/
def beaconAhead : Int := 328

/-- The number of the latest beacon time of a track that is reached or at most `beaconAhead` away. -/
def beaconNumber (t : Nat) (s : State) : Int :=
  ((meshTicks s : Int) + beaconAhead - rd (F.BEACON.TRACK_OFFSET t) s) / max 1 (rd (F.BEACON.TRACK_INTERVAL t) s : Int)

/-- The beacon time of number `k`, in ticks (R251). -/
def beaconTime (t : Nat) (k : Int) (s : State) : Int := k * rd (F.BEACON.TRACK_INTERVAL t) s + rd (F.BEACON.TRACK_OFFSET t) s

/-- A track's beacon time comes: the beacon is built and queued in S0, with the IEs that follow its Mesh time IE. No beacon
time is sent for twice (R460). -/
def beaconDue (t : Nat) (s : State) : State :=
  let k := beaconNumber t s
  let at_ := beaconTime t k s
  if pageState 0x1A s ≠ RUN ∨ !isSet (F.BEACON.TRACK_ENABLE t) s ∨ roleMuted s ∨ k < 0 ∨ at_ ∈ (look s.tracks t {}).sent then s
  else
    let p := rd (F.BEACON.TRACK_PAN t) s
    let n := rd (F.BEACON.TRACK_FE t) s
    let q := (rd (F.BEACON.BSN t) s + 1) % 256
    let s := modTrack t (fun x => { x with sent := at_ :: x.sent }) (wr (F.BEACON.BSN t) q s)
    let wf : Bool := pageState 0x1B s == RUN
    let (filter, s) := if wf then wakeFilter t p q s else ([], s)
    let ies := filter ++ beaconAnnouncements p n s
    let level := rd (F.MAC.PAN_BEACON_LEVEL p) s
    let sl := rd (F.MAC.PAN_TX_GROUP_SLOT p) s
    let (id, s) := newFrame s
    let f : Frame :=
      { kind := .beacon t, fe := n, airFe := n, queue := 0, mode := rd (F.BEACON.TRACK_MODE t) s
        hz := rd (F.BEACON.TRACK_CHANNEL_HZ t) s, timed := true, start := at_.toNat * 65536, slipTol := rd F.BEACON.CFG_SLIP_US s
        length := 13 + (if 5 ≤ level then 6 else 0) + 12 + ies.length
        secure := decide (5 ≤ level), level, slot := sl, gen := (slot sl s).gen, seq := some q, payload := ies }
    enqueue id (setFrame id f s)

/-- No beacon is queued or in flight (R262). -/
def beaconDrained (s : State) : Bool :=
  !s.frames.any (fun x => (match x.2.kind with
    | .beacon _ => true
    | _ => false) && (match x.2.place with
    | .ended _ => false
    | _ => true))

/-- FORCE_STOP of BEACON: its beacons end (R81). -/
def beaconForceStop (s : State) : State :=
  let mine := fun (f : Frame) => match f.kind with
    | .beacon _ => true
    | _ => false
  let s := (List.range 4).foldl (fun s p =>
    match (fe p s).tx with
    | some t =>
      match t.what with
      | .scheduled id => if ((frame? id s).map mine).getD false then cutTx p .dropDisabled s else s
      | _ => s
    | none => s) s
  endFrames mine .dropDisabled s

end Sys2Proof.Machine
end

