-- ==== Sys2Proof/Machine/Timebase.lean ====
section
/-! DEFINITION. The commands of the time unit (R449 to R473): increment, steps, snapshots, holdover, PPS, and the passing of
one tick. -/

namespace Sys2Proof.Machine

/-- Device time wraps with its 48-bit seconds (R449). -/
def deviceSpan : Nat := 2 ^ 48 * 1000000000 * 2 ^ 32

/-- One CORE_PLL cycle: 1 ns passes and device time advances by INCR (R450). -/
def tick (s : State) : State :=
  let s := modClock (fun c => { c with device := (c.device + c.incr) % deviceSpan, advanced := c.advanced + c.incr }) s
  { s with now := s.now + 1 }

/-- Software has steered device time: holdover ends and its period restarts (R455, R456). -/
def steered (s : State) : State := modClock (fun c => { c with steerAt := advNs s }) (wr F.TIME.STATUS_HOLDOVER 0 s)

/-- A write to INCR_HI (R450): the staged pair takes effect if it lies within 0.9995 to 1.0005 ns. -/
def incrHiWrite (rt : Route) (data : Word) (s : State) : State :=
  let v := data.toNat % 4 * 2 ^ 32 + rd F.TIME.INCR_LO s
  if v * 10000 < 9995 * 2 ^ 32 ∨ 10005 * 2 ^ 32 < v * 10000 then reject 0x3C 0x044 rt .range data s
  else if 4 ≤ data.toNat then reject 0x3C 0x044 rt .reservedBit data s
  else steered (modClock (fun c => { c with incr := v }) (wr F.TIME.INCR_HI (data.toNat % 4) s))

/-- The four NOW words of a device time: FRAC, NS, SEC low, SEC high. -/
def timeWords (d : Nat) : List Nat :=
  let ns := d / 2 ^ 32
  [d / 2 ^ 16 % 2 ^ 16, ns % 1000000000, ns / 1000000000 % 2 ^ 32, ns / 1000000000 / 2 ^ 32 % 2 ^ 16]

/-- A read of NOW[0] latches device time (R451). -/
def timeNowRead (s : State) : State :=
  let w := timeWords s.clock.device
  let s := wr F.TIME.NOW0 (w.getD 0 0) (wr F.TIME.NOW1 (w.getD 1 0) (wr F.TIME.NOW2 (w.getD 2 0) (wr F.TIME.NOW3 (w.getD 3 0) s)))
  { s with readData := BitVec.ofNat 32 (w.getD 0 0) }

/-- A read of MESH_NOW[0] latches mesh time (R451). -/
def meshNowRead (s : State) : State :=
  let m := (meshFine s % 2 ^ 80).toNat
  let s := wr F.TIME.MESH_NOW0 m (wr F.TIME.MESH_NOW1 (m / 2 ^ 16) (wr F.TIME.MESH_NOW2 (m / 2 ^ 48) s))
  { s with readData := BitVec.ofNat 32 (m % 2 ^ 16) }

/-- A read of PPS_IN_TS[0] latches the stamp of the last accepted edge (R451). -/
def ppsTsRead (s : State) : State :=
  let w := timeWords s.clock.ppsStamp
  let s := wr F.TIME.PPS_IN_TS0 (w.getD 0 0) (wr F.TIME.PPS_IN_TS1 (w.getD 1 0)
    (wr F.TIME.PPS_IN_TS2 (w.getD 2 0) (wr F.TIME.PPS_IN_TS3 (w.getD 3 0) s)))
  { s with readData := BitVec.ofNat 32 (w.getD 0 0) }

/-- A step of device time to `d` (R452, R459, R461): recorded, and with MESH_HOLD mesh time stays. Host writes of device
time end a free run, with R back at 0. A backward step leaves the device time from which it went back (R458). -/
def stepTime (d : Nat) (hold : Bool) (s : State) : State :=
  let old := s.clock.device
  let before := meshFine s
  let s := modClock (fun c => { c with
    device := d, stepAt := some s.now, top := if d < old then max c.top old else c.top }) s
  let s := if isSet F.BEACON.REF_FREE_RUN s then dropRate (wr F.BEACON.REF_FREE_RUN 0 s) else s
  let s := if hold then setOffset (s.clock.offset + (before - meshFine s)) s else s
  let s := wrInt F.TIME.STEP_LAST (clamp (-2147483647) 2147483647 (((d : Int) - old) / 2 ^ 32)) (inc F.TIME.STEPS s)
  latch 0x3C 3 (wr F.TIME.STATUS_RESTORED 0 (wr F.TIME.STATUS_UNSET 0 (steered s)))

/-- A write to CMD while an earlier step is outstanding (R452): to the end of the next cycle. -/
def stepOutstanding (s : State) : Bool :=
  match s.clock.stepAt with
  | some t => decide (s.now ≤ t + 1)
  | none => false

/-- SET (R452). -/
def timeSet (rt : Route) (hold : Bool) (s : State) : State :=
  if stepOutstanding s then reject 0x3C 0x06C rt .action (BitVec.ofNat 32 (1 + 256 * hold.toNat)) s
  else
    let sec := rd F.TIME.SET2 s + rd F.TIME.SET3 s * 2 ^ 32
    let d := (sec * 1000000000 + rd F.TIME.SET1 s) * 2 ^ 32 + rd F.TIME.SET0 s * 2 ^ 16
    wr F.TIME.STATUS_COARSE 0 (stepTime d hold s)

/-- ADJUST (R452). -/
def timeAdjust (rt : Route) (hold : Bool) (s : State) : State :=
  if stepOutstanding s then reject 0x3C 0x06C rt .action (BitVec.ofNat 32 (2 + 256 * hold.toNat)) s
  else
    let d := ((s.clock.device : Int) + rdInt F.TIME.ADJ_NS s * 2 ^ 32) % (deviceSpan : Int)
    stepTime d.toNat hold s

/-- HOLDOVER_S seconds have passed without steering (R455). -/
def holdover (s : State) : State :=
  if isSet F.TIME.STATUS_UNSET s ∨ isSet F.TIME.STATUS_HOLDOVER s then s
  else latch 0x3C 2 (wr F.TIME.STATUS_HOLDOVER 1 s)

/-- A write to MESH.OFFSET_HI applies the staged OFFSET (R459). -/
def meshOffsetWrite (data : Word) (s : State) : State :=
  let v := toInt 64 (rd F.TIME.MESH_OFFSET_LO s + data.toNat * 2 ^ 32)
  setOffset v s

/-! ### PPS (R457, R458) -/

/-- A filtered edge of PPS_IN, whose first sample lies `ago` ns back. -/
def ppsInEdge (ago : Nat) (s : State) : State :=
  if pageState 0x3C s ≠ RUN ∨ !isSet F.TIME.PPS_IN_CFG_ENABLE s then s
  else
    let at_ := advNs s - ago
    let ok : Bool := match s.clock.ppsLast with
      | none => true
      | some x => dist (at_ - x) 1000000000 ≤ rd F.TIME.PPS_IN_CFG_TOL_US s * 1000
    if !ok then inc F.TIME.PPS_IN_BAD s
    else
      let s := modClock (fun c => { c with
        ppsStamp := (deviceNs s - ago) * 2 ^ 32, ppsLast := some at_, ppsLost := false }) s
      latch 0x3C 0 (inc F.TIME.PPS_IN_EDGES s)

/-- 1.5 s without an accepted edge, reported once for each loss. -/
def ppsInLost (s : State) : State :=
  if pageState 0x3C s ≠ RUN ∨ !isSet F.TIME.PPS_IN_CFG_ENABLE s ∨ s.clock.ppsLost then s
  else latch 0x3C 1 (modClock (fun c => { c with ppsLost := true, ppsLast := none }) s)

/-- PPS_IN enabled: the next edge is the first. -/
def ppsEnabled (s : State) : State := modClock (fun c => { c with ppsLost := false, ppsLast := none }) s

/-- Device time passes a pulse time (R458). One that it passes again, at or before a time from which it went back, starts no
pulse within 500 ms of a rising edge. One that it reaches during a pulse in progress starts none (DESIGN CHOICE, log 50). -/
def ppsOutPulse (s : State) : State :=
  let recent : Bool := match s.clock.pulseAt with
    | some x => decide (advNs s < x + 500000000)
    | none => false
  if pageState 0x3C s ≠ RUN ∨ !isSet F.TIME.PPS_OUT_CFG_ENABLE s ∨ (recent ∧ s.clock.device ≤ s.clock.top) ∨ s.clock.pulse ∨
      (isSet F.TIME.PPS_OUT_CFG_GATE s ∧ (isSet F.TIME.STATUS_HOLDOVER s ∨ isSet F.TIME.STATUS_UNSET s)) then s
  else modClock (fun c => { c with pulse := true, pulseAt := some (advNs s) }) s

/-- The pulse width elapses, or the pulse is cut short. -/
def ppsOutEnd (s : State) : State := modClock (fun c => { c with pulse := false }) s

/-- The level on PPS_OUT: low in OFF, STOPPED and deep hold (R458). -/
def ppsOutHigh (s : State) : Bool :=
  !(pageState 0x3C s ∈ [OFF, STOPPED]) && rd F.CANARY.BIVOUAC_STATE s != 3 &&
    (s.clock.pulse != isSet F.TIME.PPS_OUT_CFG_POL s)

end Sys2Proof.Machine
end

