-- ==== Sys2Proof/Machine/Reset.lean ====
section
/-! DEFINITION. The device resets (R622 to R625): what each keeps, and the step of the start that follows the release of
a reset (R626 step 1, R630). -/

namespace Sys2Proof.Machine

/-! ### Kinds and sources -/

/-- Reset kinds, coded as the RESET record of R611. -/
def R_AON : Nat := 0
/-- R611. -/
def R_POWER : Nat := 1
/-- R611. -/
def R_SAG : Nat := 2
/-- R611. -/
def R_WARM : Nat := 3
/-- R611. -/
def R_TAMPER : Nat := 4

/-- Life-cycle states (R389). -/
def LC_BLANK : Nat := 0
/-- R389. -/
def LC_MANUFACTURE : Nat := 1
/-- R389. -/
def LC_PROVISIONED : Nat := 2
/-- R389. -/
def LC_DEPLOYED : Nat := 3
/-- R389. -/
def LC_RECOVERY : Nat := 4
/-- R389. -/
def LC_DECOMMISSIONED : Nat := 5

/-- IDENT.LIFECYCLE. -/
def lifecycle (s : State) : Nat := rd F.IDENT.LIFECYCLE s

/-- The life-cycle state as both registers show it. -/
def setLifecycle (v : Nat) (s : State) : State := wr F.IDENT.LIFECYCLE v (wr F.KEYS.LC_STATE v s)

/-- Whether TAMPER_STATUS is not 0 (R607). -/
def tampered (s : State) : Bool := rd F.CANARY.TAMPER_STATUS_SENSORS s != 0 || isSet F.CANARY.TAMPER_STATUS_ZEROIZED s

/-- Four fresh random words. -/
def drawWords (f : Nat → Field) (s : State) : State :=
  (List.range 4).foldl (fun s k =>
    let (d, s) := draw s
    wr (f k) (Config.entropy d % 2 ^ 32) s) s

/-! ### The trusted lock at reset (R375) -/

/-- The lock closes. -/
def closeLock (s : State) : State :=
  wr F.BAR4.TRUST_STATUS_OPEN 0 (wr F.BAR4.TRUST_STATUS_REMAINING 0 { s with root := { s.root with trustEnd := none } })

/-- The lock as a reset leaves it: open in MANUFACTURE and PROVISIONED. -/
def resetLock (s : State) : State :=
  if lifecycle s = LC_MANUFACTURE ∨ lifecycle s = LC_PROVISIONED then
    wr F.BAR4.TRUST_STATUS_OPEN 1 (wr F.BAR4.TRUST_STATUS_REMAINING 0xFFFF { s with root := { s.root with trustEnd := none } })
  else closeLock s

/-! ### What a reset keeps -/

/-- The register fields that a reset of `kind` keeps (R622): a warm reset the RWS fields, all but an always-on power-on the
always-on domain, and every one the tamper domain and what is not volatile. -/
def keptLife (kind : Nat) : Nat := if kind = R_AON then 3 else if kind = R_WARM then 1 else 2

/-- Registers whose state the shadow of R454 holds: the increment, and R of mesh time. -/
def shadowKeys : List Nat := [F.TIME.INCR_LO.key, F.TIME.INCR_HI.key, F.TIME.MESH_RATE_PPB.key]

/-- The register fields after a reset of `kind`. -/
def keptRegs (kind : Nat) (r : Tbl Nat) : Tbl Nat :=
  r.filter (fun x => keptLife kind ≤ keyLife x.1 || ((kind == R_WARM || kind == R_SAG) && shadowKeys.contains x.1))

/-- Lanes after a reset: the 24 h fault times are held in the always-on domain, a lane whose fuse is blown is RETIRED, and
of the others the first 128 are in service (R601). -/
def keptLanes (kind : Nat) (s : State) : Tbl Lane :=
  let good := laneNumbers.filter (fun i => !isRetired 0 i s)
  laneNumbers.filterMap (fun i =>
    let st := if isRetired 0 i s then LaneState.retired else if (good.take 128).contains i then .idle else .reserve
    let l : Lane := { state := st, faultTimes := if kind = R_AON then [] else (lane i s).faultTimes }
    if l = (if i < 128 then {} else { state := .reserve }) then none else some (i, l))

/-- Whether a warm reset keeps DDR (R522): PRESERVE set, the DDR key derived from the root, and not the end of SEAL. -/
def keepsDdr (kind source : Nat) (s : State) : Bool :=
  kind == R_WARM && isSet F.DDR.PRESERVE s && isSet F.SCIPHER.STATUS_DDR_KEY s && source != 6

/-- Whether two states of the pool agree on the lane counts: the LANEPOOL views of the lanes that a reset leaves. -/
def showLanes (s : State) : State :=
  let inServ := laneNumbers.filter (fun i => (lane i s).inService)
  let s := (List.range 5).foldl (fun s k =>
    wr (F.LANEPOOL.IN_SERVICE k) ((inServ.filter (fun i => i / 32 == k)).foldl (fun m i => m + 2 ^ (i % 32)) 0) s) s
  let n := fun (x : LaneState) => (laneNumbers.filter (fun i => (lane i s).state == x)).length
  wr F.LANEPOOL.COUNTS_IN_SERVICE inServ.length
    (wr F.LANEPOOL.COUNTS_RESERVE (n .reserve) (wr F.LANEPOOL.COUNTS_RETIRED (n .retired) s))

/-- Units whose retirement fuse is blown are held in RETIRED (R601). -/
def holdRetired (s : State) : State :=
  let s := showLanes s
  let s := (List.range 9).foldl (fun s e => if isRetired 1 e s then wr (F.FCRYPTO.ENGINE_STATE e) 4 s else s) s
  let s := if isRetired 1 8 s || (List.range 8).all (fun e => !isRetired 1 e s) then s
    else wr (F.FCRYPTO.ENGINE_STATE 8) 0 s
  let s := if isRetired 2 0 s then wr F.FWUP.SUP_ACTIVE_CORE 1 s else s
  let s := if isRetired 2 0 s || isRetired 2 1 s then wr F.FWUP.SUP_IDLE_STATE 3 s else s
  (List.range 4).foldl (fun s n =>
    if isRetired 3 n s then wr (F.FE.RF_STATE_STATE n) RF_RETIRED (wr (F.HEAD.STATE_STATE (fePage n)) RETIRED s) else s) s

/-- The banks after a reset: one whose fuses were being blown keeps a bad CRC (R141). -/
def cutBanks (s : State) : Tbl (List Byte) :=
  if rd F.REGLOCK.STATUS_PROG_STATE s = 1 then
    s.banks.map (fun x => if x.1 + 1 = s.banks.length then (x.1, []) else x)
  else s.banks

/-- What the shadow of R454 holds of a clock whose mesh rate is `r`: device time, the increment and mesh time, where what R
has added so far stays in OFFSET and R counts anew. -/
def shadow (c : Clock) (r : Int) : Clock :=
  let run : Nat := c.advanced / 2 ^ 32 - c.rateFrom
  { device := c.device, incr := c.incr
    offset := c.offset + (run : Int) * 2 ^ 31 * r / 1000000000 / 1000000000 }

/-- The state that a reset of `kind` and `source` leaves (R622): SRAM filled, registers at their reset values, and what the
reset keeps. Frames in flight reach no disposition (R413). `hold` says that supplies valid is awaited (R54). -/
def cleared (kind source : Nat) (hold : Bool) (s : State) : State :=
  let ddrKept := keepsDdr kind source s
  let resume : Bool := kind == R_WARM || kind == R_SAG
  let aon : Bool := kind == R_AON
  { State.reset with
    pending := s.pending, now := s.now, draws := s.draws, regs := keptRegs kind s.regs
    readData := s.readData, hostData := s.hostData, hostPoison := s.hostPoison
    jtag := if kind = R_AON ∨ kind = R_POWER then {} else s.jtag
    watch := if aon then { tamperOnVbat := true, deferred := s.watch.deferred } else s.watch
    clock := if resume then shadow s.clock (rdInt F.TIME.MESH_RATE_PPB s) else {}
    nextFrame := s.nextFrame, ledger := s.ledger, banks := cutBanks s
    lanes := keptLanes kind s
    nodes := []
    ddr := if ddrKept then s.ddr else []
    cairn := if aon then { s.cairn with queue := [], dropped := 0 } else s.cairn
    wear := if aon || kind == R_POWER then { s.wear with acc := [], seen := false, rising := false, part := 0 } else s.wear
    root := { s.root with keys := none, root := none, trustEnd := none, pinSet := false, alarmAt := none }
    journal := s.journal
    engineFaults := if aon then [] else s.engineFaults
    mem := if aon then { blown := s.mem.blown }
      else { repair := s.mem.repair, groups := s.mem.groups, ceRows := s.mem.ceRows, blown := s.mem.blown
             filled := if ddrKept then s.mem.filled else []
             test := if ddrKept then s.mem.test.filter (fun x => x.1 < 1024) else [] }
    fw := { s.fw with cmd := none, newLanes := [], rolling := [], banks := [], recordAt := 0, trial := 0
                      faults := if aon then [] else s.fw.faults }
    rope := { member := s.rope.member }
    boot := { held := hold, por := decide (kind ≤ R_POWER) || (s.boot.held && s.boot.por), camp := s.boot.camp, causes := if aon then 0 else s.boot.causes
              loops := if aon then [] else s.boot.loops, keep := ddrKept, powerLow := s.boot.powerLow } }

/-- Device time after a reset (R454): restored in holdover after a warm or sag reset, with INCR and OFFSET reading what the
shadow holds. That mesh time resumes with device time is DEDUCED (log 26). -/
def resumeTime (kind : Nat) (unset : Bool) (s : State) : State :=
  if kind = R_WARM ∨ kind = R_SAG then
    let s := wr F.TIME.INCR_LO (s.clock.incr % 2 ^ 32) (wr F.TIME.INCR_HI (s.clock.incr / 2 ^ 32) s)
    let s := wr F.TIME.STATUS_RESTORED 1 (setOffset s.clock.offset s)
    if unset then s else latch 0x3C 2 (wr F.TIME.STATUS_HOLDOVER 1 (wr F.TIME.STATUS_UNSET 0 s))
  else s

/-- WEAR and POWERED_S return to the current checkpoint when power was lost (R604). -/
def fromCheckpoint (s : State) : State :=
  let c := if s.wear.second then s.wear.copy1 else s.wear.copy0
  (List.range 16).foldl (fun s i => wr (F.RESERVE.WEAR i) (c.wear.getD i 0) s) (wr F.RESERVE.POWERED_S c.powered s)

/-- WEAR_INDEX: the largest WEAR[i], the lowest such monitor named; a rise through a multiple of 1,000 is a WEAR_STEP
(R603). -/
def showWear (s : State) : State :=
  let b := (List.range 16).foldl (fun b i => if rd (F.RESERVE.WEAR b) s < rd (F.RESERVE.WEAR i) s then i else b) 0
  let v := rd (F.RESERVE.WEAR b) s
  let step : Bool := rd F.RESERVE.WEAR_INDEX s / 1000 < v / 1000
  let s := wr F.RESERVE.WEAR_INDEX v (wr F.RESERVE.WEAR_INDEX_WHICH b s)
  if step then logCairn K_WEAR_STEP (octetsOf 2 v ++ [b]) (latch reservePage 2 s) else s

/-- The number of bits set among the first `n`. -/
def bitCount (n v : Nat) : Nat := ((List.range n).filter (fun i => v.testBit i)).length

/-- Non-retired pairs. -/
def usablePairs (s : State) : Nat := 1024 - bitCount 1024 s.root.pairs

/-- Powered time in ns (R604). -/
def poweredNow (s : State) : Nat := rd F.RESERVE.POWERED_S s * 1000000000 + s.wear.part

/-- Mismatches of a frame cipher engine within the last 24 h of powered time (R400). -/
def engineRecent (e : Nat) (s : State) : List Nat :=
  (look s.engineFaults e []).filter (fun t => poweredNow s < t + 86400000000000)

/-- Views of what a reset keeps outside the registers. -/
def showKept (s : State) : State :=
  let s := wr F.MEMINT.PPR_USED s.mem.groups.length (wr F.MEMINT.PPR_PENDING s.mem.repair.length s)
  let s := (List.range 9).foldl (fun s e =>
    wr (F.FCRYPTO.ENGINE_FAULTS_24H e) (min 3 (engineRecent e s).length) s) s
  let s := if s.mem.filled.isEmpty then s else wr F.DDR.FILL_CHUNKS_DONE s.mem.filled.length (wr F.DDR.FILL_STATE 3 s)
  let s := wr F.KEYS.PUF_SRAM_RETIRED s.root.blocks (wr F.KEYS.PUF_DELAY_USABLE (usablePairs s) s)
  let s := wr F.KEYS.JOURNAL_USED s.journal.length s
  wr F.ROPE.ROLE_STATE (if s.rope.member then 1 else 0) s

/-! ### The release of a reset -/

/-- START.CAUSES bits (R630). -/
def C_STRAP : Nat := 1
/-- R630. -/
def C_TAMPER : Nat := 2
/-- R630. -/
def C_ROOT : Nat := 3
/-- R630. -/
def C_ACTIVATION : Nat := 4
/-- R630. -/
def C_IMAGE : Nat := 5
/-- R630. -/
def C_DDR_TRAIN : Nat := 6
/-- R630. -/
def C_FLASH : Nat := 7
/-- R630. -/
def C_REQUEST : Nat := 8
/-- R630. -/
def C_LIFECYCLE : Nat := 9
/-- R630. -/
def C_START_LOOP : Nat := 10

/-- Records a base camp cause; CAUSES holds cause r in bit r, from bit 1 on. -/
def addCause (c : Nat) (s : State) : State := orBits F.MGMT.START_CAUSES (2 ^ (c - 1)) s

/-- Whether a cause has been recorded at this start. -/
def hasCause (c : Nat) (s : State) : Bool := (rd F.MGMT.START_CAUSES s).testBit (c - 1)

/-- The life-cycle state that a start goes on in: RECOVERY until the exit, else the fused state (R390). -/
def startLifecycle (s : State) : Nat := if s.boot.recovery then LC_RECOVERY else rd F.KEYS.LC_FUSED s

/-- Step 1 of the start (R626): the RESET record, deferred records and tamper events (R607, R608), fresh nonces, the
life-cycle state with its lock, and the causes decided here. -/
def beginStart (s : State) : State :=
  let kind := rd F.MGMT.START_RESET_KIND s
  let late := s.watch.deferred
  let s := { s with boot := { s.boot with held := false, validAt := s.now }, watch := { s.watch with deferred := [] } }
  let s := logCairn K_RESET ([kind] ++ octetsOf 2 (rd F.PWR.SAG_CAUSE_RAILS s)) s
  let s := late.foldl (fun s x => queueRecord { x with flags := x.flags + 4 } s) s
  let sensors := rd F.CANARY.TAMPER_STATUS_SENSORS s
  let s := if kind = R_TAMPER ∨ !late.isEmpty then
      let s := if sensors % 4 = 0 then s else latch 0x03 2 s
      let s := if sensors / 4 % 4 = 0 then s else latch 0x03 3 s
      let s := if sensors / 16 = 0 then s else latch 0x03 4 s
      if isSet F.CANARY.TAMPER_STATUS_ZEROIZED s then latch 0x03 5 s else s
    else s
  let s := drawWords F.BAR4.TRUST_NONCE (drawWords F.MGMT.REQ_NONCE s)
  let s := resetLock (setLifecycle (startLifecycle s) s)
  let s := if s.boot.causes.testBit C_STRAP then addCause C_STRAP s else s
  let s := if tampered s then addCause C_TAMPER s else s
  let s := if s.boot.causes.testBit C_REQUEST || isSet F.MGMT.START_ENTER_PENDING s then addCause C_REQUEST s else s
  let s := if lifecycle s = LC_BLANK ∨ lifecycle s = LC_DECOMMISSIONED then addCause C_LIFECYCLE s else s
  let s := if s.boot.causes.testBit C_START_LOOP then addCause C_START_LOOP s else s
  wr F.MGMT.START_STAGE 1 s

/-- The count of forced warm resets (R625): the fourth within 600 s is a base camp cause and the count restarts. -/
def countForced (source : Nat) (s : State) : State :=
  if source = 4 ∨ source = 5 then
    let l := s.now :: s.boot.loops.filter (fun t => s.now ≤ t + 600000000000)
    let s := if 4 ≤ l.length then
        { s with boot := { s.boot with loops := [], causes := s.boot.causes ||| 2 ^ C_START_LOOP } }
      else { s with boot := { s.boot with loops := l } }
    wr F.MGMT.START_LOOP s.boot.loops.length s
  else s

/-- The causes that last until the exit end with it, and in MANUFACTURE with every warm reset (R635). -/
def leaveCamp (exit : Bool) (s : State) : State :=
  if exit ∨ rd F.KEYS.LC_FUSED s = LC_MANUFACTURE then { s with boot := { s.boot with causes := 0 } } else s

/-- Conditions that outlast a reset show again: `bits` of page `pg` (R96). -/
def relive (pg bits : Nat) (s : State) : State :=
  if bits = 0 then s else latchBits pg bits (orBits (F.HEAD.EVT_RAW pg) bits s)

/-- A device reset (R622 to R624) that clears as `kind` and is recorded as `as'`. RECOVERY lasts until the warm reset of an exit,
which is recorded (R390); that an always-on power-on ends it is DEDUCED of LC.STATE's reset value (R392, log entry 12). Without
`hold` the start begins at once; with it, at supplies valid. -/
def performReset (kind as' source : Nat) (hold : Bool) (s : State) : State :=
  let exit : Bool := isSet F.MGMT.START_EXIT_PENDING s
  let leaves : Bool := exit && kind == R_WARM && lifecycle s == LC_RECOVERY
  let stays : Bool := lifecycle s == LC_RECOVERY && !leaves && kind != R_AON
  let unset : Bool := isSet F.TIME.STATUS_UNSET s
  let s := if kind = R_WARM then countForced source (leaveCamp exit s) else s
  let power := rd (F.HEAD.EVT_RAW 0x02) s
  let clocks := rd (F.HEAD.EVT_RAW 0x03) s
  let s := cleared kind source hold s
  let s := { s with boot := { s.boot with recovery := stays } }
  let s := if kind = R_AON then s else relive 0x02 power (relive 0x03 clocks s)
  let s := if kind = R_AON ∨ kind = R_POWER then fromCheckpoint s else s
  let s := if kind = R_AON then wr (F.RESERVE.WEAR 14) (min 65535 (rd (F.RESERVE.WEAR 14) s + 5)) s else s
  let s := holdRetired (showKept (showWear (resumeTime kind unset s)))
  let s := resetLock (setLifecycle (startLifecycle s) s)
  let s := wr F.MGMT.START_RESET_KIND as' (wr F.MGMT.START_WARM_SOURCE (if kind = R_WARM then source else 0) s)
  let s := if hold then s else beginStart s
  if leaves then logCairn K_LIFECYCLE [LC_RECOVERY, rd F.KEYS.LC_FUSED s, if isSet F.KEYS.ROOT_SEALED s then 1 else 0] s else s

/-- The kind that is recorded when a reset of `kind` meets another (R55): the more severe, and a tamper reset over all. -/
def severer (kind : Nat) (s : State) : Nat :=
  let old := rd F.MGMT.START_RESET_KIND s
  if kind = R_TAMPER ∨ old = R_TAMPER then R_TAMPER else min old kind

/-- A start has begun at this very instant, so a reset that comes now coincides with the one before it (R55). -/
def resetNow (s : State) : Bool :=
  !s.boot.held && rd F.MGMT.START_STAGE s == 1 && s.boot.validAt == s.now

/-- The RESET record of a reset that another subsumes is withdrawn: one is written, for the reset performed (R55, R624). It is the
latest in the queue; one of an earlier start that still waits stays. -/
def withdrawReset (s : State) : State :=
  { s with cairn := { s.cairn with queue := (s.cairn.queue.reverse.eraseP (fun x => x.kind == K_RESET)).reverse } }

/-- A device reset. While a power-on or sag reset is held (R54), a sag or warm reset only joins it, and a tamper reset
clears but waits for supplies valid with it. Resets of one instant are performed and recorded as the most severe of them
(R55, R624). Otherwise a warm or tamper reset starts at once, and the others hold until supplies valid. -/
def deviceReset (kind source : Nat) (s : State) : State :=
  if s.boot.held then
    if kind = R_SAG ∨ kind = R_WARM then wr F.MGMT.START_RESET_KIND (severer kind s) s
    else performReset kind (severer kind s) source true s
  else if resetNow s then
    if kind = R_WARM then s
    else if kind = R_SAG then performReset (max R_POWER (severer kind s)) (severer kind s) source true (withdrawReset s)
    else performReset kind (severer kind s) source (decide (kind ≤ R_SAG)) (withdrawReset s)
  else performReset kind kind source (decide (kind ≤ R_SAG)) s

/-- A warm reset from `source` (R623). -/
def warmReset (source : Nat) (s : State) : State := deviceReset R_WARM source s

end Sys2Proof.Machine
end

