-- ==== Sys2Proof/Machine/Trust.lean ====
section
/-! DEFINITION. The root and its PUF sources (R354 to R369), the trusted lock (R375, R376) and the life cycle (R389,
R390). -/

namespace Sys2Proof.Machine

/-! ### Derivation (R367, R368) -/

/-- The octets of ASCII text. -/
def ascii (t : String) : List Byte := t.toList.map (fun c => BitVec.ofNat 8 c.toNat)

/-- A number in four octets, most significant first. -/
def be4 (v : Nat) : List Byte := (bytesLe 4 v).reverse

/-- The counter-mode KDF of R367: `bits` of output. -/
def kdf (key : List Byte) (label : String) (context : List Byte) (bits : Nat) : List Byte :=
  ((List.range ((bits + 127) / 128)).flatMap (fun i =>
    bytesLe 16 (cmac key (be4 (i + 1) ++ ascii label ++ [0] ++ context ++ be4 bits)))).take (bits / 8)

/-- The KDF with a label given as octets (R369). -/
def kdfOctets (key label context : List Byte) (bits : Nat) : List Byte :=
  ((List.range ((bits + 127) / 128)).flatMap (fun i =>
    bytesLe 16 (cmac key (be4 (i + 1) ++ label ++ [0] ++ context ++ be4 bits)))).take (bits / 8)

/-- DIE_ID, 8 octets, low word first. -/
def dieId (s : State) : List Byte := bytesLe 4 (rd (F.IDENT.DIE_ID 0) s) ++ bytesLe 4 (rd (F.IDENT.DIE_ID 1) s)

/-- The root of R362: with the mask when the SEALED fuse is blown. -/
def rootOf (ks kd : Nat) (mask : Option Nat) : Nat :=
  leBytes (kdf (bytesLe 32 (ks ^^^ kd)) "ZK ROOT" (match mask with | some m => bytesLe 32 m | none => []) 256)

/-- ROOT_KCV of a root (R368). -/
def kcvRoot (root : Nat) : Nat := leBytes (kdf (bytesLe 32 root) "ZK KCV R" [] 64)

/-- ROOT_ID of a root (R368). -/
def rootIdOf (root : Nat) (s : State) : List Byte := kdf (bytesLe 32 root) "ZK IDENT" (dieId s) 64

/-- The pairing scalar's derivation (R368). -/
def pairScalar (root : Nat) (s : State) : List Byte := kdf (bytesLe 32 root) "ZK PAIR" (dieId s) 384

/-- A 64-bit check value of a key (R368). -/
def checkValue (label : String) (key : Nat) : Nat := leBytes (kdf (bytesLe 32 key) label [] 64)

/-- The ZK HELPER key, under which the TAG of a helper copy is computed (R368). -/
def helperKey (ks kd : Nat) (s : State) : List Byte := kdf (bytesLe 32 (ks ^^^ kd)) "ZK HELPER" (dieId s) 256

/-- The key pair of the DDR cipher that a root gives: the data key, then the tweak key (R368, R404). -/
def ddrPair (root : Nat) : List Byte := kdf (bytesLe 32 root) "ZK DDR" [] 512

/-- The key pair of the flash cipher that a root gives (R368, R405). -/
def flashPair (root : Nat) : List Byte := kdf (bytesLe 32 root) "ZK FLASH" [] 512

/-! ### Protected sectors of flash (R405, R524) -/

/-- Octets of a flash sector (R405). -/
def sectorSize : Nat := 4096

/-- What a sector gives when it is read under root `now` after it was written under root `was` (R405): the text, or where the
keys differ the stored text decrypted under the wrong key. -/
def recipher (was now n : Nat) (v : List Byte) : List Byte :=
  if was = now then v
  else
    let stored := xtsUnit false (flashPair was) n (v.map BitVec.toNat)
    (xtsUnit true (flashPair now) n stored).map (BitVec.ofNat 8)

/-- The root in force, which gives the flash key. -/
def rootNow (s : State) : Nat := s.root.root.getD 0

/-- A protected sector as a read returns it: its octets decrypted, and zeros where it is erased (R524). -/
def sectorOctets (n : Nat) (s : State) : List Byte :=
  match s.fw.sectors.find? (fun x => x.1 == n) with
  | some x => recipher (look s.fw.roots n (rootNow s)) (rootNow s) n x.2
  | none => List.replicate sectorSize 0

/-- A protected sector is programmed with `v` under the flash key in force. -/
def programSector (n : Nat) (v : List Byte) (s : State) : State :=
  { s with fw := { s.fw with sectors := insert s.fw.sectors n v, roots := insert s.fw.roots n (rootNow s) } }

/-- A protected sector is erased. -/
def eraseSector (n : Nat) (s : State) : State :=
  { s with fw := { s.fw with sectors := erase s.fw.sectors n, roots := erase s.fw.roots n } }

/-- The protected sectors of `old`, read under its root, are written again under the root of `s` (R366 step 3). -/
def resealSectors (old s : State) : State :=
  { s with fw := { s.fw with
    sectors := old.fw.sectors.map (fun x => (x.1, sectorOctets x.1 old))
    roots := old.fw.sectors.map (fun x => (x.1, rootNow s)) } }

/-! ### Helper data and readiness -/

/-- Powered hours (R604). -/
def poweredHours (s : State) : Nat := rd F.RESERVE.POWERED_S s / 3600

/-- The active helper copy: of the valid ones, the one with the higher REFRESH count (R356 step 1). -/
def helper (s : State) : Option Helper :=
  match s.root.copy0, s.root.copy1 with
  | some a, some b => some (if a.refresh < b.refresh then b else a)
  | some a, none => some a
  | none, b => b

/-- PUF_AGE: powered hours since enrolment; 0 without helper data. -/
def showAge (s : State) : State :=
  wr F.KEYS.PUF_AGE (match helper s with | some h => poweredHours s - h.enrolledAt | none => 0) s

/-- The helper data in use as KEYS shows it. -/
def showHelper (s : State) : State :=
  let s := match helper s with
    | some h => wr (F.KEYS.PUF_SRAM_BLOCKS 0) h.block0 (wr (F.KEYS.PUF_SRAM_BLOCKS 1) h.block1 s)
    | none => s
  showAge (wr F.KEYS.PUF_SRAM_RETIRED s.root.blocks s)

/-- The root is ready (R356 step 6): ROOT_ID shows, and the flash key and the pairing key follow (R406, R409). -/
def makeReady (ks kd root : Nat) (s : State) : State :=
  let s := { s with root := { s.root with keys := some (ks, kd), root := some root } }
  let i := rootIdOf root s
  let s := wr (F.KEYS.IDENTITY 0) (leBytes (i.take 4)) (wr (F.KEYS.IDENTITY 1) (leBytes (i.drop 4)) s)
  let pub := bytesLe 64 (pairPublic (pairScalar root s))
  let s := (List.range 16).foldl (fun s k => wr (F.ROPE.OWN_PUB k) (leBytes ((pub.drop (4 * k)).take 4)) s) s
  wr F.SCIPHER.STATUS_FLASH_KEY 1 (wr F.KEYS.ROOT_READY 1 s)

/-- K_S, K_D, the root and the system keys are zeroized (R364). -/
def dropRoot (s : State) : State :=
  let s := { s with root := { s.root with keys := none, root := none } }
  let s := (List.range 16).foldl (fun s k => wr (F.ROPE.OWN_PUB k) 0 s) s
  wr (F.KEYS.IDENTITY 0) 0 (wr (F.KEYS.IDENTITY 1) 0 (wr F.SCIPHER.STATUS_FLASH_KEY 0 (wr F.KEYS.ROOT_READY 0 s)))

/-! ### The helper record (R354, R361) -/

/-- `n` copies of each of the first `w` bits of a number, in order. -/
def repeatBits (n w v : Nat) : Nat :=
  ((List.range w).filter (fun i => v.testBit i)).foldl (fun m i => m + (2 ^ n - 1) * 2 ^ (n * i)) 0

/-- The code of K_S: 256 bits and 89 zeros in three BCH(255, 115) words, each bit repeated 7 times (R354). -/
def sramCode (ks : Nat) : Nat :=
  repeatBits 7 765 (((List.range 3).map (fun i => Config.bch 255 (ks / 2 ^ (115 * i) % 2 ^ 115) % 2 ^ 255 * 2 ^ (255 * i))).sum)

/-- The code of K_D: four BCH(127, 64) words (R354). -/
def delayCode (kd : Nat) : Nat :=
  ((List.range 4).map (fun i => Config.bch 127 (kd / 2 ^ (64 * i) % 2 ^ 64) % 2 ^ 127 * 2 ^ (127 * i))).sum

/-- Octets 0 to 1571 of a helper copy (R361). -/
def Helper.body (h : Helper) : List Byte :=
  ascii "ZKHD" ++ [1, if h.withMask then 1 else 0] ++ bytesLe 2 h.refresh ++ bytesLe 4 h.enrolledAt ++
    bytesLe 1 (h.block0 + h.block1 * 16) ++ [0] ++ bytesLe 2 h.offset ++ bytesLe 128 h.pairs ++ bytesLe 670 h.sram0 ++
    bytesLe 670 h.sram1 ++ bytesLe 64 h.delay ++ bytesLe 8 h.kcvS ++ bytesLe 8 h.kcvD ++ bytesLe 8 h.kcv

/-- The TAG of a helper copy under the helper key (R361). -/
def Helper.tagOf (h : Helper) (key : List Byte) : Nat := cmac key h.body

/-- The 1,592 octets of a helper copy (R361). -/
def Helper.octets (h : Helper) : List Byte :=
  let b := h.body ++ bytesLe 16 h.tag
  b ++ bytesLe 4 (crc32 (b.map BitVec.toNat))

/-- A copy under its own keys' TAG. -/
def Helper.tagged (h : Helper) (s : State) : Helper := { h with tag := h.tagOf (helperKey h.ks h.kd s) }

/-! ### Reconstruction (R356, R358) -/

/-- PUF_ALARM (R358). -/
def pufAlarm (s : State) : State :=
  latch 0x30 3 (wr F.KEYS.ROOT_ALARM 1 { s with root := { s.root with alarmAt := some s.now } })

/-- The figures of a reading, with the alarm they call for (R358). -/
def noteRead (h : Helper) (r : PufRead) (s : State) : State :=
  let w := max (r.sram0.getD 0) (r.sram1.getD 0)
  let s := wr F.KEYS.PUF_SRAM_WORST (min 21 w) (wr F.KEYS.PUF_DELAY_WORST (min 10 (r.delay.getD 0)) s)
  let one : Bool := r.sram0.isSome != r.sram1.isSome
  let s := if one then
      orBits F.KEYS.PUF_SRAM_BLOCK_FAIL (2 ^ (if r.sram0.isNone then h.block0 else h.block1)) s
    else s
  if decide (10 < w) || decide (5 < r.delay.getD 0) || one then pufAlarm s else s

/-- What reconstruction from a helper copy ends in (R356): a code of ROOT.RESULT, or the root. `r` says what the sources give: a
block or the line that decodes gives the key that the code offset carries, and `tagOk` that flash holds the copy as it was
written (log entry 30). -/
def rebuild (h : Helper) (r : PufRead) (s : State) : Nat ⊕ Nat :=
  if (r.sram0.isNone ∧ r.sram1.isNone) ∨ checkValue "ZK KCV S" h.ks ≠ h.kcvS then .inl 3
  else if r.delay.isNone ∨ checkValue "ZK KCV D" h.kd ≠ h.kcvD then .inl 4
  else if !r.tagOk ∨ h.tagOf (helperKey h.ks h.kd s) ≠ h.tag then .inl 5
  else
    let sealed := isSet F.KEYS.ROOT_SEALED s
    if sealed && s.root.mask.isNone then .inl 6
    else
      let root := rootOf h.ks h.kd (if sealed then s.root.mask else none)
      if kcvRoot root = h.kcv then .inr root else .inl 6

/-- Reconstruction at a start (R356). -/
def reconstruct (r : PufRead) (s : State) : State :=
  match helper s with
  | none => wr F.KEYS.ROOT_RESULT 2 s
  | some h =>
    let s := noteRead h r (showHelper s)
    match rebuild h r s with
    | .inl e => wr F.KEYS.ROOT_RESULT e s
    | .inr root => makeReady h.ks h.kd root (wr F.KEYS.ROOT_RESULT 1 s)

/-! ### Enrolment, refresh, swap and reseal (R355, R359, R360, R365) -/

/-- The result of a PUF command (R377). -/
def pufResult (v : Nat) (s : State) : State := wr F.BAR4.PUF_STATUS_RESULT v s

/-- A fresh 256-bit value from the entropy source. -/
def draw256 (s : State) : Nat × State :=
  let (d, s) := draw s
  (Config.entropy d % 2 ^ 256, s)

/-- A new SRAM_OFFSET (R359): a multiple of 8 from 0 to 60,176 that differs from the last four used. Which of them is the
controller's choice, a free value. -/
def newOffset (s : State) : Nat × State :=
  let (d, s) := draw s
  let o := ((List.range 5).map (fun k => 8 * ((Config.entropy d + k) % 7523))).find? (fun o => !s.root.offsets.contains o)
  let o := o.getD 0
  (o, { s with root := { s.root with offsets := (o :: s.root.offsets).take 4 } })

/-- The 512 pairs that an enrolment takes (R355, R359): `pairs` names those of the largest margin; of the non-retired pairs it
takes those that are named, and then others from the lowest number up, until there are 512 (log entry 30). -/
def choosePairs (pairs : Nat) (s : State) : Nat :=
  let live := (List.range 1024).filter (fun i => !s.root.pairs.testBit i)
  ((live.filter (fun i => pairs.testBit i) ++ live.filter (fun i => !pairs.testBit i)).take 512).foldl (fun m i => m + 2 ^ i) 0

/-- The helper data of keys (R354, R361), with ROOT_KCV taken as the SEALED fuse says. The responses of the sources, which the helper
bits hide, are free values. REFRESH has 16 bits. -/
def helperOf (ks kd block0 block1 offset pairs refresh : Nat) (s : State) : Helper × State :=
  let (r0, s) := draw s
  let (r1, s) := draw s
  let (r2, s) := draw s
  let sealed := isSet F.KEYS.ROOT_SEALED s
  let h : Helper := {
    withMask := sealed, refresh := refresh % 65536, enrolledAt := poweredHours s, block0, block1, offset, pairs, ks, kd
    kcv := kcvRoot (rootOf ks kd (if sealed then s.root.mask else none))
    kcvS := checkValue "ZK KCV S" ks, kcvD := checkValue "ZK KCV D" kd
    sram0 := sramCode ks ^^^ (Config.entropy r0 % 2 ^ 5355), sram1 := sramCode ks ^^^ (Config.entropy r1 % 2 ^ 5355)
    delay := delayCode kd ^^^ (Config.entropy r2 % 2 ^ 508), tag := 0 }
  (h.tagged s, s)

/-- Writes the copy that is not active, or drops it where its reconstruction failed (R359 step 3). -/
def writeOther (h : Option Helper) (s : State) : State :=
  match s.root.copy0, s.root.copy1 with
  | some a, some b => if a.refresh < b.refresh then { s with root := { s.root with copy0 := h } }
      else { s with root := { s.root with copy1 := h } }
  | some _, none => { s with root := { s.root with copy1 := h } }
  | none, _ => { s with root := { s.root with copy0 := h } }

/-- The two lowest blocks that are not retired. -/
def freeBlocks (s : State) : List Nat := (List.range 4).filter (fun b => !s.root.blocks.testBit b)

/-- Enrolment of new keys (R355) into the blocks in service, which only a SWAP changes (R360): `entropyOk` is the health test,
`pairs` names the pairs of the largest margin, `read` is the reconstruction from the new copy. With fewer than 512 pairs left it ends as a refresh does (R359, DEDUCED, log entry 17). Answers
the result of R377. -/
def enrol (entropyOk : Bool) (pairs : Nat) (read : PufRead) (flashError : Bool) (s : State) : Nat × State :=
  if !entropyOk then (3, s)
  else if usablePairs s < 512 then (5, reserveLow 6 s)
  else if flashError then (6, s)
  else
    let (ks, s) := draw256 s
    let (kd, s) := draw256 s
    let (o, s) := newOffset s
    let n := (match helper s with | some h => h.refresh + 1 | none => 0)
    let (h, s) := helperOf ks kd s.root.serving0 s.root.serving1 o (choosePairs pairs s) n s
    match rebuild h read s with
    | .inl _ => (4, s)
    | .inr root =>
      let s := showHelper { s with root := { s.root with copy0 := some h, copy1 := some h, strikes := [] } }
      (1, makeReady ks kd root (wr F.KEYS.ROOT_RESULT 8 s))

/-- Whether the PUF commands of R377 are accepted: REFRESH and SWAP. -/
def mayRefresh (s : State) : Bool :=
  (lifecycle s == LC_PROVISIONED || lifecycle s == LC_DEPLOYED || lifecycle s == LC_RECOVERY) && isSet F.KEYS.ROOT_READY s

/-- ENROL (R355, R377). -/
def pufEnrol (entropyOk : Bool) (pairs : Nat) (read : PufRead) (flashError : Bool) (s : State) : State :=
  if lifecycle s ≠ LC_RECOVERY then pufResult 2 s
  else
    let r := enrol entropyOk pairs read flashError s
    pufResult r.1 r.2

/-- Pairs that disagreed at three successive refreshes retire (R359). -/
def strikePairs (disagree : Nat) (s : State) : State :=
  let live := (List.range 1024).filter (fun i => !s.root.pairs.testBit i)
  let strikes := live.filterMap (fun i =>
    if disagree.testBit i then some (i, look s.root.strikes i 0 + 1) else none)
  let gone := (strikes.filter (fun x => 3 ≤ x.2)).foldl (fun m x => m ||| 2 ^ x.1) 0
  let s := { s with root := { s.root with strikes := strikes.filter (fun x => x.2 < 3), pairs := s.root.pairs ||| gone } }
  wr F.KEYS.PUF_DELAY_USABLE (usablePairs s) s

/-- The re-enrolment of R359 over the pairs chosen of `pairs`, `disagree` the pairs whose bit disagreed in more than 2 comparisons.
A refresh that succeeds answers the alarm it follows; an alarm that its own reconstruction raises stands. Answers the result of
R377. -/
def refresh (pairs disagree : Nat) (read : PufRead) (flashError : Bool) (s : State) : Nat × State :=
  match helper s with
  | none => (2, s)
  | some h =>
    let s := strikePairs disagree s
    if usablePairs s < 512 then (5, reserveLow 6 s)
    else if flashError then (6, s)
    else
      let (o, s) := newOffset s
      let (n, s) := helperOf h.ks h.kd h.block0 h.block1 o (choosePairs pairs s) (h.refresh + 1) s
      let was := s.root.alarmAt
      let s := noteRead n read { s with root := { s.root with alarmAt := none } }
      match rebuild n read s with
      | .inl _ =>
        let s := { s with root := { s.root with alarmAt := if s.root.alarmAt.isSome then s.root.alarmAt else was } }
        (4, writeOther none s)
      | .inr _ => (1, showHelper (writeOther (some n) s))

/-- REFRESH (R359, R377). -/
def pufRefresh (pairs disagree : Nat) (read : PufRead) (flashError : Bool) (s : State) : State :=
  if !mayRefresh s then pufResult 2 s
  else
    let r := refresh pairs disagree read flashError s
    pufResult r.1 r.2

/-- Celley's own refresh (R359): at 17,532 powered hours, and within 24 h of PUF_ALARM. -/
def pufAutoRefresh (pairs disagree : Nat) (read : PufRead) (flashError : Bool) (s : State) : State :=
  if mayRefresh s && (17532 ≤ rd F.KEYS.PUF_AGE s || s.root.alarmAt.isSome) then
    let r := refresh pairs disagree read flashError s
    pufResult r.1 r.2
  else s

/-- SWAP (R360): K_S is enrolled into the reserve block, the new copy becomes active, and SWAP_OUT retires. -/
def pufSwap (out into : Nat) (read : PufRead) (flashError : Bool) (s : State) : State :=
  if !mayRefresh s then pufResult 2 s
  else
    match helper s with
    | none => pufResult 2 s
    | some h =>
      let serves : Bool := out == h.block0 || out == h.block1
      let free : Bool := decide (into < 4) && into != h.block0 && into != h.block1 && !s.root.blocks.testBit into
      if !(serves && free) then pufResult 2 s
      else if flashError then pufResult 6 s
      else
        let b0 := if out = h.block0 then into else h.block0
        let b1 := if out = h.block0 then h.block1 else into
        let (n, s) := helperOf h.ks h.kd b0 b1 h.offset h.pairs (h.refresh + 1) s
        let n := Helper.tagged { n with enrolledAt := h.enrolledAt } s
        let s := noteRead n read s
        match rebuild n read s with
        | .inl _ => pufResult 4 (writeOther none s)
        | .inr _ =>
          let s := writeOther (some n) s
          let s := { s with root := { s.root with blocks := s.root.blocks ||| 2 ^ out, serving0 := b0, serving1 := b1 } }
          pufResult 1 (showHelper (engaged 5 out into s))

/-- VBAT_TAMPER is present and not low (R366). -/
def vbatGood (s : State) : Bool := isSet F.PWR.VBAT_PRESENT s && !isSet F.PWR.VBAT_LOW s

/-- A mask is drawn into the tamper domain and both helper copies are rewritten under the new root (R365, R366), a missing one from
the active copy. -/
def remask (ks kd : Nat) (s : State) : State :=
  let (m, s) := draw256 s
  let root := rootOf ks kd (some m)
  let f := fun (h : Helper) => Helper.tagged { h with withMask := true, kcv := kcvRoot root } s
  let a := helper s
  let copy0 := (s.root.copy0.orElse (fun _ => a)).map f
  let copy1 := (s.root.copy1.orElse (fun _ => a)).map f
  makeReady ks kd root { s with root := { s.root with mask := some m, copy0 := copy0, copy1 := copy1 } }

/-- RESEAL (R365): a new mask and a new root for a sealed device in RECOVERY. -/
def pufReseal (entropyOk : Bool) (read : PufRead) (flashError : Bool) (s : State) : State :=
  if lifecycle s ≠ LC_RECOVERY ∨ !isSet F.KEYS.ROOT_SEALED s then pufResult 2 s
  else if !vbatGood s then pufResult 7 s
  else if !entropyOk then pufResult 3 s
  else
    match helper s with
    | none => pufResult 4 s
    | some h =>
      let s := noteRead h read s
      if (read.sram0.isNone && read.sram1.isNone) || read.delay.isNone || !read.tagOk then pufResult 4 s
      else if flashError then pufResult 6 s
      else pufResult 1 (wr F.KEYS.ROOT_RESULT 1 (remask h.ks h.kd s))

/-! ### BAR4 (R375, R377, R394) -/

/-- A BAR4 write that the closed lock discards (R375). -/
def trustDenied (s : State) : State := inc F.KEYS.TRUST_DENIED s

/-- Whether the lock is open. -/
def lockOpen (s : State) : Bool := isSet F.BAR4.TRUST_STATUS_OPEN s

/-- A rejected BAR4 write, recorded on the KEYS page with offset bits [11:0] (R377). -/
def reject4 (off : Nat) (why : Reason) (data : Nat) (s : State) : State :=
  reject 0x30 (off % 4096) .bar0 why (BitVec.ofNat 32 data) s

/-- Whether the KEYS page lets commands run (R394). -/
def keysAccept (s : State) : Bool := pageState 0x30 s ∈ [OFF, STARTING, RUN, STOPPED]

/-- A BAR4 command at `off` with `data`: discarded while the lock is closed, rejected in TEST, FAULT and DRAINING, else
`f`. -/
def bar4Command (off data : Nat) (f : State → State) (s : State) : State :=
  if !lockOpen s then trustDenied s
  else if !keysAccept s then reject4 off .state data s
  else f s

/-! ### The trusted lock -/

/-- The octets of a run of registers. -/
def regOctets (f : Nat → Field) (n : Nat) (s : State) : List Byte := (List.range n).flatMap (fun k => bytesLe 4 (rd (f k) s))

/-- The message of an unlock token (R376). -/
def unlockMessage (s : State) : List Byte :=
  ascii "ZK-UNLOCK" ++ dieId s ++ regOctets F.BAR4.TRUST_NONCE 4 s ++ bytesLe 4 (rd F.BAR4.TRUST_DURATION s) ++
    bytesLe 1 (lifecycle s)

/-- UNLOCK (R375, R376): one verification by the PKE, the first user served (R412). -/
def trustUnlock (s : State) : State :=
  let redraw := drawWords F.BAR4.TRUST_NONCE
  let result := fun (v : Nat) (s : State) => wr F.BAR4.TRUST_STATUS_RESULT v s
  if (lifecycle s ≠ LC_DEPLOYED ∧ lifecycle s ≠ LC_RECOVERY) ∨ pageState 0x33 s = FAULT then redraw (result 4 s)
  else
    let pub := regOctets F.BAR4.TRUST_PUBKEY 24 s
    if some (sha384 pub % 2 ^ 384) ≠ s.root.ownerPin then redraw (result 2 s)
    else
      let s := inc F.PKE.OPS s
      let ok := verify 2 pub (regOctets F.BAR4.TRUST_SIG 24 s) (bytesLe 48 (sha384 (unlockMessage s)))
      if ok = some true then
        let t := rd F.BAR4.TRUST_DURATION s
        let s := { s with root := { s.root with trustEnd := some (s.now + t * 1000000000) } }
        redraw (result 1 (wr F.BAR4.TRUST_STATUS_OPEN 1 (wr F.BAR4.TRUST_STATUS_REMAINING t s)))
      else redraw (result 3 (inc F.PKE.INVALIDS s))

/-- CLOSE (R375). -/
def trustClose (s : State) : State := closeLock s

/-- TRUST.DURATION has passed (R375). -/
def trustExpiry (s : State) : State := if s.root.trustEnd.isSome then closeLock s else s

/-- REMAINING of a lock that a token opened. -/
def showTrust (s : State) : State :=
  match s.root.trustEnd with
  | some t => wr F.BAR4.TRUST_STATUS_REMAINING ((t - s.now + 999999999) / 1000000000) s
  | none => s

/-! ### The life cycle (R389, R390) -/

/-- The data word of LC.CMD. -/
def lcWord (target : Nat) (withSeal exit : Bool) : Nat :=
  target + (if withSeal then 256 else 0) + (if exit then 512 else 0) + 0xA5C3 * 65536

/-- The result of a life-cycle command (R377). -/
def lcResult (v : Nat) (s : State) : State := wr F.BAR4.LC_STATUS_RESULT v s

/-- A fused transition: the state, its record, and the lock closes (R390, R375). -/
def fuse (dest : Nat) (s : State) : State :=
  let from' := lifecycle s
  let s := setLifecycle dest (wr F.KEYS.LC_FUSED dest s)
  let s := logCairn K_LIFECYCLE [from', dest, if isSet F.KEYS.ROOT_SEALED s then 1 else 0] s
  closeLock (lcResult 1 s)

/-- Slots and cache are zeroized, every VALID is 0 (R364). -/
def zeroizeSlots (s : State) : State :=
  setCache [] { s with slots := s.slots.filterMap (fun x =>
    if x.2.gen = 0 ∧ x.2.uses = 0 then none else some (x.1, { gen := x.2.gen, uses := x.2.uses })) }

/-- SEAL in its order, ending in a warm reset (R366, R623). -/
def sealRoot (s : State) : State :=
  match s.root.keys with
  | none => lcResult 3 s
  | some (ks, kd) =>
    let s := resealSectors s (remask ks kd s)
    let s := closeLock (lcResult 1 (wr F.KEYS.ROOT_SEALED 1 s))
    warmReset 6 s

/-- SEAL of an unsealed root (R366). -/
def lcSeal (flashError : Bool) (s : State) : State :=
  if (lifecycle s ≠ LC_PROVISIONED ∧ lifecycle s ≠ LC_DEPLOYED) ∨ isSet F.KEYS.ROOT_SEALED s then lcResult 2 s
  else if !isSet F.KEYS.ROOT_READY s then lcResult 3 s
  else if !vbatGood s then lcResult 5 s
  else if flashError then lcResult 6 s
  else sealRoot s

/-- Whether the start is in base camp. -/
def inCamp (s : State) : Bool := rd F.MGMT.START_STAGE s == 15

/-- EXIT (R390, R635): leave RECOVERY at the next warm reset. -/
def mayExit (s : State) : Bool := lifecycle s == LC_RECOVERY && !tampered s

/-- LC.CMD.EXIT (R635, R390). -/
def lcExit (s : State) : State := if mayExit s then lcResult 1 (wr F.MGMT.START_EXIT_PENDING 1 s) else lcResult 2 s

end Sys2Proof.Machine
end

