-- ==== Sys2Proof/Machine/Ecc.lean ====
section
/-! DEFINITION. What an ECC error in DDR, a parity error in SRAM and a flash error record (R512, R513, R515, R517, R523). -/

namespace Sys2Proof.Machine

/-- Whether mains are back for 100 ms: LEVEL follows PWR_RESTORED. -/
def mainsBack (s : State) : Bool := isSet F.PWR.PWR_FAIL_LEVEL s

/-- DDR in self-refresh (R613, R614 step 3, R616): from the end of the key mirror until, once the entry is complete, PWR_FAIL_N has
been high for 100 ms. -/
def selfRefresh (s : State) : Bool :=
  (rd F.CANARY.BIVOUAC_STATE s == 1 && s.boot.mirrored) || (decide (2 ≤ rd F.CANARY.BIVOUAC_STATE s) && !mainsBack s)

/-- Whether DDR is trained and in service. -/
def ddrUp (s : State) : Bool := pageState 0x44 s == RUN

/-- The trained DDR in octets. -/
def ddrSize (s : State) : Nat := rd F.DDR.SIZE_GIB s * 2 ^ 30

/-- DDR_LAST (R515). -/
def ddrLast (addr syn : Nat) (ue : Bool) (s : State) : State :=
  let line := addr / 64 * 64
  wr F.MEMINT.DDR_LAST_ADDR_LO line (wr F.MEMINT.DDR_LAST_ADDR_HI (line / 2 ^ 32)
    (wr F.MEMINT.DDR_LAST_SYNDROME syn (wrBool F.MEMINT.DDR_LAST_UE ue s)))

/-- The row of 8 KiB that holds an address. -/
def rowOf (addr : Nat) : Nat := addr / 8192

/-- A row enters the repair list of 8 (R517). -/
def listRow (row : Nat) (s : State) : State :=
  if s.mem.repair.contains row || decide (8 ≤ s.mem.repair.length) then s
  else
    let s := { s with mem := { s.mem with repair := s.mem.repair ++ [row] } }
    wr F.MEMINT.PPR_PENDING s.mem.repair.length s

/-- A corrected DDR word (R515); the fourth in a row within 24 h lists the row (R517). -/
def ddrCorrected (addr syn : Nat) (s : State) : State :=
  let s := latch 0x46 0 (inc F.MEMINT.DDR_CE_COUNT (ddrLast addr syn false s))
  let l := (rowOf addr, s.now) :: s.mem.ceRows.filter (fun x => s.now < x.2 + 86400000000000)
  let s := { s with mem := { s.mem with ceRows := l } }
  if 4 ≤ (l.filter (fun x => x.1 == rowOf addr)).length then listRow (rowOf addr) s else s

/-- An uncorrectable DDR line (R515, R517). -/
def ddrUncorrectable (addr syn : Nat) (s : State) : State :=
  let s := { s with mem := { s.mem with ueAt := some s.now } }
  listRow (rowOf addr) (latch 0x46 1 (inc F.MEMINT.DDR_UE_COUNT (ddrLast addr syn true s)))

/-- An uncorrectable line met by an access whose syndrome the command does not carry: the syndrome is a free value. -/
def ddrLost (addr : Nat) (s : State) : State :=
  let (d, s) := draw s
  ddrUncorrectable addr (Config.entropy d % 256) s

/-- The same where the access failed. -/
def ddrLostIf (fails : Bool) (addr : Nat) (s : State) : State := if fails then ddrLost addr s else s

/-- FLASH_ERROR with its cause and sector (R523). -/
def flashError (cause sector : Nat) (s : State) : State :=
  let s := wr F.FLASH.LAST_ERROR_CAUSE cause (wr F.FLASH.LAST_ERROR_SECTOR sector s)
  latch 0x45 0 (inc F.FLASH.ERRORS s)

end Sys2Proof.Machine
end

