-- ==== Sys2Proof/Machine/KeyOps.lean ====
section
/-! DEFINITION. The key operations of BAR4 (R377 to R388) and the use of slots by their registers (R392). -/

namespace Sys2Proof.Machine

/-! ### Results -/

/-- Results of R378. -/
def KR_DONE : Nat := 1
/-- R378. -/
def KR_BAD_ATTR : Nat := 2
/-- R378. -/
def KR_BAD_SLOT : Nat := 3
/-- R378. -/
def KR_PARENT : Nat := 4
/-- R378. -/
def KR_UNWRAP : Nat := 5
/-- R378. -/
def KR_DEPTH : Nat := 6
/-- R378. -/
def KR_LABEL : Nat := 7
/-- R378. -/
def KR_DUPLICATE : Nat := 8
/-- R378. -/
def KR_JOURNAL : Nat := 9
/-- R378. -/
def KR_NO_ROOT : Nat := 10
/-- R378. -/
def KR_REVOKED : Nat := 11
/-- R378. -/
def KR_DDR : Nat := 12
/-- R378. -/
def KR_ABORTED : Nat := 13
/-- R378. -/
def KR_FOREIGN : Nat := 14
/-- R378. -/
def KR_FLASH : Nat := 15

/-- LOAD.STATUS and its copy on the KEYS page. -/
def loadStatus (busy : Bool) (result slotNo : Nat) (s : State) : State :=
  let s := wrBool F.BAR4.LOAD_STATUS_BUSY busy (wr F.BAR4.LOAD_STATUS_RESULT result (wr F.BAR4.LOAD_STATUS_SLOT slotNo s))
  wr F.KEYS.LOAD_STATUS ((if busy then 1 else 0) + result * 16 + slotNo * 65536) s

/-- A key operation ends (R378): its result, DATA zeroized, the event and the notice. -/
def loadEnd (slotNo result : Nat) (s : State) : State :=
  let s := loadStatus false result slotNo { s with keyOp := none }
  let s := (List.range 8).foldl (fun s k => wr (F.BAR4.LOAD_DATA k) 0 s) s
  pushNotice 6 slotNo (latch 0x30 (if result = KR_DONE then 1 else 2) s)

/-! ### Attributes (R371) -/

/-- The usages that an ALG permits, bit 0 for USAGE bit 4 (R370). -/
def algUsage (alg : Nat) : Nat :=
  match alg with
  | 1 => 0x33
  | 2 => 0x3F
  | 4 => 0x40
  | 5 => 0x40
  | 6 => 0x40
  | _ => 0

/-- The key material of an ALG, in octets. -/
def algOctets (alg : Nat) : Nat := if alg = 1 then 16 else 32

/-- Whether a commit accepts the attribute word (R371). -/
def attrGood (a : BitVec 32) : Bool :=
  let alg := a.toNat % 16
  let usage := a.toNat / 16 % 256
  let master := a.toNat / 4096 % 256
  let life := a.toNat / 2 ^ 20 % 64
  usage != 0 && usage &&& algUsage alg == usage &&
    (usage &&& 8 == 0 || usage == 8) && (usage &&& 4 == 0 || usage == 4) &&
    (usage &&& 0x30 == 0 || usage &&& 3 == 0) &&
    master != 0 && (!a.getLsbD LANE_CRYPTO || alg == 1) && (!a.getLsbD 15 || a.getLsbD VERIFY) &&
    life != 0 && a.toNat / 2 ^ 27 % 16 == 0 && a.getLsbD 31

/-- The ancestors of a slot's content (R372). -/
def ancestors : Nat → Slot → State → Nat
  | 0, _, _ => 0
  | d + 1, k, s =>
    match k.parent with
    | none => 0
    | some (p, _) => 1 + ancestors d (slot p s) s

/-- The parent word (R372). -/
def Slot.parentWord (k : Slot) : Nat :=
  (match k.parent with | some (p, g) => p + 0x8000 + g * 65536 | none => 0) + k.gen * 2 ^ 24

/-- The counter-journal fingerprint of a key (R368, R386). -/
def fingerprint (key : List Byte) : Nat := leBytes (kdf key "ZK FCJ" [] 64)

/-- The ceiling recorded for a fingerprint. -/
def journalCeiling (f : Nat) (s : State) : Option Nat := (s.journal.find? (fun x => x.1 == f)).map (·.2)

/-- The record of a fingerprint as flash holds it (R386): FP, CEILING, SEQ and the CRC-16 over them. -/
def journalRecord (f c : Nat) (s : State) : List Byte :=
  let b := bytesLe 8 f ++ bytesLe 4 c ++ bytesLe 2 (look s.root.records.seqs f 0)
  b ++ bytesLe 2 (crc16 (b.map BitVec.toNat))

/-- A record is appended to the current half of the journal (R532): a full half is copied, the latest record of each fingerprint, to the
other, which becomes current. SEQ numbers the records; the spec does not say what it counts (DESIGN CHOICE, log entry 30). -/
def appendRecord (f : Nat) (s : State) : State :=
  let r := s.root.records
  let r := if r.used < 32768 then r else { r with half := 1 - r.half, used := s.journal.length }
  { s with root := { s.root with records := { r with
    used := r.used + 1, seq := (r.seq + 1) % 65536, seqs := insert r.seqs f r.seq } } }

/-- The journal takes a ceiling (R386). -/
def journalWrite (f c : Nat) (s : State) : State :=
  let s := appendRecord f s
  let s := { s with journal :=
    if (journalCeiling f s).isSome then s.journal.map (fun x => if x.1 = f then (f, c) else x) else s.journal ++ [(f, c)] }
  wr F.KEYS.JOURNAL_USED s.journal.length s

/-- The next ceiling above a counter, capped (R386). -/
def nextCeiling (v : Nat) : Nat := min (v + 65536) 0xFFFFFFFF

/-! ### A changed slot (R382) -/

/-- Transmissions secured under a slot that has changed, or under a key that descends from it, are cut and their output is
suppressed (R250, R382). Received frames meet the change at their verdict, jobs at their end. -/
def followKeyChange (x : Nat) (s : State) : State :=
  (List.range 4).foldl (fun s p =>
    match (fe p s).tx with
    | some t =>
      match t.secured with
      | some (y, _) => if y = x || !ancestorsHold 3 (slot y s) s then cutTx p .dropKeyRevoked (suppress s) else s
      | none => s
    | none => s) s

/-- A slot takes new content (R373). -/
def changeSlot (x : Nat) (k : Slot) (s : State) : State := followKeyChange x (setSlot x k s)

/-! ### The operations -/

/-- DATA[0] to DATA[7]. -/
def loadData (s : State) : List Byte := regOctets F.BAR4.LOAD_DATA 8 s

/-- ATTR. -/
def loadAttr (s : State) : BitVec 32 := BitVec.ofNat 32 (rd F.BAR4.LOAD_ATTR s)

/-- PARENT. -/
def loadParent (s : State) : Nat := rd F.BAR4.LOAD_PARENT s

/-- The DDR address of LOAD.ADDR. -/
def loadAddr (s : State) : Nat := winAddr (rd F.BAR4.LOAD_ADDR s) s

/-- A key goes into its slot (R378, R386, R388): without FRAME_ENC at once; with it once its counter reservation is
durable, until when the operation stays BUSY. -/
def placeKey (x : Nat) (attr : BitVec 32) (key : List Byte) (parent : Option (Nat × Nat)) (s : State) : State :=
  let old := slot x s
  let k : Slot := { attr, parent, gen := (old.gen + 1) % 256, key, uses := old.uses }
  if !k.use FRAME_ENC then loadEnd x KR_DONE (changeSlot x k s)
  else
    let f := fingerprint key
    if s.slots.any (fun y => y.1 != x && y.2.valid && y.2.use FRAME_ENC && fingerprint y.2.key == f) then
      loadEnd x KR_DUPLICATE s
    else if (journalCeiling f s).isNone && decide (16384 ≤ s.journal.length) then loadEnd x KR_JOURNAL s
    else
      let c := (journalCeiling f s).getD 0
      loadStatus true 0 x { s with keyOp := some {
        target := x, next := { attr, parent, key, txcnt := c, ceil := nextCeiling c }, parent, finger := f, begun := s.now } }

/-- COMMIT's data word. -/
def commitWord (x op label context : Nat) (forget : Bool) : Nat :=
  x + op * 4096 + label * 65536 + context * 2 ^ 24 + (if forget then 2 ^ 29 else 0)

/-- A COMMIT write (R375, R377, R394): discarded, rejected, refused for want of a root, or `f`. -/
def commit (x word : Nat) (f : State → State) (s : State) : State :=
  bar4Command 0x1030 word (fun s =>
    if isSet F.BAR4.LOAD_STATUS_BUSY s then reject4 0x1030 .action word s
    else if !isSet F.KEYS.ROOT_READY s then loadEnd x KR_NO_ROOT s
    else f s) s

/-- The parent of an operation, used for `usage` by the trusted host (R374): `f` with the slot and its GEN, or PARENT_UNUSABLE. -/
def withParent (x usage : Nat) (f : Nat → Slot → State → State) (s : State) : State :=
  let p := loadParent s
  let u := useSlot p HOST_TRUSTED usage s
  match u.1 with
  | .ok => f p (slot p u.2) u.2
  | _ => loadEnd x KR_PARENT u.2

/-- LOAD (R378). -/
def keyLoad (x : Nat) (s : State) : State :=
  commit x (commitWord x 1 0 0 false) (fun s =>
    let a := loadAttr s
    if !attrGood a then loadEnd x KR_BAD_ATTR s
    else placeKey x a ((loadData s).take (algOctets (a.toNat % 16))) none s) s

/-- UNWRAP_LOAD (R378). -/
def keyUnwrapLoad (x : Nat) (s : State) : State :=
  commit x (commitWord x 2 0 0 false) (fun s =>
    let a := loadAttr s
    if loadParent s = x then loadEnd x KR_BAD_SLOT s
    else if !attrGood a || a.toNat % 16 != 1 then loadEnd x KR_BAD_ATTR s
    else withParent x UNWRAP (fun p k s =>
      if 3 ≤ ancestors 4 k s then loadEnd x KR_DEPTH s
      else
        match unwrap k.key ((loadData s).take 24) with
        | none => loadEnd x KR_UNWRAP s
        | some key => placeKey x a (key.take 16) (some (p, k.gen)) s) s) s

/-- Whether a DERIVE label and context are acceptable (R369). -/
def labelGood (label : List Byte) (labelLen contextLen : Nat) : Bool :=
  decide (1 ≤ labelLen) && decide (labelLen ≤ 16) && decide (contextLen ≤ 16) && label.take 2 != ascii "ZK"

/-- DERIVE (R369, R378). -/
def keyDerive (x labelLen contextLen : Nat) (s : State) : State :=
  commit x (commitWord x 3 labelLen contextLen false) (fun s =>
    let a := loadAttr s
    let alg := a.toNat % 16
    let label := (loadData s).take labelLen
    let context := ((loadData s).drop 16).take contextLen
    if loadParent s = x then loadEnd x KR_BAD_SLOT s
    else if !attrGood a || !(alg == 1 || alg == 2) then loadEnd x KR_BAD_ATTR s
    else withParent x KDF_PARENT (fun p k s =>
      if 3 ≤ ancestors 4 k s then loadEnd x KR_DEPTH s
      else if !labelGood label labelLen contextLen then loadEnd x KR_LABEL s
      else placeKey x a (kdfOctets k.key label context (8 * algOctets alg)) (some (p, k.gen)) s) s) s

/-- ERASE, with FORGET the key's journal entry too (R378, R388). -/
def keyErase (x : Nat) (forget : Bool) (s : State) : State :=
  commit x (commitWord x 4 0 0 forget) (fun s =>
    let k := slot x s
    let s := if forget && k.valid then
        let f := fingerprint k.key
        let s := { s with journal := s.journal.filter (fun y => y.1 ≠ f) }
        wr F.KEYS.JOURNAL_USED s.journal.length s
      else s
    loadEnd x KR_DONE (changeSlot x k.erased s)) s

/-- The ZK SLOTBLOB key of an attribute word (R368). -/
def blobKey (a : BitVec 32) (s : State) : List Byte :=
  let root := s.root.root.getD 0
  kdf (bytesLe 32 root) "ZK SLOTBLOB" (bytesLe 4 a.toNat ++ rootIdOf root s) 256

/-- The slot blob of R379. -/
def blobOf (k : Slot) (s : State) : List Byte :=
  ascii "ZKSB" ++ [1, 0, 0, 0] ++ bytesLe 4 k.attr.toNat ++ rootIdOf (s.root.root.getD 0) s ++
    bytesLe 40 (wrap (blobKey k.attr s) ((k.key ++ List.replicate 16 0).take 32)) ++ [0, 0, 0, 0]

/-- EXPORT (R378, R379). Without a trained DDR it ends with DDR_ERROR (R631), as IMPORT and WRAP_OUT do. -/
def keyExport (x : Nat) (ddrError : Bool) (s : State) : State :=
  commit x (commitWord x 5 0 0 false) (fun s =>
    let k := slot x s
    if !k.valid || k.parent.isSome || !k.attr.getLsbD HOST_TRUSTED then loadEnd x KR_BAD_SLOT s
    else if ddrError || !ddrUp s then loadEnd x KR_DDR (ddrLostIf ddrError (loadAddr s) s)
    else loadEnd x KR_DONE { s with ddr := writeOctets s.ddr (loadAddr s) (blobOf k s) }) s

/-- IMPORT (R378, R379): the attribute word is checked once the blob has passed. -/
def keyImport (x : Nat) (ddrError : Bool) (s : State) : State :=
  commit x (commitWord x 6 0 0 false) (fun s =>
    if ddrError || !ddrUp s then loadEnd x KR_DDR (ddrLostIf ddrError (loadAddr s) s)
    else
      let b := readOctets s.ddr (loadAddr s) 64
      let a := BitVec.ofNat 32 (leBytes ((b.drop 8).take 4))
      let head : Bool := b.take 5 == ascii "ZKSB" ++ [1] && (b.drop 12).take 8 == rootIdOf (s.root.root.getD 0) s
      match (if head then unwrap (blobKey a s) ((b.drop 20).take 40) else none) with
      | none => loadEnd x KR_FOREIGN s
      | some key =>
        if !attrGood a then loadEnd x KR_BAD_ATTR s
        else placeKey x a (key.take (algOctets (a.toNat % 16))) none s) s

/-- WRAP_OUT (R378, R379). -/
def keyWrapOut (x : Nat) (ddrError : Bool) (s : State) : State :=
  commit x (commitWord x 7 0 0 false) (fun s =>
    withParent x WRAP (fun _ k s =>
      if ddrError || !ddrUp s then loadEnd x KR_DDR (ddrLostIf ddrError (loadAddr s) s)
      else
        let w := bytesLe 24 (wrap k.key ((loadData s).take 16))
        loadEnd x KR_DONE { s with ddr := writeOctets s.ddr (loadAddr s) w }) s) s

/-- The first sector of the counter journal (R532, R405). -/
def journalSector : Nat := 256

/-- Whether an ACTIVE member may not yet count a ceiling of a key as durable (R584): the standby has not acknowledged its
RESERVE, or the partner was lost less than 5 ms ago. -/
def ceilingHeld (f : Nat) (s : State) : Bool :=
  rd F.ROPE.ROLE_STATE s == 4 &&
    (if isSet F.ROPE.LINK_ATTACHED s then
      s.rope.unacked.any (fun x => match x.2 with
        | .reserve g _ => g == f
        | _ => false)
    else s.rope.lostAt.isSome && !s.rope.mayExtend)

/-- What a slot holds once a load is done (R373, R374): GEN and USES go on from what the slot holds by then. -/
def loaded (x : Nat) (k : Slot) (s : State) : Slot :=
  { k with gen := ((slot x s).gen + 1) % 256, uses := (slot x s).uses }

/-- The counter reservation of a running load is durable, or its write has failed (R378, R386): the slot takes the key, a
parent that changed meanwhile revokes it (R382). A ceiling that was recorded meanwhile is where TXCNT starts, with a reservation of
its own. -/
def keyOpDone (durable : Bool) (s : State) : State :=
  match s.keyOp with
  | none => s
  | some o =>
    let holds : Bool := match o.parent with
      | some (p, g) => (slot p s).gen == g && ancestorsHold 3 (slot p s) s
      | none => true
    if !holds then loadEnd o.target KR_REVOKED (suppress s)
    else if ceilingHeld o.finger s then s
    else if !durable then loadEnd o.target KR_FLASH (flashError 5 journalSector s)
    else
      let c := (journalCeiling o.finger s).getD 0
      if c ≠ o.next.txcnt then { s with keyOp := some { o with next := { o.next with txcnt := c, ceil := nextCeiling c } } }
      else
        let s := journalWrite o.finger o.next.ceil s
        loadEnd o.target KR_DONE (changeSlot o.target (loaded o.target o.next s) s)

/-- The next ceiling of a slot is durable, or its write has failed (R386). A failed write is tried again. -/
def journalWriteDone (x : Nat) (ok : Bool) (s : State) : State :=
  let k := slot x s
  if !k.writing || ceilingHeld (fingerprint k.key) s then s
  else if !ok then flashError 5 journalSector s
  else
    let c := nextCeiling k.ceil
    journalWrite (fingerprint k.key) c
      (setSlot x { k with ceil := c, writing := decide (c ≤ k.txcnt + 16384) && decide (c < 0xFFFFFFFF) } s)

/-- The cache has dropped the entries of a slot's old GEN (R383). -/
def cacheFlushDone (x : Nat) (s : State) : State :=
  latch 0x30 4 (setCache (s.cache.filter (fun e => e.2.1 ≠ x || e.2.2 = (slot x s).gen)) s)

/-- FORCE_STOP of KEYS: an operation in flight ends as ABORTED (R394). -/
def keysForceStop (s : State) : State :=
  match s.keyOp with
  | some o => loadEnd o.target KR_ABORTED s
  | none => s

/-! ### Life-cycle transitions (R390) -/

/-- A transition named by LC.CMD (R390). A key operation in progress ends with the slots that DECOMMISSIONED takes (R391; DEDUCED, log
entry 30). -/
def lcTransition (target : Nat) (withSeal flashError : Bool) (s : State) : State :=
  let from' := lifecycle s
  if target = LC_DECOMMISSIONED then
    if from' = LC_BLANK ∨ from' = LC_DECOMMISSIONED then lcResult 2 s
    else if flashError then lcResult 6 s
    else
      let s := dropRoot (zeroizeSlots (keysForceStop s))
      let s := { s with root := { s.root with mask := none, copy0 := none, copy1 := none } }
      fuse LC_DECOMMISSIONED (showHelper (wr F.KEYS.ROOT_RESULT 9 s))
  else if from' = LC_MANUFACTURE ∧ target = LC_PROVISIONED then
    if !isSet F.KEYS.ROOT_READY s then lcResult 3 s
    else if !s.root.pinSet then lcResult 2 s
    else if withSeal && !vbatGood s then lcResult 5 s
    else if flashError then lcResult 6 s
    else
      let pin := leBytes (regOctets F.BAR4.LC_OWNER_PIN 12 s)
      let s := fuse LC_PROVISIONED { s with root := { s.root with ownerPin := some pin } }
      if withSeal && !isSet F.KEYS.ROOT_SEALED s then sealRoot s else s
  else if from' = LC_PROVISIONED ∧ target = LC_DEPLOYED then
    if withSeal then lcResult 2 s
    else if !isSet F.REGLOCK.STATUS_VALID s then lcResult 4 s
    else if flashError then lcResult 6 s
    else fuse LC_DEPLOYED s
  else lcResult 2 s

/-! ### The registers of R392 -/

/-- The VALID slots in ascending order. -/
def validSlots (s : State) : List Nat := (s.slots.filter (fun x => x.2.valid)).map (·.1)

/-- Shows a slot in SCAN. -/
def showSlotScan (x : Option Nat) (s : State) : State :=
  match x with
  | none => wr F.KEYS.SCAN0_SLOT 0 (wr F.KEYS.SCAN0_NONE 1 (wr F.KEYS.SCAN1 0 (wr F.KEYS.SCAN2 0 (wr F.KEYS.SCAN3 0 s))))
  | some x =>
    let k := slot x s
    wr F.KEYS.SCAN0_SLOT x (wr F.KEYS.SCAN0_NONE 0 (wr F.KEYS.SCAN1 k.attr.toNat (wr F.KEYS.SCAN2 k.parentWord
      (wr F.KEYS.SCAN3 k.uses s))))

/-- The scanned slot, or the next VALID one where it is none. -/
def keysScanNow (s : State) : Option Nat :=
  let v := validSlots s
  let c := rd F.KEYS.SCAN0_SLOT s
  match v.find? (fun x => c ≤ x) with
  | some x => some x
  | none => v.head?

/-- SLOT_* of SEL, and SCAN. -/
def showSlots (s : State) : State :=
  let k := slot (rd F.KEYS.SEL s) s
  let s := wr F.KEYS.SLOT_ATTR k.attr.toNat (wr F.KEYS.SLOT_PARENT k.parentWord (wr F.KEYS.SLOT_TXCNT k.txcnt
    (wr F.KEYS.SLOT_CEILING k.ceil (wr F.KEYS.SLOT_USES k.uses s))))
  showSlotScan (keysScanNow s) s

/-- A read of SCAN[3] over MGMT SPI: it returns the uses and advances the scan to the next VALID slot, wrapping. -/
def keysScanAdvance (s : State) : State :=
  let s := { s with readData := BitVec.ofNat 32 (rd F.KEYS.SCAN3 s) }
  let v := validSlots s
  let c := rd F.KEYS.SCAN0_SLOT s
  showSlotScan (match v.find? (fun x => c < x) with | some x => some x | none => v.head?) s

end Sys2Proof.Machine
end

