-- ==== Sys2Proof/Machine/Cipher.lean ====
section
/-! DEFINITION. Cipher engines beyond their contexts: mismatches and retirement (R399, R400, R407), CCM jobs (R402, R403),
SCIPHER jobs (R408) and the public-key engine (R409 to R412). -/

namespace Sys2Proof.Machine

/-! ### Mismatches and retirement of the frame cipher engines -/

/-- An engine begins to retire (R400): it drains, and FCE8 takes its place if it is in reserve. -/
def retireEngine (e : Nat) (s : State) : State :=
  let s := wr (F.FCRYPTO.ENGINE_STATE e) 1 { s with engineChecks := s.engineChecks.filter (· ≠ e) }
  if e ≠ 8 ∧ rd (F.FCRYPTO.ENGINE_STATE 8) s = 3 then engaged 1 e 8 (wr (F.FCRYPTO.ENGINE_STATE 8) 0 s)
  else latch 0x31 2 s

/-- FAULTS_24H. -/
def showEngineFaults (e : Nat) (s : State) : State :=
  wr (F.FCRYPTO.ENGINE_FAULTS_24H e) (min 3 (engineRecent e s).length) s

/-- A mismatch on engine `e`, of user 0 reception, 1 transmission or 2 job (R399, R400): counted, and in service either a
known-answer check or, at the third within 24 h, retirement. -/
def engineMismatch (e user : Nat) (s : State) : State :=
  let s := latch 0x31 0 (inc F.FCRYPTO.MISMATCHES s)
  let s := wr F.FCRYPTO.LAST_FAULT_ENGINE e (wr F.FCRYPTO.LAST_FAULT_USER user (wr F.FCRYPTO.LAST_FAULT_CAUSE 1 s))
  let s := incSat (F.FCRYPTO.ENGINE_FAULTS_TOTAL e) s
  let s := showEngineFaults e { s with engineFaults := insert s.engineFaults e (poweredNow s :: engineRecent e s) }
  if rd (F.FCRYPTO.ENGINE_STATE e) s ≠ 0 then s
  else if 3 ≤ (engineRecent e s).length then retireEngine e s
  else { s with engineChecks := e :: s.engineChecks.filter (· ≠ e) }

/-- A mismatch of a storage cipher engine (R407): the unit is repeated once. Where it fails again the access ends as an uncorrectable
one, which each reader's own command carries (a BAR2 access, a scrub, a settings copy); the job on SE2 ends as CRYPTO_FAULT. -/
def storageMismatch (e addr : Nat) (again job : Bool) (s : State) : State :=
  let s := latch 0x32 0 (incBy F.SCIPHER.MISMATCHES (if again then 2 else 1) (inc F.SCIPHER.RETRIES s))
  let s := wr F.SCIPHER.LAST_MISMATCH_ENGINE e (wr F.SCIPHER.LAST_MISMATCH_ADDR_LO addr
    (wr F.SCIPHER.LAST_MISMATCH_ADDR_HI (addr / 2 ^ 32) s))
  let s := if again then inc F.SCIPHER.FAILED s else s
  if again && job then { s with sciJob := s.sciJob.map (fun j => { j with fault := true }) } else s

/-- PATH_MISMATCH (R399). -/
def pathMismatch (u : PathUser) (s : State) : State :=
  match u with
  | .reception i =>
    match (lane i.val s).rx.engine with
    | some e => engineMismatch e 0 (modLane i.val (fun l => { l with rx := { l.rx with mismatch := true } }) s)
    | none => s
  | .transmission p =>
    match (fe p.val s).tx.bind (·.engine) with
    | some e => engineMismatch e 1 (cutTx p.val .dropCryptoFault s)
    | none => s
  | .job =>
    match s.ccmJob with
    | some j =>
      match j.engine with
      | some e => engineMismatch e 2 { s with ccmJob := some { j with fault := true } }
      | none => s
    | none => s
  | .storage e addr again job => storageMismatch e.val addr again job s

/-- The known-answer check after a mismatch (R400). -/
def knownAnswer (e : Nat) (passed : Bool) (s : State) : State :=
  if !s.engineChecks.contains e then s
  else
    let s := { s with engineChecks := s.engineChecks.filter (· ≠ e) }
    if passed || rd (F.FCRYPTO.ENGINE_STATE e) s != 0 then s
    else retireEngine e (wr F.FCRYPTO.LAST_FAULT_ENGINE e (wr F.FCRYPTO.LAST_FAULT_CAUSE 2 s))

/-- An engine drains for a self-test and not to retire (R85): the one under test, or FCE8 on its way back to RESERVE. -/
def testDrain (e : Nat) (s : State) : Bool :=
  match s.engineTest with
  | some t => (t.phase == .draining && t.unit == e) || (t.phase == .returning && e == 8)
  | none => false

/-- An engine enters RETIRED (R400, R601). -/
def engineRetired (e : Nat) (s : State) : State := blowRetired 1 e (latch 0x31 1 (wr (F.FCRYPTO.ENGINE_STATE e) 4 s))

/-- A draining engine's last context has ended (R400). -/
def engineDrained (e : Nat) (s : State) : State :=
  if rd (F.FCRYPTO.ENGINE_STATE e) s = 1 ∧ rd (F.FCRYPTO.ENGINE_CONTEXTS e) s = 0 ∧ testDrain e s = false then engineRetired e s
  else s

/-! ### The self-test of the engines (R85, R416) -/

/-- An engine that fails the self-test is retired (R400, R416). FCE8, where it serves for that engine, is its substitute. -/
def engineTestFailed (e : Nat) (s : State) : State :=
  let s := wr F.FCRYPTO.LAST_FAULT_ENGINE e (wr F.FCRYPTO.LAST_FAULT_CAUSE 3 s)
  if rd (F.FCRYPTO.ENGINE_STATE e) s = 2 then
    engineRetired e (if e ≠ 8 ∧ rd (F.FCRYPTO.ENGINE_STATE 8) s = 0 then engaged 1 e 8 s else latch 0x31 2 s)
  else if rd (F.FCRYPTO.ENGINE_STATE e) s = 0 then retireEngine e s
  else s

/-- The self-test of the engines ends with its result. -/
def engineTestEnd (failed : Option Nat) (s : State) : State :=
  let s := { s with engineTest := none }
  match failed with
  | some e => setTestResult 0x31 T_FAILED (wr (F.HEAD.TEST_STATUS_DETAIL 0x31) (0xA0 + e) s)
  | none => setTestResult 0x31 T_PASSED s

/-- The engine whose turn comes next: in service, or FCE8 while it is not retired. -/
def nextEngine (e : Nat) (s : State) : Option Nat :=
  ((List.range 9).drop e).find? (fun j => if j = 8 then rd (F.FCRYPTO.ENGINE_STATE 8) s != 4 else rd (F.FCRYPTO.ENGINE_STATE j) s == 0)

/-- The vectors begin on an engine. -/
def engineVectors (t : EngineTest) (s : State) : State :=
  setTestResult 0x31 T_RUNNING (wr (F.FCRYPTO.ENGINE_STATE t.unit) 2 { s with engineTest := some { t with phase := .running } })

/-- The next engine's turn, once FCE8 is free to serve for it; FCE8 is tested from RESERVE. With FCE8 gone, the first engine
waits for it (R84) and a test under way ends with the engines it has tested (DEDUCED, log 12). -/
def engineTurn (t : EngineTest) (s : State) : State :=
  match nextEngine t.unit s with
  | none => engineTestEnd t.failed s
  | some j =>
    let t := { t with unit := j }
    if rd (F.FCRYPTO.ENGINE_STATE 8) s = 3 then
      if j = 8 then engineVectors t s
      else
        let s := wr (F.FCRYPTO.ENGINE_STATE 8) 0 s
        if rd (F.FCRYPTO.ENGINE_CONTEXTS j) s = 0 then engineVectors t s
        else setTestResult 0x31 T_RUNNING
          (wr (F.FCRYPTO.ENGINE_STATE j) 1 { s with engineTest := some { t with phase := .draining } })
    else if rd (F.HEAD.TEST_STATUS_RESULT 0x31) s = T_WAITING then s
    else engineTestEnd t.failed s

/-- The self-test of the engines goes on as contexts end. -/
def fcryptoStep (s : State) : State :=
  match s.engineTest with
  | none => s
  | some t =>
    match t.phase with
    | .running => s
    | .still => s
    | .waiting => engineTurn t s
    | .draining => if rd (F.FCRYPTO.ENGINE_CONTEXTS t.unit) s = 0 then engineVectors t s else s
    | .returning =>
      if rd (F.FCRYPTO.ENGINE_STATE 8) s ≠ 1 ∨ rd (F.FCRYPTO.ENGINE_CONTEXTS 8) s ≠ 0 then s
      else
        let t := { t with phase := .waiting }
        engineTurn t (wr (F.FCRYPTO.ENGINE_STATE 8) 3 { s with engineTest := some t })

/-- The vectors of the engine under test have run (R416): it returns to service and FCE8 drains, or it retires. -/
def engineTested (passed : Bool) (s : State) : State :=
  match s.engineTest with
  | none => s
  | some t =>
    if t.phase ≠ .running then s
    else if passed then
      if t.unit = 8 then
        wr (F.FCRYPTO.ENGINE_STATE 8) 3 { s with engineTest := some { t with unit := 9, phase := .waiting } }
      else
        let s := wr (F.FCRYPTO.ENGINE_STATE t.unit) 0 s
        if rd (F.FCRYPTO.ENGINE_STATE 8) s = 0 then
          wr (F.FCRYPTO.ENGINE_STATE 8) 1 { s with engineTest := some { t with unit := t.unit + 1, phase := .returning } }
        else { s with engineTest := some { t with unit := t.unit + 1, phase := .waiting } }
    else
      engineTestFailed t.unit
        { s with engineTest := some { unit := t.unit + 1, phase := .waiting, failed := some (t.failed.getD t.unit) } }

/-- With the page in TEST, the next engine that is not retired runs its vectors (R416). After the last the page is STOPPED, or in FAULT
where an engine has failed. -/
def engineStill (t : EngineTest) (s : State) : State :=
  match ((List.range 9).drop t.unit).find? (fun j => rd (F.FCRYPTO.ENGINE_STATE j) s != 4) with
  | some j =>
    let back := rd (F.FCRYPTO.ENGINE_STATE j) s
    wr (F.FCRYPTO.ENGINE_STATE j) 2 { s with engineTest := some { t with unit := j, phase := .still, back } }
  | none => setPageState 0x31 (if t.failed.isSome then FAULT else STOPPED) (engineTestEnd t.failed s)

/-- The vectors of an engine have run with the page in TEST: it returns to what it was, or it is retired and FCE8, where it is in
RESERVE, takes its place (R400, R416). -/
def engineStillTested (passed : Bool) (s : State) : State :=
  match s.engineTest with
  | none => s
  | some t =>
    if t.phase ≠ .still then s
    else if passed then engineStill { t with unit := t.unit + 1 } (wr (F.FCRYPTO.ENGINE_STATE t.unit) t.back s)
    else
      let s := wr F.FCRYPTO.LAST_FAULT_ENGINE t.unit (wr F.FCRYPTO.LAST_FAULT_CAUSE 3 s)
      let s := if t.unit ≠ 8 ∧ rd (F.FCRYPTO.ENGINE_STATE 8) s = 3 then engaged 1 t.unit 8 (wr (F.FCRYPTO.ENGINE_STATE 8) 0 s)
        else latch 0x31 2 s
      engineStill { t with unit := t.unit + 1, failed := some (t.failed.getD t.unit) } (engineRetired t.unit s)

/-- The self-test of the engines is cut short: the engine under test returns to service, and FCE8 to RESERVE with what it
served ended. -/
def engineTestCut (s : State) : State :=
  match s.engineTest with
  | none => s
  | some t =>
    let s := { s with engineTest := none }
    match t.phase with
    | .waiting => s
    | .still => wr (F.FCRYPTO.ENGINE_STATE t.unit) t.back s
    | .returning => wr (F.FCRYPTO.ENGINE_STATE 8) 3 s
    | _ =>
      let s := if t.unit = 8 then s else wr (F.FCRYPTO.ENGINE_STATE t.unit) 0 s
      if t.unit = 8 ∨ rd (F.FCRYPTO.ENGINE_STATE 8) s = 0 then wr (F.FCRYPTO.ENGINE_STATE 8) 3 s else s

/-- FCE8 is held for no engine but those under test: it is in RESERVE, or serves only for the length of a self-test. -/
def engineSpare (s : State) : Bool :=
  let v := rd (F.FCRYPTO.ENGINE_STATE 8) s
  v == 3 || (match s.engineTest with
    | some t => if t.phase = .returning then v == 1
      else if t.phase = .still then t.unit == 8 && t.back == 3
      else t.phase != .waiting && (v == 0 || v == 2)
    | none => false)

/-! ### Jobs -/

/-- Results common to JOB_STATUS of both pages (R415, R417). -/
def JR_DONE : Nat := 1
/-- R415. -/
def JR_AUTH_FAIL : Nat := 2
/-- R415. -/
def JR_UNUSABLE : Nat := 3
/-- R415. -/
def JR_REVOKED : Nat := 4
/-- R415. -/
def JR_FAULT : Nat := 5
/-- R415. -/
def JR_DDR : Nat := 6
/-- R415. -/
def JR_ABORTED : Nat := 7
/-- R415. -/
def JR_BAD : Nat := 8

/-- A GO write on page `pg` at `off` (R76, R81): rejected outside RUN and while BUSY, else `f`. -/
def jobGo (pg off data : Nat) (busy : Bool) (f : State → State) (s : State) : State :=
  if pageState pg s ≠ RUN then reject pg off .bar0 .state (BitVec.ofNat 32 data) s
  else if busy then reject pg off .bar0 .action (BitVec.ofNat 32 data) s
  else f s

/-- A CCM job ends: its result and the notice (R402, R501). -/
def ccmEnd (result : Nat) (s : State) : State :=
  let s := freeEngine (s.ccmJob.bind (·.engine)) s
  pushNotice 7 0 (wr F.FCRYPTO.JOB_STATUS_BUSY 0 (wr F.FCRYPTO.JOB_STATUS_RESULT result { s with ccmJob := none }))

/-- Octets of the tag of TAG_LEN. -/
def tagOctets (v : Nat) : Nat := 4 * 2 ^ v

/-- Whether two ranges of octets have an octet in common. -/
def rangesMeet (a n b m : Nat) : Bool := n != 0 && m != 0 && areasMeet a n b m

/-- JOB.GO of FCRYPTO (R402, R403): OP 1 encrypts, OP 2 decrypts. -/
def ccmGo (op : Nat) (s : State) : State :=
  jobGo 0x31 0x0A4 op (isSet F.FCRYPTO.JOB_STATUS_BUSY s) (fun s =>
    let x := rd F.FCRYPTO.JOB_SLOT s
    let src := rd F.FCRYPTO.JOB_SRC s
    let dst := rd F.FCRYPTO.JOB_DST s
    let aad := rd F.FCRYPTO.JOB_AAD_LEN s
    let len := rd F.FCRYPTO.JOB_LENGTH s
    let tag := tagOctets (rd F.FCRYPTO.JOB_TAG_LEN s)
    let nonce := leBytes ((regOctets F.FCRYPTO.JOB_NONCE 4 s).take 13)
    let taken := aad + len + (if op = 2 then tag else 0)
    let given := len + (if op = 1 then tag else 0)
    let k := slot x s
    if rangesMeet src taken dst given then ccmEnd JR_BAD s
    else if k.attr.getLsbD LANE_CRYPTO || !(k.alg == 1 || k.alg == 2) then ccmEnd JR_UNUSABLE s
    else
      let u := useSlot x HOST_NORMAL (if op = 1 then FRAME_ENC else FRAME_DEC) s
      match u.1 with
      | .unusable => ccmEnd JR_UNUSABLE u.2
      | .revoked => ccmEnd JR_REVOKED u.2
      | .ok =>
        let e := takeEngine u.2
        match e.1 with
        | .refused _ => ccmEnd JR_FAULT e.2
        | .on e' =>
          let job : Job := { op, slot := x, gen := k.gen, key := k.key, src, dst, aad, len, tag, nonce, engine := some e' }
          wr F.FCRYPTO.JOB_STATUS_BUSY 1 { e.2 with ccmJob := some job }) s

/-- A CCM job ends (R382, R403): a key changed under it first, then a mismatch, a DDR error or no trained DDR (R631), the tag. It
stalls while DDR is in self-refresh (R24). -/
def ccmDone (ddrError : Bool) (s : State) : State :=
  match s.ccmJob with
  | none => s
  | some j =>
    if selfRefresh s then s
    else if !keyHolds j.slot j.gen s then ccmEnd JR_REVOKED (suppress s)
    else if j.fault then ccmEnd JR_FAULT s
    else if ddrError || !ddrUp s then ccmEnd JR_DDR (ddrLostIf ddrError (winAddr j.src s) s)
    else
      let src := winAddr j.src s
      let dst := winAddr j.dst s
      let aad := readOctets s.ddr src j.aad
      let nonce := bytesLe 13 j.nonce
      if j.op = 1 then
        let text := readOctets s.ddr (src + j.aad) j.len
        let out := bytesLe (j.len + j.tag) (ccmSeal j.key nonce aad text j.tag)
        ccmEnd JR_DONE { s with ddr := writeOctets s.ddr dst out }
      else
        let text := readOctets s.ddr (src + j.aad) (j.len + j.tag)
        match ccmOpen j.key nonce aad text j.tag with
        | none => ccmEnd JR_AUTH_FAIL s
        | some v => ccmEnd JR_DONE { s with ddr := writeOctets s.ddr dst (bytesLe j.len v) }

/-- A SCIPHER job ends (R408): its result, the event and the notice. -/
def sciEnd (result : Nat) (s : State) : State :=
  let s := wr F.SCIPHER.JOB_STATUS_BUSY 0 (wr F.SCIPHER.JOB_STATUS_RESULT result { s with sciJob := none })
  pushNotice 7 1 (latch 0x32 1 s)

/-- Whether an OP accepts a length (R408, R417): at least 1 octet. -/
def sciLengthGood (op len du : Nat) : Bool :=
  len != 0 && if op ≤ 2 then len % du == 0 else if op ≤ 4 then len % 16 == 0 else true

/-- JOB.GO of SCIPHER (R408). -/
def sciGo (op : Nat) (s : State) : State :=
  let len := rd F.SCIPHER.JOB_LENGTH s
  let du := 2 ^ rd F.SCIPHER.JOB_DU_LOG2 s
  let data := BitVec.ofNat 32 op
  if !sciLengthGood op len du then reject 0x32 0x0A4 .bar0 .range data s
  else if 3 ≤ op ∧ lifecycle s ≠ LC_RECOVERY then reject 0x32 0x0A4 .bar0 .state data s
  else
    jobGo 0x32 0x0A4 op (isSet F.SCIPHER.JOB_STATUS_BUSY s) (fun s =>
      let x := rd F.SCIPHER.JOB_SLOT s
      let k := slot x s
      if k.alg ≠ 2 then sciEnd JR_UNUSABLE s
      else
        let u := useSlot x HOST_NORMAL STORAGE s
        match u.1 with
        | .unusable => sciEnd JR_UNUSABLE u.2
        | .revoked => sciEnd JR_REVOKED u.2
        | .ok =>
          let job : Job := { op, slot := x, gen := k.gen, key := k.key, src := rd F.SCIPHER.JOB_SRC s
                             dst := rd F.SCIPHER.JOB_DST s, aad := du, len, tag := 0
                             nonce := leBytes (regOctets F.SCIPHER.JOB_IV 4 s) }
          wr F.SCIPHER.JOB_STATUS_BUSY 1 { u.2 with sciJob := some job }) s

/-- A SCIPHER job ends (R407, R408). Where SRC and DST overlap without being equal, the spec states no result: the text
written is a free value. A job stalls while DDR is in self-refresh (R24). -/
def sciDone (ddrError : Bool) (s : State) : State :=
  match s.sciJob with
  | none => s
  | some j =>
    if selfRefresh s then s
    else if !keyHolds j.slot j.gen s then sciEnd JR_REVOKED (suppress s)
    else if j.fault then sciEnd JR_FAULT s
    else if ddrError || !ddrUp s then sciEnd JR_DDR (ddrLostIf ddrError (winAddr j.src s) s)
    else
      let src := winAddr j.src s
      let dst := winAddr j.dst s
      let key := if j.op ≤ 2 then kdf j.key "ZK XTS" [] 512 else j.key
      let out := storageCipher j.op key (bytesLe 16 j.nonce) j.aad (readOctets s.ddr src j.len)
      if j.src ≠ j.dst ∧ rangesMeet j.src j.len j.dst j.len then
        let (d, s) := draw s
        sciEnd JR_DONE { s with ddr := writeOctets s.ddr dst (bytesLe j.len (Config.entropy d)) }
      else sciEnd JR_DONE { s with ddr := writeOctets s.ddr dst (bytesLe j.len out) }

/-! ### The public-key engine -/

/-- Results of R419. -/
def PR_VALID : Nat := 1
/-- R419. -/
def PR_INVALID : Nat := 2
/-- R419. -/
def PR_BAD_KEY : Nat := 3
/-- R419. -/
def PR_PIN : Nat := 4
/-- R419. -/
def PR_UNUSABLE : Nat := 5
/-- R419. -/
def PR_FAULT : Nat := 6
/-- R419. -/
def PR_ABORTED : Nat := 7
/-- R419. -/
def PR_DDR : Nat := 8
/-- R419. -/
def PR_NO_ROOT : Nat := 9
/-- R419. -/
def PR_DONE : Nat := 10

/-- The data word of a CMD write. -/
def pkeWord (op : Nat) (hashIn : Bool) (x : Nat) : Nat := op + (if hashIn then 16 else 0) + x * 65536

/-- A CMD write that names an operation (R409, R412): rejected outside RUN and while BUSY, else `f` gives the operation. -/
def pkeGo (op : Nat) (hashIn : Bool) (x : Nat) (f : State → PkeOp × State) (s : State) : State :=
  jobGo 0x33 0x040 (pkeWord op hashIn x) (isSet F.PKE.STATUS_BUSY s) (fun s =>
    let s := wr F.PKE.CMD_OP op (wrBool F.PKE.CMD_HASH_IN hashIn (wr F.PKE.CMD_SLOT x s))
    let r := f s
    wr F.PKE.STATUS_BUSY 1 { r.2 with pkeOp := some r.1 }) s

/-- Octets of a public key by OP (R410). -/
def pubOctets (op : Nat) : Nat := if op = 1 then 64 else if op = 2 then 96 else 32

/-- Octets of a signature by OP (R410). -/
def sigOctets (op : Nat) : Nat := if op = 2 then 96 else 64

/-- The digest of octets by HASH (R419). -/
def digestOf (hash : Nat) (m : List Byte) : List Byte :=
  if hash = 0 then bytesLe 32 (sha256 m)
  else if hash = 1 then bytesLe 48 (sha384 m)
  else bytesLe 64 (sha512 m)

/-- Octets of a digest by HASH. -/
def digestOctets (hash : Nat) : Nat := if hash = 0 then 32 else if hash = 1 then 48 else 64

/-- The pin of a public key: the first 32 octets of its SHA-384 (R370, R410). -/
def pinOf (pub : List Byte) : List Byte := (bytesLe 48 (sha384 pub)).take 32

/-- What a verification gives (R410). -/
def verdictOf (v : Option Bool) : Nat :=
  match v with
  | none => PR_BAD_KEY
  | some false => PR_INVALID
  | some true => PR_VALID

/-- The verification of OP 1 to 3 (R410): its slot, the pin, then the key, the signature and the equation. -/
def pkeVerify (op : Nat) (hashIn : Bool) (x : Nat) (s : State) : State :=
  pkeGo op hashIn x (fun s =>
    let k := slot x s
    if k.alg ≠ op + 3 ∨ k.attr.getLsbD 15 then ({ op, slot := none, result := PR_UNUSABLE, out := [] }, s)
    else
      let u := useSlot x HOST_NORMAL VERIFY s
      match u.1 with
      | .ok =>
        let pub := (regOctets F.PKE.PUBKEY 24 s).take (pubOctets op)
        let sig := (regOctets F.PKE.SIG 24 s).take (sigOctets op)
        let text := readOctets s.ddr (winAddr (rd F.PKE.ADDR s) s) (rd F.PKE.LENGTH s)
        let h := rd F.PKE.HASH s
        let m := if op = 3 then text
          else if hashIn then digestOf h text
          else (regOctets F.PKE.DIGEST 16 s).take (digestOctets h)
        let r := if pinOf pub = k.key.take 32 then verdictOf (verify op pub sig m) else PR_PIN
        ({ op, slot := some (x, k.gen), result := r, out := [], window := op == 3 || hashIn }, u.2)
      | _ => ({ op, slot := none, result := PR_UNUSABLE, out := [] }, u.2)) s

/-- PAIR_PUBLIC (R409). -/
def pkePairPublic (hashIn : Bool) (x : Nat) (s : State) : State :=
  pkeGo 4 hashIn x (fun s =>
    match s.root.root with
    | none => ({ op := 4, slot := none, result := PR_NO_ROOT, out := [] }, s)
    | some r =>
      let pub := bytesLe 64 (pairPublic (pairScalar r s))
      ({ op := 4, slot := none, result := PR_DONE, out := pub.map BitVec.toNat }, s)) s

/-- PAIR_ECDH by the host (R411, R419): its master is HOST_NORMAL, so it ends as KEY_UNUSABLE. -/
def pkePairEcdh (hashIn : Bool) (x : Nat) (s : State) : State :=
  pkeGo 5 hashIn x (fun s => ({ op := 5, slot := none, result := PR_UNUSABLE, out := [] }, s)) s

/-- A host operation ends with `result` (R419, R420, R501). -/
def pkeEnd (result : Nat) (out : List Nat) (s : State) : State :=
  let s := wr F.PKE.STATUS_BUSY 0 (wr F.PKE.STATUS_RESULT result { s with pkeOp := none })
  let s := (List.range 16).foldl (fun s k => wr (F.PKE.RESULT k) (leNat ((out.drop (4 * k)).take 4)) s) s
  let s := if result = PR_INVALID ∨ result = PR_BAD_KEY ∨ result = PR_PIN then inc F.PKE.INVALIDS s else s
  let s := if result = PR_FAULT ∨ result = PR_DDR then latch 0x33 1 s else s
  pushNotice 7 2 (latch 0x33 0 s)

/-- PKE_DONE (R409, R412): a slot changed meanwhile gives KEY_UNUSABLE, a mismatch of the two formulas FAULT. An operation that reads
its message in the window stalls while DDR is in self-refresh (R24) and ends with DDR_ERROR without a trained DDR (R631). -/
def pkeDone (ddrError fault : Bool) (s : State) : State :=
  match s.pkeOp with
  | none => s
  | some o =>
    let holds : Bool := match o.slot with
      | some (x, g) => keyHolds x g s
      | none => true
    if o.window && selfRefresh s then s
    else
    let s := inc F.PKE.OPS s
    if !holds then pkeEnd PR_UNUSABLE [] (suppress s)
    else if o.window && (ddrError || !ddrUp s) then pkeEnd PR_DDR [] (ddrLostIf ddrError (winAddr (rd F.PKE.ADDR s) s) s)
    else if fault then pkeEnd PR_FAULT [] s
    else pkeEnd o.result o.out s

/-! ### FORCE_STOP -/

/-- FORCE_STOP of FCRYPTO (R416). -/
def fcryptoForceStop (s : State) : State :=
  let s := endLanes (fun l => l.rx.engine.isSome) .dropDisabled s
  let s := (List.range 4).foldl (fun s p =>
    if ((fe p s).tx.bind (·.engine)).isSome then cutTx p .dropDisabled s else s) s
  if s.ccmJob.isSome then ccmEnd JR_ABORTED s else s

/-- FORCE_STOP of SCIPHER (R418). -/
def scipherForceStop (s : State) : State := if s.sciJob.isSome then sciEnd JR_ABORTED s else s

/-- FORCE_STOP of PKE (R420). -/
def pkeForceStop (s : State) : State := if s.pkeOp.isSome then pkeEnd PR_ABORTED [] s else s

/-- Whether FCRYPTO holds no context and no job. -/
def fcryptoDrained (s : State) : Bool :=
  (List.range 9).all (fun e => rd (F.FCRYPTO.ENGINE_CONTEXTS e) s == 0) && s.ccmJob.isNone

end Sys2Proof.Machine
end

