-- ==== Sys2Proof/Machine/Firmware.lean ====
section
/-! DEFINITION. The controller's own firmware (R532 to R556): activation records, packages, installing, activating, the
supervisor cores, settings and their migration. -/

namespace Sys2Proof.Machine

/-! ### The activation record (R533, R534) -/

/-- The copy that is current: good, with the higher COUNT. -/
def actRec (s : State) : Option ActRec :=
  match s.fw.rec0, s.fw.rec1 with
  | some a, some b => some (if a.count < b.count then b else a)
  | some a, none => some a
  | none, b => b

/-- The record, or what the recovery supervisor acts on where there is none (R633). -/
def actNow (s : State) : ActRec := (actRec s).getD {}

/-- A record as FWUP shows it. -/
def showAct (r : ActRec) (s : State) : State :=
  let s := wr F.FWUP.ACT_ACTIVE r.active (wrBool F.FWUP.ACT_STATE r.trial (wr F.FWUP.ACT_INACTIVE r.inactive s))
  let s := wr F.FWUP.ACT_SETTINGS r.settings (wr F.FWUP.ACT_PART_MAP r.partMap (wr F.FWUP.ACT_BOOT_FAILS r.bootFails s))
  let s := wr (F.FWUP.ACTIVE_SEQ 0) r.activeSeq (wr (F.FWUP.ACTIVE_SEQ 1) (r.activeSeq / 2 ^ 32) s)
  let s := wr (F.FWUP.INACTIVE_SEQ 0) r.inactiveSeq (wr (F.FWUP.INACTIVE_SEQ 1) (r.inactiveSeq / 2 ^ 32) s)
  wr F.FWUP.ROLLBACK_ACTIVE r.activeLevel (wr F.FWUP.ROLLBACK_INACTIVE r.inactiveLevel s)

/-- A changed record is written to the other copy with COUNT + 1 (R534). Where neither was valid, the content of R633 with
COUNT 0 comes first, and it stays in the other copy. -/
def writeAct (r : ActRec) (s : State) : State :=
  let n := { r with count := r.count + 1 }
  let fw := match s.fw.rec0, s.fw.rec1 with
    | some a, some b => if a.count < b.count then { s.fw with rec0 := some n } else { s.fw with rec1 := some n }
    | some _, none => { s.fw with rec1 := some n }
    | none, some _ => { s.fw with rec0 := some n }
    | none, none => { s.fw with rec0 := some {}, rec1 := some n }
  showAct n { s with fw := fw }

/-- The location of a logical partition. -/
def ActRec.location (r : ActRec) (l : Nat) : Nat := r.partMap / 4 ^ l % 4

/-- The octets stored for a logical partition; an erased location reads 0xFF, which is no package. -/
def partOctets (r : ActRec) (l : Nat) (s : State) : List Byte := look s.fw.parts (r.location l) []

/-- The first sector of a partition location (R532). -/
def partSector (loc : Nat) : Nat := 0x400 + 0x800 * loc

/-- The first sector of a settings copy (R532). -/
def settingsSector (i : Nat) : Nat := 0x200 + 0x100 * i

/-! ### Packages (R535 to R537) -/

/-- `n` octets from octet `o` as a little-endian number. -/
def leAt (p : List Byte) (o n : Nat) : Nat := leBytes ((p.drop o).take n)

/-- `n` octets from octet `o`. -/
def part (p : List Byte) (o n : Nat) : List Byte := (p.drop o).take n

/-- The greatest LENGTH of a component type (R536). -/
def compMax (t : Nat) : Nat :=
  match t with
  | 1 => 384 * 1024
  | 2 => 256 * 1024
  | 3 => 128 * 1024
  | 4 => 1024 * 1024
  | _ => 64 * 1024

/-- Where component entry `i` lies in the manifest. -/
def compAt (i : Nat) : Nat := 32 + 64 * i

/-- OWNER_SIG of a manifest. -/
def ownerSigned (p : List Byte) : Bool := (leAt p 6 1).testBit 0

/-- LIVE_OK of a manifest. -/
def liveOk (p : List Byte) : Bool := (leAt p 6 1).testBit 1

/-- PACKAGE_LENGTH. -/
def packageLength (p : List Byte) : Nat := leAt p 24 4

/-- The entry of a component type. -/
def compEntry (p : List Byte) (t : Nat) : Nat := ((List.range 5).find? (fun i => leAt p (compAt i) 1 == t)).getD 0

/-- The octets of a component. -/
def component (p : List Byte) (t : Nat) : List Byte :=
  let e := compAt (compEntry p t)
  part p (leAt p (e + 8) 4) (leAt p (e + 12) 4)

/-- The VERSION of a component. -/
def compVersion (p : List Byte) (t : Nat) : Nat := leAt p (compAt (compEntry p t) + 4) 4

/-- Layout of one component entry (R536). -/
def compGood (p : List Byte) (i : Nat) : Bool :=
  let e := compAt i
  let t := leAt p e 1
  let o := leAt p (e + 8) 4
  let n := leAt p (e + 12) 4
  decide (1 ≤ t) && decide (t ≤ 5) && leAt p (e + 1) 3 == 0 && o % 4096 == 0 && decide (4096 ≤ o) &&
    decide (n ≤ compMax t) && decide (o + n ≤ packageLength p) &&
    (List.range i).all (fun j =>
      leAt p (compAt j) 1 != t && !rangesMeet o n (leAt p (compAt j + 8) 4) (leAt p (compAt j + 12) 4))

/-- Layout of a package (R537 check 1). -/
def layoutGood (p : List Byte) : Bool :=
  part p 0 4 == ascii "ZKMF" && leAt p 4 1 == 1 && leAt p 5 1 == 5 && decide (leAt p 6 1 < 4) &&
    decide (leAt p 7 1 ≤ 128) && leAt p 8 8 != 0 && leAt p 18 2 == 0 &&
    leAt p 20 4 == (if ownerSigned p then 736 else 544) &&
    decide (4096 ≤ packageLength p) && decide (packageLength p ≤ 8388608) && decide (packageLength p ≤ p.length) &&
    leAt p 28 4 == 0 && (List.range 5).all (compGood p)

/-- The SHA-384 of octets, as octets. -/
def sha (p : List Byte) : List Byte := bytesLe 48 (sha384 p)

/-- Whether a P-384 signature verifies over the SHA-384 of octets. -/
def signedBy (key sig m : List Byte) : Bool := verify 2 key sig (sha m) == some true

/-- Verifications that Celley had made on the PKE, with those that failed (R419). -/
def countPke (n bad : Nat) (s : State) : State := incBy F.PKE.OPS n (incBy F.PKE.INVALIDS bad s)

/-- The checks of R537: 0, or the result of the first that fails. With the PKE page in FAULT, where Celley is not served (R420), no
signature verifies (DESIGN CHOICE, log entry 48). -/
def checkPackage (p : List Byte) (s : State) : Nat × State :=
  if !layoutGood p then (2, s)
  else if leBytes (sha (part p 352 96)) ≠ s.root.vendorPin ∨ pageState 0x33 s = FAULT then (3, s)
  else if !signedBy (part p 352 96) (part p 448 96) (part p 0 448) then (3, countPke 1 1 s)
  else
    let s := countPke 1 0 s
    if isSet F.FWUP.POLICY_OWNER_COSIGN s && !ownerSigned p then (4, s)
    else if ownerSigned p && some (leBytes (sha (part p 544 96))) != s.root.ownerPin then (3, s)
    else if ownerSigned p && !signedBy (part p 544 96) (part p 640 96) (part p 0 640) then (3, countPke 1 1 s)
    else
      let s := if ownerSigned p then countPke 1 0 s else s
      if leAt p 7 1 < rd F.FWUP.ROLLBACK_FUSED s then (5, s)
      else if (List.range 5).any (fun i =>
          sha (part p (leAt p (compAt i + 8) 4) (leAt p (compAt i + 12) 4)) != part p (compAt i + 16) 48) then (6, s)
      else (0, s)

/-! ### The end and the begin of a command -/

/-- A command ends. -/
def fwEnd (result : Nat) (s : State) : State :=
  wr F.FWUP.STATUS_BUSY 0 (wr F.FWUP.STATUS_RESULT result { s with fw := { s.fw with cmd := none } })

/-- A command begins. -/
def fwBegin (op : Nat) (octets : List Byte) (recorded : Bool) (s : State) : State :=
  wr F.FWUP.STATUS_BUSY 1 { s with fw := { s.fw with cmd := some { op, octets, begun := s.now, recorded } } }

/-! ### Settings (R547 to R549) -/

/-- An entry of a settings copy. -/
structure Entry where
  page : Nat
  off  : Nat
  mask : Nat
  val  : Nat
deriving DecidableEq, Repr

/-- A rule of a settings schema. -/
structure Rule where
  frm  : Nat
  op   : Nat
  page : Nat
  off  : Nat
  page2 : Nat
  off2 : Nat
  val  : Nat
deriving DecidableEq, Repr

/-- The entries of a copy. -/
def entriesOf (c : List Byte) : List Entry :=
  (List.range (leAt c 8 4)).map (fun i =>
    let o := 32 + 12 * i
    { page := leAt c o 1, off := leAt c (o + 2) 2, mask := leAt c (o + 4) 4, val := leAt c (o + 8) 4 })

/-- SIGNED of a copy. -/
def settingsSigned (c : List Byte) : Bool := (leAt c 6 2).testBit 0

/-- The octets of a copy, as its header gives them. -/
def settingsLength (c : List Byte) : Nat := 32 + 12 * leAt c 8 4 + (if settingsSigned c then 96 else 0) + 4

/-- The CRC of a copy is good. -/
def settingsCrc (c : List Byte) : Bool :=
  let n := settingsLength c
  decide (n ≤ c.length) && part c 0 4 == ascii "ZKST" &&
    crc32 ((part c 0 (n - 4)).map BitVec.toNat) == leAt c (n - 4) 4

/-- Layout and CRC of a staged profile (R547, R548). -/
def settingsGood (c : List Byte) (schema : Nat) : Bool :=
  decide (leAt c 8 4 ≤ 65536) && settingsCrc c && decide (leAt c 6 2 < 4) && leAt c 12 20 == 0 && leAt c 4 2 == schema &&
    (List.range (leAt c 8 4)).all (fun i => leAt c (33 + 12 * i) 1 == 0) &&
    (entriesOf c).all (fun e => isPage e.page && e.page != 0x30 && e.page != 0x48 && decide (8 ≤ e.off) &&
      decide (e.off ≤ 0xFFC) && e.off % 4 == 0)

/-- The rules of a SETTINGS_SCHEMA component (R549). -/
def rulesOf (c : List Byte) : List Rule :=
  (List.range (leAt c 6 2)).map (fun i =>
    let o := 16 + 16 * i
    { frm := leAt c o 2, op := leAt c (o + 2) 1, page := leAt c (o + 3) 1, off := leAt c (o + 4) 2
      page2 := leAt c (o + 6) 1, off2 := leAt c (o + 8) 2, val := leAt c (o + 12) 4 })

/-- The octets of a copy with the given entries: MIGRATED = 1, SIGNED = 0 (R549). -/
def settingsOf (version : Nat) (es : List Entry) : List Byte :=
  let b := ascii "ZKST" ++ bytesLe 2 version ++ bytesLe 2 2 ++ bytesLe 4 es.length ++ List.replicate 20 0 ++
    es.flatMap (fun e => bytesLe 1 e.page ++ [0] ++ bytesLe 2 e.off ++ bytesLe 4 e.mask ++ bytesLe 4 e.val)
  b ++ bytesLe 4 (crc32 (b.map BitVec.toNat))

/-- What an entry becomes under the MOVE and DROP rules of its version. -/
def migrateEntry (rules : List Rule) (e : Entry) : Option Entry :=
  match rules.find? (fun r => (r.op == 2 || r.op == 3) && r.page == e.page && r.off == e.off) with
  | some r => if r.op = 2 then some { e with page := r.page2, off := r.off2 } else none
  | none => some e

/-- Migration of a copy to a schema (R549): the entries, or the cause of failure. A DEFAULT rule acts for the version that its FROM
names, as its example has it, and a REQUIRE rule looks for its entry in the old copy (DEDUCED, log entry 36). -/
def migrate (schema copy : List Byte) : Nat ⊕ List Entry :=
  let v := leAt copy 4 2
  let rules := (rulesOf schema).filter (fun r => r.frm == v)
  if v ≠ leAt schema 4 2 ∧ rules.isEmpty then .inl 2
  else
    let old := entriesOf copy
    let kept := old.filterMap (migrateEntry rules)
    let es := (rules.filter (fun r => r.op == 4)).foldl (fun es r =>
      if es.any (fun e => e.page == r.page && e.off == r.off) then es
      else es ++ [{ page := r.page, off := r.off, mask := 0xFFFFFFFF, val := r.val }]) kept
    if rules.any (fun r => r.op == 5 && !old.any (fun e => e.page == r.page && e.off == r.off)) then .inl 3
    else .inr es

/-- Octets merged into a sector. -/
def mergeOctets (sector : List Byte) (o : Nat) (bs : List Byte) : List Byte :=
  sector.take o ++ bs ++ sector.drop (o + bs.length)

/-- A write to part of a protected sector (R524): read, merged, erased and programmed. -/
def writeSector (n o : Nat) (bs : List Byte) (s : State) : State :=
  programSector n (mergeOctets (sectorOctets n s) o bs) s

/-- The sectors that `n` octets take. -/
def sectorsOf (n : Nat) : Nat := (n + sectorSize - 1) / sectorSize

/-- The first `n` sectors of a settings copy as `c` writes them. -/
def writeSectors (i n : Nat) (c : List Byte) (s : State) : State :=
  (List.range n).foldl (fun s k => writeSector (settingsSector i + k) 0 (part c (sectorSize * k) sectorSize) s) s

/-- A settings copy is written. -/
def writeSettings (i : Nat) (c : List Byte) (s : State) : State := writeSectors i (sectorsOf c.length) c s

/-- A settings copy as its protected sectors hold it, as far as its header says; a copy lies in 256 sectors (R532). -/
def settingsCopy (i : Nat) (s : State) : List Byte :=
  let n := min (settingsLength (sectorOctets (settingsSector i) s)) (256 * sectorSize)
  ((List.range (sectorsOf n)).flatMap (fun k => sectorOctets (settingsSector i + k) s)).take n

/-- A settings copy as it is read: zeros without a flash key, which is a flash error (R406). -/
def readSettings (i : Nat) (s : State) : List Byte × State :=
  if isSet F.SCIPHER.STATUS_FLASH_KEY s then (settingsCopy i s, s)
  else (List.replicate 36 0, flashError 4 (settingsSector i) s)

/-- A settings copy is written as far as the flash goes (R523, R524): a program or erase failure at a sector is a flash error,
and a power loss there leaves the command without an end; either leaves that sector erased. A sector whose encryption fails twice
stays as it was (R407), and the access ends as a failed program does (DESIGN CHOICE, log entry 48: R523 gives it no cause). -/
def runSectors (run : SectorRun) (i : Nat) (c : List Byte) (finish : State → State) (s : State) : State :=
  let n := sectorsOf c.length
  match run with
  | .done => finish (writeSettings i c s)
  | .fails k =>
    let k := min k (n - 1)
    fwEnd 7 (flashError 1 (settingsSector i + k) (eraseSector (settingsSector i + k) (writeSectors i k c s)))
  | .cut k =>
    let k := min k (n - 1)
    fwBegin 6 c false (eraseSector (settingsSector i + k) (writeSectors i k c s))
  | .cipher k =>
    let k := min k (n - 1)
    fwEnd 7 (flashError 1 (settingsSector i + k) (writeSectors i k c s))

/-! ### Fallback (R550) -/

/-- A fallback is recorded: the cause, UPDATE_FALLBACK and the UPDATE record. -/
def noteFallback (cause : Nat) (s : State) : State :=
  logCairn K_UPDATE [1, cause] (latch 0x48 1 (wr F.FWUP.STATUS_FALLBACK_CAUSE cause s))

/-- The previous set becomes active in CONFIRMED. -/
def ActRec.back (r : ActRec) (copy : Nat) (inactive cause : Nat) : ActRec :=
  { r with
    trial := false, bootFails := 0, active := 1 - r.active, inactive, cause, elapsed := 0
    settings := copy + (if inactive = 2 then 2 else 0)
    activeSeq := r.inactiveSeq, inactiveSeq := r.activeSeq
    activeLevel := r.inactiveLevel, inactiveLevel := r.activeLevel }

/-- A fallback at a start; without a set to fall back to, nothing is bootable. -/
def fallBack (cause : Nat) (s : State) : Bool × State :=
  let r := actNow s
  let c := checkPackage (partOctets r (1 - r.active) s) s
  if r.inactive = 2 ∧ r.settings / 2 % 2 = 1 ∧ c.1 = 0 then
    (true, noteFallback cause (writeAct (r.back s.fw.back 3 cause) c.2))
  else (false, c.2)

/-! ### Commands -/

/-- A CMD write (R555, R556): rejected in DRAINING, TEST, FAULT and RETIRED, and while BUSY, else `f`. -/
def fwCommand (op : Nat) (f : State → State) (s : State) : State :=
  if pageState 0x48 s ∈ [DRAINING, TEST, FAULT, RETIRED] then reject 0x48 0x040 .bar0 .state (BitVec.ofNat 32 op) s
  else if isSet F.FWUP.STATUS_BUSY s then reject 0x48 0x040 .bar0 .action (BitVec.ofNat 32 op) s
  else f s

/-- The staged octets. -/
def staged (s : State) : List Byte :=
  readOctets s.ddr (winAddr (rd F.FWUP.STAGE_OFFSET s) s) (rd F.FWUP.STAGE_LENGTH s)

/-- INSTALL (R540): the staged package is checked, and INACTIVE becomes EMPTY. -/
def fwInstall (s : State) : State :=
  fwCommand 1 (fun s =>
    let r := actNow s
    if !(lifecycle s ∈ [LC_MANUFACTURE, LC_PROVISIONED, LC_DEPLOYED, LC_RECOVERY]) || r.trial then fwEnd 11 s
    else
      let p := staged s
      let c := checkPackage p s
      if c.1 ≠ 0 then fwEnd c.1 c.2
      else
        let s := writeAct { r with inactive := 0, inactiveSeq := 0, inactiveLevel := 0 } c.2
        fwBegin 1 (p.take (packageLength p)) false s) s

/-- Whether a partition location is used by neither logical partition. -/
def ActRec.spare (r : ActRec) : Bool := r.location 0 != 2 && r.location 1 != 2

/-- The package is stored, checked again as flash holds it, and INACTIVE becomes READY (R540 steps 3 to 5). -/
def installStore (p : List Byte) (s : State) : State :=
  let r := actNow s
  let loc := r.location (1 - r.active)
  let s := { s with fw := { s.fw with parts := insert s.fw.parts loc p } }
  let c := checkPackage (partOctets r (1 - r.active) s) s
  if c.1 ≠ 0 then fwEnd c.1 c.2
  else
  let s := c.2
  let s := writeAct { r with inactive := 1, inactiveSeq := leAt p 8 8, inactiveLevel := leAt p 7 1
                             settings := r.settings % 2 } s
  latch 0x48 0 (fwEnd 1 s)

/-- The logical partition moves to the spare location (R539, R599). -/
def movePart (s : State) : State :=
  let r := actNow s
  let l := 1 - r.active
  engaged 9 (r.location l) 2 (writeAct { r with partMap := r.partMap - r.location l * 4 ^ l + 2 * 4 ^ l } s)

/-- INSTALL ends (R539, R540): `failures` erase or program failures have come in it, of cause 1 program or 2 erase. -/
def installDone (failures : Nat) (erase : Bool) (s : State) : State :=
  match s.fw.cmd with
  | none => s
  | some c =>
    if c.op ≠ 1 then s
    else
      let cause := if erase then 2 else 1
      let note := fun (s : State) =>
        let r := actNow s
        flashError cause (partSector (r.location (1 - r.active))) s
      if failures = 0 then installStore c.octets s
      else if !(actNow s).spare then reserveLow 9 (fwEnd 7 (note s))
      else
        let s := movePart (note s)
        if failures = 1 then installStore c.octets s
        else reserveLow 9 (fwEnd 7 (note s))

/-- The record of R541: the other partition on TRIAL. -/
def ActRec.onTrial (r : ActRec) : ActRec :=
  { r with
    active := 1 - r.active, inactive := 2, trial := true, bootFails := 0, elapsed := 0
    settings := r.settings % 2 + 2
    activeSeq := r.inactiveSeq, inactiveSeq := r.activeSeq
    activeLevel := r.inactiveLevel, inactiveLevel := r.activeLevel }

/-- ACTIVATE_AT_RESET (R541). -/
def fwActivateAtReset (s : State) : State :=
  fwCommand 3 (fun s =>
    let r := actNow s
    if r.inactive ≠ 1 ∨ r.trial then fwEnd 9 s
    else
      let s := { s with fw := { s.fw with back := r.settings % 2 } }
      fwEnd 1 (writeAct r.onTrial s)) s

/-- The migration of a live activation (R542 step 3): the new settings, or the cause of failure. A copy that is not valid
is not migrated. -/
def liveMigrate (p : List Byte) (readBack : Bool) (s : State) : (Nat ⊕ Nat) × State :=
  let r := actNow s
  let i := r.settings % 2
  let c := readSettings i s
  if !settingsCrc c.1 then (.inr i, c.2)
  else
    match migrate (component p 5) c.1 with
    | .inl e => (.inl e, c.2)
    | .inr es =>
      if !readBack then (.inl 4, c.2)
      else (.inr (1 - i), writeSettings (1 - i) (settingsOf (leAt p 16 2) es) c.2)

/-- ACTIVATE_LIVE up to its activation record (R542 steps 1 to 4). -/
def fwActivateLive (readBack : Bool) (s : State) : State :=
  fwCommand 2 (fun s =>
    let r := actNow s
    let p := partOctets r (1 - r.active) s
    if inCamp s then fwEnd 11 s
    else if r.inactive ≠ 1 ∨ r.trial then fwEnd 9 s
    else if !liveOk p then fwEnd 13 s
    else if rd F.FWUP.SUP_IDLE_STATE s ≠ 0 then fwEnd 8 s
    else
      let c := checkPackage p s
      if c.1 ≠ 0 then fwEnd c.1 c.2
      else
        let m := liveMigrate p readBack c.2
        match m.1 with
        | .inl e =>
          fwEnd 10 (noteFallback e (writeAct { r with inactive := 3, cause := e } m.2))
        | .inr i =>
          let s := { m.2 with fw := { m.2.fw with back := r.settings % 2 } }
          let s := writeAct { r.onTrial with settings := i + 2 } s
          fwBegin 2 p true (wr F.FWUP.SUP_IDLE_STATE 1 s)) s

/-! ### Microcode and sequencer banks (R545, R546) -/

/-- Lanes that are not retired. -/
def liveLanes (s : State) : List Nat := laneNumbers.filter (fun i => (lane i s).state != .retired)

/-- A reserve lane on the new microcode replaces the lowest idle in-service lane on the old one, which then loads. -/
def rollSwap : Nat → State → State
  | 0, s => s
  | n + 1, s =>
    match (liveLanes s).find? (fun i => (lane i s).state == .reserve && s.fw.newLanes.contains i),
      (liveLanes s).find? (fun i => (lane i s).state == .idle && !s.fw.newLanes.contains i) with
    | some i, some j =>
      let s := modLane i (fun _ => { state := .idle, idleSince := s.now, faultTimes := (lane i s).faultTimes }) s
      let s := modLane j (fun l => { l with state := .reserve }) s
      rollSwap n { s with fw := { s.fw with rolling := j :: s.fw.rolling } }
    | _, _ => s

/-- Without a reserve lane, one idle in-service lane goes out at a time, while at least 8 others are idle (R546). -/
def rollAlone (s : State) : State :=
  let idle := (liveLanes s).filter (fun i => (lane i s).state == .idle)
  match idle.find? (fun i => !s.fw.newLanes.contains i) with
  | some i =>
    if s.fw.rolling.isEmpty && 9 ≤ idle.length && !(liveLanes s).any (fun i => (lane i s).state == .reserve) then
      let s := modLane i (fun l => { l with state := .test }) s
      { s with fw := { s.fw with rolling := [i] } }
    else s
  | none => s

/-- The roll goes on as far as it can, and ends when every lane runs the new microcode. -/
def rollStep (s : State) : State :=
  if !isSet F.FWUP.ROLL_ACTIVE s then s
  else
    let s := rollSwap 136 s
    let fresh := (liveLanes s).filter (fun i =>
      (lane i s).state == .reserve && !s.fw.newLanes.contains i && !s.fw.rolling.contains i)
    let s := { s with fw := { s.fw with rolling := s.fw.rolling ++ fresh } }
    let s := rollAlone s
    let done := (liveLanes s).filter (fun i => s.fw.newLanes.contains i)
    let s := wr F.FWUP.ROLL_DONE done.length (wr F.FWUP.ROLL_OUT (min 8 s.fw.rolling.length) s)
    if done.length = (liveLanes s).length then latch 0x11 6 (wr F.FWUP.ROLL_ACTIVE 0 (wr F.FWUP.ROLL_OUT 0 s)) else s

/-- A lane has loaded the new microcode (R546). -/
def microcodeLoaded (i : Nat) (s : State) : State :=
  if !s.fw.rolling.contains i then s
  else
    let s := { s with fw := { s.fw with rolling := s.fw.rolling.filter (· ≠ i), newLanes := i :: s.fw.newLanes } }
    let s := if (lane i s).state = .test then modLane i (fun l => { l with state := .idle, idleSince := s.now }) s else s
    rollStep s

/-- A front end switches to its new bank. -/
def switchBank (p : Nat) (s : State) : State :=
  wr F.FWUP.FE_SEQ_NEW (rd F.FWUP.FE_SEQ_NEW s ||| 2 ^ p) { s with fw := { s.fw with banks := s.fw.banks.filter (· ≠ p) } }

/-- Front ends still on the old bank switch in an IQ calibration, FE3 at once while its role is IDLE, and one out of service at its
next start (R545). -/
def bankStep (s : State) : State :=
  s.fw.banks.foldl (fun s p =>
    let ps := pageState (fePage p) s
    if ps = STARTING ∨ (ps = RUN ∧ ((rf p s = RF_CAL ∧ (fe p s).todo.head? = some .iq) ∨ (p = 3 ∧ role s = 0))) then switchBank p s
    else s) s

/-- What follows the hand-over of a live activation (R542 steps 6 and 7): banks switch, microcode rolls, the previous core
reloads. SCHEMA.SETTINGS follows where the settings were migrated. -/
def afterLive (p : List Byte) (s : State) : State :=
  let s := wr F.IDENT.CELLEY_VERSION (compVersion p 1) (wr F.FWUP.SCHEMA_ACTIVE (leAt p 16 2)
    (if (actNow s).settings % 2 = s.fw.back then s else wr F.FWUP.SCHEMA_SETTINGS (leAt p 16 2) s))
  let s := { s with fw := { s.fw with banks := [3, 0, 1, 2], newLanes := [], rolling := [], trial := 0 } }
  let s := wr F.FWUP.TRIAL_LEFT (rd F.FWUP.TRIAL_S s) (wr F.FWUP.FE_SEQ_NEW 0 s)
  let s := [0, 1, 2].foldl (fun s n => if pageState (fePage n) s = RUN then autoCal n .iqAge s else s) s
  rollStep (wr F.FWUP.ROLL_ACTIVE 1 (wr F.FWUP.SUP_IDLE_STATE 1 (bankStep s)))

/-- The supervisor role passes to the other core (R543, R544). -/
def adopt (pauseUs : Nat) (s : State) : State :=
  inc F.FWUP.HANDOVERS (wr F.FWUP.LAST_PAUSE_US pauseUs (wr F.FWUP.SUP_ACTIVE_CORE (1 - rd F.FWUP.SUP_ACTIVE_CORE s) s))

/-- The epoch boundary of a live activation (R542 step 5). -/
def liveHandover (pauseUs : Nat) (s : State) : State :=
  match s.fw.cmd with
  | some c => if c.op = 2 then fwEnd 1 (afterLive c.octets (adopt (min 250 pauseUs) s)) else s
  | none => s

/-! ### Confirm, revert, store (R548, R551, R553) -/

/-- CONFIRM (R551). -/
def fwConfirm (s : State) : State :=
  fwCommand 4 (fun s =>
    let r := actNow s
    if inCamp s then fwEnd 11 s
    else if !r.trial then fwEnd 9 s
    else if 0 < rd F.FWUP.TRIAL_LEFT s then reject 0x48 0x040 .bar0 .state 4 s
    else
      let f := max (rd F.FWUP.ROLLBACK_FUSED s) r.activeLevel
      let s := wr F.FWUP.ROLLBACK_FUSED f s
      let r := { r with trial := false, elapsed := 0 }
      let r := if r.inactiveLevel < f then
          { r with inactive := 0, inactiveSeq := 0, inactiveLevel := 0, settings := r.settings % 2 }
        else r
      fwEnd 1 (logCairn K_UPDATE [2, r.cause] (writeAct r s))) s

/-- Whether REVERT is accepted (R553). -/
def mayRevert (s : State) : Bool :=
  let r := actNow s
  (actRec s).isSome && (r.trial ||
    (r.inactive == 2 && r.settings / 2 % 2 == 1 && decide (rd F.FWUP.ROLLBACK_FUSED s ≤ r.inactiveLevel)))

/-- REVERT (R553): it takes effect at the next reset. -/
def fwRevert (s : State) : State :=
  fwCommand 5 (fun s =>
    if mayRevert s then fwEnd 1 { s with fw := { s.fw with revert := true } } else fwEnd 9 s) s

/-- STORE_PROFILE (R548). -/
def fwStoreProfile (run : SectorRun) (s : State) : State :=
  fwCommand 6 (fun s =>
    let r := actNow s
    if r.trial then fwEnd 11 s
    else
      let c := staged s
      let n := settingsLength c
      if !settingsGood c (rd F.FWUP.SCHEMA_ACTIVE s) then fwEnd 2 s
      else
        let cosign := isSet F.FWUP.POLICY_OWNER_COSIGN s
        if cosign && !settingsSigned c then fwEnd 4 s
        else
          let key := bytesLe 48 (s.root.ownerPin.getD 0)
          let ok := !cosign || (s.root.ownerPin.isSome && Config.verifyPinned key (part c (n - 100) 96) (sha (part c 0 (n - 100))))
          let dead : Bool := cosign && pageState 0x33 s == FAULT
          let s := if cosign && !dead then countPke 1 (if ok then 0 else 1) s else s
          if !ok || dead then fwEnd 3 s
          else
            let i := 1 - r.settings % 2
            if !isSet F.SCIPHER.STATUS_FLASH_KEY s then fwEnd 7 (flashError 4 (settingsSector i) s)
            else runSectors run i (c.take n) (fun s => fwEnd 1 (writeAct { r with settings := i } s)) s) s

/-- A write of 1 to POLICY.OWNER_COSIGN (R555): the fuse, with the trusted lock open. Where it reads 1 already nothing
changes and nothing is rejected (R76). -/
def ownerCosign (s : State) : State :=
  if lockOpen s ∨ isSet F.FWUP.POLICY_OWNER_COSIGN s then wr F.FWUP.POLICY_OWNER_COSIGN 1 s else reject 0x48 0x074 .bar0 .state 1 s

/-! ### Supervisor cores (R544) -/

/-- The idle core receives a hand-over record. -/
def handoverRecord (s : State) : State := { s with fw := { s.fw with recordAt := s.now } }

/-- Celley operations begun after the last hand-over record end with their ABORTED result (R544). -/
def abortSince (s : State) : State :=
  let s := match s.keyOp with
    | some o => if s.fw.recordAt < o.begun then loadEnd o.target KR_ABORTED s else s
    | none => s
  match s.fw.cmd with
  | some c => if s.fw.recordAt < c.begun && !c.recorded then fwEnd 12 s else s
  | none => s

/-- A core stops (R544): it reloads, or retires at its second fault within 24 h. -/
def stopCore (k : Nat) (s : State) : State :=
  let l := (k, s.now) :: s.fw.faults.filter (fun x => s.now < x.2 + 86400000000000)
  let s := { s with fw := { s.fw with faults := l } }
  if 2 ≤ (l.filter (fun x => x.1 == k)).length then blowRetired 2 k (wr F.FWUP.SUP_IDLE_STATE 3 s)
  else wr F.FWUP.SUP_IDLE_STATE 1 s

/-- A fault of a supervisor core: the active one hands over to the idle one, the only one left forces a warm reset.
During a live activation a fault of the idle core ends it as ABORTED (DESIGN CHOICE, log 43). -/
def coreFault (k pauseUs : Nat) (s : State) : State :=
  if k ≠ rd F.FWUP.SUP_ACTIVE_CORE s then
    if rd F.FWUP.SUP_IDLE_STATE s = 3 then s
    else
      let live : Bool := s.fw.cmd.any (fun c => c.op == 2)
      stopCore k (if live then fwEnd 12 s else s)
  else if rd F.FWUP.SUP_IDLE_STATE s = 3 then warmReset 5 s
  else
    let live := s.fw.cmd.filter (fun c => c.op == 2)
    let s := abortSince (engaged 2 k (1 - k) (adopt pauseUs s))
    match live with
    | some c => stopCore k (fwEnd 1 (afterLive c.octets s))
    | none => stopCore k s

/-- A stopped core's reload and SRAM test end (R544). -/
def coreReload (passed : Bool) (s : State) : State :=
  if rd F.FWUP.SUP_IDLE_STATE s = 1 ∨ rd F.FWUP.SUP_IDLE_STATE s = 2 then
    if passed then wr F.FWUP.SUP_IDLE_STATE 0 s
    else blowRetired 2 (1 - rd F.FWUP.SUP_ACTIVE_CORE s) (wr F.FWUP.SUP_IDLE_STATE 3 s)
  else s

/-! ### Trial (R534, R551) -/

/-- TRIAL_LEFT of a trial. -/
def showTrial (s : State) : State :=
  wr F.FWUP.TRIAL_LEFT (if (actNow s).trial then rd F.FWUP.TRIAL_S s - s.fw.trial else 0) s

/-- TRIAL_LEFT reaches 0 (R551). -/
def trialExpiry (s : State) : State :=
  if (actNow s).trial then
    latch 0x48 2 (wr F.FWUP.TRIAL_LEFT 0 { s with fw := { s.fw with trial := max s.fw.trial (rd F.FWUP.TRIAL_S s) } })
  else s

/-- The record is rewritten with TRIAL_ELAPSED (R534). -/
def trialRewrite (s : State) : State :=
  let r := actNow s
  if r.trial then writeAct { r with elapsed := s.fw.trial } s else s

/-- FORCE_STOP of FWUP (R554, R556): an activation whose record is written completes. -/
def fwForceStop (s : State) : State :=
  match s.fw.cmd with
  | some c => if c.recorded then s else fwEnd 12 s
  | none => s

end Sys2Proof.Machine
end

