-- ==== Sys2Proof/Machine/Rope.lean ====
section
/-! DEFINITION. Rope-team redundancy over the belay link (R574 to R597). -/

namespace Sys2Proof.Machine

/-! ### Roles (R576) -/

/-- ROLE.STATE codes. -/
def WAITING : Nat := 1
/-- R576. -/
def SYNCING : Nat := 2
/-- R576. -/
def STANDBY : Nat := 3
/-- R576. -/
def ACTIVE : Nat := 4
/-- R576. -/
def RELINQUISHING : Nat := 5

/-- ROLE.STATE. -/
def ropeRole (s : State) : Nat := rd F.ROPE.ROLE_STATE s

/-- Changes the rope unit's record. -/
def modRope (f : Rope → Rope) (s : State) : State := { s with rope := f s.rope }

/-- Enters a role: ACT_OUT is high exactly in ACTIVE (R575), ROLE_CHANGE latches into and out of it (R597). -/
def setRole (r : Nat) (s : State) : State :=
  let turn : Bool := (ropeRole s == ACTIVE) != (r == ACTIVE)
  let s := wr F.ROPE.ROLE_STATE r (wrBool F.ROPE.ROLE_ACT_OUT (r == ACTIVE) s)
  if turn then latch 0x4A 1 s else s

/-- Whether the belay link runs: the page is neither OFF nor STOPPED (R597). -/
def belayUp (s : State) : Bool := s.rope.member && !(pageState 0x4A s ∈ [OFF, STOPPED, FAULT, RETIRED])

/-- LINK.ATTACHED. -/
def attached (s : State) : Bool := isSet F.ROPE.LINK_ATTACHED s

/-- DIE_ID as a number. -/
def ownDie (s : State) : Nat := leBytes (dieId s)

/-- Whether this controller wins the choice of R585 against its partner. -/
def winsChoice (s : State) : Bool :=
  let own := isSet F.ROPE.CFG_PREFER s
  if own != s.rope.pPrefer then own
  else match s.rope.partner with
    | some d => decide (ownDie s < d)
    | none => true

/-! ### Records (R579, R582) -/

/-- A protected record is sent and waits for its acknowledgement. -/
def sendRecord (r : RopeRec) (s : State) : State :=
  modRope (fun x => { x with sent := x.sent + 1, unacked := x.unacked ++ [(x.sent + 1, r)] }) s

/-- Records flow from the ACTIVE controller to an attached partner (R582). -/
def mirrors (s : State) : Bool := ropeRole s == ACTIVE && attached s && s.rope.session.isSome

/-- Sends a mirrored record. -/
def mirror (r : RopeRec) (s : State) : State := if mirrors s then sendRecord r s else s

/-- The SLOT record of a slot: its key wrapped under the session key (R582). -/
def slotRecord (i : Nat) (s : State) : RopeRec :=
  let k := slot i s
  .slot i k.attr k.parentWord (bytesLe (k.key.length + 8) (wrap (s.rope.session.getD []) k.key))

/-- The NODE record of an entry (R582). -/
def nodeRecord (i : Nat) (s : State) : NodeRec :=
  let n := node i s
  let r : NodeRec := { index := i, eui := n.eui, keyRef := n.keyRef, keyGen := n.keyGen
                       flags := oct n.core flagsOct 1 &&& 0x1B, wrapped := oct n.ext 40 24 }
  if n.piton then { r with port := n.port, first := n.firstHop, pathCtl := oct n.ext 0 1, path := n.path } else r

/-- The replay state of an entry. -/
def replayState (n : NodeCore) : Nat × Nat := (oct n.core 8 4, oct n.core 12 4)

/-- A REPLAY record of every VALID entry whose replay state changed since the last one (R582). -/
def replayMirror (s : State) : State :=
  if !mirrors s then s
  else
    let ch := (s.nodes.filter (fun x => x.2.valid && find s.rope.replays x.1 != some (replayState x.2))).map
      (fun x => (x.1, replayState x.2))
    if ch.isEmpty then s
    else
      let s := modRope (fun r => { r with replays := ch.foldl (fun t x => insert t x.1 x.2) r.replays }) s
      sendRecord (.replay (ch.map (fun x => (x.1, x.2.1, x.2.2)))) s

/-- Resynchronisation of a new standby (R586): every valid slot but the pairing slot, and every valid node. -/
def resync (s : State) : State :=
  let slots := (validSlots s).filter (· ≠ rd F.ROPE.CFG_PAIR_SLOT s)
  let s := slots.foldl (fun s i =>
    let k := slot i s
    let s := if k.use FRAME_ENC then sendRecord (.reserve (fingerprint k.key) k.ceil) s else s
    sendRecord (slotRecord i s) s) s
  let s := (s.nodes.filter (fun x => x.2.valid)).foldl (fun s x => sendRecord (.node (nodeRecord x.1 s)) s) s
  sendRecord .syncDone (replayMirror (modRope (fun r => { r with replays := [] }) s))

/-- What the ACTIVE controller mirrors of a command that led from `old` to `s` (R582, R584): changed slots, changed node
entries, and the reservations that began. -/
def mirrorChanges (old s : State) : State :=
  if !mirrors s || !mirrors old then s
  else
    let pair := rd F.ROPE.CFG_PAIR_SLOT s
    let keys := (old.slots.map (·.1) ++ s.slots.map (·.1)).eraseDups
    let moved := keys.filter (fun i => i != pair && ((slot i s).attr != (slot i old).attr ||
      (slot i s).parentWord != (slot i old).parentWord || (slot i s).key != (slot i old).key))
    let began := keys.filter (fun i => (slot i s).writing && !(slot i old).writing)
    let idx := (old.nodes.map (·.1) ++ s.nodes.map (·.1)).eraseDups
    let nodes := idx.filter (fun i => nodeRecord i s != nodeRecord i old)
    let s := if s.keyOp ≠ old.keyOp then
        match s.keyOp with
        | some o => sendRecord (.reserve o.finger o.next.ceil) s
        | none => s
      else s
    let s := began.foldl (fun s i =>
      sendRecord (.reserve (fingerprint (slot i s).key) (nextCeiling (slot i s).ceil)) s) s
    let s := moved.foldl (fun s i => sendRecord (slotRecord i s) s) s
    nodes.foldl (fun s i => sendRecord (.node (nodeRecord i s)) s) s

/-! ### The link (R578, R581) -/

/-- LINK.LANEn_OK. -/
def laneOk (n : Nat) (s : State) : Bool := if n = 0 then isSet F.ROPE.LINK_LANE0_OK s else isSet F.ROPE.LINK_LANE1_OK s

/-- Writes LINK.LANEn_OK. -/
def setLaneOk (n : Nat) (b : Bool) (s : State) : State :=
  if n = 0 then wrBool F.ROPE.LINK_LANE0_OK b s else wrBool F.ROPE.LINK_LANE1_OK b s

/-- A fresh HELLO nonce (R581). -/
def newNonce (s : State) : State :=
  let (d, s) := draw s
  modRope (fun r => { r with nonce := Config.entropy d % 2 ^ 128 }) s

/-- A lane gains block lock (R578, R581): the first lane's lock begins pairing with a fresh nonce. -/
def belayLock (n : Nat) (s : State) : State :=
  if !belayUp s then s
  else
    let first := !laneOk 0 s && !laneOk 1 s
    let s := setLaneOk n true s
    let s := if laneOk 0 s && laneOk 1 s then setRemain F.RESERVE.REMAIN_BELAY 7 1 s else s
    if first then
      let s := wr F.ROPE.LINK_TX_LANE n s
      newNonce s
    else s

/-- A lane fails (R578, R599): the sender moves to the spare, and unacknowledged records are sent again. -/
def belayLaneFail (n : Nat) (s : State) : State :=
  if !laneOk n s then s
  else
    let s := setRemain F.RESERVE.REMAIN_BELAY 7 0 (setLaneOk n false s)
    if rd F.ROPE.LINK_TX_LANE s = n ∧ laneOk (1 - n) s then
      let s := engaged 7 n (1 - n) (latch 0x4A 2 (wr F.ROPE.LINK_TX_LANE (1 - n) s))
      incBy F.ROPE.RECORDS_RESENT s.rope.unacked.length s
    else s

/-- PARTNER_PIN, 32 octets. -/
def partnerPin (s : State) : List Byte := regOctets F.ROPE.PARTNER_PIN 8 s

/-- The attribute word of the pairing slot (R581). -/
def pairAttr : BitVec 32 := 0x81C40802

/-- A HELLO (R581): the pin, the ECDH by the PKE, which counts it (R419), the session key, the pairing slot. -/
def belayHello (die : Nat) (pub : List Byte) (nonce role : Nat) (prefer : Bool) (s : State) : State :=
  if !belayUp s then s
  else if pinOf pub ≠ partnerPin s then wr F.ROPE.LINK_PIN_BAD 1 s
  else
    let s := wr F.ROPE.LINK_PIN_BAD 0 s
    match s.root.root with
    | none => s
    | some root =>
      let s := countPke 1 0 s
      match pairEcdh (pairScalar root s) pub with
      | none => countPke 0 1 s
      | some z =>
        let own := ownDie s
        let lo : Bool := decide (own < die)
        let ctx := if lo then bytesLe 8 own ++ bytesLe 8 die ++ bytesLe 16 s.rope.nonce ++ bytesLe 16 nonce
          else bytesLe 8 die ++ bytesLe 8 own ++ bytesLe 16 nonce ++ bytesLe 16 s.rope.nonce
        let key := kdf (bytesLe 32 z) "ZK BELAY" ctx 256
        let x := rd F.ROPE.CFG_PAIR_SLOT s
        let k : Slot := { attr := pairAttr, gen := ((slot x s).gen + 1) % 256, key, uses := (slot x s).uses }
        modRope (fun r => { r with
          partner := some die, pRole := role, pPrefer := prefer, session := some key, sent := 0, got := 0
          unacked := [], theirs := [], replays := [] }) (changeSlot x k s)

/-- Both send a RESERVE for every fingerprint of their journals (R586). -/
def sendJournal (s : State) : State := s.journal.foldl (fun s x => sendRecord (.reserve x.1 x.2) s) s

/-- ATTACHED sets, and the roles are settled (R581 step 6, R585, R586). -/
def attach (s : State) : State :=
  let s := wr F.ROPE.LINK_ATTACHED 1 (modRope (fun r => { r with lostAt := none, mayExtend := true, wasStandby := false }) s)
  if ropeRole s = ACTIVE then (if s.rope.pRole = ACTIVE then s else resync s)
  else if ropeRole s = RELINQUISHING then s
  else if s.rope.pRole = ACTIVE then setRole SYNCING s
  else
    let s := sendJournal s
    if winsChoice s then modRope (fun r => { r with attaching := true }) s else setRole SYNCING s

/-- A heartbeat is sent (R580): it takes a SEQ and carries the own health. -/
def heartbeatSend (s : State) : State :=
  if belayUp s && s.rope.session.isSome then modRope (fun r => { r with sent := r.sent + 1 }) s else s

/-- An authenticated heartbeat (R580): acknowledgements, the partner's health, role and time. The active resynchronises a partner
that gave up control and now shows SYNCING (R586, R590; DEDUCED, log 45). -/
def heartbeatRx (role health ack seq : Nat) (partnerNs : Int) (s : State) : State :=
  if !belayUp s || s.rope.session.isNone then s
  else
    let s := wr F.ROPE.HEALTH_PARTNER health (wrInt F.ROPE.PARTNER_TIME_NS
      (clamp (-2147483648) 2147483647 (partnerNs - deviceNs s)) s)
    let was := s.rope.pRole
    let s := modRope (fun r => { r with
      pRole := role, unacked := r.unacked.filter (fun x => ack < x.1), got := if seq = r.got + 1 then seq else r.got }) s
    if !attached s then attach s
    else if ropeRole s = ACTIVE ∧ (was = ACTIVE ∨ was = RELINQUISHING) ∧ role = SYNCING then resync s
    else s

/-- The ceilings of both journals (R586): each own ceiling rises to the higher of the two. -/
def raiseCeilings (up : Nat → Nat → Nat) (s : State) : State :=
  let fs := (s.journal.map (·.1) ++ s.rope.theirs.map (·.1) ++ s.rope.starts.map (·.1)).eraseDups
  let s := fs.foldl (fun s f =>
    let c := (journalCeiling f s).getD 0
    journalWrite f (min 0xFFFFFFFF (max c (up f c))) s) s
  { s with slots := mapTbl (fun _ k =>
      if k.valid && k.use FRAME_ENC then
        let f := fingerprint k.key
        let c := (journalCeiling f s).getD k.ceil
        if k.ceil < c then
          let t := if up f k.ceil ≤ k.ceil then k.txcnt else up f k.ceil
          { k with ceil := c, txcnt := max k.txcnt (min t 0xFFFFFFFF), writing := true }
        else k
      else k) s.slots }

/-- The future active's raised ceilings are durable (R586): with PARTNER_ACT_IN low it enters ACTIVE and resynchronises. -/
def attachActivate (s : State) : State :=
  if !(s.rope.attaching && attached s) then s
  else
    let s := raiseCeilings (fun f c => look s.rope.theirs f c) s
    if isSet F.ROPE.ROLE_PARTNER_ACT s then s
    else resync (setRole ACTIVE (modRope (fun r => { r with attaching := false }) s))

/-- The partner is lost (R580): the next attachment pairs anew. A relinquishing member follows R590 (DEDUCED, log 45), and so
does a standby that saw the edge within the last 1 ms (R589). -/
def partnerLost (s : State) : State :=
  if !attached s then s
  else
    let was := ropeRole s
    let s := latch 0x4A 0 (inc F.ROPE.LOST_COUNT (wr F.ROPE.LINK_ATTACHED 0 s))
    let s := modRope (fun r => { r with
      session := none, unacked := [], attaching := false, lostAt := some s.now, mayExtend := false
      wasStandby := was == STANDBY }) (newNonce s)
    if was = ACTIVE ∨ was = RELINQUISHING ∨ (was = STANDBY ∧ s.rope.fellAt.any (fun t => s.now ≤ t + 1000000)) then s
    else setRole WAITING (modRope (fun r => { r with fellAt := none }) s)

/-- 5 ms after PARTNER_LOST the active may extend ceilings alone (R584). -/
def loneCeiling (s : State) : State := if s.rope.lostAt.isSome then modRope (fun r => { r with mayExtend := true }) s else s

/-- The link stops with the page (R597). -/
def belayStop (s : State) : State :=
  let s := wr F.ROPE.LINK_LANE0_OK 0 (wr F.ROPE.LINK_LANE1_OK 0 (wr F.ROPE.LINK_ATTACHED 0 s))
  let s := modRope (fun r => { r with
    session := none, unacked := [], attaching := false, fellAt := none, wasStandby := false }) s
  if s.rope.member && ropeRole s != ACTIVE && ropeRole s != WAITING then setRole WAITING s else s

/-! ### Applying records (R582 to R584) -/

/-- A mirrored record that the standby refuses. -/
def mirrorRefused (s : State) : State := inc F.ROPE.MIRROR_REFUSED s

/-- A RESERVE record (R584, R586): during attachment the partner's ceiling, else the takeover start S with its journal
record. -/
def applyReserve (f v : Nat) (s : State) : State :=
  let s := modRope (fun r => { r with theirs := insert r.theirs f v }) s
  if ropeRole s = SYNCING ∨ ropeRole s = STANDBY then
    journalWrite f (nextCeiling v) (modRope (fun r => { r with starts := insert r.starts f v }) s)
  else s

/-- A SLOT record (R582). -/
def applySlot (i : Nat) (attr : BitVec 32) (parent : Nat) (wrapped : List Byte) (s : State) : State :=
  let gen := parent / 2 ^ 24 % 256
  let par := if parent.testBit 15 then some (parent % 1024, parent / 2 ^ 16 % 256) else none
  let uses := (slot i s).uses
  if !attr.getLsbD 31 then changeSlot i { attr, parent := par, gen, uses } s
  else
    match unwrap (s.rope.session.getD []) wrapped with
    | none => mirrorRefused s
    | some key =>
      let k : Slot := { attr, parent := par, gen, key, uses }
      let f := fingerprint key
      let c := look s.rope.starts f 0
      let dup := s.slots.any (fun y => y.1 != i && y.2.valid && y.2.use FRAME_ENC && fingerprint y.2.key == f)
      let full := (journalCeiling f s).isNone && decide (16384 ≤ s.journal.length)
      if !attrGood attr || (k.use FRAME_ENC && (dup || full)) then mirrorRefused s
      else changeSlot i (if k.use FRAME_ENC then { k with txcnt := c, ceil := nextCeiling c } else k) s

/-- A NODE record (R582): the equivalent command, which must end as DONE. -/
def applyNode (r : NodeRec) (s : State) : State :=
  let o := node r.index s
  let valid := r.flags.testBit 0
  let piton := r.flags.testBit 1
  if pageState 0x20 s ≠ RUN || reservedIndex r.index || decide (262144 ≤ r.index) then mirrorRefused s
  else if !valid then
    if o.valid then endNodeFrames r.index .dropNoPath (cacheDrop r.index (setNode r.index {} s)) else mirrorRefused s
  else if !keyRefValid r.keyRef then mirrorRefused s
  else
    let path : MeshPath := { fe := r.port % 4, addrs := r.path, fromIe := r.pathCtl.testBit 6 }
    let n := (((o.wcore 0 8 r.eui).wcore 16 2 r.keyRef).wcore 18 1 r.keyGen).wext 40 24 r.wrapped
    let n := (((n.flag 0 true).flag 1 piton).flag 3 (r.flags.testBit 3)).flag 4 (r.flags.testBit 4)
    let n := if piton then
        (if o.route = path && o.pathValid then n else n.writePath path).flag 5 true
      else n
    setNode r.index n (cacheDrop r.index s)

/-- The merge of R583: the union of both sets of accepted counters. -/
def mergeReplay (hw map hw2 map2 : Nat) : Nat × Nat :=
  if hw < hw2 then (hw2, (if 32 ≤ hw2 - hw then 0 else map * 2 ^ (hw2 - hw) % 2 ^ 32) ||| map2)
  else (hw, map ||| (if 32 ≤ hw - hw2 then 0 else map2 * 2 ^ (hw - hw2) % 2 ^ 32))

/-- One entry of a REPLAY record (R583), with the EUI64 of the record's sender for that index. -/
def applyReplay (i hw map eui : Nat) (s : State) : State :=
  let n := node i s
  if n.valid && n.eui == eui then
    let m := mergeReplay (oct n.core 8 4) (oct n.core 12 4) hw map
    modNode i (fun n => (n.wcore 8 4 m.1).wcore 12 4 m.2) s
  else mirrorRefused s

/-- A record is applied (R582): in SYNCING and STANDBY, and RESERVE during attachment. -/
def applyRecord (r : RopeRec) (euis : List Nat) (s : State) : State :=
  match r with
  | .reserve f v => applyReserve f v s
  | r =>
    if ropeRole s ≠ SYNCING ∧ ropeRole s ≠ STANDBY then s
    else
      match r with
      | .reserve _ _ => s
      | .slot i a p w => applySlot i a p w s
      | .node n => applyNode n s
      | .replay es => (es.zip euis).foldl (fun s x => applyReplay x.1.1 x.1.2.1 x.1.2.2 x.2 s) s
      | .syncDone => if ropeRole s = SYNCING then setRole STANDBY s else s

/-- A protected record arrives (R579): a bad one is counted, a repeated one and one out of order are discarded. -/
def recordRx (seq : Nat) (inOrder ok : Bool) (r : RopeRec) (euis : List Nat) (s : State) : State :=
  if !belayUp s || s.rope.session.isNone then s
  else if !ok then inc F.ROPE.RECORDS_BAD s
  else if seq ≤ s.rope.got || !inOrder then s
  else applyRecord r euis (modRope (fun x => { x with got := seq }) s)

/-- An unacknowledged record is sent again (R579). -/
def recordResend (s : State) : State := if s.rope.unacked.isEmpty then s else inc F.ROPE.RECORDS_RESENT s

/-! ### Giving up and switching over (R587 to R592) -/

/-- HEALTH of this controller (R587). -/
def ropeHealth (s : State) : Nat :=
  let served := (List.range 4).all (fun n =>
    !(List.range 8).any (fun set => isSet (F.CHAN.LISTEN_CFG_ENABLE n set) s) || (rxServer n s).isSome)
  let port := fun (n : Nat) => (List.range 4).any (fun p =>
    isSet (F.FWD.SLOT_PREFIX_EN p) s && rd (F.FWD.SLOT_TARGET p) s == n) && !isSet (F.ETH.STATUS_UP n) s
  let engines := ((List.range 9).filter (fun e => rd (F.FCRYPTO.ENGINE_STATE e) s == 0)).length
  let ue := s.mem.ueAt.any (fun t => s.now < t + 60000000000)
  (!served).toNat + 2 * (port 0 || port 1).toNat + 4 * (!isSet F.HOSTIF.LINK_UP s).toNat +
    8 * (decide (rd F.LANEPOOL.COUNTS_IN_SERVICE s < 96)).toNat + 16 * (decide (engines < 5)).toNat +
    32 * (tempTrip s).toNat + 64 * (refclkFault s).toNat + 128 * (rd F.FWUP.SUP_IDLE_STATE s == 3).toNat +
    256 * ue.toNat + 512 * (!isSet F.KEYS.ROOT_READY s).toNat

/-- HEALTH.OWN follows its conditions. -/
def showHealth (s : State) : State := wr F.ROPE.HEALTH_OWN (ropeHealth s) s

/-- A healthy standby partner (R588). -/
def partnerReady (s : State) : Bool :=
  attached s && s.rope.pRole == STANDBY && rd F.ROPE.HEALTH_PARTNER s &&& rd F.ROPE.GIVE_UP_MASK s == 0

/-- The control lines, REQ and PRI as a switch-over gap finds and holds them (R590). -/
def holdLines (s : State) : State :=
  (List.range 4).foldl (fun s p =>
    let up := reqUp p s
    modFe p (fun f => { f with req := up, pri := f.pri && up, reqOff := none }) (showLines p s)) s

/-- ACT_OUT falls (R589 step 1, R590, R593): downlink frames that are not in the air end, and reassembly contexts. -/
def relinquish (s : State) : State :=
  let s := holdLines s
  let s := setRole RELINQUISHING (modRope (fun r => { r with droppedAt := some s.now }) s)
  let s := endFrames (fun f => match f.place with
    | .queued | .committed _ _ | .pending => true
    | _ => false) .dropDisabled s
  endReasm s

/-- GIVE_UP_MS has passed with a masked health condition and a healthy standby (R588). -/
def giveUp (s : State) : State :=
  if ropeRole s = ACTIVE ∧ ropeHealth s &&& rd F.ROPE.GIVE_UP_MASK s ≠ 0 ∧ partnerReady s then relinquish s else s

/-- RELINQUISH (R588). -/
def ropeRelinquish (s : State) : State :=
  if ropeRole s = ACTIVE ∧ partnerReady s then wr F.ROPE.CMD_STATUS_RESULT 1 (relinquish s)
  else wr F.ROPE.CMD_STATUS_RESULT 2 s

/-- FORCE_TAKEOVER (R592). -/
def forceTakeover (s : State) : State :=
  if ropeRole s = WAITING ∧ !isSet F.ROPE.ROLE_PARTNER_ACT s then modRope (fun r => { r with forcing := true }) s
  else wr F.ROPE.CMD_STATUS_RESULT 3 s

/-- The forced ceilings are durable, or their write failed (R592). -/
def forceDurable (ok : Bool) (s : State) : State :=
  if !s.rope.forcing then s
  else
    let s := modRope (fun r => { r with forcing := false }) s
    if !ok then wr F.ROPE.CMD_STATUS_RESULT 4 (flashError 5 journalSector s)
    else
      let skip := rd F.ROPE.FORCE_SKIP s
      let s := raiseCeilings (fun f c => max c (max (look s.rope.starts f 0) (look s.rope.theirs f 0)) + skip) s
      setRole ACTIVE (wr F.ROPE.CMD_STATUS_RESULT 1 s)

/-- S becomes TXCNT of every key (R584, R589 step 2). -/
def adoptStarts (s : State) : State :=
  { s with slots := mapTbl (fun _ k =>
      if k.valid && k.use FRAME_ENC then
        match find s.rope.starts (fingerprint k.key) with
        | some v => { k with txcnt := v, ceil := nextCeiling v }
        | none => k
      else k) s.slots }

/-- PARTNER_ACT_IN falls (R589): a standby takes over, also one that lost its partner within the last 1 ms. -/
def partnerActFall (s : State) : State :=
  let s := wr F.ROPE.ROLE_PARTNER_ACT 0 s
  let just : Bool := ropeRole s == WAITING && s.rope.wasStandby && s.rope.lostAt.any (fun t => s.now ≤ t + 1000000)
  if ropeRole s = STANDBY ∨ just then adoptStarts (modRope (fun r => { r with fellAt := some s.now }) s) else s

/-- TAKEOVER_US after the edge the standby enters ACTIVE (R589 step 3). -/
def takeoverExpiry (s : State) : State :=
  if s.rope.fellAt.isSome && !isSet F.ROPE.ROLE_PARTNER_ACT s && (ropeRole s == STANDBY || ropeRole s == WAITING) then
    let s := modRope (fun r => { r with fellAt := none, wasStandby := false }) s
    let s := wr F.ROPE.LAST_GAP_US (rd F.ROPE.TAKEOVER_US s + 1) (inc F.ROPE.SWITCHOVERS s)
    setRole ACTIVE s
  else s

/-- The TX-mute timer (R590). -/
def txMute (s : State) : State :=
  if ropeRole s = RELINQUISHING then
    (List.range 4).foldl (fun s p => if (fe p s).tx.isSome then cutTx p .dropDisabled s else s) s
  else s

/-- The held lines are released (R590). -/
def releaseLines (s : State) : State :=
  (List.range 4).foldl (fun s p =>
    showLines p (modFe p (fun f => if f.tx.isSome then f else { f with req := false, pri := false, reqOff := none }) s)) s

/-- PARTNER_ACT_IN rises (R590). -/
def partnerActRise (s : State) : State :=
  let s := modRope (fun r => { r with fellAt := none }) (wr F.ROPE.ROLE_PARTNER_ACT 1 s)
  if ropeRole s = RELINQUISHING then
    releaseLines (setRole (if attached s then SYNCING else WAITING) (modRope (fun r => { r with droppedAt := none }) s))
  else s

/-- PARTNER_ACT_IN has not risen by 3,100 µs (R590). -/
def reclaim (s : State) : State :=
  if ropeRole s = RELINQUISHING ∧ !isSet F.ROPE.ROLE_PARTNER_ACT s then
    releaseLines (setRole ACTIVE (inc F.ROPE.RECLAIMS (modRope (fun r => { r with droppedAt := none }) s)))
  else s

/-- Both are ACTIVE (R591): the loser of R585 relinquishes. -/
def dualActive (s : State) : State :=
  if ropeRole s = ACTIVE then
    let s := latch 0x4A 3 (inc F.ROPE.DUAL_ACTIVE_COUNT s)
    if winsChoice s then s else relinquish s
  else s

end Sys2Proof.Machine
end

