-- ==== Sys2Proof/Machine/Window.lean ====
section
/-! DEFINITION. The host side of the window (R476 to R482, R494 to R496): the PCI Express function, BAR2 accesses, the copy
engine, and the taking of transmit slots. -/

namespace Sys2Proof.Machine

/-! ### Unmapped accesses (R480) -/

/-- An unmapped access: counted, recorded and latched. -/
def unmapped (bar off : Nat) (write : Bool) (s : State) : State :=
  let s := wr F.HOSTIF.UNMAPPED_OFFSET off (wr F.HOSTIF.UNMAPPED_BAR bar (wrBool F.HOSTIF.UNMAPPED_WRITE write s))
  latch 0x40 2 (inc F.HOSTIF.UNMAPPED_COUNT s)

/-! ### BAR2 (R479, R515, R516, R521) -/

/-- The chunk of 64 MiB that holds a DDR address. -/
def chunkOf (addr : Nat) : Nat := addr / 2 ^ 26

/-- The DDR test row (R525). -/
def inTestRow (addr : Nat) (s : State) : Bool := decide (ddrSize s - 8192 ≤ addr)

/-- What decoding a DDR line gives (R515). An access that the storage cipher ends leaves no ECC record (R407). -/
def decodeLine (addr : Nat) (e : Ecc) (s : State) : State :=
  match e with
  | .clean => s
  | .failed => s
  | .corrected syn => ddrCorrected addr syn.toNat s
  | .uncorrectable syn => ddrUncorrectable addr syn.toNat s

/-- Whether a line cannot be used (R407, R516). -/
def eccLost : Ecc → Bool
  | .uncorrectable _ => true
  | .failed => true
  | _ => false

/-- A BAR2 access to filled DDR. A read of an uncorrectable line completes with poisoned data; a write that the storage cipher ends
leaves the line as it was (R407). -/
def bar2Run (a : Bar2) (e : Ecc) (s : State) : State :=
  match a with
  | .read off n =>
    let s := decodeLine (winAddr off s) e s
    if eccLost e then { s with hostData := [], hostPoison := true }
    else { s with hostData := winRead off n s, hostPoison := false }
  | .write off octets =>
    if inTestRow (winAddr (off + octets.length - 1) s) s then unmapped 1 off true s
    else if e = .failed then s
    else hostWrite off octets s

/-- The window offset of an access. -/
def bar2Off : Bar2 → Nat
  | .read off _ => off
  | .write off _ => off

/-- Whether an access writes. -/
def bar2Writes : Bar2 → Bool
  | .read _ _ => false
  | .write _ _ => true

/-- The octets an access reads. -/
def bar2Count : Bar2 → Nat
  | .read _ n => n
  | .write _ _ => 0

/-- A BAR2 access (R479, R480): unmapped while HOSTIF is OFF or DDR untrained, stalled while its chunk is not filled or DDR is in
self-refresh (R24, R521). -/
def bar2 (a : Bar2) (e : Ecc) (s : State) : State :=
  if pageState 0x40 s = OFF ∨ !ddrUp s then
    let s := if bar2Writes a then s else { s with hostData := List.replicate (bar2Count a) 0, hostPoison := false }
    unmapped 1 (bar2Off a) (bar2Writes a) s
  else
    let c := chunkOf (winAddr (bar2Off a) s)
    if selfRefresh s ∨ (rd F.DDR.FILL_STATE s = 1 ∧ !s.mem.filled.contains c) then
      inc F.DDR.STALLS { s with mem := { s.mem with stalls := s.mem.stalls ++ [{ chunk := c, since := s.now, access := a }] } }
    else bar2Run a e s

/-! ### The copy engine (R482) -/

/-- RESULT codes of COPY (R503). -/
def CP_DONE : Nat := 1
/-- R503. -/
def CP_TIMEOUT : Nat := 2
/-- R503. -/
def CP_ERROR : Nat := 3
/-- R503. -/
def CP_LINK_DOWN : Nat := 4
/-- R503. -/
def CP_ABORTED : Nat := 5
/-- R503. -/
def CP_DDR_ERROR : Nat := 6
/-- R503. -/
def CP_NO_MASTER : Nat := 7

/-- A copy ends. -/
def copyEnd (result moved : Nat) (s : State) : State :=
  let s := wr F.HOSTIF.COPY_STATUS_BUSY 0 (wr F.HOSTIF.COPY_STATUS_RESULT result (wr F.HOSTIF.COPY_DONE_OCTETS moved s))
  pushNotice 7 3 { s with copy := none }

/-- A write of COPY.GO. A copy that would leave the window is out of range. Without a trained DDR it ends as DDR_ERROR (R631). -/
def copyGo (toHost : Bool) (s : State) : State :=
  let data : Word := if toHost then 1 else 2
  let win := rd F.HOSTIF.COPY_WIN s
  let len := rd F.HOSTIF.COPY_LENGTH s
  if 2 ^ 28 < win + len then reject 0x40 0x070 .bar0 .range data s
  else if pageState 0x40 s ≠ RUN then reject 0x40 0x070 .bar0 .state data s
  else if isSet F.HOSTIF.COPY_STATUS_BUSY s then reject 0x40 0x070 .bar0 .action data s
  else if !ddrUp s then copyEnd CP_DDR_ERROR 0 s
  else if !s.msix.master then copyEnd CP_NO_MASTER 0 s
  else if !s.msix.link then copyEnd CP_LINK_DOWN 0 s
  else
    wr F.HOSTIF.COPY_STATUS_BUSY 1 (wr F.HOSTIF.COPY_STATUS_RESULT 0 (wr F.HOSTIF.COPY_DONE_OCTETS 0
      { s with copy := some { toHost, host := rd F.HOSTIF.COPY_HOST_LO s + rd F.HOSTIF.COPY_HOST_HI s * 2 ^ 32, win, len } }))

/-- The octets of a copy from the host that arrived are in the window; a copy to the host moves `moved` octets. -/
def copyMoved (octets : List Byte) (moved : Nat) (s : State) : Nat × State :=
  match s.copy with
  | none => (0, s)
  | some c => if c.toHost then (min moved c.len, s) else ((octets.take c.len).length, winWrite c.win (octets.take c.len) s)

/-- A copy ends: complete, at a completion that reports an error, or at DDR that cannot be read. -/
def copyDone (how : CopyHow) (octets : List Byte) (moved : Nat) (s : State) : State :=
  match s.copy with
  | none => s
  | some c =>
    let all := (octets ++ List.replicate c.len 0).take c.len
    match how with
    | .complete =>
      let (n, s) := copyMoved all c.len s
      copyEnd CP_DONE n s
    | .completerError =>
      let (n, s) := copyMoved octets moved s
      copyEnd CP_ERROR n s
    | .ddrError =>
      let (n, s) := copyMoved octets moved s
      copyEnd CP_DDR_ERROR n (ddrLost (winAddr (c.win + n) s) s)

/-- The completion time-out of a copy's request. -/
def copyTimeout (octets : List Byte) (moved : Nat) (s : State) : State :=
  if s.copy.isNone then s
  else
    let (n, s) := copyMoved octets moved s
    copyEnd CP_TIMEOUT n (latch 0x40 1 (inc F.HOSTIF.CPL_TIMEOUTS s))

/-! ### The function (R477, R481) -/

/-- PERST_N low, a hot reset or a function level reset. -/
def functionReset (perst : Bool) (s : State) : State :=
  let s := { s with msix := { link := s.msix.link, answers := s.msix.answers && !perst, perstLow := s.msix.perstLow || perst } }
  if s.copy.isSome then copyEnd CP_LINK_DOWN 0 s else s

/-- The configuration space answers. -/
def configReady (s : State) : State := { s with msix := { s.msix with answers := true, perstLow := false } }

/-- One message for every vector whose pending bit is set and that is no longer masked (R99). -/
def releasePending (s : State) : State :=
  (List.range 32).foldl (fun s v =>
    if s.msix.enabled && s.msix.pending.getLsbD v && !vecMasked v s then sendMsix v s else s) s

/-- The Data Link Layer goes up or down (R481, R501): a change latches PCIE_LINK and pushes a LINK notice. -/
def pcieLink (up : Bool) (speed width : Nat) (master : Bool) (s : State) : State :=
  let was := isSet F.HOSTIF.LINK_UP s
  let s := wrBool F.HOSTIF.LINK_UP up (wr F.HOSTIF.LINK_SPEED (if up then speed else 0)
    (wr F.HOSTIF.LINK_WIDTH (if up then width else 0) s))
  let s := { s with msix := { s.msix with link := up, master := up && master, perstLow := s.msix.perstLow && !up } }
  let s := if up then releasePending s else if s.copy.isSome then copyEnd CP_LINK_DOWN 0 s else s
  if up == was then s else pushNotice 8 (2 + if up then 16 else 0) (latch 0x40 0 s)

/-! ### Transmit slots (R494, R495) -/

/-- Octets of a slot header as a little-endian number. -/
def hdr (h : List Byte) (o n : Nat) : Nat := leBytes ((h.drop o).take n)

/-- The header of a slot. -/
def slotHeader (r i : Nat) (s : State) : List Byte := winRead (slotOff r i s) 64 s

/-- The payload of a packet of `len` octets that starts in slot `i`. -/
def slotPayload (r i len : Nat) (s : State) : List Byte :=
  ((List.range (slotsFor len)).map (fun j =>
    winRead (slotOff r ((i + j) % ringSize r s) s + 64) (min 4032 (len - 4032 * j)) s)).flatten

/-- Whether the LENGTH word of the first slot and the headers of the others agree with R485. -/
def slotLengths (r i : Nat) (s : State) : Bool :=
  let h := slotHeader r i s
  let len := hdr h 0 4 % 2 ^ 14
  let n := slotsFor len
  hdr h 0 4 == len + n * 2 ^ 16 && decide (1 ≤ len) && decide (n ≤ 3) && hdr h 52 12 == 0 &&
    (List.range n).tail.all (fun j =>
      let c := slotHeader r ((i + j) % ringSize r s) s
      hdr c 0 4 == min 4032 (len - 4032 * j) + 2 ^ 30 && hdr c 4 60 == 0)

/-- A time of R491 in units of 2^-16 ns. -/
def timeFine (b : List Byte) : Nat := ((hdr b 0 6 * 1000000000 + hdr b 6 4) * 2 ^ 16) + hdr b 10 2

/-- An ETH slot's frame toward its port; none where the checks of R495 fail. -/
def ethSlot (r i len : Nat) (h b : List Byte) (s : State) : Option (Nat × Egress) :=
  let n := hdr h 8 1
  let m := hdr h 9 1
  let o := hdr h 10 2
  if 2 ≤ n ∨ 4 ≤ m ∨ hdr h 14 2 ≠ 0 ∨ hdr h 28 8 ≠ 0 ∨ len < 14 ∨ rd (F.ETH.MAX_FRAME n) s < len + 4 then none
  else
    let need := if m = 2 then 44 else if m = 3 then 16 else 32
    let tagged : Bool := netNum b 12 2 == 0x8100
    some (n, { fromSlot := some (r, i), octets := len, content := b, dst := netNum b 0 6, cast := castOf (netNum b 0 6), tagged
               tci := if tagged then netNum b 14 2 else 0, time := m != 0, tsMode := m, tsId := hdr h 12 2
               t2 := timeFine (h.drop 16)
               ptpType := if m ≠ 0 ∧ o + need ≤ len then some (netNum b o 1 % 16) else none
               ptpSeq := netNum b (o + 30) 2, ptpAt := o })

/-- A DOWNLINK slot's packet; none where the checks of R495 fail. -/
def downSlot (r i len id : Nat) (h b : List Byte) (s : State) : Option Packet :=
  if hdr h 8 28 ≠ 0 ∨ len < 40 ∨ netNum b 0 1 / 16 ≠ 6 ∨ 40 + netNum b 4 2 ≠ len then none
  else
    let ip := ipv6Of b
    some { ip, id, item := { octets := len, form := 1, origin := 8, device := s.clock.device }, host := some (r, i)
           queue := if isSet (F.RINGS.RING_CFG_QUEUE_EN r) s then 4 + rd (F.RINGS.RING_CFG_QUEUE r) s
             else classQueue (dscpClass ip s) .green s }

/-- The entry of the node that an MHR addresses by short address, if the MHR has one. -/
def mhrHop (b : List Byte) (s : State) : Option Nat :=
  let fcf := hdr b 0 2
  let v2 : Bool := fcf / 4096 % 4 == 2
  let o := if v2 && fcf.testBit 8 then 2 else 3
  let noPan : Bool := v2 && fcf.testBit 6 && fcf / 2 ^ 14 == 0
  if fcf / 1024 % 4 ≠ 2 ∨ noPan then none
  else
    let a := hdr b (o + 2) 2
    if reservedShort a then none else (panSlot (some (hdr b o 2)) s).map (fun p => p * 65536 + a)

/-- An AIR slot's frame; none where the descriptor breaks R343. -/
def airSlot (r i len : Nat) (h b : List Byte) (s : State) : Option Frame :=
  let d := h.drop 8
  let n := hdr d 3 1 / 16 % 4
  let opt := hdr d 9 1
  let sec := hdr d 14 2
  let fcf := hdr b 0 2
  let raw := hdr d 20 8
  let timed := opt.testBit 4
  let level := sec / 1024 % 8
  let node := if hdr d 16 4 / 2 ^ 31 = 1 then some (hdr d 16 4 % 2 ^ 18) else none
  let f : Frame :=
    { kind := .host r i, node, firstHop := match mhrHop b s with
        | some x => some x
        | none => node
      hops := match node with
        | some x => (Machine.node x s).hops
        | none => 1
      fe := n, airFe := n, queue := hdr d 3 1 % 16, length := len
      mode := if hdr d 2 1 = 0 then rd (F.FWD.DOWN_MODE n) s else hdr d 2 1
      hz := if hdr d 4 4 = 0 then rd (F.FWD.DOWN_CHANNEL_HZ n) s else hdr d 4 4
      power := toInt 8 (hdr d 8 1), fec := opt % 4, sync := opt / 4 % 4, extra := hdr d 10 2 % 4096
      fcs2 := opt.testBit 6, secure := opt.testBit 5, level, slot := sec % 1024, gen := (slot (sec % 1024) s).gen, timed
      start := (extendTicks 48 (raw / 2 ^ 16) (meshTicks s)).toNat * 2 ^ 16 + raw % 2 ^ 16, slipTol := hdr d 12 2
      ackReq := fcf.testBit 5, tag := hdr d 28 4, mem := len, payload := b
      seq := if fcf / 4096 % 4 = 2 ∧ fcf.testBit 8 then some 0 else some (hdr b 2 1) }
  let m := f.modeNow s
  let l := f.psdu m s
  let maxPower := if bandOf n s = 0 then 32 else 24
  if hdr d 0 2 ≠ len ∨ 2048 ≤ len ∨ 64 ≤ hdr d 3 1 ∨ f.queue = 0 ∨ f.queue = 3 ∨
      (hdr d 2 1 ≠ 0 ∧ (modeFamily f.mode).isNone) ∨ (f.power ≠ -128 ∧ (f.power < -40 ∨ maxPower < f.power)) ∨
      f.fec = 3 ∨ f.sync = 3 ∨ opt.testBit 7 ∨ 4096 ≤ hdr d 10 2 ∨ 10000 < f.slipTol ∨ 2 ^ 13 ≤ sec ∨
      (hdr d 16 4 / 2 ^ 18 % 2 ^ 13 ≠ 0) ∨ timed ≠ (f.queue == 2) ∨ (!timed ∧ raw ≠ 0) ∨ !(level ∈ [0, 5, 6, 7]) ∨
      f.secure ≠ decide (5 ≤ level) ∨ l < 5 ∨ maxPsdu m < l ∨ (modeFamily m = some .ofdm ∧ f.extra ≠ 0) ∨
      (timed ∧ (rd (F.SCHED.Q_HORIZON n 2) s * 1000000 : Int) < untilMesh f.start s) then none
  else some f

/-- An accepted AIR frame enters its queue (R343). Of several conditions the one of the earliest stage gives the code (R14): the
key, the page, and then a START that has passed. -/
def enterAir (f : Frame) (s : State) : State :=
  let (id, s) := newFrame s
  let s := setFrame id f s
  if f.secure ∧ (!(slot f.slot s).valid ∨ !(slot f.slot s).use FRAME_ENC) then endFrame id .dropKeyUnknown s
  else if pageState (schedPage f.fe) s = RUN ∧ !roleMuted s ∧ f.timed ∧ untilMesh f.start s + f.slipTol * 1000 < 0 then
    endFrame id .txAbandonSlip s
  else enqueue id s

/-- A taken slot is checked and its frame or packet enters (R495). -/
def takeChecked (r i : Nat) (s : State) : State :=
  let h := slotHeader r i s
  let len := hdr h 0 4 % 2 ^ 14
  let ok := inc (F.RINGS.PACKETS r)
  if !slotLengths r i s then badSlot r i S_BAD_SLOT s
  else
    let b := slotPayload r i len s
    match rd (F.RINGS.RING_CFG_KIND r) s with
    | 0 =>
      match ethSlot r i len h b s with
      | none => badSlot r i S_BAD_SLOT s
      | some (n, x) =>
        let (id, s) := newFrame (ok s)
        modPort n (fun q => { q with offers := q.offers ++ [{ x with frames := [id] }] }) s
    | 1 =>
      match downSlot r i len s.nextFrame h b s with
      | none => badSlot r i S_BAD_SLOT s
      | some p =>
        let (_, s) := newFrame (ok s)
        if pageState 0x21 s ≠ RUN then endPacket p .dropDisabled s else downlinkTree p s
    | _ =>
      match airSlot r i len h b s with
      | none => badSlot r i S_BAD_DESC (inc (F.SCHED.DESC_REJECTS (hdr h 11 1 / 16 % 4)) s)
      | some f => enterAir f (ok s)

/-- The slots of the packet at NEXT, from its header, at least one. -/
def chainLength (r i : Nat) (s : State) : Nat := max 1 (hdr (slotHeader r i s) 2 1 % 4)

/-- Whether slot `x` belongs to a transmit packet that has not returned (R496). -/
def slotHeld (r x : Nat) (s : State) : Bool :=
  (ring r s).held.any (fun h => (List.range h.2).any (fun j => (h.1 + j) % ringSize r s == x))

/-- A transmit slot is taken (R489, R495): one that the controller still holds is waited for, and so is space in the packet buffer for its payload (DEDUCED, log entry 24); a
slot that is POISON is passed, one with a wrong LAP, a broken chain or an
uncorrectable tally or header is poisoned, and one whose payload cannot be read returns. -/
def txSlotTake (r : Nat) (lost : SlotLoss) (s : State) : State :=
  let i := rd (F.RINGS.RING_POS_NEXT r) s
  let t := tally r i s
  if r < 16 ∨ pageState 0x41 s ≠ RUN ∨ !isSet (F.RINGS.RING_CFG_ENABLE r) s then s
  else if lost = .tally then (if t % 4 = T_POISON then advanceRing r 1 s else poisonSlots r 1 3 (ddrLost (winAddr (tallyOff r i s) s) s))
  else if t % 4 = T_POISON then advanceRing r 1 s
  else if t % 4 ≠ T_DEVICE ∨ slotHeld r i s then s
  else if t / 4 ≠ rd (F.RINGS.RING_POS_LAP r) s then poisonSlots r 1 1 s
  else if lost = .header then poisonSlots r 1 3 (ddrLost (winAddr (slotOff r i s) s) s)
  else
    let n := chainLength r i s
    let rest := (ringSpan r n s).tail
    if rest.any (fun x => slotHeld r x.1 s) ∨ !bufferFits (hdr (slotHeader r i s) 0 4 % 2 ^ 14) s then s
    else if ringSize r s < n ∨ rest.any (fun x => tally r x.1 s % 4 ≠ T_DEVICE ∨ !(hdr (slotHeader r x.1 s) 0 4).testBit 30) then
      poisonSlots r (min n (ringSize r s)) 2 s
    else
      let s := modRing r (fun g => { g with held := g.held ++ [(i, n)] }) s
      let s := refreshLevel r (advanceRing r n s)
      if lost = .payload then badSlot r i S_BAD_SLOT (ddrLost (winAddr (slotOff r i s + 64) s) s)
      else takeChecked r i s

/-- FORCE_STOP of HOSTIF (R504). -/
def hostifForceStop (s : State) : State := if s.copy.isSome then copyEnd CP_ABORTED 0 s else s

end Sys2Proof.Machine
end

