-- ==== Sys2Proof/Machine/Integrity.lean ====
section
/-! DEFINITION. Memory integrity (R510 to R531): the DDR scrubber, the hardware fill with its stalls, post-package and field
repair, the loss of a frame's buffer, and the split-write test mode. -/

namespace Sys2Proof.Machine

/-! ### DDR (R515, R518) -/

/-- A DDR_ALERT_N assertion; `again` when the repeated command fails too. -/
def ddrAlert (addr : Nat) (again : Bool) (s : State) : State :=
  ddrLostIf again addr (inc F.DDR.CA_RETRIES s)

/-- The line the scrubber is at. -/
def scrubAt (s : State) : Nat := rd F.MEMINT.SCRUB_DDR_POS s * 64

/-- The position after a line; a completed pass counts, saturating. -/
def scrubOn (s : State) : State :=
  let p := rd F.MEMINT.SCRUB_DDR_POS s + 1
  if ddrSize s ≤ p * 64 then wr F.MEMINT.SCRUB_DDR_POS 0 (incSat F.MEMINT.SCRUB_DDR_PASSES s)
  else wr F.MEMINT.SCRUB_DDR_POS p s

/-- The scrubber reads its next line: not while DDR is in self-refresh (R617), and neither the test row nor a line not yet
filled. The address of a read that ends as uncorrectable under R407 is recorded (R516), with no syndrome (DESIGN CHOICE,
log 36). -/
def ddrScrub (e : Ecc) (s : State) : State :=
  if pageState 0x46 s ≠ RUN ∨ !ddrUp s ∨ selfRefresh s then s
  else if inTestRow (scrubAt s) s || (rd F.DDR.FILL_STATE s == 1 && !s.mem.filled.contains (chunkOf (scrubAt s))) then scrubOn s
  else scrubOn (if e = .failed then ddrLast (scrubAt s) 0 true s else decodeLine (scrubAt s) e s)

/-! ### The fill (R520, R521) -/

/-- Chunks of the trained DDR. -/
def chunkCount (s : State) : Nat := ddrSize s / 2 ^ 26

/-- A 34-bit base in two registers. -/
def base34 (lo hi : Field) (s : State) : Nat := rd lo s + rd hi s * 2 ^ 32

/-- The regions in the order of R520: base and size. -/
def regions (s : State) : List (Nat × Nat) :=
  [(base34 F.NODE.EXT_BASE_LO F.NODE.EXT_BASE_HI s, 2 ^ 25), (base34 F.DDR.HOT_BASE_LO F.DDR.HOT_BASE_HI s, 2 ^ 26),
   (base34 F.FRAG.BASE_LO F.FRAG.BASE_HI s, 5242880), (base34 F.HOSTIF.WIN_BASE_LO F.HOSTIF.WIN_BASE_HI s, 2 ^ 28),
   (base34 F.DISSEM.SRC_BASE_LO F.DISSEM.SRC_BASE_HI s, 2 ^ 30)]

/-- Which region's base a register word is part of, by its place in the order. -/
def baseOf (pg off : Nat) : Option Nat :=
  match pg with
  | 0x20 => if off = 0x040 ∨ off = 0x044 then some 0 else none
  | 0x44 => if off = 0x048 ∨ off = 0x04C then some 1 else none
  | 0x22 => if off = 0x040 ∨ off = 0x044 then some 2 else none
  | 0x40 => if off = 0x044 ∨ off = 0x048 then some 3 else none
  | 0x29 => if off = 0x040 ∨ off = 0x044 then some 4 else none
  | _ => none

/-- A base counts as configured from the cycle its register is written. -/
def noteBase (pg off : Nat) (s : State) : State :=
  match baseOf pg off with
  | some i => if s.mem.bases.contains i then s else { s with mem := { s.mem with bases := i :: s.mem.bases } }
  | none => s

/-- The configured regions in their order. -/
def fillRegions (s : State) : List (Nat × Nat) :=
  ((List.range 5).zip (regions s)).filterMap (fun x => if s.mem.bases.contains x.1 then some x.2 else none)

/-- The lowest unfilled chunk of a range of addresses. -/
def unfilledIn (a n : Nat) (s : State) : Option Nat :=
  ((List.range (chunkOf (a + n - 1) + 1 - chunkOf a)).map (fun k => chunkOf a + k)).find?
    (fun c => decide (c < chunkCount s) && !s.mem.filled.contains c)

/-- The chunk that the fill takes next: one with a stalled access, one of a configured region, or any. -/
def nextChunk (s : State) : Option Nat :=
  match (s.mem.stalls.map (·.chunk)).find? (fun c => !s.mem.filled.contains c) with
  | some c => some c
  | none =>
    match ((fillRegions s).filterMap (fun r => unfilledIn r.1 r.2 s)).head? with
    | some c => some c
    | none => unfilledIn 0 (ddrSize s) s

/-- Stalled accesses of a chunk complete in order; the longest stall is kept. -/
def runStalls (c : Nat) (s : State) : State :=
  let mine := s.mem.stalls.filter (fun x => x.chunk == c)
  let s := { s with mem := { s.mem with stalls := s.mem.stalls.filter (fun x => x.chunk ≠ c) } }
  mine.foldl (fun s x => bar2Run x.access .clean (peak F.DDR.STALL_MAX_US (min 65535 ((s.now - x.since) / 1000)) s)) s

/-- The chunk in progress ends (R521); not while DDR is in self-refresh, which holds the fill too (R24). -/
def fillChunkDone (s : State) : State :=
  match s.mem.filling with
  | none => s
  | some c =>
    if selfRefresh s then s
    else
    let s := { s with mem := { s.mem with filled := s.mem.filled ++ [c], filling := none } }
    let s := runStalls c (wr F.DDR.FILL_CHUNKS_DONE s.mem.filled.length s)
    match nextChunk s with
    | some d => { s with mem := { s.mem with filling := some d } }
    | none => latch 0x44 0 (wr F.DDR.FILL_STATE 2 s)

/-- Post-package repair during training (R517): a listed row is repaired where its bank group has a repair left. -/
def packageRepair (s : State) : State :=
  let s := s.mem.repair.foldl (fun s row =>
    if s.mem.groups.contains (Config.bankGroup row) ∨ 8 ≤ s.mem.groups.length then s
    else engaged 8 row s.mem.groups.length
      { s with mem := { s.mem with groups := Config.bankGroup row :: s.mem.groups, repair := s.mem.repair.erase row } }) s
  let s := wr F.MEMINT.PPR_USED s.mem.groups.length (wr F.MEMINT.PPR_PENDING s.mem.repair.length s)
  if s.mem.repair.isEmpty then s else reserveLow 8 s

/-- DDR is trained: it is filled, or kept as it was where PRESERVE is honoured (R520, R522). -/
def startFill (s : State) : State :=
  if s.boot.keep then wr F.DDR.PRESERVE 0 (wr F.DDR.FILL_STATE 3 s)
  else
    let s := packageRepair s
    let s := wr F.DDR.FILL_STATE 1 (wr F.DDR.FILL_CHUNKS_DONE 0 { s with mem := { s.mem with filled := [], filling := none } })
    { s with mem := { s.mem with filling := nextChunk s } }

/-! ### Field repair of SRAM (R600) -/

/-- Entries blown for a macro's rows or columns. -/
def blownOf (m : Nat) (col : Bool) (s : State) : Nat := (s.mem.blown.filter (fun x => x.1 == m && x.2.1 == col)).length

/-- A location that has failed twice: its row, or its column where another row of that column failed within 24 h, takes a
repair entry while the macro has a spare and an entry is left. -/
def fieldRepair (m row col : Nat) (s : State) : State :=
  let recent := s.mem.sramBad.filter (fun x => s.now < x.at_ + 86400000000000)
  let byCol : Bool := recent.any (fun x => x.macro_ == m && x.col == col && x.row != row)
  let s := { s with mem := { s.mem with sramBad := { macro_ := m, row, col, at_ := s.now } :: recent } }
  let e := (m, byCol, if byCol then col else row)
  if s.mem.blown.contains e then s
  else
    let spares := if byCol then Config.spareColumns m else Config.spareRows m
    if spares ≤ blownOf m byCol s ∨ 256 ≤ s.mem.blown.length then reserveLow 4 s
    else engaged 4 m e.2.2 { s with mem := { s.mem with blown := e :: s.mem.blown } }

/-- Percent of spares left in a macro, of the kind with fewer left. -/
def sparesLeft (m : Nat) (s : State) : Nat :=
  let pct := fun n used => if n = 0 then 100 else (n - used) * 100 / n
  min (pct (Config.spareRows m) (blownOf m false s)) (pct (Config.spareColumns m) (blownOf m true s))

/-- REMAIN.SRAM_WORST: the least over the macros that have used a spare. -/
def worstSpares (s : State) : Nat := (s.mem.blown.map (fun x => sparesLeft x.1 s)).foldl min 100

/-! ### A frame whose buffer has lost parity (R513) -/

/-- Items that hold frame `id` end as DROP_PARITY; the others stay. -/
def loseItems (id : Nat) (l : List Item) (s : State) : List Item × State :=
  (l.filter (fun x => !x.frames.contains id), (l.filter (fun x => x.frames.contains id)).foldl (fun s x => endItem x .dropParity s) s)

/-- The same for frames toward a port. -/
def loseEgress (id : Nat) (l : List Egress) (s : State) : List Egress × State :=
  (l.filter (fun x => !x.frames.contains id), (l.filter (fun x => x.frames.contains id)).foldl (fun s x => endEgress x .dropParity s) s)

/-- The frame whose packet buffer fails ends as DROP_PARITY, wherever it waits. -/
def loseFrame (id : Nat) (s : State) : State :=
  let s := endFrame id .dropParity s
  let (d, s) := loseItems id s.delivered s
  let s := { s with delivered := d }
  let s := (List.range 16).foldl (fun s r =>
    let (w, s) := loseItems id (ring r s).waiting s
    modRing r (fun g => { g with waiting := w }) s) s
  let s := (List.range 2).foldl (fun s n =>
    let (o, s) := loseEgress id (port n s).offers s
    let (q, s) := loseEgress id (port n s).queue s
    let gone := (port n s).staging.filter (fun x => x.frame == id)
    let s := gone.foldl (fun s x => close x.frame .dropParity s) s
    modPort n (fun p => { p with offers := o, queue := q, staging := p.staging.filter (fun x => x.frame ≠ id) }) s) s
  let lost := s.rereads.filter (fun r => match r with
    | .packet p => (p.id :: p.also).contains id
    | _ => false)
  let s := lost.foldl (fun s r => match r with
    | .packet p => endPacket p .dropParity s
    | _ => s) { s with rereads := s.rereads.filter (fun r => !lost.contains r) }
  let dead := s.reasm.filter (fun x => x.2.frames.contains id)
  countReasm (dead.foldl (fun s x => endItem { x.2.proto with frames := x.2.frames } .dropParity s)
    { s with reasm := s.reasm.filter (fun x => !x.2.frames.contains id) })

/-! ### Split-write test mode (R525, R526) -/

/-- TARGET 0 is DDR; 1 and 2, 3 and 4 are the copies of one word. -/
def testKey (t off : Nat) : Nat := t * 1024 + off

/-- A test word. -/
def testWord (t off : Nat) (s : State) : TestWord := look s.mem.test (testKey t off) {}

/-- Changes a test word. -/
def setTest (t off : Nat) (w : TestWord) (s : State) : State :=
  { s with mem := { s.mem with test := insert s.mem.test (testKey t off) w } }

/-- The other copy's target. -/
def otherCopy (t : Nat) : Option Nat :=
  match t with
  | 1 => some 2
  | 2 => some 1
  | 3 => some 4
  | 4 => some 3
  | _ => none

/-- SRAM_LAST.MEMORY of a test target. -/
def testMemory (t : Nat) : Nat := if t ≤ 2 then 0 else if t ≤ 4 then 1 else if t = 5 then 2 else 3

/-- Bits set in a number below 2^64. -/
def popcount (x : Nat) : Nat := ((List.range 64).filter (fun i => x.testBit i)).length

/-- TEST.TARGET, TEST.OFFSET, the 64 bits of TEST.DATA. -/
def testTarget (s : State) : Nat := rd F.MEMINT.TEST_TARGET s
/-- TEST.OFFSET. -/
def testOffset (s : State) : Nat := rd F.MEMINT.TEST_OFFSET s
/-- TEST.DATA. -/
def testData (s : State) : Nat := rd (F.MEMINT.TEST_DATA 0) s + rd (F.MEMINT.TEST_DATA 1) s * 2 ^ 32

/-- TEST.CHECK. -/
def testCheck (s : State) : Nat := rd F.MEMINT.TEST_CHECK s

/-- A write of TEST.GO: refused under LOCK (R525, R528). An operation on the DDR row waits out a self-refresh (R24). -/
def testGo (op : Nat) (rt : Route) (f : State → State) (s : State) : State :=
  if isSet (F.HEAD.CTRL_LOCK 0x46) s then reject 0x46 0x094 rt .locked (BitVec.ofNat 32 op) s
  else if testTarget s = 0 ∧ selfRefresh s then
    { s with mem := { s.mem with
        tests := s.mem.tests ++ [{ op, off := testOffset s, data := testData s, check := testCheck s }] } }
  else f s

/-- OUTCOME and SYNDROME. -/
def testStatus (outcome syn : Nat) (s : State) : State :=
  wr F.MEMINT.TEST_STATUS_OUTCOME outcome (wr F.MEMINT.TEST_STATUS_SYNDROME syn s)

/-- TEST.DATA takes a result. -/
def showData (v : Nat) (s : State) : State :=
  wr (F.MEMINT.TEST_DATA 0) (v % 2 ^ 32) (wr (F.MEMINT.TEST_DATA 1) (v / 2 ^ 32 % 2 ^ 32) s)

/-- WRITE: every copy takes DATA. -/
def putTest (t off data : Nat) (s : State) : State :=
  let s := setTest t off { data } s
  testStatus 0 0 (match otherCopy t with
    | some u => setTest u off { data } s
    | none => s)

/-- FLIP_DATA: the stored data bits of one copy. -/
def flipTestData (t off data : Nat) (s : State) : State :=
  let w := testWord t off s
  testStatus 0 0 (setTest t off { w with flipD := w.flipD ^^^ data } s)

/-- FLIP_CHECK: the stored check or parity bits of one copy. -/
def flipTestCheck (t off check : Nat) (s : State) : State :=
  let w := testWord t off s
  testStatus 0 0 (setTest t off { w with flipC := w.flipC ^^^ check } s)

/-- A write of TEST.GO with OP 1. -/
def testWrite (rt : Route) : State → State :=
  testGo 1 rt (fun s => putTest (testTarget s) (testOffset s) (testData s) s)

/-- A write of TEST.GO with OP 2. -/
def testFlipData (rt : Route) : State → State :=
  testGo 2 rt (fun s => flipTestData (testTarget s) (testOffset s) (testData s) s)

/-- A write of TEST.GO with OP 3. -/
def testFlipCheck (rt : Route) : State → State :=
  testGo 3 rt (fun s => flipTestCheck (testTarget s) (testOffset s) (testCheck s) s)

/-- Whether octet `k` of an SRAM test word fails parity. -/
def TestWord.bad (w : TestWord) (k : Nat) : Bool :=
  (popcount (w.flipD / 256 ^ k % 256) + (if w.flipC.testBit k then 1 else 0)) % 2 = 1

/-- The parity mask of an SRAM test word. -/
def TestWord.mask (w : TestWord) : Nat := ((List.range 8).filter w.bad).foldl (fun m k => m + 2 ^ k) 0

/-- The stored data of an SRAM test word. -/
def TestWord.stored (w : TestWord) : Nat := w.data ^^^ w.flipD

/-- Octet `k` of a number replaced. -/
def putOctet (x k v : Nat) : Nat := x - x / 256 ^ k % 256 * 256 ^ k + v * 256 ^ k

/-- Octet `k` of a test word is written back as octet `k` of the other copy reads. -/
def TestWord.mend (w o : TestWord) (k : Nat) : TestWord :=
  { data := putOctet w.data k (o.stored / 256 ^ k % 256), flipD := putOctet w.flipD k 0, flipC := w.flipC - (w.flipC &&& 2 ^ k) }

/-- READ of an SRAM target: bad octets come from the other copy where that has one and it is good there (R290, R512). -/
def testReadSram (t off : Nat) (s : State) : State :=
  let w := testWord t off s
  let mend := match otherCopy t with
    | some u =>
      let o := testWord u off s
      ((List.range 8).filter (fun k => w.bad k && !o.bad k)).foldl (fun w k => TestWord.mend w o k) w
    | none => w
  let place := off * 8
  let s := testStatus (if w.mask = 0 then 0 else if mend.mask = 0 then 1 else 2) w.mask (showData mend.stored (setTest t off mend s))
  if w.mask = 0 then s
  else if mend.mask = 0 then sramCorrected (testMemory t) place s
  else sramLost (testMemory t) place s

/-- READ of the DDR test row: one flipped bit is corrected and written back, two are uncorrectable; of more the outcome is
a free value, and a miscorrection flips one bit more (R515). The syndrome of flipped bits is a free value. -/
def testReadDdr (off : Nat) (s : State) : State :=
  let w := testWord 0 off s
  let n := popcount w.flipD + popcount w.flipC
  let addr := ddrSize s - 8192 + off * 8
  let (d, s) := draw s
  let e := Config.entropy d
  let syn := e % 255 + 1
  let how := if n ≤ 2 then n else e / 256 % 3
  if how = 0 then testStatus 0 0 (showData (if n = 0 then w.data else e / 1024 % 2 ^ 64) s)
  else if how = 1 then
    let b := e / 1024 % 72
    let w' : TestWord := if n = 1 then { data := w.data }
      else if b < 64 then { w with flipD := w.flipD ^^^ 2 ^ b } else { w with flipC := w.flipC ^^^ 2 ^ (b - 64) }
    let v := if n = 1 then w.data else e / 2 ^ 20 % 2 ^ 64
    ddrCorrected addr syn (testStatus 1 syn (showData v (setTest 0 off w' s)))
  else ddrUncorrectable addr syn (testStatus 2 syn (showData (e / 1024 % 2 ^ 64) s))

/-- READ. -/
def testRead (rt : Route) : State → State := testGo 4 rt (fun s =>
  if testTarget s = 0 then testReadDdr (testOffset s) s else testReadSram (testTarget s) (testOffset s) s)

/-- Even parity of each octet of a number. -/
def parityBits (v : Nat) : Nat :=
  ((List.range 8).filter (fun k => popcount (v / 256 ^ k % 256) % 2 = 1)).foldl (fun m k => m + 2 ^ k) 0

/-- The 72 stored bits of a word of the DDR test row, data lowest: its 16-octet block of the line encrypted under the key in force, and
check bits over that ciphertext (R404, R515). -/
def storedWord (off : Nat) (s : State) : Nat :=
  let line := ddrSize s / 64 - 128 + off / 8
  let text := (List.range 8).flatMap (fun k => octetsOf 8 (testWord 0 (off / 8 * 8 + k) s).data)
  let stored := xtsUnit false s.root.ddrKey line text
  let v := leNat ((stored.drop (off % 8 * 8)).take 8)
  v + Config.checkBits v % 256 * 2 ^ 64

/-- READ_RAW: the stored bits. Those of DDR are ciphertext. -/
def rawTest (t off : Nat) (s : State) : State :=
  let w := testWord t off s
  if t = 0 then
    let v := storedWord off s
    testStatus 0 0 (showData ((v ^^^ w.flipD) % 2 ^ 64) (wr F.MEMINT.TEST_CHECK ((v / 2 ^ 64 % 256) ^^^ w.flipC) s))
  else
    testStatus 0 0 (showData w.stored (wr F.MEMINT.TEST_CHECK (parityBits w.data ^^^ w.flipC) s))

/-- A write of TEST.GO with OP 5. -/
def testReadRaw (rt : Route) : State → State := testGo 5 rt (fun s => rawTest (testTarget s) (testOffset s) s)

/-- An operation on the DDR test row that waited. -/
def runTest (x : TestWait) (s : State) : State :=
  match x.op with
  | 1 => putTest 0 x.off x.data s
  | 2 => flipTestData 0 x.off x.data s
  | 3 => flipTestCheck 0 x.off x.check s
  | 4 => testReadDdr x.off s
  | _ => rawTest 0 x.off s

/-- DDR leaves self-refresh (R24, R616): the accesses that waited for it complete, but for those whose chunk is not filled. -/
def leaveRefresh (s : State) : State :=
  let s := s.mem.tests.foldl (fun s x => runTest x s) { s with mem := { s.mem with tests := [] } }
  ((s.mem.stalls.map (·.chunk)).eraseDups.filter (fun c => rd F.DDR.FILL_STATE s != 1 || s.mem.filled.contains c)).foldl
    (fun s c => runStalls c s) s

/-! ### Flash (R523) -/

/-- A flash operation exceeds TIMEOUT_MS. -/
def flashTimeout (sector : Nat) (s : State) : State := flashError 3 sector s

/-- Whether the flash erases or programs: an install, a settings copy, or a record of the counter journal. -/
def flashBusy (s : State) : Bool :=
  s.fw.cmd.any (fun c => c.op == 1 || c.op == 6) || s.keyOp.isSome || s.slots.any (fun x => x.2.writing)

/-- FORCE_STOP of FLASH (R531): what is in progress ends with FLASH_ERROR, cause 3; a ceiling that was being written is written
again (R386). -/
def flashForceStop (s : State) : State :=
  if !flashBusy s then s
  else
    let r := actNow s
    let s := match s.fw.cmd with
      | some c =>
        if c.op = 1 then fwEnd 7 (flashError 3 (partSector (r.location (1 - r.active))) s)
        else if c.op = 6 then fwEnd 7 (flashError 3 (settingsSector (1 - r.settings % 2)) s)
        else s
      | none => s
    match s.keyOp with
    | some o => loadEnd o.target KR_FLASH (flashError 3 journalSector s)
    | none => if s.slots.any (fun x => x.2.writing) then flashError 3 journalSector s else s

end Sys2Proof.Machine
end

