-- ==== Sys2Proof/Machine/Pages.lean ====
section
/-! DEFINITION. The page head at work (R76 to R85): CTRL writes and the block state machine with what each page does at its
transitions, self-tests, and the routes and gates of a register write. -/

namespace Sys2Proof.Machine

/-! ### Routes and gates (R18, R87, R627, R631, R613) -/

/-- The pages that MGMT SPI reaches (R87). -/
def spiReaches (pg : Nat) : Bool := pg ∈ [0x00, 0x02, 0x03, 0x04, 0x05, 0x06, 0x20, 0x30, 0x3A, 0x3B, 0x4E]

/-- KEYS and NODE are read only over MGMT SPI (R87). -/
def spiReadOnly (pg : Nat) (rt : Route) : Bool := rt == .mgmtSpi && (pg == 0x20 || pg == 0x30)

/-- A word or an address that MGMT SPI cannot use (R91, R92). -/
def spiDiscard (s : State) : State := latch 0x4E 0 (incSat F.MGMT.SPI_DISCARDS s)

/-- A write to an address that no page holds: an unmapped access over BAR0, nothing over MGMT SPI. -/
def noPage (pg off : Nat) (rt : Route) (s : State) : State :=
  match rt with
  | .bar0 => unmapped 0 (pg * 4096 + off) true s
  | .mgmtSpi => spiDiscard { s with spi := { s.spi with unusable := true } }

/-- Whether a page can be addressed on a route. -/
def reaches (pg : Nat) (rt : Route) : Bool := isPage pg && (rt == .bar0 || spiReaches pg)

/-- Whether the start still refuses a write to the page (R627). -/
def early (pg : Nat) (s : State) : Bool := decide (rd F.MGMT.START_STAGE s < 7) && !(pg ∈ [0x00, 0x4E, 0x04, 0x40])

/-- Whether base camp has been entered. -/
def inCampNow (s : State) : Bool := rd F.MGMT.START_STAGE s == 15

/-- Pages held OFF in base camp (R631). -/
def campHolds (pg : Nat) : Bool :=
  pg ∈ [0x08, 0x09, 0x0A, 0x0B, 0x0D, 0x10, 0x11, 0x18, 0x19, 0x1A, 0x1B, 0x20, 0x21, 0x22, 0x24, 0x25, 0x26, 0x27, 0x28,
    0x29, 0x38, 0x39, 0x3D, 0x41, 0x4A]

/-- Pages outside the bivouac profile (R613), with what deep hold powers down (R617). -/
def bivouacOut (s : State) : List Nat :=
  [0x09, 0x0A, 0x0B, 0x22, 0x25, 0x26, 0x27, 0x29, 0x39, 0x40, 0x41, 0x4A] ++
    (if isSet F.CANARY.BIVOUAC_CFG_ETH0 s || rd F.CANARY.BIVOUAC_STATE s == 3 then [] else [0x38]) ++
    (if rd F.CANARY.BIVOUAC_STATE s = 3 then [0x08, 0x38, 0x45] else [])

/-- The pages with a state machine. -/
def fullPages : List Nat :=
  [0x08, 0x09, 0x0A, 0x0B, 0x0D, 0x10, 0x11, 0x18, 0x19, 0x1A, 0x1B, 0x20, 0x21, 0x22, 0x24, 0x25, 0x26, 0x27, 0x28, 0x29,
   0x30, 0x31, 0x32, 0x33, 0x38, 0x39, 0x3C, 0x3D, 0x40, 0x41, 0x44, 0x45, 0x46, 0x48, 0x4A, 0x4C]

/-- The front end of an FEn page. -/
def feOf (pg : Nat) : Option Nat := if 0x08 ≤ pg ∧ pg ≤ 0x0B then some (pg - 0x08) else none

/-! ### What pages hold (R81) -/

/-- No transmission is in progress on any front end. -/
def noneSending (s : State) : Bool := (List.range 4).all (fun p => !sending p s)

/-- Whether a page has no work in flight; that of a relieved front end is FE3's too. -/
def pageDrained (pg : Nat) (s : State) : Bool :=
  match pg with
  | 0x08 | 0x09 | 0x0A | 0x0B =>
    !sending (pg - 0x08) s && (fe (pg - 0x08) s).fetch.isNone && !anyLane (fun l => l.physical == pg - 0x08) s &&
      !(relieves (pg - 0x08) s && (sending 3 s || anyLane (fun l => l.physical == 3) s))
  | 0x11 => !anyLane (fun _ => true) s && s.poolTest.isNone
  | 0x18 => noneSending s
  | 0x19 => macDrained s
  | 0x1A => beaconDrained s
  | 0x20 => !isSet F.NODE.CMD_STATUS_BUSY s
  | 0x21 => !s.rereads.any (fun r => match r with
    | .packet _ => true
    | _ => false)
  | 0x22 => s.reasm.isEmpty
  | 0x24 | 0x25 | 0x26 | 0x27 => schedDrained (pg - 0x24) s
  | 0x29 => dissemDrained s && !isSet F.DISSEM.CMD_STATUS_BUSY s
  | 0x30 => s.keyOp.isNone
  | 0x31 => fcryptoDrained s && s.engineTest.isNone
  | 0x32 => s.sciJob.isNone
  | 0x33 => s.pkeOp.isNone
  | 0x38 | 0x39 => ethDrained (pg - 0x38) s
  | 0x40 => s.copy.isNone
  | 0x41 => ringsDrained s
  | 0x45 => !flashBusy s
  | 0x48 => s.fw.cmd.isNone
  | 0x4A => s.rope.unacked.isEmpty
  | _ => true

/-- STATE.BUSY (R73): work in flight, or a transition under way. -/
def pageBusy (pg : Nat) (s : State) : Bool :=
  let st := pageState pg s
  st == STARTING || st == DRAINING || st == TEST || !pageDrained pg s ||
    (pg ∈ [0x11, 0x31] && rd (F.HEAD.TEST_STATUS_RESULT pg) s == T_RUNNING)

/-- STATE.BUSY of every page. -/
def showBusy (s : State) : State :=
  fullPages.foldl (fun s pg =>
    if isSet (F.HEAD.STATE_BUSY pg) s = pageBusy pg s then s else wrBool (F.HEAD.STATE_BUSY pg) (pageBusy pg s) s) s

/-! ### Transitions and what follows from them -/

/-- The committed frames of the schedulers that a page serves (R337). -/
def withdrawFor (pg : Nat) (s : State) : State :=
  match feOf pg with
  | some p => holdCommitted (logicalOf p s) s
  | none => if pg = 0x18 then (List.range 4).foldl (fun s n => holdCommitted n s) s else s

/-- The operating state of a front end whose page has stopped or left service. -/
def restFe (pg v : Nat) (s : State) : State :=
  match feOf pg with
  | some p => feStops p v s
  | none => s

/-- What a page has in flight ends at once (R81, and each chapter's FORCE_STOP). -/
def abortWork (pg : Nat) (s : State) : State :=
  match pg with
  | 0x08 | 0x09 | 0x0A | 0x0B => feForceStop (pg - 0x08) s
  | 0x11 => endLanes (fun _ => true) .dropDisabled s
  | 0x18 => withdrawFor 0x18 ((List.range 4).foldl (fun s p => cutTx p .dropDisabled s) s)
  | 0x19 => macForceStop s
  | 0x1A => beaconForceStop s
  | 0x20 => nodeForceStop s
  | 0x21 => fwdForceStop s
  | 0x22 => endReasm s
  | 0x24 | 0x25 | 0x26 | 0x27 =>
    let n := pg - 0x24
    let s := (List.range 4).foldl (fun s p =>
      match (fe p s).tx with
      | some t =>
        match t.what with
        | .scheduled _ => if t.logical = n then cutTx p .dropDisabled s else s
        | _ => s
      | none => s) s
    schedForceStop n s
  | 0x29 => dissemForceStop s
  | 0x30 => keysForceStop s
  | 0x31 => fcryptoForceStop s
  | 0x32 => scipherForceStop s
  | 0x33 => pkeForceStop s
  | 0x38 | 0x39 => ethForceStop (pg - 0x38) s
  | 0x3C => ppsOutEnd s
  | 0x40 => hostifForceStop s
  | 0x41 => ringsForceStop s
  | 0x45 => flashForceStop s
  | 0x48 => fwForceStop s
  | 0x4A => belayStop s
  | 0x4C => dropNotices s
  | _ => s

/-- What follows once a page is in STOPPED. -/
def stopped (pg : Nat) (s : State) : State :=
  match pg with
  | 0x08 | 0x09 | 0x0A | 0x0B => restFe pg RF_STANDBY s
  | 0x38 | 0x39 => refreshLink (pg - 0x38) (modPort (pg - 0x38) (fun p => { p with stopAt := s.now }) s)
  | 0x3C => ppsOutEnd s
  | 0x4A => belayStop s
  | _ => s

/-- A page enters STOPPED, with DRAINED. -/
def toStopped (pg : Nat) (drained : Bool) (s : State) : State :=
  stopped pg (wrBool (F.HEAD.STATE_DRAINED pg) drained (setPageState pg STOPPED s))

/-- Pages that hold no work and reach STOPPED at once (R469, R473, R509, R529). -/
def stopsAtOnce (pg : Nat) : Bool := pg ∈ [0x3C, 0x3D, 0x46, 0x4C]

/-- What a page does as it begins to drain. -/
def beginDrain (pg : Nat) (s : State) : State :=
  let s := withdrawFor pg s
  match pg with
  | 0x29 => endCampaigns .stopped s
  | 0x38 | 0x39 => modPort (pg - 0x38) (fun p => { p with drainAt := s.now }) s
  | 0x41 => ringsDrain s
  | _ => s

/-- A waiting self-test request ends with `v` (R84). -/
def endWaitingTest (pg v : Nat) (s : State) : State :=
  if rd (F.HEAD.TEST_STATUS_RESULT pg) s = T_WAITING then
    let s := { s with
      reliefQueue := s.reliefQueue.filter (fun r => !(feOf pg == some r.k && r.why == .selfTest))
      poolTest := if pg = 0x11 then none else s.poolTest
      engineTest := if pg = 0x31 then none else s.engineTest }
    setTestResult pg v s
  else s

/-- A waiting calibration request of a front end ends with `v`, by the same rule (R84, R115). -/
def endWaitingCal (pg v : Nat) (s : State) : State :=
  match feOf pg with
  | none => s
  | some p =>
    if rd (F.FE.CAL_STATUS_RESULT p) s = T_WAITING then
      wr (F.FE.CAL_STATUS_RESULT p) v
        { s with reliefQueue := s.reliefQueue.filter (fun r => !(r.k == p && r.why == .request)) }
    else s

/-- Requests that wait on a page are cancelled (R84). -/
def cancelWaiting (pg : Nat) (s : State) : State := endWaitingCal pg T_ABORTED (endWaitingTest pg T_ABORTED s)

/-- What a page does as it enters RUN. -/
def enterRun (pg : Nat) (s : State) : State :=
  match pg with
  | 0x24 | 0x25 | 0x26 | 0x27 => fillBuckets (pg - 0x24) s
  | 0x38 | 0x39 => refreshLink (pg - 0x38) (modPort (pg - 0x38) (fun p => { p with openAt := s.now }) s)
  | _ => s

/-- ENABLE 0→1 (R81). -/
def pageEnable (pg : Nat) (s : State) : State :=
  let st := pageState pg s
  if st = OFF ∨ st = STOPPED then
    let s := setPageState pg STARTING (wr (F.HEAD.STATE_DRAINED pg) 0 s)
    match feOf pg with
    | some p => feStart p s
    | none => if pg = 0x38 ∨ pg = 0x39 then refreshLink (pg - 0x38) s else s
  else if st = DRAINING then
    let s := setPageState pg RUN s
    if pg = 0x38 ∨ pg = 0x39 then refreshLink (pg - 0x38) (modPort (pg - 0x38) (fun p => { p with resumedAt := s.now }) s)
    else enterRun pg s
  else s

/-- ENABLE 1→0 (R81). -/
def pageDisable (pg : Nat) (s : State) : State :=
  let st := pageState pg s
  let s := cancelWaiting pg s
  if st = STARTING then
    let s := toStopped pg true s
    if pg = 0x38 ∨ pg = 0x39 then modPort (pg - 0x38) (fun p => { p with openAt := s.now }) s else s
  else if st = RUN then
    let s := beginDrain pg (setPageState pg DRAINING s)
    if stopsAtOnce pg then toStopped pg true s else s
  else s

/-- A front end whose retirement fuse is blown (R601). -/
def feRetired (pg : Nat) (s : State) : Bool :=
  match feOf pg with
  | some p => isRetired 3 p s
  | none => false

/-- The working state that a block reset discards (R82), and what a policer that is enabled starts with (R347). A front end whose
fuse is blown stays withdrawn: it never returns to service after any reset (R601). -/
def blockReset (pg : Nat) (s : State) : State :=
  if feRetired pg s then setPageState pg RETIRED s
  else
  let s := setPageState pg OFF s
  match pg with
  | 0x08 | 0x09 | 0x0A | 0x0B => restFe pg RF_OFF s
  | 0x38 | 0x39 => refreshLink (pg - 0x38) s
  | 0x10 => (List.range 4).foldl (fun s n => modFe n (fun f => { f with
      energy := [], reports := [], starved := [], gainLog := [], satAt := none, forcedLast := none, forcedAt := none
      recovering := false }) s) s
  | 0x1A => { s with tracks := s.tracks.map (fun x => (x.1, { x.2 with sent := [] })), peers := [] }
  | 0x1B => { s with tracks := s.tracks.map (fun x => (x.1, { x.2 with k := 0, next := 0 })) }
  | 0x24 | 0x25 | 0x26 | 0x27 => { s with scheds := erase s.scheds (pg - 0x24) }
  | 0x28 => (List.range 12).foldl (fun s m => resetMeter m s) s
  | 0x30 => keysForceStop s
  | 0x3D => (List.range 2).foldl (fun s n => showTsq n (modPort n (fun p => { p with tsq := [] }) s)) s
  | 0x41 => ringsDiscard s
  | 0x4C => dropNotices s
  | _ => s

/-- A running test that FORCE_STOP cuts short (R81, R189), or a fault of the page (DEDUCED, log 12). The vector run of a faulty lane
(R186) is no part of it. -/
def abortTest (pg : Nat) (s : State) : State :=
  if rd (F.HEAD.TEST_STATUS_RESULT pg) s = T_RUNNING then
    let s := if pg = 0x11 then
        match s.poolTest with
        | some (i, _) =>
          let s := { s with poolTest := none }
          if (lane (i - 1) s).state == .test then modLane (i - 1) (fun l => { l with state := .reserve }) s else s
        | none => s
      else if pg = 0x31 then engineTestCut s
      else s
    setTestResult pg T_ABORTED s
  else s

/-- FORCE_STOP, with ENABLE as the write leaves it (R81). KEYS takes commands in states without a row there, and FORCE_STOP ends the
operation in flight in each of them (R394). -/
def pageForceStop (pg : Nat) (s : State) : State :=
  let st := pageState pg s
  let s := cancelWaiting pg (if pg = 0x30 then keysForceStop s else s)
  if st = STARTING then toStopped pg true s
  else if st = RUN ∨ st = DRAINING then
    if pg = 0x28 then pageDisable pg (wr (F.HEAD.CTRL_ENABLE pg) 0 s)
    else toStopped pg (pg == 0x46) (abortWork pg (abortTest pg s))
  else if st = TEST then toStopped pg false (abortWork pg (abortTest pg s))
  else if (st = STOPPED ∨ st = FAULT) ∧ !isSet (F.HEAD.CTRL_ENABLE pg) s then blockReset pg s
  else s

/-- A page enters FAULT from any state except OFF, with what it has in flight ended (R81). A retired front end has nothing
in flight, and its RF_STATE stays RETIRED. -/
def pageFault (pg detail : Nat) (s : State) : State :=
  let st := pageState pg s
  if headOnly pg ∨ st = OFF then s
  else if st = RETIRED then
    let s := setPageState pg FAULT (wr (F.HEAD.TEST_STATUS_DETAIL pg) detail s)
    if (feOf pg).isSome then latch pg 2 s else s
  else
    let s := abortTest pg (cancelWaiting pg s)
    match feOf pg with
    | some p => feFault p detail (abortWork pg s)
    | none => setPageState pg FAULT (wr (F.HEAD.TEST_STATUS_DETAIL pg) detail (withdrawFor pg (abortWork pg s)))

/-! ### Self-tests (R84, R85) -/

/-- What an FEn self-test runs (R112, R113). -/
def testSet : List CalKind := fullSet ++ [.loopback]

/-- A front end's own page enters TEST. -/
def feTest (p was : Nat) (s : State) : State :=
  let s := setTestResult (fePage p) T_RUNNING (modFe p (fun f => { f with fromState := was }) s)
  refreshListen (startCals p .selfTest testSet (setPageState (fePage p) TEST s))

/-- The LANEPOOL self-test goes on (R189): the lane under test is relieved by a RESERVE lane first. It does not begin while a roll
of the microcode is under way (R554). -/
def poolStep (s : State) : State :=
  match s.poolTest with
  | none => s
  | some (i, bad) =>
    if laneNumbers.any (fun j => (lane j s).state == .test) ||
        (isSet F.FWUP.ROLL_ACTIVE s && rd (F.HEAD.TEST_STATUS_RESULT 0x11) s == T_WAITING) then s
    else
      match (laneNumbers.drop i).find? (fun j => !((lane j s).state ∈ [.fault, .retired])) with
      | none =>
        let s := wr (F.HEAD.TEST_STATUS_DETAIL 0x11) (bad.getD 0) { s with poolTest := none }
        setTestResult 0x11 (if bad.isSome then T_FAILED else T_PASSED) s
      | some j =>
        if (lane j s).state = .reserve then
          setTestResult 0x11 T_RUNNING (modLane j (fun l => { l with state := .test }) { s with poolTest := some (j + 1, bad) })
        else
          match lowestReserve s with
          | none => s
          | some r =>
            if (lane j s).state ≠ .idle then setTestResult 0x11 T_RUNNING s
            else
              let s := modLane r (fun l => { l with state := .idle, idleSince := s.now }) s
              setTestResult 0x11 T_RUNNING (modLane j (fun l => { l with state := .test }) { s with poolTest := some (j + 1, bad) })

/-- The 200 µs vector set of a lane ends (R186, R189): a lane that fails, or whose fault was its third within 24 h, is
retired, and any other becomes RESERVE. LANE_RESERVE_EMPTY latches when that leaves no lane in RESERVE (R193). -/
def laneTested (i : Nat) (passed : Bool) (s : State) : State :=
  let l := lane i s
  if l.state = .fault ∨ l.state = .test then
    let s := { s with poolTest := s.poolTest.map (fun x => (x.1, if passed ∨ x.2.isSome ∨ x.1 ≠ i + 1 then x.2 else some i)) }
    reserveLeft (if passed ∧ faults24 l s.now < 3 then modLane i (fun l => { l with state := .reserve }) s else retireLane i s)
  else s

/-- SELF_TEST_REQ in a page's present state. -/
def selfTest (pg : Nat) (s : State) : State :=
  let st := pageState pg s
  let bad := setTestResult pg T_BAD_STATE s
  if st = STOPPED then
    match feOf pg with
    | some p => feTest p STOPPED s
    | none =>
      let s := setTestResult pg T_RUNNING (setPageState pg TEST s)
      if pg = 0x31 then engineStill {} s else s
  else if st = RUN then
    match feOf pg with
    | some p =>
      if p = 3 then (if fe3Free s then feTest 3 RUN s else bad)
      else needRelief { k := p, cals := testSet, why := .selfTest } (setTestResult pg T_WAITING s)
    | none =>
      if pg = 0x11 then poolStep (setTestResult pg T_WAITING { s with poolTest := some (0, none) })
      else if pg = 0x31 then fcryptoStep (setTestResult pg T_WAITING { s with engineTest := some {} })
      else bad
  else bad

/-- What a lane that fails while LANEPOOL is in STOPPED becomes (R189): it is retired, and LANE_RESERVE_EMPTY latches if that leaves no
lane in RESERVE (R193). -/
def unitFailed (pg detail : Nat) (s : State) : State := if pg = 0x11 then reserveLeft (retireLane detail s) else s

/-- A self-test ends (R81, R84, R85). LANEPOOL in RUN ends with its lanes; FCRYPTO tests its engines one at a time, and the command
ends the test of the engine under test (R416). -/
def selfTestDone (pg : Nat) (failure : Option Byte) (s : State) : State :=
  let st := pageState pg s
  let detail := testDetail pg (failure.getD 0)
  let noted := if failure.isSome then wr (F.HEAD.TEST_STATUS_DETAIL pg) detail s else s
  if rd (F.HEAD.TEST_STATUS_RESULT pg) s ≠ T_RUNNING then s
  else if pg = 0x31 then (if st = TEST then engineStillTested failure.isNone s else engineTested failure.isNone s)
  else if st = TEST then
    match feOf pg with
    | some p => if failure.isSome then feFault p detail (setTestResult pg T_FAILED s) else calsDone p (modFe p (fun f => { f with todo := [] }) s)
    | none =>
      if failure.isSome then setPageState pg FAULT (unitFailed pg detail (setTestResult pg T_FAILED noted))
      else setPageState pg STOPPED (setTestResult pg T_PASSED s)
  else s

/-- TEST_WAIT passes without a reserve unit (R84): the self-test or the calibration request that waits ends. At most one
of them waits on a page. -/
def selfTestExpiry (pg : Nat) (s : State) : State := endWaitingCal pg T_NO_RESERVE (endWaitingTest pg T_NO_RESERVE s)

/-! ### Writes of CTRL (R76, R79, R81, R83, R84) -/

/-- A self-test or calibration request waits or runs on a page (R84). -/
def requestOpen (pg : Nat) (s : State) : Bool :=
  match feOf pg with
  | some p => feRequestOpen p s
  | none => rd (F.HEAD.TEST_STATUS_RESULT pg) s ∈ [T_WAITING, T_RUNNING]

/-- Why a CTRL write is rejected, if it is: the first reason that applies. -/
def ctrlRefused (pg : Nat) (rt : Route) (d : Nat) (s : State) : Option Reason :=
  let e0 := isSet (F.HEAD.CTRL_ENABLE pg) s
  let e1 := d.testBit 0
  let fs := d.testBit 1
  let st := pageState pg s
  if 16 ≤ d then some .reservedBit
  else if isSet (F.HEAD.CTRL_LOCK pg) s && (e0 != e1 || fs) then some .locked
  else if early pg s || (rd F.CANARY.BIVOUAC_STATE s != 0 && (bivouacOut s).contains pg) ||
      (inCampNow s && campHolds pg && e1 && !e0) || (pg == 0x4A && e1 && !e0 && !s.rope.member) then some .state
  else if spiReadOnly pg rt && (e0 != e1 || d.testBit 1 || d.testBit 2 || (d.testBit 3 && !isSet (F.HEAD.CTRL_LOCK pg) s)) then some .route
  else if headOnly pg then (if !e1 || fs || d.testBit 2 then some .action else none)
  else if (e1 && !e0 && fs) || (pg == 0x44 && st == RUN && (fs || (e0 && !e1))) ||
      (d.testBit 2 && requestOpen pg s) ||
      ((pg == 0x38 || pg == 0x39) && e1 && !e0 && macAddr (pg - 0x38) s == 0) then some .action
  else none

/-- A CTRL write that is accepted. -/
def ctrlApply (pg d : Nat) (s : State) : State :=
  let e0 := isSet (F.HEAD.CTRL_ENABLE pg) s
  let e1 := d.testBit 0
  let s := if d.testBit 3 then wr (F.HEAD.CTRL_LOCK pg) 1 s else s
  if headOnly pg then s
  else
    let s := wrBool (F.HEAD.CTRL_ENABLE pg) e1 s
    let s := if d.testBit 1 then pageForceStop pg s
      else if e1 && !e0 then pageEnable pg s
      else if e0 && !e1 then pageDisable pg s
      else s
    if d.testBit 2 then selfTest pg s else s

/-- A write of CTRL. -/
def ctrlWrite (pg : Nat) (rt : Route) (data : Word) (s : State) : State :=
  if !reaches pg rt then noPage pg 0x008 rt s
  else
    match ctrlRefused pg rt data.toNat s with
    | some r => reject pg 0x008 rt r data s
    | none => ctrlApply pg data.toNat s

/-- ENABLE as it stands. -/
def enableBit (pg : Nat) (s : State) : Word := if isSet (F.HEAD.CTRL_ENABLE pg) s then 1 else 0

/-! ### The block's own transitions -/

/-- A start sequence ends (R81). Front ends end theirs with their calibrations, DDR with its training. -/
def startDone (pg : Nat) (failure : Option Byte) (s : State) : State :=
  if pageState pg s ≠ STARTING then s
  else
    match failure with
    | some d => pageFault pg d.toNat s
    | none => if (feOf pg).isSome ∨ pg = 0x44 then s else enterRun pg (setPageState pg RUN s)

/-- The last item of a draining page has ended (R81). -/
def drainDone (pg : Nat) (s : State) : State :=
  if pageState pg s = DRAINING ∧ pageDrained pg s then toStopped pg true s else s

/-- An internal fault (R81). -/
def blockFaulted (pg : Nat) (s : State) : State := pageFault pg (rd (F.HEAD.TEST_STATUS_DETAIL pg) s) s

end Sys2Proof.Machine
end

