-- ==== Sys2Proof/Machine/Events.lean ====
section
/-! DEFINITION. Events toward the host and the management processor (R96 to R100), the MGMT SPI transactions that reach no
register page (R91), general-purpose I/O (R93), the second I2C master (R94) and boundary scan (R95). -/

namespace Sys2Proof.Machine

/-! ### Events -/

/-- A write of EVT_FORCE (R96): the latch bits set and the raw bits stay. Bits without a source are reserved. -/
def evtForce (pg : Nat) (rt : Route) (bits : Word) (s : State) : State :=
  if !reaches pg rt then noPage pg 0x01C rt s
  else if bits.toNat &&& pageEventBits pg ≠ bits.toNat then reject pg 0x01C rt .reservedBit bits s
  else if early pg s then reject pg 0x01C rt .state bits s
  else if spiReadOnly pg rt && bits != 0 then reject pg 0x01C rt .route bits s
  else latchBits pg bits.toNat s

/-- A holdoff ends (R99): one message follows if an assertion was merged and the vector still stands. -/
def holdoffExpiry (v : Nat) (s : State) : State :=
  let merged := s.msix.merged.getLsbD v
  let s := { s with msix := { s.msix with
    holdRun := s.msix.holdRun &&& ~~~(1#32 <<< v), merged := s.msix.merged &&& ~~~(1#32 <<< v) } }
  if merged && vecStatus v s then assertVec v s else s

/-- An unmask of one vector or of the function (R99): each vector that is still pending and no longer masked sends. -/
def msixUnmask (v : Option Nat) (s : State) : State :=
  let s := match v with
    | some v => { s with msix := { s.msix with vecMask := s.msix.vecMask &&& ~~~(1#32 <<< v) } }
    | none => { s with msix := { s.msix with funcMask := false } }
  releasePending s

/-- MSI-X is enabled or disabled, its Function Mask is set or cleared, and Bus Master Enable is as given (R99, R481). An
enabling sends one message for each vector whose VEC_STATUS bit is 1; a clearing of the mask while enabled sends what is
pending. -/
def msixEnable (on mask master : Bool) (s : State) : State :=
  let was := s.msix.enabled
  let s := { s with msix := { s.msix with enabled := on, funcMask := mask, master } }
  if on && !was then (List.range 32).foldl (fun s v => if vecStatus v s then assertVec v s else s) s
  else releasePending s

/-- A write of MGMT_ACK (R100): the asserted sources among the bits are acknowledged. -/
def mgmtAck (g : Nat) (bits : Word) (s : State) : State :=
  (List.range 32).foldl (fun s b =>
    if bits.getLsbD b && srcAsserted (32 * g + b) s then { s with acked := s.acked ||| (1#256 <<< (32 * g + b)) } else s) s

/-! ### MGMT SPI (R91, R92) -/

/-- The commands of the MGMT SPI slave. -/
inductive SpiCommand where
  | read | write | status | quadOn | quadOff
deriving DecidableEq, Repr

/-- The command of a command octet in single or quad mode. None for an octet outside the table, and for QUAD_OFF in single
mode: the transaction ends with nothing done. -/
def SpiCommand.ofOctet (quad : Bool) (o : Byte) : Option SpiCommand :=
  if o = 0x0B then some .read
  else if o = 0x02 then some .write
  else if o = 0x05 then some .status
  else if o = 0x38 then some .quadOn
  else if o = 0xF5 then (if quad then some .quadOff else none)
  else none

/-- A transaction begins: SPI_STATUS shows the mode, and STATUS will report this transaction. -/
def spiBegin (mode3 writing : Bool) (s : State) : State :=
  wrBool F.MGMT.SPI_STATUS_MODE3 mode3
    { s with spi := { s.spi with active := true, writing, rejected := false, unusable := false, partialWord := false, reply := [] } }

/-- The status octet: a write was rejected or discarded, the address was unusable, a partial word was discarded, quad mode
is on. -/
def spiStatusOctet (s : State) : Nat :=
  (if s.spi.rejected then 1 else 0) + (if s.spi.unusable then 2 else 0) + (if s.spi.partialWord then 4 else 0) +
    (if isSet F.MGMT.SPI_STATUS_QUAD s then 8 else 0)

/-- STATUS: the octet is sent and its bits [2:0] are cleared. -/
def spiStatus (mode3 : Bool) (s : State) : State :=
  let o := BitVec.ofNat 8 (spiStatusOctet s)
  let s := spiBegin mode3 false s
  { s with spi := { s.spi with sentStatus := o } }

/-- QUAD_ON: later transactions are quad. -/
def quadOn (mode3 : Bool) (s : State) : State := wr F.MGMT.SPI_STATUS_QUAD 1 (spiBegin mode3 false s)

/-- QUAD_OFF, accepted only in quad. -/
def quadOff (mode3 : Bool) (s : State) : State := wr F.MGMT.SPI_STATUS_QUAD 0 (spiBegin mode3 false s)

/-- CS_N rises: the transaction ends, and a partial final word of a write is discarded. -/
def spiEnd (partialBits : Nat) (s : State) : State :=
  let cut : Bool := s.spi.active && s.spi.writing && partialBits % 32 != 0
  let s := { s with spi := { s.spi with active := false, writing := false } }
  if cut then
    let s := { s with spi := { s.spi with partialWord := true, rejected := true } }
    if s.spi.unusable then s else spiDiscard s
  else s

/-! ### General-purpose I/O (R93) -/

/-- The SFP logic drives the ball instead of the register (R437). -/
def sfpBall (b : Nat) (s : State) : Bool :=
  14 ≤ b && (isSet (F.ETH.SFP_CFG_ENABLE 0) s || isSet (F.ETH.SFP_CFG_ENABLE 1) s)

/-- A ball is an input. -/
def gpioInput (b : Nat) (s : State) : Bool := !(rd F.MGMT.GPIO_DIR s).testBit b && !sfpBall b s

/-- A ball drives its OUT bit. -/
def gpioDriven (b : Nat) (s : State) : Bool := (rd F.MGMT.GPIO_DIR s).testBit b && !sfpBall b s

/-- The level that the SFP logic drives on GPIO14 or GPIO15: it selects the channel of the port whose access runs (R437). -/
def sfpLevel (b : Nat) (s : State) : Bool :=
  (port (b - 14) s).access.isSome && (b == 14 || (port 0 s).access.isNone)

/-- The level that IN shows of a ball (R93): what the SFP logic or OUT drives on it, or the level that the board gives it. -/
def gpioShown (b : Nat) (s : State) : Bool :=
  if sfpBall b s then sfpLevel b s
  else if gpioDriven b s then (rd F.MGMT.GPIO_OUT s).testBit b
  else (rd F.MGMT.GPIO_IN s).testBit b

/-- IN shows the level that an output ball drives. -/
def showDriven (s : State) : State :=
  wr F.MGMT.GPIO_IN ((List.range 16).foldl (fun v b =>
    if gpioDriven b s then (if (rd F.MGMT.GPIO_OUT s).testBit b then v ||| 2 ^ b else v - (v &&& 2 ^ b)) else v)
    (rd F.MGMT.GPIO_IN s)) s

/-- GPIO_EDGE follows the EDGE bits. -/
def showEdges (s : State) : State :=
  if rd F.MGMT.GPIO_EDGE s = 0 then lower 0x4E 1 s else if rawSet 0x4E 1 s then s else raise 0x4E 1 s

/-- A filtered edge at a ball that the controller does not drive. -/
def gpioEdge (b : Nat) (level : Bool) (s : State) : State :=
  if gpioDriven b s || sfpBall b s then s
  else
  let old := (rd F.MGMT.GPIO_IN s).testBit b
  let enabled := if level then (rd F.MGMT.GPIO_EDGE_EN_RISE s).testBit b else (rd F.MGMT.GPIO_EDGE_EN_FALL s).testBit b
  let s := if level then orBits F.MGMT.GPIO_IN (2 ^ b) s else clearBits F.MGMT.GPIO_IN (2 ^ b) s
  if old ≠ level ∧ gpioInput b s ∧ enabled then showEdges (orBits F.MGMT.GPIO_EDGE (2 ^ b) s) else s

/-! ### I2C1 (R94) -/

/-- A write of I2C1.CMD starts a transaction. -/
def i2cCmd (rt : Route) (data : Word) (s : State) : State :=
  if data.toNat / 512 % 128 ≠ 0 then reject 0x4E 0x124 rt .reservedBit data s
  else if isSet F.MGMT.I2C1_STATUS_BUSY s then reject 0x4E 0x124 rt .action data s
  else wr F.MGMT.I2C1_STATUS_BUSY 1 { s with i2c := { running := some data.toNat } }

/-- A transaction ends with a result; I2C1_DONE latches. -/
def i2cEnd (result : Nat) (s : State) : State :=
  latch 0x4E 2 (wr F.MGMT.I2C1_STATUS_RESULT result (wr F.MGMT.I2C1_STATUS_BUSY 0 { s with i2c := { running := none } }))

/-- The device has answered every octet, or a NACK ended the transaction. A read stores its octet. -/
def i2cDone (nack : Bool) (octet : Byte) (s : State) : State :=
  match s.i2c.running with
  | none => s
  | some w =>
    if nack then i2cEnd 2 s
    else i2cEnd 1 (if w.testBit 7 then wr F.MGMT.I2C1_STATUS_READ_DATA octet.toNat s else s)

/-- Clock stretching for longer than 25 ms. -/
def i2cTimeout (s : State) : State := if s.i2c.running.isSome then i2cEnd 3 s else s

/-! ### Boundary scan (R95) -/

/-- The instruction of an 8-bit code; every code that the table does not list acts as BYPASS. -/
def JtagInstr.ofCode (c : Byte) : JtagInstr :=
  if c = 0x00 then .extest
  else if c = 0x01 then .idcode
  else if c = 0x02 then .samplePreload
  else if c = 0x04 then .clamp
  else if c = 0x05 then .highz
  else .bypass

/-- Whether EXTEST, CLAMP and HIGHZ are accepted: in MANUFACTURE and in base camp. -/
def scanDrives (s : State) : Bool := lifecycle s == LC_MANUFACTURE || inCampNow s

/-- An instruction is selected. -/
def jtagSelect (i : JtagInstr) (s : State) : State := { s with jtag := { s.jtag with instr := i } }

/-- EXTEST, CLAMP or HIGHZ: as BYPASS where it is not accepted. -/
def jtagDrive (i : JtagInstr) (s : State) : State := jtagSelect (if scanDrives s then i else .bypass) s

/-- SAMPLE/PRELOAD is selected, and the boundary register takes the value shifted in. -/
def jtagLoad (v : Nat) (s : State) : State := { s with jtag := { instr := .samplePreload, boundary := v } }

/-- Every TX DAC is muted and the balls follow the boundary register (R95). -/
def scanMutes (s : State) : Bool := s.jtag.instr ∈ [.extest, .clamp, .highz]

/-- Test-Logic-Reset: IDCODE is selected. -/
def jtagReset (s : State) : State := jtagSelect .idcode s

end Sys2Proof.Machine
end

