-- ==== Sys2Proof/Machine/Balls.lean ====
section
/-! DEFINITION. The signal balls (R34): the level each takes while a reset is asserted, and where the state gives it, the level it
drives in service (R93, R95, R127, R132, R135, R437, R440, R458, R575). -/

namespace Sys2Proof.Machine

/-- A level at a ball, or what stands for one: a CMOS level, high impedance or released, an internal pull, electrical idle, a DAC
that is muted or not, 50 Ω with the LNA off, a clock that runs, and the value of the ball's boundary cell. -/
inductive Level where
  | low | high | released | pullUp | pullDown | electricalIdle | muted | driven | terminated | running | boundaryCell
deriving DecidableEq, Repr

/-- The level of a CMOS ball. -/
def Level.ofBool (b : Bool) : Level := if b then .high else .low

/-- The signal balls by group, with the front end, port, line or bit; a bus of one group is one ball here. -/
inductive Ball where
  | rfReceive (p : Fin 4) | rfTransmit (p : Fin 4) | feLine (p : Fin 4) (line : Fin 6)
  | coexReq (p : Fin 4) | coexPri (p : Fin 4) | coexGnt (p : Fin 4)
  | crystal | pcie | perst | ethSerdes (n : Fin 2) | sfpIn (n : Fin 2) | sfpTxDis (n : Fin 2) | belay
  | ddrData | ddrResetN | ddrCke | ddrCommand
  | ospiClk | ospiCs | ospiResetN | ospiData
  | mgmtSpi | i2c | uartTxd | jtagIn | jtagTrstN | jtagTdo
  | tamper | pwrFail | rstN | evtN | mgmtEvtN | ppsOut | strap | actOut | partnerActIn | gpio (b : Fin 16)
deriving DecidableEq, Repr

/-- The state of a ball while any reset is asserted (R34, R128). PERST_N has no pull. -/
def resetLevel : Ball → Level
  | .rfReceive _ => .terminated
  | .rfTransmit _ => .muted
  | .feLine _ _ => .low
  | .coexReq _ => .low
  | .coexPri _ => .low
  | .coexGnt _ => .pullDown
  | .crystal => .running
  | .pcie => .electricalIdle
  | .perst => .released
  | .ethSerdes _ => .electricalIdle
  | .sfpIn _ => .pullUp
  | .sfpTxDis _ => .high
  | .belay => .electricalIdle
  | .ddrData => .released
  | .ddrResetN => .low
  | .ddrCke => .low
  | .ddrCommand => .low
  | .ospiClk => .low
  | .ospiCs => .high
  | .ospiResetN => .low
  | .ospiData => .pullDown
  | .mgmtSpi => .released
  | .i2c => .released
  | .uartTxd => .high
  | .jtagIn => .pullUp
  | .jtagTrstN => .pullDown
  | .jtagTdo => .released
  | .tamper => .running
  | .pwrFail => .pullUp
  | .rstN => .pullUp
  | .evtN => .released
  | .mgmtEvtN => .released
  | .ppsOut => .low
  | .strap => .pullDown
  | .actOut => .low
  | .partnerActIn => .pullDown
  | .gpio _ => .pullDown

/-- Whether a ball has a boundary-scan cell (R95): every digital signal ball but those of JTAG. -/
def Ball.scanned : Ball → Bool
  | .rfReceive _ | .rfTransmit _ | .crystal | .pcie | .ethSerdes _ | .belay | .jtagIn | .jtagTrstN | .jtagTdo => false
  | _ => true

/-- The power ramps of a transmission (R130): the last RAMP µs before the first symbol, and RAMP µs from the last one. -/
def inRamp (p : Nat) (s : State) : Bool :=
  let us := (s.now - (fe p s).since) / 1000
  let a := rd (F.FE.LINES_RAMP p) s
  (rf p s == RF_RX_TX && decide (96 ≤ us + a)) || (rf p s == RF_TX_RX && decide (us < a))

/-- Whether the TX DAC of a front end is muted (R127, R95). A transmission that began before TEMP_TRIP is the only one under way
while TEMP_TRIP is active (R71), and completes. The TX-mute timer of R590 ends the transmission that it mutes. A transmission that is
cut has no ramp down: its DAC is muted at once (R111, R134, R139). -/
def dacMuted (p : Nat) (s : State) : Bool :=
  s.boot.held || scanMutes s || refclkFault s || rd F.ROPE.ROLE_STATE s ∈ [1, 2, 3] || (fe p s).cut || (fe p s).muted ||
    !(rf p s == RF_TX || inRamp p s)

/-- REQ and PRI of a front end as they stand at the balls (R132, R135): low while coexistence is off, and else with the configured
polarity. -/
def coexPin (raised inverted : Bool) (p : Nat) (s : State) : Bool := coexOn p s && (raised != inverted)

/-- The level of GPIO ball `b` (R93, R437): an output drives OUT, an input has its pull. GPIO14 and GPIO15 select the channel of
the port whose access runs while the SFP logic has them. -/
def gpioLevel (b : Nat) (s : State) : Level :=
  if sfpBall b s then .ofBool (sfpLevel b s)
  else if gpioDriven b s then .ofBool ((rd F.MGMT.GPIO_OUT s).testBit b)
  else if (rd F.MGMT.GPIO_PULL_EN s).testBit b then (if (rd F.MGMT.GPIO_PULL_UP s).testBit b then .pullUp else .pullDown)
  else .released

/-- The level of a ball in service, where the state gives it; `none` where what the ball carries is a signal of its interface. -/
def serviceLevel (b : Ball) (s : State) : Option Level :=
  match b with
  | .rfTransmit p => some (if dacMuted p s then .muted else .driven)
  | .feLine p line => some (.ofBool ((linesNow p s).testBit line))
  | .coexReq p => some (.ofBool (coexPin (reqUp p s) (isSet (F.COEX.CFG_REQ_POL p) s) p s))
  | .coexPri p => some (.ofBool (coexPin (reqUp p s && (fe p s).pri) (isSet (F.COEX.CFG_PRI_POL p) s) p s))
  | .coexGnt _ => some .pullDown
  | .sfpIn _ => some .pullUp
  | .sfpTxDis n => some (.ofBool (txDisHigh n s))
  | .jtagIn => some .pullUp
  | .jtagTrstN => some .pullDown
  | .pwrFail => some .pullUp
  | .rstN => some .pullUp
  | .evtN => some (if evtNLow s then .low else .released)
  | .mgmtEvtN => some (if mgmtEvtNLow s then .low else .released)
  | .ppsOut => some (.ofBool (ppsOutHigh s))
  | .strap => some .pullDown
  | .actOut => some (.ofBool (isSet F.ROPE.ROLE_ACT_OUT s))
  | .partnerActIn => some .pullDown
  | .gpio b => some (gpioLevel b s)
  | .crystal => some .running
  | .tamper => some .running
  | _ => none

/-- The level of a ball: while EXTEST, CLAMP or HIGHZ is selected the scanned balls follow the boundary register (R95); else R34's
table while a reset is held, and the level of the service otherwise. -/
def ballLevel (b : Ball) (s : State) : Option Level :=
  if scanMutes s && b.scanned then some .boundaryCell
  else if s.boot.held then some (resetLevel b)
  else serviceLevel b s

end Sys2Proof.Machine
end

