-- ==== Sys2Proof/Machine/Canary.lean ====
section
/-! DEFINITION. The canary (R601 to R618): wear and its checkpoints, tamper, NOTE records, retirement of a front end, bivouac
mode and deep hold. -/

namespace Sys2Proof.Machine

/-! ### Checkpoints and wear (R602 to R604) -/

/-- A checkpoint is written to the older copy. -/
def checkpoint (s : State) : State :=
  let c : Checkpoint :=
    { powered := rd F.RESERVE.POWERED_S s, wear := (List.range 16).map (fun i => rd (F.RESERVE.WEAR i) s) }
  { s with wear := if s.wear.second then { s.wear with copy0 := c, second := false }
                   else { s.wear with copy1 := c, second := true } }

/-- Consumption joins monitor `i`: `n` parts, of which `unit` make 0.1 permille. -/
def addWear (i n unit : Nat) (s : State) : State :=
  let a := look s.wear.acc i 0 + n
  let s := { s with wear := { s.wear with acc := insert s.wear.acc i (a % unit) } }
  if a / unit = 0 then s else wr (F.RESERVE.WEAR i) (min 65535 (rd (F.RESERVE.WEAR i) s + a / unit)) s

/-- The mean junction temperature of the ordering code, in 0.125 °C (R2). -/
def meanJunction (s : State) : Int := if rd F.IDENT.PART_GRADE s = 1 then 800 else 720

/-- The maximum junction temperature of the ordering code, in 0.125 °C (R2). -/
def maxJunction (s : State) : Int := if rd F.IDENT.PART_GRADE s = 1 then 920 else 840

/-- e to the power of x, both in parts of 10^12: sixty terms of its series. -/
def expFix (x : Nat) : Nat :=
  ((List.range 60).foldl (fun (a : Nat × Nat) k => (a.1 + a.2, a.2 * x / ((k + 1) * 1000000000000))) (0, 1000000000000)).1

/-- AF of R603 for a junction temperature in 0.125 °C, in parts of 10^12. Temperatures are taken in fortieths of a kelvin. -/
def ageing (v : Int) (s : State) : Nat :=
  let t := (max 1 (5 * v + 10926)).toNat
  let r := (5 * meanJunction s + 10926).toNat
  if r ≤ t then expFix (324920 * 1000000000000 * (t - r) / (r * t))
  else 1000000000000000000000000 / expFix (324920 * 1000000000000 * (r - t) / (r * t))

/-- The junction swing of monitor 13: each swing of the hottest sensor of at least 10 °C adds (swing ÷ 30 °C)² cycles, once
the sensor has turned back by 10 °C. -/
def wearSwing (h : Int) (s : State) : State :=
  let w := s.wear
  if !w.seen then { s with wear := { w with seen := true, rising := false, low := h, high := h } }
  else
    let turn := fun (w' : Wear) => addWear 13 ((w.high - w.low).natAbs ^ 2 * 10) 841536 { s with wear := w' }
    if w.high - w.low < 80 then
      let lo := min w.low h
      let hi := max w.high h
      { s with wear := { w with low := lo, high := hi, rising := h == hi } }
    else if w.rising then
      if w.high < h then { s with wear := { w with high := h } }
      else if 80 ≤ w.high - h then turn { w with rising := false, low := h }
      else s
    else if h < w.low then { s with wear := { w with low := h } }
    else if 80 ≤ h - w.low then turn { w with rising := true, high := h }
    else s

/-- The wear monitors' sample of every 10 ms (R602, R603). -/
def wearSample (s : State) : State :=
  let temp := fun (i : Nat) (s : State) => if isSet (F.PWR.TEMP_VALID i) s then some (rdInt (F.PWR.TEMP_VALUE i) s) else none
  let s := (List.range 4).foldl (fun s i =>
    match temp i s with
    | some v => addWear i (ageing v s * 100) 1262304000000000000000 s
    | none => s) s
  let s := (List.range 4).foldl (fun s p =>
    if rf p s = RF_TX ∧ dacMuted p s = false ∧ bandMax (fe p s).band - 6 ≤ rdInt (F.FE.TX_STATUS_APPLIED p) s then addWear (4 + p) 1 3155760 s else s) s
  let temps := (List.range 4).filterMap (fun i => temp i s)
  let s := if temps.any (fun v => decide (meanJunction s + 80 < v)) then addWear 12 1 631152 s else s
  let s := match temps with
    | [] => s
    | v :: r => wearSwing (r.foldl max v) s
  showWear (if 2 ≤ rd F.CANARY.BIVOUAC_STATE s then addWear 15 1 288000 s else s)

/-- The ring oscillators' losses in parts per million, by site (R602). -/
def wearOscillators (loss : List Nat) (s : State) : State :=
  showWear ((List.range 4).foldl (fun s i => wr (F.RESERVE.WEAR (8 + i)) (min 65535 (loss.getD i 0 / 5)) s) s)

/-! ### Tamper (R605 to R608) -/

/-- Whether a sensor is enabled (R606). -/
def sensorOn (b : Nat) (s : State) : Bool :=
  if b < 2 then (rd F.CANARY.CFG_MESH_EN s).testBit b
  else if b < 4 then (rd F.CANARY.CFG_SW_EN s).testBit (b - 2)
  else if b = 4 then isSet F.CANARY.CFG_TEMP_EN s
  else isSet F.CANARY.CFG_GLITCH_EN s

/-- Only the battery supplies the tamper domain, with VDD_AON below 1.30 V (R607, phase 4): from an always-on power-on
until the domain changes over to VDD_AON. -/
def batteryOnly (s : State) : Bool :=
  s.boot.held && s.watch.tamperOnVbat && rd F.MGMT.START_RESET_KIND s == R_AON

/-- TAMPER_STATUS.PHASE of a detection (R607). -/
def tamperPhase (s : State) : Nat :=
  if batteryOnly s then 4
  else if rd F.CANARY.BIVOUAC_STATE s = 3 then 3
  else if rd F.CANARY.BIVOUAC_STATE s = 2 then 2
  else if rd F.MGMT.START_STAGE s < 8 then 0
  else 1

/-- A detection of sensor `b` (R607, R364, R413). -/
def tamper (b : Nat) (s : State) : State :=
  let phase := tamperPhase s
  if phase ≠ 4 ∧ !sensorOn b s then s
  else
    let masked : Bool := s.root.mask.isSome
    let s := { s with root := { s.root with mask := none } }
    let s := wr F.CANARY.TAMPER_STATUS_PHASE phase (orBits F.CANARY.TAMPER_STATUS_SENSORS (2 ^ b) s)
    let x := cairnItem K_TAMPER [rd F.CANARY.TAMPER_STATUS_SENSORS s, phase] s
    if phase = 4 then { s with watch := { s.watch with deferred := s.watch.deferred ++ [x] } }
    else
      let s := queueRecord x (zeroizeSlots s)
      let s := if phase = 0 then s
        else logCairn K_ZEROIZED [if masked then 1 else 0] (wr F.CANARY.TAMPER_STATUS_ZEROIZED 1 s)
      deviceReset R_TAMPER 0 s

/-- The mask is lost with both supplies of the tamper domain (R363). -/
def maskLost (s : State) : State := { s with root := { s.root with mask := none } }

/-! ### NOTE records and front-end retirement (R611, R601) -/

/-- A write of CAIRN.NOTE_GO. -/
def noteGo (s : State) : State :=
  logCairn K_NOTE (octetsOf 4 (rd (F.CAIRN.NOTE 0) s) ++ octetsOf 4 (rd (F.CAIRN.NOTE 1) s)) s

/-- A write of RESERVE.RETIRE_FE (R601). -/
def retireFe (rt : Route) (data : Word) (s : State) : State :=
  let k := data.toNat % 4
  if data.toNat / 65536 ≠ 0x5A3C then reject 0x05 0x068 rt .range data s
  else if data.toNat / 4 % 16384 ≠ 0 then reject 0x05 0x068 rt .reservedBit data s
  else if early 0x05 s || !(pageState (fePage k) s ∈ [FAULT, STOPPED]) then reject 0x05 0x068 rt .state data s
  else
    let s := setPageState (fePage k) RETIRED (wr (F.HEAD.STATE_DRAINED (fePage k)) 0 s)
    refreshListen (setRf k RF_RETIRED (blowRetired 3 k s))

/-! ### Bivouac mode (R613 to R616) -/

/-- A page leaves service for bivouac: what it holds ends, and it reads STOPPED with DRAINED = 0. Its state is kept for the
exit. -/
def leaveService (pg : Nat) (s : State) : State :=
  let st := pageState pg s
  if st ∈ [OFF, FAULT, RETIRED] then s
  else
    let s := if (find s.boot.saved pg).isSome then s else { s with boot := { s.boot with saved := insert s.boot.saved pg st } }
    if st = STOPPED then wr (F.HEAD.STATE_DRAINED pg) 0 s
    else toStopped pg false (abortWork pg (abortTest pg (cancelWaiting pg s)))

/-- A front end takes its OFF levels (R131): its page stands in STOPPED and RF_STATE in STANDBY (R109). -/
def feOffLevels (p : Nat) (s : State) : State := refreshListen (showLines p s)

/-- ETH0 retrains as 1000BASE-X (R613). -/
def eth0Retrains (s : State) : Bool := isSet F.CANARY.BIVOUAC_CFG_ETH0 s && decide (rd (F.ETH.MODE_SEL 0) s ≤ 2)

/-- Step 1 of the entry (R614): what ends when mains fail. -/
def bivouacSheds (s : State) : State :=
  let s := endCampaigns .stopped s
  let s := (bivouacOut s).foldl (fun s pg => leaveService pg s) s
  let s := [1, 2, 3].foldl (fun s p => feOffLevels p s) s
  let s := endFrames (fun f => f.place == .pending && (match f.node with
    | some i => (node i s).fe != 0
    | none => f.fe != 0)) .dropDisabled s
  let d := s.delivered
  let s := d.foldl (fun s x => endItem x .dropDisabled s) { s with delivered := [] }
  if eth0Retrains s then
    let q := (port 0 s).queue
    q.foldl (fun s x => endEgress x .dropDisabled s) (modPort 0 (fun p => { p with queue := [] }) s)
  else s

/-- The waiting automatic calibrations of FE0 run unrelieved, the oldest first (R116); no other front end has any left. -/
def fe0Unrelieved (s : State) : State :=
  let auto := fun (r : Relief) => decide (r.why ∈ [.temperature, .iqAge, .retry])
  (s.reliefQueue.filter (fun r => r.k == 0 && auto r)).foldl (fun s r => calUnrelieved 0 r.why s)
    { s with reliefQueue := s.reliefQueue.filter (fun r => !auto r) }

/-- Bivouac entry begins (R614 steps 1 and 2). -/
def bivouacEntry (s : State) : State :=
  bivouacSheds (checkpoint (wr F.CANARY.BIVOUAC_STATE 1 { s with boot := { s.boot with mirrored := false } }))

/-- The key mirror is complete (R614 step 3): the WRAPPED_KEY octets of every VALID extended record stand in the hot region,
and what lies outside the profile powers down. -/
def keyMirrorDone (s : State) : State :=
  if rd F.CANARY.BIVOUAC_STATE s ≠ 1 then s
  else
    let base := base34 F.DDR.HOT_BASE_LO F.DDR.HOT_BASE_HI s
    let ddr := (s.nodes.filter (fun x => x.2.valid)).foldl (fun m x =>
      writeOctets m (base + 24 * x.1) (bytesLe 24 (oct (node x.1 s).ext 40 24))) s.ddr
    let s := { s with ddr, boot := { s.boot with mirrored := true } }
    let s := pcieLink false 0 0 false s
    let dark := fun (n : Nat) (s : State) => refreshLink n (modPort n (fun p => { p with sync := false, anDone := false }) s)
    let s := dark 1 s
    if !isSet F.CANARY.BIVOUAC_CFG_ETH0 s || eth0Retrains s then dark 0 s else s

/-- A page returns to the state it held at entry (R616); a front end that was in RUN runs its start sequence, and what a page
does as it enters RUN follows (R328). -/
def returnPage (pg st : Nat) (s : State) : State :=
  match feOf pg with
  | some p => if st = RUN ∨ st = STARTING ∨ st = DRAINING then feStart p (setPageState pg STARTING s)
              else refreshListen (setRf p RF_STANDBY s)
  | none =>
    let s := setPageState pg (if st = TEST then STOPPED else st) s
    if st = RUN then enterRun pg s else s

/-- The exit begins (R616): front ends outside the profile, and FE0 after deep hold, run their start sequence. -/
def bivouacExit (s : State) : State :=
  let s := leaveRefresh (latch 0x02 4 s)
  (s.boot.saved.filter (fun x => (feOf x.1).isSome)).foldl (fun s x => returnPage x.1 x.2 s) s

/-- STATE reads BIVOUAC, and the record is written (R614 step 4). An exit due by then follows. -/
def bivouacEntered (s : State) : State :=
  if rd F.CANARY.BIVOUAC_STATE s ≠ 1 then s
  else
    let s := inc F.CANARY.BIVOUAC_ENTRIES (wr F.CANARY.BIVOUAC_STATE 2 s)
    let s := fe0Unrelieved (logCairn K_BIVOUAC [2] (latch 0x03 6 s))
    if mainsBack s then bivouacExit s else s

/-- PWR_FAIL_N falls (R58, R59, R618): bivouac entry, after a start that is under way, or the end of an exit. In base camp
nothing follows (R631). -/
def pwrFail (s : State) : State :=
  let s := latch 0x02 3 (wr F.PWR.PWR_FAIL_FELL 1 (wr F.PWR.PWR_FAIL_LEVEL 0 s))
  let s := checkpoint { s with boot := { s.boot with powerLow := true } }
  if inCampNow s ∨ !started s then s
  else
    match rd F.CANARY.BIVOUAC_STATE s with
    | 0 => bivouacEntry s
    | 1 => s
    | _ =>
      let s := (bivouacOut s).foldl (fun s pg => leaveService pg s) s
      let s := [1, 2, 3].foldl (fun s p => feOffLevels p s) s
      if rd F.CANARY.BIVOUAC_STATE s = 3 then feOffLevels 0 (leaveService 0x08 s) else s

/-- PWR_FAIL_N has stayed high for 100 ms (R58, R616): a start that reaches RUN after it enters no bivouac (R628). -/
def pwrRestored (s : State) : State :=
  let s := wr F.PWR.PWR_FAIL_LEVEL 1 { s with boot := { s.boot with powerLow := false } }
  if 2 ≤ rd F.CANARY.BIVOUAC_STATE s then bivouacExit s else s

/-- The restarted parts are back (R616). -/
def bivouacExited (s : State) : State :=
  if 2 ≤ rd F.CANARY.BIVOUAC_STATE s ∧ mainsBack s then
    let s := (s.boot.saved.filter (fun x => (feOf x.1).isNone)).foldl (fun s x => returnPage x.1 x.2 s) s
    let s := { s with boot := { s.boot with saved := [] } }
    let s := if rd (F.ETH.MODE_SEL 0) s ≤ 2 then
        refreshLink 0 (modPort 0 (fun p => { p with sync := false, anDone := false }) s) else refreshLink 0 s
    refreshLink 1 (serveRelief (logCairn K_BIVOUAC [0] (latch 0x03 7 (wr F.CANARY.BIVOUAC_STATE 0 s))))
  else s

/-! ### Deep hold (R617) -/

/-- Device time runs on the shadow alone: holdover begins, and with the crystal in fault time is coarse (R454, R456). -/
def shadowAlone (s : State) : State :=
  let s := if isSet F.TIME.STATUS_UNSET s || isSet F.TIME.STATUS_HOLDOVER s then s
    else latch 0x3C 2 (wr F.TIME.STATUS_HOLDOVER 1 s)
  if rawSet 0x03 1 s then wr F.TIME.STATUS_COARSE 1 s else s

/-- Deep hold begins. -/
def deepEntry (s : State) : State :=
  if rd F.CANARY.BIVOUAC_STATE s ≠ 2 ∨ mainsBack s then s
  else
    let s := [0x08, 0x38, 0x45].foldl (fun s pg => leaveService pg s) s
    let s := refreshLink 0 (modPort 0 (fun p => { p with sync := false, anDone := false }) s)
    let s := feOffLevels 0 (checkpoint (logCairn K_BIVOUAC [3] (wr F.CANARY.BIVOUAC_STATE 3 s)))
    let s := { s with plls := insert s.plls 0 {} }
    shadowAlone (clearBits F.CLK.PLL_STATUS_LOCK 1 s)

/-- DEEP_AFTER seconds of bivouac have passed. -/
def deepAfter (s : State) : State := if rd F.CANARY.BIVOUAC_CFG_DEEP_AFTER s = 0 then s else deepEntry s

/-- DEEP_NOW written 1. -/
def deepNowSet (s : State) : State := deepEntry (wr F.CANARY.BIVOUAC_DEEP_NOW 1 s)

/-- DEEP_NOW written 0: the controller returns to bivouac, and FE0 runs its start sequence. -/
def deepNowClear (s : State) : State :=
  let s := wr F.CANARY.BIVOUAC_DEEP_NOW 0 s
  if rd F.CANARY.BIVOUAC_STATE s ≠ 3 ∨ mainsBack s then s
  else
    let back := s.boot.saved.filter (fun x => x.1 = 0x08 ∨ (x.1 = 0x38 ∧ isSet F.CANARY.BIVOUAC_CFG_ETH0 s) ∨ x.1 = 0x45)
    let s := logCairn K_BIVOUAC [2] (wr F.CANARY.BIVOUAC_STATE 2 s)
    let s := { s with boot := { s.boot with saved := s.boot.saved.filter (fun x => !back.contains x) } }
    back.foldl (fun s x => returnPage x.1 x.2 s) s

end Sys2Proof.Machine
end

