-- ==== Sys2Proof/Machine/Power.lean ====
section
/-! DEFINITION. Supplies, temperature and clocks (R42 to R71): the supply monitor, the device resets it causes, VBAT_TAMPER,
the junction sensors, the checks of the crystal and of both references, and the PLLs. -/

namespace Sys2Proof.Machine

/-! ### The supply monitor (R50 to R54) -/

/-- A low warning (R52): latched, recorded, and a checkpoint is written (R604). -/
def sagWarn (rail : Nat) (s : State) : State :=
  let s := { s with watch := { s.watch with lowRails := s.watch.lowRails ||| 2 ^ rail } }
  let s := raise 0x02 0 (orBits F.PWR.SAG_WARN_LATCH (2 ^ rail) s)
  checkpoint (logCairn K_SUPPLY (octetsOf 2 (2 ^ rail) ++ [0]) s)

/-- A high warning (R52). -/
def supplyHigh (rail : Nat) (s : State) : State :=
  let s := { s with watch := { s.watch with highRails := s.watch.highRails ||| 2 ^ rail } }
  let s := raise 0x02 1 (orBits F.PWR.HIGH_LATCH (2 ^ rail) s)
  logCairn K_SUPPLY (octetsOf 2 (2 ^ rail) ++ [1]) s

/-- A warning condition of a rail clears (R51); the event's condition ends with the last rail. -/
def supplyClear (rail : Nat) (high : Bool) (s : State) : State :=
  if high then
    let m := s.watch.highRails - (s.watch.highRails &&& 2 ^ rail)
    let s := { s with watch := { s.watch with highRails := m } }
    if m = 0 then lower 0x02 1 s else s
  else
    let m := s.watch.lowRails - (s.watch.lowRails &&& 2 ^ rail)
    let s := { s with watch := { s.watch with lowRails := m } }
    if m = 0 then lower 0x02 0 s else s

/-- Rails fall below their low reset thresholds (R53). While a more severe reset is held, its kind stays (R55). VDD_AON
below 1.60 V hands the tamper domain to VBAT_TAMPER (R42). DESIGN CHOICE (log entry 12): the spec lets the board remove
VDD_RFA, VDD_RFB, VDD_SDS and VDDA_SDS in deep hold (R41) and excepts no rail and no mode from R53; their crossing resets
the part in deep hold as anywhere. -/
def sagReset (rails : Nat) (s : State) : State :=
  let s := incSat F.PWR.SAG_COUNT (orBits F.PWR.SAG_CAUSE_RAILS rails (clearBits F.PWR.RAIL_OK rails s))
  let s := if rails.testBit 9 then { s with watch := { s.watch with tamperOnVbat := true } } else s
  deviceReset R_SAG 0 s

/-- The always-on domain takes its own power-on reset (R53, R622). -/
def aonReset (s : State) : State := deviceReset R_AON 0 s

/-- VDD_CORE rises from below 0.1 V with the always-on domain kept (R622). -/
def powerOnReset (s : State) : State := deviceReset R_POWER 0 s

/-- Supplies valid (R54, R626 step 1): the straps are sampled at POR release (R38), VDD_AON supplies the tamper domain
(R42), and PWR_FAIL_N is read (R59). -/
def suppliesValid (seqLate role camp mains : Bool) (s : State) : State :=
  if !s.boot.held then s
  else
    let s := wr F.PWR.RAIL_OK 0x3FF s
    let s := if seqLate then wr F.PWR.SAG_CAUSE_SEQ_LATE 1 s else s
    let s := if s.boot.por then
        { s with rope := { s.rope with member := role }
                 boot := { s.boot with por := false, camp, causes := if camp then 2 ^ C_STRAP else 0 } }
      else s
    let s := { s with watch := { s.watch with tamperOnVbat := false } }
    let s := wr F.ROPE.ROLE_STATE (if s.rope.member then 1 else 0) s
    let s := wrBool F.PWR.PWR_FAIL_LEVEL mains { s with boot := { s.boot with powerLow := !mains } }
    beginStart s

/-- The tamper domain changes over between VDD_AON and VBAT_TAMPER (R42). -/
def changeover (toVbat : Bool) (s : State) : State := { s with watch := { s.watch with tamperOnVbat := toVbat } }

/-- VBAT_TAMPER crosses 1.0 V or 2.3 V (R56). -/
def vbatCrossing (mv : Nat) (s : State) : State :=
  let low : Bool := decide (1000 ≤ mv) && decide (mv < 2300)
  let s := wrBool F.PWR.VBAT_PRESENT (decide (1000 ≤ mv)) (wrBool F.PWR.VBAT_LOW low s)
  if low then raise 0x02 2 s else lower 0x02 2 s

/-- The measurement of VBAT_TAMPER once per second (R56). -/
def vbatMeasure (mv : Nat) (s : State) : State := wr F.PWR.VBAT_MV (min mv 4095) s

/-! ### Junction temperature (R71) -/

/-- A level that sets above a threshold and clears once every sensor is `back` below it. -/
def tempLevel (bit : Nat) (limit back : Int) (ts : List Int) (s : State) : State :=
  if ts.any (fun t => decide (limit < t)) then (if rawSet 0x02 bit s then s else raise 0x02 bit s)
  else if ts.all (fun t => decide (t ≤ limit - back)) then lower 0x02 bit s
  else s

/-- The sample of every 10 ms; each TEMP_TRIP is recorded with the lowest-numbered sensor beyond the threshold, and withdraws the
untimed frames that are committed (R337). -/
def tempSample (ts : List Int) (s : State) : State :=
  let s := (List.range 4).foldl (fun s i =>
    wr (F.PWR.TEMP_VALID i) 1 (wrInt (F.PWR.TEMP_VALUE i) (clamp (-2048) 2047 (ts.getD i 0)) s)) s
  let lim := maxJunction s
  let was := tempTrip s
  let s := tempLevel 6 (lim + 80) 80 ts (tempLevel 5 lim 40 ts s)
  if tempTrip s && !was then
    let s := (List.range 4).foldl (fun s n => holdCommitted n s) s
    let i := ((List.range 4).find? (fun i => decide (lim + 80 < ts.getD i 0))).getD 0
    logCairn K_TEMP (octetsOf 2 (rd (F.PWR.TEMP_VALUE i) s) ++ [i]) s
  else s

/-! ### The crystal and the references (R62 to R66) -/

/-- REFCLK_FAULT sets (R64, R65): a transmission in progress stops, and untimed frames that are committed are withdrawn (R337). -/
def refclkFaults (s : State) : State :=
  (List.range 4).foldl (fun s n => holdCommitted n s)
    ((List.range 4).foldl (fun s p => cutTx p .txAbandonReg s) (clockFault 0 true s))

/-- The crystal stops (R62). A start that has only step 10 left reaches RUN then (R628), which is the start's own step. -/
def xoFault (s : State) : State :=
  let s := clockFault 1 true { s with watch := { s.watch with xoRunning := false } }
  if rd F.CANARY.BIVOUAC_STATE s = 3 || s.watch.refclkAbsent then wr F.TIME.STATUS_COARSE 1 s else s

/-- The crystal returns (R62). -/
def xoReturn (s : State) : State := clockFault 1 false { s with watch := { s.watch with xoRunning := true } }

/-- The PLLs that derive from REFCLK40_IN: CORE, SUP and DDR (R67). -/
def corePlls : List Nat := [0, 1, 2]

/-- Whether a condition of R67 asks for a PLL. The time unit requests CORE_PLL in every state but deep hold (R450); a
supervisor core is awake from the lock of its clock on, in service, base camp and bivouac; the PCIe link is enabled and PERST_N
high while its configuration space answers or the link is up, and powered down with the self-refresh of DDR (R613, R614). No
command tells of PERST_N rising: until the link is up or the configuration space answers, PERST_N counts as low (DESIGN CHOICE,
log entry 10). -/
def pllWanted (n : Nat) (s : State) : Bool :=
  match n with
  | 0 => rd F.CANARY.BIVOUAC_STATE s != 3 || (List.range 4).any (fun p => rf p s == RF_RX)
  | 1 => rd F.CANARY.BIVOUAC_STATE s != 3
  | 2 => !selfRefresh s
  | 3 => (s.msix.answers || isSet F.HOSTIF.LINK_UP s) && !s.msix.perstLow && !selfRefresh s
  | 4 => isSet (F.HEAD.CTRL_ENABLE 0x38) s
  | 5 => isSet (F.HEAD.CTRL_ENABLE 0x39) s
  | _ => isSet (F.HEAD.CTRL_ENABLE 0x4A) s

/-- Whether a PLL is requested (R67 to R69): by a condition of R67, or by a block. DESIGN CHOICE (log entry 10): the table has no row
for a block that lets go of its clock; its request stands until PLL_HOLD_EXPIRY says that none has remained. -/
def pllRequested (n : Nat) (s : State) : Bool := pllWanted n s || (look s.plls n {}).requested

/-- Whether a condition of R67 holds a PLL, or CLK.PLL_FORCE does. -/
def pllHeld (n : Nat) (s : State) : Bool := (rd F.CLK.PLL_FORCE s).testBit n || pllWanted n s

/-- A PLL loses lock (R69). UNLOCK_SEEN and PLL_UNLOCK follow only while it is requested; one that is only forced starts
again, and one in its idle hold stays off. -/
def pllUnlock (n : Nat) (s : State) : State :=
  if (look s.plls n {}).phase = .locked then
    let wanted := pllRequested n s
    let s := { s with plls := insert s.plls n { look s.plls n {} with
      phase := if wanted || pllHeld n s then .starting else .off } }
    let s := clearBits F.CLK.PLL_STATUS_LOCK (2 ^ n) s
    if wanted then latch 0x01 0 (orBits F.CLK.PLL_STATUS_UNLOCK_SEEN (2 ^ n) s) else s
  else s

/-- No edge of REFCLK40_IN for 1 µs (R64, R65): every PLL derived from it loses lock, the front ends' synthesisers with
them (R63, R111). -/
def refclkAbsent (s : State) : State :=
  let s := refclkFaults { s with watch := { s.watch with refclkAbsent := true } }
  let s := (List.range 4).foldl (fun s p => synthUnlock p s) s
  let s := corePlls.foldl (fun s n => pllUnlock n s) s
  if rawSet 0x03 1 s then wr F.TIME.STATUS_COARSE 1 s else s

/-- The coarse check (R64): REFCLK cycles in 122 µs against 4,882.8, within 2,000 ppm of the crystal or 15 % of the RC
clock. -/
def coarseCheck (count : Nat) (s : State) : State :=
  let off := dist (10 * count) 48828
  let good : Bool := if s.watch.xoRunning then decide (off * 500 ≤ 48828) else decide (off * 100 ≤ 15 * 48828)
  if good then s else refclkFaults s

/-- The learned ratio moves toward a gate's count by at most 4 ppm in 60 s (R64). -/
def learnRatio (count : Nat) (s : State) : State :=
  let r := rd F.CLK.XO32K_RATIO s
  let room := r * 4 * min (s.now - s.watch.slewAt) 60000000000 / 60000000000000000
  let d := min room (dist count r)
  if d = 0 then s
  else wr F.CLK.XO32K_RATIO (if count < r then r - d else r + d) { s with watch := { s.watch with slewAt := s.now } }

/-- A 1 s gate of REFCLK cycles (R64): the first after an always-on power-on must lie within 250 ppm and is learned; a later
one faults beyond 50 ppm. REFCLK_FAULT clears when a gate passes. The gates are suspended while the crystal is in fault.
DESIGN CHOICE (log entry 10): the spec does not say what follows a first gate outside 250 ppm. Nothing is learned from it,
the next gate counts as the first again, and REFCLK_PPM, with VALID, is its deviation from the ratio's reset value of
40,000,000. -/
def fineGate (count : Nat) (s : State) : State :=
  if rawSet 0x03 1 s then s
  else
    let s := { s with watch := { s.watch with xoRunning := true } }
    let first := !isSet F.CLK.XO32K_RATIO_LEARNED s
    let good : Bool := if first then decide (dist count 40000000 ≤ 10000)
      else decide (dist count (rd F.CLK.XO32K_RATIO s) * 20000 ≤ rd F.CLK.XO32K_RATIO s)
    let s := if first && good then
        wr F.CLK.XO32K_RATIO count (wr F.CLK.XO32K_RATIO_LEARNED 1 { s with watch := { s.watch with slewAt := s.now } })
      else s
    let r := rd F.CLK.XO32K_RATIO s
    let s := wrInt F.CLK.REFCLK_PPM (clamp (-32767) 32767 (((count : Int) - r) * 100000000 / r)) (wr F.CLK.REFCLK_PPM_VALID 1 s)
    let s := if first then s else learnRatio count s
    if good then clockFault 0 false s else refclkFaults s

/-- REFCLK40_IN has returned and passed the coarse check for 10 ms (R65): a warm reset. -/
def refclkRestored (s : State) : State :=
  if s.watch.refclkAbsent then warmReset 4 { s with watch := { s.watch with refclkAbsent := false } } else s

/-- The measurement of REFCLK156 against REFCLK40_IN, in 0.01 ppm (R66). DESIGN CHOICE (log entry 10): the spec states no
saturation for SDSREF_PPM; a deviation beyond its 16 bits reads as −32,768 or 32,767. -/
def sdsrefMeasure (ppm100 : Int) (s : State) : State :=
  let s := wr F.CLK.SDSREF_PPM_VALID 1 (wrInt F.CLK.SDSREF_PPM (clamp (-32768) 32767 ppm100) s)
  if 20000 < ppm100.natAbs then raise 0x01 1 s else lower 0x01 1 s

/-! ### PLLs (R67, R68) -/

/-- A block requests its fast clock: a stopped PLL starts, and a power-down that has not begun is cancelled. -/
def pllRequest (n : Nat) (s : State) : State :=
  let p := look s.plls n {}
  { s with plls := insert s.plls n { phase := if p.phase = .off then .starting else p.phase, requested := true } }

/-- A PLL locks (R67): started, or held by its conditions, with its reference present (R65). -/
def pllLock (n : Nat) (s : State) : State :=
  let p := look s.plls n {}
  if (p.phase = .starting ∨ pllHeld n s) ∧ !(s.watch.refclkAbsent && corePlls.contains n) then
    orBits F.CLK.PLL_STATUS_LOCK (2 ^ n) { s with plls := insert s.plls n { p with phase := .locked } }
  else s

/-- No request has remained for PLL_HOLD (R68): the PLL powers down unless a condition of R67 or CLK.PLL_FORCE holds it. -/
def pllHoldExpiry (n : Nat) (s : State) : State :=
  let p := look s.plls n {}
  if pllHeld n s then { s with plls := insert s.plls n { p with requested := false } }
  else clearBits F.CLK.PLL_STATUS_LOCK (2 ^ n) { s with plls := insert s.plls n {} }

end Sys2Proof.Machine
end

