-- ==== Sys2Proof/Machine/Scrub.lean ====
section
/-! DEFINITION. The SRAM scrubber's pass with the outcome of each parity error it finds (R512, R513, R518, R519). -/

namespace Sys2Proof.Machine

/-- The operation in a page's working state ends with its DDR_ERROR status (R513). -/
def workOperation (pg : Nat) (s : State) : State :=
  match pg with
  | 0x20 => nodeForceStop s
  | 0x30 => match s.keyOp with
    | some k => loadEnd k.target KR_DDR { s with keyOp := none }
    | none => s
  | 0x31 => if s.ccmJob.isSome then ccmEnd JR_DDR s else s
  | 0x32 => if s.sciJob.isSome then sciEnd JR_DDR s else s
  | 0x33 => if s.pkeOp.isSome then pkeEnd PR_DDR [] s else s
  | 0x40 => if s.copy.isSome then copyEnd CP_DDR_ERROR 0 s else s
  | _ => s

/-- What a find of the scrubber leads to. No SRAM belongs to a page that does not exist. -/
def sramFound (p : SramPlace) (off : Nat) (s : State) : State :=
  match p with
  | .core i both => if both then sramLost 0 off (nodeLost i.val s) else sramCorrected 0 off s
  | .slot i both =>
    if both then
      let s := changeSlot i.val (slot i.val s).erased s
      sramLost 1 off (wr F.MEMINT.SLOT_LOST i.val (wr F.MEMINT.SLOT_LOST_VALID 1 s))
    else sramCorrected 1 off s
  | .buffer id => sramLost 2 off (loseFrame id s)
  | .free => s
  | .cache n => sramLast 3 off (inc F.MEMINT.SRAM_UE_COUNT (cacheDrop n.val s))
  | .lane i => sramLost 3 off (laneFault i.val true s)
  | .modulator p => sramLost 3 off (txModFault p.val true s)
  | .profile => sramLost 3 off (loadProfile s)
  | .work pg id =>
    if !isPage pg then s
    else
      let s := parityError pg true (sramLost 3 off s)
      match id with
      | some id => loseFrame id s
      | none => workOperation pg s
  | .config pg => if isPage pg then pageFault pg 0xFE (parityError pg false (sramLost 4 off s)) else s
  | .supervisor c us => coreFault c.val us (sramLost 3 off s)

/-- One pass over all on-chip SRAM. -/
def sramScrub (finds : List SramFind) (s : State) : State :=
  if pageState 0x46 s ≠ RUN then s
  else
    finds.foldl (fun s f =>
      let s := sramFound f.place f.off s
      match f.again with
      | some (m, row, col) => fieldRepair m row col s
      | none => s) (inc F.MEMINT.SCRUB_SRAM_PASSES s)

end Sys2Proof.Machine
end

