-- ==== Sys2Proof/Machine/Request.lean ====
section
/-! DEFINITION. Signed requests over MGMT.REQ_BUF (R632, R634, R635): the checks in their order and the five operations. -/

namespace Sys2Proof.Machine

/-- REQ_STATUS.RESULT codes (R636). -/
def RQ_DONE : Nat := 1
/-- R636. -/
def RQ_BAD_FORMAT : Nat := 2
/-- R636. -/
def RQ_BAD_KEY : Nat := 3
/-- R636. -/
def RQ_BAD_SIG : Nat := 4
/-- R636. -/
def RQ_REFUSED : Nat := 5
/-- R636. -/
def RQ_SENSOR_ACTIVE : Nat := 6

/-- The MASTER bit of MGMT SPI (R370). -/
def MGMT_SPI : Nat := 15

/-- The record in REQ_BUF, 228 octets. -/
def requestRecord (s : State) : List Byte := regOctets F.MGMT.REQ_BUF 57 s

/-- OP of the record. -/
def requestOp (s : State) : Nat := leAt (requestRecord s) 5 1

/-- KEY_SLOT of the record. -/
def requestSlot (s : State) : Nat := leAt (requestRecord s) 6 2

/-- Checks 1 and 2: MAGIC, VERSION, a known OP, zero ARG, DIE_ID and NONCE. -/
def requestFormed (s : State) : Bool :=
  let r := requestRecord s
  leAt r 0 4 == 0x43424B5A && leAt r 4 1 == 1 && decide (1 ≤ requestOp s) && decide (requestOp s ≤ 5) &&
    leAt r 32 4 == 0 && part r 8 8 == dieId s && part r 16 16 == regOctets F.MGMT.REQ_NONCE 4 s

/-- Check 3: the owner key, or the key of a P384_PIN slot usable by MGMT SPI; the use of a slot counts (R374). -/
def requestKey (s : State) : Bool × State :=
  let pub := part (requestRecord s) 36 96
  let pin := sha384 pub % 2 ^ 384
  if requestSlot s = 0xFFFF then (some pin == s.root.ownerPin, s)
  else if 1024 ≤ requestSlot s ∨ (slot (requestSlot s) s).alg ≠ 5 ∨ pinOf pub ≠ (slot (requestSlot s) s).key.take 32 then (false, s)
  else
    let u := useSlot (requestSlot s) MGMT_SPI VERIFY s
    (u.1 == .ok, u.2)

/-- Check 4: the signature, one verification by the PKE. -/
def requestSigned (s : State) : Bool × State :=
  if pageState 0x33 s = FAULT then (false, s)
  else
    let r := requestRecord s
    let ok := verify 2 (part r 36 96) (part r 132 96) (bytesLe 48 (sha384 (part r 0 132))) == some true
    (ok, countPke 1 (if ok then 0 else 1) s)

/-- The first check that fails (R632), 0 for none. Checks 3 and 4 are skipped in BLANK and MANUFACTURE. -/
def requestCheck (s : State) : Nat × State :=
  if !requestFormed s then (RQ_BAD_FORMAT, s)
  else if lifecycle s = LC_BLANK ∨ lifecycle s = LC_MANUFACTURE then (0, s)
  else
    let k := requestKey s
    if !k.1 then (RQ_BAD_KEY, k.2)
    else
      let v := requestSigned k.2
      (if v.1 then 0 else RQ_BAD_SIG, v.2)

/-- A request ends with a result, and a new nonce is drawn. -/
def requestEnd (v : Nat) (s : State) : State := drawWords F.MGMT.REQ_NONCE (wr F.MGMT.REQ_STATUS_RESULT v s)

/-- ENTER: the next start enters base camp. -/
def requestEnter (s : State) : State :=
  if inCampNow s then requestEnd RQ_REFUSED s else requestEnd RQ_DONE (wr F.MGMT.START_ENTER_PENDING 1 s)

/-- EXIT, as LC.CMD.EXIT (R635). -/
def requestExit (s : State) : State :=
  if mayExit s then requestEnd RQ_DONE (wr F.MGMT.START_EXIT_PENDING 1 (lcResult 1 s)) else requestEnd RQ_REFUSED s

/-- CLEAR_TAMPER (R632, R634): `breach` has a bit for each sensor that still reports a breach. -/
def requestClear (breach : Nat) (s : State) : State :=
  if !inCampNow s then requestEnd RQ_REFUSED s
  else if (List.range 6).any (fun b => breach.testBit b && sensorOn b s) then requestEnd RQ_SENSOR_ACTIVE s
  else
    let r := requestRecord s
    let s := wr F.CANARY.TAMPER_STATUS_SENSORS 0 (wr F.CANARY.TAMPER_STATUS_ZEROIZED 0 (wr F.CANARY.TAMPER_STATUS_PHASE 0 s))
    let s := logCairn K_NOTE ((part r 6 2).map (·.toNat) ++ ((pinOf (part r 36 96)).take 6).map (·.toNat)) s
    requestEnd RQ_DONE s

/-- REVERT, as FWUP REVERT (R553). -/
def requestRevert (s : State) : State :=
  if !inCampNow s || !mayRevert s || isSet F.FWUP.STATUS_BUSY s ||
      pageState 0x48 s ∈ [DRAINING, TEST, FAULT, RETIRED] then requestEnd RQ_REFUSED s
  else requestEnd RQ_DONE (fwRevert s)

/-- WARM_RESET (R623, source 3). The result is cleared with the registers. -/
def requestWarm (s : State) : State := warmReset 3 (requestEnd RQ_DONE s)

/-- What a record that passes does. -/
def requestAct (breach : Nat) (s : State) : State :=
  match requestOp s with
  | 1 => requestWarm s
  | 2 => requestEnter s
  | 3 => requestExit s
  | 4 => requestClear breach s
  | _ => requestRevert s

/-- REQ_GO written 1: the record in REQ_BUF is checked and acted on. -/
def requestGo (breach : Nat) (s : State) : State :=
  let c := requestCheck s
  if c.1 = 0 then requestAct breach c.2 else requestEnd c.1 c.2

end Sys2Proof.Machine
end

