-- ==== Sys2Proof/Machine/Regfile.lean ====
section
/-! DEFINITION. The register file as the bus sees it: the fields of each word, and register reads with their effects (R9,
R75, R88, R89, R102, R497). -/

namespace Sys2Proof.Machine

/-! ### The fields of a word -/

/-- The register rows of a page beyond its head. LANEWIN (R89) and BAR4 (R377, as page 0x80) have none of the head's kind
here. -/
def blockRows (pg : Nat) : List Row :=
  match pg with
  | 0x00 => rowsIDENT
  | 0x01 => rowsCLK
  | 0x02 => rowsPWR
  | 0x03 => rowsCANARY
  | 0x04 => rowsEVT
  | 0x05 => rowsRESERVE
  | 0x06 => rowsCAIRN
  | 0x08 | 0x09 | 0x0A | 0x0B => rowsFE (pg - 0x08)
  | 0x0C => rowsREGLOCK
  | 0x0D => rowsCOEX
  | 0x10 => rowsCHAN
  | 0x11 => rowsLANEPOOL
  | 0x18 => rowsPHY
  | 0x19 => rowsMAC
  | 0x1A => rowsBEACON
  | 0x1B => rowsWAKEF
  | 0x20 => rowsNODE
  | 0x21 => rowsFWD
  | 0x22 => rowsFRAG
  | 0x24 | 0x25 | 0x26 | 0x27 => rowsSCHED (pg - 0x24)
  | 0x28 => rowsPOLICE
  | 0x29 => rowsDISSEM
  | 0x30 => rowsKEYS
  | 0x31 => rowsFCRYPTO
  | 0x32 => rowsSCIPHER
  | 0x33 => rowsPKE
  | 0x38 | 0x39 => rowsETH (pg - 0x38)
  | 0x3A | 0x3B => rowsETHSTAT (pg - 0x3A)
  | 0x3C => rowsTIME
  | 0x3D => rowsPTP
  | 0x40 => rowsHOSTIF
  | 0x41 => rowsRINGS
  | 0x42 => rowsTALLY
  | 0x44 => rowsDDR
  | 0x45 => rowsFLASH
  | 0x46 => rowsMEMINT
  | 0x48 => rowsFWUP
  | 0x4A => rowsROPE
  | 0x4C => rowsNOTICE
  | 0x4E => rowsMGMT
  | 0x80 => rowsBAR4
  | _ => []

/-- The fields of the word at an offset of a page. -/
def wordFields (pg off : Nat) : List Field :=
  (if off < 0x040 ∧ pg < 0x80 then rowsHEAD pg else blockRows pg).filterMap (fun r => r.at off)

/-- The value that a word gives a field. -/
def Field.slice (f : Field) (data : Nat) : Nat := data / 2 ^ f.lo % 2 ^ f.width

/-- A word as its fields hold it; write-only fields read 0. -/
def wordValue (fs : List Field) (s : State) : Nat :=
  fs.foldl (fun v f => if f.acc = .wo then v else v + rd f s * 2 ^ f.lo) 0

/-! ### Words that are views -/

/-- A word of 32 bits from a predicate on its bits. -/
def bits32 (p : Nat → Bool) : Nat := (List.range 32).foldl (fun v b => if p b then v + 2 ^ b else v) 0

/-- The read-only words of EVT (R102). -/
def evtView (off : Nat) (s : State) : Option Nat :=
  if 0x040 ≤ off ∧ off < 0x060 then some (bits32 (fun b => srcAsserted (32 * ((off - 0x040) / 4) + b) s))
  else if off = 0x060 then
    some (bits32 (fun g => g < 8 && (List.range 32).any (fun b => srcAsserted (32 * g + b) s)))
  else if off = 0x064 then some ((if evtNLow s then 1 else 0) + (if mgmtEvtNLow s then 2 else 0))
  else if off = 0x068 then some (bits32 (fun v => vecStatus v s))
  else if 0x0C0 ≤ off ∧ off < 0x0E0 then some (bits32 (fun b => mgmtPend (32 * ((off - 0x0C0) / 4) + b) s))
  else if 0x0E0 ≤ off ∧ off < 0x0EC then
    some (bits32 (fun j => rd (F.HEAD.REJECT_COUNT (32 * ((off - 0x0E0) / 4) + j)) s != 0))
  else if 0x0F0 ≤ off ∧ off < 0x0FC then
    some (bits32 (fun j =>
      let pg := 32 * ((off - 0x0F0) / 4) + j
      isSet (F.HEAD.PARITY_STATUS_CONFIG pg) s || isSet (F.HEAD.PARITY_STATUS_WORK pg) s))
  else none

/-- The code of a lane state (R165). -/
def LaneState.code : LaneState → Nat
  | .idle => 0
  | .waking => 1
  | .search => 2
  | .header => 3
  | .payload => 4
  | .ending => 5
  | .reserve => 6
  | .check => 7
  | .test => 8
  | .fault => 9
  | .retired => 10

/-- A flag as its bit. -/
def flagBit (b : Bool) (n : Nat) : Nat := if b then 2 ^ n else 0

/-- Word `k` of a lane status record (R181). -/
def laneWord (l : Lane) (now k : Nat) : Nat :=
  match k with
  | 0 => l.state.code + 256 * (flagBit l.gainStep 0 + flagBit l.victim 1 + flagBit l.captor 2 + flagBit l.preempted 3 +
      flagBit l.listenThrough 4 + flagBit (l.bound && decide (now < l.liveAt)) 5 + flagBit l.outcome.isSome 6) +
      65536 * (l.logical % 4 + 4 * (l.physical % 4) + 16 * (l.set % 8)) + 2 ^ 24 * (l.mode % 256)
  | 1 => l.channel % 256 + 256 * (l.bin % 256) + 65536 * (match l.peer with | some p => p % 256 | none => 255) +
      2 ^ 24 * (match l.outcome with | some d => d.code | none => 0)
  | 2 => l.detectUs % 2 ^ 32
  | 3 => l.startSample % 2 ^ 32
  | 4 => ofInt 16 (clamp (-260) 20 l.rssi) + 65536 * ofInt 16 l.freq
  | 5 => min 127 l.digitalGain + 256 * (l.gainStart % 8 + 16 * (l.gainNow % 8)) + 65536 * (l.length % 2048)
  | 6 => l.octets % 65536 + 65536 * (l.syncErrors % 256)
  | 7 => l.endUs % 2 ^ 32
  | 8 => match l.nodeIndex with | some n => n % 2 ^ 18 + 2 ^ 31 | none => 0
  | 9 => l.counter % 2 ^ 32
  | 10 => l.binds % 2 ^ 32
  | 11 => l.passed % 2 ^ 32
  | 12 => min (2 ^ 32 - 1) (busyTime l now / 1000000000)
  | 13 => min 15 (faults24 l now) + 256 * min 255 l.faultsTotal + 65536 * (l.fifo % 65536)
  | 15 => laneSeq l now
  | _ => 0

/-- The word of a LANEWIN page (R89). -/
def laneView (pg off : Nat) (s : State) : Option Nat :=
  if 0x12 ≤ pg ∧ pg ≤ 0x14 ∧ 0x040 ≤ off then
    let i := (pg - 0x12) * 63 + (off - 0x040) / 64
    if (off - 0x040) / 64 < 63 ∧ i < 136 then some (laneWord (lane i s) s.now ((off - 0x040) % 64 / 4)) else some 0
  else none

/-- Words latched for a route: the HI words of octet counters and RMON pairs (R443, R444). -/
def latchedView (pg off : Nat) (rt : Route) (s : State) : Option Nat :=
  if (pg = 0x38 ∨ pg = 0x39) ∧ (off = 0x0B8 ∨ off = 0x0C0) then some (latchedWord rt pg off s)
  else if (pg = 0x3A ∨ pg = 0x3B) ∧ 0x104 ≤ off ∧ off < 0x238 ∧ off % 8 = 4 then some (latchedWord rt pg off s)
  else none

/-- Words that time alone changes: CAL_AGE (R113), the lines (R130), FAULTS_24H of an engine (R400), BLIND_USED (R335), DUTY_USED
(R331), HOLD (R325), PAUSE_REMAIN (R433) and GPIO.IN (R93). -/
def timedView (pg off : Nat) (s : State) : Option Nat :=
  if 0x08 ≤ pg ∧ pg ≤ 0x0B ∧ off = 0x080 then
    let at' := (fe (pg - 0x08) s).calIqAt.map (·.2)
    some (if at'.isEmpty then 0 else (s.now - at'.foldl max 0) / 1000000000)
  else if 0x08 ≤ pg ∧ pg ≤ 0x0B ∧ off = 0x05C then some (linesNow (pg - 0x08) s)
  else if 0x08 ≤ pg ∧ pg ≤ 0x0B ∧ off = 0x04C ∧ pageState pg s = TEST then
    some (wordValue (wordFields pg off) s / 16 * 16 + RF_CAL)
  else if pg = 0x10 ∧ 0x058 ≤ off ∧ off < 0x068 then
    some (wordValue (wordFields pg off) s + 256 * (saturated ((off - 0x058) / 4) s).toNat)
  else if pg = 0x31 ∧ 0x040 ≤ off ∧ off < 0x064 then
    let e := (off - 0x040) / 4
    let v := wordValue (wordFields pg off) s
    some (v - v / 2 ^ 16 % 4 * 2 ^ 16 + min 3 (engineRecent e s).length * 2 ^ 16)
  else if 0x24 ≤ pg ∧ pg ≤ 0x27 ∧ 0x400 ≤ off ∧ off < 0x440 then some (dutyUsed ((off - 0x400) / 4) s / 1000)
  else if 0x24 ≤ pg ∧ pg ≤ 0x27 ∧ 0x100 ≤ off ∧ off < 0x300 ∧ off % 0x20 = 0x1C then
    some (rd (F.SCHED.Q_DEPTH (pg - 0x24) ((off - 0x100) / 0x20)) s + 65536 * holdView (pg - 0x24) ((off - 0x100) / 0x20) s)
  else if 0x24 ≤ pg ∧ pg ≤ 0x27 ∧ off = 0x04C then some (min 1023 (blindSum (pg - 0x24) s / 1000))
  else if (pg = 0x38 ∨ pg = 0x39) ∧ off = 0x074 then some (pauseRemain (pg - 0x38) s)
  else if pg = 0x4E ∧ off = 0x108 then some (bits32 (fun b => b < 16 && gpioShown b s))
  else none

/-- What a register word reads as, without its effects. -/
def wordRead (pg off : Nat) (rt : Route) (s : State) : Nat :=
  match (if pg = 0x04 then evtView off s else timedView pg off s) with
  | some v => v
  | none =>
    match laneView pg off s with
    | some v => v
    | none =>
      match latchedView pg off rt s with
      | some v => v
      | none => wordValue (wordFields pg off) s

/-! ### Reads -/

/-- What a read-to-clear field restarts from: 0, and for a peak the level of that cycle (R497). -/
def restart (f : Field) (s : State) : Nat :=
  match f.page, f.off with
  | 0x11, 0x07C => rd (F.LANEPOOL.BOUND (f.lo / 8)) s
  | 0x1B, 0x06C => (List.range 4).foldl (fun m p => max m (rd (F.WAKEF.PENDING p) s)) 0
  | 0x21, 0x050 => rd F.FWD.PEND_TOTAL s
  | 0x22, 0x054 => rd F.FRAG.IN_USE s
  | 0x24, 0x05C => rd (F.SCHED.QUEUED 0) s
  | 0x25, 0x05C => rd (F.SCHED.QUEUED 1) s
  | 0x26, 0x05C => rd (F.SCHED.QUEUED 2) s
  | 0x27, 0x05C => rd (F.SCHED.QUEUED 3) s
  | 0x38, 0x068 => rd (F.ETH.BUFFER_LEVEL 0) s
  | 0x39, 0x068 => rd (F.ETH.BUFFER_LEVEL 1) s
  | 0x4C, 0x048 => rd F.NOTICE.COUNT s
  | 0x41, o => if 0x500 ≤ o ∧ o < 0x580 then rd (F.RINGS.RING_LEVEL ((o - 0x500) / 4)) s else 0
  | _, _ => 0

/-- A read of one register word: the value, and what the read clears, pops, latches or advances. -/
def regRead (pg off : Nat) (rt : Route) (s : State) : State :=
  match pg, off with
  | 0x4C, 0x080 => noticePop s
  | 0x06, 0x050 => cairnRead s
  | 0x3C, 0x048 => timeNowRead s
  | 0x3C, 0x084 => ppsTsRead s
  | 0x3C, 0x0CC => meshNowRead s
  | 0x3D, 0x070 => tsqPop 0 s
  | 0x3D, 0x0B0 => tsqPop 1 s
  | 0x38, 0x0B4 => ethOctetLoRead rt 0 false s
  | 0x39, 0x0B4 => ethOctetLoRead rt 1 false s
  | 0x38, 0x0BC => ethOctetLoRead rt 0 true s
  | 0x39, 0x0BC => ethOctetLoRead rt 1 true s
  | _, _ =>
    if (pg = 0x3A ∨ pg = 0x3B) ∧ 0x100 ≤ off ∧ off < 0x238 ∧ off % 8 = 0 then
      rmonLoRead rt (pg - 0x3A) ((off - 0x100) / 8) s
    else
      let fs := wordFields pg off
      let t := fs.foldl (fun t f => if f.acc = .rc then wr f (restart f s) t else t)
        { s with readData := BitVec.ofNat 32 (wordRead pg off rt s) }
      if rt = .mgmtSpi ∧ pg = 0x20 ∧ off = 0x21C then { nodeScanAdvance t with readData := t.readData }
      else if rt = .mgmtSpi ∧ pg = 0x30 ∧ off = 0x06C then keysScanAdvance t
      else t

/-- The MSI-X table and pending-bit array (R88): vector control is the mask bit of each entry. -/
def msixRead (addr : Nat) (s : State) : Nat :=
  if addr < 0x80200 then
    let v := (addr - 0x80000) / 16
    if addr % 16 = 12 then (if s.msix.vecMask.getLsbD v then 1 else 0) else look s.msix.table ((addr - 0x80000) / 4) 0
  else if addr = 0x81000 then s.msix.pending.toNat
  else 0

/-- A word of the core table window, from copy A (R283). -/
def windowWord (off : Nat) (s : State) : Word := BitVec.ofNat 32 (oct (nodeCore (off / 32) s).core (off % 32) 4)

/-- A read request of the core table window (R283): `more` words follow the first, and all of one record are of one moment. The
octets stand in `hostData`, the first word in `readData` too. `find` is what the read of the first record meets; a lost record reads
zeros (R290, R291). -/
def windowRead (off more : Nat) (find : Parity) (s : State) : State :=
  let s := match find with
    | .good => s
    | .mended => coreMended (off / 32) s
    | .lost => coreLost (off / 32) s
  let lost := fun (w : Nat) => find == .lost && w / 32 == off / 32
  let words := (List.range (more + 1)).map (fun k => if lost (off + 4 * k) then 0 else windowWord (off + 4 * k) s)
  { s with readData := words.headD 0, hostData := words.flatMap (fun w => bytesLe 4 w.toNat), hostPoison := false }

/-- A read over BAR0 (R75, R88): 32 bits wide but in the core table window, where `more` words follow. -/
def barRead (addr more : Nat) (find : Parity) (s : State) : State :=
  let a := addr / 4 * 4
  if a / 4096 < 0x50 ∧ isPage (a / 4096) then regRead (a / 4096) (a % 4096) .bar0 s
  else if (0x80000 ≤ a ∧ a < 0x80200) ∨ (0x81000 ≤ a ∧ a < 0x81008) then { s with readData := BitVec.ofNat 32 (msixRead a s) }
  else if 0x1000000 ≤ a ∧ a < 0x1800000 then windowRead (a - 0x1000000) more find s
  else unmapped 0 a false { s with readData := 0 }

/-- A read over BAR4 (R375, R377): 0 while the lock is closed, but for the TRUST registers, and 0 where no register lies. -/
def bar4Read (addr : Nat) (s : State) : State :=
  let off := addr / 4 * 4
  let v := if lockOpen s || (off < 0x0200 : Bool) then wordRead 0x80 off .bar0 s else 0
  { s with readData := BitVec.ofNat 32 v }

/-- A read on a route. Over MGMT SPI what it cannot reach reads 0 (R91). -/
def routeRead (rt : Route) (addr more : Nat) (find : Parity) (s : State) : State :=
  match rt with
  | .bar0 => barRead addr more find s
  | .mgmtSpi =>
    if addr % 4 = 0 ∧ reaches (addr / 4096) .mgmtSpi then regRead (addr / 4096) (addr % 4096) .mgmtSpi s
    else { s with readData := 0 }

/-- What a read request asks for, over BAR4 or else on its route. -/
def spanRead (rt : Route) (span : ReadSpan) (s : State) : State :=
  if span.bar = .bar4 ∧ rt = .bar0 then bar4Read span.addr s else routeRead rt span.addr span.more span.find s

end Sys2Proof.Machine
end

