-- ==== Sys2Proof/Machine/Checks.lean ====
section
/-! DEFINITION. Why a register write is rejected (R76): the reasons in their order, with the rules that tie one field to
another. `s` is the state before the write and `t` the state with the word's fields as the write would leave them. -/

namespace Sys2Proof.Machine

/-! ### Values -/

/-- Whether a value lies in a field's range. -/
def Lim.holds (l : Lim) (w v : Nat) : Bool :=
  match l with
  | .any => true
  | .range lo hi => decide (lo ≤ v) && decide (v ≤ hi)
  | .signed lo hi => decide (lo ≤ toInt w v) && decide (toInt w v ≤ hi)
  | .oneOf vs => vs.contains v
  | .aligned b => v % 2 ^ b == 0
  | .multiple m lo hi => v % m == 0 && decide (lo ≤ v) && decide (v ≤ hi)
  | .phyMode => v == 0 || (modeFamily v).isSome

/-- A field that a write sets. -/
def Field.written (f : Field) : Bool := f.acc == .rw || f.acc == .rwl || f.acc == .rws

/-- Whether a write of `data` changes a field it sets. -/
def changes (data : Nat) (s : State) (f : Field) : Bool := f.written && f.slice data != rd f s

/-- The fields that a word sets take their values. -/
def storeWord (fs : List Field) (data : Nat) (s : State) : State :=
  fs.foldl (fun s f => if f.written && f.slice data != rd f s then wr f (f.slice data) s else s) s

/-- The bits that no field of a word occupies. -/
def reservedBits (fs : List Field) : Nat :=
  (List.range 32).foldl (fun m b => if fs.any (fun f => f.lo ≤ b && b < f.lo + f.width) then m else m + 2 ^ b) 0

/-- A value outside its field's own range: in a field that the write would change, or in one that acts. -/
def outOfRange (fs : List Field) (data : Nat) (s : State) : Bool :=
  fs.any (fun f => (changes data s f || f.acc == .wo) && !f.lim.holds f.width (f.slice data))

/-! ### Ranges that depend on other fields -/

/-- The centre lies in its range for the width and band (R105, R106). -/
def centreGood (n : Nat) (t : State) : Bool :=
  let b := rd (F.FE.SPAN_BAND n) t
  let w := rd (F.FE.SPAN_WIDTH n) t
  let c := rd (F.FE.TUNE_CENTRE_HZ n) t
  let lo := if b = 0 then 410000000 else 2399000000
  let hi := if b = 0 then 960000000 else 2484500000
  decide (w < 3) && decide (lo + halfSpan b w ≤ c) && decide (c + halfSpan b w ≤ hi)

/-- Words of the page map that only FE3 has (R117): the bits that must be 0 on FE0 to FE2. -/
def feOnly3 (off : Nat) : Nat :=
  match off with
  | 0x050 => 0x37
  | 0x054 => 0x3F00
  | 0x09C => 0x31F7F
  | _ => 0

/-- The front-end pages. -/
def feRange (n off data : Nat) (s t : State) : Bool :=
  match off with
  | 0x050 => if n = 3 then role t == 4 && role s != 4 else data &&& feOnly3 off != 0
  | 0x040 | 0x044 => !centreGood n t
  | 0x058 => decide (rd (F.FE.LINES_PA_LEAD n) t < rd (F.FE.LINES_RAMP n) t)
  | 0x064 => (fe n t).band == 1 && 2 ≤ n && decide (24 < rdInt (F.FE.ACK_POWER n) t)
  | _ => n != 3 && data &&& feOnly3 off != 0

/-- Channels of a front end's enabled sets (R155). -/
def listenTotal (n : Nat) (t : State) : Nat :=
  (List.range 8).foldl (fun m k =>
    if isSet (F.CHAN.LISTEN_CFG_ENABLE n k) t then m + rd (F.CHAN.LISTEN_RASTER_COUNT n k) t else m) 0

/-- The channelizer page (R155, R172, R194). -/
def chanRange (off : Nat) (t : State) : Bool :=
  if 0x048 ≤ off ∧ off < 0x058 then
    let n := (off - 0x048) / 4
    decide (6 * rd (F.CHAN.GAIN_CFG_BYP_FROM n) t < rd (F.CHAN.GAIN_CFG_EXT_LNA_DB n) t)
  else if 0x100 ≤ off ∧ off < 0x300 then
    let n := (off - 0x100) / 0x80
    let k := (off - 0x100) % 0x80 / 16
    decide (512 < listenTotal n t) || (isSet (F.CHAN.LISTEN_CFG_ENABLE n k) t && rd (F.CHAN.LISTEN_CFG_MODE n k) t == 0)
  else false

/-- The lane pool page: minima and maxima. -/
def poolRange (off : Nat) (t : State) : Bool :=
  if 0x050 ≤ off ∧ off < 0x060 then
    let n := (off - 0x050) / 4
    decide (128 < (List.range 4).foldl (fun m k => m + rd (F.LANEPOOL.FE_LIMIT_MIN k) t) 0) ||
      decide (rd (F.LANEPOOL.FE_LIMIT_MAX n) t < rd (F.LANEPOOL.FE_LIMIT_MIN n) t)
  else false

/-- The last `j` bits of the alternating preamble, the last of them `b`, as the first bits of a 32-bit pattern whose bit 0 is
first on air. -/
def preambleBits (j b : Nat) : Nat := (List.range j).foldl (fun v t => v + (b + j - 1 - t) % 2 * 2 ^ t) 0

/-- Bits by which two words differ. -/
def differ (a b : Nat) : Nat := popcount (a ^^^ b)

/-- A SYNC32 word is far from the preamble, from its own shifts behind it, and from the other word (R201). -/
def syncWordGood (w other : Nat) : Bool :=
  decide (13 ≤ differ w 0x55555555) && decide (13 ≤ differ w 0xAAAAAAAA) &&
    (List.range 31).all (fun k => (List.range 2).all (fun b =>
      decide (13 ≤ differ w (preambleBits (k + 1) b + w * 2 ^ (k + 1) % 2 ^ 32)))) &&
    (other == 0 || decide (13 ≤ differ w other))

/-- A front end uses the extended form. -/
def extUsed (n : Nat) (t : State) : Bool := rd (F.PHY.SYNC_CFG_RX_FORM n) t != 0 || isSet (F.PHY.SYNC_CFG_TX_EXT n) t

/-- The PHY page (R201, R204). -/
def phyRange (off : Nat) (s t : State) : Bool :=
  let u := rd F.PHY.SYNC32_UNCODED t
  let c := rd F.PHY.SYNC32_CODED t
  if 0x040 ≤ off ∧ off < 0x050 then
    let n := (off - 0x040) / 4
    (u == 0 || c == 0) && ((rd (F.PHY.SYNC_CFG_RX_FORM n) t != 0 && rd (F.PHY.SYNC_CFG_RX_FORM n) t != rd (F.PHY.SYNC_CFG_RX_FORM n) s) ||
      (isSet (F.PHY.SYNC_CFG_TX_EXT n) t && !isSet (F.PHY.SYNC_CFG_TX_EXT n) s))
  else if off = 0x050 ∨ off = 0x054 then
    let w := if off = 0x050 then u else c
    let o := if off = 0x050 then c else u
    if w = 0 then (List.range 4).any (fun n => extUsed n t) else !syncWordGood w o
  else if 0x060 ≤ off ∧ off < 0x070 then
    let n := (off - 0x060) / 4
    isSet (F.PHY.FEC_CFG_INTERLEAVE n) t && !isSet (F.PHY.FEC_CFG_SCHEME n) t
  else false

/-- The MAC page (R225, R251). -/
def macRange (off : Nat) (s t : State) : Bool :=
  if 0x040 ≤ off ∧ off < 0x080 then
    let p := (off - 0x040) / 16
    let on := fun q => isSet (F.MAC.PAN_ENABLE q) t
    (on p && (rd (F.MAC.PAN_PAN_ID p) t == 0xFFFF ||
      (List.range 4).any (fun q => q != p && on q && rd (F.MAC.PAN_PAN_ID q) t == rd (F.MAC.PAN_PAN_ID p) t))) ||
      (off % 16 == 8 && rd (F.MAC.PAN_BEACON_LEVEL p) t == 0 && rd (F.MAC.PAN_BEACON_LEVEL p) s != 0 && !isSet (F.MAC.PAN_INSECURE p) t)
  else false

/-- The FWD page: prefixes in use (R299). -/
def fwdRange (off : Nat) (t : State) : Bool :=
  let entry := if 0x080 ≤ off ∧ off < 0x100 then some ((off - 0x080) / 0x20)
    else if 0x180 ≤ off ∧ off < 0x240 then some (4 + (off - 0x180) / 0x10) else none
  match entry with
  | none => false
  | some e =>
    match prefixEntry e t with
    | none => false
    | some p => p == 0 || p == 0xFE80000000000000 || (List.range 16).any (fun f => f != e && prefixEntry f t == some p)

/-- The scheduler pages (R328, R350). -/
def schedRange (n off : Nat) (s t : State) : Bool :=
  match off with
  | 0x040 => bandOf n t == 1 && decide (24 < rdInt (F.SCHED.CFG_DEFAULT_POWER n) t) &&
      rd (F.SCHED.CFG_DEFAULT_POWER n) t != rd (F.SCHED.CFG_DEFAULT_POWER n) s
  | 0x044 => decide (rd (F.SCHED.LBT_BACKOFF_MAX n) t < rd (F.SCHED.LBT_BACKOFF_MIN n) t)
  | _ =>
    if 0x100 ≤ off ∧ off < 0x300 then
      let q := (off - 0x100) / 0x20
      decide (rd (F.SCHED.Q_PIR n q) t < rd (F.SCHED.Q_CIR n q) t)
    else false

/-- The policers (R347). -/
def policeRange (off : Nat) (t : State) : Bool :=
  if 0x080 ≤ off ∧ off < 0x180 then
    let c := (off - 0x080) / 0x20
    decide (rd (F.POLICE.CLASS_PIR c) t < rd (F.POLICE.CLASS_CIR c) t)
  else if 0x180 ≤ off ∧ off < 0x200 then
    let p := (off - 0x180) / 0x20
    decide (rd (F.POLICE.UP_PIR p) t < rd (F.POLICE.UP_CIR p) t)
  else false

/-- A region reaches beyond the trained DDR. Before training there is no size to exceed. -/
def beyond (base n : Nat) (t : State) : Bool := ddrSize t != 0 && decide (ddrSize t < base + n)

/-- Two regions meet. -/
def meet (a n b m : Nat) : Bool := decide (a < b + m) && decide (b < a + n)

/-- The bivouac hot region (R530): inside the trained DDR, apart from the extended table, the reassembly region, the window
and the test row. -/
def hotBad (t : State) : Bool :=
  let h := base34 F.DDR.HOT_BASE_LO F.DDR.HOT_BASE_HI t
  beyond h (2 ^ 26) t ||
    meet h (2 ^ 26) (base34 F.NODE.EXT_BASE_LO F.NODE.EXT_BASE_HI t) (2 ^ 25) ||
    meet h (2 ^ 26) (base34 F.FRAG.BASE_LO F.FRAG.BASE_HI t) 5242880 ||
    meet h (2 ^ 26) (base34 F.HOSTIF.WIN_BASE_LO F.HOSTIF.WIN_BASE_HI t) (2 ^ 28) ||
    (ddrSize t != 0 && meet h (2 ^ 26) (ddrSize t - 8192) 8192)

/-- The dissemination page (R557, R573). -/
def dissemRange (off : Nat) (s t : State) : Bool :=
  if off = 0x040 ∨ off = 0x044 then beyond (base34 F.DISSEM.SRC_BASE_LO F.DISSEM.SRC_BASE_HI t) (2 ^ 30) t
  else if 0x100 ≤ off ∧ off < 0x900 then
    let c := (off - 0x100) / 0x80
    match (off - 0x100) % 0x80 with
    | 0x24 => decide (rd (F.DISSEM.C_PERIOD c) t ≤ rd (F.DISSEM.C_OFFSET c) t)
    | 0x28 => decide (rd (F.DISSEM.C_PERIOD c) s < rd (F.DISSEM.C_WIN_TICKS c) t + rd (F.DISSEM.C_LEAD c) s)
    | _ => false
  else false

/-- The Ethernet pages (R424, R434). -/
def ethRange (n off : Nat) (t : State) : Bool :=
  match off with
  | 0x044 | 0x048 => (macAddr n t / 2 ^ 40).testBit 0
  | 0x05C | 0x060 => decide (rd (F.ETH.BUFFER_HIGH n) t ≤ rd (F.ETH.BUFFER_LOW n) t)
  | _ => false

/-- The RINGS page (R484): a ring's areas are checked when they change and when it is enabled. -/
def ringsRange (off : Nat) (s t : State) : Bool :=
  if 0x100 ≤ off ∧ off < 0x500 then
    let r := (off - 0x100) / 0x20
    match (off - 0x100) % 0x20 with
    | 0x00 => isSet (F.RINGS.RING_CFG_ENABLE r) t && !isSet (F.RINGS.RING_CFG_ENABLE r) s && !ringFits r t
    | 0x04 | 0x08 | 0x0C => !ringFits r t
    | _ => false
  else false

/-- A value outside a range that depends on other fields. -/
def crossRange (pg off data : Nat) (s t : State) : Bool :=
  match pg with
  | 0x08 | 0x09 | 0x0A | 0x0B => feRange (pg - 0x08) off data s t
  | 0x10 => chanRange off t
  | 0x11 => poolRange off t
  | 0x18 => phyRange off s t
  | 0x19 => macRange off s t
  | 0x1A => 0x040 ≤ off && off < 0x0C0 && off % 16 == 12 &&
      decide (rd (F.BEACON.TRACK_INTERVAL ((off - 0x040) / 16)) t ≤ rd (F.BEACON.TRACK_OFFSET ((off - 0x040) / 16)) t)
  | 0x20 => (off == 0x040 || off == 0x044) && beyond (base34 F.NODE.EXT_BASE_LO F.NODE.EXT_BASE_HI t) (2 ^ 25) t
  | 0x21 => fwdRange off t
  | 0x22 => (off == 0x040 || off == 0x044) && beyond (base34 F.FRAG.BASE_LO F.FRAG.BASE_HI t) 5242880 t
  | 0x24 | 0x25 | 0x26 | 0x27 => schedRange (pg - 0x24) off s t
  | 0x28 => policeRange off t
  | 0x29 => dissemRange off s t
  | 0x31 => (off == 0x08C || off == 0x090) && decide (16384 < rd F.FCRYPTO.JOB_AAD_LEN t + rd F.FCRYPTO.JOB_LENGTH t)
  | 0x38 | 0x39 => ethRange (pg - 0x38) off t
  | 0x40 => (off == 0x044 || off == 0x048) && beyond (base34 F.HOSTIF.WIN_BASE_LO F.HOSTIF.WIN_BASE_HI t) (2 ^ 28) t
  | 0x41 => ringsRange off s t
  | 0x44 => (off == 0x048 || off == 0x04C) && hotBad t
  | 0x46 => (off == 0x080 || off == 0x084) && rd F.MEMINT.TEST_TARGET t != 0 && decide (7 < rd F.MEMINT.TEST_OFFSET t)
  | _ => false

/-! ### States -/

/-- A field whose gate is closed (R76): writable in OFF, or in OFF and STOPPED. -/
def gateClosed (s : State) (f : Field) : Bool :=
  match f.gate with
  | .always => false
  | .off => pageState f.page s != OFF
  | .offOrStopped => !(pageState f.page s == OFF || pageState f.page s == STOPPED)

/-- Fields of a campaign that stay in PREPARING and RUNNING (R562): the word offsets. -/
def campaignKept (o : Nat) : Bool := decide (o ≤ 0x2C)

/-- A change that the life cycle or another state forbids. -/
def crossState (pg off data : Nat) (s : State) : Bool :=
  let ch := changes data s
  match pg with
  | 0x03 =>
    off == 0x040 && (lifecycle s == LC_PROVISIONED || lifecycle s == LC_DEPLOYED) &&
      [F.CANARY.CFG_MESH_EN, F.CANARY.CFG_SW_EN, F.CANARY.CFG_TEMP_EN, F.CANARY.CFG_GLITCH_EN].any (fun f =>
        rd f s &&& f.slice data != rd f s)
  | 0x0C =>
    0x800 ≤ off && (!(lifecycle s == LC_MANUFACTURE || lifecycle s == LC_PROVISIONED) ||
      rd F.REGLOCK.STATUS_PROGRAMMED s == 15) && (wordFields pg off).any ch
  | 0x1A =>
    0x100 ≤ off && off < 0x500 && isSet (F.BEACON.PEER_ENABLE ((off - 0x100) / 0x20)) s &&
      (wordFields pg off).any (fun f => ch f && f != F.BEACON.PEER_ENABLE ((off - 0x100) / 0x20))
  | 0x20 => off == 0x054 && pageState 0x20 s != RUN
  | 0x29 =>
    0x100 ≤ off && off < 0x900 && campaignKept ((off - 0x100) % 0x80) &&
      (cState ((off - 0x100) / 0x80) s == C_PREPARING || cState ((off - 0x100) / 0x80) s == C_RUNNING) &&
      (wordFields pg off).any ch
  | 0x41 =>
    0x100 ≤ off && off < 0x500 && isSet (F.RINGS.RING_CFG_ENABLE ((off - 0x100) / 0x20)) s &&
      (match (off - 0x100) % 0x20 with
        | 0x00 => ch (F.RINGS.RING_CFG_KIND ((off - 0x100) / 0x20))
        | 0x04 | 0x08 | 0x0C => (wordFields pg off).any ch
        | _ => false)
  | 0x44 => (off == 0x048 || off == 0x04C) && rd F.CANARY.BIVOUAC_STATE s != 0 && (wordFields pg off).any ch
  | 0x4E => off == 0x048 && data.testBit 0 && ch F.MGMT.CONSOLE_ENABLE && lifecycle s == LC_DEPLOYED
  | _ => false

/-! ### Routes -/

/-- A field that MGMT SPI may not write (R87): every one of KEYS and NODE, and EVT.ROUTE and EVT.HOLDOFF. -/
def routeClosed (pg off : Nat) (rt : Route) (data : Nat) (s : State) : Bool :=
  (spiReadOnly pg rt || (rt == .mgmtSpi && pg == 0x04 && 0x100 ≤ off && off < 0x280)) &&
    (wordFields pg off).any (fun f =>
      changes data s f || (f.acc == .wo && f.slice data != 0) || (f.acc == .rw1c && f.slice data &&& rd f s != 0))

/-! ### The reasons in their order -/

/-- Command words whose range depends on what they would act on: INCR_HI (R450), SCIPHER.JOB.GO (R408), COPY.GO (R482). -/
def commandRange (pg off data : Nat) (s : State) : Bool :=
  match pg, off with
  | 0x3C, 0x044 =>
    let v := data % 4 * 2 ^ 32 + rd F.TIME.INCR_LO s
    decide (v * 10000 < 9995 * 2 ^ 32) || decide (10005 * 2 ^ 32 < v * 10000)
  | 0x32, 0x0A4 => !sciLengthGood (data % 8) (rd F.SCIPHER.JOB_LENGTH s) (2 ^ rd F.SCIPHER.JOB_DU_LOG2 s)
  | 0x40, 0x070 => decide (2 ^ 28 < rd F.HOSTIF.COPY_WIN s + rd F.HOSTIF.COPY_LENGTH s)
  | _, _ => false

/-- The bits of word `k` of a lane status record that no field occupies (R181). -/
def laneReserved (k : Nat) : Nat :=
  match k with
  | 0 => 0x00808000
  | 5 => 0xF8008800
  | 6 => 0xFF000000
  | 8 => 0x7FFC0000
  | 13 => 0x000000F0
  | 14 => 0xFFFFFFFF
  | _ => 0

/-- The reserved bits of a word: of a mask the bits without a source (R97), of a lane status record those no field occupies (R89,
R181). -/
def wordReserved (pg off : Nat) : Nat :=
  if off = 0x018 ∧ pg < 0x80 then 2 ^ 32 - 1 - pageEventBits pg
  else if 0x12 ≤ pg ∧ pg ≤ 0x14 ∧ 0x040 ≤ off ∧ (off - 0x040) / 64 < 63 ∧ (pg - 0x12) * 63 + (off - 0x040) / 64 < 136 then
    laneReserved ((off - 0x040) % 64 / 4)
  else reservedBits (wordFields pg off)

/-- Why a write of a word is rejected, but for refused actions: the first reason that applies (R76). -/
def refusal (pg off : Nat) (rt : Route) (data : Nat) (s : State) : Option Reason :=
  let fs := wordFields pg off
  let t := storeWord fs data s
  let same : Bool := !fs.any (changes data s) && !(pg < 0x0C && feOnly3 off != 0)
  if outOfRange fs data s || (!same && crossRange pg off data s t) || commandRange pg off data s then some .range
  else if data &&& wordReserved pg off != 0 then some .reservedBit
  else if isSet (F.HEAD.CTRL_LOCK pg) s && fs.any (fun f => f.acc == .rwl && changes data s f) then some .locked
  else if early pg s || fs.any (fun f => changes data s f && gateClosed s f) || crossState pg off data s then some .state
  else if routeClosed pg off rt data s then some .route
  else none

end Sys2Proof.Machine
end

