-- ==== Sys2Proof/Machine/Bus.lean ====
section
/-! DEFINITION. Register writes over BAR0, MGMT SPI and BAR4 (R75, R76, R88, R91, R377): a write that passes its checks is
stored, and where its word commands something, acts. Command words written here meet no failure from outside; the rows of
the command table carry those outcomes as operands. -/

namespace Sys2Proof.Machine

/-! ### Commands by register -/

/-- A perfect reading of the PUF sources, what a PUF command written as a plain register write meets. -/
def goodRead : PufRead := { sram0 := some 0, sram1 := some 0, delay := some 0 }

/-- All pairs that are not retired. -/
def allPairs (s : State) : Nat := (2 ^ 1024 - 1) &&& ((2 ^ 1024 - 1) ^^^ s.root.pairs)

/-- NODE.CMD by operation (R287). -/
def nodeGo (data : Nat) (s : State) : State :=
  let i := data % 2 ^ 18
  match data / 2 ^ 24 % 16 with
  | 1 => nodeRead i .good s
  | 2 => nodeAdmit i .good s
  | 3 => nodeUpdate i .good s
  | 4 => nodeRemove i .good s
  | 5 => nodePin i .good s
  | _ => nodeUnpin i s

/-- DISSEM.CMD by operation (R561). -/
def dissemGo (data : Nat) (s : State) : State :=
  let c := data % 16
  match data / 256 % 8 with
  | 1 => dissemSetup c s
  | 2 => dissemStart c s
  | 3 => dissemEnd c 3 .stopped s
  | 4 => dissemEnd c 4 .aborted s
  | 5 => dissemClear c s
  | _ => dissemExport c false s

/-- PKE.CMD by operation (R409); OP 0 only sets the register. -/
def pkeCmd (data : Nat) (s : State) : State :=
  let h : Bool := data.testBit 4
  let x := data / 65536 % 1024
  match data % 8 with
  | 0 =>
    let w := BitVec.ofNat 32 data
    if pageState 0x33 s = DRAINING then reject 0x33 0x040 .bar0 .state w s
    else if isSet F.PKE.STATUS_BUSY s then reject 0x33 0x040 .bar0 .action w s
    else wr F.PKE.CMD_OP 0 (wrBool F.PKE.CMD_HASH_IN h (wr F.PKE.CMD_SLOT x s))
  | 1 => pkeVerify 1 h x s
  | 2 => pkeVerify 2 h x s
  | 3 => pkeVerify 3 h x s
  | 4 => pkePairPublic h x s
  | _ => pkePairEcdh h x s

/-- FWUP.CMD by operation (R539 to R548, R553). -/
def fwGo (data : Nat) (s : State) : State :=
  match data with
  | 1 => fwInstall s
  | 2 => fwActivateLive true s
  | 3 => fwActivateAtReset s
  | 4 => fwConfirm s
  | 5 => fwRevert s
  | _ => fwStoreProfile .done s

/-- CAL_REQ: the word's bits together request their calibrations (R84). -/
def calGo (p data : Nat) (s : State) : State := calReq p data s

/-- MEMINT.TEST.GO by operation (R526). -/
def testOp (op : Nat) (rt : Route) (s : State) : State :=
  match op with
  | 1 => testWrite rt s
  | 2 => testFlipData rt s
  | 3 => testFlipCheck rt s
  | 4 => testRead rt s
  | _ => testReadRaw rt s

/-- A write of FE3.ROLE. -/
def roleGo (data : Nat) (s : State) : State := writeRole (data % 8) (data / 16 % 4) s

/-- The command of a word that commands something, if it does. -/
def wordCommand (pg off : Nat) (rt : Route) (data : Word) : Option (State → State) :=
  let d := data.toNat
  let one := fun (f : State → State) => if d.testBit 0 then some f else some id
  match pg, off with
  | 0x03, 0x050 => some (if d.testBit 0 then deepNowSet else deepNowClear)
  | 0x05, 0x068 => some (retireFe rt data)
  | 0x06, 0x088 => one noteGo
  | 0x08, 0x048 => one (tuneGo 0)
  | 0x09, 0x048 => one (tuneGo 1)
  | 0x0A, 0x048 => one (tuneGo 2)
  | 0x0B, 0x048 => one (tuneGo 3)
  | 0x08, 0x074 => some (calGo 0 d)
  | 0x09, 0x074 => some (calGo 1 d)
  | 0x0A, 0x074 => some (calGo 2 d)
  | 0x0B, 0x074 => some (calGo 3 d)
  | 0x0B, 0x050 => some (roleGo d)
  | 0x0C, 0x058 => one progCommit
  | 0x20, 0x054 => some (nodeGo d)
  | 0x29, 0x04C => some (dissemGo d)
  | 0x31, 0x0A4 => some (ccmGo d)
  | 0x32, 0x0A4 => some (sciGo d)
  | 0x33, 0x040 => some (pkeCmd d)
  | 0x38, 0x0CC => some (sfpAccess 0 data)
  | 0x39, 0x0CC => some (sfpAccess 1 data)
  | 0x3C, 0x044 => some (incrHiWrite rt data)
  | 0x3C, 0x06C => some (if d % 4 = 1 then timeSet rt (d.testBit 8) else timeAdjust rt (d.testBit 8))
  | 0x3C, 0x0B4 => some (meshOffsetWrite data)
  | 0x40, 0x058 => some (warmReset 2)
  | 0x40, 0x070 => some (copyGo (d % 4 == 1))
  | 0x46, 0x094 => some (testOp d rt)
  | 0x48, 0x040 => some (fwGo d)
  | 0x48, 0x074 => one ownerCosign
  | 0x4A, 0x05C => some (if d = 1 then ropeRelinquish else forceTakeover)
  | 0x4E, 0x090 => some (requestGo 0)
  | 0x4E, 0x124 => some (i2cCmd rt data)
  | 0x04, o => if 0x0A0 ≤ o ∧ o < 0x0C0 then some (mgmtAck ((o - 0x0A0) / 4) data) else none
  | _, _ => none

/-! ### Stored words -/

/-- Bits of a sticky field that a 1 clears. -/
def clearSticky (fs : List Field) (data : Nat) (s : State) : State :=
  fs.foldl (fun s f => if f.acc = .rw1c ∧ f.slice data &&& rd f s ≠ 0 then clearBits f (f.slice data) s else s) s

/-- What follows once a word has been stored: `old` is the state before. -/
def afterStore (pg off data : Nat) (old s : State) : State :=
  match pg with
  | 0x04 =>
    if 0x100 ≤ off ∧ off < 0x200 then settle ((List.range 4).map (fun k => off - 0x100 + k)) old s else s
  | 0x0B => if off = 0x09C ∧ data.testBit 17 then ltResume s else s
  | 0x10 => if 0x100 ≤ off ∧ off < 0x300 then refreshListen s else s
  | 0x28 =>
    let m := if 0x080 ≤ off ∧ off < 0x180 ∧ (off - 0x080) % 0x20 = 0x10 then some ((off - 0x080) / 0x20)
      else if 0x180 ≤ off ∧ off < 0x200 ∧ (off - 0x180) % 0x20 = 0x10 then some (8 + (off - 0x180) / 0x20) else none
    match m with
    | some m =>
      if isSet (meterField F.POLICE.CLASS_ENABLE F.POLICE.UP_ENABLE m) s &&
          !isSet (meterField F.POLICE.CLASS_ENABLE F.POLICE.UP_ENABLE m) old then fillMeter m s else s
    | none => s
  | 0x29 => if 0x100 ≤ off ∧ off < 0x900 ∧ off % 0x80 = 0 then recountComplete ((off - 0x100) / 0x80) s else noteBase pg off s
  | 0x38 | 0x39 => refreshLink (pg - 0x38) s
  | 0x3C => if off = 0x080 ∧ data.testBit 0 ∧ !isSet F.TIME.PPS_IN_CFG_ENABLE old then ppsEnabled s else s
  | 0x41 =>
    if 0x100 ≤ off ∧ off < 0x500 ∧ (off - 0x100) % 0x20 = 0 then
      let r := (off - 0x100) / 0x20
      let was := isSet (F.RINGS.RING_CFG_ENABLE r) old
      let now := isSet (F.RINGS.RING_CFG_ENABLE r) s
      if now && !was then startRing r s
      else if was && !now then
        (ring r s).waiting.foldl (fun s x => endItem x .dropDisabled s) (modRing r (fun g => { g with waiting := [] }) s)
      else s
    else s
  | 0x4E => if off = 0x114 then showEdges s else if off = 0x100 ∨ off = 0x104 then showDriven s else s
  | _ => noteBase pg off s

/-- A word is stored, its sticky bits cleared, and what follows happens. -/
def writeWord (pg off data : Nat) (s : State) : State :=
  if pg < 0x80 ∧ off = 0x014 then clearLatch pg data s
  else
    let fs := wordFields pg off
    let t := clearSticky fs data (storeWord fs data s)
    if pg < 0x80 ∧ off = 0x018 then settle (pageSources pg) s t else afterStore pg off data s t

/-! ### Register writes -/

/-- A command that a write over `rt` starts: a rejection that the command itself records belongs to that route (R76, R91). -/
def routed (pg : Nat) (rt : Route) (op : State → State) (s : State) : State :=
  match rt with
  | .bar0 => op s
  | .mgmtSpi =>
    let n := min (rd (F.HEAD.REJECT_COUNT pg) s) 65534
    let t := op (wr (F.HEAD.REJECT_COUNT pg) n s)
    if rd (F.HEAD.REJECT_COUNT pg) t = n + 1 then
      wr (F.HEAD.REJECT_ADDR_ROUTE pg) (routeCode .mgmtSpi) { t with spi := { t.spi with rejected := true } }
    else if rd (F.HEAD.REJECT_COUNT pg) t = n then wr (F.HEAD.REJECT_COUNT pg) (rd (F.HEAD.REJECT_COUNT pg) s) t
    else t

/-- A write of a word that commands `op`: its checks first (R76). -/
def regCommand (pg off : Nat) (rt : Route) (data : Word) (op : State → State) (s : State) : State :=
  if !reaches pg rt then noPage pg off rt s
  else
    match refusal pg off rt data.toNat s with
    | some r => reject pg off rt r data s
    | none => routed pg rt op s

/-- A write of one register word with all byte enables. -/
def regWrite (pg off : Nat) (rt : Route) (data : Word) (s : State) : State :=
  if off = 0x008 then ctrlWrite pg rt data s
  else if off = 0x01C then evtForce pg rt data s
  else
    regCommand pg off rt data (match wordCommand pg off rt data with
      | some f => f
      | none => writeWord pg off data.toNat) s

/-- REJECT_ADDR.REASON of a page. -/
def lastReason (pg : Nat) (s : State) : Nat := rd (F.HEAD.REJECT_ADDR_REASON pg) s

/-- A write whose byte enables are not all set is rejected as PARTIAL, unless a reason before that applies (R75, R76). -/
def partialWrite (pg off : Nat) (rt : Route) (data : Word) (s : State) : State :=
  if !reaches pg rt then noPage pg off rt s
  else
    let t := regWrite pg off rt data (wr (F.HEAD.REJECT_ADDR_REASON pg) 0 s)
    if 1 ≤ lastReason pg t ∧ lastReason pg t ≤ 5 ∧ rd F.MGMT.START_STAGE t = rd F.MGMT.START_STAGE s then t
    else reject pg off rt .partialEnables data s

/-! ### BAR0 outside the page map (R88) -/

/-- A write of the MSI-X table: an entry's words, and its mask bit, whose clearing is an unmask (R99). -/
def msixWrite (addr : Nat) (data : Word) (s : State) : State :=
  let v := (addr - 0x80000) / 16
  if addr % 16 = 12 then
    if data.getLsbD 0 then { s with msix := { s.msix with vecMask := s.msix.vecMask ||| (1#32 <<< v) } }
    else if s.msix.vecMask.getLsbD v then msixUnmask (some v) s
    else s
  else
    let k := (addr - 0x80000) / 4
    { s with msix := { s.msix with
        table := if data = 0 then erase s.msix.table k else insert s.msix.table k data.toNat } }

/-- A 32-bit write over BAR0. -/
def bar0Write (addr : Nat) (be : BitVec 4) (data : Word) (s : State) : State :=
  let a := addr / 4 * 4
  if isPage (a / 4096) then
    if be = 15 then regWrite (a / 4096) (a % 4096) .bar0 data s else partialWrite (a / 4096) (a % 4096) .bar0 data s
  else if 0x80000 ≤ a ∧ a < 0x80200 then (if be = 15 then msixWrite a data s else s)
  else if 0x81000 ≤ a ∧ a < 0x81008 then s
  else if 0x1000000 ≤ a ∧ a < 0x1800000 then windowWrite (a - 0x1000000) (be == 15) [data] s
  else unmapped 0 a true s

/-! ### BAR4 (R375, R377) -/

/-- LC.CMD by what it names (R377, R390). -/
def lcGo (data : Nat) (s : State) : State :=
  if data.testBit 9 then lcExit s
  else if data % 8 = 0 ∧ data.testBit 8 then lcSeal false s
  else lcTransition (data % 8) (data.testBit 8) false s

/-- PUF.CMD by operation (R377). -/
def pufGo (data : Nat) (s : State) : State :=
  match data % 8 with
  | 1 => pufEnrol true (allPairs s) goodRead false s
  | 2 => pufRefresh (allPairs s) 0 goodRead false s
  | 3 => pufSwap (data / 256 % 4) (data / 4096 % 4) goodRead false s
  | _ => pufReseal true goodRead false s

/-- COMMIT by operation (R378). -/
def commitGo (data : Nat) (s : State) : State :=
  let x := data % 1024
  match data / 4096 % 8 with
  | 1 => keyLoad x s
  | 2 => keyUnwrapLoad x s
  | 3 => keyDerive x (data / 65536 % 32) (data / 2 ^ 24 % 32) s
  | 4 => keyErase x (data.testBit 29) s
  | 5 => keyExport x false s
  | 6 => keyImport x false s
  | _ => keyWrapOut x false s

/-- The command of a BAR4 word. -/
def bar4Act (off data : Nat) : Option (State → State) :=
  match off with
  | 0x0024 => some (if data % 4 = 1 then trustUnlock else trustClose)
  | 0x1030 => some (commitGo data)
  | 0x2000 => some (bar4Command 0x2000 data (lcGo data))
  | 0x3000 => some (bar4Command 0x3000 data (pufGo data))
  | _ => none

/-- A BAR4 word is stored; a write-only register keeps what its command will read. -/
def bar4Store (off data : Nat) (s : State) : State :=
  let s := (wordFields 0x80 off).foldl (fun s f => if f.acc = .ro then s else wr f (f.slice data) s) s
  if 0x2010 ≤ off ∧ off < 0x2040 then { s with root := { s.root with pinSet := true } } else s

/-- Whether a BAR4 offset is a TRUST register, which works whatever the lock is (R375). -/
def trustWord (off : Nat) : Bool := decide (off < 0x0200) && !(wordFields 0x80 off).isEmpty

/-- A write over BAR4: the TRUST registers always work; elsewhere a closed lock discards the write and counts it. -/
def bar4Write (addr : Nat) (be : BitVec 4) (data : Word) (s : State) : State :=
  let off := addr / 4 * 4
  let fs := wordFields 0x80 off
  let d := data.toNat
  if !trustWord off && !lockOpen s then trustDenied s
  else if 0x4000 ≤ off || fs.isEmpty then s
  else if outOfRange fs d s then reject4 off .range d s
  else if d &&& reservedBits fs ≠ 0 then reject4 off .reservedBit d s
  else if be ≠ 15 then
    reject4 off (if (off == 0x1030 || off == 0x2000 || off == 0x3000) && !keysAccept s then .state else .partialEnables) d s
  else
    match bar4Act off d with
    | some f => f s
    | none =>
      if ((0x1000 ≤ off && off < 0x1030) || off == 0x1034) && isSet F.BAR4.LOAD_STATUS_BUSY s then reject4 off .action d s
      else bar4Store off d s

/-- A host write over a register window. -/
def busWrite (bar : Bar) (addr : Nat) (be : BitVec 4) (data : Word) (s : State) : State :=
  match bar with
  | .bar0 => bar0Write addr be data s
  | .bar4 => bar4Write addr be data s

/-! ### MGMT SPI transactions (R91) -/

/-- Whether MGMT SPI can use an address. -/
def spiUsable (addr : Nat) : Bool := addr % 4 == 0 && reaches (addr / 4096) .mgmtSpi

/-- The address of word `k` of a transaction: it wraps within the page. -/
def spiAddr (addr k : Nat) : Nat := addr / 4096 * 4096 + (addr % 4096 + 4 * k) % 4096

/-- An address that cannot be used is counted once. -/
def spiBad (s : State) : State := spiDiscard { s with spi := { s.spi with unusable := true } }

/-- Words read from `k` on, each with its read effect, added to the reply. -/
def spiReadWords (addr : Nat) : Nat → Nat → State → State
  | _, 0, s => s
  | k, n + 1, s =>
    let t := routeRead .mgmtSpi (spiAddr addr k) 0 .good s
    spiReadWords addr (k + 1) n { t with spi := { t.spi with reply := t.spi.reply ++ [t.readData] } }

/-- READ: `words` data words. -/
def spiRead (mode3 : Bool) (addr words : Nat) (s : State) : State :=
  let s := spiBegin mode3 false s
  if spiUsable addr then spiReadWords addr 0 words s
  else spiBad { s with spi := { s.spi with reply := List.replicate words 0 } }

/-- Words written from `k` on, in order. -/
def spiWriteWords (addr : Nat) : Nat → List Word → State → State
  | _, [], s => s
  | k, w :: r, s => spiWriteWords addr (k + 1) r (regWrite (addr / 4096) (spiAddr addr k % 4096) .mgmtSpi w s)

/-- WRITE: a discarded word is also reported. -/
def spiWrite (mode3 : Bool) (addr : Nat) (data : List Word) (s : State) : State :=
  let s := spiBegin mode3 true s
  if spiUsable addr then spiWriteWords addr 0 data s
  else spiBad { s with spi := { s.spi with rejected := s.spi.rejected || !data.isEmpty } }

end Sys2Proof.Machine
end

