-- ==== Sys2Proof/Machine/Start.lean ====
section
/-! DEFINITION. The start from the lock of its clocks on (R626 to R630): root, profile, manifest, settings, DDR training, RUN,
and the entry to base camp. -/

namespace Sys2Proof.Machine

/-! ### Step 4: the root (R355, R356) -/

/-- The key pair of the DDR cipher for this start (R404, R406): of the root, or drawn where none is ready. -/
def newDdrKey (s : State) : List Byte × State :=
  match s.root.root with
  | some r => (ddrPair r, s)
  | none =>
    let (d, s) := draw s
    (bytesLe 64 (Config.entropy d), s)

/-- The DDR cipher takes its key. What a reset has kept of DDR under another key no longer decrypts, and is filled as after any reset
(DEDUCED, log entry 17: R522 keeps lines subject to R406). -/
def keyDdr (s : State) : State :=
  let was := s.root.ddrKey
  let (k, s) := newDdrKey s
  let s := wrBool F.SCIPHER.STATUS_DDR_KEY (isSet F.KEYS.ROOT_READY s) { s with root := { s.root with ddrKey := k } }
  if s.boot.keep && k != was then
    { s with ddr := [], boot := { s.boot with keep := false }
             mem := { s.mem with filled := [], test := s.mem.test.filter (fun x => 1024 ≤ x.1) } }
  else s

/-- The root is reconstructed, or enrolled in MANUFACTURE without helper data, where a refusal shows in PUF.STATUS.RESULT (DEDUCED, log
entry 30); a result other than OK or ENROLLED is a base camp cause. -/
def rootStep (puf : PufRead) (entropyOk flashError : Bool) (pairs : Nat) (s : State) : State :=
  let s :=
    if lifecycle s = LC_BLANK then s
    else if lifecycle s = LC_DECOMMISSIONED then wr F.KEYS.ROOT_RESULT 9 s
    else if (helper s).isNone ∧ lifecycle s = LC_MANUFACTURE then
      let r := enrol entropyOk pairs puf flashError s
      if r.1 = 1 then r.2 else wr F.KEYS.ROOT_RESULT 2 (pufResult r.1 r.2)
    else reconstruct puf s
  let s := keyDdr s
  if rd F.KEYS.ROOT_RESULT s = 1 ∨ rd F.KEYS.ROOT_RESULT s = 8 then s else addCause C_ROOT s

/-! ### Step 5: profile and flash discovery (R140, R532) -/

/-- The regulatory profile is loaded and the flash devices are discovered; CS0 must hold 32 MiB. -/
def fuseStep (cs0 cs1 : Nat) (s : State) : State :=
  let s := wr F.FLASH.CS0_LOG2 cs0 (wr F.FLASH.CS1_LOG2 cs1 (loadProfile s))
  if cs0 < 5 then addCause C_FLASH s else s

/-! ### Step 6: the activation record and the package (R538, R550, R552, R553) -/

/-- Nothing is bootable. -/
def noImage (s : State) : State := addCause C_IMAGE s

/-- A fallback, or nothing bootable. -/
def fallBackOrCamp (cause : Nat) (s : State) : State :=
  let f := fallBack cause s
  if f.1 then f.2 else noImage f.2

/-- A REVERT that waited for this reset (R553). -/
def revertStep (s : State) : State :=
  if !s.fw.revert then s
  else
    let s := { s with fw := { s.fw with revert := false } }
    let r := actNow s
    if r.trial then fallBackOrCamp 6 s else writeAct (r.back (1 - r.settings % 2) 2 r.cause) s

/-- A start in TRIAL counts; the fourth that does not reach RUN falls back. -/
def trialStep (s : State) : State :=
  let r := actNow s
  if !r.trial then s
  else if r.bootFails = 3 then fallBackOrCamp 5 s
  else writeAct { r with bootFails := r.bootFails + 1 } s

/-- The active package is checked; a set that fails falls back. -/
def verifyStep (s : State) : State :=
  let c := checkPackage (partOctets (actNow s) (actNow s).active s) s
  if c.1 = 0 then c.2
  else if (actNow s).trial || (actNow s).inactive == 2 then fallBackOrCamp 1 c.2
  else noImage c.2

/-- Missing rollback fuses are blown in CONFIRMED (R552). -/
def blowLevels (s : State) : State :=
  let r := actNow s
  if !r.trial && decide (rd F.FWUP.ROLLBACK_FUSED s < r.activeLevel) then wr F.FWUP.ROLLBACK_FUSED (min 128 r.activeLevel) s else s

/-- The running set as IDENT and FWUP show it. -/
def showSet (s : State) : State :=
  let r := actNow s
  let p := partOctets r r.active s
  showAct r (wr F.IDENT.CELLEY_VERSION (compVersion p 1) (wr F.FWUP.SCHEMA_ACTIVE (leAt p 16 2) s))

/-- Step 6. -/
def manifestStep (s : State) : State :=
  match actRec s with
  | none => addCause C_ACTIVATION s
  | some _ =>
    let go := fun (f : State → State) (s : State) => if hasCause C_IMAGE s then s else f s
    go showSet (go blowLevels (go verifyStep (go trialStep (revertStep s))))

/-! ### Step 8: settings (R547 to R549) -/

/-- CTRL as a settings entry writes it: ENABLE is held until every entry has been applied. -/
def settingsCtrl (pg : Nat) (data : Word) (s : State) : State :=
  match ctrlRefused pg .bar0 data.toNat s with
  | some r => reject pg 0x008 .bar0 r data s
  | none =>
    let d := data.toNat
    let s := if d.testBit 3 then wr (F.HEAD.CTRL_LOCK pg) 1 s else s
    if headOnly pg then s
    else
      let s := wrBool (F.HEAD.CTRL_ENABLE pg) (d.testBit 0) s
      if d.testBit 2 then selfTest pg s else s

/-- One entry: a BAR0 write of (old AND NOT MASK) OR (VALUE AND MASK). -/
def applyEntry (e : Entry) (s : State) : State :=
  let old := BitVec.ofNat 32 (wordRead e.page e.off .bar0 s)
  let m := BitVec.ofNat 32 e.mask
  let data := (old &&& ~~~m) ||| (BitVec.ofNat 32 e.val &&& m)
  if !isPage e.page then s
  else if e.off = 0x008 then settingsCtrl e.page data s
  else regWrite e.page e.off .bar0 data s

/-- Entries in order, `i` the index of the next; a rejected one is counted, the first with its index. -/
def applyEntries : Nat → List Entry → State → State
  | _, [], s => s
  | i, e :: r, s =>
    if rd F.MGMT.START_STAGE s ≠ 7 then s
    else
      let was := lastReason e.page s
      let t := applyEntry e (wr (F.HEAD.REJECT_ADDR_REASON e.page) 0 s)
      if lastReason e.page t = 0 then applyEntries (i + 1) r (wr (F.HEAD.REJECT_ADDR_REASON e.page) was t)
      else
        let t := if rd F.FWUP.PROFILE_REJECTS t = 0 then wr F.FWUP.PROFILE_FIRST_REJECT i t else t
        applyEntries (i + 1) r (inc F.FWUP.PROFILE_REJECTS t)

/-- The pages whose ENABLE the entries have set leave OFF. -/
def enablePages (s : State) : State :=
  fullPages.foldl (fun s pg =>
    if isSet (F.HEAD.CTRL_ENABLE pg) s && pageState pg s == OFF then pageEnable pg s else s) s

/-- The entries of a copy are applied. They are not host writes: the gate of R627 does not hold them. -/
def applySettings (c : List Byte) (s : State) : State :=
  let t := applyEntries 0 (entriesOf c) (wr F.MGMT.START_STAGE 7 s)
  if rd F.MGMT.START_STAGE t = 7 then enablePages (wr F.MGMT.START_STAGE 5 t) else t

/-- Migration where the copy's version differs: the octets to apply, or the cause of failure (R549). -/
def migrateCopy (c : List Byte) (readBack : Bool) (s : State) : (Nat ⊕ List Byte) × State :=
  let r := actNow s
  let p := partOctets r r.active s
  if leAt c 4 2 = leAt p 16 2 then (.inr c, s)
  else
    match migrate (component p 5) c with
    | .inl e => (.inl e, s)
    | .inr es =>
      if !readBack then (.inl 4, s)
      else
        let n := settingsOf (leAt p 16 2) es
        let i := r.settings % 2
        let s := writeSettings (1 - i) n { s with fw := { s.fw with back := i } }
        (.inr n, writeAct { r with settings := 1 - i + (if r.inactive = 2 then 2 else 0) } s)

/-- The settings copy of the active set is read, migrated where needed and applied. A failed migration falls back, and the
previous set's copy is then read, at most once. -/
def settingsStep (readBack : Bool) : Nat → State → State
  | 0, s => noImage s
  | n + 1, s =>
    let r := actNow s
    let c := readSettings (r.settings % 2) s
    let s := c.2
    if !settingsCrc c.1 then wr F.FWUP.STATUS_SETTINGS_BAD 1 s
    else
      let m := migrateCopy c.1 readBack s
      match m.1 with
      | .inl e =>
        let f := fallBack e m.2
        if f.1 then settingsStep readBack n (showSet f.2) else noImage f.2
      | .inr o => applySettings o (wr F.FWUP.SCHEMA_SETTINGS (leAt o 4 2) m.2)

/-- Step 8 with the DDR page's start; in TRIAL, TRIAL_LEFT resumes from the record. -/
def celleyStep (readBack : Bool) (s : State) : State :=
  let bootable : Bool := (actRec s).isSome && !hasCause C_IMAGE s
  let s := if bootable then settingsStep readBack 2 s else s
  if rd F.MGMT.START_STAGE s ≠ 5 then s
  else
    let s := setPageState 0x44 STARTING (wr (F.HEAD.CTRL_ENABLE 0x44) 1 s)
    let s := showTrial { s with fw := { s.fw with trial := if (actNow s).trial then (actNow s).elapsed else 0 } }
    wr F.MGMT.START_STAGE 6 s

/-- CORE_PLL and SUP_PLL lock (R67), and steps 2 to 8 run. -/
def clocksLocked (puf : PufRead) (entropyOk flashError : Bool) (pairs cs0 cs1 : Nat) (readBack : Bool) (s : State) : State :=
  if s.boot.held || rd F.MGMT.START_STAGE s ≠ 1 || s.watch.refclkAbsent then s
  else
    let s := pllLock 1 (pllLock 0 (pllRequest 1 (pllRequest 0 s)))
    let s := rootStep puf entropyOk flashError pairs (wr F.MGMT.START_STAGE 2 s)
    let s := fuseStep cs0 cs1 (wr F.MGMT.START_STAGE 3 s)
    let s := manifestStep (wr F.MGMT.START_STAGE 4 s)
    celleyStep readBack (wr F.MGMT.START_STAGE 5 s)

/-! ### Base camp (R630, R631) -/

/-- The lowest cause present. -/
def lowestCause (s : State) : Nat := ((List.range 11).find? (fun c => 1 ≤ c && hasCause c s)).getD 0

/-- A page that base camp holds returns to OFF. -/
def campOff (pg : Nat) (s : State) : State :=
  if headOnly pg ∨ pageState pg s = RETIRED then s
  else wr (F.HEAD.CTRL_ENABLE pg) 0 (if pageState pg s = OFF then s else blockReset pg (abortWork pg s))

/-- Base camp is entered: the recovery supervisor takes over and the data plane is OFF. -/
def enterCamp (s : State) : State :=
  let s := (fullPages.filter campHolds).foldl (fun s pg => campOff pg s) s
  let s := (List.range 4).foldl (fun s p => feOffLevels p s) s
  let from' := lifecycle s
  let s := if from' = LC_PROVISIONED ∨ from' = LC_DEPLOYED then
      let s := setLifecycle LC_RECOVERY s
      closeLock (logCairn K_LIFECYCLE [from', LC_RECOVERY, if isSet F.KEYS.ROOT_SEALED s then 1 else 0] s)
    else s
  let s := if hasCause C_REQUEST s then wr F.MGMT.START_ENTER_PENDING 0 { s with boot := { s.boot with causes := s.boot.causes ||| 2 ^ C_REQUEST } } else s
  wr F.MGMT.START_RUN_MS 0 (wr F.MGMT.START_REASON (lowestCause s) (wr F.MGMT.START_STAGE 15 s))

/-! ### Steps 9 and 10 (R626, R628, R629, R530) -/

/-- RUN is reached: BOOT_FAILS is written 0, the time is recorded, and a start with mains down enters bivouac (R59). -/
def startRun (s : State) : State :=
  if rd F.MGMT.START_STAGE s ≠ 7 then s
  else
    let r := actNow s
    let s := if (actRec s).isSome ∧ r.bootFails ≠ 0 then writeAct { r with bootFails := 0 } s else s
    let s := wr F.MGMT.START_RUN_MS (min 65535 ((s.now - s.boot.validAt) / 1000000)) (wr F.MGMT.START_STAGE 8 s)
    if s.boot.powerLow then bivouacEntry s else s

/-- Step 9 ends: the start goes on to HOST, or base camp is entered. Without the crystal, RUN follows at once. -/
def trainedStep (s : State) : State :=
  if rd F.MGMT.START_CAUSES s ≠ 0 then enterCamp s
  else
    let s := wr F.MGMT.START_STAGE 7 s
    if rawSet 0x03 1 s then startRun s else s

/-- DDR training ends; a first failure trains once more. -/
def ddrTrained (ok : Bool) (sizeGib : Nat) (twoRanks : Bool) (s : State) : State :=
  if rd F.MGMT.START_STAGE s ≠ 6 ∨ pageState 0x44 s ≠ STARTING then s
  else if ok then
    let s := wr F.DDR.SIZE_GIB sizeGib (wrBool F.DDR.RANKS twoRanks s)
    trainedStep (startFill (setPageState 0x44 RUN s))
  else if s.boot.trains = 0 then { s with boot := { s.boot with trains := 1 } }
  else
    let s := setPageState 0x44 FAULT (wr (F.HEAD.TEST_STATUS_DETAIL 0x44) 1 s)
    trainedStep (addCause C_DDR_TRAIN (latch 0x44 1 s))

end Sys2Proof.Machine
end

