-- ==== Sys2Proof/Machine/Effects.lean ====
section
/-! DEFINITION. What follows from a command once its own effect is done: frames that ended are let go, front ends,
lanes and engines that were waited for are taken, and the registers that show other state are brought up to date. -/

namespace Sys2Proof.Machine

/-- Ended frames leave; one that came from a transmit slot returns it (R496). -/
def sweepFrames (s : State) : State :=
  let s := (s.frames.filter (fun x => x.2.over)).foldl (fun s x =>
    match x.2.kind, x.2.place with
    | .host r i, .ended d => returnSlot r i S_DONE d.code s
    | _, _ => s) s
  { s with frames := s.frames.filter (fun x => !x.2.over) }

/-- Whether nothing waits for a lane, a front end, an engine or a frame. -/
def quiet (s : State) : Bool :=
  !s.frames.any (fun x => x.2.over) && s.campaigns.isEmpty && s.reliefQueue.isEmpty && s.laneDebt.isEmpty &&
    s.poolTest.isNone && s.fw.banks.isEmpty && !isSet F.FWUP.ROLL_ACTIVE s &&
    (lanesWaiting s).isEmpty &&
    (List.range 4).all (fun p => !isSet (F.FE.RF_STATE_RETUNE_PENDING p) s && (fe p s).waiting.isEmpty) &&
    s.engineTest.isNone

/-- What waits and can now go on: dissemination follows its frames (R566), a retune or an unrelieved calibration whose
lanes have drained begins (R106, R114), FE3 serves the next relief (R119), banks, lanes and engines that are free are
switched, substituted or tested (R544, R187, R189). -/
def airWork (s : State) : State :=
  if quiet s then s
  else
    let s := sweepFrames (followDissem s)
    let s := (List.range 4).foldl (fun s p => unrelievedStep p (retuneStep p s)) s
    fcryptoStep (poolStep (payDebt (rollStep (bankStep (serveRelief (laneStep s))))))

/-- REMAIN of RESERVE: the field, its class code, and what it reads (R599, R619). -/
def remains (s : State) : List (Field × Nat × Nat) :=
  [ (F.RESERVE.REMAIN_LANES, 0, (laneNumbers.filter (fun i => (lane i s).state == .reserve)).length),
    (F.RESERVE.REMAIN_FCE, 1, if engineSpare s then 1 else 0),
    (F.RESERVE.REMAIN_SUP, 2, if rd F.RESERVE.RETIRED_OTHER_SUP s = 0 then 1 else 0),
    (F.RESERVE.REMAIN_FE, 3, if role s = 2 ∨ isRetired 3 3 s then 0 else 1),
    (F.RESERVE.REMAIN_PUF_BLOCKS, 5, (freeBlocks s).length - 2),
    (F.RESERVE.REMAIN_PAIRS, 6, usablePairs s - 512),
    (F.RESERVE.REMAIN_PARTITION, 9, if (actNow s).spare then 1 else 0),
    (F.RESERVE.REMAIN_REPAIR_FUSES, 4, 256 - s.mem.blown.length),
    (F.RESERVE.REMAIN_SRAM_WORST, 4, worstSpares s) ]

/-- REMAIN follows its classes; a class that falls to 0 latches RESERVE_LOW (R599). -/
def showRemain (old s : State) : State :=
  ((remains old).zip (remains s)).foldl (fun s x =>
    let s := if rd x.2.1 s = x.2.2.2 then s else wr x.2.1 x.2.2.2 s
    if x.1.2.2 ≠ 0 ∧ x.2.2.2 = 0 then reserveLow x.2.2.1 s else s) s

/-- The registers that show the key slots and the node table. -/
def storeWork (old s : State) : State := refreshScan (showSlots (mirrorChanges old s))

/-- The registers that show what other units hold. -/
def showWork (old s : State) : State :=
  showRemain old (showBusy (showHealth (showTrust (showTrial (refreshBuffer (showProgress s))))))

/-- Everything that follows from a command on `old` that gave `s`. -/
def settleWork (old s : State) : State := showWork old (storeWork old (airWork s))

/-- The command on `old` ends in `s`: the machine goes on, with the queue as it was. -/
def done (old s : State) : Host.Outcome State Fault Refusal := .next { s with pending := old.pending }

/-- A second of powered time (R604): POWERED_S, the trial (R551) and the age of the root. -/
def poweredSecond (s : State) : State :=
  let s := showAge (inc F.RESERVE.POWERED_S s)
  if (actNow s).trial then showTrial { s with fw := { s.fw with trial := s.fw.trial + 1 } } else s

/-- Powered time goes on by 1 ns. -/
def poweredNs (s : State) : State :=
  if s.wear.part + 1 < 1000000000 then { s with wear := { s.wear with part := s.wear.part + 1 } }
  else poweredSecond { s with wear := { s.wear with part := 0 } }

/-- 1 ns of a held reset (R54): no clock of the core domain runs, and device time goes on by the shadow where the reset
resumes it (R454). -/
def heldNs (s : State) : State := if isSet F.TIME.STATUS_RESTORED s then tick s else { s with now := s.now + 1 }

/-- No command waits: 1 ns passes. -/
def idle (s : State) : State := if s.boot.held then heldNs s else laneStep (showTrust (poweredNs (tick s)))

end Sys2Proof.Machine
end

