-- ==== Sys2Proof/Machine/DoCanary.lean ====
section
/-! DEFINITION. The commands of reserve, wear, tamper, the cairn log and bivouac (R598 to R621). -/

namespace Sys2Proof.Machine

/-- RETIRE_FE (R601). -/
def execRetireFe (route : Route) (data : Word) (s : State) : Host.Outcome State Fault Refusal :=
  done s (settleWork s (regWrite 0x05 0x068 route data s))

/-- WEAR_SAMPLE (R603). -/
def execWearSample (s : State) : Host.Outcome State Fault Refusal :=
  done s (wearSample s)

/-- WEAR_OSCILLATOR_MEASURE (R602). -/
def execWearOscillatorMeasure (l0 l1 l2 l3 : Nat) (s : State) : Host.Outcome State Fault Refusal :=
  done s (wearOscillators [l0, l1, l2, l3] s)

/-- WEAR_CHECKPOINT (R604). -/
def execWearCheckpoint (s : State) : Host.Outcome State Fault Refusal :=
  done s (checkpoint s)

/-- TAMPER_MESH (R605). -/
def execTamperMesh (sensor : Fin 2) (s : State) : Host.Outcome State Fault Refusal :=
  done s (settleWork s (tamper sensor.val s))

/-- TAMPER_SWITCH (R605). -/
def execTamperSwitch (sensor : Fin 2) (s : State) : Host.Outcome State Fault Refusal :=
  done s (settleWork s (tamper (2 + sensor.val) s))

/-- TAMPER_ENV (R605). -/
def execTamperEnv (glitch : Bool) (s : State) : Host.Outcome State Fault Refusal :=
  done s (settleWork s (tamper (if glitch then 5 else 4) s))

/-- CAIRN_RECORD_WRITE (R609). -/
def execCairnRecordWrite (s : State) : Host.Outcome State Fault Refusal :=
  done s (cairnWrite s)

/-- NOTE_GO (R611). -/
def execNoteGo (s : State) : Host.Outcome State Fault Refusal :=
  done s (regWrite 0x06 0x088 .bar0 1 s)

/-- CAIRN_REC_READ (R612). -/
def execCairnRecRead (s : State) : Host.Outcome State Fault Refusal :=
  done s (regRead 0x06 0x050 .bar0 s)

/-- KEY_MIRROR_DONE (R614). -/
def execKeyMirrorDone (s : State) : Host.Outcome State Fault Refusal :=
  done s (settleWork s (keyMirrorDone s))

/-- BIVOUAC_ENTERED (R614). -/
def execBivouacEntered (s : State) : Host.Outcome State Fault Refusal :=
  done s (settleWork s (bivouacEntered s))

/-- BIVOUAC_EXITED (R616). -/
def execBivouacExited (s : State) : Host.Outcome State Fault Refusal :=
  done s (settleWork s (bivouacExited s))

/-- DEEP_AFTER_EXPIRY (R617). -/
def execDeepAfterExpiry (s : State) : Host.Outcome State Fault Refusal :=
  done s (settleWork s (deepAfter s))

/-- DEEP_NOW_SET (R617). -/
def execDeepNowSet (s : State) : Host.Outcome State Fault Refusal :=
  done s (settleWork s (regWrite 0x03 0x050 .bar0 1 s))

/-- DEEP_NOW_CLEAR (R617). -/
def execDeepNowClear (s : State) : Host.Outcome State Fault Refusal :=
  done s (settleWork s (regWrite 0x03 0x050 .bar0 0 s))

/-- TAMPER_DOMAIN_SUPPLY_LOSS (R363). -/
def execTamperDomainSupplyLoss (s : State) : Host.Outcome State Fault Refusal :=
  done s (maskLost s)

end Sys2Proof.Machine
end

