-- ==== Sys2Proof/Machine/DoCipher.lean ====
section
/-! DEFINITION. The commands of the cipher and public-key engines (R399 to R421). -/

namespace Sys2Proof.Machine

/-- PATH_MISMATCH (R399). -/
def execPathMismatch (user : PathUser) (s : State) : Host.Outcome State Fault Refusal :=
  done s (settleWork s (pathMismatch user s))

/-- KNOWN_ANSWER_CHECK (R400). -/
def execKnownAnswerCheck (engine : Fin 9) (passed : Bool) (s : State) : Host.Outcome State Fault Refusal :=
  done s (settleWork s (knownAnswer engine.val passed s))

/-- ENGINE_DRAINED (R400). -/
def execEngineDrained (engine : Fin 9) (s : State) : Host.Outcome State Fault Refusal :=
  done s (settleWork s (engineDrained engine.val s))

/-- CCM_ENCRYPT (R403). -/
def execCcmEncrypt (s : State) : Host.Outcome State Fault Refusal :=
  done s (settleWork s (regWrite 0x31 0x0A4 .bar0 1 s))

/-- CCM_DECRYPT (R403). -/
def execCcmDecrypt (s : State) : Host.Outcome State Fault Refusal :=
  done s (settleWork s (regWrite 0x31 0x0A4 .bar0 2 s))

/-- CCM_JOB_DONE (R403). -/
def execCcmJobDone (ddrError : Bool) (s : State) : Host.Outcome State Fault Refusal :=
  done s (settleWork s (ccmDone ddrError s))

/-- SCIPHER_XTS_ENCRYPT (R408). -/
def execScipherXtsEncrypt (s : State) : Host.Outcome State Fault Refusal :=
  done s (settleWork s (regWrite 0x32 0x0A4 .bar0 1 s))

/-- SCIPHER_XTS_DECRYPT (R408). -/
def execScipherXtsDecrypt (s : State) : Host.Outcome State Fault Refusal :=
  done s (settleWork s (regWrite 0x32 0x0A4 .bar0 2 s))

/-- SCIPHER_CBC_ENCRYPT (R408). -/
def execScipherCbcEncrypt (s : State) : Host.Outcome State Fault Refusal :=
  done s (settleWork s (regWrite 0x32 0x0A4 .bar0 3 s))

/-- SCIPHER_CBC_DECRYPT (R408). -/
def execScipherCbcDecrypt (s : State) : Host.Outcome State Fault Refusal :=
  done s (settleWork s (regWrite 0x32 0x0A4 .bar0 4 s))

/-- SCIPHER_CTR (R408). -/
def execScipherCtr (s : State) : Host.Outcome State Fault Refusal :=
  done s (settleWork s (regWrite 0x32 0x0A4 .bar0 5 s))

/-- SCIPHER_CFB_ENCRYPT (R408). -/
def execScipherCfbEncrypt (s : State) : Host.Outcome State Fault Refusal :=
  done s (settleWork s (regWrite 0x32 0x0A4 .bar0 6 s))

/-- SCIPHER_CFB_DECRYPT (R408). -/
def execScipherCfbDecrypt (s : State) : Host.Outcome State Fault Refusal :=
  done s (settleWork s (regWrite 0x32 0x0A4 .bar0 7 s))

/-- SCIPHER_JOB_DONE (R408). -/
def execScipherJobDone (ddrError : Bool) (s : State) : Host.Outcome State Fault Refusal :=
  done s (settleWork s (sciDone ddrError s))

/-- PKE_VERIFY_P256 (R410). -/
def execPkeVerifyP256 (hashIn : Bool) (slot : Fin 1024) (s : State) : Host.Outcome State Fault Refusal :=
  done s (settleWork s (regWrite 0x33 0x040 .bar0 (BitVec.ofNat 32 (pkeWord 1 hashIn slot.val)) s))

/-- PKE_VERIFY_P384 (R410). -/
def execPkeVerifyP384 (hashIn : Bool) (slot : Fin 1024) (s : State) : Host.Outcome State Fault Refusal :=
  done s (settleWork s (regWrite 0x33 0x040 .bar0 (BitVec.ofNat 32 (pkeWord 2 hashIn slot.val)) s))

/-- PKE_VERIFY_ED25519 (R410). -/
def execPkeVerifyEd25519 (hashIn : Bool) (slot : Fin 1024) (s : State) : Host.Outcome State Fault Refusal :=
  done s (settleWork s (regWrite 0x33 0x040 .bar0 (BitVec.ofNat 32 (pkeWord 3 hashIn slot.val)) s))

/-- PKE_PAIR_PUBLIC (R409). -/
def execPkePairPublic (hashIn : Bool) (slot : Fin 1024) (s : State) : Host.Outcome State Fault Refusal :=
  done s (settleWork s (regWrite 0x33 0x040 .bar0 (BitVec.ofNat 32 (pkeWord 4 hashIn slot.val)) s))

/-- PKE_PAIR_ECDH (R411). -/
def execPkePairEcdh (hashIn : Bool) (slot : Fin 1024) (s : State) : Host.Outcome State Fault Refusal :=
  done s (settleWork s (regWrite 0x33 0x040 .bar0 (BitVec.ofNat 32 (pkeWord 5 hashIn slot.val)) s))

/-- PKE_DONE (R409). -/
def execPkeDone (ddrError fault : Bool) (s : State) : Host.Outcome State Fault Refusal :=
  done s (settleWork s (pkeDone ddrError fault s))

end Sys2Proof.Machine
end

