-- ==== Sys2Proof/Machine/DoDissem.lean ====
section
/-! DEFINITION. The commands of node image dissemination (R557 to R573). -/

namespace Sys2Proof.Machine

/-- DISSEM_SETUP (R559). -/
def execDissemSetup (campaign : Fin 16) (s : State) : Host.Outcome State Fault Refusal :=
  done s (settleWork s (regCommand 0x29 0x04C .bar0 (BitVec.ofNat 32 (0x100 + campaign.val)) (dissemSetup campaign.val) s))

/-- SETUP_DONE (R559). -/
def execSetupDone (ddrError : Bool) (s : State) : Host.Outcome State Fault Refusal :=
  done s (settleWork s (setupDone ddrError s))

/-- DISSEM_START (R562). -/
def execDissemStart (campaign : Fin 16) (s : State) : Host.Outcome State Fault Refusal :=
  done s (settleWork s (regCommand 0x29 0x04C .bar0 (BitVec.ofNat 32 (0x200 + campaign.val)) (dissemStart campaign.val) s))

/-- DISSEM_STOP (R568). -/
def execDissemStop (campaign : Fin 16) (s : State) : Host.Outcome State Fault Refusal :=
  done s (settleWork s (regCommand 0x29 0x04C .bar0 (BitVec.ofNat 32 (0x300 + campaign.val)) (dissemEnd campaign.val 3 .stopped) s))

/-- DISSEM_ABORT (R568). -/
def execDissemAbort (campaign : Fin 16) (s : State) : Host.Outcome State Fault Refusal :=
  done s (settleWork s (regCommand 0x29 0x04C .bar0 (BitVec.ofNat 32 (0x400 + campaign.val)) (dissemEnd campaign.val 4 .aborted) s))

/-- DISSEM_CLEAR (R570). -/
def execDissemClear (campaign : Fin 16) (s : State) : Host.Outcome State Fault Refusal :=
  done s (settleWork s (regCommand 0x29 0x04C .bar0 (BitVec.ofNat 32 (0x500 + campaign.val)) (dissemClear campaign.val) s))

/-- DISSEM_EXPORT (R570). -/
def execDissemExport (campaign : Fin 16) (ddrError : Bool) (s : State) : Host.Outcome State Fault Refusal :=
  done s (settleWork s (regCommand 0x29 0x04C .bar0 (BitVec.ofNat 32 (0x600 + campaign.val)) (dissemExport campaign.val ddrError) s))

/-- WINDOW_PLAN (R566). -/
def execWindowPlan (campaign : Fin 16) (logical : Fin 4) (s : State) : Host.Outcome State Fault Refusal :=
  done s (settleWork s (windowPlan campaign.val logical.val s))

/-- WINDOW_OPEN (R566). -/
def execWindowOpen (campaign : Fin 16) (logical : Fin 4) (sourceError : Bool) (s : State) : Host.Outcome State Fault Refusal :=
  done s (settleWork s (windowOpen campaign.val logical.val sourceError s))

/-- WINDOW_CLOSE (R567). -/
def execWindowClose (campaign : Fin 16) (logical : Fin 4) (s : State) : Host.Outcome State Fault Refusal :=
  done s (settleWork s (windowClose campaign.val logical.val s))

end Sys2Proof.Machine
end

