-- ==== Sys2Proof/Machine/DoEther.lean ====
section
/-! DEFINITION. The commands of the Ethernet ports and their modules (R422 to R445). -/

namespace Sys2Proof.Machine

/-- ETH_LINK_CHANGE (R422). -/
def execEthLinkChange (port : Fin 2) (los sync anDone fullDuplex remote partnerPause partnerAsm : Bool) (speed : Fin 4) (s : State) : Host.Outcome State Fault Refusal :=
  done s (settleWork s (ethLinkChange port.val los sync anDone fullDuplex remote partnerPause partnerAsm speed.val s))

/-- ETH_FRAME_END (R426). -/
def execEthFrameEnd (port : Fin 2) (size : Nat) (fcsOk codeError : Bool) (since stampAgo : Nat) (frame : EthFrame) (s : State) : Host.Outcome State Fault Refusal :=
  done s (settleWork s (ethFrameEnd port.val size fcsOk codeError since stampAgo frame s))

/-- PAUSE_TIMER_EXPIRY (R433). -/
def execPauseTimerExpiry (port : Fin 2) (s : State) : Host.Outcome State Fault Refusal :=
  done s (pauseTimerExpiry port.val s)

/-- EGRESS_OFFER (R431). -/
def execEgressOffer (port : Fin 2) (s : State) : Host.Outcome State Fault Refusal :=
  done s (settleWork s (egressOffer port.val s))

/-- EGRESS_FRAME_START (R430). -/
def execEgressFrameStart (port : Fin 2) (s : State) : Host.Outcome State Fault Refusal :=
  done s (settleWork s (egressFrameStart port.val s))

/-- EGRESS_FRAME_END (R430). -/
def execEgressFrameEnd (port : Fin 2) (s : State) : Host.Outcome State Fault Refusal :=
  done s (settleWork s (egressFrameEnd port.val s))

/-- EGRESS_HOLD_TIMEOUT (R431). -/
def execEgressHoldTimeout (port : Fin 2) (s : State) : Host.Outcome State Fault Refusal :=
  done s (settleWork s (egressHoldTimeout port.val s))

/-- BUFFER_HIGH (R435). -/
def execBufferHigh (port : Fin 2) (s : State) : Host.Outcome State Fault Refusal :=
  done s (bufferHigh port.val s)

/-- PAUSE_REPEAT (R435). -/
def execPauseRepeat (port : Fin 2) (s : State) : Host.Outcome State Fault Refusal :=
  done s (pauseRepeat port.val s)

/-- BUFFER_LOW (R435). -/
def execBufferLow (port : Fin 2) (s : State) : Host.Outcome State Fault Refusal :=
  done s (bufferLow port.val s)

/-- PAUSE_MAX_HOLD (R435). -/
def execPauseMaxHold (port : Fin 2) (s : State) : Host.Outcome State Fault Refusal :=
  done s (pauseMaxHold port.val s)

/-- SFP_MOD_ABS_CHANGE (R438). -/
def execSfpModAbsChange (port : Fin 2) (absent : Bool) (s : State) : Host.Outcome State Fault Refusal :=
  done s (settleWork s (sfpModAbs port.val absent s))

/-- SFP_ID_READ (R438). -/
def execSfpIdRead (port : Fin 2) (octets : List Byte) (s : State) : Host.Outcome State Fault Refusal :=
  done s (settleWork s (sfpIdRead port.val octets s))

/-- SFP_DDM_POLL (R438). -/
def execSfpDdmPoll (port : Fin 2) (octets : List Byte) (s : State) : Host.Outcome State Fault Refusal :=
  done s (sfpDdmPoll port.val octets s)

/-- SFP_LOS_CHANGE (R438). -/
def execSfpLosChange (port : Fin 2) (level : Bool) (s : State) : Host.Outcome State Fault Refusal :=
  done s (settleWork s (sfpLos port.val level s))

/-- SFP_ACCESS (R439). -/
def execSfpAccess (port : Fin 2) (data : Word) (s : State) : Host.Outcome State Fault Refusal :=
  done s (regWrite (0x38 + port.val) 0x0CC .bar0 data s)

/-- SFP_ACCESS_DONE (R439). -/
def execSfpAccessDone (port : Fin 2) (nack timeout : Bool) (octet : Byte) (s : State) : Host.Outcome State Fault Refusal :=
  done s (sfpAccessDone port.val nack timeout octet s)

/-- SFP_NACK_RETRY (R437). -/
def execSfpNackRetry (port : Fin 2) (s : State) : Host.Outcome State Fault Refusal :=
  done s (sfpNackRetry port.val s)

/-- ETH_OCTET_LO_READ (R443). -/
def execEthOctetLoRead (route : Route) (port : Fin 2) (tx : Bool) (s : State) : Host.Outcome State Fault Refusal :=
  done s (ethOctetLoRead route port.val tx s)

/-- RMON_LO_READ (R444). -/
def execRmonLoRead (route : Route) (port : Fin 2) (counter : Fin 39) (s : State) : Host.Outcome State Fault Refusal :=
  done s (rmonLoRead route port.val counter.val s)

end Sys2Proof.Machine
end

