-- ==== Sys2Proof/Machine/DoFirmware.lean ====
section
/-! DEFINITION. The commands of the controller's own firmware (R533 to R556). -/

namespace Sys2Proof.Machine

/-- FWUP_INSTALL (R540). -/
def execFwupInstall (s : State) : Host.Outcome State Fault Refusal :=
  done s (settleWork s (regWrite 0x48 0x040 .bar0 1 s))

/-- INSTALL_DONE (R540). -/
def execInstallDone (failures : Nat) (erase : Bool) (s : State) : Host.Outcome State Fault Refusal :=
  done s (settleWork s (installDone failures erase s))

/-- FWUP_ACTIVATE_LIVE (R542). -/
def execFwupActivateLive (readBack : Bool) (s : State) : Host.Outcome State Fault Refusal :=
  done s (settleWork s (regCommand 0x48 0x040 .bar0 2 (fwActivateLive readBack) s))

/-- LIVE_EPOCH_HANDOVER (R542). -/
def execLiveEpochHandover (pauseUs : Nat) (s : State) : Host.Outcome State Fault Refusal :=
  done s (settleWork s (liveHandover pauseUs s))

/-- FWUP_ACTIVATE_AT_RESET (R541). -/
def execFwupActivateAtReset (s : State) : Host.Outcome State Fault Refusal :=
  done s (settleWork s (regWrite 0x48 0x040 .bar0 3 s))

/-- FWUP_CONFIRM (R551). -/
def execFwupConfirm (s : State) : Host.Outcome State Fault Refusal :=
  done s (settleWork s (regWrite 0x48 0x040 .bar0 4 s))

/-- FWUP_REVERT (R553). -/
def execFwupRevert (s : State) : Host.Outcome State Fault Refusal :=
  done s (settleWork s (regWrite 0x48 0x040 .bar0 5 s))

/-- FWUP_STORE_PROFILE (R548). -/
def execFwupStoreProfile (run : SectorRun) (s : State) : Host.Outcome State Fault Refusal :=
  done s (settleWork s (regCommand 0x48 0x040 .bar0 6 (fwStoreProfile run) s))

/-- OWNER_COSIGN_WRITE (R555). -/
def execOwnerCosignWrite (s : State) : Host.Outcome State Fault Refusal :=
  done s (settleWork s (regWrite 0x48 0x074 .bar0 1 s))

/-- HANDOVER_RECORD (R544). -/
def execHandoverRecord (s : State) : Host.Outcome State Fault Refusal :=
  done s (handoverRecord s)

/-- SUPERVISOR_CORE_FAULT (R544). -/
def execSupervisorCoreFault (core : Fin 2) (pauseUs : Nat) (s : State) : Host.Outcome State Fault Refusal :=
  done s (settleWork s (coreFault core.val pauseUs s))

/-- CORE_RELOAD_DONE (R544). -/
def execCoreReloadDone (passed : Bool) (s : State) : Host.Outcome State Fault Refusal :=
  done s (settleWork s (coreReload passed s))

/-- TRIAL_EXPIRY (R551). -/
def execTrialExpiry (s : State) : Host.Outcome State Fault Refusal :=
  done s (trialExpiry s)

/-- TRIAL_RECORD_REWRITE (R534). -/
def execTrialRecordRewrite (s : State) : Host.Outcome State Fault Refusal :=
  done s (settleWork s (trialRewrite s))

/-- MICROCODE_LOAD_DONE (R546). -/
def execMicrocodeLoadDone (lane : Fin 136) (s : State) : Host.Outcome State Fault Refusal :=
  done s (settleWork s (microcodeLoaded lane.val s))

end Sys2Proof.Machine
end

