-- ==== Sys2Proof/Machine/DoForward.lean ====
section
/-! DEFINITION. The commands of forwarding, reassembly and airtime scheduling (R299 to R353, R427). -/

namespace Sys2Proof.Machine

/-- ETH_FRAME_HAND_ON (R427). -/
def execEthFrameHandOn (port : Fin 2) (s : State) : Host.Outcome State Fault Refusal :=
  done s (settleWork s (ethHandOn port.val s))

/-- PENDING_TIMEOUT_CHECK (R311). -/
def execPendingTimeoutCheck (s : State) : Host.Outcome State Fault Refusal :=
  done s (settleWork s (pendingTimeouts s))

/-- REASSEMBLY_TIMEOUT (R314). -/
def execReassemblyTimeout (s : State) : Host.Outcome State Fault Refusal :=
  done s (settleWork s (reasmTimeout s))

/-- SCHED_SELECTION (R326). -/
def execSchedSelection (logical : Fin 4) (s : State) : Host.Outcome State Fault Refusal :=
  done s (settleWork s (select logical.val s))

/-- BUCKET_REFILL (R328). -/
def execBucketRefill (s : State) : Host.Outcome State Fault Refusal :=
  done s ((fun s => (List.range 4).foldl (fun s n => refill n s) s) s)

/-- HORIZON_EXPIRY (R339). -/
def execHorizonExpiry (logical : Fin 4) (s : State) : Host.Outcome State Fault Refusal :=
  done s (settleWork s (endHorizons logical.val s))

/-- FRAME_ENTER_RX_TX (R336). -/
def execFrameEnterRxTx (logical : Fin 4) (s : State) : Host.Outcome State Fault Refusal :=
  done s (settleWork s (enterRxTxFrame logical.val s))

/-- LBT_BACKOFF_EXPIRY (R333). -/
def execLbtBackoffExpiry (logical : Fin 4) (queue : Fin 16) (s : State) : Host.Outcome State Fault Refusal :=
  done s (backoffExpiry logical.val queue.val s)

/-- LBT_RETEST (R333). -/
def execLbtRetest (logical : Fin 4) (s : State) : Host.Outcome State Fault Refusal :=
  done s (settleWork s (lbtRetest logical.val s))

/-- SLIP_EXPIRY (R338). -/
def execSlipExpiry (logical : Fin 4) (s : State) : Host.Outcome State Fault Refusal :=
  done s (settleWork s (slipNow logical.val s))

/-- DWELL_RUN_CLOSE (R332). -/
def execDwellRunClose (logical : Fin 4) (hz : Nat) (s : State) : Host.Outcome State Fault Refusal :=
  done s (dwellClose logical.val hz s)

end Sys2Proof.Machine
end

