-- ==== Sys2Proof/Machine/DoHost.lean ====
section
/-! DEFINITION. The commands of the host interface, its rings and notices (R473 to R510). -/

namespace Sys2Proof.Machine

/-- PCIE_FUNCTION_RESET (R477). -/
def execPcieFunctionReset (perst : Bool) (s : State) : Host.Outcome State Fault Refusal :=
  done s (settleWork s (functionReset perst s))

/-- PCIE_CONFIG_READY (R477). -/
def execPcieConfigReady (s : State) : Host.Outcome State Fault Refusal :=
  done s (configReady s)

/-- PCIE_LINK (R481). -/
def execPcieLink (up : Bool) (speed width : Nat) (busMaster : Bool) (s : State) : Host.Outcome State Fault Refusal :=
  done s (settleWork s (pcieLink up speed width busMaster s))

/-- BAR2_ACCESS (R479). -/
def execBar2Access (access : Bar2) (ecc : Ecc) (s : State) : Host.Outcome State Fault Refusal :=
  done s (settleWork s (bar2 access ecc s))

/-- COPY_TO_HOST (R482). -/
def execCopyToHost (s : State) : Host.Outcome State Fault Refusal :=
  done s (settleWork s (regWrite 0x40 0x070 .bar0 1 s))

/-- COPY_FROM_HOST (R482). -/
def execCopyFromHost (s : State) : Host.Outcome State Fault Refusal :=
  done s (settleWork s (regWrite 0x40 0x070 .bar0 2 s))

/-- COPY_CPL_TIMEOUT (R482). -/
def execCopyCplTimeout (octets : List Byte) (moved : Nat) (s : State) : Host.Outcome State Fault Refusal :=
  done s (settleWork s (copyTimeout octets moved s))

/-- COPY_DONE (R482). -/
def execCopyDone (how : CopyHow) (octets : List Byte) (moved : Nat) (s : State) : Host.Outcome State Fault Refusal :=
  done s (settleWork s (copyDone how octets moved s))

/-- RING_ENABLE (R484). -/
def execRingEnable (ring : Fin 32) (s : State) : Host.Outcome State Fault Refusal :=
  done s (settleWork s ((fun s => regWrite 0x41 (0x100 + 0x20 * ring.val) .bar0 (BitVec.ofNat 32 (wordRead 0x41 (0x100 + 0x20 * ring.val) .bar0 s ||| 1)) s) s))

/-- RING_HAND_OVER (R493). -/
def execRingHandOver (ecc : Bool) (s : State) : Host.Outcome State Fault Refusal :=
  done s (settleWork s (ringHandOver ecc s))

/-- RING_FILL_DONE (R492). -/
def execRingFillDone (ring : Fin 32) (payload : List Byte) (s : State) : Host.Outcome State Fault Refusal :=
  done s (settleWork s (ringFillDone ring.val payload s))

/-- RING_TIMEOUT (R493). -/
def execRingTimeout (ring : Fin 32) (s : State) : Host.Outcome State Fault Refusal :=
  done s (settleWork s (ringTimeout ring.val s))

/-- HOST_TALLY_WRITE (R490). -/
def execHostTallyWrite (ring : Fin 32) (slot : Nat) (octets : List (Option Byte)) (s : State) : Host.Outcome State Fault Refusal :=
  done s (settleWork s (hostTallyWrite ring.val slot octets s))

/-- TX_SLOT_TAKE (R495). -/
def execTxSlotTake (ring : Fin 32) (lost : SlotLoss) (s : State) : Host.Outcome State Fault Refusal :=
  done s (settleWork s (txSlotTake ring.val lost s))

/-- NOTICE_POP (R502). -/
def execNoticePop (s : State) : Host.Outcome State Fault Refusal :=
  done s (regRead 0x4C 0x080 .bar0 s)

/-- HOSTIF_WARM_RESET (R503). -/
def execHostifWarmReset (s : State) : Host.Outcome State Fault Refusal :=
  done s (settleWork s (regWrite 0x40 0x058 .bar0 0xC3A5 s))

end Sys2Proof.Machine
end

