-- ==== Sys2Proof/Machine/DoKeys.lean ====
section
/-! DEFINITION. The commands of the root, the trusted window and the key slots (R354 to R398). -/

namespace Sys2Proof.Machine

/-- PUF_AUTO_REFRESH (R359). -/
def execPufAutoRefresh (pairs disagree : BitVec 1024) (read : PufRead) (flashError : Bool) (s : State) : Host.Outcome State Fault Refusal :=
  done s (settleWork s (pufAutoRefresh pairs.toNat disagree.toNat read flashError s))

/-- PUF_ENROL (R355). -/
def execPufEnrol (entropyOk : Bool) (pairs : BitVec 1024) (read : PufRead) (flashError : Bool) (s : State) : Host.Outcome State Fault Refusal :=
  done s (settleWork s (bar4Command 0x3000 1 (pufEnrol entropyOk pairs.toNat read flashError) s))

/-- PUF_REFRESH (R359). -/
def execPufRefresh (pairs disagree : BitVec 1024) (read : PufRead) (flashError : Bool) (s : State) : Host.Outcome State Fault Refusal :=
  done s (settleWork s (bar4Command 0x3000 2 (pufRefresh pairs.toNat disagree.toNat read flashError) s))

/-- PUF_SWAP (R360). -/
def execPufSwap (out into : Fin 4) (read : PufRead) (flashError : Bool) (s : State) : Host.Outcome State Fault Refusal :=
  done s (settleWork s (bar4Command 0x3000 (3 + out.val * 2 ^ 8 + into.val * 2 ^ 12) (pufSwap out.val into.val read flashError) s))

/-- PUF_RESEAL (R365). -/
def execPufReseal (entropyOk : Bool) (read : PufRead) (flashError : Bool) (s : State) : Host.Outcome State Fault Refusal :=
  done s (settleWork s (bar4Command 0x3000 4 (pufReseal entropyOk read flashError) s))

/-- LC_TRANSITION (R390). -/
def execLcTransition (target : Fin 8) (withSeal flashError : Bool) (s : State) : Host.Outcome State Fault Refusal :=
  done s (settleWork s (bar4Command 0x2000 (lcWord target.val withSeal false) (lcTransition target.val withSeal flashError) s))

/-- LC_SEAL (R366). -/
def execLcSeal (flashError : Bool) (s : State) : Host.Outcome State Fault Refusal :=
  done s (settleWork s (bar4Command 0x2000 (lcWord 0 true false) (lcSeal flashError) s))

/-- LC_EXIT (R635). -/
def execLcExit (s : State) : Host.Outcome State Fault Refusal :=
  done s (settleWork s (bar4Command 0x2000 (lcWord 0 false true) lcExit s))

/-- TRUST_UNLOCK (R376). -/
def execTrustUnlock (s : State) : Host.Outcome State Fault Refusal :=
  done s (settleWork s (bar4Write 0x0024 0xF 1 s))

/-- TRUST_CLOSE (R375). -/
def execTrustClose (s : State) : Host.Outcome State Fault Refusal :=
  done s (settleWork s (bar4Write 0x0024 0xF 2 s))

/-- TRUST_DURATION_EXPIRY (R375). -/
def execTrustDurationExpiry (s : State) : Host.Outcome State Fault Refusal :=
  done s (settleWork s (trustExpiry s))

/-- KEY_LOAD (R378). -/
def execKeyLoad (slot : Fin 1024) (s : State) : Host.Outcome State Fault Refusal :=
  done s (settleWork s (keyLoad slot.val s))

/-- KEY_UNWRAP_LOAD (R378). -/
def execKeyUnwrapLoad (slot : Fin 1024) (s : State) : Host.Outcome State Fault Refusal :=
  done s (settleWork s (keyUnwrapLoad slot.val s))

/-- KEY_DERIVE (R369). -/
def execKeyDerive (slot : Fin 1024) (labelLen contextLen : Fin 32) (s : State) : Host.Outcome State Fault Refusal :=
  done s (settleWork s (keyDerive slot.val labelLen.val contextLen.val s))

/-- KEY_ERASE (R378). -/
def execKeyErase (slot : Fin 1024) (forget : Bool) (s : State) : Host.Outcome State Fault Refusal :=
  done s (settleWork s (keyErase slot.val forget s))

/-- KEY_EXPORT (R379). -/
def execKeyExport (slot : Fin 1024) (ddrError : Bool) (s : State) : Host.Outcome State Fault Refusal :=
  done s (settleWork s (keyExport slot.val ddrError s))

/-- KEY_IMPORT (R379). -/
def execKeyImport (slot : Fin 1024) (ddrError : Bool) (s : State) : Host.Outcome State Fault Refusal :=
  done s (settleWork s (keyImport slot.val ddrError s))

/-- KEY_WRAP_OUT (R379). -/
def execKeyWrapOut (slot : Fin 1024) (ddrError : Bool) (s : State) : Host.Outcome State Fault Refusal :=
  done s (settleWork s (keyWrapOut slot.val ddrError s))

/-- KEY_OP_DONE (R378). -/
def execKeyOpDone (durable : Bool) (s : State) : Host.Outcome State Fault Refusal :=
  done s (settleWork s (keyOpDone durable s))

/-- CACHE_FLUSH_DONE (R383). -/
def execCacheFlushDone (slot : Fin 1024) (s : State) : Host.Outcome State Fault Refusal :=
  done s (settleWork s (cacheFlushDone slot.val s))

/-- JOURNAL_WRITE_DONE (R386). -/
def execJournalWriteDone (slot : Fin 1024) (ok : Bool) (s : State) : Host.Outcome State Fault Refusal :=
  done s (settleWork s (journalWriteDone slot.val ok s))

end Sys2Proof.Machine
end

