-- ==== Sys2Proof/Machine/DoLanes.lean ====
section
/-! DEFINITION. The commands of the wideband receive lanes and the PHY (R154 to R224). -/

namespace Sys2Proof.Machine

/-- BIN_ENERGY_UPDATE (R154). -/
def execBinEnergyUpdate (fe : Fin 4) (bins : List (Nat × Int)) (s : State) : Host.Outcome State Fault Refusal :=
  done s (energyUpdate fe.val bins s)

/-- DETECTION (R157). -/
def execDetection (fe : Fin 4) (set : Fin 8) (channel metric : Nat) (rssi freq : Int) (window : Nat) (s : State) : Host.Outcome State Fault Refusal :=
  done s (settleWork s (detect fe.val set.val channel metric rssi freq window false s))

/-- DETECTION_REOFFER (R159). -/
def execDetectionReoffer (fe : Fin 4) (set : Fin 8) (channel metric : Nat) (rssi freq : Int) (window : Nat) (s : State) : Host.Outcome State Fault Refusal :=
  done s (settleWork s (detect fe.val set.val channel metric rssi freq window true s))

/-- LANE_WAKE_DONE (R166). -/
def execLaneWakeDone (lane : Fin 136) (s : State) : Host.Outcome State Fault Refusal :=
  done s (settleWork s (laneAwake lane.val s))

/-- PREAMBLE_LOSS (R167). -/
def execPreambleLoss (lane : Fin 136) (s : State) : Host.Outcome State Fault Refusal :=
  done s (settleWork s (preambleLoss lane.val s))

/-- SEARCH_MAX_EXPIRY (R167). -/
def execSearchMaxExpiry (lane : Fin 136) (s : State) : Host.Outcome State Fault Refusal :=
  done s (settleWork s (searchExpiry lane.val s))

/-- SYNC_MATCH (R202). -/
def execSyncMatch (lane : Fin 136) (last : BitVec 32) (residualHz : Int) (sfdErrors : Nat × Nat) (s : State) :
    Host.Outcome State Fault Refusal :=
  done s (settleWork s (syncMatch lane.val last residualHz sfdErrors s))

/-- PHR_COMPLETE (R207). -/
def execPhrComplete (lane : Fin 136) (phr : Phr) (s : State) : Host.Outcome State Fault Refusal :=
  done s (settleWork s (phrComplete lane.val phr s))

/-- LAST_SYMBOL (R167). -/
def execLastSymbol (lane : Fin 136) (s : State) : Host.Outcome State Fault Refusal :=
  done s (settleWork s (lastSymbol lane.val s))

/-- GAIN_STEP_DOWN (R173). -/
def execGainStepDown (fe : Fin 4) (s : State) : Host.Outcome State Fault Refusal :=
  done s (settleWork s (gainDown fe.val s))

/-- GAIN_STEP_UP (R173). -/
def execGainStepUp (fe : Fin 4) (s : State) : Host.Outcome State Fault Refusal :=
  done s (settleWork s (gainUp fe.val s))

/-- FORCED_GAIN_STEP (R174). -/
def execForcedGainStep (fe : Fin 4) (s : State) : Host.Outcome State Fault Refusal :=
  done s (settleWork s (forcedStep fe.val s))

/-- GAIN_RECOVERY (R176). -/
def execGainRecovery (fe : Fin 4) (s : State) : Host.Outcome State Fault Refusal :=
  done s (settleWork s (gainRecovery fe.val s))

/-- GAIN_RECOVERY_END (R176). -/
def execGainRecoveryEnd (fe : Fin 4) (s : State) : Host.Outcome State Fault Refusal :=
  done s (settleWork s (gainRecovered fe.val s))

/-- CAPTURE_FIFO_PUSH (R183). -/
def execCaptureFifoPush (lane : Fin 136) (drain last : Bool) (s : State) : Host.Outcome State Fault Refusal :=
  done s (settleWork s (capturePush lane.val drain last s))

/-- LANE_WATCHDOG (R185). -/
def execLaneWatchdog (lane : Fin 136) (s : State) : Host.Outcome State Fault Refusal :=
  done s (settleWork s (laneWatchdog lane.val s))

/-- LANE_FAULT (R186). -/
def execLaneFault (lane : Fin 136) (parity : Bool) (s : State) : Host.Outcome State Fault Refusal :=
  done s (settleWork s (laneFault lane.val parity s))

/-- LANE_TEST_DONE (R186). -/
def execLaneTestDone (lane : Fin 136) (passed : Bool) (s : State) : Host.Outcome State Fault Refusal :=
  done s (settleWork s (laneTested lane.val passed s))

/-- LANE_SELFCHECK (R188). -/
def execLaneSelfcheck (lane : Fin 136) (passed : Bool) (s : State) : Host.Outcome State Fault Refusal :=
  done s (settleWork s (laneSelfcheck lane.val passed s))

/-- TX_MOD_FAULT (R216). -/
def execTxModFault (fe : Fin 4) (parity : Bool) (s : State) : Host.Outcome State Fault Refusal :=
  done s (settleWork s (txModFault fe.val parity s))

end Sys2Proof.Machine
end

