-- ==== Sys2Proof/Machine/DoMac.lean ====
section
/-! DEFINITION. The commands of the air MAC, polling and beacons (R225 to R263). -/

namespace Sys2Proof.Machine

/-- MHR_COMPLETE (R227). -/
def execMhrComplete (lane : Fin 136) (mhr : Mhr) (find : Parity) (s : State) : Host.Outcome State Fault Refusal :=
  done s (settleWork s (mhrComplete lane.val mhr find s))

/-- AUX_SECURITY_HEADER (R228). -/
def execAuxSecurityHeader (lane : Fin 136) (level : Nat) (suppressed : Bool) (kim keyIndex counter : Nat) (s : State) : Host.Outcome State Fault Refusal :=
  done s (settleWork s (auxHeader lane.val level suppressed kim keyIndex counter s))

/-- KEY_READY (R232). -/
def execKeyReady (lane : Fin 136) (s : State) : Host.Outcome State Fault Refusal :=
  done s (settleWork s (keyReady lane.val s))

/-- FRAME_VERDICT (R228). -/
def execFrameVerdict (lane : Fin 136) (fcsOk micOk : Bool) (figs : Figures) (body : Body) (s : State) : Host.Outcome State Fault Refusal :=
  done s (settleWork s (frameVerdict lane.val fcsOk micOk figs body s))

/-- POLL_FETCH (R242). -/
def execPollFetch (fe : Fin 4) (late : Bool) (s : State) : Host.Outcome State Fault Refusal :=
  done s (settleWork s (pollFetch fe.val late s))

/-- ACK_VERDICT (R244). -/
def execAckVerdict (lane : Fin 136) (fcsOk micOk : Bool) (s : State) : Host.Outcome State Fault Refusal :=
  done s (settleWork s (ackVerdict lane.val fcsOk micOk s))

/-- ACK_WAIT_EXPIRY (R244). -/
def execAckWaitExpiry (fe : Fin 4) (s : State) : Host.Outcome State Fault Refusal :=
  done s (settleWork s (ackWaitExpiry fe.val s))

/-- APPT_CHECK (R246). -/
def execApptCheck (node : Fin 262144) (s : State) : Host.Outcome State Fault Refusal :=
  done s (settleWork s (apptCheck node.val s))

/-- BEACON_DUE (R251). -/
def execBeaconDue (track : Fin 8) (s : State) : Host.Outcome State Fault Refusal :=
  done s (settleWork s (beaconDue track.val s))

/-- PEER_BEACON (R254). -/
def execPeerBeacon (lane : Fin 136) (fcsOk micOk : Bool) (figs : Figures) (ies : List (List Byte)) (s : State) : Host.Outcome State Fault Refusal :=
  done s (settleWork s (peerBeacon lane.val fcsOk micOk figs ies s))

/-- PEER_MISS (R255). -/
def execPeerMiss (peer : Fin 32) (s : State) : Host.Outcome State Fault Refusal :=
  done s (settleWork s (peerMiss peer.val s))

end Sys2Proof.Machine
end

