-- ==== Sys2Proof/Machine/DoMemory.lean ====
section
/-! DEFINITION. The commands of memory integrity (R511 to R532). -/

namespace Sys2Proof.Machine

/-- DDR_ALERT (R515). -/
def execDdrAlert (addr : Fin 17179869184) (again : Bool) (s : State) : Host.Outcome State Fault Refusal :=
  done s (settleWork s (ddrAlert addr.val again s))

/-- SRAM_SCRUB_PASS (R518). -/
def execSramScrubPass (finds : List SramFind) (s : State) : Host.Outcome State Fault Refusal :=
  done s (settleWork s (sramScrub finds s))

/-- DDR_SCRUB (R518). -/
def execDdrScrub (ecc : Ecc) (s : State) : Host.Outcome State Fault Refusal :=
  done s (settleWork s (ddrScrub ecc s))

/-- FILL_CHUNK_DONE (R521). -/
def execFillChunkDone (s : State) : Host.Outcome State Fault Refusal :=
  done s (settleWork s (fillChunkDone s))

/-- DDR_TRAINING_DONE (R530). -/
def execDdrTrainingDone (ok : Bool) (sizeGib : Nat) (twoRanks : Bool) (s : State) : Host.Outcome State Fault Refusal :=
  done s (settleWork s (ddrTrained ok (max 2 (min 16 sizeGib)) twoRanks s))

/-- TEST_WRITE (R526). -/
def execTestWrite (route : Route) (s : State) : Host.Outcome State Fault Refusal :=
  done s (settleWork s (regWrite 0x46 0x094 route 1 s))

/-- TEST_FLIP_DATA (R526). -/
def execTestFlipData (route : Route) (s : State) : Host.Outcome State Fault Refusal :=
  done s (settleWork s (regWrite 0x46 0x094 route 2 s))

/-- TEST_FLIP_CHECK (R526). -/
def execTestFlipCheck (route : Route) (s : State) : Host.Outcome State Fault Refusal :=
  done s (settleWork s (regWrite 0x46 0x094 route 3 s))

/-- TEST_READ (R526). -/
def execTestRead (route : Route) (s : State) : Host.Outcome State Fault Refusal :=
  done s (settleWork s (regWrite 0x46 0x094 route 4 s))

/-- TEST_READ_RAW (R526). -/
def execTestReadRaw (route : Route) (s : State) : Host.Outcome State Fault Refusal :=
  done s (settleWork s (regWrite 0x46 0x094 route 5 s))

/-- FLASH_TIMEOUT (R523). -/
def execFlashTimeout (sector : Nat) (s : State) : Host.Outcome State Fault Refusal :=
  done s (flashTimeout sector s)

end Sys2Proof.Machine
end

