-- ==== Sys2Proof/Machine/DoNodes.lean ====
section
/-! DEFINITION. The commands of the node table and paths (R264 to R296). -/

namespace Sys2Proof.Machine

/-- SWEEPER_VISIT (R277). -/
def execSweeperVisit (s : State) : Host.Outcome State Fault Refusal :=
  done s (settleWork s (sweeperVisit s))

/-- PATH_REREAD (R271). -/
def execPathReread (s : State) : Host.Outcome State Fault Refusal :=
  done s (settleWork s (pathReread s))

/-- WINDOW_WRITE (R284). -/
def execWindowWrite (off : Fin 8388608) (complete : Bool) (words : List Word) (s : State) : Host.Outcome State Fault Refusal :=
  done s (settleWork s (windowWrite off.val complete (words.take ((8388608 - off.val) / 4)) s))

/-- NODE_READ (R287). -/
def execNodeRead (index : Fin 262144) (find : NodeFind) (s : State) : Host.Outcome State Fault Refusal :=
  done s (settleWork s (regCommand 0x20 0x054 .bar0 (BitVec.ofNat 32 (index.val + 1 * 2 ^ 24)) (nodeRead index.val find) s))

/-- NODE_ADMIT (R287). -/
def execNodeAdmit (index : Fin 262144) (find : NodeFind) (s : State) : Host.Outcome State Fault Refusal :=
  done s (settleWork s (regCommand 0x20 0x054 .bar0 (BitVec.ofNat 32 (index.val + 2 * 2 ^ 24)) (nodeAdmit index.val find) s))

/-- NODE_UPDATE (R287). -/
def execNodeUpdate (index : Fin 262144) (find : NodeFind) (s : State) : Host.Outcome State Fault Refusal :=
  done s (settleWork s (regCommand 0x20 0x054 .bar0 (BitVec.ofNat 32 (index.val + 3 * 2 ^ 24)) (nodeUpdate index.val find) s))

/-- NODE_REMOVE (R289). -/
def execNodeRemove (index : Fin 262144) (find : NodeFind) (s : State) : Host.Outcome State Fault Refusal :=
  done s (settleWork s (regCommand 0x20 0x054 .bar0 (BitVec.ofNat 32 (index.val + 4 * 2 ^ 24)) (nodeRemove index.val find) s))

/-- NODE_PIN (R287). -/
def execNodePin (index : Fin 262144) (find : NodeFind) (s : State) : Host.Outcome State Fault Refusal :=
  done s (settleWork s (regCommand 0x20 0x054 .bar0 (BitVec.ofNat 32 (index.val + 5 * 2 ^ 24)) (nodePin index.val find) s))

/-- NODE_UNPIN (R287). -/
def execNodeUnpin (index : Fin 262144) (s : State) : Host.Outcome State Fault Refusal :=
  done s (settleWork s (regCommand 0x20 0x054 .bar0 (BitVec.ofNat 32 (index.val + 6 * 2 ^ 24)) (nodeUnpin index.val) s))

/-- NODE_SCAN_ADVANCE (R294). -/
def execNodeScanAdvance (s : State) : Host.Outcome State Fault Refusal :=
  done s (regRead 0x20 0x21C .mgmtSpi s)

/-- KEYS_SCAN_ADVANCE (R392). -/
def execKeysScanAdvance (s : State) : Host.Outcome State Fault Refusal :=
  done s (regRead 0x30 0x06C .mgmtSpi s)

end Sys2Proof.Machine
end

