-- ==== Sys2Proof/Machine/DoPages.lean ====
section
/-! DEFINITION. The commands of register pages, events and the management interfaces (R73 to R100). -/

namespace Sys2Proof.Machine

/-- REGISTER_WRITE (R76). -/
def execRegisterWrite (bar : Bar) (addr : Nat) (byteEn : BitVec 4) (data : Word) (s : State) : Host.Outcome State Fault Refusal :=
  done s (settleWork s (busWrite bar addr byteEn data s))

/-- RC_COUNTER_READ (R9). -/
def execRcCounterRead (route : Route) (span : ReadSpan) (s : State) : Host.Outcome State Fault Refusal :=
  done s (spanRead route span s)

/-- CTRL_ENABLE (R81). -/
def execCtrlEnable (pg : Nat) (route : Route) (s : State) : Host.Outcome State Fault Refusal :=
  done s (settleWork s (ctrlWrite pg route 1 s))

/-- CTRL_DISABLE (R81). -/
def execCtrlDisable (pg : Nat) (route : Route) (s : State) : Host.Outcome State Fault Refusal :=
  done s (settleWork s (ctrlWrite pg route 0 s))

/-- FORCE_STOP (R81). -/
def execForceStop (pg : Nat) (route : Route) (keep : Bool) (s : State) : Host.Outcome State Fault Refusal :=
  done s (settleWork s ((fun s => ctrlWrite pg route (2 + (if keep then enableBit pg s else 0)) s) s))

/-- SELF_TEST_REQ (R84). -/
def execSelfTestReq (pg : Nat) (route : Route) (s : State) : Host.Outcome State Fault Refusal :=
  done s (settleWork s ((fun s => ctrlWrite pg route (4 + enableBit pg s) s) s))

/-- CTRL_LOCK (R79). -/
def execCtrlLock (pg : Nat) (route : Route) (s : State) : Host.Outcome State Fault Refusal :=
  done s (settleWork s ((fun s => ctrlWrite pg route (8 + enableBit pg s) s) s))

/-- START_SEQUENCE_DONE (R81). -/
def execStartSequenceDone (pg : Nat) (failure : Option Byte) (s : State) : Host.Outcome State Fault Refusal :=
  if isPage pg then done s (settleWork s (startDone pg failure s)) else .fault .noSuchPage

/-- DRAIN_COMPLETE (R81). -/
def execDrainComplete (pg : Nat) (s : State) : Host.Outcome State Fault Refusal :=
  if isPage pg then done s (settleWork s (drainDone pg s)) else .fault .noSuchPage

/-- BLOCK_FAULT (R81). -/
def execBlockFault (pg : Nat) (s : State) : Host.Outcome State Fault Refusal :=
  if isPage pg then done s (settleWork s (blockFaulted pg s)) else .fault .noSuchPage

/-- SELF_TEST_DONE (R84). -/
def execSelfTestDone (pg : Nat) (failure : Option Byte) (s : State) : Host.Outcome State Fault Refusal :=
  if isPage pg then done s (settleWork s (selfTestDone pg failure s)) else .fault .noSuchPage

/-- SELF_TEST_WAIT_EXPIRY (R84). -/
def execSelfTestWaitExpiry (pg : Nat) (s : State) : Host.Outcome State Fault Refusal :=
  if isPage pg then done s (settleWork s (selfTestExpiry pg s)) else .fault .noSuchPage

/-- EVT_FORCE (R96). -/
def execEvtForce (pg : Nat) (route : Route) (bits : Word) (s : State) : Host.Outcome State Fault Refusal :=
  done s (evtForce pg route bits s)

/-- HOLDOFF_EXPIRY (R99). -/
def execHoldoffExpiry (vec : Fin 32) (s : State) : Host.Outcome State Fault Refusal :=
  done s (holdoffExpiry vec.val s)

/-- MSIX_UNMASK (R99). -/
def execMsixUnmask (vec : Option (Fin 32)) (s : State) : Host.Outcome State Fault Refusal :=
  done s (msixUnmask (vec.map Fin.val) s)

/-- MSIX_ENABLE (R99). -/
def execMsixEnable (control : MsixControl) (s : State) : Host.Outcome State Fault Refusal :=
  done s (msixEnable control.enable control.funcMask control.busMaster s)

/-- MGMT_ACK (R100). -/
def execMgmtAck (group : Fin 8) (bits : Word) (s : State) : Host.Outcome State Fault Refusal :=
  done s (regWrite 0x04 (0x0A0 + 4 * group.val) .bar0 bits s)

/-- MGMT_SPI_READ (R91). -/
def execMgmtSpiRead (mode3 : Bool) (addr : Nat) (words : Nat) (s : State) : Host.Outcome State Fault Refusal :=
  done s (spiRead mode3 addr words s)

/-- MGMT_SPI_WRITE (R91). -/
def execMgmtSpiWrite (mode3 : Bool) (addr : Nat) (data : List Word) (s : State) : Host.Outcome State Fault Refusal :=
  done s (settleWork s (spiWrite mode3 addr data s))

/-- MGMT_SPI_STATUS (R91). -/
def execMgmtSpiStatus (mode3 : Bool) (s : State) : Host.Outcome State Fault Refusal :=
  done s (spiStatus mode3 s)

/-- QUAD_ON (R91). -/
def execQuadOn (mode3 : Bool) (s : State) : Host.Outcome State Fault Refusal :=
  done s (quadOn mode3 s)

/-- QUAD_OFF (R91). -/
def execQuadOff (mode3 : Bool) (s : State) : Host.Outcome State Fault Refusal :=
  done s (quadOff mode3 s)

/-- MGMT_SPI_CS_RISE (R91). -/
def execMgmtSpiCsRise (partialBits : Nat) (s : State) : Host.Outcome State Fault Refusal :=
  done s (spiEnd partialBits s)

/-- GPIO_EDGE (R93). -/
def execGpioEdge (ball : Fin 16) (level : Bool) (s : State) : Host.Outcome State Fault Refusal :=
  done s (gpioEdge ball.val level s)

/-- I2C1_CMD (R94). -/
def execI2c1Cmd (route : Route) (data : Word) (s : State) : Host.Outcome State Fault Refusal :=
  done s (i2cCmd route data s)

/-- I2C1_DONE (R94). -/
def execI2c1Done (nack : Bool) (octet : Byte) (s : State) : Host.Outcome State Fault Refusal :=
  done s (i2cDone nack octet s)

/-- I2C1_TIMEOUT (R94). -/
def execI2c1Timeout (s : State) : Host.Outcome State Fault Refusal :=
  done s (i2cTimeout s)

/-- EXTEST (R95). -/
def execExtest (s : State) : Host.Outcome State Fault Refusal :=
  done s (jtagDrive .extest s)

/-- IDCODE (R95). -/
def execIdcode (s : State) : Host.Outcome State Fault Refusal :=
  done s (jtagSelect .idcode s)

/-- SAMPLE_PRELOAD (R95). -/
def execSamplePreload (boundary : Nat) (s : State) : Host.Outcome State Fault Refusal :=
  done s (jtagLoad boundary s)

/-- CLAMP (R95). -/
def execClamp (s : State) : Host.Outcome State Fault Refusal :=
  done s (jtagDrive .clamp s)

/-- HIGHZ (R95). -/
def execHighz (s : State) : Host.Outcome State Fault Refusal :=
  done s (jtagDrive .highz s)

/-- BYPASS (R95). -/
def execBypass (s : State) : Host.Outcome State Fault Refusal :=
  done s (jtagSelect .bypass s)

/-- JTAG_TRST (R95). -/
def execJtagTrst (s : State) : Host.Outcome State Fault Refusal :=
  done s (jtagReset s)

end Sys2Proof.Machine
end

