-- ==== Sys2Proof/Machine/DoPower.lean ====
section
/-! DEFINITION. The commands of package, power and clocks (R42 to R71). -/

namespace Sys2Proof.Machine

/-- SAG_WARN (R52). -/
def execSagWarn (rail : Fin 10) (s : State) : Host.Outcome State Fault Refusal :=
  done s (sagWarn rail.val s)

/-- SUPPLY_HIGH (R52). -/
def execSupplyHigh (rail : Fin 10) (s : State) : Host.Outcome State Fault Refusal :=
  done s (supplyHigh rail.val s)

/-- SUPPLY_CONDITION_CLEAR (R51). -/
def execSupplyConditionClear (rail : Fin 10) (high : Bool) (s : State) : Host.Outcome State Fault Refusal :=
  done s (supplyClear rail.val high s)

/-- SAG_RESET (R53). -/
def execSagReset (rails : BitVec 10) (s : State) : Host.Outcome State Fault Refusal :=
  done s (settleWork s (sagReset rails.toNat s))

/-- AON_POWER_ON_RESET (R53). -/
def execAonPowerOnReset (s : State) : Host.Outcome State Fault Refusal :=
  done s (settleWork s (aonReset s))

/-- SUPPLIES_VALID (R54). -/
def execSuppliesValid (seqLate roleStrap campStrap pwrFailHigh : Bool) (s : State) : Host.Outcome State Fault Refusal :=
  done s (settleWork s (suppliesValid seqLate roleStrap campStrap pwrFailHigh s))

/-- TAMPER_SUPPLY_CHANGEOVER (R42). -/
def execTamperSupplyChangeover (toVbat : Bool) (s : State) : Host.Outcome State Fault Refusal :=
  done s (changeover toVbat s)

/-- VBAT_CROSSING (R56). -/
def execVbatCrossing (mv : Nat) (s : State) : Host.Outcome State Fault Refusal :=
  done s (vbatCrossing mv s)

/-- VBAT_MEASUREMENT (R56). -/
def execVbatMeasurement (mv : Nat) (s : State) : Host.Outcome State Fault Refusal :=
  done s (vbatMeasure mv s)

/-- PWR_FAIL (R58). -/
def execPwrFail (s : State) : Host.Outcome State Fault Refusal :=
  done s (settleWork s (pwrFail s))

/-- PWR_RESTORED (R616). -/
def execPwrRestored (s : State) : Host.Outcome State Fault Refusal :=
  done s (settleWork s (pwrRestored s))

/-- XO32K_FAULT (R62). -/
def execXo32kFault (s : State) : Host.Outcome State Fault Refusal :=
  done s (xoFault s)

/-- XO32K_RETURN (R62). -/
def execXo32kReturn (s : State) : Host.Outcome State Fault Refusal :=
  done s (xoReturn s)

/-- REFCLK_ABSENT (R64). -/
def execRefclkAbsent (s : State) : Host.Outcome State Fault Refusal :=
  done s (settleWork s (refclkAbsent s))

/-- REFCLK_COARSE_CHECK (R64). -/
def execRefclkCoarseCheck (count : Nat) (s : State) : Host.Outcome State Fault Refusal :=
  done s (settleWork s (coarseCheck count s))

/-- REFCLK_FINE_GATE (R64). -/
def execRefclkFineGate (count : Nat) (s : State) : Host.Outcome State Fault Refusal :=
  done s (settleWork s (fineGate count s))

/-- REFCLK_RESTORED (R65). -/
def execRefclkRestored (s : State) : Host.Outcome State Fault Refusal :=
  done s (settleWork s (refclkRestored s))

/-- SDSREF_MEASUREMENT (R66). -/
def execSdsrefMeasurement (ppm100 : Int) (s : State) : Host.Outcome State Fault Refusal :=
  done s (sdsrefMeasure ppm100 s)

/-- PLL_REQUEST (R68). -/
def execPllRequest (pll : Fin 7) (s : State) : Host.Outcome State Fault Refusal :=
  done s (pllRequest pll.val s)

/-- PLL_LOCK (R67). -/
def execPllLock (pll : Fin 7) (s : State) : Host.Outcome State Fault Refusal :=
  done s (pllLock pll.val s)

/-- PLL_HOLD_EXPIRY (R68). -/
def execPllHoldExpiry (pll : Fin 7) (s : State) : Host.Outcome State Fault Refusal :=
  done s (pllHoldExpiry pll.val s)

/-- PLL_UNLOCK (R69). -/
def execPllUnlock (pll : Fin 7) (s : State) : Host.Outcome State Fault Refusal :=
  done s (pllUnlock pll.val s)

/-- TEMP_SAMPLE (R71). -/
def execTempSample (t0 t1 t2 t3 : Int) (s : State) : Host.Outcome State Fault Refusal :=
  done s (showHealth (tempSample [t0, t1, t2, t3] s))

end Sys2Proof.Machine
end

