-- ==== Sys2Proof/Machine/DoRadio.lean ====
section
/-! DEFINITION. The commands of the radio front ends (R101 to R153). -/

namespace Sys2Proof.Machine

/-- TUNE_GO (R106). -/
def execTuneGo (fe : Fin 4) (s : State) : Host.Outcome State Fault Refusal :=
  done s (settleWork s (regWrite (0x08 + fe.val) 0x048 .bar0 1 s))

/-- RETUNE_DRAIN_EXPIRY (R106). -/
def execRetuneDrainExpiry (fe : Fin 4) (s : State) : Host.Outcome State Fault Refusal :=
  done s (settleWork s (retuneExpiry fe.val s))

/-- SYNTH_LOCK (R110). -/
def execSynthLock (fe : Fin 4) (vcoBand lockUs : Nat) (s : State) : Host.Outcome State Fault Refusal :=
  done s (settleWork s (synthLock fe.val vcoBand lockUs s))

/-- SETTLE_ELAPSED (R110). -/
def execSettleElapsed (fe : Fin 4) (errorHz : Int) (s : State) : Host.Outcome State Fault Refusal :=
  done s (settleWork s (settleElapsed fe.val errorHz s))

/-- RX_TX_ELAPSED (R110). -/
def execRxTxElapsed (fe : Fin 4) (s : State) : Host.Outcome State Fault Refusal :=
  done s (settleWork s (rxTxElapsed fe.val s))

/-- ANSWER_GRANT_SAMPLE (R133). -/
def execAnswerGrantSample (fe : Fin 4) (gntLevel : Bool) (s : State) : Host.Outcome State Fault Refusal :=
  done s (settleWork s (answerGrant fe.val gntLevel s))

/-- TX_LAST_SYMBOL (R110). -/
def execTxLastSymbol (fe : Fin 4) (s : State) : Host.Outcome State Fault Refusal :=
  done s (settleWork s (txLastSymbol fe.val s))

/-- TX_RX_ELAPSED (R110). -/
def execTxRxElapsed (fe : Fin 4) (s : State) : Host.Outcome State Fault Refusal :=
  done s (settleWork s (txRxElapsed fe.val s))

/-- SYNTH_UNLOCK (R111). -/
def execSynthUnlock (fe : Fin 4) (s : State) : Host.Outcome State Fault Refusal :=
  done s (settleWork s (synthUnlock fe.val s))

/-- SYNTH_RETRY (R111). -/
def execSynthRetry (fe : Fin 4) (s : State) : Host.Outcome State Fault Refusal :=
  done s (settleWork s (lockRetry fe.val s))

/-- CALIBRATION_TEMPERATURE_TRIGGER (R112). -/
def execCalibrationTemperatureTrigger (fe : Fin 4) (s : State) : Host.Outcome State Fault Refusal :=
  done s (settleWork s (tempTrigger fe.val s))

/-- CALIBRATION_IQ_AGE_TRIGGER (R112). -/
def execCalibrationIqAgeTrigger (fe : Fin 4) (s : State) : Host.Outcome State Fault Refusal :=
  done s (settleWork s (iqTrigger fe.val s))

/-- CALIBRATION_DONE (R113). -/
def execCalibrationDone (fe : Fin 4) (measured second : Nat) (s : State) : Host.Outcome State Fault Refusal :=
  done s (settleWork s (calDone fe.val measured second s))

/-- CALIBRATION_RETRY_TIMER (R114). -/
def execCalibrationRetryTimer (fe : Fin 4) (s : State) : Host.Outcome State Fault Refusal :=
  done s (settleWork s (calRetry fe.val s))

/-- CAL_REQ_OSC (R115). -/
def execCalReqOsc (fe : Fin 4) (s : State) : Host.Outcome State Fault Refusal :=
  done s (settleWork s (regWrite (0x08 + fe.val) 0x074 .bar0 1 s))

/-- CAL_REQ_SYNTH (R115). -/
def execCalReqSynth (fe : Fin 4) (s : State) : Host.Outcome State Fault Refusal :=
  done s (settleWork s (regWrite (0x08 + fe.val) 0x074 .bar0 2 s))

/-- CAL_REQ_AAF (R115). -/
def execCalReqAaf (fe : Fin 4) (s : State) : Host.Outcome State Fault Refusal :=
  done s (settleWork s (regWrite (0x08 + fe.val) 0x074 .bar0 4 s))

/-- CAL_REQ_DC (R115). -/
def execCalReqDc (fe : Fin 4) (s : State) : Host.Outcome State Fault Refusal :=
  done s (settleWork s (regWrite (0x08 + fe.val) 0x074 .bar0 8 s))

/-- CAL_REQ_IQ (R115). -/
def execCalReqIq (fe : Fin 4) (s : State) : Host.Outcome State Fault Refusal :=
  done s (settleWork s (regWrite (0x08 + fe.val) 0x074 .bar0 16 s))

/-- CALIBRATION_OVERDUE (R115). -/
def execCalibrationOverdue (fe : Fin 4) (s : State) : Host.Outcome State Fault Refusal :=
  done s (settleWork s (calOverdue fe.val s))

/-- RELIEF_HAND_OVER (R119). -/
def execReliefHandOver (s : State) : Host.Outcome State Fault Refusal :=
  done s (settleWork s (handOver s))

/-- RELIEVED_LANES_ENDED (R119). -/
def execRelievedLanesEnded (s : State) : Host.Outcome State Fault Refusal :=
  done s (settleWork s (relievedLanesEnded s))

/-- RELIEF_HANDBACK (R119). -/
def execReliefHandback (s : State) : Host.Outcome State Fault Refusal :=
  done s (settleWork s (handback s))

/-- RELIEF_FE3_LANES_ENDED (R119). -/
def execReliefFe3LanesEnded (s : State) : Host.Outcome State Fault Refusal :=
  done s (settleWork s (reliefOver s))

/-- ROLE_IDLE (R117). -/
def execRoleIdle (s : State) : Host.Outcome State Fault Refusal :=
  done s (settleWork s (regWrite 0x0B 0x050 .bar0 0 s))

/-- ROLE_EXTEND (R117). -/
def execRoleExtend (s : State) : Host.Outcome State Fault Refusal :=
  done s (settleWork s (regWrite 0x0B 0x050 .bar0 1 s))

/-- ROLE_SUBSTITUTE (R122). -/
def execRoleSubstitute (k : Fin 4) (s : State) : Host.Outcome State Fault Refusal :=
  done s (settleWork s (regWrite 0x0B 0x050 .bar0 (BitVec.ofNat 32 (2 + 16 * k.val)) s))

/-- ROLE_LISTEN_THROUGH (R123). -/
def execRoleListenThrough (k : Fin 4) (s : State) : Host.Outcome State Fault Refusal :=
  done s (settleWork s (regWrite 0x0B 0x050 .bar0 (BitVec.ofNat 32 (3 + 16 * k.val)) s))

/-- LT_SATURATION (R125). -/
def execLtSaturation (s : State) : Host.Outcome State Fault Refusal :=
  done s (settleWork s (ltSaturation s))

/-- LT_RESUME (R125). -/
def execLtResume (s : State) : Host.Outcome State Fault Refusal :=
  done s (settleWork s ((fun s => regWrite 0x0B 0x09C .bar0 (BitVec.ofNat 32 (rd (F.FE.LT_ISOLATION_DB 3) s + rd (F.FE.LT_GAIN_DB 3) s * 2 ^ 8 + 2 ^ 17)) s) s))

/-- DWELL_STOP (R139). -/
def execDwellStop (fe : Fin 4) (s : State) : Host.Outcome State Fault Refusal :=
  done s (settleWork s (dwellStop fe.val s))

/-- PROG_COMMIT (R141). -/
def execProgCommit (s : State) : Host.Outcome State Fault Refusal :=
  done s (settleWork s (regWrite 0x0C 0x058 .bar0 1 s))

/-- PROG_BANK_DONE (R141). -/
def execProgBankDone (ok : Bool) (s : State) : Host.Outcome State Fault Refusal :=
  done s (progDone ok s)

/-- COEX_GRANT (R132). -/
def execCoexGrant (fe : Fin 4) (s : State) : Host.Outcome State Fault Refusal :=
  done s (settleWork s (coexGrant fe.val s))

/-- COEX_GNT_TIMEOUT (R132). -/
def execCoexGntTimeout (fe : Fin 4) (s : State) : Host.Outcome State Fault Refusal :=
  done s (settleWork s (coexTimeout fe.val s))

/-- COEX_GNT_WITHDRAWN (R134). -/
def execCoexGntWithdrawn (fe : Fin 4) (s : State) : Host.Outcome State Fault Refusal :=
  done s (settleWork s (coexWithdrawn fe.val s))

end Sys2Proof.Machine
end

