-- ==== Sys2Proof/Machine/DoRope.lean ====
section
/-! DEFINITION. The commands of the rope team (R574 to R597). -/

namespace Sys2Proof.Machine

/-- BELAY_HEARTBEAT_SEND (R580). -/
def execBelayHeartbeatSend (s : State) : Host.Outcome State Fault Refusal :=
  done s (heartbeatSend s)

/-- BELAY_HEARTBEAT_RX (R580). -/
def execBelayHeartbeatRx (role health ack seq : Nat) (partnerNs : Int) (s : State) : Host.Outcome State Fault Refusal :=
  done s (settleWork s (heartbeatRx role health ack seq partnerNs s))

/-- ATTACH_ACTIVATE (R586). -/
def execAttachActivate (s : State) : Host.Outcome State Fault Refusal :=
  done s (settleWork s (attachActivate s))

/-- PARTNER_LOST (R580). -/
def execPartnerLost (s : State) : Host.Outcome State Fault Refusal :=
  done s (settleWork s (partnerLost s))

/-- LONE_CEILING_WAIT (R584). -/
def execLoneCeilingWait (s : State) : Host.Outcome State Fault Refusal :=
  done s (loneCeiling s)

/-- BELAY_LANE_FAIL (R578). -/
def execBelayLaneFail (lane : Fin 2) (s : State) : Host.Outcome State Fault Refusal :=
  done s (settleWork s (belayLaneFail lane.val s))

/-- BELAY_HELLO (R581). -/
def execBelayHello (die : BitVec 64) (pub : List Byte) (nonce role : Nat) (prefer : Bool) (s : State) : Host.Outcome State Fault Refusal :=
  done s (settleWork s (belayHello die.toNat pub nonce role prefer s))

/-- BELAY_RECORD_RX (R579). -/
def execBelayRecordRx (seq : Nat) (inOrder ok : Bool) (record : RopeRec) (euis : List Nat) (s : State) : Host.Outcome State Fault Refusal :=
  done s (settleWork s (recordRx seq inOrder ok record euis s))

/-- BELAY_RECORD_RESEND (R579). -/
def execBelayRecordResend (s : State) : Host.Outcome State Fault Refusal :=
  done s (recordResend s)

/-- REPLAY_MIRROR (R582). -/
def execReplayMirror (s : State) : Host.Outcome State Fault Refusal :=
  done s (replayMirror s)

/-- GIVE_UP_TIMER (R588). -/
def execGiveUpTimer (s : State) : Host.Outcome State Fault Refusal :=
  done s (settleWork s (giveUp s))

/-- ROPE_RELINQUISH (R588). -/
def execRopeRelinquish (s : State) : Host.Outcome State Fault Refusal :=
  done s (settleWork s (regWrite 0x4A 0x05C .bar0 1 s))

/-- ROPE_FORCE_TAKEOVER (R592). -/
def execRopeForceTakeover (s : State) : Host.Outcome State Fault Refusal :=
  done s (settleWork s (regWrite 0x4A 0x05C .bar0 2 s))

/-- FORCE_TAKEOVER_DURABLE (R592). -/
def execForceTakeoverDurable (ok : Bool) (s : State) : Host.Outcome State Fault Refusal :=
  done s (settleWork s (forceDurable ok s))

/-- PARTNER_ACT_FALL (R589). -/
def execPartnerActFall (s : State) : Host.Outcome State Fault Refusal :=
  done s (settleWork s (partnerActFall s))

/-- TAKEOVER_DELAY_EXPIRY (R589). -/
def execTakeoverDelayExpiry (s : State) : Host.Outcome State Fault Refusal :=
  done s (settleWork s (takeoverExpiry s))

/-- TX_MUTE_TIMER (R590). -/
def execTxMuteTimer (s : State) : Host.Outcome State Fault Refusal :=
  done s (settleWork s (txMute s))

/-- PARTNER_ACT_RISE (R590). -/
def execPartnerActRise (s : State) : Host.Outcome State Fault Refusal :=
  done s (settleWork s (partnerActRise s))

/-- RECLAIM_TIMER (R590). -/
def execReclaimTimer (s : State) : Host.Outcome State Fault Refusal :=
  done s (settleWork s (reclaim s))

/-- DUAL_ACTIVE (R591). -/
def execDualActive (s : State) : Host.Outcome State Fault Refusal :=
  done s (settleWork s (dualActive s))

/-- BELAY_BLOCK_LOCK (R578). -/
def execBelayBlockLock (lane : Fin 2) (s : State) : Host.Outcome State Fault Refusal :=
  done s (settleWork s (belayLock lane.val s))

end Sys2Proof.Machine
end

