-- ==== Sys2Proof/Machine/DoStart.lean ====
section
/-! DEFINITION. The commands of start-up, resets and base camp (R622 to R636). -/

namespace Sys2Proof.Machine

/-- POWER_ON_RESET (R622). -/
def execPowerOnReset (s : State) : Host.Outcome State Fault Refusal :=
  done s (settleWork s (powerOnReset s))

/-- RST_N (R623). -/
def execRstN (s : State) : Host.Outcome State Fault Refusal :=
  done s (settleWork s (warmReset 1 s))

/-- START_CLOCKS_LOCKED (R626). -/
def execStartClocksLocked (puf : PufRead) (entropyOk flashError : Bool) (pairs : BitVec 1024) (cs0Log2 cs1Log2 : Nat) (readBack : Bool) (s : State) : Host.Outcome State Fault Refusal :=
  done s (settleWork s (clocksLocked puf entropyOk flashError pairs.toNat cs0Log2 cs1Log2 readBack s))

/-- START_RUN (R626). -/
def execStartRun (s : State) : Host.Outcome State Fault Refusal :=
  done s (settleWork s (startRun s))

/-- REQ_WARM_RESET (R632). -/
def execReqWarmReset (s : State) : Host.Outcome State Fault Refusal :=
  done s (settleWork s (regWrite 0x4E 0x090 .bar0 1 s))

/-- REQ_ENTER (R632). -/
def execReqEnter (s : State) : Host.Outcome State Fault Refusal :=
  done s (settleWork s (regWrite 0x4E 0x090 .bar0 1 s))

/-- REQ_EXIT (R635). -/
def execReqExit (s : State) : Host.Outcome State Fault Refusal :=
  done s (settleWork s (regWrite 0x4E 0x090 .bar0 1 s))

/-- REQ_CLEAR_TAMPER (R634). -/
def execReqClearTamper (breach : Fin 256) (s : State) : Host.Outcome State Fault Refusal :=
  done s (settleWork s (regCommand 0x4E 0x090 .bar0 1 (requestGo breach.val) s))

/-- REQ_REVERT (R632). -/
def execReqRevert (s : State) : Host.Outcome State Fault Refusal :=
  done s (settleWork s (regWrite 0x4E 0x090 .bar0 1 s))

end Sys2Proof.Machine
end

