-- ==== Sys2Proof/Machine/DoTime.lean ====
section
/-! DEFINITION. The commands of device time, mesh time, PPS and PTP timestamps (R446 to R472). -/

namespace Sys2Proof.Machine

/-- INCR_HI_WRITE (R450). -/
def execIncrHiWrite (route : Route) (data : Word) (s : State) : Host.Outcome State Fault Refusal :=
  done s (regWrite 0x3C 0x044 route data s)

/-- TIME_NOW_READ (R451). -/
def execTimeNowRead (s : State) : Host.Outcome State Fault Refusal :=
  done s (regRead 0x3C 0x048 .bar0 s)

/-- MESH_NOW_READ (R451). -/
def execMeshNowRead (s : State) : Host.Outcome State Fault Refusal :=
  done s (regRead 0x3C 0x0CC .bar0 s)

/-- PPS_IN_TS_READ (R451). -/
def execPpsInTsRead (s : State) : Host.Outcome State Fault Refusal :=
  done s (regRead 0x3C 0x084 .bar0 s)

/-- TIME_SET (R452). -/
def execTimeSet (route : Route) (meshHold : Bool) (s : State) : Host.Outcome State Fault Refusal :=
  done s (regWrite 0x3C 0x06C route (if meshHold then 0x101 else 0x001) s)

/-- TIME_ADJUST (R452). -/
def execTimeAdjust (route : Route) (meshHold : Bool) (s : State) : Host.Outcome State Fault Refusal :=
  done s (regWrite 0x3C 0x06C route (if meshHold then 0x102 else 0x002) s)

/-- HOLDOVER (R455). -/
def execHoldover (s : State) : Host.Outcome State Fault Refusal :=
  done s (holdover s)

/-- PPS_IN_EDGE (R457). -/
def execPpsInEdge (ago : Nat) (s : State) : Host.Outcome State Fault Refusal :=
  done s (ppsInEdge ago s)

/-- PPS_IN_LOST (R457). -/
def execPpsInLost (s : State) : Host.Outcome State Fault Refusal :=
  done s (ppsInLost s)

/-- PPS_OUT_PULSE (R458). -/
def execPpsOutPulse (s : State) : Host.Outcome State Fault Refusal :=
  done s (ppsOutPulse s)

/-- PPS_OUT_PULSE_END (R458). -/
def execPpsOutPulseEnd (s : State) : Host.Outcome State Fault Refusal :=
  done s (ppsOutEnd s)

/-- MESH_OFFSET_WRITE (R459). -/
def execMeshOffsetWrite (data : Word) (s : State) : Host.Outcome State Fault Refusal :=
  done s (regWrite 0x3C 0x0B4 .bar0 data s)

/-- TSQ_POP (R468). -/
def execTsqPop (port : Fin 2) (s : State) : Host.Outcome State Fault Refusal :=
  done s (regRead 0x3D (0x070 + 0x40 * port.val) .bar0 s)

end Sys2Proof.Machine
end

