-- ==== Sys2Proof/Machine/Dispatch.lean ====
section
/-! DEFINITION. One arm per command of the opcode table: a direct call of its meaning. -/

namespace Sys2Proof.Machine

def exec (i : Instr) (s : State) : Host.Outcome State Fault Refusal :=
  match i with
  | .sagWarn rail => Sys2Proof.Machine.execSagWarn rail s
  | .supplyHigh rail => Sys2Proof.Machine.execSupplyHigh rail s
  | .sagReset rails => Sys2Proof.Machine.execSagReset rails s
  | .aonPowerOnReset => Sys2Proof.Machine.execAonPowerOnReset s
  | .suppliesValid seqLate roleStrap campStrap pwrFailHigh => Sys2Proof.Machine.execSuppliesValid seqLate roleStrap campStrap pwrFailHigh s
  | .tamperSupplyChangeover toVbat => Sys2Proof.Machine.execTamperSupplyChangeover toVbat s
  | .vbatCrossing mv => Sys2Proof.Machine.execVbatCrossing mv s
  | .vbatMeasurement mv => Sys2Proof.Machine.execVbatMeasurement mv s
  | .pwrFail => Sys2Proof.Machine.execPwrFail s
  | .pwrRestored => Sys2Proof.Machine.execPwrRestored s
  | .xo32kFault => Sys2Proof.Machine.execXo32kFault s
  | .xo32kReturn => Sys2Proof.Machine.execXo32kReturn s
  | .refclkAbsent => Sys2Proof.Machine.execRefclkAbsent s
  | .refclkCoarseCheck count => Sys2Proof.Machine.execRefclkCoarseCheck count s
  | .refclkFineGate count => Sys2Proof.Machine.execRefclkFineGate count s
  | .refclkRestored => Sys2Proof.Machine.execRefclkRestored s
  | .sdsrefMeasurement ppm100 => Sys2Proof.Machine.execSdsrefMeasurement ppm100 s
  | .pllRequest pll => Sys2Proof.Machine.execPllRequest pll s
  | .pllLock pll => Sys2Proof.Machine.execPllLock pll s
  | .pllHoldExpiry pll => Sys2Proof.Machine.execPllHoldExpiry pll s
  | .pllUnlock pll => Sys2Proof.Machine.execPllUnlock pll s
  | .tempSample t0 t1 t2 t3 => Sys2Proof.Machine.execTempSample t0 t1 t2 t3 s
  | .registerWrite bar addr byteEn data => Sys2Proof.Machine.execRegisterWrite bar addr byteEn data s
  | .rcCounterRead route span => Sys2Proof.Machine.execRcCounterRead route span s
  | .ctrlEnable pg route => Sys2Proof.Machine.execCtrlEnable pg route s
  | .ctrlDisable pg route => Sys2Proof.Machine.execCtrlDisable pg route s
  | .forceStop pg route keep => Sys2Proof.Machine.execForceStop pg route keep s
  | .selfTestReq pg route => Sys2Proof.Machine.execSelfTestReq pg route s
  | .ctrlLock pg route => Sys2Proof.Machine.execCtrlLock pg route s
  | .startSequenceDone pg failure => Sys2Proof.Machine.execStartSequenceDone pg failure s
  | .drainComplete pg => Sys2Proof.Machine.execDrainComplete pg s
  | .blockFault pg => Sys2Proof.Machine.execBlockFault pg s
  | .selfTestDone pg failure => Sys2Proof.Machine.execSelfTestDone pg failure s
  | .selfTestWaitExpiry pg => Sys2Proof.Machine.execSelfTestWaitExpiry pg s
  | .evtForce pg route bits => Sys2Proof.Machine.execEvtForce pg route bits s
  | .holdoffExpiry vec => Sys2Proof.Machine.execHoldoffExpiry vec s
  | .msixUnmask vec => Sys2Proof.Machine.execMsixUnmask vec s
  | .msixEnable control => Sys2Proof.Machine.execMsixEnable control s
  | .mgmtAck group bits => Sys2Proof.Machine.execMgmtAck group bits s
  | .mgmtSpiRead mode3 addr words => Sys2Proof.Machine.execMgmtSpiRead mode3 addr words s
  | .mgmtSpiWrite mode3 addr data => Sys2Proof.Machine.execMgmtSpiWrite mode3 addr data s
  | .mgmtSpiStatus mode3 => Sys2Proof.Machine.execMgmtSpiStatus mode3 s
  | .quadOn mode3 => Sys2Proof.Machine.execQuadOn mode3 s
  | .quadOff mode3 => Sys2Proof.Machine.execQuadOff mode3 s
  | .mgmtSpiCsRise partialBits => Sys2Proof.Machine.execMgmtSpiCsRise partialBits s
  | .gpioEdge ball level => Sys2Proof.Machine.execGpioEdge ball level s
  | .i2c1Cmd route data => Sys2Proof.Machine.execI2c1Cmd route data s
  | .i2c1Done nack octet => Sys2Proof.Machine.execI2c1Done nack octet s
  | .i2c1Timeout => Sys2Proof.Machine.execI2c1Timeout s
  | .extest => Sys2Proof.Machine.execExtest s
  | .idcode => Sys2Proof.Machine.execIdcode s
  | .samplePreload boundary => Sys2Proof.Machine.execSamplePreload boundary s
  | .clamp => Sys2Proof.Machine.execClamp s
  | .highz => Sys2Proof.Machine.execHighz s
  | .bypass => Sys2Proof.Machine.execBypass s
  | .jtagTrst => Sys2Proof.Machine.execJtagTrst s
  | .tuneGo fe => Sys2Proof.Machine.execTuneGo fe s
  | .retuneDrainExpiry fe => Sys2Proof.Machine.execRetuneDrainExpiry fe s
  | .synthLock fe vcoBand lockUs => Sys2Proof.Machine.execSynthLock fe vcoBand lockUs s
  | .settleElapsed fe errorHz => Sys2Proof.Machine.execSettleElapsed fe errorHz s
  | .rxTxElapsed fe => Sys2Proof.Machine.execRxTxElapsed fe s
  | .answerGrantSample fe gntLevel => Sys2Proof.Machine.execAnswerGrantSample fe gntLevel s
  | .txLastSymbol fe => Sys2Proof.Machine.execTxLastSymbol fe s
  | .txRxElapsed fe => Sys2Proof.Machine.execTxRxElapsed fe s
  | .synthUnlock fe => Sys2Proof.Machine.execSynthUnlock fe s
  | .synthRetry fe => Sys2Proof.Machine.execSynthRetry fe s
  | .calibrationTemperatureTrigger fe => Sys2Proof.Machine.execCalibrationTemperatureTrigger fe s
  | .calibrationIqAgeTrigger fe => Sys2Proof.Machine.execCalibrationIqAgeTrigger fe s
  | .calibrationDone fe measured second => Sys2Proof.Machine.execCalibrationDone fe measured second s
  | .calibrationRetryTimer fe => Sys2Proof.Machine.execCalibrationRetryTimer fe s
  | .calReqOsc fe => Sys2Proof.Machine.execCalReqOsc fe s
  | .calReqSynth fe => Sys2Proof.Machine.execCalReqSynth fe s
  | .calReqAaf fe => Sys2Proof.Machine.execCalReqAaf fe s
  | .calReqDc fe => Sys2Proof.Machine.execCalReqDc fe s
  | .calReqIq fe => Sys2Proof.Machine.execCalReqIq fe s
  | .calibrationOverdue fe => Sys2Proof.Machine.execCalibrationOverdue fe s
  | .reliefHandOver => Sys2Proof.Machine.execReliefHandOver s
  | .relievedLanesEnded => Sys2Proof.Machine.execRelievedLanesEnded s
  | .reliefHandback => Sys2Proof.Machine.execReliefHandback s
  | .reliefFe3LanesEnded => Sys2Proof.Machine.execReliefFe3LanesEnded s
  | .roleIdle => Sys2Proof.Machine.execRoleIdle s
  | .roleExtend => Sys2Proof.Machine.execRoleExtend s
  | .roleSubstitute k => Sys2Proof.Machine.execRoleSubstitute k s
  | .roleListenThrough k => Sys2Proof.Machine.execRoleListenThrough k s
  | .ltSaturation => Sys2Proof.Machine.execLtSaturation s
  | .ltResume => Sys2Proof.Machine.execLtResume s
  | .dwellStop fe => Sys2Proof.Machine.execDwellStop fe s
  | .progCommit => Sys2Proof.Machine.execProgCommit s
  | .progBankDone ok => Sys2Proof.Machine.execProgBankDone ok s
  | .coexGrant fe => Sys2Proof.Machine.execCoexGrant fe s
  | .coexGntTimeout fe => Sys2Proof.Machine.execCoexGntTimeout fe s
  | .coexGntWithdrawn fe => Sys2Proof.Machine.execCoexGntWithdrawn fe s
  | .binEnergyUpdate fe bins => Sys2Proof.Machine.execBinEnergyUpdate fe bins s
  | .detection fe set channel metric rssi freq window => Sys2Proof.Machine.execDetection fe set channel metric rssi freq window s
  | .detectionReoffer fe set channel metric rssi freq window => Sys2Proof.Machine.execDetectionReoffer fe set channel metric rssi freq window s
  | .laneWakeDone lane => Sys2Proof.Machine.execLaneWakeDone lane s
  | .preambleLoss lane => Sys2Proof.Machine.execPreambleLoss lane s
  | .searchMaxExpiry lane => Sys2Proof.Machine.execSearchMaxExpiry lane s
  | .syncMatch lane last residualHz sfdErrors => Sys2Proof.Machine.execSyncMatch lane last residualHz sfdErrors s
  | .phrComplete lane phr => Sys2Proof.Machine.execPhrComplete lane phr s
  | .lastSymbol lane => Sys2Proof.Machine.execLastSymbol lane s
  | .gainStepDown fe => Sys2Proof.Machine.execGainStepDown fe s
  | .gainStepUp fe => Sys2Proof.Machine.execGainStepUp fe s
  | .forcedGainStep fe => Sys2Proof.Machine.execForcedGainStep fe s
  | .gainRecovery fe => Sys2Proof.Machine.execGainRecovery fe s
  | .gainRecoveryEnd fe => Sys2Proof.Machine.execGainRecoveryEnd fe s
  | .captureFifoPush lane drain last => Sys2Proof.Machine.execCaptureFifoPush lane drain last s
  | .laneWatchdog lane => Sys2Proof.Machine.execLaneWatchdog lane s
  | .laneFault lane parity => Sys2Proof.Machine.execLaneFault lane parity s
  | .laneTestDone lane passed => Sys2Proof.Machine.execLaneTestDone lane passed s
  | .laneSelfcheck lane passed => Sys2Proof.Machine.execLaneSelfcheck lane passed s
  | .txModFault fe parity => Sys2Proof.Machine.execTxModFault fe parity s
  | .mhrComplete lane mhr lost => Sys2Proof.Machine.execMhrComplete lane mhr lost s
  | .auxSecurityHeader lane level suppressed kim keyIndex counter => Sys2Proof.Machine.execAuxSecurityHeader lane level suppressed kim keyIndex counter s
  | .keyReady lane => Sys2Proof.Machine.execKeyReady lane s
  | .frameVerdict lane fcsOk micOk figs body => Sys2Proof.Machine.execFrameVerdict lane fcsOk micOk figs body s
  | .pollFetch fe late => Sys2Proof.Machine.execPollFetch fe late s
  | .ackVerdict lane fcsOk micOk => Sys2Proof.Machine.execAckVerdict lane fcsOk micOk s
  | .ackWaitExpiry fe => Sys2Proof.Machine.execAckWaitExpiry fe s
  | .apptCheck node => Sys2Proof.Machine.execApptCheck node s
  | .beaconDue track => Sys2Proof.Machine.execBeaconDue track s
  | .peerBeacon lane fcsOk micOk figs ies => Sys2Proof.Machine.execPeerBeacon lane fcsOk micOk figs ies s
  | .peerMiss peer => Sys2Proof.Machine.execPeerMiss peer s
  | .sweeperVisit => Sys2Proof.Machine.execSweeperVisit s
  | .pathReread => Sys2Proof.Machine.execPathReread s
  | .windowWrite off complete words => Sys2Proof.Machine.execWindowWrite off complete words s
  | .nodeRead index ddrError => Sys2Proof.Machine.execNodeRead index ddrError s
  | .nodeAdmit index ddrError => Sys2Proof.Machine.execNodeAdmit index ddrError s
  | .nodeUpdate index ddrError => Sys2Proof.Machine.execNodeUpdate index ddrError s
  | .nodeRemove index ddrError => Sys2Proof.Machine.execNodeRemove index ddrError s
  | .nodePin index ddrError => Sys2Proof.Machine.execNodePin index ddrError s
  | .nodeUnpin index => Sys2Proof.Machine.execNodeUnpin index s
  | .nodeScanAdvance => Sys2Proof.Machine.execNodeScanAdvance s
  | .keysScanAdvance => Sys2Proof.Machine.execKeysScanAdvance s
  | .ethFrameHandOn port => Sys2Proof.Machine.execEthFrameHandOn port s
  | .pendingTimeoutCheck => Sys2Proof.Machine.execPendingTimeoutCheck s
  | .reassemblyTimeout => Sys2Proof.Machine.execReassemblyTimeout s
  | .schedSelection logical => Sys2Proof.Machine.execSchedSelection logical s
  | .bucketRefill => Sys2Proof.Machine.execBucketRefill s
  | .horizonExpiry logical => Sys2Proof.Machine.execHorizonExpiry logical s
  | .frameEnterRxTx logical => Sys2Proof.Machine.execFrameEnterRxTx logical s
  | .lbtBackoffExpiry logical queue => Sys2Proof.Machine.execLbtBackoffExpiry logical queue s
  | .lbtRetest logical => Sys2Proof.Machine.execLbtRetest logical s
  | .slipExpiry logical => Sys2Proof.Machine.execSlipExpiry logical s
  | .dwellRunClose logical hz => Sys2Proof.Machine.execDwellRunClose logical hz s
  | .pufAutoRefresh pairs disagree read flashError => Sys2Proof.Machine.execPufAutoRefresh pairs disagree read flashError s
  | .pufEnrol entropyOk pairs read flashError => Sys2Proof.Machine.execPufEnrol entropyOk pairs read flashError s
  | .pufRefresh pairs disagree read flashError => Sys2Proof.Machine.execPufRefresh pairs disagree read flashError s
  | .pufSwap out into read flashError => Sys2Proof.Machine.execPufSwap out into read flashError s
  | .pufReseal entropyOk read flashError => Sys2Proof.Machine.execPufReseal entropyOk read flashError s
  | .lcTransition target withSeal flashError => Sys2Proof.Machine.execLcTransition target withSeal flashError s
  | .lcSeal flashError => Sys2Proof.Machine.execLcSeal flashError s
  | .lcExit => Sys2Proof.Machine.execLcExit s
  | .trustUnlock => Sys2Proof.Machine.execTrustUnlock s
  | .trustClose => Sys2Proof.Machine.execTrustClose s
  | .trustDurationExpiry => Sys2Proof.Machine.execTrustDurationExpiry s
  | .keyLoad slot => Sys2Proof.Machine.execKeyLoad slot s
  | .keyUnwrapLoad slot => Sys2Proof.Machine.execKeyUnwrapLoad slot s
  | .keyDerive slot labelLen contextLen => Sys2Proof.Machine.execKeyDerive slot labelLen contextLen s
  | .keyErase slot forget => Sys2Proof.Machine.execKeyErase slot forget s
  | .keyExport slot ddrError => Sys2Proof.Machine.execKeyExport slot ddrError s
  | .keyImport slot ddrError => Sys2Proof.Machine.execKeyImport slot ddrError s
  | .keyWrapOut slot ddrError => Sys2Proof.Machine.execKeyWrapOut slot ddrError s
  | .keyOpDone durable => Sys2Proof.Machine.execKeyOpDone durable s
  | .cacheFlushDone slot => Sys2Proof.Machine.execCacheFlushDone slot s
  | .journalWriteDone slot ok => Sys2Proof.Machine.execJournalWriteDone slot ok s
  | .pathMismatch user => Sys2Proof.Machine.execPathMismatch user s
  | .knownAnswerCheck engine passed => Sys2Proof.Machine.execKnownAnswerCheck engine passed s
  | .engineDrained engine => Sys2Proof.Machine.execEngineDrained engine s
  | .ccmEncrypt => Sys2Proof.Machine.execCcmEncrypt s
  | .ccmDecrypt => Sys2Proof.Machine.execCcmDecrypt s
  | .ccmJobDone ddrError => Sys2Proof.Machine.execCcmJobDone ddrError s
  | .scipherXtsEncrypt => Sys2Proof.Machine.execScipherXtsEncrypt s
  | .scipherXtsDecrypt => Sys2Proof.Machine.execScipherXtsDecrypt s
  | .scipherCbcEncrypt => Sys2Proof.Machine.execScipherCbcEncrypt s
  | .scipherCbcDecrypt => Sys2Proof.Machine.execScipherCbcDecrypt s
  | .scipherCtr => Sys2Proof.Machine.execScipherCtr s
  | .scipherCfbEncrypt => Sys2Proof.Machine.execScipherCfbEncrypt s
  | .scipherCfbDecrypt => Sys2Proof.Machine.execScipherCfbDecrypt s
  | .scipherJobDone ddrError => Sys2Proof.Machine.execScipherJobDone ddrError s
  | .pkeVerifyP256 hashIn slot => Sys2Proof.Machine.execPkeVerifyP256 hashIn slot s
  | .pkeVerifyP384 hashIn slot => Sys2Proof.Machine.execPkeVerifyP384 hashIn slot s
  | .pkeVerifyEd25519 hashIn slot => Sys2Proof.Machine.execPkeVerifyEd25519 hashIn slot s
  | .pkePairPublic hashIn slot => Sys2Proof.Machine.execPkePairPublic hashIn slot s
  | .pkePairEcdh hashIn slot => Sys2Proof.Machine.execPkePairEcdh hashIn slot s
  | .pkeDone ddrError fault => Sys2Proof.Machine.execPkeDone ddrError fault s
  | .ethLinkChange port los sync anDone fullDuplex remote partnerPause partnerAsm speed => Sys2Proof.Machine.execEthLinkChange port los sync anDone fullDuplex remote partnerPause partnerAsm speed s
  | .ethFrameEnd port size fcsOk codeError since stampAgo frame => Sys2Proof.Machine.execEthFrameEnd port size fcsOk codeError since stampAgo frame s
  | .pauseTimerExpiry port => Sys2Proof.Machine.execPauseTimerExpiry port s
  | .egressOffer port => Sys2Proof.Machine.execEgressOffer port s
  | .egressFrameStart port => Sys2Proof.Machine.execEgressFrameStart port s
  | .egressFrameEnd port => Sys2Proof.Machine.execEgressFrameEnd port s
  | .egressHoldTimeout port => Sys2Proof.Machine.execEgressHoldTimeout port s
  | .bufferHigh port => Sys2Proof.Machine.execBufferHigh port s
  | .pauseRepeat port => Sys2Proof.Machine.execPauseRepeat port s
  | .bufferLow port => Sys2Proof.Machine.execBufferLow port s
  | .pauseMaxHold port => Sys2Proof.Machine.execPauseMaxHold port s
  | .sfpModAbsChange port absent => Sys2Proof.Machine.execSfpModAbsChange port absent s
  | .sfpIdRead port octets => Sys2Proof.Machine.execSfpIdRead port octets s
  | .sfpDdmPoll port octets => Sys2Proof.Machine.execSfpDdmPoll port octets s
  | .sfpLosChange port level => Sys2Proof.Machine.execSfpLosChange port level s
  | .sfpAccess port data => Sys2Proof.Machine.execSfpAccess port data s
  | .sfpAccessDone port nack timeout octet => Sys2Proof.Machine.execSfpAccessDone port nack timeout octet s
  | .sfpNackRetry port => Sys2Proof.Machine.execSfpNackRetry port s
  | .ethOctetLoRead route port tx => Sys2Proof.Machine.execEthOctetLoRead route port tx s
  | .rmonLoRead route port counter => Sys2Proof.Machine.execRmonLoRead route port counter s
  | .incrHiWrite route data => Sys2Proof.Machine.execIncrHiWrite route data s
  | .timeNowRead => Sys2Proof.Machine.execTimeNowRead s
  | .meshNowRead => Sys2Proof.Machine.execMeshNowRead s
  | .ppsInTsRead => Sys2Proof.Machine.execPpsInTsRead s
  | .timeSet route meshHold => Sys2Proof.Machine.execTimeSet route meshHold s
  | .timeAdjust route meshHold => Sys2Proof.Machine.execTimeAdjust route meshHold s
  | .holdover => Sys2Proof.Machine.execHoldover s
  | .ppsInEdge ago => Sys2Proof.Machine.execPpsInEdge ago s
  | .ppsInLost => Sys2Proof.Machine.execPpsInLost s
  | .ppsOutPulse => Sys2Proof.Machine.execPpsOutPulse s
  | .ppsOutPulseEnd => Sys2Proof.Machine.execPpsOutPulseEnd s
  | .meshOffsetWrite data => Sys2Proof.Machine.execMeshOffsetWrite data s
  | .tsqPop port => Sys2Proof.Machine.execTsqPop port s
  | .pcieFunctionReset perst => Sys2Proof.Machine.execPcieFunctionReset perst s
  | .pcieConfigReady => Sys2Proof.Machine.execPcieConfigReady s
  | .pcieLink up speed width busMaster => Sys2Proof.Machine.execPcieLink up speed width busMaster s
  | .bar2Access access ecc => Sys2Proof.Machine.execBar2Access access ecc s
  | .copyToHost => Sys2Proof.Machine.execCopyToHost s
  | .copyFromHost => Sys2Proof.Machine.execCopyFromHost s
  | .copyCplTimeout octets moved => Sys2Proof.Machine.execCopyCplTimeout octets moved s
  | .copyDone how octets moved => Sys2Proof.Machine.execCopyDone how octets moved s
  | .ringEnable ring => Sys2Proof.Machine.execRingEnable ring s
  | .ringHandOver ecc => Sys2Proof.Machine.execRingHandOver ecc s
  | .ringFillDone ring payload => Sys2Proof.Machine.execRingFillDone ring payload s
  | .ringTimeout ring => Sys2Proof.Machine.execRingTimeout ring s
  | .hostTallyWrite ring slot octets => Sys2Proof.Machine.execHostTallyWrite ring slot octets s
  | .txSlotTake ring lost => Sys2Proof.Machine.execTxSlotTake ring lost s
  | .noticePop => Sys2Proof.Machine.execNoticePop s
  | .hostifWarmReset => Sys2Proof.Machine.execHostifWarmReset s
  | .ddrAlert addr again => Sys2Proof.Machine.execDdrAlert addr again s
  | .sramScrubPass finds => Sys2Proof.Machine.execSramScrubPass finds s
  | .ddrScrub ecc => Sys2Proof.Machine.execDdrScrub ecc s
  | .fillChunkDone => Sys2Proof.Machine.execFillChunkDone s
  | .ddrTrainingDone ok sizeGib twoRanks => Sys2Proof.Machine.execDdrTrainingDone ok sizeGib twoRanks s
  | .testWrite route => Sys2Proof.Machine.execTestWrite route s
  | .testFlipData route => Sys2Proof.Machine.execTestFlipData route s
  | .testFlipCheck route => Sys2Proof.Machine.execTestFlipCheck route s
  | .testRead route => Sys2Proof.Machine.execTestRead route s
  | .testReadRaw route => Sys2Proof.Machine.execTestReadRaw route s
  | .flashTimeout sector => Sys2Proof.Machine.execFlashTimeout sector s
  | .fwupInstall => Sys2Proof.Machine.execFwupInstall s
  | .installDone failures erase => Sys2Proof.Machine.execInstallDone failures erase s
  | .fwupActivateLive readBack => Sys2Proof.Machine.execFwupActivateLive readBack s
  | .liveEpochHandover pauseUs => Sys2Proof.Machine.execLiveEpochHandover pauseUs s
  | .fwupActivateAtReset => Sys2Proof.Machine.execFwupActivateAtReset s
  | .fwupConfirm => Sys2Proof.Machine.execFwupConfirm s
  | .fwupRevert => Sys2Proof.Machine.execFwupRevert s
  | .fwupStoreProfile run => Sys2Proof.Machine.execFwupStoreProfile run s
  | .ownerCosignWrite => Sys2Proof.Machine.execOwnerCosignWrite s
  | .handoverRecord => Sys2Proof.Machine.execHandoverRecord s
  | .supervisorCoreFault core pauseUs => Sys2Proof.Machine.execSupervisorCoreFault core pauseUs s
  | .coreReloadDone passed => Sys2Proof.Machine.execCoreReloadDone passed s
  | .trialExpiry => Sys2Proof.Machine.execTrialExpiry s
  | .trialRecordRewrite => Sys2Proof.Machine.execTrialRecordRewrite s
  | .microcodeLoadDone lane => Sys2Proof.Machine.execMicrocodeLoadDone lane s
  | .dissemSetup campaign => Sys2Proof.Machine.execDissemSetup campaign s
  | .setupDone ddrError => Sys2Proof.Machine.execSetupDone ddrError s
  | .dissemStart campaign => Sys2Proof.Machine.execDissemStart campaign s
  | .dissemStop campaign => Sys2Proof.Machine.execDissemStop campaign s
  | .dissemAbort campaign => Sys2Proof.Machine.execDissemAbort campaign s
  | .dissemClear campaign => Sys2Proof.Machine.execDissemClear campaign s
  | .dissemExport campaign ddrError => Sys2Proof.Machine.execDissemExport campaign ddrError s
  | .windowPlan campaign logical => Sys2Proof.Machine.execWindowPlan campaign logical s
  | .windowOpen campaign logical sourceError => Sys2Proof.Machine.execWindowOpen campaign logical sourceError s
  | .windowClose campaign logical => Sys2Proof.Machine.execWindowClose campaign logical s
  | .belayHeartbeatSend => Sys2Proof.Machine.execBelayHeartbeatSend s
  | .belayHeartbeatRx role health ack seq partnerNs => Sys2Proof.Machine.execBelayHeartbeatRx role health ack seq partnerNs s
  | .attachActivate => Sys2Proof.Machine.execAttachActivate s
  | .partnerLost => Sys2Proof.Machine.execPartnerLost s
  | .loneCeilingWait => Sys2Proof.Machine.execLoneCeilingWait s
  | .belayLaneFail lane => Sys2Proof.Machine.execBelayLaneFail lane s
  | .belayHello die pub nonce role prefer => Sys2Proof.Machine.execBelayHello die pub nonce role prefer s
  | .belayRecordRx seq inOrder ok record euis => Sys2Proof.Machine.execBelayRecordRx seq inOrder ok record euis s
  | .belayRecordResend => Sys2Proof.Machine.execBelayRecordResend s
  | .replayMirror => Sys2Proof.Machine.execReplayMirror s
  | .giveUpTimer => Sys2Proof.Machine.execGiveUpTimer s
  | .ropeRelinquish => Sys2Proof.Machine.execRopeRelinquish s
  | .ropeForceTakeover => Sys2Proof.Machine.execRopeForceTakeover s
  | .forceTakeoverDurable ok => Sys2Proof.Machine.execForceTakeoverDurable ok s
  | .partnerActFall => Sys2Proof.Machine.execPartnerActFall s
  | .takeoverDelayExpiry => Sys2Proof.Machine.execTakeoverDelayExpiry s
  | .txMuteTimer => Sys2Proof.Machine.execTxMuteTimer s
  | .partnerActRise => Sys2Proof.Machine.execPartnerActRise s
  | .reclaimTimer => Sys2Proof.Machine.execReclaimTimer s
  | .dualActive => Sys2Proof.Machine.execDualActive s
  | .retireFe route data => Sys2Proof.Machine.execRetireFe route data s
  | .wearSample => Sys2Proof.Machine.execWearSample s
  | .wearOscillatorMeasure l0 l1 l2 l3 => Sys2Proof.Machine.execWearOscillatorMeasure l0 l1 l2 l3 s
  | .wearCheckpoint => Sys2Proof.Machine.execWearCheckpoint s
  | .tamperMesh sensor => Sys2Proof.Machine.execTamperMesh sensor s
  | .tamperSwitch sensor => Sys2Proof.Machine.execTamperSwitch sensor s
  | .tamperEnv glitch => Sys2Proof.Machine.execTamperEnv glitch s
  | .cairnRecordWrite => Sys2Proof.Machine.execCairnRecordWrite s
  | .noteGo => Sys2Proof.Machine.execNoteGo s
  | .cairnRecRead => Sys2Proof.Machine.execCairnRecRead s
  | .keyMirrorDone => Sys2Proof.Machine.execKeyMirrorDone s
  | .bivouacEntered => Sys2Proof.Machine.execBivouacEntered s
  | .bivouacExited => Sys2Proof.Machine.execBivouacExited s
  | .deepAfterExpiry => Sys2Proof.Machine.execDeepAfterExpiry s
  | .deepNowSet => Sys2Proof.Machine.execDeepNowSet s
  | .deepNowClear => Sys2Proof.Machine.execDeepNowClear s
  | .powerOnReset => Sys2Proof.Machine.execPowerOnReset s
  | .rstN => Sys2Proof.Machine.execRstN s
  | .startClocksLocked puf entropyOk flashError pairs cs0Log2 cs1Log2 readBack => Sys2Proof.Machine.execStartClocksLocked puf entropyOk flashError pairs cs0Log2 cs1Log2 readBack s
  | .startRun => Sys2Proof.Machine.execStartRun s
  | .reqWarmReset => Sys2Proof.Machine.execReqWarmReset s
  | .reqEnter => Sys2Proof.Machine.execReqEnter s
  | .reqExit => Sys2Proof.Machine.execReqExit s
  | .reqClearTamper breach => Sys2Proof.Machine.execReqClearTamper breach s
  | .reqRevert => Sys2Proof.Machine.execReqRevert s
  | .supplyConditionClear rail high => Sys2Proof.Machine.execSupplyConditionClear rail high s
  | .tamperDomainSupplyLoss => Sys2Proof.Machine.execTamperDomainSupplyLoss s
  | .belayBlockLock lane => Sys2Proof.Machine.execBelayBlockLock lane s

end Sys2Proof.Machine
end

