-- ==== Sys2Proof/WellFormed.lean ====
section
/-! DEFINITION. Which commands a sender can form: operands within the widths and counts that the rules behind the
commands give them. A command that is not well-formed still has its meaning, but for a page outside the page map. -/

namespace Sys2Proof

open Machine (isPage testParts)

/-- A 32-bit number. -/
def u32 (v : Nat) : Bool := decide (v < 4294967296)

/-- A signed number of magnitude at most `n`. -/
def within (n : Nat) (v : Int) : Bool := decide (-(n : Int) ≤ v) && decide (v ≤ (n : Int))

/-- Lengths and modes of a PHR. -/
def Phr.wellFormed : Phr → Bool
  | .fsk _ length _ _ => decide (length < 2048)
  | .ofdm _ mcs _ length _ => decide (mcs < 32) && decide (length < 2048)
  | .oqpsk _ length => decide (length < 128)
  | .modeSwitch _ mode => decide (mode < 256)

/-- Widths of an address. -/
def AirAddr.wellFormed : AirAddr → Bool
  | .none => true
  | .short a => decide (a < 65536)
  | .extended e => decide (e < 2 ^ 64)

/-- Widths of an MHR. -/
def Mhr.wellFormed (m : Mhr) : Bool :=
  decide (m.version < 4) && m.pan.all (fun p => decide (p < 65536)) && m.srcPan.all (fun p => decide (p < 65536)) &&
    m.dst.wellFormed && m.src.wellFormed &&
    decide (m.seq < 256)

/-- A vendor-specific IE is at least its descriptor, and at most as long as a descriptor can say (R257). -/
def ieWellFormed (b : List Byte) : Bool := decide (2 ≤ b.length) && decide (b.length ≤ 129)

/-- Ranges of the measured figures. -/
def Figures.wellFormed (f : Figures) : Bool :=
  within 1024 f.rssi && within 1048576 f.freq && within 1024 f.snr && within 1024 f.evm

/-- Widths of an IPv6 packet. -/
def Ipv6.wellFormed (p : Ipv6) : Bool :=
  decide (p.trafficClass < 256) && decide (p.flowLabel < 2 ^ 20) && decide (p.payload < 65536) &&
    decide (p.nextHeader < 256) && decide (p.hopLimit < 256) && decide (p.src < 2 ^ 128) && decide (p.dst < 2 ^ 128) &&
    decide (p.body.length ≤ p.payload)

/-- A payload is shorter than the longest PSDU. -/
def Payload.wellFormed : Payload → Bool
  | .command _ => true
  | .data b => decide (b.length < 2048)

/-- Widths of a decrypted body. -/
def Body.wellFormed (b : Body) : Bool :=
  b.ies.all ieWellFormed && b.payload.wellFormed

/-- Widths of an Ethernet frame. -/
def EthFrame.wellFormed (f : EthFrame) : Bool :=
  decide (f.dst < 2 ^ 48) && decide (f.etherType < 65536) && f.tci.all (fun t => decide (t < 65536)) &&
    decide (f.opcode < 65536) && decide (f.pauseTime < 65536) && f.ip.all Ipv6.wellFormed

/-- Whether a sender can form the command. -/
def Instr.wellFormed : Instr → Bool
  | .sagWarn _ => true
  | .supplyHigh _ => true
  | .sagReset _ => true
  | .aonPowerOnReset => true
  | .suppliesValid _ _ _ _ => true
  | .tamperSupplyChangeover _ => true
  | .vbatCrossing mv => decide (mv < 65536)
  | .vbatMeasurement mv => decide (mv < 65536)
  | .pwrFail => true
  | .pwrRestored => true
  | .xo32kFault => true
  | .xo32kReturn => true
  | .refclkAbsent => true
  | .refclkCoarseCheck count => u32 count
  | .refclkFineGate count => u32 count
  | .refclkRestored => true
  | .sdsrefMeasurement ppm100 => within 1000000 ppm100
  | .pllRequest _ => true
  | .pllLock _ => true
  | .pllHoldExpiry _ => true
  | .pllUnlock _ => true
  | .tempSample t0 t1 t2 t3 => within 2048 t0 && within 2048 t1 && within 2048 t2 && within 2048 t3
  | .registerWrite bar addr _ _ => (match bar with
    | .bar0 => decide (addr < 33554432)
    | .bar4 => decide (addr < 65536))
  | .rcCounterRead route x => (match route with
    | .bar0 => decide (x.addr < 33554432) && (x.more == 0 ||
        (decide (16777216 ≤ x.addr) && decide (x.addr + 4 * x.more < 25165824) && decide (x.more < 1024)))
    | .mgmtSpi => decide (x.addr < 327680) && x.more == 0)
  | .ctrlEnable pg _ => decide (pg < 256)
  | .ctrlDisable pg _ => decide (pg < 256)
  | .forceStop pg _ _ => decide (pg < 256)
  | .selfTestReq pg _ => decide (pg < 256)
  | .ctrlLock pg _ => decide (pg < 256)
  | .startSequenceDone pg _ => isPage pg
  | .drainComplete pg => isPage pg
  | .blockFault pg => isPage pg
  | .selfTestDone pg failure => isPage pg &&
    failure.all (fun n => (testParts pg).isEmpty || decide (n.toNat < (testParts pg).length))
  | .selfTestWaitExpiry pg => isPage pg
  | .evtForce pg _ _ => decide (pg < 256)
  | .holdoffExpiry _ => true
  | .msixUnmask _ => true
  | .msixEnable _ => true
  | .mgmtAck _ _ => true
  | .mgmtSpiRead _ addr words => decide (addr < 16777216) && decide (words ≤ 1024)
  | .mgmtSpiWrite _ addr data => decide (addr < 16777216) && decide (data.length ≤ 1024)
  | .mgmtSpiStatus _ => true
  | .quadOn _ => true
  | .quadOff _ => true
  | .mgmtSpiCsRise partialBits => decide (partialBits < 32)
  | .gpioEdge _ _ => true
  | .i2c1Cmd _ _ => true
  | .i2c1Done _ _ => true
  | .i2c1Timeout => true
  | .extest => true
  | .idcode => true
  | .samplePreload _ => true
  | .clamp => true
  | .highz => true
  | .bypass => true
  | .jtagTrst => true
  | .tuneGo _ => true
  | .retuneDrainExpiry _ => true
  | .synthLock _ vcoBand lockUs => decide (vcoBand < 64) && u32 lockUs
  | .settleElapsed _ errorHz => within 4294967296 errorHz
  | .rxTxElapsed _ => true
  | .answerGrantSample _ _ => true
  | .txLastSymbol _ => true
  | .txRxElapsed _ => true
  | .synthUnlock _ => true
  | .synthRetry _ => true
  | .calibrationTemperatureTrigger _ => true
  | .calibrationIqAgeTrigger _ => true
  | .calibrationDone _ measured second => u32 measured && u32 second
  | .calibrationRetryTimer _ => true
  | .calReqOsc _ => true
  | .calReqSynth _ => true
  | .calReqAaf _ => true
  | .calReqDc _ => true
  | .calReqIq _ => true
  | .calibrationOverdue _ => true
  | .reliefHandOver => true
  | .relievedLanesEnded => true
  | .reliefHandback => true
  | .reliefFe3LanesEnded => true
  | .roleIdle => true
  | .roleExtend => true
  | .roleSubstitute _ => true
  | .roleListenThrough _ => true
  | .ltSaturation => true
  | .ltResume => true
  | .dwellStop _ => true
  | .progCommit => true
  | .progBankDone _ => true
  | .coexGrant _ => true
  | .coexGntTimeout _ => true
  | .coexGntWithdrawn _ => true
  | .binEnergyUpdate _ bins => bins.all (fun b => decide (b.1 < 4096) && within 1024 b.2)
  | .detection _ _ channel metric rssi freq window => decide (channel < 65536) && u32 metric && within 1024 rssi && within 1048576 freq && u32 window
  | .detectionReoffer _ _ channel metric rssi freq window => decide (channel < 65536) && u32 metric && within 1024 rssi && within 1048576 freq && u32 window
  | .laneWakeDone _ => true
  | .preambleLoss _ => true
  | .searchMaxExpiry _ => true
  | .syncMatch _ _ hz sfd => within 2147483647 hz && decide (sfd.1 ≤ 32) && decide (sfd.2 ≤ 32)
  | .phrComplete _ phr => phr.wellFormed
  | .lastSymbol _ => true
  | .gainStepDown _ => true
  | .gainStepUp _ => true
  | .forcedGainStep _ => true
  | .gainRecovery _ => true
  | .gainRecoveryEnd _ => true
  | .captureFifoPush _ _ _ => true
  | .laneWatchdog _ => true
  | .laneFault _ _ => true
  | .laneTestDone _ _ => true
  | .laneSelfcheck _ _ => true
  | .txModFault _ _ => true
  | .mhrComplete _ mhr _ => mhr.wellFormed
  | .auxSecurityHeader _ level _ kim keyIndex counter => decide (level < 8) && decide (kim < 4) && decide (keyIndex < 256) && u32 counter
  | .keyReady _ => true
  | .frameVerdict _ _ _ figs body => figs.wellFormed && body.wellFormed
  | .pollFetch _ _ => true
  | .ackVerdict _ _ _ => true
  | .ackWaitExpiry _ => true
  | .apptCheck _ => true
  | .beaconDue _ => true
  | .peerBeacon _ _ _ figs ies => figs.wellFormed && ies.all ieWellFormed
  | .peerMiss _ => true
  | .sweeperVisit => true
  | .pathReread => true
  | .windowWrite _ _ words => decide (words.length ≤ 1024)
  | .nodeRead _ _ => true
  | .nodeAdmit _ _ => true
  | .nodeUpdate _ _ => true
  | .nodeRemove _ _ => true
  | .nodePin _ _ => true
  | .nodeUnpin _ => true
  | .nodeScanAdvance => true
  | .keysScanAdvance => true
  | .ethFrameHandOn _ => true
  | .pendingTimeoutCheck => true
  | .reassemblyTimeout => true
  | .schedSelection _ => true
  | .bucketRefill => true
  | .horizonExpiry _ => true
  | .frameEnterRxTx _ => true
  | .lbtBackoffExpiry _ _ => true
  | .lbtRetest _ => true
  | .slipExpiry _ => true
  | .dwellRunClose _ hz => u32 hz
  | .pufAutoRefresh _ _ _ _ => true
  | .pufEnrol _ _ _ _ => true
  | .pufRefresh _ _ _ _ => true
  | .pufSwap _ _ _ _ => true
  | .pufReseal _ _ _ => true
  | .lcTransition _ _ _ => true
  | .lcSeal _ => true
  | .lcExit => true
  | .trustUnlock => true
  | .trustClose => true
  | .trustDurationExpiry => true
  | .keyLoad _ => true
  | .keyUnwrapLoad _ => true
  | .keyDerive _ _ _ => true
  | .keyErase _ _ => true
  | .keyExport _ _ => true
  | .keyImport _ _ => true
  | .keyWrapOut _ _ => true
  | .keyOpDone _ => true
  | .cacheFlushDone _ => true
  | .journalWriteDone _ _ => true
  | .pathMismatch _ => true
  | .knownAnswerCheck _ _ => true
  | .engineDrained _ => true
  | .ccmEncrypt => true
  | .ccmDecrypt => true
  | .ccmJobDone _ => true
  | .scipherXtsEncrypt => true
  | .scipherXtsDecrypt => true
  | .scipherCbcEncrypt => true
  | .scipherCbcDecrypt => true
  | .scipherCtr => true
  | .scipherCfbEncrypt => true
  | .scipherCfbDecrypt => true
  | .scipherJobDone _ => true
  | .pkeVerifyP256 _ _ => true
  | .pkeVerifyP384 _ _ => true
  | .pkeVerifyEd25519 _ _ => true
  | .pkePairPublic _ _ => true
  | .pkePairEcdh _ _ => true
  | .pkeDone _ _ => true
  | .ethLinkChange _ _ _ _ _ _ _ _ _ => true
  | .ethFrameEnd _ size _ _ _ _ frame => decide (size < 65536) && frame.wellFormed
  | .pauseTimerExpiry _ => true
  | .egressOffer _ => true
  | .egressFrameStart _ => true
  | .egressFrameEnd _ => true
  | .egressHoldTimeout _ => true
  | .bufferHigh _ => true
  | .pauseRepeat _ => true
  | .bufferLow _ => true
  | .pauseMaxHold _ => true
  | .sfpModAbsChange _ _ => true
  | .sfpIdRead _ octets => octets.length == 96
  | .sfpDdmPoll _ octets => octets.length == 10
  | .sfpLosChange _ _ => true
  | .sfpAccess _ _ => true
  | .sfpAccessDone _ _ _ _ => true
  | .sfpNackRetry _ => true
  | .ethOctetLoRead _ _ _ => true
  | .rmonLoRead _ _ _ => true
  | .incrHiWrite _ _ => true
  | .timeNowRead => true
  | .meshNowRead => true
  | .ppsInTsRead => true
  | .timeSet _ _ => true
  | .timeAdjust _ _ => true
  | .holdover => true
  | .ppsInEdge _ => true
  | .ppsInLost => true
  | .ppsOutPulse => true
  | .ppsOutPulseEnd => true
  | .meshOffsetWrite _ => true
  | .tsqPop _ => true
  | .pcieFunctionReset _ => true
  | .pcieConfigReady => true
  | .pcieLink _ speed width _ => decide (speed < 16) && decide (width < 64)
  | .bar2Access access _ => (match access with
    | .read off n => decide (off + n ≤ 268435456)
    | .write off octets => decide (off + octets.length ≤ 268435456))
  | .copyToHost => true
  | .copyFromHost => true
  | .copyCplTimeout octets moved => decide (octets.length < 16777216) && decide (moved < 16777216)
  | .copyDone _ octets moved => decide (octets.length < 16777216) && decide (moved < 16777216)
  | .ringEnable _ => true
  | .ringHandOver _ => true
  | .ringFillDone _ _ => true
  | .ringTimeout _ => true
  | .hostTallyWrite _ slot octets => decide (slot + octets.length ≤ 4096)
  | .txSlotTake _ _ => true
  | .noticePop => true
  | .hostifWarmReset => true
  | .ddrAlert _ _ => true
  | .sramScrubPass _ => true
  | .ddrScrub _ => true
  | .fillChunkDone => true
  | .ddrTrainingDone _ sizeGib _ => decide (2 ≤ sizeGib) && decide (sizeGib ≤ 16)
  | .testWrite _ => true
  | .testFlipData _ => true
  | .testFlipCheck _ => true
  | .testRead _ => true
  | .testReadRaw _ => true
  | .flashTimeout sector => decide (sector < 65536)
  | .fwupInstall => true
  | .installDone _ _ => true
  | .fwupActivateLive _ => true
  | .liveEpochHandover _ => true
  | .fwupActivateAtReset => true
  | .fwupConfirm => true
  | .fwupRevert => true
  | .fwupStoreProfile run => (match run with
    | .done => true
    | .fails k | .cut k | .cipher k => decide (k < 256))
  | .ownerCosignWrite => true
  | .handoverRecord => true
  | .supervisorCoreFault _ _ => true
  | .coreReloadDone _ => true
  | .trialExpiry => true
  | .trialRecordRewrite => true
  | .microcodeLoadDone _ => true
  | .dissemSetup _ => true
  | .setupDone _ => true
  | .dissemStart _ => true
  | .dissemStop _ => true
  | .dissemAbort _ => true
  | .dissemClear _ => true
  | .dissemExport _ _ => true
  | .windowPlan _ _ => true
  | .windowOpen _ _ _ => true
  | .windowClose _ _ => true
  | .belayHeartbeatSend => true
  | .belayHeartbeatRx role health _ _ _ => decide (1 ≤ role) && decide (role ≤ 5) && decide (health < 1024)
  | .attachActivate => true
  | .partnerLost => true
  | .loneCeilingWait => true
  | .belayLaneFail _ => true
  | .belayHello _ pub nonce role _ => pub.length == 64 && decide (role ≤ 5) && decide (nonce < 2 ^ 128)
  | .belayRecordRx _ _ _ _ _ => true
  | .belayRecordResend => true
  | .replayMirror => true
  | .giveUpTimer => true
  | .ropeRelinquish => true
  | .ropeForceTakeover => true
  | .forceTakeoverDurable _ => true
  | .partnerActFall => true
  | .takeoverDelayExpiry => true
  | .txMuteTimer => true
  | .partnerActRise => true
  | .reclaimTimer => true
  | .dualActive => true
  | .retireFe _ _ => true
  | .wearSample => true
  | .wearOscillatorMeasure _ _ _ _ => true
  | .wearCheckpoint => true
  | .tamperMesh _ => true
  | .tamperSwitch _ => true
  | .tamperEnv _ => true
  | .cairnRecordWrite => true
  | .noteGo => true
  | .cairnRecRead => true
  | .keyMirrorDone => true
  | .bivouacEntered => true
  | .bivouacExited => true
  | .deepAfterExpiry => true
  | .deepNowSet => true
  | .deepNowClear => true
  | .powerOnReset => true
  | .rstN => true
  | .startClocksLocked _ _ _ _ cs0Log2 cs1Log2 _ => decide (cs0Log2 ≤ 6) && decide (cs1Log2 ≤ 6)
  | .startRun => true
  | .reqWarmReset => true
  | .reqEnter => true
  | .reqExit => true
  | .reqClearTamper _ => true
  | .reqRevert => true
  | .supplyConditionClear _ _ => true
  | .tamperDomainSupplyLoss => true
  | .belayBlockLock _ => true

end Sys2Proof
end

