-- ==== Sys2Proof/Safety.lean ====
section
/-! DEFINITION. What claims are stated in: steps that go on, what a command gives, queues a sender can form, memory in its one
form, states in which nothing waits to be taken up after a command, and what a command leaves as it was. -/

namespace Sys2Proof.Machine

/-- The step goes on. -/
def Goes (s : State) : Prop := ∃ t, step s = .next t

/-- The command completes in a state of which `P` holds. -/
def Gives (c : Instr) (s : State) (P : State → Prop) : Prop := ∃ t, exec c s = .next t ∧ P t

/-- Every waiting command is one a sender can form. -/
def QueueFormed (s : State) : Prop := ∀ c ∈ s.pending, c.wellFormed = true

/-- DDR is in its one form. -/
abbrev MemoryFormed (s : State) : Prop := Memory.wf s.ddr = true

/-- The latch of an event of a page (R96). -/
abbrev eventLatched (pg bit : Nat) (s : State) : Prop := (rd (F.HEAD.EVT_LATCH pg) s).testBit bit = true

/-- A write of a register word over BAR0 passes every check of R76. -/
abbrev Accepted (pg off data : Nat) (s : State) : Prop := refusal pg off .bar0 data s = none

/-- Nothing waits for what a command frees, and no member mirrors to a standby: a command's own effect is the whole of it, but
for the registers that show what other units hold. -/
def Calm (s : State) : Bool := quiet s && !mirrors s

/-- The keys of the registers that follow other state by themselves: STATE.BUSY of every page, the message count, RESERVE
and CAIRN, the scans and the view of a slot, BUFFER, PROG_DATA, TRIAL_LEFT, REMAINING and HEALTH.OWN. -/
def followKey (k : Nat) : Bool :=
  let pg := k / (32 * 16384) % 256
  let off := k / 32 % 16384
  let lo := k % 32
  (off == 0x00C && lo == 8) || (pg == 0x04 && off == 0x06C) || pg == 0x05 || pg == 0x06 ||
    (pg == 0x20 && decide (0x200 ≤ off)) ||
    (pg == 0x30 && ((decide (0x044 ≤ off) && decide (off ≤ 0x054)) || (decide (0x060 ≤ off) && decide (off ≤ 0x06C)))) ||
    ((pg == 0x38 || pg == 0x39) && (off == 0x064 || off == 0x068)) || (pg == 0x29 && off == 0x068) ||
    (pg == 0x48 && off == 0x070) || (pg == 0x80 && off == 0 && lo == 16) || (pg == 0x4A && off == 0x054)

/-- The parts of the state beside its registers. -/
inductive Part where
  | now | draws | readData | spi | jtag | plls | watch | i2c | clock | frameNumbers | ledger | lanes | preempts | poolTest
  | fes | relief | banks | frames | scheds | duty | nodes | slots | cache | reasm | ddr | hostData | delivered | rings
  | notices | ports | meters | campaigns | tracks | peers | latched | wear | root | journal | keyOp | jobs | engines | mem
  | fw | rope | copy | boot
deriving DecidableEq, Repr

/-- Two states agree in a part. -/
def Agrees (s t : State) : Part → Prop
  | .now => t.now = s.now
  | .draws => t.draws = s.draws
  | .readData => t.readData = s.readData
  | .spi => t.spi = s.spi
  | .jtag => t.jtag = s.jtag
  | .plls => t.plls = s.plls
  | .watch => t.watch = s.watch
  | .i2c => t.i2c = s.i2c
  | .clock => t.clock = s.clock
  | .frameNumbers => t.nextFrame = s.nextFrame
  | .ledger => t.ledger = s.ledger
  | .lanes => t.lanes = s.lanes
  | .preempts => t.preempts = s.preempts
  | .poolTest => t.laneDebt = s.laneDebt ∧ t.poolTest = s.poolTest
  | .fes => t.fes = s.fes
  | .relief => t.relief = s.relief ∧ t.reliefQueue = s.reliefQueue
  | .banks => t.banks = s.banks
  | .frames => t.frames = s.frames
  | .scheds => t.scheds = s.scheds
  | .duty => t.duty = s.duty
  | .nodes => t.nodes = s.nodes
  | .slots => t.slots = s.slots
  | .cache => t.cache = s.cache
  | .reasm => t.reasm = s.reasm
  | .ddr => t.ddr = s.ddr
  | .hostData => t.hostData = s.hostData ∧ t.hostPoison = s.hostPoison
  | .delivered => t.delivered = s.delivered
  | .rings => t.rings = s.rings
  | .notices => t.notices = s.notices
  | .ports => t.ports = s.ports
  | .meters => t.meters = s.meters
  | .campaigns => t.campaigns = s.campaigns
  | .tracks => t.tracks = s.tracks
  | .peers => t.peers = s.peers
  | .latched => t.latched = s.latched
  | .wear => t.wear = s.wear
  | .root => t.root = s.root
  | .journal => t.journal = s.journal
  | .keyOp => t.keyOp = s.keyOp
  | .jobs => t.ccmJob = s.ccmJob ∧ t.sciJob = s.sciJob ∧ t.pkeOp = s.pkeOp
  | .engines => t.engineFaults = s.engineFaults ∧ t.engineChecks = s.engineChecks ∧ t.engineTest = s.engineTest
  | .mem => t.mem = s.mem
  | .fw => t.fw = s.fw
  | .rope => t.rope = s.rope
  | .copy => t.copy = s.copy
  | .boot => t.boot = s.boot

/-- Some of the registers: a page's, or those of one word. -/
inductive Scope where
  | page (pg : Nat)
  | word (pg off : Nat)
deriving DecidableEq, Repr

/-- Whether a register key lies in a scope. -/
def Scope.holds (k : Nat) : Scope → Bool
  | .page pg => decide (keyPage k = pg % 256)
  | .word pg off => decide (k / 32 % (256 * 16384) = pg % 256 * 16384 + off % 16384)

/-- Whether a register key lies in one of the scopes. -/
def inScopes (l : List Scope) (k : Nat) : Bool := l.any (fun x => x.holds k)

/-- From `s` to `t` only registers of `scopes`, registers that follow other state by themselves, the messages and
acknowledgements of the event path, the queue of cairn records and `parts` change: the frame of a command. -/
structure Within (scopes : List Scope) (parts : List Part) (s t : State) : Prop where
  regs    : ∀ f : Field, followKey f.key = false → inScopes scopes f.key = false → rd f t = rd f s
  parts   : ∀ p : Part, p ∉ parts → Agrees s t p

/-- The registers that work which waited may change when a command lets it go on (R106, R114, R119, R187, R189, R544,
R566): rings and notices, dissemination, the schedulers and what counts their frames, COEX, FCRYPTO, CHAN and LANEPOOL, the
state of the front ends, ROLL_ACTIVE and its lane. -/
def airScopes : List Scope :=
  [.page 0x41, .word 0x4C 0x014, .word 0x4C 0x044, .word 0x4C 0x048, .word 0x4C 0x04C, .word 0x4C 0x050, .page 0x29,
    .page 0x24, .page 0x25, .page 0x26, .page 0x27, .word 0x19 0x0A4, .word 0x19 0x0A8, .word 0x19 0x0AC, .word 0x19 0x0B0,
    .word 0x19 0x0B4, .word 0x19 0x0B8, .word 0x20 0x0D0, .word 0x20 0x0D4, .word 0x20 0x0D8, .word 0x20 0x0DC, .page 0x1B,
    .word 0x21 0x04C, .word 0x21 0x050, .word 0x0C 0x014, .word 0x0C 0x04C, .page 0x31, .page 0x10, .page 0x11,
    .word 0x08 0x014, .word 0x08 0x030, .word 0x08 0x04C, .word 0x08 0x05C, .word 0x08 0x078, .word 0x09 0x014,
    .word 0x09 0x030, .word 0x09 0x04C, .word 0x09 0x05C, .word 0x09 0x078, .word 0x0A 0x014, .word 0x0A 0x030,
    .word 0x0A 0x04C, .word 0x0A 0x05C, .word 0x0A 0x078, .word 0x0B 0x014, .word 0x0B 0x030, .word 0x0B 0x04C,
    .word 0x0B 0x050, .word 0x0B 0x05C, .word 0x0B 0x078, .word 0x05 0x014, .word 0x05 0x06C,
    .word 0x48 0x084, .word 0x48 0x088]

/-- The words of every page head that a change of a page's state may write. -/
def headScopes : List Scope :=
  (List.range 79).flatMap (fun pg => [.word pg 0x008, .word pg 0x00C, .word pg 0x014, .word pg 0x02C, .word pg 0x030])

/-- The parts of the state that work which waited may change when a command lets it go on. -/
def airParts : List Part :=
  [.ddr, .rings, .notices, .frames, .campaigns, .frameNumbers, .duty, .ledger, .nodes, .fes, .lanes, .poolTest, .fw,
    .relief, .rope, .scheds, .engines]

end Sys2Proof.Machine
end

