-- ==== Sys2Proof/Certificates/Slice0/Obligations.lean ====
section
/-! DEFINITION. The statements for the provers: what every command leaves, its frame, and the invariants of every step. -/

open Sys2Proof Sys2Proof.Machine

/-- A step runs the command at the front of the queue on the rest of it, and with none waiting time passes. The queue is
the model's own: commands reach the block in order. -/
def Obligations.StepRunsTheFrontCommand : Prop :=
  (∀ (c : Instr) (r : List Instr) (s : State), step { s with pending := c :: r } = exec c { s with pending := r }) ∧
  (∀ s : State, s.pending = [] → step s = .next (idle s) ∧ (idle s).pending = [])

/-- A command leaves the queue, is never refused, and stops only on a page that the map does not have. A meaning's frame
for the queue, and where a meaning stops. -/
def Obligations.EveryCommandKeepsTheQueue : Prop :=
  (∀ (c : Instr) (s t : State), exec c s = .next t → t.pending = s.pending) ∧
  (∀ (c : Instr) (s : State) (r : Refusal), exec c s ≠ .refused r) ∧
  (∀ (c : Instr) (s : State) (f : Fault), exec c s = .fault f → f = .noSuchPage ∧ c.wellFormed = false) ∧
  (∀ (c : Instr) (s : State), c.wellFormed = true → ∃ t, exec c s = .next t)

/-- Reset: the queue is empty, memory lists nothing and is in its form, every page is OFF, the power-on reset is held at
stage 0. What reset leaves. That the reset state is taken with the power-on reset held is the model's reading (log entry
3). -/
def Obligations.ResetIsFormed : Prop :=
  MemoryFormed State.reset ∧ QueueFormed State.reset ∧ State.reset.pending = [] ∧ State.reset.ddr = [] ∧
    (∀ pg ∈ fullPages, pageState pg State.reset = OFF) ∧ rd F.MGMT.START_STAGE State.reset = 0 ∧ State.reset.boot.held = true

/-- Memory: an octet written reads back, every other octet reads as before, and equal contents are equal memories. The
memory laws. An octet that nothing has written reads 0 after the fill. -/
def Obligations.MemoryBytesReadBack : Prop :=
  (∀ (m : List Host.Cell) (a x : Nat) (v : Byte), Memory.wf m = true →
    readByte (writeByte m a v) x = if x = a then v else readByte m x) ∧
  (∀ (m : List Host.Cell) (a x : Nat) (l : List Byte), Memory.wf m = true →
    readByte (writeOctets m a l) x = if a ≤ x ∧ x < a + l.length then l.getD (x - a) 0 else readByte m x) ∧
  (∀ (m : List Host.Cell) (a n x : Nat), Memory.wf m = true →
    readByte (zeroRange m a n) x = if a ≤ x ∧ x < a + n then 0 else readByte m x) ∧
  (∀ (m : List Host.Cell) (a b n x : Nat), Memory.wf m = true → a + n ≤ b ∨ b + n ≤ a →
    readByte (copyRange m a b n) x = if b ≤ x ∧ x < b + n then readByte m (x - b + a) else readByte m x) ∧
  (∀ m n : List Host.Cell, Memory.wf m = true → Memory.wf n = true → (∀ x, readByte m x = readByte n x) → m = n)

/-- Every step keeps the memory in its canonical form. An invariant of every step from every state, whatever command
waits. -/
def Obligations.EveryStepKeepsTheMemoryForm : Prop :=
  ∀ s t : State, MemoryFormed s → step s = .next t → MemoryFormed t

/-- From every state whose waiting commands are well-formed a step gives a next state, of which the same holds. The
machine never stops on commands that a sender can form. -/
def Obligations.FormedQueuesRunOn : Prop :=
  ∀ s : State, QueueFormed s → ∃ t, step s = .next t ∧ QueueFormed t ∧ t.pending = s.pending.tail

/-- Supply warnings, supply loss and the return of supplies do what the supply monitor prescribes (R42, R50, R51, R52,
R53, R54, R56). SAG_WARN latches the rail in SAG_WARN_LATCH and the SAG_WARN event and holds the rail as low;
SUPPLY_HIGH does the same in HIGH_LATCH; SUPPLY_CONDITION_CLEAR ends the rail's condition, ends the event's live
condition with the last rail, and leaves the latches; SAG_RESET holds the core domain in reset, counts, records the
rails and the kind, and keeps the tamper domain; AON_POWER_ON_RESET clears the always-on domain too, but not the tamper
domain; SUPPLIES_VALID releases a held reset: the start is at CLOCKS and PWR_FAIL_N is sampled; TAMPER_SUPPLY_CHANGEOVER
moves the supply of the tamper domain; VBAT_CROSSING sets PRESENT and LOW by 1.0 V and 2.3 V; VBAT_MEASUREMENT shows the
millivolts. -/
def Obligations.SupplyMonitorActs : Prop :=
  (∀ (rail : Fin 10) (s : State),
      Gives (.sagWarn rail) s (fun t =>
        (rd F.PWR.SAG_WARN_LATCH t).testBit rail.val = true ∧
        eventLatched 0x02 0 t ∧
        t.watch.lowRails = s.watch.lowRails ||| 2 ^ rail.val ∧
        Within [.word 0x02 0x014, .word 0x02 0x010, .word 0x02 0x044] [.watch, .wear] s t)) ∧
  (∀ (rail : Fin 10) (s : State),
      Gives (.supplyHigh rail) s (fun t =>
        (rd F.PWR.HIGH_LATCH t).testBit rail.val = true ∧
        eventLatched 0x02 1 t ∧
        t.watch.highRails = s.watch.highRails ||| 2 ^ rail.val ∧
        Within [.word 0x02 0x014, .word 0x02 0x010, .word 0x02 0x048] [.watch] s t)) ∧
  (∀ (rail : Fin 10) (high : Bool) (s : State),
      Gives (.supplyConditionClear rail high) s (fun t =>
        (if high then t.watch.highRails else t.watch.lowRails).testBit rail.val = false ∧
        ((if high then t.watch.highRails else t.watch.lowRails) = 0 → rawSet 0x02 (if high then 1 else 0) t = false) ∧
        rd F.PWR.SAG_WARN_LATCH t = rd F.PWR.SAG_WARN_LATCH s ∧
        rd F.PWR.HIGH_LATCH t = rd F.PWR.HIGH_LATCH s ∧
        Within [.word 0x02 0x010] [.watch] s t)) ∧
  (∀ (rails : BitVec 10) (s : State),
      rails ≠ 0 →
      Gives (.sagReset rails) s (fun t =>
        t.boot.held = true ∧
        rd F.PWR.SAG_COUNT t = min (rd F.PWR.SAG_COUNT s + 1) 65535 ∧
        rd F.PWR.SAG_CAUSE_RAILS t = (rd F.PWR.SAG_CAUSE_RAILS s ||| rails.toNat) % 1024 ∧
        rd F.MGMT.START_RESET_KIND t = (if s.boot.held || resetNow s then severer R_SAG s else R_SAG) ∧
        rd F.CANARY.TAMPER_STATUS_SENSORS t = rd F.CANARY.TAMPER_STATUS_SENSORS s)) ∧
  (∀ (s : State),
      Gives .aonPowerOnReset s (fun t =>
        t.boot.held = true ∧
        rd F.MGMT.START_RESET_KIND t = (if s.boot.held || resetNow s then severer R_AON s else R_AON) ∧
        rd F.PWR.SAG_COUNT t = 0 ∧
        rd F.CANARY.TAMPER_STATUS_SENSORS t = rd F.CANARY.TAMPER_STATUS_SENSORS s)) ∧
  (∀ (seqLate : Bool) (roleStrap : Bool) (campStrap : Bool) (pwrFailHigh : Bool) (s : State),
      s.boot.held = true →
      Gives (.suppliesValid seqLate roleStrap campStrap pwrFailHigh) s (fun t =>
        t.boot.held = false ∧
        rd F.MGMT.START_STAGE t = 1 ∧
        rd F.PWR.RAIL_OK t = 0x3FF ∧
        rd F.PWR.PWR_FAIL_LEVEL t = (if pwrFailHigh then 1 else 0))) ∧
  (∀ (toVbat : Bool) (s : State),
      Gives (.tamperSupplyChangeover toVbat) s (fun t =>
        t.watch.tamperOnVbat = toVbat ∧
        Within [] [.watch] s t)) ∧
  (∀ (mv : Nat) (s : State),
      Gives (.vbatCrossing mv) s (fun t =>
        rd F.PWR.VBAT_PRESENT t = (if 1000 ≤ mv then 1 else 0) ∧
        rd F.PWR.VBAT_LOW t = (if 1000 ≤ mv ∧ mv < 2300 then 1 else 0) ∧
        rawSet 0x02 2 t = decide (1000 ≤ mv ∧ mv < 2300) ∧
        Within [.word 0x02 0x054, .word 0x02 0x014, .word 0x02 0x010] [] s t)) ∧
  (∀ (mv : Nat) (s : State),
      Gives (.vbatMeasurement mv) s (fun t =>
        rd F.PWR.VBAT_MV t = min mv 4095 ∧
        Within [.word 0x02 0x054] [] s t))

/-- Mains, crystal, reference and temperature commands do what their checks prescribe (R58, R59, R62, R64, R65, R66,
R71, R616, R623). PWR_FAIL shows the low level and latches the falling edge; PWR_RESTORED shows the level and, in
bivouac, latches its event; XO32K_FAULT and XO32K_RETURN set and end the crystal's fault; REFCLK_ABSENT faults the
reference; REFCLK_COARSE_CHECK faults it beyond 2,000 ppm of the crystal or 15 % of the RC clock; REFCLK_FINE_GATE
faults it exactly beyond 50 ppm of the learned ratio; the first gate within 250 ppm is learned; REFCLK_RESTORED forces a
warm reset of source 4; SDSREF_MEASUREMENT shows the deviation and its 200 ppm condition; TEMP_SAMPLE shows the four
sensors. -/
def Obligations.ReferencesActs : Prop :=
  (∀ (s : State),
      Gives .pwrFail s (fun t =>
        rd F.PWR.PWR_FAIL_LEVEL t = 0 ∧
        rd F.PWR.PWR_FAIL_FELL t = 1 ∧
        eventLatched 0x02 3 t ∧
        Within (([.word 0x02 0x014, .word 0x02 0x058, .page 0x29, .page 0x24, .page 0x25, .page 0x26, .page 0x27, .word 0x19
          0x0B4, .word 0x19 0x0A4, .word 0x19 0x0A8, .word 0x19 0x0AC, .word 0x19 0x0B0, .word 0x19 0x0B8, .word 0x20 0x0D0,
          .word 0x20 0x0D4, .word 0x20 0x0D8, .word 0x20 0x0DC, .word 0x20 0x058, .page 0x1B, .word 0x21 0x050, .word 0x21
          0x04C, .page 0x31, .page 0x10, .word 0x08 0x05C, .word 0x08 0x04C, .word 0x08 0x030, .word 0x08 0x014, .word 0x08
          0x078, .word 0x09 0x05C, .word 0x09 0x04C, .word 0x09 0x030, .word 0x09 0x014, .word 0x09 0x078, .word 0x0A 0x05C,
          .word 0x0A 0x04C, .word 0x0A 0x030, .word 0x0A 0x014, .word 0x0A 0x078, .word 0x0B 0x05C, .word 0x0B 0x04C, .word
          0x0B 0x050, .word 0x0B 0x030, .word 0x0B 0x014, .word 0x0B 0x078, .word 0x0C 0x014, .word 0x0C 0x04C, .word 0x38
          0x070, .word 0x38 0x074, .word 0x38 0x014, .word 0x38 0x078, .word 0x38 0x0AC, .word 0x39 0x070, .word 0x39 0x074,
          .word 0x39 0x014, .word 0x39 0x078, .word 0x39 0x0AC, .word 0x4C 0x014, .word 0x4C 0x050, .word 0x4C 0x04C, .word
          0x4C 0x048, .word 0x4C 0x044, .page 0x41, .page 0x3A, .page 0x3B, .word 0x4A 0x058, .word 0x4A 0x050, .word 0x4A
          0x014, .page 0x11, .word 0x22 0x054, .word 0x22 0x050, .word 0x22 0x058, .page 0x80, .word 0x30 0x0B8, .word 0x30
          0x014, .word 0x32 0x0A8, .word 0x32 0x014, .page 0x33, .word 0x40 0x074, .word 0x40 0x078, .word 0x45 0x04C, .word
          0x45 0x014, .word 0x45 0x048, .word 0x48 0x04C, .word 0x03 0x04C] : List Scope) ++ headScopes ++ airScopes)
          (([.wear, .boot, .campaigns, .frames, .duty, .ledger, .nodes, .fes, .frameNumbers, .notices, .ports, .ddr, .rings,
          .clock, .rope, .lanes, .scheds, .relief, .reasm, .keyOp, .jobs, .copy, .fw, .poolTest, .delivered] : List Part) ++
          airParts) s t)) ∧
  (∀ (s : State),
      Gives .pwrRestored s (fun t =>
        rd F.PWR.PWR_FAIL_LEVEL t = 1 ∧
        (2 ≤ rd F.CANARY.BIVOUAC_STATE s → eventLatched 0x02 4 t) ∧
        Within (([.word 0x02 0x058, .word 0x02 0x014, .page 0x10, .word 0x08 0x05C, .word 0x08 0x04C, .word 0x09 0x05C,
          .word 0x09 0x04C, .word 0x0A 0x05C, .word 0x0A 0x04C, .word 0x0B 0x05C, .word 0x0B 0x04C, .word 0x40 0x04C,
          .word 0x40 0x050, .word 0x42 0x040, .word 0x42 0x044, .word 0x42 0x048, .word 0x42 0x04C, .word 0x44 0x058,
          .word 0x46 0x050, .word 0x46 0x054, .word 0x46 0x058, .word 0x46 0x05C, .word 0x46 0x070] : List Scope) ++
          headScopes ++ airScopes) (([.fes, .boot, .hostData, .mem] : List Part) ++ airParts) s t)) ∧
  (∀ (s : State),
      Gives .xo32kFault s (fun t =>
        t.watch.xoRunning = false ∧
        rawSet 0x03 1 t = true ∧
        Within [.word 0x03 0x014, .word 0x03 0x010, .word 0x3C 0x070] [.watch] s t)) ∧
  (∀ (s : State),
      Gives .xo32kReturn s (fun t =>
        t.watch.xoRunning = true ∧
        rawSet 0x03 1 t = false ∧
        Within [.word 0x03 0x014, .word 0x03 0x010] [.watch] s t)) ∧
  (∀ (s : State),
      Gives .refclkAbsent s (fun t =>
        t.watch.refclkAbsent = true ∧
        rawSet 0x03 0 t = true ∧
        Within (([.word 0x03 0x014, .word 0x03 0x010, .page 0x31, .page 0x24, .page 0x25, .page 0x26, .page 0x27, .page
          0x10, .word 0x08 0x05C, .word 0x08 0x04C, .word 0x09 0x05C, .word 0x09 0x04C, .word 0x0A 0x05C, .word 0x0A
          0x04C, .word 0x0B 0x05C, .word 0x0B 0x04C, .word 0x19 0x0B4, .word 0x20 0x0D0, .word 0x20 0x0D4, .word 0x20
          0x0D8, .word 0x20 0x0DC, .page 0x1B, .word 0x21 0x050, .word 0x21 0x04C, .word 0x01 0x014, .word 0x01 0x040,
          .word 0x3C 0x070, .word 0x08 0x014, .word 0x08 0x098, .word 0x09 0x014, .word 0x09 0x098, .word 0x0A 0x014,
          .word 0x0A 0x098, .word 0x0B 0x098] : List Scope) ++ airScopes) (([.duty, .fes, .frames, .ledger, .nodes,
          .watch, .plls] : List Part) ++ airParts) s t)) ∧
  (∀ (count : Nat) (s : State),
      Gives (.refclkCoarseCheck count) s (fun t =>
        rawSet 0x03 0 t = (rawSet 0x03 0 s || decide (48828 * (if s.watch.xoRunning then 2 else 150) < 1000 * Machine.dist (10 * count) 48828)) ∧
        Within (([.word 0x03 0x014, .word 0x03 0x010, .page 0x31, .page 0x24, .page 0x25, .page 0x26, .page 0x27, .page
          0x10, .word 0x08 0x05C, .word 0x08 0x04C, .word 0x09 0x05C, .word 0x09 0x04C, .word 0x0A 0x05C, .word 0x0A 0x04C,
          .word 0x0B 0x05C, .word 0x0B 0x04C, .word 0x19 0x0B4, .word 0x20 0x0D0, .word 0x20 0x0D4, .word 0x20 0x0D8, .word
          0x20 0x0DC, .page 0x1B, .word 0x21 0x050, .word 0x21 0x04C] : List Scope) ++ airScopes) (([.duty, .fes, .frames,
          .ledger, .nodes] : List Part) ++ airParts) s t)) ∧
  (∀ (count : Nat) (s : State),
      rawSet 0x03 1 s = false →
      rd F.CLK.XO32K_RATIO_LEARNED s = 1 →
      Gives (.refclkFineGate count) s (fun t =>
        rawSet 0x03 0 t = decide (rd F.CLK.XO32K_RATIO s < Machine.dist count (rd F.CLK.XO32K_RATIO s) * 20000) ∧
        rd F.CLK.REFCLK_PPM_VALID t = 1 ∧
        Within (([.word 0x01 0x050, .word 0x01 0x04C, .word 0x03 0x014, .word 0x03 0x010, .page 0x31, .page 0x24, .page
          0x25, .page 0x26, .page 0x27, .page 0x10, .word 0x08 0x05C, .word 0x08 0x04C, .word 0x09 0x05C, .word 0x09 0x04C,
          .word 0x0A 0x05C, .word 0x0A 0x04C, .word 0x0B 0x05C, .word 0x0B 0x04C, .word 0x19 0x0B4, .word 0x20 0x0D0, .word
          0x20 0x0D4, .word 0x20 0x0D8, .word 0x20 0x0DC, .page 0x1B, .word 0x21 0x050, .word 0x21 0x04C] : List Scope) ++
          airScopes) (([.watch, .duty, .fes, .frames, .ledger, .nodes] : List Part) ++ airParts) s t)) ∧
  (∀ (count : Nat) (s : State),
      rawSet 0x03 1 s = false →
      rd F.CLK.XO32K_RATIO_LEARNED s = 0 →
      Machine.dist count 40000000 ≤ 10000 →
      Gives (.refclkFineGate count) s (fun t =>
        rawSet 0x03 0 t = false ∧
        rd F.CLK.XO32K_RATIO t = count ∧
        rd F.CLK.XO32K_RATIO_LEARNED t = 1 ∧
        Within (([.word 0x01 0x050, .word 0x01 0x04C, .word 0x03 0x014, .word 0x03 0x010, .page 0x31, .page 0x24, .page
          0x25, .page 0x26, .page 0x27, .page 0x10, .word 0x08 0x05C, .word 0x08 0x04C, .word 0x09 0x05C, .word 0x09 0x04C,
          .word 0x0A 0x05C, .word 0x0A 0x04C, .word 0x0B 0x05C, .word 0x0B 0x04C, .word 0x19 0x0B4, .word 0x20 0x0D0, .word
          0x20 0x0D4, .word 0x20 0x0D8, .word 0x20 0x0DC, .page 0x1B, .word 0x21 0x050, .word 0x21 0x04C] : List Scope) ++
          airScopes) (([.watch, .duty, .fes, .frames, .ledger, .nodes] : List Part) ++ airParts) s t)) ∧
  (∀ (s : State),
      s.watch.refclkAbsent = true →
      s.boot.held = false →
      resetNow s = false →
      Gives .refclkRestored s (fun t =>
        t.watch.refclkAbsent = false ∧
        rd F.MGMT.START_RESET_KIND t = R_WARM ∧
        rd F.MGMT.START_WARM_SOURCE t = 4)) ∧
  (∀ (ppm100 : Int) (s : State),
      Gives (.sdsrefMeasurement ppm100) s (fun t =>
        rd F.CLK.SDSREF_PPM_VALID t = 1 ∧
        rdInt F.CLK.SDSREF_PPM t = clamp (-32768) 32767 ppm100 ∧
        rawSet 0x01 1 t = decide (20000 < ppm100.natAbs) ∧
        Within [.word 0x01 0x054, .word 0x01 0x014, .word 0x01 0x010] [] s t)) ∧
  (∀ (t0 : Int) (t1 : Int) (t2 : Int) (t3 : Int) (s : State),
      Gives (.tempSample t0 t1 t2 t3) s (fun t =>
        rdInt (F.PWR.TEMP_VALUE 0) t = clamp (-2048) 2047 t0 ∧
        rdInt (F.PWR.TEMP_VALUE 3) t = clamp (-2048) 2047 t3 ∧
        rd (F.PWR.TEMP_VALID 2) t = 1 ∧
        Within [.page 0x02, .page 0x24, .page 0x25, .page 0x26, .page 0x27] [.duty, .fes, .frames, .scheds] s t))

/-- A PLL starts on request, locks, unlocks while requested and powers down after its hold (R67, R68, R69). PLL_REQUEST
starts a PLL that is off and leaves one that runs; PLL_LOCK locks a starting PLL and shows it; PLL_HOLD_EXPIRY powers a
PLL down that no condition holds leaves the phase of one that is held, and powers down only at the next expiry one that
was requested meanwhile; PLL_UNLOCK returns a locked PLL to starting and latches the loss, and one that nothing asks for
to off without a latch. -/
def Obligations.PllsOnDemand : Prop :=
  (∀ (pll : Fin 7) (s : State),
      Gives (.pllRequest pll) s (fun t =>
        (look t.plls pll.val {}).requested = true ∧
        (look t.plls pll.val {}).phase = (if (look s.plls pll.val {}).phase = .off then .starting else (look s.plls pll.val {}).phase) ∧
        Within [] [.plls] s t)) ∧
  (∀ (pll : Fin 7) (s : State),
      (look s.plls pll.val {}).phase = .starting →
      (s.watch.refclkAbsent && corePlls.contains pll.val) = false →
      Gives (.pllLock pll) s (fun t =>
        (look t.plls pll.val {}).phase = .locked ∧
        (rd F.CLK.PLL_STATUS_LOCK t).testBit pll.val = true ∧
        Within [.word 0x01 0x040] [.plls] s t)) ∧
  (∀ (pll : Fin 7) (s : State),
      pllHeld pll.val s = false →
      (look s.plls pll.val {}).requested = false →
      Gives (.pllHoldExpiry pll) s (fun t =>
        (look t.plls pll.val {}).phase = .off ∧
        (rd F.CLK.PLL_STATUS_LOCK t).testBit pll.val = false ∧
        Within [.word 0x01 0x040] [.plls] s t)) ∧
  (∀ (pll : Fin 7) (s : State),
      pllHeld pll.val s = true ∨ (look s.plls pll.val {}).requested = true →
      Gives (.pllHoldExpiry pll) s (fun t =>
        (look t.plls pll.val {}).phase = (look s.plls pll.val {}).phase ∧
        (look t.plls pll.val {}).requested = false ∧
        rd F.CLK.PLL_STATUS_LOCK t = rd F.CLK.PLL_STATUS_LOCK s ∧
        Within [.word 0x01 0x040] [.plls] s t)) ∧
  (∀ (pll : Fin 7) (s : State),
      (look s.plls pll.val {}).phase = .locked →
      pllRequested pll.val s = true →
      Gives (.pllUnlock pll) s (fun t =>
        (look t.plls pll.val {}).phase = .starting ∧
        (rd F.CLK.PLL_STATUS_LOCK t).testBit pll.val = false ∧
        (rd F.CLK.PLL_STATUS_UNLOCK_SEEN t).testBit pll.val = true ∧
        eventLatched 0x01 0 t ∧
        Within [.word 0x01 0x014, .word 0x01 0x040] [.plls] s t)) ∧
  (∀ (pll : Fin 7) (s : State),
      (look s.plls pll.val {}).phase = .locked →
      pllRequested pll.val s = false →
      Gives (.pllUnlock pll) s (fun t =>
        (look t.plls pll.val {}).phase = (if pllHeld pll.val s then .starting else .off) ∧
        (rd F.CLK.PLL_STATUS_LOCK t).testBit pll.val = false ∧
        rd F.CLK.PLL_STATUS_UNLOCK_SEEN t = rd F.CLK.PLL_STATUS_UNLOCK_SEEN s ∧
        Within [.word 0x01 0x014, .word 0x01 0x040] [.plls] s t))

/-- Register writes, rejected writes and read-to-clear reads (R9, R75, R76, R88, R91). REGISTER_WRITE over BAR0 with
every byte enabled stores the scratch word; a write that sets a reserved bit is recorded in REJECT_ADDR, REJECT_DATA and
REJECT_COUNT, latches bit 31 and changes nothing else; a write of BAR4 beyond the TRUST registers with the lock closed
changes no secret; RC_COUNTER_READ returns a read-to-clear counter and clears it; MGMT_SPI_READ of an address that
cannot be used replies zeros and reports it; MGMT_SPI_READ of another replies one word for each asked; MGMT_SPI_WRITE
stores the scratch word; and where the address cannot be used reports the words as rejected. -/
def Obligations.RegisterAccesses : Prop :=
  (∀ (bar : Bar) (addr : Nat) (byteEn : BitVec 4) (data : Word) (s : State),
      bar = .bar0 →
      addr = 0x4E04C →
      byteEn = 15 →
      Calm s = true →
      Gives (.registerWrite bar addr byteEn data) s (fun t =>
        rd F.MGMT.SCRATCH t = data.toNat ∧
        Within [.word 0x4E 0x04C] [] s t)) ∧
  (∀ (bar : Bar) (addr : Nat) (byteEn : BitVec 4) (data : Word) (s : State),
      bar = .bar0 →
      isPage (addr / 4096) = true →
      addr % 4 = 0 →
      addr % 4096 ≠ 0x008 →
      addr % 4096 ≠ 0x01C →
      byteEn = 15 →
      refusal (addr / 4096) (addr % 4096) .bar0 data.toNat s = some .reservedBit →
      Calm s = true →
      Gives (.registerWrite bar addr byteEn data) s (fun t =>
        rd (F.HEAD.REJECT_ADDR_OFFSET (addr / 4096)) t = addr % 4096 ∧
        rd (F.HEAD.REJECT_ADDR_REASON (addr / 4096)) t = 2 ∧
        rd (F.HEAD.REJECT_ADDR_ROUTE (addr / 4096)) t = 0 ∧
        rd (F.HEAD.REJECT_DATA (addr / 4096)) t = data.toNat ∧
        rd (F.HEAD.REJECT_COUNT (addr / 4096)) t = min (rd (F.HEAD.REJECT_COUNT (addr / 4096)) s + 1) 65535 ∧
        eventLatched (addr / 4096) 31 t ∧
        Within [.word (addr / 4096) 0x020, .word (addr / 4096) 0x024, .word (addr / 4096) 0x028, .word (addr / 4096) 0x014]
          [] s t)) ∧
  (∀ (bar : Bar) (addr : Nat) (byteEn : BitVec 4) (data : Word) (s : State),
      bar = .bar4 →
      0x200 ≤ addr →
      lockOpen s = false →
      Calm s = true →
      Gives (.registerWrite bar addr byteEn data) s (fun t =>
        t.root = s.root ∧
        Within [.page 0x80, .page 0x30] [] s t)) ∧
  (∀ (route : Route) (span : ReadSpan) (s : State),
      reaches (span.addr / 4096) route = true →
      span.addr % 4096 = 0x028 →
      Gives (.rcCounterRead route span) s (fun t =>
        t.readData.toNat = rd (F.HEAD.REJECT_COUNT (span.addr / 4096)) s % 2 ^ 32 ∧
        rd (F.HEAD.REJECT_COUNT (span.addr / 4096)) t = 0 ∧
        Within [.word (span.addr / 4096) 0x028] [.readData] s t)) ∧
  (∀ (mode3 : Bool) (addr : Nat) (words : Nat) (s : State),
      spiUsable addr = false →
      Gives (.mgmtSpiRead mode3 addr words) s (fun t =>
        t.spi.reply = List.replicate words 0 ∧
        t.spi.unusable = true ∧
        rd F.MGMT.SPI_STATUS_MODE3 t = (if mode3 then 1 else 0) ∧
        Within [.word 0x4E 0x040, .word 0x4E 0x044, .word 0x4E 0x014] [.spi] s t)) ∧
  (∀ (mode3 : Bool) (addr : Nat) (words : Nat) (s : State),
      spiUsable addr = true →
      Gives (.mgmtSpiRead mode3 addr words) s (fun t =>
        t.spi.reply.length = words ∧
        t.spi.active = true ∧
        t.spi.writing = false)) ∧
  (∀ (mode3 : Bool) (addr : Nat) (data : List Word) (s : State),
      addr = 0x4E04C →
      data.length = 1 →
      Calm s = true →
      Gives (.mgmtSpiWrite mode3 addr data) s (fun t =>
        rd F.MGMT.SCRATCH t = (data.getD 0 0).toNat ∧
        t.spi.writing = true ∧
        Within [.word 0x4E 0x040, .word 0x4E 0x04C] [.spi] s t)) ∧
  (∀ (mode3 : Bool) (addr : Nat) (data : List Word) (s : State),
      spiUsable addr = false →
      Calm s = true →
      Gives (.mgmtSpiWrite mode3 addr data) s (fun t =>
        t.spi.unusable = true ∧
        t.spi.rejected = !data.isEmpty ∧
        eventLatched 0x4E 0 t ∧
        Within [.word 0x4E 0x040, .word 0x4E 0x044, .word 0x4E 0x014] [.spi] s t))

/-- CTRL writes enable, disable, stop, test and lock a page (R73, R79, R80, R81, R82, R83, R84). CTRL_ENABLE of a page
in OFF or STOPPED starts it; of a draining page returns it to RUN; CTRL_DISABLE of a starting page stops it; of a
running page drains it, and the pages that hold no work stop at once; FORCE_STOP stops a starting page, and a running
page that has nothing in flight, and resets a page that is already stopped and disabled; SELF_TEST_REQ tests a stopped
page; CTRL_LOCK locks a page and moves nothing. -/
def Obligations.PageControl : Prop :=
  (∀ (pg : Nat) (route : Route) (s : State),
      reaches pg route = true →
      pg ∈ fullPages →
      ctrlRefused pg route 1 s = none →
      rd (F.HEAD.CTRL_ENABLE pg) s = 0 →
      pageState pg s = OFF ∨ pageState pg s = STOPPED →
      Calm s = true →
      Gives (.ctrlEnable pg route) s (fun t =>
        pageState pg t = STARTING ∧
        rd (F.HEAD.CTRL_ENABLE pg) t = 1 ∧
        rd (F.HEAD.STATE_DRAINED pg) t = 0)) ∧
  (∀ (pg : Nat) (route : Route) (s : State),
      reaches pg route = true →
      pg ∈ fullPages →
      ctrlRefused pg route 1 s = none →
      rd (F.HEAD.CTRL_ENABLE pg) s = 0 →
      pageState pg s = DRAINING →
      Calm s = true →
      Gives (.ctrlEnable pg route) s (fun t =>
        pageState pg t = RUN ∧
        rd (F.HEAD.CTRL_ENABLE pg) t = 1 ∧
        Within (([.word pg 0x014, .word pg 0x00C, .page 0x10, .word 0x08 0x05C, .word 0x08 0x04C, .word 0x09 0x05C, .word
          0x09 0x04C, .word 0x0A 0x05C, .word 0x0A 0x04C, .word 0x0B 0x05C, .word 0x0B 0x04C, .word 0x38 0x070, .word 0x38
          0x074, .word 0x38 0x014, .word 0x38 0x078, .word 0x38 0x0AC, .word 0x39 0x070, .word 0x39 0x074, .word 0x39 0x014,
          .word 0x39 0x078, .word 0x39 0x0AC, .word 0x4C 0x014, .word 0x4C 0x050, .word 0x4C 0x04C, .word 0x4C 0x048, .word
          0x4C 0x044, .word 0x20 0x0D0, .word 0x20 0x0D4, .word 0x20 0x0D8, .word 0x20 0x0DC, .page 0x1B, .page 0x41, .page
          0x3A, .page 0x3B, .page 0x24, .page 0x25, .page 0x26, .page 0x27] : List Scope) ++ airScopes) (([.fes, .notices,
          .ports, .nodes, .ledger, .ddr, .rings] : List Part) ++ airParts) s t)) ∧
  (∀ (pg : Nat) (route : Route) (s : State),
      reaches pg route = true →
      pg ∈ fullPages →
      ctrlRefused pg route 0 s = none →
      rd (F.HEAD.CTRL_ENABLE pg) s = 1 →
      pageState pg s = STARTING →
      Calm s = true →
      Gives (.ctrlDisable pg route) s (fun t =>
        pageState pg t = STOPPED ∧
        rd (F.HEAD.CTRL_ENABLE pg) t = 0 ∧
        rd (F.HEAD.STATE_DRAINED pg) t = 1)) ∧
  (∀ (pg : Nat) (route : Route) (s : State),
      reaches pg route = true →
      pg ∈ fullPages →
      ctrlRefused pg route 0 s = none →
      rd (F.HEAD.CTRL_ENABLE pg) s = 1 →
      pageState pg s = RUN →
      Calm s = true →
      Gives (.ctrlDisable pg route) s (fun t =>
        pageState pg t = (if stopsAtOnce pg then STOPPED else DRAINING) ∧
        rd (F.HEAD.CTRL_ENABLE pg) t = 0 ∧
        Within (([.word pg 0x030, .word pg 0x014, .word pg 0x00C, .page 0x10, .word 0x08 0x05C, .word 0x08 0x04C, .word 0x09
          0x05C, .word 0x09 0x04C, .word 0x0A 0x05C, .word 0x0A 0x04C, .word 0x0B 0x05C, .word 0x0B 0x04C, .word 0x38 0x070,
          .word 0x38 0x074, .word 0x38 0x014, .word 0x38 0x078, .word 0x38 0x0AC, .word 0x39 0x070, .word 0x39 0x074, .word
          0x39 0x014, .word 0x39 0x078, .word 0x39 0x0AC, .word 0x4C 0x014, .word 0x4C 0x050, .word 0x4C 0x04C, .word 0x4C
          0x048, .word 0x4C 0x044, .word 0x20 0x0D0, .word 0x20 0x0D4, .word 0x20 0x0D8, .word 0x20 0x0DC, .page 0x1B, .page
          0x41, .page 0x3A, .page 0x3B, .word 0x4A 0x058, .word 0x4A 0x050, .word 0x4A 0x014, .page 0x24, .page 0x25, .page
          0x26, .page 0x27, .page 0x29, .word 0x19 0x0B4, .word 0x21 0x050, .word 0x21 0x04C, .page 0x31, .word 0x0C 0x014,
          .word 0x0C 0x04C] : List Scope) ++ airScopes) (([.poolTest, .relief, .fes, .notices, .ports, .nodes, .ledger,
          .ddr, .rings, .clock, .rope, .scheds, .duty, .frames, .campaigns, .frameNumbers] : List Part) ++ airParts) s t)) ∧
  (∀ (pg : Nat) (route : Route) (keep : Bool) (s : State),
      reaches pg route = true →
      pg ∈ fullPages →
      ctrlRefused pg route (2 + (if keep then enableBit pg s else 0)).toNat s = none →
      pageState pg s = STARTING →
      Calm s = true →
      Gives (.forceStop pg route keep) s (fun t =>
        pageState pg t = STOPPED)) ∧
  (∀ (pg : Nat) (route : Route) (keep : Bool) (s : State),
      reaches pg route = true →
      pg ∈ fullPages →
      ctrlRefused pg route (2 + (if keep then enableBit pg s else 0)).toNat s = none →
      pageState pg s = STOPPED ∨ pageState pg s = FAULT →
      keep = false →
      Calm s = true →
      Gives (.forceStop pg route keep) s (fun t =>
        pageState pg t = OFF ∧
        rd (F.HEAD.CTRL_ENABLE pg) t = 0)) ∧
  (∀ (pg : Nat) (route : Route) (s : State),
      reaches pg route = true →
      pg ∈ fullPages →
      ctrlRefused pg route (4 + enableBit pg s).toNat s = none →
      pageState pg s = STOPPED →
      Calm s = true →
      Gives (.selfTestReq pg route) s (fun t =>
        pageState pg t = TEST ∧
        rd (F.HEAD.TEST_STATUS_RESULT pg) t = T_RUNNING)) ∧
  (∀ (pg : Nat) (route : Route) (s : State),
      reaches pg route = true →
      ctrlRefused pg route (8 + enableBit pg s).toNat s = none →
      Calm s = true →
      Gives (.ctrlLock pg route) s (fun t =>
        rd (F.HEAD.CTRL_LOCK pg) t = 1 ∧
        pageState pg t = pageState pg s ∧
        Within [.word pg 0x008] [] s t))

/-- A page reaches RUN, STOPPED and FAULT, and its self-test ends, as the page state machine says (R80, R81, R84, R85,
R97). START_SEQUENCE_DONE runs a starting page; DRAIN_COMPLETE stops a page that has drained; before that it does
nothing; BLOCK_FAULT faults a page with nothing in flight; SELF_TEST_DONE stops the page with PASSED or faults it with
FAILED; SELF_TEST_WAIT_EXPIRY ends a waiting test with NO_RESERVE. -/
def Obligations.PageTransitions : Prop :=
  (∀ (pg : Nat) (failure : Option Byte) (s : State),
      isPage pg = true →
      pageState pg s = STARTING →
      feOf pg = none →
      pg ≠ 0x44 →
      failure = none →
      Calm s = true →
      Gives (.startSequenceDone pg failure) s (fun t =>
        pageState pg t = RUN ∧
        Within (([.word pg 0x030, .word pg 0x014, .word pg 0x00C, .word 0x08 0x030, .word 0x08 0x04C, .word 0x08 0x05C,
          .word 0x08 0x014, .word 0x08 0x00C, .word 0x08 0x078, .word 0x09 0x030, .word 0x09 0x04C, .word 0x09 0x05C, .word
          0x09 0x014, .word 0x09 0x00C, .word 0x09 0x078, .word 0x0A 0x030, .word 0x0A 0x04C, .word 0x0A 0x05C, .word 0x0A
          0x014, .word 0x0A 0x00C, .word 0x0A 0x078, .word 0x0B 0x030, .word 0x0B 0x04C, .word 0x0B 0x05C, .word 0x0B 0x014,
          .word 0x0B 0x00C, .word 0x0B 0x050, .word 0x0B 0x078, .page 0x24, .page 0x25, .page 0x26, .page 0x27, .page 0x10,
          .page 0x31, .word 0x19 0x0B4, .word 0x19 0x0A4, .word 0x19 0x0A8, .word 0x19 0x0AC, .word 0x19 0x0B0, .word 0x19
          0x0B8, .word 0x20 0x0D0, .word 0x20 0x0D4, .word 0x20 0x0D8, .word 0x20 0x0DC, .word 0x20 0x058, .page 0x1B, .word
          0x21 0x050, .word 0x21 0x04C, .page 0x11, .page 0x41, .word 0x4C 0x014, .word 0x4C 0x050, .word 0x4C 0x04C, .word
          0x4C 0x048, .word 0x4C 0x044, .word 0x22 0x054, .word 0x22 0x050, .word 0x22 0x058, .page 0x29, .word 0x0C 0x014,
          .word 0x0C 0x04C, .page 0x80, .word 0x30 0x0B8, .word 0x30 0x014, .word 0x32 0x0A8, .word 0x32 0x014, .page 0x33,
          .page 0x3A, .page 0x3B, .word 0x38 0x0AC, .word 0x38 0x070, .word 0x38 0x074, .word 0x38 0x014, .word 0x38 0x078,
          .word 0x39 0x0AC, .word 0x39 0x070, .word 0x39 0x074, .word 0x39 0x014, .word 0x39 0x078, .word 0x40 0x074, .word
          0x40 0x078, .word 0x45 0x04C, .word 0x45 0x014, .word 0x45 0x048, .word 0x48 0x04C, .word 0x4A 0x058, .word 0x4A
          0x050, .word 0x4A 0x014] : List Scope) ++ airScopes) (([.poolTest, .relief, .fes, .scheds, .duty, .frames,
          .ledger, .nodes, .lanes, .ddr, .rings, .notices, .reasm, .campaigns, .frameNumbers, .keyOp, .jobs, .ports, .clock,
          .copy, .fw, .rope] : List Part) ++ airParts) s t)) ∧
  (∀ (pg : Nat) (s : State),
      isPage pg = true →
      pageState pg s = DRAINING →
      pageDrained pg s = true →
      Calm s = true →
      Gives (.drainComplete pg) s (fun t =>
        pageState pg t = STOPPED ∧
        rd (F.HEAD.STATE_DRAINED pg) t = 1)) ∧
  (∀ (pg : Nat) (s : State),
      isPage pg = true →
      pageDrained pg s = false →
      Calm s = true →
      Gives (.drainComplete pg) s (fun t =>
        pageState pg t = pageState pg s ∧
        rd (F.HEAD.STATE_DRAINED pg) t = rd (F.HEAD.STATE_DRAINED pg) s ∧
        Within [] [] s t)) ∧
  (∀ (pg : Nat) (s : State),
      isPage pg = true →
      headOnly pg = false →
      feOf pg = none →
      pageState pg s ≠ OFF →
      pageState pg s ≠ RETIRED →
      pageDrained pg s = true →
      Calm s = true →
      Gives (.blockFault pg) s (fun t =>
        pageState pg t = FAULT ∧
        (eventLatched pg 29 t ∨ pageState pg s = FAULT))) ∧
  (∀ (pg : Nat) (failure : Option Byte) (s : State),
      isPage pg = true →
      pageState pg s = TEST →
      feOf pg = none →
      rd (F.HEAD.TEST_STATUS_RESULT pg) s = T_RUNNING →
      Calm s = true →
      Gives (.selfTestDone pg failure) s (fun t =>
        pageState pg t = (if failure.isSome then FAULT else STOPPED) ∧
        rd (F.HEAD.TEST_STATUS_RESULT pg) t = (if failure.isSome then T_FAILED else T_PASSED) ∧
        Within (([.word pg 0x030, .word pg 0x014, .word pg 0x00C, .word 0x08 0x030, .word 0x08 0x04C, .word 0x08 0x05C,
          .word 0x08 0x014, .word 0x08 0x00C, .word 0x08 0x07C, .word 0x08 0x078, .word 0x09 0x030, .word 0x09 0x04C,
          .word 0x09 0x05C, .word 0x09 0x014, .word 0x09 0x00C, .word 0x09 0x07C, .word 0x09 0x078, .word 0x0A 0x030,
          .word 0x0A 0x04C, .word 0x0A 0x05C, .word 0x0A 0x014, .word 0x0A 0x00C, .word 0x0A 0x07C, .word 0x0A 0x078,
          .word 0x0B 0x030, .word 0x0B 0x04C, .word 0x0B 0x05C, .word 0x0B 0x014, .word 0x0B 0x00C, .word 0x0B 0x07C,
          .word 0x0B 0x078, .page 0x24, .page 0x25, .page 0x26, .page 0x27, .page 0x10, .page 0x31, .word 0x05 0x014,
          .word 0x05 0x06C, .page 0x05] : List Scope) ++ airScopes) (([.fes, .scheds, .duty, .frames, .relief, .engines] :
          List Part) ++ airParts) s t)) ∧
  (∀ (pg : Nat) (s : State),
      isPage pg = true →
      rd (F.HEAD.TEST_STATUS_RESULT pg) s = T_WAITING →
      pg ≠ 0x31 →
      Calm s = true →
      Gives (.selfTestWaitExpiry pg) s (fun t =>
        rd (F.HEAD.TEST_STATUS_RESULT pg) t = T_NO_RESERVE ∧
        eventLatched pg 29 t ∧
        Within (([.word pg 0x030, .word pg 0x014, .word 0x08 0x078, .word 0x09 0x078, .word 0x0A 0x078, .word 0x0B 0x078]
          : List Scope) ++ airScopes) (([.poolTest, .relief] : List Part) ++ airParts) s t))

/-- Forced events, MSI-X holdoff, unmask and enable, and the acknowledgement of management events (R96, R98, R99, R100).
EVT_FORCE latches bits with a source and leaves the live conditions; HOLDOFF_EXPIRY without a merged assertion sends
nothing; with one for a vector that still stands it sends one message; MSIX_UNMASK unmasks a vector or the function and
leaves no unmasked vector pending; MSIX_ENABLE enables MSI-X; with the link down each asserted vector becomes pending;
MGMT_ACK acknowledges the asserted sources of its group. -/
def Obligations.EventPath : Prop :=
  (∀ (pg : Nat) (route : Route) (bits : Word) (s : State),
      reaches pg route = true →
      bits.toNat &&& pageEventBits pg = bits.toNat →
      early pg s = false →
      spiReadOnly pg route = false →
      Gives (.evtForce pg route bits) s (fun t =>
        rd (F.HEAD.EVT_LATCH pg) t = (rd (F.HEAD.EVT_LATCH pg) s ||| bits.toNat) % 2 ^ 32 ∧
        rd (F.HEAD.EVT_RAW pg) t = rd (F.HEAD.EVT_RAW pg) s ∧
        Within [.word pg 0x014] [] s t)) ∧
  (∀ (vec : Fin 32) (s : State),
      s.msix.merged.getLsbD vec.val = false →
      Gives (.holdoffExpiry vec) s (fun t =>
        t.msix.holdRun.getLsbD vec.val = false ∧
        rd F.EVT.MSG_COUNT t = rd F.EVT.MSG_COUNT s ∧
        Within [.word 0x04 0x06C] [] s t)) ∧
  (∀ (vec : Fin 32) (s : State),
      s.msix.merged.getLsbD vec.val = true →
      vecStatus vec.val s = true →
      s.msix.enabled = true →
      vecMasked vec.val s = false →
      Gives (.holdoffExpiry vec) s (fun t =>
        rd F.EVT.MSG_COUNT t = (rd F.EVT.MSG_COUNT s + 1) % 2 ^ 32 ∧
        t.msix.last = some vec.val ∧
        t.msix.merged.getLsbD vec.val = false ∧
        Within [.word 0x04 0x06C] [] s t)) ∧
  (∀ (vec : Option (Fin 32)) (s : State),
      s.msix.enabled = true →
      s.msix.link = true →
      s.msix.master = true →
      s.msix.funcMask = false ∨ vec = none →
      Gives (.msixUnmask vec) s (fun t =>
        (match vec with
              | some v => !t.msix.vecMask.getLsbD v.val && !t.msix.pending.getLsbD v.val
              | none => !t.msix.funcMask && (t.msix.pending &&& ~~~t.msix.vecMask) == 0) = true ∧
        Within [.word 0x04 0x06C] [] s t)) ∧
  (∀ (control : MsixControl) (s : State),
      Gives (.msixEnable control) s (fun t =>
        t.msix.enabled = control.enable ∧
        t.msix.funcMask = control.funcMask ∧
        t.msix.master = control.busMaster ∧
        (control.enable = true → s.msix.enabled = false → s.msix.link = false →
          ∀ v ∈ List.range 32, vecStatus v s = true → t.msix.pending.getLsbD v = true) ∧
        Within [.word 0x04 0x06C] [] s t)) ∧
  (∀ (group : Fin 8) (bits : Word) (s : State),
      Accepted 0x04 (0x0A0 + 4 * group.val) bits.toNat s →
      Gives (.mgmtAck group bits) s (fun t =>
        (∀ b ∈ List.range 32, bits.getLsbD b = true → srcAsserted (32 * group.val + b) s = true → t.acked.getLsbD (32 *
          group.val + b) = true) ∧
        Within [] [] s t))

/-- SPI status, quad mode, GPIO, I2C1 and boundary scan (R91, R92, R93, R94, R95). MGMT_SPI_STATUS sends the status
octet and clears what it reports; QUAD_ON and QUAD_OFF switch quad mode; MGMT_SPI_CS_RISE ends the transaction and
discards a partial final word of a write; GPIO_EDGE shows the level on an input and, with the edge enabled, sets its
EDGE bit and the event, while a ball that the device drives keeps its level; I2C1_CMD starts a transaction; I2C1_DONE
and I2C1_TIMEOUT end it with their results; EXTEST, CLAMP and HIGHZ are selected in MANUFACTURE and base camp and act as
BYPASS otherwise; SAMPLE_PRELOAD is selected and loads the boundary register; IDCODE, BYPASS and JTAG_TRST select their
instructions. -/
def Obligations.ManagementPorts : Prop :=
  (∀ (mode3 : Bool) (s : State),
      Gives (.mgmtSpiStatus mode3) s (fun t =>
        t.spi.sentStatus = BitVec.ofNat 8 (spiStatusOctet s) ∧
        t.spi.rejected = false ∧
        t.spi.unusable = false ∧
        t.spi.partialWord = false ∧
        Within [.word 0x4E 0x040] [.spi] s t)) ∧
  (∀ (mode3 : Bool) (s : State),
      Gives (.quadOn mode3) s (fun t =>
        rd F.MGMT.SPI_STATUS_QUAD t = 1 ∧
        Within [.word 0x4E 0x040] [.spi] s t)) ∧
  (∀ (mode3 : Bool) (s : State),
      Gives (.quadOff mode3) s (fun t =>
        rd F.MGMT.SPI_STATUS_QUAD t = 0 ∧
        Within [.word 0x4E 0x040] [.spi] s t)) ∧
  (∀ (partialBits : Nat) (s : State),
      s.spi.active = true →
      s.spi.writing = true →
      partialBits % 32 ≠ 0 →
      Gives (.mgmtSpiCsRise partialBits) s (fun t =>
        t.spi.active = false ∧
        t.spi.partialWord = true ∧
        t.spi.rejected = true ∧
        Within [.word 0x4E 0x014, .word 0x4E 0x044] [.spi] s t)) ∧
  (∀ (partialBits : Nat) (s : State),
      s.spi.writing = false →
      Gives (.mgmtSpiCsRise partialBits) s (fun t =>
        t.spi.active = false ∧
        t.spi.partialWord = s.spi.partialWord ∧
        Within [.word 0x4E 0x014, .word 0x4E 0x044] [.spi] s t)) ∧
  (∀ (ball : Fin 16) (level : Bool) (s : State),
      Gives (.gpioEdge ball level) s (fun t =>
        (rd F.MGMT.GPIO_IN t).testBit ball.val = (if gpioInput ball.val s then level else (rd F.MGMT.GPIO_IN s).testBit
          ball.val) ∧
        ((rd F.MGMT.GPIO_IN s).testBit ball.val = !level → gpioInput ball.val s = true → (rd (if level then
          F.MGMT.GPIO_EDGE_EN_RISE else F.MGMT.GPIO_EDGE_EN_FALL) s).testBit ball.val = true → (rd F.MGMT.GPIO_EDGE
          t).testBit ball.val = true ∧ rawSet 0x4E 1 t = true) ∧
        Within [.word 0x4E 0x108, .word 0x4E 0x010, .word 0x4E 0x014, .word 0x4E 0x114] [] s t)) ∧
  (∀ (route : Route) (data : Word) (s : State),
      data.toNat / 512 % 128 = 0 →
      rd F.MGMT.I2C1_STATUS_BUSY s = 0 →
      Gives (.i2c1Cmd route data) s (fun t =>
        t.i2c.running = some data.toNat ∧
        rd F.MGMT.I2C1_STATUS_BUSY t = 1 ∧
        Within [.word 0x4E 0x128] [.i2c] s t)) ∧
  (∀ (nack : Bool) (octet : Byte) (s : State),
      s.i2c.running.isSome = true →
      Gives (.i2c1Done nack octet) s (fun t =>
        t.i2c.running = none ∧
        rd F.MGMT.I2C1_STATUS_BUSY t = 0 ∧
        rd F.MGMT.I2C1_STATUS_RESULT t = (if nack then 2 else 1) ∧
        eventLatched 0x4E 2 t ∧
        Within [.word 0x4E 0x014, .word 0x4E 0x128] [.i2c] s t)) ∧
  (∀ (s : State),
      s.i2c.running.isSome = true →
      Gives .i2c1Timeout s (fun t =>
        t.i2c.running = none ∧
        rd F.MGMT.I2C1_STATUS_RESULT t = 3 ∧
        eventLatched 0x4E 2 t ∧
        Within [.word 0x4E 0x014, .word 0x4E 0x128] [.i2c] s t)) ∧
  (∀ (s : State),
      Gives .extest s (fun t =>
        t.jtag.instr = (if lifecycle s = LC_MANUFACTURE ∨ rd F.MGMT.START_STAGE s = 15 then .extest else .bypass) ∧
        Within [] [.jtag] s t)) ∧
  (∀ (s : State),
      Gives .clamp s (fun t =>
        t.jtag.instr = (if lifecycle s = LC_MANUFACTURE ∨ rd F.MGMT.START_STAGE s = 15 then .clamp else .bypass) ∧
        Within [] [.jtag] s t)) ∧
  (∀ (s : State),
      Gives .highz s (fun t =>
        t.jtag.instr = (if lifecycle s = LC_MANUFACTURE ∨ rd F.MGMT.START_STAGE s = 15 then .highz else .bypass) ∧
        Within [] [.jtag] s t)) ∧
  (∀ (boundary : Nat) (s : State),
      Gives (.samplePreload boundary) s (fun t =>
        t.jtag.instr = .samplePreload ∧
        t.jtag.boundary = boundary ∧
        Within [] [.jtag] s t)) ∧
  (∀ (s : State),
      Gives .idcode s (fun t =>
        t.jtag.instr = .idcode ∧
        Within [] [.jtag] s t)) ∧
  (∀ (s : State),
      Gives .bypass s (fun t =>
        t.jtag.instr = .bypass ∧
        Within [] [.jtag] s t)) ∧
  (∀ (s : State),
      Gives .jtagTrst s (fun t =>
        t.jtag.instr = .idcode ∧
        Within [] [.jtag] s t))

/-- A retune, the synthesizer and the settling of a front end follow its operating states (R106, R108, R110, R111, R112,
R142). TUNE_GO starts a retune; RETUNE_DRAIN_EXPIRY ends the lanes still bound and begins it on the pending tuning;
SYNTH_LOCK within 38 µs goes on to SETTLE, and SETTLE_ELAPSED within 100 Hz with nothing to calibrate to the state of
rest; SYNTH_RETRY tries again, and a third failure faults the page with detail 2; SYNTH_UNLOCK counts, latches and
relocks. -/
def Obligations.FrontEndTuning : Prop :=
  (∀ (fn : Fin 4) (s : State),
      Accepted (0x08 + fn.val) 0x048 1 s →
      pageState (fePage fn.val) s = RUN →
      rd (F.FE.RF_STATE_RETUNE_PENDING fn.val) s = 0 →
      calibrating fn.val s = false →
      inRelief fn.val s = false →
      Calm s = true →
      Gives (.tuneGo fn) s (fun t =>
        rd (F.FE.RF_STATE_RETUNE_PENDING fn.val) t = 1 ∧
        Within (([.word (fePage fn.val) 0x020, .word (fePage fn.val) 0x024, .word (fePage fn.val) 0x028, .word (fePage
          fn.val) 0x014, .word (fePage fn.val) 0x05C, .word (fePage fn.val) 0x04C, .page 0x11, .page 0x10, .page 0x31, .word
          0x20 0x0D0, .word 0x20 0x0D4, .word 0x20 0x0D8, .word 0x20 0x0DC, .page 0x1B, .word 0x19 0x0A4, .word 0x19 0x0A8,
          .word 0x19 0x0AC, .word 0x19 0x0B0, .word 0x19 0x0B4, .word 0x19 0x0B8, .page 0x24, .page 0x25, .page 0x26, .page
          0x27] : List Scope) ++ airScopes) (([.spi, .lanes, .fes, .nodes, .ledger, .scheds, .duty, .frames] : List Part) ++
          airParts) s t)) ∧
  (∀ (fn : Fin 4) (s : State),
      rd (F.FE.RF_STATE_RETUNE_PENDING fn.val) s = 1 →
      rf fn.val s = RF_RX →
      (fe fn.val s).todo = [] →
      pageState (fePage fn.val) s = RUN →
      Calm (wr (F.FE.RF_STATE_RETUNE_PENDING fn.val) 0 s) = true →
      Gives (.retuneDrainExpiry fn) s (fun t =>
        rf fn.val t = RF_SYNTH_CAL ∧
        (fe fn.val t).centre = rd (F.FE.TUNE_CENTRE_HZ fn.val) s ∧
        anyLane (fun l => l.physical == fn.val) t = false ∧
        Within (([.page 0x11, .page 0x10, .page 0x31, .word 0x20 0x0D0, .word 0x20 0x0D4, .word 0x20 0x0D8, .word 0x20
          0x0DC, .page 0x1B, .word 0x19 0x0A4, .word 0x19 0x0A8, .word 0x19 0x0AC, .word 0x19 0x0B0, .word 0x19 0x0B4, .word
          0x19 0x0B8, .word (fePage fn.val) 0x05C, .word (fePage fn.val) 0x04C] : List Scope) ++ airScopes) (([.lanes, .fes,
          .nodes, .ledger] : List Part) ++ airParts) s t)) ∧
  (∀ (fn : Fin 4) (vcoBand : Nat) (lockUs : Nat) (s : State),
      rf fn.val s = RF_SYNTH_CAL →
      lockUs ≤ 38 →
      s.watch.refclkAbsent = false →
      Calm s = true →
      Gives (.synthLock fn vcoBand lockUs) s (fun t =>
        rf fn.val t = RF_SETTLE ∧
        rd (F.FE.CAL_SYNTH_LOCK_US fn.val) t = lockUs ∧
        Within (([.page (fePage fn.val), .page 0x24, .page 0x25, .page 0x26, .page 0x27, .page 0x10, .word 0x08 0x014,
          .word 0x08 0x030, .word 0x08 0x078, .word 0x09 0x014, .word 0x09 0x030, .word 0x09 0x078, .word 0x0A 0x014,
          .word 0x0A 0x030, .word 0x0A 0x078, .word 0x0B 0x030, .word 0x0B 0x078] : List Scope) ++ airScopes) (([.fes,
          .scheds, .duty, .frames] : List Part) ++ airParts) s t)) ∧
  (∀ (fn : Fin 4) (errorHz : Int) (s : State),
      rf fn.val s = RF_SETTLE →
      errorHz.natAbs ≤ 100 →
      s.watch.refclkAbsent = false →
      (fe fn.val s).todo = [] →
      (fe fn.val s).failed = [] →
      s.relief = none →
      Calm s = true →
      Gives (.settleElapsed fn errorHz) s (fun t =>
        rf fn.val t = restState fn.val s ∧
        Within (([.word (fePage fn.val) 0x030, .word (fePage fn.val) 0x04C, .word (fePage fn.val) 0x05C, .word (fePage
          fn.val) 0x014, .word (fePage fn.val) 0x00C, .word (fePage fn.val) 0x078, .word (fePage fn.val) 0x080, .word
          (fePage fn.val) 0x07C, .page 0x24, .page 0x25, .page 0x26, .page 0x27, .page 0x10, .word 0x0B 0x05C, .word 0x0B
          0x04C, .word 0x08 0x014, .word 0x08 0x030, .word 0x08 0x078, .word 0x09 0x014, .word 0x09 0x030, .word 0x09
          0x078, .word 0x0A 0x014, .word 0x0A 0x030, .word 0x0A 0x078, .word 0x0B 0x030, .word 0x0B 0x078] : List Scope)
          ++ airScopes) (([.fes, .scheds, .duty, .frames, .relief] : List Part) ++ airParts) s t)) ∧
  (∀ (fn : Fin 4) (s : State),
      2 ≤ (fe fn.val s).lockTries →
      pageState (fePage fn.val) s ≠ FAULT →
      rf fn.val s = RF_SYNTH_CAL ∨ rf fn.val s = RF_SETTLE →
      Gives (.synthRetry fn) s (fun t =>
        pageState (fePage fn.val) t = FAULT ∧
        rd (F.HEAD.TEST_STATUS_DETAIL (fePage fn.val)) t = 2 ∧
        Within (([.word (fePage fn.val) 0x030, .word (fePage fn.val) 0x04C, .word (fePage fn.val) 0x05C, .word (fePage
          fn.val) 0x014, .word (fePage fn.val) 0x00C, .page 0x24, .page 0x25, .page 0x26, .page 0x27, .page 0x10, .word
          0x08 0x014, .word 0x08 0x030, .word 0x08 0x078, .word 0x09 0x014, .word 0x09 0x030, .word 0x09 0x078, .word 0x0A
          0x014, .word 0x0A 0x030, .word 0x0A 0x078, .word 0x0B 0x030, .word 0x0B 0x078] : List Scope) ++ airScopes)
          (([.fes, .scheds, .duty, .frames] : List Part) ++ airParts) s t)) ∧
  (∀ (fn : Fin 4) (s : State),
      (fe fn.val s).lockTries < 2 →
      Calm s = true →
      rf fn.val s = RF_SYNTH_CAL ∨ rf fn.val s = RF_SETTLE →
      Gives (.synthRetry fn) s (fun t =>
        rf fn.val t = RF_SYNTH_CAL ∧
        (fe fn.val t).lockTries = (fe fn.val s).lockTries + 1 ∧
        Within (([.word (fePage fn.val) 0x030, .word (fePage fn.val) 0x04C, .word (fePage fn.val) 0x05C, .word (fePage
          fn.val) 0x014, .word (fePage fn.val) 0x00C, .page 0x24, .page 0x25, .page 0x26, .page 0x27, .page 0x10, .word
          0x08 0x014, .word 0x08 0x030, .word 0x08 0x078, .word 0x09 0x014, .word 0x09 0x030, .word 0x09 0x078, .word 0x0A
          0x014, .word 0x0A 0x030, .word 0x0A 0x078, .word 0x0B 0x030, .word 0x0B 0x078] : List Scope) ++ airScopes)
          (([.fes, .scheds, .duty, .frames] : List Part) ++ airParts) s t)) ∧
  (∀ (fn : Fin 4) (s : State),
      rf fn.val s = RF_RX →
      Calm s = true →
      (fe fn.val s).tx = none →
      Gives (.synthUnlock fn) s (fun t =>
        rf fn.val t = RF_SYNTH_CAL ∧
        rd (F.FE.UNLOCK_COUNT fn.val) t = min (rd (F.FE.UNLOCK_COUNT fn.val) s + 1) 65535 ∧
        eventLatched (fePage fn.val) 1 t ∧
        Within (([.word (fePage fn.val) 0x014, .word (fePage fn.val) 0x098, .word (fePage fn.val) 0x05C, .word (fePage
          fn.val) 0x04C, .page 0x31, .page 0x24, .page 0x25, .page 0x26, .page 0x27, .page 0x10, .word 0x19 0x0B4, .word
          0x19 0x0A4, .word 0x19 0x0A8, .word 0x19 0x0AC, .word 0x19 0x0B0, .word 0x19 0x0B8, .word 0x20 0x0D0, .word 0x20
          0x0D4, .word 0x20 0x0D8, .word 0x20 0x0DC, .page 0x1B, .word 0x21 0x050, .word 0x21 0x04C, .page 0x11] : List
          Scope) ++ airScopes) (([.duty, .fes, .frames, .ledger, .nodes, .lanes] : List Part) ++ airParts) s t))

/-- Calibrations are triggered, deferred, requested, passed and retried as R112 to R116 say (R84, R112, R113, R114,
R115, R116, R142). A temperature change of more than 10 °C and an IQ calibration 24 h old are deferred while FE3 is not
free; CALIBRATION_DONE within its limit stores the result and goes on; beyond it the calibration runs a second time;
CALIBRATION_RETRY_TIMER asks relief for the stale ones; CALIBRATION_OVERDUE shows a deferral that has lasted too long,
with code 9 in LAST_FAIL and DETAIL and FE_CAL_FAIL; each CAL_REQ waits for FE3 in RUN, runs on a stopped FE3, and is
refused with BAD_STATE otherwise. -/
def Obligations.FrontEndCalibration : Prop :=
  (∀ (fn : Fin 4) (s : State),
      80 < (rdInt (F.PWR.TEMP_VALUE 0) s - rdInt (F.FE.CAL_TEMP fn.val) s).natAbs →
      fn.val ≠ 3 →
      pageState (fePage fn.val) s = RUN →
      inBivouac s = false →
      fe3Free s = false →
      Gives (.calibrationTemperatureTrigger fn) s (fun t =>
        rd (F.FE.CAL_STATUS_DEFER_TEMP fn.val) t ≠ 0 ∧
        Within (([.page 0x10, .word 0x0B 0x05C, .word 0x0B 0x04C, .word 0x0B 0x014, .word 0x0B 0x050, .word (fePage fn.val)
          0x078, .word (fePage fn.val) 0x05C, .word (fePage fn.val) 0x04C, .page 0x24, .page 0x25, .page 0x26, .page 0x27] :
          List Scope) ++ airScopes) (([.fes, .scheds, .duty, .frames, .relief] : List Part) ++ airParts) s t)) ∧
  (∀ (fn : Fin 4) (s : State),
      (rdInt (F.PWR.TEMP_VALUE 0) s - rdInt (F.FE.CAL_TEMP fn.val) s).natAbs ≤ 80 →
      Calm s = true →
      Gives (.calibrationTemperatureTrigger fn) s (fun t =>
        rf fn.val t = rf fn.val s ∧
        Within [] [] s t)) ∧
  (∀ (fn : Fin 4) (s : State),
      fn.val ≠ 3 →
      pageState (fePage fn.val) s = RUN →
      inBivouac s = false →
      fe3Free s = false →
      Gives (.calibrationIqAgeTrigger fn) s (fun t =>
        rd (F.FE.CAL_STATUS_DEFER_IQ fn.val) t ≠ 0 ∧
        Within (([.page 0x10, .word 0x0B 0x05C, .word 0x0B 0x04C, .word 0x0B 0x014, .word 0x0B 0x050, .word (fePage fn.val)
          0x078, .word (fePage fn.val) 0x05C, .word (fePage fn.val) 0x04C, .page 0x24, .page 0x25, .page 0x26, .page 0x27] :
          List Scope) ++ airScopes) (([.fes, .scheds, .duty, .frames, .relief] : List Part) ++ airParts) s t)) ∧
  (∀ (fn : Fin 4) (measured : Nat) (second : Nat) (s : State),
      rf fn.val s = RF_CAL →
      (fe fn.val s).todo.head? = some .dc →
      measured ≤ 16 →
      second ≤ 16 →
      Calm s = true →
      Gives (.calibrationDone fn measured second) s (fun t =>
        (fe fn.val t).todo = (fe fn.val s).todo.drop 1 ∧
        rd (F.FE.CAL_DC_RESID_I fn.val) t = measured ∧
        rd (F.FE.CAL_DC_RESID_Q fn.val) t = second ∧
        Within (([.page (fePage fn.val), .page 0x10, .page 0x24, .page 0x25, .page 0x26, .page 0x27, .word 0x08 0x014,
          .word 0x08 0x030, .word 0x08 0x078, .word 0x09 0x014, .word 0x09 0x030, .word 0x09 0x078, .word 0x0A 0x014,
          .word 0x0A 0x030, .word 0x0A 0x078, .word 0x0B 0x030, .word 0x0B 0x078] : List Scope) ++ airScopes) (([.fes,
          .relief, .scheds, .duty, .frames] : List Part) ++ airParts) s t)) ∧
  (∀ (fn : Fin 4) (measured : Nat) (second : Nat) (s : State),
      rf fn.val s = RF_CAL →
      (fe fn.val s).todo.head? = some .iq →
      measured < 160 →
      (fe fn.val s).second = false →
      Calm s = true →
      Gives (.calibrationDone fn measured second) s (fun t =>
        (fe fn.val t).todo = (fe fn.val s).todo ∧
        (fe fn.val t).second = true ∧
        rf fn.val t = RF_CAL ∧
        Within (([.page (fePage fn.val), .page 0x10, .page 0x24, .page 0x25, .page 0x26, .page 0x27, .word 0x08 0x014,
          .word 0x08 0x030, .word 0x08 0x078, .word 0x09 0x014, .word 0x09 0x030, .word 0x09 0x078, .word 0x0A 0x014,
          .word 0x0A 0x030, .word 0x0A 0x078, .word 0x0B 0x030, .word 0x0B 0x078] : List Scope) ++ airScopes) (([.fes,
          .relief, .scheds, .duty, .frames] : List Part) ++ airParts) s t)) ∧
  (∀ (fn : Fin 4) (s : State),
      (fe fn.val s).failed ≠ [] →
      pageState (fePage fn.val) s = RUN →
      fn.val ≠ 3 →
      fe3Free s = false →
      inBivouac s = false →
      s.reliefQueue.any (fun r => r.k == fn.val && r.why == .retry) = false →
      Calm s = true →
      Gives (.calibrationRetryTimer fn) s (fun t =>
        t.reliefQueue = s.reliefQueue ++ [{ k := fn.val, cals := (fe fn.val s).failed, why := .retry }] ∧
        Within (([.page 0x10, .word 0x0B 0x05C, .word 0x0B 0x04C, .word 0x0B 0x014, .word 0x0B 0x050] : List Scope) ++
          airScopes) (([.fes, .relief] : List Part) ++ airParts) s t)) ∧
  (∀ (fn : Fin 4) (s : State),
      rd (F.FE.CAL_STATUS_DEFER_TEMP fn.val) s ≠ 0 ∨ rd (F.FE.CAL_STATUS_DEFER_IQ fn.val) s ≠ 0 →
      rd (F.FE.CAL_STATUS_OVERDUE fn.val) s = 0 →
      Gives (.calibrationOverdue fn) s (fun t =>
        rd (F.FE.CAL_STATUS_OVERDUE fn.val) t = 1 ∧
        rd (F.FE.CAL_STATUS_LAST_FAIL fn.val) t = 9 ∧
        rd (F.HEAD.TEST_STATUS_DETAIL (fePage fn.val)) t = 9 ∧
        eventLatched (fePage fn.val) 0 t ∧
        Within (([.word (fePage fn.val) 0x078, .word (fePage fn.val) 0x014, .word (fePage fn.val) 0x05C, .word (fePage
          fn.val) 0x04C, .page 0x10, .page 0x24, .page 0x25, .page 0x26, .page 0x27, .word (fePage fn.val) 0x030] : List
          Scope) ++ airScopes) (([.relief, .fes, .scheds, .duty, .frames] : List Part) ++ airParts) s t)) ∧
  (∀ (fn : Fin 4) (s : State),
      Accepted (0x08 + fn.val) 0x074 1 s →
      feRequestOpen fn.val s = false →
      fe3Free s = false →
      Calm s = true →
      Gives (.calReqOsc fn) s (fun t =>
        rd (F.FE.CAL_STATUS_RESULT fn.val) t = (if fn.val ≠ 3 ∧ pageState (fePage fn.val) s = RUN then T_WAITING else if
          fn.val = 3 ∧ pageState (fePage fn.val) s = STOPPED then T_RUNNING else T_BAD_STATE) ∧
        Within (([.word (fePage fn.val) 0x020, .word (fePage fn.val) 0x024, .word (fePage fn.val) 0x028, .word (fePage
          fn.val) 0x014, .word (fePage fn.val) 0x078, .page 0x10, .word 0x0B 0x05C, .word 0x0B 0x04C, .word 0x0B 0x078,
          .word 0x0B 0x014, .word 0x0B 0x050] : List Scope) ++ airScopes) (([.spi, .fes, .relief] : List Part) ++ airParts)
          s t)) ∧
  (∀ (fn : Fin 4) (s : State),
      Accepted (0x08 + fn.val) 0x074 2 s →
      feRequestOpen fn.val s = false →
      fe3Free s = false →
      Calm s = true →
      Gives (.calReqSynth fn) s (fun t =>
        rd (F.FE.CAL_STATUS_RESULT fn.val) t = (if fn.val ≠ 3 ∧ pageState (fePage fn.val) s = RUN then T_WAITING else if
          fn.val = 3 ∧ pageState (fePage fn.val) s = STOPPED then T_RUNNING else T_BAD_STATE) ∧
        Within (([.word (fePage fn.val) 0x020, .word (fePage fn.val) 0x024, .word (fePage fn.val) 0x028, .word (fePage
          fn.val) 0x014, .word (fePage fn.val) 0x078, .page 0x10, .word 0x0B 0x05C, .word 0x0B 0x04C, .word 0x0B 0x078,
          .word 0x0B 0x014, .word 0x0B 0x050] : List Scope) ++ airScopes) (([.spi, .fes, .relief] : List Part) ++ airParts)
          s t)) ∧
  (∀ (fn : Fin 4) (s : State),
      Accepted (0x08 + fn.val) 0x074 4 s →
      feRequestOpen fn.val s = false →
      fe3Free s = false →
      Calm s = true →
      Gives (.calReqAaf fn) s (fun t =>
        rd (F.FE.CAL_STATUS_RESULT fn.val) t = (if fn.val ≠ 3 ∧ pageState (fePage fn.val) s = RUN then T_WAITING else if
          fn.val = 3 ∧ pageState (fePage fn.val) s = STOPPED then T_RUNNING else T_BAD_STATE) ∧
        Within (([.word (fePage fn.val) 0x020, .word (fePage fn.val) 0x024, .word (fePage fn.val) 0x028, .word (fePage
          fn.val) 0x014, .word (fePage fn.val) 0x078, .page 0x10, .word 0x0B 0x05C, .word 0x0B 0x04C, .word 0x0B 0x078,
          .word 0x0B 0x014, .word 0x0B 0x050] : List Scope) ++ airScopes) (([.spi, .fes, .relief] : List Part) ++ airParts)
          s t)) ∧
  (∀ (fn : Fin 4) (s : State),
      Accepted (0x08 + fn.val) 0x074 8 s →
      feRequestOpen fn.val s = false →
      fe3Free s = false →
      Calm s = true →
      Gives (.calReqDc fn) s (fun t =>
        rd (F.FE.CAL_STATUS_RESULT fn.val) t = (if fn.val ≠ 3 ∧ pageState (fePage fn.val) s = RUN then T_WAITING else if
          fn.val = 3 ∧ pageState (fePage fn.val) s = STOPPED then T_RUNNING else T_BAD_STATE) ∧
        Within (([.word (fePage fn.val) 0x020, .word (fePage fn.val) 0x024, .word (fePage fn.val) 0x028, .word (fePage
          fn.val) 0x014, .word (fePage fn.val) 0x078, .page 0x10, .word 0x0B 0x05C, .word 0x0B 0x04C, .word 0x0B 0x078,
          .word 0x0B 0x014, .word 0x0B 0x050] : List Scope) ++ airScopes) (([.spi, .fes, .relief] : List Part) ++ airParts)
          s t)) ∧
  (∀ (fn : Fin 4) (s : State),
      Accepted (0x08 + fn.val) 0x074 16 s →
      feRequestOpen fn.val s = false →
      fe3Free s = false →
      Calm s = true →
      Gives (.calReqIq fn) s (fun t =>
        rd (F.FE.CAL_STATUS_RESULT fn.val) t = (if fn.val ≠ 3 ∧ pageState (fePage fn.val) s = RUN then T_WAITING else if
          fn.val = 3 ∧ pageState (fePage fn.val) s = STOPPED then T_RUNNING else T_BAD_STATE) ∧
        Within (([.word (fePage fn.val) 0x020, .word (fePage fn.val) 0x024, .word (fePage fn.val) 0x028, .word (fePage
          fn.val) 0x014, .word (fePage fn.val) 0x078, .page 0x10, .word 0x0B 0x05C, .word 0x0B 0x04C, .word 0x0B 0x078,
          .word 0x0B 0x014, .word 0x0B 0x050] : List Scope) ++ airScopes) (([.spi, .fes, .relief] : List Part) ++ airParts)
          s t))

/-- FE3 relieves, hands over and back, and takes its roles (R115, R117, R118, R119, R121, R122, R123, R125).
RELIEF_HAND_OVER makes FEk RELIEVED with FE3 serving it; RELIEVED_LANES_ENDED begins the calibration, or ends the relief
where the page has left RUN; RELIEF_HANDBACK returns the traffic; and with its last lane FE3 is idle again; the ROLE
commands set MODE and FOR and the logical number that FE3 serves; LT_SATURATION suspends listen-through and LT_RESUME
ends that. -/
def Obligations.ReliefAndRoles : Prop :=
  (∀ (s : State),
      s.relief.map (fun r => r.stage) = some .filling →
      ((s.relief.map (fun r => r.k)).getD 0) < 3 →
      rf ((s.relief.map (fun r => r.k)).getD 0) s = RF_RX →
      rf 3 s = RF_RX →
      pageState (fePage ((s.relief.map (fun r => r.k)).getD 0)) s = RUN →
      Calm s = true →
      Gives .reliefHandOver s (fun t =>
        t.relief.map (fun r => r.stage) = some .relieving ∧
        rf ((s.relief.map (fun r => r.k)).getD 0) t = RF_RELIEVED ∧
        rd (F.FE.RF_STATE_LOGICAL 3) t = ((s.relief.map (fun r => r.k)).getD 0) ∧
        Within (([.word 0x0B 0x04C, .word 0x0B 0x014, .word 0x0B 0x030, .word 0x0B 0x078, .word 0x0B 0x05C, .word 0x08
          0x014, .word 0x08 0x030, .word 0x08 0x078, .word 0x08 0x05C, .word 0x08 0x04C, .word 0x09 0x014, .word 0x09
          0x030, .word 0x09 0x078, .word 0x09 0x05C, .word 0x09 0x04C, .word 0x0A 0x014, .word 0x0A 0x030, .word 0x0A
          0x078, .word 0x0A 0x05C, .word 0x0A 0x04C, .page 0x10, .page 0x0D] : List Scope) ++ airScopes) (([.relief, .fes]
          : List Part) ++ airParts)
          s t)) ∧
  (∀ (s : State),
      s.relief.map (fun r => r.stage) = some .relieving →
      ((s.relief.map (fun r => r.k)).getD 0) < 3 →
      anyLane (fun l => l.physical == ((s.relief.map (fun r => r.k)).getD 0)) s = false →
      pageState (fePage ((s.relief.map (fun r => r.k)).getD 0)) s = RUN →
      Calm s = true →
      Gives .relievedLanesEnded s (fun t =>
        t.relief.map (fun r => r.stage) = some .calibrating ∧
        Within (([.word 0x08 0x014, .word 0x08 0x00C, .word 0x08 0x05C, .word 0x08 0x04C, .word 0x09 0x014, .word 0x09
          0x00C, .word 0x09 0x05C, .word 0x09 0x04C, .word 0x0A 0x014, .word 0x0A 0x00C, .word 0x0A 0x05C, .word 0x0A 0x04C,
          .word 0x0B 0x014, .word 0x0B 0x00C, .word 0x0B 0x05C, .word 0x0B 0x04C, .page 0x10] : List Scope) ++ airScopes)
          (([.relief, .fes] : List Part) ++ airParts) s t)) ∧
  (∀ (s : State),
      s.relief.map (fun r => r.stage) = some .refilling →
      ((s.relief.map (fun r => r.k)).getD 0) < 3 →
      sending 3 s = false →
      rf 3 s ≠ RF_TX_RX →
      Calm s = true →
      Gives .reliefHandback s (fun t =>
        t.relief.map (fun r => r.stage) = some .finishing ∧
        eventLatched (fePage ((s.relief.map (fun r => r.k)).getD 0)) 3 t ∧
        Within (([.page 0x10, .word 0x08 0x014, .word 0x09 0x014, .word 0x0A 0x014, .word 0x0B 0x014, .page 0x0D] : List
          Scope) ++ airScopes) (([.relief] : List Part) ++ airParts) s t)) ∧
  (∀ (s : State),
      s.relief.map (fun r => r.stage) = some .finishing →
      anyLane (fun l => l.physical == 3) s = false →
      Calm s = true →
      Gives .reliefFe3LanesEnded s (fun t =>
        t.relief = none ∧
        role t = 0 ∧
        rd (F.FE.RF_STATE_LOGICAL 3) t = 3 ∧
        rf 3 t = RF_STANDBY ∧
        Within (([.word 0x0B 0x014, .word 0x0B 0x050, .word 0x0B 0x04C, .word 0x0B 0x05C, .page 0x10] : List Scope) ++
          airScopes) (([.relief, .fes] : List Part) ++ airParts) s t)) ∧
  (∀ (s : State),
      Accepted 0x0B 0x050 0 s →
      role s ≠ 0 →
      role s ≠ 4 →
      s.relief = none →
      Calm s = true →
      Gives .roleIdle s (fun t =>
        role t = 0 ∧
        rd (F.FE.RF_STATE_LOGICAL 3) t = 3 ∧
        Within (([.word 0x0B 0x020, .word 0x0B 0x024, .word 0x0B 0x028, .word 0x0B 0x014, .word 0x0B 0x050, .word 0x0B
          0x05C, .word 0x0B 0x04C, .word 0x0B 0x09C, .page 0x10, .word 0x08 0x05C, .word 0x08 0x04C, .word 0x09 0x05C, .word
          0x09 0x04C, .word 0x0A 0x05C, .word 0x0A 0x04C, .page 0x11, .page 0x31, .word 0x20 0x0D0, .word 0x20 0x0D4, .word
          0x20 0x0D8, .word 0x20 0x0DC, .page 0x1B, .word 0x19 0x0A4, .word 0x19 0x0A8, .word 0x19 0x0AC, .word 0x19 0x0B0,
          .word 0x19 0x0B4, .word 0x19 0x0B8, .word 0x05 0x014, .word 0x05 0x06C] : List Scope) ++ airScopes) (([.spi, .fes,
          .lanes, .nodes, .ledger, .relief] : List Part) ++ airParts) s t)) ∧
  (∀ (s : State),
      Accepted 0x0B 0x050 1 s →
      role s = 0 →
      Calm s = true →
      Gives .roleExtend s (fun t =>
        role t = 1 ∧
        rd (F.FE.RF_STATE_LOGICAL 3) t = 3 ∧
        Within (([.word 0x0B 0x020, .word 0x0B 0x024, .word 0x0B 0x028, .word 0x0B 0x014, .word 0x0B 0x050, .word 0x0B
          0x05C, .word 0x0B 0x04C, .word 0x0B 0x09C, .page 0x10, .word 0x08 0x05C, .word 0x08 0x04C, .word 0x09 0x05C, .word
          0x09 0x04C, .word 0x0A 0x05C, .word 0x0A 0x04C, .page 0x11, .page 0x31, .word 0x20 0x0D0, .word 0x20 0x0D4, .word
          0x20 0x0D8, .word 0x20 0x0DC, .page 0x1B, .word 0x19 0x0A4, .word 0x19 0x0A8, .word 0x19 0x0AC, .word 0x19 0x0B0,
          .word 0x19 0x0B4, .word 0x19 0x0B8, .word 0x05 0x014, .word 0x05 0x06C] : List Scope) ++ airScopes) (([.spi, .fes,
          .lanes, .nodes, .ledger, .relief] : List Part) ++ airParts) s t)) ∧
  (∀ (k : Fin 4) (s : State),
      Accepted 0x0B 0x050 (2 + 16 * k.val) s →
      role s = 0 →
      k.val < 3 →
      roleAllowed 2 k.val s = true →
      Calm s = true →
      Gives (.roleSubstitute k) s (fun t =>
        role t = 2 ∧
        roleFor t = k.val ∧
        rd (F.FE.RF_STATE_LOGICAL 3) t = k.val ∧
        eventLatched 0x0B 3 t ∧
        Within (([.word 0x0B 0x020, .word 0x0B 0x024, .word 0x0B 0x028, .word 0x0B 0x014, .word 0x0B 0x050, .word 0x0B
          0x05C, .word 0x0B 0x04C, .word 0x0B 0x09C, .page 0x10, .word 0x08 0x05C, .word 0x08 0x04C, .word 0x09 0x05C, .word
          0x09 0x04C, .word 0x0A 0x05C, .word 0x0A 0x04C, .page 0x11, .page 0x31, .word 0x20 0x0D0, .word 0x20 0x0D4, .word
          0x20 0x0D8, .word 0x20 0x0DC, .page 0x1B, .word 0x19 0x0A4, .word 0x19 0x0A8, .word 0x19 0x0AC, .word 0x19 0x0B0,
          .word 0x19 0x0B4, .word 0x19 0x0B8, .word 0x05 0x014, .word 0x05 0x06C, .word (fePage k.val) 0x05C, .word (fePage
          k.val) 0x04C] : List Scope) ++ airScopes) (([.spi, .fes, .lanes, .nodes, .ledger, .relief] : List Part) ++
          airParts) s t)) ∧
  (∀ (k : Fin 4) (s : State),
      Accepted 0x0B 0x050 (3 + 16 * k.val) s →
      role s = 0 →
      k.val < 3 →
      roleAllowed 3 k.val s = true →
      Calm s = true →
      Gives (.roleListenThrough k) s (fun t =>
        role t = 3 ∧
        roleFor t = k.val ∧
        rd (F.FE.RF_STATE_LOGICAL 3) t = k.val ∧
        Within (([.word 0x0B 0x020, .word 0x0B 0x024, .word 0x0B 0x028, .word 0x0B 0x014, .word 0x0B 0x050, .word 0x0B
          0x05C, .word 0x0B 0x04C, .word 0x0B 0x09C, .page 0x10, .word 0x08 0x05C, .word 0x08 0x04C, .word 0x09 0x05C, .word
          0x09 0x04C, .word 0x0A 0x05C, .word 0x0A 0x04C, .page 0x11, .page 0x31, .word 0x20 0x0D0, .word 0x20 0x0D4, .word
          0x20 0x0D8, .word 0x20 0x0DC, .page 0x1B, .word 0x19 0x0A4, .word 0x19 0x0A8, .word 0x19 0x0AC, .word 0x19 0x0B0,
          .word 0x19 0x0B4, .word 0x19 0x0B8, .word 0x05 0x014, .word 0x05 0x06C, .word (fePage k.val) 0x05C, .word (fePage
          k.val) 0x04C] : List Scope) ++ airScopes) (([.spi, .fes, .lanes, .nodes, .ledger, .relief] : List Part) ++
          airParts) s t)) ∧
  (∀ (s : State),
      listensThrough (roleFor s) s = true →
      inTurn (roleFor s) s = true →
      Gives .ltSaturation s (fun t =>
        rd (F.FE.LT_SUSPENDED 3) t = 1 ∧
        Within (([.page 0x10, .word 0x0B 0x09C] : List Scope) ++ airScopes) (([.lanes, .fes] : List Part) ++ airParts) s t)) ∧
  (∀ (s : State),
      Accepted 0x0B 0x09C (rd (F.FE.LT_ISOLATION_DB 3) s + rd (F.FE.LT_GAIN_DB 3) s * 2 ^ 8 + 2 ^ 17) s →
      Gives .ltResume s (fun t =>
        rd (F.FE.LT_SUSPENDED 3) t = 0 ∧
        Within (([.word 0x0B 0x09C, .word 0x0B 0x05C, .word 0x0B 0x04C, .page 0x10, .word 0x08 0x05C, .word 0x08 0x04C,
          .word 0x09 0x05C, .word 0x09 0x04C, .word 0x0A 0x05C, .word 0x0A 0x04C, .page 0x11, .page 0x31, .word 0x20 0x0D0,
          .word 0x20 0x0D4, .word 0x20 0x0D8, .word 0x20 0x0DC, .page 0x1B, .word 0x19 0x0A4, .word 0x19 0x0A8, .word 0x19
          0x0AC, .word 0x19 0x0B0, .word 0x19 0x0B4, .word 0x19 0x0B8] : List Scope) ++ airScopes) (([.fes, .lanes, .nodes,
          .ledger] : List Part) ++ airParts) s t)) ∧
  (∀ (s : State) (r : Relief),
      s.relief = some r →
      r.stage = .relieving →
      r.k < 3 →
      anyLane (fun l => l.physical == r.k) s = false →
      pageState (fePage r.k) s ≠ RUN →
      Calm s = true →
      Gives .relievedLanesEnded s (fun t =>
        t.relief.map (fun x => x.stage) = some .finishing ∧
        rf r.k t = RF_RX ∧
        Within (([.word 0x08 0x014, .word 0x08 0x00C, .word 0x08 0x05C, .word 0x08 0x04C, .word 0x09 0x014, .word 0x09
          0x00C, .word 0x09 0x05C, .word 0x09 0x04C, .word 0x0A 0x014, .word 0x0A 0x00C, .word 0x0A 0x05C, .word 0x0A 0x04C,
          .word 0x0B 0x014, .word 0x0B 0x00C, .word 0x0B 0x05C, .word 0x0B 0x04C, .page 0x10] : List Scope) ++ airScopes)
          (([.relief, .fes] : List Part) ++ airParts) s t))

/-- A transmission enters TX, ends, is cut or is denied, and the profile bank is programmed (R110, R132, R133, R134,
R139, R141). RX_TX_ELAPSED sends the first symbol; TX_LAST_SYMBOL and DWELL_STOP end the transmission in TX_RX;
TX_RX_ELAPSED returns to RX, or to SYNTH_CAL where a lock loss or a change of role has asked for it; ANSWER_GRANT_SAMPLE
low denies an acknowledgement, and high changes nothing; COEX_GRANT raises the grant, COEX_GNT_TIMEOUT counts and
reports a grant that did not come, and COEX_GNT_WITHDRAWN cuts what is being sent; PROG_COMMIT programs a staged image
that is valid and PROG_BANK_DONE ends that. -/
def Obligations.TransmissionPath : Prop :=
  (∀ (fn : Fin 4) (s : State),
      (fe fn.val s).tx.isSome = true →
      rf fn.val s = RF_RX_TX →
      Calm s = true →
      Gives (.rxTxElapsed fn) s (fun t =>
        rf fn.val t = RF_TX ∧
        (fe fn.val t).tx.map (fun x => x.firstAt) = some (some s.now) ∧
        Within (([.page 0x10, .word (fePage fn.val) 0x05C, .word (fePage fn.val) 0x04C, .word 0x19 0x0C4, .word 0x24 0x064,
          .word 0x24 0x060, .word 0x24 0x068, .word 0x25 0x064, .word 0x25 0x060, .word 0x25 0x068, .word 0x26 0x064, .word
          0x26 0x060, .word 0x26 0x068, .word 0x27 0x064, .word 0x27 0x060, .word 0x27 0x068] : List Scope) ++ airScopes)
          (([.fes] : List Part) ++ airParts) s t)) ∧
  (∀ (fn : Fin 4) (s : State),
      (fe fn.val s).tx.isSome = true →
      rf fn.val s = RF_TX →
      Calm s = true →
      Gives (.txLastSymbol fn) s (fun t =>
        rf fn.val t = RF_TX_RX ∧
        (fe fn.val t).tx = none ∧
        Within (([.page 0x31, .page 0x24, .page 0x25, .page 0x26, .page 0x27, .page 0x10, .word (fePage fn.val) 0x05C, .word
          (fePage fn.val) 0x04C, .word 0x1A 0x0E8, .word 0x22 0x07C, .word 0x19 0x0B4, .word 0x20 0x0D0, .word 0x20 0x0D4,
          .word 0x20 0x0D8, .word 0x20 0x0DC, .page 0x1B, .word 0x21 0x050, .word 0x21 0x04C] : List Scope) ++ airScopes)
          (([.duty, .fes, .frames, .ledger, .nodes] : List Part) ++ airParts) s t)) ∧
  (∀ (fn : Fin 4) (s : State),
      rf fn.val s = RF_TX_RX →
      pageState (fePage fn.val) s = RUN →
      listensThrough fn.val s = false →
      (fe fn.val s).after ≠ some RF_SYNTH_CAL →
      Calm s = true →
      Gives (.txRxElapsed fn) s (fun t =>
        rf fn.val t = RF_RX ∧
        Within (([.page 0x10, .word (fePage fn.val) 0x05C, .word (fePage fn.val) 0x04C, .page 0x11, .page 0x31, .word 0x20
          0x0D0, .word 0x20 0x0D4, .word 0x20 0x0D8, .word 0x20 0x0DC, .page 0x1B, .word 0x19 0x0A4, .word 0x19 0x0A8, .word
          0x19 0x0AC, .word 0x19 0x0B0, .word 0x19 0x0B4, .word 0x19 0x0B8] : List Scope) ++ airScopes) (([.fes, .lanes,
          .nodes, .ledger] : List Part) ++ airParts) s t)) ∧
  (∀ (fn : Fin 4) (s : State),
      (fe fn.val s).tx.isSome = true →
      rf fn.val s = RF_TX →
      Calm s = true →
      Gives (.dwellStop fn) s (fun t =>
        rf fn.val t = RF_TX_RX ∧
        (fe fn.val t).tx = none ∧
        Within (([.page 0x31, .page 0x24, .page 0x25, .page 0x26, .page 0x27, .page 0x10, .word (fePage fn.val) 0x05C, .word
          (fePage fn.val) 0x04C, .word 0x19 0x0B4, .word 0x20 0x0D0, .word 0x20 0x0D4, .word 0x20 0x0D8, .word 0x20 0x0DC,
          .page 0x1B, .word 0x21 0x050, .word 0x21 0x04C] : List Scope) ++ airScopes) (([.duty, .fes, .frames, .ledger,
          .nodes] : List Part) ++ airParts) s t)) ∧
  (∀ (fn : Fin 4) (gntLevel : Bool) (s : State),
      (match (fe fn.val s).tx with
            | some x => (match x.what with
            | .ack _ _ _ => true
            | _ => false)
            | none => false) = true →
      grants fn.val gntLevel s = false →
      rd (F.COEX.CFG_ENABLE fn.val) s ≠ 0 →
      pageState 0x0D s = RUN →
      rf fn.val s = RF_RX_TX →
      Calm s = true →
      Gives (.answerGrantSample fn gntLevel) s (fun t =>
        (fe fn.val t).tx = none ∧
        rf fn.val t = RF_TX_RX ∧
        rd (F.COEX.ZERO_TOL_DENIED fn.val) t = (rd (F.COEX.ZERO_TOL_DENIED fn.val) s + 1) % 2 ^ 32 ∧
        Within (([.page 0x10, .word (fePage fn.val) 0x05C, .word (fePage fn.val) 0x04C, .page 0x0D, .page 0x31, .page 0x24,
          .page 0x25, .page 0x26, .page 0x27, .word 0x19 0x0B4, .word 0x20 0x0D0, .word 0x20 0x0D4, .word 0x20 0x0D8, .word
          0x20 0x0DC, .page 0x1B, .word 0x21 0x050, .word 0x21 0x04C, .word 0x21 0x014, .word 0x21 0x31C] : List Scope) ++
          airScopes) (([.fes, .frames, .duty, .ledger, .nodes] : List Part) ++ airParts) s t)) ∧
  (∀ (fn : Fin 4) (gntLevel : Bool) (s : State),
      grants fn.val gntLevel s = true →
      Calm s = true →
      Gives (.answerGrantSample fn gntLevel) s (fun t =>
        rf fn.val t = rf fn.val s ∧
        Within [] [] s t)) ∧
  (∀ (fn : Fin 4) (s : State),
      Calm s = true →
      Gives (.coexGrant fn) s (fun t =>
        (fe fn.val t).gnt = true ∧
        Within (([.page 0x24, .page 0x25, .page 0x26, .page 0x27, .page 0x19, .word 0x20 0x0D0, .word 0x20 0x0D4, .word 0x20
          0x0D8, .word 0x20 0x0DC, .page 0x1B, .word 0x21 0x050, .word 0x21 0x04C, .word 0x21 0x014, .word 0x21 0x31C, .word
          0x21 0x310, .word 0x21 0x320, .page 0x0D, .word 0x0C 0x014, .word 0x0C 0x04C, .word 0x0C 0x050, .word 0x08 0x068,
          .word 0x08 0x06C, .word 0x08 0x05C, .word 0x08 0x04C, .word 0x09 0x068, .word 0x09 0x06C, .word 0x09 0x05C, .word
          0x09 0x04C, .word 0x0A 0x068, .word 0x0A 0x06C, .word 0x0A 0x05C, .word 0x0A 0x04C, .word 0x0B 0x068, .word 0x0B
          0x06C, .word 0x0B 0x05C, .word 0x0B 0x04C, .word 0x30 0x0AC, .page 0x11, .page 0x10, .page 0x31] : List Scope) ++
          airScopes) (([.fes, .frames, .duty, .ledger, .nodes, .scheds, .draws, .slots, .lanes] : List Part) ++ airParts) s
          t)) ∧
  (∀ (fn : Fin 4) (s : State),
      (committedFrame (logicalOf fn.val s) s).isSome = true →
      (fe fn.val s).gnt = false →
      reqUp fn.val s = true →
      Gives (.coexGntTimeout fn) s (fun t =>
        rd (F.COEX.TIMEOUTS fn.val) t = (rd (F.COEX.TIMEOUTS fn.val) s + 1) % 2 ^ 32 ∧
        eventLatched 0x0D 0 t ∧
        Within (([.page 0x24, .page 0x25, .page 0x26, .page 0x27, .word 0x19 0x0B4, .word 0x20 0x0D0, .word 0x20 0x0D4,
          .word 0x20 0x0D8, .word 0x20 0x0DC, .page 0x1B, .word 0x21 0x050, .word 0x21 0x04C, .page 0x0D, .word 0x19
          0x014, .word 0x19 0x0F0] : List Scope) ++ airScopes) (([.fes, .frames, .duty, .ledger, .nodes] : List Part) ++
          airParts) s t)) ∧
  (∀ (fn : Fin 4) (s : State),
      rd (F.COEX.CFG_ENABLE fn.val) s ≠ 0 →
      pageState 0x0D s = RUN →
      sending fn.val s = true →
      (fe fn.val s).tx.isSome = true →
      Gives (.coexGntWithdrawn fn) s (fun t =>
        rd (F.COEX.WITHDRAWN fn.val) t = (rd (F.COEX.WITHDRAWN fn.val) s + 1) % 2 ^ 32 ∧
        eventLatched 0x0D 1 t ∧
        Within (([.page 0x31, .page 0x24, .page 0x25, .page 0x26, .page 0x27, .page 0x10, .word (fePage fn.val) 0x05C, .word
          (fePage fn.val) 0x04C, .word 0x19 0x0B4, .word 0x20 0x0D0, .word 0x20 0x0D4, .word 0x20 0x0D8, .word 0x20 0x0DC,
          .page 0x1B, .word 0x21 0x050, .word 0x21 0x04C, .page 0x0D] : List Scope) ++ airScopes) (([.fes, .duty, .frames,
          .ledger, .nodes] : List Part) ++ airParts) s t)) ∧
  (∀ (s : State),
      Accepted 0x0C 0x058 1 s →
      rd F.KEYS.LC_STATE s = 1 ∨ rd F.KEYS.LC_STATE s = 2 →
      rd F.REGLOCK.STATUS_PROGRAMMED s ≠ 15 →
      rd F.REGLOCK.STATUS_PROG_STATE s ≠ 1 →
      Calm s = true →
      Gives .progCommit s (fun t =>
        rd F.REGLOCK.STATUS_PROG_STATE t = (if imageValid (stagedImage s) then 1 else 3) ∧
        Within [.word 0x0C 0x020, .word 0x0C 0x024, .word 0x0C 0x028, .word 0x0C 0x014, .word 0x0C 0x040] [.spi] s t)) ∧
  (∀ (ok : Bool) (s : State),
      rd F.REGLOCK.STATUS_PROG_STATE s = 1 →
      (List.range 4).any (fun b => (find s.banks b).isNone) = true →
      Gives (.progBankDone ok) s (fun t =>
        rd F.REGLOCK.STATUS_PROG_STATE t = (if ok then 2 else 4) ∧
        rd F.REGLOCK.STATUS_BLANK t = 0 ∧
        Within [.word 0x0C 0x040] [.banks, .boot] s t)) ∧
  (∀ (fn : Fin 4) (s : State),
      rf fn.val s = RF_TX_RX →
      pageState (fePage fn.val) s = RUN →
      (fe fn.val s).after = some RF_SYNTH_CAL →
      (fe fn.val s).todo = [] →
      Calm s = true →
      Gives (.txRxElapsed fn) s (fun t =>
        rf fn.val t = RF_SYNTH_CAL ∧
        (fe fn.val t).after = none ∧
        Within (([.page 0x10, .word (fePage fn.val) 0x05C, .word (fePage fn.val) 0x04C, .page 0x11, .page 0x31, .word 0x20
          0x0D0, .word 0x20 0x0D4, .word 0x20 0x0D8, .word 0x20 0x0DC, .page 0x1B, .word 0x19 0x0A4, .word 0x19 0x0A8,
          .word 0x19 0x0AC, .word 0x19 0x0B0, .word 0x19 0x0B4, .word 0x19 0x0B8] : List Scope) ++ airScopes) (([.fes,
          .lanes, .nodes, .ledger] : List Part) ++ airParts) s t))

/-- A detection that meets every condition binds the lane that has been idle longest (R154, R157, R158, R159, R166,
R168). DETECTION and DETECTION_REOFFER on a free channel bind the longest idle lane and count; where the engine does not
search nothing happens; BIN_ENERGY_UPDATE outside RX makes every value absent; in RX it stores the value of a bin. -/
def Obligations.DetectionBindsALane : Prop :=
  (∀ (fn : Fin 4) (set : Fin 8) (channel : Nat) (metric : Nat) (rssi : Int) (freq : Int) (window : Nat) (s : State) (i e fl : Nat),
      searches fn.val s = true →
      channelMeets (logicalOf fn.val s) set.val channel fn.val s = true →
      rd (F.CHAN.LISTEN_DETECT_CORR_MIN (logicalOf fn.val s) set.val) s ≤ metric →
      guardedChannel fn.val (channelHz (logicalOf fn.val s) set.val channel s) s = false →
      energyNow fn.val (channelHz (logicalOf fn.val s) set.val channel s) (rd (F.CHAN.LISTEN_RASTER_SPACING_KHZ (logicalOf
        fn.val s) set.val) s * 1000) s = some e →
      channelFloor fn.val (channelHz (logicalOf fn.val s) set.val channel s) (rd (F.CHAN.LISTEN_RASTER_SPACING_KHZ
        (logicalOf fn.val s) set.val) s * 1000) s = some fl →
      fl * linear (4 * rdInt (F.CHAN.LISTEN_DETECT_SNR_MIN (logicalOf fn.val s) set.val) s) / 10 ^ 40 ≤ e * 10 ^ 12 →
      (fe fn.val s).offerUs ≠ s.now / 1000 →
      lanesOn (logicalOf fn.val s) (channelHz (logicalOf fn.val s) set.val channel s) (rd (F.CHAN.LISTEN_RASTER_SPACING_KHZ
        (logicalOf fn.val s) set.val) s * 1000) s = [] →
      pageState 0x11 s = RUN →
      mayBind (logicalOf fn.val s) s = true →
      longestIdle s = some i →
      Calm s = true →
      Gives (.detection fn set channel metric rssi freq window) s (fun t =>
        (lane i t).state = .waking ∧
        (lane i t).channel = channel ∧
        (lane i t).physical = fn.val ∧
        (lane i t).rssi = clamp (-260) 20 rssi ∧
        rd (F.CHAN.DETECTIONS fn.val) t = (rd (F.CHAN.DETECTIONS fn.val) s + 1) % 2 ^ 32 ∧
        Within (([.page 0x10, .page 0x11, .page 0x31, .word 0x20 0x0D0, .word 0x20 0x0D4, .word 0x20 0x0D8, .word 0x20
          0x0DC, .page 0x1B, .word 0x19 0x0A4, .word 0x19 0x0A8, .word 0x19 0x0AC, .word 0x19 0x0B0, .word 0x19 0x0B4, .word
          0x19 0x0B8] : List Scope) ++ airScopes) (([.fes, .frameNumbers, .lanes, .nodes, .ledger, .preempts] : List Part)
          ++ airParts) s t)) ∧
  (∀ (fn : Fin 4) (set : Fin 8) (channel : Nat) (metric : Nat) (rssi : Int) (freq : Int) (window : Nat) (s : State) (i e fl : Nat),
      searches fn.val s = true →
      channelMeets (logicalOf fn.val s) set.val channel fn.val s = true →
      rd (F.CHAN.LISTEN_DETECT_CORR_MIN (logicalOf fn.val s) set.val) s ≤ metric →
      guardedChannel fn.val (channelHz (logicalOf fn.val s) set.val channel s) s = false →
      energyNow fn.val (channelHz (logicalOf fn.val s) set.val channel s) (rd (F.CHAN.LISTEN_RASTER_SPACING_KHZ (logicalOf
        fn.val s) set.val) s * 1000) s = some e →
      channelFloor fn.val (channelHz (logicalOf fn.val s) set.val channel s) (rd (F.CHAN.LISTEN_RASTER_SPACING_KHZ
        (logicalOf fn.val s) set.val) s * 1000) s = some fl →
      fl * linear (4 * rdInt (F.CHAN.LISTEN_DETECT_SNR_MIN (logicalOf fn.val s) set.val) s) / 10 ^ 40 ≤ e * 10 ^ 12 →
      (fe fn.val s).offerUs ≠ s.now / 1000 →
      lanesOn (logicalOf fn.val s) (channelHz (logicalOf fn.val s) set.val channel s) (rd (F.CHAN.LISTEN_RASTER_SPACING_KHZ
        (logicalOf fn.val s) set.val) s * 1000) s = [] →
      pageState 0x11 s = RUN →
      mayBind (logicalOf fn.val s) s = true →
      longestIdle s = some i →
      Calm s = true →
      Gives (.detectionReoffer fn set channel metric rssi freq window) s (fun t =>
        (lane i t).state = .waking ∧
        (lane i t).channel = channel ∧
        (lane i t).physical = fn.val ∧
        (lane i t).rssi = clamp (-260) 20 rssi ∧
        rd (F.CHAN.DETECTIONS fn.val) t = (rd (F.CHAN.DETECTIONS fn.val) s + 1) % 2 ^ 32 ∧
        Within (([.page 0x10, .page 0x11, .page 0x31, .word 0x20 0x0D0, .word 0x20 0x0D4, .word 0x20 0x0D8, .word 0x20
          0x0DC, .page 0x1B, .word 0x19 0x0A4, .word 0x19 0x0A8, .word 0x19 0x0AC, .word 0x19 0x0B0, .word 0x19 0x0B4, .word
          0x19 0x0B8] : List Scope) ++ airScopes) (([.fes, .frameNumbers, .lanes, .nodes, .ledger, .preempts] : List Part)
          ++ airParts) s t)) ∧
  (∀ (fn : Fin 4) (set : Fin 8) (channel : Nat) (metric : Nat) (rssi : Int) (freq : Int) (window : Nat) (s : State),
      searches fn.val s = false →
      Calm s = true →
      Gives (.detection fn set channel metric rssi freq window) s (fun t =>
        rd (F.CHAN.DETECTIONS fn.val) t = rd (F.CHAN.DETECTIONS fn.val) s ∧
        Within [] [] s t)) ∧
  (∀ (fn : Fin 4) (bins : List (Nat × Int)) (s : State),
      rf fn.val s ≠ RF_RX →
      rf fn.val s ≠ RF_RELIEVED →
      Gives (.binEnergyUpdate fn bins) s (fun t =>
        (∀ b ∈ List.range 256, rd (F.CHAN.ENERGY fn.val b) t = 0x8000) ∧
        (fe fn.val t).energy.head? = some { time := s.now, bins := [] } ∧
        Within [.page 0x10] [.fes] s t)) ∧
  (∀ (fn : Fin 4) (bins : List (Nat × Int)) (s : State) (v : Int),
      rf fn.val s = RF_RX →
      (fe fn.val s).since + 128000 ≤ s.now →
      bins = [(128, v)] →
      -32768 ≤ v →
      v < 32768 →
      Gives (.binEnergyUpdate fn bins) s (fun t =>
        rdInt (F.CHAN.ENERGY fn.val 128) t = v ∧
        (fe fn.val t).energy.head? = some { time := s.now, bins := [(128, v)] } ∧
        Within [.page 0x10] [.fes] s t))

/-- A lane wakes, searches, matches sync, takes its PHR and ends (R165, R166, R167, R175, R178, R200, R202, R207, R208,
R183, R184). LANE_WAKE_DONE starts the search; PREAMBLE_LOSS and SEARCH_MAX_EXPIRY end it with the code of a sync
failure; SYNC_MATCH enters HEADER with the value that differs in the fewest bits, the first of equals in the order of
the rules, by the SFD for O-QPSK, and for OFDM by a carrier offset within 40 kHz, beyond which the frame ends; with no
match within tolerance it changes nothing; PHR_COMPLETE enters PAYLOAD with its length, and a reserved bit ends the
frame as DROP_PHR_BAD; LAST_SYMBOL enters ENDING; CAPTURE_FIFO_PUSH stores an octet, or refuses it with the FIFO full. -/
def Obligations.LaneReception : Prop :=
  (∀ (li : Fin 136) (s : State),
      (lane li.val s).state = .waking →
      Calm s = true →
      Gives (.laneWakeDone li) s (fun t =>
        (lane li.val t).state = .search ∧
        (lane li.val t).liveAt = 2 * s.now - (lane li.val s).searchFrom ∧
        Within (([.page 0x11, .page 0x10] : List Scope) ++ airScopes) (([.lanes, .fes] : List Part) ++ airParts) s t)) ∧
  (∀ (li : Fin 136) (s : State),
      (lane li.val s).state = .search →
      (lane li.val s).freeing = none →
      (lane li.val s).gapUntil ≤ s.now →
      Calm s = true →
      Gives (.preambleLoss li) s (fun t =>
        (lane li.val t).state = .idle ∧
        t.ledger = ((lane li.val s).frame, laneCode (lane li.val s) (if (lane li.val s).victim then .dropCaptured else .dropSyncFail)) :: s.ledger ∧
        Within (([.page 0x11, .page 0x10, .page 0x31, .word 0x20 0x0D0, .word 0x20 0x0D4, .word 0x20 0x0D8, .word 0x20
          0x0DC, .page 0x1B, .word 0x19 0x0A4, .word 0x19 0x0A8, .word 0x19 0x0AC, .word 0x19 0x0B0, .word 0x19 0x0B4, .word
          0x19 0x0B8] : List Scope) ++ airScopes) (([.lanes, .fes, .nodes, .ledger] : List Part) ++ airParts) s t)) ∧
  (∀ (li : Fin 136) (s : State),
      (lane li.val s).state = .search →
      (lane li.val s).freeing = none →
      Calm s = true →
      Gives (.searchMaxExpiry li) s (fun t =>
        (lane li.val t).state = .idle ∧
        t.ledger = ((lane li.val s).frame, laneCode (lane li.val s) (if (lane li.val s).victim then .dropCaptured else .dropSyncFail)) :: s.ledger ∧
        Within (([.page 0x11, .page 0x10, .page 0x31, .word 0x20 0x0D0, .word 0x20 0x0D4, .word 0x20 0x0D8, .word 0x20
          0x0DC, .page 0x1B, .word 0x19 0x0A4, .word 0x19 0x0A8, .word 0x19 0x0AC, .word 0x19 0x0B0, .word 0x19 0x0B4, .word
          0x19 0x0B8] : List Scope) ++ airScopes) (([.lanes, .fes, .nodes, .ledger] : List Part) ++ airParts) s t)) ∧
  (∀ (li : Fin 136) (last : BitVec 32) (residualHz : Int) (sfdErrors : Nat × Nat) (s : State) (h : SyncHit),
      (lane li.val s).state = .search →
      isFsk (lane li.val s).mode = true →
      bestHit (syncHits (lane li.val s) last.toNat) = some h →
      Calm s = true →
      Gives (.syncMatch li last residualHz sfdErrors) s (fun t =>
        (lane li.val t).state = .header ∧
        (lane li.val t).coded = h.coded ∧
        (lane li.val t).ext = h.ext ∧
        (lane li.val t).syncErrors = h.errors ∧
        Within (([.page 0x11, .page 0x10, .page 0x18] : List Scope) ++ airScopes) (([.lanes, .fes] : List Part) ++ airParts)
          s t)) ∧
  (∀ (li : Fin 136) (phr : Phr) (s : State) (len : Nat) (w : Bool),
      (lane li.val s).state = .header →
      isFsk (lane li.val s).mode = true →
      phr = .fsk false len true w →
      4 ≤ len →
      (lane li.val s).captors.contains li.val = false →
      Calm s = true →
      Gives (.phrComplete li phr) s (fun t =>
        (lane li.val t).state = .payload ∧
        (lane li.val t).length = len ∧
        (lane li.val t).fcs2 = true ∧
        (lane li.val t).whitened = w ∧
        Within (([.page 0x11, .page 0x10, .page 0x31, .word 0x20 0x0D0, .word 0x20 0x0D4, .word 0x20 0x0D8, .word 0x20
          0x0DC, .page 0x1B, .word 0x19 0x0A4, .word 0x19 0x0A8, .word 0x19 0x0AC, .word 0x19 0x0B0, .word 0x19 0x0B4, .word
          0x19 0x0B8, .page 0x18] : List Scope) ++ airScopes) (([.lanes, .fes, .nodes, .ledger] : List Part) ++ airParts) s
          t)) ∧
  (∀ (li : Fin 136) (phr : Phr) (s : State) (len : Nat) (f w : Bool),
      (lane li.val s).state = .header →
      (lane li.val s).freeing = none →
      isFsk (lane li.val s).mode = true →
      phr = .fsk true len f w →
      (lane li.val s).logical < 4 →
      Calm s = true →
      Gives (.phrComplete li phr) s (fun t =>
        (lane li.val t).state = .idle ∧
        rd (F.PHY.PHR_LAST (lane li.val s).logical) t = 2 ∧
        rd (F.PHY.PHR_BAD (lane li.val s).logical) t = (rd (F.PHY.PHR_BAD (lane li.val s).logical) s + 1) % 2 ^ 32 ∧
        t.ledger = ((lane li.val s).frame, laneCode (lane li.val s) .dropPhrBad) :: s.ledger ∧
        Within (([.page 0x11, .page 0x10, .page 0x31, .word 0x20 0x0D0, .word 0x20 0x0D4, .word 0x20 0x0D8, .word 0x20
          0x0DC, .page 0x1B, .word 0x19 0x0A4, .word 0x19 0x0A8, .word 0x19 0x0AC, .word 0x19 0x0B0, .word 0x19 0x0B4, .word
          0x19 0x0B8, .page 0x18] : List Scope) ++ airScopes) (([.lanes, .fes, .nodes, .ledger] : List Part) ++ airParts) s
          t)) ∧
  (∀ (li : Fin 136) (s : State),
      (lane li.val s).state = .payload →
      Calm s = true →
      Gives (.lastSymbol li) s (fun t =>
        (lane li.val t).state = .ending ∧
        (lane li.val t).lastSymbol = s.now ∧
        (lane li.val t).victim = (lane li.val s).victim ∧
        Within (([.page 0x11, .page 0x10] : List Scope) ++ airScopes) (([.lanes, .fes] : List Part) ++ airParts) s t)) ∧
  (∀ (li : Fin 136) (drain : Bool) (last : Bool) (s : State),
      (lane li.val s).state = .payload ∨ (lane li.val s).state = .ending →
      (lane li.val s).fifo < 64 →
      Calm s = true →
      Gives (.captureFifoPush li drain last) s (fun t =>
        (lane li.val t).octets = (lane li.val s).octets + 1 ∧
        (lane li.val t).fifo = (if drain then (if last then 0 else ((lane li.val s).fifo + 1) % 8) else (lane li.val s).fifo + 1) ∧
        Within (([.page 0x11, .page 0x10, .page 0x31, .word 0x20 0x0D0, .word 0x20 0x0D4, .word 0x20 0x0D8, .word 0x20
          0x0DC, .page 0x1B, .word 0x19 0x0A4, .word 0x19 0x0A8, .word 0x19 0x0AC, .word 0x19 0x0B0, .word 0x19 0x0B4, .word
          0x19 0x0B8] : List Scope) ++ airScopes) (([.lanes, .fes, .nodes, .ledger] : List Part) ++ airParts) s t)) ∧
  (∀ (li : Fin 136) (drain : Bool) (last : Bool) (s : State),
      (lane li.val s).state = .payload ∨ (lane li.val s).state = .ending →
      64 ≤ (lane li.val s).fifo →
      (lane li.val s).freeing = none →
      bufferFull s = true →
      Calm s = true →
      Gives (.captureFifoPush li drain last) s (fun t =>
        (lane li.val t).state = .idle ∧
        rd F.LANEPOOL.FIFO_REFUSED t = (rd F.LANEPOOL.FIFO_REFUSED s + 1) % 2 ^ 32 ∧
        eventLatched 0x11 5 t ∧
        Within (([.page 0x11, .page 0x10, .page 0x31, .word 0x20 0x0D0, .word 0x20 0x0D4, .word 0x20 0x0D8, .word 0x20
          0x0DC, .page 0x1B, .word 0x19 0x0A4, .word 0x19 0x0A8, .word 0x19 0x0AC, .word 0x19 0x0B0, .word 0x19 0x0B4, .word
          0x19 0x0B8] : List Scope) ++ airScopes) (([.lanes, .fes, .nodes, .ledger] : List Part) ++ airParts) s t)) ∧
  (∀ (li : Fin 136) (last : BitVec 32) (residualHz : Int) (sfdErrors : Nat × Nat) (s : State),
      (lane li.val s).state = .search →
      modeFamily (lane li.val s).mode = some .ofdm →
      residualHz.natAbs ≤ 40000 →
      Calm s = true →
      Gives (.syncMatch li last residualHz sfdErrors) s (fun t =>
        (lane li.val t).state = .header ∧
        (lane li.val t).coded = false ∧
        Within (([.page 0x11, .page 0x10, .page 0x18] : List Scope) ++ airScopes) (([.lanes, .fes] : List Part) ++ airParts)
          s t)) ∧
  (∀ (li : Fin 136) (last : BitVec 32) (residualHz : Int) (sfdErrors : Nat × Nat) (s : State),
      (lane li.val s).state = .search →
      (lane li.val s).freeing = none →
      modeFamily (lane li.val s).mode = some .ofdm →
      40000 < residualHz.natAbs →
      Calm s = true →
      Gives (.syncMatch li last residualHz sfdErrors) s (fun t =>
        (lane li.val t).state = .idle ∧
        t.ledger = ((lane li.val s).frame, laneCode (lane li.val s) (if (lane li.val s).victim then .dropCaptured else .dropSyncFail)) :: s.ledger ∧
        Within (([.page 0x11, .page 0x10, .page 0x31, .word 0x20 0x0D0, .word 0x20 0x0D4, .word 0x20 0x0D8, .word 0x20
          0x0DC, .page 0x1B, .word 0x19 0x0A4, .word 0x19 0x0A8, .word 0x19 0x0AC, .word 0x19 0x0B0, .word 0x19 0x0B4, .word
          0x19 0x0B8] : List Scope) ++ airScopes) (([.lanes, .fes, .nodes, .ledger] : List Part) ++ airParts) s t)) ∧
  (∀ (li : Fin 136) (last : BitVec 32) (residualHz : Int) (sfdErrors : Nat × Nat) (s : State),
      (lane li.val s).state = .search →
      modeFamily (lane li.val s).mode = some .oqpsk →
      sfdErrors.1 ≤ 8 →
      sfdErrors.2 ≤ 8 →
      Calm s = true →
      Gives (.syncMatch li last residualHz sfdErrors) s (fun t =>
        (lane li.val t).state = .header ∧
        Within (([.page 0x11, .page 0x10, .page 0x18] : List Scope) ++ airScopes) (([.lanes, .fes] : List Part) ++ airParts)
          s t)) ∧
  (∀ (li : Fin 136) (last : BitVec 32) (residualHz : Int) (sfdErrors : Nat × Nat) (s : State),
      isFsk (lane li.val s).mode = true →
      bestHit (syncHits (lane li.val s) last.toNat) = none →
      Calm s = true →
      Gives (.syncMatch li last residualHz sfdErrors) s (fun t =>
        lane li.val t = lane li.val s ∧
        Within airScopes airParts s t))

/-- Lane faults, tests and substitution, the shared gain, and a modulator fault (R172, R173, R174, R175, R176, R185,
R186, R187, R188, R189, R193, R216). LANE_WATCHDOG on a lane that is stuck and LANE_FAULT take a lane out and a reserve
lane in; LANE_TEST_DONE returns a lane to the reserve or retires it; LANE_SELFCHECK takes an idle lane into CHECK while
eight others are idle and none is in CHECK; GAIN_STEP_DOWN and GAIN_STEP_UP move the index with no lane reading;
FORCED_GAIN_STEP forces a step while lanes read, or marks saturation at index 7; GAIN_RECOVERY stops offering and
GAIN_RECOVERY_END restarts it; TX_MOD_FAULT cuts the transmission. -/
def Obligations.LaneFaultsAndGain : Prop :=
  (∀ (li : Fin 136) (s : State) (r : Nat),
      (lane li.val s).inService = true →
      lowestReserve s = some r →
      s.laneDebt = [] →
      Calm s = true →
      laneStuck li.val s = true →
      Gives (.laneWatchdog li) s (fun t =>
        (lane li.val t).state = .fault ∧
        (lane r t).state = .idle ∧
        rd F.LANEPOOL.LAST_SUBST_FAULTY t = li.val ∧
        rd F.LANEPOOL.LAST_SUBST_SUBSTITUTE t = r ∧
        rd F.LANEPOOL.FAULTS t = (rd F.LANEPOOL.FAULTS s + 1) % 2 ^ 32 ∧
        eventLatched 0x11 2 t ∧
        Within (([.page 0x11, .page 0x10, .page 0x31, .word 0x20 0x0D0, .word 0x20 0x0D4, .word 0x20 0x0D8, .word 0x20
          0x0DC, .page 0x1B, .word 0x19 0x0A4, .word 0x19 0x0A8, .word 0x19 0x0AC, .word 0x19 0x0B0, .word 0x19 0x0B4, .word
          0x19 0x0B8, .word 0x05 0x014, .word 0x05 0x06C] : List Scope) ++ airScopes) (([.lanes, .fes, .nodes, .ledger,
          .poolTest] : List Part) ++ airParts) s t)) ∧
  (∀ (li : Fin 136) (parity : Bool) (s : State) (r : Nat),
      (lane li.val s).inService = true →
      lowestReserve s = some r →
      s.laneDebt = [] →
      Calm s = true →
      Gives (.laneFault li parity) s (fun t =>
        (lane li.val t).state = .fault ∧
        (lane r t).state = .idle ∧
        rd F.LANEPOOL.LAST_SUBST_FAULTY t = li.val ∧
        rd F.LANEPOOL.LAST_SUBST_SUBSTITUTE t = r ∧
        rd F.LANEPOOL.FAULTS t = (rd F.LANEPOOL.FAULTS s + 1) % 2 ^ 32 ∧
        eventLatched 0x11 2 t ∧
        Within (([.page 0x11, .page 0x10, .page 0x31, .word 0x20 0x0D0, .word 0x20 0x0D4, .word 0x20 0x0D8, .word 0x20
          0x0DC, .page 0x1B, .word 0x19 0x0A4, .word 0x19 0x0A8, .word 0x19 0x0AC, .word 0x19 0x0B0, .word 0x19 0x0B4, .word
          0x19 0x0B8, .word 0x05 0x014, .word 0x05 0x06C] : List Scope) ++ airScopes) (([.lanes, .fes, .nodes, .ledger,
          .poolTest] : List Part) ++ airParts) s t)) ∧
  (∀ (li : Fin 136) (passed : Bool) (s : State),
      (lane li.val s).state = .test →
      Calm s = true →
      Gives (.laneTestDone li passed) s (fun t =>
        (lane li.val t).state = (if passed = true ∧ faults24 (lane li.val s) s.now < 3 then .reserve else .retired) ∧
        Within (([.page 0x11, .page 0x10, .page 0x05] : List Scope) ++ airScopes) (([.lanes, .fes, .poolTest] : List Part)
          ++ airParts) s t)) ∧
  (∀ (li : Fin 136) (passed : Bool) (s : State),
      (lane li.val s).state = .idle →
      (lane li.val s).freeing = none →
      (idleLanes s).length < 9 →
      Calm s = true →
      Gives (.laneSelfcheck li passed) s (fun t =>
        (lane li.val t).state = .idle ∧
        Within [] [] s t)) ∧
  (∀ (li : Fin 136) (passed : Bool) (s : State),
      (lane li.val s).state = .idle →
      (lane li.val s).freeing = none →
      9 ≤ (idleLanes s).length →
      Calm s = true →
      Gives (.laneSelfcheck li passed) s (fun t =>
        (lane li.val t).state = .check ∧
        (lane li.val t).checkOk = passed ∧
        (lane li.val t).stepAt = s.now + 20000 ∧
        Within (([.page 0x11, .page 0x10] : List Scope) ++ airScopes) (([.lanes, .fes] : List Part) ++ airParts) s t)) ∧
  (∀ (fn : Fin 4) (s : State),
      anyReading fn.val s = false →
      gainHeld fn.val s = false →
      rd (F.CHAN.GAIN_NOW_INDEX fn.val) s < 7 →
      (fe fn.val s).stepAt = 0 ∨ (fe fn.val s).stepAt + 2000 ≤ s.now →
      Calm s = true →
      Gives (.gainStepDown fn) s (fun t =>
        rd (F.CHAN.GAIN_NOW_INDEX fn.val) t = rd (F.CHAN.GAIN_NOW_INDEX fn.val) s + 1 ∧
        (fe fn.val t).stepAt = s.now ∧
        Within (([.page 0x10] : List Scope) ++ airScopes) (([.fes] : List Part) ++ airParts) s t)) ∧
  (∀ (fn : Fin 4) (s : State),
      anyReading fn.val s = false →
      gainHeld fn.val s = false →
      rd (F.CHAN.GAIN_NOW_INDEX fn.val) s ≠ 0 →
      Calm s = true →
      Gives (.gainStepUp fn) s (fun t =>
        rd (F.CHAN.GAIN_NOW_INDEX fn.val) t = (rd (F.CHAN.GAIN_NOW_INDEX fn.val) s - 1) % 8 ∧
        saturated fn.val t = saturated fn.val s ∧
        Within (([.page 0x10] : List Scope) ++ airScopes) (([.fes] : List Part) ++ airParts) s t)) ∧
  (∀ (fn : Fin 4) (s : State),
      anyReading fn.val s = true →
      rd (F.CHAN.GAIN_NOW_INDEX fn.val) s < 7 →
      Calm s = true →
      Gives (.forcedGainStep fn) s (fun t =>
        rd (F.CHAN.GAIN_NOW_INDEX fn.val) t = rd (F.CHAN.GAIN_NOW_INDEX fn.val) s + 1 ∧
        rd (F.CHAN.FORCED_STEPS fn.val) t = (rd (F.CHAN.FORCED_STEPS fn.val) s + 1) % 2 ^ 32 ∧
        eventLatched 0x10 1 t ∧
        eventLatched 0x10 2 t ∧
        Within (([.page 0x10] : List Scope) ++ airScopes) (([.lanes, .fes] : List Part) ++ airParts) s t)) ∧
  (∀ (fn : Fin 4) (s : State),
      anyReading fn.val s = true →
      rd (F.CHAN.GAIN_NOW_INDEX fn.val) s = 7 →
      Calm s = true →
      Gives (.forcedGainStep fn) s (fun t =>
        saturated fn.val t = true ∧
        rd (F.CHAN.GAIN_NOW_INDEX fn.val) t = 7 ∧
        eventLatched 0x10 1 t ∧
        Within (([.page 0x10] : List Scope) ++ airScopes) (([.lanes, .fes] : List Part) ++ airParts) s t)) ∧
  (∀ (fn : Fin 4) (s : State),
      rd (F.CHAN.GAIN_RECOVER_RECOVER_MS fn.val) s ≠ 0 →
      (fe fn.val s).forcedAt.isSome = true →
      Calm s = true →
      Gives (.gainRecovery fn) s (fun t =>
        (fe fn.val t).recovering = true ∧
        rd (F.CHAN.RECOVERIES fn.val) t = (rd (F.CHAN.RECOVERIES fn.val) s + 1) % 2 ^ 32 ∧
        Within (([.page 0x10] : List Scope) ++ airScopes) (([.fes] : List Part) ++ airParts) s t)) ∧
  (∀ (fn : Fin 4) (s : State),
      Calm s = true →
      Gives (.gainRecoveryEnd fn) s (fun t =>
        (fe fn.val t).recovering = false ∧
        rd (F.CHAN.GAIN_NOW_SATURATED fn.val) t = 0 ∧
        Within (([.page 0x10] : List Scope) ++ airScopes) (([.fes] : List Part) ++ airParts) s t)) ∧
  (∀ (fn : Fin 4) (parity : Bool) (s : State),
      (fe fn.val s).tx.isSome = true →
      Calm s = true →
      Gives (.txModFault fn parity) s (fun t =>
        (fe fn.val t).tx = none ∧
        rf fn.val t = RF_TX_RX ∧
        rd F.PHY.TX_FAULTS t = (rd F.PHY.TX_FAULTS s + 1) % 2 ^ 32 ∧
        rd F.PHY.TX_FAULT_LAST_FE t = fn.val ∧
        eventLatched 0x18 0 t ∧
        Within (([.word 0x18 0x0C4, .word 0x18 0x014, .word 0x18 0x0C0, .page 0x31, .page 0x24, .page 0x25, .page 0x26,
          .page 0x27, .page 0x10, .word (fePage fn.val) 0x05C, .word (fePage fn.val) 0x04C, .word 0x19 0x0B4, .word 0x20
          0x0D0, .word 0x20 0x0D4, .word 0x20 0x0D8, .word 0x20 0x0DC, .page 0x1B, .word 0x21 0x050, .word 0x21 0x04C] :
          List Scope) ++ airScopes) (([.duty, .fes, .frames, .ledger, .nodes] : List Part) ++ airParts) s t))

/-- The MHR, the security header and the key of a received frame (R226, R227, R228, R230, R232, R233, R416).
MHR_COMPLETE outside RUN ends the frame as DROP_DISABLED, and an unaccepted form as DROP_ADDR; an accepted secured data
frame of a short source takes the node's core record; AUX_SECURITY_HEADER below level 5 or with the counter suppressed
fixes DROP_AUTH; KEY_READY places the context on an engine with the key's generation. -/
def Obligations.FrameHeaders : Prop :=
  (∀ (li : Fin 136) (mhr : Mhr) (find : Parity) (s : State),
      (lane li.val s).state = .payload ∨ (lane li.val s).state = .ending →
      (lane li.val s).freeing = none →
      (lane li.val s).rx.mhr = none →
      mhr.tooShort = false →
      pageState 0x19 s ≠ RUN →
      Calm s = true →
      Gives (.mhrComplete li mhr find) s (fun t =>
        (lane li.val t).state = .idle ∧
        t.ledger = ((lane li.val s).frame, laneCode (lane li.val s) .dropDisabled) :: s.ledger ∧
        Within (([.page 0x11, .page 0x10, .page 0x31, .word 0x20 0x0D0, .word 0x20 0x0D4, .word 0x20 0x0D8, .word 0x20
          0x0DC, .word 0x20 0x0C8, .word 0x20 0x0CC, .word 0x20 0x014, .word 0x20 0x0BC, .page 0x1B, .word 0x19 0x0A4, .word
          0x19 0x0A8, .word 0x19 0x0AC, .word 0x19 0x0B0, .word 0x19 0x0B4, .word 0x19 0x0B8, .page 0x24, .page 0x25, .page
          0x26, .page 0x27, .word 0x21 0x050, .word 0x21 0x04C] : List Scope) ++ airScopes) (([.lanes, .fes, .nodes,
          .ledger, .frames, .duty] : List Part) ++ airParts) s t)) ∧
  (∀ (li : Fin 136) (mhr : Mhr) (find : Parity) (s : State),
      (lane li.val s).state = .payload ∨ (lane li.val s).state = .ending →
      (lane li.val s).freeing = none →
      (lane li.val s).rx.mhr = none →
      mhr.tooShort = false →
      pageState 0x19 s = RUN →
      formAccepted mhr s = false →
      Calm s = true →
      Gives (.mhrComplete li mhr find) s (fun t =>
        (lane li.val t).state = .idle ∧
        t.ledger = ((lane li.val s).frame, laneCode (lane li.val s) .dropAddr) :: s.ledger ∧
        rd F.MAC.ADDR_DROPS t = (rd F.MAC.ADDR_DROPS s + (if laneCode (lane li.val s) .dropAddr = .dropAddr then 1 else 0)) % 2 ^ 32 ∧
        Within (([.page 0x11, .page 0x10, .page 0x31, .word 0x20 0x0D0, .word 0x20 0x0D4, .word 0x20 0x0D8, .word 0x20
          0x0DC, .word 0x20 0x0C8, .word 0x20 0x0CC, .word 0x20 0x014, .word 0x20 0x0BC, .page 0x1B, .word 0x19 0x0A4, .word
          0x19 0x0A8, .word 0x19 0x0AC, .word 0x19 0x0B0, .word 0x19 0x0B4, .word 0x19 0x0B8, .page 0x24, .page 0x25, .page
          0x26, .page 0x27, .word 0x21 0x050, .word 0x21 0x04C] : List Scope) ++ airScopes) (([.lanes, .fes, .nodes,
          .ledger, .frames, .duty] : List Part) ++ airParts) s t)) ∧
  (∀ (li : Fin 136) (mhr : Mhr) (find : Parity) (s : State) (p a : Nat),
      (lane li.val s).state = .payload ∨ (lane li.val s).state = .ending →
      (lane li.val s).rx.mhr = none →
      mhr.tooShort = false →
      pageState 0x19 s = RUN →
      formAccepted mhr s = true →
      mhr.ftype = .data →
      panSlot mhr.pan s = some p →
      mhr.src = .short a →
      find ≠ .lost →
      (node (p * 65536 + a % 65536) s).blocked = false →
      mhr.security = true →
      Calm s = true →
      Gives (.mhrComplete li mhr find) s (fun t =>
        (lane li.val t).rx.mhr = some mhr ∧
        (lane li.val t).nodeIndex = some (p * 65536 + a % 65536) ∧
        (lane li.val t).rx.snap = some (nodeSeen (p * 65536 + a % 65536) s).core ∧
        (lane li.val t).state = (lane li.val s).state ∧
        Within (([.page 0x11, .page 0x10, .page 0x31, .word 0x20 0x0D0, .word 0x20 0x0D4, .word 0x20 0x0D8, .word 0x20
          0x0DC, .word 0x20 0x0C8, .word 0x20 0x0CC, .word 0x20 0x014, .word 0x20 0x0BC, .page 0x1B, .word 0x19 0x0A4,
          .word 0x19 0x0A8, .word 0x19 0x0AC, .word 0x19 0x0B0, .word 0x19 0x0B4, .word 0x19 0x0B8, .page 0x24, .page
          0x25, .page 0x26, .page 0x27, .word 0x21 0x050, .word 0x21 0x04C, .page 0x46] : List Scope) ++ airScopes)
          (([.lanes, .fes, .nodes, .ledger, .frames, .duty] : List Part) ++ airParts) s t)) ∧
  (∀ (li : Fin 136) (level : Nat) (suppressed : Bool) (kim : Nat) (keyIndex : Nat) (counter : Nat) (s : State) (m : Mhr),
      (lane li.val s).state = .payload ∨ (lane li.val s).state = .ending →
      (lane li.val s).rx.mhr = some m →
      m.ftype = .data →
      m.security = true →
      m.tooShort = false →
      (lane li.val s).rx.fixed = none →
      level < 5 →
      (lane li.val s).rx.panInsecure = false →
      Calm s = true →
      Gives (.auxSecurityHeader li level suppressed kim keyIndex counter) s (fun t =>
        (lane li.val t).rx.fixed = some .dropAuth ∧
        (lane li.val t).counter = counter ∧
        Within (([.page 0x11, .page 0x10, .word 0x30 0x09C, .word 0x30 0x098, .word 0x30 0x0A0] : List Scope) ++ airScopes)
          (([.lanes, .fes, .slots, .cache] : List Part) ++ airParts) s t)) ∧
  (∀ (li : Fin 136) (level : Nat) (suppressed : Bool) (kim : Nat) (keyIndex : Nat) (counter : Nat) (s : State) (m : Mhr),
      (lane li.val s).state = .payload ∨ (lane li.val s).state = .ending →
      (lane li.val s).rx.mhr = some m →
      m.ftype = .data →
      m.security = true →
      m.tooShort = false →
      (lane li.val s).rx.fixed = none →
      5 ≤ level →
      suppressed = true →
      Calm s = true →
      Gives (.auxSecurityHeader li level suppressed kim keyIndex counter) s (fun t =>
        (lane li.val t).rx.fixed = some .dropAuth ∧
        (lane li.val t).rx.level = level ∧
        Within (([.page 0x11, .page 0x10, .word 0x30 0x09C, .word 0x30 0x098, .word 0x30 0x0A0] : List Scope) ++ airScopes)
          (([.lanes, .fes, .slots, .cache] : List Part) ++ airParts) s t)) ∧
  (∀ (li : Fin 136) (s : State) (sl e : Nat),
      (lane li.val s).state = .payload ∨ (lane li.val s).state = .ending →
      (lane li.val s).rx.keySlot = some sl →
      (lane li.val s).rx.keyReady = false →
      (lane li.val s).rx.fixed = none →
      (lane li.val s).rx.keyNode = none →
      (takeEngine s).1 = .on e →
      Calm s = true →
      Gives (.keyReady li) s (fun t =>
        (lane li.val t).rx.keyReady = true ∧
        (lane li.val t).rx.engine = some e ∧
        (lane li.val t).rx.keyGen = (slot sl s).gen ∧
        Within (([.page 0x11, .page 0x10, .word 0x30 0x0A4, .word 0x30 0x098, .page 0x31, .word 0x20 0x0D0, .word 0x20
          0x0D4, .word 0x20 0x0D8, .word 0x20 0x0DC, .page 0x1B, .word 0x19 0x0A4, .word 0x19 0x0A8, .word 0x19 0x0AC, .word
          0x19 0x0B0, .word 0x19 0x0B4, .word 0x19 0x0B8] : List Scope) ++ airScopes) (([.lanes, .fes, .cache, .nodes,
          .ledger] : List Part) ++ airParts) s t))

/-- The verdict of a received data frame: FCS, a fixed verdict, key, MIC and replay (R228, R230, R232, R234, R235, R236,
R238). FRAME_VERDICT with a bad FCS ends the frame as DROP_FCS, with a verdict fixed earlier as that, with a bad MIC as
DROP_AUTH; with an old counter as DROP_REPLAY leaving the window; a frame that passes everything is counted; and a lane
with octets still in its FIFO holds its verdict until the packet buffer has space. -/
def Obligations.FrameVerdicts : Prop :=
  (∀ (li : Fin 136) (fcsOk : Bool) (micOk : Bool) (figs : Figures) (body : Body) (s : State) (m : Mhr),
      (lane li.val s).state = .ending →
      (lane li.val s).freeing = none →
      (lane li.val s).fifo = 0 ∨ bufferFull s = false →
      (lane li.val s).rx.mhr = some m →
      m.ftype ≠ .ack →
      m.ftype ≠ .beacon →
      fcsOk = false →
      Calm s = true →
      Gives (.frameVerdict li fcsOk micOk figs body) s (fun t =>
        (lane li.val t).state = .idle ∧
        t.ledger = ((lane li.val s).frame, laneCode (lane li.val s) .dropFcs) :: s.ledger ∧
        Within (([.page 0x10, .page 0x11, .page 0x31, .page 0x1B, .word 0x20 0x0DC, .word 0x20 0x0D8, .word 0x20 0x0D4,
          .word 0x20 0x0D0, .word 0x19 0x0A4, .word 0x19 0x0A8, .word 0x19 0x0AC, .word 0x19 0x0B0, .word 0x19 0x0B4,
          .word 0x19 0x0B8] : List Scope) ++ airScopes) (([.fes, .lanes, .nodes, .ddr, .ledger] : List Part) ++ airParts)
          s t)) ∧
  (∀ (li : Fin 136) (fcsOk : Bool) (micOk : Bool) (figs : Figures) (body : Body) (s : State) (m : Mhr) (d : Disp),
      (lane li.val s).state = .ending →
      (lane li.val s).freeing = none →
      (lane li.val s).fifo = 0 ∨ bufferFull s = false →
      (lane li.val s).rx.mhr = some m →
      m.ftype ≠ .ack →
      m.ftype ≠ .beacon →
      fcsOk = true →
      m.tooShort = false →
      (lane li.val s).rx.fixed = some d →
      Calm s = true →
      Gives (.frameVerdict li fcsOk micOk figs body) s (fun t =>
        (lane li.val t).state = .idle ∧
        t.ledger = ((lane li.val s).frame, laneCode (lane li.val s) d) :: s.ledger ∧
        Within (([.page 0x10, .page 0x11, .page 0x31, .page 0x1B, .word 0x20 0x0DC, .word 0x20 0x0D8, .word 0x20 0x0D4,
          .word 0x20 0x0D0, .word 0x19 0x0A4, .word 0x19 0x0A8, .word 0x19 0x0AC, .word 0x19 0x0B0, .word 0x19 0x0B4,
          .word 0x19 0x0B8] : List Scope) ++ airScopes) (([.fes, .lanes, .nodes, .ddr, .ledger] : List Part) ++ airParts)
          s t)) ∧
  (∀ (li : Fin 136) (fcsOk : Bool) (micOk : Bool) (figs : Figures) (body : Body) (s : State) (m : Mhr) (sl : Nat),
      (lane li.val s).state = .ending →
      (lane li.val s).freeing = none →
      (lane li.val s).fifo = 0 ∨ bufferFull s = false →
      (lane li.val s).rx.mhr = some m →
      m.ftype ≠ .ack →
      m.ftype ≠ .beacon →
      fcsOk = true →
      micOk = false →
      m.tooShort = false →
      (lane li.val s).rx.fixed = none →
      (lane li.val s).rx.insecure = false →
      (lane li.val s).rx.keySlot = some sl →
      (lane li.val s).rx.keyReady = true →
      keyHolds sl (lane li.val s).rx.keyGen s = true →
      recordHolds (lane li.val s).rx s = true →
      (lane li.val s).rx.mismatch = false →
      Calm s = true →
      Gives (.frameVerdict li fcsOk micOk figs body) s (fun t =>
        (lane li.val t).state = .idle ∧
        t.ledger = ((lane li.val s).frame, laneCode (lane li.val s) .dropAuth) :: s.ledger ∧
        eventLatched 0x19 2 t ∧
        Within (([.page 0x10, .page 0x11, .page 0x31, .page 0x1B, .word 0x20 0x0DC, .word 0x20 0x0D8, .word 0x20 0x0D4,
          .word 0x20 0x0D0, .word 0x19 0x0A4, .word 0x19 0x0A8, .word 0x19 0x0AC, .word 0x19 0x0B0, .word 0x19 0x0B4,
          .word 0x19 0x0B8, .word 0x19 0x014] : List Scope) ++ airScopes) (([.fes, .lanes, .nodes, .ddr, .ledger] : List
          Part) ++ airParts) s t)) ∧
  (∀ (li : Fin 136) (fcsOk : Bool) (micOk : Bool) (figs : Figures) (body : Body) (s : State) (m : Mhr) (sl n : Nat),
      (lane li.val s).state = .ending →
      (lane li.val s).freeing = none →
      (lane li.val s).fifo = 0 ∨ bufferFull s = false →
      (lane li.val s).rx.mhr = some m →
      m.ftype ≠ .ack →
      m.ftype ≠ .beacon →
      fcsOk = true →
      micOk = true →
      m.tooShort = false →
      (lane li.val s).rx.fixed = none →
      (lane li.val s).rx.insecure = false →
      (lane li.val s).rx.keySlot = some sl →
      (lane li.val s).rx.keyReady = true →
      keyHolds sl (lane li.val s).rx.keyGen s = true →
      recordHolds (lane li.val s).rx s = true →
      (lane li.val s).rx.mismatch = false →
      (lane li.val s).rx.node = some n →
      replay (oct (node n s).core 8 4) (oct (node n s).core 12 4) (lane li.val s).rx.counter = .old →
      Calm s = true →
      Gives (.frameVerdict li fcsOk micOk figs body) s (fun t =>
        (lane li.val t).state = .idle ∧
        t.ledger = ((lane li.val s).frame, laneCode (lane li.val s) .dropReplay) :: s.ledger ∧
        oct (node n t).core 8 4 = oct (node n s).core 8 4 ∧
        Within (([.page 0x10, .page 0x11, .page 0x31, .page 0x1B, .word 0x20 0x0DC, .word 0x20 0x0D8, .word 0x20 0x0D4,
          .word 0x20 0x0D0, .word 0x19 0x0A4, .word 0x19 0x0A8, .word 0x19 0x0AC, .word 0x19 0x0B0, .word 0x19 0x0B4,
          .word 0x19 0x0B8] : List Scope) ++ airScopes) (([.fes, .lanes, .nodes, .ddr, .ledger] : List Part) ++ airParts)
          s t)) ∧
  (∀ (li : Fin 136) (fcsOk : Bool) (micOk : Bool) (figs : Figures) (body : Body) (s : State) (m : Mhr) (sl n hw map : Nat),
      (lane li.val s).state = .ending →
      (lane li.val s).freeing = none →
      (lane li.val s).rx.mhr = some m →
      m.ftype ≠ .ack →
      m.ftype ≠ .beacon →
      fcsOk = true →
      micOk = true →
      m.tooShort = false →
      m.ackReq = false →
      (lane li.val s).rx.fixed = none →
      (lane li.val s).rx.insecure = false →
      (lane li.val s).rx.keySlot = some sl →
      (lane li.val s).rx.keyReady = true →
      keyHolds sl (lane li.val s).rx.keyGen s = true →
      recordHolds (lane li.val s).rx s = true →
      (lane li.val s).rx.mismatch = false →
      (lane li.val s).rx.node = some n →
      replay (oct (node n s).core 8 4) (oct (node n s).core 12 4) (lane li.val s).rx.counter = .accept hw map →
      Gives (.frameVerdict li fcsOk micOk figs body) s (fun t =>
        rd F.MAC.PASSED t = (rd F.MAC.PASSED s + 1) % 2 ^ 32 ∧
        Within (([.page 0x11, .page 0x10, .page 0x31, .page 0x20, .page 0x1B, .page 0x19, .word 0x4A 0x084, .word 0x0C
          0x054, .word 0x0C 0x014, .word 0x0C 0x04C, .word 0x08 0x068, .word 0x08 0x06C, .word 0x08 0x05C, .word 0x08
          0x04C, .word 0x09 0x068, .word 0x09 0x06C, .word 0x09 0x05C, .word 0x09 0x04C, .word 0x0A 0x068, .word 0x0A
          0x06C, .word 0x0A 0x05C, .word 0x0A 0x04C, .word 0x0B 0x068, .word 0x0B 0x06C, .word 0x0B 0x05C, .word 0x0B
          0x04C, .page 0x24, .page 0x25, .page 0x26, .page 0x27, .page 0x21, .page 0x22, .page 0x41, .word 0x4C 0x014,
          .word 0x4C 0x050, .word 0x4C 0x04C, .word 0x4C 0x048, .word 0x4C 0x044, .page 0x28, .word 0x03 0x05C, .word 0x03
          0x058, .word 0x03 0x060, .word 0x30 0x014, .word 0x30 0x0A8, .page 0x29, .page 0x0D, .word 0x0C 0x050] : List
          Scope) ++ airScopes) (([.lanes, .fes, .nodes, .ledger, .scheds, .frames, .delivered, .reasm, .ddr, .rings,
          .notices, .meters, .frameNumbers, .duty, .ports, .campaigns] : List Part) ++ airParts) s t)) ∧
  (∀ (li : Fin 136) (fcsOk : Bool) (micOk : Bool) (figs : Figures) (body : Body) (s : State) (m : Mhr),
      (lane li.val s).state = .ending →
      (lane li.val s).freeing = none →
      (lane li.val s).fifo ≠ 0 →
      bufferFull s = true →
      (lane li.val s).rx.mhr = some m →
      m.ftype ≠ .ack →
      m.ftype ≠ .beacon →
      fcsOk = false →
      Calm s = true →
      Gives (.frameVerdict li fcsOk micOk figs body) s (fun t =>
        (lane li.val t).state = .ending ∧
        (lane li.val t).freeing = some (some (laneCode (lane li.val s) .dropFcs)) ∧
        t.ledger = ((lane li.val s).frame, laneCode (lane li.val s) .dropFcs) :: s.ledger ∧
        Within (([.page 0x10, .page 0x11, .page 0x31, .page 0x1B, .word 0x20 0x0DC, .word 0x20 0x0D8, .word 0x20 0x0D4,
          .word 0x20 0x0D0, .word 0x19 0x0A4, .word 0x19 0x0A8, .word 0x19 0x0AC, .word 0x19 0x0B0, .word 0x19 0x0B4,
          .word 0x19 0x0B8] : List Scope) ++ airScopes) (([.fes, .lanes, .nodes, .ddr, .ledger] : List Part) ++ airParts)
          s t))

/-- Poll answers, acknowledgements, their waits and appointments (R240, R242, R244, R245, R246). POLL_FETCH that is late
answers empty; one in time with an unsecured frame that fits answers with it; ACK_VERDICT with a bad FCS drops the
acknowledgement, and one that matches an open wait ends the frame as OK_ACKED; ACK_WAIT_EXPIRY queues the frame again
while attempts remain; APPT_CHECK ends an appointment without a pending frame, and does nothing where none is granted. -/
def Obligations.AcknowledgementsAndPolls : Prop :=
  (∀ (fn : Fin 4) (late : Bool) (s : State) (id : Nat),
      (fe fn.val s).fetch.isSome = true →
      (fe fn.val s).tx.map (fun x => x.what) = some (.pollAnswer id) →
      (frame? id s).isSome = true →
      late = true →
      Calm s = true →
      Gives (.pollFetch fn late) s (fun t =>
        (fe fn.val t).fetch = none ∧
        rd F.MAC.FETCH_LATE t = (rd F.MAC.FETCH_LATE s + 1) % 2 ^ 32 ∧
        rd F.MAC.ANSWERS_EMPTY t = (rd F.MAC.ANSWERS_EMPTY s + 1) % 2 ^ 32 ∧
        eventLatched 0x19 3 t ∧
        Within (([.page 0x24, .page 0x25, .page 0x26, .page 0x27, .page 0x19, .word 0x20 0x0D0, .word 0x20 0x0D4, .word 0x20
          0x0D8, .word 0x20 0x0DC, .page 0x1B, .word 0x21 0x050, .word 0x21 0x04C, .word 0x21 0x014, .word 0x21 0x31C, .word
          0x21 0x310, .word 0x21 0x320, .word 0x30 0x0AC, .page 0x31] : List Scope) ++ airScopes) (([.fes, .scheds, .frames,
          .duty, .ledger, .nodes, .slots] : List Part) ++ airParts) s t)) ∧
  (∀ (fn : Fin 4) (late : Bool) (s : State) (id : Nat),
      (fe fn.val s).fetch.isSome = true →
      (fe fn.val s).tx.map (fun x => x.what) = some (.pollAnswer id) →
      (frame? id s).isSome = true →
      late = false →
      (frame? id s).map (fun f => f.secure) = some false →
      ((frame? id s).map (fun f => ((fe fn.val s).tx.map (fun x => ((fe fn.val s).fetch.map (fun y => decide (answerPsdu
        x.mode y.fcs2 f s ≤ maxPsdu x.mode)))))) = some (some (some true))) →
      Gives (.pollFetch fn late) s (fun t =>
        rd F.MAC.ANSWERS_DATA t = (rd F.MAC.ANSWERS_DATA s + 1) % 2 ^ 32 ∧
        Within (([.page 0x24, .page 0x25, .page 0x26, .page 0x27, .page 0x19, .word 0x20 0x0D0, .word 0x20 0x0D4, .word 0x20
          0x0D8, .word 0x20 0x0DC, .page 0x1B, .word 0x21 0x050, .word 0x21 0x04C, .word 0x21 0x014, .word 0x21 0x31C, .word
          0x21 0x310, .word 0x21 0x320, .word 0x30 0x0AC, .page 0x31] : List Scope) ++ airScopes) (([.fes, .scheds, .frames,
          .duty, .ledger, .nodes, .slots] : List Part) ++ airParts) s t)) ∧
  (∀ (li : Fin 136) (fcsOk : Bool) (micOk : Bool) (s : State) (m : Mhr),
      (lane li.val s).state = .ending →
      (lane li.val s).freeing = none →
      (lane li.val s).fifo = 0 ∨ bufferFull s = false →
      (lane li.val s).rx.mhr = some m →
      m.ftype = .ack →
      fcsOk = false →
      Calm s = true →
      Gives (.ackVerdict li fcsOk micOk) s (fun t =>
        (lane li.val t).state = .idle ∧
        t.ledger = ((lane li.val s).frame, laneCode (lane li.val s) .dropFcs) :: s.ledger ∧
        Within (([.page 0x10, .page 0x11, .page 0x31, .page 0x1B, .word 0x20 0x0DC, .word 0x20 0x0D8, .word 0x20 0x0D4,
          .word 0x20 0x0D0, .word 0x19 0x0A4, .word 0x19 0x0A8, .word 0x19 0x0AC, .word 0x19 0x0B0, .word 0x19 0x0B4,
          .word 0x19 0x0B8] : List Scope) ++ airScopes) (([.fes, .lanes, .nodes, .ddr, .ledger] : List Part) ++ airParts)
          s
          t)) ∧
  (∀ (li : Fin 136) (fcsOk : Bool) (micOk : Bool) (s : State) (m : Mhr) (id : Nat) (f : Frame),
      (lane li.val s).state = .ending →
      (lane li.val s).freeing = none →
      (lane li.val s).rx.mhr = some m →
      m.ftype = .ack →
      fcsOk = true →
      m.tooShort = false →
      (m.version = 2 → (lane li.val s).rx.fixed = none ∧ m.security = false) →
      awaiting (lane li.val s).logical s = some (id, f) →
      ackMatches (lane li.val s) m f s = true →
      Calm s = true →
      Gives (.ackVerdict li fcsOk micOk) s (fun t =>
        rd F.MAC.ACKS_MATCHED t = (rd F.MAC.ACKS_MATCHED s + 1) % 2 ^ 32 ∧
        t.ledger.contains (id, .okAcked) = true ∧
        Within (([.page 0x11, .page 0x10, .page 0x31, .word 0x20 0x0D0, .word 0x20 0x0D4, .word 0x20 0x0D8, .word 0x20
          0x0DC, .page 0x1B, .page 0x19, .page 0x24, .page 0x25, .page 0x26, .page 0x27, .word 0x21 0x050, .word 0x21 0x04C]
          : List Scope) ++ airScopes) (([.lanes, .fes, .nodes, .ledger, .frames, .duty, .slots] : List Part) ++ airParts) s
          t)) ∧
  (∀ (fn : Fin 4) (s : State) (id : Nat) (f : Frame),
      awaiting fn.val s = some (id, f) →
      frame? id s = some f →
      f.polled = false →
      f.appt = false →
      f.attempts < rd F.MAC.RETRY_MAX_ATTEMPTS s →
      Calm s = true →
      Gives (.ackWaitExpiry fn) s (fun t =>
        rd F.MAC.RETRIES t = (rd F.MAC.RETRIES s + 1) % 2 ^ 32 ∧
        (frame? id t).map (fun x => x.place) = some .queued ∧
        Within (([.word 0x20 0x0D0, .word 0x20 0x0D4, .word 0x20 0x0D8, .word 0x20 0x0DC, .page 0x1B, .page 0x24, .page
          0x25, .page 0x26, .page 0x27, .word 0x19 0x0B4, .word 0x19 0x0F4, .word 0x21 0x050, .word 0x21 0x04C, .word 0x21
          0x014, .word 0x21 0x31C, .word 0x21 0x310, .word 0x21 0x320] : List Scope) ++ airScopes) (([.nodes, .frames,
          .duty, .ledger] : List Part) ++ airParts) s t)) ∧
  (∀ (ni : Fin 262144) (s : State),
      oct (node ni.val s).core 30 1 % 4 = 1 →
      pendingFrames ni.val s = [] →
      mirrors s = false →
      Calm s = true →
      Gives (.apptCheck ni) s (fun t =>
        oct (node ni.val t).core 30 1 = 0 ∧
        Within (([.word 0x20 0x0D0, .word 0x20 0x0D4, .word 0x20 0x0D8, .word 0x20 0x0DC, .page 0x1B, .word 0x19 0x014,
          .word 0x19 0x0F0, .word 0x19 0x0B4, .page 0x24, .page 0x25, .page 0x26, .page 0x27, .word 0x21 0x050, .word 0x21
          0x04C, .word 0x0C 0x014, .word 0x0C 0x04C] : List Scope) ++ airScopes) (([.nodes, .duty, .frames, .ledger] : List
          Part) ++ airParts) s t)) ∧
  (∀ (ni : Fin 262144) (s : State),
      oct (node ni.val s).core 30 1 % 4 ≠ 1 →
      Calm s = true →
      Gives (.apptCheck ni) s (fun t =>
        t.nodes = s.nodes ∧
        Within [] [] s t))

/-- Beacons are built at their times, and those of peers are judged, counted and missed (R234, R251, R254, R255, R262,
R460). BEACON_DUE builds a beacon with the next number; at a number already sent it builds none; PEER_BEACON that passes
counts and marks the peer present, and one with a bad FCS ends as DROP_FCS; PEER_MISS counts, and the third in
succession makes the peer absent. -/
def Obligations.Beacons : Prop :=
  (∀ (ti : Fin 8) (s : State),
      pageState 0x1A s = RUN →
      rd (F.BEACON.TRACK_ENABLE ti.val) s = 1 →
      roleMuted s = false →
      0 ≤ beaconNumber ti.val s →
      beaconTime ti.val (beaconNumber ti.val s) s ∉ (look s.tracks ti.val {}).sent →
      Gives (.beaconDue ti) s (fun t =>
        rd (F.BEACON.BSN ti.val) t = (rd (F.BEACON.BSN ti.val) s + 1) % 256 ∧
        (look t.tracks ti.val {}).sent.head? = some (beaconTime ti.val (beaconNumber ti.val s) s) ∧
        Within (([.page 0x1A, .page 0x1B, .page 0x24, .page 0x25, .page 0x26, .page 0x27, .word 0x19 0x0B4, .word 0x20
          0x0D0, .word 0x20 0x0D4, .word 0x20 0x0D8, .word 0x20 0x0DC, .word 0x21 0x050, .word 0x21 0x04C, .word 0x0C 0x014,
          .word 0x0C 0x04C] : List Scope) ++ airScopes) (([.tracks, .frameNumbers, .frames, .duty, .ledger, .nodes] : List
          Part) ++ airParts) s t)) ∧
  (∀ (ti : Fin 8) (s : State),
      beaconTime ti.val (beaconNumber ti.val s) s ∈ (look s.tracks ti.val {}).sent →
      Calm s = true →
      Gives (.beaconDue ti) s (fun t =>
        t.nextFrame = s.nextFrame ∧
        rd (F.BEACON.BSN ti.val) t = rd (F.BEACON.BSN ti.val) s ∧
        Within [] [] s t)) ∧
  (∀ (li : Fin 136) (fcsOk : Bool) (micOk : Bool) (figs : Figures) (ies : List (List Byte)) (s : State) (m : Mhr) (e k sl : Nat),
      (lane li.val s).state = .ending →
      (lane li.val s).freeing = none →
      (lane li.val s).rx.mhr = some m →
      m.ftype = .beacon →
      fcsOk = true →
      micOk = true →
      m.tooShort = false →
      m.src = .extended e →
      trackedPeer e s = some k →
      m.security = true →
      5 ≤ (lane li.val s).rx.level →
      (lane li.val s).rx.fixed = none →
      (lane li.val s).rx.keyReady = true →
      (lane li.val s).rx.keySlot = some sl →
      keyHolds sl (lane li.val s).rx.keyGen s = true →
      (lane li.val s).rx.mismatch = false →
      rd (F.BEACON.PEER_LAST_FC k) s < (lane li.val s).rx.counter →
      (lane li.val s).rx.counter < 2 ^ 32 →
      Gives (.peerBeacon li fcsOk micOk figs ies) s (fun t =>
        rd (F.BEACON.PEER_LAST_FC k) t = (lane li.val s).rx.counter ∧
        rd (F.BEACON.PEER_MISSES k) t = 0 ∧
        rd (F.BEACON.PEER_STATE k) t = P_PRESENT ∧
        rd (F.BEACON.PEER_HEARD k) t = min (rd (F.BEACON.PEER_HEARD k) s + 1) 65535 ∧
        Within (([.page 0x11, .page 0x10, .page 0x31, .word 0x20 0x0D0, .word 0x20 0x0D4, .word 0x20 0x0D8, .word 0x20
          0x0DC, .page 0x1B, .word 0x19 0x0A4, .word 0x19 0x0A8, .word 0x19 0x0AC, .word 0x19 0x0B0, .word 0x19 0x0B4, .word
          0x19 0x0B8, .word 0x19 0x0A0, .page 0x1A, .word 0x3C 0x014, .word 0x3C 0x0C4, .word 0x3C 0x0B0, .word 0x3C 0x0B4,
          .word 0x3C 0x0B8, .word 0x3C 0x0C8, .word 0x21 0x304, .word 0x21 0x324, .word 0x21 0x328] : List Scope) ++
          airScopes) (([.lanes, .fes, .nodes, .ledger, .slots, .peers, .clock, .delivered] : List Part) ++ airParts) s t)) ∧
  (∀ (li : Fin 136) (fcsOk : Bool) (micOk : Bool) (figs : Figures) (ies : List (List Byte)) (s : State) (m : Mhr),
      (lane li.val s).state = .ending →
      (lane li.val s).freeing = none →
      (lane li.val s).rx.mhr = some m →
      m.ftype = .beacon →
      fcsOk = false →
      Calm s = true →
      Gives (.peerBeacon li fcsOk micOk figs ies) s (fun t =>
        (lane li.val t).state = .idle ∧
        t.ledger = ((lane li.val s).frame, laneCode (lane li.val s) .dropFcs) :: s.ledger ∧
        Within (([.page 0x11, .page 0x10, .page 0x31, .word 0x20 0x0D0, .word 0x20 0x0D4, .word 0x20 0x0D8, .word 0x20
          0x0DC, .page 0x1B, .word 0x19 0x0A4, .word 0x19 0x0A8, .word 0x19 0x0AC, .word 0x19 0x0B0, .word 0x19 0x0B4, .word
          0x19 0x0B8, .word 0x19 0x0A0, .page 0x1A, .word 0x3C 0x014, .word 0x3C 0x0C4, .word 0x3C 0x0B0, .word 0x3C 0x0B4,
          .word 0x3C 0x0B8, .word 0x3C 0x0C8, .word 0x21 0x304, .word 0x21 0x324, .word 0x21 0x328] : List Scope) ++
          airScopes) (([.lanes, .fes, .nodes, .ledger, .slots, .peers, .clock, .delivered] : List Part) ++ airParts) s t)) ∧
  (∀ (pi : Fin 32) (s : State),
      rd (F.BEACON.PEER_ENABLE pi.val) s = 1 →
      rd (F.BEACON.PEER_STATE pi.val) s = P_PRESENT →
      pageState 0x1A s = RUN →
      rd (F.BEACON.PEER_MISSES pi.val) s < 2 →
      Calm s = true →
      Gives (.peerMiss pi) s (fun t =>
        rd (F.BEACON.PEER_MISSES pi.val) t = rd (F.BEACON.PEER_MISSES pi.val) s + 1 ∧
        rd (F.BEACON.PEER_STATE pi.val) t = P_PRESENT ∧
        Within [.page 0x1A] [.clock] s t)) ∧
  (∀ (pi : Fin 32) (s : State),
      rd (F.BEACON.PEER_ENABLE pi.val) s = 1 →
      rd (F.BEACON.PEER_STATE pi.val) s = P_PRESENT →
      pageState 0x1A s = RUN →
      rd (F.BEACON.PEER_MISSES pi.val) s = 2 →
      Calm s = true →
      Gives (.peerMiss pi) s (fun t =>
        rd (F.BEACON.PEER_STATE pi.val) t = P_ABSENT ∧
        rd (F.BEACON.PEER_LOST_COUNT pi.val) t = min (rd (F.BEACON.PEER_LOST_COUNT pi.val) s + 1) 65535 ∧
        eventLatched 0x1A 0 t ∧
        Within [.page 0x1A] [.clock] s t))

/-- The sweeper ages an entry a visit, window writes reach the core records, and waiting readers read again (R271, R277,
R278, R283, R284, R285). SWEEPER_VISIT applies the ageing rule to the entry at the position, counts an aged path and
moves on; after the last index it counts the epoch and latches its event; outside RUN or with the sweep disabled it
changes nothing; PATH_REREAD completes a READ whose parts now agree, leaves it waiting while they do not, and whatever
readers wait changes nothing beyond what they read for; WINDOW_WRITE of a word stores it in the record, and of any words
reaches only the records that they fall into; one that is not whole aligned words is discarded and counted. -/
def Obligations.SweeperAndPathReads : Prop :=
  (∀ (s : State) (i : Nat),
      pageState 0x20 s = RUN →
      rd F.NODE.SWEEP_ENABLE s = 1 →
      rd F.NODE.SWEEP_POSITION s = i →
      i < 262143 →
      Calm s = true →
      Gives .sweeperVisit s (fun t =>
        rd F.NODE.SWEEP_POSITION t = i + 1 ∧
        rd F.NODE.SWEEP_EPOCH t = rd F.NODE.SWEEP_EPOCH s ∧
        (node i t) = (if (node i s).valid then (node i s).swept else node i s) ∧
        rd F.NODE.AGED t = (rd F.NODE.AGED s + (if (node i s).valid = true ∧ (node i s).pathValid = true ∧ (node i s).swept.pathValid = false then 1 else 0)) % 2 ^ 32 ∧
        Within [.word 0x20 0x0AC, .word 0x20 0x0D0, .word 0x20 0x0D4, .word 0x20 0x0D8, .word 0x20 0x0DC, .word 0x20 0x014,
          .word 0x20 0x050, .word 0x20 0x04C, .page 0x1B] [.nodes] s t)) ∧
  (∀ (s : State),
      pageState 0x20 s = RUN →
      rd F.NODE.SWEEP_ENABLE s = 1 →
      rd F.NODE.SWEEP_POSITION s = 262143 →
      Calm s = true →
      Gives .sweeperVisit s (fun t =>
        rd F.NODE.SWEEP_POSITION t = 0 ∧
        rd F.NODE.SWEEP_EPOCH t = (rd F.NODE.SWEEP_EPOCH s + 1) % 2 ^ 16 ∧
        eventLatched 0x20 3 t ∧
        Within [.word 0x20 0x0AC, .word 0x20 0x0D0, .word 0x20 0x0D4, .word 0x20 0x0D8, .word 0x20 0x0DC, .word 0x20 0x014,
          .word 0x20 0x050, .word 0x20 0x04C, .page 0x1B] [.nodes] s t)) ∧
  (∀ (s : State) (i : Nat),
      s.rereads = [.command i] →
      (node i s).consistent = true →
      Calm s = true →
      Gives .pathReread s (fun t =>
        t.rereads.contains (.command i) = false ∧
        rd F.NODE.CMD_STATUS_RESULT t = N_DONE ∧
        rd (F.NODE.CMD_CORE 0) t = oct (node i s).core 0 4 ∧
        Within (([.page 0x20, .page 0x1B, .page 0x41, .word 0x4C 0x014, .word 0x4C 0x050, .word 0x4C 0x04C, .word 0x4C
          0x048, .word 0x4C 0x044, .page 0x21, .word 0x22 0x078, .word 0x22 0x05C, .page 0x24, .page 0x25, .page 0x26, .page
          0x27, .word 0x19 0x0B4, .word 0x0C 0x014, .word 0x0C 0x04C] : List Scope) ++ airScopes) (([.nodes, .ledger, .ddr,
          .rings, .notices, .delivered, .frameNumbers, .frames, .duty] : List Part) ++ airParts) s t)) ∧
  (∀ (s : State) (i : Nat),
      s.rereads = [.command i] →
      (node i s).consistent = false →
      Calm s = true →
      Gives .pathReread s (fun t =>
        t.rereads.contains (.command i) = true ∧
        rd F.NODE.CMD_STATUS_RESULT t = rd F.NODE.CMD_STATUS_RESULT s ∧
        Within (([.page 0x20, .page 0x1B, .page 0x41, .word 0x4C 0x014, .word 0x4C 0x050, .word 0x4C 0x04C, .word 0x4C
          0x048, .word 0x4C 0x044, .page 0x21, .word 0x22 0x078, .word 0x22 0x05C, .page 0x24, .page 0x25, .page 0x26, .page
          0x27, .word 0x19 0x0B4, .word 0x0C 0x014, .word 0x0C 0x04C] : List Scope) ++ airScopes) (([.nodes, .ledger, .ddr,
          .rings, .notices, .delivered, .frameNumbers, .frames, .duty] : List Part) ++ airParts) s t)) ∧
  (∀ (off : Fin 8388608) (complete : Bool) (words : List Word) (s : State) (i : Nat) (w : Word),
      complete = true →
      off.val = 32 * i →
      reservedIndex i = false →
      keyRefValid (node i s).keyRef = true →
      words = [w] →
      Calm s = true →
      Gives (.windowWrite off complete words) s (fun t =>
        oct (node i t).core 0 4 = w.toNat ∧
        oct (node i t).core 4 28 = oct (node i s).core 4 28 ∧
        (node i t).ext = (node i s).ext ∧
        Within [.word 0x20 0x0C4, .word 0x20 0x0C0, .word 0x20 0x0D0, .word 0x20 0x0D4, .word 0x20 0x0D8, .word 0x20 0x0DC,
          .page 0x1B] [.nodes] s t)) ∧
  (∀ (off : Fin 8388608) (complete : Bool) (words : List Word) (s : State),
      complete = false ∨ off.val % 4 ≠ 0 →
      Calm s = true →
      Gives (.windowWrite off complete words) s (fun t =>
        t.nodes = s.nodes ∧
        rd F.NODE.WINDOW_LAST t = off.val / 32 ∧
        rd F.NODE.WINDOW_DISCARDS t = (rd F.NODE.WINDOW_DISCARDS s + 1) % 2 ^ 32 ∧
        Within [.word 0x20 0x0C4, .word 0x20 0x0C0, .word 0x20 0x0D0, .word 0x20 0x0D4, .word 0x20 0x0D8, .word 0x20 0x0DC,
          .page 0x1B] [.nodes] s t)) ∧
  (∀ (s : State),
      pageState 0x20 s ≠ RUN ∨ rd F.NODE.SWEEP_ENABLE s = 0 →
      Calm s = true →
      Gives .sweeperVisit s (fun t =>
        Within [] [] s t)) ∧
  (∀ (s : State),
      s.rereads = [] →
      Calm s = true →
      Gives .pathReread s (fun t =>
        Within [] [] s t)) ∧
  (∀ (s : State),
      Calm s = true →
      Gives .pathReread s (fun t =>
        Within (([.page 0x20, .page 0x1B, .page 0x41, .word 0x4C 0x014, .word 0x4C 0x050, .word 0x4C 0x04C, .word 0x4C
          0x048, .word 0x4C 0x044, .page 0x21, .word 0x22 0x078, .word 0x22 0x05C, .page 0x24, .page 0x25, .page 0x26,
          .page 0x27, .word 0x19 0x0B4, .word 0x0C 0x014, .word 0x0C 0x04C] : List Scope) ++ airScopes) (([.nodes,
          .ledger, .ddr, .rings, .notices, .delivered, .frameNumbers, .frames, .duty] : List Part) ++ airParts) s t)) ∧
  (∀ (off : Fin 8388608) (complete : Bool) (words : List Word) (s : State),
      complete = true →
      off.val % 4 = 0 →
      Calm s = true →
      Gives (.windowWrite off complete words) s (fun t =>
        (∀ i : Nat, i < off.val / 32 ∨ (off.val + 4 * words.length - 1) / 32 < i → node i t = node i s) ∧
        (∀ i : Nat, (node i t).ext = (node i s).ext) ∧
        Within [.word 0x20 0x0C4, .word 0x20 0x0C0, .word 0x20 0x0D0, .word 0x20 0x0D4, .word 0x20 0x0D8, .word 0x20
          0x0DC, .page 0x1B] [.nodes] s t))

/-- The commands of the node table read, admit, update, remove, pin and unpin an entry (R271, R286, R287, R289, R294,
R295, R637). READ copies both records to CMD_CORE and CMD_EXT; ADMIT makes the entry valid with the record of CMD_CORE
and PATH_GEN advanced; UPDATE writes the masked octets; REMOVE clears the entry and ends its frames; PIN stores the path
of CMD_CORE and CMD_EXT and pins it; UNPIN frees it; NODE_SCAN_ADVANCE and KEYS_SCAN_ADVANCE return the scan word and
move to the next valid entry or slot. -/
def Obligations.NodeCommands : Prop :=
  (∀ (index : Fin 262144) (find : NodeFind) (s : State),
      Accepted 0x20 0x054 (index.val + 1 * 2 ^ 24) s →
      pageState 0x20 s = RUN →
      rd F.NODE.CMD_STATUS_BUSY s = 0 →
      reservedIndex index.val = false →
      find = .good ∨ find = .mended →
      (node index.val s).consistent = true →
      Calm s = true →
      Gives (.nodeRead index find) s (fun t =>
        (∀ k ∈ List.range 8, rd (F.NODE.CMD_CORE k) t = oct (node index.val s).core (4 * k) 4) ∧
        (∀ k ∈ List.range 32, rd (F.NODE.CMD_EXT k) t = oct (node index.val s).ext (4 * k) 4) ∧
        rd F.NODE.CMD_STATUS_RESULT t = N_DONE ∧
        rd F.NODE.CMD_STATUS_INDEX t = index.val ∧
        rd F.NODE.CMD_STATUS_OP t = 1 ∧
        Within [.page 0x20, .page 0x46] [.spi] s t)) ∧
  (∀ (index : Fin 262144) (find : NodeFind) (s : State) (c : Node),
      Accepted 0x20 0x054 (index.val + 2 * 2 ^ 24) s →
      pageState 0x20 s = RUN →
      rd F.NODE.CMD_STATUS_BUSY s = 0 →
      reservedIndex index.val = false →
      find = .good ∨ find = .mended →
      (node index.val s).valid = false →
      c = { core := cmdCore s, ext := cmdExt s } →
      keyRefValid c.keyRef = true →
      c.piton = true → (wellFormedPath index.val c.core c.ext).isSome = true →
      Calm s = true →
      MemoryFormed s →
      Gives (.nodeAdmit index find) s (fun t =>
        (node index.val t).valid = true ∧
        (node index.val t).eui = c.eui ∧
        (node index.val t).keyRef = c.keyRef ∧
        (node index.val t).pending = false ∧
        (node index.val t).hit = false ∧
        (node index.val t).stale = false ∧
        (node index.val t).pathValid = c.piton ∧
        (node index.val t).pathGen = ((node index.val s).pathGen + 1) % 256 ∧
        rd F.NODE.CMD_STATUS_RESULT t = N_DONE ∧
        rd F.NODE.CMD_STATUS_INDEX t = index.val ∧
        rd F.NODE.CMD_STATUS_OP t = 2 ∧
        Within [.page 0x20, .word 0x30 0x098, .page 0x1B, .page 0x46] [.spi, .cache, .nodes, .ddr] s t)) ∧
  (∀ (index : Fin 262144) (find : NodeFind) (s : State) (m : Nat),
      Accepted 0x20 0x054 (index.val + 3 * 2 ^ 24) s →
      pageState 0x20 s = RUN →
      rd F.NODE.CMD_STATUS_BUSY s = 0 →
      reservedIndex index.val = false →
      find = .good ∨ find = .mended →
      (node index.val s).valid = true →
      rd F.NODE.CMD_MASK s = m →
      m < 2 ^ 16 →
      rd F.NODE.CMD_FLAG_MASK s = 0 →
      rd F.NODE.CMD_EXT_MASK s = 0 →
      keyRefValid (node index.val s).keyRef = true →
      Calm s = true →
      Gives (.nodeUpdate index find) s (fun t =>
        (∀ o ∈ List.range 16, oct (node index.val t).core o 1 = (if m.testBit o ∧ o ≠ flagsOct then oct (cmdCore s) o 1 else oct (node index.val s).core o 1)) ∧
        (node index.val t).ext = (node index.val s).ext ∧
        rd F.NODE.CMD_STATUS_RESULT t = N_DONE ∧
        rd F.NODE.CMD_STATUS_INDEX t = index.val ∧
        rd F.NODE.CMD_STATUS_OP t = 3 ∧
        Within [.page 0x20, .page 0x1B, .word 0x30 0x098, .page 0x46] [.spi, .nodes, .cache, .ddr] s t)) ∧
  (∀ (index : Fin 262144) (find : NodeFind) (s : State),
      Accepted 0x20 0x054 (index.val + 4 * 2 ^ 24) s →
      pageState 0x20 s = RUN →
      rd F.NODE.CMD_STATUS_BUSY s = 0 →
      reservedIndex index.val = false →
      find = .good ∨ find = .mended →
      (node index.val s).valid = true →
      Calm s = true →
      MemoryFormed s →
      Gives (.nodeRemove index find) s (fun t =>
        (node index.val t) = {} ∧
        t.frames.any (fun x => x.2.node == some index.val && (x.2.place == .queued || x.2.place == .pending)) = false ∧
        rd F.NODE.CMD_STATUS_RESULT t = N_DONE ∧
        rd F.NODE.CMD_STATUS_INDEX t = index.val ∧
        rd F.NODE.CMD_STATUS_OP t = 4 ∧
        Within (([.page 0x20, .page 0x24, .page 0x25, .page 0x26, .page 0x27, .word 0x19 0x0B4, .page 0x1B, .word 0x21
          0x050, .word 0x21 0x04C, .word 0x30 0x098, .page 0x46] : List Scope) ++ airScopes) (([.spi, .frames, .duty,
          .ledger, .nodes, .cache] : List Part) ++ airParts) s t)) ∧
  (∀ (index : Fin 262144) (find : NodeFind) (s : State) (r : MeshPath),
      Accepted 0x20 0x054 (index.val + 5 * 2 ^ 24) s →
      pageState 0x20 s = RUN →
      rd F.NODE.CMD_STATUS_BUSY s = 0 →
      reservedIndex index.val = false →
      find = .good ∨ find = .mended →
      (node index.val s).valid = true →
      wellFormedPath index.val (cmdCore s) (cmdExt s) = some r →
      Calm s = true →
      MemoryFormed s →
      Gives (.nodePin index find) s (fun t =>
        (node index.val t).piton = true ∧
        (node index.val t).pathValid = true ∧
        (node index.val t).route = r ∧
        rd F.NODE.CMD_STATUS_RESULT t = N_DONE ∧
        rd F.NODE.CMD_STATUS_INDEX t = index.val ∧
        rd F.NODE.CMD_STATUS_OP t = 5 ∧
        Within [.page 0x20, .page 0x1B, .page 0x46] [.spi, .nodes, .ddr] s t)) ∧
  (∀ (index : Fin 262144) (s : State),
      Accepted 0x20 0x054 (index.val + 6 * 2 ^ 24) s →
      pageState 0x20 s = RUN →
      rd F.NODE.CMD_STATUS_BUSY s = 0 →
      reservedIndex index.val = false →
      (node index.val s).valid = true →
      (node index.val s).piton = true →
      Calm s = true →
      Gives (.nodeUnpin index) s (fun t =>
        (node index.val t).piton = false ∧
        (node index.val t).hit = true ∧
        (node index.val t).stale = false ∧
        rd F.NODE.CMD_STATUS_RESULT t = N_DONE ∧
        rd F.NODE.CMD_STATUS_INDEX t = index.val ∧
        rd F.NODE.CMD_STATUS_OP t = 6 ∧
        Within [.page 0x20, .page 0x1B] [.spi, .nodes, .ddr] s t)) ∧
  (∀ (s : State) (i : Nat),
      nextValid (if isSet F.NODE.SCAN0_NONE s then 262144 else rd F.NODE.SCAN0_INDEX s) s = some i →
      (node i s).consistent = true →
      (node i s).valid = true →
      i < 262144 →
      s.rereads = [] →
      Gives .nodeScanAdvance s (fun t =>
        rd F.NODE.SCAN0_INDEX t = i ∧
        rd F.NODE.SCAN0_NONE t = 0 ∧
        rd F.NODE.SCAN3 t = oct (node i s).core 24 4 ∧
        t.readData.toNat = wordRead 0x20 0x21C .mgmtSpi s ∧
        Within [.page 0x20] [.readData] s t)) ∧
  (∀ (s : State),
      Gives .keysScanAdvance s (fun t =>
        t.readData.toNat = wordRead 0x30 0x06C .mgmtSpi s ∧
        Within [.word 0x30 0x060, .word 0x30 0x064, .word 0x30 0x068, .word 0x30 0x06C] [.readData] s t))

/-- Staged Ethernet frames are handed on, and pending frames and reassembly contexts time out (R309, R311, R314, R427).
ETH_FRAME_HAND_ON takes the oldest staged frame, ends it DROP_DISABLED outside RUN and DROP_ADDR where it is not for the
downlink path and no class takes it; PENDING_TIMEOUT_CHECK ends a pending frame whose time-out has passed and leaves one
whose time-out has not; REASSEMBLY_TIMEOUT does the same to a reassembly context. -/
def Obligations.PacketsHandedOn : Prop :=
  (∀ (pn : Fin 2) (s : State) (x : Staged) (r : List Staged),
      (port pn.val s).staging = x :: r →
      x.eth.etherType ≠ 0x8808 →
      ptpTaken pn.val x.eth s = false →
      pageState 0x21 s ≠ RUN →
      bufferFits x.size s = true →
      Calm s = true →
      Gives (.ethFrameHandOn pn) s (fun t =>
        (port pn.val t).staging = r ∧
        t.ledger = (x.frame, .dropDisabled) :: s.ledger ∧
        Within (([.word (ethPage pn.val) 0x070, .word (ethPage pn.val) 0x074, .word (ethPage pn.val) 0x014, .word (ethPage
          pn.val) 0x094, .word (ethPage pn.val) 0x098, .word (ethPage pn.val) 0x09C, .page (ethStatPage pn.val), .page 0x3D,
          .word 0x20 0x0D0, .word 0x20 0x0D4, .word 0x20 0x0D8, .word 0x20 0x0DC, .page 0x1B, .page 0x21, .page 0x28, .page
          0x41, .word 0x4C 0x014, .word 0x4C 0x050, .word 0x4C 0x04C, .word 0x4C 0x048, .word 0x4C 0x044, .word 0x22 0x078,
          .word 0x22 0x05C, .page 0x24, .page 0x25, .page 0x26, .page 0x27, .word 0x19 0x0B4, .word 0x0C 0x014, .word 0x0C
          0x04C] : List Scope) ++ airScopes) (([.ports, .ledger, .delivered, .nodes, .meters, .ddr, .rings, .notices,
          .frameNumbers, .frames, .duty] : List Part) ++ airParts) s t)) ∧
  (∀ (pn : Fin 2) (s : State) (x : Staged) (r : List Staged),
      (port pn.val s).staging = x :: r →
      x.eth.etherType ≠ 0x8808 →
      ptpTaken pn.val x.eth s = false →
      pageState 0x21 s = RUN →
      x.eth.etherType ≠ 0x86DD →
      rd F.FWD.CFG_ETH_OTHER_TO_RING s = 0 →
      bufferFits x.size s = true →
      Calm s = true →
      Gives (.ethFrameHandOn pn) s (fun t =>
        (port pn.val t).staging = r ∧
        t.ledger = (x.frame, .dropAddr) :: s.ledger ∧
        Within (([.word (ethPage pn.val) 0x070, .word (ethPage pn.val) 0x074, .word (ethPage pn.val) 0x014, .word (ethPage
          pn.val) 0x094, .word (ethPage pn.val) 0x098, .word (ethPage pn.val) 0x09C, .page (ethStatPage pn.val), .page 0x3D,
          .word 0x20 0x0D0, .word 0x20 0x0D4, .word 0x20 0x0D8, .word 0x20 0x0DC, .page 0x1B, .page 0x21, .page 0x28, .page
          0x41, .word 0x4C 0x014, .word 0x4C 0x050, .word 0x4C 0x04C, .word 0x4C 0x048, .word 0x4C 0x044, .word 0x22 0x078,
          .word 0x22 0x05C, .page 0x24, .page 0x25, .page 0x26, .page 0x27, .word 0x19 0x0B4, .word 0x0C 0x014, .word 0x0C
          0x04C] : List Scope) ++ airScopes) (([.ports, .ledger, .delivered, .nodes, .meters, .ddr, .rings, .notices,
          .frameNumbers, .frames, .duty] : List Part) ++ airParts) s t)) ∧
  (∀ (s : State) (id : Nat) (f : Frame),
      s.frames = [(id, f)] →
      f.place = .pending →
      f.inFlight = false →
      f.skipped = false →
      f.group = none →
      f.pendedAt + rd F.FWD.PENDING_TIMEOUT s * 1000000000 ≤ s.now →
      Calm s = true →
      Gives .pendingTimeoutCheck s (fun t =>
        t.frames = [] ∧
        t.ledger.contains (id, .txAbandonPendingTimeout) = true ∧
        rd F.FWD.PEND_TIMEOUTS t = (rd F.FWD.PEND_TIMEOUTS s + 1) % 2 ^ 32 ∧
        eventLatched 0x21 2 t ∧
        Within (([.page 0x24, .page 0x25, .page 0x26, .page 0x27, .word 0x19 0x0B4, .word 0x20 0x0D0, .word 0x20 0x0D4,
          .word 0x20 0x0D8, .word 0x20 0x0DC, .page 0x1B, .word 0x21 0x050, .word 0x21 0x04C, .word 0x21 0x014, .word 0x21
          0x31C] : List Scope) ++ airScopes) (([.frames, .duty, .ledger, .nodes] : List Part) ++ airParts) s t)) ∧
  (∀ (s : State) (id : Nat) (f : Frame),
      s.frames = [(id, f)] →
      s.now < f.pendedAt + rd F.FWD.PENDING_TIMEOUT s * 1000000000 →
      Calm s = true →
      Gives .pendingTimeoutCheck s (fun t =>
        t.frames = [(id, f)] ∧
        t.ledger = s.ledger ∧
        Within (([.page 0x24, .page 0x25, .page 0x26, .page 0x27, .word 0x19 0x0B4, .word 0x20 0x0D0, .word 0x20 0x0D4,
          .word 0x20 0x0D8, .word 0x20 0x0DC, .page 0x1B, .word 0x21 0x050, .word 0x21 0x04C, .word 0x21 0x014, .word 0x21
          0x31C] : List Scope) ++ airScopes) (([.frames, .duty, .ledger, .nodes] : List Part) ++ airParts) s t)) ∧
  (∀ (s : State) (k id : Nat) (c : Reasm),
      s.reasm = [(k, c)] →
      c.since + rd F.FRAG.TIMEOUT s * 1000000000 ≤ s.now →
      c.frames = [id] →
      Calm s = true →
      Gives .reassemblyTimeout s (fun t =>
        t.reasm = [] ∧
        rd F.FRAG.TIMEOUTS t = (rd F.FRAG.TIMEOUTS s + 1) % 2 ^ 32 ∧
        t.ledger.contains (id, .dropReasmTimeout) = true ∧
        rd F.FRAG.IN_USE t = 0 ∧
        eventLatched 0x22 0 t ∧
        Within [.word 0x22 0x054, .word 0x22 0x050, .word 0x22 0x058, .word 0x22 0x014, .word 0x22 0x064, .word 0x20
          0x0D0, .word 0x20 0x0D4, .word 0x20 0x0D8, .word 0x20 0x0DC, .page 0x1B] [.reasm, .nodes, .ledger, .ddr] s t))

/-- A scheduler selects, refills its buckets, and ends frames whose horizon or tolerance has passed (R325, R326, R328,
R332, R333, R338, R339). SCHED_SELECTION outside a selection moment commits nothing and shows why; in one it ends what
is past its horizon and commits the head of the lowest strict queue that passes every check, or without one the head
that the deficit round robin serves at the pointer or at the next eligible queue, whose quantum it adds, or, where
nothing is eligible, nothing, and shows every hold; BUCKET_REFILL adds one refill to every bucket; HORIZON_EXPIRY ends
an untimed frame whose horizon has passed; SLIP_EXPIRY ends a committed frame with the code of what held it, and a late
timed frame that is still queued as TX_ABANDON_SLIP, while an appointment frame stays pending and is skipped;
LBT_BACKOFF_EXPIRY makes the queue eligible again; DWELL_RUN_CLOSE closes the run of its channel; FRAME_ENTER_RX_TX
sends a committed frame that every check lets through, a secured one with its counter and its engine taken, and
LBT_RETEST one that LBT held. -/
def Obligations.SchedulerSelection : Prop :=
  (∀ (logical : Fin 4) (s : State),
      selectionMoment logical.val s = false →
      Calm s = true →
      Gives (.schedSelection logical) s (fun t =>
        t.frames = s.frames ∧
        (∀ q ∈ List.range 16, rd (F.SCHED.Q_HOLD logical.val q) t = (if (queueFrames logical.val q s).isEmpty then 1 else 11)) ∧
        Within [.page (schedPage logical.val)] [] s t)) ∧
  (∀ (logical : Fin 4) (s u : State) (q id e : Nat) (f : Frame),
      selectionMoment logical.val s = true →
      u = endHorizons logical.val s →
      q < 4 →
      (∀ r ∈ List.range q, holdOf logical.val r u ≠ .none) →
      holdOf logical.val q u = .none →
      (queueFrames logical.val q u).head? = some (id, f) →
      regEntry f u = some e →
      Calm s = true →
      Gives (.schedSelection logical) s (fun t =>
        (frame? id t).map (fun x => match x.place with | .committed p _ => p | _ => 0) = some (plannedEntry f u) ∧
        (frame? id t).map (fun x => x.cost) = some (f.costNs u) ∧
        Within (([.page (schedPage logical.val), .page 0x24, .page 0x25, .page 0x26, .page 0x27, .word 0x19 0x0B4, .word
          0x20 0x0D0, .word 0x20 0x0D4, .word 0x20 0x0D8, .word 0x20 0x0DC, .page 0x1B, .word 0x21 0x050, .word 0x21 0x04C,
          .word 0x0C 0x014, .word 0x0C 0x04C, .page 0x0D, .word 0x19 0x014, .word 0x19 0x0F0] : List Scope) ++ airScopes) (([.frames, .duty, .ledger, .nodes,
          .scheds, .fes] : List Part) ++ airParts) s t)) ∧
  (∀ (s : State),
      Gives .bucketRefill s (fun t =>
        (∀ n ∈ List.range 4, ∀ q ∈ List.range 16, rdInt (F.SCHED.Q_LEVEL_C n q) t = toInt 32 (ofInt 32 (refillLevel (rd
          (F.SCHED.Q_CIR n q) s) (rd (F.SCHED.Q_CBS n q) s) (rdInt (F.SCHED.Q_LEVEL_C n q) s)))) ∧
        (∀ n ∈ List.range 4, ∀ q ∈ List.range 16, rdInt (F.SCHED.Q_LEVEL_P n q) t = toInt 32 (ofInt 32 (refillLevel (rd
          (F.SCHED.Q_PIR n q) s) (rd (F.SCHED.Q_PBS n q) s) (rdInt (F.SCHED.Q_LEVEL_P n q) s)))) ∧
        Within [.page 0x24, .page 0x25, .page 0x26, .page 0x27] [.scheds] s t)) ∧
  (∀ (logical : Fin 4) (s : State) (id : Nat) (f : Frame),
      (s.frames.filter (fun x => x.2.place == .queued && x.2.fe == logical.val && !x.2.timed && decide (x.2.entered + rd
        (F.SCHED.Q_HORIZON logical.val x.2.queue) s * 1000000 < s.now))) = [(id, f)] →
      frame? id s = some f →
      f.group = none →
      Calm s = true →
      Gives (.horizonExpiry logical) s (fun t =>
        frame? id t = none ∧
        t.ledger.contains (id, if holdOf logical.val f.queue s ∈ [Hold.duty, Hold.dwell, Hold.lbt] then .txAbandonReg else
          .txAbandonSlip) = true ∧
        Within (([.page 0x24, .page 0x25, .page 0x26, .page 0x27, .word 0x19 0x0B4, .word 0x20 0x0D0, .word 0x20 0x0D4,
          .word 0x20 0x0D8, .word 0x20 0x0DC, .page 0x1B, .word 0x21 0x050, .word 0x21 0x04C] : List Scope) ++ airScopes)
          (([.frames, .duty, .ledger, .nodes] : List Part) ++ airParts) s t)) ∧
  (∀ (logical : Fin 4) (s : State) (id p : Nat) (f : Frame),
      committedFrame logical.val s = some (id, f) →
      frame? id s = some f →
      f.place = .committed p .lbt →
      f.appt = false →
      f.group = none →
      Calm s = true →
      Gives (.slipExpiry logical) s (fun t =>
        (frame? id t) = none ∧
        t.ledger.contains (id, .txAbandonReg) = true ∧
        Within (([.word 0x20 0x0D0, .word 0x20 0x0D4, .word 0x20 0x0D8, .word 0x20 0x0DC, .page 0x1B, .word 0x19 0x014,
          .word 0x19 0x0F0, .word 0x19 0x0B4, .page 0x24, .page 0x25, .page 0x26, .page 0x27, .word 0x21 0x050, .word 0x21
          0x04C, .page 0x0D, .word 0x1A 0x014, .word 0x1A 0x0E4] : List Scope) ++ airScopes) (([.fes, .nodes, .duty,
          .frames, .ledger] : List Part) ++ airParts) s t)) ∧
  (∀ (logical : Fin 4) (s : State),
      committedFrame logical.val s = none →
      s.frames.any (fun x => x.2.fe == logical.val && x.2.tooLate s) = false →
      Calm s = true →
      Gives (.slipExpiry logical) s (fun t =>
        t.frames = s.frames ∧
        Within [] [] s t)) ∧
  (∀ (logical : Fin 4) (queue : Fin 16) (s : State),
      Gives (.lbtBackoffExpiry logical queue) s (fun t =>
        find (sched logical.val t).backoff queue.val = none ∧
        Within [.page (schedPage logical.val)] [.scheds] s t)) ∧
  (∀ (logical : Fin 4) (hz : Nat) (s : State),
      Gives (.dwellRunClose logical hz) s (fun t =>
        (sched logical.val t).runs = (sched logical.val s).runs.filter (fun r => r.hz ≠ hz) ∧
        Within [.page (schedPage logical.val)] [.scheds] s t)) ∧
  (∀ (logical : Fin 4) (s : State) (id p x e : Nat) (f : Frame),
      committedFrame logical.val s = some (id, f) →
      frame? id s = some f →
      f.place = .committed p .none →
      f.fe = logical.val →
      f.secure = false →
      txServer logical.val s = some x →
      readyToSend x logical.val s = true →
      f.slipNs s ≤ f.slipTol * 1000 →
      startBarred x s = false →
      f.timed = true ∨ ackAwaited logical.val s = false →
      refclkFault s = false →
      tempTrip s = false →
      pageState 0x18 s = RUN →
      mayTransmit s = true →
      started s = true →
      coexOn x s = false ∨ (fe x s).gnt = true →
      permittingEntry (f.hzNow s) (fe x s).band s = some e →
      inSpan (fe x s) (f.hzNow s) (entryField e 12 2 s * 1000) = true →
      modeInBand (f.modeNow s) (fe x s).band = true →
      entryFlag e 1 s = false ∨ lbtClear logical.val e (f.hzNow s) s = some true →
      powerAllowed x e s = true →
      Calm s = true →
      Gives (.frameEnterRxTx logical) s (fun t =>
        rf x t = RF_RX_TX ∧
        (frame? id t).map (fun y => (y.place, y.attempts)) = some (.air, f.attempts + 1) ∧
        (fe x t).tx.map (fun y => (y.what, y.entry)) = some (.scheduled id, e) ∧
        Within (([.word (schedPage logical.val) 0x080, .word (schedPage logical.val) 0x078, .page 0x24, .page 0x25, .page
          0x26, .page 0x27, .page 0x19, .word 0x20 0x0D0, .word 0x20 0x0D4, .word 0x20 0x0D8, .word 0x20 0x0DC, .page
          0x1B, .word 0x21 0x050, .word 0x21 0x04C, .word 0x21 0x014, .word 0x21 0x31C, .word 0x21 0x310, .word 0x21
          0x320, .page 0x0D, .word 0x0C 0x014, .word 0x0C 0x04C, .word 0x0C 0x050, .word 0x08 0x068, .word 0x08 0x06C,
          .word 0x08 0x05C, .word 0x08 0x04C, .word 0x09 0x068, .word 0x09 0x06C, .word 0x09 0x05C, .word 0x09 0x04C,
          .word 0x0A 0x068, .word 0x0A 0x06C, .word 0x0A 0x05C, .word 0x0A 0x04C, .word 0x0B 0x068, .word 0x0B 0x06C,
          .word 0x0B 0x05C, .word 0x0B 0x04C, .word 0x30 0x0AC, .page 0x11, .page 0x10, .page 0x31, .word 0x1A 0x014,
          .word 0x1A 0x0E4] : List Scope) ++ airScopes) (([.frames, .fes, .duty, .ledger, .nodes, .scheds, .draws, .slots,
          .lanes] : List Part) ++ airParts) s t)) ∧
  (∀ (logical : Fin 4) (s : State) (id p x e : Nat) (f : Frame),
      committedFrame logical.val s = some (id, f) →
      frame? id s = some f →
      f.place = .committed p .lbt →
      f.fe = logical.val →
      f.secure = false →
      txServer logical.val s = some x →
      readyToSend x logical.val s = true →
      f.slipNs s ≤ f.slipTol * 1000 →
      startBarred x s = false →
      f.timed = true ∨ ackAwaited logical.val s = false →
      refclkFault s = false →
      tempTrip s = false →
      pageState 0x18 s = RUN →
      mayTransmit s = true →
      started s = true →
      coexOn x s = false ∨ (fe x s).gnt = true →
      permittingEntry (f.hzNow s) (fe x s).band s = some e →
      inSpan (fe x s) (f.hzNow s) (entryField e 12 2 s * 1000) = true →
      modeInBand (f.modeNow s) (fe x s).band = true →
      entryFlag e 1 s = false ∨ lbtClear logical.val e (f.hzNow s) s = some true →
      powerAllowed x e s = true →
      Calm s = true →
      Gives (.lbtRetest logical) s (fun t =>
        rf x t = RF_RX_TX ∧
        (frame? id t).map (fun y => (y.place, y.attempts)) = some (.air, f.attempts + 1) ∧
        (fe x t).tx.map (fun y => (y.what, y.entry)) = some (.scheduled id, e) ∧
        Within (([.word (schedPage logical.val) 0x080, .word (schedPage logical.val) 0x078, .page 0x24, .page 0x25, .page
          0x26, .page 0x27, .page 0x19, .word 0x20 0x0D0, .word 0x20 0x0D4, .word 0x20 0x0D8, .word 0x20 0x0DC, .page
          0x1B, .word 0x21 0x050, .word 0x21 0x04C, .word 0x21 0x014, .word 0x21 0x31C, .word 0x21 0x310, .word 0x21
          0x320, .page 0x0D, .word 0x0C 0x014, .word 0x0C 0x04C, .word 0x0C 0x050, .word 0x08 0x068, .word 0x08 0x06C,
          .word 0x08 0x05C, .word 0x08 0x04C, .word 0x09 0x068, .word 0x09 0x06C, .word 0x09 0x05C, .word 0x09 0x04C,
          .word 0x0A 0x068, .word 0x0A 0x06C, .word 0x0A 0x05C, .word 0x0A 0x04C, .word 0x0B 0x068, .word 0x0B 0x06C,
          .word 0x0B 0x05C, .word 0x0B 0x04C, .word 0x30 0x0AC, .page 0x11, .page 0x10, .page 0x31, .word 0x1A 0x014,
          .word 0x1A 0x0E4] : List Scope) ++ airScopes) (([.frames, .fes, .duty, .ledger, .nodes, .scheds, .draws, .slots,
          .lanes] : List Part) ++ airParts) s t)) ∧
  (∀ (logical : Fin 4) (s u : State) (id e : Nat) (f : Frame) (a : List Nat),
      selectionMoment logical.val s = true →
      u = endHorizons logical.val s →
      (∀ r ∈ List.range 4, holdOf logical.val r u ≠ .none) →
      ((List.range 12).map (fun k => k + 4)).filter (fun r => holdOf logical.val r u == .none && committedOk logical.val r u) = a →
      a ≠ [] →
      pointerServes logical.val a u = some (id, f) →
      regEntry f u = some e →
      Calm s = true →
      Gives (.schedSelection logical) s (fun t =>
        (frame? id t).map (fun x => match x.place with | .committed p _ => p | _ => 0) = some (plannedEntry f u) ∧
        (frame? id t).map (fun x => x.cost) = some (f.costNs u) ∧
        (sched logical.val t).pointer = (sched logical.val s).pointer ∧
        Within (([.page (schedPage logical.val), .page 0x24, .page 0x25, .page 0x26, .page 0x27, .word 0x19 0x0B4, .word
          0x20 0x0D0, .word 0x20 0x0D4, .word 0x20 0x0D8, .word 0x20 0x0DC, .page 0x1B, .word 0x21 0x050, .word 0x21 0x04C,
          .word 0x0C 0x014, .word 0x0C 0x04C, .page 0x0D, .word 0x19 0x014, .word 0x19 0x0F0] : List Scope) ++ airScopes) (([.frames, .duty, .ledger, .nodes,
          .scheds, .fes] : List Part) ++ airParts) s t)) ∧
  (∀ (logical : Fin 4) (s u : State) (id e q : Nat) (f : Frame) (a : List Nat),
      selectionMoment logical.val s = true →
      u = endHorizons logical.val s →
      (∀ r ∈ List.range 4, holdOf logical.val r u ≠ .none) →
      ((List.range 12).map (fun k => k + 4)).filter (fun r => holdOf logical.val r u == .none && committedOk logical.val r u) = a →
      a ≠ [] →
      pointerServes logical.val a u = none →
      nextWeighted logical.val a u = some q →
      (queueFrames logical.val q u).head? = some (id, f) →
      usUp (f.costNs u) ≤ rd (F.SCHED.DEFICIT logical.val q) u + rd (F.SCHED.Q_QUANTUM logical.val q) u →
      rd (F.SCHED.DEFICIT logical.val q) u + rd (F.SCHED.Q_QUANTUM logical.val q) u < 2 ^ 32 →
      regEntry f u = some e →
      Calm s = true →
      Gives (.schedSelection logical) s (fun t =>
        (frame? id t).map (fun x => match x.place with | .committed p _ => p | _ => 0) = some (plannedEntry f u) ∧
        (frame? id t).map (fun x => x.cost) = some (f.costNs u) ∧
        (sched logical.val t).pointer = q - 4 ∧
        Within (([.page (schedPage logical.val), .page 0x24, .page 0x25, .page 0x26, .page 0x27, .word 0x19 0x0B4, .word
          0x20 0x0D0, .word 0x20 0x0D4, .word 0x20 0x0D8, .word 0x20 0x0DC, .page 0x1B, .word 0x21 0x050, .word 0x21 0x04C,
          .word 0x0C 0x014, .word 0x0C 0x04C, .page 0x0D, .word 0x19 0x014, .word 0x19 0x0F0] : List Scope) ++ airScopes) (([.frames, .duty, .ledger, .nodes,
          .scheds, .fes] : List Part) ++ airParts) s t)) ∧
  (∀ (logical : Fin 4) (s u : State),
      selectionMoment logical.val s = true →
      u = endHorizons logical.val s →
      (∀ r ∈ List.range 16, holdOf logical.val r u ≠ .none) →
      Calm s = true →
      Gives (.schedSelection logical) s (fun t =>
        t.frames = u.frames.filter (fun x => !x.2.over) ∧
        (∀ q ∈ List.range 16, rd (F.SCHED.Q_HOLD logical.val q) t = (holdOf logical.val q u).code) ∧
        Within (([.page (schedPage logical.val), .page 0x24, .page 0x25, .page 0x26, .page 0x27, .word 0x19 0x0B4, .word
          0x20 0x0D0, .word 0x20 0x0D4, .word 0x20 0x0D8, .word 0x20 0x0DC, .page 0x1B, .word 0x21 0x050, .word 0x21 0x04C,
          .word 0x0C 0x014, .word 0x0C 0x04C, .page 0x0D, .word 0x19 0x014, .word 0x19 0x0F0] : List Scope) ++ airScopes) (([.frames, .duty, .ledger, .nodes,
          .scheds, .fes] : List Part) ++ airParts) s t)) ∧
  (∀ (logical : Fin 4) (s : State) (id : Nat) (f : Frame),
      frame? id s = some f →
      f.place = .queued →
      f.fe = logical.val →
      f.timed = false →
      f.group = none →
      f.entered + rd (F.SCHED.Q_HORIZON logical.val f.queue) s * 1000000 < s.now →
      Calm s = true →
      Gives (.horizonExpiry logical) s (fun t =>
        frame? id t = none ∧
        t.ledger.any (fun x => x.1 == id && (x.2 == .txAbandonReg || x.2 == .txAbandonSlip)) = true ∧
        Within (([.page 0x24, .page 0x25, .page 0x26, .page 0x27, .word 0x19 0x0B4, .word 0x20 0x0D0, .word 0x20 0x0D4,
          .word 0x20 0x0D8, .word 0x20 0x0DC, .page 0x1B, .word 0x21 0x050, .word 0x21 0x04C] : List Scope) ++ airScopes)
          (([.frames, .duty, .ledger, .nodes] : List Part) ++ airParts) s t)) ∧
  (∀ (logical : Fin 4) (s : State) (id p : Nat) (f : Frame) (h : Held),
      committedFrame logical.val s = some (id, f) →
      frame? id s = some f →
      f.place = .committed p h →
      h ≠ .lbt →
      f.appt = false →
      f.group = none →
      Calm s = true →
      Gives (.slipExpiry logical) s (fun t =>
        frame? id t = none ∧
        t.ledger.contains (id, if h = .coex then .txAbandonCoex else .txAbandonSlip) = true ∧
        Within (([.word 0x20 0x0D0, .word 0x20 0x0D4, .word 0x20 0x0D8, .word 0x20 0x0DC, .page 0x1B, .word 0x19 0x014,
          .word 0x19 0x0F0, .word 0x19 0x0B4, .page 0x24, .page 0x25, .page 0x26, .page 0x27, .word 0x21 0x050, .word 0x21
          0x04C, .page 0x0D, .word 0x1A 0x014, .word 0x1A 0x0E4] : List Scope) ++ airScopes) (([.fes, .nodes, .duty,
          .frames, .ledger] : List Part) ++ airParts) s t)) ∧
  (∀ (logical : Fin 4) (s : State) (id p i : Nat) (f : Frame) (h : Held),
      committedFrame logical.val s = some (id, f) →
      frame? id s = some f →
      f.place = .committed p h →
      f.appt = true →
      f.node = some i →
      Calm s = true →
      Gives (.slipExpiry logical) s (fun t =>
        (frame? id t).map (fun x => x.place) = some .pending ∧
        (frame? id t).map (fun x => x.skipped) = some true ∧
        eventLatched 0x19 4 t ∧
        Within (([.word 0x20 0x0D0, .word 0x20 0x0D4, .word 0x20 0x0D8, .word 0x20 0x0DC, .page 0x1B, .word 0x19 0x014,
          .word 0x19 0x0F0, .word 0x19 0x0B4, .page 0x24, .page 0x25, .page 0x26, .page 0x27, .word 0x21 0x050, .word 0x21
          0x04C, .page 0x0D, .word 0x1A 0x014, .word 0x1A 0x0E4] : List Scope) ++ airScopes) (([.fes, .nodes, .duty,
          .frames, .ledger] : List Part) ++ airParts) s t)) ∧
  (∀ (logical : Fin 4) (s : State) (id : Nat) (f : Frame),
      committedFrame logical.val s = none →
      frame? id s = some f →
      f.fe = logical.val →
      f.tooLate s = true →
      f.appt = false →
      f.group = none →
      Calm s = true →
      Gives (.slipExpiry logical) s (fun t =>
        frame? id t = none ∧
        t.ledger.contains (id, .txAbandonSlip) = true ∧
        Within (([.word 0x20 0x0D0, .word 0x20 0x0D4, .word 0x20 0x0D8, .word 0x20 0x0DC, .page 0x1B, .word 0x19 0x014,
          .word 0x19 0x0F0, .word 0x19 0x0B4, .page 0x24, .page 0x25, .page 0x26, .page 0x27, .word 0x21 0x050, .word 0x21
          0x04C, .page 0x0D, .word 0x1A 0x014, .word 0x1A 0x0E4] : List Scope) ++ airScopes) (([.fes, .nodes, .duty,
          .frames, .ledger] : List Part) ++ airParts) s t)) ∧
  (∀ (logical : Fin 4) (s : State) (id p x e c y : Nat) (f : Frame) (h : Held),
      committedFrame logical.val s = some (id, f) →
      frame? id s = some f →
      f.place = .committed p h →
      f.fe = logical.val →
      f.secure = true →
      txServer logical.val s = some x →
      readyToSend x logical.val s = true →
      f.slipNs s ≤ f.slipTol * 1000 →
      startBarred x s = false →
      f.timed = true ∨ ackAwaited logical.val s = false →
      refclkFault s = false →
      tempTrip s = false →
      pageState 0x18 s = RUN →
      mayTransmit s = true →
      started s = true →
      coexOn x s = false ∨ (fe x s).gnt = true →
      permittingEntry (f.hzNow s) (fe x s).band s = some e →
      inSpan (fe x s) (f.hzNow s) (entryField e 12 2 s * 1000) = true →
      modeInBand (f.modeNow s) (fe x s).band = true →
      entryFlag e 1 s = false ∨ lbtClear logical.val e (f.hzNow s) s = some true →
      powerAllowed x e s = true →
      (takeKey f s).1 = .ready c →
      pageState 0x31 s = RUN →
      leastLoaded (takeKey f s).2 = some y →
      Calm s = true →
      Gives (.frameEnterRxTx logical) s (fun t =>
        rf x t = RF_RX_TX ∧
        (frame? id t).map (fun y => (y.place, y.attempts)) = some (.air, f.attempts + 1) ∧
        (fe x t).tx.map (fun z => (z.what, z.entry, z.secured, z.engine)) = some (.scheduled id, e, some (f.slot, c), some y) ∧
        (fe x t).tx.map (fun z => z.nonce) = some (ccmNonce (ownEui s) c f.level) ∧
        Within (([.word (schedPage logical.val) 0x080, .word (schedPage logical.val) 0x078, .page 0x24, .page 0x25, .page
          0x26, .page 0x27, .page 0x19, .word 0x20 0x0D0, .word 0x20 0x0D4, .word 0x20 0x0D8, .word 0x20 0x0DC, .page
          0x1B, .word 0x21 0x050, .word 0x21 0x04C, .word 0x21 0x014, .word 0x21 0x31C, .word 0x21 0x310, .word 0x21
          0x320, .page 0x0D, .word 0x0C 0x014, .word 0x0C 0x04C, .word 0x0C 0x050, .word 0x08 0x068, .word 0x08 0x06C,
          .word 0x08 0x05C, .word 0x08 0x04C, .word 0x09 0x068, .word 0x09 0x06C, .word 0x09 0x05C, .word 0x09 0x04C,
          .word 0x0A 0x068, .word 0x0A 0x06C, .word 0x0A 0x05C, .word 0x0A 0x04C, .word 0x0B 0x068, .word 0x0B 0x06C,
          .word 0x0B 0x05C, .word 0x0B 0x04C, .word 0x30 0x0AC, .page 0x11, .page 0x10, .page 0x31, .word 0x1A 0x014,
          .word 0x1A 0x0E4] : List Scope) ++ airScopes) (([.frames, .fes, .duty, .ledger, .nodes, .scheds, .draws, .slots,
          .lanes] : List Part) ++ airParts) s t))

/-- Enrolment, refresh, swap and reseal of the root (R355, R358, R359, R360, R362, R365, R377). PUF_ENROL in RECOVERY
gives a new root and both helper copies; elsewhere it is refused; PUF_REFRESH and the controller's own refresh enrol the
same keys once more with a refresh count one higher, and raise the alarm exactly where their reading was close to its
limits, and the controller does nothing before a refresh is due; PUF_SWAP enrols into the reserve block and retires the
other; PUF_RESEAL draws a new mask and makes the new root ready. -/
def Obligations.RootAndPuf : Prop :=
  (∀ (entropyOk : Bool) (pairs : BitVec 1024) (read : PufRead) (flashError : Bool) (s : State),
      lockOpen s = true →
      keysAccept s = true →
      lifecycle s = LC_RECOVERY →
      entropyOk = true →
      flashError = false →
      read.sram0.isSome = true ∨ read.sram1.isSome = true →
      read.delay.isSome = true →
      read.tagOk = true →
      rd F.KEYS.ROOT_SEALED s = 0 ∨ s.root.mask.isSome = true →
      512 ≤ usablePairs s →
      Gives (.pufEnrol entropyOk pairs read flashError) s (fun t =>
        rd F.BAR4.PUF_STATUS_RESULT t = 1 ∧
        rd F.KEYS.ROOT_READY t = 1 ∧
        rd F.KEYS.ROOT_RESULT t = 8 ∧
        t.root.copy0.isSome = true ∧
        t.root.copy1 = t.root.copy0 ∧
        t.root.root.isSome = true ∧
        Within (([.word 0x80 0x3004, .word 0x30 0x084, .word 0x30 0x08C, .word 0x30 0x090, .word 0x30 0x094, .word 0x30
          0x080, .page 0x4A, .word 0x32 0x040] : List Scope) ++ airScopes) (([.draws, .root] : List Part) ++ airParts) s t)) ∧
  (∀ (entropyOk : Bool) (pairs : BitVec 1024) (read : PufRead) (flashError : Bool) (s : State),
      lockOpen s = true →
      keysAccept s = true →
      lifecycle s ≠ LC_RECOVERY →
      Gives (.pufEnrol entropyOk pairs read flashError) s (fun t =>
        rd F.BAR4.PUF_STATUS_RESULT t = 2 ∧
        t.root = s.root ∧
        Within (([.word 0x80 0x3004, .word 0x30 0x084, .word 0x30 0x08C, .word 0x30 0x090, .word 0x30 0x094, .word 0x30
          0x080, .page 0x4A, .word 0x32 0x040] : List Scope) ++ airScopes) (([.draws, .root] : List Part) ++ airParts) s t)) ∧
  (∀ (pairs : BitVec 1024) (disagree : BitVec 1024) (read : PufRead) (flashError : Bool) (s : State) (h : Helper),
      lockOpen s = true →
      keysAccept s = true →
      mayRefresh s = true →
      helper s = some h →
      h.refresh < 65535 →
      read.sram0.isSome = true ∨ read.sram1.isSome = true →
      read.delay.isSome = true →
      read.tagOk = true →
      rd F.KEYS.ROOT_SEALED s = 0 ∨ s.root.mask.isSome = true →
      flashError = false →
      512 ≤ usablePairs (strikePairs disagree.toNat s) →
      Calm s = true →
      Gives (.pufRefresh pairs disagree read flashError) s (fun t =>
        rd F.BAR4.PUF_STATUS_RESULT t = 1 ∧
        (helper t).map (fun x => (x.refresh, x.pairs, x.ks, x.kd)) = some (h.refresh + 1, choosePairs pairs.toNat (strikePairs disagree.toNat s),
          h.ks, h.kd) ∧
        (t.root.alarmAt.isSome = true ↔ 10 < max (read.sram0.getD 0) (read.sram1.getD 0) ∨ 5 < read.delay.getD 0 ∨
          read.sram0.isSome ≠ read.sram1.isSome) ∧
        rd F.KEYS.ROOT_READY t = rd F.KEYS.ROOT_READY s ∧
        Within [.word 0x80 0x3004, .word 0x30 0x088, .word 0x30 0x084, .word 0x30 0x014, .word 0x30 0x080, .word 0x30 0x08C,
          .word 0x05 0x014] [.root, .draws] s t)) ∧
  (∀ (pairs : BitVec 1024) (disagree : BitVec 1024) (read : PufRead) (flashError : Bool) (s : State) (h : Helper),
      mayRefresh s = true →
      17532 ≤ rd F.KEYS.PUF_AGE s ∨ s.root.alarmAt.isSome = true →
      helper s = some h →
      h.refresh < 65535 →
      read.sram0.isSome = true ∨ read.sram1.isSome = true →
      read.delay.isSome = true →
      read.tagOk = true →
      rd F.KEYS.ROOT_SEALED s = 0 ∨ s.root.mask.isSome = true →
      flashError = false →
      512 ≤ usablePairs (strikePairs disagree.toNat s) →
      Calm s = true →
      Gives (.pufAutoRefresh pairs disagree read flashError) s (fun t =>
        rd F.BAR4.PUF_STATUS_RESULT t = 1 ∧
        (helper t).map (fun x => (x.refresh, x.pairs, x.ks, x.kd)) = some (h.refresh + 1, choosePairs pairs.toNat (strikePairs disagree.toNat s),
          h.ks, h.kd) ∧
        (t.root.alarmAt.isSome = true ↔ 10 < max (read.sram0.getD 0) (read.sram1.getD 0) ∨ 5 < read.delay.getD 0 ∨
          read.sram0.isSome ≠ read.sram1.isSome) ∧
        rd F.KEYS.ROOT_READY t = rd F.KEYS.ROOT_READY s ∧
        Within [.word 0x30 0x088, .word 0x30 0x084, .word 0x30 0x014, .word 0x30 0x080, .word 0x30 0x08C, .word 0x05 0x014,
          .word 0x80 0x3004] [.root, .draws] s t)) ∧
  (∀ (pairs : BitVec 1024) (disagree : BitVec 1024) (read : PufRead) (flashError : Bool) (s : State),
      rd F.KEYS.PUF_AGE s < 17532 →
      s.root.alarmAt = none →
      Calm s = true →
      Gives (.pufAutoRefresh pairs disagree read flashError) s (fun t =>
        t.root = s.root ∧
        Within [.word 0x30 0x088, .word 0x30 0x084, .word 0x30 0x014, .word 0x30 0x080, .word 0x30 0x08C, .word 0x05 0x014,
          .word 0x80 0x3004] [.root, .draws] s t)) ∧
  (∀ (out : Fin 4) (into : Fin 4) (read : PufRead) (flashError : Bool) (s : State) (h : Helper),
      lockOpen s = true →
      keysAccept s = true →
      mayRefresh s = true →
      helper s = some h →
      (out.val = h.block0 ∨ out.val = h.block1) →
      into.val ≠ h.block0 →
      into.val ≠ h.block1 →
      s.root.blocks.testBit into.val = false →
      read.sram0.isSome = true ∨ read.sram1.isSome = true →
      read.delay.isSome = true →
      read.tagOk = true →
      rd F.KEYS.ROOT_SEALED s = 0 ∨ s.root.mask.isSome = true →
      flashError = false →
      Calm s = true →
      Gives (.pufSwap out into read flashError) s (fun t =>
        rd F.BAR4.PUF_STATUS_RESULT t = 1 ∧
        t.root.blocks.testBit out.val = true ∧
        (helper t).any (fun x => x.block0 == into.val || x.block1 == into.val) = true ∧
        (helper t).any (fun x => x.block0 == out.val || x.block1 == out.val) = false ∧
        Within [.word 0x80 0x3004, .word 0x30 0x084, .word 0x30 0x088, .word 0x30 0x014, .word 0x30 0x080, .word 0x30
          0x08C, .word 0x05 0x014, .word 0x05 0x06C] [.root, .draws] s t)) ∧
  (∀ (entropyOk : Bool) (read : PufRead) (flashError : Bool) (s : State) (h : Helper),
      lockOpen s = true →
      keysAccept s = true →
      lifecycle s = LC_RECOVERY →
      rd F.KEYS.ROOT_SEALED s = 1 →
      vbatGood s = true →
      entropyOk = true →
      flashError = false →
      read.sram0.isSome = true ∨ read.sram1.isSome = true →
      read.delay.isSome = true →
      read.tagOk = true →
      helper s = some h →
      Gives (.pufReseal entropyOk read flashError) s (fun t =>
        rd F.BAR4.PUF_STATUS_RESULT t = 1 ∧
        t.root.mask.isSome = true ∧
        rd F.KEYS.ROOT_READY t = 1 ∧
        rd F.KEYS.ROOT_RESULT t = 1 ∧
        t.root.keys = some (h.ks, h.kd) ∧
        Within (([.word 0x80 0x3004, .word 0x30 0x084, .word 0x30 0x088, .word 0x30 0x014, .word 0x30 0x080, .word 0x30
          0x090, .word 0x30 0x094, .page 0x4A, .word 0x32 0x040] : List Scope) ++ airScopes) (([.root, .draws] : List Part)
          ++ airParts) s t))

/-- Life-cycle transitions, the seal and the trusted lock (R364, R366, R375, R376, R389, R390, R623, R635).
LC_TRANSITION goes from PROVISIONED to DEPLOYED with a valid profile, from MANUFACTURE to PROVISIONED with a root and an
owner pin, and to DECOMMISSIONED with every key gone; LC_SEAL masks the root, blows SEALED and resets; LC_EXIT takes
effect only where the exit is allowed; TRUST_UNLOCK opens the lock exactly when the owner's signature over the message
verifies; TRUST_CLOSE and TRUST_DURATION_EXPIRY close it. -/
def Obligations.LifeCycleAndLock : Prop :=
  (∀ (target : Fin 8) (withSeal : Bool) (flashError : Bool) (s : State),
      lockOpen s = true →
      keysAccept s = true →
      lifecycle s = LC_PROVISIONED →
      target.val = LC_DEPLOYED →
      withSeal = false →
      rd F.REGLOCK.STATUS_VALID s = 1 →
      flashError = false →
      Gives (.lcTransition target withSeal flashError) s (fun t =>
        lifecycle t = LC_DEPLOYED ∧
        rd F.KEYS.LC_FUSED t = LC_DEPLOYED ∧
        rd F.BAR4.LC_STATUS_RESULT t = 1 ∧
        lockOpen t = false ∧
        Within (([.page 0x80, .page 0x4A, .word 0x30 0x090, .word 0x30 0x094, .word 0x30 0x080, .word 0x30 0x098, .word
          0x30 0x0BC, .word 0x30 0x084, .word 0x30 0x08C, .word 0x32 0x040, .word 0x00 0x058, .page 0x4E, .word 0x02
          0x014, .word 0x02 0x010, .word 0x03 0x014, .word 0x03 0x010, .page 0x05, .page 0x11, .page 0x31, .word 0x48
          0x078, .word 0x08 0x04C, .word 0x08 0x00C, .word 0x09 0x04C, .word 0x09 0x00C, .word 0x0A 0x04C, .word 0x0A
          0x00C, .word 0x0B 0x04C, .word 0x0B 0x00C, .word 0x46 0x070, .word 0x44 0x050, .word 0x3C 0x070, .word 0x3C
          0x014, .word 0x30 0x088, .word 0x30 0x0B0, .word 0x30 0x0B8] : List Scope) ++ airScopes) (([.root, .cache,
          .slots, .draws, .boot, .jtag, .watch, .clock, .lanes, .nodes, .ddr, .wear, .engines, .mem, .fw, .rope, .keyOp] :
          List Part) ++ airParts) s t)) ∧
  (∀ (target : Fin 8) (withSeal : Bool) (flashError : Bool) (s : State),
      lockOpen s = true →
      keysAccept s = true →
      lifecycle s = LC_MANUFACTURE →
      target.val = LC_PROVISIONED →
      withSeal = false →
      rd F.KEYS.ROOT_READY s = 1 →
      s.root.pinSet = true →
      flashError = false →
      Gives (.lcTransition target withSeal flashError) s (fun t =>
        lifecycle t = LC_PROVISIONED ∧
        rd F.BAR4.LC_STATUS_RESULT t = 1 ∧
        t.root.ownerPin = some (leBytes (regOctets F.BAR4.LC_OWNER_PIN 12 s)) ∧
        lockOpen t = false ∧
        Within (([.page 0x80, .page 0x4A, .word 0x30 0x090, .word 0x30 0x094, .word 0x30 0x080, .word 0x30 0x098, .word
          0x30 0x0BC, .word 0x30 0x084, .word 0x30 0x08C, .word 0x32 0x040, .word 0x00 0x058, .page 0x4E, .word 0x02
          0x014, .word 0x02 0x010, .word 0x03 0x014, .word 0x03 0x010, .page 0x05, .page 0x11, .page 0x31, .word 0x48
          0x078, .word 0x08 0x04C, .word 0x08 0x00C, .word 0x09 0x04C, .word 0x09 0x00C, .word 0x0A 0x04C, .word 0x0A
          0x00C, .word 0x0B 0x04C, .word 0x0B 0x00C, .word 0x46 0x070, .word 0x44 0x050, .word 0x3C 0x070, .word 0x3C
          0x014, .word 0x30 0x088, .word 0x30 0x0B0, .word 0x30 0x0B8] : List Scope) ++ airScopes) (([.root, .cache,
          .slots, .draws, .boot, .jtag, .watch, .clock, .lanes, .nodes, .ddr, .wear, .engines, .mem, .fw, .rope, .keyOp] :
          List Part) ++ airParts) s t)) ∧
  (∀ (target : Fin 8) (withSeal : Bool) (flashError : Bool) (s : State),
      lockOpen s = true →
      keysAccept s = true →
      lifecycle s ≠ LC_BLANK →
      lifecycle s ≠ LC_DECOMMISSIONED →
      target.val = LC_DECOMMISSIONED →
      flashError = false →
      Gives (.lcTransition target withSeal flashError) s (fun t =>
        lifecycle t = LC_DECOMMISSIONED ∧
        rd F.KEYS.ROOT_READY t = 0 ∧
        t.root.root = none ∧
        t.root.copy0 = none ∧
        t.root.copy1 = none ∧
        t.root.mask = none ∧
        t.slots.any (fun x => x.2.valid || x.2.key != []) = false ∧
        Within (([.page 0x80, .page 0x4A, .word 0x30 0x090, .word 0x30 0x094, .word 0x30 0x080, .word 0x30 0x098, .word
          0x30 0x0BC, .word 0x30 0x084, .word 0x30 0x08C, .word 0x32 0x040, .word 0x00 0x058, .page 0x4E, .word 0x02
          0x014, .word 0x02 0x010, .word 0x03 0x014, .word 0x03 0x010, .page 0x05, .page 0x11, .page 0x31, .word 0x48
          0x078, .word 0x08 0x04C, .word 0x08 0x00C, .word 0x09 0x04C, .word 0x09 0x00C, .word 0x0A 0x04C, .word 0x0A
          0x00C, .word 0x0B 0x04C, .word 0x0B 0x00C, .word 0x46 0x070, .word 0x44 0x050, .word 0x3C 0x070, .word 0x3C
          0x014, .word 0x30 0x088, .word 0x30 0x0B0, .word 0x30 0x0B8, .word 0x30 0x014, .word 0x4C 0x014, .word 0x4C
          0x050, .word 0x4C 0x04C, .word 0x4C 0x048, .word 0x4C 0x044] : List Scope) ++ airScopes) (([.root, .cache,
          .slots, .draws, .boot, .jtag, .watch, .clock, .lanes, .nodes, .ddr, .wear, .engines, .mem, .fw, .rope, .keyOp,
          .notices] : List Part) ++ airParts) s t)) ∧
  (∀ (flashError : Bool) (s : State),
      lockOpen s = true →
      keysAccept s = true →
      lifecycle s = LC_PROVISIONED ∨ lifecycle s = LC_DEPLOYED →
      rd F.KEYS.ROOT_SEALED s = 0 →
      rd F.KEYS.ROOT_READY s = 1 →
      s.root.keys.isSome = true →
      vbatGood s = true →
      flashError = false →
      s.boot.held = false →
      resetNow s = false →
      Gives (.lcSeal flashError) s (fun t =>
        rd F.KEYS.ROOT_SEALED t = 1 ∧
        t.root.mask.isSome = true ∧
        rd F.MGMT.START_RESET_KIND t = R_WARM ∧
        rd F.MGMT.START_WARM_SOURCE t = 6)) ∧
  (∀ (s : State),
      lockOpen s = true →
      keysAccept s = true →
      Calm s = true →
      Gives .lcExit s (fun t =>
        rd F.BAR4.LC_STATUS_RESULT t = (if mayExit s then 1 else 2) ∧
        rd F.MGMT.START_EXIT_PENDING t = (if mayExit s then 1 else rd F.MGMT.START_EXIT_PENDING s) ∧
        Within [.word 0x80 0x2004, .word 0x4E 0x060] [] s t)) ∧
  (∀ (s : State),
      lifecycle s = LC_DEPLOYED ∨ lifecycle s = LC_RECOVERY →
      pageState 0x33 s ≠ FAULT →
      some (Machine.sha384 (regOctets F.BAR4.TRUST_PUBKEY 24 s) % 2 ^ 384) = s.root.ownerPin →
      Calm s = true →
      Gives .trustUnlock s (fun t =>
        rd F.BAR4.TRUST_STATUS_RESULT t = (if Machine.verify 2 (regOctets F.BAR4.TRUST_PUBKEY 24 s) (regOctets
          F.BAR4.TRUST_SIG 24 s) (bytesLe 48 (Machine.sha384 (unlockMessage s))) = some true then 1 else 3) ∧
        lockOpen t = (lockOpen s || Machine.verify 2 (regOctets F.BAR4.TRUST_PUBKEY 24 s) (regOctets F.BAR4.TRUST_SIG 24 s)
          (bytesLe 48 (Machine.sha384 (unlockMessage s))) == some true) ∧
        rd F.PKE.OPS t = (rd F.PKE.OPS s + 1) % 2 ^ 32 ∧
        Within [.page 0x80, .word 0x33 0x060, .word 0x33 0x064] [.draws, .root] s t)) ∧
  (∀ (s : State),
      Calm s = true →
      Gives .trustClose s (fun t =>
        lockOpen t = false ∧
        rd F.BAR4.TRUST_STATUS_REMAINING t = 0 ∧
        Within [.word 0x80 0x000] [.root] s t)) ∧
  (∀ (s : State),
      s.root.trustEnd.isSome = true →
      Calm s = true →
      Gives .trustDurationExpiry s (fun t =>
        lockOpen t = false ∧
        t.root.trustEnd = none ∧
        Within [.word 0x80 0x000] [.root] s t))

/-- The key operations load, unwrap, derive, erase, export, import and wrap keys (R369, R371, R372, R373, R378, R379,
R386, R388). KEY_LOAD puts the key and its attributes in the slot with its generation advanced, at once without
FRAME_ENC and after its counter reservation with it; a bad attribute word changes nothing; KEY_OP_DONE completes the
load with the ceiling recorded, or ends it as FLASH_ERROR, or, where the key of the parent no longer holds, ends it as
REVOKED with every slot unchanged; KEY_UNWRAP_LOAD and KEY_DERIVE give the slot the unwrapped or derived key with its
parent recorded; KEY_ERASE zeroizes the slot; KEY_EXPORT and KEY_WRAP_OUT write the blob or the wrapped key at
LOAD.ADDR; KEY_IMPORT loads a blob of this device and refuses another; CACHE_FLUSH_DONE drops what the old generation
left in the cache; JOURNAL_WRITE_DONE raises a durable ceiling, and a failed write leaves it. -/
def Obligations.KeyOperations : Prop :=
  (∀ (si : Fin 1024) (s : State),
      lockOpen s = true →
      keysAccept s = true →
      rd F.BAR4.LOAD_STATUS_BUSY s = 0 →
      rd F.KEYS.ROOT_READY s = 1 →
      attrGood (loadAttr s) = true →
      (loadAttr s).getLsbD FRAME_ENC = false →
      Gives (.keyLoad si) s (fun t =>
        rd F.BAR4.LOAD_STATUS_RESULT t = KR_DONE ∧
        rd F.BAR4.LOAD_STATUS_BUSY t = 0 ∧
        rd F.BAR4.LOAD_STATUS_SLOT t = si.val ∧
        eventLatched 0x30 1 t ∧
        (Machine.slot si.val t).attr = loadAttr s ∧
        (Machine.slot si.val t).parent = none ∧
        (Machine.slot si.val t).gen = ((Machine.slot si.val s).gen + 1) % 256 ∧
        (Machine.slot si.val t).key = (loadData s).take (algOctets ((loadAttr s).toNat % 16)) ∧
        rd (F.BAR4.LOAD_DATA 0) t = 0 ∧
        Within (([.word 0x30 0x0B4, .word 0x30 0x020, .word 0x30 0x024, .word 0x30 0x028, .word 0x30 0x014, .word 0x30
          0x0B8, .word 0x30 0x0A8, .page 0x80, .word 0x4C 0x014, .word 0x4C 0x050, .word 0x4C 0x04C, .word 0x4C 0x048, .word
          0x4C 0x044, .page 0x31, .page 0x24, .page 0x25, .page 0x26, .page 0x27, .page 0x10, .word 0x08 0x05C, .word 0x08
          0x04C, .word 0x09 0x05C, .word 0x09 0x04C, .word 0x0A 0x05C, .word 0x0A 0x04C, .word 0x0B 0x05C, .word 0x0B 0x04C,
          .word 0x19 0x0B4, .word 0x20 0x0D0, .word 0x20 0x0D4, .word 0x20 0x0D8, .word 0x20 0x0DC, .page 0x1B, .word 0x21
          0x050, .word 0x21 0x04C] : List Scope) ++ airScopes) (([.spi, .keyOp, .notices, .duty, .fes, .frames, .ledger,
          .nodes, .slots] : List Part) ++ airParts) s t)) ∧
  (∀ (si : Fin 1024) (s : State),
      lockOpen s = true →
      keysAccept s = true →
      rd F.BAR4.LOAD_STATUS_BUSY s = 0 →
      rd F.KEYS.ROOT_READY s = 1 →
      attrGood (loadAttr s) = true →
      (loadAttr s).getLsbD FRAME_ENC = true →
      s.slots.any (fun y => y.2.valid && y.2.use FRAME_ENC) = false →
      s.journal.length < 16384 →
      Gives (.keyLoad si) s (fun t =>
        rd F.BAR4.LOAD_STATUS_BUSY t = 1 ∧
        t.keyOp.map (fun o => o.target) = some si.val ∧
        t.slots = s.slots ∧
        Within (([.word 0x30 0x0B4, .word 0x30 0x020, .word 0x30 0x024, .word 0x30 0x028, .word 0x30 0x014, .word 0x30
          0x0B8, .word 0x30 0x0A8, .page 0x80, .word 0x4C 0x014, .word 0x4C 0x050, .word 0x4C 0x04C, .word 0x4C 0x048, .word
          0x4C 0x044, .page 0x31, .page 0x24, .page 0x25, .page 0x26, .page 0x27, .page 0x10, .word 0x08 0x05C, .word 0x08
          0x04C, .word 0x09 0x05C, .word 0x09 0x04C, .word 0x0A 0x05C, .word 0x0A 0x04C, .word 0x0B 0x05C, .word 0x0B 0x04C,
          .word 0x19 0x0B4, .word 0x20 0x0D0, .word 0x20 0x0D4, .word 0x20 0x0D8, .word 0x20 0x0DC, .page 0x1B, .word 0x21
          0x050, .word 0x21 0x04C] : List Scope) ++ airScopes) (([.spi, .keyOp, .notices, .duty, .fes, .frames, .ledger,
          .nodes, .slots] : List Part) ++ airParts) s t)) ∧
  (∀ (si : Fin 1024) (s : State),
      lockOpen s = true →
      keysAccept s = true →
      rd F.BAR4.LOAD_STATUS_BUSY s = 0 →
      rd F.KEYS.ROOT_READY s = 1 →
      attrGood (loadAttr s) = false →
      Gives (.keyLoad si) s (fun t =>
        rd F.BAR4.LOAD_STATUS_RESULT t = KR_BAD_ATTR ∧
        t.slots = s.slots ∧
        Within (([.word 0x30 0x0B4, .word 0x30 0x020, .word 0x30 0x024, .word 0x30 0x028, .word 0x30 0x014, .word 0x30
          0x0B8, .word 0x30 0x0A8, .page 0x80, .word 0x4C 0x014, .word 0x4C 0x050, .word 0x4C 0x04C, .word 0x4C 0x048, .word
          0x4C 0x044, .page 0x31, .page 0x24, .page 0x25, .page 0x26, .page 0x27, .page 0x10, .word 0x08 0x05C, .word 0x08
          0x04C, .word 0x09 0x05C, .word 0x09 0x04C, .word 0x0A 0x05C, .word 0x0A 0x04C, .word 0x0B 0x05C, .word 0x0B 0x04C,
          .word 0x19 0x0B4, .word 0x20 0x0D0, .word 0x20 0x0D4, .word 0x20 0x0D8, .word 0x20 0x0DC, .page 0x1B, .word 0x21
          0x050, .word 0x21 0x04C] : List Scope) ++ airScopes) (([.spi, .keyOp, .notices, .duty, .fes, .frames, .ledger,
          .nodes, .slots] : List Part) ++ airParts) s t)) ∧
  (∀ (durable : Bool) (s : State) (o : KeyOp),
      s.keyOp = some o →
      o.parent.all (fun x => keyHolds x.1 x.2 s) = true →
      ceilingHeld o.finger s = false →
      durable = true →
      (journalCeiling o.finger s).getD 0 = o.next.txcnt →
      Gives (.keyOpDone durable) s (fun t =>
        rd F.BAR4.LOAD_STATUS_RESULT t = KR_DONE ∧
        rd F.BAR4.LOAD_STATUS_BUSY t = 0 ∧
        rd F.BAR4.LOAD_STATUS_SLOT t = o.target ∧
        eventLatched 0x30 1 t ∧
        Machine.slot o.target t = loaded o.target o.next s ∧
        journalCeiling o.finger t = some o.next.ceil ∧
        t.keyOp = none ∧
        Within (([.page 0x80, .word 0x30 0x0B8, .word 0x30 0x014, .word 0x30 0x0A8, .word 0x30 0x0B0, .word 0x4C 0x014,
          .word 0x4C 0x050, .word 0x4C 0x04C, .word 0x4C 0x048, .word 0x4C 0x044, .word 0x45 0x04C, .word 0x45 0x014,
          .word 0x45 0x048, .page 0x31, .page 0x24, .page 0x25, .page 0x26, .page 0x27, .page 0x10, .word 0x08 0x05C,
          .word 0x08 0x04C, .word 0x09 0x05C, .word 0x09 0x04C, .word 0x0A 0x05C, .word 0x0A 0x04C, .word 0x0B 0x05C,
          .word 0x0B 0x04C, .word 0x19 0x0B4, .word 0x20 0x0D0, .word 0x20 0x0D4, .word 0x20 0x0D8, .word 0x20 0x0DC,
          .page 0x1B, .word 0x21 0x050, .word 0x21 0x04C] : List Scope) ++ airScopes) (([.keyOp, .notices, .journal,
          .duty, .fes, .frames, .ledger, .nodes, .slots, .root] : List Part) ++ airParts) s t)) ∧
  (∀ (durable : Bool) (s : State) (o : KeyOp),
      s.keyOp = some o →
      o.parent.all (fun x => keyHolds x.1 x.2 s) = true →
      ceilingHeld o.finger s = false →
      durable = false →
      Gives (.keyOpDone durable) s (fun t =>
        rd F.BAR4.LOAD_STATUS_RESULT t = KR_FLASH ∧
        t.slots = s.slots ∧
        t.keyOp = none ∧
        t.journal = s.journal ∧
        Within (([.page 0x80, .word 0x30 0x0B8, .word 0x30 0x014, .word 0x30 0x0A8, .word 0x30 0x0B0, .word 0x4C 0x014,
          .word 0x4C 0x050, .word 0x4C 0x04C, .word 0x4C 0x048, .word 0x4C 0x044, .word 0x45 0x04C, .word 0x45 0x014,
          .word 0x45 0x048, .page 0x31, .page 0x24, .page 0x25, .page 0x26, .page 0x27, .page 0x10, .word 0x08 0x05C,
          .word 0x08 0x04C, .word 0x09 0x05C, .word 0x09 0x04C, .word 0x0A 0x05C, .word 0x0A 0x04C, .word 0x0B 0x05C,
          .word 0x0B 0x04C, .word 0x19 0x0B4, .word 0x20 0x0D0, .word 0x20 0x0D4, .word 0x20 0x0D8, .word 0x20 0x0DC,
          .page 0x1B, .word 0x21 0x050, .word 0x21 0x04C] : List Scope) ++ airScopes) (([.keyOp, .notices, .journal,
          .duty, .fes, .frames, .ledger, .nodes, .slots, .root] : List Part) ++ airParts) s t)) ∧
  (∀ (si : Fin 1024) (s : State) (p : Nat),
      lockOpen s = true →
      keysAccept s = true →
      rd F.BAR4.LOAD_STATUS_BUSY s = 0 →
      rd F.KEYS.ROOT_READY s = 1 →
      rd F.BAR4.LOAD_PARENT s = p →
      p ≠ si.val →
      attrGood (loadAttr s) = true →
      (useSlot p HOST_TRUSTED UNWRAP s).1 = .ok →
      ancestors 4 (Machine.slot p s) s < 3 →
      (loadAttr s).toNat % 16 = 1 →
      (loadAttr s).getLsbD FRAME_ENC = false →
      Gives (.keyUnwrapLoad si) s (fun t =>
        (match Machine.unwrap (Machine.slot p s).key ((loadData s).take 24) with
              | none => rd F.BAR4.LOAD_STATUS_RESULT t == KR_UNWRAP && t.slots.map (fun x => (x.1, x.2.key)) == s.slots.map (fun x => (x.1, x.2.key))
              | some key => rd F.BAR4.LOAD_STATUS_RESULT t == KR_DONE && (Machine.slot si.val t).key == key.take 16 && (Machine.slot si.val t).parent == some (p, (Machine.slot p s).gen)) = true ∧
        Within (([.word 0x30 0x0B4, .word 0x30 0x020, .word 0x30 0x024, .word 0x30 0x028, .word 0x30 0x014, .word 0x30
          0x0B8, .word 0x30 0x0A8, .page 0x80, .word 0x4C 0x014, .word 0x4C 0x050, .word 0x4C 0x04C, .word 0x4C 0x048, .word
          0x4C 0x044, .page 0x31, .page 0x24, .page 0x25, .page 0x26, .page 0x27, .page 0x10, .word 0x08 0x05C, .word 0x08
          0x04C, .word 0x09 0x05C, .word 0x09 0x04C, .word 0x0A 0x05C, .word 0x0A 0x04C, .word 0x0B 0x05C, .word 0x0B 0x04C,
          .word 0x19 0x0B4, .word 0x20 0x0D0, .word 0x20 0x0D4, .word 0x20 0x0D8, .word 0x20 0x0DC, .page 0x1B, .word 0x21
          0x050, .word 0x21 0x04C] : List Scope) ++ airScopes) (([.spi, .keyOp, .notices, .slots, .duty, .fes, .frames,
          .ledger, .nodes] : List Part) ++ airParts) s t)) ∧
  (∀ (si : Fin 1024) (labelLen : Fin 32) (contextLen : Fin 32) (s : State) (p : Nat),
      lockOpen s = true →
      keysAccept s = true →
      rd F.BAR4.LOAD_STATUS_BUSY s = 0 →
      rd F.KEYS.ROOT_READY s = 1 →
      rd F.BAR4.LOAD_PARENT s = p →
      p ≠ si.val →
      attrGood (loadAttr s) = true →
      (useSlot p HOST_TRUSTED KDF_PARENT s).1 = .ok →
      ancestors 4 (Machine.slot p s) s < 3 →
      labelGood ((loadData s).take labelLen.val) labelLen.val contextLen.val = true →
      (loadAttr s).getLsbD FRAME_ENC = false →
      Gives (.keyDerive si labelLen contextLen) s (fun t =>
        rd F.BAR4.LOAD_STATUS_RESULT t = KR_DONE ∧
        rd F.BAR4.LOAD_STATUS_BUSY t = 0 ∧
        rd F.BAR4.LOAD_STATUS_SLOT t = si.val ∧
        eventLatched 0x30 1 t ∧
        (Machine.slot si.val t).key = kdfOctets (Machine.slot p s).key ((loadData s).take labelLen.val) (((loadData s).drop
          16).take contextLen.val) (8 * algOctets ((loadAttr s).toNat % 16)) ∧
        (Machine.slot si.val t).parent = some (p, (Machine.slot p s).gen) ∧
        Within (([.word 0x30 0x0B4, .word 0x30 0x020, .word 0x30 0x024, .word 0x30 0x028, .word 0x30 0x014, .word 0x30
          0x0B8, .word 0x30 0x0A8, .page 0x80, .word 0x4C 0x014, .word 0x4C 0x050, .word 0x4C 0x04C, .word 0x4C 0x048, .word
          0x4C 0x044, .page 0x31, .page 0x24, .page 0x25, .page 0x26, .page 0x27, .page 0x10, .word 0x08 0x05C, .word 0x08
          0x04C, .word 0x09 0x05C, .word 0x09 0x04C, .word 0x0A 0x05C, .word 0x0A 0x04C, .word 0x0B 0x05C, .word 0x0B 0x04C,
          .word 0x19 0x0B4, .word 0x20 0x0D0, .word 0x20 0x0D4, .word 0x20 0x0D8, .word 0x20 0x0DC, .page 0x1B, .word 0x21
          0x050, .word 0x21 0x04C] : List Scope) ++ airScopes) (([.spi, .keyOp, .notices, .slots, .duty, .fes, .frames,
          .ledger, .nodes] : List Part) ++ airParts) s t)) ∧
  (∀ (si : Fin 1024) (forget : Bool) (s : State),
      lockOpen s = true →
      keysAccept s = true →
      rd F.BAR4.LOAD_STATUS_BUSY s = 0 →
      rd F.KEYS.ROOT_READY s = 1 →
      Gives (.keyErase si forget) s (fun t =>
        rd F.BAR4.LOAD_STATUS_RESULT t = KR_DONE ∧
        rd F.BAR4.LOAD_STATUS_BUSY t = 0 ∧
        rd F.BAR4.LOAD_STATUS_SLOT t = si.val ∧
        eventLatched 0x30 1 t ∧
        (Machine.slot si.val t).valid = false ∧
        (Machine.slot si.val t).key = [] ∧
        (Machine.slot si.val t).gen = ((Machine.slot si.val s).gen + 1) % 256 ∧
        (Machine.slot si.val t).alg = 0 ∧
        Within (([.word 0x30 0x0B4, .word 0x30 0x020, .word 0x30 0x024, .word 0x30 0x028, .word 0x30 0x014, .word 0x30
          0x0B8, .word 0x30 0x0B0, .word 0x30 0x0A8, .page 0x80, .word 0x4C 0x014, .word 0x4C 0x050, .word 0x4C 0x04C, .word
          0x4C 0x048, .word 0x4C 0x044, .page 0x31, .page 0x24, .page 0x25, .page 0x26, .page 0x27, .page 0x10, .word 0x08
          0x05C, .word 0x08 0x04C, .word 0x09 0x05C, .word 0x09 0x04C, .word 0x0A 0x05C, .word 0x0A 0x04C, .word 0x0B 0x05C,
          .word 0x0B 0x04C, .word 0x19 0x0B4, .word 0x20 0x0D0, .word 0x20 0x0D4, .word 0x20 0x0D8, .word 0x20 0x0DC, .page
          0x1B, .word 0x21 0x050, .word 0x21 0x04C] : List Scope) ++ airScopes) (([.spi, .keyOp, .notices, .journal, .duty,
          .fes, .frames, .ledger, .nodes, .slots] : List Part) ++ airParts) s t)) ∧
  (∀ (si : Fin 1024) (ddrError : Bool) (s : State),
      lockOpen s = true →
      keysAccept s = true →
      rd F.BAR4.LOAD_STATUS_BUSY s = 0 →
      rd F.KEYS.ROOT_READY s = 1 →
      ddrError = false →
      ddrUp s = true →
      (Machine.slot si.val s).valid = true →
      (Machine.slot si.val s).parent = none →
      (Machine.slot si.val s).attr.getLsbD HOST_TRUSTED = true →
      Calm s = true →
      Gives (.keyExport si ddrError) s (fun t =>
        rd F.BAR4.LOAD_STATUS_RESULT t = KR_DONE ∧
        rd F.BAR4.LOAD_STATUS_BUSY t = 0 ∧
        rd F.BAR4.LOAD_STATUS_SLOT t = si.val ∧
        eventLatched 0x30 1 t ∧
        t.ddr = writeOctets s.ddr (loadAddr s) (blobOf (Machine.slot si.val s) s) ∧
        t.slots = s.slots ∧
        Within [.word 0x30 0x0B4, .word 0x30 0x020, .word 0x30 0x024, .word 0x30 0x028, .word 0x30 0x014, .word 0x30 0x0B8,
          .page 0x80, .word 0x4C 0x014, .word 0x4C 0x050, .word 0x4C 0x04C, .word 0x4C 0x048, .word 0x4C 0x044, .word 0x46
          0x070, .word 0x46 0x014, .word 0x46 0x054, .word 0x46 0x058, .word 0x46 0x05C] [.spi, .keyOp, .notices, .draws,
          .mem, .ddr] s t)) ∧
  (∀ (si : Fin 1024) (ddrError : Bool) (s : State),
      lockOpen s = true →
      keysAccept s = true →
      rd F.BAR4.LOAD_STATUS_BUSY s = 0 →
      rd F.KEYS.ROOT_READY s = 1 →
      (Machine.slot si.val s).valid = false →
      Calm s = true →
      Gives (.keyExport si ddrError) s (fun t =>
        rd F.BAR4.LOAD_STATUS_RESULT t = KR_BAD_SLOT ∧
        t.ddr = s.ddr ∧
        Within [.word 0x30 0x0B4, .word 0x30 0x020, .word 0x30 0x024, .word 0x30 0x028, .word 0x30 0x014, .word 0x30 0x0B8,
          .page 0x80, .word 0x4C 0x014, .word 0x4C 0x050, .word 0x4C 0x04C, .word 0x4C 0x048, .word 0x4C 0x044, .word 0x46
          0x070, .word 0x46 0x014, .word 0x46 0x054, .word 0x46 0x058, .word 0x46 0x05C] [.spi, .keyOp, .notices, .draws,
          .mem, .ddr] s t)) ∧
  (∀ (si : Fin 1024) (ddrError : Bool) (s : State) (b : List Byte) (a : BitVec 32),
      lockOpen s = true →
      keysAccept s = true →
      rd F.BAR4.LOAD_STATUS_BUSY s = 0 →
      rd F.KEYS.ROOT_READY s = 1 →
      ddrError = false →
      ddrUp s = true →
      readOctets s.ddr (loadAddr s) 64 = b →
      BitVec.ofNat 32 (leBytes ((b.drop 8).take 4)) = a →
      attrGood a = true →
      a.getLsbD FRAME_ENC = false →
      Gives (.keyImport si ddrError) s (fun t =>
        (match (if (b.take 5 == ascii "ZKSB" ++ [1] && (b.drop 12).take 8 == rootIdOf (s.root.root.getD 0) s) = true then Machine.unwrap (blobKey a s) ((b.drop 20).take 40) else none) with
              | none => rd F.BAR4.LOAD_STATUS_RESULT t == KR_FOREIGN
              | some key => rd F.BAR4.LOAD_STATUS_RESULT t == KR_DONE && (Machine.slot si.val t).attr == a && (Machine.slot si.val t).key == key.take (algOctets (a.toNat % 16))) = true ∧
        Within (([.word 0x30 0x0B4, .word 0x30 0x020, .word 0x30 0x024, .word 0x30 0x028, .word 0x30 0x014, .word 0x30
          0x0B8, .word 0x30 0x0A8, .page 0x80, .word 0x4C 0x014, .word 0x4C 0x050, .word 0x4C 0x04C, .word 0x4C 0x048, .word
          0x4C 0x044, .word 0x46 0x070, .word 0x46 0x014, .word 0x46 0x054, .word 0x46 0x058, .word 0x46 0x05C, .page 0x31,
          .page 0x24, .page 0x25, .page 0x26, .page 0x27, .page 0x10, .word 0x08 0x05C, .word 0x08 0x04C, .word 0x09 0x05C,
          .word 0x09 0x04C, .word 0x0A 0x05C, .word 0x0A 0x04C, .word 0x0B 0x05C, .word 0x0B 0x04C, .word 0x19 0x0B4, .word
          0x20 0x0D0, .word 0x20 0x0D4, .word 0x20 0x0D8, .word 0x20 0x0DC, .page 0x1B, .word 0x21 0x050, .word 0x21 0x04C]
          : List Scope) ++ airScopes) (([.spi, .keyOp, .notices, .draws, .mem, .duty, .fes, .frames, .ledger, .nodes,
          .slots] : List Part) ++ airParts) s t)) ∧
  (∀ (si : Fin 1024) (ddrError : Bool) (s : State) (p : Nat),
      lockOpen s = true →
      keysAccept s = true →
      rd F.BAR4.LOAD_STATUS_BUSY s = 0 →
      rd F.KEYS.ROOT_READY s = 1 →
      rd F.BAR4.LOAD_PARENT s = p →
      (useSlot p HOST_TRUSTED WRAP s).1 = .ok →
      ddrError = false →
      ddrUp s = true →
      Calm s = true →
      Gives (.keyWrapOut si ddrError) s (fun t =>
        rd F.BAR4.LOAD_STATUS_RESULT t = KR_DONE ∧
        rd F.BAR4.LOAD_STATUS_BUSY t = 0 ∧
        rd F.BAR4.LOAD_STATUS_SLOT t = si.val ∧
        eventLatched 0x30 1 t ∧
        t.ddr = writeOctets s.ddr (loadAddr s) (bytesLe 24 (Machine.wrap (Machine.slot p s).key ((loadData s).take 16))) ∧
        Within [.word 0x30 0x0B4, .word 0x30 0x020, .word 0x30 0x024, .word 0x30 0x028, .word 0x30 0x014, .word 0x30 0x0B8,
          .page 0x80, .word 0x4C 0x014, .word 0x4C 0x050, .word 0x4C 0x04C, .word 0x4C 0x048, .word 0x4C 0x044, .word 0x46
          0x070, .word 0x46 0x014, .word 0x46 0x054, .word 0x46 0x058, .word 0x46 0x05C] [.spi, .keyOp, .notices, .slots,
          .draws, .mem, .ddr] s t)) ∧
  (∀ (si : Fin 1024) (s : State),
      Calm s = true →
      Gives (.cacheFlushDone si) s (fun t =>
        t.cache = s.cache.filter (fun e => e.2.1 ≠ si.val || e.2.2 = (Machine.slot si.val s).gen) ∧
        t.cache.length ≤ s.cache.length ∧
        eventLatched 0x30 4 t ∧
        Within [.word 0x30 0x014, .word 0x30 0x098] [.cache] s t)) ∧
  (∀ (si : Fin 1024) (ok : Bool) (s : State),
      (Machine.slot si.val s).writing = true →
      ceilingHeld (fingerprint (Machine.slot si.val s).key) s = false →
      ok = true →
      Calm s = true →
      Gives (.journalWriteDone si ok) s (fun t =>
        (Machine.slot si.val t).ceil = nextCeiling (Machine.slot si.val s).ceil ∧
        journalCeiling (fingerprint (Machine.slot si.val s).key) t = some (nextCeiling (Machine.slot si.val s).ceil) ∧
        (Machine.slot si.val t).txcnt = (Machine.slot si.val s).txcnt ∧
        Within [.word 0x45 0x04C, .word 0x45 0x014, .word 0x45 0x048, .word 0x30 0x0B0] [.journal, .slots, .root] s t)) ∧
  (∀ (si : Fin 1024) (ok : Bool) (s : State),
      (Machine.slot si.val s).writing = true →
      ceilingHeld (fingerprint (Machine.slot si.val s).key) s = false →
      ok = false →
      Calm s = true →
      Gives (.journalWriteDone si ok) s (fun t =>
        (Machine.slot si.val t) = Machine.slot si.val s ∧
        rd F.FLASH.LAST_ERROR_CAUSE t = 5 ∧
        eventLatched 0x45 0 t ∧
        t.journal = s.journal ∧
        Within [.word 0x45 0x04C, .word 0x45 0x014, .word 0x45 0x048, .word 0x30 0x0B0] [.journal, .slots, .root] s t)) ∧
  (∀ (durable : Bool) (s : State) (o : KeyOp) (p g : Nat),
      s.keyOp = some o →
      o.parent = some (p, g) →
      keyHolds p g s = false →
      Gives (.keyOpDone durable) s (fun t =>
        rd F.BAR4.LOAD_STATUS_RESULT t = KR_REVOKED ∧
        t.slots = s.slots ∧
        t.keyOp = none ∧
        rd F.KEYS.SUPPRESSED t = (rd F.KEYS.SUPPRESSED s + 1) % 2 ^ 32 ∧
        Within (([.page 0x80, .word 0x30 0x0B8, .word 0x30 0x014, .word 0x30 0x0A8, .word 0x30 0x0B0, .word 0x4C 0x014,
          .word 0x4C 0x050, .word 0x4C 0x04C, .word 0x4C 0x048, .word 0x4C 0x044, .word 0x45 0x04C, .word 0x45 0x014,
          .word 0x45 0x048, .page 0x31, .page 0x24, .page 0x25, .page 0x26, .page 0x27, .page 0x10, .word 0x08 0x05C,
          .word 0x08 0x04C, .word 0x09 0x05C, .word 0x09 0x04C, .word 0x0A 0x05C, .word 0x0A 0x04C, .word 0x0B 0x05C,
          .word 0x0B 0x04C, .word 0x19 0x0B4, .word 0x20 0x0D0, .word 0x20 0x0D4, .word 0x20 0x0D8, .word 0x20 0x0DC,
          .page 0x1B, .word 0x21 0x050, .word 0x21 0x04C] : List Scope) ++ airScopes) (([.keyOp, .notices, .journal,
          .duty, .fes, .frames, .ledger, .nodes, .slots, .root] : List Part) ++ airParts) s t))

/-- A mismatch of the doubled cipher paths is counted, checked, and retires an engine that goes on failing (R399, R400,
R407, R415, R417). PATH_MISMATCH of a storage engine counts the retry and its failure, and one of a CCM job marks the
job and the engine; KNOWN_ANSWER_CHECK that fails begins the engine's retirement and one that passes ends the check;
ENGINE_DRAINED completes the retirement. -/
def Obligations.EngineMismatches : Prop :=
  (∀ (user : PathUser) (s : State) (en : Fin 3) (ad : Nat) (ag jb : Bool),
      user = .storage en ad ag jb →
      en.val < 3 →
      ad < 2 ^ 34 →
      Gives (.pathMismatch user) s (fun t =>
        rd F.SCIPHER.RETRIES t = (rd F.SCIPHER.RETRIES s + 1) % 2 ^ 32 ∧
        rd F.SCIPHER.MISMATCHES t = (rd F.SCIPHER.MISMATCHES s + (if ag then 2 else 1)) % 2 ^ 32 ∧
        rd F.SCIPHER.FAILED t = (rd F.SCIPHER.FAILED s + (if ag then 1 else 0)) % 2 ^ 32 ∧
        rd F.SCIPHER.LAST_MISMATCH_ENGINE t = en.val ∧
        eventLatched 0x32 0 t ∧
        Within (([.page 0x31, .word 0x05 0x014, .word 0x05 0x06C, .page 0x11, .page 0x10, .page 0x24, .page 0x25, .page
          0x26, .page 0x27, .word 0x08 0x05C, .word 0x08 0x04C, .word 0x09 0x05C, .word 0x09 0x04C, .word 0x0A 0x05C, .word
          0x0A 0x04C, .word 0x0B 0x05C, .word 0x0B 0x04C, .word 0x19 0x0B4, .word 0x20 0x0D0, .word 0x20 0x0D4, .word 0x20
          0x0D8, .word 0x20 0x0DC, .page 0x1B, .word 0x21 0x050, .word 0x21 0x04C, .word 0x32 0x014, .word 0x32 0x044, .word
          0x32 0x048, .word 0x32 0x050, .word 0x32 0x054, .word 0x32 0x058, .word 0x32 0x04C] : List Scope) ++ airScopes)
          (([.engines, .lanes, .fes, .duty, .frames, .ledger, .nodes, .jobs] : List Part) ++ airParts) s t)) ∧
  (∀ (user : PathUser) (s : State) (j : Job) (e : Nat),
      user = .job →
      s.ccmJob = some j →
      j.engine = some e →
      e < 9 →
      Calm s = true →
      Gives (.pathMismatch user) s (fun t =>
        t.ccmJob = some { j with fault := true } ∧
        rd F.FCRYPTO.MISMATCHES t = (rd F.FCRYPTO.MISMATCHES s + 1) % 2 ^ 32 ∧
        rd F.FCRYPTO.LAST_FAULT_ENGINE t = e ∧
        rd F.FCRYPTO.LAST_FAULT_USER t = 2 ∧
        eventLatched 0x31 0 t ∧
        Within (([.page 0x31, .word 0x05 0x014, .word 0x05 0x06C, .page 0x11, .page 0x10, .page 0x24, .page 0x25, .page
          0x26, .page 0x27, .word 0x08 0x05C, .word 0x08 0x04C, .word 0x09 0x05C, .word 0x09 0x04C, .word 0x0A 0x05C, .word
          0x0A 0x04C, .word 0x0B 0x05C, .word 0x0B 0x04C, .word 0x19 0x0B4, .word 0x20 0x0D0, .word 0x20 0x0D4, .word 0x20
          0x0D8, .word 0x20 0x0DC, .page 0x1B, .word 0x21 0x050, .word 0x21 0x04C, .word 0x32 0x014, .word 0x32 0x044, .word
          0x32 0x048, .word 0x32 0x050, .word 0x32 0x054, .word 0x32 0x058, .word 0x32 0x04C] : List Scope) ++ airScopes)
          (([.engines, .lanes, .fes, .duty, .frames, .ledger, .nodes, .jobs] : List Part) ++ airParts) s t)) ∧
  (∀ (engine : Fin 9) (passed : Bool) (s : State),
      s.engineChecks.contains engine.val = true →
      passed = true →
      Calm s = true →
      Gives (.knownAnswerCheck engine passed) s (fun t =>
        t.engineChecks.contains engine.val = false ∧
        rd (F.FCRYPTO.ENGINE_STATE engine.val) t = rd (F.FCRYPTO.ENGINE_STATE engine.val) s ∧
        Within (([.page 0x31, .word 0x05 0x014, .word 0x05 0x06C] : List Scope) ++ airScopes) (([.engines] : List Part) ++
          airParts) s t)) ∧
  (∀ (engine : Fin 9) (passed : Bool) (s : State),
      s.engineChecks.contains engine.val = true →
      passed = false →
      rd (F.FCRYPTO.ENGINE_STATE engine.val) s = 0 →
      Calm s = true →
      Gives (.knownAnswerCheck engine passed) s (fun t =>
        rd (F.FCRYPTO.ENGINE_STATE engine.val) t = 1 ∧
        rd F.FCRYPTO.LAST_FAULT_CAUSE t = 2 ∧
        Within (([.page 0x31, .word 0x05 0x014, .word 0x05 0x06C] : List Scope) ++ airScopes) (([.engines] : List Part) ++
          airParts) s t)) ∧
  (∀ (engine : Fin 9) (s : State),
      rd (F.FCRYPTO.ENGINE_STATE engine.val) s = 1 →
      rd (F.FCRYPTO.ENGINE_CONTEXTS engine.val) s = 0 →
      Calm s = true →
      Gives (.engineDrained engine) s (fun t =>
        rd (F.FCRYPTO.ENGINE_STATE engine.val) t = 4 ∧
        eventLatched 0x31 1 t ∧
        Within (([.page 0x05, .page 0x31] : List Scope) ++ airScopes) airParts s t))

/-- A CCM job starts under its slot and ends with its output, its verdict or the revocation of its key (R382, R402,
R403, R415). CCM_ENCRYPT and CCM_DECRYPT start a job under a usable slot on the engine with the fewest contexts;
CCM_JOB_DONE writes the sealed text, or the opened text where the tag holds; and a changed key suppresses it. -/
def Obligations.CcmJobs : Prop :=
  (∀ (s : State) (x e : Nat),
      Accepted 0x31 0x0A4 1 s →
      pageState 0x31 s = RUN →
      rd F.FCRYPTO.JOB_STATUS_BUSY s = 0 →
      rd F.FCRYPTO.JOB_SLOT s = x →
      rangesMeet (rd F.FCRYPTO.JOB_SRC s) (rd F.FCRYPTO.JOB_AAD_LEN s + rd F.FCRYPTO.JOB_LENGTH s + 0) (rd F.FCRYPTO.JOB_DST
        s) (rd F.FCRYPTO.JOB_LENGTH s + tagOctets (rd F.FCRYPTO.JOB_TAG_LEN s)) = false →
      (slot x s).attr.getLsbD LANE_CRYPTO = false →
      (slot x s).alg = 1 ∨ (slot x s).alg = 2 →
      (useSlot x HOST_NORMAL FRAME_ENC s).1 = .ok →
      leastLoaded s = some e →
      Calm s = true →
      Gives .ccmEncrypt s (fun t =>
        rd F.FCRYPTO.JOB_STATUS_BUSY t = 1 ∧
        t.ccmJob.map (fun j => (j.op, j.slot, j.gen, j.engine)) = some (1, x, (slot x s).gen, some e) ∧
        (slot x t).uses = ((slot x s).uses + 1) % 2 ^ 32 ∧
        Within (([.page 0x31, .word 0x4C 0x014, .word 0x4C 0x050, .word 0x4C 0x04C, .word 0x4C 0x048, .word 0x4C 0x044] :
          List Scope) ++ airScopes) (([.spi, .notices, .jobs, .slots] : List Part) ++ airParts) s t)) ∧
  (∀ (s : State) (x e : Nat),
      Accepted 0x31 0x0A4 2 s →
      pageState 0x31 s = RUN →
      rd F.FCRYPTO.JOB_STATUS_BUSY s = 0 →
      rd F.FCRYPTO.JOB_SLOT s = x →
      rangesMeet (rd F.FCRYPTO.JOB_SRC s) (rd F.FCRYPTO.JOB_AAD_LEN s + rd F.FCRYPTO.JOB_LENGTH s + tagOctets (rd
        F.FCRYPTO.JOB_TAG_LEN s)) (rd F.FCRYPTO.JOB_DST s) (rd F.FCRYPTO.JOB_LENGTH s + 0) = false →
      (slot x s).attr.getLsbD LANE_CRYPTO = false →
      (slot x s).alg = 1 ∨ (slot x s).alg = 2 →
      (useSlot x HOST_NORMAL FRAME_DEC s).1 = .ok →
      leastLoaded s = some e →
      Calm s = true →
      Gives .ccmDecrypt s (fun t =>
        rd F.FCRYPTO.JOB_STATUS_BUSY t = 1 ∧
        t.ccmJob.map (fun j => (j.op, j.slot, j.gen, j.engine)) = some (2, x, (slot x s).gen, some e) ∧
        (slot x t).uses = ((slot x s).uses + 1) % 2 ^ 32 ∧
        Within (([.page 0x31, .word 0x4C 0x014, .word 0x4C 0x050, .word 0x4C 0x04C, .word 0x4C 0x048, .word 0x4C 0x044] :
          List Scope) ++ airScopes) (([.spi, .notices, .jobs, .slots] : List Part) ++ airParts) s t)) ∧
  (∀ (ddrError : Bool) (s : State) (j : Job),
      s.ccmJob = some j →
      keyHolds j.slot j.gen s = true →
      j.fault = false →
      ddrError = false →
      selfRefresh s = false →
      ddrUp s = true →
      Calm s = true →
      j.op = 1 →
      Gives (.ccmJobDone ddrError) s (fun t =>
        rd F.FCRYPTO.JOB_STATUS_RESULT t = JR_DONE ∧
        rd F.FCRYPTO.JOB_STATUS_BUSY t = 0 ∧
        t.ccmJob = none ∧
        t.ddr = writeOctets s.ddr (winAddr j.dst s) (bytesLe (j.len + j.tag) (Machine.ccmSeal j.key (bytesLe 13 j.nonce)
          (readOctets s.ddr (winAddr j.src s) j.aad) (readOctets s.ddr (winAddr j.src s + j.aad) j.len) j.tag)) ∧
        Within (([.page 0x31, .word 0x4C 0x014, .word 0x4C 0x050, .word 0x4C 0x04C, .word 0x4C 0x048, .word 0x4C 0x044,
          .word 0x30 0x014, .word 0x30 0x0A8, .word 0x46 0x070, .word 0x46 0x014, .word 0x46 0x054, .word 0x46 0x058, .word
          0x46 0x05C] : List Scope) ++ airScopes) (([.notices, .jobs, .draws, .mem, .ddr] : List Part) ++ airParts) s t)) ∧
  (∀ (ddrError : Bool) (s : State) (j : Job),
      s.ccmJob = some j →
      keyHolds j.slot j.gen s = true →
      j.fault = false →
      ddrError = false →
      selfRefresh s = false →
      ddrUp s = true →
      Calm s = true →
      j.op = 2 →
      Gives (.ccmJobDone ddrError) s (fun t =>
        rd F.FCRYPTO.JOB_STATUS_BUSY t = 0 ∧
        t.ccmJob = none ∧
        (match Machine.ccmOpen j.key (bytesLe 13 j.nonce) (readOctets s.ddr (winAddr j.src s) j.aad) (readOctets s.ddr (winAddr j.src s + j.aad) (j.len + j.tag)) j.tag with
              | none => rd F.FCRYPTO.JOB_STATUS_RESULT t == JR_AUTH_FAIL && t.ddr == s.ddr
              | some v => rd F.FCRYPTO.JOB_STATUS_RESULT t == JR_DONE && t.ddr == writeOctets s.ddr (winAddr j.dst s) (bytesLe j.len v)) = true ∧
        Within (([.page 0x31, .word 0x4C 0x014, .word 0x4C 0x050, .word 0x4C 0x04C, .word 0x4C 0x048, .word 0x4C 0x044,
          .word 0x30 0x014, .word 0x30 0x0A8, .word 0x46 0x070, .word 0x46 0x014, .word 0x46 0x054, .word 0x46 0x058, .word
          0x46 0x05C] : List Scope) ++ airScopes) (([.notices, .jobs, .draws, .mem, .ddr] : List Part) ++ airParts) s t)) ∧
  (∀ (ddrError : Bool) (s : State) (j : Job),
      s.ccmJob = some j →
      keyHolds j.slot j.gen s = false →
      Calm s = true →
      Gives (.ccmJobDone ddrError) s (fun t =>
        rd F.FCRYPTO.JOB_STATUS_RESULT t = JR_REVOKED ∧
        t.ccmJob = none ∧
        t.ddr = s.ddr ∧
        rd F.KEYS.SUPPRESSED t = (rd F.KEYS.SUPPRESSED s + 1) % 2 ^ 32 ∧
        Within (([.page 0x31, .word 0x4C 0x014, .word 0x4C 0x050, .word 0x4C 0x04C, .word 0x4C 0x048, .word 0x4C 0x044,
          .word 0x30 0x014, .word 0x30 0x0A8, .word 0x46 0x070, .word 0x46 0x014, .word 0x46 0x054, .word 0x46 0x058, .word
          0x46 0x05C] : List Scope) ++ airScopes) (([.notices, .jobs, .draws, .mem, .ddr] : List Part) ++ airParts) s t))

/-- A SCIPHER job starts under a storage slot and ends with its output written (R382, R407, R408, R417). Each of the
SCIPHER commands starts a job under a storage slot; CBC, CTR and CFB only in RECOVERY; SCIPHER_JOB_DONE writes the
output at DST. -/
def Obligations.StorageCipherJobs : Prop :=
  (∀ (s : State) (x : Nat),
      Accepted 0x32 0x0A4 1 s →
      sciLengthGood 1 (rd F.SCIPHER.JOB_LENGTH s) (2 ^ rd F.SCIPHER.JOB_DU_LOG2 s) = true →
      pageState 0x32 s = RUN →
      rd F.SCIPHER.JOB_STATUS_BUSY s = 0 →
      rd F.SCIPHER.JOB_SLOT s = x →
      (slot x s).alg = 2 →
      (useSlot x HOST_NORMAL STORAGE s).1 = .ok →
      Calm s = true →
      Gives .scipherXtsEncrypt s (fun t =>
        rd F.SCIPHER.JOB_STATUS_BUSY t = 1 ∧
        t.sciJob.map (fun j => (j.op, j.slot, j.gen, j.src, j.dst, j.len)) = some (1, x, (slot x s).gen, rd
          F.SCIPHER.JOB_SRC s, rd F.SCIPHER.JOB_DST s, rd F.SCIPHER.JOB_LENGTH s) ∧
        Within [.word 0x32 0x020, .word 0x32 0x024, .word 0x32 0x028, .word 0x32 0x014, .word 0x32 0x0A8, .word 0x4C 0x014,
          .word 0x4C 0x050, .word 0x4C 0x04C, .word 0x4C 0x048, .word 0x4C 0x044] [.spi, .jobs, .notices, .slots] s t)) ∧
  (∀ (s : State) (x : Nat),
      Accepted 0x32 0x0A4 2 s →
      sciLengthGood 2 (rd F.SCIPHER.JOB_LENGTH s) (2 ^ rd F.SCIPHER.JOB_DU_LOG2 s) = true →
      pageState 0x32 s = RUN →
      rd F.SCIPHER.JOB_STATUS_BUSY s = 0 →
      rd F.SCIPHER.JOB_SLOT s = x →
      (slot x s).alg = 2 →
      (useSlot x HOST_NORMAL STORAGE s).1 = .ok →
      Calm s = true →
      Gives .scipherXtsDecrypt s (fun t =>
        rd F.SCIPHER.JOB_STATUS_BUSY t = 1 ∧
        t.sciJob.map (fun j => (j.op, j.slot, j.gen, j.src, j.dst, j.len)) = some (2, x, (slot x s).gen, rd
          F.SCIPHER.JOB_SRC s, rd F.SCIPHER.JOB_DST s, rd F.SCIPHER.JOB_LENGTH s) ∧
        Within [.word 0x32 0x020, .word 0x32 0x024, .word 0x32 0x028, .word 0x32 0x014, .word 0x32 0x0A8, .word 0x4C 0x014,
          .word 0x4C 0x050, .word 0x4C 0x04C, .word 0x4C 0x048, .word 0x4C 0x044] [.spi, .jobs, .notices, .slots] s t)) ∧
  (∀ (s : State) (x : Nat),
      Accepted 0x32 0x0A4 3 s →
      sciLengthGood 3 (rd F.SCIPHER.JOB_LENGTH s) (2 ^ rd F.SCIPHER.JOB_DU_LOG2 s) = true →
      lifecycle s = LC_RECOVERY →
      pageState 0x32 s = RUN →
      rd F.SCIPHER.JOB_STATUS_BUSY s = 0 →
      rd F.SCIPHER.JOB_SLOT s = x →
      (slot x s).alg = 2 →
      (useSlot x HOST_NORMAL STORAGE s).1 = .ok →
      Calm s = true →
      Gives .scipherCbcEncrypt s (fun t =>
        rd F.SCIPHER.JOB_STATUS_BUSY t = 1 ∧
        t.sciJob.map (fun j => (j.op, j.slot, j.gen, j.src, j.dst, j.len)) = some (3, x, (slot x s).gen, rd
          F.SCIPHER.JOB_SRC s, rd F.SCIPHER.JOB_DST s, rd F.SCIPHER.JOB_LENGTH s) ∧
        Within [.word 0x32 0x020, .word 0x32 0x024, .word 0x32 0x028, .word 0x32 0x014, .word 0x32 0x0A8, .word 0x4C 0x014,
          .word 0x4C 0x050, .word 0x4C 0x04C, .word 0x4C 0x048, .word 0x4C 0x044] [.spi, .jobs, .notices, .slots] s t)) ∧
  (∀ (s : State) (x : Nat),
      Accepted 0x32 0x0A4 4 s →
      sciLengthGood 4 (rd F.SCIPHER.JOB_LENGTH s) (2 ^ rd F.SCIPHER.JOB_DU_LOG2 s) = true →
      lifecycle s = LC_RECOVERY →
      pageState 0x32 s = RUN →
      rd F.SCIPHER.JOB_STATUS_BUSY s = 0 →
      rd F.SCIPHER.JOB_SLOT s = x →
      (slot x s).alg = 2 →
      (useSlot x HOST_NORMAL STORAGE s).1 = .ok →
      Calm s = true →
      Gives .scipherCbcDecrypt s (fun t =>
        rd F.SCIPHER.JOB_STATUS_BUSY t = 1 ∧
        t.sciJob.map (fun j => (j.op, j.slot, j.gen, j.src, j.dst, j.len)) = some (4, x, (slot x s).gen, rd
          F.SCIPHER.JOB_SRC s, rd F.SCIPHER.JOB_DST s, rd F.SCIPHER.JOB_LENGTH s) ∧
        Within [.word 0x32 0x020, .word 0x32 0x024, .word 0x32 0x028, .word 0x32 0x014, .word 0x32 0x0A8, .word 0x4C 0x014,
          .word 0x4C 0x050, .word 0x4C 0x04C, .word 0x4C 0x048, .word 0x4C 0x044] [.spi, .jobs, .notices, .slots] s t)) ∧
  (∀ (s : State) (x : Nat),
      Accepted 0x32 0x0A4 5 s →
      sciLengthGood 5 (rd F.SCIPHER.JOB_LENGTH s) (2 ^ rd F.SCIPHER.JOB_DU_LOG2 s) = true →
      lifecycle s = LC_RECOVERY →
      pageState 0x32 s = RUN →
      rd F.SCIPHER.JOB_STATUS_BUSY s = 0 →
      rd F.SCIPHER.JOB_SLOT s = x →
      (slot x s).alg = 2 →
      (useSlot x HOST_NORMAL STORAGE s).1 = .ok →
      Calm s = true →
      Gives .scipherCtr s (fun t =>
        rd F.SCIPHER.JOB_STATUS_BUSY t = 1 ∧
        t.sciJob.map (fun j => (j.op, j.slot, j.gen, j.src, j.dst, j.len)) = some (5, x, (slot x s).gen, rd
          F.SCIPHER.JOB_SRC s, rd F.SCIPHER.JOB_DST s, rd F.SCIPHER.JOB_LENGTH s) ∧
        Within [.word 0x32 0x020, .word 0x32 0x024, .word 0x32 0x028, .word 0x32 0x014, .word 0x32 0x0A8, .word 0x4C 0x014,
          .word 0x4C 0x050, .word 0x4C 0x04C, .word 0x4C 0x048, .word 0x4C 0x044] [.spi, .jobs, .notices, .slots] s t)) ∧
  (∀ (s : State) (x : Nat),
      Accepted 0x32 0x0A4 6 s →
      sciLengthGood 6 (rd F.SCIPHER.JOB_LENGTH s) (2 ^ rd F.SCIPHER.JOB_DU_LOG2 s) = true →
      lifecycle s = LC_RECOVERY →
      pageState 0x32 s = RUN →
      rd F.SCIPHER.JOB_STATUS_BUSY s = 0 →
      rd F.SCIPHER.JOB_SLOT s = x →
      (slot x s).alg = 2 →
      (useSlot x HOST_NORMAL STORAGE s).1 = .ok →
      Calm s = true →
      Gives .scipherCfbEncrypt s (fun t =>
        rd F.SCIPHER.JOB_STATUS_BUSY t = 1 ∧
        t.sciJob.map (fun j => (j.op, j.slot, j.gen, j.src, j.dst, j.len)) = some (6, x, (slot x s).gen, rd
          F.SCIPHER.JOB_SRC s, rd F.SCIPHER.JOB_DST s, rd F.SCIPHER.JOB_LENGTH s) ∧
        Within [.word 0x32 0x020, .word 0x32 0x024, .word 0x32 0x028, .word 0x32 0x014, .word 0x32 0x0A8, .word 0x4C 0x014,
          .word 0x4C 0x050, .word 0x4C 0x04C, .word 0x4C 0x048, .word 0x4C 0x044] [.spi, .jobs, .notices, .slots] s t)) ∧
  (∀ (s : State) (x : Nat),
      Accepted 0x32 0x0A4 7 s →
      sciLengthGood 7 (rd F.SCIPHER.JOB_LENGTH s) (2 ^ rd F.SCIPHER.JOB_DU_LOG2 s) = true →
      lifecycle s = LC_RECOVERY →
      pageState 0x32 s = RUN →
      rd F.SCIPHER.JOB_STATUS_BUSY s = 0 →
      rd F.SCIPHER.JOB_SLOT s = x →
      (slot x s).alg = 2 →
      (useSlot x HOST_NORMAL STORAGE s).1 = .ok →
      Calm s = true →
      Gives .scipherCfbDecrypt s (fun t =>
        rd F.SCIPHER.JOB_STATUS_BUSY t = 1 ∧
        t.sciJob.map (fun j => (j.op, j.slot, j.gen, j.src, j.dst, j.len)) = some (7, x, (slot x s).gen, rd
          F.SCIPHER.JOB_SRC s, rd F.SCIPHER.JOB_DST s, rd F.SCIPHER.JOB_LENGTH s) ∧
        Within [.word 0x32 0x020, .word 0x32 0x024, .word 0x32 0x028, .word 0x32 0x014, .word 0x32 0x0A8, .word 0x4C 0x014,
          .word 0x4C 0x050, .word 0x4C 0x04C, .word 0x4C 0x048, .word 0x4C 0x044] [.spi, .jobs, .notices, .slots] s t)) ∧
  (∀ (ddrError : Bool) (s : State) (j : Job),
      s.sciJob = some j →
      keyHolds j.slot j.gen s = true →
      j.fault = false →
      ddrError = false →
      selfRefresh s = false →
      ddrUp s = true →
      j.src = j.dst ∨ rangesMeet j.src j.len j.dst j.len = false →
      Calm s = true →
      Gives (.scipherJobDone ddrError) s (fun t =>
        rd F.SCIPHER.JOB_STATUS_RESULT t = JR_DONE ∧
        rd F.SCIPHER.JOB_STATUS_BUSY t = 0 ∧
        t.sciJob = none ∧
        eventLatched 0x32 1 t ∧
        t.ddr = writeOctets s.ddr (winAddr j.dst s) (bytesLe j.len (Machine.storageCipher j.op (if j.op ≤ 2 then kdf j.key
          "ZK XTS" [] 512 else j.key) (bytesLe 16 j.nonce) j.aad (readOctets s.ddr (winAddr j.src s) j.len))) ∧
        Within [.word 0x32 0x0A8, .word 0x32 0x014, .word 0x4C 0x014, .word 0x4C 0x050, .word 0x4C 0x04C, .word 0x4C 0x048,
          .word 0x4C 0x044, .word 0x30 0x014, .word 0x30 0x0A8, .word 0x46 0x070, .word 0x46 0x014, .word 0x46 0x054, .word
          0x46 0x058, .word 0x46 0x05C] [.jobs, .notices, .draws, .mem, .ddr] s t))

/-- The public-key engine verifies, gives the pairing key, and refuses ECDH to the host (R409, R410, R411, R412, R419).
The PKE verifications compare the pin, then the signature; PKE_PAIR_PUBLIC gives the public key with a root and NO_ROOT
without; PKE_PAIR_ECDH ends as KEY_UNUSABLE; PKE_DONE shows the result, and a fault as FAULT. -/
def Obligations.PublicKeyOperations : Prop :=
  (∀ (hashIn : Bool) (si : Fin 1024) (s : State),
      Accepted 0x33 0x040 (pkeWord 1 hashIn si.val) s →
      pageState 0x33 s = RUN →
      rd F.PKE.STATUS_BUSY s = 0 →
      (Machine.slot si.val s).alg = 4 →
      (Machine.slot si.val s).attr.getLsbD 15 = false →
      (useSlot si.val HOST_NORMAL VERIFY s).1 = .ok →
      Calm s = true →
      Gives (.pkeVerifyP256 hashIn si) s (fun t =>
        rd F.PKE.STATUS_BUSY t = 1 ∧
        rd F.PKE.CMD_OP t = 1 ∧
        t.pkeOp.map (fun o => (o.op, o.slot)) = some (1, some (si.val, (Machine.slot si.val s).gen)) ∧
        t.pkeOp.map (fun o => o.result) = some (if pinOf ((regOctets F.PKE.PUBKEY 24 s).take 64) = (Machine.slot si.val
          s).key.take 32 then verdictOf (Machine.verify 1 ((regOctets F.PKE.PUBKEY 24 s).take 64) ((regOctets F.PKE.SIG 24
          s).take 64) (if hashIn then digestOf (rd F.PKE.HASH s) (readOctets s.ddr (winAddr (rd F.PKE.ADDR s) s) (rd
          F.PKE.LENGTH s)) else (regOctets F.PKE.DIGEST 16 s).take (digestOctets (rd F.PKE.HASH s)))) else PR_PIN) ∧
        Within [.word 0x33 0x020, .word 0x33 0x024, .word 0x33 0x028, .word 0x33 0x014, .word 0x33 0x040, .word 0x33 0x044]
          [.spi, .slots, .jobs] s t)) ∧
  (∀ (hashIn : Bool) (si : Fin 1024) (s : State),
      Accepted 0x33 0x040 (pkeWord 2 hashIn si.val) s →
      pageState 0x33 s = RUN →
      rd F.PKE.STATUS_BUSY s = 0 →
      (Machine.slot si.val s).alg = 5 →
      (Machine.slot si.val s).attr.getLsbD 15 = false →
      (useSlot si.val HOST_NORMAL VERIFY s).1 = .ok →
      Calm s = true →
      Gives (.pkeVerifyP384 hashIn si) s (fun t =>
        rd F.PKE.STATUS_BUSY t = 1 ∧
        rd F.PKE.CMD_OP t = 2 ∧
        t.pkeOp.map (fun o => (o.op, o.slot)) = some (2, some (si.val, (Machine.slot si.val s).gen)) ∧
        t.pkeOp.map (fun o => o.result) = some (if pinOf ((regOctets F.PKE.PUBKEY 24 s).take 96) = (Machine.slot si.val
          s).key.take 32 then verdictOf (Machine.verify 2 ((regOctets F.PKE.PUBKEY 24 s).take 96) ((regOctets F.PKE.SIG 24
          s).take 96) (if hashIn then digestOf (rd F.PKE.HASH s) (readOctets s.ddr (winAddr (rd F.PKE.ADDR s) s) (rd
          F.PKE.LENGTH s)) else (regOctets F.PKE.DIGEST 16 s).take (digestOctets (rd F.PKE.HASH s)))) else PR_PIN) ∧
        Within [.word 0x33 0x020, .word 0x33 0x024, .word 0x33 0x028, .word 0x33 0x014, .word 0x33 0x040, .word 0x33 0x044]
          [.spi, .slots, .jobs] s t)) ∧
  (∀ (hashIn : Bool) (si : Fin 1024) (s : State),
      Accepted 0x33 0x040 (pkeWord 3 hashIn si.val) s →
      pageState 0x33 s = RUN →
      rd F.PKE.STATUS_BUSY s = 0 →
      (Machine.slot si.val s).alg = 6 →
      (Machine.slot si.val s).attr.getLsbD 15 = false →
      (useSlot si.val HOST_NORMAL VERIFY s).1 = .ok →
      Calm s = true →
      Gives (.pkeVerifyEd25519 hashIn si) s (fun t =>
        rd F.PKE.STATUS_BUSY t = 1 ∧
        rd F.PKE.CMD_OP t = 3 ∧
        t.pkeOp.map (fun o => (o.op, o.slot)) = some (3, some (si.val, (Machine.slot si.val s).gen)) ∧
        t.pkeOp.map (fun o => o.result) = some (if pinOf ((regOctets F.PKE.PUBKEY 24 s).take 32) = (Machine.slot si.val
          s).key.take 32 then verdictOf (Machine.verify 3 ((regOctets F.PKE.PUBKEY 24 s).take 32) ((regOctets F.PKE.SIG 24
          s).take 64) (readOctets s.ddr (winAddr (rd F.PKE.ADDR s) s) (rd F.PKE.LENGTH s))) else PR_PIN) ∧
        Within [.word 0x33 0x020, .word 0x33 0x024, .word 0x33 0x028, .word 0x33 0x014, .word 0x33 0x040, .word 0x33 0x044]
          [.spi, .slots, .jobs] s t)) ∧
  (∀ (hashIn : Bool) (si : Fin 1024) (s : State),
      Accepted 0x33 0x040 (pkeWord 4 hashIn si.val) s →
      pageState 0x33 s = RUN →
      rd F.PKE.STATUS_BUSY s = 0 →
      Calm s = true →
      Gives (.pkePairPublic hashIn si) s (fun t =>
        rd F.PKE.STATUS_BUSY t = 1 ∧
        t.pkeOp.map (fun o => o.result) = some (if s.root.root.isSome then PR_DONE else PR_NO_ROOT) ∧
        t.pkeOp.map (fun o => o.out) = some (match s.root.root with
              | none => []
              | some r => (bytesLe 64 (Machine.pairPublic (pairScalar r s))).map BitVec.toNat) ∧
        Within [.word 0x33 0x020, .word 0x33 0x024, .word 0x33 0x028, .word 0x33 0x014, .word 0x33 0x040, .word 0x33 0x044]
          [.spi, .jobs] s t)) ∧
  (∀ (hashIn : Bool) (si : Fin 1024) (s : State),
      Accepted 0x33 0x040 (pkeWord 5 hashIn si.val) s →
      pageState 0x33 s = RUN →
      rd F.PKE.STATUS_BUSY s = 0 →
      Calm s = true →
      Gives (.pkePairEcdh hashIn si) s (fun t =>
        rd F.PKE.STATUS_BUSY t = 1 ∧
        t.pkeOp.map (fun o => (o.op, o.result, o.out)) = some (5, PR_UNUSABLE, []) ∧
        Within [.word 0x33 0x020, .word 0x33 0x024, .word 0x33 0x028, .word 0x33 0x014, .word 0x33 0x040, .word 0x33 0x044]
          [.spi, .jobs] s t)) ∧
  (∀ (ddrError : Bool) (fault : Bool) (s : State) (o : PkeOp),
      s.pkeOp = some o →
      o.slot = none ∨ (match o.slot with | some (x, g) => keyHolds x g s | none => false) = true →
      ddrError = false →
      fault = false →
      o.result < 16 →
      Calm s = true →
      Gives (.pkeDone ddrError fault) s (fun t =>
        rd F.PKE.STATUS_RESULT t = o.result ∧
        rd F.PKE.STATUS_BUSY t = 0 ∧
        t.pkeOp = none ∧
        rd F.PKE.OPS t = (rd F.PKE.OPS s + 1) % 2 ^ 32 ∧
        eventLatched 0x33 0 t ∧
        Within [.page 0x33, .word 0x4C 0x014, .word 0x4C 0x050, .word 0x4C 0x04C, .word 0x4C 0x048, .word 0x4C 0x044, .word
          0x30 0x014, .word 0x30 0x0A8, .word 0x46 0x070, .word 0x46 0x014, .word 0x46 0x054, .word 0x46 0x058, .word 0x46
          0x05C] [.jobs, .notices, .draws, .mem] s t)) ∧
  (∀ (ddrError : Bool) (fault : Bool) (s : State) (o : PkeOp),
      s.pkeOp = some o →
      o.slot = none →
      ddrError = false →
      fault = true →
      Calm s = true →
      Gives (.pkeDone ddrError fault) s (fun t =>
        rd F.PKE.STATUS_RESULT t = PR_FAULT ∧
        t.pkeOp = none ∧
        eventLatched 0x33 1 t ∧
        Within [.page 0x33, .word 0x4C 0x014, .word 0x4C 0x050, .word 0x4C 0x04C, .word 0x4C 0x048, .word 0x4C 0x044, .word
          0x30 0x014, .word 0x30 0x0A8, .word 0x46 0x070, .word 0x46 0x014, .word 0x46 0x054, .word 0x46 0x058, .word 0x46
          0x05C] [.jobs, .notices, .draws, .mem] s t))

/-- A port's link follows its conditions, and a received frame is staged or ends with the first reason that applies
(R422, R425, R426, R433, R441, R443, R444). ETH_LINK_CHANGE raises the link when no condition stops it and lowers it
with the first reason; each change counts; ETH_FRAME_END stages a good frame and counts it, and a runt or a bad FCS ends
as DROP_ETH_RUNT or DROP_ETH_FCS; ETH_OCTET_LO_READ returns the low word, latches the high one and clears the counter;
RMON_LO_READ latches without clearing. -/
def Obligations.LinksAndReception : Prop :=
  (∀ (pn : Fin 2) (los : Bool) (sync : Bool) (anDone : Bool) (fullDuplex : Bool) (remote : Bool) (partnerPause : Bool) (partnerAsm : Bool) (speed : Fin 4) (s : State),
      pageState (ethPage pn.val) s ≠ OFF →
      rd (F.ETH.MODE_SEL pn.val) s < 3 →
      los = false →
      sync = true →
      remote = false →
      rd (F.ETH.STATUS_UP pn.val) s = 0 →
      Gives (.ethLinkChange pn los sync anDone fullDuplex remote partnerPause partnerAsm speed) s (fun t =>
        rd (F.ETH.STATUS_UP pn.val) t = 1 ∧
        rd (F.ETH.STATUS_DOWN_REASON pn.val) t = 0 ∧
        rd (F.ETH.LINK_CHANGES pn.val) t = min (rd (F.ETH.LINK_CHANGES pn.val) s + 1) 65535 ∧
        eventLatched (ethPage pn.val) 0 t ∧
        Within (([.word (ethPage pn.val) 0x070, .word (ethPage pn.val) 0x074, .word (ethPage pn.val) 0x014, .word (ethPage
          pn.val) 0x078, .word (ethPage pn.val) 0x0AC, .word 0x4C 0x014, .word 0x4C 0x050, .word 0x4C 0x04C, .word 0x4C
          0x048, .word 0x4C 0x044, .word 0x20 0x0D0, .word 0x20 0x0D4, .word 0x20 0x0D8, .word 0x20 0x0DC, .page 0x1B,
          .page 0x41, .page (ethStatPage pn.val), .word (ethPage pn.val) 0x0C8] : List Scope) ++ airScopes) (([.notices,
          .ports, .nodes, .ledger, .ddr, .rings] : List Part) ++ airParts) s t)) ∧
  (∀ (pn : Fin 2) (los : Bool) (sync : Bool) (anDone : Bool) (fullDuplex : Bool) (remote : Bool) (partnerPause : Bool) (partnerAsm : Bool) (speed : Fin 4) (s : State),
      pageState (ethPage pn.val) s ≠ OFF →
      los = false →
      sync = false →
      rd (F.ETH.STATUS_UP pn.val) s = 1 →
      Gives (.ethLinkChange pn los sync anDone fullDuplex remote partnerPause partnerAsm speed) s (fun t =>
        rd (F.ETH.STATUS_UP pn.val) t = 0 ∧
        rd (F.ETH.STATUS_DOWN_REASON pn.val) t = 2 ∧
        (port pn.val t).pauseEnd = none ∧
        eventLatched (ethPage pn.val) 0 t ∧
        Within (([.word (ethPage pn.val) 0x070, .word (ethPage pn.val) 0x074, .word (ethPage pn.val) 0x014, .word (ethPage
          pn.val) 0x078, .word (ethPage pn.val) 0x0AC, .word 0x4C 0x014, .word 0x4C 0x050, .word 0x4C 0x04C, .word 0x4C
          0x048, .word 0x4C 0x044, .word 0x20 0x0D0, .word 0x20 0x0D4, .word 0x20 0x0D8, .word 0x20 0x0DC, .page 0x1B,
          .page 0x41, .page (ethStatPage pn.val), .word (ethPage pn.val) 0x0C8] : List Scope) ++ airScopes) (([.notices,
          .ports, .nodes, .ledger, .ddr, .rings] : List Part) ++ airParts) s t)) ∧
  (∀ (pn : Fin 2) (size : Nat) (fcsOk : Bool) (codeError : Bool) (since stampAgo : Nat) (frame : EthFrame) (s : State),
      receptionOpen pn.val (s.now - since) s = true →
      begunDraining pn.val (s.now - since) s = false →
      pageState (ethPage pn.val) s = RUN →
      rd (F.ETH.STATUS_UP pn.val) s = 1 →
      fcsOk = true →
      64 ≤ size →
      size ≤ rd (F.ETH.MAX_FRAME pn.val) s →
      stagingFull pn.val size s = false →
      Calm s = true →
      Gives (.ethFrameEnd pn size fcsOk codeError since stampAgo frame) s (fun t =>
        (port pn.val t).staging.length = (port pn.val s).staging.length + 1 ∧
        (port pn.val t).staging.getLast?.map (fun x => (x.frame, x.size)) = some (s.nextFrame, size) ∧
        rd (F.ETH.RX_GOOD pn.val) t = (rd (F.ETH.RX_GOOD pn.val) s + 1) % 2 ^ 32 ∧
        (port pn.val t).rxOctets = ((port pn.val s).rxOctets + size) % 2 ^ 64 ∧
        t.nextFrame = s.nextFrame + 1 ∧
        Within (([.page (ethStatPage pn.val), .page (ethPage pn.val)] : List Scope) ++ airScopes) (([.ports, .frameNumbers,
          .ledger] : List Part) ++ airParts) s t)) ∧
  (∀ (pn : Fin 2) (size : Nat) (fcsOk : Bool) (codeError : Bool) (since stampAgo : Nat) (frame : EthFrame) (s : State),
      receptionOpen pn.val (s.now - since) s = true →
      begunDraining pn.val (s.now - since) s = false →
      pageState (ethPage pn.val) s = RUN →
      rd (F.ETH.STATUS_UP pn.val) s = 1 →
      size < 64 →
      Calm s = true →
      Gives (.ethFrameEnd pn size fcsOk codeError since stampAgo frame) s (fun t =>
        (port pn.val t).staging = (port pn.val s).staging ∧
        rd (F.ETH.RX_RUNT pn.val) t = (rd (F.ETH.RX_RUNT pn.val) s + 1) % 2 ^ 32 ∧
        t.ledger = (s.nextFrame, .dropEthRunt) :: s.ledger ∧
        Within (([.page (ethStatPage pn.val), .page (ethPage pn.val)] : List Scope) ++ airScopes) (([.ports, .frameNumbers,
          .ledger] : List Part) ++ airParts) s t)) ∧
  (∀ (pn : Fin 2) (size : Nat) (fcsOk : Bool) (codeError : Bool) (since stampAgo : Nat) (frame : EthFrame) (s : State),
      receptionOpen pn.val (s.now - since) s = true →
      begunDraining pn.val (s.now - since) s = false →
      pageState (ethPage pn.val) s = RUN →
      rd (F.ETH.STATUS_UP pn.val) s = 1 →
      fcsOk = false →
      64 ≤ size →
      size ≤ rd (F.ETH.MAX_FRAME pn.val) s →
      Calm s = true →
      Gives (.ethFrameEnd pn size fcsOk codeError since stampAgo frame) s (fun t =>
        (port pn.val t).staging = (port pn.val s).staging ∧
        rd (F.ETH.RX_FCS pn.val) t = (rd (F.ETH.RX_FCS pn.val) s + 1) % 2 ^ 32 ∧
        t.ledger = (s.nextFrame, .dropEthFcs) :: s.ledger ∧
        Within (([.page (ethStatPage pn.val), .page (ethPage pn.val)] : List Scope) ++ airScopes) (([.ports, .frameNumbers,
          .ledger] : List Part) ++ airParts) s t)) ∧
  (∀ (route : Route) (pn : Fin 2) (tx : Bool) (s : State),
      Gives (.ethOctetLoRead route pn tx) s (fun t =>
        t.readData = BitVec.ofNat 32 (if tx then (port pn.val s).txOctets else (port pn.val s).rxOctets) ∧
        (if tx then (port pn.val t).txOctets else (port pn.val t).rxOctets) = 0 ∧
        latchedWord route (ethPage pn.val) (if tx then 0x0C0 else 0x0B8) t = (if tx then (port pn.val s).txOctets else (port pn.val s).rxOctets) / 2 ^ 32 % 2 ^ 32 ∧
        (if tx then (port pn.val t).rxOctets = (port pn.val s).rxOctets else (port pn.val t).txOctets = (port pn.val s).txOctets) ∧
        Within [.word (ethPage pn.val) 0x0C0, .word (ethPage pn.val) 0x0B8, .word (ethPage pn.val) 0x0B4, .word (ethPage
          pn.val) 0x0BC] [.latched, .ports, .readData] s t)) ∧
  (∀ (route : Route) (pn : Fin 2) (counter : Fin 39) (s : State),
      Gives (.rmonLoRead route pn counter) s (fun t =>
        t.readData = BitVec.ofNat 32 (rmonCount pn.val counter.val s) ∧
        latchedWord route (ethStatPage pn.val) (0x104 + 8 * counter.val) t = rmonCount pn.val counter.val s / 2 ^ 32 ∧
        rmonCount pn.val counter.val t = rmonCount pn.val counter.val s ∧
        Within [.page (ethStatPage pn.val)] [.latched, .readData] s t))

/-- Egress queues, starts, ends and times out, and pause follows its timers and thresholds (R430, R431, R432, R433,
R434, R435, R436, R441, R443, R467). EGRESS_OFFER queues the oldest offered frame in RUN and ends it DROP_DISABLED
outside; EGRESS_FRAME_START sends a waiting PAUSE frame first, else the head of the queue, and a frame with a good
one-step request is rewritten with its timestamp; EGRESS_FRAME_END counts the frame and gives its disposition;
EGRESS_HOLD_TIMEOUT ends the frame held longest as DROP_RING_FULL; PAUSE_TIMER_EXPIRY ends the peer's pause; BUFFER_HIGH
pauses the peer, PAUSE_REPEAT repeats it, BUFFER_LOW releases it and PAUSE_MAX_HOLD gives up. -/
def Obligations.EgressAndPause : Prop :=
  (∀ (pn : Fin 2) (s : State) (x : Egress) (r : List Egress),
      (port pn.val s).offers = x :: r →
      pageState (ethPage pn.val) s = RUN →
      roleMuted s = false →
      Calm s = true →
      Gives (.egressOffer pn) s (fun t =>
        (port pn.val t).offers = r ∧
        (port pn.val t).queue = enqueueEgress { x with offered := s.now } (port pn.val s).queue ∧
        Within [.word 0x20 0x0D0, .word 0x20 0x0D4, .word 0x20 0x0D8, .word 0x20 0x0DC, .page 0x1B, .page 0x41, .word 0x4C
          0x014, .word 0x4C 0x050, .word 0x4C 0x04C, .word 0x4C 0x048, .word 0x4C 0x044] [.ports, .nodes, .ledger, .ddr,
          .rings, .notices] s t)) ∧
  (∀ (pn : Fin 2) (s : State) (x : Egress) (r : List Egress) (id : Nat),
      (port pn.val s).offers = x :: r →
      pageState (ethPage pn.val) s ≠ RUN →
      x.frames = [id] →
      x.fromSlot = none →
      Calm s = true →
      Gives (.egressOffer pn) s (fun t =>
        (port pn.val t).offers = r ∧
        (port pn.val t).queue = (port pn.val s).queue ∧
        t.ledger = (id, .dropDisabled) :: s.ledger ∧
        Within [.word 0x20 0x0D0, .word 0x20 0x0D4, .word 0x20 0x0D8, .word 0x20 0x0DC, .page 0x1B, .page 0x41, .word 0x4C
          0x014, .word 0x4C 0x050, .word 0x4C 0x04C, .word 0x4C 0x048, .word 0x4C 0x044] [.ports, .nodes, .ledger, .ddr,
          .rings, .notices] s t)) ∧
  (∀ (pn : Fin 2) (s : State) (x : Egress) (r : List Egress),
      (port pn.val s).busy = false →
      rd (F.ETH.STATUS_UP pn.val) s = 1 →
      (port pn.val s).pauseWait = none →
      pageState (ethPage pn.val) s = RUN ∨ pageState (ethPage pn.val) s = DRAINING →
      pausedByPeer pn.val s = false →
      roleMuted s = false →
      (port pn.val s).queue = x :: r →
      x.tsMode < 2 ∨ pageState 0x3D s ≠ RUN ∨ x.ptpType ≠ some (if x.tsMode = 2 then 0 else 3) →
      Calm s = true →
      Gives (.egressFrameStart pn) s (fun t =>
        (port pn.val t).busy = true ∧
        (port pn.val t).airFrame = some x ∧
        (port pn.val t).queue = r ∧
        Within [.page 0x3D] [.ports] s t)) ∧
  (∀ (pn : Fin 2) (s : State) (q : Nat),
      (port pn.val s).busy = false →
      rd (F.ETH.STATUS_UP pn.val) s = 1 →
      (port pn.val s).pauseWait = some q →
      Calm s = true →
      Gives (.egressFrameStart pn) s (fun t =>
        (port pn.val t).busy = true ∧
        (port pn.val t).airPause = some q ∧
        (port pn.val t).pauseWait = none ∧
        (port pn.val t).queue = (port pn.val s).queue ∧
        Within [.page 0x3D] [.ports] s t)) ∧
  (∀ (pn : Fin 2) (s : State) (x : Egress) (id : Nat),
      (port pn.val s).airPause = none →
      (port pn.val s).airFrame = some x →
      x.fromSlot = none →
      x.tsMode ≠ 1 →
      x.frames = [id] →
      Gives (.egressFrameEnd pn) s (fun t =>
        (port pn.val t).busy = false ∧
        (port pn.val t).airFrame = none ∧
        rd (F.ETH.TX_GOOD pn.val) t = (rd (F.ETH.TX_GOOD pn.val) s + 1) % 2 ^ 32 ∧
        (port pn.val t).txOctets = ((port pn.val s).txOctets + max 64 (x.octets + 4)) % 2 ^ 64 ∧
        t.ledger = (id, .okDelivered) :: s.ledger ∧
        Within (([.page (ethStatPage pn.val), .word (ethPage pn.val) 0x0B4, .word (ethPage pn.val) 0x0BC, .word (ethPage
          pn.val) 0x0A4, .word (ethPage pn.val) 0x0A0, .page 0x3D, .word 0x4C 0x014, .word 0x4C 0x050, .word 0x4C 0x04C,
          .word 0x4C 0x048, .word 0x4C 0x044, .word 0x20 0x0D0, .word 0x20 0x0D4, .word 0x20 0x0D8, .word 0x20 0x0DC, .page
          0x1B, .page 0x41] : List Scope) ++ airScopes) (([.ports, .notices, .nodes, .ledger, .ddr, .rings] : List Part) ++
          airParts) s t)) ∧
  (∀ (pn : Fin 2) (s : State) (x : Egress) (id : Nat),
      (port pn.val s).queue = [x] →
      x.fromSlot = none →
      x.frames = [id] →
      Gives (.egressHoldTimeout pn) s (fun t =>
        (port pn.val t).queue = [] ∧
        rd (F.ETH.TX_TIMEOUT pn.val) t = (rd (F.ETH.TX_TIMEOUT pn.val) s + 1) % 2 ^ 32 ∧
        t.ledger = (id, .dropRingFull) :: s.ledger ∧
        eventLatched (ethPage pn.val) 2 t ∧
        Within (([.word 0x20 0x0D0, .word 0x20 0x0D4, .word 0x20 0x0D8, .word 0x20 0x0DC, .page 0x1B, .page 0x41, .word 0x4C
          0x014, .word 0x4C 0x050, .word 0x4C 0x04C, .word 0x4C 0x048, .word 0x4C 0x044, .word (ethPage pn.val) 0x014, .word
          (ethPage pn.val) 0x0A8, .page (ethStatPage pn.val)] : List Scope) ++ airScopes) (([.ports, .nodes, .ledger, .ddr,
          .rings, .notices] : List Part) ++ airParts) s t)) ∧
  (∀ (pn : Fin 2) (s : State),
      Gives (.pauseTimerExpiry pn) s (fun t =>
        (port pn.val t).pauseEnd = none ∧
        rd (F.ETH.STATUS_PAUSED_BY_PEER pn.val) t = 0 ∧
        rd (F.ETH.PAUSE_REMAIN pn.val) t = 0 ∧
        Within [.word (ethPage pn.val) 0x070, .word (ethPage pn.val) 0x074] [.ports] s t)) ∧
  (∀ (pn : Fin 2) (s : State),
      rd (F.ETH.BUFFER_HIGH pn.val) s ≤ rd (F.ETH.BUFFER_LEVEL pn.val) s →
      pauseRules pn.val s = true →
      (pauseActive pn.val s).2 = true →
      rd (F.ETH.STATUS_PAUSE_GAVE_UP pn.val) s = 0 →
      rd (F.ETH.STATUS_PAUSING_PEER pn.val) s = 0 →
      Gives (.bufferHigh pn) s (fun t =>
        rd (F.ETH.BUFFER_LATCH pn.val) t = 1 ∧
        rd (F.ETH.STATUS_PAUSING_PEER pn.val) t = 1 ∧
        (port pn.val t).pauseWait = some (rd (F.ETH.PAUSE_TIME pn.val) s) ∧
        eventLatched (ethPage pn.val) 4 t ∧
        Within [.word (ethPage pn.val) 0x014, .word (ethPage pn.val) 0x06C, .word (ethPage pn.val) 0x070] [.ports] s t)) ∧
  (∀ (pn : Fin 2) (s : State),
      pauseRules pn.val s = true →
      rd (F.ETH.STATUS_PAUSING_PEER pn.val) s = 1 →
      rd (F.ETH.BUFFER_LOW pn.val) s < rd (F.ETH.BUFFER_LEVEL pn.val) s →
      (pauseActive pn.val s).2 = true →
      Gives (.pauseRepeat pn) s (fun t =>
        (port pn.val t).pauseWait = some (rd (F.ETH.PAUSE_TIME pn.val) s) ∧
        Within [] [.ports] s t)) ∧
  (∀ (pn : Fin 2) (s : State),
      rd (F.ETH.BUFFER_LEVEL pn.val) s ≤ rd (F.ETH.BUFFER_LOW pn.val) s →
      Gives (.bufferLow pn) s (fun t =>
        rd (F.ETH.STATUS_PAUSING_PEER pn.val) t = 0 ∧
        rd (F.ETH.STATUS_PAUSE_GAVE_UP pn.val) t = 0 ∧
        (rd (F.ETH.STATUS_PAUSING_PEER pn.val) s = 1 ∧ pauseRules pn.val s = true ∧ (pauseActive pn.val s).2 = true → (port
          pn.val t).pauseWait = some 0) ∧
        Within [.word (ethPage pn.val) 0x070] [.ports] s t)) ∧
  (∀ (pn : Fin 2) (s : State),
      rd (F.ETH.STATUS_PAUSING_PEER pn.val) s = 1 →
      rd (F.ETH.PAUSE_MAX_HOLD pn.val) s ≠ 0 →
      pauseRules pn.val s = true →
      Gives (.pauseMaxHold pn) s (fun t =>
        rd (F.ETH.STATUS_PAUSING_PEER pn.val) t = 0 ∧
        rd (F.ETH.STATUS_PAUSE_GAVE_UP pn.val) t = 1 ∧
        rd (F.ETH.PAUSE_GIVEUP pn.val) t = (rd (F.ETH.PAUSE_GIVEUP pn.val) s + 1) % 2 ^ 32 ∧
        Within [.word (ethPage pn.val) 0x070, .word (ethPage pn.val) 0x0B0] [.ports] s t)) ∧
  (∀ (pn : Fin 2) (s : State) (x : Egress) (r : List Egress),
      (port pn.val s).busy = false →
      rd (F.ETH.STATUS_UP pn.val) s = 1 →
      (port pn.val s).pauseWait = none →
      pageState (ethPage pn.val) s = RUN ∨ pageState (ethPage pn.val) s = DRAINING →
      pausedByPeer pn.val s = false →
      roleMuted s = false →
      (port pn.val s).queue = x :: r →
      2 ≤ x.tsMode →
      x.ptpType = some (if x.tsMode = 2 then 0 else 3) →
      pageState 0x3D s = RUN →
      Calm s = true →
      Gives (.egressFrameStart pn) s (fun t =>
        (port pn.val t).busy = true ∧
        (port pn.val t).airFrame = some { x with content := rewritten x (if x.tsMode = 2 then
            ⟨some ((port pn.val t).airStamp / 2 ^ 16), (((port pn.val t).airStamp % 2 ^ 16 : Nat) : Int)⟩
          else ⟨none, ((port pn.val t).airStamp : Int) - x.t2⟩) } ∧
        rd (F.PTP.TX_STAMPED pn.val) t = (rd (F.PTP.TX_STAMPED pn.val) s + 1) % 2 ^ 32 ∧
        (port pn.val t).queue = r ∧
        Within [.page 0x3D] [.ports] s t))

/-- Module presence, identification, diagnostics, loss of signal and host accesses (R422, R437, R438, R439, R442).
SFP_MOD_ABS_CHANGE shows presence and forgets a module that leaves; while no host access is in progress SFP_ID_READ
shows the identification and checks its sums, and SFP_DDM_POLL shows the diagnostics; SFP_LOS_CHANGE shows the loss,
which takes the link down where it is used; SFP_ACCESS starts an access; SFP_ACCESS_DONE ends it with its result;
SFP_NACK_RETRY tries again at most three times. -/
def Obligations.ModuleManagement : Prop :=
  (∀ (pn : Fin 2) (absent : Bool) (s : State),
      rd (F.ETH.SFP_CFG_ENABLE pn.val) s = 1 →
      absent = true →
      rd (F.ETH.SFP_STATUS_PRESENT pn.val) s = 1 →
      Gives (.sfpModAbsChange pn absent) s (fun t =>
        rd (F.ETH.SFP_STATUS_PRESENT pn.val) t = 0 ∧
        rd (F.ETH.SFP_STATUS_ID_VALID pn.val) t = 0 ∧
        rd (F.ETH.SFP_ID pn.val 23) t = 0 ∧
        eventLatched (ethPage pn.val) 3 t ∧
        Within (([.page (ethPage pn.val)] : List Scope) ++ airScopes) (([.ports] : List Part) ++ airParts) s t)) ∧
  (∀ (pn : Fin 2) (absent : Bool) (s : State),
      rd (F.ETH.SFP_CFG_ENABLE pn.val) s = 1 →
      absent = false →
      rd (F.ETH.SFP_STATUS_PRESENT pn.val) s = 0 →
      Gives (.sfpModAbsChange pn absent) s (fun t =>
        rd (F.ETH.SFP_STATUS_PRESENT pn.val) t = 1 ∧
        eventLatched (ethPage pn.val) 3 t ∧
        Within (([.page (ethPage pn.val)] : List Scope) ++ airScopes) (([.ports] : List Part) ++ airParts) s t)) ∧
  (∀ (pn : Fin 2) (octets : List Byte) (s : State),
      rd (F.ETH.SFP_CFG_ENABLE pn.val) s = 1 →
      rd (F.ETH.SFP_STATUS_PRESENT pn.val) s = 1 →
      rd (F.ETH.SFP_STATUS_BUSY pn.val) s = 0 →
      Gives (.sfpIdRead pn octets) s (fun t =>
        rd (F.ETH.SFP_STATUS_ID_VALID pn.val) t = (if (octets.getD 63 0).toNat = octetSum octets 0 63 ∧ (octets.getD 95 0).toNat = octetSum octets 64 95 then 1 else 0) ∧
        rd (F.ETH.SFP_STATUS_CC_BAD pn.val) t = 1 - rd (F.ETH.SFP_STATUS_ID_VALID pn.val) t ∧
        rd (F.ETH.SFP_ID pn.val 0) t = leBytes (octets.take 4) ∧
        eventLatched (ethPage pn.val) 3 t ∧
        Within (([.page (ethPage pn.val)] : List Scope) ++ airScopes) airParts s t)) ∧
  (∀ (pn : Fin 2) (octets : List Byte) (s : State),
      rd (F.ETH.SFP_CFG_ENABLE pn.val) s = 1 →
      rd (F.ETH.SFP_STATUS_DDM pn.val) s = 1 →
      rd (F.ETH.SFP_STATUS_BUSY pn.val) s = 0 →
      Gives (.sfpDdmPoll pn octets) s (fun t =>
        rd (F.ETH.SFP_DDM pn.val 0) t = leBytes (octets.take 4) ∧
        Within [.page (ethPage pn.val)] [] s t)) ∧
  (∀ (pn : Fin 2) (level : Bool) (s : State),
      rd (F.ETH.SFP_STATUS_LOS pn.val) s = 0 →
      level = true →
      Gives (.sfpLosChange pn level) s (fun t =>
        rd (F.ETH.SFP_STATUS_LOS pn.val) t = 1 ∧
        (port pn.val t).los = true ∧
        eventLatched (ethPage pn.val) 3 t ∧
        (rd (F.ETH.MODE_LOS_USE pn.val) s = 1 ∧ pageState (ethPage pn.val) s ≠ OFF → rd (F.ETH.STATUS_UP pn.val) t = 0 ∧ rd
          (F.ETH.STATUS_DOWN_REASON pn.val) t = 1) ∧
        Within (([.word (ethPage pn.val) 0x070, .word (ethPage pn.val) 0x074, .word (ethPage pn.val) 0x014, .word (ethPage
          pn.val) 0x078, .word (ethPage pn.val) 0x0AC, .word (ethPage pn.val) 0x0C8, .word 0x4C 0x014, .word 0x4C 0x050,
          .word 0x4C 0x04C, .word 0x4C 0x048, .word 0x4C 0x044, .word 0x20 0x0D0, .word 0x20 0x0D4, .word 0x20 0x0D8, .word
          0x20 0x0DC, .page 0x1B, .page 0x41, .page (ethStatPage pn.val)] : List Scope) ++ airScopes) (([.notices, .ports,
          .nodes, .ledger, .ddr, .rings] : List Part) ++ airParts) s t)) ∧
  (∀ (pn : Fin 2) (data : Word) (s : State),
      Accepted (0x38 + pn.val) 0x0CC data.toNat s →
      rd (F.ETH.SFP_STATUS_BUSY pn.val) s = 0 →
      rd (F.ETH.SFP_CFG_ENABLE pn.val) s = 1 →
      rd (F.ETH.SFP_STATUS_PRESENT pn.val) s = 1 →
      Gives (.sfpAccess pn data) s (fun t =>
        rd (F.ETH.SFP_STATUS_BUSY pn.val) t = 1 ∧
        (port pn.val t).access = some data ∧
        Within [.word (ethPage pn.val) 0x020, .word (ethPage pn.val) 0x024, .word (ethPage pn.val) 0x028, .word (ethPage
          pn.val) 0x014, .word (ethPage pn.val) 0x0C8] [.spi, .ports] s t)) ∧
  (∀ (pn : Fin 2) (nack : Bool) (timeout : Bool) (octet : Byte) (s : State) (w : Word),
      (port pn.val s).access = some w →
      Gives (.sfpAccessDone pn nack timeout octet) s (fun t =>
        rd (F.ETH.SFP_STATUS_BUSY pn.val) t = 0 ∧
        rd (F.ETH.SFP_STATUS_RESULT pn.val) t = (if timeout then 3 else if nack then 2 else 1) ∧
        (port pn.val t).access = none ∧
        rd (F.ETH.SFP_READ_DATA pn.val) t = (if timeout = false ∧ nack = false ∧ w.getLsbD 9 = false then octet.toNat else rd (F.ETH.SFP_READ_DATA pn.val) s) ∧
        Within [.word (ethPage pn.val) 0x0C8, .word (ethPage pn.val) 0x0D0] [.ports] s t)) ∧
  (∀ (pn : Fin 2) (s : State) (w : Word),
      (port pn.val s).access = some w →
      (port pn.val s).retries < 3 →
      Gives (.sfpNackRetry pn) s (fun t =>
        (port pn.val t).retries = (port pn.val s).retries + 1 ∧
        (port pn.val t).access = some w ∧
        Within [.word (ethPage pn.val) 0x0C8] [.ports] s t)) ∧
  (∀ (pn : Fin 2) (s : State) (w : Word),
      (port pn.val s).access = some w →
      3 ≤ (port pn.val s).retries →
      Gives (.sfpNackRetry pn) s (fun t =>
        rd (F.ETH.SFP_STATUS_RESULT pn.val) t = 2 ∧
        rd (F.ETH.SFP_STATUS_BUSY pn.val) t = 0 ∧
        (port pn.val t).access = none ∧
        Within [.word (ethPage pn.val) 0x0C8] [.ports] s t))

/-- The increment, snapshots, steps, holdover and the offset of mesh time (R450, R451, R452, R455, R459, R461).
INCR_HI_WRITE within 0.9995 to 1.0005 ns takes effect and ends holdover; outside it is rejected; TIME_NOW_READ,
MESH_NOW_READ and PPS_IN_TS_READ latch their times; TIME_SET loads device time and TIME_ADJUST moves it; both count a
step and set the time; HOLDOVER shows that steering has stopped; MESH_OFFSET_WRITE applies the staged offset. -/
def Obligations.TimeReadsAndSteps : Prop :=
  (∀ (route : Route) (data : Word) (s : State),
      reaches 0x3C route = true →
      refusal 0x3C 0x044 route data.toNat s = none →
      data.toNat < 4 →
      9995 * 2 ^ 32 ≤ (data.toNat * 2 ^ 32 + rd F.TIME.INCR_LO s) * 10000 →
      (data.toNat * 2 ^ 32 + rd F.TIME.INCR_LO s) * 10000 ≤ 10005 * 2 ^ 32 →
      Gives (.incrHiWrite route data) s (fun t =>
        t.clock.incr = data.toNat * 2 ^ 32 + rd F.TIME.INCR_LO s ∧
        rd F.TIME.INCR_HI t = data.toNat ∧
        rd F.TIME.STATUS_HOLDOVER t = 0 ∧
        t.clock.device = s.clock.device ∧
        Within [.word 0x3C 0x020, .word 0x3C 0x024, .word 0x3C 0x028, .word 0x3C 0x014, .word 0x3C 0x070, .word 0x3C 0x044]
          [.spi, .clock] s t)) ∧
  (∀ (route : Route) (data : Word) (s : State),
      reaches 0x3C route = true →
      data.toNat < 4 →
      10005 * 2 ^ 32 < (data.toNat * 2 ^ 32 + rd F.TIME.INCR_LO s) * 10000 →
      Gives (.incrHiWrite route data) s (fun t =>
        t.clock = s.clock ∧
        rd F.TIME.INCR_HI t = rd F.TIME.INCR_HI s ∧
        rd F.TIME.STATUS_HOLDOVER t = rd F.TIME.STATUS_HOLDOVER s ∧
        Within [.word 0x3C 0x020, .word 0x3C 0x024, .word 0x3C 0x028, .word 0x3C 0x014, .word 0x3C 0x070, .word 0x3C 0x044]
          [.spi, .clock] s t)) ∧
  (∀ (s : State),
      Gives .timeNowRead s (fun t =>
        t.readData.toNat = s.clock.device / 2 ^ 16 % 2 ^ 16 ∧
        rd F.TIME.NOW1 t = s.clock.device / 2 ^ 32 % 1000000000 ∧
        rd F.TIME.NOW2 t = s.clock.device / 2 ^ 32 / 1000000000 % 2 ^ 32 ∧
        rd F.TIME.NOW3 t = s.clock.device / 2 ^ 32 / 1000000000 / 2 ^ 32 % 2 ^ 16 ∧
        Within [.word 0x3C 0x048, .word 0x3C 0x04C, .word 0x3C 0x050, .word 0x3C 0x054] [.readData] s t)) ∧
  (∀ (s : State),
      Gives .meshNowRead s (fun t =>
        t.readData.toNat = (meshFine s % 2 ^ 80).toNat % 2 ^ 16 ∧
        rd F.TIME.MESH_NOW1 t = (meshFine s % 2 ^ 80).toNat / 2 ^ 16 % 2 ^ 32 ∧
        rd F.TIME.MESH_NOW2 t = (meshFine s % 2 ^ 80).toNat / 2 ^ 48 % 2 ^ 32 ∧
        Within [.word 0x3C 0x0CC, .word 0x3C 0x0D0, .word 0x3C 0x0D4] [.readData] s t)) ∧
  (∀ (s : State),
      Gives .ppsInTsRead s (fun t =>
        t.readData.toNat = s.clock.ppsStamp / 2 ^ 16 % 2 ^ 16 ∧
        rd F.TIME.PPS_IN_TS1 t = s.clock.ppsStamp / 2 ^ 32 % 1000000000 ∧
        rd F.TIME.PPS_IN_TS2 t = s.clock.ppsStamp / 2 ^ 32 / 1000000000 % 2 ^ 32 ∧
        Within [.word 0x3C 0x084, .word 0x3C 0x088, .word 0x3C 0x08C, .word 0x3C 0x090] [.readData] s t)) ∧
  (∀ (route : Route) (meshHold : Bool) (s : State),
      reaches 0x3C route = true →
      refusal 0x3C 0x06C route (if meshHold then 0x101 else 1) s = none →
      stepOutstanding s = false →
      Gives (.timeSet route meshHold) s (fun t =>
        t.clock.device = ((rd F.TIME.SET2 s + rd F.TIME.SET3 s * 2 ^ 32) * 1000000000 + rd F.TIME.SET1 s) * 2 ^ 32 + rd
          F.TIME.SET0 s * 2 ^ 16 ∧
        rd F.TIME.STATUS_UNSET t = 0 ∧
        rd F.TIME.STATUS_COARSE t = 0 ∧
        rd F.TIME.STEPS t = (rd F.TIME.STEPS s + 1) % 2 ^ 32 ∧
        eventLatched 0x3C 3 t ∧
        Within [.page 0x3C, .word 0x1A 0x0C8, .word 0x1A 0x014] [.spi, .clock] s t)) ∧
  (∀ (route : Route) (meshHold : Bool) (s : State),
      reaches 0x3C route = true →
      refusal 0x3C 0x06C route (if meshHold then 0x102 else 2) s = none →
      stepOutstanding s = false →
      Gives (.timeAdjust route meshHold) s (fun t =>
        (t.clock.device : Int) = ((s.clock.device : Int) + rdInt F.TIME.ADJ_NS s * 2 ^ 32) % (deviceSpan : Int) ∧
        rd F.TIME.STATUS_UNSET t = 0 ∧
        rd F.TIME.STATUS_COARSE t = rd F.TIME.STATUS_COARSE s ∧
        rd F.TIME.STEPS t = (rd F.TIME.STEPS s + 1) % 2 ^ 32 ∧
        eventLatched 0x3C 3 t ∧
        Within [.page 0x3C, .word 0x1A 0x0C8, .word 0x1A 0x014] [.spi, .clock] s t)) ∧
  (∀ (s : State),
      rd F.TIME.STATUS_UNSET s = 0 →
      rd F.TIME.STATUS_HOLDOVER s = 0 →
      Gives .holdover s (fun t =>
        rd F.TIME.STATUS_HOLDOVER t = 1 ∧
        eventLatched 0x3C 2 t ∧
        Within [.word 0x3C 0x014, .word 0x3C 0x070] [] s t)) ∧
  (∀ (data : Word) (s : State),
      Accepted 0x3C 0x0B4 data.toNat s →
      Gives (.meshOffsetWrite data) s (fun t =>
        t.clock.offset = toInt 64 (rd F.TIME.MESH_OFFSET_LO s + data.toNat * 2 ^ 32) ∧
        t.clock.device = s.clock.device ∧
        Within [.word 0x3C 0x0B0, .word 0x3C 0x0B4] [.clock] s t))

/-- Pulse per second in and out, and the queue of transmit timestamps (R457, R458, R468). PPS_IN_EDGE stamps and counts
an edge within tolerance and counts another as bad; PPS_IN_LOST reports a loss; PPS_OUT_PULSE begins a pulse,
PPS_OUT_PULSE_END ends it, a gate holds it back without time, and a pulse time passed again within 500 ms of a rising
edge starts none; TSQ_POP returns the last word of the head and removes it. -/
def Obligations.PulsesAndTimestamps : Prop :=
  (∀ (ago : Nat) (s : State),
      pageState 0x3C s = RUN →
      rd F.TIME.PPS_IN_CFG_ENABLE s = 1 →
      s.clock.ppsLast = none →
      Gives (.ppsInEdge ago) s (fun t =>
        rd F.TIME.PPS_IN_EDGES t = (rd F.TIME.PPS_IN_EDGES s + 1) % 2 ^ 32 ∧
        t.clock.ppsLast = some (advNs s - ago) ∧
        t.clock.ppsStamp = (deviceNs s - ago) * 2 ^ 32 ∧
        eventLatched 0x3C 0 t ∧
        Within [.word 0x3C 0x098, .word 0x3C 0x014, .word 0x3C 0x094] [.clock] s t)) ∧
  (∀ (ago : Nat) (s : State) (x : Nat),
      pageState 0x3C s = RUN →
      rd F.TIME.PPS_IN_CFG_ENABLE s = 1 →
      s.clock.ppsLast = some x →
      rd F.TIME.PPS_IN_CFG_TOL_US s * 1000 < Machine.dist (advNs s - ago - x) 1000000000 →
      Gives (.ppsInEdge ago) s (fun t =>
        rd F.TIME.PPS_IN_BAD t = (rd F.TIME.PPS_IN_BAD s + 1) % 2 ^ 32 ∧
        t.clock = s.clock ∧
        rd F.TIME.PPS_IN_EDGES t = rd F.TIME.PPS_IN_EDGES s ∧
        Within [.word 0x3C 0x098, .word 0x3C 0x014, .word 0x3C 0x094] [.clock] s t)) ∧
  (∀ (s : State),
      pageState 0x3C s = RUN →
      rd F.TIME.PPS_IN_CFG_ENABLE s = 1 →
      s.clock.ppsLost = false →
      Gives .ppsInLost s (fun t =>
        t.clock.ppsLost = true ∧
        t.clock.ppsLast = none ∧
        eventLatched 0x3C 1 t ∧
        Within [.word 0x3C 0x014] [.clock] s t)) ∧
  (∀ (s : State),
      pageState 0x3C s = RUN →
      rd F.TIME.PPS_OUT_CFG_ENABLE s = 1 →
      rd F.TIME.PPS_OUT_CFG_GATE s = 0 →
      s.clock.pulse = false →
      s.clock.pulseAt = none ∨ s.clock.top < s.clock.device →
      Gives .ppsOutPulse s (fun t =>
        t.clock.pulse = true ∧
        t.clock.pulseAt = some (advNs s) ∧
        Within [] [.clock] s t)) ∧
  (∀ (s : State),
      rd F.TIME.PPS_OUT_CFG_GATE s = 1 →
      rd F.TIME.STATUS_HOLDOVER s = 1 ∨ rd F.TIME.STATUS_UNSET s = 1 →
      Gives .ppsOutPulse s (fun t =>
        t.clock = s.clock ∧
        Within [] [.clock] s t)) ∧
  (∀ (s : State),
      Gives .ppsOutPulseEnd s (fun t =>
        t.clock.pulse = false ∧
        t.clock.pulseAt = s.clock.pulseAt ∧
        Within [] [.clock] s t)) ∧
  (∀ (pn : Fin 2) (s : State) (e : TsEntry) (r : List TsEntry),
      (port pn.val s).tsq = e :: r →
      Gives (.tsqPop pn) s (fun t =>
        (port pn.val t).tsq = r ∧
        t.readData.toNat = rd (F.PTP.TSQ pn.val 4) s ∧
        rd (F.PTP.TSQ_COUNT pn.val) t = r.length % 32 ∧
        Within [.page 0x3D] [.readData, .ports] s t)) ∧
  (∀ (s : State) (a : Nat),
      s.clock.pulseAt = some a →
      advNs s < a + 500000000 →
      s.clock.device ≤ s.clock.top →
      Gives .ppsOutPulse s (fun t =>
        t.clock = s.clock ∧
        Within [] [] s t))

/-- Function resets, the link, and the copy engine (R477, R481, R482, R499, R501, R503, R623). PCIE_FUNCTION_RESET
disables messages and ends a copy; PCIE_CONFIG_READY lets the function answer; PCIE_LINK shows the link and, where it
falls, ends a copy; COPY_TO_HOST and COPY_FROM_HOST start a copy; COPY_DONE completes it with its octets in the window,
COPY_CPL_TIMEOUT ends it; NOTICE_POP takes four notices; HOSTIF_WARM_RESET resets the device. -/
def Obligations.FunctionAndCopies : Prop :=
  (∀ (perst : Bool) (s : State),
      Calm s = true →
      Gives (.pcieFunctionReset perst) s (fun t =>
        t.msix.enabled = false ∧
        t.msix.link = s.msix.link ∧
        t.copy = none ∧
        (s.copy.isSome = true → rd F.HOSTIF.COPY_STATUS_RESULT t = CP_LINK_DOWN) ∧
        Within [.word 0x40 0x074, .word 0x40 0x078, .word 0x4C 0x014, .word 0x4C 0x050, .word 0x4C 0x04C, .word 0x4C 0x048,
          .word 0x4C 0x044] [.notices, .copy] s t)) ∧
  (∀ (s : State),
      Gives .pcieConfigReady s (fun t =>
        t.msix.answers = true ∧
        t.msix.enabled = s.msix.enabled ∧
        Within [] [] s t)) ∧
  (∀ (up : Bool) (speed : Nat) (width : Nat) (busMaster : Bool) (s : State),
      up = true →
      speed < 8 →
      width < 8 →
      Calm s = true →
      Gives (.pcieLink up speed width busMaster) s (fun t =>
        rd F.HOSTIF.LINK_UP t = 1 ∧
        rd F.HOSTIF.LINK_SPEED t = speed ∧
        t.msix.link = true ∧
        t.msix.master = busMaster ∧
        (rd F.HOSTIF.LINK_UP s = 0 → eventLatched 0x40 0 t) ∧
        Within [.word 0x40 0x040, .word 0x40 0x074, .word 0x40 0x078, .word 0x40 0x014, .word 0x04 0x06C, .word 0x4C 0x014,
          .word 0x4C 0x050, .word 0x4C 0x04C, .word 0x4C 0x048, .word 0x4C 0x044] [.notices, .copy] s t)) ∧
  (∀ (up : Bool) (speed : Nat) (width : Nat) (busMaster : Bool) (s : State),
      up = false →
      Calm s = true →
      Gives (.pcieLink up speed width busMaster) s (fun t =>
        rd F.HOSTIF.LINK_UP t = 0 ∧
        rd F.HOSTIF.LINK_WIDTH t = 0 ∧
        t.msix.link = false ∧
        t.copy = none ∧
        (rd F.HOSTIF.LINK_UP s ≠ 0 → eventLatched 0x40 0 t) ∧
        Within [.word 0x40 0x040, .word 0x40 0x074, .word 0x40 0x078, .word 0x40 0x014, .word 0x04 0x06C, .word 0x4C 0x014,
          .word 0x4C 0x050, .word 0x4C 0x04C, .word 0x4C 0x048, .word 0x4C 0x044] [.notices, .copy] s t)) ∧
  (∀ (s : State),
      Accepted 0x40 0x070 1 s →
      rd F.HOSTIF.COPY_WIN s + rd F.HOSTIF.COPY_LENGTH s ≤ 2 ^ 28 →
      pageState 0x40 s = RUN →
      rd F.HOSTIF.COPY_STATUS_BUSY s = 0 →
      ddrUp s = true →
      s.msix.master = true →
      s.msix.link = true →
      Calm s = true →
      Gives .copyToHost s (fun t =>
        rd F.HOSTIF.COPY_STATUS_BUSY t = 1 ∧
        t.copy = some { toHost := true, host := rd F.HOSTIF.COPY_HOST_LO s + rd F.HOSTIF.COPY_HOST_HI s * 2 ^ 32, win := rd F.HOSTIF.COPY_WIN s, len := rd F.HOSTIF.COPY_LENGTH s } ∧
        rd F.HOSTIF.COPY_DONE_OCTETS t = 0 ∧
        Within [.word 0x40 0x020, .word 0x40 0x024, .word 0x40 0x028, .word 0x40 0x014, .word 0x40 0x074, .word 0x40 0x078,
          .word 0x4C 0x014, .word 0x4C 0x050, .word 0x4C 0x04C, .word 0x4C 0x048, .word 0x4C 0x044] [.spi, .notices, .copy]
          s t)) ∧
  (∀ (s : State),
      Accepted 0x40 0x070 2 s →
      rd F.HOSTIF.COPY_WIN s + rd F.HOSTIF.COPY_LENGTH s ≤ 2 ^ 28 →
      pageState 0x40 s = RUN →
      rd F.HOSTIF.COPY_STATUS_BUSY s = 0 →
      ddrUp s = true →
      s.msix.master = true →
      s.msix.link = true →
      Calm s = true →
      Gives .copyFromHost s (fun t =>
        rd F.HOSTIF.COPY_STATUS_BUSY t = 1 ∧
        t.copy = some { toHost := false, host := rd F.HOSTIF.COPY_HOST_LO s + rd F.HOSTIF.COPY_HOST_HI s * 2 ^ 32, win := rd F.HOSTIF.COPY_WIN s, len := rd F.HOSTIF.COPY_LENGTH s } ∧
        rd F.HOSTIF.COPY_DONE_OCTETS t = 0 ∧
        Within [.word 0x40 0x020, .word 0x40 0x024, .word 0x40 0x028, .word 0x40 0x014, .word 0x40 0x074, .word 0x40 0x078,
          .word 0x4C 0x014, .word 0x4C 0x050, .word 0x4C 0x04C, .word 0x4C 0x048, .word 0x4C 0x044] [.spi, .notices, .copy]
          s t)) ∧
  (∀ (octets : List Byte) (moved : Nat) (s : State) (c : CopyOp),
      s.copy = some c →
      c.toHost = true →
      Calm s = true →
      Gives (.copyCplTimeout octets moved) s (fun t =>
        t.copy = none ∧
        rd F.HOSTIF.COPY_STATUS_RESULT t = CP_TIMEOUT ∧
        rd F.HOSTIF.COPY_STATUS_BUSY t = 0 ∧
        rd F.HOSTIF.CPL_TIMEOUTS t = (rd F.HOSTIF.CPL_TIMEOUTS s + 1) % 2 ^ 32 ∧
        eventLatched 0x40 1 t ∧
        Within [.word 0x40 0x074, .word 0x40 0x078, .word 0x40 0x014, .word 0x40 0x054, .word 0x4C 0x014, .word 0x4C 0x050,
          .word 0x4C 0x04C, .word 0x4C 0x048, .word 0x4C 0x044] [.ddr, .notices, .copy] s t)) ∧
  (∀ (how : CopyHow) (octets : List Byte) (moved : Nat) (s : State) (c : CopyOp),
      s.copy = some c →
      how = .complete →
      c.toHost = false →
      octets.length = c.len →
      c.len < 2 ^ 29 →
      Calm s = true →
      Gives (.copyDone how octets moved) s (fun t =>
        t.copy = none ∧
        rd F.HOSTIF.COPY_STATUS_RESULT t = CP_DONE ∧
        rd F.HOSTIF.COPY_DONE_OCTETS t = c.len ∧
        t.ddr = writeOctets s.ddr (winAddr c.win s) octets ∧
        Within [.word 0x40 0x074, .word 0x40 0x078, .word 0x4C 0x014, .word 0x4C 0x050, .word 0x4C 0x04C, .word 0x4C 0x048,
          .word 0x4C 0x044, .word 0x46 0x070, .word 0x46 0x014, .word 0x46 0x054, .word 0x46 0x058, .word 0x46 0x05C] [.ddr,
          .notices, .copy, .draws, .mem] s t)) ∧
  (∀ (s : State),
      Gives .noticePop s (fun t =>
        t.readData.toNat = (s.notices.getD 0 0 + s.notices.getD 1 0 * 65536) % 2 ^ 32 ∧
        t.notices = s.notices.drop 4 ∧
        rd F.NOTICE.POP_HI t = (s.notices.getD 2 0 + s.notices.getD 3 0 * 65536) % 2 ^ 32 ∧
        Within [.word 0x4C 0x084, .word 0x4C 0x044] [.readData, .notices] s t)) ∧
  (∀ (s : State),
      Accepted 0x40 0x058 0xC3A5 s →
      s.boot.held = false →
      resetNow s = false →
      Gives .hostifWarmReset s (fun t =>
        rd F.MGMT.START_RESET_KIND t = R_WARM ∧
        rd F.MGMT.START_WARM_SOURCE t = 2 ∧
        rd F.MGMT.START_STAGE t = 1 ∧
        t.boot.held = false ∧
        t.banks = s.banks ∧
        t.journal = s.journal ∧
        t.clock.device = s.clock.device ∧
        (∀ p ∈ List.range 4, pageState (fePage p) t = (if isRetired 3 p s then RETIRED else OFF))))

/-- Receive rings take packets, fill slots and time out, and the host reaches the window (R479, R484, R486, R487, R488,
R489, R490, R492, R493). BAR2_ACCESS reads the window and writes it outside the tally arrays of enabled rings, and a
write whose line the storage cipher failed stores nothing; RING_ENABLE frees every tally with lap 63 and starts at slot
0, pass 0; RING_HAND_OVER ends a packet whose ring is disabled, and claims the next slot for one whose slot is free;
RING_FILL_DONE gives the slot to the host and ends the packet as OK_DELIVERED; RING_TIMEOUT ends the packet that waited
as DROP_RING_FULL; HOST_TALLY_WRITE makes a change that R487 gives the host, and counts and keeps out another. -/
def Obligations.ReceiveRings : Prop :=
  (∀ (access : Bar2) (ecc : Ecc) (s : State) (off n : Nat),
      access = .read off n →
      ecc = .clean →
      pageState 0x40 s ≠ OFF →
      ddrUp s = true →
      rd F.DDR.FILL_STATE s ≠ 1 →
      Calm s = true →
      Gives (.bar2Access access ecc) s (fun t =>
        t.hostData = winRead off n s ∧
        t.hostPoison = false ∧
        t.ddr = s.ddr ∧
        Within [.word 0x40 0x04C, .word 0x40 0x014, .word 0x40 0x050, .word 0x44 0x054, .word 0x46 0x014, .word 0x46 0x050,
          .word 0x46 0x058, .word 0x46 0x05C, .word 0x46 0x070, .word 0x46 0x054, .word 0x42 0x044, .word 0x42 0x014, .word
          0x42 0x040, .word 0x42 0x04C, .word 0x42 0x048, .page 0x41, .word 0x4C 0x014, .word 0x4C 0x050, .word 0x4C 0x04C,
          .word 0x4C 0x048, .word 0x4C 0x044] [.hostData, .mem, .ddr, .notices, .rings] s t)) ∧
  (∀ (access : Bar2) (ecc : Ecc) (s : State) (off : Nat) (v : Byte),
      access = .write off [some v] →
      ecc ≠ .failed →
      pageState 0x40 s ≠ OFF →
      ddrUp s = true →
      selfRefresh s = false →
      rd F.DDR.FILL_STATE s ≠ 1 →
      inTestRow (winAddr off s) s = false →
      tallyRing off s = none →
      (List.range 16).all (fun r => !isSet (F.RINGS.RING_CFG_ENABLE r) s || (ring r s).waiting.isEmpty) = true →
      Calm s = true →
      Gives (.bar2Access access ecc) s (fun t =>
        t.ddr = writeByte s.ddr (winAddr off s) v ∧
        Within [.word 0x40 0x04C, .word 0x40 0x014, .word 0x40 0x050, .word 0x44 0x054, .word 0x46 0x014, .word 0x46 0x050,
          .word 0x46 0x058, .word 0x46 0x05C, .word 0x46 0x070, .word 0x46 0x054, .word 0x42 0x044, .word 0x42 0x014, .word
          0x42 0x040, .word 0x42 0x04C, .word 0x42 0x048, .page 0x41, .word 0x4C 0x014, .word 0x4C 0x050, .word 0x4C 0x04C,
          .word 0x4C 0x048, .word 0x4C 0x044] [.hostData, .mem, .ddr, .notices, .rings] s t)) ∧
  (∀ (ri : Fin 32) (s : State),
      Accepted 0x41 (0x100 + 0x20 * ri.val) ((wordRead 0x41 (0x100 + 0x20 * ri.val) .bar0 s ||| 1) % 2 ^ 32) s →
      rd (F.RINGS.RING_CFG_ENABLE ri.val) s = 0 →
      Calm s = true →
      Gives (.ringEnable ri) s (fun t =>
        rd (F.RINGS.RING_CFG_ENABLE ri.val) t = 1 ∧
        rd (F.RINGS.RING_POS_NEXT ri.val) t = 0 ∧
        rd (F.RINGS.RING_POS_LAP ri.val) t = 0 ∧
        t.ddr = writeOctets s.ddr (winAddr (tallyOff ri.val 0 s) s) (List.replicate (ringSize ri.val s) 0xFC) ∧
        rd (F.RINGS.RING_CFG_KIND ri.val) t = rd (F.RINGS.RING_CFG_KIND ri.val) s ∧
        Within [.page 0x41] [.ddr, .rings] s t)) ∧
  (∀ (ecc : Bool) (s : State) (x : Item) (rest : List Item) (r id : Nat),
      s.delivered = x :: rest →
      classRing x.cls s = r →
      r < 16 →
      rd (F.RINGS.RING_CFG_ENABLE r) s = 0 →
      x.frames = [id] →
      x.node = none →
      Calm s = true →
      Gives (.ringHandOver ecc) s (fun t =>
        t.delivered = rest ∧
        t.ledger = (id, .dropDisabled) :: s.ledger ∧
        Within [.word 0x20 0x0D0, .word 0x20 0x0D4, .word 0x20 0x0D8, .word 0x20 0x0DC, .page 0x1B, .page 0x41, .word 0x42
          0x04C, .word 0x42 0x014, .word 0x42 0x048, .word 0x4C 0x014, .word 0x4C 0x050, .word 0x4C 0x04C, .word 0x4C 0x048,
          .word 0x4C 0x044] [.delivered, .nodes, .ledger, .rings, .ddr, .notices] s t)) ∧
  (∀ (ecc : Bool) (s : State) (x : Item) (rest : List Item) (r : Nat),
      s.delivered = x :: rest →
      classRing x.cls s = r →
      r < 16 →
      pageState 0x41 s = RUN →
      rd (F.RINGS.RING_CFG_ENABLE r) s = 1 →
      ecc = false →
      (ring r s).waiting = [] →
      x.octets ≤ 4032 →
      1 ≤ ringSize r s →
      rd (F.RINGS.RING_POS_NEXT r) s < ringSize r s →
      tally r (rd (F.RINGS.RING_POS_NEXT r) s) s = (rd (F.RINGS.RING_POS_LAP r) s + 63) % 64 * 4 →
      Calm s = true →
      MemoryFormed s →
      ringFits r s = true →
      Gives (.ringHandOver ecc) s (fun t =>
        t.delivered = rest ∧
        (ring r t).waiting = [] ∧
        (ring r t).fills = (ring r s).fills ++ [{ slot := rd (F.RINGS.RING_POS_NEXT r) s, count := 1, laps := [rd (F.RINGS.RING_POS_LAP r) s % 64], item := { x with since := s.now } }] ∧
        tally r (rd (F.RINGS.RING_POS_NEXT r) s) t = T_DEVICE + rd (F.RINGS.RING_POS_LAP r) s % 64 * 4 ∧
        Within [.word 0x20 0x0D0, .word 0x20 0x0D4, .word 0x20 0x0D8, .word 0x20 0x0DC, .page 0x1B, .page 0x41, .word 0x42
          0x04C, .word 0x42 0x014, .word 0x42 0x048, .word 0x4C 0x014, .word 0x4C 0x050, .word 0x4C 0x04C, .word 0x4C 0x048,
          .word 0x4C 0x044] [.delivered, .nodes, .ledger, .rings, .ddr, .notices] s t)) ∧
  (∀ (ri : Fin 32) (payload : List Byte) (s : State) (f : Fill) (rest : List Fill) (l id : Nat),
      (Machine.ring ri.val s).fills = f :: rest →
      f.count = 1 →
      f.slot < ringSize ri.val s →
      f.laps = [l] →
      l < 64 →
      f.item.frames = [id] →
      f.item.node = none →
      ringFits ri.val s = true →
      Calm s = true →
      MemoryFormed s →
      Gives (.ringFillDone ri payload) s (fun t =>
        (Machine.ring ri.val t).fills = rest ∧
        tally ri.val f.slot t = T_HOST + l * 4 ∧
        t.ledger = (id, .okDelivered) :: s.ledger ∧
        rd (F.RINGS.PACKETS ri.val) t = (rd (F.RINGS.PACKETS ri.val) s + 1) % 2 ^ 32 ∧
        (Machine.ring ri.val t).seq = ((Machine.ring ri.val s).seq + 1) % 2 ^ 32 ∧
        Within [.page 0x41, .word 0x20 0x0D0, .word 0x20 0x0D4, .word 0x20 0x0D8, .word 0x20 0x0DC, .page 0x1B, .word 0x4C
          0x014, .word 0x4C 0x050, .word 0x4C 0x04C, .word 0x4C 0x048, .word 0x4C 0x044] [.ddr, .rings, .nodes, .ledger,
          .notices] s t)) ∧
  (∀ (ri : Fin 32) (s : State) (x : Item) (id : Nat),
      (Machine.ring ri.val s).waiting = [x] →
      x.frames = [id] →
      x.node = none →
      Calm s = true →
      Gives (.ringTimeout ri) s (fun t =>
        (Machine.ring ri.val t).waiting = [] ∧
        t.ledger = (id, .dropRingFull) :: s.ledger ∧
        rd (F.RINGS.FULL_DROPS ri.val) t = (rd (F.RINGS.FULL_DROPS ri.val) s + 1) % 2 ^ 32 ∧
        eventLatched 0x41 0 t ∧
        Within [.page 0x41, .word 0x20 0x0D0, .word 0x20 0x0D4, .word 0x20 0x0D8, .word 0x20 0x0DC, .page 0x1B, .word 0x42
          0x04C, .word 0x42 0x014, .word 0x42 0x048, .word 0x4C 0x014, .word 0x4C 0x050, .word 0x4C 0x04C, .word 0x4C 0x048,
          .word 0x4C 0x044] [.rings, .nodes, .ledger, .ddr, .notices] s t)) ∧
  (∀ (ri : Fin 32) (si : Nat) (octets : List (Option Byte)) (s : State) (v : Byte),
      pageState 0x40 s ≠ OFF →
      octets = [some v] →
      tallyRing (tallyOff ri.val si s) s = some ri.val →
      si < ringSize ri.val s →
      hostMay ri.val (tally ri.val si s) v.toNat = true →
      (List.range 16).all (fun r => (Machine.ring r s).waiting.isEmpty) = true →
      Calm s = true →
      MemoryFormed s →
      Gives (.hostTallyWrite ri si octets) s (fun t =>
        tally ri.val si t = v.toNat ∧
        t.ddr = writeByte s.ddr (winAddr (tallyOff ri.val si s) s) v ∧
        Within [.word 0x42 0x044, .word 0x42 0x014, .word 0x42 0x040, .word 0x42 0x04C, .word 0x42 0x048, .page 0x41, .word
          0x4C 0x014, .word 0x4C 0x050, .word 0x4C 0x04C, .word 0x4C 0x048, .word 0x4C 0x044] [.ddr, .notices, .rings] s t)) ∧
  (∀ (ri : Fin 32) (si : Nat) (octets : List (Option Byte)) (s : State) (v : Byte),
      pageState 0x40 s ≠ OFF →
      octets = [some v] →
      tallyRing (tallyOff ri.val si s) s = some ri.val →
      hostMay ri.val (tally ri.val si s) v.toNat = false →
      (List.range 16).all (fun r => (Machine.ring r s).waiting.isEmpty) = true →
      Calm s = true →
      Gives (.hostTallyWrite ri si octets) s (fun t =>
        t.ddr = s.ddr ∧
        rd F.TALLY.ILLEGAL t = (rd F.TALLY.ILLEGAL s + 1) % 2 ^ 32 ∧
        rd F.TALLY.ILLEGAL_LAST_VALUE t = v.toNat ∧
        eventLatched 0x42 0 t ∧
        Within [.word 0x42 0x044, .word 0x42 0x014, .word 0x42 0x040, .word 0x42 0x04C, .word 0x42 0x048, .page 0x41, .word
          0x4C 0x014, .word 0x4C 0x050, .word 0x4C 0x04C, .word 0x4C 0x048, .word 0x4C 0x044] [.ddr, .notices, .rings] s t)) ∧
  (∀ (access : Bar2) (ecc : Ecc) (s : State) (off : Nat) (octets : List (Option Byte)),
      access = .write off octets →
      ecc = .failed →
      pageState 0x40 s ≠ OFF →
      ddrUp s = true →
      selfRefresh s = false →
      rd F.DDR.FILL_STATE s ≠ 1 →
      inTestRow (winAddr (off + octets.length - 1) s) s = false →
      Calm s = true →
      Gives (.bar2Access access ecc) s (fun t =>
        t.ddr = s.ddr ∧
        Within [.word 0x40 0x04C, .word 0x40 0x014, .word 0x40 0x050, .word 0x44 0x054, .word 0x46 0x014, .word 0x46 0x050,
          .word 0x46 0x058, .word 0x46 0x05C, .word 0x46 0x070, .word 0x46 0x054, .word 0x42 0x044, .word 0x42 0x014, .word
          0x42 0x040, .word 0x42 0x04C, .word 0x42 0x048, .page 0x41, .word 0x4C 0x014, .word 0x4C 0x050, .word 0x4C 0x04C,
          .word 0x4C 0x048, .word 0x4C 0x044] [.hostData, .mem, .ddr, .notices, .rings] s t))

/-- A transmit slot is passed, poisoned or taken by its tally, its pass and its checks (R489, R494, R495, R496).
TX_SLOT_TAKE passes a POISON slot, poisons one with the wrong pass, and takes a good one, whose frame is offered to its
port. -/
def Obligations.TransmitSlots : Prop :=
  (∀ (ri : Fin 32) (lost : SlotLoss) (s : State),
      16 ≤ ri.val →
      pageState 0x41 s = RUN →
      rd (F.RINGS.RING_CFG_ENABLE ri.val) s = 1 →
      lost = .none →
      tally ri.val (rd (F.RINGS.RING_POS_NEXT ri.val) s) s % 4 = T_POISON →
      1 ≤ ringSize ri.val s →
      ringSize ri.val s ≤ 4096 →
      rd (F.RINGS.RING_POS_NEXT ri.val) s < ringSize ri.val s →
      Calm s = true →
      Gives (.txSlotTake ri lost) s (fun t =>
        rd (F.RINGS.RING_POS_NEXT ri.val) t = (rd (F.RINGS.RING_POS_NEXT ri.val) s + 1) % ringSize ri.val s ∧
        t.ddr = s.ddr ∧
        Within (([.page 0x41, .word 0x42 0x04C, .word 0x42 0x014, .word 0x42 0x048, .word 0x4C 0x014, .word 0x4C 0x050,
          .word 0x4C 0x04C, .word 0x4C 0x048, .word 0x4C 0x044, .word 0x46 0x070, .word 0x46 0x014, .word 0x46 0x054, .word
          0x46 0x058, .word 0x46 0x05C, .word 0x20 0x0D0, .word 0x20 0x0D4, .word 0x20 0x0D8, .word 0x20 0x0DC, .page 0x1B,
          .page 0x21, .word 0x22 0x078, .word 0x22 0x05C, .page 0x24, .page 0x25, .page 0x26, .page 0x27, .word 0x19 0x0B4,
          .word 0x0C 0x014, .word 0x0C 0x04C] : List Scope) ++ airScopes) (([.ddr, .notices, .draws, .mem, .rings,
          .frameNumbers, .ports, .nodes, .ledger, .delivered, .frames, .duty] : List Part) ++ airParts) s t)) ∧
  (∀ (ri : Fin 32) (lost : SlotLoss) (s : State),
      16 ≤ ri.val →
      pageState 0x41 s = RUN →
      rd (F.RINGS.RING_CFG_ENABLE ri.val) s = 1 →
      lost = .none →
      tally ri.val (rd (F.RINGS.RING_POS_NEXT ri.val) s) s % 4 = T_DEVICE →
      slotHeld ri.val (rd (F.RINGS.RING_POS_NEXT ri.val) s) s = false →
      tally ri.val (rd (F.RINGS.RING_POS_NEXT ri.val) s) s / 4 ≠ rd (F.RINGS.RING_POS_LAP ri.val) s →
      1 ≤ ringSize ri.val s →
      rd (F.RINGS.RING_POS_NEXT ri.val) s < ringSize ri.val s →
      Calm s = true →
      MemoryFormed s →
      Gives (.txSlotTake ri lost) s (fun t =>
        tally ri.val (rd (F.RINGS.RING_POS_NEXT ri.val) s) t % 4 = T_POISON ∧
        rd F.TALLY.POISONED t = (rd F.TALLY.POISONED s + 1) % 2 ^ 32 ∧
        rd F.TALLY.POISON_LAST_CAUSE t = 1 ∧
        eventLatched 0x42 0 t ∧
        Within (([.page 0x41, .word 0x42 0x04C, .word 0x42 0x014, .word 0x42 0x048, .word 0x4C 0x014, .word 0x4C 0x050,
          .word 0x4C 0x04C, .word 0x4C 0x048, .word 0x4C 0x044, .word 0x46 0x070, .word 0x46 0x014, .word 0x46 0x054, .word
          0x46 0x058, .word 0x46 0x05C, .word 0x20 0x0D0, .word 0x20 0x0D4, .word 0x20 0x0D8, .word 0x20 0x0DC, .page 0x1B,
          .page 0x21, .word 0x22 0x078, .word 0x22 0x05C, .page 0x24, .page 0x25, .page 0x26, .page 0x27, .word 0x19 0x0B4,
          .word 0x0C 0x014, .word 0x0C 0x04C] : List Scope) ++ airScopes) (([.ddr, .notices, .draws, .mem, .rings,
          .frameNumbers, .ports, .nodes, .ledger, .delivered, .frames, .duty] : List Part) ++ airParts) s t)) ∧
  (∀ (ri : Fin 32) (lost : SlotLoss) (s : State) (i n : Nat) (x : Egress),
      16 ≤ ri.val →
      pageState 0x41 s = RUN →
      rd (F.RINGS.RING_CFG_ENABLE ri.val) s = 1 →
      lost = .none →
      tally ri.val (rd (F.RINGS.RING_POS_NEXT ri.val) s) s % 4 = T_DEVICE →
      slotHeld ri.val (rd (F.RINGS.RING_POS_NEXT ri.val) s) s = false →
      tally ri.val (rd (F.RINGS.RING_POS_NEXT ri.val) s) s / 4 = rd (F.RINGS.RING_POS_LAP ri.val) s →
      rd (F.RINGS.RING_POS_NEXT ri.val) s = i →
      i < ringSize ri.val s →
      chainLength ri.val i s = 1 →
      slotLengths ri.val i s = true →
      rd (F.RINGS.RING_CFG_KIND ri.val) s = 0 →
      ethSlot ri.val i (hdr (slotHeader ri.val i s) 0 4 % 2 ^ 14) (slotHeader ri.val i s) (slotPayload ri.val i (hdr
        (slotHeader ri.val i s) 0 4 % 2 ^ 14) s) s = some (n, x) →
      bufferFits (hdr (slotHeader ri.val i s) 0 4 % 2 ^ 14) s = true →
      Calm s = true →
      Gives (.txSlotTake ri lost) s (fun t =>
        (port n t).offers = (port n s).offers ++ [{ x with frames := [s.nextFrame] }] ∧
        slotHeld ri.val i t = true ∧
        rd (F.RINGS.PACKETS ri.val) t = (rd (F.RINGS.PACKETS ri.val) s + 1) % 2 ^ 32 ∧
        t.nextFrame = s.nextFrame + 1 ∧
        t.ddr = s.ddr ∧
        Within (([.page 0x41, .word 0x42 0x04C, .word 0x42 0x014, .word 0x42 0x048, .word 0x4C 0x014, .word 0x4C 0x050,
          .word 0x4C 0x04C, .word 0x4C 0x048, .word 0x4C 0x044, .word 0x46 0x070, .word 0x46 0x014, .word 0x46 0x054, .word
          0x46 0x058, .word 0x46 0x05C, .word 0x20 0x0D0, .word 0x20 0x0D4, .word 0x20 0x0D8, .word 0x20 0x0DC, .page 0x1B,
          .page 0x21, .word 0x22 0x078, .word 0x22 0x05C, .page 0x24, .page 0x25, .page 0x26, .page 0x27, .word 0x19 0x0B4,
          .word 0x0C 0x014, .word 0x0C 0x04C] : List Scope) ++ airScopes) (([.ddr, .notices, .draws, .mem, .rings,
          .frameNumbers, .ports, .nodes, .ledger, .delivered, .frames, .duty] : List Part) ++ airParts) s t))

/-- DDR alerts, scrubbing, training, filling and flash time-outs are counted and recorded (R512, R515, R517, R518, R520,
R521, R523, R527). DDR_ALERT counts the retry, and a second failure is an uncorrectable line; SRAM_SCRUB_PASS counts the
pass, whatever it finds, and each corrected location; DDR_SCRUB decodes the line at the position, counts a correction or
an uncorrectable line and moves on; outside RUN, without trained DDR or in self-refresh neither moves; FILL_CHUNK_DONE
adds the chunk and takes the next, or ends the fill; DDR_TRAINING_DONE puts DDR into RUN with its size, and a first
failure trains again; FLASH_TIMEOUT is recorded with its sector. -/
def Obligations.DdrAndFlash : Prop :=
  (∀ (addr : Fin 17179869184) (again : Bool) (s : State),
      Calm s = true →
      Gives (.ddrAlert addr again) s (fun t =>
        rd F.DDR.CA_RETRIES t = (rd F.DDR.CA_RETRIES s + 1) % 2 ^ 32 ∧
        rd F.MEMINT.DDR_UE_COUNT t = (rd F.MEMINT.DDR_UE_COUNT s + (if again then 1 else 0)) % 2 ^ 32 ∧
        (again = true → eventLatched 0x46 1 t) ∧
        Within [.word 0x46 0x070, .word 0x46 0x014, .word 0x46 0x054, .word 0x46 0x058, .word 0x46 0x05C, .word 0x44 0x05C]
          [.draws, .mem] s t)) ∧
  (∀ (finds : List SramFind) (s : State),
      pageState 0x46 s = RUN →
      finds = [] →
      Gives (.sramScrubPass finds) s (fun t =>
        rd F.MEMINT.SCRUB_SRAM_PASSES t = (rd F.MEMINT.SCRUB_SRAM_PASSES s + 1) % 2 ^ 16 ∧
        rd F.MEMINT.SRAM_CE_COUNT t = rd F.MEMINT.SRAM_CE_COUNT s ∧
        Within (([.word 0x46 0x04C, .word 0x46 0x014, .word 0x46 0x064, .word 0x46 0x068, .word 0x46 0x060, .word 0x46
          0x06C, .word 0x46 0x070, .word 0x20 0x0D0, .word 0x20 0x0D4, .word 0x20 0x0D8, .word 0x20 0x0DC, .word 0x20
          0x0C8, .word 0x20 0x0CC, .word 0x20 0x058, .page 0x1B, .page 0x24, .page 0x25, .page 0x26, .page 0x27, .word
          0x19 0x0B4, .word 0x19 0x0A4, .word 0x19 0x0A8, .word 0x19 0x0AC, .word 0x19 0x0B0, .word 0x19 0x0B8, .word 0x21
          0x050, .word 0x21 0x04C, .page 0x31, .page 0x10, .word 0x08 0x05C, .word 0x08 0x04C, .word 0x08 0x030, .word
          0x08 0x014, .word 0x08 0x00C, .word 0x08 0x078, .word 0x09 0x05C, .word 0x09 0x04C, .word 0x09 0x030, .word 0x09
          0x014, .word 0x09 0x00C, .word 0x09 0x078, .word 0x0A 0x05C, .word 0x0A 0x04C, .word 0x0A 0x030, .word 0x0A
          0x014, .word 0x0A 0x00C, .word 0x0A 0x078, .word 0x0B 0x05C, .word 0x0B 0x04C, .word 0x0B 0x030, .word 0x0B
          0x014, .word 0x0B 0x00C, .word 0x0B 0x050, .word 0x0B 0x078, .word 0x30 0x014, .word 0x30 0x0A8, .word 0x30
          0x098, .word 0x30 0x0B8, .word 0x30 0x084, .word 0x30 0x0BC, .page 0x41, .word 0x4C 0x014, .word 0x4C 0x050,
          .word 0x4C 0x04C, .word 0x4C 0x048, .word 0x4C 0x044, .word 0x22 0x054, .word 0x22 0x050, .word 0x22 0x058,
          .page 0x11, .page 0x05, .word 0x18 0x0C4, .word 0x18 0x014, .word 0x18 0x0C0, .page 0x0C, .page 0x80, .word 0x32
          0x0A8, .word 0x32 0x014, .page 0x33, .word 0x40 0x074, .word 0x40 0x078, .page 0x29, .page 0x3A, .page 0x3B,
          .word 0x38 0x0AC, .word 0x39 0x0AC, .word 0x45 0x04C, .word 0x45 0x014, .word 0x45 0x048, .word 0x48 0x04C,
          .word 0x48 0x078, .word 0x48 0x080, .word 0x48 0x07C, .word 0x48 0x068, .word 0x48 0x070, .word 0x48 0x088,
          .word 0x48 0x084, .word 0x4A 0x058, .word 0x4A 0x050, .word 0x4A 0x014, .page 0x4E, .word 0x02 0x014, .word 0x02
          0x010, .word 0x03 0x014, .word 0x03 0x010, .word 0x44 0x050, .word 0x3C 0x070, .word 0x3C 0x014, .word 0x00
          0x058, .word 0x00 0x05C, .word 0x30 0x088, .word 0x30 0x0B0] : List Scope) ++ headScopes ++ airScopes)
          (([.nodes, .frames, .duty, .ledger, .fes, .slots, .delivered, .rings, .ddr, .notices, .ports, .reasm, .cache,
          .lanes, .poolTest, .keyOp, .jobs, .copy, .relief, .scheds, .campaigns, .frameNumbers, .clock, .fw, .rope, .boot,
          .jtag, .watch, .wear, .root, .engines, .mem, .draws] : List Part) ++ airParts) s t)) ∧
  (∀ (finds : List SramFind) (s : State) (i : Fin 262144) (o : Nat),
      pageState 0x46 s = RUN →
      finds = [{ place := .core i false, off := o, again := none }] →
      o < 2 ^ 24 →
      Gives (.sramScrubPass finds) s (fun t =>
        rd F.MEMINT.SCRUB_SRAM_PASSES t = (rd F.MEMINT.SCRUB_SRAM_PASSES s + 1) % 2 ^ 16 ∧
        rd F.MEMINT.SRAM_CE_COUNT t = (rd F.MEMINT.SRAM_CE_COUNT s + 1) % 2 ^ 32 ∧
        rd F.MEMINT.SRAM_LAST_OFFSET t = o ∧
        eventLatched 0x46 2 t ∧
        Within (([.word 0x46 0x04C, .word 0x46 0x014, .word 0x46 0x064, .word 0x46 0x068, .word 0x46 0x060, .word 0x46
          0x06C, .word 0x46 0x070, .word 0x20 0x0D0, .word 0x20 0x0D4, .word 0x20 0x0D8, .word 0x20 0x0DC, .word 0x20
          0x0C8, .word 0x20 0x0CC, .word 0x20 0x058, .page 0x1B, .page 0x24, .page 0x25, .page 0x26, .page 0x27, .word
          0x19 0x0B4, .word 0x19 0x0A4, .word 0x19 0x0A8, .word 0x19 0x0AC, .word 0x19 0x0B0, .word 0x19 0x0B8, .word 0x21
          0x050, .word 0x21 0x04C, .page 0x31, .page 0x10, .word 0x08 0x05C, .word 0x08 0x04C, .word 0x08 0x030, .word
          0x08 0x014, .word 0x08 0x00C, .word 0x08 0x078, .word 0x09 0x05C, .word 0x09 0x04C, .word 0x09 0x030, .word 0x09
          0x014, .word 0x09 0x00C, .word 0x09 0x078, .word 0x0A 0x05C, .word 0x0A 0x04C, .word 0x0A 0x030, .word 0x0A
          0x014, .word 0x0A 0x00C, .word 0x0A 0x078, .word 0x0B 0x05C, .word 0x0B 0x04C, .word 0x0B 0x030, .word 0x0B
          0x014, .word 0x0B 0x00C, .word 0x0B 0x050, .word 0x0B 0x078, .word 0x30 0x014, .word 0x30 0x0A8, .word 0x30
          0x098, .word 0x30 0x0B8, .word 0x30 0x084, .word 0x30 0x0BC, .page 0x41, .word 0x4C 0x014, .word 0x4C 0x050,
          .word 0x4C 0x04C, .word 0x4C 0x048, .word 0x4C 0x044, .word 0x22 0x054, .word 0x22 0x050, .word 0x22 0x058,
          .page 0x11, .page 0x05, .word 0x18 0x0C4, .word 0x18 0x014, .word 0x18 0x0C0, .page 0x0C, .page 0x80, .word 0x32
          0x0A8, .word 0x32 0x014, .page 0x33, .word 0x40 0x074, .word 0x40 0x078, .page 0x29, .page 0x3A, .page 0x3B,
          .word 0x38 0x0AC, .word 0x39 0x0AC, .word 0x45 0x04C, .word 0x45 0x014, .word 0x45 0x048, .word 0x48 0x04C,
          .word 0x48 0x078, .word 0x48 0x080, .word 0x48 0x07C, .word 0x48 0x068, .word 0x48 0x070, .word 0x48 0x088,
          .word 0x48 0x084, .word 0x4A 0x058, .word 0x4A 0x050, .word 0x4A 0x014, .page 0x4E, .word 0x02 0x014, .word 0x02
          0x010, .word 0x03 0x014, .word 0x03 0x010, .word 0x44 0x050, .word 0x3C 0x070, .word 0x3C 0x014, .word 0x00
          0x058, .word 0x00 0x05C, .word 0x30 0x088, .word 0x30 0x0B0] : List Scope) ++ headScopes ++ airScopes)
          (([.nodes, .frames, .duty, .ledger, .fes, .slots, .delivered, .rings, .ddr, .notices, .ports, .reasm, .cache,
          .lanes, .poolTest, .keyOp, .jobs, .copy, .relief, .scheds, .campaigns, .frameNumbers, .clock, .fw, .rope, .boot,
          .jtag, .watch, .wear, .root, .engines, .mem, .draws] : List Part) ++ airParts) s t)) ∧
  (∀ (ecc : Ecc) (s : State) (y : Byte),
      pageState 0x46 s = RUN →
      ddrUp s = true →
      selfRefresh s = false →
      inTestRow (scrubAt s) s = false →
      rd F.DDR.FILL_STATE s ≠ 1 ∨ s.mem.filled.contains (chunkOf (scrubAt s)) = true →
      ecc = .corrected y →
      Calm s = true →
      Gives (.ddrScrub ecc) s (fun t =>
        rd F.MEMINT.DDR_CE_COUNT t = (rd F.MEMINT.DDR_CE_COUNT s + 1) % 2 ^ 32 ∧
        rd F.MEMINT.DDR_LAST_SYNDROME t = y.toNat ∧
        rd F.MEMINT.SCRUB_DDR_POS t = (if ddrSize s ≤ scrubAt s + 64 then 0 else rd F.MEMINT.SCRUB_DDR_POS s + 1) ∧
        eventLatched 0x46 0 t ∧
        Within [.word 0x46 0x044, .word 0x46 0x048, .word 0x46 0x014, .word 0x46 0x050, .word 0x46 0x058, .word 0x46 0x05C,
          .word 0x46 0x070, .word 0x46 0x054] [.mem] s t)) ∧
  (∀ (s : State) (c : Nat),
      s.mem.filling = some c →
      s.mem.stalls = [] →
      Calm s = true →
      Gives .fillChunkDone s (fun t =>
        t.mem.filled = s.mem.filled ++ [c] ∧
        t.mem.filling = nextChunk { s with mem := { s.mem with filled := s.mem.filled ++ [c], filling := none } } ∧
        (t.mem.filling = none → rd F.DDR.FILL_STATE t = 2 ∧ eventLatched 0x44 0 t) ∧
        Within [.word 0x46 0x014, .word 0x46 0x050, .word 0x46 0x058, .word 0x46 0x05C, .word 0x46 0x070, .word 0x46 0x054,
          .word 0x40 0x04C, .word 0x40 0x014, .word 0x40 0x050, .word 0x42 0x044, .word 0x42 0x014, .word 0x42 0x040, .word
          0x42 0x04C, .word 0x42 0x048, .page 0x41, .word 0x4C 0x014, .word 0x4C 0x050, .word 0x4C 0x04C, .word 0x4C 0x048,
          .word 0x4C 0x044, .word 0x44 0x058, .word 0x44 0x050, .word 0x44 0x014] [.mem, .hostData, .ddr, .notices, .rings]
          s t)) ∧
  (∀ (ok : Bool) (sizeGib : Nat) (twoRanks : Bool) (s : State),
      rd F.MGMT.START_STAGE s = 6 →
      pageState 0x44 s = STARTING →
      ok = true →
      Gives (.ddrTrainingDone ok sizeGib twoRanks) s (fun t =>
        pageState 0x44 t = RUN ∧
        rd F.DDR.SIZE_GIB t = max 2 (min 16 sizeGib) ∧
        rd F.DDR.RANKS t = (if twoRanks then 1 else 0) ∧
        Within (([.word 0x44 0x040, .word 0x44 0x044, .word 0x44 0x050, .word 0x44 0x014, .word 0x44 0x00C, .word 0x44
          0x030, .page 0x10, .word 0x08 0x05C, .word 0x08 0x04C, .word 0x08 0x030, .word 0x08 0x014, .word 0x08 0x078,
          .word 0x09 0x05C, .word 0x09 0x04C, .word 0x09 0x030, .word 0x09 0x014, .word 0x09 0x078, .word 0x0A 0x05C,
          .word 0x0A 0x04C, .word 0x0A 0x030, .word 0x0A 0x014, .word 0x0A 0x078, .word 0x0B 0x05C, .word 0x0B 0x04C,
          .word 0x0B 0x050, .word 0x0B 0x030, .word 0x0B 0x014, .word 0x0B 0x078, .word 0x38 0x070, .word 0x38 0x074,
          .word 0x38 0x014, .word 0x38 0x078, .word 0x38 0x0AC, .word 0x39 0x070, .word 0x39 0x074, .word 0x39 0x014,
          .word 0x39 0x078, .word 0x39 0x0AC, .word 0x4C 0x014, .word 0x4C 0x050, .word 0x4C 0x04C, .word 0x4C 0x048,
          .word 0x4C 0x044, .word 0x20 0x0D0, .word 0x20 0x0D4, .word 0x20 0x0D8, .word 0x20 0x0DC, .word 0x20 0x058,
          .page 0x1B, .page 0x41, .page 0x3A, .page 0x3B, .page 0x3D, .page 0x31, .page 0x24, .page 0x25, .page 0x26,
          .page 0x27, .word 0x19 0x0B4, .word 0x19 0x0A4, .word 0x19 0x0A8, .word 0x19 0x0AC, .word 0x19 0x0B0, .word 0x19
          0x0B8, .word 0x21 0x050, .word 0x21 0x04C, .page 0x11, .word 0x22 0x054, .word 0x22 0x050, .word 0x22 0x058,
          .page 0x29, .word 0x0C 0x014, .word 0x0C 0x04C, .page 0x80, .word 0x30 0x0B8, .word 0x30 0x014, .word 0x30
          0x0BC, .word 0x32 0x0A8, .word 0x32 0x014, .page 0x33, .word 0x40 0x074, .word 0x40 0x078, .word 0x45 0x04C,
          .word 0x45 0x014, .word 0x45 0x048, .word 0x48 0x04C, .word 0x48 0x050, .word 0x48 0x054, .word 0x48 0x058,
          .word 0x48 0x05C, .word 0x48 0x060, .word 0x48 0x064, .word 0x4A 0x058, .word 0x4A 0x050, .word 0x4A 0x014,
          .word 0x00 0x058, .word 0x4E 0x060, .word 0x4E 0x068, .word 0x4E 0x064, .word 0x03 0x04C, .word 0x05 0x014,
          .word 0x05 0x06C, .word 0x46 0x070] : List Scope) ++ headScopes ++ airScopes) (([.fes, .notices, .ports, .nodes,
          .ledger, .ddr, .rings, .duty, .frames, .lanes, .scheds, .relief, .reasm, .campaigns, .frameNumbers, .keyOp,
          .jobs, .clock, .copy, .fw, .rope, .root, .boot, .poolTest, .delivered, .wear, .mem, .meters, .tracks, .peers] :
          List Part) ++ airParts) s t)) ∧
  (∀ (ok : Bool) (sizeGib : Nat) (twoRanks : Bool) (s : State),
      rd F.MGMT.START_STAGE s = 6 →
      pageState 0x44 s = STARTING →
      ok = false →
      s.boot.trains = 0 →
      Gives (.ddrTrainingDone ok sizeGib twoRanks) s (fun t =>
        pageState 0x44 t = STARTING ∧
        t.boot.trains = 1 ∧
        rd F.MGMT.START_STAGE t = 6 ∧
        Within (([.word 0x44 0x040, .word 0x44 0x044, .word 0x44 0x050, .word 0x44 0x014, .word 0x44 0x00C, .word 0x44
          0x030, .page 0x10, .word 0x08 0x05C, .word 0x08 0x04C, .word 0x08 0x030, .word 0x08 0x014, .word 0x08 0x078,
          .word 0x09 0x05C, .word 0x09 0x04C, .word 0x09 0x030, .word 0x09 0x014, .word 0x09 0x078, .word 0x0A 0x05C,
          .word 0x0A 0x04C, .word 0x0A 0x030, .word 0x0A 0x014, .word 0x0A 0x078, .word 0x0B 0x05C, .word 0x0B 0x04C,
          .word 0x0B 0x050, .word 0x0B 0x030, .word 0x0B 0x014, .word 0x0B 0x078, .word 0x38 0x070, .word 0x38 0x074,
          .word 0x38 0x014, .word 0x38 0x078, .word 0x38 0x0AC, .word 0x39 0x070, .word 0x39 0x074, .word 0x39 0x014,
          .word 0x39 0x078, .word 0x39 0x0AC, .word 0x4C 0x014, .word 0x4C 0x050, .word 0x4C 0x04C, .word 0x4C 0x048,
          .word 0x4C 0x044, .word 0x20 0x0D0, .word 0x20 0x0D4, .word 0x20 0x0D8, .word 0x20 0x0DC, .word 0x20 0x058,
          .page 0x1B, .page 0x41, .page 0x3A, .page 0x3B, .page 0x3D, .page 0x31, .page 0x24, .page 0x25, .page 0x26,
          .page 0x27, .word 0x19 0x0B4, .word 0x19 0x0A4, .word 0x19 0x0A8, .word 0x19 0x0AC, .word 0x19 0x0B0, .word 0x19
          0x0B8, .word 0x21 0x050, .word 0x21 0x04C, .page 0x11, .word 0x22 0x054, .word 0x22 0x050, .word 0x22 0x058,
          .page 0x29, .word 0x0C 0x014, .word 0x0C 0x04C, .page 0x80, .word 0x30 0x0B8, .word 0x30 0x014, .word 0x30
          0x0BC, .word 0x32 0x0A8, .word 0x32 0x014, .page 0x33, .word 0x40 0x074, .word 0x40 0x078, .word 0x45 0x04C,
          .word 0x45 0x014, .word 0x45 0x048, .word 0x48 0x04C, .word 0x48 0x050, .word 0x48 0x054, .word 0x48 0x058,
          .word 0x48 0x05C, .word 0x48 0x060, .word 0x48 0x064, .word 0x4A 0x058, .word 0x4A 0x050, .word 0x4A 0x014,
          .word 0x00 0x058, .word 0x4E 0x060, .word 0x4E 0x068, .word 0x4E 0x064, .word 0x03 0x04C, .word 0x05 0x014,
          .word 0x05 0x06C, .word 0x46 0x070] : List Scope) ++ headScopes ++ airScopes) (([.fes, .notices, .ports, .nodes,
          .ledger, .ddr, .rings, .duty, .frames, .lanes, .scheds, .relief, .reasm, .campaigns, .frameNumbers, .keyOp,
          .jobs, .clock, .copy, .fw, .rope, .root, .boot, .poolTest, .delivered, .wear, .mem, .meters, .tracks, .peers] :
          List Part) ++ airParts) s t)) ∧
  (∀ (sector : Nat) (s : State),
      sector < 2 ^ 16 →
      Gives (.flashTimeout sector) s (fun t =>
        rd F.FLASH.LAST_ERROR_CAUSE t = 3 ∧
        rd F.FLASH.LAST_ERROR_SECTOR t = sector ∧
        rd F.FLASH.ERRORS t = (rd F.FLASH.ERRORS s + 1) % 2 ^ 32 ∧
        eventLatched 0x45 0 t ∧
        Within [.word 0x45 0x04C, .word 0x45 0x014, .word 0x45 0x048] [] s t)) ∧
  (∀ (ecc : Ecc) (s : State),
      pageState 0x46 s = RUN →
      ddrUp s = true →
      selfRefresh s = false →
      inTestRow (scrubAt s) s = false →
      rd F.DDR.FILL_STATE s ≠ 1 ∨ s.mem.filled.contains (chunkOf (scrubAt s)) = true →
      ecc = .clean →
      Calm s = true →
      Gives (.ddrScrub ecc) s (fun t =>
        rd F.MEMINT.SCRUB_DDR_POS t = (if ddrSize s ≤ scrubAt s + 64 then 0 else rd F.MEMINT.SCRUB_DDR_POS s + 1) ∧
        rd F.MEMINT.DDR_CE_COUNT t = rd F.MEMINT.DDR_CE_COUNT s ∧
        rd F.MEMINT.DDR_UE_COUNT t = rd F.MEMINT.DDR_UE_COUNT s ∧
        rd F.MEMINT.SCRUB_DDR_PASSES t = (if ddrSize s ≤ scrubAt s + 64 then min (rd F.MEMINT.SCRUB_DDR_PASSES s + 1)
          65535 else rd F.MEMINT.SCRUB_DDR_PASSES s) ∧
        Within [.word 0x46 0x044, .word 0x46 0x048] [] s t)) ∧
  (∀ (ecc : Ecc) (s : State) (y : Byte),
      pageState 0x46 s = RUN →
      ddrUp s = true →
      selfRefresh s = false →
      inTestRow (scrubAt s) s = false →
      rd F.DDR.FILL_STATE s ≠ 1 ∨ s.mem.filled.contains (chunkOf (scrubAt s)) = true →
      ecc = .uncorrectable y →
      Calm s = true →
      Gives (.ddrScrub ecc) s (fun t =>
        rd F.MEMINT.SCRUB_DDR_POS t = (if ddrSize s ≤ scrubAt s + 64 then 0 else rd F.MEMINT.SCRUB_DDR_POS s + 1) ∧
        rd F.MEMINT.DDR_UE_COUNT t = (rd F.MEMINT.DDR_UE_COUNT s + 1) % 2 ^ 32 ∧
        rd F.MEMINT.DDR_LAST_SYNDROME t = y.toNat ∧
        eventLatched 0x46 1 t ∧
        t.mem.ueAt = some s.now ∧
        Within [.word 0x46 0x044, .word 0x46 0x048, .word 0x46 0x014, .word 0x46 0x050, .word 0x46 0x058, .word 0x46
          0x05C, .word 0x46 0x070, .word 0x46 0x054] [.mem] s t)) ∧
  (∀ (ecc : Ecc) (s : State),
      pageState 0x46 s ≠ RUN ∨ ddrUp s = false ∨ selfRefresh s = true →
      Calm s = true →
      Gives (.ddrScrub ecc) s (fun t =>
        Within [] [] s t)) ∧
  (∀ (finds : List SramFind) (s : State),
      pageState 0x46 s = RUN →
      Gives (.sramScrubPass finds) s (fun t =>
        rd F.MEMINT.SCRUB_SRAM_PASSES t = (rd F.MEMINT.SCRUB_SRAM_PASSES s + 1) % 2 ^ 16 ∧
        Within (([.word 0x46 0x04C, .word 0x46 0x014, .word 0x46 0x064, .word 0x46 0x068, .word 0x46 0x060, .word 0x46
          0x06C, .word 0x46 0x070, .word 0x20 0x0D0, .word 0x20 0x0D4, .word 0x20 0x0D8, .word 0x20 0x0DC, .word 0x20
          0x0C8, .word 0x20 0x0CC, .word 0x20 0x058, .page 0x1B, .page 0x24, .page 0x25, .page 0x26, .page 0x27, .word
          0x19 0x0B4, .word 0x19 0x0A4, .word 0x19 0x0A8, .word 0x19 0x0AC, .word 0x19 0x0B0, .word 0x19 0x0B8, .word 0x21
          0x050, .word 0x21 0x04C, .page 0x31, .page 0x10, .word 0x08 0x05C, .word 0x08 0x04C, .word 0x08 0x030, .word
          0x08 0x014, .word 0x08 0x00C, .word 0x08 0x078, .word 0x09 0x05C, .word 0x09 0x04C, .word 0x09 0x030, .word 0x09
          0x014, .word 0x09 0x00C, .word 0x09 0x078, .word 0x0A 0x05C, .word 0x0A 0x04C, .word 0x0A 0x030, .word 0x0A
          0x014, .word 0x0A 0x00C, .word 0x0A 0x078, .word 0x0B 0x05C, .word 0x0B 0x04C, .word 0x0B 0x030, .word 0x0B
          0x014, .word 0x0B 0x00C, .word 0x0B 0x050, .word 0x0B 0x078, .word 0x30 0x014, .word 0x30 0x0A8, .word 0x30
          0x098, .word 0x30 0x0B8, .word 0x30 0x084, .word 0x30 0x0BC, .page 0x41, .word 0x4C 0x014, .word 0x4C 0x050,
          .word 0x4C 0x04C, .word 0x4C 0x048, .word 0x4C 0x044, .word 0x22 0x054, .word 0x22 0x050, .word 0x22 0x058,
          .page 0x11, .page 0x05, .word 0x18 0x0C4, .word 0x18 0x014, .word 0x18 0x0C0, .page 0x0C, .page 0x80, .word 0x32
          0x0A8, .word 0x32 0x014, .page 0x33, .word 0x40 0x074, .word 0x40 0x078, .page 0x29, .page 0x3A, .page 0x3B,
          .word 0x38 0x0AC, .word 0x39 0x0AC, .word 0x45 0x04C, .word 0x45 0x014, .word 0x45 0x048, .word 0x48 0x04C,
          .word 0x48 0x078, .word 0x48 0x080, .word 0x48 0x07C, .word 0x48 0x068, .word 0x48 0x070, .word 0x48 0x088,
          .word 0x48 0x084, .word 0x4A 0x058, .word 0x4A 0x050, .word 0x4A 0x014, .page 0x4E, .word 0x02 0x014, .word 0x02
          0x010, .word 0x03 0x014, .word 0x03 0x010, .word 0x44 0x050, .word 0x3C 0x070, .word 0x3C 0x014, .word 0x00
          0x058, .word 0x00 0x05C, .word 0x30 0x088, .word 0x30 0x0B0] : List Scope) ++ headScopes ++ airScopes)
          (([.nodes, .frames, .duty, .ledger, .fes, .slots, .delivered, .rings, .ddr, .notices, .ports, .reasm, .cache,
          .lanes, .poolTest, .keyOp, .jobs, .copy, .relief, .scheds, .campaigns, .frameNumbers, .clock, .fw, .rope, .boot,
          .jtag, .watch, .wear, .root, .engines, .mem, .draws] : List Part) ++ airParts) s t)) ∧
  (∀ (finds : List SramFind) (s : State),
      pageState 0x46 s ≠ RUN →
      Calm s = true →
      Gives (.sramScrubPass finds) s (fun t =>
        Within [] [] s t))

/-- The split-write test mode writes, flips and reads a test word (R290, R512, R525, R526). TEST_WRITE writes the word
and its copy; TEST_FLIP_DATA and TEST_FLIP_CHECK flip stored bits of one copy; TEST_READ shows the word as its reader
sees it: a clean one without an error, one bad in a single copy as lost, a single flipped bit of the DDR row corrected;
TEST_READ_RAW shows the stored bits. -/
def Obligations.TestMode : Prop :=
  (∀ (route : Route) (s : State),
      reaches 0x46 route = true →
      refusal 0x46 0x094 route 1 s = none →
      rd (F.HEAD.CTRL_LOCK 0x46) s = 0 →
      Calm s = true →
      Gives (.testWrite route) s (fun t =>
        testWord (testTarget s) (testOffset s) t = { data := testData s } ∧
        (match otherCopy (testTarget s) with
              | some u => testWord u (testOffset s) t == { data := testData s }
              | none => true) = true ∧
        rd F.MEMINT.TEST_STATUS_OUTCOME t = 0 ∧
        Within [.word 0x46 0x020, .word 0x46 0x024, .word 0x46 0x028, .word 0x46 0x014, .word 0x46 0x098] [.spi, .mem] s t)) ∧
  (∀ (route : Route) (s : State),
      reaches 0x46 route = true →
      refusal 0x46 0x094 route 2 s = none →
      rd (F.HEAD.CTRL_LOCK 0x46) s = 0 →
      Calm s = true →
      Gives (.testFlipData route) s (fun t =>
        (testWord (testTarget s) (testOffset s) t).flipD = (testWord (testTarget s) (testOffset s) s).flipD ^^^ testData s ∧
        (testWord (testTarget s) (testOffset s) t).flipC = (testWord (testTarget s) (testOffset s) s).flipC ∧
        (testWord (testTarget s) (testOffset s) t).data = (testWord (testTarget s) (testOffset s) s).data ∧
        Within [.word 0x46 0x020, .word 0x46 0x024, .word 0x46 0x028, .word 0x46 0x014, .word 0x46 0x098] [.spi, .mem] s t)) ∧
  (∀ (route : Route) (s : State),
      reaches 0x46 route = true →
      refusal 0x46 0x094 route 3 s = none →
      rd (F.HEAD.CTRL_LOCK 0x46) s = 0 →
      Calm s = true →
      Gives (.testFlipCheck route) s (fun t =>
        (testWord (testTarget s) (testOffset s) t).flipC = (testWord (testTarget s) (testOffset s) s).flipC ^^^ rd
          F.MEMINT.TEST_CHECK s ∧
        (testWord (testTarget s) (testOffset s) t).flipD = (testWord (testTarget s) (testOffset s) s).flipD ∧
        Within [.word 0x46 0x020, .word 0x46 0x024, .word 0x46 0x028, .word 0x46 0x014, .word 0x46 0x098] [.spi, .mem] s t)) ∧
  (∀ (route : Route) (s : State),
      reaches 0x46 route = true →
      refusal 0x46 0x094 route 4 s = none →
      rd (F.HEAD.CTRL_LOCK 0x46) s = 0 →
      testTarget s ≠ 0 →
      (testWord (testTarget s) (testOffset s) s).mask = 0 →
      Calm s = true →
      Gives (.testRead route) s (fun t =>
        rd F.MEMINT.TEST_STATUS_OUTCOME t = 0 ∧
        testData t = (testWord (testTarget s) (testOffset s) s).stored % 2 ^ 64 ∧
        rd F.MEMINT.SRAM_CE_COUNT t = rd F.MEMINT.SRAM_CE_COUNT s ∧
        Within [.page 0x46] [.spi, .draws, .mem] s t)) ∧
  (∀ (route : Route) (s : State),
      reaches 0x46 route = true →
      refusal 0x46 0x094 route 4 s = none →
      rd (F.HEAD.CTRL_LOCK 0x46) s = 0 →
      testTarget s ≠ 0 →
      otherCopy (testTarget s) = none →
      (testWord (testTarget s) (testOffset s) s).mask ≠ 0 →
      Calm s = true →
      Gives (.testRead route) s (fun t =>
        rd F.MEMINT.TEST_STATUS_OUTCOME t = 2 ∧
        rd F.MEMINT.TEST_STATUS_SYNDROME t = (testWord (testTarget s) (testOffset s) s).mask ∧
        rd F.MEMINT.SRAM_UE_COUNT t = (rd F.MEMINT.SRAM_UE_COUNT s + 1) % 2 ^ 32 ∧
        eventLatched 0x46 3 t ∧
        Within [.page 0x46] [.spi, .draws, .mem] s t)) ∧
  (∀ (route : Route) (s : State),
      reaches 0x46 route = true →
      refusal 0x46 0x094 route 4 s = none →
      rd (F.HEAD.CTRL_LOCK 0x46) s = 0 →
      testTarget s = 0 →
      popcount (testWord (testTarget s) (testOffset s) s).flipD + popcount (testWord (testTarget s) (testOffset s) s).flipC
        = 1 →
      Calm s = true →
      Gives (.testRead route) s (fun t =>
        rd F.MEMINT.TEST_STATUS_OUTCOME t = 1 ∧
        testData t = (testWord (testTarget s) (testOffset s) s).data % 2 ^ 64 ∧
        rd F.MEMINT.DDR_CE_COUNT t = (rd F.MEMINT.DDR_CE_COUNT s + 1) % 2 ^ 32 ∧
        testWord (testTarget s) (testOffset s) t = { data := (testWord (testTarget s) (testOffset s) s).data } ∧
        Within [.page 0x46] [.spi, .draws, .mem] s t)) ∧
  (∀ (route : Route) (s : State),
      reaches 0x46 route = true →
      refusal 0x46 0x094 route 5 s = none →
      rd (F.HEAD.CTRL_LOCK 0x46) s = 0 →
      testTarget s ≠ 0 →
      Calm s = true →
      Gives (.testReadRaw route) s (fun t =>
        testData t = (testWord (testTarget s) (testOffset s) s).stored % 2 ^ 64 ∧
        rd F.MEMINT.TEST_CHECK t = (parityBits (testWord (testTarget s) (testOffset s) s).data ^^^ (testWord (testTarget s)
          (testOffset s) s).flipC) % 256 ∧
        rd F.MEMINT.TEST_STATUS_OUTCOME t = 0 ∧
        Within [.word 0x46 0x020, .word 0x46 0x024, .word 0x46 0x028, .word 0x46 0x014, .word 0x46 0x098, .word 0x46 0x088,
          .word 0x46 0x08C, .word 0x46 0x090] [.spi] s t))

/-- Packages are checked, installed, activated and stored (R533, R534, R537, R539, R540, R541, R542, R548, R555).
FWUP_INSTALL begins when the staged package passes its checks and ends with the result of the first that fails;
INSTALL_DONE without a failure checks the stored package again and, where it passes, shows it as READY; with one and no
spare location left it ends as a flash error; FWUP_ACTIVATE_AT_RESET puts the other partition on trial for the next
reset; FWUP_ACTIVATE_LIVE checks the package again, migrates the settings and waits for its epoch; LIVE_EPOCH_HANDOVER
completes it on the other core; FWUP_STORE_PROFILE stores a good profile in the other settings copy; OWNER_COSIGN_WRITE
blows its fuse with the lock open. -/
def Obligations.InstallAndActivate : Prop :=
  (∀ (s : State),
      Accepted 0x48 0x040 1 s →
      pageState 0x48 s ∉ [DRAINING, TEST, FAULT, RETIRED] →
      rd F.FWUP.STATUS_BUSY s = 0 →
      lifecycle s ∈ [LC_MANUFACTURE, LC_PROVISIONED, LC_DEPLOYED, LC_RECOVERY] →
      (actNow s).trial = false →
      Calm s = true →
      Gives .fwupInstall s (fun t =>
        (if (checkPackage (staged s) s).1 = 0 then (rd F.FWUP.STATUS_BUSY t == 1 && t.fw.cmd == some { op := 1, octets := (staged s).take (packageLength (staged s)), begun := s.now } && (actNow t).inactive == 0) else (rd F.FWUP.STATUS_RESULT t == (checkPackage (staged s) s).1 % 16 && rd F.FWUP.STATUS_BUSY t == 0 && (actNow t).inactive == (actNow s).inactive)) = true ∧
        Within (([.page 0x48, .word 0x33 0x060, .word 0x33 0x064] : List Scope) ++ airScopes) (([.spi, .fw] : List Part) ++
          airParts) s t)) ∧
  (∀ (failures : Nat) (erase : Bool) (s : State) (c : FwCmd) (s1 : State),
      s.fw.cmd = some c →
      c.op = 1 →
      failures = 0 →
      s1 = { s with fw := { s.fw with parts := insert s.fw.parts ((actNow s).location (1 - (actNow s).active)) c.octets } } →
      Calm s = true →
      Gives (.installDone failures erase) s (fun t =>
        rd F.FWUP.STATUS_RESULT t = (if (checkPackage c.octets s1).1 = 0 then 1 else (checkPackage c.octets s1).1) ∧
        rd F.FWUP.STATUS_BUSY t = 0 ∧
        t.fw.cmd = none ∧
        ((checkPackage c.octets s1).1 = 0 → (actNow t).inactive = 1 ∧ (actNow t).inactiveSeq = leAt c.octets 8 8) ∧
        look t.fw.parts ((actNow s).location (1 - (actNow s).active)) [] = c.octets ∧
        ((checkPackage c.octets s1).1 = 0 → eventLatched 0x48 0 t) ∧
        Within (([.word 0x48 0x050, .word 0x48 0x054, .word 0x48 0x058, .word 0x48 0x05C, .word 0x48 0x060, .word 0x48
          0x064, .word 0x48 0x014, .word 0x48 0x04C, .word 0x05 0x014, .word 0x05 0x06C, .word 0x45 0x04C, .word 0x45
          0x014, .word 0x45 0x048, .word 0x33 0x060, .word 0x33 0x064] : List Scope) ++ airScopes) (([.fw] : List Part) ++
          airParts) s t)) ∧
  (∀ (failures : Nat) (erase : Bool) (s : State) (c : FwCmd),
      s.fw.cmd = some c →
      c.op = 1 →
      1 ≤ failures →
      (actNow s).spare = false →
      Calm s = true →
      Gives (.installDone failures erase) s (fun t =>
        rd F.FWUP.STATUS_RESULT t = 7 ∧
        rd F.FWUP.STATUS_BUSY t = 0 ∧
        t.fw.cmd = none ∧
        t.fw.parts = s.fw.parts ∧
        eventLatched 0x45 0 t ∧
        Within (([.word 0x48 0x050, .word 0x48 0x054, .word 0x48 0x058, .word 0x48 0x05C, .word 0x48 0x060, .word 0x48
          0x064, .word 0x48 0x014, .word 0x48 0x04C, .word 0x05 0x014, .word 0x05 0x06C, .word 0x45 0x04C, .word 0x45
          0x014, .word 0x45 0x048, .word 0x33 0x060, .word 0x33 0x064] : List Scope) ++ airScopes) (([.fw] : List Part) ++
          airParts) s t)) ∧
  (∀ (s : State),
      Accepted 0x48 0x040 3 s →
      pageState 0x48 s ∉ [DRAINING, TEST, FAULT, RETIRED] →
      rd F.FWUP.STATUS_BUSY s = 0 →
      (actNow s).inactive = 1 →
      (actNow s).trial = false →
      Calm s = true →
      Gives .fwupActivateAtReset s (fun t =>
        rd F.FWUP.STATUS_RESULT t = 1 ∧
        (actNow t).trial = true ∧
        (actNow t).active = 1 - (actNow s).active ∧
        (actNow t).inactive = 2 ∧
        (actNow t).activeSeq = (actNow s).inactiveSeq ∧
        (actNow t).bootFails = 0 ∧
        Within (([.page 0x48] : List Scope) ++ airScopes) (([.spi, .fw] : List Part) ++ airParts) s t)) ∧
  (∀ (readBack : Bool) (s : State),
      Accepted 0x48 0x040 2 s →
      pageState 0x48 s ∉ [DRAINING, TEST, FAULT, RETIRED] →
      rd F.FWUP.STATUS_BUSY s = 0 →
      inCamp s = false →
      (actNow s).inactive = 1 →
      (actNow s).trial = false →
      liveOk (partOctets (actNow s) (1 - (actNow s).active) s) = true →
      rd F.FWUP.SUP_IDLE_STATE s = 0 →
      Calm s = true →
      Gives (.fwupActivateLive readBack) s (fun t =>
        (if (checkPackage (partOctets (actNow s) (1 - (actNow s).active) s) s).1 ≠ 0 then (rd F.FWUP.STATUS_RESULT t ==
          (checkPackage (partOctets (actNow s) (1 - (actNow s).active) s) s).1 % 16 && rd F.FWUP.STATUS_BUSY t == 0 &&
          !(actNow t).trial) else (rd F.FWUP.STATUS_RESULT t == 10 && (actNow t).inactive == 3 || rd F.FWUP.STATUS_BUSY t ==
          1 && rd F.FWUP.SUP_IDLE_STATE t == 1 && (actNow t).trial)) = true ∧
        Within (([.page 0x48, .word 0x33 0x060, .word 0x33 0x064, .word 0x45 0x04C, .word 0x45 0x014, .word 0x45 0x048] :
          List Scope) ++ airScopes) (([.spi, .fw] : List Part) ++ airParts) s t)) ∧
  (∀ (pauseUs : Nat) (s : State) (c : FwCmd),
      s.fw.cmd = some c →
      c.op = 2 →
      Gives (.liveEpochHandover pauseUs) s (fun t =>
        rd F.FWUP.STATUS_RESULT t = 1 ∧
        rd F.FWUP.STATUS_BUSY t = 0 ∧
        rd F.FWUP.SUP_ACTIVE_CORE t = 1 - rd F.FWUP.SUP_ACTIVE_CORE s ∧
        rd F.FWUP.HANDOVERS t = (rd F.FWUP.HANDOVERS s + 1) % 2 ^ 32 ∧
        rd F.FWUP.LAST_PAUSE_US t = min 250 pauseUs ∧
        rd F.FWUP.SCHEMA_ACTIVE t = leAt c.octets 16 2 ∧
        Within (([.word 0x48 0x04C, .word 0x48 0x068, .word 0x48 0x070, .word 0x48 0x088, .word 0x48 0x084, .word 0x48
          0x078, .word 0x48 0x080, .word 0x48 0x07C, .word 0x00 0x05C, .page 0x10, .word 0x0B 0x05C, .word 0x0B 0x04C, .word
          0x0B 0x078, .word 0x0B 0x014, .word 0x0B 0x050, .word 0x08 0x078, .word 0x08 0x05C, .word 0x08 0x04C, .word 0x09
          0x078, .word 0x09 0x05C, .word 0x09 0x04C, .word 0x0A 0x078, .word 0x0A 0x05C, .word 0x0A 0x04C, .page 0x24, .page
          0x25, .page 0x26, .page 0x27, .page 0x11] : List Scope) ++ airScopes) (([.fw, .fes, .scheds, .duty, .frames,
          .relief, .lanes] : List Part) ++ airParts) s t)) ∧
  (∀ (run : SectorRun) (s : State),
      Accepted 0x48 0x040 6 s →
      pageState 0x48 s ∉ [DRAINING, TEST, FAULT, RETIRED] →
      rd F.FWUP.STATUS_BUSY s = 0 →
      (actNow s).trial = false →
      settingsGood (staged s) (rd F.FWUP.SCHEMA_ACTIVE s) = true →
      rd F.FWUP.POLICY_OWNER_COSIGN s = 0 →
      rd F.SCIPHER.STATUS_FLASH_KEY s = 1 →
      run = .done →
      Calm s = true →
      Gives (.fwupStoreProfile run) s (fun t =>
        rd F.FWUP.STATUS_RESULT t = 1 ∧
        (actNow t).settings = 1 - (actNow s).settings % 2 ∧
        settingsCopy (1 - (actNow s).settings % 2) t = (staged s).take (settingsLength (staged s)) ∧
        Within (([.page 0x48, .word 0x33 0x060, .word 0x33 0x064, .word 0x45 0x04C, .word 0x45 0x014, .word 0x45 0x048] :
          List Scope) ++ airScopes) (([.spi, .fw] : List Part) ++ airParts) s t)) ∧
  (∀ (s : State),
      Accepted 0x48 0x074 1 s →
      lockOpen s = true →
      Calm s = true →
      Gives .ownerCosignWrite s (fun t =>
        rd F.FWUP.POLICY_OWNER_COSIGN t = 1 ∧
        Within [.word 0x48 0x074, .word 0x48 0x020, .word 0x48 0x024, .word 0x48 0x028, .word 0x48 0x014] [.spi] s t))

/-- Trials are confirmed, reverted and timed, and the supervisor role passes between cores (R534, R543, R544, R546,
R551, R553). FWUP_CONFIRM ends a trial that has run its time and raises the rollback level; FWUP_REVERT waits for the
next reset where it is allowed; TRIAL_EXPIRY shows no time left and TRIAL_RECORD_REWRITE stores the time run;
HANDOVER_RECORD is timed; SUPERVISOR_CORE_FAULT stops the idle core for reload, or hands over from the active one;
CORE_RELOAD_DONE makes the stopped core idle or retires it; MICROCODE_LOAD_DONE adds the lane to those on the new
microcode. -/
def Obligations.TrialsAndCores : Prop :=
  (∀ (s : State),
      Accepted 0x48 0x040 4 s →
      pageState 0x48 s ∉ [DRAINING, TEST, FAULT, RETIRED] →
      rd F.FWUP.STATUS_BUSY s = 0 →
      inCamp s = false →
      (actNow s).trial = true →
      (actNow s).activeLevel ≤ 128 →
      rd F.FWUP.TRIAL_LEFT s = 0 →
      Calm s = true →
      Gives .fwupConfirm s (fun t =>
        rd F.FWUP.STATUS_RESULT t = 1 ∧
        (actNow t).trial = false ∧
        rd F.FWUP.ROLLBACK_FUSED t = max (rd F.FWUP.ROLLBACK_FUSED s) (actNow s).activeLevel ∧
        (actNow t).active = (actNow s).active ∧
        Within (([.page 0x48] : List Scope) ++ airScopes) (([.spi, .fw] : List Part) ++ airParts) s t)) ∧
  (∀ (s : State),
      Accepted 0x48 0x040 5 s →
      pageState 0x48 s ∉ [DRAINING, TEST, FAULT, RETIRED] →
      rd F.FWUP.STATUS_BUSY s = 0 →
      mayRevert s = true →
      Calm s = true →
      Gives .fwupRevert s (fun t =>
        rd F.FWUP.STATUS_RESULT t = 1 ∧
        t.fw.revert = true ∧
        actNow t = actNow s ∧
        Within (([.word 0x48 0x020, .word 0x48 0x024, .word 0x48 0x028, .word 0x48 0x014, .word 0x48 0x04C] : List Scope) ++
          airScopes) (([.spi, .fw] : List Part) ++ airParts) s t)) ∧
  (∀ (s : State),
      Accepted 0x48 0x040 5 s →
      pageState 0x48 s ∉ [DRAINING, TEST, FAULT, RETIRED] →
      rd F.FWUP.STATUS_BUSY s = 0 →
      mayRevert s = false →
      Calm s = true →
      Gives .fwupRevert s (fun t =>
        rd F.FWUP.STATUS_RESULT t = 9 ∧
        t.fw.revert = s.fw.revert ∧
        Within (([.word 0x48 0x020, .word 0x48 0x024, .word 0x48 0x028, .word 0x48 0x014, .word 0x48 0x04C] : List Scope) ++
          airScopes) (([.spi, .fw] : List Part) ++ airParts) s t)) ∧
  (∀ (s : State),
      (actNow s).trial = true →
      Gives .trialExpiry s (fun t =>
        rd F.FWUP.TRIAL_LEFT t = 0 ∧
        eventLatched 0x48 2 t ∧
        Within [.word 0x48 0x014, .word 0x48 0x070] [.fw] s t)) ∧
  (∀ (s : State),
      (actNow s).trial = true →
      Calm s = true →
      Gives .trialRecordRewrite s (fun t =>
        (actNow t).elapsed = s.fw.trial ∧
        (actNow t).count = (actNow s).count + 1 ∧
        (actNow t).trial = true ∧
        Within (([.word 0x48 0x050, .word 0x48 0x054, .word 0x48 0x058, .word 0x48 0x05C, .word 0x48 0x060, .word 0x48
          0x064] : List Scope) ++ airScopes) (([.fw] : List Part) ++ airParts) s t)) ∧
  (∀ (s : State),
      Gives .handoverRecord s (fun t =>
        t.fw.recordAt = s.now ∧
        t.fw.cmd = s.fw.cmd ∧
        Within [] [.fw] s t)) ∧
  (∀ (core : Fin 2) (pauseUs : Nat) (s : State),
      core.val ≠ rd F.FWUP.SUP_ACTIVE_CORE s →
      rd F.FWUP.SUP_IDLE_STATE s ≠ 3 →
      s.fw.cmd = none →
      s.fw.faults = [] →
      Calm s = true →
      Gives (.supervisorCoreFault core pauseUs) s (fun t =>
        rd F.FWUP.SUP_IDLE_STATE t = 1 ∧
        rd F.FWUP.SUP_ACTIVE_CORE t = rd F.FWUP.SUP_ACTIVE_CORE s ∧
        t.fw.faults = [(core.val, s.now)] ∧
        Within [.word 0x48 0x078] [.fw] s t)) ∧
  (∀ (core : Fin 2) (pauseUs : Nat) (s : State),
      core.val = rd F.FWUP.SUP_ACTIVE_CORE s →
      rd F.FWUP.SUP_IDLE_STATE s ≠ 3 →
      s.fw.cmd = none →
      s.keyOp = none →
      s.fw.faults = [] →
      Gives (.supervisorCoreFault core pauseUs) s (fun t =>
        rd F.FWUP.SUP_IDLE_STATE t = 1 ∧
        rd F.FWUP.SUP_ACTIVE_CORE t = 1 - core.val ∧
        rd F.FWUP.HANDOVERS t = (rd F.FWUP.HANDOVERS s + 1) % 2 ^ 32 ∧
        Within (([.page 0x05, .word 0x48 0x078, .word 0x48 0x04C, .word 0x48 0x080, .word 0x48 0x07C, .word 0x48 0x068,
          .word 0x48 0x070, .word 0x48 0x088, .word 0x48 0x084, .page 0x4E, .word 0x02 0x014, .word 0x02 0x010, .word 0x03
          0x014, .word 0x03 0x010, .page 0x11, .page 0x31, .word 0x08 0x04C, .word 0x08 0x00C, .word 0x08 0x078, .word
          0x08 0x05C, .word 0x09 0x04C, .word 0x09 0x00C, .word 0x09 0x078, .word 0x09 0x05C, .word 0x0A 0x04C, .word 0x0A
          0x00C, .word 0x0A 0x078, .word 0x0A 0x05C, .word 0x0B 0x04C, .word 0x0B 0x00C, .word 0x0B 0x05C, .word 0x0B
          0x078, .word 0x0B 0x014, .word 0x0B 0x050, .word 0x46 0x070, .word 0x44 0x050, .word 0x30 0x084, .word 0x30
          0x0BC, .word 0x30 0x0B8, .word 0x30 0x014, .word 0x4A 0x050, .word 0x3C 0x070, .word 0x3C 0x014, .word 0x00
          0x058, .word 0x00 0x05C, .page 0x80, .word 0x4C 0x014, .word 0x4C 0x050, .word 0x4C 0x04C, .word 0x4C 0x048,
          .word 0x4C 0x044, .page 0x10, .page 0x24, .page 0x25, .page 0x26, .page 0x27, .word 0x30 0x088, .word 0x30
          0x0B0] : List Scope) ++ airScopes) (([.fw, .boot, .jtag, .watch, .clock, .lanes, .nodes, .ddr, .wear, .root,
          .engines, .mem, .rope, .draws, .keyOp, .notices, .fes, .scheds, .duty, .frames, .relief] : List Part) ++
          airParts) s t)) ∧
  (∀ (passed : Bool) (s : State),
      rd F.FWUP.SUP_IDLE_STATE s = 1 ∨ rd F.FWUP.SUP_IDLE_STATE s = 2 →
      Calm s = true →
      Gives (.coreReloadDone passed) s (fun t =>
        rd F.FWUP.SUP_IDLE_STATE t = (if passed then 0 else 3) ∧
        Within [.word 0x48 0x078, .page 0x05] [] s t)) ∧
  (∀ (li : Fin 136) (s : State),
      s.fw.rolling.contains li.val = true →
      Gives (.microcodeLoadDone li) s (fun t =>
        t.fw.newLanes.contains li.val = true ∧
        Within (([.page 0x11, .page 0x10, .word 0x48 0x084] : List Scope) ++ airScopes) (([.fw, .lanes, .fes] : List Part)
          ++ airParts) s t))

/-- Signed requests that pass their checks reset, enter, exit, clear tamper and revert (R553, R623, R632, R634, R635,
R636). REQ_WARM_RESET resets with source 3; REQ_ENTER asks for base camp at the next start, and REQ_EXIT leaves it where
the exit is allowed; REQ_CLEAR_TAMPER in base camp clears the tamper status unless an enabled sensor still reports a
breach; REQ_REVERT asks for the previous firmware. -/
def Obligations.SignedRequests : Prop :=
  (∀ (s : State),
      Accepted 0x4E 0x090 1 s →
      requestOp s = 1 →
      (requestCheck s).1 = 0 →
      s.boot.held = false →
      resetNow s = false →
      Gives .reqWarmReset s (fun t =>
        rd F.MGMT.START_RESET_KIND t = R_WARM ∧
        rd F.MGMT.START_WARM_SOURCE t = 3 ∧
        rd F.MGMT.START_STAGE t = 1)) ∧
  (∀ (s : State),
      Accepted 0x4E 0x090 1 s →
      requestOp s = 2 →
      (requestCheck s).1 = 0 →
      inCampNow s = false →
      Calm s = true →
      Gives .reqEnter s (fun t =>
        rd F.MGMT.REQ_STATUS_RESULT t = RQ_DONE ∧
        rd F.MGMT.START_ENTER_PENDING t = 1 ∧
        Within [.page 0x4E, .word 0x33 0x060, .word 0x33 0x064] [.draws, .slots] s t)) ∧
  (∀ (s : State),
      Accepted 0x4E 0x090 1 s →
      requestOp s = 3 →
      (requestCheck s).1 = 0 →
      Calm s = true →
      Gives .reqExit s (fun t =>
        rd F.MGMT.REQ_STATUS_RESULT t = (if mayExit s then RQ_DONE else RQ_REFUSED) ∧
        rd F.MGMT.START_EXIT_PENDING t = (if mayExit s then 1 else rd F.MGMT.START_EXIT_PENDING s) ∧
        Within [.page 0x4E, .word 0x33 0x060, .word 0x33 0x064, .word 0x80 0x2004] [.draws, .slots] s t)) ∧
  (∀ (breach : Fin 256) (s : State),
      Accepted 0x4E 0x090 1 s →
      requestOp s = 4 →
      (requestCheck s).1 = 0 →
      inCampNow s = true →
      breach.val = 0 →
      Calm s = true →
      Gives (.reqClearTamper breach) s (fun t =>
        rd F.MGMT.REQ_STATUS_RESULT t = RQ_DONE ∧
        rd F.CANARY.TAMPER_STATUS_SENSORS t = 0 ∧
        rd F.CANARY.TAMPER_STATUS_ZEROIZED t = 0 ∧
        Within [.page 0x4E, .word 0x33 0x060, .word 0x33 0x064, .word 0x03 0x044, .word 0x30 0x088, .word 0x30 0x0B0]
          [.draws, .slots] s t)) ∧
  (∀ (breach : Fin 256) (s : State) (b : Nat),
      Accepted 0x4E 0x090 1 s →
      requestOp s = 4 →
      (requestCheck s).1 = 0 →
      inCampNow s = true →
      b < 6 →
      breach.val.testBit b = true →
      sensorOn b s = true →
      Calm s = true →
      Gives (.reqClearTamper breach) s (fun t =>
        rd F.MGMT.REQ_STATUS_RESULT t = RQ_SENSOR_ACTIVE ∧
        rd F.CANARY.TAMPER_STATUS_SENSORS t = rd F.CANARY.TAMPER_STATUS_SENSORS s ∧
        Within [.page 0x4E, .word 0x33 0x060, .word 0x33 0x064, .word 0x03 0x044, .word 0x30 0x088, .word 0x30 0x0B0]
          [.draws, .slots] s t)) ∧
  (∀ (s : State),
      Accepted 0x4E 0x090 1 s →
      requestOp s = 5 →
      (requestCheck s).1 = 0 →
      inCampNow s = true →
      mayRevert s = true →
      rd F.FWUP.STATUS_BUSY s = 0 →
      pageState 0x48 s ∉ [DRAINING, TEST, FAULT, RETIRED] →
      Calm s = true →
      Gives .reqRevert s (fun t =>
        rd F.MGMT.REQ_STATUS_RESULT t = RQ_DONE ∧
        t.fw.revert = true ∧
        Within [.page 0x4E, .word 0x33 0x060, .word 0x33 0x064, .page 0x48] [.draws, .slots, .fw] s t))

/-- The commands of node image dissemination and its windows: planned, opened and closed (R559, R561, R562, R568, R570,
R566, R567). DISSEM_SETUP of an idle, ready or ended campaign whose F, T and MODE can be encoded makes it PREPARING,
with BUSY and the next EPOCH modulo 256; in PREPARING or RUNNING it ends as BAD_STATE and changes nothing; SETUP_DONE
makes it READY with K, the intermediate symbols in the source slot and a zero progress table; and an uncorrectable read
leaves it IDLE with DDR_ERROR; DISSEM_START of a ready campaign with front ends, a mode, channels and a period that fits
makes it RUNNING; with no front end or WIN_TICKS + LEAD above PERIOD it ends as BAD_PARAM; DISSEM_STOP and DISSEM_ABORT
end a running campaign with their END_REASON, close its windows and withdraw its frames; and return one that is being
set up to IDLE as ABORTED; DISSEM_CLEAR returns a ready or ended campaign to IDLE with its table kept; DISSEM_EXPORT
copies the 1 MiB progress table to the window; or ends as DDR_ERROR; WINDOW_PLAN plans the next nominal window of a
running campaign, no earlier than the end of every window planned on its front end; WINDOW_OPEN opens it: WINDOW.OPEN is
1, CAMPAIGN_WINDOW latches and WINDOWS counts; WINDOW_CLOSE ends it and withdraws its uncommitted symbol frames, which
count in WITHDRAWN. -/
def Obligations.CampaignCommands : Prop :=
  (∀ (ci : Fin 16) (s : State),
      Accepted 0x29 0x04C (0x100 + ci.val) s →
      pageState 0x29 s = RUN →
      rd F.DISSEM.CMD_STATUS_BUSY s = 0 →
      cState ci.val s ∈ [C_IDLE, C_READY, C_ENDED] →
      encodable ci.val s = true →
      Gives (.dissemSetup ci) s (fun t =>
        cState ci.val t = C_PREPARING ∧
        rd (F.DISSEM.C_STATUS_EPOCH ci.val) t = (rd (F.DISSEM.C_STATUS_EPOCH ci.val) s + 1) % 256 ∧
        rd F.DISSEM.CMD_STATUS_BUSY t = 1 ∧
        rd F.DISSEM.CMD_STATUS_RESULT t = 0 ∧
        rd F.DISSEM.CMD_STATUS_CAMPAIGN t = ci.val ∧
        Within (([.page 0x29] : List Scope) ++ airScopes) (([.spi, .campaigns] : List Part) ++ airParts) s t)) ∧
  (∀ (ci : Fin 16) (s : State),
      Accepted 0x29 0x04C (0x100 + ci.val) s →
      pageState 0x29 s = RUN →
      rd F.DISSEM.CMD_STATUS_BUSY s = 0 →
      cState ci.val s = C_RUNNING ∨ cState ci.val s = C_PREPARING →
      Calm s = true →
      Gives (.dissemSetup ci) s (fun t =>
        rd F.DISSEM.CMD_STATUS_RESULT t = 2 ∧
        rd F.DISSEM.CMD_STATUS_BUSY t = 0 ∧
        cState ci.val t = cState ci.val s ∧
        rd (F.DISSEM.C_STATUS_EPOCH ci.val) t = rd (F.DISSEM.C_STATUS_EPOCH ci.val) s ∧
        Within (([.page 0x29] : List Scope) ++ airScopes) (([.spi, .campaigns] : List Part) ++ airParts) s t)) ∧
  (∀ (ddrError : Bool) (s : State) (c : Nat),
      rd F.DISSEM.CMD_STATUS_BUSY s = 1 →
      rd F.DISSEM.CMD_STATUS_CAMPAIGN s = c →
      cState c s = C_PREPARING →
      ddrError = false →
      Calm s = true →
      Gives (.setupDone ddrError) s (fun t =>
        cState c t = C_READY ∧
        rd (F.DISSEM.C_STATUS_K c) t = sourceSymbols c s % 65536 ∧
        rd (F.DISSEM.C_COMPLETE c) t = 0 ∧
        rd (F.DISSEM.C_FAILED c) t = 0 ∧
        rd (F.DISSEM.C_REPORTED c) t = 0 ∧
        t.ddr = zeroRange (writeOctets s.ddr (sourceSlot c s) (Config.intermediate (winRead (rd F.DISSEM.STAGE_OFFSET s) (rd
          (F.DISSEM.C_F c) s) s) (rd (F.DISSEM.C_T c) s))) (progressTable c s) (2 ^ 20) ∧
        rd F.DISSEM.CMD_STATUS_RESULT t = 1 ∧
        rd F.DISSEM.CMD_STATUS_BUSY t = 0 ∧
        Within [.page 0x29] [.ddr] s t)) ∧
  (∀ (ddrError : Bool) (s : State) (c : Nat),
      rd F.DISSEM.CMD_STATUS_BUSY s = 1 →
      rd F.DISSEM.CMD_STATUS_CAMPAIGN s = c →
      cState c s = C_PREPARING →
      ddrError = true →
      Calm s = true →
      Gives (.setupDone ddrError) s (fun t =>
        cState c t = C_IDLE ∧
        t.ddr = s.ddr ∧
        rd F.DISSEM.CMD_STATUS_RESULT t = 4 ∧
        rd F.DISSEM.CMD_STATUS_BUSY t = 0 ∧
        Within [.page 0x29] [.ddr] s t)) ∧
  (∀ (ci : Fin 16) (s : State),
      Accepted 0x29 0x04C (0x200 + ci.val) s →
      pageState 0x29 s = RUN →
      rd F.DISSEM.CMD_STATUS_BUSY s = 0 →
      cState ci.val s = C_READY →
      (campaignFes ci.val s).isEmpty = false →
      (modeFamily (rd (F.DISSEM.C_CFG_MODE ci.val) s)).isSome = true →
      (campaignFes ci.val s).all (fun n => rd (F.DISSEM.C_CHANNEL_HZ ci.val n) s != 0) = true →
      rd (F.DISSEM.C_WIN_TICKS ci.val) s + rd (F.DISSEM.C_LEAD ci.val) s ≤ rd (F.DISSEM.C_PERIOD ci.val) s →
      s.frames.all (fun x => x.2.kind != .symbol ci.val && x.2.kind != .announcement ci.val) = true →
      Gives (.dissemStart ci) s (fun t =>
        cState ci.val t = C_RUNNING ∧
        rd F.DISSEM.RUNNING t = rd F.DISSEM.RUNNING s ||| 2 ^ ci.val ∧
        Machine.campaign ci.val t = { started := meshTicks s } ∧
        rd F.DISSEM.CMD_STATUS_RESULT t = 1 ∧
        rd F.DISSEM.CMD_STATUS_BUSY t = 0 ∧
        Within (([.page 0x29] : List Scope) ++ airScopes) (([.spi, .campaigns] : List Part) ++ airParts) s t)) ∧
  (∀ (ci : Fin 16) (s : State),
      Accepted 0x29 0x04C (0x200 + ci.val) s →
      pageState 0x29 s = RUN →
      rd F.DISSEM.CMD_STATUS_BUSY s = 0 →
      cState ci.val s = C_READY →
      rd (F.DISSEM.C_CFG_FE_MASK ci.val) s = 0 ∨ rd (F.DISSEM.C_PERIOD ci.val) s < rd (F.DISSEM.C_WIN_TICKS ci.val) s + rd
        (F.DISSEM.C_LEAD ci.val) s →
      Gives (.dissemStart ci) s (fun t =>
        cState ci.val t = C_READY ∧
        rd F.DISSEM.CMD_STATUS_RESULT t = 3 ∧
        rd F.DISSEM.CMD_STATUS_BUSY t = 0 ∧
        Within (([.page 0x29] : List Scope) ++ airScopes) (([.spi, .campaigns] : List Part) ++ airParts) s t)) ∧
  (∀ (ci : Fin 16) (s : State),
      Accepted 0x29 0x04C (0x300 + ci.val) s →
      pageState 0x29 s = RUN →
      cState ci.val s = C_RUNNING →
      rd F.DISSEM.CMD_STATUS_BUSY s = 0 →
      Gives (.dissemStop ci) s (fun t =>
        cState ci.val t = C_ENDED ∧
        rd (F.DISSEM.C_STATUS_END_REASON ci.val) t = 3 ∧
        (Machine.campaign ci.val t).windows = [] ∧
        (Machine.campaign ci.val t).final = true ∧
        rd F.DISSEM.CMD_STATUS_RESULT t = 1 ∧
        rd F.DISSEM.CMD_STATUS_BUSY t = 0 ∧
        Within (([.page 0x29, .page 0x24, .page 0x25, .page 0x26, .page 0x27, .word 0x19 0x0B4, .word 0x20 0x0D0, .word 0x20
          0x0D4, .word 0x20 0x0D8, .word 0x20 0x0DC, .page 0x1B, .word 0x21 0x050, .word 0x21 0x04C, .page 0x31, .page 0x10,
          .word 0x08 0x05C, .word 0x08 0x04C, .word 0x09 0x05C, .word 0x09 0x04C, .word 0x0A 0x05C, .word 0x0A 0x04C, .word
          0x0B 0x05C, .word 0x0B 0x04C, .word 0x0C 0x014, .word 0x0C 0x04C] : List Scope) ++ airScopes) (([.spi, .campaigns,
          .frames, .duty, .ledger, .nodes, .fes, .frameNumbers] : List Part) ++ airParts) s t)) ∧
  (∀ (ci : Fin 16) (s : State),
      Accepted 0x29 0x04C (0x300 + ci.val) s →
      pageState 0x29 s = RUN →
      cState ci.val s = C_PREPARING →
      Gives (.dissemStop ci) s (fun t =>
        cState ci.val t = C_IDLE ∧
        rd F.DISSEM.CMD_STATUS_RESULT t = 5 ∧
        rd F.DISSEM.CMD_STATUS_BUSY t = 0 ∧
        Within (([.page 0x29, .page 0x24, .page 0x25, .page 0x26, .page 0x27, .word 0x19 0x0B4, .word 0x20 0x0D0, .word 0x20
          0x0D4, .word 0x20 0x0D8, .word 0x20 0x0DC, .page 0x1B, .word 0x21 0x050, .word 0x21 0x04C, .page 0x31, .page 0x10,
          .word 0x08 0x05C, .word 0x08 0x04C, .word 0x09 0x05C, .word 0x09 0x04C, .word 0x0A 0x05C, .word 0x0A 0x04C, .word
          0x0B 0x05C, .word 0x0B 0x04C, .word 0x0C 0x014, .word 0x0C 0x04C] : List Scope) ++ airScopes) (([.spi, .campaigns,
          .frames, .duty, .ledger, .nodes, .fes, .frameNumbers] : List Part) ++ airParts) s t)) ∧
  (∀ (ci : Fin 16) (s : State),
      Accepted 0x29 0x04C (0x400 + ci.val) s →
      pageState 0x29 s = RUN →
      cState ci.val s = C_RUNNING →
      rd F.DISSEM.CMD_STATUS_BUSY s = 0 →
      Gives (.dissemAbort ci) s (fun t =>
        cState ci.val t = C_ENDED ∧
        rd (F.DISSEM.C_STATUS_END_REASON ci.val) t = 4 ∧
        (Machine.campaign ci.val t).windows = [] ∧
        (Machine.campaign ci.val t).final = true ∧
        t.frames.any (fun x => x.2.kind == .symbol ci.val && match x.2.place with
              | .committed _ _ => true
              | .queued => true
              | _ => false) = false ∧
        rd F.DISSEM.CMD_STATUS_RESULT t = 1 ∧
        rd F.DISSEM.CMD_STATUS_BUSY t = 0 ∧
        Within (([.page 0x29, .page 0x24, .page 0x25, .page 0x26, .page 0x27, .word 0x19 0x0B4, .word 0x20 0x0D0, .word 0x20
          0x0D4, .word 0x20 0x0D8, .word 0x20 0x0DC, .page 0x1B, .word 0x21 0x050, .word 0x21 0x04C, .page 0x31, .page 0x10,
          .word 0x08 0x05C, .word 0x08 0x04C, .word 0x09 0x05C, .word 0x09 0x04C, .word 0x0A 0x05C, .word 0x0A 0x04C, .word
          0x0B 0x05C, .word 0x0B 0x04C, .word 0x0C 0x014, .word 0x0C 0x04C] : List Scope) ++ airScopes) (([.spi, .campaigns,
          .frames, .duty, .ledger, .nodes, .fes, .frameNumbers] : List Part) ++ airParts) s t)) ∧
  (∀ (ci : Fin 16) (s : State),
      Accepted 0x29 0x04C (0x400 + ci.val) s →
      pageState 0x29 s = RUN →
      cState ci.val s = C_PREPARING →
      Gives (.dissemAbort ci) s (fun t =>
        cState ci.val t = C_IDLE ∧
        rd F.DISSEM.CMD_STATUS_RESULT t = 5 ∧
        rd F.DISSEM.CMD_STATUS_BUSY t = 0 ∧
        Within (([.page 0x29, .page 0x24, .page 0x25, .page 0x26, .page 0x27, .word 0x19 0x0B4, .word 0x20 0x0D0, .word 0x20
          0x0D4, .word 0x20 0x0D8, .word 0x20 0x0DC, .page 0x1B, .word 0x21 0x050, .word 0x21 0x04C, .page 0x31, .page 0x10,
          .word 0x08 0x05C, .word 0x08 0x04C, .word 0x09 0x05C, .word 0x09 0x04C, .word 0x0A 0x05C, .word 0x0A 0x04C, .word
          0x0B 0x05C, .word 0x0B 0x04C, .word 0x0C 0x014, .word 0x0C 0x04C] : List Scope) ++ airScopes) (([.spi, .campaigns,
          .frames, .duty, .ledger, .nodes, .fes, .frameNumbers] : List Part) ++ airParts) s t)) ∧
  (∀ (ci : Fin 16) (s : State),
      Accepted 0x29 0x04C (0x500 + ci.val) s →
      pageState 0x29 s = RUN →
      rd F.DISSEM.CMD_STATUS_BUSY s = 0 →
      cState ci.val s = C_READY ∨ cState ci.val s = C_ENDED →
      Gives (.dissemClear ci) s (fun t =>
        cState ci.val t = C_IDLE ∧
        (Machine.campaign ci.val t).final = false ∧
        (t.ddr = s.ddr ∨ Calm s = false) ∧
        rd F.DISSEM.CMD_STATUS_RESULT t = 1 ∧
        rd F.DISSEM.CMD_STATUS_BUSY t = 0 ∧
        Within (([.page 0x29] : List Scope) ++ airScopes) (([.spi, .campaigns] : List Part) ++ airParts) s t)) ∧
  (∀ (ci : Fin 16) (ddrError : Bool) (s : State),
      Accepted 0x29 0x04C (0x600 + ci.val) s →
      pageState 0x29 s = RUN →
      rd F.DISSEM.CMD_STATUS_BUSY s = 0 →
      cState ci.val s ∈ [C_READY, C_RUNNING, C_ENDED] →
      ddrError = false →
      Calm s = true →
      Gives (.dissemExport ci ddrError) s (fun t =>
        t.ddr = copyRange s.ddr (progressTable ci.val s) (winAddr (rd F.DISSEM.STAGE_OFFSET s) s) (2 ^ 20) ∧
        cState ci.val t = cState ci.val s ∧
        rd F.DISSEM.CMD_STATUS_RESULT t = 1 ∧
        rd F.DISSEM.CMD_STATUS_BUSY t = 0 ∧
        Within [.word 0x29 0x020, .word 0x29 0x024, .word 0x29 0x028, .word 0x29 0x014, .word 0x29 0x050] [.spi, .ddr] s t)) ∧
  (∀ (ci : Fin 16) (ddrError : Bool) (s : State),
      Accepted 0x29 0x04C (0x600 + ci.val) s →
      pageState 0x29 s = RUN →
      rd F.DISSEM.CMD_STATUS_BUSY s = 0 →
      cState ci.val s ∈ [C_READY, C_RUNNING, C_ENDED] →
      ddrError = true →
      Calm s = true →
      Gives (.dissemExport ci ddrError) s (fun t =>
        t.ddr = s.ddr ∧
        rd F.DISSEM.CMD_STATUS_RESULT t = 4 ∧
        rd F.DISSEM.CMD_STATUS_BUSY t = 0 ∧
        Within [.word 0x29 0x020, .word 0x29 0x024, .word 0x29 0x028, .word 0x29 0x014, .word 0x29 0x050] [.spi, .ddr] s t)) ∧
  (∀ (ci : Fin 16) (logical : Fin 4) (s : State),
      cState ci.val s = C_RUNNING →
      (rd (F.DISSEM.C_CFG_FE_MASK ci.val) s).testBit logical.val = true →
      s.frames.all (fun x => x.2.kind != .symbol ci.val && x.2.kind != .announcement ci.val) = true →
      rd (F.DISSEM.C_MAX_SYMBOLS ci.val) s = 0 →
      (Machine.campaign ci.val s).esi < 2 ^ 24 →
      Gives (.windowPlan ci logical) s (fun t =>
        (Machine.campaign ci.val t).windows = (Machine.campaign ci.val s).windows ++ [{ fe := logical.val, start := max (nextNominal ci.val logical.val s * rd (F.DISSEM.C_PERIOD ci.val) s + rd (F.DISSEM.C_OFFSET ci.val) s) (windowsEnd logical.val s) }] ∧
        Within (([.page 0x24, .page 0x25, .page 0x26, .page 0x27, .word 0x19 0x0B4, .word 0x20 0x0D0, .word 0x20 0x0D4,
          .word 0x20 0x0D8, .word 0x20 0x0DC, .page 0x1B, .word 0x21 0x050, .word 0x21 0x04C, .word 0x0C 0x014, .word 0x0C
          0x04C, .page 0x29] : List Scope) ++ airScopes) (([.campaigns, .frameNumbers, .frames, .duty, .ledger, .nodes] :
          List Part) ++ airParts) s t)) ∧
  (∀ (ci : Fin 16) (logical : Fin 4) (sourceError : Bool) (s : State) (w : Window),
      cState ci.val s = C_RUNNING →
      s.frames.all (fun x => x.2.kind != .symbol ci.val && x.2.kind != .announcement ci.val) = true →
      rd (F.DISSEM.C_MAX_SYMBOLS ci.val) s = 0 →
      (Machine.campaign ci.val s).esi < 2 ^ 24 →
      (Machine.campaign ci.val s).windows.find? (fun w => !w.isOpen && w.fe == logical.val) = some w →
      meshTicks s < w.start + rd (F.DISSEM.C_WIN_TICKS ci.val) s →
      sourceError = false →
      Gives (.windowOpen ci logical sourceError) s (fun t =>
        (Machine.campaign ci.val t).windows.any (fun w => w.isOpen && w.fe == logical.val) = true ∧
        rd (F.SCHED.WINDOW_OPEN logical.val) t = 1 ∧
        eventLatched 0x29 1 t ∧
        rd (F.DISSEM.C_WINDOWS ci.val) t = min (rd (F.DISSEM.C_WINDOWS ci.val) s + 1) 65535 ∧
        Within (([.page 0x29, .word (schedPage logical.val) 0x050, .page 0x24, .page 0x25, .page 0x26, .page 0x27, .word
          0x19 0x0B4, .word 0x20 0x0D0, .word 0x20 0x0D4, .word 0x20 0x0D8, .word 0x20 0x0DC, .page 0x1B, .word 0x21 0x050,
          .word 0x21 0x04C, .page 0x31, .page 0x10, .word 0x08 0x05C, .word 0x08 0x04C, .word 0x09 0x05C, .word 0x09 0x04C,
          .word 0x0A 0x05C, .word 0x0A 0x04C, .word 0x0B 0x05C, .word 0x0B 0x04C, .word 0x0C 0x014, .word 0x0C 0x04C] : List
          Scope) ++ airScopes) (([.campaigns, .frameNumbers, .frames, .duty, .ledger, .nodes, .fes] : List Part) ++
          airParts) s t)) ∧
  (∀ (ci : Fin 16) (logical : Fin 4) (s : State),
      (Machine.campaign ci.val s).windows.any (fun w => w.isOpen && w.fe == logical.val) = true →
      rd (F.DISSEM.C_WITHDRAWN ci.val) s + waitingSymbols ci.val logical.val s < 2 ^ 32 →
      Gives (.windowClose ci logical) s (fun t =>
        (Machine.campaign ci.val t).windows.any (fun w => w.isOpen && w.fe == logical.val) = false ∧
        rd (F.DISSEM.C_WITHDRAWN ci.val) t = rd (F.DISSEM.C_WITHDRAWN ci.val) s + waitingSymbols ci.val logical.val s ∧
        waitingSymbols ci.val logical.val t = 0 ∧
        Within (([.page 0x24, .page 0x25, .page 0x26, .page 0x27, .word 0x19 0x0B4, .word 0x20 0x0D0, .word 0x20 0x0D4,
          .word 0x20 0x0D8, .word 0x20 0x0DC, .page 0x1B, .word 0x21 0x050, .word 0x21 0x04C, .page 0x29, .word (schedPage
          logical.val) 0x050] : List Scope) ++ airScopes) (([.frames, .duty, .ledger, .nodes, .campaigns] : List Part) ++
          airParts) s t))

/-- The belay link: locks, hello, heartbeats and records (R578, R579, R580, R581, R582, R583, R584, R585, R586). A block
lock shows the lane as working; the first one carries the link; when the sending lane fails the spare takes over and
every unacknowledged record is sent again; a hello whose key does not match PARTNER_PIN sets PIN_BAD; one that does
gives the session key; a heartbeat takes a SEQ; a heartbeat received shows the partner and acknowledges records; the
first one attaches: a waiting member synchronises to an active partner; a record that fails its check counts in
RECORDS_BAD; a repeated record and one out of order change nothing; the last record of a resynchronisation makes the
member STANDBY; a reservation gives the takeover start and its ceiling; an unacknowledged record sent again counts in
RECORDS_RESENT; replay states that changed are mirrored in one record; the future active raises its ceilings and enters
ACTIVE; PARTNER_LOST ends the attachment and draws the nonce of the next one; and 5 ms later ceilings may be extended
alone. -/
def Obligations.BelayLink : Prop :=
  (∀ (li : Fin 2) (s : State),
      belayUp s = true →
      Gives (.belayBlockLock li) s (fun t =>
        laneOk li.val t = true ∧
        laneOk (1 - li.val) t = laneOk (1 - li.val) s ∧
        (laneOk 0 s = true ∨ laneOk 1 s = true ∨ rd F.ROPE.LINK_TX_LANE t = li.val) ∧
        Within (([.word 0x4A 0x058, .word 0x05 0x040, .word 0x05 0x014] : List Scope) ++ airScopes) (([.draws, .rope] : List
          Part) ++ airParts) s t)) ∧
  (∀ (li : Fin 2) (s : State),
      laneOk li.val s = true →
      rd F.ROPE.LINK_TX_LANE s = li.val →
      laneOk (1 - li.val) s = true →
      Calm s = true →
      Gives (.belayLaneFail li) s (fun t =>
        laneOk li.val t = false ∧
        rd F.ROPE.LINK_TX_LANE t = 1 - li.val ∧
        eventLatched 0x4A 2 t ∧
        rd F.ROPE.RECORDS_RESENT t = (rd F.ROPE.RECORDS_RESENT s + s.rope.unacked.length) % 2 ^ 32 ∧
        Within [.word 0x4A 0x058, .word 0x4A 0x014, .word 0x4A 0x07C, .word 0x05 0x040, .word 0x05 0x014, .word 0x05 0x06C]
          [] s t)) ∧
  (∀ (li : Fin 2) (s : State),
      laneOk li.val s = true →
      rd F.ROPE.LINK_TX_LANE s ≠ li.val →
      Calm s = true →
      Gives (.belayLaneFail li) s (fun t =>
        laneOk li.val t = false ∧
        rd F.ROPE.LINK_TX_LANE t = rd F.ROPE.LINK_TX_LANE s ∧
        rd F.ROPE.RECORDS_RESENT t = rd F.ROPE.RECORDS_RESENT s ∧
        Within [.word 0x4A 0x058, .word 0x4A 0x014, .word 0x4A 0x07C, .word 0x05 0x040, .word 0x05 0x014, .word 0x05 0x06C]
          [] s t)) ∧
  (∀ (die : BitVec 64) (pub : List Byte) (nonce : Nat) (role : Nat) (prefer : Bool) (s : State),
      belayUp s = true →
      Gives (.belayHello die pub nonce role prefer) s (fun t =>
        rd F.ROPE.LINK_PIN_BAD t = (if pinOf pub = partnerPin s then 0 else 1) ∧
        t.rope.session = (match s.root.root with
              | none => s.rope.session
              | some r => if pinOf pub = partnerPin s then (match Machine.pairEcdh (pairScalar r s) pub with
              | none => s.rope.session
              | some z => some (kdf (bytesLe 32 z) "ZK BELAY" (if ownDie s < die.toNat then bytesLe 8 (ownDie s) ++ bytesLe 8 die.toNat ++ bytesLe 16 s.rope.nonce ++ bytesLe 16 nonce else bytesLe 8 die.toNat ++ bytesLe 8 (ownDie s) ++ bytesLe 16 nonce ++ bytesLe 16 s.rope.nonce) 256)) else s.rope.session) ∧
        Within (([.word 0x4A 0x058, .page 0x31, .page 0x24, .page 0x25, .page 0x26, .page 0x27, .page 0x10, .word 0x08
          0x05C, .word 0x08 0x04C, .word 0x09 0x05C, .word 0x09 0x04C, .word 0x0A 0x05C, .word 0x0A 0x04C, .word 0x0B
          0x05C, .word 0x0B 0x04C, .word 0x19 0x0B4, .word 0x20 0x0D0, .word 0x20 0x0D4, .word 0x20 0x0D8, .word 0x20
          0x0DC, .page 0x1B, .word 0x21 0x050, .word 0x21 0x04C, .word 0x30 0x014, .word 0x30 0x0A8, .word 0x33 0x060,
          .word 0x33 0x064] : List Scope) ++ airScopes) (([.rope, .duty, .fes, .frames, .ledger, .nodes, .slots] : List
          Part) ++ airParts) s t)) ∧
  (∀ (s : State),
      belayUp s = true →
      s.rope.session.isSome = true →
      Gives .belayHeartbeatSend s (fun t =>
        t.rope = { s.rope with sent := s.rope.sent + 1 } ∧
        Within [] [.rope] s t)) ∧
  (∀ (role : Nat) (health : Nat) (ack : Nat) (seq : Nat) (partnerNs : Int) (s : State),
      belayUp s = true →
      s.rope.session.isSome = true →
      attached s = true →
      Calm s = true →
      Gives (.belayHeartbeatRx role health ack seq partnerNs) s (fun t =>
        rd F.ROPE.HEALTH_PARTNER t = health % 2 ^ 10 ∧
        rdInt F.ROPE.PARTNER_TIME_NS t = clamp (-2147483648) 2147483647 (partnerNs - deviceNs s) ∧
        t.rope = { s.rope with pRole := role, unacked := s.rope.unacked.filter (fun x => ack < x.1), got := (if seq = s.rope.got + 1 then seq else s.rope.got) } ∧
        ropeRole t = ropeRole s ∧
        Within (([.word 0x4A 0x054, .word 0x4A 0x068, .word 0x4A 0x058, .word 0x4A 0x050, .word 0x4A 0x014] : List Scope) ++
          airScopes) (([.rope] : List Part) ++ airParts) s t)) ∧
  (∀ (role : Nat) (health : Nat) (ack : Nat) (seq : Nat) (partnerNs : Int) (s : State),
      belayUp s = true →
      s.rope.session.isSome = true →
      attached s = false →
      ropeRole s = WAITING →
      role = ACTIVE →
      Gives (.belayHeartbeatRx role health ack seq partnerNs) s (fun t =>
        attached t = true ∧
        ropeRole t = SYNCING ∧
        Within (([.word 0x4A 0x054, .word 0x4A 0x068, .word 0x4A 0x058, .word 0x4A 0x050, .word 0x4A 0x014] : List Scope) ++
          airScopes) (([.rope] : List Part) ++ airParts) s t)) ∧
  (∀ (seq : Nat) (inOrder : Bool) (ok : Bool) (record : RopeRec) (euis : List Nat) (s : State),
      belayUp s = true →
      s.rope.session.isSome = true →
      ok = false →
      Gives (.belayRecordRx seq inOrder ok record euis) s (fun t =>
        rd F.ROPE.RECORDS_BAD t = (rd F.ROPE.RECORDS_BAD s + 1) % 2 ^ 32 ∧
        t.rope.got = s.rope.got ∧
        ropeRole t = ropeRole s ∧
        Within (([.word 0x4A 0x078, .word 0x4A 0x080, .word 0x4A 0x050, .word 0x4A 0x014, .word 0x30 0x0B0, .word 0x30
          0x014, .word 0x30 0x0A8, .word 0x30 0x098, .page 0x31, .page 0x24, .page 0x25, .page 0x26, .page 0x27, .page
          0x10, .word 0x08 0x05C, .word 0x08 0x04C, .word 0x09 0x05C, .word 0x09 0x04C, .word 0x0A 0x05C, .word 0x0A
          0x04C, .word 0x0B 0x05C, .word 0x0B 0x04C, .word 0x19 0x0B4, .word 0x20 0x0D0, .word 0x20 0x0D4, .word 0x20
          0x0D8, .word 0x20 0x0DC, .page 0x1B, .word 0x21 0x050, .word 0x21 0x04C] : List Scope) ++ airScopes) (([.rope,
          .journal, .duty, .fes, .frames, .ledger, .nodes, .slots, .cache, .root] : List Part) ++ airParts) s t)) ∧
  (∀ (seq : Nat) (inOrder : Bool) (ok : Bool) (record : RopeRec) (euis : List Nat) (s : State),
      belayUp s = true →
      s.rope.session.isSome = true →
      ok = true →
      seq ≤ s.rope.got ∨ inOrder = false →
      Calm s = true →
      Gives (.belayRecordRx seq inOrder ok record euis) s (fun t =>
        t.rope = s.rope ∧
        t.slots = s.slots ∧
        t.nodes = s.nodes ∧
        t.journal = s.journal ∧
        ropeRole t = ropeRole s ∧
        Within (([.word 0x4A 0x078, .word 0x4A 0x080, .word 0x4A 0x050, .word 0x4A 0x014, .word 0x30 0x0B0, .word 0x30
          0x014, .word 0x30 0x0A8, .word 0x30 0x098, .page 0x31, .page 0x24, .page 0x25, .page 0x26, .page 0x27, .page
          0x10, .word 0x08 0x05C, .word 0x08 0x04C, .word 0x09 0x05C, .word 0x09 0x04C, .word 0x0A 0x05C, .word 0x0A
          0x04C, .word 0x0B 0x05C, .word 0x0B 0x04C, .word 0x19 0x0B4, .word 0x20 0x0D0, .word 0x20 0x0D4, .word 0x20
          0x0D8, .word 0x20 0x0DC, .page 0x1B, .word 0x21 0x050, .word 0x21 0x04C] : List Scope) ++ airScopes) (([.rope,
          .journal, .duty, .fes, .frames, .ledger, .nodes, .slots, .cache, .root] : List Part) ++ airParts) s t)) ∧
  (∀ (seq : Nat) (inOrder : Bool) (ok : Bool) (record : RopeRec) (euis : List Nat) (s : State),
      belayUp s = true →
      s.rope.session.isSome = true →
      ok = true →
      s.rope.got < seq →
      inOrder = true →
      record = .syncDone →
      ropeRole s = SYNCING →
      Gives (.belayRecordRx seq inOrder ok record euis) s (fun t =>
        t.rope.got = seq ∧
        ropeRole t = STANDBY ∧
        Within (([.word 0x4A 0x078, .word 0x4A 0x080, .word 0x4A 0x050, .word 0x4A 0x014, .word 0x30 0x0B0, .word 0x30
          0x014, .word 0x30 0x0A8, .word 0x30 0x098, .page 0x31, .page 0x24, .page 0x25, .page 0x26, .page 0x27, .page
          0x10, .word 0x08 0x05C, .word 0x08 0x04C, .word 0x09 0x05C, .word 0x09 0x04C, .word 0x0A 0x05C, .word 0x0A
          0x04C, .word 0x0B 0x05C, .word 0x0B 0x04C, .word 0x19 0x0B4, .word 0x20 0x0D0, .word 0x20 0x0D4, .word 0x20
          0x0D8, .word 0x20 0x0DC, .page 0x1B, .word 0x21 0x050, .word 0x21 0x04C] : List Scope) ++ airScopes) (([.rope,
          .journal, .duty, .fes, .frames, .ledger, .nodes, .slots, .cache, .root] : List Part) ++ airParts) s t)) ∧
  (∀ (seq : Nat) (inOrder : Bool) (ok : Bool) (record : RopeRec) (euis : List Nat) (s : State) (fp v : Nat),
      belayUp s = true →
      s.rope.session.isSome = true →
      ok = true →
      s.rope.got < seq →
      inOrder = true →
      record = .reserve fp v →
      ropeRole s = SYNCING ∨ ropeRole s = STANDBY →
      Gives (.belayRecordRx seq inOrder ok record euis) s (fun t =>
        t.rope.got = seq ∧
        look t.rope.starts fp 0 = v ∧
        journalCeiling fp t = some (nextCeiling v) ∧
        ropeRole t = ropeRole s ∧
        Within (([.word 0x4A 0x078, .word 0x4A 0x080, .word 0x4A 0x050, .word 0x4A 0x014, .word 0x30 0x0B0, .word 0x30
          0x014, .word 0x30 0x0A8, .word 0x30 0x098, .page 0x31, .page 0x24, .page 0x25, .page 0x26, .page 0x27, .page
          0x10, .word 0x08 0x05C, .word 0x08 0x04C, .word 0x09 0x05C, .word 0x09 0x04C, .word 0x0A 0x05C, .word 0x0A
          0x04C, .word 0x0B 0x05C, .word 0x0B 0x04C, .word 0x19 0x0B4, .word 0x20 0x0D0, .word 0x20 0x0D4, .word 0x20
          0x0D8, .word 0x20 0x0DC, .page 0x1B, .word 0x21 0x050, .word 0x21 0x04C] : List Scope) ++ airScopes) (([.rope,
          .journal, .duty, .fes, .frames, .ledger, .nodes, .slots, .cache, .root] : List Part) ++ airParts) s t)) ∧
  (∀ (s : State),
      s.rope.unacked ≠ [] →
      Gives .belayRecordResend s (fun t =>
        rd F.ROPE.RECORDS_RESENT t = (rd F.ROPE.RECORDS_RESENT s + 1) % 2 ^ 32 ∧
        Within [.word 0x4A 0x07C] [] s t)) ∧
  (∀ (s : State) (ch : List (Nat × Nat × Nat)),
      mirrors s = true →
      ch = (s.nodes.filter (fun x => x.2.valid && find s.rope.replays x.1 != some (replayState x.2))).map (fun x => (x.1,
        replayState x.2)) →
      ch ≠ [] →
      Gives .replayMirror s (fun t =>
        t.rope.unacked = s.rope.unacked ++ [(s.rope.sent + 1, .replay (ch.map (fun x => (x.1, x.2.1, x.2.2))))] ∧
        Within [] [.rope] s t)) ∧
  (∀ (s : State),
      s.rope.attaching = true →
      attached s = true →
      rd F.ROPE.ROLE_PARTNER_ACT s = 0 →
      Gives .attachActivate s (fun t =>
        ropeRole t = ACTIVE ∧
        rd F.ROPE.ROLE_ACT_OUT t = 1 ∧
        t.rope.attaching = false ∧
        s.rope.theirs.all (fun x => decide (min (look s.rope.theirs x.1 0) 0xFFFFFFFF ≤ (journalCeiling x.1 t).getD 0)) =
          true ∧
        Within (([.word 0x30 0x0B0, .word 0x4A 0x050, .word 0x4A 0x014] : List Scope) ++ airScopes) (([.journal, .slots,
          .rope, .root] : List Part) ++ airParts) s t)) ∧
  (∀ (s : State),
      attached s = true →
      Gives .partnerLost s (fun t =>
        attached t = false ∧
        rd F.ROPE.LOST_COUNT t = (rd F.ROPE.LOST_COUNT s + 1) % 2 ^ 32 ∧
        eventLatched 0x4A 0 t ∧
        t.rope.session = none ∧
        t.rope.nonce = Config.entropy s.draws % 2 ^ 128 ∧
        t.rope.lostAt = some s.now ∧
        ropeRole t = (if ropeRole s = ACTIVE ∨ ropeRole s = RELINQUISHING ∨ (ropeRole s = STANDBY ∧
          s.rope.fellAt.any (fun x => s.now ≤ x + 1000000) = true) then ropeRole s else WAITING) ∧
        Within (([.word 0x4A 0x014, .word 0x4A 0x074, .word 0x4A 0x058, .word 0x4A 0x050] : List Scope) ++ airScopes)
          (([.rope, .draws] : List Part) ++ airParts) s t)) ∧
  (∀ (s : State),
      s.rope.lostAt.isSome = true →
      Gives .loneCeilingWait s (fun t =>
        t.rope = { s.rope with mayExtend := true } ∧
        Within [] [.rope] s t))

/-- Giving up, taking over and settling two active members (R587, R588, R589, R590, R591, R592). An active member with a
masked health condition and a ready partner relinquishes: ACT_OUT falls and its frames end; without one it stays;
RELINQUISH does so on command, else its RESULT is 2; FORCE_TAKEOVER of a waiting member with PARTNER_ACT low writes its
ceilings first; and then enters ACTIVE, or ends with RESULT 4 when the write failed; when PARTNER_ACT_IN falls a standby
takes its takeover starts as counters; and TAKEOVER_US later enters ACTIVE; the mute timer stops what a relinquishing
member still radiates; PARTNER_ACT_IN rises: the handover is over; without a rise the member takes its role back; of two
active members the one that loses the choice relinquishes. -/
def Obligations.Switchover : Prop :=
  (∀ (s : State),
      ropeRole s = ACTIVE →
      ropeHealth s &&& rd F.ROPE.GIVE_UP_MASK s ≠ 0 →
      partnerReady s = true →
      Gives .giveUpTimer s (fun t =>
        ropeRole t = RELINQUISHING ∧
        rd F.ROPE.ROLE_ACT_OUT t = 0 ∧
        eventLatched 0x4A 1 t ∧
        s.frames.all (fun x => (match x.2.place with | .queued | .committed _ _ | .pending => false | _ => true) ||
          (s.frames.filter (fun y => y.1 == x.1)).length != 1 || (frame? x.1 t).isNone) = true ∧
        t.rope.droppedAt = some s.now ∧
        Within (([.word 0x4A 0x050, .word 0x4A 0x014, .page 0x24, .page 0x25, .page 0x26, .page 0x27, .word 0x19 0x0B4,
          .word 0x20 0x0D0, .word 0x20 0x0D4, .word 0x20 0x0D8, .word 0x20 0x0DC, .page 0x1B, .word 0x21 0x050, .word 0x21
          0x04C, .word 0x22 0x054, .word 0x22 0x050, .word 0x22 0x058] : List Scope) ++ airScopes) (([.rope, .frames, .duty,
          .ledger, .nodes, .reasm] : List Part) ++ airParts) s t)) ∧
  (∀ (s : State),
      ropeRole s ≠ ACTIVE ∨ partnerReady s = false →
      Calm s = true →
      Gives .giveUpTimer s (fun t =>
        ropeRole t = ropeRole s ∧
        t.rope = s.rope ∧
        t.frames = s.frames ∧
        Within (([.word 0x4A 0x050, .word 0x4A 0x014, .page 0x24, .page 0x25, .page 0x26, .page 0x27, .word 0x19 0x0B4,
          .word 0x20 0x0D0, .word 0x20 0x0D4, .word 0x20 0x0D8, .word 0x20 0x0DC, .page 0x1B, .word 0x21 0x050, .word 0x21
          0x04C, .word 0x22 0x054, .word 0x22 0x050, .word 0x22 0x058] : List Scope) ++ airScopes) (([.rope, .frames, .duty,
          .ledger, .nodes, .reasm] : List Part) ++ airParts) s t)) ∧
  (∀ (s : State),
      Accepted 0x4A 0x05C 1 s →
      ropeRole s = ACTIVE →
      partnerReady s = true →
      Gives .ropeRelinquish s (fun t =>
        ropeRole t = RELINQUISHING ∧
        rd F.ROPE.ROLE_ACT_OUT t = 0 ∧
        eventLatched 0x4A 1 t ∧
        s.frames.all (fun x => (match x.2.place with | .queued | .committed _ _ | .pending => false | _ => true) ||
          (s.frames.filter (fun y => y.1 == x.1)).length != 1 || (frame? x.1 t).isNone) = true ∧
        t.rope.droppedAt = some s.now ∧
        rd F.ROPE.CMD_STATUS_RESULT t = 1 ∧
        Within (([.word 0x4A 0x060, .word 0x4A 0x050, .word 0x4A 0x014, .page 0x24, .page 0x25, .page 0x26, .page 0x27,
          .word 0x19 0x0B4, .word 0x20 0x0D0, .word 0x20 0x0D4, .word 0x20 0x0D8, .word 0x20 0x0DC, .page 0x1B, .word 0x21
          0x050, .word 0x21 0x04C, .word 0x22 0x054, .word 0x22 0x050, .word 0x22 0x058] : List Scope) ++ airScopes)
          (([.rope, .frames, .duty, .ledger, .nodes, .reasm] : List Part) ++ airParts) s t)) ∧
  (∀ (s : State),
      Accepted 0x4A 0x05C 1 s →
      ropeRole s ≠ ACTIVE ∨ partnerReady s = false →
      Calm s = true →
      Gives .ropeRelinquish s (fun t =>
        rd F.ROPE.CMD_STATUS_RESULT t = 2 ∧
        ropeRole t = ropeRole s ∧
        t.rope = s.rope ∧
        Within (([.word 0x4A 0x060, .word 0x4A 0x050, .word 0x4A 0x014, .page 0x24, .page 0x25, .page 0x26, .page 0x27,
          .word 0x19 0x0B4, .word 0x20 0x0D0, .word 0x20 0x0D4, .word 0x20 0x0D8, .word 0x20 0x0DC, .page 0x1B, .word 0x21
          0x050, .word 0x21 0x04C, .word 0x22 0x054, .word 0x22 0x050, .word 0x22 0x058] : List Scope) ++ airScopes)
          (([.rope, .frames, .duty, .ledger, .nodes, .reasm] : List Part) ++ airParts) s t)) ∧
  (∀ (s : State),
      Accepted 0x4A 0x05C 2 s →
      ropeRole s = WAITING →
      rd F.ROPE.ROLE_PARTNER_ACT s = 0 →
      Gives .ropeForceTakeover s (fun t =>
        t.rope.forcing = true ∧
        ropeRole t = WAITING ∧
        Within (([.word 0x4A 0x060] : List Scope) ++ airScopes) (([.rope] : List Part) ++ airParts) s t)) ∧
  (∀ (s : State),
      Accepted 0x4A 0x05C 2 s →
      ropeRole s ≠ WAITING ∨ rd F.ROPE.ROLE_PARTNER_ACT s = 1 →
      Gives .ropeForceTakeover s (fun t =>
        rd F.ROPE.CMD_STATUS_RESULT t = 3 ∧
        ropeRole t = ropeRole s ∧
        t.rope.forcing = s.rope.forcing ∧
        Within (([.word 0x4A 0x060] : List Scope) ++ airScopes) (([.rope] : List Part) ++ airParts) s t)) ∧
  (∀ (ok : Bool) (s : State),
      s.rope.forcing = true →
      ok = true →
      Gives (.forceTakeoverDurable ok) s (fun t =>
        ropeRole t = ACTIVE ∧
        rd F.ROPE.ROLE_ACT_OUT t = 1 ∧
        rd F.ROPE.CMD_STATUS_RESULT t = 1 ∧
        t.rope.forcing = false ∧
        Within (([.word 0x4A 0x060, .word 0x4A 0x050, .word 0x4A 0x014, .word 0x45 0x04C, .word 0x45 0x014, .word 0x45
          0x048, .word 0x30 0x0B0] : List Scope) ++ airScopes) (([.rope, .journal, .slots, .root] : List Part) ++
          airParts) s t)) ∧
  (∀ (ok : Bool) (s : State),
      s.rope.forcing = true →
      ok = false →
      Gives (.forceTakeoverDurable ok) s (fun t =>
        ropeRole t = ropeRole s ∧
        rd F.ROPE.CMD_STATUS_RESULT t = 4 ∧
        t.rope.forcing = false ∧
        t.slots = s.slots ∧
        t.journal = s.journal ∧
        Within (([.word 0x4A 0x060, .word 0x4A 0x050, .word 0x4A 0x014, .word 0x45 0x04C, .word 0x45 0x014, .word 0x45
          0x048, .word 0x30 0x0B0] : List Scope) ++ airScopes) (([.rope, .journal, .slots, .root] : List Part) ++
          airParts) s t)) ∧
  (∀ (s : State),
      ropeRole s = STANDBY →
      Gives .partnerActFall s (fun t =>
        rd F.ROPE.ROLE_PARTNER_ACT t = 0 ∧
        t.rope.fellAt = some s.now ∧
        ropeRole t = STANDBY ∧
        s.slots.all (fun x => !((slot x.1 s).valid && (slot x.1 s).use FRAME_ENC) || match find s.rope.starts (fingerprint (slot x.1 s).key) with
              | some v => (slot x.1 t).txcnt == v && (slot x.1 t).ceil == nextCeiling v
              | none => true) = true ∧
        Within (([.word 0x4A 0x050] : List Scope) ++ airScopes) (([.slots, .rope] : List Part) ++ airParts) s t)) ∧
  (∀ (s : State),
      s.rope.fellAt.isSome = true →
      rd F.ROPE.ROLE_PARTNER_ACT s = 0 →
      ropeRole s = STANDBY →
      Gives .takeoverDelayExpiry s (fun t =>
        ropeRole t = ACTIVE ∧
        rd F.ROPE.ROLE_ACT_OUT t = 1 ∧
        rd F.ROPE.SWITCHOVERS t = (rd F.ROPE.SWITCHOVERS s + 1) % 2 ^ 32 ∧
        eventLatched 0x4A 1 t ∧
        t.rope.fellAt = none ∧
        Within (([.word 0x4A 0x06C, .word 0x4A 0x070, .word 0x4A 0x050, .word 0x4A 0x014] : List Scope) ++ airScopes)
          (([.rope] : List Part) ++ airParts) s t)) ∧
  (∀ (s : State),
      ropeRole s = RELINQUISHING →
      Gives .txMuteTimer s (fun t =>
        (List.range 4).all (fun p => (Machine.fe p t).tx.isNone) = true ∧
        ropeRole t = RELINQUISHING ∧
        Within (([.page 0x31, .page 0x24, .page 0x25, .page 0x26, .page 0x27, .page 0x10, .word 0x08 0x05C, .word 0x08
          0x04C, .word 0x09 0x05C, .word 0x09 0x04C, .word 0x0A 0x05C, .word 0x0A 0x04C, .word 0x0B 0x05C, .word 0x0B 0x04C,
          .word 0x19 0x0B4, .word 0x20 0x0D0, .word 0x20 0x0D4, .word 0x20 0x0D8, .word 0x20 0x0DC, .page 0x1B, .word 0x21
          0x050, .word 0x21 0x04C] : List Scope) ++ airScopes) (([.duty, .fes, .frames, .ledger, .nodes] : List Part) ++
          airParts) s t)) ∧
  (∀ (s : State),
      ropeRole s = RELINQUISHING →
      Gives .partnerActRise s (fun t =>
        rd F.ROPE.ROLE_PARTNER_ACT t = 1 ∧
        ropeRole t = (if attached s then SYNCING else WAITING) ∧
        t.rope.droppedAt = none ∧
        Within (([.word 0x4A 0x050, .word 0x4A 0x014, .word 0x08 0x05C, .word 0x09 0x05C, .word 0x0A 0x05C, .word 0x0B
          0x05C] : List Scope) ++ airScopes) (([.rope, .fes] : List Part) ++ airParts) s t)) ∧
  (∀ (s : State),
      ropeRole s ≠ RELINQUISHING →
      Gives .partnerActRise s (fun t =>
        rd F.ROPE.ROLE_PARTNER_ACT t = 1 ∧
        ropeRole t = ropeRole s ∧
        t.rope.fellAt = none ∧
        Within (([.word 0x4A 0x050, .word 0x4A 0x014, .word 0x08 0x05C, .word 0x09 0x05C, .word 0x0A 0x05C, .word 0x0B
          0x05C] : List Scope) ++ airScopes) (([.rope, .fes] : List Part) ++ airParts) s t)) ∧
  (∀ (s : State),
      ropeRole s = RELINQUISHING →
      rd F.ROPE.ROLE_PARTNER_ACT s = 0 →
      Gives .reclaimTimer s (fun t =>
        ropeRole t = ACTIVE ∧
        rd F.ROPE.ROLE_ACT_OUT t = 1 ∧
        rd F.ROPE.RECLAIMS t = (rd F.ROPE.RECLAIMS s + 1) % 2 ^ 32 ∧
        Within (([.word 0x08 0x05C, .word 0x09 0x05C, .word 0x0A 0x05C, .word 0x0B 0x05C, .word 0x4A 0x050, .word 0x4A
          0x014, .word 0x4A 0x088] : List Scope) ++ airScopes) (([.fes, .rope] : List Part) ++ airParts) s t)) ∧
  (∀ (s : State),
      ropeRole s = ACTIVE →
      Gives .dualActive s (fun t =>
        rd F.ROPE.DUAL_ACTIVE_COUNT t = (rd F.ROPE.DUAL_ACTIVE_COUNT s + 1) % 2 ^ 32 ∧
        eventLatched 0x4A 3 t ∧
        ropeRole t = (if winsChoice s then ACTIVE else RELINQUISHING) ∧
        Within (([.word 0x4A 0x014, .word 0x4A 0x08C, .word 0x4A 0x050, .page 0x24, .page 0x25, .page 0x26, .page 0x27,
          .word 0x19 0x0B4, .word 0x20 0x0D0, .word 0x20 0x0D4, .word 0x20 0x0D8, .word 0x20 0x0DC, .page 0x1B, .word 0x21
          0x050, .word 0x21 0x04C, .word 0x22 0x054, .word 0x22 0x050, .word 0x22 0x058] : List Scope) ++ airScopes)
          (([.rope, .frames, .duty, .ledger, .nodes, .reasm] : List Part) ++ airParts) s t))

/-- What a tamper detection does, by phase and enable (R606, R607, R364, R363). An enabled tamper sensor that detects
records itself and the phase, ends the root mask and every key, and resets the controller; one that is not enabled does
nothing; on the battery alone the detection is kept for the start; the loss of both supplies of the tamper domain loses
the mask. -/
def Obligations.TamperDetections : Prop :=
  (∀ (sensor : Fin 2) (s : State),
      tamperPhase s ≠ 4 →
      sensorOn sensor.val s = true →
      Gives (.tamperMesh sensor) s (fun t =>
        t.root.mask = none ∧
        rd F.CANARY.TAMPER_STATUS_SENSORS t = rd F.CANARY.TAMPER_STATUS_SENSORS s ||| 2 ^ sensor.val ∧
        rd F.CANARY.TAMPER_STATUS_PHASE t = tamperPhase s ∧
        t.slots.all (fun x => !x.2.valid) = true ∧
        rd F.MGMT.START_RESET_KIND t = 4 ∧
        pageState 0x21 t = OFF ∧
        rd F.MGMT.START_STAGE t ≤ 1)) ∧
  (∀ (sensor : Fin 2) (s : State),
      tamperPhase s ≠ 4 →
      sensorOn sensor.val s = false →
      Calm s = true →
      Gives (.tamperMesh sensor) s (fun t =>
        t.root = s.root ∧
        t.slots = s.slots ∧
        t.boot = s.boot ∧
        rd F.CANARY.TAMPER_STATUS_SENSORS t = rd F.CANARY.TAMPER_STATUS_SENSORS s ∧
        Within [] [] s t)) ∧
  (∀ (sensor : Fin 2) (s : State),
      batteryOnly s = true →
      rd F.CANARY.TAMPER_STATUS_SENSORS s < 64 →
      Calm s = true →
      Gives (.tamperMesh sensor) s (fun t =>
        t.watch.deferred = s.watch.deferred ++ [cairnItem K_TAMPER [rd F.CANARY.TAMPER_STATUS_SENSORS s ||| 2 ^ sensor.val,
          4] s] ∧
        t.root.mask = none ∧
        t.slots = s.slots ∧
        t.boot = s.boot ∧
        rd F.CANARY.TAMPER_STATUS_PHASE t = 4)) ∧
  (∀ (sensor : Fin 2) (s : State),
      tamperPhase s ≠ 4 →
      sensorOn (2 + sensor.val) s = true →
      Gives (.tamperSwitch sensor) s (fun t =>
        t.root.mask = none ∧
        rd F.CANARY.TAMPER_STATUS_SENSORS t = rd F.CANARY.TAMPER_STATUS_SENSORS s ||| 2 ^ (2 + sensor.val) ∧
        rd F.CANARY.TAMPER_STATUS_PHASE t = tamperPhase s ∧
        t.slots.all (fun x => !x.2.valid) = true ∧
        rd F.MGMT.START_RESET_KIND t = 4 ∧
        pageState 0x21 t = OFF ∧
        rd F.MGMT.START_STAGE t ≤ 1)) ∧
  (∀ (sensor : Fin 2) (s : State),
      tamperPhase s ≠ 4 →
      sensorOn (2 + sensor.val) s = false →
      Calm s = true →
      Gives (.tamperSwitch sensor) s (fun t =>
        t.root = s.root ∧
        t.slots = s.slots ∧
        t.boot = s.boot ∧
        rd F.CANARY.TAMPER_STATUS_SENSORS t = rd F.CANARY.TAMPER_STATUS_SENSORS s ∧
        Within [] [] s t)) ∧
  (∀ (sensor : Fin 2) (s : State),
      batteryOnly s = true →
      rd F.CANARY.TAMPER_STATUS_SENSORS s < 64 →
      Calm s = true →
      Gives (.tamperSwitch sensor) s (fun t =>
        t.watch.deferred = s.watch.deferred ++ [cairnItem K_TAMPER [rd F.CANARY.TAMPER_STATUS_SENSORS s ||| 2 ^ (2 +
          sensor.val), 4] s] ∧
        t.root.mask = none ∧
        t.slots = s.slots ∧
        t.boot = s.boot ∧
        rd F.CANARY.TAMPER_STATUS_PHASE t = 4)) ∧
  (∀ (glitch : Bool) (s : State),
      tamperPhase s ≠ 4 →
      sensorOn (if glitch then 5 else 4) s = true →
      Gives (.tamperEnv glitch) s (fun t =>
        t.root.mask = none ∧
        rd F.CANARY.TAMPER_STATUS_SENSORS t = rd F.CANARY.TAMPER_STATUS_SENSORS s ||| 2 ^ (if glitch then 5 else 4) ∧
        rd F.CANARY.TAMPER_STATUS_PHASE t = tamperPhase s ∧
        t.slots.all (fun x => !x.2.valid) = true ∧
        rd F.MGMT.START_RESET_KIND t = 4 ∧
        pageState 0x21 t = OFF ∧
        rd F.MGMT.START_STAGE t ≤ 1)) ∧
  (∀ (glitch : Bool) (s : State),
      tamperPhase s ≠ 4 →
      sensorOn (if glitch then 5 else 4) s = false →
      Calm s = true →
      Gives (.tamperEnv glitch) s (fun t =>
        t.root = s.root ∧
        t.slots = s.slots ∧
        t.boot = s.boot ∧
        rd F.CANARY.TAMPER_STATUS_SENSORS t = rd F.CANARY.TAMPER_STATUS_SENSORS s ∧
        Within [] [] s t)) ∧
  (∀ (glitch : Bool) (s : State),
      batteryOnly s = true →
      rd F.CANARY.TAMPER_STATUS_SENSORS s < 64 →
      Calm s = true →
      Gives (.tamperEnv glitch) s (fun t =>
        t.watch.deferred = s.watch.deferred ++ [cairnItem K_TAMPER [rd F.CANARY.TAMPER_STATUS_SENSORS s ||| 2 ^ (if glitch then 5 else 4), 4] s] ∧
        t.root.mask = none ∧
        t.slots = s.slots ∧
        t.boot = s.boot ∧
        rd F.CANARY.TAMPER_STATUS_PHASE t = 4)) ∧
  (∀ (s : State),
      Gives .tamperDomainSupplyLoss s (fun t =>
        t.root.mask = none ∧
        t.root = { s.root with mask := none } ∧
        Within [] [.root] s t))

/-- Retirement of a front end, wear, checkpoints and cairn records (R601, R602, R603, R604, R609, R610, R611, R612).
RETIRE_FE with its key retires a stopped or failed front end for good and records it; without it, or with the front end
in service, nothing is retired; a wear sample charges each power amplifier near its limit and the time in bivouac; an
oscillator measurement gives four monitors their losses; a checkpoint replaces the older copy; NOTE_GO queues a NOTE
record of the two words, and while 32 wait it counts in DROPPED; the oldest waiting record is written at HEAD with the
next SEQ; a read of REC[0] latches the record that SEL names. -/
def Obligations.WearAndRecords : Prop :=
  (∀ (route : Route) (data : Word) (s : State) (k : Fin 4),
      reaches 0x05 route = true →
      data.toNat = 0x5A3C0000 + k.val →
      7 ≤ rd F.MGMT.START_STAGE s →
      pageState (fePage k.val) s ∈ [FAULT, STOPPED] →
      refusal 0x05 0x068 route data.toNat s = none →
      s.cairn.queue.length < 32 →
      Calm s = true →
      Gives (.retireFe route data) s (fun t =>
        pageState (fePage k.val) t = RETIRED ∧
        isRetired 3 k.val t = true ∧
        rf k.val t = RF_RETIRED ∧
        t.cairn.queue.contains (cairnItem K_RETIRED [3, k.val] s) = true ∧
        Within (([.page 0x05, .word 0x08 0x014, .word 0x08 0x00C, .word 0x08 0x05C, .word 0x08 0x04C, .word 0x09 0x014,
          .word 0x09 0x00C, .word 0x09 0x05C, .word 0x09 0x04C, .word 0x0A 0x014, .word 0x0A 0x00C, .word 0x0A 0x05C, .word
          0x0A 0x04C, .word 0x0B 0x014, .word 0x0B 0x00C, .word 0x0B 0x05C, .word 0x0B 0x04C, .page 0x10] : List Scope) ++
          airScopes) (([.spi, .fes] : List Part) ++ airParts) s t)) ∧
  (∀ (route : Route) (data : Word) (s : State),
      reaches 0x05 route = true →
      data.toNat / 65536 ≠ 0x5A3C ∨ (pageState (fePage (data.toNat % 4)) s ∉ [FAULT, STOPPED]) →
      Calm s = true →
      Gives (.retireFe route data) s (fun t =>
        (List.range 4).all (fun p => pageState (fePage p) t == pageState (fePage p) s && rf p t == rf p s && isRetired 3 p t
          == isRetired 3 p s) = true ∧
        Within (([.page 0x05, .word 0x08 0x014, .word 0x08 0x00C, .word 0x08 0x05C, .word 0x08 0x04C, .word 0x09 0x014,
          .word 0x09 0x00C, .word 0x09 0x05C, .word 0x09 0x04C, .word 0x0A 0x014, .word 0x0A 0x00C, .word 0x0A 0x05C, .word
          0x0A 0x04C, .word 0x0B 0x014, .word 0x0B 0x00C, .word 0x0B 0x05C, .word 0x0B 0x04C, .page 0x10] : List Scope) ++
          airScopes) (([.spi, .fes] : List Part) ++ airParts) s t)) ∧
  (∀ (s : State),
      Gives .wearSample s (fun t =>
        (List.range 4).all (fun p => decide (look t.wear.acc (4 + p) 0 = (if rf p s = RF_TX ∧ bandMax (Machine.fe p s).band
          - 6 ≤ rdInt (F.FE.TX_STATUS_APPLIED p) s then (look s.wear.acc (4 + p) 0 + 1) % 3155760 else look s.wear.acc (4 +
          p) 0))) = true ∧
        look t.wear.acc 15 0 = (if 2 ≤ rd F.CANARY.BIVOUAC_STATE s then (look s.wear.acc 15 0 + 1) % 288000 else look s.wear.acc 15 0) ∧
        t.wear.copy0 = s.wear.copy0 ∧
        t.wear.copy1 = s.wear.copy1 ∧
        Within [.page 0x05] [.wear] s t)) ∧
  (∀ (l0 : Nat) (l1 : Nat) (l2 : Nat) (l3 : Nat) (s : State),
      Gives (.wearOscillatorMeasure l0 l1 l2 l3) s (fun t =>
        rd (F.RESERVE.WEAR 8) t = min 65535 (l0 / 5) ∧
        rd (F.RESERVE.WEAR 9) t = min 65535 (l1 / 5) ∧
        rd (F.RESERVE.WEAR 10) t = min 65535 (l2 / 5) ∧
        rd (F.RESERVE.WEAR 11) t = min 65535 (l3 / 5) ∧
        Within [.page 0x05] [] s t)) ∧
  (∀ (s : State) (c : Checkpoint),
      c = { powered := rd F.RESERVE.POWERED_S s, wear := (List.range 16).map (fun i => rd (F.RESERVE.WEAR i) s) } →
      Gives .wearCheckpoint s (fun t =>
        t.wear = (if s.wear.second then { s.wear with copy0 := c, second := false } else { s.wear with copy1 := c, second := true }) ∧
        Within [] [.wear] s t)) ∧
  (∀ (s : State),
      Accepted 0x06 0x088 1 s →
      s.cairn.queue.length < 32 →
      Gives .noteGo s (fun t =>
        t.cairn.queue = s.cairn.queue ++ [cairnItem K_NOTE (octetsOf 4 (rd (F.CAIRN.NOTE 0) s) ++ octetsOf 4 (rd
          (F.CAIRN.NOTE 1) s)) s] ∧
        rd F.CAIRN.DROPPED t = rd F.CAIRN.DROPPED s ∧
        Within [] [] s t)) ∧
  (∀ (s : State),
      Accepted 0x06 0x088 1 s →
      s.cairn.queue.length = 32 →
      Gives .noteGo s (fun t =>
        t.cairn.queue = s.cairn.queue ∧
        rd F.CAIRN.DROPPED t = (rd F.CAIRN.DROPPED s + 1) % 2 ^ 32 ∧
        Within [] [] s t)) ∧
  (∀ (s : State) (x : CairnItem) (r : List CairnItem),
      s.cairn.queue = x :: r →
      s.cairn.dropped = 0 →
      Gives .cairnRecordWrite s (fun t =>
        t.cairn.queue = r ∧
        look t.cairn.store (rd F.CAIRN.HEAD s) [] = recordOctets x (rd F.CAIRN.SEQ_NEXT s) (slowClock s) ∧
        rd F.CAIRN.HEAD t = (rd F.CAIRN.HEAD s + 1) % 1024 ∧
        rd F.CAIRN.SEQ_NEXT t = (rd F.CAIRN.SEQ_NEXT s + 1) % 2 ^ 32 ∧
        rd F.CAIRN.COUNT t = min 1024 (rd F.CAIRN.COUNT s + 1) ∧
        eventLatched 0x06 1 t ∧
        rd F.CAIRN.OVERWRITES t = (if rd F.CAIRN.COUNT s = 1024 then (rd F.CAIRN.OVERWRITES s + 1) % 2 ^ 32 else rd F.CAIRN.OVERWRITES s) ∧
        Within [.word 0x06 0x078, .word 0x06 0x014, .word 0x06 0x074, .word 0x06 0x040, .word 0x06 0x044, .word 0x06 0x048]
          [] s t)) ∧
  (∀ (s : State),
      Gives .cairnRecRead s (fun t =>
        (List.range 8).all (fun k => rd (F.CAIRN.REC k) t == leNat (((look s.cairn.store (rd F.CAIRN.SEL s) []).drop (4 *
          k)).take 4) % 2 ^ 32) = true ∧
        t.readData.toNat = rd (F.CAIRN.REC 0) t ∧
        Within [.page 0x06] [.readData] s t))

/-- Bivouac mode and deep hold: entry, exit and the clock that is left (R613, R614, R616, R617). KEY_MIRROR_DONE powers
down the host link and port 1; BIVOUAC_ENTERED shows BIVOUAC, counts the entry and records it; BIVOUAC_EXITED brings
every page that left service back to the state it held, STOPPED where it was in TEST; DEEP_AFTER and DEEP_NOW bring a
member in bivouac to deep hold, in which FE0, port 0 and flash are down and time runs in holdover; outside bivouac
DEEP_NOW is stored; and cleared it returns from deep hold to bivouac. -/
def Obligations.BivouacAndDeepHold : Prop :=
  (∀ (s : State),
      rd F.CANARY.BIVOUAC_STATE s = 1 →
      Calm s = true →
      Gives .keyMirrorDone s (fun t =>
        rd F.HOSTIF.LINK_UP t = 0 ∧
        rd (F.ETH.STATUS_UP 1) t = 0 ∧
        rd F.CANARY.BIVOUAC_STATE t = 1 ∧
        Within [.word 0x40 0x040, .word 0x40 0x074, .word 0x40 0x078, .word 0x40 0x014, .word 0x04 0x06C, .word 0x4C
          0x014, .word 0x4C 0x050, .word 0x4C 0x04C, .word 0x4C 0x048, .word 0x4C 0x044, .word 0x39 0x070, .word 0x39
          0x074, .word 0x39 0x014, .word 0x39 0x078, .word 0x39 0x0AC, .word 0x20 0x0D0, .word 0x20 0x0D4, .word 0x20
          0x0D8, .word 0x20 0x0DC, .page 0x1B, .page 0x41, .page 0x3B, .word 0x38 0x070, .word 0x38 0x074, .word 0x38
          0x014, .word 0x38 0x078, .word 0x38 0x0AC, .page 0x3A] [.ddr, .notices, .copy, .ports, .nodes, .ledger, .rings,
          .boot] s t)) ∧
  (∀ (s : State),
      rd F.CANARY.BIVOUAC_STATE s = 1 →
      rd F.PWR.PWR_FAIL_LEVEL s = 0 →
      s.cairn.queue.length < 32 →
      Gives .bivouacEntered s (fun t =>
        rd F.CANARY.BIVOUAC_STATE t = 2 ∧
        rd F.CANARY.BIVOUAC_ENTRIES t = (rd F.CANARY.BIVOUAC_ENTRIES s + 1) % 2 ^ 32 ∧
        eventLatched 0x03 6 t ∧
        t.cairn.queue.contains (cairnItem K_BIVOUAC [2] s) = true ∧
        Within (([.word 0x03 0x054, .word 0x03 0x04C, .word 0x03 0x014, .page 0x10, .word 0x08 0x05C, .word 0x08 0x04C,
          .page 0x24, .page 0x25, .page 0x26, .page 0x27, .word 0x02 0x014, .word 0x09 0x05C, .word 0x09 0x04C, .word 0x0A
          0x05C, .word 0x0A 0x04C, .word 0x0B 0x05C, .word 0x0B 0x04C] : List Scope) ++ headScopes ++ airScopes) (([.fes,
          .scheds, .duty, .frames, .relief] : List Part) ++ airParts) s t)) ∧
  (∀ (s : State),
      2 ≤ rd F.CANARY.BIVOUAC_STATE s →
      rd F.PWR.PWR_FAIL_LEVEL s = 1 →
      (s.boot.saved.map (·.1)).Nodup →
      s.boot.saved.all (fun x => isPage x.1 && decide (x.1 < 0x80) && decide (x.2 < 8)) = true →
      Gives .bivouacExited s (fun t =>
        rd F.CANARY.BIVOUAC_STATE t = 0 ∧
        t.boot.saved = [] ∧
        eventLatched 0x03 7 t ∧
        s.boot.saved.all (fun x => (feOf x.1).isSome || pageState x.1 t == (if x.2 = TEST then STOPPED else x.2)) = true ∧
        Within (([.page 0x10, .word 0x08 0x05C, .word 0x08 0x04C, .word 0x09 0x05C, .word 0x09 0x04C, .word 0x0A 0x05C,
          .word 0x0A 0x04C, .word 0x0B 0x05C, .word 0x0B 0x04C, .word 0x0B 0x014, .word 0x0B 0x050, .word 0x38 0x070, .word
          0x38 0x074, .word 0x38 0x014, .word 0x38 0x078, .word 0x38 0x0AC, .word 0x4C 0x014, .word 0x4C 0x050, .word 0x4C
          0x04C, .word 0x4C 0x048, .word 0x4C 0x044, .word 0x20 0x0D0, .word 0x20 0x0D4, .word 0x20 0x0D8, .word 0x20 0x0DC,
          .page 0x1B, .page 0x41, .page 0x3A, .word 0x39 0x070, .word 0x39 0x074, .word 0x39 0x014, .word 0x39 0x078, .word
          0x39 0x0AC, .page 0x3B, .word 0x03 0x014, .word 0x03 0x04C] : List Scope) ++ headScopes ++ airScopes) (([.fes,
          .boot, .notices, .ports, .nodes, .ledger, .ddr, .rings, .relief] : List Part) ++ airParts) s t)) ∧
  (∀ (s : State),
      rd F.CANARY.BIVOUAC_STATE s < 2 ∨ rd F.PWR.PWR_FAIL_LEVEL s = 0 →
      Calm s = true →
      Gives .bivouacExited s (fun t =>
        rd F.CANARY.BIVOUAC_STATE t = rd F.CANARY.BIVOUAC_STATE s ∧
        t.boot = s.boot ∧
        Within (([.page 0x10, .word 0x08 0x05C, .word 0x08 0x04C, .word 0x09 0x05C, .word 0x09 0x04C, .word 0x0A 0x05C,
          .word 0x0A 0x04C, .word 0x0B 0x05C, .word 0x0B 0x04C, .word 0x0B 0x014, .word 0x0B 0x050, .word 0x38 0x070, .word
          0x38 0x074, .word 0x38 0x014, .word 0x38 0x078, .word 0x38 0x0AC, .word 0x4C 0x014, .word 0x4C 0x050, .word 0x4C
          0x04C, .word 0x4C 0x048, .word 0x4C 0x044, .word 0x20 0x0D0, .word 0x20 0x0D4, .word 0x20 0x0D8, .word 0x20 0x0DC,
          .page 0x1B, .page 0x41, .page 0x3A, .word 0x39 0x070, .word 0x39 0x074, .word 0x39 0x014, .word 0x39 0x078, .word
          0x39 0x0AC, .page 0x3B, .word 0x03 0x014, .word 0x03 0x04C] : List Scope) ++ headScopes ++ airScopes) (([.fes,
          .boot, .notices, .ports, .nodes, .ledger, .ddr, .rings, .relief] : List Part) ++ airParts) s t)) ∧
  (∀ (s : State),
      rd F.CANARY.BIVOUAC_CFG_DEEP_AFTER s ≠ 0 →
      rd F.CANARY.BIVOUAC_STATE s = 2 →
      rd F.PWR.PWR_FAIL_LEVEL s = 0 →
      Gives .deepAfterExpiry s (fun t =>
        rd F.CANARY.BIVOUAC_STATE t = 3 ∧
        [0x08, 0x38, 0x45].all (fun pg => pageState pg t == STOPPED || pageState pg s ∈ [OFF, FAULT, RETIRED]) = true ∧
        (rd F.CLK.PLL_STATUS_LOCK t).testBit 0 = false ∧
        (rd F.TIME.STATUS_UNSET s = 1 ∨ rd F.TIME.STATUS_HOLDOVER t = 1) ∧
        Within (([.page 0x10, .word 0x08 0x05C, .word 0x08 0x04C, .word 0x08 0x030, .word 0x08 0x014, .word 0x08 0x078,
          .word 0x09 0x05C, .word 0x09 0x04C, .word 0x09 0x030, .word 0x09 0x014, .word 0x09 0x078, .word 0x0A 0x05C, .word
          0x0A 0x04C, .word 0x0A 0x030, .word 0x0A 0x014, .word 0x0A 0x078, .word 0x0B 0x05C, .word 0x0B 0x04C, .word 0x0B
          0x050, .word 0x0B 0x030, .word 0x0B 0x014, .word 0x0B 0x078, .word 0x38 0x070, .word 0x38 0x074, .word 0x38 0x014,
          .word 0x38 0x078, .word 0x38 0x0AC, .word 0x39 0x070, .word 0x39 0x074, .word 0x39 0x014, .word 0x39 0x078, .word
          0x39 0x0AC, .word 0x4C 0x014, .word 0x4C 0x050, .word 0x4C 0x04C, .word 0x4C 0x048, .word 0x4C 0x044, .word 0x20
          0x0D0, .word 0x20 0x0D4, .word 0x20 0x0D8, .word 0x20 0x0DC, .word 0x20 0x058, .page 0x1B, .page 0x41, .page 0x3A,
          .page 0x3B, .word 0x4A 0x058, .word 0x4A 0x050, .word 0x4A 0x014, .page 0x31, .page 0x24, .page 0x25, .page 0x26,
          .page 0x27, .word 0x19 0x0B4, .word 0x19 0x0A4, .word 0x19 0x0A8, .word 0x19 0x0AC, .word 0x19 0x0B0, .word 0x19
          0x0B8, .word 0x21 0x050, .word 0x21 0x04C, .page 0x11, .word 0x22 0x054, .word 0x22 0x050, .word 0x22 0x058, .page
          0x29, .word 0x0C 0x014, .word 0x0C 0x04C, .page 0x80, .word 0x30 0x0B8, .word 0x30 0x014, .word 0x32 0x0A8, .word
          0x32 0x014, .page 0x33, .word 0x40 0x074, .word 0x40 0x078, .word 0x45 0x04C, .word 0x45 0x014, .word 0x45 0x048,
          .word 0x48 0x04C, .word 0x03 0x04C, .word 0x3C 0x014, .word 0x3C 0x070, .word 0x01 0x040] : List Scope) ++
          headScopes ++ airScopes) (([.boot, .fes, .notices, .ports, .nodes, .ledger, .ddr, .rings, .clock, .rope, .duty,
          .frames, .lanes, .scheds, .relief, .reasm, .campaigns, .frameNumbers, .keyOp, .jobs, .copy, .fw, .poolTest, .wear,
          .plls] : List Part) ++ airParts) s t)) ∧
  (∀ (s : State),
      Accepted 0x03 0x050 1 s →
      rd F.CANARY.BIVOUAC_STATE s = 2 →
      rd F.PWR.PWR_FAIL_LEVEL s = 0 →
      Gives .deepNowSet s (fun t =>
        rd F.CANARY.BIVOUAC_STATE t = 3 ∧
        [0x08, 0x38, 0x45].all (fun pg => pageState pg t == STOPPED || pageState pg s ∈ [OFF, FAULT, RETIRED]) = true ∧
        (rd F.CLK.PLL_STATUS_LOCK t).testBit 0 = false ∧
        (rd F.TIME.STATUS_UNSET s = 1 ∨ rd F.TIME.STATUS_HOLDOVER t = 1) ∧
        rd F.CANARY.BIVOUAC_DEEP_NOW t = 1 ∧
        Within (([.page 0x10, .word 0x08 0x05C, .word 0x08 0x04C, .word 0x08 0x030, .word 0x08 0x014, .word 0x08 0x078,
          .word 0x09 0x05C, .word 0x09 0x04C, .word 0x09 0x030, .word 0x09 0x014, .word 0x09 0x078, .word 0x0A 0x05C, .word
          0x0A 0x04C, .word 0x0A 0x030, .word 0x0A 0x014, .word 0x0A 0x078, .word 0x0B 0x05C, .word 0x0B 0x04C, .word 0x0B
          0x050, .word 0x0B 0x030, .word 0x0B 0x014, .word 0x0B 0x078, .word 0x38 0x070, .word 0x38 0x074, .word 0x38 0x014,
          .word 0x38 0x078, .word 0x38 0x0AC, .word 0x39 0x070, .word 0x39 0x074, .word 0x39 0x014, .word 0x39 0x078, .word
          0x39 0x0AC, .word 0x4C 0x014, .word 0x4C 0x050, .word 0x4C 0x04C, .word 0x4C 0x048, .word 0x4C 0x044, .word 0x20
          0x0D0, .word 0x20 0x0D4, .word 0x20 0x0D8, .word 0x20 0x0DC, .word 0x20 0x058, .page 0x1B, .page 0x41, .page 0x3A,
          .page 0x3B, .word 0x4A 0x058, .word 0x4A 0x050, .word 0x4A 0x014, .page 0x31, .page 0x24, .page 0x25, .page 0x26,
          .page 0x27, .word 0x19 0x0B4, .word 0x19 0x0A4, .word 0x19 0x0A8, .word 0x19 0x0AC, .word 0x19 0x0B0, .word 0x19
          0x0B8, .word 0x21 0x050, .word 0x21 0x04C, .page 0x11, .word 0x22 0x054, .word 0x22 0x050, .word 0x22 0x058, .page
          0x29, .word 0x0C 0x014, .word 0x0C 0x04C, .page 0x80, .word 0x30 0x0B8, .word 0x30 0x014, .word 0x32 0x0A8, .word
          0x32 0x014, .page 0x33, .word 0x40 0x074, .word 0x40 0x078, .word 0x45 0x04C, .word 0x45 0x014, .word 0x45 0x048,
          .word 0x48 0x04C, .word 0x03 0x04C, .word 0x03 0x050, .word 0x3C 0x014, .word 0x3C 0x070, .word 0x01 0x040] : List
          Scope) ++ headScopes ++ airScopes) (([.boot, .fes, .notices, .ports, .nodes, .ledger, .ddr, .rings, .clock, .rope,
          .duty, .frames, .lanes, .scheds, .relief, .reasm, .campaigns, .frameNumbers, .keyOp, .jobs, .copy, .fw, .poolTest,
          .wear, .plls] : List Part) ++ airParts) s t)) ∧
  (∀ (s : State),
      Accepted 0x03 0x050 1 s →
      rd F.CANARY.BIVOUAC_STATE s ≠ 2 →
      Calm s = true →
      Gives .deepNowSet s (fun t =>
        rd F.CANARY.BIVOUAC_STATE t = rd F.CANARY.BIVOUAC_STATE s ∧
        rd F.CANARY.BIVOUAC_DEEP_NOW t = 1 ∧
        t.boot = s.boot ∧
        Within (([.page 0x10, .word 0x08 0x05C, .word 0x08 0x04C, .word 0x08 0x030, .word 0x08 0x014, .word 0x08 0x078,
          .word 0x09 0x05C, .word 0x09 0x04C, .word 0x09 0x030, .word 0x09 0x014, .word 0x09 0x078, .word 0x0A 0x05C, .word
          0x0A 0x04C, .word 0x0A 0x030, .word 0x0A 0x014, .word 0x0A 0x078, .word 0x0B 0x05C, .word 0x0B 0x04C, .word 0x0B
          0x050, .word 0x0B 0x030, .word 0x0B 0x014, .word 0x0B 0x078, .word 0x38 0x070, .word 0x38 0x074, .word 0x38 0x014,
          .word 0x38 0x078, .word 0x38 0x0AC, .word 0x39 0x070, .word 0x39 0x074, .word 0x39 0x014, .word 0x39 0x078, .word
          0x39 0x0AC, .word 0x4C 0x014, .word 0x4C 0x050, .word 0x4C 0x04C, .word 0x4C 0x048, .word 0x4C 0x044, .word 0x20
          0x0D0, .word 0x20 0x0D4, .word 0x20 0x0D8, .word 0x20 0x0DC, .word 0x20 0x058, .page 0x1B, .page 0x41, .page 0x3A,
          .page 0x3B, .word 0x4A 0x058, .word 0x4A 0x050, .word 0x4A 0x014, .page 0x31, .page 0x24, .page 0x25, .page 0x26,
          .page 0x27, .word 0x19 0x0B4, .word 0x19 0x0A4, .word 0x19 0x0A8, .word 0x19 0x0AC, .word 0x19 0x0B0, .word 0x19
          0x0B8, .word 0x21 0x050, .word 0x21 0x04C, .page 0x11, .word 0x22 0x054, .word 0x22 0x050, .word 0x22 0x058, .page
          0x29, .word 0x0C 0x014, .word 0x0C 0x04C, .page 0x80, .word 0x30 0x0B8, .word 0x30 0x014, .word 0x32 0x0A8, .word
          0x32 0x014, .page 0x33, .word 0x40 0x074, .word 0x40 0x078, .word 0x45 0x04C, .word 0x45 0x014, .word 0x45 0x048,
          .word 0x48 0x04C, .word 0x03 0x04C, .word 0x03 0x050, .word 0x3C 0x014, .word 0x3C 0x070, .word 0x01 0x040] : List
          Scope) ++ headScopes ++ airScopes) (([.boot, .fes, .notices, .ports, .nodes, .ledger, .ddr, .rings, .clock, .rope,
          .duty, .frames, .lanes, .scheds, .relief, .reasm, .campaigns, .frameNumbers, .keyOp, .jobs, .copy, .fw, .poolTest,
          .wear, .plls] : List Part) ++ airParts) s t)) ∧
  (∀ (s : State),
      Accepted 0x03 0x050 0 s →
      rd F.CANARY.BIVOUAC_STATE s = 3 →
      rd F.PWR.PWR_FAIL_LEVEL s = 0 →
      s.cairn.queue.length < 32 →
      Gives .deepNowClear s (fun t =>
        rd F.CANARY.BIVOUAC_STATE t = 2 ∧
        rd F.CANARY.BIVOUAC_DEEP_NOW t = 0 ∧
        t.cairn.queue.contains (cairnItem K_BIVOUAC [2] s) = true ∧
        Within (([.word 0x03 0x050, .word 0x03 0x04C, .page 0x10, .word 0x08 0x05C, .word 0x08 0x04C, .word 0x09 0x05C,
          .word 0x09 0x04C, .word 0x0A 0x05C, .word 0x0A 0x04C, .word 0x0B 0x05C, .word 0x0B 0x04C] : List Scope) ++
          headScopes ++ airScopes) (([.boot, .fes] : List Part) ++ airParts) s t)) ∧
  (∀ (s : State),
      Accepted 0x03 0x050 0 s →
      rd F.CANARY.BIVOUAC_STATE s ≠ 3 →
      Calm s = true →
      Gives .deepNowClear s (fun t =>
        rd F.CANARY.BIVOUAC_STATE t = rd F.CANARY.BIVOUAC_STATE s ∧
        rd F.CANARY.BIVOUAC_DEEP_NOW t = 0 ∧
        t.boot = s.boot ∧
        Within (([.word 0x03 0x050, .word 0x03 0x04C, .page 0x10, .word 0x08 0x05C, .word 0x08 0x04C, .word 0x09 0x05C,
          .word 0x09 0x04C, .word 0x0A 0x05C, .word 0x0A 0x04C, .word 0x0B 0x05C, .word 0x0B 0x04C] : List Scope) ++
          headScopes ++ airScopes) (([.boot, .fes] : List Part) ++ airParts) s t))

/-- Power-on reset, the reset pin, the locked clocks and the step to RUN (R622, R623, R626, R628, R629). POWER_ON_RESET
holds the core domain with every page OFF; RST_N restarts it at STAGE 1 with source 1, and device time, the banks and
the journal stay; START_CLOCKS_LOCKED locks both PLLs and the start leaves step 1; with the reference absent it waits;
START_RUN ends the start: STAGE 8 with RUN_MS; with mains down bivouac entry begins. -/
def Obligations.ResetsAndStart : Prop :=
  (∀ (s : State),
      Gives .powerOnReset s (fun t =>
        t.boot.held = true ∧
        rd F.MGMT.START_RESET_KIND t = (if s.boot.held || resetNow s then severer R_POWER s else R_POWER) ∧
        rd F.MGMT.START_WARM_SOURCE t = 0 ∧
        rd F.MGMT.START_STAGE t = 0 ∧
        pageState 0x21 t = OFF ∧
        pageState 0x29 t = OFF ∧
        t.frames = [] ∧
        t.banks = s.banks ∧
        t.journal = s.journal)) ∧
  (∀ (s : State),
      s.boot.held = false →
      resetNow s = false →
      Gives .rstN s (fun t =>
        rd F.MGMT.START_RESET_KIND t = R_WARM ∧
        rd F.MGMT.START_WARM_SOURCE t = 1 ∧
        rd F.MGMT.START_STAGE t = 1 ∧
        t.clock.device = s.clock.device ∧
        rd F.RESERVE.POWERED_S t = rd F.RESERVE.POWERED_S s ∧
        rd F.CANARY.TAMPER_STATUS_SENSORS t = rd F.CANARY.TAMPER_STATUS_SENSORS s ∧
        pageState 0x21 t = OFF ∧
        pageState 0x29 t = OFF ∧
        t.frames = [] ∧
        t.banks = s.banks ∧
        t.journal = s.journal)) ∧
  (∀ (puf : PufRead) (entropyOk : Bool) (flashError : Bool) (pairs : BitVec 1024) (cs0Log2 : Nat) (cs1Log2 : Nat) (readBack : Bool) (s : State),
      s.boot.held = false →
      rd F.MGMT.START_STAGE s = 1 →
      s.watch.refclkAbsent = false →
      Gives (.startClocksLocked puf entropyOk flashError pairs cs0Log2 cs1Log2 readBack) s (fun t =>
        (rd F.CLK.PLL_STATUS_LOCK t).testBit 0 = true ∧
        (rd F.CLK.PLL_STATUS_LOCK t).testBit 1 = true ∧
        (rd F.MGMT.START_STAGE t ≠ 1 ∨ rd F.MGMT.START_RESET_KIND t = R_WARM))) ∧
  (∀ (puf : PufRead) (entropyOk : Bool) (flashError : Bool) (pairs : BitVec 1024) (cs0Log2 : Nat) (cs1Log2 : Nat) (readBack : Bool) (s : State),
      s.boot.held = true ∨ s.watch.refclkAbsent = true ∨ rd F.MGMT.START_STAGE s ≠ 1 →
      Calm s = true →
      Gives (.startClocksLocked puf entropyOk flashError pairs cs0Log2 cs1Log2 readBack) s (fun t =>
        rd F.MGMT.START_STAGE t = rd F.MGMT.START_STAGE s ∧
        t.root = s.root ∧
        t.plls = s.plls ∧
        Within [] [] s t)) ∧
  (∀ (s : State),
      rd F.MGMT.START_STAGE s = 7 →
      s.boot.powerLow = false →
      Gives .startRun s (fun t =>
        rd F.MGMT.START_STAGE t = 8 ∧
        rd F.MGMT.START_RUN_MS t = min 65535 ((s.now - s.boot.validAt) / 1000000) ∧
        rd F.CANARY.BIVOUAC_STATE t = rd F.CANARY.BIVOUAC_STATE s ∧
        t.boot = s.boot ∧
        Within (([.word 0x48 0x050, .word 0x48 0x054, .word 0x48 0x058, .word 0x48 0x05C, .word 0x48 0x060, .word 0x48
          0x064, .word 0x48 0x04C, .word 0x4E 0x068, .word 0x4E 0x060, .page 0x29, .page 0x24, .page 0x25, .page 0x26, .page
          0x27, .word 0x19 0x0B4, .word 0x19 0x0A4, .word 0x19 0x0A8, .word 0x19 0x0AC, .word 0x19 0x0B0, .word 0x19 0x0B8,
          .word 0x20 0x0D0, .word 0x20 0x0D4, .word 0x20 0x0D8, .word 0x20 0x0DC, .word 0x20 0x058, .page 0x1B, .word 0x21
          0x050, .word 0x21 0x04C, .page 0x31, .page 0x10, .word 0x08 0x05C, .word 0x08 0x04C, .word 0x08 0x030, .word 0x08
          0x014, .word 0x08 0x078, .word 0x09 0x05C, .word 0x09 0x04C, .word 0x09 0x030, .word 0x09 0x014, .word 0x09 0x078,
          .word 0x0A 0x05C, .word 0x0A 0x04C, .word 0x0A 0x030, .word 0x0A 0x014, .word 0x0A 0x078, .word 0x0B 0x05C, .word
          0x0B 0x04C, .word 0x0B 0x050, .word 0x0B 0x030, .word 0x0B 0x014, .word 0x0B 0x078, .word 0x0C 0x014, .word 0x0C
          0x04C, .word 0x38 0x070, .word 0x38 0x074, .word 0x38 0x014, .word 0x38 0x078, .word 0x38 0x0AC, .word 0x39 0x070,
          .word 0x39 0x074, .word 0x39 0x014, .word 0x39 0x078, .word 0x39 0x0AC, .word 0x4C 0x014, .word 0x4C 0x050, .word
          0x4C 0x04C, .word 0x4C 0x048, .word 0x4C 0x044, .page 0x41, .page 0x3A, .page 0x3B, .word 0x4A 0x058, .word 0x4A
          0x050, .word 0x4A 0x014, .page 0x11, .word 0x22 0x054, .word 0x22 0x050, .word 0x22 0x058, .page 0x80, .word 0x30
          0x0B8, .word 0x30 0x014, .word 0x32 0x0A8, .word 0x32 0x014, .page 0x33, .word 0x40 0x074, .word 0x40 0x078, .word
          0x45 0x04C, .word 0x45 0x014, .word 0x45 0x048, .word 0x03 0x04C] : List Scope) ++ headScopes ++ airScopes)
          (([.fw, .campaigns, .frames, .duty, .ledger, .nodes, .fes, .frameNumbers, .boot, .notices, .ports, .ddr, .rings,
          .clock, .rope, .lanes, .scheds, .relief, .reasm, .keyOp, .jobs, .copy, .poolTest, .delivered, .wear] : List Part)
          ++ airParts) s t)) ∧
  (∀ (s : State),
      rd F.MGMT.START_STAGE s = 7 →
      s.boot.powerLow = true →
      Gives .startRun s (fun t =>
        rd F.MGMT.START_STAGE t = 8 ∧
        rd F.CANARY.BIVOUAC_STATE t = 1 ∧
        Within (([.word 0x48 0x050, .word 0x48 0x054, .word 0x48 0x058, .word 0x48 0x05C, .word 0x48 0x060, .word 0x48
          0x064, .word 0x48 0x04C, .word 0x4E 0x068, .word 0x4E 0x060, .page 0x29, .page 0x24, .page 0x25, .page 0x26, .page
          0x27, .word 0x19 0x0B4, .word 0x19 0x0A4, .word 0x19 0x0A8, .word 0x19 0x0AC, .word 0x19 0x0B0, .word 0x19 0x0B8,
          .word 0x20 0x0D0, .word 0x20 0x0D4, .word 0x20 0x0D8, .word 0x20 0x0DC, .word 0x20 0x058, .page 0x1B, .word 0x21
          0x050, .word 0x21 0x04C, .page 0x31, .page 0x10, .word 0x08 0x05C, .word 0x08 0x04C, .word 0x08 0x030, .word 0x08
          0x014, .word 0x08 0x078, .word 0x09 0x05C, .word 0x09 0x04C, .word 0x09 0x030, .word 0x09 0x014, .word 0x09 0x078,
          .word 0x0A 0x05C, .word 0x0A 0x04C, .word 0x0A 0x030, .word 0x0A 0x014, .word 0x0A 0x078, .word 0x0B 0x05C, .word
          0x0B 0x04C, .word 0x0B 0x050, .word 0x0B 0x030, .word 0x0B 0x014, .word 0x0B 0x078, .word 0x0C 0x014, .word 0x0C
          0x04C, .word 0x38 0x070, .word 0x38 0x074, .word 0x38 0x014, .word 0x38 0x078, .word 0x38 0x0AC, .word 0x39 0x070,
          .word 0x39 0x074, .word 0x39 0x014, .word 0x39 0x078, .word 0x39 0x0AC, .word 0x4C 0x014, .word 0x4C 0x050, .word
          0x4C 0x04C, .word 0x4C 0x048, .word 0x4C 0x044, .page 0x41, .page 0x3A, .page 0x3B, .word 0x4A 0x058, .word 0x4A
          0x050, .word 0x4A 0x014, .page 0x11, .word 0x22 0x054, .word 0x22 0x050, .word 0x22 0x058, .page 0x80, .word 0x30
          0x0B8, .word 0x30 0x014, .word 0x32 0x0A8, .word 0x32 0x014, .page 0x33, .word 0x40 0x074, .word 0x40 0x078, .word
          0x45 0x04C, .word 0x45 0x014, .word 0x45 0x048, .word 0x03 0x04C] : List Scope) ++ headScopes ++ airScopes)
          (([.fw, .campaigns, .frames, .duty, .ledger, .nodes, .fes, .frameNumbers, .boot, .notices, .ports, .ddr, .rings,
          .clock, .rope, .lanes, .scheds, .relief, .reasm, .keyOp, .jobs, .copy, .poolTest, .delivered, .wear] : List Part)
          ++ airParts) s t)) ∧
  (∀ (s : State),
      rd F.MGMT.START_STAGE s ≠ 7 →
      Calm s = true →
      Gives .startRun s (fun t =>
        rd F.MGMT.START_STAGE t = rd F.MGMT.START_STAGE s ∧
        t.boot = s.boot ∧
        t.fw = s.fw ∧
        Within (([.word 0x48 0x050, .word 0x48 0x054, .word 0x48 0x058, .word 0x48 0x05C, .word 0x48 0x060, .word 0x48
          0x064, .word 0x48 0x04C, .word 0x4E 0x068, .word 0x4E 0x060, .page 0x29, .page 0x24, .page 0x25, .page 0x26, .page
          0x27, .word 0x19 0x0B4, .word 0x19 0x0A4, .word 0x19 0x0A8, .word 0x19 0x0AC, .word 0x19 0x0B0, .word 0x19 0x0B8,
          .word 0x20 0x0D0, .word 0x20 0x0D4, .word 0x20 0x0D8, .word 0x20 0x0DC, .word 0x20 0x058, .page 0x1B, .word 0x21
          0x050, .word 0x21 0x04C, .page 0x31, .page 0x10, .word 0x08 0x05C, .word 0x08 0x04C, .word 0x08 0x030, .word 0x08
          0x014, .word 0x08 0x078, .word 0x09 0x05C, .word 0x09 0x04C, .word 0x09 0x030, .word 0x09 0x014, .word 0x09 0x078,
          .word 0x0A 0x05C, .word 0x0A 0x04C, .word 0x0A 0x030, .word 0x0A 0x014, .word 0x0A 0x078, .word 0x0B 0x05C, .word
          0x0B 0x04C, .word 0x0B 0x050, .word 0x0B 0x030, .word 0x0B 0x014, .word 0x0B 0x078, .word 0x0C 0x014, .word 0x0C
          0x04C, .word 0x38 0x070, .word 0x38 0x074, .word 0x38 0x014, .word 0x38 0x078, .word 0x38 0x0AC, .word 0x39 0x070,
          .word 0x39 0x074, .word 0x39 0x014, .word 0x39 0x078, .word 0x39 0x0AC, .word 0x4C 0x014, .word 0x4C 0x050, .word
          0x4C 0x04C, .word 0x4C 0x048, .word 0x4C 0x044, .page 0x41, .page 0x3A, .page 0x3B, .word 0x4A 0x058, .word 0x4A
          0x050, .word 0x4A 0x014, .page 0x11, .word 0x22 0x054, .word 0x22 0x050, .word 0x22 0x058, .page 0x80, .word 0x30
          0x0B8, .word 0x30 0x014, .word 0x32 0x0A8, .word 0x32 0x014, .page 0x33, .word 0x40 0x074, .word 0x40 0x078, .word
          0x45 0x04C, .word 0x45 0x014, .word 0x45 0x048, .word 0x03 0x04C] : List Scope) ++ headScopes ++ airScopes)
          (([.fw, .campaigns, .frames, .duty, .ledger, .nodes, .fes, .frameNumbers, .boot, .notices, .ports, .ddr, .rings,
          .clock, .rope, .lanes, .scheds, .relief, .reasm, .keyOp, .jobs, .copy, .poolTest, .delivered, .wear] : List Part)
          ++ airParts) s t))

/-- A supply warning sets its latch, raises its event and writes a record, and changes nothing else in operation (R52).
SAG_WARN with room for a record: the latch of the rail, the event SAG_WARN and one SUPPLY record; beyond these only the
rail kept as low and the checkpoint that R604 asks for; SUPPLY_HIGH the same with HIGH_LATCH and SUPPLY_HIGH. -/
def Obligations.WarningsAreRecorded : Prop :=
  (∀ (rail : Fin 10) (s : State),
      s.cairn.queue.length < 32 →
      Gives (.sagWarn rail) s (fun t =>
        rd F.PWR.SAG_WARN_LATCH t = rd F.PWR.SAG_WARN_LATCH s ||| 2 ^ rail.val ∧
        eventLatched 0x02 0 t ∧
        (rd (F.HEAD.EVT_RAW 0x02) t).testBit 0 = true ∧
        rd F.PWR.HIGH_LATCH t = rd F.PWR.HIGH_LATCH s ∧
        t.cairn.queue = s.cairn.queue ++ [cairnItem K_SUPPLY (octetsOf 2 (2 ^ rail.val) ++ [0]) s] ∧
        Within [.word 0x02 0x014, .word 0x02 0x010, .word 0x02 0x044] [.watch, .wear] s t)) ∧
  (∀ (rail : Fin 10) (s : State),
      s.cairn.queue.length < 32 →
      Gives (.supplyHigh rail) s (fun t =>
        rd F.PWR.HIGH_LATCH t = rd F.PWR.HIGH_LATCH s ||| 2 ^ rail.val ∧
        eventLatched 0x02 1 t ∧
        (rd (F.HEAD.EVT_RAW 0x02) t).testBit 1 = true ∧
        rd F.PWR.SAG_WARN_LATCH t = rd F.PWR.SAG_WARN_LATCH s ∧
        t.cairn.queue = s.cairn.queue ++ [cairnItem K_SUPPLY (octetsOf 2 (2 ^ rail.val) ++ [1]) s] ∧
        Within [.word 0x02 0x014, .word 0x02 0x010, .word 0x02 0x048] [.watch] s t))

/-- Tamper enables: in PROVISIONED and DEPLOYED a write may set them and not clear them, and each enables its sensor
(R606). A write of CANARY.CFG that clears an enable bit in PROVISIONED or DEPLOYED is rejected as STATE and changes no
enable; one that clears none is accepted and sets the others; a mesh, switch, temperature or glitch sensor whose bit is
0 detects nothing while supplied. -/
def Obligations.TamperEnablesStay : Prop :=
  (∀ (bar : Bar) (addr : Nat) (byteEn : BitVec 4) (data : Word) (s : State),
      bar = .bar0 →
      addr = 0x3040 →
      byteEn = 15 →
      data.toNat &&& 0xFFFFFCC0 = 0 →
      7 ≤ rd F.MGMT.START_STAGE s →
      rd (F.HEAD.CTRL_LOCK 0x03) s = 0 →
      rd F.IDENT.LIFECYCLE s = 2 ∨ rd F.IDENT.LIFECYCLE s = 3 →
      [F.CANARY.CFG_MESH_EN, F.CANARY.CFG_SW_EN, F.CANARY.CFG_TEMP_EN, F.CANARY.CFG_GLITCH_EN].any (fun f => rd f s &&&
        f.slice data.toNat != rd f s) = true →
      Calm s = true →
      Gives (.registerWrite bar addr byteEn data) s (fun t =>
        [F.CANARY.CFG_MESH_EN, F.CANARY.CFG_SW_EN, F.CANARY.CFG_TEMP_EN, F.CANARY.CFG_GLITCH_EN].all (fun f => rd f t == rd
          f s) = true ∧
        rd F.CANARY.CFG_SW_POL t = rd F.CANARY.CFG_SW_POL s ∧
        rd (F.HEAD.REJECT_ADDR_REASON 0x03) t = Reason.state.code ∧
        eventLatched 0x03 31 t)) ∧
  (∀ (bar : Bar) (addr : Nat) (byteEn : BitVec 4) (data : Word) (s : State),
      bar = .bar0 →
      addr = 0x3040 →
      byteEn = 15 →
      data.toNat &&& 0xFFFFFCC0 = 0 →
      7 ≤ rd F.MGMT.START_STAGE s →
      rd (F.HEAD.CTRL_LOCK 0x03) s = 0 →
      rd F.IDENT.LIFECYCLE s = 2 ∨ rd F.IDENT.LIFECYCLE s = 3 →
      [F.CANARY.CFG_MESH_EN, F.CANARY.CFG_SW_EN, F.CANARY.CFG_TEMP_EN, F.CANARY.CFG_GLITCH_EN].all (fun f => rd f s &&&
        f.slice data.toNat == rd f s) = true →
      Calm s = true →
      Gives (.registerWrite bar addr byteEn data) s (fun t =>
        [F.CANARY.CFG_MESH_EN, F.CANARY.CFG_SW_EN, F.CANARY.CFG_TEMP_EN, F.CANARY.CFG_GLITCH_EN].all (fun f => rd f t ==
          f.slice data.toNat) = true ∧
        Within [.word 0x03 0x040] [] s t)) ∧
  (∀ (sensor : Fin 2) (s : State),
      tamperPhase s ≠ 4 →
      (rd F.CANARY.CFG_MESH_EN s).testBit sensor.val = false →
      Calm s = true →
      Gives (.tamperMesh sensor) s (fun t =>
        rd F.CANARY.TAMPER_STATUS_SENSORS t = rd F.CANARY.TAMPER_STATUS_SENSORS s ∧
        t.root = s.root ∧
        t.slots = s.slots ∧
        Within [] [] s t)) ∧
  (∀ (sensor : Fin 2) (s : State),
      tamperPhase s ≠ 4 →
      (rd F.CANARY.CFG_SW_EN s).testBit sensor.val = false →
      Calm s = true →
      Gives (.tamperSwitch sensor) s (fun t =>
        rd F.CANARY.TAMPER_STATUS_SENSORS t = rd F.CANARY.TAMPER_STATUS_SENSORS s ∧
        t.root = s.root ∧
        t.slots = s.slots ∧
        Within [] [] s t)) ∧
  (∀ (glitch : Bool) (s : State),
      tamperPhase s ≠ 4 →
      rd (if glitch then F.CANARY.CFG_GLITCH_EN else F.CANARY.CFG_TEMP_EN) s = 0 →
      Calm s = true →
      Gives (.tamperEnv glitch) s (fun t =>
        rd F.CANARY.TAMPER_STATUS_SENSORS t = rd F.CANARY.TAMPER_STATUS_SENSORS s ∧
        t.root = s.root ∧
        t.slots = s.slots ∧
        Within [] [] s t))

/-- A DDR error during a node command ends it as DDR_ERROR and leaves the core record unchanged (R288). A DDR error
during NODE_READ, NODE_ADMIT, NODE_UPDATE, NODE_REMOVE or NODE_PIN that passes its checks gives RESULT DDR_ERROR and the
core record is unchanged. -/
def Obligations.NodeCommandDdrErrors : Prop :=
  (∀ (index : Fin 262144) (find : NodeFind) (s : State),
      Accepted 0x20 0x054 (index.val + 1 * 2 ^ 24) s →
      pageState 0x20 s = RUN →
      rd F.NODE.CMD_STATUS_BUSY s = 0 →
      reservedIndex index.val = false →
      find = .ddrError →
      Calm s = true →
      Gives (.nodeRead index find) s (fun t =>
        rd F.NODE.CMD_STATUS_RESULT t = N_DDR_ERROR ∧
        rd F.NODE.CMD_STATUS_BUSY t = 0 ∧
        (node index.val t).core = (node index.val s).core ∧
        (t.nodes = s.nodes ∨ Calm s = false) ∧
        Within [.page 0x20] [.spi] s t)) ∧
  (∀ (index : Fin 262144) (find : NodeFind) (s : State) (c : Node),
      Accepted 0x20 0x054 (index.val + 2 * 2 ^ 24) s →
      pageState 0x20 s = RUN →
      rd F.NODE.CMD_STATUS_BUSY s = 0 →
      reservedIndex index.val = false →
      (node index.val s).valid = false →
      c = { core := cmdCore s, ext := cmdExt s } →
      keyRefValid c.keyRef = true →
      c.piton = true → (wellFormedPath index.val c.core c.ext).isSome = true →
      find = .ddrError →
      Calm s = true →
      Gives (.nodeAdmit index find) s (fun t =>
        rd F.NODE.CMD_STATUS_RESULT t = N_DDR_ERROR ∧
        rd F.NODE.CMD_STATUS_BUSY t = 0 ∧
        (node index.val t).core = (node index.val s).core ∧
        (t.nodes = s.nodes ∨ Calm s = false) ∧
        Within [.page 0x20, .word 0x30 0x098, .page 0x1B] [.spi, .cache, .nodes] s t)) ∧
  (∀ (index : Fin 262144) (find : NodeFind) (s : State),
      Accepted 0x20 0x054 (index.val + 3 * 2 ^ 24) s →
      pageState 0x20 s = RUN →
      rd F.NODE.CMD_STATUS_BUSY s = 0 →
      reservedIndex index.val = false →
      (node index.val s).valid = true →
      rd F.NODE.CMD_MASK s < 2 ^ 16 →
      rd F.NODE.CMD_FLAG_MASK s = 0 →
      rd F.NODE.CMD_EXT_MASK s = 0 →
      keyRefValid (maskExt 0 (cmdExt s) (maskFlags 0 (cmdCore s) (maskCore (rd F.NODE.CMD_MASK s) (cmdCore s) (node
        index.val s)))).keyRef = true →
      find = .ddrError →
      Calm s = true →
      Gives (.nodeUpdate index find) s (fun t =>
        rd F.NODE.CMD_STATUS_RESULT t = N_DDR_ERROR ∧
        rd F.NODE.CMD_STATUS_BUSY t = 0 ∧
        (node index.val t).core = (node index.val s).core ∧
        (t.nodes = s.nodes ∨ Calm s = false) ∧
        Within [.page 0x20, .page 0x1B, .word 0x30 0x098] [.spi, .nodes, .cache] s t)) ∧
  (∀ (index : Fin 262144) (find : NodeFind) (s : State),
      Accepted 0x20 0x054 (index.val + 4 * 2 ^ 24) s →
      pageState 0x20 s = RUN →
      rd F.NODE.CMD_STATUS_BUSY s = 0 →
      reservedIndex index.val = false →
      (node index.val s).valid = true →
      find = .ddrError →
      Gives (.nodeRemove index find) s (fun t =>
        rd F.NODE.CMD_STATUS_RESULT t = N_DDR_ERROR ∧
        rd F.NODE.CMD_STATUS_BUSY t = 0 ∧
        (node index.val t).core = (node index.val s).core ∧
        (t.nodes = s.nodes ∨ Calm s = false) ∧
        Within (([.page 0x20, .page 0x24, .page 0x25, .page 0x26, .page 0x27, .word 0x19 0x0B4, .page 0x1B, .word 0x21
          0x050, .word 0x21 0x04C, .word 0x30 0x098] : List Scope) ++ airScopes) (([.spi, .frames, .duty, .ledger, .nodes,
          .cache] : List Part) ++ airParts) s t)) ∧
  (∀ (index : Fin 262144) (find : NodeFind) (s : State) (r : MeshPath),
      Accepted 0x20 0x054 (index.val + 5 * 2 ^ 24) s →
      pageState 0x20 s = RUN →
      rd F.NODE.CMD_STATUS_BUSY s = 0 →
      reservedIndex index.val = false →
      (node index.val s).valid = true →
      wellFormedPath index.val (cmdCore s) (cmdExt s) = some r →
      find = .ddrError →
      Calm s = true →
      Gives (.nodePin index find) s (fun t =>
        rd F.NODE.CMD_STATUS_RESULT t = N_DDR_ERROR ∧
        rd F.NODE.CMD_STATUS_BUSY t = 0 ∧
        (node index.val t).core = (node index.val s).core ∧
        (t.nodes = s.nodes ∨ Calm s = false) ∧
        Within [.page 0x20, .page 0x1B] [.spi, .nodes] s t))

/-- Misses of a peer count, the third in succession loses it, and a beacon that passes ends the succession (R255).
PEER_MISS is the passing of LAST_HEARD + k × INTERVAL + PEER_TOL without a passing beacon: the first and second misses
in succession only count; the third sets STATE to ABSENT, increments LOST_COUNT and latches PEER_LOST. -/
def Obligations.ThirdMissLosesThePeer : Prop :=
  (∀ (pi : Fin 32) (s : State),
      rd (F.BEACON.PEER_ENABLE pi.val) s = 1 →
      rd (F.BEACON.PEER_STATE pi.val) s = P_PRESENT →
      pageState 0x1A s = RUN →
      rd (F.BEACON.PEER_MISSES pi.val) s < 2 →
      Calm s = true →
      Gives (.peerMiss pi) s (fun t =>
        rd (F.BEACON.PEER_MISSES pi.val) t = rd (F.BEACON.PEER_MISSES pi.val) s + 1 ∧
        rd (F.BEACON.PEER_STATE pi.val) t = P_PRESENT ∧
        rd (F.BEACON.PEER_LOST_COUNT pi.val) t = rd (F.BEACON.PEER_LOST_COUNT pi.val) s ∧
        Within [.page 0x1A] [.clock] s t)) ∧
  (∀ (pi : Fin 32) (s : State),
      rd (F.BEACON.PEER_ENABLE pi.val) s = 1 →
      rd (F.BEACON.PEER_STATE pi.val) s = P_PRESENT →
      pageState 0x1A s = RUN →
      rd (F.BEACON.PEER_MISSES pi.val) s = 2 →
      rd (F.BEACON.PEER_LOST_COUNT pi.val) s < 65535 →
      Calm s = true →
      Gives (.peerMiss pi) s (fun t =>
        rd (F.BEACON.PEER_STATE pi.val) t = P_ABSENT ∧
        rd (F.BEACON.PEER_LOST_COUNT pi.val) t = rd (F.BEACON.PEER_LOST_COUNT pi.val) s + 1 ∧
        eventLatched 0x1A 0 t ∧
        Within [.page 0x1A] [.clock] s t))
end

