-- ==== Sys2Proof/Laws/State.lean ====
section
/-! SUPPORT. One lemma for each field of the state under each basic update: what an update does not name, it leaves. -/

namespace Sys2Proof.Machine

/-! ### wr -/

@[simp] theorem wr_pending (f : Field) (v : Nat) (s : State) : (wr f v s).pending = s.pending := rfl
@[simp] theorem wr_now (f : Field) (v : Nat) (s : State) : (wr f v s).now = s.now := rfl
@[simp] theorem wr_draws (f : Field) (v : Nat) (s : State) : (wr f v s).draws = s.draws := rfl
@[simp] theorem wr_readData (f : Field) (v : Nat) (s : State) : (wr f v s).readData = s.readData := rfl
@[simp] theorem wr_msix (f : Field) (v : Nat) (s : State) : (wr f v s).msix = s.msix := rfl
@[simp] theorem wr_acked (f : Field) (v : Nat) (s : State) : (wr f v s).acked = s.acked := rfl
@[simp] theorem wr_spi (f : Field) (v : Nat) (s : State) : (wr f v s).spi = s.spi := rfl
@[simp] theorem wr_jtag (f : Field) (v : Nat) (s : State) : (wr f v s).jtag = s.jtag := rfl
@[simp] theorem wr_plls (f : Field) (v : Nat) (s : State) : (wr f v s).plls = s.plls := rfl
@[simp] theorem wr_watch (f : Field) (v : Nat) (s : State) : (wr f v s).watch = s.watch := rfl
@[simp] theorem wr_i2c (f : Field) (v : Nat) (s : State) : (wr f v s).i2c = s.i2c := rfl
@[simp] theorem wr_clock (f : Field) (v : Nat) (s : State) : (wr f v s).clock = s.clock := rfl
@[simp] theorem wr_nextFrame (f : Field) (v : Nat) (s : State) : (wr f v s).nextFrame = s.nextFrame := rfl
@[simp] theorem wr_ledger (f : Field) (v : Nat) (s : State) : (wr f v s).ledger = s.ledger := rfl
@[simp] theorem wr_lanes (f : Field) (v : Nat) (s : State) : (wr f v s).lanes = s.lanes := rfl
@[simp] theorem wr_preempts (f : Field) (v : Nat) (s : State) : (wr f v s).preempts = s.preempts := rfl
@[simp] theorem wr_laneDebt (f : Field) (v : Nat) (s : State) : (wr f v s).laneDebt = s.laneDebt := rfl
@[simp] theorem wr_poolTest (f : Field) (v : Nat) (s : State) : (wr f v s).poolTest = s.poolTest := rfl
@[simp] theorem wr_fes (f : Field) (v : Nat) (s : State) : (wr f v s).fes = s.fes := rfl
@[simp] theorem wr_relief (f : Field) (v : Nat) (s : State) : (wr f v s).relief = s.relief := rfl
@[simp] theorem wr_reliefQueue (f : Field) (v : Nat) (s : State) : (wr f v s).reliefQueue = s.reliefQueue := rfl
@[simp] theorem wr_banks (f : Field) (v : Nat) (s : State) : (wr f v s).banks = s.banks := rfl
@[simp] theorem wr_frames (f : Field) (v : Nat) (s : State) : (wr f v s).frames = s.frames := rfl
@[simp] theorem wr_scheds (f : Field) (v : Nat) (s : State) : (wr f v s).scheds = s.scheds := rfl
@[simp] theorem wr_duty (f : Field) (v : Nat) (s : State) : (wr f v s).duty = s.duty := rfl
@[simp] theorem wr_nodes (f : Field) (v : Nat) (s : State) : (wr f v s).nodes = s.nodes := rfl
@[simp] theorem wr_slots (f : Field) (v : Nat) (s : State) : (wr f v s).slots = s.slots := rfl
@[simp] theorem wr_cache (f : Field) (v : Nat) (s : State) : (wr f v s).cache = s.cache := rfl
@[simp] theorem wr_reasm (f : Field) (v : Nat) (s : State) : (wr f v s).reasm = s.reasm := rfl
@[simp] theorem wr_rereads (f : Field) (v : Nat) (s : State) : (wr f v s).rereads = s.rereads := rfl
@[simp] theorem wr_ddr (f : Field) (v : Nat) (s : State) : (wr f v s).ddr = s.ddr := rfl
@[simp] theorem wr_hostData (f : Field) (v : Nat) (s : State) : (wr f v s).hostData = s.hostData := rfl
@[simp] theorem wr_hostPoison (f : Field) (v : Nat) (s : State) : (wr f v s).hostPoison = s.hostPoison := rfl
@[simp] theorem wr_delivered (f : Field) (v : Nat) (s : State) : (wr f v s).delivered = s.delivered := rfl
@[simp] theorem wr_rings (f : Field) (v : Nat) (s : State) : (wr f v s).rings = s.rings := rfl
@[simp] theorem wr_notices (f : Field) (v : Nat) (s : State) : (wr f v s).notices = s.notices := rfl
@[simp] theorem wr_ports (f : Field) (v : Nat) (s : State) : (wr f v s).ports = s.ports := rfl
@[simp] theorem wr_meters (f : Field) (v : Nat) (s : State) : (wr f v s).meters = s.meters := rfl
@[simp] theorem wr_campaigns (f : Field) (v : Nat) (s : State) : (wr f v s).campaigns = s.campaigns := rfl
@[simp] theorem wr_tracks (f : Field) (v : Nat) (s : State) : (wr f v s).tracks = s.tracks := rfl
@[simp] theorem wr_peers (f : Field) (v : Nat) (s : State) : (wr f v s).peers = s.peers := rfl
@[simp] theorem wr_latched (f : Field) (v : Nat) (s : State) : (wr f v s).latched = s.latched := rfl
@[simp] theorem wr_cairn (f : Field) (v : Nat) (s : State) : (wr f v s).cairn = s.cairn := rfl
@[simp] theorem wr_wear (f : Field) (v : Nat) (s : State) : (wr f v s).wear = s.wear := rfl
@[simp] theorem wr_root (f : Field) (v : Nat) (s : State) : (wr f v s).root = s.root := rfl
@[simp] theorem wr_journal (f : Field) (v : Nat) (s : State) : (wr f v s).journal = s.journal := rfl
@[simp] theorem wr_keyOp (f : Field) (v : Nat) (s : State) : (wr f v s).keyOp = s.keyOp := rfl
@[simp] theorem wr_ccmJob (f : Field) (v : Nat) (s : State) : (wr f v s).ccmJob = s.ccmJob := rfl
@[simp] theorem wr_sciJob (f : Field) (v : Nat) (s : State) : (wr f v s).sciJob = s.sciJob := rfl
@[simp] theorem wr_pkeOp (f : Field) (v : Nat) (s : State) : (wr f v s).pkeOp = s.pkeOp := rfl
@[simp] theorem wr_engineFaults (f : Field) (v : Nat) (s : State) : (wr f v s).engineFaults = s.engineFaults := rfl
@[simp] theorem wr_engineChecks (f : Field) (v : Nat) (s : State) : (wr f v s).engineChecks = s.engineChecks := rfl
@[simp] theorem wr_engineTest (f : Field) (v : Nat) (s : State) : (wr f v s).engineTest = s.engineTest := rfl
@[simp] theorem wr_mem (f : Field) (v : Nat) (s : State) : (wr f v s).mem = s.mem := rfl
@[simp] theorem wr_fw (f : Field) (v : Nat) (s : State) : (wr f v s).fw = s.fw := rfl
@[simp] theorem wr_rope (f : Field) (v : Nat) (s : State) : (wr f v s).rope = s.rope := rfl
@[simp] theorem wr_copy (f : Field) (v : Nat) (s : State) : (wr f v s).copy = s.copy := rfl
@[simp] theorem wr_boot (f : Field) (v : Nat) (s : State) : (wr f v s).boot = s.boot := rfl

/-! ### setFe -/

@[simp] theorem setFe_pending (n : Nat) (x : Fe) (s : State) : (setFe n x s).pending = s.pending := rfl
@[simp] theorem setFe_now (n : Nat) (x : Fe) (s : State) : (setFe n x s).now = s.now := rfl
@[simp] theorem setFe_draws (n : Nat) (x : Fe) (s : State) : (setFe n x s).draws = s.draws := rfl
@[simp] theorem setFe_regs (n : Nat) (x : Fe) (s : State) : (setFe n x s).regs = s.regs := rfl
@[simp] theorem setFe_readData (n : Nat) (x : Fe) (s : State) : (setFe n x s).readData = s.readData := rfl
@[simp] theorem setFe_msix (n : Nat) (x : Fe) (s : State) : (setFe n x s).msix = s.msix := rfl
@[simp] theorem setFe_acked (n : Nat) (x : Fe) (s : State) : (setFe n x s).acked = s.acked := rfl
@[simp] theorem setFe_spi (n : Nat) (x : Fe) (s : State) : (setFe n x s).spi = s.spi := rfl
@[simp] theorem setFe_jtag (n : Nat) (x : Fe) (s : State) : (setFe n x s).jtag = s.jtag := rfl
@[simp] theorem setFe_plls (n : Nat) (x : Fe) (s : State) : (setFe n x s).plls = s.plls := rfl
@[simp] theorem setFe_watch (n : Nat) (x : Fe) (s : State) : (setFe n x s).watch = s.watch := rfl
@[simp] theorem setFe_i2c (n : Nat) (x : Fe) (s : State) : (setFe n x s).i2c = s.i2c := rfl
@[simp] theorem setFe_clock (n : Nat) (x : Fe) (s : State) : (setFe n x s).clock = s.clock := rfl
@[simp] theorem setFe_nextFrame (n : Nat) (x : Fe) (s : State) : (setFe n x s).nextFrame = s.nextFrame := rfl
@[simp] theorem setFe_ledger (n : Nat) (x : Fe) (s : State) : (setFe n x s).ledger = s.ledger := rfl
@[simp] theorem setFe_lanes (n : Nat) (x : Fe) (s : State) : (setFe n x s).lanes = s.lanes := rfl
@[simp] theorem setFe_preempts (n : Nat) (x : Fe) (s : State) : (setFe n x s).preempts = s.preempts := rfl
@[simp] theorem setFe_laneDebt (n : Nat) (x : Fe) (s : State) : (setFe n x s).laneDebt = s.laneDebt := rfl
@[simp] theorem setFe_poolTest (n : Nat) (x : Fe) (s : State) : (setFe n x s).poolTest = s.poolTest := rfl
@[simp] theorem setFe_relief (n : Nat) (x : Fe) (s : State) : (setFe n x s).relief = s.relief := rfl
@[simp] theorem setFe_reliefQueue (n : Nat) (x : Fe) (s : State) : (setFe n x s).reliefQueue = s.reliefQueue := rfl
@[simp] theorem setFe_banks (n : Nat) (x : Fe) (s : State) : (setFe n x s).banks = s.banks := rfl
@[simp] theorem setFe_frames (n : Nat) (x : Fe) (s : State) : (setFe n x s).frames = s.frames := rfl
@[simp] theorem setFe_scheds (n : Nat) (x : Fe) (s : State) : (setFe n x s).scheds = s.scheds := rfl
@[simp] theorem setFe_duty (n : Nat) (x : Fe) (s : State) : (setFe n x s).duty = s.duty := rfl
@[simp] theorem setFe_nodes (n : Nat) (x : Fe) (s : State) : (setFe n x s).nodes = s.nodes := rfl
@[simp] theorem setFe_slots (n : Nat) (x : Fe) (s : State) : (setFe n x s).slots = s.slots := rfl
@[simp] theorem setFe_cache (n : Nat) (x : Fe) (s : State) : (setFe n x s).cache = s.cache := rfl
@[simp] theorem setFe_reasm (n : Nat) (x : Fe) (s : State) : (setFe n x s).reasm = s.reasm := rfl
@[simp] theorem setFe_rereads (n : Nat) (x : Fe) (s : State) : (setFe n x s).rereads = s.rereads := rfl
@[simp] theorem setFe_ddr (n : Nat) (x : Fe) (s : State) : (setFe n x s).ddr = s.ddr := rfl
@[simp] theorem setFe_hostData (n : Nat) (x : Fe) (s : State) : (setFe n x s).hostData = s.hostData := rfl
@[simp] theorem setFe_hostPoison (n : Nat) (x : Fe) (s : State) : (setFe n x s).hostPoison = s.hostPoison := rfl
@[simp] theorem setFe_delivered (n : Nat) (x : Fe) (s : State) : (setFe n x s).delivered = s.delivered := rfl
@[simp] theorem setFe_rings (n : Nat) (x : Fe) (s : State) : (setFe n x s).rings = s.rings := rfl
@[simp] theorem setFe_notices (n : Nat) (x : Fe) (s : State) : (setFe n x s).notices = s.notices := rfl
@[simp] theorem setFe_ports (n : Nat) (x : Fe) (s : State) : (setFe n x s).ports = s.ports := rfl
@[simp] theorem setFe_meters (n : Nat) (x : Fe) (s : State) : (setFe n x s).meters = s.meters := rfl
@[simp] theorem setFe_campaigns (n : Nat) (x : Fe) (s : State) : (setFe n x s).campaigns = s.campaigns := rfl
@[simp] theorem setFe_tracks (n : Nat) (x : Fe) (s : State) : (setFe n x s).tracks = s.tracks := rfl
@[simp] theorem setFe_peers (n : Nat) (x : Fe) (s : State) : (setFe n x s).peers = s.peers := rfl
@[simp] theorem setFe_latched (n : Nat) (x : Fe) (s : State) : (setFe n x s).latched = s.latched := rfl
@[simp] theorem setFe_cairn (n : Nat) (x : Fe) (s : State) : (setFe n x s).cairn = s.cairn := rfl
@[simp] theorem setFe_wear (n : Nat) (x : Fe) (s : State) : (setFe n x s).wear = s.wear := rfl
@[simp] theorem setFe_root (n : Nat) (x : Fe) (s : State) : (setFe n x s).root = s.root := rfl
@[simp] theorem setFe_journal (n : Nat) (x : Fe) (s : State) : (setFe n x s).journal = s.journal := rfl
@[simp] theorem setFe_keyOp (n : Nat) (x : Fe) (s : State) : (setFe n x s).keyOp = s.keyOp := rfl
@[simp] theorem setFe_ccmJob (n : Nat) (x : Fe) (s : State) : (setFe n x s).ccmJob = s.ccmJob := rfl
@[simp] theorem setFe_sciJob (n : Nat) (x : Fe) (s : State) : (setFe n x s).sciJob = s.sciJob := rfl
@[simp] theorem setFe_pkeOp (n : Nat) (x : Fe) (s : State) : (setFe n x s).pkeOp = s.pkeOp := rfl
@[simp] theorem setFe_engineFaults (n : Nat) (x : Fe) (s : State) : (setFe n x s).engineFaults = s.engineFaults := rfl
@[simp] theorem setFe_engineChecks (n : Nat) (x : Fe) (s : State) : (setFe n x s).engineChecks = s.engineChecks := rfl
@[simp] theorem setFe_engineTest (n : Nat) (x : Fe) (s : State) : (setFe n x s).engineTest = s.engineTest := rfl
@[simp] theorem setFe_mem (n : Nat) (x : Fe) (s : State) : (setFe n x s).mem = s.mem := rfl
@[simp] theorem setFe_fw (n : Nat) (x : Fe) (s : State) : (setFe n x s).fw = s.fw := rfl
@[simp] theorem setFe_rope (n : Nat) (x : Fe) (s : State) : (setFe n x s).rope = s.rope := rfl
@[simp] theorem setFe_copy (n : Nat) (x : Fe) (s : State) : (setFe n x s).copy = s.copy := rfl
@[simp] theorem setFe_boot (n : Nat) (x : Fe) (s : State) : (setFe n x s).boot = s.boot := rfl
@[simp] theorem rd_setFe (r : Field) (n : Nat) (x : Fe) (s : State) : rd r (setFe n x s) = rd r s := rfl

/-! ### modPort -/

@[simp] theorem modPort_pending (n : Nat) (g : Port → Port) (s : State) : (modPort n g s).pending = s.pending := rfl
@[simp] theorem modPort_now (n : Nat) (g : Port → Port) (s : State) : (modPort n g s).now = s.now := rfl
@[simp] theorem modPort_draws (n : Nat) (g : Port → Port) (s : State) : (modPort n g s).draws = s.draws := rfl
@[simp] theorem modPort_regs (n : Nat) (g : Port → Port) (s : State) : (modPort n g s).regs = s.regs := rfl
@[simp] theorem modPort_readData (n : Nat) (g : Port → Port) (s : State) : (modPort n g s).readData = s.readData := rfl
@[simp] theorem modPort_msix (n : Nat) (g : Port → Port) (s : State) : (modPort n g s).msix = s.msix := rfl
@[simp] theorem modPort_acked (n : Nat) (g : Port → Port) (s : State) : (modPort n g s).acked = s.acked := rfl
@[simp] theorem modPort_spi (n : Nat) (g : Port → Port) (s : State) : (modPort n g s).spi = s.spi := rfl
@[simp] theorem modPort_jtag (n : Nat) (g : Port → Port) (s : State) : (modPort n g s).jtag = s.jtag := rfl
@[simp] theorem modPort_plls (n : Nat) (g : Port → Port) (s : State) : (modPort n g s).plls = s.plls := rfl
@[simp] theorem modPort_watch (n : Nat) (g : Port → Port) (s : State) : (modPort n g s).watch = s.watch := rfl
@[simp] theorem modPort_i2c (n : Nat) (g : Port → Port) (s : State) : (modPort n g s).i2c = s.i2c := rfl
@[simp] theorem modPort_clock (n : Nat) (g : Port → Port) (s : State) : (modPort n g s).clock = s.clock := rfl
@[simp] theorem modPort_nextFrame (n : Nat) (g : Port → Port) (s : State) : (modPort n g s).nextFrame = s.nextFrame := rfl
@[simp] theorem modPort_ledger (n : Nat) (g : Port → Port) (s : State) : (modPort n g s).ledger = s.ledger := rfl
@[simp] theorem modPort_lanes (n : Nat) (g : Port → Port) (s : State) : (modPort n g s).lanes = s.lanes := rfl
@[simp] theorem modPort_preempts (n : Nat) (g : Port → Port) (s : State) : (modPort n g s).preempts = s.preempts := rfl
@[simp] theorem modPort_laneDebt (n : Nat) (g : Port → Port) (s : State) : (modPort n g s).laneDebt = s.laneDebt := rfl
@[simp] theorem modPort_poolTest (n : Nat) (g : Port → Port) (s : State) : (modPort n g s).poolTest = s.poolTest := rfl
@[simp] theorem modPort_fes (n : Nat) (g : Port → Port) (s : State) : (modPort n g s).fes = s.fes := rfl
@[simp] theorem modPort_relief (n : Nat) (g : Port → Port) (s : State) : (modPort n g s).relief = s.relief := rfl
@[simp] theorem modPort_reliefQueue (n : Nat) (g : Port → Port) (s : State) : (modPort n g s).reliefQueue = s.reliefQueue := rfl
@[simp] theorem modPort_banks (n : Nat) (g : Port → Port) (s : State) : (modPort n g s).banks = s.banks := rfl
@[simp] theorem modPort_frames (n : Nat) (g : Port → Port) (s : State) : (modPort n g s).frames = s.frames := rfl
@[simp] theorem modPort_scheds (n : Nat) (g : Port → Port) (s : State) : (modPort n g s).scheds = s.scheds := rfl
@[simp] theorem modPort_duty (n : Nat) (g : Port → Port) (s : State) : (modPort n g s).duty = s.duty := rfl
@[simp] theorem modPort_nodes (n : Nat) (g : Port → Port) (s : State) : (modPort n g s).nodes = s.nodes := rfl
@[simp] theorem modPort_slots (n : Nat) (g : Port → Port) (s : State) : (modPort n g s).slots = s.slots := rfl
@[simp] theorem modPort_cache (n : Nat) (g : Port → Port) (s : State) : (modPort n g s).cache = s.cache := rfl
@[simp] theorem modPort_reasm (n : Nat) (g : Port → Port) (s : State) : (modPort n g s).reasm = s.reasm := rfl
@[simp] theorem modPort_rereads (n : Nat) (g : Port → Port) (s : State) : (modPort n g s).rereads = s.rereads := rfl
@[simp] theorem modPort_ddr (n : Nat) (g : Port → Port) (s : State) : (modPort n g s).ddr = s.ddr := rfl
@[simp] theorem modPort_hostData (n : Nat) (g : Port → Port) (s : State) : (modPort n g s).hostData = s.hostData := rfl
@[simp] theorem modPort_hostPoison (n : Nat) (g : Port → Port) (s : State) : (modPort n g s).hostPoison = s.hostPoison := rfl
@[simp] theorem modPort_delivered (n : Nat) (g : Port → Port) (s : State) : (modPort n g s).delivered = s.delivered := rfl
@[simp] theorem modPort_rings (n : Nat) (g : Port → Port) (s : State) : (modPort n g s).rings = s.rings := rfl
@[simp] theorem modPort_notices (n : Nat) (g : Port → Port) (s : State) : (modPort n g s).notices = s.notices := rfl
@[simp] theorem modPort_meters (n : Nat) (g : Port → Port) (s : State) : (modPort n g s).meters = s.meters := rfl
@[simp] theorem modPort_campaigns (n : Nat) (g : Port → Port) (s : State) : (modPort n g s).campaigns = s.campaigns := rfl
@[simp] theorem modPort_tracks (n : Nat) (g : Port → Port) (s : State) : (modPort n g s).tracks = s.tracks := rfl
@[simp] theorem modPort_peers (n : Nat) (g : Port → Port) (s : State) : (modPort n g s).peers = s.peers := rfl
@[simp] theorem modPort_latched (n : Nat) (g : Port → Port) (s : State) : (modPort n g s).latched = s.latched := rfl
@[simp] theorem modPort_cairn (n : Nat) (g : Port → Port) (s : State) : (modPort n g s).cairn = s.cairn := rfl
@[simp] theorem modPort_wear (n : Nat) (g : Port → Port) (s : State) : (modPort n g s).wear = s.wear := rfl
@[simp] theorem modPort_root (n : Nat) (g : Port → Port) (s : State) : (modPort n g s).root = s.root := rfl
@[simp] theorem modPort_journal (n : Nat) (g : Port → Port) (s : State) : (modPort n g s).journal = s.journal := rfl
@[simp] theorem modPort_keyOp (n : Nat) (g : Port → Port) (s : State) : (modPort n g s).keyOp = s.keyOp := rfl
@[simp] theorem modPort_ccmJob (n : Nat) (g : Port → Port) (s : State) : (modPort n g s).ccmJob = s.ccmJob := rfl
@[simp] theorem modPort_sciJob (n : Nat) (g : Port → Port) (s : State) : (modPort n g s).sciJob = s.sciJob := rfl
@[simp] theorem modPort_pkeOp (n : Nat) (g : Port → Port) (s : State) : (modPort n g s).pkeOp = s.pkeOp := rfl
@[simp] theorem modPort_engineFaults (n : Nat) (g : Port → Port) (s : State) : (modPort n g s).engineFaults = s.engineFaults := rfl
@[simp] theorem modPort_engineChecks (n : Nat) (g : Port → Port) (s : State) : (modPort n g s).engineChecks = s.engineChecks := rfl
@[simp] theorem modPort_engineTest (n : Nat) (g : Port → Port) (s : State) : (modPort n g s).engineTest = s.engineTest := rfl
@[simp] theorem modPort_mem (n : Nat) (g : Port → Port) (s : State) : (modPort n g s).mem = s.mem := rfl
@[simp] theorem modPort_fw (n : Nat) (g : Port → Port) (s : State) : (modPort n g s).fw = s.fw := rfl
@[simp] theorem modPort_rope (n : Nat) (g : Port → Port) (s : State) : (modPort n g s).rope = s.rope := rfl
@[simp] theorem modPort_copy (n : Nat) (g : Port → Port) (s : State) : (modPort n g s).copy = s.copy := rfl
@[simp] theorem modPort_boot (n : Nat) (g : Port → Port) (s : State) : (modPort n g s).boot = s.boot := rfl
@[simp] theorem rd_modPort (r : Field) (n : Nat) (g : Port → Port) (s : State) : rd r (modPort n g s) = rd r s := rfl

/-! ### modSched -/

@[simp] theorem modSched_pending (n : Nat) (g : Sched → Sched) (s : State) : (modSched n g s).pending = s.pending := rfl
@[simp] theorem modSched_now (n : Nat) (g : Sched → Sched) (s : State) : (modSched n g s).now = s.now := rfl
@[simp] theorem modSched_draws (n : Nat) (g : Sched → Sched) (s : State) : (modSched n g s).draws = s.draws := rfl
@[simp] theorem modSched_regs (n : Nat) (g : Sched → Sched) (s : State) : (modSched n g s).regs = s.regs := rfl
@[simp] theorem modSched_readData (n : Nat) (g : Sched → Sched) (s : State) : (modSched n g s).readData = s.readData := rfl
@[simp] theorem modSched_msix (n : Nat) (g : Sched → Sched) (s : State) : (modSched n g s).msix = s.msix := rfl
@[simp] theorem modSched_acked (n : Nat) (g : Sched → Sched) (s : State) : (modSched n g s).acked = s.acked := rfl
@[simp] theorem modSched_spi (n : Nat) (g : Sched → Sched) (s : State) : (modSched n g s).spi = s.spi := rfl
@[simp] theorem modSched_jtag (n : Nat) (g : Sched → Sched) (s : State) : (modSched n g s).jtag = s.jtag := rfl
@[simp] theorem modSched_plls (n : Nat) (g : Sched → Sched) (s : State) : (modSched n g s).plls = s.plls := rfl
@[simp] theorem modSched_watch (n : Nat) (g : Sched → Sched) (s : State) : (modSched n g s).watch = s.watch := rfl
@[simp] theorem modSched_i2c (n : Nat) (g : Sched → Sched) (s : State) : (modSched n g s).i2c = s.i2c := rfl
@[simp] theorem modSched_clock (n : Nat) (g : Sched → Sched) (s : State) : (modSched n g s).clock = s.clock := rfl
@[simp] theorem modSched_nextFrame (n : Nat) (g : Sched → Sched) (s : State) : (modSched n g s).nextFrame = s.nextFrame := rfl
@[simp] theorem modSched_ledger (n : Nat) (g : Sched → Sched) (s : State) : (modSched n g s).ledger = s.ledger := rfl
@[simp] theorem modSched_lanes (n : Nat) (g : Sched → Sched) (s : State) : (modSched n g s).lanes = s.lanes := rfl
@[simp] theorem modSched_preempts (n : Nat) (g : Sched → Sched) (s : State) : (modSched n g s).preempts = s.preempts := rfl
@[simp] theorem modSched_laneDebt (n : Nat) (g : Sched → Sched) (s : State) : (modSched n g s).laneDebt = s.laneDebt := rfl
@[simp] theorem modSched_poolTest (n : Nat) (g : Sched → Sched) (s : State) : (modSched n g s).poolTest = s.poolTest := rfl
@[simp] theorem modSched_fes (n : Nat) (g : Sched → Sched) (s : State) : (modSched n g s).fes = s.fes := rfl
@[simp] theorem modSched_relief (n : Nat) (g : Sched → Sched) (s : State) : (modSched n g s).relief = s.relief := rfl
@[simp] theorem modSched_reliefQueue (n : Nat) (g : Sched → Sched) (s : State) : (modSched n g s).reliefQueue = s.reliefQueue := rfl
@[simp] theorem modSched_banks (n : Nat) (g : Sched → Sched) (s : State) : (modSched n g s).banks = s.banks := rfl
@[simp] theorem modSched_frames (n : Nat) (g : Sched → Sched) (s : State) : (modSched n g s).frames = s.frames := rfl
@[simp] theorem modSched_duty (n : Nat) (g : Sched → Sched) (s : State) : (modSched n g s).duty = s.duty := rfl
@[simp] theorem modSched_nodes (n : Nat) (g : Sched → Sched) (s : State) : (modSched n g s).nodes = s.nodes := rfl
@[simp] theorem modSched_slots (n : Nat) (g : Sched → Sched) (s : State) : (modSched n g s).slots = s.slots := rfl
@[simp] theorem modSched_cache (n : Nat) (g : Sched → Sched) (s : State) : (modSched n g s).cache = s.cache := rfl
@[simp] theorem modSched_reasm (n : Nat) (g : Sched → Sched) (s : State) : (modSched n g s).reasm = s.reasm := rfl
@[simp] theorem modSched_rereads (n : Nat) (g : Sched → Sched) (s : State) : (modSched n g s).rereads = s.rereads := rfl
@[simp] theorem modSched_ddr (n : Nat) (g : Sched → Sched) (s : State) : (modSched n g s).ddr = s.ddr := rfl
@[simp] theorem modSched_hostData (n : Nat) (g : Sched → Sched) (s : State) : (modSched n g s).hostData = s.hostData := rfl
@[simp] theorem modSched_hostPoison (n : Nat) (g : Sched → Sched) (s : State) : (modSched n g s).hostPoison = s.hostPoison := rfl
@[simp] theorem modSched_delivered (n : Nat) (g : Sched → Sched) (s : State) : (modSched n g s).delivered = s.delivered := rfl
@[simp] theorem modSched_rings (n : Nat) (g : Sched → Sched) (s : State) : (modSched n g s).rings = s.rings := rfl
@[simp] theorem modSched_notices (n : Nat) (g : Sched → Sched) (s : State) : (modSched n g s).notices = s.notices := rfl
@[simp] theorem modSched_ports (n : Nat) (g : Sched → Sched) (s : State) : (modSched n g s).ports = s.ports := rfl
@[simp] theorem modSched_meters (n : Nat) (g : Sched → Sched) (s : State) : (modSched n g s).meters = s.meters := rfl
@[simp] theorem modSched_campaigns (n : Nat) (g : Sched → Sched) (s : State) : (modSched n g s).campaigns = s.campaigns := rfl
@[simp] theorem modSched_tracks (n : Nat) (g : Sched → Sched) (s : State) : (modSched n g s).tracks = s.tracks := rfl
@[simp] theorem modSched_peers (n : Nat) (g : Sched → Sched) (s : State) : (modSched n g s).peers = s.peers := rfl
@[simp] theorem modSched_latched (n : Nat) (g : Sched → Sched) (s : State) : (modSched n g s).latched = s.latched := rfl
@[simp] theorem modSched_cairn (n : Nat) (g : Sched → Sched) (s : State) : (modSched n g s).cairn = s.cairn := rfl
@[simp] theorem modSched_wear (n : Nat) (g : Sched → Sched) (s : State) : (modSched n g s).wear = s.wear := rfl
@[simp] theorem modSched_root (n : Nat) (g : Sched → Sched) (s : State) : (modSched n g s).root = s.root := rfl
@[simp] theorem modSched_journal (n : Nat) (g : Sched → Sched) (s : State) : (modSched n g s).journal = s.journal := rfl
@[simp] theorem modSched_keyOp (n : Nat) (g : Sched → Sched) (s : State) : (modSched n g s).keyOp = s.keyOp := rfl
@[simp] theorem modSched_ccmJob (n : Nat) (g : Sched → Sched) (s : State) : (modSched n g s).ccmJob = s.ccmJob := rfl
@[simp] theorem modSched_sciJob (n : Nat) (g : Sched → Sched) (s : State) : (modSched n g s).sciJob = s.sciJob := rfl
@[simp] theorem modSched_pkeOp (n : Nat) (g : Sched → Sched) (s : State) : (modSched n g s).pkeOp = s.pkeOp := rfl
@[simp] theorem modSched_engineFaults (n : Nat) (g : Sched → Sched) (s : State) : (modSched n g s).engineFaults = s.engineFaults := rfl
@[simp] theorem modSched_engineChecks (n : Nat) (g : Sched → Sched) (s : State) : (modSched n g s).engineChecks = s.engineChecks := rfl
@[simp] theorem modSched_engineTest (n : Nat) (g : Sched → Sched) (s : State) : (modSched n g s).engineTest = s.engineTest := rfl
@[simp] theorem modSched_mem (n : Nat) (g : Sched → Sched) (s : State) : (modSched n g s).mem = s.mem := rfl
@[simp] theorem modSched_fw (n : Nat) (g : Sched → Sched) (s : State) : (modSched n g s).fw = s.fw := rfl
@[simp] theorem modSched_rope (n : Nat) (g : Sched → Sched) (s : State) : (modSched n g s).rope = s.rope := rfl
@[simp] theorem modSched_copy (n : Nat) (g : Sched → Sched) (s : State) : (modSched n g s).copy = s.copy := rfl
@[simp] theorem modSched_boot (n : Nat) (g : Sched → Sched) (s : State) : (modSched n g s).boot = s.boot := rfl
@[simp] theorem rd_modSched (r : Field) (n : Nat) (g : Sched → Sched) (s : State) : rd r (modSched n g s) = rd r s := rfl

/-! ### setFrame -/

@[simp] theorem setFrame_pending (id : Nat) (x : Frame) (s : State) : (setFrame id x s).pending = s.pending := rfl
@[simp] theorem setFrame_now (id : Nat) (x : Frame) (s : State) : (setFrame id x s).now = s.now := rfl
@[simp] theorem setFrame_draws (id : Nat) (x : Frame) (s : State) : (setFrame id x s).draws = s.draws := rfl
@[simp] theorem setFrame_regs (id : Nat) (x : Frame) (s : State) : (setFrame id x s).regs = s.regs := rfl
@[simp] theorem setFrame_readData (id : Nat) (x : Frame) (s : State) : (setFrame id x s).readData = s.readData := rfl
@[simp] theorem setFrame_msix (id : Nat) (x : Frame) (s : State) : (setFrame id x s).msix = s.msix := rfl
@[simp] theorem setFrame_acked (id : Nat) (x : Frame) (s : State) : (setFrame id x s).acked = s.acked := rfl
@[simp] theorem setFrame_spi (id : Nat) (x : Frame) (s : State) : (setFrame id x s).spi = s.spi := rfl
@[simp] theorem setFrame_jtag (id : Nat) (x : Frame) (s : State) : (setFrame id x s).jtag = s.jtag := rfl
@[simp] theorem setFrame_plls (id : Nat) (x : Frame) (s : State) : (setFrame id x s).plls = s.plls := rfl
@[simp] theorem setFrame_watch (id : Nat) (x : Frame) (s : State) : (setFrame id x s).watch = s.watch := rfl
@[simp] theorem setFrame_i2c (id : Nat) (x : Frame) (s : State) : (setFrame id x s).i2c = s.i2c := rfl
@[simp] theorem setFrame_clock (id : Nat) (x : Frame) (s : State) : (setFrame id x s).clock = s.clock := rfl
@[simp] theorem setFrame_nextFrame (id : Nat) (x : Frame) (s : State) : (setFrame id x s).nextFrame = s.nextFrame := rfl
@[simp] theorem setFrame_ledger (id : Nat) (x : Frame) (s : State) : (setFrame id x s).ledger = s.ledger := rfl
@[simp] theorem setFrame_lanes (id : Nat) (x : Frame) (s : State) : (setFrame id x s).lanes = s.lanes := rfl
@[simp] theorem setFrame_preempts (id : Nat) (x : Frame) (s : State) : (setFrame id x s).preempts = s.preempts := rfl
@[simp] theorem setFrame_laneDebt (id : Nat) (x : Frame) (s : State) : (setFrame id x s).laneDebt = s.laneDebt := rfl
@[simp] theorem setFrame_poolTest (id : Nat) (x : Frame) (s : State) : (setFrame id x s).poolTest = s.poolTest := rfl
@[simp] theorem setFrame_fes (id : Nat) (x : Frame) (s : State) : (setFrame id x s).fes = s.fes := rfl
@[simp] theorem setFrame_relief (id : Nat) (x : Frame) (s : State) : (setFrame id x s).relief = s.relief := rfl
@[simp] theorem setFrame_reliefQueue (id : Nat) (x : Frame) (s : State) : (setFrame id x s).reliefQueue = s.reliefQueue := rfl
@[simp] theorem setFrame_banks (id : Nat) (x : Frame) (s : State) : (setFrame id x s).banks = s.banks := rfl
@[simp] theorem setFrame_scheds (id : Nat) (x : Frame) (s : State) : (setFrame id x s).scheds = s.scheds := rfl
@[simp] theorem setFrame_duty (id : Nat) (x : Frame) (s : State) : (setFrame id x s).duty = s.duty := rfl
@[simp] theorem setFrame_nodes (id : Nat) (x : Frame) (s : State) : (setFrame id x s).nodes = s.nodes := rfl
@[simp] theorem setFrame_slots (id : Nat) (x : Frame) (s : State) : (setFrame id x s).slots = s.slots := rfl
@[simp] theorem setFrame_cache (id : Nat) (x : Frame) (s : State) : (setFrame id x s).cache = s.cache := rfl
@[simp] theorem setFrame_reasm (id : Nat) (x : Frame) (s : State) : (setFrame id x s).reasm = s.reasm := rfl
@[simp] theorem setFrame_rereads (id : Nat) (x : Frame) (s : State) : (setFrame id x s).rereads = s.rereads := rfl
@[simp] theorem setFrame_ddr (id : Nat) (x : Frame) (s : State) : (setFrame id x s).ddr = s.ddr := rfl
@[simp] theorem setFrame_hostData (id : Nat) (x : Frame) (s : State) : (setFrame id x s).hostData = s.hostData := rfl
@[simp] theorem setFrame_hostPoison (id : Nat) (x : Frame) (s : State) : (setFrame id x s).hostPoison = s.hostPoison := rfl
@[simp] theorem setFrame_delivered (id : Nat) (x : Frame) (s : State) : (setFrame id x s).delivered = s.delivered := rfl
@[simp] theorem setFrame_rings (id : Nat) (x : Frame) (s : State) : (setFrame id x s).rings = s.rings := rfl
@[simp] theorem setFrame_notices (id : Nat) (x : Frame) (s : State) : (setFrame id x s).notices = s.notices := rfl
@[simp] theorem setFrame_ports (id : Nat) (x : Frame) (s : State) : (setFrame id x s).ports = s.ports := rfl
@[simp] theorem setFrame_meters (id : Nat) (x : Frame) (s : State) : (setFrame id x s).meters = s.meters := rfl
@[simp] theorem setFrame_campaigns (id : Nat) (x : Frame) (s : State) : (setFrame id x s).campaigns = s.campaigns := rfl
@[simp] theorem setFrame_tracks (id : Nat) (x : Frame) (s : State) : (setFrame id x s).tracks = s.tracks := rfl
@[simp] theorem setFrame_peers (id : Nat) (x : Frame) (s : State) : (setFrame id x s).peers = s.peers := rfl
@[simp] theorem setFrame_latched (id : Nat) (x : Frame) (s : State) : (setFrame id x s).latched = s.latched := rfl
@[simp] theorem setFrame_cairn (id : Nat) (x : Frame) (s : State) : (setFrame id x s).cairn = s.cairn := rfl
@[simp] theorem setFrame_wear (id : Nat) (x : Frame) (s : State) : (setFrame id x s).wear = s.wear := rfl
@[simp] theorem setFrame_root (id : Nat) (x : Frame) (s : State) : (setFrame id x s).root = s.root := rfl
@[simp] theorem setFrame_journal (id : Nat) (x : Frame) (s : State) : (setFrame id x s).journal = s.journal := rfl
@[simp] theorem setFrame_keyOp (id : Nat) (x : Frame) (s : State) : (setFrame id x s).keyOp = s.keyOp := rfl
@[simp] theorem setFrame_ccmJob (id : Nat) (x : Frame) (s : State) : (setFrame id x s).ccmJob = s.ccmJob := rfl
@[simp] theorem setFrame_sciJob (id : Nat) (x : Frame) (s : State) : (setFrame id x s).sciJob = s.sciJob := rfl
@[simp] theorem setFrame_pkeOp (id : Nat) (x : Frame) (s : State) : (setFrame id x s).pkeOp = s.pkeOp := rfl
@[simp] theorem setFrame_engineFaults (id : Nat) (x : Frame) (s : State) : (setFrame id x s).engineFaults = s.engineFaults := rfl
@[simp] theorem setFrame_engineChecks (id : Nat) (x : Frame) (s : State) : (setFrame id x s).engineChecks = s.engineChecks := rfl
@[simp] theorem setFrame_engineTest (id : Nat) (x : Frame) (s : State) : (setFrame id x s).engineTest = s.engineTest := rfl
@[simp] theorem setFrame_mem (id : Nat) (x : Frame) (s : State) : (setFrame id x s).mem = s.mem := rfl
@[simp] theorem setFrame_fw (id : Nat) (x : Frame) (s : State) : (setFrame id x s).fw = s.fw := rfl
@[simp] theorem setFrame_rope (id : Nat) (x : Frame) (s : State) : (setFrame id x s).rope = s.rope := rfl
@[simp] theorem setFrame_copy (id : Nat) (x : Frame) (s : State) : (setFrame id x s).copy = s.copy := rfl
@[simp] theorem setFrame_boot (id : Nat) (x : Frame) (s : State) : (setFrame id x s).boot = s.boot := rfl
@[simp] theorem rd_setFrame (r : Field) (id : Nat) (x : Frame) (s : State) : rd r (setFrame id x s) = rd r s := rfl

/-! ### modRing -/

@[simp] theorem modRing_pending (k : Nat) (g : Ring → Ring) (s : State) : (modRing k g s).pending = s.pending := rfl
@[simp] theorem modRing_now (k : Nat) (g : Ring → Ring) (s : State) : (modRing k g s).now = s.now := rfl
@[simp] theorem modRing_draws (k : Nat) (g : Ring → Ring) (s : State) : (modRing k g s).draws = s.draws := rfl
@[simp] theorem modRing_readData (k : Nat) (g : Ring → Ring) (s : State) : (modRing k g s).readData = s.readData := rfl
@[simp] theorem modRing_msix (k : Nat) (g : Ring → Ring) (s : State) : (modRing k g s).msix = s.msix := rfl
@[simp] theorem modRing_acked (k : Nat) (g : Ring → Ring) (s : State) : (modRing k g s).acked = s.acked := rfl
@[simp] theorem modRing_spi (k : Nat) (g : Ring → Ring) (s : State) : (modRing k g s).spi = s.spi := rfl
@[simp] theorem modRing_jtag (k : Nat) (g : Ring → Ring) (s : State) : (modRing k g s).jtag = s.jtag := rfl
@[simp] theorem modRing_plls (k : Nat) (g : Ring → Ring) (s : State) : (modRing k g s).plls = s.plls := rfl
@[simp] theorem modRing_watch (k : Nat) (g : Ring → Ring) (s : State) : (modRing k g s).watch = s.watch := rfl
@[simp] theorem modRing_i2c (k : Nat) (g : Ring → Ring) (s : State) : (modRing k g s).i2c = s.i2c := rfl
@[simp] theorem modRing_clock (k : Nat) (g : Ring → Ring) (s : State) : (modRing k g s).clock = s.clock := rfl
@[simp] theorem modRing_nextFrame (k : Nat) (g : Ring → Ring) (s : State) : (modRing k g s).nextFrame = s.nextFrame := rfl
@[simp] theorem modRing_ledger (k : Nat) (g : Ring → Ring) (s : State) : (modRing k g s).ledger = s.ledger := rfl
@[simp] theorem modRing_lanes (k : Nat) (g : Ring → Ring) (s : State) : (modRing k g s).lanes = s.lanes := rfl
@[simp] theorem modRing_preempts (k : Nat) (g : Ring → Ring) (s : State) : (modRing k g s).preempts = s.preempts := rfl
@[simp] theorem modRing_laneDebt (k : Nat) (g : Ring → Ring) (s : State) : (modRing k g s).laneDebt = s.laneDebt := rfl
@[simp] theorem modRing_poolTest (k : Nat) (g : Ring → Ring) (s : State) : (modRing k g s).poolTest = s.poolTest := rfl
@[simp] theorem modRing_fes (k : Nat) (g : Ring → Ring) (s : State) : (modRing k g s).fes = s.fes := rfl
@[simp] theorem modRing_relief (k : Nat) (g : Ring → Ring) (s : State) : (modRing k g s).relief = s.relief := rfl
@[simp] theorem modRing_reliefQueue (k : Nat) (g : Ring → Ring) (s : State) : (modRing k g s).reliefQueue = s.reliefQueue := rfl
@[simp] theorem modRing_banks (k : Nat) (g : Ring → Ring) (s : State) : (modRing k g s).banks = s.banks := rfl
@[simp] theorem modRing_frames (k : Nat) (g : Ring → Ring) (s : State) : (modRing k g s).frames = s.frames := rfl
@[simp] theorem modRing_scheds (k : Nat) (g : Ring → Ring) (s : State) : (modRing k g s).scheds = s.scheds := rfl
@[simp] theorem modRing_duty (k : Nat) (g : Ring → Ring) (s : State) : (modRing k g s).duty = s.duty := rfl
@[simp] theorem modRing_nodes (k : Nat) (g : Ring → Ring) (s : State) : (modRing k g s).nodes = s.nodes := rfl
@[simp] theorem modRing_slots (k : Nat) (g : Ring → Ring) (s : State) : (modRing k g s).slots = s.slots := rfl
@[simp] theorem modRing_cache (k : Nat) (g : Ring → Ring) (s : State) : (modRing k g s).cache = s.cache := rfl
@[simp] theorem modRing_reasm (k : Nat) (g : Ring → Ring) (s : State) : (modRing k g s).reasm = s.reasm := rfl
@[simp] theorem modRing_rereads (k : Nat) (g : Ring → Ring) (s : State) : (modRing k g s).rereads = s.rereads := rfl
@[simp] theorem modRing_ddr (k : Nat) (g : Ring → Ring) (s : State) : (modRing k g s).ddr = s.ddr := rfl
@[simp] theorem modRing_hostData (k : Nat) (g : Ring → Ring) (s : State) : (modRing k g s).hostData = s.hostData := rfl
@[simp] theorem modRing_hostPoison (k : Nat) (g : Ring → Ring) (s : State) : (modRing k g s).hostPoison = s.hostPoison := rfl
@[simp] theorem modRing_delivered (k : Nat) (g : Ring → Ring) (s : State) : (modRing k g s).delivered = s.delivered := rfl
@[simp] theorem modRing_notices (k : Nat) (g : Ring → Ring) (s : State) : (modRing k g s).notices = s.notices := rfl
@[simp] theorem modRing_ports (k : Nat) (g : Ring → Ring) (s : State) : (modRing k g s).ports = s.ports := rfl
@[simp] theorem modRing_meters (k : Nat) (g : Ring → Ring) (s : State) : (modRing k g s).meters = s.meters := rfl
@[simp] theorem modRing_campaigns (k : Nat) (g : Ring → Ring) (s : State) : (modRing k g s).campaigns = s.campaigns := rfl
@[simp] theorem modRing_tracks (k : Nat) (g : Ring → Ring) (s : State) : (modRing k g s).tracks = s.tracks := rfl
@[simp] theorem modRing_peers (k : Nat) (g : Ring → Ring) (s : State) : (modRing k g s).peers = s.peers := rfl
@[simp] theorem modRing_latched (k : Nat) (g : Ring → Ring) (s : State) : (modRing k g s).latched = s.latched := rfl
@[simp] theorem modRing_cairn (k : Nat) (g : Ring → Ring) (s : State) : (modRing k g s).cairn = s.cairn := rfl
@[simp] theorem modRing_wear (k : Nat) (g : Ring → Ring) (s : State) : (modRing k g s).wear = s.wear := rfl
@[simp] theorem modRing_root (k : Nat) (g : Ring → Ring) (s : State) : (modRing k g s).root = s.root := rfl
@[simp] theorem modRing_journal (k : Nat) (g : Ring → Ring) (s : State) : (modRing k g s).journal = s.journal := rfl
@[simp] theorem modRing_keyOp (k : Nat) (g : Ring → Ring) (s : State) : (modRing k g s).keyOp = s.keyOp := rfl
@[simp] theorem modRing_ccmJob (k : Nat) (g : Ring → Ring) (s : State) : (modRing k g s).ccmJob = s.ccmJob := rfl
@[simp] theorem modRing_sciJob (k : Nat) (g : Ring → Ring) (s : State) : (modRing k g s).sciJob = s.sciJob := rfl
@[simp] theorem modRing_pkeOp (k : Nat) (g : Ring → Ring) (s : State) : (modRing k g s).pkeOp = s.pkeOp := rfl
@[simp] theorem modRing_engineFaults (k : Nat) (g : Ring → Ring) (s : State) : (modRing k g s).engineFaults = s.engineFaults := rfl
@[simp] theorem modRing_engineChecks (k : Nat) (g : Ring → Ring) (s : State) : (modRing k g s).engineChecks = s.engineChecks := rfl
@[simp] theorem modRing_engineTest (k : Nat) (g : Ring → Ring) (s : State) : (modRing k g s).engineTest = s.engineTest := rfl
@[simp] theorem modRing_mem (k : Nat) (g : Ring → Ring) (s : State) : (modRing k g s).mem = s.mem := rfl
@[simp] theorem modRing_fw (k : Nat) (g : Ring → Ring) (s : State) : (modRing k g s).fw = s.fw := rfl
@[simp] theorem modRing_rope (k : Nat) (g : Ring → Ring) (s : State) : (modRing k g s).rope = s.rope := rfl
@[simp] theorem modRing_copy (k : Nat) (g : Ring → Ring) (s : State) : (modRing k g s).copy = s.copy := rfl
@[simp] theorem modRing_boot (k : Nat) (g : Ring → Ring) (s : State) : (modRing k g s).boot = s.boot := rfl

/-! ### modRope -/

@[simp] theorem modRope_pending (g : Rope → Rope) (s : State) : (modRope g s).pending = s.pending := rfl
@[simp] theorem modRope_now (g : Rope → Rope) (s : State) : (modRope g s).now = s.now := rfl
@[simp] theorem modRope_draws (g : Rope → Rope) (s : State) : (modRope g s).draws = s.draws := rfl
@[simp] theorem modRope_regs (g : Rope → Rope) (s : State) : (modRope g s).regs = s.regs := rfl
@[simp] theorem modRope_readData (g : Rope → Rope) (s : State) : (modRope g s).readData = s.readData := rfl
@[simp] theorem modRope_msix (g : Rope → Rope) (s : State) : (modRope g s).msix = s.msix := rfl
@[simp] theorem modRope_acked (g : Rope → Rope) (s : State) : (modRope g s).acked = s.acked := rfl
@[simp] theorem modRope_spi (g : Rope → Rope) (s : State) : (modRope g s).spi = s.spi := rfl
@[simp] theorem modRope_jtag (g : Rope → Rope) (s : State) : (modRope g s).jtag = s.jtag := rfl
@[simp] theorem modRope_plls (g : Rope → Rope) (s : State) : (modRope g s).plls = s.plls := rfl
@[simp] theorem modRope_watch (g : Rope → Rope) (s : State) : (modRope g s).watch = s.watch := rfl
@[simp] theorem modRope_i2c (g : Rope → Rope) (s : State) : (modRope g s).i2c = s.i2c := rfl
@[simp] theorem modRope_clock (g : Rope → Rope) (s : State) : (modRope g s).clock = s.clock := rfl
@[simp] theorem modRope_nextFrame (g : Rope → Rope) (s : State) : (modRope g s).nextFrame = s.nextFrame := rfl
@[simp] theorem modRope_ledger (g : Rope → Rope) (s : State) : (modRope g s).ledger = s.ledger := rfl
@[simp] theorem modRope_lanes (g : Rope → Rope) (s : State) : (modRope g s).lanes = s.lanes := rfl
@[simp] theorem modRope_preempts (g : Rope → Rope) (s : State) : (modRope g s).preempts = s.preempts := rfl
@[simp] theorem modRope_laneDebt (g : Rope → Rope) (s : State) : (modRope g s).laneDebt = s.laneDebt := rfl
@[simp] theorem modRope_poolTest (g : Rope → Rope) (s : State) : (modRope g s).poolTest = s.poolTest := rfl
@[simp] theorem modRope_fes (g : Rope → Rope) (s : State) : (modRope g s).fes = s.fes := rfl
@[simp] theorem modRope_relief (g : Rope → Rope) (s : State) : (modRope g s).relief = s.relief := rfl
@[simp] theorem modRope_reliefQueue (g : Rope → Rope) (s : State) : (modRope g s).reliefQueue = s.reliefQueue := rfl
@[simp] theorem modRope_banks (g : Rope → Rope) (s : State) : (modRope g s).banks = s.banks := rfl
@[simp] theorem modRope_frames (g : Rope → Rope) (s : State) : (modRope g s).frames = s.frames := rfl
@[simp] theorem modRope_scheds (g : Rope → Rope) (s : State) : (modRope g s).scheds = s.scheds := rfl
@[simp] theorem modRope_duty (g : Rope → Rope) (s : State) : (modRope g s).duty = s.duty := rfl
@[simp] theorem modRope_nodes (g : Rope → Rope) (s : State) : (modRope g s).nodes = s.nodes := rfl
@[simp] theorem modRope_slots (g : Rope → Rope) (s : State) : (modRope g s).slots = s.slots := rfl
@[simp] theorem modRope_cache (g : Rope → Rope) (s : State) : (modRope g s).cache = s.cache := rfl
@[simp] theorem modRope_reasm (g : Rope → Rope) (s : State) : (modRope g s).reasm = s.reasm := rfl
@[simp] theorem modRope_rereads (g : Rope → Rope) (s : State) : (modRope g s).rereads = s.rereads := rfl
@[simp] theorem modRope_ddr (g : Rope → Rope) (s : State) : (modRope g s).ddr = s.ddr := rfl
@[simp] theorem modRope_hostData (g : Rope → Rope) (s : State) : (modRope g s).hostData = s.hostData := rfl
@[simp] theorem modRope_hostPoison (g : Rope → Rope) (s : State) : (modRope g s).hostPoison = s.hostPoison := rfl
@[simp] theorem modRope_delivered (g : Rope → Rope) (s : State) : (modRope g s).delivered = s.delivered := rfl
@[simp] theorem modRope_rings (g : Rope → Rope) (s : State) : (modRope g s).rings = s.rings := rfl
@[simp] theorem modRope_notices (g : Rope → Rope) (s : State) : (modRope g s).notices = s.notices := rfl
@[simp] theorem modRope_ports (g : Rope → Rope) (s : State) : (modRope g s).ports = s.ports := rfl
@[simp] theorem modRope_meters (g : Rope → Rope) (s : State) : (modRope g s).meters = s.meters := rfl
@[simp] theorem modRope_campaigns (g : Rope → Rope) (s : State) : (modRope g s).campaigns = s.campaigns := rfl
@[simp] theorem modRope_tracks (g : Rope → Rope) (s : State) : (modRope g s).tracks = s.tracks := rfl
@[simp] theorem modRope_peers (g : Rope → Rope) (s : State) : (modRope g s).peers = s.peers := rfl
@[simp] theorem modRope_latched (g : Rope → Rope) (s : State) : (modRope g s).latched = s.latched := rfl
@[simp] theorem modRope_cairn (g : Rope → Rope) (s : State) : (modRope g s).cairn = s.cairn := rfl
@[simp] theorem modRope_wear (g : Rope → Rope) (s : State) : (modRope g s).wear = s.wear := rfl
@[simp] theorem modRope_root (g : Rope → Rope) (s : State) : (modRope g s).root = s.root := rfl
@[simp] theorem modRope_journal (g : Rope → Rope) (s : State) : (modRope g s).journal = s.journal := rfl
@[simp] theorem modRope_keyOp (g : Rope → Rope) (s : State) : (modRope g s).keyOp = s.keyOp := rfl
@[simp] theorem modRope_ccmJob (g : Rope → Rope) (s : State) : (modRope g s).ccmJob = s.ccmJob := rfl
@[simp] theorem modRope_sciJob (g : Rope → Rope) (s : State) : (modRope g s).sciJob = s.sciJob := rfl
@[simp] theorem modRope_pkeOp (g : Rope → Rope) (s : State) : (modRope g s).pkeOp = s.pkeOp := rfl
@[simp] theorem modRope_engineFaults (g : Rope → Rope) (s : State) : (modRope g s).engineFaults = s.engineFaults := rfl
@[simp] theorem modRope_engineChecks (g : Rope → Rope) (s : State) : (modRope g s).engineChecks = s.engineChecks := rfl
@[simp] theorem modRope_engineTest (g : Rope → Rope) (s : State) : (modRope g s).engineTest = s.engineTest := rfl
@[simp] theorem modRope_mem (g : Rope → Rope) (s : State) : (modRope g s).mem = s.mem := rfl
@[simp] theorem modRope_fw (g : Rope → Rope) (s : State) : (modRope g s).fw = s.fw := rfl
@[simp] theorem modRope_copy (g : Rope → Rope) (s : State) : (modRope g s).copy = s.copy := rfl
@[simp] theorem modRope_boot (g : Rope → Rope) (s : State) : (modRope g s).boot = s.boot := rfl
@[simp] theorem rd_modRope (r : Field) (g : Rope → Rope) (s : State) : rd r (modRope g s) = rd r s := rfl

/-! ### modClock -/

@[simp] theorem modClock_pending (g : Clock → Clock) (s : State) : (modClock g s).pending = s.pending := rfl
@[simp] theorem modClock_now (g : Clock → Clock) (s : State) : (modClock g s).now = s.now := rfl
@[simp] theorem modClock_draws (g : Clock → Clock) (s : State) : (modClock g s).draws = s.draws := rfl
@[simp] theorem modClock_regs (g : Clock → Clock) (s : State) : (modClock g s).regs = s.regs := rfl
@[simp] theorem modClock_readData (g : Clock → Clock) (s : State) : (modClock g s).readData = s.readData := rfl
@[simp] theorem modClock_msix (g : Clock → Clock) (s : State) : (modClock g s).msix = s.msix := rfl
@[simp] theorem modClock_acked (g : Clock → Clock) (s : State) : (modClock g s).acked = s.acked := rfl
@[simp] theorem modClock_spi (g : Clock → Clock) (s : State) : (modClock g s).spi = s.spi := rfl
@[simp] theorem modClock_jtag (g : Clock → Clock) (s : State) : (modClock g s).jtag = s.jtag := rfl
@[simp] theorem modClock_plls (g : Clock → Clock) (s : State) : (modClock g s).plls = s.plls := rfl
@[simp] theorem modClock_watch (g : Clock → Clock) (s : State) : (modClock g s).watch = s.watch := rfl
@[simp] theorem modClock_i2c (g : Clock → Clock) (s : State) : (modClock g s).i2c = s.i2c := rfl
@[simp] theorem modClock_nextFrame (g : Clock → Clock) (s : State) : (modClock g s).nextFrame = s.nextFrame := rfl
@[simp] theorem modClock_ledger (g : Clock → Clock) (s : State) : (modClock g s).ledger = s.ledger := rfl
@[simp] theorem modClock_lanes (g : Clock → Clock) (s : State) : (modClock g s).lanes = s.lanes := rfl
@[simp] theorem modClock_preempts (g : Clock → Clock) (s : State) : (modClock g s).preempts = s.preempts := rfl
@[simp] theorem modClock_laneDebt (g : Clock → Clock) (s : State) : (modClock g s).laneDebt = s.laneDebt := rfl
@[simp] theorem modClock_poolTest (g : Clock → Clock) (s : State) : (modClock g s).poolTest = s.poolTest := rfl
@[simp] theorem modClock_fes (g : Clock → Clock) (s : State) : (modClock g s).fes = s.fes := rfl
@[simp] theorem modClock_relief (g : Clock → Clock) (s : State) : (modClock g s).relief = s.relief := rfl
@[simp] theorem modClock_reliefQueue (g : Clock → Clock) (s : State) : (modClock g s).reliefQueue = s.reliefQueue := rfl
@[simp] theorem modClock_banks (g : Clock → Clock) (s : State) : (modClock g s).banks = s.banks := rfl
@[simp] theorem modClock_frames (g : Clock → Clock) (s : State) : (modClock g s).frames = s.frames := rfl
@[simp] theorem modClock_scheds (g : Clock → Clock) (s : State) : (modClock g s).scheds = s.scheds := rfl
@[simp] theorem modClock_duty (g : Clock → Clock) (s : State) : (modClock g s).duty = s.duty := rfl
@[simp] theorem modClock_nodes (g : Clock → Clock) (s : State) : (modClock g s).nodes = s.nodes := rfl
@[simp] theorem modClock_slots (g : Clock → Clock) (s : State) : (modClock g s).slots = s.slots := rfl
@[simp] theorem modClock_cache (g : Clock → Clock) (s : State) : (modClock g s).cache = s.cache := rfl
@[simp] theorem modClock_reasm (g : Clock → Clock) (s : State) : (modClock g s).reasm = s.reasm := rfl
@[simp] theorem modClock_rereads (g : Clock → Clock) (s : State) : (modClock g s).rereads = s.rereads := rfl
@[simp] theorem modClock_ddr (g : Clock → Clock) (s : State) : (modClock g s).ddr = s.ddr := rfl
@[simp] theorem modClock_hostData (g : Clock → Clock) (s : State) : (modClock g s).hostData = s.hostData := rfl
@[simp] theorem modClock_hostPoison (g : Clock → Clock) (s : State) : (modClock g s).hostPoison = s.hostPoison := rfl
@[simp] theorem modClock_delivered (g : Clock → Clock) (s : State) : (modClock g s).delivered = s.delivered := rfl
@[simp] theorem modClock_rings (g : Clock → Clock) (s : State) : (modClock g s).rings = s.rings := rfl
@[simp] theorem modClock_notices (g : Clock → Clock) (s : State) : (modClock g s).notices = s.notices := rfl
@[simp] theorem modClock_ports (g : Clock → Clock) (s : State) : (modClock g s).ports = s.ports := rfl
@[simp] theorem modClock_meters (g : Clock → Clock) (s : State) : (modClock g s).meters = s.meters := rfl
@[simp] theorem modClock_campaigns (g : Clock → Clock) (s : State) : (modClock g s).campaigns = s.campaigns := rfl
@[simp] theorem modClock_tracks (g : Clock → Clock) (s : State) : (modClock g s).tracks = s.tracks := rfl
@[simp] theorem modClock_peers (g : Clock → Clock) (s : State) : (modClock g s).peers = s.peers := rfl
@[simp] theorem modClock_latched (g : Clock → Clock) (s : State) : (modClock g s).latched = s.latched := rfl
@[simp] theorem modClock_cairn (g : Clock → Clock) (s : State) : (modClock g s).cairn = s.cairn := rfl
@[simp] theorem modClock_wear (g : Clock → Clock) (s : State) : (modClock g s).wear = s.wear := rfl
@[simp] theorem modClock_root (g : Clock → Clock) (s : State) : (modClock g s).root = s.root := rfl
@[simp] theorem modClock_journal (g : Clock → Clock) (s : State) : (modClock g s).journal = s.journal := rfl
@[simp] theorem modClock_keyOp (g : Clock → Clock) (s : State) : (modClock g s).keyOp = s.keyOp := rfl
@[simp] theorem modClock_ccmJob (g : Clock → Clock) (s : State) : (modClock g s).ccmJob = s.ccmJob := rfl
@[simp] theorem modClock_sciJob (g : Clock → Clock) (s : State) : (modClock g s).sciJob = s.sciJob := rfl
@[simp] theorem modClock_pkeOp (g : Clock → Clock) (s : State) : (modClock g s).pkeOp = s.pkeOp := rfl
@[simp] theorem modClock_engineFaults (g : Clock → Clock) (s : State) : (modClock g s).engineFaults = s.engineFaults := rfl
@[simp] theorem modClock_engineChecks (g : Clock → Clock) (s : State) : (modClock g s).engineChecks = s.engineChecks := rfl
@[simp] theorem modClock_engineTest (g : Clock → Clock) (s : State) : (modClock g s).engineTest = s.engineTest := rfl
@[simp] theorem modClock_mem (g : Clock → Clock) (s : State) : (modClock g s).mem = s.mem := rfl
@[simp] theorem modClock_fw (g : Clock → Clock) (s : State) : (modClock g s).fw = s.fw := rfl
@[simp] theorem modClock_rope (g : Clock → Clock) (s : State) : (modClock g s).rope = s.rope := rfl
@[simp] theorem modClock_copy (g : Clock → Clock) (s : State) : (modClock g s).copy = s.copy := rfl
@[simp] theorem modClock_boot (g : Clock → Clock) (s : State) : (modClock g s).boot = s.boot := rfl
@[simp] theorem rd_modClock (r : Field) (g : Clock → Clock) (s : State) : rd r (modClock g s) = rd r s := rfl

/-! ### setSlot -/

@[simp] theorem setSlot_pending (i : Nat) (k : Slot) (s : State) : (setSlot i k s).pending = s.pending := rfl
@[simp] theorem setSlot_now (i : Nat) (k : Slot) (s : State) : (setSlot i k s).now = s.now := rfl
@[simp] theorem setSlot_draws (i : Nat) (k : Slot) (s : State) : (setSlot i k s).draws = s.draws := rfl
@[simp] theorem setSlot_regs (i : Nat) (k : Slot) (s : State) : (setSlot i k s).regs = s.regs := rfl
@[simp] theorem setSlot_readData (i : Nat) (k : Slot) (s : State) : (setSlot i k s).readData = s.readData := rfl
@[simp] theorem setSlot_msix (i : Nat) (k : Slot) (s : State) : (setSlot i k s).msix = s.msix := rfl
@[simp] theorem setSlot_acked (i : Nat) (k : Slot) (s : State) : (setSlot i k s).acked = s.acked := rfl
@[simp] theorem setSlot_spi (i : Nat) (k : Slot) (s : State) : (setSlot i k s).spi = s.spi := rfl
@[simp] theorem setSlot_jtag (i : Nat) (k : Slot) (s : State) : (setSlot i k s).jtag = s.jtag := rfl
@[simp] theorem setSlot_plls (i : Nat) (k : Slot) (s : State) : (setSlot i k s).plls = s.plls := rfl
@[simp] theorem setSlot_watch (i : Nat) (k : Slot) (s : State) : (setSlot i k s).watch = s.watch := rfl
@[simp] theorem setSlot_i2c (i : Nat) (k : Slot) (s : State) : (setSlot i k s).i2c = s.i2c := rfl
@[simp] theorem setSlot_clock (i : Nat) (k : Slot) (s : State) : (setSlot i k s).clock = s.clock := rfl
@[simp] theorem setSlot_nextFrame (i : Nat) (k : Slot) (s : State) : (setSlot i k s).nextFrame = s.nextFrame := rfl
@[simp] theorem setSlot_ledger (i : Nat) (k : Slot) (s : State) : (setSlot i k s).ledger = s.ledger := rfl
@[simp] theorem setSlot_lanes (i : Nat) (k : Slot) (s : State) : (setSlot i k s).lanes = s.lanes := rfl
@[simp] theorem setSlot_preempts (i : Nat) (k : Slot) (s : State) : (setSlot i k s).preempts = s.preempts := rfl
@[simp] theorem setSlot_laneDebt (i : Nat) (k : Slot) (s : State) : (setSlot i k s).laneDebt = s.laneDebt := rfl
@[simp] theorem setSlot_poolTest (i : Nat) (k : Slot) (s : State) : (setSlot i k s).poolTest = s.poolTest := rfl
@[simp] theorem setSlot_fes (i : Nat) (k : Slot) (s : State) : (setSlot i k s).fes = s.fes := rfl
@[simp] theorem setSlot_relief (i : Nat) (k : Slot) (s : State) : (setSlot i k s).relief = s.relief := rfl
@[simp] theorem setSlot_reliefQueue (i : Nat) (k : Slot) (s : State) : (setSlot i k s).reliefQueue = s.reliefQueue := rfl
@[simp] theorem setSlot_banks (i : Nat) (k : Slot) (s : State) : (setSlot i k s).banks = s.banks := rfl
@[simp] theorem setSlot_frames (i : Nat) (k : Slot) (s : State) : (setSlot i k s).frames = s.frames := rfl
@[simp] theorem setSlot_scheds (i : Nat) (k : Slot) (s : State) : (setSlot i k s).scheds = s.scheds := rfl
@[simp] theorem setSlot_duty (i : Nat) (k : Slot) (s : State) : (setSlot i k s).duty = s.duty := rfl
@[simp] theorem setSlot_nodes (i : Nat) (k : Slot) (s : State) : (setSlot i k s).nodes = s.nodes := rfl
@[simp] theorem setSlot_cache (i : Nat) (k : Slot) (s : State) : (setSlot i k s).cache = s.cache := rfl
@[simp] theorem setSlot_reasm (i : Nat) (k : Slot) (s : State) : (setSlot i k s).reasm = s.reasm := rfl
@[simp] theorem setSlot_rereads (i : Nat) (k : Slot) (s : State) : (setSlot i k s).rereads = s.rereads := rfl
@[simp] theorem setSlot_ddr (i : Nat) (k : Slot) (s : State) : (setSlot i k s).ddr = s.ddr := rfl
@[simp] theorem setSlot_hostData (i : Nat) (k : Slot) (s : State) : (setSlot i k s).hostData = s.hostData := rfl
@[simp] theorem setSlot_hostPoison (i : Nat) (k : Slot) (s : State) : (setSlot i k s).hostPoison = s.hostPoison := rfl
@[simp] theorem setSlot_delivered (i : Nat) (k : Slot) (s : State) : (setSlot i k s).delivered = s.delivered := rfl
@[simp] theorem setSlot_rings (i : Nat) (k : Slot) (s : State) : (setSlot i k s).rings = s.rings := rfl
@[simp] theorem setSlot_notices (i : Nat) (k : Slot) (s : State) : (setSlot i k s).notices = s.notices := rfl
@[simp] theorem setSlot_ports (i : Nat) (k : Slot) (s : State) : (setSlot i k s).ports = s.ports := rfl
@[simp] theorem setSlot_meters (i : Nat) (k : Slot) (s : State) : (setSlot i k s).meters = s.meters := rfl
@[simp] theorem setSlot_campaigns (i : Nat) (k : Slot) (s : State) : (setSlot i k s).campaigns = s.campaigns := rfl
@[simp] theorem setSlot_tracks (i : Nat) (k : Slot) (s : State) : (setSlot i k s).tracks = s.tracks := rfl
@[simp] theorem setSlot_peers (i : Nat) (k : Slot) (s : State) : (setSlot i k s).peers = s.peers := rfl
@[simp] theorem setSlot_latched (i : Nat) (k : Slot) (s : State) : (setSlot i k s).latched = s.latched := rfl
@[simp] theorem setSlot_cairn (i : Nat) (k : Slot) (s : State) : (setSlot i k s).cairn = s.cairn := rfl
@[simp] theorem setSlot_wear (i : Nat) (k : Slot) (s : State) : (setSlot i k s).wear = s.wear := rfl
@[simp] theorem setSlot_root (i : Nat) (k : Slot) (s : State) : (setSlot i k s).root = s.root := rfl
@[simp] theorem setSlot_journal (i : Nat) (k : Slot) (s : State) : (setSlot i k s).journal = s.journal := rfl
@[simp] theorem setSlot_keyOp (i : Nat) (k : Slot) (s : State) : (setSlot i k s).keyOp = s.keyOp := rfl
@[simp] theorem setSlot_ccmJob (i : Nat) (k : Slot) (s : State) : (setSlot i k s).ccmJob = s.ccmJob := rfl
@[simp] theorem setSlot_sciJob (i : Nat) (k : Slot) (s : State) : (setSlot i k s).sciJob = s.sciJob := rfl
@[simp] theorem setSlot_pkeOp (i : Nat) (k : Slot) (s : State) : (setSlot i k s).pkeOp = s.pkeOp := rfl
@[simp] theorem setSlot_engineFaults (i : Nat) (k : Slot) (s : State) : (setSlot i k s).engineFaults = s.engineFaults := rfl
@[simp] theorem setSlot_engineChecks (i : Nat) (k : Slot) (s : State) : (setSlot i k s).engineChecks = s.engineChecks := rfl
@[simp] theorem setSlot_engineTest (i : Nat) (k : Slot) (s : State) : (setSlot i k s).engineTest = s.engineTest := rfl
@[simp] theorem setSlot_mem (i : Nat) (k : Slot) (s : State) : (setSlot i k s).mem = s.mem := rfl
@[simp] theorem setSlot_fw (i : Nat) (k : Slot) (s : State) : (setSlot i k s).fw = s.fw := rfl
@[simp] theorem setSlot_rope (i : Nat) (k : Slot) (s : State) : (setSlot i k s).rope = s.rope := rfl
@[simp] theorem setSlot_copy (i : Nat) (k : Slot) (s : State) : (setSlot i k s).copy = s.copy := rfl
@[simp] theorem setSlot_boot (i : Nat) (k : Slot) (s : State) : (setSlot i k s).boot = s.boot := rfl
@[simp] theorem rd_setSlot (r : Field) (i : Nat) (k : Slot) (s : State) : rd r (setSlot i k s) = rd r s := rfl

/-! ### modCampaign -/

@[simp] theorem modCampaign_pending (c : Nat) (g : Campaign → Campaign) (s : State) : (modCampaign c g s).pending = s.pending := rfl
@[simp] theorem modCampaign_now (c : Nat) (g : Campaign → Campaign) (s : State) : (modCampaign c g s).now = s.now := rfl
@[simp] theorem modCampaign_draws (c : Nat) (g : Campaign → Campaign) (s : State) : (modCampaign c g s).draws = s.draws := rfl
@[simp] theorem modCampaign_regs (c : Nat) (g : Campaign → Campaign) (s : State) : (modCampaign c g s).regs = s.regs := rfl
@[simp] theorem modCampaign_readData (c : Nat) (g : Campaign → Campaign) (s : State) : (modCampaign c g s).readData = s.readData := rfl
@[simp] theorem modCampaign_msix (c : Nat) (g : Campaign → Campaign) (s : State) : (modCampaign c g s).msix = s.msix := rfl
@[simp] theorem modCampaign_acked (c : Nat) (g : Campaign → Campaign) (s : State) : (modCampaign c g s).acked = s.acked := rfl
@[simp] theorem modCampaign_spi (c : Nat) (g : Campaign → Campaign) (s : State) : (modCampaign c g s).spi = s.spi := rfl
@[simp] theorem modCampaign_jtag (c : Nat) (g : Campaign → Campaign) (s : State) : (modCampaign c g s).jtag = s.jtag := rfl
@[simp] theorem modCampaign_plls (c : Nat) (g : Campaign → Campaign) (s : State) : (modCampaign c g s).plls = s.plls := rfl
@[simp] theorem modCampaign_watch (c : Nat) (g : Campaign → Campaign) (s : State) : (modCampaign c g s).watch = s.watch := rfl
@[simp] theorem modCampaign_i2c (c : Nat) (g : Campaign → Campaign) (s : State) : (modCampaign c g s).i2c = s.i2c := rfl
@[simp] theorem modCampaign_clock (c : Nat) (g : Campaign → Campaign) (s : State) : (modCampaign c g s).clock = s.clock := rfl
@[simp] theorem modCampaign_nextFrame (c : Nat) (g : Campaign → Campaign) (s : State) : (modCampaign c g s).nextFrame = s.nextFrame := rfl
@[simp] theorem modCampaign_ledger (c : Nat) (g : Campaign → Campaign) (s : State) : (modCampaign c g s).ledger = s.ledger := rfl
@[simp] theorem modCampaign_lanes (c : Nat) (g : Campaign → Campaign) (s : State) : (modCampaign c g s).lanes = s.lanes := rfl
@[simp] theorem modCampaign_preempts (c : Nat) (g : Campaign → Campaign) (s : State) : (modCampaign c g s).preempts = s.preempts := rfl
@[simp] theorem modCampaign_laneDebt (c : Nat) (g : Campaign → Campaign) (s : State) : (modCampaign c g s).laneDebt = s.laneDebt := rfl
@[simp] theorem modCampaign_poolTest (c : Nat) (g : Campaign → Campaign) (s : State) : (modCampaign c g s).poolTest = s.poolTest := rfl
@[simp] theorem modCampaign_fes (c : Nat) (g : Campaign → Campaign) (s : State) : (modCampaign c g s).fes = s.fes := rfl
@[simp] theorem modCampaign_relief (c : Nat) (g : Campaign → Campaign) (s : State) : (modCampaign c g s).relief = s.relief := rfl
@[simp] theorem modCampaign_reliefQueue (c : Nat) (g : Campaign → Campaign) (s : State) : (modCampaign c g s).reliefQueue = s.reliefQueue := rfl
@[simp] theorem modCampaign_banks (c : Nat) (g : Campaign → Campaign) (s : State) : (modCampaign c g s).banks = s.banks := rfl
@[simp] theorem modCampaign_frames (c : Nat) (g : Campaign → Campaign) (s : State) : (modCampaign c g s).frames = s.frames := rfl
@[simp] theorem modCampaign_scheds (c : Nat) (g : Campaign → Campaign) (s : State) : (modCampaign c g s).scheds = s.scheds := rfl
@[simp] theorem modCampaign_duty (c : Nat) (g : Campaign → Campaign) (s : State) : (modCampaign c g s).duty = s.duty := rfl
@[simp] theorem modCampaign_nodes (c : Nat) (g : Campaign → Campaign) (s : State) : (modCampaign c g s).nodes = s.nodes := rfl
@[simp] theorem modCampaign_slots (c : Nat) (g : Campaign → Campaign) (s : State) : (modCampaign c g s).slots = s.slots := rfl
@[simp] theorem modCampaign_cache (c : Nat) (g : Campaign → Campaign) (s : State) : (modCampaign c g s).cache = s.cache := rfl
@[simp] theorem modCampaign_reasm (c : Nat) (g : Campaign → Campaign) (s : State) : (modCampaign c g s).reasm = s.reasm := rfl
@[simp] theorem modCampaign_rereads (c : Nat) (g : Campaign → Campaign) (s : State) : (modCampaign c g s).rereads = s.rereads := rfl
@[simp] theorem modCampaign_ddr (c : Nat) (g : Campaign → Campaign) (s : State) : (modCampaign c g s).ddr = s.ddr := rfl
@[simp] theorem modCampaign_hostData (c : Nat) (g : Campaign → Campaign) (s : State) : (modCampaign c g s).hostData = s.hostData := rfl
@[simp] theorem modCampaign_hostPoison (c : Nat) (g : Campaign → Campaign) (s : State) : (modCampaign c g s).hostPoison = s.hostPoison := rfl
@[simp] theorem modCampaign_delivered (c : Nat) (g : Campaign → Campaign) (s : State) : (modCampaign c g s).delivered = s.delivered := rfl
@[simp] theorem modCampaign_rings (c : Nat) (g : Campaign → Campaign) (s : State) : (modCampaign c g s).rings = s.rings := rfl
@[simp] theorem modCampaign_notices (c : Nat) (g : Campaign → Campaign) (s : State) : (modCampaign c g s).notices = s.notices := rfl
@[simp] theorem modCampaign_ports (c : Nat) (g : Campaign → Campaign) (s : State) : (modCampaign c g s).ports = s.ports := rfl
@[simp] theorem modCampaign_meters (c : Nat) (g : Campaign → Campaign) (s : State) : (modCampaign c g s).meters = s.meters := rfl
@[simp] theorem modCampaign_tracks (c : Nat) (g : Campaign → Campaign) (s : State) : (modCampaign c g s).tracks = s.tracks := rfl
@[simp] theorem modCampaign_peers (c : Nat) (g : Campaign → Campaign) (s : State) : (modCampaign c g s).peers = s.peers := rfl
@[simp] theorem modCampaign_latched (c : Nat) (g : Campaign → Campaign) (s : State) : (modCampaign c g s).latched = s.latched := rfl
@[simp] theorem modCampaign_cairn (c : Nat) (g : Campaign → Campaign) (s : State) : (modCampaign c g s).cairn = s.cairn := rfl
@[simp] theorem modCampaign_wear (c : Nat) (g : Campaign → Campaign) (s : State) : (modCampaign c g s).wear = s.wear := rfl
@[simp] theorem modCampaign_root (c : Nat) (g : Campaign → Campaign) (s : State) : (modCampaign c g s).root = s.root := rfl
@[simp] theorem modCampaign_journal (c : Nat) (g : Campaign → Campaign) (s : State) : (modCampaign c g s).journal = s.journal := rfl
@[simp] theorem modCampaign_keyOp (c : Nat) (g : Campaign → Campaign) (s : State) : (modCampaign c g s).keyOp = s.keyOp := rfl
@[simp] theorem modCampaign_ccmJob (c : Nat) (g : Campaign → Campaign) (s : State) : (modCampaign c g s).ccmJob = s.ccmJob := rfl
@[simp] theorem modCampaign_sciJob (c : Nat) (g : Campaign → Campaign) (s : State) : (modCampaign c g s).sciJob = s.sciJob := rfl
@[simp] theorem modCampaign_pkeOp (c : Nat) (g : Campaign → Campaign) (s : State) : (modCampaign c g s).pkeOp = s.pkeOp := rfl
@[simp] theorem modCampaign_engineFaults (c : Nat) (g : Campaign → Campaign) (s : State) : (modCampaign c g s).engineFaults = s.engineFaults := rfl
@[simp] theorem modCampaign_engineChecks (c : Nat) (g : Campaign → Campaign) (s : State) : (modCampaign c g s).engineChecks = s.engineChecks := rfl
@[simp] theorem modCampaign_engineTest (c : Nat) (g : Campaign → Campaign) (s : State) : (modCampaign c g s).engineTest = s.engineTest := rfl
@[simp] theorem modCampaign_mem (c : Nat) (g : Campaign → Campaign) (s : State) : (modCampaign c g s).mem = s.mem := rfl
@[simp] theorem modCampaign_fw (c : Nat) (g : Campaign → Campaign) (s : State) : (modCampaign c g s).fw = s.fw := rfl
@[simp] theorem modCampaign_rope (c : Nat) (g : Campaign → Campaign) (s : State) : (modCampaign c g s).rope = s.rope := rfl
@[simp] theorem modCampaign_copy (c : Nat) (g : Campaign → Campaign) (s : State) : (modCampaign c g s).copy = s.copy := rfl
@[simp] theorem modCampaign_boot (c : Nat) (g : Campaign → Campaign) (s : State) : (modCampaign c g s).boot = s.boot := rfl
@[simp] theorem rd_modCampaign (r : Field) (c : Nat) (g : Campaign → Campaign) (s : State) : rd r (modCampaign c g s) = rd r s := rfl

/-! ### modTrack -/

@[simp] theorem modTrack_pending (n : Nat) (g : Track → Track) (s : State) : (modTrack n g s).pending = s.pending := rfl
@[simp] theorem modTrack_now (n : Nat) (g : Track → Track) (s : State) : (modTrack n g s).now = s.now := rfl
@[simp] theorem modTrack_draws (n : Nat) (g : Track → Track) (s : State) : (modTrack n g s).draws = s.draws := rfl
@[simp] theorem modTrack_regs (n : Nat) (g : Track → Track) (s : State) : (modTrack n g s).regs = s.regs := rfl
@[simp] theorem modTrack_readData (n : Nat) (g : Track → Track) (s : State) : (modTrack n g s).readData = s.readData := rfl
@[simp] theorem modTrack_msix (n : Nat) (g : Track → Track) (s : State) : (modTrack n g s).msix = s.msix := rfl
@[simp] theorem modTrack_acked (n : Nat) (g : Track → Track) (s : State) : (modTrack n g s).acked = s.acked := rfl
@[simp] theorem modTrack_spi (n : Nat) (g : Track → Track) (s : State) : (modTrack n g s).spi = s.spi := rfl
@[simp] theorem modTrack_jtag (n : Nat) (g : Track → Track) (s : State) : (modTrack n g s).jtag = s.jtag := rfl
@[simp] theorem modTrack_plls (n : Nat) (g : Track → Track) (s : State) : (modTrack n g s).plls = s.plls := rfl
@[simp] theorem modTrack_watch (n : Nat) (g : Track → Track) (s : State) : (modTrack n g s).watch = s.watch := rfl
@[simp] theorem modTrack_i2c (n : Nat) (g : Track → Track) (s : State) : (modTrack n g s).i2c = s.i2c := rfl
@[simp] theorem modTrack_clock (n : Nat) (g : Track → Track) (s : State) : (modTrack n g s).clock = s.clock := rfl
@[simp] theorem modTrack_nextFrame (n : Nat) (g : Track → Track) (s : State) : (modTrack n g s).nextFrame = s.nextFrame := rfl
@[simp] theorem modTrack_ledger (n : Nat) (g : Track → Track) (s : State) : (modTrack n g s).ledger = s.ledger := rfl
@[simp] theorem modTrack_lanes (n : Nat) (g : Track → Track) (s : State) : (modTrack n g s).lanes = s.lanes := rfl
@[simp] theorem modTrack_preempts (n : Nat) (g : Track → Track) (s : State) : (modTrack n g s).preempts = s.preempts := rfl
@[simp] theorem modTrack_laneDebt (n : Nat) (g : Track → Track) (s : State) : (modTrack n g s).laneDebt = s.laneDebt := rfl
@[simp] theorem modTrack_poolTest (n : Nat) (g : Track → Track) (s : State) : (modTrack n g s).poolTest = s.poolTest := rfl
@[simp] theorem modTrack_fes (n : Nat) (g : Track → Track) (s : State) : (modTrack n g s).fes = s.fes := rfl
@[simp] theorem modTrack_relief (n : Nat) (g : Track → Track) (s : State) : (modTrack n g s).relief = s.relief := rfl
@[simp] theorem modTrack_reliefQueue (n : Nat) (g : Track → Track) (s : State) : (modTrack n g s).reliefQueue = s.reliefQueue := rfl
@[simp] theorem modTrack_banks (n : Nat) (g : Track → Track) (s : State) : (modTrack n g s).banks = s.banks := rfl
@[simp] theorem modTrack_frames (n : Nat) (g : Track → Track) (s : State) : (modTrack n g s).frames = s.frames := rfl
@[simp] theorem modTrack_scheds (n : Nat) (g : Track → Track) (s : State) : (modTrack n g s).scheds = s.scheds := rfl
@[simp] theorem modTrack_duty (n : Nat) (g : Track → Track) (s : State) : (modTrack n g s).duty = s.duty := rfl
@[simp] theorem modTrack_nodes (n : Nat) (g : Track → Track) (s : State) : (modTrack n g s).nodes = s.nodes := rfl
@[simp] theorem modTrack_slots (n : Nat) (g : Track → Track) (s : State) : (modTrack n g s).slots = s.slots := rfl
@[simp] theorem modTrack_cache (n : Nat) (g : Track → Track) (s : State) : (modTrack n g s).cache = s.cache := rfl
@[simp] theorem modTrack_reasm (n : Nat) (g : Track → Track) (s : State) : (modTrack n g s).reasm = s.reasm := rfl
@[simp] theorem modTrack_rereads (n : Nat) (g : Track → Track) (s : State) : (modTrack n g s).rereads = s.rereads := rfl
@[simp] theorem modTrack_ddr (n : Nat) (g : Track → Track) (s : State) : (modTrack n g s).ddr = s.ddr := rfl
@[simp] theorem modTrack_hostData (n : Nat) (g : Track → Track) (s : State) : (modTrack n g s).hostData = s.hostData := rfl
@[simp] theorem modTrack_hostPoison (n : Nat) (g : Track → Track) (s : State) : (modTrack n g s).hostPoison = s.hostPoison := rfl
@[simp] theorem modTrack_delivered (n : Nat) (g : Track → Track) (s : State) : (modTrack n g s).delivered = s.delivered := rfl
@[simp] theorem modTrack_rings (n : Nat) (g : Track → Track) (s : State) : (modTrack n g s).rings = s.rings := rfl
@[simp] theorem modTrack_notices (n : Nat) (g : Track → Track) (s : State) : (modTrack n g s).notices = s.notices := rfl
@[simp] theorem modTrack_ports (n : Nat) (g : Track → Track) (s : State) : (modTrack n g s).ports = s.ports := rfl
@[simp] theorem modTrack_meters (n : Nat) (g : Track → Track) (s : State) : (modTrack n g s).meters = s.meters := rfl
@[simp] theorem modTrack_campaigns (n : Nat) (g : Track → Track) (s : State) : (modTrack n g s).campaigns = s.campaigns := rfl
@[simp] theorem modTrack_peers (n : Nat) (g : Track → Track) (s : State) : (modTrack n g s).peers = s.peers := rfl
@[simp] theorem modTrack_latched (n : Nat) (g : Track → Track) (s : State) : (modTrack n g s).latched = s.latched := rfl
@[simp] theorem modTrack_cairn (n : Nat) (g : Track → Track) (s : State) : (modTrack n g s).cairn = s.cairn := rfl
@[simp] theorem modTrack_wear (n : Nat) (g : Track → Track) (s : State) : (modTrack n g s).wear = s.wear := rfl
@[simp] theorem modTrack_root (n : Nat) (g : Track → Track) (s : State) : (modTrack n g s).root = s.root := rfl
@[simp] theorem modTrack_journal (n : Nat) (g : Track → Track) (s : State) : (modTrack n g s).journal = s.journal := rfl
@[simp] theorem modTrack_keyOp (n : Nat) (g : Track → Track) (s : State) : (modTrack n g s).keyOp = s.keyOp := rfl
@[simp] theorem modTrack_ccmJob (n : Nat) (g : Track → Track) (s : State) : (modTrack n g s).ccmJob = s.ccmJob := rfl
@[simp] theorem modTrack_sciJob (n : Nat) (g : Track → Track) (s : State) : (modTrack n g s).sciJob = s.sciJob := rfl
@[simp] theorem modTrack_pkeOp (n : Nat) (g : Track → Track) (s : State) : (modTrack n g s).pkeOp = s.pkeOp := rfl
@[simp] theorem modTrack_engineFaults (n : Nat) (g : Track → Track) (s : State) : (modTrack n g s).engineFaults = s.engineFaults := rfl
@[simp] theorem modTrack_engineChecks (n : Nat) (g : Track → Track) (s : State) : (modTrack n g s).engineChecks = s.engineChecks := rfl
@[simp] theorem modTrack_engineTest (n : Nat) (g : Track → Track) (s : State) : (modTrack n g s).engineTest = s.engineTest := rfl
@[simp] theorem modTrack_mem (n : Nat) (g : Track → Track) (s : State) : (modTrack n g s).mem = s.mem := rfl
@[simp] theorem modTrack_fw (n : Nat) (g : Track → Track) (s : State) : (modTrack n g s).fw = s.fw := rfl
@[simp] theorem modTrack_rope (n : Nat) (g : Track → Track) (s : State) : (modTrack n g s).rope = s.rope := rfl
@[simp] theorem modTrack_copy (n : Nat) (g : Track → Track) (s : State) : (modTrack n g s).copy = s.copy := rfl
@[simp] theorem modTrack_boot (n : Nat) (g : Track → Track) (s : State) : (modTrack n g s).boot = s.boot := rfl
@[simp] theorem rd_modTrack (r : Field) (n : Nat) (g : Track → Track) (s : State) : rd r (modTrack n g s) = rd r s := rfl

end Sys2Proof.Machine
end

