-- ==== Sys2Proof/Laws/Registers.lean ====
section
/-! SUPPORT. Sparse tables and register fields: what reads back after a write, and what the event path changes. -/

namespace Sys2Proof.Machine

/-! ### Sparse tables -/

@[simp] theorem find_insert_same {α : Type} (t : Tbl α) (k : Nat) (v : α) : find (insert t k v) k = some v := by
  induction t with
  | nil => simp [insert, find]
  | cons x r ih =>
    obtain ⟨a, b⟩ := x
    simp only [insert]
    split
    · simp [find]
    · split
      · simp [find]
      · simp [find, *]

theorem find_insert_ne {α : Type} (t : Tbl α) (k j : Nat) (v : α) (h : j ≠ k) : find (insert t k v) j = find t j := by
  induction t with
  | nil => simp [insert, find, h]
  | cons x r ih =>
    obtain ⟨a, b⟩ := x
    simp only [insert]
    split
    · simp [find, h]
    · split
      · rename_i e
        subst e
        simp [find, h]
      · simp [find, ih]

@[simp] theorem find_erase_same {α : Type} (t : Tbl α) (k : Nat) : find (erase t k) k = none := by
  induction t with
  | nil => rfl
  | cons x r ih =>
    obtain ⟨a, b⟩ := x
    simp only [erase]
    split
    · exact ih
    · simp [find, *]

theorem find_erase_ne {α : Type} (t : Tbl α) (k j : Nat) (h : j ≠ k) : find (erase t k) j = find t j := by
  induction t with
  | nil => rfl
  | cons x r ih =>
    obtain ⟨a, b⟩ := x
    simp only [erase]
    split
    · rename_i e
      subst e
      simp [find, ih, h]
    · simp [find, ih]

@[simp] theorem look_insert_same {α : Type} (t : Tbl α) (k : Nat) (v d : α) : look (insert t k v) k d = v := by
  simp [look]

theorem look_insert_ne {α : Type} (t : Tbl α) (k j : Nat) (v d : α) (h : j ≠ k) :
    look (insert t k v) j d = look t j d := by
  simp [look, find_insert_ne t k j v h]

/-! ### Fields -/

/-- A field reads what was written to it, cut to its width. -/
@[simp] theorem rd_wr_same (f : Field) (v : Nat) (s : State) : rd f (wr f v s) = v % 2 ^ f.width := by
  unfold rd wr
  by_cases h : v % 2 ^ f.width = f.reset
  · simp [h, look]
  · simp [h, look]

/-- A field keeps its value over a write to another. -/
theorem rd_wr_ne (f g : Field) (v : Nat) (s : State) (h : f.key ≠ g.key) : rd f (wr g v s) = rd f s := by
  unfold rd wr
  by_cases e : v % 2 ^ g.width = g.reset
  · simp [e, look, find_erase_ne _ _ _ h]
  · simp [e, look, find_insert_ne _ _ _ _ h]

/-- A one-bit field reads the truth value written to it. -/
@[simp] theorem isSet_wrBool_same (f : Field) (b : Bool) (s : State) (h : f.width = 1) :
    isSet f (wrBool f b s) = b := by
  cases b <;> simp [isSet, wrBool, h]

theorem isSet_wr_ne (f g : Field) (v : Nat) (s : State) (h : f.key ≠ g.key) : isSet f (wr g v s) = isSet f s := by
  simp [isSet, rd_wr_ne f g v s h]

/-! ### What only shows -/

/-- `t` is `s` but for registers whose key satisfies `P`, the MSI-X function, the acknowledged sources, the queue of
cairn records and the waiting scan. -/
structure Shows (P : Nat → Bool) (s t : State) : Prop where
  same : ∃ r m a c q, t = { s with regs := r, msix := m, acked := a, cairn := c, rereads := q }
  regs : ∀ f : Field, P f.key = false → rd f t = rd f s

theorem Shows.refl (P : Nat → Bool) (s : State) : Shows P s s := ⟨⟨_, _, _, _, _, rfl⟩, fun _ _ => rfl⟩

theorem Shows.trans {P : Nat → Bool} {s t u : State} (h : Shows P s t) (k : Shows P t u) : Shows P s u := by
  obtain ⟨⟨r, m, a, c, q, rfl⟩, hr⟩ := h
  obtain ⟨⟨r', m', a', c', q', rfl⟩, kr⟩ := k
  exact ⟨⟨r', m', a', c', q', rfl⟩, fun f hf => (kr f hf).trans (hr f hf)⟩

theorem Shows.mono {P Q : Nat → Bool} {s t : State} (h : Shows P s t) (hq : ∀ k, Q k = false → P k = false) :
    Shows Q s t := ⟨h.same, fun f hf => h.regs f (hq _ hf)⟩

theorem Shows.foldl {P : Nat → Bool} {α : Type} (l : List α) (g : State → α → State)
    (h : ∀ s x, Shows P s (g s x)) (s : State) : Shows P s (l.foldl g s) := by
  induction l generalizing s with
  | nil => exact Shows.refl P s
  | cons x r ih => exact (h s x).trans (ih (g s x))

theorem Shows.foldlMem {P : Nat → Bool} {α : Type} (l : List α) (g : State → α → State)
    (h : ∀ s x, x ∈ l → Shows P s (g s x)) (s : State) : Shows P s (l.foldl g s) := by
  induction l generalizing s with
  | nil => exact Shows.refl P s
  | cons x r ih =>
    exact (h s x (by simp)).trans (ih (fun s y hy => h s y (by simp [hy])) (g s x))

theorem Shows.wr {P : Nat → Bool} (f : Field) (v : Nat) (s : State) (h : P f.key = true) : Shows P s (wr f v s) :=
  ⟨⟨_, _, _, _, _, rfl⟩, fun g hg => rd_wr_ne g f v s (fun e => by rw [e, h] at hg; cases hg)⟩

/-! ### The event path (R96 to R101) -/

/-- Sending a message changes the message count and the MSI-X function. -/
theorem shows_sendMsix (P : Nat → Bool) (hc : P F.EVT.MSG_COUNT.key = true) (v : Nat) (s : State) :
    Shows P s (sendMsix v s) :=
  ⟨⟨_, _, _, _, _, rfl⟩, fun f hf => by
    have : f.key ≠ F.EVT.MSG_COUNT.key := fun e => by rw [e, hc] at hf; cases hf
    exact rd_wr_ne f _ _ s this⟩

theorem shows_assertVec (P : Nat → Bool) (hc : P F.EVT.MSG_COUNT.key = true) (v : Nat) (s : State) :
    Shows P s (assertVec v s) := by
  unfold assertVec
  split
  · exact Shows.refl P s
  · split
    · exact ⟨⟨_, _, _, _, _, rfl⟩, fun _ _ => rfl⟩
    · split
      · exact ⟨⟨_, _, _, _, _, rfl⟩, fun _ _ => rfl⟩
      · exact shows_sendMsix P hc v s

theorem shows_dropPending (P : Nat → Bool) (vs : List Nat) (s : State) : Shows P s (dropPending vs s) := by
  unfold dropPending
  refine Shows.foldl vs _ (fun s v => ?_) s
  dsimp only
  split
  · exact ⟨⟨_, _, _, _, _, rfl⟩, fun _ _ => rfl⟩
  · exact Shows.refl P s

theorem shows_settle (P : Nat → Bool) (hc : P F.EVT.MSG_COUNT.key = true) (srcs : List Nat) (old s : State) :
    Shows P s (settle srcs old s) := by
  have h1 : ∀ a, Shows P s { s with acked := a } :=
    fun a => ⟨⟨s.regs, s.msix, a, s.cairn, s.rereads, rfl⟩, fun _ _ => rfl⟩
  have h2 : ∀ (l : List Nat) (t : State), Shows P t (l.foldl (fun s v => assertVec v s) t) :=
    fun l t => Shows.foldl l _ (fun s v => shows_assertVec P hc v s) t
  unfold settle
  exact (h1 _).trans ((h2 _ _).trans (shows_dropPending P _ _))

/-- A latch changes its page's latch, the message count and the MSI-X function (R96, R99). -/
theorem shows_latch (P : Nat → Bool) (pg bit : Nat) (s : State) (hc : P F.EVT.MSG_COUNT.key = true)
    (hl : P (F.HEAD.EVT_LATCH pg).key = true) : Shows P s (latch pg bit s) := by
  unfold latch orBits
  exact (Shows.wr _ _ s hl).trans (shows_settle P hc _ _ _)

theorem shows_clearLatch (P : Nat → Bool) (pg m : Nat) (s : State) (hc : P F.EVT.MSG_COUNT.key = true)
    (hl : P (F.HEAD.EVT_LATCH pg).key = true) : Shows P s (clearLatch pg m s) := by
  unfold clearLatch clearBits
  exact (Shows.wr _ _ s hl).trans (shows_settle P hc _ _ _)

/-- A latched bit reads 1 in its page's latch (R96). -/
theorem latch_sets (pg bit : Nat) (s : State) (h : bit < 32) :
    (rd (F.HEAD.EVT_LATCH pg) (latch pg bit s)).testBit bit = true := by
  have hk : (F.HEAD.EVT_LATCH pg).key ≠ F.EVT.MSG_COUNT.key := by
    simp only [Field.key, F.HEAD.EVT_LATCH, F.EVT.MSG_COUNT, Life.code]; omega
  have e : rd (F.HEAD.EVT_LATCH pg) (latch pg bit s) =
      rd (F.HEAD.EVT_LATCH pg) (orBits (F.HEAD.EVT_LATCH pg) (2 ^ bit) s) := by
    unfold latch
    exact (shows_settle (fun k => k == F.EVT.MSG_COUNT.key) (by simp) _ _ _).regs _ (by simpa using hk)
  rw [e]
  unfold orBits
  rw [rd_wr_same]
  rw [Nat.testBit_mod_two_pow, Nat.testBit_or, Nat.testBit_two_pow_self]
  simp [F.HEAD.EVT_LATCH, h]

end Sys2Proof.Machine
end

