-- ==== Sys2Proof/Laws/Effects.lean ====
section
/-! SUPPORT. What follows a command in a calm state: only registers that show other state, the latches of low reserve and
the queue of cairn records change. -/

namespace Sys2Proof.Machine

/-- What only follows: `Shows` for the keys of `followKey`. -/
abbrev Follows (s t : State) : Prop := Shows followKey s t

theorem follows_queueRecord (x : CairnItem) (s : State) : Follows s (queueRecord x s) := by
  unfold queueRecord
  split
  · exact ⟨⟨_, _, _, _, _, rfl⟩, fun _ _ => rfl⟩
  · exact Shows.trans (t := { s with cairn := { s.cairn with dropped := s.cairn.dropped + 1 } })
      ⟨⟨_, _, _, _, _, rfl⟩, fun _ _ => rfl⟩ (Shows.wr _ _ _ (by decide))

theorem follows_reserveLow (cls : Nat) (s : State) : Follows s (reserveLow cls s) := by
  unfold reserveLow logCairn
  exact (shows_latch followKey reservePage 1 s (by decide) (by decide)).trans (follows_queueRecord _ _)

theorem follows_showProgress (s : State) : Follows s (showProgress s) := Shows.wr _ _ _ (by decide)

theorem follows_refreshBuffer (s : State) : Follows s (refreshBuffer s) := by
  unfold refreshBuffer
  refine Shows.foldlMem _ _ (fun s n hn => ?_) s
  have h : n = 0 ∨ n = 1 := by simp at hn; omega
  have h1 : followKey (F.ETH.BUFFER_LEVEL n).key = true := by rcases h with rfl | rfl <;> decide
  have h2 : followKey (F.ETH.BUFFER_PEAK n).key = true := by rcases h with rfl | rfl <;> decide
  exact (Shows.wr _ _ _ h1).trans (Shows.wr _ _ _ h2)

theorem follows_showTrial (s : State) : Follows s (showTrial s) := Shows.wr _ _ _ (by decide)

theorem follows_showTrust (s : State) : Follows s (showTrust s) := by
  unfold showTrust
  split
  · exact Shows.wr _ _ _ (by decide)
  · exact Shows.refl _ s

theorem follows_showHealth (s : State) : Follows s (showHealth s) := Shows.wr _ _ _ (by decide)

theorem follows_showBusy (s : State) : Follows s (showBusy s) := by
  unfold showBusy
  refine Shows.foldlMem _ _ (fun s pg hp => ?_) s
  split
  · exact Shows.refl _ s
  · refine Shows.wr _ _ _ ?_
    have : ∀ p ∈ fullPages, followKey (F.HEAD.STATE_BUSY p).key = true := by decide
    exact this pg hp

theorem follows_showRemain (old s : State) : Follows s (showRemain old s) := by
  unfold showRemain
  refine Shows.foldlMem _ _ (fun t x hx => ?_) s
  have hk : followKey x.2.1.key = true := by
    have h2 : x.2 ∈ remains s := by
      have := List.of_mem_zip (a := x.1) (b := x.2) (by simpa using hx)
      exact this.2
    simp only [remains, List.mem_cons, List.not_mem_nil, or_false] at h2
    rcases h2 with h | h | h | h | h | h | h | h | h <;> rw [h] <;> dsimp only <;> decide
  have h1 : Follows t (if rd x.2.1 t = x.2.2.2 then t else wr x.2.1 x.2.2.2 t) := by
    split
    · exact Shows.refl _ t
    · exact Shows.wr _ _ _ hk
  dsimp only
  split
  · exact h1.trans (follows_reserveLow _ _)
  · exact h1

/-- The registers that show what other units hold follow; nothing else changes. -/
theorem follows_showWork (old s : State) : Follows s (showWork old s) := by
  unfold showWork
  exact (follows_showProgress s).trans ((follows_refreshBuffer _).trans ((follows_showTrial _).trans
    ((follows_showTrust _).trans ((follows_showHealth _).trans ((follows_showBusy _).trans (follows_showRemain old _))))))

theorem follows_showSlotScan (x : Option Nat) (s : State) : Follows s (showSlotScan x s) := by
  have w : ∀ (f : Field) (v : Nat) (s : State), followKey f.key = true → Follows s (wr f v s) :=
    fun f v s h => Shows.wr f v s h
  unfold showSlotScan
  split
  · exact (w _ _ _ (by decide)).trans ((w _ _ _ (by decide)).trans ((w _ _ _ (by decide)).trans
      ((w _ _ _ (by decide)).trans (w _ _ _ (by decide)))))
  · exact (w _ _ _ (by decide)).trans ((w _ _ _ (by decide)).trans ((w _ _ _ (by decide)).trans
      ((w _ _ _ (by decide)).trans (w _ _ _ (by decide)))))

theorem follows_showSlots (s : State) : Follows s (showSlots s) := by
  have w : ∀ (f : Field) (v : Nat) (s : State), followKey f.key = true → Follows s (wr f v s) :=
    fun f v s h => Shows.wr f v s h
  unfold showSlots
  exact (w _ _ _ (by decide)).trans ((w _ _ _ (by decide)).trans ((w _ _ _ (by decide)).trans
    ((w _ _ _ (by decide)).trans ((w _ _ _ (by decide)).trans (follows_showSlotScan _ _)))))

theorem follows_fields (l : List (Field × Nat)) (h : ∀ x ∈ l, followKey x.1.key = true) (s : State) :
    Follows s (l.foldl (fun s x => wr x.1 x.2 s) s) :=
  Shows.foldlMem _ _ (fun s x hx => Shows.wr _ _ s (h x hx)) s

theorem follows_scanEui (v : Nat → Nat) (s : State) :
    Follows s ((List.range 2).foldl (fun s k => wr (F.NODE.SCAN_EUI k) (v k) s) s) := by
  refine Shows.foldlMem _ _ (fun s k hk => Shows.wr _ _ s ?_) s
  have h : k = 0 ∨ k = 1 := by simp at hk; omega
  rcases h with rfl | rfl <;> decide

theorem follows_clearScan (s : State) : Follows s (clearScan s) := by
  have w : ∀ (f : Field) (v : Nat) (s : State), followKey f.key = true → Follows s (wr f v s) :=
    fun f v s h => Shows.wr f v s h
  unfold clearScan
  have a : Follows s (wr F.NODE.SCAN0_INDEX 0 (wr F.NODE.SCAN0_NONE 1 (wr F.NODE.SCAN0_FLAGS 0 s))) :=
    (w _ _ _ (by decide)).trans ((w _ _ _ (by decide)).trans (w _ _ _ (by decide)))
  refine a.trans ((follows_scanEui (fun _ => 0) _).trans ?_)
  exact (w _ _ _ (by decide)).trans ((w _ _ _ (by decide)).trans ((w _ _ _ (by decide)).trans ((w _ _ _ (by decide)).trans
    ((w _ _ _ (by decide)).trans ((w _ _ _ (by decide)).trans ((w _ _ _ (by decide)).trans ((w _ _ _ (by decide)).trans
    (w _ _ _ (by decide)))))))))

theorem follows_showScan (i : Nat) (s : State) : Follows s (showScan i s) := by
  have w : ∀ (f : Field) (v : Nat) (s : State), followKey f.key = true → Follows s (wr f v s) :=
    fun f v s h => Shows.wr f v s h
  unfold showScan
  exact (w _ _ _ (by decide)).trans ((w _ _ _ (by decide)).trans ((w _ _ _ (by decide)).trans
    ((follows_scanEui _ _).trans ((w _ _ _ (by decide)).trans ((w _ _ _ (by decide)).trans ((w _ _ _ (by decide)).trans
    ((w _ _ _ (by decide)).trans ((w _ _ _ (by decide)).trans ((w _ _ _ (by decide)).trans ((w _ _ _ (by decide)).trans
    ((w _ _ _ (by decide)).trans (w _ _ _ (by decide)))))))))))))

theorem follows_refreshScan (s : State) : Follows s (refreshScan s) := by
  unfold refreshScan
  dsimp only
  split
  · split
    · split
      · exact Shows.refl _ s
      · unfold scanTo
        split
        · exact follows_showScan _ s
        · exact ⟨⟨_, _, _, _, _, rfl⟩, fun _ _ => rfl⟩
    · split
      · exact Shows.refl _ s
      · exact follows_clearScan s
  · exact Shows.refl _ s

/-- Without a standby to mirror to, the scans and the view of a slot follow; nothing else changes. -/
theorem follows_storeWork (old s : State) (h : mirrors s = false) : Follows s (storeWork old s) := by
  unfold storeWork
  have e : mirrorChanges old s = s := by simp [mirrorChanges, h]
  rw [e]
  exact (follows_showSlots s).trans (follows_refreshScan _)

/-- With nothing waiting and no standby to mirror to, a command's own effect is the whole of it, but for the registers that
show what other units hold. -/
theorem follows_settleWork (old s : State) (hq : quiet s = true) (hm : mirrors s = false) :
    Follows s (settleWork old s) := by
  unfold settleWork
  have e : airWork s = s := by simp [airWork, hq]
  rw [e]
  exact (follows_storeWork old s hm).trans (follows_showWork old _)

/-- The same of a calm state. -/
theorem follows_calm (old s : State) (h : Calm s = true) : Follows s (settleWork old s) := by
  simp only [Calm, Bool.and_eq_true, Bool.not_eq_true'] at h
  exact follows_settleWork old s h.1 h.2

end Sys2Proof.Machine
end

