-- ==== Sys2Proof/Laws/Frame.lean ====
section
/-! SUPPORT. Frames, built up update by update: an update stays within the pages and parts it names. -/

namespace Sys2Proof.Machine

variable {P : List Scope} {S : List Part} {s t u : State}

theorem Within.refl (P : List Scope) (S : List Part) (s : State) : Within P S s s :=
  ⟨fun _ _ _ => rfl, fun p _ => by cases p <;> simp [Agrees]⟩

theorem Agrees.trans {p : Part} (h : Agrees s t p) (k : Agrees t u p) : Agrees s u p := by
  cases p <;> simp_all [Agrees]

theorem Within.trans (h : Within P S s t) (k : Within P S t u) : Within P S s u :=
  ⟨fun f a b => (k.regs f a b).trans (h.regs f a b), fun p a => (h.parts p a).trans (k.parts p a)⟩

/-- Whether a scope lies in others: listed, or a word of a listed page. -/
def Scope.among (P : List Scope) : Scope → Bool
  | .page pg => P.contains (.page pg)
  | .word pg off => P.any (fun x => x == .word pg off || x == .page pg)

theorem Scope.among_holds {x : Scope} {k : Nat} (h : x.among P = true) (hk : x.holds k = true) : inScopes P k = true := by
  cases x with
  | page pg => exact List.any_eq_true.mpr ⟨_, by simpa [Scope.among] using h, hk⟩
  | word pg off =>
    simp only [Scope.among, List.any_eq_true, Bool.or_eq_true, beq_iff_eq] at h
    obtain ⟨x, hx, rfl | rfl⟩ := h
    · exact List.any_eq_true.mpr ⟨_, hx, hk⟩
    · refine List.any_eq_true.mpr ⟨_, hx, ?_⟩
      simp only [Scope.holds, decide_eq_true_eq] at hk
      exact decide_eq_true (by simp only [keyPage]; omega)

/-- A frame reached through a state between. -/
theorem Within.via (t : State) (h : Within P S s t) (k : Within P S s t → Within P S s u) : Within P S s u := k h

/-- A wider frame. -/
theorem Within.mono {P' : List Scope} {S' : List Part} (h : Within P S s t) (hp : ∀ x ∈ P, x.among P' = true)
    (hs : S.all (fun x => S'.contains x) = true) : Within P' S' s t := by
  refine ⟨fun f a b => h.regs f a ?_, fun p a => h.parts p (fun c => a ?_)⟩
  · rw [Bool.eq_false_iff] at b ⊢
    intro c
    obtain ⟨x, hx, hk⟩ := List.any_eq_true.mp c
    exact b (Scope.among_holds (hp x hx) hk)
  · simpa using List.all_eq_true.mp hs p c

/-- One frame after another. -/
theorem Within.after {P' : List Scope} {S' : List Part} (h : Within P S s t) (k : Within P' S' t u)
    (hp : ∀ x ∈ P', x.among P = true) (hs : S'.all (fun x => S.contains x) = true) : Within P S s u :=
  h.trans (k.mono hp hs)

/-- One frame after another, both of named words. -/
theorem Within.then {P' : List Scope} {S' : List Part} (h : Within P S s t) (k : Within P' S' t u)
    (hp : P'.all (fun x => x.among P) = true) (hs : S'.all (fun x => S.contains x) = true) : Within P S s u :=
  h.after k (List.all_eq_true.mp hp) hs

/-- A field whose word lies in the scopes. -/
theorem inScopes_of {f : Field} (h : (Scope.word f.page f.off).among P = true) : inScopes P f.key = true :=
  Scope.among_holds h (decide_eq_true (by simp only [Field.key]; omega))

/-- A field whose page is a scope. -/
theorem inScopes_ofPage {f : Field} (h : (Scope.page f.page).among P = true) : inScopes P f.key = true :=
  Scope.among_holds h (decide_eq_true (by simp only [Field.key, keyPage]; omega))

theorem amongNil : ∀ x ∈ ([] : List Scope), x.among P = true := fun _ h => nomatch h

theorem amongCons {a : Scope} {l : List Scope} (h : a.among P = true) (k : ∀ x ∈ l, x.among P = true) :
    ∀ x ∈ a :: l, x.among P = true := fun x hx => by
  rcases List.mem_cons.mp hx with rfl | hx
  · exact h
  · exact k x hx

/-- A word of one of four instances. -/
theorem amongW4 {b x o : Nat}
    (h : ((Scope.word b o).among P && (Scope.word (b + 1) o).among P && (Scope.word (b + 2) o).among P &&
      (Scope.word (b + 3) o).among P) = true) : (Scope.word (b + x % 4) o).among P = true := by
  simp only [Bool.and_eq_true] at h
  have : x % 4 = 0 ∨ x % 4 = 1 ∨ x % 4 = 2 ∨ x % 4 = 3 := by omega
  rcases this with e | e | e | e <;> rw [e] <;> simp [h]

/-- A word of one of two instances. -/
theorem amongW2 {b x o : Nat} (h : ((Scope.word b o).among P && (Scope.word (b + 1) o).among P) = true) :
    (Scope.word (b + x % 2) o).among P = true := by
  simp only [Bool.and_eq_true] at h
  have : x % 2 = 0 ∨ x % 2 = 1 := by omega
  rcases this with e | e <;> rw [e] <;> simp [h]

/-- A page of four instances. -/
theorem amongP4 {b x : Nat}
    (h : ((Scope.page b).among P && (Scope.page (b + 1)).among P && (Scope.page (b + 2)).among P &&
      (Scope.page (b + 3)).among P) = true) : (Scope.page (b + x % 4)).among P = true := by
  simp only [Bool.and_eq_true] at h
  have : x % 4 = 0 ∨ x % 4 = 1 ∨ x % 4 = 2 ∨ x % 4 = 3 := by omega
  rcases this with e | e | e | e <;> rw [e] <;> simp [h]

/-- A page of two instances. -/
theorem amongP2 {b x : Nat} (h : ((Scope.page b).among P && (Scope.page (b + 1)).among P) = true) :
    (Scope.page (b + x % 2)).among P = true := by
  simp only [Bool.and_eq_true] at h
  have : x % 2 = 0 ∨ x % 2 = 1 := by omega
  rcases this with e | e <;> rw [e] <;> simp [h]

/-- A field of a word that a scope names. -/
theorem inScopes_word {f : Field} (h : Scope.word f.page f.off ∈ P) : inScopes P f.key = true := by
  refine List.any_eq_true.mpr ⟨_, h, ?_⟩
  exact decide_eq_true (by simp only [Field.key]; omega)

/-- A field of a page that a scope names. -/
theorem inScopes_page {f : Field} (h : Scope.page f.page ∈ P) : inScopes P f.key = true := by
  refine List.any_eq_true.mpr ⟨_, h, ?_⟩
  exact decide_eq_true (by simp only [Field.key, keyPage]; omega)

/-- A field of a meter, which is a class's or a node's. -/
theorem inScopes_meter {a b : Nat → Field} {m : Nat} (h : Scope.page 0x28 ∈ P) (ha : ∀ k, (a k).page = 0x28)
    (hb : ∀ k, (b k).page = 0x28) : inScopes P (meterField a b m).key = true := by
  refine inScopes_page ?_
  unfold meterField
  split <;> simp [ha, hb, h]

/-- A field of the word that is the scope at place `i`. -/
theorem inScopes_at {f : Field} (i : Nat) (h : P[i]? = some (Scope.word f.page f.off)) : inScopes P f.key = true :=
  inScopes_word (List.mem_of_getElem? h)

/-- The scope at place `i`. -/
theorem amongAt {x : Scope} (i : Nat) (h : P[i]? = some x) : x.among P = true := by
  have m := List.mem_of_getElem? h
  cases x with
  | page pg => simpa [Scope.among] using m
  | word pg off => exact List.any_eq_true.mpr ⟨_, m, by simp⟩

theorem Within.shows {Q : Nat → Bool} (h : Within P S s t) (k : Shows Q t u)
    (hq : ∀ x, Q x = true → followKey x = true ∨ inScopes P x = true) : Within P S s u := by
  refine h.trans ⟨fun f a b => k.regs f ?_, fun p _ => ?_⟩
  · cases e : Q f.key with
    | false => rfl
    | true => rcases hq _ e with c | c
              · rw [a] at c; cases c
              · rw [b] at c; cases c
  · obtain ⟨r, m, a, c, q, e⟩ := k.same
    cases p <;> simp only [e, Agrees, and_self]

theorem Within.follows (h : Within P S s t) (k : Follows t u) : Within P S s u :=
  h.shows k (fun _ hx => .inl hx)

theorem wr_agrees (f : Field) (v : Nat) (t : State) (p : Part) : Agrees t (wr f v t) p := by
  cases p <;> simp [Agrees]

theorem Within.wr {f : Field} {v : Nat} (h : Within P S s t) (hf : inScopes P f.key = true) : Within P S s (Machine.wr f v t) :=
  h.trans ⟨fun g _ b => rd_wr_ne g f v t (fun e => by rw [e, hf] at b; cases b),
    fun p _ => wr_agrees f v t p⟩

theorem Within.wrFollow {f : Field} {v : Nat} (h : Within P S s t) (hf : followKey f.key = true) :
    Within P S s (Machine.wr f v t) :=
  h.trans ⟨fun g a _ => rd_wr_ne g f v t (fun e => by rw [e, hf] at a; cases a), fun p _ => by cases p <;> simp [Agrees]⟩

theorem Within.latch {pg bit : Nat} (h : Within P S s t) (hf : inScopes P (F.HEAD.EVT_LATCH pg).key = true) :
    Within P S s (Machine.latch pg bit t) :=
  h.shows (Q := fun k => followKey k || inScopes P k)
    (shows_latch _ pg bit t (by simp [show followKey F.EVT.MSG_COUNT.key = true by decide]) (by simp [hf]))
    (fun x hx => by simpa using hx)

theorem Within.clearLatch {pg m : Nat} (h : Within P S s t) (hf : inScopes P (F.HEAD.EVT_LATCH pg).key = true) :
    Within P S s (Machine.clearLatch pg m t) :=
  h.shows (Q := fun k => followKey k || inScopes P k)
    (shows_clearLatch _ pg m t (by simp [show followKey F.EVT.MSG_COUNT.key = true by decide]) (by simp [hf]))
    (fun x hx => by simpa using hx)

theorem Within.settle {srcs : List Nat} {old : State} (h : Within P S s t) : Within P S s (Machine.settle srcs old t) :=
  h.follows (shows_settle followKey (by decide) srcs old t)

theorem Within.logCairn {k : Nat} {d : List Nat} (h : Within P S s t) : Within P S s (Machine.logCairn k d t) :=
  h.follows (follows_queueRecord _ _)

theorem Within.queueRecord {x : CairnItem} (h : Within P S s t) : Within P S s (Machine.queueRecord x t) :=
  h.follows (follows_queueRecord _ _)

theorem Within.settleWork {old : State} (h : Within P S s t) (hc : Calm t = true) : Within P S s (Machine.settleWork old t) :=
  h.follows (follows_calm old t hc)

theorem Within.foldl {α : Type} {l : List α} {g : State → α → State} (h : Within P S s t)
    (hg : ∀ t x, x ∈ l → Within P S s t → Within P S s (g t x)) : Within P S s (l.foldl g t) := by
  induction l generalizing t with
  | nil => exact h
  | cons x r ih => exact ih (hg t x (by simp) h) (fun t y hy => hg t y (by simp [hy]))

theorem Within.ite {c : Prop} [Decidable c] (a : Within P S s t) (b : Within P S s u) :
    Within P S s (if c then t else u) := by
  split
  · exact a
  · exact b

theorem Within.iteS {c : Prop} [Decidable c] (a : c → Within P S s t) (b : ¬c → Within P S s u) :
    Within P S s (if c then t else u) := by
  split
  · exact a ‹_›
  · exact b ‹_›

/-- A conditional change of a state already known to be within the frame. -/
theorem Within.iteR {c : Prop} [Decidable c] (h : Within P S s u) (a : Within P S s u → Within P S s t) :
    Within P S s (if c then t else u) := Within.ite (a h) h

theorem Within.iteL {c : Prop} [Decidable c] (h : Within P S s t) (a : Within P S s t → Within P S s u) :
    Within P S s (if c then t else u) := Within.ite h (a h)

/-- An update of several fields. -/
theorem Within.upd (hr : u.regs = t.regs) (ha : ∀ p : Part, p ∉ S → Agrees t u p) (h : Within P S s t) : Within P S s u :=
  h.trans ⟨fun f _ _ => by simp only [rd, hr], ha⟩

/-- A state that comes out of an operation beside an answer. -/
theorem Within.viaEq {α : Type} {p : α × State} {a : α} (h : Within P S s p.2) (e : p = (a, t))
    (k : Within P S s t → Within P S s u) : Within P S s u := k (by rw [e] at h; exact h)

/-- The queue of a command's answer is no part of a frame. -/
theorem Within.pending {q : List Instr} (h : Within P S s t) : Within P S s { t with pending := q } :=
  h.trans ⟨fun _ _ _ => rfl, fun p _ => by cases p <;> simp [Agrees]⟩

theorem Within.set_msix {x : Msix} (h : Within P S s t) : Within P S s { t with msix := x } :=
  h.trans ⟨fun _ _ _ => rfl, fun p _ => by cases p <;> simp [Agrees]⟩

theorem Within.set_acked {x : BitVec 256} (h : Within P S s t) : Within P S s { t with acked := x } :=
  h.trans ⟨fun _ _ _ => rfl, fun p _ => by cases p <;> simp [Agrees]⟩

theorem Within.set_cairn {x : Cairn} (h : Within P S s t) : Within P S s { t with cairn := x } :=
  h.trans ⟨fun _ _ _ => rfl, fun p _ => by cases p <;> simp [Agrees]⟩

theorem Within.set_rereads {x : List Reader} (h : Within P S s t) : Within P S s { t with rereads := x } :=
  h.trans ⟨fun _ _ _ => rfl, fun p _ => by cases p <;> simp [Agrees]⟩

theorem Within.set_now {x : Nat} (h : Within P S s t) (hs : Part.now ∈ S) :
    Within P S s { t with now := x } :=
  h.trans ⟨fun _ _ _ => rfl, fun p hp => by cases p <;> simp_all [Agrees]⟩

theorem Within.set_draws {x : Nat} (h : Within P S s t) (hs : Part.draws ∈ S) :
    Within P S s { t with draws := x } :=
  h.trans ⟨fun _ _ _ => rfl, fun p hp => by cases p <;> simp_all [Agrees]⟩

theorem Within.set_readData {x : Word} (h : Within P S s t) (hs : Part.readData ∈ S) :
    Within P S s { t with readData := x } :=
  h.trans ⟨fun _ _ _ => rfl, fun p hp => by cases p <;> simp_all [Agrees]⟩

theorem Within.set_spi {x : Spi} (h : Within P S s t) (hs : Part.spi ∈ S) :
    Within P S s { t with spi := x } :=
  h.trans ⟨fun _ _ _ => rfl, fun p hp => by cases p <;> simp_all [Agrees]⟩

theorem Within.set_jtag {x : Jtag} (h : Within P S s t) (hs : Part.jtag ∈ S) :
    Within P S s { t with jtag := x } :=
  h.trans ⟨fun _ _ _ => rfl, fun p hp => by cases p <;> simp_all [Agrees]⟩

theorem Within.set_plls {x : Tbl Pll} (h : Within P S s t) (hs : Part.plls ∈ S) :
    Within P S s { t with plls := x } :=
  h.trans ⟨fun _ _ _ => rfl, fun p hp => by cases p <;> simp_all [Agrees]⟩

theorem Within.set_watch {x : Watch} (h : Within P S s t) (hs : Part.watch ∈ S) :
    Within P S s { t with watch := x } :=
  h.trans ⟨fun _ _ _ => rfl, fun p hp => by cases p <;> simp_all [Agrees]⟩

theorem Within.set_i2c {x : I2c} (h : Within P S s t) (hs : Part.i2c ∈ S) :
    Within P S s { t with i2c := x } :=
  h.trans ⟨fun _ _ _ => rfl, fun p hp => by cases p <;> simp_all [Agrees]⟩

theorem Within.set_clock {x : Clock} (h : Within P S s t) (hs : Part.clock ∈ S) :
    Within P S s { t with clock := x } :=
  h.trans ⟨fun _ _ _ => rfl, fun p hp => by cases p <;> simp_all [Agrees]⟩

theorem Within.set_nextFrame {x : Nat} (h : Within P S s t) (hs : Part.frameNumbers ∈ S) :
    Within P S s { t with nextFrame := x } :=
  h.trans ⟨fun _ _ _ => rfl, fun p hp => by cases p <;> simp_all [Agrees]⟩

theorem Within.set_ledger {x : List (Nat × Disp)} (h : Within P S s t) (hs : Part.ledger ∈ S) :
    Within P S s { t with ledger := x } :=
  h.trans ⟨fun _ _ _ => rfl, fun p hp => by cases p <;> simp_all [Agrees]⟩

theorem Within.set_lanes {x : Tbl Lane} (h : Within P S s t) (hs : Part.lanes ∈ S) :
    Within P S s { t with lanes := x } :=
  h.trans ⟨fun _ _ _ => rfl, fun p hp => by cases p <;> simp_all [Agrees]⟩

theorem Within.set_preempts {x : List (Nat × Nat × Nat)} (h : Within P S s t) (hs : Part.preempts ∈ S) :
    Within P S s { t with preempts := x } :=
  h.trans ⟨fun _ _ _ => rfl, fun p hp => by cases p <;> simp_all [Agrees]⟩

theorem Within.set_laneDebt {x : List Nat} (h : Within P S s t) (hs : Part.poolTest ∈ S) :
    Within P S s { t with laneDebt := x } :=
  h.trans ⟨fun _ _ _ => rfl, fun p hp => by cases p <;> simp_all [Agrees]⟩

theorem Within.set_poolTest {x : Option (Nat × Option Nat)} (h : Within P S s t) (hs : Part.poolTest ∈ S) :
    Within P S s { t with poolTest := x } :=
  h.trans ⟨fun _ _ _ => rfl, fun p hp => by cases p <;> simp_all [Agrees]⟩

theorem Within.set_fes {x : Tbl Fe} (h : Within P S s t) (hs : Part.fes ∈ S) :
    Within P S s { t with fes := x } :=
  h.trans ⟨fun _ _ _ => rfl, fun p hp => by cases p <;> simp_all [Agrees]⟩

theorem Within.set_relief {x : Option Relief} (h : Within P S s t) (hs : Part.relief ∈ S) :
    Within P S s { t with relief := x } :=
  h.trans ⟨fun _ _ _ => rfl, fun p hp => by cases p <;> simp_all [Agrees]⟩

theorem Within.set_reliefQueue {x : List Relief} (h : Within P S s t) (hs : Part.relief ∈ S) :
    Within P S s { t with reliefQueue := x } :=
  h.trans ⟨fun _ _ _ => rfl, fun p hp => by cases p <;> simp_all [Agrees]⟩

theorem Within.set_banks {x : Tbl (List Byte)} (h : Within P S s t) (hs : Part.banks ∈ S) :
    Within P S s { t with banks := x } :=
  h.trans ⟨fun _ _ _ => rfl, fun p hp => by cases p <;> simp_all [Agrees]⟩

theorem Within.set_frames {x : Tbl Frame} (h : Within P S s t) (hs : Part.frames ∈ S) :
    Within P S s { t with frames := x } :=
  h.trans ⟨fun _ _ _ => rfl, fun p hp => by cases p <;> simp_all [Agrees]⟩

theorem Within.set_scheds {x : Tbl Sched} (h : Within P S s t) (hs : Part.scheds ∈ S) :
    Within P S s { t with scheds := x } :=
  h.trans ⟨fun _ _ _ => rfl, fun p hp => by cases p <;> simp_all [Agrees]⟩

theorem Within.set_duty {x : Tbl Duty} (h : Within P S s t) (hs : Part.duty ∈ S) :
    Within P S s { t with duty := x } :=
  h.trans ⟨fun _ _ _ => rfl, fun p hp => by cases p <;> simp_all [Agrees]⟩

theorem Within.set_nodes {x : Tbl NodeCore} (h : Within P S s t) (hs : Part.nodes ∈ S) :
    Within P S s { t with nodes := x } :=
  h.trans ⟨fun _ _ _ => rfl, fun p hp => by cases p <;> simp_all [Agrees]⟩

theorem Within.set_slots {x : Tbl Slot} (h : Within P S s t) (hs : Part.slots ∈ S) :
    Within P S s { t with slots := x } :=
  h.trans ⟨fun _ _ _ => rfl, fun p hp => by cases p <;> simp_all [Agrees]⟩

theorem Within.set_cache {x : List (Nat × Nat × Nat)} (h : Within P S s t) (hs : Part.cache ∈ S) :
    Within P S s { t with cache := x } :=
  h.trans ⟨fun _ _ _ => rfl, fun p hp => by cases p <;> simp_all [Agrees]⟩

theorem Within.set_reasm {x : Tbl Reasm} (h : Within P S s t) (hs : Part.reasm ∈ S) :
    Within P S s { t with reasm := x } :=
  h.trans ⟨fun _ _ _ => rfl, fun p hp => by cases p <;> simp_all [Agrees]⟩

theorem Within.set_ddr {x : List Host.Cell} (h : Within P S s t) (hs : Part.ddr ∈ S) :
    Within P S s { t with ddr := x } :=
  h.trans ⟨fun _ _ _ => rfl, fun p hp => by cases p <;> simp_all [Agrees]⟩

theorem Within.set_hostData {x : List Byte} (h : Within P S s t) (hs : Part.hostData ∈ S) :
    Within P S s { t with hostData := x } :=
  h.trans ⟨fun _ _ _ => rfl, fun p hp => by cases p <;> simp_all [Agrees]⟩

theorem Within.set_hostPoison {x : Bool} (h : Within P S s t) (hs : Part.hostData ∈ S) :
    Within P S s { t with hostPoison := x } :=
  h.trans ⟨fun _ _ _ => rfl, fun p hp => by cases p <;> simp_all [Agrees]⟩

theorem Within.set_delivered {x : List Item} (h : Within P S s t) (hs : Part.delivered ∈ S) :
    Within P S s { t with delivered := x } :=
  h.trans ⟨fun _ _ _ => rfl, fun p hp => by cases p <;> simp_all [Agrees]⟩

theorem Within.set_rings {x : Tbl Ring} (h : Within P S s t) (hs : Part.rings ∈ S) :
    Within P S s { t with rings := x } :=
  h.trans ⟨fun _ _ _ => rfl, fun p hp => by cases p <;> simp_all [Agrees]⟩

theorem Within.set_notices {x : List Nat} (h : Within P S s t) (hs : Part.notices ∈ S) :
    Within P S s { t with notices := x } :=
  h.trans ⟨fun _ _ _ => rfl, fun p hp => by cases p <;> simp_all [Agrees]⟩

theorem Within.set_ports {x : Tbl Port} (h : Within P S s t) (hs : Part.ports ∈ S) :
    Within P S s { t with ports := x } :=
  h.trans ⟨fun _ _ _ => rfl, fun p hp => by cases p <;> simp_all [Agrees]⟩

theorem Within.set_meters {x : Tbl Meter} (h : Within P S s t) (hs : Part.meters ∈ S) :
    Within P S s { t with meters := x } :=
  h.trans ⟨fun _ _ _ => rfl, fun p hp => by cases p <;> simp_all [Agrees]⟩

theorem Within.set_campaigns {x : Tbl Campaign} (h : Within P S s t) (hs : Part.campaigns ∈ S) :
    Within P S s { t with campaigns := x } :=
  h.trans ⟨fun _ _ _ => rfl, fun p hp => by cases p <;> simp_all [Agrees]⟩

theorem Within.set_tracks {x : Tbl Track} (h : Within P S s t) (hs : Part.tracks ∈ S) :
    Within P S s { t with tracks := x } :=
  h.trans ⟨fun _ _ _ => rfl, fun p hp => by cases p <;> simp_all [Agrees]⟩

theorem Within.set_peers {x : Tbl Peer} (h : Within P S s t) (hs : Part.peers ∈ S) :
    Within P S s { t with peers := x } :=
  h.trans ⟨fun _ _ _ => rfl, fun p hp => by cases p <;> simp_all [Agrees]⟩

theorem Within.set_latched {x : Tbl Nat} (h : Within P S s t) (hs : Part.latched ∈ S) :
    Within P S s { t with latched := x } :=
  h.trans ⟨fun _ _ _ => rfl, fun p hp => by cases p <;> simp_all [Agrees]⟩

theorem Within.set_wear {x : Wear} (h : Within P S s t) (hs : Part.wear ∈ S) :
    Within P S s { t with wear := x } :=
  h.trans ⟨fun _ _ _ => rfl, fun p hp => by cases p <;> simp_all [Agrees]⟩

theorem Within.set_root {x : Root} (h : Within P S s t) (hs : Part.root ∈ S) :
    Within P S s { t with root := x } :=
  h.trans ⟨fun _ _ _ => rfl, fun p hp => by cases p <;> simp_all [Agrees]⟩

theorem Within.set_journal {x : List (Nat × Nat)} (h : Within P S s t) (hs : Part.journal ∈ S) :
    Within P S s { t with journal := x } :=
  h.trans ⟨fun _ _ _ => rfl, fun p hp => by cases p <;> simp_all [Agrees]⟩

theorem Within.set_keyOp {x : Option KeyOp} (h : Within P S s t) (hs : Part.keyOp ∈ S) :
    Within P S s { t with keyOp := x } :=
  h.trans ⟨fun _ _ _ => rfl, fun p hp => by cases p <;> simp_all [Agrees]⟩

theorem Within.set_ccmJob {x : Option Job} (h : Within P S s t) (hs : Part.jobs ∈ S) :
    Within P S s { t with ccmJob := x } :=
  h.trans ⟨fun _ _ _ => rfl, fun p hp => by cases p <;> simp_all [Agrees]⟩

theorem Within.set_sciJob {x : Option Job} (h : Within P S s t) (hs : Part.jobs ∈ S) :
    Within P S s { t with sciJob := x } :=
  h.trans ⟨fun _ _ _ => rfl, fun p hp => by cases p <;> simp_all [Agrees]⟩

theorem Within.set_pkeOp {x : Option PkeOp} (h : Within P S s t) (hs : Part.jobs ∈ S) :
    Within P S s { t with pkeOp := x } :=
  h.trans ⟨fun _ _ _ => rfl, fun p hp => by cases p <;> simp_all [Agrees]⟩

theorem Within.set_engineFaults {x : Tbl (List Nat)} (h : Within P S s t) (hs : Part.engines ∈ S) :
    Within P S s { t with engineFaults := x } :=
  h.trans ⟨fun _ _ _ => rfl, fun p hp => by cases p <;> simp_all [Agrees]⟩

theorem Within.set_engineChecks {x : List Nat} (h : Within P S s t) (hs : Part.engines ∈ S) :
    Within P S s { t with engineChecks := x } :=
  h.trans ⟨fun _ _ _ => rfl, fun p hp => by cases p <;> simp_all [Agrees]⟩

theorem Within.set_engineTest {x : Option EngineTest} (h : Within P S s t) (hs : Part.engines ∈ S) :
    Within P S s { t with engineTest := x } :=
  h.trans ⟨fun _ _ _ => rfl, fun p hp => by cases p <;> simp_all [Agrees]⟩

theorem Within.set_mem {x : MemCheck} (h : Within P S s t) (hs : Part.mem ∈ S) :
    Within P S s { t with mem := x } :=
  h.trans ⟨fun _ _ _ => rfl, fun p hp => by cases p <;> simp_all [Agrees]⟩

theorem Within.set_fw {x : Firmware} (h : Within P S s t) (hs : Part.fw ∈ S) :
    Within P S s { t with fw := x } :=
  h.trans ⟨fun _ _ _ => rfl, fun p hp => by cases p <;> simp_all [Agrees]⟩

theorem Within.set_rope {x : Rope} (h : Within P S s t) (hs : Part.rope ∈ S) :
    Within P S s { t with rope := x } :=
  h.trans ⟨fun _ _ _ => rfl, fun p hp => by cases p <;> simp_all [Agrees]⟩

theorem Within.set_copy {x : Option CopyOp} (h : Within P S s t) (hs : Part.copy ∈ S) :
    Within P S s { t with copy := x } :=
  h.trans ⟨fun _ _ _ => rfl, fun p hp => by cases p <;> simp_all [Agrees]⟩

theorem Within.set_boot {x : Boot} (h : Within P S s t) (hs : Part.boot ∈ S) :
    Within P S s { t with boot := x } :=
  h.trans ⟨fun _ _ _ => rfl, fun p hp => by cases p <;> simp_all [Agrees]⟩


theorem Within.wrBool {f : Field} {b : Bool} (h : Within P S s t) (hf : inScopes P f.key = true) :
    Within P S s (Machine.wrBool f b t) := Within.wr h hf

theorem Within.wrInt {f : Field} {v : Int} (h : Within P S s t) (hf : inScopes P f.key = true) :
    Within P S s (Machine.wrInt f v t) := Within.wr h hf

theorem Within.incBy {f : Field} {n : Nat} (h : Within P S s t) (hf : inScopes P f.key = true) :
    Within P S s (Machine.incBy f n t) := Within.wr h hf

theorem Within.peak {f : Field} {v : Nat} (h : Within P S s t) (hf : inScopes P f.key = true) :
    Within P S s (Machine.peak f v t) := Within.wr h hf

theorem Within.orBits {f : Field} {m : Nat} (h : Within P S s t) (hf : inScopes P f.key = true) :
    Within P S s (Machine.orBits f m t) := Within.wr h hf

theorem Within.clearBits {f : Field} {m : Nat} (h : Within P S s t) (hf : inScopes P f.key = true) :
    Within P S s (Machine.clearBits f m t) := Within.wr h hf

theorem Within.inc {f : Field} (h : Within P S s t) (hf : inScopes P f.key = true) :
    Within P S s (Machine.inc f t) := Within.wr h hf

theorem Within.incSat {f : Field} (h : Within P S s t) (hf : inScopes P f.key = true) :
    Within P S s (Machine.incSat f t) := Within.wr h hf

theorem Within.countFlag {f : Field} {a b : Bool} (h : Within P S s t) (hf : inScopes P f.key = true) :
    Within P S s (Machine.countFlag f a b t) := by
  unfold Machine.countFlag
  split
  · exact h
  · split <;> exact Within.wr h hf

theorem Within.moveCount {f : Field} {a b : Bool} (h : Within P S s t) (hf : inScopes P f.key = true) :
    Within P S s (Machine.moveCount f a b t) := Within.countFlag h hf

theorem Within.shiftCount {f : Field} {a b : Bool} (h : Within P S s t) (hf : inScopes P f.key = true) :
    Within P S s (Machine.shiftCount f a b t) := by
  unfold Machine.shiftCount
  split
  · exact Within.wr h hf
  · exact Within.wr h hf
  · exact h

theorem Within.raise {pg bit : Nat} (h : Within P S s t) (hr : inScopes P (F.HEAD.EVT_RAW pg).key = true)
    (hf : inScopes P (F.HEAD.EVT_LATCH pg).key = true) : Within P S s (Machine.raise pg bit t) := (h.orBits hr).latch hf

theorem Within.lower {pg bit : Nat} (h : Within P S s t) (hr : inScopes P (F.HEAD.EVT_RAW pg).key = true) :
    Within P S s (Machine.lower pg bit t) := h.clearBits hr

theorem Within.latchBits {pg m : Nat} (h : Within P S s t) (hf : inScopes P (F.HEAD.EVT_LATCH pg).key = true) :
    Within P S s (Machine.latchBits pg m t) := (h.orBits hf).trans (((Within.refl P S _).settle (old := t)))

/-- The registers that a calm state is judged by. -/
def calmKeys : List Nat :=
  [F.FWUP.ROLL_ACTIVE.key, F.ROPE.ROLE_STATE.key, F.ROPE.LINK_ATTACHED.key,
    (F.FE.RF_STATE_RETUNE_PENDING 0).key, (F.FE.RF_STATE_RETUNE_PENDING 1).key, (F.FE.RF_STATE_RETUNE_PENDING 2).key,
    (F.FE.RF_STATE_RETUNE_PENDING 3).key]

/-- A command that leaves alone what a calm state is judged by leaves it calm, or not calm. -/
theorem Within.calm (h : Within P S s t)
    (hS : ∀ p ∈ [Part.frames, .campaigns, .relief, .poolTest, .fw, .fes, .rope, .lanes, .engines], p ∉ S)
    (hP : (∀ k ∈ calmKeys, inScopes P k = false)) : Calm t = Calm s := by
  have f := h.parts .frames (hS _ (by simp))
  have c := h.parts .campaigns (hS _ (by simp))
  have r := h.parts .relief (hS _ (by simp))
  have d := h.parts .poolTest (hS _ (by simp))
  have w := h.parts .fw (hS _ (by simp))
  have e := h.parts .fes (hS _ (by simp))
  have o := h.parts .rope (hS _ (by simp))
  have a := h.parts .lanes (hS _ (by simp))
  have g := h.parts .engines (hS _ (by simp))
  simp only [Agrees] at f c r d w e o a g
  have k : ∀ g : Field, followKey g.key = false → g.key ∈ calmKeys → rd g t = rd g s := fun g a b => h.regs g a (hP _ b)
  have k1 := k F.FWUP.ROLL_ACTIVE (by decide) (by decide)
  have k3 := k F.ROPE.ROLE_STATE (by decide) (by decide)
  have k4 := k F.ROPE.LINK_ATTACHED (by decide) (by decide)
  have p0 := k (F.FE.RF_STATE_RETUNE_PENDING 0) (by decide) (by decide)
  have p1 := k (F.FE.RF_STATE_RETUNE_PENDING 1) (by decide) (by decide)
  have p2 := k (F.FE.RF_STATE_RETUNE_PENDING 2) (by decide) (by decide)
  have p3 := k (F.FE.RF_STATE_RETUNE_PENDING 3) (by decide) (by decide)
  have l : List.range 4 = [0, 1, 2, 3] := by decide
  simp only [Calm, quiet, mirrors, ropeRole, attached, isSet, fe, lanesWaiting, l, List.all_cons, List.all_nil, f, c, r.2, d.1, d.2, w, e, o,
    a, g.2.2, k1, k3, k4, p0, p1, p2, p3]

end Sys2Proof.Machine
end

