-- ==== Sys2Proof/Laws/OpsA.lean ====
section
/-! SUPPORT. What each operation can change, part 1 of 5: for every state, the registers and parts outside the named ones
are as before. -/

namespace Sys2Proof.Machine

set_option maxHeartbeats 1000000
set_option linter.unusedSimpArgs false
set_option linter.unusedTactic false
set_option linter.unreachableTactic false
set_option linter.unusedVariables false

theorem frame_modClock (a0 : Clock → Clock) (s : State) :
    Within [] [.clock] s (modClock a0 s) := by
  unfold Machine.modClock
  refine Within.set_clock ?_ (by decide)
  exact Within.refl _ _ _

theorem frame_tick (s : State) :
    Within [] [.clock, .now] s (tick s) := by
  unfold Machine.tick
  extract_lets x0
  refine Within.via x0 ?_ (fun h1 => ?_)
  · unfold x0
    refine Within.then ?_ (frame_modClock _ _) rfl rfl
    exact Within.refl _ _ _
  · clear_value x0
    refine Within.set_now ?_ (by decide)
    exact h1

theorem frame_heldNs (s : State) :
    Within [] [.clock, .now] s (heldNs s) := by
  unfold Machine.heldNs
  refine Within.ite ?_ ?_
  · refine Within.then ?_ (frame_tick _) rfl rfl
    exact Within.refl _ _ _
  · refine Within.set_now ?_ (by decide)
    exact Within.refl _ _ _

theorem frame_setFe (a0 : Nat) (a1 : Fe) (s : State) :
    Within [] [.fes] s (setFe a0 a1 s) := by
  unfold Machine.setFe
  refine Within.set_fes ?_ (by decide)
  exact Within.refl _ _ _

theorem frame_modFe (a0 : Nat) (a1 : Fe → Fe) (s : State) :
    Within [] [.fes] s (modFe a0 a1 s) := by
  unfold Machine.modFe
  refine Within.then ?_ (frame_setFe _ _ _) rfl rfl
  exact Within.refl _ _ _

theorem frame_freezeGain (a0 : Nat) (s : State) :
    Within [.page 0x10] [.fes] s (freezeGain a0 s) := by
  unfold Machine.freezeGain
  extract_lets x0 x1
  refine Within.via x1 ?_ (fun h2 => ?_)
  · unfold x1
    refine Within.wrBool ?_ (inScopes_of rfl)
    exact Within.refl _ _ _
  · clear_value x1
    refine Within.ite ?_ ?_
    · exact h2
    · refine Within.then ?_ (frame_modFe _ _ _) rfl rfl
      exact h2

theorem frame_setLane (a0 : Nat) (a1 : Lane) (s : State) :
    Within [.page 0x10, .page 0x11] [.fes, .lanes] s (setLane a0 a1 s) := by
  unfold Machine.setLane
  extract_lets x0 x1 x2 x3 x4 x5 x6 x7 x8 x9
  refine Within.via x1 ?_ (fun h10 => ?_)
  · unfold x1
    refine Within.set_lanes ?_ (by decide)
    exact Within.refl _ _ _
  · clear_value x1
    refine Within.via x2 ?_ (fun h11 => ?_)
    · unfold x2
      refine Within.ite ?_ ?_
      · refine Within.wr ?_ (inScopes_of rfl)
        exact h10
      · exact h10
    · clear_value x2
      refine Within.via x3 ?_ (fun h12 => ?_)
      · unfold x3
        refine Within.wr ?_ (inScopes_of rfl)
        exact h11
      · clear_value x3
        refine Within.via x4 ?_ (fun h13 => ?_)
        · unfold x4
          refine Within.ite ?_ ?_
          · refine Within.peak ?_ (inScopes_of rfl)
            exact h12
          · exact h11
        · clear_value x4
          refine Within.via x5 ?_ (fun h14 => ?_)
          · unfold x5
            refine Within.shiftCount ?_ (inScopes_of rfl)
            exact h13
          · clear_value x5
            refine Within.via x6 ?_ (fun h15 => ?_)
            · unfold x6
              refine Within.shiftCount ?_ (inScopes_of rfl)
              exact h14
            · clear_value x6
              refine Within.via x7 ?_ (fun h16 => ?_)
              · unfold x7
                refine Within.shiftCount ?_ (inScopes_of rfl)
                exact h15
              · clear_value x7
                refine Within.via x8 ?_ (fun h17 => ?_)
                · unfold x8
                  refine Within.ite ?_ ?_
                  · exact h16
                  · refine Within.ite ?_ ?_
                    · refine Within.orBits ?_ (inScopes_of rfl)
                      exact h16
                    · refine Within.clearBits ?_ (inScopes_of rfl)
                      exact h16
                · clear_value x8
                  refine Within.via x9 ?_ (fun h18 => ?_)
                  · unfold x9
                    refine Within.ite ?_ ?_
                    · refine Within.then ?_ (frame_freezeGain _ _) rfl rfl
                      exact h17
                    · exact h17
                  · clear_value x9
                    refine Within.ite ?_ ?_
                    · refine Within.then ?_ (frame_freezeGain _ _) rfl rfl
                      exact h18
                    · exact h18

theorem frame_modLane (a0 : Nat) (a1 : Lane → Lane) (s : State) :
    Within [.page 0x10, .page 0x11] [.fes, .lanes] s (modLane a0 a1 s) := by
  unfold Machine.modLane
  refine Within.then ?_ (frame_setLane _ _ _) rfl rfl
  exact Within.refl _ _ _

theorem frame_freeEngine (a0 : Option Nat) (s : State) :
    Within [.page 0x31] [] s (freeEngine a0 s) := by
  unfold Machine.freeEngine
  split
  · refine Within.wr ?_ (inScopes_of rfl)
    exact Within.refl _ _ _
  · exact Within.refl _ _ _

theorem frame_changeLanes (a0 : Lane → Bool) (a1 : Lane → Lane) (s : State) :
    Within [] [.lanes] s (changeLanes a0 a1 s) := by
  unfold Machine.changeLanes
  refine Within.set_lanes ?_ (by decide)
  exact Within.refl _ _ _

theorem frame_freeVictims (a0 : Nat) (s : State) :
    Within [] [.lanes] s (freeVictims a0 s) := by
  unfold Machine.freeVictims
  refine Within.then ?_ (frame_changeLanes _ _ _) rfl rfl
  exact Within.refl _ _ _

theorem frame_releaseLane (a0 : Nat) (a1 : Option Disp) (s : State) :
    Within [.page 0x10, .page 0x11, .page 0x31] [.lanes, .fes] s (releaseLane a0 a1 s) := by
  unfold Machine.releaseLane
  extract_lets x0
  refine Within.via x0 ?_ (fun h1 => ?_)
  · unfold x0
    refine Within.then ?_ (frame_modLane _ _ _) rfl rfl
    refine Within.then ?_ (frame_freeEngine _ _) rfl rfl
    exact Within.refl _ _ _
  · clear_value x0
    refine Within.then ?_ (frame_freeVictims _ _) rfl rfl
    exact h1

theorem frame_laneDrained (a0 : Nat) (s : State) :
    Within [.page 0x10, .page 0x11, .page 0x31] [.lanes, .fes] s (laneDrained a0 s) := by
  unfold Machine.laneDrained
  split
  · refine Within.ite ?_ ?_
    · exact Within.refl _ _ _
    · refine Within.then ?_ (frame_releaseLane _ _ _) rfl rfl
      exact Within.refl _ _ _
  · exact Within.refl _ _ _

theorem frame_storeNode (a0 : Nat) (a1 : Node) (s : State) :
    Within [] [.nodes, .ddr] s (storeNode a0 a1 s) := by
  unfold Machine.storeNode
  refine Within.upd (by (try dsimp only) <;> exact rfl) (fun p hp => by cases p <;> first | rfl | exact ⟨rfl, rfl⟩ | exact ⟨rfl, rfl, rfl⟩ | exact absurd (by decide) hp) ?_
  exact Within.refl _ _ _

theorem frame_setNode (a0 : Nat) (a1 : Node) (s : State) :
    Within [.page 0x1b, .word 0x20 0xdc, .word 0x20 0xd8, .word 0x20 0xd4, .word 0x20 0xd0] [.nodes, .ddr] s (setNode a0 a1 s) := by
  unfold Machine.setNode
  extract_lets x0 x1 x2 x3 x4 x5 x6
  refine Within.via x1 ?_ (fun h7 => ?_)
  · unfold x1
    refine Within.then ?_ (frame_storeNode _ _ _) rfl rfl
    exact Within.refl _ _ _
  · clear_value x1
    refine Within.via x2 ?_ (fun h8 => ?_)
    · unfold x2
      refine Within.countFlag ?_ (inScopes_of rfl)
      exact h7
    · clear_value x2
      refine Within.via x3 ?_ (fun h9 => ?_)
      · unfold x3
        refine Within.countFlag ?_ (inScopes_of rfl)
        exact h8
      · clear_value x3
        refine Within.via x4 ?_ (fun h10 => ?_)
        · unfold x4
          refine Within.countFlag ?_ (inScopes_of rfl)
          exact h9
        · clear_value x4
          refine Within.via x5 ?_ (fun h11 => ?_)
          · unfold x5
            refine Within.countFlag ?_ (inScopes_of rfl)
            exact h10
          · clear_value x5
            refine Within.via x6 ?_ (fun h12 => ?_)
            · unfold x6
              refine Within.countFlag ?_ (inScopes_of rfl)
              exact h11
            · clear_value x6
              refine Within.peak ?_ (inScopes_of rfl)
              exact h12

theorem frame_modNode (a0 : Nat) (a1 : Node → Node) (s : State) :
    Within [.page 0x1b, .word 0x20 0xdc, .word 0x20 0xd8, .word 0x20 0xd4, .word 0x20 0xd0] [.nodes, .ddr] s (modNode a0 a1 s) := by
  unfold Machine.modNode
  refine Within.then ?_ (frame_setNode _ _ _) rfl rfl
  exact Within.refl _ _ _

theorem frame_nodeStat (a0 : Nat) (a1 : Node → Node) (s : State) :
    Within [.page 0x1b, .word 0x20 0xdc, .word 0x20 0xd8, .word 0x20 0xd4, .word 0x20 0xd0] [.nodes, .ddr] s (nodeStat a0 a1 s) := by
  unfold Machine.nodeStat
  refine Within.ite ?_ ?_
  · refine Within.then ?_ (frame_modNode _ _ _) rfl rfl
    exact Within.refl _ _ _
  · exact Within.refl _ _ _

theorem frame_rxStat (a0 : Option Nat) (a1 : Disp) (s : State) :
    Within [.page 0x1b, .word 0x20 0xdc, .word 0x20 0xd8, .word 0x20 0xd4, .word 0x20 0xd0] [.nodes, .ddr] s (rxStat a0 a1 s) := by
  unfold Machine.rxStat
  split
  · exact Within.refl _ _ _
  · refine Within.then ?_ (frame_nodeStat _ _ _) rfl rfl
    exact Within.refl _ _ _

theorem frame_close (a0 : Nat) (a1 : Disp) (s : State) :
    Within [] [.ledger] s (close a0 a1 s) := by
  unfold Machine.close
  refine Within.set_ledger ?_ (by decide)
  exact Within.refl _ _ _

theorem frame_countLaneEnd (a0 : Nat) (a1 : Disp) (s : State) :
    Within [.page 0x11, .word 0x19 0xa4, .word 0x19 0xa8, .word 0x19 0xac, .word 0x19 0xb0, .word 0x19 0xb4, .word 0x19 0xb8] [] s (countLaneEnd a0 a1 s) := by
  unfold Machine.countLaneEnd
  split
  · refine Within.inc ?_ (inScopes_of rfl)
    exact Within.refl _ _ _
  · refine Within.inc ?_ (inScopes_of rfl)
    exact Within.refl _ _ _
  · refine Within.inc ?_ (inScopes_of rfl)
    exact Within.refl _ _ _
  · refine Within.inc ?_ (inScopes_of rfl)
    exact Within.refl _ _ _
  · refine Within.inc ?_ (inScopes_of rfl)
    exact Within.refl _ _ _
  · refine Within.inc ?_ (inScopes_of rfl)
    exact Within.refl _ _ _
  · refine Within.inc ?_ (inScopes_of rfl)
    exact Within.refl _ _ _
  · refine Within.inc ?_ (inScopes_of rfl)
    exact Within.refl _ _ _
  · refine Within.inc ?_ (inScopes_of rfl)
    exact Within.refl _ _ _
  · exact Within.refl _ _ _

theorem frame_closeLane (a0 : Lane) (a1 : Disp) (s : State) :
    Within [.page 0x1b, .word 0x20 0xdc, .word 0x20 0xd8, .word 0x20 0xd4, .word 0x20 0xd0, .page 0x11, .word 0x19 0xa4, .word 0x19 0xa8, .word 0x19 0xac, .word 0x19 0xb0, .word 0x19 0xb4, .word 0x19 0xb8] [.nodes, .ddr, .ledger] s (closeLane a0 a1 s) := by
  unfold Machine.closeLane
  refine Within.then ?_ (frame_rxStat _ _ _) rfl rfl
  refine Within.then ?_ (frame_close _ _ _) rfl rfl
  refine Within.then ?_ (frame_countLaneEnd _ _ _) rfl rfl
  exact Within.refl _ _ _

theorem frame_endLane (a0 : Nat) (a1 : Disp) (s : State) :
    Within [.page 0x10, .page 0x11, .page 0x31, .page 0x1b, .word 0x20 0xdc, .word 0x20 0xd8, .word 0x20 0xd4, .word 0x20 0xd0, .word 0x19 0xa4, .word 0x19 0xa8, .word 0x19 0xac, .word 0x19 0xb0, .word 0x19 0xb4, .word 0x19 0xb8] [.lanes, .fes, .nodes, .ddr, .ledger] s (endLane a0 a1 s) := by
  unfold Machine.endLane
  extract_lets x0
  split
  · refine Within.then ?_ (frame_releaseLane _ _ _) rfl rfl
    exact Within.refl _ _ _
  · refine Within.then ?_ (frame_releaseLane _ _ _) rfl rfl
    refine Within.then ?_ (frame_closeLane _ _ _) rfl rfl
    exact Within.refl _ _ _

theorem frame_dropPending (a0 : List Nat) (s : State) :
    Within [] [] s (dropPending a0 s) := by
  unfold Machine.dropPending
  refine Within.foldl ?_ (fun _ _ _ h0 => ?_)
  · exact Within.refl _ _ _
  · refine Within.ite ?_ ?_
    · refine Within.set_msix ?_
      exact h0
    · exact h0

theorem frame_sendMsix (a0 : Nat) (s : State) :
    Within [] [] s (sendMsix a0 s) := by
  unfold Machine.sendMsix
  extract_lets x0 x1
  refine Within.via x0 ?_ (fun h2 => ?_)
  · unfold x0
    unfold Machine.inc
    refine Within.wrFollow ?_ (by decide)
    exact Within.refl _ _ _
  · clear_value x0
    refine Within.set_msix ?_
    exact h2

theorem frame_assertVec (a0 : Nat) (s : State) :
    Within [] [] s (assertVec a0 s) := by
  unfold Machine.assertVec
  refine Within.ite ?_ ?_
  · exact Within.refl _ _ _
  · refine Within.ite ?_ ?_
    · refine Within.set_msix ?_
      exact Within.refl _ _ _
    · refine Within.ite ?_ ?_
      · refine Within.set_msix ?_
        exact Within.refl _ _ _
      · refine Within.then ?_ (frame_sendMsix _ _) rfl rfl
        exact Within.refl _ _ _

theorem frame_reserveLeft (s : State) :
    Within [.word 0x11 0x14] [] s (reserveLeft s) := by
  unfold Machine.reserveLeft
  refine Within.ite ?_ ?_
  · refine Within.latch ?_ (inScopes_of rfl)
    exact Within.refl _ _ _
  · exact Within.refl _ _ _

theorem frame_engaged (a0 : Nat) (a1 : Nat) (a2 : Nat) (s : State) :
    Within [.word 0x5 0x14] [] s (engaged a0 a1 a2 s) := by
  unfold Machine.engaged
  refine Within.logCairn ?_
  refine Within.latch ?_ (inScopes_of rfl)
  unfold Machine.inc
  refine Within.wrFollow ?_ (by decide)
  exact Within.refl _ _ _

theorem frame_substitute (a0 : Nat) (s : State) :
    Within [.word 0x5 0x14, .page 0x10, .page 0x11] [.fes, .lanes, .poolTest] s (substitute a0 s) := by
  unfold Machine.substitute
  split
  · extract_lets x0 x1
    refine Within.via x0 ?_ (fun h2 => ?_)
    · unfold x0
      refine Within.then ?_ (frame_modLane _ _ _) rfl rfl
      exact Within.refl _ _ _
    · clear_value x0
      refine Within.via x1 ?_ (fun h3 => ?_)
      · unfold x1
        refine Within.wr ?_ (inScopes_of rfl)
        refine Within.wr ?_ (inScopes_of rfl)
        exact h2
      · clear_value x1
        refine Within.then ?_ (frame_reserveLeft _) rfl rfl
        refine Within.then ?_ (frame_engaged _ _ _ _) rfl rfl
        refine Within.latch ?_ (inScopes_of rfl)
        refine Within.incSat ?_ (inScopes_of rfl)
        exact h3
  · refine Within.latch ?_ (inScopes_of rfl)
    refine Within.set_laneDebt ?_ (by decide)
    exact Within.refl _ _ _

theorem frame_laneFault (a0 : Nat) (a1 : Bool) (s : State) :
    Within [.word 0x5 0x14, .page 0x10, .page 0x11, .page 0x31, .page 0x1b, .word 0x20 0xdc, .word 0x20 0xd8, .word 0x20 0xd4, .word 0x20 0xd0, .word 0x19 0xa4, .word 0x19 0xa8, .word 0x19 0xac, .word 0x19 0xb0, .word 0x19 0xb4, .word 0x19 0xb8] [.fes, .lanes, .poolTest, .nodes, .ddr, .ledger] s (laneFault a0 a1 s) := by
  unfold Machine.laneFault
  extract_lets x0 x1 x2 x3
  refine Within.via x1 ?_ (fun h4 => ?_)
  · unfold x1
    refine Within.ite ?_ ?_
    · refine Within.then ?_ (frame_endLane _ _ _) rfl rfl
      exact Within.refl _ _ _
    · exact Within.refl _ _ _
  · clear_value x1
    refine Within.via x2 ?_ (fun h5 => ?_)
    · unfold x2
      refine Within.then ?_ (frame_modLane _ _ _) rfl rfl
      exact h4
    · clear_value x2
      refine Within.via x3 ?_ (fun h6 => ?_)
      · unfold x3
        refine Within.latch ?_ (inScopes_of rfl)
        refine Within.inc ?_ (inScopes_of rfl)
        exact h5
      · clear_value x3
        refine Within.ite ?_ ?_
        · exact Within.refl _ _ _
        · refine Within.ite ?_ ?_
          · refine Within.then ?_ (frame_substitute _ _) rfl rfl
            exact h6
          · exact h6

theorem frame_laneOn (a0 : Nat) (s : State) :
    Within [.page 0x10, .page 0x11, .word 0x5 0x14, .page 0x31, .page 0x1b, .word 0x20 0xdc, .word 0x20 0xd8, .word 0x20 0xd4, .word 0x20 0xd0, .word 0x19 0xa4, .word 0x19 0xa8, .word 0x19 0xac, .word 0x19 0xb0, .word 0x19 0xb4, .word 0x19 0xb8] [.fes, .lanes, .poolTest, .nodes, .ddr, .ledger] s (laneOn a0 s) := by
  unfold Machine.laneOn
  extract_lets x0
  refine Within.ite ?_ ?_
  · refine Within.ite ?_ ?_
    · refine Within.then ?_ (frame_modLane _ _ _) rfl rfl
      exact Within.refl _ _ _
    · refine Within.ite ?_ ?_
      · exact Within.refl _ _ _
      · refine Within.ite ?_ ?_
        · refine Within.then ?_ (frame_modLane _ _ _) rfl rfl
          exact Within.refl _ _ _
        · refine Within.then ?_ (frame_laneFault _ _ _) rfl rfl
          exact Within.refl _ _ _
  · refine Within.ite ?_ ?_
    · refine Within.then ?_ (frame_modLane _ _ _) rfl rfl
      exact Within.refl _ _ _
    · exact Within.refl _ _ _

theorem frame_laneStep (s : State) :
    Within [.page 0x10, .page 0x11, .page 0x31, .word 0x5 0x14, .page 0x1b, .word 0x20 0xdc, .word 0x20 0xd8, .word 0x20 0xd4, .word 0x20 0xd0, .word 0x19 0xa4, .word 0x19 0xa8, .word 0x19 0xac, .word 0x19 0xb0, .word 0x19 0xb4, .word 0x19 0xb8] [.lanes, .fes, .poolTest, .nodes, .ddr, .ledger] s (laneStep s) := by
  unfold Machine.laneStep
  refine Within.foldl ?_ (fun _ _ _ h0 => ?_)
  · exact Within.refl _ _ _
  · refine Within.then ?_ (frame_laneDrained _ _) rfl rfl
    refine Within.then ?_ (frame_laneOn _ _) rfl rfl
    exact h0

theorem frame_showTrust (s : State) :
    Within [] [] s (showTrust s) := by
  unfold Machine.showTrust
  split
  · refine Within.wrFollow ?_ (by decide)
    exact Within.refl _ _ _
  · exact Within.refl _ _ _

theorem frame_showAge (s : State) :
    Within [.word 0x30 0x8c] [] s (showAge s) := by
  unfold Machine.showAge
  refine Within.wr ?_ (inScopes_of rfl)
  exact Within.refl _ _ _

theorem frame_showTrial (s : State) :
    Within [] [] s (showTrial s) := by
  unfold Machine.showTrial
  refine Within.wrFollow ?_ (by decide)
  exact Within.refl _ _ _

theorem frame_poweredSecond (s : State) :
    Within [.word 0x30 0x8c] [.fw] s (poweredSecond s) := by
  unfold Machine.poweredSecond
  extract_lets x0 x1
  refine Within.via x0 ?_ (fun h2 => ?_)
  · unfold x0
    refine Within.then ?_ (frame_showAge _) rfl rfl
    unfold Machine.inc
    refine Within.wrFollow ?_ (by decide)
    exact Within.refl _ _ _
  · clear_value x0
    refine Within.ite ?_ ?_
    · refine Within.then ?_ (frame_showTrial _) rfl rfl
      refine Within.set_fw ?_ (by decide)
      exact h2
    · exact h2

theorem frame_poweredNs (s : State) :
    Within [.word 0x30 0x8c] [.wear, .fw] s (poweredNs s) := by
  unfold Machine.poweredNs
  refine Within.ite ?_ ?_
  · refine Within.set_wear ?_ (by decide)
    exact Within.refl _ _ _
  · refine Within.then ?_ (frame_poweredSecond _) rfl rfl
    refine Within.set_wear ?_ (by decide)
    exact Within.refl _ _ _

theorem frame_idle (s : State) :
    Within [.page 0x10, .page 0x11, .page 0x31, .word 0x5 0x14, .page 0x1b, .word 0x20 0xdc, .word 0x20 0xd8, .word 0x20 0xd4, .word 0x20 0xd0, .word 0x19 0xa4, .word 0x19 0xa8, .word 0x19 0xac, .word 0x19 0xb0, .word 0x19 0xb4, .word 0x19 0xb8, .word 0x30 0x8c] [.clock, .now, .lanes, .fes, .poolTest, .nodes, .ddr, .ledger, .wear, .fw] s (idle s) := by
  unfold Machine.idle
  refine Within.ite ?_ ?_
  · refine Within.then ?_ (frame_heldNs _) rfl rfl
    exact Within.refl _ _ _
  · refine Within.then ?_ (frame_laneStep _) rfl rfl
    refine Within.then ?_ (frame_showTrust _) rfl rfl
    refine Within.then ?_ (frame_poweredNs _) rfl rfl
    refine Within.then ?_ (frame_tick _) rfl rfl
    exact Within.refl _ _ _

theorem frame_checkpoint (s : State) :
    Within [] [.wear] s (checkpoint s) := by
  unfold Machine.checkpoint
  extract_lets x0 x1
  refine Within.set_wear ?_ (by decide)
  exact Within.refl _ _ _

theorem frame_sagWarn (a0 : Nat) (s : State) :
    Within [.word 0x2 0x10, .word 0x2 0x14, .word 0x2 0x44] [.wear, .watch] s (sagWarn a0 s) := by
  unfold Machine.sagWarn
  extract_lets x0 x1 x2
  refine Within.via x1 ?_ (fun h3 => ?_)
  · unfold x1
    refine Within.set_watch ?_ (by decide)
    exact Within.refl _ _ _
  · clear_value x1
    refine Within.via x2 ?_ (fun h4 => ?_)
    · unfold x2
      refine Within.raise ?_ (inScopes_of rfl) (inScopes_of rfl)
      refine Within.orBits ?_ (inScopes_of rfl)
      exact h3
    · clear_value x2
      refine Within.then ?_ (frame_checkpoint _) rfl rfl
      refine Within.logCairn ?_
      exact h4

theorem frame_supplyHigh (a0 : Nat) (s : State) :
    Within [.word 0x2 0x10, .word 0x2 0x14, .word 0x2 0x48] [.watch] s (supplyHigh a0 s) := by
  unfold Machine.supplyHigh
  extract_lets x0 x1 x2
  refine Within.via x1 ?_ (fun h3 => ?_)
  · unfold x1
    refine Within.set_watch ?_ (by decide)
    exact Within.refl _ _ _
  · clear_value x1
    refine Within.via x2 ?_ (fun h4 => ?_)
    · unfold x2
      refine Within.raise ?_ (inScopes_of rfl) (inScopes_of rfl)
      refine Within.orBits ?_ (inScopes_of rfl)
      exact h3
    · clear_value x2
      refine Within.logCairn ?_
      exact h4

theorem frame_reserveLow (a0 : Nat) (s : State) :
    Within [.word 0x5 0x14] [] s (reserveLow a0 s) := by
  unfold Machine.reserveLow
  refine Within.logCairn ?_
  refine Within.latch ?_ (inScopes_of rfl)
  exact Within.refl _ _ _

theorem frame_showHealth (s : State) :
    Within [] [] s (showHealth s) := by
  unfold Machine.showHealth
  refine Within.wrFollow ?_ (by decide)
  exact Within.refl _ _ _

theorem frame_refreshBuffer (s : State) :
    Within [.word 0x38 0x68, .word 0x39 0x68, .word 0x38 0x64, .word 0x39 0x64] [] s (refreshBuffer s) := by
  unfold Machine.refreshBuffer
  extract_lets x0
  refine Within.foldl ?_ (fun _ _ _ h1 => ?_)
  · exact Within.refl _ _ _
  · refine Within.peak ?_ (inScopes_of (amongW2 rfl))
    refine Within.wr ?_ (inScopes_of (amongW2 rfl))
    exact h1

theorem frame_showProgress (s : State) :
    Within [] [] s (showProgress s) := by
  unfold Machine.showProgress
  extract_lets x0
  refine Within.wrFollow ?_ (by decide)
  exact Within.refl _ _ _

theorem frame_showScan (a0 : Nat) (s : State) :
    Within [.page 0x20] [] s (showScan a0 s) := by
  unfold Machine.showScan
  extract_lets x0 x1 x2 x3 x4 x5 x6
  refine Within.via x1 ?_ (fun h7 => ?_)
  · unfold x1
    refine Within.wr ?_ (inScopes_of rfl)
    refine Within.wr ?_ (inScopes_of rfl)
    refine Within.wr ?_ (inScopes_of rfl)
    exact Within.refl _ _ _
  · clear_value x1
    refine Within.via x2 ?_ (fun h8 => ?_)
    · unfold x2
      refine Within.foldl ?_ (fun _ _ _ h9 => ?_)
      · exact h7
      · refine Within.wr ?_ (inScopes_of rfl)
        exact h9
    · clear_value x2
      refine Within.via x3 ?_ (fun h10 => ?_)
      · unfold x3
        refine Within.wr ?_ (inScopes_of rfl)
        exact h8
      · clear_value x3
        refine Within.via x4 ?_ (fun h11 => ?_)
        · unfold x4
          refine Within.wr ?_ (inScopes_of rfl)
          refine Within.wr ?_ (inScopes_of rfl)
          refine Within.wr ?_ (inScopes_of rfl)
          exact h10
        · clear_value x4
          refine Within.via x5 ?_ (fun h12 => ?_)
          · unfold x5
            refine Within.wr ?_ (inScopes_of rfl)
            refine Within.wr ?_ (inScopes_of rfl)
            exact h11
          · clear_value x5
            refine Within.via x6 ?_ (fun h13 => ?_)
            · unfold x6
              refine Within.wr ?_ (inScopes_of rfl)
              exact h12
            · clear_value x6
              refine Within.wr ?_ (inScopes_of rfl)
              refine Within.wr ?_ (inScopes_of rfl)
              exact h13

theorem frame_scanTo (a0 : Nat) (s : State) :
    Within [.page 0x20] [] s (scanTo a0 s) := by
  unfold Machine.scanTo
  refine Within.ite ?_ ?_
  · refine Within.then ?_ (frame_showScan _ _) rfl rfl
    exact Within.refl _ _ _
  · refine Within.set_rereads ?_
    exact Within.refl _ _ _

theorem frame_clearScan (s : State) :
    Within [.page 0x20] [] s (clearScan s) := by
  unfold Machine.clearScan
  extract_lets x0 x1 x2
  refine Within.via x0 ?_ (fun h3 => ?_)
  · unfold x0
    refine Within.wr ?_ (inScopes_of rfl)
    refine Within.wr ?_ (inScopes_of rfl)
    refine Within.wr ?_ (inScopes_of rfl)
    exact Within.refl _ _ _
  · clear_value x0
    refine Within.via x1 ?_ (fun h4 => ?_)
    · unfold x1
      refine Within.foldl ?_ (fun _ _ _ h5 => ?_)
      · exact h3
      · refine Within.wr ?_ (inScopes_of rfl)
        exact h5
    · clear_value x1
      refine Within.via x2 ?_ (fun h6 => ?_)
      · unfold x2
        refine Within.wr ?_ (inScopes_of rfl)
        refine Within.wr ?_ (inScopes_of rfl)
        refine Within.wr ?_ (inScopes_of rfl)
        refine Within.wr ?_ (inScopes_of rfl)
        exact h4
      · clear_value x2
        refine Within.wr ?_ (inScopes_of rfl)
        refine Within.wr ?_ (inScopes_of rfl)
        refine Within.wr ?_ (inScopes_of rfl)
        refine Within.wr ?_ (inScopes_of rfl)
        refine Within.wr ?_ (inScopes_of rfl)
        exact h6

theorem frame_refreshScan (s : State) :
    Within [.page 0x20] [] s (refreshScan s) := by
  unfold Machine.refreshScan
  extract_lets x0
  refine Within.ite ?_ ?_
  · split
    · refine Within.ite ?_ ?_
      · exact Within.refl _ _ _
      · refine Within.then ?_ (frame_scanTo _ _) rfl rfl
        exact Within.refl _ _ _
    · refine Within.ite ?_ ?_
      · exact Within.refl _ _ _
      · refine Within.then ?_ (frame_clearScan _) rfl rfl
        exact Within.refl _ _ _
  · exact Within.refl _ _ _

theorem frame_showSlotScan (a0 : Option Nat) (s : State) :
    Within [] [] s (showSlotScan a0 s) := by
  unfold Machine.showSlotScan
  split
  · refine Within.wrFollow ?_ (by decide)
    refine Within.wrFollow ?_ (by decide)
    refine Within.wrFollow ?_ (by decide)
    refine Within.wrFollow ?_ (by decide)
    refine Within.wrFollow ?_ (by decide)
    exact Within.refl _ _ _
  · extract_lets x0
    refine Within.wrFollow ?_ (by decide)
    refine Within.wrFollow ?_ (by decide)
    refine Within.wrFollow ?_ (by decide)
    refine Within.wrFollow ?_ (by decide)
    refine Within.wrFollow ?_ (by decide)
    exact Within.refl _ _ _

theorem frame_showSlots (s : State) :
    Within [] [] s (showSlots s) := by
  unfold Machine.showSlots
  extract_lets x0 x1
  refine Within.via x1 ?_ (fun h2 => ?_)
  · unfold x1
    refine Within.wrFollow ?_ (by decide)
    refine Within.wrFollow ?_ (by decide)
    refine Within.wrFollow ?_ (by decide)
    refine Within.wrFollow ?_ (by decide)
    refine Within.wrFollow ?_ (by decide)
    exact Within.refl _ _ _
  · clear_value x1
    refine Within.then ?_ (frame_showSlotScan _ _) rfl rfl
    exact h2

theorem frame_modRope (a0 : Rope → Rope) (s : State) :
    Within [] [.rope] s (modRope a0 s) := by
  unfold Machine.modRope
  refine Within.set_rope ?_ (by decide)
  exact Within.refl _ _ _

theorem frame_sendRecord (a0 : RopeRec) (s : State) :
    Within [] [.rope] s (sendRecord a0 s) := by
  unfold Machine.sendRecord
  refine Within.then ?_ (frame_modRope _ _) rfl rfl
  exact Within.refl _ _ _

theorem frame_mirrorChanges (a0 : State) (s : State) :
    Within [] [.rope] s (mirrorChanges a0 s) := by
  unfold Machine.mirrorChanges
  refine Within.ite ?_ ?_
  · exact Within.refl _ _ _
  · extract_lets x0 x1 x2 x3 x4 x5 x6 x7 x8
    refine Within.via x6 ?_ (fun h9 => ?_)
    · unfold x6
      refine Within.ite ?_ ?_
      · split
        · refine Within.then ?_ (frame_sendRecord _ _) rfl rfl
          exact Within.refl _ _ _
        · exact Within.refl _ _ _
      · exact Within.refl _ _ _
    · clear_value x6
      refine Within.via x7 ?_ (fun h10 => ?_)
      · unfold x7
        refine Within.foldl ?_ (fun _ _ _ h11 => ?_)
        · exact h9
        · refine Within.then ?_ (frame_sendRecord _ _) rfl rfl
          exact h11
      · clear_value x7
        refine Within.via x8 ?_ (fun h12 => ?_)
        · unfold x8
          refine Within.foldl ?_ (fun _ _ _ h13 => ?_)
          · exact h10
          · refine Within.then ?_ (frame_sendRecord _ _) rfl rfl
            exact h13
        · clear_value x8
          refine Within.foldl ?_ (fun _ _ _ h14 => ?_)
          · exact h12
          · refine Within.then ?_ (frame_sendRecord _ _) rfl rfl
            exact h14

theorem frame_storeWork (a0 : State) (s : State) :
    Within [.page 0x20] [.rope] s (storeWork a0 s) := by
  unfold Machine.storeWork
  refine Within.then ?_ (frame_refreshScan _) rfl rfl
  refine Within.then ?_ (frame_showSlots _) rfl rfl
  refine Within.then ?_ (frame_mirrorChanges _ _) rfl rfl
  exact Within.refl _ _ _

theorem frame_winWrite (a0 : Nat) (a1 : List Byte) (s : State) :
    Within [] [.ddr] s (winWrite a0 a1 s) := by
  unfold Machine.winWrite
  refine Within.set_ddr ?_ (by decide)
  exact Within.refl _ _ _

theorem frame_setTally (a0 : Nat) (a1 : Nat) (a2 : Nat) (a3 : Nat) (s : State) :
    Within [] [.ddr] s (setTally a0 a1 a2 a3 s) := by
  unfold Machine.setTally
  refine Within.set_ddr ?_ (by decide)
  exact Within.refl _ _ _

theorem frame_modRing (a0 : Nat) (a1 : Ring → Ring) (s : State) :
    Within [.page 0x41] [.rings] s (modRing a0 a1 s) := by
  unfold Machine.modRing
  extract_lets x0
  refine Within.wr ?_ (inScopes_of rfl)
  refine Within.set_rings ?_ (by decide)
  exact Within.refl _ _ _

theorem frame_pushNotice (a0 : Nat) (a1 : Nat) (s : State) :
    Within [.word 0x4c 0x14, .word 0x4c 0x50, .word 0x4c 0x4c, .word 0x4c 0x48, .word 0x4c 0x44] [.notices] s (pushNotice a0 a1 s) := by
  unfold Machine.pushNotice
  refine Within.ite ?_ ?_
  · exact Within.refl _ _ _
  · extract_lets x0 x1
    refine Within.via x1 ?_ (fun h2 => ?_)
    · unfold x1
      refine Within.set_notices ?_ (by decide)
      exact Within.refl _ _ _
    · clear_value x1
      refine Within.ite ?_ ?_
      · refine Within.latch ?_ (inScopes_of rfl)
        refine Within.wr ?_ (inScopes_of rfl)
        refine Within.inc ?_ (inScopes_of rfl)
        exact Within.refl _ _ _
      · refine Within.peak ?_ (inScopes_of rfl)
        refine Within.wr ?_ (inScopes_of rfl)
        exact h2

theorem frame_slotNotice (a0 : Nat) (a1 : Nat) (a2 : Nat) (s : State) :
    Within [.word 0x4c 0x14, .word 0x4c 0x50, .word 0x4c 0x4c, .word 0x4c 0x48, .word 0x4c 0x44] [.notices] s (slotNotice a0 a1 a2 s) := by
  unfold Machine.slotNotice
  refine Within.then ?_ (frame_pushNotice _ _ _) rfl rfl
  exact Within.refl _ _ _

theorem frame_refreshLevel (a0 : Nat) (s : State) :
    Within [.page 0x41] [] s (refreshLevel a0 s) := by
  unfold Machine.refreshLevel
  refine Within.ite ?_ ?_
  · exact Within.refl _ _ _
  · extract_lets x0 x1 x2 x3
    refine Within.via x3 ?_ (fun h4 => ?_)
    · unfold x3
      refine Within.peak ?_ (inScopes_of rfl)
      refine Within.wr ?_ (inScopes_of rfl)
      exact Within.refl _ _ _
    · clear_value x3
      refine Within.ite ?_ ?_
      · refine Within.latch ?_ (inScopes_of rfl)
        refine Within.wr ?_ (inScopes_of rfl)
        exact h4
      · exact h4

theorem frame_returnSlot (a0 : Nat) (a1 : Nat) (a2 : Nat) (a3 : Nat) (s : State) :
    Within [.word 0x4c 0x14, .word 0x4c 0x50, .word 0x4c 0x4c, .word 0x4c 0x48, .word 0x4c 0x44, .page 0x41] [.notices, .rings, .ddr] s (returnSlot a0 a1 a2 a3 s) := by
  unfold Machine.returnSlot
  split
  · exact Within.refl _ _ _
  · extract_lets x0 x1 x2 x3
    refine Within.via x0 ?_ (fun h4 => ?_)
    · unfold x0
      refine Within.then ?_ (frame_winWrite _ _ _) rfl rfl
      exact Within.refl _ _ _
    · clear_value x0
      refine Within.via x1 ?_ (fun h5 => ?_)
      · unfold x1
        refine Within.then ?_ (frame_winWrite _ _ _) rfl rfl
        exact h4
      · clear_value x1
        refine Within.via x2 ?_ (fun h6 => ?_)
        · unfold x2
          refine Within.foldl ?_ (fun _ _ _ h7 => ?_)
          · exact h5
          · extract_lets x8
            refine Within.then ?_ (frame_setTally _ _ _ _ _) rfl rfl
            exact h7
        · clear_value x2
          refine Within.via x3 ?_ (fun h9 => ?_)
          · unfold x3
            refine Within.then ?_ (frame_modRing _ _ _) rfl rfl
            exact h6
          · clear_value x3
            refine Within.then ?_ (frame_slotNotice _ _ _ _) rfl rfl
            refine Within.then ?_ (frame_refreshLevel _ _) rfl rfl
            exact h9

theorem frame_sweepFrames (s : State) :
    Within [.word 0x4c 0x14, .word 0x4c 0x50, .word 0x4c 0x4c, .word 0x4c 0x48, .word 0x4c 0x44, .page 0x41] [.notices, .rings, .ddr, .frames] s (sweepFrames s) := by
  unfold Machine.sweepFrames
  extract_lets x0
  refine Within.via x0 ?_ (fun h1 => ?_)
  · unfold x0
    refine Within.foldl ?_ (fun _ _ _ h2 => ?_)
    · exact Within.refl _ _ _
    · split
      · refine Within.then ?_ (frame_returnSlot _ _ _ _ _) rfl rfl
        exact h2
      · exact h2
  · clear_value x0
    refine Within.set_frames ?_ (by decide)
    exact h1

theorem frame_setFrame (a0 : Nat) (a1 : Frame) (s : State) :
    Within [] [.frames] s (setFrame a0 a1 s) := by
  unfold Machine.setFrame
  refine Within.set_frames ?_ (by decide)
  exact Within.refl _ _ _

theorem frame_modFrame (a0 : Nat) (a1 : Frame → Frame) (s : State) :
    Within [] [.frames] s (modFrame a0 a1 s) := by
  unfold Machine.modFrame
  split
  · refine Within.then ?_ (frame_setFrame _ _ _) rfl rfl
    exact Within.refl _ _ _
  · exact Within.refl _ _ _

theorem frame_modCampaign (a0 : Nat) (a1 : Campaign → Campaign) (s : State) :
    Within [] [.campaigns] s (modCampaign a0 a1 s) := by
  unfold Machine.modCampaign
  refine Within.set_campaigns ?_ (by decide)
  exact Within.refl _ _ _

theorem frame_newFrame (s : State) :
    Within [] [.frameNumbers] s ((newFrame s).2) := by
  unfold Machine.newFrame
  dsimp only
  refine Within.set_nextFrame ?_ (by decide)
  exact Within.refl _ _ _

theorem frame_modSched (a0 : Nat) (a1 : Sched → Sched) (s : State) :
    Within [] [.scheds] s (modSched a0 a1 s) := by
  unfold Machine.modSched
  refine Within.set_scheds ?_ (by decide)
  exact Within.refl _ _ _

theorem frame_dwellRefund (a0 : Nat) (a1 : Nat) (s : State) :
    Within [] [.scheds] s (dwellRefund a0 a1 s) := by
  unfold Machine.dwellRefund
  refine Within.then ?_ (frame_modSched _ _ _) rfl rfl
  exact Within.refl _ _ _

theorem frame_lowerReq (a0 : Nat) (s : State) :
    Within [] [.fes] s (lowerReq a0 s) := by
  unfold Machine.lowerReq
  refine Within.ite ?_ ?_
  · exact Within.refl _ _ _
  · refine Within.then ?_ (frame_modFe _ _ _) rfl rfl
    exact Within.refl _ _ _

theorem frame_leaveCommitted (a0 : Nat) (a1 : Frame) (s : State) :
    Within [] [.scheds, .fes] s (leaveCommitted a0 a1 s) := by
  unfold Machine.leaveCommitted
  split
  · extract_lets x0
    refine Within.via x0 ?_ (fun h1 => ?_)
    · unfold x0
      refine Within.then ?_ (frame_dwellRefund _ _ _) rfl rfl
      exact Within.refl _ _ _
    · clear_value x0
      split
      · refine Within.then ?_ (frame_lowerReq _ _) rfl rfl
        exact h1
      · exact h1
  · exact Within.refl _ _ _

theorem frame_showDuty (a0 : Nat) (s : State) :
    Within [.page 0x24, .page 0x25, .page 0x26, .page 0x27] [] s (showDuty a0 s) := by
  unfold Machine.showDuty
  refine Within.foldl ?_ (fun _ _ _ h0 => ?_)
  · exact Within.refl _ _ _
  · refine Within.wr ?_ (inScopes_of (amongW4 rfl))
    refine Within.wr ?_ (inScopes_of (amongW4 rfl))
    exact h0

theorem frame_setDuty (a0 : Nat) (a1 : Duty) (s : State) :
    Within [.page 0x24, .page 0x25, .page 0x26, .page 0x27] [.duty] s (setDuty a0 a1 s) := by
  unfold Machine.setDuty
  refine Within.then ?_ (frame_showDuty _ _) rfl rfl
  refine Within.set_duty ?_ (by decide)
  exact Within.refl _ _ _

theorem frame_dutyRelease (a0 : Nat) (s : State) :
    Within [.page 0x24, .page 0x25, .page 0x26, .page 0x27] [.duty] s (dutyRelease a0 s) := by
  unfold Machine.dutyRelease
  refine Within.foldl ?_ (fun _ _ _ h0 => ?_)
  · exact Within.refl _ _ _
  · refine Within.ite ?_ ?_
    · refine Within.then ?_ (frame_setDuty _ _ _) rfl rfl
      exact h0
    · exact h0

theorem frame_closeAll (a0 : List Nat) (a1 : Disp) (s : State) :
    Within [] [.ledger] s (closeAll a0 a1 s) := by
  unfold Machine.closeAll
  refine Within.foldl ?_ (fun _ _ _ h0 => ?_)
  · exact Within.refl _ _ _
  · refine Within.then ?_ (frame_close _ _ _) rfl rfl
    exact h0

theorem frame_countAbandon (a0 : Frame) (a1 : Disp) (s : State) :
    Within [.page 0x24, .page 0x25, .page 0x26, .page 0x27, .word 0x19 0xb4] [] s (countAbandon a0 a1 s) := by
  unfold Machine.countAbandon
  extract_lets x0
  split
  · (unfold x0; beta_reduce)
    refine Within.latch ?_ (inScopes_of (amongW4 rfl))
    refine Within.inc ?_ (inScopes_of (amongW4 rfl))
    refine Within.inc ?_ (inScopes_of (amongW4 rfl))
    exact Within.refl _ _ _
  · (unfold x0; beta_reduce)
    refine Within.latch ?_ (inScopes_of (amongW4 rfl))
    refine Within.inc ?_ (inScopes_of (amongW4 rfl))
    refine Within.inc ?_ (inScopes_of (amongW4 rfl))
    exact Within.refl _ _ _
  · (unfold x0; beta_reduce)
    refine Within.latch ?_ (inScopes_of (amongW4 rfl))
    refine Within.inc ?_ (inScopes_of (amongW4 rfl))
    refine Within.inc ?_ (inScopes_of (amongW4 rfl))
    exact Within.refl _ _ _
  · refine Within.inc ?_ (inScopes_of rfl)
    exact Within.refl _ _ _
  · exact Within.refl _ _ _

theorem frame_txStat (a0 : Option Nat) (a1 : Disp) (s : State) :
    Within [.page 0x1b, .word 0x20 0xdc, .word 0x20 0xd8, .word 0x20 0xd4, .word 0x20 0xd0] [.nodes, .ddr] s (txStat a0 a1 s) := by
  unfold Machine.txStat
  split
  · exact Within.refl _ _ _
  · refine Within.then ?_ (frame_nodeStat _ _ _) rfl rfl
    exact Within.refl _ _ _

theorem frame_countPending (s : State) :
    Within [.word 0x21 0x50, .word 0x21 0x4c] [] s (countPending s) := by
  unfold Machine.countPending
  extract_lets x0
  refine Within.peak ?_ (inScopes_of rfl)
  refine Within.wr ?_ (inScopes_of rfl)
  exact Within.refl _ _ _

theorem frame_syncPending (a0 : Nat) (s : State) :
    Within [.page 0x1b, .word 0x20 0xdc, .word 0x20 0xd8, .word 0x20 0xd4, .word 0x20 0xd0] [.nodes, .ddr] s (syncPending a0 s) := by
  unfold Machine.syncPending
  extract_lets x0 x1 x2 x3 x4 x5
  refine Within.ite ?_ ?_
  · exact Within.refl _ _ _
  · refine Within.then ?_ (frame_setNode _ _ _) rfl rfl
    exact Within.refl _ _ _

theorem frame_recount (a0 : Nat) (s : State) :
    Within [.page (0x24 + a0 % 4)] [] s (recount a0 s) := by
  unfold Machine.recount
  extract_lets x0 x1 x2 x3 x4
  refine Within.via x1 ?_ (fun h5 => ?_)
  · unfold x1
    refine Within.foldl ?_ (fun _ _ _ h6 => ?_)
    · exact Within.refl _ _ _
    · extract_lets x7
      refine Within.wr ?_ (inScopes_of (by simp [Scope.among, fePage, schedPage, ethPage, ethStatPage, F.SCHED.Q_DEPTH]))
      refine Within.ite ?_ ?_
      · refine Within.wr ?_ (inScopes_of (by simp [Scope.among, fePage, schedPage, ethPage, ethStatPage, F.SCHED.DEFICIT]))
        exact h6
      · exact h6
  · clear_value x1
    refine Within.via x3 ?_ (fun h8 => ?_)
    · unfold x3
      refine Within.peak ?_ (inScopes_of (by simp [Scope.among, fePage, schedPage, ethPage, ethStatPage, F.SCHED.QUEUED_PEAK]))
      refine Within.wr ?_ (inScopes_of (by simp [Scope.among, fePage, schedPage, ethPage, ethStatPage, F.SCHED.QUEUED]))
      exact h5
    · clear_value x3
      refine Within.ite ?_ ?_
      · refine Within.latch ?_ (inScopes_of (by simp [Scope.among, fePage, schedPage, ethPage, ethStatPage, F.HEAD.EVT_LATCH]))
        refine Within.wr ?_ (inScopes_of (by simp [Scope.among, fePage, schedPage, ethPage, ethStatPage, F.SCHED.LEVEL_LATCH]))
        exact h8
      · exact h8

theorem frame_endOne (a0 : Nat) (a1 : Disp) (s : State) :
    Within [.page 0x24, .page 0x25, .page 0x26, .page 0x27, .word 0x21 0x50, .word 0x21 0x4c, .page 0x1b, .word 0x20 0xdc, .word 0x20 0xd8, .word 0x20 0xd4, .word 0x20 0xd0, .word 0x19 0xb4] [.nodes, .ddr, .ledger, .scheds, .fes, .duty, .frames] s (endOne a0 a1 s) := by
  unfold Machine.endOne
  split
  · exact Within.refl _ _ _
  · split
    · exact Within.refl _ _ _
    · extract_lets x0 x1 x2 x3 x4 x5 x6
      refine Within.via x1 ?_ (fun h7 => ?_)
      · unfold x1
        refine Within.then ?_ (frame_setFrame _ _ _) rfl rfl
        exact Within.refl _ _ _
      · clear_value x1
        refine Within.via x2 ?_ (fun h8 => ?_)
        · unfold x2
          refine Within.then ?_ (frame_leaveCommitted _ _ _) rfl rfl
          refine Within.then ?_ (frame_dutyRelease _ _) rfl rfl
          exact h7
        · clear_value x2
          refine Within.via x3 ?_ (fun h9 => ?_)
          · unfold x3
            refine Within.ite ?_ ?_
            · refine Within.then ?_ (frame_closeAll _ _ _) rfl rfl
              exact h8
            · exact h8
          · clear_value x3
            refine Within.via x4 ?_ (fun h10 => ?_)
            · unfold x4
              refine Within.ite ?_ ?_
              · refine Within.then ?_ (frame_countAbandon _ _ _) rfl rfl
                exact h9
              · refine Within.ite ?_ ?_
                · refine Within.inc ?_ (inScopes_of rfl)
                  exact h9
                · exact h9
            · clear_value x4
              refine Within.via x5 ?_ (fun h11 => ?_)
              · unfold x5
                refine Within.then ?_ (frame_rxStat _ _ _) rfl rfl
                refine Within.then ?_ (frame_txStat _ _ _) rfl rfl
                exact h10
              · clear_value x5
                refine Within.via x6 ?_ (fun h12 => ?_)
                · unfold x6
                  split
                  · refine Within.then ?_ (frame_countPending _) rfl rfl
                    refine Within.then ?_ (frame_syncPending _ _) rfl rfl
                    exact h11
                  · exact h11
                · clear_value x6
                  refine Within.after ?_ (frame_recount _ _) (amongCons (amongP4 rfl) amongNil) rfl
                  exact h12

theorem frame_endFrame (a0 : Nat) (a1 : Disp) (s : State) :
    Within [.page 0x24, .page 0x25, .page 0x26, .page 0x27, .word 0x21 0x50, .word 0x21 0x4c, .page 0x1b, .word 0x20 0xdc, .word 0x20 0xd8, .word 0x20 0xd4, .word 0x20 0xd0, .word 0x19 0xb4] [.nodes, .ddr, .ledger, .scheds, .fes, .duty, .frames] s (endFrame a0 a1 s) := by
  unfold Machine.endFrame
  split
  · exact Within.refl _ _ _
  · extract_lets x0 x1
    refine Within.via x1 ?_ (fun h2 => ?_)
    · unfold x1
      refine Within.then ?_ (frame_endOne _ _ _) rfl rfl
      exact Within.refl _ _ _
    · clear_value x1
      split
      · refine Within.ite ?_ ?_
        · exact h2
        · refine Within.ite ?_ ?_
          · refine Within.ite ?_ ?_
            · exact h2
            · refine Within.then ?_ (frame_closeAll _ _ _) rfl rfl
              exact h2
          · refine Within.then ?_ (frame_closeAll _ _ _) rfl rfl
            refine Within.foldl ?_ (fun _ _ _ h3 => ?_)
            · exact h2
            · refine Within.then ?_ (frame_endOne _ _ _) rfl rfl
              exact h3
      · exact h2

theorem frame_regCeiling (s : State) :
    Within [.word 0xc 0x14, .word 0xc 0x4c] [] s (regCeiling s) := by
  unfold Machine.regCeiling
  refine Within.latch ?_ (inScopes_of rfl)
  refine Within.inc ?_ (inScopes_of rfl)
  exact Within.refl _ _ _

theorem frame_enqueue (a0 : Nat) (s : State) :
    Within [.page 0x24, .page 0x25, .page 0x26, .page 0x27, .word 0x21 0x50, .word 0x21 0x4c, .page 0x1b, .word 0x20 0xdc, .word 0x20 0xd8, .word 0x20 0xd4, .word 0x20 0xd0, .word 0x19 0xb4, .word 0xc 0x14, .word 0xc 0x4c] [.nodes, .ddr, .ledger, .scheds, .fes, .duty, .frames] s (enqueue a0 s) := by
  unfold Machine.enqueue
  split
  · exact Within.refl _ _ _
  · refine Within.ite ?_ ?_
    · refine Within.then ?_ (frame_endFrame _ _ _) rfl rfl
      exact Within.refl _ _ _
    · extract_lets x0
      refine Within.via x0 ?_ (fun h1 => ?_)
      · unfold x0
        refine Within.then ?_ (frame_setFrame _ _ _) rfl rfl
        exact Within.refl _ _ _
      · clear_value x0
        split
        · refine Within.then ?_ (frame_endFrame _ _ _) rfl rfl
          refine Within.then ?_ (frame_regCeiling _) rfl rfl
          exact h1
        · refine Within.after ?_ (frame_recount _ _) (amongCons (amongP4 rfl) amongNil) rfl
          exact h1

theorem frame_queueSymbol (a0 : Nat) (a1 : Nat) (s : State) :
    Within [.page 0x29, .page 0x24, .page 0x25, .page 0x26, .page 0x27, .word 0x21 0x50, .word 0x21 0x4c, .page 0x1b, .word 0x20 0xdc, .word 0x20 0xd8, .word 0x20 0xd4, .word 0x20 0xd0, .word 0x19 0xb4, .word 0xc 0x14, .word 0xc 0x4c] [.frameNumbers, .campaigns, .nodes, .ddr, .ledger, .scheds, .fes, .duty, .frames] s (queueSymbol a0 a1 s) := by
  unfold Machine.queueSymbol
  extract_lets x0 x1 x2 x3
  refine Within.via x3 ?_ (fun h4 => ?_)
  · unfold x3
    refine Within.wr ?_ (inScopes_of rfl)
    refine Within.then ?_ (frame_modCampaign _ _ _) rfl rfl
    exact Within.refl _ _ _
  · clear_value x3
    split
    · exact Within.refl _ _ _
    · refine Within.ite ?_ ?_
      · exact Within.refl _ _ _
      · generalize e5 : Machine.newFrame _ = p6
        obtain ⟨_, _⟩ := p6
        dsimp only
        refine Within.viaEq ?_ e5 (fun h7 => ?_)
        · refine Within.then ?_ (frame_newFrame _) rfl rfl
          exact h4
        · refine Within.then ?_ (frame_enqueue _ _) rfl rfl
          refine Within.then ?_ (frame_setFrame _ _ _) rfl rfl
          exact h7

theorem frame_followSymbol (a0 : Nat) (s : State) :
    Within [.page 0x29, .page 0x24, .page 0x25, .page 0x26, .page 0x27, .word 0x21 0x50, .word 0x21 0x4c, .page 0x1b, .word 0x20 0xdc, .word 0x20 0xd8, .word 0x20 0xd4, .word 0x20 0xd0, .word 0x19 0xb4, .word 0xc 0x14, .word 0xc 0x4c] [.frames, .frameNumbers, .campaigns, .nodes, .ddr, .ledger, .scheds, .fes, .duty] s (followSymbol a0 s) := by
  unfold Machine.followSymbol
  split
  · exact Within.refl _ _ _
  · split
    · extract_lets x0 x1 x2 x3 x4
      refine Within.via x2 ?_ (fun h5 => ?_)
      · unfold x2
        refine Within.then ?_ (frame_modFrame _ _ _) rfl rfl
        exact Within.refl _ _ _
      · clear_value x2
        refine Within.via x3 ?_ (fun h6 => ?_)
        · unfold x3
          refine Within.then ?_ (frame_modCampaign _ _ _) rfl rfl
          exact h5
        · clear_value x3
          refine Within.via x4 ?_ (fun h7 => ?_)
          · unfold x4
            refine Within.ite ?_ ?_
            · refine Within.then ?_ (frame_queueSymbol _ _ _) rfl rfl
              exact h6
            · exact Within.refl _ _ _
          · clear_value x4
            refine Within.ite ?_ ?_
            · refine Within.inc ?_ (inScopes_of rfl)
              refine Within.inc ?_ (inScopes_of rfl)
              refine Within.then ?_ (frame_modFrame _ _ _) rfl rfl
              exact h7
            · exact h7
    · exact Within.refl _ _ _

theorem frame_setCState (a0 : Nat) (a1 : Nat) (s : State) :
    Within [.page 0x29] [] s (setCState a0 a1 s) := by
  unfold Machine.setCState
  extract_lets x0
  refine Within.via x0 ?_ (fun h1 => ?_)
  · unfold x0
    refine Within.wr ?_ (inScopes_of rfl)
    exact Within.refl _ _ _
  · clear_value x0
    refine Within.ite ?_ ?_
    · refine Within.orBits ?_ (inScopes_of rfl)
      exact h1
    · refine Within.clearBits ?_ (inScopes_of rfl)
      exact h1

theorem frame_showWindowOpen (a0 : Nat) (s : State) :
    Within [.word (0x24 + a0 % 4) 0x50] [] s (showWindowOpen a0 s) := by
  unfold Machine.showWindowOpen
  refine Within.wrBool ?_ (inScopes_of (by simp [Scope.among, fePage, schedPage, ethPage, ethStatPage, F.SCHED.WINDOW_OPEN]))
  exact Within.refl _ _ _

theorem frame_showNextWin (a0 : Nat) (s : State) :
    Within [.page 0x29] [] s (showNextWin a0 s) := by
  unfold Machine.showNextWin
  extract_lets x0
  refine Within.wr ?_ (inScopes_of rfl)
  exact Within.refl _ _ _

theorem frame_endFrames (a0 : Frame → Bool) (a1 : Disp) (s : State) :
    Within [.page 0x24, .page 0x25, .page 0x26, .page 0x27, .word 0x21 0x50, .word 0x21 0x4c, .page 0x1b, .word 0x20 0xdc, .word 0x20 0xd8, .word 0x20 0xd4, .word 0x20 0xd0, .word 0x19 0xb4] [.nodes, .ddr, .ledger, .scheds, .fes, .duty, .frames] s (endFrames a0 a1 s) := by
  unfold Machine.endFrames
  refine Within.foldl ?_ (fun _ _ _ h0 => ?_)
  · exact Within.refl _ _ _
  · refine Within.then ?_ (frame_endFrame _ _ _) rfl rfl
    exact h0

theorem frame_advanceSeed (a0 : Nat) (a1 : Tx) (s : State) :
    Within [] [.fes] s (advanceSeed a0 a1 s) := by
  unfold Machine.advanceSeed
  refine Within.ite ?_ ?_
  · refine Within.then ?_ (frame_modFe _ _ _) rfl rfl
    exact Within.refl _ _ _
  · exact Within.refl _ _ _

theorem frame_dwellSettle (a0 : Nat) (a1 : Nat) (a2 : Bool) (s : State) :
    Within [] [.scheds] s (dwellSettle a0 a1 a2 s) := by
  unfold Machine.dwellSettle
  refine Within.then ?_ (frame_modSched _ _ _) rfl rfl
  exact Within.refl _ _ _

theorem frame_dutyCharge (a0 : Nat) (a1 : Nat) (s : State) :
    Within [.page 0x24, .page 0x25, .page 0x26, .page 0x27] [.duty] s (dutyCharge a0 a1 s) := by
  unfold Machine.dutyCharge
  extract_lets x0 x1 x2 x3 x4 x5 x6 x7
  refine Within.then ?_ (frame_setDuty _ _ _) rfl rfl
  exact Within.refl _ _ _

theorem frame_chargeTx (a0 : Tx) (a1 : Nat) (s : State) :
    Within [.page 0x24, .page 0x25, .page 0x26, .page 0x27] [.scheds, .duty] s (chargeTx a0 a1 s) := by
  unfold Machine.chargeTx
  extract_lets x0 x1
  refine Within.via x0 ?_ (fun h2 => ?_)
  · unfold x0
    split
    · refine Within.then ?_ (frame_dutyRelease _ _) rfl rfl
      exact Within.refl _ _ _
    · refine Within.then ?_ (frame_dutyRelease _ _) rfl rfl
      exact Within.refl _ _ _
    · exact Within.refl _ _ _
  · clear_value x0
    refine Within.via x1 ?_ (fun h3 => ?_)
    · unfold x1
      refine Within.then ?_ (frame_dwellSettle _ _ _ _) rfl rfl
      exact h2
    · clear_value x1
      refine Within.ite ?_ ?_
      · exact h3
      · refine Within.then ?_ (frame_dutyCharge _ _ _) rfl rfl
        exact h3

theorem frame_refreshListen (s : State) :
    Within [.page 0x10] [] s (refreshListen s) := by
  unfold Machine.refreshListen
  refine Within.foldl ?_ (fun _ _ _ h0 => ?_)
  · exact Within.refl _ _ _
  · refine Within.wr ?_ (inScopes_of rfl)
    exact h0

theorem frame_dropEnergy (a0 : Nat) (s : State) :
    Within [.page 0x10] [] s (dropEnergy a0 s) := by
  unfold Machine.dropEnergy
  refine Within.foldl ?_ (fun _ _ _ h0 => ?_)
  · exact Within.refl _ _ _
  · refine Within.wr ?_ (inScopes_of rfl)
    exact h0

theorem frame_setGain (a0 : Nat) (a1 : Nat) (s : State) :
    Within [.page 0x10] [.lanes, .fes] s (setGain a0 a1 s) := by
  unfold Machine.setGain
  refine Within.then ?_ (frame_changeLanes _ _ _) rfl rfl
  refine Within.wr ?_ (inScopes_of rfl)
  refine Within.then ?_ (frame_modFe _ _ _) rfl rfl
  exact Within.refl _ _ _

theorem frame_holdGain (s : State) :
    Within [.page 0x10] [.lanes, .fes] s (holdGain s) := by
  unfold Machine.holdGain
  extract_lets x0 x1 x2
  split
  · refine Within.then ?_ (frame_setGain _ _ _) rfl rfl
    refine Within.then ?_ (frame_modFe _ _ _) rfl rfl
    exact Within.refl _ _ _
  · refine Within.then ?_ (frame_setGain _ _ _) rfl rfl
    refine Within.then ?_ (frame_modFe _ _ _) rfl rfl
    exact Within.refl _ _ _
  · exact Within.refl _ _ _

theorem frame_showLines (a0 : Nat) (s : State) :
    Within [.word (0x8 + a0 % 4) 0x5c] [] s (showLines a0 s) := by
  unfold Machine.showLines
  refine Within.wr ?_ (inScopes_of (by simp [Scope.among, fePage, schedPage, ethPage, ethStatPage, F.FE.LINES_NOW]))
  exact Within.refl _ _ _

theorem frame_enterRf (a0 : Nat) (a1 : Nat) (s : State) :
    Within [.page 0x10, .word (0x8 + a0 % 4) 0x5c, .word (0x8 + a0 % 4) 0x4c] [.lanes, .fes] s (enterRf a0 a1 s) := by
  unfold Machine.enterRf
  extract_lets x0 x1 x2 x3 x4
  refine Within.via x1 ?_ (fun h5 => ?_)
  · unfold x1
    refine Within.ite ?_ ?_
    · exact Within.refl _ _ _
    · refine Within.then ?_ (frame_dropEnergy _ _) rfl rfl
      exact Within.refl _ _ _
  · clear_value x1
    refine Within.via x4 ?_ (fun h6 => ?_)
    · unfold x4
      refine Within.then ?_ (frame_modFe _ _ _) rfl rfl
      exact h5
    · clear_value x4
      refine Within.then ?_ (frame_holdGain _) rfl rfl
      refine Within.after ?_ (frame_showLines _ _) (amongCons (by simp [Scope.among, fePage, schedPage, ethPage, ethStatPage]) amongNil) rfl
      refine Within.wr ?_ (inScopes_of (by simp [Scope.among, fePage, schedPage, ethPage, ethStatPage, F.FE.RF_STATE_STATE]))
      exact h6

theorem frame_setRf (a0 : Nat) (a1 : Nat) (s : State) :
    Within [.page 0x10, .word (0x8 + a0 % 4) 0x5c, .word (0x8 + a0 % 4) 0x4c] [.lanes, .fes] s (setRf a0 a1 s) := by
  unfold Machine.setRf
  refine Within.ite ?_ ?_
  · refine Within.then ?_ (frame_refreshListen _) rfl rfl
    refine Within.after ?_ (frame_enterRf _ _ _) (amongCons rfl (amongCons (by simp [Scope.among, fePage, schedPage, ethPage, ethStatPage]) (amongCons (by simp [Scope.among, fePage, schedPage, ethPage, ethStatPage]) amongNil))) rfl
    refine Within.then ?_ (frame_modFe _ _ _) rfl rfl
    exact Within.refl _ _ _
  · refine Within.after ?_ (frame_enterRf _ _ _) (amongCons rfl (amongCons (by simp [Scope.among, fePage, schedPage, ethPage, ethStatPage]) (amongCons (by simp [Scope.among, fePage, schedPage, ethPage, ethStatPage]) amongNil))) rfl
    exact Within.refl _ _ _

theorem frame_paFalls (a0 : Nat) (s : State) :
    Within [] [.fes] s (paFalls a0 s) := by
  unfold Machine.paFalls
  refine Within.then ?_ (frame_lowerReq _ _) rfl rfl
  refine Within.then ?_ (frame_modFe _ _ _) rfl rfl
  exact Within.refl _ _ _

theorem frame_reqFalls (a0 : Nat) (s : State) :
    Within [] [.fes] s (reqFalls a0 s) := by
  unfold Machine.reqFalls
  refine Within.ite ?_ ?_
  · exact Within.refl _ _ _
  · refine Within.then ?_ (frame_modFe _ _ _) rfl rfl
    exact Within.refl _ _ _

theorem frame_cutTx (a0 : Nat) (a1 : Disp) (s : State) :
    Within [.page 0x24, .page 0x25, .page 0x26, .page 0x27, .word 0x21 0x50, .word 0x21 0x4c, .page 0x1b, .word 0x20 0xdc, .word 0x20 0xd8, .word 0x20 0xd4, .word 0x20 0xd0, .word 0x19 0xb4, .page 0x10, .page 0x31, .word (0x8 + a0 % 4) 0x5c, .word (0x8 + a0 % 4) 0x4c] [.nodes, .ddr, .ledger, .scheds, .fes, .duty, .frames, .lanes] s (cutTx a0 a1 s) := by
  unfold Machine.cutTx
  split
  · exact Within.refl _ _ _
  · extract_lets x0 x1 x2
    refine Within.via x0 ?_ (fun h3 => ?_)
    · unfold x0
      refine Within.then ?_ (frame_advanceSeed _ _ _) rfl rfl
      refine Within.then ?_ (frame_freeEngine _ _) rfl rfl
      refine Within.then ?_ (frame_chargeTx _ _ _) rfl rfl
      exact Within.refl _ _ _
    · clear_value x0
      refine Within.via x1 ?_ (fun h4 => ?_)
      · unfold x1
        refine Within.then ?_ (frame_modFe _ _ _) rfl rfl
        exact h3
      · clear_value x1
        refine Within.via x2 ?_ (fun h5 => ?_)
        · unfold x2
          refine Within.after ?_ (frame_setRf _ _ _) (amongCons rfl (amongCons (amongAt 14 rfl) (amongCons (amongAt 15 rfl) amongNil))) rfl
          refine Within.ite ?_ ?_
          · refine Within.then ?_ (frame_paFalls _ _) rfl rfl
            exact h4
          · refine Within.then ?_ (frame_reqFalls _ _) rfl rfl
            exact h4
        · clear_value x2
          split
          · refine Within.then ?_ (frame_endFrame _ _ _) rfl rfl
            exact h5
          · refine Within.then ?_ (frame_endFrame _ _ _) rfl rfl
            exact h5
          · exact h5

theorem frame_cutSymbols (a0 : Nat) (s : State) :
    Within [.page 0x24, .page 0x25, .page 0x26, .page 0x27, .word 0x21 0x50, .word 0x21 0x4c, .page 0x1b, .word 0x20 0xdc, .word 0x20 0xd8, .word 0x20 0xd4, .word 0x20 0xd0, .word 0x19 0xb4, .page 0x10, .page 0x31, .word 0x8 0x5c, .word 0x9 0x5c, .word 0xa 0x5c, .word 0xb 0x5c, .word 0x8 0x4c, .word 0x9 0x4c, .word 0xa 0x4c, .word 0xb 0x4c] [.nodes, .ddr, .ledger, .scheds, .fes, .duty, .frames, .lanes] s (cutSymbols a0 s) := by
  unfold Machine.cutSymbols
  refine Within.foldl ?_ (fun _ _ _ h0 => ?_)
  · exact Within.refl _ _ _
  · split
    · split
      · split
        · refine Within.ite ?_ ?_
          · refine Within.after ?_ (frame_cutTx _ _ _) (amongCons rfl (amongCons rfl (amongCons rfl (amongCons rfl (amongCons rfl (amongCons rfl (amongCons rfl (amongCons rfl (amongCons rfl (amongCons rfl (amongCons rfl (amongCons rfl (amongCons rfl (amongCons rfl (amongCons (amongW4 rfl) (amongCons (amongW4 rfl) amongNil)))))))))))))))) rfl
            exact h0
          · exact h0
        · exact h0
      · exact h0
    · exact h0

theorem frame_queueAnnouncement (a0 : Nat) (a1 : Nat) (a2 : Option Nat) (s : State) :
    Within [.page 0x24, .page 0x25, .page 0x26, .page 0x27, .word 0x21 0x50, .word 0x21 0x4c, .page 0x1b, .word 0x20 0xdc, .word 0x20 0xd8, .word 0x20 0xd4, .word 0x20 0xd0, .word 0x19 0xb4, .word 0xc 0x14, .word 0xc 0x4c] [.frameNumbers, .nodes, .ddr, .ledger, .scheds, .fes, .duty, .frames] s (queueAnnouncement a0 a1 a2 s) := by
  unfold Machine.queueAnnouncement
  refine Within.then ?_ (frame_enqueue _ _) rfl rfl
  refine Within.then ?_ (frame_setFrame _ _ _) rfl rfl
  refine Within.then ?_ (frame_newFrame _) rfl rfl
  exact Within.refl _ _ _

theorem frame_endCampaign (a0 : Nat) (a1 : EndReason) (s : State) :
    Within [.page 0x24, .page 0x25, .page 0x26, .page 0x27, .word 0x21 0x50, .word 0x21 0x4c, .page 0x1b, .word 0x20 0xdc, .word 0x20 0xd8, .word 0x20 0xd4, .word 0x20 0xd0, .word 0x19 0xb4, .word 0xc 0x14, .word 0xc 0x4c, .page 0x29, .page 0x10, .page 0x31, .word 0x8 0x5c, .word 0x9 0x5c, .word 0xa 0x5c, .word 0xb 0x5c, .word 0x8 0x4c, .word 0x9 0x4c, .word 0xa 0x4c, .word 0xb 0x4c] [.frameNumbers, .nodes, .ddr, .ledger, .scheds, .fes, .duty, .frames, .campaigns, .lanes] s (endCampaign a0 a1 s) := by
  unfold Machine.endCampaign
  extract_lets x0 x1 x2 x3 x4 x5 x6 x7
  refine Within.via x1 ?_ (fun h8 => ?_)
  · unfold x1
    refine Within.wr ?_ (inScopes_of rfl)
    refine Within.then ?_ (frame_setCState _ _ _) rfl rfl
    exact Within.refl _ _ _
  · clear_value x1
    refine Within.via x2 ?_ (fun h9 => ?_)
    · unfold x2
      refine Within.then ?_ (frame_modCampaign _ _ _) rfl rfl
      exact h8
    · clear_value x2
      refine Within.via x3 ?_ (fun h10 => ?_)
      · unfold x3
        refine Within.foldl ?_ (fun _ _ _ h11 => ?_)
        · refine Within.then ?_ (frame_showNextWin _ _) rfl rfl
          exact h9
        · refine Within.after ?_ (frame_showWindowOpen _ _) (amongCons (amongW4 rfl) amongNil) rfl
          exact h11
      · clear_value x3
        refine Within.via x4 ?_ (fun h12 => ?_)
        · unfold x4
          refine Within.ite ?_ ?_
          · exact h10
          · refine Within.then ?_ (frame_endFrames _ _ _) rfl rfl
            exact h10
        · clear_value x4
          refine Within.via x5 ?_ (fun h13 => ?_)
          · unfold x5
            refine Within.then ?_ (frame_endFrames _ _ _) rfl rfl
            exact h12
          · clear_value x5
            refine Within.via x6 ?_ (fun h14 => ?_)
            · unfold x6
              refine Within.ite ?_ ?_
              · exact h12
              · refine Within.then ?_ (frame_cutSymbols _ _) rfl rfl
                exact h13
            · clear_value x6
              refine Within.via x7 ?_ (fun h15 => ?_)
              · unfold x7
                refine Within.ite ?_ ?_
                · refine Within.latch ?_ (inScopes_of rfl)
                  exact h14
                · refine Within.ite ?_ ?_
                  · refine Within.latch ?_ (inScopes_of rfl)
                    exact h14
                  · exact h14
              · clear_value x7
                refine Within.foldl ?_ (fun _ _ _ h16 => ?_)
                · exact h15
                · refine Within.then ?_ (frame_queueAnnouncement _ _ _ _) rfl rfl
                  exact h16

theorem frame_followCampaign (a0 : Nat) (s : State) :
    Within [.page 0x24, .page 0x25, .page 0x26, .page 0x27, .word 0x21 0x50, .word 0x21 0x4c, .page 0x1b, .word 0x20 0xdc, .word 0x20 0xd8, .word 0x20 0xd4, .word 0x20 0xd0, .word 0x19 0xb4, .word 0xc 0x14, .word 0xc 0x4c, .page 0x29, .page 0x10, .page 0x31, .word 0x8 0x5c, .word 0x9 0x5c, .word 0xa 0x5c, .word 0xb 0x5c, .word 0x8 0x4c, .word 0x9 0x4c, .word 0xa 0x4c, .word 0xb 0x4c] [.frameNumbers, .nodes, .ddr, .ledger, .scheds, .fes, .duty, .frames, .campaigns, .lanes] s (followCampaign a0 s) := by
  unfold Machine.followCampaign
  refine Within.ite ?_ ?_
  · exact Within.refl _ _ _
  · extract_lets x0 x1 x2 x3
    refine Within.ite ?_ ?_
    · refine Within.then ?_ (frame_endCampaign _ _ _) rfl rfl
      exact Within.refl _ _ _
    · refine Within.ite ?_ ?_
      · refine Within.then ?_ (frame_endCampaign _ _ _) rfl rfl
        exact Within.refl _ _ _
      · refine Within.ite ?_ ?_
        · refine Within.then ?_ (frame_endCampaign _ _ _) rfl rfl
          exact Within.refl _ _ _
        · refine Within.ite ?_ ?_
          · refine Within.then ?_ (frame_endCampaign _ _ _) rfl rfl
            exact Within.refl _ _ _
          · exact Within.refl _ _ _

theorem frame_followDissem (s : State) :
    Within [.page 0x24, .page 0x25, .page 0x26, .page 0x27, .word 0x21 0x50, .word 0x21 0x4c, .page 0x1b, .word 0x20 0xdc, .word 0x20 0xd8, .word 0x20 0xd4, .word 0x20 0xd0, .word 0x19 0xb4, .word 0xc 0x14, .word 0xc 0x4c, .page 0x29, .page 0x10, .page 0x31, .word 0x8 0x5c, .word 0x9 0x5c, .word 0xa 0x5c, .word 0xb 0x5c, .word 0x8 0x4c, .word 0x9 0x4c, .word 0xa 0x4c, .word 0xb 0x4c] [.frameNumbers, .nodes, .ddr, .ledger, .scheds, .fes, .duty, .frames, .campaigns, .lanes] s (followDissem s) := by
  unfold Machine.followDissem
  extract_lets x0
  refine Within.via x0 ?_ (fun h1 => ?_)
  · unfold x0
    refine Within.foldl ?_ (fun _ _ _ h2 => ?_)
    · exact Within.refl _ _ _
    · refine Within.then ?_ (frame_followSymbol _ _) rfl rfl
      exact h2
  · clear_value x0
    refine Within.foldl ?_ (fun _ _ _ h3 => ?_)
    · exact h1
    · refine Within.then ?_ (frame_followCampaign _ _) rfl rfl
      exact h3

theorem frame_nextCal (a0 : Nat) (s : State) :
    Within [.page 0x10, .word (0x8 + a0 % 4) 0x5c, .word (0x8 + a0 % 4) 0x4c] [.lanes, .fes] s (nextCal a0 s) := by
  unfold Machine.nextCal
  split
  · refine Within.after ?_ (frame_setRf _ _ _) (amongCons rfl (amongCons (by simp [Scope.among, fePage, schedPage, ethPage, ethStatPage]) (amongCons (by simp [Scope.among, fePage, schedPage, ethPage, ethStatPage]) amongNil))) rfl
    exact Within.refl _ _ _
  · refine Within.after ?_ (frame_setRf _ _ _) (amongCons rfl (amongCons (by simp [Scope.among, fePage, schedPage, ethPage, ethStatPage]) (amongCons (by simp [Scope.among, fePage, schedPage, ethPage, ethStatPage]) amongNil))) rfl
    exact Within.refl _ _ _
  · refine Within.after ?_ (frame_setRf _ _ _) (amongCons rfl (amongCons (by simp [Scope.among, fePage, schedPage, ethPage, ethStatPage]) (amongCons (by simp [Scope.among, fePage, schedPage, ethPage, ethStatPage]) amongNil))) rfl
    exact Within.refl _ _ _

theorem frame_startCals (a0 : Nat) (a1 : CalWhy) (a2 : List CalKind) (s : State) :
    Within [.page 0x10, .word (0x8 + a0 % 4) 0x5c, .word (0x8 + a0 % 4) 0x4c] [.lanes, .fes] s (startCals a0 a1 a2 s) := by
  unfold Machine.startCals
  refine Within.after ?_ (frame_nextCal _ _) (amongCons rfl (amongCons (by simp [Scope.among, fePage, schedPage, ethPage, ethStatPage]) (amongCons (by simp [Scope.among, fePage, schedPage, ethPage, ethStatPage]) amongNil))) rfl
  refine Within.then ?_ (frame_modFe _ _ _) rfl rfl
  exact Within.refl _ _ _

theorem frame_unrelievedStep (a0 : Nat) (s : State) :
    Within [.page 0x10, .word (0x8 + a0 % 4) 0x5c, .word (0x8 + a0 % 4) 0x4c] [.lanes, .fes] s (unrelievedStep a0 s) := by
  unfold Machine.unrelievedStep
  split
  · exact Within.refl _ _ _
  · refine Within.ite ?_ ?_
    · refine Within.after ?_ (frame_startCals _ _ _ _) (amongCons rfl (amongCons (amongAt 1 rfl) (amongCons (amongAt 2 rfl) amongNil))) rfl
      refine Within.then ?_ (frame_modFe _ _ _) rfl rfl
      exact Within.refl _ _ _
    · exact Within.refl _ _ _

theorem frame_endLanes (a0 : Lane → Bool) (a1 : Disp) (s : State) :
    Within [.page 0x10, .page 0x11, .page 0x31, .page 0x1b, .word 0x20 0xdc, .word 0x20 0xd8, .word 0x20 0xd4, .word 0x20 0xd0, .word 0x19 0xa4, .word 0x19 0xa8, .word 0x19 0xac, .word 0x19 0xb0, .word 0x19 0xb4, .word 0x19 0xb8] [.lanes, .fes, .nodes, .ddr, .ledger] s (endLanes a0 a1 s) := by
  unfold Machine.endLanes
  refine Within.foldl ?_ (fun _ _ _ h0 => ?_)
  · exact Within.refl _ _ _
  · refine Within.then ?_ (frame_endLane _ _ _) rfl rfl
    exact h0

theorem frame_applyTuning (a0 : Nat) (s : State) :
    Within [.page 0x10] [.fes] s (applyTuning a0 s) := by
  unfold Machine.applyTuning
  extract_lets x0
  refine Within.then ?_ (frame_refreshListen _) rfl rfl
  refine Within.then ?_ (frame_modFe _ _ _) rfl rfl
  exact Within.refl _ _ _

theorem frame_roleCals (a0 : List CalKind) (s : State) :
    Within [.page 0x10, .word 0xb 0x5c, .word 0xb 0x4c] [.fes, .lanes] s (roleCals a0 s) := by
  unfold Machine.roleCals
  refine Within.ite ?_ ?_
  · refine Within.then ?_ (frame_modFe _ _ _) rfl rfl
    exact Within.refl _ _ _
  · refine Within.ite ?_ ?_
    · refine Within.then ?_ (frame_modFe _ _ _) rfl rfl
      exact Within.refl _ _ _
    · refine Within.then ?_ (frame_startCals _ _ _ _) rfl rfl
      exact Within.refl _ _ _

theorem frame_beginRetune (a0 : Nat) (s : State) :
    Within [.page 0x10, .page 0x11, .page 0x31, .page 0x1b, .word 0x20 0xdc, .word 0x20 0xd8, .word 0x20 0xd4, .word 0x20 0xd0, .word 0x19 0xa4, .word 0x19 0xa8, .word 0x19 0xac, .word 0x19 0xb0, .word 0x19 0xb4, .word 0x19 0xb8, .word 0xb 0x5c, .word 0xb 0x4c, .word (0x8 + a0 % 4) 0x5c, .word (0x8 + a0 % 4) 0x4c] [.lanes, .fes, .nodes, .ddr, .ledger] s (beginRetune a0 s) := by
  unfold Machine.beginRetune
  extract_lets x0 x1 x2
  refine Within.via x0 ?_ (fun h3 => ?_)
  · unfold x0
    refine Within.then ?_ (frame_endLanes _ _ _) rfl rfl
    exact Within.refl _ _ _
  · clear_value x0
    refine Within.via x2 ?_ (fun h4 => ?_)
    · unfold x2
      refine Within.after ?_ (frame_startCals _ _ _ _) (amongCons rfl (amongCons (amongAt 16 rfl) (amongCons (amongAt 17 rfl) amongNil))) rfl
      refine Within.then ?_ (frame_applyTuning _ _) rfl rfl
      exact h3
    · clear_value x2
      refine Within.ite ?_ ?_
      · refine Within.then ?_ (frame_roleCals _ _) rfl rfl
        refine Within.then ?_ (frame_applyTuning _ _) rfl rfl
        exact h4
      · exact h4

theorem frame_retuneStep (a0 : Nat) (s : State) :
    Within [.page 0x10, .page 0x11, .page 0x31, .page 0x1b, .word 0x20 0xdc, .word 0x20 0xd8, .word 0x20 0xd4, .word 0x20 0xd0, .word 0x19 0xa4, .word 0x19 0xa8, .word 0x19 0xac, .word 0x19 0xb0, .word 0x19 0xb4, .word 0x19 0xb8, .word 0xb 0x5c, .word 0xb 0x4c, .word (0x8 + a0 % 4) 0x5c, .word (0x8 + a0 % 4) 0x4c] [.lanes, .fes, .nodes, .ddr, .ledger] s (retuneStep a0 s) := by
  unfold Machine.retuneStep
  refine Within.ite ?_ ?_
  · refine Within.after ?_ (frame_beginRetune _ _) (amongCons rfl (amongCons rfl (amongCons rfl (amongCons rfl (amongCons rfl (amongCons rfl (amongCons rfl (amongCons rfl (amongCons rfl (amongCons rfl (amongCons rfl (amongCons rfl (amongCons rfl (amongCons rfl (amongCons rfl (amongCons rfl (amongCons (amongAt 16 rfl) (amongCons (amongAt 17 rfl) amongNil)))))))))))))))))) rfl
    exact Within.refl _ _ _
  · exact Within.refl _ _ _

theorem frame_setTestResult (a0 : Nat) (a1 : Nat) (s : State) :
    Within [.word a0 0x14, .word a0 0x30] [] s (setTestResult a0 a1 s) := by
  unfold Machine.setTestResult
  refine Within.ite ?_ ?_
  · exact Within.refl _ _ _
  · extract_lets x0
    refine Within.via x0 ?_ (fun h1 => ?_)
    · unfold x0
      refine Within.wr ?_ (inScopes_of (by simp [Scope.among, fePage, schedPage, ethPage, ethStatPage, F.HEAD.TEST_STATUS_RESULT]))
      exact Within.refl _ _ _
    · clear_value x0
      refine Within.ite ?_ ?_
      · refine Within.latch ?_ (inScopes_of (by simp [Scope.among, fePage, schedPage, ethPage, ethStatPage, F.HEAD.EVT_LATCH]))
        exact h1
      · exact h1

theorem frame_engineTestEnd (a0 : Option Nat) (s : State) :
    Within [.word 0x31 0x14, .word 0x31 0x30] [.engines] s (engineTestEnd a0 s) := by
  unfold Machine.engineTestEnd
  extract_lets x0
  refine Within.via x0 ?_ (fun h1 => ?_)
  · unfold x0
    refine Within.set_engineTest ?_ (by decide)
    exact Within.refl _ _ _
  · clear_value x0
    split
    · refine Within.then ?_ (frame_setTestResult _ _ _) rfl rfl
      refine Within.wr ?_ (inScopes_of rfl)
      exact h1
    · refine Within.then ?_ (frame_setTestResult _ _ _) rfl rfl
      exact h1

theorem frame_engineVectors (a0 : EngineTest) (s : State) :
    Within [.page 0x31] [.engines] s (engineVectors a0 s) := by
  unfold Machine.engineVectors
  refine Within.then ?_ (frame_setTestResult _ _ _) rfl rfl
  refine Within.wr ?_ (inScopes_of rfl)
  refine Within.set_engineTest ?_ (by decide)
  exact Within.refl _ _ _

theorem frame_engineTurn (a0 : EngineTest) (s : State) :
    Within [.page 0x31] [.engines] s (engineTurn a0 s) := by
  unfold Machine.engineTurn
  split
  · refine Within.then ?_ (frame_engineTestEnd _ _) rfl rfl
    exact Within.refl _ _ _
  · extract_lets x0 x1
    refine Within.via x1 ?_ (fun h2 => ?_)
    · unfold x1
      refine Within.wr ?_ (inScopes_of rfl)
      exact Within.refl _ _ _
    · clear_value x1
      refine Within.ite ?_ ?_
      · refine Within.ite ?_ ?_
        · refine Within.then ?_ (frame_engineVectors _ _) rfl rfl
          exact Within.refl _ _ _
        · refine Within.ite ?_ ?_
          · refine Within.then ?_ (frame_engineVectors _ _) rfl rfl
            exact h2
          · refine Within.then ?_ (frame_setTestResult _ _ _) rfl rfl
            refine Within.wr ?_ (inScopes_of rfl)
            refine Within.set_engineTest ?_ (by decide)
            exact h2
      · refine Within.ite ?_ ?_
        · exact Within.refl _ _ _
        · refine Within.then ?_ (frame_engineTestEnd _ _) rfl rfl
          exact Within.refl _ _ _

theorem frame_fcryptoStep (s : State) :
    Within [.page 0x31] [.engines] s (fcryptoStep s) := by
  unfold Machine.fcryptoStep
  split
  · exact Within.refl _ _ _
  · split
    · exact Within.refl _ _ _
    · exact Within.refl _ _ _
    · refine Within.then ?_ (frame_engineTurn _ _) rfl rfl
      exact Within.refl _ _ _
    · refine Within.ite ?_ ?_
      · refine Within.then ?_ (frame_engineVectors _ _) rfl rfl
        exact Within.refl _ _ _
      · exact Within.refl _ _ _
    · refine Within.ite ?_ ?_
      · exact Within.refl _ _ _
      · extract_lets x0
        refine Within.then ?_ (frame_engineTurn _ _) rfl rfl
        refine Within.wr ?_ (inScopes_of rfl)
        refine Within.set_engineTest ?_ (by decide)
        exact Within.refl _ _ _

theorem frame_poolStep (s : State) :
    Within [.page 0x10, .page 0x11] [.poolTest, .fes, .lanes] s (poolStep s) := by
  unfold Machine.poolStep
  split
  · exact Within.refl _ _ _
  · refine Within.ite ?_ ?_
    · exact Within.refl _ _ _
    · split
      · extract_lets x0
        refine Within.via x0 ?_ (fun h1 => ?_)
        · unfold x0
          refine Within.wr ?_ (inScopes_of rfl)
          refine Within.set_poolTest ?_ (by decide)
          exact Within.refl _ _ _
        · clear_value x0
          refine Within.then ?_ (frame_setTestResult _ _ _) rfl rfl
          exact h1
      · refine Within.ite ?_ ?_
        · refine Within.then ?_ (frame_setTestResult _ _ _) rfl rfl
          refine Within.then ?_ (frame_modLane _ _ _) rfl rfl
          refine Within.set_poolTest ?_ (by decide)
          exact Within.refl _ _ _
        · split
          · exact Within.refl _ _ _
          · refine Within.ite ?_ ?_
            · refine Within.then ?_ (frame_setTestResult _ _ _) rfl rfl
              exact Within.refl _ _ _
            · extract_lets x2
              refine Within.via x2 ?_ (fun h3 => ?_)
              · unfold x2
                refine Within.then ?_ (frame_modLane _ _ _) rfl rfl
                exact Within.refl _ _ _
              · clear_value x2
                refine Within.then ?_ (frame_setTestResult _ _ _) rfl rfl
                refine Within.then ?_ (frame_modLane _ _ _) rfl rfl
                refine Within.set_poolTest ?_ (by decide)
                exact h3

theorem frame_payDebt (s : State) :
    Within [.word 0x5 0x14, .page 0x10, .page 0x11] [.fes, .lanes, .poolTest] s (payDebt s) := by
  unfold Machine.payDebt
  split
  · exact Within.refl _ _ _
  · refine Within.ite ?_ ?_
    · refine Within.then ?_ (frame_substitute _ _) rfl rfl
      refine Within.set_laneDebt ?_ (by decide)
      exact Within.refl _ _ _
    · exact Within.refl _ _ _

theorem frame_rollSwap (a0 : Nat) (s : State) :
    Within [.page 0x10, .page 0x11] [.fes, .lanes, .fw] s (rollSwap a0 s) := by
  induction a0 generalizing s with | zero => ?_ | succ n ih => ?_
  · unfold Machine.rollSwap
    exact Within.refl _ _ _
  · unfold Machine.rollSwap
    split
    · extract_lets x0 x1 x2
      refine Within.via x0 ?_ (fun h3 => ?_)
      · unfold x0
        refine Within.then ?_ (frame_modLane _ _ _) rfl rfl
        exact Within.refl _ _ _
      · clear_value x0
        refine Within.via x1 ?_ (fun h4 => ?_)
        · unfold x1
          refine Within.then ?_ (frame_modLane _ _ _) rfl rfl
          exact h3
        · clear_value x1
          refine Within.trans ?_ (ih _)
          refine Within.set_fw ?_ (by decide)
          exact h4
    · exact Within.refl _ _ _

theorem frame_rollAlone (s : State) :
    Within [.page 0x10, .page 0x11] [.fes, .lanes, .fw] s (rollAlone s) := by
  unfold Machine.rollAlone
  extract_lets x0
  split
  · refine Within.ite ?_ ?_
    · extract_lets x1 x2
      refine Within.via x1 ?_ (fun h3 => ?_)
      · unfold x1
        refine Within.then ?_ (frame_modLane _ _ _) rfl rfl
        exact Within.refl _ _ _
      · clear_value x1
        refine Within.set_fw ?_ (by decide)
        exact h3
    · exact Within.refl _ _ _
  · exact Within.refl _ _ _

theorem frame_rollStep (s : State) :
    Within [.page 0x10, .page 0x11, .word 0x48 0x84] [.fes, .lanes, .fw] s (rollStep s) := by
  unfold Machine.rollStep
  refine Within.ite ?_ ?_
  · exact Within.refl _ _ _
  · extract_lets x0 x1 x2 x3 x4 x5 x6
    refine Within.via x0 ?_ (fun h7 => ?_)
    · unfold x0
      refine Within.then ?_ (frame_rollSwap _ _) rfl rfl
      exact Within.refl _ _ _
    · clear_value x0
      refine Within.via x3 ?_ (fun h8 => ?_)
      · unfold x3
        refine Within.set_fw ?_ (by decide)
        exact h7
      · clear_value x3
        refine Within.via x4 ?_ (fun h9 => ?_)
        · unfold x4
          refine Within.then ?_ (frame_rollAlone _) rfl rfl
          exact h8
        · clear_value x4
          refine Within.via x6 ?_ (fun h10 => ?_)
          · unfold x6
            refine Within.wr ?_ (inScopes_of rfl)
            refine Within.wr ?_ (inScopes_of rfl)
            exact h9
          · clear_value x6
            refine Within.ite ?_ ?_
            · refine Within.latch ?_ (inScopes_of rfl)
              refine Within.wr ?_ (inScopes_of rfl)
              refine Within.wr ?_ (inScopes_of rfl)
              exact h10
            · exact h10

theorem frame_switchBank (a0 : Nat) (s : State) :
    Within [.word 0x48 0x88] [.fw] s (switchBank a0 s) := by
  unfold Machine.switchBank
  refine Within.wr ?_ (inScopes_of rfl)
  refine Within.set_fw ?_ (by decide)
  exact Within.refl _ _ _

theorem frame_bankStep (s : State) :
    Within [.word 0x48 0x88] [.fw] s (bankStep s) := by
  unfold Machine.bankStep
  refine Within.foldl ?_ (fun _ _ _ h0 => ?_)
  · exact Within.refl _ _ _
  · extract_lets x1
    refine Within.ite ?_ ?_
    · refine Within.then ?_ (frame_switchBank _ _) rfl rfl
      exact h0
    · exact h0

theorem frame_relock (a0 : Nat) (s : State) :
    Within [.page 0x10, .word (0x8 + a0 % 4) 0x5c, .word (0x8 + a0 % 4) 0x4c] [.lanes, .fes] s (relock a0 s) := by
  unfold Machine.relock
  refine Within.after ?_ (frame_setRf _ _ _) (amongCons rfl (amongCons (by simp [Scope.among, fePage, schedPage, ethPage, ethStatPage]) (amongCons (by simp [Scope.among, fePage, schedPage, ethPage, ethStatPage]) amongNil))) rfl
  refine Within.then ?_ (frame_modFe _ _ _) rfl rfl
  exact Within.refl _ _ _

theorem frame_startRelief (a0 : Relief) (s : State) :
    Within [.word 0x8 0x14, .word 0x9 0x14, .word 0xa 0x14, .word 0xb 0x14, .word 0x8 0x30, .word 0x9 0x30, .word 0xa 0x30, .word 0xb 0x30, .word 0xb 0x50, .word 0x8 0x78, .word 0x9 0x78, .word 0xa 0x78, .word 0xb 0x78, .page 0x10, .word 0xb 0x5c, .word 0xb 0x4c] [.fes, .relief, .lanes] s (startRelief a0 s) := by
  unfold Machine.startRelief
  extract_lets x0 x1 x2 x3 x4
  refine Within.via x1 ?_ (fun h5 => ?_)
  · unfold x1
    refine Within.then ?_ (frame_modFe _ _ _) rfl rfl
    exact Within.refl _ _ _
  · clear_value x1
    refine Within.via x2 ?_ (fun h6 => ?_)
    · unfold x2
      refine Within.set_relief ?_ (by decide)
      exact h5
    · clear_value x2
      refine Within.via x3 ?_ (fun h7 => ?_)
      · unfold x3
        refine Within.latch ?_ (inScopes_of rfl)
        refine Within.wr ?_ (inScopes_of rfl)
        exact h6
      · clear_value x3
        refine Within.via x4 ?_ (fun h8 => ?_)
        · unfold x4
          refine Within.ite ?_ ?_
          · refine Within.after ?_ (frame_setTestResult _ _ _) (amongCons (amongW4 rfl) (amongCons (amongW4 rfl) amongNil)) rfl
            exact h7
          · refine Within.ite ?_ ?_
            · refine Within.wr ?_ (inScopes_of (amongW4 rfl))
              exact h7
            · exact h7
        · clear_value x4
          refine Within.ite ?_ ?_
          · refine Within.then ?_ (frame_relock _ _) rfl rfl
            exact h8
          · refine Within.then ?_ (frame_startCals _ _ _ _) rfl rfl
            exact h8

theorem frame_serveRelief (s : State) :
    Within [.page 0x10, .word 0xb 0x5c, .word 0xb 0x4c, .word 0x8 0x14, .word 0x9 0x14, .word 0xa 0x14, .word 0xb 0x14, .word 0x8 0x30, .word 0x9 0x30, .word 0xa 0x30, .word 0xb 0x30, .word 0xb 0x50, .word 0x8 0x78, .word 0x9 0x78, .word 0xa 0x78, .word 0xb 0x78] [.lanes, .fes, .relief] s (serveRelief s) := by
  unfold Machine.serveRelief
  split
  · exact Within.refl _ _ _
  · refine Within.ite ?_ ?_
    · exact Within.refl _ _ _
    · extract_lets x0
      refine Within.via x0 ?_ (fun h1 => ?_)
      · unfold x0
        refine Within.set_reliefQueue ?_ (by decide)
        exact Within.refl _ _ _
      · clear_value x0
        refine Within.ite ?_ ?_
        · refine Within.then ?_ (frame_startCals _ _ _ _) rfl rfl
          exact h1
        · refine Within.then ?_ (frame_startRelief _ _) rfl rfl
          exact h1

theorem frame_airWork (s : State) :
    Within [.page 0x31, .page 0x10, .page 0x11, .word 0x5 0x14, .word 0x48 0x84, .word 0x48 0x88, .word 0xb 0x5c, .word 0xb 0x4c, .word 0x8 0x14, .word 0x9 0x14, .word 0xa 0x14, .word 0xb 0x14, .word 0x8 0x30, .word 0x9 0x30, .word 0xa 0x30, .word 0xb 0x30, .word 0xb 0x50, .word 0x8 0x78, .word 0x9 0x78, .word 0xa 0x78, .word 0xb 0x78, .page 0x1b, .word 0x20 0xdc, .word 0x20 0xd8, .word 0x20 0xd4, .word 0x20 0xd0, .word 0x19 0xa4, .word 0x19 0xa8, .word 0x19 0xac, .word 0x19 0xb0, .word 0x19 0xb4, .word 0x19 0xb8, .word 0x8 0x5c, .word 0x9 0x5c, .word 0xa 0x5c, .word 0x8 0x4c, .word 0x9 0x4c, .word 0xa 0x4c, .word 0x4c 0x14, .word 0x4c 0x50, .word 0x4c 0x4c, .word 0x4c 0x48, .word 0x4c 0x44, .page 0x41, .page 0x24, .page 0x25, .page 0x26, .page 0x27, .word 0x21 0x50, .word 0x21 0x4c, .word 0xc 0x14, .word 0xc 0x4c, .page 0x29] [.engines, .poolTest, .fes, .lanes, .fw, .relief, .nodes, .ddr, .ledger, .notices, .rings, .frames, .frameNumbers, .scheds, .duty, .campaigns] s (airWork s) := by
  unfold Machine.airWork
  refine Within.ite ?_ ?_
  · exact Within.refl _ _ _
  · extract_lets x0 x1 x2 x3 x4 x5 x6 x7 x8
    refine Within.via x7 ?_ (fun h9 => ?_)
    · unfold x7
      refine Within.then ?_ (frame_sweepFrames _) rfl rfl
      refine Within.then ?_ (frame_followDissem _) rfl rfl
      exact Within.refl _ _ _
    · clear_value x7
      refine Within.via x8 ?_ (fun h10 => ?_)
      · unfold x8
        refine Within.foldl ?_ (fun _ _ _ h11 => ?_)
        · exact h9
        · refine Within.after ?_ (frame_unrelievedStep _ _) (amongCons rfl (amongCons (amongW4 rfl) (amongCons (amongW4 rfl) amongNil))) rfl
          refine Within.after ?_ (frame_retuneStep _ _) (amongCons rfl (amongCons rfl (amongCons rfl (amongCons rfl (amongCons rfl (amongCons rfl (amongCons rfl (amongCons rfl (amongCons rfl (amongCons rfl (amongCons rfl (amongCons rfl (amongCons rfl (amongCons rfl (amongCons rfl (amongCons rfl (amongCons (amongW4 rfl) (amongCons (amongW4 rfl) amongNil)))))))))))))))))) rfl
          exact h11
      · clear_value x8
        refine Within.then ?_ (frame_fcryptoStep _) rfl rfl
        refine Within.then ?_ (frame_poolStep _) rfl rfl
        refine Within.then ?_ (frame_payDebt _) rfl rfl
        refine Within.then ?_ (frame_rollStep _) rfl rfl
        refine Within.then ?_ (frame_bankStep _) rfl rfl
        refine Within.then ?_ (frame_serveRelief _) rfl rfl
        refine Within.then ?_ (frame_laneStep _) rfl rfl
        exact h10

theorem frame_countForced (a0 : Nat) (s : State) :
    Within [.word 0x4e 0x6c] [.boot] s (countForced a0 s) := by
  unfold Machine.countForced
  refine Within.ite ?_ ?_
  · extract_lets x0 x1 x2
    refine Within.via x2 ?_ (fun h3 => ?_)
    · unfold x2
      refine Within.ite ?_ ?_
      · refine Within.set_boot ?_ (by decide)
        exact Within.refl _ _ _
      · refine Within.set_boot ?_ (by decide)
        exact Within.refl _ _ _
    · clear_value x2
      refine Within.wr ?_ (inScopes_of rfl)
      exact h3
  · exact Within.refl _ _ _

theorem frame_leaveCamp (a0 : Bool) (s : State) :
    Within [] [.boot] s (leaveCamp a0 s) := by
  unfold Machine.leaveCamp
  refine Within.ite ?_ ?_
  · refine Within.set_boot ?_ (by decide)
    exact Within.refl _ _ _
  · exact Within.refl _ _ _

theorem frame_relive (a0 : Nat) (a1 : Nat) (s : State) :
    Within [.word a0 0x14, .word a0 0x10] [] s (relive a0 a1 s) := by
  unfold Machine.relive
  refine Within.ite ?_ ?_
  · exact Within.refl _ _ _
  · refine Within.latchBits ?_ (inScopes_of (by simp [Scope.among, fePage, schedPage, ethPage, ethStatPage, F.HEAD.EVT_LATCH]))
    refine Within.orBits ?_ (inScopes_of (by simp [Scope.among, fePage, schedPage, ethPage, ethStatPage, F.HEAD.EVT_RAW]))
    exact Within.refl _ _ _

theorem frame_fromCheckpoint (s : State) :
    Within [.page 0x5] [] s (fromCheckpoint s) := by
  unfold Machine.fromCheckpoint
  extract_lets x0
  refine Within.foldl ?_ (fun _ _ _ h1 => ?_)
  · refine Within.wr ?_ (inScopes_of rfl)
    exact Within.refl _ _ _
  · refine Within.wr ?_ (inScopes_of rfl)
    exact h1

theorem frame_showLanes (s : State) :
    Within [.page 0x11] [] s (showLanes s) := by
  unfold Machine.showLanes
  extract_lets x0 x1 x2
  refine Within.via x1 ?_ (fun h3 => ?_)
  · unfold x1
    refine Within.foldl ?_ (fun _ _ _ h4 => ?_)
    · exact Within.refl _ _ _
    · refine Within.wr ?_ (inScopes_of rfl)
      exact h4
  · clear_value x1
    refine Within.wr ?_ (inScopes_of rfl)
    refine Within.wr ?_ (inScopes_of rfl)
    refine Within.wr ?_ (inScopes_of rfl)
    exact h3

theorem frame_holdRetired (s : State) :
    Within [.word 0x8 0x4c, .word 0x9 0x4c, .word 0xa 0x4c, .word 0xb 0x4c, .word 0x8 0xc, .word 0x9 0xc, .word 0xa 0xc, .word 0xb 0xc, .page 0x31, .page 0x11, .word 0x48 0x78] [] s (holdRetired s) := by
  unfold Machine.holdRetired
  extract_lets x0 x1 x2 x3 x4
  refine Within.via x0 ?_ (fun h5 => ?_)
  · unfold x0
    refine Within.then ?_ (frame_showLanes _) rfl rfl
    exact Within.refl _ _ _
  · clear_value x0
    refine Within.via x1 ?_ (fun h6 => ?_)
    · unfold x1
      refine Within.foldl ?_ (fun _ _ _ h7 => ?_)
      · exact h5
      · refine Within.ite ?_ ?_
        · refine Within.wr ?_ (inScopes_of rfl)
          exact h7
        · exact h7
    · clear_value x1
      refine Within.via x2 ?_ (fun h8 => ?_)
      · unfold x2
        refine Within.ite ?_ ?_
        · exact h6
        · refine Within.wr ?_ (inScopes_of rfl)
          exact h6
      · clear_value x2
        refine Within.via x3 ?_ (fun h9 => ?_)
        · unfold x3
          refine Within.ite ?_ ?_
          · refine Within.wr ?_ (inScopes_of rfl)
            exact h8
          · exact h8
        · clear_value x3
          refine Within.via x4 ?_ (fun h10 => ?_)
          · unfold x4
            refine Within.ite ?_ ?_
            · refine Within.wr ?_ (inScopes_of rfl)
              exact h9
            · exact h9
          · clear_value x4
            refine Within.foldl ?_ (fun _ _ _ h11 => ?_)
            · exact h10
            · refine Within.ite ?_ ?_
              · refine Within.wr ?_ (inScopes_of (amongW4 rfl))
                refine Within.wr ?_ (inScopes_of (amongW4 rfl))
                exact h11
              · exact h11

theorem frame_showKept (s : State) :
    Within [.word 0x4a 0x50, .word 0x30 0xb0, .word 0x30 0x84, .page 0x31, .word 0x46 0x70, .word 0x44 0x50, .word 0x30 0x88] [] s (showKept s) := by
  unfold Machine.showKept
  extract_lets x0 x1 x2 x3 x4
  refine Within.via x0 ?_ (fun h5 => ?_)
  · unfold x0
    refine Within.wr ?_ (inScopes_of rfl)
    refine Within.wr ?_ (inScopes_of rfl)
    exact Within.refl _ _ _
  · clear_value x0
    refine Within.via x1 ?_ (fun h6 => ?_)
    · unfold x1
      refine Within.foldl ?_ (fun _ _ _ h7 => ?_)
      · exact h5
      · refine Within.wr ?_ (inScopes_of rfl)
        exact h7
    · clear_value x1
      refine Within.via x2 ?_ (fun h8 => ?_)
      · unfold x2
        refine Within.ite ?_ ?_
        · exact h6
        · refine Within.wr ?_ (inScopes_of rfl)
          refine Within.wr ?_ (inScopes_of rfl)
          exact h6
      · clear_value x2
        refine Within.via x3 ?_ (fun h9 => ?_)
        · unfold x3
          refine Within.wr ?_ (inScopes_of rfl)
          refine Within.wr ?_ (inScopes_of rfl)
          exact h8
        · clear_value x3
          refine Within.via x4 ?_ (fun h10 => ?_)
          · unfold x4
            refine Within.wr ?_ (inScopes_of rfl)
            exact h9
          · clear_value x4
            refine Within.wr ?_ (inScopes_of rfl)
            exact h10

theorem frame_showWear (s : State) :
    Within [.word 0x5 0x14] [] s (showWear s) := by
  unfold Machine.showWear
  extract_lets x0 x1 x2 x3
  refine Within.via x3 ?_ (fun h4 => ?_)
  · unfold x3
    refine Within.wrFollow ?_ (by decide)
    refine Within.wrFollow ?_ (by decide)
    exact Within.refl _ _ _
  · clear_value x3
    refine Within.ite ?_ ?_
    · refine Within.logCairn ?_
      refine Within.latch ?_ (inScopes_of rfl)
      exact h4
    · exact h4

theorem frame_setOffset (a0 : ℤ) (s : State) :
    Within [.word 0x3c 0xb0, .word 0x3c 0xb4] [.clock] s (setOffset a0 s) := by
  unfold Machine.setOffset
  extract_lets x0
  refine Within.via x0 ?_ (fun h1 => ?_)
  · unfold x0
    refine Within.then ?_ (frame_modClock _ _) rfl rfl
    exact Within.refl _ _ _
  · clear_value x0
    refine Within.wr ?_ (inScopes_of rfl)
    refine Within.wr ?_ (inScopes_of rfl)
    exact h1

theorem frame_resumeTime (a0 : Nat) (a1 : Bool) (s : State) :
    Within [.word 0x3c 0x70, .word 0x3c 0xb0, .word 0x3c 0xb4, .word 0x3c 0x40, .word 0x3c 0x44, .word 0x3c 0x14] [.clock] s (resumeTime a0 a1 s) := by
  unfold Machine.resumeTime
  refine Within.ite ?_ ?_
  · extract_lets x0 x1
    refine Within.via x0 ?_ (fun h2 => ?_)
    · unfold x0
      refine Within.wr ?_ (inScopes_of rfl)
      refine Within.wr ?_ (inScopes_of rfl)
      exact Within.refl _ _ _
    · clear_value x0
      refine Within.via x1 ?_ (fun h3 => ?_)
      · unfold x1
        refine Within.wr ?_ (inScopes_of rfl)
        refine Within.then ?_ (frame_setOffset _ _) rfl rfl
        exact h2
      · clear_value x1
        refine Within.ite ?_ ?_
        · exact h3
        · refine Within.latch ?_ (inScopes_of rfl)
          refine Within.wr ?_ (inScopes_of rfl)
          refine Within.wr ?_ (inScopes_of rfl)
          exact h3
  · exact Within.refl _ _ _

theorem frame_closeLock (s : State) :
    Within [.word 0x80 0x0] [.root] s (closeLock s) := by
  unfold Machine.closeLock
  refine Within.wr ?_ (inScopes_of rfl)
  refine Within.wr ?_ (inScopes_of rfl)
  refine Within.set_root ?_ (by decide)
  exact Within.refl _ _ _

theorem frame_resetLock (s : State) :
    Within [.word 0x80 0x0] [.root] s (resetLock s) := by
  unfold Machine.resetLock
  refine Within.ite ?_ ?_
  · refine Within.wr ?_ (inScopes_of rfl)
    refine Within.wr ?_ (inScopes_of rfl)
    refine Within.set_root ?_ (by decide)
    exact Within.refl _ _ _
  · refine Within.then ?_ (frame_closeLock _) rfl rfl
    exact Within.refl _ _ _

theorem frame_setLifecycle (a0 : Nat) (s : State) :
    Within [.word 0x0 0x58, .word 0x30 0xbc] [] s (setLifecycle a0 s) := by
  unfold Machine.setLifecycle
  refine Within.wr ?_ (inScopes_of rfl)
  refine Within.wr ?_ (inScopes_of rfl)
  exact Within.refl _ _ _

theorem frame_draw (s : State) :
    Within [] [.draws] s ((draw s).2) := by
  unfold Machine.draw
  dsimp only
  refine Within.set_draws ?_ (by decide)
  exact Within.refl _ _ _

theorem frame_addCause (a0 : Nat) (s : State) :
    Within [.word 0x4e 0x64] [] s (addCause a0 s) := by
  unfold Machine.addCause
  refine Within.orBits ?_ (inScopes_of rfl)
  exact Within.refl _ _ _

theorem frame_beginStart (s : State) :
    Within [.word 0x0 0x58, .word 0x30 0xbc, .page 0x80, .page 0x4e, .word 0x3 0x14] [.root, .draws, .watch, .boot] s (beginStart s) := by
  unfold Machine.beginStart
  extract_lets x0 x1 x2 x3 x4 x5 x6 x7 x8 x9 x10 x11 x12 x13 x14 x15 x16 x17 x18
  refine Within.via x4 ?_ (fun h19 => ?_)
  · unfold x4
    refine Within.upd (by (try dsimp only) <;> exact rfl) (fun p hp => by cases p <;> first | rfl | exact ⟨rfl, rfl⟩ | exact ⟨rfl, rfl, rfl⟩ | exact absurd (by decide) hp) ?_
    exact Within.refl _ _ _
  · clear_value x4
    refine Within.via x5 ?_ (fun h20 => ?_)
    · unfold x5
      refine Within.logCairn ?_
      exact h19
    · clear_value x5
      refine Within.via x6 ?_ (fun h21 => ?_)
      · unfold x6
        refine Within.foldl ?_ (fun _ _ _ h22 => ?_)
        · exact h20
        · refine Within.queueRecord ?_
          exact h22
      · clear_value x6
        refine Within.via x8 ?_ (fun h23 => ?_)
        · unfold x8
          refine Within.ite ?_ ?_
          · exact h21
          · refine Within.latch ?_ (inScopes_of rfl)
            exact h21
        · clear_value x8
          refine Within.via x9 ?_ (fun h24 => ?_)
          · unfold x9
            refine Within.ite ?_ ?_
            · exact h23
            · refine Within.latch ?_ (inScopes_of rfl)
              exact h23
          · clear_value x9
            refine Within.via x10 ?_ (fun h25 => ?_)
            · unfold x10
              refine Within.ite ?_ ?_
              · exact h24
              · refine Within.latch ?_ (inScopes_of rfl)
                exact h24
            · clear_value x10
              refine Within.via x11 ?_ (fun h26 => ?_)
              · unfold x11
                refine Within.ite ?_ ?_
                · refine Within.ite ?_ ?_
                  · refine Within.latch ?_ (inScopes_of rfl)
                    exact h25
                  · exact h25
                · exact h21
              · clear_value x11
                refine Within.via x12 ?_ (fun h27 => ?_)
                · unfold x12
                  unfold Machine.drawWords
                  refine Within.foldl ?_ (fun _ _ _ h28 => ?_)
                  · refine Within.foldl ?_ (fun _ _ _ h29 => ?_)
                    · exact h26
                    · generalize e30 : Machine.draw _ = p31
                      obtain ⟨_, _⟩ := p31
                      dsimp only
                      refine Within.viaEq ?_ e30 (fun h32 => ?_)
                      · refine Within.then ?_ (frame_draw _) rfl rfl
                        exact h29
                      · refine Within.wr ?_ (inScopes_of rfl)
                        exact h32
                  · generalize e33 : Machine.draw _ = p34
                    obtain ⟨_, _⟩ := p34
                    dsimp only
                    refine Within.viaEq ?_ e33 (fun h35 => ?_)
                    · refine Within.then ?_ (frame_draw _) rfl rfl
                      exact h28
                    · refine Within.wr ?_ (inScopes_of rfl)
                      exact h35
                · clear_value x12
                  refine Within.via x13 ?_ (fun h36 => ?_)
                  · unfold x13
                    refine Within.then ?_ (frame_resetLock _) rfl rfl
                    refine Within.then ?_ (frame_setLifecycle _ _) rfl rfl
                    exact h27
                  · clear_value x13
                    refine Within.via x14 ?_ (fun h37 => ?_)
                    · unfold x14
                      refine Within.ite ?_ ?_
                      · refine Within.then ?_ (frame_addCause _ _) rfl rfl
                        exact h36
                      · exact h36
                    · clear_value x14
                      refine Within.via x15 ?_ (fun h38 => ?_)
                      · unfold x15
                        refine Within.ite ?_ ?_
                        · refine Within.then ?_ (frame_addCause _ _) rfl rfl
                          exact h37
                        · exact h37
                      · clear_value x15
                        refine Within.via x16 ?_ (fun h39 => ?_)
                        · unfold x16
                          refine Within.ite ?_ ?_
                          · refine Within.then ?_ (frame_addCause _ _) rfl rfl
                            exact h38
                          · exact h38
                        · clear_value x16
                          refine Within.via x17 ?_ (fun h40 => ?_)
                          · unfold x17
                            refine Within.ite ?_ ?_
                            · refine Within.then ?_ (frame_addCause _ _) rfl rfl
                              exact h39
                            · exact h39
                          · clear_value x17
                            refine Within.via x18 ?_ (fun h41 => ?_)
                            · unfold x18
                              refine Within.ite ?_ ?_
                              · refine Within.then ?_ (frame_addCause _ _) rfl rfl
                                exact h40
                              · exact h40
                            · clear_value x18
                              refine Within.wr ?_ (inScopes_of rfl)
                              exact h41

theorem frame_withdrawReset (s : State) :
    Within [] [] s (withdrawReset s) := by
  unfold Machine.withdrawReset
  refine Within.set_cairn ?_
  exact Within.refl _ _ _

theorem frame_suppliesValid (a0 : Bool) (a1 : Bool) (a2 : Bool) (a3 : Bool) (s : State) :
    Within [.word 0x0 0x58, .word 0x30 0xbc, .page 0x80, .page 0x4e, .word 0x3 0x14, .word 0x2 0x58, .word 0x4a 0x50, .word 0x2 0x4c, .word 0x2 0x40] [.root, .draws, .watch, .boot, .rope] s (suppliesValid a0 a1 a2 a3 s) := by
  unfold Machine.suppliesValid
  refine Within.ite ?_ ?_
  · exact Within.refl _ _ _
  · extract_lets x0 x1 x2 x3 x4 x5 x6 x7 x8 x9
    refine Within.via x0 ?_ (fun h10 => ?_)
    · unfold x0
      refine Within.wr ?_ (inScopes_of rfl)
      exact Within.refl _ _ _
    · clear_value x0
      refine Within.via x1 ?_ (fun h11 => ?_)
      · unfold x1
        refine Within.ite ?_ ?_
        · refine Within.wr ?_ (inScopes_of rfl)
          exact h10
        · exact h10
      · clear_value x1
        refine Within.via x4 ?_ (fun h12 => ?_)
        · unfold x4
          refine Within.ite ?_ ?_
          · refine Within.upd (by (try dsimp only) <;> exact rfl) (fun p hp => by cases p <;> first | rfl | exact ⟨rfl, rfl⟩ | exact ⟨rfl, rfl, rfl⟩ | exact absurd (by decide) hp) ?_
            exact h11
          · exact h11
        · clear_value x4
          refine Within.via x6 ?_ (fun h13 => ?_)
          · unfold x6
            refine Within.set_watch ?_ (by decide)
            exact h12
          · clear_value x6
            refine Within.via x7 ?_ (fun h14 => ?_)
            · unfold x7
              refine Within.wr ?_ (inScopes_of rfl)
              exact h13
            · clear_value x7
              refine Within.via x9 ?_ (fun h15 => ?_)
              · unfold x9
                refine Within.wrBool ?_ (inScopes_of rfl)
                refine Within.set_boot ?_ (by decide)
                exact h14
              · clear_value x9
                refine Within.then ?_ (frame_beginStart _) rfl rfl
                exact h15

theorem frame_changeover (a0 : Bool) (s : State) :
    Within [] [.watch] s (changeover a0 s) := by
  unfold Machine.changeover
  refine Within.set_watch ?_ (by decide)
  exact Within.refl _ _ _

theorem frame_vbatCrossing (a0 : Nat) (s : State) :
    Within [.word 0x2 0x10, .word 0x2 0x14, .word 0x2 0x54] [] s (vbatCrossing a0 s) := by
  unfold Machine.vbatCrossing
  extract_lets x0 x1
  refine Within.via x1 ?_ (fun h2 => ?_)
  · unfold x1
    refine Within.wrBool ?_ (inScopes_of rfl)
    refine Within.wrBool ?_ (inScopes_of rfl)
    exact Within.refl _ _ _
  · clear_value x1
    refine Within.ite ?_ ?_
    · refine Within.raise ?_ (inScopes_of rfl) (inScopes_of rfl)
      exact h2
    · refine Within.lower ?_ (inScopes_of rfl)
      exact h2

theorem frame_vbatMeasure (a0 : Nat) (s : State) :
    Within [.word 0x2 0x54] [] s (vbatMeasure a0 s) := by
  unfold Machine.vbatMeasure
  refine Within.wr ?_ (inScopes_of rfl)
  exact Within.refl _ _ _

theorem frame_endCampaigns (a0 : EndReason) (s : State) :
    Within [.page 0x24, .page 0x25, .page 0x26, .page 0x27, .word 0x21 0x50, .word 0x21 0x4c, .page 0x1b, .word 0x20 0xdc, .word 0x20 0xd8, .word 0x20 0xd4, .word 0x20 0xd0, .word 0x19 0xb4, .word 0xc 0x14, .word 0xc 0x4c, .page 0x29, .page 0x10, .page 0x31, .word 0x8 0x5c, .word 0x9 0x5c, .word 0xa 0x5c, .word 0xb 0x5c, .word 0x8 0x4c, .word 0x9 0x4c, .word 0xa 0x4c, .word 0xb 0x4c] [.frameNumbers, .nodes, .ddr, .ledger, .scheds, .fes, .duty, .frames, .campaigns, .lanes] s (endCampaigns a0 s) := by
  unfold Machine.endCampaigns
  refine Within.foldl ?_ (fun _ _ _ h0 => ?_)
  · exact Within.refl _ _ _
  · refine Within.ite ?_ ?_
    · refine Within.then ?_ (frame_endCampaign _ _ _) rfl rfl
      exact h0
    · exact h0

theorem frame_restAs (a0 : Nat) (a1 : Nat) (s : State) :
    Within [.page 0x10, .word (0x8 + a0 % 4) 0x5c, .word (0x8 + a0 % 4) 0x4c] [.lanes, .fes] s (restAs a0 a1 s) := by
  unfold Machine.restAs
  refine Within.ite ?_ ?_
  · exact Within.refl _ _ _
  · refine Within.after ?_ (frame_setRf _ _ _) (amongCons rfl (amongCons (by simp [Scope.among, fePage, schedPage, ethPage, ethStatPage]) (amongCons (by simp [Scope.among, fePage, schedPage, ethPage, ethStatPage]) amongNil))) rfl
    exact Within.refl _ _ _

theorem frame_reliefBroken (a0 : Relief) (s : State) :
    Within [.word 0x8 0x14, .word 0x9 0x14, .word 0xa 0x14, .word 0xb 0x14, .word 0x8 0x30, .word 0x9 0x30, .word 0xa 0x30, .word 0xb 0x30, .page 0x10, .word 0x8 0x5c, .word 0x9 0x5c, .word 0xa 0x5c, .word 0xb 0x5c, .word 0x8 0x4c, .word 0x9 0x4c, .word 0xa 0x4c, .word 0xb 0x4c, .word 0x8 0x78, .word 0x9 0x78, .word 0xa 0x78, .word 0xb 0x78] [.lanes, .fes, .relief] s (reliefBroken a0 s) := by
  unfold Machine.reliefBroken
  refine Within.ite ?_ ?_
  · extract_lets x0 x1
    refine Within.via x0 ?_ (fun h2 => ?_)
    · unfold x0
      refine Within.ite ?_ ?_
      · refine Within.after ?_ (frame_setRf _ _ _) (amongCons rfl (amongCons (amongW4 rfl) (amongCons (amongW4 rfl) amongNil))) rfl
        exact Within.refl _ _ _
      · exact Within.refl _ _ _
    · clear_value x0
      refine Within.via x1 ?_ (fun h3 => ?_)
      · unfold x1
        refine Within.ite ?_ ?_
        · refine Within.after ?_ (frame_setTestResult _ _ _) (amongCons (amongW4 rfl) (amongCons (amongW4 rfl) amongNil)) rfl
          exact h2
        · refine Within.ite ?_ ?_
          · refine Within.wr ?_ (inScopes_of (amongW4 rfl))
            exact h2
          · exact h2
      · clear_value x1
        refine Within.set_reliefQueue ?_ (by decide)
        exact h3
  · exact Within.refl _ _ _

theorem frame_dropRelief (s : State) :
    Within [.word 0xb 0x14, .word 0xb 0x4c, .word 0xb 0x50] [.relief] s (dropRelief s) := by
  unfold Machine.dropRelief
  refine Within.latch ?_ (inScopes_of rfl)
  refine Within.wr ?_ (inScopes_of rfl)
  refine Within.wr ?_ (inScopes_of rfl)
  refine Within.set_relief ?_ (by decide)
  exact Within.refl _ _ _

theorem frame_rest3 (s : State) :
    Within [.page 0x10, .word 0xb 0x5c, .word 0xb 0x4c] [.fes, .lanes] s (rest3 s) := by
  unfold Machine.rest3
  refine Within.ite ?_ ?_
  · exact Within.refl _ _ _
  · refine Within.ite ?_ ?_
    · refine Within.then ?_ (frame_modFe _ _ _) rfl rfl
      exact Within.refl _ _ _
    · refine Within.then ?_ (frame_setRf _ _ _) rfl rfl
      exact Within.refl _ _ _

theorem frame_freeFe3 (s : State) :
    Within [.page 0x10, .word 0xb 0x5c, .word 0xb 0x4c, .word 0xb 0x14, .word 0xb 0x50] [.fes, .lanes, .relief] s (freeFe3 s) := by
  unfold Machine.freeFe3
  refine Within.then ?_ (frame_rest3 _) rfl rfl
  refine Within.then ?_ (frame_dropRelief _) rfl rfl
  refine Within.then ?_ (frame_modFe _ _ _) rfl rfl
  exact Within.refl _ _ _

theorem frame_reliefStopped (a0 : Nat) (s : State) :
    Within [.word 0x8 0x14, .word 0x9 0x14, .word 0xa 0x14, .word 0xb 0x14, .word 0x8 0x30, .word 0x9 0x30, .word 0xa 0x30, .word 0xb 0x30, .page 0x10, .word 0x8 0x5c, .word 0x9 0x5c, .word 0xa 0x5c, .word 0xb 0x5c, .word 0x8 0x4c, .word 0x9 0x4c, .word 0xa 0x4c, .word 0xb 0x4c, .word 0x8 0x78, .word 0x9 0x78, .word 0xa 0x78, .word 0xb 0x78, .word 0xb 0x50, .page 0x11, .page 0x31, .page 0x1b, .word 0x20 0xdc, .word 0x20 0xd8, .word 0x20 0xd4, .word 0x20 0xd0, .word 0x19 0xa4, .word 0x19 0xa8, .word 0x19 0xac, .word 0x19 0xb0, .word 0x19 0xb4, .word 0x19 0xb8, .page 0x24, .page 0x25, .page 0x26, .page 0x27, .word 0x21 0x50, .word 0x21 0x4c] [.lanes, .fes, .relief, .nodes, .ddr, .ledger, .scheds, .duty, .frames] s (reliefStopped a0 s) := by
  unfold Machine.reliefStopped
  split
  · refine Within.ite ?_ ?_
    · refine Within.then ?_ (frame_reliefBroken _ _) rfl rfl
      refine Within.then ?_ (frame_dropRelief _) rfl rfl
      exact Within.refl _ _ _
    · refine Within.ite ?_ ?_
      · refine Within.then ?_ (frame_freeFe3 _) rfl rfl
        refine Within.then ?_ (frame_endLanes _ _ _) rfl rfl
        refine Within.then ?_ (frame_cutTx _ _ _) rfl rfl
        exact Within.refl _ _ _
      · exact Within.refl _ _ _
  · exact Within.refl _ _ _

theorem frame_dropNeeds (a0 : Nat) (a1 : Nat) (s : State) :
    Within [.word (0x8 + a0 % 4) 0x78, .word (0x8 + a0 % 4) 0x14, .word (0x8 + a0 % 4) 0x30, .word (0x8 + a0 % 4) 0x4c] [.fes, .relief] s (dropNeeds a0 a1 s) := by
  unfold Machine.dropNeeds
  extract_lets x0 x1 x2 x3 x4
  refine Within.via x0 ?_ (fun h5 => ?_)
  · unfold x0
    refine Within.set_reliefQueue ?_ (by decide)
    exact Within.refl _ _ _
  · clear_value x0
    refine Within.via x1 ?_ (fun h6 => ?_)
    · unfold x1
      refine Within.then ?_ (frame_modFe _ _ _) rfl rfl
      exact h5
    · clear_value x1
      refine Within.via x2 ?_ (fun h7 => ?_)
      · unfold x2
        refine Within.wr ?_ (inScopes_at 0 rfl)
        refine Within.wr ?_ (inScopes_at 0 rfl)
        refine Within.wr ?_ (inScopes_at 0 rfl)
        exact h6
      · clear_value x2
        refine Within.via x3 ?_ (fun h8 => ?_)
        · unfold x3
          refine Within.wr ?_ (inScopes_at 3 rfl)
          exact h7
        · clear_value x3
          refine Within.via x4 ?_ (fun h9 => ?_)
          · unfold x4
            refine Within.ite ?_ ?_
            · refine Within.after ?_ (frame_setTestResult _ _ _) (amongCons (amongAt 1 rfl) (amongCons (amongAt 2 rfl) amongNil)) rfl
              exact h8
            · exact h8
          · clear_value x4
            refine Within.ite ?_ ?_
            · refine Within.wr ?_ (inScopes_at 0 rfl)
              exact h9
            · exact h9

theorem frame_feStops (a0 : Nat) (a1 : Nat) (s : State) :
    Within [.page 0x10, .word 0x8 0x14, .word 0x9 0x14, .word 0xa 0x14, .word 0xb 0x14, .word 0x8 0x30, .word 0x9 0x30, .word 0xa 0x30, .word 0xb 0x30, .word 0x8 0x5c, .word 0x9 0x5c, .word 0xa 0x5c, .word 0xb 0x5c, .word 0x8 0x4c, .word 0x9 0x4c, .word 0xa 0x4c, .word 0xb 0x4c, .word 0x8 0x78, .word 0x9 0x78, .word 0xa 0x78, .word 0xb 0x78, .word 0xb 0x50, .page 0x11, .page 0x31, .page 0x1b, .word 0x20 0xdc, .word 0x20 0xd8, .word 0x20 0xd4, .word 0x20 0xd0, .word 0x19 0xa4, .word 0x19 0xa8, .word 0x19 0xac, .word 0x19 0xb0, .word 0x19 0xb4, .word 0x19 0xb8, .page 0x24, .page 0x25, .page 0x26, .page 0x27, .word 0x21 0x50, .word 0x21 0x4c, .word (0x8 + a0 % 4) 0x5c, .word (0x8 + a0 % 4) 0x4c, .word (0x8 + a0 % 4) 0x78, .word (0x8 + a0 % 4) 0x14, .word (0x8 + a0 % 4) 0x30] [.lanes, .fes, .relief, .nodes, .ddr, .ledger, .scheds, .duty, .frames] s (feStops a0 a1 s) := by
  unfold Machine.feStops
  refine Within.then ?_ (frame_refreshListen _) rfl rfl
  refine Within.after ?_ (frame_restAs _ _ _) (amongCons rfl (amongCons (amongW4 rfl) (amongCons (amongW4 rfl) amongNil))) rfl
  refine Within.then ?_ (frame_reliefStopped _ _) rfl rfl
  refine Within.after ?_ (frame_dropNeeds _ _ _) (amongCons (amongW4 rfl) (amongCons (amongW4 rfl) (amongCons (amongW4 rfl) (amongCons (amongW4 rfl) amongNil)))) rfl
  exact Within.refl _ _ _

theorem frame_restFe (a0 : Nat) (a1 : Nat) (s : State) :
    Within [.page 0x10, .word 0x8 0x14, .word 0x9 0x14, .word 0xa 0x14, .word 0xb 0x14, .word 0x8 0x30, .word 0x9 0x30, .word 0xa 0x30, .word 0xb 0x30, .word 0x8 0x5c, .word 0x9 0x5c, .word 0xa 0x5c, .word 0xb 0x5c, .word 0x8 0x4c, .word 0x9 0x4c, .word 0xa 0x4c, .word 0xb 0x4c, .word 0x8 0x78, .word 0x9 0x78, .word 0xa 0x78, .word 0xb 0x78, .word 0xb 0x50, .page 0x11, .page 0x31, .page 0x1b, .word 0x20 0xdc, .word 0x20 0xd8, .word 0x20 0xd4, .word 0x20 0xd0, .word 0x19 0xa4, .word 0x19 0xa8, .word 0x19 0xac, .word 0x19 0xb0, .word 0x19 0xb4, .word 0x19 0xb8, .page 0x24, .page 0x25, .page 0x26, .page 0x27, .word 0x21 0x50, .word 0x21 0x4c] [.lanes, .fes, .relief, .nodes, .ddr, .ledger, .scheds, .duty, .frames] s (restFe a0 a1 s) := by
  unfold Machine.restFe
  split
  · refine Within.after ?_ (frame_feStops _ _ _) (amongCons rfl (amongCons rfl (amongCons rfl (amongCons rfl (amongCons rfl (amongCons rfl (amongCons rfl (amongCons rfl (amongCons rfl (amongCons rfl (amongCons rfl (amongCons rfl (amongCons rfl (amongCons rfl (amongCons rfl (amongCons rfl (amongCons rfl (amongCons rfl (amongCons rfl (amongCons rfl (amongCons rfl (amongCons rfl (amongCons rfl (amongCons rfl (amongCons rfl (amongCons rfl (amongCons rfl (amongCons rfl (amongCons rfl (amongCons rfl (amongCons rfl (amongCons rfl (amongCons rfl (amongCons rfl (amongCons rfl (amongCons rfl (amongCons rfl (amongCons rfl (amongCons rfl (amongCons rfl (amongCons rfl (amongCons (amongW4 rfl) (amongCons (amongW4 rfl) (amongCons (amongW4 rfl) (amongCons (amongW4 rfl) (amongCons (amongW4 rfl) amongNil)))))))))))))))))))))))))))))))))))))))))))))) rfl
    exact Within.refl _ _ _
  · exact Within.refl _ _ _

theorem frame_showPause (a0 : Nat) (s : State) :
    Within [.word (0x38 + a0 % 2) 0x74, .word (0x38 + a0 % 2) 0x70] [] s (showPause a0 s) := by
  unfold Machine.showPause
  extract_lets x0 x1 x2
  refine Within.via x1 ?_ (fun h3 => ?_)
  · unfold x1
    refine Within.wrBool ?_ (inScopes_of (by simp [Scope.among, fePage, schedPage, ethPage, ethStatPage, F.ETH.STATUS_PAUSE_RX_ACTIVE]))
    refine Within.wrBool ?_ (inScopes_of (by simp [Scope.among, fePage, schedPage, ethPage, ethStatPage, F.ETH.STATUS_PAUSE_TX_ACTIVE]))
    exact Within.refl _ _ _
  · clear_value x1
    refine Within.via x2 ?_ (fun h4 => ?_)
    · unfold x2
      refine Within.wrBool ?_ (inScopes_of (by simp [Scope.among, fePage, schedPage, ethPage, ethStatPage, F.ETH.STATUS_PAUSED_BY_PEER]))
      exact h3
    · clear_value x2
      refine Within.wr ?_ (inScopes_of (by simp [Scope.among, fePage, schedPage, ethPage, ethStatPage, F.ETH.PAUSE_REMAIN]))
      exact h4

theorem frame_modPort (a0 : Nat) (a1 : Port → Port) (s : State) :
    Within [] [.ports] s (modPort a0 a1 s) := by
  unfold Machine.modPort
  refine Within.set_ports ?_ (by decide)
  exact Within.refl _ _ _

theorem frame_endEgress (a0 : Egress) (a1 : Disp) (s : State) :
    Within [.word 0x4c 0x14, .word 0x4c 0x50, .word 0x4c 0x4c, .word 0x4c 0x48, .word 0x4c 0x44, .page 0x41, .page 0x1b, .word 0x20 0xdc, .word 0x20 0xd8, .word 0x20 0xd4, .word 0x20 0xd0] [.notices, .rings, .ddr, .nodes, .ledger] s (endEgress a0 a1 s) := by
  unfold Machine.endEgress
  extract_lets x0
  refine Within.via x0 ?_ (fun h1 => ?_)
  · unfold x0
    refine Within.then ?_ (frame_rxStat _ _ _) rfl rfl
    refine Within.then ?_ (frame_closeAll _ _ _) rfl rfl
    exact Within.refl _ _ _
  · clear_value x0
    split
    · refine Within.then ?_ (frame_returnSlot _ _ _ _ _) rfl rfl
      exact h1
    · exact h1

theorem frame_rmonAdd (a0 : Nat) (a1 : Nat) (a2 : Nat) (s : State) :
    Within [.page (0x3a + a0 % 2)] [.ports] s (rmonAdd a0 a1 a2 s) := by
  unfold Machine.rmonAdd
  extract_lets x0 x1 x2 x3 x4
  refine Within.via x3 ?_ (fun h5 => ?_)
  · unfold x3
    refine Within.then ?_ (frame_modPort _ _ _) rfl rfl
    exact Within.refl _ _ _
  · clear_value x3
    refine Within.via x4 ?_ (fun h6 => ?_)
    · unfold x4
      refine Within.wr ?_ (inScopes_of (by simp [Scope.among, fePage, schedPage, ethPage, ethStatPage, F.ETHSTAT.COUNTER_LO]))
      exact h5
    · clear_value x4
      refine Within.ite ?_ ?_
      · exact h6
      · refine Within.latch ?_ (inScopes_of (by simp [Scope.among, fePage, schedPage, ethPage, ethStatPage, F.HEAD.EVT_LATCH]))
        refine Within.ite ?_ ?_
        · refine Within.orBits ?_ (inScopes_of (by simp [Scope.among, fePage, schedPage, ethPage, ethStatPage, F.ETHSTAT.HALF_WHICH0]))
          exact h6
        · refine Within.orBits ?_ (inScopes_of (by simp [Scope.among, fePage, schedPage, ethPage, ethStatPage, F.ETHSTAT.HALF_WHICH1]))
          exact h6

theorem frame_rmon (a0 : Nat) (a1 : Nat) (s : State) :
    Within [.page (0x3a + a0 % 2)] [.ports] s (rmon a0 a1 s) := by
  unfold Machine.rmon
  refine Within.after ?_ (frame_rmonAdd _ _ _ _) (amongCons (by simp [Scope.among, fePage, schedPage, ethPage, ethStatPage]) amongNil) rfl
  exact Within.refl _ _ _

theorem frame_abortAir (a0 : Nat) (a1 : Disp) (s : State) :
    Within [.word 0x4c 0x14, .word 0x4c 0x50, .word 0x4c 0x4c, .word 0x4c 0x48, .word 0x4c 0x44, .page 0x41, .page 0x1b, .word 0x20 0xdc, .word 0x20 0xd8, .word 0x20 0xd4, .word 0x20 0xd0, .page (0x3a + a0 % 2), .word (0x38 + a0 % 2) 0xac] [.notices, .rings, .ddr, .nodes, .ledger, .ports] s (abortAir a0 a1 s) := by
  unfold Machine.abortAir
  split
  · extract_lets x0
    refine Within.via x0 ?_ (fun h1 => ?_)
    · unfold x0
      refine Within.then ?_ (frame_modPort _ _ _) rfl rfl
      exact Within.refl _ _ _
    · clear_value x0
      refine Within.then ?_ (frame_endEgress _ _ _) rfl rfl
      refine Within.after ?_ (frame_rmon _ _ _) (amongCons (by simp [Scope.among, fePage, schedPage, ethPage, ethStatPage]) amongNil) rfl
      refine Within.inc ?_ (inScopes_of (by simp [Scope.among, fePage, schedPage, ethPage, ethStatPage, F.ETH.TX_ABORTED]))
      exact h1
  · refine Within.then ?_ (frame_modPort _ _ _) rfl rfl
    exact Within.refl _ _ _

theorem frame_refreshLink (a0 : Nat) (s : State) :
    Within [.word 0x4c 0x14, .word 0x4c 0x50, .word 0x4c 0x4c, .word 0x4c 0x48, .word 0x4c 0x44, .page 0x41, .page 0x1b, .word 0x20 0xdc, .word 0x20 0xd8, .word 0x20 0xd4, .word 0x20 0xd0, .word (0x38 + a0 % 2) 0x74, .word (0x38 + a0 % 2) 0x70, .word (0x38 + a0 % 2) 0x14, .word (0x38 + a0 % 2) 0x78, .page (0x3a + a0 % 2), .word (0x38 + a0 % 2) 0xac] [.ports, .notices, .rings, .ddr, .nodes, .ledger] s (refreshLink a0 s) := by
  unfold Machine.refreshLink
  extract_lets x0 x1 x2 x3 x4 x5
  refine Within.via x2 ?_ (fun h6 => ?_)
  · unfold x2
    refine Within.wr ?_ (inScopes_at 12 rfl)
    exact Within.refl _ _ _
  · clear_value x2
    refine Within.via x3 ?_ (fun h7 => ?_)
    · unfold x3
      refine Within.wr ?_ (inScopes_at 12 rfl)
      exact h6
    · clear_value x3
      refine Within.via x4 ?_ (fun h8 => ?_)
      · unfold x4
        refine Within.latch ?_ (inScopes_at 13 rfl)
        refine Within.incSat ?_ (inScopes_at 14 rfl)
        refine Within.wrBool ?_ (inScopes_at 12 rfl)
        exact h7
      · clear_value x4
        refine Within.via x5 ?_ (fun h9 => ?_)
        · unfold x5
          refine Within.then ?_ (frame_pushNotice _ _ _) rfl rfl
          exact h8
        · clear_value x5
          refine Within.ite ?_ ?_
          · refine Within.after ?_ (frame_showPause _ _) (amongCons (amongAt 11 rfl) (amongCons (amongAt 12 rfl) amongNil)) rfl
            exact h7
          · refine Within.ite ?_ ?_
            · refine Within.after ?_ (frame_showPause _ _) (amongCons (amongAt 11 rfl) (amongCons (amongAt 12 rfl) amongNil)) rfl
              refine Within.then ?_ (frame_modPort _ _ _) rfl rfl
              exact h9
            · refine Within.after ?_ (frame_showPause _ _) (amongCons (amongAt 11 rfl) (amongCons (amongAt 12 rfl) amongNil)) rfl
              refine Within.after ?_ (frame_abortAir _ _ _) (amongCons rfl (amongCons rfl (amongCons rfl (amongCons rfl (amongCons rfl (amongCons rfl (amongCons rfl (amongCons rfl (amongCons rfl (amongCons rfl (amongCons rfl (amongCons (amongAt 15 rfl) (amongCons (amongAt 16 rfl) amongNil))))))))))))) rfl
              refine Within.then ?_ (frame_modPort _ _ _) rfl rfl
              exact h9

theorem frame_ppsOutEnd (s : State) :
    Within [] [.clock] s (ppsOutEnd s) := by
  unfold Machine.ppsOutEnd
  refine Within.then ?_ (frame_modClock _ _) rfl rfl
  exact Within.refl _ _ _

theorem frame_setRole (a0 : Nat) (s : State) :
    Within [.word 0x4a 0x14, .word 0x4a 0x50] [] s (setRole a0 s) := by
  unfold Machine.setRole
  extract_lets x0 x1
  refine Within.via x1 ?_ (fun h2 => ?_)
  · unfold x1
    refine Within.wr ?_ (inScopes_of rfl)
    refine Within.wrBool ?_ (inScopes_of rfl)
    exact Within.refl _ _ _
  · clear_value x1
    refine Within.ite ?_ ?_
    · refine Within.latch ?_ (inScopes_of rfl)
      exact h2
    · exact h2

theorem frame_belayStop (s : State) :
    Within [.word 0x4a 0x58, .word 0x4a 0x14, .word 0x4a 0x50] [.rope] s (belayStop s) := by
  unfold Machine.belayStop
  extract_lets x0 x1
  refine Within.via x0 ?_ (fun h2 => ?_)
  · unfold x0
    refine Within.wr ?_ (inScopes_of rfl)
    refine Within.wr ?_ (inScopes_of rfl)
    refine Within.wr ?_ (inScopes_of rfl)
    exact Within.refl _ _ _
  · clear_value x0
    refine Within.via x1 ?_ (fun h3 => ?_)
    · unfold x1
      refine Within.then ?_ (frame_modRope _ _) rfl rfl
      exact h2
    · clear_value x1
      refine Within.ite ?_ ?_
      · refine Within.then ?_ (frame_setRole _ _) rfl rfl
        exact h3
      · exact h3

theorem frame_stopped (a0 : Nat) (s : State) :
    Within [.page 0x10, .word 0x8 0x14, .word 0x9 0x14, .word 0xa 0x14, .word 0xb 0x14, .word 0x8 0x30, .word 0x9 0x30, .word 0xa 0x30, .word 0xb 0x30, .word 0x8 0x5c, .word 0x9 0x5c, .word 0xa 0x5c, .word 0xb 0x5c, .word 0x8 0x4c, .word 0x9 0x4c, .word 0xa 0x4c, .word 0xb 0x4c, .word 0x8 0x78, .word 0x9 0x78, .word 0xa 0x78, .word 0xb 0x78, .word 0xb 0x50, .page 0x11, .page 0x31, .page 0x1b, .word 0x20 0xdc, .word 0x20 0xd8, .word 0x20 0xd4, .word 0x20 0xd0, .word 0x19 0xa4, .word 0x19 0xa8, .word 0x19 0xac, .word 0x19 0xb0, .word 0x19 0xb4, .word 0x19 0xb8, .page 0x24, .page 0x25, .page 0x26, .page 0x27, .word 0x21 0x50, .word 0x21 0x4c, .word 0x4c 0x14, .word 0x4c 0x50, .word 0x4c 0x4c, .word 0x4c 0x48, .word 0x4c 0x44, .page 0x41, .word 0x38 0x74, .word 0x39 0x74, .word 0x38 0x70, .word 0x39 0x70, .word 0x38 0x14, .word 0x39 0x14, .word 0x38 0x78, .word 0x39 0x78, .page 0x3a, .page 0x3b, .word 0x38 0xac, .word 0x39 0xac, .word 0x4a 0x58, .word 0x4a 0x14, .word 0x4a 0x50] [.lanes, .fes, .relief, .nodes, .ddr, .ledger, .scheds, .duty, .frames, .ports, .notices, .rings, .clock, .rope] s (stopped a0 s) := by
  unfold Machine.stopped
  split
  · refine Within.then ?_ (frame_restFe _ _ _) rfl rfl
    exact Within.refl _ _ _
  · refine Within.then ?_ (frame_restFe _ _ _) rfl rfl
    exact Within.refl _ _ _
  · refine Within.then ?_ (frame_restFe _ _ _) rfl rfl
    exact Within.refl _ _ _
  · refine Within.then ?_ (frame_restFe _ _ _) rfl rfl
    exact Within.refl _ _ _
  · refine Within.then ?_ (frame_refreshLink _ _) rfl rfl
    refine Within.then ?_ (frame_modPort _ _ _) rfl rfl
    exact Within.refl _ _ _
  · refine Within.then ?_ (frame_refreshLink _ _) rfl rfl
    refine Within.then ?_ (frame_modPort _ _ _) rfl rfl
    exact Within.refl _ _ _
  · refine Within.then ?_ (frame_ppsOutEnd _) rfl rfl
    exact Within.refl _ _ _
  · refine Within.then ?_ (frame_belayStop _) rfl rfl
    exact Within.refl _ _ _
  · exact Within.refl _ _ _

theorem frame_setPageState (a0 : Nat) (a1 : Nat) (s : State) :
    Within [.word a0 0x14, .word a0 0xc] [] s (setPageState a0 a1 s) := by
  unfold Machine.setPageState
  refine Within.ite ?_ ?_
  · exact Within.refl _ _ _
  · refine Within.latch ?_ (inScopes_of (by simp [Scope.among, fePage, schedPage, ethPage, ethStatPage, F.HEAD.EVT_LATCH]))
    refine Within.wr ?_ (inScopes_of (by simp [Scope.among, fePage, schedPage, ethPage, ethStatPage, F.HEAD.STATE_STATE]))
    exact Within.refl _ _ _

theorem frame_toStopped (a0 : Nat) (a1 : Bool) (s : State) :
    Within [.page 0x10, .word 0x8 0x14, .word 0x9 0x14, .word 0xa 0x14, .word 0xb 0x14, .word 0x8 0x30, .word 0x9 0x30, .word 0xa 0x30, .word 0xb 0x30, .word 0x8 0x5c, .word 0x9 0x5c, .word 0xa 0x5c, .word 0xb 0x5c, .word 0x8 0x4c, .word 0x9 0x4c, .word 0xa 0x4c, .word 0xb 0x4c, .word 0x8 0x78, .word 0x9 0x78, .word 0xa 0x78, .word 0xb 0x78, .word 0xb 0x50, .page 0x11, .page 0x31, .page 0x1b, .word 0x20 0xdc, .word 0x20 0xd8, .word 0x20 0xd4, .word 0x20 0xd0, .word 0x19 0xa4, .word 0x19 0xa8, .word 0x19 0xac, .word 0x19 0xb0, .word 0x19 0xb4, .word 0x19 0xb8, .page 0x24, .page 0x25, .page 0x26, .page 0x27, .word 0x21 0x50, .word 0x21 0x4c, .word 0x4c 0x14, .word 0x4c 0x50, .word 0x4c 0x4c, .word 0x4c 0x48, .word 0x4c 0x44, .page 0x41, .word 0x38 0x74, .word 0x39 0x74, .word 0x38 0x70, .word 0x39 0x70, .word 0x38 0x14, .word 0x39 0x14, .word 0x38 0x78, .word 0x39 0x78, .page 0x3a, .page 0x3b, .word 0x38 0xac, .word 0x39 0xac, .word 0x4a 0x58, .word 0x4a 0x14, .word 0x4a 0x50, .word a0 0xc, .word a0 0x14] [.lanes, .fes, .relief, .nodes, .ddr, .ledger, .scheds, .duty, .frames, .ports, .notices, .rings, .clock, .rope] s (toStopped a0 a1 s) := by
  unfold Machine.toStopped
  refine Within.then ?_ (frame_stopped _ _) rfl rfl
  refine Within.wrBool ?_ (inScopes_at 62 rfl)
  refine Within.after ?_ (frame_setPageState _ _ _) (amongCons (amongAt 63 rfl) (amongCons (amongAt 62 rfl) amongNil)) rfl
  exact Within.refl _ _ _

theorem frame_refundBuckets (a0 : Nat) (a1 : Nat) (a2 : Nat) (s : State) :
    Within [.page (0x24 + a0 % 4)] [] s (refundBuckets a0 a1 a2 s) := by
  unfold Machine.refundBuckets
  extract_lets x0 x1
  refine Within.via x1 ?_ (fun h2 => ?_)
  · unfold x1
    refine Within.ite ?_ ?_
    · exact Within.refl _ _ _
    · refine Within.wrInt ?_ (inScopes_of (by simp [Scope.among, fePage, schedPage, ethPage, ethStatPage, F.SCHED.Q_LEVEL_C]))
      exact Within.refl _ _ _
  · clear_value x1
    refine Within.ite ?_ ?_
    · exact h2
    · refine Within.wrInt ?_ (inScopes_of (by simp [Scope.among, fePage, schedPage, ethPage, ethStatPage, F.SCHED.Q_LEVEL_P]))
      exact h2

theorem frame_requeueHead (a0 : Nat) (s : State) :
    Within [.page 0x24, .page 0x25, .page 0x26, .page 0x27] [.frames] s (requeueHead a0 s) := by
  unfold Machine.requeueHead
  extract_lets x0
  refine Within.via x0 ?_ (fun h1 => ?_)
  · unfold x0
    refine Within.then ?_ (frame_modFrame _ _ _) rfl rfl
    exact Within.refl _ _ _
  · clear_value x0
    split
    · refine Within.after ?_ (frame_recount _ _) (amongCons (amongP4 rfl) amongNil) rfl
      exact h1
    · exact h1

theorem frame_showBlind (a0 : Nat) (s : State) :
    Within [.word (0x24 + a0 % 4) 0x4c] [] s (showBlind a0 s) := by
  unfold Machine.showBlind
  refine Within.wr ?_ (inScopes_of (by simp [Scope.among, fePage, schedPage, ethPage, ethStatPage, F.SCHED.BLIND_USED]))
  exact Within.refl _ _ _

theorem frame_blindRefund (a0 : Nat) (a1 : Nat) (s : State) :
    Within [.word (0x24 + a0 % 4) 0x4c] [.scheds] s (blindRefund a0 a1 s) := by
  unfold Machine.blindRefund
  refine Within.after ?_ (frame_showBlind _ _) (amongCons (by simp [Scope.among, fePage, schedPage, ethPage, ethStatPage]) amongNil) rfl
  refine Within.then ?_ (frame_modSched _ _ _) rfl rfl
  exact Within.refl _ _ _

theorem frame_withdraw (a0 : Nat) (s : State) :
    Within [.page 0x24, .page 0x25, .page 0x26, .page 0x27] [.frames, .scheds, .fes, .duty] s (withdraw a0 s) := by
  unfold Machine.withdraw
  split
  · exact Within.refl _ _ _
  · extract_lets x0 x1 x2
    refine Within.via x1 ?_ (fun h3 => ?_)
    · unfold x1
      refine Within.after ?_ (frame_refundBuckets _ _ _ _) (amongCons (amongP4 rfl) amongNil) rfl
      exact Within.refl _ _ _
    · clear_value x1
      refine Within.via x2 ?_ (fun h4 => ?_)
      · unfold x2
        refine Within.ite ?_ ?_
        · refine Within.wr ?_ (inScopes_of (amongW4 rfl))
          exact h3
        · exact h3
      · clear_value x2
        refine Within.then ?_ (frame_requeueHead _ _) rfl rfl
        refine Within.then ?_ (frame_leaveCommitted _ _ _) rfl rfl
        refine Within.after ?_ (frame_blindRefund _ _ _) (amongCons (amongW4 rfl) amongNil) rfl
        refine Within.then ?_ (frame_dutyRelease _ _) rfl rfl
        exact h4

theorem frame_holdCommitted (a0 : Nat) (s : State) :
    Within [.page 0x24, .page 0x25, .page 0x26, .page 0x27] [.frames, .scheds, .fes, .duty] s (holdCommitted a0 s) := by
  unfold Machine.holdCommitted
  split
  · refine Within.ite ?_ ?_
    · exact Within.refl _ _ _
    · refine Within.then ?_ (frame_withdraw _ _) rfl rfl
      exact Within.refl _ _ _
  · exact Within.refl _ _ _

theorem frame_feForceStop (a0 : Nat) (s : State) :
    Within [.page 0x10, .word 0x8 0x14, .word 0x9 0x14, .word 0xa 0x14, .word 0xb 0x14, .word 0x8 0x30, .word 0x9 0x30, .word 0xa 0x30, .word 0xb 0x30, .word 0x8 0x5c, .word 0x9 0x5c, .word 0xa 0x5c, .word 0xb 0x5c, .word 0x8 0x4c, .word 0x9 0x4c, .word 0xa 0x4c, .word 0xb 0x4c, .word 0x8 0x78, .word 0x9 0x78, .word 0xa 0x78, .word 0xb 0x78, .word 0xb 0x50, .page 0x11, .page 0x31, .page 0x1b, .word 0x20 0xdc, .word 0x20 0xd8, .word 0x20 0xd4, .word 0x20 0xd0, .word 0x19 0xa4, .word 0x19 0xa8, .word 0x19 0xac, .word 0x19 0xb0, .word 0x19 0xb4, .word 0x19 0xb8, .page 0x24, .page 0x25, .page 0x26, .page 0x27, .word 0x21 0x50, .word 0x21 0x4c, .word (0x8 + a0 % 4) 0x5c, .word (0x8 + a0 % 4) 0x4c, .word (0x8 + a0 % 4) 0x78, .word (0x8 + a0 % 4) 0x14, .word (0x8 + a0 % 4) 0x30] [.lanes, .fes, .relief, .nodes, .ddr, .ledger, .scheds, .duty, .frames] s (feForceStop a0 s) := by
  unfold Machine.feForceStop
  extract_lets x0 x1 x2 x3 x4 x5 x6 x7 x8
  refine Within.via x7 ?_ (fun h9 => ?_)
  · unfold x7
    refine Within.after ?_ (frame_cutTx _ _ _) (amongCons rfl (amongCons rfl (amongCons rfl (amongCons rfl (amongCons rfl (amongCons rfl (amongCons rfl (amongCons rfl (amongCons rfl (amongCons rfl (amongCons rfl (amongCons rfl (amongCons rfl (amongCons rfl (amongCons (amongW4 rfl) (amongCons (amongW4 rfl) amongNil)))))))))))))))) rfl
    exact Within.refl _ _ _
  · clear_value x7
    refine Within.via x8 ?_ (fun h10 => ?_)
    · unfold x8
      refine Within.then ?_ (frame_endLanes _ _ _) rfl rfl
      exact h9
    · clear_value x8
      refine Within.after ?_ (frame_feStops _ _ _) (amongCons rfl (amongCons rfl (amongCons rfl (amongCons rfl (amongCons rfl (amongCons rfl (amongCons rfl (amongCons rfl (amongCons rfl (amongCons rfl (amongCons rfl (amongCons rfl (amongCons rfl (amongCons rfl (amongCons rfl (amongCons rfl (amongCons rfl (amongCons rfl (amongCons rfl (amongCons rfl (amongCons rfl (amongCons rfl (amongCons rfl (amongCons rfl (amongCons rfl (amongCons rfl (amongCons rfl (amongCons rfl (amongCons rfl (amongCons rfl (amongCons rfl (amongCons rfl (amongCons rfl (amongCons rfl (amongCons rfl (amongCons rfl (amongCons rfl (amongCons rfl (amongCons rfl (amongCons rfl (amongCons rfl (amongCons (amongW4 rfl) (amongCons (amongW4 rfl) (amongCons (amongW4 rfl) (amongCons (amongW4 rfl) (amongCons (amongW4 rfl) amongNil)))))))))))))))))))))))))))))))))))))))))))))) rfl
      refine Within.then ?_ (frame_holdCommitted _ _) rfl rfl
      exact h10

theorem frame_withdrawFor (a0 : Nat) (s : State) :
    Within [.page 0x24, .page 0x25, .page 0x26, .page 0x27] [.frames, .scheds, .fes, .duty] s (withdrawFor a0 s) := by
  unfold Machine.withdrawFor
  split
  · refine Within.then ?_ (frame_holdCommitted _ _) rfl rfl
    exact Within.refl _ _ _
  · refine Within.ite ?_ ?_
    · refine Within.foldl ?_ (fun _ _ _ h0 => ?_)
      · exact Within.refl _ _ _
      · refine Within.then ?_ (frame_holdCommitted _ _) rfl rfl
        exact h0
    · exact Within.refl _ _ _

theorem frame_macForceStop (s : State) :
    Within [.page 0x10, .page 0x11, .page 0x31, .page 0x1b, .word 0x20 0xdc, .word 0x20 0xd8, .word 0x20 0xd4, .word 0x20 0xd0, .word 0x19 0xa4, .word 0x19 0xa8, .word 0x19 0xac, .word 0x19 0xb0, .word 0x19 0xb4, .word 0x19 0xb8] [.lanes, .fes, .nodes, .ddr, .ledger] s (macForceStop s) := by
  unfold Machine.macForceStop
  refine Within.then ?_ (frame_endLanes _ _ _) rfl rfl
  exact Within.refl _ _ _

theorem frame_beaconForceStop (s : State) :
    Within [.page 0x24, .page 0x25, .page 0x26, .page 0x27, .word 0x21 0x50, .word 0x21 0x4c, .page 0x1b, .word 0x20 0xdc, .word 0x20 0xd8, .word 0x20 0xd4, .word 0x20 0xd0, .word 0x19 0xb4, .page 0x10, .page 0x31, .word 0x8 0x5c, .word 0x9 0x5c, .word 0xa 0x5c, .word 0xb 0x5c, .word 0x8 0x4c, .word 0x9 0x4c, .word 0xa 0x4c, .word 0xb 0x4c] [.nodes, .ddr, .ledger, .scheds, .fes, .duty, .frames, .lanes] s (beaconForceStop s) := by
  unfold Machine.beaconForceStop
  extract_lets x0 x1
  refine Within.via x1 ?_ (fun h2 => ?_)
  · unfold x1
    refine Within.foldl ?_ (fun _ _ _ h3 => ?_)
    · exact Within.refl _ _ _
    · split
      · split
        · refine Within.ite ?_ ?_
          · refine Within.after ?_ (frame_cutTx _ _ _) (amongCons rfl (amongCons rfl (amongCons rfl (amongCons rfl (amongCons rfl (amongCons rfl (amongCons rfl (amongCons rfl (amongCons rfl (amongCons rfl (amongCons rfl (amongCons rfl (amongCons rfl (amongCons rfl (amongCons (amongW4 rfl) (amongCons (amongW4 rfl) amongNil)))))))))))))))) rfl
            exact h3
          · exact h3
        · exact h3
      · exact h3
  · clear_value x1
    refine Within.then ?_ (frame_endFrames _ _ _) rfl rfl
    exact h2

theorem frame_nodeResult (a0 : Nat) (a1 : Nat) (a2 : Nat) (s : State) :
    Within [.word 0x20 0x58] [] s (nodeResult a0 a1 a2 s) := by
  unfold Machine.nodeResult
  extract_lets x0
  refine Within.via x0 ?_ (fun h1 => ?_)
  · unfold x0
    refine Within.wr ?_ (inScopes_of rfl)
    refine Within.wr ?_ (inScopes_of rfl)
    exact Within.refl _ _ _
  · clear_value x0
    refine Within.wr ?_ (inScopes_of rfl)
    refine Within.wr ?_ (inScopes_of rfl)
    exact h1

theorem frame_nodeForceStop (s : State) :
    Within [.word 0x20 0x58] [] s (nodeForceStop s) := by
  unfold Machine.nodeForceStop
  refine Within.ite ?_ ?_
  · extract_lets x0
    refine Within.via x0 ?_ (fun h1 => ?_)
    · unfold x0
      refine Within.set_rereads ?_
      exact Within.refl _ _ _
    · clear_value x0
      refine Within.then ?_ (frame_nodeResult _ _ _ _) rfl rfl
      exact h1
  · exact Within.refl _ _ _

theorem frame_endPacket (a0 : Packet) (a1 : Disp) (s : State) :
    Within [.word 0x4c 0x14, .word 0x4c 0x50, .word 0x4c 0x4c, .word 0x4c 0x48, .word 0x4c 0x44, .page 0x41, .page 0x1b, .word 0x20 0xdc, .word 0x20 0xd8, .word 0x20 0xd4, .word 0x20 0xd0] [.notices, .rings, .ddr, .nodes, .ledger] s (endPacket a0 a1 s) := by
  unfold Machine.endPacket
  extract_lets x0
  refine Within.via x0 ?_ (fun h1 => ?_)
  · unfold x0
    refine Within.then ?_ (frame_rxStat _ _ _) rfl rfl
    refine Within.then ?_ (frame_closeAll _ _ _) rfl rfl
    exact Within.refl _ _ _
  · clear_value x0
    split
    · refine Within.then ?_ (frame_returnSlot _ _ _ _ _) rfl rfl
      exact h1
    · exact h1

theorem frame_fwdForceStop (s : State) :
    Within [.word 0x4c 0x14, .word 0x4c 0x50, .word 0x4c 0x4c, .word 0x4c 0x48, .word 0x4c 0x44, .page 0x41, .page 0x1b, .word 0x20 0xdc, .word 0x20 0xd8, .word 0x20 0xd4, .word 0x20 0xd0] [.notices, .rings, .ddr, .nodes, .ledger] s (fwdForceStop s) := by
  unfold Machine.fwdForceStop
  extract_lets x0
  refine Within.foldl ?_ (fun _ _ _ h1 => ?_)
  · refine Within.set_rereads ?_
    exact Within.refl _ _ _
  · split
    · refine Within.then ?_ (frame_endPacket _ _ _) rfl rfl
      exact h1
    · refine Within.set_rereads ?_
      exact h1

theorem frame_endItem (a0 : Item) (a1 : Disp) (s : State) :
    Within [.page 0x1b, .word 0x20 0xdc, .word 0x20 0xd8, .word 0x20 0xd4, .word 0x20 0xd0] [.nodes, .ddr, .ledger] s (endItem a0 a1 s) := by
  unfold Machine.endItem
  refine Within.then ?_ (frame_rxStat _ _ _) rfl rfl
  refine Within.then ?_ (frame_closeAll _ _ _) rfl rfl
  exact Within.refl _ _ _

theorem frame_countReasm (s : State) :
    Within [.word 0x22 0x58, .word 0x22 0x54, .word 0x22 0x50] [] s (countReasm s) := by
  unfold Machine.countReasm
  extract_lets x0 x1 x2 x3
  refine Within.via x3 ?_ (fun h4 => ?_)
  · unfold x3
    refine Within.peak ?_ (inScopes_of rfl)
    refine Within.wr ?_ (inScopes_of rfl)
    exact Within.refl _ _ _
  · clear_value x3
    refine Within.ite ?_ ?_
    · refine Within.wr ?_ (inScopes_of rfl)
      exact h4
    · exact h4

theorem frame_endReasm (s : State) :
    Within [.page 0x1b, .word 0x20 0xdc, .word 0x20 0xd8, .word 0x20 0xd4, .word 0x20 0xd0, .word 0x22 0x58, .word 0x22 0x54, .word 0x22 0x50] [.nodes, .ddr, .ledger, .reasm] s (endReasm s) := by
  unfold Machine.endReasm
  extract_lets x0
  refine Within.foldl ?_ (fun _ _ _ h1 => ?_)
  · refine Within.then ?_ (frame_countReasm _) rfl rfl
    refine Within.set_reasm ?_ (by decide)
    exact Within.refl _ _ _
  · refine Within.then ?_ (frame_endItem _ _ _) rfl rfl
    exact h1

theorem frame_schedForceStop (a0 : Nat) (s : State) :
    Within [.page 0x24, .page 0x25, .page 0x26, .page 0x27, .word 0x21 0x50, .word 0x21 0x4c, .page 0x1b, .word 0x20 0xdc, .word 0x20 0xd8, .word 0x20 0xd4, .word 0x20 0xd0, .word 0x19 0xb4] [.nodes, .ddr, .ledger, .scheds, .fes, .duty, .frames] s (schedForceStop a0 s) := by
  unfold Machine.schedForceStop
  extract_lets x0
  refine Within.via x0 ?_ (fun h1 => ?_)
  · unfold x0
    refine Within.then ?_ (frame_endFrames _ _ _) rfl rfl
    exact Within.refl _ _ _
  · clear_value x0
    refine Within.then ?_ (frame_endFrames _ _ _) rfl rfl
    exact h1

theorem frame_dissemResult (a0 : Nat) (a1 : Nat) (s : State) :
    Within [.word 0x29 0x50] [] s (dissemResult a0 a1 s) := by
  unfold Machine.dissemResult
  refine Within.wr ?_ (inScopes_of rfl)
  refine Within.wr ?_ (inScopes_of rfl)
  refine Within.wr ?_ (inScopes_of rfl)
  exact Within.refl _ _ _

theorem frame_dissemForceStop (s : State) :
    Within [.page 0x24, .page 0x25, .page 0x26, .page 0x27, .word 0x21 0x50, .word 0x21 0x4c, .page 0x1b, .word 0x20 0xdc, .word 0x20 0xd8, .word 0x20 0xd4, .word 0x20 0xd0, .word 0x19 0xb4, .word 0xc 0x14, .word 0xc 0x4c, .page 0x29, .page 0x10, .page 0x31, .word 0x8 0x5c, .word 0x9 0x5c, .word 0xa 0x5c, .word 0xb 0x5c, .word 0x8 0x4c, .word 0x9 0x4c, .word 0xa 0x4c, .word 0xb 0x4c] [.frameNumbers, .nodes, .ddr, .ledger, .scheds, .fes, .duty, .frames, .campaigns, .lanes] s (dissemForceStop s) := by
  unfold Machine.dissemForceStop
  extract_lets x0 x1
  refine Within.via x1 ?_ (fun h2 => ?_)
  · unfold x1
    refine Within.ite ?_ ?_
    · refine Within.then ?_ (frame_dissemResult _ _ _) rfl rfl
      refine Within.ite ?_ ?_
      · refine Within.then ?_ (frame_setCState _ _ _) rfl rfl
        exact Within.refl _ _ _
      · exact Within.refl _ _ _
    · exact Within.refl _ _ _
  · clear_value x1
    refine Within.then ?_ (frame_endCampaigns _ _) rfl rfl
    exact h2

theorem frame_loadStatus (a0 : Bool) (a1 : Nat) (a2 : Nat) (s : State) :
    Within [.word 0x30 0xb8, .word 0x80 0x1034] [] s (loadStatus a0 a1 a2 s) := by
  unfold Machine.loadStatus
  extract_lets x0
  refine Within.via x0 ?_ (fun h1 => ?_)
  · unfold x0
    refine Within.wrBool ?_ (inScopes_of rfl)
    refine Within.wr ?_ (inScopes_of rfl)
    refine Within.wr ?_ (inScopes_of rfl)
    exact Within.refl _ _ _
  · clear_value x0
    refine Within.wr ?_ (inScopes_of rfl)
    exact h1

theorem frame_loadEnd (a0 : Nat) (a1 : Nat) (s : State) :
    Within [.word 0x4c 0x14, .word 0x4c 0x50, .word 0x4c 0x4c, .word 0x4c 0x48, .word 0x4c 0x44, .word 0x30 0x14, .page 0x80, .word 0x30 0xb8] [.notices, .keyOp] s (loadEnd a0 a1 s) := by
  unfold Machine.loadEnd
  extract_lets x0 x1
  refine Within.via x0 ?_ (fun h2 => ?_)
  · unfold x0
    refine Within.then ?_ (frame_loadStatus _ _ _ _) rfl rfl
    refine Within.set_keyOp ?_ (by decide)
    exact Within.refl _ _ _
  · clear_value x0
    refine Within.via x1 ?_ (fun h3 => ?_)
    · unfold x1
      refine Within.foldl ?_ (fun _ _ _ h4 => ?_)
      · exact h2
      · refine Within.wr ?_ (inScopes_of rfl)
        exact h4
    · clear_value x1
      refine Within.then ?_ (frame_pushNotice _ _ _) rfl rfl
      refine Within.latch ?_ (inScopes_of rfl)
      exact h3

theorem frame_keysForceStop (s : State) :
    Within [.word 0x4c 0x14, .word 0x4c 0x50, .word 0x4c 0x4c, .word 0x4c 0x48, .word 0x4c 0x44, .word 0x30 0x14, .page 0x80, .word 0x30 0xb8] [.notices, .keyOp] s (keysForceStop s) := by
  unfold Machine.keysForceStop
  split
  · refine Within.then ?_ (frame_loadEnd _ _ _) rfl rfl
    exact Within.refl _ _ _
  · exact Within.refl _ _ _

theorem frame_ccmEnd (a0 : Nat) (s : State) :
    Within [.word 0x4c 0x14, .word 0x4c 0x50, .word 0x4c 0x4c, .word 0x4c 0x48, .word 0x4c 0x44, .page 0x31] [.notices, .jobs] s (ccmEnd a0 s) := by
  unfold Machine.ccmEnd
  extract_lets x0
  refine Within.via x0 ?_ (fun h1 => ?_)
  · unfold x0
    refine Within.then ?_ (frame_freeEngine _ _) rfl rfl
    exact Within.refl _ _ _
  · clear_value x0
    refine Within.then ?_ (frame_pushNotice _ _ _) rfl rfl
    refine Within.wr ?_ (inScopes_of rfl)
    refine Within.wr ?_ (inScopes_of rfl)
    refine Within.set_ccmJob ?_ (by decide)
    exact h1

theorem frame_fcryptoForceStop (s : State) :
    Within [.page 0x24, .page 0x25, .page 0x26, .page 0x27, .word 0x21 0x50, .word 0x21 0x4c, .page 0x1b, .word 0x20 0xdc, .word 0x20 0xd8, .word 0x20 0xd4, .word 0x20 0xd0, .word 0x19 0xb4, .page 0x10, .page 0x31, .word 0x8 0x5c, .word 0x9 0x5c, .word 0xa 0x5c, .word 0xb 0x5c, .word 0x8 0x4c, .word 0x9 0x4c, .word 0xa 0x4c, .word 0xb 0x4c, .page 0x11, .word 0x19 0xa4, .word 0x19 0xa8, .word 0x19 0xac, .word 0x19 0xb0, .word 0x19 0xb8, .word 0x4c 0x14, .word 0x4c 0x50, .word 0x4c 0x4c, .word 0x4c 0x48, .word 0x4c 0x44] [.nodes, .ddr, .ledger, .scheds, .fes, .duty, .frames, .lanes, .notices, .jobs] s (fcryptoForceStop s) := by
  unfold Machine.fcryptoForceStop
  extract_lets x0 x1 x2 x3 x4 x5 x6 x7 x8
  refine Within.via x7 ?_ (fun h9 => ?_)
  · unfold x7
    refine Within.then ?_ (frame_endLanes _ _ _) rfl rfl
    exact Within.refl _ _ _
  · clear_value x7
    refine Within.via x8 ?_ (fun h10 => ?_)
    · unfold x8
      refine Within.foldl ?_ (fun _ _ _ h11 => ?_)
      · exact h9
      · refine Within.ite ?_ ?_
        · refine Within.after ?_ (frame_cutTx _ _ _) (amongCons rfl (amongCons rfl (amongCons rfl (amongCons rfl (amongCons rfl (amongCons rfl (amongCons rfl (amongCons rfl (amongCons rfl (amongCons rfl (amongCons rfl (amongCons rfl (amongCons rfl (amongCons rfl (amongCons (amongW4 rfl) (amongCons (amongW4 rfl) amongNil)))))))))))))))) rfl
          exact h11
        · exact h11
    · clear_value x8
      refine Within.ite ?_ ?_
      · refine Within.then ?_ (frame_ccmEnd _ _) rfl rfl
        exact h10
      · exact h10

theorem frame_sciEnd (a0 : Nat) (s : State) :
    Within [.word 0x4c 0x14, .word 0x4c 0x50, .word 0x4c 0x4c, .word 0x4c 0x48, .word 0x4c 0x44, .word 0x32 0x14, .word 0x32 0xa8] [.notices, .jobs] s (sciEnd a0 s) := by
  unfold Machine.sciEnd
  extract_lets x0
  refine Within.via x0 ?_ (fun h1 => ?_)
  · unfold x0
    refine Within.wr ?_ (inScopes_of rfl)
    refine Within.wr ?_ (inScopes_of rfl)
    refine Within.set_sciJob ?_ (by decide)
    exact Within.refl _ _ _
  · clear_value x0
    refine Within.then ?_ (frame_pushNotice _ _ _) rfl rfl
    refine Within.latch ?_ (inScopes_of rfl)
    exact h1

theorem frame_scipherForceStop (s : State) :
    Within [.word 0x4c 0x14, .word 0x4c 0x50, .word 0x4c 0x4c, .word 0x4c 0x48, .word 0x4c 0x44, .word 0x32 0x14, .word 0x32 0xa8] [.notices, .jobs] s (scipherForceStop s) := by
  unfold Machine.scipherForceStop
  refine Within.ite ?_ ?_
  · refine Within.then ?_ (frame_sciEnd _ _) rfl rfl
    exact Within.refl _ _ _
  · exact Within.refl _ _ _

theorem frame_pkeEnd (a0 : Nat) (a1 : List Nat) (s : State) :
    Within [.word 0x4c 0x14, .word 0x4c 0x50, .word 0x4c 0x4c, .word 0x4c 0x48, .word 0x4c 0x44, .page 0x33] [.notices, .jobs] s (pkeEnd a0 a1 s) := by
  unfold Machine.pkeEnd
  extract_lets x0 x1 x2 x3
  refine Within.via x0 ?_ (fun h4 => ?_)
  · unfold x0
    refine Within.wr ?_ (inScopes_of rfl)
    refine Within.wr ?_ (inScopes_of rfl)
    refine Within.set_pkeOp ?_ (by decide)
    exact Within.refl _ _ _
  · clear_value x0
    refine Within.via x1 ?_ (fun h5 => ?_)
    · unfold x1
      refine Within.foldl ?_ (fun _ _ _ h6 => ?_)
      · exact h4
      · refine Within.wr ?_ (inScopes_of rfl)
        exact h6
    · clear_value x1
      refine Within.via x2 ?_ (fun h7 => ?_)
      · unfold x2
        refine Within.ite ?_ ?_
        · refine Within.inc ?_ (inScopes_of rfl)
          exact h5
        · exact h5
      · clear_value x2
        refine Within.via x3 ?_ (fun h8 => ?_)
        · unfold x3
          refine Within.ite ?_ ?_
          · refine Within.latch ?_ (inScopes_of rfl)
            exact h7
          · exact h7
        · clear_value x3
          refine Within.then ?_ (frame_pushNotice _ _ _) rfl rfl
          refine Within.latch ?_ (inScopes_of rfl)
          exact h8

theorem frame_pkeForceStop (s : State) :
    Within [.word 0x4c 0x14, .word 0x4c 0x50, .word 0x4c 0x4c, .word 0x4c 0x48, .word 0x4c 0x44, .page 0x33] [.notices, .jobs] s (pkeForceStop s) := by
  unfold Machine.pkeForceStop
  refine Within.ite ?_ ?_
  · refine Within.then ?_ (frame_pkeEnd _ _ _) rfl rfl
    exact Within.refl _ _ _
  · exact Within.refl _ _ _

theorem frame_ethForceStop (a0 : Nat) (s : State) :
    Within [.word 0x4c 0x14, .word 0x4c 0x50, .word 0x4c 0x4c, .word 0x4c 0x48, .word 0x4c 0x44, .page 0x41, .page 0x1b, .word 0x20 0xdc, .word 0x20 0xd8, .word 0x20 0xd4, .word 0x20 0xd0, .page (0x3a + a0 % 2), .word (0x38 + a0 % 2) 0xac] [.notices, .rings, .ddr, .nodes, .ledger, .ports] s (ethForceStop a0 s) := by
  unfold Machine.ethForceStop
  extract_lets x0 x1 x2 x3
  refine Within.via x1 ?_ (fun h4 => ?_)
  · unfold x1
    refine Within.then ?_ (frame_modPort _ _ _) rfl rfl
    exact Within.refl _ _ _
  · clear_value x1
    refine Within.via x2 ?_ (fun h5 => ?_)
    · unfold x2
      refine Within.foldl ?_ (fun _ _ _ h6 => ?_)
      · exact h4
      · refine Within.then ?_ (frame_close _ _ _) rfl rfl
        exact h6
    · clear_value x2
      refine Within.via x3 ?_ (fun h7 => ?_)
      · unfold x3
        refine Within.foldl ?_ (fun _ _ _ h8 => ?_)
        · exact h5
        · refine Within.then ?_ (frame_endEgress _ _ _) rfl rfl
          exact h8
      · clear_value x3
        refine Within.ite ?_ ?_
        · refine Within.after ?_ (frame_abortAir _ _ _) (amongCons rfl (amongCons rfl (amongCons rfl (amongCons rfl (amongCons rfl (amongCons rfl (amongCons rfl (amongCons rfl (amongCons rfl (amongCons rfl (amongCons rfl (amongCons (by simp [Scope.among, fePage, schedPage, ethPage, ethStatPage]) (amongCons (by simp [Scope.among, fePage, schedPage, ethPage, ethStatPage]) amongNil))))))))))))) rfl
          exact h7
        · exact h7

theorem frame_copyEnd (a0 : Nat) (a1 : Nat) (s : State) :
    Within [.word 0x4c 0x14, .word 0x4c 0x50, .word 0x4c 0x4c, .word 0x4c 0x48, .word 0x4c 0x44, .word 0x40 0x74, .word 0x40 0x78] [.notices, .copy] s (copyEnd a0 a1 s) := by
  unfold Machine.copyEnd
  extract_lets x0
  refine Within.via x0 ?_ (fun h1 => ?_)
  · unfold x0
    refine Within.wr ?_ (inScopes_of rfl)
    refine Within.wr ?_ (inScopes_of rfl)
    refine Within.wr ?_ (inScopes_of rfl)
    exact Within.refl _ _ _
  · clear_value x0
    refine Within.then ?_ (frame_pushNotice _ _ _) rfl rfl
    refine Within.set_copy ?_ (by decide)
    exact h1

theorem frame_hostifForceStop (s : State) :
    Within [.word 0x4c 0x14, .word 0x4c 0x50, .word 0x4c 0x4c, .word 0x4c 0x48, .word 0x4c 0x44, .word 0x40 0x74, .word 0x40 0x78] [.notices, .copy] s (hostifForceStop s) := by
  unfold Machine.hostifForceStop
  refine Within.ite ?_ ?_
  · refine Within.then ?_ (frame_copyEnd _ _ _) rfl rfl
    exact Within.refl _ _ _
  · exact Within.refl _ _ _

theorem frame_ringsDrain (s : State) :
    Within [.page 0x1b, .word 0x20 0xdc, .word 0x20 0xd8, .word 0x20 0xd4, .word 0x20 0xd0, .page 0x41] [.nodes, .ddr, .ledger, .rings] s (ringsDrain s) := by
  unfold Machine.ringsDrain
  refine Within.foldl ?_ (fun _ _ _ h0 => ?_)
  · exact Within.refl _ _ _
  · extract_lets x1
    refine Within.foldl ?_ (fun _ _ _ h2 => ?_)
    · refine Within.then ?_ (frame_modRing _ _ _) rfl rfl
      exact h0
    · refine Within.then ?_ (frame_endItem _ _ _) rfl rfl
      exact h2

theorem frame_ringsForceStop (s : State) :
    Within [.word 0x4c 0x14, .word 0x4c 0x50, .word 0x4c 0x4c, .word 0x4c 0x48, .word 0x4c 0x44, .page 0x41, .page 0x1b, .word 0x20 0xdc, .word 0x20 0xd8, .word 0x20 0xd4, .word 0x20 0xd0] [.notices, .rings, .ddr, .nodes, .ledger] s (ringsForceStop s) := by
  unfold Machine.ringsForceStop
  extract_lets x0
  refine Within.via x0 ?_ (fun h1 => ?_)
  · unfold x0
    refine Within.then ?_ (frame_ringsDrain _) rfl rfl
    exact Within.refl _ _ _
  · clear_value x0
    refine Within.foldl ?_ (fun _ _ _ h2 => ?_)
    · exact h1
    · refine Within.then ?_ (frame_returnSlot _ _ _ _ _) rfl rfl
      exact h2

theorem frame_fwEnd (a0 : Nat) (s : State) :
    Within [.word 0x48 0x4c] [.fw] s (fwEnd a0 s) := by
  unfold Machine.fwEnd
  refine Within.wr ?_ (inScopes_of rfl)
  refine Within.wr ?_ (inScopes_of rfl)
  refine Within.set_fw ?_ (by decide)
  exact Within.refl _ _ _

theorem frame_flashError (a0 : Nat) (a1 : Nat) (s : State) :
    Within [.word 0x45 0x14, .word 0x45 0x48, .word 0x45 0x4c] [] s (flashError a0 a1 s) := by
  unfold Machine.flashError
  extract_lets x0
  refine Within.via x0 ?_ (fun h1 => ?_)
  · unfold x0
    refine Within.wr ?_ (inScopes_of rfl)
    refine Within.wr ?_ (inScopes_of rfl)
    exact Within.refl _ _ _
  · clear_value x0
    refine Within.latch ?_ (inScopes_of rfl)
    refine Within.inc ?_ (inScopes_of rfl)
    exact h1

theorem frame_flashForceStop (s : State) :
    Within [.word 0x48 0x4c, .word 0x45 0x14, .word 0x45 0x48, .word 0x45 0x4c, .word 0x4c 0x14, .word 0x4c 0x50, .word 0x4c 0x4c, .word 0x4c 0x48, .word 0x4c 0x44, .word 0x30 0x14, .page 0x80, .word 0x30 0xb8] [.fw, .notices, .keyOp] s (flashForceStop s) := by
  unfold Machine.flashForceStop
  refine Within.ite ?_ ?_
  · exact Within.refl _ _ _
  · extract_lets x0 x1
    refine Within.via x1 ?_ (fun h2 => ?_)
    · unfold x1
      split
      · refine Within.ite ?_ ?_
        · refine Within.then ?_ (frame_fwEnd _ _) rfl rfl
          refine Within.then ?_ (frame_flashError _ _ _) rfl rfl
          exact Within.refl _ _ _
        · refine Within.ite ?_ ?_
          · refine Within.then ?_ (frame_fwEnd _ _) rfl rfl
            refine Within.then ?_ (frame_flashError _ _ _) rfl rfl
            exact Within.refl _ _ _
          · exact Within.refl _ _ _
      · exact Within.refl _ _ _
    · clear_value x1
      split
      · refine Within.then ?_ (frame_loadEnd _ _ _) rfl rfl
        refine Within.then ?_ (frame_flashError _ _ _) rfl rfl
        exact h2
      · refine Within.ite ?_ ?_
        · refine Within.then ?_ (frame_flashError _ _ _) rfl rfl
          exact h2
        · exact h2

theorem frame_fwForceStop (s : State) :
    Within [.word 0x48 0x4c] [.fw] s (fwForceStop s) := by
  unfold Machine.fwForceStop
  split
  · refine Within.ite ?_ ?_
    · exact Within.refl _ _ _
    · refine Within.then ?_ (frame_fwEnd _ _) rfl rfl
      exact Within.refl _ _ _
  · exact Within.refl _ _ _

theorem frame_dropNotices (s : State) :
    Within [.word 0x4c 0x44] [.notices] s (dropNotices s) := by
  unfold Machine.dropNotices
  refine Within.wr ?_ (inScopes_of rfl)
  refine Within.set_notices ?_ (by decide)
  exact Within.refl _ _ _

theorem frame_abortWork (a0 : Nat) (s : State) :
    Within [.page 0x10, .word 0x8 0x14, .word 0x9 0x14, .word 0xa 0x14, .word 0xb 0x14, .word 0x8 0x30, .word 0x9 0x30, .word 0xa 0x30, .word 0xb 0x30, .word 0x8 0x5c, .word 0x9 0x5c, .word 0xa 0x5c, .word 0xb 0x5c, .word 0x8 0x4c, .word 0x9 0x4c, .word 0xa 0x4c, .word 0xb 0x4c, .word 0x8 0x78, .word 0x9 0x78, .word 0xa 0x78, .word 0xb 0x78, .word 0xb 0x50, .page 0x11, .page 0x31, .page 0x1b, .word 0x20 0xdc, .word 0x20 0xd8, .word 0x20 0xd4, .word 0x20 0xd0, .word 0x19 0xa4, .word 0x19 0xa8, .word 0x19 0xac, .word 0x19 0xb0, .word 0x19 0xb4, .word 0x19 0xb8, .page 0x24, .page 0x25, .page 0x26, .page 0x27, .word 0x21 0x50, .word 0x21 0x4c, .word 0x20 0x58, .word 0x4c 0x14, .word 0x4c 0x50, .word 0x4c 0x4c, .word 0x4c 0x48, .word 0x4c 0x44, .page 0x41, .word 0x22 0x58, .word 0x22 0x54, .word 0x22 0x50, .word 0xc 0x14, .word 0xc 0x4c, .page 0x29, .word 0x30 0x14, .page 0x80, .word 0x30 0xb8, .word 0x32 0x14, .word 0x32 0xa8, .page 0x33, .page 0x3a, .page 0x3b, .word 0x38 0xac, .word 0x39 0xac, .word 0x40 0x74, .word 0x40 0x78, .word 0x48 0x4c, .word 0x45 0x14, .word 0x45 0x48, .word 0x45 0x4c, .word 0x4a 0x58, .word 0x4a 0x14, .word 0x4a 0x50] [.lanes, .fes, .relief, .nodes, .ddr, .ledger, .scheds, .duty, .frames, .notices, .rings, .reasm, .frameNumbers, .campaigns, .keyOp, .jobs, .ports, .clock, .copy, .fw, .rope] s (abortWork a0 s) := by
  unfold Machine.abortWork
  split
  · refine Within.then ?_ (frame_feForceStop _ _) rfl rfl
    exact Within.refl _ _ _
  · refine Within.then ?_ (frame_feForceStop _ _) rfl rfl
    exact Within.refl _ _ _
  · refine Within.then ?_ (frame_feForceStop _ _) rfl rfl
    exact Within.refl _ _ _
  · refine Within.then ?_ (frame_feForceStop _ _) rfl rfl
    exact Within.refl _ _ _
  · refine Within.then ?_ (frame_endLanes _ _ _) rfl rfl
    exact Within.refl _ _ _
  · refine Within.then ?_ (frame_withdrawFor _ _) rfl rfl
    refine Within.foldl ?_ (fun _ _ _ h0 => ?_)
    · exact Within.refl _ _ _
    · refine Within.after ?_ (frame_cutTx _ _ _) (amongCons rfl (amongCons rfl (amongCons rfl (amongCons rfl (amongCons rfl (amongCons rfl (amongCons rfl (amongCons rfl (amongCons rfl (amongCons rfl (amongCons rfl (amongCons rfl (amongCons rfl (amongCons rfl (amongCons (amongW4 rfl) (amongCons (amongW4 rfl) amongNil)))))))))))))))) rfl
      exact h0
  · refine Within.then ?_ (frame_macForceStop _) rfl rfl
    exact Within.refl _ _ _
  · refine Within.then ?_ (frame_beaconForceStop _) rfl rfl
    exact Within.refl _ _ _
  · refine Within.then ?_ (frame_nodeForceStop _) rfl rfl
    exact Within.refl _ _ _
  · refine Within.then ?_ (frame_fwdForceStop _) rfl rfl
    exact Within.refl _ _ _
  · refine Within.then ?_ (frame_endReasm _) rfl rfl
    exact Within.refl _ _ _
  · extract_lets x1 x2 x3 x4 x5 x6 x7 x8 x9 x10 x11 x12 x13 x14 x15 x16 x17
    refine Within.via x17 ?_ (fun h18 => ?_)
    · unfold x17
      refine Within.foldl ?_ (fun _ _ _ h19 => ?_)
      · exact Within.refl _ _ _
      · split
        · split
          · refine Within.ite ?_ ?_
            · refine Within.after ?_ (frame_cutTx _ _ _) (amongCons rfl (amongCons rfl (amongCons rfl (amongCons rfl (amongCons rfl (amongCons rfl (amongCons rfl (amongCons rfl (amongCons rfl (amongCons rfl (amongCons rfl (amongCons rfl (amongCons rfl (amongCons rfl (amongCons (amongW4 rfl) (amongCons (amongW4 rfl) amongNil)))))))))))))))) rfl
              exact h19
            · exact h19
          · exact h19
        · exact h19
    · clear_value x17
      refine Within.then ?_ (frame_schedForceStop _ _) rfl rfl
      exact h18
  · extract_lets x20 x21 x22 x23 x24 x25 x26 x27 x28 x29 x30 x31 x32 x33 x34 x35 x36
    refine Within.via x36 ?_ (fun h37 => ?_)
    · unfold x36
      refine Within.foldl ?_ (fun _ _ _ h38 => ?_)
      · exact Within.refl _ _ _
      · split
        · split
          · refine Within.ite ?_ ?_
            · refine Within.after ?_ (frame_cutTx _ _ _) (amongCons rfl (amongCons rfl (amongCons rfl (amongCons rfl (amongCons rfl (amongCons rfl (amongCons rfl (amongCons rfl (amongCons rfl (amongCons rfl (amongCons rfl (amongCons rfl (amongCons rfl (amongCons rfl (amongCons (amongW4 rfl) (amongCons (amongW4 rfl) amongNil)))))))))))))))) rfl
              exact h38
            · exact h38
          · exact h38
        · exact h38
    · clear_value x36
      refine Within.then ?_ (frame_schedForceStop _ _) rfl rfl
      exact h37
  · extract_lets x39 x40 x41 x42 x43 x44 x45 x46 x47 x48 x49 x50 x51 x52 x53 x54 x55
    refine Within.via x55 ?_ (fun h56 => ?_)
    · unfold x55
      refine Within.foldl ?_ (fun _ _ _ h57 => ?_)
      · exact Within.refl _ _ _
      · split
        · split
          · refine Within.ite ?_ ?_
            · refine Within.after ?_ (frame_cutTx _ _ _) (amongCons rfl (amongCons rfl (amongCons rfl (amongCons rfl (amongCons rfl (amongCons rfl (amongCons rfl (amongCons rfl (amongCons rfl (amongCons rfl (amongCons rfl (amongCons rfl (amongCons rfl (amongCons rfl (amongCons (amongW4 rfl) (amongCons (amongW4 rfl) amongNil)))))))))))))))) rfl
              exact h57
            · exact h57
          · exact h57
        · exact h57
    · clear_value x55
      refine Within.then ?_ (frame_schedForceStop _ _) rfl rfl
      exact h56
  · extract_lets x58 x59 x60 x61 x62 x63 x64 x65 x66 x67 x68 x69 x70 x71 x72 x73 x74
    refine Within.via x74 ?_ (fun h75 => ?_)
    · unfold x74
      refine Within.foldl ?_ (fun _ _ _ h76 => ?_)
      · exact Within.refl _ _ _
      · split
        · split
          · refine Within.ite ?_ ?_
            · refine Within.after ?_ (frame_cutTx _ _ _) (amongCons rfl (amongCons rfl (amongCons rfl (amongCons rfl (amongCons rfl (amongCons rfl (amongCons rfl (amongCons rfl (amongCons rfl (amongCons rfl (amongCons rfl (amongCons rfl (amongCons rfl (amongCons rfl (amongCons (amongW4 rfl) (amongCons (amongW4 rfl) amongNil)))))))))))))))) rfl
              exact h76
            · exact h76
          · exact h76
        · exact h76
    · clear_value x74
      refine Within.then ?_ (frame_schedForceStop _ _) rfl rfl
      exact h75
  · refine Within.then ?_ (frame_dissemForceStop _) rfl rfl
    exact Within.refl _ _ _
  · refine Within.then ?_ (frame_keysForceStop _) rfl rfl
    exact Within.refl _ _ _
  · refine Within.then ?_ (frame_fcryptoForceStop _) rfl rfl
    exact Within.refl _ _ _
  · refine Within.then ?_ (frame_scipherForceStop _) rfl rfl
    exact Within.refl _ _ _
  · refine Within.then ?_ (frame_pkeForceStop _) rfl rfl
    exact Within.refl _ _ _
  · refine Within.then ?_ (frame_ethForceStop _ _) rfl rfl
    exact Within.refl _ _ _
  · refine Within.then ?_ (frame_ethForceStop _ _) rfl rfl
    exact Within.refl _ _ _
  · refine Within.then ?_ (frame_ppsOutEnd _) rfl rfl
    exact Within.refl _ _ _
  · refine Within.then ?_ (frame_hostifForceStop _) rfl rfl
    exact Within.refl _ _ _
  · refine Within.then ?_ (frame_ringsForceStop _) rfl rfl
    exact Within.refl _ _ _
  · refine Within.then ?_ (frame_flashForceStop _) rfl rfl
    exact Within.refl _ _ _
  · refine Within.then ?_ (frame_fwForceStop _) rfl rfl
    exact Within.refl _ _ _
  · refine Within.then ?_ (frame_belayStop _) rfl rfl
    exact Within.refl _ _ _
  · refine Within.then ?_ (frame_dropNotices _) rfl rfl
    exact Within.refl _ _ _
  · exact Within.refl _ _ _

end Sys2Proof.Machine
end

