-- ==== Sys2Proof/Laws/OpsB.lean ====
section
/-! SUPPORT. What each operation can change, part 2 of 5: for every state, the registers and parts outside the named ones
are as before. -/

namespace Sys2Proof.Machine

set_option maxHeartbeats 1000000
set_option linter.unusedSimpArgs false
set_option linter.unusedTactic false
set_option linter.unreachableTactic false
set_option linter.unusedVariables false

theorem frame_engineTestCut (s : State) :
    Within [.page 0x31] [.engines] s (engineTestCut s) := by
  unfold Machine.engineTestCut
  split
  · exact Within.refl _ _ _
  · extract_lets x0 x1
    refine Within.via x0 ?_ (fun h2 => ?_)
    · unfold x0
      refine Within.set_engineTest ?_ (by decide)
      exact Within.refl _ _ _
    · clear_value x0
      refine Within.via x1 ?_ (fun h3 => ?_)
      · unfold x1
        refine Within.ite ?_ ?_
        · exact h2
        · refine Within.wr ?_ (inScopes_of rfl)
          exact h2
      · clear_value x1
        split
        · exact h2
        · refine Within.wr ?_ (inScopes_of rfl)
          exact h2
        · refine Within.wr ?_ (inScopes_of rfl)
          exact h2
        · refine Within.ite ?_ ?_
          · refine Within.wr ?_ (inScopes_of rfl)
            exact h3
          · exact h3

theorem frame_abortTest (a0 : Nat) (s : State) :
    Within [.page 0x10, .page 0x11, .page 0x31, .word a0 0x14, .word a0 0x30] [.poolTest, .fes, .lanes, .engines] s (abortTest a0 s) := by
  unfold Machine.abortTest
  refine Within.ite ?_ ?_
  · extract_lets x0 x1
    refine Within.via x0 ?_ (fun h2 => ?_)
    · unfold x0
      refine Within.set_poolTest ?_ (by decide)
      exact Within.refl _ _ _
    · clear_value x0
      refine Within.via x1 ?_ (fun h3 => ?_)
      · unfold x1
        refine Within.ite ?_ ?_
        · split
          · refine Within.ite ?_ ?_
            · refine Within.then ?_ (frame_modLane _ _ _) rfl rfl
              exact h2
            · exact h2
          · exact Within.refl _ _ _
        · refine Within.ite ?_ ?_
          · refine Within.then ?_ (frame_engineTestCut _) rfl rfl
            exact Within.refl _ _ _
          · exact Within.refl _ _ _
      · clear_value x1
        refine Within.after ?_ (frame_setTestResult _ _ _) (amongCons (amongAt 3 rfl) (amongCons (amongAt 4 rfl) amongNil)) rfl
        exact h3
  · exact Within.refl _ _ _

theorem frame_endWaitingCal (a0 : Nat) (a1 : Nat) (s : State) :
    Within [.word 0x8 0x78, .word 0x9 0x78, .word 0xa 0x78, .word 0xb 0x78] [.relief] s (endWaitingCal a0 a1 s) := by
  unfold Machine.endWaitingCal
  split
  · exact Within.refl _ _ _
  · refine Within.ite ?_ ?_
    · refine Within.wr ?_ (inScopes_of (amongW4 rfl))
      refine Within.set_reliefQueue ?_ (by decide)
      exact Within.refl _ _ _
    · exact Within.refl _ _ _

theorem frame_endWaitingTest (a0 : Nat) (a1 : Nat) (s : State) :
    Within [.word a0 0x14, .word a0 0x30] [.poolTest, .relief, .engines] s (endWaitingTest a0 a1 s) := by
  unfold Machine.endWaitingTest
  refine Within.ite ?_ ?_
  · extract_lets x0
    refine Within.via x0 ?_ (fun h1 => ?_)
    · unfold x0
      refine Within.upd (by (try dsimp only) <;> exact rfl) (fun p hp => by cases p <;> first | rfl | exact ⟨rfl, rfl⟩ | exact ⟨rfl, rfl, rfl⟩ | exact absurd (by decide) hp) ?_
      exact Within.refl _ _ _
    · clear_value x0
      refine Within.after ?_ (frame_setTestResult _ _ _) (amongCons (by simp [Scope.among, fePage, schedPage, ethPage, ethStatPage]) (amongCons (by simp [Scope.among, fePage, schedPage, ethPage, ethStatPage]) amongNil)) rfl
      exact h1
  · exact Within.refl _ _ _

theorem frame_cancelWaiting (a0 : Nat) (s : State) :
    Within [.word 0x8 0x78, .word 0x9 0x78, .word 0xa 0x78, .word 0xb 0x78, .word a0 0x14, .word a0 0x30] [.relief, .poolTest, .engines] s (cancelWaiting a0 s) := by
  unfold Machine.cancelWaiting
  refine Within.then ?_ (frame_endWaitingCal _ _ _) rfl rfl
  refine Within.after ?_ (frame_endWaitingTest _ _ _) (amongCons (by simp [Scope.among, fePage, schedPage, ethPage, ethStatPage]) (amongCons (by simp [Scope.among, fePage, schedPage, ethPage, ethStatPage]) amongNil)) rfl
  exact Within.refl _ _ _

theorem frame_leaveService (a0 : Nat) (s : State) :
    Within [.page 0x10, .word 0x8 0x14, .word 0x9 0x14, .word 0xa 0x14, .word 0xb 0x14, .word 0x8 0x30, .word 0x9 0x30, .word 0xa 0x30, .word 0xb 0x30, .word 0x8 0x5c, .word 0x9 0x5c, .word 0xa 0x5c, .word 0xb 0x5c, .word 0x8 0x4c, .word 0x9 0x4c, .word 0xa 0x4c, .word 0xb 0x4c, .word 0x8 0x78, .word 0x9 0x78, .word 0xa 0x78, .word 0xb 0x78, .word 0xb 0x50, .page 0x11, .page 0x31, .page 0x1b, .word 0x20 0xdc, .word 0x20 0xd8, .word 0x20 0xd4, .word 0x20 0xd0, .word 0x19 0xa4, .word 0x19 0xa8, .word 0x19 0xac, .word 0x19 0xb0, .word 0x19 0xb4, .word 0x19 0xb8, .page 0x24, .page 0x25, .page 0x26, .page 0x27, .word 0x21 0x50, .word 0x21 0x4c, .word 0x4c 0x14, .word 0x4c 0x50, .word 0x4c 0x4c, .word 0x4c 0x48, .word 0x4c 0x44, .page 0x41, .word 0x38 0x74, .word 0x39 0x74, .word 0x38 0x70, .word 0x39 0x70, .word 0x38 0x14, .word 0x39 0x14, .word 0x38 0x78, .word 0x39 0x78, .page 0x3a, .page 0x3b, .word 0x38 0xac, .word 0x39 0xac, .word 0x4a 0x58, .word 0x4a 0x14, .word 0x4a 0x50, .word 0x20 0x58, .word 0x22 0x58, .word 0x22 0x54, .word 0x22 0x50, .word 0xc 0x14, .word 0xc 0x4c, .page 0x29, .word 0x30 0x14, .page 0x80, .word 0x30 0xb8, .word 0x32 0x14, .word 0x32 0xa8, .page 0x33, .word 0x40 0x74, .word 0x40 0x78, .word 0x48 0x4c, .word 0x45 0x14, .word 0x45 0x48, .word 0x45 0x4c, .word a0 0xc, .word a0 0x14, .word a0 0x30] [.boot, .lanes, .fes, .relief, .nodes, .ddr, .ledger, .scheds, .duty, .frames, .ports, .notices, .rings, .clock, .rope, .reasm, .frameNumbers, .campaigns, .keyOp, .jobs, .copy, .fw, .poolTest, .engines] s (leaveService a0 s) := by
  unfold Machine.leaveService
  extract_lets x0 x1 x2 x3 x4 x5 x6 x7 x8 x9 x10 x11 x12 x13 x14 x15 x16 x17
  refine Within.via x17 ?_ (fun h18 => ?_)
  · unfold x17
    refine Within.ite ?_ ?_
    · exact Within.refl _ _ _
    · refine Within.set_boot ?_ (by decide)
      exact Within.refl _ _ _
  · clear_value x17
    refine Within.ite ?_ ?_
    · exact Within.refl _ _ _
    · refine Within.ite ?_ ?_
      · refine Within.wr ?_ (inScopes_at 81 rfl)
        exact h18
      · refine Within.after ?_ (frame_toStopped _ _ _) (amongCons rfl (amongCons rfl (amongCons rfl (amongCons rfl (amongCons rfl (amongCons rfl (amongCons rfl (amongCons rfl (amongCons rfl (amongCons rfl (amongCons rfl (amongCons rfl (amongCons rfl (amongCons rfl (amongCons rfl (amongCons rfl (amongCons rfl (amongCons rfl (amongCons rfl (amongCons rfl (amongCons rfl (amongCons rfl (amongCons rfl (amongCons rfl (amongCons rfl (amongCons rfl (amongCons rfl (amongCons rfl (amongCons rfl (amongCons rfl (amongCons rfl (amongCons rfl (amongCons rfl (amongCons rfl (amongCons rfl (amongCons rfl (amongCons rfl (amongCons rfl (amongCons rfl (amongCons rfl (amongCons rfl (amongCons rfl (amongCons rfl (amongCons rfl (amongCons rfl (amongCons rfl (amongCons rfl (amongCons rfl (amongCons rfl (amongCons rfl (amongCons rfl (amongCons rfl (amongCons rfl (amongCons rfl (amongCons rfl (amongCons rfl (amongCons rfl (amongCons rfl (amongCons rfl (amongCons rfl (amongCons rfl (amongCons rfl (amongCons (amongAt 81 rfl) (amongCons (amongAt 82 rfl) amongNil)))))))))))))))))))))))))))))))))))))))))))))))))))))))))))))))) rfl
        refine Within.then ?_ (frame_abortWork _ _) rfl rfl
        refine Within.after ?_ (frame_abortTest _ _) (amongCons rfl (amongCons rfl (amongCons rfl (amongCons (amongAt 82 rfl) (amongCons (amongAt 83 rfl) amongNil))))) rfl
        refine Within.after ?_ (frame_cancelWaiting _ _) (amongCons rfl (amongCons rfl (amongCons rfl (amongCons rfl (amongCons (amongAt 82 rfl) (amongCons (amongAt 83 rfl) amongNil)))))) rfl
        exact h18

theorem frame_feOffLevels (a0 : Nat) (s : State) :
    Within [.page 0x10, .word (0x8 + a0 % 4) 0x5c] [] s (feOffLevels a0 s) := by
  unfold Machine.feOffLevels
  refine Within.then ?_ (frame_refreshListen _) rfl rfl
  refine Within.after ?_ (frame_showLines _ _) (amongCons (amongAt 1 rfl) amongNil) rfl
  exact Within.refl _ _ _

theorem frame_setTest (a0 : Nat) (a1 : Nat) (a2 : TestWord) (s : State) :
    Within [] [.mem] s (setTest a0 a1 a2 s) := by
  unfold Machine.setTest
  refine Within.set_mem ?_ (by decide)
  exact Within.refl _ _ _

theorem frame_testStatus (a0 : Nat) (a1 : Nat) (s : State) :
    Within [.word 0x46 0x98] [] s (testStatus a0 a1 s) := by
  unfold Machine.testStatus
  refine Within.wr ?_ (inScopes_of rfl)
  refine Within.wr ?_ (inScopes_of rfl)
  exact Within.refl _ _ _

theorem frame_putTest (a0 : Nat) (a1 : Nat) (a2 : Nat) (s : State) :
    Within [.word 0x46 0x98] [.mem] s (putTest a0 a1 a2 s) := by
  unfold Machine.putTest
  extract_lets x0
  refine Within.via x0 ?_ (fun h1 => ?_)
  · unfold x0
    refine Within.then ?_ (frame_setTest _ _ _ _) rfl rfl
    exact Within.refl _ _ _
  · clear_value x0
    refine Within.then ?_ (frame_testStatus _ _ _) rfl rfl
    split
    · refine Within.then ?_ (frame_setTest _ _ _ _) rfl rfl
      exact h1
    · exact h1

theorem frame_flipTestData (a0 : Nat) (a1 : Nat) (a2 : Nat) (s : State) :
    Within [.word 0x46 0x98] [.mem] s (flipTestData a0 a1 a2 s) := by
  unfold Machine.flipTestData
  extract_lets x0
  refine Within.then ?_ (frame_testStatus _ _ _) rfl rfl
  refine Within.then ?_ (frame_setTest _ _ _ _) rfl rfl
  exact Within.refl _ _ _

theorem frame_flipTestCheck (a0 : Nat) (a1 : Nat) (a2 : Nat) (s : State) :
    Within [.word 0x46 0x98] [.mem] s (flipTestCheck a0 a1 a2 s) := by
  unfold Machine.flipTestCheck
  extract_lets x0
  refine Within.then ?_ (frame_testStatus _ _ _) rfl rfl
  refine Within.then ?_ (frame_setTest _ _ _ _) rfl rfl
  exact Within.refl _ _ _

theorem frame_showData (a0 : Nat) (s : State) :
    Within [.word 0x46 0x88, .word 0x46 0x8c] [] s (showData a0 s) := by
  unfold Machine.showData
  refine Within.wr ?_ (inScopes_of rfl)
  refine Within.wr ?_ (inScopes_of rfl)
  exact Within.refl _ _ _

theorem frame_ddrLast (a0 : Nat) (a1 : Nat) (a2 : Bool) (s : State) :
    Within [.word 0x46 0x58, .word 0x46 0x5c] [] s (ddrLast a0 a1 a2 s) := by
  unfold Machine.ddrLast
  extract_lets x0
  refine Within.wr ?_ (inScopes_of rfl)
  refine Within.wr ?_ (inScopes_of rfl)
  refine Within.wr ?_ (inScopes_of rfl)
  refine Within.wrBool ?_ (inScopes_of rfl)
  exact Within.refl _ _ _

theorem frame_listRow (a0 : Nat) (s : State) :
    Within [.word 0x46 0x70] [.mem] s (listRow a0 s) := by
  unfold Machine.listRow
  refine Within.ite ?_ ?_
  · exact Within.refl _ _ _
  · extract_lets x0 x1
    refine Within.via x1 ?_ (fun h2 => ?_)
    · unfold x1
      refine Within.set_mem ?_ (by decide)
      exact Within.refl _ _ _
    · clear_value x1
      refine Within.wr ?_ (inScopes_of rfl)
      exact h2

theorem frame_ddrCorrected (a0 : Nat) (a1 : Nat) (s : State) :
    Within [.word 0x46 0x14, .word 0x46 0x50, .word 0x46 0x58, .word 0x46 0x5c, .word 0x46 0x70] [.mem] s (ddrCorrected a0 a1 s) := by
  unfold Machine.ddrCorrected
  extract_lets x0 x1 x2 x3
  refine Within.via x0 ?_ (fun h4 => ?_)
  · unfold x0
    refine Within.latch ?_ (inScopes_of rfl)
    refine Within.inc ?_ (inScopes_of rfl)
    refine Within.then ?_ (frame_ddrLast _ _ _ _) rfl rfl
    exact Within.refl _ _ _
  · clear_value x0
    refine Within.via x3 ?_ (fun h5 => ?_)
    · unfold x3
      refine Within.set_mem ?_ (by decide)
      exact h4
    · clear_value x3
      refine Within.ite ?_ ?_
      · refine Within.then ?_ (frame_listRow _ _) rfl rfl
        exact h5
      · exact h5

theorem frame_ddrUncorrectable (a0 : Nat) (a1 : Nat) (s : State) :
    Within [.word 0x46 0x70, .word 0x46 0x14, .word 0x46 0x54, .word 0x46 0x58, .word 0x46 0x5c] [.mem] s (ddrUncorrectable a0 a1 s) := by
  unfold Machine.ddrUncorrectable
  extract_lets x0 x1
  refine Within.via x1 ?_ (fun h2 => ?_)
  · unfold x1
    refine Within.set_mem ?_ (by decide)
    exact Within.refl _ _ _
  · clear_value x1
    refine Within.then ?_ (frame_listRow _ _) rfl rfl
    refine Within.latch ?_ (inScopes_of rfl)
    refine Within.inc ?_ (inScopes_of rfl)
    refine Within.then ?_ (frame_ddrLast _ _ _ _) rfl rfl
    exact h2

theorem frame_testReadDdr (a0 : Nat) (s : State) :
    Within [.word 0x46 0x98, .word 0x46 0x88, .word 0x46 0x8c, .word 0x46 0x14, .word 0x46 0x50, .word 0x46 0x58, .word 0x46 0x5c, .word 0x46 0x70, .word 0x46 0x54] [.draws, .mem] s (testReadDdr a0 s) := by
  unfold Machine.testReadDdr
  extract_lets x0 x1 x2
  generalize e3 : Machine.draw _ = p4
  obtain ⟨_, _⟩ := p4
  dsimp only
  refine Within.viaEq ?_ e3 (fun h5 => ?_)
  · refine Within.then ?_ (frame_draw _) rfl rfl
    exact Within.refl _ _ _
  · refine Within.ite ?_ ?_
    · refine Within.then ?_ (frame_testStatus _ _ _) rfl rfl
      refine Within.then ?_ (frame_showData _ _) rfl rfl
      exact h5
    · refine Within.ite ?_ ?_
      · refine Within.then ?_ (frame_ddrCorrected _ _ _) rfl rfl
        refine Within.then ?_ (frame_testStatus _ _ _) rfl rfl
        refine Within.then ?_ (frame_showData _ _) rfl rfl
        refine Within.then ?_ (frame_setTest _ _ _ _) rfl rfl
        exact h5
      · refine Within.then ?_ (frame_ddrUncorrectable _ _ _) rfl rfl
        refine Within.then ?_ (frame_testStatus _ _ _) rfl rfl
        refine Within.then ?_ (frame_showData _ _) rfl rfl
        exact h5

theorem frame_rawTest (a0 : Nat) (a1 : Nat) (s : State) :
    Within [.word 0x46 0x98, .word 0x46 0x88, .word 0x46 0x8c, .word 0x46 0x90] [] s (rawTest a0 a1 s) := by
  unfold Machine.rawTest
  extract_lets x0 x1
  refine Within.ite ?_ ?_
  · refine Within.then ?_ (frame_testStatus _ _ _) rfl rfl
    refine Within.then ?_ (frame_showData _ _) rfl rfl
    refine Within.wr ?_ (inScopes_of rfl)
    exact Within.refl _ _ _
  · refine Within.then ?_ (frame_testStatus _ _ _) rfl rfl
    refine Within.then ?_ (frame_showData _ _) rfl rfl
    refine Within.wr ?_ (inScopes_of rfl)
    exact Within.refl _ _ _

theorem frame_runTest (a0 : TestWait) (s : State) :
    Within [.word 0x46 0x98, .word 0x46 0x88, .word 0x46 0x8c, .word 0x46 0x14, .word 0x46 0x50, .word 0x46 0x58, .word 0x46 0x5c, .word 0x46 0x70, .word 0x46 0x54, .word 0x46 0x90] [.mem, .draws] s (runTest a0 s) := by
  unfold Machine.runTest
  split
  · refine Within.then ?_ (frame_putTest _ _ _ _) rfl rfl
    exact Within.refl _ _ _
  · refine Within.then ?_ (frame_flipTestData _ _ _ _) rfl rfl
    exact Within.refl _ _ _
  · refine Within.then ?_ (frame_flipTestCheck _ _ _ _) rfl rfl
    exact Within.refl _ _ _
  · refine Within.then ?_ (frame_testReadDdr _ _) rfl rfl
    exact Within.refl _ _ _
  · refine Within.then ?_ (frame_rawTest _ _ _) rfl rfl
    exact Within.refl _ _ _

theorem frame_decodeLine (a0 : Nat) (a1 : Ecc) (s : State) :
    Within [.word 0x46 0x14, .word 0x46 0x50, .word 0x46 0x58, .word 0x46 0x5c, .word 0x46 0x70, .word 0x46 0x54] [.mem] s (decodeLine a0 a1 s) := by
  unfold Machine.decodeLine
  split
  · exact Within.refl _ _ _
  · exact Within.refl _ _ _
  · refine Within.then ?_ (frame_ddrCorrected _ _ _) rfl rfl
    exact Within.refl _ _ _
  · refine Within.then ?_ (frame_ddrUncorrectable _ _ _) rfl rfl
    exact Within.refl _ _ _

theorem frame_unmapped (a0 : Nat) (a1 : Nat) (a2 : Bool) (s : State) :
    Within [.word 0x40 0x14, .word 0x40 0x50, .word 0x40 0x4c] [] s (unmapped a0 a1 a2 s) := by
  unfold Machine.unmapped
  extract_lets x0
  refine Within.via x0 ?_ (fun h1 => ?_)
  · unfold x0
    refine Within.wr ?_ (inScopes_of rfl)
    refine Within.wr ?_ (inScopes_of rfl)
    refine Within.wrBool ?_ (inScopes_of rfl)
    exact Within.refl _ _ _
  · clear_value x0
    refine Within.latch ?_ (inScopes_of rfl)
    refine Within.inc ?_ (inScopes_of rfl)
    exact h1

theorem frame_advanceRing (a0 : Nat) (a1 : Nat) (s : State) :
    Within [.page 0x41] [] s (advanceRing a0 a1 s) := by
  unfold Machine.advanceRing
  extract_lets x0 x1
  refine Within.wr ?_ (inScopes_of rfl)
  refine Within.wr ?_ (inScopes_of rfl)
  exact Within.refl _ _ _

theorem frame_poisonSlots (a0 : Nat) (a1 : Nat) (a2 : Nat) (s : State) :
    Within [.page 0x41, .word 0x4c 0x14, .word 0x4c 0x50, .word 0x4c 0x4c, .word 0x4c 0x48, .word 0x4c 0x44, .word 0x42 0x14, .word 0x42 0x48, .word 0x42 0x4c] [.notices, .ddr] s (poisonSlots a0 a1 a2 s) := by
  unfold Machine.poisonSlots
  extract_lets x0 x1 x2 x3 x4
  refine Within.via x2 ?_ (fun h5 => ?_)
  · unfold x2
    refine Within.foldl ?_ (fun _ _ _ h6 => ?_)
    · exact Within.refl _ _ _
    · refine Within.then ?_ (frame_setTally _ _ _ _ _) rfl rfl
      exact h6
  · clear_value x2
    refine Within.via x3 ?_ (fun h7 => ?_)
    · unfold x3
      refine Within.wr ?_ (inScopes_of rfl)
      refine Within.wr ?_ (inScopes_of rfl)
      refine Within.wr ?_ (inScopes_of rfl)
      exact h5
    · clear_value x3
      refine Within.via x4 ?_ (fun h8 => ?_)
      · unfold x4
        refine Within.latch ?_ (inScopes_of rfl)
        refine Within.inc ?_ (inScopes_of rfl)
        exact h7
      · clear_value x4
        refine Within.then ?_ (frame_refreshLevel _ _) rfl rfl
        refine Within.then ?_ (frame_advanceRing _ _ _) rfl rfl
        refine Within.then ?_ (frame_slotNotice _ _ _ _) rfl rfl
        exact h8

theorem frame_claims (a0 : Nat) (a1 : Nat) (s : State) :
    Within [.page 0x41, .word 0x4c 0x14, .word 0x4c 0x50, .word 0x4c 0x4c, .word 0x4c 0x48, .word 0x4c 0x44, .word 0x42 0x14, .word 0x42 0x48, .word 0x42 0x4c] [.notices, .ddr, .rings] s (claims a0 a1 s) := by
  induction a1 generalizing a0 s with | zero => ?_ | succ n ih => ?_
  · unfold Machine.claims
    exact Within.refl _ _ _
  · unfold Machine.claims
    split
    · exact Within.refl _ _ _
    · extract_lets x0 x1 x2 x3 x4 x5 x6
      refine Within.via x5 ?_ (fun h7 => ?_)
      · unfold x5
        refine Within.foldl ?_ (fun _ _ _ h8 => ?_)
        · exact Within.refl _ _ _
        · refine Within.then ?_ (frame_winWrite _ _ _) rfl rfl
          refine Within.then ?_ (frame_setTally _ _ _ _ _) rfl rfl
          exact h8
      · clear_value x5
        refine Within.via x6 ?_ (fun h9 => ?_)
        · unfold x6
          refine Within.then ?_ (frame_modRing _ _ _) rfl rfl
          exact h7
        · clear_value x6
          refine Within.ite ?_ ?_
          · refine Within.ite ?_ ?_
            · exact Within.refl _ _ _
            · refine Within.trans ?_ (ih _ _)
              refine Within.then ?_ (frame_advanceRing _ _ _) rfl rfl
              exact Within.refl _ _ _
          · refine Within.ite ?_ ?_
            · refine Within.trans ?_ (ih _ _)
              refine Within.then ?_ (frame_poisonSlots _ _ _ _) rfl rfl
              exact Within.refl _ _ _
            · refine Within.ite ?_ ?_
              · refine Within.trans ?_ (ih _ _)
                refine Within.then ?_ (frame_refreshLevel _ _) rfl rfl
                refine Within.then ?_ (frame_advanceRing _ _ _) rfl rfl
                exact h9
              · exact Within.refl _ _ _

theorem frame_claimAll (a0 : Nat) (s : State) :
    Within [.page 0x41, .word 0x4c 0x14, .word 0x4c 0x50, .word 0x4c 0x4c, .word 0x4c 0x48, .word 0x4c 0x44, .word 0x42 0x14, .word 0x42 0x48, .word 0x42 0x4c] [.notices, .ddr, .rings] s (claimAll a0 s) := by
  unfold Machine.claimAll
  refine Within.ite ?_ ?_
  · refine Within.then ?_ (frame_claims _ _ _) rfl rfl
    exact Within.refl _ _ _
  · exact Within.refl _ _ _

theorem frame_hostOctet (a0 : Nat) (a1 : Byte) (s : State) :
    Within [.word 0x42 0x14, .word 0x42 0x40, .word 0x42 0x44] [.ddr] s (hostOctet a0 a1 s) := by
  unfold Machine.hostOctet
  split
  · refine Within.then ?_ (frame_winWrite _ _ _) rfl rfl
    exact Within.refl _ _ _
  · extract_lets x0 x1
    refine Within.via x1 ?_ (fun h2 => ?_)
    · unfold x1
      refine Within.wr ?_ (inScopes_of rfl)
      refine Within.wr ?_ (inScopes_of rfl)
      refine Within.wr ?_ (inScopes_of rfl)
      exact Within.refl _ _ _
    · clear_value x1
      refine Within.ite ?_ ?_
      · refine Within.then ?_ (frame_winWrite _ _ _) rfl rfl
        exact Within.refl _ _ _
      · refine Within.latch ?_ (inScopes_of rfl)
        refine Within.inc ?_ (inScopes_of rfl)
        exact h2

theorem frame_hostOctets (a0 : Nat) (a1 : List (Option Byte)) (s : State) :
    Within [.word 0x42 0x14, .word 0x42 0x40, .word 0x42 0x44] [.ddr] s (hostOctets a0 a1 s) := by
  induction a1 generalizing a0 s with | nil => ?_ | cons x r ih => ?_
  · unfold Machine.hostOctets
    exact Within.refl _ _ _
  · unfold Machine.hostOctets
    refine Within.trans ?_ (ih _ _)
    split
    · refine Within.then ?_ (frame_hostOctet _ _ _) rfl rfl
      exact Within.refl _ _ _
    · exact Within.refl _ _ _

theorem frame_hostWrite (a0 : Nat) (a1 : List (Option Byte)) (s : State) :
    Within [.page 0x41, .word 0x4c 0x14, .word 0x4c 0x50, .word 0x4c 0x4c, .word 0x4c 0x48, .word 0x4c 0x44, .word 0x42 0x14, .word 0x42 0x48, .word 0x42 0x4c, .word 0x42 0x40, .word 0x42 0x44] [.notices, .ddr, .rings] s (hostWrite a0 a1 s) := by
  unfold Machine.hostWrite
  extract_lets x0
  refine Within.foldl ?_ (fun _ _ _ h1 => ?_)
  · refine Within.then ?_ (frame_hostOctets _ _ _) rfl rfl
    exact Within.refl _ _ _
  · refine Within.then ?_ (frame_claimAll _ _) rfl rfl
    refine Within.then ?_ (frame_refreshLevel _ _) rfl rfl
    exact h1

theorem frame_bar2Run (a0 : Bar2) (a1 : Ecc) (s : State) :
    Within [.word 0x46 0x14, .word 0x46 0x50, .word 0x46 0x58, .word 0x46 0x5c, .word 0x46 0x70, .word 0x46 0x54, .word 0x40 0x14, .word 0x40 0x50, .word 0x40 0x4c, .page 0x41, .word 0x4c 0x14, .word 0x4c 0x50, .word 0x4c 0x4c, .word 0x4c 0x48, .word 0x4c 0x44, .word 0x42 0x14, .word 0x42 0x48, .word 0x42 0x4c, .word 0x42 0x40, .word 0x42 0x44] [.mem, .hostData, .notices, .ddr, .rings] s (bar2Run a0 a1 s) := by
  unfold Machine.bar2Run
  split
  · extract_lets x0
    refine Within.via x0 ?_ (fun h1 => ?_)
    · unfold x0
      refine Within.then ?_ (frame_decodeLine _ _ _) rfl rfl
      exact Within.refl _ _ _
    · clear_value x0
      refine Within.ite ?_ ?_
      · refine Within.upd (by (try dsimp only) <;> exact rfl) (fun p hp => by cases p <;> first | rfl | exact ⟨rfl, rfl⟩ | exact ⟨rfl, rfl, rfl⟩ | exact absurd (by decide) hp) ?_
        exact h1
      · refine Within.upd (by (try dsimp only) <;> exact rfl) (fun p hp => by cases p <;> first | rfl | exact ⟨rfl, rfl⟩ | exact ⟨rfl, rfl, rfl⟩ | exact absurd (by decide) hp) ?_
        exact h1
  · refine Within.ite ?_ ?_
    · refine Within.then ?_ (frame_unmapped _ _ _ _) rfl rfl
      exact Within.refl _ _ _
    · refine Within.ite ?_ ?_
      · exact Within.refl _ _ _
      · refine Within.then ?_ (frame_hostWrite _ _ _) rfl rfl
        exact Within.refl _ _ _

theorem frame_runStalls (a0 : Nat) (s : State) :
    Within [.word 0x46 0x14, .word 0x46 0x50, .word 0x46 0x58, .word 0x46 0x5c, .word 0x46 0x70, .word 0x46 0x54, .word 0x40 0x14, .word 0x40 0x50, .word 0x40 0x4c, .page 0x41, .word 0x4c 0x14, .word 0x4c 0x50, .word 0x4c 0x4c, .word 0x4c 0x48, .word 0x4c 0x44, .word 0x42 0x14, .word 0x42 0x48, .word 0x42 0x4c, .word 0x42 0x40, .word 0x42 0x44, .word 0x44 0x58] [.mem, .hostData, .notices, .ddr, .rings] s (runStalls a0 s) := by
  unfold Machine.runStalls
  extract_lets x0 x1 x2
  refine Within.via x2 ?_ (fun h3 => ?_)
  · unfold x2
    refine Within.set_mem ?_ (by decide)
    exact Within.refl _ _ _
  · clear_value x2
    refine Within.foldl ?_ (fun _ _ _ h4 => ?_)
    · exact h3
    · refine Within.then ?_ (frame_bar2Run _ _ _) rfl rfl
      refine Within.peak ?_ (inScopes_of rfl)
      exact h4

theorem frame_leaveRefresh (s : State) :
    Within [.word 0x46 0x14, .word 0x46 0x50, .word 0x46 0x58, .word 0x46 0x5c, .word 0x46 0x70, .word 0x46 0x54, .word 0x40 0x14, .word 0x40 0x50, .word 0x40 0x4c, .page 0x41, .word 0x4c 0x14, .word 0x4c 0x50, .word 0x4c 0x4c, .word 0x4c 0x48, .word 0x4c 0x44, .word 0x42 0x14, .word 0x42 0x48, .word 0x42 0x4c, .word 0x42 0x40, .word 0x42 0x44, .word 0x44 0x58, .word 0x46 0x98, .word 0x46 0x88, .word 0x46 0x8c, .word 0x46 0x90] [.mem, .hostData, .notices, .ddr, .rings, .draws] s (leaveRefresh s) := by
  unfold Machine.leaveRefresh
  extract_lets x0 x1
  refine Within.via x1 ?_ (fun h2 => ?_)
  · unfold x1
    refine Within.foldl ?_ (fun _ _ _ h3 => ?_)
    · refine Within.set_mem ?_ (by decide)
      exact Within.refl _ _ _
    · refine Within.then ?_ (frame_runTest _ _) rfl rfl
      exact h3
  · clear_value x1
    refine Within.foldl ?_ (fun _ _ _ h4 => ?_)
    · exact h2
    · refine Within.then ?_ (frame_runStalls _ _) rfl rfl
      exact h4

theorem frame_feStart (a0 : Nat) (s : State) :
    Within [.page 0x10, .word (0x8 + a0 % 4) 0x5c, .word (0x8 + a0 % 4) 0x4c] [.lanes, .fes] s (feStart a0 s) := by
  unfold Machine.feStart
  extract_lets x0
  refine Within.via x0 ?_ (fun h1 => ?_)
  · unfold x0
    refine Within.then ?_ (frame_applyTuning _ _) rfl rfl
    exact Within.refl _ _ _
  · clear_value x0
    refine Within.after ?_ (frame_startCals _ _ _ _) (amongCons rfl (amongCons (by simp [Scope.among, fePage, schedPage, ethPage, ethStatPage]) (amongCons (by simp [Scope.among, fePage, schedPage, ethPage, ethStatPage]) amongNil))) rfl
    refine Within.after ?_ (frame_setRf _ _ _) (amongCons rfl (amongCons (by simp [Scope.among, fePage, schedPage, ethPage, ethStatPage]) (amongCons (by simp [Scope.among, fePage, schedPage, ethPage, ethStatPage]) amongNil))) rfl
    exact h1

theorem frame_takeShaper (a0 : Nat) (a1 : Nat) (s : State) :
    Within [] [.scheds] s (takeShaper a0 a1 s) := by
  unfold Machine.takeShaper
  extract_lets x0
  refine Within.then ?_ (frame_modSched _ _ _) rfl rfl
  exact Within.refl _ _ _

theorem frame_fillBuckets (a0 : Nat) (s : State) :
    Within [.page (0x24 + a0 % 4)] [.scheds] s (fillBuckets a0 s) := by
  unfold Machine.fillBuckets
  refine Within.foldl ?_ (fun _ _ _ h0 => ?_)
  · exact Within.refl _ _ _
  · extract_lets x1 x2
    refine Within.via x1 ?_ (fun h3 => ?_)
    · unfold x1
      refine Within.then ?_ (frame_takeShaper _ _ _) rfl rfl
      exact h0
    · clear_value x1
      refine Within.wr ?_ (inScopes_of (by simp [Scope.among, fePage, schedPage, ethPage, ethStatPage, F.SCHED.Q_LEVEL_C]))
      refine Within.wr ?_ (inScopes_of (by simp [Scope.among, fePage, schedPage, ethPage, ethStatPage, F.SCHED.Q_LEVEL_P]))
      exact h3

theorem frame_enterRun (a0 : Nat) (s : State) :
    Within [.page 0x24, .page 0x25, .page 0x26, .page 0x27, .word 0x4c 0x14, .word 0x4c 0x50, .word 0x4c 0x4c, .word 0x4c 0x48, .word 0x4c 0x44, .page 0x41, .page 0x1b, .word 0x20 0xdc, .word 0x20 0xd8, .word 0x20 0xd4, .word 0x20 0xd0, .word 0x38 0x74, .word 0x39 0x74, .word 0x38 0x70, .word 0x39 0x70, .word 0x38 0x14, .word 0x39 0x14, .word 0x38 0x78, .word 0x39 0x78, .page 0x3a, .page 0x3b, .word 0x38 0xac, .word 0x39 0xac] [.scheds, .ports, .notices, .rings, .ddr, .nodes, .ledger] s (enterRun a0 s) := by
  unfold Machine.enterRun
  split
  · refine Within.then ?_ (frame_fillBuckets _ _) rfl rfl
    exact Within.refl _ _ _
  · refine Within.then ?_ (frame_fillBuckets _ _) rfl rfl
    exact Within.refl _ _ _
  · refine Within.then ?_ (frame_fillBuckets _ _) rfl rfl
    exact Within.refl _ _ _
  · refine Within.then ?_ (frame_fillBuckets _ _) rfl rfl
    exact Within.refl _ _ _
  · refine Within.then ?_ (frame_refreshLink _ _) rfl rfl
    refine Within.then ?_ (frame_modPort _ _ _) rfl rfl
    exact Within.refl _ _ _
  · refine Within.then ?_ (frame_refreshLink _ _) rfl rfl
    refine Within.then ?_ (frame_modPort _ _ _) rfl rfl
    exact Within.refl _ _ _
  · exact Within.refl _ _ _

theorem frame_returnPage (a0 : Nat) (a1 : Nat) (s : State) :
    Within [.page 0x10, .word 0x8 0x5c, .word 0x9 0x5c, .word 0xa 0x5c, .word 0xb 0x5c, .word 0x8 0x4c, .word 0x9 0x4c, .word 0xa 0x4c, .word 0xb 0x4c, .page 0x24, .page 0x25, .page 0x26, .page 0x27, .word 0x4c 0x14, .word 0x4c 0x50, .word 0x4c 0x4c, .word 0x4c 0x48, .word 0x4c 0x44, .page 0x41, .page 0x1b, .word 0x20 0xdc, .word 0x20 0xd8, .word 0x20 0xd4, .word 0x20 0xd0, .word 0x38 0x74, .word 0x39 0x74, .word 0x38 0x70, .word 0x39 0x70, .word 0x38 0x14, .word 0x39 0x14, .word 0x38 0x78, .word 0x39 0x78, .page 0x3a, .page 0x3b, .word 0x38 0xac, .word 0x39 0xac, .word a0 0x14, .word a0 0xc] [.lanes, .fes, .scheds, .ports, .notices, .rings, .ddr, .nodes, .ledger] s (returnPage a0 a1 s) := by
  unfold Machine.returnPage
  split
  · refine Within.ite ?_ ?_
    · refine Within.after ?_ (frame_feStart _ _) (amongCons rfl (amongCons (amongW4 rfl) (amongCons (amongW4 rfl) amongNil))) rfl
      refine Within.after ?_ (frame_setPageState _ _ _) (amongCons (amongAt 36 rfl) (amongCons (amongAt 37 rfl) amongNil)) rfl
      exact Within.refl _ _ _
    · refine Within.then ?_ (frame_refreshListen _) rfl rfl
      refine Within.after ?_ (frame_setRf _ _ _) (amongCons rfl (amongCons (amongW4 rfl) (amongCons (amongW4 rfl) amongNil))) rfl
      exact Within.refl _ _ _
  · extract_lets x0 x1 x2 x3 x4 x5 x6 x7
    refine Within.via x7 ?_ (fun h8 => ?_)
    · unfold x7
      refine Within.after ?_ (frame_setPageState _ _ _) (amongCons (amongAt 36 rfl) (amongCons (amongAt 37 rfl) amongNil)) rfl
      exact Within.refl _ _ _
    · clear_value x7
      refine Within.ite ?_ ?_
      · refine Within.then ?_ (frame_enterRun _ _) rfl rfl
        exact h8
      · exact h8

theorem frame_clockFault (a0 : Nat) (a1 : Bool) (s : State) :
    Within [.word 0x3 0x10, .word 0x3 0x14] [] s (clockFault a0 a1 s) := by
  unfold Machine.clockFault
  refine Within.ite ?_ ?_
  · exact Within.refl _ _ _
  · refine Within.logCairn ?_
    refine Within.ite ?_ ?_
    · refine Within.raise ?_ (inScopes_of rfl) (inScopes_of rfl)
      exact Within.refl _ _ _
    · refine Within.lower ?_ (inScopes_of rfl)
      exact Within.refl _ _ _

theorem frame_xoFault (s : State) :
    Within [.word 0x3 0x10, .word 0x3 0x14, .word 0x3c 0x70] [.watch] s (xoFault s) := by
  unfold Machine.xoFault
  extract_lets x0 x1
  refine Within.via x1 ?_ (fun h2 => ?_)
  · unfold x1
    refine Within.then ?_ (frame_clockFault _ _ _) rfl rfl
    refine Within.set_watch ?_ (by decide)
    exact Within.refl _ _ _
  · clear_value x1
    refine Within.ite ?_ ?_
    · refine Within.wr ?_ (inScopes_of rfl)
      exact h2
    · exact h2

theorem frame_xoReturn (s : State) :
    Within [.word 0x3 0x10, .word 0x3 0x14] [.watch] s (xoReturn s) := by
  unfold Machine.xoReturn
  refine Within.then ?_ (frame_clockFault _ _ _) rfl rfl
  refine Within.set_watch ?_ (by decide)
  exact Within.refl _ _ _

theorem frame_refclkFaults (s : State) :
    Within [.page 0x24, .page 0x25, .page 0x26, .page 0x27, .word 0x21 0x50, .word 0x21 0x4c, .page 0x1b, .word 0x20 0xdc, .word 0x20 0xd8, .word 0x20 0xd4, .word 0x20 0xd0, .word 0x19 0xb4, .page 0x10, .page 0x31, .word 0x8 0x5c, .word 0x9 0x5c, .word 0xa 0x5c, .word 0xb 0x5c, .word 0x8 0x4c, .word 0x9 0x4c, .word 0xa 0x4c, .word 0xb 0x4c, .word 0x3 0x10, .word 0x3 0x14] [.frames, .scheds, .fes, .duty, .nodes, .ddr, .ledger, .lanes] s (refclkFaults s) := by
  unfold Machine.refclkFaults
  refine Within.foldl ?_ (fun _ _ _ h0 => ?_)
  · refine Within.foldl ?_ (fun _ _ _ h1 => ?_)
    · refine Within.then ?_ (frame_clockFault _ _ _) rfl rfl
      exact Within.refl _ _ _
    · refine Within.after ?_ (frame_cutTx _ _ _) (amongCons rfl (amongCons rfl (amongCons rfl (amongCons rfl (amongCons rfl (amongCons rfl (amongCons rfl (amongCons rfl (amongCons rfl (amongCons rfl (amongCons rfl (amongCons rfl (amongCons rfl (amongCons rfl (amongCons (amongW4 rfl) (amongCons (amongW4 rfl) amongNil)))))))))))))))) rfl
      exact h1
  · refine Within.then ?_ (frame_holdCommitted _ _) rfl rfl
    exact h0

theorem frame_relockAfter (a0 : Nat) (s : State) :
    Within [.page 0x10, .word (0x8 + a0 % 4) 0x5c, .word (0x8 + a0 % 4) 0x4c] [.fes, .lanes] s (relockAfter a0 s) := by
  unfold Machine.relockAfter
  refine Within.ite ?_ ?_
  · refine Within.then ?_ (frame_modFe _ _ _) rfl rfl
    exact Within.refl _ _ _
  · refine Within.after ?_ (frame_relock _ _) (amongCons rfl (amongCons (by simp [Scope.among, fePage, schedPage, ethPage, ethStatPage]) (amongCons (by simp [Scope.among, fePage, schedPage, ethPage, ethStatPage]) amongNil))) rfl
    exact Within.refl _ _ _

theorem frame_synthUnlock (a0 : Nat) (s : State) :
    Within [.page 0x10, .page 0x11, .page 0x31, .page 0x1b, .word 0x20 0xdc, .word 0x20 0xd8, .word 0x20 0xd4, .word 0x20 0xd0, .word 0x19 0xa4, .word 0x19 0xa8, .word 0x19 0xac, .word 0x19 0xb0, .word 0x19 0xb4, .word 0x19 0xb8, .page 0x24, .page 0x25, .page 0x26, .page 0x27, .word 0x21 0x50, .word 0x21 0x4c, .word (0x8 + a0 % 4) 0x5c, .word (0x8 + a0 % 4) 0x4c, .word (0x8 + a0 % 4) 0x14, .word (0x8 + a0 % 4) 0x98] [.fes, .lanes, .nodes, .ddr, .ledger, .scheds, .duty, .frames] s (synthUnlock a0 s) := by
  unfold Machine.synthUnlock
  refine Within.ite ?_ ?_
  · extract_lets x0 x1
    refine Within.via x0 ?_ (fun h2 => ?_)
    · unfold x0
      refine Within.latch ?_ (inScopes_at 22 rfl)
      refine Within.incSat ?_ (inScopes_at 23 rfl)
      exact Within.refl _ _ _
    · clear_value x0
      refine Within.via x1 ?_ (fun h3 => ?_)
      · unfold x1
        refine Within.after ?_ (frame_cutTx _ _ _) (amongCons rfl (amongCons rfl (amongCons rfl (amongCons rfl (amongCons rfl (amongCons rfl (amongCons rfl (amongCons rfl (amongCons rfl (amongCons rfl (amongCons rfl (amongCons rfl (amongCons rfl (amongCons rfl (amongCons (amongAt 20 rfl) (amongCons (amongAt 21 rfl) amongNil)))))))))))))))) rfl
        exact h2
      · clear_value x1
        refine Within.after ?_ (frame_relockAfter _ _) (amongCons rfl (amongCons (amongAt 20 rfl) (amongCons (amongAt 21 rfl) amongNil))) rfl
        refine Within.then ?_ (frame_endLanes _ _ _) rfl rfl
        exact h3
  · exact Within.refl _ _ _

theorem frame_pllUnlock (a0 : Nat) (s : State) :
    Within [.word 0x1 0x14, .word 0x1 0x40] [.plls] s (pllUnlock a0 s) := by
  unfold Machine.pllUnlock
  refine Within.ite ?_ ?_
  · extract_lets x0 x1 x2 x3
    refine Within.via x2 ?_ (fun h4 => ?_)
    · unfold x2
      refine Within.set_plls ?_ (by decide)
      exact Within.refl _ _ _
    · clear_value x2
      refine Within.via x3 ?_ (fun h5 => ?_)
      · unfold x3
        refine Within.clearBits ?_ (inScopes_of rfl)
        exact h4
      · clear_value x3
        refine Within.ite ?_ ?_
        · refine Within.latch ?_ (inScopes_of rfl)
          refine Within.orBits ?_ (inScopes_of rfl)
          exact h5
        · exact h5
  · exact Within.refl _ _ _

theorem frame_refclkAbsent (s : State) :
    Within [.word 0x1 0x14, .word 0x1 0x40, .page 0x10, .page 0x11, .page 0x31, .page 0x1b, .word 0x20 0xdc, .word 0x20 0xd8, .word 0x20 0xd4, .word 0x20 0xd0, .word 0x19 0xa4, .word 0x19 0xa8, .word 0x19 0xac, .word 0x19 0xb0, .word 0x19 0xb4, .word 0x19 0xb8, .page 0x24, .page 0x25, .page 0x26, .page 0x27, .word 0x21 0x50, .word 0x21 0x4c, .word 0x8 0x5c, .word 0x9 0x5c, .word 0xa 0x5c, .word 0xb 0x5c, .word 0x8 0x4c, .word 0x9 0x4c, .word 0xa 0x4c, .word 0xb 0x4c, .word 0x8 0x14, .word 0x9 0x14, .word 0xa 0x14, .word 0xb 0x14, .word 0x8 0x98, .word 0x9 0x98, .word 0xa 0x98, .word 0xb 0x98, .word 0x3 0x10, .word 0x3 0x14, .word 0x3c 0x70] [.plls, .fes, .lanes, .nodes, .ddr, .ledger, .scheds, .duty, .frames, .watch] s (refclkAbsent s) := by
  unfold Machine.refclkAbsent
  extract_lets x0 x1 x2 x3 x4 x5 x6 x7 x8 x9 x10
  refine Within.via x8 ?_ (fun h11 => ?_)
  · unfold x8
    refine Within.then ?_ (frame_refclkFaults _) rfl rfl
    refine Within.set_watch ?_ (by decide)
    exact Within.refl _ _ _
  · clear_value x8
    refine Within.via x9 ?_ (fun h12 => ?_)
    · unfold x9
      refine Within.foldl ?_ (fun _ _ _ h13 => ?_)
      · exact h11
      · refine Within.after ?_ (frame_synthUnlock _ _) (amongCons rfl (amongCons rfl (amongCons rfl (amongCons rfl (amongCons rfl (amongCons rfl (amongCons rfl (amongCons rfl (amongCons rfl (amongCons rfl (amongCons rfl (amongCons rfl (amongCons rfl (amongCons rfl (amongCons rfl (amongCons rfl (amongCons rfl (amongCons rfl (amongCons rfl (amongCons rfl (amongCons (amongW4 rfl) (amongCons (amongW4 rfl) (amongCons (amongW4 rfl) (amongCons (amongW4 rfl) amongNil)))))))))))))))))))))))) rfl
        exact h13
    · clear_value x9
      refine Within.via x10 ?_ (fun h14 => ?_)
      · unfold x10
        refine Within.foldl ?_ (fun _ _ _ h15 => ?_)
        · exact h12
        · refine Within.then ?_ (frame_pllUnlock _ _) rfl rfl
          exact h15
      · clear_value x10
        refine Within.ite ?_ ?_
        · refine Within.wr ?_ (inScopes_of rfl)
          exact h14
        · exact h14

theorem frame_coarseCheck (a0 : Nat) (s : State) :
    Within [.page 0x24, .page 0x25, .page 0x26, .page 0x27, .word 0x21 0x50, .word 0x21 0x4c, .page 0x1b, .word 0x20 0xdc, .word 0x20 0xd8, .word 0x20 0xd4, .word 0x20 0xd0, .word 0x19 0xb4, .page 0x10, .page 0x31, .word 0x8 0x5c, .word 0x9 0x5c, .word 0xa 0x5c, .word 0xb 0x5c, .word 0x8 0x4c, .word 0x9 0x4c, .word 0xa 0x4c, .word 0xb 0x4c, .word 0x3 0x10, .word 0x3 0x14] [.frames, .scheds, .fes, .duty, .nodes, .ddr, .ledger, .lanes] s (coarseCheck a0 s) := by
  unfold Machine.coarseCheck
  extract_lets x0 x1
  refine Within.ite ?_ ?_
  · exact Within.refl _ _ _
  · refine Within.then ?_ (frame_refclkFaults _) rfl rfl
    exact Within.refl _ _ _

theorem frame_learnRatio (a0 : Nat) (s : State) :
    Within [.word 0x1 0x50] [.watch] s (learnRatio a0 s) := by
  unfold Machine.learnRatio
  extract_lets x0 x1 x2 x3
  refine Within.ite ?_ ?_
  · exact Within.refl _ _ _
  · refine Within.wr ?_ (inScopes_of rfl)
    refine Within.set_watch ?_ (by decide)
    exact Within.refl _ _ _

theorem frame_fineGate (a0 : Nat) (s : State) :
    Within [.word 0x3 0x10, .word 0x3 0x14, .word 0x1 0x4c, .word 0x1 0x50, .page 0x24, .page 0x25, .page 0x26, .page 0x27, .word 0x21 0x50, .word 0x21 0x4c, .page 0x1b, .word 0x20 0xdc, .word 0x20 0xd8, .word 0x20 0xd4, .word 0x20 0xd0, .word 0x19 0xb4, .page 0x10, .page 0x31, .word 0x8 0x5c, .word 0x9 0x5c, .word 0xa 0x5c, .word 0xb 0x5c, .word 0x8 0x4c, .word 0x9 0x4c, .word 0xa 0x4c, .word 0xb 0x4c] [.watch, .frames, .scheds, .fes, .duty, .nodes, .ddr, .ledger, .lanes] s (fineGate a0 s) := by
  unfold Machine.fineGate
  refine Within.ite ?_ ?_
  · exact Within.refl _ _ _
  · extract_lets x0 x1 x2 x3 x4 x5 x6 x7 x8
    refine Within.via x1 ?_ (fun h9 => ?_)
    · unfold x1
      refine Within.set_watch ?_ (by decide)
      exact Within.refl _ _ _
    · clear_value x1
      refine Within.via x5 ?_ (fun h10 => ?_)
      · unfold x5
        refine Within.ite ?_ ?_
        · refine Within.wr ?_ (inScopes_of rfl)
          refine Within.wr ?_ (inScopes_of rfl)
          refine Within.set_watch ?_ (by decide)
          exact h9
        · exact h9
      · clear_value x5
        refine Within.via x7 ?_ (fun h11 => ?_)
        · unfold x7
          refine Within.wrInt ?_ (inScopes_of rfl)
          refine Within.wr ?_ (inScopes_of rfl)
          exact h10
        · clear_value x7
          refine Within.via x8 ?_ (fun h12 => ?_)
          · unfold x8
            refine Within.ite ?_ ?_
            · exact h11
            · refine Within.then ?_ (frame_learnRatio _ _) rfl rfl
              exact h11
          · clear_value x8
            refine Within.ite ?_ ?_
            · refine Within.then ?_ (frame_clockFault _ _ _) rfl rfl
              exact h12
            · refine Within.then ?_ (frame_refclkFaults _) rfl rfl
              exact h12

theorem frame_sdsrefMeasure (a0 : ℤ) (s : State) :
    Within [.word 0x1 0x10, .word 0x1 0x14, .word 0x1 0x54] [] s (sdsrefMeasure a0 s) := by
  unfold Machine.sdsrefMeasure
  extract_lets x0
  refine Within.via x0 ?_ (fun h1 => ?_)
  · unfold x0
    refine Within.wr ?_ (inScopes_of rfl)
    refine Within.wrInt ?_ (inScopes_of rfl)
    exact Within.refl _ _ _
  · clear_value x0
    refine Within.ite ?_ ?_
    · refine Within.raise ?_ (inScopes_of rfl) (inScopes_of rfl)
      exact h1
    · refine Within.lower ?_ (inScopes_of rfl)
      exact h1

theorem frame_pllRequest (a0 : Nat) (s : State) :
    Within [] [.plls] s (pllRequest a0 s) := by
  unfold Machine.pllRequest
  extract_lets x0
  refine Within.set_plls ?_ (by decide)
  exact Within.refl _ _ _

theorem frame_pllLock (a0 : Nat) (s : State) :
    Within [.word 0x1 0x40] [.plls] s (pllLock a0 s) := by
  unfold Machine.pllLock
  extract_lets x0
  refine Within.ite ?_ ?_
  · refine Within.orBits ?_ (inScopes_of rfl)
    refine Within.set_plls ?_ (by decide)
    exact Within.refl _ _ _
  · exact Within.refl _ _ _

theorem frame_pllHoldExpiry (a0 : Nat) (s : State) :
    Within [.word 0x1 0x40] [.plls] s (pllHoldExpiry a0 s) := by
  unfold Machine.pllHoldExpiry
  extract_lets x0
  refine Within.ite ?_ ?_
  · refine Within.set_plls ?_ (by decide)
    exact Within.refl _ _ _
  · refine Within.clearBits ?_ (inScopes_of rfl)
    refine Within.set_plls ?_ (by decide)
    exact Within.refl _ _ _

theorem frame_tempLevel (a0 : Nat) (a1 : ℤ) (a2 : ℤ) (a3 : List ℤ) (s : State) :
    Within [.word 0x2 0x10, .word 0x2 0x14] [] s (tempLevel a0 a1 a2 a3 s) := by
  unfold Machine.tempLevel
  refine Within.ite ?_ ?_
  · refine Within.ite ?_ ?_
    · exact Within.refl _ _ _
    · refine Within.raise ?_ (inScopes_of rfl) (inScopes_of rfl)
      exact Within.refl _ _ _
  · refine Within.ite ?_ ?_
    · refine Within.lower ?_ (inScopes_of rfl)
      exact Within.refl _ _ _
    · exact Within.refl _ _ _

theorem frame_tempSample (a0 : List ℤ) (s : State) :
    Within [.page 0x2, .page 0x24, .page 0x25, .page 0x26, .page 0x27] [.frames, .scheds, .fes, .duty] s (tempSample a0 s) := by
  unfold Machine.tempSample
  extract_lets x0 x1 x2 x3 x4 x5
  refine Within.via x0 ?_ (fun h6 => ?_)
  · unfold x0
    refine Within.foldl ?_ (fun _ _ _ h7 => ?_)
    · exact Within.refl _ _ _
    · refine Within.wr ?_ (inScopes_of rfl)
      refine Within.wrInt ?_ (inScopes_of rfl)
      exact h7
  · clear_value x0
    refine Within.via x3 ?_ (fun h8 => ?_)
    · unfold x3
      refine Within.then ?_ (frame_tempLevel _ _ _ _ _) rfl rfl
      refine Within.then ?_ (frame_tempLevel _ _ _ _ _) rfl rfl
      exact h6
    · clear_value x3
      refine Within.via x4 ?_ (fun h9 => ?_)
      · unfold x4
        refine Within.foldl ?_ (fun _ _ _ h10 => ?_)
        · exact h8
        · refine Within.then ?_ (frame_holdCommitted _ _) rfl rfl
          exact h10
      · clear_value x4
        refine Within.ite ?_ ?_
        · refine Within.logCairn ?_
          exact h9
        · exact h8

theorem frame_spiDiscard (s : State) :
    Within [.word 0x4e 0x14, .word 0x4e 0x44] [] s (spiDiscard s) := by
  unfold Machine.spiDiscard
  refine Within.latch ?_ (inScopes_of rfl)
  refine Within.incSat ?_ (inScopes_of rfl)
  exact Within.refl _ _ _

theorem frame_noPage (a0 : Nat) (a1 : Nat) (a2 : Route) (s : State) :
    Within [.word 0x40 0x14, .word 0x40 0x50, .word 0x40 0x4c, .word 0x4e 0x14, .word 0x4e 0x44] [.spi] s (noPage a0 a1 a2 s) := by
  unfold Machine.noPage
  split
  · refine Within.then ?_ (frame_unmapped _ _ _ _) rfl rfl
    exact Within.refl _ _ _
  · refine Within.then ?_ (frame_spiDiscard _) rfl rfl
    refine Within.set_spi ?_ (by decide)
    exact Within.refl _ _ _

theorem frame_reject (a0 : Nat) (a1 : Nat) (a2 : Route) (a3 : Reason) (a4 : Word) (s : State) :
    Within [.word a0 0x14, .word a0 0x28, .word a0 0x24, .word a0 0x20] [.spi] s (reject a0 a1 a2 a3 a4 s) := by
  unfold Machine.reject
  extract_lets x0 x1 x2 x3 x4 x5 x6
  refine Within.via x0 ?_ (fun h7 => ?_)
  · unfold x0
    refine Within.wr ?_ (inScopes_of (by simp [Scope.among, fePage, schedPage, ethPage, ethStatPage, F.HEAD.REJECT_ADDR_OFFSET]))
    exact Within.refl _ _ _
  · clear_value x0
    refine Within.via x1 ?_ (fun h8 => ?_)
    · unfold x1
      refine Within.wr ?_ (inScopes_of (by simp [Scope.among, fePage, schedPage, ethPage, ethStatPage, F.HEAD.REJECT_ADDR_REASON]))
      exact h7
    · clear_value x1
      refine Within.via x2 ?_ (fun h9 => ?_)
      · unfold x2
        refine Within.wr ?_ (inScopes_of (by simp [Scope.among, fePage, schedPage, ethPage, ethStatPage, F.HEAD.REJECT_ADDR_ROUTE]))
        exact h8
      · clear_value x2
        refine Within.via x3 ?_ (fun h10 => ?_)
        · unfold x3
          refine Within.wr ?_ (inScopes_of (by simp [Scope.among, fePage, schedPage, ethPage, ethStatPage, F.HEAD.REJECT_DATA]))
          exact h9
        · clear_value x3
          refine Within.via x4 ?_ (fun h11 => ?_)
          · unfold x4
            refine Within.incSat ?_ (inScopes_of (by simp [Scope.among, fePage, schedPage, ethPage, ethStatPage, F.HEAD.REJECT_COUNT]))
            exact h10
          · clear_value x4
            refine Within.via x5 ?_ (fun h12 => ?_)
            · unfold x5
              refine Within.latch ?_ (inScopes_of (by simp [Scope.among, fePage, schedPage, ethPage, ethStatPage, F.HEAD.EVT_LATCH]))
              exact h11
            · clear_value x5
              split
              · exact h12
              · refine Within.set_spi ?_ (by decide)
                exact h12

theorem frame_beginDrain (a0 : Nat) (s : State) :
    Within [.page 0x24, .page 0x25, .page 0x26, .page 0x27, .word 0x21 0x50, .word 0x21 0x4c, .page 0x1b, .word 0x20 0xdc, .word 0x20 0xd8, .word 0x20 0xd4, .word 0x20 0xd0, .word 0x19 0xb4, .word 0xc 0x14, .word 0xc 0x4c, .page 0x29, .page 0x10, .page 0x31, .word 0x8 0x5c, .word 0x9 0x5c, .word 0xa 0x5c, .word 0xb 0x5c, .word 0x8 0x4c, .word 0x9 0x4c, .word 0xa 0x4c, .word 0xb 0x4c, .page 0x41] [.frameNumbers, .nodes, .ddr, .ledger, .scheds, .fes, .duty, .frames, .campaigns, .lanes, .ports, .rings] s (beginDrain a0 s) := by
  unfold Machine.beginDrain
  extract_lets x0
  refine Within.via x0 ?_ (fun h1 => ?_)
  · unfold x0
    refine Within.then ?_ (frame_withdrawFor _ _) rfl rfl
    exact Within.refl _ _ _
  · clear_value x0
    split
    · refine Within.then ?_ (frame_endCampaigns _ _) rfl rfl
      exact h1
    · refine Within.then ?_ (frame_modPort _ _ _) rfl rfl
      exact h1
    · refine Within.then ?_ (frame_modPort _ _ _) rfl rfl
      exact h1
    · refine Within.then ?_ (frame_ringsDrain _) rfl rfl
      exact h1
    · exact h1

theorem frame_pageDisable (a0 : Nat) (s : State) :
    Within [.page 0x10, .word 0x8 0x14, .word 0x9 0x14, .word 0xa 0x14, .word 0xb 0x14, .word 0x8 0x30, .word 0x9 0x30, .word 0xa 0x30, .word 0xb 0x30, .word 0x8 0x5c, .word 0x9 0x5c, .word 0xa 0x5c, .word 0xb 0x5c, .word 0x8 0x4c, .word 0x9 0x4c, .word 0xa 0x4c, .word 0xb 0x4c, .word 0x8 0x78, .word 0x9 0x78, .word 0xa 0x78, .word 0xb 0x78, .word 0xb 0x50, .page 0x11, .page 0x31, .page 0x1b, .word 0x20 0xdc, .word 0x20 0xd8, .word 0x20 0xd4, .word 0x20 0xd0, .word 0x19 0xa4, .word 0x19 0xa8, .word 0x19 0xac, .word 0x19 0xb0, .word 0x19 0xb4, .word 0x19 0xb8, .page 0x24, .page 0x25, .page 0x26, .page 0x27, .word 0x21 0x50, .word 0x21 0x4c, .word 0x4c 0x14, .word 0x4c 0x50, .word 0x4c 0x4c, .word 0x4c 0x48, .word 0x4c 0x44, .page 0x41, .word 0x38 0x74, .word 0x39 0x74, .word 0x38 0x70, .word 0x39 0x70, .word 0x38 0x14, .word 0x39 0x14, .word 0x38 0x78, .word 0x39 0x78, .page 0x3a, .page 0x3b, .word 0x38 0xac, .word 0x39 0xac, .word 0x4a 0x58, .word 0x4a 0x14, .word 0x4a 0x50, .word 0xc 0x14, .word 0xc 0x4c, .page 0x29, .word a0 0xc, .word a0 0x14, .word a0 0x30] [.ports, .lanes, .fes, .relief, .nodes, .ddr, .ledger, .scheds, .duty, .frames, .notices, .rings, .clock, .rope, .poolTest, .engines, .frameNumbers, .campaigns] s (pageDisable a0 s) := by
  unfold Machine.pageDisable
  extract_lets x0 x1 x2 x3 x4 x5 x6 x7 x8 x9 x10 x11 x12 x13 x14 x15 x16 x17 x18
  refine Within.via x16 ?_ (fun h19 => ?_)
  · unfold x16
    refine Within.after ?_ (frame_cancelWaiting _ _) (amongCons rfl (amongCons rfl (amongCons rfl (amongCons rfl (amongCons (amongAt 66 rfl) (amongCons (amongAt 67 rfl) amongNil)))))) rfl
    exact Within.refl _ _ _
  · clear_value x16
    refine Within.via x17 ?_ (fun h20 => ?_)
    · unfold x17
      refine Within.after ?_ (frame_toStopped _ _ _) (amongCons rfl (amongCons rfl (amongCons rfl (amongCons rfl (amongCons rfl (amongCons rfl (amongCons rfl (amongCons rfl (amongCons rfl (amongCons rfl (amongCons rfl (amongCons rfl (amongCons rfl (amongCons rfl (amongCons rfl (amongCons rfl (amongCons rfl (amongCons rfl (amongCons rfl (amongCons rfl (amongCons rfl (amongCons rfl (amongCons rfl (amongCons rfl (amongCons rfl (amongCons rfl (amongCons rfl (amongCons rfl (amongCons rfl (amongCons rfl (amongCons rfl (amongCons rfl (amongCons rfl (amongCons rfl (amongCons rfl (amongCons rfl (amongCons rfl (amongCons rfl (amongCons rfl (amongCons rfl (amongCons rfl (amongCons rfl (amongCons rfl (amongCons rfl (amongCons rfl (amongCons rfl (amongCons rfl (amongCons rfl (amongCons rfl (amongCons rfl (amongCons rfl (amongCons rfl (amongCons rfl (amongCons rfl (amongCons rfl (amongCons rfl (amongCons rfl (amongCons rfl (amongCons rfl (amongCons rfl (amongCons rfl (amongCons rfl (amongCons (amongAt 65 rfl) (amongCons (amongAt 66 rfl) amongNil)))))))))))))))))))))))))))))))))))))))))))))))))))))))))))))))) rfl
      exact h19
    · clear_value x17
      refine Within.via x18 ?_ (fun h21 => ?_)
      · unfold x18
        refine Within.then ?_ (frame_beginDrain _ _) rfl rfl
        refine Within.after ?_ (frame_setPageState _ _ _) (amongCons (amongAt 66 rfl) (amongCons (amongAt 65 rfl) amongNil)) rfl
        exact h19
      · clear_value x18
        refine Within.ite ?_ ?_
        · refine Within.ite ?_ ?_
          · refine Within.then ?_ (frame_modPort _ _ _) rfl rfl
            exact h20
          · exact h20
        · refine Within.ite ?_ ?_
          · refine Within.ite ?_ ?_
            · refine Within.after ?_ (frame_toStopped _ _ _) (amongCons rfl (amongCons rfl (amongCons rfl (amongCons rfl (amongCons rfl (amongCons rfl (amongCons rfl (amongCons rfl (amongCons rfl (amongCons rfl (amongCons rfl (amongCons rfl (amongCons rfl (amongCons rfl (amongCons rfl (amongCons rfl (amongCons rfl (amongCons rfl (amongCons rfl (amongCons rfl (amongCons rfl (amongCons rfl (amongCons rfl (amongCons rfl (amongCons rfl (amongCons rfl (amongCons rfl (amongCons rfl (amongCons rfl (amongCons rfl (amongCons rfl (amongCons rfl (amongCons rfl (amongCons rfl (amongCons rfl (amongCons rfl (amongCons rfl (amongCons rfl (amongCons rfl (amongCons rfl (amongCons rfl (amongCons rfl (amongCons rfl (amongCons rfl (amongCons rfl (amongCons rfl (amongCons rfl (amongCons rfl (amongCons rfl (amongCons rfl (amongCons rfl (amongCons rfl (amongCons rfl (amongCons rfl (amongCons rfl (amongCons rfl (amongCons rfl (amongCons rfl (amongCons rfl (amongCons rfl (amongCons rfl (amongCons rfl (amongCons (amongAt 65 rfl) (amongCons (amongAt 66 rfl) amongNil)))))))))))))))))))))))))))))))))))))))))))))))))))))))))))))))) rfl
              exact h21
            · exact h21
          · exact h19

theorem frame_resetMeter (a0 : Nat) (s : State) :
    Within [] [.meters] s (resetMeter a0 s) := by
  unfold Machine.resetMeter
  extract_lets x0 x1
  refine Within.set_meters ?_ (by decide)
  exact Within.refl _ _ _

theorem frame_showTsq (a0 : Nat) (s : State) :
    Within [.page 0x3d] [] s (showTsq a0 s) := by
  unfold Machine.showTsq
  extract_lets x0 x1 x2
  refine Within.via x1 ?_ (fun h3 => ?_)
  · unfold x1
    refine Within.wr ?_ (inScopes_of rfl)
    exact Within.refl _ _ _
  · clear_value x1
    refine Within.foldl ?_ (fun _ _ _ h4 => ?_)
    · exact h3
    · refine Within.wr ?_ (inScopes_of rfl)
      exact h4

theorem frame_ringsDiscard (s : State) :
    Within [.page 0x1b, .word 0x20 0xdc, .word 0x20 0xd8, .word 0x20 0xd4, .word 0x20 0xd0, .page 0x41] [.nodes, .ddr, .ledger, .rings] s (ringsDiscard s) := by
  unfold Machine.ringsDiscard
  extract_lets x0
  refine Within.via x0 ?_ (fun h1 => ?_)
  · unfold x0
    refine Within.then ?_ (frame_ringsDrain _) rfl rfl
    exact Within.refl _ _ _
  · clear_value x0
    refine Within.foldl ?_ (fun _ _ _ h2 => ?_)
    · exact h1
    · extract_lets x3
      refine Within.foldl ?_ (fun _ _ _ h4 => ?_)
      · refine Within.then ?_ (frame_modRing _ _ _) rfl rfl
        exact h2
      · refine Within.then ?_ (frame_endItem _ _ _) rfl rfl
        exact h4

theorem frame_blockReset (a0 : Nat) (s : State) :
    Within [.page 0x10, .word 0x8 0x14, .word 0x9 0x14, .word 0xa 0x14, .word 0xb 0x14, .word 0x8 0x30, .word 0x9 0x30, .word 0xa 0x30, .word 0xb 0x30, .word 0x8 0x5c, .word 0x9 0x5c, .word 0xa 0x5c, .word 0xb 0x5c, .word 0x8 0x4c, .word 0x9 0x4c, .word 0xa 0x4c, .word 0xb 0x4c, .word 0x8 0x78, .word 0x9 0x78, .word 0xa 0x78, .word 0xb 0x78, .word 0xb 0x50, .page 0x11, .page 0x31, .page 0x1b, .word 0x20 0xdc, .word 0x20 0xd8, .word 0x20 0xd4, .word 0x20 0xd0, .word 0x19 0xa4, .word 0x19 0xa8, .word 0x19 0xac, .word 0x19 0xb0, .word 0x19 0xb4, .word 0x19 0xb8, .page 0x24, .page 0x25, .page 0x26, .page 0x27, .word 0x21 0x50, .word 0x21 0x4c, .word 0x4c 0x14, .word 0x4c 0x50, .word 0x4c 0x4c, .word 0x4c 0x48, .word 0x4c 0x44, .page 0x41, .word 0x38 0x74, .word 0x39 0x74, .word 0x38 0x70, .word 0x39 0x70, .word 0x38 0x14, .word 0x39 0x14, .word 0x38 0x78, .word 0x39 0x78, .page 0x3a, .page 0x3b, .word 0x38 0xac, .word 0x39 0xac, .word 0x30 0x14, .page 0x80, .word 0x30 0xb8, .page 0x3d, .word a0 0x14, .word a0 0xc] [.lanes, .fes, .relief, .nodes, .ddr, .ledger, .scheds, .duty, .frames, .ports, .notices, .rings, .tracks, .peers, .meters, .keyOp] s (blockReset a0 s) := by
  unfold Machine.blockReset
  refine Within.ite ?_ ?_
  · refine Within.after ?_ (frame_setPageState _ _ _) (amongCons (amongAt 63 rfl) (amongCons (amongAt 64 rfl) amongNil)) rfl
    exact Within.refl _ _ _
  · extract_lets x0 x1 x2 x3 x4 x5 x6 x7 x8 x9 x10 x11 x12 x13 x14 x15
    refine Within.via x15 ?_ (fun h16 => ?_)
    · unfold x15
      refine Within.after ?_ (frame_setPageState _ _ _) (amongCons (amongAt 63 rfl) (amongCons (amongAt 64 rfl) amongNil)) rfl
      exact Within.refl _ _ _
    · clear_value x15
      split
      · refine Within.then ?_ (frame_restFe _ _ _) rfl rfl
        exact h16
      · refine Within.then ?_ (frame_restFe _ _ _) rfl rfl
        exact h16
      · refine Within.then ?_ (frame_restFe _ _ _) rfl rfl
        exact h16
      · refine Within.then ?_ (frame_restFe _ _ _) rfl rfl
        exact h16
      · refine Within.then ?_ (frame_refreshLink _ _) rfl rfl
        exact h16
      · refine Within.then ?_ (frame_refreshLink _ _) rfl rfl
        exact h16
      · refine Within.foldl ?_ (fun _ _ _ h17 => ?_)
        · exact h16
        · refine Within.then ?_ (frame_modFe _ _ _) rfl rfl
          exact h17
      · refine Within.upd (by (try dsimp only) <;> exact rfl) (fun p hp => by cases p <;> first | rfl | exact ⟨rfl, rfl⟩ | exact ⟨rfl, rfl, rfl⟩ | exact absurd (by decide) hp) ?_
        exact h16
      · refine Within.set_tracks ?_ (by decide)
        exact h16
      · refine Within.set_scheds ?_ (by decide)
        exact h16
      · refine Within.set_scheds ?_ (by decide)
        exact h16
      · refine Within.set_scheds ?_ (by decide)
        exact h16
      · refine Within.set_scheds ?_ (by decide)
        exact h16
      · refine Within.foldl ?_ (fun _ _ _ h18 => ?_)
        · exact h16
        · refine Within.then ?_ (frame_resetMeter _ _) rfl rfl
          exact h18
      · refine Within.then ?_ (frame_keysForceStop _) rfl rfl
        exact h16
      · refine Within.foldl ?_ (fun _ _ _ h19 => ?_)
        · exact h16
        · refine Within.then ?_ (frame_showTsq _ _) rfl rfl
          refine Within.then ?_ (frame_modPort _ _ _) rfl rfl
          exact h19
      · refine Within.then ?_ (frame_ringsDiscard _) rfl rfl
        exact h16
      · refine Within.then ?_ (frame_dropNotices _) rfl rfl
        exact h16
      · exact h16

theorem frame_pageForceStop (a0 : Nat) (s : State) :
    Within [.page 0x10, .word 0x8 0x14, .word 0x9 0x14, .word 0xa 0x14, .word 0xb 0x14, .word 0x8 0x30, .word 0x9 0x30, .word 0xa 0x30, .word 0xb 0x30, .word 0x8 0x5c, .word 0x9 0x5c, .word 0xa 0x5c, .word 0xb 0x5c, .word 0x8 0x4c, .word 0x9 0x4c, .word 0xa 0x4c, .word 0xb 0x4c, .word 0x8 0x78, .word 0x9 0x78, .word 0xa 0x78, .word 0xb 0x78, .word 0xb 0x50, .page 0x11, .page 0x31, .page 0x1b, .word 0x20 0xdc, .word 0x20 0xd8, .word 0x20 0xd4, .word 0x20 0xd0, .word 0x19 0xa4, .word 0x19 0xa8, .word 0x19 0xac, .word 0x19 0xb0, .word 0x19 0xb4, .word 0x19 0xb8, .page 0x24, .page 0x25, .page 0x26, .page 0x27, .word 0x21 0x50, .word 0x21 0x4c, .word 0x4c 0x14, .word 0x4c 0x50, .word 0x4c 0x4c, .word 0x4c 0x48, .word 0x4c 0x44, .page 0x41, .word 0x38 0x74, .word 0x39 0x74, .word 0x38 0x70, .word 0x39 0x70, .word 0x38 0x14, .word 0x39 0x14, .word 0x38 0x78, .word 0x39 0x78, .page 0x3a, .page 0x3b, .word 0x38 0xac, .word 0x39 0xac, .word 0x4a 0x58, .word 0x4a 0x14, .word 0x4a 0x50, .word 0x30 0x14, .page 0x80, .word 0x30 0xb8, .word 0xc 0x14, .word 0xc 0x4c, .page 0x29, .word 0x20 0x58, .word 0x22 0x58, .word 0x22 0x54, .word 0x22 0x50, .word 0x32 0x14, .word 0x32 0xa8, .page 0x33, .word 0x40 0x74, .word 0x40 0x78, .word 0x48 0x4c, .word 0x45 0x14, .word 0x45 0x48, .word 0x45 0x4c, .page 0x3d, .word a0 0xc, .word a0 0x14, .word a0 0x30, .word a0 0x8] [.lanes, .fes, .relief, .nodes, .ddr, .ledger, .scheds, .duty, .frames, .ports, .notices, .rings, .clock, .rope, .poolTest, .engines, .keyOp, .frameNumbers, .campaigns, .reasm, .jobs, .copy, .fw, .tracks, .peers, .meters] s (pageForceStop a0 s) := by
  unfold Machine.pageForceStop
  extract_lets x0 x1 x2 x3 x4 x5 x6 x7 x8 x9 x10 x11 x12 x13 x14 x15 x16
  refine Within.via x16 ?_ (fun h17 => ?_)
  · unfold x16
    refine Within.after ?_ (frame_cancelWaiting _ _) (amongCons rfl (amongCons rfl (amongCons rfl (amongCons rfl (amongCons (amongAt 83 rfl) (amongCons (amongAt 84 rfl) amongNil)))))) rfl
    refine Within.ite ?_ ?_
    · refine Within.then ?_ (frame_keysForceStop _) rfl rfl
      exact Within.refl _ _ _
    · exact Within.refl _ _ _
  · clear_value x16
    refine Within.ite ?_ ?_
    · refine Within.after ?_ (frame_toStopped _ _ _) (amongCons rfl (amongCons rfl (amongCons rfl (amongCons rfl (amongCons rfl (amongCons rfl (amongCons rfl (amongCons rfl (amongCons rfl (amongCons rfl (amongCons rfl (amongCons rfl (amongCons rfl (amongCons rfl (amongCons rfl (amongCons rfl (amongCons rfl (amongCons rfl (amongCons rfl (amongCons rfl (amongCons rfl (amongCons rfl (amongCons rfl (amongCons rfl (amongCons rfl (amongCons rfl (amongCons rfl (amongCons rfl (amongCons rfl (amongCons rfl (amongCons rfl (amongCons rfl (amongCons rfl (amongCons rfl (amongCons rfl (amongCons rfl (amongCons rfl (amongCons rfl (amongCons rfl (amongCons rfl (amongCons rfl (amongCons rfl (amongCons rfl (amongCons rfl (amongCons rfl (amongCons rfl (amongCons rfl (amongCons rfl (amongCons rfl (amongCons rfl (amongCons rfl (amongCons rfl (amongCons rfl (amongCons rfl (amongCons rfl (amongCons rfl (amongCons rfl (amongCons rfl (amongCons rfl (amongCons rfl (amongCons rfl (amongCons rfl (amongCons (amongAt 82 rfl) (amongCons (amongAt 83 rfl) amongNil)))))))))))))))))))))))))))))))))))))))))))))))))))))))))))))))) rfl
      exact h17
    · refine Within.ite ?_ ?_
      · refine Within.ite ?_ ?_
        · refine Within.after ?_ (frame_pageDisable _ _) (amongCons rfl (amongCons rfl (amongCons rfl (amongCons rfl (amongCons rfl (amongCons rfl (amongCons rfl (amongCons rfl (amongCons rfl (amongCons rfl (amongCons rfl (amongCons rfl (amongCons rfl (amongCons rfl (amongCons rfl (amongCons rfl (amongCons rfl (amongCons rfl (amongCons rfl (amongCons rfl (amongCons rfl (amongCons rfl (amongCons rfl (amongCons rfl (amongCons rfl (amongCons rfl (amongCons rfl (amongCons rfl (amongCons rfl (amongCons rfl (amongCons rfl (amongCons rfl (amongCons rfl (amongCons rfl (amongCons rfl (amongCons rfl (amongCons rfl (amongCons rfl (amongCons rfl (amongCons rfl (amongCons rfl (amongCons rfl (amongCons rfl (amongCons rfl (amongCons rfl (amongCons rfl (amongCons rfl (amongCons rfl (amongCons rfl (amongCons rfl (amongCons rfl (amongCons rfl (amongCons rfl (amongCons rfl (amongCons rfl (amongCons rfl (amongCons rfl (amongCons rfl (amongCons rfl (amongCons rfl (amongCons rfl (amongCons rfl (amongCons rfl (amongCons rfl (amongCons rfl (amongCons (amongAt 82 rfl) (amongCons (amongAt 83 rfl) (amongCons (amongAt 84 rfl) amongNil)))))))))))))))))))))))))))))))))))))))))))))))))))))))))))))))))))) rfl
          refine Within.wr ?_ (inScopes_at 85 rfl)
          exact h17
        · refine Within.after ?_ (frame_toStopped _ _ _) (amongCons rfl (amongCons rfl (amongCons rfl (amongCons rfl (amongCons rfl (amongCons rfl (amongCons rfl (amongCons rfl (amongCons rfl (amongCons rfl (amongCons rfl (amongCons rfl (amongCons rfl (amongCons rfl (amongCons rfl (amongCons rfl (amongCons rfl (amongCons rfl (amongCons rfl (amongCons rfl (amongCons rfl (amongCons rfl (amongCons rfl (amongCons rfl (amongCons rfl (amongCons rfl (amongCons rfl (amongCons rfl (amongCons rfl (amongCons rfl (amongCons rfl (amongCons rfl (amongCons rfl (amongCons rfl (amongCons rfl (amongCons rfl (amongCons rfl (amongCons rfl (amongCons rfl (amongCons rfl (amongCons rfl (amongCons rfl (amongCons rfl (amongCons rfl (amongCons rfl (amongCons rfl (amongCons rfl (amongCons rfl (amongCons rfl (amongCons rfl (amongCons rfl (amongCons rfl (amongCons rfl (amongCons rfl (amongCons rfl (amongCons rfl (amongCons rfl (amongCons rfl (amongCons rfl (amongCons rfl (amongCons rfl (amongCons rfl (amongCons (amongAt 82 rfl) (amongCons (amongAt 83 rfl) amongNil)))))))))))))))))))))))))))))))))))))))))))))))))))))))))))))))) rfl
          refine Within.then ?_ (frame_abortWork _ _) rfl rfl
          refine Within.after ?_ (frame_abortTest _ _) (amongCons rfl (amongCons rfl (amongCons rfl (amongCons (amongAt 83 rfl) (amongCons (amongAt 84 rfl) amongNil))))) rfl
          exact h17
      · refine Within.ite ?_ ?_
        · refine Within.after ?_ (frame_toStopped _ _ _) (amongCons rfl (amongCons rfl (amongCons rfl (amongCons rfl (amongCons rfl (amongCons rfl (amongCons rfl (amongCons rfl (amongCons rfl (amongCons rfl (amongCons rfl (amongCons rfl (amongCons rfl (amongCons rfl (amongCons rfl (amongCons rfl (amongCons rfl (amongCons rfl (amongCons rfl (amongCons rfl (amongCons rfl (amongCons rfl (amongCons rfl (amongCons rfl (amongCons rfl (amongCons rfl (amongCons rfl (amongCons rfl (amongCons rfl (amongCons rfl (amongCons rfl (amongCons rfl (amongCons rfl (amongCons rfl (amongCons rfl (amongCons rfl (amongCons rfl (amongCons rfl (amongCons rfl (amongCons rfl (amongCons rfl (amongCons rfl (amongCons rfl (amongCons rfl (amongCons rfl (amongCons rfl (amongCons rfl (amongCons rfl (amongCons rfl (amongCons rfl (amongCons rfl (amongCons rfl (amongCons rfl (amongCons rfl (amongCons rfl (amongCons rfl (amongCons rfl (amongCons rfl (amongCons rfl (amongCons rfl (amongCons rfl (amongCons rfl (amongCons (amongAt 82 rfl) (amongCons (amongAt 83 rfl) amongNil)))))))))))))))))))))))))))))))))))))))))))))))))))))))))))))))) rfl
          refine Within.then ?_ (frame_abortWork _ _) rfl rfl
          refine Within.after ?_ (frame_abortTest _ _) (amongCons rfl (amongCons rfl (amongCons rfl (amongCons (amongAt 83 rfl) (amongCons (amongAt 84 rfl) amongNil))))) rfl
          exact h17
        · refine Within.ite ?_ ?_
          · refine Within.after ?_ (frame_blockReset _ _) (amongCons rfl (amongCons rfl (amongCons rfl (amongCons rfl (amongCons rfl (amongCons rfl (amongCons rfl (amongCons rfl (amongCons rfl (amongCons rfl (amongCons rfl (amongCons rfl (amongCons rfl (amongCons rfl (amongCons rfl (amongCons rfl (amongCons rfl (amongCons rfl (amongCons rfl (amongCons rfl (amongCons rfl (amongCons rfl (amongCons rfl (amongCons rfl (amongCons rfl (amongCons rfl (amongCons rfl (amongCons rfl (amongCons rfl (amongCons rfl (amongCons rfl (amongCons rfl (amongCons rfl (amongCons rfl (amongCons rfl (amongCons rfl (amongCons rfl (amongCons rfl (amongCons rfl (amongCons rfl (amongCons rfl (amongCons rfl (amongCons rfl (amongCons rfl (amongCons rfl (amongCons rfl (amongCons rfl (amongCons rfl (amongCons rfl (amongCons rfl (amongCons rfl (amongCons rfl (amongCons rfl (amongCons rfl (amongCons rfl (amongCons rfl (amongCons rfl (amongCons rfl (amongCons rfl (amongCons rfl (amongCons rfl (amongCons rfl (amongCons rfl (amongCons (amongAt 83 rfl) (amongCons (amongAt 82 rfl) amongNil))))))))))))))))))))))))))))))))))))))))))))))))))))))))))))))))) rfl
            exact h17
          · exact h17

theorem frame_pageEnable (a0 : Nat) (s : State) :
    Within [.page 0x10, .word 0x8 0x5c, .word 0x9 0x5c, .word 0xa 0x5c, .word 0xb 0x5c, .word 0x8 0x4c, .word 0x9 0x4c, .word 0xa 0x4c, .word 0xb 0x4c, .word 0x4c 0x14, .word 0x4c 0x50, .word 0x4c 0x4c, .word 0x4c 0x48, .word 0x4c 0x44, .page 0x41, .page 0x1b, .word 0x20 0xdc, .word 0x20 0xd8, .word 0x20 0xd4, .word 0x20 0xd0, .word 0x38 0x74, .word 0x39 0x74, .word 0x38 0x70, .word 0x39 0x70, .word 0x38 0x14, .word 0x39 0x14, .word 0x38 0x78, .word 0x39 0x78, .page 0x3a, .page 0x3b, .word 0x38 0xac, .word 0x39 0xac, .page 0x24, .page 0x25, .page 0x26, .page 0x27, .word a0 0x14, .word a0 0xc] [.lanes, .fes, .ports, .notices, .rings, .ddr, .nodes, .ledger, .scheds] s (pageEnable a0 s) := by
  unfold Machine.pageEnable
  extract_lets x0 x1 x2 x3 x4 x5 x6 x7 x8 x9
  refine Within.via x8 ?_ (fun h10 => ?_)
  · unfold x8
    refine Within.after ?_ (frame_setPageState _ _ _) (amongCons (amongAt 36 rfl) (amongCons (amongAt 37 rfl) amongNil)) rfl
    refine Within.wr ?_ (inScopes_at 37 rfl)
    exact Within.refl _ _ _
  · clear_value x8
    refine Within.via x9 ?_ (fun h11 => ?_)
    · unfold x9
      refine Within.after ?_ (frame_setPageState _ _ _) (amongCons (amongAt 36 rfl) (amongCons (amongAt 37 rfl) amongNil)) rfl
      exact Within.refl _ _ _
    · clear_value x9
      refine Within.ite ?_ ?_
      · split
        · refine Within.after ?_ (frame_feStart _ _) (amongCons rfl (amongCons (amongW4 rfl) (amongCons (amongW4 rfl) amongNil))) rfl
          exact h10
        · refine Within.ite ?_ ?_
          · refine Within.after ?_ (frame_refreshLink _ _) (amongCons rfl (amongCons rfl (amongCons rfl (amongCons rfl (amongCons rfl (amongCons rfl (amongCons rfl (amongCons rfl (amongCons rfl (amongCons rfl (amongCons rfl (amongCons (amongW2 rfl) (amongCons (amongW2 rfl) (amongCons (amongW2 rfl) (amongCons (amongW2 rfl) (amongCons (amongP2 rfl) (amongCons (amongW2 rfl) amongNil))))))))))))))))) rfl
            exact h10
          · exact h10
      · refine Within.ite ?_ ?_
        · refine Within.ite ?_ ?_
          · refine Within.after ?_ (frame_refreshLink _ _) (amongCons rfl (amongCons rfl (amongCons rfl (amongCons rfl (amongCons rfl (amongCons rfl (amongCons rfl (amongCons rfl (amongCons rfl (amongCons rfl (amongCons rfl (amongCons (amongW2 rfl) (amongCons (amongW2 rfl) (amongCons (amongW2 rfl) (amongCons (amongW2 rfl) (amongCons (amongP2 rfl) (amongCons (amongW2 rfl) amongNil))))))))))))))))) rfl
            refine Within.then ?_ (frame_modPort _ _ _) rfl rfl
            exact h11
          · refine Within.then ?_ (frame_enterRun _ _) rfl rfl
            exact h11
        · exact Within.refl _ _ _

theorem frame_feTest (a0 : Nat) (a1 : Nat) (s : State) :
    Within [.page 0x10, .word (0x8 + a0 % 4) 0x5c, .word (0x8 + a0 % 4) 0x4c, .word (0x8 + a0 % 4) 0x14, .word (0x8 + a0 % 4) 0xc, .word (0x8 + a0 % 4) 0x30] [.lanes, .fes] s (feTest a0 a1 s) := by
  unfold Machine.feTest
  extract_lets x0
  refine Within.via x0 ?_ (fun h1 => ?_)
  · unfold x0
    refine Within.after ?_ (frame_setTestResult _ _ _) (amongCons (amongAt 3 rfl) (amongCons (amongAt 5 rfl) amongNil)) rfl
    refine Within.then ?_ (frame_modFe _ _ _) rfl rfl
    exact Within.refl _ _ _
  · clear_value x0
    refine Within.then ?_ (frame_refreshListen _) rfl rfl
    refine Within.after ?_ (frame_startCals _ _ _ _) (amongCons rfl (amongCons (amongAt 1 rfl) (amongCons (amongAt 2 rfl) amongNil))) rfl
    refine Within.after ?_ (frame_setPageState _ _ _) (amongCons (amongAt 3 rfl) (amongCons (amongAt 4 rfl) amongNil)) rfl
    exact h1

theorem frame_engineStill (a0 : EngineTest) (s : State) :
    Within [.page 0x31] [.engines] s (engineStill a0 s) := by
  unfold Machine.engineStill
  split
  · extract_lets x0
    refine Within.wr ?_ (inScopes_of rfl)
    refine Within.set_engineTest ?_ (by decide)
    exact Within.refl _ _ _
  · refine Within.then ?_ (frame_setPageState _ _ _) rfl rfl
    refine Within.then ?_ (frame_engineTestEnd _ _) rfl rfl
    exact Within.refl _ _ _

theorem frame_needRelief (a0 : Relief) (s : State) :
    Within [.page 0x10, .word 0xb 0x5c, .word 0xb 0x4c, .word 0x8 0x14, .word 0x9 0x14, .word 0xa 0x14, .word 0xb 0x14, .word 0x8 0x30, .word 0x9 0x30, .word 0xa 0x30, .word 0xb 0x30, .word 0xb 0x50, .word 0x8 0x78, .word 0x9 0x78, .word 0xa 0x78, .word 0xb 0x78] [.lanes, .fes, .relief] s (needRelief a0 s) := by
  unfold Machine.needRelief
  refine Within.then ?_ (frame_serveRelief _) rfl rfl
  refine Within.set_reliefQueue ?_ (by decide)
  exact Within.refl _ _ _

theorem frame_selfTest (a0 : Nat) (s : State) :
    Within [.page 0x10, .word 0x8 0x5c, .word 0x9 0x5c, .word 0xa 0x5c, .word 0xb 0x5c, .word 0x8 0x4c, .word 0x9 0x4c, .word 0xa 0x4c, .word 0xb 0x4c, .word 0x8 0x14, .word 0x9 0x14, .word 0xa 0x14, .word 0xb 0x14, .word 0x8 0xc, .word 0x9 0xc, .word 0xa 0xc, .word 0xb 0xc, .word 0x8 0x30, .word 0x9 0x30, .word 0xa 0x30, .word 0xb 0x30, .page 0x31, .word 0xb 0x50, .word 0x8 0x78, .word 0x9 0x78, .word 0xa 0x78, .word 0xb 0x78, .page 0x11, .word a0 0x14, .word a0 0x30, .word a0 0xc] [.lanes, .fes, .engines, .relief, .poolTest] s (selfTest a0 s) := by
  unfold Machine.selfTest
  extract_lets x0 x1 x2
  refine Within.via x1 ?_ (fun h3 => ?_)
  · unfold x1
    refine Within.after ?_ (frame_setTestResult _ _ _) (amongCons (amongAt 28 rfl) (amongCons (amongAt 29 rfl) amongNil)) rfl
    exact Within.refl _ _ _
  · clear_value x1
    refine Within.via x2 ?_ (fun h4 => ?_)
    · unfold x2
      refine Within.after ?_ (frame_setTestResult _ _ _) (amongCons (amongAt 28 rfl) (amongCons (amongAt 29 rfl) amongNil)) rfl
      refine Within.after ?_ (frame_setPageState _ _ _) (amongCons (amongAt 28 rfl) (amongCons (amongAt 30 rfl) amongNil)) rfl
      exact Within.refl _ _ _
    · clear_value x2
      refine Within.ite ?_ ?_
      · split
        · refine Within.after ?_ (frame_feTest _ _ _) (amongCons rfl (amongCons (amongW4 rfl) (amongCons (amongW4 rfl) (amongCons (amongW4 rfl) (amongCons (amongW4 rfl) (amongCons (amongW4 rfl) amongNil)))))) rfl
          exact Within.refl _ _ _
        · refine Within.ite ?_ ?_
          · refine Within.then ?_ (frame_engineStill _ _) rfl rfl
            exact h4
          · exact h4
      · refine Within.ite ?_ ?_
        · split
          · refine Within.ite ?_ ?_
            · refine Within.ite ?_ ?_
              · refine Within.then ?_ (frame_feTest _ _ _) rfl rfl
                exact Within.refl _ _ _
              · exact h3
            · refine Within.then ?_ (frame_needRelief _ _) rfl rfl
              refine Within.after ?_ (frame_setTestResult _ _ _) (amongCons (amongAt 28 rfl) (amongCons (amongAt 29 rfl) amongNil)) rfl
              exact Within.refl _ _ _
          · refine Within.ite ?_ ?_
            · refine Within.then ?_ (frame_poolStep _) rfl rfl
              refine Within.after ?_ (frame_setTestResult _ _ _) (amongCons (amongAt 28 rfl) (amongCons (amongAt 29 rfl) amongNil)) rfl
              refine Within.set_poolTest ?_ (by decide)
              exact Within.refl _ _ _
            · refine Within.ite ?_ ?_
              · refine Within.then ?_ (frame_fcryptoStep _) rfl rfl
                refine Within.after ?_ (frame_setTestResult _ _ _) (amongCons (amongAt 28 rfl) (amongCons (amongAt 29 rfl) amongNil)) rfl
                refine Within.set_engineTest ?_ (by decide)
                exact Within.refl _ _ _
              · exact h3
        · exact h3

theorem frame_ctrlApply (a0 : Nat) (a1 : Nat) (s : State) :
    Within [.page 0x10, .word 0x8 0x5c, .word 0x9 0x5c, .word 0xa 0x5c, .word 0xb 0x5c, .word 0x8 0x4c, .word 0x9 0x4c, .word 0xa 0x4c, .word 0xb 0x4c, .word 0x8 0x14, .word 0x9 0x14, .word 0xa 0x14, .word 0xb 0x14, .word 0x8 0xc, .word 0x9 0xc, .word 0xa 0xc, .word 0xb 0xc, .word 0x8 0x30, .word 0x9 0x30, .word 0xa 0x30, .word 0xb 0x30, .page 0x31, .word 0xb 0x50, .word 0x8 0x78, .word 0x9 0x78, .word 0xa 0x78, .word 0xb 0x78, .page 0x11, .page 0x1b, .word 0x20 0xdc, .word 0x20 0xd8, .word 0x20 0xd4, .word 0x20 0xd0, .word 0x19 0xa4, .word 0x19 0xa8, .word 0x19 0xac, .word 0x19 0xb0, .word 0x19 0xb4, .word 0x19 0xb8, .page 0x24, .page 0x25, .page 0x26, .page 0x27, .word 0x21 0x50, .word 0x21 0x4c, .word 0x4c 0x14, .word 0x4c 0x50, .word 0x4c 0x4c, .word 0x4c 0x48, .word 0x4c 0x44, .page 0x41, .word 0x38 0x74, .word 0x39 0x74, .word 0x38 0x70, .word 0x39 0x70, .word 0x38 0x14, .word 0x39 0x14, .word 0x38 0x78, .word 0x39 0x78, .page 0x3a, .page 0x3b, .word 0x38 0xac, .word 0x39 0xac, .word 0x4a 0x58, .word 0x4a 0x14, .word 0x4a 0x50, .word 0x30 0x14, .page 0x80, .word 0x30 0xb8, .word 0xc 0x14, .word 0xc 0x4c, .page 0x29, .word 0x20 0x58, .word 0x22 0x58, .word 0x22 0x54, .word 0x22 0x50, .word 0x32 0x14, .word 0x32 0xa8, .page 0x33, .word 0x40 0x74, .word 0x40 0x78, .word 0x48 0x4c, .word 0x45 0x14, .word 0x45 0x48, .word 0x45 0x4c, .page 0x3d, .word a0 0x8, .word a0 0x14, .word a0 0x30, .word a0 0xc] [.lanes, .fes, .engines, .relief, .poolTest, .nodes, .ddr, .ledger, .scheds, .duty, .frames, .ports, .notices, .rings, .clock, .rope, .keyOp, .frameNumbers, .campaigns, .reasm, .jobs, .copy, .fw, .tracks, .peers, .meters] s (ctrlApply a0 a1 s) := by
  unfold Machine.ctrlApply
  extract_lets x0 x1 x2 x3 x4 x5 x6 x7 x8 x9 x10 x11 x12 x13 x14 x15 x16 x17 x18 x19
  refine Within.via x17 ?_ (fun h20 => ?_)
  · unfold x17
    refine Within.ite ?_ ?_
    · refine Within.wr ?_ (inScopes_at 86 rfl)
      exact Within.refl _ _ _
    · exact Within.refl _ _ _
  · clear_value x17
    refine Within.via x18 ?_ (fun h21 => ?_)
    · unfold x18
      refine Within.wrBool ?_ (inScopes_at 86 rfl)
      exact h20
    · clear_value x18
      refine Within.via x19 ?_ (fun h22 => ?_)
      · unfold x19
        refine Within.ite ?_ ?_
        · refine Within.after ?_ (frame_pageForceStop _ _) (amongCons rfl (amongCons rfl (amongCons rfl (amongCons rfl (amongCons rfl (amongCons rfl (amongCons rfl (amongCons rfl (amongCons rfl (amongCons rfl (amongCons rfl (amongCons rfl (amongCons rfl (amongCons rfl (amongCons rfl (amongCons rfl (amongCons rfl (amongCons rfl (amongCons rfl (amongCons rfl (amongCons rfl (amongCons rfl (amongCons rfl (amongCons rfl (amongCons rfl (amongCons rfl (amongCons rfl (amongCons rfl (amongCons rfl (amongCons rfl (amongCons rfl (amongCons rfl (amongCons rfl (amongCons rfl (amongCons rfl (amongCons rfl (amongCons rfl (amongCons rfl (amongCons rfl (amongCons rfl (amongCons rfl (amongCons rfl (amongCons rfl (amongCons rfl (amongCons rfl (amongCons rfl (amongCons rfl (amongCons rfl (amongCons rfl (amongCons rfl (amongCons rfl (amongCons rfl (amongCons rfl (amongCons rfl (amongCons rfl (amongCons rfl (amongCons rfl (amongCons rfl (amongCons rfl (amongCons rfl (amongCons rfl (amongCons rfl (amongCons rfl (amongCons rfl (amongCons rfl (amongCons rfl (amongCons rfl (amongCons rfl (amongCons rfl (amongCons rfl (amongCons rfl (amongCons rfl (amongCons rfl (amongCons rfl (amongCons rfl (amongCons rfl (amongCons rfl (amongCons rfl (amongCons rfl (amongCons rfl (amongCons rfl (amongCons rfl (amongCons (amongAt 89 rfl) (amongCons (amongAt 87 rfl) (amongCons (amongAt 88 rfl) (amongCons (amongAt 86 rfl) amongNil)))))))))))))))))))))))))))))))))))))))))))))))))))))))))))))))))))))))))))))))))))))) rfl
          exact h21
        · refine Within.ite ?_ ?_
          · refine Within.after ?_ (frame_pageEnable _ _) (amongCons rfl (amongCons rfl (amongCons rfl (amongCons rfl (amongCons rfl (amongCons rfl (amongCons rfl (amongCons rfl (amongCons rfl (amongCons rfl (amongCons rfl (amongCons rfl (amongCons rfl (amongCons rfl (amongCons rfl (amongCons rfl (amongCons rfl (amongCons rfl (amongCons rfl (amongCons rfl (amongCons rfl (amongCons rfl (amongCons rfl (amongCons rfl (amongCons rfl (amongCons rfl (amongCons rfl (amongCons rfl (amongCons rfl (amongCons rfl (amongCons rfl (amongCons rfl (amongCons rfl (amongCons rfl (amongCons rfl (amongCons rfl (amongCons (amongAt 87 rfl) (amongCons (amongAt 89 rfl) amongNil)))))))))))))))))))))))))))))))))))))) rfl
            exact h21
          · refine Within.ite ?_ ?_
            · refine Within.after ?_ (frame_pageDisable _ _) (amongCons rfl (amongCons rfl (amongCons rfl (amongCons rfl (amongCons rfl (amongCons rfl (amongCons rfl (amongCons rfl (amongCons rfl (amongCons rfl (amongCons rfl (amongCons rfl (amongCons rfl (amongCons rfl (amongCons rfl (amongCons rfl (amongCons rfl (amongCons rfl (amongCons rfl (amongCons rfl (amongCons rfl (amongCons rfl (amongCons rfl (amongCons rfl (amongCons rfl (amongCons rfl (amongCons rfl (amongCons rfl (amongCons rfl (amongCons rfl (amongCons rfl (amongCons rfl (amongCons rfl (amongCons rfl (amongCons rfl (amongCons rfl (amongCons rfl (amongCons rfl (amongCons rfl (amongCons rfl (amongCons rfl (amongCons rfl (amongCons rfl (amongCons rfl (amongCons rfl (amongCons rfl (amongCons rfl (amongCons rfl (amongCons rfl (amongCons rfl (amongCons rfl (amongCons rfl (amongCons rfl (amongCons rfl (amongCons rfl (amongCons rfl (amongCons rfl (amongCons rfl (amongCons rfl (amongCons rfl (amongCons rfl (amongCons rfl (amongCons rfl (amongCons rfl (amongCons rfl (amongCons (amongAt 89 rfl) (amongCons (amongAt 87 rfl) (amongCons (amongAt 88 rfl) amongNil)))))))))))))))))))))))))))))))))))))))))))))))))))))))))))))))))))) rfl
              exact h21
            · exact h21
      · clear_value x19
        refine Within.ite ?_ ?_
        · exact h20
        · refine Within.ite ?_ ?_
          · refine Within.after ?_ (frame_selfTest _ _) (amongCons rfl (amongCons rfl (amongCons rfl (amongCons rfl (amongCons rfl (amongCons rfl (amongCons rfl (amongCons rfl (amongCons rfl (amongCons rfl (amongCons rfl (amongCons rfl (amongCons rfl (amongCons rfl (amongCons rfl (amongCons rfl (amongCons rfl (amongCons rfl (amongCons rfl (amongCons rfl (amongCons rfl (amongCons rfl (amongCons rfl (amongCons rfl (amongCons rfl (amongCons rfl (amongCons rfl (amongCons rfl (amongCons (amongAt 87 rfl) (amongCons (amongAt 88 rfl) (amongCons (amongAt 89 rfl) amongNil))))))))))))))))))))))))))))))) rfl
            exact h22
          · exact h22

theorem frame_ctrlWrite (a0 : Nat) (a1 : Route) (a2 : Word) (s : State) :
    Within [.word 0x40 0x14, .word 0x40 0x50, .word 0x40 0x4c, .word 0x4e 0x14, .word 0x4e 0x44, .page 0x10, .word 0x8 0x5c, .word 0x9 0x5c, .word 0xa 0x5c, .word 0xb 0x5c, .word 0x8 0x4c, .word 0x9 0x4c, .word 0xa 0x4c, .word 0xb 0x4c, .word 0x8 0x14, .word 0x9 0x14, .word 0xa 0x14, .word 0xb 0x14, .word 0x8 0xc, .word 0x9 0xc, .word 0xa 0xc, .word 0xb 0xc, .word 0x8 0x30, .word 0x9 0x30, .word 0xa 0x30, .word 0xb 0x30, .page 0x31, .word 0xb 0x50, .word 0x8 0x78, .word 0x9 0x78, .word 0xa 0x78, .word 0xb 0x78, .page 0x11, .page 0x1b, .word 0x20 0xdc, .word 0x20 0xd8, .word 0x20 0xd4, .word 0x20 0xd0, .word 0x19 0xa4, .word 0x19 0xa8, .word 0x19 0xac, .word 0x19 0xb0, .word 0x19 0xb4, .word 0x19 0xb8, .page 0x24, .page 0x25, .page 0x26, .page 0x27, .word 0x21 0x50, .word 0x21 0x4c, .word 0x4c 0x14, .word 0x4c 0x50, .word 0x4c 0x4c, .word 0x4c 0x48, .word 0x4c 0x44, .page 0x41, .word 0x38 0x74, .word 0x39 0x74, .word 0x38 0x70, .word 0x39 0x70, .word 0x38 0x14, .word 0x39 0x14, .word 0x38 0x78, .word 0x39 0x78, .page 0x3a, .page 0x3b, .word 0x38 0xac, .word 0x39 0xac, .word 0x4a 0x58, .word 0x4a 0x14, .word 0x4a 0x50, .word 0x30 0x14, .page 0x80, .word 0x30 0xb8, .word 0xc 0x14, .word 0xc 0x4c, .page 0x29, .word 0x20 0x58, .word 0x22 0x58, .word 0x22 0x54, .word 0x22 0x50, .word 0x32 0x14, .word 0x32 0xa8, .page 0x33, .word 0x40 0x74, .word 0x40 0x78, .word 0x48 0x4c, .word 0x45 0x14, .word 0x45 0x48, .word 0x45 0x4c, .page 0x3d, .word a0 0x14, .word a0 0x28, .word a0 0x24, .word a0 0x20, .word a0 0x8, .word a0 0x30, .word a0 0xc] [.spi, .lanes, .fes, .engines, .relief, .poolTest, .nodes, .ddr, .ledger, .scheds, .duty, .frames, .ports, .notices, .rings, .clock, .rope, .keyOp, .frameNumbers, .campaigns, .reasm, .jobs, .copy, .fw, .tracks, .peers, .meters] s (ctrlWrite a0 a1 a2 s) := by
  unfold Machine.ctrlWrite
  refine Within.ite ?_ ?_
  · refine Within.then ?_ (frame_noPage _ _ _ _) rfl rfl
    exact Within.refl _ _ _
  · split
    · refine Within.after ?_ (frame_reject _ _ _ _ _ _) (amongCons (amongAt 91 rfl) (amongCons (amongAt 92 rfl) (amongCons (amongAt 93 rfl) (amongCons (amongAt 94 rfl) amongNil)))) rfl
      exact Within.refl _ _ _
    · refine Within.after ?_ (frame_ctrlApply _ _ _) (amongCons rfl (amongCons rfl (amongCons rfl (amongCons rfl (amongCons rfl (amongCons rfl (amongCons rfl (amongCons rfl (amongCons rfl (amongCons rfl (amongCons rfl (amongCons rfl (amongCons rfl (amongCons rfl (amongCons rfl (amongCons rfl (amongCons rfl (amongCons rfl (amongCons rfl (amongCons rfl (amongCons rfl (amongCons rfl (amongCons rfl (amongCons rfl (amongCons rfl (amongCons rfl (amongCons rfl (amongCons rfl (amongCons rfl (amongCons rfl (amongCons rfl (amongCons rfl (amongCons rfl (amongCons rfl (amongCons rfl (amongCons rfl (amongCons rfl (amongCons rfl (amongCons rfl (amongCons rfl (amongCons rfl (amongCons rfl (amongCons rfl (amongCons rfl (amongCons rfl (amongCons rfl (amongCons rfl (amongCons rfl (amongCons rfl (amongCons rfl (amongCons rfl (amongCons rfl (amongCons rfl (amongCons rfl (amongCons rfl (amongCons rfl (amongCons rfl (amongCons rfl (amongCons rfl (amongCons rfl (amongCons rfl (amongCons rfl (amongCons rfl (amongCons rfl (amongCons rfl (amongCons rfl (amongCons rfl (amongCons rfl (amongCons rfl (amongCons rfl (amongCons rfl (amongCons rfl (amongCons rfl (amongCons rfl (amongCons rfl (amongCons rfl (amongCons rfl (amongCons rfl (amongCons rfl (amongCons rfl (amongCons rfl (amongCons rfl (amongCons rfl (amongCons rfl (amongCons rfl (amongCons rfl (amongCons (amongAt 95 rfl) (amongCons (amongAt 91 rfl) (amongCons (amongAt 96 rfl) (amongCons (amongAt 97 rfl) amongNil)))))))))))))))))))))))))))))))))))))))))))))))))))))))))))))))))))))))))))))))))))))))))) rfl
      exact Within.refl _ _ _

theorem frame_evtForce (a0 : Nat) (a1 : Route) (a2 : Word) (s : State) :
    Within [.word 0x40 0x14, .word 0x40 0x50, .word 0x40 0x4c, .word 0x4e 0x14, .word 0x4e 0x44, .word a0 0x14, .word a0 0x28, .word a0 0x24, .word a0 0x20] [.spi] s (evtForce a0 a1 a2 s) := by
  unfold Machine.evtForce
  refine Within.ite ?_ ?_
  · refine Within.then ?_ (frame_noPage _ _ _ _) rfl rfl
    exact Within.refl _ _ _
  · refine Within.ite ?_ ?_
    · refine Within.after ?_ (frame_reject _ _ _ _ _ _) (amongCons (by simp [Scope.among, fePage, schedPage, ethPage, ethStatPage]) (amongCons (by simp [Scope.among, fePage, schedPage, ethPage, ethStatPage]) (amongCons (by simp [Scope.among, fePage, schedPage, ethPage, ethStatPage]) (amongCons (by simp [Scope.among, fePage, schedPage, ethPage, ethStatPage]) amongNil)))) rfl
      exact Within.refl _ _ _
    · refine Within.ite ?_ ?_
      · refine Within.after ?_ (frame_reject _ _ _ _ _ _) (amongCons (by simp [Scope.among, fePage, schedPage, ethPage, ethStatPage]) (amongCons (by simp [Scope.among, fePage, schedPage, ethPage, ethStatPage]) (amongCons (by simp [Scope.among, fePage, schedPage, ethPage, ethStatPage]) (amongCons (by simp [Scope.among, fePage, schedPage, ethPage, ethStatPage]) amongNil)))) rfl
        exact Within.refl _ _ _
      · refine Within.ite ?_ ?_
        · refine Within.after ?_ (frame_reject _ _ _ _ _ _) (amongCons (by simp [Scope.among, fePage, schedPage, ethPage, ethStatPage]) (amongCons (by simp [Scope.among, fePage, schedPage, ethPage, ethStatPage]) (amongCons (by simp [Scope.among, fePage, schedPage, ethPage, ethStatPage]) (amongCons (by simp [Scope.among, fePage, schedPage, ethPage, ethStatPage]) amongNil)))) rfl
          exact Within.refl _ _ _
        · refine Within.latchBits ?_ (inScopes_of (by simp [Scope.among, fePage, schedPage, ethPage, ethStatPage, F.HEAD.EVT_LATCH]))
          exact Within.refl _ _ _

theorem frame_shadowAlone (s : State) :
    Within [.word 0x3c 0x14, .word 0x3c 0x70] [] s (shadowAlone s) := by
  unfold Machine.shadowAlone
  extract_lets x0
  refine Within.via x0 ?_ (fun h1 => ?_)
  · unfold x0
    refine Within.ite ?_ ?_
    · exact Within.refl _ _ _
    · refine Within.latch ?_ (inScopes_of rfl)
      refine Within.wr ?_ (inScopes_of rfl)
      exact Within.refl _ _ _
  · clear_value x0
    refine Within.ite ?_ ?_
    · refine Within.wr ?_ (inScopes_of rfl)
      exact h1
    · exact h1

theorem frame_blowRetired (a0 : Nat) (a1 : Nat) (s : State) :
    Within [.page 0x5] [] s (blowRetired a0 a1 s) := by
  unfold Machine.blowRetired
  extract_lets x0
  refine Within.via x0 ?_ (fun h1 => ?_)
  · unfold x0
    split
    · refine Within.orBits ?_ (inScopes_of rfl)
      exact Within.refl _ _ _
    · refine Within.orBits ?_ (inScopes_of rfl)
      exact Within.refl _ _ _
    · refine Within.orBits ?_ (inScopes_of rfl)
      exact Within.refl _ _ _
    · refine Within.orBits ?_ (inScopes_of rfl)
      exact Within.refl _ _ _
  · clear_value x0
    refine Within.logCairn ?_
    exact h1

theorem frame_retireFe (a0 : Route) (a1 : Word) (s : State) :
    Within [.page 0x10, .word 0x8 0x5c, .word 0x9 0x5c, .word 0xa 0x5c, .word 0xb 0x5c, .word 0x8 0x4c, .word 0x9 0x4c, .word 0xa 0x4c, .word 0xb 0x4c, .page 0x5, .word 0x8 0x14, .word 0x9 0x14, .word 0xa 0x14, .word 0xb 0x14, .word 0x8 0xc, .word 0x9 0xc, .word 0xa 0xc, .word 0xb 0xc] [.spi, .lanes, .fes] s (retireFe a0 a1 s) := by
  unfold Machine.retireFe
  extract_lets x0 x1
  refine Within.via x1 ?_ (fun h2 => ?_)
  · unfold x1
    refine Within.after ?_ (frame_setPageState _ _ _) (amongCons (amongW4 rfl) (amongCons (amongW4 rfl) amongNil)) rfl
    refine Within.wr ?_ (inScopes_of (amongW4 rfl))
    exact Within.refl _ _ _
  · clear_value x1
    refine Within.ite ?_ ?_
    · refine Within.then ?_ (frame_reject _ _ _ _ _ _) rfl rfl
      exact Within.refl _ _ _
    · refine Within.ite ?_ ?_
      · refine Within.then ?_ (frame_reject _ _ _ _ _ _) rfl rfl
        exact Within.refl _ _ _
      · refine Within.ite ?_ ?_
        · refine Within.then ?_ (frame_reject _ _ _ _ _ _) rfl rfl
          exact Within.refl _ _ _
        · refine Within.then ?_ (frame_refreshListen _) rfl rfl
          refine Within.after ?_ (frame_setRf _ _ _) (amongCons rfl (amongCons (amongW4 rfl) (amongCons (amongW4 rfl) amongNil))) rfl
          refine Within.then ?_ (frame_blowRetired _ _ _) rfl rfl
          exact h2

theorem frame_noteGo (s : State) :
    Within [] [] s (noteGo s) := by
  unfold Machine.noteGo
  refine Within.logCairn ?_
  exact Within.refl _ _ _

theorem frame_tuneGo (a0 : Nat) (s : State) :
    Within [.page 0x10, .page 0x11, .page 0x31, .page 0x1b, .word 0x20 0xdc, .word 0x20 0xd8, .word 0x20 0xd4, .word 0x20 0xd0, .word 0x19 0xa4, .word 0x19 0xa8, .word 0x19 0xac, .word 0x19 0xb0, .word 0x19 0xb4, .word 0x19 0xb8, .word 0xb 0x5c, .word 0xb 0x4c, .page 0x24, .page 0x25, .page 0x26, .page 0x27, .word (0x8 + a0 % 4) 0x14, .word (0x8 + a0 % 4) 0x28, .word (0x8 + a0 % 4) 0x24, .word (0x8 + a0 % 4) 0x20, .word (0x8 + a0 % 4) 0x5c, .word (0x8 + a0 % 4) 0x4c] [.spi, .lanes, .fes, .nodes, .ddr, .ledger, .frames, .scheds, .duty] s (tuneGo a0 s) := by
  unfold Machine.tuneGo
  refine Within.ite ?_ ?_
  · refine Within.after ?_ (frame_reject _ _ _ _ _ _) (amongCons (amongAt 20 rfl) (amongCons (amongAt 21 rfl) (amongCons (amongAt 22 rfl) (amongCons (amongAt 23 rfl) amongNil)))) rfl
    exact Within.refl _ _ _
  · refine Within.ite ?_ ?_
    · refine Within.after ?_ (frame_reject _ _ _ _ _ _) (amongCons (amongAt 20 rfl) (amongCons (amongAt 21 rfl) (amongCons (amongAt 22 rfl) (amongCons (amongAt 23 rfl) amongNil)))) rfl
      exact Within.refl _ _ _
    · refine Within.after ?_ (frame_retuneStep _ _) (amongCons rfl (amongCons rfl (amongCons rfl (amongCons rfl (amongCons rfl (amongCons rfl (amongCons rfl (amongCons rfl (amongCons rfl (amongCons rfl (amongCons rfl (amongCons rfl (amongCons rfl (amongCons rfl (amongCons rfl (amongCons rfl (amongCons (amongAt 24 rfl) (amongCons (amongAt 25 rfl) amongNil)))))))))))))))))) rfl
      refine Within.then ?_ (frame_holdCommitted _ _) rfl rfl
      refine Within.wr ?_ (inScopes_at 25 rfl)
      exact Within.refl _ _ _

theorem frame_calReq (a0 : Nat) (a1 : Nat) (s : State) :
    Within [.page 0x10, .word 0xb 0x5c, .word 0xb 0x4c, .word 0xb 0x78, .word 0x8 0x14, .word 0x9 0x14, .word 0xa 0x14, .word 0xb 0x14, .word 0x8 0x30, .word 0x9 0x30, .word 0xa 0x30, .word 0xb 0x30, .word 0xb 0x50, .word 0x8 0x78, .word 0x9 0x78, .word 0xa 0x78, .word (0x8 + a0 % 4) 0x14, .word (0x8 + a0 % 4) 0x28, .word (0x8 + a0 % 4) 0x24, .word (0x8 + a0 % 4) 0x20, .word (0x8 + a0 % 4) 0x78] [.spi, .lanes, .fes, .relief] s (calReq a0 a1 s) := by
  unfold Machine.calReq
  extract_lets x0
  refine Within.ite ?_ ?_
  · exact Within.refl _ _ _
  · refine Within.ite ?_ ?_
    · refine Within.after ?_ (frame_reject _ _ _ _ _ _) (amongCons (amongW4 rfl) (amongCons (amongAt 17 rfl) (amongCons (amongAt 18 rfl) (amongCons (amongAt 19 rfl) amongNil)))) rfl
      exact Within.refl _ _ _
    · refine Within.ite ?_ ?_
      · refine Within.ite ?_ ?_
        · refine Within.then ?_ (frame_startCals _ _ _ _) rfl rfl
          refine Within.wr ?_ (inScopes_of rfl)
          exact Within.refl _ _ _
        · refine Within.wr ?_ (inScopes_of rfl)
          exact Within.refl _ _ _
      · refine Within.ite ?_ ?_
        · refine Within.wr ?_ (inScopes_of (amongW4 rfl))
          exact Within.refl _ _ _
        · refine Within.then ?_ (frame_needRelief _ _) rfl rfl
          refine Within.wr ?_ (inScopes_of (amongW4 rfl))
          exact Within.refl _ _ _

theorem frame_calGo (a0 : Nat) (a1 : Nat) (s : State) :
    Within [.page 0x10, .word 0xb 0x5c, .word 0xb 0x4c, .word 0xb 0x78, .word 0x8 0x14, .word 0x9 0x14, .word 0xa 0x14, .word 0xb 0x14, .word 0x8 0x30, .word 0x9 0x30, .word 0xa 0x30, .word 0xb 0x30, .word 0xb 0x50, .word 0x8 0x78, .word 0x9 0x78, .word 0xa 0x78, .word (0x8 + a0 % 4) 0x14, .word (0x8 + a0 % 4) 0x28, .word (0x8 + a0 % 4) 0x24, .word (0x8 + a0 % 4) 0x20, .word (0x8 + a0 % 4) 0x78] [.spi, .lanes, .fes, .relief] s (calGo a0 a1 s) := by
  unfold Machine.calGo
  refine Within.after ?_ (frame_calReq _ _ _) (amongCons rfl (amongCons rfl (amongCons rfl (amongCons rfl (amongCons rfl (amongCons rfl (amongCons rfl (amongCons rfl (amongCons rfl (amongCons rfl (amongCons rfl (amongCons rfl (amongCons rfl (amongCons rfl (amongCons rfl (amongCons rfl (amongCons (amongW4 rfl) (amongCons (amongAt 17 rfl) (amongCons (amongAt 18 rfl) (amongCons (amongAt 19 rfl) (amongCons (amongW4 rfl) amongNil))))))))))))))))))))) rfl
  exact Within.refl _ _ _

theorem frame_retake3 (s : State) :
    Within [.page 0x10, .word 0xb 0x5c, .word 0xb 0x4c] [.fes, .lanes] s (retake3 s) := by
  unfold Machine.retake3
  extract_lets x0 x1
  refine Within.via x1 ?_ (fun h2 => ?_)
  · unfold x1
    refine Within.then ?_ (frame_applyTuning _ _) rfl rfl
    exact Within.refl _ _ _
  · clear_value x1
    refine Within.then ?_ (frame_refreshListen _) rfl rfl
    refine Within.ite ?_ ?_
    · refine Within.then ?_ (frame_roleCals _ _) rfl rfl
      exact h2
    · exact h2

theorem frame_writeRole (a0 : Nat) (a1 : Nat) (s : State) :
    Within [.word 0xb 0x14, .word 0xb 0x28, .word 0xb 0x24, .word 0xb 0x20, .page 0x10, .word 0xb 0x5c, .word 0xb 0x4c, .word 0x8 0x14, .word 0x9 0x14, .word 0xa 0x14, .word 0x8 0x30, .word 0x9 0x30, .word 0xa 0x30, .word 0xb 0x30, .word 0xb 0x50, .word 0x8 0x78, .word 0x9 0x78, .word 0xa 0x78, .word 0xb 0x78, .page 0x11, .page 0x31, .page 0x1b, .word 0x20 0xdc, .word 0x20 0xd8, .word 0x20 0xd4, .word 0x20 0xd0, .word 0x19 0xa4, .word 0x19 0xa8, .word 0x19 0xac, .word 0x19 0xb0, .word 0x19 0xb4, .word 0x19 0xb8, .word 0x8 0x5c, .word 0x9 0x5c, .word 0xa 0x5c, .word 0x8 0x4c, .word 0x9 0x4c, .word 0xa 0x4c, .word 0x5 0x14, .word 0xb 0x9c, .word (0x8 + a1 % 4) 0x5c, .word (0x8 + a1 % 4) 0x4c] [.spi, .lanes, .fes, .relief, .nodes, .ddr, .ledger] s (writeRole a0 a1 s) := by
  unfold Machine.writeRole
  extract_lets x0 x1 x2 x3 x4 x5 x6 x7 x8 x9 x10 x11 x12 x13 x14 x15 x16 x17
  refine Within.via x10 ?_ (fun h18 => ?_)
  · unfold x10
    refine Within.then ?_ (frame_endLanes _ _ _) rfl rfl
    exact Within.refl _ _ _
  · clear_value x10
    refine Within.via x11 ?_ (fun h19 => ?_)
    · unfold x11
      refine Within.then ?_ (frame_modFe _ _ _) rfl rfl
      exact h18
    · clear_value x11
      refine Within.via x12 ?_ (fun h20 => ?_)
      · unfold x12
        refine Within.then ?_ (frame_holdGain _) rfl rfl
        refine Within.wr ?_ (inScopes_of rfl)
        refine Within.wr ?_ (inScopes_of rfl)
        exact h19
      · clear_value x12
        refine Within.via x13 ?_ (fun h21 => ?_)
        · unfold x13
          refine Within.ite ?_ ?_
          · refine Within.latch ?_ (inScopes_of rfl)
            exact h20
          · exact h20
        · clear_value x13
          refine Within.via x14 ?_ (fun h22 => ?_)
          · unfold x14
            refine Within.ite ?_ ?_
            · refine Within.after ?_ (frame_setRf _ _ _) (amongCons rfl (amongCons (amongW4 rfl) (amongCons (amongW4 rfl) amongNil))) rfl
              exact h21
            · exact h21
          · clear_value x14
            refine Within.via x15 ?_ (fun h23 => ?_)
            · unfold x15
              refine Within.wr ?_ (inScopes_of rfl)
              exact h22
            · clear_value x15
              refine Within.via x16 ?_ (fun h24 => ?_)
              · unfold x16
                refine Within.wr ?_ (inScopes_of rfl)
                refine Within.wr ?_ (inScopes_of rfl)
                exact h22
              · clear_value x16
                refine Within.via x17 ?_ (fun h25 => ?_)
                · unfold x17
                  refine Within.ite ?_ ?_
                  · refine Within.after ?_ (frame_setRf _ _ _) (amongCons rfl (amongCons (amongW4 rfl) (amongCons (amongW4 rfl) amongNil))) rfl
                    refine Within.then ?_ (frame_endLanes _ _ _) rfl rfl
                    exact h24
                  · exact h24
                · clear_value x17
                  refine Within.ite ?_ ?_
                  · exact Within.refl _ _ _
                  · refine Within.ite ?_ ?_
                    · refine Within.then ?_ (frame_reject _ _ _ _ _ _) rfl rfl
                      exact Within.refl _ _ _
                    · refine Within.ite ?_ ?_
                      · refine Within.then ?_ (frame_reject _ _ _ _ _ _) rfl rfl
                        exact Within.refl _ _ _
                      · split
                        · refine Within.then ?_ (frame_serveRelief _) rfl rfl
                          refine Within.then ?_ (frame_refreshListen _) rfl rfl
                          refine Within.ite ?_ ?_
                          · refine Within.then ?_ (frame_rest3 _) rfl rfl
                            exact h23
                          · exact h23
                        · refine Within.then ?_ (frame_retake3 _) rfl rfl
                          refine Within.wr ?_ (inScopes_of rfl)
                          exact h22
                        · refine Within.then ?_ (frame_retake3 _) rfl rfl
                          refine Within.then ?_ (frame_engaged _ _ _ _) rfl rfl
                          refine Within.latch ?_ (inScopes_of rfl)
                          refine Within.wr ?_ (inScopes_of rfl)
                          exact h22
                        · refine Within.then ?_ (frame_retake3 _) rfl rfl
                          refine Within.then ?_ (frame_holdGain _) rfl rfl
                          exact h25

theorem frame_roleGo (a0 : Nat) (s : State) :
    Within [.word 0xb 0x14, .word 0xb 0x28, .word 0xb 0x24, .word 0xb 0x20, .page 0x10, .word 0xb 0x5c, .word 0xb 0x4c, .word 0x8 0x14, .word 0x9 0x14, .word 0xa 0x14, .word 0x8 0x30, .word 0x9 0x30, .word 0xa 0x30, .word 0xb 0x30, .word 0xb 0x50, .word 0x8 0x78, .word 0x9 0x78, .word 0xa 0x78, .word 0xb 0x78, .page 0x11, .page 0x31, .page 0x1b, .word 0x20 0xdc, .word 0x20 0xd8, .word 0x20 0xd4, .word 0x20 0xd0, .word 0x19 0xa4, .word 0x19 0xa8, .word 0x19 0xac, .word 0x19 0xb0, .word 0x19 0xb4, .word 0x19 0xb8, .word 0x8 0x5c, .word 0x9 0x5c, .word 0xa 0x5c, .word 0x8 0x4c, .word 0x9 0x4c, .word 0xa 0x4c, .word 0x5 0x14, .word 0xb 0x9c] [.spi, .lanes, .fes, .relief, .nodes, .ddr, .ledger] s (roleGo a0 s) := by
  unfold Machine.roleGo
  refine Within.after ?_ (frame_writeRole _ _ _) (amongCons rfl (amongCons rfl (amongCons rfl (amongCons rfl (amongCons rfl (amongCons rfl (amongCons rfl (amongCons rfl (amongCons rfl (amongCons rfl (amongCons rfl (amongCons rfl (amongCons rfl (amongCons rfl (amongCons rfl (amongCons rfl (amongCons rfl (amongCons rfl (amongCons rfl (amongCons rfl (amongCons rfl (amongCons rfl (amongCons rfl (amongCons rfl (amongCons rfl (amongCons rfl (amongCons rfl (amongCons rfl (amongCons rfl (amongCons rfl (amongCons rfl (amongCons rfl (amongCons rfl (amongCons rfl (amongCons rfl (amongCons rfl (amongCons rfl (amongCons rfl (amongCons rfl (amongCons rfl (amongCons (amongW4 rfl) (amongCons (amongW4 rfl) amongNil)))))))))))))))))))))))))))))))))))))))))) rfl
  exact Within.refl _ _ _

theorem frame_progCommit (s : State) :
    Within [.word 0xc 0x14, .word 0xc 0x28, .word 0xc 0x24, .word 0xc 0x20, .word 0xc 0x40] [.spi, .boot] s (progCommit s) := by
  unfold Machine.progCommit
  extract_lets x0 x1
  refine Within.ite ?_ ?_
  · refine Within.then ?_ (frame_reject _ _ _ _ _ _) rfl rfl
    exact Within.refl _ _ _
  · refine Within.ite ?_ ?_
    · refine Within.then ?_ (frame_reject _ _ _ _ _ _) rfl rfl
      exact Within.refl _ _ _
    · refine Within.ite ?_ ?_
      · refine Within.wr ?_ (inScopes_of rfl)
        refine Within.set_boot ?_ (by decide)
        exact Within.refl _ _ _
      · refine Within.wr ?_ (inScopes_of rfl)
        exact Within.refl _ _ _

theorem frame_sramLast (a0 : Nat) (a1 : Nat) (s : State) :
    Within [.word 0x46 0x68] [] s (sramLast a0 a1 s) := by
  unfold Machine.sramLast
  refine Within.wr ?_ (inScopes_of rfl)
  refine Within.wr ?_ (inScopes_of rfl)
  exact Within.refl _ _ _

theorem frame_sramLost (a0 : Nat) (a1 : Nat) (s : State) :
    Within [.word 0x46 0x14, .word 0x46 0x64, .word 0x46 0x68] [] s (sramLost a0 a1 s) := by
  unfold Machine.sramLost
  refine Within.latch ?_ (inScopes_of rfl)
  refine Within.inc ?_ (inScopes_of rfl)
  refine Within.then ?_ (frame_sramLast _ _ _) rfl rfl
  exact Within.refl _ _ _

theorem frame_endNodeFrames (a0 : Nat) (a1 : Disp) (s : State) :
    Within [.page 0x24, .page 0x25, .page 0x26, .page 0x27, .word 0x21 0x50, .word 0x21 0x4c, .page 0x1b, .word 0x20 0xdc, .word 0x20 0xd8, .word 0x20 0xd4, .word 0x20 0xd0, .word 0x19 0xb4] [.nodes, .ddr, .ledger, .scheds, .fes, .duty, .frames] s (endNodeFrames a0 a1 s) := by
  unfold Machine.endNodeFrames
  refine Within.then ?_ (frame_endFrames _ _ _) rfl rfl
  exact Within.refl _ _ _

theorem frame_nodeLost (a0 : Nat) (s : State) :
    Within [.word 0x20 0xc8, .word 0x20 0xcc, .page 0x24, .page 0x25, .page 0x26, .page 0x27, .word 0x21 0x50, .word 0x21 0x4c, .page 0x1b, .word 0x20 0xdc, .word 0x20 0xd8, .word 0x20 0xd4, .word 0x20 0xd0, .word 0x19 0xb4] [.nodes, .ddr, .ledger, .scheds, .fes, .duty, .frames] s (nodeLost a0 s) := by
  unfold Machine.nodeLost
  extract_lets x0 x1 x2
  refine Within.via x1 ?_ (fun h3 => ?_)
  · unfold x1
    refine Within.then ?_ (frame_setNode _ _ _) rfl rfl
    exact Within.refl _ _ _
  · clear_value x1
    refine Within.via x2 ?_ (fun h4 => ?_)
    · unfold x2
      refine Within.then ?_ (frame_endNodeFrames _ _ _) rfl rfl
      exact h3
    · clear_value x2
      refine Within.inc ?_ (inScopes_of rfl)
      refine Within.wr ?_ (inScopes_of rfl)
      refine Within.wr ?_ (inScopes_of rfl)
      exact h4

theorem frame_coreLost (a0 : Nat) (s : State) :
    Within [.word 0x46 0x14, .word 0x46 0x64, .word 0x46 0x68, .word 0x20 0xc8, .word 0x20 0xcc, .page 0x24, .page 0x25, .page 0x26, .page 0x27, .word 0x21 0x50, .word 0x21 0x4c, .page 0x1b, .word 0x20 0xdc, .word 0x20 0xd8, .word 0x20 0xd4, .word 0x20 0xd0, .word 0x19 0xb4] [.nodes, .ddr, .ledger, .scheds, .fes, .duty, .frames] s (coreLost a0 s) := by
  unfold Machine.coreLost
  refine Within.then ?_ (frame_sramLost _ _ _) rfl rfl
  refine Within.then ?_ (frame_nodeLost _ _) rfl rfl
  exact Within.refl _ _ _

theorem frame_sramCorrected (a0 : Nat) (a1 : Nat) (s : State) :
    Within [.word 0x46 0x14, .word 0x46 0x60, .word 0x46 0x68] [] s (sramCorrected a0 a1 s) := by
  unfold Machine.sramCorrected
  refine Within.latch ?_ (inScopes_of rfl)
  refine Within.inc ?_ (inScopes_of rfl)
  refine Within.then ?_ (frame_sramLast _ _ _) rfl rfl
  exact Within.refl _ _ _

theorem frame_coreMended (a0 : Nat) (s : State) :
    Within [.word 0x46 0x14, .word 0x46 0x60, .word 0x46 0x68] [] s (coreMended a0 s) := by
  unfold Machine.coreMended
  refine Within.then ?_ (frame_sramCorrected _ _ _) rfl rfl
  exact Within.refl _ _ _

theorem frame_copyToCmd (a0 : Nat) (s : State) :
    Within [.page 0x20] [] s (copyToCmd a0 s) := by
  unfold Machine.copyToCmd
  extract_lets x0 x1
  refine Within.via x1 ?_ (fun h2 => ?_)
  · unfold x1
    refine Within.foldl ?_ (fun _ _ _ h3 => ?_)
    · exact Within.refl _ _ _
    · refine Within.wr ?_ (inScopes_of rfl)
      exact h3
  · clear_value x1
    refine Within.foldl ?_ (fun _ _ _ h4 => ?_)
    · exact h2
    · refine Within.wr ?_ (inScopes_of rfl)
      exact h4

theorem frame_nodeRead (a0 : Nat) (a1 : NodeFind) (s : State) :
    Within [.word 0x46 0x14, .word 0x46 0x64, .word 0x46 0x68, .page 0x24, .page 0x25, .page 0x26, .page 0x27, .word 0x21 0x50, .word 0x21 0x4c, .page 0x1b, .word 0x19 0xb4, .word 0x46 0x60, .page 0x20] [.spi, .nodes, .ddr, .ledger, .scheds, .fes, .duty, .frames] s (nodeRead a0 a1 s) := by
  unfold Machine.nodeRead
  unfold Machine.nodeCmd
  extract_lets x0
  refine Within.ite ?_ ?_
  · refine Within.then ?_ (frame_reject _ _ _ _ _ _) rfl rfl
    exact Within.refl _ _ _
  · refine Within.ite ?_ ?_
    · refine Within.then ?_ (frame_reject _ _ _ _ _ _) rfl rfl
      exact Within.refl _ _ _
    · refine Within.ite ?_ ?_
      · refine Within.then ?_ (frame_nodeResult _ _ _ _) rfl rfl
        exact Within.refl _ _ _
      · split
        · refine Within.then ?_ (frame_nodeResult _ _ _ _) rfl rfl
          refine Within.then ?_ (frame_coreLost _ _) rfl rfl
          exact Within.refl _ _ _
        · beta_reduce
          refine Within.ite ?_ ?_
          · refine Within.then ?_ (frame_nodeResult _ _ _ _) rfl rfl
            refine Within.then ?_ (frame_coreMended _ _) rfl rfl
            exact Within.refl _ _ _
          · refine Within.ite ?_ ?_
            · refine Within.then ?_ (frame_nodeResult _ _ _ _) rfl rfl
              refine Within.then ?_ (frame_copyToCmd _ _) rfl rfl
              refine Within.then ?_ (frame_coreMended _ _) rfl rfl
              exact Within.refl _ _ _
            · extract_lets x1
              refine Within.via x1 ?_ (fun h2 => ?_)
              · unfold x1
                refine Within.wr ?_ (inScopes_of rfl)
                refine Within.wr ?_ (inScopes_of rfl)
                refine Within.wr ?_ (inScopes_of rfl)
                refine Within.then ?_ (frame_coreMended _ _) rfl rfl
                exact Within.refl _ _ _
              · clear_value x1
                refine Within.set_rereads ?_
                exact h2
        · beta_reduce
          refine Within.ite ?_ ?_
          · refine Within.then ?_ (frame_nodeResult _ _ _ _) rfl rfl
            exact Within.refl _ _ _
          · refine Within.ite ?_ ?_
            · refine Within.then ?_ (frame_nodeResult _ _ _ _) rfl rfl
              refine Within.then ?_ (frame_copyToCmd _ _) rfl rfl
              exact Within.refl _ _ _
            · extract_lets x3
              refine Within.via x3 ?_ (fun h4 => ?_)
              · unfold x3
                refine Within.wr ?_ (inScopes_of rfl)
                refine Within.wr ?_ (inScopes_of rfl)
                refine Within.wr ?_ (inScopes_of rfl)
                exact Within.refl _ _ _
              · clear_value x3
                refine Within.set_rereads ?_
                exact h4

theorem frame_setCache (a0 : List (Nat × Nat × Nat)) (s : State) :
    Within [.word 0x30 0x98] [.cache] s (setCache a0 s) := by
  unfold Machine.setCache
  refine Within.wr ?_ (inScopes_of rfl)
  refine Within.set_cache ?_ (by decide)
  exact Within.refl _ _ _

theorem frame_cacheDrop (a0 : Nat) (s : State) :
    Within [.word 0x30 0x98] [.cache] s (cacheDrop a0 s) := by
  unfold Machine.cacheDrop
  refine Within.ite ?_ ?_
  · refine Within.then ?_ (frame_setCache _ _) rfl rfl
    exact Within.refl _ _ _
  · exact Within.refl _ _ _

theorem frame_nodeAdmit (a0 : Nat) (a1 : NodeFind) (s : State) :
    Within [.word 0x20 0x14, .word 0x20 0x28, .word 0x20 0x24, .word 0x20 0x20, .word 0x20 0x58, .word 0x46 0x14, .word 0x46 0x64, .word 0x46 0x68, .word 0x20 0xc8, .word 0x20 0xcc, .page 0x24, .page 0x25, .page 0x26, .page 0x27, .word 0x21 0x50, .word 0x21 0x4c, .page 0x1b, .word 0x20 0xdc, .word 0x20 0xd8, .word 0x20 0xd4, .word 0x20 0xd0, .word 0x19 0xb4, .word 0x46 0x60, .word 0x30 0x98] [.spi, .nodes, .ddr, .ledger, .scheds, .fes, .duty, .frames, .cache] s (nodeAdmit a0 a1 s) := by
  unfold Machine.nodeAdmit
  unfold Machine.nodeCmd
  extract_lets x0
  refine Within.ite ?_ ?_
  · refine Within.then ?_ (frame_reject _ _ _ _ _ _) rfl rfl
    exact Within.refl _ _ _
  · refine Within.ite ?_ ?_
    · refine Within.then ?_ (frame_reject _ _ _ _ _ _) rfl rfl
      exact Within.refl _ _ _
    · refine Within.ite ?_ ?_
      · refine Within.then ?_ (frame_nodeResult _ _ _ _) rfl rfl
        exact Within.refl _ _ _
      · split
        · refine Within.then ?_ (frame_nodeResult _ _ _ _) rfl rfl
          refine Within.then ?_ (frame_coreLost _ _) rfl rfl
          exact Within.refl _ _ _
        · beta_reduce
          extract_lets x1 x2 x3 x4 x5 x6 x7 x8 x9
          refine Within.ite ?_ ?_
          · refine Within.then ?_ (frame_nodeResult _ _ _ _) rfl rfl
            refine Within.then ?_ (frame_coreMended _ _) rfl rfl
            exact Within.refl _ _ _
          · refine Within.ite ?_ ?_
            · refine Within.then ?_ (frame_nodeResult _ _ _ _) rfl rfl
              refine Within.then ?_ (frame_coreMended _ _) rfl rfl
              exact Within.refl _ _ _
            · refine Within.ite ?_ ?_
              · refine Within.then ?_ (frame_nodeResult _ _ _ _) rfl rfl
                refine Within.then ?_ (frame_coreMended _ _) rfl rfl
                exact Within.refl _ _ _
              · refine Within.then ?_ (frame_nodeResult _ _ _ _) rfl rfl
                refine Within.then ?_ (frame_cacheDrop _ _) rfl rfl
                refine Within.then ?_ (frame_setNode _ _ _) rfl rfl
                refine Within.then ?_ (frame_coreMended _ _) rfl rfl
                exact Within.refl _ _ _
        · beta_reduce
          extract_lets x10 x11 x12 x13 x14 x15 x16 x17 x18
          refine Within.ite ?_ ?_
          · refine Within.then ?_ (frame_nodeResult _ _ _ _) rfl rfl
            exact Within.refl _ _ _
          · refine Within.ite ?_ ?_
            · refine Within.then ?_ (frame_nodeResult _ _ _ _) rfl rfl
              exact Within.refl _ _ _
            · refine Within.ite ?_ ?_
              · refine Within.then ?_ (frame_nodeResult _ _ _ _) rfl rfl
                exact Within.refl _ _ _
              · refine Within.then ?_ (frame_nodeResult _ _ _ _) rfl rfl
                refine Within.then ?_ (frame_cacheDrop _ _) rfl rfl
                refine Within.then ?_ (frame_setNode _ _ _) rfl rfl
                exact Within.refl _ _ _

theorem frame_nodeUpdate (a0 : Nat) (a1 : NodeFind) (s : State) :
    Within [.word 0x20 0x14, .word 0x20 0x28, .word 0x20 0x24, .word 0x20 0x20, .word 0x20 0x58, .word 0x46 0x14, .word 0x46 0x64, .word 0x46 0x68, .word 0x20 0xc8, .word 0x20 0xcc, .page 0x24, .page 0x25, .page 0x26, .page 0x27, .word 0x21 0x50, .word 0x21 0x4c, .page 0x1b, .word 0x20 0xdc, .word 0x20 0xd8, .word 0x20 0xd4, .word 0x20 0xd0, .word 0x19 0xb4, .word 0x46 0x60, .word 0x30 0x98] [.spi, .nodes, .ddr, .ledger, .scheds, .fes, .duty, .frames, .cache] s (nodeUpdate a0 a1 s) := by
  unfold Machine.nodeUpdate
  unfold Machine.nodeCmd
  extract_lets x0
  refine Within.ite ?_ ?_
  · refine Within.then ?_ (frame_reject _ _ _ _ _ _) rfl rfl
    exact Within.refl _ _ _
  · refine Within.ite ?_ ?_
    · refine Within.then ?_ (frame_reject _ _ _ _ _ _) rfl rfl
      exact Within.refl _ _ _
    · refine Within.ite ?_ ?_
      · refine Within.then ?_ (frame_nodeResult _ _ _ _) rfl rfl
        exact Within.refl _ _ _
      · split
        · refine Within.then ?_ (frame_nodeResult _ _ _ _) rfl rfl
          refine Within.then ?_ (frame_coreLost _ _) rfl rfl
          exact Within.refl _ _ _
        · beta_reduce
          extract_lets x1 x2 x3 x4 x5 x6 x7 x8 x9 x10
          refine Within.ite ?_ ?_
          · refine Within.then ?_ (frame_nodeResult _ _ _ _) rfl rfl
            refine Within.then ?_ (frame_coreMended _ _) rfl rfl
            exact Within.refl _ _ _
          · refine Within.ite ?_ ?_
            · refine Within.then ?_ (frame_nodeResult _ _ _ _) rfl rfl
              refine Within.then ?_ (frame_coreMended _ _) rfl rfl
              exact Within.refl _ _ _
            · refine Within.ite ?_ ?_
              · refine Within.then ?_ (frame_nodeResult _ _ _ _) rfl rfl
                refine Within.then ?_ (frame_coreMended _ _) rfl rfl
                exact Within.refl _ _ _
              · refine Within.ite ?_ ?_
                · refine Within.then ?_ (frame_nodeResult _ _ _ _) rfl rfl
                  refine Within.then ?_ (frame_coreMended _ _) rfl rfl
                  exact Within.refl _ _ _
                · refine Within.then ?_ (frame_nodeResult _ _ _ _) rfl rfl
                  refine Within.then ?_ (frame_setNode _ _ _) rfl rfl
                  refine Within.ite ?_ ?_
                  · refine Within.then ?_ (frame_cacheDrop _ _) rfl rfl
                    refine Within.then ?_ (frame_coreMended _ _) rfl rfl
                    exact Within.refl _ _ _
                  · refine Within.then ?_ (frame_coreMended _ _) rfl rfl
                    exact Within.refl _ _ _
        · beta_reduce
          extract_lets x11 x12 x13 x14 x15 x16 x17 x18 x19 x20
          refine Within.ite ?_ ?_
          · refine Within.then ?_ (frame_nodeResult _ _ _ _) rfl rfl
            exact Within.refl _ _ _
          · refine Within.ite ?_ ?_
            · refine Within.then ?_ (frame_nodeResult _ _ _ _) rfl rfl
              exact Within.refl _ _ _
            · refine Within.ite ?_ ?_
              · refine Within.then ?_ (frame_nodeResult _ _ _ _) rfl rfl
                exact Within.refl _ _ _
              · refine Within.ite ?_ ?_
                · refine Within.then ?_ (frame_nodeResult _ _ _ _) rfl rfl
                  exact Within.refl _ _ _
                · refine Within.then ?_ (frame_nodeResult _ _ _ _) rfl rfl
                  refine Within.then ?_ (frame_setNode _ _ _) rfl rfl
                  refine Within.ite ?_ ?_
                  · refine Within.then ?_ (frame_cacheDrop _ _) rfl rfl
                    exact Within.refl _ _ _
                  · exact Within.refl _ _ _

theorem frame_nodeRemove (a0 : Nat) (a1 : NodeFind) (s : State) :
    Within [.word 0x20 0x14, .word 0x20 0x28, .word 0x20 0x24, .word 0x20 0x20, .word 0x20 0x58, .word 0x46 0x14, .word 0x46 0x64, .word 0x46 0x68, .word 0x20 0xc8, .word 0x20 0xcc, .page 0x24, .page 0x25, .page 0x26, .page 0x27, .word 0x21 0x50, .word 0x21 0x4c, .page 0x1b, .word 0x20 0xdc, .word 0x20 0xd8, .word 0x20 0xd4, .word 0x20 0xd0, .word 0x19 0xb4, .word 0x46 0x60, .word 0x30 0x98] [.spi, .nodes, .ddr, .ledger, .scheds, .fes, .duty, .frames, .cache] s (nodeRemove a0 a1 s) := by
  unfold Machine.nodeRemove
  unfold Machine.nodeCmd
  extract_lets x0
  refine Within.ite ?_ ?_
  · refine Within.then ?_ (frame_reject _ _ _ _ _ _) rfl rfl
    exact Within.refl _ _ _
  · refine Within.ite ?_ ?_
    · refine Within.then ?_ (frame_reject _ _ _ _ _ _) rfl rfl
      exact Within.refl _ _ _
    · refine Within.ite ?_ ?_
      · refine Within.then ?_ (frame_nodeResult _ _ _ _) rfl rfl
        exact Within.refl _ _ _
      · split
        · refine Within.then ?_ (frame_nodeResult _ _ _ _) rfl rfl
          refine Within.then ?_ (frame_coreLost _ _) rfl rfl
          exact Within.refl _ _ _
        · beta_reduce
          refine Within.ite ?_ ?_
          · refine Within.then ?_ (frame_nodeResult _ _ _ _) rfl rfl
            refine Within.then ?_ (frame_coreMended _ _) rfl rfl
            exact Within.refl _ _ _
          · refine Within.ite ?_ ?_
            · refine Within.then ?_ (frame_nodeResult _ _ _ _) rfl rfl
              refine Within.then ?_ (frame_coreMended _ _) rfl rfl
              exact Within.refl _ _ _
            · refine Within.then ?_ (frame_nodeResult _ _ _ _) rfl rfl
              refine Within.then ?_ (frame_endNodeFrames _ _ _) rfl rfl
              refine Within.then ?_ (frame_cacheDrop _ _) rfl rfl
              refine Within.then ?_ (frame_setNode _ _ _) rfl rfl
              refine Within.then ?_ (frame_coreMended _ _) rfl rfl
              exact Within.refl _ _ _
        · beta_reduce
          refine Within.ite ?_ ?_
          · refine Within.then ?_ (frame_nodeResult _ _ _ _) rfl rfl
            exact Within.refl _ _ _
          · refine Within.ite ?_ ?_
            · refine Within.then ?_ (frame_nodeResult _ _ _ _) rfl rfl
              exact Within.refl _ _ _
            · refine Within.then ?_ (frame_nodeResult _ _ _ _) rfl rfl
              refine Within.then ?_ (frame_endNodeFrames _ _ _) rfl rfl
              refine Within.then ?_ (frame_cacheDrop _ _) rfl rfl
              refine Within.then ?_ (frame_setNode _ _ _) rfl rfl
              exact Within.refl _ _ _

theorem frame_nodePin (a0 : Nat) (a1 : NodeFind) (s : State) :
    Within [.word 0x20 0x14, .word 0x20 0x28, .word 0x20 0x24, .word 0x20 0x20, .word 0x20 0x58, .word 0x46 0x14, .word 0x46 0x64, .word 0x46 0x68, .word 0x20 0xc8, .word 0x20 0xcc, .page 0x24, .page 0x25, .page 0x26, .page 0x27, .word 0x21 0x50, .word 0x21 0x4c, .page 0x1b, .word 0x20 0xdc, .word 0x20 0xd8, .word 0x20 0xd4, .word 0x20 0xd0, .word 0x19 0xb4, .word 0x46 0x60] [.spi, .nodes, .ddr, .ledger, .scheds, .fes, .duty, .frames] s (nodePin a0 a1 s) := by
  unfold Machine.nodePin
  unfold Machine.nodeCmd
  extract_lets x0
  refine Within.ite ?_ ?_
  · refine Within.then ?_ (frame_reject _ _ _ _ _ _) rfl rfl
    exact Within.refl _ _ _
  · refine Within.ite ?_ ?_
    · refine Within.then ?_ (frame_reject _ _ _ _ _ _) rfl rfl
      exact Within.refl _ _ _
    · refine Within.ite ?_ ?_
      · refine Within.then ?_ (frame_nodeResult _ _ _ _) rfl rfl
        exact Within.refl _ _ _
      · split
        · refine Within.then ?_ (frame_nodeResult _ _ _ _) rfl rfl
          refine Within.then ?_ (frame_coreLost _ _) rfl rfl
          exact Within.refl _ _ _
        · beta_reduce
          extract_lets x1
          refine Within.ite ?_ ?_
          · refine Within.then ?_ (frame_nodeResult _ _ _ _) rfl rfl
            refine Within.then ?_ (frame_coreMended _ _) rfl rfl
            exact Within.refl _ _ _
          · split
            · refine Within.then ?_ (frame_nodeResult _ _ _ _) rfl rfl
              refine Within.then ?_ (frame_coreMended _ _) rfl rfl
              exact Within.refl _ _ _
            · refine Within.ite ?_ ?_
              · refine Within.then ?_ (frame_nodeResult _ _ _ _) rfl rfl
                refine Within.then ?_ (frame_coreMended _ _) rfl rfl
                exact Within.refl _ _ _
              · extract_lets x2 x3
                refine Within.then ?_ (frame_nodeResult _ _ _ _) rfl rfl
                refine Within.then ?_ (frame_setNode _ _ _) rfl rfl
                refine Within.then ?_ (frame_coreMended _ _) rfl rfl
                exact Within.refl _ _ _
        · beta_reduce
          extract_lets x4
          refine Within.ite ?_ ?_
          · refine Within.then ?_ (frame_nodeResult _ _ _ _) rfl rfl
            exact Within.refl _ _ _
          · split
            · refine Within.then ?_ (frame_nodeResult _ _ _ _) rfl rfl
              exact Within.refl _ _ _
            · refine Within.ite ?_ ?_
              · refine Within.then ?_ (frame_nodeResult _ _ _ _) rfl rfl
                exact Within.refl _ _ _
              · extract_lets x5 x6
                refine Within.then ?_ (frame_nodeResult _ _ _ _) rfl rfl
                refine Within.then ?_ (frame_setNode _ _ _) rfl rfl
                exact Within.refl _ _ _

theorem frame_nodeUnpin (a0 : Nat) (s : State) :
    Within [.word 0x20 0x14, .word 0x20 0x28, .word 0x20 0x24, .word 0x20 0x20, .word 0x20 0x58, .word 0x46 0x14, .word 0x46 0x64, .word 0x46 0x68, .word 0x20 0xc8, .word 0x20 0xcc, .page 0x24, .page 0x25, .page 0x26, .page 0x27, .word 0x21 0x50, .word 0x21 0x4c, .page 0x1b, .word 0x20 0xdc, .word 0x20 0xd8, .word 0x20 0xd4, .word 0x20 0xd0, .word 0x19 0xb4, .word 0x46 0x60] [.spi, .nodes, .ddr, .ledger, .scheds, .fes, .duty, .frames] s (nodeUnpin a0 s) := by
  unfold Machine.nodeUnpin
  unfold Machine.nodeCmd
  extract_lets x0
  refine Within.ite ?_ ?_
  · refine Within.then ?_ (frame_reject _ _ _ _ _ _) rfl rfl
    exact Within.refl _ _ _
  · refine Within.ite ?_ ?_
    · refine Within.then ?_ (frame_reject _ _ _ _ _ _) rfl rfl
      exact Within.refl _ _ _
    · refine Within.ite ?_ ?_
      · refine Within.then ?_ (frame_nodeResult _ _ _ _) rfl rfl
        exact Within.refl _ _ _
      · split
        · refine Within.then ?_ (frame_nodeResult _ _ _ _) rfl rfl
          refine Within.then ?_ (frame_coreLost _ _) rfl rfl
          exact Within.refl _ _ _
        · beta_reduce
          extract_lets x1 x2
          refine Within.ite ?_ ?_
          · refine Within.then ?_ (frame_nodeResult _ _ _ _) rfl rfl
            refine Within.then ?_ (frame_coreMended _ _) rfl rfl
            exact Within.refl _ _ _
          · refine Within.then ?_ (frame_nodeResult _ _ _ _) rfl rfl
            refine Within.then ?_ (frame_setNode _ _ _) rfl rfl
            refine Within.then ?_ (frame_coreMended _ _) rfl rfl
            exact Within.refl _ _ _
        · beta_reduce
          extract_lets x3 x4
          refine Within.ite ?_ ?_
          · refine Within.then ?_ (frame_nodeResult _ _ _ _) rfl rfl
            exact Within.refl _ _ _
          · refine Within.then ?_ (frame_nodeResult _ _ _ _) rfl rfl
            refine Within.then ?_ (frame_setNode _ _ _) rfl rfl
            exact Within.refl _ _ _

theorem frame_nodeGo (a0 : Nat) (s : State) :
    Within [.word 0x46 0x14, .word 0x46 0x64, .word 0x46 0x68, .page 0x24, .page 0x25, .page 0x26, .page 0x27, .word 0x21 0x50, .word 0x21 0x4c, .page 0x1b, .word 0x19 0xb4, .word 0x46 0x60, .page 0x20, .word 0x30 0x98] [.spi, .nodes, .ddr, .ledger, .scheds, .fes, .duty, .frames, .cache] s (nodeGo a0 s) := by
  unfold Machine.nodeGo
  extract_lets x0
  split
  · refine Within.then ?_ (frame_nodeRead _ _ _) rfl rfl
    exact Within.refl _ _ _
  · refine Within.then ?_ (frame_nodeAdmit _ _ _) rfl rfl
    exact Within.refl _ _ _
  · refine Within.then ?_ (frame_nodeUpdate _ _ _) rfl rfl
    exact Within.refl _ _ _
  · refine Within.then ?_ (frame_nodeRemove _ _ _) rfl rfl
    exact Within.refl _ _ _
  · refine Within.then ?_ (frame_nodePin _ _ _) rfl rfl
    exact Within.refl _ _ _
  · refine Within.then ?_ (frame_nodeUnpin _ _) rfl rfl
    exact Within.refl _ _ _

theorem frame_windowClose (a0 : Nat) (a1 : Nat) (s : State) :
    Within [.page 0x29, .page 0x24, .page 0x25, .page 0x26, .page 0x27, .word 0x21 0x50, .word 0x21 0x4c, .page 0x1b, .word 0x20 0xdc, .word 0x20 0xd8, .word 0x20 0xd4, .word 0x20 0xd0, .word 0x19 0xb4] [.campaigns, .nodes, .ddr, .ledger, .scheds, .fes, .duty, .frames] s (windowClose a0 a1 s) := by
  unfold Machine.windowClose
  refine Within.ite ?_ ?_
  · extract_lets x0 x1 x2
    refine Within.via x1 ?_ (fun h3 => ?_)
    · unfold x1
      refine Within.then ?_ (frame_endFrames _ _ _) rfl rfl
      exact Within.refl _ _ _
    · clear_value x1
      refine Within.via x2 ?_ (fun h4 => ?_)
      · unfold x2
        refine Within.incBy ?_ (inScopes_of rfl)
        exact h3
      · clear_value x2
        refine Within.after ?_ (frame_showWindowOpen _ _) (amongCons (amongW4 rfl) amongNil) rfl
        refine Within.then ?_ (frame_modCampaign _ _ _) rfl rfl
        exact h4
  · exact Within.refl _ _ _

theorem frame_dissemSetup (a0 : Nat) (s : State) :
    Within [.page 0x29, .page 0x24, .page 0x25, .page 0x26, .page 0x27, .word 0x21 0x50, .word 0x21 0x4c, .page 0x1b, .word 0x20 0xdc, .word 0x20 0xd8, .word 0x20 0xd4, .word 0x20 0xd0, .word 0x19 0xb4] [.spi, .campaigns, .nodes, .ddr, .ledger, .scheds, .fes, .duty, .frames] s (dissemSetup a0 s) := by
  unfold Machine.dissemSetup
  unfold Machine.dissemCmd
  extract_lets x0 x1
  refine Within.ite ?_ ?_
  · refine Within.then ?_ (frame_reject _ _ _ _ _ _) rfl rfl
    exact Within.refl _ _ _
  · refine Within.ite ?_ ?_
    · refine Within.then ?_ (frame_reject _ _ _ _ _ _) rfl rfl
      exact Within.refl _ _ _
    · beta_reduce
      refine Within.ite ?_ ?_
      · refine Within.then ?_ (frame_dissemResult _ _ _) rfl rfl
        exact Within.refl _ _ _
      · refine Within.ite ?_ ?_
        · refine Within.then ?_ (frame_dissemResult _ _ _) rfl rfl
          exact Within.refl _ _ _
        · extract_lets x2 x3 x4
          refine Within.via x2 ?_ (fun h5 => ?_)
          · unfold x2
            refine Within.foldl ?_ (fun _ _ _ h6 => ?_)
            · exact Within.refl _ _ _
            · refine Within.then ?_ (frame_windowClose _ _ _) rfl rfl
              exact h6
          · clear_value x2
            refine Within.via x3 ?_ (fun h7 => ?_)
            · unfold x3
              refine Within.then ?_ (frame_modCampaign _ _ _) rfl rfl
              refine Within.then ?_ (frame_setCState _ _ _) rfl rfl
              exact h5
            · clear_value x3
              refine Within.via x4 ?_ (fun h8 => ?_)
              · unfold x4
                refine Within.wr ?_ (inScopes_of rfl)
                exact h7
              · clear_value x4
                refine Within.wr ?_ (inScopes_of rfl)
                refine Within.wr ?_ (inScopes_of rfl)
                refine Within.wr ?_ (inScopes_of rfl)
                exact h8

theorem frame_dissemStart (a0 : Nat) (s : State) :
    Within [.page 0x29] [.spi, .campaigns] s (dissemStart a0 s) := by
  unfold Machine.dissemStart
  unfold Machine.dissemCmd
  extract_lets x0 x1
  refine Within.ite ?_ ?_
  · refine Within.then ?_ (frame_reject _ _ _ _ _ _) rfl rfl
    exact Within.refl _ _ _
  · refine Within.ite ?_ ?_
    · refine Within.then ?_ (frame_reject _ _ _ _ _ _) rfl rfl
      exact Within.refl _ _ _
    · beta_reduce
      refine Within.ite ?_ ?_
      · refine Within.then ?_ (frame_dissemResult _ _ _) rfl rfl
        exact Within.refl _ _ _
      · refine Within.ite ?_ ?_
        · refine Within.then ?_ (frame_dissemResult _ _ _) rfl rfl
          exact Within.refl _ _ _
        · extract_lets x2 x3
          refine Within.via x2 ?_ (fun h4 => ?_)
          · unfold x2
            refine Within.then ?_ (frame_modCampaign _ _ _) rfl rfl
            exact Within.refl _ _ _
          · clear_value x2
            refine Within.via x3 ?_ (fun h5 => ?_)
            · unfold x3
              refine Within.wr ?_ (inScopes_of rfl)
              refine Within.wr ?_ (inScopes_of rfl)
              refine Within.wr ?_ (inScopes_of rfl)
              exact h4
            · clear_value x3
              refine Within.then ?_ (frame_dissemResult _ _ _) rfl rfl
              refine Within.then ?_ (frame_showNextWin _ _) rfl rfl
              refine Within.then ?_ (frame_setCState _ _ _) rfl rfl
              exact h5

theorem frame_dissemEnd (a0 : Nat) (a1 : Nat) (a2 : EndReason) (s : State) :
    Within [.page 0x29, .page 0x24, .page 0x25, .page 0x26, .page 0x27, .word 0x21 0x50, .word 0x21 0x4c, .page 0x1b, .word 0x20 0xdc, .word 0x20 0xd8, .word 0x20 0xd4, .word 0x20 0xd0, .word 0x19 0xb4, .word 0xc 0x14, .word 0xc 0x4c, .page 0x10, .page 0x31, .word 0x8 0x5c, .word 0x9 0x5c, .word 0xa 0x5c, .word 0xb 0x5c, .word 0x8 0x4c, .word 0x9 0x4c, .word 0xa 0x4c, .word 0xb 0x4c] [.spi, .frameNumbers, .nodes, .ddr, .ledger, .scheds, .fes, .duty, .frames, .campaigns, .lanes] s (dissemEnd a0 a1 a2 s) := by
  unfold Machine.dissemEnd
  unfold Machine.dissemCmd
  extract_lets x0 x1
  refine Within.ite ?_ ?_
  · refine Within.then ?_ (frame_reject _ _ _ _ _ _) rfl rfl
    exact Within.refl _ _ _
  · refine Within.ite ?_ ?_
    · refine Within.then ?_ (frame_reject _ _ _ _ _ _) rfl rfl
      exact Within.refl _ _ _
    · beta_reduce
      refine Within.ite ?_ ?_
      · refine Within.then ?_ (frame_dissemResult _ _ _) rfl rfl
        refine Within.then ?_ (frame_setCState _ _ _) rfl rfl
        exact Within.refl _ _ _
      · refine Within.ite ?_ ?_
        · refine Within.then ?_ (frame_dissemResult _ _ _) rfl rfl
          refine Within.then ?_ (frame_endCampaign _ _ _) rfl rfl
          exact Within.refl _ _ _
        · refine Within.then ?_ (frame_dissemResult _ _ _) rfl rfl
          exact Within.refl _ _ _

theorem frame_dissemClear (a0 : Nat) (s : State) :
    Within [.page 0x29] [.spi, .campaigns] s (dissemClear a0 s) := by
  unfold Machine.dissemClear
  unfold Machine.dissemCmd
  extract_lets x0 x1
  refine Within.ite ?_ ?_
  · refine Within.then ?_ (frame_reject _ _ _ _ _ _) rfl rfl
    exact Within.refl _ _ _
  · refine Within.ite ?_ ?_
    · refine Within.then ?_ (frame_reject _ _ _ _ _ _) rfl rfl
      exact Within.refl _ _ _
    · refine Within.ite ?_ ?_
      · refine Within.then ?_ (frame_dissemResult _ _ _) rfl rfl
        refine Within.then ?_ (frame_modCampaign _ _ _) rfl rfl
        refine Within.then ?_ (frame_setCState _ _ _) rfl rfl
        exact Within.refl _ _ _
      · refine Within.then ?_ (frame_dissemResult _ _ _) rfl rfl
        exact Within.refl _ _ _

theorem frame_dissemExport (a0 : Nat) (a1 : Bool) (s : State) :
    Within [.word 0x29 0x14, .word 0x29 0x28, .word 0x29 0x24, .word 0x29 0x20, .word 0x29 0x50] [.spi, .ddr] s (dissemExport a0 a1 s) := by
  unfold Machine.dissemExport
  unfold Machine.dissemCmd
  extract_lets x0 x1
  refine Within.ite ?_ ?_
  · refine Within.then ?_ (frame_reject _ _ _ _ _ _) rfl rfl
    exact Within.refl _ _ _
  · refine Within.ite ?_ ?_
    · refine Within.then ?_ (frame_reject _ _ _ _ _ _) rfl rfl
      exact Within.refl _ _ _
    · refine Within.ite ?_ ?_
      · refine Within.then ?_ (frame_dissemResult _ _ _) rfl rfl
        exact Within.refl _ _ _
      · refine Within.ite ?_ ?_
        · refine Within.then ?_ (frame_dissemResult _ _ _) rfl rfl
          exact Within.refl _ _ _
        · refine Within.then ?_ (frame_dissemResult _ _ _) rfl rfl
          refine Within.set_ddr ?_ (by decide)
          exact Within.refl _ _ _

theorem frame_dissemGo (a0 : Nat) (s : State) :
    Within [.page 0x29, .page 0x24, .page 0x25, .page 0x26, .page 0x27, .word 0x21 0x50, .word 0x21 0x4c, .page 0x1b, .word 0x20 0xdc, .word 0x20 0xd8, .word 0x20 0xd4, .word 0x20 0xd0, .word 0x19 0xb4, .word 0xc 0x14, .word 0xc 0x4c, .page 0x10, .page 0x31, .word 0x8 0x5c, .word 0x9 0x5c, .word 0xa 0x5c, .word 0xb 0x5c, .word 0x8 0x4c, .word 0x9 0x4c, .word 0xa 0x4c, .word 0xb 0x4c] [.spi, .campaigns, .nodes, .ddr, .ledger, .scheds, .fes, .duty, .frames, .frameNumbers, .lanes] s (dissemGo a0 s) := by
  unfold Machine.dissemGo
  extract_lets x0
  split
  · refine Within.then ?_ (frame_dissemSetup _ _) rfl rfl
    exact Within.refl _ _ _
  · refine Within.then ?_ (frame_dissemStart _ _) rfl rfl
    exact Within.refl _ _ _
  · refine Within.then ?_ (frame_dissemEnd _ _ _ _) rfl rfl
    exact Within.refl _ _ _
  · refine Within.then ?_ (frame_dissemEnd _ _ _ _) rfl rfl
    exact Within.refl _ _ _
  · refine Within.then ?_ (frame_dissemClear _ _) rfl rfl
    exact Within.refl _ _ _
  · refine Within.then ?_ (frame_dissemExport _ _ _) rfl rfl
    exact Within.refl _ _ _

theorem frame_setSlot (a0 : Nat) (a1 : Slot) (s : State) :
    Within [] [.slots] s (setSlot a0 a1 s) := by
  unfold Machine.setSlot
  refine Within.set_slots ?_ (by decide)
  exact Within.refl _ _ _

theorem frame_modSlot (a0 : Nat) (a1 : Slot → Slot) (s : State) :
    Within [] [.slots] s (modSlot a0 a1 s) := by
  unfold Machine.modSlot
  refine Within.then ?_ (frame_setSlot _ _ _) rfl rfl
  exact Within.refl _ _ _

theorem frame_useSlot (a0 : Nat) (a1 : Nat) (a2 : Nat) (s : State) :
    Within [] [.slots] s ((useSlot a0 a1 a2 s).2) := by
  unfold Machine.useSlot
  split
  · dsimp only
    exact Within.refl _ _ _
  · split
    · dsimp only
      refine Within.then ?_ (frame_setSlot _ _ _) rfl rfl
      exact Within.refl _ _ _
    · dsimp only
      refine Within.then ?_ (frame_modSlot _ _ _) rfl rfl
      exact Within.refl _ _ _

theorem frame_takeEngine (s : State) :
    Within [.page 0x31] [] s ((takeEngine s).2) := by
  unfold Machine.takeEngine
  split
  · dsimp only
    exact Within.refl _ _ _
  · split
    · dsimp only
      refine Within.wr ?_ (inScopes_of rfl)
      exact Within.refl _ _ _
    · dsimp only
      refine Within.inc ?_ (inScopes_of rfl)
      exact Within.refl _ _ _

theorem frame_ccmGo (a0 : Nat) (s : State) :
    Within [.word 0x4c 0x14, .word 0x4c 0x50, .word 0x4c 0x4c, .word 0x4c 0x48, .word 0x4c 0x44, .page 0x31] [.spi, .notices, .jobs, .slots] s (ccmGo a0 s) := by
  unfold Machine.ccmGo
  unfold Machine.jobGo
  refine Within.ite ?_ ?_
  · refine Within.then ?_ (frame_reject _ _ _ _ _ _) rfl rfl
    exact Within.refl _ _ _
  · refine Within.ite ?_ ?_
    · refine Within.then ?_ (frame_reject _ _ _ _ _ _) rfl rfl
      exact Within.refl _ _ _
    · beta_reduce
      extract_lets x0 x1 x2 x3 x4 x5 x6 x7 x8 x9 x10 x11 x12
      refine Within.via x10.2 ?_ (fun h13 => ?_)
      · unfold x10
        refine Within.then ?_ (frame_useSlot _ _ _ _) rfl rfl
        exact Within.refl _ _ _
      · clear_value x10
        refine Within.via x11.2 ?_ (fun h14 => ?_)
        · unfold x11
          refine Within.then ?_ (frame_takeEngine _) rfl rfl
          exact h13
        · clear_value x11
          refine Within.via x12 ?_ (fun h15 => ?_)
          · unfold x12
            exact h14
          · clear_value x12
            refine Within.ite ?_ ?_
            · refine Within.then ?_ (frame_ccmEnd _ _) rfl rfl
              exact Within.refl _ _ _
            · refine Within.ite ?_ ?_
              · refine Within.then ?_ (frame_ccmEnd _ _) rfl rfl
                exact Within.refl _ _ _
              · split
                · refine Within.then ?_ (frame_ccmEnd _ _) rfl rfl
                  exact h13
                · refine Within.then ?_ (frame_ccmEnd _ _) rfl rfl
                  exact h13
                · split
                  · refine Within.then ?_ (frame_ccmEnd _ _) rfl rfl
                    exact h14
                  · extract_lets x16
                    refine Within.wr ?_ (inScopes_of rfl)
                    refine Within.set_ccmJob ?_ (by decide)
                    exact h15

theorem frame_sciGo (a0 : Nat) (s : State) :
    Within [.word 0x32 0x14, .word 0x32 0x28, .word 0x32 0x24, .word 0x32 0x20, .word 0x4c 0x14, .word 0x4c 0x50, .word 0x4c 0x4c, .word 0x4c 0x48, .word 0x4c 0x44, .word 0x32 0xa8] [.spi, .notices, .jobs, .slots] s (sciGo a0 s) := by
  unfold Machine.sciGo
  extract_lets x0 x1 x2
  refine Within.ite ?_ ?_
  · refine Within.then ?_ (frame_reject _ _ _ _ _ _) rfl rfl
    exact Within.refl _ _ _
  · refine Within.ite ?_ ?_
    · refine Within.then ?_ (frame_reject _ _ _ _ _ _) rfl rfl
      exact Within.refl _ _ _
    · unfold Machine.jobGo
      refine Within.ite ?_ ?_
      · refine Within.then ?_ (frame_reject _ _ _ _ _ _) rfl rfl
        exact Within.refl _ _ _
      · refine Within.ite ?_ ?_
        · refine Within.then ?_ (frame_reject _ _ _ _ _ _) rfl rfl
          exact Within.refl _ _ _
        · beta_reduce
          extract_lets x3 x4 x5 x6 x7
          refine Within.via x5.2 ?_ (fun h8 => ?_)
          · unfold x5
            refine Within.then ?_ (frame_useSlot _ _ _ _) rfl rfl
            exact Within.refl _ _ _
          · clear_value x5
            refine Within.via x7 ?_ (fun h9 => ?_)
            · unfold x7
              exact h8
            · clear_value x7
              refine Within.ite ?_ ?_
              · refine Within.then ?_ (frame_sciEnd _ _) rfl rfl
                exact Within.refl _ _ _
              · split
                · refine Within.then ?_ (frame_sciEnd _ _) rfl rfl
                  exact h8
                · refine Within.then ?_ (frame_sciEnd _ _) rfl rfl
                  exact h8
                · refine Within.wr ?_ (inScopes_of rfl)
                  refine Within.set_sciJob ?_ (by decide)
                  exact h9

theorem frame_pkeVerify (a0 : Nat) (a1 : Bool) (a2 : Nat) (s : State) :
    Within [.word 0x33 0x14, .word 0x33 0x28, .word 0x33 0x24, .word 0x33 0x20, .word 0x33 0x44, .word 0x33 0x40] [.spi, .jobs, .slots] s (pkeVerify a0 a1 a2 s) := by
  unfold Machine.pkeVerify
  unfold Machine.pkeGo
  unfold Machine.jobGo
  refine Within.ite ?_ ?_
  · refine Within.then ?_ (frame_reject _ _ _ _ _ _) rfl rfl
    exact Within.refl _ _ _
  · refine Within.ite ?_ ?_
    · refine Within.then ?_ (frame_reject _ _ _ _ _ _) rfl rfl
      exact Within.refl _ _ _
    · beta_reduce
      extract_lets x0 x1 x2 x3 x4 x5 x6 x7 x8 x9 x10
      refine Within.via x0 ?_ (fun h11 => ?_)
      · unfold x0
        refine Within.wr ?_ (inScopes_of rfl)
        refine Within.wrBool ?_ (inScopes_of rfl)
        refine Within.wr ?_ (inScopes_of rfl)
        exact Within.refl _ _ _
      · clear_value x0
        refine Within.via x2.2 ?_ (fun h12 => ?_)
        · unfold x2
          refine Within.then ?_ (frame_useSlot _ _ _ _) rfl rfl
          exact h11
        · clear_value x2
          refine Within.via x9.2 ?_ (fun h13 => ?_)
          · unfold x9
            split
            · dsimp only
              exact h11
            · split
              · dsimp only
                exact h12
              · dsimp only
                exact h12
          · clear_value x9
            refine Within.via x10 ?_ (fun h14 => ?_)
            · unfold x10
              exact h13
            · clear_value x10
              refine Within.wr ?_ (inScopes_of rfl)
              refine Within.set_pkeOp ?_ (by decide)
              exact h14

theorem frame_pkePairPublic (a0 : Bool) (a1 : Nat) (s : State) :
    Within [.word 0x33 0x14, .word 0x33 0x28, .word 0x33 0x24, .word 0x33 0x20, .word 0x33 0x44, .word 0x33 0x40] [.spi, .jobs] s (pkePairPublic a0 a1 s) := by
  unfold Machine.pkePairPublic
  unfold Machine.pkeGo
  unfold Machine.jobGo
  refine Within.ite ?_ ?_
  · refine Within.then ?_ (frame_reject _ _ _ _ _ _) rfl rfl
    exact Within.refl _ _ _
  · refine Within.ite ?_ ?_
    · refine Within.then ?_ (frame_reject _ _ _ _ _ _) rfl rfl
      exact Within.refl _ _ _
    · beta_reduce
      extract_lets x0 x1 x2
      refine Within.via x0 ?_ (fun h3 => ?_)
      · unfold x0
        refine Within.wr ?_ (inScopes_of rfl)
        refine Within.wrBool ?_ (inScopes_of rfl)
        refine Within.wr ?_ (inScopes_of rfl)
        exact Within.refl _ _ _
      · clear_value x0
        refine Within.via x1.2 ?_ (fun h4 => ?_)
        · unfold x1
          split
          · dsimp only
            exact h3
          · extract_lets x5
            dsimp only
            exact h3
        · clear_value x1
          refine Within.via x2 ?_ (fun h6 => ?_)
          · unfold x2
            exact h4
          · clear_value x2
            refine Within.wr ?_ (inScopes_of rfl)
            refine Within.set_pkeOp ?_ (by decide)
            exact h6

theorem frame_pkePairEcdh (a0 : Bool) (a1 : Nat) (s : State) :
    Within [.word 0x33 0x14, .word 0x33 0x28, .word 0x33 0x24, .word 0x33 0x20, .word 0x33 0x44, .word 0x33 0x40] [.spi, .jobs] s (pkePairEcdh a0 a1 s) := by
  unfold Machine.pkePairEcdh
  unfold Machine.pkeGo
  unfold Machine.jobGo
  refine Within.ite ?_ ?_
  · refine Within.then ?_ (frame_reject _ _ _ _ _ _) rfl rfl
    exact Within.refl _ _ _
  · refine Within.ite ?_ ?_
    · refine Within.then ?_ (frame_reject _ _ _ _ _ _) rfl rfl
      exact Within.refl _ _ _
    · beta_reduce
      extract_lets x0 x1 x2
      refine Within.via x0 ?_ (fun h3 => ?_)
      · unfold x0
        refine Within.wr ?_ (inScopes_of rfl)
        refine Within.wrBool ?_ (inScopes_of rfl)
        refine Within.wr ?_ (inScopes_of rfl)
        exact Within.refl _ _ _
      · clear_value x0
        refine Within.via x1.2 ?_ (fun h4 => ?_)
        · unfold x1
          dsimp only
          exact h3
        · clear_value x1
          refine Within.via x2 ?_ (fun h5 => ?_)
          · unfold x2
            exact h4
          · clear_value x2
            refine Within.wr ?_ (inScopes_of rfl)
            refine Within.set_pkeOp ?_ (by decide)
            exact h5

theorem frame_pkeCmd (a0 : Nat) (s : State) :
    Within [.word 0x33 0x14, .word 0x33 0x28, .word 0x33 0x24, .word 0x33 0x20, .word 0x33 0x40, .word 0x33 0x44] [.spi, .jobs, .slots] s (pkeCmd a0 s) := by
  unfold Machine.pkeCmd
  extract_lets x0 x1 x2
  split
  · refine Within.ite ?_ ?_
    · refine Within.then ?_ (frame_reject _ _ _ _ _ _) rfl rfl
      exact Within.refl _ _ _
    · refine Within.ite ?_ ?_
      · refine Within.then ?_ (frame_reject _ _ _ _ _ _) rfl rfl
        exact Within.refl _ _ _
      · refine Within.wr ?_ (inScopes_of rfl)
        refine Within.wrBool ?_ (inScopes_of rfl)
        refine Within.wr ?_ (inScopes_of rfl)
        exact Within.refl _ _ _
  · refine Within.then ?_ (frame_pkeVerify _ _ _ _) rfl rfl
    exact Within.refl _ _ _
  · refine Within.then ?_ (frame_pkeVerify _ _ _ _) rfl rfl
    exact Within.refl _ _ _
  · refine Within.then ?_ (frame_pkeVerify _ _ _ _) rfl rfl
    exact Within.refl _ _ _
  · refine Within.then ?_ (frame_pkePairPublic _ _ _) rfl rfl
    exact Within.refl _ _ _
  · refine Within.then ?_ (frame_pkePairEcdh _ _ _) rfl rfl
    exact Within.refl _ _ _

theorem frame_sfpResult (a0 : Nat) (a1 : Nat) (s : State) :
    Within [.word (0x38 + a0 % 2) 0xc8] [.ports] s (sfpResult a0 a1 s) := by
  unfold Machine.sfpResult
  refine Within.wr ?_ (inScopes_of (by simp [Scope.among, fePage, schedPage, ethPage, ethStatPage, F.ETH.SFP_STATUS_BUSY]))
  refine Within.wr ?_ (inScopes_of (by simp [Scope.among, fePage, schedPage, ethPage, ethStatPage, F.ETH.SFP_STATUS_RESULT]))
  refine Within.then ?_ (frame_modPort _ _ _) rfl rfl
  exact Within.refl _ _ _

theorem frame_sfpAccess (a0 : Nat) (a1 : Word) (s : State) :
    Within [.word (0x38 + a0 % 2) 0x14, .word (0x38 + a0 % 2) 0x28, .word (0x38 + a0 % 2) 0x24, .word (0x38 + a0 % 2) 0x20, .word (0x38 + a0 % 2) 0xc8] [.spi, .ports] s (sfpAccess a0 a1 s) := by
  unfold Machine.sfpAccess
  refine Within.ite ?_ ?_
  · refine Within.after ?_ (frame_reject _ _ _ _ _ _) (amongCons (by simp [Scope.among, fePage, schedPage, ethPage, ethStatPage]) (amongCons (by simp [Scope.among, fePage, schedPage, ethPage, ethStatPage]) (amongCons (by simp [Scope.among, fePage, schedPage, ethPage, ethStatPage]) (amongCons (by simp [Scope.among, fePage, schedPage, ethPage, ethStatPage]) amongNil)))) rfl
    exact Within.refl _ _ _
  · refine Within.ite ?_ ?_
    · refine Within.after ?_ (frame_sfpResult _ _ _) (amongCons (by simp [Scope.among, fePage, schedPage, ethPage, ethStatPage]) amongNil) rfl
      exact Within.refl _ _ _
    · refine Within.wr ?_ (inScopes_of (by simp [Scope.among, fePage, schedPage, ethPage, ethStatPage, F.ETH.SFP_STATUS_BUSY]))
      refine Within.then ?_ (frame_modPort _ _ _) rfl rfl
      exact Within.refl _ _ _

theorem frame_steered (s : State) :
    Within [.word 0x3c 0x70] [.clock] s (steered s) := by
  unfold Machine.steered
  refine Within.then ?_ (frame_modClock _ _) rfl rfl
  refine Within.wr ?_ (inScopes_of rfl)
  exact Within.refl _ _ _

end Sys2Proof.Machine
end

