-- ==== Sys2Proof/Laws/OpsC.lean ====
section
/-! SUPPORT. What each operation can change, part 3 of 5: for every state, the registers and parts outside the named ones
are as before. -/

namespace Sys2Proof.Machine

set_option maxHeartbeats 1000000
set_option linter.unusedSimpArgs false
set_option linter.unusedTactic false
set_option linter.unreachableTactic false
set_option linter.unusedVariables false

theorem frame_incrHiWrite (a0 : Route) (a1 : Word) (s : State) :
    Within [.word 0x3c 0x14, .word 0x3c 0x28, .word 0x3c 0x24, .word 0x3c 0x20, .word 0x3c 0x70, .word 0x3c 0x44] [.spi, .clock] s (incrHiWrite a0 a1 s) := by
  unfold Machine.incrHiWrite
  extract_lets x0
  refine Within.ite ?_ ?_
  · refine Within.then ?_ (frame_reject _ _ _ _ _ _) rfl rfl
    exact Within.refl _ _ _
  · refine Within.ite ?_ ?_
    · refine Within.then ?_ (frame_reject _ _ _ _ _ _) rfl rfl
      exact Within.refl _ _ _
    · refine Within.then ?_ (frame_steered _) rfl rfl
      refine Within.then ?_ (frame_modClock _ _) rfl rfl
      refine Within.wr ?_ (inScopes_of rfl)
      exact Within.refl _ _ _

theorem frame_dropRate (s : State) :
    Within [.word 0x3c 0xb8] [.clock] s (dropRate s) := by
  unfold Machine.dropRate
  refine Within.wrInt ?_ (inScopes_of rfl)
  refine Within.then ?_ (frame_modClock _ _) rfl rfl
  exact Within.refl _ _ _

theorem frame_stepTime (a0 : Nat) (a1 : Bool) (s : State) :
    Within [.word 0x3c 0x14, .word 0x3c 0x70, .word 0x3c 0x78, .word 0x3c 0x7c, .word 0x3c 0xb0, .word 0x3c 0xb4, .word 0x3c 0xb8, .word 0x1a 0xc8] [.clock] s (stepTime a0 a1 s) := by
  unfold Machine.stepTime
  extract_lets x0 x1 x2 x3 x4 x5
  refine Within.via x2 ?_ (fun h6 => ?_)
  · unfold x2
    refine Within.then ?_ (frame_modClock _ _) rfl rfl
    exact Within.refl _ _ _
  · clear_value x2
    refine Within.via x3 ?_ (fun h7 => ?_)
    · unfold x3
      refine Within.ite ?_ ?_
      · refine Within.then ?_ (frame_dropRate _) rfl rfl
        refine Within.wr ?_ (inScopes_of rfl)
        exact h6
      · exact h6
    · clear_value x3
      refine Within.via x4 ?_ (fun h8 => ?_)
      · unfold x4
        refine Within.ite ?_ ?_
        · refine Within.then ?_ (frame_setOffset _ _) rfl rfl
          exact h7
        · exact h7
      · clear_value x4
        refine Within.via x5 ?_ (fun h9 => ?_)
        · unfold x5
          refine Within.wrInt ?_ (inScopes_of rfl)
          refine Within.inc ?_ (inScopes_of rfl)
          exact h8
        · clear_value x5
          refine Within.latch ?_ (inScopes_of rfl)
          refine Within.wr ?_ (inScopes_of rfl)
          refine Within.wr ?_ (inScopes_of rfl)
          refine Within.then ?_ (frame_steered _) rfl rfl
          exact h9

theorem frame_timeSet (a0 : Route) (a1 : Bool) (s : State) :
    Within [.word 0x3c 0x14, .word 0x3c 0x28, .word 0x3c 0x24, .word 0x3c 0x20, .word 0x3c 0x70, .word 0x3c 0x78, .word 0x3c 0x7c, .word 0x3c 0xb0, .word 0x3c 0xb4, .word 0x3c 0xb8, .word 0x1a 0xc8] [.spi, .clock] s (timeSet a0 a1 s) := by
  unfold Machine.timeSet
  refine Within.ite ?_ ?_
  · refine Within.then ?_ (frame_reject _ _ _ _ _ _) rfl rfl
    exact Within.refl _ _ _
  · extract_lets x0 x1
    refine Within.wr ?_ (inScopes_of rfl)
    refine Within.then ?_ (frame_stepTime _ _ _) rfl rfl
    exact Within.refl _ _ _

theorem frame_timeAdjust (a0 : Route) (a1 : Bool) (s : State) :
    Within [.word 0x3c 0x14, .word 0x3c 0x28, .word 0x3c 0x24, .word 0x3c 0x20, .word 0x3c 0x70, .word 0x3c 0x78, .word 0x3c 0x7c, .word 0x3c 0xb0, .word 0x3c 0xb4, .word 0x3c 0xb8, .word 0x1a 0xc8] [.spi, .clock] s (timeAdjust a0 a1 s) := by
  unfold Machine.timeAdjust
  refine Within.ite ?_ ?_
  · refine Within.then ?_ (frame_reject _ _ _ _ _ _) rfl rfl
    exact Within.refl _ _ _
  · extract_lets x0
    refine Within.then ?_ (frame_stepTime _ _ _) rfl rfl
    exact Within.refl _ _ _

theorem frame_meshOffsetWrite (a0 : Word) (s : State) :
    Within [.word 0x3c 0xb0, .word 0x3c 0xb4] [.clock] s (meshOffsetWrite a0 s) := by
  unfold Machine.meshOffsetWrite
  extract_lets x0
  refine Within.then ?_ (frame_setOffset _ _) rfl rfl
  exact Within.refl _ _ _

theorem frame_copyGo (a0 : Bool) (s : State) :
    Within [.word 0x40 0x14, .word 0x40 0x28, .word 0x40 0x24, .word 0x40 0x20, .word 0x4c 0x14, .word 0x4c 0x50, .word 0x4c 0x4c, .word 0x4c 0x48, .word 0x4c 0x44, .word 0x40 0x74, .word 0x40 0x78] [.spi, .notices, .copy] s (copyGo a0 s) := by
  unfold Machine.copyGo
  extract_lets x0 x1 x2
  refine Within.ite ?_ ?_
  · refine Within.then ?_ (frame_reject _ _ _ _ _ _) rfl rfl
    exact Within.refl _ _ _
  · refine Within.ite ?_ ?_
    · refine Within.then ?_ (frame_reject _ _ _ _ _ _) rfl rfl
      exact Within.refl _ _ _
    · refine Within.ite ?_ ?_
      · refine Within.then ?_ (frame_reject _ _ _ _ _ _) rfl rfl
        exact Within.refl _ _ _
      · refine Within.ite ?_ ?_
        · refine Within.then ?_ (frame_copyEnd _ _ _) rfl rfl
          exact Within.refl _ _ _
        · refine Within.ite ?_ ?_
          · refine Within.then ?_ (frame_copyEnd _ _ _) rfl rfl
            exact Within.refl _ _ _
          · refine Within.ite ?_ ?_
            · refine Within.then ?_ (frame_copyEnd _ _ _) rfl rfl
              exact Within.refl _ _ _
            · refine Within.wr ?_ (inScopes_of rfl)
              refine Within.wr ?_ (inScopes_of rfl)
              refine Within.wr ?_ (inScopes_of rfl)
              refine Within.set_copy ?_ (by decide)
              exact Within.refl _ _ _

theorem frame_testWrite (a0 : Route) (s : State) :
    Within [.word 0x46 0x14, .word 0x46 0x28, .word 0x46 0x24, .word 0x46 0x20, .word 0x46 0x98] [.spi, .mem] s (testWrite a0 s) := by
  unfold Machine.testWrite
  unfold Machine.testGo
  refine Within.ite ?_ ?_
  · refine Within.then ?_ (frame_reject _ _ _ _ _ _) rfl rfl
    exact Within.refl _ _ _
  · refine Within.ite ?_ ?_
    · refine Within.set_mem ?_ (by decide)
      exact Within.refl _ _ _
    · beta_reduce
      refine Within.then ?_ (frame_putTest _ _ _ _) rfl rfl
      exact Within.refl _ _ _

theorem frame_testFlipData (a0 : Route) (s : State) :
    Within [.word 0x46 0x14, .word 0x46 0x28, .word 0x46 0x24, .word 0x46 0x20, .word 0x46 0x98] [.spi, .mem] s (testFlipData a0 s) := by
  unfold Machine.testFlipData
  unfold Machine.testGo
  refine Within.ite ?_ ?_
  · refine Within.then ?_ (frame_reject _ _ _ _ _ _) rfl rfl
    exact Within.refl _ _ _
  · refine Within.ite ?_ ?_
    · refine Within.set_mem ?_ (by decide)
      exact Within.refl _ _ _
    · beta_reduce
      refine Within.then ?_ (frame_flipTestData _ _ _ _) rfl rfl
      exact Within.refl _ _ _

theorem frame_testFlipCheck (a0 : Route) (s : State) :
    Within [.word 0x46 0x14, .word 0x46 0x28, .word 0x46 0x24, .word 0x46 0x20, .word 0x46 0x98] [.spi, .mem] s (testFlipCheck a0 s) := by
  unfold Machine.testFlipCheck
  unfold Machine.testGo
  refine Within.ite ?_ ?_
  · refine Within.then ?_ (frame_reject _ _ _ _ _ _) rfl rfl
    exact Within.refl _ _ _
  · refine Within.ite ?_ ?_
    · refine Within.set_mem ?_ (by decide)
      exact Within.refl _ _ _
    · beta_reduce
      refine Within.then ?_ (frame_flipTestCheck _ _ _ _) rfl rfl
      exact Within.refl _ _ _

theorem frame_testReadSram (a0 : Nat) (a1 : Nat) (s : State) :
    Within [.word 0x46 0x98, .word 0x46 0x88, .word 0x46 0x8c, .word 0x46 0x14, .word 0x46 0x60, .word 0x46 0x68, .word 0x46 0x64] [.mem] s (testReadSram a0 a1 s) := by
  unfold Machine.testReadSram
  extract_lets x0 x1 x2 x3
  refine Within.via x3 ?_ (fun h4 => ?_)
  · unfold x3
    refine Within.then ?_ (frame_testStatus _ _ _) rfl rfl
    refine Within.then ?_ (frame_showData _ _) rfl rfl
    refine Within.then ?_ (frame_setTest _ _ _ _) rfl rfl
    exact Within.refl _ _ _
  · clear_value x3
    refine Within.ite ?_ ?_
    · exact h4
    · refine Within.ite ?_ ?_
      · refine Within.then ?_ (frame_sramCorrected _ _ _) rfl rfl
        exact h4
      · refine Within.then ?_ (frame_sramLost _ _ _) rfl rfl
        exact h4

theorem frame_testRead (a0 : Route) (s : State) :
    Within [.page 0x46] [.spi, .mem, .draws] s (testRead a0 s) := by
  unfold Machine.testRead
  unfold Machine.testGo
  refine Within.ite ?_ ?_
  · refine Within.then ?_ (frame_reject _ _ _ _ _ _) rfl rfl
    exact Within.refl _ _ _
  · refine Within.ite ?_ ?_
    · refine Within.set_mem ?_ (by decide)
      exact Within.refl _ _ _
    · beta_reduce
      refine Within.ite ?_ ?_
      · refine Within.then ?_ (frame_testReadDdr _ _) rfl rfl
        exact Within.refl _ _ _
      · refine Within.then ?_ (frame_testReadSram _ _ _) rfl rfl
        exact Within.refl _ _ _

theorem frame_testReadRaw (a0 : Route) (s : State) :
    Within [.word 0x46 0x14, .word 0x46 0x28, .word 0x46 0x24, .word 0x46 0x20, .word 0x46 0x98, .word 0x46 0x88, .word 0x46 0x8c, .word 0x46 0x90] [.spi, .mem] s (testReadRaw a0 s) := by
  unfold Machine.testReadRaw
  unfold Machine.testGo
  refine Within.ite ?_ ?_
  · refine Within.then ?_ (frame_reject _ _ _ _ _ _) rfl rfl
    exact Within.refl _ _ _
  · refine Within.ite ?_ ?_
    · refine Within.set_mem ?_ (by decide)
      exact Within.refl _ _ _
    · beta_reduce
      refine Within.then ?_ (frame_rawTest _ _ _) rfl rfl
      exact Within.refl _ _ _

theorem frame_testOp (a0 : Nat) (a1 : Route) (s : State) :
    Within [.page 0x46] [.spi, .mem, .draws] s (testOp a0 a1 s) := by
  unfold Machine.testOp
  split
  · refine Within.then ?_ (frame_testWrite _ _) rfl rfl
    exact Within.refl _ _ _
  · refine Within.then ?_ (frame_testFlipData _ _) rfl rfl
    exact Within.refl _ _ _
  · refine Within.then ?_ (frame_testFlipCheck _ _) rfl rfl
    exact Within.refl _ _ _
  · refine Within.then ?_ (frame_testRead _ _) rfl rfl
    exact Within.refl _ _ _
  · refine Within.then ?_ (frame_testReadRaw _ _) rfl rfl
    exact Within.refl _ _ _

theorem frame_countPke (a0 : Nat) (a1 : Nat) (s : State) :
    Within [.word 0x33 0x60, .word 0x33 0x64] [] s (countPke a0 a1 s) := by
  unfold Machine.countPke
  refine Within.incBy ?_ (inScopes_of rfl)
  refine Within.incBy ?_ (inScopes_of rfl)
  exact Within.refl _ _ _

theorem frame_checkPackage (a0 : List Byte) (s : State) :
    Within [.word 0x33 0x60, .word 0x33 0x64] [] s ((checkPackage a0 s).2) := by
  unfold Machine.checkPackage
  split
  · dsimp only
    exact Within.refl _ _ _
  · split
    · dsimp only
      exact Within.refl _ _ _
    · split
      · dsimp only
        refine Within.then ?_ (frame_countPke _ _ _) rfl rfl
        exact Within.refl _ _ _
      · extract_lets x0 x1
        refine Within.via x0 ?_ (fun h2 => ?_)
        · unfold x0
          refine Within.then ?_ (frame_countPke _ _ _) rfl rfl
          exact Within.refl _ _ _
        · clear_value x0
          refine Within.via x1 ?_ (fun h3 => ?_)
          · unfold x1
            refine Within.ite ?_ ?_
            · refine Within.then ?_ (frame_countPke _ _ _) rfl rfl
              exact h2
            · exact h2
          · clear_value x1
            split
            · dsimp only
              exact h2
            · split
              · dsimp only
                exact h2
              · split
                · dsimp only
                  refine Within.then ?_ (frame_countPke _ _ _) rfl rfl
                  exact h2
                · split
                  · dsimp only
                    exact h3
                  · split
                    · dsimp only
                      exact h3
                    · dsimp only
                      exact h3

theorem frame_showAct (a0 : ActRec) (s : State) :
    Within [.word 0x48 0x64, .word 0x48 0x5c, .word 0x48 0x60, .word 0x48 0x54, .word 0x48 0x58, .word 0x48 0x50] [] s (showAct a0 s) := by
  unfold Machine.showAct
  extract_lets x0 x1 x2 x3
  refine Within.via x0 ?_ (fun h4 => ?_)
  · unfold x0
    refine Within.wr ?_ (inScopes_of rfl)
    refine Within.wrBool ?_ (inScopes_of rfl)
    refine Within.wr ?_ (inScopes_of rfl)
    exact Within.refl _ _ _
  · clear_value x0
    refine Within.via x1 ?_ (fun h5 => ?_)
    · unfold x1
      refine Within.wr ?_ (inScopes_of rfl)
      refine Within.wr ?_ (inScopes_of rfl)
      refine Within.wr ?_ (inScopes_of rfl)
      exact h4
    · clear_value x1
      refine Within.via x2 ?_ (fun h6 => ?_)
      · unfold x2
        refine Within.wr ?_ (inScopes_of rfl)
        refine Within.wr ?_ (inScopes_of rfl)
        exact h5
      · clear_value x2
        refine Within.via x3 ?_ (fun h7 => ?_)
        · unfold x3
          refine Within.wr ?_ (inScopes_of rfl)
          refine Within.wr ?_ (inScopes_of rfl)
          exact h6
        · clear_value x3
          refine Within.wr ?_ (inScopes_of rfl)
          refine Within.wr ?_ (inScopes_of rfl)
          exact h7

theorem frame_writeAct (a0 : ActRec) (s : State) :
    Within [.word 0x48 0x64, .word 0x48 0x5c, .word 0x48 0x60, .word 0x48 0x54, .word 0x48 0x58, .word 0x48 0x50] [.fw] s (writeAct a0 s) := by
  unfold Machine.writeAct
  extract_lets x0 x1 x2
  refine Within.then ?_ (frame_showAct _ _) rfl rfl
  refine Within.set_fw ?_ (by decide)
  exact Within.refl _ _ _

theorem frame_fwBegin (a0 : Nat) (a1 : List Byte) (a2 : Bool) (s : State) :
    Within [.word 0x48 0x4c] [.fw] s (fwBegin a0 a1 a2 s) := by
  unfold Machine.fwBegin
  refine Within.wr ?_ (inScopes_of rfl)
  refine Within.set_fw ?_ (by decide)
  exact Within.refl _ _ _

theorem frame_fwInstall (s : State) :
    Within [.word 0x48 0x14, .word 0x48 0x28, .word 0x48 0x24, .word 0x48 0x20, .word 0x48 0x4c, .word 0x33 0x60, .word 0x33 0x64, .word 0x48 0x64, .word 0x48 0x5c, .word 0x48 0x60, .word 0x48 0x54, .word 0x48 0x58, .word 0x48 0x50] [.spi, .fw] s (fwInstall s) := by
  unfold Machine.fwInstall
  unfold Machine.fwCommand
  refine Within.ite ?_ ?_
  · refine Within.then ?_ (frame_reject _ _ _ _ _ _) rfl rfl
    exact Within.refl _ _ _
  · refine Within.ite ?_ ?_
    · refine Within.then ?_ (frame_reject _ _ _ _ _ _) rfl rfl
      exact Within.refl _ _ _
    · beta_reduce
      extract_lets x0 x1 x2 x3
      refine Within.via x2.2 ?_ (fun h4 => ?_)
      · unfold x2
        refine Within.then ?_ (frame_checkPackage _ _) rfl rfl
        exact Within.refl _ _ _
      · clear_value x2
        refine Within.via x3 ?_ (fun h5 => ?_)
        · unfold x3
          refine Within.then ?_ (frame_writeAct _ _) rfl rfl
          exact h4
        · clear_value x3
          refine Within.ite ?_ ?_
          · refine Within.then ?_ (frame_fwEnd _ _) rfl rfl
            exact Within.refl _ _ _
          · refine Within.ite ?_ ?_
            · refine Within.then ?_ (frame_fwEnd _ _) rfl rfl
              exact h4
            · refine Within.then ?_ (frame_fwBegin _ _ _ _) rfl rfl
              exact h5

theorem frame_readSettings (a0 : Nat) (s : State) :
    Within [.word 0x45 0x14, .word 0x45 0x48, .word 0x45 0x4c] [] s ((readSettings a0 s).2) := by
  unfold Machine.readSettings
  split
  · dsimp only
    exact Within.refl _ _ _
  · dsimp only
    refine Within.then ?_ (frame_flashError _ _ _) rfl rfl
    exact Within.refl _ _ _

theorem frame_programSector (a0 : Nat) (a1 : List Byte) (s : State) :
    Within [] [.fw] s (programSector a0 a1 s) := by
  unfold Machine.programSector
  refine Within.set_fw ?_ (by decide)
  exact Within.refl _ _ _

theorem frame_writeSector (a0 : Nat) (a1 : Nat) (a2 : List Byte) (s : State) :
    Within [] [.fw] s (writeSector a0 a1 a2 s) := by
  unfold Machine.writeSector
  refine Within.set_fw ?_ (by decide)
  exact Within.refl _ _ _

theorem frame_writeSectors (a0 : Nat) (a1 : Nat) (a2 : List Byte) (s : State) :
    Within [] [.fw] s (writeSectors a0 a1 a2 s) := by
  unfold Machine.writeSectors
  refine Within.foldl ?_ (fun _ _ _ h0 => ?_)
  · exact Within.refl _ _ _
  · refine Within.then ?_ (frame_writeSector _ _ _ _) rfl rfl
    exact h0

theorem frame_writeSettings (a0 : Nat) (a1 : List Byte) (s : State) :
    Within [] [.fw] s (writeSettings a0 a1 s) := by
  unfold Machine.writeSettings
  refine Within.then ?_ (frame_writeSectors _ _ _ _) rfl rfl
  exact Within.refl _ _ _

theorem frame_liveMigrate (a0 : List Byte) (a1 : Bool) (s : State) :
    Within [.word 0x45 0x14, .word 0x45 0x48, .word 0x45 0x4c] [.fw] s ((liveMigrate a0 a1 s).2) := by
  unfold Machine.liveMigrate
  extract_lets x0 x1 x2
  refine Within.via x2.2 ?_ (fun h3 => ?_)
  · unfold x2
    refine Within.then ?_ (frame_readSettings _ _) rfl rfl
    exact Within.refl _ _ _
  · clear_value x2
    split
    · dsimp only
      exact h3
    · split
      · dsimp only
        exact h3
      · split
        · dsimp only
          exact h3
        · dsimp only
          refine Within.then ?_ (frame_writeSettings _ _ _) rfl rfl
          exact h3

theorem frame_noteFallback (a0 : Nat) (s : State) :
    Within [.word 0x48 0x14, .word 0x48 0x4c] [] s (noteFallback a0 s) := by
  unfold Machine.noteFallback
  refine Within.logCairn ?_
  refine Within.latch ?_ (inScopes_of rfl)
  refine Within.wr ?_ (inScopes_of rfl)
  exact Within.refl _ _ _

theorem frame_fwActivateLive (a0 : Bool) (s : State) :
    Within [.word 0x48 0x14, .word 0x48 0x28, .word 0x48 0x24, .word 0x48 0x20, .word 0x48 0x4c, .word 0x33 0x60, .word 0x33 0x64, .word 0x45 0x14, .word 0x45 0x48, .word 0x45 0x4c, .word 0x48 0x64, .word 0x48 0x5c, .word 0x48 0x60, .word 0x48 0x54, .word 0x48 0x58, .word 0x48 0x50, .word 0x48 0x78] [.spi, .fw] s (fwActivateLive a0 s) := by
  unfold Machine.fwActivateLive
  unfold Machine.fwCommand
  refine Within.ite ?_ ?_
  · refine Within.then ?_ (frame_reject _ _ _ _ _ _) rfl rfl
    exact Within.refl _ _ _
  · refine Within.ite ?_ ?_
    · refine Within.then ?_ (frame_reject _ _ _ _ _ _) rfl rfl
      exact Within.refl _ _ _
    · beta_reduce
      extract_lets x0 x1 x2 x3 x4 x5 x6 x7
      refine Within.via x2.2 ?_ (fun h8 => ?_)
      · unfold x2
        refine Within.then ?_ (frame_checkPackage _ _) rfl rfl
        exact Within.refl _ _ _
      · clear_value x2
        refine Within.via x3.2 ?_ (fun h9 => ?_)
        · unfold x3
          refine Within.then ?_ (frame_liveMigrate _ _ _) rfl rfl
          exact h8
        · clear_value x3
          refine Within.via x4 ?_ (fun h10 => ?_)
          · unfold x4
            exact h9
          · clear_value x4
            refine Within.via x6 ?_ (fun h11 => ?_)
            · unfold x6
              refine Within.set_fw ?_ (by decide)
              exact h10
            · clear_value x6
              refine Within.ite ?_ ?_
              · refine Within.then ?_ (frame_fwEnd _ _) rfl rfl
                exact Within.refl _ _ _
              · refine Within.ite ?_ ?_
                · refine Within.then ?_ (frame_fwEnd _ _) rfl rfl
                  exact Within.refl _ _ _
                · refine Within.ite ?_ ?_
                  · refine Within.then ?_ (frame_fwEnd _ _) rfl rfl
                    exact Within.refl _ _ _
                  · refine Within.ite ?_ ?_
                    · refine Within.then ?_ (frame_fwEnd _ _) rfl rfl
                      exact Within.refl _ _ _
                    · refine Within.ite ?_ ?_
                      · refine Within.then ?_ (frame_fwEnd _ _) rfl rfl
                        exact h8
                      · split
                        · refine Within.then ?_ (frame_fwEnd _ _) rfl rfl
                          refine Within.then ?_ (frame_noteFallback _ _) rfl rfl
                          refine Within.then ?_ (frame_writeAct _ _) rfl rfl
                          exact h9
                        · extract_lets x12
                          refine Within.via x12 ?_ (fun h13 => ?_)
                          · unfold x12
                            refine Within.then ?_ (frame_writeAct _ _) rfl rfl
                            exact h11
                          · clear_value x12
                            refine Within.then ?_ (frame_fwBegin _ _ _ _) rfl rfl
                            refine Within.wr ?_ (inScopes_of rfl)
                            exact h13

theorem frame_fwActivateAtReset (s : State) :
    Within [.word 0x48 0x14, .word 0x48 0x28, .word 0x48 0x24, .word 0x48 0x20, .word 0x48 0x4c, .word 0x48 0x64, .word 0x48 0x5c, .word 0x48 0x60, .word 0x48 0x54, .word 0x48 0x58, .word 0x48 0x50] [.spi, .fw] s (fwActivateAtReset s) := by
  unfold Machine.fwActivateAtReset
  unfold Machine.fwCommand
  refine Within.ite ?_ ?_
  · refine Within.then ?_ (frame_reject _ _ _ _ _ _) rfl rfl
    exact Within.refl _ _ _
  · refine Within.ite ?_ ?_
    · refine Within.then ?_ (frame_reject _ _ _ _ _ _) rfl rfl
      exact Within.refl _ _ _
    · beta_reduce
      extract_lets x0 x1 x2
      refine Within.via x2 ?_ (fun h3 => ?_)
      · unfold x2
        refine Within.set_fw ?_ (by decide)
        exact Within.refl _ _ _
      · clear_value x2
        refine Within.ite ?_ ?_
        · refine Within.then ?_ (frame_fwEnd _ _) rfl rfl
          exact Within.refl _ _ _
        · refine Within.then ?_ (frame_fwEnd _ _) rfl rfl
          refine Within.then ?_ (frame_writeAct _ _) rfl rfl
          exact h3

theorem frame_fwConfirm (s : State) :
    Within [.word 0x48 0x14, .word 0x48 0x28, .word 0x48 0x24, .word 0x48 0x20, .word 0x48 0x4c, .word 0x48 0x64, .word 0x48 0x5c, .word 0x48 0x60, .word 0x48 0x54, .word 0x48 0x58, .word 0x48 0x50] [.spi, .fw] s (fwConfirm s) := by
  unfold Machine.fwConfirm
  unfold Machine.fwCommand
  refine Within.ite ?_ ?_
  · refine Within.then ?_ (frame_reject _ _ _ _ _ _) rfl rfl
    exact Within.refl _ _ _
  · refine Within.ite ?_ ?_
    · refine Within.then ?_ (frame_reject _ _ _ _ _ _) rfl rfl
      exact Within.refl _ _ _
    · beta_reduce
      extract_lets x0 x1 x2 x3 x4
      refine Within.via x2 ?_ (fun h5 => ?_)
      · unfold x2
        refine Within.wr ?_ (inScopes_of rfl)
        exact Within.refl _ _ _
      · clear_value x2
        refine Within.ite ?_ ?_
        · refine Within.then ?_ (frame_fwEnd _ _) rfl rfl
          exact Within.refl _ _ _
        · refine Within.ite ?_ ?_
          · refine Within.then ?_ (frame_fwEnd _ _) rfl rfl
            exact Within.refl _ _ _
          · refine Within.ite ?_ ?_
            · refine Within.then ?_ (frame_reject _ _ _ _ _ _) rfl rfl
              exact Within.refl _ _ _
            · refine Within.then ?_ (frame_fwEnd _ _) rfl rfl
              refine Within.logCairn ?_
              refine Within.then ?_ (frame_writeAct _ _) rfl rfl
              exact h5

theorem frame_fwRevert (s : State) :
    Within [.word 0x48 0x14, .word 0x48 0x28, .word 0x48 0x24, .word 0x48 0x20, .word 0x48 0x4c] [.spi, .fw] s (fwRevert s) := by
  unfold Machine.fwRevert
  unfold Machine.fwCommand
  refine Within.ite ?_ ?_
  · refine Within.then ?_ (frame_reject _ _ _ _ _ _) rfl rfl
    exact Within.refl _ _ _
  · refine Within.ite ?_ ?_
    · refine Within.then ?_ (frame_reject _ _ _ _ _ _) rfl rfl
      exact Within.refl _ _ _
    · refine Within.ite ?_ ?_
      · refine Within.then ?_ (frame_fwEnd _ _) rfl rfl
        refine Within.set_fw ?_ (by decide)
        exact Within.refl _ _ _
      · refine Within.then ?_ (frame_fwEnd _ _) rfl rfl
        exact Within.refl _ _ _

theorem frame_eraseSector (a0 : Nat) (s : State) :
    Within [] [.fw] s (eraseSector a0 s) := by
  unfold Machine.eraseSector
  refine Within.set_fw ?_ (by decide)
  exact Within.refl _ _ _

theorem frame_fwStoreProfile (a0 : SectorRun) (s : State) :
    Within [.word 0x48 0x14, .word 0x48 0x28, .word 0x48 0x24, .word 0x48 0x20, .word 0x48 0x4c, .word 0x33 0x60, .word 0x33 0x64, .word 0x45 0x14, .word 0x45 0x48, .word 0x45 0x4c, .word 0x48 0x64, .word 0x48 0x5c, .word 0x48 0x60, .word 0x48 0x54, .word 0x48 0x58, .word 0x48 0x50] [.spi, .fw] s (fwStoreProfile a0 s) := by
  unfold Machine.fwStoreProfile
  unfold Machine.fwCommand
  refine Within.ite ?_ ?_
  · refine Within.then ?_ (frame_reject _ _ _ _ _ _) rfl rfl
    exact Within.refl _ _ _
  · refine Within.ite ?_ ?_
    · refine Within.then ?_ (frame_reject _ _ _ _ _ _) rfl rfl
      exact Within.refl _ _ _
    · beta_reduce
      extract_lets x0 x1 x2 x3 x4 x5 x6 x7 x8
      refine Within.via x7 ?_ (fun h9 => ?_)
      · unfold x7
        refine Within.ite ?_ ?_
        · refine Within.then ?_ (frame_countPke _ _ _) rfl rfl
          exact Within.refl _ _ _
        · exact Within.refl _ _ _
      · clear_value x7
        refine Within.ite ?_ ?_
        · refine Within.then ?_ (frame_fwEnd _ _) rfl rfl
          exact Within.refl _ _ _
        · refine Within.ite ?_ ?_
          · refine Within.then ?_ (frame_fwEnd _ _) rfl rfl
            exact Within.refl _ _ _
          · refine Within.ite ?_ ?_
            · refine Within.then ?_ (frame_fwEnd _ _) rfl rfl
              exact Within.refl _ _ _
            · refine Within.ite ?_ ?_
              · refine Within.then ?_ (frame_fwEnd _ _) rfl rfl
                exact h9
              · refine Within.ite ?_ ?_
                · refine Within.then ?_ (frame_fwEnd _ _) rfl rfl
                  refine Within.then ?_ (frame_flashError _ _ _) rfl rfl
                  exact h9
                · unfold Machine.runSectors
                  extract_lets x10
                  split
                  · beta_reduce
                    refine Within.then ?_ (frame_fwEnd _ _) rfl rfl
                    refine Within.then ?_ (frame_writeAct _ _) rfl rfl
                    refine Within.then ?_ (frame_writeSettings _ _ _) rfl rfl
                    exact h9
                  · extract_lets x11
                    refine Within.then ?_ (frame_fwEnd _ _) rfl rfl
                    refine Within.then ?_ (frame_flashError _ _ _) rfl rfl
                    refine Within.then ?_ (frame_eraseSector _ _) rfl rfl
                    refine Within.then ?_ (frame_writeSectors _ _ _ _) rfl rfl
                    exact h9
                  · extract_lets x12
                    refine Within.then ?_ (frame_fwBegin _ _ _ _) rfl rfl
                    refine Within.then ?_ (frame_eraseSector _ _) rfl rfl
                    refine Within.then ?_ (frame_writeSectors _ _ _ _) rfl rfl
                    exact h9
                  · extract_lets x13
                    refine Within.then ?_ (frame_fwEnd _ _) rfl rfl
                    refine Within.then ?_ (frame_flashError _ _ _) rfl rfl
                    refine Within.then ?_ (frame_writeSectors _ _ _ _) rfl rfl
                    exact h9

theorem frame_fwGo (a0 : Nat) (s : State) :
    Within [.word 0x48 0x14, .word 0x48 0x28, .word 0x48 0x24, .word 0x48 0x20, .word 0x48 0x4c, .word 0x33 0x60, .word 0x33 0x64, .word 0x48 0x64, .word 0x48 0x5c, .word 0x48 0x60, .word 0x48 0x54, .word 0x48 0x58, .word 0x48 0x50, .word 0x45 0x14, .word 0x45 0x48, .word 0x45 0x4c, .word 0x48 0x78] [.spi, .fw] s (fwGo a0 s) := by
  unfold Machine.fwGo
  split
  · refine Within.then ?_ (frame_fwInstall _) rfl rfl
    exact Within.refl _ _ _
  · refine Within.then ?_ (frame_fwActivateLive _ _) rfl rfl
    exact Within.refl _ _ _
  · refine Within.then ?_ (frame_fwActivateAtReset _) rfl rfl
    exact Within.refl _ _ _
  · refine Within.then ?_ (frame_fwConfirm _) rfl rfl
    exact Within.refl _ _ _
  · refine Within.then ?_ (frame_fwRevert _) rfl rfl
    exact Within.refl _ _ _
  · refine Within.then ?_ (frame_fwStoreProfile _ _) rfl rfl
    exact Within.refl _ _ _

theorem frame_ownerCosign (s : State) :
    Within [.word 0x48 0x74, .word 0x48 0x14, .word 0x48 0x28, .word 0x48 0x24, .word 0x48 0x20] [.spi] s (ownerCosign s) := by
  unfold Machine.ownerCosign
  refine Within.ite ?_ ?_
  · refine Within.wr ?_ (inScopes_of rfl)
    exact Within.refl _ _ _
  · refine Within.then ?_ (frame_reject _ _ _ _ _ _) rfl rfl
    exact Within.refl _ _ _

theorem frame_holdLines (s : State) :
    Within [.word 0x8 0x5c, .word 0x9 0x5c, .word 0xa 0x5c, .word 0xb 0x5c] [.fes] s (holdLines s) := by
  unfold Machine.holdLines
  refine Within.foldl ?_ (fun _ _ _ h0 => ?_)
  · exact Within.refl _ _ _
  · extract_lets x1
    refine Within.then ?_ (frame_modFe _ _ _) rfl rfl
    refine Within.after ?_ (frame_showLines _ _) (amongCons (amongW4 rfl) amongNil) rfl
    exact h0

theorem frame_relinquish (s : State) :
    Within [.page 0x1b, .word 0x20 0xdc, .word 0x20 0xd8, .word 0x20 0xd4, .word 0x20 0xd0, .word 0x22 0x58, .word 0x22 0x54, .word 0x22 0x50, .page 0x24, .page 0x25, .page 0x26, .page 0x27, .word 0x21 0x50, .word 0x21 0x4c, .word 0x19 0xb4, .word 0x4a 0x14, .word 0x4a 0x50, .word 0x8 0x5c, .word 0x9 0x5c, .word 0xa 0x5c, .word 0xb 0x5c] [.nodes, .ddr, .ledger, .reasm, .scheds, .fes, .duty, .frames, .rope] s (relinquish s) := by
  unfold Machine.relinquish
  extract_lets x0 x1 x2
  refine Within.via x0 ?_ (fun h3 => ?_)
  · unfold x0
    refine Within.then ?_ (frame_holdLines _) rfl rfl
    exact Within.refl _ _ _
  · clear_value x0
    refine Within.via x1 ?_ (fun h4 => ?_)
    · unfold x1
      refine Within.then ?_ (frame_setRole _ _) rfl rfl
      refine Within.then ?_ (frame_modRope _ _) rfl rfl
      exact h3
    · clear_value x1
      refine Within.via x2 ?_ (fun h5 => ?_)
      · unfold x2
        refine Within.then ?_ (frame_endFrames _ _ _) rfl rfl
        exact h4
      · clear_value x2
        refine Within.then ?_ (frame_endReasm _) rfl rfl
        exact h5

theorem frame_ropeRelinquish (s : State) :
    Within [.word 0x4a 0x60, .page 0x1b, .word 0x20 0xdc, .word 0x20 0xd8, .word 0x20 0xd4, .word 0x20 0xd0, .word 0x22 0x58, .word 0x22 0x54, .word 0x22 0x50, .page 0x24, .page 0x25, .page 0x26, .page 0x27, .word 0x21 0x50, .word 0x21 0x4c, .word 0x19 0xb4, .word 0x4a 0x14, .word 0x4a 0x50, .word 0x8 0x5c, .word 0x9 0x5c, .word 0xa 0x5c, .word 0xb 0x5c] [.nodes, .ddr, .ledger, .reasm, .scheds, .fes, .duty, .frames, .rope] s (ropeRelinquish s) := by
  unfold Machine.ropeRelinquish
  refine Within.ite ?_ ?_
  · refine Within.wr ?_ (inScopes_of rfl)
    refine Within.then ?_ (frame_relinquish _) rfl rfl
    exact Within.refl _ _ _
  · refine Within.wr ?_ (inScopes_of rfl)
    exact Within.refl _ _ _

theorem frame_forceTakeover (s : State) :
    Within [.word 0x4a 0x60] [.rope] s (forceTakeover s) := by
  unfold Machine.forceTakeover
  refine Within.ite ?_ ?_
  · refine Within.then ?_ (frame_modRope _ _) rfl rfl
    exact Within.refl _ _ _
  · refine Within.wr ?_ (inScopes_of rfl)
    exact Within.refl _ _ _

theorem frame_requestKey (s : State) :
    Within [] [.slots] s ((requestKey s).2) := by
  unfold Machine.requestKey
  extract_lets x0 x1 x2
  refine Within.via x2.2 ?_ (fun h3 => ?_)
  · unfold x2
    refine Within.then ?_ (frame_useSlot _ _ _ _) rfl rfl
    exact Within.refl _ _ _
  · clear_value x2
    split
    · dsimp only
      exact Within.refl _ _ _
    · split
      · dsimp only
        exact Within.refl _ _ _
      · dsimp only
        exact h3

theorem frame_requestSigned (s : State) :
    Within [.word 0x33 0x60, .word 0x33 0x64] [] s ((requestSigned s).2) := by
  unfold Machine.requestSigned
  split
  · dsimp only
    exact Within.refl _ _ _
  · extract_lets x0 x1
    dsimp only
    refine Within.then ?_ (frame_countPke _ _ _) rfl rfl
    exact Within.refl _ _ _

theorem frame_requestCheck (s : State) :
    Within [.word 0x33 0x60, .word 0x33 0x64] [.slots] s ((requestCheck s).2) := by
  unfold Machine.requestCheck
  split
  · dsimp only
    exact Within.refl _ _ _
  · split
    · dsimp only
      exact Within.refl _ _ _
    · extract_lets x0 x1
      refine Within.via x0.2 ?_ (fun h2 => ?_)
      · unfold x0
        refine Within.then ?_ (frame_requestKey _) rfl rfl
        exact Within.refl _ _ _
      · clear_value x0
        refine Within.via x1.2 ?_ (fun h3 => ?_)
        · unfold x1
          refine Within.then ?_ (frame_requestSigned _) rfl rfl
          exact h2
        · clear_value x1
          split
          · dsimp only
            exact h2
          · dsimp only
            exact h3

theorem frame_requestEnd (a0 : Nat) (s : State) :
    Within [.page 0x4e] [.draws] s (requestEnd a0 s) := by
  unfold Machine.requestEnd
  unfold Machine.drawWords
  refine Within.foldl ?_ (fun _ _ _ h0 => ?_)
  · refine Within.wr ?_ (inScopes_of rfl)
    exact Within.refl _ _ _
  · generalize e1 : Machine.draw _ = p2
    obtain ⟨_, _⟩ := p2
    dsimp only
    refine Within.viaEq ?_ e1 (fun h3 => ?_)
    · refine Within.then ?_ (frame_draw _) rfl rfl
      exact h0
    · refine Within.wr ?_ (inScopes_of rfl)
      exact h3

theorem frame_requestEnter (s : State) :
    Within [.page 0x4e] [.draws] s (requestEnter s) := by
  unfold Machine.requestEnter
  refine Within.ite ?_ ?_
  · refine Within.then ?_ (frame_requestEnd _ _) rfl rfl
    exact Within.refl _ _ _
  · refine Within.then ?_ (frame_requestEnd _ _) rfl rfl
    refine Within.wr ?_ (inScopes_of rfl)
    exact Within.refl _ _ _

theorem frame_lcResult (a0 : Nat) (s : State) :
    Within [.word 0x80 0x2004] [] s (lcResult a0 s) := by
  unfold Machine.lcResult
  refine Within.wr ?_ (inScopes_of rfl)
  exact Within.refl _ _ _

theorem frame_requestExit (s : State) :
    Within [.page 0x4e, .word 0x80 0x2004] [.draws] s (requestExit s) := by
  unfold Machine.requestExit
  refine Within.ite ?_ ?_
  · refine Within.then ?_ (frame_requestEnd _ _) rfl rfl
    refine Within.wr ?_ (inScopes_of rfl)
    refine Within.then ?_ (frame_lcResult _ _) rfl rfl
    exact Within.refl _ _ _
  · refine Within.then ?_ (frame_requestEnd _ _) rfl rfl
    exact Within.refl _ _ _

theorem frame_requestClear (a0 : Nat) (s : State) :
    Within [.page 0x4e, .word 0x3 0x44] [.draws] s (requestClear a0 s) := by
  unfold Machine.requestClear
  refine Within.ite ?_ ?_
  · refine Within.then ?_ (frame_requestEnd _ _) rfl rfl
    exact Within.refl _ _ _
  · refine Within.ite ?_ ?_
    · refine Within.then ?_ (frame_requestEnd _ _) rfl rfl
      exact Within.refl _ _ _
    · extract_lets x0 x1 x2
      refine Within.via x1 ?_ (fun h3 => ?_)
      · unfold x1
        refine Within.wr ?_ (inScopes_of rfl)
        refine Within.wr ?_ (inScopes_of rfl)
        refine Within.wr ?_ (inScopes_of rfl)
        exact Within.refl _ _ _
      · clear_value x1
        refine Within.via x2 ?_ (fun h4 => ?_)
        · unfold x2
          refine Within.logCairn ?_
          exact h3
        · clear_value x2
          refine Within.then ?_ (frame_requestEnd _ _) rfl rfl
          exact h4

theorem frame_requestRevert (s : State) :
    Within [.page 0x4e, .word 0x48 0x14, .word 0x48 0x28, .word 0x48 0x24, .word 0x48 0x20, .word 0x48 0x4c] [.draws, .spi, .fw] s (requestRevert s) := by
  unfold Machine.requestRevert
  refine Within.ite ?_ ?_
  · refine Within.then ?_ (frame_requestEnd _ _) rfl rfl
    exact Within.refl _ _ _
  · refine Within.then ?_ (frame_requestEnd _ _) rfl rfl
    refine Within.then ?_ (frame_fwRevert _) rfl rfl
    exact Within.refl _ _ _

theorem frame_i2cCmd (a0 : Route) (a1 : Word) (s : State) :
    Within [.word 0x4e 0x14, .word 0x4e 0x28, .word 0x4e 0x24, .word 0x4e 0x20, .word 0x4e 0x128] [.spi, .i2c] s (i2cCmd a0 a1 s) := by
  unfold Machine.i2cCmd
  refine Within.ite ?_ ?_
  · refine Within.then ?_ (frame_reject _ _ _ _ _ _) rfl rfl
    exact Within.refl _ _ _
  · refine Within.ite ?_ ?_
    · refine Within.then ?_ (frame_reject _ _ _ _ _ _) rfl rfl
      exact Within.refl _ _ _
    · refine Within.wr ?_ (inScopes_of rfl)
      refine Within.set_i2c ?_ (by decide)
      exact Within.refl _ _ _

theorem frame_mgmtAck (a0 : Nat) (a1 : Word) (s : State) :
    Within [] [] s (mgmtAck a0 a1 s) := by
  unfold Machine.mgmtAck
  refine Within.foldl ?_ (fun _ _ _ h0 => ?_)
  · exact Within.refl _ _ _
  · refine Within.ite ?_ ?_
    · refine Within.set_acked ?_
      exact h0
    · exact h0

theorem frame_ltResume (s : State) :
    Within [.word 0xb 0x9c, .page 0x10, .word 0x8 0x5c, .word 0x9 0x5c, .word 0xa 0x5c, .word 0xb 0x5c, .word 0x8 0x4c, .word 0x9 0x4c, .word 0xa 0x4c, .word 0xb 0x4c, .page 0x11, .page 0x31, .page 0x1b, .word 0x20 0xdc, .word 0x20 0xd8, .word 0x20 0xd4, .word 0x20 0xd0, .word 0x19 0xa4, .word 0x19 0xa8, .word 0x19 0xac, .word 0x19 0xb0, .word 0x19 0xb4, .word 0x19 0xb8] [.lanes, .fes, .nodes, .ddr, .ledger] s (ltResume s) := by
  unfold Machine.ltResume
  extract_lets x0 x1
  refine Within.via x1 ?_ (fun h2 => ?_)
  · unfold x1
    refine Within.wr ?_ (inScopes_of rfl)
    exact Within.refl _ _ _
  · clear_value x1
    refine Within.ite ?_ ?_
    · refine Within.wr ?_ (inScopes_of rfl)
      exact Within.refl _ _ _
    · refine Within.ite ?_ ?_
      · refine Within.then ?_ (frame_refreshListen _) rfl rfl
        refine Within.after ?_ (frame_setRf _ _ _) (amongCons rfl (amongCons (amongW4 rfl) (amongCons (amongW4 rfl) amongNil))) rfl
        refine Within.then ?_ (frame_endLanes _ _ _) rfl rfl
        exact h2
      · refine Within.ite ?_ ?_
        · refine Within.then ?_ (frame_refreshListen _) rfl rfl
          exact h2
        · refine Within.then ?_ (frame_modFe _ _ _) rfl rfl
          exact h2

theorem frame_fillMeter (a0 : Nat) (s : State) :
    Within [.page 0x28] [.meters] s (fillMeter a0 s) := by
  unfold Machine.fillMeter
  refine Within.then ?_ (frame_resetMeter _ _) rfl rfl
  refine Within.wr ?_ (inScopes_meter (by decide) (fun _ => rfl) (fun _ => rfl))
  refine Within.wr ?_ (inScopes_meter (by decide) (fun _ => rfl) (fun _ => rfl))
  exact Within.refl _ _ _

theorem frame_recountComplete (a0 : Nat) (s : State) :
    Within [.page 0x29] [] s (recountComplete a0 s) := by
  unfold Machine.recountComplete
  extract_lets x0
  refine Within.wr ?_ (inScopes_of rfl)
  exact Within.refl _ _ _

theorem frame_noteBase (a0 : Nat) (a1 : Nat) (s : State) :
    Within [] [.mem] s (noteBase a0 a1 s) := by
  unfold Machine.noteBase
  split
  · refine Within.ite ?_ ?_
    · exact Within.refl _ _ _
    · refine Within.set_mem ?_ (by decide)
      exact Within.refl _ _ _
  · exact Within.refl _ _ _

theorem frame_ppsEnabled (s : State) :
    Within [] [.clock] s (ppsEnabled s) := by
  unfold Machine.ppsEnabled
  refine Within.then ?_ (frame_modClock _ _) rfl rfl
  exact Within.refl _ _ _

theorem frame_startRing (a0 : Nat) (s : State) :
    Within [.page 0x41] [.rings, .ddr] s (startRing a0 s) := by
  unfold Machine.startRing
  extract_lets x0 x1 x2
  refine Within.via x1 ?_ (fun h3 => ?_)
  · unfold x1
    refine Within.then ?_ (frame_winWrite _ _ _) rfl rfl
    exact Within.refl _ _ _
  · clear_value x1
    refine Within.via x2 ?_ (fun h4 => ?_)
    · unfold x2
      refine Within.wr ?_ (inScopes_of rfl)
      refine Within.wr ?_ (inScopes_of rfl)
      exact h3
    · clear_value x2
      refine Within.then ?_ (frame_refreshLevel _ _) rfl rfl
      refine Within.then ?_ (frame_modRing _ _ _) rfl rfl
      refine Within.wr ?_ (inScopes_of rfl)
      exact h4

theorem frame_showEdges (s : State) :
    Within [.word 0x4e 0x10, .word 0x4e 0x14] [] s (showEdges s) := by
  unfold Machine.showEdges
  refine Within.ite ?_ ?_
  · refine Within.lower ?_ (inScopes_of rfl)
    exact Within.refl _ _ _
  · refine Within.ite ?_ ?_
    · exact Within.refl _ _ _
    · refine Within.raise ?_ (inScopes_of rfl) (inScopes_of rfl)
      exact Within.refl _ _ _

theorem frame_showDriven (s : State) :
    Within [.word 0x4e 0x108] [] s (showDriven s) := by
  unfold Machine.showDriven
  refine Within.wr ?_ (inScopes_of rfl)
  exact Within.refl _ _ _

theorem frame_afterStore (a0 : Nat) (a1 : Nat) (a2 : Nat) (a3 : State) (s : State) :
    Within [.word 0xb 0x9c, .page 0x10, .word 0x8 0x5c, .word 0x9 0x5c, .word 0xa 0x5c, .word 0xb 0x5c, .word 0x8 0x4c, .word 0x9 0x4c, .word 0xa 0x4c, .word 0xb 0x4c, .page 0x11, .page 0x31, .page 0x1b, .word 0x20 0xdc, .word 0x20 0xd8, .word 0x20 0xd4, .word 0x20 0xd0, .word 0x19 0xa4, .word 0x19 0xa8, .word 0x19 0xac, .word 0x19 0xb0, .word 0x19 0xb4, .word 0x19 0xb8, .page 0x28, .page 0x29, .word 0x4c 0x14, .word 0x4c 0x50, .word 0x4c 0x4c, .word 0x4c 0x48, .word 0x4c 0x44, .page 0x41, .word 0x38 0x74, .word 0x39 0x74, .word 0x38 0x70, .word 0x39 0x70, .word 0x38 0x14, .word 0x39 0x14, .word 0x38 0x78, .word 0x39 0x78, .page 0x3a, .page 0x3b, .word 0x38 0xac, .word 0x39 0xac, .word 0x4e 0x10, .word 0x4e 0x14, .word 0x4e 0x108] [.lanes, .fes, .nodes, .ddr, .ledger, .meters, .mem, .ports, .notices, .rings, .clock] s (afterStore a0 a1 a2 a3 s) := by
  unfold Machine.afterStore
  split
  · refine Within.ite ?_ ?_
    · refine Within.settle ?_
      exact Within.refl _ _ _
    · exact Within.refl _ _ _
  · refine Within.ite ?_ ?_
    · refine Within.then ?_ (frame_ltResume _) rfl rfl
      exact Within.refl _ _ _
    · exact Within.refl _ _ _
  · refine Within.ite ?_ ?_
    · refine Within.then ?_ (frame_refreshListen _) rfl rfl
      exact Within.refl _ _ _
    · exact Within.refl _ _ _
  · extract_lets x0 x1 x2 x3 x4 x5 x6 x7
    clear_value x7
    split
    · refine Within.ite ?_ ?_
      · refine Within.then ?_ (frame_fillMeter _ _) rfl rfl
        exact Within.refl _ _ _
      · exact Within.refl _ _ _
    · exact Within.refl _ _ _
  · refine Within.ite ?_ ?_
    · refine Within.then ?_ (frame_recountComplete _ _) rfl rfl
      exact Within.refl _ _ _
    · refine Within.then ?_ (frame_noteBase _ _ _) rfl rfl
      exact Within.refl _ _ _
  · refine Within.then ?_ (frame_refreshLink _ _) rfl rfl
    exact Within.refl _ _ _
  · refine Within.then ?_ (frame_refreshLink _ _) rfl rfl
    exact Within.refl _ _ _
  · refine Within.ite ?_ ?_
    · refine Within.then ?_ (frame_ppsEnabled _) rfl rfl
      exact Within.refl _ _ _
    · exact Within.refl _ _ _
  · refine Within.ite ?_ ?_
    · extract_lets x8 x9 x10 x11 x12 x13 x14 x15 x16 x17
      refine Within.ite ?_ ?_
      · refine Within.then ?_ (frame_startRing _ _) rfl rfl
        exact Within.refl _ _ _
      · refine Within.ite ?_ ?_
        · refine Within.foldl ?_ (fun _ _ _ h18 => ?_)
          · refine Within.then ?_ (frame_modRing _ _ _) rfl rfl
            exact Within.refl _ _ _
          · refine Within.then ?_ (frame_endItem _ _ _) rfl rfl
            exact h18
        · exact Within.refl _ _ _
    · exact Within.refl _ _ _
  · refine Within.ite ?_ ?_
    · refine Within.then ?_ (frame_showEdges _) rfl rfl
      exact Within.refl _ _ _
    · refine Within.ite ?_ ?_
      · refine Within.then ?_ (frame_showDriven _) rfl rfl
        exact Within.refl _ _ _
      · exact Within.refl _ _ _
  · refine Within.then ?_ (frame_noteBase _ _ _) rfl rfl
    exact Within.refl _ _ _

theorem frame_releasePending (s : State) :
    Within [] [] s (releasePending s) := by
  unfold Machine.releasePending
  refine Within.foldl ?_ (fun _ _ _ h0 => ?_)
  · exact Within.refl _ _ _
  · refine Within.ite ?_ ?_
    · refine Within.then ?_ (frame_sendMsix _ _) rfl rfl
      exact h0
    · exact h0

theorem frame_msixUnmask (a0 : Option Nat) (s : State) :
    Within [] [] s (msixUnmask a0 s) := by
  unfold Machine.msixUnmask
  extract_lets x0 x1
  refine Within.via x1 ?_ (fun h2 => ?_)
  · unfold x1
    split
    · refine Within.set_msix ?_
      exact Within.refl _ _ _
    · refine Within.set_msix ?_
      exact Within.refl _ _ _
  · clear_value x1
    refine Within.then ?_ (frame_releasePending _) rfl rfl
    exact h2

theorem frame_msixWrite (a0 : Nat) (a1 : Word) (s : State) :
    Within [] [] s (msixWrite a0 a1 s) := by
  unfold Machine.msixWrite
  extract_lets x0 x1 x2
  refine Within.ite ?_ ?_
  · refine Within.ite ?_ ?_
    · refine Within.set_msix ?_
      exact Within.refl _ _ _
    · refine Within.ite ?_ ?_
      · refine Within.then ?_ (frame_msixUnmask _ _) rfl rfl
        exact Within.refl _ _ _
      · exact Within.refl _ _ _
  · refine Within.set_msix ?_
    exact Within.refl _ _ _

theorem frame_windowDiscard (a0 : Nat) (s : State) :
    Within [.word 0x20 0xc4, .word 0x20 0xc0] [] s (windowDiscard a0 s) := by
  unfold Machine.windowDiscard
  refine Within.wr ?_ (inScopes_of rfl)
  refine Within.inc ?_ (inScopes_of rfl)
  exact Within.refl _ _ _

theorem frame_windowRecord (a0 : Nat) (a1 : List (Nat × Nat)) (s : State) :
    Within [.page 0x1b, .word 0x20 0xdc, .word 0x20 0xd8, .word 0x20 0xd4, .word 0x20 0xd0] [.nodes, .ddr] s (windowRecord a0 a1 s) := by
  unfold Machine.windowRecord
  refine Within.then ?_ (frame_setNode _ _ _) rfl rfl
  exact Within.refl _ _ _

theorem frame_windowWrite (a0 : Nat) (a1 : Bool) (a2 : List Word) (s : State) :
    Within [.word 0x20 0xc4, .word 0x20 0xc0, .page 0x1b, .word 0x20 0xdc, .word 0x20 0xd8, .word 0x20 0xd4, .word 0x20 0xd0] [.nodes, .ddr] s (windowWrite a0 a1 a2 s) := by
  unfold Machine.windowWrite
  refine Within.ite ?_ ?_
  · refine Within.then ?_ (frame_windowDiscard _ _) rfl rfl
    exact Within.refl _ _ _
  · extract_lets x0 x1 x2
    split
    · refine Within.then ?_ (frame_windowDiscard _ _) rfl rfl
      exact Within.refl _ _ _
    · refine Within.foldl ?_ (fun _ _ _ h3 => ?_)
      · exact Within.refl _ _ _
      · refine Within.then ?_ (frame_windowRecord _ _ _) rfl rfl
        exact h3

theorem frame_trustDenied (s : State) :
    Within [.word 0x30 0xb4] [] s (trustDenied s) := by
  unfold Machine.trustDenied
  refine Within.inc ?_ (inScopes_of rfl)
  exact Within.refl _ _ _

theorem frame_reject4 (a0 : Nat) (a1 : Reason) (a2 : Nat) (s : State) :
    Within [.word 0x30 0x14, .word 0x30 0x28, .word 0x30 0x24, .word 0x30 0x20] [.spi] s (reject4 a0 a1 a2 s) := by
  unfold Machine.reject4
  refine Within.then ?_ (frame_reject _ _ _ _ _ _) rfl rfl
  exact Within.refl _ _ _

theorem frame_trustUnlock (s : State) :
    Within [.page 0x80, .word 0x33 0x60, .word 0x33 0x64] [.draws, .root] s (trustUnlock s) := by
  unfold Machine.trustUnlock
  extract_lets x0 x1 x2 x3 x4 x5 x6 x7
  refine Within.via x3 ?_ (fun h8 => ?_)
  · unfold x3
    refine Within.inc ?_ (inScopes_of rfl)
    exact Within.refl _ _ _
  · clear_value x3
    refine Within.via x7 ?_ (fun h9 => ?_)
    · unfold x7
      refine Within.set_root ?_ (by decide)
      exact h8
    · clear_value x7
      refine Within.ite ?_ ?_
      · (unfold x0; beta_reduce)
        unfold Machine.drawWords
        refine Within.foldl ?_ (fun _ _ _ h10 => ?_)
        · (unfold x1; beta_reduce)
          refine Within.wr ?_ (inScopes_of rfl)
          exact Within.refl _ _ _
        · generalize e11 : Machine.draw _ = p12
          obtain ⟨_, _⟩ := p12
          dsimp only
          refine Within.viaEq ?_ e11 (fun h13 => ?_)
          · refine Within.then ?_ (frame_draw _) rfl rfl
            exact h10
          · refine Within.wr ?_ (inScopes_of rfl)
            exact h13
      · refine Within.ite ?_ ?_
        · (unfold x0; beta_reduce)
          unfold Machine.drawWords
          refine Within.foldl ?_ (fun _ _ _ h14 => ?_)
          · (unfold x1; beta_reduce)
            refine Within.wr ?_ (inScopes_of rfl)
            exact Within.refl _ _ _
          · generalize e15 : Machine.draw _ = p16
            obtain ⟨_, _⟩ := p16
            dsimp only
            refine Within.viaEq ?_ e15 (fun h17 => ?_)
            · refine Within.then ?_ (frame_draw _) rfl rfl
              exact h14
            · refine Within.wr ?_ (inScopes_of rfl)
              exact h17
        · refine Within.ite ?_ ?_
          · (unfold x0; beta_reduce)
            unfold Machine.drawWords
            refine Within.foldl ?_ (fun _ _ _ h18 => ?_)
            · (unfold x1; beta_reduce)
              refine Within.wr ?_ (inScopes_of rfl)
              refine Within.wr ?_ (inScopes_of rfl)
              refine Within.wr ?_ (inScopes_of rfl)
              exact h9
            · generalize e19 : Machine.draw _ = p20
              obtain ⟨_, _⟩ := p20
              dsimp only
              refine Within.viaEq ?_ e19 (fun h21 => ?_)
              · refine Within.then ?_ (frame_draw _) rfl rfl
                exact h18
              · refine Within.wr ?_ (inScopes_of rfl)
                exact h21
          · (unfold x0; beta_reduce)
            unfold Machine.drawWords
            refine Within.foldl ?_ (fun _ _ _ h22 => ?_)
            · (unfold x1; beta_reduce)
              refine Within.wr ?_ (inScopes_of rfl)
              refine Within.inc ?_ (inScopes_of rfl)
              exact h8
            · generalize e23 : Machine.draw _ = p24
              obtain ⟨_, _⟩ := p24
              dsimp only
              refine Within.viaEq ?_ e23 (fun h25 => ?_)
              · refine Within.then ?_ (frame_draw _) rfl rfl
                exact h22
              · refine Within.wr ?_ (inScopes_of rfl)
                exact h25

theorem frame_trustClose (s : State) :
    Within [.word 0x80 0x0] [.root] s (trustClose s) := by
  unfold Machine.trustClose
  refine Within.then ?_ (frame_closeLock _) rfl rfl
  exact Within.refl _ _ _

theorem frame_suppress (s : State) :
    Within [.word 0x30 0x14, .word 0x30 0xa8] [] s (suppress s) := by
  unfold Machine.suppress
  refine Within.latch ?_ (inScopes_of rfl)
  refine Within.inc ?_ (inScopes_of rfl)
  exact Within.refl _ _ _

theorem frame_followKeyChange (a0 : Nat) (s : State) :
    Within [.page 0x24, .page 0x25, .page 0x26, .page 0x27, .word 0x21 0x50, .word 0x21 0x4c, .page 0x1b, .word 0x20 0xdc, .word 0x20 0xd8, .word 0x20 0xd4, .word 0x20 0xd0, .word 0x19 0xb4, .page 0x10, .page 0x31, .word 0x8 0x5c, .word 0x9 0x5c, .word 0xa 0x5c, .word 0xb 0x5c, .word 0x8 0x4c, .word 0x9 0x4c, .word 0xa 0x4c, .word 0xb 0x4c, .word 0x30 0x14, .word 0x30 0xa8] [.nodes, .ddr, .ledger, .scheds, .fes, .duty, .frames, .lanes] s (followKeyChange a0 s) := by
  unfold Machine.followKeyChange
  refine Within.foldl ?_ (fun _ _ _ h0 => ?_)
  · exact Within.refl _ _ _
  · split
    · split
      · refine Within.ite ?_ ?_
        · refine Within.after ?_ (frame_cutTx _ _ _) (amongCons rfl (amongCons rfl (amongCons rfl (amongCons rfl (amongCons rfl (amongCons rfl (amongCons rfl (amongCons rfl (amongCons rfl (amongCons rfl (amongCons rfl (amongCons rfl (amongCons rfl (amongCons rfl (amongCons (amongW4 rfl) (amongCons (amongW4 rfl) amongNil)))))))))))))))) rfl
          refine Within.then ?_ (frame_suppress _) rfl rfl
          exact h0
        · exact h0
      · exact h0
    · exact h0

theorem frame_changeSlot (a0 : Nat) (a1 : Slot) (s : State) :
    Within [.page 0x24, .page 0x25, .page 0x26, .page 0x27, .word 0x21 0x50, .word 0x21 0x4c, .page 0x1b, .word 0x20 0xdc, .word 0x20 0xd8, .word 0x20 0xd4, .word 0x20 0xd0, .word 0x19 0xb4, .page 0x10, .page 0x31, .word 0x8 0x5c, .word 0x9 0x5c, .word 0xa 0x5c, .word 0xb 0x5c, .word 0x8 0x4c, .word 0x9 0x4c, .word 0xa 0x4c, .word 0xb 0x4c, .word 0x30 0x14, .word 0x30 0xa8] [.nodes, .ddr, .ledger, .scheds, .fes, .duty, .frames, .lanes, .slots] s (changeSlot a0 a1 s) := by
  unfold Machine.changeSlot
  refine Within.then ?_ (frame_followKeyChange _ _) rfl rfl
  refine Within.then ?_ (frame_setSlot _ _ _) rfl rfl
  exact Within.refl _ _ _

theorem frame_placeKey (a0 : Nat) (a1 : BitVec 32) (a2 : List Byte) (a3 : Option (Nat × Nat)) (s : State) :
    Within [.word 0x4c 0x14, .word 0x4c 0x50, .word 0x4c 0x4c, .word 0x4c 0x48, .word 0x4c 0x44, .word 0x30 0x14, .page 0x80, .word 0x30 0xb8, .page 0x24, .page 0x25, .page 0x26, .page 0x27, .word 0x21 0x50, .word 0x21 0x4c, .page 0x1b, .word 0x20 0xdc, .word 0x20 0xd8, .word 0x20 0xd4, .word 0x20 0xd0, .word 0x19 0xb4, .page 0x10, .page 0x31, .word 0x8 0x5c, .word 0x9 0x5c, .word 0xa 0x5c, .word 0xb 0x5c, .word 0x8 0x4c, .word 0x9 0x4c, .word 0xa 0x4c, .word 0xb 0x4c, .word 0x30 0xa8] [.notices, .keyOp, .nodes, .ddr, .ledger, .scheds, .fes, .duty, .frames, .lanes, .slots] s (placeKey a0 a1 a2 a3 s) := by
  unfold Machine.placeKey
  extract_lets x0 x1 x2 x3
  refine Within.ite ?_ ?_
  · refine Within.then ?_ (frame_loadEnd _ _ _) rfl rfl
    refine Within.then ?_ (frame_changeSlot _ _ _) rfl rfl
    exact Within.refl _ _ _
  · refine Within.ite ?_ ?_
    · refine Within.then ?_ (frame_loadEnd _ _ _) rfl rfl
      exact Within.refl _ _ _
    · refine Within.ite ?_ ?_
      · refine Within.then ?_ (frame_loadEnd _ _ _) rfl rfl
        exact Within.refl _ _ _
      · refine Within.then ?_ (frame_loadStatus _ _ _ _) rfl rfl
        refine Within.set_keyOp ?_ (by decide)
        exact Within.refl _ _ _

theorem frame_keyLoad (a0 : Nat) (s : State) :
    Within [.word 0x30 0xb4, .word 0x30 0x14, .word 0x30 0x28, .word 0x30 0x24, .word 0x30 0x20, .word 0x4c 0x14, .word 0x4c 0x50, .word 0x4c 0x4c, .word 0x4c 0x48, .word 0x4c 0x44, .page 0x80, .word 0x30 0xb8, .page 0x24, .page 0x25, .page 0x26, .page 0x27, .word 0x21 0x50, .word 0x21 0x4c, .page 0x1b, .word 0x20 0xdc, .word 0x20 0xd8, .word 0x20 0xd4, .word 0x20 0xd0, .word 0x19 0xb4, .page 0x10, .page 0x31, .word 0x8 0x5c, .word 0x9 0x5c, .word 0xa 0x5c, .word 0xb 0x5c, .word 0x8 0x4c, .word 0x9 0x4c, .word 0xa 0x4c, .word 0xb 0x4c, .word 0x30 0xa8] [.spi, .notices, .keyOp, .nodes, .ddr, .ledger, .scheds, .fes, .duty, .frames, .lanes, .slots] s (keyLoad a0 s) := by
  unfold Machine.keyLoad
  unfold Machine.commit
  unfold Machine.bar4Command
  refine Within.ite ?_ ?_
  · refine Within.then ?_ (frame_trustDenied _) rfl rfl
    exact Within.refl _ _ _
  · refine Within.ite ?_ ?_
    · refine Within.then ?_ (frame_reject4 _ _ _ _) rfl rfl
      exact Within.refl _ _ _
    · beta_reduce
      refine Within.ite ?_ ?_
      · refine Within.then ?_ (frame_reject4 _ _ _ _) rfl rfl
        exact Within.refl _ _ _
      · refine Within.ite ?_ ?_
        · refine Within.then ?_ (frame_loadEnd _ _ _) rfl rfl
          exact Within.refl _ _ _
        · extract_lets x0 x1 x2 x3 x4 x5 x6 x7
          refine Within.ite ?_ ?_
          · refine Within.then ?_ (frame_loadEnd _ _ _) rfl rfl
            exact Within.refl _ _ _
          · refine Within.then ?_ (frame_placeKey _ _ _ _ _) rfl rfl
            exact Within.refl _ _ _

theorem frame_keyUnwrapLoad (a0 : Nat) (s : State) :
    Within [.word 0x30 0xb4, .word 0x30 0x14, .word 0x30 0x28, .word 0x30 0x24, .word 0x30 0x20, .word 0x4c 0x14, .word 0x4c 0x50, .word 0x4c 0x4c, .word 0x4c 0x48, .word 0x4c 0x44, .page 0x80, .word 0x30 0xb8, .page 0x24, .page 0x25, .page 0x26, .page 0x27, .word 0x21 0x50, .word 0x21 0x4c, .page 0x1b, .word 0x20 0xdc, .word 0x20 0xd8, .word 0x20 0xd4, .word 0x20 0xd0, .word 0x19 0xb4, .page 0x10, .page 0x31, .word 0x8 0x5c, .word 0x9 0x5c, .word 0xa 0x5c, .word 0xb 0x5c, .word 0x8 0x4c, .word 0x9 0x4c, .word 0xa 0x4c, .word 0xb 0x4c, .word 0x30 0xa8] [.spi, .notices, .keyOp, .slots, .nodes, .ddr, .ledger, .scheds, .fes, .duty, .frames, .lanes] s (keyUnwrapLoad a0 s) := by
  unfold Machine.keyUnwrapLoad
  unfold Machine.commit
  unfold Machine.bar4Command
  refine Within.ite ?_ ?_
  · refine Within.then ?_ (frame_trustDenied _) rfl rfl
    exact Within.refl _ _ _
  · refine Within.ite ?_ ?_
    · refine Within.then ?_ (frame_reject4 _ _ _ _) rfl rfl
      exact Within.refl _ _ _
    · beta_reduce
      refine Within.ite ?_ ?_
      · refine Within.then ?_ (frame_reject4 _ _ _ _) rfl rfl
        exact Within.refl _ _ _
      · refine Within.ite ?_ ?_
        · refine Within.then ?_ (frame_loadEnd _ _ _) rfl rfl
          exact Within.refl _ _ _
        · extract_lets x0 x1 x2 x3 x4 x5 x6 x7
          refine Within.ite ?_ ?_
          · refine Within.then ?_ (frame_loadEnd _ _ _) rfl rfl
            exact Within.refl _ _ _
          · refine Within.ite ?_ ?_
            · refine Within.then ?_ (frame_loadEnd _ _ _) rfl rfl
              exact Within.refl _ _ _
            · unfold Machine.withParent
              extract_lets x8 x9
              refine Within.via x9.2 ?_ (fun h10 => ?_)
              · unfold x9
                refine Within.then ?_ (frame_useSlot _ _ _ _) rfl rfl
                exact Within.refl _ _ _
              · clear_value x9
                split
                · beta_reduce
                  refine Within.ite ?_ ?_
                  · refine Within.then ?_ (frame_loadEnd _ _ _) rfl rfl
                    exact h10
                  · split
                    · refine Within.then ?_ (frame_loadEnd _ _ _) rfl rfl
                      exact h10
                    · refine Within.then ?_ (frame_placeKey _ _ _ _ _) rfl rfl
                      exact h10
                · refine Within.then ?_ (frame_loadEnd _ _ _) rfl rfl
                  exact h10

theorem frame_keyDerive (a0 : Nat) (a1 : Nat) (a2 : Nat) (s : State) :
    Within [.word 0x30 0xb4, .word 0x30 0x14, .word 0x30 0x28, .word 0x30 0x24, .word 0x30 0x20, .word 0x4c 0x14, .word 0x4c 0x50, .word 0x4c 0x4c, .word 0x4c 0x48, .word 0x4c 0x44, .page 0x80, .word 0x30 0xb8, .page 0x24, .page 0x25, .page 0x26, .page 0x27, .word 0x21 0x50, .word 0x21 0x4c, .page 0x1b, .word 0x20 0xdc, .word 0x20 0xd8, .word 0x20 0xd4, .word 0x20 0xd0, .word 0x19 0xb4, .page 0x10, .page 0x31, .word 0x8 0x5c, .word 0x9 0x5c, .word 0xa 0x5c, .word 0xb 0x5c, .word 0x8 0x4c, .word 0x9 0x4c, .word 0xa 0x4c, .word 0xb 0x4c, .word 0x30 0xa8] [.spi, .notices, .keyOp, .slots, .nodes, .ddr, .ledger, .scheds, .fes, .duty, .frames, .lanes] s (keyDerive a0 a1 a2 s) := by
  unfold Machine.keyDerive
  unfold Machine.commit
  unfold Machine.bar4Command
  refine Within.ite ?_ ?_
  · refine Within.then ?_ (frame_trustDenied _) rfl rfl
    exact Within.refl _ _ _
  · refine Within.ite ?_ ?_
    · refine Within.then ?_ (frame_reject4 _ _ _ _) rfl rfl
      exact Within.refl _ _ _
    · beta_reduce
      refine Within.ite ?_ ?_
      · refine Within.then ?_ (frame_reject4 _ _ _ _) rfl rfl
        exact Within.refl _ _ _
      · refine Within.ite ?_ ?_
        · refine Within.then ?_ (frame_loadEnd _ _ _) rfl rfl
          exact Within.refl _ _ _
        · extract_lets x0 x1 x2 x3 x4 x5 x6 x7 x8 x9 x10
          refine Within.ite ?_ ?_
          · refine Within.then ?_ (frame_loadEnd _ _ _) rfl rfl
            exact Within.refl _ _ _
          · refine Within.ite ?_ ?_
            · refine Within.then ?_ (frame_loadEnd _ _ _) rfl rfl
              exact Within.refl _ _ _
            · unfold Machine.withParent
              extract_lets x11 x12
              refine Within.via x12.2 ?_ (fun h13 => ?_)
              · unfold x12
                refine Within.then ?_ (frame_useSlot _ _ _ _) rfl rfl
                exact Within.refl _ _ _
              · clear_value x12
                split
                · beta_reduce
                  refine Within.ite ?_ ?_
                  · refine Within.then ?_ (frame_loadEnd _ _ _) rfl rfl
                    exact h13
                  · refine Within.ite ?_ ?_
                    · refine Within.then ?_ (frame_loadEnd _ _ _) rfl rfl
                      exact h13
                    · refine Within.then ?_ (frame_placeKey _ _ _ _ _) rfl rfl
                      exact h13
                · refine Within.then ?_ (frame_loadEnd _ _ _) rfl rfl
                  exact h13

theorem frame_keyErase (a0 : Nat) (a1 : Bool) (s : State) :
    Within [.word 0x30 0xb4, .word 0x30 0x14, .word 0x30 0x28, .word 0x30 0x24, .word 0x30 0x20, .word 0x4c 0x14, .word 0x4c 0x50, .word 0x4c 0x4c, .word 0x4c 0x48, .word 0x4c 0x44, .page 0x80, .word 0x30 0xb8, .page 0x24, .page 0x25, .page 0x26, .page 0x27, .word 0x21 0x50, .word 0x21 0x4c, .page 0x1b, .word 0x20 0xdc, .word 0x20 0xd8, .word 0x20 0xd4, .word 0x20 0xd0, .word 0x19 0xb4, .page 0x10, .page 0x31, .word 0x8 0x5c, .word 0x9 0x5c, .word 0xa 0x5c, .word 0xb 0x5c, .word 0x8 0x4c, .word 0x9 0x4c, .word 0xa 0x4c, .word 0xb 0x4c, .word 0x30 0xa8, .word 0x30 0xb0] [.spi, .notices, .keyOp, .nodes, .ddr, .ledger, .scheds, .fes, .duty, .frames, .lanes, .slots, .journal] s (keyErase a0 a1 s) := by
  unfold Machine.keyErase
  unfold Machine.commit
  unfold Machine.bar4Command
  refine Within.ite ?_ ?_
  · refine Within.then ?_ (frame_trustDenied _) rfl rfl
    exact Within.refl _ _ _
  · refine Within.ite ?_ ?_
    · refine Within.then ?_ (frame_reject4 _ _ _ _) rfl rfl
      exact Within.refl _ _ _
    · beta_reduce
      refine Within.ite ?_ ?_
      · refine Within.then ?_ (frame_reject4 _ _ _ _) rfl rfl
        exact Within.refl _ _ _
      · refine Within.ite ?_ ?_
        · refine Within.then ?_ (frame_loadEnd _ _ _) rfl rfl
          exact Within.refl _ _ _
        · extract_lets x0 x1 x2 x3 x4 x5 x6 x7 x8 x9 x10
          refine Within.via x9 ?_ (fun h11 => ?_)
          · unfold x9
            refine Within.set_journal ?_ (by decide)
            exact Within.refl _ _ _
          · clear_value x9
            refine Within.via x10 ?_ (fun h12 => ?_)
            · unfold x10
              refine Within.ite ?_ ?_
              · refine Within.wr ?_ (inScopes_of rfl)
                exact h11
              · exact Within.refl _ _ _
            · clear_value x10
              refine Within.then ?_ (frame_loadEnd _ _ _) rfl rfl
              refine Within.then ?_ (frame_changeSlot _ _ _) rfl rfl
              exact h12

theorem frame_ddrLost (a0 : Nat) (s : State) :
    Within [.word 0x46 0x70, .word 0x46 0x14, .word 0x46 0x54, .word 0x46 0x58, .word 0x46 0x5c] [.draws, .mem] s (ddrLost a0 s) := by
  unfold Machine.ddrLost
  refine Within.then ?_ (frame_ddrUncorrectable _ _ _) rfl rfl
  refine Within.then ?_ (frame_draw _) rfl rfl
  exact Within.refl _ _ _

theorem frame_ddrLostIf (a0 : Bool) (a1 : Nat) (s : State) :
    Within [.word 0x46 0x70, .word 0x46 0x14, .word 0x46 0x54, .word 0x46 0x58, .word 0x46 0x5c] [.draws, .mem] s (ddrLostIf a0 a1 s) := by
  unfold Machine.ddrLostIf
  refine Within.ite ?_ ?_
  · refine Within.then ?_ (frame_ddrLost _ _) rfl rfl
    exact Within.refl _ _ _
  · exact Within.refl _ _ _

theorem frame_keyExport (a0 : Nat) (a1 : Bool) (s : State) :
    Within [.word 0x30 0xb4, .word 0x30 0x14, .word 0x30 0x28, .word 0x30 0x24, .word 0x30 0x20, .word 0x4c 0x14, .word 0x4c 0x50, .word 0x4c 0x4c, .word 0x4c 0x48, .word 0x4c 0x44, .page 0x80, .word 0x30 0xb8, .word 0x46 0x70, .word 0x46 0x14, .word 0x46 0x54, .word 0x46 0x58, .word 0x46 0x5c] [.spi, .notices, .keyOp, .draws, .mem, .ddr] s (keyExport a0 a1 s) := by
  unfold Machine.keyExport
  unfold Machine.commit
  unfold Machine.bar4Command
  refine Within.ite ?_ ?_
  · refine Within.then ?_ (frame_trustDenied _) rfl rfl
    exact Within.refl _ _ _
  · refine Within.ite ?_ ?_
    · refine Within.then ?_ (frame_reject4 _ _ _ _) rfl rfl
      exact Within.refl _ _ _
    · beta_reduce
      refine Within.ite ?_ ?_
      · refine Within.then ?_ (frame_reject4 _ _ _ _) rfl rfl
        exact Within.refl _ _ _
      · refine Within.ite ?_ ?_
        · refine Within.then ?_ (frame_loadEnd _ _ _) rfl rfl
          exact Within.refl _ _ _
        · extract_lets x0
          refine Within.ite ?_ ?_
          · refine Within.then ?_ (frame_loadEnd _ _ _) rfl rfl
            exact Within.refl _ _ _
          · refine Within.ite ?_ ?_
            · refine Within.then ?_ (frame_loadEnd _ _ _) rfl rfl
              refine Within.then ?_ (frame_ddrLostIf _ _ _) rfl rfl
              exact Within.refl _ _ _
            · refine Within.then ?_ (frame_loadEnd _ _ _) rfl rfl
              refine Within.set_ddr ?_ (by decide)
              exact Within.refl _ _ _

theorem frame_keyImport (a0 : Nat) (a1 : Bool) (s : State) :
    Within [.word 0x30 0xb4, .word 0x30 0x14, .word 0x30 0x28, .word 0x30 0x24, .word 0x30 0x20, .word 0x4c 0x14, .word 0x4c 0x50, .word 0x4c 0x4c, .word 0x4c 0x48, .word 0x4c 0x44, .page 0x80, .word 0x30 0xb8, .word 0x46 0x70, .word 0x46 0x14, .word 0x46 0x54, .word 0x46 0x58, .word 0x46 0x5c, .page 0x24, .page 0x25, .page 0x26, .page 0x27, .word 0x21 0x50, .word 0x21 0x4c, .page 0x1b, .word 0x20 0xdc, .word 0x20 0xd8, .word 0x20 0xd4, .word 0x20 0xd0, .word 0x19 0xb4, .page 0x10, .page 0x31, .word 0x8 0x5c, .word 0x9 0x5c, .word 0xa 0x5c, .word 0xb 0x5c, .word 0x8 0x4c, .word 0x9 0x4c, .word 0xa 0x4c, .word 0xb 0x4c, .word 0x30 0xa8] [.spi, .notices, .keyOp, .draws, .mem, .nodes, .ddr, .ledger, .scheds, .fes, .duty, .frames, .lanes, .slots] s (keyImport a0 a1 s) := by
  unfold Machine.keyImport
  unfold Machine.commit
  unfold Machine.bar4Command
  refine Within.ite ?_ ?_
  · refine Within.then ?_ (frame_trustDenied _) rfl rfl
    exact Within.refl _ _ _
  · refine Within.ite ?_ ?_
    · refine Within.then ?_ (frame_reject4 _ _ _ _) rfl rfl
      exact Within.refl _ _ _
    · beta_reduce
      refine Within.ite ?_ ?_
      · refine Within.then ?_ (frame_reject4 _ _ _ _) rfl rfl
        exact Within.refl _ _ _
      · refine Within.ite ?_ ?_
        · refine Within.then ?_ (frame_loadEnd _ _ _) rfl rfl
          exact Within.refl _ _ _
        · refine Within.ite ?_ ?_
          · refine Within.then ?_ (frame_loadEnd _ _ _) rfl rfl
            refine Within.then ?_ (frame_ddrLostIf _ _ _) rfl rfl
            exact Within.refl _ _ _
          · extract_lets x0 x1 x2 x3 x4 x5 x6 x7 x8 x9
            split
            · refine Within.then ?_ (frame_loadEnd _ _ _) rfl rfl
              exact Within.refl _ _ _
            · refine Within.ite ?_ ?_
              · refine Within.then ?_ (frame_loadEnd _ _ _) rfl rfl
                exact Within.refl _ _ _
              · refine Within.then ?_ (frame_placeKey _ _ _ _ _) rfl rfl
                exact Within.refl _ _ _

theorem frame_keyWrapOut (a0 : Nat) (a1 : Bool) (s : State) :
    Within [.word 0x30 0xb4, .word 0x30 0x14, .word 0x30 0x28, .word 0x30 0x24, .word 0x30 0x20, .word 0x4c 0x14, .word 0x4c 0x50, .word 0x4c 0x4c, .word 0x4c 0x48, .word 0x4c 0x44, .page 0x80, .word 0x30 0xb8, .word 0x46 0x70, .word 0x46 0x14, .word 0x46 0x54, .word 0x46 0x58, .word 0x46 0x5c] [.spi, .notices, .keyOp, .slots, .draws, .mem, .ddr] s (keyWrapOut a0 a1 s) := by
  unfold Machine.keyWrapOut
  unfold Machine.commit
  unfold Machine.bar4Command
  refine Within.ite ?_ ?_
  · refine Within.then ?_ (frame_trustDenied _) rfl rfl
    exact Within.refl _ _ _
  · refine Within.ite ?_ ?_
    · refine Within.then ?_ (frame_reject4 _ _ _ _) rfl rfl
      exact Within.refl _ _ _
    · beta_reduce
      refine Within.ite ?_ ?_
      · refine Within.then ?_ (frame_reject4 _ _ _ _) rfl rfl
        exact Within.refl _ _ _
      · refine Within.ite ?_ ?_
        · refine Within.then ?_ (frame_loadEnd _ _ _) rfl rfl
          exact Within.refl _ _ _
        · unfold Machine.withParent
          extract_lets x0 x1
          refine Within.via x1.2 ?_ (fun h2 => ?_)
          · unfold x1
            refine Within.then ?_ (frame_useSlot _ _ _ _) rfl rfl
            exact Within.refl _ _ _
          · clear_value x1
            split
            · beta_reduce
              refine Within.ite ?_ ?_
              · refine Within.then ?_ (frame_loadEnd _ _ _) rfl rfl
                refine Within.then ?_ (frame_ddrLostIf _ _ _) rfl rfl
                exact h2
              · extract_lets x3
                refine Within.then ?_ (frame_loadEnd _ _ _) rfl rfl
                refine Within.set_ddr ?_ (by decide)
                exact h2
            · refine Within.then ?_ (frame_loadEnd _ _ _) rfl rfl
              exact h2

theorem frame_commitGo (a0 : Nat) (s : State) :
    Within [.word 0x30 0xb4, .word 0x30 0x14, .word 0x30 0x28, .word 0x30 0x24, .word 0x30 0x20, .word 0x4c 0x14, .word 0x4c 0x50, .word 0x4c 0x4c, .word 0x4c 0x48, .word 0x4c 0x44, .page 0x80, .word 0x30 0xb8, .page 0x24, .page 0x25, .page 0x26, .page 0x27, .word 0x21 0x50, .word 0x21 0x4c, .page 0x1b, .word 0x20 0xdc, .word 0x20 0xd8, .word 0x20 0xd4, .word 0x20 0xd0, .word 0x19 0xb4, .page 0x10, .page 0x31, .word 0x8 0x5c, .word 0x9 0x5c, .word 0xa 0x5c, .word 0xb 0x5c, .word 0x8 0x4c, .word 0x9 0x4c, .word 0xa 0x4c, .word 0xb 0x4c, .word 0x30 0xa8, .word 0x30 0xb0, .word 0x46 0x70, .word 0x46 0x14, .word 0x46 0x54, .word 0x46 0x58, .word 0x46 0x5c] [.spi, .notices, .keyOp, .nodes, .ddr, .ledger, .scheds, .fes, .duty, .frames, .lanes, .slots, .journal, .draws, .mem] s (commitGo a0 s) := by
  unfold Machine.commitGo
  extract_lets x0 x1 x2 x3 x4 x5 x6 x7
  split
  · refine Within.then ?_ (frame_keyLoad _ _) rfl rfl
    exact Within.refl _ _ _
  · refine Within.then ?_ (frame_keyUnwrapLoad _ _) rfl rfl
    exact Within.refl _ _ _
  · refine Within.then ?_ (frame_keyDerive _ _ _ _) rfl rfl
    exact Within.refl _ _ _
  · refine Within.then ?_ (frame_keyErase _ _ _) rfl rfl
    exact Within.refl _ _ _
  · refine Within.then ?_ (frame_keyExport _ _ _) rfl rfl
    exact Within.refl _ _ _
  · refine Within.then ?_ (frame_keyImport _ _ _) rfl rfl
    exact Within.refl _ _ _
  · refine Within.then ?_ (frame_keyWrapOut _ _ _) rfl rfl
    exact Within.refl _ _ _

theorem frame_lcExit (s : State) :
    Within [.word 0x80 0x2004, .word 0x4e 0x60] [] s (lcExit s) := by
  unfold Machine.lcExit
  refine Within.ite ?_ ?_
  · refine Within.then ?_ (frame_lcResult _ _) rfl rfl
    refine Within.wr ?_ (inScopes_of rfl)
    exact Within.refl _ _ _
  · refine Within.then ?_ (frame_lcResult _ _) rfl rfl
    exact Within.refl _ _ _

theorem frame_resealSectors (a0 : State) (s : State) :
    Within [] [.fw] s (resealSectors a0 s) := by
  unfold Machine.resealSectors
  refine Within.set_fw ?_ (by decide)
  exact Within.refl _ _ _

theorem frame_draw256 (s : State) :
    Within [] [.draws] s ((draw256 s).2) := by
  unfold Machine.draw256
  dsimp only
  refine Within.then ?_ (frame_draw _) rfl rfl
  exact Within.refl _ _ _

theorem frame_makeReady (a0 : Nat) (a1 : Nat) (a2 : Nat) (s : State) :
    Within [.word 0x32 0x40, .word 0x30 0x80, .page 0x4a, .word 0x30 0x90, .word 0x30 0x94] [.root] s (makeReady a0 a1 a2 s) := by
  unfold Machine.makeReady
  extract_lets x0 x1 x2 x3 x4 x5
  refine Within.via x1 ?_ (fun h6 => ?_)
  · unfold x1
    refine Within.set_root ?_ (by decide)
    exact Within.refl _ _ _
  · clear_value x1
    refine Within.via x3 ?_ (fun h7 => ?_)
    · unfold x3
      refine Within.wr ?_ (inScopes_of rfl)
      refine Within.wr ?_ (inScopes_of rfl)
      exact h6
    · clear_value x3
      refine Within.via x5 ?_ (fun h8 => ?_)
      · unfold x5
        refine Within.foldl ?_ (fun _ _ _ h9 => ?_)
        · exact h7
        · refine Within.wr ?_ (inScopes_of rfl)
          exact h9
      · clear_value x5
        refine Within.wr ?_ (inScopes_of rfl)
        refine Within.wr ?_ (inScopes_of rfl)
        exact h8

theorem frame_remask (a0 : Nat) (a1 : Nat) (s : State) :
    Within [.word 0x32 0x40, .word 0x30 0x80, .page 0x4a, .word 0x30 0x90, .word 0x30 0x94] [.draws, .root] s (remask a0 a1 s) := by
  unfold Machine.remask
  generalize e0 : Machine.draw256 _ = p1
  obtain ⟨_, _⟩ := p1
  dsimp only
  refine Within.viaEq ?_ e0 (fun h2 => ?_)
  · refine Within.then ?_ (frame_draw256 _) rfl rfl
    exact Within.refl _ _ _
  · refine Within.then ?_ (frame_makeReady _ _ _ _) rfl rfl
    refine Within.set_root ?_ (by decide)
    exact h2

theorem frame_dropRoot (s : State) :
    Within [.word 0x30 0x90, .word 0x30 0x94, .word 0x32 0x40, .word 0x30 0x80, .page 0x4a] [.root] s (dropRoot s) := by
  unfold Machine.dropRoot
  extract_lets x0 x1 x2
  refine Within.via x1 ?_ (fun h3 => ?_)
  · unfold x1
    refine Within.set_root ?_ (by decide)
    exact Within.refl _ _ _
  · clear_value x1
    refine Within.via x2 ?_ (fun h4 => ?_)
    · unfold x2
      refine Within.foldl ?_ (fun _ _ _ h5 => ?_)
      · exact h3
      · refine Within.wr ?_ (inScopes_of rfl)
        exact h5
    · clear_value x2
      refine Within.wr ?_ (inScopes_of rfl)
      refine Within.wr ?_ (inScopes_of rfl)
      refine Within.wr ?_ (inScopes_of rfl)
      refine Within.wr ?_ (inScopes_of rfl)
      exact h4

theorem frame_zeroizeSlots (s : State) :
    Within [.word 0x30 0x98] [.cache, .slots] s (zeroizeSlots s) := by
  unfold Machine.zeroizeSlots
  refine Within.then ?_ (frame_setCache _ _) rfl rfl
  refine Within.set_slots ?_ (by decide)
  exact Within.refl _ _ _

theorem frame_fuse (a0 : Nat) (s : State) :
    Within [.word 0x80 0x0, .word 0x80 0x2004, .word 0x0 0x58, .word 0x30 0xbc] [.root] s (fuse a0 s) := by
  unfold Machine.fuse
  extract_lets x0 x1 x2
  refine Within.via x1 ?_ (fun h3 => ?_)
  · unfold x1
    refine Within.then ?_ (frame_setLifecycle _ _) rfl rfl
    refine Within.wr ?_ (inScopes_of rfl)
    exact Within.refl _ _ _
  · clear_value x1
    refine Within.via x2 ?_ (fun h4 => ?_)
    · unfold x2
      refine Within.logCairn ?_
      exact h3
    · clear_value x2
      refine Within.then ?_ (frame_closeLock _) rfl rfl
      refine Within.then ?_ (frame_lcResult _ _) rfl rfl
      exact h4

theorem frame_showHelper (s : State) :
    Within [.word 0x30 0x8c, .word 0x30 0x84] [] s (showHelper s) := by
  unfold Machine.showHelper
  extract_lets x0
  refine Within.via x0 ?_ (fun h1 => ?_)
  · unfold x0
    split
    · refine Within.wr ?_ (inScopes_of rfl)
      refine Within.wr ?_ (inScopes_of rfl)
      exact Within.refl _ _ _
    · exact Within.refl _ _ _
  · clear_value x0
    refine Within.then ?_ (frame_showAge _) rfl rfl
    refine Within.wr ?_ (inScopes_of rfl)
    exact h1

theorem frame_pufResult (a0 : Nat) (s : State) :
    Within [.word 0x80 0x3004] [] s (pufResult a0 s) := by
  unfold Machine.pufResult
  refine Within.wr ?_ (inScopes_of rfl)
  exact Within.refl _ _ _

theorem frame_newOffset (s : State) :
    Within [] [.draws, .root] s ((newOffset s).2) := by
  unfold Machine.newOffset
  generalize e0 : Machine.draw _ = p1
  obtain ⟨_, _⟩ := p1
  dsimp only
  refine Within.viaEq ?_ e0 (fun h2 => ?_)
  · refine Within.then ?_ (frame_draw _) rfl rfl
    exact Within.refl _ _ _
  · refine Within.set_root ?_ (by decide)
    exact h2

theorem frame_helperOf (a0 : Nat) (a1 : Nat) (a2 : Nat) (a3 : Nat) (a4 : Nat) (a5 : Nat) (a6 : Nat) (s : State) :
    Within [] [.draws] s ((helperOf a0 a1 a2 a3 a4 a5 a6 s).2) := by
  unfold Machine.helperOf
  generalize e0 : Machine.draw _ = p1
  obtain ⟨_, _⟩ := p1
  dsimp only
  refine Within.viaEq ?_ e0 (fun h2 => ?_)
  · refine Within.then ?_ (frame_draw _) rfl rfl
    exact Within.refl _ _ _
  · refine Within.then ?_ (frame_draw _) rfl rfl
    refine Within.then ?_ (frame_draw _) rfl rfl
    exact h2

theorem frame_enrol (a0 : Bool) (a1 : Nat) (a2 : PufRead) (a3 : Bool) (s : State) :
    Within [.word 0x5 0x14, .word 0x32 0x40, .word 0x30 0x80, .page 0x4a, .word 0x30 0x90, .word 0x30 0x94, .word 0x30 0x8c, .word 0x30 0x84] [.draws, .root] s ((enrol a0 a1 a2 a3 s).2) := by
  unfold Machine.enrol
  split
  · dsimp only
    exact Within.refl _ _ _
  · split
    · dsimp only
      refine Within.then ?_ (frame_reserveLow _ _) rfl rfl
      exact Within.refl _ _ _
    · split
      · dsimp only
        exact Within.refl _ _ _
      · generalize e0 : Machine.draw256 _ = p1
        obtain ⟨_, _⟩ := p1
        dsimp only
        refine Within.viaEq ?_ e0 (fun h2 => ?_)
        · refine Within.then ?_ (frame_draw256 _) rfl rfl
          exact Within.refl _ _ _
        · split
          · dsimp only
            refine Within.then ?_ (frame_helperOf _ _ _ _ _ _ _ _) rfl rfl
            refine Within.then ?_ (frame_newOffset _) rfl rfl
            refine Within.then ?_ (frame_draw256 _) rfl rfl
            exact h2
          · dsimp only
            refine Within.then ?_ (frame_makeReady _ _ _ _) rfl rfl
            refine Within.wr ?_ (inScopes_of rfl)
            refine Within.then ?_ (frame_showHelper _) rfl rfl
            refine Within.set_root ?_ (by decide)
            refine Within.then ?_ (frame_helperOf _ _ _ _ _ _ _ _) rfl rfl
            refine Within.then ?_ (frame_newOffset _) rfl rfl
            refine Within.then ?_ (frame_draw256 _) rfl rfl
            exact h2

theorem frame_pufEnrol (a0 : Bool) (a1 : Nat) (a2 : PufRead) (a3 : Bool) (s : State) :
    Within [.word 0x80 0x3004, .word 0x5 0x14, .word 0x32 0x40, .word 0x30 0x80, .page 0x4a, .word 0x30 0x90, .word 0x30 0x94, .word 0x30 0x8c, .word 0x30 0x84] [.draws, .root] s (pufEnrol a0 a1 a2 a3 s) := by
  unfold Machine.pufEnrol
  refine Within.ite ?_ ?_
  · refine Within.then ?_ (frame_pufResult _ _) rfl rfl
    exact Within.refl _ _ _
  · extract_lets x0
    refine Within.via x0.2 ?_ (fun h1 => ?_)
    · unfold x0
      refine Within.then ?_ (frame_enrol _ _ _ _ _) rfl rfl
      exact Within.refl _ _ _
    · clear_value x0
      refine Within.then ?_ (frame_pufResult _ _) rfl rfl
      exact h1

theorem frame_strikePairs (a0 : Nat) (s : State) :
    Within [.word 0x30 0x88] [.root] s (strikePairs a0 s) := by
  unfold Machine.strikePairs
  extract_lets x0 x1 x2 x3 x4
  refine Within.via x4 ?_ (fun h5 => ?_)
  · unfold x4
    refine Within.set_root ?_ (by decide)
    exact Within.refl _ _ _
  · clear_value x4
    refine Within.wr ?_ (inScopes_of rfl)
    exact h5

theorem frame_pufAlarm (s : State) :
    Within [.word 0x30 0x14, .word 0x30 0x80] [.root] s (pufAlarm s) := by
  unfold Machine.pufAlarm
  refine Within.latch ?_ (inScopes_of rfl)
  refine Within.wr ?_ (inScopes_of rfl)
  refine Within.set_root ?_ (by decide)
  exact Within.refl _ _ _

theorem frame_noteRead (a0 : Helper) (a1 : PufRead) (s : State) :
    Within [.word 0x30 0x14, .word 0x30 0x80, .word 0x30 0x84, .word 0x30 0x88] [.root] s (noteRead a0 a1 s) := by
  unfold Machine.noteRead
  extract_lets x0 x1 x2 x3
  refine Within.via x1 ?_ (fun h4 => ?_)
  · unfold x1
    refine Within.wr ?_ (inScopes_of rfl)
    refine Within.wr ?_ (inScopes_of rfl)
    exact Within.refl _ _ _
  · clear_value x1
    refine Within.via x3 ?_ (fun h5 => ?_)
    · unfold x3
      refine Within.ite ?_ ?_
      · refine Within.orBits ?_ (inScopes_of rfl)
        exact h4
      · exact h4
    · clear_value x3
      refine Within.ite ?_ ?_
      · refine Within.then ?_ (frame_pufAlarm _) rfl rfl
        exact h5
      · exact h5

theorem frame_writeOther (a0 : Option Helper) (s : State) :
    Within [] [.root] s (writeOther a0 s) := by
  unfold Machine.writeOther
  split
  · refine Within.ite ?_ ?_
    · refine Within.set_root ?_ (by decide)
      exact Within.refl _ _ _
    · refine Within.set_root ?_ (by decide)
      exact Within.refl _ _ _
  · refine Within.set_root ?_ (by decide)
    exact Within.refl _ _ _
  · refine Within.set_root ?_ (by decide)
    exact Within.refl _ _ _

theorem frame_refresh (a0 : Nat) (a1 : Nat) (a2 : PufRead) (a3 : Bool) (s : State) :
    Within [.word 0x30 0x88, .word 0x5 0x14, .word 0x30 0x14, .word 0x30 0x80, .word 0x30 0x84, .word 0x30 0x8c] [.root, .draws] s ((refresh a0 a1 a2 a3 s).2) := by
  unfold Machine.refresh
  split
  · dsimp only
    exact Within.refl _ _ _
  · extract_lets x0
    refine Within.via x0 ?_ (fun h1 => ?_)
    · unfold x0
      refine Within.then ?_ (frame_strikePairs _ _) rfl rfl
      exact Within.refl _ _ _
    · clear_value x0
      split
      · dsimp only
        refine Within.then ?_ (frame_reserveLow _ _) rfl rfl
        exact h1
      · split
        · dsimp only
          exact h1
        · generalize e2 : Machine.newOffset _ = p3
          obtain ⟨_, _⟩ := p3
          dsimp only
          refine Within.viaEq ?_ e2 (fun h4 => ?_)
          · refine Within.then ?_ (frame_newOffset _) rfl rfl
            exact h1
          · split
            · dsimp only
              refine Within.then ?_ (frame_writeOther _ _) rfl rfl
              refine Within.set_root ?_ (by decide)
              refine Within.then ?_ (frame_noteRead _ _ _) rfl rfl
              refine Within.set_root ?_ (by decide)
              refine Within.then ?_ (frame_helperOf _ _ _ _ _ _ _ _) rfl rfl
              exact h4
            · dsimp only
              refine Within.then ?_ (frame_showHelper _) rfl rfl
              refine Within.then ?_ (frame_writeOther _ _) rfl rfl
              refine Within.then ?_ (frame_noteRead _ _ _) rfl rfl
              refine Within.set_root ?_ (by decide)
              refine Within.then ?_ (frame_helperOf _ _ _ _ _ _ _ _) rfl rfl
              exact h4

theorem frame_pufRefresh (a0 : Nat) (a1 : Nat) (a2 : PufRead) (a3 : Bool) (s : State) :
    Within [.word 0x80 0x3004, .word 0x30 0x88, .word 0x5 0x14, .word 0x30 0x14, .word 0x30 0x80, .word 0x30 0x84, .word 0x30 0x8c] [.root, .draws] s (pufRefresh a0 a1 a2 a3 s) := by
  unfold Machine.pufRefresh
  refine Within.ite ?_ ?_
  · refine Within.then ?_ (frame_pufResult _ _) rfl rfl
    exact Within.refl _ _ _
  · extract_lets x0
    refine Within.via x0.2 ?_ (fun h1 => ?_)
    · unfold x0
      refine Within.then ?_ (frame_refresh _ _ _ _ _) rfl rfl
      exact Within.refl _ _ _
    · clear_value x0
      refine Within.then ?_ (frame_pufResult _ _) rfl rfl
      exact h1

theorem frame_pufSwap (a0 : Nat) (a1 : Nat) (a2 : PufRead) (a3 : Bool) (s : State) :
    Within [.word 0x80 0x3004, .word 0x30 0x14, .word 0x30 0x80, .word 0x30 0x84, .word 0x30 0x88, .word 0x30 0x8c, .word 0x5 0x14] [.draws, .root] s (pufSwap a0 a1 a2 a3 s) := by
  unfold Machine.pufSwap
  refine Within.ite ?_ ?_
  · refine Within.then ?_ (frame_pufResult _ _) rfl rfl
    exact Within.refl _ _ _
  · split
    · refine Within.then ?_ (frame_pufResult _ _) rfl rfl
      exact Within.refl _ _ _
    · extract_lets x0 x1 x2 x3
      refine Within.ite ?_ ?_
      · refine Within.then ?_ (frame_pufResult _ _) rfl rfl
        exact Within.refl _ _ _
      · refine Within.ite ?_ ?_
        · refine Within.then ?_ (frame_pufResult _ _) rfl rfl
          exact Within.refl _ _ _
        · generalize e4 : Machine.helperOf _ _ _ _ _ _ _ _ = p5
          obtain ⟨_, _⟩ := p5
          dsimp only
          refine Within.viaEq ?_ e4 (fun h6 => ?_)
          · refine Within.then ?_ (frame_helperOf _ _ _ _ _ _ _ _) rfl rfl
            exact Within.refl _ _ _
          · split
            · refine Within.then ?_ (frame_pufResult _ _) rfl rfl
              refine Within.then ?_ (frame_writeOther _ _) rfl rfl
              refine Within.then ?_ (frame_noteRead _ _ _) rfl rfl
              exact h6
            · refine Within.then ?_ (frame_pufResult _ _) rfl rfl
              refine Within.then ?_ (frame_showHelper _) rfl rfl
              refine Within.then ?_ (frame_engaged _ _ _ _) rfl rfl
              refine Within.set_root ?_ (by decide)
              refine Within.then ?_ (frame_writeOther _ _) rfl rfl
              refine Within.then ?_ (frame_noteRead _ _ _) rfl rfl
              exact h6

theorem frame_pufReseal (a0 : Bool) (a1 : PufRead) (a2 : Bool) (s : State) :
    Within [.word 0x80 0x3004, .word 0x30 0x14, .word 0x30 0x80, .word 0x30 0x84, .word 0x30 0x88, .word 0x32 0x40, .page 0x4a, .word 0x30 0x90, .word 0x30 0x94] [.root, .draws] s (pufReseal a0 a1 a2 s) := by
  unfold Machine.pufReseal
  refine Within.ite ?_ ?_
  · refine Within.then ?_ (frame_pufResult _ _) rfl rfl
    exact Within.refl _ _ _
  · refine Within.ite ?_ ?_
    · refine Within.then ?_ (frame_pufResult _ _) rfl rfl
      exact Within.refl _ _ _
    · refine Within.ite ?_ ?_
      · refine Within.then ?_ (frame_pufResult _ _) rfl rfl
        exact Within.refl _ _ _
      · split
        · refine Within.then ?_ (frame_pufResult _ _) rfl rfl
          exact Within.refl _ _ _
        · extract_lets x0
          refine Within.via x0 ?_ (fun h1 => ?_)
          · unfold x0
            refine Within.then ?_ (frame_noteRead _ _ _) rfl rfl
            exact Within.refl _ _ _
          · clear_value x0
            refine Within.ite ?_ ?_
            · refine Within.then ?_ (frame_pufResult _ _) rfl rfl
              exact h1
            · refine Within.ite ?_ ?_
              · refine Within.then ?_ (frame_pufResult _ _) rfl rfl
                exact h1
              · refine Within.then ?_ (frame_pufResult _ _) rfl rfl
                refine Within.wr ?_ (inScopes_of rfl)
                refine Within.then ?_ (frame_remask _ _ _) rfl rfl
                exact h1

theorem frame_pufGo (a0 : Nat) (s : State) :
    Within [.word 0x80 0x3004, .word 0x5 0x14, .word 0x32 0x40, .word 0x30 0x80, .page 0x4a, .word 0x30 0x90, .word 0x30 0x94, .word 0x30 0x8c, .word 0x30 0x84, .word 0x30 0x88, .word 0x30 0x14] [.draws, .root] s (pufGo a0 s) := by
  unfold Machine.pufGo
  split
  · refine Within.then ?_ (frame_pufEnrol _ _ _ _ _) rfl rfl
    exact Within.refl _ _ _
  · refine Within.then ?_ (frame_pufRefresh _ _ _ _ _) rfl rfl
    exact Within.refl _ _ _
  · refine Within.then ?_ (frame_pufSwap _ _ _ _ _) rfl rfl
    exact Within.refl _ _ _
  · refine Within.then ?_ (frame_pufReseal _ _ _ _) rfl rfl
    exact Within.refl _ _ _

theorem frame_bar4Read (a0 : Nat) (s : State) :
    Within [] [.readData] s (bar4Read a0 s) := by
  unfold Machine.bar4Read
  extract_lets x0 x1
  refine Within.set_readData ?_ (by decide)
  exact Within.refl _ _ _

theorem frame_noticePop (s : State) :
    Within [.word 0x4c 0x44, .word 0x4c 0x84] [.readData, .notices] s (noticePop s) := by
  unfold Machine.noticePop
  extract_lets x0 x1 x2
  refine Within.via x2 ?_ (fun h3 => ?_)
  · unfold x2
    refine Within.wr ?_ (inScopes_of rfl)
    refine Within.upd (by (try dsimp only) <;> exact rfl) (fun p hp => by cases p <;> first | rfl | exact ⟨rfl, rfl⟩ | exact ⟨rfl, rfl, rfl⟩ | exact absurd (by decide) hp) ?_
    exact Within.refl _ _ _
  · clear_value x2
    refine Within.wr ?_ (inScopes_of rfl)
    exact h3

theorem frame_cairnRead (s : State) :
    Within [.page 0x6] [.readData] s (cairnRead s) := by
  unfold Machine.cairnRead
  extract_lets x0 x1
  refine Within.via x1 ?_ (fun h2 => ?_)
  · unfold x1
    refine Within.foldl ?_ (fun _ _ _ h3 => ?_)
    · exact Within.refl _ _ _
    · refine Within.wr ?_ (inScopes_of rfl)
      exact h3
  · clear_value x1
    refine Within.set_readData ?_ (by decide)
    exact h2

theorem frame_timeNowRead (s : State) :
    Within [.word 0x3c 0x48, .word 0x3c 0x4c, .word 0x3c 0x50, .word 0x3c 0x54] [.readData] s (timeNowRead s) := by
  unfold Machine.timeNowRead
  extract_lets x0 x1
  refine Within.via x1 ?_ (fun h2 => ?_)
  · unfold x1
    refine Within.wr ?_ (inScopes_of rfl)
    refine Within.wr ?_ (inScopes_of rfl)
    refine Within.wr ?_ (inScopes_of rfl)
    refine Within.wr ?_ (inScopes_of rfl)
    exact Within.refl _ _ _
  · clear_value x1
    refine Within.set_readData ?_ (by decide)
    exact h2

theorem frame_ppsTsRead (s : State) :
    Within [.word 0x3c 0x84, .word 0x3c 0x88, .word 0x3c 0x8c, .word 0x3c 0x90] [.readData] s (ppsTsRead s) := by
  unfold Machine.ppsTsRead
  extract_lets x0 x1
  refine Within.via x1 ?_ (fun h2 => ?_)
  · unfold x1
    refine Within.wr ?_ (inScopes_of rfl)
    refine Within.wr ?_ (inScopes_of rfl)
    refine Within.wr ?_ (inScopes_of rfl)
    refine Within.wr ?_ (inScopes_of rfl)
    exact Within.refl _ _ _
  · clear_value x1
    refine Within.set_readData ?_ (by decide)
    exact h2

theorem frame_meshNowRead (s : State) :
    Within [.word 0x3c 0xcc, .word 0x3c 0xd0, .word 0x3c 0xd4] [.readData] s (meshNowRead s) := by
  unfold Machine.meshNowRead
  extract_lets x0 x1
  refine Within.via x1 ?_ (fun h2 => ?_)
  · unfold x1
    refine Within.wr ?_ (inScopes_of rfl)
    refine Within.wr ?_ (inScopes_of rfl)
    refine Within.wr ?_ (inScopes_of rfl)
    exact Within.refl _ _ _
  · clear_value x1
    refine Within.set_readData ?_ (by decide)
    exact h2

theorem frame_tsqPop (a0 : Nat) (s : State) :
    Within [.page 0x3d] [.ports, .readData] s (tsqPop a0 s) := by
  unfold Machine.tsqPop
  extract_lets x0
  refine Within.via x0 ?_ (fun h1 => ?_)
  · unfold x0
    refine Within.set_readData ?_ (by decide)
    exact Within.refl _ _ _
  · clear_value x0
    refine Within.then ?_ (frame_showTsq _ _) rfl rfl
    refine Within.then ?_ (frame_modPort _ _ _) rfl rfl
    exact h1

theorem frame_latchWord (a0 : Route) (a1 : Nat) (a2 : Nat) (a3 : Nat) (s : State) :
    Within [] [.latched] s (latchWord a0 a1 a2 a3 s) := by
  unfold Machine.latchWord
  refine Within.set_latched ?_ (by decide)
  exact Within.refl _ _ _

theorem frame_showOctets (a0 : Nat) (s : State) :
    Within [.word (0x38 + a0 % 2) 0xb4, .word (0x38 + a0 % 2) 0xbc] [] s (showOctets a0 s) := by
  unfold Machine.showOctets
  refine Within.wr ?_ (inScopes_of (by simp [Scope.among, fePage, schedPage, ethPage, ethStatPage, F.ETH.RX_OCTETS_LO]))
  refine Within.wr ?_ (inScopes_of (by simp [Scope.among, fePage, schedPage, ethPage, ethStatPage, F.ETH.TX_OCTETS_LO]))
  exact Within.refl _ _ _

theorem frame_ethOctetLoRead (a0 : Route) (a1 : Nat) (a2 : Bool) (s : State) :
    Within [.word (0x38 + a1 % 2) 0xb4, .word (0x38 + a1 % 2) 0xbc, .word (0x38 + a1 % 2) 0xc0, .word (0x38 + a1 % 2) 0xb8] [.ports, .latched, .readData] s (ethOctetLoRead a0 a1 a2 s) := by
  unfold Machine.ethOctetLoRead
  extract_lets x0 x1 x2 x3
  refine Within.via x1 ?_ (fun h4 => ?_)
  · unfold x1
    refine Within.then ?_ (frame_latchWord _ _ _ _ _) rfl rfl
    exact Within.refl _ _ _
  · clear_value x1
    refine Within.via x2 ?_ (fun h5 => ?_)
    · unfold x2
      refine Within.ite ?_ ?_
      · refine Within.wr ?_ (inScopes_of (by simp [Scope.among, fePage, schedPage, ethPage, ethStatPage, F.ETH.TX_OCTETS_HI]))
        exact h4
      · refine Within.wr ?_ (inScopes_of (by simp [Scope.among, fePage, schedPage, ethPage, ethStatPage, F.ETH.RX_OCTETS_HI]))
        exact h4
    · clear_value x2
      refine Within.via x3 ?_ (fun h6 => ?_)
      · unfold x3
        refine Within.then ?_ (frame_modPort _ _ _) rfl rfl
        exact h5
      · clear_value x3
        refine Within.after ?_ (frame_showOctets _ _) (amongCons (by simp [Scope.among, fePage, schedPage, ethPage, ethStatPage]) (amongCons (by simp [Scope.among, fePage, schedPage, ethPage, ethStatPage]) amongNil)) rfl
        refine Within.set_readData ?_ (by decide)
        exact h6

theorem frame_rmonLoRead (a0 : Route) (a1 : Nat) (a2 : Nat) (s : State) :
    Within [.page (0x3a + a1 % 2)] [.latched, .readData] s (rmonLoRead a0 a1 a2 s) := by
  unfold Machine.rmonLoRead
  extract_lets x0 x1 x2
  refine Within.via x1 ?_ (fun h3 => ?_)
  · unfold x1
    refine Within.then ?_ (frame_latchWord _ _ _ _ _) rfl rfl
    exact Within.refl _ _ _
  · clear_value x1
    refine Within.via x2 ?_ (fun h4 => ?_)
    · unfold x2
      refine Within.wr ?_ (inScopes_of (by simp [Scope.among, fePage, schedPage, ethPage, ethStatPage, F.ETHSTAT.COUNTER_HI]))
      exact h3
    · clear_value x2
      refine Within.set_readData ?_ (by decide)
      exact h4

theorem frame_nodeScanAdvance (s : State) :
    Within [.page 0x20] [] s (nodeScanAdvance s) := by
  unfold Machine.nodeScanAdvance
  split
  · refine Within.then ?_ (frame_scanTo _ _) rfl rfl
    exact Within.refl _ _ _
  · refine Within.then ?_ (frame_clearScan _) rfl rfl
    exact Within.refl _ _ _

theorem frame_keysScanAdvance (s : State) :
    Within [] [.readData] s (keysScanAdvance s) := by
  unfold Machine.keysScanAdvance
  extract_lets x0 x1 x2
  refine Within.via x0 ?_ (fun h3 => ?_)
  · unfold x0
    refine Within.set_readData ?_ (by decide)
    exact Within.refl _ _ _
  · clear_value x0
    refine Within.then ?_ (frame_showSlotScan _ _) rfl rfl
    exact h3

theorem frame_windowRead (a0 : Nat) (a1 : Nat) (a2 : Parity) (s : State) :
    Within [.word 0x46 0x14, .word 0x46 0x60, .word 0x46 0x68, .word 0x46 0x64, .word 0x20 0xc8, .word 0x20 0xcc, .page 0x24, .page 0x25, .page 0x26, .page 0x27, .word 0x21 0x50, .word 0x21 0x4c, .page 0x1b, .word 0x20 0xdc, .word 0x20 0xd8, .word 0x20 0xd4, .word 0x20 0xd0, .word 0x19 0xb4] [.nodes, .ddr, .ledger, .scheds, .fes, .duty, .frames, .readData, .hostData] s (windowRead a0 a1 a2 s) := by
  unfold Machine.windowRead
  extract_lets x0 x1 x2
  refine Within.via x0 ?_ (fun h3 => ?_)
  · unfold x0
    split
    · exact Within.refl _ _ _
    · refine Within.then ?_ (frame_coreMended _ _) rfl rfl
      exact Within.refl _ _ _
    · refine Within.then ?_ (frame_coreLost _ _) rfl rfl
      exact Within.refl _ _ _
  · clear_value x0
    refine Within.upd (by (try dsimp only) <;> exact rfl) (fun p hp => by cases p <;> first | rfl | exact ⟨rfl, rfl⟩ | exact ⟨rfl, rfl, rfl⟩ | exact absurd (by decide) hp) ?_
    exact h3

theorem frame_reliefFaulted (a0 : Nat) (s : State) :
    Within [.word 0x8 0x14, .word 0x9 0x14, .word 0xa 0x14, .word 0xb 0x14, .word 0x8 0x30, .word 0x9 0x30, .word 0xa 0x30, .word 0xb 0x30, .page 0x10, .word 0x8 0x5c, .word 0x9 0x5c, .word 0xa 0x5c, .word 0xb 0x5c, .word 0x8 0x4c, .word 0x9 0x4c, .word 0xa 0x4c, .word 0xb 0x4c, .word 0x8 0x78, .word 0x9 0x78, .word 0xa 0x78, .word 0xb 0x78, .word 0xb 0x50] [.lanes, .fes, .relief] s (reliefFaulted a0 s) := by
  unfold Machine.reliefFaulted
  split
  · exact Within.refl _ _ _
  · refine Within.ite ?_ ?_
    · refine Within.then ?_ (frame_reliefBroken _ _) rfl rfl
      refine Within.then ?_ (frame_dropRelief _) rfl rfl
      exact Within.refl _ _ _
    · refine Within.ite ?_ ?_
      · exact Within.refl _ _ _
      · refine Within.ite ?_ ?_
        · refine Within.then ?_ (frame_rest3 _) rfl rfl
          refine Within.then ?_ (frame_dropRelief _) rfl rfl
          refine Within.then ?_ (frame_modFe _ _ _) rfl rfl
          exact Within.refl _ _ _
        · refine Within.ite ?_ ?_
          · exact Within.refl _ _ _
          · refine Within.set_relief ?_ (by decide)
            exact Within.refl _ _ _

theorem frame_feFault (a0 : Nat) (a1 : Nat) (s : State) :
    Within [.page 0x10, .page 0x24, .page 0x25, .page 0x26, .page 0x27, .word 0x8 0x14, .word 0x9 0x14, .word 0xa 0x14, .word 0xb 0x14, .word 0x8 0x30, .word 0x9 0x30, .word 0xa 0x30, .word 0xb 0x30, .word 0x8 0x5c, .word 0x9 0x5c, .word 0xa 0x5c, .word 0xb 0x5c, .word 0x8 0x4c, .word 0x9 0x4c, .word 0xa 0x4c, .word 0xb 0x4c, .word 0x8 0x78, .word 0x9 0x78, .word 0xa 0x78, .word 0xb 0x78, .word 0xb 0x50, .word (0x8 + a0 % 4) 0x5c, .word (0x8 + a0 % 4) 0x4c, .word (0x8 + a0 % 4) 0x14, .word (0x8 + a0 % 4) 0xc, .word (0x8 + a0 % 4) 0x78, .word (0x8 + a0 % 4) 0x30] [.lanes, .fes, .frames, .scheds, .duty, .relief] s (feFault a0 a1 s) := by
  unfold Machine.feFault
  extract_lets x0 x1 x2
  refine Within.via x0 ?_ (fun h3 => ?_)
  · unfold x0
    refine Within.wr ?_ (inScopes_of (amongW4 rfl))
    exact Within.refl _ _ _
  · clear_value x0
    refine Within.via x1 ?_ (fun h4 => ?_)
    · unfold x1
      refine Within.then ?_ (frame_reliefFaulted _ _) rfl rfl
      refine Within.after ?_ (frame_dropNeeds _ _ _) (amongCons (amongW4 rfl) (amongCons (amongW4 rfl) (amongCons (amongW4 rfl) (amongCons (amongW4 rfl) amongNil)))) rfl
      exact h3
    · clear_value x1
      refine Within.via x2 ?_ (fun h5 => ?_)
      · unfold x2
        refine Within.then ?_ (frame_holdCommitted _ _) rfl rfl
        exact h4
      · clear_value x2
        refine Within.then ?_ (frame_refreshListen _) rfl rfl
        refine Within.after ?_ (frame_setRf _ _ _) (amongCons rfl (amongCons (amongW4 rfl) (amongCons (amongW4 rfl) amongNil))) rfl
        refine Within.latch ?_ (inScopes_of (amongW4 rfl))
        refine Within.after ?_ (frame_setPageState _ _ _) (amongCons (amongW4 rfl) (amongCons (amongAt 29 rfl) amongNil)) rfl
        exact h5

theorem frame_pageFault (a0 : Nat) (a1 : Nat) (s : State) :
    Within [.page 0x10, .page 0x24, .page 0x25, .page 0x26, .page 0x27, .word 0x8 0x14, .word 0x9 0x14, .word 0xa 0x14, .word 0xb 0x14, .word 0x8 0x30, .word 0x9 0x30, .word 0xa 0x30, .word 0xb 0x30, .word 0x8 0x5c, .word 0x9 0x5c, .word 0xa 0x5c, .word 0xb 0x5c, .word 0x8 0x4c, .word 0x9 0x4c, .word 0xa 0x4c, .word 0xb 0x4c, .word 0x8 0x78, .word 0x9 0x78, .word 0xa 0x78, .word 0xb 0x78, .word 0xb 0x50, .word 0x8 0xc, .word 0x9 0xc, .word 0xa 0xc, .word 0xb 0xc, .page 0x11, .page 0x31, .page 0x1b, .word 0x20 0xdc, .word 0x20 0xd8, .word 0x20 0xd4, .word 0x20 0xd0, .word 0x19 0xa4, .word 0x19 0xa8, .word 0x19 0xac, .word 0x19 0xb0, .word 0x19 0xb4, .word 0x19 0xb8, .word 0x21 0x50, .word 0x21 0x4c, .word 0x20 0x58, .word 0x4c 0x14, .word 0x4c 0x50, .word 0x4c 0x4c, .word 0x4c 0x48, .word 0x4c 0x44, .page 0x41, .word 0x22 0x58, .word 0x22 0x54, .word 0x22 0x50, .word 0xc 0x14, .word 0xc 0x4c, .page 0x29, .word 0x30 0x14, .page 0x80, .word 0x30 0xb8, .word 0x32 0x14, .word 0x32 0xa8, .page 0x33, .page 0x3a, .page 0x3b, .word 0x38 0xac, .word 0x39 0xac, .word 0x40 0x74, .word 0x40 0x78, .word 0x48 0x4c, .word 0x45 0x14, .word 0x45 0x48, .word 0x45 0x4c, .word 0x4a 0x58, .word 0x4a 0x14, .word 0x4a 0x50, .word a0 0x14, .word a0 0xc, .word a0 0x30] [.lanes, .fes, .frames, .scheds, .duty, .relief, .nodes, .ddr, .ledger, .notices, .rings, .reasm, .frameNumbers, .campaigns, .keyOp, .jobs, .ports, .clock, .copy, .fw, .rope, .poolTest, .engines] s (pageFault a0 a1 s) := by
  unfold Machine.pageFault
  extract_lets x0 x1 x2 x3 x4 x5 x6 x7 x8 x9 x10 x11 x12 x13 x14 x15 x16 x17
  refine Within.via x16 ?_ (fun h18 => ?_)
  · unfold x16
    refine Within.after ?_ (frame_setPageState _ _ _) (amongCons (amongAt 77 rfl) (amongCons (amongAt 78 rfl) amongNil)) rfl
    refine Within.wr ?_ (inScopes_at 79 rfl)
    exact Within.refl _ _ _
  · clear_value x16
    refine Within.via x17 ?_ (fun h19 => ?_)
    · unfold x17
      refine Within.after ?_ (frame_abortTest _ _) (amongCons rfl (amongCons rfl (amongCons rfl (amongCons (amongAt 77 rfl) (amongCons (amongAt 79 rfl) amongNil))))) rfl
      refine Within.after ?_ (frame_cancelWaiting _ _) (amongCons rfl (amongCons rfl (amongCons rfl (amongCons rfl (amongCons (amongAt 77 rfl) (amongCons (amongAt 79 rfl) amongNil)))))) rfl
      exact Within.refl _ _ _
    · clear_value x17
      refine Within.ite ?_ ?_
      · exact Within.refl _ _ _
      · refine Within.ite ?_ ?_
        · refine Within.ite ?_ ?_
          · refine Within.latch ?_ (inScopes_at 77 rfl)
            exact h18
          · exact h18
        · split
          · refine Within.after ?_ (frame_feFault _ _ _) (amongCons rfl (amongCons rfl (amongCons rfl (amongCons rfl (amongCons rfl (amongCons rfl (amongCons rfl (amongCons rfl (amongCons rfl (amongCons rfl (amongCons rfl (amongCons rfl (amongCons rfl (amongCons rfl (amongCons rfl (amongCons rfl (amongCons rfl (amongCons rfl (amongCons rfl (amongCons rfl (amongCons rfl (amongCons rfl (amongCons rfl (amongCons rfl (amongCons rfl (amongCons rfl (amongCons (amongW4 rfl) (amongCons (amongW4 rfl) (amongCons (amongW4 rfl) (amongCons (amongW4 rfl) (amongCons (amongW4 rfl) (amongCons (amongW4 rfl) amongNil)))))))))))))))))))))))))))))))) rfl
            refine Within.then ?_ (frame_abortWork _ _) rfl rfl
            exact h19
          · refine Within.after ?_ (frame_setPageState _ _ _) (amongCons (amongAt 77 rfl) (amongCons (amongAt 78 rfl) amongNil)) rfl
            refine Within.wr ?_ (inScopes_at 79 rfl)
            refine Within.then ?_ (frame_withdrawFor _ _) rfl rfl
            refine Within.then ?_ (frame_abortWork _ _) rfl rfl
            exact h19

theorem frame_startDone (a0 : Nat) (a1 : Option Byte) (s : State) :
    Within [.page 0x10, .page 0x24, .page 0x25, .page 0x26, .page 0x27, .word 0x8 0x14, .word 0x9 0x14, .word 0xa 0x14, .word 0xb 0x14, .word 0x8 0x30, .word 0x9 0x30, .word 0xa 0x30, .word 0xb 0x30, .word 0x8 0x5c, .word 0x9 0x5c, .word 0xa 0x5c, .word 0xb 0x5c, .word 0x8 0x4c, .word 0x9 0x4c, .word 0xa 0x4c, .word 0xb 0x4c, .word 0x8 0x78, .word 0x9 0x78, .word 0xa 0x78, .word 0xb 0x78, .word 0xb 0x50, .word 0x8 0xc, .word 0x9 0xc, .word 0xa 0xc, .word 0xb 0xc, .page 0x11, .page 0x31, .page 0x1b, .word 0x20 0xdc, .word 0x20 0xd8, .word 0x20 0xd4, .word 0x20 0xd0, .word 0x19 0xa4, .word 0x19 0xa8, .word 0x19 0xac, .word 0x19 0xb0, .word 0x19 0xb4, .word 0x19 0xb8, .word 0x21 0x50, .word 0x21 0x4c, .word 0x20 0x58, .word 0x4c 0x14, .word 0x4c 0x50, .word 0x4c 0x4c, .word 0x4c 0x48, .word 0x4c 0x44, .page 0x41, .word 0x22 0x58, .word 0x22 0x54, .word 0x22 0x50, .word 0xc 0x14, .word 0xc 0x4c, .page 0x29, .word 0x30 0x14, .page 0x80, .word 0x30 0xb8, .word 0x32 0x14, .word 0x32 0xa8, .page 0x33, .page 0x3a, .page 0x3b, .word 0x38 0xac, .word 0x39 0xac, .word 0x40 0x74, .word 0x40 0x78, .word 0x48 0x4c, .word 0x45 0x14, .word 0x45 0x48, .word 0x45 0x4c, .word 0x4a 0x58, .word 0x4a 0x14, .word 0x4a 0x50, .word 0x38 0x74, .word 0x39 0x74, .word 0x38 0x70, .word 0x39 0x70, .word 0x38 0x14, .word 0x39 0x14, .word 0x38 0x78, .word 0x39 0x78, .word a0 0x14, .word a0 0xc, .word a0 0x30] [.lanes, .fes, .frames, .scheds, .duty, .relief, .nodes, .ddr, .ledger, .notices, .rings, .reasm, .frameNumbers, .campaigns, .keyOp, .jobs, .ports, .clock, .copy, .fw, .rope, .poolTest, .engines] s (startDone a0 a1 s) := by
  unfold Machine.startDone
  refine Within.ite ?_ ?_
  · exact Within.refl _ _ _
  · split
    · refine Within.after ?_ (frame_pageFault _ _ _) (amongCons rfl (amongCons rfl (amongCons rfl (amongCons rfl (amongCons rfl (amongCons rfl (amongCons rfl (amongCons rfl (amongCons rfl (amongCons rfl (amongCons rfl (amongCons rfl (amongCons rfl (amongCons rfl (amongCons rfl (amongCons rfl (amongCons rfl (amongCons rfl (amongCons rfl (amongCons rfl (amongCons rfl (amongCons rfl (amongCons rfl (amongCons rfl (amongCons rfl (amongCons rfl (amongCons rfl (amongCons rfl (amongCons rfl (amongCons rfl (amongCons rfl (amongCons rfl (amongCons rfl (amongCons rfl (amongCons rfl (amongCons rfl (amongCons rfl (amongCons rfl (amongCons rfl (amongCons rfl (amongCons rfl (amongCons rfl (amongCons rfl (amongCons rfl (amongCons rfl (amongCons rfl (amongCons rfl (amongCons rfl (amongCons rfl (amongCons rfl (amongCons rfl (amongCons rfl (amongCons rfl (amongCons rfl (amongCons rfl (amongCons rfl (amongCons rfl (amongCons rfl (amongCons rfl (amongCons rfl (amongCons rfl (amongCons rfl (amongCons rfl (amongCons rfl (amongCons rfl (amongCons rfl (amongCons rfl (amongCons rfl (amongCons rfl (amongCons rfl (amongCons rfl (amongCons rfl (amongCons rfl (amongCons rfl (amongCons rfl (amongCons rfl (amongCons rfl (amongCons (amongAt 85 rfl) (amongCons (amongAt 86 rfl) (amongCons (amongAt 87 rfl) amongNil)))))))))))))))))))))))))))))))))))))))))))))))))))))))))))))))))))))))))))))))) rfl
      exact Within.refl _ _ _
    · refine Within.ite ?_ ?_
      · exact Within.refl _ _ _
      · refine Within.then ?_ (frame_enterRun _ _) rfl rfl
        refine Within.after ?_ (frame_setPageState _ _ _) (amongCons (amongAt 85 rfl) (amongCons (amongAt 86 rfl) amongNil)) rfl
        exact Within.refl _ _ _

theorem frame_drainDone (a0 : Nat) (s : State) :
    Within [.page 0x10, .word 0x8 0x14, .word 0x9 0x14, .word 0xa 0x14, .word 0xb 0x14, .word 0x8 0x30, .word 0x9 0x30, .word 0xa 0x30, .word 0xb 0x30, .word 0x8 0x5c, .word 0x9 0x5c, .word 0xa 0x5c, .word 0xb 0x5c, .word 0x8 0x4c, .word 0x9 0x4c, .word 0xa 0x4c, .word 0xb 0x4c, .word 0x8 0x78, .word 0x9 0x78, .word 0xa 0x78, .word 0xb 0x78, .word 0xb 0x50, .page 0x11, .page 0x31, .page 0x1b, .word 0x20 0xdc, .word 0x20 0xd8, .word 0x20 0xd4, .word 0x20 0xd0, .word 0x19 0xa4, .word 0x19 0xa8, .word 0x19 0xac, .word 0x19 0xb0, .word 0x19 0xb4, .word 0x19 0xb8, .page 0x24, .page 0x25, .page 0x26, .page 0x27, .word 0x21 0x50, .word 0x21 0x4c, .word 0x4c 0x14, .word 0x4c 0x50, .word 0x4c 0x4c, .word 0x4c 0x48, .word 0x4c 0x44, .page 0x41, .word 0x38 0x74, .word 0x39 0x74, .word 0x38 0x70, .word 0x39 0x70, .word 0x38 0x14, .word 0x39 0x14, .word 0x38 0x78, .word 0x39 0x78, .page 0x3a, .page 0x3b, .word 0x38 0xac, .word 0x39 0xac, .word 0x4a 0x58, .word 0x4a 0x14, .word 0x4a 0x50, .word a0 0xc, .word a0 0x14] [.lanes, .fes, .relief, .nodes, .ddr, .ledger, .scheds, .duty, .frames, .ports, .notices, .rings, .clock, .rope] s (drainDone a0 s) := by
  unfold Machine.drainDone
  refine Within.ite ?_ ?_
  · refine Within.after ?_ (frame_toStopped _ _ _) (amongCons rfl (amongCons rfl (amongCons rfl (amongCons rfl (amongCons rfl (amongCons rfl (amongCons rfl (amongCons rfl (amongCons rfl (amongCons rfl (amongCons rfl (amongCons rfl (amongCons rfl (amongCons rfl (amongCons rfl (amongCons rfl (amongCons rfl (amongCons rfl (amongCons rfl (amongCons rfl (amongCons rfl (amongCons rfl (amongCons rfl (amongCons rfl (amongCons rfl (amongCons rfl (amongCons rfl (amongCons rfl (amongCons rfl (amongCons rfl (amongCons rfl (amongCons rfl (amongCons rfl (amongCons rfl (amongCons rfl (amongCons rfl (amongCons rfl (amongCons rfl (amongCons rfl (amongCons rfl (amongCons rfl (amongCons rfl (amongCons rfl (amongCons rfl (amongCons rfl (amongCons rfl (amongCons rfl (amongCons rfl (amongCons rfl (amongCons rfl (amongCons rfl (amongCons rfl (amongCons rfl (amongCons rfl (amongCons rfl (amongCons rfl (amongCons rfl (amongCons rfl (amongCons rfl (amongCons rfl (amongCons rfl (amongCons rfl (amongCons (amongAt 62 rfl) (amongCons (amongAt 63 rfl) amongNil)))))))))))))))))))))))))))))))))))))))))))))))))))))))))))))))) rfl
    exact Within.refl _ _ _
  · exact Within.refl _ _ _

theorem frame_blockFaulted (a0 : Nat) (s : State) :
    Within [.page 0x10, .page 0x24, .page 0x25, .page 0x26, .page 0x27, .word 0x8 0x14, .word 0x9 0x14, .word 0xa 0x14, .word 0xb 0x14, .word 0x8 0x30, .word 0x9 0x30, .word 0xa 0x30, .word 0xb 0x30, .word 0x8 0x5c, .word 0x9 0x5c, .word 0xa 0x5c, .word 0xb 0x5c, .word 0x8 0x4c, .word 0x9 0x4c, .word 0xa 0x4c, .word 0xb 0x4c, .word 0x8 0x78, .word 0x9 0x78, .word 0xa 0x78, .word 0xb 0x78, .word 0xb 0x50, .word 0x8 0xc, .word 0x9 0xc, .word 0xa 0xc, .word 0xb 0xc, .page 0x11, .page 0x31, .page 0x1b, .word 0x20 0xdc, .word 0x20 0xd8, .word 0x20 0xd4, .word 0x20 0xd0, .word 0x19 0xa4, .word 0x19 0xa8, .word 0x19 0xac, .word 0x19 0xb0, .word 0x19 0xb4, .word 0x19 0xb8, .word 0x21 0x50, .word 0x21 0x4c, .word 0x20 0x58, .word 0x4c 0x14, .word 0x4c 0x50, .word 0x4c 0x4c, .word 0x4c 0x48, .word 0x4c 0x44, .page 0x41, .word 0x22 0x58, .word 0x22 0x54, .word 0x22 0x50, .word 0xc 0x14, .word 0xc 0x4c, .page 0x29, .word 0x30 0x14, .page 0x80, .word 0x30 0xb8, .word 0x32 0x14, .word 0x32 0xa8, .page 0x33, .page 0x3a, .page 0x3b, .word 0x38 0xac, .word 0x39 0xac, .word 0x40 0x74, .word 0x40 0x78, .word 0x48 0x4c, .word 0x45 0x14, .word 0x45 0x48, .word 0x45 0x4c, .word 0x4a 0x58, .word 0x4a 0x14, .word 0x4a 0x50, .word a0 0x14, .word a0 0xc, .word a0 0x30] [.lanes, .fes, .frames, .scheds, .duty, .relief, .nodes, .ddr, .ledger, .notices, .rings, .reasm, .frameNumbers, .campaigns, .keyOp, .jobs, .ports, .clock, .copy, .fw, .rope, .poolTest, .engines] s (blockFaulted a0 s) := by
  unfold Machine.blockFaulted
  refine Within.after ?_ (frame_pageFault _ _ _) (amongCons rfl (amongCons rfl (amongCons rfl (amongCons rfl (amongCons rfl (amongCons rfl (amongCons rfl (amongCons rfl (amongCons rfl (amongCons rfl (amongCons rfl (amongCons rfl (amongCons rfl (amongCons rfl (amongCons rfl (amongCons rfl (amongCons rfl (amongCons rfl (amongCons rfl (amongCons rfl (amongCons rfl (amongCons rfl (amongCons rfl (amongCons rfl (amongCons rfl (amongCons rfl (amongCons rfl (amongCons rfl (amongCons rfl (amongCons rfl (amongCons rfl (amongCons rfl (amongCons rfl (amongCons rfl (amongCons rfl (amongCons rfl (amongCons rfl (amongCons rfl (amongCons rfl (amongCons rfl (amongCons rfl (amongCons rfl (amongCons rfl (amongCons rfl (amongCons rfl (amongCons rfl (amongCons rfl (amongCons rfl (amongCons rfl (amongCons rfl (amongCons rfl (amongCons rfl (amongCons rfl (amongCons rfl (amongCons rfl (amongCons rfl (amongCons rfl (amongCons rfl (amongCons rfl (amongCons rfl (amongCons rfl (amongCons rfl (amongCons rfl (amongCons rfl (amongCons rfl (amongCons rfl (amongCons rfl (amongCons rfl (amongCons rfl (amongCons rfl (amongCons rfl (amongCons rfl (amongCons rfl (amongCons rfl (amongCons rfl (amongCons rfl (amongCons rfl (amongCons (amongAt 77 rfl) (amongCons (amongAt 78 rfl) (amongCons (amongAt 79 rfl) amongNil)))))))))))))))))))))))))))))))))))))))))))))))))))))))))))))))))))))))))))))))) rfl
  exact Within.refl _ _ _

theorem frame_engineRetired (a0 : Nat) (s : State) :
    Within [.page 0x5, .page 0x31] [] s (engineRetired a0 s) := by
  unfold Machine.engineRetired
  refine Within.then ?_ (frame_blowRetired _ _ _) rfl rfl
  refine Within.latch ?_ (inScopes_of rfl)
  refine Within.wr ?_ (inScopes_of rfl)
  exact Within.refl _ _ _

theorem frame_engineStillTested (a0 : Bool) (s : State) :
    Within [.page 0x31, .page 0x5] [.engines] s (engineStillTested a0 s) := by
  unfold Machine.engineStillTested
  split
  · exact Within.refl _ _ _
  · refine Within.ite ?_ ?_
    · exact Within.refl _ _ _
    · refine Within.ite ?_ ?_
      · refine Within.then ?_ (frame_engineStill _ _) rfl rfl
        refine Within.wr ?_ (inScopes_of rfl)
        exact Within.refl _ _ _
      · extract_lets x0 x1
        refine Within.via x0 ?_ (fun h2 => ?_)
        · unfold x0
          refine Within.wr ?_ (inScopes_of rfl)
          refine Within.wr ?_ (inScopes_of rfl)
          exact Within.refl _ _ _
        · clear_value x0
          refine Within.via x1 ?_ (fun h3 => ?_)
          · unfold x1
            refine Within.ite ?_ ?_
            · refine Within.then ?_ (frame_engaged _ _ _ _) rfl rfl
              refine Within.wr ?_ (inScopes_of rfl)
              exact h2
            · refine Within.latch ?_ (inScopes_of rfl)
              exact h2
          · clear_value x1
            refine Within.then ?_ (frame_engineStill _ _) rfl rfl
            refine Within.then ?_ (frame_engineRetired _ _) rfl rfl
            exact h3

theorem frame_retireEngine (a0 : Nat) (s : State) :
    Within [.word 0x5 0x14, .page 0x31] [.engines] s (retireEngine a0 s) := by
  unfold Machine.retireEngine
  extract_lets x0
  refine Within.via x0 ?_ (fun h1 => ?_)
  · unfold x0
    refine Within.wr ?_ (inScopes_of rfl)
    refine Within.set_engineChecks ?_ (by decide)
    exact Within.refl _ _ _
  · clear_value x0
    refine Within.ite ?_ ?_
    · refine Within.then ?_ (frame_engaged _ _ _ _) rfl rfl
      refine Within.wr ?_ (inScopes_of rfl)
      exact h1
    · refine Within.latch ?_ (inScopes_of rfl)
      exact h1

theorem frame_engineTestFailed (a0 : Nat) (s : State) :
    Within [.page 0x5, .page 0x31] [.engines] s (engineTestFailed a0 s) := by
  unfold Machine.engineTestFailed
  extract_lets x0
  refine Within.via x0 ?_ (fun h1 => ?_)
  · unfold x0
    refine Within.wr ?_ (inScopes_of rfl)
    refine Within.wr ?_ (inScopes_of rfl)
    exact Within.refl _ _ _
  · clear_value x0
    refine Within.ite ?_ ?_
    · refine Within.then ?_ (frame_engineRetired _ _) rfl rfl
      refine Within.ite ?_ ?_
      · refine Within.then ?_ (frame_engaged _ _ _ _) rfl rfl
        exact h1
      · refine Within.latch ?_ (inScopes_of rfl)
        exact h1
    · refine Within.ite ?_ ?_
      · refine Within.then ?_ (frame_retireEngine _ _) rfl rfl
        exact h1
      · exact h1

theorem frame_engineTested (a0 : Bool) (s : State) :
    Within [.page 0x31, .page 0x5] [.engines] s (engineTested a0 s) := by
  unfold Machine.engineTested
  split
  · exact Within.refl _ _ _
  · refine Within.ite ?_ ?_
    · exact Within.refl _ _ _
    · refine Within.ite ?_ ?_
      · refine Within.ite ?_ ?_
        · refine Within.wr ?_ (inScopes_of rfl)
          refine Within.set_engineTest ?_ (by decide)
          exact Within.refl _ _ _
        · extract_lets x0
          refine Within.via x0 ?_ (fun h1 => ?_)
          · unfold x0
            refine Within.wr ?_ (inScopes_of rfl)
            exact Within.refl _ _ _
          · clear_value x0
            refine Within.ite ?_ ?_
            · refine Within.wr ?_ (inScopes_of rfl)
              refine Within.set_engineTest ?_ (by decide)
              exact h1
            · refine Within.set_engineTest ?_ (by decide)
              exact h1
      · refine Within.then ?_ (frame_engineTestFailed _ _) rfl rfl
        refine Within.set_engineTest ?_ (by decide)
        exact Within.refl _ _ _

theorem frame_deferralsMet (a0 : Nat) (a1 : Bool) (s : State) :
    Within [.word (0x8 + a0 % 4) 0x78] [.fes, .relief] s (deferralsMet a0 a1 s) := by
  unfold Machine.deferralsMet
  extract_lets x0 x1 x2 x3
  refine Within.via x0 ?_ (fun h4 => ?_)
  · unfold x0
    refine Within.ite ?_ ?_
    · refine Within.wr ?_ (inScopes_at 0 rfl)
      exact Within.refl _ _ _
    · exact Within.refl _ _ _
  · clear_value x0
    refine Within.via x1 ?_ (fun h5 => ?_)
    · unfold x1
      refine Within.wr ?_ (inScopes_at 0 rfl)
      exact h4
    · clear_value x1
      refine Within.via x2 ?_ (fun h6 => ?_)
      · unfold x2
        refine Within.set_reliefQueue ?_ (by decide)
        exact h5
      · clear_value x2
        refine Within.via x3 ?_ (fun h7 => ?_)
        · unfold x3
          refine Within.then ?_ (frame_modFe _ _ _) rfl rfl
          exact h6
        · clear_value x3
          refine Within.ite ?_ ?_
          · exact h7
          · refine Within.wr ?_ (inScopes_at 0 rfl)
            refine Within.then ?_ (frame_modFe _ _ _) rfl rfl
            exact h7

theorem frame_noteSet (a0 : Nat) (s : State) :
    Within [.word (0x8 + a0 % 4) 0x7c] [.fes] s (noteSet a0 s) := by
  unfold Machine.noteSet
  extract_lets x0
  refine Within.then ?_ (frame_modFe _ _ _) rfl rfl
  refine Within.wrInt ?_ (inScopes_of (by simp [Scope.among, fePage, schedPage, ethPage, ethStatPage, F.FE.CAL_TEMP]))
  exact Within.refl _ _ _

theorem frame_fullDone (a0 : Nat) (s : State) :
    Within [.word (0x8 + a0 % 4) 0x78, .word (0x8 + a0 % 4) 0x7c] [.fes, .relief] s (fullDone a0 s) := by
  unfold Machine.fullDone
  refine Within.ite ?_ ?_
  · refine Within.after ?_ (frame_deferralsMet _ _ _) (amongCons (amongAt 0 rfl) amongNil) rfl
    refine Within.after ?_ (frame_noteSet _ _) (amongCons (amongAt 1 rfl) amongNil) rfl
    refine Within.then ?_ (frame_modFe _ _ _) rfl rfl
    exact Within.refl _ _ _
  · exact Within.refl _ _ _

theorem frame_reliefRefill (a0 : Nat) (s : State) :
    Within [] [.relief] s (reliefRefill a0 s) := by
  unfold Machine.reliefRefill
  split
  · refine Within.ite ?_ ?_
    · refine Within.set_relief ?_ (by decide)
      exact Within.refl _ _ _
    · exact Within.refl _ _ _
  · exact Within.refl _ _ _

theorem frame_reliefReady (s : State) :
    Within [.page 0x10, .word 0xb 0x5c, .word 0xb 0x4c] [.lanes, .fes, .relief] s (reliefReady s) := by
  unfold Machine.reliefReady
  split
  · extract_lets x0
    refine Within.via x0 ?_ (fun h1 => ?_)
    · unfold x0
      refine Within.then ?_ (frame_setRf _ _ _) rfl rfl
      exact Within.refl _ _ _
    · clear_value x0
      refine Within.set_relief ?_ (by decide)
      exact h1
  · refine Within.then ?_ (frame_setRf _ _ _) rfl rfl
    exact Within.refl _ _ _

theorem frame_calsDone (a0 : Nat) (s : State) :
    Within [.page 0x10, .word 0xb 0x5c, .word 0xb 0x4c, .word (0x8 + a0 % 4) 0x5c, .word (0x8 + a0 % 4) 0x4c, .word (0x8 + a0 % 4) 0x14, .word (0x8 + a0 % 4) 0xc, .word (0x8 + a0 % 4) 0x78, .word (0x8 + a0 % 4) 0x7c, .word (0x8 + a0 % 4) 0x30] [.lanes, .fes, .relief] s (calsDone a0 s) := by
  unfold Machine.calsDone
  extract_lets x0 x1 x2 x3 x4 x5 x6 x7
  refine Within.via x1 ?_ (fun h8 => ?_)
  · unfold x1
    refine Within.after ?_ (frame_fullDone _ _) (amongCons (amongAt 7 rfl) (amongCons (amongAt 8 rfl) amongNil)) rfl
    exact Within.refl _ _ _
  · clear_value x1
    refine Within.via x2 ?_ (fun h9 => ?_)
    · unfold x2
      refine Within.after ?_ (frame_setPageState _ _ _) (amongCons (amongAt 5 rfl) (amongCons (amongAt 6 rfl) amongNil)) rfl
      exact h8
    · clear_value x2
      refine Within.via x3 ?_ (fun h10 => ?_)
      · unfold x3
        refine Within.wr ?_ (inScopes_at 7 rfl)
        exact h8
      · clear_value x3
        refine Within.via x4 ?_ (fun h11 => ?_)
        · unfold x4
          refine Within.after ?_ (frame_setTestResult _ _ _) (amongCons (amongAt 5 rfl) (amongCons (amongAt 9 rfl) amongNil)) rfl
          exact h8
        · clear_value x4
          refine Within.via x5 ?_ (fun h12 => ?_)
          · unfold x5
            refine Within.after ?_ (frame_setPageState _ _ _) (amongCons (amongAt 5 rfl) (amongCons (amongAt 6 rfl) amongNil)) rfl
            exact h11
          · clear_value x5
            refine Within.via x6 ?_ (fun h13 => ?_)
            · unfold x6
              refine Within.then ?_ (frame_refreshListen _) rfl rfl
              refine Within.then ?_ (frame_reliefRefill _ _) rfl rfl
              refine Within.after ?_ (frame_setRf _ _ _) (amongCons rfl (amongCons (amongAt 3 rfl) (amongCons (amongAt 4 rfl) amongNil))) rfl
              exact h12
            · clear_value x6
              refine Within.via x7 ?_ (fun h14 => ?_)
              · unfold x7
                refine Within.wr ?_ (inScopes_at 4 rfl)
                exact h8
              · clear_value x7
                split
                · refine Within.then ?_ (frame_refreshListen _) rfl rfl
                  refine Within.after ?_ (frame_setRf _ _ _) (amongCons rfl (amongCons (amongAt 3 rfl) (amongCons (amongAt 4 rfl) amongNil))) rfl
                  exact h9
                · refine Within.then ?_ (frame_reliefRefill _ _) rfl rfl
                  refine Within.after ?_ (frame_setRf _ _ _) (amongCons rfl (amongCons (amongAt 3 rfl) (amongCons (amongAt 4 rfl) amongNil))) rfl
                  exact h8
                · refine Within.then ?_ (frame_reliefRefill _ _) rfl rfl
                  refine Within.after ?_ (frame_setRf _ _ _) (amongCons rfl (amongCons (amongAt 3 rfl) (amongCons (amongAt 4 rfl) amongNil))) rfl
                  refine Within.after ?_ (frame_deferralsMet _ _ _) (amongCons (amongAt 7 rfl) amongNil) rfl
                  exact h8
                · refine Within.then ?_ (frame_reliefRefill _ _) rfl rfl
                  refine Within.after ?_ (frame_setRf _ _ _) (amongCons rfl (amongCons (amongAt 3 rfl) (amongCons (amongAt 4 rfl) amongNil))) rfl
                  exact h10
                · refine Within.wr ?_ (inScopes_at 6 rfl)
                  exact h13
                · refine Within.then ?_ (frame_reliefRefill _ _) rfl rfl
                  refine Within.after ?_ (frame_setRf _ _ _) (amongCons rfl (amongCons (amongAt 3 rfl) (amongCons (amongAt 4 rfl) amongNil))) rfl
                  exact h8
                · refine Within.after ?_ (frame_setRf _ _ _) (amongCons rfl (amongCons (amongAt 3 rfl) (amongCons (amongAt 4 rfl) amongNil))) rfl
                  refine Within.then ?_ (frame_modFe _ _ _) rfl rfl
                  exact h14
                · refine Within.after ?_ (frame_setRf _ _ _) (amongCons rfl (amongCons (amongAt 3 rfl) (amongCons (amongAt 4 rfl) amongNil))) rfl
                  refine Within.then ?_ (frame_modFe _ _ _) rfl rfl
                  exact h8
                · refine Within.then ?_ (frame_reliefReady _) rfl rfl
                  exact h8

theorem frame_retireLane (a0 : Nat) (s : State) :
    Within [.page 0x5, .page 0x10, .page 0x11] [.fes, .lanes] s (retireLane a0 s) := by
  unfold Machine.retireLane
  refine Within.then ?_ (frame_blowRetired _ _ _) rfl rfl
  refine Within.then ?_ (frame_modLane _ _ _) rfl rfl
  exact Within.refl _ _ _

theorem frame_unitFailed (a0 : Nat) (a1 : Nat) (s : State) :
    Within [.page 0x5, .page 0x10, .page 0x11] [.fes, .lanes] s (unitFailed a0 a1 s) := by
  unfold Machine.unitFailed
  refine Within.ite ?_ ?_
  · refine Within.then ?_ (frame_reserveLeft _) rfl rfl
    refine Within.then ?_ (frame_retireLane _ _) rfl rfl
    exact Within.refl _ _ _
  · exact Within.refl _ _ _

theorem frame_selfTestDone (a0 : Nat) (a1 : Option Byte) (s : State) :
    Within [.page 0x31, .page 0x5, .page 0x10, .page 0x24, .page 0x25, .page 0x26, .page 0x27, .word 0x8 0x14, .word 0x9 0x14, .word 0xa 0x14, .word 0xb 0x14, .word 0x8 0x30, .word 0x9 0x30, .word 0xa 0x30, .word 0xb 0x30, .word 0x8 0x5c, .word 0x9 0x5c, .word 0xa 0x5c, .word 0xb 0x5c, .word 0x8 0x4c, .word 0x9 0x4c, .word 0xa 0x4c, .word 0xb 0x4c, .word 0x8 0x78, .word 0x9 0x78, .word 0xa 0x78, .word 0xb 0x78, .word 0xb 0x50, .word 0x8 0xc, .word 0x9 0xc, .word 0xa 0xc, .word 0xb 0xc, .word 0x8 0x7c, .word 0x9 0x7c, .word 0xa 0x7c, .word 0xb 0x7c, .page 0x11, .word a0 0x14, .word a0 0x30, .word a0 0xc] [.engines, .lanes, .fes, .frames, .scheds, .duty, .relief] s (selfTestDone a0 a1 s) := by
  unfold Machine.selfTestDone
  extract_lets x0 x1 x2 x3 x4 x5 x6 x7 x8 x9
  refine Within.via x9 ?_ (fun h10 => ?_)
  · unfold x9
    refine Within.ite ?_ ?_
    · refine Within.wr ?_ (inScopes_at 38 rfl)
      exact Within.refl _ _ _
    · exact Within.refl _ _ _
  · clear_value x9
    refine Within.ite ?_ ?_
    · exact Within.refl _ _ _
    · refine Within.ite ?_ ?_
      · refine Within.ite ?_ ?_
        · refine Within.then ?_ (frame_engineStillTested _ _) rfl rfl
          exact Within.refl _ _ _
        · refine Within.then ?_ (frame_engineTested _ _) rfl rfl
          exact Within.refl _ _ _
      · refine Within.ite ?_ ?_
        · split
          · refine Within.ite ?_ ?_
            · refine Within.after ?_ (frame_feFault _ _ _) (amongCons rfl (amongCons rfl (amongCons rfl (amongCons rfl (amongCons rfl (amongCons rfl (amongCons rfl (amongCons rfl (amongCons rfl (amongCons rfl (amongCons rfl (amongCons rfl (amongCons rfl (amongCons rfl (amongCons rfl (amongCons rfl (amongCons rfl (amongCons rfl (amongCons rfl (amongCons rfl (amongCons rfl (amongCons rfl (amongCons rfl (amongCons rfl (amongCons rfl (amongCons rfl (amongCons (amongW4 rfl) (amongCons (amongW4 rfl) (amongCons (amongW4 rfl) (amongCons (amongW4 rfl) (amongCons (amongW4 rfl) (amongCons (amongW4 rfl) amongNil)))))))))))))))))))))))))))))))) rfl
              refine Within.after ?_ (frame_setTestResult _ _ _) (amongCons (amongAt 37 rfl) (amongCons (amongAt 38 rfl) amongNil)) rfl
              exact Within.refl _ _ _
            · refine Within.after ?_ (frame_calsDone _ _) (amongCons rfl (amongCons rfl (amongCons rfl (amongCons (amongW4 rfl) (amongCons (amongW4 rfl) (amongCons (amongW4 rfl) (amongCons (amongW4 rfl) (amongCons (amongW4 rfl) (amongCons (amongW4 rfl) (amongCons (amongW4 rfl) amongNil)))))))))) rfl
              refine Within.then ?_ (frame_modFe _ _ _) rfl rfl
              exact Within.refl _ _ _
          · refine Within.ite ?_ ?_
            · refine Within.after ?_ (frame_setPageState _ _ _) (amongCons (amongAt 37 rfl) (amongCons (amongAt 39 rfl) amongNil)) rfl
              refine Within.then ?_ (frame_unitFailed _ _ _) rfl rfl
              refine Within.after ?_ (frame_setTestResult _ _ _) (amongCons (amongAt 37 rfl) (amongCons (amongAt 38 rfl) amongNil)) rfl
              exact h10
            · refine Within.after ?_ (frame_setPageState _ _ _) (amongCons (amongAt 37 rfl) (amongCons (amongAt 39 rfl) amongNil)) rfl
              refine Within.after ?_ (frame_setTestResult _ _ _) (amongCons (amongAt 37 rfl) (amongCons (amongAt 38 rfl) amongNil)) rfl
              exact Within.refl _ _ _
        · exact Within.refl _ _ _

theorem frame_selfTestExpiry (a0 : Nat) (s : State) :
    Within [.word 0x8 0x78, .word 0x9 0x78, .word 0xa 0x78, .word 0xb 0x78, .word a0 0x14, .word a0 0x30] [.relief, .poolTest, .engines] s (selfTestExpiry a0 s) := by
  unfold Machine.selfTestExpiry
  refine Within.then ?_ (frame_endWaitingCal _ _ _) rfl rfl
  refine Within.after ?_ (frame_endWaitingTest _ _ _) (amongCons (by simp [Scope.among, fePage, schedPage, ethPage, ethStatPage]) (amongCons (by simp [Scope.among, fePage, schedPage, ethPage, ethStatPage]) amongNil)) rfl
  exact Within.refl _ _ _

theorem frame_holdoffExpiry (a0 : Nat) (s : State) :
    Within [] [] s (holdoffExpiry a0 s) := by
  unfold Machine.holdoffExpiry
  extract_lets x0 x1 x2
  refine Within.via x2 ?_ (fun h3 => ?_)
  · unfold x2
    refine Within.set_msix ?_
    exact Within.refl _ _ _
  · clear_value x2
    refine Within.ite ?_ ?_
    · refine Within.then ?_ (frame_assertVec _ _) rfl rfl
      exact h3
    · exact h3

theorem frame_msixEnable (a0 : Bool) (a1 : Bool) (a2 : Bool) (s : State) :
    Within [] [] s (msixEnable a0 a1 a2 s) := by
  unfold Machine.msixEnable
  extract_lets x0 x1 x2
  refine Within.via x2 ?_ (fun h3 => ?_)
  · unfold x2
    refine Within.set_msix ?_
    exact Within.refl _ _ _
  · clear_value x2
    refine Within.ite ?_ ?_
    · refine Within.foldl ?_ (fun _ _ _ h4 => ?_)
      · exact h3
      · refine Within.ite ?_ ?_
        · refine Within.then ?_ (frame_assertVec _ _) rfl rfl
          exact h4
        · exact h4
    · refine Within.then ?_ (frame_releasePending _) rfl rfl
      exact h3

theorem frame_spiBegin (a0 : Bool) (a1 : Bool) (s : State) :
    Within [.word 0x4e 0x40] [.spi] s (spiBegin a0 a1 s) := by
  unfold Machine.spiBegin
  refine Within.wrBool ?_ (inScopes_of rfl)
  refine Within.set_spi ?_ (by decide)
  exact Within.refl _ _ _

theorem frame_spiBad (s : State) :
    Within [.word 0x4e 0x14, .word 0x4e 0x44] [.spi] s (spiBad s) := by
  unfold Machine.spiBad
  refine Within.then ?_ (frame_spiDiscard _) rfl rfl
  refine Within.set_spi ?_ (by decide)
  exact Within.refl _ _ _

theorem frame_spiStatus (a0 : Bool) (s : State) :
    Within [.word 0x4e 0x40] [.spi] s (spiStatus a0 s) := by
  unfold Machine.spiStatus
  extract_lets x0 x1 x2
  refine Within.via x1 ?_ (fun h3 => ?_)
  · unfold x1
    refine Within.then ?_ (frame_spiBegin _ _ _) rfl rfl
    exact Within.refl _ _ _
  · clear_value x1
    refine Within.set_spi ?_ (by decide)
    exact h3

theorem frame_quadOn (a0 : Bool) (s : State) :
    Within [.word 0x4e 0x40] [.spi] s (quadOn a0 s) := by
  unfold Machine.quadOn
  refine Within.wr ?_ (inScopes_of rfl)
  refine Within.then ?_ (frame_spiBegin _ _ _) rfl rfl
  exact Within.refl _ _ _

theorem frame_quadOff (a0 : Bool) (s : State) :
    Within [.word 0x4e 0x40] [.spi] s (quadOff a0 s) := by
  unfold Machine.quadOff
  refine Within.wr ?_ (inScopes_of rfl)
  refine Within.then ?_ (frame_spiBegin _ _ _) rfl rfl
  exact Within.refl _ _ _

theorem frame_spiEnd (a0 : Nat) (s : State) :
    Within [.word 0x4e 0x14, .word 0x4e 0x44] [.spi] s (spiEnd a0 s) := by
  unfold Machine.spiEnd
  extract_lets x0 x1 x2 x3 x4
  refine Within.via x2 ?_ (fun h5 => ?_)
  · unfold x2
    refine Within.set_spi ?_ (by decide)
    exact Within.refl _ _ _
  · clear_value x2
    refine Within.via x4 ?_ (fun h6 => ?_)
    · unfold x4
      refine Within.set_spi ?_ (by decide)
      exact h5
    · clear_value x4
      refine Within.ite ?_ ?_
      · refine Within.ite ?_ ?_
        · exact h6
        · refine Within.then ?_ (frame_spiDiscard _) rfl rfl
          exact h6
      · exact h5

theorem frame_gpioEdge (a0 : Nat) (a1 : Bool) (s : State) :
    Within [.word 0x4e 0x108, .word 0x4e 0x10, .word 0x4e 0x14, .word 0x4e 0x114] [] s (gpioEdge a0 a1 s) := by
  unfold Machine.gpioEdge
  refine Within.ite ?_ ?_
  · exact Within.refl _ _ _
  · extract_lets x0 x1 x2
    refine Within.via x2 ?_ (fun h3 => ?_)
    · unfold x2
      refine Within.ite ?_ ?_
      · refine Within.orBits ?_ (inScopes_of rfl)
        exact Within.refl _ _ _
      · refine Within.clearBits ?_ (inScopes_of rfl)
        exact Within.refl _ _ _
    · clear_value x2
      refine Within.ite ?_ ?_
      · refine Within.then ?_ (frame_showEdges _) rfl rfl
        refine Within.orBits ?_ (inScopes_of rfl)
        exact h3
      · exact h3

theorem frame_i2cEnd (a0 : Nat) (s : State) :
    Within [.word 0x4e 0x14, .word 0x4e 0x128] [.i2c] s (i2cEnd a0 s) := by
  unfold Machine.i2cEnd
  refine Within.latch ?_ (inScopes_of rfl)
  refine Within.wr ?_ (inScopes_of rfl)
  refine Within.wr ?_ (inScopes_of rfl)
  refine Within.set_i2c ?_ (by decide)
  exact Within.refl _ _ _

theorem frame_i2cDone (a0 : Bool) (a1 : Byte) (s : State) :
    Within [.word 0x4e 0x14, .word 0x4e 0x128] [.i2c] s (i2cDone a0 a1 s) := by
  unfold Machine.i2cDone
  split
  · exact Within.refl _ _ _
  · refine Within.ite ?_ ?_
    · refine Within.then ?_ (frame_i2cEnd _ _) rfl rfl
      exact Within.refl _ _ _
    · refine Within.then ?_ (frame_i2cEnd _ _) rfl rfl
      refine Within.ite ?_ ?_
      · refine Within.wr ?_ (inScopes_of rfl)
        exact Within.refl _ _ _
      · exact Within.refl _ _ _

theorem frame_i2cTimeout (s : State) :
    Within [.word 0x4e 0x14, .word 0x4e 0x128] [.i2c] s (i2cTimeout s) := by
  unfold Machine.i2cTimeout
  refine Within.ite ?_ ?_
  · refine Within.then ?_ (frame_i2cEnd _ _) rfl rfl
    exact Within.refl _ _ _
  · exact Within.refl _ _ _

theorem frame_jtagSelect (a0 : JtagInstr) (s : State) :
    Within [] [.jtag] s (jtagSelect a0 s) := by
  unfold Machine.jtagSelect
  refine Within.set_jtag ?_ (by decide)
  exact Within.refl _ _ _

theorem frame_jtagDrive (a0 : JtagInstr) (s : State) :
    Within [] [.jtag] s (jtagDrive a0 s) := by
  unfold Machine.jtagDrive
  refine Within.then ?_ (frame_jtagSelect _ _) rfl rfl
  exact Within.refl _ _ _

theorem frame_jtagLoad (a0 : Nat) (s : State) :
    Within [] [.jtag] s (jtagLoad a0 s) := by
  unfold Machine.jtagLoad
  refine Within.set_jtag ?_ (by decide)
  exact Within.refl _ _ _

theorem frame_jtagReset (s : State) :
    Within [] [.jtag] s (jtagReset s) := by
  unfold Machine.jtagReset
  refine Within.then ?_ (frame_jtagSelect _ _) rfl rfl
  exact Within.refl _ _ _

theorem frame_retuneExpiry (a0 : Nat) (s : State) :
    Within [.page 0x10, .page 0x11, .page 0x31, .page 0x1b, .word 0x20 0xdc, .word 0x20 0xd8, .word 0x20 0xd4, .word 0x20 0xd0, .word 0x19 0xa4, .word 0x19 0xa8, .word 0x19 0xac, .word 0x19 0xb0, .word 0x19 0xb4, .word 0x19 0xb8, .word 0xb 0x5c, .word 0xb 0x4c, .word (0x8 + a0 % 4) 0x5c, .word (0x8 + a0 % 4) 0x4c] [.lanes, .fes, .nodes, .ddr, .ledger] s (retuneExpiry a0 s) := by
  unfold Machine.retuneExpiry
  refine Within.ite ?_ ?_
  · refine Within.after ?_ (frame_beginRetune _ _) (amongCons rfl (amongCons rfl (amongCons rfl (amongCons rfl (amongCons rfl (amongCons rfl (amongCons rfl (amongCons rfl (amongCons rfl (amongCons rfl (amongCons rfl (amongCons rfl (amongCons rfl (amongCons rfl (amongCons rfl (amongCons rfl (amongCons (amongAt 16 rfl) (amongCons (amongAt 17 rfl) amongNil)))))))))))))))))) rfl
    exact Within.refl _ _ _
  · exact Within.refl _ _ _

theorem frame_endRequests (a0 : Nat) (a1 : Nat) (s : State) :
    Within [.word (0x8 + a0 % 4) 0x14, .word (0x8 + a0 % 4) 0x30, .word (0x8 + a0 % 4) 0x78] [] s (endRequests a0 a1 s) := by
  unfold Machine.endRequests
  split
  · refine Within.ite ?_ ?_
    · refine Within.after ?_ (frame_setTestResult _ _ _) (amongCons (amongAt 0 rfl) (amongCons (amongAt 1 rfl) amongNil)) rfl
      exact Within.refl _ _ _
    · exact Within.refl _ _ _
  · refine Within.ite ?_ ?_
    · refine Within.wr ?_ (inScopes_at 2 rfl)
      exact Within.refl _ _ _
    · exact Within.refl _ _ _
  · exact Within.refl _ _ _

theorem frame_lockFailed (a0 : Nat) (s : State) :
    Within [.page 0x10, .page 0x24, .page 0x25, .page 0x26, .page 0x27, .word 0x8 0x14, .word 0x9 0x14, .word 0xa 0x14, .word 0xb 0x14, .word 0x8 0x30, .word 0x9 0x30, .word 0xa 0x30, .word 0xb 0x30, .word 0x8 0x5c, .word 0x9 0x5c, .word 0xa 0x5c, .word 0xb 0x5c, .word 0x8 0x4c, .word 0x9 0x4c, .word 0xa 0x4c, .word 0xb 0x4c, .word 0x8 0x78, .word 0x9 0x78, .word 0xa 0x78, .word 0xb 0x78, .word 0xb 0x50, .word (0x8 + a0 % 4) 0x5c, .word (0x8 + a0 % 4) 0x4c, .word (0x8 + a0 % 4) 0x14, .word (0x8 + a0 % 4) 0xc, .word (0x8 + a0 % 4) 0x78, .word (0x8 + a0 % 4) 0x30] [.fes, .lanes, .frames, .scheds, .duty, .relief] s (lockFailed a0 s) := by
  unfold Machine.lockFailed
  extract_lets x0
  refine Within.via x0 ?_ (fun h1 => ?_)
  · unfold x0
    refine Within.then ?_ (frame_modFe _ _ _) rfl rfl
    exact Within.refl _ _ _
  · clear_value x0
    refine Within.ite ?_ ?_
    · refine Within.after ?_ (frame_feFault _ _ _) (amongCons rfl (amongCons rfl (amongCons rfl (amongCons rfl (amongCons rfl (amongCons rfl (amongCons rfl (amongCons rfl (amongCons rfl (amongCons rfl (amongCons rfl (amongCons rfl (amongCons rfl (amongCons rfl (amongCons rfl (amongCons rfl (amongCons rfl (amongCons rfl (amongCons rfl (amongCons rfl (amongCons rfl (amongCons rfl (amongCons rfl (amongCons rfl (amongCons rfl (amongCons rfl (amongCons (amongW4 rfl) (amongCons (amongW4 rfl) (amongCons (amongW4 rfl) (amongCons (amongAt 29 rfl) (amongCons (amongW4 rfl) (amongCons (amongW4 rfl) amongNil)))))))))))))))))))))))))))))))) rfl
      refine Within.after ?_ (frame_endRequests _ _ _) (amongCons (amongW4 rfl) (amongCons (amongW4 rfl) (amongCons (amongW4 rfl) amongNil))) rfl
      exact h1
    · refine Within.after ?_ (frame_setRf _ _ _) (amongCons rfl (amongCons (amongW4 rfl) (amongCons (amongW4 rfl) amongNil))) rfl
      exact h1

theorem frame_storeCal (a0 : Nat) (a1 : CalKind) (a2 : Nat) (a3 : Nat) (s : State) :
    Within [.word (0x8 + a0 % 4) 0x84, .word (0x8 + a0 % 4) 0x88, .word (0x8 + a0 % 4) 0x8c, .word (0x8 + a0 % 4) 0x90, .word (0x8 + a0 % 4) 0x94] [] s (storeCal a0 a1 a2 a3 s) := by
  unfold Machine.storeCal
  split
  · refine Within.wr ?_ (inScopes_of (by simp [Scope.among, fePage, schedPage, ethPage, ethStatPage, F.FE.CAL_OSC_BANDS]))
    exact Within.refl _ _ _
  · refine Within.wr ?_ (inScopes_of (by simp [Scope.among, fePage, schedPage, ethPage, ethStatPage, F.FE.CAL_SYNTH_VCO_BAND]))
    refine Within.wr ?_ (inScopes_of (by simp [Scope.among, fePage, schedPage, ethPage, ethStatPage, F.FE.CAL_SYNTH_LOCK_US]))
    exact Within.refl _ _ _
  · refine Within.wr ?_ (inScopes_of (by simp [Scope.among, fePage, schedPage, ethPage, ethStatPage, F.FE.CAL_AAF_BW_KHZ]))
    exact Within.refl _ _ _
  · refine Within.wr ?_ (inScopes_of (by simp [Scope.among, fePage, schedPage, ethPage, ethStatPage, F.FE.CAL_DC_RESID_I]))
    refine Within.wr ?_ (inScopes_of (by simp [Scope.among, fePage, schedPage, ethPage, ethStatPage, F.FE.CAL_DC_RESID_Q]))
    exact Within.refl _ _ _
  · refine Within.wr ?_ (inScopes_of (by simp [Scope.among, fePage, schedPage, ethPage, ethStatPage, F.FE.CAL_IQ_IMAGE_REJ]))
    exact Within.refl _ _ _
  · exact Within.refl _ _ _

theorem frame_synthLock (a0 : Nat) (a1 : Nat) (a2 : Nat) (s : State) :
    Within [.page 0x10, .page 0x24, .page 0x25, .page 0x26, .page 0x27, .word 0x8 0x14, .word 0x9 0x14, .word 0xa 0x14, .word 0xb 0x14, .word 0x8 0x30, .word 0x9 0x30, .word 0xa 0x30, .word 0xb 0x30, .word 0x8 0x5c, .word 0x9 0x5c, .word 0xa 0x5c, .word 0xb 0x5c, .word 0x8 0x4c, .word 0x9 0x4c, .word 0xa 0x4c, .word 0xb 0x4c, .word 0x8 0x78, .word 0x9 0x78, .word 0xa 0x78, .word 0xb 0x78, .word 0xb 0x50, .word (0x8 + a0 % 4) 0x5c, .word (0x8 + a0 % 4) 0x4c, .word (0x8 + a0 % 4) 0x14, .word (0x8 + a0 % 4) 0xc, .word (0x8 + a0 % 4) 0x78, .word (0x8 + a0 % 4) 0x30, .word (0x8 + a0 % 4) 0x84, .word (0x8 + a0 % 4) 0x88, .word (0x8 + a0 % 4) 0x8c, .word (0x8 + a0 % 4) 0x90, .word (0x8 + a0 % 4) 0x94] [.fes, .lanes, .frames, .scheds, .duty, .relief] s (synthLock a0 a1 a2 s) := by
  unfold Machine.synthLock
  refine Within.ite ?_ ?_
  · exact Within.refl _ _ _
  · refine Within.ite ?_ ?_
    · refine Within.after ?_ (frame_lockFailed _ _) (amongCons rfl (amongCons rfl (amongCons rfl (amongCons rfl (amongCons rfl (amongCons rfl (amongCons rfl (amongCons rfl (amongCons rfl (amongCons rfl (amongCons rfl (amongCons rfl (amongCons rfl (amongCons rfl (amongCons rfl (amongCons rfl (amongCons rfl (amongCons rfl (amongCons rfl (amongCons rfl (amongCons rfl (amongCons rfl (amongCons rfl (amongCons rfl (amongCons rfl (amongCons rfl (amongCons (amongW4 rfl) (amongCons (amongW4 rfl) (amongCons (amongW4 rfl) (amongCons (amongAt 29 rfl) (amongCons (amongW4 rfl) (amongCons (amongW4 rfl) amongNil)))))))))))))))))))))))))))))))) rfl
      exact Within.refl _ _ _
    · refine Within.after ?_ (frame_setRf _ _ _) (amongCons rfl (amongCons (amongW4 rfl) (amongCons (amongW4 rfl) amongNil))) rfl
      refine Within.after ?_ (frame_storeCal _ _ _ _ _) (amongCons (amongAt 32 rfl) (amongCons (amongAt 33 rfl) (amongCons (amongAt 34 rfl) (amongCons (amongAt 35 rfl) (amongCons (amongAt 36 rfl) amongNil))))) rfl
      exact Within.refl _ _ _

theorem frame_clearStale (a0 : Nat) (a1 : CalKind) (s : State) :
    Within [.word (0x8 + a0 % 4) 0x78] [.fes] s (clearStale a0 a1 s) := by
  unfold Machine.clearStale
  extract_lets x0
  refine Within.via x0 ?_ (fun h1 => ?_)
  · unfold x0
    refine Within.then ?_ (frame_modFe _ _ _) rfl rfl
    exact Within.refl _ _ _
  · clear_value x0
    refine Within.ite ?_ ?_
    · refine Within.wr ?_ (inScopes_of (by simp [Scope.among, fePage, schedPage, ethPage, ethStatPage, F.FE.CAL_STATUS_STALE]))
      exact h1
    · exact h1

theorem frame_noteCal (a0 : Nat) (a1 : CalKind) (s : State) :
    Within [.word (0x8 + a0 % 4) 0x80] [.fes] s (noteCal a0 a1 s) := by
  unfold Machine.noteCal
  refine Within.ite ?_ ?_
  · refine Within.then ?_ (frame_modFe _ _ _) rfl rfl
    refine Within.wr ?_ (inScopes_of (by simp [Scope.among, fePage, schedPage, ethPage, ethStatPage, F.FE.CAL_AGE]))
    exact Within.refl _ _ _
  · exact Within.refl _ _ _

theorem frame_calPass (a0 : Nat) (s : State) :
    Within [.page 0x10, .word 0xb 0x5c, .word 0xb 0x4c, .word (0x8 + a0 % 4) 0x5c, .word (0x8 + a0 % 4) 0x4c, .word (0x8 + a0 % 4) 0x14, .word (0x8 + a0 % 4) 0xc, .word (0x8 + a0 % 4) 0x78, .word (0x8 + a0 % 4) 0x7c, .word (0x8 + a0 % 4) 0x30, .word (0x8 + a0 % 4) 0x80] [.lanes, .fes, .relief] s (calPass a0 s) := by
  unfold Machine.calPass
  split
  · exact Within.refl _ _ _
  · extract_lets x0 x1
    refine Within.via x0 ?_ (fun h2 => ?_)
    · unfold x0
      refine Within.after ?_ (frame_clearStale _ _ _) (amongCons (amongAt 7 rfl) amongNil) rfl
      refine Within.after ?_ (frame_noteCal _ _ _) (amongCons (amongAt 10 rfl) amongNil) rfl
      exact Within.refl _ _ _
    · clear_value x0
      refine Within.via x1 ?_ (fun h3 => ?_)
      · unfold x1
        refine Within.then ?_ (frame_modFe _ _ _) rfl rfl
        exact h2
      · clear_value x1
        refine Within.ite ?_ ?_
        · refine Within.after ?_ (frame_calsDone _ _) (amongCons rfl (amongCons rfl (amongCons rfl (amongCons (amongAt 3 rfl) (amongCons (amongAt 4 rfl) (amongCons (amongAt 5 rfl) (amongCons (amongAt 6 rfl) (amongCons (amongAt 7 rfl) (amongCons (amongAt 8 rfl) (amongCons (amongAt 9 rfl) amongNil)))))))))) rfl
          exact h3
        · refine Within.after ?_ (frame_nextCal _ _) (amongCons rfl (amongCons (amongAt 3 rfl) (amongCons (amongAt 4 rfl) amongNil))) rfl
          exact h3

theorem frame_settleElapsed (a0 : Nat) (a1 : ℤ) (s : State) :
    Within [.page 0x10, .page 0x24, .page 0x25, .page 0x26, .page 0x27, .word 0x8 0x14, .word 0x9 0x14, .word 0xa 0x14, .word 0xb 0x14, .word 0x8 0x30, .word 0x9 0x30, .word 0xa 0x30, .word 0xb 0x30, .word 0x8 0x5c, .word 0x9 0x5c, .word 0xa 0x5c, .word 0xb 0x5c, .word 0x8 0x4c, .word 0x9 0x4c, .word 0xa 0x4c, .word 0xb 0x4c, .word 0x8 0x78, .word 0x9 0x78, .word 0xa 0x78, .word 0xb 0x78, .word 0xb 0x50, .word (0x8 + a0 % 4) 0x5c, .word (0x8 + a0 % 4) 0x4c, .word (0x8 + a0 % 4) 0x14, .word (0x8 + a0 % 4) 0xc, .word (0x8 + a0 % 4) 0x78, .word (0x8 + a0 % 4) 0x30, .word (0x8 + a0 % 4) 0x7c, .word (0x8 + a0 % 4) 0x80] [.fes, .lanes, .frames, .scheds, .duty, .relief] s (settleElapsed a0 a1 s) := by
  unfold Machine.settleElapsed
  refine Within.ite ?_ ?_
  · exact Within.refl _ _ _
  · refine Within.ite ?_ ?_
    · refine Within.after ?_ (frame_lockFailed _ _) (amongCons rfl (amongCons rfl (amongCons rfl (amongCons rfl (amongCons rfl (amongCons rfl (amongCons rfl (amongCons rfl (amongCons rfl (amongCons rfl (amongCons rfl (amongCons rfl (amongCons rfl (amongCons rfl (amongCons rfl (amongCons rfl (amongCons rfl (amongCons rfl (amongCons rfl (amongCons rfl (amongCons rfl (amongCons rfl (amongCons rfl (amongCons rfl (amongCons rfl (amongCons rfl (amongCons (amongW4 rfl) (amongCons (amongW4 rfl) (amongCons (amongW4 rfl) (amongCons (amongAt 29 rfl) (amongCons (amongW4 rfl) (amongCons (amongW4 rfl) amongNil)))))))))))))))))))))))))))))))) rfl
      exact Within.refl _ _ _
    · extract_lets x0 x1 x2 x3 x4 x5 x6 x7
      refine Within.via x7 ?_ (fun h8 => ?_)
      · unfold x7
        refine Within.then ?_ (frame_modFe _ _ _) rfl rfl
        exact Within.refl _ _ _
      · clear_value x7
        split
        · refine Within.after ?_ (frame_calPass _ _) (amongCons rfl (amongCons rfl (amongCons rfl (amongCons (amongW4 rfl) (amongCons (amongW4 rfl) (amongCons (amongW4 rfl) (amongCons (amongAt 29 rfl) (amongCons (amongW4 rfl) (amongCons (amongAt 32 rfl) (amongCons (amongW4 rfl) (amongCons (amongAt 33 rfl) amongNil))))))))))) rfl
          exact h8
        · refine Within.after ?_ (frame_nextCal _ _) (amongCons rfl (amongCons (amongW4 rfl) (amongCons (amongW4 rfl) amongNil))) rfl
          exact h8
        · split
          · refine Within.ite ?_ ?_
            · refine Within.then ?_ (frame_reliefReady _) rfl rfl
              exact h8
            · refine Within.after ?_ (frame_calsDone _ _) (amongCons rfl (amongCons rfl (amongCons rfl (amongCons (amongW4 rfl) (amongCons (amongW4 rfl) (amongCons (amongW4 rfl) (amongCons (amongAt 29 rfl) (amongCons (amongW4 rfl) (amongCons (amongAt 32 rfl) (amongCons (amongW4 rfl) amongNil)))))))))) rfl
              refine Within.then ?_ (frame_modFe _ _ _) rfl rfl
              exact h8
          · refine Within.after ?_ (frame_calsDone _ _) (amongCons rfl (amongCons rfl (amongCons rfl (amongCons (amongW4 rfl) (amongCons (amongW4 rfl) (amongCons (amongW4 rfl) (amongCons (amongAt 29 rfl) (amongCons (amongW4 rfl) (amongCons (amongAt 32 rfl) (amongCons (amongW4 rfl) amongNil)))))))))) rfl
            refine Within.then ?_ (frame_modFe _ _ _) rfl rfl
            exact h8

theorem frame_rxTxElapsed (a0 : Nat) (s : State) :
    Within [.word 0x19 0xc4, .page 0x10, .word 0x24 0x64, .word 0x25 0x64, .word 0x26 0x64, .word 0x27 0x64, .word 0x24 0x60, .word 0x25 0x60, .word 0x26 0x60, .word 0x27 0x60, .word 0x24 0x68, .word 0x25 0x68, .word 0x26 0x68, .word 0x27 0x68, .word (0x8 + a0 % 4) 0x5c, .word (0x8 + a0 % 4) 0x4c] [.lanes, .fes] s (rxTxElapsed a0 s) := by
  unfold Machine.rxTxElapsed
  split
  · exact Within.refl _ _ _
  · refine Within.ite ?_ ?_
    · exact Within.refl _ _ _
    · extract_lets x0 x1 x2 x3
      refine Within.via x1 ?_ (fun h4 => ?_)
      · unfold x1
        refine Within.then ?_ (frame_modFe _ _ _) rfl rfl
        exact Within.refl _ _ _
      · clear_value x1
        refine Within.via x2 ?_ (fun h5 => ?_)
        · unfold x2
          refine Within.after ?_ (frame_setRf _ _ _) (amongCons rfl (amongCons (amongAt 14 rfl) (amongCons (amongAt 15 rfl) amongNil))) rfl
          exact h4
        · clear_value x2
          split
          · refine Within.inc ?_ (inScopes_of rfl)
            exact h5
          · exact h5
          · split
            · exact h5
            · extract_lets x6
              refine Within.ite ?_ ?_
              · exact h5
              · refine Within.peak ?_ (inScopes_of (amongW4 rfl))
                refine Within.wr ?_ (inScopes_of (amongW4 rfl))
                refine Within.inc ?_ (inScopes_of (amongW4 rfl))
                exact h5

theorem frame_backToPending (a0 : Nat) (s : State) :
    Within [.page 0x24, .page 0x25, .page 0x26, .page 0x27, .word 0x21 0x50, .word 0x21 0x4c, .page 0x1b, .word 0x20 0xdc, .word 0x20 0xd8, .word 0x20 0xd4, .word 0x20 0xd0, .word 0x19 0xb4, .word 0x21 0x14, .word 0x21 0x31c] [.nodes, .ddr, .ledger, .scheds, .fes, .duty, .frames] s (backToPending a0 s) := by
  unfold Machine.backToPending
  split
  · exact Within.refl _ _ _
  · split
    · refine Within.then ?_ (frame_endFrame _ _ _) rfl rfl
      exact Within.refl _ _ _
    · refine Within.ite ?_ ?_
      · refine Within.then ?_ (frame_endFrame _ _ _) rfl rfl
        exact Within.refl _ _ _
      · refine Within.ite ?_ ?_
        · refine Within.then ?_ (frame_endFrame _ _ _) rfl rfl
          refine Within.latch ?_ (inScopes_of rfl)
          refine Within.inc ?_ (inScopes_of rfl)
          exact Within.refl _ _ _
        · refine Within.then ?_ (frame_countPending _) rfl rfl
          refine Within.then ?_ (frame_syncPending _ _) rfl rfl
          refine Within.after ?_ (frame_recount _ _) (amongCons (amongP4 rfl) amongNil) rfl
          refine Within.then ?_ (frame_setFrame _ _ _) rfl rfl
          exact Within.refl _ _ _

theorem frame_answerGrant (a0 : Nat) (a1 : Bool) (s : State) :
    Within [.page 0x10, .page 0xd, .page 0x24, .page 0x25, .page 0x26, .page 0x27, .word 0x21 0x50, .word 0x21 0x4c, .page 0x1b, .word 0x20 0xdc, .word 0x20 0xd8, .word 0x20 0xd4, .word 0x20 0xd0, .word 0x19 0xb4, .word 0x21 0x14, .word 0x21 0x31c, .page 0x31, .word (0x8 + a0 % 4) 0x5c, .word (0x8 + a0 % 4) 0x4c] [.lanes, .fes, .scheds, .nodes, .ddr, .ledger, .duty, .frames] s (answerGrant a0 a1 s) := by
  unfold Machine.answerGrant
  split
  · exact Within.refl _ _ _
  · refine Within.ite ?_ ?_
    · exact Within.refl _ _ _
    · split
      · exact Within.refl _ _ _
      · extract_lets x0 x1
        refine Within.via x0 ?_ (fun h2 => ?_)
        · unfold x0
          refine Within.then ?_ (frame_paFalls _ _) rfl rfl
          refine Within.then ?_ (frame_modFe _ _ _) rfl rfl
          exact Within.refl _ _ _
        · clear_value x0
          refine Within.via x1 ?_ (fun h3 => ?_)
          · unfold x1
            refine Within.then ?_ (frame_dwellSettle _ _ _ _) rfl rfl
            exact h2
          · clear_value x1
            refine Within.after ?_ (frame_setRf _ _ _) (amongCons rfl (amongCons (amongAt 17 rfl) (amongCons (amongAt 18 rfl) amongNil))) rfl
            refine Within.inc ?_ (inScopes_of rfl)
            exact h3
      · extract_lets x4 x5
        refine Within.via x4 ?_ (fun h6 => ?_)
        · unfold x4
          refine Within.then ?_ (frame_paFalls _ _) rfl rfl
          refine Within.then ?_ (frame_modFe _ _ _) rfl rfl
          exact Within.refl _ _ _
        · clear_value x4
          refine Within.via x5 ?_ (fun h7 => ?_)
          · unfold x5
            refine Within.then ?_ (frame_dwellSettle _ _ _ _) rfl rfl
            refine Within.then ?_ (frame_freeEngine _ _) rfl rfl
            exact h6
          · clear_value x5
            refine Within.then ?_ (frame_backToPending _ _) rfl rfl
            refine Within.after ?_ (frame_setRf _ _ _) (amongCons rfl (amongCons (amongAt 17 rfl) (amongCons (amongAt 18 rfl) amongNil))) rfl
            refine Within.inc ?_ (inScopes_of rfl)
            exact h7

theorem frame_frameSent (a0 : Nat) (a1 : Tx) (s : State) :
    Within [.word 0x22 0x7c, .word 0x1a 0xe8, .page 0x24, .page 0x25, .page 0x26, .page 0x27, .word 0x21 0x50, .word 0x21 0x4c, .page 0x1b, .word 0x20 0xdc, .word 0x20 0xd8, .word 0x20 0xd4, .word 0x20 0xd0, .word 0x19 0xb4] [.frames, .nodes, .ddr, .ledger, .scheds, .fes, .duty] s (frameSent a0 a1 s) := by
  unfold Machine.frameSent
  split
  · exact Within.refl _ _ _
  · extract_lets x0 x1
    refine Within.via x0 ?_ (fun h2 => ?_)
    · unfold x0
      split
      · refine Within.inc ?_ (inScopes_of rfl)
        exact Within.refl _ _ _
      · exact Within.refl _ _ _
    · clear_value x0
      refine Within.via x1 ?_ (fun h3 => ?_)
      · unfold x1
        refine Within.ite ?_ ?_
        · refine Within.inc ?_ (inScopes_of rfl)
          exact h2
        · exact h2
      · clear_value x1
        refine Within.ite ?_ ?_
        · refine Within.then ?_ (frame_setFrame _ _ _) rfl rfl
          exact h3
        · refine Within.then ?_ (frame_endFrame _ _ _) rfl rfl
          exact h3

end Sys2Proof.Machine
end

