-- ==== Sys2Proof/Laws/OpsD.lean ====
section
/-! SUPPORT. What each operation can change, part 4 of 5: for every state, the registers and parts outside the named ones
are as before. -/

namespace Sys2Proof.Machine

set_option maxHeartbeats 1000000
set_option linter.unusedSimpArgs false
set_option linter.unusedTactic false
set_option linter.unreachableTactic false
set_option linter.unusedVariables false

theorem frame_txLastSymbol (a0 : Nat) (s : State) :
    Within [.word 0x22 0x7c, .word 0x1a 0xe8, .page 0x24, .page 0x25, .page 0x26, .page 0x27, .word 0x21 0x50, .word 0x21 0x4c, .page 0x1b, .word 0x20 0xdc, .word 0x20 0xd8, .word 0x20 0xd4, .word 0x20 0xd0, .word 0x19 0xb4, .page 0x10, .page 0x31, .word (0x8 + a0 % 4) 0x5c, .word (0x8 + a0 % 4) 0x4c] [.frames, .nodes, .ddr, .ledger, .scheds, .fes, .duty, .lanes] s (txLastSymbol a0 s) := by
  unfold Machine.txLastSymbol
  split
  · exact Within.refl _ _ _
  · refine Within.ite ?_ ?_
    · exact Within.refl _ _ _
    · extract_lets x0 x1
      refine Within.via x0 ?_ (fun h2 => ?_)
      · unfold x0
        refine Within.then ?_ (frame_advanceSeed _ _ _) rfl rfl
        refine Within.then ?_ (frame_freeEngine _ _) rfl rfl
        refine Within.then ?_ (frame_chargeTx _ _ _) rfl rfl
        exact Within.refl _ _ _
      · clear_value x0
        refine Within.via x1 ?_ (fun h3 => ?_)
        · unfold x1
          refine Within.after ?_ (frame_setRf _ _ _) (amongCons rfl (amongCons (amongAt 16 rfl) (amongCons (amongAt 17 rfl) amongNil))) rfl
          refine Within.then ?_ (frame_reqFalls _ _) rfl rfl
          refine Within.then ?_ (frame_modFe _ _ _) rfl rfl
          exact h2
        · clear_value x1
          split
          · refine Within.then ?_ (frame_frameSent _ _ _) rfl rfl
            exact h3
          · refine Within.then ?_ (frame_frameSent _ _ _) rfl rfl
            exact h3
          · exact h3

theorem frame_txRxElapsed (a0 : Nat) (s : State) :
    Within [.page 0x10, .page 0x11, .page 0x31, .page 0x1b, .word 0x20 0xdc, .word 0x20 0xd8, .word 0x20 0xd4, .word 0x20 0xd0, .word 0x19 0xa4, .word 0x19 0xa8, .word 0x19 0xac, .word 0x19 0xb0, .word 0x19 0xb4, .word 0x19 0xb8, .word 0xb 0x5c, .word 0xb 0x4c, .word (0x8 + a0 % 4) 0x5c, .word (0x8 + a0 % 4) 0x4c] [.fes, .lanes, .nodes, .ddr, .ledger] s (txRxElapsed a0 s) := by
  unfold Machine.txRxElapsed
  refine Within.ite ?_ ?_
  · exact Within.refl _ _ _
  · extract_lets x0 x1
    refine Within.via x1 ?_ (fun h2 => ?_)
    · unfold x1
      refine Within.then ?_ (frame_modFe _ _ _) rfl rfl
      exact Within.refl _ _ _
    · clear_value x1
      refine Within.ite ?_ ?_
      · refine Within.after ?_ (frame_setRf _ _ _) (amongCons rfl (amongCons (amongAt 16 rfl) (amongCons (amongAt 17 rfl) amongNil))) rfl
        exact h2
      · refine Within.ite ?_ ?_
        · refine Within.ite ?_ ?_
          · refine Within.after ?_ (frame_relock _ _) (amongCons rfl (amongCons (amongAt 16 rfl) (amongCons (amongAt 17 rfl) amongNil))) rfl
            exact h2
          · refine Within.after ?_ (frame_nextCal _ _) (amongCons rfl (amongCons (amongAt 16 rfl) (amongCons (amongAt 17 rfl) amongNil))) rfl
            exact h2
        · refine Within.after ?_ (frame_unrelievedStep _ _) (amongCons rfl (amongCons (amongAt 16 rfl) (amongCons (amongAt 17 rfl) amongNil))) rfl
          refine Within.after ?_ (frame_retuneStep _ _) (amongCons rfl (amongCons rfl (amongCons rfl (amongCons rfl (amongCons rfl (amongCons rfl (amongCons rfl (amongCons rfl (amongCons rfl (amongCons rfl (amongCons rfl (amongCons rfl (amongCons rfl (amongCons rfl (amongCons rfl (amongCons rfl (amongCons (amongAt 16 rfl) (amongCons (amongAt 17 rfl) amongNil)))))))))))))))))) rfl
          refine Within.after ?_ (frame_setRf _ _ _) (amongCons rfl (amongCons (amongAt 16 rfl) (amongCons (amongAt 17 rfl) amongNil))) rfl
          exact h2

theorem frame_lockRetry (a0 : Nat) (s : State) :
    Within [.page 0x10, .page 0x24, .page 0x25, .page 0x26, .page 0x27, .word 0x8 0x14, .word 0x9 0x14, .word 0xa 0x14, .word 0xb 0x14, .word 0x8 0x30, .word 0x9 0x30, .word 0xa 0x30, .word 0xb 0x30, .word 0x8 0x5c, .word 0x9 0x5c, .word 0xa 0x5c, .word 0xb 0x5c, .word 0x8 0x4c, .word 0x9 0x4c, .word 0xa 0x4c, .word 0xb 0x4c, .word 0x8 0x78, .word 0x9 0x78, .word 0xa 0x78, .word 0xb 0x78, .word 0xb 0x50, .word (0x8 + a0 % 4) 0x5c, .word (0x8 + a0 % 4) 0x4c, .word (0x8 + a0 % 4) 0x14, .word (0x8 + a0 % 4) 0xc, .word (0x8 + a0 % 4) 0x78, .word (0x8 + a0 % 4) 0x30] [.fes, .lanes, .frames, .scheds, .duty, .relief] s (lockRetry a0 s) := by
  unfold Machine.lockRetry
  refine Within.ite ?_ ?_
  · refine Within.after ?_ (frame_lockFailed _ _) (amongCons rfl (amongCons rfl (amongCons rfl (amongCons rfl (amongCons rfl (amongCons rfl (amongCons rfl (amongCons rfl (amongCons rfl (amongCons rfl (amongCons rfl (amongCons rfl (amongCons rfl (amongCons rfl (amongCons rfl (amongCons rfl (amongCons rfl (amongCons rfl (amongCons rfl (amongCons rfl (amongCons rfl (amongCons rfl (amongCons rfl (amongCons rfl (amongCons rfl (amongCons rfl (amongCons (amongW4 rfl) (amongCons (amongW4 rfl) (amongCons (amongW4 rfl) (amongCons (amongAt 29 rfl) (amongCons (amongW4 rfl) (amongCons (amongW4 rfl) amongNil)))))))))))))))))))))))))))))))) rfl
    exact Within.refl _ _ _
  · exact Within.refl _ _ _

theorem frame_calUnrelieved (a0 : Nat) (a1 : CalWhy) (s : State) :
    Within [.page 0x10, .page 0x24, .page 0x25, .page 0x26, .page 0x27, .word (0x8 + a0 % 4) 0x5c, .word (0x8 + a0 % 4) 0x4c] [.lanes, .fes, .frames, .scheds, .duty] s (calUnrelieved a0 a1 s) := by
  unfold Machine.calUnrelieved
  refine Within.after ?_ (frame_unrelievedStep _ _) (amongCons rfl (amongCons (amongAt 5 rfl) (amongCons (amongAt 6 rfl) amongNil))) rfl
  refine Within.then ?_ (frame_modFe _ _ _) rfl rfl
  refine Within.then ?_ (frame_holdCommitted _ _) rfl rfl
  exact Within.refl _ _ _

theorem frame_autoCal (a0 : Nat) (a1 : CalWhy) (s : State) :
    Within [.page 0x10, .page 0x24, .page 0x25, .page 0x26, .page 0x27, .word 0xb 0x5c, .word 0xb 0x4c, .word 0x8 0x14, .word 0x9 0x14, .word 0xa 0x14, .word 0xb 0x14, .word 0x8 0x30, .word 0x9 0x30, .word 0xa 0x30, .word 0xb 0x30, .word 0xb 0x50, .word 0x8 0x78, .word 0x9 0x78, .word 0xa 0x78, .word 0xb 0x78, .word (0x8 + a0 % 4) 0x5c, .word (0x8 + a0 % 4) 0x4c, .word (0x8 + a0 % 4) 0x78] [.lanes, .fes, .frames, .scheds, .duty, .relief] s (autoCal a0 a1 s) := by
  unfold Machine.autoCal
  extract_lets x0 x1 x2
  refine Within.via x2 ?_ (fun h3 => ?_)
  · unfold x2
    (unfold x1; beta_reduce)
    extract_lets x4
    refine Within.via x4 ?_ (fun h5 => ?_)
    · unfold x4
      refine Within.ite ?_ ?_
      · refine Within.wr ?_ (inScopes_of (amongW4 rfl))
        exact Within.refl _ _ _
      · refine Within.wr ?_ (inScopes_of (amongW4 rfl))
        exact Within.refl _ _ _
    · clear_value x4
      refine Within.then ?_ (frame_modFe _ _ _) rfl rfl
      exact h5
  · clear_value x2
    refine Within.ite ?_ ?_
    · exact Within.refl _ _ _
    · refine Within.ite ?_ ?_
      · refine Within.after ?_ (frame_calUnrelieved _ _ _) (amongCons rfl (amongCons rfl (amongCons rfl (amongCons rfl (amongCons rfl (amongCons (amongAt 20 rfl) (amongCons (amongAt 21 rfl) amongNil))))))) rfl
        exact Within.refl _ _ _
      · refine Within.ite ?_ ?_
        · refine Within.then ?_ (frame_needRelief _ _) rfl rfl
          exact Within.refl _ _ _
        · refine Within.set_reliefQueue ?_ (by decide)
          exact h3

theorem frame_tempTrigger (a0 : Nat) (s : State) :
    Within [.page 0x10, .page 0x24, .page 0x25, .page 0x26, .page 0x27, .word 0xb 0x5c, .word 0xb 0x4c, .word 0x8 0x14, .word 0x9 0x14, .word 0xa 0x14, .word 0xb 0x14, .word 0x8 0x30, .word 0x9 0x30, .word 0xa 0x30, .word 0xb 0x30, .word 0xb 0x50, .word 0x8 0x78, .word 0x9 0x78, .word 0xa 0x78, .word 0xb 0x78, .word (0x8 + a0 % 4) 0x5c, .word (0x8 + a0 % 4) 0x4c, .word (0x8 + a0 % 4) 0x78] [.lanes, .fes, .frames, .scheds, .duty, .relief] s (tempTrigger a0 s) := by
  unfold Machine.tempTrigger
  refine Within.ite ?_ ?_
  · exact Within.refl _ _ _
  · refine Within.ite ?_ ?_
    · exact Within.refl _ _ _
    · refine Within.after ?_ (frame_autoCal _ _ _) (amongCons rfl (amongCons rfl (amongCons rfl (amongCons rfl (amongCons rfl (amongCons rfl (amongCons rfl (amongCons rfl (amongCons rfl (amongCons rfl (amongCons rfl (amongCons rfl (amongCons rfl (amongCons rfl (amongCons rfl (amongCons rfl (amongCons rfl (amongCons rfl (amongCons rfl (amongCons rfl (amongCons (amongAt 20 rfl) (amongCons (amongAt 21 rfl) (amongCons (amongW4 rfl) amongNil))))))))))))))))))))))) rfl
      exact Within.refl _ _ _

theorem frame_iqTrigger (a0 : Nat) (s : State) :
    Within [.page 0x10, .page 0x24, .page 0x25, .page 0x26, .page 0x27, .word 0xb 0x5c, .word 0xb 0x4c, .word 0x8 0x14, .word 0x9 0x14, .word 0xa 0x14, .word 0xb 0x14, .word 0x8 0x30, .word 0x9 0x30, .word 0xa 0x30, .word 0xb 0x30, .word 0xb 0x50, .word 0x8 0x78, .word 0x9 0x78, .word 0xa 0x78, .word 0xb 0x78, .word (0x8 + a0 % 4) 0x5c, .word (0x8 + a0 % 4) 0x4c, .word (0x8 + a0 % 4) 0x78] [.lanes, .fes, .frames, .scheds, .duty, .relief] s (iqTrigger a0 s) := by
  unfold Machine.iqTrigger
  refine Within.ite ?_ ?_
  · exact Within.refl _ _ _
  · refine Within.after ?_ (frame_autoCal _ _ _) (amongCons rfl (amongCons rfl (amongCons rfl (amongCons rfl (amongCons rfl (amongCons rfl (amongCons rfl (amongCons rfl (amongCons rfl (amongCons rfl (amongCons rfl (amongCons rfl (amongCons rfl (amongCons rfl (amongCons rfl (amongCons rfl (amongCons rfl (amongCons rfl (amongCons rfl (amongCons rfl (amongCons (amongAt 20 rfl) (amongCons (amongAt 21 rfl) (amongCons (amongW4 rfl) amongNil))))))))))))))))))))))) rfl
    exact Within.refl _ _ _

theorem frame_calFail (a0 : Nat) (a1 : Nat) (s : State) :
    Within [.page 0x10, .page 0x24, .page 0x25, .page 0x26, .page 0x27, .word 0x8 0x14, .word 0x9 0x14, .word 0xa 0x14, .word 0xb 0x14, .word 0x8 0x30, .word 0x9 0x30, .word 0xa 0x30, .word 0xb 0x30, .word 0x8 0x5c, .word 0x9 0x5c, .word 0xa 0x5c, .word 0xb 0x5c, .word 0x8 0x4c, .word 0x9 0x4c, .word 0xa 0x4c, .word 0xb 0x4c, .word 0x8 0x78, .word 0x9 0x78, .word 0xa 0x78, .word 0xb 0x78, .word 0xb 0x50, .word (0x8 + a0 % 4) 0x5c, .word (0x8 + a0 % 4) 0x4c, .word (0x8 + a0 % 4) 0x14, .word (0x8 + a0 % 4) 0xc, .word (0x8 + a0 % 4) 0x78, .word (0x8 + a0 % 4) 0x30, .word (0x8 + a0 % 4) 0x7c] [.lanes, .fes, .frames, .scheds, .duty, .relief] s (calFail a0 a1 s) := by
  unfold Machine.calFail
  extract_lets x0 x1 x2 x3 x4 x5 x6 x7 x8 x9
  refine Within.via x8 ?_ (fun h10 => ?_)
  · unfold x8
    refine Within.latch ?_ (inScopes_of (amongW4 rfl))
    refine Within.wr ?_ (inScopes_of (amongW4 rfl))
    exact Within.refl _ _ _
  · clear_value x8
    refine Within.via x9 ?_ (fun h11 => ?_)
    · unfold x9
      refine Within.wr ?_ (inScopes_of (amongW4 rfl))
      exact h10
    · clear_value x9
      split
      · exact Within.refl _ _ _
      · split
        · refine Within.after ?_ (frame_feFault _ _ _) (amongCons rfl (amongCons rfl (amongCons rfl (amongCons rfl (amongCons rfl (amongCons rfl (amongCons rfl (amongCons rfl (amongCons rfl (amongCons rfl (amongCons rfl (amongCons rfl (amongCons rfl (amongCons rfl (amongCons rfl (amongCons rfl (amongCons rfl (amongCons rfl (amongCons rfl (amongCons rfl (amongCons rfl (amongCons rfl (amongCons rfl (amongCons rfl (amongCons rfl (amongCons rfl (amongCons (amongW4 rfl) (amongCons (amongW4 rfl) (amongCons (amongW4 rfl) (amongCons (amongAt 29 rfl) (amongCons (amongW4 rfl) (amongCons (amongW4 rfl) amongNil)))))))))))))))))))))))))))))))) rfl
          exact h10
        · refine Within.then ?_ (frame_reliefRefill _ _) rfl rfl
          refine Within.after ?_ (frame_feFault _ _ _) (amongCons rfl (amongCons rfl (amongCons rfl (amongCons rfl (amongCons rfl (amongCons rfl (amongCons rfl (amongCons rfl (amongCons rfl (amongCons rfl (amongCons rfl (amongCons rfl (amongCons rfl (amongCons rfl (amongCons rfl (amongCons rfl (amongCons rfl (amongCons rfl (amongCons rfl (amongCons rfl (amongCons rfl (amongCons rfl (amongCons rfl (amongCons rfl (amongCons rfl (amongCons rfl (amongCons (amongW4 rfl) (amongCons (amongW4 rfl) (amongCons (amongW4 rfl) (amongCons (amongAt 29 rfl) (amongCons (amongW4 rfl) (amongCons (amongW4 rfl) amongNil)))))))))))))))))))))))))))))))) rfl
          refine Within.after ?_ (frame_setTestResult _ _ _) (amongCons (amongW4 rfl) (amongCons (amongW4 rfl) amongNil)) rfl
          exact h10
        · extract_lets x12
          refine Within.via x12 ?_ (fun h13 => ?_)
          · unfold x12
            refine Within.then ?_ (frame_modFe _ _ _) rfl rfl
            exact h11
          · clear_value x12
            refine Within.ite ?_ ?_
            · refine Within.after ?_ (frame_calsDone _ _) (amongCons rfl (amongCons rfl (amongCons rfl (amongCons (amongW4 rfl) (amongCons (amongW4 rfl) (amongCons (amongW4 rfl) (amongCons (amongAt 29 rfl) (amongCons (amongW4 rfl) (amongCons (amongAt 32 rfl) (amongCons (amongW4 rfl) amongNil)))))))))) rfl
              exact h13
            · refine Within.after ?_ (frame_nextCal _ _) (amongCons rfl (amongCons (amongW4 rfl) (amongCons (amongW4 rfl) amongNil))) rfl
              exact h13

theorem frame_calDone (a0 : Nat) (a1 : Nat) (a2 : Nat) (s : State) :
    Within [.page 0x10, .word 0xb 0x5c, .word 0xb 0x4c, .page 0x24, .page 0x25, .page 0x26, .page 0x27, .word 0x8 0x14, .word 0x9 0x14, .word 0xa 0x14, .word 0xb 0x14, .word 0x8 0x30, .word 0x9 0x30, .word 0xa 0x30, .word 0xb 0x30, .word 0x8 0x5c, .word 0x9 0x5c, .word 0xa 0x5c, .word 0x8 0x4c, .word 0x9 0x4c, .word 0xa 0x4c, .word 0x8 0x78, .word 0x9 0x78, .word 0xa 0x78, .word 0xb 0x78, .word 0xb 0x50, .word (0x8 + a0 % 4) 0x5c, .word (0x8 + a0 % 4) 0x4c, .word (0x8 + a0 % 4) 0x14, .word (0x8 + a0 % 4) 0xc, .word (0x8 + a0 % 4) 0x78, .word (0x8 + a0 % 4) 0x7c, .word (0x8 + a0 % 4) 0x30, .word (0x8 + a0 % 4) 0x80, .word (0x8 + a0 % 4) 0x84, .word (0x8 + a0 % 4) 0x88, .word (0x8 + a0 % 4) 0x8c, .word (0x8 + a0 % 4) 0x90, .word (0x8 + a0 % 4) 0x94] [.lanes, .fes, .relief, .frames, .scheds, .duty] s (calDone a0 a1 a2 s) := by
  unfold Machine.calDone
  extract_lets x0 x1 x2 x3 x4 x5 x6 x7
  split
  · exact Within.refl _ _ _
  · exact Within.refl _ _ _
  · refine Within.ite ?_ ?_
    · exact Within.refl _ _ _
    · split
      · refine Within.after ?_ (frame_calPass _ _) (amongCons rfl (amongCons rfl (amongCons rfl (amongCons (amongW4 rfl) (amongCons (amongW4 rfl) (amongCons (amongW4 rfl) (amongCons (amongAt 29 rfl) (amongCons (amongW4 rfl) (amongCons (amongAt 31 rfl) (amongCons (amongW4 rfl) (amongCons (amongAt 33 rfl) amongNil))))))))))) rfl
        refine Within.after ?_ (frame_storeCal _ _ _ _ _) (amongCons (amongAt 34 rfl) (amongCons (amongAt 35 rfl) (amongCons (amongAt 36 rfl) (amongCons (amongAt 37 rfl) (amongCons (amongAt 38 rfl) amongNil))))) rfl
        exact Within.refl _ _ _
      · refine Within.ite ?_ ?_
        · refine Within.after ?_ (frame_calFail _ _ _) (amongCons rfl (amongCons rfl (amongCons rfl (amongCons rfl (amongCons rfl (amongCons rfl (amongCons rfl (amongCons rfl (amongCons rfl (amongCons rfl (amongCons rfl (amongCons rfl (amongCons rfl (amongCons rfl (amongCons rfl (amongCons rfl (amongCons rfl (amongCons rfl (amongCons rfl (amongCons rfl (amongCons rfl (amongCons rfl (amongCons rfl (amongCons rfl (amongCons rfl (amongCons rfl (amongCons (amongW4 rfl) (amongCons (amongW4 rfl) (amongCons (amongW4 rfl) (amongCons (amongAt 29 rfl) (amongCons (amongW4 rfl) (amongCons (amongW4 rfl) (amongCons (amongAt 31 rfl) amongNil))))))))))))))))))))))))))))))))) rfl
          exact Within.refl _ _ _
        · refine Within.after ?_ (frame_setRf _ _ _) (amongCons rfl (amongCons (amongW4 rfl) (amongCons (amongW4 rfl) amongNil))) rfl
          refine Within.then ?_ (frame_modFe _ _ _) rfl rfl
          exact Within.refl _ _ _

theorem frame_calRetry (a0 : Nat) (s : State) :
    Within [.page 0x10, .word 0xb 0x5c, .word 0xb 0x4c, .page 0x24, .page 0x25, .page 0x26, .page 0x27, .word 0x8 0x14, .word 0x9 0x14, .word 0xa 0x14, .word 0xb 0x14, .word 0x8 0x30, .word 0x9 0x30, .word 0xa 0x30, .word 0xb 0x30, .word 0xb 0x50, .word 0x8 0x78, .word 0x9 0x78, .word 0xa 0x78, .word 0xb 0x78, .word (0x8 + a0 % 4) 0x5c, .word (0x8 + a0 % 4) 0x4c] [.lanes, .fes, .frames, .scheds, .duty, .relief] s (calRetry a0 s) := by
  unfold Machine.calRetry
  extract_lets x0
  refine Within.ite ?_ ?_
  · exact Within.refl _ _ _
  · refine Within.ite ?_ ?_
    · refine Within.ite ?_ ?_
      · refine Within.then ?_ (frame_startCals _ _ _ _) rfl rfl
        exact Within.refl _ _ _
      · exact Within.refl _ _ _
    · refine Within.ite ?_ ?_
      · refine Within.after ?_ (frame_calUnrelieved _ _ _) (amongCons rfl (amongCons rfl (amongCons rfl (amongCons rfl (amongCons rfl (amongCons (amongAt 20 rfl) (amongCons (amongAt 21 rfl) amongNil))))))) rfl
        exact Within.refl _ _ _
      · refine Within.ite ?_ ?_
        · exact Within.refl _ _ _
        · refine Within.then ?_ (frame_needRelief _ _) rfl rfl
          exact Within.refl _ _ _

theorem frame_calOverdue (a0 : Nat) (s : State) :
    Within [.page 0x10, .page 0x24, .page 0x25, .page 0x26, .page 0x27, .word (0x8 + a0 % 4) 0x5c, .word (0x8 + a0 % 4) 0x4c, .word (0x8 + a0 % 4) 0x14, .word (0x8 + a0 % 4) 0x30, .word (0x8 + a0 % 4) 0x78] [.lanes, .fes, .frames, .scheds, .duty, .relief] s (calOverdue a0 s) := by
  unfold Machine.calOverdue
  extract_lets x0 x1 x2 x3 x4 x5
  refine Within.via x2 ?_ (fun h6 => ?_)
  · unfold x2
    refine Within.wr ?_ (inScopes_at 9 rfl)
    refine Within.wr ?_ (inScopes_at 9 rfl)
    exact Within.refl _ _ _
  · clear_value x2
    refine Within.via x3 ?_ (fun h7 => ?_)
    · unfold x3
      refine Within.wr ?_ (inScopes_at 8 rfl)
      exact h6
    · clear_value x3
      refine Within.via x4 ?_ (fun h8 => ?_)
      · unfold x4
        refine Within.latch ?_ (inScopes_at 7 rfl)
        exact h7
      · clear_value x4
        refine Within.via x5 ?_ (fun h9 => ?_)
        · unfold x5
          refine Within.set_reliefQueue ?_ (by decide)
          exact h8
        · clear_value x5
          refine Within.ite ?_ ?_
          · refine Within.ite ?_ ?_
            · refine Within.after ?_ (frame_calUnrelieved _ _ _) (amongCons rfl (amongCons rfl (amongCons rfl (amongCons rfl (amongCons rfl (amongCons (amongAt 5 rfl) (amongCons (amongAt 6 rfl) amongNil))))))) rfl
              exact h9
            · exact h8
          · exact Within.refl _ _ _

theorem frame_raiseReq (a0 : Nat) (a1 : Bool) (s : State) :
    Within [.page 0xd] [.fes] s (raiseReq a0 a1 s) := by
  unfold Machine.raiseReq
  refine Within.ite ?_ ?_
  · refine Within.then ?_ (frame_modFe _ _ _) rfl rfl
    refine Within.inc ?_ (inScopes_of rfl)
    exact Within.refl _ _ _
  · exact Within.refl _ _ _

theorem frame_commitReq (a0 : Nat) (a1 : Nat) (s : State) :
    Within [.page 0xd] [.fes] s (commitReq a0 a1 s) := by
  unfold Machine.commitReq
  split
  · refine Within.then ?_ (frame_raiseReq _ _ _) rfl rfl
    exact Within.refl _ _ _
  · exact Within.refl _ _ _

theorem frame_moveReq (a0 : Nat) (a1 : Nat) (s : State) :
    Within [.page 0xd] [.fes] s (moveReq a0 a1 s) := by
  unfold Machine.moveReq
  split
  · refine Within.then ?_ (frame_commitReq _ _ _) rfl rfl
    refine Within.then ?_ (frame_lowerReq _ _) rfl rfl
    exact Within.refl _ _ _
  · exact Within.refl _ _ _

theorem frame_handOver (s : State) :
    Within [.page 0xd, .page 0x10, .word 0xb 0x5c, .word 0x8 0x5c, .word 0x9 0x5c, .word 0xa 0x5c, .word 0x8 0x4c, .word 0x9 0x4c, .word 0xa 0x4c, .word 0xb 0x4c, .word 0x8 0x14, .word 0x9 0x14, .word 0xa 0x14, .word 0xb 0x14] [.fes, .lanes, .relief] s (handOver s) := by
  unfold Machine.handOver
  split
  · refine Within.ite ?_ ?_
    · extract_lets x0 x1
      refine Within.via x0 ?_ (fun h2 => ?_)
      · unfold x0
        refine Within.set_relief ?_ (by decide)
        exact Within.refl _ _ _
      · clear_value x0
        refine Within.via x1 ?_ (fun h3 => ?_)
        · unfold x1
          refine Within.wr ?_ (inScopes_of rfl)
          refine Within.latch ?_ (inScopes_of (amongW4 rfl))
          exact h2
        · clear_value x1
          refine Within.then ?_ (frame_moveReq _ _ _) rfl rfl
          refine Within.then ?_ (frame_refreshListen _) rfl rfl
          refine Within.then ?_ (frame_showLines _ _) rfl rfl
          refine Within.after ?_ (frame_setRf _ _ _) (amongCons rfl (amongCons (amongW4 rfl) (amongCons (amongW4 rfl) amongNil))) rfl
          exact h3
    · exact Within.refl _ _ _
  · exact Within.refl _ _ _

theorem frame_relievedLanesEnded (s : State) :
    Within [.page 0x10, .word 0x8 0x14, .word 0x9 0x14, .word 0xa 0x14, .word 0xb 0x14, .word 0x8 0x30, .word 0x9 0x30, .word 0xa 0x30, .word 0xb 0x30, .word 0x8 0x5c, .word 0x9 0x5c, .word 0xa 0x5c, .word 0xb 0x5c, .word 0x8 0x4c, .word 0x9 0x4c, .word 0xa 0x4c, .word 0xb 0x4c, .word 0x8 0x78, .word 0x9 0x78, .word 0xa 0x78, .word 0xb 0x78, .word 0x8 0xc, .word 0x9 0xc, .word 0xa 0xc, .word 0xb 0xc] [.lanes, .fes, .relief] s (relievedLanesEnded s) := by
  unfold Machine.relievedLanesEnded
  split
  · refine Within.ite ?_ ?_
    · refine Within.ite ?_ ?_
      · extract_lets x0
        refine Within.via x0 ?_ (fun h1 => ?_)
        · unfold x0
          refine Within.after ?_ (frame_setRf _ _ _) (amongCons rfl (amongCons (amongW4 rfl) (amongCons (amongW4 rfl) amongNil))) rfl
          refine Within.set_relief ?_ (by decide)
          exact Within.refl _ _ _
        · clear_value x0
          refine Within.then ?_ (frame_refreshListen _) rfl rfl
          refine Within.ite ?_ ?_
          · refine Within.after ?_ (frame_setTestResult _ _ _) (amongCons (amongW4 rfl) (amongCons (amongW4 rfl) amongNil)) rfl
            exact h1
          · refine Within.ite ?_ ?_
            · refine Within.wr ?_ (inScopes_of (amongW4 rfl))
              exact h1
            · exact h1
      · extract_lets x2 x3
        refine Within.via x2 ?_ (fun h4 => ?_)
        · unfold x2
          refine Within.set_relief ?_ (by decide)
          exact Within.refl _ _ _
        · clear_value x2
          refine Within.via x3 ?_ (fun h5 => ?_)
          · unfold x3
            refine Within.ite ?_ ?_
            · refine Within.after ?_ (frame_setPageState _ _ _) (amongCons (amongW4 rfl) (amongCons (amongW4 rfl) amongNil)) rfl
              refine Within.then ?_ (frame_modFe _ _ _) rfl rfl
              exact h4
            · exact h4
          · clear_value x3
            refine Within.after ?_ (frame_startCals _ _ _ _) (amongCons rfl (amongCons (amongW4 rfl) (amongCons (amongW4 rfl) amongNil))) rfl
            exact h5
    · exact Within.refl _ _ _
  · exact Within.refl _ _ _

theorem frame_handback (s : State) :
    Within [.page 0xd, .page 0x10, .word 0x8 0x14, .word 0x9 0x14, .word 0xa 0x14, .word 0xb 0x14] [.fes, .relief] s (handback s) := by
  unfold Machine.handback
  split
  · refine Within.ite ?_ ?_
    · refine Within.then ?_ (frame_moveReq _ _ _) rfl rfl
      refine Within.then ?_ (frame_refreshListen _) rfl rfl
      refine Within.latch ?_ (inScopes_of (amongW4 rfl))
      refine Within.set_relief ?_ (by decide)
      exact Within.refl _ _ _
    · exact Within.refl _ _ _
  · exact Within.refl _ _ _

theorem frame_reliefOver (s : State) :
    Within [.page 0x10, .word 0xb 0x5c, .word 0xb 0x4c, .word 0x8 0x14, .word 0x9 0x14, .word 0xa 0x14, .word 0xb 0x14, .word 0x8 0x30, .word 0x9 0x30, .word 0xa 0x30, .word 0xb 0x30, .word 0xb 0x50, .word 0x8 0x78, .word 0x9 0x78, .word 0xa 0x78, .word 0xb 0x78] [.lanes, .fes, .relief] s (reliefOver s) := by
  unfold Machine.reliefOver
  split
  · refine Within.ite ?_ ?_
    · refine Within.then ?_ (frame_serveRelief _) rfl rfl
      refine Within.then ?_ (frame_refreshListen _) rfl rfl
      refine Within.then ?_ (frame_setRf _ _ _) rfl rfl
      refine Within.then ?_ (frame_dropRelief _) rfl rfl
      exact Within.refl _ _ _
    · exact Within.refl _ _ _
  · exact Within.refl _ _ _

theorem frame_forcedStep (a0 : Nat) (s : State) :
    Within [.page 0x10] [.fes, .lanes] s (forcedStep a0 s) := by
  unfold Machine.forcedStep
  extract_lets x0 x1 x2 x3 x4
  refine Within.via x0 ?_ (fun h5 => ?_)
  · unfold x0
    refine Within.latch ?_ (inScopes_of rfl)
    refine Within.then ?_ (frame_modFe _ _ _) rfl rfl
    exact Within.refl _ _ _
  · clear_value x0
    refine Within.via x3 ?_ (fun h6 => ?_)
    · unfold x3
      refine Within.then ?_ (frame_setGain _ _ _) rfl rfl
      exact h5
    · clear_value x3
      refine Within.via x4 ?_ (fun h7 => ?_)
      · unfold x4
        refine Within.then ?_ (frame_modFe _ _ _) rfl rfl
        exact h6
      · clear_value x4
        refine Within.ite ?_ ?_
        · exact h5
        · refine Within.ite ?_ ?_
          · (unfold x2; beta_reduce)
            refine Within.then ?_ (frame_changeLanes _ _ _) rfl rfl
            exact h5
          · (unfold x2; beta_reduce)
            refine Within.then ?_ (frame_changeLanes _ _ _) rfl rfl
            refine Within.latch ?_ (inScopes_of rfl)
            refine Within.inc ?_ (inScopes_of rfl)
            exact h7

theorem frame_ltSaturation (s : State) :
    Within [.page 0x10, .word 0xb 0x9c] [.fes, .lanes] s (ltSaturation s) := by
  unfold Machine.ltSaturation
  extract_lets x0 x1
  refine Within.via x1 ?_ (fun h2 => ?_)
  · unfold x1
    refine Within.then ?_ (frame_modFe _ _ _) rfl rfl
    exact Within.refl _ _ _
  · clear_value x1
    refine Within.ite ?_ ?_
    · refine Within.then ?_ (frame_refreshListen _) rfl rfl
      refine Within.then ?_ (frame_forcedStep _ _) rfl rfl
      refine Within.wr ?_ (inScopes_of rfl)
      exact h2
    · exact Within.refl _ _ _

theorem frame_dwellStop (a0 : Nat) (s : State) :
    Within [.page 0x24, .page 0x25, .page 0x26, .page 0x27, .word 0x21 0x50, .word 0x21 0x4c, .page 0x1b, .word 0x20 0xdc, .word 0x20 0xd8, .word 0x20 0xd4, .word 0x20 0xd0, .word 0x19 0xb4, .page 0x10, .page 0x31, .word (0x8 + a0 % 4) 0x5c, .word (0x8 + a0 % 4) 0x4c] [.nodes, .ddr, .ledger, .scheds, .fes, .duty, .frames, .lanes] s (dwellStop a0 s) := by
  unfold Machine.dwellStop
  refine Within.ite ?_ ?_
  · refine Within.after ?_ (frame_cutTx _ _ _) (amongCons rfl (amongCons rfl (amongCons rfl (amongCons rfl (amongCons rfl (amongCons rfl (amongCons rfl (amongCons rfl (amongCons rfl (amongCons rfl (amongCons rfl (amongCons rfl (amongCons rfl (amongCons rfl (amongCons (amongAt 14 rfl) (amongCons (amongAt 15 rfl) amongNil)))))))))))))))) rfl
    exact Within.refl _ _ _
  · exact Within.refl _ _ _

theorem frame_progDone (a0 : Bool) (s : State) :
    Within [.word 0xc 0x40] [.banks, .boot] s (progDone a0 s) := by
  unfold Machine.progDone
  refine Within.ite ?_ ?_
  · exact Within.refl _ _ _
  · split
    · exact Within.refl _ _ _
    · extract_lets x0 x1 x2 x3
      refine Within.via x2 ?_ (fun h4 => ?_)
      · unfold x2
        refine Within.upd (by (try dsimp only) <;> exact rfl) (fun p hp => by cases p <;> first | rfl | exact ⟨rfl, rfl⟩ | exact ⟨rfl, rfl, rfl⟩ | exact absurd (by decide) hp) ?_
        exact Within.refl _ _ _
      · clear_value x2
        refine Within.via x3 ?_ (fun h5 => ?_)
        · unfold x3
          refine Within.orBits ?_ (inScopes_of rfl)
          refine Within.wr ?_ (inScopes_of rfl)
          exact h4
        · clear_value x3
          refine Within.wr ?_ (inScopes_of rfl)
          exact h5

theorem frame_heldBy (a0 : Nat) (a1 : Held) (s : State) :
    Within [] [.frames] s (heldBy a0 a1 s) := by
  unfold Machine.heldBy
  refine Within.then ?_ (frame_modFrame _ _ _) rfl rfl
  exact Within.refl _ _ _

theorem frame_markSkipped (a0 : Nat) (s : State) :
    Within [.word 0x19 0x14, .word 0x19 0xf0, .page 0x1b, .word 0x20 0xdc, .word 0x20 0xd8, .word 0x20 0xd4, .word 0x20 0xd0] [.nodes, .ddr] s (markSkipped a0 s) := by
  unfold Machine.markSkipped
  refine Within.latch ?_ (inScopes_of rfl)
  refine Within.inc ?_ (inScopes_of rfl)
  refine Within.then ?_ (frame_modNode _ _ _) rfl rfl
  exact Within.refl _ _ _

theorem frame_refusedStart (a0 : Nat) (a1 : Disp) (s : State) :
    Within [.page 0x24, .page 0x25, .page 0x26, .page 0x27, .word 0x21 0x50, .word 0x21 0x4c, .page 0x1b, .word 0x20 0xdc, .word 0x20 0xd8, .word 0x20 0xd4, .word 0x20 0xd0, .word 0x19 0xb4, .word 0x19 0x14, .word 0x19 0xf0] [.nodes, .ddr, .ledger, .scheds, .fes, .duty, .frames] s (refusedStart a0 a1 s) := by
  unfold Machine.refusedStart
  split
  · exact Within.refl _ _ _
  · split
    · refine Within.then ?_ (frame_endFrame _ _ _) rfl rfl
      refine Within.then ?_ (frame_markSkipped _ _) rfl rfl
      exact Within.refl _ _ _
    · refine Within.then ?_ (frame_endFrame _ _ _) rfl rfl
      exact Within.refl _ _ _

theorem frame_skipAppointment (a0 : Nat) (a1 : Nat) (s : State) :
    Within [.word 0x19 0x14, .word 0x19 0xf0, .page 0x1b, .word 0x20 0xdc, .word 0x20 0xd8, .word 0x20 0xd4, .word 0x20 0xd0, .word 0x21 0x50, .word 0x21 0x4c, .page 0x24, .page 0x25, .page 0x26, .page 0x27] [.nodes, .ddr, .frames, .scheds, .fes, .duty] s (skipAppointment a0 a1 s) := by
  unfold Machine.skipAppointment
  extract_lets x0
  refine Within.via x0 ?_ (fun h1 => ?_)
  · unfold x0
    refine Within.then ?_ (frame_markSkipped _ _) rfl rfl
    exact Within.refl _ _ _
  · clear_value x0
    split
    · exact h1
    · extract_lets x2 x3
      refine Within.via x2 ?_ (fun h4 => ?_)
      · unfold x2
        refine Within.then ?_ (frame_leaveCommitted _ _ _) rfl rfl
        refine Within.then ?_ (frame_dutyRelease _ _) rfl rfl
        exact h1
      · clear_value x2
        refine Within.via x3 ?_ (fun h5 => ?_)
        · unfold x3
          refine Within.then ?_ (frame_setFrame _ _ _) rfl rfl
          exact h4
        · clear_value x3
          refine Within.then ?_ (frame_countPending _) rfl rfl
          refine Within.then ?_ (frame_syncPending _ _) rfl rfl
          refine Within.after ?_ (frame_recount _ _) (amongCons (amongP4 rfl) amongNil) rfl
          exact h5

theorem frame_slipExpiry (a0 : Nat) (s : State) :
    Within [.word 0x19 0x14, .word 0x19 0xf0, .page 0x1b, .word 0x20 0xdc, .word 0x20 0xd8, .word 0x20 0xd4, .word 0x20 0xd0, .word 0x21 0x50, .word 0x21 0x4c, .page 0x24, .page 0x25, .page 0x26, .page 0x27, .page 0xd, .word 0x19 0xb4, .word 0x1a 0x14, .word 0x1a 0xe4] [.nodes, .ddr, .frames, .scheds, .fes, .duty, .ledger] s (slipExpiry a0 s) := by
  unfold Machine.slipExpiry
  split
  · exact Within.refl _ _ _
  · split
    · extract_lets x0 x1
      refine Within.via x0 ?_ (fun h2 => ?_)
      · unfold x0
        split
        · refine Within.latch ?_ (inScopes_of rfl)
          refine Within.inc ?_ (inScopes_of rfl)
          exact Within.refl _ _ _
        · exact Within.refl _ _ _
      · clear_value x0
        refine Within.via x1 ?_ (fun h3 => ?_)
        · unfold x1
          split
          · refine Within.latch ?_ (inScopes_of rfl)
            refine Within.inc ?_ (inScopes_of rfl)
            exact h2
          · exact h2
        · clear_value x1
          refine Within.ite ?_ ?_
          · split
            · refine Within.then ?_ (frame_skipAppointment _ _ _) rfl rfl
              exact h2
            · refine Within.then ?_ (frame_endFrame _ _ _) rfl rfl
              exact h2
          · split
            · refine Within.then ?_ (frame_endFrame _ _ _) rfl rfl
              exact h2
            · refine Within.then ?_ (frame_endFrame _ _ _) rfl rfl
              exact h2
            · refine Within.then ?_ (frame_endFrame _ _ _) rfl rfl
              exact h3
    · exact Within.refl _ _ _

theorem frame_cannotStart (a0 : Nat) (a1 : Disp) (s : State) :
    Within [.word 0x19 0x14, .word 0x19 0xf0, .page 0x1b, .word 0x20 0xdc, .word 0x20 0xd8, .word 0x20 0xd4, .word 0x20 0xd0, .word 0x21 0x50, .word 0x21 0x4c, .page 0x24, .page 0x25, .page 0x26, .page 0x27, .word 0x19 0xb4] [.nodes, .ddr, .frames, .scheds, .fes, .duty, .ledger] s (cannotStart a0 a1 s) := by
  unfold Machine.cannotStart
  split
  · exact Within.refl _ _ _
  · split
    · refine Within.then ?_ (frame_skipAppointment _ _ _) rfl rfl
      exact Within.refl _ _ _
    · refine Within.then ?_ (frame_endFrame _ _ _) rfl rfl
      exact Within.refl _ _ _

theorem frame_notePower (a0 : Nat) (a1 : Nat) (a2 : ℤ) (s : State) :
    Within [.word (0x8 + a0 % 4) 0x68] [] s (notePower a0 a1 a2 s) := by
  unfold Machine.notePower
  refine Within.wrInt ?_ (inScopes_of (by simp [Scope.among, fePage, schedPage, ethPage, ethStatPage, F.FE.TX_STATUS_REQUESTED]))
  refine Within.wrInt ?_ (inScopes_of (by simp [Scope.among, fePage, schedPage, ethPage, ethStatPage, F.FE.TX_STATUS_CEILING]))
  exact Within.refl _ _ _

theorem frame_refusePower (a0 : Nat) (a1 : Nat) (a2 : ℤ) (s : State) :
    Within [.word 0xc 0x14, .word 0xc 0x4c, .word (0x8 + a0 % 4) 0x68] [] s (refusePower a0 a1 a2 s) := by
  unfold Machine.refusePower
  refine Within.then ?_ (frame_regCeiling _) rfl rfl
  refine Within.wrInt ?_ (inScopes_of (by simp [Scope.among, fePage, schedPage, ethPage, ethStatPage, F.FE.TX_STATUS_APPLIED]))
  refine Within.after ?_ (frame_notePower _ _ _ _) (amongCons (by simp [Scope.among, fePage, schedPage, ethPage, ethStatPage]) amongNil) rfl
  exact Within.refl _ _ _

theorem frame_keyCheck (a0 : Frame) (s : State) :
    Within [] [.slots] s ((keyCheck a0 s).2) := by
  unfold Machine.keyCheck
  split
  · dsimp only
    exact Within.refl _ _ _
  · generalize e0 : Machine.useSlot _ _ _ _ = p1
    obtain ⟨_, _⟩ := p1
    refine Within.viaEq ?_ e0 (fun h2 => ?_)
    · refine Within.then ?_ (frame_useSlot _ _ _ _) rfl rfl
      exact Within.refl _ _ _
    · split
      · dsimp only
        rename_i e6
        refine Within.viaEq ?_ e6 (fun h7 => ?_)
        · dsimp only
          exact h2
        · exact h7
      · dsimp only
        rename_i e8
        refine Within.viaEq ?_ e8 (fun h9 => ?_)
        · dsimp only
          exact h2
        · exact h9
      · dsimp only
        rename_i e10
        refine Within.viaEq ?_ e10 (fun h11 => ?_)
        · dsimp only
          exact h2
        · exact h11

theorem frame_takeCounter (a0 : Nat) (s : State) :
    Within [.word 0x19 0x14, .word 0x19 0x90, .word 0x30 0xac] [.slots] s ((takeCounter a0 s).2) := by
  unfold Machine.takeCounter
  extract_lets x0 x1 x2 x3
  refine Within.via x1 ?_ (fun h4 => ?_)
  · unfold x1
    refine Within.latch ?_ (inScopes_of rfl)
    refine Within.wr ?_ (inScopes_of rfl)
    exact Within.refl _ _ _
  · clear_value x1
    refine Within.via x2 ?_ (fun h5 => ?_)
    · unfold x2
      refine Within.ite ?_ ?_
      · refine Within.latch ?_ (inScopes_of rfl)
        refine Within.wr ?_ (inScopes_of rfl)
        exact Within.refl _ _ _
      · exact Within.refl _ _ _
    · clear_value x2
      refine Within.via x3 ?_ (fun h6 => ?_)
      · unfold x3
        refine Within.then ?_ (frame_modSlot _ _ _) rfl rfl
        exact h5
      · clear_value x3
        split
        · dsimp only
          exact h4
        · split
          · dsimp only
            refine Within.inc ?_ (inScopes_of rfl)
            exact Within.refl _ _ _
          · dsimp only
            exact h6

theorem frame_takeKey (a0 : Frame) (s : State) :
    Within [.word 0x19 0x14, .word 0x19 0x90, .word 0x30 0xac] [.slots] s ((takeKey a0 s).2) := by
  unfold Machine.takeKey
  split
  · dsimp only
    exact Within.refl _ _ _
  · generalize e0 : Machine.keyCheck _ _ = p1
    obtain ⟨_, _⟩ := p1
    refine Within.viaEq ?_ e0 (fun h2 => ?_)
    · refine Within.then ?_ (frame_keyCheck _ _) rfl rfl
      exact Within.refl _ _ _
    · split
      · dsimp only
        rename_i e6
        refine Within.viaEq ?_ e6 (fun h7 => ?_)
        · dsimp only
          exact h2
        · exact h7
      · generalize e8 : Machine.takeCounter _ _ = p9
        obtain ⟨_, _⟩ := p9
        refine Within.viaEq ?_ e8 (fun h10 => ?_)
        · refine Within.then ?_ (frame_takeCounter _ _) rfl rfl
          rename_i e11 _ _
          refine Within.viaEq ?_ e11 (fun h12 => ?_)
          · dsimp only
            exact h2
          · exact h12
        · split
          · dsimp only
            rename_i e16
            refine Within.viaEq ?_ e16 (fun h17 => ?_)
            · dsimp only
              exact h10
            · exact h17
          · dsimp only
            rename_i e18
            refine Within.viaEq ?_ e18 (fun h19 => ?_)
            · dsimp only
              exact h10
            · exact h19
          · dsimp only
            rename_i e20
            refine Within.viaEq ?_ e20 (fun h21 => ?_)
            · dsimp only
              exact h10
            · exact h21

theorem frame_assignSeq (a0 : Nat) (a1 : Frame) (s : State) :
    Within [.page 0x19] [.frames] s ((assignSeq a0 a1 s).2) := by
  unfold Machine.assignSeq
  split
  · dsimp only
    exact Within.refl _ _ _
  · extract_lets x0
    dsimp only
    refine Within.then ?_ (frame_modFrame _ _ _) rfl rfl
    refine Within.wr ?_ (inScopes_of rfl)
    exact Within.refl _ _ _
  · dsimp only
    exact Within.refl _ _ _

theorem frame_storePending (a0 : Nat) (s : State) :
    Within [.page 0x24, .page 0x25, .page 0x26, .page 0x27, .word 0x21 0x50, .word 0x21 0x4c, .page 0x1b, .word 0x20 0xdc, .word 0x20 0xd8, .word 0x20 0xd4, .word 0x20 0xd0, .word 0x19 0xb4, .word 0x21 0x320, .word 0x21 0x310] [.nodes, .ddr, .ledger, .scheds, .fes, .duty, .frames] s (storePending a0 s) := by
  unfold Machine.storePending
  split
  · exact Within.refl _ _ _
  · split
    · refine Within.then ?_ (frame_endFrame _ _ _) rfl rfl
      exact Within.refl _ _ _
    · refine Within.ite ?_ ?_
      · exact Within.refl _ _ _
      · refine Within.ite ?_ ?_
        · refine Within.then ?_ (frame_endFrame _ _ _) rfl rfl
          exact Within.refl _ _ _
        · refine Within.ite ?_ ?_
          · refine Within.then ?_ (frame_endFrame _ _ _) rfl rfl
            exact Within.refl _ _ _
          · refine Within.ite ?_ ?_
            · refine Within.then ?_ (frame_endFrame _ _ _) rfl rfl
              refine Within.inc ?_ (inScopes_of rfl)
              exact Within.refl _ _ _
            · extract_lets x0 x1 x2 x3
              refine Within.via x0 ?_ (fun h4 => ?_)
              · unfold x0
                refine Within.then ?_ (frame_setFrame _ _ _) rfl rfl
                exact Within.refl _ _ _
              · clear_value x0
                refine Within.via x1 ?_ (fun h5 => ?_)
                · unfold x1
                  refine Within.then ?_ (frame_countPending _) rfl rfl
                  refine Within.then ?_ (frame_syncPending _ _) rfl rfl
                  refine Within.after ?_ (frame_recount _ _) (amongCons (amongP4 rfl) amongNil) rfl
                  exact h4
                · clear_value x1
                  refine Within.via x2 ?_ (fun h6 => ?_)
                  · unfold x2
                    refine Within.inc ?_ (inScopes_of rfl)
                    exact h5
                  · clear_value x2
                    refine Within.via x3 ?_ (fun h7 => ?_)
                    · unfold x3
                      refine Within.inc ?_ (inScopes_of rfl)
                      exact h6
                    · clear_value x3
                      refine Within.ite ?_ ?_
                      · split
                        · refine Within.then ?_ (frame_endFrame _ _ _) rfl rfl
                          exact h7
                        · exact h7
                      · exact h6

theorem frame_unmatched (a0 : Nat) (s : State) :
    Within [.page 0x24, .page 0x25, .page 0x26, .page 0x27, .word 0x21 0x50, .word 0x21 0x4c, .page 0x1b, .word 0x20 0xdc, .word 0x20 0xd8, .word 0x20 0xd4, .word 0x20 0xd0, .word 0x19 0xb4, .word 0x21 0x14, .word 0x21 0x31c, .word 0x19 0xf4, .word 0x21 0x320, .word 0x21 0x310] [.nodes, .ddr, .ledger, .scheds, .fes, .duty, .frames] s (unmatched a0 s) := by
  unfold Machine.unmatched
  split
  · exact Within.refl _ _ _
  · refine Within.ite ?_ ?_
    · exact Within.refl _ _ _
    · refine Within.ite ?_ ?_
      · refine Within.then ?_ (frame_backToPending _ _) rfl rfl
        exact Within.refl _ _ _
      · refine Within.ite ?_ ?_
        · refine Within.then ?_ (frame_requeueHead _ _) rfl rfl
          refine Within.inc ?_ (inScopes_of rfl)
          exact Within.refl _ _ _
        · refine Within.ite ?_ ?_
          · refine Within.then ?_ (frame_storePending _ _) rfl rfl
            exact Within.refl _ _ _
          · refine Within.then ?_ (frame_endFrame _ _ _) rfl rfl
            exact Within.refl _ _ _

theorem frame_closeWait (a0 : Nat) (s : State) :
    Within [.page 0x24, .page 0x25, .page 0x26, .page 0x27, .word 0x21 0x50, .word 0x21 0x4c, .page 0x1b, .word 0x20 0xdc, .word 0x20 0xd8, .word 0x20 0xd4, .word 0x20 0xd0, .word 0x19 0xb4, .word 0x21 0x14, .word 0x21 0x31c, .word 0x19 0xf4, .word 0x21 0x320, .word 0x21 0x310] [.nodes, .ddr, .ledger, .scheds, .fes, .duty, .frames] s (closeWait a0 s) := by
  unfold Machine.closeWait
  split
  · refine Within.then ?_ (frame_unmatched _ _) rfl rfl
    exact Within.refl _ _ _
  · exact Within.refl _ _ _

theorem frame_preemptLanes (a0 : Nat) (a1 : Nat) (a2 : Nat) (s : State) :
    Within [.page 0x10, .page 0x11, .page 0x31, .page 0x1b, .word 0x20 0xdc, .word 0x20 0xd8, .word 0x20 0xd4, .word 0x20 0xd0, .word 0x19 0xa4, .word 0x19 0xa8, .word 0x19 0xac, .word 0x19 0xb0, .word 0x19 0xb4, .word 0x19 0xb8] [.lanes, .fes, .nodes, .ddr, .ledger] s (preemptLanes a0 a1 a2 s) := by
  unfold Machine.preemptLanes
  extract_lets x0
  refine Within.ite ?_ ?_
  · refine Within.then ?_ (frame_endLanes _ _ _) rfl rfl
    exact Within.refl _ _ _
  · refine Within.then ?_ (frame_endLanes _ _ _) rfl rfl
    exact Within.refl _ _ _

theorem frame_enterRxTx (a0 : Nat) (a1 : Tx) (s : State) :
    Within [.page 0x10, .page 0x11, .page 0x31, .page 0x1b, .word 0x20 0xdc, .word 0x20 0xd8, .word 0x20 0xd4, .word 0x20 0xd0, .word 0x19 0xa4, .word 0x19 0xa8, .word 0x19 0xac, .word 0x19 0xb0, .word 0x19 0xb4, .word 0x19 0xb8, .word (0x8 + a0 % 4) 0x5c, .word (0x8 + a0 % 4) 0x4c] [.lanes, .fes, .nodes, .ddr, .ledger] s (enterRxTx a0 a1 s) := by
  unfold Machine.enterRxTx
  extract_lets x0
  refine Within.via x0 ?_ (fun h1 => ?_)
  · unfold x0
    refine Within.then ?_ (frame_preemptLanes _ _ _ _) rfl rfl
    exact Within.refl _ _ _
  · clear_value x0
    refine Within.after ?_ (frame_setRf _ _ _) (amongCons rfl (amongCons (amongAt 14 rfl) (amongCons (amongAt 15 rfl) amongNil))) rfl
    refine Within.then ?_ (frame_modFe _ _ _) rfl rfl
    exact h1

theorem frame_startPower (a0 : Nat) (a1 : Nat) (a2 : ℤ) (s : State) :
    Within [.word 0xc 0x14, .word 0xc 0x4c, .word (0x8 + a0 % 4) 0x6c, .word (0x8 + a0 % 4) 0x68] [] s (startPower a0 a1 a2 s) := by
  unfold Machine.startPower
  extract_lets x0 x1
  refine Within.via x1 ?_ (fun h2 => ?_)
  · unfold x1
    refine Within.wrInt ?_ (inScopes_of (by simp [Scope.among, fePage, schedPage, ethPage, ethStatPage, F.FE.TX_STATUS_APPLIED]))
    refine Within.after ?_ (frame_notePower _ _ _ _) (amongCons (by simp [Scope.among, fePage, schedPage, ethPage, ethStatPage]) amongNil) rfl
    exact Within.refl _ _ _
  · clear_value x1
    refine Within.ite ?_ ?_
    · refine Within.then ?_ (frame_regCeiling _) rfl rfl
      refine Within.inc ?_ (inScopes_of (by simp [Scope.among, fePage, schedPage, ethPage, ethStatPage, F.FE.TX_CLIPPED]))
      exact h2
    · exact h2

theorem frame_startScheduled (a0 : Nat) (a1 : Nat) (a2 : Nat) (a3 : Frame) (a4 : Option Nat) (a5 : Option Nat) (s : State) :
    Within [.page 0x19, .page 0x10, .page 0x11, .page 0x31, .page 0x1b, .word 0x20 0xdc, .word 0x20 0xd8, .word 0x20 0xd4, .word 0x20 0xd0, .page 0x24, .page 0x25, .page 0x26, .page 0x27, .word 0x21 0x50, .word 0x21 0x4c, .word 0x21 0x14, .word 0x21 0x31c, .word 0x21 0x320, .word 0x21 0x310, .word 0xc 0x14, .word 0xc 0x4c, .word (0x8 + a1 % 4) 0x5c, .word (0x8 + a1 % 4) 0x4c, .word (0x8 + a1 % 4) 0x6c, .word (0x8 + a1 % 4) 0x68] [.frames, .lanes, .fes, .nodes, .ddr, .ledger, .scheds, .duty] s (startScheduled a0 a1 a2 a3 a4 a5 s) := by
  unfold Machine.startScheduled
  generalize e0 : Machine.assignSeq _ _ _ = p1
  obtain ⟨_, _⟩ := p1
  dsimp only
  refine Within.viaEq ?_ e0 (fun h2 => ?_)
  · refine Within.then ?_ (frame_assignSeq _ _ _) rfl rfl
    exact Within.refl _ _ _
  · refine Within.after ?_ (frame_enterRxTx _ _ _) (amongCons rfl (amongCons rfl (amongCons rfl (amongCons rfl (amongCons rfl (amongCons rfl (amongCons rfl (amongCons rfl (amongCons rfl (amongCons rfl (amongCons rfl (amongCons rfl (amongCons rfl (amongCons rfl (amongCons (amongAt 21 rfl) (amongCons (amongAt 22 rfl) amongNil)))))))))))))))) rfl
    refine Within.after ?_ (frame_startPower _ _ _ _) (amongCons rfl (amongCons rfl (amongCons (amongAt 23 rfl) (amongCons (amongAt 24 rfl) amongNil)))) rfl
    refine Within.inc ?_ (inScopes_of (amongW4 rfl))
    refine Within.then ?_ (frame_setFrame _ _ _) rfl rfl
    refine Within.ite ?_ ?_
    · refine Within.then ?_ (frame_closeWait _ _) rfl rfl
      exact h2
    · exact h2

theorem frame_enterRxTxFrame (a0 : Nat) (s : State) :
    Within [.page 0x24, .page 0x25, .page 0x26, .page 0x27, .word 0x21 0x50, .word 0x21 0x4c, .page 0x1b, .word 0x20 0xdc, .word 0x20 0xd8, .word 0x20 0xd4, .word 0x20 0xd0, .page 0xd, .word 0x1a 0x14, .word 0x1a 0xe4, .word 0xc 0x14, .word 0xc 0x4c, .word 0xc 0x50, .word 0x8 0x68, .word 0x9 0x68, .word 0xa 0x68, .word 0xb 0x68, .word 0x30 0xac, .page 0x19, .page 0x10, .page 0x11, .page 0x31, .word 0x21 0x14, .word 0x21 0x31c, .word 0x21 0x320, .word 0x21 0x310, .word 0x8 0x5c, .word 0x9 0x5c, .word 0xa 0x5c, .word 0xb 0x5c, .word 0x8 0x4c, .word 0x9 0x4c, .word 0xa 0x4c, .word 0xb 0x4c, .word 0x8 0x6c, .word 0x9 0x6c, .word 0xa 0x6c, .word 0xb 0x6c] [.frames, .nodes, .ddr, .ledger, .scheds, .fes, .duty, .draws, .slots, .lanes] s (enterRxTxFrame a0 s) := by
  unfold Machine.enterRxTxFrame
  split
  · exact Within.refl _ _ _
  · split
    · refine Within.then ?_ (frame_heldBy _ _ _) rfl rfl
      exact Within.refl _ _ _
    · refine Within.ite ?_ ?_
      · refine Within.ite ?_ ?_
        · extract_lets x0 x1 x2 x3 x4 x5 x6 x7
          refine Within.via x7 ?_ (fun h8 => ?_)
          · unfold x7
            refine Within.ite ?_ ?_
            · exact Within.refl _ _ _
            · refine Within.then ?_ (frame_modFrame _ _ _) rfl rfl
              refine Within.inc ?_ (inScopes_of (amongW4 rfl))
              exact Within.refl _ _ _
          · clear_value x7
            refine Within.then ?_ (frame_heldBy _ _ _) rfl rfl
            exact h8
        · refine Within.then ?_ (frame_heldBy _ _ _) rfl rfl
          exact Within.refl _ _ _
      · refine Within.ite ?_ ?_
        · refine Within.ite ?_ ?_
          · unfold Machine.stageFirst
            split
            · refine Within.then ?_ (frame_refusedStart _ _ _) rfl rfl
              exact Within.refl _ _ _
            · refine Within.then ?_ (frame_slipExpiry _ _) rfl rfl
              exact Within.refl _ _ _
          · exact Within.refl _ _ _
        · refine Within.ite ?_ ?_
          · refine Within.then ?_ (frame_heldBy _ _ _) rfl rfl
            exact Within.refl _ _ _
          · refine Within.ite ?_ ?_
            · refine Within.then ?_ (frame_heldBy _ _ _) rfl rfl
              exact Within.refl _ _ _
            · refine Within.ite ?_ ?_
              · refine Within.then ?_ (frame_heldBy _ _ _) rfl rfl
                exact Within.refl _ _ _
              · refine Within.ite ?_ ?_
                · refine Within.ite ?_ ?_
                  · unfold Machine.stageFirst
                    split
                    · refine Within.then ?_ (frame_refusedStart _ _ _) rfl rfl
                      exact Within.refl _ _ _
                    · beta_reduce
                      refine Within.then ?_ (frame_cannotStart _ _ _) rfl rfl
                      refine Within.latch ?_ (inScopes_of rfl)
                      refine Within.inc ?_ (inScopes_of rfl)
                      refine Within.then ?_ (frame_lowerReq _ _) rfl rfl
                      exact Within.refl _ _ _
                  · refine Within.then ?_ (frame_heldBy _ _ _) rfl rfl
                    exact Within.refl _ _ _
                · split
                  · unfold Machine.stageFirst
                    split
                    · refine Within.then ?_ (frame_refusedStart _ _ _) rfl rfl
                      exact Within.refl _ _ _
                    · beta_reduce
                      refine Within.then ?_ (frame_cannotStart _ _ _) rfl rfl
                      refine Within.then ?_ (frame_regCeiling _) rfl rfl
                      exact Within.refl _ _ _
                  · refine Within.ite ?_ ?_
                    · unfold Machine.stageFirst
                      split
                      · refine Within.then ?_ (frame_refusedStart _ _ _) rfl rfl
                        exact Within.refl _ _ _
                      · beta_reduce
                        refine Within.then ?_ (frame_cannotStart _ _ _) rfl rfl
                        refine Within.then ?_ (frame_regCeiling _) rfl rfl
                        exact Within.refl _ _ _
                    · extract_lets x9 x10 x11 x12 x13 x14 x15 x16 x17 x18 x19 x20
                      refine Within.via x17 ?_ (fun h21 => ?_)
                      · unfold x17
                        refine Within.latch ?_ (inScopes_of rfl)
                        refine Within.inc ?_ (inScopes_of rfl)
                        refine Within.inc ?_ (inScopes_of (amongW4 rfl))
                        exact Within.refl _ _ _
                      · clear_value x17
                        refine Within.via x18 ?_ (fun h22 => ?_)
                        · unfold x18
                          refine Within.then ?_ (frame_withdraw _ _) rfl rfl
                          exact h21
                        · clear_value x18
                          clear_value x16
                          split
                          · refine Within.then ?_ (frame_heldBy _ _ _) rfl rfl
                            exact Within.refl _ _ _
                          · refine Within.ite ?_ ?_
                            · refine Within.then ?_ (frame_heldBy _ _ _) rfl rfl
                              exact h21
                            · generalize e23 : Machine.draw _ = p24
                              obtain ⟨_, _⟩ := p24
                              dsimp only
                              refine Within.viaEq ?_ e23 (fun h25 => ?_)
                              · refine Within.then ?_ (frame_draw _) rfl rfl
                                exact h22
                              · refine Within.then ?_ (frame_modSched _ _ _) rfl rfl
                                exact h25
                          · refine Within.ite ?_ ?_
                            · unfold Machine.stageFirst
                              split
                              · refine Within.then ?_ (frame_refusedStart _ _ _) rfl rfl
                                exact Within.refl _ _ _
                              · beta_reduce
                                refine Within.then ?_ (frame_cannotStart _ _ _) rfl rfl
                                refine Within.after ?_ (frame_refusePower _ _ _ _) (amongCons rfl (amongCons rfl (amongCons (amongW4 rfl) amongNil))) rfl
                                exact Within.refl _ _ _
                            · generalize e26 : Machine.takeKey _ _ = p27
                              obtain ⟨_, _⟩ := p27
                              refine Within.viaEq ?_ e26 (fun h28 => ?_)
                              · refine Within.then ?_ (frame_takeKey _ _) rfl rfl
                                exact Within.refl _ _ _
                              · split
                                · refine Within.then ?_ (frame_refusedStart _ _ _) rfl rfl
                                  rename_i e32
                                  refine Within.viaEq ?_ e32 (fun h33 => ?_)
                                  · dsimp only
                                    exact h28
                                  · exact h33
                                · refine Within.then ?_ (frame_heldBy _ _ _) rfl rfl
                                  rename_i e34
                                  refine Within.viaEq ?_ e34 (fun h35 => ?_)
                                  · dsimp only
                                    exact h28
                                  · exact h35
                                · refine Within.ite ?_ ?_
                                  · refine Within.after ?_ (frame_startScheduled _ _ _ _ _ _ _) (amongCons rfl (amongCons rfl (amongCons rfl (amongCons rfl (amongCons rfl (amongCons rfl (amongCons rfl (amongCons rfl (amongCons rfl (amongCons rfl (amongCons rfl (amongCons rfl (amongCons rfl (amongCons rfl (amongCons rfl (amongCons rfl (amongCons rfl (amongCons rfl (amongCons rfl (amongCons rfl (amongCons rfl (amongCons (amongW4 rfl) (amongCons (amongW4 rfl) (amongCons (amongW4 rfl) (amongCons (amongW4 rfl) amongNil))))))))))))))))))))))))) rfl
                                    rename_i e36
                                    refine Within.viaEq ?_ e36 (fun h37 => ?_)
                                    · dsimp only
                                      exact h28
                                    · exact h37
                                  · generalize e38 : Machine.takeEngine _ = p39
                                    obtain ⟨_, _⟩ := p39
                                    refine Within.viaEq ?_ e38 (fun h40 => ?_)
                                    · refine Within.then ?_ (frame_takeEngine _) rfl rfl
                                      rename_i e41 _ _
                                      refine Within.viaEq ?_ e41 (fun h42 => ?_)
                                      · dsimp only
                                        exact h28
                                      · exact h42
                                    · split
                                      · refine Within.then ?_ (frame_refusedStart _ _ _) rfl rfl
                                        rename_i e46
                                        refine Within.viaEq ?_ e46 (fun h47 => ?_)
                                        · dsimp only
                                          exact h40
                                        · exact h47
                                      · refine Within.after ?_ (frame_startScheduled _ _ _ _ _ _ _) (amongCons rfl (amongCons rfl (amongCons rfl (amongCons rfl (amongCons rfl (amongCons rfl (amongCons rfl (amongCons rfl (amongCons rfl (amongCons rfl (amongCons rfl (amongCons rfl (amongCons rfl (amongCons rfl (amongCons rfl (amongCons rfl (amongCons rfl (amongCons rfl (amongCons rfl (amongCons rfl (amongCons rfl (amongCons (amongW4 rfl) (amongCons (amongW4 rfl) (amongCons (amongW4 rfl) (amongCons (amongW4 rfl) amongNil))))))))))))))))))))))))) rfl
                                        rename_i e48
                                        refine Within.viaEq ?_ e48 (fun h49 => ?_)
                                        · dsimp only
                                          exact h40
                                        · exact h49

theorem frame_coexGrant (a0 : Nat) (s : State) :
    Within [.page 0x24, .page 0x25, .page 0x26, .page 0x27, .word 0x21 0x50, .word 0x21 0x4c, .page 0x1b, .word 0x20 0xdc, .word 0x20 0xd8, .word 0x20 0xd4, .word 0x20 0xd0, .page 0xd, .word 0x1a 0x14, .word 0x1a 0xe4, .word 0xc 0x14, .word 0xc 0x4c, .word 0xc 0x50, .word 0x8 0x68, .word 0x9 0x68, .word 0xa 0x68, .word 0xb 0x68, .word 0x30 0xac, .page 0x19, .page 0x10, .page 0x11, .page 0x31, .word 0x21 0x14, .word 0x21 0x31c, .word 0x21 0x320, .word 0x21 0x310, .word 0x8 0x5c, .word 0x9 0x5c, .word 0xa 0x5c, .word 0xb 0x5c, .word 0x8 0x4c, .word 0x9 0x4c, .word 0xa 0x4c, .word 0xb 0x4c, .word 0x8 0x6c, .word 0x9 0x6c, .word 0xa 0x6c, .word 0xb 0x6c] [.fes, .frames, .nodes, .ddr, .ledger, .scheds, .duty, .draws, .slots, .lanes] s (coexGrant a0 s) := by
  unfold Machine.coexGrant
  extract_lets x0 x1 x2 x3 x4 x5 x6 x7
  refine Within.via x7 ?_ (fun h8 => ?_)
  · unfold x7
    refine Within.then ?_ (frame_modFe _ _ _) rfl rfl
    exact Within.refl _ _ _
  · clear_value x7
    split
    · split
      · refine Within.ite ?_ ?_
        · refine Within.then ?_ (frame_enterRxTxFrame _ _) rfl rfl
          exact h8
        · exact h8
      · exact h8
    · exact h8

theorem frame_coexTimeout (a0 : Nat) (s : State) :
    Within [.word 0x19 0x14, .word 0x19 0xf0, .page 0x1b, .word 0x20 0xdc, .word 0x20 0xd8, .word 0x20 0xd4, .word 0x20 0xd0, .word 0x21 0x50, .word 0x21 0x4c, .page 0x24, .page 0x25, .page 0x26, .page 0x27, .word 0x19 0xb4, .page 0xd] [.nodes, .ddr, .frames, .scheds, .fes, .duty, .ledger] s (coexTimeout a0 s) := by
  unfold Machine.coexTimeout
  split
  · refine Within.ite ?_ ?_
    · exact Within.refl _ _ _
    · refine Within.then ?_ (frame_cannotStart _ _ _) rfl rfl
      refine Within.latch ?_ (inScopes_of rfl)
      refine Within.inc ?_ (inScopes_of rfl)
      refine Within.then ?_ (frame_lowerReq _ _) rfl rfl
      exact Within.refl _ _ _
  · exact Within.refl _ _ _

theorem frame_coexWithdrawn (a0 : Nat) (s : State) :
    Within [.page 0x24, .page 0x25, .page 0x26, .page 0x27, .word 0x21 0x50, .word 0x21 0x4c, .page 0x1b, .word 0x20 0xdc, .word 0x20 0xd8, .word 0x20 0xd4, .word 0x20 0xd0, .word 0x19 0xb4, .page 0x10, .page 0x31, .page 0xd, .word (0x8 + a0 % 4) 0x5c, .word (0x8 + a0 % 4) 0x4c] [.fes, .nodes, .ddr, .ledger, .scheds, .duty, .frames, .lanes] s (coexWithdrawn a0 s) := by
  unfold Machine.coexWithdrawn
  extract_lets x0
  refine Within.via x0 ?_ (fun h1 => ?_)
  · unfold x0
    refine Within.then ?_ (frame_modFe _ _ _) rfl rfl
    exact Within.refl _ _ _
  · clear_value x0
    refine Within.ite ?_ ?_
    · refine Within.after ?_ (frame_cutTx _ _ _) (amongCons rfl (amongCons rfl (amongCons rfl (amongCons rfl (amongCons rfl (amongCons rfl (amongCons rfl (amongCons rfl (amongCons rfl (amongCons rfl (amongCons rfl (amongCons rfl (amongCons rfl (amongCons rfl (amongCons (amongAt 15 rfl) (amongCons (amongAt 16 rfl) amongNil)))))))))))))))) rfl
      refine Within.latch ?_ (inScopes_of rfl)
      refine Within.inc ?_ (inScopes_of rfl)
      exact h1
    · exact h1

theorem frame_energyUpdate (a0 : Nat) (a1 : List (Nat × ℤ)) (s : State) :
    Within [.page 0x10] [.fes] s (energyUpdate a0 a1 s) := by
  unfold Machine.energyUpdate
  extract_lets x0 x1 x2 x3 x4
  refine Within.via x4 ?_ (fun h5 => ?_)
  · unfold x4
    refine Within.then ?_ (frame_setFe _ _ _) rfl rfl
    exact Within.refl _ _ _
  · clear_value x4
    refine Within.ite ?_ ?_
    · refine Within.foldl ?_ (fun _ _ _ h6 => ?_)
      · exact h5
      · refine Within.wrInt ?_ (inScopes_of rfl)
        exact h6
    · refine Within.then ?_ (frame_dropEnergy _ _) rfl rfl
      refine Within.then ?_ (frame_setFe _ _ _) rfl rfl
      exact Within.refl _ _ _

theorem frame_noteReport (a0 : Nat) (a1 : Nat) (a2 : Nat) (a3 : Nat) (a4 : Nat) (s : State) :
    Within [] [.fes] s (noteReport a0 a1 a2 a3 a4 s) := by
  unfold Machine.noteReport
  extract_lets x0
  refine Within.then ?_ (frame_modFe _ _ _) rfl rfl
  exact Within.refl _ _ _

theorem frame_retake (a0 : Nat) (a1 : Offer) (s : State) :
    Within [.page 0x10, .page 0x11] [.fes, .lanes] s (retake a0 a1 s) := by
  unfold Machine.retake
  extract_lets x0 x1
  refine Within.then ?_ (frame_modLane _ _ _) rfl rfl
  exact Within.refl _ _ _

theorem frame_bindLane (a0 : Nat) (a1 : Offer) (a2 : List Nat) (a3 : Option Disp) (s : State) :
    Within [.page 0x10, .page 0x11] [.frameNumbers, .fes, .lanes] s (bindLane a0 a1 a2 a3 s) := by
  unfold Machine.bindLane
  extract_lets x0 x1 x2 x3
  generalize e4 : Machine.newFrame _ = p5
  obtain ⟨_, _⟩ := p5
  dsimp only
  refine Within.viaEq ?_ e4 (fun h6 => ?_)
  · refine Within.then ?_ (frame_newFrame _) rfl rfl
    exact Within.refl _ _ _
  · refine Within.foldl ?_ (fun _ _ _ h7 => ?_)
    · refine Within.then ?_ (frame_modFe _ _ _) rfl rfl
      refine Within.then ?_ (frame_setLane _ _ _) rfl rfl
      exact h6
    · refine Within.then ?_ (frame_modLane _ _ _) rfl rfl
      exact h7

theorem frame_noteStarved (a0 : Nat) (a1 : Nat) (s : State) :
    Within [] [.fes] s (noteStarved a0 a1 s) := by
  unfold Machine.noteStarved
  refine Within.then ?_ (frame_modFe _ _ _) rfl rfl
  exact Within.refl _ _ _

theorem frame_offer (a0 : Offer) (a1 : Bool) (s : State) :
    Within [.page 0x10, .page 0x11, .page 0x31, .page 0x1b, .word 0x20 0xdc, .word 0x20 0xd8, .word 0x20 0xd4, .word 0x20 0xd0, .word 0x19 0xa4, .word 0x19 0xa8, .word 0x19 0xac, .word 0x19 0xb0, .word 0x19 0xb4, .word 0x19 0xb8] [.frameNumbers, .fes, .lanes, .nodes, .ddr, .ledger, .preempts] s (offer a0 a1 s) := by
  unfold Machine.offer
  extract_lets x0 x1
  refine Within.via x1 ?_ (fun h2 => ?_)
  · unfold x1
    refine Within.then ?_ (frame_noteStarved _ _ _) rfl rfl
    exact Within.refl _ _ _
  · clear_value x1
    refine Within.ite ?_ ?_
    · exact Within.refl _ _ _
    · refine Within.ite ?_ ?_
      · split
        · refine Within.then ?_ (frame_bindLane _ _ _ _ _) rfl rfl
          exact Within.refl _ _ _
        · exact Within.refl _ _ _
      · split
        · extract_lets x3 x4 x5 x6 x7 x8
          refine Within.via x4 ?_ (fun h9 => ?_)
          · unfold x4
            refine Within.then ?_ (frame_endLane _ _ _) rfl rfl
            exact Within.refl _ _ _
          · clear_value x4
            refine Within.via x5 ?_ (fun h10 => ?_)
            · unfold x5
              refine Within.then ?_ (frame_endLane _ _ _) rfl rfl
              exact Within.refl _ _ _
            · clear_value x5
              refine Within.via x7 ?_ (fun h11 => ?_)
              · unfold x7
                refine Within.set_preempts ?_ (by decide)
                exact h10
              · clear_value x7
                refine Within.via x8 ?_ (fun h12 => ?_)
                · unfold x8
                  refine Within.latch ?_ (inScopes_of rfl)
                  refine Within.inc ?_ (inScopes_of rfl)
                  exact h11
                · clear_value x8
                  refine Within.ite ?_ ?_
                  · refine Within.then ?_ (frame_bindLane _ _ _ _ _) rfl rfl
                    exact h9
                  · refine Within.then ?_ (frame_bindLane _ _ _ _ _) rfl rfl
                    exact h12
        · refine Within.ite ?_ ?_
          · exact h2
          · refine Within.latch ?_ (inScopes_of rfl)
            refine Within.inc ?_ (inScopes_of rfl)
            exact h2

theorem frame_offerBetter (a0 : Offer) (a1 : List Report) (s : State) :
    Within [.page 0x10, .page 0x11, .page 0x31, .page 0x1b, .word 0x20 0xdc, .word 0x20 0xd8, .word 0x20 0xd4, .word 0x20 0xd0, .word 0x19 0xa4, .word 0x19 0xa8, .word 0x19 0xac, .word 0x19 0xb0, .word 0x19 0xb4, .word 0x19 0xb8] [.frameNumbers, .fes, .lanes, .nodes, .ddr, .ledger, .preempts] s (offerBetter a0 a1 s) := by
  unfold Machine.offerBetter
  refine Within.ite ?_ ?_
  · refine Within.then ?_ (frame_offer _ _ _) rfl rfl
    refine Within.then ?_ (frame_noteStarved _ _ _) rfl rfl
    exact Within.refl _ _ _
  · refine Within.then ?_ (frame_offer _ _ _) rfl rfl
    exact Within.refl _ _ _

theorem frame_offerReport (a0 : Offer) (a1 : Bool) (s : State) :
    Within [.page 0x10, .page 0x11, .page 0x31, .page 0x1b, .word 0x20 0xdc, .word 0x20 0xd8, .word 0x20 0xd4, .word 0x20 0xd0, .word 0x19 0xa4, .word 0x19 0xa8, .word 0x19 0xac, .word 0x19 0xb0, .word 0x19 0xb4, .word 0x19 0xb8] [.fes, .frameNumbers, .lanes, .nodes, .ddr, .ledger, .preempts] s (offerReport a0 a1 s) := by
  unfold Machine.offerReport
  extract_lets x0 x1 x2 x3 x4
  refine Within.via x4 ?_ (fun h5 => ?_)
  · unfold x4
    refine Within.ite ?_ ?_
    · refine Within.then ?_ (frame_noteStarved _ _ _) rfl rfl
      exact Within.refl _ _ _
    · exact Within.refl _ _ _
  · clear_value x4
    refine Within.ite ?_ ?_
    · refine Within.latch ?_ (inScopes_of rfl)
      refine Within.inc ?_ (inScopes_of rfl)
      exact h5
    · refine Within.then ?_ (frame_offer _ _ _) rfl rfl
      refine Within.inc ?_ (inScopes_of rfl)
      refine Within.then ?_ (frame_setFe _ _ _) rfl rfl
      exact Within.refl _ _ _

theorem frame_detect (a0 : Nat) (a1 : Nat) (a2 : Nat) (a3 : Nat) (a4 : ℤ) (a5 : ℤ) (a6 : Nat) (a7 : Bool) (s : State) :
    Within [.page 0x10, .page 0x11, .page 0x31, .page 0x1b, .word 0x20 0xdc, .word 0x20 0xd8, .word 0x20 0xd4, .word 0x20 0xd0, .word 0x19 0xa4, .word 0x19 0xa8, .word 0x19 0xac, .word 0x19 0xb0, .word 0x19 0xb4, .word 0x19 0xb8] [.fes, .lanes, .frameNumbers, .nodes, .ddr, .ledger, .preempts] s (detect a0 a1 a2 a3 a4 a5 a6 a7 s) := by
  unfold Machine.detect
  extract_lets x0 x1 x2 x3 x4 x5 x6 x7 x8
  refine Within.via x6 ?_ (fun h9 => ?_)
  · unfold x6
    refine Within.then ?_ (frame_noteReport _ _ _ _ _ _) rfl rfl
    exact Within.refl _ _ _
  · clear_value x6
    refine Within.ite ?_ ?_
    · split
      · refine Within.ite ?_ ?_
        · exact Within.refl _ _ _
        · extract_lets x10
          refine Within.ite ?_ ?_
          · exact h9
          · split
            · refine Within.then ?_ (frame_retake _ _ _) rfl rfl
              exact h9
            · refine Within.ite ?_ ?_
              · refine Within.ite ?_ ?_
                · refine Within.then ?_ (frame_offerBetter _ _ _) rfl rfl
                  exact h9
                · refine Within.then ?_ (frame_offerReport _ _ _) rfl rfl
                  exact h9
              · exact h9
      · exact Within.refl _ _ _
    · exact Within.refl _ _ _

theorem frame_laneAwake (a0 : Nat) (s : State) :
    Within [.page 0x10, .page 0x11] [.fes, .lanes] s (laneAwake a0 s) := by
  unfold Machine.laneAwake
  refine Within.ite ?_ ?_
  · refine Within.then ?_ (frame_modLane _ _ _) rfl rfl
    exact Within.refl _ _ _
  · exact Within.refl _ _ _

theorem frame_syncFails (a0 : Nat) (s : State) :
    Within [.page 0x10, .page 0x11, .page 0x31, .page 0x1b, .word 0x20 0xdc, .word 0x20 0xd8, .word 0x20 0xd4, .word 0x20 0xd0, .word 0x19 0xa4, .word 0x19 0xa8, .word 0x19 0xac, .word 0x19 0xb0, .word 0x19 0xb4, .word 0x19 0xb8] [.lanes, .fes, .nodes, .ddr, .ledger] s (syncFails a0 s) := by
  unfold Machine.syncFails
  refine Within.then ?_ (frame_endLane _ _ _) rfl rfl
  exact Within.refl _ _ _

theorem frame_preambleLoss (a0 : Nat) (s : State) :
    Within [.page 0x10, .page 0x11, .page 0x31, .page 0x1b, .word 0x20 0xdc, .word 0x20 0xd8, .word 0x20 0xd4, .word 0x20 0xd0, .word 0x19 0xa4, .word 0x19 0xa8, .word 0x19 0xac, .word 0x19 0xb0, .word 0x19 0xb4, .word 0x19 0xb8] [.lanes, .fes, .nodes, .ddr, .ledger] s (preambleLoss a0 s) := by
  unfold Machine.preambleLoss
  refine Within.ite ?_ ?_
  · refine Within.then ?_ (frame_syncFails _ _) rfl rfl
    exact Within.refl _ _ _
  · exact Within.refl _ _ _

theorem frame_searchExpiry (a0 : Nat) (s : State) :
    Within [.page 0x10, .page 0x11, .page 0x31, .page 0x1b, .word 0x20 0xdc, .word 0x20 0xd8, .word 0x20 0xd4, .word 0x20 0xd0, .word 0x19 0xa4, .word 0x19 0xa8, .word 0x19 0xac, .word 0x19 0xb0, .word 0x19 0xb4, .word 0x19 0xb8] [.lanes, .fes, .nodes, .ddr, .ledger] s (searchExpiry a0 s) := by
  unfold Machine.searchExpiry
  refine Within.ite ?_ ?_
  · refine Within.then ?_ (frame_syncFails _ _) rfl rfl
    exact Within.refl _ _ _
  · exact Within.refl _ _ _

theorem frame_synced (a0 : Nat) (a1 : SyncHit) (s : State) :
    Within [.page 0x10, .page 0x11] [.fes, .lanes] s (synced a0 a1 s) := by
  unfold Machine.synced
  extract_lets x0 x1
  refine Within.then ?_ (frame_setLane _ _ _) rfl rfl
  exact Within.refl _ _ _

theorem frame_syncMatch (a0 : Nat) (a1 : BitVec 32) (a2 : ℤ) (a3 : Nat × Nat) (s : State) :
    Within [.page 0x10, .page 0x11, .page 0x31, .page 0x1b, .word 0x20 0xdc, .word 0x20 0xd8, .word 0x20 0xd4, .word 0x20 0xd0, .word 0x19 0xa4, .word 0x19 0xa8, .word 0x19 0xac, .word 0x19 0xb0, .word 0x19 0xb4, .word 0x19 0xb8, .page 0x18] [.lanes, .fes, .nodes, .ddr, .ledger] s (syncMatch a0 a1 a2 a3 s) := by
  unfold Machine.syncMatch
  extract_lets x0
  refine Within.ite ?_ ?_
  · exact Within.refl _ _ _
  · split
    · refine Within.ite ?_ ?_
      · refine Within.then ?_ (frame_syncFails _ _) rfl rfl
        exact Within.refl _ _ _
      · refine Within.then ?_ (frame_synced _ _ _) rfl rfl
        exact Within.refl _ _ _
    · refine Within.ite ?_ ?_
      · refine Within.then ?_ (frame_synced _ _ _) rfl rfl
        exact Within.refl _ _ _
      · exact Within.refl _ _ _
    · split
      · refine Within.inc ?_ (inScopes_of rfl)
        refine Within.then ?_ (frame_synced _ _ _) rfl rfl
        exact Within.refl _ _ _
      · exact Within.refl _ _ _
    · exact Within.refl _ _ _

theorem frame_phrBad (a0 : Nat) (a1 : Nat) (s : State) :
    Within [.page 0x10, .page 0x11, .page 0x31, .page 0x1b, .word 0x20 0xdc, .word 0x20 0xd8, .word 0x20 0xd4, .word 0x20 0xd0, .word 0x19 0xa4, .word 0x19 0xa8, .word 0x19 0xac, .word 0x19 0xb0, .word 0x19 0xb4, .word 0x19 0xb8, .page 0x18] [.lanes, .fes, .nodes, .ddr, .ledger] s (phrBad a0 a1 s) := by
  unfold Machine.phrBad
  extract_lets x0
  refine Within.then ?_ (frame_endLane _ _ _) rfl rfl
  refine Within.wr ?_ (inScopes_of rfl)
  refine Within.inc ?_ (inScopes_of rfl)
  exact Within.refl _ _ _

theorem frame_phrSwitch (a0 : Nat) (a1 : Bool) (a2 : Nat) (s : State) :
    Within [.page 0x10, .page 0x11, .page 0x31, .page 0x1b, .word 0x20 0xdc, .word 0x20 0xd8, .word 0x20 0xd4, .word 0x20 0xd0, .word 0x19 0xa4, .word 0x19 0xa8, .word 0x19 0xac, .word 0x19 0xb0, .word 0x19 0xb4, .word 0x19 0xb8, .page 0x18] [.lanes, .fes, .nodes, .ddr, .ledger] s (phrSwitch a0 a1 a2 s) := by
  unfold Machine.phrSwitch
  extract_lets x0 x1
  refine Within.via x1 ?_ (fun h2 => ?_)
  · unfold x1
    refine Within.then ?_ (frame_setLane _ _ _) rfl rfl
    exact Within.refl _ _ _
  · clear_value x1
    refine Within.ite ?_ ?_
    · refine Within.then ?_ (frame_phrBad _ _ _) rfl rfl
      exact Within.refl _ _ _
    · refine Within.ite ?_ ?_
      · refine Within.then ?_ (frame_phrBad _ _ _) rfl rfl
        exact Within.refl _ _ _
      · refine Within.ite ?_ ?_
        · refine Within.then ?_ (frame_phrBad _ _ _) rfl rfl
          exact Within.refl _ _ _
        · refine Within.latch ?_ (inScopes_of rfl)
          refine Within.inc ?_ (inScopes_of rfl)
          exact h2

theorem frame_phrGood (a0 : Nat) (a1 : Nat) (a2 : Nat) (a3 : Bool) (a4 : Bool) (s : State) :
    Within [.page 0x10, .page 0x11, .page 0x31, .page 0x1b, .word 0x20 0xdc, .word 0x20 0xd8, .word 0x20 0xd4, .word 0x20 0xd0, .word 0x19 0xa4, .word 0x19 0xa8, .word 0x19 0xac, .word 0x19 0xb0, .word 0x19 0xb4, .word 0x19 0xb8] [.lanes, .fes, .nodes, .ddr, .ledger] s (phrGood a0 a1 a2 a3 a4 s) := by
  unfold Machine.phrGood
  extract_lets x0
  refine Within.via x0 ?_ (fun h1 => ?_)
  · unfold x0
    refine Within.then ?_ (frame_modLane _ _ _) rfl rfl
    exact Within.refl _ _ _
  · clear_value x0
    refine Within.then ?_ (frame_endLanes _ _ _) rfl rfl
    exact h1

theorem frame_phrComplete (a0 : Nat) (a1 : Phr) (s : State) :
    Within [.page 0x10, .page 0x11, .page 0x31, .page 0x1b, .word 0x20 0xdc, .word 0x20 0xd8, .word 0x20 0xd4, .word 0x20 0xd0, .word 0x19 0xa4, .word 0x19 0xa8, .word 0x19 0xac, .word 0x19 0xb0, .word 0x19 0xb4, .word 0x19 0xb8, .page 0x18] [.lanes, .fes, .nodes, .ddr, .ledger] s (phrComplete a0 a1 s) := by
  unfold Machine.phrComplete
  extract_lets x0 x1 x2
  refine Within.ite ?_ ?_
  · exact Within.refl _ _ _
  · split
    · refine Within.ite ?_ ?_
      · refine Within.then ?_ (frame_phrSwitch _ _ _ _) rfl rfl
        exact Within.refl _ _ _
      · exact Within.refl _ _ _
    · refine Within.ite ?_ ?_
      · exact Within.refl _ _ _
      · refine Within.ite ?_ ?_
        · refine Within.then ?_ (frame_phrBad _ _ _) rfl rfl
          exact Within.refl _ _ _
        · refine Within.ite ?_ ?_
          · refine Within.then ?_ (frame_phrBad _ _ _) rfl rfl
            exact Within.refl _ _ _
          · refine Within.then ?_ (frame_phrGood _ _ _ _ _ _) rfl rfl
            exact Within.refl _ _ _
    · refine Within.ite ?_ ?_
      · exact Within.refl _ _ _
      · refine Within.ite ?_ ?_
        · refine Within.then ?_ (frame_phrBad _ _ _) rfl rfl
          exact Within.refl _ _ _
        · refine Within.ite ?_ ?_
          · refine Within.then ?_ (frame_phrBad _ _ _) rfl rfl
            exact Within.refl _ _ _
          · refine Within.ite ?_ ?_
            · refine Within.then ?_ (frame_phrBad _ _ _) rfl rfl
              exact Within.refl _ _ _
            · refine Within.ite ?_ ?_
              · refine Within.then ?_ (frame_phrBad _ _ _) rfl rfl
                exact Within.refl _ _ _
              · refine Within.then ?_ (frame_phrGood _ _ _ _ _ _) rfl rfl
                refine Within.then ?_ (frame_modLane _ _ _) rfl rfl
                exact Within.refl _ _ _
    · refine Within.ite ?_ ?_
      · exact Within.refl _ _ _
      · refine Within.ite ?_ ?_
        · refine Within.then ?_ (frame_phrBad _ _ _) rfl rfl
          exact Within.refl _ _ _
        · refine Within.ite ?_ ?_
          · refine Within.then ?_ (frame_phrBad _ _ _) rfl rfl
            exact Within.refl _ _ _
          · refine Within.then ?_ (frame_phrGood _ _ _ _ _ _) rfl rfl
            exact Within.refl _ _ _

theorem frame_lastSymbol (a0 : Nat) (s : State) :
    Within [.page 0x10, .page 0x11] [.fes, .lanes] s (lastSymbol a0 s) := by
  unfold Machine.lastSymbol
  refine Within.ite ?_ ?_
  · refine Within.then ?_ (frame_modLane _ _ _) rfl rfl
    exact Within.refl _ _ _
  · exact Within.refl _ _ _

theorem frame_gainDown (a0 : Nat) (s : State) :
    Within [.page 0x10] [.lanes, .fes] s (gainDown a0 s) := by
  unfold Machine.gainDown
  extract_lets x0 x1
  refine Within.ite ?_ ?_
  · exact Within.refl _ _ _
  · refine Within.then ?_ (frame_setGain _ _ _) rfl rfl
    exact Within.refl _ _ _

theorem frame_gainUp (a0 : Nat) (s : State) :
    Within [.page 0x10] [.lanes, .fes] s (gainUp a0 s) := by
  unfold Machine.gainUp
  extract_lets x0
  refine Within.ite ?_ ?_
  · exact Within.refl _ _ _
  · refine Within.then ?_ (frame_setGain _ _ _) rfl rfl
    exact Within.refl _ _ _

theorem frame_gainRecovery (a0 : Nat) (s : State) :
    Within [.page 0x10] [.fes] s (gainRecovery a0 s) := by
  unfold Machine.gainRecovery
  refine Within.ite ?_ ?_
  · exact Within.refl _ _ _
  · refine Within.inc ?_ (inScopes_of rfl)
    refine Within.then ?_ (frame_modFe _ _ _) rfl rfl
    exact Within.refl _ _ _

theorem frame_gainRecovered (a0 : Nat) (s : State) :
    Within [] [.fes] s (gainRecovered a0 s) := by
  unfold Machine.gainRecovered
  refine Within.then ?_ (frame_modFe _ _ _) rfl rfl
  exact Within.refl _ _ _

theorem frame_capturePush (a0 : Nat) (a1 : Bool) (a2 : Bool) (s : State) :
    Within [.page 0x10, .page 0x11, .page 0x31, .page 0x1b, .word 0x20 0xdc, .word 0x20 0xd8, .word 0x20 0xd4, .word 0x20 0xd0, .word 0x19 0xa4, .word 0x19 0xa8, .word 0x19 0xac, .word 0x19 0xb0, .word 0x19 0xb4, .word 0x19 0xb8] [.lanes, .fes, .nodes, .ddr, .ledger] s (capturePush a0 a1 a2 s) := by
  unfold Machine.capturePush
  extract_lets x0 x1 x2
  refine Within.ite ?_ ?_
  · exact Within.refl _ _ _
  · refine Within.ite ?_ ?_
    · exact Within.refl _ _ _
    · refine Within.ite ?_ ?_
      · refine Within.latch ?_ (inScopes_of rfl)
        refine Within.inc ?_ (inScopes_of rfl)
        refine Within.then ?_ (frame_endLane _ _ _) rfl rfl
        exact Within.refl _ _ _
      · refine Within.then ?_ (frame_setLane _ _ _) rfl rfl
        exact Within.refl _ _ _

theorem frame_laneWatchdog (a0 : Nat) (s : State) :
    Within [.word 0x5 0x14, .page 0x10, .page 0x11, .page 0x31, .page 0x1b, .word 0x20 0xdc, .word 0x20 0xd8, .word 0x20 0xd4, .word 0x20 0xd0, .word 0x19 0xa4, .word 0x19 0xa8, .word 0x19 0xac, .word 0x19 0xb0, .word 0x19 0xb4, .word 0x19 0xb8] [.fes, .lanes, .poolTest, .nodes, .ddr, .ledger] s (laneWatchdog a0 s) := by
  unfold Machine.laneWatchdog
  refine Within.ite ?_ ?_
  · refine Within.then ?_ (frame_laneFault _ _ _) rfl rfl
    exact Within.refl _ _ _
  · exact Within.refl _ _ _

theorem frame_laneTested (a0 : Nat) (a1 : Bool) (s : State) :
    Within [.page 0x10, .page 0x11, .page 0x5] [.poolTest, .fes, .lanes] s (laneTested a0 a1 s) := by
  unfold Machine.laneTested
  extract_lets x0 x1
  refine Within.via x1 ?_ (fun h2 => ?_)
  · unfold x1
    refine Within.set_poolTest ?_ (by decide)
    exact Within.refl _ _ _
  · clear_value x1
    refine Within.ite ?_ ?_
    · refine Within.then ?_ (frame_reserveLeft _) rfl rfl
      refine Within.ite ?_ ?_
      · refine Within.then ?_ (frame_modLane _ _ _) rfl rfl
        exact h2
      · refine Within.then ?_ (frame_retireLane _ _) rfl rfl
        exact h2
    · exact Within.refl _ _ _

theorem frame_laneSelfcheck (a0 : Nat) (a1 : Bool) (s : State) :
    Within [.page 0x10, .page 0x11] [.fes, .lanes] s (laneSelfcheck a0 a1 s) := by
  unfold Machine.laneSelfcheck
  refine Within.ite ?_ ?_
  · refine Within.then ?_ (frame_modLane _ _ _) rfl rfl
    exact Within.refl _ _ _
  · exact Within.refl _ _ _

theorem frame_txModFault (a0 : Nat) (a1 : Bool) (s : State) :
    Within [.page 0x24, .page 0x25, .page 0x26, .page 0x27, .word 0x21 0x50, .word 0x21 0x4c, .page 0x1b, .word 0x20 0xdc, .word 0x20 0xd8, .word 0x20 0xd4, .word 0x20 0xd0, .word 0x19 0xb4, .page 0x10, .page 0x31, .word 0x18 0x14, .word 0x18 0xc0, .word 0x18 0xc4, .word (0x8 + a0 % 4) 0x5c, .word (0x8 + a0 % 4) 0x4c] [.nodes, .ddr, .ledger, .scheds, .fes, .duty, .frames, .lanes] s (txModFault a0 a1 s) := by
  unfold Machine.txModFault
  split
  · exact Within.refl _ _ _
  · extract_lets x0 x1
    refine Within.via x0 ?_ (fun h2 => ?_)
    · unfold x0
      refine Within.wr ?_ (inScopes_of rfl)
      refine Within.wr ?_ (inScopes_of rfl)
      exact Within.refl _ _ _
    · clear_value x0
      refine Within.via x1 ?_ (fun h3 => ?_)
      · unfold x1
        refine Within.wr ?_ (inScopes_of rfl)
        exact h2
      · clear_value x1
        refine Within.after ?_ (frame_cutTx _ _ _) (amongCons rfl (amongCons rfl (amongCons rfl (amongCons rfl (amongCons rfl (amongCons rfl (amongCons rfl (amongCons rfl (amongCons rfl (amongCons rfl (amongCons rfl (amongCons rfl (amongCons rfl (amongCons rfl (amongCons (amongAt 17 rfl) (amongCons (amongAt 18 rfl) amongNil)))))))))))))))) rfl
        refine Within.latch ?_ (inScopes_of rfl)
        refine Within.inc ?_ (inScopes_of rfl)
        exact h3

theorem frame_setRx (a0 : Nat) (a1 : Rx) (s : State) :
    Within [.page 0x10, .page 0x11] [.fes, .lanes] s (setRx a0 a1 s) := by
  unfold Machine.setRx
  refine Within.then ?_ (frame_modLane _ _ _) rfl rfl
  exact Within.refl _ _ _

theorem frame_readAck (a0 : Nat) (a1 : Mhr) (s : State) :
    Within [.page 0x10, .page 0x11] [.fes, .lanes] s (readAck a0 a1 s) := by
  unfold Machine.readAck
  extract_lets x0
  split
  · refine Within.then ?_ (frame_setRx _ _ _) rfl rfl
    exact Within.refl _ _ _
  · extract_lets x1
    refine Within.then ?_ (frame_setRx _ _ _) rfl rfl
    exact Within.refl _ _ _

theorem frame_modRx (a0 : Nat) (a1 : Rx → Rx) (s : State) :
    Within [.page 0x10, .page 0x11] [.fes, .lanes] s (modRx a0 a1 s) := by
  unfold Machine.modRx
  refine Within.then ?_ (frame_modLane _ _ _) rfl rfl
  exact Within.refl _ _ _

theorem frame_fix (a0 : Nat) (a1 : Disp) (s : State) :
    Within [.page 0x10, .page 0x11] [.fes, .lanes] s (fix a0 a1 s) := by
  unfold Machine.fix
  refine Within.then ?_ (frame_modRx _ _ _) rfl rfl
  exact Within.refl _ _ _

theorem frame_noSecurity (a0 : Nat) (s : State) :
    Within [.page 0x10, .page 0x11] [.fes, .lanes] s (noSecurity a0 s) := by
  unfold Machine.noSecurity
  refine Within.ite ?_ ?_
  · refine Within.then ?_ (frame_modRx _ _ _) rfl rfl
    exact Within.refl _ _ _
  · refine Within.then ?_ (frame_fix _ _ _) rfl rfl
    exact Within.refl _ _ _

theorem frame_readRecord (a0 : Nat) (a1 : Nat) (a2 : Mhr) (s : State) :
    Within [.page 0x10, .page 0x11] [.fes, .lanes] s (readRecord a0 a1 a2 s) := by
  unfold Machine.readRecord
  extract_lets x0 x1
  refine Within.via x1 ?_ (fun h2 => ?_)
  · unfold x1
    refine Within.then ?_ (frame_modLane _ _ _) rfl rfl
    exact Within.refl _ _ _
  · clear_value x1
    refine Within.ite ?_ ?_
    · exact h2
    · refine Within.then ?_ (frame_noSecurity _ _) rfl rfl
      exact h2

theorem frame_mhrComplete (a0 : Nat) (a1 : Mhr) (a2 : Parity) (s : State) :
    Within [.page 0x10, .page 0x11, .page 0x31, .page 0x1b, .word 0x20 0xdc, .word 0x20 0xd8, .word 0x20 0xd4, .word 0x20 0xd0, .word 0x19 0xa4, .word 0x19 0xa8, .word 0x19 0xac, .word 0x19 0xb0, .word 0x19 0xb4, .word 0x19 0xb8, .word 0x46 0x14, .word 0x46 0x64, .word 0x46 0x68, .word 0x20 0xc8, .word 0x20 0xcc, .page 0x24, .page 0x25, .page 0x26, .page 0x27, .word 0x21 0x50, .word 0x21 0x4c, .word 0x46 0x60, .word 0x20 0x14, .word 0x20 0xbc] [.fes, .lanes, .nodes, .ddr, .ledger, .scheds, .duty, .frames] s (mhrComplete a0 a1 a2 s) := by
  unfold Machine.mhrComplete
  extract_lets x0 x1
  refine Within.ite ?_ ?_
  · exact Within.refl _ _ _
  · refine Within.ite ?_ ?_
    · refine Within.then ?_ (frame_setRx _ _ _) rfl rfl
      exact Within.refl _ _ _
    · refine Within.ite ?_ ?_
      · refine Within.then ?_ (frame_endLane _ _ _) rfl rfl
        exact Within.refl _ _ _
      · refine Within.ite ?_ ?_
        · refine Within.then ?_ (frame_endLane _ _ _) rfl rfl
          exact Within.refl _ _ _
        · refine Within.ite ?_ ?_
          · refine Within.then ?_ (frame_readAck _ _ _) rfl rfl
            exact Within.refl _ _ _
          · split
            · refine Within.then ?_ (frame_endLane _ _ _) rfl rfl
              exact Within.refl _ _ _
            · refine Within.ite ?_ ?_
              · refine Within.then ?_ (frame_setRx _ _ _) rfl rfl
                exact Within.refl _ _ _
              · split
                · refine Within.then ?_ (frame_readRecord _ _ _ _) rfl rfl
                  exact Within.refl _ _ _
                · extract_lets x2
                  refine Within.via x2 ?_ (fun h3 => ?_)
                  · unfold x2
                    refine Within.ite ?_ ?_
                    · refine Within.then ?_ (frame_coreMended _ _) rfl rfl
                      exact Within.refl _ _ _
                    · exact Within.refl _ _ _
                  · clear_value x2
                    refine Within.ite ?_ ?_
                    · refine Within.then ?_ (frame_coreLost _ _) rfl rfl
                      refine Within.then ?_ (frame_endLane _ _ _) rfl rfl
                      refine Within.then ?_ (frame_modLane _ _ _) rfl rfl
                      exact h3
                    · refine Within.ite ?_ ?_
                      · refine Within.latch ?_ (inScopes_of rfl)
                        refine Within.inc ?_ (inScopes_of rfl)
                        refine Within.then ?_ (frame_endLane _ _ _) rfl rfl
                        refine Within.then ?_ (frame_modLane _ _ _) rfl rfl
                        exact h3
                      · refine Within.then ?_ (frame_readRecord _ _ _ _) rfl rfl
                        exact h3

theorem frame_cacheLookup (a0 : Nat) (a1 : Nat) (a2 : Nat) (s : State) :
    Within [.word 0x30 0x9c, .word 0x30 0x98, .word 0x30 0xa0] [.cache] s ((cacheLookup a0 a1 a2 s).2) := by
  unfold Machine.cacheLookup
  split
  · dsimp only
    refine Within.inc ?_ (inScopes_of rfl)
    refine Within.then ?_ (frame_setCache _ _) rfl rfl
    exact Within.refl _ _ _
  · dsimp only
    refine Within.inc ?_ (inScopes_of rfl)
    exact Within.refl _ _ _

theorem frame_resolveAck (a0 : Nat) (s : State) :
    Within [.page 0x10, .page 0x11, .word 0x30 0x9c, .word 0x30 0x98, .word 0x30 0xa0] [.fes, .lanes, .slots, .cache] s (resolveAck a0 s) := by
  unfold Machine.resolveAck
  extract_lets x0 x1
  split
  · exact Within.refl _ _ _
  · extract_lets x2 x3 x4 x5
    refine Within.via x3 ?_ (fun h6 => ?_)
    · unfold x3
      refine Within.then ?_ (frame_modRx _ _ _) rfl rfl
      exact Within.refl _ _ _
    · clear_value x3
      refine Within.ite ?_ ?_
      · refine Within.then ?_ (frame_fix _ _ _) rfl rfl
        exact h6
      · generalize e7 : Machine.useSlot _ _ _ _ = p8
        obtain ⟨_, _⟩ := p8
        dsimp only
        refine Within.viaEq ?_ e7 (fun h9 => ?_)
        · refine Within.then ?_ (frame_useSlot _ _ _ _) rfl rfl
          exact h6
        · split
          · refine Within.then ?_ (frame_fix _ _ _) rfl rfl
            rename_i e13
            refine Within.viaEq ?_ e13 (fun h14 => ?_)
            · dsimp only
              exact h9
            · exact h14
          · refine Within.then ?_ (frame_fix _ _ _) rfl rfl
            rename_i e15
            refine Within.viaEq ?_ e15 (fun h16 => ?_)
            · dsimp only
              exact h9
            · exact h16
          · refine Within.ite ?_ ?_
            · refine Within.then ?_ (frame_fix _ _ _) rfl rfl
              rename_i e17
              refine Within.viaEq ?_ e17 (fun h18 => ?_)
              · dsimp only
                exact h9
              · exact h18
            · refine Within.ite ?_ ?_
              · refine Within.then ?_ (frame_modRx _ _ _) rfl rfl
                rename_i e19
                refine Within.viaEq ?_ e19 (fun h20 => ?_)
                · dsimp only
                  exact h9
                · exact h20
              · refine Within.then ?_ (frame_modRx _ _ _) rfl rfl
                refine Within.then ?_ (frame_cacheLookup _ _ _ _) rfl rfl
                rename_i e21
                refine Within.viaEq ?_ e21 (fun h22 => ?_)
                · dsimp only
                  exact h9
                · exact h22

theorem frame_resolveBeacon (a0 : Nat) (a1 : Mhr) (s : State) :
    Within [.page 0x10, .page 0x11] [.slots, .fes, .lanes] s (resolveBeacon a0 a1 s) := by
  unfold Machine.resolveBeacon
  split
  · split
    · exact Within.refl _ _ _
    · extract_lets x0 x1
      refine Within.via x1.2 ?_ (fun h2 => ?_)
      · unfold x1
        refine Within.then ?_ (frame_useSlot _ _ _ _) rfl rfl
        exact Within.refl _ _ _
      · clear_value x1
        refine Within.ite ?_ ?_
        · refine Within.then ?_ (frame_modRx _ _ _) rfl rfl
          exact h2
        · exact h2
  · exact Within.refl _ _ _

theorem frame_resolveKey (a0 : Nat) (a1 : Nat) (s : State) :
    Within [.page 0x10, .page 0x11, .word 0x30 0x9c, .word 0x30 0x98, .word 0x30 0xa0] [.slots, .fes, .lanes, .cache] s (resolveKey a0 a1 s) := by
  unfold Machine.resolveKey
  extract_lets x0 x1 x2 x3
  generalize e4 : Machine.useSlot _ _ _ _ = p5
  obtain ⟨_, _⟩ := p5
  dsimp only
  refine Within.viaEq ?_ e4 (fun h6 => ?_)
  · refine Within.then ?_ (frame_useSlot _ _ _ _) rfl rfl
    exact Within.refl _ _ _
  · split
    · refine Within.then ?_ (frame_fix _ _ _) rfl rfl
      rename_i e10
      refine Within.viaEq ?_ e10 (fun h11 => ?_)
      · dsimp only
        exact h6
      · exact h11
    · refine Within.then ?_ (frame_fix _ _ _) rfl rfl
      rename_i e12
      refine Within.viaEq ?_ e12 (fun h13 => ?_)
      · dsimp only
        exact h6
      · exact h13
    · refine Within.ite ?_ ?_
      · refine Within.then ?_ (frame_fix _ _ _) rfl rfl
        rename_i e14
        refine Within.viaEq ?_ e14 (fun h15 => ?_)
        · dsimp only
          exact h6
        · exact h15
      · split
        · refine Within.then ?_ (frame_modRx _ _ _) rfl rfl
          refine Within.then ?_ (frame_cacheLookup _ _ _ _) rfl rfl
          rename_i e16 _ _ _ _ _
          refine Within.viaEq ?_ e16 (fun h17 => ?_)
          · dsimp only
            exact h6
          · exact h17
        · refine Within.then ?_ (frame_modRx _ _ _) rfl rfl
          rename_i e18 _ _ _
          refine Within.viaEq ?_ e18 (fun h19 => ?_)
          · dsimp only
            exact h6
          · exact h19

theorem frame_auxHeader (a0 : Nat) (a1 : Nat) (a2 : Bool) (a3 : Nat) (a4 : Nat) (a5 : Nat) (s : State) :
    Within [.page 0x10, .page 0x11, .word 0x30 0x9c, .word 0x30 0x98, .word 0x30 0xa0] [.fes, .lanes, .slots, .cache] s (auxHeader a0 a1 a2 a3 a4 a5 s) := by
  unfold Machine.auxHeader
  extract_lets x0 x1
  split
  · exact Within.refl _ _ _
  · refine Within.ite ?_ ?_
    · exact Within.refl _ _ _
    · extract_lets x2
      refine Within.via x2 ?_ (fun h3 => ?_)
      · unfold x2
        refine Within.then ?_ (frame_modLane _ _ _) rfl rfl
        exact Within.refl _ _ _
      · clear_value x2
        split
        · refine Within.ite ?_ ?_
          · exact h3
          · refine Within.ite ?_ ?_
            · refine Within.then ?_ (frame_fix _ _ _) rfl rfl
              exact h3
            · refine Within.then ?_ (frame_resolveAck _ _) rfl rfl
              exact h3
        · refine Within.ite ?_ ?_
          · refine Within.then ?_ (frame_fix _ _ _) rfl rfl
            exact h3
          · refine Within.then ?_ (frame_resolveBeacon _ _ _) rfl rfl
            exact h3
        · refine Within.ite ?_ ?_
          · refine Within.then ?_ (frame_noSecurity _ _) rfl rfl
            exact h3
          · refine Within.ite ?_ ?_
            · refine Within.then ?_ (frame_fix _ _ _) rfl rfl
              exact h3
            · refine Within.ite ?_ ?_
              · refine Within.then ?_ (frame_fix _ _ _) rfl rfl
                exact h3
              · refine Within.ite ?_ ?_
                · refine Within.then ?_ (frame_fix _ _ _) rfl rfl
                  exact h3
                · refine Within.ite ?_ ?_
                  · refine Within.then ?_ (frame_fix _ _ _) rfl rfl
                    exact h3
                  · refine Within.then ?_ (frame_resolveKey _ _ _) rfl rfl
                    exact h3

theorem frame_cacheInsert (a0 : Nat) (a1 : Nat) (a2 : Nat) (s : State) :
    Within [.word 0x30 0x98] [.cache] s (cacheInsert a0 a1 a2 s) := by
  unfold Machine.cacheInsert
  extract_lets x0 x1 x2
  refine Within.then ?_ (frame_setCache _ _) rfl rfl
  exact Within.refl _ _ _

theorem frame_keyReady (a0 : Nat) (s : State) :
    Within [.page 0x10, .page 0x11, .word 0x30 0xa4, .page 0x31, .word 0x30 0x98, .page 0x1b, .word 0x20 0xdc, .word 0x20 0xd8, .word 0x20 0xd4, .word 0x20 0xd0, .word 0x19 0xa4, .word 0x19 0xa8, .word 0x19 0xac, .word 0x19 0xb0, .word 0x19 0xb4, .word 0x19 0xb8] [.fes, .lanes, .cache, .nodes, .ddr, .ledger] s (keyReady a0 s) := by
  unfold Machine.keyReady
  extract_lets x0 x1
  split
  · exact Within.refl _ _ _
  · refine Within.ite ?_ ?_
    · exact Within.refl _ _ _
    · extract_lets x2 x3
      refine Within.via x3 ?_ (fun h4 => ?_)
      · unfold x3
        split
        · refine Within.ite ?_ ?_
          · refine Within.then ?_ (frame_cacheInsert _ _ _ _) rfl rfl
            exact Within.refl _ _ _
          · exact Within.refl _ _ _
        · exact Within.refl _ _ _
      · clear_value x3
        refine Within.ite ?_ ?_
        · refine Within.then ?_ (frame_fix _ _ _) rfl rfl
          refine Within.inc ?_ (inScopes_of rfl)
          exact Within.refl _ _ _
        · generalize e5 : Machine.takeEngine _ = p6
          obtain ⟨_, _⟩ := p6
          refine Within.viaEq ?_ e5 (fun h7 => ?_)
          · refine Within.then ?_ (frame_takeEngine _) rfl rfl
            exact h4
          · split
            · refine Within.then ?_ (frame_endLane _ _ _) rfl rfl
              rename_i e11
              refine Within.viaEq ?_ e11 (fun h12 => ?_)
              · dsimp only
                exact h7
              · exact h12
            · refine Within.then ?_ (frame_modRx _ _ _) rfl rfl
              rename_i e13
              refine Within.viaEq ?_ e13 (fun h14 => ?_)
              · dsimp only
                exact h7
              · exact h14

theorem frame_releaseDrained (a0 : Nat) (a1 : Option Disp) (s : State) :
    Within [.page 0x10, .page 0x11, .page 0x31] [.fes, .lanes] s (releaseDrained a0 a1 s) := by
  unfold Machine.releaseDrained
  refine Within.ite ?_ ?_
  · refine Within.then ?_ (frame_modLane _ _ _) rfl rfl
    exact Within.refl _ _ _
  · refine Within.then ?_ (frame_releaseLane _ _ _) rfl rfl
    exact Within.refl _ _ _

theorem frame_endVerdict (a0 : Nat) (a1 : Disp) (s : State) :
    Within [.page 0x10, .page 0x11, .page 0x31, .page 0x1b, .word 0x20 0xdc, .word 0x20 0xd8, .word 0x20 0xd4, .word 0x20 0xd0, .word 0x19 0xa4, .word 0x19 0xa8, .word 0x19 0xac, .word 0x19 0xb0, .word 0x19 0xb4, .word 0x19 0xb8] [.fes, .lanes, .nodes, .ddr, .ledger] s (endVerdict a0 a1 s) := by
  unfold Machine.endVerdict
  extract_lets x0
  refine Within.ite ?_ ?_
  · exact Within.refl _ _ _
  · refine Within.then ?_ (frame_releaseDrained _ _ _) rfl rfl
    refine Within.then ?_ (frame_closeLane _ _ _) rfl rfl
    exact Within.refl _ _ _

theorem frame_answerFrom (a0 : Lane) (s : State) :
    Within [.word 0x19 0xe4, .word 0x4a 0x84, .word 0x19 0xe0] [] s ((answerFrom a0 s).2) := by
  unfold Machine.answerFrom
  split
  · dsimp only
    refine Within.inc ?_ (inScopes_of rfl)
    exact Within.refl _ _ _
  · split
    · dsimp only
      refine Within.inc ?_ (inScopes_of rfl)
      exact Within.refl _ _ _
    · split
      · dsimp only
        exact Within.refl _ _ _
      · split
        · dsimp only
          refine Within.inc ?_ (inScopes_of rfl)
          exact Within.refl _ _ _
        · split
          · dsimp only
            refine Within.inc ?_ (inScopes_of rfl)
            exact Within.refl _ _ _
          · split
            · dsimp only
              exact Within.refl _ _ _
            · dsimp only
              exact Within.refl _ _ _

theorem frame_withheld (s : State) :
    Within [.word 0xc 0x54] [] s (withheld s) := by
  unfold Machine.withheld
  refine Within.inc ?_ (inScopes_of rfl)
  exact Within.refl _ _ _

theorem frame_answerEntry (a0 : Nat) (a1 : Nat) (a2 : Nat) (a3 : Nat) (s : State) :
    Within [.word 0xc 0x54, .word 0xc 0x14, .word 0xc 0x4c, .word 0xc 0x50, .word (0x8 + a0 % 4) 0x68] [] s ((answerEntry a0 a1 a2 a3 s).2) := by
  unfold Machine.answerEntry
  split
  · dsimp only
    refine Within.then ?_ (frame_withheld _) rfl rfl
    refine Within.then ?_ (frame_regCeiling _) rfl rfl
    exact Within.refl _ _ _
  · split
    · dsimp only
      refine Within.then ?_ (frame_withheld _) rfl rfl
      refine Within.then ?_ (frame_regCeiling _) rfl rfl
      exact Within.refl _ _ _
    · split
      · dsimp only
        refine Within.then ?_ (frame_withheld _) rfl rfl
        refine Within.after ?_ (frame_refusePower _ _ _ _) (amongCons rfl (amongCons rfl (amongCons (amongAt 4 rfl) amongNil))) rfl
        exact Within.refl _ _ _
      · split
        · dsimp only
          refine Within.then ?_ (frame_withheld _) rfl rfl
          exact Within.refl _ _ _
        · split
          · dsimp only
            exact Within.refl _ _ _
          · split
            · dsimp only
              exact Within.refl _ _ _
            · dsimp only
              refine Within.then ?_ (frame_withheld _) rfl rfl
              refine Within.latch ?_ (inScopes_of rfl)
              refine Within.inc ?_ (inScopes_of rfl)
              exact Within.refl _ _ _
            · dsimp only
              refine Within.then ?_ (frame_withheld _) rfl rfl
              exact Within.refl _ _ _

theorem frame_sendAnswer (a0 : Nat) (a1 : Tx) (s : State) :
    Within [.page 0x10, .page 0x11, .page 0x31, .page 0x1b, .word 0x20 0xdc, .word 0x20 0xd8, .word 0x20 0xd4, .word 0x20 0xd0, .word 0x19 0xa4, .word 0x19 0xa8, .word 0x19 0xac, .word 0x19 0xb0, .word 0x19 0xb4, .word 0x19 0xb8, .word 0xc 0x14, .word 0xc 0x4c, .page 0xd, .page 0x24, .page 0x25, .page 0x26, .page 0x27, .word 0x21 0x50, .word 0x21 0x4c, .word 0x21 0x14, .word 0x21 0x31c, .word 0x19 0xf4, .word 0x21 0x320, .word 0x21 0x310, .word (0x8 + a0 % 4) 0x5c, .word (0x8 + a0 % 4) 0x4c, .word (0x8 + a0 % 4) 0x6c, .word (0x8 + a0 % 4) 0x68] [.lanes, .fes, .nodes, .ddr, .ledger, .scheds, .duty, .frames] s (sendAnswer a0 a1 s) := by
  unfold Machine.sendAnswer
  extract_lets x0
  refine Within.via x0 ?_ (fun h1 => ?_)
  · unfold x0
    refine Within.ite ?_ ?_
    · refine Within.then ?_ (frame_closeWait _ _) rfl rfl
      exact Within.refl _ _ _
    · exact Within.refl _ _ _
  · clear_value x0
    refine Within.after ?_ (frame_enterRxTx _ _ _) (amongCons rfl (amongCons rfl (amongCons rfl (amongCons rfl (amongCons rfl (amongCons rfl (amongCons rfl (amongCons rfl (amongCons rfl (amongCons rfl (amongCons rfl (amongCons rfl (amongCons rfl (amongCons rfl (amongCons (amongAt 28 rfl) (amongCons (amongAt 29 rfl) amongNil)))))))))))))))) rfl
    refine Within.after ?_ (frame_startPower _ _ _ _) (amongCons rfl (amongCons rfl (amongCons (amongAt 30 rfl) (amongCons (amongAt 31 rfl) amongNil)))) rfl
    refine Within.then ?_ (frame_raiseReq _ _ _) rfl rfl
    exact h1

theorem frame_blindAdd (a0 : Nat) (a1 : Nat) (s : State) :
    Within [.word (0x24 + a0 % 4) 0x4c] [.scheds] s (blindAdd a0 a1 s) := by
  unfold Machine.blindAdd
  refine Within.after ?_ (frame_showBlind _ _) (amongCons (by simp [Scope.among, fePage, schedPage, ethPage, ethStatPage]) amongNil) rfl
  refine Within.then ?_ (frame_modSched _ _ _) rfl rfl
  exact Within.refl _ _ _

theorem frame_dwellAdd (a0 : Nat) (a1 : Nat) (a2 : Nat) (a3 : Nat) (a4 : Nat) (s : State) :
    Within [] [.scheds] s (dwellAdd a0 a1 a2 a3 a4 s) := by
  unfold Machine.dwellAdd
  refine Within.ite ?_ ?_
  · exact Within.refl _ _ _
  · extract_lets x0 x1
    refine Within.then ?_ (frame_modSched _ _ _) rfl rfl
    exact Within.refl _ _ _

theorem frame_chargeAnswer (a0 : Nat) (a1 : Nat) (a2 : Nat) (a3 : Nat) (a4 : Nat) (s : State) :
    Within [.word (0x24 + a0 % 4) 0x4c] [.scheds] s (chargeAnswer a0 a1 a2 a3 a4 s) := by
  unfold Machine.chargeAnswer
  refine Within.after ?_ (frame_blindAdd _ _ _) (amongCons (amongAt 0 rfl) amongNil) rfl
  refine Within.then ?_ (frame_dwellAdd _ _ _ _ _ _) rfl rfl
  exact Within.refl _ _ _

theorem frame_answer (a0 : Lane) (a1 : Bool) (a2 : Bool) (a3 : Option MeshIe) (s : State) :
    Within [.word 0x19 0xe4, .word 0x4a 0x84, .word 0x19 0xe0, .word 0xc 0x54, .word 0xc 0x14, .word 0xc 0x4c, .word 0xc 0x50, .word 0x8 0x68, .word 0x9 0x68, .word 0xa 0x68, .word 0xb 0x68, .page 0x10, .page 0x11, .page 0x31, .page 0x1b, .word 0x20 0xdc, .word 0x20 0xd8, .word 0x20 0xd4, .word 0x20 0xd0, .word 0x19 0xa4, .word 0x19 0xa8, .word 0x19 0xac, .word 0x19 0xb0, .word 0x19 0xb4, .word 0x19 0xb8, .page 0xd, .page 0x24, .page 0x25, .page 0x26, .page 0x27, .word 0x21 0x50, .word 0x21 0x4c, .word 0x21 0x14, .word 0x21 0x31c, .word 0x19 0xf4, .word 0x21 0x320, .word 0x21 0x310, .word 0x8 0x5c, .word 0x9 0x5c, .word 0xa 0x5c, .word 0xb 0x5c, .word 0x8 0x4c, .word 0x9 0x4c, .word 0xa 0x4c, .word 0xb 0x4c, .word 0x8 0x6c, .word 0x9 0x6c, .word 0xa 0x6c, .word 0xb 0x6c, .word 0x19 0xd8, .word 0x19 0xc8] [.lanes, .fes, .nodes, .ddr, .ledger, .scheds, .duty, .frames] s (answer a0 a1 a2 a3 s) := by
  unfold Machine.answer
  split
  · exact Within.refl _ _ _
  · refine Within.ite ?_ ?_
    · exact Within.refl _ _ _
    · generalize e0 : Machine.answerFrom _ _ = p1
      obtain ⟨_, _⟩ := p1
      dsimp only
      refine Within.viaEq ?_ e0 (fun h2 => ?_)
      · refine Within.then ?_ (frame_answerFrom _ _) rfl rfl
        exact Within.refl _ _ _
      · split
        · rename_i e6
          refine Within.viaEq ?_ e6 (fun h7 => ?_)
          · dsimp only
            exact h2
          · exact h7
        · split
          · generalize e8 : Machine.answerEntry _ _ _ _ _ = p9
            obtain ⟨_, _⟩ := p9
            refine Within.viaEq ?_ e8 (fun h10 => ?_)
            · refine Within.after ?_ (frame_answerEntry _ _ _ _ _) (amongCons rfl (amongCons rfl (amongCons rfl (amongCons rfl (amongCons (amongW4 rfl) amongNil))))) rfl
              rename_i e11 _ _ _ _
              refine Within.viaEq ?_ e11 (fun h12 => ?_)
              · dsimp only
                exact h2
              · exact h12
            · split
              · rename_i e16
                refine Within.viaEq ?_ e16 (fun h17 => ?_)
                · dsimp only
                  exact h10
                · exact h17
              · refine Within.after ?_ (frame_sendAnswer _ _ _) (amongCons rfl (amongCons rfl (amongCons rfl (amongCons rfl (amongCons rfl (amongCons rfl (amongCons rfl (amongCons rfl (amongCons rfl (amongCons rfl (amongCons rfl (amongCons rfl (amongCons rfl (amongCons rfl (amongCons rfl (amongCons rfl (amongCons rfl (amongCons rfl (amongCons rfl (amongCons rfl (amongCons rfl (amongCons rfl (amongCons rfl (amongCons rfl (amongCons rfl (amongCons rfl (amongCons rfl (amongCons rfl (amongCons (amongW4 rfl) (amongCons (amongW4 rfl) (amongCons (amongW4 rfl) (amongCons (amongW4 rfl) amongNil)))))))))))))))))))))))))))))))) rfl
                refine Within.after ?_ (frame_chargeAnswer _ _ _ _ _ _) (amongCons (amongW4 rfl) amongNil) rfl
                refine Within.ite ?_ ?_
                · refine Within.inc ?_ (inScopes_of rfl)
                  refine Within.ite ?_ ?_
                  · refine Within.inc ?_ (inScopes_of rfl)
                    rename_i e18
                    refine Within.viaEq ?_ e18 (fun h19 => ?_)
                    · dsimp only
                      exact h10
                    · exact h19
                  · rename_i e20
                    refine Within.viaEq ?_ e20 (fun h21 => ?_)
                    · dsimp only
                      exact h10
                    · exact h21
                · refine Within.ite ?_ ?_
                  · refine Within.inc ?_ (inScopes_of rfl)
                    rename_i e22
                    refine Within.viaEq ?_ e22 (fun h23 => ?_)
                    · dsimp only
                      exact h10
                    · exact h23
                  · rename_i e24
                    refine Within.viaEq ?_ e24 (fun h25 => ?_)
                    · dsimp only
                      exact h10
                    · exact h25
          · generalize e26 : Machine.answerEntry _ _ _ _ _ = p27
            obtain ⟨_, _⟩ := p27
            refine Within.viaEq ?_ e26 (fun h28 => ?_)
            · refine Within.after ?_ (frame_answerEntry _ _ _ _ _) (amongCons rfl (amongCons rfl (amongCons rfl (amongCons rfl (amongCons (amongW4 rfl) amongNil))))) rfl
              rename_i e29 _ _ _ _ _ _ _
              refine Within.viaEq ?_ e29 (fun h30 => ?_)
              · dsimp only
                exact h2
              · exact h30
            · split
              · rename_i e34
                refine Within.viaEq ?_ e34 (fun h35 => ?_)
                · dsimp only
                  exact h28
                · exact h35
              · refine Within.after ?_ (frame_sendAnswer _ _ _) (amongCons rfl (amongCons rfl (amongCons rfl (amongCons rfl (amongCons rfl (amongCons rfl (amongCons rfl (amongCons rfl (amongCons rfl (amongCons rfl (amongCons rfl (amongCons rfl (amongCons rfl (amongCons rfl (amongCons rfl (amongCons rfl (amongCons rfl (amongCons rfl (amongCons rfl (amongCons rfl (amongCons rfl (amongCons rfl (amongCons rfl (amongCons rfl (amongCons rfl (amongCons rfl (amongCons rfl (amongCons rfl (amongCons (amongW4 rfl) (amongCons (amongW4 rfl) (amongCons (amongW4 rfl) (amongCons (amongW4 rfl) amongNil)))))))))))))))))))))))))))))))) rfl
                refine Within.then ?_ (frame_modFe _ _ _) rfl rfl
                refine Within.then ?_ (frame_setFrame _ _ _) rfl rfl
                rename_i e36
                refine Within.viaEq ?_ e36 (fun h37 => ?_)
                · dsimp only
                  exact h28
                · exact h37

theorem frame_deliverItem (a0 : Item) (s : State) :
    Within [] [.delivered] s (deliverItem a0 s) := by
  unfold Machine.deliverItem
  refine Within.set_delivered ?_ (by decide)
  exact Within.refl _ _ _

theorem frame_deliver (a0 : Nat) (a1 : Item) (s : State) :
    Within [.page 0x1b, .word 0x20 0xdc, .word 0x20 0xd8, .word 0x20 0xd4, .word 0x20 0xd0, .word 0x21 0x324, .word 0x21 0x304, .word 0x21 0x328] [.nodes, .ddr, .ledger, .delivered] s (deliver a0 a1 s) := by
  unfold Machine.deliver
  refine Within.ite ?_ ?_
  · refine Within.then ?_ (frame_endItem _ _ _) rfl rfl
    exact Within.refl _ _ _
  · extract_lets x0 x1
    refine Within.via x0 ?_ (fun h2 => ?_)
    · unfold x0
      refine Within.inc ?_ (inScopes_of rfl)
      exact Within.refl _ _ _
    · clear_value x0
      refine Within.via x1 ?_ (fun h3 => ?_)
      · unfold x1
        refine Within.ite ?_ ?_
        · refine Within.inc ?_ (inScopes_of rfl)
          exact h2
        · refine Within.ite ?_ ?_
          · refine Within.inc ?_ (inScopes_of rfl)
            exact h2
          · exact h2
      · clear_value x1
        refine Within.then ?_ (frame_deliverItem _ _) rfl rfl
        exact h3

theorem frame_noContext (a0 : Item) (s : State) :
    Within [.page 0x1b, .word 0x20 0xdc, .word 0x20 0xd8, .word 0x20 0xd4, .word 0x20 0xd0, .word 0x22 0x14, .word 0x22 0x68] [.nodes, .ddr, .ledger] s (noContext a0 s) := by
  unfold Machine.noContext
  refine Within.then ?_ (frame_endItem _ _ _) rfl rfl
  refine Within.latch ?_ (inScopes_of rfl)
  refine Within.inc ?_ (inScopes_of rfl)
  exact Within.refl _ _ _

theorem frame_packetQueued (a0 : Packet) (s : State) :
    Within [.word 0x4c 0x14, .word 0x4c 0x50, .word 0x4c 0x4c, .word 0x4c 0x48, .word 0x4c 0x44, .page 0x41] [.notices, .rings, .ddr] s (packetQueued a0 s) := by
  unfold Machine.packetQueued
  split
  · refine Within.then ?_ (frame_returnSlot _ _ _ _ _) rfl rfl
    exact Within.refl _ _ _
  · exact Within.refl _ _ _

theorem frame_deliverPacket (a0 : Nat) (a1 : Packet) (s : State) :
    Within [.word 0x4c 0x14, .word 0x4c 0x50, .word 0x4c 0x4c, .word 0x4c 0x48, .word 0x4c 0x44, .page 0x41, .page 0x1b, .word 0x20 0xdc, .word 0x20 0xd8, .word 0x20 0xd4, .word 0x20 0xd0, .word 0x21 0x324, .word 0x21 0x304, .word 0x21 0x328] [.notices, .rings, .ddr, .nodes, .ledger, .delivered] s (deliverPacket a0 a1 s) := by
  unfold Machine.deliverPacket
  extract_lets x0 x1 x2
  refine Within.then ?_ (frame_packetQueued _ _) rfl rfl
  refine Within.then ?_ (frame_deliver _ _ _) rfl rfl
  exact Within.refl _ _ _

theorem frame_deliverTo (a0 : Nat) (a1 : Packet) (s : State) :
    Within [.word 0x4c 0x14, .word 0x4c 0x50, .word 0x4c 0x4c, .word 0x4c 0x48, .word 0x4c 0x44, .page 0x41, .page 0x1b, .word 0x20 0xdc, .word 0x20 0xd8, .word 0x20 0xd4, .word 0x20 0xd0, .word 0x21 0x324, .word 0x21 0x304, .word 0x21 0x328] [.notices, .rings, .ddr, .nodes, .ledger, .delivered] s (deliverTo a0 a1 s) := by
  unfold Machine.deliverTo
  refine Within.then ?_ (frame_deliverPacket _ _ _) rfl rfl
  exact Within.refl _ _ _

theorem frame_hopRule (a0 : Packet) (s : State) :
    Within [.word 0x4c 0x14, .word 0x4c 0x50, .word 0x4c 0x4c, .word 0x4c 0x48, .word 0x4c 0x44, .page 0x41, .page 0x1b, .word 0x20 0xdc, .word 0x20 0xd8, .word 0x20 0xd4, .word 0x20 0xd0, .word 0x21 0x14, .word 0x21 0x318] [.notices, .rings, .ddr, .nodes, .ledger] s ((hopRule a0 s).2) := by
  unfold Machine.hopRule
  split
  · dsimp only
    exact Within.refl _ _ _
  · split
    · split
      · dsimp only
        refine Within.then ?_ (frame_endPacket _ _ _) rfl rfl
        refine Within.latch ?_ (inScopes_of rfl)
        refine Within.inc ?_ (inScopes_of rfl)
        exact Within.refl _ _ _
      · dsimp only
        exact Within.refl _ _ _
    · split
      · dsimp only
        refine Within.then ?_ (frame_endPacket _ _ _) rfl rfl
        refine Within.latch ?_ (inScopes_of rfl)
        refine Within.inc ?_ (inScopes_of rfl)
        exact Within.refl _ _ _
      · dsimp only
        exact Within.refl _ _ _

theorem frame_police (a0 : Nat) (a1 : Nat) (s : State) :
    Within [.page 0x28] [.meters] s ((police a0 a1 s).2) := by
  unfold Machine.police
  split
  · dsimp only
    exact Within.refl _ _ _
  · split
    · dsimp only
      refine Within.inc ?_ (inScopes_meter (by decide) (fun _ => rfl) (fun _ => rfl))
      exact Within.refl _ _ _
    · extract_lets x0 x1 x2 x3 x4 x5 x6 x7 x8 x9 x10
      refine Within.via x8 ?_ (fun h11 => ?_)
      · unfold x8
        refine Within.set_meters ?_ (by decide)
        exact Within.refl _ _ _
      · clear_value x8
        refine Within.via x9 ?_ (fun h12 => ?_)
        · unfold x9
          refine Within.wr ?_ (inScopes_meter (by decide) (fun _ => rfl) (fun _ => rfl))
          exact h11
        · clear_value x9
          refine Within.via x10 ?_ (fun h13 => ?_)
          · unfold x10
            refine Within.wr ?_ (inScopes_meter (by decide) (fun _ => rfl) (fun _ => rfl))
            exact h12
          · clear_value x10
            clear_value x5
            split
            · dsimp only
              refine Within.inc ?_ (inScopes_meter (by decide) (fun _ => rfl) (fun _ => rfl))
              exact h13
            · dsimp only
              refine Within.inc ?_ (inScopes_meter (by decide) (fun _ => rfl) (fun _ => rfl))
              exact h13
            · dsimp only
              refine Within.latch ?_ (inScopes_of rfl)
              refine Within.inc ?_ (inScopes_meter (by decide) (fun _ => rfl) (fun _ => rfl))
              exact h13

theorem frame_enterDown (a0 : Nat) (a1 : Bool) (s : State) :
    Within [.page 0x24, .page 0x25, .page 0x26, .page 0x27, .word 0x21 0x50, .word 0x21 0x4c, .page 0x1b, .word 0x20 0xdc, .word 0x20 0xd8, .word 0x20 0xd4, .word 0x20 0xd0, .word 0x19 0xb4, .word 0x21 0x320, .word 0x21 0x310, .word 0xc 0x14, .word 0xc 0x4c, .word 0x21 0x30c] [.nodes, .ddr, .ledger, .scheds, .fes, .duty, .frames] s (enterDown a0 a1 s) := by
  unfold Machine.enterDown
  split
  · exact Within.refl _ _ _
  · refine Within.ite ?_ ?_
    · exact Within.refl _ _ _
    · refine Within.ite ?_ ?_
      · refine Within.then ?_ (frame_endFrame _ _ _) rfl rfl
        exact Within.refl _ _ _
      · refine Within.ite ?_ ?_
        · refine Within.then ?_ (frame_storePending _ _) rfl rfl
          exact Within.refl _ _ _
        · extract_lets x0
          refine Within.via x0 ?_ (fun h1 => ?_)
          · unfold x0
            refine Within.then ?_ (frame_enqueue _ _) rfl rfl
            exact Within.refl _ _ _
          · clear_value x0
            refine Within.ite ?_ ?_
            · exact h1
            · refine Within.inc ?_ (inScopes_of rfl)
              exact h1

theorem frame_afterEntry (a0 : Packet) (s : State) :
    Within [.word 0x4c 0x14, .word 0x4c 0x50, .word 0x4c 0x4c, .word 0x4c 0x48, .word 0x4c 0x44, .page 0x41] [.notices, .rings, .ddr] s (afterEntry a0 s) := by
  unfold Machine.afterEntry
  split
  · exact Within.refl _ _ _
  · split
    · refine Within.then ?_ (frame_returnSlot _ _ _ _ _) rfl rfl
      exact Within.refl _ _ _
    · refine Within.then ?_ (frame_returnSlot _ _ _ _ _) rfl rfl
      exact Within.refl _ _ _

theorem frame_uplinkEthernet (a0 : Packet) (a1 : Nat) (s : State) :
    Within [.word 0x4c 0x14, .word 0x4c 0x50, .word 0x4c 0x4c, .word 0x4c 0x48, .word 0x4c 0x44, .page 0x41, .page 0x1b, .word 0x20 0xdc, .word 0x20 0xd8, .word 0x20 0xd4, .word 0x20 0xd0, .word 0x21 0x324, .word 0x21 0x304, .word 0x21 0x328, .word 0x21 0x14, .word 0x21 0x318, .page 0x28, .word 0x3 0x5c, .word 0x21 0x300, .word 0x3 0x58] [.notices, .rings, .ddr, .nodes, .ledger, .delivered, .meters, .ports] s (uplinkEthernet a0 a1 s) := by
  unfold Machine.uplinkEthernet
  extract_lets x0
  refine Within.ite ?_ ?_
  · refine Within.then ?_ (frame_deliverPacket _ _ _) rfl rfl
    exact Within.refl _ _ _
  · generalize e1 : Machine.hopRule _ _ = p2
    obtain ⟨_, _⟩ := p2
    dsimp only
    refine Within.viaEq ?_ e1 (fun h3 => ?_)
    · refine Within.then ?_ (frame_hopRule _ _) rfl rfl
      exact Within.refl _ _ _
    · split
      · rename_i e7
        refine Within.viaEq ?_ e7 (fun h8 => ?_)
        · dsimp only
          exact h3
        · exact h8
      · generalize e9 : Machine.police _ _ _ = p10
        obtain ⟨_, _⟩ := p10
        refine Within.viaEq ?_ e9 (fun h11 => ?_)
        · refine Within.then ?_ (frame_police _ _ _) rfl rfl
          rename_i e12 _ _
          refine Within.viaEq ?_ e12 (fun h13 => ?_)
          · dsimp only
            exact h3
          · exact h13
        · split
          · refine Within.then ?_ (frame_endPacket _ _ _) rfl rfl
            rename_i e17
            refine Within.viaEq ?_ e17 (fun h18 => ?_)
            · dsimp only
              exact h11
            · exact h18
          · refine Within.ite ?_ ?_
            · refine Within.then ?_ (frame_endPacket _ _ _) rfl rfl
              rename_i e19
              refine Within.viaEq ?_ e19 (fun h20 => ?_)
              · dsimp only
                exact h11
              · exact h20
            · refine Within.ite ?_ ?_
              · refine Within.then ?_ (frame_endPacket _ _ _) rfl rfl
                refine Within.inc ?_ (inScopes_of rfl)
                rename_i e21
                refine Within.viaEq ?_ e21 (fun h22 => ?_)
                · dsimp only
                  exact h11
                · exact h22
              · refine Within.then ?_ (frame_modPort _ _ _) rfl rfl
                refine Within.inc ?_ (inScopes_of rfl)
                refine Within.ite ?_ ?_
                · refine Within.inc ?_ (inScopes_of rfl)
                  rename_i e23
                  refine Within.viaEq ?_ e23 (fun h24 => ?_)
                  · dsimp only
                    exact h11
                  · exact h24
                · rename_i e25
                  refine Within.viaEq ?_ e25 (fun h26 => ?_)
                  · dsimp only
                    exact h11
                  · exact h26

theorem frame_writeRecord (a0 : Lane) (a1 : Nat) (a2 : Nat) (a3 : Nat) (a4 : Figures) (a5 : Option MeshIe) (s : State) :
    Within [.page 0x1b, .word 0x20 0xdc, .word 0x20 0xd8, .word 0x20 0xd4, .word 0x20 0xd0] [.nodes, .ddr] s (writeRecord a0 a1 a2 a3 a4 a5 s) := by
  unfold Machine.writeRecord
  refine Within.then ?_ (frame_modNode _ _ _) rfl rfl
  exact Within.refl _ _ _

theorem frame_learn (a0 : Nat) (a1 : MeshPath) (s : State) :
    Within [.page 0x1b, .word 0x20 0xdc, .word 0x20 0xd8, .word 0x20 0xd4, .word 0x20 0xd0, .word 0x3 0x60, .word 0x20 0x14, .word 0x20 0xa8, .word 0x20 0xa0, .word 0x20 0xa4] [.nodes, .ddr] s (learn a0 a1 s) := by
  unfold Machine.learn
  extract_lets x0 x1 x2 x3
  refine Within.via x1 ?_ (fun h4 => ?_)
  · unfold x1
    refine Within.then ?_ (frame_modNode _ _ _) rfl rfl
    exact Within.refl _ _ _
  · clear_value x1
    refine Within.via x2 ?_ (fun h5 => ?_)
    · unfold x2
      refine Within.then ?_ (frame_modNode _ _ _) rfl rfl
      exact Within.refl _ _ _
    · clear_value x2
      refine Within.via x3 ?_ (fun h6 => ?_)
      · unfold x3
        refine Within.ite ?_ ?_
        · refine Within.ite ?_ ?_
          · refine Within.inc ?_ (inScopes_of rfl)
            exact Within.refl _ _ _
          · exact Within.refl _ _ _
        · refine Within.ite ?_ ?_
          · refine Within.ite ?_ ?_
            · exact Within.refl _ _ _
            · refine Within.latch ?_ (inScopes_of rfl)
              refine Within.inc ?_ (inScopes_of rfl)
              exact h4
          · refine Within.ite ?_ ?_
            · refine Within.latch ?_ (inScopes_of rfl)
              refine Within.inc ?_ (inScopes_of rfl)
              refine Within.then ?_ (frame_modNode _ _ _) rfl rfl
              exact Within.refl _ _ _
            · refine Within.ite ?_ ?_
              · exact Within.refl _ _ _
              · refine Within.latch ?_ (inScopes_of rfl)
                refine Within.inc ?_ (inScopes_of rfl)
                exact h5
      · clear_value x3
        refine Within.then ?_ (frame_modNode _ _ _) rfl rfl
        exact h6

theorem frame_learnFrame (a0 : Nat) (a1 : Nat) (a2 : Nat) (a3 : Nat) (a4 : Option PathIe) (s : State) :
    Within [.page 0x1b, .word 0x20 0xdc, .word 0x20 0xd8, .word 0x20 0xd4, .word 0x20 0xd0, .word 0x3 0x60, .word 0x20 0x14, .word 0x20 0xa8, .word 0x20 0xa0, .word 0x20 0xa4, .word 0x20 0xb4, .word 0x20 0xb0, .word 0x20 0xb8, .word 0x20 0xbc] [.nodes, .ddr] s (learnFrame a0 a1 a2 a3 a4 s) := by
  unfold Machine.learnFrame
  extract_lets x0 x1
  refine Within.via x1 ?_ (fun h2 => ?_)
  · unfold x1
    refine Within.then ?_ (frame_learn _ _ _) rfl rfl
    exact Within.refl _ _ _
  · clear_value x1
    refine Within.ite ?_ ?_
    · exact Within.refl _ _ _
    · split
      · exact h2
      · refine Within.ite ?_ ?_
        · refine Within.ite ?_ ?_
          · refine Within.inc ?_ (inScopes_of rfl)
            exact h2
          · refine Within.inc ?_ (inScopes_of rfl)
            exact h2
        · refine Within.ite ?_ ?_
          · exact h2
          · extract_lets x3 x4
            refine Within.via x4 ?_ (fun h5 => ?_)
            · unfold x4
              refine Within.then ?_ (frame_learn _ _ _) rfl rfl
              exact h2
            · clear_value x4
              refine Within.ite ?_ ?_
              · refine Within.inc ?_ (inScopes_of rfl)
                exact h2
              · refine Within.ite ?_ ?_
                · refine Within.latch ?_ (inScopes_of rfl)
                  refine Within.inc ?_ (inScopes_of rfl)
                  exact h2
                · refine Within.then ?_ (frame_nodeStat _ _ _) rfl rfl
                  refine Within.then ?_ (frame_modNode _ _ _) rfl rfl
                  exact h5

theorem frame_appointment (a0 : Lane) (a1 : Nat) (a2 : PollIe) (s : State) :
    Within [.page 0x1b, .word 0x20 0xdc, .word 0x20 0xd8, .word 0x20 0xd4, .word 0x20 0xd0, .word 0x19 0xec, .word 0x19 0xe8] [.nodes, .ddr] s (appointment a0 a1 a2 s) := by
  unfold Machine.appointment
  refine Within.ite ?_ ?_
  · exact Within.refl _ _ _
  · refine Within.ite ?_ ?_
    · refine Within.then ?_ (frame_modNode _ _ _) rfl rfl
      exact Within.refl _ _ _
    · refine Within.ite ?_ ?_
      · exact Within.refl _ _ _
      · extract_lets x0 x1 x2 x3 x4
        refine Within.via x4 ?_ (fun h5 => ?_)
        · unfold x4
          refine Within.then ?_ (frame_modNode _ _ _) rfl rfl
          exact Within.refl _ _ _
        · clear_value x4
          refine Within.ite ?_ ?_
          · refine Within.inc ?_ (inScopes_of rfl)
            exact Within.refl _ _ _
          · refine Within.inc ?_ (inScopes_of rfl)
            exact h5

theorem frame_hemalReport (a0 : Nat) (a1 : Nat) (a2 : HemalReport) (s : State) :
    Within [.page 0x29, .page 0x24, .page 0x25, .page 0x26, .page 0x27, .word 0x21 0x50, .word 0x21 0x4c, .page 0x1b, .word 0x20 0xdc, .word 0x20 0xd8, .word 0x20 0xd4, .word 0x20 0xd0, .word 0x19 0xb4, .word 0xc 0x14, .word 0xc 0x4c, .page 0x10, .page 0x31, .word 0x8 0x5c, .word 0x9 0x5c, .word 0xa 0x5c, .word 0xb 0x5c, .word 0x8 0x4c, .word 0x9 0x4c, .word 0xa 0x4c, .word 0xb 0x4c] [.ddr, .frameNumbers, .nodes, .ledger, .scheds, .fes, .duty, .frames, .campaigns, .lanes] s ((hemalReport a0 a1 a2 s).2) := by
  unfold Machine.hemalReport
  extract_lets x0 x1 x2 x3 x4 x5 x6 x7 x8 x9
  refine Within.via x5 ?_ (fun h10 => ?_)
  · unfold x5
    refine Within.set_ddr ?_ (by decide)
    exact Within.refl _ _ _
  · clear_value x5
    refine Within.via x6 ?_ (fun h11 => ?_)
    · unfold x6
      refine Within.moveCount ?_ (inScopes_of rfl)
      exact h10
    · clear_value x6
      refine Within.via x7 ?_ (fun h12 => ?_)
      · unfold x7
        refine Within.moveCount ?_ (inScopes_of rfl)
        exact h11
      · clear_value x7
        refine Within.via x8 ?_ (fun h13 => ?_)
        · unfold x8
          refine Within.inc ?_ (inScopes_of rfl)
          refine Within.moveCount ?_ (inScopes_of rfl)
          exact h12
        · clear_value x8
          split
          · dsimp only
            exact Within.refl _ _ _
          · split
            · dsimp only
              refine Within.ite ?_ ?_
              · refine Within.then ?_ (frame_endCampaign _ _ _) rfl rfl
                exact h13
              · exact h13
            · dsimp only
              refine Within.inc ?_ (inScopes_of rfl)
              exact Within.refl _ _ _

theorem frame_emptyAnswer (a0 : Nat) (a1 : Tx) (a2 : Fetch) (s : State) :
    Within [.word 0x24 0x4c, .word 0x25 0x4c, .word 0x26 0x4c, .word 0x27 0x4c, .word 0x19 0xd8] [.scheds, .fes] s (emptyAnswer a0 a1 a2 s) := by
  unfold Machine.emptyAnswer
  extract_lets x0 x1
  refine Within.via x1 ?_ (fun h2 => ?_)
  · unfold x1
    refine Within.then ?_ (frame_modFe _ _ _) rfl rfl
    exact Within.refl _ _ _
  · clear_value x1
    refine Within.after ?_ (frame_chargeAnswer _ _ _ _ _ _) (amongCons (amongW4 rfl) amongNil) rfl
    refine Within.inc ?_ (inScopes_of rfl)
    exact h2

theorem frame_dataAnswer (a0 : Nat) (a1 : Nat) (a2 : Tx) (a3 : Fetch) (a4 : Frame) (a5 : Option Nat) (a6 : Option Nat) (s : State) :
    Within [.page 0x19, .word 0x24 0x4c, .word 0x25 0x4c, .word 0x26 0x4c, .word 0x27 0x4c] [.frames, .scheds, .fes] s (dataAnswer a0 a1 a2 a3 a4 a5 a6 s) := by
  unfold Machine.dataAnswer
  generalize e0 : Machine.assignSeq _ _ _ = p1
  obtain ⟨_, _⟩ := p1
  dsimp only
  refine Within.viaEq ?_ e0 (fun h2 => ?_)
  · refine Within.then ?_ (frame_assignSeq _ _ _) rfl rfl
    exact Within.refl _ _ _
  · refine Within.after ?_ (frame_chargeAnswer _ _ _ _ _ _) (amongCons (amongW4 rfl) amongNil) rfl
    refine Within.inc ?_ (inScopes_of rfl)
    refine Within.then ?_ (frame_modFe _ _ _) rfl rfl
    refine Within.then ?_ (frame_setFrame _ _ _) rfl rfl
    exact h2

theorem frame_pollFetch (a0 : Nat) (a1 : Bool) (s : State) :
    Within [.page 0x24, .page 0x25, .page 0x26, .page 0x27, .word 0x21 0x50, .word 0x21 0x4c, .page 0x1b, .word 0x20 0xdc, .word 0x20 0xd8, .word 0x20 0xd4, .word 0x20 0xd0, .word 0x21 0x14, .word 0x21 0x31c, .word 0x30 0xac, .page 0x19, .page 0x31] [.scheds, .fes, .nodes, .ddr, .ledger, .duty, .frames, .slots] s (pollFetch a0 a1 s) := by
  unfold Machine.pollFetch
  split
  · split
    · split
      · refine Within.then ?_ (frame_emptyAnswer _ _ _ _) rfl rfl
        exact Within.refl _ _ _
      · extract_lets x0
        refine Within.ite ?_ ?_
        · refine Within.then ?_ (frame_emptyAnswer _ _ _ _) rfl rfl
          refine Within.then ?_ (frame_backToPending _ _) rfl rfl
          refine Within.latch ?_ (inScopes_of rfl)
          refine Within.inc ?_ (inScopes_of rfl)
          exact Within.refl _ _ _
        · split
          · refine Within.then ?_ (frame_emptyAnswer _ _ _ _) rfl rfl
            refine Within.then ?_ (frame_endFrame _ _ _) rfl rfl
            rename_i e4
            refine Within.viaEq ?_ e4 (fun h5 => ?_)
            · split
              · refine Within.then ?_ (frame_keyCheck _ _) rfl rfl
                exact Within.refl _ _ _
              · dsimp only
                exact Within.refl _ _ _
            · exact h5
          · refine Within.ite ?_ ?_
            · refine Within.then ?_ (frame_emptyAnswer _ _ _ _) rfl rfl
              refine Within.then ?_ (frame_endFrame _ _ _) rfl rfl
              refine Within.then ?_ (frame_takeCounter _ _) rfl rfl
              rename_i e6
              refine Within.viaEq ?_ e6 (fun h7 => ?_)
              · split
                · refine Within.then ?_ (frame_keyCheck _ _) rfl rfl
                  exact Within.refl _ _ _
                · dsimp only
                  exact Within.refl _ _ _
              · exact h7
            · refine Within.ite ?_ ?_
              · refine Within.then ?_ (frame_emptyAnswer _ _ _ _) rfl rfl
                refine Within.then ?_ (frame_backToPending _ _) rfl rfl
                refine Within.inc ?_ (inScopes_of rfl)
                rename_i e8
                refine Within.viaEq ?_ e8 (fun h9 => ?_)
                · split
                  · refine Within.then ?_ (frame_keyCheck _ _) rfl rfl
                    exact Within.refl _ _ _
                  · dsimp only
                    exact Within.refl _ _ _
                · exact h9
              · refine Within.ite ?_ ?_
                · refine Within.then ?_ (frame_dataAnswer _ _ _ _ _ _ _ _) rfl rfl
                  rename_i e10
                  refine Within.viaEq ?_ e10 (fun h11 => ?_)
                  · split
                    · refine Within.then ?_ (frame_keyCheck _ _) rfl rfl
                      exact Within.refl _ _ _
                    · dsimp only
                      exact Within.refl _ _ _
                  · exact h11
                · generalize e12 : Machine.takeCounter _ _ = p13
                  obtain ⟨_, _⟩ := p13
                  refine Within.viaEq ?_ e12 (fun h14 => ?_)
                  · refine Within.then ?_ (frame_takeCounter _ _) rfl rfl
                    rename_i e15 _ _
                    refine Within.viaEq ?_ e15 (fun h16 => ?_)
                    · split
                      · refine Within.then ?_ (frame_keyCheck _ _) rfl rfl
                        exact Within.refl _ _ _
                      · dsimp only
                        exact Within.refl _ _ _
                    · exact h16
                  · split
                    · refine Within.then ?_ (frame_emptyAnswer _ _ _ _) rfl rfl
                      refine Within.then ?_ (frame_backToPending _ _) rfl rfl
                      rename_i e20
                      refine Within.viaEq ?_ e20 (fun h21 => ?_)
                      · dsimp only
                        exact h14
                      · exact h21
                    · refine Within.then ?_ (frame_emptyAnswer _ _ _ _) rfl rfl
                      refine Within.then ?_ (frame_endFrame _ _ _) rfl rfl
                      rename_i e22
                      refine Within.viaEq ?_ e22 (fun h23 => ?_)
                      · dsimp only
                        exact h14
                      · exact h23
                    · generalize e24 : Machine.takeEngine _ = p25
                      obtain ⟨_, _⟩ := p25
                      refine Within.viaEq ?_ e24 (fun h26 => ?_)
                      · refine Within.then ?_ (frame_takeEngine _) rfl rfl
                        rename_i e27 _ _
                        refine Within.viaEq ?_ e27 (fun h28 => ?_)
                        · dsimp only
                          exact h14
                        · exact h28
                      · split
                        · refine Within.then ?_ (frame_emptyAnswer _ _ _ _) rfl rfl
                          refine Within.then ?_ (frame_endFrame _ _ _) rfl rfl
                          rename_i e32
                          refine Within.viaEq ?_ e32 (fun h33 => ?_)
                          · dsimp only
                            exact h26
                          · exact h33
                        · refine Within.then ?_ (frame_dataAnswer _ _ _ _ _ _ _ _) rfl rfl
                          rename_i e34
                          refine Within.viaEq ?_ e34 (fun h35 => ?_)
                          · dsimp only
                            exact h26
                          · exact h35
    · exact Within.refl _ _ _
  · exact Within.refl _ _ _

theorem frame_passLane (a0 : Nat) (s : State) :
    Within [.page 0x10, .page 0x11, .page 0x31, .page 0x1b, .word 0x20 0xdc, .word 0x20 0xd8, .word 0x20 0xd4, .word 0x20 0xd0, .word 0x19 0xa4, .word 0x19 0xa8, .word 0x19 0xac, .word 0x19 0xb0, .word 0x19 0xb4, .word 0x19 0xb8] [.fes, .lanes, .nodes, .ddr, .ledger] s (passLane a0 s) := by
  unfold Machine.passLane
  extract_lets x0
  refine Within.then ?_ (frame_releaseDrained _ _ _) rfl rfl
  refine Within.then ?_ (frame_closeLane _ _ _) rfl rfl
  exact Within.refl _ _ _

theorem frame_ackMatched (a0 : Nat) (a1 : Nat) (s : State) :
    Within [.page 0x24, .page 0x25, .page 0x26, .page 0x27, .word 0x21 0x50, .word 0x21 0x4c, .page 0x1b, .word 0x20 0xdc, .word 0x20 0xd8, .word 0x20 0xd4, .word 0x20 0xd0, .word 0x19 0xb4, .word 0x19 0xa0, .word 0x19 0xcc, .page 0x10, .page 0x11, .page 0x31, .word 0x19 0xa4, .word 0x19 0xa8, .word 0x19 0xac, .word 0x19 0xb0, .word 0x19 0xb8] [.nodes, .ddr, .ledger, .scheds, .fes, .duty, .frames, .lanes] s (ackMatched a0 a1 s) := by
  unfold Machine.ackMatched
  extract_lets x0 x1 x2
  refine Within.via x0 ?_ (fun h3 => ?_)
  · unfold x0
    refine Within.then ?_ (frame_passLane _ _) rfl rfl
    exact Within.refl _ _ _
  · clear_value x0
    refine Within.via x1 ?_ (fun h4 => ?_)
    · unfold x1
      refine Within.inc ?_ (inScopes_of rfl)
      refine Within.inc ?_ (inScopes_of rfl)
      exact h3
    · clear_value x1
      refine Within.via x2 ?_ (fun h5 => ?_)
      · unfold x2
        split
        · refine Within.ite ?_ ?_
          · split
            · refine Within.then ?_ (frame_modNode _ _ _) rfl rfl
              exact h4
            · exact h4
          · exact h4
        · exact h4
      · clear_value x2
        refine Within.then ?_ (frame_endFrame _ _ _) rfl rfl
        exact h5

theorem frame_ackVerdict (a0 : Nat) (a1 : Bool) (a2 : Bool) (s : State) :
    Within [.page 0x10, .page 0x11, .page 0x31, .page 0x1b, .word 0x20 0xdc, .word 0x20 0xd8, .word 0x20 0xd4, .word 0x20 0xd0, .word 0x19 0xa4, .word 0x19 0xa8, .word 0x19 0xac, .word 0x19 0xb0, .word 0x19 0xb4, .word 0x19 0xb8, .page 0x24, .page 0x25, .page 0x26, .page 0x27, .word 0x21 0x50, .word 0x21 0x4c, .word 0x19 0xa0, .word 0x19 0xcc, .word 0x30 0x14, .word 0x30 0xa8, .word 0x19 0x14] [.fes, .lanes, .nodes, .ddr, .ledger, .scheds, .duty, .frames] s (ackVerdict a0 a1 a2 s) := by
  unfold Machine.ackVerdict
  extract_lets x0
  split
  · exact Within.refl _ _ _
  · refine Within.ite ?_ ?_
    · exact Within.refl _ _ _
    · refine Within.ite ?_ ?_
      · refine Within.then ?_ (frame_endVerdict _ _ _) rfl rfl
        exact Within.refl _ _ _
      · refine Within.ite ?_ ?_
        · refine Within.then ?_ (frame_endVerdict _ _ _) rfl rfl
          exact Within.refl _ _ _
        · split
          · refine Within.then ?_ (frame_endVerdict _ _ _) rfl rfl
            exact Within.refl _ _ _
          · split
            · refine Within.then ?_ (frame_endVerdict _ _ _) rfl rfl
              exact Within.refl _ _ _
            · extract_lets x1
              refine Within.ite ?_ ?_
              · refine Within.ite ?_ ?_
                · refine Within.then ?_ (frame_ackMatched _ _ _) rfl rfl
                  exact Within.refl _ _ _
                · refine Within.then ?_ (frame_endVerdict _ _ _) rfl rfl
                  exact Within.refl _ _ _
              · split
                · refine Within.then ?_ (frame_endVerdict _ _ _) rfl rfl
                  exact Within.refl _ _ _
                · refine Within.ite ?_ ?_
                  · exact Within.refl _ _ _
                  · refine Within.ite ?_ ?_
                    · refine Within.then ?_ (frame_endVerdict _ _ _) rfl rfl
                      refine Within.then ?_ (frame_suppress _) rfl rfl
                      exact Within.refl _ _ _
                    · refine Within.ite ?_ ?_
                      · refine Within.then ?_ (frame_endVerdict _ _ _) rfl rfl
                        exact Within.refl _ _ _
                      · refine Within.ite ?_ ?_
                        · refine Within.then ?_ (frame_endVerdict _ _ _) rfl rfl
                          refine Within.latch ?_ (inScopes_of rfl)
                          exact Within.refl _ _ _
                        · refine Within.ite ?_ ?_
                          · refine Within.then ?_ (frame_ackMatched _ _ _) rfl rfl
                            exact Within.refl _ _ _
                          · refine Within.then ?_ (frame_endVerdict _ _ _) rfl rfl
                            exact Within.refl _ _ _

theorem frame_ackWaitExpiry (a0 : Nat) (s : State) :
    Within [.page 0x24, .page 0x25, .page 0x26, .page 0x27, .word 0x21 0x50, .word 0x21 0x4c, .page 0x1b, .word 0x20 0xdc, .word 0x20 0xd8, .word 0x20 0xd4, .word 0x20 0xd0, .word 0x19 0xb4, .word 0x21 0x14, .word 0x21 0x31c, .word 0x19 0xf4, .word 0x21 0x320, .word 0x21 0x310] [.nodes, .ddr, .ledger, .scheds, .fes, .duty, .frames] s (ackWaitExpiry a0 s) := by
  unfold Machine.ackWaitExpiry
  split
  · extract_lets x0
    refine Within.via x0 ?_ (fun h1 => ?_)
    · unfold x0
      refine Within.ite ?_ ?_
      · split
        · refine Within.then ?_ (frame_modNode _ _ _) rfl rfl
          exact Within.refl _ _ _
        · exact Within.refl _ _ _
      · exact Within.refl _ _ _
    · clear_value x0
      refine Within.then ?_ (frame_unmatched _ _) rfl rfl
      exact h1
  · exact Within.refl _ _ _

theorem frame_apptCheck (a0 : Nat) (s : State) :
    Within [.page 0x1b, .word 0x20 0xdc, .word 0x20 0xd8, .word 0x20 0xd4, .word 0x20 0xd0, .word 0x19 0x14, .word 0x19 0xf0, .word 0x21 0x50, .word 0x21 0x4c, .page 0x24, .page 0x25, .page 0x26, .page 0x27, .word 0x19 0xb4, .word 0xc 0x14, .word 0xc 0x4c] [.nodes, .ddr, .frames, .scheds, .fes, .duty, .ledger] s (apptCheck a0 s) := by
  unfold Machine.apptCheck
  extract_lets x0 x1 x2 x3
  refine Within.ite ?_ ?_
  · exact Within.refl _ _ _
  · split
    · refine Within.then ?_ (frame_modNode _ _ _) rfl rfl
      exact Within.refl _ _ _
    · extract_lets x4 x5
      refine Within.via x5 ?_ (fun h6 => ?_)
      · unfold x5
        refine Within.then ?_ (frame_modNode _ _ _) rfl rfl
        refine Within.then ?_ (frame_setFrame _ _ _) rfl rfl
        exact Within.refl _ _ _
      · clear_value x5
        refine Within.ite ?_ ?_
        · refine Within.then ?_ (frame_skipAppointment _ _ _) rfl rfl
          exact Within.refl _ _ _
        · refine Within.then ?_ (frame_countPending _) rfl rfl
          refine Within.then ?_ (frame_syncPending _ _) rfl rfl
          refine Within.then ?_ (frame_enqueue _ _) rfl rfl
          exact h6

theorem frame_modTrack (a0 : Nat) (a1 : Track → Track) (s : State) :
    Within [] [.tracks] s (modTrack a0 a1 s) := by
  unfold Machine.modTrack
  refine Within.set_tracks ?_ (by decide)
  exact Within.refl _ _ _

theorem frame_wakeFilter (a0 : Nat) (a1 : Nat) (a2 : Nat) (s : State) :
    Within [.page 0x1b] [.tracks] s ((wakeFilter a0 a1 a2 s).2) := by
  unfold Machine.wakeFilter
  extract_lets x0 x1 x2 x3 x4 x5 x6 x7 x8 x9 x10
  refine Within.via x5 ?_ (fun h11 => ?_)
  · unfold x5
    refine Within.then ?_ (frame_modTrack _ _ _) rfl rfl
    exact Within.refl _ _ _
  · clear_value x5
    refine Within.via x6 ?_ (fun h12 => ?_)
    · unfold x6
      refine Within.ite ?_ ?_
      · refine Within.latch ?_ (inScopes_of rfl)
        exact h11
      · exact h11
    · clear_value x6
      refine Within.via x7 ?_ (fun h13 => ?_)
      · unfold x7
        refine Within.wr ?_ (inScopes_of rfl)
        refine Within.wr ?_ (inScopes_of rfl)
        exact h12
      · clear_value x7
        refine Within.via x8 ?_ (fun h14 => ?_)
        · unfold x8
          refine Within.ite ?_ ?_
          · refine Within.inc ?_ (inScopes_of rfl)
            exact h13
          · exact h13
        · clear_value x8
          refine Within.via x10 ?_ (fun h15 => ?_)
          · unfold x10
            refine Within.ite ?_ ?_
            · refine Within.inc ?_ (inScopes_of rfl)
              exact h14
            · exact h14
          · clear_value x10
            dsimp only
            exact h15

theorem frame_beaconDue (a0 : Nat) (s : State) :
    Within [.page 0x1a, .page 0x1b, .page 0x24, .page 0x25, .page 0x26, .page 0x27, .word 0x21 0x50, .word 0x21 0x4c, .word 0x20 0xdc, .word 0x20 0xd8, .word 0x20 0xd4, .word 0x20 0xd0, .word 0x19 0xb4, .word 0xc 0x14, .word 0xc 0x4c] [.tracks, .frameNumbers, .nodes, .ddr, .ledger, .scheds, .fes, .duty, .frames] s (beaconDue a0 s) := by
  unfold Machine.beaconDue
  extract_lets x0 x1 x2 x3 x4 x5 x6
  refine Within.via x5 ?_ (fun h7 => ?_)
  · unfold x5
    refine Within.then ?_ (frame_modTrack _ _ _) rfl rfl
    refine Within.wr ?_ (inScopes_of rfl)
    exact Within.refl _ _ _
  · clear_value x5
    refine Within.ite ?_ ?_
    · exact Within.refl _ _ _
    · split
      extract_lets x11 x12 x13
      generalize e14 : Machine.newFrame _ = p15
      obtain ⟨_, _⟩ := p15
      dsimp only
      refine Within.viaEq ?_ e14 (fun h16 => ?_)
      · refine Within.then ?_ (frame_newFrame _) rfl rfl
        rename_i e17 _ _
        refine Within.viaEq ?_ e17 (fun h18 => ?_)
        · split
          · refine Within.then ?_ (frame_wakeFilter _ _ _ _) rfl rfl
            exact h7
          · dsimp only
            exact h7
        · exact h18
      · refine Within.then ?_ (frame_enqueue _ _) rfl rfl
        refine Within.then ?_ (frame_setFrame _ _ _) rfl rfl
        exact h16

theorem frame_unknownBeacon (a0 : Nat) (s : State) :
    Within [.page 0x10, .page 0x11, .page 0x31, .page 0x1b, .word 0x20 0xdc, .word 0x20 0xd8, .word 0x20 0xd4, .word 0x20 0xd0, .word 0x19 0xa4, .word 0x19 0xa8, .word 0x19 0xac, .word 0x19 0xb0, .word 0x19 0xb4, .word 0x19 0xb8, .word 0x1a 0xe0] [.fes, .lanes, .nodes, .ddr, .ledger] s (unknownBeacon a0 s) := by
  unfold Machine.unknownBeacon
  refine Within.then ?_ (frame_endVerdict _ _ _) rfl rfl
  refine Within.inc ?_ (inScopes_of rfl)
  exact Within.refl _ _ _

theorem frame_chooseReference (a0 : Bool) (s : State) :
    Within [.word 0x1a 0xc8, .word 0x3c 0xb8, .word 0x1a 0x14] [.clock] s (chooseReference a0 s) := by
  unfold Machine.chooseReference
  extract_lets x0 x1 x2
  refine Within.via x1 ?_ (fun h3 => ?_)
  · unfold x1
    refine Within.ite ?_ ?_
    · exact Within.refl _ _ _
    · refine Within.ite ?_ ?_
      · refine Within.wr ?_ (inScopes_of rfl)
        exact Within.refl _ _ _
      · refine Within.then ?_ (frame_dropRate _) rfl rfl
        exact Within.refl _ _ _
  · clear_value x1
    refine Within.via x2 ?_ (fun h4 => ?_)
    · unfold x2
      split
      · extract_lets x5
        refine Within.via x5 ?_ (fun h6 => ?_)
        · unfold x5
          refine Within.wr ?_ (inScopes_of rfl)
          refine Within.wr ?_ (inScopes_of rfl)
          exact Within.refl _ _ _
        · clear_value x5
          refine Within.ite ?_ ?_
          · exact h6
          · refine Within.then ?_ (frame_modClock _ _) rfl rfl
            exact h6
      · refine Within.then ?_ (frame_modClock _ _) rfl rfl
        refine Within.wr ?_ (inScopes_of rfl)
        exact h3
    · clear_value x2
      refine Within.ite ?_ ?_
      · exact h4
      · refine Within.latch ?_ (inScopes_of rfl)
        exact h4

theorem frame_setRate (a0 : ℤ) (s : State) :
    Within [.word 0x3c 0xb8, .word 0x3c 0xb0, .word 0x3c 0xb4] [.clock] s (setRate a0 s) := by
  unfold Machine.setRate
  extract_lets x0 x1 x2 x3
  refine Within.via x2 ?_ (fun h4 => ?_)
  · unfold x2
    refine Within.then ?_ (frame_setOffset _ _) rfl rfl
    exact Within.refl _ _ _
  · clear_value x2
    refine Within.via x3 ?_ (fun h5 => ?_)
    · unfold x3
      refine Within.then ?_ (frame_modClock _ _) rfl rfl
      exact h4
    · clear_value x3
      refine Within.wrInt ?_ (inScopes_of rfl)
      exact h5

theorem frame_meshCorrect (a0 : ℤ) (s : State) :
    Within [.word 0x3c 0xc8, .word 0x3c 0x14, .word 0x3c 0xc4, .word 0x3c 0xb0, .word 0x3c 0xb4, .word 0x3c 0xb8] [.clock] s (meshCorrect a0 s) := by
  unfold Machine.meshCorrect
  extract_lets x0 x1 x2 x3 x4 x5
  refine Within.via x4 ?_ (fun h6 => ?_)
  · unfold x4
    split
    · refine Within.ite ?_ ?_
      · refine Within.latch ?_ (inScopes_of rfl)
        refine Within.inc ?_ (inScopes_of rfl)
        refine Within.then ?_ (frame_setOffset _ _) rfl rfl
        exact Within.refl _ _ _
      · extract_lets x7 x8 x9
        refine Within.via x9 ?_ (fun h10 => ?_)
        · unfold x9
          refine Within.then ?_ (frame_setRate _ _) rfl rfl
          exact Within.refl _ _ _
        · clear_value x9
          refine Within.then ?_ (frame_setOffset _ _) rfl rfl
          exact h10
    · refine Within.latch ?_ (inScopes_of rfl)
      refine Within.inc ?_ (inScopes_of rfl)
      refine Within.then ?_ (frame_setOffset _ _) rfl rfl
      exact Within.refl _ _ _
  · clear_value x4
    refine Within.via x5 ?_ (fun h11 => ?_)
    · unfold x5
      refine Within.then ?_ (frame_modClock _ _) rfl rfl
      exact h6
    · clear_value x5
      refine Within.wrInt ?_ (inScopes_of rfl)
      exact h11

theorem frame_peerPassed (a0 : Nat) (a1 : Lane) (a2 : Option MeshIe) (s : State) :
    Within [.word 0x3c 0xc8, .word 0x3c 0x14, .word 0x3c 0xc4, .word 0x3c 0xb0, .word 0x3c 0xb4, .word 0x3c 0xb8, .page 0x1a] [.clock, .peers] s (peerPassed a0 a1 a2 s) := by
  unfold Machine.peerPassed
  extract_lets x0 x1 x2 x3 x4
  refine Within.via x1 ?_ (fun h5 => ?_)
  · unfold x1
    refine Within.wr ?_ (inScopes_of rfl)
    refine Within.wr ?_ (inScopes_of rfl)
    exact Within.refl _ _ _
  · clear_value x1
    refine Within.via x2 ?_ (fun h6 => ?_)
    · unfold x2
      refine Within.wr ?_ (inScopes_of rfl)
      refine Within.wr ?_ (inScopes_of rfl)
      refine Within.incSat ?_ (inScopes_of rfl)
      exact h5
    · clear_value x2
      refine Within.via x3 ?_ (fun h7 => ?_)
      · unfold x3
        split
        · extract_lets x8
          refine Within.via x8 ?_ (fun h9 => ?_)
          · unfold x8
            refine Within.wrInt ?_ (inScopes_of rfl)
            exact h6
          · clear_value x8
            refine Within.set_peers ?_ (by decide)
            exact h9
        · exact h6
      · clear_value x3
        refine Within.via x4 ?_ (fun h10 => ?_)
        · unfold x4
          refine Within.ite ?_ ?_
          · refine Within.then ?_ (frame_chooseReference _ _) rfl rfl
            refine Within.latch ?_ (inScopes_of rfl)
            exact h7
          · exact h7
        · clear_value x4
          split
          · refine Within.ite ?_ ?_
            · refine Within.then ?_ (frame_meshCorrect _ _) rfl rfl
              exact h10
            · exact h10
          · exact h10

theorem frame_peerBeacon (a0 : Nat) (a1 : Bool) (a2 : Bool) (a3 : Figures) (a4 : List (List Byte)) (s : State) :
    Within [.page 0x10, .page 0x11, .page 0x31, .page 0x1b, .word 0x20 0xdc, .word 0x20 0xd8, .word 0x20 0xd4, .word 0x20 0xd0, .word 0x19 0xa4, .word 0x19 0xa8, .word 0x19 0xac, .word 0x19 0xb0, .word 0x19 0xb4, .word 0x19 0xb8, .word 0x30 0x14, .word 0x30 0xa8, .word 0x21 0x324, .word 0x21 0x304, .word 0x21 0x328, .word 0x19 0xa0, .word 0x3c 0xc8, .word 0x3c 0x14, .word 0x3c 0xc4, .word 0x3c 0xb0, .word 0x3c 0xb4, .word 0x3c 0xb8, .page 0x1a] [.fes, .lanes, .nodes, .ddr, .ledger, .delivered, .clock, .peers] s (peerBeacon a0 a1 a2 a3 a4 s) := by
  unfold Machine.peerBeacon
  extract_lets x0
  split
  · exact Within.refl _ _ _
  · refine Within.ite ?_ ?_
    · exact Within.refl _ _ _
    · refine Within.ite ?_ ?_
      · refine Within.then ?_ (frame_endVerdict _ _ _) rfl rfl
        exact Within.refl _ _ _
      · refine Within.ite ?_ ?_
        · refine Within.then ?_ (frame_endVerdict _ _ _) rfl rfl
          exact Within.refl _ _ _
        · split
          · split
            · refine Within.then ?_ (frame_unknownBeacon _ _) rfl rfl
              exact Within.refl _ _ _
            · refine Within.ite ?_ ?_
              · refine Within.then ?_ (frame_unknownBeacon _ _) rfl rfl
                exact Within.refl _ _ _
              · split
                · refine Within.ite ?_ ?_
                  · exact Within.refl _ _ _
                  · refine Within.ite ?_ ?_
                    · refine Within.then ?_ (frame_endVerdict _ _ _) rfl rfl
                      refine Within.then ?_ (frame_suppress _) rfl rfl
                      exact Within.refl _ _ _
                    · refine Within.ite ?_ ?_
                      · refine Within.then ?_ (frame_endVerdict _ _ _) rfl rfl
                        exact Within.refl _ _ _
                      · refine Within.ite ?_ ?_
                        · refine Within.then ?_ (frame_unknownBeacon _ _) rfl rfl
                          exact Within.refl _ _ _
                        · extract_lets x1
                          refine Within.via x1 ?_ (fun h2 => ?_)
                          · unfold x1
                            refine Within.inc ?_ (inScopes_of rfl)
                            refine Within.then ?_ (frame_peerPassed _ _ _ _) rfl rfl
                            exact Within.refl _ _ _
                          · clear_value x1
                            refine Within.ite ?_ ?_
                            · refine Within.then ?_ (frame_deliver _ _ _) rfl rfl
                              refine Within.then ?_ (frame_releaseDrained _ _ _) rfl rfl
                              exact h2
                            · refine Within.then ?_ (frame_passLane _ _) rfl rfl
                              exact h2
                · refine Within.then ?_ (frame_unknownBeacon _ _) rfl rfl
                  exact Within.refl _ _ _
          · refine Within.then ?_ (frame_unknownBeacon _ _) rfl rfl
            exact Within.refl _ _ _

theorem frame_peerMiss (a0 : Nat) (s : State) :
    Within [.page 0x1a, .word 0x3c 0xb8] [.clock] s (peerMiss a0 s) := by
  unfold Machine.peerMiss
  refine Within.ite ?_ ?_
  · exact Within.refl _ _ _
  · extract_lets x0 x1 x2
    refine Within.via x1 ?_ (fun h3 => ?_)
    · unfold x1
      refine Within.wr ?_ (inScopes_of rfl)
      exact Within.refl _ _ _
    · clear_value x1
      refine Within.via x2 ?_ (fun h4 => ?_)
      · unfold x2
        refine Within.wr ?_ (inScopes_of rfl)
        refine Within.incSat ?_ (inScopes_of rfl)
        exact h3
      · clear_value x2
        refine Within.ite ?_ ?_
        · exact h3
        · refine Within.then ?_ (frame_chooseReference _ _) rfl rfl
          refine Within.latch ?_ (inScopes_of rfl)
          exact h4

theorem frame_sweeperVisit (s : State) :
    Within [.word 0x20 0x14, .word 0x20 0x50, .word 0x20 0x4c, .page 0x1b, .word 0x20 0xdc, .word 0x20 0xd8, .word 0x20 0xd4, .word 0x20 0xd0, .word 0x20 0xac] [.nodes, .ddr] s (sweeperVisit s) := by
  unfold Machine.sweeperVisit
  refine Within.ite ?_ ?_
  · exact Within.refl _ _ _
  · extract_lets x0 x1 x2 x3
    refine Within.via x2 ?_ (fun h4 => ?_)
    · unfold x2
      refine Within.ite ?_ ?_
      · refine Within.inc ?_ (inScopes_of rfl)
        exact Within.refl _ _ _
      · exact Within.refl _ _ _
    · clear_value x2
      refine Within.via x3 ?_ (fun h5 => ?_)
      · unfold x3
        refine Within.ite ?_ ?_
        · exact Within.refl _ _ _
        · refine Within.then ?_ (frame_setNode _ _ _) rfl rfl
          exact h4
      · clear_value x3
        refine Within.ite ?_ ?_
        · refine Within.latch ?_ (inScopes_of rfl)
          refine Within.inc ?_ (inScopes_of rfl)
          refine Within.wr ?_ (inScopes_of rfl)
          exact h5
        · refine Within.wr ?_ (inScopes_of rfl)
          exact h5

end Sys2Proof.Machine
end

