-- ==== Sys2Proof/Laws/OpsE.lean ====
section
/-! SUPPORT. What each operation can change, part 5 of 5: for every state, the registers and parts outside the named ones
are as before. -/

namespace Sys2Proof.Machine

set_option maxHeartbeats 1000000
set_option linter.unusedSimpArgs false
set_option linter.unusedTactic false
set_option linter.unreachableTactic false
set_option linter.unusedVariables false

theorem frame_rereadNode (a0 : Reader) (s : State) :
    Within [.page 0x20] [] s ((rereadNode a0 s).2) := by
  unfold Machine.rereadNode
  split
  · split
    · dsimp only
      refine Within.then ?_ (frame_nodeResult _ _ _ _) rfl rfl
      refine Within.then ?_ (frame_copyToCmd _ _) rfl rfl
      exact Within.refl _ _ _
    · dsimp only
      exact Within.refl _ _ _
  · split
    · dsimp only
      refine Within.then ?_ (frame_showScan _ _) rfl rfl
      exact Within.refl _ _ _
    · dsimp only
      exact Within.refl _ _ _
  · dsimp only
    exact Within.refl _ _ _

theorem frame_macControl (a0 : Nat) (a1 : Staged) (s : State) :
    Within [.page (0x3a + a0 % 2), .word (0x38 + a0 % 2) 0x94, .word (0x38 + a0 % 2) 0x98] [.ledger, .ports] s (macControl a0 a1 s) := by
  unfold Machine.macControl
  refine Within.ite ?_ ?_
  · refine Within.then ?_ (frame_close _ _ _) rfl rfl
    refine Within.after ?_ (frame_rmon _ _ _) (amongCons (by simp [Scope.among, fePage, schedPage, ethPage, ethStatPage]) amongNil) rfl
    refine Within.inc ?_ (inScopes_of (by simp [Scope.among, fePage, schedPage, ethPage, ethStatPage, F.ETH.RX_PAUSE]))
    exact Within.refl _ _ _
  · refine Within.then ?_ (frame_close _ _ _) rfl rfl
    refine Within.after ?_ (frame_rmon _ _ _) (amongCons (by simp [Scope.among, fePage, schedPage, ethPage, ethStatPage]) amongNil) rfl
    refine Within.inc ?_ (inScopes_of (by simp [Scope.among, fePage, schedPage, ethPage, ethStatPage, F.ETH.RX_CTRL_OTHER]))
    exact Within.refl _ _ _

theorem frame_ptpTake (a0 : Nat) (a1 : Staged) (s : State) :
    Within [.page 0x3d] [.delivered, .ledger] s (ptpTake a0 a1 s) := by
  unfold Machine.ptpTake
  extract_lets x0 x1 x2 x3
  refine Within.via x3 ?_ (fun h4 => ?_)
  · unfold x3
    refine Within.wr ?_ (inScopes_of rfl)
    refine Within.wr ?_ (inScopes_of rfl)
    refine Within.inc ?_ (inScopes_of rfl)
    exact Within.refl _ _ _
  · clear_value x3
    refine Within.ite ?_ ?_
    · refine Within.then ?_ (frame_deliverItem _ _) rfl rfl
      refine Within.inc ?_ (inScopes_of rfl)
      exact Within.refl _ _ _
    · refine Within.then ?_ (frame_close _ _ _) rfl rfl
      refine Within.latch ?_ (inScopes_of rfl)
      exact h4

theorem frame_ethOther (a0 : Nat) (a1 : Staged) (s : State) :
    Within [.page 0x1b, .word 0x20 0xdc, .word 0x20 0xd8, .word 0x20 0xd4, .word 0x20 0xd0, .word 0x21 0x324, .word 0x21 0x304, .word 0x21 0x328] [.nodes, .ddr, .ledger, .delivered] s (ethOther a0 a1 s) := by
  unfold Machine.ethOther
  refine Within.ite ?_ ?_
  · refine Within.then ?_ (frame_deliver _ _ _) rfl rfl
    exact Within.refl _ _ _
  · refine Within.then ?_ (frame_close _ _ _) rfl rfl
    exact Within.refl _ _ _

theorem frame_pendingTimeouts (s : State) :
    Within [.page 0x24, .page 0x25, .page 0x26, .page 0x27, .word 0x21 0x50, .word 0x21 0x4c, .page 0x1b, .word 0x20 0xdc, .word 0x20 0xd8, .word 0x20 0xd4, .word 0x20 0xd0, .word 0x19 0xb4, .word 0x21 0x14, .word 0x21 0x31c] [.frames, .nodes, .ddr, .ledger, .scheds, .fes, .duty] s (pendingTimeouts s) := by
  unfold Machine.pendingTimeouts
  refine Within.ite ?_ ?_
  · exact Within.refl _ _ _
  · extract_lets x0 x1
    refine Within.foldl ?_ (fun _ _ _ h2 => ?_)
    · exact Within.refl _ _ _
    · refine Within.ite ?_ ?_
      · refine Within.then ?_ (frame_modFrame _ _ _) rfl rfl
        exact h2
      · refine Within.then ?_ (frame_endFrame _ _ _) rfl rfl
        refine Within.latch ?_ (inScopes_of rfl)
        refine Within.inc ?_ (inScopes_of rfl)
        exact h2

theorem frame_reasmTimeout (s : State) :
    Within [.page 0x1b, .word 0x20 0xdc, .word 0x20 0xd8, .word 0x20 0xd4, .word 0x20 0xd0, .word 0x22 0x14, .word 0x22 0x64, .word 0x22 0x58, .word 0x22 0x54, .word 0x22 0x50] [.nodes, .ddr, .ledger, .reasm] s (reasmTimeout s) := by
  unfold Machine.reasmTimeout
  extract_lets x0
  refine Within.foldl ?_ (fun _ _ _ h1 => ?_)
  · exact Within.refl _ _ _
  · extract_lets x2 x3 x4
    refine Within.via x2 ?_ (fun h5 => ?_)
    · unfold x2
      refine Within.then ?_ (frame_countReasm _) rfl rfl
      refine Within.set_reasm ?_ (by decide)
      exact h1
    · clear_value x2
      refine Within.via x3 ?_ (fun h6 => ?_)
      · unfold x3
        refine Within.latch ?_ (inScopes_of rfl)
        refine Within.inc ?_ (inScopes_of rfl)
        exact h5
      · clear_value x3
        refine Within.then ?_ (frame_endItem _ _ _) rfl rfl
        exact h6

theorem frame_showHold (a0 : Nat) (a1 : Bool) (a2 : List Hold) (s : State) :
    Within [.page (0x24 + a0 % 4)] [] s (showHold a0 a1 a2 s) := by
  unfold Machine.showHold
  refine Within.foldl ?_ (fun _ _ _ h0 => ?_)
  · exact Within.refl _ _ _
  · extract_lets x1 x2
    refine Within.wr ?_ (inScopes_of (by simp [Scope.among, fePage, schedPage, ethPage, ethStatPage, F.SCHED.Q_HOLD]))
    exact h0

theorem frame_endHorizons (a0 : Nat) (s : State) :
    Within [.page 0x24, .page 0x25, .page 0x26, .page 0x27, .word 0x21 0x50, .word 0x21 0x4c, .page 0x1b, .word 0x20 0xdc, .word 0x20 0xd8, .word 0x20 0xd4, .word 0x20 0xd0, .word 0x19 0xb4] [.nodes, .ddr, .ledger, .scheds, .fes, .duty, .frames] s (endHorizons a0 s) := by
  unfold Machine.endHorizons
  refine Within.foldl ?_ (fun _ _ _ h0 => ?_)
  · exact Within.refl _ _ _
  · extract_lets x1
    refine Within.then ?_ (frame_endFrame _ _ _) rfl rfl
    exact h0

theorem frame_chargeBuckets (a0 : Nat) (a1 : Nat) (a2 : Nat) (s : State) :
    Within [.page (0x24 + a0 % 4)] [] s (chargeBuckets a0 a1 a2 s) := by
  unfold Machine.chargeBuckets
  extract_lets x0 x1
  refine Within.via x1 ?_ (fun h2 => ?_)
  · unfold x1
    refine Within.ite ?_ ?_
    · exact Within.refl _ _ _
    · refine Within.wrInt ?_ (inScopes_of (by simp [Scope.among, fePage, schedPage, ethPage, ethStatPage, F.SCHED.Q_LEVEL_C]))
      exact Within.refl _ _ _
  · clear_value x1
    refine Within.ite ?_ ?_
    · exact h2
    · refine Within.wrInt ?_ (inScopes_of (by simp [Scope.among, fePage, schedPage, ethPage, ethStatPage, F.SCHED.Q_LEVEL_P]))
      exact h2

theorem frame_dutyReserve (a0 : Nat) (a1 : Nat) (a2 : Nat) (s : State) :
    Within [.page 0x24, .page 0x25, .page 0x26, .page 0x27] [.duty] s (dutyReserve a0 a1 a2 s) := by
  unfold Machine.dutyReserve
  refine Within.then ?_ (frame_setDuty _ _ _) rfl rfl
  exact Within.refl _ _ _

theorem frame_commitCharges (a0 : Nat) (a1 : Frame) (a2 : Nat) (s : State) :
    Within [.page 0x24, .page 0x25, .page 0x26, .page 0x27] [.scheds, .duty] s (commitCharges a0 a1 a2 s) := by
  unfold Machine.commitCharges
  extract_lets x0 x1 x2 x3
  refine Within.via x2 ?_ (fun h4 => ?_)
  · unfold x2
    refine Within.after ?_ (frame_chargeBuckets _ _ _ _) (amongCons (amongP4 rfl) amongNil) rfl
    exact Within.refl _ _ _
  · clear_value x2
    refine Within.via x3 ?_ (fun h5 => ?_)
    · unfold x3
      refine Within.ite ?_ ?_
      · refine Within.wr ?_ (inScopes_of (amongW4 rfl))
        exact h4
      · exact h4
    · clear_value x3
      refine Within.after ?_ (frame_blindAdd _ _ _) (amongCons (amongW4 rfl) amongNil) rfl
      refine Within.then ?_ (frame_dwellAdd _ _ _ _ _ _) rfl rfl
      refine Within.then ?_ (frame_dutyReserve _ _ _ _) rfl rfl
      exact h5

theorem frame_commitFrame (a0 : Nat) (s : State) :
    Within [.word 0x19 0x14, .word 0x19 0xf0, .page 0x1b, .word 0x20 0xdc, .word 0x20 0xd8, .word 0x20 0xd4, .word 0x20 0xd0, .word 0x21 0x50, .word 0x21 0x4c, .page 0x24, .page 0x25, .page 0x26, .page 0x27, .word 0xc 0x14, .word 0xc 0x4c, .word 0x19 0xb4, .page 0xd] [.nodes, .ddr, .frames, .scheds, .fes, .duty, .ledger] s (commitFrame a0 s) := by
  unfold Machine.commitFrame
  split
  · exact Within.refl _ _ _
  · split
    · split
      · refine Within.then ?_ (frame_skipAppointment _ _ _) rfl rfl
        refine Within.then ?_ (frame_regCeiling _) rfl rfl
        exact Within.refl _ _ _
      · refine Within.then ?_ (frame_endFrame _ _ _) rfl rfl
        refine Within.then ?_ (frame_regCeiling _) rfl rfl
        exact Within.refl _ _ _
    · refine Within.then ?_ (frame_commitReq _ _ _) rfl rfl
      refine Within.after ?_ (frame_recount _ _) (amongCons (amongP4 rfl) amongNil) rfl
      refine Within.then ?_ (frame_setFrame _ _ _) rfl rfl
      refine Within.then ?_ (frame_commitCharges _ _ _ _) rfl rfl
      exact Within.refl _ _ _

theorem frame_drr (a0 : Nat) (a1 : List Nat) (a2 : Nat) (s : State) :
    Within [.word 0x19 0x14, .word 0x19 0xf0, .page 0x1b, .word 0x20 0xdc, .word 0x20 0xd8, .word 0x20 0xd4, .word 0x20 0xd0, .word 0x21 0x50, .word 0x21 0x4c, .page 0x24, .page 0x25, .page 0x26, .page 0x27, .word 0xc 0x14, .word 0xc 0x4c, .word 0x19 0xb4, .page 0xd] [.nodes, .ddr, .frames, .scheds, .fes, .duty, .ledger] s (drr a0 a1 a2 s) := by
  induction a2 generalizing a0 a1 s with | zero => ?_ | succ n ih => ?_
  · unfold Machine.drr
    exact Within.refl _ _ _
  · unfold Machine.drr
    split
    · refine Within.then ?_ (frame_commitFrame _ _) rfl rfl
      exact Within.refl _ _ _
    · split
      · exact Within.refl _ _ _
      · extract_lets x0
        refine Within.via x0 ?_ (fun h1 => ?_)
        · unfold x0
          refine Within.then ?_ (frame_modSched _ _ _) rfl rfl
          exact Within.refl _ _ _
        · clear_value x0
          refine Within.trans ?_ (ih _ _ _)
          refine Within.wr ?_ (inScopes_of (amongW4 rfl))
          exact h1

theorem frame_select (a0 : Nat) (s : State) :
    Within [.page 0x24, .page 0x25, .page 0x26, .page 0x27, .word 0x21 0x50, .word 0x21 0x4c, .page 0x1b, .word 0x20 0xdc, .word 0x20 0xd8, .word 0x20 0xd4, .word 0x20 0xd0, .word 0x19 0xb4, .word 0x19 0x14, .word 0x19 0xf0, .word 0xc 0x14, .word 0xc 0x4c, .page 0xd] [.nodes, .ddr, .ledger, .scheds, .fes, .duty, .frames] s (select a0 s) := by
  unfold Machine.select
  refine Within.ite ?_ ?_
  · refine Within.after ?_ (frame_showHold _ _ _ _) (amongCons (amongP4 rfl) amongNil) rfl
    exact Within.refl _ _ _
  · extract_lets x0 x1 x2 x3 x4 x5 x6
    refine Within.via x0 ?_ (fun h7 => ?_)
    · unfold x0
      refine Within.then ?_ (frame_endHorizons _ _) rfl rfl
      exact Within.refl _ _ _
    · clear_value x0
      refine Within.via x6 ?_ (fun h8 => ?_)
      · unfold x6
        split
        · split
          · refine Within.then ?_ (frame_commitFrame _ _) rfl rfl
            exact h7
          · exact h7
        · refine Within.then ?_ (frame_drr _ _ _ _) rfl rfl
          exact h7
      · clear_value x6
        refine Within.after ?_ (frame_showHold _ _ _ _) (amongCons (amongP4 rfl) amongNil) rfl
        exact h8

theorem frame_refill (a0 : Nat) (s : State) :
    Within [.page (0x24 + a0 % 4)] [.scheds] s (refill a0 s) := by
  unfold Machine.refill
  refine Within.foldl ?_ (fun _ _ _ h0 => ?_)
  · exact Within.refl _ _ _
  · extract_lets x1 x2 x3
    refine Within.via x1 ?_ (fun h4 => ?_)
    · unfold x1
      refine Within.then ?_ (frame_takeShaper _ _ _) rfl rfl
      exact h0
    · clear_value x1
      refine Within.via x3 ?_ (fun h5 => ?_)
      · unfold x3
        refine Within.wrInt ?_ (inScopes_of (by simp [Scope.among, fePage, schedPage, ethPage, ethStatPage, F.SCHED.Q_LEVEL_C]))
        exact h4
      · clear_value x3
        refine Within.wrInt ?_ (inScopes_of (by simp [Scope.among, fePage, schedPage, ethPage, ethStatPage, F.SCHED.Q_LEVEL_P]))
        exact h5

theorem frame_backoffExpiry (a0 : Nat) (a1 : Nat) (s : State) :
    Within [.page (0x24 + a0 % 4)] [.scheds] s (backoffExpiry a0 a1 s) := by
  unfold Machine.backoffExpiry
  refine Within.after ?_ (frame_showHold _ _ _ _) (amongCons (by simp [Scope.among, fePage, schedPage, ethPage, ethStatPage]) amongNil) rfl
  refine Within.then ?_ (frame_modSched _ _ _) rfl rfl
  exact Within.refl _ _ _

theorem frame_lbtRetest (a0 : Nat) (s : State) :
    Within [.page 0x24, .page 0x25, .page 0x26, .page 0x27, .word 0x21 0x50, .word 0x21 0x4c, .page 0x1b, .word 0x20 0xdc, .word 0x20 0xd8, .word 0x20 0xd4, .word 0x20 0xd0, .page 0xd, .word 0x1a 0x14, .word 0x1a 0xe4, .word 0xc 0x14, .word 0xc 0x4c, .word 0xc 0x50, .word 0x8 0x68, .word 0x9 0x68, .word 0xa 0x68, .word 0xb 0x68, .word 0x30 0xac, .page 0x19, .page 0x10, .page 0x11, .page 0x31, .word 0x21 0x14, .word 0x21 0x31c, .word 0x21 0x320, .word 0x21 0x310, .word 0x8 0x5c, .word 0x9 0x5c, .word 0xa 0x5c, .word 0xb 0x5c, .word 0x8 0x4c, .word 0x9 0x4c, .word 0xa 0x4c, .word 0xb 0x4c, .word 0x8 0x6c, .word 0x9 0x6c, .word 0xa 0x6c, .word 0xb 0x6c] [.frames, .nodes, .ddr, .ledger, .scheds, .fes, .duty, .draws, .slots, .lanes] s (lbtRetest a0 s) := by
  unfold Machine.lbtRetest
  split
  · split
    · refine Within.then ?_ (frame_enterRxTxFrame _ _) rfl rfl
      exact Within.refl _ _ _
    · exact Within.refl _ _ _
  · exact Within.refl _ _ _

theorem frame_lateFrame (a0 : Nat) (s : State) :
    Within [.word 0x19 0x14, .word 0x19 0xf0, .page 0x1b, .word 0x20 0xdc, .word 0x20 0xd8, .word 0x20 0xd4, .word 0x20 0xd0, .word 0x21 0x50, .word 0x21 0x4c, .page 0x24, .page 0x25, .page 0x26, .page 0x27, .word 0x19 0xb4, .word 0x1a 0x14, .word 0x1a 0xe4] [.nodes, .ddr, .frames, .scheds, .fes, .duty, .ledger] s (lateFrame a0 s) := by
  unfold Machine.lateFrame
  split
  · exact Within.refl _ _ _
  · split
    · refine Within.then ?_ (frame_skipAppointment _ _ _) rfl rfl
      exact Within.refl _ _ _
    · split
      · refine Within.then ?_ (frame_endFrame _ _ _) rfl rfl
        refine Within.latch ?_ (inScopes_of rfl)
        refine Within.inc ?_ (inScopes_of rfl)
        exact Within.refl _ _ _
      · refine Within.then ?_ (frame_endFrame _ _ _) rfl rfl
        exact Within.refl _ _ _

theorem frame_slipNow (a0 : Nat) (s : State) :
    Within [.word 0x19 0x14, .word 0x19 0xf0, .page 0x1b, .word 0x20 0xdc, .word 0x20 0xd8, .word 0x20 0xd4, .word 0x20 0xd0, .word 0x21 0x50, .word 0x21 0x4c, .page 0x24, .page 0x25, .page 0x26, .page 0x27, .word 0x19 0xb4, .word 0x1a 0x14, .word 0x1a 0xe4, .page 0xd] [.nodes, .ddr, .frames, .scheds, .fes, .duty, .ledger] s (slipNow a0 s) := by
  unfold Machine.slipNow
  extract_lets x0
  refine Within.via x0 ?_ (fun h1 => ?_)
  · unfold x0
    split
    · refine Within.then ?_ (frame_slipExpiry _ _) rfl rfl
      exact Within.refl _ _ _
    · exact Within.refl _ _ _
  · clear_value x0
    refine Within.foldl ?_ (fun _ _ _ h2 => ?_)
    · exact h1
    · refine Within.then ?_ (frame_lateFrame _ _) rfl rfl
      exact h2

theorem frame_dwellClose (a0 : Nat) (a1 : Nat) (s : State) :
    Within [.page (0x24 + a0 % 4)] [.scheds] s (dwellClose a0 a1 s) := by
  unfold Machine.dwellClose
  refine Within.after ?_ (frame_showHold _ _ _ _) (amongCons (by simp [Scope.among, fePage, schedPage, ethPage, ethStatPage]) amongNil) rfl
  refine Within.then ?_ (frame_modSched _ _ _) rfl rfl
  exact Within.refl _ _ _

theorem frame_pufAutoRefresh (a0 : Nat) (a1 : Nat) (a2 : PufRead) (a3 : Bool) (s : State) :
    Within [.word 0x80 0x3004, .word 0x30 0x88, .word 0x5 0x14, .word 0x30 0x14, .word 0x30 0x80, .word 0x30 0x84, .word 0x30 0x8c] [.root, .draws] s (pufAutoRefresh a0 a1 a2 a3 s) := by
  unfold Machine.pufAutoRefresh
  refine Within.ite ?_ ?_
  · extract_lets x0
    refine Within.via x0.2 ?_ (fun h1 => ?_)
    · unfold x0
      refine Within.then ?_ (frame_refresh _ _ _ _ _) rfl rfl
      exact Within.refl _ _ _
    · clear_value x0
      refine Within.then ?_ (frame_pufResult _ _) rfl rfl
      exact h1
  · exact Within.refl _ _ _

theorem frame_trustExpiry (s : State) :
    Within [.word 0x80 0x0] [.root] s (trustExpiry s) := by
  unfold Machine.trustExpiry
  refine Within.ite ?_ ?_
  · refine Within.then ?_ (frame_closeLock _) rfl rfl
    exact Within.refl _ _ _
  · exact Within.refl _ _ _

theorem frame_appendRecord (a0 : Nat) (s : State) :
    Within [] [.root] s (appendRecord a0 s) := by
  unfold Machine.appendRecord
  extract_lets x0 x1 x2
  refine Within.set_root ?_ (by decide)
  exact Within.refl _ _ _

theorem frame_journalWrite (a0 : Nat) (a1 : Nat) (s : State) :
    Within [.word 0x30 0xb0] [.root, .journal] s (journalWrite a0 a1 s) := by
  unfold Machine.journalWrite
  extract_lets x0 x1
  refine Within.via x0 ?_ (fun h2 => ?_)
  · unfold x0
    refine Within.then ?_ (frame_appendRecord _ _) rfl rfl
    exact Within.refl _ _ _
  · clear_value x0
    refine Within.via x1 ?_ (fun h3 => ?_)
    · unfold x1
      refine Within.set_journal ?_ (by decide)
      exact h2
    · clear_value x1
      refine Within.wr ?_ (inScopes_of rfl)
      exact h3

theorem frame_keyOpDone (a0 : Bool) (s : State) :
    Within [.word 0x4c 0x14, .word 0x4c 0x50, .word 0x4c 0x4c, .word 0x4c 0x48, .word 0x4c 0x44, .word 0x30 0x14, .page 0x80, .word 0x30 0xb8, .word 0x30 0xa8, .word 0x45 0x14, .word 0x45 0x48, .word 0x45 0x4c, .page 0x24, .page 0x25, .page 0x26, .page 0x27, .word 0x21 0x50, .word 0x21 0x4c, .page 0x1b, .word 0x20 0xdc, .word 0x20 0xd8, .word 0x20 0xd4, .word 0x20 0xd0, .word 0x19 0xb4, .page 0x10, .page 0x31, .word 0x8 0x5c, .word 0x9 0x5c, .word 0xa 0x5c, .word 0xb 0x5c, .word 0x8 0x4c, .word 0x9 0x4c, .word 0xa 0x4c, .word 0xb 0x4c, .word 0x30 0xb0] [.notices, .keyOp, .nodes, .ddr, .ledger, .scheds, .fes, .duty, .frames, .lanes, .slots, .root, .journal] s (keyOpDone a0 s) := by
  unfold Machine.keyOpDone
  split
  · exact Within.refl _ _ _
  · extract_lets x0 x1 x2 x3 x4 x5 x6 x7 x8 x9 x10
    refine Within.via x10 ?_ (fun h11 => ?_)
    · unfold x10
      refine Within.then ?_ (frame_journalWrite _ _ _) rfl rfl
      exact Within.refl _ _ _
    · clear_value x10
      refine Within.ite ?_ ?_
      · refine Within.then ?_ (frame_loadEnd _ _ _) rfl rfl
        refine Within.then ?_ (frame_suppress _) rfl rfl
        exact Within.refl _ _ _
      · refine Within.ite ?_ ?_
        · exact Within.refl _ _ _
        · refine Within.ite ?_ ?_
          · refine Within.then ?_ (frame_loadEnd _ _ _) rfl rfl
            refine Within.then ?_ (frame_flashError _ _ _) rfl rfl
            exact Within.refl _ _ _
          · refine Within.ite ?_ ?_
            · refine Within.set_keyOp ?_ (by decide)
              exact Within.refl _ _ _
            · refine Within.then ?_ (frame_loadEnd _ _ _) rfl rfl
              refine Within.then ?_ (frame_changeSlot _ _ _) rfl rfl
              exact h11

theorem frame_cacheFlushDone (a0 : Nat) (s : State) :
    Within [.word 0x30 0x14, .word 0x30 0x98] [.cache] s (cacheFlushDone a0 s) := by
  unfold Machine.cacheFlushDone
  refine Within.latch ?_ (inScopes_of rfl)
  refine Within.then ?_ (frame_setCache _ _) rfl rfl
  exact Within.refl _ _ _

theorem frame_journalWriteDone (a0 : Nat) (a1 : Bool) (s : State) :
    Within [.word 0x45 0x14, .word 0x45 0x48, .word 0x45 0x4c, .word 0x30 0xb0] [.root, .journal, .slots] s (journalWriteDone a0 a1 s) := by
  unfold Machine.journalWriteDone
  extract_lets x0 x1
  refine Within.ite ?_ ?_
  · exact Within.refl _ _ _
  · refine Within.ite ?_ ?_
    · refine Within.then ?_ (frame_flashError _ _ _) rfl rfl
      exact Within.refl _ _ _
    · refine Within.then ?_ (frame_journalWrite _ _ _) rfl rfl
      refine Within.then ?_ (frame_setSlot _ _ _) rfl rfl
      exact Within.refl _ _ _

theorem frame_showEngineFaults (a0 : Nat) (s : State) :
    Within [.page 0x31] [] s (showEngineFaults a0 s) := by
  unfold Machine.showEngineFaults
  refine Within.wr ?_ (inScopes_of rfl)
  exact Within.refl _ _ _

theorem frame_engineMismatch (a0 : Nat) (a1 : Nat) (s : State) :
    Within [.page 0x31, .word 0x5 0x14] [.engines] s (engineMismatch a0 a1 s) := by
  unfold Machine.engineMismatch
  extract_lets x0 x1 x2 x3
  refine Within.via x0 ?_ (fun h4 => ?_)
  · unfold x0
    refine Within.latch ?_ (inScopes_of rfl)
    refine Within.inc ?_ (inScopes_of rfl)
    exact Within.refl _ _ _
  · clear_value x0
    refine Within.via x1 ?_ (fun h5 => ?_)
    · unfold x1
      refine Within.wr ?_ (inScopes_of rfl)
      refine Within.wr ?_ (inScopes_of rfl)
      refine Within.wr ?_ (inScopes_of rfl)
      exact h4
    · clear_value x1
      refine Within.via x2 ?_ (fun h6 => ?_)
      · unfold x2
        refine Within.incSat ?_ (inScopes_of rfl)
        exact h5
      · clear_value x2
        refine Within.via x3 ?_ (fun h7 => ?_)
        · unfold x3
          refine Within.then ?_ (frame_showEngineFaults _ _) rfl rfl
          refine Within.set_engineFaults ?_ (by decide)
          exact h6
        · clear_value x3
          refine Within.ite ?_ ?_
          · exact h7
          · refine Within.ite ?_ ?_
            · refine Within.then ?_ (frame_retireEngine _ _) rfl rfl
              exact h7
            · refine Within.set_engineChecks ?_ (by decide)
              exact h7

theorem frame_storageMismatch (a0 : Nat) (a1 : Nat) (a2 : Bool) (a3 : Bool) (s : State) :
    Within [.word 0x32 0x4c, .word 0x32 0x50, .word 0x32 0x54, .word 0x32 0x58, .word 0x32 0x14, .word 0x32 0x44, .word 0x32 0x48] [.jobs] s (storageMismatch a0 a1 a2 a3 s) := by
  unfold Machine.storageMismatch
  extract_lets x0 x1 x2
  refine Within.via x0 ?_ (fun h3 => ?_)
  · unfold x0
    refine Within.latch ?_ (inScopes_of rfl)
    refine Within.incBy ?_ (inScopes_of rfl)
    refine Within.inc ?_ (inScopes_of rfl)
    exact Within.refl _ _ _
  · clear_value x0
    refine Within.via x1 ?_ (fun h4 => ?_)
    · unfold x1
      refine Within.wr ?_ (inScopes_of rfl)
      refine Within.wr ?_ (inScopes_of rfl)
      refine Within.wr ?_ (inScopes_of rfl)
      exact h3
    · clear_value x1
      refine Within.via x2 ?_ (fun h5 => ?_)
      · unfold x2
        refine Within.ite ?_ ?_
        · refine Within.inc ?_ (inScopes_of rfl)
          exact h4
        · exact h4
      · clear_value x2
        refine Within.ite ?_ ?_
        · refine Within.set_sciJob ?_ (by decide)
          exact h5
        · exact h5

theorem frame_pathMismatch (a0 : PathUser) (s : State) :
    Within [.page 0x31, .word 0x5 0x14, .page 0x10, .page 0x11, .page 0x24, .page 0x25, .page 0x26, .page 0x27, .word 0x21 0x50, .word 0x21 0x4c, .page 0x1b, .word 0x20 0xdc, .word 0x20 0xd8, .word 0x20 0xd4, .word 0x20 0xd0, .word 0x19 0xb4, .word 0x8 0x5c, .word 0x9 0x5c, .word 0xa 0x5c, .word 0xb 0x5c, .word 0x8 0x4c, .word 0x9 0x4c, .word 0xa 0x4c, .word 0xb 0x4c, .word 0x32 0x4c, .word 0x32 0x50, .word 0x32 0x54, .word 0x32 0x58, .word 0x32 0x14, .word 0x32 0x44, .word 0x32 0x48] [.engines, .fes, .lanes, .nodes, .ddr, .ledger, .scheds, .duty, .frames, .jobs] s (pathMismatch a0 s) := by
  unfold Machine.pathMismatch
  split
  · split
    · refine Within.then ?_ (frame_engineMismatch _ _ _) rfl rfl
      refine Within.then ?_ (frame_modLane _ _ _) rfl rfl
      exact Within.refl _ _ _
    · exact Within.refl _ _ _
  · split
    · refine Within.then ?_ (frame_engineMismatch _ _ _) rfl rfl
      refine Within.after ?_ (frame_cutTx _ _ _) (amongCons rfl (amongCons rfl (amongCons rfl (amongCons rfl (amongCons rfl (amongCons rfl (amongCons rfl (amongCons rfl (amongCons rfl (amongCons rfl (amongCons rfl (amongCons rfl (amongCons rfl (amongCons rfl (amongCons (amongW4 rfl) (amongCons (amongW4 rfl) amongNil)))))))))))))))) rfl
      exact Within.refl _ _ _
    · exact Within.refl _ _ _
  · split
    · split
      · refine Within.then ?_ (frame_engineMismatch _ _ _) rfl rfl
        refine Within.set_ccmJob ?_ (by decide)
        exact Within.refl _ _ _
      · exact Within.refl _ _ _
    · exact Within.refl _ _ _
  · refine Within.then ?_ (frame_storageMismatch _ _ _ _ _) rfl rfl
    exact Within.refl _ _ _

theorem frame_knownAnswer (a0 : Nat) (a1 : Bool) (s : State) :
    Within [.word 0x5 0x14, .page 0x31] [.engines] s (knownAnswer a0 a1 s) := by
  unfold Machine.knownAnswer
  refine Within.ite ?_ ?_
  · exact Within.refl _ _ _
  · extract_lets x0
    refine Within.via x0 ?_ (fun h1 => ?_)
    · unfold x0
      refine Within.set_engineChecks ?_ (by decide)
      exact Within.refl _ _ _
    · clear_value x0
      refine Within.ite ?_ ?_
      · exact h1
      · refine Within.then ?_ (frame_retireEngine _ _) rfl rfl
        refine Within.wr ?_ (inScopes_of rfl)
        refine Within.wr ?_ (inScopes_of rfl)
        exact h1

theorem frame_engineDrained (a0 : Nat) (s : State) :
    Within [.page 0x5, .page 0x31] [] s (engineDrained a0 s) := by
  unfold Machine.engineDrained
  refine Within.ite ?_ ?_
  · refine Within.then ?_ (frame_engineRetired _ _) rfl rfl
    exact Within.refl _ _ _
  · exact Within.refl _ _ _

theorem frame_ccmDone (a0 : Bool) (s : State) :
    Within [.word 0x4c 0x14, .word 0x4c 0x50, .word 0x4c 0x4c, .word 0x4c 0x48, .word 0x4c 0x44, .page 0x31, .word 0x30 0x14, .word 0x30 0xa8, .word 0x46 0x70, .word 0x46 0x14, .word 0x46 0x54, .word 0x46 0x58, .word 0x46 0x5c] [.notices, .jobs, .draws, .mem, .ddr] s (ccmDone a0 s) := by
  unfold Machine.ccmDone
  split
  · exact Within.refl _ _ _
  · refine Within.ite ?_ ?_
    · exact Within.refl _ _ _
    · refine Within.ite ?_ ?_
      · refine Within.then ?_ (frame_ccmEnd _ _) rfl rfl
        refine Within.then ?_ (frame_suppress _) rfl rfl
        exact Within.refl _ _ _
      · refine Within.ite ?_ ?_
        · refine Within.then ?_ (frame_ccmEnd _ _) rfl rfl
          exact Within.refl _ _ _
        · refine Within.ite ?_ ?_
          · refine Within.then ?_ (frame_ccmEnd _ _) rfl rfl
            refine Within.then ?_ (frame_ddrLostIf _ _ _) rfl rfl
            exact Within.refl _ _ _
          · extract_lets x0 x1 x2 x3 x4 x5 x6
            refine Within.ite ?_ ?_
            · refine Within.then ?_ (frame_ccmEnd _ _) rfl rfl
              refine Within.set_ddr ?_ (by decide)
              exact Within.refl _ _ _
            · split
              · refine Within.then ?_ (frame_ccmEnd _ _) rfl rfl
                exact Within.refl _ _ _
              · refine Within.then ?_ (frame_ccmEnd _ _) rfl rfl
                refine Within.set_ddr ?_ (by decide)
                exact Within.refl _ _ _

theorem frame_sciDone (a0 : Bool) (s : State) :
    Within [.word 0x4c 0x14, .word 0x4c 0x50, .word 0x4c 0x4c, .word 0x4c 0x48, .word 0x4c 0x44, .word 0x32 0x14, .word 0x32 0xa8, .word 0x30 0x14, .word 0x30 0xa8, .word 0x46 0x70, .word 0x46 0x14, .word 0x46 0x54, .word 0x46 0x58, .word 0x46 0x5c] [.notices, .jobs, .draws, .mem, .ddr] s (sciDone a0 s) := by
  unfold Machine.sciDone
  split
  · exact Within.refl _ _ _
  · refine Within.ite ?_ ?_
    · exact Within.refl _ _ _
    · refine Within.ite ?_ ?_
      · refine Within.then ?_ (frame_sciEnd _ _) rfl rfl
        refine Within.then ?_ (frame_suppress _) rfl rfl
        exact Within.refl _ _ _
      · refine Within.ite ?_ ?_
        · refine Within.then ?_ (frame_sciEnd _ _) rfl rfl
          exact Within.refl _ _ _
        · refine Within.ite ?_ ?_
          · refine Within.then ?_ (frame_sciEnd _ _) rfl rfl
            refine Within.then ?_ (frame_ddrLostIf _ _ _) rfl rfl
            exact Within.refl _ _ _
          · extract_lets x0 x1 x2 x3
            refine Within.ite ?_ ?_
            · generalize e4 : Machine.draw _ = p5
              obtain ⟨_, _⟩ := p5
              dsimp only
              refine Within.viaEq ?_ e4 (fun h6 => ?_)
              · refine Within.then ?_ (frame_draw _) rfl rfl
                exact Within.refl _ _ _
              · refine Within.then ?_ (frame_sciEnd _ _) rfl rfl
                refine Within.set_ddr ?_ (by decide)
                exact h6
            · refine Within.then ?_ (frame_sciEnd _ _) rfl rfl
              refine Within.set_ddr ?_ (by decide)
              exact Within.refl _ _ _

theorem frame_pkeDone (a0 : Bool) (a1 : Bool) (s : State) :
    Within [.word 0x4c 0x14, .word 0x4c 0x50, .word 0x4c 0x4c, .word 0x4c 0x48, .word 0x4c 0x44, .page 0x33, .word 0x30 0x14, .word 0x30 0xa8, .word 0x46 0x70, .word 0x46 0x14, .word 0x46 0x54, .word 0x46 0x58, .word 0x46 0x5c] [.notices, .jobs, .draws, .mem] s (pkeDone a0 a1 s) := by
  unfold Machine.pkeDone
  split
  · exact Within.refl _ _ _
  · extract_lets x0 x1
    refine Within.via x1 ?_ (fun h2 => ?_)
    · unfold x1
      refine Within.inc ?_ (inScopes_of rfl)
      exact Within.refl _ _ _
    · clear_value x1
      refine Within.ite ?_ ?_
      · exact Within.refl _ _ _
      · refine Within.ite ?_ ?_
        · refine Within.then ?_ (frame_pkeEnd _ _ _) rfl rfl
          refine Within.then ?_ (frame_suppress _) rfl rfl
          exact h2
        · refine Within.ite ?_ ?_
          · refine Within.then ?_ (frame_pkeEnd _ _ _) rfl rfl
            refine Within.then ?_ (frame_ddrLostIf _ _ _) rfl rfl
            exact h2
          · refine Within.ite ?_ ?_
            · refine Within.then ?_ (frame_pkeEnd _ _ _) rfl rfl
              exact h2
            · refine Within.then ?_ (frame_pkeEnd _ _ _) rfl rfl
              exact h2

theorem frame_setLos (a0 : Nat) (a1 : Bool) (s : State) :
    Within [.word (0x38 + a0 % 2) 0x14, .word (0x38 + a0 % 2) 0xc8] [.ports] s (setLos a0 a1 s) := by
  unfold Machine.setLos
  extract_lets x0
  refine Within.via x0 ?_ (fun h1 => ?_)
  · unfold x0
    refine Within.then ?_ (frame_modPort _ _ _) rfl rfl
    exact Within.refl _ _ _
  · clear_value x0
    refine Within.ite ?_ ?_
    · exact h1
    · refine Within.latch ?_ (inScopes_at 0 rfl)
      refine Within.wrBool ?_ (inScopes_at 1 rfl)
      exact h1

theorem frame_ethLinkChange (a0 : Nat) (a1 : Bool) (a2 : Bool) (a3 : Bool) (a4 : Bool) (a5 : Bool) (a6 : Bool) (a7 : Bool) (a8 : Nat) (s : State) :
    Within [.word 0x4c 0x14, .word 0x4c 0x50, .word 0x4c 0x4c, .word 0x4c 0x48, .word 0x4c 0x44, .page 0x41, .page 0x1b, .word 0x20 0xdc, .word 0x20 0xd8, .word 0x20 0xd4, .word 0x20 0xd0, .word (0x38 + a0 % 2) 0x74, .word (0x38 + a0 % 2) 0x70, .word (0x38 + a0 % 2) 0x14, .word (0x38 + a0 % 2) 0x78, .page (0x3a + a0 % 2), .word (0x38 + a0 % 2) 0xac, .word (0x38 + a0 % 2) 0xc8] [.ports, .notices, .rings, .ddr, .nodes, .ledger] s (ethLinkChange a0 a1 a2 a3 a4 a5 a6 a7 a8 s) := by
  unfold Machine.ethLinkChange
  refine Within.after ?_ (frame_refreshLink _ _) (amongCons rfl (amongCons rfl (amongCons rfl (amongCons rfl (amongCons rfl (amongCons rfl (amongCons rfl (amongCons rfl (amongCons rfl (amongCons rfl (amongCons rfl (amongCons (amongAt 11 rfl) (amongCons (amongAt 12 rfl) (amongCons (amongAt 13 rfl) (amongCons (amongAt 14 rfl) (amongCons (amongAt 15 rfl) (amongCons (amongAt 16 rfl) amongNil))))))))))))))))) rfl
  refine Within.then ?_ (frame_modPort _ _ _) rfl rfl
  refine Within.after ?_ (frame_setLos _ _ _) (amongCons (amongAt 13 rfl) (amongCons (amongAt 17 rfl) amongNil)) rfl
  exact Within.refl _ _ _

theorem frame_rmonReceive (a0 : Nat) (a1 : Nat) (a2 : Bool) (a3 : Bool) (a4 : EthFrame) (s : State) :
    Within [.page (0x3a + a0 % 2)] [.ports] s (rmonReceive a0 a1 a2 a3 a4 s) := by
  unfold Machine.rmonReceive
  extract_lets x0 x1 x2 x3 x4
  refine Within.via x1 ?_ (fun h5 => ?_)
  · unfold x1
    refine Within.after ?_ (frame_rmon _ _ _) (amongCons (by simp [Scope.among, fePage, schedPage, ethPage, ethStatPage]) amongNil) rfl
    refine Within.after ?_ (frame_rmonAdd _ _ _ _) (amongCons (by simp [Scope.among, fePage, schedPage, ethPage, ethStatPage]) amongNil) rfl
    exact Within.refl _ _ _
  · clear_value x1
    refine Within.via x2 ?_ (fun h6 => ?_)
    · unfold x2
      refine Within.ite ?_ ?_
      · refine Within.after ?_ (frame_rmon _ _ _) (amongCons (by simp [Scope.among, fePage, schedPage, ethPage, ethStatPage]) amongNil) rfl
        exact h5
      · exact h5
    · clear_value x2
      refine Within.via x3 ?_ (fun h7 => ?_)
      · unfold x3
        refine Within.after ?_ (frame_rmon _ _ _) (amongCons (by simp [Scope.among, fePage, schedPage, ethPage, ethStatPage]) amongNil) rfl
        exact h6
      · clear_value x3
        refine Within.via x4 ?_ (fun h8 => ?_)
        · unfold x4
          refine Within.after ?_ (frame_rmon _ _ _) (amongCons (by simp [Scope.among, fePage, schedPage, ethPage, ethStatPage]) amongNil) rfl
          refine Within.after ?_ (frame_rmonAdd _ _ _ _) (amongCons (by simp [Scope.among, fePage, schedPage, ethPage, ethStatPage]) amongNil) rfl
          exact h7
        · clear_value x4
          refine Within.ite ?_ ?_
          · refine Within.after ?_ (frame_rmon _ _ _) (amongCons (by simp [Scope.among, fePage, schedPage, ethPage, ethStatPage]) amongNil) rfl
            exact h6
          · refine Within.ite ?_ ?_
            · refine Within.after ?_ (frame_rmon _ _ _) (amongCons (by simp [Scope.among, fePage, schedPage, ethPage, ethStatPage]) amongNil) rfl
              exact h6
            · refine Within.ite ?_ ?_
              · refine Within.after ?_ (frame_rmon _ _ _) (amongCons (by simp [Scope.among, fePage, schedPage, ethPage, ethStatPage]) amongNil) rfl
                exact h7
              · refine Within.ite ?_ ?_
                · refine Within.after ?_ (frame_rmon _ _ _) (amongCons (by simp [Scope.among, fePage, schedPage, ethPage, ethStatPage]) amongNil) rfl
                  exact h8
                · exact h8

theorem frame_loadPause (a0 : Nat) (a1 : Nat) (s : State) :
    Within [.word (0x38 + a0 % 2) 0x74, .word (0x38 + a0 % 2) 0x70, .word (0x38 + a0 % 2) 0x14] [.ports] s (loadPause a0 a1 s) := by
  unfold Machine.loadPause
  refine Within.ite ?_ ?_
  · exact Within.refl _ _ _
  · extract_lets x0 x1
    refine Within.via x0 ?_ (fun h2 => ?_)
    · unfold x0
      refine Within.then ?_ (frame_modPort _ _ _) rfl rfl
      exact Within.refl _ _ _
    · clear_value x0
      refine Within.via x1 ?_ (fun h3 => ?_)
      · unfold x1
        refine Within.after ?_ (frame_showPause _ _) (amongCons (by simp [Scope.among, fePage, schedPage, ethPage, ethStatPage]) (amongCons (by simp [Scope.among, fePage, schedPage, ethPage, ethStatPage]) amongNil)) rfl
        exact h2
      · clear_value x1
        refine Within.ite ?_ ?_
        · exact h3
        · refine Within.latch ?_ (inScopes_of (by simp [Scope.among, fePage, schedPage, ethPage, ethStatPage, F.HEAD.EVT_LATCH]))
          exact h3

theorem frame_ethFrameEnd (a0 : Nat) (a1 : Nat) (a2 : Bool) (a3 : Bool) (a4 : Nat) (a5 : Nat) (a6 : EthFrame) (s : State) :
    Within [.page (0x3a + a0 % 2), .word (0x38 + a0 % 2) 0x74, .word (0x38 + a0 % 2) 0x70, .word (0x38 + a0 % 2) 0x14, .word (0x38 + a0 % 2) 0x84, .word (0x38 + a0 % 2) 0x88, .word (0x38 + a0 % 2) 0x8c, .word (0x38 + a0 % 2) 0x90, .word (0x38 + a0 % 2) 0xb4, .word (0x38 + a0 % 2) 0xbc, .word (0x38 + a0 % 2) 0x80] [.ports, .frameNumbers, .ledger] s (ethFrameEnd a0 a1 a2 a3 a4 a5 a6 s) := by
  unfold Machine.ethFrameEnd
  extract_lets x0 x1 x2 x3 x4
  refine Within.via x3 ?_ (fun h5 => ?_)
  · unfold x3
    refine Within.ite ?_ ?_
    · exact Within.refl _ _ _
    · refine Within.after ?_ (frame_rmonReceive _ _ _ _ _ _) (amongCons (amongAt 0 rfl) amongNil) rfl
      exact Within.refl _ _ _
  · clear_value x3
    refine Within.via x4 ?_ (fun h6 => ?_)
    · unfold x4
      refine Within.ite ?_ ?_
      · refine Within.after ?_ (frame_loadPause _ _ _) (amongCons (amongAt 1 rfl) (amongCons (amongAt 2 rfl) (amongCons (amongAt 3 rfl) amongNil))) rfl
        exact h5
      · exact h5
    · clear_value x4
      refine Within.ite ?_ ?_
      · exact h6
      · refine Within.ite ?_ ?_
        · refine Within.ite ?_ ?_
          · generalize e7 : Machine.newFrame _ = p8
            obtain ⟨_, _⟩ := p8
            dsimp only
            refine Within.viaEq ?_ e7 (fun h9 => ?_)
            · refine Within.then ?_ (frame_newFrame _) rfl rfl
              exact h6
            · refine Within.then ?_ (frame_close _ _ _) rfl rfl
              exact h9
          · exact h6
        · generalize e10 : Machine.newFrame _ = p11
          obtain ⟨_, _⟩ := p11
          dsimp only
          refine Within.viaEq ?_ e10 (fun h12 => ?_)
          · refine Within.then ?_ (frame_newFrame _) rfl rfl
            exact h6
          · refine Within.ite ?_ ?_
            · refine Within.then ?_ (frame_close _ _ _) rfl rfl
              refine Within.inc ?_ (inScopes_at 4 rfl)
              exact h12
            · refine Within.ite ?_ ?_
              · refine Within.then ?_ (frame_close _ _ _) rfl rfl
                refine Within.inc ?_ (inScopes_at 5 rfl)
                exact h12
              · refine Within.ite ?_ ?_
                · refine Within.then ?_ (frame_close _ _ _) rfl rfl
                  refine Within.inc ?_ (inScopes_at 6 rfl)
                  exact h12
                · refine Within.ite ?_ ?_
                  · refine Within.then ?_ (frame_close _ _ _) rfl rfl
                    refine Within.after ?_ (frame_rmon _ _ _) (amongCons (amongAt 0 rfl) amongNil) rfl
                    refine Within.inc ?_ (inScopes_at 7 rfl)
                    exact h12
                  · refine Within.ite ?_ ?_
                    · refine Within.then ?_ (frame_close _ _ _) rfl rfl
                      refine Within.after ?_ (frame_showOctets _ _) (amongCons (amongAt 8 rfl) (amongCons (amongAt 9 rfl) amongNil)) rfl
                      refine Within.inc ?_ (inScopes_at 10 rfl)
                      refine Within.then ?_ (frame_modPort _ _ _) rfl rfl
                      exact h12
                    · refine Within.then ?_ (frame_modPort _ _ _) rfl rfl
                      refine Within.ite ?_ ?_
                      · refine Within.after ?_ (frame_loadPause _ _ _) (amongCons (amongAt 1 rfl) (amongCons (amongAt 2 rfl) (amongCons (amongAt 3 rfl) amongNil))) rfl
                        refine Within.after ?_ (frame_showOctets _ _) (amongCons (amongAt 8 rfl) (amongCons (amongAt 9 rfl) amongNil)) rfl
                        refine Within.inc ?_ (inScopes_at 10 rfl)
                        refine Within.then ?_ (frame_modPort _ _ _) rfl rfl
                        exact h12
                      · refine Within.after ?_ (frame_showOctets _ _) (amongCons (amongAt 8 rfl) (amongCons (amongAt 9 rfl) amongNil)) rfl
                        refine Within.inc ?_ (inScopes_at 10 rfl)
                        refine Within.then ?_ (frame_modPort _ _ _) rfl rfl
                        exact h12

theorem frame_pauseTimerExpiry (a0 : Nat) (s : State) :
    Within [.word (0x38 + a0 % 2) 0x74, .word (0x38 + a0 % 2) 0x70] [.ports] s (pauseTimerExpiry a0 s) := by
  unfold Machine.pauseTimerExpiry
  refine Within.after ?_ (frame_showPause _ _) (amongCons (by simp [Scope.among, fePage, schedPage, ethPage, ethStatPage]) (amongCons (by simp [Scope.among, fePage, schedPage, ethPage, ethStatPage]) amongNil)) rfl
  refine Within.then ?_ (frame_modPort _ _ _) rfl rfl
  exact Within.refl _ _ _

theorem frame_egressOffer (a0 : Nat) (s : State) :
    Within [.word 0x4c 0x14, .word 0x4c 0x50, .word 0x4c 0x4c, .word 0x4c 0x48, .word 0x4c 0x44, .page 0x41, .page 0x1b, .word 0x20 0xdc, .word 0x20 0xd8, .word 0x20 0xd4, .word 0x20 0xd0] [.ports, .notices, .rings, .ddr, .nodes, .ledger] s (egressOffer a0 s) := by
  unfold Machine.egressOffer
  split
  · exact Within.refl _ _ _
  · extract_lets x0
    refine Within.via x0 ?_ (fun h1 => ?_)
    · unfold x0
      refine Within.then ?_ (frame_modPort _ _ _) rfl rfl
      exact Within.refl _ _ _
    · clear_value x0
      refine Within.ite ?_ ?_
      · refine Within.then ?_ (frame_endEgress _ _ _) rfl rfl
        exact h1
      · refine Within.then ?_ (frame_modPort _ _ _) rfl rfl
        exact h1

theorem frame_ptpBad (a0 : Nat) (s : State) :
    Within [.page 0x3d] [] s (ptpBad a0 s) := by
  unfold Machine.ptpBad
  refine Within.latch ?_ (inScopes_of rfl)
  refine Within.inc ?_ (inScopes_of rfl)
  exact Within.refl _ _ _

theorem frame_oneStep (a0 : Nat) (a1 : Egress) (a2 : Nat) (s : State) :
    Within [.page 0x3d] [.ports] s (oneStep a0 a1 a2 s) := by
  unfold Machine.oneStep
  refine Within.ite ?_ ?_
  · exact Within.refl _ _ _
  · refine Within.ite ?_ ?_
    · refine Within.inc ?_ (inScopes_of rfl)
      exact Within.refl _ _ _
    · refine Within.ite ?_ ?_
      · refine Within.ite ?_ ?_
        · refine Within.then ?_ (frame_ptpBad _ _) rfl rfl
          exact Within.refl _ _ _
        · exact Within.refl _ _ _
      · refine Within.ite ?_ ?_
        · refine Within.then ?_ (frame_ptpBad _ _) rfl rfl
          exact Within.refl _ _ _
        · extract_lets x0
          refine Within.inc ?_ (inScopes_of rfl)
          refine Within.then ?_ (frame_modPort _ _ _) rfl rfl
          exact Within.refl _ _ _

theorem frame_egressFrameStart (a0 : Nat) (s : State) :
    Within [.page 0x3d] [.ports] s (egressFrameStart a0 s) := by
  unfold Machine.egressFrameStart
  extract_lets x0 x1 x2
  refine Within.ite ?_ ?_
  · exact Within.refl _ _ _
  · split
    · refine Within.then ?_ (frame_modPort _ _ _) rfl rfl
      exact Within.refl _ _ _
    · refine Within.ite ?_ ?_
      · exact Within.refl _ _ _
      · split
        · exact Within.refl _ _ _
        · extract_lets x3
          refine Within.via x3 ?_ (fun h4 => ?_)
          · unfold x3
            refine Within.then ?_ (frame_modPort _ _ _) rfl rfl
            exact Within.refl _ _ _
          · clear_value x3
            refine Within.then ?_ (frame_oneStep _ _ _ _) rfl rfl
            exact h4

theorem frame_countSent (a0 : Nat) (a1 : Nat) (a2 : Cast) (a3 : Bool) (s : State) :
    Within [.page (0x3a + a0 % 2), .word (0x38 + a0 % 2) 0xb4, .word (0x38 + a0 % 2) 0xbc] [.ports] s (countSent a0 a1 a2 a3 s) := by
  unfold Machine.countSent
  extract_lets x0 x1 x2
  refine Within.via x0 ?_ (fun h3 => ?_)
  · unfold x0
    refine Within.then ?_ (frame_modPort _ _ _) rfl rfl
    exact Within.refl _ _ _
  · clear_value x0
    refine Within.via x1 ?_ (fun h4 => ?_)
    · unfold x1
      refine Within.after ?_ (frame_rmon _ _ _) (amongCons (by simp [Scope.among, fePage, schedPage, ethPage, ethStatPage]) amongNil) rfl
      refine Within.after ?_ (frame_rmonAdd _ _ _ _) (amongCons (by simp [Scope.among, fePage, schedPage, ethPage, ethStatPage]) amongNil) rfl
      refine Within.after ?_ (frame_showOctets _ _) (amongCons (by simp [Scope.among, fePage, schedPage, ethPage, ethStatPage]) (amongCons (by simp [Scope.among, fePage, schedPage, ethPage, ethStatPage]) amongNil)) rfl
      exact h3
    · clear_value x1
      refine Within.via x2 ?_ (fun h5 => ?_)
      · unfold x2
        refine Within.after ?_ (frame_rmon _ _ _) (amongCons (by simp [Scope.among, fePage, schedPage, ethPage, ethStatPage]) amongNil) rfl
        refine Within.after ?_ (frame_rmon _ _ _) (amongCons (by simp [Scope.among, fePage, schedPage, ethPage, ethStatPage]) amongNil) rfl
        exact h4
      · clear_value x2
        refine Within.ite ?_ ?_
        · refine Within.after ?_ (frame_rmon _ _ _) (amongCons (by simp [Scope.among, fePage, schedPage, ethPage, ethStatPage]) amongNil) rfl
          exact h5
        · exact h5

theorem frame_tsPush (a0 : Nat) (a1 : TsEntry) (s : State) :
    Within [.page 0x3d, .word 0x4c 0x14, .word 0x4c 0x50, .word 0x4c 0x4c, .word 0x4c 0x48, .word 0x4c 0x44] [.notices, .ports] s (tsPush a0 a1 s) := by
  unfold Machine.tsPush
  refine Within.ite ?_ ?_
  · refine Within.latch ?_ (inScopes_of rfl)
    refine Within.inc ?_ (inScopes_of rfl)
    exact Within.refl _ _ _
  · extract_lets x0 x1
    refine Within.via x0 ?_ (fun h2 => ?_)
    · unfold x0
      refine Within.then ?_ (frame_showTsq _ _) rfl rfl
      refine Within.then ?_ (frame_modPort _ _ _) rfl rfl
      exact Within.refl _ _ _
    · clear_value x0
      refine Within.via x1 ?_ (fun h3 => ?_)
      · unfold x1
        refine Within.inc ?_ (inScopes_of rfl)
        exact h2
      · clear_value x1
        refine Within.then ?_ (frame_pushNotice _ _ _) rfl rfl
        exact h3

theorem frame_egressFrameEnd (a0 : Nat) (s : State) :
    Within [.word 0x4c 0x14, .word 0x4c 0x50, .word 0x4c 0x4c, .word 0x4c 0x48, .word 0x4c 0x44, .page 0x41, .page 0x1b, .word 0x20 0xdc, .word 0x20 0xd8, .word 0x20 0xd4, .word 0x20 0xd0, .page 0x3d, .page (0x3a + a0 % 2), .word (0x38 + a0 % 2) 0xb4, .word (0x38 + a0 % 2) 0xbc, .word (0x38 + a0 % 2) 0xa4, .word (0x38 + a0 % 2) 0xa0] [.ports, .notices, .rings, .ddr, .nodes, .ledger] s (egressFrameEnd a0 s) := by
  unfold Machine.egressFrameEnd
  extract_lets x0 x1 x2
  refine Within.via x1 ?_ (fun h3 => ?_)
  · unfold x1
    refine Within.then ?_ (frame_modPort _ _ _) rfl rfl
    exact Within.refl _ _ _
  · clear_value x1
    refine Within.via x2 ?_ (fun h4 => ?_)
    · unfold x2
      refine Within.then ?_ (frame_modPort _ _ _) rfl rfl
      exact Within.refl _ _ _
    · clear_value x2
      split
      · refine Within.after ?_ (frame_countSent _ _ _ _ _) (amongCons (amongAt 12 rfl) (amongCons (amongAt 13 rfl) (amongCons (amongAt 14 rfl) amongNil))) rfl
        refine Within.after ?_ (frame_rmon _ _ _) (amongCons (amongAt 12 rfl) amongNil) rfl
        refine Within.inc ?_ (inScopes_at 15 rfl)
        exact h3
      · extract_lets x5 x6
        refine Within.via x5 ?_ (fun h7 => ?_)
        · unfold x5
          refine Within.inc ?_ (inScopes_at 16 rfl)
          refine Within.after ?_ (frame_countSent _ _ _ _ _) (amongCons (amongAt 12 rfl) (amongCons (amongAt 13 rfl) (amongCons (amongAt 14 rfl) amongNil))) rfl
          exact h4
        · clear_value x5
          refine Within.via x6 ?_ (fun h8 => ?_)
          · unfold x6
            split
            · refine Within.ite ?_ ?_
              · refine Within.then ?_ (frame_tsPush _ _ _) rfl rfl
                exact h7
              · exact h7
            · exact h7
          · clear_value x6
            refine Within.then ?_ (frame_endEgress _ _ _) rfl rfl
            exact h8
      · exact Within.refl _ _ _

theorem frame_egressHoldTimeout (a0 : Nat) (s : State) :
    Within [.word 0x4c 0x14, .word 0x4c 0x50, .word 0x4c 0x4c, .word 0x4c 0x48, .word 0x4c 0x44, .page 0x41, .page 0x1b, .word 0x20 0xdc, .word 0x20 0xd8, .word 0x20 0xd4, .word 0x20 0xd0, .word (0x38 + a0 % 2) 0x14, .page (0x3a + a0 % 2), .word (0x38 + a0 % 2) 0xa8] [.notices, .rings, .ddr, .nodes, .ledger, .ports] s (egressHoldTimeout a0 s) := by
  unfold Machine.egressHoldTimeout
  extract_lets x0
  clear_value x0
  split
  · exact Within.refl _ _ _
  · extract_lets x1 x2
    refine Within.via x2 ?_ (fun h3 => ?_)
    · unfold x2
      refine Within.then ?_ (frame_modPort _ _ _) rfl rfl
      exact Within.refl _ _ _
    · clear_value x2
      refine Within.then ?_ (frame_endEgress _ _ _) rfl rfl
      refine Within.latch ?_ (inScopes_of (by simp [Scope.among, fePage, schedPage, ethPage, ethStatPage, F.HEAD.EVT_LATCH]))
      refine Within.after ?_ (frame_rmon _ _ _) (amongCons (by simp [Scope.among, fePage, schedPage, ethPage, ethStatPage]) amongNil) rfl
      refine Within.inc ?_ (inScopes_of (by simp [Scope.among, fePage, schedPage, ethPage, ethStatPage, F.ETH.TX_TIMEOUT]))
      exact h3

theorem frame_sendPause (a0 : Nat) (a1 : Nat) (s : State) :
    Within [] [.ports] s (sendPause a0 a1 s) := by
  unfold Machine.sendPause
  refine Within.ite ?_ ?_
  · refine Within.then ?_ (frame_modPort _ _ _) rfl rfl
    exact Within.refl _ _ _
  · exact Within.refl _ _ _

theorem frame_bufferHigh (a0 : Nat) (s : State) :
    Within [.word (0x38 + a0 % 2) 0x14, .word (0x38 + a0 % 2) 0x6c, .word (0x38 + a0 % 2) 0x70] [.ports] s (bufferHigh a0 s) := by
  unfold Machine.bufferHigh
  refine Within.ite ?_ ?_
  · exact Within.refl _ _ _
  · extract_lets x0
    refine Within.via x0 ?_ (fun h1 => ?_)
    · unfold x0
      refine Within.latch ?_ (inScopes_of (by simp [Scope.among, fePage, schedPage, ethPage, ethStatPage, F.HEAD.EVT_LATCH]))
      refine Within.wr ?_ (inScopes_of (by simp [Scope.among, fePage, schedPage, ethPage, ethStatPage, F.ETH.BUFFER_LATCH]))
      exact Within.refl _ _ _
    · clear_value x0
      refine Within.ite ?_ ?_
      · refine Within.then ?_ (frame_sendPause _ _ _) rfl rfl
        refine Within.then ?_ (frame_modPort _ _ _) rfl rfl
        refine Within.wr ?_ (inScopes_of (by simp [Scope.among, fePage, schedPage, ethPage, ethStatPage, F.ETH.STATUS_PAUSING_PEER]))
        exact h1
      · exact h1

theorem frame_pauseRepeat (a0 : Nat) (s : State) :
    Within [] [.ports] s (pauseRepeat a0 s) := by
  unfold Machine.pauseRepeat
  refine Within.ite ?_ ?_
  · refine Within.then ?_ (frame_sendPause _ _ _) rfl rfl
    exact Within.refl _ _ _
  · exact Within.refl _ _ _

theorem frame_bufferLow (a0 : Nat) (s : State) :
    Within [.word (0x38 + a0 % 2) 0x70] [.ports] s (bufferLow a0 s) := by
  unfold Machine.bufferLow
  refine Within.ite ?_ ?_
  · exact Within.refl _ _ _
  · extract_lets x0 x1
    refine Within.via x1 ?_ (fun h2 => ?_)
    · unfold x1
      refine Within.wr ?_ (inScopes_of (by simp [Scope.among, fePage, schedPage, ethPage, ethStatPage, F.ETH.STATUS_PAUSING_PEER]))
      refine Within.wr ?_ (inScopes_of (by simp [Scope.among, fePage, schedPage, ethPage, ethStatPage, F.ETH.STATUS_PAUSE_GAVE_UP]))
      exact Within.refl _ _ _
    · clear_value x1
      refine Within.ite ?_ ?_
      · refine Within.then ?_ (frame_sendPause _ _ _) rfl rfl
        exact h2
      · exact h2

theorem frame_pauseMaxHold (a0 : Nat) (s : State) :
    Within [.word (0x38 + a0 % 2) 0xb0, .word (0x38 + a0 % 2) 0x70] [.ports] s (pauseMaxHold a0 s) := by
  unfold Machine.pauseMaxHold
  refine Within.ite ?_ ?_
  · extract_lets x0
    refine Within.via x0 ?_ (fun h1 => ?_)
    · unfold x0
      refine Within.then ?_ (frame_sendPause _ _ _) rfl rfl
      refine Within.wr ?_ (inScopes_of (by simp [Scope.among, fePage, schedPage, ethPage, ethStatPage, F.ETH.STATUS_PAUSING_PEER]))
      exact Within.refl _ _ _
    · clear_value x0
      refine Within.inc ?_ (inScopes_of (by simp [Scope.among, fePage, schedPage, ethPage, ethStatPage, F.ETH.PAUSE_GIVEUP]))
      refine Within.wr ?_ (inScopes_of (by simp [Scope.among, fePage, schedPage, ethPage, ethStatPage, F.ETH.STATUS_PAUSE_GAVE_UP]))
      exact h1
  · exact Within.refl _ _ _

theorem frame_sfpModAbs (a0 : Nat) (a1 : Bool) (s : State) :
    Within [.page (0x38 + a0 % 2)] [.ports] s (sfpModAbs a0 a1 s) := by
  unfold Machine.sfpModAbs
  refine Within.ite ?_ ?_
  · exact Within.refl _ _ _
  · extract_lets x0 x1 x2 x3
    refine Within.via x0 ?_ (fun h4 => ?_)
    · unfold x0
      refine Within.latch ?_ (inScopes_of (by simp [Scope.among, fePage, schedPage, ethPage, ethStatPage, F.HEAD.EVT_LATCH]))
      refine Within.wrBool ?_ (inScopes_of (by simp [Scope.among, fePage, schedPage, ethPage, ethStatPage, F.ETH.SFP_STATUS_PRESENT]))
      exact Within.refl _ _ _
    · clear_value x0
      refine Within.via x1 ?_ (fun h5 => ?_)
      · unfold x1
        refine Within.ite ?_ ?_
        · refine Within.after ?_ (frame_sfpResult _ _ _) (amongCons (by simp [Scope.among, fePage, schedPage, ethPage, ethStatPage]) amongNil) rfl
          exact h4
        · exact h4
      · clear_value x1
        refine Within.via x2 ?_ (fun h6 => ?_)
        · unfold x2
          refine Within.wr ?_ (inScopes_of (by simp [Scope.among, fePage, schedPage, ethPage, ethStatPage, F.ETH.SFP_STATUS_ID_VALID]))
          refine Within.wr ?_ (inScopes_of (by simp [Scope.among, fePage, schedPage, ethPage, ethStatPage, F.ETH.SFP_STATUS_CC_BAD]))
          refine Within.wr ?_ (inScopes_of (by simp [Scope.among, fePage, schedPage, ethPage, ethStatPage, F.ETH.SFP_STATUS_DDM]))
          exact h5
        · clear_value x2
          refine Within.via x3 ?_ (fun h7 => ?_)
          · unfold x3
            refine Within.foldl ?_ (fun _ _ _ h8 => ?_)
            · exact h6
            · refine Within.wr ?_ (inScopes_of (by simp [Scope.among, fePage, schedPage, ethPage, ethStatPage, F.ETH.SFP_ID]))
              exact h8
          · clear_value x3
            refine Within.ite ?_ ?_
            · exact h4
            · refine Within.foldl ?_ (fun _ _ _ h9 => ?_)
              · exact h7
              · refine Within.wr ?_ (inScopes_of (by simp [Scope.among, fePage, schedPage, ethPage, ethStatPage, F.ETH.SFP_DDM]))
                exact h9

theorem frame_sfpIdRead (a0 : Nat) (a1 : List Byte) (s : State) :
    Within [.page (0x38 + a0 % 2)] [] s (sfpIdRead a0 a1 s) := by
  unfold Machine.sfpIdRead
  refine Within.ite ?_ ?_
  · exact Within.refl _ _ _
  · extract_lets x0 x1 x2 x3
    refine Within.via x2 ?_ (fun h4 => ?_)
    · unfold x2
      refine Within.foldl ?_ (fun _ _ _ h5 => ?_)
      · exact Within.refl _ _ _
      · refine Within.wr ?_ (inScopes_of (by simp [Scope.among, fePage, schedPage, ethPage, ethStatPage, F.ETH.SFP_ID]))
        exact h5
    · clear_value x2
      refine Within.via x3 ?_ (fun h6 => ?_)
      · unfold x3
        refine Within.wrBool ?_ (inScopes_of (by simp [Scope.among, fePage, schedPage, ethPage, ethStatPage, F.ETH.SFP_STATUS_ID_VALID]))
        refine Within.wrBool ?_ (inScopes_of (by simp [Scope.among, fePage, schedPage, ethPage, ethStatPage, F.ETH.SFP_STATUS_CC_BAD]))
        exact h4
      · clear_value x3
        refine Within.latch ?_ (inScopes_of (by simp [Scope.among, fePage, schedPage, ethPage, ethStatPage, F.HEAD.EVT_LATCH]))
        refine Within.wrBool ?_ (inScopes_of (by simp [Scope.among, fePage, schedPage, ethPage, ethStatPage, F.ETH.SFP_STATUS_DDM]))
        exact h6

theorem frame_sfpDdmPoll (a0 : Nat) (a1 : List Byte) (s : State) :
    Within [.page (0x38 + a0 % 2)] [] s (sfpDdmPoll a0 a1 s) := by
  unfold Machine.sfpDdmPoll
  refine Within.ite ?_ ?_
  · refine Within.foldl ?_ (fun _ _ _ h0 => ?_)
    · exact Within.refl _ _ _
    · refine Within.wr ?_ (inScopes_of (by simp [Scope.among, fePage, schedPage, ethPage, ethStatPage, F.ETH.SFP_DDM]))
      exact h0
  · exact Within.refl _ _ _

theorem frame_sfpLos (a0 : Nat) (a1 : Bool) (s : State) :
    Within [.word 0x4c 0x14, .word 0x4c 0x50, .word 0x4c 0x4c, .word 0x4c 0x48, .word 0x4c 0x44, .page 0x41, .page 0x1b, .word 0x20 0xdc, .word 0x20 0xd8, .word 0x20 0xd4, .word 0x20 0xd0, .word (0x38 + a0 % 2) 0x74, .word (0x38 + a0 % 2) 0x70, .word (0x38 + a0 % 2) 0x14, .word (0x38 + a0 % 2) 0x78, .page (0x3a + a0 % 2), .word (0x38 + a0 % 2) 0xac, .word (0x38 + a0 % 2) 0xc8] [.ports, .notices, .rings, .ddr, .nodes, .ledger] s (sfpLos a0 a1 s) := by
  unfold Machine.sfpLos
  refine Within.ite ?_ ?_
  · exact Within.refl _ _ _
  · refine Within.after ?_ (frame_refreshLink _ _) (amongCons rfl (amongCons rfl (amongCons rfl (amongCons rfl (amongCons rfl (amongCons rfl (amongCons rfl (amongCons rfl (amongCons rfl (amongCons rfl (amongCons rfl (amongCons (amongAt 11 rfl) (amongCons (amongAt 12 rfl) (amongCons (amongAt 13 rfl) (amongCons (amongAt 14 rfl) (amongCons (amongAt 15 rfl) (amongCons (amongAt 16 rfl) amongNil))))))))))))))))) rfl
    refine Within.after ?_ (frame_setLos _ _ _) (amongCons (amongAt 13 rfl) (amongCons (amongAt 17 rfl) amongNil)) rfl
    exact Within.refl _ _ _

theorem frame_sfpAccessDone (a0 : Nat) (a1 : Bool) (a2 : Bool) (a3 : Byte) (s : State) :
    Within [.word (0x38 + a0 % 2) 0xc8, .word (0x38 + a0 % 2) 0xd0] [.ports] s (sfpAccessDone a0 a1 a2 a3 s) := by
  unfold Machine.sfpAccessDone
  split
  · exact Within.refl _ _ _
  · refine Within.ite ?_ ?_
    · refine Within.after ?_ (frame_sfpResult _ _ _) (amongCons (by simp [Scope.among, fePage, schedPage, ethPage, ethStatPage]) amongNil) rfl
      exact Within.refl _ _ _
    · refine Within.ite ?_ ?_
      · refine Within.after ?_ (frame_sfpResult _ _ _) (amongCons (by simp [Scope.among, fePage, schedPage, ethPage, ethStatPage]) amongNil) rfl
        exact Within.refl _ _ _
      · extract_lets x0
        refine Within.via x0 ?_ (fun h1 => ?_)
        · unfold x0
          refine Within.ite ?_ ?_
          · exact Within.refl _ _ _
          · refine Within.wr ?_ (inScopes_of (by simp [Scope.among, fePage, schedPage, ethPage, ethStatPage, F.ETH.SFP_READ_DATA]))
            exact Within.refl _ _ _
        · clear_value x0
          refine Within.after ?_ (frame_sfpResult _ _ _) (amongCons (by simp [Scope.among, fePage, schedPage, ethPage, ethStatPage]) amongNil) rfl
          exact h1

theorem frame_sfpNackRetry (a0 : Nat) (s : State) :
    Within [.word (0x38 + a0 % 2) 0xc8] [.ports] s (sfpNackRetry a0 s) := by
  unfold Machine.sfpNackRetry
  refine Within.ite ?_ ?_
  · exact Within.refl _ _ _
  · refine Within.ite ?_ ?_
    · refine Within.after ?_ (frame_sfpResult _ _ _) (amongCons (by simp [Scope.among, fePage, schedPage, ethPage, ethStatPage]) amongNil) rfl
      exact Within.refl _ _ _
    · refine Within.then ?_ (frame_modPort _ _ _) rfl rfl
      exact Within.refl _ _ _

theorem frame_holdover (s : State) :
    Within [.word 0x3c 0x14, .word 0x3c 0x70] [] s (holdover s) := by
  unfold Machine.holdover
  refine Within.ite ?_ ?_
  · exact Within.refl _ _ _
  · refine Within.latch ?_ (inScopes_of rfl)
    refine Within.wr ?_ (inScopes_of rfl)
    exact Within.refl _ _ _

theorem frame_ppsInEdge (a0 : Nat) (s : State) :
    Within [.word 0x3c 0x98, .word 0x3c 0x14, .word 0x3c 0x94] [.clock] s (ppsInEdge a0 s) := by
  unfold Machine.ppsInEdge
  refine Within.ite ?_ ?_
  · exact Within.refl _ _ _
  · extract_lets x0 x1 x2
    refine Within.via x2 ?_ (fun h3 => ?_)
    · unfold x2
      refine Within.then ?_ (frame_modClock _ _) rfl rfl
      exact Within.refl _ _ _
    · clear_value x2
      refine Within.ite ?_ ?_
      · refine Within.inc ?_ (inScopes_of rfl)
        exact Within.refl _ _ _
      · refine Within.latch ?_ (inScopes_of rfl)
        refine Within.inc ?_ (inScopes_of rfl)
        exact h3

theorem frame_ppsInLost (s : State) :
    Within [.word 0x3c 0x14] [.clock] s (ppsInLost s) := by
  unfold Machine.ppsInLost
  refine Within.ite ?_ ?_
  · exact Within.refl _ _ _
  · refine Within.latch ?_ (inScopes_of rfl)
    refine Within.then ?_ (frame_modClock _ _) rfl rfl
    exact Within.refl _ _ _

theorem frame_ppsOutPulse (s : State) :
    Within [] [.clock] s (ppsOutPulse s) := by
  unfold Machine.ppsOutPulse
  extract_lets x0
  refine Within.ite ?_ ?_
  · exact Within.refl _ _ _
  · refine Within.then ?_ (frame_modClock _ _) rfl rfl
    exact Within.refl _ _ _

theorem frame_functionReset (a0 : Bool) (s : State) :
    Within [.word 0x4c 0x14, .word 0x4c 0x50, .word 0x4c 0x4c, .word 0x4c 0x48, .word 0x4c 0x44, .word 0x40 0x74, .word 0x40 0x78] [.notices, .copy] s (functionReset a0 s) := by
  unfold Machine.functionReset
  extract_lets x0
  refine Within.via x0 ?_ (fun h1 => ?_)
  · unfold x0
    refine Within.set_msix ?_
    exact Within.refl _ _ _
  · clear_value x0
    refine Within.ite ?_ ?_
    · refine Within.then ?_ (frame_copyEnd _ _ _) rfl rfl
      exact h1
    · exact h1

theorem frame_configReady (s : State) :
    Within [] [] s (configReady s) := by
  unfold Machine.configReady
  refine Within.set_msix ?_
  exact Within.refl _ _ _

theorem frame_pcieLink (a0 : Bool) (a1 : Nat) (a2 : Nat) (a3 : Bool) (s : State) :
    Within [.word 0x40 0x40, .word 0x4c 0x14, .word 0x4c 0x50, .word 0x4c 0x4c, .word 0x4c 0x48, .word 0x4c 0x44, .word 0x40 0x74, .word 0x40 0x78, .word 0x40 0x14] [.notices, .copy] s (pcieLink a0 a1 a2 a3 s) := by
  unfold Machine.pcieLink
  extract_lets x0 x1 x2 x3 x4
  refine Within.via x1 ?_ (fun h5 => ?_)
  · unfold x1
    refine Within.wrBool ?_ (inScopes_of rfl)
    refine Within.wr ?_ (inScopes_of rfl)
    refine Within.wr ?_ (inScopes_of rfl)
    exact Within.refl _ _ _
  · clear_value x1
    refine Within.via x3 ?_ (fun h6 => ?_)
    · unfold x3
      refine Within.set_msix ?_
      exact h5
    · clear_value x3
      refine Within.via x4 ?_ (fun h7 => ?_)
      · unfold x4
        refine Within.ite ?_ ?_
        · refine Within.then ?_ (frame_releasePending _) rfl rfl
          exact h6
        · refine Within.ite ?_ ?_
          · refine Within.then ?_ (frame_copyEnd _ _ _) rfl rfl
            exact h6
          · exact h6
      · clear_value x4
        refine Within.ite ?_ ?_
        · exact h7
        · refine Within.then ?_ (frame_pushNotice _ _ _) rfl rfl
          refine Within.latch ?_ (inScopes_of rfl)
          exact h7

theorem frame_bar2 (a0 : Bar2) (a1 : Ecc) (s : State) :
    Within [.word 0x40 0x14, .word 0x40 0x50, .word 0x40 0x4c, .word 0x44 0x54, .word 0x46 0x14, .word 0x46 0x50, .word 0x46 0x58, .word 0x46 0x5c, .word 0x46 0x70, .word 0x46 0x54, .page 0x41, .word 0x4c 0x14, .word 0x4c 0x50, .word 0x4c 0x4c, .word 0x4c 0x48, .word 0x4c 0x44, .word 0x42 0x14, .word 0x42 0x48, .word 0x42 0x4c, .word 0x42 0x40, .word 0x42 0x44] [.hostData, .mem, .notices, .ddr, .rings] s (bar2 a0 a1 s) := by
  unfold Machine.bar2
  refine Within.ite ?_ ?_
  · extract_lets x0
    refine Within.via x0 ?_ (fun h1 => ?_)
    · unfold x0
      refine Within.ite ?_ ?_
      · exact Within.refl _ _ _
      · refine Within.upd (by (try dsimp only) <;> exact rfl) (fun p hp => by cases p <;> first | rfl | exact ⟨rfl, rfl⟩ | exact ⟨rfl, rfl, rfl⟩ | exact absurd (by decide) hp) ?_
        exact Within.refl _ _ _
    · clear_value x0
      refine Within.then ?_ (frame_unmapped _ _ _ _) rfl rfl
      exact h1
  · extract_lets x2 x3
    refine Within.ite ?_ ?_
    · refine Within.inc ?_ (inScopes_of rfl)
      refine Within.set_mem ?_ (by decide)
      exact Within.refl _ _ _
    · refine Within.then ?_ (frame_bar2Run _ _ _) rfl rfl
      exact Within.refl _ _ _

theorem frame_copyMoved (a0 : List Byte) (a1 : Nat) (s : State) :
    Within [] [.ddr] s ((copyMoved a0 a1 s).2) := by
  unfold Machine.copyMoved
  split
  · dsimp only
    exact Within.refl _ _ _
  · split
    · dsimp only
      exact Within.refl _ _ _
    · dsimp only
      refine Within.then ?_ (frame_winWrite _ _ _) rfl rfl
      exact Within.refl _ _ _

theorem frame_copyTimeout (a0 : List Byte) (a1 : Nat) (s : State) :
    Within [.word 0x4c 0x14, .word 0x4c 0x50, .word 0x4c 0x4c, .word 0x4c 0x48, .word 0x4c 0x44, .word 0x40 0x74, .word 0x40 0x78, .word 0x40 0x14, .word 0x40 0x54] [.ddr, .notices, .copy] s (copyTimeout a0 a1 s) := by
  unfold Machine.copyTimeout
  refine Within.ite ?_ ?_
  · exact Within.refl _ _ _
  · generalize e0 : Machine.copyMoved _ _ _ = p1
    obtain ⟨_, _⟩ := p1
    dsimp only
    refine Within.viaEq ?_ e0 (fun h2 => ?_)
    · refine Within.then ?_ (frame_copyMoved _ _ _) rfl rfl
      exact Within.refl _ _ _
    · refine Within.then ?_ (frame_copyEnd _ _ _) rfl rfl
      refine Within.latch ?_ (inScopes_of rfl)
      refine Within.inc ?_ (inScopes_of rfl)
      exact h2

theorem frame_copyDone (a0 : CopyHow) (a1 : List Byte) (a2 : Nat) (s : State) :
    Within [.word 0x4c 0x14, .word 0x4c 0x50, .word 0x4c 0x4c, .word 0x4c 0x48, .word 0x4c 0x44, .word 0x40 0x74, .word 0x40 0x78, .word 0x46 0x70, .word 0x46 0x14, .word 0x46 0x54, .word 0x46 0x58, .word 0x46 0x5c] [.ddr, .notices, .copy, .draws, .mem] s (copyDone a0 a1 a2 s) := by
  unfold Machine.copyDone
  split
  · exact Within.refl _ _ _
  · extract_lets x0
    split
    · generalize e1 : Machine.copyMoved _ _ _ = p2
      obtain ⟨_, _⟩ := p2
      dsimp only
      refine Within.viaEq ?_ e1 (fun h3 => ?_)
      · refine Within.then ?_ (frame_copyMoved _ _ _) rfl rfl
        exact Within.refl _ _ _
      · refine Within.then ?_ (frame_copyEnd _ _ _) rfl rfl
        exact h3
    · generalize e4 : Machine.copyMoved _ _ _ = p5
      obtain ⟨_, _⟩ := p5
      dsimp only
      refine Within.viaEq ?_ e4 (fun h6 => ?_)
      · refine Within.then ?_ (frame_copyMoved _ _ _) rfl rfl
        exact Within.refl _ _ _
      · refine Within.then ?_ (frame_copyEnd _ _ _) rfl rfl
        exact h6
    · generalize e7 : Machine.copyMoved _ _ _ = p8
      obtain ⟨_, _⟩ := p8
      dsimp only
      refine Within.viaEq ?_ e7 (fun h9 => ?_)
      · refine Within.then ?_ (frame_copyMoved _ _ _) rfl rfl
        exact Within.refl _ _ _
      · refine Within.then ?_ (frame_copyEnd _ _ _) rfl rfl
        refine Within.then ?_ (frame_ddrLost _ _) rfl rfl
        exact h9

theorem frame_ringHandOver (a0 : Bool) (s : State) :
    Within [.page 0x1b, .word 0x20 0xdc, .word 0x20 0xd8, .word 0x20 0xd4, .word 0x20 0xd0, .page 0x41, .word 0x4c 0x14, .word 0x4c 0x50, .word 0x4c 0x4c, .word 0x4c 0x48, .word 0x4c 0x44, .word 0x42 0x14, .word 0x42 0x48, .word 0x42 0x4c] [.delivered, .nodes, .ddr, .ledger, .notices, .rings] s (ringHandOver a0 s) := by
  unfold Machine.ringHandOver
  split
  · exact Within.refl _ _ _
  · extract_lets x0 x1 x2
    refine Within.via x0 ?_ (fun h3 => ?_)
    · unfold x0
      refine Within.set_delivered ?_ (by decide)
      exact Within.refl _ _ _
    · clear_value x0
      refine Within.via x2 ?_ (fun h4 => ?_)
      · unfold x2
        refine Within.then ?_ (frame_modRing _ _ _) rfl rfl
        exact h3
      · clear_value x2
        refine Within.ite ?_ ?_
        · refine Within.then ?_ (frame_endItem _ _ _) rfl rfl
          exact h3
        · refine Within.then ?_ (frame_claimAll _ _) rfl rfl
          refine Within.ite ?_ ?_
          · refine Within.then ?_ (frame_poisonSlots _ _ _ _) rfl rfl
            exact h4
          · exact h4

theorem frame_fillSlot (a0 : Nat) (a1 : Fill) (a2 : List Byte) (a3 : Nat) (s : State) :
    Within [] [.ddr] s (fillSlot a0 a1 a2 a3 s) := by
  unfold Machine.fillSlot
  extract_lets x0 x1 x2 x3
  refine Within.via x2 ?_ (fun h4 => ?_)
  · unfold x2
    refine Within.then ?_ (frame_winWrite _ _ _) rfl rfl
    exact Within.refl _ _ _
  · clear_value x2
    refine Within.via x3 ?_ (fun h5 => ?_)
    · unfold x3
      refine Within.then ?_ (frame_winWrite _ _ _) rfl rfl
      exact h4
    · clear_value x3
      refine Within.then ?_ (frame_winWrite _ _ _) rfl rfl
      exact h5

theorem frame_ringFillDone (a0 : Nat) (a1 : List Byte) (s : State) :
    Within [.page 0x41, .word 0x4c 0x14, .word 0x4c 0x50, .word 0x4c 0x4c, .word 0x4c 0x48, .word 0x4c 0x44, .page 0x1b, .word 0x20 0xdc, .word 0x20 0xd8, .word 0x20 0xd4, .word 0x20 0xd0] [.notices, .nodes, .ddr, .ledger, .rings] s (ringFillDone a0 a1 s) := by
  unfold Machine.ringFillDone
  split
  · exact Within.refl _ _ _
  · extract_lets x0 x1 x2 x3 x4
    refine Within.via x1 ?_ (fun h5 => ?_)
    · unfold x1
      refine Within.foldl ?_ (fun _ _ _ h6 => ?_)
      · exact Within.refl _ _ _
      · refine Within.then ?_ (frame_fillSlot _ _ _ _ _) rfl rfl
        exact h6
    · clear_value x1
      refine Within.via x2 ?_ (fun h7 => ?_)
      · unfold x2
        refine Within.foldl ?_ (fun _ _ _ h8 => ?_)
        · exact h5
        · refine Within.then ?_ (frame_setTally _ _ _ _ _) rfl rfl
          exact h8
      · clear_value x2
        refine Within.via x3 ?_ (fun h9 => ?_)
        · unfold x3
          refine Within.then ?_ (frame_modRing _ _ _) rfl rfl
          exact h7
        · clear_value x3
          refine Within.via x4 ?_ (fun h10 => ?_)
          · unfold x4
            refine Within.then ?_ (frame_endItem _ _ _) rfl rfl
            refine Within.inc ?_ (inScopes_of rfl)
            exact h9
          · clear_value x4
            refine Within.then ?_ (frame_refreshLevel _ _) rfl rfl
            refine Within.then ?_ (frame_slotNotice _ _ _ _) rfl rfl
            exact h10

theorem frame_ringTimeout (a0 : Nat) (s : State) :
    Within [.page 0x41, .word 0x4c 0x14, .word 0x4c 0x50, .word 0x4c 0x4c, .word 0x4c 0x48, .word 0x4c 0x44, .word 0x42 0x14, .word 0x42 0x48, .word 0x42 0x4c, .page 0x1b, .word 0x20 0xdc, .word 0x20 0xd8, .word 0x20 0xd4, .word 0x20 0xd0] [.notices, .ddr, .rings, .nodes, .ledger] s (ringTimeout a0 s) := by
  unfold Machine.ringTimeout
  split
  · exact Within.refl _ _ _
  · extract_lets x0 x1
    refine Within.via x0 ?_ (fun h2 => ?_)
    · unfold x0
      refine Within.then ?_ (frame_modRing _ _ _) rfl rfl
      exact Within.refl _ _ _
    · clear_value x0
      refine Within.via x1 ?_ (fun h3 => ?_)
      · unfold x1
        refine Within.then ?_ (frame_endItem _ _ _) rfl rfl
        refine Within.inc ?_ (inScopes_of rfl)
        exact h2
      · clear_value x1
        refine Within.then ?_ (frame_claimAll _ _) rfl rfl
        refine Within.then ?_ (frame_pushNotice _ _ _) rfl rfl
        refine Within.latch ?_ (inScopes_of rfl)
        exact h3

theorem frame_hostTallyWrite (a0 : Nat) (a1 : Nat) (a2 : List (Option Byte)) (s : State) :
    Within [.page 0x41, .word 0x4c 0x14, .word 0x4c 0x50, .word 0x4c 0x4c, .word 0x4c 0x48, .word 0x4c 0x44, .word 0x42 0x14, .word 0x42 0x48, .word 0x42 0x4c, .word 0x42 0x40, .word 0x42 0x44] [.notices, .ddr, .rings] s (hostTallyWrite a0 a1 a2 s) := by
  unfold Machine.hostTallyWrite
  refine Within.ite ?_ ?_
  · exact Within.refl _ _ _
  · refine Within.then ?_ (frame_hostWrite _ _ _) rfl rfl
    exact Within.refl _ _ _

theorem frame_badSlot (a0 : Nat) (a1 : Nat) (a2 : Nat) (s : State) :
    Within [.word 0x4c 0x14, .word 0x4c 0x50, .word 0x4c 0x4c, .word 0x4c 0x48, .word 0x4c 0x44, .page 0x41] [.notices, .rings, .ddr] s (badSlot a0 a1 a2 s) := by
  unfold Machine.badSlot
  refine Within.then ?_ (frame_returnSlot _ _ _ _ _) rfl rfl
  refine Within.inc ?_ (inScopes_of rfl)
  exact Within.refl _ _ _

theorem frame_enterAir (a0 : Frame) (s : State) :
    Within [.page 0x24, .page 0x25, .page 0x26, .page 0x27, .word 0x21 0x50, .word 0x21 0x4c, .page 0x1b, .word 0x20 0xdc, .word 0x20 0xd8, .word 0x20 0xd4, .word 0x20 0xd0, .word 0x19 0xb4, .word 0xc 0x14, .word 0xc 0x4c] [.frameNumbers, .frames, .nodes, .ddr, .ledger, .scheds, .fes, .duty] s (enterAir a0 s) := by
  unfold Machine.enterAir
  generalize e0 : Machine.newFrame _ = p1
  obtain ⟨_, _⟩ := p1
  dsimp only
  refine Within.viaEq ?_ e0 (fun h2 => ?_)
  · refine Within.then ?_ (frame_newFrame _) rfl rfl
    exact Within.refl _ _ _
  · refine Within.ite ?_ ?_
    · refine Within.then ?_ (frame_endFrame _ _ _) rfl rfl
      refine Within.then ?_ (frame_setFrame _ _ _) rfl rfl
      exact h2
    · refine Within.ite ?_ ?_
      · refine Within.then ?_ (frame_endFrame _ _ _) rfl rfl
        refine Within.then ?_ (frame_setFrame _ _ _) rfl rfl
        exact h2
      · refine Within.then ?_ (frame_enqueue _ _) rfl rfl
        refine Within.then ?_ (frame_setFrame _ _ _) rfl rfl
        exact h2

theorem frame_ddrAlert (a0 : Nat) (a1 : Bool) (s : State) :
    Within [.word 0x46 0x70, .word 0x46 0x14, .word 0x46 0x54, .word 0x46 0x58, .word 0x46 0x5c, .word 0x44 0x5c] [.draws, .mem] s (ddrAlert a0 a1 s) := by
  unfold Machine.ddrAlert
  refine Within.then ?_ (frame_ddrLostIf _ _ _) rfl rfl
  refine Within.inc ?_ (inScopes_of rfl)
  exact Within.refl _ _ _

theorem frame_loseItems (a0 : Nat) (a1 : List Item) (s : State) :
    Within [.page 0x1b, .word 0x20 0xdc, .word 0x20 0xd8, .word 0x20 0xd4, .word 0x20 0xd0] [.nodes, .ddr, .ledger] s ((loseItems a0 a1 s).2) := by
  unfold Machine.loseItems
  dsimp only
  refine Within.foldl ?_ (fun _ _ _ h0 => ?_)
  · exact Within.refl _ _ _
  · refine Within.then ?_ (frame_endItem _ _ _) rfl rfl
    exact h0

theorem frame_loseEgress (a0 : Nat) (a1 : List Egress) (s : State) :
    Within [.word 0x4c 0x14, .word 0x4c 0x50, .word 0x4c 0x4c, .word 0x4c 0x48, .word 0x4c 0x44, .page 0x41, .page 0x1b, .word 0x20 0xdc, .word 0x20 0xd8, .word 0x20 0xd4, .word 0x20 0xd0] [.notices, .rings, .ddr, .nodes, .ledger] s ((loseEgress a0 a1 s).2) := by
  unfold Machine.loseEgress
  dsimp only
  refine Within.foldl ?_ (fun _ _ _ h0 => ?_)
  · exact Within.refl _ _ _
  · refine Within.then ?_ (frame_endEgress _ _ _) rfl rfl
    exact h0

theorem frame_loseFrame (a0 : Nat) (s : State) :
    Within [.page 0x1b, .word 0x20 0xdc, .word 0x20 0xd8, .word 0x20 0xd4, .word 0x20 0xd0, .page 0x24, .page 0x25, .page 0x26, .page 0x27, .word 0x21 0x50, .word 0x21 0x4c, .word 0x19 0xb4, .word 0x22 0x58, .word 0x22 0x54, .word 0x22 0x50, .word 0x4c 0x14, .word 0x4c 0x50, .word 0x4c 0x4c, .word 0x4c 0x48, .word 0x4c 0x44, .page 0x41] [.nodes, .ddr, .ledger, .scheds, .fes, .duty, .frames, .notices, .rings, .ports, .delivered, .reasm] s (loseFrame a0 s) := by
  unfold Machine.loseFrame
  extract_lets x0
  refine Within.via x0 ?_ (fun h1 => ?_)
  · unfold x0
    refine Within.then ?_ (frame_endFrame _ _ _) rfl rfl
    exact Within.refl _ _ _
  · clear_value x0
    generalize e2 : Machine.loseItems _ _ _ = p3
    obtain ⟨_, _⟩ := p3
    dsimp only
    refine Within.viaEq ?_ e2 (fun h4 => ?_)
    · refine Within.then ?_ (frame_loseItems _ _ _) rfl rfl
      exact h1
    · refine Within.then ?_ (frame_countReasm _) rfl rfl
      refine Within.foldl ?_ (fun _ _ _ h5 => ?_)
      · refine Within.set_reasm ?_ (by decide)
        refine Within.foldl ?_ (fun _ _ _ h6 => ?_)
        · refine Within.set_rereads ?_
          refine Within.foldl ?_ (fun _ _ _ h7 => ?_)
          · refine Within.foldl ?_ (fun _ _ _ h8 => ?_)
            · refine Within.set_delivered ?_ (by decide)
              exact h4
            · refine Within.then ?_ (frame_modRing _ _ _) rfl rfl
              refine Within.then ?_ (frame_loseItems _ _ _) rfl rfl
              exact h8
          · refine Within.then ?_ (frame_modPort _ _ _) rfl rfl
            refine Within.foldl ?_ (fun _ _ _ h9 => ?_)
            · refine Within.then ?_ (frame_loseEgress _ _ _) rfl rfl
              refine Within.then ?_ (frame_loseEgress _ _ _) rfl rfl
              exact h7
            · refine Within.then ?_ (frame_close _ _ _) rfl rfl
              exact h9
        · split
          · refine Within.then ?_ (frame_endPacket _ _ _) rfl rfl
            exact h6
          · exact h6
      · refine Within.then ?_ (frame_endItem _ _ _) rfl rfl
        exact h5

theorem frame_loadProfile (s : State) :
    Within [.page 0x24, .page 0x25, .page 0x26, .page 0x27, .page 0xc] [] s (loadProfile s) := by
  unfold Machine.loadProfile
  extract_lets x0 x1 x2 x3 x4 x5 x6 x7 x8 x9 x10
  refine Within.via x1 ?_ (fun h11 => ?_)
  · unfold x1
    refine Within.wr ?_ (inScopes_of rfl)
    exact Within.refl _ _ _
  · clear_value x1
    refine Within.via x2 ?_ (fun h12 => ?_)
    · unfold x2
      refine Within.wrBool ?_ (inScopes_of rfl)
      exact h11
    · clear_value x2
      refine Within.via x5 ?_ (fun h13 => ?_)
      · unfold x5
        refine Within.foldl ?_ (fun _ _ _ h14 => ?_)
        · exact h12
        · refine Within.wr ?_ (inScopes_of rfl)
          exact h14
      · clear_value x5
        refine Within.via x6 ?_ (fun h15 => ?_)
        · unfold x6
          refine Within.wrBool ?_ (inScopes_of rfl)
          exact h13
        · clear_value x6
          refine Within.via x7 ?_ (fun h16 => ?_)
          · unfold x7
            refine Within.wr ?_ (inScopes_of rfl)
            exact h15
          · clear_value x7
            refine Within.via x8 ?_ (fun h17 => ?_)
            · unfold x8
              refine Within.wr ?_ (inScopes_of rfl)
              exact h16
            · clear_value x8
              refine Within.via x9 ?_ (fun h18 => ?_)
              · unfold x9
                refine Within.wr ?_ (inScopes_of rfl)
                exact h17
              · clear_value x9
                refine Within.via x10 ?_ (fun h19 => ?_)
                · unfold x10
                  refine Within.ite ?_ ?_
                  · refine Within.latch ?_ (inScopes_of rfl)
                    exact h18
                  · exact h18
                · clear_value x10
                  refine Within.foldl ?_ (fun _ _ _ h20 => ?_)
                  · exact h19
                  · refine Within.then ?_ (frame_showDuty _ _) rfl rfl
                    exact h20

theorem frame_workOperation (a0 : Nat) (s : State) :
    Within [.word 0x20 0x58, .word 0x4c 0x14, .word 0x4c 0x50, .word 0x4c 0x4c, .word 0x4c 0x48, .word 0x4c 0x44, .word 0x30 0x14, .page 0x80, .word 0x30 0xb8, .page 0x31, .word 0x32 0x14, .word 0x32 0xa8, .page 0x33, .word 0x40 0x74, .word 0x40 0x78] [.notices, .keyOp, .jobs, .copy] s (workOperation a0 s) := by
  unfold Machine.workOperation
  split
  · refine Within.then ?_ (frame_nodeForceStop _) rfl rfl
    exact Within.refl _ _ _
  · split
    · refine Within.then ?_ (frame_loadEnd _ _ _) rfl rfl
      refine Within.set_keyOp ?_ (by decide)
      exact Within.refl _ _ _
    · exact Within.refl _ _ _
  · refine Within.ite ?_ ?_
    · refine Within.then ?_ (frame_ccmEnd _ _) rfl rfl
      exact Within.refl _ _ _
    · exact Within.refl _ _ _
  · refine Within.ite ?_ ?_
    · refine Within.then ?_ (frame_sciEnd _ _) rfl rfl
      exact Within.refl _ _ _
    · exact Within.refl _ _ _
  · refine Within.ite ?_ ?_
    · refine Within.then ?_ (frame_pkeEnd _ _ _) rfl rfl
      exact Within.refl _ _ _
    · exact Within.refl _ _ _
  · refine Within.ite ?_ ?_
    · refine Within.then ?_ (frame_copyEnd _ _ _) rfl rfl
      exact Within.refl _ _ _
    · exact Within.refl _ _ _
  · exact Within.refl _ _ _

theorem frame_stopCore (a0 : Nat) (s : State) :
    Within [.page 0x5, .word 0x48 0x78] [.fw] s (stopCore a0 s) := by
  unfold Machine.stopCore
  extract_lets x0 x1 x2
  refine Within.via x2 ?_ (fun h3 => ?_)
  · unfold x2
    refine Within.set_fw ?_ (by decide)
    exact Within.refl _ _ _
  · clear_value x2
    refine Within.ite ?_ ?_
    · refine Within.then ?_ (frame_blowRetired _ _ _) rfl rfl
      refine Within.wr ?_ (inScopes_of rfl)
      exact h3
    · refine Within.wr ?_ (inScopes_of rfl)
      exact h3

theorem frame_abortSince (s : State) :
    Within [.word 0x4c 0x14, .word 0x4c 0x50, .word 0x4c 0x4c, .word 0x4c 0x48, .word 0x4c 0x44, .word 0x30 0x14, .page 0x80, .word 0x30 0xb8, .word 0x48 0x4c] [.notices, .keyOp, .fw] s (abortSince s) := by
  unfold Machine.abortSince
  extract_lets x0
  refine Within.via x0 ?_ (fun h1 => ?_)
  · unfold x0
    split
    · refine Within.ite ?_ ?_
      · refine Within.then ?_ (frame_loadEnd _ _ _) rfl rfl
        exact Within.refl _ _ _
      · exact Within.refl _ _ _
    · exact Within.refl _ _ _
  · clear_value x0
    split
    · refine Within.ite ?_ ?_
      · refine Within.then ?_ (frame_fwEnd _ _) rfl rfl
        exact h1
      · exact h1
    · exact h1

theorem frame_adopt (a0 : Nat) (s : State) :
    Within [.word 0x48 0x80, .word 0x48 0x7c, .word 0x48 0x78] [] s (adopt a0 s) := by
  unfold Machine.adopt
  refine Within.inc ?_ (inScopes_of rfl)
  refine Within.wr ?_ (inScopes_of rfl)
  refine Within.wr ?_ (inScopes_of rfl)
  exact Within.refl _ _ _

theorem frame_afterLive (a0 : List Byte) (s : State) :
    Within [.page 0x10, .page 0x11, .word 0x48 0x84, .word 0x48 0x78, .word 0x48 0x88, .page 0x24, .page 0x25, .page 0x26, .page 0x27, .word 0xb 0x5c, .word 0xb 0x4c, .word 0x8 0x14, .word 0x9 0x14, .word 0xa 0x14, .word 0xb 0x14, .word 0x8 0x30, .word 0x9 0x30, .word 0xa 0x30, .word 0xb 0x30, .word 0xb 0x50, .word 0x8 0x78, .word 0x9 0x78, .word 0xa 0x78, .word 0xb 0x78, .word 0x8 0x5c, .word 0x9 0x5c, .word 0xa 0x5c, .word 0x8 0x4c, .word 0x9 0x4c, .word 0xa 0x4c, .word 0x0 0x5c, .word 0x48 0x68] [.fes, .lanes, .fw, .frames, .scheds, .duty, .relief] s (afterLive a0 s) := by
  unfold Machine.afterLive
  extract_lets x0 x1 x2 x3 x4
  refine Within.via x0 ?_ (fun h5 => ?_)
  · unfold x0
    refine Within.wr ?_ (inScopes_of rfl)
    refine Within.wr ?_ (inScopes_of rfl)
    refine Within.ite ?_ ?_
    · exact Within.refl _ _ _
    · refine Within.wr ?_ (inScopes_of rfl)
      exact Within.refl _ _ _
  · clear_value x0
    refine Within.via x2 ?_ (fun h6 => ?_)
    · unfold x2
      refine Within.set_fw ?_ (by decide)
      exact h5
    · clear_value x2
      refine Within.via x3 ?_ (fun h7 => ?_)
      · unfold x3
        refine Within.wrFollow ?_ (by decide)
        refine Within.wr ?_ (inScopes_of rfl)
        exact h6
      · clear_value x3
        refine Within.via x4 ?_ (fun h8 => ?_)
        · unfold x4
          refine Within.foldl ?_ (fun _ _ _ h9 => ?_)
          · exact h7
          · refine Within.ite ?_ ?_
            · refine Within.after ?_ (frame_autoCal _ _ _) (amongCons rfl (amongCons rfl (amongCons rfl (amongCons rfl (amongCons rfl (amongCons rfl (amongCons rfl (amongCons rfl (amongCons rfl (amongCons rfl (amongCons rfl (amongCons rfl (amongCons rfl (amongCons rfl (amongCons rfl (amongCons rfl (amongCons rfl (amongCons rfl (amongCons rfl (amongCons rfl (amongCons (amongW4 rfl) (amongCons (amongW4 rfl) (amongCons (amongW4 rfl) amongNil))))))))))))))))))))))) rfl
              exact h9
            · exact h9
        · clear_value x4
          refine Within.then ?_ (frame_rollStep _) rfl rfl
          refine Within.wr ?_ (inScopes_of rfl)
          refine Within.wr ?_ (inScopes_of rfl)
          refine Within.then ?_ (frame_bankStep _) rfl rfl
          exact h8

theorem frame_fieldRepair (a0 : Nat) (a1 : Nat) (a2 : Nat) (s : State) :
    Within [.word 0x5 0x14] [.mem] s (fieldRepair a0 a1 a2 s) := by
  unfold Machine.fieldRepair
  extract_lets x0 x1 x2 x3 x4 x5 x6
  refine Within.via x3 ?_ (fun h7 => ?_)
  · unfold x3
    refine Within.set_mem ?_ (by decide)
    exact Within.refl _ _ _
  · clear_value x3
    refine Within.ite ?_ ?_
    · exact h7
    · refine Within.ite ?_ ?_
      · refine Within.then ?_ (frame_reserveLow _ _) rfl rfl
        exact h7
      · refine Within.then ?_ (frame_engaged _ _ _ _) rfl rfl
        refine Within.set_mem ?_ (by decide)
        exact h7

theorem frame_scrubOn (s : State) :
    Within [.word 0x46 0x44, .word 0x46 0x48] [] s (scrubOn s) := by
  unfold Machine.scrubOn
  extract_lets x0
  refine Within.ite ?_ ?_
  · refine Within.wr ?_ (inScopes_of rfl)
    refine Within.incSat ?_ (inScopes_of rfl)
    exact Within.refl _ _ _
  · refine Within.wr ?_ (inScopes_of rfl)
    exact Within.refl _ _ _

theorem frame_ddrScrub (a0 : Ecc) (s : State) :
    Within [.word 0x46 0x44, .word 0x46 0x48, .word 0x46 0x58, .word 0x46 0x5c, .word 0x46 0x14, .word 0x46 0x50, .word 0x46 0x70, .word 0x46 0x54] [.mem] s (ddrScrub a0 s) := by
  unfold Machine.ddrScrub
  refine Within.ite ?_ ?_
  · exact Within.refl _ _ _
  · refine Within.ite ?_ ?_
    · refine Within.then ?_ (frame_scrubOn _) rfl rfl
      exact Within.refl _ _ _
    · refine Within.then ?_ (frame_scrubOn _) rfl rfl
      refine Within.ite ?_ ?_
      · refine Within.then ?_ (frame_ddrLast _ _ _ _) rfl rfl
        exact Within.refl _ _ _
      · refine Within.then ?_ (frame_decodeLine _ _ _) rfl rfl
        exact Within.refl _ _ _

theorem frame_fillChunkDone (s : State) :
    Within [.word 0x46 0x14, .word 0x46 0x50, .word 0x46 0x58, .word 0x46 0x5c, .word 0x46 0x70, .word 0x46 0x54, .word 0x40 0x14, .word 0x40 0x50, .word 0x40 0x4c, .page 0x41, .word 0x4c 0x14, .word 0x4c 0x50, .word 0x4c 0x4c, .word 0x4c 0x48, .word 0x4c 0x44, .word 0x42 0x14, .word 0x42 0x48, .word 0x42 0x4c, .word 0x42 0x40, .word 0x42 0x44, .word 0x44 0x58, .word 0x44 0x50, .word 0x44 0x14] [.mem, .hostData, .notices, .ddr, .rings] s (fillChunkDone s) := by
  unfold Machine.fillChunkDone
  split
  · exact Within.refl _ _ _
  · refine Within.ite ?_ ?_
    · exact Within.refl _ _ _
    · extract_lets x0 x1 x2 x3
      refine Within.via x1 ?_ (fun h4 => ?_)
      · unfold x1
        refine Within.set_mem ?_ (by decide)
        exact Within.refl _ _ _
      · clear_value x1
        refine Within.via x2 ?_ (fun h5 => ?_)
        · unfold x2
          refine Within.then ?_ (frame_runStalls _ _) rfl rfl
          refine Within.wr ?_ (inScopes_of rfl)
          exact h4
        · clear_value x2
          split
          · refine Within.set_mem ?_ (by decide)
            exact h5
          · refine Within.latch ?_ (inScopes_of rfl)
            refine Within.wr ?_ (inScopes_of rfl)
            exact h5

theorem frame_campOff (a0 : Nat) (s : State) :
    Within [.page 0x10, .word 0x8 0x14, .word 0x9 0x14, .word 0xa 0x14, .word 0xb 0x14, .word 0x8 0x30, .word 0x9 0x30, .word 0xa 0x30, .word 0xb 0x30, .word 0x8 0x5c, .word 0x9 0x5c, .word 0xa 0x5c, .word 0xb 0x5c, .word 0x8 0x4c, .word 0x9 0x4c, .word 0xa 0x4c, .word 0xb 0x4c, .word 0x8 0x78, .word 0x9 0x78, .word 0xa 0x78, .word 0xb 0x78, .word 0xb 0x50, .page 0x11, .page 0x31, .page 0x1b, .word 0x20 0xdc, .word 0x20 0xd8, .word 0x20 0xd4, .word 0x20 0xd0, .word 0x19 0xa4, .word 0x19 0xa8, .word 0x19 0xac, .word 0x19 0xb0, .word 0x19 0xb4, .word 0x19 0xb8, .page 0x24, .page 0x25, .page 0x26, .page 0x27, .word 0x21 0x50, .word 0x21 0x4c, .word 0x4c 0x14, .word 0x4c 0x50, .word 0x4c 0x4c, .word 0x4c 0x48, .word 0x4c 0x44, .page 0x41, .word 0x38 0x74, .word 0x39 0x74, .word 0x38 0x70, .word 0x39 0x70, .word 0x38 0x14, .word 0x39 0x14, .word 0x38 0x78, .word 0x39 0x78, .page 0x3a, .page 0x3b, .word 0x38 0xac, .word 0x39 0xac, .word 0x30 0x14, .page 0x80, .word 0x30 0xb8, .page 0x3d, .word 0x20 0x58, .word 0x22 0x58, .word 0x22 0x54, .word 0x22 0x50, .word 0xc 0x14, .word 0xc 0x4c, .page 0x29, .word 0x32 0x14, .word 0x32 0xa8, .page 0x33, .word 0x40 0x74, .word 0x40 0x78, .word 0x48 0x4c, .word 0x45 0x14, .word 0x45 0x48, .word 0x45 0x4c, .word 0x4a 0x58, .word 0x4a 0x14, .word 0x4a 0x50, .word a0 0x8, .word a0 0x14, .word a0 0xc] [.lanes, .fes, .relief, .nodes, .ddr, .ledger, .scheds, .duty, .frames, .ports, .notices, .rings, .tracks, .peers, .meters, .keyOp, .reasm, .frameNumbers, .campaigns, .jobs, .clock, .copy, .fw, .rope] s (campOff a0 s) := by
  unfold Machine.campOff
  refine Within.ite ?_ ?_
  · exact Within.refl _ _ _
  · refine Within.wr ?_ (inScopes_at 82 rfl)
    refine Within.ite ?_ ?_
    · exact Within.refl _ _ _
    · refine Within.after ?_ (frame_blockReset _ _) (amongCons rfl (amongCons rfl (amongCons rfl (amongCons rfl (amongCons rfl (amongCons rfl (amongCons rfl (amongCons rfl (amongCons rfl (amongCons rfl (amongCons rfl (amongCons rfl (amongCons rfl (amongCons rfl (amongCons rfl (amongCons rfl (amongCons rfl (amongCons rfl (amongCons rfl (amongCons rfl (amongCons rfl (amongCons rfl (amongCons rfl (amongCons rfl (amongCons rfl (amongCons rfl (amongCons rfl (amongCons rfl (amongCons rfl (amongCons rfl (amongCons rfl (amongCons rfl (amongCons rfl (amongCons rfl (amongCons rfl (amongCons rfl (amongCons rfl (amongCons rfl (amongCons rfl (amongCons rfl (amongCons rfl (amongCons rfl (amongCons rfl (amongCons rfl (amongCons rfl (amongCons rfl (amongCons rfl (amongCons rfl (amongCons rfl (amongCons rfl (amongCons rfl (amongCons rfl (amongCons rfl (amongCons rfl (amongCons rfl (amongCons rfl (amongCons rfl (amongCons rfl (amongCons rfl (amongCons rfl (amongCons rfl (amongCons rfl (amongCons rfl (amongCons (amongAt 83 rfl) (amongCons (amongAt 84 rfl) amongNil))))))))))))))))))))))))))))))))))))))))))))))))))))))))))))))))) rfl
      refine Within.then ?_ (frame_abortWork _ _) rfl rfl
      exact Within.refl _ _ _

theorem frame_packageRepair (s : State) :
    Within [.word 0x46 0x70, .word 0x5 0x14] [.mem] s (packageRepair s) := by
  unfold Machine.packageRepair
  extract_lets x0 x1
  refine Within.via x0 ?_ (fun h2 => ?_)
  · unfold x0
    refine Within.foldl ?_ (fun _ _ _ h3 => ?_)
    · exact Within.refl _ _ _
    · refine Within.ite ?_ ?_
      · exact h3
      · refine Within.then ?_ (frame_engaged _ _ _ _) rfl rfl
        refine Within.set_mem ?_ (by decide)
        exact h3
  · clear_value x0
    refine Within.via x1 ?_ (fun h4 => ?_)
    · unfold x1
      refine Within.wr ?_ (inScopes_of rfl)
      refine Within.wr ?_ (inScopes_of rfl)
      exact h2
    · clear_value x1
      refine Within.ite ?_ ?_
      · exact h4
      · refine Within.then ?_ (frame_reserveLow _ _) rfl rfl
        exact h4

theorem frame_startFill (s : State) :
    Within [.word 0x44 0x44, .word 0x44 0x50, .word 0x46 0x70, .word 0x5 0x14] [.mem] s (startFill s) := by
  unfold Machine.startFill
  refine Within.ite ?_ ?_
  · refine Within.wr ?_ (inScopes_of rfl)
    refine Within.wr ?_ (inScopes_of rfl)
    exact Within.refl _ _ _
  · extract_lets x0 x1 x2 x3
    refine Within.via x0 ?_ (fun h4 => ?_)
    · unfold x0
      refine Within.then ?_ (frame_packageRepair _) rfl rfl
      exact Within.refl _ _ _
    · clear_value x0
      refine Within.via x2 ?_ (fun h5 => ?_)
      · unfold x2
        refine Within.wr ?_ (inScopes_of rfl)
        refine Within.wr ?_ (inScopes_of rfl)
        refine Within.set_mem ?_ (by decide)
        exact h4
      · clear_value x2
        refine Within.set_mem ?_ (by decide)
        exact h5

theorem frame_flashTimeout (a0 : Nat) (s : State) :
    Within [.word 0x45 0x14, .word 0x45 0x48, .word 0x45 0x4c] [] s (flashTimeout a0 s) := by
  unfold Machine.flashTimeout
  refine Within.then ?_ (frame_flashError _ _ _) rfl rfl
  exact Within.refl _ _ _

theorem frame_installStore (a0 : List Byte) (s : State) :
    Within [.word 0x33 0x60, .word 0x33 0x64, .word 0x48 0x4c, .word 0x48 0x14, .word 0x48 0x64, .word 0x48 0x5c, .word 0x48 0x60, .word 0x48 0x54, .word 0x48 0x58, .word 0x48 0x50] [.fw] s (installStore a0 s) := by
  unfold Machine.installStore
  extract_lets x0 x1 x2 x3 x4 x5 x6
  refine Within.via x3 ?_ (fun h7 => ?_)
  · unfold x3
    refine Within.set_fw ?_ (by decide)
    exact Within.refl _ _ _
  · clear_value x3
    refine Within.via x4.2 ?_ (fun h8 => ?_)
    · unfold x4
      refine Within.then ?_ (frame_checkPackage _ _) rfl rfl
      exact h7
    · clear_value x4
      refine Within.via x5 ?_ (fun h9 => ?_)
      · unfold x5
        exact h8
      · clear_value x5
        refine Within.via x6 ?_ (fun h10 => ?_)
        · unfold x6
          refine Within.then ?_ (frame_writeAct _ _) rfl rfl
          exact h9
        · clear_value x6
          refine Within.ite ?_ ?_
          · refine Within.then ?_ (frame_fwEnd _ _) rfl rfl
            exact h8
          · refine Within.latch ?_ (inScopes_of rfl)
            refine Within.then ?_ (frame_fwEnd _ _) rfl rfl
            exact h10

theorem frame_movePart (s : State) :
    Within [.word 0x5 0x14, .word 0x48 0x64, .word 0x48 0x5c, .word 0x48 0x60, .word 0x48 0x54, .word 0x48 0x58, .word 0x48 0x50] [.fw] s (movePart s) := by
  unfold Machine.movePart
  extract_lets x0 x1
  refine Within.then ?_ (frame_engaged _ _ _ _) rfl rfl
  refine Within.then ?_ (frame_writeAct _ _) rfl rfl
  exact Within.refl _ _ _

theorem frame_installDone (a0 : Nat) (a1 : Bool) (s : State) :
    Within [.word 0x33 0x60, .word 0x33 0x64, .word 0x48 0x4c, .word 0x48 0x14, .word 0x48 0x64, .word 0x48 0x5c, .word 0x48 0x60, .word 0x48 0x54, .word 0x48 0x58, .word 0x48 0x50, .word 0x5 0x14, .word 0x45 0x14, .word 0x45 0x48, .word 0x45 0x4c] [.fw] s (installDone a0 a1 s) := by
  unfold Machine.installDone
  split
  · exact Within.refl _ _ _
  · refine Within.ite ?_ ?_
    · exact Within.refl _ _ _
    · extract_lets x0 x1 x2
      refine Within.via x2 ?_ (fun h3 => ?_)
      · unfold x2
        refine Within.then ?_ (frame_movePart _) rfl rfl
        (unfold x1; beta_reduce)
        extract_lets x4
        refine Within.then ?_ (frame_flashError _ _ _) rfl rfl
        exact Within.refl _ _ _
      · clear_value x2
        refine Within.ite ?_ ?_
        · refine Within.then ?_ (frame_installStore _ _) rfl rfl
          exact Within.refl _ _ _
        · refine Within.ite ?_ ?_
          · refine Within.then ?_ (frame_reserveLow _ _) rfl rfl
            refine Within.then ?_ (frame_fwEnd _ _) rfl rfl
            (unfold x1; beta_reduce)
            extract_lets x5
            refine Within.then ?_ (frame_flashError _ _ _) rfl rfl
            exact Within.refl _ _ _
          · refine Within.ite ?_ ?_
            · refine Within.then ?_ (frame_installStore _ _) rfl rfl
              exact h3
            · refine Within.then ?_ (frame_reserveLow _ _) rfl rfl
              refine Within.then ?_ (frame_fwEnd _ _) rfl rfl
              (unfold x1; beta_reduce)
              extract_lets x6
              refine Within.then ?_ (frame_flashError _ _ _) rfl rfl
              exact h3

theorem frame_liveHandover (a0 : Nat) (s : State) :
    Within [.word 0x48 0x4c, .page 0x10, .page 0x11, .word 0x48 0x84, .word 0x48 0x78, .word 0x48 0x88, .page 0x24, .page 0x25, .page 0x26, .page 0x27, .word 0xb 0x5c, .word 0xb 0x4c, .word 0x8 0x14, .word 0x9 0x14, .word 0xa 0x14, .word 0xb 0x14, .word 0x8 0x30, .word 0x9 0x30, .word 0xa 0x30, .word 0xb 0x30, .word 0xb 0x50, .word 0x8 0x78, .word 0x9 0x78, .word 0xa 0x78, .word 0xb 0x78, .word 0x8 0x5c, .word 0x9 0x5c, .word 0xa 0x5c, .word 0x8 0x4c, .word 0x9 0x4c, .word 0xa 0x4c, .word 0x0 0x5c, .word 0x48 0x68, .word 0x48 0x80, .word 0x48 0x7c] [.fw, .fes, .lanes, .frames, .scheds, .duty, .relief] s (liveHandover a0 s) := by
  unfold Machine.liveHandover
  split
  · refine Within.ite ?_ ?_
    · refine Within.then ?_ (frame_fwEnd _ _) rfl rfl
      refine Within.then ?_ (frame_afterLive _ _) rfl rfl
      refine Within.then ?_ (frame_adopt _ _) rfl rfl
      exact Within.refl _ _ _
    · exact Within.refl _ _ _
  · exact Within.refl _ _ _

theorem frame_handoverRecord (s : State) :
    Within [] [.fw] s (handoverRecord s) := by
  unfold Machine.handoverRecord
  refine Within.set_fw ?_ (by decide)
  exact Within.refl _ _ _

theorem frame_coreReload (a0 : Bool) (s : State) :
    Within [.word 0x48 0x78, .page 0x5] [] s (coreReload a0 s) := by
  unfold Machine.coreReload
  refine Within.ite ?_ ?_
  · refine Within.ite ?_ ?_
    · refine Within.wr ?_ (inScopes_of rfl)
      exact Within.refl _ _ _
    · refine Within.then ?_ (frame_blowRetired _ _ _) rfl rfl
      refine Within.wr ?_ (inScopes_of rfl)
      exact Within.refl _ _ _
  · exact Within.refl _ _ _

theorem frame_trialExpiry (s : State) :
    Within [.word 0x48 0x14] [.fw] s (trialExpiry s) := by
  unfold Machine.trialExpiry
  refine Within.ite ?_ ?_
  · refine Within.latch ?_ (inScopes_of rfl)
    refine Within.wrFollow ?_ (by decide)
    refine Within.set_fw ?_ (by decide)
    exact Within.refl _ _ _
  · exact Within.refl _ _ _

theorem frame_trialRewrite (s : State) :
    Within [.word 0x48 0x64, .word 0x48 0x5c, .word 0x48 0x60, .word 0x48 0x54, .word 0x48 0x58, .word 0x48 0x50] [.fw] s (trialRewrite s) := by
  unfold Machine.trialRewrite
  extract_lets x0
  refine Within.ite ?_ ?_
  · refine Within.then ?_ (frame_writeAct _ _) rfl rfl
    exact Within.refl _ _ _
  · exact Within.refl _ _ _

theorem frame_microcodeLoaded (a0 : Nat) (s : State) :
    Within [.page 0x10, .page 0x11, .word 0x48 0x84] [.fes, .lanes, .fw] s (microcodeLoaded a0 s) := by
  unfold Machine.microcodeLoaded
  refine Within.ite ?_ ?_
  · exact Within.refl _ _ _
  · extract_lets x0 x1 x2
    refine Within.via x1 ?_ (fun h3 => ?_)
    · unfold x1
      refine Within.set_fw ?_ (by decide)
      exact Within.refl _ _ _
    · clear_value x1
      refine Within.via x2 ?_ (fun h4 => ?_)
      · unfold x2
        refine Within.ite ?_ ?_
        · refine Within.then ?_ (frame_modLane _ _ _) rfl rfl
          exact h3
        · exact h3
      · clear_value x2
        refine Within.then ?_ (frame_rollStep _) rfl rfl
        exact h4

theorem frame_setupDone (a0 : Bool) (s : State) :
    Within [.page 0x29] [.ddr] s (setupDone a0 s) := by
  unfold Machine.setupDone
  extract_lets x0 x1 x2 x3 x4
  refine Within.via x3 ?_ (fun h5 => ?_)
  · unfold x3
    refine Within.set_ddr ?_ (by decide)
    exact Within.refl _ _ _
  · clear_value x3
    refine Within.via x4 ?_ (fun h6 => ?_)
    · unfold x4
      refine Within.wr ?_ (inScopes_of rfl)
      refine Within.wr ?_ (inScopes_of rfl)
      refine Within.wr ?_ (inScopes_of rfl)
      exact h5
    · clear_value x4
      refine Within.ite ?_ ?_
      · exact Within.refl _ _ _
      · refine Within.ite ?_ ?_
        · refine Within.then ?_ (frame_dissemResult _ _ _) rfl rfl
          refine Within.then ?_ (frame_setCState _ _ _) rfl rfl
          exact Within.refl _ _ _
        · refine Within.then ?_ (frame_dissemResult _ _ _) rfl rfl
          refine Within.then ?_ (frame_setCState _ _ _) rfl rfl
          refine Within.wr ?_ (inScopes_of rfl)
          exact h6

theorem frame_windowPlan (a0 : Nat) (a1 : Nat) (s : State) :
    Within [.page 0x24, .page 0x25, .page 0x26, .page 0x27, .word 0x21 0x50, .word 0x21 0x4c, .page 0x1b, .word 0x20 0xdc, .word 0x20 0xd8, .word 0x20 0xd4, .word 0x20 0xd0, .word 0x19 0xb4, .word 0xc 0x14, .word 0xc 0x4c, .page 0x29] [.frameNumbers, .nodes, .ddr, .ledger, .scheds, .fes, .duty, .frames, .campaigns] s (windowPlan a0 a1 s) := by
  unfold Machine.windowPlan
  refine Within.ite ?_ ?_
  · exact Within.refl _ _ _
  · extract_lets x0 x1 x2
    refine Within.via x2 ?_ (fun h3 => ?_)
    · unfold x2
      refine Within.then ?_ (frame_modCampaign _ _ _) rfl rfl
      exact Within.refl _ _ _
    · clear_value x2
      refine Within.then ?_ (frame_queueAnnouncement _ _ _ _) rfl rfl
      refine Within.then ?_ (frame_showNextWin _ _) rfl rfl
      exact h3

theorem frame_windowOpen (a0 : Nat) (a1 : Nat) (a2 : Bool) (s : State) :
    Within [.page 0x29, .page 0x24, .page 0x25, .page 0x26, .page 0x27, .word 0x21 0x50, .word 0x21 0x4c, .page 0x1b, .word 0x20 0xdc, .word 0x20 0xd8, .word 0x20 0xd4, .word 0x20 0xd0, .word 0x19 0xb4, .word 0xc 0x14, .word 0xc 0x4c, .page 0x10, .page 0x31, .word 0x8 0x5c, .word 0x9 0x5c, .word 0xa 0x5c, .word 0xb 0x5c, .word 0x8 0x4c, .word 0x9 0x4c, .word 0xa 0x4c, .word 0xb 0x4c] [.campaigns, .frameNumbers, .nodes, .ddr, .ledger, .scheds, .fes, .duty, .frames, .lanes] s (windowOpen a0 a1 a2 s) := by
  unfold Machine.windowOpen
  split
  · exact Within.refl _ _ _
  · refine Within.ite ?_ ?_
    · exact Within.refl _ _ _
    · refine Within.ite ?_ ?_
      · refine Within.then ?_ (frame_showNextWin _ _) rfl rfl
        refine Within.then ?_ (frame_modCampaign _ _ _) rfl rfl
        exact Within.refl _ _ _
      · extract_lets x0 x1 x2
        refine Within.via x0 ?_ (fun h3 => ?_)
        · unfold x0
          refine Within.then ?_ (frame_modCampaign _ _ _) rfl rfl
          exact Within.refl _ _ _
        · clear_value x0
          refine Within.via x1 ?_ (fun h4 => ?_)
          · unfold x1
            refine Within.incSat ?_ (inScopes_of rfl)
            refine Within.latch ?_ (inScopes_of rfl)
            refine Within.after ?_ (frame_showWindowOpen _ _) (amongCons (amongW4 rfl) amongNil) rfl
            refine Within.then ?_ (frame_showNextWin _ _) rfl rfl
            exact h3
          · clear_value x1
            refine Within.via x2 ?_ (fun h5 => ?_)
            · unfold x2
              refine Within.then ?_ (frame_queueSymbol _ _ _) rfl rfl
              exact h4
            · clear_value x2
              refine Within.ite ?_ ?_
              · refine Within.then ?_ (frame_endCampaign _ _ _) rfl rfl
                refine Within.then ?_ (frame_endFrame _ _ _) rfl rfl
                exact h5
              · refine Within.then ?_ (frame_queueSymbol _ _ _) rfl rfl
                exact h5

theorem frame_heartbeatSend (s : State) :
    Within [] [.rope] s (heartbeatSend s) := by
  unfold Machine.heartbeatSend
  refine Within.ite ?_ ?_
  · refine Within.then ?_ (frame_modRope _ _) rfl rfl
    exact Within.refl _ _ _
  · exact Within.refl _ _ _

theorem frame_replayMirror (s : State) :
    Within [] [.rope] s (replayMirror s) := by
  unfold Machine.replayMirror
  refine Within.ite ?_ ?_
  · exact Within.refl _ _ _
  · extract_lets x0 x1
    refine Within.via x1 ?_ (fun h2 => ?_)
    · unfold x1
      refine Within.then ?_ (frame_modRope _ _) rfl rfl
      exact Within.refl _ _ _
    · clear_value x1
      refine Within.ite ?_ ?_
      · exact Within.refl _ _ _
      · refine Within.then ?_ (frame_sendRecord _ _) rfl rfl
        exact h2

theorem frame_resync (s : State) :
    Within [] [.rope] s (resync s) := by
  unfold Machine.resync
  extract_lets x0 x1 x2
  refine Within.via x1 ?_ (fun h3 => ?_)
  · unfold x1
    refine Within.foldl ?_ (fun _ _ _ h4 => ?_)
    · exact Within.refl _ _ _
    · extract_lets x5 x6
      refine Within.via x6 ?_ (fun h7 => ?_)
      · unfold x6
        refine Within.ite ?_ ?_
        · refine Within.then ?_ (frame_sendRecord _ _) rfl rfl
          exact h4
        · exact h4
      · clear_value x6
        refine Within.then ?_ (frame_sendRecord _ _) rfl rfl
        exact h7
  · clear_value x1
    refine Within.via x2 ?_ (fun h8 => ?_)
    · unfold x2
      refine Within.foldl ?_ (fun _ _ _ h9 => ?_)
      · exact h3
      · refine Within.then ?_ (frame_sendRecord _ _) rfl rfl
        exact h9
    · clear_value x2
      refine Within.then ?_ (frame_sendRecord _ _) rfl rfl
      refine Within.then ?_ (frame_replayMirror _) rfl rfl
      refine Within.then ?_ (frame_modRope _ _) rfl rfl
      exact h8

theorem frame_sendJournal (s : State) :
    Within [] [.rope] s (sendJournal s) := by
  unfold Machine.sendJournal
  refine Within.foldl ?_ (fun _ _ _ h0 => ?_)
  · exact Within.refl _ _ _
  · refine Within.then ?_ (frame_sendRecord _ _) rfl rfl
    exact h0

theorem frame_attach (s : State) :
    Within [.word 0x4a 0x58, .word 0x4a 0x14, .word 0x4a 0x50] [.rope] s (attach s) := by
  unfold Machine.attach
  extract_lets x0 x1
  refine Within.via x0 ?_ (fun h2 => ?_)
  · unfold x0
    refine Within.wr ?_ (inScopes_of rfl)
    refine Within.then ?_ (frame_modRope _ _) rfl rfl
    exact Within.refl _ _ _
  · clear_value x0
    refine Within.via x1 ?_ (fun h3 => ?_)
    · unfold x1
      refine Within.then ?_ (frame_sendJournal _) rfl rfl
      exact h2
    · clear_value x1
      refine Within.ite ?_ ?_
      · refine Within.ite ?_ ?_
        · exact h2
        · refine Within.then ?_ (frame_resync _) rfl rfl
          exact h2
      · refine Within.ite ?_ ?_
        · exact h2
        · refine Within.ite ?_ ?_
          · refine Within.then ?_ (frame_setRole _ _) rfl rfl
            exact h2
          · refine Within.ite ?_ ?_
            · refine Within.then ?_ (frame_modRope _ _) rfl rfl
              exact h3
            · refine Within.then ?_ (frame_setRole _ _) rfl rfl
              exact h3

theorem frame_heartbeatRx (a0 : Nat) (a1 : Nat) (a2 : Nat) (a3 : Nat) (a4 : ℤ) (s : State) :
    Within [.word 0x4a 0x68, .word 0x4a 0x58, .word 0x4a 0x14, .word 0x4a 0x50] [.rope] s (heartbeatRx a0 a1 a2 a3 a4 s) := by
  unfold Machine.heartbeatRx
  refine Within.ite ?_ ?_
  · exact Within.refl _ _ _
  · extract_lets x0 x1 x2
    refine Within.via x0 ?_ (fun h3 => ?_)
    · unfold x0
      refine Within.wrFollow ?_ (by decide)
      refine Within.wrInt ?_ (inScopes_of rfl)
      exact Within.refl _ _ _
    · clear_value x0
      refine Within.via x2 ?_ (fun h4 => ?_)
      · unfold x2
        refine Within.then ?_ (frame_modRope _ _) rfl rfl
        exact h3
      · clear_value x2
        refine Within.ite ?_ ?_
        · refine Within.then ?_ (frame_attach _) rfl rfl
          exact h4
        · refine Within.ite ?_ ?_
          · refine Within.then ?_ (frame_resync _) rfl rfl
            exact h4
          · exact h4

theorem frame_raiseCeilings (a0 : Nat → Nat → Nat) (s : State) :
    Within [.word 0x30 0xb0] [.root, .journal, .slots] s (raiseCeilings a0 s) := by
  unfold Machine.raiseCeilings
  extract_lets x0 x1
  refine Within.via x1 ?_ (fun h2 => ?_)
  · unfold x1
    refine Within.foldl ?_ (fun _ _ _ h3 => ?_)
    · exact Within.refl _ _ _
    · extract_lets x4
      refine Within.then ?_ (frame_journalWrite _ _ _) rfl rfl
      exact h3
  · clear_value x1
    refine Within.set_slots ?_ (by decide)
    exact h2

theorem frame_attachActivate (s : State) :
    Within [.word 0x30 0xb0, .word 0x4a 0x14, .word 0x4a 0x50] [.root, .journal, .slots, .rope] s (attachActivate s) := by
  unfold Machine.attachActivate
  refine Within.ite ?_ ?_
  · exact Within.refl _ _ _
  · extract_lets x0
    refine Within.via x0 ?_ (fun h1 => ?_)
    · unfold x0
      refine Within.then ?_ (frame_raiseCeilings _ _) rfl rfl
      exact Within.refl _ _ _
    · clear_value x0
      refine Within.ite ?_ ?_
      · exact h1
      · refine Within.then ?_ (frame_resync _) rfl rfl
        refine Within.then ?_ (frame_setRole _ _) rfl rfl
        refine Within.then ?_ (frame_modRope _ _) rfl rfl
        exact h1

theorem frame_newNonce (s : State) :
    Within [] [.draws, .rope] s (newNonce s) := by
  unfold Machine.newNonce
  generalize e0 : Machine.draw _ = p1
  obtain ⟨_, _⟩ := p1
  dsimp only
  refine Within.viaEq ?_ e0 (fun h2 => ?_)
  · refine Within.then ?_ (frame_draw _) rfl rfl
    exact Within.refl _ _ _
  · refine Within.then ?_ (frame_modRope _ _) rfl rfl
    exact h2

theorem frame_partnerLost (s : State) :
    Within [.word 0x4a 0x14, .word 0x4a 0x74, .word 0x4a 0x58, .word 0x4a 0x50] [.rope, .draws] s (partnerLost s) := by
  unfold Machine.partnerLost
  refine Within.ite ?_ ?_
  · exact Within.refl _ _ _
  · extract_lets x0 x1 x2
    refine Within.via x1 ?_ (fun h3 => ?_)
    · unfold x1
      refine Within.latch ?_ (inScopes_of rfl)
      refine Within.inc ?_ (inScopes_of rfl)
      refine Within.wr ?_ (inScopes_of rfl)
      exact Within.refl _ _ _
    · clear_value x1
      refine Within.via x2 ?_ (fun h4 => ?_)
      · unfold x2
        refine Within.then ?_ (frame_modRope _ _) rfl rfl
        refine Within.then ?_ (frame_newNonce _) rfl rfl
        exact h3
      · clear_value x2
        refine Within.ite ?_ ?_
        · exact h4
        · refine Within.then ?_ (frame_setRole _ _) rfl rfl
          refine Within.then ?_ (frame_modRope _ _) rfl rfl
          exact h4

theorem frame_loneCeiling (s : State) :
    Within [] [.rope] s (loneCeiling s) := by
  unfold Machine.loneCeiling
  refine Within.ite ?_ ?_
  · refine Within.then ?_ (frame_modRope _ _) rfl rfl
    exact Within.refl _ _ _
  · exact Within.refl _ _ _

theorem frame_setLaneOk (a0 : Nat) (a1 : Bool) (s : State) :
    Within [.word 0x4a 0x58] [] s (setLaneOk a0 a1 s) := by
  unfold Machine.setLaneOk
  refine Within.ite ?_ ?_
  · refine Within.wrBool ?_ (inScopes_of rfl)
    exact Within.refl _ _ _
  · refine Within.wrBool ?_ (inScopes_of rfl)
    exact Within.refl _ _ _

theorem frame_belayLaneFail (a0 : Nat) (s : State) :
    Within [.word 0x5 0x14, .word 0x4a 0x58, .word 0x4a 0x7c, .word 0x4a 0x14] [] s (belayLaneFail a0 s) := by
  unfold Machine.belayLaneFail
  refine Within.ite ?_ ?_
  · exact Within.refl _ _ _
  · extract_lets x0 x1
    refine Within.via x0 ?_ (fun h2 => ?_)
    · unfold x0
      unfold Machine.setRemain
      extract_lets x3 x4
      refine Within.via x4 ?_ (fun h5 => ?_)
      · unfold x4
        refine Within.wrFollow ?_ (by decide)
        refine Within.then ?_ (frame_setLaneOk _ _ _) rfl rfl
        exact Within.refl _ _ _
      · clear_value x4
        refine Within.ite ?_ ?_
        · refine Within.then ?_ (frame_reserveLow _ _) rfl rfl
          exact h5
        · exact h5
    · clear_value x0
      refine Within.via x1 ?_ (fun h6 => ?_)
      · unfold x1
        refine Within.then ?_ (frame_engaged _ _ _ _) rfl rfl
        refine Within.latch ?_ (inScopes_of rfl)
        refine Within.wr ?_ (inScopes_of rfl)
        exact h2
      · clear_value x1
        refine Within.ite ?_ ?_
        · refine Within.incBy ?_ (inScopes_of rfl)
          exact h6
        · exact h2

theorem frame_belayHello (a0 : Nat) (a1 : List Byte) (a2 : Nat) (a3 : Nat) (a4 : Bool) (s : State) :
    Within [.word 0x4a 0x58, .word 0x33 0x60, .word 0x33 0x64, .page 0x24, .page 0x25, .page 0x26, .page 0x27, .word 0x21 0x50, .word 0x21 0x4c, .page 0x1b, .word 0x20 0xdc, .word 0x20 0xd8, .word 0x20 0xd4, .word 0x20 0xd0, .word 0x19 0xb4, .page 0x10, .page 0x31, .word 0x8 0x5c, .word 0x9 0x5c, .word 0xa 0x5c, .word 0xb 0x5c, .word 0x8 0x4c, .word 0x9 0x4c, .word 0xa 0x4c, .word 0xb 0x4c, .word 0x30 0x14, .word 0x30 0xa8] [.rope, .nodes, .ddr, .ledger, .scheds, .fes, .duty, .frames, .lanes, .slots] s (belayHello a0 a1 a2 a3 a4 s) := by
  unfold Machine.belayHello
  refine Within.ite ?_ ?_
  · exact Within.refl _ _ _
  · refine Within.ite ?_ ?_
    · refine Within.wr ?_ (inScopes_of rfl)
      exact Within.refl _ _ _
    · extract_lets x0 x1 x2 x3 x4 x5
      refine Within.via x0 ?_ (fun h6 => ?_)
      · unfold x0
        refine Within.wr ?_ (inScopes_of rfl)
        exact Within.refl _ _ _
      · clear_value x0
        refine Within.via x1 ?_ (fun h7 => ?_)
        · unfold x1
          refine Within.then ?_ (frame_countPke _ _ _) rfl rfl
          exact h6
        · clear_value x1
          split
          · exact h6
          · split
            · refine Within.then ?_ (frame_countPke _ _ _) rfl rfl
              exact h7
            · extract_lets x8 x9
              refine Within.then ?_ (frame_modRope _ _) rfl rfl
              refine Within.then ?_ (frame_changeSlot _ _ _) rfl rfl
              exact h7

theorem frame_applyReserve (a0 : Nat) (a1 : Nat) (s : State) :
    Within [.word 0x30 0xb0] [.rope, .root, .journal] s (applyReserve a0 a1 s) := by
  unfold Machine.applyReserve
  extract_lets x0
  refine Within.via x0 ?_ (fun h1 => ?_)
  · unfold x0
    refine Within.then ?_ (frame_modRope _ _) rfl rfl
    exact Within.refl _ _ _
  · clear_value x0
    refine Within.ite ?_ ?_
    · refine Within.then ?_ (frame_journalWrite _ _ _) rfl rfl
      refine Within.then ?_ (frame_modRope _ _) rfl rfl
      exact h1
    · exact h1

theorem frame_mirrorRefused (s : State) :
    Within [.word 0x4a 0x80] [] s (mirrorRefused s) := by
  unfold Machine.mirrorRefused
  refine Within.inc ?_ (inScopes_of rfl)
  exact Within.refl _ _ _

theorem frame_applySlot (a0 : Nat) (a1 : BitVec 32) (a2 : Nat) (a3 : List Byte) (s : State) :
    Within [.page 0x24, .page 0x25, .page 0x26, .page 0x27, .word 0x21 0x50, .word 0x21 0x4c, .page 0x1b, .word 0x20 0xdc, .word 0x20 0xd8, .word 0x20 0xd4, .word 0x20 0xd0, .word 0x19 0xb4, .page 0x10, .page 0x31, .word 0x8 0x5c, .word 0x9 0x5c, .word 0xa 0x5c, .word 0xb 0x5c, .word 0x8 0x4c, .word 0x9 0x4c, .word 0xa 0x4c, .word 0xb 0x4c, .word 0x30 0x14, .word 0x30 0xa8, .word 0x4a 0x80] [.nodes, .ddr, .ledger, .scheds, .fes, .duty, .frames, .lanes, .slots] s (applySlot a0 a1 a2 a3 s) := by
  unfold Machine.applySlot
  extract_lets x0 x1 x2
  refine Within.ite ?_ ?_
  · refine Within.then ?_ (frame_changeSlot _ _ _) rfl rfl
    exact Within.refl _ _ _
  · split
    · refine Within.then ?_ (frame_mirrorRefused _) rfl rfl
      exact Within.refl _ _ _
    · extract_lets x3 x4 x5 x6 x7
      refine Within.ite ?_ ?_
      · refine Within.then ?_ (frame_mirrorRefused _) rfl rfl
        exact Within.refl _ _ _
      · refine Within.then ?_ (frame_changeSlot _ _ _) rfl rfl
        exact Within.refl _ _ _

theorem frame_applyNode (a0 : NodeRec) (s : State) :
    Within [.word 0x4a 0x80, .page 0x24, .page 0x25, .page 0x26, .page 0x27, .word 0x21 0x50, .word 0x21 0x4c, .page 0x1b, .word 0x20 0xdc, .word 0x20 0xd8, .word 0x20 0xd4, .word 0x20 0xd0, .word 0x19 0xb4, .word 0x30 0x98] [.nodes, .ddr, .ledger, .scheds, .fes, .duty, .frames, .cache] s (applyNode a0 s) := by
  unfold Machine.applyNode
  extract_lets x0 x1 x2 x3 x4 x5 x6
  refine Within.ite ?_ ?_
  · refine Within.then ?_ (frame_mirrorRefused _) rfl rfl
    exact Within.refl _ _ _
  · refine Within.ite ?_ ?_
    · refine Within.ite ?_ ?_
      · refine Within.then ?_ (frame_endNodeFrames _ _ _) rfl rfl
        refine Within.then ?_ (frame_cacheDrop _ _) rfl rfl
        refine Within.then ?_ (frame_setNode _ _ _) rfl rfl
        exact Within.refl _ _ _
      · refine Within.then ?_ (frame_mirrorRefused _) rfl rfl
        exact Within.refl _ _ _
    · refine Within.ite ?_ ?_
      · refine Within.then ?_ (frame_mirrorRefused _) rfl rfl
        exact Within.refl _ _ _
      · refine Within.then ?_ (frame_setNode _ _ _) rfl rfl
        refine Within.then ?_ (frame_cacheDrop _ _) rfl rfl
        exact Within.refl _ _ _

theorem frame_applyReplay (a0 : Nat) (a1 : Nat) (a2 : Nat) (a3 : Nat) (s : State) :
    Within [.page 0x1b, .word 0x20 0xdc, .word 0x20 0xd8, .word 0x20 0xd4, .word 0x20 0xd0, .word 0x4a 0x80] [.nodes, .ddr] s (applyReplay a0 a1 a2 a3 s) := by
  unfold Machine.applyReplay
  extract_lets x0 x1
  refine Within.ite ?_ ?_
  · refine Within.then ?_ (frame_modNode _ _ _) rfl rfl
    exact Within.refl _ _ _
  · refine Within.then ?_ (frame_mirrorRefused _) rfl rfl
    exact Within.refl _ _ _

theorem frame_applyRecord (a0 : RopeRec) (a1 : List Nat) (s : State) :
    Within [.word 0x30 0xb0, .page 0x24, .page 0x25, .page 0x26, .page 0x27, .word 0x21 0x50, .word 0x21 0x4c, .page 0x1b, .word 0x20 0xdc, .word 0x20 0xd8, .word 0x20 0xd4, .word 0x20 0xd0, .word 0x19 0xb4, .page 0x10, .page 0x31, .word 0x8 0x5c, .word 0x9 0x5c, .word 0xa 0x5c, .word 0xb 0x5c, .word 0x8 0x4c, .word 0x9 0x4c, .word 0xa 0x4c, .word 0xb 0x4c, .word 0x30 0x14, .word 0x30 0xa8, .word 0x4a 0x80, .word 0x30 0x98, .word 0x4a 0x14, .word 0x4a 0x50] [.rope, .root, .journal, .nodes, .ddr, .ledger, .scheds, .fes, .duty, .frames, .lanes, .slots, .cache] s (applyRecord a0 a1 s) := by
  unfold Machine.applyRecord
  split
  · refine Within.then ?_ (frame_applyReserve _ _ _) rfl rfl
    exact Within.refl _ _ _
  · refine Within.ite ?_ ?_
    · exact Within.refl _ _ _
    · split
      · exact Within.refl _ _ _
      · refine Within.then ?_ (frame_applySlot _ _ _ _ _) rfl rfl
        exact Within.refl _ _ _
      · refine Within.then ?_ (frame_applyNode _ _) rfl rfl
        exact Within.refl _ _ _
      · refine Within.foldl ?_ (fun _ _ _ h0 => ?_)
        · exact Within.refl _ _ _
        · refine Within.then ?_ (frame_applyReplay _ _ _ _ _) rfl rfl
          exact h0
      · refine Within.ite ?_ ?_
        · refine Within.then ?_ (frame_setRole _ _) rfl rfl
          exact Within.refl _ _ _
        · exact Within.refl _ _ _

theorem frame_recordRx (a0 : Nat) (a1 : Bool) (a2 : Bool) (a3 : RopeRec) (a4 : List Nat) (s : State) :
    Within [.word 0x4a 0x78, .word 0x30 0xb0, .page 0x24, .page 0x25, .page 0x26, .page 0x27, .word 0x21 0x50, .word 0x21 0x4c, .page 0x1b, .word 0x20 0xdc, .word 0x20 0xd8, .word 0x20 0xd4, .word 0x20 0xd0, .word 0x19 0xb4, .page 0x10, .page 0x31, .word 0x8 0x5c, .word 0x9 0x5c, .word 0xa 0x5c, .word 0xb 0x5c, .word 0x8 0x4c, .word 0x9 0x4c, .word 0xa 0x4c, .word 0xb 0x4c, .word 0x30 0x14, .word 0x30 0xa8, .word 0x4a 0x80, .word 0x30 0x98, .word 0x4a 0x14, .word 0x4a 0x50] [.rope, .root, .journal, .nodes, .ddr, .ledger, .scheds, .fes, .duty, .frames, .lanes, .slots, .cache] s (recordRx a0 a1 a2 a3 a4 s) := by
  unfold Machine.recordRx
  refine Within.ite ?_ ?_
  · exact Within.refl _ _ _
  · refine Within.ite ?_ ?_
    · refine Within.inc ?_ (inScopes_of rfl)
      exact Within.refl _ _ _
    · refine Within.ite ?_ ?_
      · exact Within.refl _ _ _
      · refine Within.then ?_ (frame_applyRecord _ _ _) rfl rfl
        refine Within.then ?_ (frame_modRope _ _) rfl rfl
        exact Within.refl _ _ _

theorem frame_recordResend (s : State) :
    Within [.word 0x4a 0x7c] [] s (recordResend s) := by
  unfold Machine.recordResend
  refine Within.ite ?_ ?_
  · exact Within.refl _ _ _
  · refine Within.inc ?_ (inScopes_of rfl)
    exact Within.refl _ _ _

theorem frame_giveUp (s : State) :
    Within [.page 0x1b, .word 0x20 0xdc, .word 0x20 0xd8, .word 0x20 0xd4, .word 0x20 0xd0, .word 0x22 0x58, .word 0x22 0x54, .word 0x22 0x50, .page 0x24, .page 0x25, .page 0x26, .page 0x27, .word 0x21 0x50, .word 0x21 0x4c, .word 0x19 0xb4, .word 0x4a 0x14, .word 0x4a 0x50, .word 0x8 0x5c, .word 0x9 0x5c, .word 0xa 0x5c, .word 0xb 0x5c] [.nodes, .ddr, .ledger, .reasm, .scheds, .fes, .duty, .frames, .rope] s (giveUp s) := by
  unfold Machine.giveUp
  refine Within.ite ?_ ?_
  · refine Within.then ?_ (frame_relinquish _) rfl rfl
    exact Within.refl _ _ _
  · exact Within.refl _ _ _

theorem frame_forceDurable (a0 : Bool) (s : State) :
    Within [.word 0x4a 0x60, .word 0x45 0x14, .word 0x45 0x48, .word 0x45 0x4c, .word 0x4a 0x14, .word 0x4a 0x50, .word 0x30 0xb0] [.rope, .root, .journal, .slots] s (forceDurable a0 s) := by
  unfold Machine.forceDurable
  refine Within.ite ?_ ?_
  · exact Within.refl _ _ _
  · extract_lets x0 x1 x2
    refine Within.via x0 ?_ (fun h3 => ?_)
    · unfold x0
      refine Within.then ?_ (frame_modRope _ _) rfl rfl
      exact Within.refl _ _ _
    · clear_value x0
      refine Within.via x2 ?_ (fun h4 => ?_)
      · unfold x2
        refine Within.then ?_ (frame_raiseCeilings _ _) rfl rfl
        exact h3
      · clear_value x2
        refine Within.ite ?_ ?_
        · refine Within.wr ?_ (inScopes_of rfl)
          refine Within.then ?_ (frame_flashError _ _ _) rfl rfl
          exact h3
        · refine Within.then ?_ (frame_setRole _ _) rfl rfl
          refine Within.wr ?_ (inScopes_of rfl)
          exact h4

theorem frame_adoptStarts (s : State) :
    Within [] [.slots] s (adoptStarts s) := by
  unfold Machine.adoptStarts
  refine Within.set_slots ?_ (by decide)
  exact Within.refl _ _ _

theorem frame_partnerActFall (s : State) :
    Within [.word 0x4a 0x50] [.slots, .rope] s (partnerActFall s) := by
  unfold Machine.partnerActFall
  extract_lets x0 x1
  refine Within.via x0 ?_ (fun h2 => ?_)
  · unfold x0
    refine Within.wr ?_ (inScopes_of rfl)
    exact Within.refl _ _ _
  · clear_value x0
    refine Within.ite ?_ ?_
    · refine Within.then ?_ (frame_adoptStarts _) rfl rfl
      refine Within.then ?_ (frame_modRope _ _) rfl rfl
      exact h2
    · exact h2

theorem frame_takeoverExpiry (s : State) :
    Within [.word 0x4a 0x14, .word 0x4a 0x50, .word 0x4a 0x6c, .word 0x4a 0x70] [.rope] s (takeoverExpiry s) := by
  unfold Machine.takeoverExpiry
  refine Within.ite ?_ ?_
  · extract_lets x0 x1
    refine Within.via x0 ?_ (fun h2 => ?_)
    · unfold x0
      refine Within.then ?_ (frame_modRope _ _) rfl rfl
      exact Within.refl _ _ _
    · clear_value x0
      refine Within.via x1 ?_ (fun h3 => ?_)
      · unfold x1
        refine Within.wr ?_ (inScopes_of rfl)
        refine Within.inc ?_ (inScopes_of rfl)
        exact h2
      · clear_value x1
        refine Within.then ?_ (frame_setRole _ _) rfl rfl
        exact h3
  · exact Within.refl _ _ _

theorem frame_txMute (s : State) :
    Within [.page 0x24, .page 0x25, .page 0x26, .page 0x27, .word 0x21 0x50, .word 0x21 0x4c, .page 0x1b, .word 0x20 0xdc, .word 0x20 0xd8, .word 0x20 0xd4, .word 0x20 0xd0, .word 0x19 0xb4, .page 0x10, .page 0x31, .word 0x8 0x5c, .word 0x9 0x5c, .word 0xa 0x5c, .word 0xb 0x5c, .word 0x8 0x4c, .word 0x9 0x4c, .word 0xa 0x4c, .word 0xb 0x4c] [.nodes, .ddr, .ledger, .scheds, .fes, .duty, .frames, .lanes] s (txMute s) := by
  unfold Machine.txMute
  refine Within.ite ?_ ?_
  · refine Within.foldl ?_ (fun _ _ _ h0 => ?_)
    · exact Within.refl _ _ _
    · refine Within.ite ?_ ?_
      · refine Within.after ?_ (frame_cutTx _ _ _) (amongCons rfl (amongCons rfl (amongCons rfl (amongCons rfl (amongCons rfl (amongCons rfl (amongCons rfl (amongCons rfl (amongCons rfl (amongCons rfl (amongCons rfl (amongCons rfl (amongCons rfl (amongCons rfl (amongCons (amongW4 rfl) (amongCons (amongW4 rfl) amongNil)))))))))))))))) rfl
        exact h0
      · exact h0
  · exact Within.refl _ _ _

theorem frame_releaseLines (s : State) :
    Within [.word 0x8 0x5c, .word 0x9 0x5c, .word 0xa 0x5c, .word 0xb 0x5c] [.fes] s (releaseLines s) := by
  unfold Machine.releaseLines
  refine Within.foldl ?_ (fun _ _ _ h0 => ?_)
  · exact Within.refl _ _ _
  · refine Within.after ?_ (frame_showLines _ _) (amongCons (amongW4 rfl) amongNil) rfl
    refine Within.then ?_ (frame_modFe _ _ _) rfl rfl
    exact h0

theorem frame_partnerActRise (s : State) :
    Within [.word 0x4a 0x50, .word 0x8 0x5c, .word 0x9 0x5c, .word 0xa 0x5c, .word 0xb 0x5c, .word 0x4a 0x14] [.rope, .fes] s (partnerActRise s) := by
  unfold Machine.partnerActRise
  extract_lets x0
  refine Within.via x0 ?_ (fun h1 => ?_)
  · unfold x0
    refine Within.then ?_ (frame_modRope _ _) rfl rfl
    refine Within.wr ?_ (inScopes_of rfl)
    exact Within.refl _ _ _
  · clear_value x0
    refine Within.ite ?_ ?_
    · refine Within.then ?_ (frame_releaseLines _) rfl rfl
      refine Within.then ?_ (frame_setRole _ _) rfl rfl
      refine Within.then ?_ (frame_modRope _ _) rfl rfl
      exact h1
    · exact h1

theorem frame_reclaim (s : State) :
    Within [.word 0x8 0x5c, .word 0x9 0x5c, .word 0xa 0x5c, .word 0xb 0x5c, .word 0x4a 0x14, .word 0x4a 0x50, .word 0x4a 0x88] [.fes, .rope] s (reclaim s) := by
  unfold Machine.reclaim
  refine Within.ite ?_ ?_
  · refine Within.then ?_ (frame_releaseLines _) rfl rfl
    refine Within.then ?_ (frame_setRole _ _) rfl rfl
    refine Within.inc ?_ (inScopes_of rfl)
    refine Within.then ?_ (frame_modRope _ _) rfl rfl
    exact Within.refl _ _ _
  · exact Within.refl _ _ _

theorem frame_dualActive (s : State) :
    Within [.word 0x4a 0x14, .word 0x4a 0x8c, .page 0x1b, .word 0x20 0xdc, .word 0x20 0xd8, .word 0x20 0xd4, .word 0x20 0xd0, .word 0x22 0x58, .word 0x22 0x54, .word 0x22 0x50, .page 0x24, .page 0x25, .page 0x26, .page 0x27, .word 0x21 0x50, .word 0x21 0x4c, .word 0x19 0xb4, .word 0x4a 0x50, .word 0x8 0x5c, .word 0x9 0x5c, .word 0xa 0x5c, .word 0xb 0x5c] [.nodes, .ddr, .ledger, .reasm, .scheds, .fes, .duty, .frames, .rope] s (dualActive s) := by
  unfold Machine.dualActive
  refine Within.ite ?_ ?_
  · extract_lets x0
    refine Within.via x0 ?_ (fun h1 => ?_)
    · unfold x0
      refine Within.latch ?_ (inScopes_of rfl)
      refine Within.inc ?_ (inScopes_of rfl)
      exact Within.refl _ _ _
    · clear_value x0
      refine Within.ite ?_ ?_
      · exact h1
      · refine Within.then ?_ (frame_relinquish _) rfl rfl
        exact h1
  · exact Within.refl _ _ _

theorem frame_addWear (a0 : Nat) (a1 : Nat) (a2 : Nat) (s : State) :
    Within [.page 0x5] [.wear] s (addWear a0 a1 a2 s) := by
  unfold Machine.addWear
  extract_lets x0 x1 x2
  refine Within.via x2 ?_ (fun h3 => ?_)
  · unfold x2
    refine Within.set_wear ?_ (by decide)
    exact Within.refl _ _ _
  · clear_value x2
    refine Within.ite ?_ ?_
    · exact h3
    · refine Within.wr ?_ (inScopes_of rfl)
      exact h3

theorem frame_wearSwing (a0 : ℤ) (s : State) :
    Within [.page 0x5] [.wear] s (wearSwing a0 s) := by
  unfold Machine.wearSwing
  extract_lets x0 x1 x2 x3
  refine Within.ite ?_ ?_
  · refine Within.set_wear ?_ (by decide)
    exact Within.refl _ _ _
  · refine Within.ite ?_ ?_
    · refine Within.set_wear ?_ (by decide)
      exact Within.refl _ _ _
    · refine Within.ite ?_ ?_
      · refine Within.ite ?_ ?_
        · refine Within.set_wear ?_ (by decide)
          exact Within.refl _ _ _
        · refine Within.ite ?_ ?_
          · (unfold x1; beta_reduce)
            refine Within.then ?_ (frame_addWear _ _ _ _) rfl rfl
            refine Within.set_wear ?_ (by decide)
            exact Within.refl _ _ _
          · exact Within.refl _ _ _
      · refine Within.ite ?_ ?_
        · refine Within.set_wear ?_ (by decide)
          exact Within.refl _ _ _
        · refine Within.ite ?_ ?_
          · (unfold x1; beta_reduce)
            refine Within.then ?_ (frame_addWear _ _ _ _) rfl rfl
            refine Within.set_wear ?_ (by decide)
            exact Within.refl _ _ _
          · exact Within.refl _ _ _

theorem frame_wearSample (s : State) :
    Within [.page 0x5] [.wear] s (wearSample s) := by
  unfold Machine.wearSample
  extract_lets x0 x1 x2 x3 x4 x5
  refine Within.via x1 ?_ (fun h6 => ?_)
  · unfold x1
    refine Within.foldl ?_ (fun _ _ _ h7 => ?_)
    · exact Within.refl _ _ _
    · split
      · refine Within.then ?_ (frame_addWear _ _ _ _) rfl rfl
        exact h7
      · exact h7
  · clear_value x1
    refine Within.via x2 ?_ (fun h8 => ?_)
    · unfold x2
      refine Within.foldl ?_ (fun _ _ _ h9 => ?_)
      · exact h6
      · refine Within.ite ?_ ?_
        · refine Within.then ?_ (frame_addWear _ _ _ _) rfl rfl
          exact h9
        · exact h9
    · clear_value x2
      refine Within.via x4 ?_ (fun h10 => ?_)
      · unfold x4
        refine Within.ite ?_ ?_
        · refine Within.then ?_ (frame_addWear _ _ _ _) rfl rfl
          exact h8
        · exact h8
      · clear_value x4
        refine Within.via x5 ?_ (fun h11 => ?_)
        · unfold x5
          clear_value x3
          split
          · exact h10
          · refine Within.then ?_ (frame_wearSwing _ _) rfl rfl
            exact h10
        · clear_value x5
          refine Within.then ?_ (frame_showWear _) rfl rfl
          refine Within.ite ?_ ?_
          · refine Within.then ?_ (frame_addWear _ _ _ _) rfl rfl
            exact h11
          · exact h11

theorem frame_wearOscillators (a0 : List Nat) (s : State) :
    Within [.page 0x5] [] s (wearOscillators a0 s) := by
  unfold Machine.wearOscillators
  refine Within.then ?_ (frame_showWear _) rfl rfl
  refine Within.foldl ?_ (fun _ _ _ h0 => ?_)
  · exact Within.refl _ _ _
  · refine Within.wr ?_ (inScopes_of rfl)
    exact h0

theorem frame_cairnWrite (s : State) :
    Within [.word 0x6 0x14] [] s (cairnWrite s) := by
  unfold Machine.cairnWrite
  split
  · exact Within.refl _ _ _
  · extract_lets x0 x1 x2 x3 x4 x5 x6 x7 x8 x9 x10
    refine Within.via x3 ?_ (fun h11 => ?_)
    · unfold x3
      refine Within.ite ?_ ?_
      · unfold Machine.inc
        refine Within.wrFollow ?_ (by decide)
        exact Within.refl _ _ _
      · exact Within.refl _ _ _
    · clear_value x3
      refine Within.via x4 ?_ (fun h12 => ?_)
      · unfold x4
        refine Within.ite ?_ ?_
        · refine Within.latch ?_ (inScopes_of rfl)
          unfold Machine.inc
          refine Within.wrFollow ?_ (by decide)
          exact h11
        · exact h11
      · clear_value x4
        refine Within.via x6 ?_ (fun h13 => ?_)
        · unfold x6
          refine Within.set_cairn ?_
          exact h12
        · clear_value x6
          refine Within.via x7 ?_ (fun h14 => ?_)
          · unfold x7
            refine Within.wrFollow ?_ (by decide)
            refine Within.wrFollow ?_ (by decide)
            refine Within.wrFollow ?_ (by decide)
            exact h13
          · clear_value x7
            refine Within.via x8 ?_ (fun h15 => ?_)
            · unfold x8
              refine Within.latch ?_ (inScopes_of rfl)
              exact h14
            · clear_value x8
              refine Within.ite ?_ ?_
              · exact h15
              · refine Within.logCairn ?_
                refine Within.set_cairn ?_
                exact h15

theorem frame_keyMirrorDone (s : State) :
    Within [.word 0x4c 0x14, .word 0x4c 0x50, .word 0x4c 0x4c, .word 0x4c 0x48, .word 0x4c 0x44, .page 0x41, .page 0x1b, .word 0x20 0xdc, .word 0x20 0xd8, .word 0x20 0xd4, .word 0x20 0xd0, .word 0x39 0x74, .word 0x39 0x70, .word 0x39 0x14, .word 0x39 0x78, .page 0x3b, .word 0x39 0xac, .word 0x40 0x40, .word 0x40 0x74, .word 0x40 0x78, .word 0x40 0x14, .word 0x38 0x74, .word 0x38 0x70, .word 0x38 0x14, .word 0x38 0x78, .page 0x3a, .word 0x38 0xac] [.ports, .notices, .rings, .ddr, .nodes, .ledger, .copy, .boot] s (keyMirrorDone s) := by
  unfold Machine.keyMirrorDone
  refine Within.ite ?_ ?_
  · exact Within.refl _ _ _
  · extract_lets x0 x1 x2 x3 x4 x5 x6
    refine Within.via x3 ?_ (fun h7 => ?_)
    · unfold x3
      refine Within.upd (by (try dsimp only) <;> exact rfl) (fun p hp => by cases p <;> first | rfl | exact ⟨rfl, rfl⟩ | exact ⟨rfl, rfl, rfl⟩ | exact absurd (by decide) hp) ?_
      exact Within.refl _ _ _
    · clear_value x3
      refine Within.via x4 ?_ (fun h8 => ?_)
      · unfold x4
        refine Within.then ?_ (frame_pcieLink _ _ _ _ _) rfl rfl
        exact h7
      · clear_value x4
        refine Within.via x6 ?_ (fun h9 => ?_)
        · unfold x6
          (unfold x5; beta_reduce)
          refine Within.then ?_ (frame_refreshLink _ _) rfl rfl
          refine Within.then ?_ (frame_modPort _ _ _) rfl rfl
          exact h8
        · clear_value x6
          refine Within.ite ?_ ?_
          · (unfold x5; beta_reduce)
            refine Within.then ?_ (frame_refreshLink _ _) rfl rfl
            refine Within.then ?_ (frame_modPort _ _ _) rfl rfl
            exact h9
          · exact h9

theorem frame_fe0Unrelieved (s : State) :
    Within [.page 0x10, .page 0x24, .page 0x25, .page 0x26, .page 0x27, .word 0x8 0x5c, .word 0x8 0x4c] [.lanes, .fes, .frames, .scheds, .duty, .relief] s (fe0Unrelieved s) := by
  unfold Machine.fe0Unrelieved
  extract_lets x0
  refine Within.foldl ?_ (fun _ _ _ h1 => ?_)
  · refine Within.set_reliefQueue ?_ (by decide)
    exact Within.refl _ _ _
  · refine Within.then ?_ (frame_calUnrelieved _ _ _) rfl rfl
    exact h1

theorem frame_reconstruct (a0 : PufRead) (s : State) :
    Within [.word 0x30 0x80, .word 0x30 0x14, .word 0x30 0x84, .word 0x30 0x88, .word 0x30 0x8c, .word 0x32 0x40, .page 0x4a, .word 0x30 0x90, .word 0x30 0x94] [.root] s (reconstruct a0 s) := by
  unfold Machine.reconstruct
  split
  · refine Within.wr ?_ (inScopes_of rfl)
    exact Within.refl _ _ _
  · extract_lets x0
    refine Within.via x0 ?_ (fun h1 => ?_)
    · unfold x0
      refine Within.then ?_ (frame_noteRead _ _ _) rfl rfl
      refine Within.then ?_ (frame_showHelper _) rfl rfl
      exact Within.refl _ _ _
    · clear_value x0
      split
      · refine Within.wr ?_ (inScopes_of rfl)
        exact h1
      · refine Within.then ?_ (frame_makeReady _ _ _ _) rfl rfl
        refine Within.wr ?_ (inScopes_of rfl)
        exact h1

theorem frame_newDdrKey (s : State) :
    Within [] [.draws] s ((newDdrKey s).2) := by
  unfold Machine.newDdrKey
  split
  · dsimp only
    exact Within.refl _ _ _
  · generalize e0 : Machine.draw _ = p1
    obtain ⟨_, _⟩ := p1
    dsimp only
    refine Within.viaEq ?_ e0 (fun h2 => ?_)
    · refine Within.then ?_ (frame_draw _) rfl rfl
      exact Within.refl _ _ _
    · exact h2

theorem frame_keyDdr (s : State) :
    Within [.word 0x32 0x40] [.draws, .root, .ddr, .mem, .boot] s (keyDdr s) := by
  unfold Machine.keyDdr
  extract_lets x0
  generalize e1 : Machine.newDdrKey _ = p2
  obtain ⟨_, _⟩ := p2
  dsimp only
  refine Within.viaEq ?_ e1 (fun h3 => ?_)
  · refine Within.then ?_ (frame_newDdrKey _) rfl rfl
    exact Within.refl _ _ _
  · refine Within.ite ?_ ?_
    · refine Within.upd (by (try dsimp only) <;> exact rfl) (fun p hp => by cases p <;> first | rfl | exact ⟨rfl, rfl⟩ | exact ⟨rfl, rfl, rfl⟩ | exact absurd (by decide) hp) ?_
      refine Within.wrBool ?_ (inScopes_of rfl)
      refine Within.set_root ?_ (by decide)
      exact h3
    · refine Within.wrBool ?_ (inScopes_of rfl)
      refine Within.set_root ?_ (by decide)
      exact h3

theorem frame_rootStep (a0 : PufRead) (a1 : Bool) (a2 : Bool) (a3 : Nat) (s : State) :
    Within [.word 0x32 0x40, .word 0x30 0x80, .word 0x5 0x14, .page 0x4a, .word 0x30 0x90, .word 0x30 0x94, .word 0x30 0x8c, .word 0x30 0x84, .word 0x80 0x3004, .word 0x30 0x14, .word 0x30 0x88, .word 0x4e 0x64] [.draws, .root, .ddr, .mem, .boot] s (rootStep a0 a1 a2 a3 s) := by
  unfold Machine.rootStep
  extract_lets x0 x1 x2
  refine Within.via x0.2 ?_ (fun h3 => ?_)
  · unfold x0
    refine Within.then ?_ (frame_enrol _ _ _ _ _) rfl rfl
    exact Within.refl _ _ _
  · clear_value x0
    refine Within.via x1 ?_ (fun h4 => ?_)
    · unfold x1
      refine Within.ite ?_ ?_
      · exact Within.refl _ _ _
      · refine Within.ite ?_ ?_
        · refine Within.wr ?_ (inScopes_of rfl)
          exact Within.refl _ _ _
        · refine Within.ite ?_ ?_
          · refine Within.ite ?_ ?_
            · exact h3
            · refine Within.wr ?_ (inScopes_of rfl)
              refine Within.then ?_ (frame_pufResult _ _) rfl rfl
              exact h3
          · refine Within.then ?_ (frame_reconstruct _ _) rfl rfl
            exact Within.refl _ _ _
    · clear_value x1
      refine Within.via x2 ?_ (fun h5 => ?_)
      · unfold x2
        refine Within.then ?_ (frame_keyDdr _) rfl rfl
        exact h4
      · clear_value x2
        refine Within.ite ?_ ?_
        · exact h5
        · refine Within.then ?_ (frame_addCause _ _) rfl rfl
          exact h5

theorem frame_fuseStep (a0 : Nat) (a1 : Nat) (s : State) :
    Within [.word 0x4e 0x64, .word 0x45 0x40, .page 0x24, .page 0x25, .page 0x26, .page 0x27, .page 0xc] [] s (fuseStep a0 a1 s) := by
  unfold Machine.fuseStep
  extract_lets x0
  refine Within.via x0 ?_ (fun h1 => ?_)
  · unfold x0
    refine Within.wr ?_ (inScopes_of rfl)
    refine Within.wr ?_ (inScopes_of rfl)
    refine Within.then ?_ (frame_loadProfile _) rfl rfl
    exact Within.refl _ _ _
  · clear_value x0
    refine Within.ite ?_ ?_
    · refine Within.then ?_ (frame_addCause _ _) rfl rfl
      exact h1
    · exact h1

theorem frame_showSet (s : State) :
    Within [.word 0x48 0x64, .word 0x48 0x5c, .word 0x48 0x60, .word 0x48 0x54, .word 0x48 0x58, .word 0x48 0x50, .word 0x0 0x5c, .word 0x48 0x68] [] s (showSet s) := by
  unfold Machine.showSet
  extract_lets x0 x1
  refine Within.then ?_ (frame_showAct _ _) rfl rfl
  refine Within.wr ?_ (inScopes_of rfl)
  refine Within.wr ?_ (inScopes_of rfl)
  exact Within.refl _ _ _

theorem frame_blowLevels (s : State) :
    Within [.word 0x48 0x64] [] s (blowLevels s) := by
  unfold Machine.blowLevels
  extract_lets x0
  refine Within.ite ?_ ?_
  · refine Within.wr ?_ (inScopes_of rfl)
    exact Within.refl _ _ _
  · exact Within.refl _ _ _

theorem frame_fallBack (a0 : Nat) (s : State) :
    Within [.word 0x33 0x60, .word 0x33 0x64, .word 0x48 0x14, .word 0x48 0x4c, .word 0x48 0x64, .word 0x48 0x5c, .word 0x48 0x60, .word 0x48 0x54, .word 0x48 0x58, .word 0x48 0x50] [.fw] s ((fallBack a0 s).2) := by
  unfold Machine.fallBack
  extract_lets x0 x1
  refine Within.via x1.2 ?_ (fun h2 => ?_)
  · unfold x1
    refine Within.then ?_ (frame_checkPackage _ _) rfl rfl
    exact Within.refl _ _ _
  · clear_value x1
    split
    · dsimp only
      refine Within.then ?_ (frame_noteFallback _ _) rfl rfl
      refine Within.then ?_ (frame_writeAct _ _) rfl rfl
      exact h2
    · dsimp only
      exact h2

theorem frame_noImage (s : State) :
    Within [.word 0x4e 0x64] [] s (noImage s) := by
  unfold Machine.noImage
  refine Within.then ?_ (frame_addCause _ _) rfl rfl
  exact Within.refl _ _ _

theorem frame_fallBackOrCamp (a0 : Nat) (s : State) :
    Within [.word 0x33 0x60, .word 0x33 0x64, .word 0x48 0x14, .word 0x48 0x4c, .word 0x48 0x64, .word 0x48 0x5c, .word 0x48 0x60, .word 0x48 0x54, .word 0x48 0x58, .word 0x48 0x50, .word 0x4e 0x64] [.fw] s (fallBackOrCamp a0 s) := by
  unfold Machine.fallBackOrCamp
  extract_lets x0
  refine Within.via x0.2 ?_ (fun h1 => ?_)
  · unfold x0
    refine Within.then ?_ (frame_fallBack _ _) rfl rfl
    exact Within.refl _ _ _
  · clear_value x0
    refine Within.ite ?_ ?_
    · exact h1
    · refine Within.then ?_ (frame_noImage _) rfl rfl
      exact h1

theorem frame_verifyStep (s : State) :
    Within [.word 0x33 0x60, .word 0x33 0x64, .word 0x48 0x14, .word 0x48 0x4c, .word 0x48 0x64, .word 0x48 0x5c, .word 0x48 0x60, .word 0x48 0x54, .word 0x48 0x58, .word 0x48 0x50, .word 0x4e 0x64] [.fw] s (verifyStep s) := by
  unfold Machine.verifyStep
  extract_lets x0
  refine Within.via x0.2 ?_ (fun h1 => ?_)
  · unfold x0
    refine Within.then ?_ (frame_checkPackage _ _) rfl rfl
    exact Within.refl _ _ _
  · clear_value x0
    refine Within.ite ?_ ?_
    · exact h1
    · refine Within.ite ?_ ?_
      · refine Within.then ?_ (frame_fallBackOrCamp _ _) rfl rfl
        exact h1
      · refine Within.then ?_ (frame_noImage _) rfl rfl
        exact h1

theorem frame_trialStep (s : State) :
    Within [.word 0x33 0x60, .word 0x33 0x64, .word 0x48 0x14, .word 0x48 0x4c, .word 0x48 0x64, .word 0x48 0x5c, .word 0x48 0x60, .word 0x48 0x54, .word 0x48 0x58, .word 0x48 0x50, .word 0x4e 0x64] [.fw] s (trialStep s) := by
  unfold Machine.trialStep
  extract_lets x0
  refine Within.ite ?_ ?_
  · exact Within.refl _ _ _
  · refine Within.ite ?_ ?_
    · refine Within.then ?_ (frame_fallBackOrCamp _ _) rfl rfl
      exact Within.refl _ _ _
    · refine Within.then ?_ (frame_writeAct _ _) rfl rfl
      exact Within.refl _ _ _

theorem frame_revertStep (s : State) :
    Within [.word 0x33 0x60, .word 0x33 0x64, .word 0x48 0x14, .word 0x48 0x4c, .word 0x48 0x64, .word 0x48 0x5c, .word 0x48 0x60, .word 0x48 0x54, .word 0x48 0x58, .word 0x48 0x50, .word 0x4e 0x64] [.fw] s (revertStep s) := by
  unfold Machine.revertStep
  refine Within.ite ?_ ?_
  · exact Within.refl _ _ _
  · extract_lets x0 x1 x2
    refine Within.via x1 ?_ (fun h3 => ?_)
    · unfold x1
      refine Within.set_fw ?_ (by decide)
      exact Within.refl _ _ _
    · clear_value x1
      refine Within.ite ?_ ?_
      · refine Within.then ?_ (frame_fallBackOrCamp _ _) rfl rfl
        exact h3
      · refine Within.then ?_ (frame_writeAct _ _) rfl rfl
        exact h3

theorem frame_manifestStep (s : State) :
    Within [.word 0x4e 0x64, .word 0x33 0x60, .word 0x33 0x64, .word 0x48 0x14, .word 0x48 0x4c, .word 0x48 0x64, .word 0x48 0x5c, .word 0x48 0x60, .word 0x48 0x54, .word 0x48 0x58, .word 0x48 0x50, .word 0x0 0x5c, .word 0x48 0x68] [.fw] s (manifestStep s) := by
  unfold Machine.manifestStep
  split
  · refine Within.then ?_ (frame_addCause _ _) rfl rfl
    exact Within.refl _ _ _
  · extract_lets x0
    (unfold x0; beta_reduce)
    refine Within.ite ?_ ?_
    · refine Within.ite ?_ ?_
      · refine Within.ite ?_ ?_
        · refine Within.ite ?_ ?_
          · refine Within.then ?_ (frame_revertStep _) rfl rfl
            exact Within.refl _ _ _
          · refine Within.then ?_ (frame_trialStep _) rfl rfl
            refine Within.then ?_ (frame_revertStep _) rfl rfl
            exact Within.refl _ _ _
        · refine Within.then ?_ (frame_verifyStep _) rfl rfl
          refine Within.ite ?_ ?_
          · refine Within.then ?_ (frame_revertStep _) rfl rfl
            exact Within.refl _ _ _
          · refine Within.then ?_ (frame_trialStep _) rfl rfl
            refine Within.then ?_ (frame_revertStep _) rfl rfl
            exact Within.refl _ _ _
      · refine Within.then ?_ (frame_blowLevels _) rfl rfl
        refine Within.ite ?_ ?_
        · refine Within.ite ?_ ?_
          · refine Within.then ?_ (frame_revertStep _) rfl rfl
            exact Within.refl _ _ _
          · refine Within.then ?_ (frame_trialStep _) rfl rfl
            refine Within.then ?_ (frame_revertStep _) rfl rfl
            exact Within.refl _ _ _
        · refine Within.then ?_ (frame_verifyStep _) rfl rfl
          refine Within.ite ?_ ?_
          · refine Within.then ?_ (frame_revertStep _) rfl rfl
            exact Within.refl _ _ _
          · refine Within.then ?_ (frame_trialStep _) rfl rfl
            refine Within.then ?_ (frame_revertStep _) rfl rfl
            exact Within.refl _ _ _
    · refine Within.then ?_ (frame_showSet _) rfl rfl
      refine Within.ite ?_ ?_
      · refine Within.ite ?_ ?_
        · refine Within.ite ?_ ?_
          · refine Within.then ?_ (frame_revertStep _) rfl rfl
            exact Within.refl _ _ _
          · refine Within.then ?_ (frame_trialStep _) rfl rfl
            refine Within.then ?_ (frame_revertStep _) rfl rfl
            exact Within.refl _ _ _
        · refine Within.then ?_ (frame_verifyStep _) rfl rfl
          refine Within.ite ?_ ?_
          · refine Within.then ?_ (frame_revertStep _) rfl rfl
            exact Within.refl _ _ _
          · refine Within.then ?_ (frame_trialStep _) rfl rfl
            refine Within.then ?_ (frame_revertStep _) rfl rfl
            exact Within.refl _ _ _
      · refine Within.then ?_ (frame_blowLevels _) rfl rfl
        refine Within.ite ?_ ?_
        · refine Within.ite ?_ ?_
          · refine Within.then ?_ (frame_revertStep _) rfl rfl
            exact Within.refl _ _ _
          · refine Within.then ?_ (frame_trialStep _) rfl rfl
            refine Within.then ?_ (frame_revertStep _) rfl rfl
            exact Within.refl _ _ _
        · refine Within.then ?_ (frame_verifyStep _) rfl rfl
          refine Within.ite ?_ ?_
          · refine Within.then ?_ (frame_revertStep _) rfl rfl
            exact Within.refl _ _ _
          · refine Within.then ?_ (frame_trialStep _) rfl rfl
            refine Within.then ?_ (frame_revertStep _) rfl rfl
            exact Within.refl _ _ _

theorem frame_migrateCopy (a0 : List Byte) (a1 : Bool) (s : State) :
    Within [.word 0x48 0x64, .word 0x48 0x5c, .word 0x48 0x60, .word 0x48 0x54, .word 0x48 0x58, .word 0x48 0x50] [.fw] s ((migrateCopy a0 a1 s).2) := by
  unfold Machine.migrateCopy
  extract_lets x0 x1 x2 x3
  split
  · dsimp only
    exact Within.refl _ _ _
  · split
    · dsimp only
      exact Within.refl _ _ _
    · split
      · dsimp only
        exact Within.refl _ _ _
      · extract_lets x4 x5
        refine Within.via x5 ?_ (fun h6 => ?_)
        · unfold x5
          refine Within.then ?_ (frame_writeSettings _ _ _) rfl rfl
          refine Within.set_fw ?_ (by decide)
          exact Within.refl _ _ _
        · clear_value x5
          dsimp only
          refine Within.then ?_ (frame_writeAct _ _) rfl rfl
          exact h6

theorem frame_settingsCtrl (a0 : Nat) (a1 : Word) (s : State) :
    Within [.page 0x10, .word 0x8 0x5c, .word 0x9 0x5c, .word 0xa 0x5c, .word 0xb 0x5c, .word 0x8 0x4c, .word 0x9 0x4c, .word 0xa 0x4c, .word 0xb 0x4c, .word 0x8 0x14, .word 0x9 0x14, .word 0xa 0x14, .word 0xb 0x14, .word 0x8 0xc, .word 0x9 0xc, .word 0xa 0xc, .word 0xb 0xc, .word 0x8 0x30, .word 0x9 0x30, .word 0xa 0x30, .word 0xb 0x30, .page 0x31, .word 0xb 0x50, .word 0x8 0x78, .word 0x9 0x78, .word 0xa 0x78, .word 0xb 0x78, .page 0x11, .word a0 0x14, .word a0 0x28, .word a0 0x24, .word a0 0x20, .word a0 0x8, .word a0 0x30, .word a0 0xc] [.spi, .lanes, .fes, .engines, .relief, .poolTest] s (settingsCtrl a0 a1 s) := by
  unfold Machine.settingsCtrl
  split
  · refine Within.after ?_ (frame_reject _ _ _ _ _ _) (amongCons (amongAt 28 rfl) (amongCons (amongAt 29 rfl) (amongCons (amongAt 30 rfl) (amongCons (amongAt 31 rfl) amongNil)))) rfl
    exact Within.refl _ _ _
  · extract_lets x0 x1 x2 x3 x4 x5 x6 x7 x8 x9
    refine Within.via x8 ?_ (fun h10 => ?_)
    · unfold x8
      refine Within.ite ?_ ?_
      · refine Within.wr ?_ (inScopes_at 32 rfl)
        exact Within.refl _ _ _
      · exact Within.refl _ _ _
    · clear_value x8
      refine Within.via x9 ?_ (fun h11 => ?_)
      · unfold x9
        refine Within.wrBool ?_ (inScopes_at 32 rfl)
        exact h10
      · clear_value x9
        refine Within.ite ?_ ?_
        · exact h10
        · refine Within.ite ?_ ?_
          · refine Within.after ?_ (frame_selfTest _ _) (amongCons rfl (amongCons rfl (amongCons rfl (amongCons rfl (amongCons rfl (amongCons rfl (amongCons rfl (amongCons rfl (amongCons rfl (amongCons rfl (amongCons rfl (amongCons rfl (amongCons rfl (amongCons rfl (amongCons rfl (amongCons rfl (amongCons rfl (amongCons rfl (amongCons rfl (amongCons rfl (amongCons rfl (amongCons rfl (amongCons rfl (amongCons rfl (amongCons rfl (amongCons rfl (amongCons rfl (amongCons rfl (amongCons (amongAt 28 rfl) (amongCons (amongAt 33 rfl) (amongCons (amongAt 34 rfl) amongNil))))))))))))))))))))))))))))))) rfl
            exact h11
          · exact h11

theorem frame_supplyClear (a0 : Nat) (a1 : Bool) (s : State) :
    Within [.word 0x2 0x10] [.watch] s (supplyClear a0 a1 s) := by
  unfold Machine.supplyClear
  refine Within.ite ?_ ?_
  · extract_lets x0 x1 x2
    refine Within.via x2 ?_ (fun h3 => ?_)
    · unfold x2
      refine Within.set_watch ?_ (by decide)
      exact Within.refl _ _ _
    · clear_value x2
      refine Within.ite ?_ ?_
      · refine Within.lower ?_ (inScopes_of rfl)
        exact h3
      · exact h3
  · extract_lets x4 x5 x6
    refine Within.via x6 ?_ (fun h7 => ?_)
    · unfold x6
      refine Within.set_watch ?_ (by decide)
      exact Within.refl _ _ _
    · clear_value x6
      refine Within.ite ?_ ?_
      · refine Within.lower ?_ (inScopes_of rfl)
        exact h7
      · exact h7

theorem frame_maskLost (s : State) :
    Within [] [.root] s (maskLost s) := by
  unfold Machine.maskLost
  refine Within.set_root ?_ (by decide)
  exact Within.refl _ _ _

theorem frame_belayLock (a0 : Nat) (s : State) :
    Within [.word 0x4a 0x58, .word 0x5 0x14] [.draws, .rope] s (belayLock a0 s) := by
  unfold Machine.belayLock
  refine Within.ite ?_ ?_
  · exact Within.refl _ _ _
  · extract_lets x0 x1 x2 x3
    refine Within.via x1 ?_ (fun h4 => ?_)
    · unfold x1
      refine Within.then ?_ (frame_setLaneOk _ _ _) rfl rfl
      exact Within.refl _ _ _
    · clear_value x1
      refine Within.via x2 ?_ (fun h5 => ?_)
      · unfold x2
        refine Within.ite ?_ ?_
        · unfold Machine.setRemain
          extract_lets x6 x7
          refine Within.via x7 ?_ (fun h8 => ?_)
          · unfold x7
            refine Within.wrFollow ?_ (by decide)
            exact h4
          · clear_value x7
            refine Within.ite ?_ ?_
            · refine Within.then ?_ (frame_reserveLow _ _) rfl rfl
              exact h8
            · exact h8
        · exact h4
      · clear_value x2
        refine Within.via x3 ?_ (fun h9 => ?_)
        · unfold x3
          refine Within.wr ?_ (inScopes_of rfl)
          exact h5
        · clear_value x3
          refine Within.ite ?_ ?_
          · refine Within.then ?_ (frame_newNonce _) rfl rfl
            exact h9
          · exact h5

theorem frame_State_withFetchWord (s : State) (a1 : Nat) (a2 : Nat) :
    Within [] [] s (State.withFetchWord s a1 a2) := by
  unfold Machine.State.withFetchWord
  split
  · refine Within.pending ?_
    exact Within.refl _ _ _
  · exact Within.refl _ _ _

theorem frame_lastDisp (a0 : Nat) (a1 : Disp) (s : State) :
    Within [.page 0x1b, .word 0x20 0xdc, .word 0x20 0xd8, .word 0x20 0xd4, .word 0x20 0xd0] [.nodes, .ddr] s (lastDisp a0 a1 s) := by
  unfold Machine.lastDisp
  refine Within.then ?_ (frame_nodeStat _ _ _) rfl rfl
  exact Within.refl _ _ _

theorem frame_mirror (a0 : RopeRec) (s : State) :
    Within [] [.rope] s (mirror a0 s) := by
  unfold Machine.mirror
  refine Within.ite ?_ ?_
  · refine Within.then ?_ (frame_sendRecord _ _) rfl rfl
    exact Within.refl _ _ _
  · exact Within.refl _ _ _

theorem frame_ringEnable (a0 : Nat) (s : State) :
    Within [.page 0x41] [.rings, .ddr, .spi] s (ringEnable a0 s) := by
  unfold Machine.ringEnable
  refine Within.ite ?_ ?_
  · exact Within.refl _ _ _
  · refine Within.ite ?_ ?_
    · refine Within.then ?_ (frame_startRing _ _) rfl rfl
      exact Within.refl _ _ _
    · refine Within.then ?_ (frame_reject _ _ _ _ _ _) rfl rfl
      exact Within.refl _ _ _

end Sys2Proof.Machine
end

