-- ==== Sys2Proof/Laws/Commands.lean ====
section
/-! SUPPORT. How a command ends: the frame of the work that waits, and a command's own effect read through what follows it. -/

namespace Sys2Proof.Machine

/-- What follows a command stays within the registers and parts of the work that waits. -/
theorem frame_settleWork (old s : State) : Within airScopes airParts s (settleWork old s) := by
  have a : Within airScopes airParts s (airWork s) :=
    (Within.refl _ _ s).then (frame_airWork s) (by decide) (by decide)
  have m : Within airScopes airParts s (mirrorChanges old (airWork s)) :=
    a.then (frame_mirrorChanges old _) (by decide) (by decide)
  exact ((m.follows (follows_showSlots _)).follows (follows_refreshScan _)).follows (follows_showWork old _)

/-- A field that neither follows other state nor lies in the scopes of the work that waits. -/
theorem rd_settleWork (f : Field) (old s : State) (a : followKey f.key = false) (b : inScopes airScopes f.key = false) :
    rd f (settleWork old s) = rd f s := (frame_settleWork old s).regs f a b

/-- In a calm state every field that does not follow other state keeps what the command gave it. -/
theorem rd_settleWork_calm (f : Field) (old s : State) (h : Calm s = true) (a : followKey f.key = false) :
    rd f (settleWork old s) = rd f s := (follows_calm old s h).regs f a

/-- A command's own effect, and its frame followed by that of the work that waits. -/
theorem Within.settleAir {P : List Scope} {S : List Part} {old s t : State} (h : Within P S s t) :
    Within (P ++ airScopes) (S ++ airParts) s (Machine.settleWork old t) := by
  refine (h.mono (fun x hx => ?_) ?_).trans ((frame_settleWork old t).mono (fun x hx => ?_) ?_)
  · cases x with
    | page pg => simp [Scope.among, hx]
    | word pg off => exact List.any_eq_true.mpr ⟨_, List.mem_append_left _ hx, by simp⟩
  · exact List.all_eq_true.mpr (fun x hx => by simp [hx])
  · cases x with
    | page pg => simp [Scope.among, hx]
    | word pg off => exact List.any_eq_true.mpr ⟨_, List.mem_append_right _ hx, by simp⟩
  · exact List.all_eq_true.mpr (fun x hx => by simp [hx])

/-- A command that ends in `done`. -/
theorem gives_done {c : Instr} {s t : State} {P : State → Prop} (h : exec c s = done s t)
    (k : P { t with pending := s.pending }) : Gives c s P := ⟨_, h, k⟩

end Sys2Proof.Machine
end

