-- ==== Sys2Proof/Tests/Slice0.lean ====
section
/-! SUPPORT. Tests of the model: ill-formed commands that the check of operands refuses, numbers of the spec's examples, and
for every statement of Obligations.lean with hypotheses a state and operands that meet those of each of its clauses. -/

namespace Sys2Proof.Tests
open Sys2Proof.Machine

/-- The part in RUN: every page with a state machine runs and no reset is held. -/
def running : State :=
  fullPages.foldl (fun s pg => wr (F.HEAD.STATE_STATE pg) RUN s)
    (wr F.MGMT.START_STAGE 8 { State.reset with boot := { held := false } })

/-- A life-cycle state. -/
def life (v : Nat) (s : State) : State := wr F.IDENT.LIFECYCLE v (wr F.KEYS.LC_STATE v s)

/-- One lane. -/
def withLane (l : Lane) (s : State) : State := { s with lanes := [(0, l)] }

/-- Front end 0. -/
def withFe (f : Fe) (s : State) : State := { s with fes := [(0, f)] }

/-- Port 0. -/
def withPort (p : Port) (s : State) : State := { s with ports := [(0, p)] }

/-- A member of a rope team. -/
def belay (s : State) : State := { s with rope := { s.rope with member := true } }

/-- A session with the partner. -/
def session (s : State) : State := { s with rope := { s.rope with session := some [] } }

/-- A received data frame of a short address with security. -/
def M0 : Mhr := { version := 2, ftype := .data, pan := some 1, dst := .short 2, src := .short 5, ackReq := false, seq := 0, security := true }
/-- Measured figures. -/
def FG : Figures := { rssi := 0, freq := 0, snr := 0, evm := 0 }
/-- A body without IEs. -/
def BD : Body := { payload := .data [] }
/-- A PUF read-out that reconstructs. -/
def PR : PufRead := { sram0 := some 1, sram1 := some 1, delay := some 1 }
/-- An IPv4 Ethernet frame. -/
def EF : EthFrame := { dst := 1, etherType := 0x0800 }
/-- A frame of 40 octets in a queue. -/
def FR : Frame := { kind := .data, length := 40 }
/-- A Mesh time IE. -/
def MI : MeshIe := { ticks := 0, synced := true, freeRun := false, stratum := 1, priority := 1 }
/-- A delivered packet. -/
def IT : Item := { octets := 40 }
/-- A frame offered to a port. -/
def EG : Egress := { octets := 100 }
/-- A received Ethernet frame in the staging buffer. -/
def ST : Staged := { frame := 1, size := 64, eth := EF, stamp := 0 }
/-- A helper copy. -/
def HL : Helper := { withMask := true, refresh := 0, enrolledAt := 0, block0 := 0, block1 := 1, offset := 0, pairs := 0, ks := 0, kd := 0, kcv := 0, kcvS := 0, kcvD := 0, sram0 := 0, sram1 := 0, delay := 0, tag := 0 }
/-- A CCM or storage cipher job. -/
def JB : Job := { op := 1, slot := 1, gen := 0, key := [], src := 0, dst := 0, aad := 0, len := 0, tag := 0, nonce := 0 }
/-- A key operation that waits for its reservation. -/
def KO : KeyOp := { target := 1, next := {}, parent := none, finger := 0, begun := 0 }
/-- A public-key operation under way. -/
def PO : PkeOp := { op := 1, slot := none, result := 1, out := [] }
/-- A firmware command under way. -/
def FC : FwCmd := { op := 1, octets := [], begun := 0 }
/-- A ring fill under way. -/
def FI : Fill := { slot := 0, count := 1, laps := [0], item := IT }
/-- A reassembly context. -/
def RA : Reasm := { node := 0, tag := 0, size := 0, since := 0, ranges := [], frames := [], proto := IT }
/-- A cairn record in the queue. -/
def CI : CairnItem := { powered := 0, devSec := 0, devMs := 0, kind := 0, flags := 0, lifecycle := 0, data := [] }
/-- A key slot. -/
def SL (attr : BitVec 32) : Slot := { attr := attr, gen := 1, key := List.replicate 32 0 }

/-- An attribute word: ALG, one usage, one master, every life-cycle state, VALID. -/
def att (alg use master : Nat) : BitVec 32 := BitVec.ofNat 32 (alg + 2 ^ use + 2 ^ master + 0x83F00000)

/-- A profile with one entry of one channel at 865.0 MHz. -/
def profile (s : State) : State :=
  [(1, 0x100), (4, 863000), (5, 870000), (6, 865000), (7, 200 + 2 ^ 16 + 2 ^ 24), (8, 100), (9, 1000), (12, 1)].foldl
    (fun s x => wr (F.REGLOCK.PROFILE x.1) x.2 s) (wr F.REGLOCK.STATUS_VALID 1 s)

/-- A signed request in REQ_BUF. -/
def request (op : Nat) (s : State) : State :=
  wr (F.MGMT.REQ_BUF 1) (1 + 256 * op + 0xFFFF0000) (wr (F.MGMT.REQ_BUF 0) 0x43424B5A s)

/-- A VALID node entry. -/
def NV : Node := { core := BitVec.ofNat 256 (2 ^ 152) }

/-- The owner's pin is that of the key in TRUST.PUBKEY. -/
def owned (s : State) : State :=
  { s with root := { s.root with ownerPin := some (Machine.sha384 (regOctets F.BAR4.TRUST_PUBKEY 24 s) % 2 ^ 384) } }

/-- The pin is met. -/
theorem owned_meets (s : State) :
    some (Machine.sha384 (regOctets F.BAR4.TRUST_PUBKEY 24 (owned s)) % 2 ^ 384) = (owned s).root.ownerPin := rfl

/-! ### Commands that no sender can form -/

/-- One ill-formed command for each check of widths, counts and addresses of the plain operands. -/
theorem test_ill_formed_operands :
    ([.vbatCrossing 65536, .vbatMeasurement 65536, .refclkCoarseCheck (2 ^ 32), .refclkFineGate (2 ^ 32),
      .sdsrefMeasurement 1000001, .tempSample 2049 0 0 0, .registerWrite .bar0 33554432 15 0,
      .registerWrite .bar4 65536 15 0, .rcCounterRead .bar0 { addr := 33554432 },
      .rcCounterRead .bar0 { addr := 16777216, more := 1024 }, .rcCounterRead .mgmtSpi { addr := 327680 },
      .ctrlEnable 256 .bar0, .startSequenceDone 0xFF none, .drainComplete 0xFF, .mgmtSpiRead false 0 1025,
      .mgmtSpiWrite false 16777216 [], .mgmtSpiCsRise 32, .synthLock 0 64 0, .settleElapsed 0 4294967297,
      .calibrationDone 0 (2 ^ 32) 0, .windowWrite 0 true (List.replicate 1025 0), .dwellRunClose 0 (2 ^ 32)] :
      List Instr).all (fun c => !c.wellFormed) = true := by decide +kernel

/-- The same for the operands that come from the air and from the ports. -/
theorem test_ill_formed_frames :
    ([.binEnergyUpdate 0 [(4096, 0)], .detection 0 0 65536 0 0 0 0, .detectionReoffer 0 0 0 0 1025 0 0,
      .syncMatch 0 0 0 (33, 0), .phrComplete 0 (.fsk false 2048 true true), .phrComplete 0 (.ofdm true 32 false 0 0),
      .phrComplete 0 (.oqpsk false 128), .phrComplete 0 (.modeSwitch true 256), .mhrComplete 0 { M0 with version := 4 } .good,
      .mhrComplete 0 { M0 with dst := .short 65536 } .good, .mhrComplete 0 { M0 with src := .extended (2 ^ 64) } .good,
      .auxSecurityHeader 0 8 false 0 0 0, .frameVerdict 0 true true { FG with rssi := 1025 } BD,
      .frameVerdict 0 true true FG { BD with ies := [[0]] },
      .frameVerdict 0 true true FG { payload := .data (List.replicate 2048 0) },
      .peerBeacon 0 true true FG [[0]], .ethFrameEnd 0 65536 true false 0 0 EF,
      .ethFrameEnd 0 64 true false 0 0 { EF with dst := 2 ^ 48 }, .sfpIdRead 0 [], .sfpDdmPoll 0 []] :
      List Instr).all (fun c => !c.wellFormed) = true := by decide +kernel

/-- The same for the operands of the host, memory, rope team and start commands. -/
theorem test_ill_formed_rest :
    ([.pcieLink true 16 0 false, .bar2Access (.read 268435456 1) .clean, .bar2Access (.write 268435456 [none]) .clean,
      .copyDone .complete [] 16777216, .copyCplTimeout [] 16777216, .hostTallyWrite 0 4097 [], .ddrTrainingDone true 1 false,
      .flashTimeout 65536, .belayHeartbeatRx 0 0 0 0 0, .belayHello 0 [] 0 0 false,
      .startClocksLocked PR true false 0 7 0 true] : List Instr).all (fun c => !c.wellFormed) = true := by decide

/-- Commands at the ends of their ranges that a sender can form. -/
theorem test_well_formed :
    ([.vbatCrossing 65535, .registerWrite .bar0 33554431 15 0, .rcCounterRead .mgmtSpi { addr := 327679 }, .mhrComplete 0 M0 .good,
      .ddrTrainingDone true 16 true, .belayHello 0 (List.replicate 64 0) 0 5 false, .loneCeilingWait] : List Instr).all
      (fun c => c.wellFormed) = true := by decide

/-! ### Numbers of the spec -/

/-- Airtimes of a 96-octet PSDU (the example under R197). -/
theorem test_airtime_examples :
    airNs 0x12 8 2 96 false = 8640000 ∧ airNs 0x12 8 2 96 true = 16640000 ∧ airNs 0x4B 0 0 96 false = 3480000 ∧
      airNs 0x5A 0 0 96 false = 16920000 := by decide

/-- In-span bins of a band (R152). -/
theorem test_bins_in_span :
    ((List.range 256).filter (fun b => ((b : Int) - 128).natAbs * binSpacing256 0 0 ≤ halfSpan 0 0 * 256)).length = 205 := by
  decide +kernel

/-- The attribute word of the example under R378 is accepted; without a usage it is not (R371). -/
theorem test_attribute_word : attrGood 0x80C10031 = true ∧ attrGood 0x80C10001 = false := by decide

/-- The ceiling of the example under R138: 14.75 - 12.0 dB, rounded down to 2.5 dBm. -/
theorem test_ceiling_example :
    ceilingHalf 0 0 (wr (F.FE.EXT_GAIN 0) 48 (wr (F.REGLOCK.PROFILE 8) (59 + 42 * 65536) (profile running))) = 5 := by
  decide

/-- The code of DROP_TX_PREEMPT (the example of chapter 0). -/
theorem test_disposition_code : Disp.code .dropTxPreempt = 0x14 := by decide

/-- After chunk 0 the chunk of the extended table is filled, 1 GiB on (the example under R521). -/
theorem test_fill_order :
    ((fillChunkDone (wr F.NODE.EXT_BASE_LO 0x40000000 (wr F.DDR.SIZE_GIB 16
      { running with mem := { running.mem with filling := some 0, bases := [0] } }))).mem.filling) = some 16 := by decide

/-- With nothing commanded a nanosecond passes (log entry 1). -/
theorem test_idle_step : (match step State.reset with
    | .next t => t.now
    | _ => 0) = 1 := by decide

/-- A page outside the map stops by name (log entry 39). -/
theorem test_no_such_page : exec (.blockFault 0xFF) running = .fault .noSuchPage := rfl

/-! ### Published vectors of the cryptographic standards -/

/-- The 256-bit example of FIPS 197, appendix C.3. -/
theorem test_aes_256 :
    encryptWith (roundKeys (List.range 32)) ((List.range 16).map (· * 17)) =
      [0x8E, 0xA2, 0xB7, 0xCA, 0x51, 0x67, 0x45, 0xBF, 0xEA, 0xFC, 0x49, 0x90, 0x4B, 0x49, 0x60, 0x89] := by decide +kernel

/-- The one-block message "abc" of FIPS 180-4: its SHA-256 digest, first octet lowest. -/
theorem test_sha_256 : (bytesLe 32 (sha256 [0x61, 0x62, 0x63])).map BitVec.toNat =
    [0xBA, 0x78, 0x16, 0xBF, 0x8F, 0x01, 0xCF, 0xEA, 0x41, 0x41, 0x40, 0xDE, 0x5D, 0xAE, 0x22, 0x23, 0xB0, 0x03, 0x61, 0xA3,
      0x96, 0x17, 0x7A, 0x9C, 0xB4, 0x10, 0xFF, 0x61, 0xF2, 0x00, 0x15, 0xAD] := by decide +kernel

/-- R467: a one-step Sync sent 1.000000005 s after the epoch, with 2^-15 ns of fraction, takes the timestamp into octets 34
to 43 and the fraction into its correctionField; the rest stays. -/
theorem test_one_step_sync :
    rewritten { octets := 44, content := List.replicate 44 0 } { origin := some 1000000005, added := 2 } =
      (List.replicate 15 0 ++ [2] ++ List.replicate 18 0 ++ [0, 0, 0, 0, 0, 1, 0, 0, 0, 5] : List Byte) := by decide

/-! ### The hypotheses of the statements can be met, clause by clause -/

/-- The hypotheses of `Obligations.StepRunsTheFrontCommand`. -/
theorem witness_step_runs_the_front_command :
    (∃ (s : State), s.pending = []) :=
  ⟨running, by decide⟩

/-- The hypotheses of `Obligations.EveryCommandKeepsTheQueue`. -/
theorem witness_every_command_keeps_the_queue :
    (∃ (c : Instr) (s t : State), exec c s = .next t) ∧
    (∃ (c : Instr) (s : State) (f : Fault), exec c s = .fault f) ∧
    (∃ (c : Instr), c.wellFormed = true) :=
  ⟨⟨.loneCeilingWait, running, _, rfl⟩,
   ⟨.startSequenceDone 0xFF none, running, .noSuchPage, rfl⟩,
   ⟨.loneCeilingWait, by decide⟩⟩

/-- The hypotheses of `Obligations.MemoryBytesReadBack`. -/
theorem witness_memory_bytes_read_back :
    (∃ (m : List Host.Cell), Memory.wf m = true) ∧
    (∃ (m : List Host.Cell), Memory.wf m = true) ∧
    (∃ (m : List Host.Cell), Memory.wf m = true) ∧
    (∃ (m : List Host.Cell) (a : Nat) (b : Nat) (n : Nat), Memory.wf m = true ∧ (a + n ≤ b ∨ b + n ≤ a)) ∧
    (∃ m n : List Host.Cell, (Memory.wf m = true ∧ Memory.wf n = true ∧ (∀ x, readByte m x = readByte n x))) :=
  ⟨⟨[], by decide⟩,
   ⟨[], by decide⟩,
   ⟨[], by decide⟩,
   ⟨[], 0, 4, 4, by decide⟩,
   ⟨[(4, 7)], [(4, 7)], by decide, by decide, fun _ => rfl⟩⟩

/-- The hypotheses of `Obligations.EveryStepKeepsTheMemoryForm`. -/
theorem witness_every_step_keeps_the_memory_form :
    (∃ s t : State, (MemoryFormed s ∧ step s = .next t)) :=
  ⟨running, idle running, by unfold MemoryFormed; decide, rfl⟩

/-- The hypotheses of `Obligations.FormedQueuesRunOn`. -/
theorem witness_formed_queues_run_on :
    (∃ s : State, QueueFormed s) :=
  ⟨{ running with pending := [.loneCeilingWait] }, by unfold QueueFormed; decide⟩

/-- The hypotheses of `Obligations.SupplyMonitorActs`. -/
theorem witness_supply_monitor_acts :
    (∃ (rails : BitVec 10), rails ≠ 0) ∧
    (∃ (s : State), s.boot.held = true) :=
  ⟨⟨1, by decide⟩,
   ⟨State.reset, by decide⟩⟩

/-- The hypotheses of `Obligations.ReferencesActs`. -/
theorem witness_references_acts :
    (∃ (s : State), rawSet 0x03 1 s = false ∧ rd F.CLK.XO32K_RATIO_LEARNED s = 1) ∧
    (∃ (count : Nat) (s : State), rawSet 0x03 1 s = false ∧ rd F.CLK.XO32K_RATIO_LEARNED s = 0 ∧ Machine.dist count 40000000
      ≤ 10000) ∧
    (∃ (s : State), s.watch.refclkAbsent = true ∧ s.boot.held = false ∧ resetNow s = false) :=
  ⟨⟨(wr F.CLK.XO32K_RATIO_LEARNED 1 running), by decide⟩,
   ⟨40000000, (wr F.CLK.XO32K_RATIO_LEARNED 0 running), by decide⟩,
   ⟨((fun s => { s with watch := { s.watch with refclkAbsent := true } }) running), by decide⟩⟩

/-- The hypotheses of `Obligations.PllsOnDemand`. -/
theorem witness_plls_on_demand :
    (∃ (pll : Fin 7) (s : State), (look s.plls pll.val {}).phase = .starting ∧ (s.watch.refclkAbsent && corePlls.contains
      pll.val) = false) ∧
    (∃ (pll : Fin 7) (s : State), pllHeld pll.val s = false ∧ (look s.plls pll.val {}).requested = false) ∧
    (∃ (pll : Fin 7) (s : State), (pllHeld pll.val s = true ∨ (look s.plls pll.val {}).requested = true)) ∧
    (∃ (pll : Fin 7) (s : State), (look s.plls pll.val {}).phase = .locked ∧ pllRequested pll.val s = true) ∧
    (∃ (pll : Fin 7) (s : State), (look s.plls pll.val {}).phase = .locked ∧ pllRequested pll.val s = false) :=
  ⟨⟨0, ({ running with plls := [(0, { phase := .starting })] }), by decide⟩,
   ⟨3, running, by decide⟩,
   ⟨1, running, by decide⟩,
   ⟨0, ({ running with plls := [(0, { phase := .locked })] }), by decide⟩,
   ⟨3, ({ running with plls := [(3, { phase := .locked })] }), by decide⟩⟩

/-- The hypotheses of `Obligations.RegisterAccesses`. -/
theorem witness_register_accesses :
    (∃ (bar : Bar) (addr : Nat) (byteEn : BitVec 4) (s : State), bar = .bar0 ∧ addr = 0x4E04C ∧ byteEn = 15 ∧ Calm s = true)
      ∧
    (∃ (bar : Bar) (addr : Nat) (byteEn : BitVec 4) (data : Word) (s : State), bar = .bar0 ∧ isPage (addr / 4096) = true ∧
      addr % 4 = 0 ∧ addr % 4096 ≠ 0x008 ∧ addr % 4096 ≠ 0x01C ∧ byteEn = 15 ∧ refusal (addr / 4096) (addr % 4096) .bar0
      data.toNat s = some .reservedBit ∧ Calm s = true) ∧
    (∃ (bar : Bar) (addr : Nat) (s : State), bar = .bar4 ∧ 0x200 ≤ addr ∧ lockOpen s = false ∧ Calm s = true) ∧
    (∃ (route : Route) (span : ReadSpan), reaches (span.addr / 4096) route = true ∧ span.addr % 4096 = 0x028) ∧
    (∃ (addr : Nat), spiUsable addr = false) ∧
    (∃ (addr : Nat), spiUsable addr = true) ∧
    (∃ (addr : Nat) (data : List Word) (s : State), addr = 0x4E04C ∧ data.length = 1 ∧ Calm s = true) ∧
    (∃ (addr : Nat) (s : State), spiUsable addr = false ∧ Calm s = true) :=
  ⟨⟨(.bar0), 0x4E04C, 15, running, by decide⟩,
   ⟨(.bar0), 0x4E034, 15, 0x10001, running, by decide⟩,
   ⟨.bar4, 0x200, (wr F.BAR4.TRUST_STATUS_OPEN 0 running), by decide⟩,
   ⟨.bar0, ({ addr := 0x28028 }), by decide⟩,
   ⟨2, by decide⟩,
   ⟨0, by decide⟩,
   ⟨0x4E04C, [7], running, by decide⟩,
   ⟨2, running, by decide⟩⟩

/-- The hypotheses of `Obligations.PageControl`. -/
theorem witness_page_control :
    (∃ (pg : Nat) (route : Route) (s : State), reaches pg route = true ∧ pg ∈ fullPages ∧ ctrlRefused pg route 1 s = none ∧
      rd (F.HEAD.CTRL_ENABLE pg) s = 0 ∧ (pageState pg s = OFF ∨ pageState pg s = STOPPED) ∧ Calm s = true) ∧
    (∃ (pg : Nat) (route : Route) (s : State), reaches pg route = true ∧ pg ∈ fullPages ∧ ctrlRefused pg route 1 s = none ∧
      rd (F.HEAD.CTRL_ENABLE pg) s = 0 ∧ pageState pg s = DRAINING ∧ Calm s = true) ∧
    (∃ (pg : Nat) (route : Route) (s : State), reaches pg route = true ∧ pg ∈ fullPages ∧ ctrlRefused pg route 0 s = none ∧
      rd (F.HEAD.CTRL_ENABLE pg) s = 1 ∧ pageState pg s = STARTING ∧ Calm s = true) ∧
    (∃ (pg : Nat) (route : Route) (s : State), reaches pg route = true ∧ pg ∈ fullPages ∧ ctrlRefused pg route 0 s = none ∧
      rd (F.HEAD.CTRL_ENABLE pg) s = 1 ∧ pageState pg s = RUN ∧ Calm s = true) ∧
    (∃ (pg : Nat) (route : Route) (keep : Bool) (s : State), reaches pg route = true ∧ pg ∈ fullPages ∧ ctrlRefused pg route
      (2 + (if keep then enableBit pg s else 0)).toNat s = none ∧ pageState pg s = STARTING ∧ Calm s = true) ∧
    (∃ (pg : Nat) (route : Route) (keep : Bool) (s : State), reaches pg route = true ∧ pg ∈ fullPages ∧ ctrlRefused pg route
      (2 + (if keep then enableBit pg s else 0)).toNat s = none ∧ (pageState pg s = STOPPED ∨ pageState pg s = FAULT) ∧ keep
      = false ∧ Calm s = true) ∧
    (∃ (pg : Nat) (route : Route) (s : State), reaches pg route = true ∧ pg ∈ fullPages ∧ ctrlRefused pg route (4 +
      enableBit pg s).toNat s = none ∧ pageState pg s = STOPPED ∧ Calm s = true) ∧
    (∃ (pg : Nat) (route : Route) (s : State), reaches pg route = true ∧ ctrlRefused pg route (8 + enableBit pg s).toNat s =
      none ∧ Calm s = true) :=
  ⟨⟨0x1B, .bar0, (wr (F.HEAD.STATE_STATE 0x1B) OFF running), by decide⟩,
   ⟨0x1B, .bar0, (wr (F.HEAD.STATE_STATE 0x1B) DRAINING (wr (F.HEAD.CTRL_ENABLE 0x1B) 0 running)), by decide⟩,
   ⟨0x1B, .bar0, (wr (F.HEAD.CTRL_ENABLE 0x1B) 1 (wr (F.HEAD.STATE_STATE 0x1B) STARTING (wr (F.HEAD.CTRL_ENABLE 0x1B) 1
     running))), by decide⟩,
   ⟨0x1B, .bar0, (wr (F.HEAD.CTRL_ENABLE 0x1B) 1 (wr (F.HEAD.STATE_STATE 0x1B) RUN (wr (F.HEAD.CTRL_ENABLE 0x1B) 1
     running))), by decide⟩,
   ⟨0x1B, .bar0, false, (wr (F.HEAD.STATE_STATE 0x1B) STARTING running), by decide⟩,
   ⟨0x1B, .bar0, false, (wr (F.HEAD.STATE_STATE 0x1B) STOPPED running), by decide⟩,
   ⟨0x1B, .bar0, (wr (F.HEAD.STATE_STATE 0x1B) STOPPED running), by decide⟩,
   ⟨0x1B, .bar0, running, by decide⟩⟩

/-- The hypotheses of `Obligations.PageTransitions`. -/
theorem witness_page_transitions :
    (∃ (pg : Nat) (failure : Option Byte) (s : State), isPage pg = true ∧ pageState pg s = STARTING ∧ feOf pg = none ∧ pg ≠
      0x44 ∧ failure = none ∧ Calm s = true) ∧
    (∃ (pg : Nat) (s : State), isPage pg = true ∧ pageState pg s = DRAINING ∧ pageDrained pg s = true ∧ Calm s = true) ∧
    (∃ (pg : Nat) (s : State), isPage pg = true ∧ pageDrained pg s = false ∧ Calm s = true) ∧
    (∃ (pg : Nat) (s : State), isPage pg = true ∧ headOnly pg = false ∧ feOf pg = none ∧ pageState pg s ≠ OFF ∧ pageState pg
      s ≠ RETIRED ∧ pageDrained pg s = true ∧ Calm s = true) ∧
    (∃ (pg : Nat) (s : State), isPage pg = true ∧ pageState pg s = TEST ∧ feOf pg = none ∧ rd (F.HEAD.TEST_STATUS_RESULT pg)
      s = T_RUNNING ∧ Calm s = true) ∧
    (∃ (pg : Nat) (s : State), isPage pg = true ∧ rd (F.HEAD.TEST_STATUS_RESULT pg) s = T_WAITING ∧ pg ≠ 0x31 ∧ Calm s =
      true) :=
  ⟨⟨0x1B, none, (wr (F.HEAD.STATE_STATE 0x1B) STARTING running), by decide⟩,
   ⟨0x1B, (wr (F.HEAD.STATE_STATE 0x1B) DRAINING running), by decide⟩,
   ⟨0x08, (withLane { state := .payload } running), by decide⟩,
   ⟨0x1B, (wr (F.HEAD.STATE_STATE 0x1B) STOPPED (wr (F.HEAD.STATE_STATE 0x1B) RUN (wr (F.HEAD.STATE_STATE 0x1B) RUN
     running))), by decide⟩,
   ⟨0x1B, (wr (F.HEAD.TEST_STATUS_RESULT 0x1B) T_RUNNING (wr (F.HEAD.STATE_STATE 0x1B) TEST running)), by decide⟩,
   ⟨0x1B, (wr (F.HEAD.TEST_STATUS_RESULT 0x1B) T_WAITING running), by decide⟩⟩

/-- The hypotheses of `Obligations.EventPath`. -/
theorem witness_event_path :
    (∃ (pg : Nat) (route : Route) (bits : Word) (s : State), reaches pg route = true ∧ bits.toNat &&& pageEventBits pg =
      bits.toNat ∧ early pg s = false ∧ spiReadOnly pg route = false) ∧
    (∃ (vec : Fin 32) (s : State), s.msix.merged.getLsbD vec.val = false) ∧
    (∃ (vec : Fin 32) (s : State), s.msix.merged.getLsbD vec.val = true ∧ vecStatus vec.val s = true ∧ s.msix.enabled = true
      ∧ vecMasked vec.val s = false) ∧
    (∃ (vec : Option (Fin 32)) (s : State), s.msix.enabled = true ∧ s.msix.link = true ∧ s.msix.master = true ∧
      (s.msix.funcMask = false ∨ vec = none)) ∧
    (∃ (group : Fin 8) (bits : Word) (s : State), Accepted 0x04 (0x0A0 + 4 * group.val) bits.toNat s) :=
  ⟨⟨0x1B, .bar0, 0, running, by decide⟩,
   ⟨0, running, by decide⟩,
   ⟨0, (wr (F.EVT.ROUTE_VECTOR 29) 0 (wr (F.EVT.ROUTE_TO_MSIX 29) 1 (wr (F.HEAD.EVT_MASK 1) (2 ^ 29) (wr (F.HEAD.EVT_LATCH
     1) (2 ^ 29) ((fun s =>
     { s with msix := { s.msix with merged := 1, enabled := true, vecMask := 0, link := true, master := true } }) ((fun s =>
     { s with msix := { s.msix with merged := 1, enabled := true, vecMask := 0 } }) running)))))), by decide⟩,
   ⟨none, ((fun s => { s with msix := { s.msix with enabled := true, link := true, master := true } }) running), by decide⟩,
   ⟨0, 0, running, by decide⟩⟩

/-- The hypotheses of `Obligations.ManagementPorts`. -/
theorem witness_management_ports :
    (∃ (partialBits : Nat) (s : State), s.spi.active = true ∧ s.spi.writing = true ∧ partialBits % 32 ≠ 0) ∧
    (∃ (s : State), s.spi.writing = false) ∧
    (∃ (data : Word) (s : State), data.toNat / 512 % 128 = 0 ∧ rd F.MGMT.I2C1_STATUS_BUSY s = 0) ∧
    (∃ (s : State), s.i2c.running.isSome = true) ∧
    (∃ (s : State), s.i2c.running.isSome = true) :=
  ⟨⟨1, ({ running with spi := { active := true, writing := true } }), by decide⟩,
   ⟨running, by decide⟩,
   ⟨0, (wr F.MGMT.I2C1_STATUS_BUSY 0 running), by decide⟩,
   ⟨({ running with i2c := { running := some 0 } }), by decide⟩,
   ⟨({ running with i2c := { running := some 0 } }), by decide⟩⟩

/-- The hypotheses of `Obligations.FrontEndTuning`. -/
theorem witness_front_end_tuning :
    (∃ (fn : Fin 4) (s : State), Accepted (0x08 + fn.val) 0x048 1 s ∧ pageState (fePage fn.val) s = RUN ∧ rd
      (F.FE.RF_STATE_RETUNE_PENDING fn.val) s = 0 ∧ calibrating fn.val s = false ∧ inRelief fn.val s = false ∧ Calm s =
      true) ∧
    (∃ (fn : Fin 4) (s : State), rd (F.FE.RF_STATE_RETUNE_PENDING fn.val) s = 1 ∧ rf fn.val s = RF_RX ∧ (fe fn.val s).todo =
      [] ∧ pageState (fePage fn.val) s = RUN ∧ Calm (wr (F.FE.RF_STATE_RETUNE_PENDING fn.val) 0 s) = true) ∧
    (∃ (fn : Fin 4) (lockUs : Nat) (s : State), rf fn.val s = RF_SYNTH_CAL ∧ lockUs ≤ 38 ∧ s.watch.refclkAbsent = false ∧
      Calm s = true) ∧
    (∃ (fn : Fin 4) (errorHz : Int) (s : State), rf fn.val s = RF_SETTLE ∧ errorHz.natAbs ≤ 100 ∧ s.watch.refclkAbsent =
      false ∧ (fe fn.val s).todo = [] ∧ (fe fn.val s).failed = [] ∧ s.relief = none ∧ Calm s = true) ∧
    (∃ (fn : Fin 4) (s : State), 2 ≤ (fe fn.val s).lockTries ∧ pageState (fePage fn.val) s ≠ FAULT ∧ (rf fn.val s =
      RF_SYNTH_CAL ∨ rf fn.val s = RF_SETTLE)) ∧
    (∃ (fn : Fin 4) (s : State), (fe fn.val s).lockTries < 2 ∧ Calm s = true ∧ (rf fn.val s = RF_SYNTH_CAL ∨ rf fn.val s =
      RF_SETTLE)) ∧
    (∃ (fn : Fin 4) (s : State), rf fn.val s = RF_RX ∧ Calm s = true ∧ (fe fn.val s).tx = none) :=
  ⟨⟨0, (wr (F.FE.RF_STATE_RETUNE_PENDING 0) 0 (wr (F.HEAD.STATE_STATE (fePage 0)) RUN running)), by decide⟩,
   ⟨0, (wr (F.FE.RF_STATE_STATE 0) RF_RX (wr (F.HEAD.STATE_STATE (fePage 0)) RUN (wr (F.FE.RF_STATE_STATE 0) RF_RX (wr
     (F.FE.RF_STATE_RETUNE_PENDING 0) 1 running)))), by decide⟩,
   ⟨0, 0, (wr (F.FE.RF_STATE_STATE 0) RF_SYNTH_CAL running), by decide⟩,
   ⟨0, 0, (wr (F.FE.RF_STATE_STATE 0) RF_SETTLE running), by decide⟩,
   ⟨0, (wr (F.FE.RF_STATE_STATE 0) RF_SYNTH_CAL (withFe { lockTries := 2 } (withFe { lockTries := 2 } (wr
     (F.HEAD.STATE_STATE (fePage 0)) RUN running)))), by decide⟩,
   ⟨0, (withFe { lockTries := 0 } (wr (F.FE.RF_STATE_STATE 0) RF_SYNTH_CAL (withFe { lockTries := 2 } running))), by
     decide⟩,
   ⟨0, (wr (F.FE.RF_STATE_STATE 0) RF_RX running), by decide⟩⟩

/-- The hypotheses of `Obligations.FrontEndCalibration`. -/
theorem witness_front_end_calibration :
    (∃ (fn : Fin 4) (s : State), 80 < (rdInt (F.PWR.TEMP_VALUE 0) s - rdInt (F.FE.CAL_TEMP fn.val) s).natAbs ∧ fn.val ≠ 3 ∧
      pageState (fePage fn.val) s = RUN ∧ inBivouac s = false ∧ fe3Free s = false) ∧
    (∃ (fn : Fin 4) (s : State), (rdInt (F.PWR.TEMP_VALUE 0) s - rdInt (F.FE.CAL_TEMP fn.val) s).natAbs ≤ 80 ∧ Calm s =
      true) ∧
    (∃ (fn : Fin 4) (s : State), fn.val ≠ 3 ∧ pageState (fePage fn.val) s = RUN ∧ inBivouac s = false ∧ fe3Free s = false) ∧
    (∃ (fn : Fin 4) (measured : Nat) (second : Nat) (s : State), rf fn.val s = RF_CAL ∧ (fe fn.val s).todo.head? = some .dc
      ∧ measured ≤ 16 ∧ second ≤ 16 ∧ Calm s = true) ∧
    (∃ (fn : Fin 4) (measured : Nat) (s : State), rf fn.val s = RF_CAL ∧ (fe fn.val s).todo.head? = some .iq ∧ measured <
      160 ∧ (fe fn.val s).second = false ∧ Calm s = true) ∧
    (∃ (fn : Fin 4) (s : State), (fe fn.val s).failed ≠ [] ∧ pageState (fePage fn.val) s = RUN ∧ fn.val ≠ 3 ∧ fe3Free s =
      false ∧ inBivouac s = false ∧ s.reliefQueue.any (fun r => r.k == fn.val && r.why == .retry) = false ∧ Calm s = true) ∧
    (∃ (fn : Fin 4) (s : State), (rd (F.FE.CAL_STATUS_DEFER_TEMP fn.val) s ≠ 0 ∨ rd (F.FE.CAL_STATUS_DEFER_IQ fn.val) s ≠ 0)
      ∧ rd (F.FE.CAL_STATUS_OVERDUE fn.val) s = 0) ∧
    (∃ (fn : Fin 4) (s : State), Accepted (0x08 + fn.val) 0x074 1 s ∧ feRequestOpen fn.val s = false ∧ fe3Free s = false ∧
      Calm s = true) ∧
    (∃ (fn : Fin 4) (s : State), Accepted (0x08 + fn.val) 0x074 2 s ∧ feRequestOpen fn.val s = false ∧ fe3Free s = false ∧
      Calm s = true) ∧
    (∃ (fn : Fin 4) (s : State), Accepted (0x08 + fn.val) 0x074 4 s ∧ feRequestOpen fn.val s = false ∧ fe3Free s = false ∧
      Calm s = true) ∧
    (∃ (fn : Fin 4) (s : State), Accepted (0x08 + fn.val) 0x074 8 s ∧ feRequestOpen fn.val s = false ∧ fe3Free s = false ∧
      Calm s = true) ∧
    (∃ (fn : Fin 4) (s : State), Accepted (0x08 + fn.val) 0x074 16 s ∧ feRequestOpen fn.val s = false ∧ fe3Free s = false ∧
      Calm s = true) :=
  ⟨⟨0, (wr (F.FE.CAL_TEMP 0) 500 (wr (F.HEAD.STATE_STATE (fePage 0)) RUN running)), by decide⟩,
   ⟨0, running, by decide⟩,
   ⟨0, (wr (F.HEAD.STATE_STATE (fePage 0)) RUN running), by decide⟩,
   ⟨0, 0, 0, (withFe { todo := [.dc] } (wr (F.FE.RF_STATE_STATE 0) RF_CAL running)), by decide⟩,
   ⟨0, 0, (withFe { todo := [.iq] } (wr (F.FE.RF_STATE_STATE 0) RF_CAL running)), by decide⟩,
   ⟨0, (withFe { failed := [.dc] } (wr (F.HEAD.STATE_STATE (fePage 0)) RUN running)), by decide⟩,
   ⟨0, (wr (F.FE.CAL_STATUS_DEFER_IQ 0) 1 (wr (F.FE.CAL_STATUS_OVERDUE 0) 0 running)), by decide⟩,
   ⟨0, running, by decide⟩,
   ⟨0, running, by decide⟩,
   ⟨0, running, by decide⟩,
   ⟨0, running, by decide⟩,
   ⟨0, running, by decide⟩⟩

/-- The hypotheses of `Obligations.ReliefAndRoles`. -/
theorem witness_relief_and_roles :
    (∃ (s : State), s.relief.map (fun r => r.stage) = some .filling ∧ ((s.relief.map (fun r => r.k)).getD 0) < 3 ∧ rf
      ((s.relief.map (fun r => r.k)).getD 0) s = RF_RX ∧ rf 3 s = RF_RX ∧ pageState (fePage ((s.relief.map (fun r =>
      r.k)).getD 0)) s = RUN ∧ Calm s = true) ∧
    (∃ (s : State), s.relief.map (fun r => r.stage) = some .relieving ∧ ((s.relief.map (fun r => r.k)).getD 0) < 3 ∧ anyLane
      (fun l => l.physical == ((s.relief.map (fun r => r.k)).getD 0)) s = false ∧ pageState (fePage ((s.relief.map (fun r =>
      r.k)).getD 0)) s = RUN ∧ Calm s = true) ∧
    (∃ (s : State), s.relief.map (fun r => r.stage) = some .refilling ∧ ((s.relief.map (fun r => r.k)).getD 0) < 3 ∧ sending
      3 s = false ∧ rf 3 s ≠ RF_TX_RX ∧ Calm s = true) ∧
    (∃ (s : State), s.relief.map (fun r => r.stage) = some .finishing ∧ anyLane (fun l => l.physical == 3) s = false ∧ Calm
      s = true) ∧
    (∃ (s : State), Accepted 0x0B 0x050 0 s ∧ role s ≠ 0 ∧ role s ≠ 4 ∧ s.relief = none ∧ Calm s = true) ∧
    (∃ (s : State), Accepted 0x0B 0x050 1 s ∧ role s = 0 ∧ Calm s = true) ∧
    (∃ (k : Fin 4) (s : State), Accepted 0x0B 0x050 (2 + 16 * k.val) s ∧ role s = 0 ∧ k.val < 3 ∧ roleAllowed 2 k.val s =
      true ∧ Calm s = true) ∧
    (∃ (k : Fin 4) (s : State), Accepted 0x0B 0x050 (3 + 16 * k.val) s ∧ role s = 0 ∧ k.val < 3 ∧ roleAllowed 3 k.val s =
      true ∧ Calm s = true) ∧
    (∃ (s : State), listensThrough (roleFor s) s = true ∧ inTurn (roleFor s) s = true) ∧
    (∃ (s : State), Accepted 0x0B 0x09C (rd (F.FE.LT_ISOLATION_DB 3) s + rd (F.FE.LT_GAIN_DB 3) s * 2 ^ 8 + 2 ^ 17) s) ∧
    (∃ (s : State) (r : Relief), s.relief = some r ∧ r.stage = .relieving ∧ r.k < 3 ∧ anyLane (fun l => l.physical == r.k) s
      = false ∧ pageState (fePage r.k) s ≠ RUN ∧ Calm s = true) :=
  ⟨⟨(wr (F.FE.RF_STATE_STATE 3) RF_RX (wr (F.FE.RF_STATE_STATE 0) RF_RX
    ({ running with relief := some { k := 0, cals := [], why := .request, stage := .filling } }))), by decide⟩,
   ⟨({ running with relief := some { k := 0, cals := [], why := .request, stage := .relieving } }), by decide⟩,
   ⟨({ running with relief := some { k := 0, cals := [], why := .request, stage := .refilling } }), by decide⟩,
   ⟨({ running with relief := some { k := 0, cals := [], why := .request, stage := .finishing } }), by decide⟩,
   ⟨(wr (F.FE.ROLE_MODE 3) 1 running), by decide⟩,
   ⟨running, by decide⟩,
   ⟨0, (wr (F.HEAD.STATE_STATE 0x08) STOPPED running), by decide⟩,
   ⟨0, running, by decide⟩,
   ⟨(wr (F.FE.RF_STATE_STATE 0) RF_TX (wr (F.FE.ROLE_MODE 3) 3 (wr (F.FE.RF_STATE_STATE 0) RF_TX (wr (F.FE.ROLE_MODE 3) 3
     running)))), by decide⟩,
   ⟨running, by decide⟩,
   ⟨(wr (F.HEAD.STATE_STATE 8) 3
     ({ running with relief := some { k := 0, cals := [], why := .request, stage := .relieving } })),
     ({ k := 0, cals := [], why := .request, stage := .relieving }), by decide⟩⟩

/-- The hypotheses of `Obligations.TransmissionPath`. -/
theorem witness_transmission_path :
    (∃ (fn : Fin 4) (s : State), (fe fn.val s).tx.isSome = true ∧ rf fn.val s = RF_RX_TX ∧ Calm s = true) ∧
    (∃ (fn : Fin 4) (s : State), (fe fn.val s).tx.isSome = true ∧ rf fn.val s = RF_TX ∧ Calm s = true) ∧
    (∃ (fn : Fin 4) (s : State), rf fn.val s = RF_TX_RX ∧ pageState (fePage fn.val) s = RUN ∧ listensThrough fn.val s =
      false ∧ (fe fn.val s).after ≠ some RF_SYNTH_CAL ∧ Calm s = true) ∧
    (∃ (fn : Fin 4) (s : State), (fe fn.val s).tx.isSome = true ∧ rf fn.val s = RF_TX ∧ Calm s = true) ∧
    (∃ (fn : Fin 4) (gntLevel : Bool) (s : State),
      (match (fe fn.val s).tx with | some x => (match x.what with | .ack _ _ _ => true | _ => false) | none => false) = true ∧ grants fn.val gntLevel s = false ∧ rd (F.COEX.CFG_ENABLE fn.val) s ≠ 0 ∧ pageState 0x0D s = RUN ∧ rf fn.val s = RF_RX_TX ∧ Calm s = true) ∧
    (∃ (fn : Fin 4) (gntLevel : Bool) (s : State), grants fn.val gntLevel s = true ∧ Calm s = true) ∧
    (∃ (s : State), Calm s = true) ∧
    (∃ (fn : Fin 4) (s : State), (committedFrame (logicalOf fn.val s) s).isSome = true ∧ (fe fn.val s).gnt = false ∧ reqUp
      fn.val s = true) ∧
    (∃ (fn : Fin 4) (s : State), rd (F.COEX.CFG_ENABLE fn.val) s ≠ 0 ∧ pageState 0x0D s = RUN ∧ sending fn.val s = true ∧
      (fe fn.val s).tx.isSome = true) ∧
    (∃ (s : State), Accepted 0x0C 0x058 1 s ∧ (rd F.KEYS.LC_STATE s = 1 ∨ rd F.KEYS.LC_STATE s = 2) ∧ rd
      F.REGLOCK.STATUS_PROGRAMMED s ≠ 15 ∧ rd F.REGLOCK.STATUS_PROG_STATE s ≠ 1 ∧ Calm s = true) ∧
    (∃ (s : State), rd F.REGLOCK.STATUS_PROG_STATE s = 1 ∧ (List.range 4).any (fun b => (find s.banks b).isNone) = true) ∧
    (∃ (fn : Fin 4) (s : State), rf fn.val s = RF_TX_RX ∧ pageState (fePage fn.val) s = RUN ∧ (fe fn.val s).after = some
      RF_SYNTH_CAL ∧ (fe fn.val s).todo = [] ∧ Calm s = true) :=
  ⟨⟨0, (withFe { tx := some { what := .scheduled 1, logical := 0, mode := 0, hz := 0, airNs := 0, entry := 0 } } (wr
    (F.FE.RF_STATE_STATE 0) RF_RX_TX running)), by decide⟩,
   ⟨0, (withFe { tx := some { what := .scheduled 1, logical := 0, mode := 0, hz := 0, airNs := 0, entry := 0 } } (wr
     (F.FE.RF_STATE_STATE 0) RF_TX running)), by decide⟩,
   ⟨0, (wr (F.HEAD.STATE_STATE (fePage 0)) RUN (wr (F.FE.RF_STATE_STATE 0) RF_TX_RX running)), by decide⟩,
   ⟨0, (withFe { tx := some { what := .scheduled 1, logical := 0, mode := 0, hz := 0, airNs := 0, entry := 0 } } (wr
     (F.FE.RF_STATE_STATE 0) RF_TX running)), by decide⟩,
   ⟨0, false, (wr (F.COEX.CFG_ENABLE 0) 1 (withFe
     { tx := some { what := .ack none false false, logical := 0, mode := 0, hz := 0, airNs := 0, entry := 0 } } (wr
     (F.FE.RF_STATE_STATE 0) RF_RX_TX (wr (F.HEAD.STATE_STATE 0x0D) RUN (wr (F.COEX.CFG_ENABLE 0) 1 running))))), by
     decide⟩,
   ⟨0, true, running, by decide⟩,
   ⟨running, by decide⟩,
   ⟨0, ({ (withFe { gnt := false, req := true } running) with frames := [(1, { FR with place := .committed 0 .none })] }),
     by decide⟩,
   ⟨0, (wr (F.FE.RF_STATE_STATE 0) RF_TX (wr (F.COEX.CFG_ENABLE 0) 1 (withFe
     { tx := some { what := .ack none false false, logical := 0, mode := 0, hz := 0, airNs := 0, entry := 0 } } (wr
     (F.HEAD.STATE_STATE 0x0D) RUN (wr (F.COEX.CFG_ENABLE 0) 1 running))))), by decide⟩,
   ⟨(life 1 (wr F.KEYS.LC_STATE 1 running)), by decide⟩,
   ⟨(wr F.REGLOCK.STATUS_PROG_STATE 1 (wr F.REGLOCK.STATUS_PROG_STATE 1 running)), by decide⟩,
   ⟨0, (withFe { after := some RF_SYNTH_CAL } (wr (F.HEAD.STATE_STATE (fePage 0)) RUN (wr (F.FE.RF_STATE_STATE 0) RF_TX_RX
     running))), by decide⟩⟩

/-- The hypotheses of `Obligations.DetectionBindsALane`. -/
theorem witness_detection_binds_a_lane :
    (∃ (fn : Fin 4) (set : Fin 8) (channel : Nat) (metric : Nat) (s : State) (i : Nat) (e : Nat) (fl : Nat), searches fn.val
      s = true ∧ channelMeets (logicalOf fn.val s) set.val channel fn.val s = true ∧ rd (F.CHAN.LISTEN_DETECT_CORR_MIN
      (logicalOf fn.val s) set.val) s ≤ metric ∧ guardedChannel fn.val (channelHz (logicalOf fn.val s) set.val channel s) s
      = false ∧ energyNow fn.val (channelHz (logicalOf fn.val s) set.val channel s) (rd (F.CHAN.LISTEN_RASTER_SPACING_KHZ
      (logicalOf fn.val s) set.val) s * 1000) s = some e ∧ channelFloor fn.val (channelHz (logicalOf fn.val s) set.val
      channel s) (rd (F.CHAN.LISTEN_RASTER_SPACING_KHZ (logicalOf fn.val s) set.val) s * 1000) s = some fl ∧ fl * linear (4
      * rdInt (F.CHAN.LISTEN_DETECT_SNR_MIN (logicalOf fn.val s) set.val) s) / 10 ^ 40 ≤ e * 10 ^ 12 ∧ (fe fn.val s).offerUs
      ≠ s.now / 1000 ∧ lanesOn (logicalOf fn.val s) (channelHz (logicalOf fn.val s) set.val channel s) (rd
      (F.CHAN.LISTEN_RASTER_SPACING_KHZ (logicalOf fn.val s) set.val) s * 1000) s = [] ∧ pageState 0x11 s = RUN ∧ mayBind
      (logicalOf fn.val s) s = true ∧ longestIdle s = some i ∧ Calm s = true) ∧
    (∃ (fn : Fin 4) (set : Fin 8) (channel : Nat) (metric : Nat) (s : State) (i : Nat) (e : Nat) (fl : Nat), searches fn.val
      s = true ∧ channelMeets (logicalOf fn.val s) set.val channel fn.val s = true ∧ rd (F.CHAN.LISTEN_DETECT_CORR_MIN
      (logicalOf fn.val s) set.val) s ≤ metric ∧ guardedChannel fn.val (channelHz (logicalOf fn.val s) set.val channel s) s
      = false ∧ energyNow fn.val (channelHz (logicalOf fn.val s) set.val channel s) (rd (F.CHAN.LISTEN_RASTER_SPACING_KHZ
      (logicalOf fn.val s) set.val) s * 1000) s = some e ∧ channelFloor fn.val (channelHz (logicalOf fn.val s) set.val
      channel s) (rd (F.CHAN.LISTEN_RASTER_SPACING_KHZ (logicalOf fn.val s) set.val) s * 1000) s = some fl ∧ fl * linear (4
      * rdInt (F.CHAN.LISTEN_DETECT_SNR_MIN (logicalOf fn.val s) set.val) s) / 10 ^ 40 ≤ e * 10 ^ 12 ∧ (fe fn.val s).offerUs
      ≠ s.now / 1000 ∧ lanesOn (logicalOf fn.val s) (channelHz (logicalOf fn.val s) set.val channel s) (rd
      (F.CHAN.LISTEN_RASTER_SPACING_KHZ (logicalOf fn.val s) set.val) s * 1000) s = [] ∧ pageState 0x11 s = RUN ∧ mayBind
      (logicalOf fn.val s) s = true ∧ longestIdle s = some i ∧ Calm s = true) ∧
    (∃ (fn : Fin 4) (s : State), searches fn.val s = false ∧ Calm s = true) ∧
    (∃ (fn : Fin 4) (s : State), rf fn.val s ≠ RF_RX ∧ rf fn.val s ≠ RF_RELIEVED) ∧
    (∃ (fn : Fin 4) (bins : List (Nat × Int)) (s : State) (v : Int), rf fn.val s = RF_RX ∧ (fe fn.val s).since + 128000 ≤
      s.now ∧ bins = [(128, v)] ∧ -32768 ≤ v ∧ v < 32768) :=
  ⟨⟨0, 0, 0, 10000, (wr (F.CHAN.LISTEN_CH0_HZ 0 0) 865000000 (wr (F.CHAN.LISTEN_RASTER_SPACING_KHZ 0 0) 200 (wr
    (F.CHAN.LISTEN_RASTER_COUNT 0 0) 1 (wr (F.CHAN.LISTEN_CFG_MODE 0 0) 0x10 (wr (F.CHAN.LISTEN_CFG_ENABLE 0 0) 1 (wr
    F.CHAN.DETECT_EN 1 (wr (F.FE.RF_STATE_STATE 0) RF_RX
    ({ (withFe { centre := 865000000, energy := [{ time := 900000, bins := ((List.range 256).map (fun b => (b, -100))) }] } (wr (F.HEAD.STATE_STATE 0x11) RUN running)) with now := 1000000 })))))))),
    0, 100000000000000000000000000000000000000000000000, 100000000000000000000000000000000000000000000000, by
    decide +kernel⟩,
   ⟨0, 0, 0, 10000, (wr (F.CHAN.LISTEN_CH0_HZ 0 0) 865000000 (wr (F.CHAN.LISTEN_RASTER_SPACING_KHZ 0 0) 200 (wr
     (F.CHAN.LISTEN_RASTER_COUNT 0 0) 1 (wr (F.CHAN.LISTEN_CFG_MODE 0 0) 0x10 (wr (F.CHAN.LISTEN_CFG_ENABLE 0 0) 1 (wr
     F.CHAN.DETECT_EN 1 (wr (F.FE.RF_STATE_STATE 0) RF_RX
     ({ (withFe { centre := 865000000, energy := [{ time := 900000, bins := ((List.range 256).map (fun b => (b, -100))) }] } (wr (F.HEAD.STATE_STATE 0x11) RUN running)) with now := 1000000 })))))))),
     0, 100000000000000000000000000000000000000000000000, 100000000000000000000000000000000000000000000000, by
     decide +kernel⟩,
   ⟨0, running, by decide⟩,
   ⟨0, (wr (F.FE.RF_STATE_STATE 0) RF_TX running), by decide⟩,
   ⟨0, [(128,0)], ({ (wr (F.FE.RF_STATE_STATE 0) RF_RX running) with now := 200000 }), 0, by decide⟩⟩

/-- The hypotheses of `Obligations.LaneReception`. -/
theorem witness_lane_reception :
    (∃ (li : Fin 136) (s : State), (lane li.val s).state = .waking ∧ Calm s = true) ∧
    (∃ (li : Fin 136) (s : State), (lane li.val s).state = .search ∧ (lane li.val s).freeing = none ∧ (lane li.val
      s).gapUntil ≤ s.now ∧ Calm s = true) ∧
    (∃ (li : Fin 136) (s : State), (lane li.val s).state = .search ∧ (lane li.val s).freeing = none ∧ Calm s = true) ∧
    (∃ (li : Fin 136) (last : BitVec 32) (s : State) (h : SyncHit), (lane li.val s).state = .search ∧ isFsk (lane li.val
      s).mode = true ∧ bestHit (syncHits (lane li.val s) last.toNat) = some h ∧ Calm s = true) ∧
    (∃ (li : Fin 136) (phr : Phr) (s : State) (len : Nat) (w : Bool), (lane li.val s).state = .header ∧ isFsk (lane li.val
      s).mode = true ∧ phr = .fsk false len true w ∧ 4 ≤ len ∧ (lane li.val s).captors.contains li.val = false ∧ Calm s =
      true) ∧
    (∃ (li : Fin 136) (phr : Phr) (s : State) (len : Nat) (f : Bool) (w : Bool), (lane li.val s).state = .header ∧ (lane
      li.val s).freeing = none ∧ isFsk (lane li.val s).mode = true ∧ phr = .fsk true len f w ∧ (lane li.val s).logical < 4 ∧
      Calm s = true) ∧
    (∃ (li : Fin 136) (s : State), (lane li.val s).state = .payload ∧ Calm s = true) ∧
    (∃ (li : Fin 136) (s : State), ((lane li.val s).state = .payload ∨ (lane li.val s).state = .ending) ∧ (lane li.val
      s).fifo < 64 ∧ Calm s = true) ∧
    (∃ (li : Fin 136) (s : State), ((lane li.val s).state = .payload ∨ (lane li.val s).state = .ending) ∧ 64 ≤ (lane li.val
      s).fifo ∧ (lane li.val s).freeing = none ∧ bufferFull s = true ∧ Calm s = true) ∧
    (∃ (li : Fin 136) (residualHz : Int) (s : State), (lane li.val s).state = .search ∧ modeFamily (lane li.val s).mode =
      some .ofdm ∧ residualHz.natAbs ≤ 40000 ∧ Calm s = true) ∧
    (∃ (li : Fin 136) (residualHz : Int) (s : State), (lane li.val s).state = .search ∧ (lane li.val s).freeing = none ∧
      modeFamily (lane li.val s).mode = some .ofdm ∧ 40000 < residualHz.natAbs ∧ Calm s = true) ∧
    (∃ (li : Fin 136) (sfdErrors : Nat × Nat) (s : State), (lane li.val s).state = .search ∧ modeFamily (lane li.val s).mode
      = some .oqpsk ∧ sfdErrors.1 ≤ 8 ∧ sfdErrors.2 ≤ 8 ∧ Calm s = true) ∧
    (∃ (li : Fin 136) (last : BitVec 32) (s : State), isFsk (lane li.val s).mode = true ∧ bestHit (syncHits (lane li.val s)
      last.toNat) = none ∧ Calm s = true) :=
  ⟨⟨0, (withLane { state := .waking } running), by decide⟩,
   ⟨0, (withLane { state := .search } running), by decide⟩,
   ⟨0, (withLane { state := .search } running), by decide⟩,
   ⟨0, (BitVec.ofNat 32 (sfdWord 0 false * 65536)), (withLane { state := .search, mode := 0x10 } (withLane
     { state := .search } running)), { coded := false, ext := false, errors := 0 }, by decide⟩,
   ⟨0, (.fsk false 10 true false), (withLane { state := .header, mode := 0x10 } (withLane { state := .header } running)),
     10, false, by decide⟩,
   ⟨0, (.fsk true 10 false false), (withLane { state := .header, mode := 0x10 } (withLane { state := .header } running)),
     10, false, false, by decide⟩,
   ⟨0, (withLane { state := .payload } running), by decide⟩,
   ⟨0, (withLane { state := .payload } running), by decide⟩,
   ⟨0,
     ({ (withLane { state := .payload, fifo := 64, octets := 6291520 } (withLane { state := .payload, fifo := 64 } running)) with frames := [(1, { FR with length := 6291456 })] }),
     by decide⟩,
   ⟨0, 0, (withLane { state := .search, mode := 0x40 } running), by decide⟩,
   ⟨0, 50000, (withLane { state := .search, mode := 0x40 } running), by decide⟩,
   ⟨0, (0, 0), (withLane { state := .search, mode := 0x60 } running), by decide⟩,
   ⟨0, 0, (withLane { state := .search, mode := 0x10 } running), by decide⟩⟩

/-- The hypotheses of `Obligations.LaneFaultsAndGain`. -/
theorem witness_lane_faults_and_gain :
    (∃ (li : Fin 136) (s : State) (r : Nat), (lane li.val s).inService = true ∧ lowestReserve s = some r ∧ s.laneDebt = [] ∧
      Calm s = true ∧ laneStuck li.val s = true) ∧
    (∃ (li : Fin 136) (s : State) (r : Nat), (lane li.val s).inService = true ∧ lowestReserve s = some r ∧ s.laneDebt = [] ∧
      Calm s = true) ∧
    (∃ (li : Fin 136) (s : State), (lane li.val s).state = .test ∧ Calm s = true) ∧
    (∃ (li : Fin 136) (s : State), (lane li.val s).state = .idle ∧ (lane li.val s).freeing = none ∧ (idleLanes s).length < 9
      ∧ Calm s = true) ∧
    (∃ (li : Fin 136) (s : State), (lane li.val s).state = .idle ∧ (lane li.val s).freeing = none ∧ 9 ≤ (idleLanes s).length
      ∧ Calm s = true) ∧
    (∃ (fn : Fin 4) (s : State), anyReading fn.val s = false ∧ gainHeld fn.val s = false ∧ rd (F.CHAN.GAIN_NOW_INDEX fn.val)
      s < 7 ∧ ((fe fn.val s).stepAt = 0 ∨ (fe fn.val s).stepAt + 2000 ≤ s.now) ∧ Calm s = true) ∧
    (∃ (fn : Fin 4) (s : State), anyReading fn.val s = false ∧ gainHeld fn.val s = false ∧ rd (F.CHAN.GAIN_NOW_INDEX fn.val)
      s ≠ 0 ∧ Calm s = true) ∧
    (∃ (fn : Fin 4) (s : State), anyReading fn.val s = true ∧ rd (F.CHAN.GAIN_NOW_INDEX fn.val) s < 7 ∧ Calm s = true) ∧
    (∃ (fn : Fin 4) (s : State), anyReading fn.val s = true ∧ rd (F.CHAN.GAIN_NOW_INDEX fn.val) s = 7 ∧ Calm s = true) ∧
    (∃ (fn : Fin 4) (s : State), rd (F.CHAN.GAIN_RECOVER_RECOVER_MS fn.val) s ≠ 0 ∧ (fe fn.val s).forcedAt.isSome = true ∧
      Calm s = true) ∧
    (∃ (s : State), Calm s = true) ∧
    (∃ (fn : Fin 4) (s : State), (fe fn.val s).tx.isSome = true ∧ Calm s = true) :=
  ⟨⟨0, ({ (withLane { state := .search } running) with now := 10 ^ 12 }), 128, by decide⟩,
   ⟨0, running, 128, by decide⟩,
   ⟨0, (withLane { state := .test } running), by decide⟩,
   ⟨0, ((fun s => { s with lanes := insert s.lanes 0 {} })
     ({ running with lanes := (List.range 136).map (fun i => (i, { state := .reserve })) })), by decide⟩,
   ⟨0, running, by decide +kernel⟩,
   ⟨0, running, by decide⟩,
   ⟨0, (wr (F.CHAN.GAIN_NOW_INDEX 0) 1 running), by decide⟩,
   ⟨0, (withLane { state := .payload } running), by decide⟩,
   ⟨0, (withLane { state := .payload } (wr (F.CHAN.GAIN_NOW_INDEX 0) 7 running)), by decide⟩,
   ⟨0, (wr (F.CHAN.GAIN_RECOVER_RECOVER_MS 0) 5 (withFe { forcedAt := some 0 } (wr (F.CHAN.GAIN_RECOVER_RECOVER_MS 0) 1
     running))), by decide⟩,
   ⟨running, by decide⟩,
   ⟨0, (withFe { tx := some { what := .scheduled 1, logical := 0, mode := 0, hz := 0, airNs := 0, entry := 0 } } running),
     by decide⟩⟩

/-- The hypotheses of `Obligations.FrameHeaders`. -/
theorem witness_frame_headers :
    (∃ (li : Fin 136) (mhr : Mhr) (s : State), ((lane li.val s).state = .payload ∨ (lane li.val s).state = .ending) ∧ (lane
      li.val s).freeing = none ∧ (lane li.val s).rx.mhr = none ∧ mhr.tooShort = false ∧ pageState 0x19 s ≠ RUN ∧ Calm s =
      true) ∧
    (∃ (li : Fin 136) (mhr : Mhr) (s : State), ((lane li.val s).state = .payload ∨ (lane li.val s).state = .ending) ∧ (lane
      li.val s).freeing = none ∧ (lane li.val s).rx.mhr = none ∧ mhr.tooShort = false ∧ pageState 0x19 s = RUN ∧
      formAccepted mhr s = false ∧ Calm s = true) ∧
    (∃ (li : Fin 136) (mhr : Mhr) (find : Parity) (s : State) (p : Nat) (a : Nat), ((lane li.val s).state = .payload ∨ (lane
      li.val s).state = .ending) ∧ (lane li.val s).rx.mhr = none ∧ mhr.tooShort = false ∧ pageState 0x19 s = RUN ∧
      formAccepted mhr s = true ∧ mhr.ftype = .data ∧ panSlot mhr.pan s = some p ∧ mhr.src = .short a ∧ find ≠ .lost ∧ (node
      (p * 65536 + a % 65536) s).blocked = false ∧ mhr.security = true ∧ Calm s = true) ∧
    (∃ (li : Fin 136) (level : Nat) (s : State) (m : Mhr), ((lane li.val s).state = .payload ∨ (lane li.val s).state =
      .ending) ∧ (lane li.val s).rx.mhr = some m ∧ m.ftype = .data ∧ m.security = true ∧ m.tooShort = false ∧ (lane li.val
      s).rx.fixed = none ∧ level < 5 ∧ (lane li.val s).rx.panInsecure = false ∧ Calm s = true) ∧
    (∃ (li : Fin 136) (level : Nat) (suppressed : Bool) (s : State) (m : Mhr), ((lane li.val s).state = .payload ∨ (lane
      li.val s).state = .ending) ∧ (lane li.val s).rx.mhr = some m ∧ m.ftype = .data ∧ m.security = true ∧ m.tooShort =
      false ∧ (lane li.val s).rx.fixed = none ∧ 5 ≤ level ∧ suppressed = true ∧ Calm s = true) ∧
    (∃ (li : Fin 136) (s : State) (sl : Nat) (e : Nat), ((lane li.val s).state = .payload ∨ (lane li.val s).state = .ending)
      ∧ (lane li.val s).rx.keySlot = some sl ∧ (lane li.val s).rx.keyReady = false ∧ (lane li.val s).rx.fixed = none ∧ (lane
      li.val s).rx.keyNode = none ∧ (takeEngine s).1 = .on e ∧ Calm s = true) :=
  ⟨⟨0, M0, (wr (F.HEAD.STATE_STATE 0x19) STOPPED (withLane { state := .payload } (wr (F.HEAD.STATE_STATE 0x19) STOPPED
    running))), by decide⟩,
   ⟨0, ({ M0 with version := 3 }), (withLane { state := .payload } (wr (F.HEAD.STATE_STATE 0x19) RUN running)), by decide⟩,
   ⟨0, ({ M0 with dst := .short 0 }), .good, (wr (F.MAC.PAN_PAN_ID 0) 1 (wr (F.MAC.PAN_ENABLE 0) 1 (withLane
     { state := .payload } (wr (F.HEAD.STATE_STATE 0x19) RUN running)))), 0, 5, by decide⟩,
   ⟨0, 0, (withLane { state := .payload, rx := { mhr := some M0 } } running), M0, by decide⟩,
   ⟨0, 5, true, (withLane { state := .payload, rx := { mhr := some M0 } } running), M0, by decide⟩,
   ⟨0, (withLane { state := .payload, rx := { mhr := some M0, keySlot := some 1 } } running), 1, 0, by decide⟩⟩

/-- The hypotheses of `Obligations.FrameVerdicts`. -/
theorem witness_frame_verdicts :
    (∃ (li : Fin 136) (fcsOk : Bool) (s : State) (m : Mhr), (lane li.val s).state = .ending ∧ (lane li.val s).freeing = none
      ∧ ((lane li.val s).fifo = 0 ∨ bufferFull s = false) ∧ (lane li.val s).rx.mhr = some m ∧ m.ftype ≠ .ack ∧ m.ftype ≠
      .beacon ∧ fcsOk = false ∧ Calm s = true) ∧
    (∃ (li : Fin 136) (fcsOk : Bool) (s : State) (m : Mhr) (d : Disp), (lane li.val s).state = .ending ∧ (lane li.val
      s).freeing = none ∧ ((lane li.val s).fifo = 0 ∨ bufferFull s = false) ∧ (lane li.val s).rx.mhr = some m ∧ m.ftype ≠
      .ack ∧ m.ftype ≠ .beacon ∧ fcsOk = true ∧ m.tooShort = false ∧ (lane li.val s).rx.fixed = some d ∧ Calm s = true) ∧
    (∃ (li : Fin 136) (fcsOk : Bool) (micOk : Bool) (s : State) (m : Mhr) (sl : Nat), (lane li.val s).state = .ending ∧
      (lane li.val s).freeing = none ∧ ((lane li.val s).fifo = 0 ∨ bufferFull s = false) ∧ (lane li.val s).rx.mhr = some m ∧
      m.ftype ≠ .ack ∧ m.ftype ≠ .beacon ∧ fcsOk = true ∧ micOk = false ∧ m.tooShort = false ∧ (lane li.val s).rx.fixed =
      none ∧ (lane li.val s).rx.insecure = false ∧ (lane li.val s).rx.keySlot = some sl ∧ (lane li.val s).rx.keyReady = true
      ∧ keyHolds sl (lane li.val s).rx.keyGen s = true ∧ recordHolds (lane li.val s).rx s = true ∧ (lane li.val
      s).rx.mismatch = false ∧ Calm s = true) ∧
    (∃ (li : Fin 136) (fcsOk : Bool) (micOk : Bool) (s : State) (m : Mhr) (sl : Nat) (n : Nat), (lane li.val s).state =
      .ending ∧ (lane li.val s).freeing = none ∧ ((lane li.val s).fifo = 0 ∨ bufferFull s = false) ∧ (lane li.val s).rx.mhr
      = some m ∧ m.ftype ≠ .ack ∧ m.ftype ≠ .beacon ∧ fcsOk = true ∧ micOk = true ∧ m.tooShort = false ∧ (lane li.val
      s).rx.fixed = none ∧ (lane li.val s).rx.insecure = false ∧ (lane li.val s).rx.keySlot = some sl ∧ (lane li.val
      s).rx.keyReady = true ∧ keyHolds sl (lane li.val s).rx.keyGen s = true ∧ recordHolds (lane li.val s).rx s = true ∧
      (lane li.val s).rx.mismatch = false ∧ (lane li.val s).rx.node = some n ∧ replay (oct (node n s).core 8 4) (oct (node n
      s).core 12 4) (lane li.val s).rx.counter = .old ∧ Calm s = true) ∧
    (∃ (li : Fin 136) (fcsOk : Bool) (micOk : Bool) (s : State) (m : Mhr) (sl : Nat) (n : Nat) (hw : Nat) (map : Nat), (lane
      li.val s).state = .ending ∧ (lane li.val s).freeing = none ∧ (lane li.val s).rx.mhr = some m ∧ m.ftype ≠ .ack ∧
      m.ftype ≠ .beacon ∧ fcsOk = true ∧ micOk = true ∧ m.tooShort = false ∧ m.ackReq = false ∧ (lane li.val s).rx.fixed =
      none ∧ (lane li.val s).rx.insecure = false ∧ (lane li.val s).rx.keySlot = some sl ∧ (lane li.val s).rx.keyReady = true
      ∧ keyHolds sl (lane li.val s).rx.keyGen s = true ∧ recordHolds (lane li.val s).rx s = true ∧ (lane li.val
      s).rx.mismatch = false ∧ (lane li.val s).rx.node = some n ∧ replay (oct (node n s).core 8 4) (oct (node n s).core 12
      4) (lane li.val s).rx.counter = .accept hw map) ∧
    (∃ (li : Fin 136) (fcsOk : Bool) (s : State) (m : Mhr), (lane li.val s).state = .ending ∧ (lane li.val s).freeing = none
      ∧ (lane li.val s).fifo ≠ 0 ∧ bufferFull s = true ∧ (lane li.val s).rx.mhr = some m ∧ m.ftype ≠ .ack ∧ m.ftype ≠
      .beacon ∧ fcsOk = false ∧ Calm s = true) :=
  ⟨⟨0, false, (withLane { state := .ending, rx := { mhr := some M0 } } running), M0, by decide⟩,
   ⟨0, true, (withLane { state := .ending, rx := { mhr := some M0, fixed := some .dropAddr } } running), M0, .dropAddr, by
     decide⟩,
   ⟨0, true, false,
     ({ (withLane { state := .ending, rx := { mhr := some M0, keySlot := some 1, keyReady := true, keyGen := 1 } } running) with slots := [(1, SL 0x80000001)] }),
     M0, 1, by decide⟩,
   ⟨0, true, true,
     ({ (withLane { state := .ending, rx := { mhr := some M0, keySlot := some 1, keyReady := true, keyGen := 1, node := some 5 } } ({ (withLane { state := .ending, rx := { mhr := some M0, keySlot := some 1, keyReady := true, keyGen := 1, node := some 5 } } running) with slots := [(1, SL 0x80000001)], nodes := [(5, { core := BitVec.ofNat 256 (10 * 2 ^ 64) })] })) with slots := [(1, SL 0x80000001)], nodes := [(5, { core := BitVec.ofNat 256 (100 * 2 ^ 64) })] }),
     M0, 1, 5, by decide⟩,
   ⟨0, true, true,
     ({ (withLane { state := .ending, rx := { mhr := some M0, keySlot := some 1, keyReady := true, keyGen := 1, node := some 5, counter := 1 } } running) with slots := [(1, SL 0x80000001)] }),
     M0, 1, 5, 1, 1, by decide⟩,
   ⟨0, false,
     ({ (withLane { state := .ending, fifo := 1, rx := { mhr := some M0 } } running) with frames := [(1, { FR with length := 6291456 })] }),
     M0, by decide⟩⟩

/-- The hypotheses of `Obligations.AcknowledgementsAndPolls`. -/
theorem witness_acknowledgements_and_polls :
    (∃ (fn : Fin 4) (late : Bool) (s : State) (id : Nat), (fe fn.val s).fetch.isSome = true ∧ (fe fn.val s).tx.map (fun x =>
      x.what) = some (.pollAnswer id) ∧ (frame? id s).isSome = true ∧ late = true ∧ Calm s = true) ∧
    (∃ (fn : Fin 4) (late : Bool) (s : State) (id : Nat), (fe fn.val s).fetch.isSome = true ∧ (fe fn.val s).tx.map (fun x =>
      x.what) = some (.pollAnswer id) ∧ (frame? id s).isSome = true ∧ late = false ∧ (frame? id s).map (fun f => f.secure) =
      some false ∧ ((frame? id s).map (fun f => ((fe fn.val s).tx.map (fun x => ((fe fn.val s).fetch.map (fun y => decide
      (answerPsdu x.mode y.fcs2 f s ≤ maxPsdu x.mode)))))) = some (some (some true)))) ∧
    (∃ (li : Fin 136) (fcsOk : Bool) (s : State) (m : Mhr), (lane li.val s).state = .ending ∧ (lane li.val s).freeing = none
      ∧ ((lane li.val s).fifo = 0 ∨ bufferFull s = false) ∧ (lane li.val s).rx.mhr = some m ∧ m.ftype = .ack ∧ fcsOk = false
      ∧ Calm s = true) ∧
    (∃ (li : Fin 136) (fcsOk : Bool) (s : State) (m : Mhr) (id : Nat) (f : Frame), (lane li.val s).state = .ending ∧ (lane
      li.val s).freeing = none ∧ (lane li.val s).rx.mhr = some m ∧ m.ftype = .ack ∧ fcsOk = true ∧ m.tooShort = false ∧
      ((m.version = 2 → (lane li.val s).rx.fixed = none ∧ m.security = false)) ∧ awaiting (lane li.val s).logical s = some
      (id, f) ∧ ackMatches (lane li.val s) m f s = true ∧ Calm s = true) ∧
    (∃ (fn : Fin 4) (s : State) (id : Nat) (f : Frame), awaiting fn.val s = some (id, f) ∧ frame? id s = some f ∧ f.polled =
      false ∧ f.appt = false ∧ f.attempts < rd F.MAC.RETRY_MAX_ATTEMPTS s ∧ Calm s = true) ∧
    (∃ (ni : Fin 262144) (s : State), oct (node ni.val s).core 30 1 % 4 = 1 ∧ pendingFrames ni.val s = [] ∧ mirrors s =
      false ∧ Calm s = true) ∧
    (∃ (ni : Fin 262144) (s : State), oct (node ni.val s).core 30 1 % 4 ≠ 1 ∧ Calm s = true) :=
  ⟨⟨0, true,
    ({ (withFe { fetch := some { node := 5, entry := 0, fcs2 := false, seq := 0, enhanced := false, corr := 0, clipped := false }, tx := some { what := .pollAnswer 1, logical := 0, mode := 0, hz := 0, airNs := 0, entry := 0 } } running) with frames := [(1, FR)] }),
    1, by decide⟩,
   ⟨0, false,
     ({ (withFe { fetch := some { node := 5, entry := 0, fcs2 := false, seq := 0, enhanced := false, corr := 0, clipped := false }, tx := some { what := .pollAnswer 1, logical := 0, mode := 0, hz := 0, airNs := 0, entry := 0 } } running) with frames := [(1, FR)] }),
     1, by decide⟩,
   ⟨0, false, (withLane { state := .ending, rx := { mhr := some { M0 with ftype := .ack } } } running),
     ({ M0 with ftype := .ack }), by decide⟩,
   ⟨0, true,
     ({ (withLane { state := .ending, rx := { mhr := some { M0 with ftype := .ack, security := false } } } running) with frames := [(1, { FR with place := .ackWait, ackReq := true, seq := some 0 })] }),
     ({ M0 with ftype := .ack, security := false }), 1, ({ FR with place := .ackWait, ackReq := true, seq := some 0 }), by
     decide⟩,
   ⟨0, (wr F.MAC.RETRY_MAX_ATTEMPTS 3
     ({ running with frames := [(1, { FR with place := .ackWait, ackReq := true, seq := some 0 })] })), 1,
     ({ FR with place := .ackWait, ackReq := true, seq := some 0 }), by decide⟩,
   ⟨0, ({ running with nodes := [(0, { core := BitVec.ofNat 256 (2 ^ 240) })] }), by decide⟩,
   ⟨0, running, by decide⟩⟩

/-- The hypotheses of `Obligations.Beacons`. -/
theorem witness_beacons :
    (∃ (ti : Fin 8) (s : State), pageState 0x1A s = RUN ∧ rd (F.BEACON.TRACK_ENABLE ti.val) s = 1 ∧ roleMuted s = false ∧ 0
      ≤ beaconNumber ti.val s ∧ beaconTime ti.val (beaconNumber ti.val s) s ∉ (look s.tracks ti.val {}).sent) ∧
    (∃ (ti : Fin 8) (s : State), beaconTime ti.val (beaconNumber ti.val s) s ∈ (look s.tracks ti.val {}).sent ∧ Calm s =
      true) ∧
    (∃ (li : Fin 136) (fcsOk : Bool) (micOk : Bool) (s : State) (m : Mhr) (e : Nat) (k : Nat) (sl : Nat), (lane li.val
      s).state = .ending ∧ (lane li.val s).freeing = none ∧ (lane li.val s).rx.mhr = some m ∧ m.ftype = .beacon ∧ fcsOk =
      true ∧ micOk = true ∧ m.tooShort = false ∧ m.src = .extended e ∧ trackedPeer e s = some k ∧ m.security = true ∧ 5 ≤
      (lane li.val s).rx.level ∧ (lane li.val s).rx.fixed = none ∧ (lane li.val s).rx.keyReady = true ∧ (lane li.val
      s).rx.keySlot = some sl ∧ keyHolds sl (lane li.val s).rx.keyGen s = true ∧ (lane li.val s).rx.mismatch = false ∧ rd
      (F.BEACON.PEER_LAST_FC k) s < (lane li.val s).rx.counter ∧ (lane li.val s).rx.counter < 2 ^ 32) ∧
    (∃ (li : Fin 136) (fcsOk : Bool) (s : State) (m : Mhr), (lane li.val s).state = .ending ∧ (lane li.val s).freeing = none
      ∧ (lane li.val s).rx.mhr = some m ∧ m.ftype = .beacon ∧ fcsOk = false ∧ Calm s = true) ∧
    (∃ (pi : Fin 32) (s : State), rd (F.BEACON.PEER_ENABLE pi.val) s = 1 ∧ rd (F.BEACON.PEER_STATE pi.val) s = P_PRESENT ∧
      pageState 0x1A s = RUN ∧ rd (F.BEACON.PEER_MISSES pi.val) s < 2 ∧ Calm s = true) ∧
    (∃ (pi : Fin 32) (s : State), rd (F.BEACON.PEER_ENABLE pi.val) s = 1 ∧ rd (F.BEACON.PEER_STATE pi.val) s = P_PRESENT ∧
      pageState 0x1A s = RUN ∧ rd (F.BEACON.PEER_MISSES pi.val) s = 2 ∧ Calm s = true) :=
  ⟨⟨0, (wr (F.BEACON.TRACK_ENABLE 0) 1 (wr (F.HEAD.STATE_STATE 0x1A) RUN running)), by decide⟩,
   ⟨0, ({ running with tracks := [(0, { sent := [0] })] }), by decide⟩,
   ⟨0, true, true,
     ({ (wr (F.BEACON.PEER_ENABLE 0) 1 (wr (F.BEACON.PEER_EUI64_LO 0) 9 (withLane { state := .ending, rx := { mhr := some { M0 with ftype := .beacon, src := .extended 9 }, level := 5, counter := 1, keySlot := some 0, keyReady := true, keyGen := 1 } } running))) with slots := [(0, SL (att 1 5 16))] }),
     ({ M0 with ftype := .beacon, src := .extended 9 }), 9, 0, 0, by decide⟩,
   ⟨0, false, (withLane { state := .ending, rx := { mhr := some { M0 with ftype := .beacon } } } running),
     ({ M0 with ftype := .beacon }), by decide⟩,
   ⟨0, (wr (F.HEAD.STATE_STATE 0x1A) RUN (wr (F.BEACON.PEER_STATE 0) P_PRESENT (wr (F.BEACON.PEER_ENABLE 0) 1 running))), by
     decide⟩,
   ⟨0, (wr (F.BEACON.PEER_MISSES 0) 2 (wr (F.HEAD.STATE_STATE 0x1A) RUN (wr (F.BEACON.PEER_STATE 0) P_PRESENT (wr
     (F.BEACON.PEER_ENABLE 0) 1 running)))), by decide⟩⟩

/-- The hypotheses of `Obligations.SweeperAndPathReads`. -/
theorem witness_sweeper_and_path_reads :
    (∃ (s : State) (i : Nat), pageState 0x20 s = RUN ∧ rd F.NODE.SWEEP_ENABLE s = 1 ∧ rd F.NODE.SWEEP_POSITION s = i ∧ i <
      262143 ∧ Calm s = true) ∧
    (∃ (s : State), pageState 0x20 s = RUN ∧ rd F.NODE.SWEEP_ENABLE s = 1 ∧ rd F.NODE.SWEEP_POSITION s = 262143 ∧ Calm s =
      true) ∧
    (∃ (s : State) (i : Nat), s.rereads = [.command i] ∧ (node i s).consistent = true ∧ Calm s = true) ∧
    (∃ (s : State) (i : Nat), s.rereads = [.command i] ∧ (node i s).consistent = false ∧ Calm s = true) ∧
    (∃ (off : Fin 8388608) (complete : Bool) (words : List Word) (s : State) (i : Nat) (w : Word), complete = true ∧ off.val
      = 32 * i ∧ reservedIndex i = false ∧ keyRefValid (node i s).keyRef = true ∧ words = [w] ∧ Calm s = true) ∧
    (∃ (off : Fin 8388608) (complete : Bool) (s : State), (complete = false ∨ off.val % 4 ≠ 0) ∧ Calm s = true) ∧
    (∃ (s : State), (pageState 0x20 s ≠ RUN ∨ rd F.NODE.SWEEP_ENABLE s = 0) ∧ Calm s = true) ∧
    (∃ (s : State), s.rereads = [] ∧ Calm s = true) ∧
    (∃ (s : State), Calm s = true) ∧
    (∃ (off : Fin 8388608) (complete : Bool) (s : State), complete = true ∧ off.val % 4 = 0 ∧ Calm s = true) :=
  ⟨⟨(wr F.NODE.SWEEP_POSITION 0 (wr F.NODE.SWEEP_ENABLE 1 (wr (F.HEAD.STATE_STATE 0x20) RUN running))), 0, by decide⟩,
   ⟨(wr F.NODE.SWEEP_POSITION 262143 (wr F.NODE.SWEEP_ENABLE 1 (wr (F.HEAD.STATE_STATE 0x20) RUN running))), by decide⟩,
   ⟨({ running with rereads := [.command 5] }), 5, by decide +kernel⟩,
   ⟨({ ({ ({ running with rereads := [.command 5] }) with nodes := [(5, { core := 1 })] }) with nodes := [(5, { core := BitVec.ofNat 256 (4 * 2 ^ 160) })] }),
     5, by decide +kernel⟩,
   ⟨32, true, [0], running, 1, 0, by decide⟩,
   ⟨0, false, running, by decide⟩,
   ⟨(wr (F.HEAD.STATE_STATE 0x20) STOPPED running), by decide⟩,
   ⟨running, by decide⟩,
   ⟨running, by decide⟩,
   ⟨0, true, running, by decide⟩⟩

/-- The hypotheses of `Obligations.NodeCommands`. -/
theorem witness_node_commands :
    (∃ (index : Fin 262144) (find : NodeFind) (s : State), Accepted 0x20 0x054 (index.val + 1 * 2 ^ 24) s ∧ pageState 0x20 s
      = RUN ∧ rd F.NODE.CMD_STATUS_BUSY s = 0 ∧ reservedIndex index.val = false ∧ (find = .good ∨ find = .mended) ∧ (node
      index.val s).consistent = true ∧ Calm s = true) ∧
    (∃ (index : Fin 262144) (find : NodeFind) (s : State) (c : Node), Accepted 0x20 0x054 (index.val + 2 * 2 ^ 24) s ∧
      pageState 0x20 s = RUN ∧ rd F.NODE.CMD_STATUS_BUSY s = 0 ∧ reservedIndex index.val = false ∧ (find = .good ∨ find =
      .mended) ∧ (node index.val s).valid = false ∧ c = { core := cmdCore s, ext := cmdExt s } ∧ keyRefValid c.keyRef = true
      ∧ c.piton = true ∧ (wellFormedPath index.val c.core c.ext).isSome = true ∧ Calm s = true ∧ MemoryFormed s) ∧
    (∃ (index : Fin 262144) (find : NodeFind) (s : State) (m : Nat), Accepted 0x20 0x054 (index.val + 3 * 2 ^ 24) s ∧
      pageState 0x20 s = RUN ∧ rd F.NODE.CMD_STATUS_BUSY s = 0 ∧ reservedIndex index.val = false ∧ (find = .good ∨ find =
      .mended) ∧ (node index.val s).valid = true ∧ rd F.NODE.CMD_MASK s = m ∧ m < 2 ^ 16 ∧ rd F.NODE.CMD_FLAG_MASK s = 0 ∧
      rd F.NODE.CMD_EXT_MASK s = 0 ∧ keyRefValid (node index.val s).keyRef = true ∧ Calm s = true) ∧
    (∃ (index : Fin 262144) (find : NodeFind) (s : State), Accepted 0x20 0x054 (index.val + 4 * 2 ^ 24) s ∧ pageState 0x20 s
      = RUN ∧ rd F.NODE.CMD_STATUS_BUSY s = 0 ∧ reservedIndex index.val = false ∧ (find = .good ∨ find = .mended) ∧ (node
      index.val s).valid = true ∧ Calm s = true ∧ MemoryFormed s) ∧
    (∃ (index : Fin 262144) (find : NodeFind) (s : State) (r : MeshPath), Accepted 0x20 0x054 (index.val + 5 * 2 ^ 24) s ∧
      pageState 0x20 s = RUN ∧ rd F.NODE.CMD_STATUS_BUSY s = 0 ∧ reservedIndex index.val = false ∧ (find = .good ∨ find =
      .mended) ∧ (node index.val s).valid = true ∧ wellFormedPath index.val (cmdCore s) (cmdExt s) = some r ∧ Calm s = true
      ∧ MemoryFormed s) ∧
    (∃ (index : Fin 262144) (s : State), Accepted 0x20 0x054 (index.val + 6 * 2 ^ 24) s ∧ pageState 0x20 s = RUN ∧ rd
      F.NODE.CMD_STATUS_BUSY s = 0 ∧ reservedIndex index.val = false ∧ (node index.val s).valid = true ∧ (node index.val
      s).piton = true ∧ Calm s = true) ∧
    (∃ (s : State) (i : Nat), nextValid (if isSet F.NODE.SCAN0_NONE s then 262144 else rd F.NODE.SCAN0_INDEX s) s = some i ∧
      (node i s).consistent = true ∧ (node i s).valid = true ∧ i < 262144 ∧ s.rereads = []) :=
  ⟨⟨1, .good, (wr F.NODE.CMD_STATUS_BUSY 0 (wr (F.HEAD.STATE_STATE 0x20) RUN running)), by decide +kernel⟩,
   ⟨1, .good, (wr (F.NODE.CMD_EXT 0) 0x10001 (wr (F.NODE.CMD_CORE 5) 0x100 (wr (F.NODE.CMD_CORE 4) 0x2000000 (wr
     F.NODE.CMD_STATUS_BUSY 0 (wr (F.HEAD.STATE_STATE 0x20) RUN running))))),
     ({ core := BitVec.ofNat 256 (2 ^ 153 + 2 ^ 168), ext := BitVec.ofNat 1024 0x10001 }), by decide +kernel⟩,
   ⟨1, .good,
     ({ (wr F.NODE.CMD_EXT_MASK 0 (wr F.NODE.CMD_FLAG_MASK 0 (wr F.NODE.CMD_MASK 0 (wr F.NODE.CMD_STATUS_BUSY 0 (wr (F.HEAD.STATE_STATE 0x20) RUN running))))) with nodes := [(1, { core := BitVec.ofNat 256 (2 ^ 152) })] }),
     0, by decide⟩,
   ⟨1, .good,
     ({ (wr F.NODE.CMD_STATUS_BUSY 0 (wr (F.HEAD.STATE_STATE 0x20) RUN running)) with nodes := [(1, { core := BitVec.ofNat 256 (2 ^ 152) })] }),
     by decide⟩,
   ⟨1, .good, (wr (F.NODE.CMD_EXT 0) 0x10001 (wr (F.NODE.CMD_CORE 5) 0x100
     ({ (wr F.NODE.CMD_STATUS_BUSY 0 (wr (F.HEAD.STATE_STATE 0x20) RUN running)) with nodes := [(1, { core := BitVec.ofNat 256 (2 ^ 152) })] }))),
     ({ fe := 0, addrs := [1], fromIe := true }), by decide +kernel⟩,
   ⟨1,
     ({ (wr F.NODE.CMD_STATUS_BUSY 0 (wr (F.HEAD.STATE_STATE 0x20) RUN running)) with nodes := [(1, { core := BitVec.ofNat 256 (2 ^ 152 + 2 ^ 153) })] }),
     by decide⟩,
   ⟨({ running with nodes := [(5, { core := BitVec.ofNat 256 (2 ^ 152) })] }), 5, by decide +kernel⟩⟩

/-- The hypotheses of `Obligations.PacketsHandedOn`. -/
theorem witness_packets_handed_on :
    (∃ (pn : Fin 2) (s : State) (x : Staged) (r : List Staged), (port pn.val s).staging = x :: r ∧ x.eth.etherType ≠ 0x8808
      ∧ ptpTaken pn.val x.eth s = false ∧ pageState 0x21 s ≠ RUN ∧ bufferFits x.size s = true ∧ Calm s = true) ∧
    (∃ (pn : Fin 2) (s : State) (x : Staged) (r : List Staged), (port pn.val s).staging = x :: r ∧ x.eth.etherType ≠ 0x8808
      ∧ ptpTaken pn.val x.eth s = false ∧ pageState 0x21 s = RUN ∧ x.eth.etherType ≠ 0x86DD ∧ rd F.FWD.CFG_ETH_OTHER_TO_RING
      s = 0 ∧ bufferFits x.size s = true ∧ Calm s = true) ∧
    (∃ (s : State) (id : Nat) (f : Frame), s.frames = [(id, f)] ∧ f.place = .pending ∧ f.inFlight = false ∧ f.skipped =
      false ∧ f.group = none ∧ f.pendedAt + rd F.FWD.PENDING_TIMEOUT s * 1000000000 ≤ s.now ∧ Calm s = true) ∧
    (∃ (s : State) (id : Nat) (f : Frame), s.frames = [(id, f)] ∧ s.now < f.pendedAt + rd F.FWD.PENDING_TIMEOUT s *
      1000000000 ∧ Calm s = true) ∧
    (∃ (s : State) (k : Nat) (id : Nat) (c : Reasm), s.reasm = [(k, c)] ∧ c.since + rd F.FRAG.TIMEOUT s * 1000000000 ≤ s.now
      ∧ c.frames = [id] ∧ Calm s = true) :=
  ⟨⟨0, (wr (F.HEAD.STATE_STATE 0x21) STOPPED (withPort { staging := [ST] } (wr (F.HEAD.STATE_STATE 0x21) STOPPED running))),
    ST, [], by decide⟩,
   ⟨0, (withPort { staging := [ST] } (wr F.FWD.CFG_ETH_OTHER_TO_RING 0 (wr (F.HEAD.STATE_STATE 0x21) RUN running))), ST, [],
     by decide⟩,
   ⟨({ running with frames := [(1, { FR with place := .pending })], now := 10 ^ 15 }), 1, ({ FR with place := .pending }),
     by decide⟩,
   ⟨({ running with frames := [(1, { FR with place := .pending, pendedAt := 10 ^ 15 })] }), 1,
     ({ FR with place := .pending, pendedAt := 10 ^ 15 }), by decide⟩,
   ⟨({ running with reasm := [(0, { RA with frames := [1] })], now := 10 ^ 15 }), 0, 1, ({ RA with frames := [1] }), by
     decide⟩⟩

/-- The hypotheses of `Obligations.SchedulerSelection`. -/
theorem witness_scheduler_selection :
    (∃ (logical : Fin 4) (s : State), selectionMoment logical.val s = false ∧ Calm s = true) ∧
    (∃ (logical : Fin 4) (s : State) (u : State) (q : Nat) (id : Nat) (e : Nat) (f : Frame), selectionMoment logical.val s =
      true ∧ u = endHorizons logical.val s ∧ q < 4 ∧ ((∀ r ∈ List.range q, holdOf logical.val r u ≠ .none)) ∧ holdOf
      logical.val q u = .none ∧ (queueFrames logical.val q u).head? = some (id, f) ∧ regEntry f u = some e ∧ Calm s = true)
      ∧
    (∃ (logical : Fin 4) (s : State) (id : Nat) (f : Frame), (s.frames.filter (fun x => x.2.place == .queued && x.2.fe ==
      logical.val && !x.2.timed && decide (x.2.entered + rd (F.SCHED.Q_HORIZON logical.val x.2.queue) s * 1000000 < s.now)))
      = [(id, f)] ∧ frame? id s = some f ∧ f.group = none ∧ Calm s = true) ∧
    (∃ (logical : Fin 4) (s : State) (id : Nat) (p : Nat) (f : Frame), committedFrame logical.val s = some (id, f) ∧ frame?
      id s = some f ∧ f.place = .committed p .lbt ∧ f.appt = false ∧ f.group = none ∧ Calm s = true) ∧
    (∃ (logical : Fin 4) (s : State), committedFrame logical.val s = none ∧ s.frames.any (fun x => x.2.fe == logical.val &&
      x.2.tooLate s) = false ∧ Calm s = true) ∧
    (∃ (logical : Fin 4) (s : State) (id : Nat) (p : Nat) (x : Nat) (e : Nat) (f : Frame), committedFrame logical.val s =
      some (id, f) ∧ frame? id s = some f ∧ f.place = .committed p .none ∧ f.fe = logical.val ∧ f.secure = false ∧ txServer
      logical.val s = some x ∧ readyToSend x logical.val s = true ∧ f.slipNs s ≤ f.slipTol * 1000 ∧ startBarred x s = false
      ∧ (f.timed = true ∨ ackAwaited logical.val s = false) ∧ refclkFault s = false ∧ tempTrip s = false ∧ pageState 0x18 s
      = RUN ∧ mayTransmit s = true ∧ started s = true ∧ (coexOn x s = false ∨ (fe x s).gnt = true) ∧ permittingEntry
      (f.hzNow s) (fe x s).band s = some e ∧ inSpan (fe x s) (f.hzNow s) (entryField e 12 2 s * 1000) = true ∧ modeInBand
      (f.modeNow s) (fe x s).band = true ∧ (entryFlag e 1 s = false ∨ lbtClear logical.val e (f.hzNow s) s = some true) ∧
      powerAllowed x e s = true ∧ Calm s = true) ∧
    (∃ (logical : Fin 4) (s : State) (id : Nat) (p : Nat) (x : Nat) (e : Nat) (f : Frame), committedFrame logical.val s =
      some (id, f) ∧ frame? id s = some f ∧ f.place = .committed p .lbt ∧ f.fe = logical.val ∧ f.secure = false ∧ txServer
      logical.val s = some x ∧ readyToSend x logical.val s = true ∧ f.slipNs s ≤ f.slipTol * 1000 ∧ startBarred x s = false
      ∧ (f.timed = true ∨ ackAwaited logical.val s = false) ∧ refclkFault s = false ∧ tempTrip s = false ∧ pageState 0x18 s
      = RUN ∧ mayTransmit s = true ∧ started s = true ∧ (coexOn x s = false ∨ (fe x s).gnt = true) ∧ permittingEntry
      (f.hzNow s) (fe x s).band s = some e ∧ inSpan (fe x s) (f.hzNow s) (entryField e 12 2 s * 1000) = true ∧ modeInBand
      (f.modeNow s) (fe x s).band = true ∧ (entryFlag e 1 s = false ∨ lbtClear logical.val e (f.hzNow s) s = some true) ∧
      powerAllowed x e s = true ∧ Calm s = true) ∧
    (∃ (logical : Fin 4) (s : State) (u : State) (id : Nat) (e : Nat) (f : Frame) (a : List Nat), selectionMoment
      logical.val s = true ∧ u = endHorizons logical.val s ∧ ((∀ r ∈ List.range 4, holdOf logical.val r u ≠ .none)) ∧
      ((List.range 12).map (fun k => k + 4)).filter (fun r => holdOf logical.val r u == .none && committedOk logical.val r
      u) = a ∧ a ≠ [] ∧ pointerServes logical.val a u = some (id, f) ∧ regEntry f u = some e ∧ Calm s = true) ∧
    (∃ (logical : Fin 4) (s : State) (u : State) (id : Nat) (e : Nat) (q : Nat) (f : Frame) (a : List Nat), selectionMoment
      logical.val s = true ∧ u = endHorizons logical.val s ∧ ((∀ r ∈ List.range 4, holdOf logical.val r u ≠ .none)) ∧
      ((List.range 12).map (fun k => k + 4)).filter (fun r => holdOf logical.val r u == .none && committedOk logical.val r
      u) = a ∧ a ≠ [] ∧ pointerServes logical.val a u = none ∧ nextWeighted logical.val a u = some q ∧ (queueFrames
      logical.val q u).head? = some (id, f) ∧ usUp (f.costNs u) ≤ rd (F.SCHED.DEFICIT logical.val q) u + rd
      (F.SCHED.Q_QUANTUM logical.val q) u ∧ rd (F.SCHED.DEFICIT logical.val q) u + rd (F.SCHED.Q_QUANTUM logical.val q) u <
      2 ^ 32 ∧ regEntry f u = some e ∧ Calm s = true) ∧
    (∃ (logical : Fin 4) (s : State) (u : State), selectionMoment logical.val s = true ∧ u = endHorizons logical.val s ∧ ((∀
      r ∈ List.range 16, holdOf logical.val r u ≠ .none)) ∧ Calm s = true) ∧
    (∃ (logical : Fin 4) (s : State) (id : Nat) (f : Frame), frame? id s = some f ∧ f.place = .queued ∧ f.fe = logical.val ∧
      f.timed = false ∧ f.group = none ∧ f.entered + rd (F.SCHED.Q_HORIZON logical.val f.queue) s * 1000000 < s.now ∧ Calm s
      = true) ∧
    (∃ (logical : Fin 4) (s : State) (id : Nat) (p : Nat) (f : Frame) (h : Held), committedFrame logical.val s = some (id,
      f) ∧ frame? id s = some f ∧ f.place = .committed p h ∧ h ≠ .lbt ∧ f.appt = false ∧ f.group = none ∧ Calm s = true) ∧
    (∃ (logical : Fin 4) (s : State) (id : Nat) (p : Nat) (i : Nat) (f : Frame) (h : Held), committedFrame logical.val s =
      some (id, f) ∧ frame? id s = some f ∧ f.place = .committed p h ∧ f.appt = true ∧ f.node = some i ∧ Calm s = true) ∧
    (∃ (logical : Fin 4) (s : State) (id : Nat) (f : Frame), committedFrame logical.val s = none ∧ frame? id s = some f ∧
      f.fe = logical.val ∧ f.tooLate s = true ∧ f.appt = false ∧ f.group = none ∧ Calm s = true) ∧
    (∃ (logical : Fin 4) (s : State) (id : Nat) (p : Nat) (x : Nat) (e : Nat) (c : Nat) (y : Nat) (f : Frame) (h : Held),
      committedFrame logical.val s = some (id, f) ∧ frame? id s = some f ∧ f.place = .committed p h ∧ f.fe = logical.val ∧
      f.secure = true ∧ txServer logical.val s = some x ∧ readyToSend x logical.val s = true ∧ f.slipNs s ≤ f.slipTol * 1000
      ∧ startBarred x s = false ∧ (f.timed = true ∨ ackAwaited logical.val s = false) ∧ refclkFault s = false ∧ tempTrip s =
      false ∧ pageState 0x18 s = RUN ∧ mayTransmit s = true ∧ started s = true ∧ (coexOn x s = false ∨ (fe x s).gnt = true)
      ∧ permittingEntry (f.hzNow s) (fe x s).band s = some e ∧ inSpan (fe x s) (f.hzNow s) (entryField e 12 2 s * 1000) =
      true ∧ modeInBand (f.modeNow s) (fe x s).band = true ∧ (entryFlag e 1 s = false ∨ lbtClear logical.val e (f.hzNow s) s
      = some true) ∧ powerAllowed x e s = true ∧ (takeKey f s).1 = .ready c ∧ pageState 0x31 s = RUN ∧ leastLoaded (takeKey
      f s).2 = some y ∧ Calm s = true) :=
  ⟨⟨0, (wr (F.HEAD.STATE_STATE 0x24) STOPPED running), by decide⟩,
   ⟨0, (profile (withFe { centre := 865000000 }
     ({ ({ running with frames := [(1, { FR with queue := 1 })] }) with frames := [(1, { FR with queue := 1, mode := 0x10, hz := 865000000 })] }))),
     (endHorizons 0 ((profile (withFe { centre := 865000000 }
     ({ ({ running with frames := [(1, { FR with queue := 1 })] }) with frames := [(1, { FR with queue := 1, mode := 0x10, hz := 865000000 })] }))))),
     1, 1, 0, ({ FR with queue := 1, mode := 0x10, hz := 865000000 }), by decide⟩,
   ⟨0, ({ running with frames := [(1, FR)], now := 10 ^ 15 }), 1, FR, by decide⟩,
   ⟨0, ({ running with frames := [(1, { FR with place := .committed 0 .lbt })] }), 1, 0,
     ({ FR with place := .committed 0 .lbt }), by decide⟩,
   ⟨0, running, by decide⟩,
   ⟨0, (profile (withFe { centre := 865000000 }
     ({ (wr (F.FE.RF_STATE_STATE 0) RF_RX ({ (wr (F.HEAD.STATE_STATE 0x18) RUN running) with frames := [(1, { FR with place := .committed 0 .none, seq := some 0 })] })) with frames := [(1, { FR with place := .committed 0 .none, seq := some 0, mode := 0x10, hz := 865000000 })] }))),
     1, 0, 0, 0, ({ FR with place := .committed 0 .none, seq := some 0, mode := 0x10, hz := 865000000 }), by decide⟩,
   ⟨0, (profile (withFe { centre := 865000000 }
     ({ (wr (F.FE.RF_STATE_STATE 0) RF_RX ({ (wr (F.HEAD.STATE_STATE 0x18) RUN running) with frames := [(1, { FR with place := .committed 0 .lbt, seq := some 0 })] })) with frames := [(1, { FR with place := .committed 0 .lbt, seq := some 0, mode := 0x10, hz := 865000000 })] }))),
     1, 0, 0, 0, ({ FR with place := .committed 0 .lbt, seq := some 0, mode := 0x10, hz := 865000000 }), by decide⟩,
   ⟨0, (wr (F.SCHED.DEFICIT 0 4) 100000000 (profile (withFe { centre := 865000000 }
     ({ running with frames := [(1, { FR with mode := 0x10, hz := 865000000 })] })))), (endHorizons 0 ((wr
     (F.SCHED.DEFICIT 0 4) 100000000 (profile (withFe { centre := 865000000 }
     ({ running with frames := [(1, { FR with mode := 0x10, hz := 865000000 })] })))))), 1, 0,
     ({ FR with mode := 0x10, hz := 865000000 }), [4], by decide⟩,
   ⟨0, (wr (F.SCHED.Q_QUANTUM 0 5) 100000 (profile (withFe { centre := 865000000 }
     ({ running with frames := [(1, { FR with queue := 5, mode := 0x10, hz := 865000000 })] })))), (endHorizons 0 ((wr
     (F.SCHED.Q_QUANTUM 0 5) 100000 (profile (withFe { centre := 865000000 }
     ({ running with frames := [(1, { FR with queue := 5, mode := 0x10, hz := 865000000 })] })))))), 1, 0, 5,
     ({ FR with queue := 5, mode := 0x10, hz := 865000000 }), [5], by decide⟩,
   ⟨0, running, (endHorizons 0 (running)), by decide⟩,
   ⟨0, ({ running with frames := [(1, FR)], now := 10 ^ 15 }), 1, FR, by decide⟩,
   ⟨0, ({ running with frames := [(1, { FR with place := .committed 0 .coex })] }), 1, 0,
     ({ FR with place := .committed 0 .coex }), .coex, by decide⟩,
   ⟨0,
     ({ running with frames := [(1, { FR with place := .committed 0 .none, appt := true, node := some 0 })], nodes := [(0, { core := 2 ^ 152 })] }),
     1, 0, 0, ({ FR with place := .committed 0 .none, appt := true, node := some 0 }), .none, by decide⟩,
   ⟨0, ((fun s => { s with frames := [(1, { FR with timed := true })], clock := { s.clock with device := 2 ^ 50 } })
     running), 1, ({ FR with timed := true }), by decide⟩,
   ⟨0, (life 2 (profile (withFe { centre := 865000000 } (wr (F.FE.RF_STATE_STATE 0) RF_RX
     ({ (wr (F.HEAD.STATE_STATE 0x31) RUN (wr (F.HEAD.STATE_STATE 0x18) RUN running)) with frames := [(1, { FR with place := .committed 0 .none, mode := 0x10, hz := 865000000, secure := true, level := 5, gen := 1 })], slots := [(0, { SL (att 1 4 16) with ceil := 100 })] }))))),
     1, 0, 0, 0, 0, 0,
     ({ FR with place := .committed 0 .none, mode := 0x10, hz := 865000000, secure := true, level := 5, gen := 1 }), .none,
     by decide⟩⟩

/-- The hypotheses of `Obligations.RootAndPuf`. -/
theorem witness_root_and_puf :
    (∃ (entropyOk : Bool) (read : PufRead) (flashError : Bool) (s : State), lockOpen s = true ∧ keysAccept s = true ∧
      lifecycle s = LC_RECOVERY ∧ entropyOk = true ∧ flashError = false ∧ (read.sram0.isSome = true ∨ read.sram1.isSome =
      true) ∧ read.delay.isSome = true ∧ read.tagOk = true ∧ (rd F.KEYS.ROOT_SEALED s = 0 ∨ s.root.mask.isSome = true) ∧ 512
      ≤ usablePairs s) ∧
    (∃ (s : State), lockOpen s = true ∧ keysAccept s = true ∧ lifecycle s ≠ LC_RECOVERY) ∧
    (∃ (disagree : BitVec 1024) (read : PufRead) (flashError : Bool) (s : State) (h : Helper), lockOpen s = true ∧
      keysAccept s = true ∧ mayRefresh s = true ∧ helper s = some h ∧ h.refresh < 65535 ∧ (read.sram0.isSome = true ∨
      read.sram1.isSome = true) ∧ read.delay.isSome = true ∧ read.tagOk = true ∧ (rd F.KEYS.ROOT_SEALED s = 0 ∨
      s.root.mask.isSome = true) ∧ flashError = false ∧ 512 ≤ usablePairs (strikePairs disagree.toNat s) ∧ Calm s = true) ∧
    (∃ (disagree : BitVec 1024) (read : PufRead) (flashError : Bool) (s : State) (h : Helper), mayRefresh s = true ∧ (17532
      ≤ rd F.KEYS.PUF_AGE s ∨ s.root.alarmAt.isSome = true) ∧ helper s = some h ∧ h.refresh < 65535 ∧ (read.sram0.isSome =
      true ∨ read.sram1.isSome = true) ∧ read.delay.isSome = true ∧ read.tagOk = true ∧ (rd F.KEYS.ROOT_SEALED s = 0 ∨
      s.root.mask.isSome = true) ∧ flashError = false ∧ 512 ≤ usablePairs (strikePairs disagree.toNat s) ∧ Calm s = true) ∧
    (∃ (s : State), rd F.KEYS.PUF_AGE s < 17532 ∧ s.root.alarmAt = none ∧ Calm s = true) ∧
    (∃ (out : Fin 4) (into : Fin 4) (read : PufRead) (flashError : Bool) (s : State) (h : Helper), lockOpen s = true ∧
      keysAccept s = true ∧ mayRefresh s = true ∧ helper s = some h ∧ ((out.val = h.block0 ∨ out.val = h.block1)) ∧ into.val
      ≠ h.block0 ∧ into.val ≠ h.block1 ∧ s.root.blocks.testBit into.val = false ∧ (read.sram0.isSome = true ∨
      read.sram1.isSome = true) ∧ read.delay.isSome = true ∧ read.tagOk = true ∧ (rd F.KEYS.ROOT_SEALED s = 0 ∨
      s.root.mask.isSome = true) ∧ flashError = false ∧ Calm s = true) ∧
    (∃ (entropyOk : Bool) (read : PufRead) (flashError : Bool) (s : State) (h : Helper), lockOpen s = true ∧ keysAccept s =
      true ∧ lifecycle s = LC_RECOVERY ∧ rd F.KEYS.ROOT_SEALED s = 1 ∧ vbatGood s = true ∧ entropyOk = true ∧ flashError =
      false ∧ (read.sram0.isSome = true ∨ read.sram1.isSome = true) ∧ read.delay.isSome = true ∧ read.tagOk = true ∧ helper
      s = some h) :=
  ⟨⟨true, PR, false, (wr F.KEYS.ROOT_SEALED 0 (life LC_RECOVERY (wr F.BAR4.TRUST_STATUS_OPEN 1 running))), by
    decide +kernel⟩,
   ⟨(life 3 (wr F.BAR4.TRUST_STATUS_OPEN 1 running)), by decide⟩,
   ⟨0, PR, false, (wr F.KEYS.ROOT_READY 1 (life 2 ((fun s => { s with root := { s.root with copy0 := some HL } }) (wr
     F.KEYS.ROOT_SEALED 0 (wr F.BAR4.TRUST_STATUS_OPEN 1 running))))), HL, by decide +kernel⟩,
   ⟨0, PR, false, (wr F.KEYS.ROOT_READY 1 (life 2 (wr F.KEYS.PUF_AGE 20000 ((fun s =>
     { s with root := { s.root with copy0 := some HL } }) (wr F.KEYS.ROOT_SEALED 0 running))))), HL, by decide +kernel⟩,
   ⟨running, by decide⟩,
   ⟨0, 2, PR, false, (wr F.KEYS.ROOT_READY 1 (life 2 ((fun s => { s with root := { s.root with copy0 := some HL } }) (wr
     F.KEYS.ROOT_SEALED 0 (wr F.BAR4.TRUST_STATUS_OPEN 1 running))))), HL, by decide⟩,
   ⟨true, PR, false, (wr F.PWR.VBAT_PRESENT 1 ((fun s => { s with root := { s.root with copy0 := some HL } }) (wr
     F.KEYS.ROOT_SEALED 1 (life LC_RECOVERY (wr F.BAR4.TRUST_STATUS_OPEN 1 running))))), HL, by decide⟩⟩

/-- The hypotheses of `Obligations.LifeCycleAndLock`. -/
theorem witness_life_cycle_and_lock :
    (∃ (target : Fin 8) (withSeal : Bool) (flashError : Bool) (s : State), lockOpen s = true ∧ keysAccept s = true ∧
      lifecycle s = LC_PROVISIONED ∧ target.val = LC_DEPLOYED ∧ withSeal = false ∧ rd F.REGLOCK.STATUS_VALID s = 1 ∧
      flashError = false) ∧
    (∃ (target : Fin 8) (withSeal : Bool) (flashError : Bool) (s : State), lockOpen s = true ∧ keysAccept s = true ∧
      lifecycle s = LC_MANUFACTURE ∧ target.val = LC_PROVISIONED ∧ withSeal = false ∧ rd F.KEYS.ROOT_READY s = 1 ∧
      s.root.pinSet = true ∧ flashError = false) ∧
    (∃ (target : Fin 8) (flashError : Bool) (s : State), lockOpen s = true ∧ keysAccept s = true ∧ lifecycle s ≠ LC_BLANK ∧
      lifecycle s ≠ LC_DECOMMISSIONED ∧ target.val = LC_DECOMMISSIONED ∧ flashError = false) ∧
    (∃ (flashError : Bool) (s : State), lockOpen s = true ∧ keysAccept s = true ∧ (lifecycle s = LC_PROVISIONED ∨ lifecycle
      s = LC_DEPLOYED) ∧ rd F.KEYS.ROOT_SEALED s = 0 ∧ rd F.KEYS.ROOT_READY s = 1 ∧ s.root.keys.isSome = true ∧ vbatGood s =
      true ∧ flashError = false ∧ s.boot.held = false ∧ resetNow s = false) ∧
    (∃ (s : State), lockOpen s = true ∧ keysAccept s = true ∧ Calm s = true) ∧
    (∃ (s : State), (lifecycle s = LC_DEPLOYED ∨ lifecycle s = LC_RECOVERY) ∧ pageState 0x33 s ≠ FAULT ∧ some
      (Machine.sha384 (regOctets F.BAR4.TRUST_PUBKEY 24 s) % 2 ^ 384) = s.root.ownerPin ∧ Calm s = true) ∧
    (∃ (s : State), Calm s = true) ∧
    (∃ (s : State), s.root.trustEnd.isSome = true ∧ Calm s = true) :=
  ⟨⟨3, false, false, (wr F.REGLOCK.STATUS_VALID 1 (life LC_PROVISIONED (wr F.BAR4.TRUST_STATUS_OPEN 1 running))), by
    decide⟩,
   ⟨2, false, false, ((fun s => { s with root := { s.root with pinSet := true } }) (wr F.KEYS.ROOT_READY 1 (life
     LC_MANUFACTURE (wr F.BAR4.TRUST_STATUS_OPEN 1 running)))), by decide⟩,
   ⟨5, false, (life 3 (wr F.BAR4.TRUST_STATUS_OPEN 1 running)), by decide⟩,
   ⟨false, (wr F.PWR.VBAT_PRESENT 1 ((fun s => { s with root := { s.root with keys := some (0, 0) } }) (wr F.KEYS.ROOT_READY
     1 (wr F.KEYS.ROOT_SEALED 0 (life LC_PROVISIONED (wr F.BAR4.TRUST_STATUS_OPEN 1 running)))))), by decide⟩,
   ⟨(wr F.BAR4.TRUST_STATUS_OPEN 1 running), by decide⟩,
   ⟨(owned (wr (F.HEAD.STATE_STATE 0x33) RUN (life LC_DEPLOYED running))), ⟨by decide, by decide, owned_meets _, by
     decide⟩⟩,
   ⟨running, by decide⟩,
   ⟨((fun s => { s with root := { s.root with trustEnd := some 0 } }) running), by decide⟩⟩

/-- The hypotheses of `Obligations.KeyOperations`. -/
theorem witness_key_operations :
    (∃ (s : State), lockOpen s = true ∧ keysAccept s = true ∧ rd F.BAR4.LOAD_STATUS_BUSY s = 0 ∧ rd F.KEYS.ROOT_READY s = 1
      ∧ attrGood (loadAttr s) = true ∧ (loadAttr s).getLsbD FRAME_ENC = false) ∧
    (∃ (s : State), lockOpen s = true ∧ keysAccept s = true ∧ rd F.BAR4.LOAD_STATUS_BUSY s = 0 ∧ rd F.KEYS.ROOT_READY s = 1
      ∧ attrGood (loadAttr s) = true ∧ (loadAttr s).getLsbD FRAME_ENC = true ∧ s.slots.any (fun y => y.2.valid && y.2.use
      FRAME_ENC) = false ∧ s.journal.length < 16384) ∧
    (∃ (s : State), lockOpen s = true ∧ keysAccept s = true ∧ rd F.BAR4.LOAD_STATUS_BUSY s = 0 ∧ rd F.KEYS.ROOT_READY s = 1
      ∧ attrGood (loadAttr s) = false) ∧
    (∃ (durable : Bool) (s : State) (o : KeyOp), s.keyOp = some o ∧ o.parent.all (fun x => keyHolds x.1 x.2 s) = true ∧
      ceilingHeld o.finger s = false ∧ durable = true ∧ (journalCeiling o.finger s).getD 0 = o.next.txcnt) ∧
    (∃ (durable : Bool) (s : State) (o : KeyOp), s.keyOp = some o ∧ o.parent.all (fun x => keyHolds x.1 x.2 s) = true ∧
      ceilingHeld o.finger s = false ∧ durable = false) ∧
    (∃ (si : Fin 1024) (s : State) (p : Nat), lockOpen s = true ∧ keysAccept s = true ∧ rd F.BAR4.LOAD_STATUS_BUSY s = 0 ∧
      rd F.KEYS.ROOT_READY s = 1 ∧ rd F.BAR4.LOAD_PARENT s = p ∧ p ≠ si.val ∧ attrGood (loadAttr s) = true ∧ (useSlot p
      HOST_TRUSTED UNWRAP s).1 = .ok ∧ ancestors 4 (Machine.slot p s) s < 3 ∧ (loadAttr s).toNat % 16 = 1 ∧ (loadAttr
      s).getLsbD FRAME_ENC = false) ∧
    (∃ (si : Fin 1024) (labelLen : Fin 32) (contextLen : Fin 32) (s : State) (p : Nat), lockOpen s = true ∧ keysAccept s =
      true ∧ rd F.BAR4.LOAD_STATUS_BUSY s = 0 ∧ rd F.KEYS.ROOT_READY s = 1 ∧ rd F.BAR4.LOAD_PARENT s = p ∧ p ≠ si.val ∧
      attrGood (loadAttr s) = true ∧ (useSlot p HOST_TRUSTED KDF_PARENT s).1 = .ok ∧ ancestors 4 (Machine.slot p s) s < 3 ∧
      labelGood ((loadData s).take labelLen.val) labelLen.val contextLen.val = true ∧ (loadAttr s).getLsbD FRAME_ENC =
      false) ∧
    (∃ (s : State), lockOpen s = true ∧ keysAccept s = true ∧ rd F.BAR4.LOAD_STATUS_BUSY s = 0 ∧ rd F.KEYS.ROOT_READY s = 1)
      ∧
    (∃ (si : Fin 1024) (ddrError : Bool) (s : State), lockOpen s = true ∧ keysAccept s = true ∧ rd F.BAR4.LOAD_STATUS_BUSY s
      = 0 ∧ rd F.KEYS.ROOT_READY s = 1 ∧ ddrError = false ∧ ddrUp s = true ∧ (Machine.slot si.val s).valid = true ∧
      (Machine.slot si.val s).parent = none ∧ (Machine.slot si.val s).attr.getLsbD HOST_TRUSTED = true ∧ Calm s = true) ∧
    (∃ (si : Fin 1024) (s : State), lockOpen s = true ∧ keysAccept s = true ∧ rd F.BAR4.LOAD_STATUS_BUSY s = 0 ∧ rd
      F.KEYS.ROOT_READY s = 1 ∧ (Machine.slot si.val s).valid = false ∧ Calm s = true) ∧
    (∃ (ddrError : Bool) (s : State) (b : List Byte) (a : BitVec 32), lockOpen s = true ∧ keysAccept s = true ∧ rd
      F.BAR4.LOAD_STATUS_BUSY s = 0 ∧ rd F.KEYS.ROOT_READY s = 1 ∧ ddrError = false ∧ ddrUp s = true ∧ readOctets s.ddr
      (loadAddr s) 64 = b ∧ BitVec.ofNat 32 (leBytes ((b.drop 8).take 4)) = a ∧ attrGood a = true ∧ a.getLsbD FRAME_ENC =
      false) ∧
    (∃ (ddrError : Bool) (s : State) (p : Nat), lockOpen s = true ∧ keysAccept s = true ∧ rd F.BAR4.LOAD_STATUS_BUSY s = 0 ∧
      rd F.KEYS.ROOT_READY s = 1 ∧ rd F.BAR4.LOAD_PARENT s = p ∧ (useSlot p HOST_TRUSTED WRAP s).1 = .ok ∧ ddrError = false
      ∧ ddrUp s = true ∧ Calm s = true) ∧
    (∃ (s : State), Calm s = true) ∧
    (∃ (si : Fin 1024) (ok : Bool) (s : State), (Machine.slot si.val s).writing = true ∧ ceilingHeld (fingerprint
      (Machine.slot si.val s).key) s = false ∧ ok = true ∧ Calm s = true) ∧
    (∃ (si : Fin 1024) (ok : Bool) (s : State), (Machine.slot si.val s).writing = true ∧ ceilingHeld (fingerprint
      (Machine.slot si.val s).key) s = false ∧ ok = false ∧ Calm s = true) ∧
    (∃ (s : State) (o : KeyOp) (p : Nat) (g : Nat), s.keyOp = some o ∧ o.parent = some (p, g) ∧ keyHolds p g s = false) :=
  ⟨⟨(wr F.BAR4.LOAD_ATTR (att 1 5 13).toNat (wr F.BAR4.LOAD_ATTR 0x00010001 (wr F.KEYS.ROOT_READY 1 (wr
    F.BAR4.LOAD_STATUS_BUSY 0 (wr F.BAR4.TRUST_STATUS_OPEN 1 running))))), by decide⟩,
   ⟨(wr F.BAR4.LOAD_ATTR (att 1 4 13).toNat (wr F.KEYS.ROOT_READY 1 (wr F.BAR4.LOAD_STATUS_BUSY 0 (wr
     F.BAR4.TRUST_STATUS_OPEN 1 running)))), by decide⟩,
   ⟨(wr F.KEYS.ROOT_READY 1 (wr F.BAR4.LOAD_STATUS_BUSY 0 (wr F.BAR4.TRUST_STATUS_OPEN 1 running))), by decide⟩,
   ⟨true, ({ running with keyOp := some KO }), KO, by decide⟩,
   ⟨false, ({ running with keyOp := some KO }), KO, by decide⟩,
   ⟨1,
     ({ (wr F.BAR4.LOAD_ATTR (att 1 5 13).toNat (wr F.BAR4.LOAD_PARENT 2 (wr F.KEYS.ROOT_READY 1 (wr F.BAR4.LOAD_STATUS_BUSY 0 (wr F.BAR4.TRUST_STATUS_OPEN 1 running))))) with slots := [(2, SL (att 2 9 13))] }),
     2, by decide⟩,
   ⟨1, 1, 0,
     ({ (wr F.BAR4.LOAD_ATTR (att 1 5 13).toNat (wr F.BAR4.LOAD_PARENT 2 (wr F.KEYS.ROOT_READY 1 (wr F.BAR4.LOAD_STATUS_BUSY 0 (wr F.BAR4.TRUST_STATUS_OPEN 1 running))))) with slots := [(2, SL (att 2 7 13))] }),
     2, by decide⟩,
   ⟨(wr F.KEYS.ROOT_READY 1 (wr F.BAR4.LOAD_STATUS_BUSY 0 (wr F.BAR4.TRUST_STATUS_OPEN 1 running))), by decide⟩,
   ⟨0, false,
     ({ (wr F.KEYS.ROOT_READY 1 (wr F.BAR4.LOAD_STATUS_BUSY 0 (wr F.BAR4.TRUST_STATUS_OPEN 1 running))) with slots := [(0, SL (att 2 7 13))] }),
     by decide⟩,
   ⟨0, (wr F.KEYS.ROOT_READY 1 (wr F.BAR4.LOAD_STATUS_BUSY 0 (wr F.BAR4.TRUST_STATUS_OPEN 1 running))), by decide⟩,
   ⟨false,
     ({ (wr F.KEYS.ROOT_READY 1 (wr F.BAR4.LOAD_STATUS_BUSY 0 (wr F.BAR4.TRUST_STATUS_OPEN 1 running))) with ddr := [(8, 0x21), (9, 0x20), (10, 0xF0), (11, 0x83)] }),
     (readOctets [(8, 0x21), (9, 0x20), (10, 0xF0), (11, 0x83)] 0 64), 0x83F02021, by decide⟩,
   ⟨false,
     ({ (wr F.BAR4.LOAD_PARENT 0 (wr F.KEYS.ROOT_READY 1 (wr F.BAR4.LOAD_STATUS_BUSY 0 (wr F.BAR4.TRUST_STATUS_OPEN 1 running)))) with slots := [(0, SL (att 2 8 13))] }),
     0, by decide⟩,
   ⟨running, by decide⟩,
   ⟨1, true, ({ running with slots := [(1, { writing := true })] }), by decide⟩,
   ⟨1, false, ({ running with slots := [(1, { writing := true })] }), by decide⟩,
   ⟨({ running with keyOp := some { KO with parent := some (2, 5) } }), ({ KO with parent := some ⟨2, 5⟩ }), 2, 5, by
     decide⟩⟩

/-- The hypotheses of `Obligations.EngineMismatches`. -/
theorem witness_engine_mismatches :
    (∃ (user : PathUser) (en : Fin 3) (ad : Nat) (ag : Bool) (jb : Bool), user = .storage en ad ag jb ∧ en.val < 3 ∧ ad < 2
      ^ 34) ∧
    (∃ (user : PathUser) (s : State) (j : Job) (e : Nat), user = .job ∧ s.ccmJob = some j ∧ j.engine = some e ∧ e < 9 ∧ Calm
      s = true) ∧
    (∃ (engine : Fin 9) (passed : Bool) (s : State), s.engineChecks.contains engine.val = true ∧ passed = true ∧ Calm s =
      true) ∧
    (∃ (engine : Fin 9) (passed : Bool) (s : State), s.engineChecks.contains engine.val = true ∧ passed = false ∧ rd
      (F.FCRYPTO.ENGINE_STATE engine.val) s = 0 ∧ Calm s = true) ∧
    (∃ (engine : Fin 9) (s : State), rd (F.FCRYPTO.ENGINE_STATE engine.val) s = 1 ∧ rd (F.FCRYPTO.ENGINE_CONTEXTS
      engine.val) s = 0 ∧ Calm s = true) :=
  ⟨⟨(.storage 0 0 false false), 0, 0, false, false, by decide⟩,
   ⟨(.job), ({ running with ccmJob := some { JB with engine := some 0 } }), ({ JB with engine := some 0 }), 0, by decide⟩,
   ⟨0, true, ({ running with engineChecks := [0] }), by decide⟩,
   ⟨0, false, ({ (wr (F.FCRYPTO.ENGINE_STATE 0) 0 running) with engineChecks := [0] }), by decide⟩,
   ⟨0, (wr (F.FCRYPTO.ENGINE_CONTEXTS 0) 0 (wr (F.FCRYPTO.ENGINE_STATE 0) 1 running)), by decide⟩⟩

/-- The hypotheses of `Obligations.CcmJobs`. -/
theorem witness_ccm_jobs :
    (∃ (s : State) (x : Nat) (e : Nat), Accepted 0x31 0x0A4 1 s ∧ pageState 0x31 s = RUN ∧ rd F.FCRYPTO.JOB_STATUS_BUSY s =
      0 ∧ rd F.FCRYPTO.JOB_SLOT s = x ∧ rangesMeet (rd F.FCRYPTO.JOB_SRC s) (rd F.FCRYPTO.JOB_AAD_LEN s + rd
      F.FCRYPTO.JOB_LENGTH s + 0) (rd F.FCRYPTO.JOB_DST s) (rd F.FCRYPTO.JOB_LENGTH s + tagOctets (rd F.FCRYPTO.JOB_TAG_LEN
      s)) = false ∧ (slot x s).attr.getLsbD LANE_CRYPTO = false ∧ ((slot x s).alg = 1 ∨ (slot x s).alg = 2) ∧ (useSlot x
      HOST_NORMAL FRAME_ENC s).1 = .ok ∧ leastLoaded s = some e ∧ Calm s = true) ∧
    (∃ (s : State) (x : Nat) (e : Nat), Accepted 0x31 0x0A4 2 s ∧ pageState 0x31 s = RUN ∧ rd F.FCRYPTO.JOB_STATUS_BUSY s =
      0 ∧ rd F.FCRYPTO.JOB_SLOT s = x ∧ rangesMeet (rd F.FCRYPTO.JOB_SRC s) (rd F.FCRYPTO.JOB_AAD_LEN s + rd
      F.FCRYPTO.JOB_LENGTH s + tagOctets (rd F.FCRYPTO.JOB_TAG_LEN s)) (rd F.FCRYPTO.JOB_DST s) (rd F.FCRYPTO.JOB_LENGTH s +
      0) = false ∧ (slot x s).attr.getLsbD LANE_CRYPTO = false ∧ ((slot x s).alg = 1 ∨ (slot x s).alg = 2) ∧ (useSlot x
      HOST_NORMAL FRAME_DEC s).1 = .ok ∧ leastLoaded s = some e ∧ Calm s = true) ∧
    (∃ (ddrError : Bool) (s : State) (j : Job), s.ccmJob = some j ∧ keyHolds j.slot j.gen s = true ∧ j.fault = false ∧
      ddrError = false ∧ selfRefresh s = false ∧ ddrUp s = true ∧ Calm s = true ∧ j.op = 1) ∧
    (∃ (ddrError : Bool) (s : State) (j : Job), s.ccmJob = some j ∧ keyHolds j.slot j.gen s = true ∧ j.fault = false ∧
      ddrError = false ∧ selfRefresh s = false ∧ ddrUp s = true ∧ Calm s = true ∧ j.op = 2) ∧
    (∃ (s : State) (j : Job), s.ccmJob = some j ∧ keyHolds j.slot j.gen s = false ∧ Calm s = true) :=
  ⟨⟨({ (wr F.FCRYPTO.JOB_SLOT 0 (wr F.FCRYPTO.JOB_STATUS_BUSY 0 (wr (F.HEAD.STATE_STATE 0x31) RUN running))) with slots := [(0, SL (att 1 4 12))] }),
    0, 0, by decide⟩,
   ⟨({ (wr F.FCRYPTO.JOB_SLOT 0 (wr F.FCRYPTO.JOB_STATUS_BUSY 0 (wr (F.HEAD.STATE_STATE 0x31) RUN running))) with slots := [(0, SL (att 1 5 12))] }),
     0, 0, by decide⟩,
   ⟨false, ({ running with ccmJob := some JB }), JB, by decide⟩,
   ⟨false, ({ ({ running with ccmJob := some JB }) with ccmJob := some { JB with op := 2 } }), ({ JB with op := 2 }), by
     decide⟩,
   ⟨({ ({ running with ccmJob := some JB }) with ccmJob := some { JB with gen := 7 } }), ({ JB with gen := 7 }), by decide⟩⟩

/-- The hypotheses of `Obligations.StorageCipherJobs`. -/
theorem witness_storage_cipher_jobs :
    (∃ (s : State) (x : Nat), Accepted 0x32 0x0A4 1 s ∧ sciLengthGood 1 (rd F.SCIPHER.JOB_LENGTH s) (2 ^ rd
      F.SCIPHER.JOB_DU_LOG2 s) = true ∧ pageState 0x32 s = RUN ∧ rd F.SCIPHER.JOB_STATUS_BUSY s = 0 ∧ rd F.SCIPHER.JOB_SLOT
      s = x ∧ (slot x s).alg = 2 ∧ (useSlot x HOST_NORMAL STORAGE s).1 = .ok ∧ Calm s = true) ∧
    (∃ (s : State) (x : Nat), Accepted 0x32 0x0A4 2 s ∧ sciLengthGood 2 (rd F.SCIPHER.JOB_LENGTH s) (2 ^ rd
      F.SCIPHER.JOB_DU_LOG2 s) = true ∧ pageState 0x32 s = RUN ∧ rd F.SCIPHER.JOB_STATUS_BUSY s = 0 ∧ rd F.SCIPHER.JOB_SLOT
      s = x ∧ (slot x s).alg = 2 ∧ (useSlot x HOST_NORMAL STORAGE s).1 = .ok ∧ Calm s = true) ∧
    (∃ (s : State) (x : Nat), Accepted 0x32 0x0A4 3 s ∧ sciLengthGood 3 (rd F.SCIPHER.JOB_LENGTH s) (2 ^ rd
      F.SCIPHER.JOB_DU_LOG2 s) = true ∧ lifecycle s = LC_RECOVERY ∧ pageState 0x32 s = RUN ∧ rd F.SCIPHER.JOB_STATUS_BUSY s
      = 0 ∧ rd F.SCIPHER.JOB_SLOT s = x ∧ (slot x s).alg = 2 ∧ (useSlot x HOST_NORMAL STORAGE s).1 = .ok ∧ Calm s = true) ∧
    (∃ (s : State) (x : Nat), Accepted 0x32 0x0A4 4 s ∧ sciLengthGood 4 (rd F.SCIPHER.JOB_LENGTH s) (2 ^ rd
      F.SCIPHER.JOB_DU_LOG2 s) = true ∧ lifecycle s = LC_RECOVERY ∧ pageState 0x32 s = RUN ∧ rd F.SCIPHER.JOB_STATUS_BUSY s
      = 0 ∧ rd F.SCIPHER.JOB_SLOT s = x ∧ (slot x s).alg = 2 ∧ (useSlot x HOST_NORMAL STORAGE s).1 = .ok ∧ Calm s = true) ∧
    (∃ (s : State) (x : Nat), Accepted 0x32 0x0A4 5 s ∧ sciLengthGood 5 (rd F.SCIPHER.JOB_LENGTH s) (2 ^ rd
      F.SCIPHER.JOB_DU_LOG2 s) = true ∧ lifecycle s = LC_RECOVERY ∧ pageState 0x32 s = RUN ∧ rd F.SCIPHER.JOB_STATUS_BUSY s
      = 0 ∧ rd F.SCIPHER.JOB_SLOT s = x ∧ (slot x s).alg = 2 ∧ (useSlot x HOST_NORMAL STORAGE s).1 = .ok ∧ Calm s = true) ∧
    (∃ (s : State) (x : Nat), Accepted 0x32 0x0A4 6 s ∧ sciLengthGood 6 (rd F.SCIPHER.JOB_LENGTH s) (2 ^ rd
      F.SCIPHER.JOB_DU_LOG2 s) = true ∧ lifecycle s = LC_RECOVERY ∧ pageState 0x32 s = RUN ∧ rd F.SCIPHER.JOB_STATUS_BUSY s
      = 0 ∧ rd F.SCIPHER.JOB_SLOT s = x ∧ (slot x s).alg = 2 ∧ (useSlot x HOST_NORMAL STORAGE s).1 = .ok ∧ Calm s = true) ∧
    (∃ (s : State) (x : Nat), Accepted 0x32 0x0A4 7 s ∧ sciLengthGood 7 (rd F.SCIPHER.JOB_LENGTH s) (2 ^ rd
      F.SCIPHER.JOB_DU_LOG2 s) = true ∧ lifecycle s = LC_RECOVERY ∧ pageState 0x32 s = RUN ∧ rd F.SCIPHER.JOB_STATUS_BUSY s
      = 0 ∧ rd F.SCIPHER.JOB_SLOT s = x ∧ (slot x s).alg = 2 ∧ (useSlot x HOST_NORMAL STORAGE s).1 = .ok ∧ Calm s = true) ∧
    (∃ (ddrError : Bool) (s : State) (j : Job), s.sciJob = some j ∧ keyHolds j.slot j.gen s = true ∧ j.fault = false ∧
      ddrError = false ∧ selfRefresh s = false ∧ ddrUp s = true ∧ (j.src = j.dst ∨ rangesMeet j.src j.len j.dst j.len =
      false) ∧ Calm s = true) :=
  ⟨⟨(wr F.SCIPHER.JOB_LENGTH 4096
    ({ (wr F.SCIPHER.JOB_SLOT 0 (wr F.SCIPHER.JOB_STATUS_BUSY 0 (wr (F.HEAD.STATE_STATE 0x32) RUN running))) with slots := [(0, SL (att 2 6 12))] })),
    0, by decide⟩,
   ⟨(wr F.SCIPHER.JOB_LENGTH 4096
     ({ (wr F.SCIPHER.JOB_SLOT 0 (wr F.SCIPHER.JOB_STATUS_BUSY 0 (wr (F.HEAD.STATE_STATE 0x32) RUN running))) with slots := [(0, SL (att 2 6 12))] })),
     0, by decide⟩,
   ⟨(wr F.SCIPHER.JOB_LENGTH 4096
     ({ (wr F.SCIPHER.JOB_SLOT 0 (wr F.SCIPHER.JOB_STATUS_BUSY 0 (wr (F.HEAD.STATE_STATE 0x32) RUN (life LC_RECOVERY running)))) with slots := [(0, SL (att 2 6 12))] })),
     0, by decide⟩,
   ⟨(wr F.SCIPHER.JOB_LENGTH 4096
     ({ (wr F.SCIPHER.JOB_SLOT 0 (wr F.SCIPHER.JOB_STATUS_BUSY 0 (wr (F.HEAD.STATE_STATE 0x32) RUN (life LC_RECOVERY running)))) with slots := [(0, SL (att 2 6 12))] })),
     0, by decide⟩,
   ⟨(wr F.SCIPHER.JOB_LENGTH 4096
     ({ (wr F.SCIPHER.JOB_SLOT 0 (wr F.SCIPHER.JOB_STATUS_BUSY 0 (wr (F.HEAD.STATE_STATE 0x32) RUN (life LC_RECOVERY running)))) with slots := [(0, SL (att 2 6 12))] })),
     0, by decide⟩,
   ⟨(wr F.SCIPHER.JOB_LENGTH 4096
     ({ (wr F.SCIPHER.JOB_SLOT 0 (wr F.SCIPHER.JOB_STATUS_BUSY 0 (wr (F.HEAD.STATE_STATE 0x32) RUN (life LC_RECOVERY running)))) with slots := [(0, SL (att 2 6 12))] })),
     0, by decide⟩,
   ⟨(wr F.SCIPHER.JOB_LENGTH 4096
     ({ (wr F.SCIPHER.JOB_SLOT 0 (wr F.SCIPHER.JOB_STATUS_BUSY 0 (wr (F.HEAD.STATE_STATE 0x32) RUN (life LC_RECOVERY running)))) with slots := [(0, SL (att 2 6 12))] })),
     0, by decide⟩,
   ⟨false, ({ running with sciJob := some JB }), JB, by decide⟩⟩

/-- The hypotheses of `Obligations.PublicKeyOperations`. -/
theorem witness_public_key_operations :
    (∃ (hashIn : Bool) (si : Fin 1024) (s : State), Accepted 0x33 0x040 (pkeWord 1 hashIn si.val) s ∧ pageState 0x33 s = RUN
      ∧ rd F.PKE.STATUS_BUSY s = 0 ∧ (Machine.slot si.val s).alg = 4 ∧ (Machine.slot si.val s).attr.getLsbD 15 = false ∧
      (useSlot si.val HOST_NORMAL VERIFY s).1 = .ok ∧ Calm s = true) ∧
    (∃ (hashIn : Bool) (si : Fin 1024) (s : State), Accepted 0x33 0x040 (pkeWord 2 hashIn si.val) s ∧ pageState 0x33 s = RUN
      ∧ rd F.PKE.STATUS_BUSY s = 0 ∧ (Machine.slot si.val s).alg = 5 ∧ (Machine.slot si.val s).attr.getLsbD 15 = false ∧
      (useSlot si.val HOST_NORMAL VERIFY s).1 = .ok ∧ Calm s = true) ∧
    (∃ (hashIn : Bool) (si : Fin 1024) (s : State), Accepted 0x33 0x040 (pkeWord 3 hashIn si.val) s ∧ pageState 0x33 s = RUN
      ∧ rd F.PKE.STATUS_BUSY s = 0 ∧ (Machine.slot si.val s).alg = 6 ∧ (Machine.slot si.val s).attr.getLsbD 15 = false ∧
      (useSlot si.val HOST_NORMAL VERIFY s).1 = .ok ∧ Calm s = true) ∧
    (∃ (hashIn : Bool) (si : Fin 1024) (s : State), Accepted 0x33 0x040 (pkeWord 4 hashIn si.val) s ∧ pageState 0x33 s = RUN
      ∧ rd F.PKE.STATUS_BUSY s = 0 ∧ Calm s = true) ∧
    (∃ (hashIn : Bool) (si : Fin 1024) (s : State), Accepted 0x33 0x040 (pkeWord 5 hashIn si.val) s ∧ pageState 0x33 s = RUN
      ∧ rd F.PKE.STATUS_BUSY s = 0 ∧ Calm s = true) ∧
    (∃ (ddrError : Bool) (fault : Bool) (s : State) (o : PkeOp), s.pkeOp = some o ∧ (o.slot = none ∨
      (match o.slot with | some (x, g) => keyHolds x g s | none => false) = true) ∧ ddrError = false ∧ fault = false ∧
      o.result < 16 ∧ Calm s = true) ∧
    (∃ (ddrError : Bool) (fault : Bool) (s : State) (o : PkeOp), s.pkeOp = some o ∧ o.slot = none ∧ ddrError = false ∧ fault
      = true ∧ Calm s = true) :=
  ⟨⟨false, 0,
    ({ (wr F.PKE.STATUS_BUSY 0 (wr (F.HEAD.STATE_STATE 0x33) RUN running)) with slots := [(0, SL (att 4 10 12))] }), by
    decide⟩,
   ⟨false, 0,
     ({ (wr F.PKE.STATUS_BUSY 0 (wr (F.HEAD.STATE_STATE 0x33) RUN running)) with slots := [(0, SL (att 5 10 12))] }), by
     decide⟩,
   ⟨false, 0,
     ({ (wr F.PKE.STATUS_BUSY 0 (wr (F.HEAD.STATE_STATE 0x33) RUN running)) with slots := [(0, SL (att 6 10 12))] }), by
     decide⟩,
   ⟨false, 0, (wr F.PKE.STATUS_BUSY 0 (wr (F.HEAD.STATE_STATE 0x33) RUN running)), by decide⟩,
   ⟨false, 0, (wr F.PKE.STATUS_BUSY 0 (wr (F.HEAD.STATE_STATE 0x33) RUN running)), by decide⟩,
   ⟨false, false, ({ running with pkeOp := some PO }), PO, by decide⟩,
   ⟨false, true, ({ running with pkeOp := some PO }), PO, by decide⟩⟩

/-- The hypotheses of `Obligations.LinksAndReception`. -/
theorem witness_links_and_reception :
    (∃ (pn : Fin 2) (los : Bool) (sync : Bool) (remote : Bool) (s : State), pageState (ethPage pn.val) s ≠ OFF ∧ rd
      (F.ETH.MODE_SEL pn.val) s < 3 ∧ los = false ∧ sync = true ∧ remote = false ∧ rd (F.ETH.STATUS_UP pn.val) s = 0) ∧
    (∃ (pn : Fin 2) (los : Bool) (sync : Bool) (s : State), pageState (ethPage pn.val) s ≠ OFF ∧ los = false ∧ sync = false
      ∧ rd (F.ETH.STATUS_UP pn.val) s = 1) ∧
    (∃ (pn : Fin 2) (size : Nat) (fcsOk : Bool) (since : Nat) (s : State), receptionOpen pn.val (s.now - since) s = true ∧
      begunDraining pn.val (s.now - since) s = false ∧ pageState (ethPage pn.val) s = RUN ∧ rd (F.ETH.STATUS_UP pn.val) s =
      1 ∧ fcsOk = true ∧ 64 ≤ size ∧ size ≤ rd (F.ETH.MAX_FRAME pn.val) s ∧ stagingFull pn.val size s = false ∧ Calm s =
      true) ∧
    (∃ (pn : Fin 2) (size : Nat) (since : Nat) (s : State), receptionOpen pn.val (s.now - since) s = true ∧ begunDraining
      pn.val (s.now - since) s = false ∧ pageState (ethPage pn.val) s = RUN ∧ rd (F.ETH.STATUS_UP pn.val) s = 1 ∧ size < 64
      ∧ Calm s = true) ∧
    (∃ (pn : Fin 2) (size : Nat) (fcsOk : Bool) (since : Nat) (s : State), receptionOpen pn.val (s.now - since) s = true ∧
      begunDraining pn.val (s.now - since) s = false ∧ pageState (ethPage pn.val) s = RUN ∧ rd (F.ETH.STATUS_UP pn.val) s =
      1 ∧ fcsOk = false ∧ 64 ≤ size ∧ size ≤ rd (F.ETH.MAX_FRAME pn.val) s ∧ Calm s = true) :=
  ⟨⟨0, false, true, false, (wr (F.ETH.STATUS_UP 0) 0 (wr (F.HEAD.STATE_STATE (ethPage 0)) RUN running)), by decide⟩,
   ⟨0, false, false, (wr (F.ETH.STATUS_UP 0) 1 (wr (F.ETH.STATUS_UP 0) 1 (wr (F.HEAD.STATE_STATE (ethPage 0)) RUN
     running))), by decide⟩,
   ⟨0, 64, true, 0, (wr (F.ETH.STATUS_UP 0) 1 (wr (F.ETH.STATUS_UP 0) 1 (wr (F.HEAD.STATE_STATE (ethPage 0)) RUN running))),
     by decide⟩,
   ⟨0, 0, 0, (wr (F.ETH.STATUS_UP 0) 1 (wr (F.ETH.STATUS_UP 0) 1 (wr (F.HEAD.STATE_STATE (ethPage 0)) RUN running))), by
     decide⟩,
   ⟨0, 64, false, 0, (wr (F.ETH.STATUS_UP 0) 1 (wr (F.ETH.STATUS_UP 0) 1 (wr (F.HEAD.STATE_STATE (ethPage 0)) RUN
     running))), by decide⟩⟩

/-- The hypotheses of `Obligations.EgressAndPause`. -/
theorem witness_egress_and_pause :
    (∃ (pn : Fin 2) (s : State) (x : Egress) (r : List Egress), (port pn.val s).offers = x :: r ∧ pageState (ethPage pn.val)
      s = RUN ∧ roleMuted s = false ∧ Calm s = true) ∧
    (∃ (pn : Fin 2) (s : State) (x : Egress) (r : List Egress) (id : Nat), (port pn.val s).offers = x :: r ∧ pageState
      (ethPage pn.val) s ≠ RUN ∧ x.frames = [id] ∧ x.fromSlot = none ∧ Calm s = true) ∧
    (∃ (pn : Fin 2) (s : State) (x : Egress) (r : List Egress), (port pn.val s).busy = false ∧ rd (F.ETH.STATUS_UP pn.val) s
      = 1 ∧ (port pn.val s).pauseWait = none ∧ (pageState (ethPage pn.val) s = RUN ∨ pageState (ethPage pn.val) s =
      DRAINING) ∧ pausedByPeer pn.val s = false ∧ roleMuted s = false ∧ (port pn.val s).queue = x :: r ∧ (x.tsMode < 2 ∨
      pageState 0x3D s ≠ RUN ∨ x.ptpType ≠ some (if x.tsMode = 2 then 0 else 3)) ∧ Calm s = true) ∧
    (∃ (pn : Fin 2) (s : State) (q : Nat), (port pn.val s).busy = false ∧ rd (F.ETH.STATUS_UP pn.val) s = 1 ∧ (port pn.val
      s).pauseWait = some q ∧ Calm s = true) ∧
    (∃ (pn : Fin 2) (s : State) (x : Egress) (id : Nat), (port pn.val s).airPause = none ∧ (port pn.val s).airFrame = some x
      ∧ x.fromSlot = none ∧ x.tsMode ≠ 1 ∧ x.frames = [id]) ∧
    (∃ (pn : Fin 2) (s : State) (x : Egress) (id : Nat), (port pn.val s).queue = [x] ∧ x.fromSlot = none ∧ x.frames = [id])
      ∧
    (∃ (pn : Fin 2) (s : State), rd (F.ETH.BUFFER_HIGH pn.val) s ≤ rd (F.ETH.BUFFER_LEVEL pn.val) s ∧ pauseRules pn.val s =
      true ∧ (pauseActive pn.val s).2 = true ∧ rd (F.ETH.STATUS_PAUSE_GAVE_UP pn.val) s = 0 ∧ rd (F.ETH.STATUS_PAUSING_PEER
      pn.val) s = 0) ∧
    (∃ (pn : Fin 2) (s : State), pauseRules pn.val s = true ∧ rd (F.ETH.STATUS_PAUSING_PEER pn.val) s = 1 ∧ rd
      (F.ETH.BUFFER_LOW pn.val) s < rd (F.ETH.BUFFER_LEVEL pn.val) s ∧ (pauseActive pn.val s).2 = true) ∧
    (∃ (pn : Fin 2) (s : State), rd (F.ETH.BUFFER_LEVEL pn.val) s ≤ rd (F.ETH.BUFFER_LOW pn.val) s) ∧
    (∃ (pn : Fin 2) (s : State), rd (F.ETH.STATUS_PAUSING_PEER pn.val) s = 1 ∧ rd (F.ETH.PAUSE_MAX_HOLD pn.val) s ≠ 0 ∧
      pauseRules pn.val s = true) ∧
    (∃ (pn : Fin 2) (s : State) (x : Egress) (r : List Egress), (port pn.val s).busy = false ∧ rd (F.ETH.STATUS_UP pn.val) s
      = 1 ∧ (port pn.val s).pauseWait = none ∧ (pageState (ethPage pn.val) s = RUN ∨ pageState (ethPage pn.val) s =
      DRAINING) ∧ pausedByPeer pn.val s = false ∧ roleMuted s = false ∧ (port pn.val s).queue = x :: r ∧ 2 ≤ x.tsMode ∧
      x.ptpType = some (if x.tsMode = 2 then 0 else 3) ∧ pageState 0x3D s = RUN ∧ Calm s = true) :=
  ⟨⟨0, (withPort { offers := [EG] } (wr (F.HEAD.STATE_STATE (ethPage 0)) RUN running)), EG, [], by decide⟩,
   ⟨0, (withPort { offers := [{ EG with frames := [1] }] } (wr (F.HEAD.STATE_STATE (ethPage 0)) STOPPED running)),
     ({ EG with frames := [1] }), [], 1, by decide⟩,
   ⟨0, (withPort { queue := [EG] } (wr (F.ETH.STATUS_UP 0) 1 (wr (F.HEAD.STATE_STATE 0x38) RUN running))), EG, [], by
     decide⟩,
   ⟨0, (withPort { pauseWait := some 5 } (wr (F.ETH.STATUS_UP 0) 1 running)), 5, by decide⟩,
   ⟨0, (withPort { airFrame := some { EG with frames := [1] } } running), ({ EG with frames := [1] }), 1, by decide⟩,
   ⟨0, (withPort { queue := [{ EG with frames := [1] }] } running), ({ EG with frames := [1] }), 1, by decide⟩,
   ⟨0, (wr (F.ETH.BUFFER_LEVEL 0) 20000 (wr (F.ETH.STATUS_PAUSING_PEER 0) 0 (wr (F.ETH.STATUS_PAUSE_GAVE_UP 0) 0 running))),
     by decide⟩,
   ⟨0, (wr (F.ETH.BUFFER_LEVEL 0) 20000 (wr (F.ETH.STATUS_PAUSING_PEER 0) 1 running)), by decide⟩,
   ⟨0, running, by decide⟩,
   ⟨0, (wr (F.ETH.PAUSE_MAX_HOLD 0) 1 (wr (F.ETH.STATUS_PAUSING_PEER 0) 1 running)), by decide⟩,
   ⟨0, (withPort { queue := [{ EG with tsMode := 2, ptpType := some 0, content := List.replicate 44 0 }] } (wr
     (F.ETH.STATUS_UP 0) 1 (wr (F.HEAD.STATE_STATE 0x3D) RUN (wr (F.HEAD.STATE_STATE 0x38) RUN running)))),
     ({ EG with tsMode := 2, ptpType := some 0, content := List.replicate 44 0 }), [], by decide⟩⟩

/-- The hypotheses of `Obligations.ModuleManagement`. -/
theorem witness_module_management :
    (∃ (pn : Fin 2) (absent : Bool) (s : State), rd (F.ETH.SFP_CFG_ENABLE pn.val) s = 1 ∧ absent = true ∧ rd
      (F.ETH.SFP_STATUS_PRESENT pn.val) s = 1) ∧
    (∃ (pn : Fin 2) (absent : Bool) (s : State), rd (F.ETH.SFP_CFG_ENABLE pn.val) s = 1 ∧ absent = false ∧ rd
      (F.ETH.SFP_STATUS_PRESENT pn.val) s = 0) ∧
    (∃ (pn : Fin 2) (s : State), rd (F.ETH.SFP_CFG_ENABLE pn.val) s = 1 ∧ rd (F.ETH.SFP_STATUS_PRESENT pn.val) s = 1 ∧ rd
      (F.ETH.SFP_STATUS_BUSY pn.val) s = 0) ∧
    (∃ (pn : Fin 2) (s : State), rd (F.ETH.SFP_CFG_ENABLE pn.val) s = 1 ∧ rd (F.ETH.SFP_STATUS_DDM pn.val) s = 1 ∧ rd
      (F.ETH.SFP_STATUS_BUSY pn.val) s = 0) ∧
    (∃ (pn : Fin 2) (level : Bool) (s : State), rd (F.ETH.SFP_STATUS_LOS pn.val) s = 0 ∧ level = true) ∧
    (∃ (pn : Fin 2) (data : Word) (s : State), Accepted (0x38 + pn.val) 0x0CC data.toNat s ∧ rd (F.ETH.SFP_STATUS_BUSY
      pn.val) s = 0 ∧ rd (F.ETH.SFP_CFG_ENABLE pn.val) s = 1 ∧ rd (F.ETH.SFP_STATUS_PRESENT pn.val) s = 1) ∧
    (∃ (pn : Fin 2) (s : State) (w : Word), (port pn.val s).access = some w) ∧
    (∃ (pn : Fin 2) (s : State) (w : Word), (port pn.val s).access = some w ∧ (port pn.val s).retries < 3) ∧
    (∃ (pn : Fin 2) (s : State) (w : Word), (port pn.val s).access = some w ∧ 3 ≤ (port pn.val s).retries) :=
  ⟨⟨0, true, (wr (F.ETH.SFP_STATUS_PRESENT 0) 1 (wr (F.ETH.SFP_CFG_ENABLE 0) 1 running)), by decide⟩,
   ⟨0, false, (wr (F.ETH.SFP_STATUS_PRESENT 0) 0 (wr (F.ETH.SFP_CFG_ENABLE 0) 1 running)), by decide⟩,
   ⟨0, (wr (F.ETH.SFP_STATUS_BUSY 0) 0 (wr (F.ETH.SFP_STATUS_PRESENT 0) 1 (wr (F.ETH.SFP_CFG_ENABLE 0) 1 running))), by
     decide⟩,
   ⟨0, (wr (F.ETH.SFP_STATUS_BUSY 0) 0 (wr (F.ETH.SFP_STATUS_DDM 0) 1 (wr (F.ETH.SFP_CFG_ENABLE 0) 1 running))), by decide⟩,
   ⟨0, true, (wr (F.ETH.SFP_STATUS_LOS 0) 0 running), by decide⟩,
   ⟨0, 0, (wr (F.ETH.SFP_STATUS_PRESENT 0) 1 (wr (F.ETH.SFP_CFG_ENABLE 0) 1 (wr (F.ETH.SFP_STATUS_BUSY 0) 0 running))), by
     decide⟩,
   ⟨0, (withPort { access := some 0 } running), 0, by decide⟩,
   ⟨0, (withPort { access := some 0 } running), 0, by decide⟩,
   ⟨0, (withPort { access := some 0, retries := 3 } running), 0, by decide⟩⟩

/-- The hypotheses of `Obligations.TimeReadsAndSteps`. -/
theorem witness_time_reads_and_steps :
    (∃ (route : Route) (data : Word) (s : State), reaches 0x3C route = true ∧ refusal 0x3C 0x044 route data.toNat s = none ∧
      data.toNat < 4 ∧ 9995 * 2 ^ 32 ≤ (data.toNat * 2 ^ 32 + rd F.TIME.INCR_LO s) * 10000 ∧ (data.toNat * 2 ^ 32 + rd
      F.TIME.INCR_LO s) * 10000 ≤ 10005 * 2 ^ 32) ∧
    (∃ (route : Route) (data : Word) (s : State), reaches 0x3C route = true ∧ data.toNat < 4 ∧ 10005 * 2 ^ 32 < (data.toNat
      * 2 ^ 32 + rd F.TIME.INCR_LO s) * 10000) ∧
    (∃ (route : Route) (meshHold : Bool) (s : State), reaches 0x3C route = true ∧ refusal 0x3C 0x06C route (if meshHold then
      0x101 else 1) s = none ∧ stepOutstanding s = false) ∧
    (∃ (route : Route) (meshHold : Bool) (s : State), reaches 0x3C route = true ∧ refusal 0x3C 0x06C route (if meshHold then
      0x102 else 2) s = none ∧ stepOutstanding s = false) ∧
    (∃ (s : State), rd F.TIME.STATUS_UNSET s = 0 ∧ rd F.TIME.STATUS_HOLDOVER s = 0) ∧
    (∃ (data : Word) (s : State), Accepted 0x3C 0x0B4 data.toNat s) :=
  ⟨⟨.bar0, 1, running, by decide⟩,
   ⟨.bar0, 3, running, by decide⟩,
   ⟨.bar0, false, running, by decide⟩,
   ⟨.bar0, false, running, by decide⟩,
   ⟨(wr F.TIME.STATUS_HOLDOVER 0 (wr F.TIME.STATUS_UNSET 0 running)), by decide⟩,
   ⟨0, running, by decide⟩⟩

/-- The hypotheses of `Obligations.PulsesAndTimestamps`. -/
theorem witness_pulses_and_timestamps :
    (∃ (s : State), pageState 0x3C s = RUN ∧ rd F.TIME.PPS_IN_CFG_ENABLE s = 1 ∧ s.clock.ppsLast = none) ∧
    (∃ (ago : Nat) (s : State) (x : Nat), pageState 0x3C s = RUN ∧ rd F.TIME.PPS_IN_CFG_ENABLE s = 1 ∧ s.clock.ppsLast =
      some x ∧ rd F.TIME.PPS_IN_CFG_TOL_US s * 1000 < Machine.dist (advNs s - ago - x) 1000000000) ∧
    (∃ (s : State), pageState 0x3C s = RUN ∧ rd F.TIME.PPS_IN_CFG_ENABLE s = 1 ∧ s.clock.ppsLost = false) ∧
    (∃ (s : State), pageState 0x3C s = RUN ∧ rd F.TIME.PPS_OUT_CFG_ENABLE s = 1 ∧ rd F.TIME.PPS_OUT_CFG_GATE s = 0 ∧
      s.clock.pulse = false ∧ (s.clock.pulseAt = none ∨ s.clock.top < s.clock.device)) ∧
    (∃ (s : State), rd F.TIME.PPS_OUT_CFG_GATE s = 1 ∧ (rd F.TIME.STATUS_HOLDOVER s = 1 ∨ rd F.TIME.STATUS_UNSET s = 1)) ∧
    (∃ (pn : Fin 2) (s : State) (e : TsEntry) (r : List TsEntry), (port pn.val s).tsq = e :: r) ∧
    (∃ (s : State) (a : Nat), s.clock.pulseAt = some a ∧ advNs s < a + 500000000 ∧ s.clock.device ≤ s.clock.top) :=
  ⟨⟨(wr F.TIME.PPS_IN_CFG_ENABLE 1 (wr (F.HEAD.STATE_STATE 0x3C) RUN running)), by decide⟩,
   ⟨0, ((fun s => { s with clock := { s.clock with ppsLast := some 0 } }) (wr F.TIME.PPS_IN_CFG_ENABLE 1 (wr
     (F.HEAD.STATE_STATE 0x3C) RUN running))), 0, by decide⟩,
   ⟨(wr F.TIME.PPS_IN_CFG_ENABLE 1 (wr (F.HEAD.STATE_STATE 0x3C) RUN running)), by decide⟩,
   ⟨(wr F.TIME.PPS_OUT_CFG_GATE 0 (wr F.TIME.PPS_OUT_CFG_ENABLE 1 (wr (F.HEAD.STATE_STATE 0x3C) RUN running))), by decide⟩,
   ⟨(wr F.TIME.STATUS_HOLDOVER 1 (wr F.TIME.PPS_OUT_CFG_GATE 1 running)), by decide⟩,
   ⟨0, (withPort { tsq := [{ tsId := 1, mtype := 0, seq := 0, stamp := 0 }] } running),
     ({ tsId := 1, mtype := 0, seq := 0, stamp := 0 }), [], by decide⟩,
   ⟨((fun s => { s with clock := { s.clock with pulseAt := some 0 } }) running), 0, by decide⟩⟩

/-- The hypotheses of `Obligations.FunctionAndCopies`. -/
theorem witness_function_and_copies :
    (∃ (s : State), Calm s = true) ∧
    (∃ (up : Bool) (speed : Nat) (width : Nat) (s : State), up = true ∧ speed < 8 ∧ width < 8 ∧ Calm s = true) ∧
    (∃ (up : Bool) (s : State), up = false ∧ Calm s = true) ∧
    (∃ (s : State), Accepted 0x40 0x070 1 s ∧ rd F.HOSTIF.COPY_WIN s + rd F.HOSTIF.COPY_LENGTH s ≤ 2 ^ 28 ∧ pageState 0x40 s
      = RUN ∧ rd F.HOSTIF.COPY_STATUS_BUSY s = 0 ∧ ddrUp s = true ∧ s.msix.master = true ∧ s.msix.link = true ∧ Calm s =
      true) ∧
    (∃ (s : State), Accepted 0x40 0x070 2 s ∧ rd F.HOSTIF.COPY_WIN s + rd F.HOSTIF.COPY_LENGTH s ≤ 2 ^ 28 ∧ pageState 0x40 s
      = RUN ∧ rd F.HOSTIF.COPY_STATUS_BUSY s = 0 ∧ ddrUp s = true ∧ s.msix.master = true ∧ s.msix.link = true ∧ Calm s =
      true) ∧
    (∃ (s : State) (c : CopyOp), s.copy = some c ∧ c.toHost = true ∧ Calm s = true) ∧
    (∃ (how : CopyHow) (octets : List Byte) (s : State) (c : CopyOp), s.copy = some c ∧ how = .complete ∧ c.toHost = false ∧
      octets.length = c.len ∧ c.len < 2 ^ 29 ∧ Calm s = true) ∧
    (∃ (s : State), Accepted 0x40 0x058 0xC3A5 s ∧ s.boot.held = false ∧ resetNow s = false) :=
  ⟨⟨running, by decide⟩,
   ⟨true, 3, 4, running, by decide⟩,
   ⟨false, running, by decide⟩,
   ⟨((fun s => { s with msix := { s.msix with link := true, master := true } }) (wr F.HOSTIF.COPY_STATUS_BUSY 0 (wr
     (F.HEAD.STATE_STATE 0x40) RUN running))), by decide⟩,
   ⟨((fun s => { s with msix := { s.msix with link := true, master := true } }) (wr F.HOSTIF.COPY_STATUS_BUSY 0 (wr
     (F.HEAD.STATE_STATE 0x40) RUN running))), by decide⟩,
   ⟨({ running with copy := some { toHost := true, host := 0, win := 0, len := 0 } }),
     ({ toHost := true, host := 0, win := 0, len := 0 }), by decide⟩,
   ⟨(.complete), [],
     ({ ({ running with copy := some { toHost := true, host := 0, win := 0, len := 0 } }) with copy := some { toHost := false, host := 0, win := 0, len := 0 } }),
     ({ toHost := false, host := 0, win := 0, len := 0 }), by decide⟩,
   ⟨running, by decide⟩⟩

/-- The hypotheses of `Obligations.ReceiveRings`. -/
theorem witness_receive_rings :
    (∃ (access : Bar2) (ecc : Ecc) (s : State) (off : Nat) (n : Nat), access = .read off n ∧ ecc = .clean ∧ pageState 0x40 s
      ≠ OFF ∧ ddrUp s = true ∧ rd F.DDR.FILL_STATE s ≠ 1 ∧ Calm s = true) ∧
    (∃ (access : Bar2) (ecc : Ecc) (s : State) (off : Nat) (v : Byte), access = .write off [some v] ∧ ecc ≠ .failed ∧
      pageState 0x40 s ≠ OFF ∧ ddrUp s = true ∧ selfRefresh s = false ∧ rd F.DDR.FILL_STATE s ≠ 1 ∧ inTestRow (winAddr off
      s) s = false ∧ tallyRing off s = none ∧ (List.range 16).all (fun r => !isSet (F.RINGS.RING_CFG_ENABLE r) s || (ring r
      s).waiting.isEmpty) = true ∧ Calm s = true) ∧
    (∃ (ri : Fin 32) (s : State), Accepted 0x41 (0x100 + 0x20 * ri.val) ((wordRead 0x41 (0x100 + 0x20 * ri.val) .bar0 s |||
      1) % 2 ^ 32) s ∧ rd (F.RINGS.RING_CFG_ENABLE ri.val) s = 0 ∧ Calm s = true) ∧
    (∃ (s : State) (x : Item) (rest : List Item) (r : Nat) (id : Nat), s.delivered = x :: rest ∧ classRing x.cls s = r ∧ r <
      16 ∧ rd (F.RINGS.RING_CFG_ENABLE r) s = 0 ∧ x.frames = [id] ∧ x.node = none ∧ Calm s = true) ∧
    (∃ (ecc : Bool) (s : State) (x : Item) (rest : List Item) (r : Nat), s.delivered = x :: rest ∧ classRing x.cls s = r ∧ r
      < 16 ∧ pageState 0x41 s = RUN ∧ rd (F.RINGS.RING_CFG_ENABLE r) s = 1 ∧ ecc = false ∧ (ring r s).waiting = [] ∧
      x.octets ≤ 4032 ∧ 1 ≤ ringSize r s ∧ rd (F.RINGS.RING_POS_NEXT r) s < ringSize r s ∧ tally r (rd
      (F.RINGS.RING_POS_NEXT r) s) s = (rd (F.RINGS.RING_POS_LAP r) s + 63) % 64 * 4 ∧ Calm s = true ∧ MemoryFormed s ∧
      ringFits r s = true) ∧
    (∃ (ri : Fin 32) (s : State) (f : Fill) (rest : List Fill) (l : Nat) (id : Nat), (Machine.ring ri.val s).fills = f ::
      rest ∧ f.count = 1 ∧ f.slot < ringSize ri.val s ∧ f.laps = [l] ∧ l < 64 ∧ f.item.frames = [id] ∧ f.item.node = none ∧
      ringFits ri.val s = true ∧ Calm s = true ∧ MemoryFormed s) ∧
    (∃ (ri : Fin 32) (s : State) (x : Item) (id : Nat), (Machine.ring ri.val s).waiting = [x] ∧ x.frames = [id] ∧ x.node =
      none ∧ Calm s = true) ∧
    (∃ (ri : Fin 32) (si : Nat) (octets : List (Option Byte)) (s : State) (v : Byte), pageState 0x40 s ≠ OFF ∧ octets =
      [some v] ∧ tallyRing (tallyOff ri.val si s) s = some ri.val ∧ si < ringSize ri.val s ∧ hostMay ri.val (tally ri.val si
      s) v.toNat = true ∧ (List.range 16).all (fun r => (Machine.ring r s).waiting.isEmpty) = true ∧ Calm s = true ∧
      MemoryFormed s) ∧
    (∃ (ri : Fin 32) (si : Nat) (octets : List (Option Byte)) (s : State) (v : Byte), pageState 0x40 s ≠ OFF ∧ octets =
      [some v] ∧ tallyRing (tallyOff ri.val si s) s = some ri.val ∧ hostMay ri.val (tally ri.val si s) v.toNat = false ∧
      (List.range 16).all (fun r => (Machine.ring r s).waiting.isEmpty) = true ∧ Calm s = true) ∧
    (∃ (access : Bar2) (ecc : Ecc) (s : State) (off : Nat) (octets : List (Option Byte)), access = .write off octets ∧ ecc =
      .failed ∧ pageState 0x40 s ≠ OFF ∧ ddrUp s = true ∧ selfRefresh s = false ∧ rd F.DDR.FILL_STATE s ≠ 1 ∧ inTestRow
      (winAddr (off + octets.length - 1) s) s = false ∧ Calm s = true) :=
  ⟨⟨(.read 0 4), (.clean), (wr (F.HEAD.STATE_STATE 0x40) RUN running), 0, 4, by decide⟩,
   ⟨(.write 0 [some 1]), .clean, (wr F.DDR.SIZE_GIB 2 (wr (F.HEAD.STATE_STATE 0x40) RUN running)), 0, 1, by decide⟩,
   ⟨0, (wr (F.RINGS.RING_TALLY_OFF 0) 1024 (wr (F.RINGS.RING_CFG_ENABLE 0) 0 running)), by decide⟩,
   ⟨({ (wr (F.RINGS.RING_CFG_ENABLE 0) 0 running) with delivered := [{ IT with frames := [1] }] }),
     ({ IT with frames := [1] }), [], 0, 1, by decide⟩,
   ⟨false, (wr (F.RINGS.RING_TALLY_OFF 0) 1024 (wr (F.RINGS.RING_POS_LAP 0) 1
     ({ (wr (F.RINGS.RING_CFG_ENABLE 0) 1 (wr (F.HEAD.STATE_STATE 0x41) RUN running)) with delivered := [{ IT with frames := [1] }] }))),
     ({ IT with frames := [1] }), [], 0, by decide⟩,
   ⟨0, (wr (F.RINGS.RING_TALLY_OFF 0) 1024
     ({ running with rings := [(0, { fills := [{ FI with item := { IT with frames := [1] } }] })] })),
     ({ FI with item := { IT with frames := [1] } }), [], 0, 1, by decide⟩,
   ⟨0, ({ running with rings := [(0, { waiting := [{ IT with frames := [1] }] })] }), ({ IT with frames := [1] }), 1, by
     decide⟩,
   ⟨16, 0, ([some 1]), (wr (F.RINGS.RING_CFG_ENABLE 16) 1 (wr (F.HEAD.STATE_STATE 0x40) RUN running)), 1, by decide⟩,
   ⟨0, 0, ([some 2]), (wr (F.RINGS.RING_CFG_ENABLE 0) 1 (wr (F.HEAD.STATE_STATE 0x40) RUN running)), 2, by decide⟩,
   ⟨(.write 0 [some 1]), .failed, (wr F.DDR.SIZE_GIB 2 (wr (F.HEAD.STATE_STATE 0x40) RUN running)), 0, ([some 1]), by
     decide⟩⟩

/-- The hypotheses of `Obligations.TransmitSlots`. -/
theorem witness_transmit_slots :
    (∃ (ri : Fin 32) (lost : SlotLoss) (s : State), 16 ≤ ri.val ∧ pageState 0x41 s = RUN ∧ rd (F.RINGS.RING_CFG_ENABLE
      ri.val) s = 1 ∧ lost = .none ∧ tally ri.val (rd (F.RINGS.RING_POS_NEXT ri.val) s) s % 4 = T_POISON ∧ 1 ≤ ringSize
      ri.val s ∧ ringSize ri.val s ≤ 4096 ∧ rd (F.RINGS.RING_POS_NEXT ri.val) s < ringSize ri.val s ∧ Calm s = true) ∧
    (∃ (ri : Fin 32) (lost : SlotLoss) (s : State), 16 ≤ ri.val ∧ pageState 0x41 s = RUN ∧ rd (F.RINGS.RING_CFG_ENABLE
      ri.val) s = 1 ∧ lost = .none ∧ tally ri.val (rd (F.RINGS.RING_POS_NEXT ri.val) s) s % 4 = T_DEVICE ∧ slotHeld ri.val
      (rd (F.RINGS.RING_POS_NEXT ri.val) s) s = false ∧ tally ri.val (rd (F.RINGS.RING_POS_NEXT ri.val) s) s / 4 ≠ rd
      (F.RINGS.RING_POS_LAP ri.val) s ∧ 1 ≤ ringSize ri.val s ∧ rd (F.RINGS.RING_POS_NEXT ri.val) s < ringSize ri.val s ∧
      Calm s = true ∧ MemoryFormed s) ∧
    (∃ (ri : Fin 32) (lost : SlotLoss) (s : State) (i : Nat) (n : Nat) (x : Egress), 16 ≤ ri.val ∧ pageState 0x41 s = RUN ∧
      rd (F.RINGS.RING_CFG_ENABLE ri.val) s = 1 ∧ lost = .none ∧ tally ri.val (rd (F.RINGS.RING_POS_NEXT ri.val) s) s % 4 =
      T_DEVICE ∧ slotHeld ri.val (rd (F.RINGS.RING_POS_NEXT ri.val) s) s = false ∧ tally ri.val (rd (F.RINGS.RING_POS_NEXT
      ri.val) s) s / 4 = rd (F.RINGS.RING_POS_LAP ri.val) s ∧ rd (F.RINGS.RING_POS_NEXT ri.val) s = i ∧ i < ringSize ri.val
      s ∧ chainLength ri.val i s = 1 ∧ slotLengths ri.val i s = true ∧ rd (F.RINGS.RING_CFG_KIND ri.val) s = 0 ∧ ethSlot
      ri.val i (hdr (slotHeader ri.val i s) 0 4 % 2 ^ 14) (slotHeader ri.val i s) (slotPayload ri.val i (hdr (slotHeader
      ri.val i s) 0 4 % 2 ^ 14) s) s = some (n, x) ∧ bufferFits (hdr (slotHeader ri.val i s) 0 4 % 2 ^ 14) s = true ∧ Calm s
      = true) :=
  ⟨⟨16, (.none),
    ({ (wr (F.RINGS.RING_CFG_ENABLE 16) 1 (wr (F.RINGS.RING_CFG_ENABLE 16) 1 (wr (F.HEAD.STATE_STATE 0x41) RUN running))) with ddr := [(0, 3)] }),
    by decide⟩,
   ⟨16, (.none),
     ({ (wr (F.RINGS.RING_CFG_ENABLE 16) 1 (wr (F.RINGS.RING_CFG_ENABLE 16) 1 (wr (F.HEAD.STATE_STATE 0x41) RUN running))) with ddr := [(0, 5)] }),
     by decide⟩,
   ⟨16, (.none), (wr (F.RINGS.RING_TALLY_OFF 16) 1024
     ({ (wr (F.RINGS.RING_CFG_ENABLE 16) 1 (wr (F.RINGS.RING_CFG_KIND 16) 0 (wr (F.RINGS.RING_POS_NEXT 16) 0 (wr (F.RINGS.RING_CFG_ENABLE 16) 1 (wr (F.HEAD.STATE_STATE 0x41) RUN running))))) with ddr := [(0, 60), (2, 1), (65536, 1)] })),
     0, 0, ({ fromSlot := some (16, 0), octets := 60, content := List.replicate 60 0 }), by decide +kernel⟩⟩

/-- The hypotheses of `Obligations.DdrAndFlash`. -/
theorem witness_ddr_and_flash :
    (∃ (s : State), Calm s = true) ∧
    (∃ (finds : List SramFind) (s : State), pageState 0x46 s = RUN ∧ finds = []) ∧
    (∃ (finds : List SramFind) (s : State) (i : Fin 262144) (o : Nat), pageState 0x46 s = RUN ∧ finds =
      [{ place := .core i false, off := o, again := none }] ∧ o < 2 ^ 24) ∧
    (∃ (ecc : Ecc) (s : State) (y : Byte), pageState 0x46 s = RUN ∧ ddrUp s = true ∧ selfRefresh s = false ∧ inTestRow
      (scrubAt s) s = false ∧ (rd F.DDR.FILL_STATE s ≠ 1 ∨ s.mem.filled.contains (chunkOf (scrubAt s)) = true) ∧ ecc =
      .corrected y ∧ Calm s = true) ∧
    (∃ (s : State) (c : Nat), s.mem.filling = some c ∧ s.mem.stalls = [] ∧ Calm s = true) ∧
    (∃ (ok : Bool) (s : State), rd F.MGMT.START_STAGE s = 6 ∧ pageState 0x44 s = STARTING ∧ ok = true) ∧
    (∃ (ok : Bool) (s : State), rd F.MGMT.START_STAGE s = 6 ∧ pageState 0x44 s = STARTING ∧ ok = false ∧ s.boot.trains = 0)
      ∧
    (∃ (sector : Nat), sector < 2 ^ 16) ∧
    (∃ (ecc : Ecc) (s : State), pageState 0x46 s = RUN ∧ ddrUp s = true ∧ selfRefresh s = false ∧ inTestRow (scrubAt s) s =
      false ∧ (rd F.DDR.FILL_STATE s ≠ 1 ∨ s.mem.filled.contains (chunkOf (scrubAt s)) = true) ∧ ecc = .clean ∧ Calm s =
      true) ∧
    (∃ (ecc : Ecc) (s : State) (y : Byte), pageState 0x46 s = RUN ∧ ddrUp s = true ∧ selfRefresh s = false ∧ inTestRow
      (scrubAt s) s = false ∧ (rd F.DDR.FILL_STATE s ≠ 1 ∨ s.mem.filled.contains (chunkOf (scrubAt s)) = true) ∧ ecc =
      .uncorrectable y ∧ Calm s = true) ∧
    (∃ (s : State), (pageState 0x46 s ≠ RUN ∨ ddrUp s = false ∨ selfRefresh s = true) ∧ Calm s = true) ∧
    (∃ (s : State), pageState 0x46 s = RUN) ∧
    (∃ (s : State), pageState 0x46 s ≠ RUN ∧ Calm s = true) :=
  ⟨⟨running, by decide⟩,
   ⟨[], (wr (F.HEAD.STATE_STATE 0x46) RUN running), by decide⟩,
   ⟨([{ place := .core 0 false, off := 0, again := none }]), (wr (F.HEAD.STATE_STATE 0x46) RUN running), 0, 0, by decide⟩,
   ⟨(.corrected 1), (wr F.DDR.SIZE_GIB 2 (wr (F.HEAD.STATE_STATE 0x46) RUN running)), 1, by decide⟩,
   ⟨((fun s => { s with mem := { s.mem with filling := some 0 } }) running), 0, by decide⟩,
   ⟨true, (wr (F.HEAD.STATE_STATE 0x44) STARTING (wr F.MGMT.START_STAGE 6 running)), by decide⟩,
   ⟨false, (wr (F.HEAD.STATE_STATE 0x44) STARTING (wr F.MGMT.START_STAGE 6 running)), by decide⟩,
   ⟨0, by decide⟩,
   ⟨(.clean), (wr F.DDR.SIZE_GIB 2 (wr (F.HEAD.STATE_STATE 0x46) RUN running)), by decide⟩,
   ⟨(.uncorrectable 1), (wr F.DDR.SIZE_GIB 2 (wr (F.HEAD.STATE_STATE 0x46) RUN running)), 1, by decide⟩,
   ⟨(wr (F.HEAD.STATE_STATE 0x46) STOPPED running), by decide⟩,
   ⟨(wr (F.HEAD.STATE_STATE 0x46) RUN running), by decide⟩,
   ⟨(wr (F.HEAD.STATE_STATE 0x46) STOPPED running), by decide⟩⟩

/-- The hypotheses of `Obligations.TestMode`. -/
theorem witness_test_mode :
    (∃ (route : Route) (s : State), reaches 0x46 route = true ∧ refusal 0x46 0x094 route 1 s = none ∧ rd (F.HEAD.CTRL_LOCK
      0x46) s = 0 ∧ Calm s = true) ∧
    (∃ (route : Route) (s : State), reaches 0x46 route = true ∧ refusal 0x46 0x094 route 2 s = none ∧ rd (F.HEAD.CTRL_LOCK
      0x46) s = 0 ∧ Calm s = true) ∧
    (∃ (route : Route) (s : State), reaches 0x46 route = true ∧ refusal 0x46 0x094 route 3 s = none ∧ rd (F.HEAD.CTRL_LOCK
      0x46) s = 0 ∧ Calm s = true) ∧
    (∃ (route : Route) (s : State), reaches 0x46 route = true ∧ refusal 0x46 0x094 route 4 s = none ∧ rd (F.HEAD.CTRL_LOCK
      0x46) s = 0 ∧ testTarget s ≠ 0 ∧ (testWord (testTarget s) (testOffset s) s).mask = 0 ∧ Calm s = true) ∧
    (∃ (route : Route) (s : State), reaches 0x46 route = true ∧ refusal 0x46 0x094 route 4 s = none ∧ rd (F.HEAD.CTRL_LOCK
      0x46) s = 0 ∧ testTarget s ≠ 0 ∧ otherCopy (testTarget s) = none ∧ (testWord (testTarget s) (testOffset s) s).mask ≠ 0
      ∧ Calm s = true) ∧
    (∃ (route : Route) (s : State), reaches 0x46 route = true ∧ refusal 0x46 0x094 route 4 s = none ∧ rd (F.HEAD.CTRL_LOCK
      0x46) s = 0 ∧ testTarget s = 0 ∧ popcount (testWord (testTarget s) (testOffset s) s).flipD + popcount (testWord
      (testTarget s) (testOffset s) s).flipC = 1 ∧ Calm s = true) ∧
    (∃ (route : Route) (s : State), reaches 0x46 route = true ∧ refusal 0x46 0x094 route 5 s = none ∧ rd (F.HEAD.CTRL_LOCK
      0x46) s = 0 ∧ testTarget s ≠ 0 ∧ Calm s = true) :=
  ⟨⟨.bar0, (wr (F.HEAD.CTRL_LOCK 0x46) 0 running), by decide⟩,
   ⟨.bar0, (wr (F.HEAD.CTRL_LOCK 0x46) 0 running), by decide⟩,
   ⟨.bar0, (wr (F.HEAD.CTRL_LOCK 0x46) 0 running), by decide⟩,
   ⟨.bar0, (wr F.MEMINT.TEST_TARGET 1 (life 1 (wr (F.HEAD.CTRL_LOCK 0x46) 0 running))), by decide⟩,
   ⟨.bar0, ((fun s => { s with mem := { s.mem with test := [(5120, { flipD := 1 })] } }) (wr F.MEMINT.TEST_TARGET 5 (life 1
     (wr (F.HEAD.CTRL_LOCK 0x46) 0 running)))), by decide⟩,
   ⟨.bar0, ((fun s => { s with mem := { s.mem with test := [(0, { flipD := 1 })] } }) (life 1 (wr (F.HEAD.CTRL_LOCK 0x46) 0
     running))), by decide⟩,
   ⟨.bar0, (wr F.MEMINT.TEST_TARGET 1 (life 1 (wr (F.HEAD.CTRL_LOCK 0x46) 0 running))), by decide⟩⟩

/-- The hypotheses of `Obligations.InstallAndActivate`. -/
theorem witness_install_and_activate :
    (∃ (s : State), Accepted 0x48 0x040 1 s ∧ pageState 0x48 s ∉ [DRAINING, TEST, FAULT, RETIRED] ∧ rd F.FWUP.STATUS_BUSY s
      = 0 ∧ lifecycle s ∈ [LC_MANUFACTURE, LC_PROVISIONED, LC_DEPLOYED, LC_RECOVERY] ∧ (actNow s).trial = false ∧ Calm s =
      true) ∧
    (∃ (failures : Nat) (s : State) (c : FwCmd) (s1 : State), s.fw.cmd = some c ∧ c.op = 1 ∧ failures = 0 ∧ s1 =
      { s with fw := { s.fw with parts := insert s.fw.parts ((actNow s).location (1 - (actNow s).active)) c.octets } } ∧
      Calm s = true) ∧
    (∃ (failures : Nat) (s : State) (c : FwCmd), s.fw.cmd = some c ∧ c.op = 1 ∧ 1 ≤ failures ∧ (actNow s).spare = false ∧
      Calm s = true) ∧
    (∃ (s : State), Accepted 0x48 0x040 3 s ∧ pageState 0x48 s ∉ [DRAINING, TEST, FAULT, RETIRED] ∧ rd F.FWUP.STATUS_BUSY s
      = 0 ∧ (actNow s).inactive = 1 ∧ (actNow s).trial = false ∧ Calm s = true) ∧
    (∃ (s : State), Accepted 0x48 0x040 2 s ∧ pageState 0x48 s ∉ [DRAINING, TEST, FAULT, RETIRED] ∧ rd F.FWUP.STATUS_BUSY s
      = 0 ∧ inCamp s = false ∧ (actNow s).inactive = 1 ∧ (actNow s).trial = false ∧ liveOk (partOctets (actNow s) (1 -
      (actNow s).active) s) = true ∧ rd F.FWUP.SUP_IDLE_STATE s = 0 ∧ Calm s = true) ∧
    (∃ (s : State) (c : FwCmd), s.fw.cmd = some c ∧ c.op = 2) ∧
    (∃ (run : SectorRun) (s : State), Accepted 0x48 0x040 6 s ∧ pageState 0x48 s ∉ [DRAINING, TEST, FAULT, RETIRED] ∧ rd
      F.FWUP.STATUS_BUSY s = 0 ∧ (actNow s).trial = false ∧ settingsGood (staged s) (rd F.FWUP.SCHEMA_ACTIVE s) = true ∧ rd
      F.FWUP.POLICY_OWNER_COSIGN s = 0 ∧ rd F.SCIPHER.STATUS_FLASH_KEY s = 1 ∧ run = .done ∧ Calm s = true) ∧
    (∃ (s : State), Accepted 0x48 0x074 1 s ∧ lockOpen s = true ∧ Calm s = true) :=
  ⟨⟨(wr F.FWUP.STATUS_BUSY 0 running), by decide⟩,
   ⟨0, ((fun s => { s with fw := { s.fw with cmd := some FC } }) running), FC,
     ({ (((fun (s : State) => { s with fw := { s.fw with cmd := some FC } }) running)) with fw := { (((fun (s : State) => { s with fw := { s.fw with cmd := some FC } }) running)).fw with parts := insert (((fun (s : State) => { s with fw := { s.fw with cmd := some FC } }) running)).fw.parts ((actNow (((fun (s : State) => { s with fw := { s.fw with cmd := some FC } }) running))).location (1 - (actNow (((fun (s : State) => { s with fw := { s.fw with cmd := some FC } }) running))).active)) (FC).octets } }),
     by decide⟩,
   ⟨1, ((fun s => { s with fw := { s.fw with rec0 := some { partMap := 2 } } }) ((fun s =>
     { s with fw := { s.fw with cmd := some FC } }) running)), FC, by decide⟩,
   ⟨((fun s => { s with fw := { s.fw with rec0 := some { inactive := 1 } } }) (wr F.FWUP.STATUS_BUSY 0 running)), by
     decide⟩,
   ⟨((fun s => { s with fw := { s.fw with rec0 := some { inactive := 1 }, parts := [(1, List.replicate 6 0 ++ [2])] } }) (wr
     F.FWUP.SUP_IDLE_STATE 0 (wr F.FWUP.STATUS_BUSY 0 running))), by decide⟩,
   ⟨((fun s => { s with fw := { s.fw with cmd := some { FC with op := 2 } } }) running), ({ FC with op := 2 }), by decide⟩,
   ⟨(.done), (wr F.FWUP.STAGE_LENGTH 64
     ({ (wr F.SCIPHER.STATUS_FLASH_KEY 1 (wr F.FWUP.POLICY_OWNER_COSIGN 0 (wr F.FWUP.STATUS_BUSY 0 running))) with ddr := writeOctets [] 0 (settingsOf 0 []) })),
     by decide +kernel⟩,
   ⟨(wr F.BAR4.TRUST_STATUS_OPEN 1 running), by decide⟩⟩

/-- The hypotheses of `Obligations.TrialsAndCores`. -/
theorem witness_trials_and_cores :
    (∃ (s : State), Accepted 0x48 0x040 4 s ∧ pageState 0x48 s ∉ [DRAINING, TEST, FAULT, RETIRED] ∧ rd F.FWUP.STATUS_BUSY s
      = 0 ∧ inCamp s = false ∧ (actNow s).trial = true ∧ (actNow s).activeLevel ≤ 128 ∧ rd F.FWUP.TRIAL_LEFT s = 0 ∧ Calm s
      = true) ∧
    (∃ (s : State), Accepted 0x48 0x040 5 s ∧ pageState 0x48 s ∉ [DRAINING, TEST, FAULT, RETIRED] ∧ rd F.FWUP.STATUS_BUSY s
      = 0 ∧ mayRevert s = true ∧ Calm s = true) ∧
    (∃ (s : State), Accepted 0x48 0x040 5 s ∧ pageState 0x48 s ∉ [DRAINING, TEST, FAULT, RETIRED] ∧ rd F.FWUP.STATUS_BUSY s
      = 0 ∧ mayRevert s = false ∧ Calm s = true) ∧
    (∃ (s : State), (actNow s).trial = true) ∧
    (∃ (s : State), (actNow s).trial = true ∧ Calm s = true) ∧
    (∃ (core : Fin 2) (s : State), core.val ≠ rd F.FWUP.SUP_ACTIVE_CORE s ∧ rd F.FWUP.SUP_IDLE_STATE s ≠ 3 ∧ s.fw.cmd = none
      ∧ s.fw.faults = [] ∧ Calm s = true) ∧
    (∃ (core : Fin 2) (s : State), core.val = rd F.FWUP.SUP_ACTIVE_CORE s ∧ rd F.FWUP.SUP_IDLE_STATE s ≠ 3 ∧ s.fw.cmd = none
      ∧ s.keyOp = none ∧ s.fw.faults = []) ∧
    (∃ (s : State), (rd F.FWUP.SUP_IDLE_STATE s = 1 ∨ rd F.FWUP.SUP_IDLE_STATE s = 2) ∧ Calm s = true) ∧
    (∃ (li : Fin 136) (s : State), s.fw.rolling.contains li.val = true) :=
  ⟨⟨((fun s => { s with fw := { s.fw with rec0 := some { trial := true } } }) (wr F.FWUP.TRIAL_LEFT 0 (wr F.FWUP.STATUS_BUSY
    0 running))), by decide⟩,
   ⟨((fun s => { s with fw := { s.fw with rec0 := some { trial := true } } }) (wr F.FWUP.STATUS_BUSY 0 running)), by
     decide⟩,
   ⟨(wr F.FWUP.STATUS_BUSY 0 running), by decide⟩,
   ⟨((fun s => { s with fw := { s.fw with rec0 := some { trial := true } } }) running), by decide⟩,
   ⟨((fun s => { s with fw := { s.fw with rec0 := some { trial := true } } }) running), by decide⟩,
   ⟨1, running, by decide⟩,
   ⟨0, running, by decide⟩,
   ⟨(wr F.FWUP.SUP_IDLE_STATE 1 running), by decide⟩,
   ⟨0, ((fun s => { s with fw := { s.fw with rolling := [0] } }) running), by decide⟩⟩

/-- The hypotheses of `Obligations.SignedRequests`. -/
theorem witness_signed_requests :
    (∃ (s : State), Accepted 0x4E 0x090 1 s ∧ requestOp s = 1 ∧ (requestCheck s).1 = 0 ∧ s.boot.held = false ∧ resetNow s =
      false) ∧
    (∃ (s : State), Accepted 0x4E 0x090 1 s ∧ requestOp s = 2 ∧ (requestCheck s).1 = 0 ∧ inCampNow s = false ∧ Calm s =
      true) ∧
    (∃ (s : State), Accepted 0x4E 0x090 1 s ∧ requestOp s = 3 ∧ (requestCheck s).1 = 0 ∧ Calm s = true) ∧
    (∃ (breach : Fin 256) (s : State), Accepted 0x4E 0x090 1 s ∧ requestOp s = 4 ∧ (requestCheck s).1 = 0 ∧ inCampNow s =
      true ∧ breach.val = 0 ∧ Calm s = true) ∧
    (∃ (breach : Fin 256) (s : State) (b : Nat), Accepted 0x4E 0x090 1 s ∧ requestOp s = 4 ∧ (requestCheck s).1 = 0 ∧
      inCampNow s = true ∧ b < 6 ∧ breach.val.testBit b = true ∧ sensorOn b s = true ∧ Calm s = true) ∧
    (∃ (s : State), Accepted 0x4E 0x090 1 s ∧ requestOp s = 5 ∧ (requestCheck s).1 = 0 ∧ inCampNow s = true ∧ mayRevert s =
      true ∧ rd F.FWUP.STATUS_BUSY s = 0 ∧ pageState 0x48 s ∉ [DRAINING, TEST, FAULT, RETIRED] ∧ Calm s = true) :=
  ⟨⟨(request 1 running), by decide⟩,
   ⟨(request 2 running), by decide⟩,
   ⟨(request 3 running), by decide⟩,
   ⟨0, (request 4 (wr F.MGMT.START_STAGE 15 running)), by decide⟩,
   ⟨1, (wr F.CANARY.CFG_MESH_EN 3 (request 4 (wr F.MGMT.START_STAGE 15 running))), 0, by decide⟩,
   ⟨(request 5 ((fun s => { s with fw := { s.fw with rec0 := some { trial := true } } }) (wr F.FWUP.STATUS_BUSY 0 (wr
     F.MGMT.START_STAGE 15 running)))), by decide⟩⟩

/-- The hypotheses of `Obligations.CampaignCommands`. -/
theorem witness_campaign_commands :
    (∃ (ci : Fin 16) (s : State), Accepted 0x29 0x04C (0x100 + ci.val) s ∧ pageState 0x29 s = RUN ∧ rd
      F.DISSEM.CMD_STATUS_BUSY s = 0 ∧ cState ci.val s ∈ [C_IDLE, C_READY, C_ENDED] ∧ encodable ci.val s = true) ∧
    (∃ (ci : Fin 16) (s : State), Accepted 0x29 0x04C (0x100 + ci.val) s ∧ pageState 0x29 s = RUN ∧ rd
      F.DISSEM.CMD_STATUS_BUSY s = 0 ∧ (cState ci.val s = C_RUNNING ∨ cState ci.val s = C_PREPARING) ∧ Calm s = true) ∧
    (∃ (ddrError : Bool) (s : State) (c : Nat), rd F.DISSEM.CMD_STATUS_BUSY s = 1 ∧ rd F.DISSEM.CMD_STATUS_CAMPAIGN s = c ∧
      cState c s = C_PREPARING ∧ ddrError = false ∧ Calm s = true) ∧
    (∃ (ddrError : Bool) (s : State) (c : Nat), rd F.DISSEM.CMD_STATUS_BUSY s = 1 ∧ rd F.DISSEM.CMD_STATUS_CAMPAIGN s = c ∧
      cState c s = C_PREPARING ∧ ddrError = true ∧ Calm s = true) ∧
    (∃ (ci : Fin 16) (s : State), Accepted 0x29 0x04C (0x200 + ci.val) s ∧ pageState 0x29 s = RUN ∧ rd
      F.DISSEM.CMD_STATUS_BUSY s = 0 ∧ cState ci.val s = C_READY ∧ (campaignFes ci.val s).isEmpty = false ∧ (modeFamily (rd
      (F.DISSEM.C_CFG_MODE ci.val) s)).isSome = true ∧ (campaignFes ci.val s).all (fun n => rd (F.DISSEM.C_CHANNEL_HZ ci.val
      n) s != 0) = true ∧ rd (F.DISSEM.C_WIN_TICKS ci.val) s + rd (F.DISSEM.C_LEAD ci.val) s ≤ rd (F.DISSEM.C_PERIOD ci.val)
      s ∧ s.frames.all (fun x => x.2.kind != .symbol ci.val && x.2.kind != .announcement ci.val) = true) ∧
    (∃ (ci : Fin 16) (s : State), Accepted 0x29 0x04C (0x200 + ci.val) s ∧ pageState 0x29 s = RUN ∧ rd
      F.DISSEM.CMD_STATUS_BUSY s = 0 ∧ cState ci.val s = C_READY ∧ (rd (F.DISSEM.C_CFG_FE_MASK ci.val) s = 0 ∨ rd
      (F.DISSEM.C_PERIOD ci.val) s < rd (F.DISSEM.C_WIN_TICKS ci.val) s + rd (F.DISSEM.C_LEAD ci.val) s)) ∧
    (∃ (ci : Fin 16) (s : State), Accepted 0x29 0x04C (0x300 + ci.val) s ∧ pageState 0x29 s = RUN ∧ cState ci.val s =
      C_RUNNING ∧ rd F.DISSEM.CMD_STATUS_BUSY s = 0) ∧
    (∃ (ci : Fin 16) (s : State), Accepted 0x29 0x04C (0x300 + ci.val) s ∧ pageState 0x29 s = RUN ∧ cState ci.val s =
      C_PREPARING) ∧
    (∃ (ci : Fin 16) (s : State), Accepted 0x29 0x04C (0x400 + ci.val) s ∧ pageState 0x29 s = RUN ∧ cState ci.val s =
      C_RUNNING ∧ rd F.DISSEM.CMD_STATUS_BUSY s = 0) ∧
    (∃ (ci : Fin 16) (s : State), Accepted 0x29 0x04C (0x400 + ci.val) s ∧ pageState 0x29 s = RUN ∧ cState ci.val s =
      C_PREPARING) ∧
    (∃ (ci : Fin 16) (s : State), Accepted 0x29 0x04C (0x500 + ci.val) s ∧ pageState 0x29 s = RUN ∧ rd
      F.DISSEM.CMD_STATUS_BUSY s = 0 ∧ (cState ci.val s = C_READY ∨ cState ci.val s = C_ENDED)) ∧
    (∃ (ci : Fin 16) (ddrError : Bool) (s : State), Accepted 0x29 0x04C (0x600 + ci.val) s ∧ pageState 0x29 s = RUN ∧ rd
      F.DISSEM.CMD_STATUS_BUSY s = 0 ∧ cState ci.val s ∈ [C_READY, C_RUNNING, C_ENDED] ∧ ddrError = false ∧ Calm s = true) ∧
    (∃ (ci : Fin 16) (ddrError : Bool) (s : State), Accepted 0x29 0x04C (0x600 + ci.val) s ∧ pageState 0x29 s = RUN ∧ rd
      F.DISSEM.CMD_STATUS_BUSY s = 0 ∧ cState ci.val s ∈ [C_READY, C_RUNNING, C_ENDED] ∧ ddrError = true ∧ Calm s = true) ∧
    (∃ (ci : Fin 16) (logical : Fin 4) (s : State), cState ci.val s = C_RUNNING ∧ (rd (F.DISSEM.C_CFG_FE_MASK ci.val)
      s).testBit logical.val = true ∧ s.frames.all (fun x => x.2.kind != .symbol ci.val && x.2.kind != .announcement ci.val)
      = true ∧ rd (F.DISSEM.C_MAX_SYMBOLS ci.val) s = 0 ∧ (Machine.campaign ci.val s).esi < 2 ^ 24) ∧
    (∃ (ci : Fin 16) (logical : Fin 4) (sourceError : Bool) (s : State) (w : Window), cState ci.val s = C_RUNNING ∧
      s.frames.all (fun x => x.2.kind != .symbol ci.val && x.2.kind != .announcement ci.val) = true ∧ rd
      (F.DISSEM.C_MAX_SYMBOLS ci.val) s = 0 ∧ (Machine.campaign ci.val s).esi < 2 ^ 24 ∧ (Machine.campaign ci.val
      s).windows.find? (fun w => !w.isOpen && w.fe == logical.val) = some w ∧ meshTicks s < w.start + rd
      (F.DISSEM.C_WIN_TICKS ci.val) s ∧ sourceError = false) ∧
    (∃ (ci : Fin 16) (logical : Fin 4) (s : State), (Machine.campaign ci.val s).windows.any (fun w => w.isOpen && w.fe ==
      logical.val) = true ∧ rd (F.DISSEM.C_WITHDRAWN ci.val) s + waitingSymbols ci.val logical.val s < 2 ^ 32) :=
  ⟨⟨0, (wr F.DISSEM.CMD_STATUS_BUSY 0 (wr (F.HEAD.STATE_STATE 0x29) RUN running)), by decide⟩,
   ⟨0, (setCState 0 C_RUNNING (wr F.DISSEM.CMD_STATUS_BUSY 0 (wr (F.HEAD.STATE_STATE 0x29) RUN running))), by decide⟩,
   ⟨false, (setCState 0 C_PREPARING (wr F.DISSEM.CMD_STATUS_CAMPAIGN 0 (wr F.DISSEM.CMD_STATUS_BUSY 1 running))), 0, by
     decide⟩,
   ⟨true, (setCState 0 C_PREPARING (wr F.DISSEM.CMD_STATUS_CAMPAIGN 0 (wr F.DISSEM.CMD_STATUS_BUSY 1 running))), 0, by
     decide⟩,
   ⟨0, (wr (F.DISSEM.C_CHANNEL_HZ 0 0) 865000000 (wr (F.DISSEM.C_CFG_MODE 0) 0x10 (wr (F.DISSEM.C_CFG_FE_MASK 0) 1
     (setCState 0 C_READY (wr F.DISSEM.CMD_STATUS_BUSY 0 (wr (F.HEAD.STATE_STATE 0x29) RUN running)))))), by decide⟩,
   ⟨0, (wr (F.DISSEM.C_CFG_FE_MASK 0) 0 (setCState 0 C_READY (wr F.DISSEM.CMD_STATUS_BUSY 0 (wr (F.HEAD.STATE_STATE 0x29)
     RUN running)))), by decide⟩,
   ⟨0, (wr F.DISSEM.CMD_STATUS_BUSY 0 (setCState 0 C_RUNNING (wr (F.HEAD.STATE_STATE 0x29) RUN running))), by decide⟩,
   ⟨0, (setCState 0 C_PREPARING (wr (F.HEAD.STATE_STATE 0x29) RUN running)), by decide⟩,
   ⟨0, (wr F.DISSEM.CMD_STATUS_BUSY 0 (setCState 0 C_RUNNING (wr (F.HEAD.STATE_STATE 0x29) RUN running))), by decide⟩,
   ⟨0, (setCState 0 C_PREPARING (wr (F.HEAD.STATE_STATE 0x29) RUN running)), by decide⟩,
   ⟨0, (setCState 0 C_READY (wr F.DISSEM.CMD_STATUS_BUSY 0 (wr (F.HEAD.STATE_STATE 0x29) RUN running))), by decide⟩,
   ⟨0, false, (setCState 0 C_READY (wr F.DISSEM.CMD_STATUS_BUSY 0 (wr (F.HEAD.STATE_STATE 0x29) RUN running))), by decide⟩,
   ⟨0, true, (setCState 0 C_READY (wr F.DISSEM.CMD_STATUS_BUSY 0 (wr (F.HEAD.STATE_STATE 0x29) RUN running))), by decide⟩,
   ⟨0, 0, (wr (F.DISSEM.C_CFG_FE_MASK 0) 1 (wr (F.DISSEM.C_MAX_SYMBOLS 0) 0 (setCState 0 C_RUNNING running))), by decide⟩,
   ⟨0, 0, false,
     ({ (wr (F.DISSEM.C_MAX_SYMBOLS 0) 0 (setCState 0 C_RUNNING running)) with campaigns := [(0, { windows := [{ fe := 0, start := 1 }] })] }),
     ({ fe := 0, start := 1 }), by decide⟩,
   ⟨0, 0, ({ running with campaigns := [(0, { windows := [{ fe := 0, start := 1, isOpen := true }] })] }), by decide⟩⟩

/-- The hypotheses of `Obligations.BelayLink`. -/
theorem witness_belay_link :
    (∃ (s : State), belayUp s = true) ∧
    (∃ (li : Fin 2) (s : State), laneOk li.val s = true ∧ rd F.ROPE.LINK_TX_LANE s = li.val ∧ laneOk (1 - li.val) s = true ∧
      Calm s = true) ∧
    (∃ (li : Fin 2) (s : State), laneOk li.val s = true ∧ rd F.ROPE.LINK_TX_LANE s ≠ li.val ∧ Calm s = true) ∧
    (∃ (s : State), belayUp s = true) ∧
    (∃ (s : State), belayUp s = true ∧ s.rope.session.isSome = true) ∧
    (∃ (s : State), belayUp s = true ∧ s.rope.session.isSome = true ∧ attached s = true ∧ Calm s = true) ∧
    (∃ (role : Nat) (s : State), belayUp s = true ∧ s.rope.session.isSome = true ∧ attached s = false ∧ ropeRole s = WAITING
      ∧ role = ACTIVE) ∧
    (∃ (ok : Bool) (s : State), belayUp s = true ∧ s.rope.session.isSome = true ∧ ok = false) ∧
    (∃ (seq : Nat) (inOrder : Bool) (ok : Bool) (s : State), belayUp s = true ∧ s.rope.session.isSome = true ∧ ok = true ∧
      (seq ≤ s.rope.got ∨ inOrder = false) ∧ Calm s = true) ∧
    (∃ (seq : Nat) (inOrder : Bool) (ok : Bool) (record : RopeRec) (s : State), belayUp s = true ∧ s.rope.session.isSome =
      true ∧ ok = true ∧ s.rope.got < seq ∧ inOrder = true ∧ record = .syncDone ∧ ropeRole s = SYNCING) ∧
    (∃ (seq : Nat) (inOrder : Bool) (ok : Bool) (record : RopeRec) (s : State) (fp : Nat) (v : Nat), belayUp s = true ∧
      s.rope.session.isSome = true ∧ ok = true ∧ s.rope.got < seq ∧ inOrder = true ∧ record = .reserve fp v ∧ (ropeRole s =
      SYNCING ∨ ropeRole s = STANDBY)) ∧
    (∃ (s : State), s.rope.unacked ≠ []) ∧
    (∃ (s : State) (ch : List (Nat × Nat × Nat)), mirrors s = true ∧ ch = (s.nodes.filter (fun x => x.2.valid && find
      s.rope.replays x.1 != some (replayState x.2))).map (fun x => (x.1, replayState x.2)) ∧ ch ≠ []) ∧
    (∃ (s : State), s.rope.attaching = true ∧ attached s = true ∧ rd F.ROPE.ROLE_PARTNER_ACT s = 0) ∧
    (∃ (s : State), attached s = true) ∧
    (∃ (s : State), s.rope.lostAt.isSome = true) :=
  ⟨⟨(belay running), by decide⟩,
   ⟨0, (wr F.ROPE.LINK_LANE1_OK 1 (wr F.ROPE.LINK_LANE0_OK 1 running)), by decide⟩,
   ⟨0, (wr F.ROPE.LINK_TX_LANE 1 (wr F.ROPE.LINK_LANE0_OK 1 running)), by decide⟩,
   ⟨(belay running), by decide⟩,
   ⟨(session (belay running)), by decide⟩,
   ⟨(wr F.ROPE.LINK_ATTACHED 1 (session (belay running))), by decide⟩,
   ⟨ACTIVE, (wr F.ROPE.ROLE_STATE WAITING (session (belay running))), by decide⟩,
   ⟨false, (session (belay running)), by decide⟩,
   ⟨1, false, true, (session (belay running)), by decide⟩,
   ⟨1, true, true, (.syncDone), (wr F.ROPE.ROLE_STATE SYNCING (session (belay running))), by decide⟩,
   ⟨1, true, true, (.reserve 1 2), (wr F.ROPE.ROLE_STATE SYNCING (wr F.ROPE.ROLE_STATE SYNCING (session (belay running)))),
     1, 2, by decide⟩,
   ⟨((fun s => { s with rope := { s.rope with unacked := [(1, .syncDone)] } }) running), by decide⟩,
   ⟨({ (wr F.ROPE.LINK_ATTACHED 1 (wr F.ROPE.ROLE_STATE ACTIVE (session running))) with nodes := [(5, NV.toNodeCore)] }),
     ([(5, replayState NV.toNodeCore)]), by decide⟩,
   ⟨(wr F.ROPE.LINK_ATTACHED 1 ((fun s => { s with rope := { s.rope with attaching := true } }) (wr F.ROPE.ROLE_PARTNER_ACT
     0 running))), by decide⟩,
   ⟨(wr F.ROPE.LINK_ATTACHED 1 running), by decide⟩,
   ⟨((fun s => { s with rope := { s.rope with lostAt := some 0 } }) running), by decide⟩⟩

/-- The hypotheses of `Obligations.Switchover`. -/
theorem witness_switchover :
    (∃ (s : State), ropeRole s = ACTIVE ∧ ropeHealth s &&& rd F.ROPE.GIVE_UP_MASK s ≠ 0 ∧ partnerReady s = true) ∧
    (∃ (s : State), (ropeRole s ≠ ACTIVE ∨ partnerReady s = false) ∧ Calm s = true) ∧
    (∃ (s : State), Accepted 0x4A 0x05C 1 s ∧ ropeRole s = ACTIVE ∧ partnerReady s = true) ∧
    (∃ (s : State), Accepted 0x4A 0x05C 1 s ∧ (ropeRole s ≠ ACTIVE ∨ partnerReady s = false) ∧ Calm s = true) ∧
    (∃ (s : State), Accepted 0x4A 0x05C 2 s ∧ ropeRole s = WAITING ∧ rd F.ROPE.ROLE_PARTNER_ACT s = 0) ∧
    (∃ (s : State), Accepted 0x4A 0x05C 2 s ∧ (ropeRole s ≠ WAITING ∨ rd F.ROPE.ROLE_PARTNER_ACT s = 1)) ∧
    (∃ (ok : Bool) (s : State), s.rope.forcing = true ∧ ok = true) ∧
    (∃ (ok : Bool) (s : State), s.rope.forcing = true ∧ ok = false) ∧
    (∃ (s : State), ropeRole s = STANDBY) ∧
    (∃ (s : State), s.rope.fellAt.isSome = true ∧ rd F.ROPE.ROLE_PARTNER_ACT s = 0 ∧ ropeRole s = STANDBY) ∧
    (∃ (s : State), ropeRole s = RELINQUISHING) ∧
    (∃ (s : State), ropeRole s = RELINQUISHING) ∧
    (∃ (s : State), ropeRole s ≠ RELINQUISHING) ∧
    (∃ (s : State), ropeRole s = RELINQUISHING ∧ rd F.ROPE.ROLE_PARTNER_ACT s = 0) ∧
    (∃ (s : State), ropeRole s = ACTIVE) :=
  ⟨⟨(wr F.ROPE.GIVE_UP_MASK 0x3FF (wr F.ROPE.LINK_ATTACHED 1 ((fun s => { s with rope := { s.rope with pRole := STANDBY } })
    (wr F.ROPE.ROLE_STATE ACTIVE running)))), by decide⟩,
   ⟨(wr F.ROPE.ROLE_STATE STANDBY running), by decide⟩,
   ⟨(wr F.ROPE.LINK_ATTACHED 1 ((fun s => { s with rope := { s.rope with pRole := STANDBY } }) (wr F.ROPE.ROLE_STATE ACTIVE
     running))), by decide⟩,
   ⟨(wr F.ROPE.ROLE_STATE STANDBY running), by decide⟩,
   ⟨(wr F.ROPE.ROLE_PARTNER_ACT 0 (wr F.ROPE.ROLE_STATE WAITING running)), by decide⟩,
   ⟨(wr F.ROPE.ROLE_STATE STANDBY running), by decide⟩,
   ⟨true, ((fun s => { s with rope := { s.rope with forcing := true } }) running), by decide⟩,
   ⟨false, ((fun s => { s with rope := { s.rope with forcing := true } }) running), by decide⟩,
   ⟨(wr F.ROPE.ROLE_STATE STANDBY running), by decide⟩,
   ⟨((fun s => { s with rope := { s.rope with fellAt := some 0 } }) (wr F.ROPE.ROLE_STATE STANDBY (wr
     F.ROPE.ROLE_PARTNER_ACT 0 running))), by decide⟩,
   ⟨(wr F.ROPE.ROLE_STATE RELINQUISHING running), by decide⟩,
   ⟨(wr F.ROPE.ROLE_STATE RELINQUISHING running), by decide⟩,
   ⟨(wr F.ROPE.ROLE_STATE STANDBY running), by decide⟩,
   ⟨(wr F.ROPE.ROLE_PARTNER_ACT 0 (wr F.ROPE.ROLE_STATE RELINQUISHING running)), by decide⟩,
   ⟨(wr F.ROPE.ROLE_STATE ACTIVE running), by decide⟩⟩

/-- The hypotheses of `Obligations.TamperDetections`. -/
theorem witness_tamper_detections :
    (∃ (sensor : Fin 2) (s : State), tamperPhase s ≠ 4 ∧ sensorOn sensor.val s = true) ∧
    (∃ (sensor : Fin 2) (s : State), tamperPhase s ≠ 4 ∧ sensorOn sensor.val s = false ∧ Calm s = true) ∧
    (∃ (s : State), batteryOnly s = true ∧ rd F.CANARY.TAMPER_STATUS_SENSORS s < 64 ∧ Calm s = true) ∧
    (∃ (sensor : Fin 2) (s : State), tamperPhase s ≠ 4 ∧ sensorOn (2 + sensor.val) s = true) ∧
    (∃ (sensor : Fin 2) (s : State), tamperPhase s ≠ 4 ∧ sensorOn (2 + sensor.val) s = false ∧ Calm s = true) ∧
    (∃ (s : State), batteryOnly s = true ∧ rd F.CANARY.TAMPER_STATUS_SENSORS s < 64 ∧ Calm s = true) ∧
    (∃ (glitch : Bool) (s : State), tamperPhase s ≠ 4 ∧ sensorOn (if glitch then 5 else 4) s = true) ∧
    (∃ (glitch : Bool) (s : State), tamperPhase s ≠ 4 ∧ sensorOn (if glitch then 5 else 4) s = false ∧ Calm s = true) ∧
    (∃ (s : State), batteryOnly s = true ∧ rd F.CANARY.TAMPER_STATUS_SENSORS s < 64 ∧ Calm s = true) :=
  ⟨⟨0, (wr F.CANARY.CFG_MESH_EN 3 running), by decide⟩,
   ⟨0, running, by decide⟩,
   ⟨((fun s => { s with boot := { s.boot with held := true }, watch := { s.watch with tamperOnVbat := true } }) running), by
     decide⟩,
   ⟨0, (wr F.CANARY.CFG_SW_EN 3 running), by decide⟩,
   ⟨0, running, by decide⟩,
   ⟨((fun s => { s with boot := { s.boot with held := true }, watch := { s.watch with tamperOnVbat := true } }) running), by
     decide⟩,
   ⟨false, running, by decide⟩,
   ⟨false, (wr F.CANARY.CFG_TEMP_EN 0 running), by decide⟩,
   ⟨((fun s => { s with boot := { s.boot with held := true }, watch := { s.watch with tamperOnVbat := true } }) running), by
     decide⟩⟩

/-- The hypotheses of `Obligations.WearAndRecords`. -/
theorem witness_wear_and_records :
    (∃ (route : Route) (data : Word) (s : State) (k : Fin 4), reaches 0x05 route = true ∧ data.toNat = 0x5A3C0000 + k.val ∧
      7 ≤ rd F.MGMT.START_STAGE s ∧ pageState (fePage k.val) s ∈ [FAULT, STOPPED] ∧ refusal 0x05 0x068 route data.toNat s =
      none ∧ s.cairn.queue.length < 32 ∧ Calm s = true) ∧
    (∃ (route : Route) (data : Word) (s : State), reaches 0x05 route = true ∧ (data.toNat / 65536 ≠ 0x5A3C ∨ (pageState
      (fePage (data.toNat % 4)) s ∉ [FAULT, STOPPED])) ∧ Calm s = true) ∧
    (∃ (s : State) (c : Checkpoint), c =
      { powered := rd F.RESERVE.POWERED_S s, wear := (List.range 16).map (fun i => rd (F.RESERVE.WEAR i) s) }) ∧
    (∃ (s : State), Accepted 0x06 0x088 1 s ∧ s.cairn.queue.length < 32) ∧
    (∃ (s : State), Accepted 0x06 0x088 1 s ∧ s.cairn.queue.length = 32) ∧
    (∃ (s : State) (x : CairnItem) (r : List CairnItem), s.cairn.queue = x :: r ∧ s.cairn.dropped = 0) :=
  ⟨⟨.bar0, 0x5A3C0000, (wr (F.HEAD.STATE_STATE 0x08) STOPPED running), 0, by decide⟩,
   ⟨.bar0, 0, running, by decide⟩,
   ⟨running, ({ powered := 0, wear := List.replicate 16 0 }), by decide⟩,
   ⟨running, by decide⟩,
   ⟨((fun s => { s with cairn := { s.cairn with queue := List.replicate 32 CI } }) running), by decide⟩,
   ⟨((fun s => { s with cairn := { s.cairn with queue := [CI] } }) running), CI, [], by decide⟩⟩

/-- The hypotheses of `Obligations.BivouacAndDeepHold`. -/
theorem witness_bivouac_and_deep_hold :
    (∃ (s : State), rd F.CANARY.BIVOUAC_STATE s = 1 ∧ Calm s = true) ∧
    (∃ (s : State), rd F.CANARY.BIVOUAC_STATE s = 1 ∧ rd F.PWR.PWR_FAIL_LEVEL s = 0 ∧ s.cairn.queue.length < 32) ∧
    (∃ (s : State), 2 ≤ rd F.CANARY.BIVOUAC_STATE s ∧ rd F.PWR.PWR_FAIL_LEVEL s = 1 ∧ (s.boot.saved.map (·.1)).Nodup ∧
      s.boot.saved.all (fun x => isPage x.1 && decide (x.1 < 0x80) && decide (x.2 < 8)) = true) ∧
    (∃ (s : State), (rd F.CANARY.BIVOUAC_STATE s < 2 ∨ rd F.PWR.PWR_FAIL_LEVEL s = 0) ∧ Calm s = true) ∧
    (∃ (s : State), rd F.CANARY.BIVOUAC_CFG_DEEP_AFTER s ≠ 0 ∧ rd F.CANARY.BIVOUAC_STATE s = 2 ∧ rd F.PWR.PWR_FAIL_LEVEL s =
      0) ∧
    (∃ (s : State), Accepted 0x03 0x050 1 s ∧ rd F.CANARY.BIVOUAC_STATE s = 2 ∧ rd F.PWR.PWR_FAIL_LEVEL s = 0) ∧
    (∃ (s : State), Accepted 0x03 0x050 1 s ∧ rd F.CANARY.BIVOUAC_STATE s ≠ 2 ∧ Calm s = true) ∧
    (∃ (s : State), Accepted 0x03 0x050 0 s ∧ rd F.CANARY.BIVOUAC_STATE s = 3 ∧ rd F.PWR.PWR_FAIL_LEVEL s = 0 ∧
      s.cairn.queue.length < 32) ∧
    (∃ (s : State), Accepted 0x03 0x050 0 s ∧ rd F.CANARY.BIVOUAC_STATE s ≠ 3 ∧ Calm s = true) :=
  ⟨⟨(wr F.CANARY.BIVOUAC_STATE 1 (wr F.CANARY.BIVOUAC_STATE 1 running)), by decide⟩,
   ⟨(wr F.PWR.PWR_FAIL_LEVEL 0 (wr F.CANARY.BIVOUAC_STATE 1 running)), by decide⟩,
   ⟨(wr F.PWR.PWR_FAIL_LEVEL 1 (wr F.CANARY.BIVOUAC_STATE 2 (wr F.PWR.PWR_FAIL_LEVEL 1 running))), by decide⟩,
   ⟨running, by decide⟩,
   ⟨(wr F.CANARY.BIVOUAC_CFG_DEEP_AFTER 1 (wr F.PWR.PWR_FAIL_LEVEL 0 (wr F.CANARY.BIVOUAC_STATE 2 (wr
     F.CANARY.BIVOUAC_CFG_DEEP_AFTER 1 running)))), by decide⟩,
   ⟨(wr F.PWR.PWR_FAIL_LEVEL 0 (wr F.CANARY.BIVOUAC_STATE 2 running)), by decide⟩,
   ⟨running, by decide⟩,
   ⟨(wr F.PWR.PWR_FAIL_LEVEL 0 (wr F.CANARY.BIVOUAC_STATE 3 running)), by decide⟩,
   ⟨running, by decide⟩⟩

/-- The hypotheses of `Obligations.ResetsAndStart`. -/
theorem witness_resets_and_start :
    (∃ (s : State), s.boot.held = false ∧ resetNow s = false) ∧
    (∃ (s : State), s.boot.held = false ∧ rd F.MGMT.START_STAGE s = 1 ∧ s.watch.refclkAbsent = false) ∧
    (∃ (s : State), (s.boot.held = true ∨ s.watch.refclkAbsent = true ∨ rd F.MGMT.START_STAGE s ≠ 1) ∧ Calm s = true) ∧
    (∃ (s : State), rd F.MGMT.START_STAGE s = 7 ∧ s.boot.powerLow = false) ∧
    (∃ (s : State), rd F.MGMT.START_STAGE s = 7 ∧ s.boot.powerLow = true) ∧
    (∃ (s : State), rd F.MGMT.START_STAGE s ≠ 7 ∧ Calm s = true) :=
  ⟨⟨running, by decide⟩,
   ⟨(wr F.MGMT.START_STAGE 1 (wr F.MGMT.START_STAGE 1 running)), by decide⟩,
   ⟨running, by decide⟩,
   ⟨(wr F.MGMT.START_STAGE 7 (wr F.MGMT.START_STAGE 7 running)), by decide⟩,
   ⟨((fun s => { s with boot := { s.boot with powerLow := true } }) (wr F.MGMT.START_STAGE 7 (wr F.MGMT.START_STAGE 7
     running))), by decide⟩,
   ⟨running, by decide⟩⟩

/-- The hypotheses of `Obligations.WarningsAreRecorded`. -/
theorem witness_warnings_are_recorded :
    (∃ (s : State), s.cairn.queue.length < 32) ∧
    (∃ (s : State), s.cairn.queue.length < 32) :=
  ⟨⟨running, by decide⟩,
   ⟨running, by decide⟩⟩

/-- The hypotheses of `Obligations.TamperEnablesStay`. -/
theorem witness_tamper_enables_stay :
    (∃ (bar : Bar) (addr : Nat) (byteEn : BitVec 4) (data : Word) (s : State), bar = .bar0 ∧ addr = 0x3040 ∧ byteEn = 15 ∧
      data.toNat &&& 0xFFFFFCC0 = 0 ∧ 7 ≤ rd F.MGMT.START_STAGE s ∧ rd (F.HEAD.CTRL_LOCK 0x03) s = 0 ∧ (rd F.IDENT.LIFECYCLE
      s = 2 ∨ rd F.IDENT.LIFECYCLE s = 3) ∧ [F.CANARY.CFG_MESH_EN, F.CANARY.CFG_SW_EN, F.CANARY.CFG_TEMP_EN,
      F.CANARY.CFG_GLITCH_EN].any (fun f => rd f s &&& f.slice data.toNat != rd f s) = true ∧ Calm s = true) ∧
    (∃ (bar : Bar) (addr : Nat) (byteEn : BitVec 4) (data : Word) (s : State), bar = .bar0 ∧ addr = 0x3040 ∧ byteEn = 15 ∧
      data.toNat &&& 0xFFFFFCC0 = 0 ∧ 7 ≤ rd F.MGMT.START_STAGE s ∧ rd (F.HEAD.CTRL_LOCK 0x03) s = 0 ∧ (rd F.IDENT.LIFECYCLE
      s = 2 ∨ rd F.IDENT.LIFECYCLE s = 3) ∧ [F.CANARY.CFG_MESH_EN, F.CANARY.CFG_SW_EN, F.CANARY.CFG_TEMP_EN,
      F.CANARY.CFG_GLITCH_EN].all (fun f => rd f s &&& f.slice data.toNat == rd f s) = true ∧ Calm s = true) ∧
    (∃ (sensor : Fin 2) (s : State), tamperPhase s ≠ 4 ∧ (rd F.CANARY.CFG_MESH_EN s).testBit sensor.val = false ∧ Calm s =
      true) ∧
    (∃ (sensor : Fin 2) (s : State), tamperPhase s ≠ 4 ∧ (rd F.CANARY.CFG_SW_EN s).testBit sensor.val = false ∧ Calm s =
      true) ∧
    (∃ (glitch : Bool) (s : State), tamperPhase s ≠ 4 ∧ rd (if glitch then F.CANARY.CFG_GLITCH_EN else F.CANARY.CFG_TEMP_EN)
      s = 0 ∧ Calm s = true) :=
  ⟨⟨(.bar0), 0x3040, 15, 0, (wr F.CANARY.CFG_MESH_EN 3 (life 2 (wr F.IDENT.LIFECYCLE 2 (wr (F.HEAD.CTRL_LOCK 0x03) 0
    running)))), by decide⟩,
   ⟨(.bar0), 0x3040, 15, 0, (wr F.CANARY.CFG_GLITCH_EN 0 (wr F.CANARY.CFG_TEMP_EN 0 (wr F.CANARY.CFG_SW_EN 0 (wr
     F.CANARY.CFG_MESH_EN 0 (life 2 (wr F.IDENT.LIFECYCLE 2 (wr (F.HEAD.CTRL_LOCK 0x03) 0 running))))))), by decide⟩,
   ⟨0, running, by decide⟩,
   ⟨0, running, by decide⟩,
   ⟨false, (wr F.CANARY.CFG_TEMP_EN 0 running), by decide⟩⟩

/-- The hypotheses of `Obligations.NodeCommandDdrErrors`. -/
theorem witness_node_command_ddr_errors :
    (∃ (index : Fin 262144) (find : NodeFind) (s : State), Accepted 0x20 0x054 (index.val + 1 * 2 ^ 24) s ∧ pageState 0x20 s
      = RUN ∧ rd F.NODE.CMD_STATUS_BUSY s = 0 ∧ reservedIndex index.val = false ∧ find = .ddrError ∧ Calm s = true) ∧
    (∃ (index : Fin 262144) (find : NodeFind) (s : State) (c : Node), Accepted 0x20 0x054 (index.val + 2 * 2 ^ 24) s ∧
      pageState 0x20 s = RUN ∧ rd F.NODE.CMD_STATUS_BUSY s = 0 ∧ reservedIndex index.val = false ∧ (node index.val s).valid
      = false ∧ c = { core := cmdCore s, ext := cmdExt s } ∧ keyRefValid c.keyRef = true ∧ c.piton = true ∧ (wellFormedPath
      index.val c.core c.ext).isSome = true ∧ find = .ddrError ∧ Calm s = true) ∧
    (∃ (index : Fin 262144) (find : NodeFind) (s : State), Accepted 0x20 0x054 (index.val + 3 * 2 ^ 24) s ∧ pageState 0x20 s
      = RUN ∧ rd F.NODE.CMD_STATUS_BUSY s = 0 ∧ reservedIndex index.val = false ∧ (node index.val s).valid = true ∧ rd
      F.NODE.CMD_MASK s < 2 ^ 16 ∧ rd F.NODE.CMD_FLAG_MASK s = 0 ∧ rd F.NODE.CMD_EXT_MASK s = 0 ∧ keyRefValid (maskExt 0
      (cmdExt s) (maskFlags 0 (cmdCore s) (maskCore (rd F.NODE.CMD_MASK s) (cmdCore s) (node index.val s)))).keyRef = true ∧
      find = .ddrError ∧ Calm s = true) ∧
    (∃ (index : Fin 262144) (find : NodeFind) (s : State), Accepted 0x20 0x054 (index.val + 4 * 2 ^ 24) s ∧ pageState 0x20 s
      = RUN ∧ rd F.NODE.CMD_STATUS_BUSY s = 0 ∧ reservedIndex index.val = false ∧ (node index.val s).valid = true ∧ find =
      .ddrError) ∧
    (∃ (index : Fin 262144) (find : NodeFind) (s : State) (r : MeshPath), Accepted 0x20 0x054 (index.val + 5 * 2 ^ 24) s ∧
      pageState 0x20 s = RUN ∧ rd F.NODE.CMD_STATUS_BUSY s = 0 ∧ reservedIndex index.val = false ∧ (node index.val s).valid
      = true ∧ wellFormedPath index.val (cmdCore s) (cmdExt s) = some r ∧ find = .ddrError ∧ Calm s = true) :=
  ⟨⟨1, (.ddrError), (wr F.NODE.CMD_STATUS_BUSY 0 (wr (F.HEAD.STATE_STATE 0x20) RUN running)), by decide⟩,
   ⟨1, (.ddrError), (wr (F.NODE.CMD_EXT 0) 0x10001 (wr (F.NODE.CMD_CORE 5) 0x100 (wr (F.NODE.CMD_CORE 4) 0x2000000 (wr
     F.NODE.CMD_STATUS_BUSY 0 (wr (F.HEAD.STATE_STATE 0x20) RUN running))))),
     ({ core := BitVec.ofNat 256 (2 ^ 153 + 2 ^ 168), ext := BitVec.ofNat 1024 0x10001 }), by decide +kernel⟩,
   ⟨1, (.ddrError),
     ({ (wr F.NODE.CMD_EXT_MASK 0 (wr F.NODE.CMD_FLAG_MASK 0 (wr F.NODE.CMD_STATUS_BUSY 0 (wr (F.HEAD.STATE_STATE 0x20) RUN running)))) with nodes := [(1, { core := BitVec.ofNat 256 (2 ^ 152) })] }),
     by decide⟩,
   ⟨1, (.ddrError),
     ({ (wr F.NODE.CMD_STATUS_BUSY 0 (wr (F.HEAD.STATE_STATE 0x20) RUN running)) with nodes := [(1, { core := BitVec.ofNat 256 (2 ^ 152) })] }),
     by decide⟩,
   ⟨1, (.ddrError), (wr (F.NODE.CMD_EXT 0) 0x10001 (wr (F.NODE.CMD_CORE 5) 0x100
     ({ (wr F.NODE.CMD_STATUS_BUSY 0 (wr (F.HEAD.STATE_STATE 0x20) RUN running)) with nodes := [(1, { core := BitVec.ofNat 256 (2 ^ 152) })] }))),
     ({ fe := 0, addrs := [1], fromIe := true }), by decide +kernel⟩⟩

/-- The hypotheses of `Obligations.ThirdMissLosesThePeer`. -/
theorem witness_third_miss_loses_the_peer :
    (∃ (pi : Fin 32) (s : State), rd (F.BEACON.PEER_ENABLE pi.val) s = 1 ∧ rd (F.BEACON.PEER_STATE pi.val) s = P_PRESENT ∧
      pageState 0x1A s = RUN ∧ rd (F.BEACON.PEER_MISSES pi.val) s < 2 ∧ Calm s = true) ∧
    (∃ (pi : Fin 32) (s : State), rd (F.BEACON.PEER_ENABLE pi.val) s = 1 ∧ rd (F.BEACON.PEER_STATE pi.val) s = P_PRESENT ∧
      pageState 0x1A s = RUN ∧ rd (F.BEACON.PEER_MISSES pi.val) s = 2 ∧ rd (F.BEACON.PEER_LOST_COUNT pi.val) s < 65535 ∧
      Calm s = true) :=
  ⟨⟨0, (wr (F.HEAD.STATE_STATE 0x1A) RUN (wr (F.BEACON.PEER_STATE 0) P_PRESENT (wr (F.BEACON.PEER_ENABLE 0) 1 running))), by
    decide⟩,
   ⟨0, (wr (F.BEACON.PEER_MISSES 0) 2 (wr (F.HEAD.STATE_STATE 0x1A) RUN (wr (F.BEACON.PEER_STATE 0) P_PRESENT (wr
     (F.BEACON.PEER_ENABLE 0) 1 running)))), by decide⟩⟩

end Sys2Proof.Tests
end

section
/-! PROOF. The supply warnings (R51, R52): the rules of the event path and of the cairn queue that they need, what SAG_WARN
and SUPPLY_HIGH give from every state with room for a record, and the refutation of
`Obligations.WarningsAreRecorded` as it is stated. -/

namespace Sys2Proof.Machine

/-! ### The event path: what a latched or raised bit leaves, and what it sets -/

/-- Folding an update over a list keeps what the update keeps. -/
theorem foldl_keeps {α β : Type} (p : State → β) (g : State → α → State) (hg : ∀ s x, p (g s x) = p s) (l : List α)
    (s : State) : p (l.foldl g s) = p s := by
  induction l generalizing s with
  | nil => rfl
  | cons x r ih => exact (ih (g s x)).trans (hg s x)

@[simp] theorem assertVec_cairn (v : Nat) (s : State) : (assertVec v s).cairn = s.cairn := by
  unfold assertVec
  split
  · rfl
  · split
    · rfl
    · split <;> rfl

@[simp] theorem dropPending_cairn (vs : List Nat) (s : State) : (dropPending vs s).cairn = s.cairn := by
  refine foldl_keeps State.cairn _ (fun s v => ?_) vs s
  dsimp only
  split <;> rfl

@[simp] theorem settle_cairn (srcs : List Nat) (old s : State) : (settle srcs old s).cairn = s.cairn := by
  unfold settle
  rw [dropPending_cairn]
  exact foldl_keeps State.cairn _ (fun s v => assertVec_cairn v s) _ _

@[simp] theorem raise_cairn (pg bit : Nat) (s : State) : (raise pg bit s).cairn = s.cairn := by
  simp [raise, latch, orBits]

theorem Shows.clock {P : Nat → Bool} {s t : State} (h : Shows P s t) : t.clock = s.clock := by
  obtain ⟨_, _, _, _, _, rfl⟩ := h.same
  rfl

@[simp] theorem raise_clock (pg bit : Nat) (s : State) : (raise pg bit s).clock = s.clock :=
  (shows_latch (fun _ => true) pg bit (orBits (F.HEAD.EVT_RAW pg) (2 ^ bit) s) rfl rfl).clock

theorem rd_latch_ne (f : Field) (pg bit : Nat) (s : State) (hm : f.key ≠ F.EVT.MSG_COUNT.key)
    (hl : f.key ≠ (F.HEAD.EVT_LATCH pg).key) : rd f (latch pg bit s) = rd f s :=
  (shows_latch (fun k => k == F.EVT.MSG_COUNT.key || k == (F.HEAD.EVT_LATCH pg).key) pg bit s (by simp) (by simp)).regs f
    (by simp [hm, hl])

theorem rd_raise_ne (f : Field) (pg bit : Nat) (s : State) (hm : f.key ≠ F.EVT.MSG_COUNT.key)
    (hl : f.key ≠ (F.HEAD.EVT_LATCH pg).key) (hr : f.key ≠ (F.HEAD.EVT_RAW pg).key) :
    rd f (raise pg bit s) = rd f s :=
  (rd_latch_ne f pg bit _ hm hl).trans (rd_wr_ne f _ _ s hr)

@[simp] theorem rd_orBits_same (f : Field) (m : Nat) (s : State) : rd f (orBits f m s) = (rd f s ||| m) % 2 ^ f.width :=
  rd_wr_same f _ s

/-- A raised condition shows in its page's EVT_RAW (R96). -/
theorem raise_shows (pg bit : Nat) (s : State) (h : bit < 32) :
    (rd (F.HEAD.EVT_RAW pg) (raise pg bit s)).testBit bit = true := by
  have hm : (F.HEAD.EVT_RAW pg).key ≠ F.EVT.MSG_COUNT.key := by
    simp only [Field.key, F.HEAD.EVT_RAW, F.EVT.MSG_COUNT, Life.code]; omega
  have hl : (F.HEAD.EVT_RAW pg).key ≠ (F.HEAD.EVT_LATCH pg).key := by
    simp only [Field.key, F.HEAD.EVT_RAW, F.HEAD.EVT_LATCH, Life.code]; omega
  rw [raise, rd_latch_ne _ pg bit _ hm hl, rd_orBits_same, Nat.testBit_mod_two_pow, Nat.testBit_or,
    Nat.testBit_two_pow_self]
  simp [F.HEAD.EVT_RAW, h]

/-! ### A record while the queue has room -/

/-- With room a record joins the end of the queue, and nothing else changes (R609). -/
theorem logCairn_of_room (kind : Nat) (data : List Nat) (s : State) (h : s.cairn.queue.length < 32) :
    logCairn kind data s =
      { s with cairn := { s.cairn with queue := s.cairn.queue ++ [cairnItem kind data s] } } := by
  simp [logCairn, queueRecord, h]

/-- The registers that a record is formed from (R610). -/
def recordFields : List Field := [F.TIME.STATUS_UNSET, F.RESERVE.POWERED_S, F.IDENT.LIFECYCLE]

/-- A record says powered time, device time and life cycle, and nothing else of the state (R610). -/
theorem cairnItem_congr {s t : State} (kind : Nat) (data : List Nat) (hc : t.clock = s.clock)
    (hr : ∀ g ∈ recordFields, rd g t = rd g s) : cairnItem kind data t = cairnItem kind data s := by
  have unset : isSet F.TIME.STATUS_UNSET t = isSet F.TIME.STATUS_UNSET s := by
    simp only [isSet, hr F.TIME.STATUS_UNSET (by simp [recordFields])]
  have now : deviceNs t = deviceNs s := by simp only [deviceNs, hc]
  have powered := hr F.RESERVE.POWERED_S (by simp [recordFields])
  have life := hr F.IDENT.LIFECYCLE (by simp [recordFields])
  simp only [cairnItem, unset, now, powered, life]

/-! ### A supply warning -/

/-- What the monitor does for either warning before it writes the record: the rail kept, its bit latched in `f`, the event
`bit` of page PWR raised. -/
def supplyWarned (f : Field) (bit m : Nat) (w : Watch) (s : State) : State :=
  raise 0x02 bit (orBits f m { s with watch := w })

/-- `f` is none of the registers in which page PWR's events and the message count show. -/
def offEventPath (f : Field) : Bool :=
  f.key != F.EVT.MSG_COUNT.key && f.key != (F.HEAD.EVT_LATCH 0x02).key && f.key != (F.HEAD.EVT_RAW 0x02).key

theorem rd_raise_power {f : Field} (hf : offEventPath f = true) (bit : Nat) (s : State) :
    rd f (raise 0x02 bit s) = rd f s := by
  simp only [offEventPath, Bool.and_eq_true, bne_iff_ne] at hf
  obtain ⟨⟨hm, hl⟩, hr⟩ := hf
  exact rd_raise_ne f 0x02 bit s hm hl hr

theorem rd_supplyWarned_same {f : Field} (hf : offEventPath f = true) (bit m : Nat) (w : Watch) (s : State) :
    rd f (supplyWarned f bit m w s) = (rd f s ||| m) % 2 ^ f.width :=
  (rd_raise_power hf bit _).trans (rd_orBits_same f m _)

theorem rd_supplyWarned_ne {f g : Field} (hg : offEventPath g = true) (h : g.key ≠ f.key) (bit m : Nat) (w : Watch)
    (s : State) : rd g (supplyWarned f bit m w s) = rd g s :=
  (rd_raise_power hg bit _).trans (rd_wr_ne g f _ _ h)

@[simp] theorem supplyWarned_cairn (f : Field) (bit m : Nat) (w : Watch) (s : State) :
    (supplyWarned f bit m w s).cairn = s.cairn := raise_cairn _ _ _

@[simp] theorem supplyWarned_clock (f : Field) (bit m : Nat) (w : Watch) (s : State) :
    (supplyWarned f bit m w s).clock = s.clock := raise_clock _ _ _

/-- What either warning leaves (R52): in its latch `f` the bits `m` joined to those it had, as far as the latch is wide;
its event latched and live; the other latch `g` as it was; one SUPPLY record, which says which warning it is. -/
structure WarningRecorded (f g : Field) (bit m : Nat) (s t : State) : Prop where
  latched : rd f t = (rd f s ||| m) % 2 ^ f.width
  event   : eventLatched 0x02 bit t
  live    : (rd (F.HEAD.EVT_RAW 0x02) t).testBit bit = true
  other   : rd g t = rd g s
  record  : t.cairn.queue = s.cairn.queue ++ [cairnItem K_SUPPLY (octetsOf 2 m ++ [bit]) s]

theorem recordFields_offEventPath : ∀ g ∈ recordFields, offEventPath g = true := by decide

/-- The record of a warning is one of the moment before it: the warning moves neither time nor life cycle. -/
theorem cairnItem_supplyWarned {f : Field} (hr : ∀ g ∈ recordFields, g.key ≠ f.key) (kind : Nat) (data : List Nat)
    (bit m : Nat) (w : Watch) (s : State) :
    cairnItem kind data (supplyWarned f bit m w s) = cairnItem kind data s :=
  cairnItem_congr kind data (supplyWarned_clock f bit m w s)
    (fun g hg => rd_supplyWarned_ne (recordFields_offEventPath g hg) (hr g hg) bit m w s)

/-- A warning and its record, with room for it. -/
theorem warningRecorded_log {f g : Field} (hf : offEventPath f = true) (hg : offEventPath g = true) (hgf : g.key ≠ f.key)
    (hr : ∀ x ∈ recordFields, x.key ≠ f.key) {bit : Nat} (hb : bit < 32) (m : Nat) (w : Watch) {s : State}
    (room : s.cairn.queue.length < 32) :
    WarningRecorded f g bit m s (logCairn K_SUPPLY (octetsOf 2 m ++ [bit]) (supplyWarned f bit m w s)) := by
  rw [logCairn_of_room _ _ _ (by simpa using room), cairnItem_supplyWarned hr]
  exact {
    latched := rd_supplyWarned_same hf bit m w s
    event   := latch_sets 0x02 bit _ hb
    live    := raise_shows 0x02 bit _ hb
    other   := rd_supplyWarned_ne hg hgf bit m w s
    record  := by simp }

/-- The checkpoint of R604 changes none of what a warning leaves. -/
theorem WarningRecorded.checkpoint {f g : Field} {bit m : Nat} {s t : State} (h : WarningRecorded f g bit m s t) :
    WarningRecorded f g bit m s (Machine.checkpoint t) :=
  { latched := h.latched, event := h.event, live := h.live, other := h.other, record := h.record }

/-- SAG_WARN (R52). -/
theorem warningRecorded_sagWarn (rail : Nat) {s : State} (room : s.cairn.queue.length < 32) :
    WarningRecorded F.PWR.SAG_WARN_LATCH F.PWR.HIGH_LATCH 0 (2 ^ rail) s (sagWarn rail s) :=
  (warningRecorded_log (by decide) (by decide) (by decide) (by decide) (by decide) (2 ^ rail)
    { s.watch with lowRails := s.watch.lowRails ||| 2 ^ rail } room).checkpoint

/-- SUPPLY_HIGH (R52). -/
theorem warningRecorded_supplyHigh (rail : Nat) {s : State} (room : s.cairn.queue.length < 32) :
    WarningRecorded F.PWR.HIGH_LATCH F.PWR.SAG_WARN_LATCH 1 (2 ^ rail) s (supplyHigh rail s) :=
  warningRecorded_log (by decide) (by decide) (by decide) (by decide) (by decide) (2 ^ rail)
    { s.watch with highRails := s.watch.highRails ||| 2 ^ rail } room

/-- What a command leaves in the queue of commands is no part of what a warning leaves. -/
theorem WarningRecorded.pending {f g : Field} {bit m : Nat} {s t : State} {q : List Instr}
    (h : WarningRecorded f g bit m s t) : WarningRecorded f g bit m s { t with pending := q } :=
  ⟨h.latched, h.event, h.live, h.other, h.record⟩

/-- From every state with room for a record SAG_WARN records its warning, and beyond the event's and the latch's words
changes only the rail kept as low and the checkpoint. -/
theorem gives_sagWarn (rail : Fin 10) (s : State) (room : s.cairn.queue.length < 32) :
    Gives (.sagWarn rail) s (fun t =>
      WarningRecorded F.PWR.SAG_WARN_LATCH F.PWR.HIGH_LATCH 0 (2 ^ rail.val) s t ∧
      Within [.word 0x02 0x014, .word 0x02 0x010, .word 0x02 0x044] [.watch, .wear] s t) :=
  gives_done (t := sagWarn rail.val s) rfl ⟨(warningRecorded_sagWarn rail.val room).pending,
    ((Within.refl _ _ s).then (frame_sagWarn rail.val s) (by decide) (by decide)).pending⟩

/-- From every state with room for a record SUPPLY_HIGH records its warning, and beyond the event's and the latch's words
changes only the rail kept as high. -/
theorem gives_supplyHigh (rail : Fin 10) (s : State) (room : s.cairn.queue.length < 32) :
    Gives (.supplyHigh rail) s (fun t =>
      WarningRecorded F.PWR.HIGH_LATCH F.PWR.SAG_WARN_LATCH 1 (2 ^ rail.val) s t ∧
      Within [.word 0x02 0x014, .word 0x02 0x010, .word 0x02 0x048] [.watch] s t) :=
  gives_done (t := supplyHigh rail.val s) rfl ⟨(warningRecorded_supplyHigh rail.val room).pending,
    ((Within.refl _ _ s).then (frame_supplyHigh rail.val s) (by decide) (by decide)).pending⟩

/-- Where the latch holds no more than its width, the bit of a rail joins it without a cut: the first clause of R52 as
`Obligations.WarningsAreRecorded` has it. -/
theorem WarningRecorded.latched_of_fits {f g : Field} {bit : Nat} {rail : Fin 10} {s t : State} (hw : f.width = 10)
    (h : WarningRecorded f g bit (2 ^ rail.val) s t) (fits : rd f s < 2 ^ 10) : rd f t = rd f s ||| 2 ^ rail.val := by
  have small : 2 ^ rail.val < 2 ^ 10 := Nat.pow_lt_pow_right (by decide) rail.isLt
  rw [h.latched, hw, Nat.mod_eq_of_lt (Nat.or_lt_two_pow fits small)]

/-- What is given of a command that ends in `done` is so of the state in which it ends. -/
theorem Gives.of_done {c : Instr} {s t : State} {P : State → Prop} (g : Gives c s P) (h : exec c s = done s t) :
    P { t with pending := s.pending } := by
  obtain ⟨u, hu, hp⟩ := g
  rw [h, done, Host.Outcome.next.injEq] at hu
  exact hu ▸ hp

theorem rd_pending (f : Field) (s : State) (q : List Instr) : rd f { s with pending := q } = rd f s := rfl

/-! ### The statement fails on a latch that holds more than its width -/

/-- A state whose table of registers lists 1,024 for the ten bits of SAG_WARN_LATCH. The state's type admits it; no write
of a field makes it, since `wr` cuts every value to the field's width. -/
def overfullLatch : State := { State.reset with regs := [(F.PWR.SAG_WARN_LATCH.key, 1024)] }

theorem rd_overfullLatch : rd F.PWR.SAG_WARN_LATCH overfullLatch = 1024 := rfl

theorem overfullLatch_room : overfullLatch.cairn.queue.length < 32 := Nat.zero_lt_succ 31

/-- SAG_WARN of rail 0 leaves 1 there, the bit of the rail without the bit above the width. -/
theorem rd_sagWarn_overfullLatch : rd F.PWR.SAG_WARN_LATCH (sagWarn 0 overfullLatch) = 1 := by
  rw [(warningRecorded_sagWarn 0 overfullLatch_room).latched, rd_overfullLatch]
  decide

/-- Refutes O57: the statement takes every state, also one whose SAG_WARN_LATCH holds 1,024, which its ten bits have no
room for. SAG_WARN of rail 0 then leaves 1 and not 1,025. Of every state whose latches hold what their width has room for,
each clause holds: `gives_sagWarn` and `gives_supplyHigh` with `WarningRecorded.latched_of_fits`. -/
theorem not_warningsAreRecorded : ¬ Obligations.WarningsAreRecorded := by
  unfold Obligations.WarningsAreRecorded
  rintro ⟨low, -⟩
  obtain ⟨latched, -⟩ := (low 0 overfullLatch overfullLatch_room).of_done (t := sagWarn 0 overfullLatch) rfl
  rw [rd_pending, rd_sagWarn_overfullLatch, rd_overfullLatch] at latched
  exact absurd latched (by decide)

end Sys2Proof.Machine
end

section
/-! PROOF. The misses of a peer (R255) and the choice of the reference that its loss brings about (R256, R460): what
PEER_MISS gives of a tracked peer, when its third miss stays within page BEACON, and the refutation of
`Obligations.ThirdMissLosesThePeer` as it is stated. -/

namespace Sys2Proof.Machine

/-! ### The choice of the reference -/

/-- The choice leaves a followed peer, though not one just lost, for the controller's own reference: R returns to 0
(R460). -/
def RateReturns (lost : Bool) (s : State) : Prop :=
  bestPeer s = none ∧ rd F.BEACON.REF_PEER s ≠ 63 ∧ lost = false

/-- What the choice makes of reference and rate, before TIME_REF_CHANGED. -/
structure Chosen (lost : Bool) (s u : State) : Prop where
  frame : Within [.word 0x1A 0x0C8, .word 0x3C 0x0B8] [.clock] s u
  kept  : ¬ RateReturns lost s → Within [.word 0x1A 0x0C8] [.clock] s u
  rate  : RateReturns lost s → rd F.TIME.MESH_RATE_PPB u = 0

theorem Chosen.of_kept {lost : Bool} {s u : State} (hr : ¬ RateReturns lost s)
    (h : Within [.word 0x1A 0x0C8] [.clock] s u) : Chosen lost s u :=
  ⟨(Within.refl _ _ s).then h rfl rfl, fun _ => h, fun k => absurd k hr⟩

/-- The best eligible peer is followed. -/
theorem chosen_peer {lost : Bool} {s : State} {i : Nat} (hb : bestPeer s = some i) (c : Prop) [Decidable c] :
    Chosen lost s (if c then wr F.BEACON.REF_FREE_RUN 0 (wr F.BEACON.REF_PEER i s)
      else modClock (fun k => { k with refAt := none }) (wr F.BEACON.REF_FREE_RUN 0 (wr F.BEACON.REF_PEER i s))) := by
  have h : Within [.word 0x1A 0x0C8] [.clock] s (wr F.BEACON.REF_FREE_RUN 0 (wr F.BEACON.REF_PEER i s)) :=
    ((Within.refl _ _ s).wr (inScopes_of rfl)).wr (inScopes_of rfl)
  exact .of_kept (by simp [RateReturns, hb]) (Within.ite h (h.then (frame_modClock _ _) rfl rfl))

theorem Within.ownReference {P : List Scope} {s u : State} (h : Within P [.clock] s u)
    (hp : inScopes P F.BEACON.REF_PEER.key = true) :
    Within P [.clock] s (modClock (fun k => { k with refAt := none }) (Machine.wr F.BEACON.REF_PEER 63 u)) :=
  (h.wr hp).then (frame_modClock _ _) rfl rfl

/-- Without an eligible peer the controller is its own reference. -/
theorem chosen_own {s : State} (hb : bestPeer s = none) (lost : Bool) :
    Chosen lost s (modClock (fun k => { k with refAt := none }) (wr F.BEACON.REF_PEER 63
      (if rd F.BEACON.REF_PEER s = 63 then s else if lost then wr F.BEACON.REF_FREE_RUN 1 s else dropRate s))) := by
  by_cases own : rd F.BEACON.REF_PEER s = 63
  · rw [if_pos own]
    exact .of_kept (fun ⟨_, h, _⟩ => h own) ((Within.refl _ _ s).ownReference (inScopes_of rfl))
  · rw [if_neg own]
    cases lost with
    | true =>
      exact .of_kept (fun ⟨_, _, h⟩ => nomatch h)
        (((Within.refl _ _ s).wr (inScopes_of rfl)).ownReference (inScopes_of rfl))
    | false =>
      have dropped : rd F.TIME.MESH_RATE_PPB (dropRate s) = 0 := rd_wr_same F.TIME.MESH_RATE_PPB 0 _
      exact {
        frame := ((Within.refl _ _ s).then (frame_dropRate s) rfl rfl).ownReference (inScopes_of rfl)
        kept  := fun h => absurd ⟨hb, own, rfl⟩ h
        rate  := fun _ => (rd_wr_ne F.TIME.MESH_RATE_PPB F.BEACON.REF_PEER 63 _ (by decide)).trans dropped }

/-- All that the choice can do: reference and rate, and TIME_REF_CHANGED where the reference changed (R256). -/
theorem chooseReference_cases (lost : Bool) (s : State) :
    ∃ u, Chosen lost s u ∧ (chooseReference lost s = u ∨ chooseReference lost s = latch 0x1A 2 u) := by
  unfold chooseReference
  cases hb : bestPeer s with
  | some i => exact ⟨_, chosen_peer hb (i = rd F.BEACON.REF_PEER s), ite_eq_or_eq _ _ _⟩
  | none => exact ⟨_, chosen_own hb lost, ite_eq_or_eq _ _ _⟩

/-- Unless the rate returns, the choice stays within page BEACON. -/
theorem frame_chooseReference_kept {lost : Bool} {s : State} (hr : ¬ RateReturns lost s) :
    Within [.page 0x1A] [.clock] s (chooseReference lost s) := by
  obtain ⟨u, hu, e⟩ := chooseReference_cases lost s
  have h : Within [.page 0x1A] [.clock] s u := (Within.refl _ _ s).then (hu.kept hr) rfl rfl
  obtain e | e := e <;> rw [e]
  · exact h
  · exact h.latch (inScopes_of rfl)

theorem rate_chooseReference {lost : Bool} {s : State} (hr : RateReturns lost s) :
    rd F.TIME.MESH_RATE_PPB (chooseReference lost s) = 0 := by
  obtain ⟨u, hu, e⟩ := chooseReference_cases lost s
  obtain e | e := e <;> rw [e]
  · exact hu.rate hr
  · exact (rd_latch_ne _ 0x1A 2 u (by decide) (by decide)).trans (hu.rate hr)

/-- What a page's latch reads once a bit has latched: the bit joined to those it had (R96). -/
theorem rd_latch_same (pg bit : Nat) (s : State) :
    rd (F.HEAD.EVT_LATCH pg) (latch pg bit s) = (rd (F.HEAD.EVT_LATCH pg) s ||| 2 ^ bit) % 2 ^ 32 := by
  have hm : (F.HEAD.EVT_LATCH pg).key ≠ F.EVT.MSG_COUNT.key := by
    simp only [Field.key, F.HEAD.EVT_LATCH, F.EVT.MSG_COUNT, Life.code]; omega
  exact ((shows_settle (fun k => k == F.EVT.MSG_COUNT.key) (by simp) _ s _).regs _ (by simpa using hm)).trans
    (rd_orBits_same (F.HEAD.EVT_LATCH pg) (2 ^ bit) s)

theorem latch_keeps {pg b : Nat} {s : State} (bit : Nat) (h : eventLatched pg b s) (hb : b < 32) :
    eventLatched pg b (latch pg bit s) := by
  rw [eventLatched, rd_latch_same, Nat.testBit_mod_two_pow, Nat.testBit_or, h]
  simpa using hb

/-- The choice leaves every event of page BEACON latched that was so. -/
theorem chooseReference_keeps_events {lost : Bool} {s : State} {b : Nat} (h : eventLatched 0x1A b s) (hb : b < 32) :
    eventLatched 0x1A b (chooseReference lost s) := by
  obtain ⟨u, hu, e⟩ := chooseReference_cases lost s
  have k : eventLatched 0x1A b u := by
    rw [eventLatched, hu.frame.regs (F.HEAD.EVT_LATCH 0x1A) (by decide) (by decide)]
    exact h
  obtain e | e := e <;> rw [e]
  · exact k
  · exact latch_keeps 2 k hb

/-! ### PEER_MISS -/

/-- The peer is tracked and present, and page BEACON runs. -/
structure Tracked (i : Nat) (s : State) : Prop where
  enabled : rd (F.BEACON.PEER_ENABLE i) s = 1
  present : rd (F.BEACON.PEER_STATE i) s = P_PRESENT
  running : pageState 0x1A s = RUN

/-- The registers of a peer after its third miss: it is ABSENT, and LOST_COUNT counts (R255). -/
def peerAbsent (i : Nat) (s : State) : State :=
  wr (F.BEACON.PEER_STATE i) P_ABSENT (incSat (F.BEACON.PEER_LOST_COUNT i) (wr (F.BEACON.PEER_MISSES i) 3 s))

/-- A third miss before the reference is chosen again: PEER_LOST is latched too (R255). -/
def peerLost (i : Nat) (s : State) : State := latch 0x1A 0 (peerAbsent i s)

theorem rd_refPeer_peerAbsent (i : Nat) (s : State) :
    rd F.BEACON.REF_PEER (peerAbsent i s) = rd F.BEACON.REF_PEER s := by
  have ne : F.BEACON.REF_PEER.key ≠ (F.BEACON.PEER_STATE i).key ∧
      F.BEACON.REF_PEER.key ≠ (F.BEACON.PEER_LOST_COUNT i).key ∧ F.BEACON.REF_PEER.key ≠ (F.BEACON.PEER_MISSES i).key := by
    simp only [Field.key, F.BEACON.REF_PEER, F.BEACON.PEER_STATE, F.BEACON.PEER_LOST_COUNT, F.BEACON.PEER_MISSES,
      Life.code]
    omega
  obtain ⟨state, lost, misses⟩ := ne
  rw [peerAbsent, rd_wr_ne _ _ _ _ state, incSat, rd_wr_ne _ _ _ _ lost, rd_wr_ne _ _ _ _ misses]

/-- The first and the second miss only count. -/
theorem peerMiss_counts {i : Nat} {s : State} (h : Tracked i s) (hm : rd (F.BEACON.PEER_MISSES i) s < 2) :
    peerMiss i s = wr (F.BEACON.PEER_MISSES i) (rd (F.BEACON.PEER_MISSES i) s + 1) s := by
  have few : rd (F.BEACON.PEER_MISSES i) s + 1 < 3 := by omega
  simp [peerMiss, isSet, h.enabled, h.present, h.running, few]

/-- The third miss loses the peer, and the reference is chosen again. -/
theorem peerMiss_loses {i : Nat} {s : State} (h : Tracked i s) (hm : rd (F.BEACON.PEER_MISSES i) s = 2) :
    peerMiss i s = chooseReference (rd F.BEACON.REF_PEER s == i) (peerLost i s) := by
  rw [← rd_refPeer_peerAbsent i s]
  simp [peerMiss, isSet, h.enabled, h.present, h.running, hm, peerLost, peerAbsent]

/-- The registers that R255 speaks of. -/
def missFields (i : Nat) : List Field := [F.BEACON.PEER_STATE i, F.BEACON.PEER_MISSES i, F.BEACON.PEER_LOST_COUNT i]

theorem missFields_apart : ∀ i : Fin 32, ∀ f ∈ missFields i.val, followKey f.key = false ∧
    inScopes [.word 0x1A 0x0C8, .word 0x3C 0x0B8, .word 0x1A 0x014] f.key = false := by decide

theorem missFields_ne (i : Nat) :
    (F.BEACON.PEER_STATE i).key ≠ (F.BEACON.PEER_MISSES i).key ∧
    (F.BEACON.PEER_LOST_COUNT i).key ≠ (F.BEACON.PEER_MISSES i).key ∧
    (F.BEACON.PEER_LOST_COUNT i).key ≠ (F.BEACON.PEER_STATE i).key := by
  simp only [Field.key, F.BEACON.PEER_STATE, F.BEACON.PEER_LOST_COUNT, F.BEACON.PEER_MISSES, Life.code]
  omega

theorem calm_peerMiss {s : State} (hc : Calm s = true) (i : Nat) : Calm (peerMiss i s) = true :=
  ((frame_peerMiss i s).calm (by decide) (by decide)).trans hc

/-- In a calm state nothing that follows PEER_MISS changes what it leaves in a field. -/
theorem rd_execPeerMiss {s : State} (hc : Calm s = true) (i : Nat) (f : Field) (hf : followKey f.key = false) :
    rd f { settleWork s (peerMiss i s) with pending := s.pending } = rd f (peerMiss i s) :=
  rd_settleWork_calm f s _ (calm_peerMiss hc i) hf

/-- The first clause of R255 as `Obligations.ThirdMissLosesThePeer` has it holds: the first and the second miss only
count. -/
theorem gives_peerMiss_counts {pi : Fin 32} {s : State} (h : Tracked pi.val s)
    (hm : rd (F.BEACON.PEER_MISSES pi.val) s < 2) (hc : Calm s = true) :
    Gives (.peerMiss pi) s (fun t =>
      rd (F.BEACON.PEER_MISSES pi.val) t = rd (F.BEACON.PEER_MISSES pi.val) s + 1 ∧
      rd (F.BEACON.PEER_STATE pi.val) t = P_PRESENT ∧
      rd (F.BEACON.PEER_LOST_COUNT pi.val) t = rd (F.BEACON.PEER_LOST_COUNT pi.val) s ∧
      Within [.page 0x1A] [.clock] s t) := by
  obtain ⟨state, lost, -⟩ := missFields_ne pi.val
  have keep := fun f hf => rd_execPeerMiss hc pi.val f (missFields_apart pi f hf).1
  refine gives_done (t := settleWork s (peerMiss pi.val s)) rfl ⟨?_, ?_, ?_, ?_⟩
  · rw [keep _ (by simp [missFields]), peerMiss_counts h hm, rd_wr_same]
    exact Nat.mod_eq_of_lt (show _ < 4 by omega)
  · rw [keep _ (by simp [missFields]), peerMiss_counts h hm, rd_wr_ne _ _ _ _ state, h.present]
  · rw [keep _ (by simp [missFields]), peerMiss_counts h hm, rd_wr_ne _ _ _ _ lost]
  · have own : Within [.page 0x1A] [.clock] s (peerMiss pi.val s) := by
      rw [peerMiss_counts h hm]
      exact (Within.refl _ _ s).wr (inScopes_page (by simp [F.BEACON.PEER_MISSES]))
    exact (own.settleWork (calm_peerMiss hc _)).pending

/-- What of a lost peer the choice of the reference leaves. -/
theorem rd_chooseReference_lost {pi : Fin 32} {f : Field} (hf : f ∈ missFields pi.val) (lost : Bool) (s : State) :
    rd f (chooseReference lost (peerLost pi.val s)) = rd f (peerAbsent pi.val s) := by
  obtain ⟨follow, apart⟩ := missFields_apart pi f hf
  have latched : Within [.word 0x1A 0x0C8, .word 0x3C 0x0B8, .word 0x1A 0x014] [.clock] (peerAbsent pi.val s)
      (peerLost pi.val s) := (Within.refl _ _ _).latch (inScopes_of rfl)
  exact (latched.trans (frame_chooseReference lost _)).regs f follow apart

theorem Within.peerLost {s t : State} (h : Within [.page 0x1A] [.clock] s t) (i : Nat) :
    Within [.page 0x1A] [.clock] s (Machine.peerLost i t) :=
  (((h.wr (inScopes_page (by simp [F.BEACON.PEER_MISSES]))).incSat
    (inScopes_page (by simp [F.BEACON.PEER_LOST_COUNT]))).wr
      (inScopes_page (by simp [F.BEACON.PEER_STATE]))).latch (inScopes_of rfl)

/-- The third miss loses the peer (R255), and where the rate does not return it stays within page BEACON. -/
theorem gives_peerMiss_loses {pi : Fin 32} {s : State} (h : Tracked pi.val s)
    (hm : rd (F.BEACON.PEER_MISSES pi.val) s = 2) (hl : rd (F.BEACON.PEER_LOST_COUNT pi.val) s < 65535)
    (hc : Calm s = true) :
    Gives (.peerMiss pi) s (fun t =>
      rd (F.BEACON.PEER_STATE pi.val) t = P_ABSENT ∧
      rd (F.BEACON.PEER_LOST_COUNT pi.val) t = rd (F.BEACON.PEER_LOST_COUNT pi.val) s + 1 ∧
      eventLatched 0x1A 0 t ∧
      (¬ RateReturns (rd F.BEACON.REF_PEER s == pi.val) (peerLost pi.val s) → Within [.page 0x1A] [.clock] s t)) := by
  obtain ⟨-, lost, state⟩ := missFields_ne pi.val
  have keep := fun f hf => rd_execPeerMiss hc pi.val f (missFields_apart pi f hf).1
  have miss := peerMiss_loses h hm
  refine gives_done (t := settleWork s (peerMiss pi.val s)) rfl ⟨?_, ?_, ?_, fun hr => ?_⟩
  · rw [keep _ (by simp [missFields]), miss, rd_chooseReference_lost (by simp [missFields]),
      peerAbsent, rd_wr_same]
    rfl
  · rw [keep _ (by simp [missFields]), miss, rd_chooseReference_lost (by simp [missFields]),
      peerAbsent, rd_wr_ne _ _ _ _ state, incSat, rd_wr_same, rd_wr_ne _ _ _ _ lost]
    simp only [F.BEACON.PEER_LOST_COUNT] at hl ⊢
    omega
  · rw [eventLatched, rd_execPeerMiss hc pi.val _ (by decide), miss]
    exact chooseReference_keeps_events (latch_sets 0x1A 0 _ (by decide)) (by decide)
  · have own : Within [.page 0x1A] [.clock] s (peerMiss pi.val s) := by
      rw [miss]
      exact ((Within.refl _ _ s).peerLost pi.val).trans (frame_chooseReference_kept hr)
    exact (own.settleWork (calm_peerMiss hc _)).pending

/-! ### The statement fails where the reference has ceased to be eligible -/

/-- Peer 1 is the reference and R is 100 ppb; its last Mesh time IE stated stratum 15, so that it is no longer eligible,
and no choice has been made since (R256). Peer 0, tracked and present, has missed two beacons. -/
def ineligibleReference : State :=
  wr (F.HEAD.STATE_STATE 0x1A) RUN (wr F.BEACON.REF_PEER 1 (wr F.TIME.MESH_RATE_PPB 100
    (wr (F.BEACON.PEER_STATE 1) P_PRESENT (wr (F.BEACON.PEER_ENABLE 1) 1
      (wr (F.BEACON.PEER_MISSES 0) 2 (wr (F.BEACON.PEER_STATE 0) P_PRESENT (wr (F.BEACON.PEER_ENABLE 0) 1
        { State.reset with boot := { held := false }, peers := [(1, { stratum := 15, priority := 1 })] })))))))

theorem tracked_ineligibleReference : Tracked 0 ineligibleReference := ⟨by decide, by decide, by decide⟩

theorem misses_ineligibleReference : rd (F.BEACON.PEER_MISSES 0) ineligibleReference = 2 := by decide

theorem calm_ineligibleReference : Calm ineligibleReference = true := by decide

/-- With peer 0 lost no peer is eligible: the controller becomes its own reference. -/
theorem rateReturns_ineligibleReference :
    RateReturns (rd F.BEACON.REF_PEER ineligibleReference == 0) (peerLost 0 ineligibleReference) :=
  ⟨by decide, by decide, by decide⟩

/-- The third miss of peer 0 then leaves R at 0. -/
theorem rate_peerMiss_ineligibleReference : rd F.TIME.MESH_RATE_PPB (peerMiss 0 ineligibleReference) = 0 := by
  rw [peerMiss_loses tracked_ineligibleReference misses_ineligibleReference]
  exact rate_chooseReference rateReturns_ineligibleReference

/-- Refutes O60: it keeps the third miss within page BEACON, but the choice that PEER_LOST brings about (R256) may return
R of page TIME to 0 (R460). It does so where the reference is no longer eligible when another peer is lost: 100 ppb
before, 0 after. All else that the statement says holds: `gives_peerMiss_counts`, and `gives_peerMiss_loses` with the
frame wherever R does not return. -/
theorem not_thirdMissLosesThePeer : ¬ Obligations.ThirdMissLosesThePeer := by
  unfold Obligations.ThirdMissLosesThePeer
  rintro ⟨-, third⟩
  have tracked := tracked_ineligibleReference
  obtain ⟨-, -, -, within⟩ := (third 0 ineligibleReference tracked.enabled tracked.present tracked.running
    misses_ineligibleReference (by decide) calm_ineligibleReference).of_done
      (t := settleWork ineligibleReference (peerMiss 0 ineligibleReference)) rfl
  have rate := within.regs F.TIME.MESH_RATE_PPB (by decide) (by decide)
  rw [rd_execPeerMiss calm_ineligibleReference 0 _ (by decide), rate_peerMiss_ineligibleReference] at rate
  exact absurd rate (by decide)

end Sys2Proof.Machine
end

section
/-! PROOF. The tamper enables (R606): what a write of a plain configuration word leaves, why a write of CANARY.CFG is
rejected, and what a sensor that is not enabled detects, for `Obligations.TamperEnablesStay`. -/

namespace Sys2Proof.Machine

/-! ### A stored word: each of its fields reads the value written, and no other changes -/

theorem storeWord_cons (f : Field) (fs : List Field) (data : Nat) (s : State) :
    storeWord (f :: fs) data s =
      storeWord fs data (if f.written && f.slice data != rd f s then wr f (f.slice data) s else s) := rfl

theorem slice_mod (f : Field) (data : Nat) : f.slice data % 2 ^ f.width = f.slice data := Nat.mod_mod _ _

theorem rd_storeWord_ne {f : Field} {fs : List Field} (h : ∀ g ∈ fs, f.key ≠ g.key) (data : Nat) (s : State) :
    rd f (storeWord fs data s) = rd f s := by
  induction fs generalizing s with
  | nil => rfl
  | cons g r ih =>
    rw [storeWord_cons, ih (fun x hx => h x (List.mem_cons_of_mem _ hx))]
    split
    · exact rd_wr_ne f g _ s (h g List.mem_cons_self)
    · rfl

/-- A field that a write sets reads its part of the word, whether the write changed it or found it so. -/
theorem rd_storeWord_mem {f : Field} {fs : List Field} (apart : fs.Pairwise (fun a b => a.key ≠ b.key)) (hf : f ∈ fs)
    (hw : f.written = true) (data : Nat) (s : State) : rd f (storeWord fs data s) = f.slice data := by
  induction fs generalizing s with
  | nil => cases hf
  | cons g r ih =>
    obtain ⟨first, rest⟩ := List.pairwise_cons.mp apart
    rw [storeWord_cons]
    obtain rfl | hr := List.mem_cons.mp hf
    · rw [rd_storeWord_ne first]
      by_cases same : f.slice data = rd f s
      · simp [same]
      · simp [hw, same, slice_mod]
    · exact ih rest hr _

theorem Within.storeWord {P : List Scope} {S : List Part} {s t : State} {fs : List Field} (h : Within P S s t)
    (hf : ∀ f ∈ fs, inScopes P f.key = true) (data : Nat) : Within P S s (Machine.storeWord fs data t) :=
  h.foldl (fun _ f m k => .ite (k.wr (hf f m)) k)

/-- A word without sticky bits has none to clear. -/
theorem clearSticky_of_plain {fs : List Field} (h : ∀ f ∈ fs, f.acc ≠ .rw1c) (data : Nat) (s : State) :
    clearSticky fs data s = s := by
  induction fs with
  | nil => rfl
  | cons f r ih =>
    have plain : f.acc ≠ .rw1c := h f List.mem_cons_self
    simpa [clearSticky, plain] using ih (fun g hg => h g (List.mem_cons_of_mem _ hg))

/-! ### A rejected write -/

/-- A rejected write shows its reason (R76). -/
theorem rd_reject_reason (pg off : Nat) (why : Reason) (data : Word) (s : State) :
    rd (F.HEAD.REJECT_ADDR_REASON pg) (reject pg off .bar0 why data s) = why.code := by
  have apart : ∀ g ∈ [F.EVT.MSG_COUNT, F.HEAD.EVT_LATCH pg, F.HEAD.REJECT_COUNT pg, F.HEAD.REJECT_DATA pg,
      F.HEAD.REJECT_ADDR_ROUTE pg], (F.HEAD.REJECT_ADDR_REASON pg).key ≠ g.key := by
    simp only [List.forall_mem_cons, Field.key, F.HEAD.REJECT_ADDR_REASON, F.EVT.MSG_COUNT, F.HEAD.EVT_LATCH,
      F.HEAD.REJECT_COUNT, F.HEAD.REJECT_DATA, F.HEAD.REJECT_ADDR_ROUTE, Life.code]
    refine ⟨?_, ?_, ?_, ?_, ?_, fun _ h => nomatch h⟩ <;> omega
  simp only [List.forall_mem_cons] at apart
  obtain ⟨messages, latches, count, word, route, -⟩ := apart
  have fits : why.code < 2 ^ 3 := by cases why <;> decide
  simp only [reject]
  rw [rd_latch_ne _ pg 31 _ messages latches, incSat, rd_wr_ne _ _ _ _ count, rd_wr_ne _ _ _ _ word,
    rd_wr_ne _ _ _ _ route, rd_wr_same]
  exact Nat.mod_eq_of_lt fits

/-- A rejected write latches bit 31 of its page (R76). -/
theorem reject_latches (pg off : Nat) (why : Reason) (data : Word) (s : State) :
    eventLatched pg 31 (reject pg off .bar0 why data s) := latch_sets pg 31 _ (by decide)

/-! ### CANARY.CFG -/

/-- The enables of CANARY.CFG, of which R606 speaks. -/
def tamperEnables : List Field :=
  [F.CANARY.CFG_MESH_EN, F.CANARY.CFG_SW_EN, F.CANARY.CFG_TEMP_EN, F.CANARY.CFG_GLITCH_EN]

/-- The fields of CANARY.CFG. -/
def cfgFields : List Field :=
  [F.CANARY.CFG_MESH_EN, F.CANARY.CFG_SW_EN, F.CANARY.CFG_SW_POL, F.CANARY.CFG_TEMP_EN, F.CANARY.CFG_GLITCH_EN]

theorem wordFields_canaryCfg : wordFields 0x03 0x040 = cfgFields := by decide

theorem wordReserved_canaryCfg : wordReserved 0x03 0x040 = 0xFFFFFCC0 := by decide

theorem tamperEnables_among : ∀ f ∈ tamperEnables, f ∈ cfgFields := by decide

/-- The fields of CANARY.CFG lie in its word and follow no other state. -/
theorem cfgFields_word : ∀ f ∈ cfgFields, inScopes [.word 0x03 0x040] f.key = true ∧ followKey f.key = false := by
  decide

/-- The fields of CANARY.CFG are read and written, of any value and in any state of the page, and do not lock. -/
theorem cfgFields_plain : ∀ f ∈ cfgFields, f.acc = .rw ∧ f.lim = .any ∧ f.gate = .always := by decide

theorem cfgFields_apart : cfgFields.Pairwise (fun a b => a.key ≠ b.key) := by decide

/-- Whether a word clears an enable that is set. -/
def clearsEnable (data : Nat) (s : State) : Bool := tamperEnables.any (fun f => rd f s &&& f.slice data != rd f s)

/-- A state in which R606 keeps the enables: PROVISIONED or DEPLOYED, the start past the stages that refuse writes. -/
structure EnablesKept (s : State) : Prop where
  started : 7 ≤ rd F.MGMT.START_STAGE s
  life    : rd F.IDENT.LIFECYCLE s = 2 ∨ rd F.IDENT.LIFECYCLE s = 3

/-- In PROVISIONED and DEPLOYED a write of CANARY.CFG is rejected if it clears an enable, as STATE, and for no other
reason (R606). -/
theorem refusal_canaryCfg {s : State} (h : EnablesKept s) {data : Nat} (hd : data &&& 0xFFFFFCC0 = 0) :
    refusal 0x03 0x040 .bar0 data s = if clearsEnable data s then some .state else none := by
  have range : outOfRange cfgFields data s = false := by
    simp only [outOfRange, List.any_eq_false]
    intro f hf
    obtain ⟨-, any, -⟩ := cfgFields_plain f hf
    simp [any, Lim.holds]
  have locked : cfgFields.any (fun f => f.acc == .rwl && changes data s f) = false := by
    rw [List.any_eq_false]
    intro f hf
    obtain ⟨acc, -, -⟩ := cfgFields_plain f hf
    simp [acc]
  have gate : cfgFields.any (fun f => changes data s f && gateClosed s f) = false := by
    rw [List.any_eq_false]
    intro f hf
    obtain ⟨-, -, always⟩ := cfgFields_plain f hf
    simp [always, gateClosed]
  have start : early 0x03 s = false := by simp [early, h.started]
  have life : (lifecycle s == LC_PROVISIONED || lifecycle s == LC_DEPLOYED) = true := by
    simpa [lifecycle, LC_PROVISIONED, LC_DEPLOYED] using h.life
  have state : crossState 0x03 0x040 data s = clearsEnable data s := by
    simp [crossState, life, clearsEnable, tamperEnables]
  simp [refusal, wordFields_canaryCfg, wordReserved_canaryCfg, range, crossRange, commandRange, hd, locked, start, gate,
    state, routeClosed, spiReadOnly]

/-- A write of CANARY.CFG over BAR0, all bytes enabled. -/
theorem busWrite_canaryCfg {s : State} (h : EnablesKept s) {data : Word} (hd : data.toNat &&& 0xFFFFFCC0 = 0) :
    busWrite .bar0 0x3040 15 data s =
      if clearsEnable data.toNat s then reject 0x03 0x040 .bar0 .state data s
      else storeWord cfgFields data.toNat s := by
  have asks : busWrite .bar0 0x3040 15 data s =
      regCommand 0x03 0x040 .bar0 data (writeWord 0x03 0x040 data.toNat) s := rfl
  have stores : writeWord 0x03 0x040 data.toNat s = storeWord cfgFields data.toNat s := by
    have plain : ∀ f ∈ cfgFields, f.acc ≠ .rw1c := by decide
    simp [writeWord, wordFields_canaryCfg, clearSticky_of_plain plain, afterStore, noteBase, baseOf]
  rw [asks, regCommand, refusal_canaryCfg h hd]
  cases clearsEnable data.toNat s with
  | true => rfl
  | false => exact stores

/-- A write of CANARY.CFG that clears an enable in PROVISIONED or DEPLOYED: rejected as STATE, beyond the words that
record it nothing changed (R606). -/
theorem gives_clearingWrite {data : Word} {s : State} (h : EnablesKept s) (hd : data.toNat &&& 0xFFFFFCC0 = 0)
    (clears : clearsEnable data.toNat s = true) (hc : Calm s = true) :
    Gives (.registerWrite .bar0 0x3040 15 data) s (fun t =>
      (∀ f ∈ cfgFields, rd f t = rd f s) ∧
      rd (F.HEAD.REJECT_ADDR_REASON 0x03) t = Reason.state.code ∧
      eventLatched 0x03 31 t) := by
  have own : busWrite .bar0 0x3040 15 data s = reject 0x03 0x040 .bar0 .state data s := by
    rw [busWrite_canaryCfg h hd, if_pos clears]
  have frame := frame_reject 0x03 0x040 .bar0 .state data s
  have calm : Calm (reject 0x03 0x040 .bar0 .state data s) = true := (frame.calm (by decide) (by decide)).trans hc
  have keep := fun f hf => rd_settleWork_calm f s _ calm hf
  refine gives_done (t := settleWork s (busWrite .bar0 0x3040 15 data s)) rfl ?_
  rw [own]
  refine ⟨fun f hf => ?_, ?_, ?_⟩
  · have outside : ∀ f ∈ cfgFields,
        inScopes [.word 0x03 0x14, .word 0x03 0x28, .word 0x03 0x24, .word 0x03 0x20] f.key = false := by decide
    obtain ⟨-, follow⟩ := cfgFields_word f hf
    exact (keep f follow).trans (frame.regs f follow (outside f hf))
  · exact (keep _ (by decide)).trans (rd_reject_reason 0x03 0x040 .state data s)
  · rw [eventLatched, rd_pending, keep _ (by decide)]
    exact reject_latches 0x03 0x040 .state data s

/-- A write of CANARY.CFG that clears no enable in PROVISIONED or DEPLOYED: stored, and nothing else changed (R606). -/
theorem gives_settingWrite {data : Word} {s : State} (h : EnablesKept s) (hd : data.toNat &&& 0xFFFFFCC0 = 0)
    (clears : clearsEnable data.toNat s = false) (hc : Calm s = true) :
    Gives (.registerWrite .bar0 0x3040 15 data) s (fun t =>
      (∀ f ∈ cfgFields, rd f t = f.slice data.toNat) ∧ Within [.word 0x03 0x040] [] s t) := by
  have own : busWrite .bar0 0x3040 15 data s = storeWord cfgFields data.toNat s := by
    rw [busWrite_canaryCfg h hd, clears]
    rfl
  have frame : Within [.word 0x03 0x040] [] s (storeWord cfgFields data.toNat s) :=
    (Within.refl _ _ s).storeWord (fun f hf => (cfgFields_word f hf).1) _
  have calm : Calm (storeWord cfgFields data.toNat s) = true := (frame.calm (by decide) (by decide)).trans hc
  refine gives_done (t := settleWork s (busWrite .bar0 0x3040 15 data s)) rfl ?_
  rw [own]
  refine ⟨fun f hf => ?_, (frame.settleWork calm).pending⟩
  obtain ⟨-, follow⟩ := cfgFields_word f hf
  obtain ⟨acc, -, -⟩ := cfgFields_plain f hf
  exact (rd_settleWork_calm f s _ calm follow).trans
    (rd_storeWord_mem cfgFields_apart hf (by simp [Field.written, acc]) data.toNat s)

/-! ### A sensor that is not enabled -/

/-- While supplied, a sensor that is not enabled detects nothing. -/
theorem tamper_of_off {b : Nat} {s : State} (supplied : tamperPhase s ≠ 4) (off : sensorOn b s = false) :
    tamper b s = s := by
  simp [tamper, supplied, off]

/-- A command that is the detection of a sensor not enabled leaves a calm state, while supplied, as it was. -/
theorem gives_of_sensor_off {c : Instr} {b : Nat} {s : State} (hx : exec c s = done s (settleWork s (tamper b s)))
    (supplied : tamperPhase s ≠ 4) (off : sensorOn b s = false) (hc : Calm s = true) :
    Gives c s (fun t =>
      rd F.CANARY.TAMPER_STATUS_SENSORS t = rd F.CANARY.TAMPER_STATUS_SENSORS s ∧
      t.root = s.root ∧
      t.slots = s.slots ∧
      Within [] [] s t) := by
  rw [tamper_of_off supplied off] at hx
  have same : Within [] [] s { settleWork s s with pending := s.pending } :=
    ((Within.refl _ _ s).settleWork hc).pending
  exact gives_done hx ⟨same.regs F.CANARY.TAMPER_STATUS_SENSORS (by decide) rfl, same.parts .root List.not_mem_nil,
    same.parts .slots List.not_mem_nil, same⟩

theorem sensorOn_mesh (n : Fin 2) (s : State) : sensorOn n.val s = (rd F.CANARY.CFG_MESH_EN s).testBit n.val :=
  if_pos n.isLt

theorem sensorOn_switch (n : Fin 2) (s : State) :
    sensorOn (2 + n.val) s = (rd F.CANARY.CFG_SW_EN s).testBit n.val := by
  rw [sensorOn, if_neg (by omega), if_pos (by omega), Nat.add_sub_cancel_left]

theorem sensorOn_env (glitch : Bool) (s : State) :
    sensorOn (if glitch then 5 else 4) s =
      isSet (if glitch then F.CANARY.CFG_GLITCH_EN else F.CANARY.CFG_TEMP_EN) s := by
  cases glitch <;> rfl

/-- Settles O58: a write of CANARY.CFG that clears an enable is the only one rejected (`refusal_canaryCfg`), one that
clears none is stored field by field, and a sensor that is not enabled detects nothing (`tamper_of_off`). -/
theorem tamperEnablesStay : Obligations.TamperEnablesStay := by
  unfold Obligations.TamperEnablesStay
  refine ⟨?_, ?_, ?_, ?_, ?_⟩
  · rintro _ _ _ data s rfl rfl rfl hd started - life clears calm
    obtain ⟨t, ht, cfg, reason, event⟩ := gives_clearingWrite ⟨started, life⟩ hd clears calm
    have enables : tamperEnables.all (fun f => rd f t == rd f s) = true :=
      List.all_eq_true.mpr (fun f hf => beq_iff_eq.mpr (cfg f (tamperEnables_among f hf)))
    exact ⟨t, ht, enables, cfg _ (by decide), reason, event⟩
  · rintro _ _ _ data s rfl rfl rfl hd started - life keeps calm
    have clears : clearsEnable data.toNat s = false :=
      List.any_eq_false.mpr (fun f hf => by simpa using List.all_eq_true.mp keeps f hf)
    obtain ⟨t, ht, cfg, frame⟩ := gives_settingWrite ⟨started, life⟩ hd clears calm
    have enables : tamperEnables.all (fun f => rd f t == f.slice data.toNat) = true :=
      List.all_eq_true.mpr (fun f hf => beq_iff_eq.mpr (cfg f (tamperEnables_among f hf)))
    exact ⟨t, ht, enables, frame⟩
  · intro sensor s supplied off calm
    exact gives_of_sensor_off rfl supplied ((sensorOn_mesh sensor s).trans off) calm
  · intro sensor s supplied off calm
    exact gives_of_sensor_off rfl supplied ((sensorOn_switch sensor s).trans off) calm
  · intro glitch s supplied off calm
    have unset : sensorOn (if glitch then 5 else 4) s = false := by
      rw [sensorOn_env, isSet, off]
      rfl
    exact gives_of_sensor_off rfl supplied unset calm

end Sys2Proof.Machine
end

section
/-! PROOF. DDR in its canonical form: what each write leaves of the form, what reads back after it, and
`Obligations.MemoryBytesReadBack`. -/

namespace Sys2Proof.Machine

/-! ### The form -/

theorem Memory.wfFrom_cons {lo a : Nat} {b : Byte} {r : List Host.Cell} :
    Memory.wfFrom lo ((a, b) :: r) = true ↔ lo ≤ a ∧ b ≠ 0 ∧ Memory.wfFrom (a + 1) r = true := by
  simp [Memory.wfFrom, and_assoc]

theorem Memory.wfFrom_mono {lo lo' : Nat} {m : List Host.Cell} (h : Memory.wfFrom lo m = true) (le : lo' ≤ lo) :
    Memory.wfFrom lo' m = true := by
  cases m with
  | nil => rfl
  | cons c r =>
    obtain ⟨la, nz, rest⟩ := Memory.wfFrom_cons.mp h
    exact Memory.wfFrom_cons.mpr ⟨le.trans la, nz, rest⟩

theorem readByte_cons (a x : Nat) (b : Byte) (r : List Host.Cell) :
    readByte ((a, b) :: r) x = if x = a then b else if x < a then 0 else readByte r x := rfl

/-- Below its first address a memory reads as unlisted. -/
theorem readByte_below {lo x : Nat} {m : List Host.Cell} (h : Memory.wfFrom lo m = true) (hx : x < lo) :
    readByte m x = 0 := by
  cases m with
  | nil => rfl
  | cons c r =>
    obtain ⟨la, -, -⟩ := Memory.wfFrom_cons.mp h
    rw [readByte_cons, if_neg (by omega), if_pos (by omega)]

/-- In the form the rest answers for every address but the first cell's. -/
theorem readByte_cons_wf {a x : Nat} {b : Byte} {r : List Host.Cell} (h : Memory.wfFrom (a + 1) r = true) :
    readByte ((a, b) :: r) x = if x = a then b else readByte r x := by
  rw [readByte_cons]
  split
  · rfl
  · split
    · exact (readByte_below h (by omega)).symm
    · rfl

/-! ### One octet -/

/-- Past the first cell a write goes to the rest. -/
theorem writeByte_beyond {a k : Nat} {b v : Byte} {r : List Host.Cell} (h : k < a) :
    writeByte ((k, b) :: r) a v = (k, b) :: writeByte r a v := by
  rw [writeByte, if_neg (by omega), if_neg (by omega)]

/-- At the first cell or before it, a write puts its cell, unless it is a zero, in front of what lies beyond. -/
theorem writeByte_first {lo a : Nat} {v : Byte} {m : List Host.Cell} (h : Memory.wfFrom lo m = true)
    (first : ∀ c ∈ m.head?, a ≤ c.1) :
    ∃ r, Memory.wfFrom (a + 1) r = true ∧ (∀ x, x ≠ a → readByte r x = readByte m x) ∧ readByte r a = 0 ∧
      writeByte m a v = if v = 0 then r else (a, v) :: r := by
  cases m with
  | nil => exact ⟨[], rfl, fun _ _ => rfl, rfl, rfl⟩
  | cons c r =>
    obtain ⟨k, b⟩ := c
    obtain ⟨-, nz, rest⟩ := Memory.wfFrom_cons.mp h
    rcases Nat.lt_or_eq_of_le (show a ≤ k from first _ rfl) with before | rfl
    · refine ⟨(k, b) :: r, Memory.wfFrom_cons.mpr ⟨before, nz, rest⟩, fun _ _ => rfl, ?_, ?_⟩
      · exact readByte_below (Memory.wfFrom_cons.mpr ⟨before, nz, rest⟩) (Nat.lt_succ_self a)
      · rw [writeByte, if_pos before]
    · refine ⟨r, rest, fun x hx => ?_, readByte_below rest (Nat.lt_succ_self a), ?_⟩
      · rw [readByte_cons_wf rest, if_neg hx]
      · rw [writeByte, if_neg (Nat.lt_irrefl a), if_pos rfl]

theorem Memory.wfFrom_writeByte {lo : Nat} {m : List Host.Cell} (h : Memory.wfFrom lo m = true) {a : Nat} (ha : lo ≤ a)
    (v : Byte) : Memory.wfFrom lo (writeByte m a v) = true := by
  induction m generalizing lo with
  | nil =>
    obtain ⟨r, form, -, -, e⟩ := writeByte_first (a := a) (v := v) h (by simp)
    rw [e]
    split_ifs with zero
    · exact Memory.wfFrom_mono form (by omega)
    · exact Memory.wfFrom_cons.mpr ⟨ha, zero, form⟩
  | cons c r ih =>
    obtain ⟨k, b⟩ := c
    obtain ⟨lk, nz, rest⟩ := Memory.wfFrom_cons.mp h
    by_cases beyond : k < a
    · rw [writeByte_beyond beyond]
      exact Memory.wfFrom_cons.mpr ⟨lk, nz, ih rest beyond⟩
    · obtain ⟨r', form, -, -, e⟩ := writeByte_first (a := a) (v := v) h (by simpa using beyond)
      rw [e]
      split_ifs with zero
      · exact Memory.wfFrom_mono form (by omega)
      · exact Memory.wfFrom_cons.mpr ⟨ha, zero, form⟩

theorem readByte_writeByte_first {lo a : Nat} {m : List Host.Cell} (h : Memory.wfFrom lo m = true)
    (first : ∀ c ∈ m.head?, a ≤ c.1) (x : Nat) (v : Byte) :
    readByte (writeByte m a v) x = if x = a then v else readByte m x := by
  obtain ⟨r, form, other, here, e⟩ := writeByte_first (v := v) h first
  rw [e]
  by_cases hx : x = a
  · subst hx
    rw [if_pos rfl]
    split_ifs with zero
    · rw [here, zero]
    · rw [readByte_cons, if_pos rfl]
  · rw [if_neg hx, ← other x hx]
    split_ifs with zero
    · rfl
    · rw [readByte_cons_wf form, if_neg hx]

theorem readByte_writeByte {lo : Nat} {m : List Host.Cell} (h : Memory.wfFrom lo m = true) (a x : Nat) (v : Byte) :
    readByte (writeByte m a v) x = if x = a then v else readByte m x := by
  induction m generalizing lo with
  | nil => exact readByte_writeByte_first h (by simp) x v
  | cons c r ih =>
    obtain ⟨k, b⟩ := c
    obtain ⟨-, nz, rest⟩ := Memory.wfFrom_cons.mp h
    by_cases beyond : k < a
    · rw [writeByte_beyond beyond, readByte_cons, readByte_cons, ih rest]
      by_cases hx : x = a
      · rw [if_pos hx, if_pos hx, if_neg (by omega), if_neg (by omega)]
      · rw [if_neg hx, if_neg hx]
    · exact readByte_writeByte_first h (by simpa using beyond) x v

/-! ### Runs of octets -/

theorem Memory.wfFrom_writeOctets {lo : Nat} {m : List Host.Cell} (h : Memory.wfFrom lo m = true) {a : Nat} (ha : lo ≤ a)
    (l : List Byte) : Memory.wfFrom lo (writeOctets m a l) = true := by
  induction l generalizing m a with
  | nil => exact h
  | cons v r ih => exact ih (Memory.wfFrom_writeByte h ha v) (by omega)

theorem readByte_writeOctets {m : List Host.Cell} (h : Memory.wf m = true) (a x : Nat) (l : List Byte) :
    readByte (writeOctets m a l) x = if a ≤ x ∧ x < a + l.length then l.getD (x - a) 0 else readByte m x := by
  induction l generalizing m a with
  | nil => rw [writeOctets, if_neg (by simp)]
  | cons v r ih =>
    rw [writeOctets, ih (Memory.wfFrom_writeByte h (Nat.zero_le a) v), readByte_writeByte h]
    rcases Nat.lt_trichotomy x a with below | rfl | above
    · rw [if_neg (by omega), if_neg (by omega), if_neg (by omega)]
    · rw [if_neg (by omega), if_pos rfl, if_pos (by simp), Nat.sub_self, List.getD_cons_zero]
    · have e : x - a = x - (a + 1) + 1 := by omega
      rw [if_neg (show ¬x = a by omega), e, List.getD_cons_succ, List.length_cons]
      exact if_congr (by omega) rfl rfl

/-! ### Whole ranges -/

theorem Memory.wfFrom_filter (p : Host.Cell → Bool) {lo : Nat} {m : List Host.Cell} (h : Memory.wfFrom lo m = true) :
    Memory.wfFrom lo (m.filter p) = true := by
  induction m generalizing lo with
  | nil => rfl
  | cons c r ih =>
    obtain ⟨la, nz, rest⟩ := Memory.wfFrom_cons.mp h
    rw [List.filter_cons]
    split
    · exact Memory.wfFrom_cons.mpr ⟨la, nz, ih rest⟩
    · exact Memory.wfFrom_mono (ih rest) (by omega)

/-- Cells in the form that all lie at `a` or beyond are so from `a` on. -/
theorem Memory.wfFrom_above {lo a : Nat} {m : List Host.Cell} (h : Memory.wfFrom lo m = true) (above : ∀ c ∈ m, a ≤ c.1) :
    Memory.wfFrom a m = true := by
  cases m with
  | nil => rfl
  | cons c r =>
    obtain ⟨-, nz, rest⟩ := Memory.wfFrom_cons.mp h
    exact Memory.wfFrom_cons.mpr ⟨above c List.mem_cons_self, nz, rest⟩

theorem readByte_filter (p : Nat → Bool) {lo : Nat} {m : List Host.Cell} (h : Memory.wfFrom lo m = true) (x : Nat) :
    readByte (m.filter (fun c => p c.1)) x = if p x then readByte m x else 0 := by
  induction m generalizing lo with
  | nil => simp [readByte]
  | cons c r ih =>
    obtain ⟨a, b⟩ := c
    obtain ⟨-, -, rest⟩ := Memory.wfFrom_cons.mp h
    rw [List.filter_cons, readByte_cons_wf rest]
    by_cases hx : x = a
    · subst hx
      by_cases keep : p x <;>
        simp [keep, readByte_cons, ih rest]
    · by_cases keep : p a
      · rw [if_pos keep, readByte_cons_wf (Memory.wfFrom_filter _ rest), if_neg hx, if_neg hx, ih rest]
      · rw [if_neg keep, if_neg hx, ih rest]

theorem readByte_zeroRange {m : List Host.Cell} (h : Memory.wf m = true) (a n x : Nat) :
    readByte (zeroRange m a n) x = if a ≤ x ∧ x < a + n then 0 else readByte m x := by
  rw [zeroRange, readByte_filter (fun k => k < a || a + n ≤ k) h]
  by_cases inside : a ≤ x ∧ x < a + n
  · rw [if_pos inside, if_neg (by simp; omega)]
  · rw [if_neg inside, if_pos (by simp; omega)]

/-- The cells of `l`, each written at its address moved from `a` to `b`. -/
theorem wf_pasteCells (a b : Nat) (l : List Host.Cell) {m : List Host.Cell} (h : Memory.wf m = true) :
    Memory.wf (l.foldl (fun m c => writeByte m (c.1 - a + b) c.2) m) = true := by
  induction l generalizing m with
  | nil => exact h
  | cons c r ih => exact ih (Memory.wfFrom_writeByte h (Nat.zero_le _) c.2)

/-- Cells in the form, moved from `a` to `b`: an address reads what the cells list for it, or else as before. -/
theorem readByte_pasteCells (a b x : Nat) {lo : Nat} {l m : List Host.Cell} (hl : Memory.wfFrom lo l = true) (ha : a ≤ lo)
    (h : Memory.wf m = true) :
    readByte (l.foldl (fun m c => writeByte m (c.1 - a + b) c.2) m) x =
      if b ≤ x ∧ readByte l (x - b + a) ≠ 0 then readByte l (x - b + a) else readByte m x := by
  induction l generalizing m lo with
  | nil => simp [readByte]
  | cons c r ih =>
    obtain ⟨k, v⟩ := c
    obtain ⟨lk, nz, rest⟩ := Memory.wfFrom_cons.mp hl
    rw [List.foldl_cons, ih rest (by omega) (Memory.wfFrom_writeByte h (Nat.zero_le _) v), readByte_writeByte h,
      readByte_cons_wf rest]
    by_cases here : b ≤ x ∧ x - b + a = k
    · obtain ⟨above, rfl⟩ := here
      have none : readByte r (x - b + a) = 0 := readByte_below rest (Nat.lt_succ_self _)
      rw [if_neg (by simp [none]), if_pos (by dsimp only; omega), if_pos rfl, if_pos ⟨above, nz⟩]
    · by_cases above : b ≤ x
      · have apart : x - b + a ≠ k := fun e => here ⟨above, e⟩
        rw [if_neg apart, if_neg (show ¬x = k - a + b by omega)]
      · rw [if_neg (fun h => above h.1), if_neg (by dsimp only; omega), if_neg (fun h => above h.1)]

theorem wf_zeroRange {m : List Host.Cell} (h : Memory.wf m = true) (a n : Nat) : Memory.wf (zeroRange m a n) = true :=
  Memory.wfFrom_filter _ h

theorem wf_copyRange {m : List Host.Cell} (h : Memory.wf m = true) (a b n : Nat) : Memory.wf (copyRange m a b n) = true :=
  wf_pasteCells a b _ (wf_zeroRange h b n)

theorem readByte_copyRange {m : List Host.Cell} (h : Memory.wf m = true) (a b n x : Nat) :
    readByte (copyRange m a b n) x = if b ≤ x ∧ x < b + n then readByte m (x - b + a) else readByte m x := by
  have cells : Memory.wfFrom a (m.filter (fun c => decide (a ≤ c.1) && decide (c.1 < a + n))) = true :=
    Memory.wfFrom_above (Memory.wfFrom_filter _ h) fun c hc => by
      have in_range := (List.mem_filter.mp hc).2
      simp only [Bool.and_eq_true, decide_eq_true_eq] at in_range
      exact in_range.1
  have listed := readByte_filter (fun k => decide (a ≤ k) && decide (k < a + n)) h (x - b + a)
  rw [copyRange, readByte_pasteCells a b x cells le_rfl (wf_zeroRange h b n), listed,
    readByte_zeroRange h]
  by_cases inside : b ≤ x ∧ x < b + n
  · have here : (decide (a ≤ x - b + a) && decide (x - b + a < a + n)) = true := by simp; omega
    rw [if_pos here, if_pos inside, if_pos inside]
    split_ifs with nz
    · rfl
    · exact (by simpa [inside.1] using nz : readByte m (x - b + a) = 0).symm
  · have out : ¬(b ≤ x ∧ (decide (a ≤ x - b + a) && decide (x - b + a < a + n)) = true) := by simp; omega
    rw [if_neg inside, if_neg inside, if_neg]
    intro ⟨above, nz⟩
    exact nz (if_neg fun hin => out ⟨above, hin⟩)

/-! ### Equal contents -/

theorem Memory.eq_of_reads {lo : Nat} {m n : List Host.Cell} (hm : Memory.wfFrom lo m = true) (hn : Memory.wfFrom lo n = true)
    (same : ∀ x, readByte m x = readByte n x) : m = n := by
  have first : ∀ {a : Nat} {b : Byte} {r k : List Host.Cell}, b ≠ 0 → Memory.wfFrom (a + 1) k = true →
      readByte ((a, b) :: r) a ≠ readByte k a := fun nz hk => by
    rw [readByte_below hk (Nat.lt_succ_self _), readByte_cons, if_pos rfl]
    exact nz
  induction m generalizing lo n with
  | nil =>
    cases n with
    | nil => rfl
    | cons c r =>
      obtain ⟨-, nz, -⟩ := Memory.wfFrom_cons.mp hn
      exact absurd (same c.1).symm (first nz rfl)
  | cons c r ih =>
    obtain ⟨a, b⟩ := c
    obtain ⟨-, nz, rest⟩ := Memory.wfFrom_cons.mp hm
    cases n with
    | nil => exact absurd (same a) (first nz rfl)
    | cons d q =>
      obtain ⟨k, v⟩ := d
      obtain ⟨-, nv, tail⟩ := Memory.wfFrom_cons.mp hn
      rcases Nat.lt_trichotomy a k with before | rfl | after
      · exact absurd (same a) (first nz (Memory.wfFrom_cons.mpr ⟨before, nv, tail⟩))
      · have head : b = v := by simpa [readByte_cons] using same a
        subst head
        rw [ih rest tail fun x => ?_]
        by_cases hx : x = a
        · rw [hx, readByte_below rest (Nat.lt_succ_self a), readByte_below tail (Nat.lt_succ_self a)]
        · simpa [readByte_cons_wf rest, readByte_cons_wf tail, hx] using same x
      · exact absurd (same k).symm (first nv (Memory.wfFrom_cons.mpr ⟨after, nz, rest⟩))

/-- Settles O4: the laws of one octet, of a run, of a zeroed range and of a copy, each by induction on the cells, and the
equality of memories in the form that read alike. -/
theorem memoryBytesReadBack : Obligations.MemoryBytesReadBack := by
  unfold Obligations.MemoryBytesReadBack
  exact ⟨fun m a x v h => readByte_writeByte h a x v, fun m a x l h => readByte_writeOctets h a x l,
    fun m a n x h => readByte_zeroRange h a n x, fun m a b n x h _ => readByte_copyRange h a b n x,
    fun m n hm hn same => Memory.eq_of_reads hm hn same⟩

end Sys2Proof.Machine
end

section
/-! PROOF. What an idle nanosecond leaves of the queue: the operations on lanes, nodes and powered time that it runs. -/

namespace Sys2Proof.Machine

theorem Shows.pending {P : Nat → Bool} {s t : State} (h : Shows P s t) : t.pending = s.pending := by
  obtain ⟨_, _, _, _, _, rfl⟩ := h.same
  rfl

@[simp] theorem latch_pending (pg bit : Nat) (s : State) : (latch pg bit s).pending = s.pending :=
  (shows_latch (fun _ => true) pg bit s rfl rfl).pending

@[simp] theorem reserveLeft_pending (s : State) : (reserveLeft s).pending = s.pending := by
  simp [reserveLeft, apply_ite State.pending]

@[simp] theorem logCairn_pending (kind : Nat) (data : List Nat) (s : State) : (logCairn kind data s).pending = s.pending :=
  (follows_queueRecord _ s).pending

@[simp] theorem engaged_pending (cls unit sub : Nat) (s : State) : (engaged cls unit sub s).pending = s.pending := by
  simp [engaged, inc]

@[simp] theorem countFlag_pending (f : Field) (old new : Bool) (s : State) : (countFlag f old new s).pending = s.pending := by
  unfold countFlag
  split
  · rfl
  · split <;> rfl

@[simp] theorem shiftCount_pending (f : Field) (old new : Bool) (s : State) :
    (shiftCount f old new s).pending = s.pending := by
  unfold shiftCount
  split <;> rfl

@[simp] theorem freezeGain_pending (p : Nat) (s : State) : (freezeGain p s).pending = s.pending := by
  unfold freezeGain
  dsimp only
  split <;> rfl

@[simp] theorem setLane_pending (i : Nat) (l : Lane) (s : State) : (setLane i l s).pending = s.pending := by
  simp [setLane, apply_ite State.pending, orBits, clearBits, peak]

@[simp] theorem modLane_pending (i : Nat) (f : Lane → Lane) (s : State) : (modLane i f s).pending = s.pending :=
  setLane_pending i _ s

@[simp] theorem freeEngine_pending (e : Option Nat) (s : State) : (freeEngine e s).pending = s.pending := by
  cases e <;> rfl

@[simp] theorem releaseLane_pending (i : Nat) (d : Option Disp) (s : State) : (releaseLane i d s).pending = s.pending := by
  simp [releaseLane, freeVictims, changeLanes]

@[simp] theorem setNode_pending (i : Nat) (n : Node) (s : State) : (setNode i n s).pending = s.pending := by
  simp [setNode, peak, storeNode]

@[simp] theorem nodeStat_pending (i : Nat) (f : Node → Node) (s : State) : (nodeStat i f s).pending = s.pending := by
  simp [nodeStat, modNode, apply_ite State.pending]

@[simp] theorem rxStat_pending (i : Option Nat) (d : Disp) (s : State) : (rxStat i d s).pending = s.pending := by
  cases i <;> simp [rxStat]

@[simp] theorem countLaneEnd_pending (f : Nat) (d : Disp) (s : State) : (countLaneEnd f d s).pending = s.pending := by
  unfold countLaneEnd
  split <;> rfl

@[simp] theorem endLane_pending (i : Nat) (d : Disp) (s : State) : (endLane i d s).pending = s.pending := by
  unfold endLane
  dsimp only
  split <;> simp [closeLane, close]

@[simp] theorem substitute_pending (i : Nat) (s : State) : (substitute i s).pending = s.pending := by
  unfold substitute
  split <;> simp [incSat]

@[simp] theorem laneFault_pending (i : Nat) (parity : Bool) (s : State) : (laneFault i parity s).pending = s.pending := by
  simp [laneFault, apply_ite State.pending, inc]

@[simp] theorem laneOn_pending (i : Nat) (s : State) : (laneOn i s).pending = s.pending := by
  simp [laneOn, apply_ite State.pending]

@[simp] theorem laneDrained_pending (i : Nat) (s : State) : (laneDrained i s).pending = s.pending := by
  unfold laneDrained
  split <;> simp [apply_ite State.pending]

@[simp] theorem laneStep_pending (s : State) : (laneStep s).pending = s.pending :=
  foldl_keeps State.pending _ (fun s i => by simp) _ s

@[simp] theorem showTrust_pending (s : State) : (showTrust s).pending = s.pending := (follows_showTrust s).pending

@[simp] theorem poweredSecond_pending (s : State) : (poweredSecond s).pending = s.pending := by
  unfold poweredSecond
  dsimp only
  split <;> rfl

@[simp] theorem poweredNs_pending (s : State) : (poweredNs s).pending = s.pending := by
  unfold poweredNs
  split <;> simp

/-- An idle nanosecond leaves the queue. -/
@[simp] theorem idle_pending (s : State) : (idle s).pending = s.pending := by
  simp [idle, heldNs, tick, modClock, apply_ite State.pending]

end Sys2Proof.Machine
end

section
/-! PROOF. How every command ends: with `done`, or as a stop on a page outside the page map (R86). From it, what a command
leaves of the queue, when the machine goes on, what a step runs, and what reset leaves. -/

namespace Sys2Proof.Machine

/-- The two ends of a command: it goes on, or it stops where no sender can form it. -/
def Ends (c : Instr) (s : State) : Prop :=
  (∃ u, exec c s = done s u) ∨ (exec c s = .fault .noSuchPage ∧ c.wellFormed = false)

/-- A command of a page ends by whether the page map has its page, of which its form depends. -/
theorem ends_of_page {c : Instr} {s u : State} {pg : Nat}
    (h : exec c s = if isPage pg then done s u else .fault .noSuchPage) (form : isPage pg = false → c.wellFormed = false) :
    Ends c s := by
  cases e : isPage pg with
  | true => exact .inl ⟨u, by rw [h, e]; rfl⟩
  | false => exact .inr ⟨by rw [h, e]; rfl, form e⟩

theorem ends (c : Instr) (s : State) : Ends c s := by
  cases c with
  | startSequenceDone pg failure => exact ends_of_page (pg := pg) rfl (fun e => e)
  | drainComplete pg => exact ends_of_page (pg := pg) rfl (fun e => e)
  | blockFault pg => exact ends_of_page (pg := pg) rfl (fun e => e)
  | selfTestDone pg failure => exact ends_of_page (pg := pg) rfl (fun e => by simp [Instr.wellFormed, e])
  | selfTestWaitExpiry pg => exact ends_of_page (pg := pg) rfl (fun e => e)
  | _ => exact .inl ⟨_, rfl⟩

/-- A command that a sender can form goes on. -/
theorem goes_of_wellFormed {c : Instr} (h : c.wellFormed = true) (s : State) : ∃ u, exec c s = done s u := by
  rcases ends c s with go | ⟨-, form⟩
  · exact go
  · rw [h] at form
    cases form

theorem pending_of_next {c : Instr} {s t : State} (h : exec c s = .next t) : t.pending = s.pending := by
  rcases ends c s with ⟨u, e⟩ | ⟨e, -⟩
  · rw [e, done, Host.Outcome.next.injEq] at h
    exact h ▸ rfl
  · rw [e] at h
    cases h

/-- Settles O2: every command ends in one of the two ways of `Ends`. -/
theorem everyCommandKeepsTheQueue : Obligations.EveryCommandKeepsTheQueue := by
  unfold Obligations.EveryCommandKeepsTheQueue
  refine ⟨fun c s t h => pending_of_next h, fun c s r h => ?_, fun c s f h => ?_, fun c s h => ?_⟩
  · rcases ends c s with ⟨u, e⟩ | ⟨e, -⟩ <;> rw [e] at h <;> cases h
  · rcases ends c s with ⟨u, e⟩ | ⟨e, form⟩
    · rw [e] at h
      cases h
    · rw [e, Host.Outcome.fault.injEq] at h
      exact ⟨h.symm, form⟩
  · obtain ⟨u, e⟩ := goes_of_wellFormed h s
    exact ⟨_, e⟩

/-! ### A step -/

theorem step_cons {s : State} {c : Instr} {r : List Instr} (h : s.pending = c :: r) :
    step s = exec c { s with pending := r } := by
  rw [step, h]

theorem step_nil {s : State} (h : s.pending = []) : step s = .next (idle s) := by
  rw [step, h]

/-- Settles O1: a step runs the front command on the rest of the queue, and with none waiting time passes. -/
theorem stepRunsTheFrontCommand : Obligations.StepRunsTheFrontCommand := by
  unfold Obligations.StepRunsTheFrontCommand
  exact ⟨fun c r s => step_cons rfl, fun s h => ⟨step_nil h, (idle_pending s).trans h⟩⟩

/-- Settles O6: a waiting command that a sender can form goes on and leaves the rest of the queue, and without one time
passes. -/
theorem formedQueuesRunOn : Obligations.FormedQueuesRunOn := by
  unfold Obligations.FormedQueuesRunOn
  intro s formed
  cases waiting : s.pending with
  | nil =>
    refine ⟨idle s, step_nil waiting, ?_, (idle_pending s).trans waiting⟩
    rw [QueueFormed, idle_pending]
    exact formed
  | cons c r =>
    rw [QueueFormed, waiting] at formed
    obtain ⟨front, rest⟩ := List.forall_mem_cons.mp formed
    obtain ⟨u, e⟩ := goes_of_wellFormed front { s with pending := r }
    exact ⟨_, (step_cons waiting).trans e, rest, rfl⟩

/-- Settles O3: the reset state, field by field. -/
theorem resetIsFormed : Obligations.ResetIsFormed := by
  unfold Obligations.ResetIsFormed
  refine ⟨rfl, fun c h => absurd h List.not_mem_nil, rfl, rfl, by decide, rfl, rfl⟩

end Sys2Proof.Machine
end

section
/-! PROOF. How a command's effect is read off: what it gives where the waiting work goes on after it, and where nothing
waits. -/

namespace Sys2Proof.Machine

/-- A command whose effect the waiting work follows gives what holds of every state that the work may make of it. -/
theorem gives_air {c : Instr} {s u : State} {P : State → Prop} (h : exec c s = done s (settleWork s u))
    (k : ∀ t, Within airScopes airParts u t → P t) : Gives c s P :=
  gives_done h (k _ (frame_settleWork s u).pending)

/-- A command that leaves a calm state gives its own effect, but for the registers that follow other state. -/
theorem gives_calm {c : Instr} {s u : State} {P : State → Prop} (h : exec c s = done s (settleWork s u))
    (calm : Calm u = true) (k : ∀ t, Within [] [] u t → P t) : Gives c s P :=
  gives_done h (k _ ((Within.refl _ _ u).settleWork calm).pending)

/-- A latched event stays so in a state whose registers of that kind are as before. -/
theorem Within.latched {P : List Scope} {S : List Part} {s t : State} (h : Within P S s t) {pg bit : Nat}
    (out : inScopes P (F.HEAD.EVT_LATCH pg).key = false) (follow : followKey (F.HEAD.EVT_LATCH pg).key = false) :
    eventLatched pg bit t ↔ eventLatched pg bit s := by
  rw [eventLatched, h.regs _ follow out]

theorem raise_latches (pg bit : Nat) (s : State) (h : bit < 32) : eventLatched pg bit (raise pg bit s) :=
  latch_sets pg bit _ h

/-- Without a standby to mirror to, a command's effect and the waiting work are the whole of it, but for the registers that
follow other state. -/
theorem follows_airWork (old s : State) (h : mirrors (airWork s) = false) : Follows (airWork s) (settleWork old s) :=
  (follows_storeWork old _ h).trans (follows_showWork old _)

end Sys2Proof.Machine
end

section
/-! PROOF. What a device reset keeps and what it leaves (R622): the registers it clears, those that show again what it
kept, and the reset that it holds. -/

namespace Sys2Proof.Machine

theorem find_filter_key {α : Type} (p : Nat → Bool) (t : Tbl α) (k : Nat) :
    find (t.filter (fun x => p x.1)) k = if p k then find t k else none := by
  induction t with
  | nil => simp [find]
  | cons x r ih =>
    obtain ⟨a, v⟩ := x
    by_cases hk : k = a
    · subst hk
      by_cases hp : p k <;> simp [hp, find, ih]
    · by_cases hp : p a <;> simp [hp, find, hk, ih]

/-- A register after the registers of a reset of `kind` are cleared (R622). -/
theorem rd_cleared (f : Field) (kind source : Nat) (hold : Bool) (s : State) :
    rd f (cleared kind source hold s) =
      if keptLife kind ≤ keyLife f.key ∨ ((kind == R_WARM || kind == R_SAG) && shadowKeys.contains f.key) = true
      then rd f s else f.reset := by
  have h := find_filter_key
    (fun k => decide (keptLife kind ≤ keyLife k) || ((kind == R_WARM || kind == R_SAG) && shadowKeys.contains k)) s.regs f.key
  simp only [rd, look, cleared, keptRegs]
  rw [h]
  simp only [Bool.or_eq_true, decide_eq_true_eq]
  split <;> rfl

theorem rd_cleared_kept {f : Field} {kind : Nat} (h : keptLife kind ≤ keyLife f.key) (source : Nat) (hold : Bool) (s : State) :
    rd f (cleared kind source hold s) = rd f s := by
  rw [rd_cleared, if_pos (.inl h)]

/-- What the reset keeps for the start (R622, R625): the count of forced resets is taken before the registers are cleared. -/
def beforeClear (kind source : Nat) (s : State) : State :=
  if kind = R_WARM then countForced source (leaveCamp (isSet F.MGMT.START_EXIT_PENDING s) s) else s

/-- The registers that a held reset writes after it has cleared. -/
def heldResetScopes : List Scope :=
  [.word 0x02 0x014, .word 0x02 0x010, .word 0x03 0x014, .word 0x03 0x010, .page 0x05, .word 0x08 0x04C, .word 0x09 0x04C,
    .word 0x0A 0x04C, .word 0x0B 0x04C, .word 0x08 0x00C, .word 0x09 0x00C, .word 0x0A 0x00C, .word 0x0B 0x00C, .page 0x31,
    .page 0x11, .word 0x48 0x078, .word 0x4A 0x050, .word 0x30 0x0B0, .word 0x30 0x084, .word 0x46 0x070, .word 0x44 0x050,
    .word 0x30 0x088, .word 0x3C 0x070, .word 0x3C 0x0B0, .word 0x3C 0x0B4, .word 0x3C 0x040, .word 0x3C 0x044,
    .word 0x3C 0x014, .page 0x80, .word 0x00 0x058, .word 0x30 0x0BC, .word 0x4E 0x060]

/-- A state in which the reset has settled whether RECOVERY lasts (R390). -/
def recovers (r : Bool) (s : State) : State := { s with boot := { s.boot with recovery := r } }

/-- A reset first shows, in no more than these registers, the clock and the root's state, what it kept and how it is
recorded; one that is not held begins its start from there. -/
theorem performReset_shows (kind as' source : Nat) (hold : Bool) (s : State) :
    ∃ u r, Within heldResetScopes [.clock, .root] (recovers r (cleared kind source hold (beforeClear kind source s))) u ∧
      rd F.MGMT.START_RESET_KIND u = as' % 8 ∧
      rd F.MGMT.START_WARM_SOURCE u = (if kind = R_WARM then source else 0) % 8 ∧
      Follows (if hold then u else beginStart u) (performReset kind as' source hold s) := by
  unfold performReset
  extract_lets exit leaves stays unset before power clocks clear boot kept lived worn fan shown locked named ended
  have hk : Within heldResetScopes [.clock, .root] (recovers stays clear) kept := Within.refl _ _ _
  have hl : Within heldResetScopes [.clock, .root] (recovers stays clear) lived :=
    .ite hk ((hk.then (frame_relive 0x03 _ _) (by decide) (by decide)).then (frame_relive 0x02 _ _) (by decide) (by decide))
  have hw : Within heldResetScopes [.clock, .root] (recovers stays clear) worn :=
    hl.iteR (fun h => h.then (frame_fromCheckpoint _) rfl rfl)
  have hf : Within heldResetScopes [.clock, .root] (recovers stays clear) fan := .ite (hw.wr (by decide)) hw
  have hs : Within heldResetScopes [.clock, .root] (recovers stays clear) shown :=
    (((hf.then (frame_resumeTime _ _ _) (by decide) (by decide)).then (frame_showWear _) (by decide) (by decide)).then
      (frame_showKept _) (by decide) (by decide)).then (frame_holdRetired _) (by decide) (by decide)
  have hlock : Within heldResetScopes [.clock, .root] (recovers stays clear) locked :=
    (hs.then (frame_setLifecycle _ _) (by decide) (by decide)).then (frame_resetLock _) (by decide) (by decide)
  have hn : Within heldResetScopes [.clock, .root] (recovers stays clear) named := (hlock.wr (by decide)).wr (by decide)
  refine ⟨named, stays, hn, rd_wr_same _ _ _, ?_, ?_⟩
  · exact (rd_wr_ne _ _ _ _ (by decide)).trans (rd_wr_same _ _ _)
  · have all : Follows (if hold then named else beginStart named) ended := .refl _ _
    by_cases h : leaves = true
    · rw [if_pos h]
      exact all.trans (follows_queueRecord _ _)
    · rw [if_neg h]
      exact all

/-- A reset that is held changes what it has cleared in no more than the registers that show what it kept, the clock and
the root's state: the start has not begun. -/
theorem frame_performReset_hold (kind as' source : Nat) (s : State) :
    ∃ r, Within heldResetScopes [.clock, .root] (recovers r (cleared kind source true (beforeClear kind source s)))
      (performReset kind as' source true s) := by
  obtain ⟨u, r, frame, -, -, own⟩ := performReset_shows kind as' source true s
  exact ⟨r, frame.follows own⟩

/-- A reset that is held is recorded as it was asked to be. -/
theorem rd_kind_performReset_hold (kind as' source : Nat) (s : State) :
    rd F.MGMT.START_RESET_KIND (performReset kind as' source true s) = as' % 8 := by
  obtain ⟨u, r, -, recorded, -, own⟩ := performReset_shows kind as' source true s
  exact (own.regs _ (by decide)).trans recorded

theorem frame_beforeClear (kind source : Nat) (s : State) : Within [.word 0x4E 0x06C] [.boot] s (beforeClear kind source s) := by
  unfold beforeClear
  exact .ite (((Within.refl _ _ s).then (frame_leaveCamp _ s) rfl rfl).then (frame_countForced source _) rfl rfl)
    (Within.refl _ _ s)

/-- A reset that is held awaits supplies valid (R54). -/
theorem held_performReset_hold (kind as' source : Nat) (s : State) :
    (performReset kind as' source true s).boot.held = true := by
  obtain ⟨r, h⟩ := frame_performReset_hold kind as' source s
  have same : (performReset kind as' source true s).boot = (recovers r (cleared kind source true (beforeClear kind source s))).boot :=
    h.parts .boot (by decide)
  rw [same]
  rfl

/-- What a reset leaves of a register that it does not write anew. -/
theorem rd_performReset_hold {f : Field} (follow : followKey f.key = false) (out : inScopes heldResetScopes f.key = false)
    (kind as' source : Nat) (s : State) :
    rd f (performReset kind as' source true s) = rd f (cleared kind source true (beforeClear kind source s)) := by
  obtain ⟨r, h⟩ := frame_performReset_hold kind as' source s
  exact h.regs f follow out

/-- A register that outlives a held reset of `kind`: it is not one that shows what the reset kept, and its life is long
enough (R622). -/
def outlives (kind : Nat) (f : Field) : Bool :=
  !followKey f.key && !inScopes heldResetScopes f.key && !inScopes [.word 0x4E 0x06C] f.key &&
    decide (keptLife kind ≤ keyLife f.key)

theorem rd_performReset_outlives {f : Field} {kind : Nat} (h : outlives kind f = true) (as' source : Nat) (s : State) :
    rd f (performReset kind as' source true s) = rd f s := by
  simp only [outlives, Bool.and_eq_true, Bool.not_eq_true', decide_eq_true_eq] at h
  obtain ⟨⟨⟨follow, out⟩, count⟩, life⟩ := h
  rw [rd_performReset_hold follow out, rd_cleared_kept life]
  exact (frame_beforeClear kind source s).regs f follow count

/-! ### A sag reset and an always-on power-on -/

/-- The kind that a reset is recorded as, joined with one that is held or begins now (R55, R624). -/
def joinedKind (kind : Nat) (s : State) : Nat := if s.boot.held || resetNow s then severer kind s else kind

theorem severer_le (kind : Nat) (s : State) : severer kind s ≤ max kind R_TAMPER := by
  unfold severer
  dsimp only
  split <;> omega

/-- What a reset that awaits supplies valid leaves, where `kept` says of which registers. -/
structure HoldsReset (kind : Nat) (s t : State) : Prop where
  held : t.boot.held = true
  kind : rd F.MGMT.START_RESET_KIND t = kind % 8
  kept : ∀ f, outlives R_SAG f = true → rd f t = rd f s

theorem holdsReset_performReset {kind : Nat} (hk : kind ≠ R_AON) (as' source : Nat) (s : State) :
    HoldsReset as' s (performReset kind as' source true s) := by
  refine ⟨held_performReset_hold _ _ _ s, rd_kind_performReset_hold _ _ _ s, fun f hf => ?_⟩
  refine rd_performReset_outlives (kind := kind) ?_ as' source s
  have life : keptLife kind ≤ keptLife R_SAG := by
    unfold keptLife
    rw [if_neg hk]
    split <;> decide
  simp only [outlives, Bool.and_eq_true, decide_eq_true_eq] at hf ⊢
  exact ⟨hf.1, life.trans hf.2⟩

/-- A sag reset joins a reset that is held, or holds one of its own (R53, R54, R55). -/
theorem holdsReset_sag (source : Nat) (s : State) :
    HoldsReset (joinedKind R_SAG s) s (deviceReset R_SAG source s) := by
  unfold deviceReset joinedKind
  by_cases held : s.boot.held = true
  · rw [if_pos held, if_pos (show (s.boot.held || resetNow s) = true by rw [held]; rfl), if_pos (.inl rfl)]
    refine ⟨held, rd_wr_same _ _ _, fun f hf => rd_wr_ne _ _ _ _ (fun e => ?_)⟩
    rw [outlives, e] at hf
    exact absurd hf (by decide)
  · rw [if_neg held, Bool.eq_false_iff.mpr held, Bool.false_or]
    cases now : resetNow s with
    | true =>
      have own : HoldsReset (severer R_SAG s) (withdrawReset s)
          (performReset (max R_POWER (severer R_SAG s)) (severer R_SAG s) source true (withdrawReset s)) :=
        holdsReset_performReset (by simp only [R_POWER, R_AON]; omega) _ _ _
      exact ⟨own.held, own.kind, own.kept⟩
    | false => exact holdsReset_performReset (by decide) R_SAG source s

/-- An always-on power-on holds its reset whatever goes on (R53). -/
theorem deviceReset_aon (source : Nat) (s : State) : ∃ u, u.regs = s.regs ∧
    deviceReset R_AON source s = performReset R_AON (joinedKind R_AON s) source true u := by
  unfold deviceReset joinedKind
  by_cases held : s.boot.held = true
  · exact ⟨s, rfl, by rw [if_pos held, if_neg (by decide), held]; rfl⟩
  · rw [if_neg held, Bool.eq_false_iff.mpr held, Bool.false_or]
    cases now : resetNow s with
    | true => exact ⟨withdrawReset s, rfl, rfl⟩
    | false => exact ⟨s, rfl, rfl⟩

end Sys2Proof.Machine
end

section
/-! PROOF. The supply monitor (R42, R50 to R54, R56): what it leaves of its warnings, of a reset that it holds and of
VBAT_TAMPER, for `Obligations.SupplyMonitorActs`. -/

namespace Sys2Proof.Machine

/-- Taking one bit away from a number clears it. -/
theorem testBit_sub_and_two_pow (n k : Nat) : (n - (n &&& 2 ^ k)).testBit k = false := by
  rw [Nat.and_two_pow]
  cases h : n.testBit k with
  | false => simpa using h
  | true =>
    obtain ⟨r, rfl⟩ := Nat.exists_eq_add_of_le (Nat.ge_two_pow_of_testBit h)
    simpa [Nat.testBit_two_pow_add_eq] using h

/-! ### Warnings -/

/-- What the monitor does for a warning beyond its record: the rail's bit joins its latch, the event latches, and the
rails kept become `w`. -/
structure Warned (f : Field) (bit rail : Nat) (w : Watch) (t : State) : Prop where
  latched : (rd f t).testBit rail = true
  event   : eventLatched 0x02 bit t
  watch   : t.watch = w

theorem warned_supplyWarned {f : Field} (hf : offEventPath f = true) {bit rail : Nat} (hb : bit < 32) (hr : rail < f.width)
    (w : Watch) (s : State) : Warned f bit rail w (supplyWarned f bit (2 ^ rail) w s) := by
  refine ⟨?_, raise_latches _ _ _ hb, ?_⟩
  · rw [rd_supplyWarned_same hf, Nat.testBit_mod_two_pow, Nat.testBit_or, Nat.testBit_two_pow_self]
    simp [hr]
  · have frame : Within [.page 0x02] [] (orBits f (2 ^ rail) { s with watch := w }) (supplyWarned f bit (2 ^ rail) w s) :=
      (Within.refl _ _ _).raise (by decide) (by decide)
    exact frame.parts .watch List.not_mem_nil

theorem Warned.within {f : Field} {bit rail : Nat} {w : Watch} {s t : State} (h : Warned f bit rail w s)
    (hf : followKey f.key = false) (frame : Within [] [.wear] s t) : Warned f bit rail w t := by
  refine ⟨?_, ?_, Eq.trans (frame.parts .watch (by decide)) h.watch⟩
  · rw [frame.regs f hf rfl]
    exact h.latched
  · exact (frame.latched rfl (by decide)).mpr h.event

theorem warned_sagWarn (rail : Fin 10) (s : State) :
    Warned F.PWR.SAG_WARN_LATCH 0 rail.val { s.watch with lowRails := s.watch.lowRails ||| 2 ^ rail.val }
      (sagWarn rail.val s) :=
  (warned_supplyWarned (by decide) (by decide) rail.isLt _ s).within (by decide)
    ((Within.refl _ _ _).logCairn.then (frame_checkpoint _) rfl rfl)

theorem warned_supplyHigh (rail : Fin 10) (s : State) :
    Warned F.PWR.HIGH_LATCH 1 rail.val { s.watch with highRails := s.watch.highRails ||| 2 ^ rail.val }
      (supplyHigh rail.val s) :=
  (warned_supplyWarned (by decide) (by decide) rail.isLt _ s).within (by decide) (Within.refl _ _ _).logCairn

/-! ### A warning condition clears -/

theorem rawSet_lower (pg bit : Nat) (s : State) : rawSet pg bit (lower pg bit s) = false := by
  rw [rawSet, lower, clearBits, rd_wr_same, Nat.testBit_mod_two_pow, testBit_sub_and_two_pow, Bool.and_false]

/-- The rails that a condition of a kind holds. -/
def warningRails (high : Bool) (s : State) : Nat := if high then s.watch.highRails else s.watch.lowRails

/-- The condition of a rail ends, and the event's with the last. -/
theorem supplyClear_ends (rail : Nat) (high : Bool) (s : State) :
    (warningRails high (supplyClear rail high s)).testBit rail = false ∧
      (warningRails high (supplyClear rail high s) = 0 → rawSet 0x02 (if high then 1 else 0) (supplyClear rail high s) = false) := by
  cases high with
  | true =>
    simp only [supplyClear, if_true, warningRails]
    split
    · exact ⟨testBit_sub_and_two_pow _ _, fun _ => rawSet_lower _ _ _⟩
    · exact ⟨testBit_sub_and_two_pow _ _, fun z => absurd z ‹_›⟩
  | false =>
    simp only [supplyClear, Bool.false_eq_true, if_false, warningRails]
    split
    · exact ⟨testBit_sub_and_two_pow _ _, fun _ => rawSet_lower _ _ _⟩
    · exact ⟨testBit_sub_and_two_pow _ _, fun z => absurd z ‹_›⟩

/-! ### Resets -/

/-- What a sag reset does before it resets (R53). -/
def sagNoted (rails : Nat) (s : State) : State :=
  let s := incSat F.PWR.SAG_COUNT (orBits F.PWR.SAG_CAUSE_RAILS rails (clearBits F.PWR.RAIL_OK rails s))
  if rails.testBit 9 then { s with watch := { s.watch with tamperOnVbat := true } } else s

theorem rd_sagNoted (f : Field) (rails : Nat) (s : State) :
    rd f (sagNoted rails s) =
      rd f (incSat F.PWR.SAG_COUNT (orBits F.PWR.SAG_CAUSE_RAILS rails (clearBits F.PWR.RAIL_OK rails s))) := by
  unfold sagNoted
  dsimp only
  split <;> rfl

theorem joinedKind_sagNoted (kind rails : Nat) (s : State) : joinedKind kind (sagNoted rails s) = joinedKind kind s := by
  have words : ∀ f ∈ [F.MGMT.START_RESET_KIND, F.MGMT.START_STAGE], rd f (sagNoted rails s) = rd f s := fun f hf => by
    have apart : ∀ f ∈ [F.MGMT.START_RESET_KIND, F.MGMT.START_STAGE], f.key ≠ F.PWR.SAG_COUNT.key ∧
        f.key ≠ F.PWR.SAG_CAUSE_RAILS.key ∧ f.key ≠ F.PWR.RAIL_OK.key := by decide
    obtain ⟨a, b, c⟩ := apart f hf
    rw [rd_sagNoted, incSat, rd_wr_ne _ _ _ _ a, orBits, rd_wr_ne _ _ _ _ b, clearBits, rd_wr_ne _ _ _ _ c]
  have kind_kept := words F.MGMT.START_RESET_KIND (by decide)
  have stage_kept := words F.MGMT.START_STAGE (by decide)
  have boot_kept : (sagNoted rails s).boot = s.boot ∧ (sagNoted rails s).now = s.now := by
    unfold sagNoted
    dsimp only
    split <;> exact ⟨rfl, rfl⟩
  rw [joinedKind, joinedKind, severer, severer, resetNow, resetNow, kind_kept, stage_kept, boot_kept.1, boot_kept.2]

/-- The registers that the reset clauses speak of outlive a sag reset. -/
theorem sagFields_outlive : ∀ f ∈ [F.PWR.SAG_COUNT, F.PWR.SAG_CAUSE_RAILS, F.CANARY.TAMPER_STATUS_SENSORS],
    outlives R_SAG f = true := by decide

theorem joinedKind_mod {kind : Nat} (h : kind ≤ R_TAMPER) (s : State) : joinedKind kind s % 8 = joinedKind kind s := by
  refine Nat.mod_eq_of_lt ?_
  have bound := severer_le kind s
  unfold R_TAMPER at *
  unfold joinedKind
  split <;> omega

theorem gives_sagReset (rails : BitVec 10) (s : State) :
    Gives (.sagReset rails) s (fun t =>
      t.boot.held = true ∧
      rd F.PWR.SAG_COUNT t = min (rd F.PWR.SAG_COUNT s + 1) 65535 ∧
      rd F.PWR.SAG_CAUSE_RAILS t = (rd F.PWR.SAG_CAUSE_RAILS s ||| rails.toNat) % 1024 ∧
      rd F.MGMT.START_RESET_KIND t = joinedKind R_SAG s ∧
      rd F.CANARY.TAMPER_STATUS_SENSORS t = rd F.CANARY.TAMPER_STATUS_SENSORS s) := by
  refine gives_air (u := deviceReset R_SAG 0 (sagNoted rails.toNat s)) rfl fun t ht => ?_
  obtain ⟨held, kind, kept⟩ := holdsReset_sag 0 (sagNoted rails.toNat s)
  rw [joinedKind_sagNoted, joinedKind_mod (by decide)] at kind
  refine ⟨?_, ?_, ?_, ?_, ?_⟩
  · rw [← held, show t.boot = _ from ht.parts .boot (by decide)]
  · rw [ht.regs _ (by decide) (by decide), kept _ (by decide), rd_sagNoted, incSat, rd_wr_same, orBits,
      rd_wr_ne _ _ _ _ (by decide), clearBits, rd_wr_ne _ _ _ _ (by decide)]
    exact Nat.mod_eq_of_lt (by simp only [F.PWR.SAG_COUNT]; omega)
  · rw [ht.regs _ (by decide) (by decide), kept _ (by decide), rd_sagNoted, incSat, rd_wr_ne _ _ _ _ (by decide),
      rd_orBits_same, clearBits, rd_wr_ne _ _ _ _ (by decide)]
    rfl
  · rw [ht.regs _ (by decide) (by decide), kind]
  · rw [ht.regs _ (by decide) (by decide), kept _ (by decide), rd_sagNoted, incSat, rd_wr_ne _ _ _ _ (by decide),
      orBits, rd_wr_ne _ _ _ _ (by decide), clearBits, rd_wr_ne _ _ _ _ (by decide)]

theorem gives_aonPowerOnReset (s : State) :
    Gives .aonPowerOnReset s (fun t =>
      t.boot.held = true ∧
      rd F.MGMT.START_RESET_KIND t = joinedKind R_AON s ∧
      rd F.PWR.SAG_COUNT t = 0 ∧
      rd F.CANARY.TAMPER_STATUS_SENSORS t = rd F.CANARY.TAMPER_STATUS_SENSORS s) := by
  obtain ⟨w, same, reset⟩ := deviceReset_aon 0 s
  have own : exec .aonPowerOnReset s = done s (settleWork s (deviceReset R_AON 0 s)) := rfl
  rw [reset] at own
  refine gives_air own fun t ht => ?_
  have kept : rd F.CANARY.TAMPER_STATUS_SENSORS w = rd F.CANARY.TAMPER_STATUS_SENSORS s := by simp only [rd, same]
  refine ⟨?_, ?_, ?_, ?_⟩
  · rw [← held_performReset_hold R_AON (joinedKind R_AON s) 0 w, show t.boot = _ from ht.parts .boot (by decide)]
  · rw [ht.regs _ (by decide) (by decide), rd_kind_performReset_hold, joinedKind_mod (by decide)]
  · rw [ht.regs _ (by decide) (by decide), rd_performReset_hold (by decide) (by decide), rd_cleared, if_neg (by decide)]
    rfl
  · rw [ht.regs _ (by decide) (by decide), rd_performReset_outlives (by decide), kept]

/-! ### Supplies valid -/

/-- A start whose reset is released (R54): the instant is kept, and the deferred records are taken. -/
def begun (s : State) : State :=
  { s with boot := { s.boot with held := false, validAt := s.now }, watch := { s.watch with deferred := [] } }

theorem Within.drawWords {P : List Scope} {S : List Part} {s t : State} (h : Within P S s t) {f : Nat → Field}
    (hf : ∀ k < 4, inScopes P (f k).key = true) (hs : Part.draws ∈ S) : Within P S s (drawWords f t) := by
  unfold Machine.drawWords
  refine h.foldl fun t k hk ht => ?_
  exact (ht.then (frame_draw t) rfl (by simpa using hs)).wr (hf k (List.mem_range.mp hk))

/-- The registers that the beginning of a start writes beside the stage. -/
def startScopes : List Scope := [.word 0x00 0x058, .word 0x30 0x0BC, .page 0x80, .word 0x4E 0x064, .word 0x4E 0x080,
  .word 0x4E 0x084, .word 0x4E 0x088, .word 0x4E 0x08C, .word 0x03 0x014]

/-- What begins a start changes beyond its release, and that it is at CLOCKS (R626 step 1). -/
theorem beginStart_begun (s : State) :
    ∃ u, Within startScopes [.root, .draws] (begun s) u ∧ beginStart s = wr F.MGMT.START_STAGE 1 u := by
  unfold beginStart
  extract_lets kind late boot watch start recorded taken sensors mesh switch env told nonces locked strap tamper request
    life loop
  have hr : Within startScopes [.root, .draws] (begun s) recorded := (Within.refl _ _ _).logCairn
  have ht : Within startScopes [.root, .draws] (begun s) taken := hr.foldl fun _ _ _ h => h.queueRecord
  have hm : Within startScopes [.root, .draws] (begun s) mesh := .ite ht (ht.latch (by decide))
  have hw : Within startScopes [.root, .draws] (begun s) switch := .ite hm (hm.latch (by decide))
  have he : Within startScopes [.root, .draws] (begun s) env := .ite hw (hw.latch (by decide))
  have hz : Within startScopes [.root, .draws] (begun s) told := .ite (.ite (he.latch (by decide)) he) ht
  have hn : Within startScopes [.root, .draws] (begun s) nonces :=
    (hz.drawWords (by decide) (by decide)).drawWords (by decide) (by decide)
  have hl : Within startScopes [.root, .draws] (begun s) locked :=
    (hn.then (frame_setLifecycle _ _) (by decide) (by decide)).then (frame_resetLock _) (by decide) (by decide)
  have cause : ∀ {t : State} (c : Nat) (p : Prop) [Decidable p], Within startScopes [.root, .draws] (begun s) t →
      Within startScopes [.root, .draws] (begun s) (if p then addCause c t else t) := fun c p _ h =>
    .ite (h.orBits (by decide)) h
  exact ⟨_, cause _ _ (cause _ _ (cause _ _ (cause _ _ (cause _ _ hl)))), rfl⟩

theorem frame_beginStart_begun (s : State) :
    Within (startScopes ++ [.word 0x4E 0x060]) [.root, .draws] (begun s) (beginStart s) := by
  obtain ⟨u, frame, own⟩ := beginStart_begun s
  rw [own]
  exact (frame.mono (List.all_eq_true.mp (by decide)) (by decide)).wr (by decide)

/-- A start begins at CLOCKS, its reset released (R54, R626). -/
theorem beginStart_starts (s : State) : (beginStart s).boot.held = false ∧ rd F.MGMT.START_STAGE (beginStart s) = 1 := by
  have boot : (beginStart s).boot = (begun s).boot := (frame_beginStart_begun s).parts .boot (by decide)
  exact ⟨by rw [boot]; rfl, rd_wr_same _ _ _⟩

/-- What the monitor samples and shows before the start begins (R38, R42, R54, R59). -/
theorem suppliesValid_held {s : State} (h : s.boot.held = true) (seqLate role camp mains : Bool) :
    ∃ u, suppliesValid seqLate role camp mains s = beginStart u ∧ rd F.PWR.RAIL_OK u = 0x3FF ∧
      rd F.PWR.PWR_FAIL_LEVEL u = if mains then 1 else 0 := by
  unfold suppliesValid
  rw [if_neg (by simp [h])]
  extract_lets rails late rope boot straps watch fed role low valid
  have ok : rd F.PWR.RAIL_OK rails = 0x3FF := rd_wr_same _ _ _
  have late_ok : rd F.PWR.RAIL_OK late = 0x3FF := by
    unfold late
    split
    · exact (rd_wr_ne _ _ _ _ (by decide)).trans ok
    · exact ok
  have straps_ok : rd F.PWR.RAIL_OK straps = 0x3FF := by
    unfold straps
    split <;> exact late_ok
  have role_ok : rd F.PWR.RAIL_OK role = 0x3FF := (rd_wr_ne _ _ _ _ (by decide)).trans straps_ok
  refine ⟨valid, rfl, (rd_wr_ne _ _ _ _ (by decide)).trans role_ok, ?_⟩
  cases mains <;> exact rd_wr_same _ _ _

theorem gives_suppliesValid {s : State} (h : s.boot.held = true) (seqLate role camp mains : Bool) :
    Gives (.suppliesValid seqLate role camp mains) s (fun t =>
      t.boot.held = false ∧
      rd F.MGMT.START_STAGE t = 1 ∧
      rd F.PWR.RAIL_OK t = 0x3FF ∧
      rd F.PWR.PWR_FAIL_LEVEL t = (if mains then 1 else 0)) := by
  obtain ⟨u, own, ok, level⟩ := suppliesValid_held h seqLate role camp mains
  obtain ⟨held, stage⟩ := beginStart_starts u
  have frame := frame_beginStart_begun u
  have run : exec (.suppliesValid seqLate role camp mains) s =
      done s (settleWork s (suppliesValid seqLate role camp mains s)) := rfl
  rw [own] at run
  refine gives_air run fun t ht => ⟨?_, ?_, ?_, ?_⟩
  · rw [← held, show t.boot = _ from ht.parts .boot (by decide)]
  · rw [ht.regs _ (by decide) (by decide), stage]
  · rw [ht.regs _ (by decide) (by decide), frame.regs _ (by decide) (by decide)]
    exact ok
  · rw [ht.regs _ (by decide) (by decide), frame.regs _ (by decide) (by decide)]
    exact level

/-! ### VBAT_TAMPER -/

@[simp] theorem rd_wrBool_same {f : Field} (h : f.width = 1) (b : Bool) (s : State) :
    rd f (wrBool f b s) = if b then 1 else 0 := by
  rw [wrBool, rd_wr_same, h]
  cases b <;> rfl

/-- VBAT_TAMPER shows whether it is present and whether it is low, and the condition of the event follows the latter. -/
theorem vbatCrossing_shows (mv : Nat) (s : State) :
    rd F.PWR.VBAT_PRESENT (vbatCrossing mv s) = (if 1000 ≤ mv then 1 else 0) ∧
    rd F.PWR.VBAT_LOW (vbatCrossing mv s) = (if 1000 ≤ mv ∧ mv < 2300 then 1 else 0) ∧
    rawSet 0x02 2 (vbatCrossing mv s) = decide (1000 ≤ mv ∧ mv < 2300) := by
  unfold vbatCrossing
  extract_lets low shown
  have low_iff : low = decide (1000 ≤ mv ∧ mv < 2300) := (Bool.decide_and _ _).symm
  have frame : Within [.word 0x02 0x014, .word 0x02 0x010] [] shown (if low then raise 0x02 2 shown else lower 0x02 2 shown) :=
    .ite ((Within.refl _ _ _).raise (by decide) (by decide)) ((Within.refl _ _ _).lower (by decide))
  refine ⟨?_, ?_, ?_⟩
  · rw [frame.regs _ (by decide) (by decide), rd_wrBool_same rfl]
    simp
  · have kept : rd F.PWR.VBAT_LOW shown = if low then 1 else 0 :=
      (rd_wr_ne _ _ _ _ (by decide)).trans (rd_wrBool_same rfl _ _)
    rw [frame.regs _ (by decide) (by decide), kept, low_iff]
    simp
  · rw [← low_iff]
    cases low with
    | true => exact raise_shows _ _ _ (by decide)
    | false => exact rawSet_lower _ _ _

/-- Settles O7: each command's own effect on the registers it names, with the frame lemma of its operation; the resets
through `HoldsReset`, which says what a reset that awaits supplies valid leaves. -/
theorem supplyMonitorActs : Obligations.SupplyMonitorActs := by
  unfold Obligations.SupplyMonitorActs
  refine ⟨fun rail s => ?_, fun rail s => ?_, fun rail high s => ?_, fun rails s _ => gives_sagReset rails s,
    gives_aonPowerOnReset, fun seqLate role camp mains s h => gives_suppliesValid h seqLate role camp mains,
    fun toVbat s => ?_, fun mv s => ?_, fun mv s => ?_⟩
  · obtain ⟨latched, event, watch⟩ := warned_sagWarn rail s
    exact gives_done (t := sagWarn rail.val s) rfl ⟨latched, event, congrArg Watch.lowRails watch,
      ((frame_sagWarn rail.val s).mono (List.all_eq_true.mp (by decide)) (by decide)).pending⟩
  · obtain ⟨latched, event, watch⟩ := warned_supplyHigh rail s
    exact gives_done (t := supplyHigh rail.val s) rfl ⟨latched, event, congrArg Watch.highRails watch,
      ((frame_supplyHigh rail.val s).mono (List.all_eq_true.mp (by decide)) (by decide)).pending⟩
  · obtain ⟨rail_ends, last_ends⟩ := supplyClear_ends rail.val high s
    have frame := frame_supplyClear rail.val high s
    exact gives_done (t := supplyClear rail.val high s) rfl ⟨rail_ends, last_ends,
      frame.regs _ (by decide) (by decide), frame.regs _ (by decide) (by decide), frame.pending⟩
  · exact gives_done (t := changeover toVbat s) rfl ⟨rfl, (frame_changeover toVbat s).pending⟩
  · obtain ⟨present, low, live⟩ := vbatCrossing_shows mv s
    exact gives_done (t := vbatCrossing mv s) rfl ⟨present, low, live,
      ((frame_vbatCrossing mv s).mono (List.all_eq_true.mp (by decide)) (by decide)).pending⟩
  · refine gives_done (t := vbatMeasure mv s) rfl ⟨?_, (frame_vbatMeasure mv s).pending⟩
    exact (rd_wr_same _ _ _).trans (Nat.mod_eq_of_lt (by simp only [F.PWR.VBAT_MV]; omega))

end Sys2Proof.Machine
end

section
/-! PROOF. What a reset leaves whose start begins at once (R54, R622, R626). -/

namespace Sys2Proof.Machine

/-- The state after a reset that is not held, before its start begins: the registers show what it kept and how it is
recorded. -/
structure Restarts (kind as' source : Nat) (s u t : State) : Prop where
  shows : ∃ r, Within heldResetScopes [.clock, .root] (recovers r (cleared kind source false (beforeClear kind source s))) u
  starts : Within (startScopes ++ [.word 0x4E 0x060]) [.root, .draws] (begun u) t
  stage : rd F.MGMT.START_STAGE t = 1
  recorded : rd F.MGMT.START_RESET_KIND t = as' % 8
  asked : rd F.MGMT.START_WARM_SOURCE t = (if kind = R_WARM then source else 0) % 8

theorem restarts_performReset (kind as' source : Nat) (s : State) :
    ∃ u, Restarts kind as' source s u (performReset kind as' source false s) := by
  obtain ⟨u, r, frame, recorded, from', own⟩ := performReset_shows kind as' source false s
  obtain ⟨v, start, begins⟩ := beginStart_begun u
  have whole := (frame_beginStart_begun u).follows own
  refine ⟨u, ⟨r, frame⟩, whole, ?_, ?_, ?_⟩
  · exact (own.regs _ (by decide)).trans (beginStart_starts u).2
  · refine (own.regs _ (by decide)).trans ?_
    rw [if_neg Bool.false_ne_true, begins, rd_wr_ne _ _ _ _ (by decide)]
    exact (start.regs _ (by decide) (by decide)).trans recorded
  · refine (own.regs _ (by decide)).trans ?_
    rw [if_neg Bool.false_ne_true, begins, rd_wr_ne _ _ _ _ (by decide)]
    exact (start.regs _ (by decide) (by decide)).trans from'

/-- A warm reset of a part whose reset has ended begins a start at once (R622). -/
theorem deviceReset_warm {s : State} (held : s.boot.held = false) (now : resetNow s = false) (source : Nat) :
    deviceReset R_WARM source s = performReset R_WARM R_WARM source false s := by
  unfold deviceReset
  rw [if_neg (by simp [held]), if_neg (by simp [now])]
  rfl

theorem restarts_warm {s : State} (held : s.boot.held = false) (now : resetNow s = false) (source : Nat) :
    ∃ u, Restarts R_WARM R_WARM source s u (deviceReset R_WARM source s) := by
  rw [deviceReset_warm held now]
  exact restarts_performReset R_WARM R_WARM source s

/-- A reset cuts the programming of a bank (R139). -/
theorem Restarts.banks {kind as' source : Nat} {s u t : State} (h : Restarts kind as' source s u t) :
    t.banks = cutBanks (beforeClear kind source s) := by
  obtain ⟨r, shows⟩ := h.shows
  have start := h.starts.parts .banks (by decide)
  have kept := shows.parts .banks (by decide)
  unfold Agrees at start kept
  exact start.trans kept

end Sys2Proof.Machine
end

section
/-! PROOF. A register write over BAR0 that passes every check runs the command of its word (R76). -/

namespace Sys2Proof.Machine

theorem regWrite_accepted {pg off : Nat} {data : Word} {op : State → State} {s : State}
    (h : Accepted pg off data.toNat s) (word : wordCommand pg off .bar0 data = some op) (reach : reaches pg .bar0 = true)
    (ctrl : off ≠ 0x008) (force : off ≠ 0x01C) : regWrite pg off .bar0 data s = op s := by
  unfold Accepted at h
  simp only [regWrite, if_neg ctrl, if_neg force, regCommand, reach, h, word, routed, Bool.not_true, Bool.false_eq_true,
    if_false]

/-- A command over BAR0 that passes every check runs (R76). -/
theorem regCommand_accepted {pg off : Nat} {data : Word} {op : State → State} {s : State} (h : Accepted pg off data.toNat s)
    (reach : reaches pg .bar0 = true) : regCommand pg off .bar0 data op s = op s := by
  unfold Accepted at h
  simp only [regCommand, reach, h, routed, Bool.not_true, Bool.false_eq_true, if_false]

end Sys2Proof.Machine
end

section
/-! PROOF. A read request over BAR4 (R375, R377): it leaves every register, and the refutation of
`Obligations.RegisterAccesses` as it is stated. -/

namespace Sys2Proof.Machine

/-- A read over BAR4 clears nothing: it leaves every field. -/
@[simp] theorem rd_bar4Read (f : Field) (addr : Nat) (s : State) : rd f (bar4Read addr s) = rd f s := rfl

/-- A host request that addresses BAR4 is one. -/
theorem spanRead_bar4 {span : ReadSpan} (h : span.bar = .bar4) (s : State) :
    spanRead .bar0 span s = bar4Read span.addr s := by
  rw [spanRead, if_pos ⟨h, rfl⟩]

/-- A state in which page MGMT has counted one rejected write. -/
def oneReject : State := incSat (F.HEAD.REJECT_COUNT 0x4E) State.reset

theorem rd_oneReject : rd (F.HEAD.REJECT_COUNT 0x4E) oneReject = 1 := rfl

/-- A read request of the host over BAR4 at the address at which BAR0 has REJECT_COUNT of page MGMT. -/
def countOverBar4 : ReadSpan := { addr := 0x4E028, bar := .bar4 }

/-- Refutes O10: the clause of RC_COUNTER_READ takes every read request whose address is that of a REJECT_COUNT, also one
over BAR4, where no counter lies at that address. Such a read leaves the counter of page MGMT at 1. -/
theorem not_registerAccesses : ¬ Obligations.RegisterAccesses := by
  unfold Obligations.RegisterAccesses
  rintro ⟨-, -, -, read, -⟩
  obtain ⟨-, zero, -⟩ := (read .bar0 countOverBar4 oneReject (by decide) (by decide)).of_done
    (t := spanRead .bar0 countOverBar4 oneReject) rfl
  rw [rd_pending, spanRead_bar4 rfl, rd_bar4Read] at zero
  have kept : rd (F.HEAD.REJECT_COUNT 0x4E) oneReject = 0 := zero
  rw [rd_oneReject] at kept
  cases kept

end Sys2Proof.Machine
end

section
/-! PROOF. The end of a recovery of the gain (R176): it leaves every register, and the refutation of
`Obligations.LaneFaultsAndGain` as it is stated. -/

namespace Sys2Proof.Machine

/-- The end of a recovery writes no register. -/
@[simp] theorem rd_gainRecovered (f : Field) (p : Nat) (s : State) : rd f (gainRecovered p s) = rd f s := rfl

/-- A state whose table of registers lists 1 for GAIN_NOW.SATURATED of front end 0. The state's type admits it; the word
that a reader sees shows `saturated` there, and no command writes the field. -/
def listedSaturation : State := { State.reset with regs := [((F.CHAN.GAIN_NOW_SATURATED 0).key, 1)] }

theorem rd_listedSaturation : rd (F.CHAN.GAIN_NOW_SATURATED 0) listedSaturation = 1 := rfl

theorem calm_listedSaturation : Calm listedSaturation = true := by decide

theorem calm_gainRecovered_listedSaturation : Calm (gainRecovered 0 listedSaturation) = true := by decide

/-- Refutes O21: the clause of GAIN_RECOVERY_END has GAIN_NOW.SATURATED read 0 after it, and the command leaves that field,
which a state may list as 1. -/
theorem not_laneFaultsAndGain : ¬ Obligations.LaneFaultsAndGain := by
  unfold Obligations.LaneFaultsAndGain
  rintro ⟨-, -, -, -, -, -, -, -, -, -, recoveryEnd, -⟩
  obtain ⟨-, clear, -⟩ := (recoveryEnd 0 listedSaturation calm_listedSaturation).of_done
    (t := settleWork listedSaturation (gainRecovered 0 listedSaturation)) rfl
  rw [rd_pending, rd_settleWork_calm _ _ _ calm_gainRecovered_listedSaturation (by decide), rd_gainRecovered] at clear
  have kept : rd (F.CHAN.GAIN_NOW_SATURATED 0) listedSaturation = 0 := clear
  rw [rd_listedSaturation] at kept
  cases kept

end Sys2Proof.Machine
end

section
/-! PROOF. The advance of the scan of key slots (R292): what it returns, and the refutation of `Obligations.NodeCommands`
as it is stated. -/

namespace Sys2Proof.Machine

/-- A state whose table of registers lists 2^32 for the 32 bits of KEYS.SCAN3. The state's type admits it; no write of a
field makes it. -/
def overfullScan : State := { State.reset with regs := [(F.KEYS.SCAN3.key, 2 ^ 32)] }

/-- The word of SCAN3 is then more than a word holds. -/
theorem wordRead_overfullScan : wordRead 0x30 0x06C .mgmtSpi overfullScan = 2 ^ 32 := by decide

/-- Refutes O27: the clause of KEYS_SCAN_ADVANCE has the word read be SCAN3 as it stands, and 32 bits do not hold the 2^32
that a state may list there. -/
theorem not_nodeCommands : ¬ Obligations.NodeCommands := by
  unfold Obligations.NodeCommands
  rintro ⟨-, -, -, -, -, -, -, advance⟩
  obtain ⟨word, -⟩ := (advance overfullScan).of_done (t := regRead 0x30 0x06C .mgmtSpi overfullScan) rfl
  rw [wordRead_overfullScan] at word
  exact absurd word (Nat.ne_of_lt (BitVec.isLt _))

end Sys2Proof.Machine
end

section
/-! PROOF. A CONFIRM where the fused level lies beyond its eight bits (R551): the refutation of
`Obligations.TrialsAndCores` as it is stated. -/

namespace Sys2Proof.Machine

/-- A part in service whose trial has run its time, and whose table of registers lists 256 for the eight bits of
ROLLBACK.FUSED. The state's type admits it; no write of a field makes it. -/
def overfullLevel : State :=
  wr (F.HEAD.STATE_STATE 0x48) RUN (wr F.MGMT.START_STAGE 8 { State.reset with
    boot := { held := false }
    regs := [(F.FWUP.ROLLBACK_FUSED.key, 256)]
    fw := { rec0 := some { trial := true } } })

theorem rd_overfullLevel : rd F.FWUP.ROLLBACK_FUSED overfullLevel = 256 := by decide

/-- CONFIRM writes the greater level, of which eight bits keep 0. -/
theorem rd_confirm_overfullLevel : rd F.FWUP.ROLLBACK_FUSED (regWrite 0x48 0x040 .bar0 4 overfullLevel) = 0 := by decide

theorem calm_confirm_overfullLevel : Calm (regWrite 0x48 0x040 .bar0 4 overfullLevel) = true := by decide

/-- Refutes O48: the clause of FWUP_CONFIRM takes every state, also one whose ROLLBACK.FUSED holds 256. The greater of it
and the active level is 256, and the field reads 0 after the command. -/
theorem not_trialsAndCores : ¬ Obligations.TrialsAndCores := by
  unfold Obligations.TrialsAndCores
  rintro ⟨confirm, -⟩
  obtain ⟨-, -, level, -⟩ := (confirm overfullLevel (by decide) (by decide) (by decide) (by decide) (by decide)
    (by decide) (by decide) (by decide)).of_done
    (t := settleWork overfullLevel (regWrite 0x48 0x040 .bar0 4 overfullLevel)) rfl
  rw [rd_pending, rd_settleWork_calm _ _ _ calm_confirm_overfullLevel (by decide), rd_confirm_overfullLevel,
    rd_overfullLevel] at level
  exact absurd (level.symm ▸ Nat.le_max_left 256 _ : 256 ≤ 0) (by decide)

end Sys2Proof.Machine
end

section
/-! PROOF. A storage engine's mismatch that the retry mends (R407): the refutation of `Obligations.EngineMismatches` as it is
stated. -/

namespace Sys2Proof.Machine

/-- A state whose table of registers lists 2^32 for the 32 bits of SCIPHER.FAILED. The state's type admits it; no write of a
field makes it. -/
def overfullFailed : State := { State.reset with regs := [(F.SCIPHER.FAILED.key, 2 ^ 32)] }

theorem rd_failed_overfullFailed : rd F.SCIPHER.FAILED overfullFailed = 2 ^ 32 := by decide

/-- A mismatch that did not come again leaves FAILED. -/
theorem rd_failed_pathMismatch :
    rd F.SCIPHER.FAILED (pathMismatch (.storage 0 0 false false) overfullFailed) = 2 ^ 32 := by decide

/-- Refutes O33: the clause of a storage engine's PATH_MISMATCH takes every state and says FAILED modulo 2^32, also where
the retry agreed and FAILED is left as it stands. -/
theorem not_engineMismatches : ¬ Obligations.EngineMismatches := by
  unfold Obligations.EngineMismatches
  rintro ⟨storage, -⟩
  obtain ⟨-, -, failed, -⟩ := (storage (.storage 0 0 false false) overfullFailed 0 0 false false rfl (by decide)
    (by decide)).of_done (t := settleWork overfullFailed (pathMismatch (.storage 0 0 false false) overfullFailed)) rfl
  rw [rd_pending, rd_settleWork _ _ _ (by decide) (by decide), rd_failed_pathMismatch, rd_failed_overfullFailed] at failed
  exact absurd failed (by decide)

end Sys2Proof.Machine
end

section
/-! PROOF. A visit of the sweeper to an entry that is not valid (R277): the refutation of
`Obligations.SweeperAndPathReads` as it is stated. -/

namespace Sys2Proof.Machine

/-- A part in service whose sweeper stands at an entry that is not valid, and whose table of registers lists 2^32 for the
32 bits of AGED. The state's type admits it; no write of a field makes it. -/
def overfullAged : State :=
  wr (F.HEAD.STATE_STATE 0x20) RUN (wr F.NODE.SWEEP_ENABLE 1 { State.reset with regs := [(F.NODE.AGED.key, 2 ^ 32)] })

theorem rd_aged_overfullAged : rd F.NODE.AGED overfullAged = 2 ^ 32 := by decide

/-- A visit of an entry that is not valid moves the position on and leaves AGED. -/
theorem rd_aged_sweeperVisit : rd F.NODE.AGED (sweeperVisit overfullAged) = 2 ^ 32 := by decide

theorem calm_sweeperVisit_overfullAged : Calm (sweeperVisit overfullAged) = true := by decide

theorem not_valid_overfullAged : (node 0 overfullAged).valid = false := by decide

/-- Refutes O26: the clause of SWEEPER_VISIT takes every state and says AGED modulo 2^32, also where the entry at the
position is not valid and AGED is left as it stands. -/
theorem not_sweeperAndPathReads : ¬ Obligations.SweeperAndPathReads := by
  unfold Obligations.SweeperAndPathReads
  rintro ⟨visit, -⟩
  obtain ⟨-, -, -, aged, -⟩ := (visit overfullAged 0 (by decide) (by decide) (by decide) (by decide) (by decide)).of_done
    (t := settleWork overfullAged (sweeperVisit overfullAged)) rfl
  rw [rd_pending, rd_settleWork_calm _ _ _ calm_sweeperVisit_overfullAged (by decide), rd_aged_sweeperVisit,
    rd_aged_overfullAged, not_valid_overfullAged] at aged
  exact absurd aged (by decide)

end Sys2Proof.Machine
end

section
/-! PROOF. A slip that ends a frame listed twice (R339): the refutation of `Obligations.SchedulerSelection` as it is
stated. -/

namespace Sys2Proof.Machine

theorem exec_slipExpiry (logical : Fin 4) (s : State) :
    exec (.slipExpiry logical) s = done s (settleWork s (slipNow logical.val s)) := rfl

theorem frame?_pending (id : Nat) (s : State) (q : List Instr) : frame? id { s with pending := q } = frame? id s := rfl

/-- A data frame that COEX holds. -/
def coexHeld : Frame := { kind := .data, length := 40, place := .committed 0 .coex }

/-- A state whose table of frames lists number 1 twice: committed on front end 0, and again queued. The state's type admits
it; the operations on the table list a number once. -/
def listedTwice : State := { State.reset with frames := [(1, coexHeld), (1, { kind := .data, length := 40 })] }

/-- The slip ends the first of the two, which leaves; the second is then what the table has. -/
theorem frame_airWork_listedTwice : (frame? 1 (airWork (slipNow (0 : Fin 4).val listedTwice))).isSome = true := by decide

theorem mirrors_airWork_listedTwice : mirrors (airWork (slipNow (0 : Fin 4).val listedTwice)) = false := by decide

theorem frames_settleWork_listedTwice :
    (settleWork listedTwice (slipNow (0 : Fin 4).val listedTwice)).frames = (airWork (slipNow (0 : Fin 4).val listedTwice)).frames :=
  ((Within.refl [] [] _).follows (follows_airWork listedTwice _ mirrors_airWork_listedTwice)).parts .frames List.not_mem_nil

/-- Refutes O29: the clause of SLIP_EXPIRY that ends a committed frame has the table hold no frame of its number after it,
also where the table lists the number twice. -/
theorem not_schedulerSelection : ¬ Obligations.SchedulerSelection := by
  unfold Obligations.SchedulerSelection
  rintro ⟨-, -, -, -, -, -, -, -, -, -, -, -, -, -, slip, -⟩
  obtain ⟨gone, -⟩ := (slip 0 listedTwice 1 0 coexHeld .coex (by decide) (by decide) (by decide) (by decide) (by decide)
    (by decide) (by decide)).of_done (exec_slipExpiry 0 listedTwice)
  rw [frame?_pending, frame?, frames_settleWork_listedTwice, ← frame?] at gone
  have kept := frame_airWork_listedTwice
  rw [gone] at kept
  cases kept

end Sys2Proof.Machine
end

section
/-! PROOF. A read of TSQ whose word lies beyond its 32 bits (R458): the refutation of `Obligations.PulsesAndTimestamps`
as it is stated. -/

namespace Sys2Proof.Machine

/-- A port with one transmit timestamp waiting, and whose table of registers lists 2^32 for the last word of TSQ. The
state's type admits it; no write of a field makes it. -/
def overfullTsq : State :=
  modPort 0 (fun p => { p with tsq := [⟨0, 0, 0, 0⟩] })
    { State.reset with regs := [((F.PTP.TSQ 0 4).key, 2 ^ 32)] }

theorem tsq_overfullTsq : (port (0 : Fin 2).val overfullTsq).tsq = ⟨0, 0, 0, 0⟩ :: [] := by decide

theorem rd_overfullTsq : rd (F.PTP.TSQ (0 : Fin 2).val 4) overfullTsq = 2 ^ 32 := by decide

/-- Refutes O41: the clause of TSQ_POP takes every state, also one whose TSQ holds 2^32, which the 32 bits of the word
read cannot give. -/
theorem not_pulsesAndTimestamps : ¬ Obligations.PulsesAndTimestamps := by
  unfold Obligations.PulsesAndTimestamps
  rintro ⟨-, -, -, -, -, -, pop, -⟩
  obtain ⟨-, word, -⟩ := (pop 0 overfullTsq ⟨0, 0, 0, 0⟩ [] tsq_overfullTsq).of_done rfl
  rw [rd_overfullTsq] at word
  exact absurd (word ▸ BitVec.isLt _) (lt_irrefl _)

end Sys2Proof.Machine
end

section
/-! PROOF. A DDR alert whose repeat succeeds (R505): the refutation of `Obligations.DdrAndFlash` as it is stated. -/

namespace Sys2Proof.Machine

/-- A state whose table of registers lists 2^32 for the 32 bits of DDR_UE_COUNT. The state's type admits it; no write of a
field makes it. -/
def overfullUe : State := { State.reset with regs := [(F.MEMINT.DDR_UE_COUNT.key, 2 ^ 32)] }

theorem calm_overfullUe : Calm overfullUe = true := by decide

theorem rd_overfullUe : rd F.MEMINT.DDR_UE_COUNT overfullUe = 2 ^ 32 := by decide

/-- A command whose retry succeeds loses no line and leaves DDR_UE_COUNT. -/
theorem rd_ddrAlert_overfullUe : rd F.MEMINT.DDR_UE_COUNT (ddrAlert 0 false overfullUe) = 2 ^ 32 := by decide

/-- Refutes O45: the clause of DDR_ALERT takes every calm state and says DDR_UE_COUNT modulo 2^32, also where the retry
succeeds and the count is left as it stands. -/
theorem not_ddrAndFlash : ¬ Obligations.DdrAndFlash := by
  unfold Obligations.DdrAndFlash
  rintro ⟨alert, -⟩
  obtain ⟨-, lost, -⟩ := (alert 0 false overfullUe calm_overfullUe).of_done
    (t := settleWork overfullUe (ddrAlert 0 false overfullUe)) rfl
  rw [rd_pending, rd_settleWork _ _ _ (by decide) (by decide), rd_ddrAlert_overfullUe, rd_overfullUe] at lost
  exact absurd lost (by decide)

end Sys2Proof.Machine
end

section
/-! PROOF. A key operation whose slot lies beyond the 1,024 slots (R378): the refutation of `Obligations.KeyOperations` as
it is stated. -/

namespace Sys2Proof.Machine

/-- An operation that ends in slot 1,024, for which the ten bits of LOAD_STATUS.SLOT have no room. The state's type
admits it; no command of KEYS begins it. -/
def pastLastSlot : KeyOp := { target := 1024, next := {}, parent := none, finger := 0, begun := 0 }

def runsPastLastSlot : State := { State.reset with keyOp := some pastLastSlot }

theorem rd_loadStatus_runsPastLastSlot : rd F.BAR4.LOAD_STATUS_SLOT (keyOpDone true runsPastLastSlot) = 0 := by decide

/-- Refutes O32: the clause of a KEY_OP_DONE that ends a load takes every operation, also one in slot 1,024, whose number
reads 0 in LOAD_STATUS. -/
theorem not_keyOperations : ¬ Obligations.KeyOperations := by
  unfold Obligations.KeyOperations
  rintro ⟨-, -, -, done, -⟩
  obtain ⟨-, -, slot, -⟩ := (done true runsPastLastSlot pastLastSlot rfl (by decide) (by decide) rfl (by decide)).of_done
    (t := settleWork runsPastLastSlot (keyOpDone true runsPastLastSlot)) rfl
  rw [rd_pending, rd_settleWork _ _ _ (by decide) (by decide), rd_loadStatus_runsPastLastSlot] at slot
  exact absurd slot (by decide)

end Sys2Proof.Machine
end

section
/-! PROOF. A DISSEM_START where RUNNING lies beyond its sixteen bits (R570): the refutation of
`Obligations.CampaignCommands` as it is stated. -/

namespace Sys2Proof.Machine

/-- A part in service with a campaign that is ready on one front end, and whose table of registers lists 2^16 for the
sixteen bits of RUNNING. The state's type admits it; no write of a field makes it. -/
def overfullRunning : State :=
  wr (F.DISSEM.C_STATUS_STATE 0) C_READY (wr (F.DISSEM.C_CHANNEL_HZ 0 0) 1 (wr (F.DISSEM.C_CFG_FE_MASK 0) 1
    (wr (F.DISSEM.C_CFG_MODE 0) 0x10 (wr (F.HEAD.STATE_STATE 0x29) RUN (wr F.MGMT.START_STAGE 8 { State.reset with
      boot := { held := false }
      regs := [(F.DISSEM.RUNNING.key, 2 ^ 16)] })))))

/-- The DISSEM_START of campaign 0. -/
def startsOverfull : State := regCommand 0x29 0x04C .bar0 0x200 (dissemStart 0) overfullRunning

theorem rd_overfullRunning : rd F.DISSEM.RUNNING overfullRunning = 2 ^ 16 := by decide

/-- The start sets bit 0 of what RUNNING holds, of which sixteen bits keep 1. -/
theorem rd_settled_startsOverfull : rd F.DISSEM.RUNNING (settleWork overfullRunning startsOverfull) = 1 := by
  decide +kernel

theorem exec_dissemStart_overfullRunning :
    exec (.dissemStart 0) overfullRunning = done overfullRunning (settleWork overfullRunning startsOverfull) := rfl

/-- Refutes O50: the clause of a DISSEM_START that runs a campaign takes every state, also one whose RUNNING holds 2^16. The
value it says is that with bit 0, and the field reads 1 after the command. -/
theorem not_campaignCommands : ¬ Obligations.CampaignCommands := by
  unfold Obligations.CampaignCommands
  rintro ⟨-, -, -, -, start, -⟩
  obtain ⟨-, running, -⟩ := (start 0 overfullRunning (by decide) (by decide) (by decide) (by decide) (by decide)
    (by decide) (by decide) (by decide) (by decide)).of_done exec_dissemStart_overfullRunning
  rw [rd_pending, rd_settled_startsOverfull, rd_overfullRunning] at running
  exact absurd running (by decide)

end Sys2Proof.Machine
end

section
/-! PROOF. A TEST_WRITE to DDR in self-refresh (R525): the refutation of `Obligations.TestMode` as it is stated. -/

namespace Sys2Proof.Machine

/-- A part in service in bivouac, its DDR in self-refresh, with 1 in TEST_DATA and the DDR row as the target. -/
def restingDdr : State :=
  wr F.CANARY.BIVOUAC_STATE 1 (wr (F.MEMINT.TEST_DATA 0) 1 (wr (F.HEAD.STATE_STATE 0x46) RUN
    (wr F.MGMT.START_STAGE 8 { State.reset with boot := { held := false, mirrored := true } })))

theorem selfRefresh_restingDdr : selfRefresh restingDdr = true := by decide

theorem testData_restingDdr : testData restingDdr = 1 := by decide

/-- The write waits for the DDR. -/
def waitsToWrite : State := regWrite 0x46 0x094 .bar0 1 restingDdr

theorem test_waitsToWrite : testWord (testTarget restingDdr) (testOffset restingDdr) waitsToWrite = {} := by decide

theorem calm_waitsToWrite : Calm waitsToWrite = true := by decide

/-- The settled state keeps the test words of the write. -/
theorem testWord_settled_waitsToWrite (x y : Nat) (q : List Instr) :
    testWord x y { settleWork restingDdr waitsToWrite with pending := q } = testWord x y waitsToWrite := by
  have kept := (((Within.refl [] [] waitsToWrite).settleWork (old := restingDdr) calm_waitsToWrite).pending (q := q)).parts
    .mem (by decide)
  exact congrArg (fun m : MemCheck => look m.test (testKey x y) {}) kept

/-- Refutes O46: the clause of TEST_WRITE does not leave out the DDR in self-refresh, where the write waits and the test word
does not hold TEST_DATA. -/
theorem not_testMode : ¬ Obligations.TestMode := by
  unfold Obligations.TestMode
  rintro ⟨write, -⟩
  obtain ⟨word, -⟩ := (write .bar0 restingDdr (by decide) (by decide) (by decide) (by decide)).of_done
    (t := settleWork restingDdr waitsToWrite) rfl
  rw [testWord_settled_waitsToWrite, test_waitsToWrite, testData_restingDdr] at word
  exact absurd word (by decide)

end Sys2Proof.Machine
end

section
/-! PROOF. A read of the window with DDR in self-refresh (R614): the refutation of `Obligations.ReceiveRings` as it is
stated. -/

namespace Sys2Proof.Machine

/-- A part in service in bivouac whose trained DDR is in self-refresh. -/
def restingWindow : State :=
  wr F.CANARY.BIVOUAC_STATE 1 (wr (F.HEAD.STATE_STATE 0x40) RUN (wr (F.HEAD.STATE_STATE 0x44) RUN
    (wr F.MGMT.START_STAGE 8 { State.reset with boot := { held := false, mirrored := true } })))

/-- The read of one octet, which waits for the DDR. -/
def waitsToRead : State := bar2 (.read 0 1) .clean restingWindow

theorem hostData_waitsToRead : waitsToRead.hostData = [] := by decide

theorem calm_waitsToRead : Calm waitsToRead = true := by decide

theorem hostData_settled_waitsToRead (q : List Instr) :
    ({ settleWork restingWindow waitsToRead with pending := q } : State).hostData = [] := by
  have kept := (((Within.refl [] [] waitsToRead).settleWork (old := restingWindow) calm_waitsToRead).pending (q := q)).parts
    .hostData (by decide)
  exact kept.1.trans hostData_waitsToRead

/-- Refutes O43: the clause of a read of BAR2 does not leave out the DDR in self-refresh, where the read waits and gives no
octet. -/
theorem not_receiveRings : ¬ Obligations.ReceiveRings := by
  unfold Obligations.ReceiveRings
  rintro ⟨read, -⟩
  obtain ⟨octets, -⟩ := (read (.read 0 1) .clean restingWindow 0 1 rfl rfl (by decide) (by decide) (by decide)
    (by decide)).of_done (t := settleWork restingWindow waitsToRead) rfl
  rw [hostData_settled_waitsToRead] at octets
  exact absurd octets (by decide)

end Sys2Proof.Machine
end

section
/-! PROOF. A hold time-out while a retune waits (R106): the refutation of `Obligations.EgressAndPause` as it is stated. -/

namespace Sys2Proof.Machine

/-- A part in service whose front end 0 receives with a retune pending and no time to drain, one of its lanes bound, and a
frame held at port 0. -/
def drainless : State :=
  wr (F.FE.RF_STATE_RETUNE_PENDING 0) 1 (wr (F.FE.RF_STATE_STATE 0) RF_RX (wr (F.HEAD.STATE_STATE (fePage 0)) RUN
    (wr F.MGMT.START_STAGE 8 (modPort 0 (fun p => { p with queue := [{ frames := [7], octets := 60 }] })
      (modLane 0 (fun l => { l with state := .payload, frame := 5 }) { State.reset with boot := { held := false } })))))

theorem holds_drainless :
    (port 0 drainless).queue = [{ frames := [7], octets := 60 }] ∧ drainless.ledger = [] := by decide +kernel

def timedOut : State := egressHoldTimeout 0 drainless

theorem exec_drainless : exec (.egressHoldTimeout 0) drainless = done drainless (settleWork drainless timedOut) := rfl

/-- The retune that waited begins: it ends the lane, whose frame enters the ledger after that of the port. -/
theorem ledger_airWork_timedOut : mirrors (airWork timedOut) = false ∧
    (airWork timedOut).ledger = [(5, .dropDisabled), (7, .dropRingFull)] := by
  decide +kernel

/-- What only shows other state leaves the ledger. -/
theorem Shows.ledger {P : Nat → Bool} {s t : State} (h : Shows P s t) : t.ledger = s.ledger := by
  obtain ⟨⟨_, _, _, _, _, rfl⟩, -⟩ := h
  rfl

theorem ledger_settled_timedOut : (settleWork drainless timedOut).ledger = [(5, .dropDisabled), (7, .dropRingFull)] := by
  obtain ⟨alone, both⟩ := ledger_airWork_timedOut
  rw [(follows_airWork drainless timedOut alone).ledger, both]

/-- Refutes O38: the clause of EGRESS_HOLD_TIMEOUT gives the ledger one entry, where a retune that begins in the same step
ends its lanes with entries of their own. -/
theorem not_egressAndPause : ¬ Obligations.EgressAndPause := by
  unfold Obligations.EgressAndPause
  rintro ⟨-, -, -, -, -, timeout, -⟩
  obtain ⟨queue, empty⟩ := holds_drainless
  obtain ⟨-, -, ledger, -⟩ := (timeout 0 drainless { frames := [7], octets := 60 } 7 queue rfl rfl).of_done
    exec_drainless
  dsimp only at ledger
  rw [ledger_settled_timedOut, empty] at ledger
  exact absurd ledger (by decide)

end Sys2Proof.Machine
end

section
/-! PROOF. A lane table with two entries for one lane: the refutation of `Obligations.FrontEndTuning` as it is stated. -/

namespace Sys2Proof.Machine

/-- A part in service whose front end 0 receives with a retune pending, and whose table of lanes has an idle entry of lane 0
before a bound one. -/
def doubledLane : State :=
  wr (F.FE.RF_STATE_RETUNE_PENDING 0) 1 (wr (F.FE.RF_STATE_STATE 0) RF_RX (wr (F.HEAD.STATE_STATE (fePage 0)) RUN
    (wr F.MGMT.START_STAGE 8
      { State.reset with boot := { held := false }, lanes := [(0, {}), (0, { state := .payload })] })))

/-- What the clause asks of the state. -/
theorem retunes_doubledLane :
    rd (F.FE.RF_STATE_RETUNE_PENDING 0) doubledLane = 1 ∧ rf 0 doubledLane = RF_RX ∧ (fe 0 doubledLane).todo = [] ∧
    pageState (fePage 0) doubledLane = RUN ∧ Calm (wr (F.FE.RF_STATE_RETUNE_PENDING 0) 0 doubledLane) = true := by
  decide +kernel

def retunedDoubled : State := retuneExpiry 0 doubledLane

theorem exec_doubledLane :
    exec (.retuneDrainExpiry 0) doubledLane = done doubledLane (settleWork doubledLane retunedDoubled) := rfl

/-- The second entry of the lane stays bound. -/
theorem bound_airWork_retunedDoubled : mirrors (airWork retunedDoubled) = false ∧
    anyLane (fun l => l.physical == 0) (airWork retunedDoubled) = true := by decide +kernel

/-- Refutes O15: the clause of RETUNE_DRAIN_EXPIRY also covers a lane table with a second entry for a lane, which the end of
the lane does not reach. -/
theorem not_frontEndTuning : ¬ Obligations.FrontEndTuning := by
  unfold Obligations.FrontEndTuning
  rintro ⟨-, expiry, -⟩
  obtain ⟨pending, rx, todo, runs, calm⟩ := retunes_doubledLane
  obtain ⟨alone, bound⟩ := bound_airWork_retunedDoubled
  obtain ⟨-, -, unbound, -⟩ := (expiry 0 doubledLane pending rx todo runs calm).of_done exec_doubledLane
  have kept := (((Within.refl [] [] _).follows
    (follows_airWork doubledLane retunedDoubled alone)).pending
    (q := doubledLane.pending)).parts .lanes (by decide)
  unfold Agrees at kept
  exact absurd (unbound.symm.trans ((congrArg (fun l : Tbl Lane => l.any (fun x => x.2.bound && x.2.physical == 0)) kept).trans
    bound)) (by decide)

end Sys2Proof.Machine
end

section
/-! PROOF. A warm reset that cuts the programming of a bank (R139): the refutation of `Obligations.FunctionAndCopies` as it is
stated. -/

namespace Sys2Proof.Machine

/-- A part in service that programs its one bank. -/
def programmingBank : State :=
  wr F.REGLOCK.STATUS_PROG_STATE 1 (wr (F.HEAD.STATE_STATE 0x40) RUN
    (wr F.MGMT.START_STAGE 8 { State.reset with boot := { held := false }, banks := [(0, [1])] }))

def cutShort : State := regWrite 0x40 0x058 .bar0 0xC3A5 programmingBank

/-- What the clause asks of the write, and what the reset leaves of the bank. -/
theorem resets_programmingBank : Accepted 0x40 0x058 0xC3A5 programmingBank ∧ resetNow programmingBank = false ∧
    cutBanks (beforeClear R_WARM 2 programmingBank) = [(0, [])] := by decide +kernel

theorem exec_programmingBank :
    exec .hostifWarmReset programmingBank = done programmingBank (settleWork programmingBank cutShort) := rfl

theorem cutShort_eq : cutShort = deviceReset R_WARM 2 programmingBank :=
  regWrite_accepted resets_programmingBank.1 rfl rfl (by decide) (by decide)

theorem banks_cutShort : cutShort.banks = [(0, [])] := by
  obtain ⟨-, now, cut⟩ := resets_programmingBank
  obtain ⟨u, h⟩ := restarts_warm (s := programmingBank) rfl now 2
  rw [cutShort_eq, h.banks, cut]

/-- Refutes O42: the clause of HOSTIF_WARM_RESET keeps every bank, where the reset leaves the one being programmed empty. -/
theorem not_functionAndCopies : ¬ Obligations.FunctionAndCopies := by
  unfold Obligations.FunctionAndCopies
  rintro ⟨-, -, -, -, -, -, -, -, -, reset⟩
  obtain ⟨accepted, now, -⟩ := resets_programmingBank
  obtain ⟨-, -, -, -, banks, -⟩ := (reset programmingBank accepted rfl now).of_done exec_programmingBank
  have settled := (frame_settleWork programmingBank cutShort).parts .banks (by decide)
  unfold Agrees at settled
  dsimp only at banks
  rw [settled, banks_cutShort] at banks
  exact absurd banks (by decide)

end Sys2Proof.Machine
end

section
/-! PROOF. A register that holds more than its width: the refutation of `Obligations.BivouacAndDeepHold` as it is stated. -/

namespace Sys2Proof.Machine

/-- A part in bivouac that may go to deep hold, whose one-bit STATUS.UNSET holds 2. -/
def overfullUnset : State :=
  wr F.PWR.PWR_FAIL_LEVEL 0 (wr F.CANARY.BIVOUAC_CFG_DEEP_AFTER 1 (wr F.CANARY.BIVOUAC_STATE 2
    { State.reset with boot := { held := false, mirrored := true }, regs := [(F.TIME.STATUS_UNSET.key, 2)] }))

def holdsDeep : State := deepAfter overfullUnset

/-- What the clause asks of the state, what its STATUS.UNSET reads, and that time runs on. -/
theorem bivouac_overfullUnset :
    rd F.CANARY.BIVOUAC_CFG_DEEP_AFTER overfullUnset ≠ 0 ∧ rd F.CANARY.BIVOUAC_STATE overfullUnset = 2 ∧
    rd F.PWR.PWR_FAIL_LEVEL overfullUnset = 0 ∧ rd F.TIME.STATUS_UNSET overfullUnset = 2 ∧
    rd F.TIME.STATUS_HOLDOVER holdsDeep = 0 := by decide +kernel

theorem exec_overfullUnset :
    exec .deepAfterExpiry overfullUnset = done overfullUnset (settleWork overfullUnset holdsDeep) := rfl

/-- Refutes O55: STATUS.UNSET is set where it holds anything but 0, and time is then left as it is, but the clause of
DEEP_AFTER asks that it holds 1. -/
theorem not_bivouacAndDeepHold : ¬ Obligations.BivouacAndDeepHold := by
  unfold Obligations.BivouacAndDeepHold
  rintro ⟨-, -, -, -, expiry, -⟩
  obtain ⟨after, state, mains, unset, holdover⟩ := bivouac_overfullUnset
  obtain ⟨-, -, -, time, -⟩ := (expiry overfullUnset after state mains).of_done exec_overfullUnset
  rw [unset, rd_pending, rd_settleWork _ _ _ (by decide) (by decide), holdover] at time
  exact absurd time (by decide)

end Sys2Proof.Machine
end

section
/-! PROOF. The end of a self-test of FCRYPTO with no engine under test (R400): the refutation of `Obligations.PageTransitions`
as it is stated. -/

namespace Sys2Proof.Machine

/-- A part in service whose FCRYPTO page is in TEST with a self-test that runs and none of its engines under test. -/
def testedWithoutEngine : State :=
  wr (F.HEAD.TEST_STATUS_RESULT 0x31) T_RUNNING (wr (F.HEAD.STATE_STATE 0x31) TEST
    (wr F.MGMT.START_STAGE 8 { State.reset with boot := { held := false } }))

theorem pageState_testedWithoutEngine : pageState 0x31 testedWithoutEngine = TEST := by decide

theorem result_testedWithoutEngine : rd (F.HEAD.TEST_STATUS_RESULT 0x31) testedWithoutEngine = T_RUNNING := by decide

theorem calm_testedWithoutEngine : Calm testedWithoutEngine = true := by decide

/-- With no engine under test the vectors end nothing. -/
theorem exec_testedWithoutEngine : exec (.selfTestDone 0x31 none) testedWithoutEngine =
    done testedWithoutEngine (settleWork testedWithoutEngine testedWithoutEngine) := by
  have unchanged : selfTestDone 0x31 none testedWithoutEngine = testedWithoutEngine := by
    simp [selfTestDone, result_testedWithoutEngine, pageState_testedWithoutEngine, engineStillTested,
      show testedWithoutEngine.engineTest = none from rfl]
  have run : exec (.selfTestDone 0x31 none) testedWithoutEngine =
      done testedWithoutEngine (settleWork testedWithoutEngine (selfTestDone 0x31 none testedWithoutEngine)) := rfl
  rw [run, unchanged]

/-- Refutes O12: the clause of SELF_TEST_DONE does not leave out FCRYPTO, whose self-test ends with its last engine; in a calm
state no engine is under test, and the page stays in TEST. -/
theorem not_pageTransitions : ¬ Obligations.PageTransitions := by
  unfold Obligations.PageTransitions
  rintro ⟨-, -, -, -, ended, -⟩
  obtain ⟨state, -⟩ := (ended 0x31 none testedWithoutEngine rfl pageState_testedWithoutEngine rfl result_testedWithoutEngine
    calm_testedWithoutEngine).of_done exec_testedWithoutEngine
  have kept : pageState 0x31 (settleWork testedWithoutEngine testedWithoutEngine) = TEST :=
    ((follows_calm testedWithoutEngine _ calm_testedWithoutEngine).regs (F.HEAD.STATE_STATE 0x31) (by decide)).trans
      pageState_testedWithoutEngine
  unfold pageState at state kept
  rw [rd_pending, kept] at state
  exact absurd state (by decide)

end Sys2Proof.Machine
end

section
/-! PROOF. A relief that ends while FE3 resumes from listen-through (R125): the refutation of `Obligations.ReliefAndRoles` as it
is stated. -/

namespace Sys2Proof.Machine

def endedRelief : Relief := { k := 0, cals := [], why := .retry, stage := .relieving }

/-- A part in service whose FE3 has the role of listening through for FE0, to which reception is to return, and at the same time
relieves FE0, whose page has left RUN. -/
def resumingRelief : State :=
  wr (F.FE.ROLE_MODE 3) 3 (wr F.MGMT.START_STAGE 8
    { State.reset with boot := { held := false }, relief := some endedRelief, fes := [(3, { resuming := true })] })

theorem anyLane_resumingRelief : anyLane (fun l => l.physical == 0) resumingRelief = false := by decide

theorem pageState_resumingRelief : pageState (fePage 0) resumingRelief ≠ RUN := by decide

theorem calm_resumingRelief : Calm resumingRelief = true := by decide

def reliefEnded : State := relievedLanesEnded resumingRelief

theorem exec_resumingRelief :
    exec .relievedLanesEnded resumingRelief = done resumingRelief (settleWork resumingRelief reliefEnded) := rfl

/-- FE0 rests in STANDBY. -/
theorem rests_reliefEnded : Calm reliefEnded = true ∧ rf 0 reliefEnded = RF_STANDBY := by decide +kernel

/-- Refutes O17: the clause of RELIEVED_LANES_ENDED for a page that has left RUN does not leave out a front end to which
reception is to return from FE3, which comes to rest in STANDBY. -/
theorem not_reliefAndRoles : ¬ Obligations.ReliefAndRoles := by
  unfold Obligations.ReliefAndRoles
  rintro ⟨-, -, -, -, -, -, -, -, -, -, left⟩
  obtain ⟨calm, standby⟩ := rests_reliefEnded
  obtain ⟨-, rests, -⟩ := (left resumingRelief endedRelief rfl rfl (by decide) anyLane_resumingRelief pageState_resumingRelief
    calm_resumingRelief).of_done exec_resumingRelief
  unfold rf at rests
  rw [rd_pending, rd_settleWork_calm _ _ _ calm (by decide)] at rests
  exact absurd (standby.symm.trans rests) (by decide)

end Sys2Proof.Machine
end

section
/-! PROOF. FE3 at the end of a transmission with no role (R110, R117): the refutation of `Obligations.TransmissionPath` as it
is stated. -/

namespace Sys2Proof.Machine

/-- A part in service whose FE3 is idle and at the end of a transmission. -/
def idleFe3 : State :=
  wr (F.FE.RF_STATE_STATE 3) RF_TX_RX (wr (F.HEAD.STATE_STATE (fePage 3)) RUN
    (wr F.MGMT.START_STAGE 8 { State.reset with boot := { held := false } }))

theorem rf_idleFe3 : rf 3 idleFe3 = RF_TX_RX := by decide

theorem pageState_idleFe3 : pageState (fePage 3) idleFe3 = RUN := by decide

theorem listensThrough_idleFe3 : listensThrough 3 idleFe3 = false := by decide

theorem after_idleFe3 : (fe 3 idleFe3).after ≠ some RF_SYNTH_CAL := by decide

theorem calm_idleFe3 : Calm idleFe3 = true := by decide

def elapsedIdle : State := txRxElapsed 3 idleFe3

theorem exec_idleFe3 : exec (.txRxElapsed 3) idleFe3 = done idleFe3 (settleWork idleFe3 elapsedIdle) := rfl

/-- FE3 rests in STANDBY. -/
theorem rests_elapsedIdle : Calm elapsedIdle = true ∧ rf 3 elapsedIdle = RF_STANDBY := by decide +kernel

/-- Refutes O18: the clause of TX_RX_ELAPSED does not leave out an FE3 without a role, which comes to rest in STANDBY. -/
theorem not_transmissionPath : ¬ Obligations.TransmissionPath := by
  unfold Obligations.TransmissionPath
  rintro ⟨-, -, elapsed, -⟩
  obtain ⟨calm, standby⟩ := rests_elapsedIdle
  obtain ⟨rests, -⟩ := (elapsed 3 idleFe3 rf_idleFe3 pageState_idleFe3 listensThrough_idleFe3 after_idleFe3
    calm_idleFe3).of_done exec_idleFe3
  unfold rf at rests
  rw [rd_pending, rd_settleWork_calm _ _ _ calm (by decide)] at rests
  exact absurd (standby.symm.trans rests) (by decide)

end Sys2Proof.Machine
end

section
/-! PROOF. A detection beaten by that of another listen set (R158): the refutation of `Obligations.DetectionBindsALane` as it
is stated. -/

namespace Sys2Proof.Machine

/-- A detection of set 1, of a greater metric, on the same channel in the same 8 µs. -/
def betterReport : Report := { at_ := 1000000, hz := 865000000, spacing := 200000, set := 1, metric := 20000 }

/-- A part in service that listens with set 0 to one channel, on which set 1 has just detected. -/
def rivalled : State :=
  wr (F.CHAN.LISTEN_CH0_HZ 0 0) 865000000 (wr (F.CHAN.LISTEN_RASTER_SPACING_KHZ 0 0) 200
    (wr (F.CHAN.LISTEN_RASTER_COUNT 0 0) 1 (wr (F.CHAN.LISTEN_CFG_MODE 0 0) 0x10 (wr (F.CHAN.LISTEN_CFG_ENABLE 0 0) 1
    (wr F.CHAN.DETECT_EN 1 (wr (F.FE.RF_STATE_STATE 0) RF_RX (wr (F.HEAD.STATE_STATE 0x11) RUN
    (wr (F.HEAD.STATE_STATE 0x10) RUN (wr (F.HEAD.STATE_STATE (fePage 0)) RUN (wr F.MGMT.START_STAGE 8
      { State.reset with
        boot := { held := false }, now := 1000000
        fes := [(0, { centre := 865000000, reports := [betterReport]
                      energy := [{ time := 900000, bins := (List.range 256).map (fun b => (b, -100)) }] })] }))))))))))

/-- The energy on the channel and its floor, which are equal. -/
def channelEnergy : Nat := 100000000000000000000000000000000000000000000000

/-- What the clause asks of a detection of set 0 on that channel. -/
theorem detects_rivalled :
    searches 0 rivalled = true ∧
    channelMeets (logicalOf 0 rivalled) 0 0 0 rivalled = true ∧
    rd (F.CHAN.LISTEN_DETECT_CORR_MIN (logicalOf 0 rivalled) 0) rivalled ≤ 10000 ∧
    guardedChannel 0 (channelHz (logicalOf 0 rivalled) 0 0 rivalled) rivalled = false ∧
    energyNow 0 (channelHz (logicalOf 0 rivalled) 0 0 rivalled)
      (rd (F.CHAN.LISTEN_RASTER_SPACING_KHZ (logicalOf 0 rivalled) 0) rivalled * 1000) rivalled = some channelEnergy ∧
    channelFloor 0 (channelHz (logicalOf 0 rivalled) 0 0 rivalled)
      (rd (F.CHAN.LISTEN_RASTER_SPACING_KHZ (logicalOf 0 rivalled) 0) rivalled * 1000) rivalled = some channelEnergy ∧
    channelEnergy * linear (4 * rdInt (F.CHAN.LISTEN_DETECT_SNR_MIN (logicalOf 0 rivalled) 0) rivalled) / 10 ^ 40 ≤
      channelEnergy * 10 ^ 12 ∧
    (fe 0 rivalled).offerUs ≠ rivalled.now / 1000 ∧
    lanesOn (logicalOf 0 rivalled) (channelHz (logicalOf 0 rivalled) 0 0 rivalled)
      (rd (F.CHAN.LISTEN_RASTER_SPACING_KHZ (logicalOf 0 rivalled) 0) rivalled * 1000) rivalled = [] ∧
    pageState 0x11 rivalled = RUN ∧
    mayBind (logicalOf 0 rivalled) rivalled = true ∧
    longestIdle rivalled = some 0 ∧
    Calm rivalled = true := by
  decide +kernel

def beatenDetection : State := detect 0 0 0 10000 0 0 0 false rivalled

theorem exec_rivalled :
    exec (.detection 0 0 0 10000 0 0 0) rivalled = done rivalled (settleWork rivalled beatenDetection) := rfl

/-- The detection is noted and no lane wakes. -/
theorem idle_beatenDetection : Calm beatenDetection = true ∧ (lane 0 beatenDetection).state = .idle := by decide +kernel

/-- Refutes O19: the clause of DETECTION does not leave out a rival detection of another set on the channel with a greater
metric, which keeps this one from being offered. -/
theorem not_detectionBindsALane : ¬ Obligations.DetectionBindsALane := by
  unfold Obligations.DetectionBindsALane
  rintro ⟨binds, -⟩
  obtain ⟨searches, meets, corr, unguarded, energy, floor, snr, offer, free, running, may, longest, calm⟩ := detects_rivalled
  obtain ⟨calm', idle⟩ := idle_beatenDetection
  obtain ⟨waking, -⟩ := (binds 0 0 0 10000 0 0 0 rivalled 0 channelEnergy channelEnergy searches meets corr unguarded energy
    floor snr offer free running may longest calm).of_done exec_rivalled
  have kept := (((Within.refl [] [] beatenDetection).settleWork (old := rivalled) calm').pending
    (q := rivalled.pending)).parts .lanes (by decide)
  unfold Agrees at kept
  unfold lane at waking
  rw [kept] at waking
  exact absurd (idle.symm.trans waking) (by decide)

end Sys2Proof.Machine
end

section
/-! PROOF. A FIFO that cannot drain into a full packet buffer (R183, R184): the refutation of `Obligations.LaneReception` as it is
stated. -/

namespace Sys2Proof.Machine

/-- A part in service with one lane in PAYLOAD whose octets fill the packet buffer. -/
def fullBuffer : State :=
  wr F.MGMT.START_STAGE 8
    { State.reset with boot := { held := false }, lanes := [(0, { state := .payload, octets := 6000000 })] }

theorem lane_fullBuffer : lane 0 fullBuffer = { state := .payload, octets := 6000000 } := by decide

theorem calm_fullBuffer : Calm fullBuffer = true := by decide

def undrained : State := capturePush 0 true true fullBuffer

theorem exec_fullBuffer : exec (.captureFifoPush 0 true true) fullBuffer = done fullBuffer (settleWork fullBuffer undrained) :=
  rfl

/-- The octet stays in the FIFO. -/
theorem keeps_undrained : Calm undrained = true ∧ (lane 0 undrained).fifo = 1 := by decide +kernel

/-- Refutes O20: the clause of CAPTURE_FIFO_PUSH that drains the FIFO does not leave out a full packet buffer, where it keeps
its octets. -/
theorem not_laneReception : ¬ Obligations.LaneReception := by
  unfold Obligations.LaneReception
  rintro ⟨-, -, -, -, -, -, -, push, -⟩
  obtain ⟨calm, one⟩ := keeps_undrained
  obtain ⟨-, fifo, -⟩ := (push 0 true true fullBuffer (.inl (congrArg Lane.state lane_fullBuffer))
    (by rw [show lane (0 : Fin 136).val fullBuffer = _ from lane_fullBuffer]; decide) calm_fullBuffer).of_done exec_fullBuffer
  have kept := (((Within.refl [] [] undrained).settleWork (old := fullBuffer) calm).pending
    (q := fullBuffer.pending)).parts .lanes (by decide)
  unfold Agrees at kept
  unfold lane at fifo
  rw [kept] at fifo
  exact absurd (one.symm.trans fifo) (by decide)

end Sys2Proof.Machine
end

section
/-! PROOF. The acknowledgement of one of the frames of a group (R244, R297): the refutation of
`Obligations.AcknowledgementsAndPolls` as it is stated. -/

namespace Sys2Proof.Machine

/-- An acknowledgement of sequence number 0. -/
def plainAck : Mhr :=
  { version := 1, ftype := .ack, pan := none, dst := .none, src := .none, ackReq := false, seq := 0, security := false }

/-- A frame of a group of its own that waits for it. -/
def groupedFrame : Frame := { kind := .data, length := 10, place := .ackWait, seq := some 0, group := some 7 }

/-- A part in service that has received the acknowledgement while the frame waits. -/
def groupAcked : State :=
  wr F.MGMT.START_STAGE 8
    { State.reset with
      boot := { held := false }, frames := [(1, groupedFrame)]
      lanes := [(0, { state := .ending, rx := { mhr := some plainAck } })] }

theorem lane_groupAcked : lane 0 groupAcked = { state := .ending, rx := { mhr := some plainAck } } := by decide

theorem awaiting_groupAcked : awaiting (lane (0 : Fin 136).val groupAcked).logical groupAcked = some (1, groupedFrame) := by
  decide

theorem matches_groupAcked : ackMatches (lane (0 : Fin 136).val groupAcked) plainAck groupedFrame groupAcked = true := by decide

theorem calm_groupAcked : Calm groupAcked = true := by decide

def groupEnded : State := ackVerdict 0 true true groupAcked

theorem exec_groupAcked : exec (.ackVerdict 0 true true) groupAcked = done groupAcked (settleWork groupAcked groupEnded) := rfl

/-- The ledger takes the packet's frames, which the last frame of the group ends, and not the frame itself. -/
theorem ledger_airWork_groupEnded : mirrors (airWork groupEnded) = false ∧
    (airWork groupEnded).ledger.contains (1, .okAcked) = false := by decide +kernel

/-- Refutes O24: the clause of ACK_VERDICT that gives the frame its entry in the ledger does not leave out a frame of a group,
which has none of its own. -/
theorem not_acknowledgementsAndPolls : ¬ Obligations.AcknowledgementsAndPolls := by
  unfold Obligations.AcknowledgementsAndPolls
  rintro ⟨-, -, -, acked, -⟩
  have at0 : lane (0 : Fin 136).val groupAcked = _ := lane_groupAcked
  obtain ⟨alone, none⟩ := ledger_airWork_groupEnded
  obtain ⟨-, entry, -⟩ := (acked 0 true true groupAcked plainAck 1 groupedFrame (by rw [at0]) (by rw [at0]) (by rw [at0]) rfl rfl
    rfl (fun _ => by rw [at0]; exact ⟨rfl, rfl⟩) awaiting_groupAcked matches_groupAcked calm_groupAcked).of_done exec_groupAcked
  dsimp only at entry
  rw [(follows_airWork groupAcked groupEnded alone).ledger, none] at entry
  exact absurd entry (by decide)

end Sys2Proof.Machine
end

section
/-! PROOF. A beacon with a bad FCS whose lane cannot drain its FIFO (R184): the refutation of `Obligations.Beacons` as it is
stated. -/

namespace Sys2Proof.Machine

/-- The header of a beacon. -/
def plainBeacon : Mhr :=
  { version := 2, ftype := .beacon, pan := none, dst := .none, src := .none, ackReq := false, seq := 0, security := false }

/-- A part in service with a lane in ENDING that has received a beacon, an octet of it still in its FIFO, whose octets fill the
packet buffer. -/
def undrainedBeacon : State :=
  wr F.MGMT.START_STAGE 8
    { State.reset with
      boot := { held := false }
      lanes := [(0, { state := .ending, octets := 6000000, fifo := 1, rx := { mhr := some plainBeacon } })] }

theorem lane_undrainedBeacon : lane (0 : Fin 136).val undrainedBeacon =
    { state := .ending, octets := 6000000, fifo := 1, rx := { mhr := some plainBeacon } } := by decide

theorem calm_undrainedBeacon : Calm undrainedBeacon = true := by decide

def heldBeacon : State := peerBeacon 0 false true ⟨0, 0, 0, 0⟩ [] undrainedBeacon

theorem exec_undrainedBeacon : exec (.peerBeacon 0 false true ⟨0, 0, 0, 0⟩ []) undrainedBeacon =
    done undrainedBeacon (settleWork undrainedBeacon heldBeacon) := rfl

/-- The lane waits for the packet buffer. -/
theorem waits_airWork_heldBeacon : mirrors (airWork heldBeacon) = false ∧
    (lane (0 : Fin 136).val (airWork heldBeacon)).state = .ending := by decide +kernel

/-- Refutes O25: the clause of PEER_BEACON with a bad FCS does not leave out a lane with octets in its FIFO and a full packet
buffer, which stays in ENDING until it has drained. -/
theorem not_beacons : ¬ Obligations.Beacons := by
  unfold Obligations.Beacons
  rintro ⟨-, -, -, bad, -⟩
  obtain ⟨alone, ending⟩ := waits_airWork_heldBeacon
  obtain ⟨idle, -⟩ := (bad 0 false true ⟨0, 0, 0, 0⟩ [] undrainedBeacon plainBeacon (by rw [lane_undrainedBeacon])
    (by rw [lane_undrainedBeacon]) (by rw [lane_undrainedBeacon]) rfl rfl calm_undrainedBeacon).of_done exec_undrainedBeacon
  have kept := (((Within.refl [] [] _).follows
    (follows_airWork undrainedBeacon heldBeacon alone)).pending
    (q := undrainedBeacon.pending)).parts .lanes (by decide)
  unfold Agrees at kept
  unfold lane at idle
  rw [kept] at idle
  exact absurd (ending.symm.trans idle) (by decide)

end Sys2Proof.Machine
end

section
/-! PROOF. A pending frame in deep hold (R617): the refutation of `Obligations.PacketsHandedOn` as it is stated. -/

namespace Sys2Proof.Machine

/-- A frame that has been pending since 0. -/
def longPending : Frame := { kind := .data, length := 10, place := .pending }

/-- A part in deep hold, with a frame whose time-out has passed. -/
def pendingInDeepHold : State :=
  wr F.CANARY.BIVOUAC_STATE 3 (wr F.MGMT.START_STAGE 8
    { State.reset with
      boot := { held := false, mirrored := true }, now := 1000000000000000, frames := [(1, longPending)] })

theorem due_pendingInDeepHold :
    longPending.pendedAt + rd F.FWD.PENDING_TIMEOUT pendingInDeepHold * 1000000000 ≤ pendingInDeepHold.now := by decide

theorem calm_pendingInDeepHold : Calm pendingInDeepHold = true := by decide

/-- In deep hold no frame times out. -/
theorem exec_pendingInDeepHold : exec .pendingTimeoutCheck pendingInDeepHold =
    done pendingInDeepHold (settleWork pendingInDeepHold pendingInDeepHold) := by
  have unchanged : pendingTimeouts pendingInDeepHold = pendingInDeepHold :=
    if_pos (show rd F.CANARY.BIVOUAC_STATE pendingInDeepHold = 3 by decide)
  have run : exec .pendingTimeoutCheck pendingInDeepHold =
      done pendingInDeepHold (settleWork pendingInDeepHold (pendingTimeouts pendingInDeepHold)) := rfl
  rw [run, unchanged]

/-- Refutes O28: the clause of PENDING_TIMEOUT_CHECK that ends a frame does not leave out deep hold, where it stays pending. -/
theorem not_packetsHandedOn : ¬ Obligations.PacketsHandedOn := by
  unfold Obligations.PacketsHandedOn
  rintro ⟨-, -, ends, -⟩
  obtain ⟨gone, -⟩ := (ends pendingInDeepHold 1 longPending rfl rfl rfl rfl rfl due_pendingInDeepHold
    calm_pendingInDeepHold).of_done exec_pendingInDeepHold
  have kept := (((Within.refl [] [] pendingInDeepHold).settleWork (old := pendingInDeepHold) calm_pendingInDeepHold).pending
    (q := pendingInDeepHold.pending)).parts .frames (by decide)
  unfold Agrees at kept
  rw [kept] at gone
  exact absurd gone (by decide)

end Sys2Proof.Machine
end

section
/-! PROOF. The end of a CCM job with the DDR in self-refresh (R613): the refutation of `Obligations.CcmJobs` as it is stated. -/

namespace Sys2Proof.Machine

/-- A job under a key that its slot no longer holds. -/
def staleJob : Job := { op := 1, slot := 1, gen := 5, key := [], src := 0, dst := 0, aad := 0, len := 0, tag := 0, nonce := 0 }

/-- A part in bivouac whose DDR is in self-refresh, with that job under way. -/
def restingJob : State :=
  wr F.CANARY.BIVOUAC_STATE 1 (wr F.MGMT.START_STAGE 8
    { State.reset with boot := { held := false, mirrored := true }, ccmJob := some staleJob })

theorem selfRefresh_restingJob : selfRefresh restingJob = true := by decide

theorem keyHolds_restingJob : keyHolds staleJob.slot staleJob.gen restingJob = false := by decide

theorem calm_restingJob : Calm restingJob = true := by decide

/-- The end of the job waits for the DDR. -/
theorem exec_restingJob :
    exec (.ccmJobDone false) restingJob = done restingJob (settleWork restingJob restingJob) := by
  have waits : ccmDone false restingJob = restingJob := by
    unfold ccmDone
    rw [show restingJob.ccmJob = some staleJob from rfl]
    exact if_pos selfRefresh_restingJob
  have run : exec (.ccmJobDone false) restingJob = done restingJob (settleWork restingJob (ccmDone false restingJob)) := rfl
  rw [run, waits]

/-- Refutes O34: the clause of CCM_JOB_DONE under a changed key does not leave out the DDR in self-refresh, where the job's end
waits. -/
theorem not_ccmJobs : ¬ Obligations.CcmJobs := by
  unfold Obligations.CcmJobs
  rintro ⟨-, -, -, -, changed⟩
  obtain ⟨-, ended, -⟩ := (changed false restingJob staleJob rfl keyHolds_restingJob calm_restingJob).of_done exec_restingJob
  obtain ⟨kept, -⟩ := (((Within.refl [] [] restingJob).settleWork (old := restingJob) calm_restingJob).pending
    (q := restingJob.pending)).parts .jobs (by decide)
  rw [kept] at ended
  exact absurd ended (by decide)

end Sys2Proof.Machine
end

section
/-! PROOF. The end of a public-key operation with the DDR in self-refresh (R613): the refutation of
`Obligations.PublicKeyOperations` as it is stated. -/

namespace Sys2Proof.Machine

/-- An operation whose message lies in the shared window. -/
def windowOp : PkeOp := { op := 3, slot := none, result := 1, out := [], window := true }

/-- A part in bivouac whose DDR is in self-refresh, with that operation under way. -/
def restingOp : State :=
  wr F.CANARY.BIVOUAC_STATE 1 (wr F.MGMT.START_STAGE 8
    { State.reset with boot := { held := false, mirrored := true }, pkeOp := some windowOp })

theorem selfRefresh_restingOp : (windowOp.window && selfRefresh restingOp) = true := by decide

theorem calm_restingOp : Calm restingOp = true := by decide

/-- The end of the operation waits for the DDR. -/
theorem exec_restingOp : exec (.pkeDone false false) restingOp = done restingOp (settleWork restingOp restingOp) := by
  have waits : pkeDone false false restingOp = restingOp := by
    unfold pkeDone
    rw [show restingOp.pkeOp = some windowOp from rfl]
    exact if_pos selfRefresh_restingOp
  have run : exec (.pkeDone false false) restingOp =
      done restingOp (settleWork restingOp (pkeDone false false restingOp)) := rfl
  rw [run, waits]

/-- Refutes O36: the clause of PKE_DONE does not leave out a message in the window with the DDR in self-refresh, where the
operation's end waits. -/
theorem not_publicKeyOperations : ¬ Obligations.PublicKeyOperations := by
  unfold Obligations.PublicKeyOperations
  rintro ⟨-, -, -, -, -, ends, -⟩
  obtain ⟨-, -, ended, -⟩ := (ends false false restingOp windowOp rfl (.inl rfl) rfl rfl (by decide)
    calm_restingOp).of_done exec_restingOp
  obtain ⟨-, -, kept⟩ := (((Within.refl [] [] restingOp).settleWork (old := restingOp) calm_restingOp).pending
    (q := restingOp.pending)).parts .jobs (by decide)
  rw [kept] at ended
  exact absurd ended (by decide)

end Sys2Proof.Machine
end

section
/-! PROOF. A swap of the block that serves in both places (R360): the refutation of `Obligations.RootAndPuf` as it is stated. -/

namespace Sys2Proof.Machine

/-- Helper data for which block 0 serves twice. -/
def doubledHelper : Helper :=
  { withMask := false, refresh := 0, enrolledAt := 0, block0 := 0, block1 := 0, offset := 0, pairs := 0, ks := 0, kd := 0
    kcv := 0, kcvS := 0, kcvD := 0, sram0 := 0, sram1 := 0, delay := 0, tag := 0 }

/-- A deployed part with the lock open whose root is ready. -/
def doubledBlock : State :=
  wr F.KEYS.ROOT_SEALED 0 (wr F.BAR4.TRUST_STATUS_OPEN 1 (wr F.KEYS.ROOT_READY 1 (wr F.IDENT.LIFECYCLE LC_DEPLOYED
    (wr F.KEYS.LC_STATE LC_DEPLOYED (wr (F.HEAD.STATE_STATE 0x30) RUN (wr F.MGMT.START_STAGE 8
      { State.reset with boot := { held := false }, root := { copy0 := some doubledHelper } }))))))

def cleanRead : PufRead := { sram0 := some 0, sram1 := some 0, delay := some 0 }

theorem lock_doubledBlock : lockOpen doubledBlock = true := by decide

theorem keys_doubledBlock : keysAccept doubledBlock = true := by decide

theorem mayRefresh_doubledBlock : mayRefresh doubledBlock = true := by decide

theorem sealed_doubledBlock : rd F.KEYS.ROOT_SEALED doubledBlock = 0 := by decide

theorem calm_doubledBlock : Calm doubledBlock = true := by decide

/-- Whichever copy the part reads, block 0 still serves. -/
def StillServes (s : State) : Prop := ∃ x, helper s = some x ∧ x.block1 = 0

/-- Which helper data the part reads depends on its two copies. -/
theorem StillServes.of_copies {s t : State} (h : StillServes s) (e0 : t.root.copy0 = s.root.copy0)
    (e1 : t.root.copy1 = s.root.copy1) : StillServes t := by
  unfold StillServes helper at h ⊢
  rwa [e0, e1]

theorem StillServes.root {s t : State} (h : StillServes s) (e : t.root = s.root) : StillServes t :=
  h.of_copies (by rw [e]) (by rw [e])

/-- Only block 0's helper data is stored, in copy 0. -/
def Doubled (s : State) : Prop := s.root.copy0 = some doubledHelper ∧ s.root.copy1 = none

theorem StillServes.pufResult {s : State} (h : StillServes s) (v : Nat) : StillServes (pufResult v s) := h.root rfl

theorem Doubled.helper {s : State} (h : Doubled s) : helper s = some doubledHelper := by
  obtain ⟨first, second⟩ := h
  simp [Machine.helper, first, second]

theorem Doubled.stillServes {s : State} (h : Doubled s) : StillServes s := ⟨_, h.helper, rfl⟩

theorem Doubled.of_root {s t : State} (h : Doubled s) (e : t.root = s.root) : Doubled t := by
  unfold Doubled
  rwa [e]

theorem Shows.root {P : Nat → Bool} {s t : State} (h : Shows P s t) : t.root = s.root := by
  obtain ⟨⟨_, _, _, _, _, rfl⟩, -⟩ := h
  rfl

/-- Noting a reading leaves the copies. -/
theorem Doubled.noteRead {s : State} (h : Doubled s) (x : Helper) (r : PufRead) : Doubled (noteRead x r s) := by
  unfold Machine.noteRead
  extract_lets w delay one noted
  have hn : Doubled noted := by
    unfold noted
    split
    · exact h.of_root rfl
    · exact h.of_root rfl
  split
  · exact Doubled.of_root (s := { noted with root := { noted.root with alarmAt := some noted.now } }) hn
      (shows_latch (fun _ => true) _ _ _ rfl rfl).root
  · exact hn

/-- Helper data stored in the copy that the part does not read leaves block 0 in service, where it has it in its second place. -/
theorem Doubled.writeOther {s : State} (h : Doubled s) {n : Option Helper} (serves : ∀ x, n = some x → x.block1 = 0) :
    StillServes (writeOther n s) := by
  obtain ⟨first, second⟩ := h
  unfold StillServes
  cases n with
  | none => exact ⟨doubledHelper, by simp [Machine.helper, Machine.writeOther, first, second], rfl⟩
  | some n =>
    by_cases newer : doubledHelper.refresh < n.refresh
    · exact ⟨n, by simp [Machine.helper, Machine.writeOther, first, second, newer], serves n rfl⟩
    · exact ⟨doubledHelper, by simp [Machine.helper, Machine.writeOther, first, second, newer], rfl⟩

theorem helperOf_root (ks kd b0 b1 o p r : Nat) (s : State) : (helperOf ks kd b0 b1 o p r s).2.root = s.root :=
  (frame_helperOf ks kd b0 b1 o p r s).parts .root (by decide)

theorem showHelper_root (s : State) : (showHelper s).root = s.root := (frame_showHelper s).parts .root (by decide)

theorem engaged_root (cls unit sub : Nat) (s : State) : (engaged cls unit sub s).root = s.root :=
  (frame_engaged cls unit sub s).parts .root (by decide)

/-- A swap of block 0 gives its first place to the other block only. -/
theorem stillServes_pufSwap {s : State} (may : mayRefresh s = true) (h : Doubled s) :
    StillServes (pufSwap 0 2 cleanRead false s) := by
  unfold pufSwap
  rw [if_neg (by simp [may]), h.helper]
  split
  next e => cases e
  next x e =>
  cases e
  extract_lets serves free b0 b1
  split
  · exact h.stillServes.root rfl
  rw [if_neg Bool.false_ne_true]
  split
  next n s' made =>
  extract_lets m noted other root swapped
  have after : s' = _ := (congrArg Prod.snd made).symm
  have hn : Doubled noted := Doubled.noteRead (h.of_root (after ▸ helperOf_root _ _ _ _ _ _ _ _)) _ _
  have hm : m.block1 = 0 := (congrArg (fun x => x.1.block1) made).symm
  split
  · exact StillServes.root (hn.writeOther (n := none) (by simp)) rfl
  · have hs : StillServes swapped := (hn.writeOther (n := some m) (by simpa using hm)).of_copies rfl rfl
    clear_value swapped
    exact StillServes.pufResult (hs.root ((showHelper_root _).trans (engaged_root _ _ _ _))) 1

/-- Block 0 serves in what a command that leaves the root there settles to. -/
theorem StillServes.settled {u v : State} {q : List Instr} (h : StillServes v) (e : u.root = v.root) :
    (helper { u with pending := q }).any (fun x => x.block0 == (0 : Fin 4).val || x.block1 == (0 : Fin 4).val) = true := by
  obtain ⟨x, read, second⟩ := h.root (t := { u with pending := q }) e
  rw [read, Option.any_some, second]
  simp

theorem doubled_doubledBlock : Doubled doubledBlock ∧ doubledBlock.root.blocks.testBit 2 = false := by
  unfold Doubled
  decide +kernel

theorem exec_doubledBlock : exec (.pufSwap 0 2 cleanRead false) doubledBlock =
    done doubledBlock (settleWork doubledBlock (pufSwap 0 2 cleanRead false doubledBlock)) := by
  have own : bar4Command 0x3000 (3 + 0 * 2 ^ 8 + 2 * 2 ^ 12) (pufSwap 0 2 cleanRead false) doubledBlock =
      pufSwap 0 2 cleanRead false doubledBlock := by
    unfold bar4Command
    rw [if_neg (by simp [lock_doubledBlock]), if_neg (by simp [keys_doubledBlock])]
  exact congrArg (fun u => done doubledBlock (settleWork doubledBlock u)) own

/-- Refutes O30: the clause of PUF_SWAP does not leave out helper data in which one block serves twice; the swap replaces it in
its first place only. -/
theorem not_rootAndPuf : ¬ Obligations.RootAndPuf := by
  unfold Obligations.RootAndPuf
  rintro ⟨-, -, -, -, -, swap, -⟩
  obtain ⟨stored, free⟩ := doubled_doubledBlock
  obtain ⟨-, -, -, gone, -⟩ := (swap 0 2 cleanRead false doubledBlock doubledHelper lock_doubledBlock keys_doubledBlock
    mayRefresh_doubledBlock stored.helper (.inl rfl) (by decide) (by decide) free (.inl rfl) rfl rfl
    (.inl sealed_doubledBlock) rfl calm_doubledBlock).of_done exec_doubledBlock
  have settled := (frame_settleWork doubledBlock (pufSwap 0 2 cleanRead false doubledBlock)).parts .root (by decide)
  unfold Agrees at settled
  exact Bool.false_ne_true (gone.symm.trans ((stillServes_pufSwap mayRefresh_doubledBlock stored).settled settled))

end Sys2Proof.Machine
end

section
/-! PROOF. A settings copy of two sectors over a sector that holds more than its 4,096 octets (R524, R548): the refutation of
`Obligations.InstallAndActivate` as it is stated. -/

namespace Sys2Proof.Machine

/-! ### Octets -/

theorem leNat_octetsOf (n v : Nat) : leNat (octetsOf n v) = v % 256 ^ n := by
  induction n generalizing v with
  | zero => simp [octetsOf, leNat, Nat.mod_one]
  | succ n ih => rw [octetsOf, leNat, ih, Nat.pow_succ', Nat.mod_mul]

theorem octetsOf_lt {n v b : Nat} (h : b ∈ octetsOf n v) : b < 256 := by
  induction n generalizing v with
  | zero => exact absurd h (by simp [octetsOf])
  | succ n ih =>
    rcases List.mem_cons.mp h with rfl | h
    · exact Nat.mod_lt _ (by decide)
    · exact ih h

@[simp] theorem length_octetsOf (n v : Nat) : (octetsOf n v).length = n := by
  induction n generalizing v with
  | zero => rfl
  | succ n ih => rw [octetsOf, List.length_cons, ih]

@[simp] theorem length_bytesLe (n v : Nat) : (bytesLe n v).length = n := by rw [bytesLe, List.length_map, length_octetsOf]

theorem leBytes_bytesLe (n v : Nat) : leBytes (bytesLe n v) = v % 256 ^ n := by
  have octets : (bytesLe n v).map BitVec.toNat = octetsOf n v := by
    rw [bytesLe, List.map_map]
    refine (List.map_congr_left fun b hb => ?_).trans (List.map_id _)
    simp [Nat.mod_eq_of_lt (octetsOf_lt hb)]
  rw [leBytes, octets, leNat_octetsOf]

theorem crcStep_lt {c : Nat} (h : c < 2 ^ 32) : crcStep c < 2 ^ 32 := by
  unfold crcStep
  split
  · exact Nat.xor_lt_two_pow (by omega) (by decide)
  · omega

theorem crc32_lt {l : List Nat} (h : ∀ b ∈ l, b < 256) : crc32 l < 2 ^ 32 := by
  have bound : ∀ {c : Nat}, c < 2 ^ 32 → l.foldl (fun c b =>
      crcStep (crcStep (crcStep (crcStep (crcStep (crcStep (crcStep (crcStep (c ^^^ b))))))))) c < 2 ^ 32 := by
    induction l with
    | nil => exact id
    | cons b r ih =>
      intro c hc
      have octet : b < 2 ^ 32 := (h b List.mem_cons_self).trans (by decide)
      exact ih (fun x hx => h x (List.mem_cons_of_mem _ hx))
        (crcStep_lt (crcStep_lt (crcStep_lt (crcStep_lt (crcStep_lt (crcStep_lt (crcStep_lt (crcStep_lt
          (Nat.xor_lt_two_pow hc octet)))))))))
  exact Nat.xor_lt_two_pow (bound (by decide)) (by decide)

/-- Within one of several equal entries that follow a head, the octets are those of the entry. -/
theorem take_drop_entries {h e r : List Byte} {n i j k : Nat} (hi : i < n) (hj : j + k ≤ e.length) :
    ((h ++ ((List.replicate n e).flatten ++ r)).drop (h.length + e.length * i + j)).take k = (e.drop j).take k := by
  rw [Nat.add_assoc, ← List.drop_drop, List.drop_left]
  induction i generalizing n with
  | zero =>
    obtain ⟨m, rfl⟩ : ∃ m, n = m + 1 := ⟨n - 1, by omega⟩
    rw [List.replicate_succ, List.flatten_cons, List.append_assoc, Nat.mul_zero, Nat.zero_add,
      List.drop_append_of_le_length (by omega), List.take_append_of_le_length (by rw [List.length_drop]; omega)]
  | succ i ih =>
    obtain ⟨m, rfl⟩ : ∃ m, n = m + 1 := ⟨n - 1, by omega⟩
    rw [List.replicate_succ, List.flatten_cons, List.append_assoc, Nat.mul_succ,
      show e.length * i + e.length + j = e.length + (e.length * i + j) by omega, ← List.drop_drop, List.drop_left]
    exact ih (by omega)

/-! ### A copy of two sectors -/

/-- The head of a copy of 339 entries. -/
def copyHead : List Byte := ascii "ZKST" ++ [0, 0, 0, 0, 0x53, 1, 0, 0] ++ List.replicate 20 0

/-- An entry for word 8 of page 0. -/
def copyEntry : List Byte := [0, 0, 8, 0, 0, 0, 0, 0, 0, 0, 0, 0]

def copyBody : List Byte := copyHead ++ (List.replicate 339 copyEntry).flatten

@[irreducible] def twoSectors : List Byte := copyBody ++ bytesLe 4 (crc32 (copyBody.map BitVec.toNat))

theorem length_copyBody : copyBody.length = 4100 := by
  rw [copyBody, List.length_append, List.length_flatten, List.map_replicate, List.sum_replicate]
  decide

theorem length_twoSectors : twoSectors.length = 4104 := by
  rw [twoSectors, List.length_append, length_copyBody, length_bytesLe]

theorem twoSectors_eq : twoSectors =
    copyHead ++ ((List.replicate 339 copyEntry).flatten ++ bytesLe 4 (crc32 (copyBody.map BitVec.toNat))) := by
  rw [twoSectors, copyBody, List.append_assoc]

theorem leAt_twoSectors_head {o n : Nat} (h : o + n ≤ 32) : leAt twoSectors o n = leAt copyHead o n := by
  have len : copyHead.length = 32 := by decide
  rw [twoSectors_eq, leAt, List.drop_append_of_le_length (by omega),
    List.take_append_of_le_length (by rw [List.length_drop]; omega), leAt]

theorem leAt_twoSectors_entry {i j k : Nat} (hi : i < 339) (hj : j + k ≤ 12) :
    leAt twoSectors (32 + 12 * i + j) k = leAt copyEntry j k := by
  have head : copyHead.length = 32 := by decide
  have entry : copyEntry.length = 12 := by decide
  rw [twoSectors_eq, leAt, leAt, ← head, ← entry, take_drop_entries hi (by rw [entry]; exact hj)]

theorem settingsLength_twoSectors : settingsLength twoSectors = 4104 := by
  rw [settingsLength, settingsSigned, leAt_twoSectors_head (by decide), leAt_twoSectors_head (by decide)]
  decide

theorem settingsCrc_twoSectors : settingsCrc twoSectors = true := by
  have magic : part twoSectors 0 4 = ascii "ZKST" := by
    rw [twoSectors_eq]
    rfl
  have body : part twoSectors 0 4100 = copyBody := by
    rw [twoSectors]
    exact List.take_left' length_copyBody
  have crc : leAt twoSectors 4100 4 = crc32 (copyBody.map BitVec.toNat) := by
    rw [leAt, twoSectors, List.drop_left' length_copyBody, List.take_of_length_le (by rw [length_bytesLe]),
      leBytes_bytesLe, Nat.mod_eq_of_lt]
    exact crc32_lt fun b hb => by
      obtain ⟨x, -, rfl⟩ := List.mem_map.mp hb
      exact x.isLt
  rw [settingsCrc, settingsLength_twoSectors, magic, body, crc, length_twoSectors]
  simp

theorem settingsGood_twoSectors : settingsGood twoSectors 0 = true := by
  have count : leAt twoSectors 8 4 = 339 := (leAt_twoSectors_head (by decide)).trans (by decide)
  have flags : leAt twoSectors 6 2 = 0 := (leAt_twoSectors_head (by decide)).trans (by decide)
  have reserved : leAt twoSectors 12 20 = 0 := (leAt_twoSectors_head (by decide)).trans (by decide)
  have version : leAt twoSectors 4 2 = 0 := (leAt_twoSectors_head (by decide)).trans (by decide)
  have zeros : (List.range 339).all (fun i => leAt twoSectors (33 + 12 * i) 1 == 0) = true :=
    List.all_eq_true.mpr fun i hi => by
      rw [show 33 + 12 * i = 32 + 12 * i + 1 by omega, leAt_twoSectors_entry (List.mem_range.mp hi) (by decide)]
      decide
  have entries : ∀ e ∈ entriesOf twoSectors, e = { page := 0, off := 8, mask := 0, val := 0 } := fun e he => by
    rw [entriesOf, count] at he
    obtain ⟨i, hi, rfl⟩ := List.mem_map.mp he
    have lt := List.mem_range.mp hi
    dsimp only
    rw [← Nat.add_zero (32 + 12 * i), leAt_twoSectors_entry lt (by decide)]
    simp only [Nat.add_zero]
    rw [leAt_twoSectors_entry lt (by decide), leAt_twoSectors_entry lt (by decide), leAt_twoSectors_entry lt (by decide)]
    decide
  rw [settingsGood, count, flags, reserved, version, zeros, settingsCrc_twoSectors]
  simp only [Bool.and_eq_true, List.all_eq_true]
  exact ⟨by decide, fun e he => by rw [entries e he]; decide⟩

/-! ### What a sector holds -/

theorem find?_eq_find {α : Type} (t : Tbl α) (k : Nat) : t.find? (fun x => x.1 == k) = (find t k).map (fun v => (k, v)) := by
  induction t with
  | nil => rfl
  | cons x r ih =>
    rw [List.find?_cons, find]
    by_cases h : k = x.1
    · rw [if_pos h, show (x.1 == k) = true from beq_iff_eq.mpr h.symm, h]
      rfl
    · rw [if_neg h, show (x.1 == k) = false from beq_false_of_ne (Ne.symm h), ih]

theorem sectorOctets_programSector_same (n : Nat) (v : List Byte) (s : State) : sectorOctets n (programSector n v s) = v := by
  simp [sectorOctets, programSector, find?_eq_find, rootNow, recipher]

theorem sectorOctets_programSector_ne {m n : Nat} (h : m ≠ n) (v : List Byte) (s : State) :
    sectorOctets m (programSector n v s) = sectorOctets m s := by
  simp only [sectorOctets, programSector, find?_eq_find, find_insert_ne _ _ _ _ h, look_insert_ne _ _ _ _ _ h, rootNow]

/-- What a settings copy holds follows its sectors and the root. -/
theorem sectorOctets_congr {s t : State} (sectors : t.fw.sectors = s.fw.sectors) (roots : t.fw.roots = s.fw.roots)
    (root : t.root = s.root) (n : Nat) : sectorOctets n t = sectorOctets n s := by
  simp only [sectorOctets, sectors, roots, rootNow, root]

theorem sectors_writeAct (r : ActRec) (s : State) (n : Nat) : sectorOctets n (writeAct r s) = sectorOctets n s := by
  have shown : ∀ (r : ActRec) (u : State), u.fw.sectors = s.fw.sectors → u.fw.roots = s.fw.roots → u.root = s.root →
      sectorOctets n (showAct r u) = sectorOctets n s := fun r u sectors roots root => by
    have fw : (showAct r u).fw = u.fw := (frame_showAct r u).parts .fw List.not_mem_nil
    have same : (showAct r u).root = u.root := (frame_showAct r u).parts .root List.not_mem_nil
    exact sectorOctets_congr (by rw [fw, sectors]) (by rw [fw, roots]) (same.trans root) n
  unfold writeAct
  dsimp only
  split
  · split
    · exact shown _ _ rfl rfl rfl
    · exact shown _ _ rfl rfl rfl
  all_goals exact shown _ _ rfl rfl rfl

theorem sectors_fwEnd (v : Nat) (s : State) (n : Nat) : sectorOctets n (fwEnd v s) = sectorOctets n s :=
  sectorOctets_congr rfl rfl rfl n

theorem readOctets_writeOctets (a : Nat) (l : List Byte) : readOctets (writeOctets [] a l) a l.length = l := by
  refine List.ext_getElem (by simp [readOctets]) fun i _ hi => ?_
  simp only [readOctets, List.getElem_map, List.getElem_range]
  rw [readByte_writeOctets rfl, if_pos (by omega), Nat.add_sub_cancel_left,
    List.getD_eq_getElem _ _ hi]

/-! ### The counterexample -/

/-- A part in service with a staged copy of two sectors, whose other settings copy begins with a sector of 4,097 octets. -/
def overlongSector : State :=
  wr F.FWUP.STAGE_LENGTH 4104 (wr F.SCIPHER.STATUS_FLASH_KEY 1 (wr F.MGMT.START_STAGE 8
    { State.reset with
      boot := { held := false }
      ddr := writeOctets [] 0 twoSectors
      fw := { State.reset.fw with sectors := [(0x300, List.replicate 4097 255)] } }))

theorem staged_overlongSector : staged overlongSector = twoSectors := by
  have window : winAddr (rd F.FWUP.STAGE_OFFSET overlongSector) overlongSector = 0 := by decide
  have length : rd F.FWUP.STAGE_LENGTH overlongSector = twoSectors.length := by
    rw [length_twoSectors]
    exact (rd_wr_same _ _ _).trans (by decide)
  have octets : overlongSector.ddr = writeOctets [] 0 twoSectors := rfl
  rw [staged, window, length, octets, readOctets_writeOctets]

/-- What STORE_PROFILE is asked here beyond its copy. -/
theorem accepts_overlongSector :
    Accepted 0x48 0x040 6 overlongSector ∧ pageState 0x48 overlongSector ∉ [DRAINING, TEST, FAULT, RETIRED] ∧
    rd F.FWUP.STATUS_BUSY overlongSector = 0 ∧ (actNow overlongSector) = {} ∧ rd F.FWUP.SCHEMA_ACTIVE overlongSector = 0 ∧
    rd F.FWUP.POLICY_OWNER_COSIGN overlongSector = 0 ∧ rd F.SCIPHER.STATUS_FLASH_KEY overlongSector = 1 ∧
    Calm overlongSector = true := by decide

/-- The state after the copy is stored. -/
def stored : State := fwEnd 1 (writeAct { ({} : ActRec) with settings := 1 } (writeSettings 1 twoSectors overlongSector))

theorem fwStoreProfile_overlongSector : fwStoreProfile .done overlongSector = stored := by
  obtain ⟨-, page, busy, act, schema, cosign, key, -⟩ := accepts_overlongSector
  have whole : twoSectors.take 4104 = twoSectors := List.take_of_length_le (by rw [length_twoSectors])
  simp only [fwStoreProfile, fwCommand, if_neg page, isSet, busy, act, staged_overlongSector, schema,
    settingsGood_twoSectors, settingsLength_twoSectors, cosign, key, runSectors, whole, stored, Bool.false_eq_true, bne_self_eq_false, Bool.not_true,
    Bool.not_false, Bool.true_or, Bool.false_and, Bool.or_self, if_false]
  exact if_neg (by decide)

/-- The first sector of the copy keeps the last octet of what it held. -/
theorem sectors_stored : sectorOctets 0x300 stored = part twoSectors 0 4096 ++ [255] ∧
    sectorOctets 0x301 stored = part twoSectors 4096 4096 ++ (List.replicate 4096 0).drop 8 := by
  have ended : ∀ n, sectorOctets n stored = sectorOctets n (writeSettings 1 twoSectors overlongSector) := fun n => by
    rw [stored, sectors_fwEnd, sectors_writeAct]
  have two : writeSettings 1 twoSectors overlongSector = writeSector 0x301 0 (part twoSectors 4096 4096)
      (writeSector 0x300 0 (part twoSectors 0 4096) overlongSector) := by
    rw [writeSettings, length_twoSectors]
    rfl
  have first : (part twoSectors 0 4096).length = 4096 := by
    rw [part, List.length_take, List.length_drop, length_twoSectors]
    rfl
  have second : (part twoSectors 4096 4096).length = 8 := by
    rw [part, List.length_take, List.length_drop, length_twoSectors]
    rfl
  rw [ended, ended, two, writeSector, sectorOctets_programSector_ne (by decide), sectorOctets_programSector_same, writeSector,
    sectorOctets_programSector_same, sectorOctets_programSector_ne (by decide), mergeOctets, mergeOctets, first, second]
  have old : sectorOctets 0x300 overlongSector = List.replicate 4097 255 := rfl
  have blank : sectorOctets 0x301 overlongSector = List.replicate 4096 0 := rfl
  rw [old, blank, List.take_zero, List.take_zero, List.nil_append, List.nil_append, List.drop_replicate]
  exact ⟨rfl, rfl⟩

/-- Octet 4096 of the copy, as it is read back, is the one that stayed. -/
theorem settingsCopy_stored : leAt (settingsCopy 1 stored) 4096 1 = 255 := by
  obtain ⟨first, second⟩ := sectors_stored
  have len : (part twoSectors 0 4096).length = 4096 := by
    rw [part, List.length_take, List.length_drop, length_twoSectors]
    rfl
  have field : ∀ {o n : Nat}, o + n ≤ 32 → leAt (part twoSectors 0 4096 ++ [255]) o n = leAt twoSectors o n := fun {o n} h => by
    rw [leAt, leAt, List.drop_append_of_le_length (by omega), List.take_append_of_le_length (by rw [List.length_drop]; omega),
      part, List.drop_zero, List.drop_take, List.take_take, Nat.min_eq_left (by omega)]
  have length : settingsLength (part twoSectors 0 4096 ++ [255]) = 4104 := by
    rw [← settingsLength_twoSectors, settingsLength, settingsLength, settingsSigned, settingsSigned, field (by decide),
      field (by decide)]
  have copy : settingsCopy 1 stored = ((part twoSectors 0 4096 ++ [255]) ++ (sectorOctets 0x301 stored ++ [])).take 4104 := by
    rw [settingsCopy, show settingsSector 1 = 0x300 from rfl, first, length]
    rw [← first]
    rfl
  rw [copy, leAt, List.drop_take, List.append_assoc, List.drop_left' len, List.take_take]
  rfl

theorem calm_stored : Calm stored = true := by decide +kernel

/-- Refutes O47: the clause of STORE_PROFILE reads the copy back as it was staged, where a sector of it held more than its
4,096 octets before. -/
theorem not_installAndActivate : ¬ Obligations.InstallAndActivate := by
  unfold Obligations.InstallAndActivate
  rintro ⟨-, -, -, -, -, -, store, -⟩
  obtain ⟨accepted, page, busy, act, schema, cosign, key, calm⟩ := accepts_overlongSector
  have run : exec (.fwupStoreProfile .done) overlongSector = done overlongSector (settleWork overlongSector stored) := by
    have same : regCommand 0x48 0x040 .bar0 6 (fwStoreProfile .done) overlongSector = stored :=
      (regCommand_accepted (data := 6) accepted rfl).trans fwStoreProfile_overlongSector
    rw [← same]
    rfl
  obtain ⟨-, -, copied, -⟩ := (store .done overlongSector accepted page busy (by rw [act])
    (by rw [schema, staged_overlongSector]; exact settingsGood_twoSectors) cosign key rfl calm).of_done run
  have frame := ((Within.refl [] [] stored).settleWork (old := overlongSector) calm_stored).pending
    (q := overlongSector.pending)
  have fw := frame.parts .fw (by decide)
  have root := frame.parts .root (by decide)
  unfold Agrees at fw root
  have same : ∀ n, sectorOctets n { settleWork overlongSector stored with pending := overlongSector.pending } =
      sectorOctets n stored := sectorOctets_congr (congrArg Firmware.sectors fw) (congrArg Firmware.roots fw) root
  have back : leAt twoSectors 4096 1 = 0 := (leAt_twoSectors_entry (i := 338) (j := 8) (by decide) (by decide)).trans (by decide)
  rw [act, staged_overlongSector, settingsLength_twoSectors, List.take_of_length_le (Nat.le_of_eq length_twoSectors),
    settingsCopy] at copied
  simp only [same] at copied
  have octet := settingsCopy_stored
  rw [settingsCopy, copied, back] at octet
  exact absurd octet (by decide)

end Sys2Proof.Machine
end

section
/-! PROOF. A symbol frame that takes the number of the one that ends (R563, R589): the refutation of `Obligations.Switchover` as it
is stated. -/

namespace Sys2Proof.Machine

/-- A queued symbol frame of campaign 0 that has been sent once. -/
def retriedSymbol : Frame := { kind := .symbol 0, length := 0, attempts := 1 }

/-- A part in service whose first front end may send on 865 MHz. -/
def permittedPart : State :=
  let s := wr (F.HEAD.STATE_STATE 0x24) RUN (wr (F.HEAD.STATE_STATE 0x08) RUN (wr F.MGMT.START_STAGE 8
    { State.reset with boot := { held := false }, fes := [(0, { centre := 865000000 })] }))
  [(1, 0x100), (4, 863000), (5, 870000), (6, 865000), (7, 200 + 2 ^ 16 + 2 ^ 24), (8, 100), (9, 1000), (12, 1)].foldl
    (fun s x => wr (F.REGLOCK.PROFILE x.1) x.2 s) (wr F.REGLOCK.STATUS_VALID 1 s)

/-- An active member in poor health, with a ready standby, that disseminates in an open window; the number of the frame that waits
is the next one. -/
def disseminatingMember : State :=
  let s := wr F.ROPE.GIVE_UP_MASK 0x3FF (wr F.ROPE.LINK_ATTACHED 1 (wr F.ROPE.ROLE_STATE ACTIVE permittedPart))
  let s := wr (F.DISSEM.C_CFG_MODE 0) 0x10 (wr (F.DISSEM.C_CHANNEL_HZ 0 0) 865000000
    (wr (F.DISSEM.C_WIN_SYMBOLS 0) 9 (wr (F.DISSEM.C_STATUS_STATE 0) C_RUNNING s)))
  { s with
    rope := { s.rope with pRole := STANDBY }
    campaigns := [(0, { windows := [{ fe := 0, start := 0, isOpen := true }] })]
    frames := [(0, retriedSymbol)], nextFrame := 0 }

theorem leads_disseminatingMember : ropeRole disseminatingMember = ACTIVE ∧
    ropeHealth disseminatingMember &&& rd F.ROPE.GIVE_UP_MASK disseminatingMember ≠ 0 ∧
    partnerReady disseminatingMember = true := by decide

def givenUp : State := giveUp disseminatingMember

theorem exec_disseminatingMember :
    exec .giveUpTimer disseminatingMember = done disseminatingMember (settleWork disseminatingMember givenUp) := rfl

/-- The window takes a symbol in place of the one that ended, under its number. -/
theorem replaces_givenUp : mirrors (airWork givenUp) = false ∧ (frame? 0 (airWork givenUp)).isNone = false := by
  decide +kernel

/-- Refutes O52: the clause of GIVE_UP_TIMER has no frame under the number of one that ended, where the next number is that
of a waiting frame. -/
theorem not_switchover : ¬ Obligations.Switchover := by
  unfold Obligations.Switchover
  rintro ⟨giveUp, -⟩
  obtain ⟨active, poor, ready⟩ := leads_disseminatingMember
  obtain ⟨quiet, new⟩ := replaces_givenUp
  obtain ⟨-, -, -, gone, -⟩ := (giveUp disseminatingMember active poor ready).of_done exec_disseminatingMember
  have ended := List.all_eq_true.mp gone (0, retriedSymbol) List.mem_cons_self
  have kept := (((Within.refl [] [] (airWork givenUp)).follows
    (follows_airWork disseminatingMember givenUp quiet)).pending (q := disseminatingMember.pending)).parts .frames (by decide)
  unfold Agrees at kept
  unfold frame? at ended new
  rw [kept] at ended
  rw [new] at ended
  exact absurd ended (by decide)

end Sys2Proof.Machine
end

section
/-! PROOF. The management ports (R91 to R95): what each of their commands leaves, for `Obligations.ManagementPorts`. -/

namespace Sys2Proof.Machine

/-! ### General-purpose I/O -/

/-- A bit that is put into a register of its width shows there. -/
theorem testBit_orBits_two_pow {f : Field} {b : Nat} (h : b < f.width) (s : State) :
    (rd f (orBits f (2 ^ b) s)).testBit b = true := by
  rw [rd_orBits_same, Nat.testBit_mod_two_pow, Nat.testBit_or, Nat.testBit_two_pow_self]
  simp [h]

/-- A bit that is taken out of a register does not show there. -/
theorem testBit_clearBits_two_pow (f : Field) (b : Nat) (s : State) :
    (rd f (clearBits f (2 ^ b) s)).testBit b = false := by
  rw [clearBits, rd_wr_same, Nat.testBit_mod_two_pow, testBit_sub_and_two_pow, Bool.and_false]

theorem rd_showEdges_ne {f : Field} (msg : f.key ≠ F.EVT.MSG_COUNT.key) (latch : f.key ≠ (F.HEAD.EVT_LATCH 0x4E).key)
    (raw : f.key ≠ (F.HEAD.EVT_RAW 0x4E).key) (s : State) : rd f (showEdges s) = rd f s := by
  unfold showEdges
  split
  · exact rd_wr_ne _ _ _ _ raw
  · split
    · rfl
    · exact rd_raise_ne _ _ _ _ msg latch raw

/-- An edge that is kept is the live condition of its event (R93). -/
theorem rawSet_showEdges {s : State} (h : rd F.MGMT.GPIO_EDGE s ≠ 0) : rawSet 0x4E 1 (showEdges s) = true := by
  unfold showEdges
  rw [if_neg h]
  split
  · assumption
  · exact raise_shows _ _ _ (by decide)

/-- GPIO_IN with the level of a ball. -/
def levelShown (b : Nat) (level : Bool) (s : State) : State :=
  if level then orBits F.MGMT.GPIO_IN (2 ^ b) s else clearBits F.MGMT.GPIO_IN (2 ^ b) s

theorem testBit_levelShown {b : Nat} (h : b < 16) (level : Bool) (s : State) :
    (rd F.MGMT.GPIO_IN (levelShown b level s)).testBit b = level := by
  cases level with
  | true => exact testBit_orBits_two_pow h s
  | false => exact testBit_clearBits_two_pow _ _ _

theorem rd_levelShown_ne {f : Field} (h : f.key ≠ F.MGMT.GPIO_IN.key) (b : Nat) (level : Bool) (s : State) :
    rd f (levelShown b level s) = rd f s := by
  cases level <;> exact rd_wr_ne _ _ _ _ h

theorem gpioInput_levelShown (b c : Nat) (level : Bool) (s : State) : gpioInput c (levelShown b level s) = gpioInput c s := by
  simp only [gpioInput, sfpBall, isSet, rd_levelShown_ne (f := F.MGMT.GPIO_DIR) (by decide),
    rd_levelShown_ne (f := F.ETH.SFP_CFG_ENABLE 0) (by decide), rd_levelShown_ne (f := F.ETH.SFP_CFG_ENABLE 1) (by decide)]

/-- Whether the edge to a level of a ball is enabled. -/
def edgeEnabled (b : Nat) (level : Bool) (s : State) : Bool :=
  (rd (if level then F.MGMT.GPIO_EDGE_EN_RISE else F.MGMT.GPIO_EDGE_EN_FALL) s).testBit b

/-- What an edge does to a ball that is an input: it shows the level, and an enabled edge is kept. -/
theorem gpioEdge_of_input {b : Nat} {s : State} (h : gpioInput b s = true) (level : Bool) :
    gpioEdge b level s =
      if (rd F.MGMT.GPIO_IN s).testBit b ≠ level ∧ edgeEnabled b level s = true then
        showEdges (orBits F.MGMT.GPIO_EDGE (2 ^ b) (levelShown b level s))
      else levelShown b level s := by
  have port : (gpioDriven b s || sfpBall b s) = false := by
    rw [gpioInput, Bool.and_eq_true, Bool.not_eq_true', Bool.not_eq_true'] at h
    rw [gpioDriven, h.1, h.2]
    rfl
  have same : gpioInput b (levelShown b level s) = true := (gpioInput_levelShown b b level s).trans h
  cases level <;> simp only [levelShown, Bool.false_eq_true, if_false, if_true] at same <;>
    simp only [gpioEdge, port, same, levelShown, edgeEnabled, Bool.false_eq_true, if_false, if_true, true_and]

/-- A ball that is no input keeps its level. -/
theorem gpioEdge_of_not_input {b : Nat} {s : State} (h : gpioInput b s = false) (level : Bool) : gpioEdge b level s = s := by
  refine if_pos ?_
  rw [gpioDriven]
  rw [gpioInput] at h
  cases hd : (rd F.MGMT.GPIO_DIR s).testBit b <;> cases hp : sfpBall b s <;> simp_all

theorem gpioEdge_shows {b : Nat} (hb : b < 16) (level : Bool) (s : State) :
    (rd F.MGMT.GPIO_IN (gpioEdge b level s)).testBit b =
      if gpioInput b s then level else (rd F.MGMT.GPIO_IN s).testBit b := by
  cases h : gpioInput b s with
  | false => rw [gpioEdge_of_not_input h, if_neg (by decide)]
  | true =>
    rw [gpioEdge_of_input h, if_pos rfl]
    split
    · rw [rd_showEdges_ne (by decide) (by decide) (by decide), orBits, rd_wr_ne _ _ _ _ (by decide)]
      exact testBit_levelShown hb level s
    · exact testBit_levelShown hb level s

theorem gpioEdge_keeps_edge {b : Nat} (hb : b < 16) {level : Bool} {s : State} (turn : (rd F.MGMT.GPIO_IN s).testBit b = !level)
    (input : gpioInput b s = true) (enabled : edgeEnabled b level s = true) :
    (rd F.MGMT.GPIO_EDGE (gpioEdge b level s)).testBit b = true ∧ rawSet 0x4E 1 (gpioEdge b level s) = true := by
  have ne : (rd F.MGMT.GPIO_IN s).testBit b ≠ level := by
    rw [turn]
    cases level <;> decide
  have kept := testBit_orBits_two_pow (f := F.MGMT.GPIO_EDGE) hb (levelShown b level s)
  rw [gpioEdge_of_input input, if_pos ⟨ne, enabled⟩]
  refine ⟨?_, rawSet_showEdges fun zero => ?_⟩
  · rw [rd_showEdges_ne (by decide) (by decide) (by decide)]
    exact kept
  · rw [zero, Nat.zero_testBit] at kept
    exact absurd kept (by decide)

/-! ### I2C1 -/

/-- A transaction of I2C1 ends with its result and I2C1_DONE (R94). -/
theorem i2cEnd_shows {result : Nat} (h : result < 4) (s : State) :
    (i2cEnd result s).i2c.running = none ∧ rd F.MGMT.I2C1_STATUS_BUSY (i2cEnd result s) = 0 ∧
      rd F.MGMT.I2C1_STATUS_RESULT (i2cEnd result s) = result ∧ eventLatched 0x4E 2 (i2cEnd result s) := by
  unfold i2cEnd
  refine ⟨?_, ?_, ?_, latch_sets _ _ _ (by decide)⟩
  · have kept := ((Within.refl [.word 0x4E 0x014] [] (wr F.MGMT.I2C1_STATUS_RESULT result
      (wr F.MGMT.I2C1_STATUS_BUSY 0 { s with i2c := { running := none } }))).latch (pg := 0x4E) (bit := 2)
      (by decide)).parts .i2c (by decide)
    exact congrArg I2c.running kept
  · rw [rd_latch_ne _ _ _ _ (by decide) (by decide), rd_wr_ne _ _ _ _ (by decide), rd_wr_same]
    rfl
  · rw [rd_latch_ne _ _ _ _ (by decide) (by decide), rd_wr_same]
    exact Nat.mod_eq_of_lt (h.trans_le (by decide))

/-! ### The statement -/

theorem gives_jtagDrive {c : Instr} {i : JtagInstr} {s : State} (h : exec c s = done s (jtagDrive i s)) :
    Gives c s (fun t =>
      t.jtag.instr = (if lifecycle s = LC_MANUFACTURE ∨ rd F.MGMT.START_STAGE s = 15 then i else .bypass) ∧
      Within [] [.jtag] s t) := by
  refine gives_done h ⟨?_, (frame_jtagDrive i s).pending⟩
  show (if scanDrives s then i else JtagInstr.bypass) = _
  refine if_congr ?_ rfl rfl
  rw [scanDrives, inCampNow, Bool.or_eq_true, beq_iff_eq, beq_iff_eq]

theorem spiEnd_of_cut {s : State} (active : s.spi.active = true) (writing : s.spi.writing = true) {bits : Nat}
    (cut : bits % 32 ≠ 0) :
    (spiEnd bits s).spi.active = false ∧ (spiEnd bits s).spi.partialWord = true ∧ (spiEnd bits s).spi.rejected = true := by
  have own : (s.spi.active && s.spi.writing && bits % 32 != 0) = true := by
    rw [active, writing, bne_iff_ne.mpr cut]
    rfl
  simp only [spiEnd, own, if_true]
  split
  · exact ⟨rfl, rfl, rfl⟩
  · have kept := (frame_spiDiscard { s with spi :=
      { s.spi with active := false, writing := false, partialWord := true, rejected := true } }).parts .spi (by decide)
    exact ⟨congrArg Spi.active kept, congrArg Spi.partialWord kept, congrArg Spi.rejected kept⟩

/-- Settles O14, port by port: each command ends in the state of its own definition, without waiting work. -/
theorem managementPorts : Obligations.ManagementPorts := by
  unfold Obligations.ManagementPorts
  refine ⟨?_, ?_, ?_, ?_, ?_, ?_, ?_, ?_, ?_, ?_, ?_, ?_, ?_, ?_, ?_, ?_⟩
  · exact fun mode3 s => gives_done rfl ⟨rfl, rfl, rfl, rfl, (frame_spiStatus mode3 s).pending⟩
  · exact fun mode3 s => gives_done (t := wr F.MGMT.SPI_STATUS_QUAD 1 (spiBegin mode3 false s)) rfl
      ⟨(rd_pending _ _ _).trans (rd_wr_same _ _ _), (frame_quadOn mode3 s).pending⟩
  · exact fun mode3 s => gives_done (t := wr F.MGMT.SPI_STATUS_QUAD 0 (spiBegin mode3 false s)) rfl
      ⟨(rd_pending _ _ _).trans (rd_wr_same _ _ _), (frame_quadOff mode3 s).pending⟩
  · intro bits s active writing cut
    obtain ⟨idle, part, rejected⟩ := spiEnd_of_cut active writing cut
    exact gives_done rfl ⟨idle, part, rejected, (frame_spiEnd bits s).pending⟩
  · intro bits s reading
    have whole : spiEnd bits s = { s with spi := { s.spi with active := false, writing := false } } := by
      simp only [spiEnd, reading, Bool.and_false, Bool.false_and, Bool.false_eq_true, if_false]
    refine gives_done rfl ⟨?_, ?_, (frame_spiEnd bits s).pending⟩
    · show (spiEnd bits s).spi.active = false
      rw [whole]
    · show (spiEnd bits s).spi.partialWord = s.spi.partialWord
      rw [whole]
  · exact fun ball level s => gives_done rfl ⟨gpioEdge_shows ball.isLt level s,
      gpioEdge_keeps_edge ball.isLt, (frame_gpioEdge ball.val level s).pending⟩
  · intro route data s reserved idle
    have starts : i2cCmd route data s = wr F.MGMT.I2C1_STATUS_BUSY 1 { s with i2c := { running := some data.toNat } } := by
      rw [i2cCmd, if_neg (not_not.mpr reserved), isSet, idle]
      rfl
    have run : exec (.i2c1Cmd route data) s = done s (i2cCmd route data s) := rfl
    rw [starts] at run
    exact gives_done run ⟨rfl, (rd_pending _ _ _).trans (rd_wr_same _ _ _),
      (((Within.refl _ _ s).set_i2c (by decide)).wr (by decide)).pending⟩
  · intro nack octet s running
    obtain ⟨w, hw⟩ := Option.isSome_iff_exists.mp running
    obtain ⟨u, ends⟩ : ∃ u, i2cDone nack octet s = i2cEnd (if nack then 2 else 1) u := by
      rw [i2cDone, hw]
      cases nack <;> exact ⟨_, rfl⟩
    obtain ⟨none, idle, result, event⟩ := i2cEnd_shows (result := if nack then 2 else 1) (by cases nack <;> decide) u
    rw [← ends] at none idle result event
    exact gives_done rfl ⟨none, idle, result, event, (frame_i2cDone nack octet s).pending⟩
  · intro s running
    have ends : i2cTimeout s = i2cEnd 3 s := if_pos running
    obtain ⟨none, -, result, event⟩ := i2cEnd_shows (result := 3) (by decide) s
    rw [← ends] at none result event
    exact gives_done rfl ⟨none, result, event, (frame_i2cTimeout s).pending⟩
  · exact fun s => gives_jtagDrive rfl
  · exact fun s => gives_jtagDrive rfl
  · exact fun s => gives_jtagDrive rfl
  · exact fun boundary s => gives_done rfl ⟨rfl, rfl, (frame_jtagLoad boundary s).pending⟩
  · exact fun s => gives_done rfl ⟨rfl, (frame_jtagSelect _ s).pending⟩
  · exact fun s => gives_done rfl ⟨rfl, (frame_jtagSelect _ s).pending⟩
  · exact fun s => gives_done rfl ⟨rfl, (frame_jtagReset s).pending⟩

end Sys2Proof.Machine
end

section
/-! PROOF. SCIPHER jobs (R407, R408): what their start and their end leave, for `Obligations.StorageCipherJobs`. -/

namespace Sys2Proof.Machine

/-! ### The start -/

/-- The job of the JOB registers under slot `x`. -/
def sciJobOf (op x : Nat) (s : State) : Job :=
  { op, slot := x, gen := (slot x s).gen, key := (slot x s).key, src := rd F.SCIPHER.JOB_SRC s
    dst := rd F.SCIPHER.JOB_DST s, aad := 2 ^ rd F.SCIPHER.JOB_DU_LOG2 s, len := rd F.SCIPHER.JOB_LENGTH s, tag := 0
    nonce := leBytes (regOctets F.SCIPHER.JOB_IV 4 s) }

/-- The state in which the job of the JOB registers has started. -/
def sciStarted (op x : Nat) (s : State) : State :=
  wr F.SCIPHER.JOB_STATUS_BUSY 1 { (useSlot x HOST_NORMAL STORAGE s).2 with sciJob := some (sciJobOf op x s) }

/-- When a job starts (R408): its length fits, the life cycle lets the operation, and the slot is one of the storage cipher. -/
theorem sciGo_starts {op x : Nat} {s : State}
    (length : sciLengthGood op (rd F.SCIPHER.JOB_LENGTH s) (2 ^ rd F.SCIPHER.JOB_DU_LOG2 s) = true)
    (life : 3 ≤ op → lifecycle s = LC_RECOVERY) (page : pageState 0x32 s = RUN) (idle : rd F.SCIPHER.JOB_STATUS_BUSY s = 0)
    (hx : rd F.SCIPHER.JOB_SLOT s = x) (alg : (slot x s).alg = 2) (use : (useSlot x HOST_NORMAL STORAGE s).1 = .ok) :
    sciGo op s = sciStarted op x s := by
  have legal : ¬(3 ≤ op ∧ lifecycle s ≠ LC_RECOVERY) := fun h => h.2 (life h.1)
  simp only [sciGo, length, jobGo, page, isSet, idle, hx, alg, use, if_neg legal, Bool.not_true, Bool.false_eq_true, if_false,
    ne_eq, not_true, bne_self_eq_false]
  rfl

/-- The registers and parts that a start changes. -/
theorem frame_sciStarted (op x : Nat) (s : State) :
    Within [.word 0x32 0x0A8] [.jobs, .slots] s (sciStarted op x s) :=
  (((frame_useSlot x HOST_NORMAL STORAGE s).mono (by simp) (by simp)).set_sciJob (by decide)).wr (by decide)

theorem gives_sciStarted {c : Instr} {op x : Nat} {s : State}
    (run : exec c s = done s (settleWork s (regWrite 0x32 0x0A4 .bar0 (BitVec.ofNat 32 op) s)))
    (accepted : Accepted 0x32 0x0A4 (BitVec.ofNat 32 op).toNat s)
    (word : wordCommand 0x32 0x0A4 .bar0 (BitVec.ofNat 32 op) = some (sciGo op))
    (length : sciLengthGood op (rd F.SCIPHER.JOB_LENGTH s) (2 ^ rd F.SCIPHER.JOB_DU_LOG2 s) = true)
    (life : 3 ≤ op → lifecycle s = LC_RECOVERY) (page : pageState 0x32 s = RUN) (idle : rd F.SCIPHER.JOB_STATUS_BUSY s = 0)
    (hx : rd F.SCIPHER.JOB_SLOT s = x) (alg : (slot x s).alg = 2) (use : (useSlot x HOST_NORMAL STORAGE s).1 = .ok)
    (calm : Calm s = true) :
    Gives c s (fun t =>
      rd F.SCIPHER.JOB_STATUS_BUSY t = 1 ∧
      t.sciJob.map (fun j => (j.op, j.slot, j.gen, j.src, j.dst, j.len)) =
        some (op, x, (slot x s).gen, rd F.SCIPHER.JOB_SRC s, rd F.SCIPHER.JOB_DST s, rd F.SCIPHER.JOB_LENGTH s) ∧
      Within [.word 0x32 0x020, .word 0x32 0x024, .word 0x32 0x028, .word 0x32 0x014, .word 0x32 0x0A8, .word 0x4C 0x014,
        .word 0x4C 0x050, .word 0x4C 0x04C, .word 0x4C 0x048, .word 0x4C 0x044] [.spi, .jobs, .notices, .slots] s t) := by
  rw [regWrite_accepted accepted word (by decide) (by decide) (by decide),
    sciGo_starts length life page idle hx alg use] at run
  have frame := frame_sciStarted op x s
  refine gives_calm run ((frame.calm (by decide) (by decide)).trans calm) fun t ht => ⟨?_, ?_, ?_⟩
  · rw [ht.regs _ (by decide) (by decide)]
    exact rd_wr_same _ _ _
  · have jobs : t.sciJob = (sciStarted op x s).sciJob := (ht.parts .jobs List.not_mem_nil).2.1
    rw [jobs]
    rfl
  · exact ((frame.mono (List.all_eq_true.mp (by decide)) (by decide)).then ht (by decide) (by decide))

/-! ### The end -/

/-- A job of SCIPHER ends with its result, and the data stays (R408). -/
theorem sciEnd_shows {result : Nat} (h : result < 16) (s : State) :
    rd F.SCIPHER.JOB_STATUS_RESULT (sciEnd result s) = result ∧ rd F.SCIPHER.JOB_STATUS_BUSY (sciEnd result s) = 0 ∧
      (sciEnd result s).sciJob = none ∧ eventLatched 0x32 1 (sciEnd result s) ∧ (sciEnd result s).ddr = s.ddr := by
  have ddr : (sciEnd result s).ddr = s.ddr := (frame_sciEnd result s).parts .ddr (by decide)
  unfold sciEnd
  extract_lets u
  have notice := frame_pushNotice 7 1 (latch 0x32 1 u)
  have event : Within [.word 0x32 0x014] [] u (latch 0x32 1 u) := (Within.refl _ _ u).latch (by decide)
  refine ⟨?_, ?_, ?_, ?_, ddr⟩
  · rw [notice.regs _ (by decide) (by decide), event.regs _ (by decide) (by decide), rd_wr_ne _ _ _ _ (by decide), rd_wr_same]
    exact Nat.mod_eq_of_lt h
  · rw [notice.regs _ (by decide) (by decide), event.regs _ (by decide) (by decide)]
    exact rd_wr_same _ _ _
  · exact (notice.parts .jobs (by decide)).2.1.trans (event.parts .jobs (by decide)).2.1
  · exact (notice.latched (by decide) (by decide)).mpr (latch_sets _ _ _ (by decide))

/-- What a job leaves in DDR that ends in RUN with its key and its data (R408). -/
theorem sciDone_done {j : Job} {s : State} (job : s.sciJob = some j) (key : keyHolds j.slot j.gen s = true)
    (fault : j.fault = false) (refresh : selfRefresh s = false) (up : ddrUp s = true)
    (apart : j.src = j.dst ∨ rangesMeet j.src j.len j.dst j.len = false) :
    sciDone false s = sciEnd JR_DONE { s with
      ddr := writeOctets s.ddr (winAddr j.dst s) (bytesLe j.len (storageCipher j.op
        (if j.op ≤ 2 then kdf j.key "ZK XTS" [] 512 else j.key) (bytesLe 16 j.nonce) j.aad
        (readOctets s.ddr (winAddr j.src s) j.len))) } := by
  have whole : ¬(j.src ≠ j.dst ∧ rangesMeet j.src j.len j.dst j.len = true) := fun h =>
    apart.elim h.1 fun no => absurd (no.symm.trans h.2) (by decide)
  simp only [sciDone, job, refresh, key, fault, up, if_neg whole, Bool.not_true, Bool.or_self, Bool.false_eq_true, if_false]

/-- Settles O35: every SCIPHER command starts the job of the JOB registers in the same way (`gives_sciStarted`), and a job
that ends with its key writes its output at DST (`sciDone_done`). -/
theorem storageCipherJobs : Obligations.StorageCipherJobs := by
  unfold Obligations.StorageCipherJobs
  refine ⟨?_, ?_, ?_, ?_, ?_, ?_, ?_, ?_⟩
  · exact fun s x acc len page idle hx alg use calm =>
      gives_sciStarted (op := 1) rfl acc rfl len (fun h => absurd h (by decide)) page idle hx alg use calm
  · exact fun s x acc len page idle hx alg use calm =>
      gives_sciStarted (op := 2) rfl acc rfl len (fun h => absurd h (by decide)) page idle hx alg use calm
  · exact fun s x acc len life page idle hx alg use calm =>
      gives_sciStarted (op := 3) rfl acc rfl len (fun _ => life) page idle hx alg use calm
  · exact fun s x acc len life page idle hx alg use calm =>
      gives_sciStarted (op := 4) rfl acc rfl len (fun _ => life) page idle hx alg use calm
  · exact fun s x acc len life page idle hx alg use calm =>
      gives_sciStarted (op := 5) rfl acc rfl len (fun _ => life) page idle hx alg use calm
  · exact fun s x acc len life page idle hx alg use calm =>
      gives_sciStarted (op := 6) rfl acc rfl len (fun _ => life) page idle hx alg use calm
  · exact fun s x acc len life page idle hx alg use calm =>
      gives_sciStarted (op := 7) rfl acc rfl len (fun _ => life) page idle hx alg use calm
  · rintro _ s j job key fault rfl refresh up apart calm
    have frame := frame_sciDone false s
    have ends := sciDone_done job key fault refresh up apart
    refine gives_calm (u := sciDone false s) rfl ((frame.calm (by decide) (by decide)).trans calm) fun t ht => ?_
    rw [ends] at frame ht
    obtain ⟨result, idle, gone, event, ddr⟩ := sciEnd_shows (result := JR_DONE) (by decide) { s with
      ddr := writeOctets s.ddr (winAddr j.dst s) (bytesLe j.len (storageCipher j.op
        (if j.op ≤ 2 then kdf j.key "ZK XTS" [] 512 else j.key) (bytesLe 16 j.nonce) j.aad
        (readOctets s.ddr (winAddr j.src s) j.len))) }
    refine ⟨?_, ?_, ?_, ?_, ?_, ?_⟩
    · rw [ht.regs _ (by decide) (by decide), result]
    · rw [ht.regs _ (by decide) (by decide), idle]
    · exact (ht.parts .jobs List.not_mem_nil).2.1.trans gone
    · exact (ht.latched rfl (by decide)).mpr event
    · exact Eq.trans (ht.parts .ddr List.not_mem_nil) ddr
    · exact ((frame.mono (List.all_eq_true.mp (by decide)) (by decide)).then ht (by decide) (by decide))

end Sys2Proof.Machine
end

section
/-! PROOF. A register write over either route that passes every check (R76, R91): it runs the command of its word, between
what MGMT SPI does to the count of rejected writes. -/

namespace Sys2Proof.Machine

/-- A command over either route works on a state with another REJECT_COUNT at most, and MGMT SPI may then mark the write as
rejected. -/
theorem routed_around {pg : Nat} (count : inScopes [.word pg 0x020, .word pg 0x028] (F.HEAD.REJECT_COUNT pg).key = true)
    (addr : inScopes [.word pg 0x020, .word pg 0x028] (F.HEAD.REJECT_ADDR_ROUTE pg).key = true) (rt : Route)
    (op : State → State) (s : State) :
    ∃ u, Within [.word pg 0x020, .word pg 0x028] [] s u ∧
      Within [.word pg 0x020, .word pg 0x028] [.spi] (op u) (routed pg rt op s) := by
  cases rt with
  | bar0 => exact ⟨s, Within.refl _ _ s, Within.refl _ _ (op s)⟩
  | mgmtSpi =>
    refine ⟨_, (Within.refl _ _ s).wr (v := min (rd (F.HEAD.REJECT_COUNT pg) s) 65534) count, ?_⟩
    simp only [routed]
    split
    · exact ((Within.refl _ _ _).set_spi (by decide)).wr addr
    · split
      · exact (Within.refl _ _ _).wr count
      · exact Within.refl _ _ _

/-- A write that passes every check runs the command of its word. -/
theorem regWrite_routed {pg off : Nat} {rt : Route} {data : Word} {op : State → State} {s : State}
    (reach : reaches pg rt = true) (h : refusal pg off rt data.toNat s = none)
    (word : wordCommand pg off rt data = some op) (ctrl : off ≠ 0x008) (force : off ≠ 0x01C) :
    regWrite pg off rt data s = routed pg rt op s := by
  simp only [regWrite, if_neg ctrl, if_neg force, regCommand, reach, h, word, Bool.not_true, Bool.false_eq_true, if_false]

/-- A write that reaches its page runs the command of its word, or is rejected. -/
theorem regWrite_cases {pg off : Nat} {rt : Route} {data : Word} {op : State → State} {s : State}
    (reach : reaches pg rt = true) (word : wordCommand pg off rt data = some op) (ctrl : off ≠ 0x008)
    (force : off ≠ 0x01C) :
    regWrite pg off rt data s = routed pg rt op s ∨ ∃ why, regWrite pg off rt data s = reject pg off rt why data s := by
  simp only [regWrite, if_neg ctrl, if_neg force, regCommand, reach, word, Bool.not_true, Bool.false_eq_true, if_false]
  split
  · exact .inr ⟨_, rfl⟩
  · exact .inl rfl

end Sys2Proof.Machine
end

section
/-! PROOF. Device time and mesh time (R449 to R461): reads, steps, the increment and holdover, for
`Obligations.TimeReadsAndSteps`. -/

namespace Sys2Proof.Machine

/-! ### The increment -/

/-- An increment within its limits takes effect (R449, R453). -/
theorem incrHiWrite_within {rt : Route} {data : Word} {s : State} (two : data.toNat < 4)
    (low : 9995 * 2 ^ 32 ≤ (data.toNat * 2 ^ 32 + rd F.TIME.INCR_LO s) * 10000)
    (high : (data.toNat * 2 ^ 32 + rd F.TIME.INCR_LO s) * 10000 ≤ 10005 * 2 ^ 32) :
    incrHiWrite rt data s = steered (modClock (fun c => { c with incr := data.toNat * 2 ^ 32 + rd F.TIME.INCR_LO s })
      (wr F.TIME.INCR_HI data.toNat s)) := by
  unfold incrHiWrite
  rw [Nat.mod_eq_of_lt two]
  dsimp only
  rw [if_neg (by omega), if_neg (by omega)]

/-- Steering ends holdover (R453). -/
theorem rd_holdover_steered (s : State) : rd F.TIME.STATUS_HOLDOVER (steered s) = 0 := by
  show rd F.TIME.STATUS_HOLDOVER (wr F.TIME.STATUS_HOLDOVER 0 s) = 0
  exact rd_wr_same _ _ _

/-- An increment above its limit is rejected. -/
theorem incrHiWrite_above {rt : Route} {data : Word} {s : State} (two : data.toNat < 4)
    (high : 10005 * 2 ^ 32 < (data.toNat * 2 ^ 32 + rd F.TIME.INCR_LO s) * 10000) :
    incrHiWrite rt data s = reject 0x3C 0x044 rt .range data s := by
  unfold incrHiWrite
  rw [Nat.mod_eq_of_lt two]
  exact if_pos (.inr high)

/-- The command of a word of page TIME that lets every check pass works between what MGMT SPI does to the count of rejected
writes. -/
theorem routed_time (rt : Route) (op : State → State) (s : State) :
    ∃ u, Within [.word 0x3C 0x020, .word 0x3C 0x028] [] s u ∧
      Within [.word 0x3C 0x020, .word 0x3C 0x028] [.spi] (op u) (routed 0x3C rt op s) :=
  routed_around (by decide) (by decide) rt op s

/-- A write of INCR_HI above its limit only shows as rejected, whether a check or the command rejects it (R449). -/
theorem frame_incrHi_rejected {route : Route} {data : Word} {s : State} (reach : reaches 0x3C route = true)
    (two : data.toNat < 4) (high : 10005 * 2 ^ 32 < (data.toNat * 2 ^ 32 + rd F.TIME.INCR_LO s) * 10000) :
    Within [.word 0x3C 0x020, .word 0x3C 0x024, .word 0x3C 0x028, .word 0x3C 0x014] [.spi] s
      (regWrite 0x3C 0x044 route data s) := by
  have rejected : ∀ why u, Within [.word 0x3C 0x020, .word 0x3C 0x024, .word 0x3C 0x028, .word 0x3C 0x014] [.spi] u
      (reject 0x3C 0x044 route why data u) := fun why u =>
    (frame_reject 0x3C 0x044 route why data u).mono (List.all_eq_true.mp (by decide)) (by decide)
  rcases regWrite_cases (data := data) (off := 0x044) (s := s) reach rfl (by decide) (by decide) with run | ⟨why, run⟩
  · obtain ⟨u, before, after⟩ := routed_time route (incrHiWrite route data) s
    have lo : rd F.TIME.INCR_LO u = rd F.TIME.INCR_LO s := before.regs _ (by decide) (by decide)
    rw [run]
    rw [incrHiWrite_above two (by rw [lo]; exact high)] at after
    exact ((before.mono (List.all_eq_true.mp (by decide)) (by decide)).then (rejected .range u) (by decide) (by decide)).then
      after (by decide) (by decide)
  · rw [run]
    exact rejected why s

/-! ### Steps -/

/-- What a step of device time leaves (R454, R455). -/
theorem stepTime_shows (d : Nat) (hold : Bool) (s : State) :
    (stepTime d hold s).clock.device = d ∧ rd F.TIME.STATUS_UNSET (stepTime d hold s) = 0 ∧
      rd F.TIME.STATUS_COARSE (stepTime d hold s) = rd F.TIME.STATUS_COARSE s ∧
      rd F.TIME.STEPS (stepTime d hold s) = (rd F.TIME.STEPS s + 1) % 2 ^ 32 ∧ eventLatched 0x3C 3 (stepTime d hold s) := by
  unfold stepTime
  extract_lets old before set free held last
  have device : held.clock.device = d := by
    have one : free.clock.device = d := by
      unfold free
      split <;> rfl
    unfold held
    split
    · exact one
    · exact one
  have frame : Within [.word 0x1A 0x0C8, .word 0x3C 0x0B8, .word 0x3C 0x0B0, .word 0x3C 0x0B4] [.clock] s held := by
    have moved : Within [.word 0x1A 0x0C8, .word 0x3C 0x0B8, .word 0x3C 0x0B0, .word 0x3C 0x0B4] [.clock] s set :=
      (Within.refl _ _ s).set_clock (by decide)
    have ran : Within [.word 0x1A 0x0C8, .word 0x3C 0x0B8, .word 0x3C 0x0B0, .word 0x3C 0x0B4] [.clock] s free :=
      .ite ((moved.wr (by decide)).then (frame_dropRate _) (by decide) (by decide)) moved
    exact .ite (ran.then (frame_setOffset _ _) (by decide) (by decide)) ran
  have shown : ∀ f : Field, f.key ≠ F.EVT.MSG_COUNT.key → f.key ≠ (F.HEAD.EVT_LATCH 0x3C).key →
      rd f (latch 0x3C 3 (wr F.TIME.STATUS_RESTORED 0 (wr F.TIME.STATUS_UNSET 0 (steered last)))) =
        rd f (wr F.TIME.STATUS_RESTORED 0 (wr F.TIME.STATUS_UNSET 0 (steered last))) := fun f => rd_latch_ne f 0x3C 3 _
  have steer := frame_steered last
  refine ⟨?_, ?_, ?_, ?_, latch_sets _ _ _ (by decide)⟩
  · have kept := ((Within.refl [.word 0x3C 0x014] [] (wr F.TIME.STATUS_RESTORED 0 (wr F.TIME.STATUS_UNSET 0
      (steered last)))).latch (pg := 0x3C) (bit := 3) (by decide)).parts .clock (by decide)
    exact (congrArg Clock.device kept).trans device
  · rw [shown _ (by decide) (by decide), rd_wr_ne _ _ _ _ (by decide)]
    exact rd_wr_same _ _ _
  · rw [shown _ (by decide) (by decide), rd_wr_ne _ _ _ _ (by decide), rd_wr_ne _ _ _ _ (by decide)]
    show rd F.TIME.STATUS_COARSE (wr F.TIME.STATUS_HOLDOVER 0 last) = _
    unfold last
    rw [rd_wr_ne _ _ _ _ (by decide), wrInt, inc, rd_wr_ne _ _ _ _ (by decide), rd_wr_ne _ _ _ _ (by decide), frame.regs _ (by decide) (by decide)]
  · rw [shown _ (by decide) (by decide), rd_wr_ne _ _ _ _ (by decide), rd_wr_ne _ _ _ _ (by decide),
      steer.regs _ (by decide) (by decide)]
    unfold last
    rw [wrInt, inc, rd_wr_ne _ _ _ _ (by decide), rd_wr_same, frame.regs _ (by decide) (by decide)]
    rfl

/-- A step over either route: where the command steps device time to what `d` gives of the registers and the clock. -/
theorem gives_step {c : Instr} {route : Route} {op : State → State} {d : Nat} {coarse : Nat → Nat} {s : State}
    (run : exec c s = done s (routed 0x3C route op s)) (free : stepOutstanding s = false)
    (step : ∀ u, (∀ f ∈ [F.TIME.SET0, F.TIME.SET1, F.TIME.SET2, F.TIME.SET3, F.TIME.ADJ_NS], rd f u = rd f s) →
      u.clock = s.clock → stepOutstanding u = false → (op u).clock.device = d ∧ rd F.TIME.STATUS_UNSET (op u) = 0 ∧
        rd F.TIME.STATUS_COARSE (op u) = coarse (rd F.TIME.STATUS_COARSE u) ∧
        rd F.TIME.STEPS (op u) = (rd F.TIME.STEPS u + 1) % 2 ^ 32 ∧ eventLatched 0x3C 3 (op u))
    (frame : ∀ u, Within [.page 0x3C, .word 0x1A 0x0C8, .word 0x1A 0x014] [.spi, .clock] u (op u)) :
    Gives c s (fun t =>
      t.clock.device = d ∧ rd F.TIME.STATUS_UNSET t = 0 ∧
      rd F.TIME.STATUS_COARSE t = coarse (rd F.TIME.STATUS_COARSE s) ∧
      rd F.TIME.STEPS t = (rd F.TIME.STEPS s + 1) % 2 ^ 32 ∧ eventLatched 0x3C 3 t ∧
      Within [.page 0x3C, .word 0x1A 0x0C8, .word 0x1A 0x014] [.spi, .clock] s t) := by
  obtain ⟨u, before, after⟩ := routed_time route op s
  have clock : u.clock = s.clock := before.parts .clock (by decide)
  have now : u.now = s.now := before.parts .now (by decide)
  have kept : ∀ f ∈ [F.TIME.SET0, F.TIME.SET1, F.TIME.SET2, F.TIME.SET3, F.TIME.ADJ_NS], rd f u = rd f s := fun f hf => by
    have apart : ∀ f ∈ [F.TIME.SET0, F.TIME.SET1, F.TIME.SET2, F.TIME.SET3, F.TIME.ADJ_NS], followKey f.key = false ∧
      inScopes [.word 0x3C 0x020, .word 0x3C 0x028] f.key = false := by decide
    exact before.regs f (apart f hf).1 (apart f hf).2
  have still : stepOutstanding u = false := by
    rw [← free, stepOutstanding, stepOutstanding, clock, now]
  obtain ⟨device, unset, coarse, steps, event⟩ := step u kept clock still
  refine gives_done run ⟨?_, ?_, ?_, ?_, ?_, ?_⟩
  · exact (congrArg Clock.device (after.parts .clock (by decide))).trans device
  · rw [rd_pending, after.regs _ (by decide) (by decide), unset]
  · rw [rd_pending, after.regs _ (by decide) (by decide), coarse, before.regs _ (by decide) (by decide)]
  · rw [rd_pending, after.regs _ (by decide) (by decide), steps, before.regs _ (by decide) (by decide)]
  · exact (after.pending.latched (by decide) (by decide)).mpr event
  · exact (((before.mono (List.all_eq_true.mp (by decide)) (by decide)).then (frame u) (by decide) (by decide)).then after
      (by decide) (by decide)).pending

theorem gives_timeSet {route : Route} {meshHold : Bool} {s : State} (reach : reaches 0x3C route = true)
    (accepted : refusal 0x3C 0x06C route (if meshHold then 0x101 else 1) s = none) (free : stepOutstanding s = false) :
    Gives (.timeSet route meshHold) s (fun t =>
      t.clock.device = ((rd F.TIME.SET2 s + rd F.TIME.SET3 s * 2 ^ 32) * 1000000000 + rd F.TIME.SET1 s) * 2 ^ 32 +
        rd F.TIME.SET0 s * 2 ^ 16 ∧
      rd F.TIME.STATUS_UNSET t = 0 ∧ rd F.TIME.STATUS_COARSE t = 0 ∧
      rd F.TIME.STEPS t = (rd F.TIME.STEPS s + 1) % 2 ^ 32 ∧ eventLatched 0x3C 3 t ∧
      Within [.page 0x3C, .word 0x1A 0x0C8, .word 0x1A 0x014] [.spi, .clock] s t) := by
  have run : exec (.timeSet route meshHold) s = done s (routed 0x3C route (timeSet route meshHold) s) := by
    rw [← regWrite_routed (off := 0x06C) (data := if meshHold then 0x101 else 0x001) reach
      (by cases meshHold <;> exact accepted) (by cases meshHold <;> rfl) (by decide) (by decide)]
    rfl
  refine gives_step (coarse := fun _ => 0) run free (fun u kept clock still => ?_) fun u => ?_
  · have own : timeSet route meshHold u = wr F.TIME.STATUS_COARSE 0 (stepTime (((rd F.TIME.SET2 u + rd F.TIME.SET3 u * 2 ^ 32)
        * 1000000000 + rd F.TIME.SET1 u) * 2 ^ 32 + rd F.TIME.SET0 u * 2 ^ 16) meshHold u) := by
      rw [timeSet, still]
      rfl
    obtain ⟨device, unset, -, steps, event⟩ := stepTime_shows (((rd F.TIME.SET2 u + rd F.TIME.SET3 u * 2 ^ 32)
      * 1000000000 + rd F.TIME.SET1 u) * 2 ^ 32 + rd F.TIME.SET0 u * 2 ^ 16) meshHold u
    rw [own]
    refine ⟨?_, ?_, rd_wr_same _ _ _, ?_, ?_⟩
    · refine Eq.trans device ?_
      rw [kept _ (by decide), kept _ (by decide), kept _ (by decide), kept _ (by decide)]
    · rw [rd_wr_ne _ _ _ _ (by decide), unset]
    · rw [rd_wr_ne _ _ _ _ (by decide), steps]
    · rw [eventLatched, rd_wr_ne _ _ _ _ (by decide)]
      exact event
  · exact (frame_timeSet route meshHold u).mono (List.all_eq_true.mp (by decide)) (by decide)

theorem gives_timeAdjust {route : Route} {meshHold : Bool} {s : State} (reach : reaches 0x3C route = true)
    (accepted : refusal 0x3C 0x06C route (if meshHold then 0x102 else 2) s = none) (free : stepOutstanding s = false) :
    Gives (.timeAdjust route meshHold) s (fun t =>
      t.clock.device = (((s.clock.device : Int) + rdInt F.TIME.ADJ_NS s * 2 ^ 32) % (deviceSpan : Int)).toNat ∧
      rd F.TIME.STATUS_UNSET t = 0 ∧ rd F.TIME.STATUS_COARSE t = rd F.TIME.STATUS_COARSE s ∧
      rd F.TIME.STEPS t = (rd F.TIME.STEPS s + 1) % 2 ^ 32 ∧ eventLatched 0x3C 3 t ∧
      Within [.page 0x3C, .word 0x1A 0x0C8, .word 0x1A 0x014] [.spi, .clock] s t) := by
  have run : exec (.timeAdjust route meshHold) s = done s (routed 0x3C route (timeAdjust route meshHold) s) := by
    rw [← regWrite_routed (off := 0x06C) (data := if meshHold then 0x102 else 0x002) reach
      (by cases meshHold <;> exact accepted) (by cases meshHold <;> rfl) (by decide) (by decide)]
    rfl
  refine gives_step (coarse := fun v => v) run free (fun u kept clock still => ?_) fun u => ?_
  · have own : timeAdjust route meshHold u =
        stepTime (((s.clock.device : Int) + rdInt F.TIME.ADJ_NS s * 2 ^ 32) % (deviceSpan : Int)).toNat meshHold u := by
      rw [timeAdjust, still, clock, rdInt, kept _ (by decide)]
      rfl
    rw [own]
    exact stepTime_shows _ meshHold u
  · exact (frame_timeAdjust route meshHold u).mono (List.all_eq_true.mp (by decide)) (by decide)

theorem gives_holdover {s : State} (set : rd F.TIME.STATUS_UNSET s = 0) (steered : rd F.TIME.STATUS_HOLDOVER s = 0) :
    Gives .holdover s (fun t =>
      rd F.TIME.STATUS_HOLDOVER t = 1 ∧ eventLatched 0x3C 2 t ∧ Within [.word 0x3C 0x014, .word 0x3C 0x070] [] s t) := by
  have runs : holdover s = latch 0x3C 2 (wr F.TIME.STATUS_HOLDOVER 1 s) := if_neg (by simp [isSet, set, steered])
  refine gives_done (t := holdover s) rfl ⟨?_, ?_, (frame_holdover s).pending⟩
  · rw [rd_pending, runs, rd_latch_ne _ _ _ _ (by decide) (by decide)]
    exact rd_wr_same _ _ _
  · rw [eventLatched, rd_pending, runs]
    exact latch_sets _ _ _ (by decide)

theorem gives_setOffset {c : Instr} {v : Int} {s : State} (run : exec c s = done s (setOffset v s)) :
    Gives c s (fun t => t.clock.offset = v ∧ t.clock.device = s.clock.device ∧
      Within [.word 0x3C 0x0B0, .word 0x3C 0x0B4] [.clock] s t) :=
  gives_done (t := setOffset v s) run ⟨rfl, rfl, (frame_setOffset v s).pending⟩

theorem exec_meshOffsetWrite {data : Word} {s : State} (accepted : Accepted 0x3C 0x0B4 data.toNat s) :
    exec (.meshOffsetWrite data) s =
      done s (setOffset (toInt 64 (rd F.TIME.MESH_OFFSET_LO s + data.toNat * 2 ^ 32)) s) :=
  congrArg (done s) (regWrite_accepted (op := meshOffsetWrite data) accepted rfl (by decide) (by decide) (by decide))

/-! ### Reads -/

theorem toNat_word {v : Nat} (h : v < 2 ^ 16) : (BitVec.ofNat 32 v).toNat = v :=
  (BitVec.toNat_ofNat _ _).trans (Nat.mod_eq_of_lt (h.trans (by decide)))

theorem gives_timeNowRead (s : State) :
    Gives .timeNowRead s (fun t =>
      t.readData.toNat = s.clock.device / 2 ^ 16 % 2 ^ 16 ∧
      rd F.TIME.NOW1 t = s.clock.device / 2 ^ 32 % 1000000000 ∧
      rd F.TIME.NOW2 t = s.clock.device / 2 ^ 32 / 1000000000 % 2 ^ 32 ∧
      rd F.TIME.NOW3 t = s.clock.device / 2 ^ 32 / 1000000000 / 2 ^ 32 % 2 ^ 16 ∧
      Within [.word 0x3C 0x048, .word 0x3C 0x04C, .word 0x3C 0x050, .word 0x3C 0x054] [.readData] s t) := by
  refine gives_done (t := timeNowRead s) rfl ⟨?_, ?_, ?_, ?_, (frame_timeNowRead s).pending⟩
  · exact toNat_word (Nat.mod_lt _ (by decide))
  · show rd F.TIME.NOW1 (wr F.TIME.NOW0 _ (wr F.TIME.NOW1 _ _)) = _
    rw [rd_wr_ne _ _ _ _ (by decide), rd_wr_same]
    exact Nat.mod_eq_of_lt ((Nat.mod_lt _ (by decide)).trans (by decide))
  · show rd F.TIME.NOW2 (wr F.TIME.NOW0 _ (wr F.TIME.NOW1 _ (wr F.TIME.NOW2 _ _))) = _
    rw [rd_wr_ne _ _ _ _ (by decide), rd_wr_ne _ _ _ _ (by decide), rd_wr_same]
    exact Nat.mod_mod _ _
  · show rd F.TIME.NOW3 (wr F.TIME.NOW0 _ (wr F.TIME.NOW1 _ (wr F.TIME.NOW2 _ (wr F.TIME.NOW3 _ _)))) = _
    rw [rd_wr_ne _ _ _ _ (by decide), rd_wr_ne _ _ _ _ (by decide), rd_wr_ne _ _ _ _ (by decide), rd_wr_same]
    exact Nat.mod_mod _ _

theorem gives_meshNowRead (s : State) :
    Gives .meshNowRead s (fun t =>
      t.readData.toNat = (meshFine s % 2 ^ 80).toNat % 2 ^ 16 ∧
      rd F.TIME.MESH_NOW1 t = (meshFine s % 2 ^ 80).toNat / 2 ^ 16 % 2 ^ 32 ∧
      rd F.TIME.MESH_NOW2 t = (meshFine s % 2 ^ 80).toNat / 2 ^ 48 % 2 ^ 32 ∧
      Within [.word 0x3C 0x0CC, .word 0x3C 0x0D0, .word 0x3C 0x0D4] [.readData] s t) := by
  have frame := frame_meshNowRead s
  have run : exec .meshNowRead s = done s (meshNowRead s) := rfl
  unfold meshNowRead at frame run
  generalize (meshFine s % 2 ^ 80).toNat = m at frame run ⊢
  refine gives_done run ⟨?_, ?_, ?_, frame.pending⟩
  · exact toNat_word (Nat.mod_lt _ (by decide))
  · show rd F.TIME.MESH_NOW1 (wr F.TIME.MESH_NOW0 _ (wr F.TIME.MESH_NOW1 _ _)) = _
    rw [rd_wr_ne _ _ _ _ (by decide), rd_wr_same]
    rfl
  · show rd F.TIME.MESH_NOW2 (wr F.TIME.MESH_NOW0 _ (wr F.TIME.MESH_NOW1 _ (wr F.TIME.MESH_NOW2 _ _))) = _
    rw [rd_wr_ne _ _ _ _ (by decide), rd_wr_ne _ _ _ _ (by decide), rd_wr_same]
    rfl

theorem gives_ppsTsRead (s : State) :
    Gives .ppsInTsRead s (fun t =>
      t.readData.toNat = s.clock.ppsStamp / 2 ^ 16 % 2 ^ 16 ∧
      rd F.TIME.PPS_IN_TS1 t = s.clock.ppsStamp / 2 ^ 32 % 1000000000 ∧
      rd F.TIME.PPS_IN_TS2 t = s.clock.ppsStamp / 2 ^ 32 / 1000000000 % 2 ^ 32 ∧
      Within [.word 0x3C 0x084, .word 0x3C 0x088, .word 0x3C 0x08C, .word 0x3C 0x090] [.readData] s t) := by
  refine gives_done (t := ppsTsRead s) rfl ⟨?_, ?_, ?_, (frame_ppsTsRead s).pending⟩
  · exact toNat_word (Nat.mod_lt _ (by decide))
  · show rd F.TIME.PPS_IN_TS1 (wr F.TIME.PPS_IN_TS0 _ (wr F.TIME.PPS_IN_TS1 _ _)) = _
    rw [rd_wr_ne _ _ _ _ (by decide), rd_wr_same]
    exact Nat.mod_eq_of_lt ((Nat.mod_lt _ (by decide)).trans (by decide))
  · show rd F.TIME.PPS_IN_TS2 (wr F.TIME.PPS_IN_TS0 _ (wr F.TIME.PPS_IN_TS1 _ (wr F.TIME.PPS_IN_TS2 _ _))) = _
    rw [rd_wr_ne _ _ _ _ (by decide), rd_wr_ne _ _ _ _ (by decide), rd_wr_same]
    exact Nat.mod_mod _ _

theorem gives_incrHi_within {route : Route} {data : Word} {s : State} (reach : reaches 0x3C route = true)
    (accepted : refusal 0x3C 0x044 route data.toNat s = none) (two : data.toNat < 4)
    (low : 9995 * 2 ^ 32 ≤ (data.toNat * 2 ^ 32 + rd F.TIME.INCR_LO s) * 10000)
    (high : (data.toNat * 2 ^ 32 + rd F.TIME.INCR_LO s) * 10000 ≤ 10005 * 2 ^ 32) :
    Gives (.incrHiWrite route data) s (fun t =>
      t.clock.incr = data.toNat * 2 ^ 32 + rd F.TIME.INCR_LO s ∧ rd F.TIME.INCR_HI t = data.toNat ∧
      rd F.TIME.STATUS_HOLDOVER t = 0 ∧ t.clock.device = s.clock.device ∧
      Within [.word 0x3C 0x020, .word 0x3C 0x024, .word 0x3C 0x028, .word 0x3C 0x014, .word 0x3C 0x070, .word 0x3C 0x044]
        [.spi, .clock] s t) := by
  obtain ⟨u, before, after⟩ := routed_time route (incrHiWrite route data) s
  have lo : rd F.TIME.INCR_LO u = rd F.TIME.INCR_LO s := before.regs _ (by decide) (by decide)
  have clock : u.clock = s.clock := before.parts .clock (by decide)
  have frame := frame_incrHiWrite route data u
  have own := incrHiWrite_within (rt := route) (s := u) two (by rw [lo]; exact low) (by rw [lo]; exact high)
  have run : exec (.incrHiWrite route data) s = done s (routed 0x3C route (incrHiWrite route data) s) := by
    rw [← regWrite_routed reach accepted (by rfl) (by decide) (by decide)]
    rfl
  have same : (routed 0x3C route (incrHiWrite route data) s).clock = (incrHiWrite route data u).clock :=
    after.parts .clock (by decide)
  refine gives_done run ⟨?_, ?_, ?_, ?_, ?_⟩
  · show (routed 0x3C route (incrHiWrite route data) s).clock.incr = _
    rw [same, own, ← lo]
    rfl
  · rw [rd_pending, after.regs _ (by decide) (by decide), own]
    show rd F.TIME.INCR_HI (wr F.TIME.STATUS_HOLDOVER 0 (wr F.TIME.INCR_HI data.toNat u)) = _
    rw [rd_wr_ne _ _ _ _ (by decide), rd_wr_same]
    exact Nat.mod_eq_of_lt two
  · rw [rd_pending, after.regs _ (by decide) (by decide), own, rd_holdover_steered]
  · show (routed 0x3C route (incrHiWrite route data) s).clock.device = _
    rw [same, own, ← clock]
    rfl
  · exact (((before.mono (List.all_eq_true.mp (by decide)) (by decide)).then frame (by decide) (by decide)).then after
      (by decide) (by decide)).pending

theorem gives_incrHi_above {route : Route} {data : Word} {s : State} (reach : reaches 0x3C route = true)
    (two : data.toNat < 4) (high : 10005 * 2 ^ 32 < (data.toNat * 2 ^ 32 + rd F.TIME.INCR_LO s) * 10000) :
    Gives (.incrHiWrite route data) s (fun t =>
      t.clock = s.clock ∧ rd F.TIME.INCR_HI t = rd F.TIME.INCR_HI s ∧
      rd F.TIME.STATUS_HOLDOVER t = rd F.TIME.STATUS_HOLDOVER s ∧
      Within [.word 0x3C 0x020, .word 0x3C 0x024, .word 0x3C 0x028, .word 0x3C 0x014, .word 0x3C 0x070, .word 0x3C 0x044]
        [.spi, .clock] s t) := by
  have frame := frame_incrHi_rejected reach two high
  exact gives_done rfl ⟨frame.parts .clock (by decide), frame.regs _ (by decide) (by decide),
    frame.regs _ (by decide) (by decide), (frame.mono (List.all_eq_true.mp (by decide)) (by decide)).pending⟩

/-- Settles O40: the increment and the steps go over either route (`routed_time`), the reads latch the words of their time,
and a step shows as `stepTime_shows` says. -/
theorem timeReadsAndSteps : Obligations.TimeReadsAndSteps := by
  unfold Obligations.TimeReadsAndSteps
  refine ⟨?_, ?_, gives_timeNowRead, gives_meshNowRead, gives_ppsTsRead, ?_, ?_, ?_, ?_⟩
  · exact fun _ _ _ reach accepted two low high => gives_incrHi_within reach accepted two low high
  · exact fun _ _ _ reach two high => gives_incrHi_above reach two high
  · exact fun _ _ _ reach accepted free => gives_timeSet reach accepted free
  · intro route meshHold s reach accepted free
    obtain ⟨t, run, device, rest⟩ := gives_timeAdjust reach accepted free
    refine ⟨t, run, ?_, rest⟩
    rw [device]
    exact Int.toNat_of_nonneg (Int.emod_nonneg _ (by decide))
  · exact fun _ set steered => gives_holdover set steered
  · exact fun _ _ accepted => gives_setOffset (exec_meshOffsetWrite accepted)

end Sys2Proof.Machine
end

section
/-! PROOF. Transmit slots (R487, R494, R495): a slot passed, poisoned and taken, for `Obligations.TransmitSlots`. -/

namespace Sys2Proof.Machine

/-! ### The registers of a ring -/

/-- What the taking of a slot reads of a ring. -/
def ringReads (r : Nat) : List Field :=
  [F.RINGS.RING_TALLY_OFF r, F.RINGS.RING_SIZE r, F.RINGS.RING_BASE r, F.RINGS.RING_CFG_KIND r]

/-- Where a ring stands, and its packets. -/
def ringMoves (r : Nat) : List Field := [F.RINGS.RING_POS_NEXT r, F.RINGS.RING_POS_LAP r, F.RINGS.PACKETS r]

/-- Where the level of a ring, and what waits for it, shows. -/
def ringShows (r : Nat) : List Field :=
  [F.RINGS.RING_LEVEL r, F.RINGS.RING_LEVEL_LATCH r, F.RINGS.PEAK r, F.RINGS.WAITING r, F.EVT.MSG_COUNT, F.HEAD.EVT_LATCH 0x41]

theorem ringReads_apart (ri : Fin 32) : ∀ f ∈ ringReads ri.val, ∀ g ∈ ringMoves ri.val ++ ringShows ri.val, f.key ≠ g.key := by
  revert ri
  decide

theorem ringMoves_apart (ri : Fin 32) : ∀ f ∈ ringMoves ri.val, ∀ g ∈ ringShows ri.val, f.key ≠ g.key := by
  revert ri
  decide

/-- None of them is a register of the notices or of page TALLY, or follows other state. -/
theorem ringFields_here (ri : Fin 32) : ∀ f ∈ ringReads ri.val ++ ringMoves ri.val, followKey f.key = false ∧
    inScopes [.word 0x4C 0x014, .word 0x4C 0x050, .word 0x4C 0x04C, .word 0x4C 0x048, .word 0x4C 0x044] f.key = false ∧
    inScopes [.word 0x42 0x04C, .word 0x42 0x014, .word 0x42 0x048] f.key = false := by
  revert ri
  decide

theorem rd_refreshLevel {r : Nat} {f : Field} (apart : ∀ g ∈ ringShows r, f.key ≠ g.key) (s : State) :
    rd f (refreshLevel r s) = rd f s := by
  have level := apart (F.RINGS.RING_LEVEL r) (by simp [ringShows])
  have latched := apart (F.RINGS.RING_LEVEL_LATCH r) (by simp [ringShows])
  have top := apart (F.RINGS.PEAK r) (by simp [ringShows])
  have count := apart F.EVT.MSG_COUNT (by simp [ringShows])
  have event := apart (F.HEAD.EVT_LATCH 0x41) (by simp [ringShows])
  unfold refreshLevel
  split
  · rfl
  · extract_lets old v h t
    have shown : rd f t = rd f s := (rd_wr_ne _ _ _ _ top).trans (rd_wr_ne _ _ _ _ level)
    split
    · exact (rd_latch_ne _ _ _ _ count event).trans ((rd_wr_ne _ _ _ _ latched).trans shown)
    · exact shown

theorem rd_advanceRing_ne {r : Nat} {f : Field} (next : f.key ≠ (F.RINGS.RING_POS_NEXT r).key)
    (lap : f.key ≠ (F.RINGS.RING_POS_LAP r).key) (n : Nat) (s : State) : rd f (advanceRing r n s) = rd f s :=
  (rd_wr_ne _ _ _ _ next).trans (rd_wr_ne _ _ _ _ lap)

/-- The ring moves on by `n` slots. -/
theorem rd_next_advanceRing (r n : Nat) (s : State) : rd (F.RINGS.RING_POS_NEXT r) (advanceRing r n s) =
    (rd (F.RINGS.RING_POS_NEXT r) s + n) % ringSize r s % 2 ^ 16 := rd_wr_same _ _ _

/-- A transmit ring that is served. -/
structure Serves (r : Nat) (s : State) : Prop where
  transmit : 16 ≤ r
  run      : pageState 0x41 s = RUN
  enabled  : rd (F.RINGS.RING_CFG_ENABLE r) s = 1

theorem Serves.not_barred {r : Nat} {s : State} (h : Serves r s) :
    ¬(r < 16 ∨ pageState 0x41 s ≠ RUN ∨ (!isSet (F.RINGS.RING_CFG_ENABLE r) s) = true) := by
  obtain ⟨transmit, run, enabled⟩ := h
  rintro (low | stopped | off)
  · omega
  · exact stopped run
  · rw [isSet, enabled] at off
    exact absurd off (by decide)

/-! ### A POISON slot is passed -/

theorem txSlotTake_poison {r : Nat} {s : State} (serves : Serves r s)
    (poison : tally r (rd (F.RINGS.RING_POS_NEXT r) s) s % 4 = T_POISON) : txSlotTake r .none s = advanceRing r 1 s := by
  unfold txSlotTake
  dsimp only
  rw [if_neg serves.not_barred, if_neg (by decide), if_pos poison]

/-! ### A slot of another pass is poisoned -/

theorem txSlotTake_pass {r : Nat} {s : State} (serves : Serves r s)
    (device : tally r (rd (F.RINGS.RING_POS_NEXT r) s) s % 4 = T_DEVICE)
    (held : slotHeld r (rd (F.RINGS.RING_POS_NEXT r) s) s = false)
    (pass : tally r (rd (F.RINGS.RING_POS_NEXT r) s) s / 4 ≠ rd (F.RINGS.RING_POS_LAP r) s) :
    txSlotTake r .none s = poisonSlots r 1 1 s := by
  unfold txSlotTake
  dsimp only
  rw [if_neg serves.not_barred, if_neg (by decide), if_neg (by rw [device]; decide), if_neg (by simp [device, held]),
    if_pos pass]

/-- The state in which slot `i` of ring `r` is poisoned for its pass, before the notice and the move of the ring. -/
def poisoned (r i : Nat) (s : State) : State :=
  latch 0x42 0 (inc F.TALLY.POISONED (wr F.TALLY.POISON_LAST_RING r (wr F.TALLY.POISON_LAST_SLOT i
    (wr F.TALLY.POISON_LAST_CAUSE 1 (setTally r i T_POISON (rd (F.RINGS.RING_POS_LAP r) s % 64) s)))))

theorem poisonSlots_one {r : Nat} {s : State} (inside : rd (F.RINGS.RING_POS_NEXT r) s < ringSize r s) :
    poisonSlots r 1 1 s = refreshLevel r (advanceRing r 1
      (slotNotice 4 r (rd (F.RINGS.RING_POS_NEXT r) s) (poisoned r (rd (F.RINGS.RING_POS_NEXT r) s) s))) := by
  have span : ringSpan r 1 s = [(rd (F.RINGS.RING_POS_NEXT r) s, rd (F.RINGS.RING_POS_LAP r) s % 64)] := by
    show [((rd (F.RINGS.RING_POS_NEXT r) s + 0) % ringSize r s,
      (rd (F.RINGS.RING_POS_LAP r) s + (rd (F.RINGS.RING_POS_NEXT r) s + 0) / ringSize r s) % 64)] = _
    rw [Nat.add_zero, Nat.mod_eq_of_lt inside, Nat.div_eq_of_lt inside, Nat.add_zero]
  rw [poisonSlots, span]
  rfl

theorem frame_poisoned (r i : Nat) (s : State) :
    Within [.word 0x42 0x04C, .word 0x42 0x014, .word 0x42 0x048] [.ddr] s (poisoned r i s) :=
  ((((((frame_setTally r i T_POISON _ s).mono (by simp) (by simp)).wr (by decide)).wr (by decide)).wr (by decide)).inc
    (by decide)).latch (by decide)

/-- What a poisoned slot shows on page TALLY and in its tally octet (R487, R495). -/
theorem poisoned_shows (r i : Nat) (s : State) (formed : MemoryFormed s) :
    rd F.TALLY.POISONED (poisoned r i s) = (rd F.TALLY.POISONED s + 1) % 2 ^ 32 ∧
      rd F.TALLY.POISON_LAST_CAUSE (poisoned r i s) = 1 ∧ eventLatched 0x42 0 (poisoned r i s) ∧
      (readByte (poisoned r i s).ddr (winAddr (tallyOff r i s) s)).toNat % 4 = T_POISON := by
  unfold poisoned
  refine ⟨?_, ?_, latch_sets _ _ _ (by decide), ?_⟩
  · rw [rd_latch_ne _ _ _ _ (by decide) (by decide), inc, rd_wr_same, rd_wr_ne _ _ _ _ (by decide),
      rd_wr_ne _ _ _ _ (by decide), rd_wr_ne _ _ _ _ (by decide)]
    rfl
  · rw [rd_latch_ne _ _ _ _ (by decide) (by decide), inc, rd_wr_ne _ _ _ _ (by decide), rd_wr_ne _ _ _ _ (by decide),
      rd_wr_ne _ _ _ _ (by decide), rd_wr_same]
    rfl
  · have kept := ((Within.refl [.word 0x42 0x014] [] (inc F.TALLY.POISONED (wr F.TALLY.POISON_LAST_RING r
      (wr F.TALLY.POISON_LAST_SLOT i (wr F.TALLY.POISON_LAST_CAUSE 1 (setTally r i T_POISON
      (rd (F.RINGS.RING_POS_LAP r) s % 64) s)))))).latch (pg := 0x42) (bit := 0) (by decide)).parts .ddr (by decide)
    have ddr : (poisoned r i s).ddr = writeByte s.ddr (winAddr (tallyOff r i s) s)
        (BitVec.ofNat 8 (T_POISON + rd (F.RINGS.RING_POS_LAP r) s % 64 % 64 * 4)) := kept
    unfold poisoned at ddr
    rw [ddr, readByte_writeByte formed, if_pos rfl, BitVec.toNat_ofNat, T_POISON]
    omega

/-! ### What a taking gives -/

/-- The registers that the taking of a slot may change, beside those of the waiting work. -/
def takeScopes : List Scope :=
  [.page 0x41, .word 0x42 0x04C, .word 0x42 0x014, .word 0x42 0x048, .word 0x4C 0x014, .word 0x4C 0x050,
    .word 0x4C 0x04C, .word 0x4C 0x048, .word 0x4C 0x044, .word 0x46 0x070, .word 0x46 0x014, .word 0x46 0x054, .word
    0x46 0x058, .word 0x46 0x05C, .word 0x20 0x0D0, .word 0x20 0x0D4, .word 0x20 0x0D8, .word 0x20 0x0DC, .page 0x1B,
    .page 0x21, .word 0x22 0x078, .word 0x22 0x05C, .page 0x24, .page 0x25, .page 0x26, .page 0x27, .word 0x19 0x0B4,
    .word 0x0C 0x014, .word 0x0C 0x04C]

/-- The parts. -/
def takeParts : List Part :=
  [.ddr, .notices, .draws, .mem, .rings, .frameNumbers, .ports, .nodes, .ledger, .delivered, .frames, .duty]

theorem run_txSlotTake (ri : Fin 32) (s : State) :
    exec (.txSlotTake ri .none) s = done s (settleWork s (txSlotTake ri.val .none s)) := rfl

theorem gives_poison {ri : Fin 32} {s : State} (serves : Serves ri.val s)
    (poison : tally ri.val (rd (F.RINGS.RING_POS_NEXT ri.val) s) s % 4 = T_POISON) (one : 1 ≤ ringSize ri.val s)
    (small : ringSize ri.val s ≤ 4096) (calm : Calm s = true) :
    Gives (.txSlotTake ri .none) s (fun t =>
      rd (F.RINGS.RING_POS_NEXT ri.val) t = (rd (F.RINGS.RING_POS_NEXT ri.val) s + 1) % ringSize ri.val s ∧
      t.ddr = s.ddr ∧ Within (takeScopes ++ airScopes) (takeParts ++ airParts) s t) := by
  have run := run_txSlotTake ri s
  rw [txSlotTake_poison serves poison] at run
  have frame := frame_advanceRing ri.val 1 s
  refine gives_calm run ((frame.calm (by decide) (by decide)).trans calm) fun t ht => ⟨?_, ?_, ?_⟩
  · rw [ht.regs _ (ringFields_here ri _ (by simp [ringMoves])).1 rfl, rd_next_advanceRing]
    exact Nat.mod_eq_of_lt ((Nat.mod_lt _ one).trans_le (small.trans (by decide)))
  · exact Eq.trans (ht.parts .ddr List.not_mem_nil) (frame.parts .ddr List.not_mem_nil)
  · exact (frame.mono (List.all_eq_true.mp (by decide)) (by decide)).then ht (by decide) (by decide)

/-- The address of a tally octet follows the base of the window and of the ring's tally array. -/
theorem tallyAddr_congr {r i : Nat} {s t : State} (lo : rd F.HOSTIF.WIN_BASE_LO t = rd F.HOSTIF.WIN_BASE_LO s)
    (hi : rd F.HOSTIF.WIN_BASE_HI t = rd F.HOSTIF.WIN_BASE_HI s)
    (off : rd (F.RINGS.RING_TALLY_OFF r) t = rd (F.RINGS.RING_TALLY_OFF r) s) :
    winAddr (tallyOff r i t) t = winAddr (tallyOff r i s) s := by
  rw [winAddr, winAddr, tallyOff, tallyOff, lo, hi, off]

theorem gives_pass {ri : Fin 32} {s : State} (serves : Serves ri.val s)
    (device : tally ri.val (rd (F.RINGS.RING_POS_NEXT ri.val) s) s % 4 = T_DEVICE)
    (held : slotHeld ri.val (rd (F.RINGS.RING_POS_NEXT ri.val) s) s = false)
    (pass : tally ri.val (rd (F.RINGS.RING_POS_NEXT ri.val) s) s / 4 ≠ rd (F.RINGS.RING_POS_LAP ri.val) s)
    (inside : rd (F.RINGS.RING_POS_NEXT ri.val) s < ringSize ri.val s) (calm : Calm s = true) (formed : MemoryFormed s) :
    Gives (.txSlotTake ri .none) s (fun t =>
      tally ri.val (rd (F.RINGS.RING_POS_NEXT ri.val) s) t % 4 = T_POISON ∧
      rd F.TALLY.POISONED t = (rd F.TALLY.POISONED s + 1) % 2 ^ 32 ∧ rd F.TALLY.POISON_LAST_CAUSE t = 1 ∧
      eventLatched 0x42 0 t ∧ Within (takeScopes ++ airScopes) (takeParts ++ airParts) s t) := by
  obtain ⟨counted, cause, event, octet⟩ := poisoned_shows ri.val (rd (F.RINGS.RING_POS_NEXT ri.val) s) s formed
  have run := run_txSlotTake ri s
  have whole := frame_poisonSlots ri.val 1 1 s
  rw [txSlotTake_pass serves device held pass] at run
  rw [poisonSlots_one inside] at run whole
  generalize hi : rd (F.RINGS.RING_POS_NEXT ri.val) s = i at *
  generalize hp : poisoned ri.val i s = p at *
  generalize hu : refreshLevel ri.val (advanceRing ri.val 1 (slotNotice 4 ri.val i p)) = u at *
  have after : Within [.page 0x41, .word 0x4C 0x014, .word 0x4C 0x050, .word 0x4C 0x04C, .word 0x4C 0x048, .word 0x4C 0x044]
      [.notices] p u := by
    rw [← hu]
    exact (((frame_slotNotice 4 ri.val i p).mono (List.all_eq_true.mp (by decide)) (by decide)).then
      (frame_advanceRing _ _ _) (by decide) (by decide)).then (frame_refreshLevel _ _) (by decide) (by decide)
  refine gives_calm run ((whole.calm (by decide) (by decide)).trans calm) fun t ht => ⟨?_, ?_, ?_, ?_, ?_⟩
  · have off : rd (F.RINGS.RING_TALLY_OFF ri.val) t = rd (F.RINGS.RING_TALLY_OFF ri.val) s := by
      obtain ⟨follow, notice, tally⟩ := ringFields_here ri (F.RINGS.RING_TALLY_OFF ri.val) (by simp [ringReads])
      have apart := ringReads_apart ri (F.RINGS.RING_TALLY_OFF ri.val) (by simp [ringReads])
      rw [ht.regs _ follow rfl, ← hu, rd_refreshLevel fun g hg => apart g (List.mem_append_right _ hg),
        rd_advanceRing_ne (apart _ (by simp [ringMoves])) (apart _ (by simp [ringMoves])),
        (frame_slotNotice 4 ri.val i p).regs _ follow notice, ← hp, (frame_poisoned ri.val i s).regs _ follow tally]
    have ddr : t.ddr = p.ddr := Eq.trans (ht.parts .ddr List.not_mem_nil) (after.parts .ddr (by decide))
    have lo : rd F.HOSTIF.WIN_BASE_LO t = rd F.HOSTIF.WIN_BASE_LO s := by
      rw [ht.regs _ (by decide) rfl, whole.regs _ (by decide) (by decide)]
    have hi : rd F.HOSTIF.WIN_BASE_HI t = rd F.HOSTIF.WIN_BASE_HI s := by
      rw [ht.regs _ (by decide) rfl, whole.regs _ (by decide) (by decide)]
    rw [tally, tallyAddr_congr lo hi off, ddr]
    exact octet
  · rw [ht.regs _ (by decide) rfl, after.regs _ (by decide) (by decide), counted]
  · rw [ht.regs _ (by decide) rfl, after.regs _ (by decide) (by decide), cause]
  · exact (ht.latched rfl (by decide)).mpr ((after.latched (by decide) (by decide)).mpr event)
  · exact (whole.mono (List.all_eq_true.mp (by decide)) (by decide)).then ht (by decide) (by decide)

/-! ### A slot is taken -/

/-- What a slot of ring `r` holds follows DDR, the window and the ring's slots. -/
structure SameSlots (r : Nat) (s t : State) : Prop where
  ddr  : t.ddr = s.ddr
  lo   : rd F.HOSTIF.WIN_BASE_LO t = rd F.HOSTIF.WIN_BASE_LO s
  hi   : rd F.HOSTIF.WIN_BASE_HI t = rd F.HOSTIF.WIN_BASE_HI s
  base : rd (F.RINGS.RING_BASE r) t = rd (F.RINGS.RING_BASE r) s
  size : rd (F.RINGS.RING_SIZE r) t = rd (F.RINGS.RING_SIZE r) s

section
variable {r : Nat} {s t : State} (h : SameSlots r s t)
include h

theorem SameSlots.winRead (x n : Nat) : winRead x n t = winRead x n s := by
  rw [Machine.winRead, Machine.winRead, winAddr, winAddr, h.ddr, h.lo, h.hi]

theorem SameSlots.slotOff (i : Nat) : slotOff r i t = slotOff r i s := by
  rw [Machine.slotOff, Machine.slotOff, h.base]

theorem SameSlots.slotHeader (i : Nat) : slotHeader r i t = slotHeader r i s := by
  rw [Machine.slotHeader, Machine.slotHeader, h.slotOff, h.winRead]

theorem SameSlots.slotPayload (i n : Nat) : slotPayload r i n t = slotPayload r i n s := by
  simp only [Machine.slotPayload, ringSize, h.size, h.slotOff, h.winRead]

theorem SameSlots.slotLengths (i : Nat) : slotLengths r i t = slotLengths r i s := by
  simp only [Machine.slotLengths, ringSize, h.size, h.slotHeader]

end

/-- The ring after its slot `i`, one by itself, is held and passed. -/
def heldSlot (r i : Nat) (s : State) : State :=
  refreshLevel r (advanceRing r 1 (modRing r (fun g => { g with held := g.held ++ [(i, 1)] }) s))

theorem frame_heldSlot (r i : Nat) (s : State) : Within [.page 0x41] [.rings] s (heldSlot r i s) :=
  ((frame_modRing r _ s).then (frame_advanceRing r 1 _) (by decide) (by decide)).then (frame_refreshLevel r _) (by decide)
    (by decide)

theorem rd_heldSlot {ri : Fin 32} {f : Field} (hf : f ∈ ringReads ri.val) (i : Nat) (s : State) :
    rd f (heldSlot ri.val i s) = rd f s := by
  have apart := ringReads_apart ri f hf
  unfold heldSlot
  rw [rd_refreshLevel fun g hg => apart g (List.mem_append_right _ hg),
    rd_advanceRing_ne (apart _ (by simp [ringMoves])) (apart _ (by simp [ringMoves]))]
  exact rd_wr_ne _ _ _ _ (apart _ (by simp [ringShows]))

theorem rd_packets_heldSlot (ri : Fin 32) (i : Nat) (s : State) :
    rd (F.RINGS.PACKETS ri.val) (heldSlot ri.val i s) = rd (F.RINGS.PACKETS ri.val) s := by
  have apart := ringMoves_apart ri (F.RINGS.PACKETS ri.val) (by simp [ringMoves])
  have still : ∀ g ∈ [F.RINGS.RING_POS_NEXT ri.val, F.RINGS.RING_POS_LAP ri.val], (F.RINGS.PACKETS ri.val).key ≠ g.key := by
    revert ri
    decide
  unfold heldSlot
  rw [rd_refreshLevel apart, rd_advanceRing_ne (still _ (by simp)) (still _ (by simp))]
  exact rd_wr_ne _ _ _ _ (apart _ (by simp [ringShows]))

theorem sameSlots_heldSlot (ri : Fin 32) (i : Nat) (s : State) : SameSlots ri.val s (heldSlot ri.val i s) where
  ddr := (frame_heldSlot ri.val i s).parts .ddr (by decide)
  lo := (frame_heldSlot ri.val i s).regs _ (by decide) (by decide)
  hi := (frame_heldSlot ri.val i s).regs _ (by decide) (by decide)
  base := rd_heldSlot (by simp [ringReads]) i s
  size := rd_heldSlot (by simp [ringReads]) i s

theorem ring_heldSlot (r i : Nat) (s : State) :
    ring r (heldSlot r i s) = { ring r s with held := (ring r s).held ++ [(i, 1)] } := by
  have level := (frame_refreshLevel r (advanceRing r 1 (modRing r (fun g => { g with held := g.held ++ [(i, 1)] }) s))).parts
    .rings List.not_mem_nil
  have moves := (frame_advanceRing r 1 (modRing r (fun g => { g with held := g.held ++ [(i, 1)] }) s)).parts .rings
    List.not_mem_nil
  unfold Agrees at level moves
  rw [heldSlot, ring, level, moves]
  exact look_insert_same _ _ _ _

theorem rd_maxFrame_heldSlot (r i n : Nat) (s : State) :
    rd (F.ETH.MAX_FRAME n) (heldSlot r i s) = rd (F.ETH.MAX_FRAME n) s := by
  have port : F.ETH.MAX_FRAME n = F.ETH.MAX_FRAME 0 ∨ F.ETH.MAX_FRAME n = F.ETH.MAX_FRAME 1 := by
    rcases Nat.mod_two_eq_zero_or_one n with h | h
    · exact .inl (by rw [F.ETH.MAX_FRAME, F.ETH.MAX_FRAME, h])
    · exact .inr (by rw [F.ETH.MAX_FRAME, F.ETH.MAX_FRAME, h])
  obtain e | e := port
  · rw [e]
    exact (frame_heldSlot r i s).regs _ (by decide) (by decide)
  · rw [e]
    exact (frame_heldSlot r i s).regs _ (by decide) (by decide)

theorem ethSlot_heldSlot (r j len i : Nat) (h b : List Byte) (s : State) :
    ethSlot r j len h b (heldSlot r i s) = ethSlot r j len h b s := by
  unfold ethSlot
  simp only [rd_maxFrame_heldSlot]

theorem txSlotTake_takes {r i : Nat} {s : State} (serves : Serves r s) (hi : rd (F.RINGS.RING_POS_NEXT r) s = i)
    (device : tally r i s % 4 = T_DEVICE) (held : slotHeld r i s = false)
    (pass : tally r i s / 4 = rd (F.RINGS.RING_POS_LAP r) s) (inside : i < ringSize r s) (chain : chainLength r i s = 1)
    (fits : bufferFits (hdr (slotHeader r i s) 0 4 % 2 ^ 14) s = true) :
    txSlotTake r .none s = takeChecked r i (heldSlot r i s) := by
  unfold txSlotTake
  dsimp only
  rw [hi, if_neg serves.not_barred, if_neg (by decide), if_neg (by rw [device]; decide), if_neg (by simp [device, held]),
    if_neg (not_not.mpr pass), if_neg (by decide), chain]
  have alone : (ringSpan r 1 s).tail = [] := rfl
  rw [alone, if_neg (by rw [fits]; simp), if_neg (by simp; omega), if_neg (by decide), heldSlot]

/-- A good single slot of an Ethernet ring gives its frame a number and offers it to its port. -/
def offered (r n : Nat) (x : Egress) (s : State) : State :=
  modPort n (fun q => { q with offers := q.offers ++ [{ x with frames := [s.nextFrame] }] })
    { inc (F.RINGS.PACKETS r) s with nextFrame := s.nextFrame + 1 }

theorem takeChecked_eth {ri : Fin 32} {i n : Nat} {x : Egress} {s : State} (lengths : slotLengths ri.val i s = true)
    (kind : rd (F.RINGS.RING_CFG_KIND ri.val) s = 0)
    (eth : ethSlot ri.val i (hdr (slotHeader ri.val i s) 0 4 % 2 ^ 14) (slotHeader ri.val i s)
      (slotPayload ri.val i (hdr (slotHeader ri.val i s) 0 4 % 2 ^ 14) s) s = some (n, x)) :
    takeChecked ri.val i (heldSlot ri.val i s) = offered ri.val n x (heldSlot ri.val i s) := by
  have same := sameSlots_heldSlot ri i s
  have kind' : rd (F.RINGS.RING_CFG_KIND ri.val) (heldSlot ri.val i s) = 0 :=
    (rd_heldSlot (by simp [ringReads]) i s).trans kind
  unfold takeChecked
  dsimp only
  rw [same.slotLengths, lengths, kind', same.slotHeader, same.slotPayload, ethSlot_heldSlot, eth]
  rfl

theorem frame_offered (r n : Nat) (x : Egress) (s : State) :
    Within [.page 0x41] [.frameNumbers, .ports] s (offered r n x s) :=
  (((Within.refl _ _ s).inc (f := F.RINGS.PACKETS r) (inScopes_of rfl)).set_nextFrame (by decide)).then (frame_modPort n _ _)
    (by decide) (by decide)

theorem gives_taken {ri : Fin 32} {s : State} {i n : Nat} {x : Egress} (serves : Serves ri.val s)
    (device : tally ri.val (rd (F.RINGS.RING_POS_NEXT ri.val) s) s % 4 = T_DEVICE)
    (held : slotHeld ri.val (rd (F.RINGS.RING_POS_NEXT ri.val) s) s = false)
    (pass : tally ri.val (rd (F.RINGS.RING_POS_NEXT ri.val) s) s / 4 = rd (F.RINGS.RING_POS_LAP ri.val) s)
    (hi : rd (F.RINGS.RING_POS_NEXT ri.val) s = i) (inside : i < ringSize ri.val s) (chain : chainLength ri.val i s = 1)
    (lengths : slotLengths ri.val i s = true) (kind : rd (F.RINGS.RING_CFG_KIND ri.val) s = 0)
    (eth : ethSlot ri.val i (hdr (slotHeader ri.val i s) 0 4 % 2 ^ 14) (slotHeader ri.val i s)
      (slotPayload ri.val i (hdr (slotHeader ri.val i s) 0 4 % 2 ^ 14) s) s = some (n, x))
    (fits : bufferFits (hdr (slotHeader ri.val i s) 0 4 % 2 ^ 14) s = true) (calm : Calm s = true) :
    Gives (.txSlotTake ri .none) s (fun t =>
      (port n t).offers = (port n s).offers ++ [{ x with frames := [s.nextFrame] }] ∧ slotHeld ri.val i t = true ∧
      rd (F.RINGS.PACKETS ri.val) t = (rd (F.RINGS.PACKETS ri.val) s + 1) % 2 ^ 32 ∧ t.nextFrame = s.nextFrame + 1 ∧
      t.ddr = s.ddr ∧ Within (takeScopes ++ airScopes) (takeParts ++ airParts) s t) := by
  rw [hi] at device held pass
  have run := run_txSlotTake ri s
  rw [txSlotTake_takes serves hi device held pass inside chain fits, takeChecked_eth lengths kind eth] at run
  have before := frame_heldSlot ri.val i s
  have own := frame_offered ri.val n x (heldSlot ri.val i s)
  have whole : Within [.page 0x41] [.rings, .frameNumbers, .ports] s (offered ri.val n x (heldSlot ri.val i s)) :=
    (before.mono (List.all_eq_true.mp (by decide)) (by decide)).then own (by decide) (by decide)
  have number : (heldSlot ri.val i s).nextFrame = s.nextFrame := before.parts .frameNumbers (by decide)
  have ports : (heldSlot ri.val i s).ports = s.ports := before.parts .ports (by decide)
  have rings : (offered ri.val n x (heldSlot ri.val i s)).rings = (heldSlot ri.val i s).rings := own.parts .rings (by decide)
  have sizeHere := ringFields_here ri (F.RINGS.RING_SIZE ri.val) (by simp [ringReads])
  have packetsHere := ringFields_here ri (F.RINGS.PACKETS ri.val) (by simp [ringMoves])
  refine gives_calm run ((whole.calm (by decide) (by decide)).trans calm) fun t ht => ⟨?_, ?_, ?_, ?_, ?_, ?_⟩
  · have same : t.ports = (offered ri.val n x (heldSlot ri.val i s)).ports := ht.parts .ports List.not_mem_nil
    rw [port, same, offered, modPort, number]
    dsimp only
    rw [look_insert_same]
    dsimp only
    rw [port]
    dsimp only [inc, wr]
    rw [ports]
    rfl
  · have same : t.rings = (heldSlot ri.val i s).rings := Eq.trans (ht.parts .rings List.not_mem_nil) rings
    have one : (ring ri.val t).held = (ring ri.val s).held ++ [(i, 1)] := by
      rw [ring, same, ← ring, ring_heldSlot]
    have size : ringSize ri.val t = ringSize ri.val s := by
      rw [ringSize, ht.regs _ sizeHere.1 rfl]
      refine Eq.trans (rd_wr_ne _ _ _ _ ?_) (rd_heldSlot (by simp [ringReads]) i s)
      exact ringReads_apart ri _ (by simp [ringReads]) _ (by simp [ringMoves])
    have last : (List.range 1).any (fun j => (i + j) % ringSize ri.val s == i) = true := by
      simp [Nat.mod_eq_of_lt inside]
    rw [slotHeld, one, size, List.any_append, Bool.or_eq_true]
    exact .inr (by simpa using last)
  · rw [ht.regs _ packetsHere.1 rfl]
    refine Eq.trans (rd_wr_same _ _ _) ?_
    rw [rd_packets_heldSlot]
    rfl
  · exact Eq.trans (ht.parts .frameNumbers List.not_mem_nil) (congrArg (· + 1) number)
  · exact Eq.trans (ht.parts .ddr List.not_mem_nil) (whole.parts .ddr (by decide))
  · exact (whole.mono (List.all_eq_true.mp (by decide)) (by decide)).then ht (by decide) (by decide)

/-- Settles O44: a POISON slot is passed (`txSlotTake_poison`), one of another pass is poisoned (`txSlotTake_pass`), and a
good one is held and its frame offered (`txSlotTake_takes`). -/
theorem transmitSlots : Obligations.TransmitSlots := by
  unfold Obligations.TransmitSlots
  refine ⟨?_, ?_, ?_⟩
  · rintro ri _ s transmit run enabled rfl poison one small - calm
    exact gives_poison ⟨transmit, run, enabled⟩ poison one small calm
  · rintro ri _ s transmit run enabled rfl device held pass - inside calm formed
    exact gives_pass ⟨transmit, run, enabled⟩ device held pass inside calm formed
  · rintro ri _ s i n x transmit run enabled rfl device held pass next inside chain lengths kind eth fits calm
    exact gives_taken ⟨transmit, run, enabled⟩ device held pass next inside chain lengths kind eth fits calm

end Sys2Proof.Machine
end

section
/-! PROOF. Signed requests that pass their checks (R632, R634, R635), for `Obligations.SignedRequests`. -/

namespace Sys2Proof.Machine

/-! ### The checks -/

theorem reqBuf_apart : ∀ k < 57, followKey (F.MGMT.REQ_BUF k).key = false ∧
    inScopes [.word 0x33 0x060, .word 0x33 0x064] (F.MGMT.REQ_BUF k).key = false := by decide

/-- The checks leave the record as it was. -/
theorem requestRecord_checked (s : State) : requestRecord (requestCheck s).2 = requestRecord s := by
  have frame := frame_requestCheck s
  simp only [requestRecord, regOctets, List.flatMap_def]
  refine congrArg List.flatten (List.map_congr_left fun k hk => ?_)
  rw [frame.regs _ (reqBuf_apart k (List.mem_range.mp hk)).1 (reqBuf_apart k (List.mem_range.mp hk)).2]

theorem inCampNow_checked (s : State) : inCampNow (requestCheck s).2 = inCampNow s := by
  rw [inCampNow, inCampNow, (frame_requestCheck s).regs _ (by decide) (by decide)]

theorem mayExit_checked (s : State) : mayExit (requestCheck s).2 = mayExit s := by
  have frame := frame_requestCheck s
  simp only [mayExit, lifecycle, tampered, isSet, frame.regs F.IDENT.LIFECYCLE (by decide) (by decide),
    frame.regs F.CANARY.TAMPER_STATUS_SENSORS (by decide) (by decide),
    frame.regs F.CANARY.TAMPER_STATUS_ZEROIZED (by decide) (by decide)]

theorem sensorOn_checked (b : Nat) (s : State) : sensorOn b (requestCheck s).2 = sensorOn b s := by
  have frame := frame_requestCheck s
  simp only [sensorOn, isSet, frame.regs F.CANARY.CFG_MESH_EN (by decide) (by decide),
    frame.regs F.CANARY.CFG_SW_EN (by decide) (by decide), frame.regs F.CANARY.CFG_TEMP_EN (by decide) (by decide),
    frame.regs F.CANARY.CFG_GLITCH_EN (by decide) (by decide)]

theorem mayRevert_checked (s : State) : mayRevert (requestCheck s).2 = mayRevert s := by
  have fw : (requestCheck s).2.fw = s.fw := (frame_requestCheck s).parts .fw (by decide)
  have kept : actRec (requestCheck s).2 = actRec s := by rw [actRec, actRec, fw]
  have fused := (frame_requestCheck s).regs F.FWUP.ROLLBACK_FUSED (by decide) (by decide)
  rw [mayRevert, mayRevert, actNow, actNow, kept, fused]

/-- A request that passes its checks acts on the state that they leave. -/
theorem requestGo_passes {s : State} (h : (requestCheck s).1 = 0) (breach : Nat) :
    requestGo breach s = requestAct breach (requestCheck s).2 := if_pos h

theorem requestOp_checked (s : State) : requestOp (requestCheck s).2 = requestOp s := by
  rw [requestOp, requestOp, requestRecord_checked]

/-- The state of a command of the word of REQ_GO that passes every check. -/
theorem regWrite_reqGo {s : State} (h : Accepted 0x4E 0x090 1 s) : regWrite 0x4E 0x090 .bar0 1 s = requestGo 0 s :=
  regWrite_accepted (data := 1) h rfl rfl (by decide) (by decide)

/-! ### The end -/

/-- The registers that the end of a request writes. -/
def requestEndScopes : List Scope :=
  [.word 0x4E 0x080, .word 0x4E 0x084, .word 0x4E 0x088, .word 0x4E 0x08C, .word 0x4E 0x094]

theorem frame_requestEnd_words (v : Nat) (s : State) : Within requestEndScopes [.draws] s (requestEnd v s) :=
  Within.drawWords ((Within.refl _ _ s).wr (by decide)) (by decide) (by decide)

/-- A request ends with its result (R632, R636). -/
theorem requestEnd_result {v : Nat} (h : v < 16) (s : State) : rd F.MGMT.REQ_STATUS_RESULT (requestEnd v s) = v := by
  have nonce : Within [.word 0x4E 0x080, .word 0x4E 0x084, .word 0x4E 0x088, .word 0x4E 0x08C] [.draws]
      (wr F.MGMT.REQ_STATUS_RESULT v s) (requestEnd v s) := Within.drawWords (Within.refl _ _ _) (by decide) (by decide)
  rw [nonce.regs _ (by decide) (by decide), rd_wr_same]
  exact Nat.mod_eq_of_lt h

/-! ### WARM_RESET -/

/-- A signed warm reset is one of source 3 (R623). -/
theorem restarts_requestWarm {s : State} (held : s.boot.held = false) (now : resetNow s = false) :
    ∃ u v, Restarts R_WARM R_WARM 3 u v (requestWarm s) := by
  have frame := frame_requestEnd_words RQ_DONE s
  have boot : (requestEnd RQ_DONE s).boot = s.boot := frame.parts .boot (by decide)
  have instant : (requestEnd RQ_DONE s).now = s.now := frame.parts .now (by decide)
  have later : resetNow (requestEnd RQ_DONE s) = false := by
    rw [← now, resetNow, resetNow, boot, instant, frame.regs _ (by decide) (by decide)]
  obtain ⟨v, h⟩ := restarts_warm (s := requestEnd RQ_DONE s) (by rw [boot]; exact held) later 3
  exact ⟨_, v, h⟩

theorem resetNow_checked (s : State) : resetNow (requestCheck s).2 = resetNow s := by
  have frame := frame_requestCheck s
  have boot : (requestCheck s).2.boot = s.boot := frame.parts .boot (by decide)
  have now : (requestCheck s).2.now = s.now := frame.parts .now (by decide)
  rw [resetNow, resetNow, boot, now, frame.regs _ (by decide) (by decide)]

theorem gives_reqWarmReset {s : State} (accepted : Accepted 0x4E 0x090 1 s) (op : requestOp s = 1)
    (passes : (requestCheck s).1 = 0) (held : s.boot.held = false) (now : resetNow s = false) :
    Gives .reqWarmReset s (fun t =>
      rd F.MGMT.START_RESET_KIND t = R_WARM ∧ rd F.MGMT.START_WARM_SOURCE t = 3 ∧ rd F.MGMT.START_STAGE t = 1) := by
  have boot : (requestCheck s).2.boot = s.boot := (frame_requestCheck s).parts .boot (by decide)
  obtain ⟨u, v, h⟩ := restarts_requestWarm (s := (requestCheck s).2) (by rw [boot]; exact held)
    ((resetNow_checked s).trans now)
  have own : requestGo 0 s = requestWarm (requestCheck s).2 := by
    rw [requestGo_passes passes, requestAct, requestOp_checked, op]
    rfl
  have run : exec .reqWarmReset s = done s (settleWork s (requestWarm (requestCheck s).2)) := by
    rw [← own, ← regWrite_reqGo accepted]
    rfl
  refine gives_air run fun t ht => ⟨?_, ?_, ?_⟩
  · rw [ht.regs _ (by decide) (by decide), h.recorded]
    decide
  · rw [ht.regs _ (by decide) (by decide), h.asked]
    decide
  · rw [ht.regs _ (by decide) (by decide), h.stage]

/-! ### The other requests -/

/-- What a request gives whose command ends in `u` of the checked state, nothing of what a calm state is judged by changed. -/
theorem gives_request {c : Instr} {u s : State} {scopes : List Scope} {parts : List Part}
    (run : exec c s = done s (settleWork s u)) (own : Within scopes parts (requestCheck s).2 u) (calm : Calm s = true)
    (hp : ∀ p ∈ [Part.frames, .campaigns, .relief, .poolTest, .fw, .fes, .rope, .lanes, .engines], p ∉ parts)
    (hs : ∀ k ∈ calmKeys, inScopes scopes k = false) {P : State → Prop} (k : ∀ t, Within [] [] u t → P t) : Gives c s P :=
  gives_calm run (((own.calm hp hs).trans ((frame_requestCheck s).calm (by decide) (by decide))).trans calm) k

theorem gives_reqEnter {s : State} (accepted : Accepted 0x4E 0x090 1 s) (op : requestOp s = 2)
    (passes : (requestCheck s).1 = 0) (out : inCampNow s = false) (calm : Calm s = true) :
    Gives .reqEnter s (fun t =>
      rd F.MGMT.REQ_STATUS_RESULT t = RQ_DONE ∧ rd F.MGMT.START_ENTER_PENDING t = 1 ∧
      Within [.page 0x4E, .word 0x33 0x060, .word 0x33 0x064] [.draws, .slots] s t) := by
  have own : requestGo 0 s = requestEnd RQ_DONE (wr F.MGMT.START_ENTER_PENDING 1 (requestCheck s).2) := by
    rw [requestGo_passes passes, requestAct, requestOp_checked, op]
    show requestEnter _ = _
    rw [requestEnter, inCampNow_checked, out]
    rfl
  have run : exec .reqEnter s = done s (settleWork s (requestGo 0 s)) := by
    rw [← regWrite_reqGo accepted]
    rfl
  have checked := frame_requestCheck s
  have frame : Within [.page 0x4E] [.draws] (requestCheck s).2 (requestGo 0 s) := by
    rw [own]
    exact ((Within.refl _ _ _).wr (by decide)).then (frame_requestEnd _ _) (by decide) (by decide)
  refine gives_request run frame calm (by decide) (by decide) fun t ht => ⟨?_, ?_, ?_⟩
  · rw [ht.regs _ (by decide) rfl, own]
    exact requestEnd_result (by decide) _
  · rw [ht.regs _ (by decide) rfl, own, (frame_requestEnd_words _ _).regs _ (by decide) (by decide)]
    exact rd_wr_same _ _ _
  · exact ((checked.mono (List.all_eq_true.mp (by decide)) (by decide)).then frame (by decide) (by decide)).then ht
      (by decide) (by decide)

theorem gives_reqExit {s : State} (accepted : Accepted 0x4E 0x090 1 s) (op : requestOp s = 3)
    (passes : (requestCheck s).1 = 0) (calm : Calm s = true) :
    Gives .reqExit s (fun t =>
      rd F.MGMT.REQ_STATUS_RESULT t = (if mayExit s then RQ_DONE else RQ_REFUSED) ∧
      rd F.MGMT.START_EXIT_PENDING t = (if mayExit s then 1 else rd F.MGMT.START_EXIT_PENDING s) ∧
      Within [.page 0x4E, .word 0x33 0x060, .word 0x33 0x064, .word 0x80 0x2004] [.draws, .slots] s t) := by
  have own : requestGo 0 s = requestExit (requestCheck s).2 := by
    rw [requestGo_passes passes, requestAct, requestOp_checked, op]
    rfl
  have run : exec .reqExit s = done s (settleWork s (requestExit (requestCheck s).2)) := by
    rw [← own, ← regWrite_reqGo accepted]
    rfl
  have checked := frame_requestCheck s
  have frame := frame_requestExit (requestCheck s).2
  refine gives_request run frame calm (by decide) (by decide) fun t ht => ?_
  have whole : Within [.page 0x4E, .word 0x33 0x060, .word 0x33 0x064, .word 0x80 0x2004] [.draws, .slots] s t :=
    ((checked.mono (List.all_eq_true.mp (by decide)) (by decide)).then frame (by decide) (by decide)).then ht
      (by decide) (by decide)
  rw [ht.regs _ (by decide) rfl, ht.regs _ (by decide) rfl]
  refine ⟨?_, ?_, whole⟩
  · rw [requestExit, mayExit_checked]
    split
    · exact requestEnd_result (by decide) _
    · exact requestEnd_result (by decide) _
  · rw [requestExit, mayExit_checked]
    split
    · rw [(frame_requestEnd_words _ _).regs _ (by decide) (by decide)]
      exact rd_wr_same _ _ _
    · rw [(frame_requestEnd_words _ _).regs _ (by decide) (by decide), checked.regs _ (by decide) (by decide)]

/-- The command of REQ_GO with what the sensors report. -/
theorem exec_reqClearTamper {breach : Fin 256} {s : State} (accepted : Accepted 0x4E 0x090 1 s) (op : requestOp s = 4)
    (passes : (requestCheck s).1 = 0) :
    exec (.reqClearTamper breach) s = done s (settleWork s (requestClear breach.val (requestCheck s).2)) := by
  have own : requestGo breach.val s = requestClear breach.val (requestCheck s).2 := by
    rw [requestGo_passes passes, requestAct, requestOp_checked, op]
    rfl
  have runs : regCommand 0x4E 0x090 .bar0 1 (requestGo breach.val) s = requestGo breach.val s :=
    regCommand_accepted (data := 1) accepted rfl
  rw [← own, ← runs]
  rfl

/-- CLEAR_TAMPER is done where no enabled sensor reports a breach (R634). -/
theorem requestClear_done {s : State} (camp : inCampNow s = true) :
    ∃ u, Within [] [] (wr F.CANARY.TAMPER_STATUS_SENSORS 0 (wr F.CANARY.TAMPER_STATUS_ZEROIZED 0
      (wr F.CANARY.TAMPER_STATUS_PHASE 0 s))) u ∧ requestClear 0 s = requestEnd RQ_DONE u := by
  have clean : (List.range 6).any (fun b => (0 : Nat).testBit b && sensorOn b s) = false := by simp
  refine ⟨logCairn K_NOTE ((part (requestRecord s) 6 2).map (·.toNat) ++
    ((pinOf (part (requestRecord s) 36 96)).take 6).map (·.toNat)) _, (Within.refl _ _ _).logCairn, ?_⟩
  rw [requestClear, camp, clean]
  rfl

theorem gives_clear {s : State} {breach : Fin 256} (accepted : Accepted 0x4E 0x090 1 s) (op : requestOp s = 4)
    (passes : (requestCheck s).1 = 0) (camp : inCampNow s = true) (clean : breach.val = 0) (calm : Calm s = true) :
    Gives (.reqClearTamper breach) s (fun t =>
      rd F.MGMT.REQ_STATUS_RESULT t = RQ_DONE ∧ rd F.CANARY.TAMPER_STATUS_SENSORS t = 0 ∧
      rd F.CANARY.TAMPER_STATUS_ZEROIZED t = 0 ∧
      Within [.page 0x4E, .word 0x33 0x060, .word 0x33 0x064, .word 0x03 0x044, .word 0x30 0x088, .word 0x30 0x0B0]
        [.draws, .slots] s t) := by
  obtain ⟨u, shown, own⟩ := requestClear_done ((inCampNow_checked s).trans camp)
  have frame := frame_requestClear breach.val (requestCheck s).2
  refine gives_request (exec_reqClearTamper accepted op passes) frame calm (by decide) (by decide) fun t ht => ?_
  have whole : Within [.page 0x4E, .word 0x33 0x060, .word 0x33 0x064, .word 0x03 0x044, .word 0x30 0x088,
      .word 0x30 0x0B0] [.draws, .slots] s t := (((frame_requestCheck s).mono (List.all_eq_true.mp (by decide)) (by decide)).then frame (by decide)
    (by decide)).then ht (by decide) (by decide)
  have words := frame_requestEnd_words RQ_DONE u
  rw [ht.regs _ (by decide) rfl, ht.regs _ (by decide) rfl, ht.regs _ (by decide) rfl, clean, own]
  refine ⟨requestEnd_result (by decide) _, ?_, ?_, whole⟩
  · rw [words.regs _ (by decide) (by decide), shown.regs _ (by decide) rfl]
    exact rd_wr_same _ _ _
  · rw [words.regs _ (by decide) (by decide), shown.regs _ (by decide) rfl, rd_wr_ne _ _ _ _ (by decide)]
    exact rd_wr_same _ _ _

theorem gives_clear_breached {s : State} {breach : Fin 256} {b : Nat} (accepted : Accepted 0x4E 0x090 1 s)
    (op : requestOp s = 4) (passes : (requestCheck s).1 = 0) (camp : inCampNow s = true) (sensor : b < 6)
    (reports : breach.val.testBit b = true) (on : sensorOn b s = true) (calm : Calm s = true) :
    Gives (.reqClearTamper breach) s (fun t =>
      rd F.MGMT.REQ_STATUS_RESULT t = RQ_SENSOR_ACTIVE ∧
      rd F.CANARY.TAMPER_STATUS_SENSORS t = rd F.CANARY.TAMPER_STATUS_SENSORS s ∧
      Within [.page 0x4E, .word 0x33 0x060, .word 0x33 0x064, .word 0x03 0x044, .word 0x30 0x088, .word 0x30 0x0B0]
        [.draws, .slots] s t) := by
  have active : (List.range 6).any (fun b => breach.val.testBit b && sensorOn b (requestCheck s).2) = true :=
    List.any_eq_true.mpr ⟨b, List.mem_range.mpr sensor, by rw [reports, sensorOn_checked, on]; rfl⟩
  have own : requestClear breach.val (requestCheck s).2 = requestEnd RQ_SENSOR_ACTIVE (requestCheck s).2 := by
    rw [requestClear, inCampNow_checked, camp, active]
    rfl
  have run := exec_reqClearTamper (breach := breach) accepted op passes
  rw [own] at run
  have frame := frame_requestEnd_words RQ_SENSOR_ACTIVE (requestCheck s).2
  have checked := frame_requestCheck s
  refine gives_request run frame calm (by decide) (by decide) fun t ht => ⟨?_, ?_, ?_⟩
  · rw [ht.regs _ (by decide) rfl]
    exact requestEnd_result (by decide) _
  · rw [ht.regs _ (by decide) rfl, frame.regs _ (by decide) (by decide), checked.regs _ (by decide) (by decide)]
  · exact ((checked.mono (List.all_eq_true.mp (by decide)) (by decide)).then frame (by decide) (by decide)).then ht
      (by decide) (by decide)

/-- Of the firmware a calm state is judged by the banks still to be switched alone. -/
theorem calm_fw {s : State} {x : Firmware} (h : x.banks = s.fw.banks) : Calm { s with fw := x } = Calm s := by
  have q : quiet { s with fw := x } = quiet s := by
    unfold quiet
    dsimp only
    rw [h]
    rfl
  rw [Calm, Calm, q]
  rfl

theorem calm_fwEnd (v : Nat) (s : State) : Calm (fwEnd v s) = Calm s := by
  have shown : Within [.word 0x48 0x04C] [] { s with fw := { s.fw with cmd := none } } (fwEnd v s) :=
    ((Within.refl _ _ _).wr (by decide)).wr (by decide)
  rw [shown.calm (by decide) (by decide)]
  exact calm_fw rfl

theorem gives_reqRevert {s : State} (accepted : Accepted 0x4E 0x090 1 s) (op : requestOp s = 5)
    (passes : (requestCheck s).1 = 0) (camp : inCampNow s = true) (may : mayRevert s = true)
    (idle : rd F.FWUP.STATUS_BUSY s = 0) (page : pageState 0x48 s ∉ [DRAINING, TEST, FAULT, RETIRED])
    (calm : Calm s = true) :
    Gives .reqRevert s (fun t =>
      rd F.MGMT.REQ_STATUS_RESULT t = RQ_DONE ∧ t.fw.revert = true ∧
      Within [.page 0x4E, .word 0x33 0x060, .word 0x33 0x064, .page 0x48] [.draws, .slots, .fw] s t) := by
  have checked := frame_requestCheck s
  have idle' : rd F.FWUP.STATUS_BUSY (requestCheck s).2 = 0 := by rw [checked.regs _ (by decide) (by decide), idle]
  have page' : pageState 0x48 (requestCheck s).2 ∉ [DRAINING, TEST, FAULT, RETIRED] := by
    rw [pageState, checked.regs _ (by decide) (by decide)]
    exact page
  have reverts : fwRevert (requestCheck s).2 =
      fwEnd 1 { (requestCheck s).2 with fw := { (requestCheck s).2.fw with revert := true } } := by
    rw [fwRevert, fwCommand, if_neg page', isSet, idle', mayRevert_checked, may]
    rfl
  have own : requestGo 0 s = requestEnd RQ_DONE (fwRevert (requestCheck s).2) := by
    rw [requestGo_passes passes, requestAct, requestOp_checked, op]
    show requestRevert _ = _
    rw [requestRevert, inCampNow_checked, camp, mayRevert_checked, may, isSet, idle', decide_eq_false page']
    rfl
  have run : exec .reqRevert s = done s (settleWork s (requestEnd RQ_DONE (fwRevert (requestCheck s).2))) := by
    rw [← own, ← regWrite_reqGo accepted]
    rfl
  have revert : Within [.page 0x48] [.fw] (requestCheck s).2 (fwRevert (requestCheck s).2) := by
    rw [reverts]
    exact ((Within.refl _ _ _).set_fw (by decide)).then (frame_fwEnd _ _) (by decide) (by decide)
  have ended := frame_requestEnd_words RQ_DONE (fwRevert (requestCheck s).2)
  have fw : (requestEnd RQ_DONE (fwRevert (requestCheck s).2)).fw = (fwRevert (requestCheck s).2).fw :=
    ended.parts .fw (by decide)
  have still : Calm (requestEnd RQ_DONE (fwRevert (requestCheck s).2)) = true := by
    rw [ended.calm (by decide) (by decide), reverts, calm_fwEnd, calm_fw (by rfl), checked.calm (by decide) (by decide), calm]
  refine gives_calm run still fun t ht => ⟨?_, ?_, ?_⟩
  · rw [ht.regs _ (by decide) rfl]
    exact requestEnd_result (by decide) _
  · have same : t.fw = (fwRevert (requestCheck s).2).fw := Eq.trans (ht.parts .fw List.not_mem_nil) fw
    rw [same, reverts]
    rfl
  · exact (((checked.mono (List.all_eq_true.mp (by decide)) (by decide)).then revert (by decide) (by decide)).then ended
      (by decide) (by decide)).then ht (by decide) (by decide)

/-- Settles O49: a request that passes its checks acts on the state that they leave, in which nothing that it reads has
changed. -/
theorem signedRequests : Obligations.SignedRequests := by
  unfold Obligations.SignedRequests
  refine ⟨?_, ?_, ?_, ?_, ?_, ?_⟩
  · exact fun s accepted op passes held now => gives_reqWarmReset accepted op passes held now
  · exact fun s accepted op passes out calm => gives_reqEnter accepted op passes out calm
  · exact fun s accepted op passes calm => gives_reqExit accepted op passes calm
  · exact fun breach s accepted op passes camp clean calm => gives_clear accepted op passes camp clean calm
  · exact fun breach s b accepted op passes camp sensor reports on calm =>
      gives_clear_breached accepted op passes camp sensor reports on calm
  · exact fun s accepted op passes camp may idle page calm => gives_reqRevert accepted op passes camp may idle page calm

end Sys2Proof.Machine
end

section
/-! PROOF. What the link of a port shows and what its changes leave (R422): the lemmas that SFP_LOS_CHANGE and
ETH_LINK_CHANGE share. -/

namespace Sys2Proof.Machine

/-! ### Fields of one page -/

/-- Fields at different places have different keys, whatever their pages are. -/
theorem key_ne_of_place {f g : Field} (h : (f.off % 16384 == g.off % 16384 && f.lo % 32 == g.lo % 32) = false) :
    f.key ≠ g.key := by
  simp only [Field.key, ne_eq]
  simp only [Bool.and_eq_false_iff, beq_eq_false_iff_ne] at h
  omega

/-- A field read after a write at another place. -/
theorem rd_wr_apart {f g : Field} (v : Nat) (s : State)
    (h : (f.off % 16384 == g.off % 16384 && f.lo % 32 == g.lo % 32) = false) : rd f (wr g v s) = rd f s :=
  rd_wr_ne f g v s (key_ne_of_place h)

theorem rd_wrBool_apart {f g : Field} (b : Bool) (s : State)
    (h : (f.off % 16384 == g.off % 16384 && f.lo % 32 == g.lo % 32) = false) : rd f (wrBool g b s) = rd f s :=
  rd_wr_apart _ s h

theorem isSet_of_rd {f : Field} {s : State} {v : Nat} (h : rd f s = v) : isSet f s = (v != 0) := by rw [isSet, h]

/-- Two effects one after the other. -/
theorem Within.append {P P' : List Scope} {S S' : List Part} {s t u : State} (h : Within P S s t) (k : Within P' S' t u) :
    Within (P ++ P') (S ++ S') s u where
  regs f follow out := by
    simp only [inScopes, List.any_append, Bool.or_eq_false_iff] at out
    exact (k.regs f follow out.2).trans (h.regs f follow out.1)
  parts p hp := by
    simp only [List.mem_append, not_or] at hp
    exact (h.parts p hp.1).trans (k.parts p hp.2)

/-! ### The port -/

@[simp] theorem port_modPort_same (n : Nat) (f : Port → Port) (s : State) : port n (modPort n f s) = f (port n s) :=
  look_insert_same _ _ _ _

theorem port_congr {s t : State} (h : t.ports = s.ports) (n : Nat) : port n t = port n s := by rw [port, port, h]

theorem port_wr (f : Field) (v n : Nat) (s : State) : port n (wr f v s) = port n s := port_congr (wr_ports f v s) n

theorem port_pending (n : Nat) (q : List Instr) (s : State) : port n { s with pending := q } = port n s := rfl

theorem port_latch (pg bit n : Nat) (s : State) : port n (latch pg bit s) = port n s :=
  port_congr (((Within.refl [.word pg 0x14] [] s).latch (pg := pg) (bit := bit)
    (inScopes_of (by simp [Scope.among, F.HEAD.EVT_LATCH]))).parts .ports List.not_mem_nil) n

theorem port_rmonAdd (n i v : Nat) (s : State) : ∃ r, port n (rmonAdd n i v s) = { port n s with rmon := r } := by
  refine ⟨_, Eq.trans (b := port n (modPort n (fun p => { p with rmon := insert p.rmon i ((rmonCount n i s + v) % 2 ^ rmonWidth i) }) s)) ?_
    (port_modPort_same _ _ _)⟩
  simp only [rmonAdd]
  split
  · rfl
  · rw [port_latch]
    split <;> rfl

/-- What is neither sent nor counted of a port outlives the end of what it sends. -/
theorem abortAir_keeps {β : Type} {g : Port → β} {n : Nat} {d : Disp} {s : State}
    (sent : ∀ p : Port, g { p with airFrame := none, busy := false } = g p)
    (idle : ∀ p : Port, g { p with busy := false, airPause := none } = g p)
    (counted : ∀ (p : Port) r, g { p with rmon := r } = g p) : g (port n (abortAir n d s)) = g (port n s) := by
  unfold abortAir
  split
  · next x _ =>
    have kept : ∀ u, port n (endEgress x d u) = port n u := fun u =>
      port_congr ((frame_endEgress x d u).parts .ports (by decide)) n
    simp only [kept]
    obtain ⟨r, h⟩ := port_rmonAdd n 38 1 (inc (F.ETH.TX_ABORTED n)
      (modPort n (fun p => { p with airFrame := none, busy := false }) s))
    rw [rmon, h, counted]
    rw [inc, port_wr, port_modPort_same, sent]
  · rw [port_modPort_same, idle]

/-! ### What the link shows -/

/-- The reason and the speed that a refresh shows. -/
def linkShown (n : Nat) (s : State) : State :=
  let t := wr (F.ETH.STATUS_DOWN_REASON n) (downReason n s) s
  wr (F.ETH.STATUS_SGMII_SPEED n) (if rd (F.ETH.MODE_SEL n) t = 4 then sgmiiSpeed n t else 0) t

/-- The link turned to what its reason says, counted and latched. -/
def linkTurned (n : Nat) (s : State) : State :=
  latch (ethPage n) 0 (incSat (F.ETH.LINK_CHANGES n) (wrBool (F.ETH.STATUS_UP n) (downReason n s == 0) (linkShown n s)))

theorem refreshLink_steady {n : Nat} {s : State} (h : isSet (F.ETH.STATUS_UP n) s = (downReason n s == 0)) :
    refreshLink n s = showPause n (linkShown n s) := if_pos h

theorem refreshLink_rises {n : Nat} {s : State} (down : isSet (F.ETH.STATUS_UP n) s = false) (r : downReason n s = 0) :
    refreshLink n s = showPause n
      (modPort n (fun p => { p with upAt := (pushNotice 8 (n + 16) (linkTurned n s)).now })
        (pushNotice 8 (n + 16) (linkTurned n s))) := by
  simp only [refreshLink, down, r, linkTurned, linkShown, beq_self_eq_true, Bool.false_eq_true, if_false, if_true]

theorem refreshLink_falls {n : Nat} {s : State} (up : isSet (F.ETH.STATUS_UP n) s = true) (r : downReason n s ≠ 0) :
    refreshLink n s = showPause n (abortAir n .dropRingFull
      (modPort n (fun p => { p with pauseEnd := none, downAt := (pushNotice 8 n (linkTurned n s)).now })
        (pushNotice 8 n (linkTurned n s)))) := by
  have turned : ¬ true = (downReason n s == 0) := by simpa using r
  simp only [refreshLink, up, if_neg turned, if_neg r, linkTurned, linkShown, Nat.add_zero]

theorem downReason_lt (n : Nat) (s : State) : downReason n s < 16 := by
  simp only [downReason]
  split_ifs <;> omega

theorem rd_showPause_ne {f : Field} {n : Nat} {s : State} (word : (f.off % 16384 == 116) = false)
    (low : (f.off % 16384 == 112 && (f.lo % 32 == 1 || f.lo % 32 == 4 || f.lo % 32 == 5)) = false) :
    rd f (showPause n s) = rd f s := by
  have apart : ∀ g : Field, (f.off % 16384 ≠ g.off % 16384 ∨ f.lo % 32 ≠ g.lo % 32) → ∀ v t, rd f (wr g v t) = rd f t :=
    fun g h v t => rd_wr_apart v t (by
      rw [Bool.and_eq_false_iff, beq_eq_false_iff_ne, beq_eq_false_iff_ne]
      exact h)
  simp only [Bool.and_eq_false_iff, Bool.or_eq_false_iff, beq_eq_false_iff_ne] at word low
  simp only [showPause, wrBool]
  rw [apart (F.ETH.PAUSE_REMAIN n) (.inl word), apart (F.ETH.STATUS_PAUSED_BY_PEER n) (low.imp id fun h => h.1.1),
    apart (F.ETH.STATUS_PAUSE_RX_ACTIVE n) (low.imp id fun h => h.1.2), apart (F.ETH.STATUS_PAUSE_TX_ACTIVE n) (low.imp id fun h => h.2)]

theorem port_showPause (n m : Nat) (s : State) : port m (showPause n s) = port m s := rfl

theorem port_pushNotice (a b m : Nat) (s : State) : port m (pushNotice a b s) = port m s :=
  port_congr ((frame_pushNotice a b s).parts .ports (by decide)) m

/-- What shows the link of a port. -/
def linkFields (n : Nat) : List Field :=
  [F.ETH.STATUS_UP n, F.ETH.STATUS_DOWN_REASON n, F.ETH.LINK_CHANGES n, F.HEAD.EVT_LATCH (ethPage n)]

theorem linkFields_apart (pn : Fin 2) : ∀ f ∈ linkFields pn, followKey f.key = false ∧ inScopes airScopes f.key = false ∧
    inScopes [.word 0x4c 0x14, .word 0x4c 0x50, .word 0x4c 0x4c, .word 0x4c 0x48, .word 0x4c 0x44, .page 0x41, .page 0x1b,
      .word 0x20 0xdc, .word 0x20 0xd8, .word 0x20 0xd4, .word 0x20 0xd0, .page (0x3a + pn % 2), .word (0x38 + pn % 2) 0xac]
      f.key = false ∧ (f.off % 16384 == 116) = false ∧
    (f.off % 16384 == 112 && (f.lo % 32 == 1 || f.lo % 32 == 4 || f.lo % 32 == 5)) = false := by
  revert pn
  decide

theorem rd_linkField_showPause {pn : Fin 2} {f : Field} (hf : f ∈ linkFields pn) (s : State) :
    rd f (showPause pn s) = rd f s := by
  obtain ⟨-, -, -, word, low⟩ := linkFields_apart pn f hf
  exact rd_showPause_ne word low

theorem rd_linkField_abortAir {pn : Fin 2} {f : Field} (hf : f ∈ linkFields pn) (d : Disp) (s : State) :
    rd f (abortAir pn d s) = rd f s := by
  obtain ⟨follow, -, out, -, -⟩ := linkFields_apart pn f hf
  exact (frame_abortAir pn d s).regs f follow out

theorem rd_linkField_pushNotice {pn : Fin 2} {f : Field} (hf : f ∈ linkFields pn) (a b : Nat) (s : State) :
    rd f (pushNotice a b s) = rd f s := by
  obtain ⟨follow, -, out, -, -⟩ := linkFields_apart pn f hf
  simp only [inScopes, List.any_cons, Bool.or_eq_false_iff] at out
  refine (frame_pushNotice a b s).regs f follow ?_
  simp only [inScopes, List.any_cons, List.any_nil, Bool.or_eq_false_iff]
  exact ⟨out.1, out.2.1, out.2.2.1, out.2.2.2.1, out.2.2.2.2.1, trivial⟩

theorem turned_apart (pn : Fin 2) : ∀ f ∈ [F.ETH.STATUS_UP pn, F.ETH.STATUS_DOWN_REASON pn, F.ETH.LINK_CHANGES pn],
    f.key ≠ F.EVT.MSG_COUNT.key ∧ f.key ≠ (F.HEAD.EVT_LATCH (ethPage pn)).key := by
  revert pn
  decide

theorem rd_reason_linkShown (n : Nat) (s : State) : rd (F.ETH.STATUS_DOWN_REASON n) (linkShown n s) = downReason n s := by
  rw [linkShown, rd_wr_apart _ _ rfl, rd_wr_same]
  exact Nat.mod_eq_of_lt (downReason_lt n s)

theorem rd_up_linkShown (n : Nat) (s : State) : rd (F.ETH.STATUS_UP n) (linkShown n s) = rd (F.ETH.STATUS_UP n) s := by
  rw [linkShown, rd_wr_apart _ _ rfl, rd_wr_apart _ _ rfl]

theorem rd_changes_linkShown (n : Nat) (s : State) : rd (F.ETH.LINK_CHANGES n) (linkShown n s) = rd (F.ETH.LINK_CHANGES n) s := by
  rw [linkShown, rd_wr_apart _ _ rfl, rd_wr_apart _ _ rfl]

theorem rd_reason_linkTurned (pn : Fin 2) (s : State) : rd (F.ETH.STATUS_DOWN_REASON pn) (linkTurned pn s) = downReason pn s := by
  obtain ⟨count, event⟩ := turned_apart pn _ (.tail _ (.head _))
  rw [linkTurned, rd_latch_ne _ _ _ _ count event, incSat, rd_wr_apart _ _ rfl, rd_wrBool_apart _ _ rfl, rd_reason_linkShown]

theorem rd_up_linkTurned (pn : Fin 2) (s : State) :
    rd (F.ETH.STATUS_UP pn) (linkTurned pn s) = if downReason pn s = 0 then 1 else 0 := by
  obtain ⟨count, event⟩ := turned_apart pn _ (.head _)
  rw [linkTurned, rd_latch_ne _ _ _ _ count event, incSat, rd_wr_apart _ _ rfl, wrBool, rd_wr_same]
  by_cases h : downReason pn s = 0 <;> simp [h, F.ETH.STATUS_UP]

theorem rd_changes_linkTurned (pn : Fin 2) (s : State) :
    rd (F.ETH.LINK_CHANGES pn) (linkTurned pn s) = min (rd (F.ETH.LINK_CHANGES pn) s + 1) 65535 := by
  obtain ⟨count, event⟩ := turned_apart pn _ (.tail _ (.tail _ (.head _)))
  rw [linkTurned, rd_latch_ne _ _ _ _ count event, incSat, rd_wr_same, rd_wrBool_apart _ _ rfl, rd_changes_linkShown]
  exact Nat.mod_eq_of_lt (lt_of_le_of_lt (Nat.min_le_right _ _) (by show 65535 < 65536; decide))

theorem port_linkShown (n : Nat) (s : State) : port n (linkShown n s) = port n s := by
  rw [linkShown, port_wr, port_wr]

/-! ### The refresh -/

/-- A refresh shows the reason, and a link with a reason to be down is down. -/
theorem refreshLink_shows (pn : Fin 2) (s : State) :
    rd (F.ETH.STATUS_DOWN_REASON pn) (refreshLink pn s) = downReason pn s ∧
    (downReason pn s ≠ 0 → rd (F.ETH.STATUS_UP pn) (refreshLink pn s) = 0) := by
  have up : F.ETH.STATUS_UP pn ∈ linkFields pn := .head _
  have reason : F.ETH.STATUS_DOWN_REASON pn ∈ linkFields pn := .tail _ (.head _)
  by_cases r : downReason pn s = 0
  · refine ⟨?_, fun h => absurd r h⟩
    by_cases was : isSet (F.ETH.STATUS_UP pn) s = false
    · rw [refreshLink_rises was r, rd_linkField_showPause reason, rd_modPort, rd_linkField_pushNotice reason,
        rd_reason_linkTurned]
    · rw [refreshLink_steady (by simpa [r] using was), rd_linkField_showPause reason, rd_reason_linkShown]
  · by_cases was : isSet (F.ETH.STATUS_UP pn) s = true
    · rw [refreshLink_falls was r, rd_linkField_showPause reason, rd_linkField_showPause up, rd_linkField_abortAir reason,
        rd_linkField_abortAir up, rd_modPort, rd_modPort, rd_linkField_pushNotice reason, rd_linkField_pushNotice up,
        rd_reason_linkTurned, rd_up_linkTurned]
      exact ⟨rfl, fun _ => if_neg r⟩
    · have down : rd (F.ETH.STATUS_UP pn) s = 0 := by simpa [isSet] using was
      rw [refreshLink_steady ((Bool.eq_false_of_not_eq_true was).trans (beq_eq_false_iff_ne.mpr r).symm),
        rd_linkField_showPause reason, rd_linkField_showPause up,
        rd_reason_linkShown, rd_up_linkShown]
      exact ⟨rfl, fun _ => down⟩

/-- A link that rises is up, counted and latched. -/
theorem refreshLink_rises_shows {pn : Fin 2} {s : State} (down : isSet (F.ETH.STATUS_UP pn) s = false) (r : downReason pn s = 0) :
    rd (F.ETH.STATUS_UP pn) (refreshLink pn s) = 1 ∧
    rd (F.ETH.LINK_CHANGES pn) (refreshLink pn s) = min (rd (F.ETH.LINK_CHANGES pn) s + 1) 65535 ∧
    eventLatched (ethPage pn) 0 (refreshLink pn s) := by
  have up : F.ETH.STATUS_UP pn ∈ linkFields pn := .head _
  have changes : F.ETH.LINK_CHANGES pn ∈ linkFields pn := .tail _ (.tail _ (.head _))
  have event : F.HEAD.EVT_LATCH (ethPage pn) ∈ linkFields pn := .tail _ (.tail _ (.tail _ (.head _)))
  rw [refreshLink_rises down r, eventLatched, rd_linkField_showPause up, rd_linkField_showPause changes,
    rd_linkField_showPause event, rd_modPort, rd_modPort, rd_modPort, rd_linkField_pushNotice up,
    rd_linkField_pushNotice changes, rd_linkField_pushNotice event]
  exact ⟨(rd_up_linkTurned pn s).trans (if_pos r), rd_changes_linkTurned pn s, latch_sets _ _ _ (by decide)⟩

/-- A link that falls is latched, and ends the peer's pause. -/
theorem refreshLink_falls_shows {pn : Fin 2} {s : State} (up : isSet (F.ETH.STATUS_UP pn) s = true) (r : downReason pn s ≠ 0) :
    (port pn (refreshLink pn s)).pauseEnd = none ∧ eventLatched (ethPage pn) 0 (refreshLink pn s) := by
  have event : F.HEAD.EVT_LATCH (ethPage pn) ∈ linkFields pn := .tail _ (.tail _ (.tail _ (.head _)))
  rw [refreshLink_falls up r, eventLatched, port_showPause, rd_linkField_showPause event, rd_linkField_abortAir event, rd_modPort,
    rd_linkField_pushNotice event]
  refine ⟨?_, latch_sets _ _ _ (by decide)⟩
  rw [abortAir_keeps (g := Port.pauseEnd) (fun _ => rfl) (fun _ => rfl) fun _ _ => rfl, port_modPort_same]

/-- An event that stands latched outlives the refresh. -/
theorem refreshLink_latched {pn : Fin 2} {bit : Nat} {s : State} (below : bit < 32) (h : eventLatched (ethPage pn) bit s) :
    eventLatched (ethPage pn) bit (refreshLink pn s) := by
  have event : F.HEAD.EVT_LATCH (ethPage pn) ∈ linkFields pn := .tail _ (.tail _ (.tail _ (.head _)))
  have shown : rd (F.HEAD.EVT_LATCH (ethPage pn)) (linkShown pn s) = rd (F.HEAD.EVT_LATCH (ethPage pn)) s := by
    rw [linkShown, rd_wr_apart _ _ rfl, rd_wr_apart _ _ rfl]
  have turned : (rd (F.HEAD.EVT_LATCH (ethPage pn)) (linkTurned pn s)).testBit bit = true := by
    rw [linkTurned, rd_latch_same, incSat, rd_wr_apart _ _ rfl, rd_wrBool_apart _ _ rfl, shown, Nat.testBit_mod_two_pow,
      Nat.testBit_or, show (rd (F.HEAD.EVT_LATCH (ethPage pn)) s).testBit bit = true from h]
    simpa using below
  unfold eventLatched
  by_cases r : downReason pn s = 0
  · by_cases was : isSet (F.ETH.STATUS_UP pn) s = false
    · rw [refreshLink_rises was r, rd_linkField_showPause event, rd_modPort, rd_linkField_pushNotice event]
      exact turned
    · rw [refreshLink_steady (by simpa [r] using was), rd_linkField_showPause event, shown]
      exact h
  · by_cases was : isSet (F.ETH.STATUS_UP pn) s = true
    · rw [refreshLink_falls was r, rd_linkField_showPause event, rd_linkField_abortAir event, rd_modPort,
        rd_linkField_pushNotice event]
      exact turned
    · rw [refreshLink_steady ((Bool.eq_false_of_not_eq_true was).trans (beq_eq_false_iff_ne.mpr r).symm),
        rd_linkField_showPause event, shown]
      exact h

/-- What a refresh keeps of its port. -/
theorem refreshLink_keeps {β : Type} {g : Port → β} {n : Nat} {s : State}
    (rises : ∀ (p : Port) x, g { p with upAt := x } = g p) (falls : ∀ (p : Port) x, g { p with pauseEnd := .none, downAt := x } = g p)
    (sent : ∀ p : Port, g { p with airFrame := .none, busy := false } = g p)
    (idle : ∀ p : Port, g { p with busy := false, airPause := .none } = g p)
    (counted : ∀ (p : Port) r, g { p with rmon := r } = g p) : g (port n (refreshLink n s)) = g (port n s) := by
  have turned : ∀ b, port n (pushNotice 8 b (linkTurned n s)) = port n s := fun b =>
    (port_pushNotice _ _ _ _).trans (port_latch _ _ _ _)
  by_cases r : downReason n s = 0
  · by_cases was : isSet (F.ETH.STATUS_UP n) s = false
    · rw [refreshLink_rises was r, port_showPause, port_modPort_same, rises, turned]
    · rw [refreshLink_steady (by simpa [r] using was), port_showPause, port_linkShown]
  · by_cases was : isSet (F.ETH.STATUS_UP n) s = true
    · rw [refreshLink_falls was r, port_showPause, abortAir_keeps sent idle counted, port_modPort_same, falls, turned]
    · rw [refreshLink_steady ((Bool.eq_false_of_not_eq_true was).trans (beq_eq_false_iff_ne.mpr r).symm), port_showPause,
        port_linkShown]

end Sys2Proof.Machine
end

section
/-! PROOF. SFP module presence, identification, diagnostics, loss of signal and accesses (R437 to R439), for
`Obligations.ModuleManagement`. -/

namespace Sys2Proof.Machine

/-! ### Registers written one after another -/

theorem sfpId_key_ne {n j k : Nat} (hj : j < 24) (hk : k < 24) (h : j ≠ k) : (F.ETH.SFP_ID n j).key ≠ (F.ETH.SFP_ID n k).key := by
  simp only [Field.key, F.ETH.SFP_ID, ne_eq]
  omega

theorem sfpDdm_key_ne {n j k : Nat} (hj : j < 3) (hk : k < 3) (h : j ≠ k) : (F.ETH.SFP_DDM n j).key ≠ (F.ETH.SFP_DDM n k).key := by
  simp only [Field.key, F.ETH.SFP_DDM, ne_eq]
  omega

/-- The registers `g 0` to `g (m - 1)`, written one after another. -/
def wrRun (g : Nat → Field) (v : Nat → Nat) (m : Nat) (s : State) : State :=
  (List.range m).foldl (fun s k => wr (g k) (v k) s) s

theorem wrRun_succ (g : Nat → Field) (v : Nat → Nat) (m : Nat) (s : State) :
    wrRun g v (m + 1) s = wr (g m) (v m) (wrRun g v m s) := by
  simp only [wrRun, List.range_succ, List.foldl_append, List.foldl_cons, List.foldl_nil]

/-- A register that none of a run of writes reaches. -/
theorem rd_wrRun_ne {f : Field} {g : Nat → Field} {v : Nat → Nat} {m : Nat} (h : ∀ k < m, f.key ≠ (g k).key) (s : State) :
    rd f (wrRun g v m s) = rd f s := by
  induction m with
  | zero => rfl
  | succ m ih => rw [wrRun_succ, rd_wr_ne _ _ _ _ (h m (by omega)), ih fun k hk => h k (by omega)]

/-- Each register of a run of writes to different registers holds what was written. -/
theorem rd_wrRun_mem {g : Nat → Field} {v : Nat → Nat} {m : Nat} (apart : ∀ k < m, ∀ j < m, j ≠ k → (g j).key ≠ (g k).key)
    {j : Nat} (hj : j < m) (s : State) : rd (g j) (wrRun g v m s) = v j % 2 ^ (g j).width := by
  induction m with
  | zero => omega
  | succ m ih =>
    rw [wrRun_succ]
    obtain rfl | below := Nat.eq_or_lt_of_le (Nat.le_of_lt_succ hj)
    · exact rd_wr_same _ _ _
    · rw [rd_wr_ne _ _ _ _ (apart m (by omega) j hj below.ne)]
      exact ih (fun k hk i hi => apart k (by omega) i (by omega)) below

theorem rd_identity {n j : Nat} (hj : j < 24) (v : Nat → Nat) (s : State) :
    rd (F.ETH.SFP_ID n j) (wrRun (F.ETH.SFP_ID n) v 24 s) = v j % 2 ^ 32 :=
  rd_wrRun_mem (fun _ hk _ hj h => sfpId_key_ne hj hk h) hj s

theorem rd_diagnostics {n j : Nat} (hj : j < 3) (v : Nat → Nat) (s : State) :
    rd (F.ETH.SFP_DDM n j) (wrRun (F.ETH.SFP_DDM n) v 3 s) = v j % 2 ^ 32 :=
  rd_wrRun_mem (fun _ hk _ hj h => sfpDdm_key_ne hj hk h) hj s

theorem rd_identity_ne {f : Field} {n : Nat} {v : Nat → Nat} (h : decide (f.off % 16384 < 256) = true) (s : State) :
    rd f (wrRun (F.ETH.SFP_ID n) v 24 s) = rd f s :=
  rd_wrRun_ne (fun k hk => by
    have := of_decide_eq_true h
    simp only [Field.key, F.ETH.SFP_ID, ne_eq]
    omega) s

theorem rd_diagnostics_ne {f : Field} {n : Nat} {v : Nat → Nat} (h : decide (f.off % 16384 < 212 ∨ 224 ≤ f.off % 16384) = true)
    (s : State) :
    rd f (wrRun (F.ETH.SFP_DDM n) v 3 s) = rd f s :=
  rd_wrRun_ne (fun k hk => by
    have := of_decide_eq_true h
    simp only [Field.key, F.ETH.SFP_DDM, ne_eq]
    omega) s

/-- The octets of a 32-bit word, the lowest first, are a value of 32 bits. -/
theorem wordOf_lt (bs : List Byte) (k : Nat) : wordOf bs k < 2 ^ 32 := by
  have bound : ∀ l : List Byte, leBytes l < 256 ^ l.length := by
    intro l
    induction l with
    | nil => decide
    | cons b l ih =>
      have hb := b.isLt
      simp only [leBytes, List.map_cons, leNat, List.length_cons, Nat.pow_succ'] at ih ⊢
      omega
  refine lt_of_lt_of_le (bound _) (le_trans (Nat.pow_le_pow_right (by decide) (List.length_take_le 4 _)) ?_)
  decide

/-! ### What the work leaves -/

/-- The fields of SFP_STATUS, and SFP_ID and SFP_DDM, are nothing that follows other state, and waiting work leaves them. -/
theorem sfp_apart (pn : Fin 2) : ∀ f ∈ [F.ETH.SFP_STATUS_PRESENT pn, F.ETH.SFP_STATUS_ID_VALID pn, F.ETH.SFP_STATUS_CC_BAD pn,
    F.ETH.SFP_STATUS_LOS pn, F.ETH.SFP_ID pn 0, F.ETH.SFP_ID pn 23, F.HEAD.EVT_LATCH (ethPage pn), F.ETH.STATUS_UP pn,
    F.ETH.STATUS_DOWN_REASON pn], followKey f.key = false ∧ inScopes airScopes f.key = false := by
  revert pn
  decide

/-! ### Presence (R437) -/

/-- What a module that left has lost: its flags, its identification and its diagnostics. -/
def forgotten (n : Nat) (s : State) : State :=
  wrRun (F.ETH.SFP_DDM n) (fun _ => 0) 3 (wrRun (F.ETH.SFP_ID n) (fun _ => 0) 24
    (wr (F.ETH.SFP_STATUS_ID_VALID n) 0 (wr (F.ETH.SFP_STATUS_CC_BAD n) 0 (wr (F.ETH.SFP_STATUS_DDM n) 0 s))))

theorem rd_present_forgotten (n : Nat) (s : State) : rd (F.ETH.SFP_STATUS_PRESENT n) (forgotten n s) = rd (F.ETH.SFP_STATUS_PRESENT n) s := by
  rw [forgotten, rd_diagnostics_ne rfl, rd_identity_ne rfl, rd_wr_apart _ _ rfl, rd_wr_apart _ _ rfl, rd_wr_apart _ _ rfl]

theorem rd_event_forgotten (n : Nat) (s : State) : rd (F.HEAD.EVT_LATCH (ethPage n)) (forgotten n s) = rd (F.HEAD.EVT_LATCH (ethPage n)) s := by
  rw [forgotten, rd_diagnostics_ne rfl, rd_identity_ne rfl, rd_wr_apart _ _ rfl, rd_wr_apart _ _ rfl, rd_wr_apart _ _ rfl]

theorem rd_valid_forgotten (n : Nat) (s : State) : rd (F.ETH.SFP_STATUS_ID_VALID n) (forgotten n s) = 0 := by
  rw [forgotten, rd_diagnostics_ne rfl, rd_identity_ne rfl, rd_wr_same]
  rfl

theorem rd_identity_forgotten (n : Nat) (s : State) : rd (F.ETH.SFP_ID n 23) (forgotten n s) = 0 := by
  rw [forgotten, rd_diagnostics_ne rfl, rd_identity (by decide)]
  rfl

theorem rd_sfpResult_ne {f : Field} {n r : Nat} {s : State}
    (busy : (f.off % 16384 == 200 && f.lo % 32 == 7) = false) (result : (f.off % 16384 == 200 && f.lo % 32 == 8) = false) :
    rd f (sfpResult n r s) = rd f s :=
  (rd_wr_apart _ _ busy).trans (rd_wr_apart _ _ result)

theorem rd_busy_sfpResult (n r : Nat) (s : State) : rd (F.ETH.SFP_STATUS_BUSY n) (sfpResult n r s) = 0 := rd_wr_same _ _ _

theorem rd_result_sfpResult (n r : Nat) (s : State) : rd (F.ETH.SFP_STATUS_RESULT n) (sfpResult n r s) = r % 8 :=
  (rd_wr_apart _ _ rfl).trans (rd_wr_same _ _ _)

theorem access_sfpResult (n r : Nat) (s : State) : (port n (sfpResult n r s)).access = none := by
  rw [sfpResult, port_wr, port_wr, port_modPort_same]

/-- What the end of a running access leaves when its module goes. -/
def accessDropped (n : Nat) (s : State) : State := if isSet (F.ETH.SFP_STATUS_BUSY n) s then sfpResult n 4 s else s

theorem rd_accessDropped_ne {f : Field} {n : Nat} {s : State}
    (busy : (f.off % 16384 == 200 && f.lo % 32 == 7) = false) (result : (f.off % 16384 == 200 && f.lo % 32 == 8) = false) :
    rd f (accessDropped n s) = rd f s := by
  unfold accessDropped
  split
  · exact rd_sfpResult_ne busy result
  · rfl

/-- The presence that a module's change shows. -/
def shownPresence (n : Nat) (absent : Bool) (s : State) : State :=
  latch (ethPage n) 3 (wrBool (F.ETH.SFP_STATUS_PRESENT n) (!absent) s)

theorem rd_present_shown (pn : Fin 2) (absent : Bool) (s : State) :
    rd (F.ETH.SFP_STATUS_PRESENT pn) (shownPresence pn absent s) = if absent then 0 else 1 := by
  have apart : (F.ETH.SFP_STATUS_PRESENT pn).key ≠ F.EVT.MSG_COUNT.key ∧
      (F.ETH.SFP_STATUS_PRESENT pn).key ≠ (F.HEAD.EVT_LATCH (ethPage pn)).key := by
    revert pn
    decide
  refine (rd_latch_ne _ _ _ _ apart.1 apart.2).trans ((rd_wr_same _ _ _).trans ?_)
  cases absent <;> rfl

theorem sfpModAbs_leaves {n : Nat} {s : State} (on : rd (F.ETH.SFP_CFG_ENABLE n) s = 1) (present : rd (F.ETH.SFP_STATUS_PRESENT n) s = 1) :
    sfpModAbs n true s = forgotten n (accessDropped n (shownPresence n true s)) := by
  rw [sfpModAbs, isSet_of_rd on, isSet_of_rd present]
  rfl

theorem sfpModAbs_arrives {n : Nat} {s : State} (on : rd (F.ETH.SFP_CFG_ENABLE n) s = 1) (absent : rd (F.ETH.SFP_STATUS_PRESENT n) s = 0) :
    sfpModAbs n false s = shownPresence n false s := by
  rw [sfpModAbs, isSet_of_rd on, isSet_of_rd absent]
  rfl

theorem latched_forgotten {n bit : Nat} {s : State} (h : eventLatched (ethPage n) bit s) : eventLatched (ethPage n) bit (forgotten n s) := by
  rw [eventLatched, rd_event_forgotten]
  exact h

theorem latched_accessDropped {n bit : Nat} {s : State} (h : eventLatched (ethPage n) bit s) :
    eventLatched (ethPage n) bit (accessDropped n s) := by
  rw [eventLatched, rd_accessDropped_ne rfl rfl]
  exact h

theorem gives_moduleLeaves {pn : Fin 2} {s : State} (on : rd (F.ETH.SFP_CFG_ENABLE pn) s = 1)
    (present : rd (F.ETH.SFP_STATUS_PRESENT pn) s = 1) :
    Gives (.sfpModAbsChange pn true) s (fun t =>
      rd (F.ETH.SFP_STATUS_PRESENT pn) t = 0 ∧ rd (F.ETH.SFP_STATUS_ID_VALID pn) t = 0 ∧ rd (F.ETH.SFP_ID pn 23) t = 0 ∧
      eventLatched (ethPage pn) 3 t ∧
      Within (([.page (ethPage pn)] : List Scope) ++ airScopes) (([.ports] : List Part) ++ airParts) s t) := by
  have apart := sfp_apart pn
  simp only [List.forall_mem_cons] at apart
  obtain ⟨presence, valid, -, -, -, identity, event, -⟩ := apart
  refine gives_air (u := sfpModAbs pn true s) rfl fun t ht => ⟨?_, ?_, ?_, ?_, ?_⟩
  · rw [ht.regs _ presence.1 presence.2, sfpModAbs_leaves on present, rd_present_forgotten, rd_accessDropped_ne rfl rfl, rd_present_shown]
    rfl
  · rw [ht.regs _ valid.1 valid.2, sfpModAbs_leaves on present, rd_valid_forgotten]
  · rw [ht.regs _ identity.1 identity.2, sfpModAbs_leaves on present, rd_identity_forgotten]
  · rw [ht.latched event.2 event.1, sfpModAbs_leaves on present]
    exact latched_forgotten (latched_accessDropped (latch_sets _ _ _ (by decide)))
  · exact (frame_sfpModAbs _ _ _).append ht

theorem gives_moduleArrives {pn : Fin 2} {s : State} (on : rd (F.ETH.SFP_CFG_ENABLE pn) s = 1)
    (absent : rd (F.ETH.SFP_STATUS_PRESENT pn) s = 0) :
    Gives (.sfpModAbsChange pn false) s (fun t =>
      rd (F.ETH.SFP_STATUS_PRESENT pn) t = 1 ∧ eventLatched (ethPage pn) 3 t ∧
      Within (([.page (ethPage pn)] : List Scope) ++ airScopes) (([.ports] : List Part) ++ airParts) s t) := by
  have apart := sfp_apart pn
  simp only [List.forall_mem_cons] at apart
  obtain ⟨presence, -, -, -, -, -, event, -⟩ := apart
  refine gives_air (u := sfpModAbs pn false s) rfl fun t ht => ⟨?_, ?_, ?_⟩
  · rw [ht.regs _ presence.1 presence.2, sfpModAbs_arrives on absent, rd_present_shown]
    rfl
  · rw [ht.latched event.2 event.1, sfpModAbs_arrives on absent]
    exact latch_sets _ _ _ (by decide)
  · exact (frame_sfpModAbs _ _ _).append ht

/-! ### Identification and diagnostics (R438) -/

/-- Whether both sums of an identification hold. -/
def sumsHold (octets : List Byte) : Bool :=
  (octets.getD 63 0).toNat == octetSum octets 0 63 && (octets.getD 95 0).toNat == octetSum octets 64 95

theorem sumsHold_iff (octets : List Byte) : sumsHold octets = true ↔
    (octets.getD 63 0).toNat = octetSum octets 0 63 ∧ (octets.getD 95 0).toNat = octetSum octets 64 95 := by
  simp only [sumsHold, Bool.and_eq_true, beq_iff_eq]

theorem sfpIdRead_shows {n : Nat} {s : State} (on : rd (F.ETH.SFP_CFG_ENABLE n) s = 1) (present : rd (F.ETH.SFP_STATUS_PRESENT n) s = 1)
    (idle : rd (F.ETH.SFP_STATUS_BUSY n) s = 0) (octets : List Byte) :
    sfpIdRead n octets s = latch (ethPage n) 3 (wrBool (F.ETH.SFP_STATUS_DDM n) ((octets.getD 92 0).toNat.testBit 6)
      (wrBool (F.ETH.SFP_STATUS_ID_VALID n) (sumsHold octets) (wrBool (F.ETH.SFP_STATUS_CC_BAD n) (!sumsHold octets)
        (wrRun (F.ETH.SFP_ID n) (wordOf octets) 24 s)))) := by
  rw [sfpIdRead, isSet_of_rd on, isSet_of_rd present, isSet_of_rd idle]
  rfl

theorem sfp_unlatched (pn : Fin 2) : ∀ f ∈ [F.ETH.SFP_STATUS_ID_VALID pn, F.ETH.SFP_STATUS_CC_BAD pn, F.ETH.SFP_ID pn 0,
    F.ETH.SFP_STATUS_LOS pn], f.key ≠ F.EVT.MSG_COUNT.key ∧ f.key ≠ (F.HEAD.EVT_LATCH (ethPage pn)).key := by
  revert pn
  decide

theorem gives_identified {pn : Fin 2} {s : State} (on : rd (F.ETH.SFP_CFG_ENABLE pn) s = 1)
    (present : rd (F.ETH.SFP_STATUS_PRESENT pn) s = 1) (idle : rd (F.ETH.SFP_STATUS_BUSY pn) s = 0) (octets : List Byte) :
    Gives (.sfpIdRead pn octets) s (fun t =>
      rd (F.ETH.SFP_STATUS_ID_VALID pn) t = (if (octets.getD 63 0).toNat = octetSum octets 0 63 ∧
        (octets.getD 95 0).toNat = octetSum octets 64 95 then 1 else 0) ∧
      rd (F.ETH.SFP_STATUS_CC_BAD pn) t = 1 - rd (F.ETH.SFP_STATUS_ID_VALID pn) t ∧
      rd (F.ETH.SFP_ID pn 0) t = leBytes (octets.take 4) ∧ eventLatched (ethPage pn) 3 t ∧
      Within (([.page (ethPage pn)] : List Scope) ++ airScopes) airParts s t) := by
  have calm := sfp_apart pn
  simp only [List.forall_mem_cons] at calm
  obtain ⟨-, valid, bad, -, identity, -, event, -⟩ := calm
  have own := sfpIdRead_shows on present idle octets
  have shown : rd (F.ETH.SFP_STATUS_ID_VALID pn) (sfpIdRead pn octets s) = if sumsHold octets then 1 else 0 := by
    obtain ⟨count, latched⟩ := sfp_unlatched pn _ (.head _)
    rw [own, rd_latch_ne _ _ _ _ count latched, rd_wrBool_apart _ _ rfl, wrBool, rd_wr_same]
    cases sumsHold octets <;> rfl
  refine gives_air (u := sfpIdRead pn octets s) rfl fun t ht => ⟨?_, ?_, ?_, ?_, ?_⟩
  · rw [ht.regs _ valid.1 valid.2, shown]
    exact if_congr (sumsHold_iff octets) rfl rfl
  · obtain ⟨count, latched⟩ := sfp_unlatched pn _ (.tail _ (.head _))
    rw [ht.regs _ valid.1 valid.2, shown, ht.regs _ bad.1 bad.2, own, rd_latch_ne _ _ _ _ count latched, rd_wrBool_apart _ _ rfl,
      rd_wrBool_apart _ _ rfl, wrBool, rd_wr_same]
    cases sumsHold octets <;> rfl
  · obtain ⟨count, latched⟩ := sfp_unlatched pn _ (.tail _ (.tail _ (.head _)))
    rw [ht.regs _ identity.1 identity.2, own, rd_latch_ne _ _ _ _ count latched, rd_wrBool_apart _ _ rfl, rd_wrBool_apart _ _ rfl,
      rd_wrBool_apart _ _ rfl, rd_identity (by decide)]
    exact Nat.mod_eq_of_lt (wordOf_lt octets 0)
  · rw [ht.latched event.2 event.1, own]
    exact latch_sets _ _ _ (by decide)
  · exact ((frame_sfpIdRead pn octets s).append ht)

theorem gives_diagnosed {pn : Fin 2} {s : State} (on : rd (F.ETH.SFP_CFG_ENABLE pn) s = 1)
    (ddm : rd (F.ETH.SFP_STATUS_DDM pn) s = 1) (idle : rd (F.ETH.SFP_STATUS_BUSY pn) s = 0) (octets : List Byte) :
    Gives (.sfpDdmPoll pn octets) s (fun t =>
      rd (F.ETH.SFP_DDM pn 0) t = leBytes (octets.take 4) ∧ Within [.page (ethPage pn)] [] s t) := by
  have own : sfpDdmPoll pn octets s = wrRun (F.ETH.SFP_DDM pn) (wordOf (octets.take 10)) 3 s := by
    rw [sfpDdmPoll, isSet_of_rd on, isSet_of_rd ddm, isSet_of_rd idle]
    rfl
  refine gives_done (t := sfpDdmPoll pn octets s) rfl ⟨?_, (frame_sfpDdmPoll pn octets s).pending⟩
  rw [rd_pending, own, rd_diagnostics (by decide), Nat.mod_eq_of_lt (wordOf_lt _ 0), wordOf, Nat.mul_zero, List.drop_zero,
    List.take_take]
  rfl

/-! ### Loss of signal (R422, R437) -/

theorem sfpLos_shows {n : Nat} {s : State} (none : rd (F.ETH.SFP_STATUS_LOS n) s = 0) :
    sfpLos n true s = refreshLink n (latch (ethPage n) 3 (wrBool (F.ETH.SFP_STATUS_LOS n) true
      (modPort n (fun p => { p with los := true }) s))) := by
  have silent : isSet (F.ETH.SFP_STATUS_LOS n) (modPort n (fun p => { p with los := true }) s) = false := by
    rw [isSet, rd_modPort, none]
    rfl
  rw [sfpLos, isSet_of_rd none, if_neg (by decide), setLos, silent, if_neg (by decide)]

theorem losReads_apart (pn : Fin 2) : ∀ f ∈ [F.ETH.MODE_LOS_USE pn, F.HEAD.STATE_STATE (ethPage pn)],
    f.key ≠ F.EVT.MSG_COUNT.key ∧ f.key ≠ (F.HEAD.EVT_LATCH (ethPage pn)).key ∧ f.key ≠ (F.ETH.SFP_STATUS_LOS pn).key := by
  revert pn
  decide

theorem losStatus_apart (pn : Fin 2) :
    inScopes [.word 0x4c 0x14, .word 0x4c 0x50, .word 0x4c 0x4c, .word 0x4c 0x48, .word 0x4c 0x44, .page 0x41, .page 0x1b,
      .word 0x20 0xdc, .word 0x20 0xd8, .word 0x20 0xd4, .word 0x20 0xd0, .word (0x38 + pn % 2) 0x74, .word (0x38 + pn % 2) 0x70,
      .word (0x38 + pn % 2) 0x14, .word (0x38 + pn % 2) 0x78, .page (0x3a + pn % 2), .word (0x38 + pn % 2) 0xac]
      (F.ETH.SFP_STATUS_LOS pn).key = false := by
  revert pn
  decide

theorem losScopes (pn : Fin 2) : ∀ x ∈ ([.word 0x4c 0x14, .word 0x4c 0x50, .word 0x4c 0x4c, .word 0x4c 0x48, .word 0x4c 0x44,
      .page 0x41, .page 0x1b, .word 0x20 0xdc, .word 0x20 0xd8, .word 0x20 0xd4, .word 0x20 0xd0, .word (0x38 + pn % 2) 0x74,
      .word (0x38 + pn % 2) 0x70, .word (0x38 + pn % 2) 0x14, .word (0x38 + pn % 2) 0x78, .page (0x3a + pn % 2),
      .word (0x38 + pn % 2) 0xac, .word (0x38 + pn % 2) 0xc8] : List Scope),
    x.among [.word (ethPage pn) 0x070, .word (ethPage pn) 0x074, .word (ethPage pn) 0x014, .word (ethPage pn) 0x078,
      .word (ethPage pn) 0x0AC, .word (ethPage pn) 0x0C8, .word 0x4C 0x014, .word 0x4C 0x050, .word 0x4C 0x04C,
      .word 0x4C 0x048, .word 0x4C 0x044, .word 0x20 0x0D0, .word 0x20 0x0D4, .word 0x20 0x0D8, .word 0x20 0x0DC, .page 0x1B,
      .page 0x41, .page (ethStatPage pn)] = true := by
  revert pn
  decide

theorem accessScopes (pn : Fin 2) : ∀ x ∈ ([.word (0x38 + pn % 2) 0x14, .word (0x38 + pn % 2) 0x28, .word (0x38 + pn % 2) 0x24,
      .word (0x38 + pn % 2) 0x20, .word (0x38 + pn % 2) 0xc8] : List Scope),
    x.among [.word (ethPage pn) 0x020, .word (ethPage pn) 0x024, .word (ethPage pn) 0x028, .word (ethPage pn) 0x014,
      .word (ethPage pn) 0x0C8] = true := by
  revert pn
  decide

theorem gives_signalLost {pn : Fin 2} {s : State} (none : rd (F.ETH.SFP_STATUS_LOS pn) s = 0) :
    Gives (.sfpLosChange pn true) s (fun t =>
      rd (F.ETH.SFP_STATUS_LOS pn) t = 1 ∧ (port pn t).los = true ∧ eventLatched (ethPage pn) 3 t ∧
      (rd (F.ETH.MODE_LOS_USE pn) s = 1 ∧ pageState (ethPage pn) s ≠ OFF →
        rd (F.ETH.STATUS_UP pn) t = 0 ∧ rd (F.ETH.STATUS_DOWN_REASON pn) t = 1) ∧
      Within (([.word (ethPage pn) 0x070, .word (ethPage pn) 0x074, .word (ethPage pn) 0x014, .word (ethPage pn) 0x078,
          .word (ethPage pn) 0x0AC, .word (ethPage pn) 0x0C8, .word 0x4C 0x014, .word 0x4C 0x050,
          .word 0x4C 0x04C, .word 0x4C 0x048, .word 0x4C 0x044, .word 0x20 0x0D0, .word 0x20 0x0D4, .word 0x20 0x0D8,
          .word 0x20 0x0DC, .page 0x1B, .page 0x41, .page (ethStatPage pn)] : List Scope) ++ airScopes)
        (([.notices, .ports, .nodes, .ledger, .ddr, .rings] : List Part) ++ airParts) s t) := by
  generalize hu : latch (ethPage pn) 3 (wrBool (F.ETH.SFP_STATUS_LOS pn) true (modPort pn (fun p => { p with los := true }) s)) = u
  have own : sfpLos pn true s = refreshLink pn u := (sfpLos_shows none).trans (congrArg _ hu)
  have frame := frame_refreshLink pn u
  have lost : (port pn u).los = true := by
    rw [← hu, port_latch, wrBool, port_wr, port_modPort_same]
  have latched : eventLatched (ethPage pn) 3 u := hu ▸ latch_sets _ _ _ (by decide)
  have kept : ∀ f ∈ [F.ETH.MODE_LOS_USE pn, F.HEAD.STATE_STATE (ethPage pn)], rd f u = rd f s := by
    intro f hf
    obtain ⟨count, event, status⟩ := losReads_apart pn f hf
    rw [← hu, rd_latch_ne _ _ _ _ count event]
    exact rd_wr_ne _ _ _ _ status
  have apart := sfp_apart pn
  simp only [List.forall_mem_cons] at apart
  obtain ⟨-, -, -, status, -, -, event, up, reason, -⟩ := apart
  refine gives_air (u := sfpLos pn true s) rfl fun t ht => ⟨?_, ?_, ?_, fun ⟨used, service⟩ => ?_, ?_⟩
  · obtain ⟨count, unlatched⟩ := sfp_unlatched pn _ (.tail _ (.tail _ (.tail _ (.head _))))
    rw [ht.regs _ status.1 status.2, own, frame.regs _ status.1 (losStatus_apart pn), ← hu, rd_latch_ne _ _ _ _ count unlatched,
      wrBool, rd_wr_same]
    rfl
  · rw [port_congr (ht.parts .ports (by decide)), own]
    exact (refreshLink_keeps (g := Port.los) (fun _ _ => rfl) (fun _ _ => rfl) (fun _ => rfl) (fun _ => rfl)
      fun _ _ => rfl).trans lost
  · rw [ht.latched event.2 event.1, own]
    exact refreshLink_latched (by decide) latched
  · have why : downReason pn u = 1 := by
      simp only [downReason, pageState, kept _ (.tail _ (.head _)), isSet, kept _ (.head _), used, lost]
      exact (if_neg service).trans rfl
    obtain ⟨shows, down⟩ := refreshLink_shows pn u
    rw [ht.regs _ up.1 up.2, ht.regs _ reason.1 reason.2, own]
    exact ⟨down (by rw [why]; decide), shows.trans why⟩
  · exact ((frame_sfpLos pn true s).mono (losScopes pn) (by decide)).append ht

/-! ### Accesses of the host (R439) -/

theorem wordCommand_sfpAccess (pn : Fin 2) (data : Word) : wordCommand (0x38 + pn) 0x0CC .bar0 data = some (sfpAccess pn data) := by
  obtain rfl | rfl : pn = 0 ∨ pn = 1 := by omega
  · rfl
  · rfl

theorem reaches_ethPage (pn : Fin 2) : reaches (0x38 + pn) .bar0 = true := by
  revert pn
  decide

theorem gives_access {pn : Fin 2} {data : Word} {s : State} (accepted : Accepted (0x38 + pn) 0x0CC data.toNat s)
    (idle : rd (F.ETH.SFP_STATUS_BUSY pn) s = 0) (on : rd (F.ETH.SFP_CFG_ENABLE pn) s = 1)
    (present : rd (F.ETH.SFP_STATUS_PRESENT pn) s = 1) :
    Gives (.sfpAccess pn data) s (fun t =>
      rd (F.ETH.SFP_STATUS_BUSY pn) t = 1 ∧ (port pn t).access = some data ∧
      Within [.word (ethPage pn) 0x020, .word (ethPage pn) 0x024, .word (ethPage pn) 0x028, .word (ethPage pn) 0x014,
        .word (ethPage pn) 0x0C8] [.spi, .ports] s t) := by
  have own : sfpAccess pn data s =
      wr (F.ETH.SFP_STATUS_BUSY pn) 1 (modPort pn (fun p => { p with access := some data, retries := 0 }) s) := by
    rw [sfpAccess, isSet_of_rd idle, isSet_of_rd present, isSet_of_rd on]
    rfl
  have run : exec (.sfpAccess pn data) s = done s (sfpAccess pn data s) := by
    rw [← regWrite_accepted accepted (wordCommand_sfpAccess pn data) (reaches_ethPage pn) (by decide) (by decide)]
    rfl
  refine gives_done run ⟨?_, ?_, ((frame_sfpAccess pn data s).mono (accessScopes pn) (by decide)).pending⟩
  · rw [rd_pending, own, rd_wr_same]
    rfl
  · rw [port_pending, own, port_wr, port_modPort_same]

theorem gives_accessDone {pn : Fin 2} {nack timeout : Bool} {octet : Byte} {s : State} {w : Word} (running : (port pn s).access = some w) :
    Gives (.sfpAccessDone pn nack timeout octet) s (fun t =>
      rd (F.ETH.SFP_STATUS_BUSY pn) t = 0 ∧ rd (F.ETH.SFP_STATUS_RESULT pn) t = (if timeout then 3 else if nack then 2 else 1) ∧
      (port pn t).access = none ∧
      rd (F.ETH.SFP_READ_DATA pn) t = (if timeout = false ∧ nack = false ∧ w.getLsbD 9 = false then octet.toNat
        else rd (F.ETH.SFP_READ_DATA pn) s) ∧
      Within [.word (ethPage pn) 0x0C8, .word (ethPage pn) 0x0D0] [.ports] s t) := by
  have own : sfpAccessDone pn nack timeout octet s = sfpResult pn (if timeout then 3 else if nack then 2 else 1)
      (if timeout = false ∧ nack = false ∧ w.getLsbD 9 = false then wr (F.ETH.SFP_READ_DATA pn) octet.toNat s else s) := by
    simp only [sfpAccessDone, running]
    cases timeout <;> cases nack <;> cases w.getLsbD 9 <;> rfl
  refine gives_done (t := sfpAccessDone pn nack timeout octet s) rfl
    ⟨?_, ?_, ?_, ?_, (frame_sfpAccessDone pn nack timeout octet s).pending⟩
  · rw [rd_pending, own, rd_busy_sfpResult]
  · rw [rd_pending, own, rd_result_sfpResult]
    split_ifs <;> rfl
  · rw [port_pending, own, access_sfpResult]
  · rw [rd_pending, own, rd_sfpResult_ne rfl rfl]
    split
    · exact (rd_wr_same _ _ _).trans (Nat.mod_eq_of_lt octet.isLt)
    · rfl

theorem gives_retry {pn : Fin 2} {s : State} {w : Word} (running : (port pn s).access = some w) (left : (port pn s).retries < 3) :
    Gives (.sfpNackRetry pn) s (fun t =>
      (port pn t).retries = (port pn s).retries + 1 ∧ (port pn t).access = some w ∧
      Within [.word (ethPage pn) 0x0C8] [.ports] s t) := by
  have own : sfpNackRetry pn s = modPort pn (fun p => { p with retries := p.retries + 1 }) s := by
    rw [sfpNackRetry, running, Option.isNone_some, if_neg Bool.false_ne_true, if_neg (by omega)]
  refine gives_done (t := sfpNackRetry pn s) rfl ⟨?_, ?_, (frame_sfpNackRetry pn s).pending⟩
  · rw [port_pending, own, port_modPort_same]
  · rw [port_pending, own, port_modPort_same]
    exact running

theorem gives_refused {pn : Fin 2} {s : State} {w : Word} (running : (port pn s).access = some w) (spent : 3 ≤ (port pn s).retries) :
    Gives (.sfpNackRetry pn) s (fun t =>
      rd (F.ETH.SFP_STATUS_RESULT pn) t = 2 ∧ rd (F.ETH.SFP_STATUS_BUSY pn) t = 0 ∧ (port pn t).access = none ∧
      Within [.word (ethPage pn) 0x0C8] [.ports] s t) := by
  have own : sfpNackRetry pn s = sfpResult pn 2 s := by
    rw [sfpNackRetry, running, Option.isNone_some, if_neg Bool.false_ne_true, if_pos spent]
  refine gives_done (t := sfpNackRetry pn s) rfl ⟨?_, ?_, ?_, (frame_sfpNackRetry pn s).pending⟩
  · rw [rd_pending, own, rd_result_sfpResult]
  · rw [rd_pending, own, rd_busy_sfpResult]
  · rw [port_pending, own, access_sfpResult]

/-- Settles O39. -/
theorem moduleManagement : Obligations.ModuleManagement := by
  unfold Obligations.ModuleManagement
  refine ⟨?_, ?_, ?_, ?_, ?_, ?_, ?_, ?_, ?_⟩
  · rintro pn _ s on rfl present
    exact gives_moduleLeaves on present
  · rintro pn _ s on rfl absent
    exact gives_moduleArrives on absent
  · exact fun pn octets s on present idle => gives_identified on present idle octets
  · exact fun pn octets s on ddm idle => gives_diagnosed on ddm idle octets
  · rintro pn _ s none rfl
    exact gives_signalLost none
  · exact fun pn data s accepted idle on present => gives_access accepted idle on present
  · exact fun pn nack timeout octet s w running => gives_accessDone running
  · exact fun pn s w running left => gives_retry running left
  · exact fun pn s w running spent => gives_refused running spent

end Sys2Proof.Machine
end

section
/-! PROOF. A port's link, the reception of its frames and the reads of its counters (R422, R425 to R428, R436), for
`Obligations.LinksAndReception`. -/

namespace Sys2Proof.Machine

/-! ### The link (R422) -/

/-- The conditions of a port as its link change gives them, before the link follows. -/
def conditionsTaken (n : Nat) (los sync anDone fullDuplex remote partnerPause partnerAsm : Bool) (speed : Nat) (s : State) : State :=
  modPort n (fun p => { p with sync, anDone, fullDuplex, remote, partnerPause, partnerAsm, speed }) (setLos n los s)

theorem los_setLos (n : Nat) (level : Bool) (s : State) : (port n (setLos n level s)).los = level := by
  simp only [setLos]
  split
  · rw [port_modPort_same]
  · rw [port_latch, wrBool, port_wr, port_modPort_same]

section
variable {pn : Fin 2} {los sync anDone fullDuplex remote partnerPause partnerAsm : Bool} {speed : Nat} {s : State}

theorem linkReads_apart (pn : Fin 2) : ∀ f ∈ [F.HEAD.STATE_STATE (ethPage pn), F.ETH.MODE_SEL pn, F.ETH.STATUS_UP pn, F.ETH.LINK_CHANGES pn],
    followKey f.key = false ∧ inScopes [.word (0x38 + pn % 2) 0x14, .word (0x38 + pn % 2) 0xc8] f.key = false := by
  revert pn
  decide

theorem rd_conditionsTaken {f : Field}
    (hf : f ∈ [F.HEAD.STATE_STATE (ethPage pn), F.ETH.MODE_SEL pn, F.ETH.STATUS_UP pn, F.ETH.LINK_CHANGES pn]) :
    rd f (conditionsTaken pn los sync anDone fullDuplex remote partnerPause partnerAsm speed s) = rd f s := by
  obtain ⟨follow, out⟩ := linkReads_apart pn f hf
  rw [conditionsTaken, rd_modPort]
  exact (frame_setLos pn los s).regs f follow out

theorem downReason_conditionsTaken (service : pageState (ethPage pn) s ≠ OFF) :
    downReason pn (conditionsTaken pn false sync anDone fullDuplex remote partnerPause partnerAsm speed s) =
      if !sync then 2
      else
        let an := isSet (F.ETH.MODE_AN pn) (conditionsTaken pn false sync anDone fullDuplex remote partnerPause partnerAsm speed s) &&
          decide (3 ≤ rd (F.ETH.MODE_SEL pn) s)
        if an && !anDone then 3 else if an && !fullDuplex then 4 else if remote then 5 else 0 := by
  have on : pageState (ethPage pn) (conditionsTaken pn false sync anDone fullDuplex remote partnerPause partnerAsm speed s) ≠ OFF := by
    rw [pageState, rd_conditionsTaken (.head _)]
    exact service
  have sel : rd (F.ETH.MODE_SEL pn) (conditionsTaken pn false sync anDone fullDuplex remote partnerPause partnerAsm speed s) =
      rd (F.ETH.MODE_SEL pn) s := rd_conditionsTaken (.tail _ (.head _))
  have taken : port pn (conditionsTaken pn false sync anDone fullDuplex remote partnerPause partnerAsm speed s) =
      { port pn (setLos pn false s) with sync, anDone, fullDuplex, remote, partnerPause, partnerAsm, speed } :=
    port_modPort_same _ _ _
  have los := los_setLos pn false s
  simp only [downReason, if_neg on, taken, los, sel, Bool.and_false, Bool.false_eq_true, if_false]

theorem linkScopes (pn : Fin 2) : ∀ x ∈ ([.word 0x4c 0x14, .word 0x4c 0x50, .word 0x4c 0x4c, .word 0x4c 0x48, .word 0x4c 0x44,
      .page 0x41, .page 0x1b, .word 0x20 0xdc, .word 0x20 0xd8, .word 0x20 0xd4, .word 0x20 0xd0, .word (0x38 + pn % 2) 0x74,
      .word (0x38 + pn % 2) 0x70, .word (0x38 + pn % 2) 0x14, .word (0x38 + pn % 2) 0x78, .page (0x3a + pn % 2),
      .word (0x38 + pn % 2) 0xac, .word (0x38 + pn % 2) 0xc8] : List Scope),
    x.among [.word (ethPage pn) 0x070, .word (ethPage pn) 0x074, .word (ethPage pn) 0x014, .word (ethPage pn) 0x078,
      .word (ethPage pn) 0x0AC, .word 0x4C 0x014, .word 0x4C 0x050, .word 0x4C 0x04C, .word 0x4C 0x048, .word 0x4C 0x044,
      .word 0x20 0x0D0, .word 0x20 0x0D4, .word 0x20 0x0D8, .word 0x20 0x0DC, .page 0x1B, .page 0x41, .page (ethStatPage pn),
      .word (ethPage pn) 0x0C8] = true := by
  revert pn
  decide

/-- The frame of a link change. -/
theorem linkChange_within {speed : Fin 4} {t : State}
    (ht : Within airScopes airParts (ethLinkChange pn los sync anDone fullDuplex remote partnerPause partnerAsm speed s) t) :
    Within (([.word (ethPage pn) 0x070, .word (ethPage pn) 0x074, .word (ethPage pn) 0x014, .word (ethPage
      pn) 0x078, .word (ethPage pn) 0x0AC, .word 0x4C 0x014, .word 0x4C 0x050, .word 0x4C 0x04C, .word 0x4C
      0x048, .word 0x4C 0x044, .word 0x20 0x0D0, .word 0x20 0x0D4, .word 0x20 0x0D8, .word 0x20 0x0DC, .page 0x1B,
      .page 0x41, .page (ethStatPage pn), .word (ethPage pn) 0x0C8] : List Scope) ++ airScopes) (([.notices,
      .ports, .nodes, .ledger, .ddr, .rings] : List Part) ++ airParts) s t :=
  ((frame_ethLinkChange pn los sync anDone fullDuplex remote partnerPause partnerAsm speed s).mono (linkScopes pn)
    (by decide)).append ht

end

theorem gives_linkUp {pn : Fin 2} {anDone fullDuplex partnerPause partnerAsm : Bool} {speed : Fin 4} {s : State}
    (service : pageState (ethPage pn) s ≠ OFF) (mode : rd (F.ETH.MODE_SEL pn) s < 3) (down : rd (F.ETH.STATUS_UP pn) s = 0) :
    Gives (.ethLinkChange pn false true anDone fullDuplex false partnerPause partnerAsm speed) s (fun t =>
      rd (F.ETH.STATUS_UP pn) t = 1 ∧ rd (F.ETH.STATUS_DOWN_REASON pn) t = 0 ∧
      rd (F.ETH.LINK_CHANGES pn) t = min (rd (F.ETH.LINK_CHANGES pn) s + 1) 65535 ∧ eventLatched (ethPage pn) 0 t ∧
      Within (([.word (ethPage pn) 0x070, .word (ethPage pn) 0x074, .word (ethPage pn) 0x014, .word (ethPage
        pn) 0x078, .word (ethPage pn) 0x0AC, .word 0x4C 0x014, .word 0x4C 0x050, .word 0x4C 0x04C, .word 0x4C
        0x048, .word 0x4C 0x044, .word 0x20 0x0D0, .word 0x20 0x0D4, .word 0x20 0x0D8, .word 0x20 0x0DC, .page 0x1B,
        .page 0x41, .page (ethStatPage pn), .word (ethPage pn) 0x0C8] : List Scope) ++ airScopes) (([.notices,
        .ports, .nodes, .ledger, .ddr, .rings] : List Part) ++ airParts) s t) := by
  have free : downReason pn (conditionsTaken pn false true anDone fullDuplex false partnerPause partnerAsm speed s) = 0 := by
    rw [downReason_conditionsTaken service]
    simp [show ¬ 3 ≤ rd (F.ETH.MODE_SEL pn) s by omega]
  have was : isSet (F.ETH.STATUS_UP pn) (conditionsTaken pn false true anDone fullDuplex false partnerPause partnerAsm speed s) = false := by
    rw [isSet, rd_conditionsTaken (.tail _ (.tail _ (.head _))), down]
    rfl
  obtain ⟨up, changes, latched⟩ := refreshLink_rises_shows was free
  have reason := (refreshLink_shows pn (conditionsTaken pn false true anDone fullDuplex false partnerPause partnerAsm speed s)).1
  have calm := linkFields_apart pn
  simp only [linkFields, List.forall_mem_cons] at calm
  obtain ⟨⟨fu, ou, -⟩, ⟨fr, or, -⟩, ⟨fc, oc, -⟩, ⟨fe, oe, -⟩, -⟩ := calm
  refine gives_air (u := ethLinkChange pn false true anDone fullDuplex false partnerPause partnerAsm speed s) rfl
    fun t ht => ⟨?_, ?_, ?_, ?_, linkChange_within ht⟩
  · exact (ht.regs _ fu ou).trans up
  · exact (ht.regs _ fr or).trans (reason.trans free)
  · exact (ht.regs _ fc oc).trans (changes.trans (by rw [rd_conditionsTaken (.tail _ (.tail _ (.tail _ (.head _))))]))
  · exact (ht.latched oe fe).mpr latched

theorem gives_linkDown {pn : Fin 2} {anDone fullDuplex remote partnerPause partnerAsm : Bool} {speed : Fin 4} {s : State}
    (service : pageState (ethPage pn) s ≠ OFF) (up : rd (F.ETH.STATUS_UP pn) s = 1) :
    Gives (.ethLinkChange pn false false anDone fullDuplex remote partnerPause partnerAsm speed) s (fun t =>
      rd (F.ETH.STATUS_UP pn) t = 0 ∧ rd (F.ETH.STATUS_DOWN_REASON pn) t = 2 ∧ (port pn t).pauseEnd = none ∧
      eventLatched (ethPage pn) 0 t ∧
      Within (([.word (ethPage pn) 0x070, .word (ethPage pn) 0x074, .word (ethPage pn) 0x014, .word (ethPage
        pn) 0x078, .word (ethPage pn) 0x0AC, .word 0x4C 0x014, .word 0x4C 0x050, .word 0x4C 0x04C, .word 0x4C
        0x048, .word 0x4C 0x044, .word 0x20 0x0D0, .word 0x20 0x0D4, .word 0x20 0x0D8, .word 0x20 0x0DC, .page 0x1B,
        .page 0x41, .page (ethStatPage pn), .word (ethPage pn) 0x0C8] : List Scope) ++ airScopes) (([.notices,
        .ports, .nodes, .ledger, .ddr, .rings] : List Part) ++ airParts) s t) := by
  have why : downReason pn (conditionsTaken pn false false anDone fullDuplex remote partnerPause partnerAsm speed s) = 2 := by
    rw [downReason_conditionsTaken service]
    rfl
  have was : isSet (F.ETH.STATUS_UP pn) (conditionsTaken pn false false anDone fullDuplex remote partnerPause partnerAsm speed s) = true := by
    rw [isSet, rd_conditionsTaken (.tail _ (.tail _ (.head _))), up]
    rfl
  obtain ⟨pause, latched⟩ := refreshLink_falls_shows was (by rw [why]; decide)
  obtain ⟨reason, falls⟩ := refreshLink_shows pn (conditionsTaken pn false false anDone fullDuplex remote partnerPause partnerAsm speed s)
  have calm := linkFields_apart pn
  simp only [linkFields, List.forall_mem_cons] at calm
  obtain ⟨⟨fu, ou, -⟩, ⟨fr, or, -⟩, -, ⟨fe, oe, -⟩, -⟩ := calm
  refine gives_air (u := ethLinkChange pn false false anDone fullDuplex remote partnerPause partnerAsm speed s) rfl
    fun t ht => ⟨?_, ?_, ?_, ?_, linkChange_within ht⟩
  · exact (ht.regs _ fu ou).trans (falls (by rw [why]; decide))
  · exact (ht.regs _ fr or).trans (reason.trans why)
  · rw [port_congr (ht.parts .ports (by decide))]
    exact pause
  · exact (ht.latched oe fe).mpr latched

/-! ### Reception (R425 to R428) -/

/-- Of port `n`, at most the RMON set differs. -/
def Counted (n : Nat) (s t : State) : Prop := ∃ r, port n t = { port n s with rmon := r }

theorem Counted.refl (n : Nat) (s : State) : Counted n s s := ⟨_, rfl⟩

theorem Counted.add {n : Nat} {s t : State} (h : Counted n s t) (i v : Nat) : Counted n s (rmonAdd n i v t) := by
  obtain ⟨r, hr⟩ := h
  obtain ⟨q, hq⟩ := port_rmonAdd n i v t
  exact ⟨q, by rw [hq, hr]⟩

theorem Counted.ite {n : Nat} {s t u : State} {p : Prop} [Decidable p] (ht : Counted n s t) (hu : Counted n s u) :
    Counted n s (if p then t else u) := by
  split
  · exact ht
  · exact hu

theorem counted_rmonReceive (n size : Nat) (fcsOk code : Bool) (f : EthFrame) (s : State) :
    Counted n s (rmonReceive n size fcsOk code f s) := by
  have octets := ((Counted.refl n s).add 0 size).add 3 1
  have coded := (octets.add 19 1).ite (p := code = true) octets
  refine (coded.add _ _).ite ((coded.add _ _).ite ?_)
  have sized := coded.add (7 + sizeBin size) 1
  refine (sized.add _ _).ite ?_
  have good := (sized.add 1 size).add (castCounter 4 (castOf f.dst)) 1
  exact (good.add _ _).ite good

theorem ethFields_apart (pn : Fin 2) : ∀ f ∈ [F.HEAD.STATE_STATE (ethPage pn), F.ETH.STATUS_UP pn, F.ETH.MAX_FRAME pn,
    F.ETH.RX_RUNT pn, F.ETH.RX_FCS pn, F.ETH.RX_GOOD pn], followKey f.key = false ∧ inScopes [.page (0x3a + pn % 2)] f.key = false := by
  revert pn
  decide

theorem port_close (n id : Nat) (d : Disp) (s : State) : port n (close id d s) = port n s := rfl

theorem rd_close (f : Field) (id : Nat) (d : Disp) (s : State) : rd f (close id d s) = rd f s := rfl

theorem Gives.imp {c : Instr} {s : State} {P Q : State → Prop} (h : Gives c s P) (k : ∀ t, P t → Q t) : Gives c s Q := by
  obtain ⟨t, run, ht⟩ := h
  exact ⟨t, run, k t ht⟩

/-- A frame's pause, where it is one, ends its port's at a time of its own. -/
theorem port_loadPause (n q : Nat) (s : State) : ∃ e, port n (loadPause n q s) = { port n s with pauseEnd := e } := by
  simp only [loadPause]
  split_ifs
  · exact ⟨_, rfl⟩
  · exact ⟨_, (port_showPause _ _ _).trans (port_modPort_same _ _ _)⟩
  · exact ⟨_, (port_latch _ _ _ _).trans ((port_showPause _ _ _).trans (port_modPort_same _ _ _))⟩

theorem port_showOctets (n m : Nat) (s : State) : port m (showOctets n s) = port m s := rfl

theorem good_loadPause (pn : Fin 2) : followKey (F.ETH.RX_GOOD pn).key = false ∧
    inScopes [.word (0x38 + pn % 2) 0x74, .word (0x38 + pn % 2) 0x70, .word (0x38 + pn % 2) 0x14] (F.ETH.RX_GOOD pn).key = false := by
  revert pn
  decide

/-- A good frame counted with its octets. -/
def goodCounted (n size : Nat) (s : State) : State :=
  showOctets n (inc (F.ETH.RX_GOOD n) (modPort n (fun p => { p with rxOctets := (p.rxOctets + size) % 2 ^ 64 }) s))

/-- A good frame's pause taken, where it is a PAUSE frame. -/
def pauseTaken (n : Nat) (f : EthFrame) (s : State) : State := if isPause n f s then loadPause n f.pauseTime s else s

/-- The receive timestamp of a frame that began `ago` earlier. -/
def stampOf (n ago : Nat) (s : State) : Nat :=
  ((s.clock.device : Int) / 2 ^ 16 - ago + rdInt (F.PTP.RX_CORR_NS n) s * 2 ^ 16).toNat

theorem port_goodCounted (n size : Nat) (s : State) :
    port n (goodCounted n size s) = { port n s with rxOctets := ((port n s).rxOctets + size) % 2 ^ 64 } := by
  rw [goodCounted, port_showOctets, inc, port_wr, port_modPort_same]

theorem state_goodCounted (pn : Fin 2) (size : Nat) (s : State) :
    pageState (ethPage pn) (goodCounted pn size s) = pageState (ethPage pn) s := by
  rw [pageState, goodCounted, showOctets, rd_wr_apart _ _ rfl, rd_wr_apart _ _ rfl, inc, rd_wr_apart _ _ rfl]
  rfl

theorem rd_good_goodCounted (n size : Nat) (s : State) :
    rd (F.ETH.RX_GOOD n) (goodCounted n size s) = (rd (F.ETH.RX_GOOD n) s + 1) % 2 ^ 32 := by
  rw [goodCounted, showOctets, rd_wr_apart _ _ rfl, rd_wr_apart _ _ rfl, inc, rd_wr_same, rd_modPort]
  rfl

theorem port_pauseTaken (n : Nat) (f : EthFrame) (s : State) : ∃ e, port n (pauseTaken n f s) = { port n s with pauseEnd := e } := by
  rw [pauseTaken]
  split
  · exact port_loadPause _ _ _
  · exact ⟨_, rfl⟩

theorem pauseTaken_keeps (pn : Fin 2) (f : EthFrame) (s : State) :
    rd (F.ETH.RX_GOOD pn) (pauseTaken pn f s) = rd (F.ETH.RX_GOOD pn) s ∧ (pauseTaken pn f s).nextFrame = s.nextFrame := by
  obtain ⟨follow, out⟩ := good_loadPause pn
  have frame := frame_loadPause pn f.pauseTime s
  rw [pauseTaken]
  split
  · exact ⟨frame.regs _ follow out, frame.parts .frameNumbers (by decide)⟩
  · exact ⟨rfl, rfl⟩

theorem receptionScopes (pn : Fin 2) : ∀ x ∈ ([.page (0x3a + pn % 2), .word (0x38 + pn % 2) 0x74, .word (0x38 + pn % 2) 0x70,
      .word (0x38 + pn % 2) 0x14, .word (0x38 + pn % 2) 0x84, .word (0x38 + pn % 2) 0x88, .word (0x38 + pn % 2) 0x8c,
      .word (0x38 + pn % 2) 0x90, .word (0x38 + pn % 2) 0xb4, .word (0x38 + pn % 2) 0xbc, .word (0x38 + pn % 2) 0x80] : List Scope),
    x.among [.page (ethStatPage pn), .page (ethPage pn)] = true := by
  revert pn
  decide

theorem receptionCalm (pn : Fin 2) : ∀ k ∈ calmKeys, inScopes [.page (ethStatPage pn), .page (ethPage pn)] k = false := by
  revert pn
  decide

theorem receptionFollow (pn : Fin 2) : ∀ f ∈ [F.ETH.RX_RUNT pn, F.ETH.RX_FCS pn, F.ETH.RX_GOOD pn], followKey f.key = false := by
  revert pn
  decide

theorem octetScopes (pn : Fin 2) : ∀ x ∈ ([.word (0x38 + pn % 2) 0xb4, .word (0x38 + pn % 2) 0xbc, .word (0x38 + pn % 2) 0xc0,
      .word (0x38 + pn % 2) 0xb8] : List Scope),
    x.among [.word (ethPage pn) 0x0C0, .word (ethPage pn) 0x0B8, .word (ethPage pn) 0x0B4, .word (ethPage pn) 0x0BC] = true := by
  revert pn
  decide

section
variable {pn : Fin 2} {size : Nat} {fcsOk code : Bool} {f : EthFrame} {s : State}

theorem rd_rmonReceive {g : Field} (hg : g ∈ [F.HEAD.STATE_STATE (ethPage pn), F.ETH.STATUS_UP pn, F.ETH.MAX_FRAME pn,
    F.ETH.RX_RUNT pn, F.ETH.RX_FCS pn, F.ETH.RX_GOOD pn]) : rd g (rmonReceive pn size fcsOk code f s) = rd g s := by
  obtain ⟨follow, out⟩ := ethFields_apart pn g hg
  exact (frame_rmonReceive pn size fcsOk code f s).regs g follow out

theorem receptionOpen_rmonReceive (at' : Nat) : receptionOpen pn at' (rmonReceive pn size fcsOk code f s) = receptionOpen pn at' s := by
  obtain ⟨r, hr⟩ := counted_rmonReceive pn size fcsOk code f s
  simp only [receptionOpen, hr, pageState, isSet, rd_rmonReceive (.head _), rd_rmonReceive (.tail _ (.head _))]

/-- A frame that the RMON set has counted and that has its number. -/
def arrived (n size : Nat) (fcsOk code : Bool) (f : EthFrame) (s : State) : State :=
  let t := rmonReceive n size fcsOk code f s
  { t with nextFrame := t.nextFrame + 1 }

/-- A frame in service at an open port is judged by its size, its FCS and the room for it. -/
theorem ethFrameEnd_judged {since ago : Nat} (opened : receptionOpen pn (s.now - since) s = true)
    (run : pageState (ethPage pn) s = RUN) (up : rd (F.ETH.STATUS_UP pn) s = 1) :
    ethFrameEnd pn size fcsOk code since ago f s =
      (let t := arrived pn size fcsOk code f s
      if size < 64 then close s.nextFrame .dropEthRunt (inc (F.ETH.RX_RUNT pn) t)
      else if rd (F.ETH.MAX_FRAME pn) t < size then close s.nextFrame .dropEthGiant (inc (F.ETH.RX_GIANT pn) t)
      else if !fcsOk then close s.nextFrame .dropEthFcs (inc (F.ETH.RX_FCS pn) t)
      else if stagingFull pn size t then close s.nextFrame .dropRingFull (rmon pn 23 (inc (F.ETH.RX_NO_BUFFER pn) t))
      else
        let u := goodCounted pn size t
        if begunDraining pn (s.now - since) u then close s.nextFrame .dropDisabled u
        else
          modPort pn (fun p => { p with staging := p.staging ++ [{ frame := s.nextFrame, size, eth := f, stamp := stampOf pn ago u }] })
            (pauseTaken pn f u)) := by
  have number : (rmonReceive pn size fcsOk code f s).nextFrame = s.nextFrame :=
    (frame_rmonReceive pn size fcsOk code f s).parts .frameNumbers (by decide)
  have link : isSet (F.ETH.STATUS_UP pn) s = true := isSet_of_rd up
  simp only [ethFrameEnd, link, Bool.true_or, Bool.and_true, run, if_neg (show ¬ RUN = OFF by decide),
    show ((RUN = STOPPED ∨ RUN = DRAINING) ↔ False) by decide, false_and, if_false, receptionOpen_rmonReceive, opened,
    Bool.not_true, Bool.false_eq_true, newFrame, number, arrived, ne_eq, not_true_eq_false, goodCounted,
    pauseTaken, stampOf]

theorem frame_arrived : Within [.page (0x3a + pn % 2)] [.ports, .frameNumbers] s (arrived pn size fcsOk code f s) :=
  ((frame_rmonReceive pn size fcsOk code f s).mono (fun x hx => by simp_all [Scope.among]) (by decide)).trans
    ((Within.refl _ _ _).set_nextFrame (by decide))

theorem counted_arrived : Counted pn s (arrived pn size fcsOk code f s) := counted_rmonReceive pn size fcsOk code f s

theorem rd_arrived {g : Field} (hg : g ∈ [F.HEAD.STATE_STATE (ethPage pn), F.ETH.STATUS_UP pn, F.ETH.MAX_FRAME pn,
    F.ETH.RX_RUNT pn, F.ETH.RX_FCS pn, F.ETH.RX_GOOD pn]) : rd g (arrived pn size fcsOk code f s) = rd g s := rd_rmonReceive hg

theorem ledger_arrived : (arrived pn size fcsOk code f s).ledger = s.ledger := frame_arrived.parts .ledger (by decide)

/-- What an end of reception gives where nothing waits: its own effect. -/
theorem gives_frameEnd {since ago : Nat} {P : State → Prop} (calm : Calm s = true)
    (k : ∀ t, Within [] [] (ethFrameEnd pn size fcsOk code since ago f s) t → P t) :
    Gives (.ethFrameEnd pn size fcsOk code since ago f) s (fun t => P t ∧
      Within (([.page (ethStatPage pn), .page (ethPage pn)] : List Scope) ++ airScopes)
        (([.ports, .frameNumbers, .ledger] : List Part) ++ airParts) s t) := by
  have frame : Within [.page (ethStatPage pn), .page (ethPage pn)] [.ports, .frameNumbers, .ledger] s
      (ethFrameEnd pn size fcsOk code since ago f s) :=
    (frame_ethFrameEnd pn size fcsOk code since ago f s).mono (receptionScopes pn) (by decide)
  refine gives_calm (u := ethFrameEnd pn size fcsOk code since ago f s) rfl
    ((frame.calm (by decide) (receptionCalm pn)).trans calm) fun t ht => ⟨k t ht, ?_⟩
  exact frame.append (ht.mono (by simp) (by simp))

variable {since ago : Nat} (opened : receptionOpen pn (s.now - since) s = true) (run : pageState (ethPage pn) s = RUN)
  (up : rd (F.ETH.STATUS_UP pn) s = 1) (calm : Calm s = true)
include opened run up calm

theorem gives_runt (short : size < 64) :
    Gives (.ethFrameEnd pn size fcsOk code since ago f) s (fun t =>
      ((port pn t).staging = (port pn s).staging ∧ rd (F.ETH.RX_RUNT pn) t = (rd (F.ETH.RX_RUNT pn) s + 1) % 2 ^ 32 ∧
      t.ledger = (s.nextFrame, .dropEthRunt) :: s.ledger) ∧
      Within (([.page (ethStatPage pn), .page (ethPage pn)] : List Scope) ++ airScopes)
        (([.ports, .frameNumbers, .ledger] : List Part) ++ airParts) s t) := by
  have own : ethFrameEnd pn size fcsOk code since ago f s =
      close s.nextFrame .dropEthRunt (inc (F.ETH.RX_RUNT pn) (arrived pn size fcsOk code f s)) := by
    rw [ethFrameEnd_judged opened run up]
    exact if_pos short
  obtain ⟨r, hr⟩ := counted_arrived (pn := pn) (size := size) (fcsOk := fcsOk) (code := code) (f := f) (s := s)
  refine gives_frameEnd calm fun t ht => ⟨?_, ?_, ?_⟩
  · rw [port_congr (ht.parts .ports List.not_mem_nil), own, port_close, inc, port_wr, hr]
  · rw [ht.regs _ (receptionFollow pn _ (.head _)) rfl, own, rd_close, inc, rd_wr_same, rd_arrived (by simp)]
    rfl
  · rw [show t.ledger = _ from ht.parts .ledger List.not_mem_nil, own, close, inc, wr_ledger, ledger_arrived]

theorem gives_badFcs (bad : fcsOk = false) (whole : 64 ≤ size) (fits : size ≤ rd (F.ETH.MAX_FRAME pn) s) :
    Gives (.ethFrameEnd pn size fcsOk code since ago f) s (fun t =>
      ((port pn t).staging = (port pn s).staging ∧ rd (F.ETH.RX_FCS pn) t = (rd (F.ETH.RX_FCS pn) s + 1) % 2 ^ 32 ∧
      t.ledger = (s.nextFrame, .dropEthFcs) :: s.ledger) ∧
      Within (([.page (ethStatPage pn), .page (ethPage pn)] : List Scope) ++ airScopes)
        (([.ports, .frameNumbers, .ledger] : List Part) ++ airParts) s t) := by
  have own : ethFrameEnd pn size fcsOk code since ago f s =
      close s.nextFrame .dropEthFcs (inc (F.ETH.RX_FCS pn) (arrived pn size fcsOk code f s)) := by
    rw [ethFrameEnd_judged opened run up]
    dsimp only
    rw [if_neg (by omega), rd_arrived (by simp), if_neg (by omega), bad, Bool.not_false, if_pos rfl]
  obtain ⟨r, hr⟩ := counted_arrived (pn := pn) (size := size) (fcsOk := fcsOk) (code := code) (f := f) (s := s)
  refine gives_frameEnd calm fun t ht => ⟨?_, ?_, ?_⟩
  · rw [port_congr (ht.parts .ports List.not_mem_nil), own, port_close, inc, port_wr, hr]
  · rw [ht.regs _ (receptionFollow pn _ (.tail _ (.head _))) rfl, own, rd_close, inc, rd_wr_same, rd_arrived (by simp)]
    rfl
  · rw [show t.ledger = _ from ht.parts .ledger List.not_mem_nil, own, close, inc, wr_ledger, ledger_arrived]

theorem gives_staged (early : begunDraining pn (s.now - since) s = false) (good : fcsOk = true) (whole : 64 ≤ size)
    (fits : size ≤ rd (F.ETH.MAX_FRAME pn) s) (room : stagingFull pn size s = false) :
    Gives (.ethFrameEnd pn size fcsOk code since ago f) s (fun t =>
      ((port pn t).staging.length = (port pn s).staging.length + 1 ∧
      (port pn t).staging.getLast?.map (fun x => (x.frame, x.size)) = some (s.nextFrame, size) ∧
      rd (F.ETH.RX_GOOD pn) t = (rd (F.ETH.RX_GOOD pn) s + 1) % 2 ^ 32 ∧
      (port pn t).rxOctets = ((port pn s).rxOctets + size) % 2 ^ 64 ∧
      t.nextFrame = s.nextFrame + 1) ∧
      Within (([.page (ethStatPage pn), .page (ethPage pn)] : List Scope) ++ airScopes)
        (([.ports, .frameNumbers, .ledger] : List Part) ++ airParts) s t) := by
  obtain ⟨r, hr⟩ := counted_arrived (pn := pn) (size := size) (fcsOk := fcsOk) (code := code) (f := f) (s := s)
  have full : stagingFull pn size (arrived pn size fcsOk code f s) = false := by
    rw [stagingFull, hr]
    exact room
  have before : begunDraining pn (s.now - since) (goodCounted pn size (arrived pn size fcsOk code f s)) = false := by
    have state := (state_goodCounted pn size (arrived pn size fcsOk code f s)).trans (rd_arrived (.head _))
    rw [begunDraining, state, port_goodCounted, hr]
    exact early
  have own : ethFrameEnd pn size fcsOk code since ago f s =
      (let u := goodCounted pn size (arrived pn size fcsOk code f s)
      modPort pn (fun p => { p with staging := p.staging ++ [{ frame := s.nextFrame, size, eth := f, stamp := stampOf pn ago u }] })
        (pauseTaken pn f u)) := by
    rw [ethFrameEnd_judged opened run up]
    dsimp only
    rw [if_neg (by omega), rd_arrived (by simp), if_neg (by omega), if_neg (by rw [good]; exact Bool.false_ne_true), full,
      if_neg Bool.false_ne_true, before, if_neg Bool.false_ne_true]
  obtain ⟨e, he⟩ := port_pauseTaken pn f (goodCounted pn size (arrived pn size fcsOk code f s))
  obtain ⟨counted, number⟩ := pauseTaken_keeps pn f (goodCounted pn size (arrived pn size fcsOk code f s))
  rw [port_goodCounted, hr] at he
  have numbered : (goodCounted pn size (arrived pn size fcsOk code f s)).nextFrame = s.nextFrame + 1 :=
    congrArg (· + 1) ((frame_rmonReceive pn size fcsOk code f s).parts .frameNumbers (by decide))
  refine gives_frameEnd calm fun t ht => ?_
  rw [port_congr (ht.parts .ports List.not_mem_nil), own, port_modPort_same, he]
  refine ⟨List.length_append, ?_, ?_, rfl, ?_⟩
  · rw [List.getLast?_concat]
    rfl
  · rw [ht.regs _ (receptionFollow pn _ (.tail _ (.tail _ (.head _)))) rfl, own, rd_modPort, counted, rd_good_goodCounted,
      rd_arrived (by simp)]
  · rw [show t.nextFrame = _ from ht.parts .frameNumbers List.not_mem_nil, own]
    exact number.trans numbered

end

/-! ### Reads of the counters (R427, R436) -/

theorem gives_octetsRead (route : Route) (pn : Fin 2) (tx : Bool) (s : State) :
    Gives (.ethOctetLoRead route pn tx) s (fun t =>
      t.readData = BitVec.ofNat 32 (if tx then (port pn s).txOctets else (port pn s).rxOctets) ∧
      (if tx then (port pn t).txOctets else (port pn t).rxOctets) = 0 ∧
      latchedWord route (ethPage pn) (if tx then 0x0C0 else 0x0B8) t =
        (if tx then (port pn s).txOctets else (port pn s).rxOctets) / 2 ^ 32 % 2 ^ 32 ∧
      (if tx then (port pn t).rxOctets = (port pn s).rxOctets else (port pn t).txOctets = (port pn s).txOctets) ∧
      Within [.word (ethPage pn) 0x0C0, .word (ethPage pn) 0x0B8, .word (ethPage pn) 0x0B4, .word (ethPage pn) 0x0BC]
        [.latched, .ports, .readData] s t) := by
  have after : port pn (ethOctetLoRead route pn tx s) = if tx then { port pn s with txOctets := 0 } else { port pn s with rxOctets := 0 } := by
    simp only [ethOctetLoRead]
    rw [port_showOctets]
    refine (port_modPort_same pn (fun p => if tx then { p with txOctets := 0 } else { p with rxOctets := 0 }) _).trans ?_
    cases tx <;> rfl
  refine gives_done (t := ethOctetLoRead route pn tx s) rfl ⟨?_, ?_, ?_, ?_, (Within.mono
    (frame_ethOctetLoRead route pn tx s) (octetScopes pn) (by decide)).pending⟩
  · cases tx <;> rfl
  · rw [port_pending, after]
    cases tx <;> rfl
  · cases tx <;> exact look_insert_same _ _ _ _
  · rw [port_pending, after]
    cases tx <;> rfl

theorem gives_counterRead (route : Route) (pn : Fin 2) (counter : Fin 39) (s : State) :
    Gives (.rmonLoRead route pn counter) s (fun t =>
      t.readData = BitVec.ofNat 32 (rmonCount pn counter s) ∧
      latchedWord route (ethStatPage pn) (0x104 + 8 * counter) t = rmonCount pn counter s / 2 ^ 32 ∧
      rmonCount pn counter t = rmonCount pn counter s ∧
      Within [.page (ethStatPage pn)] [.latched, .readData] s t) :=
  gives_done (t := rmonLoRead route pn counter s) rfl
    ⟨rfl, look_insert_same _ _ _ _, rfl, (frame_rmonLoRead route pn counter s).pending⟩

/-- Settles O37. -/
theorem linksAndReception : Obligations.LinksAndReception := by
  unfold Obligations.LinksAndReception
  refine ⟨?_, ?_, ?_, ?_, ?_, gives_octetsRead, gives_counterRead⟩
  · rintro pn _ _ anDone fullDuplex _ partnerPause partnerAsm speed s service mode rfl rfl rfl down
    exact gives_linkUp service mode down
  · rintro pn _ _ anDone fullDuplex remote partnerPause partnerAsm speed s service rfl rfl up
    exact gives_linkDown service up
  · rintro pn size fcsOk code since ago f s opened early run up good whole fits room calm
    refine (gives_staged opened run up calm early good whole fits room).imp ?_
    rintro t ⟨⟨length, last, counted, octets, number⟩, frame⟩
    exact ⟨length, last, counted, octets, number, frame⟩
  · rintro pn size fcsOk code since ago f s opened - run up short calm
    refine (gives_runt opened run up calm short).imp ?_
    rintro t ⟨⟨staging, counted, ledger⟩, frame⟩
    exact ⟨staging, counted, ledger, frame⟩
  · rintro pn size fcsOk code since ago f s opened - run up bad whole fits calm
    refine (gives_badFcs opened run up calm bad whole fits).imp ?_
    rintro t ⟨⟨staging, counted, ledger⟩, frame⟩
    exact ⟨staging, counted, ledger, frame⟩

end Sys2Proof.Machine
end

section
/-! PROOF. Forced events, the holdoff, the masks and the enable of MSI-X, and acknowledgements (R96 to R100), for
`Obligations.EventPath`. -/

namespace Sys2Proof.Machine

/-! ### Forced events (R96) -/

theorem evtForce_latches {pg : Nat} {route : Route} {bits : Word} {s : State} (reach : reaches pg route = true)
    (sources : bits.toNat &&& pageEventBits pg = bits.toNat) (late : early pg s = false) (open' : spiReadOnly pg route = false) :
    evtForce pg route bits s = latchBits pg bits.toNat s := by
  rw [evtForce, reach, late, open', if_neg (by decide), if_neg (fun h => h sources), if_neg (by decide), if_neg (by simp)]

theorem rd_latchBits {f : Field} {pg m : Nat} {s : State} (count : f.key ≠ F.EVT.MSG_COUNT.key) :
    rd f (latchBits pg m s) = rd f (orBits (F.HEAD.EVT_LATCH pg) m s) :=
  (shows_settle (fun k => k == F.EVT.MSG_COUNT.key) (by simp) _ s _).regs f (by simpa using count)

theorem evtLatch_key_ne (pg : Nat) : (F.HEAD.EVT_LATCH pg).key ≠ F.EVT.MSG_COUNT.key := by
  simp only [Field.key, F.HEAD.EVT_LATCH, F.EVT.MSG_COUNT, Life.code]
  omega

theorem evtRaw_key_ne (pg : Nat) : (F.HEAD.EVT_RAW pg).key ≠ F.EVT.MSG_COUNT.key := by
  simp only [Field.key, F.HEAD.EVT_RAW, F.EVT.MSG_COUNT, Life.code]
  omega

theorem gives_forced {pg : Nat} {route : Route} {bits : Word} {s : State} (reach : reaches pg route = true)
    (sources : bits.toNat &&& pageEventBits pg = bits.toNat) (late : early pg s = false) (open' : spiReadOnly pg route = false) :
    Gives (.evtForce pg route bits) s (fun t =>
      rd (F.HEAD.EVT_LATCH pg) t = (rd (F.HEAD.EVT_LATCH pg) s ||| bits.toNat) % 2 ^ 32 ∧
      rd (F.HEAD.EVT_RAW pg) t = rd (F.HEAD.EVT_RAW pg) s ∧ Within [.word pg 0x014] [] s t) := by
  have own := evtForce_latches (bits := bits) (s := s) reach sources late open'
  refine gives_done (t := evtForce pg route bits s) rfl ⟨?_, ?_, ?_⟩
  · rw [rd_pending, own, rd_latchBits (evtLatch_key_ne pg), rd_orBits_same]
    rfl
  · rw [rd_pending, own, rd_latchBits (evtRaw_key_ne pg)]
    exact rd_wr_apart _ _ rfl
  · rw [own]
    exact (((Within.refl _ _ s).orBits (inScopes_of (by simp [Scope.among, F.HEAD.EVT_LATCH]))).settle).pending

/-! ### One bit of the function's vectors -/

theorem getLsbD_clear (x : BitVec 32) (v w : Nat) : (x &&& ~~~(1#32 <<< v)).getLsbD w = (x.getLsbD w && !decide (w = v)) := by
  by_cases hw : w < 32
  · by_cases h : w = v
    · subst h
      simp [hw]
    · simp [hw, h]
      omega
  · simp [BitVec.getLsbD_of_ge x w (by omega)]

theorem getLsbD_set (x : BitVec 32) {v w : Nat} (hw : w < 32) : (x ||| (1#32 <<< v)).getLsbD w = (x.getLsbD w || decide (w = v)) := by
  by_cases h : w = v
  · subst h
    simp [hw]
  · simp [hw, h]
    omega

/-! ### The masks (R99, R481) -/

/-- The function's enable, masks and link are the same. -/
structure SameMasks (s t : State) : Prop where
  enabled : t.msix.enabled = s.msix.enabled
  funcMask : t.msix.funcMask = s.msix.funcMask
  vecMask : t.msix.vecMask = s.msix.vecMask
  link : t.msix.link = s.msix.link
  master : t.msix.master = s.msix.master

theorem SameMasks.refl (s : State) : SameMasks s s := ⟨rfl, rfl, rfl, rfl, rfl⟩

theorem SameMasks.trans {s t u : State} (h : SameMasks s t) (k : SameMasks t u) : SameMasks s u :=
  ⟨k.enabled.trans h.enabled, k.funcMask.trans h.funcMask, k.vecMask.trans h.vecMask, k.link.trans h.link, k.master.trans h.master⟩

theorem SameMasks.vecMasked {s t : State} (h : SameMasks s t) (v : Nat) : vecMasked v t = vecMasked v s := by
  rw [Machine.vecMasked, Machine.vecMasked, h.funcMask, h.vecMask, h.link, h.master]

theorem sameMasks_sendMsix (v : Nat) (s : State) : SameMasks s (sendMsix v s) := ⟨rfl, rfl, rfl, rfl, rfl⟩

theorem sameMasks_assertVec (v : Nat) (s : State) : SameMasks s (assertVec v s) := by
  unfold assertVec
  split_ifs
  · exact SameMasks.refl s
  · exact ⟨rfl, rfl, rfl, rfl, rfl⟩
  · exact ⟨rfl, rfl, rfl, rfl, rfl⟩
  · exact sameMasks_sendMsix v s

theorem sameMasks_foldl {f : State → Nat → State} (step : ∀ s v, SameMasks s (f s v)) (vs : List Nat) (s : State) :
    SameMasks s (vs.foldl f s) := by
  induction vs generalizing s with
  | nil => exact SameMasks.refl s
  | cons v vs ih => exact (step s v).trans (ih _)

/-! ### The release of pending vectors (R99) -/

/-- One vector's turn in a release. -/
def releaseVec (s : State) (v : Nat) : State :=
  if s.msix.enabled && s.msix.pending.getLsbD v && !vecMasked v s then sendMsix v s else s

theorem releasePending_foldl (s : State) : releasePending s = (List.range 32).foldl releaseVec s := by
  unfold releasePending releaseVec
  rfl

theorem sameMasks_releaseVec (s : State) (v : Nat) : SameMasks s (releaseVec s v) := by
  unfold releaseVec
  split
  · exact sameMasks_sendMsix v s
  · exact SameMasks.refl s

theorem sameMasks_releasePending (s : State) : SameMasks s (releasePending s) :=
  (releasePending_foldl s).symm ▸ sameMasks_foldl sameMasks_releaseVec _ s

/-- No turn sets a pending bit. -/
theorem releaseVec_lowers {v w : Nat} {s : State} (h : s.msix.pending.getLsbD w = false) :
    (releaseVec s v).msix.pending.getLsbD w = false := by
  unfold releaseVec
  split
  · exact (getLsbD_clear _ _ _).trans (by rw [show (inc F.EVT.MSG_COUNT s).msix.pending.getLsbD w = false from h]; rfl)
  · exact h

/-- The turn of an unmasked vector leaves it not pending. -/
theorem releaseVec_clears {v : Nat} {s : State} (on : s.msix.enabled = true) (free : vecMasked v s = false) :
    (releaseVec s v).msix.pending.getLsbD v = false := by
  unfold releaseVec
  rw [on, free]
  split
  · exact (getLsbD_clear _ _ _).trans (by simp)
  · next h => simpa using h

theorem foldl_releaseVec_lowers {w : Nat} (vs : List Nat) {s : State} (h : s.msix.pending.getLsbD w = false) :
    (vs.foldl releaseVec s).msix.pending.getLsbD w = false := by
  induction vs generalizing s with
  | nil => exact h
  | cons v vs ih => exact ih (releaseVec_lowers h)

theorem foldl_releaseVec_clears {v : Nat} {vs : List Nat} (hv : v ∈ vs) {s : State} (on : s.msix.enabled = true)
    (free : vecMasked v s = false) : (vs.foldl releaseVec s).msix.pending.getLsbD v = false := by
  induction vs generalizing s with
  | nil => cases hv
  | cons w vs ih =>
    obtain rfl | hv := List.mem_cons.mp hv
    · exact foldl_releaseVec_lowers vs (releaseVec_clears on free)
    · have same := sameMasks_releaseVec s w
      exact ih hv (same.enabled.trans on) ((same.vecMasked v).trans free)

/-- After a release no unmasked vector is pending. -/
theorem releasePending_clears {v : Nat} (hv : v < 32) {s : State} (on : s.msix.enabled = true) (free : vecMasked v s = false) :
    (releasePending s).msix.pending.getLsbD v = false := by
  rw [releasePending_foldl]
  exact foldl_releaseVec_clears (List.mem_range.mpr hv) on free

/-! ### The end of a holdoff (R99) -/

/-- The holdoff of a vector ended, and what had merged taken. -/
def holdoffEnded (v : Nat) (s : State) : State :=
  { s with msix := { s.msix with
    holdRun := s.msix.holdRun &&& ~~~(1#32 <<< v), merged := s.msix.merged &&& ~~~(1#32 <<< v) } }

theorem gives_holdoffQuiet {vec : Fin 32} {s : State} (quiet : s.msix.merged.getLsbD vec = false) :
    Gives (.holdoffExpiry vec) s (fun t =>
      t.msix.holdRun.getLsbD vec = false ∧ rd F.EVT.MSG_COUNT t = rd F.EVT.MSG_COUNT s ∧ Within [.word 0x04 0x06C] [] s t) := by
  have own : holdoffExpiry vec s = holdoffEnded vec s := by
    simp only [holdoffExpiry, quiet, Bool.false_and, Bool.false_eq_true, if_false]
    rfl
  refine gives_done (t := holdoffExpiry vec s) rfl ⟨?_, ?_, ((frame_holdoffExpiry vec s).mono (by simp) (by simp)).pending⟩
  · rw [own]
    exact (getLsbD_clear _ _ _).trans (by simp)
  · rw [own]
    rfl

theorem gives_holdoffMerged {vec : Fin 32} {s : State} (merged : s.msix.merged.getLsbD vec = true) (stands : vecStatus vec s = true)
    (on : s.msix.enabled = true) (free : vecMasked vec s = false) :
    Gives (.holdoffExpiry vec) s (fun t =>
      rd F.EVT.MSG_COUNT t = (rd F.EVT.MSG_COUNT s + 1) % 2 ^ 32 ∧ t.msix.last = some vec.val ∧
      t.msix.merged.getLsbD vec = false ∧ Within [.word 0x04 0x06C] [] s t) := by
  have still : vecStatus vec (holdoffEnded vec s) = true := stands
  have ended : (holdoffEnded vec s).msix.holdRun.getLsbD vec = false := (getLsbD_clear _ _ _).trans (by simp)
  have own : holdoffExpiry vec s = sendMsix vec (holdoffEnded vec s) := by
    have opened : assertVec vec (holdoffEnded vec s) = sendMsix vec (holdoffEnded vec s) := by
      rw [assertVec, show (holdoffEnded vec s).msix.enabled = true from on, show vecMasked vec (holdoffEnded vec s) = false from free, ended]
      rfl
    simp only [holdoffExpiry, merged, Bool.true_and]
    exact (if_pos still).trans opened
  refine gives_done (t := holdoffExpiry vec s) rfl ⟨?_, ?_, ?_, ((frame_holdoffExpiry vec s).mono (by simp) (by simp)).pending⟩
  · rw [rd_pending, own]
    exact rd_wr_same _ _ _
  · rw [own]
    rfl
  · rw [own]
    exact (getLsbD_clear _ _ _).trans (by simp)

/-! ### Unmask and enable (R99) -/

theorem gives_unmasked {vec : Option (Fin 32)} {s : State} (on : s.msix.enabled = true) (link : s.msix.link = true)
    (master : s.msix.master = true) (function : s.msix.funcMask = false ∨ vec = none) :
    Gives (.msixUnmask vec) s (fun t =>
      (match (generalizing := false) vec with
        | some v => !t.msix.vecMask.getLsbD v && !t.msix.pending.getLsbD v
        | none => !t.msix.funcMask && (t.msix.pending &&& ~~~t.msix.vecMask) == 0) = true ∧
      Within [.word 0x04 0x06C] [] s t) := by
  have frame := ((frame_msixUnmask (vec.map Fin.val) s).mono (P' := [.word 0x04 0x06C]) (S' := []) (by simp) (by simp)).pending
    (q := s.pending)
  cases vec with
  | some v =>
    refine gives_done (t := msixUnmask (some v.val) s) rfl ⟨?_, frame⟩
    generalize hu : ({ s with msix := { s.msix with vecMask := s.msix.vecMask &&& ~~~(1#32 <<< v.val) } } : State) = u
    have own : msixUnmask (some v.val) s = releasePending u := by rw [← hu]; rfl
    have unmasked : u.msix.vecMask.getLsbD v = false := by
      rw [← hu]
      exact (getLsbD_clear _ _ _).trans (by simp)
    have free : vecMasked v u = false := by
      rw [vecMasked, unmasked, ← hu]
      simp only [link, master, function.resolve_right (by simp)]
      rfl
    have cleared := releasePending_clears v.isLt (by rw [← hu]; exact on) free
    have vecMask := (sameMasks_releasePending u).vecMask
    rw [own]
    generalize releasePending u = t at cleared vecMask
    simp only [vecMask, unmasked, cleared, Bool.not_false, Bool.and_self]
  | none =>
    refine gives_done (t := msixUnmask none s) rfl ⟨?_, frame⟩
    generalize hu : ({ s with msix := { s.msix with funcMask := false } } : State) = u
    have own : msixUnmask none s = releasePending u := by rw [← hu]; rfl
    have same := sameMasks_releasePending u
    have clear : (releasePending u).msix.pending &&& ~~~(releasePending u).msix.vecMask = 0 := by
      refine BitVec.eq_of_getLsbD_eq fun w hw => ?_
      rw [BitVec.getLsbD_and, BitVec.getLsbD_not, same.vecMask]
      by_cases masked : u.msix.vecMask.getLsbD w = true
      · simp [masked]
      · have free : vecMasked w u = false := by
          rw [vecMasked, Bool.eq_false_of_not_eq_true masked, ← hu]
          simp only [link, master]
          rfl
        rw [releasePending_clears hw (by rw [← hu]; exact on) free]
        simp
    have function' : (releasePending u).msix.funcMask = false := same.funcMask.trans (by rw [← hu])
    rw [own]
    generalize releasePending u = t at clear function'
    simp only [clear, function', Bool.not_false, Bool.true_and]
    rfl

/-- The assertion of a vector that stands. -/
def assertStanding (s : State) (v : Nat) : State := if vecStatus v s then assertVec v s else s

theorem sameMasks_assertStanding (s : State) (v : Nat) : SameMasks s (assertStanding s v) := by
  unfold assertStanding
  split
  · exact sameMasks_assertVec v s
  · exact SameMasks.refl s

/-- With the link down an assertion only sets the pending bit of its vector. -/
theorem assertStanding_down {v : Nat} {s : State} (on : s.msix.enabled = true) (down : s.msix.link = false) :
    assertStanding s v = if vecStatus v s then { s with msix := { s.msix with pending := s.msix.pending ||| (1#32 <<< v) } } else s := by
  have masked : vecMasked v s = true := by simp [vecMasked, down]
  rw [assertStanding, assertVec, on, masked]
  rfl

theorem foldl_assertStanding_pending {v : Nat} (hv : v < 32) (vs : List Nat) {s : State} (on : s.msix.enabled = true)
    (down : s.msix.link = false) (h : s.msix.pending.getLsbD v = true ∨ v ∈ vs ∧ vecStatus v s = true) :
    (vs.foldl assertStanding s).msix.pending.getLsbD v = true := by
  induction vs generalizing s with
  | nil => simpa using h
  | cons w vs ih =>
    have same := sameMasks_assertStanding s w
    refine ih (same.enabled.trans on) (same.link.trans down) ?_
    rw [assertStanding_down on down]
    split
    · next stands =>
      obtain set | ⟨hv', status⟩ := h
      · exact .inl ((getLsbD_set _ hv).trans (by rw [set]; rfl))
      · obtain rfl | hv' := List.mem_cons.mp hv'
        · exact .inl ((getLsbD_set _ hv).trans (by simp))
        · exact .inr ⟨hv', status⟩
    · next idle =>
      refine h.imp id fun ⟨hv', status⟩ => ⟨(List.mem_cons.mp hv').resolve_left ?_, status⟩
      rintro rfl
      exact idle status

/-- The function's control as it is written. -/
def controlled (on mask master : Bool) (s : State) : State :=
  { s with msix := { s.msix with enabled := on, funcMask := mask, master } }

theorem sameMasks_msixEnable (on mask master : Bool) (s : State) : SameMasks (controlled on mask master s) (msixEnable on mask master s) := by
  simp only [msixEnable]
  split
  · exact sameMasks_foldl sameMasks_assertStanding _ _
  · exact sameMasks_releasePending _

theorem gives_controlled (control : MsixControl) (s : State) :
    Gives (.msixEnable control) s (fun t =>
      t.msix.enabled = control.enable ∧ t.msix.funcMask = control.funcMask ∧ t.msix.master = control.busMaster ∧
      (control.enable = true → s.msix.enabled = false → s.msix.link = false →
        ∀ v ∈ List.range 32, vecStatus v s = true → t.msix.pending.getLsbD v = true) ∧
      Within [.word 0x04 0x06C] [] s t) := by
  have same := sameMasks_msixEnable control.enable control.funcMask control.busMaster s
  refine gives_done (t := msixEnable control.enable control.funcMask control.busMaster s) rfl
    ⟨same.enabled, same.funcMask, same.master, fun enable was down v hv stands => ?_,
      ((frame_msixEnable _ _ _ s).mono (by simp) (by simp)).pending⟩
  have own : msixEnable control.enable control.funcMask control.busMaster s =
      (List.range 32).foldl assertStanding (controlled control.enable control.funcMask control.busMaster s) := by
    rw [msixEnable, enable, was]
    rfl
  rw [own]
  exact foldl_assertStanding_pending (List.mem_range.mp hv) _ enable down (.inr ⟨hv, stands⟩)

/-! ### Acknowledgement (R100) -/

/-- The acknowledgement of one source of a group. -/
def ackOne (g : Nat) (bits : Word) (s : State) (b : Nat) : State :=
  if bits.getLsbD b && srcAsserted (32 * g + b) s then { s with acked := s.acked ||| (1#256 <<< (32 * g + b)) } else s

theorem getLsbD_set256 (x : BitVec 256) {v w : Nat} (hw : w < 256) : (x ||| (1#256 <<< v)).getLsbD w = (x.getLsbD w || decide (w = v)) := by
  by_cases h : w = v
  · subst h
    simp [hw]
  · simp [hw, h]
    omega

theorem srcAsserted_ackOne (g : Nat) (bits : Word) (s : State) (b src : Nat) : srcAsserted src (ackOne g bits s b) = srcAsserted src s := by
  unfold ackOne
  split
  · rfl
  · rfl

theorem foldl_ackOne_acks {g b : Nat} (hb : 32 * g + b < 256) {bits : Word} (vs : List Nat) {s : State}
    (h : s.acked.getLsbD (32 * g + b) = true ∨ b ∈ vs ∧ bits.getLsbD b = true ∧ srcAsserted (32 * g + b) s = true) :
    (vs.foldl (ackOne g bits) s).acked.getLsbD (32 * g + b) = true := by
  induction vs generalizing s with
  | nil => simpa using h
  | cons w vs ih =>
    refine ih ?_
    rw [srcAsserted_ackOne]
    obtain set | ⟨hv, asked, stands⟩ := h
    · refine .inl ?_
      unfold ackOne
      split
      · exact (getLsbD_set256 _ hb).trans (by rw [set]; rfl)
      · exact set
    · obtain rfl | hv := List.mem_cons.mp hv
      · refine .inl ?_
        rw [ackOne, asked, stands]
        exact (getLsbD_set256 _ hb).trans (by simp)
      · exact .inr ⟨hv, asked, stands⟩

theorem wordCommand_mgmtAck (group : Fin 8) (bits : Word) : wordCommand 0x04 (0x0A0 + 4 * group) .bar0 bits = some (mgmtAck group bits) := by
  obtain ⟨g, hg⟩ := group
  have own : wordCommand 0x04 (0x0A0 + 4 * g) .bar0 bits =
      if 0x0A0 ≤ 0x0A0 + 4 * g ∧ 0x0A0 + 4 * g < 0x0C0 then some (mgmtAck ((0x0A0 + 4 * g - 0x0A0) / 4) bits) else none := rfl
  rw [own, if_pos (by omega), show (0x0A0 + 4 * g - 0x0A0) / 4 = g by omega]

theorem gives_acked {group : Fin 8} {bits : Word} {s : State} (accepted : Accepted 0x04 (0x0A0 + 4 * group) bits.toNat s) :
    Gives (.mgmtAck group bits) s (fun t =>
      (∀ b ∈ List.range 32, bits.getLsbD b = true → srcAsserted (32 * group + b) s = true →
        t.acked.getLsbD (32 * group + b) = true) ∧ Within [] [] s t) := by
  have run : exec (.mgmtAck group bits) s = done s (mgmtAck group bits s) := by
    rw [← regWrite_accepted accepted (wordCommand_mgmtAck group bits) (by decide) (by omega) (by omega)]
    rfl
  refine gives_done run ⟨fun b hb asked stands => ?_, (frame_mgmtAck group bits s).pending⟩
  have place : 32 * group.val + b < 256 := by
    have := List.mem_range.mp hb
    omega
  exact foldl_ackOne_acks place _ (.inr ⟨hb, asked, stands⟩)

/-- Settles O13. -/
theorem eventPath : Obligations.EventPath := by
  unfold Obligations.EventPath
  exact ⟨fun pg route bits s reach sources late open' => gives_forced reach sources late open',
    fun vec s quiet => gives_holdoffQuiet quiet,
    fun vec s merged stands on free => gives_holdoffMerged merged stands on free,
    fun vec s on link master function => gives_unmasked on link master function,
    gives_controlled,
    fun group bits s accepted => gives_acked accepted⟩

end Sys2Proof.Machine
end

section
/-! PROOF. A test of DDR that waits while its power is reserved (R24, R608): the refutation of `Obligations.ReferencesActs` as
it is stated. -/

namespace Sys2Proof.Machine

/-- A part in bivouac in which a read of a stored test word waits for DDR. -/
def testWaits : State :=
  wr F.CANARY.BIVOUAC_STATE 2
    { State.reset with boot := { held := false }, mem := { State.reset.mem with tests := [{ op := 4, off := 0, data := 0, check := 0 }] } }

def afterMains : State := pwrRestored testWaits

theorem exec_testWaits : exec .pwrRestored testWaits = done testWaits (settleWork testWaits afterMains) := rfl

/-- With the mains back DDR leaves self-refresh, and the read that waited takes a number. -/
theorem draws_afterMains : afterMains.draws = 1 := rfl

/-- Refutes O8: the frame of PWR_RESTORED leaves out what a test that waited for DDR changes when it runs as bivouac ends. -/
theorem not_referencesActs : ¬ Obligations.ReferencesActs := by
  unfold Obligations.ReferencesActs
  rintro ⟨-, restored, -⟩
  have work : (settleWork testWaits afterMains).draws = afterMains.draws :=
    (frame_settleWork testWaits afterMains).parts .draws (by decide)
  have run := exec_testWaits
  generalize settleWork testWaits afterMains = settled at work run
  obtain ⟨-, -, frame⟩ := (restored testWaits).of_done run
  have kept : settled.draws = testWaits.draws := frame.parts .draws (by decide)
  rw [work, draws_afterMains] at kept
  exact absurd kept (by decide)

end Sys2Proof.Machine
end

section
/-! PROOF. Life-cycle transitions, the seal, and the trusted lock (R362, R375, R390), for `Obligations.LifeCycleAndLock`. -/

namespace Sys2Proof.Machine

/-! ### The commands of BAR4 -/

/-- A command in the open window runs where KEYS accepts one (R375, R390). -/
theorem bar4Command_runs {off data : Nat} {f : State → State} {s : State} (lock : lockOpen s = true) (accept : keysAccept s = true) :
    bar4Command off data f s = f s := by
  rw [bar4Command, lock, accept]
  rfl

/-! ### A transition blown (R390) -/

/-- What a transition blows and records, before the lock closes. -/
def blown (dest : Nat) (s : State) : State :=
  logCairn K_LIFECYCLE
    [lifecycle s, dest, if isSet F.KEYS.ROOT_SEALED (setLifecycle dest (wr F.KEYS.LC_FUSED dest s)) then 1 else 0]
    (setLifecycle dest (wr F.KEYS.LC_FUSED dest s))

theorem fuse_blown (dest : Nat) (s : State) : fuse dest s = closeLock (lcResult 1 (blown dest s)) := rfl

theorem frame_blown (dest : Nat) (s : State) :
    Within [] [] (setLifecycle dest (wr F.KEYS.LC_FUSED dest s)) (blown dest s) := (Within.refl _ _ _).logCairn

theorem closeLock_closes (s : State) : lockOpen (closeLock s) = false ∧ rd F.BAR4.TRUST_STATUS_REMAINING (closeLock s) = 0 := by
  constructor
  · rw [lockOpen, isSet, closeLock, rd_wr_same]
    rfl
  · rw [closeLock, rd_wr_ne _ _ _ _ (by decide), rd_wr_same]
    rfl

theorem fuse_shows {dest : Nat} (h : dest < 8) (s : State) :
    lifecycle (fuse dest s) = dest ∧ rd F.KEYS.LC_FUSED (fuse dest s) = dest ∧ rd F.BAR4.LC_STATUS_RESULT (fuse dest s) = 1 ∧
    lockOpen (fuse dest s) = false := by
  have frame := frame_blown dest s
  have result : rd F.BAR4.LC_STATUS_RESULT (fuse dest s) = 1 := by
    rw [fuse_blown, (frame_closeLock _).regs _ (by decide) (by decide), lcResult, rd_wr_same]
    rfl
  have kept : ∀ f : Field, followKey f.key = false → inScopes [.word 0x80 0x0, .word 0x80 0x2004] f.key = false →
      rd f (fuse dest s) = rd f (setLifecycle dest (wr F.KEYS.LC_FUSED dest s)) := fun f follow out => by
    simp only [inScopes, List.any_cons, List.any_nil, Bool.or_false, Bool.or_eq_false_iff] at out
    rw [fuse_blown, (frame_closeLock _).regs f follow (by simpa [inScopes] using out.1),
      (frame_lcResult _ _).regs f follow (by simpa [inScopes] using out.2), frame.regs f follow rfl]
  refine ⟨?_, ?_, result, (closeLock_closes _).1⟩
  · rw [lifecycle, kept _ (by decide) (by decide), setLifecycle, rd_wr_same]
    exact Nat.mod_eq_of_lt h
  · rw [kept _ (by decide) (by decide), setLifecycle, rd_wr_ne _ _ _ _ (by decide), rd_wr_ne _ _ _ _ (by decide), rd_wr_same]
    exact Nat.mod_eq_of_lt h

theorem root_fuse (dest : Nat) (s : State) : (fuse dest s).root = { s.root with trustEnd := none } := by
  have kept : (blown dest s).root = s.root := (frame_blown dest s).parts .root List.not_mem_nil
  rw [fuse_blown, ← kept]
  rfl

/-! ### Transitions -/

/-- The registers of a transition. -/
def lcScopes : List Scope :=
  [.page 0x80, .page 0x4A, .word 0x30 0x090, .word 0x30 0x094, .word 0x30 0x080, .word
    0x30 0x098, .word 0x30 0x0BC, .word 0x30 0x084, .word 0x30 0x08C, .word 0x32 0x040, .word 0x00 0x058, .page 0x4E, .word
    0x02 0x014, .word 0x02 0x010, .word 0x03 0x014, .word 0x03 0x010, .page 0x05, .page 0x11, .page 0x31, .word 0x48 0x078,
    .word 0x08 0x04C, .word 0x08 0x00C, .word 0x09 0x04C, .word 0x09 0x00C, .word 0x0A 0x04C, .word 0x0A 0x00C, .word 0x0B
    0x04C, .word 0x0B 0x00C, .word 0x46 0x070, .word 0x44 0x050, .word 0x3C 0x070, .word 0x3C 0x014, .word 0x30 0x088,
    .word 0x30 0x0B0, .word 0x30 0x0B8]

/-- The parts of the state that a transition may change. -/
def lcParts : List Part :=
  [.root, .cache, .slots, .draws, .boot, .jtag, .watch, .clock, .lanes, .nodes, .ddr, .wear, .engines, .mem, .fw, .rope, .keyOp]

section
variable {target : Fin 8} {flashError : Bool} {s : State}

theorem run_lcTransition {withSeal : Bool} (lock : lockOpen s = true) (accept : keysAccept s = true) :
    exec (.lcTransition target withSeal flashError) s =
      done s (settleWork s (lcTransition target withSeal flashError s)) := by
  rw [← bar4Command_runs (off := 0x2000) (data := lcWord target withSeal false) (f := lcTransition target withSeal flashError)
    lock accept]
  rfl

/-- What a transition that only blows its fuse gives. -/
theorem gives_blown {withSeal : Bool} {u : State} {dest : Nat} (lock : lockOpen s = true) (accept : keysAccept s = true) (h : dest < 8)
    (own : lcTransition target withSeal flashError s = fuse dest u) (before : Within [] [.root] s u) :
    Gives (.lcTransition target withSeal flashError) s (fun t =>
      lifecycle t = dest ∧ rd F.KEYS.LC_FUSED t = dest ∧ rd F.BAR4.LC_STATUS_RESULT t = 1 ∧ lockOpen t = false ∧
      t.root = { u.root with trustEnd := none } ∧ Within (lcScopes ++ airScopes) (lcParts ++ airParts) s t) := by
  obtain ⟨stage, fused, result, closed⟩ := fuse_shows h u
  refine gives_air ((run_lcTransition lock accept).trans (by rw [own])) fun t ht => ⟨?_, ?_, ?_, ?_, ?_, ?_⟩
  · exact (ht.regs _ (by decide) (by decide)).trans stage
  · exact (ht.regs _ (by decide) (by decide)).trans fused
  · exact (ht.regs _ (by decide) (by decide)).trans result
  · rw [lockOpen, isSet, ht.regs _ (by decide) (by decide)]
    exact closed
  · exact Eq.trans (ht.parts .root (by decide)) (root_fuse dest u)
  · have frame : Within lcScopes lcParts s (fuse dest u) :=
      (before.mono (by simp) (by decide)).then (frame_fuse dest u) (by decide) (by decide)
    exact frame.append ht

theorem gives_deployed (lock : lockOpen s = true) (accept : keysAccept s = true) (provisioned : lifecycle s = LC_PROVISIONED)
    (dest : target.val = LC_DEPLOYED) (valid : rd F.REGLOCK.STATUS_VALID s = 1) :
    Gives (.lcTransition target false false) s (fun t =>
      lifecycle t = LC_DEPLOYED ∧ rd F.KEYS.LC_FUSED t = LC_DEPLOYED ∧ rd F.BAR4.LC_STATUS_RESULT t = 1 ∧ lockOpen t = false ∧
      t.root = { s.root with trustEnd := none } ∧ Within (lcScopes ++ airScopes) (lcParts ++ airParts) s t) := by
  refine gives_blown lock accept (by decide) ?_ (Within.refl _ _ s)
  rw [lcTransition, provisioned, dest, isSet_of_rd valid]
  rfl

theorem gives_provisioned (lock : lockOpen s = true) (accept : keysAccept s = true) (manufacture : lifecycle s = LC_MANUFACTURE)
    (dest : target.val = LC_PROVISIONED) (ready : rd F.KEYS.ROOT_READY s = 1) (pin : s.root.pinSet = true) :
    Gives (.lcTransition target false false) s (fun t =>
      lifecycle t = LC_PROVISIONED ∧ rd F.KEYS.LC_FUSED t = LC_PROVISIONED ∧ rd F.BAR4.LC_STATUS_RESULT t = 1 ∧
      lockOpen t = false ∧
      t.root = { s.root with ownerPin := some (leBytes (regOctets F.BAR4.LC_OWNER_PIN 12 s)), trustEnd := none } ∧
      Within (lcScopes ++ airScopes) (lcParts ++ airParts) s t) := by
  refine gives_blown (u := { s with root := { s.root with ownerPin := some (leBytes (regOctets F.BAR4.LC_OWNER_PIN 12 s)) } })
    lock accept (by decide) ?_ ((Within.refl _ _ s).set_root (by decide))
  rw [lcTransition, manufacture, dest, isSet_of_rd ready, pin]
  rfl

end

/-! ### Decommissioning -/

/-- The root and its keys dropped, before the registers that showed them are cleared. -/
def rootDropped (s : State) : State := { s with root := { s.root with keys := none, root := none } }

theorem ownPub_here : ∀ k ∈ List.range 16,
    inScopes [.word 0x30 0x90, .word 0x30 0x94, .word 0x32 0x40, .word 0x30 0x80, .page 0x4a] (F.ROPE.OWN_PUB k).key = true := by
  decide

theorem frame_dropRoot_dropped (s : State) :
    Within [.word 0x30 0x90, .word 0x30 0x94, .word 0x32 0x40, .word 0x30 0x80, .page 0x4a] [] (rootDropped s) (dropRoot s) :=
  ((((((Within.refl _ _ _).foldl fun _ k hk h => h.wr (ownPub_here k hk)).wr (by decide)).wr (by decide)).wr
    (by decide)).wr (by decide))

/-- The mask and the helper data gone, and the end of the operation shown. -/
def helperGone (t : State) : State :=
  showHelper (wr F.KEYS.ROOT_RESULT 9 { t with root := { t.root with mask := none, copy0 := none, copy1 := none } })

theorem root_helperGone (t : State) :
    (helperGone t).root = { t.root with mask := none, copy0 := none, copy1 := none } :=
  (frame_showHelper _).parts .root List.not_mem_nil

theorem frame_helperGone (t : State) :
    Within [.word 0x30 0x8c, .word 0x30 0x84, .word 0x30 0x080] [.root] t (helperGone t) :=
  (((Within.refl _ _ t).set_root (by decide)).wr (by decide)).then (frame_showHelper _) (by decide) (by decide)

theorem ready_helperGone (t : State) : rd F.KEYS.ROOT_READY (helperGone t) = rd F.KEYS.ROOT_READY t := by
  rw [helperGone, (frame_showHelper _).regs _ (by decide) (by decide), rd_wr_ne _ _ _ _ (by decide)]
  rfl

theorem ready_dropRoot (t : State) : rd F.KEYS.ROOT_READY (dropRoot t) = 0 := by
  simp only [dropRoot]
  rw [rd_wr_ne _ _ _ _ (by decide), rd_wr_ne _ _ _ _ (by decide), rd_wr_ne _ _ _ _ (by decide), rd_wr_same]
  rfl

/-- No slot holds a key after zeroization (R383). -/
theorem slots_zeroizeSlots (s : State) : (zeroizeSlots s).slots.any (fun x => x.2.valid || x.2.key != []) = false := by
  rw [List.any_eq_false]
  intro x hx
  obtain ⟨y, -, hy⟩ := List.mem_filterMap.mp hx
  split at hy
  · cases hy
  · cases hy
    simp [Slot.valid]

/-- The state with every key gone, before its transition is blown. -/
def keysGone (s : State) : State := helperGone (dropRoot (zeroizeSlots (keysForceStop s)))

theorem frame_keysGone (s : State) : Within (lcScopes ++ [.word 0x30 0x014, .word 0x4C 0x014, .word 0x4C
    0x050, .word 0x4C 0x04C, .word 0x4C 0x048, .word 0x4C 0x044]) (lcParts ++ [.notices]) s (keysGone s) := by
  have stopped : Within (lcScopes ++ [.word 0x30 0x014, .word 0x4C 0x014, .word 0x4C 0x050, .word 0x4C 0x04C, .word 0x4C 0x048,
      .word 0x4C 0x044]) (lcParts ++ [.notices]) s (keysForceStop s) := (frame_keysForceStop s).mono
    (List.all_eq_true.mp (by decide)) (by decide)
  have dropped := (stopped.then (frame_zeroizeSlots _) (by decide) (by decide)).then (frame_dropRoot _) (by decide) (by decide)
  exact dropped.then (frame_helperGone _) (by decide) (by decide)

/-- The root, its helper data and every slot are gone (R390). -/
theorem keysGone_gone (s : State) : rd F.KEYS.ROOT_READY (keysGone s) = 0 ∧ (keysGone s).root.root = none ∧
    (keysGone s).root.copy0 = none ∧ (keysGone s).root.copy1 = none ∧ (keysGone s).root.mask = none ∧
    (keysGone s).slots.any (fun x => x.2.valid || x.2.key != []) = false := by
  unfold keysGone
  have none := slots_zeroizeSlots (keysForceStop s)
  generalize zeroizeSlots (keysForceStop s) = t at none
  have dropped : (dropRoot t).root = (rootDropped t).root := (frame_dropRoot_dropped t).parts .root List.not_mem_nil
  have kept : (dropRoot t).slots = t.slots := (frame_dropRoot t).parts .slots (by decide)
  have ready := ready_dropRoot t
  generalize dropRoot t = u at dropped kept ready
  have slots : (helperGone u).slots = u.slots := (frame_helperGone u).parts .slots (by decide)
  rw [root_helperGone, ready_helperGone, slots, kept, dropped]
  exact ⟨ready, rfl, rfl, rfl, rfl, none⟩

theorem gives_decommissioned {target : Fin 8} {withSeal : Bool} {s : State} (lock : lockOpen s = true) (accept : keysAccept s = true)
    (blank : lifecycle s ≠ LC_BLANK) (gone : lifecycle s ≠ LC_DECOMMISSIONED) (dest : target.val = LC_DECOMMISSIONED) :
    Gives (.lcTransition target withSeal false) s (fun t =>
      lifecycle t = LC_DECOMMISSIONED ∧ rd F.KEYS.ROOT_READY t = 0 ∧ t.root.root = none ∧ t.root.copy0 = none ∧
      t.root.copy1 = none ∧ t.root.mask = none ∧ t.slots.any (fun x => x.2.valid || x.2.key != []) = false ∧
      Within (lcScopes ++ [.word 0x30 0x014, .word 0x4C 0x014, .word 0x4C 0x050, .word 0x4C 0x04C, .word 0x4C 0x048,
        .word 0x4C 0x044] ++ airScopes) (lcParts ++ [.notices] ++ airParts) s t) := by
  have own : lcTransition target withSeal false s = fuse LC_DECOMMISSIONED (keysGone s) := by
    rw [lcTransition, if_pos dest, if_neg (fun h => h.elim blank gone)]
    rfl
  obtain ⟨ready, root, copy0, copy1, mask, slots⟩ := keysGone_gone s
  obtain ⟨stage, -, -, -⟩ := fuse_shows (dest := LC_DECOMMISSIONED) (by decide) (keysGone s)
  have blows := frame_fuse LC_DECOMMISSIONED (keysGone s)
  have frame : Within (lcScopes ++ [.word 0x30 0x014, .word 0x4C 0x014, .word 0x4C 0x050, .word 0x4C 0x04C, .word 0x4C 0x048,
      .word 0x4C 0x044]) (lcParts ++ [.notices]) s (fuse LC_DECOMMISSIONED (keysGone s)) :=
    (frame_keysGone s).then blows (by decide) (by decide)
  refine gives_air ((run_lcTransition lock accept).trans (by rw [own])) fun t ht => ?_
  have kept : t.root = { (keysGone s).root with trustEnd := none } := Eq.trans (ht.parts .root (by decide)) (root_fuse _ _)
  refine ⟨?_, ?_, ?_, ?_, ?_, ?_, ?_, frame.append ht⟩
  · exact (ht.regs _ (by decide) (by decide)).trans stage
  · rw [ht.regs _ (by decide) (by decide), blows.regs _ (by decide) (by decide), ready]
  · rw [kept]
    exact root
  · rw [kept]
    exact copy0
  · rw [kept]
    exact copy1
  · rw [kept]
    exact mask
  · rw [show t.slots = (keysGone s).slots from Eq.trans (ht.parts .slots (by decide)) (blows.parts .slots (by decide))]
    exact slots

/-! ### The seal (R362) -/

theorem mask_within {P : List Scope} {S : List Part} {s t : State} (h : Within P S s t) (hs : Part.root ∉ S) : t.root.mask = s.root.mask :=
  congrArg Root.mask (h.parts .root hs)

theorem mask_resetLock (s : State) : (resetLock s).root.mask = s.root.mask := by
  unfold resetLock
  split <;> rfl

/-- The mask outlives the beginning of a start. -/
theorem mask_beginStart (s : State) : (beginStart s).root.mask = s.root.mask := by
  unfold beginStart
  extract_lets kind late boot watch start recorded taken sensors mesh switch env told nonces locked strap tamper request
    life loop
  have hr : Within startScopes [.draws] (begun s) recorded := (Within.refl _ _ _).logCairn
  have ht : Within startScopes [.draws] (begun s) taken := hr.foldl fun _ _ _ h => h.queueRecord
  have hm : Within startScopes [.draws] (begun s) mesh := .ite ht (ht.latch (by decide))
  have hw : Within startScopes [.draws] (begun s) switch := .ite hm (hm.latch (by decide))
  have he : Within startScopes [.draws] (begun s) env := .ite hw (hw.latch (by decide))
  have hz : Within startScopes [.draws] (begun s) told := .ite (.ite (he.latch (by decide)) he) ht
  have hn : Within startScopes [.draws] (begun s) nonces :=
    (hz.drawWords (by decide) (by decide)).drawWords (by decide) (by decide)
  have hl : locked.root.mask = s.root.mask :=
    (mask_resetLock _).trans (mask_within (s := begun s) (S := [.draws])
      (hn.then (frame_setLifecycle _ _) (by decide) (by decide)) (by decide))
  have cause : ∀ {t : State} (c : Nat) (p : Prop) [Decidable p], t.root.mask = s.root.mask →
      (if p then addCause c t else t).root.mask = s.root.mask := fun c p _ h => by
    split
    · exact (mask_within (frame_addCause c _) (by decide)).trans h
    · exact h
  exact cause _ _ (cause _ _ (cause _ _ (cause _ _ (cause _ _ hl))))

/-- The mask outlives a reset (R622). -/
theorem mask_performReset (kind as' source : Nat) (s : State) :
    (performReset kind as' source false s).root.mask = s.root.mask := by
  unfold performReset
  extract_lets exit leaves stays unset before power clocks clear boot kept lived worn fan shown locked named ended
  have hb : before.root.mask = s.root.mask := mask_within (frame_beforeClear kind source s) (by decide)
  have hl : Within heldResetScopes [.clock] kept lived :=
    .ite (.refl _ _ _) (((Within.refl _ _ _).then (frame_relive 0x03 _ _) (by decide) (by decide)).then (frame_relive 0x02 _ _)
      (by decide) (by decide))
  have hw : Within heldResetScopes [.clock] kept worn := hl.iteR (fun h => h.then (frame_fromCheckpoint _) rfl rfl)
  have hf : Within heldResetScopes [.clock] kept fan := .ite (hw.wr (by decide)) hw
  have hs : Within heldResetScopes [.clock] kept shown :=
    (((hf.then (frame_resumeTime _ _ _) (by decide) (by decide)).then (frame_showWear _) (by decide) (by decide)).then
      (frame_showKept _) (by decide) (by decide)).then (frame_holdRetired _) (by decide) (by decide)
  have hlock : locked.root.mask = s.root.mask :=
    (mask_resetLock _).trans ((mask_within (hs.then (frame_setLifecycle _ _) (by decide) (by decide)) (by decide)).trans hb)
  have hn : ended.root.mask = s.root.mask := (mask_beginStart named).trans hlock
  by_cases h : leaves = true
  · rw [if_pos h]
    exact (mask_within (P := []) (S := []) ((Within.refl _ _ ended).logCairn) (by decide)).trans hn
  · rw [if_neg h]
    exact hn

/-- The state of a seal before it resets the part: the mask drawn, the sectors sealed anew, the lock closed. -/
def maskDrawn (ks kd : Nat) (s : State) : State :=
  closeLock (lcResult 1 (wr F.KEYS.ROOT_SEALED 1 (resealSectors s (remask ks kd s))))

theorem ownPub_ready : ∀ k ∈ List.range 16,
    inScopes [.word 0x32 0x40, .word 0x30 0x80, .page 0x4a, .word 0x30 0x90, .word 0x30 0x94] (F.ROPE.OWN_PUB k).key = true := by
  decide

theorem mask_makeReady (ks kd root : Nat) (s : State) : (makeReady ks kd root s).root.mask = s.root.mask := by
  have frame : Within [.word 0x32 0x40, .word 0x30 0x80, .page 0x4a, .word 0x30 0x90, .word 0x30 0x94] []
      { s with root := { s.root with keys := some (ks, kd), root := some root } } (makeReady ks kd root s) :=
    (((((Within.refl _ _ _).wr (by decide)).wr (by decide)).foldl fun _ k hk h => h.wr (ownPub_ready k hk)).wr (by decide)).wr
      (by decide)
  exact (mask_within frame List.not_mem_nil).trans rfl

theorem mask_remask (ks kd : Nat) (s : State) : (remask ks kd s).root.mask.isSome = true := by
  simp only [remask]
  rw [mask_makeReady]
  rfl

theorem frame_maskDrawn (ks kd : Nat) (s : State) :
    Within [.word 0x32 0x40, .word 0x30 0x80, .page 0x4a, .word 0x30 0x90, .word 0x30 0x94, .word 0x80 0x0, .word 0x80 0x2004]
      [.draws, .root, .fw] s (maskDrawn ks kd s) := by
  have drawn : Within [.word 0x32 0x40, .word 0x30 0x80, .page 0x4a, .word 0x30 0x90, .word 0x30 0x94, .word 0x80 0x0,
      .word 0x80 0x2004] [.draws, .root, .fw] s (remask ks kd s) := (frame_remask ks kd s).mono (List.all_eq_true.mp (by decide))
    (by decide)
  have resealed := (drawn.set_fw (x := (resealSectors s (remask ks kd s)).fw) (by decide)).wr (f := F.KEYS.ROOT_SEALED) (v := 1) (by decide)
  exact (resealed.then (frame_lcResult 1 _) (by decide) (by decide)).then (frame_closeLock _) (by decide) (by decide)

theorem gives_sealed {s : State} (lock : lockOpen s = true) (accept : keysAccept s = true)
    (stage : lifecycle s = LC_PROVISIONED ∨ lifecycle s = LC_DEPLOYED) (open' : rd F.KEYS.ROOT_SEALED s = 0)
    (ready : rd F.KEYS.ROOT_READY s = 1) (keys : s.root.keys.isSome = true) (battery : vbatGood s = true)
    (held : s.boot.held = false) (now : resetNow s = false) :
    Gives (.lcSeal false) s (fun t =>
      rd F.KEYS.ROOT_SEALED t = 1 ∧ t.root.mask.isSome = true ∧ rd F.MGMT.START_RESET_KIND t = R_WARM ∧
      rd F.MGMT.START_WARM_SOURCE t = 6) := by
  obtain ⟨⟨ks, kd⟩, hk⟩ := Option.isSome_iff_exists.mp keys
  have own : lcSeal false s = deviceReset R_WARM 6 (maskDrawn ks kd s) := by
    have may : ¬ ((lifecycle s ≠ LC_PROVISIONED ∧ lifecycle s ≠ LC_DEPLOYED) ∨ isSet F.KEYS.ROOT_SEALED s = true) := by
      rw [isSet_of_rd open']
      rintro (⟨h, k⟩ | h)
      · exact stage.elim h k
      · exact absurd h (by decide)
    rw [lcSeal, if_neg may, isSet_of_rd ready, battery, sealRoot, hk]
    rfl
  have frame := frame_maskDrawn ks kd s
  have sealed : rd F.KEYS.ROOT_SEALED (maskDrawn ks kd s) = 1 := by
    rw [maskDrawn, (frame_closeLock _).regs _ (by decide) (by decide), (frame_lcResult _ _).regs _ (by decide) (by decide), rd_wr_same]
    rfl
  have mask : (maskDrawn ks kd s).root.mask.isSome = true := mask_remask ks kd s
  generalize maskDrawn ks kd s = u at own frame sealed mask
  have boot : u.boot = s.boot := frame.parts .boot (by decide)
  have instant : u.now = s.now := frame.parts .now (by decide)
  have later : resetNow u = false := by
    rw [← now, resetNow, resetNow, boot, instant, frame.regs _ (by decide) (by decide)]
  have reset := deviceReset_warm (by rw [boot]; exact held) later 6
  obtain ⟨v, h⟩ := restarts_performReset R_WARM R_WARM 6 u
  have run : exec (.lcSeal false) s = done s (settleWork s (performReset R_WARM R_WARM 6 false u)) := by
    rw [← reset, ← own, ← bar4Command_runs (off := 0x2000) (data := lcWord 0 true false) (f := lcSeal false) lock accept]
    rfl
  obtain ⟨r, shows⟩ := h.shows
  refine gives_air run fun t ht => ⟨?_, ?_, ?_, ?_⟩
  · rw [ht.regs _ (by decide) (by decide), h.starts.regs _ (by decide) (by decide)]
    show rd F.KEYS.ROOT_SEALED v = 1
    rw [shows.regs _ (by decide) (by decide)]
    show rd F.KEYS.ROOT_SEALED (cleared R_WARM 6 false (beforeClear R_WARM 6 u)) = 1
    rw [rd_cleared_kept (by decide), (frame_beforeClear _ _ _).regs _ (by decide) (by decide), sealed]
  · rw [show t.root = _ from ht.parts .root (by decide), mask_performReset]
    exact mask
  · rw [ht.regs _ (by decide) (by decide), h.recorded]
    decide
  · rw [ht.regs _ (by decide) (by decide), h.asked]
    decide

/-! ### The exit (R390, R635) -/

theorem gives_exitAsked {s : State} (lock : lockOpen s = true) (accept : keysAccept s = true) (calm : Calm s = true) :
    Gives .lcExit s (fun t =>
      rd F.BAR4.LC_STATUS_RESULT t = (if mayExit s then 1 else 2) ∧
      rd F.MGMT.START_EXIT_PENDING t = (if mayExit s then 1 else rd F.MGMT.START_EXIT_PENDING s) ∧
      Within [.word 0x80 0x2004, .word 0x4E 0x060] [] s t) := by
  have run : exec .lcExit s = done s (settleWork s (lcExit s)) := by
    rw [← bar4Command_runs (off := 0x2000) (data := lcWord 0 false true) (f := lcExit) lock accept]
    rfl
  have frame := frame_lcExit s
  refine gives_calm run ((frame.calm (by decide) (by decide)).trans calm) fun t ht => ⟨?_, ?_, frame.then ht (by decide) (by decide)⟩
  · rw [ht.regs _ (by decide) rfl, lcExit]
    split
    · exact rd_wr_same _ _ _
    · exact rd_wr_same _ _ _
  · rw [ht.regs _ (by decide) rfl, lcExit]
    split
    · exact (rd_wr_ne _ _ _ _ (by decide)).trans (rd_wr_same _ _ _)
    · exact rd_wr_ne _ _ _ _ (by decide)

/-! ### The trusted lock (R375) -/

/-- A command of the trusted lock over BAR4 passes the checks of the write. -/
theorem bar4Write_trustCmd {d : Word} (h : d = 1 ∨ d = 2) (s : State) :
    bar4Write 0x0024 0xF d s = if d.toNat % 4 = 1 then trustUnlock s else trustClose s := by
  have fields : wordFields 0x80 0x0024 = [F.BAR4.TRUST_CMD] := rfl
  have kept : F.BAR4.TRUST_CMD.lim.holds F.BAR4.TRUST_CMD.width (F.BAR4.TRUST_CMD.slice d.toNat) = true ∧
      d.toNat &&& reservedBits [F.BAR4.TRUST_CMD] = 0 := by
    obtain rfl | rfl := h <;> decide
  have ranged : outOfRange [F.BAR4.TRUST_CMD] d.toNat s = false := by
    simp only [outOfRange, List.any_cons, List.any_nil, kept.1, Bool.not_true, Bool.and_false, Bool.or_self]
  have own : bar4Act 0x0024 d.toNat = some (if d.toNat % 4 = 1 then trustUnlock else trustClose) := rfl
  simp only [bar4Write, show 0x0024 / 4 * 4 = 0x0024 from rfl, fields, show trustWord 0x0024 = true from rfl, ranged, kept.2, own,
    Bool.not_true, Bool.false_and, Bool.false_eq_true, if_false, List.isEmpty_cons, Bool.or_false, ne_eq, not_true_eq_false]
  rw [if_neg (by decide)]
  split <;> rfl

/-! #### What shows the duration left -/

/-- Two registers of words that follow other state: the duration left to the trusted lock, and the health of the partner. -/
def asideKeys : List Nat := [F.BAR4.TRUST_STATUS_REMAINING.key, F.ROPE.HEALTH_PARTNER.key]

/-- Every register but one. -/
def notKey (k x : Nat) : Bool := x != k

theorem Shows.thenWr {P : Nat → Bool} {f : Field} {v : Nat} {s t : State} (h : Shows P s t) (hf : P f.key = true) :
    Shows P s (Machine.wr f v t) := h.trans (Shows.wr f v t hf)

theorem notKey_showSlotScan {k : Nat} (hk : k ∈ asideKeys) (x : Option Nat) (s : State) : Shows (notKey k) s (showSlotScan x s) := by
  unfold showSlotScan
  split
  all_goals
    iterate 5 refine Shows.thenWr ?_ (by revert k; decide)
    exact Shows.refl _ s

theorem notKey_showSlots {k : Nat} (hk : k ∈ asideKeys) (s : State) : Shows (notKey k) s (showSlots s) := by
  unfold showSlots
  refine Shows.trans ?_ (notKey_showSlotScan hk _ _)
  iterate 5 refine Shows.thenWr ?_ (by revert k; decide)
  exact Shows.refl _ s

theorem notKey_scanEui {k : Nat} (hk : k ∈ asideKeys) (v : Nat → Nat) (s : State) :
    Shows (notKey k) s ((List.range 2).foldl (fun s k => wr (F.NODE.SCAN_EUI k) (v k) s) s) :=
  Shows.foldlMem _ _ (fun s n hn => Shows.wr _ _ s
    ((by decide : ∀ k ∈ asideKeys, ∀ n ∈ List.range 2, notKey k (F.NODE.SCAN_EUI n).key = true) k hk n hn)) s

theorem notKey_clearScan {k : Nat} (hk : k ∈ asideKeys) (s : State) : Shows (notKey k) s (clearScan s) := by
  unfold clearScan
  iterate 9 refine Shows.thenWr ?_ (by revert k; decide)
  refine Shows.trans ?_ (notKey_scanEui hk _ _)
  iterate 3 refine Shows.thenWr ?_ (by revert k; decide)
  exact Shows.refl _ s

theorem notKey_showScan {k : Nat} (hk : k ∈ asideKeys) (i : Nat) (s : State) : Shows (notKey k) s (showScan i s) := by
  unfold showScan
  iterate 9 refine Shows.thenWr ?_ (by revert k; decide)
  refine Shows.trans ?_ (notKey_scanEui hk _ _)
  iterate 3 refine Shows.thenWr ?_ (by revert k; decide)
  exact Shows.refl _ s

theorem notKey_refreshScan {k : Nat} (hk : k ∈ asideKeys) (s : State) : Shows (notKey k) s (refreshScan s) := by
  unfold refreshScan
  dsimp only
  split
  · split
    · split
      · exact Shows.refl _ s
      · unfold scanTo
        split
        · exact notKey_showScan hk _ s
        · exact ⟨⟨_, _, _, _, _, rfl⟩, fun _ _ => rfl⟩
    · split
      · exact Shows.refl _ s
      · exact notKey_clearScan hk s
  · exact Shows.refl _ s

theorem notKey_refreshBuffer {k : Nat} (hk : k ∈ asideKeys) (s : State) : Shows (notKey k) s (refreshBuffer s) := by
  unfold refreshBuffer
  refine Shows.foldlMem _ _ (fun s n hn => ?_) s
  obtain ⟨level, high⟩ := (by decide : ∀ k ∈ asideKeys, ∀ n ∈ List.range 2,
    notKey k (F.ETH.BUFFER_LEVEL n).key = true ∧ notKey k (F.ETH.BUFFER_PEAK n).key = true) k hk n hn
  exact (Shows.wr _ _ _ level).thenWr high

theorem notKey_showBusy {k : Nat} (hk : k ∈ asideKeys) (s : State) : Shows (notKey k) s (showBusy s) := by
  unfold showBusy
  refine Shows.foldlMem _ _ (fun s pg hp => ?_) s
  split
  · exact Shows.refl _ s
  · exact Shows.wr _ _ _ ((by decide : ∀ k ∈ asideKeys, ∀ p ∈ fullPages, notKey k (F.HEAD.STATE_BUSY p).key = true) k hk pg hp)

theorem notKey_reserveLow {k : Nat} (hk : k ∈ asideKeys) (cls : Nat) (s : State) : Shows (notKey k) s (reserveLow cls s) := by
  unfold reserveLow logCairn
  refine (shows_latch _ reservePage 1 s (by revert k; decide) (by revert k; decide)).trans ?_
  unfold queueRecord
  split
  · exact ⟨⟨_, _, _, _, _, rfl⟩, fun _ _ => rfl⟩
  · exact Shows.trans (t := { latch reservePage 1 s with
      cairn := { (latch reservePage 1 s).cairn with dropped := (latch reservePage 1 s).cairn.dropped + 1 } })
      ⟨⟨_, _, _, _, _, rfl⟩, fun _ _ => rfl⟩ (Shows.wr _ _ _ (by revert k; decide))

theorem notKey_showRemain {k : Nat} (hk : k ∈ asideKeys) (old s : State) : Shows (notKey k) s (showRemain old s) := by
  unfold showRemain
  refine Shows.foldlMem _ _ (fun t x hx => ?_) s
  have shown : notKey k x.2.1.key = true := by
    have hx2 : x.2 ∈ remains s := (List.of_mem_zip (a := x.1) (b := x.2) (by simpa using hx)).2
    simp only [remains, List.mem_cons, List.not_mem_nil, or_false] at hx2
    rcases hx2 with h | h | h | h | h | h | h | h | h <;> rw [h] <;> dsimp only <;> revert k <;> decide
  have own : Shows (notKey k) t (if rd x.2.1 t = x.2.2.2 then t else wr x.2.1 x.2.2.2 t) := by
    split
    · exact Shows.refl _ t
    · exact Shows.wr _ _ _ shown
  dsimp only
  split
  · exact own.trans (notKey_reserveLow hk _ _)
  · exact own

/-- In a calm state what follows other state is shown, up to the duration left to the lock. -/
theorem notKey_showTrial {k : Nat} (hk : k ∈ asideKeys) (old : State) {s : State} (calm : Calm s = true) :
    Shows (notKey k) s (showTrial (refreshBuffer (showProgress (storeWork old (airWork s))))) := by
  simp only [Calm, Bool.and_eq_true, Bool.not_eq_true'] at calm
  obtain ⟨still, alone⟩ := calm
  have air : airWork s = s := if_pos still
  have stored : Shows (notKey k) s (storeWork old (airWork s)) := by
    rw [air, storeWork, show mirrorChanges old s = s by simp [mirrorChanges, alone]]
    exact (notKey_showSlots hk s).trans (notKey_refreshScan hk _)
  have keys : notKey k F.DISSEM.PROG_DATA.key = true ∧ notKey k F.FWUP.TRIAL_LEFT.key = true := by
    clear stored
    revert k
    decide
  obtain ⟨prog, left⟩ := keys
  exact ((stored.thenWr prog).trans (notKey_refreshBuffer hk _)).thenWr left

/-- With the lock closed and nothing waiting, the work after a command leaves the duration left as it is. -/
theorem notRemaining_settleWork (old : State) {s : State} (closed : s.root.trustEnd = none) (calm : Calm s = true) :
    Shows (notKey F.BAR4.TRUST_STATUS_REMAINING.key) s (settleWork old s) := by
  have hk : F.BAR4.TRUST_STATUS_REMAINING.key ∈ asideKeys := by decide
  have shown := notKey_showTrial hk old calm
  have still : showTrust (showTrial (refreshBuffer (showProgress (storeWork old (airWork s))))) =
      showTrial (refreshBuffer (showProgress (storeWork old (airWork s)))) := by
    generalize showTrial (refreshBuffer (showProgress (storeWork old (airWork s)))) = t at shown
    have root : t.root = s.root := by
      obtain ⟨⟨_, _, _, _, _, rfl⟩, -⟩ := shown
      rfl
    rw [showTrust, root, closed]
  rw [settleWork, showWork, still]
  exact ((shown.thenWr (by decide)).trans (notKey_showBusy hk _)).trans (notKey_showRemain hk old _)

theorem gives_closed {s : State} (calm : Calm s = true) :
    Gives .trustClose s (fun t => lockOpen t = false ∧ rd F.BAR4.TRUST_STATUS_REMAINING t = 0 ∧
      Within [.word 0x80 0x000] [.root] s t) := by
  have run : exec .trustClose s = done s (settleWork s (closeLock s)) := by
    have own : bar4Write 0x0024 0xF 2 s = closeLock s := bar4Write_trustCmd (.inr rfl) s
    rw [← own]
    rfl
  have frame := frame_closeLock s
  obtain ⟨closed, remaining⟩ := closeLock_closes s
  have still : Calm (closeLock s) = true := (frame.calm (by decide) (by decide)).trans calm
  refine gives_done run ⟨?_, ?_, ((frame.settleWork still).pending)⟩
  · rw [lockOpen, isSet, rd_pending, (follows_calm s _ still).regs _ (by decide)]
    exact closed
  · rw [rd_pending, (notRemaining_settleWork s rfl still).regs _ (by decide)]
    exact remaining

theorem gives_expired {s : State} (opened : s.root.trustEnd.isSome = true) (calm : Calm s = true) :
    Gives .trustDurationExpiry s (fun t => lockOpen t = false ∧ t.root.trustEnd = none ∧
      Within [.word 0x80 0x000] [.root] s t) := by
  have run : exec .trustDurationExpiry s = done s (settleWork s (closeLock s)) := by
    have own : trustExpiry s = closeLock s := if_pos opened
    rw [← own]
    rfl
  have frame := frame_closeLock s
  obtain ⟨closed, -⟩ := closeLock_closes s
  refine gives_calm run ((frame.calm (by decide) (by decide)).trans calm) fun t ht => ⟨?_, ?_, frame.then ht (by decide) (by decide)⟩
  · rw [lockOpen, isSet, ht.regs _ (by decide) rfl]
    exact closed
  · rw [show t.root = _ from ht.parts .root List.not_mem_nil]
    rfl

/-- The signature of an unlock, checked over its message (R375, R634). -/
def unlockVerified (s : State) : Option Bool :=
  verify 2 (regOctets F.BAR4.TRUST_PUBKEY 24 s) (regOctets F.BAR4.TRUST_SIG 24 s) (bytesLe 48 (sha384 (unlockMessage s)))

theorem regOctets_congr {f : Nat → Field} {n : Nat} {s t : State} (h : ∀ k < n, rd (f k) t = rd (f k) s) :
    regOctets f n t = regOctets f n s := by
  simp only [regOctets, List.flatMap_def]
  exact congrArg List.flatten (List.map_congr_left fun k hk => by rw [h k (List.mem_range.mp hk)])

theorem unlockFields_apart : (∀ k < 24, (F.BAR4.TRUST_SIG k).key ≠ F.PKE.OPS.key) ∧
    (∀ k < 4, (F.BAR4.TRUST_NONCE k).key ≠ F.PKE.OPS.key) := by decide

/-- The count of operations is nothing that an unlock is judged by. -/
theorem unlockMessage_counted (s : State) : unlockMessage (inc F.PKE.OPS s) = unlockMessage s := by
  rw [unlockMessage, unlockMessage, dieId, dieId, lifecycle, lifecycle, inc,
    regOctets_congr fun k hk => rd_wr_ne _ _ _ _ (unlockFields_apart.2 k hk), rd_wr_ne _ _ _ _ (by decide),
    rd_wr_ne _ _ _ _ (by decide), rd_wr_ne _ _ _ _ (by decide), rd_wr_ne _ _ _ _ (by decide)]

/-- The lock opened for the duration asked. -/
def lockOpened (s : State) : State :=
  let t := rd F.BAR4.TRUST_DURATION s
  wr F.BAR4.TRUST_STATUS_RESULT 1 (wr F.BAR4.TRUST_STATUS_OPEN 1 (wr F.BAR4.TRUST_STATUS_REMAINING t
    { s with root := { s.root with trustEnd := some (s.now + t * 1000000000) } }))

theorem trustUnlock_judged {s : State} (stage : lifecycle s = LC_DEPLOYED ∨ lifecycle s = LC_RECOVERY)
    (serves : pageState 0x33 s ≠ FAULT)
    (owner : some (sha384 (regOctets F.BAR4.TRUST_PUBKEY 24 s) % 2 ^ 384) = s.root.ownerPin) :
    trustUnlock s = drawWords F.BAR4.TRUST_NONCE (if unlockVerified s = some true then lockOpened (inc F.PKE.OPS s)
      else wr F.BAR4.TRUST_STATUS_RESULT 3 (inc F.PKE.INVALIDS (inc F.PKE.OPS s))) := by
  have may : ¬ ((lifecycle s ≠ LC_DEPLOYED ∧ lifecycle s ≠ LC_RECOVERY) ∨ pageState 0x33 s = FAULT) := by
    rintro (⟨h, k⟩ | h)
    · exact stage.elim h k
    · exact serves h
  have sig : regOctets F.BAR4.TRUST_SIG 24 (inc F.PKE.OPS s) = regOctets F.BAR4.TRUST_SIG 24 s :=
    regOctets_congr fun k hk => rd_wr_ne _ _ _ _ (unlockFields_apart.1 k hk)
  simp only [trustUnlock, if_neg may, owner, ne_eq, not_true_eq_false, if_false, sig, unlockMessage_counted]
  change (if unlockVerified s = some true then _ else _) = _
  split <;> rfl

theorem frame_nonce (s : State) : Within [.word 0x80 0x010, .word 0x80 0x014, .word 0x80 0x018, .word 0x80 0x01C] [.draws] s
    (drawWords F.BAR4.TRUST_NONCE s) := Within.drawWords (Within.refl _ _ s) (by decide) (by decide)

theorem gives_unlocked {s : State} (stage : lifecycle s = LC_DEPLOYED ∨ lifecycle s = LC_RECOVERY) (serves : pageState 0x33 s ≠ FAULT)
    (owner : some (sha384 (regOctets F.BAR4.TRUST_PUBKEY 24 s) % 2 ^ 384) = s.root.ownerPin) (calm : Calm s = true) :
    Gives .trustUnlock s (fun t =>
      rd F.BAR4.TRUST_STATUS_RESULT t = (if unlockVerified s = some true then 1 else 3) ∧
      lockOpen t = (lockOpen s || unlockVerified s == some true) ∧
      rd F.PKE.OPS t = (rd F.PKE.OPS s + 1) % 2 ^ 32 ∧
      Within [.page 0x80, .word 0x33 0x060, .word 0x33 0x064] [.draws, .root] s t) := by
  have run : exec .trustUnlock s = done s (settleWork s (trustUnlock s)) := by
    have own : bar4Write 0x0024 0xF 1 s = trustUnlock s := bar4Write_trustCmd (.inl rfl) s
    rw [← own]
    rfl
  have frame := frame_trustUnlock s
  have own := trustUnlock_judged stage serves owner
  generalize unlockVerified s = verdict at own ⊢
  refine gives_calm run ((frame.calm (by decide) (by decide)).trans calm) fun t ht => ⟨?_, ?_, ?_, frame.then ht (by decide) (by decide)⟩
  · rw [ht.regs _ (by decide) rfl, own, (frame_nonce _).regs _ (by decide) (by decide)]
    split
    · exact rd_wr_same _ _ _
    · exact rd_wr_same _ _ _
  · rw [lockOpen, isSet, ht.regs _ (by decide) rfl, own, (frame_nonce _).regs _ (by decide) (by decide)]
    split
    · next good =>
      rw [good, lockOpened, rd_wr_ne _ _ _ _ (by decide), rd_wr_same]
      exact (Bool.or_true _).symm
    · next bad =>
      rw [rd_wr_ne _ _ _ _ (by decide), inc, rd_wr_ne _ _ _ _ (by decide), inc, rd_wr_ne _ _ _ _ (by decide),
        beq_eq_false_iff_ne.mpr bad, Bool.or_false]
      rfl
  · rw [ht.regs _ (by decide) rfl, own, (frame_nonce _).regs _ (by decide) (by decide)]
    split
    · rw [lockOpened, rd_wr_ne _ _ _ _ (by decide), rd_wr_ne _ _ _ _ (by decide), rd_wr_ne _ _ _ _ (by decide)]
      exact rd_wr_same _ _ _
    · rw [rd_wr_ne _ _ _ _ (by decide), inc, rd_wr_ne _ _ _ _ (by decide)]
      exact rd_wr_same _ _ _

/-- Settles O31. -/
theorem lifeCycleAndLock : Obligations.LifeCycleAndLock := by
  unfold Obligations.LifeCycleAndLock
  refine ⟨?_, ?_, ?_, ?_, fun s lock accept calm => gives_exitAsked lock accept calm,
    fun s stage serves owner calm => gives_unlocked stage serves owner calm, fun s calm => gives_closed calm,
    fun s opened calm => gives_expired opened calm⟩
  · rintro target _ _ s lock accept stage dest rfl valid rfl
    refine (gives_deployed lock accept stage dest valid).imp ?_
    rintro t ⟨stage, fused, result, closed, -, frame⟩
    exact ⟨stage, fused, result, closed, frame⟩
  · rintro target _ _ s lock accept stage dest rfl ready pin rfl
    refine (gives_provisioned lock accept stage dest ready pin).imp ?_
    rintro t ⟨stage, -, result, closed, root, frame⟩
    exact ⟨stage, result, by rw [root], closed, frame⟩
  · rintro target withSeal _ s lock accept blank gone dest rfl
    exact gives_decommissioned lock accept blank gone dest
  · rintro _ s lock accept stage sealed ready keys battery rfl held now
    exact gives_sealed lock accept stage sealed ready keys battery held now

end Sys2Proof.Machine
end

section
/-! PROOF. Dissemination that goes on when a lane begins to wait for its FIFO (R184, R566, R568): the refutation of
`Obligations.FrameVerdicts` as it is stated. -/

namespace Sys2Proof.Machine

/-- A received data frame. -/
def plainData : Mhr := { version := 2, ftype := .data, pan := none, dst := .none, src := .none, ackReq := false, seq := 0, security := false }

/-- A part in service in which the octets of a lane that ends fill the packet buffer, while a campaign that has reached its
target has a committed symbol frame and a queued one. -/
def endingCampaign : State :=
  let s := wr F.MGMT.START_STAGE 8 { State.reset with boot := { held := false } }
  let s := wr (F.DISSEM.C_STATUS_STATE 0) C_RUNNING (wr (F.DISSEM.C_CFG_END_AT_TARGET 0) 1
    (wr (F.DISSEM.C_TARGET 0) 1 (wr (F.DISSEM.C_COMPLETE 0) 1 s)))
  { s with
    lanes := [(0, { state := .ending, octets := 6000000, fifo := 1, rx := { mhr := some plainData } })]
    frames := [(1, { kind := .symbol 0, length := 0, place := .committed 0 .none }), (2, { kind := .symbol 0, length := 0 })] }

theorem lane_endingCampaign : lane 0 endingCampaign =
    { state := .ending, octets := 6000000, fifo := 1, rx := { mhr := some plainData } } := by decide

theorem meets_endingCampaign : bufferFull endingCampaign = true ∧ Calm endingCampaign = true := by decide

/-- What the lane's frame, which fails its FCS, makes of the state. -/
def endedUnseen : State := frameVerdict 0 false true ⟨0, 0, 0, 0⟩ { payload := .data [] } endingCampaign

theorem exec_endingCampaign : exec (.frameVerdict 0 false true ⟨0, 0, 0, 0⟩ { payload := .data [] }) endingCampaign =
    done endingCampaign (settleWork endingCampaign endedUnseen) := rfl

/-- The campaign ends, and its queued frame with it. -/
theorem ends_endedUnseen : mirrors (airWork endedUnseen) = false ∧ (airWork endedUnseen).ledger.length ≠ 1 := by
  decide +kernel

/-- Refutes O23: the clause of a lane that waits for its FIFO has no other frame end, where the work that then goes on ends a
campaign. -/
theorem not_frameVerdicts : ¬ Obligations.FrameVerdicts := by
  unfold Obligations.FrameVerdicts
  rintro ⟨-, -, -, -, -, waits⟩
  obtain ⟨full, calm⟩ := meets_endingCampaign
  obtain ⟨quiet, more⟩ := ends_endedUnseen
  have l : lane (0 : Fin 136).val endingCampaign = _ := lane_endingCampaign
  obtain ⟨-, -, ledger, -⟩ := (waits 0 false true ⟨0, 0, 0, 0⟩ { payload := .data [] } endingCampaign plainData
    (by rw [l]) (by rw [l]) (by rw [l]; decide) full (by rw [l]) (by decide) (by decide) rfl calm).of_done exec_endingCampaign
  have kept := (((Within.refl [] [] (airWork endedUnseen)).follows
    (follows_airWork endingCampaign endedUnseen quiet)).pending (q := endingCampaign.pending)).parts .ledger (by decide)
  unfold Agrees at kept
  rw [kept] at ledger
  exact more (by rw [ledger]; rfl)

end Sys2Proof.Machine
end

section
/-! PROOF. What a change of one lane leaves: no lane begins to wait, so that a calm state stays calm. -/

namespace Sys2Proof.Machine

/-- The lanes, and what waits for each front end, are as before. -/
def KeepsLanes (s u : State) : Prop := u.lanes = s.lanes ∧ ∀ p, (fe p u).waiting = (fe p s).waiting

theorem KeepsLanes.refl (s : State) : KeepsLanes s s := ⟨rfl, fun _ => rfl⟩

theorem KeepsLanes.trans {s t u : State} (h : KeepsLanes s t) (k : KeepsLanes t u) : KeepsLanes s u :=
  ⟨k.1.trans h.1, fun p => (k.2 p).trans (h.2 p)⟩

theorem KeepsLanes.wr {s t : State} (h : KeepsLanes s t) (f : Field) (v : Nat) : KeepsLanes s (Machine.wr f v t) := h

theorem KeepsLanes.ite {s t u : State} {c : Prop} [Decidable c] (h : KeepsLanes s t) (k : KeepsLanes s u) :
    KeepsLanes s (if c then t else u) := by
  split
  · exact h
  · exact k

theorem KeepsLanes.shiftCount {s t : State} (h : KeepsLanes s t) (f : Field) (a b : Bool) :
    KeepsLanes s (Machine.shiftCount f a b t) := by
  unfold Machine.shiftCount
  split
  · exact h
  · exact h
  · exact h

theorem fe_modFe (n p : Nat) (f : Fe → Fe) (s : State) : fe p (modFe n f s) = if p = n then f (fe n s) else fe p s := by
  split
  case isTrue h => rw [h]; exact look_insert_same _ _ _ _
  case isFalse h => exact look_insert_ne _ _ _ _ _ h

theorem KeepsLanes.freezeGain {s t : State} (h : KeepsLanes s t) (p : Nat) : KeepsLanes s (Machine.freezeGain p t) := by
  unfold Machine.freezeGain
  refine .ite h ⟨h.1, fun q => ?_⟩
  rw [fe_modFe]
  split
  case isTrue same => rw [same]; exact h.2 p
  case isFalse => exact h.2 q

/-- What `setLane` stores. -/
def stampLane (i : Nat) (l : Lane) (s : State) : State :=
  { s with lanes := insert s.lanes i { l with seq := (laneSeq (lane i s) s.now + 2) % 2 ^ 32, seqAt := s.now } }

theorem setLane_stores (i : Nat) (l : Lane) (s : State) : KeepsLanes (stampLane i l s) (setLane i l s) := by
  unfold setLane
  extract_lets o s1 s2 s3 s4 s5 s6 s7 s8 s9
  have k2 : KeepsLanes s1 s2 := .ite (.refl s1) (.refl s1)
  have k4 : KeepsLanes s1 s4 := .ite k2 k2
  have k7 : KeepsLanes s1 s7 := ((k4.shiftCount _ _ _).shiftCount _ _ _).shiftCount _ _ _
  have k8 : KeepsLanes s1 s8 := .ite k7 (.ite k7 k7)
  have k9 : KeepsLanes s1 s9 := .ite (k8.freezeGain _) k8
  exact .ite (k9.freezeGain _) k9

theorem lane_stampLane_same (i : Nat) (l : Lane) (s : State) :
    lane i (stampLane i l s) = { l with seq := (laneSeq (lane i s) s.now + 2) % 2 ^ 32, seqAt := s.now } :=
  look_insert_same _ _ _ _

theorem KeepsLanes.lane {s u : State} (h : KeepsLanes s u) (i : Nat) : Machine.lane i u = Machine.lane i s := by
  unfold Machine.lane
  rw [h.1]

/-- What is read of a lane that has been set. -/
theorem lane_setLane_same (i : Nat) (l : Lane) (s : State) :
    lane i (setLane i l s) = { l with seq := (laneSeq (lane i s) s.now + 2) % 2 ^ 32, seqAt := s.now } :=
  ((setLane_stores i l s).lane i).trans (lane_stampLane_same i l s)

theorem lane_modLane_same (i : Nat) (f : Lane → Lane) (s : State) :
    lane i (modLane i f s) = { f (lane i s) with seq := (laneSeq (lane i s) s.now + 2) % 2 ^ 32, seqAt := s.now } :=
  lane_setLane_same i _ s

/-- A lane that the pool waits for: one in CHECK or FAULT, or one that frees its FIFO. -/
def Lane.waits (l : Lane) : Bool := l.state == .check || l.state == .fault || l.freeing.isSome

/-- Nothing waits for a lane, and what waits for each front end is as before. -/
def KeepsCalm (s u : State) : Prop :=
  ((∀ x ∈ s.lanes, x.2.waits = false) → ∀ x ∈ u.lanes, x.2.waits = false) ∧ ∀ p, (fe p u).waiting = (fe p s).waiting

theorem KeepsCalm.trans {s t u : State} (h : KeepsCalm s t) (k : KeepsCalm t u) : KeepsCalm s u :=
  ⟨fun a => k.1 (h.1 a), fun p => (k.2 p).trans (h.2 p)⟩

theorem KeepsLanes.keepsCalm {s u : State} (h : KeepsLanes s u) : KeepsCalm s u := ⟨fun a => h.1 ▸ a, h.2⟩

theorem Within.keepsLanes {P : List Scope} {S : List Part} {s t : State} (h : Within P S s t) (l : Part.lanes ∉ S)
    (f : Part.fes ∉ S) : KeepsLanes s t := by
  have fes : t.fes = s.fes := h.parts .fes f
  exact ⟨h.parts .lanes l, fun p => by unfold fe; rw [fes]⟩

theorem mem_of_mem_insert {α : Type} {t : Tbl α} {k : Nat} {v : α} {x : Nat × α} (h : x ∈ insert t k v) :
    x = (k, v) ∨ x ∈ t := by
  induction t with
  | nil => exact .inl (List.mem_singleton.mp h)
  | cons y r ih =>
    unfold Machine.insert at h
    split at h
    · exact (List.mem_cons.mp h)
    · split at h
      · exact (List.mem_cons.mp h).imp_right (List.mem_cons_of_mem _)
      · rcases List.mem_cons.mp h with same | rest
        · exact .inr (same ▸ List.mem_cons_self)
        · exact (ih rest).imp_right (List.mem_cons_of_mem _)

theorem setLane_keepsCalm (i : Nat) (l : Lane) (s : State) (h : l.waits = false) : KeepsCalm s (setLane i l s) := by
  refine KeepsCalm.trans (t := stampLane i l s) ⟨fun none x mem => ?_, fun _ => rfl⟩ (setLane_stores i l s).keepsCalm
  rcases mem_of_mem_insert mem with new | old
  · rw [new]
    exact h
  · exact none x old

theorem modLane_keepsCalm (i : Nat) (f : Lane → Lane) (s : State) (h : (f (lane i s)).waits = false) :
    KeepsCalm s (modLane i f s) := setLane_keepsCalm i _ s h

theorem mem_mapTbl {α : Type} {f : Nat → α → α} {t : Tbl α} {x : Nat × α} (h : x ∈ mapTbl f t) :
    ∃ y ∈ t, x = (y.1, f y.1 y.2) := by
  induction t with
  | nil => exact absurd h List.not_mem_nil
  | cons y r ih =>
    rcases List.mem_cons.mp h with same | rest
    · exact ⟨y, List.mem_cons_self, same⟩
    · obtain ⟨z, mem, eq⟩ := ih rest
      exact ⟨z, List.mem_cons_of_mem _ mem, eq⟩

theorem changeLanes_keepsCalm (q : Lane → Bool) (g : Lane → Lane) (s : State) (h : ∀ l, (g l).waits = l.waits) :
    KeepsCalm s (changeLanes q g s) := by
  refine ⟨fun none x mem => ?_, fun _ => rfl⟩
  obtain ⟨y, old, eq⟩ := mem_mapTbl mem
  rw [eq]
  split
  · exact (h y.2).trans (none y old)
  · exact none y old

theorem find_mapTbl {α : Type} (f : Nat → α → α) (t : Tbl α) (k : Nat) :
    find (mapTbl f t) k = (find t k).map (f k) := by
  induction t with
  | nil => rfl
  | cons y r ih =>
    unfold mapTbl find
    split
    case isTrue same => rw [same]; rfl
    case isFalse => exact ih

/-- The lanes that a calm state is judged by do not wait. -/
theorem lanesWaiting_isEmpty (s : State) : (lanesWaiting s).isEmpty = true ↔ ∀ x ∈ s.lanes, x.2.waits = false := by
  unfold lanesWaiting
  rw [List.isEmpty_iff, List.map_eq_nil_iff, List.filter_eq_nil_iff]
  exact forall₂_congr fun x _ => (Bool.not_eq_true x.2.waits).to_iff

/-- A command on lanes and front ends for which nothing then waits leaves a calm state calm. -/
theorem Within.calmLanes {P : List Scope} {S : List Part} {s t : State} (h : Within P S s t)
    (hS : ∀ p ∈ [Part.frames, .campaigns, .relief, .poolTest, .fw, .rope, .engines], p ∉ S)
    (hP : ∀ k ∈ calmKeys, inScopes P k = false) (keeps : KeepsCalm s t) (calm : Calm s = true) : Calm t = true := by
  have f : t.frames = s.frames := h.parts .frames (hS _ (by simp))
  have c : t.campaigns = s.campaigns := h.parts .campaigns (hS _ (by simp))
  obtain ⟨-, r⟩ := h.parts .relief (hS _ (by simp))
  obtain ⟨d, p⟩ := h.parts .poolTest (hS _ (by simp))
  have w : t.fw = s.fw := h.parts .fw (hS _ (by simp))
  have o : t.rope = s.rope := h.parts .rope (hS _ (by simp))
  obtain ⟨-, -, g⟩ := h.parts .engines (hS _ (by simp))
  have k : ∀ g : Field, followKey g.key = false → g.key ∈ calmKeys → rd g t = rd g s := fun g a b => h.regs g a (hP _ b)
  have k1 := k F.FWUP.ROLL_ACTIVE (by decide) (by decide)
  have k3 := k F.ROPE.ROLE_STATE (by decide) (by decide)
  have k4 := k F.ROPE.LINK_ATTACHED (by decide) (by decide)
  have p0 := k (F.FE.RF_STATE_RETUNE_PENDING 0) (by decide) (by decide)
  have p1 := k (F.FE.RF_STATE_RETUNE_PENDING 1) (by decide) (by decide)
  have p2 := k (F.FE.RF_STATE_RETUNE_PENDING 2) (by decide) (by decide)
  have p3 := k (F.FE.RF_STATE_RETUNE_PENDING 3) (by decide) (by decide)
  have l : List.range 4 = [0, 1, 2, 3] := by decide
  unfold Calm quiet mirrors ropeRole attached isSet at calm ⊢
  simp only [l, List.all_cons, List.all_nil, keeps.2, f, c, r, d, p, w, o, g, k1, k3, k4, p0, p1, p2, p3] at calm ⊢
  simp only [Bool.and_eq_true, lanesWaiting_isEmpty] at calm ⊢
  obtain ⟨⟨⟨⟨before, lanes⟩, fes⟩, engines⟩, rope⟩ := calm
  exact ⟨⟨⟨⟨before, keeps.1 lanes⟩, fes⟩, engines⟩, rope⟩

end Sys2Proof.Machine
end

section
/-! PROOF. The MHR, the security header and the key of a received frame (R226 to R231, R398): `Obligations.FrameHeaders`. -/

namespace Sys2Proof.Machine

/-- A lane that a change does not pick is as before. -/
theorem lane_changeLanes (q : Lane → Bool) (g : Lane → Lane) (i : Nat) (s : State) (h : q (lane i s) = false) :
    lane i (changeLanes q g s) = lane i s := by
  unfold lane look changeLanes
  rw [find_mapTbl]
  cases found : find s.lanes i with
  | none => rfl
  | some l =>
    have is : lane i s = l := by
      unfold lane look
      rw [found]
      rfl
    rw [is] at h
    simp only [Option.map_some, Option.getD_some, h, Bool.false_eq_true, if_false]

theorem releaseLane_state (i : Nat) (d : Option Disp) (s : State) : (lane i (releaseLane i d s)).state = .idle := by
  unfold releaseLane
  extract_lets t
  have released : lane i t = _ := lane_modLane_same i _ _
  unfold freeVictims
  rw [lane_changeLanes _ _ _ _ (by rw [released]; rfl), released]

theorem releaseLane_keepsCalm (i : Nat) (d : Option Disp) (s : State) : KeepsCalm s (releaseLane i d s) := by
  unfold releaseLane
  extract_lets t
  have freed := ((frame_freeEngine (lane i s).rx.engine s).keepsLanes (by decide) (by decide)).keepsCalm
  have released : KeepsCalm (freeEngine (lane i s).rx.engine s) t := modLane_keepsCalm i _ _ rfl
  exact (freed.trans released).trans (changeLanes_keepsCalm _ _ _ fun _ => rfl)

/-- How a lane that holds no FIFO back ends. -/
theorem endLane_releases (i : Nat) (d : Disp) (s : State) (h : (lane i s).freeing = none) : endLane i d s =
    releaseLane i (some (laneCode (lane i s) d)) (closeLane (lane i s) (laneCode (lane i s) d) s) := by
  unfold endLane
  extract_lets l
  rw [h]

theorem endLane_state (i : Nat) (d : Disp) (s : State) : (lane i (endLane i d s)).state = .idle := by
  unfold endLane
  extract_lets l
  split
  · exact releaseLane_state _ _ _
  · exact releaseLane_state _ _ _

theorem endLane_keepsCalm (i : Nat) (d : Disp) (s : State) : KeepsCalm s (endLane i d s) := by
  unfold endLane
  extract_lets l
  split
  · exact releaseLane_keepsCalm _ _ _
  · exact ((frame_closeLane _ _ _).keepsLanes (by decide) (by decide)).keepsCalm.trans (releaseLane_keepsCalm _ _ _)

theorem endLane_ledger (i : Nat) (d : Disp) (s : State) (h : (lane i s).freeing = none) :
    (endLane i d s).ledger = ((lane i s).frame, laneCode (lane i s) d) :: s.ledger := by
  have released := (frame_releaseLane i (some (laneCode (lane i s) d)) (closeLane (lane i s) (laneCode (lane i s) d) s)).parts
    .ledger (by decide)
  have counted : (countLaneEnd (lane i s).logical (laneCode (lane i s) d) s).ledger = s.ledger :=
    (frame_countLaneEnd _ _ s).parts .ledger (by decide)
  have noted := (frame_rxStat (lane i s).nodeIndex (laneCode (lane i s) d) (close (lane i s).frame (laneCode (lane i s) d)
    (countLaneEnd (lane i s).logical (laneCode (lane i s) d) s))).parts .ledger (by decide)
  rw [endLane_releases i d s h]
  refine Eq.trans released (Eq.trans noted ?_)
  unfold close
  rw [counted]

theorem laneCode_dropAddr (l : Lane) : laneCode l .dropAddr = .dropAddr := by simp [laneCode]

theorem endLane_addrDrops (i : Nat) (s : State) (h : (lane i s).freeing = none) :
    rd F.MAC.ADDR_DROPS (endLane i .dropAddr s) = (rd F.MAC.ADDR_DROPS s + 1) % 2 ^ 32 := by
  rw [endLane_releases i _ s h, laneCode_dropAddr, (frame_releaseLane _ _ _).regs _ (by decide) (by decide)]
  unfold closeLane
  rw [(frame_rxStat _ _ _).regs _ (by decide) (by decide)]
  exact rd_wr_same _ _ _

theorem mem_of_find {α : Type} {t : Tbl α} {k : Nat} {v : α} (h : find t k = some v) : (k, v) ∈ t := by
  induction t with
  | nil => exact absurd h (Option.some_ne_none v).symm
  | cons y r ih =>
    unfold Machine.find at h
    split at h
    case isTrue same =>
      rw [same, Option.some.inj h.symm]
      exact List.mem_cons_self
    case isFalse => exact List.mem_cons_of_mem _ (ih h)

/-- In a calm state no lane waits. -/
theorem lane_waits_of_calm {s : State} (calm : Calm s = true) (i : Nat) : (lane i s).waits = false := by
  have none : ∀ x ∈ s.lanes, x.2.waits = false := by
    rw [← lanesWaiting_isEmpty]
    unfold Calm quiet at calm
    simp only [Bool.and_eq_true] at calm
    obtain ⟨⟨⟨⟨-, lanes⟩, -⟩, -⟩, -⟩ := calm
    exact lanes
  unfold lane look
  cases found : find s.lanes i with
  | none =>
    dsimp only [Option.getD_none]
    split
    · rfl
    · rfl
  | some l => exact none (i, l) (mem_of_find found)

theorem modRx_keepsCalm (i : Nat) (f : Rx → Rx) (s : State) (h : (lane i s).waits = false) : KeepsCalm s (modRx i f s) :=
  modLane_keepsCalm i _ s h

theorem lane_modRx_rx (i : Nat) (f : Rx → Rx) (s : State) : (lane i (modRx i f s)).rx = f (lane i s).rx := by
  unfold modRx
  rw [lane_modLane_same]

theorem lane_modRx_state (i : Nat) (f : Rx → Rx) (s : State) : (lane i (modRx i f s)).state = (lane i s).state := by
  unfold modRx
  rw [lane_modLane_same]

theorem lane_modRx_waits (i : Nat) (f : Rx → Rx) (s : State) : (lane i (modRx i f s)).waits = (lane i s).waits := by
  unfold modRx
  rw [lane_modLane_same]
  rfl

theorem lane_modRx_counter (i : Nat) (f : Rx → Rx) (s : State) : (lane i (modRx i f s)).counter = (lane i s).counter := by
  unfold modRx
  rw [lane_modLane_same]

/-- A lane reads alike where all lanes do. -/
theorem Within.lane {P : List Scope} {S : List Part} {s t : State} (h : Within P S s t) (l : Part.lanes ∉ S) (i : Nat) :
    Machine.lane i t = Machine.lane i s := by
  have same : t.lanes = s.lanes := h.parts .lanes l
  unfold Machine.lane
  rw [same]

/-- A lane that takes a frame whose MHR is not yet known. -/
theorem takes_mhr {l : Lane} (state : l.state = .payload ∨ l.state = .ending) (first : l.rx.mhr = none) :
    ¬ (¬ (l.state = .payload ∨ l.state = .ending) ∨ l.rx.mhr.isSome = true) := by
  rintro (other | known)
  · exact other state
  · rw [first] at known
    exact absurd known (by decide)

/-! ### The MHR -/

/-- The scopes that the clauses of MHR_COMPLETE allow for a frame that ends. -/
def endScopes : List Scope :=
  [.page 0x11, .page 0x10, .page 0x31, .word 0x20 0x0D0, .word 0x20 0x0D4, .word 0x20 0x0D8, .word 0x20
    0x0DC, .word 0x20 0x0C8, .word 0x20 0x0CC, .word 0x20 0x014, .word 0x20 0x0BC, .page 0x1B, .word 0x19 0x0A4, .word
    0x19 0x0A8, .word 0x19 0x0AC, .word 0x19 0x0B0, .word 0x19 0x0B4, .word 0x19 0x0B8, .page 0x24, .page 0x25, .page
    0x26, .page 0x27, .word 0x21 0x050, .word 0x21 0x04C]

/-- A frame whose MHR ends it. -/
theorem gives_endLane {c : Instr} {s : State} {i : Nat} {d : Disp} (run : exec c s = done s (settleWork s (endLane i d s)))
    (free : (lane i s).freeing = none) (calm : Calm s = true) : Gives c s (fun t => (lane i t).state = .idle ∧
      t.ledger = ((lane i s).frame, laneCode (lane i s) d) :: s.ledger ∧
      rd F.MAC.ADDR_DROPS t = rd F.MAC.ADDR_DROPS (endLane i d s) ∧
      Within (endScopes ++ airScopes) ([.lanes, .fes, .nodes, .ledger, .frames, .duty] ++ airParts) s t) := by
  have frame := frame_endLane i d s
  have quiet := frame.calmLanes (by decide) (by decide) (endLane_keepsCalm i d s) calm
  refine gives_calm run quiet fun t ht => ⟨?_, ?_, ?_, ?_⟩
  · rw [ht.lane (by decide)]
    exact endLane_state i d s
  · exact Eq.trans (ht.parts .ledger List.not_mem_nil) (endLane_ledger i d s free)
  · exact ht.regs _ (by decide) rfl
  · exact (frame.mono (List.all_eq_true.mp (by decide)) (by decide)).then ht (by decide) (by decide)

theorem mhrComplete_outside (i : Nat) (m : Mhr) (find : Parity) (s : State)
    (state : (lane i s).state = .payload ∨ (lane i s).state = .ending) (first : (lane i s).rx.mhr = none)
    (long : m.tooShort = false) (off : pageState 0x19 s ≠ RUN) : mhrComplete i m find s = endLane i .dropDisabled s := by
  unfold mhrComplete
  extract_lets l
  rw [if_neg (takes_mhr state first), if_neg (by simp [long]), if_pos off]

theorem mhrComplete_unaccepted (i : Nat) (m : Mhr) (find : Parity) (s : State)
    (state : (lane i s).state = .payload ∨ (lane i s).state = .ending) (first : (lane i s).rx.mhr = none)
    (long : m.tooShort = false) (run : pageState 0x19 s = RUN) (form : formAccepted m s = false) :
    mhrComplete i m find s = endLane i .dropAddr s := by
  unfold mhrComplete
  extract_lets l
  rw [if_neg (takes_mhr state first), if_neg (by simp [long]), if_neg (not_not_intro run), if_pos (by rw [form]; rfl)]

/-- The state in which the record of a frame's source has been found (R272). -/
def sought (find : Parity) (n : Nat) (s : State) : State := if find = .mended then coreMended n s else s

theorem frame_sought (find : Parity) (n : Nat) (s : State) : Within [.page 0x46] [] s (sought find n s) := by
  have mended : Within [.page 0x46] [] s (coreMended n s) := (frame_coreMended n s).mono (by decide) rfl
  cases find with
  | mended => exact mended
  | good => exact Within.refl _ _ s
  | lost => exact Within.refl _ _ s

/-- A node's core record as its readers see it (R272). -/
theorem core_nodeSeen_eq (i : Nat) (s : State) : (nodeSeen i s).core =
    if pageState 0x20 s = OFF then setOctBit (nodeCore i s).core flagsOct 0 false else (nodeCore i s).core := by
  unfold nodeSeen Node.flag node
  split
  · rfl
  · rfl

theorem core_nodeSeen {P : List Scope} {S : List Part} {s t : State} (h : Within P S s t) (n : Part.nodes ∉ S)
    (p : inScopes P (F.HEAD.STATE_STATE 0x20).key = false) (i : Nat) : (nodeSeen i t).core = (nodeSeen i s).core := by
  have nodes : t.nodes = s.nodes := h.parts .nodes n
  have page : pageState 0x20 t = pageState 0x20 s := h.regs _ (by decide) p
  rw [core_nodeSeen_eq, core_nodeSeen_eq, page]
  unfold nodeCore
  rw [nodes]

theorem mhrComplete_data (i : Nat) (m : Mhr) (find : Parity) (s : State) (p a : Nat)
    (state : (lane i s).state = .payload ∨ (lane i s).state = .ending) (first : (lane i s).rx.mhr = none)
    (long : m.tooShort = false) (run : pageState 0x19 s = RUN) (form : formAccepted m s = true) (data : m.ftype = .data)
    (pan : panSlot m.pan s = some p) (src : m.src = .short a) (there : find ≠ .lost)
    (open_ : (node (p * 65536 + a % 65536) s).blocked = false) :
    mhrComplete i m find s = readRecord i p m (sought find (p * 65536 + a % 65536) s) := by
  have own : m.panId = m.pan := by
    unfold Mhr.panId
    cases h : m.pan with
    | none => rw [h] at pan; exact absurd pan (by simp [panSlot])
    | some x => rfl
  have core : (node (p * 65536 + a % 65536) (sought find (p * 65536 + a % 65536) s)).blocked = false := by
    have nodes : (sought find (p * 65536 + a % 65536) s).nodes = s.nodes := (frame_sought find _ s).parts .nodes (by decide)
    rw [← open_]
    unfold node nodeCore
    rw [nodes]
  unfold mhrComplete
  extract_lets l
  rw [if_neg (takes_mhr state first), if_neg (by simp [long]), if_neg (not_not_intro run), if_neg (by simp [form]),
    if_neg (by simp [data]), own, pan]
  dsimp only
  rw [if_neg (by simp [data])]
  unfold sourceNode
  rw [src]
  dsimp only
  rw [if_neg there]
  exact if_neg (by simpa [sought] using core)

/-- What a secured frame's lane holds once its source's record is read. -/
theorem lane_readRecord (i p : Nat) (m : Mhr) (s : State) (secured : m.security = true) :
    (lane i (readRecord i p m s)).rx.mhr = some m ∧ (lane i (readRecord i p m s)).nodeIndex = sourceNode p m ∧
    (lane i (readRecord i p m s)).rx.snap = (sourceNode p m).map (fun k => (nodeSeen k s).core) ∧
    (lane i (readRecord i p m s)).state = (lane i s).state := by
  unfold readRecord
  extract_lets n t
  rw [if_pos secured, show lane i t = _ from lane_modLane_same i _ s]
  exact ⟨rfl, rfl, rfl, rfl⟩

theorem readRecord_keepsCalm (i p : Nat) (m : Mhr) (s : State) (secured : m.security = true) (h : (lane i s).waits = false) :
    KeepsCalm s (readRecord i p m s) := by
  unfold readRecord
  extract_lets n t
  rw [if_pos secured]
  exact modLane_keepsCalm i _ s h

theorem gives_readRecord {c : Instr} {find : Parity} {s : State} {i p a : Nat} {m : Mhr}
    (run : exec c s = done s (settleWork s (readRecord i p m (sought find (p * 65536 + a % 65536) s))))
    (src : m.src = .short a) (secured : m.security = true) (calm : Calm s = true) : Gives c s (fun t =>
      (lane i t).rx.mhr = some m ∧ (lane i t).nodeIndex = some (p * 65536 + a % 65536) ∧
      (lane i t).rx.snap = some (nodeSeen (p * 65536 + a % 65536) s).core ∧ (lane i t).state = (lane i s).state ∧
      Within ((endScopes ++ [.page 0x46]) ++ airScopes) ([.lanes, .fes, .nodes, .ledger, .frames, .duty] ++ airParts) s t) := by
  have found := frame_sought find (p * 65536 + a % 65536) s
  have same : lane i (sought find (p * 65536 + a % 65536) s) = lane i s := found.lane (by decide) i
  have core := core_nodeSeen found (by decide) (by decide) (p * 65536 + a % 65536)
  have still : Calm (sought find (p * 65536 + a % 65536) s) = true := (found.calm (by decide) (by decide)).trans calm
  generalize sought find (p * 65536 + a % 65536) s = v at run found same core still
  have frame := frame_readRecord i p m v
  have quiet := frame.calmLanes (by decide) (by decide)
    (readRecord_keepsCalm i p m v secured (lane_waits_of_calm still i)) still
  have source : sourceNode p m = some (p * 65536 + a % 65536) := by
    unfold sourceNode
    rw [src]
  obtain ⟨mhr, node, snap, state⟩ := lane_readRecord i p m v secured
  refine gives_calm run quiet fun t ht => ?_
  rw [ht.lane (by decide) i]
  refine ⟨mhr, node.trans source, ?_, state.trans (by rw [same]), ?_⟩
  · rw [snap, source, Option.map_some, core]
  · exact ((found.mono (List.all_eq_true.mp (by decide)) (by decide)).then frame (by decide) (by decide)).then ht (by decide)
      (by decide)

/-! ### The auxiliary security header -/

/-- The lane has taken the auxiliary security header of its frame. -/
def auxTaken (i level kim keyIndex counter : Nat) (m : Mhr) (s : State) : State :=
  modLane i (fun l => { l with
    counter := counter, rx := { l.rx with level, counter, kim, keyIndex, nonce := frameNonce l.rx m level counter } }) s

theorem lane_auxTaken_waits (i level kim keyIndex counter : Nat) (m : Mhr) (s : State) :
    (lane i (auxTaken i level kim keyIndex counter m s)).waits = (lane i s).waits := by
  unfold auxTaken
  rw [lane_modLane_same]
  rfl

theorem lane_auxTaken_heard (i level kim keyIndex counter : Nat) (m : Mhr) (s : State) :
    (lane i (auxTaken i level kim keyIndex counter m s)).counter = counter ∧
    (lane i (auxTaken i level kim keyIndex counter m s)).rx.level = level ∧
    (lane i (auxTaken i level kim keyIndex counter m s)).rx.panInsecure = (lane i s).rx.panInsecure := by
  unfold auxTaken
  rw [lane_modLane_same]
  exact ⟨rfl, rfl, rfl⟩

theorem auxTaken_keepsCalm (i level kim keyIndex counter : Nat) (m : Mhr) (s : State) (h : (lane i s).waits = false) :
    KeepsCalm s (auxTaken i level kim keyIndex counter m s) := modLane_keepsCalm i _ s h

theorem frame_auxTaken (i level kim keyIndex counter : Nat) (m : Mhr) (s : State) :
    Within [.page 0x10, .page 0x11] [.fes, .lanes] s (auxTaken i level kim keyIndex counter m s) := frame_modLane i _ s

/-- The header of a secured data frame whose verdict is open is taken before it is judged. -/
theorem auxHeader_data (i level : Nat) (suppressed : Bool) (kim keyIndex counter : Nat) (s : State) (m : Mhr)
    (state : (lane i s).state = .payload ∨ (lane i s).state = .ending) (known : (lane i s).rx.mhr = some m)
    (data : m.ftype = .data) (secured : m.security = true) (long : m.tooShort = false) (fixed : (lane i s).rx.fixed = none)
    (weak : level < 5 ∧ (lane i s).rx.panInsecure = false ∨ 5 ≤ level ∧ suppressed = true) :
    auxHeader i level suppressed kim keyIndex counter s = fix i .dropAuth (auxTaken i level kim keyIndex counter m s) := by
  obtain ⟨-, -, taken⟩ := lane_auxTaken_heard i level kim keyIndex counter m s
  have judged : ¬ (¬ ((lane i s).state = .payload ∨ (lane i s).state = .ending) ∨ (!m.security) = true ∨
      (lane i s).rx.fixed.isSome = true ∨ m.tooShort = true) := by
    rw [fixed, secured, long]
    simpa using fun h => state.resolve_left h
  unfold auxHeader
  extract_lets l
  rw [show l.rx.mhr = some m from known]
  dsimp only
  rw [if_neg judged, data]
  change (if level < 5 then noSecurity i (auxTaken i level kim keyIndex counter m s) else _) = _
  rcases weak with ⟨low, none⟩ | ⟨high, hidden⟩
  · rw [if_pos low]
    unfold noSecurity
    rw [taken, none]
    rfl
  · rw [if_neg (not_lt.mpr high), if_pos hidden]
    rfl

theorem gives_fixed {c : Instr} {s : State} {i level kim keyIndex counter : Nat} {m : Mhr}
    (run : exec c s = done s (settleWork s (fix i .dropAuth (auxTaken i level kim keyIndex counter m s))))
    (calm : Calm s = true) : Gives c s (fun t =>
      (lane i t).rx.fixed = some .dropAuth ∧ (lane i t).counter = counter ∧ (lane i t).rx.level = level ∧
      Within ([.page 0x11, .page 0x10, .word 0x30 0x09C, .word 0x30 0x098, .word 0x30 0x0A0] ++ airScopes)
        ([.lanes, .fes, .slots, .cache] ++ airParts) s t) := by
  have idle := lane_waits_of_calm calm i
  have waits := lane_auxTaken_waits i level kim keyIndex counter m s
  obtain ⟨count, lev, -⟩ := lane_auxTaken_heard i level kim keyIndex counter m s
  have taken := frame_auxTaken i level kim keyIndex counter m s
  have keeps := auxTaken_keepsCalm i level kim keyIndex counter m s idle
  generalize auxTaken i level kim keyIndex counter m s = v at run waits count lev taken keeps
  have frame := taken.then (frame_fix i .dropAuth v) rfl rfl
  have quiet := frame.calmLanes (by decide) (by decide) (keeps.trans (modRx_keepsCalm i _ v (waits.trans idle))) calm
  refine gives_calm run quiet fun t ht => ?_
  rw [ht.lane (by decide) i]
  unfold fix
  rw [lane_modRx_rx, lane_modRx_counter]
  exact ⟨rfl, count, lev, (frame.mono (List.all_eq_true.mp (by decide)) (by decide)).then ht (by decide) (by decide)⟩

/-! ### The key -/

/-- A key of a slot of its own is ready: the frame is placed on an engine. -/
theorem keyReady_placed (i : Nat) (s : State) (sl e : Nat)
    (state : (lane i s).state = .payload ∨ (lane i s).state = .ending) (key : (lane i s).rx.keySlot = some sl)
    (first : (lane i s).rx.keyReady = false) (fixed : (lane i s).rx.fixed = none) (own : (lane i s).rx.keyNode = none)
    (engine : (takeEngine s).1 = .on e) : keyReady i s = modRx i (fun r => { r with
      keyReady := true, keyGen := (slot sl (takeEngine s).2).gen, engine := some e }) (takeEngine s).2 := by
  have judged : ¬ ((lane i s).rx.keyReady = true ∨ (lane i s).rx.fixed.isSome = true ∨
      ¬ ((lane i s).state = .payload ∨ (lane i s).state = .ending)) := by
    rw [fixed, first]
    simpa using fun h => state.resolve_left h
  unfold keyReady
  extract_lets l r
  rw [show r.keySlot = some sl from key]
  dsimp only
  rw [if_neg judged, show r.keyNode = none from own]
  dsimp only
  rw [if_neg (by decide)]
  generalize takeEngine s = x at engine ⊢
  obtain ⟨where_, v⟩ := x
  rw [show where_ = Context.on e from engine]

theorem gives_placed {c : Instr} {s : State} {i sl e : Nat}
    (run : exec c s = done s (settleWork s (modRx i (fun r => { r with
      keyReady := true, keyGen := (slot sl (takeEngine s).2).gen, engine := some e }) (takeEngine s).2)))
    (calm : Calm s = true) : Gives c s (fun t =>
      (lane i t).rx.keyReady = true ∧ (lane i t).rx.engine = some e ∧ (lane i t).rx.keyGen = (slot sl s).gen ∧
      Within ([.page 0x11, .page 0x10, .word 0x30 0x0A4, .word 0x30 0x098, .page 0x31, .word 0x20 0x0D0, .word 0x20
        0x0D4, .word 0x20 0x0D8, .word 0x20 0x0DC, .page 0x1B, .word 0x19 0x0A4, .word 0x19 0x0A8, .word 0x19 0x0AC, .word
        0x19 0x0B0, .word 0x19 0x0B4, .word 0x19 0x0B8] ++ airScopes) ([.lanes, .fes, .cache, .nodes, .ledger] ++ airParts) s t) := by
  have taken := frame_takeEngine s
  have slots : slot sl (takeEngine s).2 = slot sl s := by
    have same : (takeEngine s).2.slots = s.slots := taken.parts .slots (by decide)
    unfold slot
    rw [same]
  have still : Calm (takeEngine s).2 = true := (taken.calm (by decide) (by decide)).trans calm
  generalize (takeEngine s).2 = v at run taken slots still
  have frame := frame_modRx i (fun r => { r with keyReady := true, keyGen := (slot sl v).gen, engine := some e }) v
  have quiet := frame.calmLanes (by decide) (by decide) (modRx_keepsCalm i _ v (lane_waits_of_calm still i)) still
  refine gives_calm run quiet fun t ht => ?_
  rw [ht.lane (by decide) i, lane_modRx_rx, slots]
  exact ⟨rfl, rfl, rfl, ((taken.mono (List.all_eq_true.mp (by decide)) (by decide)).then frame (by decide) (by decide)).then ht
    (by decide) (by decide)⟩

/-- Proves O22: each clause by the branch of the MHR, the auxiliary security header or the key that its conditions name. -/
theorem frameHeaders : Obligations.FrameHeaders := by
  unfold Obligations.FrameHeaders
  refine ⟨?_, ?_, ?_, ?_, ?_, ?_⟩
  · intro li mhr find s state free first long off calm
    have run : exec (.mhrComplete li mhr find) s = done s (settleWork s (endLane li.val .dropDisabled s)) := by
      rw [← mhrComplete_outside li.val mhr find s state first long off]
      rfl
    exact (gives_endLane run free calm).imp fun t ⟨idle, ledger, _, frame⟩ => ⟨idle, ledger, frame⟩
  · intro li mhr find s state free first long inRun form calm
    have run : exec (.mhrComplete li mhr find) s = done s (settleWork s (endLane li.val .dropAddr s)) := by
      rw [← mhrComplete_unaccepted li.val mhr find s state first long inRun form]
      rfl
    refine (gives_endLane run free calm).imp fun t ⟨idle, ledger, drops, frame⟩ => ⟨idle, ledger, ?_, frame⟩
    rw [drops, endLane_addrDrops li.val s free, laneCode_dropAddr, if_pos rfl]
  · intro li mhr find s p a state first long inRun form data pan src there unblocked secured calm
    have run : exec (.mhrComplete li mhr find) s =
        done s (settleWork s (readRecord li.val p mhr (sought find (p * 65536 + a % 65536) s))) := by
      rw [← mhrComplete_data li.val mhr find s p a state first long inRun form data pan src there unblocked]
      rfl
    exact gives_readRecord run src secured calm
  · intro li level suppressed kim keyIndex counter s m state known data secured long fixed low sec calm
    have run : exec (.auxSecurityHeader li level suppressed kim keyIndex counter) s =
        done s (settleWork s (fix li.val .dropAuth (auxTaken li.val level kim keyIndex counter m s))) := by
      rw [← auxHeader_data li.val level suppressed kim keyIndex counter s m state known data secured long fixed
        (.inl ⟨low, sec⟩)]
      rfl
    exact (gives_fixed run calm).imp fun t ⟨end_, count, _, frame⟩ => ⟨end_, count, frame⟩
  · intro li level suppressed kim keyIndex counter s m state known data secured long fixed high hidden calm
    have run : exec (.auxSecurityHeader li level suppressed kim keyIndex counter) s =
        done s (settleWork s (fix li.val .dropAuth (auxTaken li.val level kim keyIndex counter m s))) := by
      rw [← auxHeader_data li.val level suppressed kim keyIndex counter s m state known data secured long fixed
        (.inr ⟨high, hidden⟩)]
      rfl
    exact (gives_fixed run calm).imp fun t ⟨end_, _, lev, frame⟩ => ⟨end_, lev, frame⟩
  · intro li s sl e state key first fixed own engine calm
    have run : exec (.keyReady li) s = done s (settleWork s (modRx li.val (fun r => { r with
        keyReady := true, keyGen := (slot sl (takeEngine s).2).gen, engine := some e }) (takeEngine s).2)) := by
      rw [← keyReady_placed li.val s sl e state key first fixed own engine]
      rfl
    exact gives_placed run calm

end Sys2Proof.Machine
end

section
/-! PROOF. The belay link: locks, hello, heartbeats, records and attachment (R578 to R586): `Obligations.BelayLink`. -/

namespace Sys2Proof.Machine

/-! ### What the waiting work leaves of the member's state -/

/-- Beyond the records that it sends and the replay states that it has mirrored, the member's state is as before. -/
def OnlySends (a b : Rope) : Prop := b = { a with sent := b.sent, unacked := b.unacked, replays := b.replays }

theorem OnlySends.refl (a : Rope) : OnlySends a a := rfl

theorem OnlySends.trans {a b c : Rope} (h : OnlySends a b) (k : OnlySends b c) : OnlySends a c := by
  unfold OnlySends at h k ⊢
  rw [k, h]

theorem sendRecord_onlySends (r : RopeRec) (s : State) : OnlySends s.rope (sendRecord r s).rope := rfl

theorem OnlySends.foldl {α : Type} {l : List α} {g : State → α → State} {a : Rope} {s : State} (h : OnlySends a s.rope)
    (step : ∀ t x, OnlySends t.rope (g t x).rope) : OnlySends a (l.foldl g s).rope := by
  induction l generalizing s with
  | nil => exact h
  | cons x r ih => exact ih (h.trans (step s x))

theorem mirrorChanges_onlySends (old s : State) : OnlySends s.rope (mirrorChanges old s).rope := by
  unfold mirrorChanges
  split
  · exact .refl _
  · extract_lets pair keys moved began idx nodes reserved
    have sent : OnlySends s.rope reserved.rope := by
      unfold reserved
      split
      · split
        · exact sendRecord_onlySends _ s
        · exact .refl _
      · exact .refl _
    exact .foldl (.foldl (.foldl sent fun t x => sendRecord_onlySends _ t) fun t x => sendRecord_onlySends _ t)
      fun t x => sendRecord_onlySends _ t

theorem settleWork_onlySends (old s : State) : OnlySends s.rope (settleWork old s).rope := by
  have air : (airWork s).rope = s.rope := (frame_airWork s).parts .rope (by decide)
  have stored : (storeWork old (airWork s)).rope = (mirrorChanges old (airWork s)).rope :=
    (((Within.refl [.page 0x20] [] (mirrorChanges old (airWork s))).then (frame_showSlots _) rfl rfl).then
      (frame_refreshScan _) rfl rfl).parts .rope (by decide)
  have shown : (settleWork old s).rope = (storeWork old (airWork s)).rope :=
    ((Within.refl [] [] (storeWork old (airWork s))).follows (follows_showWork old _)).parts .rope (by decide)
  rw [shown, stored, ← air]
  exact mirrorChanges_onlySends old _

/-- A command that the waiting work follows gives what holds of every state that agrees with its own effect up to the frame of
that work and the records sent in it. -/
theorem gives_sends {c : Instr} {s u : State} {P : State → Prop} (run : exec c s = done s (settleWork s u))
    (k : ∀ t, Within airScopes airParts u t → OnlySends u.rope t.rope → P t) : Gives c s P :=
  gives_done run (k _ (frame_settleWork s u).pending (settleWork_onlySends s u))

/-- The registers by which nothing waits for a lane, a front end, an engine or a frame. -/
def quietKeys : List Nat :=
  [F.FWUP.ROLL_ACTIVE.key, (F.FE.RF_STATE_RETUNE_PENDING 0).key, (F.FE.RF_STATE_RETUNE_PENDING 1).key,
    (F.FE.RF_STATE_RETUNE_PENDING 2).key, (F.FE.RF_STATE_RETUNE_PENDING 3).key]

/-- A command that leaves alone what waits leaves it as it was. -/
theorem Within.quiet {P : List Scope} {S : List Part} {s t : State} (h : Within P S s t)
    (hS : ∀ p ∈ [Part.frames, .campaigns, .relief, .poolTest, .fw, .fes, .lanes, .engines], p ∉ S)
    (hP : ∀ k ∈ quietKeys, inScopes P k = false) : Machine.quiet t = Machine.quiet s := by
  have f : t.frames = s.frames := h.parts .frames (hS _ (by simp))
  have c : t.campaigns = s.campaigns := h.parts .campaigns (hS _ (by simp))
  obtain ⟨-, r⟩ := h.parts .relief (hS _ (by simp))
  obtain ⟨d, p⟩ := h.parts .poolTest (hS _ (by simp))
  have w : t.fw = s.fw := h.parts .fw (hS _ (by simp))
  have e : t.fes = s.fes := h.parts .fes (hS _ (by simp))
  have a : t.lanes = s.lanes := h.parts .lanes (hS _ (by simp))
  obtain ⟨-, -, g⟩ := h.parts .engines (hS _ (by simp))
  have k : ∀ g : Field, followKey g.key = false → g.key ∈ quietKeys → rd g t = rd g s := fun g a b => h.regs g a (hP _ b)
  have k1 := k F.FWUP.ROLL_ACTIVE (by decide) (by decide)
  have p0 := k (F.FE.RF_STATE_RETUNE_PENDING 0) (by decide) (by decide)
  have p1 := k (F.FE.RF_STATE_RETUNE_PENDING 1) (by decide) (by decide)
  have p2 := k (F.FE.RF_STATE_RETUNE_PENDING 2) (by decide) (by decide)
  have p3 := k (F.FE.RF_STATE_RETUNE_PENDING 3) (by decide) (by decide)
  have l : List.range 4 = [0, 1, 2, 3] := by decide
  simp only [Machine.quiet, isSet, fe, lanesWaiting, l, List.all_cons, List.all_nil, f, c, r, d, p, w, e, a, g, k1, p0, p1, p2, p3]

theorem calm_iff (s : State) : Calm s = true ↔ quiet s = true ∧ mirrors s = false := by
  unfold Calm
  rw [Bool.and_eq_true, Bool.not_eq_true']

/-- Where nothing waits, and the member mirrors no more than before, a calm state stays calm. -/
theorem Within.calmLink {P : List Scope} {S : List Part} {s t : State} (h : Within P S s t)
    (hS : ∀ p ∈ [Part.frames, .campaigns, .relief, .poolTest, .fw, .fes, .lanes, .engines], p ∉ S)
    (hP : ∀ k ∈ quietKeys, inScopes P k = false) (role : ropeRole t = ropeRole s) (att : attached t = attached s)
    (session : t.rope.session = s.rope.session) (calm : Calm s = true) : Calm t = true := by
  rw [calm_iff] at calm ⊢
  refine ⟨(h.quiet hS hP).trans calm.1, ?_⟩
  rw [← calm.2]
  unfold mirrors
  rw [role, att, session]

/-! ### The lanes of the link -/

theorem Within.laneOk {P : List Scope} {S : List Part} {s t : State} (h : Within P S s t)
    (out : inScopes P F.ROPE.LINK_LANE0_OK.key = false) (out1 : inScopes P F.ROPE.LINK_LANE1_OK.key = false) (n : Nat) :
    Machine.laneOk n t = Machine.laneOk n s := by
  unfold Machine.laneOk isSet
  rw [h.regs _ (by decide) out, h.regs _ (by decide) out1]

theorem laneOk_setLaneOk_same (n : Nat) (b : Bool) (s : State) : laneOk n (setLaneOk n b s) = b := by
  unfold laneOk setLaneOk
  split
  · exact isSet_wrBool_same _ _ _ rfl
  · exact isSet_wrBool_same _ _ _ rfl

theorem laneOk_setLaneOk_other {n m : Nat} (b : Bool) (s : State) (h : n = 0 ↔ m ≠ 0) :
    laneOk m (setLaneOk n b s) = laneOk m s := by
  unfold laneOk setLaneOk isSet
  by_cases m0 : m = 0
  · rw [if_pos m0, if_neg (fun n0 => h.mp n0 m0), if_pos m0, rd_wrBool_apart _ _ rfl]
  · rw [if_neg m0, if_pos (h.mpr m0), if_neg m0, rd_wrBool_apart _ _ rfl]

theorem laneOk_txLane (n v : Nat) (s : State) : laneOk n (wr F.ROPE.LINK_TX_LANE v s) = laneOk n s := by
  unfold laneOk isSet
  rw [rd_wr_apart _ _ rfl, rd_wr_apart _ _ rfl]

theorem txLane_setLaneOk (n : Nat) (b : Bool) (s : State) :
    rd F.ROPE.LINK_TX_LANE (setLaneOk n b s) = rd F.ROPE.LINK_TX_LANE s := by
  unfold setLaneOk
  split
  · exact rd_wrBool_apart _ _ rfl
  · exact rd_wrBool_apart _ _ rfl

theorem attached_setLaneOk (n : Nat) (b : Bool) (s : State) : attached (setLaneOk n b s) = attached s := by
  unfold setLaneOk attached isSet
  split
  · rw [rd_wrBool_apart _ _ rfl]
  · rw [rd_wrBool_apart _ _ rfl]

theorem Within.attached {P : List Scope} {S : List Part} {s t : State} (h : Within P S s t)
    (out : inScopes P F.ROPE.LINK_ATTACHED.key = false) : Machine.attached t = Machine.attached s := by
  unfold Machine.attached isSet
  rw [h.regs _ (by decide) out]

theorem Within.ropeRole {P : List Scope} {S : List Part} {s t : State} (h : Within P S s t)
    (out : inScopes P F.ROPE.ROLE_STATE.key = false) : Machine.ropeRole t = Machine.ropeRole s := h.regs _ (by decide) out

theorem fin2_other (li : Fin 2) : li.val = 0 ↔ 1 - li.val ≠ 0 := by omega

theorem frame_setRemainBelay (v : Nat) (s : State) :
    Within [.word 0x05 0x014] [] s (setRemain F.RESERVE.REMAIN_BELAY 7 v s) := by
  unfold setRemain
  extract_lets old t
  have shown : Within [.word 0x05 0x014] [] s t := (Within.refl _ _ s).wrFollow (by decide)
  exact .ite (shown.then (frame_reserveLow _ _) rfl rfl) shown

/-- A block lock shows its lane and leaves the other, and the first lock carries the link. -/
theorem belayLock_shows {li : Fin 2} {s : State} (up : belayUp s = true) :
    laneOk li.val (belayLock li.val s) = true ∧ laneOk (1 - li.val) (belayLock li.val s) = laneOk (1 - li.val) s ∧
    (laneOk 0 s = true ∨ laneOk 1 s = true ∨ rd F.ROPE.LINK_TX_LANE (belayLock li.val s) = li.val) := by
  unfold belayLock
  rw [if_neg (by rw [up]; decide)]
  extract_lets first a b c
  have own : laneOk li.val a = true := laneOk_setLaneOk_same _ _ _
  have other : laneOk (1 - li.val) a = laneOk (1 - li.val) s := laneOk_setLaneOk_other _ _ (fin2_other li)
  have frame : Within [.word 0x05 0x014] [] a b := .ite (frame_setRemainBelay 1 a) (.refl _ _ a)
  have kept : ∀ n, laneOk n b = laneOk n a := frame.laneOk (by decide) (by decide)
  by_cases one : first = true
  · rw [if_pos one]
    have new := frame_newNonce c
    refine ⟨?_, ?_, .inr (.inr ?_)⟩
    · rw [new.laneOk (by decide) (by decide), laneOk_txLane, kept, own]
    · rw [new.laneOk (by decide) (by decide), laneOk_txLane, kept, other]
    · rw [new.regs _ (by decide) (by decide)]
      exact (rd_wr_same _ _ _).trans (Nat.mod_eq_of_lt li.isLt)
  · rw [if_neg one]
    refine ⟨(kept _).trans own, (kept _).trans other, ?_⟩
    by_contra none
    simp only [not_or, Bool.not_eq_true] at none
    obtain ⟨zero, one', -⟩ := none
    exact one (by simp only [first, zero, one']; decide)

theorem gives_lock {li : Fin 2} {s : State} (up : belayUp s = true) :
    Gives (.belayBlockLock li) s (fun t =>
      laneOk li.val t = true ∧ laneOk (1 - li.val) t = laneOk (1 - li.val) s ∧
      (laneOk 0 s = true ∨ laneOk 1 s = true ∨ rd F.ROPE.LINK_TX_LANE t = li.val) ∧
      Within ([.word 0x4A 0x058, .word 0x05 0x040, .word 0x05 0x014] ++ airScopes) ([.draws, .rope] ++ airParts) s t) := by
  have run : exec (.belayBlockLock li) s = done s (settleWork s (belayLock li.val s)) := rfl
  obtain ⟨own, other, first⟩ := belayLock_shows (li := li) up
  have frame := frame_belayLock li.val s
  refine gives_air run fun t ht => ?_
  have kept := ht.laneOk (by decide) (by decide)
  refine ⟨(kept _).trans own, (kept _).trans other, ?_,
    (frame.mono (List.all_eq_true.mp (by decide)) (by decide)).then ht (by decide) (by decide)⟩
  rw [ht.regs F.ROPE.LINK_TX_LANE (by decide) (by decide)]
  exact first

/-- The lane that does not send fails. -/
theorem belayLaneFail_other {n : Nat} {s : State} (ok : laneOk n s = true) (not : rd F.ROPE.LINK_TX_LANE s ≠ n) :
    belayLaneFail n s = setRemain F.RESERVE.REMAIN_BELAY 7 0 (setLaneOk n false s) := by
  have lane : rd F.ROPE.LINK_TX_LANE (setRemain F.RESERVE.REMAIN_BELAY 7 0 (setLaneOk n false s)) =
      rd F.ROPE.LINK_TX_LANE s :=
    ((frame_setRemainBelay 0 _).regs _ (by decide) (by decide)).trans (txLane_setLaneOk _ _ _)
  unfold belayLaneFail
  rw [if_neg (by rw [ok]; decide)]
  extract_lets a
  exact if_neg fun both => not (lane.symm.trans both.1)

/-- The lane that sends fails and the spare takes over. -/
theorem belayLaneFail_spare {li : Fin 2} {s : State} (ok : laneOk li.val s = true) (sends : rd F.ROPE.LINK_TX_LANE s = li.val)
    (spare : laneOk (1 - li.val) s = true) : ∃ a : State,
      a = setRemain F.RESERVE.REMAIN_BELAY 7 0 (setLaneOk li.val false s) ∧
      belayLaneFail li.val s = incBy F.ROPE.RECORDS_RESENT s.rope.unacked.length
        (engaged 7 li.val (1 - li.val) (latch 0x4A 2 (wr F.ROPE.LINK_TX_LANE (1 - li.val) a))) := by
  have frame := frame_setRemainBelay 0 (setLaneOk li.val false s)
  have lane := (frame.regs F.ROPE.LINK_TX_LANE (by decide) (by decide)).trans (txLane_setLaneOk _ _ _)
  have other := (frame.laneOk (by decide) (by decide) (1 - li.val)).trans (laneOk_setLaneOk_other _ _ (fin2_other li))
  refine ⟨_, rfl, ?_⟩
  have rope : (engaged 7 li.val (1 - li.val) (latch 0x4A 2 (wr F.ROPE.LINK_TX_LANE (1 - li.val)
      (setRemain F.RESERVE.REMAIN_BELAY 7 0 (setLaneOk li.val false s))))).rope = s.rope :=
    (((((((Within.refl [.word 0x05 0x014, .word 0x4A 0x058, .word 0x4A 0x014] [] s).then (frame_setLaneOk _ _ _) rfl rfl).then
      frame rfl rfl)).wr (by decide)).latch (by decide)).then (frame_engaged _ _ _ _) rfl rfl).parts .rope (by decide)
  unfold belayLaneFail
  rw [if_neg (by rw [ok]; decide)]
  extract_lets a b
  rw [if_pos ⟨lane.trans sends, other.trans spare⟩]
  exact congrArg (fun r : Rope => incBy F.ROPE.RECORDS_RESENT r.unacked.length b) rope

/-- What the failure of a lane may write. -/
def laneFailScopes : List Scope :=
  [.word 0x4A 0x058, .word 0x4A 0x014, .word 0x4A 0x07C, .word 0x05 0x040, .word 0x05 0x014, .word 0x05 0x06C]

theorem gives_spare {li : Fin 2} {s : State} (ok : laneOk li.val s = true) (sends : rd F.ROPE.LINK_TX_LANE s = li.val)
    (spare : laneOk (1 - li.val) s = true) (calm : Calm s = true) : Gives (.belayLaneFail li) s (fun t =>
      laneOk li.val t = false ∧ rd F.ROPE.LINK_TX_LANE t = 1 - li.val ∧ eventLatched 0x4A 2 t ∧
      rd F.ROPE.RECORDS_RESENT t = (rd F.ROPE.RECORDS_RESENT s + s.rope.unacked.length) % 2 ^ 32 ∧
      Within laneFailScopes [] s t) := by
  have run : exec (.belayLaneFail li) s = done s (settleWork s (belayLaneFail li.val s)) := rfl
  have frame := frame_belayLaneFail li.val s
  obtain ⟨a, eq, out⟩ := belayLaneFail_spare ok sends spare
  have toA : Within [.word 0x05 0x014, .word 0x4A 0x058] [] s a := by
    rw [eq]
    exact ((Within.refl _ [] s).then (frame_setLaneOk _ _ _) rfl rfl).then (frame_setRemainBelay 0 _) rfl rfl
  have failed : laneOk li.val a = false := by
    rw [eq, (frame_setRemainBelay 0 _).laneOk (by decide) (by decide)]
    exact laneOk_setLaneOk_same _ _ _
  have att : attached a = attached s := by
    rw [eq, (frame_setRemainBelay 0 _).attached (by decide), attached_setLaneOk]
  rw [out] at run frame
  clear out eq
  have toLatch : Within [.word 0x4A 0x014] [] (wr F.ROPE.LINK_TX_LANE (1 - li.val) a)
      (latch 0x4A 2 (wr F.ROPE.LINK_TX_LANE (1 - li.val) a)) := (Within.refl _ _ _).latch (by decide)
  have toEngaged : Within [.word 0x05 0x014] [] (latch 0x4A 2 (wr F.ROPE.LINK_TX_LANE (1 - li.val) a))
      (engaged 7 li.val (1 - li.val) (latch 0x4A 2 (wr F.ROPE.LINK_TX_LANE (1 - li.val) a))) := frame_engaged _ _ _ _
  have latched := latch_sets 0x4A 2 (wr F.ROPE.LINK_TX_LANE (1 - li.val) a) (by decide)
  generalize latch 0x4A 2 (wr F.ROPE.LINK_TX_LANE (1 - li.val) a) = l at run frame toLatch toEngaged latched
  generalize engaged 7 li.val (1 - li.val) l = e at run frame toEngaged
  have toEnd : Within [.word 0x4A 0x07C] [] e (incBy F.ROPE.RECORDS_RESENT s.rope.unacked.length e) :=
    (Within.refl _ _ e).incBy (by decide)
  have same : attached (incBy F.ROPE.RECORDS_RESENT s.rope.unacked.length e) = attached s := by
    rw [toEnd.attached (by decide), toEngaged.attached (by decide), toLatch.attached (by decide), attached, isSet,
      rd_wr_apart _ _ rfl]
    exact att
  have quiet := frame.calmLink (by decide) (by decide) (frame.ropeRole (by decide)) same
    (congrArg Rope.session (frame.parts .rope List.not_mem_nil)) calm
  refine gives_calm run quiet fun t ht => ⟨?_, ?_, ?_, ?_, ?_⟩
  · rw [ht.laneOk (by decide) (by decide), toEnd.laneOk (by decide) (by decide), toEngaged.laneOk (by decide) (by decide),
      toLatch.laneOk (by decide) (by decide), laneOk_txLane, failed]
  · rw [ht.regs _ (by decide) rfl, toEnd.regs _ (by decide) (by decide), toEngaged.regs _ (by decide) (by decide),
      toLatch.regs _ (by decide) (by decide), rd_wr_same]
    exact Nat.mod_eq_of_lt (Nat.lt_succ_of_le (Nat.sub_le 1 _))
  · rw [ht.latched rfl (by decide), toEnd.latched (by decide) (by decide), toEngaged.latched (by decide) (by decide)]
    exact latched
  · rw [ht.regs _ (by decide) rfl, incBy, rd_wr_same, toEngaged.regs _ (by decide) (by decide),
      toLatch.regs _ (by decide) (by decide), rd_wr_apart _ _ rfl, toA.regs _ (by decide) (by decide)]
    rfl
  · exact (frame.mono (List.all_eq_true.mp (by decide)) rfl).then ht rfl rfl

theorem gives_laneFail {li : Fin 2} {s : State} (ok : laneOk li.val s = true) (other : rd F.ROPE.LINK_TX_LANE s ≠ li.val)
    (calm : Calm s = true) : Gives (.belayLaneFail li) s (fun t =>
      laneOk li.val t = false ∧ rd F.ROPE.LINK_TX_LANE t = rd F.ROPE.LINK_TX_LANE s ∧
      rd F.ROPE.RECORDS_RESENT t = rd F.ROPE.RECORDS_RESENT s ∧ Within laneFailScopes [] s t) := by
  have run : exec (.belayLaneFail li) s = done s (settleWork s (belayLaneFail li.val s)) := rfl
  have frame := frame_belayLaneFail li.val s
  rw [belayLaneFail_other ok other] at run frame
  have remain := frame_setRemainBelay 0 (setLaneOk li.val false s)
  have quiet := frame.calmLink (by decide) (by decide) (frame.ropeRole (by decide))
    ((remain.attached (by decide)).trans (attached_setLaneOk _ _ _))
    (congrArg Rope.session (frame.parts .rope List.not_mem_nil)) calm
  refine gives_calm run quiet fun t ht => ⟨?_, ?_, ?_, ?_⟩
  · rw [ht.laneOk (by decide) (by decide), remain.laneOk (by decide) (by decide), laneOk_setLaneOk_same]
  · rw [ht.regs _ (by decide) rfl, remain.regs _ (by decide) (by decide), txLane_setLaneOk]
  · rw [ht.regs _ (by decide) rfl, remain.regs _ (by decide) (by decide),
      (frame_setLaneOk li.val false s).regs _ (by decide) (by decide)]
  · exact (frame.mono (List.all_eq_true.mp (by decide)) rfl).then ht rfl rfl

/-! ### The hello -/

theorem dieId_of_within {P : List Scope} {S : List Part} {s t : State} (h : Within P S s t)
    (low : inScopes P (F.IDENT.DIE_ID 0).key = false) (high : inScopes P (F.IDENT.DIE_ID 1).key = false) :
    dieId t = dieId s := by
  unfold dieId
  rw [h.regs _ (by decide) low, h.regs _ (by decide) high]

/-- The session key of a hello (R581). -/
def helloKey (die nonce z : Nat) (s : State) : List Byte :=
  kdf (bytesLe 32 z) "ZK BELAY" (if ownDie s < die then bytesLe 8 (ownDie s) ++ bytesLe 8 die ++ bytesLe 16 s.rope.nonce ++
    bytesLe 16 nonce else bytesLe 8 die ++ bytesLe 8 (ownDie s) ++ bytesLe 16 nonce ++ bytesLe 16 s.rope.nonce) 256

/-- The state in which a hello with the partner's key is counted. -/
def helloCounted (s : State) : State := countPke 1 0 (wr F.ROPE.LINK_PIN_BAD 0 s)

theorem frame_helloCounted (s : State) : Within [.word 0x4A 0x058, .word 0x33 0x060, .word 0x33 0x064] [] s (helloCounted s) :=
  ((Within.refl _ _ s).wr (by decide)).then (frame_countPke _ _ _) rfl rfl

theorem pinBad_helloCounted (s : State) : rd F.ROPE.LINK_PIN_BAD (helloCounted s) = 0 :=
  ((frame_countPke _ _ _).regs _ (by decide) (by decide)).trans (rd_wr_same _ _ _)

theorem belayHello_bad {die : Nat} {pub : List Byte} {nonce role : Nat} {prefer : Bool} {s : State} (up : belayUp s = true)
    (bad : pinOf pub ≠ partnerPin s) : belayHello die pub nonce role prefer s = wr F.ROPE.LINK_PIN_BAD 1 s := by
  unfold belayHello
  rw [if_neg (by rw [up]; decide), if_pos bad]

theorem belayHello_rootless {die : Nat} {pub : List Byte} {nonce role : Nat} {prefer : Bool} {s : State}
    (up : belayUp s = true) (good : pinOf pub = partnerPin s) (root : s.root.root = none) :
    belayHello die pub nonce role prefer s = wr F.ROPE.LINK_PIN_BAD 0 s := by
  have same : (wr F.ROPE.LINK_PIN_BAD 0 s).root.root = none := root
  unfold belayHello
  rw [if_neg (by rw [up]; decide), if_neg (not_not_intro good)]
  extract_lets v
  rw [show v.root.root = none from same]

theorem belayHello_keyless {die : Nat} {pub : List Byte} {nonce role : Nat} {prefer : Bool} {s : State} {r : Nat}
    (up : belayUp s = true) (good : pinOf pub = partnerPin s) (root : s.root.root = some r)
    (key : pairEcdh (pairScalar r s) pub = none) :
    belayHello die pub nonce role prefer s = countPke 0 1 (helloCounted s) := by
  have same : (wr F.ROPE.LINK_PIN_BAD 0 s).root.root = some r := root
  have scalar : pairScalar r (helloCounted s) = pairScalar r s := by
    unfold pairScalar
    rw [dieId_of_within (frame_helloCounted s) (by decide) (by decide)]
  unfold belayHello
  rw [if_neg (by rw [up]; decide), if_neg (not_not_intro good)]
  extract_lets v
  rw [show v.root.root = some r from same]
  change (match pairEcdh (pairScalar r (helloCounted s)) pub with | none => _ | some z => _) = _
  rw [scalar, key]
  rfl

/-- A hello of the partner gives the session key; what its slot's change ends is the rest of its effect. -/
theorem belayHello_keyed {die : Nat} {pub : List Byte} {nonce role : Nat} {prefer : Bool} {s : State} {r z : Nat}
    (up : belayUp s = true) (good : pinOf pub = partnerPin s) (root : s.root.root = some r)
    (key : pairEcdh (pairScalar r s) pub = some z) :
    (belayHello die pub nonce role prefer s).rope.session = some (helloKey die nonce z s) ∧
    rd F.ROPE.LINK_PIN_BAD (belayHello die pub nonce role prefer s) = 0 := by
  have same : (wr F.ROPE.LINK_PIN_BAD 0 s).root.root = some r := root
  have die_ := dieId_of_within (frame_helloCounted s) (by decide) (by decide)
  have scalar : pairScalar r (helloCounted s) = pairScalar r s := by
    unfold pairScalar
    rw [die_]
  have rope : (helloCounted s).rope = s.rope := (frame_helloCounted s).parts .rope (by decide)
  have keys : helloKey die nonce z (helloCounted s) = helloKey die nonce z s := by
    unfold helloKey ownDie
    rw [die_, rope]
  have bad := pinBad_helloCounted s
  unfold belayHello
  rw [if_neg (by rw [up]; decide), if_neg (not_not_intro good)]
  extract_lets v c own lo ctx x
  rw [show v.root.root = some r from same]
  change helloKey die nonce z c = _ at keys
  dsimp -zeta only
  rw [show pairEcdh (pairScalar r c) pub = some z by rw [show pairScalar r c = _ from scalar, key]]
  dsimp -zeta only
  extract_lets k next
  refine ⟨?_, ((frame_changeSlot x next c).regs F.ROPE.LINK_PIN_BAD (by decide) (by decide)).trans bad⟩
  rw [← keys]
  by_cases low : own < die
  · simp [modRope, k, ctx, lo, helloKey, low, own]
  · simp [modRope, k, ctx, lo, helloKey, low, own]

end Sys2Proof.Machine
end

section
/-! PROOF. Hello, heartbeats, records and attachment of two members (R579 to R586): `Obligations.BelayLink`. -/

namespace Sys2Proof.Machine

/-! ### The hello -/

/-- The session key that a hello leaves. -/
def helloSession (die : Nat) (pub : List Byte) (nonce : Nat) (s : State) : Option (List Byte) :=
  match s.root.root with
  | none => s.rope.session
  | some r =>
    if pinOf pub = partnerPin s then
      match pairEcdh (pairScalar r s) pub with
      | none => s.rope.session
      | some z => some (helloKey die nonce z s)
    else s.rope.session

theorem belayHello_shows {die : Nat} {pub : List Byte} {nonce role : Nat} {prefer : Bool} {s : State} (up : belayUp s = true) :
    rd F.ROPE.LINK_PIN_BAD (belayHello die pub nonce role prefer s) = (if pinOf pub = partnerPin s then 0 else 1) ∧
    (belayHello die pub nonce role prefer s).rope.session = helloSession die pub nonce s := by
  unfold helloSession
  by_cases good : pinOf pub = partnerPin s
  · rw [if_pos good]
    cases root : s.root.root with
    | none =>
      rw [belayHello_rootless up good root]
      exact ⟨rd_wr_same _ _ _, rfl⟩
    | some r =>
      dsimp only
      rw [if_pos good]
      cases key : pairEcdh (pairScalar r s) pub with
      | none =>
        rw [belayHello_keyless up good root key]
        have counted := frame_countPke 0 1 (helloCounted s)
        refine ⟨(counted.regs _ (by decide) (by decide)).trans (pinBad_helloCounted s), ?_⟩
        exact congrArg Rope.session (Eq.trans (counted.parts .rope List.not_mem_nil)
          ((frame_helloCounted s).parts .rope List.not_mem_nil))
      | some z =>
        obtain ⟨session, bad⟩ := belayHello_keyed (nonce := nonce) (role := role) (prefer := prefer) up good root key
        exact ⟨bad, session⟩
  · rw [if_neg good, belayHello_bad up good]
    refine ⟨rd_wr_same _ _ _, ?_⟩
    split
    · rfl
    · rw [if_neg good]
      rfl

theorem OnlySends.session {a b : Rope} (h : OnlySends a b) : b.session = a.session := by
  unfold OnlySends at h
  rw [h]

theorem OnlySends.got {a b : Rope} (h : OnlySends a b) : b.got = a.got := by
  unfold OnlySends at h
  rw [h]

theorem OnlySends.starts {a b : Rope} (h : OnlySends a b) : b.starts = a.starts := by
  unfold OnlySends at h
  rw [h]

theorem OnlySends.attaching {a b : Rope} (h : OnlySends a b) : b.attaching = a.attaching := by
  unfold OnlySends at h
  rw [h]

theorem OnlySends.nonce {a b : Rope} (h : OnlySends a b) : b.nonce = a.nonce := by
  unfold OnlySends at h
  rw [h]

theorem OnlySends.lostAt {a b : Rope} (h : OnlySends a b) : b.lostAt = a.lostAt := by
  unfold OnlySends at h
  rw [h]

/-! ### Heartbeats -/

theorem not_unlinked {s : State} (up : belayUp s = true) (session : s.rope.session.isSome = true) :
    ¬ (!belayUp s || s.rope.session.isNone) = true := by
  rw [up, Option.eq_some_of_isSome session]
  exact Bool.false_ne_true

/-- A signed field reads as written where it fits. -/
theorem rdInt_wrInt_same {f : Field} (w : f.width = 32) {v : Int} (lo : -2147483648 ≤ v) (hi : v ≤ 2147483647) (s : State) :
    rdInt f (wrInt f v s) = v := by
  rw [rdInt, wrInt, rd_wr_same, w]
  unfold toInt ofInt
  split
  · omega
  · omega

/-- In a calm state the health of the partner outlives the work after a command. -/
theorem notHealth_settleWork (old : State) {s : State} (calm : Calm s = true) :
    Shows (notKey F.ROPE.HEALTH_PARTNER.key) s (settleWork old s) := by
  have hk : F.ROPE.HEALTH_PARTNER.key ∈ asideKeys := by decide
  have trust : ∀ t, Shows (notKey F.ROPE.HEALTH_PARTNER.key) t (showTrust t) := by
    intro t
    unfold showTrust
    split
    · exact (Shows.refl _ t).thenWr (by decide)
    · exact Shows.refl _ t
  rw [settleWork, showWork]
  exact ((((notKey_showTrial hk old calm).trans (trust _)).thenWr (by decide)).trans (notKey_showBusy hk _)).trans
    (notKey_showRemain hk old _)

/-- The state in which the partner's health and time are shown. -/
def partnerShown (health : Nat) (partnerNs : Int) (s : State) : State :=
  wr F.ROPE.HEALTH_PARTNER health
    (wrInt F.ROPE.PARTNER_TIME_NS (clamp (-2147483648) 2147483647 (partnerNs - deviceNs s)) s)

/-- The state in which a heartbeat has been taken. -/
def heartbeatTaken (role health ack seq : Nat) (partnerNs : Int) (s : State) : State :=
  modRope (fun r => { r with
    pRole := role, unacked := r.unacked.filter (fun x => ack < x.1), got := if seq = r.got + 1 then seq else r.got })
    (partnerShown health partnerNs s)

theorem frame_heartbeatTaken (role health ack seq : Nat) (partnerNs : Int) (s : State) :
    Within [.word 0x4A 0x068] [.rope] s (heartbeatTaken role health ack seq partnerNs s) :=
  (((Within.refl _ _ s).wr (by decide)).wrFollow (by decide)).set_rope (by decide)

theorem heartbeatRx_taken {role health ack seq : Nat} {partnerNs : Int} {s : State} (up : belayUp s = true)
    (session : s.rope.session.isSome = true) (att : attached s = true) (passive : ropeRole s ≠ ACTIVE) :
    heartbeatRx role health ack seq partnerNs s = heartbeatTaken role health ack seq partnerNs s := by
  have frame := frame_heartbeatTaken role health ack seq partnerNs s
  have att' := (frame.attached (by decide)).trans att
  have role' := frame.ropeRole (by decide)
  unfold heartbeatRx
  rw [if_neg (not_unlinked up session)]
  extract_lets v was t
  rw [if_neg (by rw [show attached t = true from att']; decide), if_neg fun h => passive (role'.symm.trans h.1)]
  rfl

theorem gives_heartbeat {role health ack seq : Nat} {partnerNs : Int} {s : State} (up : belayUp s = true)
    (session : s.rope.session.isSome = true) (att : attached s = true) (calm : Calm s = true) :
    Gives (.belayHeartbeatRx role health ack seq partnerNs) s (fun t =>
      rd F.ROPE.HEALTH_PARTNER t = health % 2 ^ 10 ∧
      rdInt F.ROPE.PARTNER_TIME_NS t = clamp (-2147483648) 2147483647 (partnerNs - deviceNs s) ∧
      t.rope = { s.rope with pRole := role, unacked := s.rope.unacked.filter (fun x => ack < x.1), got := (if seq = s.rope.got + 1 then seq else s.rope.got) } ∧
      ropeRole t = ropeRole s ∧
      Within ([.word 0x4A 0x054, .word 0x4A 0x068, .word 0x4A 0x058, .word 0x4A 0x050, .word 0x4A 0x014] ++ airScopes)
        ([.rope] ++ airParts) s t) := by
  have passive : ropeRole s ≠ ACTIVE := by
    intro active
    obtain ⟨-, alone⟩ := (calm_iff s).mp calm
    unfold mirrors at alone
    rw [active, att, session] at alone
    exact absurd alone (by decide)
  have run : exec (.belayHeartbeatRx role health ack seq partnerNs) s =
      done s (settleWork s (heartbeatTaken role health ack seq partnerNs s)) := by
    rw [← heartbeatRx_taken up session att passive]
    rfl
  have frame := frame_heartbeatTaken role health ack seq partnerNs s
  have quiet := frame.calmLink (by decide) (by decide) (frame.ropeRole (by decide)) (frame.attached (by decide)) rfl calm
  have ht := ((Within.refl [] [] (heartbeatTaken role health ack seq partnerNs s)).settleWork (old := s) quiet).pending
    (q := s.pending)
  refine gives_done run ⟨?_, ?_, ?_, ?_, ?_⟩
  · rw [rd_pending, (notHealth_settleWork s quiet).regs _ (by decide)]
    exact rd_wr_same _ _ _
  · rw [rdInt, ht.regs _ (by decide) rfl, show rd F.ROPE.PARTNER_TIME_NS (heartbeatTaken role health ack seq partnerNs s) =
      rd F.ROPE.PARTNER_TIME_NS (wrInt F.ROPE.PARTNER_TIME_NS _ s) from rd_wr_apart _ _ rfl]
    exact rdInt_wrInt_same rfl (le_max_left _ _) (max_le (by decide) (min_le_left _ _)) s
  · exact Eq.trans (ht.parts .rope List.not_mem_nil) rfl
  · rw [ht.ropeRole rfl]
    exact frame.ropeRole (by decide)
  · exact (frame.mono (List.all_eq_true.mp (by decide)) (by decide)).then ht rfl rfl

/-! ### Roles -/

theorem ropeRole_setRole {r : Nat} (fits : r < 8) (s : State) : ropeRole (setRole r s) = r := by
  have wrote : ropeRole (wr F.ROPE.ROLE_STATE r (wrBool F.ROPE.ROLE_ACT_OUT (r == ACTIVE) s)) = r :=
    (rd_wr_same _ _ _).trans (Nat.mod_eq_of_lt fits)
  unfold setRole
  extract_lets turn t
  split
  · exact (((Within.refl [.word 0x4A 0x014] [] t).latch (by decide)).ropeRole (by decide)).trans wrote
  · exact wrote

theorem actOut_setRole (r : Nat) (s : State) : rd F.ROPE.ROLE_ACT_OUT (setRole r s) = if r == ACTIVE then 1 else 0 := by
  have wrote : rd F.ROPE.ROLE_ACT_OUT (wr F.ROPE.ROLE_STATE r (wrBool F.ROPE.ROLE_ACT_OUT (r == ACTIVE) s)) =
      if r == ACTIVE then 1 else 0 := (rd_wr_apart _ _ rfl).trans (rd_wrBool_same rfl _ _)
  unfold setRole
  extract_lets turn t
  split
  · exact (((Within.refl [.word 0x4A 0x014] [] t).latch (by decide)).regs _ (by decide) (by decide)).trans wrote
  · exact wrote

theorem setRole_rope (r : Nat) (s : State) : (setRole r s).rope = s.rope := (frame_setRole r s).parts .rope List.not_mem_nil

/-- A waiting member that hears an active partner for the first time synchronises to it. -/
theorem heartbeatRx_attaches {health ack seq : Nat} {partnerNs : Int} {s : State} (up : belayUp s = true)
    (session : s.rope.session.isSome = true) (apart : attached s = false) (waits : ropeRole s = WAITING) :
    attached (heartbeatRx ACTIVE health ack seq partnerNs s) = true ∧
    ropeRole (heartbeatRx ACTIVE health ack seq partnerNs s) = SYNCING := by
  have frame := frame_heartbeatTaken ACTIVE health ack seq partnerNs s
  have apart' := (frame.attached (by decide)).trans apart
  have waits' := (frame.ropeRole (by decide)).trans waits
  have own : heartbeatRx ACTIVE health ack seq partnerNs s = attach (heartbeatTaken ACTIVE health ack seq partnerNs s) := by
    unfold heartbeatRx
    rw [if_neg (not_unlinked up session)]
    extract_lets v was t
    exact if_pos (by rw [show attached t = false from apart']; decide)
  have role : (heartbeatTaken ACTIVE health ack seq partnerNs s).rope.pRole = ACTIVE := rfl
  rw [own]
  generalize heartbeatTaken ACTIVE health ack seq partnerNs s = v at apart' waits' role
  have syncs : attach v = setRole SYNCING (wr F.ROPE.LINK_ATTACHED 1
      (modRope (fun r => { r with lostAt := none, mayExtend := true, wasStandby := false }) v)) := by
    unfold attach
    extract_lets t u
    have still : ropeRole t = WAITING := (rd_wr_apart (f := F.ROPE.ROLE_STATE) (g := F.ROPE.LINK_ATTACHED) 1 _ rfl).trans waits'
    rw [if_neg (by rw [still]; decide), if_neg (by rw [still]; decide), if_pos (show t.rope.pRole = ACTIVE from role)]
  rw [syncs]
  refine ⟨?_, ropeRole_setRole (by decide) _⟩
  rw [(frame_setRole _ _).attached (by decide), attached, isSet, rd_wr_same]
  rfl

/-! ### Records -/

theorem recordRx_bad {seq : Nat} {inOrder : Bool} {r : RopeRec} {euis : List Nat} {s : State} (up : belayUp s = true)
    (session : s.rope.session.isSome = true) : recordRx seq inOrder false r euis s = inc F.ROPE.RECORDS_BAD s := by
  unfold recordRx
  rw [if_neg (not_unlinked up session), if_pos (by decide)]

theorem recordRx_stale {seq : Nat} {inOrder : Bool} {r : RopeRec} {euis : List Nat} {s : State} (up : belayUp s = true)
    (session : s.rope.session.isSome = true) (stale : seq ≤ s.rope.got ∨ inOrder = false) :
    recordRx seq inOrder true r euis s = s := by
  unfold recordRx
  rw [if_neg (not_unlinked up session), if_neg (by decide), if_pos (by simpa using stale)]

theorem recordRx_next {seq : Nat} {r : RopeRec} {euis : List Nat} {s : State} (up : belayUp s = true)
    (session : s.rope.session.isSome = true) (new : s.rope.got < seq) :
    recordRx seq true true r euis s = applyRecord r euis (modRope (fun x => { x with got := seq }) s) := by
  unfold recordRx
  rw [if_neg (not_unlinked up session), if_neg (by decide),
    if_neg (by simpa using new)]

/-! ### Ceilings of the journal -/

/-- The ceiling of a key among the journal's entries. -/
def ceilingIn (f : Nat) (l : List (Nat × Nat)) : Option Nat := (l.find? (fun x => x.1 == f)).map (·.2)

theorem ceilingIn_map (f c g : Nat) (l : List (Nat × Nat)) :
    ceilingIn g (l.map (fun x => if x.1 = f then (f, c) else x)) =
      if g = f then (ceilingIn f l).map (fun _ => c) else ceilingIn g l := by
  induction l with
  | nil => unfold ceilingIn; split <;> rfl
  | cons x r ih =>
    by_cases same : x.1 = f
    · by_cases gf : g = f
      · simp [ceilingIn, same, gf]
      · have apart : (f == g) = false := beq_false_of_ne (Ne.symm gf)
        rw [if_neg gf] at ih ⊢
        simpa only [ceilingIn, List.map_cons, List.find?_cons, same, if_true, apart] using ih
    · have other : (x.1 == f) = false := beq_false_of_ne same
      by_cases gf : g = f
      · rw [if_pos gf] at ih ⊢
        rw [gf] at ih ⊢
        simpa only [ceilingIn, List.map_cons, List.find?_cons, same, if_false, other] using ih
      · rw [if_neg gf] at ih ⊢
        simp only [ceilingIn, List.map_cons, List.find?_cons, same, if_false] at ih ⊢
        cases x.1 == g with
        | true => rfl
        | false => exact ih

/-- What a write of the journal leaves of its ceilings. -/
theorem journalCeiling_journalWrite (f c g : Nat) (s : State) :
    journalCeiling g (journalWrite f c s) = if g = f then some c else journalCeiling g s := by
  have stored : (journalWrite f c s).journal = if (ceilingIn f s.journal).isSome then
      s.journal.map (fun x => if x.1 = f then (f, c) else x) else s.journal ++ [(f, c)] := rfl
  change ceilingIn g (journalWrite f c s).journal = if g = f then some c else ceilingIn g s.journal
  rw [stored]
  cases found : ceilingIn f s.journal with
  | some v =>
    rw [if_pos (by rfl), ceilingIn_map, found]
    rfl
  | none =>
    rw [if_neg (by decide)]
    unfold ceilingIn at found ⊢
    rw [Option.map_eq_none_iff] at found
    rw [List.find?_append]
    by_cases gf : g = f
    · rw [gf, found, if_pos rfl]
      simp
    · rw [if_neg gf]
      cases s.journal.find? (fun x => x.1 == g) with
      | some y => rfl
      | none => simp [Ne.symm gf]

theorem journalCeiling_of_within {P : List Scope} {S : List Part} {s t : State} (h : Within P S s t) (j : Part.journal ∉ S)
    (g : Nat) : journalCeiling g t = journalCeiling g s := by
  have same : t.journal = s.journal := h.parts .journal j
  unfold journalCeiling
  rw [same]

/-- Every key in a run of raised ceilings ends at or above its bound. -/
theorem raised_foldl {up : Nat → Nat → Nat} {g v : Nat} (own : ∀ c, up g c = v) (l : List Nat) (s : State)
    (h : g ∈ l ∨ min v 0xFFFFFFFF ≤ (journalCeiling g s).getD 0) :
    min v 0xFFFFFFFF ≤ (journalCeiling g (l.foldl (fun s f =>
      journalWrite f (min 0xFFFFFFFF (max ((journalCeiling f s).getD 0) (up f ((journalCeiling f s).getD 0)))) s) s)).getD 0 := by
  induction l generalizing s with
  | nil => exact h.resolve_left List.not_mem_nil
  | cons f r ih =>
    refine ih _ ?_
    rw [journalCeiling_journalWrite]
    by_cases same : g = f
    · refine .inr ?_
      rw [if_pos same, ← same, own, Option.getD_some]
      omega
    · rw [if_neg same]
      exact h.imp_left fun mem => (List.mem_cons.mp mem).resolve_left same

theorem find_of_mem {α : Type} {t : Tbl α} {x : Nat × α} (h : x ∈ t) : ∃ v, find t x.1 = some v := by
  induction t with
  | nil => exact absurd h List.not_mem_nil
  | cons y r ih =>
    unfold Machine.find
    split
    case isTrue => exact ⟨_, rfl⟩
    case isFalse other =>
      refine ih ((List.mem_cons.mp h).resolve_left fun same => other ?_)
      rw [same]

/-- The future active raises every ceiling to what its partner has reserved (R586). -/
theorem raiseCeilings_theirs {s : State} {x : Nat × Nat} (mem : x ∈ s.rope.theirs) :
    min (look s.rope.theirs x.1 0) 0xFFFFFFFF ≤
      (journalCeiling x.1 (raiseCeilings (fun f c => look s.rope.theirs f c) s)).getD 0 := by
  obtain ⟨v, found⟩ : ∃ v, find s.rope.theirs x.1 = some v := find_of_mem mem
  have own : ∀ c, look s.rope.theirs x.1 c = v := fun c => by rw [look, found]; rfl
  have listed : x.1 ∈ (s.journal.map (·.1) ++ s.rope.theirs.map (·.1) ++ s.rope.starts.map (·.1)).eraseDups :=
    List.mem_eraseDups.mpr (List.mem_append_left _ (List.mem_append_right _ (List.mem_map_of_mem mem)))
  rw [own]
  exact raised_foldl (up := fun f c => look s.rope.theirs f c) own _ s (.inl listed)

/-! ### Resynchronisation -/

theorem replayMirror_onlySends (s : State) : OnlySends s.rope (replayMirror s).rope := by
  unfold replayMirror
  split
  · exact .refl _
  · extract_lets ch t
    split
    · exact .refl _
    · exact rfl

theorem resync_onlySends (s : State) : OnlySends s.rope (resync s).rope := by
  unfold resync
  extract_lets slots sent nodes
  have slotsSent : OnlySends s.rope sent.rope := by
    refine .foldl (.refl _) fun t i => ?_
    extract_lets k u
    have reserved : OnlySends t.rope u.rope := by
      unfold u
      split
      · exact sendRecord_onlySends _ t
      · exact .refl _
    exact reserved.trans (sendRecord_onlySends _ u)
  have nodesSent : OnlySends s.rope nodes.rope := .foldl slotsSent fun t x => sendRecord_onlySends _ t
  have cleared : OnlySends nodes.rope (modRope (fun r => { r with replays := [] }) nodes).rope := rfl
  exact ((nodesSent.trans cleared).trans (replayMirror_onlySends _)).trans (sendRecord_onlySends _ _)

/-! ### A reservation of the partner -/

/-- The state in which a reservation of the partner has been taken as the start of a takeover. -/
def startTaken (seq fp v : Nat) (s : State) : State :=
  modRope (fun r => { r with got := seq, theirs := insert r.theirs fp v, starts := insert r.starts fp v }) s

theorem recordRx_reserve {seq fp v : Nat} {euis : List Nat} {s : State} (up : belayUp s = true)
    (session : s.rope.session.isSome = true) (new : s.rope.got < seq) (role : ropeRole s = SYNCING ∨ ropeRole s = STANDBY) :
    recordRx seq true true (.reserve fp v) euis s = journalWrite fp (nextCeiling v) (startTaken seq fp v s) := by
  have role' : ropeRole (modRope (fun r => { r with theirs := insert r.theirs fp v })
      (modRope (fun x => { x with got := seq }) s)) = SYNCING ∨ ropeRole (modRope (fun r => { r with theirs := insert r.theirs fp v })
      (modRope (fun x => { x with got := seq }) s)) = STANDBY := role
  rw [recordRx_next up session new]
  unfold applyRecord applyReserve
  exact if_pos role'

theorem gives_reserved {seq fp v : Nat} {euis : List Nat} {s : State} (up : belayUp s = true)
    (session : s.rope.session.isSome = true) (new : s.rope.got < seq) (role : ropeRole s = SYNCING ∨ ropeRole s = STANDBY) :
    Gives (.belayRecordRx seq true true (.reserve fp v) euis) s (fun t =>
      t.rope.got = seq ∧ look t.rope.starts fp 0 = v ∧ journalCeiling fp t = some (nextCeiling v) ∧ ropeRole t = ropeRole s ∧
      Within (([.word 0x4A 0x078, .word 0x4A 0x080, .word 0x4A 0x050, .word 0x4A 0x014, .word 0x30 0x0B0, .word 0x30
        0x014, .word 0x30 0x0A8, .word 0x30 0x098, .page 0x31, .page 0x24, .page 0x25, .page 0x26, .page 0x27, .page
        0x10, .word 0x08 0x05C, .word 0x08 0x04C, .word 0x09 0x05C, .word 0x09 0x04C, .word 0x0A 0x05C, .word 0x0A
        0x04C, .word 0x0B 0x05C, .word 0x0B 0x04C, .word 0x19 0x0B4, .word 0x20 0x0D0, .word 0x20 0x0D4, .word 0x20
        0x0D8, .word 0x20 0x0DC, .page 0x1B, .word 0x21 0x050, .word 0x21 0x04C] : List Scope) ++ airScopes) (([.rope,
        .journal, .duty, .fes, .frames, .ledger, .nodes, .slots, .cache, .root] : List Part) ++ airParts) s t) := by
  have run : exec (.belayRecordRx seq true true (.reserve fp v) euis) s =
      done s (settleWork s (journalWrite fp (nextCeiling v) (startTaken seq fp v s))) := by
    rw [← recordRx_reserve (euis := euis) up session new role]
    rfl
  have wrote := frame_journalWrite fp (nextCeiling v) (startTaken seq fp v s)
  have frame : Within [.word 0x30 0x0B0] [.rope, .root, .journal] s (journalWrite fp (nextCeiling v) (startTaken seq fp v s)) :=
    ((Within.refl _ _ s).set_rope (by decide)).then wrote rfl rfl
  have rope : (journalWrite fp (nextCeiling v) (startTaken seq fp v s)).rope = (startTaken seq fp v s).rope :=
    wrote.parts .rope (by decide)
  refine gives_sends run fun t ht sends => ⟨?_, ?_, ?_, ?_,
    (frame.mono (List.all_eq_true.mp (by decide)) (by decide)).then ht (by decide) (by decide)⟩
  · rw [sends.got, rope]
    rfl
  · rw [sends.starts, rope]
    exact look_insert_same _ _ _ _
  · rw [journalCeiling_of_within ht (by decide), journalCeiling_journalWrite, if_pos rfl]
  · rw [ht.ropeRole (by decide)]
    exact frame.ropeRole (by decide)

/-! ### Attachment and its end -/

theorem attachActivate_raises {s : State} (attaching : s.rope.attaching = true) (att : attached s = true)
    (low : rd F.ROPE.ROLE_PARTNER_ACT s = 0) : attachActivate s =
      resync (setRole ACTIVE (modRope (fun r => { r with attaching := false })
        (raiseCeilings (fun f c => look s.rope.theirs f c) s))) := by
  have kept := (frame_raiseCeilings (fun f c => look s.rope.theirs f c) s).regs F.ROPE.ROLE_PARTNER_ACT (by decide) (by decide)
  unfold attachActivate
  rw [if_neg (by rw [attaching, att]; decide)]
  extract_lets v
  exact if_neg (by rw [isSet, show rd F.ROPE.ROLE_PARTNER_ACT v = _ from kept, low]; decide)

theorem gives_attached {s : State} (attaching : s.rope.attaching = true) (att : attached s = true)
    (low : rd F.ROPE.ROLE_PARTNER_ACT s = 0) : Gives .attachActivate s (fun t =>
      ropeRole t = ACTIVE ∧ rd F.ROPE.ROLE_ACT_OUT t = 1 ∧ t.rope.attaching = false ∧
      s.rope.theirs.all (fun x => decide (min (look s.rope.theirs x.1 0) 0xFFFFFFFF ≤ (journalCeiling x.1 t).getD 0)) =
        true ∧
      Within ([.word 0x30 0x0B0, .word 0x4A 0x050, .word 0x4A 0x014] ++ airScopes) ([.journal, .slots, .rope, .root] ++ airParts)
        s t) := by
  have run : exec .attachActivate s = done s (settleWork s (attachActivate s)) := rfl
  have frame := frame_attachActivate s
  have bound : ∀ x ∈ s.rope.theirs, min (look s.rope.theirs x.1 0) 0xFFFFFFFF ≤
      (journalCeiling x.1 (raiseCeilings (fun f c => look s.rope.theirs f c) s)).getD 0 := fun x => raiseCeilings_theirs
  rw [attachActivate_raises attaching att low] at run frame
  generalize raiseCeilings (fun f c => look s.rope.theirs f c) s = v at run frame bound
  have role := frame_setRole ACTIVE (modRope (fun r => { r with attaching := false }) v)
  have active := ropeRole_setRole (r := ACTIVE) (by decide) (modRope (fun r => { r with attaching := false }) v)
  have out := actOut_setRole ACTIVE (modRope (fun r => { r with attaching := false }) v)
  have rope := setRole_rope ACTIVE (modRope (fun r => { r with attaching := false }) v)
  have journal : ∀ g, journalCeiling g (setRole ACTIVE (modRope (fun r => { r with attaching := false }) v)) =
      journalCeiling g v := fun g => (journalCeiling_of_within role (by decide) g).trans rfl
  generalize setRole ACTIVE (modRope (fun r => { r with attaching := false }) v) = u at run frame role active out rope journal
  have sync := frame_resync u
  refine gives_sends run fun t ht sends => ⟨?_, ?_, ?_, ?_, ?_⟩
  · rw [ht.ropeRole (by decide), sync.ropeRole (by decide), active]
  · rw [ht.regs _ (by decide) (by decide), sync.regs _ (by decide) (by decide), out]
    rfl
  · rw [sends.attaching, (resync_onlySends u).attaching, rope]
    rfl
  · refine List.all_eq_true.mpr fun x mem => decide_eq_true ?_
    rw [journalCeiling_of_within ht (by decide), journalCeiling_of_within sync (by decide), journal]
    exact bound x mem
  · exact (frame.mono (List.all_eq_true.mp (by decide)) (by decide)).then ht (by decide) (by decide)

/-- The state in which the loss of the partner is counted and latched. -/
def lossCounted (s : State) : State := latch 0x4A 0 (inc F.ROPE.LOST_COUNT (wr F.ROPE.LINK_ATTACHED 0 s))

theorem frame_lossCounted (s : State) :
    Within [.word 0x4A 0x058, .word 0x4A 0x074, .word 0x4A 0x014] [] s (lossCounted s) :=
  (((Within.refl _ _ s).wr (by decide)).inc (by decide)).latch (by decide)

theorem lossCounted_shows (s : State) : attached (lossCounted s) = false ∧
    rd F.ROPE.LOST_COUNT (lossCounted s) = (rd F.ROPE.LOST_COUNT s + 1) % 2 ^ 32 ∧ eventLatched 0x4A 0 (lossCounted s) := by
  have counts : Within [.word 0x4A 0x074] [] (wr F.ROPE.LINK_ATTACHED 0 s) (inc F.ROPE.LOST_COUNT (wr F.ROPE.LINK_ATTACHED 0 s)) :=
    (Within.refl _ _ _).inc (by decide)
  have latches : Within [.word 0x4A 0x014] [] (inc F.ROPE.LOST_COUNT (wr F.ROPE.LINK_ATTACHED 0 s)) (lossCounted s) :=
    (Within.refl _ _ _).latch (by decide)
  refine ⟨?_, ?_, latch_sets 0x4A 0 _ (by decide)⟩
  · rw [latches.attached (by decide), counts.attached (by decide), attached, isSet, rd_wr_same]
    rfl
  · rw [latches.regs _ (by decide) (by decide), inc, rd_wr_same, rd_wr_apart _ _ rfl]
    rfl

/-- The state in which the attachment has ended with a fresh nonce. -/
def attachmentEnded (standby : Bool) (s : State) : State :=
  modRope (fun r => { r with
    session := none, unacked := [], attaching := false, lostAt := some s.now, mayExtend := false, wasStandby := standby })
    (newNonce s)

theorem frame_attachmentEnded (standby : Bool) (s : State) : Within [] [.draws, .rope] s (attachmentEnded standby s) :=
  ((Within.refl _ _ s).then (frame_newNonce s) rfl rfl).set_rope (by decide)

/-- A role other than ACTIVE after another such role is no turn. -/
theorem setRole_passive {r : Nat} {s : State} (was : ropeRole s ≠ ACTIVE) (new : r ≠ ACTIVE) :
    setRole r s = wr F.ROPE.ROLE_STATE r (wrBool F.ROPE.ROLE_ACT_OUT false s) := by
  unfold setRole
  rw [beq_false_of_ne was, beq_false_of_ne new]
  exact if_neg (by decide)

/-- Whether a member whose partner is lost keeps its role (R580). -/
def KeepsRole (s : State) : Prop :=
  ropeRole s = ACTIVE ∨ ropeRole s = RELINQUISHING ∨
    (ropeRole s = STANDBY ∧ s.rope.fellAt.any (fun x => s.now ≤ x + 1000000) = true)

theorem keepsRole_ended (standby : Bool) (s : State) : (attachmentEnded standby (lossCounted s)).rope.fellAt = s.rope.fellAt ∧
    (attachmentEnded standby (lossCounted s)).now = s.now := by
  have frame := frame_lossCounted s
  have rope : (lossCounted s).rope = s.rope := frame.parts .rope List.not_mem_nil
  have now : (lossCounted s).now = s.now := frame.parts .now List.not_mem_nil
  generalize lossCounted s = x at rope now
  rw [← rope, ← now]
  exact ⟨rfl, rfl⟩

/-- How the loss of a partner goes on once the attachment has ended. -/
theorem partnerLost_ends {s : State} (att : attached s = true) : partnerLost s =
    if ropeRole s = ACTIVE ∨ ropeRole s = RELINQUISHING ∨ (ropeRole s = STANDBY ∧
      (attachmentEnded (ropeRole s == STANDBY) (lossCounted s)).rope.fellAt.any
        (fun x => (attachmentEnded (ropeRole s == STANDBY) (lossCounted s)).now ≤ x + 1000000) = true) then
      attachmentEnded (ropeRole s == STANDBY) (lossCounted s)
    else setRole WAITING (modRope (fun r => { r with fellAt := none }) (attachmentEnded (ropeRole s == STANDBY) (lossCounted s))) := by
  unfold partnerLost attachmentEnded lossCounted
  exact if_neg (by rw [att]; decide)

theorem partnerLost_keeps {s : State} (att : attached s = true) (keeps : KeepsRole s) :
    partnerLost s = attachmentEnded (ropeRole s == STANDBY) (lossCounted s) := by
  obtain ⟨fell, now⟩ := keepsRole_ended (ropeRole s == STANDBY) s
  rw [partnerLost_ends att, fell, now]
  exact if_pos keeps

theorem partnerLost_waits {s : State} (att : attached s = true) (leaves : ¬ KeepsRole s) :
    partnerLost s = wr F.ROPE.ROLE_STATE WAITING (wrBool F.ROPE.ROLE_ACT_OUT false
      (modRope (fun r => { r with fellAt := none }) (attachmentEnded (ropeRole s == STANDBY) (lossCounted s)))) := by
  obtain ⟨fell, now⟩ := keepsRole_ended (ropeRole s == STANDBY) s
  have passive : ropeRole (attachmentEnded (ropeRole s == STANDBY) (lossCounted s)) ≠ ACTIVE := by
    rw [(frame_attachmentEnded _ _).ropeRole (by decide), (frame_lossCounted s).ropeRole (by decide)]
    exact fun active => leaves (.inl active)
  rw [partnerLost_ends att, fell, now]
  refine (if_neg leaves).trans ?_
  generalize attachmentEnded (ropeRole s == STANDBY) (lossCounted s) = x at passive
  have same : ropeRole (modRope (fun r => { r with fellAt := none }) x) ≠ ACTIVE := passive
  exact setRole_passive same (by decide)

theorem partnerLost_shows {s : State} (att : attached s = true) : attached (partnerLost s) = false ∧
    rd F.ROPE.LOST_COUNT (partnerLost s) = (rd F.ROPE.LOST_COUNT s + 1) % 2 ^ 32 ∧ eventLatched 0x4A 0 (partnerLost s) ∧
    (partnerLost s).rope.session = none ∧ (partnerLost s).rope.nonce = Config.entropy s.draws % 2 ^ 128 ∧
    (partnerLost s).rope.lostAt = some s.now ∧
    (KeepsRole s → ropeRole (partnerLost s) = ropeRole s) ∧ (¬ KeepsRole s → ropeRole (partnerLost s) = WAITING) := by
  obtain ⟨apart, count, latched⟩ := lossCounted_shows s
  have loss := frame_lossCounted s
  have ends := frame_attachmentEnded (ropeRole s == STANDBY) (lossCounted s)
  have draws : (lossCounted s).draws = s.draws := loss.parts .draws List.not_mem_nil
  have now : (lossCounted s).now = s.now := loss.parts .now List.not_mem_nil
  have session : (attachmentEnded (ropeRole s == STANDBY) (lossCounted s)).rope.session = none := rfl
  have nonce : (attachmentEnded (ropeRole s == STANDBY) (lossCounted s)).rope.nonce = Config.entropy s.draws % 2 ^ 128 := by
    rw [← draws]
    rfl
  have lost : (attachmentEnded (ropeRole s == STANDBY) (lossCounted s)).rope.lostAt = some s.now := by
    rw [← now]
    rfl
  have apart' := (ends.attached (by decide)).trans apart
  have count' := (ends.regs F.ROPE.LOST_COUNT (by decide) (by decide)).trans count
  have latched' := (ends.latched (pg := 0x4A) (bit := 0) (by decide) (by decide)).mpr latched
  by_cases keeps : KeepsRole s
  · rw [partnerLost_keeps att keeps]
    exact ⟨apart', count', latched', session, nonce, lost,
      fun _ => (ends.ropeRole (by decide)).trans (loss.ropeRole (by decide)), fun leaves => absurd keeps leaves⟩
  · rw [partnerLost_waits att keeps]
    generalize attachmentEnded (ropeRole s == STANDBY) (lossCounted s) = x at session nonce lost apart' count' latched'
    have waits : Within [.word 0x4A 0x050] [.rope] x (wr F.ROPE.ROLE_STATE WAITING (wrBool F.ROPE.ROLE_ACT_OUT false
        (modRope (fun r => { r with fellAt := none }) x))) :=
      (((Within.refl _ _ x).set_rope (by decide)).wrBool (by decide)).wr (by decide)
    exact ⟨(waits.attached (by decide)).trans apart', (waits.regs _ (by decide) (by decide)).trans count',
      (waits.latched (by decide) (by decide)).mpr latched', session, nonce, lost, fun stays => absurd stays keeps,
      fun _ => rd_wr_same _ _ _⟩

/-! ### The obligation -/

/-- Proves O51: each clause by the branch of its command that its conditions name; what goes on after the command leaves the
registers of the rope page alone, and of the member's state all but the records sent. -/
theorem belayLink : Obligations.BelayLink := by
  unfold Obligations.BelayLink
  refine ⟨fun li s => gives_lock, fun li s => gives_spare, fun li s => gives_laneFail, ?_, ?_,
    fun role health ack seq partnerNs s => gives_heartbeat, ?_, ?_, ?_, ?_, ?_, ?_, ?_, fun s => gives_attached, ?_, ?_⟩
  · intro die pub nonce role prefer s up
    have run : exec (.belayHello die pub nonce role prefer) s =
        done s (settleWork s (belayHello die.toNat pub nonce role prefer s)) := rfl
    obtain ⟨bad, session⟩ := belayHello_shows (die := die.toNat) (pub := pub) (nonce := nonce) (role := role)
      (prefer := prefer) up
    have frame := frame_belayHello die.toNat pub nonce role prefer s
    refine gives_sends run fun t ht sends => ⟨?_, ?_,
      (frame.mono (List.all_eq_true.mp (by decide)) (by decide)).then ht (by decide) (by decide)⟩
    · exact (ht.regs _ (by decide) (by decide)).trans bad
    · exact (sends.session.trans session).trans rfl
  · intro s up session
    have own : heartbeatSend s = modRope (fun r => { r with sent := r.sent + 1 }) s := if_pos (by rw [up, session]; rfl)
    have run : exec .belayHeartbeatSend s = done s (modRope (fun r => { r with sent := r.sent + 1 }) s) := by
      rw [← own]
      rfl
    exact gives_done run ⟨rfl, ((Within.refl _ _ s).set_rope (by decide)).pending⟩
  · intro role health ack seq partnerNs s up session apart waits active
    rw [active]
    have run : exec (.belayHeartbeatRx ACTIVE health ack seq partnerNs) s =
        done s (settleWork s (heartbeatRx ACTIVE health ack seq partnerNs s)) := rfl
    obtain ⟨att, sync⟩ := heartbeatRx_attaches (health := health) (ack := ack) (seq := seq) (partnerNs := partnerNs) up
      session apart waits
    have frame := frame_heartbeatRx ACTIVE health ack seq partnerNs s
    exact gives_air run fun t ht => ⟨(ht.attached (by decide)).trans att, (ht.ropeRole (by decide)).trans sync,
      (frame.mono (List.all_eq_true.mp (by decide)) (by decide)).then ht (by decide) (by decide)⟩
  · intro seq inOrder ok record euis s up session bad
    rw [bad]
    have run : exec (.belayRecordRx seq inOrder false record euis) s =
        done s (settleWork s (inc F.ROPE.RECORDS_BAD s)) := by
      rw [← recordRx_bad (seq := seq) (inOrder := inOrder) (r := record) (euis := euis) up session]
      rfl
    have frame : Within [.word 0x4A 0x078] [] s (inc F.ROPE.RECORDS_BAD s) := (Within.refl _ _ s).inc (by decide)
    refine gives_sends run fun t ht sends => ⟨?_, sends.got, (ht.ropeRole (by decide)).trans (frame.ropeRole (by decide)),
      (frame.mono (List.all_eq_true.mp (by decide)) rfl).then ht (by decide) (by decide)⟩
    exact (ht.regs _ (by decide) (by decide)).trans (rd_wr_same _ _ _)
  · intro seq inOrder ok record euis s up session good stale calm
    rw [good]
    have own : recordRx seq inOrder true record euis s = s := recordRx_stale up session stale
    have run : exec (.belayRecordRx seq inOrder true record euis) s = done s (settleWork s s) :=
      Eq.trans (b := done s (settleWork s (recordRx seq inOrder true record euis s))) rfl
        (congrArg (fun u => done s (settleWork s u)) own)
    refine gives_calm run calm fun t ht => ⟨ht.parts .rope List.not_mem_nil, ht.parts .slots List.not_mem_nil,
      ht.parts .nodes List.not_mem_nil, ht.parts .journal List.not_mem_nil, ht.ropeRole rfl, ?_⟩
    exact ht.mono (fun x mem => absurd mem List.not_mem_nil) rfl
  · intro seq inOrder ok record euis s up session good new ordered done_ syncing
    rw [good, ordered, done_]
    have syncing' : ropeRole (modRope (fun x => { x with got := seq }) s) = SYNCING := syncing
    have own : recordRx seq true true .syncDone euis s = setRole STANDBY (modRope (fun x => { x with got := seq }) s) := by
      rw [recordRx_next up session new]
      unfold applyRecord
      dsimp only
      rw [if_neg fun other => other.1 syncing', if_pos syncing']
    have run : exec (.belayRecordRx seq true true .syncDone euis) s =
        done s (settleWork s (setRole STANDBY (modRope (fun x => { x with got := seq }) s))) := by
      rw [← own]
      rfl
    have frame : Within [.word 0x4A 0x050, .word 0x4A 0x014] [.rope] s
        (setRole STANDBY (modRope (fun x => { x with got := seq }) s)) :=
      ((Within.refl _ _ s).set_rope (by decide)).then (frame_setRole _ _) rfl rfl
    refine gives_sends run fun t ht sends => ⟨?_, (ht.ropeRole (by decide)).trans (ropeRole_setRole (by decide) _),
      (frame.mono (List.all_eq_true.mp (by decide)) (by decide)).then ht (by decide) (by decide)⟩
    rw [sends.got, setRole_rope]
    rfl
  · intro seq inOrder ok record euis s fp v up session good new ordered reserve role
    rw [good, ordered, reserve]
    exact gives_reserved up session new role
  · intro s sent
    have own : recordResend s = inc F.ROPE.RECORDS_RESENT s := if_neg (by simpa using sent)
    have run : exec .belayRecordResend s = done s (inc F.ROPE.RECORDS_RESENT s) := by
      rw [← own]
      rfl
    exact gives_done run ⟨(rd_pending _ _ _).trans (rd_wr_same _ _ _), ((Within.refl _ _ s).inc (by decide)).pending⟩
  · intro s ch mirror eq some_
    have run : exec .replayMirror s = done s (replayMirror s) := rfl
    refine gives_done run ⟨?_, (frame_replayMirror s).pending⟩
    subst eq
    unfold replayMirror
    rw [if_neg (by rw [mirror]; decide)]
    extract_lets ch t
    rw [if_neg (fun none => some_ (List.isEmpty_iff.mp none))]
    rfl
  · intro s att
    have run : exec .partnerLost s = done s (settleWork s (partnerLost s)) := rfl
    have frame := frame_partnerLost s
    obtain ⟨apart, count, latched, session, nonce, lost, stays, waits⟩ := partnerLost_shows att
    refine gives_sends run fun t ht sends => ⟨(ht.attached (by decide)).trans apart,
      (ht.regs _ (by decide) (by decide)).trans count, (ht.latched (by decide) (by decide)).mpr latched,
      sends.session.trans session, sends.nonce.trans nonce, sends.lostAt.trans lost, ?_,
      (frame.mono (List.all_eq_true.mp (by decide)) (by decide)).then ht (by decide) (by decide)⟩
    rw [ht.ropeRole (by decide)]
    split
    case isTrue keeps => exact stays keeps
    case isFalse leaves => exact waits leaves
  · intro s lost
    have own : loneCeiling s = modRope (fun r => { r with mayExtend := true }) s := if_pos lost
    have run : exec .loneCeilingWait s = done s (modRope (fun r => { r with mayExtend := true }) s) := by
      rw [← own]
      rfl
    exact gives_done run ⟨rfl, ((Within.refl _ _ s).set_rope (by decide)).pending⟩

end Sys2Proof.Machine
end

section
/-! PROOF. What dissemination that goes on by itself leaves of the front ends (R566, R568): it withdraws requests, but neither
the calibrations to run nor those that wait change. -/

namespace Sys2Proof.Machine

/-- The calibrations of every front end, those to run and those that wait, are as before. -/
def KeepsCals (s u : State) : Prop := ∀ p, (fe p u).todo = (fe p s).todo ∧ (fe p u).waiting = (fe p s).waiting

theorem KeepsCals.refl (s : State) : KeepsCals s s := fun _ => ⟨rfl, rfl⟩

theorem KeepsCals.trans {s t u : State} (h : KeepsCals s t) (k : KeepsCals t u) : KeepsCals s u := fun p => by
  obtain ⟨todo, waiting⟩ := h p
  obtain ⟨todo', waiting'⟩ := k p
  exact ⟨todo'.trans todo, waiting'.trans waiting⟩

theorem KeepsCals.ite {s t u : State} {c : Prop} [Decidable c] (h : KeepsCals s t) (k : KeepsCals s u) :
    KeepsCals s (if c then t else u) := by
  split
  · exact h
  · exact k

theorem KeepsCals.foldl {α : Type} {l : List α} {g : State → α → State} {s t : State} (h : KeepsCals s t)
    (step : ∀ t x, KeepsCals t (g t x)) : KeepsCals s (l.foldl g t) := by
  induction l generalizing t with
  | nil => exact h
  | cons x r ih => exact ih (h.trans (step t x))

/-- A frame without the front ends after what keeps their calibrations. -/
theorem KeepsCals.then {P : List Scope} {S : List Part} {s t u : State} (h : KeepsCals s t) (k : Within P S t u)
    (f : Part.fes ∉ S) : KeepsCals s u := by
  have fes : u.fes = t.fes := k.parts .fes f
  exact h.trans fun p => by
    unfold fe
    rw [fes]
    exact ⟨rfl, rfl⟩

theorem Within.keepsCals {P : List Scope} {S : List Part} {s t : State} (h : Within P S s t) (f : Part.fes ∉ S) :
    KeepsCals s t := (KeepsCals.refl s).then h f

theorem KeepsCals.wr {s t : State} (h : KeepsCals s t) (f : Field) (v : Nat) : KeepsCals s (Machine.wr f v t) := h

theorem modFe_keepsCals {n : Nat} {f : Fe → Fe} (s : State) (todo : ∀ x, (f x).todo = x.todo := by intro _; rfl)
    (waiting : ∀ x, (f x).waiting = x.waiting := by intro _; rfl) : KeepsCals s (modFe n f s) := fun p => by
  rw [fe_modFe]
  split
  case isTrue same =>
    rw [same]
    exact ⟨todo _, waiting _⟩
  case isFalse => exact ⟨rfl, rfl⟩

/-! ### Frames that end -/

theorem lowerReq_keepsCals (p : Nat) (s : State) : KeepsCals s (lowerReq p s) :=
  .ite (.refl s) (modFe_keepsCals s)

theorem leaveCommitted_keepsCals (id : Nat) (f : Frame) (s : State) : KeepsCals s (leaveCommitted id f s) := by
  unfold leaveCommitted
  split
  · extract_lets t
    have refunded : KeepsCals s t := (frame_dwellRefund _ _ s).keepsCals (by decide)
    split
    · exact refunded.trans (lowerReq_keepsCals _ t)
    · exact refunded
  · exact .refl s

theorem endOne_keepsCals (id : Nat) (d : Disp) (s : State) : KeepsCals s (endOne id d s) := by
  unfold endOne
  split
  · exact .refl s
  · split
    · exact .refl s
    · extract_lets queueing ended left closed counted noted pending
      have h1 : KeepsCals s ended := (frame_setFrame _ _ s).keepsCals (by decide)
      have h2 : KeepsCals s left := (h1.then (frame_dutyRelease _ _) (by decide)).trans (leaveCommitted_keepsCals _ _ _)
      have h3 : KeepsCals s closed := .ite (h2.then (frame_closeAll _ _ _) (by decide)) h2
      have h4 : KeepsCals s counted := .ite (h3.then (frame_countAbandon _ _ _) (by decide)) (.ite h3 h3)
      have h5 : KeepsCals s noted := (h4.then (frame_txStat _ _ _) (by decide)).then (frame_rxStat _ _ _) (by decide)
      have h6 : KeepsCals s pending := by
        unfold pending
        split
        · exact (h5.then (frame_syncPending _ _) (by decide)).then (frame_countPending _) (by decide)
        · exact h5
      exact h6.then (frame_recount _ _) (by decide)

theorem endFrame_keepsCals (id : Nat) (d : Disp) (s : State) : KeepsCals s (endFrame id d s) := by
  unfold endFrame
  split
  · exact .refl s
  · extract_lets live ended
    have one : KeepsCals s ended := endOne_keepsCals _ _ s
    split
    · refine .ite one (.ite (.ite one (one.then (frame_closeAll _ _ _) (by decide))) ?_)
      exact (KeepsCals.foldl one fun t x => endOne_keepsCals _ _ t).then (frame_closeAll _ _ _) (by decide)
    · exact one

theorem endFrames_keepsCals (q : Frame → Bool) (d : Disp) (s : State) : KeepsCals s (endFrames q d s) :=
  .foldl (.refl s) fun t _ => endFrame_keepsCals _ _ t

theorem enqueue_keepsCals (id : Nat) (s : State) : KeepsCals s (enqueue id s) := by
  unfold enqueue
  split
  · exact .refl s
  · refine .ite (endFrame_keepsCals _ _ s) ?_
    extract_lets t
    have queued : KeepsCals s t := (frame_setFrame _ _ s).keepsCals (by decide)
    split
    · exact (queued.then (frame_regCeiling _) (by decide)).trans (endFrame_keepsCals _ _ _)
    · exact queued.then (frame_recount _ _) (by decide)

theorem queueAnnouncement_keepsCals (c n : Nat) (w : Option Nat) (s : State) : KeepsCals s (queueAnnouncement c n w s) :=
  (((KeepsCals.refl s).then (frame_newFrame s) (by decide)).then (frame_setFrame _ _ _) (by decide)).trans
    (enqueue_keepsCals _ _)

theorem queueSymbol_keepsCals (c n : Nat) (s : State) : KeepsCals s (queueSymbol c n s) := by
  unfold queueSymbol
  extract_lets k max f t
  split
  · exact .refl s
  · refine .ite (.refl s) ?_
    have next : KeepsCals s t := ((KeepsCals.refl s).then (frame_modCampaign _ _ s) (by decide)).wr _ _
    exact ((next.then (frame_newFrame t) (by decide)).then (frame_setFrame _ _ _) (by decide)).trans (enqueue_keepsCals _ _)

theorem followSymbol_keepsCals (id : Nat) (s : State) : KeepsCals s (followSymbol id s) := by
  unfold followSymbol
  split
  · exact .refl s
  · split
    · extract_lets gone air seen windows t
      have h1 : KeepsCals s seen := (frame_modFrame _ _ s).keepsCals (by decide)
      have h2 : KeepsCals s t :=
        .ite ((h1.then (frame_modCampaign _ _ _) (by decide)).trans (queueSymbol_keepsCals _ _ _)) (.refl s)
      exact .ite (((h2.then (frame_modFrame _ _ _) (by decide)).wr _ _).wr _ _) h2
    · exact .refl s

/-! ### Campaigns that end -/

/-- The registers that dissemination writes when it goes on by itself. -/
def dissemScopes : List Scope :=
  [.page 0x29, .page 0x24, .page 0x25, .page 0x26, .page 0x27, .word 0x21 0x50, .word 0x21 0x4c, .page 0x1b,
    .word 0x20 0xdc, .word 0x20 0xd8, .word 0x20 0xd4, .word 0x20 0xd0, .word 0x19 0xb4, .word 0xc 0x14, .word 0xc 0x4c]

/-- The parts of the state that dissemination changes when it goes on by itself. -/
def dissemParts : List Part :=
  [.frames, .frameNumbers, .campaigns, .nodes, .ddr, .ledger, .scheds, .fes, .duty]

/-- What dissemination does by itself: its own frame, with the calibrations of the front ends kept. -/
structure Disseminates (s u : State) : Prop where
  frame : Within dissemScopes dissemParts s u
  cals  : KeepsCals s u

theorem Disseminates.refl (s : State) : Disseminates s s := ⟨.refl _ _ s, .refl s⟩

theorem Disseminates.trans {s t u : State} (h : Disseminates s t) (k : Disseminates t u) : Disseminates s u :=
  ⟨h.frame.trans k.frame, h.cals.trans k.cals⟩

theorem Disseminates.ite {s t u : State} {c : Prop} [Decidable c] (h : Disseminates s t) (k : Disseminates s u) :
    Disseminates s (if c then t else u) := by
  split
  · exact h
  · exact k

theorem Disseminates.foldl {α : Type} {l : List α} {g : State → α → State} {s t : State} (h : Disseminates s t)
    (step : ∀ t x, x ∈ l → Disseminates t (g t x)) : Disseminates s (l.foldl g t) := by
  induction l generalizing t with
  | nil => exact h
  | cons x r ih =>
    exact ih (h.trans (step t x List.mem_cons_self)) fun t y mem => step t y (List.mem_cons_of_mem _ mem)

/-- A frame without the front ends in what dissemination does. -/
theorem Disseminates.then {P : List Scope} {S : List Part} {s t u : State} (h : Disseminates s t) (k : Within P S t u)
    (hp : P.all (fun x => x.among dissemScopes) = true) (hs : S.all (fun x => dissemParts.contains x) = true)
    (f : Part.fes ∉ S) : Disseminates s u :=
  ⟨h.frame.trans (k.mono (List.all_eq_true.mp hp) hs), h.cals.then k f⟩

theorem endFrames_disseminates (q : Frame → Bool) (d : Disp) (s : State) : Disseminates s (endFrames q d s) :=
  ⟨(frame_endFrames q d s).mono (List.all_eq_true.mp (by decide)) (by decide), endFrames_keepsCals q d s⟩

theorem queueAnnouncement_disseminates (c n : Nat) (w : Option Nat) (s : State) : Disseminates s (queueAnnouncement c n w s) :=
  ⟨(frame_queueAnnouncement c n w s).mono (List.all_eq_true.mp (by decide)) (by decide), queueAnnouncement_keepsCals c n w s⟩

theorem followSymbol_disseminates (id : Nat) (s : State) : Disseminates s (followSymbol id s) :=
  ⟨(frame_followSymbol id s).mono (List.all_eq_true.mp (by decide)) (by decide), followSymbol_keepsCals id s⟩

theorem showWindowOpen_scopes : ∀ n ∈ List.range 4,
    [Scope.word (0x24 + n % 4) 0x50].all (fun x => x.among dissemScopes) = true := by decide

/-- A campaign that ends other than by ABORT cuts no transmission. -/
theorem endCampaign_disseminates (c : Nat) {why : EndReason} (own : why ≠ .aborted) (s : State) :
    Disseminates s (endCampaign c why s) := by
  unfold endCampaign
  extract_lets atOnce ended windows shown queued committed cut latched
  have h1 : Disseminates s ended := ⟨(((Within.refl _ _ s).then (frame_setCState _ _ s) rfl rfl).wr (inScopes_of rfl)),
    (frame_setCState _ _ s).keepsCals (by decide)⟩
  have h2 : Disseminates s windows := h1.then (frame_modCampaign _ _ _) rfl rfl (by decide)
  have h3 : Disseminates s shown := .foldl (h2.then (frame_showNextWin _ _) rfl rfl (by decide)) fun t n mem =>
    (Disseminates.refl t).then (frame_showWindowOpen n t) (showWindowOpen_scopes n mem) rfl (by decide)
  have h4 : Disseminates s queued := .ite h3 (h3.trans (endFrames_disseminates _ _ _))
  have h5 : Disseminates s cut := by
    unfold cut
    rw [if_pos own]
    exact h4
  have h6 : Disseminates s latched := by
    refine h5.trans (.ite ?_ (.ite ?_ (.refl cut)))
    · exact (Disseminates.refl cut).then ((Within.refl [.word 0x29 0x14] [] cut).latch (by decide)) rfl rfl (by decide)
    · exact (Disseminates.refl cut).then ((Within.refl [.word 0x29 0x14] [] cut).latch (by decide)) rfl rfl (by decide)
  exact .foldl h6 fun t n _ => queueAnnouncement_disseminates c n none t

theorem followCampaign_disseminates (c : Nat) (s : State) : Disseminates s (followCampaign c s) := by
  unfold followCampaign
  refine .ite (.refl s) ?_
  extract_lets max keyed busy t
  exact .ite (endCampaign_disseminates c (by decide) s) (.ite (endCampaign_disseminates c (by decide) s)
    (.ite (endCampaign_disseminates c (by decide) s) (.ite (endCampaign_disseminates c (by decide) s) (.refl s))))

theorem followDissem_disseminates (s : State) : Disseminates s (followDissem s) := by
  unfold followDissem
  extract_lets t
  have symbols : Disseminates s t := .foldl (.refl s) fun t x _ => followSymbol_disseminates _ t
  exact .foldl symbols fun t x _ => followCampaign_disseminates _ t

end Sys2Proof.Machine
end

section
/-! PROOF. What the end of a calibration leaves at rest (R110 to R115): no lane begins to wait, no need joins a queue, no retune
becomes pending; and what a front end has still to calibrate. -/

namespace Sys2Proof.Machine

/-- Nothing begins to wait for a lane or a front end. -/
structure KeepsRest (s u : State) : Prop where
  queue   : s.reliefQueue = [] → u.reliefQueue = []
  lanes   : (∀ x ∈ s.lanes, x.2.waits = false) → ∀ x ∈ u.lanes, x.2.waits = false
  waiting : ∀ p, (fe p s).waiting = [] → (fe p u).waiting = []
  retune  : ∀ p, rd (F.FE.RF_STATE_RETUNE_PENDING p) s = 0 → rd (F.FE.RF_STATE_RETUNE_PENDING p) u = 0

theorem KeepsRest.refl (s : State) : KeepsRest s s := ⟨id, id, fun _ => id, fun _ => id⟩

theorem KeepsRest.trans {s t u : State} (h : KeepsRest s t) (k : KeepsRest t u) : KeepsRest s u :=
  ⟨k.queue ∘ h.queue, k.lanes ∘ h.lanes, fun p => k.waiting p ∘ h.waiting p, fun p => k.retune p ∘ h.retune p⟩

/-- What a front end has still to calibrate, and whether the calibration in progress is tried a second time, are as before. -/
def KeepsTodo (s u : State) : Prop := ∀ p, (fe p u).todo = (fe p s).todo ∧ (fe p u).second = (fe p s).second

/-- Nothing begins to wait and the set of calibrations is as before. -/
structure KeepsSet (s u : State) : Prop where
  rest : KeepsRest s u
  todo : KeepsTodo s u

theorem KeepsSet.refl (s : State) : KeepsSet s s := ⟨.refl s, fun _ => ⟨rfl, rfl⟩⟩

theorem KeepsSet.trans {s t u : State} (h : KeepsSet s t) (k : KeepsSet t u) : KeepsSet s u := by
  refine ⟨h.rest.trans k.rest, fun p => ?_⟩
  obtain ⟨todo, second⟩ := h.todo p
  obtain ⟨todo', second'⟩ := k.todo p
  exact ⟨todo'.trans todo, second'.trans second⟩

theorem KeepsSet.ite {s t u : State} {c : Prop} [Decidable c] (h : KeepsSet s t) (k : KeepsSet s u) :
    KeepsSet s (if c then t else u) := by
  split
  · exact h
  · exact k

/-- What changes neither lanes nor front ends nor the queue keeps the set, where no retune becomes pending. -/
theorem keepsSet_of_parts {s u : State} (queue : u.reliefQueue = s.reliefQueue) (lanes : u.lanes = s.lanes) (fes : u.fes = s.fes)
    (retune : ∀ p, rd (F.FE.RF_STATE_RETUNE_PENDING p) u = rd (F.FE.RF_STATE_RETUNE_PENDING p) s) : KeepsSet s u where
  rest := {
    queue := fun h => queue.trans h
    lanes := fun h => lanes ▸ h
    waiting := fun p h => by
      unfold fe at h ⊢
      rw [fes]
      exact h
    retune := fun p h => (retune p).trans h }
  todo := fun p => by
    unfold fe
    rw [fes]
    exact ⟨rfl, rfl⟩

theorem retunePending_mod (p : Nat) : F.FE.RF_STATE_RETUNE_PENDING p = F.FE.RF_STATE_RETUNE_PENDING (p % 4) := by
  unfold F.FE.RF_STATE_RETUNE_PENDING
  rw [Nat.mod_mod]

theorem Within.keepsSet {P : List Scope} {S : List Part} {s t : State} (h : Within P S s t)
    (hS : ∀ p ∈ [Part.relief, .fes, .lanes], p ∉ S)
    (hP : ∀ p ∈ List.range 4, inScopes P (F.FE.RF_STATE_RETUNE_PENDING p).key = false) : KeepsSet s t := by
  obtain ⟨-, queue⟩ := h.parts .relief (hS _ (by simp))
  refine keepsSet_of_parts queue (h.parts .lanes (hS _ (by simp))) (h.parts .fes (hS _ (by simp))) fun p => ?_
  have low : p % 4 ∈ List.range 4 := List.mem_range.mpr (Nat.mod_lt p (by decide))
  rw [retunePending_mod]
  exact h.regs _ ((by decide : ∀ p ∈ List.range 4, followKey (F.FE.RF_STATE_RETUNE_PENDING p).key = false) _ low) (hP _ low)

theorem KeepsSet.wr {s t : State} (h : KeepsSet s t) {f : Field} (v : Nat)
    (apart : (0x4C == f.off % 16384 && 8 == f.lo % 32) = false) : KeepsSet s (Machine.wr f v t) :=
  h.trans (keepsSet_of_parts rfl rfl rfl fun _ => rd_wr_apart v t apart)

theorem KeepsSet.latch {s t : State} (h : KeepsSet s t) (pg bit : Nat) : KeepsSet s (Machine.latch pg bit t) := by
  have frame : Within [.word pg 0x14] [] t (Machine.latch pg bit t) :=
    (Within.refl _ _ t).latch (inScopes_of (by simp [Scope.among, F.HEAD.EVT_LATCH]))
  obtain ⟨-, queue⟩ := frame.parts .relief List.not_mem_nil
  exact h.trans (keepsSet_of_parts queue (frame.parts .lanes List.not_mem_nil) (frame.parts .fes List.not_mem_nil) fun p =>
    rd_latch_ne _ pg bit t (key_ne_of_place rfl) (key_ne_of_place rfl))

theorem modFe_keepsRest {n : Nat} {f : Fe → Fe} (s : State)
    (waiting : ∀ x, x.waiting = [] → (f x).waiting = [] := by intro _ h; exact h) :
    KeepsRest s (modFe n f s) where
  queue := id
  lanes := id
  waiting p h := by
    rw [fe_modFe]
    split
    case isTrue same => exact waiting _ (same ▸ h)
    case isFalse => exact h
  retune _ := id

theorem KeepsSet.modFe {s t : State} (h : KeepsSet s t) (n : Nat) {f : Fe → Fe}
    (waiting : ∀ x, x.waiting = [] → (f x).waiting = [] := by intro _ h; exact h)
    (todo : ∀ x, (f x).todo = x.todo ∧ (f x).second = x.second := by intro _; exact ⟨rfl, rfl⟩) :
    KeepsSet s (Machine.modFe n f t) := by
  refine h.trans ⟨modFe_keepsRest t waiting, fun p => ?_⟩
  rw [fe_modFe]
  split
  case isTrue same =>
    rw [same]
    exact todo _
  case isFalse => exact ⟨rfl, rfl⟩

theorem KeepsSet.relief {s t : State} (h : KeepsSet s t) (r : Option Relief) : KeepsSet s { t with relief := r } :=
  h.trans (keepsSet_of_parts rfl rfl rfl fun _ => rfl)

theorem KeepsSet.filterQueue {s t : State} (h : KeepsSet s t) (q : Relief → Bool) :
    KeepsSet s { t with reliefQueue := t.reliefQueue.filter q } :=
  h.trans ⟨⟨fun empty => by rw [empty]; rfl, id, fun _ => id, fun _ => id⟩, fun _ => ⟨rfl, rfl⟩⟩

theorem KeepsSet.changeLanes {s t : State} (h : KeepsSet s t) (q : Lane → Bool) {g : Lane → Lane}
    (waits : ∀ l, (g l).waits = l.waits) : KeepsSet s (Machine.changeLanes q g t) :=
  h.trans ⟨⟨id, (changeLanes_keepsCalm q g t waits).1, fun _ => id, fun _ => id⟩, fun _ => ⟨rfl, rfl⟩⟩

/-! ### Pages, listening and gain -/

theorem KeepsSet.setPageState {s t : State} (h : KeepsSet s t) (pg v : Nat) : KeepsSet s (Machine.setPageState pg v t) :=
  .ite h ((h.wr v rfl).latch pg 29)

theorem KeepsSet.setTestResult {s t : State} (h : KeepsSet s t) (pg v : Nat) : KeepsSet s (Machine.setTestResult pg v t) :=
  .ite h (.ite ((h.wr v rfl).latch pg 29) (h.wr v rfl))

theorem KeepsSet.refreshListen {s t : State} (h : KeepsSet s t) : KeepsSet s (Machine.refreshListen t) :=
  h.trans ((frame_refreshListen t).keepsSet (by decide) (by decide))

theorem KeepsSet.gainIndex {s t : State} (h : KeepsSet s t) (p i : Nat) :
    KeepsSet s (Machine.wr (F.CHAN.GAIN_NOW_INDEX p) i t) := by
  have frame : Within [.page 0x10] [] t (Machine.wr (F.CHAN.GAIN_NOW_INDEX p) i t) :=
    (Within.refl _ _ t).wr (inScopes_of rfl)
  exact h.trans (frame.keepsSet (by decide) (by decide))

theorem KeepsSet.setGain {s t : State} (h : KeepsSet s t) (p i : Nat) : KeepsSet s (Machine.setGain p i t) :=
  ((h.modFe p).gainIndex p i).changeLanes _ fun _ => rfl

theorem KeepsSet.holdGain {s t : State} (h : KeepsSet s t) : KeepsSet s (Machine.holdGain t) := by
  unfold Machine.holdGain
  extract_lets k held
  split
  · exact (h.modFe 3).setGain 3 _
  · exact (h.modFe 3).setGain 3 _
  · exact h

theorem KeepsSet.enterRf {s t : State} (h : KeepsSet s t) (p v : Nat) : KeepsSet s (Machine.enterRf p v t) := by
  unfold Machine.enterRf
  extract_lets e dropped on same entered
  have h1 : KeepsSet s dropped := .ite h (h.trans ((frame_dropEnergy p t).keepsSet (by decide) (by decide)))
  have h2 : KeepsSet s entered := by
    refine h1.modFe p (fun f empty => ?_) fun f => ?_
    · split <;> exact empty
    · split <;> exact ⟨rfl, rfl⟩
  exact ((h2.wr v rfl).wr _ rfl).holdGain

theorem KeepsSet.setRf {s t : State} (h : KeepsSet s t) (p v : Nat) : KeepsSet s (Machine.setRf p v t) :=
  .ite ((h.modFe 3).enterRf p RF_STANDBY).refreshListen (h.enterRf p v)

theorem KeepsSet.nextCal {s t : State} (h : KeepsSet s t) (p : Nat) : KeepsSet s (Machine.nextCal p t) := by
  unfold Machine.nextCal
  split
  · exact h.setRf p _
  · exact h.setRf p _
  · exact h.setRf p _

/-! ### The end of a set -/

theorem KeepsSet.reliefRefill {s t : State} (h : KeepsSet s t) (p : Nat) : KeepsSet s (Machine.reliefRefill p t) := by
  unfold Machine.reliefRefill
  split
  · exact .ite (h.relief _) h
  · exact h

theorem KeepsSet.reliefReady {s t : State} (h : KeepsSet s t) : KeepsSet s (Machine.reliefReady t) := by
  unfold Machine.reliefReady
  split
  · exact (h.setRf 3 _).relief _
  · exact h.setRf 3 _

theorem KeepsSet.deferralsMet {s t : State} (h : KeepsSet s t) (p : Nat) (temp : Bool) :
    KeepsSet s (Machine.deferralsMet p temp t) := by
  unfold Machine.deferralsMet
  extract_lets a b c d
  have h1 : KeepsSet s a := .ite (h.wr 0 rfl) h
  have h2 : KeepsSet s b := h1.wr 0 rfl
  have h3 : KeepsSet s c := h2.filterQueue _
  have h4 : KeepsSet s d := h3.modFe p (fun f empty => by rw [empty]; rfl) fun _ => ⟨rfl, rfl⟩
  exact .ite h4 ((h4.modFe p).wr 0 rfl)

theorem KeepsSet.fullDone {s t : State} (h : KeepsSet s t) (p : Nat) : KeepsSet s (Machine.fullDone p t) :=
  .ite ((((h.modFe p).wr _ rfl).modFe p).deferralsMet p true) h

theorem KeepsSet.noRetune {s t : State} (h : KeepsSet s t) (p : Nat) :
    KeepsSet s (Machine.wr (F.FE.RF_STATE_RETUNE_PENDING p) 0 t) := by
  refine h.trans ⟨⟨id, id, fun _ => id, fun q zero => ?_⟩, fun _ => ⟨rfl, rfl⟩⟩
  by_cases same : F.FE.RF_STATE_RETUNE_PENDING q = F.FE.RF_STATE_RETUNE_PENDING p
  · rw [same, rd_wr_same]
    rfl
  · rw [rd_wr_ne _ _ _ _ fun key => same ?_]
    · exact zero
    · rw [retunePending_mod q, retunePending_mod p] at key ⊢
      have low := Nat.mod_lt q (by decide : 0 < 4)
      have low' := Nat.mod_lt p (by decide : 0 < 4)
      generalize q % 4 = a at key low ⊢
      generalize p % 4 = b at key low' ⊢
      exact (by decide : ∀ a < 4, ∀ b < 4, (F.FE.RF_STATE_RETUNE_PENDING a).key = (F.FE.RF_STATE_RETUNE_PENDING b).key →
        F.FE.RF_STATE_RETUNE_PENDING a = F.FE.RF_STATE_RETUNE_PENDING b) a low b low' key

theorem calsDone_keepsSet (p : Nat) (s : State) : KeepsSet s (calsDone p s) := by
  unfold calsDone
  extract_lets f t
  have done_ : KeepsSet s t := (KeepsSet.refl s).fullDone p
  split
  · exact ((done_.setPageState _ _).setRf p _).refreshListen
  · exact (done_.setRf p _).reliefRefill p
  · exact ((done_.deferralsMet p false).setRf p _).reliefRefill p
  · exact ((done_.wr _ rfl).setRf p _).reliefRefill p
  · exact (((((done_.setTestResult _ _).setPageState _ _).setRf p _).reliefRefill p).refreshListen).wr 0 rfl
  · exact (done_.setRf p _).reliefRefill p
  · exact ((done_.noRetune p).modFe p).setRf p _
  · exact (done_.modFe p).setRf p _
  · exact done_.reliefReady

theorem KeepsSet.noteCal {s t : State} (h : KeepsSet s t) (p : Nat) (k : CalKind) : KeepsSet s (Machine.noteCal p k t) :=
  .ite ((h.wr 0 rfl).modFe p) h

theorem KeepsSet.clearStale {s t : State} (h : KeepsSet s t) (p : Nat) (k : CalKind) :
    KeepsSet s (Machine.clearStale p k t) := by
  have failed := h.modFe p (f := fun f => { f with failed := f.failed.filter (· ≠ k) })
  exact .ite (failed.wr 0 rfl) failed

/-- A calibration that passes leaves the rest of its set, and nothing waits for it. -/
theorem calPass_rests {p : Nat} {k : CalKind} {r : List CalKind} {s : State} (todo : (fe p s).todo = k :: r) :
    KeepsRest s (calPass p s) ∧ (fe p (calPass p s)).todo = r := by
  unfold calPass
  rw [todo]
  dsimp -zeta only
  extract_lets noted next
  have h1 : KeepsSet s noted := ((KeepsSet.refl s).noteCal p k).clearStale p k
  have h2 : KeepsRest noted next := modFe_keepsRest noted
  have left : (fe p next).todo = r := by
    rw [show fe p next = _ from fe_modFe p p _ noted, if_pos rfl]
  split
  · have h3 := calsDone_keepsSet p next
    exact ⟨(h1.rest.trans h2).trans h3.rest, (h3.todo p).1.trans left⟩
  · have h3 := (KeepsSet.refl next).nextCal p
    exact ⟨(h1.rest.trans h2).trans h3.rest, (h3.todo p).1.trans left⟩

/-- Where only lanes, front ends and reliefs change and nothing begins to wait for them, a calm state stays calm. -/
theorem Within.calmRest {P : List Scope} {S : List Part} {s t : State} (h : Within P S s t)
    (hS : ∀ p ∈ [Part.frames, .campaigns, .poolTest, .fw, .rope, .engines], p ∉ S)
    (hP : ∀ k ∈ [F.FWUP.ROLL_ACTIVE.key, F.ROPE.ROLE_STATE.key, F.ROPE.LINK_ATTACHED.key], inScopes P k = false)
    (keeps : KeepsRest s t) (calm : Calm s = true) : Calm t = true := by
  have f : t.frames = s.frames := h.parts .frames (hS _ (by simp))
  have c : t.campaigns = s.campaigns := h.parts .campaigns (hS _ (by simp))
  obtain ⟨d, p⟩ := h.parts .poolTest (hS _ (by simp))
  have w : t.fw = s.fw := h.parts .fw (hS _ (by simp))
  have o : t.rope = s.rope := h.parts .rope (hS _ (by simp))
  obtain ⟨-, -, g⟩ := h.parts .engines (hS _ (by simp))
  have k1 := h.regs F.FWUP.ROLL_ACTIVE (by decide) (hP _ (by simp))
  have k3 := h.regs F.ROPE.ROLE_STATE (by decide) (hP _ (by simp))
  have k4 := h.regs F.ROPE.LINK_ATTACHED (by decide) (hP _ (by simp))
  unfold Calm Machine.quiet mirrors Machine.ropeRole Machine.attached isSet at calm ⊢
  simp only [f, c, d, p, w, o, g, k1, k3, k4] at calm ⊢
  simp only [Bool.and_eq_true, lanesWaiting_isEmpty] at calm ⊢
  simp only [Bool.and_eq_true, List.isEmpty_iff, List.all_eq_true, Bool.not_eq_true', bne_eq_false_iff_eq]
    at calm ⊢
  obtain ⟨⟨⟨⟨⟨⟨⟨⟨⟨⟨live, camps⟩, queue⟩, debt⟩, pool⟩, banks⟩, roll⟩, lanes⟩, fes⟩, engines⟩, rope⟩ := calm
  exact ⟨⟨⟨⟨⟨⟨⟨⟨⟨⟨live, camps⟩, keeps.queue queue⟩, debt⟩, pool⟩, banks⟩, roll⟩, keeps.lanes lanes⟩,
    fun n mem => ⟨keeps.retune n (fes n mem).1, keeps.waiting n (fes n mem).2⟩⟩, engines⟩, rope⟩

end Sys2Proof.Machine
end

section
/-! PROOF. What the work after a command leaves of the calibrations that wait for FE3 (R115, R116, R119): the marks of a deferral
outlive it, and while FE3 is not free the queue of needs does too. -/

namespace Sys2Proof.Machine

/-! ### The marks of a deferral -/

/-- The marks of a deferred calibration of front end `p` are as before, and FE_CAL_FAIL stays latched. -/
structure KeepsMarks (p : Nat) (s u : State) : Prop where
  temp     : rd (F.FE.CAL_STATUS_DEFER_TEMP p) u = rd (F.FE.CAL_STATUS_DEFER_TEMP p) s
  iq       : rd (F.FE.CAL_STATUS_DEFER_IQ p) u = rd (F.FE.CAL_STATUS_DEFER_IQ p) s
  overdue  : rd (F.FE.CAL_STATUS_OVERDUE p) u = rd (F.FE.CAL_STATUS_OVERDUE p) s
  lastFail : rd (F.FE.CAL_STATUS_LAST_FAIL p) u = rd (F.FE.CAL_STATUS_LAST_FAIL p) s
  detail   : rd (F.HEAD.TEST_STATUS_DETAIL (fePage p)) u = rd (F.HEAD.TEST_STATUS_DETAIL (fePage p)) s
  latched  : eventLatched (fePage p) 0 s → eventLatched (fePage p) 0 u

theorem KeepsMarks.refl (p : Nat) (s : State) : KeepsMarks p s s := ⟨rfl, rfl, rfl, rfl, rfl, id⟩

theorem KeepsMarks.trans {p : Nat} {s t u : State} (h : KeepsMarks p s t) (k : KeepsMarks p t u) : KeepsMarks p s u :=
  ⟨k.temp.trans h.temp, k.iq.trans h.iq, k.overdue.trans h.overdue, k.lastFail.trans h.lastFail, k.detail.trans h.detail,
    k.latched ∘ h.latched⟩

theorem KeepsMarks.ite {p : Nat} {s t u : State} {c : Prop} [Decidable c] (h : KeepsMarks p s t) (k : KeepsMarks p s u) :
    KeepsMarks p s (if c then t else u) := by
  split
  · exact h
  · exact k

/-- The fields of a deferral's marks. -/
def markFields (p : Nat) : List Field :=
  [F.FE.CAL_STATUS_DEFER_TEMP p, F.FE.CAL_STATUS_DEFER_IQ p, F.FE.CAL_STATUS_OVERDUE p, F.FE.CAL_STATUS_LAST_FAIL p,
    F.HEAD.TEST_STATUS_DETAIL (fePage p), F.HEAD.EVT_LATCH (fePage p)]

theorem keepsMarks_of_fields {p : Nat} {s u : State} (h : ∀ f ∈ markFields p, rd f u = rd f s) : KeepsMarks p s u := by
  unfold markFields at h
  simp only [List.forall_mem_cons] at h
  obtain ⟨temp, iq, overdue, lastFail, detail, latch, -⟩ := h
  exact ⟨temp, iq, overdue, lastFail, detail, fun set => by rw [eventLatched, latch]; exact set⟩

theorem mark_keys (pn : Fin 4) : ∀ f ∈ markFields pn, followKey f.key = false := by
  revert pn
  decide

theorem Within.keepsMarks {P : List Scope} {S : List Part} {s t : State} (h : Within P S s t) {pn : Fin 4}
    (out : ∀ f ∈ markFields pn, inScopes P f.key = false) : KeepsMarks pn s t :=
  keepsMarks_of_fields fun f mem => h.regs f (mark_keys pn f mem) (out f mem)

theorem KeepsMarks.follows {pn : Fin 4} {s t u : State} (h : KeepsMarks pn s t) (k : Follows t u) : KeepsMarks pn s u :=
  h.trans (keepsMarks_of_fields fun f mem => k.regs f (mark_keys pn f mem))

/-- A write at another place than those of the marks leaves them. -/
theorem KeepsMarks.wr {p : Nat} {s t : State} (h : KeepsMarks p s t) {f : Field} (v : Nat)
    (apart : (markFields 0).all (fun g => !(g.off % 16384 == f.off % 16384 && g.lo % 32 == f.lo % 32)) = true) :
    KeepsMarks p s (Machine.wr f v t) := by
  unfold markFields at apart
  simp only [List.all_cons, Bool.and_eq_true, Bool.not_eq_true'] at apart
  obtain ⟨temp, iq, overdue, lastFail, detail, latch, -⟩ := apart
  refine h.trans ⟨rd_wr_apart v t temp, rd_wr_apart v t iq, rd_wr_apart v t overdue, rd_wr_apart v t lastFail,
    rd_wr_apart v t detail, fun set => ?_⟩
  rw [eventLatched, show rd (F.HEAD.EVT_LATCH (fePage p)) (Machine.wr f v t) = _ from rd_wr_apart v t latch]
  exact set

/-- An event latched on a front end's page leaves the marks. -/
theorem KeepsMarks.latch {p : Nat} {s t : State} (h : KeepsMarks p s t) (k bit : Nat) :
    KeepsMarks p s (Machine.latch (fePage k) bit t) := by
  have apart : ∀ {f : Field}, (f.off % 16384 == 0x6C && f.lo % 32 == 0) = false →
      (f.off % 16384 == 0x14 && f.lo % 32 == 0) = false → rd f (Machine.latch (fePage k) bit t) = rd f t :=
    fun count own => rd_latch_ne _ _ bit t (key_ne_of_place count) (key_ne_of_place own)
  refine h.trans ⟨apart rfl rfl, apart rfl rfl, apart rfl rfl, apart rfl rfl, apart rfl rfl, fun set => ?_⟩
  rw [eventLatched] at set ⊢
  by_cases same : fePage k = fePage p
  · rw [same, rd_latch_same, Nat.testBit_mod_two_pow, Nat.testBit_or, set]
    rfl
  · rw [rd_latch_ne _ _ bit t (key_ne_of_place rfl) fun key => same ?_]
    · exact set
    · unfold fePage at key ⊢
      have low := Nat.mod_lt k (by decide : 0 < 4)
      have low' := Nat.mod_lt p (by decide : 0 < 4)
      generalize k % 4 = a at key low ⊢
      generalize p % 4 = b at key low' ⊢
      exact (by decide : ∀ a < 4, ∀ b < 4, (F.HEAD.EVT_LATCH (8 + b)).key = (F.HEAD.EVT_LATCH (8 + a)).key → 8 + a = 8 + b)
        a low b low' key

/-! ### The work after a command -/

/-- The registers that the work after a command may write beside those of reliefs. -/
def besideScopes : List Scope :=
  [.page 0x41, .word 0x4C 0x014, .word 0x4C 0x044, .word 0x4C 0x048, .word 0x4C 0x04C, .word 0x4C 0x050, .page 0x29,
    .page 0x24, .page 0x25, .page 0x26, .page 0x27, .word 0x19 0x0A4, .word 0x19 0x0A8, .word 0x19 0x0AC, .word 0x19 0x0B0,
    .word 0x19 0x0B4, .word 0x19 0x0B8, .word 0x20 0x0D0, .word 0x20 0x0D4, .word 0x20 0x0D8, .word 0x20 0x0DC, .page 0x1B,
    .word 0x21 0x04C, .word 0x21 0x050, .word 0x0C 0x014, .word 0x0C 0x04C, .page 0x31, .page 0x10, .page 0x11,
    .word 0x08 0x04C, .word 0x08 0x05C, .word 0x09 0x04C, .word 0x09 0x05C, .word 0x0A 0x04C, .word 0x0A 0x05C,
    .word 0x0B 0x04C, .word 0x0B 0x05C, .word 0x05 0x014, .word 0x05 0x06C, .word 0x48 0x084, .word 0x48 0x088]

/-- The parts that the work after a command may change beside the reliefs. -/
def besideParts : List Part :=
  [.ddr, .rings, .notices, .frames, .campaigns, .frameNumbers, .duty, .ledger, .nodes, .fes, .lanes, .poolTest, .fw,
    .rope, .scheds, .engines]

theorem mark_beside (pn : Fin 4) : ∀ f ∈ markFields pn, inScopes besideScopes f.key = false := by
  revert pn
  decide

/-- What goes on in the radio before FE3 takes up a relief. -/
def beforeRelief (s : State) : State :=
  laneStep ((List.range 4).foldl (fun s p => unrelievedStep p (retuneStep p s)) (sweepFrames (followDissem s)))

/-- What goes on after FE3 has taken up a relief. -/
def afterRelief (s : State) : State := fcryptoStep (poolStep (payDebt (rollStep (bankStep s))))

theorem airWork_stages (s : State) : airWork s = if quiet s then s else afterRelief (serveRelief (beforeRelief s)) := rfl

theorem frame_beforeRelief (s : State) : Within besideScopes besideParts s (beforeRelief s) := by
  have swept : Within besideScopes besideParts s (sweepFrames (followDissem s)) :=
    ((Within.refl _ _ s).then (frame_followDissem s) rfl rfl).then (frame_sweepFrames _) rfl rfl
  refine Within.then (Within.foldl swept fun t p mem kept => ?_) (frame_laneStep _) rfl rfl
  have retuned : Within besideScopes besideParts t (retuneStep p t) := (frame_retuneStep p t).mono (by clear * - mem; revert p; decide) rfl
  have started : Within besideScopes besideParts (retuneStep p t) (unrelievedStep p (retuneStep p t)) :=
    (frame_unrelievedStep p _).mono (by clear * - mem; revert p; decide) rfl
  exact (kept.trans retuned).trans started

theorem frame_afterRelief (s : State) : Within besideScopes besideParts s (afterRelief s) :=
  (((((Within.refl _ _ s).then (frame_bankStep s) rfl rfl).then (frame_rollStep _) rfl rfl).then (frame_payDebt _) rfl rfl).then
    (frame_poolStep _) rfl rfl).then (frame_fcryptoStep _) rfl rfl

/-- A relief that begins leaves the marks of every deferral. -/
theorem startRelief_keepsMarks (pn : Fin 4) (r : Relief) (s : State) : KeepsMarks pn s (startRelief r s) := by
  have started : ∀ t, KeepsMarks pn t (startCals 3 .relief fullSet t) := fun t =>
    (frame_startCals 3 .relief fullSet t).keepsMarks (by clear * -; revert pn; decide)
  have locked : ∀ t, KeepsMarks pn t (relock 3 t) := fun t => (frame_relock 3 t).keepsMarks (by clear * -; revert pn; decide)
  unfold startRelief
  extract_lets f a b c d
  have h1 : KeepsMarks pn s b :=
    ((((Within.refl [] [.fes, .relief] s).then (frame_modFe _ _ s) rfl rfl).set_relief (by decide))).keepsMarks
      (by clear * -; revert pn; decide)
  have h2 : KeepsMarks pn s c := (h1.wr 4 rfl).latch 3 3
  have h3 : KeepsMarks pn s d := .ite (.ite h2 (.ite ((h2.wr _ rfl).latch r.k 29) (h2.wr _ rfl))) (.ite (h2.wr _ rfl) h2)
  exact .ite (h3.trans (locked d)) (h3.trans (started d))

theorem serveRelief_keepsMarks (pn : Fin 4) (s : State) : KeepsMarks pn s (serveRelief s) := by
  unfold serveRelief
  split
  · exact .refl pn s
  · refine .ite (.refl pn s) ?_
    extract_lets t
    have taken : KeepsMarks pn s t :=
      ((Within.refl [] [.relief] s).set_reliefQueue (by decide)).keepsMarks (by clear * -; revert pn; decide)
    exact .ite (taken.trans ((frame_startCals 3 _ _ t).keepsMarks (by clear * -; revert pn; decide)))
      (taken.trans (startRelief_keepsMarks pn _ t))

theorem airWork_keepsMarks (pn : Fin 4) (s : State) : KeepsMarks pn s (airWork s) := by
  rw [airWork_stages]
  exact .ite (.refl pn s) ((((frame_beforeRelief s).keepsMarks (mark_beside pn)).trans (serveRelief_keepsMarks pn _)).trans
    ((frame_afterRelief _).keepsMarks (mark_beside pn)))

/-- The marks of a deferral outlive the work after a command. -/
theorem settleWork_keepsMarks (pn : Fin 4) (old s : State) : KeepsMarks pn s (settleWork old s) :=
  ((airWork_keepsMarks pn s).trans ((frame_storeWork old _).keepsMarks (by clear * -; revert pn; decide))).follows (follows_showWork old _)

/-! ### Needs that wait while FE3 is not free -/

/-- Only needs of relief wait, and FE3 is not free for them. -/
structure OnlyReliefs (s : State) : Prop where
  retune  : ∀ p ∈ List.range 4, isSet (F.FE.RF_STATE_RETUNE_PENDING p) s = false
  waiting : ∀ p ∈ List.range 4, (fe p s).waiting = []
  lanes   : lanesWaiting s = []
  free    : fe3Free s = false

theorem foldl_fixed {α : Type} {g : State → α → State} {l : List α} {s : State} (h : ∀ x ∈ l, g s x = s) :
    l.foldl g s = s := by
  induction l with
  | nil => rfl
  | cons x r ih =>
    rw [List.foldl_cons, h x List.mem_cons_self]
    exact ih fun y mem => h y (List.mem_cons_of_mem _ mem)

/-- Dissemination and ended frames leave what waits for the front ends, and whether FE3 is free. -/
theorem OnlyReliefs.swept {s : State} (h : OnlyReliefs s) : OnlyReliefs (sweepFrames (followDissem s)) := by
  obtain ⟨followed, cals⟩ := followDissem_disseminates s
  have frame : Within (dissemScopes ++ [.page 0x41, .word 0x4C 0x014, .word 0x4C 0x044, .word 0x4C 0x048, .word 0x4C 0x04C,
      .word 0x4C 0x050]) (dissemParts ++ [.notices, .rings]) s (sweepFrames (followDissem s)) :=
    (followed.mono (List.all_eq_true.mp (by decide)) (by decide)).then (frame_sweepFrames _) rfl rfl
  have kept := cals.then (frame_sweepFrames (followDissem s)) (by decide)
  generalize sweepFrames (followDissem s) = t at frame kept
  have lanes : t.lanes = s.lanes := frame.parts .lanes (by decide)
  obtain ⟨relief, -⟩ := frame.parts .relief (by decide)
  obtain ⟨todo, -⟩ := kept 3
  have page : rd (F.HEAD.STATE_STATE 0x0B) t = _ := frame.regs _ (by decide) (by decide)
  have mode : rd (F.FE.ROLE_MODE 3) t = _ := frame.regs _ (by decide) (by decide)
  have state : rd (F.FE.RF_STATE_STATE 3) t = _ := frame.regs _ (by decide) (by decide)
  refine ⟨fun p mem => ?_, fun p mem => (kept p).2.trans (h.waiting p mem), ?_, ?_⟩
  · rw [← h.retune p mem, isSet, isSet, frame.regs _
      ((by decide : ∀ p ∈ List.range 4, followKey (F.FE.RF_STATE_RETUNE_PENDING p).key = false) p mem) (by revert p; decide)]
  · rw [← h.lanes, lanesWaiting, lanesWaiting, lanes]
  · rw [← h.free]
    unfold fe3Free pageState role rf
    rw [page, mode, state, relief, todo]

theorem OnlyReliefs.beforeRelief {s : State} (h : OnlyReliefs s) :
    Machine.beforeRelief s = sweepFrames (followDissem s) := by
  have swept := h.swept
  unfold Machine.beforeRelief
  rw [foldl_fixed fun p mem => ?_]
  · unfold laneStep
    rw [swept.lanes]
    rfl
  · have still : retuneStep p (sweepFrames (followDissem s)) = sweepFrames (followDissem s) :=
      if_neg (by rw [swept.retune p mem]; simp)
    rw [still, unrelievedStep, swept.waiting p mem]

/-- While FE3 is not free the needs wait on. -/
theorem serveRelief_busy {s : State} (busy : fe3Free s = false) : serveRelief s = s := by
  unfold serveRelief
  split
  · rfl
  · exact if_pos (by rw [busy]; rfl)

/-- Where only needs of relief wait and FE3 is not free, the work after a command leaves them, and all reliefs. -/
theorem OnlyReliefs.settled {s : State} (h : OnlyReliefs s) (old : State) :
    Within (besideScopes ++ [.page 0x20]) besideParts s (settleWork old s) := by
  have air : Within besideScopes besideParts s (airWork s) := by
    rw [airWork_stages]
    refine .ite (.refl _ _ s) ?_
    have still : serveRelief (Machine.beforeRelief s) = Machine.beforeRelief s := by
      rw [h.beforeRelief]
      exact serveRelief_busy h.swept.free
    rw [still]
    exact (frame_beforeRelief s).trans (frame_afterRelief _)
  have stored := (air.mono (P' := besideScopes ++ [.page 0x20]) (S' := besideParts) (List.all_eq_true.mp (by decide)) (by decide)).then
    (frame_storeWork old _) rfl rfl
  exact stored.follows (follows_showWork old _)

end Sys2Proof.Machine
end

section
/-! PROOF. Calibrations that are triggered, deferred, passed, retried and requested (R84, R112 to R116):
`Obligations.FrontEndCalibration`. -/

namespace Sys2Proof.Machine

/-- A command that the waiting work follows gives what holds of every state that agrees with its effect up to the frame of that
work and has the same marks of a deferral. -/
theorem gives_marks {c : Instr} {s u : State} {pn : Fin 4} {P : State → Prop} (run : exec c s = done s (settleWork s u))
    (k : ∀ t, Within airScopes airParts u t → KeepsMarks pn u t → P t) : Gives c s P :=
  gives_done run (k _ (frame_settleWork s u).pending
    ((settleWork_keepsMarks pn s u).trans (keepsMarks_of_fields fun _ _ => rd_pending _ _ _)))

/-! ### The triggers -/

/-- What a trigger may write while it defers. -/
def deferScopes (p : Nat) : List Scope :=
  [.page 0x10, .word 0x0B 0x05C, .word 0x0B 0x04C, .word 0x0B 0x014, .word 0x0B 0x050, .word (fePage p)
    0x078, .word (fePage p) 0x05C, .word (fePage p) 0x04C, .page 0x24, .page 0x25, .page 0x26, .page 0x27]

theorem autoCal_defers {p : Nat} {why : CalWhy} {s : State} (run : pageState (fePage p) s = RUN)
    (awake : inBivouac s = false) (busy : fe3Free s = false) :
    (why = .temperature → rd (F.FE.CAL_STATUS_DEFER_TEMP p) (autoCal p why s) = 1) ∧
    (why ≠ .temperature → rd (F.FE.CAL_STATUS_DEFER_IQ p) (autoCal p why s) = 1) := by
  unfold autoCal
  extract_lets cals deferred
  rw [if_neg (not_not_intro run), if_neg (by rw [awake]; simp), if_neg (by rw [busy]; decide)]
  refine ⟨fun is => ?_, fun is => ?_⟩
  · change rd _ (if why = .temperature then wr (F.FE.CAL_STATUS_DEFER_TEMP p) 1 s else _) = 1
    rw [if_pos is]
    exact rd_wr_same _ _ _
  · change rd _ (if why = .temperature then _ else wr (F.FE.CAL_STATUS_DEFER_IQ p) 1 s) = 1
    rw [if_neg is]
    exact rd_wr_same _ _ _

theorem tempTrigger_defers {p : Nat} {s : State} (far : 80 < (rdInt (F.PWR.TEMP_VALUE 0) s - rdInt (F.FE.CAL_TEMP p) s).natAbs)
    (run : pageState (fePage p) s = RUN) (awake : inBivouac s = false) (busy : fe3Free s = false) :
    rd (F.FE.CAL_STATUS_DEFER_TEMP p) (tempTrigger p s) ≠ 0 := by
  unfold tempTrigger
  rw [if_neg (by omega)]
  split
  case isTrue set => simpa [isSet] using set
  case isFalse =>
    rw [(autoCal_defers run awake busy).1 rfl]
    decide

theorem iqTrigger_defers {p : Nat} {s : State} (run : pageState (fePage p) s = RUN)
    (awake : inBivouac s = false) (busy : fe3Free s = false) : rd (F.FE.CAL_STATUS_DEFER_IQ p) (iqTrigger p s) ≠ 0 := by
  unfold iqTrigger
  split
  case isTrue set => simpa [isSet] using set
  case isFalse =>
    rw [(autoCal_defers run awake busy).2 (by decide)]
    decide

/-! ### A calibration that passes or fails once -/

/-- What a calibration that ends may write. -/
def calScopes (p : Nat) : List Scope :=
  [.page (fePage p), .page 0x10, .page 0x24, .page 0x25, .page 0x26, .page 0x27, .word 0x08 0x014,
    .word 0x08 0x030, .word 0x08 0x078, .word 0x09 0x014, .word 0x09 0x030, .word 0x09 0x078, .word 0x0A 0x014,
    .word 0x0A 0x030, .word 0x0A 0x078, .word 0x0B 0x030, .word 0x0B 0x078]

theorem calDone_dc {p v w : Nat} {s : State} (cal : rf p s = RF_CAL) (head : (fe p s).todo.head? = some .dc) (low : v ≤ 16)
    (low' : w ≤ 16) : calDone p v w s = calPass p (storeCal p .dc v w s) := by
  unfold calDone
  extract_lets f
  rw [show f.todo.head? = some .dc from head]
  dsimp only
  rw [if_neg (not_not_intro cal)]
  have passes : calVerdict p .dc v w s = none := if_pos ⟨low, low'⟩
  rw [passes]

theorem calDone_iq {p v w : Nat} {s : State} (cal : rf p s = RF_CAL) (head : (fe p s).todo.head? = some .iq) (low : v < 160)
    (first : (fe p s).second = false) :
    calDone p v w s = setRf p RF_CAL (modFe p (fun f => { f with second := true }) s) := by
  unfold calDone
  extract_lets f
  rw [show f.todo.head? = some .iq from head]
  dsimp only
  rw [if_neg (not_not_intro cal)]
  have fails : calVerdict p .iq v w s = some 5 := if_neg (not_le.mpr low)
  rw [fails]
  exact if_neg (by rw [show f.second = false from first]; decide)

theorem gives_dc {fn : Fin 4} {v w : Nat} {s : State} (cal : rf fn.val s = RF_CAL)
    (head : (fe fn.val s).todo.head? = some .dc) (low : v ≤ 16) (low' : w ≤ 16) (calm : Calm s = true) :
    Gives (.calibrationDone fn v w) s (fun t =>
      (fe fn.val t).todo = (fe fn.val s).todo.drop 1 ∧ rd (F.FE.CAL_DC_RESID_I fn.val) t = v ∧
      rd (F.FE.CAL_DC_RESID_Q fn.val) t = w ∧
      Within (calScopes fn.val ++ airScopes) ([.fes, .relief, .scheds, .duty, .frames] ++ airParts) s t) := by
  have run : exec (.calibrationDone fn v w) s = done s (settleWork s (calPass fn.val (storeCal fn.val .dc v w s))) := by
    rw [← calDone_dc cal head low low']
    rfl
  obtain ⟨k, r, todo⟩ : ∃ k r, (fe fn.val s).todo = k :: r := by
    cases h : (fe fn.val s).todo with
    | nil => rw [h] at head; exact absurd head (by decide)
    | cons k r => exact ⟨k, r, rfl⟩
  have stored := frame_storeCal fn.val .dc v w s
  have rests : KeepsRest s (storeCal fn.val .dc v w s) := (((KeepsSet.refl s).wr w rfl).wr v rfl).rest
  have left : (fe fn.val (storeCal fn.val .dc v w s)).todo = k :: r := todo
  have resI : rd (F.FE.CAL_DC_RESID_I fn.val) (storeCal fn.val .dc v w s) = v :=
    (rd_wr_same _ _ _).trans (Nat.mod_eq_of_lt (show v < 2 ^ 8 by omega))
  have resQ : rd (F.FE.CAL_DC_RESID_Q fn.val) (storeCal fn.val .dc v w s) = w :=
    (rd_wr_apart _ _ rfl).trans ((rd_wr_same _ _ _).trans (Nat.mod_eq_of_lt (show w < 2 ^ 8 by omega)))
  generalize storeCal fn.val .dc v w s = x at run stored rests left resI resQ
  have passed := frame_calPass fn.val x
  obtain ⟨still, rest⟩ := calPass_rests left
  generalize calPass fn.val x = u at run passed still rest
  have frame : Within (calScopes fn.val ++ airScopes) ([.fes, .relief, .scheds, .duty, .frames] ++ airParts) s u :=
    (stored.mono (by clear * -; revert fn; decide) (by decide)).trans
      (passed.mono (by clear * -; revert fn; decide) (by decide))
  have both := stored.append passed
  have quiet := both.calmRest (by decide) (by clear * -; revert fn; decide) (rests.trans still) calm
  refine gives_calm run quiet fun t ht => ⟨?_, ?_, ?_, frame.then ht rfl rfl⟩
  · have fes : t.fes = u.fes := ht.parts .fes List.not_mem_nil
    rw [todo, List.drop_one, List.tail_cons, ← rest, fe, fe, fes]
  · rw [ht.regs _ (by clear * -; revert fn; decide) rfl, passed.regs _ (by clear * -; revert fn; decide)
      (by clear * -; revert fn; decide), resI]
  · rw [ht.regs _ (by clear * -; revert fn; decide) rfl, passed.regs _ (by clear * -; revert fn; decide)
      (by clear * -; revert fn; decide), resQ]

/-- A front end that enters CAL shows it. -/
theorem rf_setRf_cal (fn : Fin 4) (s : State) : rf fn.val (setRf fn.val RF_CAL s) = RF_CAL := by
  have entering : setRf fn.val RF_CAL s = enterRf fn.val RF_CAL s :=
    if_neg (by rw [ltReturns, show (RF_CAL == RF_STANDBY || RF_CAL == RF_RX) = false from rfl, Bool.and_false]; decide)
  rw [entering]
  unfold enterRf
  extract_lets e dropped on same entered
  unfold rf
  rw [(frame_holdGain _).regs _ (by clear * -; revert fn; decide) (by clear * -; revert fn; decide), showLines,
    rd_wr_apart _ _ rfl, rd_wr_same]
  rfl

theorem gives_second {fn : Fin 4} {v w : Nat} {s : State} (cal : rf fn.val s = RF_CAL)
    (head : (fe fn.val s).todo.head? = some .iq) (low : v < 160) (first : (fe fn.val s).second = false)
    (calm : Calm s = true) : Gives (.calibrationDone fn v w) s (fun t =>
      (fe fn.val t).todo = (fe fn.val s).todo ∧ (fe fn.val t).second = true ∧ rf fn.val t = RF_CAL ∧
      Within (calScopes fn.val ++ airScopes) ([.fes, .relief, .scheds, .duty, .frames] ++ airParts) s t) := by
  have run : exec (.calibrationDone fn v w) s =
      done s (settleWork s (setRf fn.val RF_CAL (modFe fn.val (fun f => { f with second := true }) s))) := by
    rw [← calDone_iq (w := w) cal head low first]
    rfl
  have marked : fe fn.val (modFe fn.val (fun f => { f with second := true }) s) = { fe fn.val s with second := true } := by
    rw [fe_modFe, if_pos rfl]
  have rests : KeepsRest s (modFe fn.val (fun f => { f with second := true }) s) := modFe_keepsRest s
  have touched : Within [] [.fes] s (modFe fn.val (fun f => { f with second := true }) s) := frame_modFe _ _ s
  generalize modFe fn.val (fun f => { f with second := true }) s = x at run marked rests touched
  have entered := frame_setRf fn.val RF_CAL x
  obtain ⟨still, set⟩ := (KeepsSet.refl x).setRf fn.val RF_CAL
  have shown := rf_setRf_cal fn x
  generalize setRf fn.val RF_CAL x = u at run entered still set shown
  have frame : Within (calScopes fn.val ++ airScopes) ([.fes, .relief, .scheds, .duty, .frames] ++ airParts) s u :=
    (touched.mono (fun x mem => absurd mem List.not_mem_nil) (by decide)).trans
      (entered.mono (by clear * -; revert fn; decide) (by decide))
  have quiet := (touched.append entered).calmRest (by decide) (by clear * -; revert fn; decide) (rests.trans still) calm
  obtain ⟨todo, second⟩ := set fn.val
  refine gives_calm run quiet fun t ht => ?_
  have same : fe fn.val t = fe fn.val u := by
    have fes : t.fes = u.fes := ht.parts .fes List.not_mem_nil
    rw [fe, fe, fes]
  rw [same]
  refine ⟨todo.trans (by rw [marked]), second.trans (by rw [marked]), ?_, frame.then ht rfl rfl⟩
  rw [rf, ht.regs _ (by clear * -; revert fn; decide) rfl]
  exact shown

/-! ### Deferrals that last too long, and a failed calibration that is tried again -/

/-- What a deferral that has lasted too long may write. -/
def overdueScopes (p : Nat) : List Scope :=
  [.word (fePage p) 0x078, .word (fePage p) 0x014, .word (fePage p) 0x05C, .word (fePage p) 0x04C, .page 0x10, .page 0x24,
    .page 0x25, .page 0x26, .page 0x27, .word (fePage p) 0x030]

/-- A deferral that has lasted too long is shown with its code. -/
structure Overdue (p : Nat) (u : State) : Prop where
  overdue  : rd (F.FE.CAL_STATUS_OVERDUE p) u = 1
  lastFail : rd (F.FE.CAL_STATUS_LAST_FAIL p) u = 9
  detail   : rd (F.HEAD.TEST_STATUS_DETAIL (fePage p)) u = 9
  latched  : eventLatched (fePage p) 0 u

theorem Overdue.kept {p : Nat} {s u : State} (h : Overdue p s) (k : KeepsMarks p s u) : Overdue p u :=
  ⟨k.overdue.trans h.overdue, k.lastFail.trans h.lastFail, k.detail.trans h.detail, k.latched h.latched⟩

theorem calOverdue_shows {fn : Fin 4} {s : State}
    (deferred : rd (F.FE.CAL_STATUS_DEFER_TEMP fn.val) s ≠ 0 ∨ rd (F.FE.CAL_STATUS_DEFER_IQ fn.val) s ≠ 0)
    (fresh : rd (F.FE.CAL_STATUS_OVERDUE fn.val) s = 0) : Overdue fn.val (calOverdue fn.val s) := by
  unfold calOverdue
  extract_lets dt dq failed detailed shown dropped
  rw [if_pos (by rw [isSet, fresh]; simpa [dt, dq, isSet] using deferred)]
  have now : Overdue fn.val shown := {
    overdue := by
      rw [show rd _ shown = _ from rd_latch_ne _ _ _ _ (key_ne_of_place rfl) (key_ne_of_place rfl)]
      exact (rd_wr_apart _ _ rfl).trans ((rd_wr_apart _ _ rfl).trans (rd_wr_same _ _ _))
    lastFail := by
      rw [show rd _ shown = _ from rd_latch_ne _ _ _ _ (key_ne_of_place rfl) (key_ne_of_place rfl)]
      exact (rd_wr_apart _ _ rfl).trans (rd_wr_same _ _ _)
    detail := by
      rw [show rd _ shown = _ from rd_latch_ne _ _ _ _ (key_ne_of_place rfl) (key_ne_of_place rfl)]
      exact rd_wr_same _ _ _
    latched := latch_sets _ _ _ (by decide) }
  split
  · have fewer : Within [] [.relief] shown dropped := (Within.refl [] [.relief] shown).set_reliefQueue (by decide)
    have filtered : KeepsMarks fn.val shown dropped := fewer.keepsMarks (by clear * -; revert fn; decide)
    exact (now.kept filtered).kept ((frame_calUnrelieved fn.val _ _).keepsMarks (pn := fn) (by clear * -; revert fn; decide))
  · exact now

theorem gives_overdue {fn : Fin 4} {s : State}
    (deferred : rd (F.FE.CAL_STATUS_DEFER_TEMP fn.val) s ≠ 0 ∨ rd (F.FE.CAL_STATUS_DEFER_IQ fn.val) s ≠ 0)
    (fresh : rd (F.FE.CAL_STATUS_OVERDUE fn.val) s = 0) : Gives (.calibrationOverdue fn) s (fun t =>
      rd (F.FE.CAL_STATUS_OVERDUE fn.val) t = 1 ∧ rd (F.FE.CAL_STATUS_LAST_FAIL fn.val) t = 9 ∧
      rd (F.HEAD.TEST_STATUS_DETAIL (fePage fn.val)) t = 9 ∧ eventLatched (fePage fn.val) 0 t ∧
      Within (overdueScopes fn.val ++ airScopes) ([.relief, .fes, .scheds, .duty, .frames] ++ airParts) s t) := by
  have shown := calOverdue_shows deferred fresh
  have frame : Within (overdueScopes fn.val ++ airScopes) ([.relief, .fes, .scheds, .duty, .frames] ++ airParts) s
      (calOverdue fn.val s) := (frame_calOverdue fn.val s).mono (by clear * -; revert fn; decide) (by decide)
  refine gives_marks (pn := fn) (u := calOverdue fn.val s) rfl fun t ht marks => ?_
  obtain ⟨overdue, lastFail, detail, latched⟩ := shown.kept marks
  exact ⟨overdue, lastFail, detail, latched, frame.then ht (by clear * -; revert fn; decide) rfl⟩

/-- In a calm state nothing but a need of relief could wait. -/
theorem onlyReliefs_of_calm {s : State} (calm : Calm s = true) (busy : fe3Free s = false) : OnlyReliefs s := by
  unfold Calm quiet at calm
  simp only [Bool.and_eq_true, List.isEmpty_iff, List.all_eq_true, Bool.not_eq_true'] at calm
  obtain ⟨⟨⟨⟨-, lanes⟩, fes⟩, -⟩, -⟩ := calm
  exact ⟨fun p mem => (fes p mem).1, fun p mem => (fes p mem).2, lanes, busy⟩

theorem OnlyReliefs.join {s : State} (h : OnlyReliefs s) (r : Relief) :
    OnlyReliefs { s with reliefQueue := s.reliefQueue ++ [r] } := ⟨h.retune, h.waiting, h.lanes, h.free⟩

/-- A need that arises while FE3 is not free joins the queue. -/
theorem needRelief_joins {s : State} (busy : fe3Free s = false) (r : Relief) :
    needRelief r s = { s with reliefQueue := s.reliefQueue ++ [r] } := serveRelief_busy busy

theorem gives_calRetry {fn : Fin 4} {s : State} (failed : (fe fn.val s).failed ≠ []) (run : pageState (fePage fn.val) s = RUN)
    (other : fn.val ≠ 3) (busy : fe3Free s = false) (awake : inBivouac s = false)
    (fresh : s.reliefQueue.any (fun r => r.k == fn.val && r.why == .retry) = false) (calm : Calm s = true) :
    Gives (.calibrationRetryTimer fn) s (fun t =>
      t.reliefQueue = s.reliefQueue ++ [{ k := fn.val, cals := (fe fn.val s).failed, why := .retry }] ∧
      Within ([.page 0x10, .word 0x0B 0x05C, .word 0x0B 0x04C, .word 0x0B 0x014, .word 0x0B 0x050] ++ airScopes)
        ([.fes, .relief] ++ airParts) s t) := by
  have own : calRetry fn.val s =
      { s with reliefQueue := s.reliefQueue ++ [{ k := fn.val, cals := (fe fn.val s).failed, why := .retry }] } := by
    unfold calRetry
    extract_lets f
    rw [if_neg (by simpa [f] using ⟨failed, run⟩), if_neg other, if_neg (by rw [awake]; decide), if_neg (by rw [fresh]; decide)]
    exact needRelief_joins busy _
  have waits := (onlyReliefs_of_calm calm busy).join { k := fn.val, cals := (fe fn.val s).failed, why := .retry }
  have joined : Within [] [.relief] s
      { s with reliefQueue := s.reliefQueue ++ [{ k := fn.val, cals := (fe fn.val s).failed, why := .retry }] } :=
    (Within.refl _ _ s).set_reliefQueue (by decide)
  refine gives_done (congrArg (fun u => done s (settleWork s u)) own) ⟨?_, ?_⟩
  · obtain ⟨-, queue⟩ := (waits.settled s).parts .relief (by decide)
    exact queue
  · refine Within.then (joined.mono (fun x mem => absurd mem List.not_mem_nil) (by decide)) (frame_settleWork s _).pending
      (by decide) (by decide)

/-! ### Calibrations that software asks for -/

/-- What the result of a request shows as it begins (R84). -/
def requestResult (p : Nat) (s : State) : Nat :=
  if p ≠ 3 ∧ pageState (fePage p) s = RUN then T_WAITING else if p = 3 ∧ pageState (fePage p) s = STOPPED then T_RUNNING
  else T_BAD_STATE

/-- What a request may write. -/
def requestScopes (p : Nat) : List Scope :=
  [.word (fePage p) 0x020, .word (fePage p) 0x024, .word (fePage p) 0x028, .word (fePage p) 0x014, .word (fePage p) 0x078,
    .page 0x10, .word 0x0B 0x05C, .word 0x0B 0x04C, .word 0x0B 0x078, .word 0x0B 0x014, .word 0x0B 0x050]

/-- The set that a request starts on FE3, with its result shown. -/
def requestStarted (cals : List CalKind) (s : State) : State :=
  startCals 3 .request cals (wr (F.FE.CAL_STATUS_RESULT 3) T_RUNNING s)

theorem requestStarted_shows (cals : List CalKind) (s : State) : KeepsRest s (requestStarted cals s) ∧
    rd (F.FE.CAL_STATUS_RESULT 3) (requestStarted cals s) = T_RUNNING ∧
    Within [.word 0x0B 0x078, .page 0x10, .word 0x0B 0x05C, .word 0x0B 0x04C] [.lanes, .fes] s (requestStarted cals s) := by
  have shown : Within [.word 0x0B 0x078] [] s (wr (F.FE.CAL_STATUS_RESULT 3) T_RUNNING s) :=
    (Within.refl _ _ s).wr (by decide)
  have rests := ((KeepsSet.refl s).wr (f := F.FE.CAL_STATUS_RESULT 3) T_RUNNING rfl).rest
  have started := frame_startCals 3 .request cals (wr (F.FE.CAL_STATUS_RESULT 3) T_RUNNING s)
  refine ⟨?_, ?_, shown.append started⟩
  · exact (rests.trans (modFe_keepsRest _)).trans ((KeepsSet.refl _).nextCal 3).rest
  · exact (started.regs _ (by decide) (by decide)).trans (rd_wr_same _ _ _)

theorem calReq_result {p data : Nat} {s : State} (asked : requestedCals data ≠ []) (closed : feRequestOpen p s = false)
    (busy : fe3Free s = false) :
    calReq p data s = if p ≠ 3 ∧ pageState (fePage p) s = RUN then
        needRelief { k := p, cals := requestedCals data, why := .request } (wr (F.FE.CAL_STATUS_RESULT p) T_WAITING s)
      else if p = 3 ∧ pageState (fePage p) s = STOPPED then requestStarted (requestedCals data) s
      else wr (F.FE.CAL_STATUS_RESULT p) T_BAD_STATE s := by
  unfold calReq
  extract_lets cals
  rw [if_neg (by simpa [cals] using asked), if_neg (by rw [closed]; decide)]
  by_cases three : p = 3
  · subst three
    simp [busy, fePage, requestStarted, cals]
  · by_cases run : pageState (fePage p) s = RUN <;> simp [three, run, cals]

theorem request_calm {p v : Nat} {s : State} (calm : Calm s = true) : Calm (wr (F.FE.CAL_STATUS_RESULT p) v s) = true := by
  have low := Nat.mod_lt p (by decide : 0 < 4)
  have frame : Within [.word (fePage p) 0x078] [] s (wr (F.FE.CAL_STATUS_RESULT p) v s) :=
    (Within.refl _ _ s).wr (inScopes_of (by simp [Scope.among, F.FE.CAL_STATUS_RESULT, fePage]))
  refine frame.calmRest (by decide) ?_ ((KeepsSet.refl s).wr v rfl).rest calm
  unfold fePage
  generalize p % 4 = q at low
  revert q
  decide

theorem request_busy {p v : Nat} {s : State} (busy : fe3Free s = false) :
    fe3Free (wr (F.FE.CAL_STATUS_RESULT p) v s) = false := by
  rw [← busy, fe3Free, fe3Free, pageState, pageState, role, role, rf, rf, rd_wr_apart _ _ rfl, rd_wr_apart _ _ rfl,
    rd_wr_apart _ _ rfl]
  rfl

theorem gives_calRequest {c : Instr} {fn : Fin 4} {d : Word} {s : State}
    (run : exec c s = done s (settleWork s (regWrite (0x08 + fn.val) 0x074 .bar0 d s)))
    (asked : requestedCals d.toNat ≠ []) (accepted : Accepted (0x08 + fn.val) 0x074 d.toNat s)
    (closed : feRequestOpen fn.val s = false) (busy : fe3Free s = false) (calm : Calm s = true) : Gives c s (fun t =>
      rd (F.FE.CAL_STATUS_RESULT fn.val) t = requestResult fn.val s ∧
      Within (requestScopes fn.val ++ airScopes) ([.spi, .fes, .relief] ++ airParts) s t) := by
  have word : wordCommand (0x08 + fn.val) 0x074 .bar0 d = some (calGo fn.val d.toNat) := by
    clear * -
    fin_cases fn <;> rfl
  rw [regWrite_accepted accepted word (by clear * -; revert fn; decide) (by decide) (by decide),
    show calGo fn.val d.toNat s = _ from calReq_result asked closed busy] at run
  have shown : ∀ v, Within [.word (fePage fn.val) 0x078] [] s (wr (F.FE.CAL_STATUS_RESULT fn.val) v s) := fun v =>
    (Within.refl _ _ s).wr (by clear * -; revert fn; decide)
  unfold requestResult
  split at run
  case isTrue runs =>
    rw [if_pos runs]
    rw [needRelief_joins (request_busy busy)] at run
    have waits := (onlyReliefs_of_calm (request_calm (p := fn.val) (v := T_WAITING) calm) (request_busy busy)).join
      { k := fn.val, cals := requestedCals d.toNat, why := .request }
    have value := rd_wr_same (F.FE.CAL_STATUS_RESULT fn.val) T_WAITING s
    have first := shown T_WAITING
    generalize wr (F.FE.CAL_STATUS_RESULT fn.val) T_WAITING s = x at run waits value first
    have joined : Within [] [.relief] x
        { x with reliefQueue := x.reliefQueue ++ [{ k := fn.val, cals := requestedCals d.toNat, why := .request }] } :=
      (Within.refl _ _ x).set_reliefQueue (by decide)
    generalize ({ x with reliefQueue := x.reliefQueue ++ [{ k := fn.val, cals := requestedCals d.toNat, why := .request }] } :
      State) = u at run waits joined
    have frame : Within (requestScopes fn.val ++ airScopes) ([.spi, .fes, .relief] ++ airParts) s u :=
      (first.mono (by clear * -; revert fn; decide) (by decide)).trans
        (joined.mono (fun x mem => absurd mem List.not_mem_nil) (by decide))
    refine gives_done run ⟨?_, frame.then (frame_settleWork s u).pending (by clear * -; revert fn; decide) (by decide)⟩
    rw [rd_pending, (waits.settled s).regs _ (by clear * -; revert fn; decide) (by clear * -; revert fn; decide),
      joined.regs _ (by clear * -; revert fn; decide) (by clear * -; revert fn; decide), value]
    rfl
  case isFalse idle =>
    rw [if_neg idle]
    split at run
    case isTrue idles =>
      rw [if_pos idles]
      obtain ⟨rest, value, frame⟩ := requestStarted_shows (requestedCals d.toNat) s
      obtain ⟨three, -⟩ := idles
      obtain rfl : fn = 3 := Fin.ext three
      refine gives_calm run (frame.calmRest (by decide) (by decide) rest calm) fun t ht => ⟨?_, ?_⟩
      · rw [ht.regs _ (by decide) rfl]
        exact value
      · exact (frame.mono (List.all_eq_true.mp (by decide)) (by decide)).then ht rfl rfl
    case isFalse refused =>
      rw [if_neg refused]
      refine gives_calm run (request_calm calm) fun t ht => ⟨?_, ?_⟩
      · rw [ht.regs _ (by clear * -; revert fn; decide) rfl, rd_wr_same]
        rfl
      · exact ((shown T_BAD_STATE).mono (by clear * -; revert fn; decide) (by decide)).then ht rfl rfl

/-- What a trigger gives where its calibration is deferred. -/
theorem gives_tempTrigger {fn : Fin 4} {s : State}
    (far : 80 < (rdInt (F.PWR.TEMP_VALUE 0) s - rdInt (F.FE.CAL_TEMP fn.val) s).natAbs)
    (run : pageState (fePage fn.val) s = RUN) (awake : inBivouac s = false) (busy : fe3Free s = false) :
    Gives (.calibrationTemperatureTrigger fn) s (fun t => rd (F.FE.CAL_STATUS_DEFER_TEMP fn.val) t ≠ 0 ∧
      Within (deferScopes fn.val ++ airScopes) ([.fes, .scheds, .duty, .frames, .relief] ++ airParts) s t) := by
  have frame : Within (deferScopes fn.val ++ airScopes) ([.fes, .scheds, .duty, .frames, .relief] ++ airParts) s
      (tempTrigger fn.val s) := (frame_tempTrigger fn.val s).mono (by clear * -; revert fn; decide) (by decide)
  refine gives_marks (pn := fn) (u := tempTrigger fn.val s) rfl fun t ht marks => ⟨?_, ?_⟩
  · rw [marks.temp]
    exact tempTrigger_defers far run awake busy
  · exact frame.then ht (by clear * -; revert fn; decide) rfl

theorem gives_iqTrigger {fn : Fin 4} {s : State} (run : pageState (fePage fn.val) s = RUN) (awake : inBivouac s = false)
    (busy : fe3Free s = false) :
    Gives (.calibrationIqAgeTrigger fn) s (fun t => rd (F.FE.CAL_STATUS_DEFER_IQ fn.val) t ≠ 0 ∧
      Within (deferScopes fn.val ++ airScopes) ([.fes, .scheds, .duty, .frames, .relief] ++ airParts) s t) := by
  have frame : Within (deferScopes fn.val ++ airScopes) ([.fes, .scheds, .duty, .frames, .relief] ++ airParts) s
      (iqTrigger fn.val s) := (frame_iqTrigger fn.val s).mono (by clear * -; revert fn; decide) (by decide)
  refine gives_marks (pn := fn) (u := iqTrigger fn.val s) rfl fun t ht marks => ⟨?_, ?_⟩
  · rw [marks.iq]
    exact iqTrigger_defers run awake busy
  · exact frame.then ht (by clear * -; revert fn; decide) rfl

theorem gives_near {fn : Fin 4} {s : State}
    (near : (rdInt (F.PWR.TEMP_VALUE 0) s - rdInt (F.FE.CAL_TEMP fn.val) s).natAbs ≤ 80) (calm : Calm s = true) :
    Gives (.calibrationTemperatureTrigger fn) s (fun t => rf fn.val t = rf fn.val s ∧ Within [] [] s t) := by
  have own : tempTrigger fn.val s = s := if_pos near
  refine gives_calm (Eq.trans rfl (congrArg (fun u => done s (settleWork s u)) own)) calm fun t ht => ⟨?_, ht⟩
  exact ht.regs _ (by clear * -; revert fn; decide) rfl

/-- Settles O16: the trigger of a calibration whose turn must wait leaves its mark, which the work after a command keeps; the end
of a calibration leaves nothing waiting; and a need that arises while FE3 is not free joins the queue and stays there. -/
theorem frontEndCalibration : Obligations.FrontEndCalibration := by
  unfold Obligations.FrontEndCalibration
  refine ⟨?_, ?_, ?_, ?_, ?_, ?_, ?_, ?_, ?_, ?_, ?_, ?_⟩
  · exact fun fn s far _ run awake busy => gives_tempTrigger far run awake busy
  · exact fun fn s near calm => gives_near near calm
  · exact fun fn s _ run awake busy => gives_iqTrigger run awake busy
  · exact fun fn v w s cal head low low' calm => gives_dc cal head low low' calm
  · exact fun fn v w s cal head low first calm => gives_second cal head low first calm
  · exact fun fn s failed run other busy awake fresh calm => gives_calRetry failed run other busy awake fresh calm
  · exact fun fn s deferred fresh => gives_overdue deferred fresh
  · exact fun fn s accepted closed busy calm => gives_calRequest (d := 1) rfl (by decide) accepted closed busy calm
  · exact fun fn s accepted closed busy calm => gives_calRequest (d := 2) rfl (by decide) accepted closed busy calm
  · exact fun fn s accepted closed busy calm => gives_calRequest (d := 4) rfl (by decide) accepted closed busy calm
  · exact fun fn s accepted closed busy calm => gives_calRequest (d := 8) rfl (by decide) accepted closed busy calm
  · exact fun fn s accepted closed busy calm => gives_calRequest (d := 16) rfl (by decide) accepted closed busy calm

end Sys2Proof.Machine
end

section
/-! PROOF. What keeps the memory in its canonical form: the rules for the changes of a state that write no memory, and for
those that write it. -/

namespace Sys2Proof.Machine

variable {s t u : State}

theorem Within.formed {P : List Scope} {S : List Part} (w : Within P S s t) (out : S.contains .ddr = false)
    (h : MemoryFormed s) : MemoryFormed t := by
  have kept : t.ddr = s.ddr := w.parts .ddr (by simpa using out)
  rw [MemoryFormed, kept]
  exact h

/-! ### Memory -/

theorem wf_writeByte {m : List Host.Cell} (h : Memory.wf m = true) (a : Nat) (v : Byte) :
    Memory.wf (writeByte m a v) = true := Memory.wfFrom_writeByte h (Nat.zero_le a) v

theorem wf_writeOctets {m : List Host.Cell} (h : Memory.wf m = true) (a : Nat) (l : List Byte) :
    Memory.wf (writeOctets m a l) = true := Memory.wfFrom_writeOctets h (Nat.zero_le a) l

theorem wf_foldl_writeOctets {α : Type} {l : List α} {m : List Host.Cell} {a : α → Nat} {v : α → List Byte}
    (h : Memory.wf m = true) : Memory.wf (l.foldl (fun m x => writeOctets m (a x) (v x)) m) = true := by
  induction l generalizing m with
  | nil => exact h
  | cons x r ih => exact ih (wf_writeOctets h _ _)

/-- A state whose memory is in its form, whatever the rest of it. -/
theorem MemoryFormed.set_ddr {x : List Host.Cell} (hx : Memory.wf x = true) : MemoryFormed { t with ddr := x } := hx

theorem MemoryFormed.ite {c : Prop} [Decidable c] (a : MemoryFormed t) (b : MemoryFormed u) :
    MemoryFormed (if c then t else u) := by
  split
  · exact a
  · exact b

theorem MemoryFormed.foldl {α : Type} {l : List α} {g : State → α → State} (h : MemoryFormed t)
    (hg : ∀ t x, MemoryFormed t → MemoryFormed (g t x)) : MemoryFormed (l.foldl g t) := by
  induction l generalizing t with
  | nil => exact h
  | cons x r ih => exact ih (hg t x h)

theorem MemoryFormed.viaEq {α : Type} {p : α × State} {a : α} (e : p = (a, t)) (h : MemoryFormed p.2) :
    MemoryFormed t := by
  rw [e] at h
  exact h

/-! ### Registers -/

theorem MemoryFormed.wr {f : Field} {v : Nat} (h : MemoryFormed t) : MemoryFormed (wr f v t) := h

theorem MemoryFormed.inc {f : Field} (h : MemoryFormed t) : MemoryFormed (inc f t) := h

theorem MemoryFormed.incBy {f : Field} {n : Nat} (h : MemoryFormed t) : MemoryFormed (incBy f n t) := h

theorem Shows.formed {P : Nat → Bool} (w : Shows P s t) (h : MemoryFormed s) : MemoryFormed t := by
  obtain ⟨_, _, _, _, _, rfl⟩ := w.same
  exact h

theorem MemoryFormed.latch {pg bit : Nat} (h : MemoryFormed t) : MemoryFormed (Machine.latch pg bit t) :=
  (shows_latch (fun _ => true) pg bit t rfl rfl).formed h

theorem MemoryFormed.incSat {f : Field} (h : MemoryFormed t) : MemoryFormed (incSat f t) := h

theorem MemoryFormed.peak {f : Field} {v : Nat} (h : MemoryFormed t) : MemoryFormed (Machine.peak f v t) := h

theorem MemoryFormed.wrBool {f : Field} {b : Bool} (h : MemoryFormed t) : MemoryFormed (wrBool f b t) := h

theorem MemoryFormed.wrInt {f : Field} {v : Int} (h : MemoryFormed t) : MemoryFormed (wrInt f v t) := h

theorem MemoryFormed.countFlag {f : Field} {a b : Bool} (h : MemoryFormed t) : MemoryFormed (Machine.countFlag f a b t) :=
  .ite h (.ite h.wr h.wr)

theorem MemoryFormed.moveCount {f : Field} {a b : Bool} (h : MemoryFormed t) : MemoryFormed (Machine.moveCount f a b t) :=
  h.countFlag

/-! ### Other parts -/

theorem MemoryFormed.set_boot {x : Boot} (h : MemoryFormed t) : MemoryFormed { t with boot := x } := h

theorem MemoryFormed.set_ccmJob {x : Option Job} (h : MemoryFormed t) : MemoryFormed { t with ccmJob := x } := h

theorem MemoryFormed.set_delivered {x : List Item} (h : MemoryFormed t) : MemoryFormed { t with delivered := x } := h

theorem MemoryFormed.set_frames {x : Tbl Frame} (h : MemoryFormed t) : MemoryFormed { t with frames := x } := h

theorem MemoryFormed.set_journal {x : List (Nat × Nat)} (h : MemoryFormed t) : MemoryFormed { t with journal := x } := h

theorem MemoryFormed.set_keyOp {x : Option KeyOp} (h : MemoryFormed t) : MemoryFormed { t with keyOp := x } := h

theorem MemoryFormed.set_mem {x : MemCheck} (h : MemoryFormed t) : MemoryFormed { t with mem := x } := h

theorem MemoryFormed.set_preempts {x : List (Nat × Nat × Nat)} (h : MemoryFormed t) : MemoryFormed { t with preempts := x } := h

theorem MemoryFormed.set_reasm {x : Tbl Reasm} (h : MemoryFormed t) : MemoryFormed { t with reasm := x } := h

theorem MemoryFormed.set_rereads {x : List Reader} (h : MemoryFormed t) : MemoryFormed { t with rereads := x } := h

theorem MemoryFormed.set_root {x : Root} (h : MemoryFormed t) : MemoryFormed { t with root := x } := h

theorem MemoryFormed.set_scheds {x : Tbl Sched} (h : MemoryFormed t) : MemoryFormed { t with scheds := x } := h

theorem MemoryFormed.set_tracks {x : Tbl Track} (h : MemoryFormed t) : MemoryFormed { t with tracks := x } := h

theorem MemoryFormed.set_watch {x : Watch} (h : MemoryFormed t) : MemoryFormed { t with watch := x } := h

end Sys2Proof.Machine
end

section
/-! PROOF. Every operation that may write memory leaves it in its canonical form. Each lemma follows its operation's
definition: a step whose frame leaves DDR alone keeps the form by that frame, another by its own lemma. -/

namespace Sys2Proof.Machine

theorem formed_storeNode (a0 : Nat) (a1 : Node) {s : State} (h : MemoryFormed s) :
    MemoryFormed (storeNode a0 a1 s) := by
  unfold storeNode
  show Memory.wf (if _ then _ else _) = true
  split
  · exact h
  · exact wf_writeOctets h _ _

theorem formed_setNode (a0 : Nat) (a1 : Node) {s : State} (h : MemoryFormed s) :
    MemoryFormed (setNode a0 a1 s) := by
  unfold setNode
  extract_lets _ x1 x2 x3 x4 x5 x6
  have h7 : MemoryFormed x1 := formed_storeNode _ _ h
  clear_value x1
  have h8 : MemoryFormed x2 := .countFlag h7
  clear_value x2
  have h9 : MemoryFormed x3 := .countFlag h8
  clear_value x3
  have h10 : MemoryFormed x4 := .countFlag h9
  clear_value x4
  have h11 : MemoryFormed x5 := .countFlag h10
  clear_value x5
  have h12 : MemoryFormed x6 := .countFlag h11
  clear_value x6
  exact .peak h12

theorem formed_modNode (a0 : Nat) (a1 : Node → Node) {s : State} (h : MemoryFormed s) :
    MemoryFormed (modNode a0 a1 s) := by
  unfold modNode
  exact formed_setNode _ _ h

theorem formed_nodeStat (a0 : Nat) (a1 : Node → Node) {s : State} (h : MemoryFormed s) :
    MemoryFormed (nodeStat a0 a1 s) := by
  unfold nodeStat
  exact .ite (formed_modNode _ _ h) h

theorem formed_rxStat (a0 : Option Nat) (a1 : Disp) {s : State} (h : MemoryFormed s) :
    MemoryFormed (rxStat a0 a1 s) := by
  unfold rxStat
  split
  · exact h
  · exact formed_nodeStat _ _ h

theorem formed_closeLane (a0 : Lane) (a1 : Disp) {s : State} (h : MemoryFormed s) :
    MemoryFormed (closeLane a0 a1 s) := by
  unfold closeLane
  exact formed_rxStat _ _ ((frame_close _ _ _).formed rfl ((frame_countLaneEnd _ _ _).formed rfl h))

theorem formed_endLane (a0 : Nat) (a1 : Disp) {s : State} (h : MemoryFormed s) :
    MemoryFormed (endLane a0 a1 s) := by
  unfold endLane
  extract_lets _
  split
  · exact (frame_releaseLane _ _ _).formed rfl h
  · exact (frame_releaseLane _ _ _).formed rfl (formed_closeLane _ _ h)

theorem formed_laneFault (a0 : Nat) (a1 : Bool) {s : State} (h : MemoryFormed s) :
    MemoryFormed (laneFault a0 a1 s) := by
  unfold laneFault
  extract_lets _ x1 x2 x3
  have h4 : MemoryFormed x1 := .ite (formed_endLane _ _ h) h
  clear_value x1
  have h5 : MemoryFormed x2 := (frame_modLane _ _ _).formed rfl h4
  clear_value x2
  have h6 : MemoryFormed x3 := .latch (.inc h5)
  clear_value x3
  exact .ite h (.ite ((frame_substitute _ _).formed rfl h6) h6)

theorem formed_laneOn (a0 : Nat) {s : State} (h : MemoryFormed s) :
    MemoryFormed (laneOn a0 s) := by
  unfold laneOn
  extract_lets _
  exact .ite (.ite ((frame_modLane _ _ _).formed rfl h) (.ite h (.ite ((frame_modLane _ _ _).formed rfl h)
    (formed_laneFault _ _ h)))) (.ite ((frame_modLane _ _ _).formed rfl h) h)

theorem formed_laneStep {s : State} (h : MemoryFormed s) :
    MemoryFormed (laneStep s) := by
  unfold laneStep
  exact .foldl h (fun _ _ h0 => (frame_laneDrained _ _).formed rfl (formed_laneOn _ h0))

theorem formed_idle {s : State} (h : MemoryFormed s) :
    MemoryFormed (idle s) := by
  unfold idle
  exact .ite ((frame_heldNs _).formed rfl h) (formed_laneStep ((frame_showTrust _).formed rfl
    ((frame_poweredNs _).formed rfl ((frame_tick _).formed rfl h))))

theorem formed_winWrite (a0 : Nat) (a1 : List Byte) {s : State} (h : MemoryFormed s) :
    MemoryFormed (winWrite a0 a1 s) := by
  unfold winWrite
  exact .set_ddr (wf_writeOctets h _ _)

theorem formed_setTally (a0 : Nat) (a1 : Nat) (a2 : Nat) (a3 : Nat) {s : State} (h : MemoryFormed s) :
    MemoryFormed (setTally a0 a1 a2 a3 s) := by
  unfold setTally
  exact .set_ddr (wf_writeByte h _ _)

theorem formed_returnSlot (a0 : Nat) (a1 : Nat) (a2 : Nat) (a3 : Nat) {s : State} (h : MemoryFormed s) :
    MemoryFormed (returnSlot a0 a1 a2 a3 s) := by
  unfold returnSlot
  split
  · exact h
  · extract_lets x0 x1 x2 x3
    have h4 : MemoryFormed x0 := formed_winWrite _ _ h
    clear_value x0
    have h5 : MemoryFormed x1 := formed_winWrite _ _ h4
    clear_value x1
    have h6 : MemoryFormed x2 := by
      unfold x2
      refine .foldl h5 (fun _ _ h7 => ?_)
      extract_lets _
      exact formed_setTally _ _ _ _ h7
    clear_value x2
    have h9 : MemoryFormed x3 := (frame_modRing _ _ _).formed rfl h6
    clear_value x3
    exact (frame_slotNotice _ _ _ _).formed rfl ((frame_refreshLevel _ _).formed rfl h9)

theorem formed_sweepFrames {s : State} (h : MemoryFormed s) :
    MemoryFormed (sweepFrames s) := by
  unfold sweepFrames
  extract_lets x0
  have h1 : MemoryFormed x0 := by
    unfold x0
    refine .foldl h (fun _ _ h2 => ?_)
    split
    · exact formed_returnSlot _ _ _ _ h2
    · exact h2
  clear_value x0
  exact .set_frames h1

theorem formed_txStat (a0 : Option Nat) (a1 : Disp) {s : State} (h : MemoryFormed s) :
    MemoryFormed (txStat a0 a1 s) := by
  unfold txStat
  split
  · exact h
  · exact formed_nodeStat _ _ h

theorem formed_syncPending (a0 : Nat) {s : State} (h : MemoryFormed s) :
    MemoryFormed (syncPending a0 s) := by
  unfold syncPending
  extract_lets _ _ _ _ _ _
  exact .ite h (formed_setNode _ _ h)

theorem formed_endOne (a0 : Nat) (a1 : Disp) {s : State} (h : MemoryFormed s) :
    MemoryFormed (endOne a0 a1 s) := by
  unfold endOne
  split
  · exact h
  · split
    · exact h
    · extract_lets _ x1 x2 x3 x4 x5 x6
      have h7 : MemoryFormed x1 := (frame_setFrame _ _ _).formed rfl h
      clear_value x1
      have h8 : MemoryFormed x2 := (frame_leaveCommitted _ _ _).formed rfl ((frame_dutyRelease _ _).formed rfl h7)
      clear_value x2
      have h9 : MemoryFormed x3 := .ite ((frame_closeAll _ _ _).formed rfl h8) h8
      clear_value x3
      have h10 : MemoryFormed x4 := .ite ((frame_countAbandon _ _ _).formed rfl h9) (.ite (.inc h9) h9)
      clear_value x4
      have h11 : MemoryFormed x5 := formed_rxStat _ _ (formed_txStat _ _ h10)
      clear_value x5
      have h12 : MemoryFormed x6 := by
        unfold x6
        split
        · exact (frame_countPending _).formed rfl (formed_syncPending _ h11)
        · exact h11
      clear_value x6
      exact (frame_recount _ _).formed rfl h12

theorem formed_endFrame (a0 : Nat) (a1 : Disp) {s : State} (h : MemoryFormed s) :
    MemoryFormed (endFrame a0 a1 s) := by
  unfold endFrame
  split
  · exact h
  · extract_lets _ x1
    have h2 : MemoryFormed x1 := formed_endOne _ _ h
    clear_value x1
    split
    · exact .ite h2 (.ite (.ite h2 ((frame_closeAll _ _ _).formed rfl h2)) ((frame_closeAll _ _ _).formed rfl
        (.foldl h2 (fun _ _ h3 => formed_endOne _ _ h3))))
    · exact h2

theorem formed_enqueue (a0 : Nat) {s : State} (h : MemoryFormed s) :
    MemoryFormed (enqueue a0 s) := by
  unfold enqueue
  split
  · exact h
  · refine .ite ?_ ?_
    · exact formed_endFrame _ _ h
    · extract_lets x0
      have h1 : MemoryFormed x0 := (frame_setFrame _ _ _).formed rfl h
      clear_value x0
      split
      · exact formed_endFrame _ _ ((frame_regCeiling _).formed rfl h1)
      · exact (frame_recount _ _).formed rfl h1

theorem formed_queueSymbol (a0 : Nat) (a1 : Nat) {s : State} (h : MemoryFormed s) :
    MemoryFormed (queueSymbol a0 a1 s) := by
  unfold queueSymbol
  extract_lets _ _ _ x3
  have h4 : MemoryFormed x3 := .wr ((frame_modCampaign _ _ _).formed rfl h)
  clear_value x3
  split
  · exact h
  · refine .ite ?_ ?_
    · exact h
    · generalize e5 : newFrame _ = p6
      obtain ⟨_, _⟩ := p6
      dsimp only
      have h7 := MemoryFormed.viaEq e5 ((frame_newFrame _).formed rfl h4)
      exact formed_enqueue _ ((frame_setFrame _ _ _).formed rfl h7)

theorem formed_followSymbol (a0 : Nat) {s : State} (h : MemoryFormed s) :
    MemoryFormed (followSymbol a0 s) := by
  unfold followSymbol
  split
  · exact h
  · split
    · extract_lets _ _ x2 x3 x4
      have h5 : MemoryFormed x2 := (frame_modFrame _ _ _).formed rfl h
      clear_value x2
      have h6 : MemoryFormed x3 := (frame_modCampaign _ _ _).formed rfl h5
      clear_value x3
      have h7 : MemoryFormed x4 := .ite (formed_queueSymbol _ _ h6) h
      clear_value x4
      exact .ite (.inc (.inc ((frame_modFrame _ _ _).formed rfl h7))) h7
    · exact h

theorem formed_endFrames (a0 : Frame → Bool) (a1 : Disp) {s : State} (h : MemoryFormed s) :
    MemoryFormed (endFrames a0 a1 s) := by
  unfold endFrames
  exact .foldl h (fun _ _ h0 => formed_endFrame _ _ h0)

theorem formed_cutTx (a0 : Nat) (a1 : Disp) {s : State} (h : MemoryFormed s) :
    MemoryFormed (cutTx a0 a1 s) := by
  unfold cutTx
  split
  · exact h
  · extract_lets x0 x1 x2
    have h3 : MemoryFormed x0 := (frame_advanceSeed _ _ _).formed rfl ((frame_freeEngine _ _).formed rfl
      ((frame_chargeTx _ _ _).formed rfl h))
    clear_value x0
    have h4 : MemoryFormed x1 := (frame_modFe _ _ _).formed rfl h3
    clear_value x1
    have h5 : MemoryFormed x2 := (frame_setRf _ _ _).formed rfl (.ite ((frame_paFalls _ _).formed rfl h4)
      ((frame_reqFalls _ _).formed rfl h4))
    clear_value x2
    split
    · exact formed_endFrame _ _ h5
    · exact formed_endFrame _ _ h5
    · exact h5

theorem formed_cutSymbols (a0 : Nat) {s : State} (h : MemoryFormed s) :
    MemoryFormed (cutSymbols a0 s) := by
  unfold cutSymbols
  refine .foldl h (fun _ _ h0 => ?_)
  split
  · split
    · split
      · exact .ite (formed_cutTx _ _ h0) h0
      · exact h0
    · exact h0
  · exact h0

theorem formed_queueAnnouncement (a0 : Nat) (a1 : Nat) (a2 : Option Nat) {s : State} (h : MemoryFormed s) :
    MemoryFormed (queueAnnouncement a0 a1 a2 s) := by
  unfold queueAnnouncement
  exact formed_enqueue _ ((frame_setFrame _ _ _).formed rfl ((frame_newFrame _).formed rfl h))

theorem formed_endCampaign (a0 : Nat) (a1 : EndReason) {s : State} (h : MemoryFormed s) :
    MemoryFormed (endCampaign a0 a1 s) := by
  unfold endCampaign
  extract_lets _ x1 x2 x3 x4 x5 x6 x7
  have h8 : MemoryFormed x1 := .wr ((frame_setCState _ _ _).formed rfl h)
  clear_value x1
  have h9 : MemoryFormed x2 := (frame_modCampaign _ _ _).formed rfl h8
  clear_value x2
  have h10 : MemoryFormed x3 := .foldl ((frame_showNextWin _ _).formed rfl h9) (fun _ _ h11 =>
    (frame_showWindowOpen _ _).formed rfl h11)
  clear_value x3
  have h12 : MemoryFormed x4 := .ite h10 (formed_endFrames _ _ h10)
  clear_value x4
  have h13 : MemoryFormed x5 := formed_endFrames _ _ h12
  clear_value x5
  have h14 : MemoryFormed x6 := .ite h12 (formed_cutSymbols _ h13)
  clear_value x6
  have h15 : MemoryFormed x7 := .ite (.latch h14) (.ite (.latch h14) h14)
  clear_value x7
  exact .foldl h15 (fun _ _ h16 => formed_queueAnnouncement _ _ _ h16)

theorem formed_followCampaign (a0 : Nat) {s : State} (h : MemoryFormed s) :
    MemoryFormed (followCampaign a0 s) := by
  unfold followCampaign
  refine .ite ?_ ?_
  · exact h
  · extract_lets _ _ _ _
    exact .ite (formed_endCampaign _ _ h) (.ite (formed_endCampaign _ _ h) (.ite (formed_endCampaign _ _ h) (.ite
      (formed_endCampaign _ _ h) h)))

theorem formed_followDissem {s : State} (h : MemoryFormed s) :
    MemoryFormed (followDissem s) := by
  unfold followDissem
  extract_lets x0
  have h1 : MemoryFormed x0 := .foldl h (fun _ _ h2 => formed_followSymbol _ h2)
  clear_value x0
  exact .foldl h1 (fun _ _ h3 => formed_followCampaign _ h3)

theorem formed_endLanes (a0 : Lane → Bool) (a1 : Disp) {s : State} (h : MemoryFormed s) :
    MemoryFormed (endLanes a0 a1 s) := by
  unfold endLanes
  exact .foldl h (fun _ _ h0 => formed_endLane _ _ h0)

theorem formed_beginRetune (a0 : Nat) {s : State} (h : MemoryFormed s) :
    MemoryFormed (beginRetune a0 s) := by
  unfold beginRetune
  extract_lets x0 _ x2
  have h3 : MemoryFormed x0 := formed_endLanes _ _ h
  clear_value x0
  have h4 : MemoryFormed x2 := (frame_startCals _ _ _ _).formed rfl ((frame_applyTuning _ _).formed rfl h3)
  clear_value x2
  exact .ite ((frame_roleCals _ _).formed rfl ((frame_applyTuning _ _).formed rfl h4)) h4

theorem formed_retuneStep (a0 : Nat) {s : State} (h : MemoryFormed s) :
    MemoryFormed (retuneStep a0 s) := by
  unfold retuneStep
  exact .ite (formed_beginRetune _ h) h

theorem formed_airWork {s : State} (h : MemoryFormed s) :
    MemoryFormed (airWork s) := by
  unfold airWork
  refine .ite ?_ ?_
  · exact h
  · extract_lets x7 x8
    have h9 : MemoryFormed x7 := formed_sweepFrames (formed_followDissem h)
    clear_value x7
    have h10 : MemoryFormed x8 := .foldl h9 (fun _ _ h11 => (frame_unrelievedStep _ _).formed rfl
      (formed_retuneStep _ h11))
    clear_value x8
    exact (frame_fcryptoStep _).formed rfl ((frame_poolStep _).formed rfl ((frame_payDebt _).formed rfl
      ((frame_rollStep _).formed rfl ((frame_bankStep _).formed rfl ((frame_serveRelief _).formed rfl
      (formed_laneStep h10))))))

theorem formed_endCampaigns (a0 : EndReason) {s : State} (h : MemoryFormed s) :
    MemoryFormed (endCampaigns a0 s) := by
  unfold endCampaigns
  exact .foldl h (fun _ _ h0 => .ite (formed_endCampaign _ _ h0) h0)

theorem formed_reliefStopped (a0 : Nat) {s : State} (h : MemoryFormed s) :
    MemoryFormed (reliefStopped a0 s) := by
  unfold reliefStopped
  split
  · exact .ite ((frame_reliefBroken _ _).formed rfl ((frame_dropRelief _).formed rfl h)) (.ite
      ((frame_freeFe3 _).formed rfl (formed_endLanes _ _ (formed_cutTx _ _ h))) h)
  · exact h

theorem formed_feStops (a0 : Nat) (a1 : Nat) {s : State} (h : MemoryFormed s) :
    MemoryFormed (feStops a0 a1 s) := by
  unfold feStops
  exact (frame_refreshListen _).formed rfl ((frame_restAs _ _ _).formed rfl (formed_reliefStopped _
    ((frame_dropNeeds _ _ _).formed rfl h)))

theorem formed_restFe (a0 : Nat) (a1 : Nat) {s : State} (h : MemoryFormed s) :
    MemoryFormed (restFe a0 a1 s) := by
  unfold restFe
  split
  · exact formed_feStops _ _ h
  · exact h

theorem formed_endEgress (a0 : Egress) (a1 : Disp) {s : State} (h : MemoryFormed s) :
    MemoryFormed (endEgress a0 a1 s) := by
  unfold endEgress
  extract_lets x0
  have h1 : MemoryFormed x0 := formed_rxStat _ _ ((frame_closeAll _ _ _).formed rfl h)
  clear_value x0
  split
  · exact formed_returnSlot _ _ _ _ h1
  · exact h1

theorem formed_abortAir (a0 : Nat) (a1 : Disp) {s : State} (h : MemoryFormed s) :
    MemoryFormed (abortAir a0 a1 s) := by
  unfold abortAir
  split
  · extract_lets x0
    have h1 : MemoryFormed x0 := (frame_modPort _ _ _).formed rfl h
    clear_value x0
    exact formed_endEgress _ _ ((frame_rmon _ _ _).formed rfl (.inc h1))
  · exact (frame_modPort _ _ _).formed rfl h

theorem formed_refreshLink (a0 : Nat) {s : State} (h : MemoryFormed s) :
    MemoryFormed (refreshLink a0 s) := by
  unfold refreshLink
  extract_lets _ _ x2 x3 x4 x5
  have h6 : MemoryFormed x2 := .wr h
  clear_value x2
  have h7 : MemoryFormed x3 := .wr h6
  clear_value x3
  have h8 : MemoryFormed x4 := .latch (.incSat (.wrBool h7))
  clear_value x4
  have h9 : MemoryFormed x5 := (frame_pushNotice _ _ _).formed rfl h8
  clear_value x5
  exact .ite ((frame_showPause _ _).formed rfl h7) (.ite ((frame_showPause _ _).formed rfl
    ((frame_modPort _ _ _).formed rfl h9)) ((frame_showPause _ _).formed rfl (formed_abortAir _ _
    ((frame_modPort _ _ _).formed rfl h9))))

theorem formed_stopped (a0 : Nat) {s : State} (h : MemoryFormed s) :
    MemoryFormed (stopped a0 s) := by
  unfold stopped
  split
  · exact formed_restFe _ _ h
  · exact formed_restFe _ _ h
  · exact formed_restFe _ _ h
  · exact formed_restFe _ _ h
  · exact formed_refreshLink _ ((frame_modPort _ _ _).formed rfl h)
  · exact formed_refreshLink _ ((frame_modPort _ _ _).formed rfl h)
  · exact (frame_ppsOutEnd _).formed rfl h
  · exact (frame_belayStop _).formed rfl h
  · exact h

theorem formed_toStopped (a0 : Nat) (a1 : Bool) {s : State} (h : MemoryFormed s) :
    MemoryFormed (toStopped a0 a1 s) := by
  unfold toStopped
  exact formed_stopped _ (.wrBool ((frame_setPageState _ _ _).formed rfl h))

theorem formed_feForceStop (a0 : Nat) {s : State} (h : MemoryFormed s) :
    MemoryFormed (feForceStop a0 s) := by
  unfold feForceStop
  extract_lets x7 x8
  have h9 : MemoryFormed x7 := formed_cutTx _ _ h
  clear_value x7
  have h10 : MemoryFormed x8 := formed_endLanes _ _ h9
  clear_value x8
  exact formed_feStops _ _ ((frame_holdCommitted _ _).formed rfl h10)

theorem formed_macForceStop {s : State} (h : MemoryFormed s) :
    MemoryFormed (macForceStop s) := by
  unfold macForceStop
  exact formed_endLanes _ _ h

theorem formed_beaconForceStop {s : State} (h : MemoryFormed s) :
    MemoryFormed (beaconForceStop s) := by
  unfold beaconForceStop
  extract_lets _ x1
  have h2 : MemoryFormed x1 := by
    unfold x1
    refine .foldl h (fun _ _ h3 => ?_)
    split
    · split
      · exact .ite (formed_cutTx _ _ h3) h3
      · exact h3
    · exact h3
  clear_value x1
  exact formed_endFrames _ _ h2

theorem formed_endPacket (a0 : Packet) (a1 : Disp) {s : State} (h : MemoryFormed s) :
    MemoryFormed (endPacket a0 a1 s) := by
  unfold endPacket
  extract_lets x0
  have h1 : MemoryFormed x0 := formed_rxStat _ _ ((frame_closeAll _ _ _).formed rfl h)
  clear_value x0
  split
  · exact formed_returnSlot _ _ _ _ h1
  · exact h1

theorem formed_fwdForceStop {s : State} (h : MemoryFormed s) :
    MemoryFormed (fwdForceStop s) := by
  unfold fwdForceStop
  extract_lets _
  refine .foldl (.set_rereads h) (fun _ _ h1 => ?_)
  split
  · exact formed_endPacket _ _ h1
  · exact .set_rereads h1

theorem formed_endItem (a0 : Item) (a1 : Disp) {s : State} (h : MemoryFormed s) :
    MemoryFormed (endItem a0 a1 s) := by
  unfold endItem
  exact formed_rxStat _ _ ((frame_closeAll _ _ _).formed rfl h)

theorem formed_endReasm {s : State} (h : MemoryFormed s) :
    MemoryFormed (endReasm s) := by
  unfold endReasm
  extract_lets _
  exact .foldl ((frame_countReasm _).formed rfl (.set_reasm h)) (fun _ _ h1 => formed_endItem _ _ h1)

theorem formed_schedForceStop (a0 : Nat) {s : State} (h : MemoryFormed s) :
    MemoryFormed (schedForceStop a0 s) := by
  unfold schedForceStop
  extract_lets x0
  have h1 : MemoryFormed x0 := formed_endFrames _ _ h
  clear_value x0
  exact formed_endFrames _ _ h1

theorem formed_dissemForceStop {s : State} (h : MemoryFormed s) :
    MemoryFormed (dissemForceStop s) := by
  unfold dissemForceStop
  extract_lets _ x1
  have h2 : MemoryFormed x1 := .ite ((frame_dissemResult _ _ _).formed rfl (.ite
    ((frame_setCState _ _ _).formed rfl h) h)) h
  clear_value x1
  exact formed_endCampaigns _ h2

theorem formed_fcryptoForceStop {s : State} (h : MemoryFormed s) :
    MemoryFormed (fcryptoForceStop s) := by
  unfold fcryptoForceStop
  extract_lets x7 x8
  have h9 : MemoryFormed x7 := formed_endLanes _ _ h
  clear_value x7
  have h10 : MemoryFormed x8 := .foldl h9 (fun _ _ h11 => .ite (formed_cutTx _ _ h11) h11)
  clear_value x8
  exact .ite ((frame_ccmEnd _ _).formed rfl h10) h10

theorem formed_ethForceStop (a0 : Nat) {s : State} (h : MemoryFormed s) :
    MemoryFormed (ethForceStop a0 s) := by
  unfold ethForceStop
  extract_lets _ x1 x2 x3
  have h4 : MemoryFormed x1 := (frame_modPort _ _ _).formed rfl h
  clear_value x1
  have h5 : MemoryFormed x2 := .foldl h4 (fun _ _ h6 => (frame_close _ _ _).formed rfl h6)
  clear_value x2
  have h7 : MemoryFormed x3 := .foldl h5 (fun _ _ h8 => formed_endEgress _ _ h8)
  clear_value x3
  exact .ite (formed_abortAir _ _ h7) h7

theorem formed_ringsDrain {s : State} (h : MemoryFormed s) :
    MemoryFormed (ringsDrain s) := by
  unfold ringsDrain
  refine .foldl h (fun _ _ h0 => ?_)
  extract_lets _
  exact .foldl ((frame_modRing _ _ _).formed rfl h0) (fun _ _ h2 => formed_endItem _ _ h2)

theorem formed_ringsForceStop {s : State} (h : MemoryFormed s) :
    MemoryFormed (ringsForceStop s) := by
  unfold ringsForceStop
  extract_lets x0
  have h1 : MemoryFormed x0 := formed_ringsDrain h
  clear_value x0
  exact .foldl h1 (fun _ _ h2 => formed_returnSlot _ _ _ _ h2)

theorem formed_abortWork (a0 : Nat) {s : State} (h : MemoryFormed s) :
    MemoryFormed (abortWork a0 s) := by
  unfold abortWork
  split
  · exact formed_feForceStop _ h
  · exact formed_feForceStop _ h
  · exact formed_feForceStop _ h
  · exact formed_feForceStop _ h
  · exact formed_endLanes _ _ h
  · exact (frame_withdrawFor _ _).formed rfl (.foldl h (fun _ _ h0 => formed_cutTx _ _ h0))
  · exact formed_macForceStop h
  · exact formed_beaconForceStop h
  · exact (frame_nodeForceStop _).formed rfl h
  · exact formed_fwdForceStop h
  · exact formed_endReasm h
  · extract_lets _ x17
    have h18 : MemoryFormed x17 := by
      unfold x17
      refine .foldl h (fun _ _ h19 => ?_)
      split
      · split
        · exact .ite (formed_cutTx _ _ h19) h19
        · exact h19
      · exact h19
    clear_value x17
    exact formed_schedForceStop _ h18
  · extract_lets _ x36
    have h37 : MemoryFormed x36 := by
      unfold x36
      refine .foldl h (fun _ _ h38 => ?_)
      split
      · split
        · exact .ite (formed_cutTx _ _ h38) h38
        · exact h38
      · exact h38
    clear_value x36
    exact formed_schedForceStop _ h37
  · extract_lets _ x55
    have h56 : MemoryFormed x55 := by
      unfold x55
      refine .foldl h (fun _ _ h57 => ?_)
      split
      · split
        · exact .ite (formed_cutTx _ _ h57) h57
        · exact h57
      · exact h57
    clear_value x55
    exact formed_schedForceStop _ h56
  · extract_lets _ x74
    have h75 : MemoryFormed x74 := by
      unfold x74
      refine .foldl h (fun _ _ h76 => ?_)
      split
      · split
        · exact .ite (formed_cutTx _ _ h76) h76
        · exact h76
      · exact h76
    clear_value x74
    exact formed_schedForceStop _ h75
  · exact formed_dissemForceStop h
  · exact (frame_keysForceStop _).formed rfl h
  · exact formed_fcryptoForceStop h
  · exact (frame_scipherForceStop _).formed rfl h
  · exact (frame_pkeForceStop _).formed rfl h
  · exact formed_ethForceStop _ h
  · exact formed_ethForceStop _ h
  · exact (frame_ppsOutEnd _).formed rfl h
  · exact (frame_hostifForceStop _).formed rfl h
  · exact formed_ringsForceStop h
  · exact (frame_flashForceStop _).formed rfl h
  · exact (frame_fwForceStop _).formed rfl h
  · exact (frame_belayStop _).formed rfl h
  · exact (frame_dropNotices _).formed rfl h
  · exact h

theorem formed_leaveService (a0 : Nat) {s : State} (h : MemoryFormed s) :
    MemoryFormed (leaveService a0 s) := by
  unfold leaveService
  extract_lets _ _ x17
  have h18 : MemoryFormed x17 := .ite h (.set_boot h)
  clear_value x17
  exact .ite h (.ite (.wr h18) (formed_toStopped _ _ (formed_abortWork _ ((frame_abortTest _ _).formed rfl
    ((frame_cancelWaiting _ _).formed rfl h18)))))

theorem formed_poisonSlots (a0 : Nat) (a1 : Nat) (a2 : Nat) {s : State} (h : MemoryFormed s) :
    MemoryFormed (poisonSlots a0 a1 a2 s) := by
  unfold poisonSlots
  extract_lets _ _ x2 x3 x4
  have h5 : MemoryFormed x2 := .foldl h (fun _ _ h6 => formed_setTally _ _ _ _ h6)
  clear_value x2
  have h7 : MemoryFormed x3 := .wr (.wr (.wr h5))
  clear_value x3
  have h8 : MemoryFormed x4 := .latch (.inc h7)
  clear_value x4
  exact (frame_refreshLevel _ _).formed rfl ((frame_advanceRing _ _ _).formed rfl
    ((frame_slotNotice _ _ _ _).formed rfl h8))

theorem formed_claims (a0 : Nat) (a1 : Nat) {s : State} (h : MemoryFormed s) :
    MemoryFormed (claims a0 a1 s) := by
  induction a1 generalizing a0 s with
  | zero =>
    unfold claims
    exact h
  | succ n ih =>
    unfold claims
    split
    · exact h
    · extract_lets _ _ _ _ _ x5 x6
      have h7 : MemoryFormed x5 := .foldl h (fun _ _ h8 => formed_winWrite _ _ (formed_setTally _ _ _ _ h8))
      clear_value x5
      have h9 : MemoryFormed x6 := (frame_modRing _ _ _).formed rfl h7
      clear_value x6
      exact .ite (.ite h (ih _ ((frame_advanceRing _ _ _).formed rfl h))) (.ite (ih _ (formed_poisonSlots _ _ _ h))
        (.ite (ih _ ((frame_refreshLevel _ _).formed rfl ((frame_advanceRing _ _ _).formed rfl h9))) h))

theorem formed_claimAll (a0 : Nat) {s : State} (h : MemoryFormed s) :
    MemoryFormed (claimAll a0 s) := by
  unfold claimAll
  exact .ite (formed_claims _ _ h) h

theorem formed_hostOctet (a0 : Nat) (a1 : Byte) {s : State} (h : MemoryFormed s) :
    MemoryFormed (hostOctet a0 a1 s) := by
  unfold hostOctet
  split
  · exact formed_winWrite _ _ h
  · extract_lets _ x1
    have h2 : MemoryFormed x1 := .wr (.wr (.wr h))
    clear_value x1
    exact .ite (formed_winWrite _ _ h) (.latch (.inc h2))

theorem formed_hostOctets (a0 : Nat) (a1 : List (Option Byte)) {s : State} (h : MemoryFormed s) :
    MemoryFormed (hostOctets a0 a1 s) := by
  induction a1 generalizing a0 s with
  | nil =>
    unfold hostOctets
    exact h
  | cons x r ih =>
    unfold hostOctets
    refine ih _ ?_
    split
    · exact formed_hostOctet _ _ h
    · exact h

theorem formed_hostWrite (a0 : Nat) (a1 : List (Option Byte)) {s : State} (h : MemoryFormed s) :
    MemoryFormed (hostWrite a0 a1 s) := by
  unfold hostWrite
  extract_lets _
  exact .foldl (formed_hostOctets _ _ h) (fun _ _ h1 => formed_claimAll _ ((frame_refreshLevel _ _).formed rfl h1))

theorem formed_bar2Run (a0 : Bar2) (a1 : Ecc) {s : State} (h : MemoryFormed s) :
    MemoryFormed (bar2Run a0 a1 s) := by
  unfold bar2Run
  split
  · extract_lets x0
    have h1 : MemoryFormed x0 := (frame_decodeLine _ _ _).formed rfl h
    clear_value x0
    exact .ite h1 h1
  · exact .ite ((frame_unmapped _ _ _ _).formed rfl h) (.ite h (formed_hostWrite _ _ h))

theorem formed_runStalls (a0 : Nat) {s : State} (h : MemoryFormed s) :
    MemoryFormed (runStalls a0 s) := by
  unfold runStalls
  extract_lets _ _ x2
  have h3 : MemoryFormed x2 := .set_mem h
  clear_value x2
  exact .foldl h3 (fun _ _ h4 => formed_bar2Run _ _ (.peak h4))

theorem formed_leaveRefresh {s : State} (h : MemoryFormed s) :
    MemoryFormed (leaveRefresh s) := by
  unfold leaveRefresh
  extract_lets _ x1
  have h2 : MemoryFormed x1 := .foldl (.set_mem h) (fun _ _ h3 => (frame_runTest _ _).formed rfl h3)
  clear_value x1
  exact .foldl h2 (fun _ _ h4 => formed_runStalls _ h4)

theorem formed_enterRun (a0 : Nat) {s : State} (h : MemoryFormed s) :
    MemoryFormed (enterRun a0 s) := by
  unfold enterRun
  split
  · exact (frame_fillBuckets _ _).formed rfl h
  · exact (frame_fillBuckets _ _).formed rfl h
  · exact (frame_fillBuckets _ _).formed rfl h
  · exact (frame_fillBuckets _ _).formed rfl h
  · exact formed_refreshLink _ ((frame_modPort _ _ _).formed rfl h)
  · exact formed_refreshLink _ ((frame_modPort _ _ _).formed rfl h)
  · exact h

theorem formed_returnPage (a0 : Nat) (a1 : Nat) {s : State} (h : MemoryFormed s) :
    MemoryFormed (returnPage a0 a1 s) := by
  unfold returnPage
  split
  · exact .ite ((frame_feStart _ _).formed rfl ((frame_setPageState _ _ _).formed rfl h))
      ((frame_refreshListen _).formed rfl ((frame_setRf _ _ _).formed rfl h))
  · extract_lets x7
    have h8 : MemoryFormed x7 := (frame_setPageState _ _ _).formed rfl h
    clear_value x7
    exact .ite (formed_enterRun _ h8) h8

theorem formed_refclkFaults {s : State} (h : MemoryFormed s) :
    MemoryFormed (refclkFaults s) := by
  unfold refclkFaults
  exact .foldl (.foldl ((frame_clockFault _ _ _).formed rfl h) (fun _ _ h1 => formed_cutTx _ _ h1)) (fun _ _ h0 =>
    (frame_holdCommitted _ _).formed rfl h0)

theorem formed_synthUnlock (a0 : Nat) {s : State} (h : MemoryFormed s) :
    MemoryFormed (synthUnlock a0 s) := by
  unfold synthUnlock
  refine .ite ?_ ?_
  · extract_lets x0 x1
    have h2 : MemoryFormed x0 := .latch (.incSat h)
    clear_value x0
    have h3 : MemoryFormed x1 := formed_cutTx _ _ h2
    clear_value x1
    exact (frame_relockAfter _ _).formed rfl (formed_endLanes _ _ h3)
  · exact h

theorem formed_refclkAbsent {s : State} (h : MemoryFormed s) :
    MemoryFormed (refclkAbsent s) := by
  unfold refclkAbsent
  extract_lets _ x8 x9 x10
  have h11 : MemoryFormed x8 := formed_refclkFaults (.set_watch h)
  clear_value x8
  have h12 : MemoryFormed x9 := .foldl h11 (fun _ _ h13 => formed_synthUnlock _ h13)
  clear_value x9
  have h14 : MemoryFormed x10 := .foldl h12 (fun _ _ h15 => (frame_pllUnlock _ _).formed rfl h15)
  clear_value x10
  exact .ite (.wr h14) h14

theorem formed_coarseCheck (a0 : Nat) {s : State} (h : MemoryFormed s) :
    MemoryFormed (coarseCheck a0 s) := by
  unfold coarseCheck
  extract_lets _ _
  exact .ite h (formed_refclkFaults h)

theorem formed_fineGate (a0 : Nat) {s : State} (h : MemoryFormed s) :
    MemoryFormed (fineGate a0 s) := by
  unfold fineGate
  refine .ite ?_ ?_
  · exact h
  · extract_lets _ x1 _ _ _ x5 _ x7 x8
    have h9 : MemoryFormed x1 := .set_watch h
    clear_value x1
    have h10 : MemoryFormed x5 := .ite (.wr (.wr (.set_watch h9))) h9
    clear_value x5
    have h11 : MemoryFormed x7 := .wrInt (.wr h10)
    clear_value x7
    have h12 : MemoryFormed x8 := .ite h11 ((frame_learnRatio _ _).formed rfl h11)
    clear_value x8
    exact .ite ((frame_clockFault _ _ _).formed rfl h12) (formed_refclkFaults h12)

theorem formed_beginDrain (a0 : Nat) {s : State} (h : MemoryFormed s) :
    MemoryFormed (beginDrain a0 s) := by
  unfold beginDrain
  extract_lets x0
  have h1 : MemoryFormed x0 := (frame_withdrawFor _ _).formed rfl h
  clear_value x0
  split
  · exact formed_endCampaigns _ h1
  · exact (frame_modPort _ _ _).formed rfl h1
  · exact (frame_modPort _ _ _).formed rfl h1
  · exact formed_ringsDrain h1
  · exact h1

theorem formed_pageDisable (a0 : Nat) {s : State} (h : MemoryFormed s) :
    MemoryFormed (pageDisable a0 s) := by
  unfold pageDisable
  extract_lets _ x16 x17 x18
  have h19 : MemoryFormed x16 := (frame_cancelWaiting _ _).formed rfl h
  clear_value x16
  have h20 : MemoryFormed x17 := formed_toStopped _ _ h19
  clear_value x17
  have h21 : MemoryFormed x18 := formed_beginDrain _ ((frame_setPageState _ _ _).formed rfl h19)
  clear_value x18
  exact .ite (.ite ((frame_modPort _ _ _).formed rfl h20) h20) (.ite (.ite (formed_toStopped _ _ h21) h21) h19)

theorem formed_ringsDiscard {s : State} (h : MemoryFormed s) :
    MemoryFormed (ringsDiscard s) := by
  unfold ringsDiscard
  extract_lets x0
  have h1 : MemoryFormed x0 := formed_ringsDrain h
  clear_value x0
  refine .foldl h1 (fun _ _ h2 => ?_)
  extract_lets _
  exact .foldl ((frame_modRing _ _ _).formed rfl h2) (fun _ _ h4 => formed_endItem _ _ h4)

theorem formed_blockReset (a0 : Nat) {s : State} (h : MemoryFormed s) :
    MemoryFormed (blockReset a0 s) := by
  unfold blockReset
  refine .ite ?_ ?_
  · exact (frame_setPageState _ _ _).formed rfl h
  · extract_lets x15
    have h16 : MemoryFormed x15 := (frame_setPageState _ _ _).formed rfl h
    clear_value x15
    split
    · exact formed_restFe _ _ h16
    · exact formed_restFe _ _ h16
    · exact formed_restFe _ _ h16
    · exact formed_restFe _ _ h16
    · exact formed_refreshLink _ h16
    · exact formed_refreshLink _ h16
    · exact .foldl h16 (fun _ _ h17 => (frame_modFe _ _ _).formed rfl h17)
    · exact h16
    · exact .set_tracks h16
    · exact .set_scheds h16
    · exact .set_scheds h16
    · exact .set_scheds h16
    · exact .set_scheds h16
    · exact .foldl h16 (fun _ _ h18 => (frame_resetMeter _ _).formed rfl h18)
    · exact (frame_keysForceStop _).formed rfl h16
    · exact .foldl h16 (fun _ _ h19 => (frame_showTsq _ _).formed rfl ((frame_modPort _ _ _).formed rfl h19))
    · exact formed_ringsDiscard h16
    · exact (frame_dropNotices _).formed rfl h16
    · exact h16

theorem formed_pageForceStop (a0 : Nat) {s : State} (h : MemoryFormed s) :
    MemoryFormed (pageForceStop a0 s) := by
  unfold pageForceStop
  extract_lets _ x16
  have h17 : MemoryFormed x16 := (frame_cancelWaiting _ _).formed rfl (.ite ((frame_keysForceStop _).formed rfl h) h)
  clear_value x16
  exact .ite (formed_toStopped _ _ h17) (.ite (.ite (formed_pageDisable _ (.wr h17)) (formed_toStopped _ _
    (formed_abortWork _ ((frame_abortTest _ _).formed rfl h17)))) (.ite (formed_toStopped _ _ (formed_abortWork _
    ((frame_abortTest _ _).formed rfl h17))) (.ite (formed_blockReset _ h17) h17)))

theorem formed_pageEnable (a0 : Nat) {s : State} (h : MemoryFormed s) :
    MemoryFormed (pageEnable a0 s) := by
  unfold pageEnable
  extract_lets _ x8 x9
  have h10 : MemoryFormed x8 := (frame_setPageState _ _ _).formed rfl (.wr h)
  clear_value x8
  have h11 : MemoryFormed x9 := (frame_setPageState _ _ _).formed rfl h
  clear_value x9
  refine .ite ?_ ?_
  · split
    · exact (frame_feStart _ _).formed rfl h10
    · exact .ite (formed_refreshLink _ h10) h10
  · exact .ite (.ite (formed_refreshLink _ ((frame_modPort _ _ _).formed rfl h11)) (formed_enterRun _ h11)) h

theorem formed_ctrlApply (a0 : Nat) (a1 : Nat) {s : State} (h : MemoryFormed s) :
    MemoryFormed (ctrlApply a0 a1 s) := by
  unfold ctrlApply
  extract_lets _ _ x17 x18 x19
  have h20 : MemoryFormed x17 := .ite (.wr h) h
  clear_value x17
  have h21 : MemoryFormed x18 := .wrBool h20
  clear_value x18
  have h22 : MemoryFormed x19 := .ite (formed_pageForceStop _ h21) (.ite (formed_pageEnable _ h21) (.ite
    (formed_pageDisable _ h21) h21))
  clear_value x19
  exact .ite h20 (.ite ((frame_selfTest _ _).formed rfl h22) h22)

theorem formed_ctrlWrite (a0 : Nat) (a1 : Route) (a2 : Word) {s : State} (h : MemoryFormed s) :
    MemoryFormed (ctrlWrite a0 a1 a2 s) := by
  unfold ctrlWrite
  refine .ite ?_ ?_
  · exact (frame_noPage _ _ _ _).formed rfl h
  · split
    · exact (frame_reject _ _ _ _ _ _).formed rfl h
    · exact formed_ctrlApply _ _ h

theorem formed_tuneGo (a0 : Nat) {s : State} (h : MemoryFormed s) :
    MemoryFormed (tuneGo a0 s) := by
  unfold tuneGo
  exact .ite ((frame_reject _ _ _ _ _ _).formed rfl h) (.ite ((frame_reject _ _ _ _ _ _).formed rfl h)
    (formed_retuneStep _ ((frame_holdCommitted _ _).formed rfl (.wr h))))

theorem formed_writeRole (a0 : Nat) (a1 : Nat) {s : State} (h : MemoryFormed s) :
    MemoryFormed (writeRole a0 a1 s) := by
  unfold writeRole
  extract_lets _ _ _ x10 x11 x12 x13 x14 x15 x16 x17
  have h18 : MemoryFormed x10 := formed_endLanes _ _ h
  clear_value x10
  have h19 : MemoryFormed x11 := (frame_modFe _ _ _).formed rfl h18
  clear_value x11
  have h20 : MemoryFormed x12 := (frame_holdGain _).formed rfl (.wr (.wr h19))
  clear_value x12
  have h21 : MemoryFormed x13 := .ite (.latch h20) h20
  clear_value x13
  have h22 : MemoryFormed x14 := .ite ((frame_setRf _ _ _).formed rfl h21) h21
  clear_value x14
  have h23 : MemoryFormed x15 := .wr h22
  clear_value x15
  have h24 : MemoryFormed x16 := .wr (.wr h22)
  clear_value x16
  have h25 : MemoryFormed x17 := .ite ((frame_setRf _ _ _).formed rfl (formed_endLanes _ _ h24)) h24
  clear_value x17
  refine .ite ?_ ?_
  · exact h
  · refine .ite ?_ ?_
    · exact (frame_reject _ _ _ _ _ _).formed rfl h
    · refine .ite ?_ ?_
      · exact (frame_reject _ _ _ _ _ _).formed rfl h
      · split
        · exact (frame_serveRelief _).formed rfl ((frame_refreshListen _).formed rfl (.ite
            ((frame_rest3 _).formed rfl h23) h23))
        · exact (frame_retake3 _).formed rfl (.wr h22)
        · exact (frame_retake3 _).formed rfl ((frame_engaged _ _ _ _).formed rfl (.latch (.wr h22)))
        · exact (frame_retake3 _).formed rfl ((frame_holdGain _).formed rfl h25)

theorem formed_roleGo (a0 : Nat) {s : State} (h : MemoryFormed s) :
    MemoryFormed (roleGo a0 s) := by
  unfold roleGo
  exact formed_writeRole _ _ h

theorem formed_endNodeFrames (a0 : Nat) (a1 : Disp) {s : State} (h : MemoryFormed s) :
    MemoryFormed (endNodeFrames a0 a1 s) := by
  unfold endNodeFrames
  exact formed_endFrames _ _ h

theorem formed_nodeLost (a0 : Nat) {s : State} (h : MemoryFormed s) :
    MemoryFormed (nodeLost a0 s) := by
  unfold nodeLost
  extract_lets _ x1 x2
  have h3 : MemoryFormed x1 := formed_setNode _ _ h
  clear_value x1
  have h4 : MemoryFormed x2 := formed_endNodeFrames _ _ h3
  clear_value x2
  exact .inc (.wr (.wr h4))

theorem formed_coreLost (a0 : Nat) {s : State} (h : MemoryFormed s) :
    MemoryFormed (coreLost a0 s) := by
  unfold coreLost
  exact (frame_sramLost _ _ _).formed rfl (formed_nodeLost _ h)

theorem formed_nodeRead (a0 : Nat) (a1 : NodeFind) {s : State} (h : MemoryFormed s) :
    MemoryFormed (nodeRead a0 a1 s) := by
  unfold nodeRead
  unfold nodeCmd
  extract_lets _
  refine .ite ?_ ?_
  · exact (frame_reject _ _ _ _ _ _).formed rfl h
  · refine .ite ?_ ?_
    · exact (frame_reject _ _ _ _ _ _).formed rfl h
    · refine .ite ?_ ?_
      · exact (frame_nodeResult _ _ _ _).formed rfl h
      · split
        · exact (frame_nodeResult _ _ _ _).formed rfl (formed_coreLost _ h)
        · beta_reduce
          refine .ite ?_ ?_
          · exact (frame_nodeResult _ _ _ _).formed rfl ((frame_coreMended _ _).formed rfl h)
          · refine .ite ?_ ?_
            · exact (frame_nodeResult _ _ _ _).formed rfl ((frame_copyToCmd _ _).formed rfl
                ((frame_coreMended _ _).formed rfl h))
            · extract_lets x1
              have h2 : MemoryFormed x1 := .wr (.wr (.wr ((frame_coreMended _ _).formed rfl h)))
              clear_value x1
              exact .set_rereads h2
        · beta_reduce
          refine .ite ?_ ?_
          · exact (frame_nodeResult _ _ _ _).formed rfl h
          · refine .ite ?_ ?_
            · exact (frame_nodeResult _ _ _ _).formed rfl ((frame_copyToCmd _ _).formed rfl h)
            · extract_lets x3
              have h4 : MemoryFormed x3 := .wr (.wr (.wr h))
              clear_value x3
              exact .set_rereads h4

theorem formed_nodeAdmit (a0 : Nat) (a1 : NodeFind) {s : State} (h : MemoryFormed s) :
    MemoryFormed (nodeAdmit a0 a1 s) := by
  unfold nodeAdmit
  unfold nodeCmd
  extract_lets _
  refine .ite ?_ ?_
  · exact (frame_reject _ _ _ _ _ _).formed rfl h
  · refine .ite ?_ ?_
    · exact (frame_reject _ _ _ _ _ _).formed rfl h
    · refine .ite ?_ ?_
      · exact (frame_nodeResult _ _ _ _).formed rfl h
      · split
        · exact (frame_nodeResult _ _ _ _).formed rfl (formed_coreLost _ h)
        · beta_reduce
          extract_lets _ _ _ _ _ _ _ _ _
          exact .ite ((frame_nodeResult _ _ _ _).formed rfl ((frame_coreMended _ _).formed rfl h)) (.ite
            ((frame_nodeResult _ _ _ _).formed rfl ((frame_coreMended _ _).formed rfl h)) (.ite
            ((frame_nodeResult _ _ _ _).formed rfl ((frame_coreMended _ _).formed rfl h))
            ((frame_nodeResult _ _ _ _).formed rfl ((frame_cacheDrop _ _).formed rfl (formed_setNode _ _
            ((frame_coreMended _ _).formed rfl h))))))
        · beta_reduce
          extract_lets _ _ _ _ _ _ _ _ _
          exact .ite ((frame_nodeResult _ _ _ _).formed rfl h) (.ite ((frame_nodeResult _ _ _ _).formed rfl h) (.ite
            ((frame_nodeResult _ _ _ _).formed rfl h) ((frame_nodeResult _ _ _ _).formed rfl
            ((frame_cacheDrop _ _).formed rfl (formed_setNode _ _ h)))))

theorem formed_nodeUpdate (a0 : Nat) (a1 : NodeFind) {s : State} (h : MemoryFormed s) :
    MemoryFormed (nodeUpdate a0 a1 s) := by
  unfold nodeUpdate
  unfold nodeCmd
  extract_lets _
  refine .ite ?_ ?_
  · exact (frame_reject _ _ _ _ _ _).formed rfl h
  · refine .ite ?_ ?_
    · exact (frame_reject _ _ _ _ _ _).formed rfl h
    · refine .ite ?_ ?_
      · exact (frame_nodeResult _ _ _ _).formed rfl h
      · split
        · exact (frame_nodeResult _ _ _ _).formed rfl (formed_coreLost _ h)
        · beta_reduce
          extract_lets _ _ _ _ _ _ _ _ _ _
          exact .ite ((frame_nodeResult _ _ _ _).formed rfl ((frame_coreMended _ _).formed rfl h)) (.ite
            ((frame_nodeResult _ _ _ _).formed rfl ((frame_coreMended _ _).formed rfl h)) (.ite
            ((frame_nodeResult _ _ _ _).formed rfl ((frame_coreMended _ _).formed rfl h)) (.ite
            ((frame_nodeResult _ _ _ _).formed rfl ((frame_coreMended _ _).formed rfl h))
            ((frame_nodeResult _ _ _ _).formed rfl (formed_setNode _ _ (.ite ((frame_cacheDrop _ _).formed rfl
            ((frame_coreMended _ _).formed rfl h)) ((frame_coreMended _ _).formed rfl h)))))))
        · beta_reduce
          extract_lets _ _ _ _ _ _ _ _ _ _
          exact .ite ((frame_nodeResult _ _ _ _).formed rfl h) (.ite ((frame_nodeResult _ _ _ _).formed rfl h) (.ite
            ((frame_nodeResult _ _ _ _).formed rfl h) (.ite ((frame_nodeResult _ _ _ _).formed rfl h)
            ((frame_nodeResult _ _ _ _).formed rfl (formed_setNode _ _ (.ite
            ((frame_cacheDrop _ _).formed rfl h) h))))))

theorem formed_nodeRemove (a0 : Nat) (a1 : NodeFind) {s : State} (h : MemoryFormed s) :
    MemoryFormed (nodeRemove a0 a1 s) := by
  unfold nodeRemove
  unfold nodeCmd
  extract_lets _
  refine .ite ?_ ?_
  · exact (frame_reject _ _ _ _ _ _).formed rfl h
  · refine .ite ?_ ?_
    · exact (frame_reject _ _ _ _ _ _).formed rfl h
    · refine .ite ?_ ?_
      · exact (frame_nodeResult _ _ _ _).formed rfl h
      · split
        · exact (frame_nodeResult _ _ _ _).formed rfl (formed_coreLost _ h)
        · beta_reduce
          exact .ite ((frame_nodeResult _ _ _ _).formed rfl ((frame_coreMended _ _).formed rfl h)) (.ite
            ((frame_nodeResult _ _ _ _).formed rfl ((frame_coreMended _ _).formed rfl h))
            ((frame_nodeResult _ _ _ _).formed rfl (formed_endNodeFrames _ _ ((frame_cacheDrop _ _).formed rfl
            (formed_setNode _ _ ((frame_coreMended _ _).formed rfl h))))))
        · beta_reduce
          exact .ite ((frame_nodeResult _ _ _ _).formed rfl h) (.ite ((frame_nodeResult _ _ _ _).formed rfl h)
            ((frame_nodeResult _ _ _ _).formed rfl (formed_endNodeFrames _ _ ((frame_cacheDrop _ _).formed rfl
            (formed_setNode _ _ h)))))

theorem formed_nodePin (a0 : Nat) (a1 : NodeFind) {s : State} (h : MemoryFormed s) :
    MemoryFormed (nodePin a0 a1 s) := by
  unfold nodePin
  unfold nodeCmd
  extract_lets _
  refine .ite ?_ ?_
  · exact (frame_reject _ _ _ _ _ _).formed rfl h
  · refine .ite ?_ ?_
    · exact (frame_reject _ _ _ _ _ _).formed rfl h
    · refine .ite ?_ ?_
      · exact (frame_nodeResult _ _ _ _).formed rfl h
      · split
        · exact (frame_nodeResult _ _ _ _).formed rfl (formed_coreLost _ h)
        · beta_reduce
          extract_lets _
          refine .ite ?_ ?_
          · exact (frame_nodeResult _ _ _ _).formed rfl ((frame_coreMended _ _).formed rfl h)
          · split
            · exact (frame_nodeResult _ _ _ _).formed rfl ((frame_coreMended _ _).formed rfl h)
            · refine .ite ?_ ?_
              · exact (frame_nodeResult _ _ _ _).formed rfl ((frame_coreMended _ _).formed rfl h)
              · extract_lets _ _
                exact (frame_nodeResult _ _ _ _).formed rfl (formed_setNode _ _ ((frame_coreMended _ _).formed rfl h))
        · beta_reduce
          extract_lets _
          refine .ite ?_ ?_
          · exact (frame_nodeResult _ _ _ _).formed rfl h
          · split
            · exact (frame_nodeResult _ _ _ _).formed rfl h
            · refine .ite ?_ ?_
              · exact (frame_nodeResult _ _ _ _).formed rfl h
              · extract_lets _ _
                exact (frame_nodeResult _ _ _ _).formed rfl (formed_setNode _ _ h)

theorem formed_nodeUnpin (a0 : Nat) {s : State} (h : MemoryFormed s) :
    MemoryFormed (nodeUnpin a0 s) := by
  unfold nodeUnpin
  unfold nodeCmd
  extract_lets _
  refine .ite ?_ ?_
  · exact (frame_reject _ _ _ _ _ _).formed rfl h
  · refine .ite ?_ ?_
    · exact (frame_reject _ _ _ _ _ _).formed rfl h
    · refine .ite ?_ ?_
      · exact (frame_nodeResult _ _ _ _).formed rfl h
      · split
        · exact (frame_nodeResult _ _ _ _).formed rfl (formed_coreLost _ h)
        · beta_reduce
          extract_lets _ _
          exact .ite ((frame_nodeResult _ _ _ _).formed rfl ((frame_coreMended _ _).formed rfl h))
            ((frame_nodeResult _ _ _ _).formed rfl (formed_setNode _ _ ((frame_coreMended _ _).formed rfl h)))
        · beta_reduce
          extract_lets _ _
          exact .ite ((frame_nodeResult _ _ _ _).formed rfl h) ((frame_nodeResult _ _ _ _).formed rfl
            (formed_setNode _ _ h))

theorem formed_nodeGo (a0 : Nat) {s : State} (h : MemoryFormed s) :
    MemoryFormed (nodeGo a0 s) := by
  unfold nodeGo
  extract_lets _
  split
  · exact formed_nodeRead _ _ h
  · exact formed_nodeAdmit _ _ h
  · exact formed_nodeUpdate _ _ h
  · exact formed_nodeRemove _ _ h
  · exact formed_nodePin _ _ h
  · exact formed_nodeUnpin _ h

theorem formed_windowClose (a0 : Nat) (a1 : Nat) {s : State} (h : MemoryFormed s) :
    MemoryFormed (windowClose a0 a1 s) := by
  unfold windowClose
  refine .ite ?_ ?_
  · extract_lets _ x1 x2
    have h3 : MemoryFormed x1 := formed_endFrames _ _ h
    clear_value x1
    have h4 : MemoryFormed x2 := .incBy h3
    clear_value x2
    exact (frame_showWindowOpen _ _).formed rfl ((frame_modCampaign _ _ _).formed rfl h4)
  · exact h

theorem formed_dissemSetup (a0 : Nat) {s : State} (h : MemoryFormed s) :
    MemoryFormed (dissemSetup a0 s) := by
  unfold dissemSetup
  unfold dissemCmd
  extract_lets _ _
  refine .ite ?_ ?_
  · exact (frame_reject _ _ _ _ _ _).formed rfl h
  · refine .ite ?_ ?_
    · exact (frame_reject _ _ _ _ _ _).formed rfl h
    · beta_reduce
      refine .ite ?_ ?_
      · exact (frame_dissemResult _ _ _).formed rfl h
      · refine .ite ?_ ?_
        · exact (frame_dissemResult _ _ _).formed rfl h
        · extract_lets x2 x3 x4
          have h5 : MemoryFormed x2 := .foldl h (fun _ _ h6 => formed_windowClose _ _ h6)
          clear_value x2
          have h7 : MemoryFormed x3 := (frame_modCampaign _ _ _).formed rfl ((frame_setCState _ _ _).formed rfl h5)
          clear_value x3
          have h8 : MemoryFormed x4 := .wr h7
          clear_value x4
          exact .wr (.wr (.wr h8))

theorem formed_dissemEnd (a0 : Nat) (a1 : Nat) (a2 : EndReason) {s : State} (h : MemoryFormed s) :
    MemoryFormed (dissemEnd a0 a1 a2 s) := by
  unfold dissemEnd
  unfold dissemCmd
  extract_lets _ _
  refine .ite ?_ ?_
  · exact (frame_reject _ _ _ _ _ _).formed rfl h
  · refine .ite ?_ ?_
    · exact (frame_reject _ _ _ _ _ _).formed rfl h
    · beta_reduce
      exact .ite ((frame_dissemResult _ _ _).formed rfl ((frame_setCState _ _ _).formed rfl h)) (.ite
        ((frame_dissemResult _ _ _).formed rfl (formed_endCampaign _ _ h)) ((frame_dissemResult _ _ _).formed rfl h))

theorem formed_dissemExport (a0 : Nat) (a1 : Bool) {s : State} (h : MemoryFormed s) :
    MemoryFormed (dissemExport a0 a1 s) := by
  unfold dissemExport
  unfold dissemCmd
  extract_lets _ _
  exact .ite ((frame_reject _ _ _ _ _ _).formed rfl h) (.ite ((frame_reject _ _ _ _ _ _).formed rfl h) (.ite
    ((frame_dissemResult _ _ _).formed rfl h) (.ite ((frame_dissemResult _ _ _).formed rfl h)
    ((frame_dissemResult _ _ _).formed rfl (.set_ddr (wf_copyRange h _ _ _))))))

theorem formed_dissemGo (a0 : Nat) {s : State} (h : MemoryFormed s) :
    MemoryFormed (dissemGo a0 s) := by
  unfold dissemGo
  extract_lets _
  split
  · exact formed_dissemSetup _ h
  · exact (frame_dissemStart _ _).formed rfl h
  · exact formed_dissemEnd _ _ _ h
  · exact formed_dissemEnd _ _ _ h
  · exact (frame_dissemClear _ _).formed rfl h
  · exact formed_dissemExport _ _ h

theorem formed_relinquish {s : State} (h : MemoryFormed s) :
    MemoryFormed (relinquish s) := by
  unfold relinquish
  extract_lets x0 x1 x2
  have h3 : MemoryFormed x0 := (frame_holdLines _).formed rfl h
  clear_value x0
  have h4 : MemoryFormed x1 := (frame_setRole _ _).formed rfl ((frame_modRope _ _).formed rfl h3)
  clear_value x1
  have h5 : MemoryFormed x2 := formed_endFrames _ _ h4
  clear_value x2
  exact formed_endReasm h5

theorem formed_ropeRelinquish {s : State} (h : MemoryFormed s) :
    MemoryFormed (ropeRelinquish s) := by
  unfold ropeRelinquish
  exact .ite (.wr (formed_relinquish h)) (.wr h)

theorem formed_ltResume {s : State} (h : MemoryFormed s) :
    MemoryFormed (ltResume s) := by
  unfold ltResume
  extract_lets _ x1
  have h2 : MemoryFormed x1 := .wr h
  clear_value x1
  exact .ite (.wr h) (.ite ((frame_refreshListen _).formed rfl ((frame_setRf _ _ _).formed rfl
    (formed_endLanes _ _ h2))) (.ite ((frame_refreshListen _).formed rfl h2) ((frame_modFe _ _ _).formed rfl h2)))

theorem formed_startRing (a0 : Nat) {s : State} (h : MemoryFormed s) :
    MemoryFormed (startRing a0 s) := by
  unfold startRing
  extract_lets _ x1 x2
  have h3 : MemoryFormed x1 := formed_winWrite _ _ h
  clear_value x1
  have h4 : MemoryFormed x2 := .wr (.wr h3)
  clear_value x2
  exact (frame_refreshLevel _ _).formed rfl ((frame_modRing _ _ _).formed rfl (.wr h4))

theorem formed_afterStore (a0 : Nat) (a1 : Nat) (a2 : Nat) (a3 : State) {s : State} (h : MemoryFormed s) :
    MemoryFormed (afterStore a0 a1 a2 a3 s) := by
  unfold afterStore
  split
  · exact .ite ((shows_settle (fun _ => true) rfl _ _ _).formed h) h
  · exact .ite (formed_ltResume h) h
  · exact .ite ((frame_refreshListen _).formed rfl h) h
  · extract_lets x7
    clear_value x7
    split
    · exact .ite ((frame_fillMeter _ _).formed rfl h) h
    · exact h
  · exact .ite ((frame_recountComplete _ _).formed rfl h) ((frame_noteBase _ _ _).formed rfl h)
  · exact formed_refreshLink _ h
  · exact formed_refreshLink _ h
  · exact .ite ((frame_ppsEnabled _).formed rfl h) h
  · refine .ite ?_ ?_
    · extract_lets _ _ _
      exact .ite (formed_startRing _ h) (.ite (.foldl ((frame_modRing _ _ _).formed rfl h)
        (fun _ _ h18 => formed_endItem _ _ h18)) h)
    · exact h
  · exact .ite ((frame_showEdges _).formed rfl h) (.ite ((frame_showDriven _).formed rfl h) h)
  · exact (frame_noteBase _ _ _).formed rfl h

theorem formed_windowRecord (a0 : Nat) (a1 : List (Nat × Nat)) {s : State} (h : MemoryFormed s) :
    MemoryFormed (windowRecord a0 a1 s) := by
  unfold windowRecord
  exact formed_setNode _ _ h

theorem formed_windowWrite (a0 : Nat) (a1 : Bool) (a2 : List Word) {s : State} (h : MemoryFormed s) :
    MemoryFormed (windowWrite a0 a1 a2 s) := by
  unfold windowWrite
  refine .ite ?_ ?_
  · exact (frame_windowDiscard _ _).formed rfl h
  · extract_lets _ _ _
    split
    · exact (frame_windowDiscard _ _).formed rfl h
    · exact .foldl h (fun _ _ h3 => formed_windowRecord _ _ h3)

theorem formed_followKeyChange (a0 : Nat) {s : State} (h : MemoryFormed s) :
    MemoryFormed (followKeyChange a0 s) := by
  unfold followKeyChange
  refine .foldl h (fun _ _ h0 => ?_)
  split
  · split
    · exact .ite (formed_cutTx _ _ ((frame_suppress _).formed rfl h0)) h0
    · exact h0
  · exact h0

theorem formed_changeSlot (a0 : Nat) (a1 : Slot) {s : State} (h : MemoryFormed s) :
    MemoryFormed (changeSlot a0 a1 s) := by
  unfold changeSlot
  exact formed_followKeyChange _ ((frame_setSlot _ _ _).formed rfl h)

theorem formed_placeKey (a0 : Nat) (a1 : BitVec 32) (a2 : List Byte) (a3 : Option (Nat × Nat)) {s : State}
    (h : MemoryFormed s) :
    MemoryFormed (placeKey a0 a1 a2 a3 s) := by
  unfold placeKey
  extract_lets _ _ _ _
  exact .ite ((frame_loadEnd _ _ _).formed rfl (formed_changeSlot _ _ h)) (.ite ((frame_loadEnd _ _ _).formed rfl h)
    (.ite ((frame_loadEnd _ _ _).formed rfl h) ((frame_loadStatus _ _ _ _).formed rfl (.set_keyOp h))))

theorem formed_keyLoad (a0 : Nat) {s : State} (h : MemoryFormed s) :
    MemoryFormed (keyLoad a0 s) := by
  unfold keyLoad
  unfold commit
  unfold bar4Command
  refine .ite ?_ ?_
  · exact (frame_trustDenied _).formed rfl h
  · refine .ite ?_ ?_
    · exact (frame_reject4 _ _ _ _).formed rfl h
    · beta_reduce
      refine .ite ?_ ?_
      · exact (frame_reject4 _ _ _ _).formed rfl h
      · refine .ite ?_ ?_
        · exact (frame_loadEnd _ _ _).formed rfl h
        · extract_lets _
          exact .ite ((frame_loadEnd _ _ _).formed rfl h) (formed_placeKey _ _ _ _ h)

theorem formed_keyUnwrapLoad (a0 : Nat) {s : State} (h : MemoryFormed s) :
    MemoryFormed (keyUnwrapLoad a0 s) := by
  unfold keyUnwrapLoad
  unfold commit
  unfold bar4Command
  refine .ite ?_ ?_
  · exact (frame_trustDenied _).formed rfl h
  · refine .ite ?_ ?_
    · exact (frame_reject4 _ _ _ _).formed rfl h
    · beta_reduce
      refine .ite ?_ ?_
      · exact (frame_reject4 _ _ _ _).formed rfl h
      · refine .ite ?_ ?_
        · exact (frame_loadEnd _ _ _).formed rfl h
        · extract_lets _
          refine .ite ?_ ?_
          · exact (frame_loadEnd _ _ _).formed rfl h
          · refine .ite ?_ ?_
            · exact (frame_loadEnd _ _ _).formed rfl h
            · unfold withParent
              extract_lets _ x9
              have h10 : MemoryFormed x9.2 := (frame_useSlot _ _ _ _).formed rfl h
              clear_value x9
              split
              · beta_reduce
                refine .ite ?_ ?_
                · exact (frame_loadEnd _ _ _).formed rfl h10
                · split
                  · exact (frame_loadEnd _ _ _).formed rfl h10
                  · exact formed_placeKey _ _ _ _ h10
              · exact (frame_loadEnd _ _ _).formed rfl h10

theorem formed_keyDerive (a0 : Nat) (a1 : Nat) (a2 : Nat) {s : State} (h : MemoryFormed s) :
    MemoryFormed (keyDerive a0 a1 a2 s) := by
  unfold keyDerive
  unfold commit
  unfold bar4Command
  refine .ite ?_ ?_
  · exact (frame_trustDenied _).formed rfl h
  · refine .ite ?_ ?_
    · exact (frame_reject4 _ _ _ _).formed rfl h
    · beta_reduce
      refine .ite ?_ ?_
      · exact (frame_reject4 _ _ _ _).formed rfl h
      · refine .ite ?_ ?_
        · exact (frame_loadEnd _ _ _).formed rfl h
        · extract_lets _ _ _ _
          refine .ite ?_ ?_
          · exact (frame_loadEnd _ _ _).formed rfl h
          · refine .ite ?_ ?_
            · exact (frame_loadEnd _ _ _).formed rfl h
            · unfold withParent
              extract_lets _ x12
              have h13 : MemoryFormed x12.2 := (frame_useSlot _ _ _ _).formed rfl h
              clear_value x12
              split
              · beta_reduce
                exact .ite ((frame_loadEnd _ _ _).formed rfl h13) (.ite ((frame_loadEnd _ _ _).formed rfl h13)
                  (formed_placeKey _ _ _ _ h13))
              · exact (frame_loadEnd _ _ _).formed rfl h13

theorem formed_keyErase (a0 : Nat) (a1 : Bool) {s : State} (h : MemoryFormed s) :
    MemoryFormed (keyErase a0 a1 s) := by
  unfold keyErase
  unfold commit
  unfold bar4Command
  refine .ite ?_ ?_
  · exact (frame_trustDenied _).formed rfl h
  · refine .ite ?_ ?_
    · exact (frame_reject4 _ _ _ _).formed rfl h
    · beta_reduce
      refine .ite ?_ ?_
      · exact (frame_reject4 _ _ _ _).formed rfl h
      · refine .ite ?_ ?_
        · exact (frame_loadEnd _ _ _).formed rfl h
        · extract_lets _ _ x9 x10
          have h11 : MemoryFormed x9 := .set_journal h
          clear_value x9
          have h12 : MemoryFormed x10 := .ite (.wr h11) h
          clear_value x10
          exact (frame_loadEnd _ _ _).formed rfl (formed_changeSlot _ _ h12)

theorem formed_keyExport (a0 : Nat) (a1 : Bool) {s : State} (h : MemoryFormed s) :
    MemoryFormed (keyExport a0 a1 s) := by
  unfold keyExport
  unfold commit
  unfold bar4Command
  refine .ite ?_ ?_
  · exact (frame_trustDenied _).formed rfl h
  · refine .ite ?_ ?_
    · exact (frame_reject4 _ _ _ _).formed rfl h
    · beta_reduce
      refine .ite ?_ ?_
      · exact (frame_reject4 _ _ _ _).formed rfl h
      · refine .ite ?_ ?_
        · exact (frame_loadEnd _ _ _).formed rfl h
        · extract_lets _
          exact .ite ((frame_loadEnd _ _ _).formed rfl h) (.ite ((frame_loadEnd _ _ _).formed rfl
            ((frame_ddrLostIf _ _ _).formed rfl h)) ((frame_loadEnd _ _ _).formed rfl (.set_ddr
            (wf_writeOctets h _ _))))

theorem formed_keyImport (a0 : Nat) (a1 : Bool) {s : State} (h : MemoryFormed s) :
    MemoryFormed (keyImport a0 a1 s) := by
  unfold keyImport
  unfold commit
  unfold bar4Command
  refine .ite ?_ ?_
  · exact (frame_trustDenied _).formed rfl h
  · refine .ite ?_ ?_
    · exact (frame_reject4 _ _ _ _).formed rfl h
    · beta_reduce
      refine .ite ?_ ?_
      · exact (frame_reject4 _ _ _ _).formed rfl h
      · refine .ite ?_ ?_
        · exact (frame_loadEnd _ _ _).formed rfl h
        · refine .ite ?_ ?_
          · exact (frame_loadEnd _ _ _).formed rfl ((frame_ddrLostIf _ _ _).formed rfl h)
          · extract_lets _ _ _
            split
            · exact (frame_loadEnd _ _ _).formed rfl h
            · exact .ite ((frame_loadEnd _ _ _).formed rfl h) (formed_placeKey _ _ _ _ h)

theorem formed_keyWrapOut (a0 : Nat) (a1 : Bool) {s : State} (h : MemoryFormed s) :
    MemoryFormed (keyWrapOut a0 a1 s) := by
  unfold keyWrapOut
  unfold commit
  unfold bar4Command
  refine .ite ?_ ?_
  · exact (frame_trustDenied _).formed rfl h
  · refine .ite ?_ ?_
    · exact (frame_reject4 _ _ _ _).formed rfl h
    · beta_reduce
      refine .ite ?_ ?_
      · exact (frame_reject4 _ _ _ _).formed rfl h
      · refine .ite ?_ ?_
        · exact (frame_loadEnd _ _ _).formed rfl h
        · unfold withParent
          extract_lets _ x1
          have h2 : MemoryFormed x1.2 := (frame_useSlot _ _ _ _).formed rfl h
          clear_value x1
          split
          · beta_reduce
            refine .ite ?_ ?_
            · exact (frame_loadEnd _ _ _).formed rfl ((frame_ddrLostIf _ _ _).formed rfl h2)
            · extract_lets _
              exact (frame_loadEnd _ _ _).formed rfl (.set_ddr (wf_writeOctets h2 _ _))
          · exact (frame_loadEnd _ _ _).formed rfl h2

theorem formed_commitGo (a0 : Nat) {s : State} (h : MemoryFormed s) :
    MemoryFormed (commitGo a0 s) := by
  unfold commitGo
  extract_lets _
  split
  · exact formed_keyLoad _ h
  · exact formed_keyUnwrapLoad _ h
  · exact formed_keyDerive _ _ _ h
  · exact formed_keyErase _ _ h
  · exact formed_keyExport _ _ h
  · exact formed_keyImport _ _ h
  · exact formed_keyWrapOut _ _ h

theorem formed_windowRead (a0 : Nat) (a1 : Nat) (a2 : Parity) {s : State} (h : MemoryFormed s) :
    MemoryFormed (windowRead a0 a1 a2 s) := by
  unfold windowRead
  extract_lets x0 _ _
  have h3 : MemoryFormed x0 := by
    unfold x0
    split
    · exact h
    · exact (frame_coreMended _ _).formed rfl h
    · exact formed_coreLost _ h
  clear_value x0
  exact h3

theorem formed_pageFault (a0 : Nat) (a1 : Nat) {s : State} (h : MemoryFormed s) :
    MemoryFormed (pageFault a0 a1 s) := by
  unfold pageFault
  extract_lets _ x16 x17
  have h18 : MemoryFormed x16 := (frame_setPageState _ _ _).formed rfl (.wr h)
  clear_value x16
  have h19 : MemoryFormed x17 := (frame_abortTest _ _).formed rfl ((frame_cancelWaiting _ _).formed rfl h)
  clear_value x17
  refine .ite ?_ ?_
  · exact h
  · refine .ite ?_ ?_
    · exact .ite (.latch h18) h18
    · split
      · exact (frame_feFault _ _ _).formed rfl (formed_abortWork _ h19)
      · exact (frame_setPageState _ _ _).formed rfl (.wr ((frame_withdrawFor _ _).formed rfl (formed_abortWork _ h19)))

theorem formed_startDone (a0 : Nat) (a1 : Option Byte) {s : State} (h : MemoryFormed s) :
    MemoryFormed (startDone a0 a1 s) := by
  unfold startDone
  refine .ite ?_ ?_
  · exact h
  · split
    · exact formed_pageFault _ _ h
    · exact .ite h (formed_enterRun _ ((frame_setPageState _ _ _).formed rfl h))

theorem formed_drainDone (a0 : Nat) {s : State} (h : MemoryFormed s) :
    MemoryFormed (drainDone a0 s) := by
  unfold drainDone
  exact .ite (formed_toStopped _ _ h) h

theorem formed_blockFaulted (a0 : Nat) {s : State} (h : MemoryFormed s) :
    MemoryFormed (blockFaulted a0 s) := by
  unfold blockFaulted
  exact formed_pageFault _ _ h

theorem formed_retuneExpiry (a0 : Nat) {s : State} (h : MemoryFormed s) :
    MemoryFormed (retuneExpiry a0 s) := by
  unfold retuneExpiry
  exact .ite (formed_beginRetune _ h) h

theorem formed_backToPending (a0 : Nat) {s : State} (h : MemoryFormed s) :
    MemoryFormed (backToPending a0 s) := by
  unfold backToPending
  split
  · exact h
  · split
    · exact formed_endFrame _ _ h
    · exact .ite (formed_endFrame _ _ h) (.ite (formed_endFrame _ _ (.latch (.inc h)))
        ((frame_countPending _).formed rfl (formed_syncPending _ ((frame_recount _ _).formed rfl
        ((frame_setFrame _ _ _).formed rfl h)))))

theorem formed_answerGrant (a0 : Nat) (a1 : Bool) {s : State} (h : MemoryFormed s) :
    MemoryFormed (answerGrant a0 a1 s) := by
  unfold answerGrant
  split
  · exact h
  · refine .ite ?_ ?_
    · exact h
    · split
      · exact h
      · extract_lets x0 x1
        have h2 : MemoryFormed x0 := (frame_paFalls _ _).formed rfl ((frame_modFe _ _ _).formed rfl h)
        clear_value x0
        have h3 : MemoryFormed x1 := (frame_dwellSettle _ _ _ _).formed rfl h2
        clear_value x1
        exact (frame_setRf _ _ _).formed rfl (.inc h3)
      · extract_lets x4 x5
        have h6 : MemoryFormed x4 := (frame_paFalls _ _).formed rfl ((frame_modFe _ _ _).formed rfl h)
        clear_value x4
        have h7 : MemoryFormed x5 := (frame_dwellSettle _ _ _ _).formed rfl ((frame_freeEngine _ _).formed rfl h6)
        clear_value x5
        exact formed_backToPending _ ((frame_setRf _ _ _).formed rfl (.inc h7))

theorem formed_frameSent (a0 : Nat) (a1 : Tx) {s : State} (h : MemoryFormed s) :
    MemoryFormed (frameSent a0 a1 s) := by
  unfold frameSent
  split
  · exact h
  · extract_lets x0 x1
    have h2 : MemoryFormed x0 := by
      unfold x0
      split
      · exact .inc h
      · exact h
    clear_value x0
    have h3 : MemoryFormed x1 := .ite (.inc h2) h2
    clear_value x1
    exact .ite ((frame_setFrame _ _ _).formed rfl h3) (formed_endFrame _ _ h3)

theorem formed_txLastSymbol (a0 : Nat) {s : State} (h : MemoryFormed s) :
    MemoryFormed (txLastSymbol a0 s) := by
  unfold txLastSymbol
  split
  · exact h
  · refine .ite ?_ ?_
    · exact h
    · extract_lets x0 x1
      have h2 : MemoryFormed x0 := (frame_advanceSeed _ _ _).formed rfl ((frame_freeEngine _ _).formed rfl
        ((frame_chargeTx _ _ _).formed rfl h))
      clear_value x0
      have h3 : MemoryFormed x1 := (frame_setRf _ _ _).formed rfl ((frame_reqFalls _ _).formed rfl
        ((frame_modFe _ _ _).formed rfl h2))
      clear_value x1
      split
      · exact formed_frameSent _ _ h3
      · exact formed_frameSent _ _ h3
      · exact h3

theorem formed_txRxElapsed (a0 : Nat) {s : State} (h : MemoryFormed s) :
    MemoryFormed (txRxElapsed a0 s) := by
  unfold txRxElapsed
  refine .ite ?_ ?_
  · exact h
  · extract_lets _ x1
    have h2 : MemoryFormed x1 := (frame_modFe _ _ _).formed rfl h
    clear_value x1
    exact .ite ((frame_setRf _ _ _).formed rfl h2) (.ite (.ite ((frame_relock _ _).formed rfl h2)
      ((frame_nextCal _ _).formed rfl h2)) ((frame_unrelievedStep _ _).formed rfl (formed_retuneStep _
      ((frame_setRf _ _ _).formed rfl h2))))

theorem formed_dwellStop (a0 : Nat) {s : State} (h : MemoryFormed s) :
    MemoryFormed (dwellStop a0 s) := by
  unfold dwellStop
  exact .ite (formed_cutTx _ _ h) h

theorem formed_markSkipped (a0 : Nat) {s : State} (h : MemoryFormed s) :
    MemoryFormed (markSkipped a0 s) := by
  unfold markSkipped
  exact .latch (.inc (formed_modNode _ _ h))

theorem formed_refusedStart (a0 : Nat) (a1 : Disp) {s : State} (h : MemoryFormed s) :
    MemoryFormed (refusedStart a0 a1 s) := by
  unfold refusedStart
  split
  · exact h
  · split
    · exact formed_endFrame _ _ (formed_markSkipped _ h)
    · exact formed_endFrame _ _ h

theorem formed_skipAppointment (a0 : Nat) (a1 : Nat) {s : State} (h : MemoryFormed s) :
    MemoryFormed (skipAppointment a0 a1 s) := by
  unfold skipAppointment
  extract_lets x0
  have h1 : MemoryFormed x0 := formed_markSkipped _ h
  clear_value x0
  split
  · exact h1
  · extract_lets x2 x3
    have h4 : MemoryFormed x2 := (frame_leaveCommitted _ _ _).formed rfl ((frame_dutyRelease _ _).formed rfl h1)
    clear_value x2
    have h5 : MemoryFormed x3 := (frame_setFrame _ _ _).formed rfl h4
    clear_value x3
    exact (frame_countPending _).formed rfl (formed_syncPending _ ((frame_recount _ _).formed rfl h5))

theorem formed_slipExpiry (a0 : Nat) {s : State} (h : MemoryFormed s) :
    MemoryFormed (slipExpiry a0 s) := by
  unfold slipExpiry
  split
  · exact h
  · split
    · extract_lets x0 x1
      have h2 : MemoryFormed x0 := by
        unfold x0
        split
        · exact .latch (.inc h)
        · exact h
      clear_value x0
      have h3 : MemoryFormed x1 := by
        unfold x1
        split
        · exact .latch (.inc h2)
        · exact h2
      clear_value x1
      refine .ite ?_ ?_
      · split
        · exact formed_skipAppointment _ _ h2
        · exact formed_endFrame _ _ h2
      · split
        · exact formed_endFrame _ _ h2
        · exact formed_endFrame _ _ h2
        · exact formed_endFrame _ _ h3
    · exact h

theorem formed_cannotStart (a0 : Nat) (a1 : Disp) {s : State} (h : MemoryFormed s) :
    MemoryFormed (cannotStart a0 a1 s) := by
  unfold cannotStart
  split
  · exact h
  · split
    · exact formed_skipAppointment _ _ h
    · exact formed_endFrame _ _ h

theorem formed_storePending (a0 : Nat) {s : State} (h : MemoryFormed s) :
    MemoryFormed (storePending a0 s) := by
  unfold storePending
  split
  · exact h
  · split
    · exact formed_endFrame _ _ h
    · refine .ite ?_ ?_
      · exact h
      · refine .ite ?_ ?_
        · exact formed_endFrame _ _ h
        · refine .ite ?_ ?_
          · exact formed_endFrame _ _ h
          · refine .ite ?_ ?_
            · exact formed_endFrame _ _ (.inc h)
            · extract_lets x0 x1 x2 x3
              have h4 : MemoryFormed x0 := (frame_setFrame _ _ _).formed rfl h
              clear_value x0
              have h5 : MemoryFormed x1 := (frame_countPending _).formed rfl (formed_syncPending _
                ((frame_recount _ _).formed rfl h4))
              clear_value x1
              have h6 : MemoryFormed x2 := .inc h5
              clear_value x2
              have h7 : MemoryFormed x3 := .inc h6
              clear_value x3
              refine .ite ?_ ?_
              · split
                · exact formed_endFrame _ _ h7
                · exact h7
              · exact h6

theorem formed_unmatched (a0 : Nat) {s : State} (h : MemoryFormed s) :
    MemoryFormed (unmatched a0 s) := by
  unfold unmatched
  split
  · exact h
  · exact .ite h (.ite (formed_backToPending _ h) (.ite ((frame_requeueHead _ _).formed rfl (.inc h)) (.ite
      (formed_storePending _ h) (formed_endFrame _ _ h))))

theorem formed_closeWait (a0 : Nat) {s : State} (h : MemoryFormed s) :
    MemoryFormed (closeWait a0 s) := by
  unfold closeWait
  split
  · exact formed_unmatched _ h
  · exact h

theorem formed_preemptLanes (a0 : Nat) (a1 : Nat) (a2 : Nat) {s : State} (h : MemoryFormed s) :
    MemoryFormed (preemptLanes a0 a1 a2 s) := by
  unfold preemptLanes
  extract_lets _
  exact .ite (formed_endLanes _ _ h) (formed_endLanes _ _ h)

theorem formed_enterRxTx (a0 : Nat) (a1 : Tx) {s : State} (h : MemoryFormed s) :
    MemoryFormed (enterRxTx a0 a1 s) := by
  unfold enterRxTx
  extract_lets x0
  have h1 : MemoryFormed x0 := formed_preemptLanes _ _ _ h
  clear_value x0
  exact (frame_setRf _ _ _).formed rfl ((frame_modFe _ _ _).formed rfl h1)

theorem formed_startScheduled (a0 : Nat) (a1 : Nat) (a2 : Nat) (a3 : Frame) (a4 : Option Nat)
    (a5 : Option Nat) {s : State} (h : MemoryFormed s) :
    MemoryFormed (startScheduled a0 a1 a2 a3 a4 a5 s) := by
  unfold startScheduled
  generalize e0 : assignSeq _ _ _ = p1
  obtain ⟨_, _⟩ := p1
  dsimp only
  have h2 := MemoryFormed.viaEq e0 ((frame_assignSeq _ _ _).formed rfl h)
  exact formed_enterRxTx _ _ ((frame_startPower _ _ _ _).formed rfl (.inc ((frame_setFrame _ _ _).formed rfl (.ite
    (formed_closeWait _ h2) h2))))

theorem formed_enterRxTxFrame (a0 : Nat) {s : State} (h : MemoryFormed s) :
    MemoryFormed (enterRxTxFrame a0 s) := by
  unfold enterRxTxFrame
  split
  · exact h
  · split
    · exact (frame_heldBy _ _ _).formed rfl h
    · refine .ite ?_ ?_
      · refine .ite ?_ ?_
        · extract_lets x7
          have h8 : MemoryFormed x7 := .ite h ((frame_modFrame _ _ _).formed rfl (.inc h))
          clear_value x7
          exact (frame_heldBy _ _ _).formed rfl h8
        · exact (frame_heldBy _ _ _).formed rfl h
      · refine .ite ?_ ?_
        · refine .ite ?_ ?_
          · unfold stageFirst
            split
            · exact formed_refusedStart _ _ h
            · exact formed_slipExpiry _ h
          · exact h
        · refine .ite ?_ ?_
          · exact (frame_heldBy _ _ _).formed rfl h
          · refine .ite ?_ ?_
            · exact (frame_heldBy _ _ _).formed rfl h
            · refine .ite ?_ ?_
              · exact (frame_heldBy _ _ _).formed rfl h
              · refine .ite ?_ ?_
                · refine .ite ?_ ?_
                  · unfold stageFirst
                    split
                    · exact formed_refusedStart _ _ h
                    · beta_reduce
                      exact formed_cannotStart _ _ (.latch (.inc ((frame_lowerReq _ _).formed rfl h)))
                  · exact (frame_heldBy _ _ _).formed rfl h
                · split
                  · unfold stageFirst
                    split
                    · exact formed_refusedStart _ _ h
                    · beta_reduce
                      exact formed_cannotStart _ _ ((frame_regCeiling _).formed rfl h)
                  · refine .ite ?_ ?_
                    · unfold stageFirst
                      split
                      · exact formed_refusedStart _ _ h
                      · beta_reduce
                        exact formed_cannotStart _ _ ((frame_regCeiling _).formed rfl h)
                    · extract_lets x16 x17 x18 _ _
                      have h21 : MemoryFormed x17 := .latch (.inc (.inc h))
                      clear_value x17
                      have h22 : MemoryFormed x18 := (frame_withdraw _ _).formed rfl h21
                      clear_value x18
                      clear_value x16
                      split
                      · exact (frame_heldBy _ _ _).formed rfl h
                      · refine .ite ?_ ?_
                        · exact (frame_heldBy _ _ _).formed rfl h21
                        · generalize e23 : draw _ = p24
                          obtain ⟨_, _⟩ := p24
                          dsimp only
                          have h25 := MemoryFormed.viaEq e23 ((frame_draw _).formed rfl h22)
                          exact (frame_modSched _ _ _).formed rfl h25
                      · refine .ite ?_ ?_
                        · unfold stageFirst
                          split
                          · exact formed_refusedStart _ _ h
                          · beta_reduce
                            exact formed_cannotStart _ _ ((frame_refusePower _ _ _ _).formed rfl h)
                        · generalize e26 : takeKey _ _ = p27
                          obtain ⟨_, _⟩ := p27
                          have h28 := MemoryFormed.viaEq e26 ((frame_takeKey _ _).formed rfl h)
                          split
                          · refine formed_refusedStart _ _ ?_
                            rename_i e32
                            have h33 := MemoryFormed.viaEq e32 h28
                            exact h33
                          · refine (frame_heldBy _ _ _).formed rfl ?_
                            rename_i e34
                            have h35 := MemoryFormed.viaEq e34 h28
                            exact h35
                          · refine .ite ?_ ?_
                            · refine formed_startScheduled _ _ _ _ _ _ ?_
                              rename_i e36
                              have h37 := MemoryFormed.viaEq e36 h28
                              exact h37
                            · generalize e38 : takeEngine _ = p39
                              obtain ⟨_, _⟩ := p39
                              have h40 := MemoryFormed.viaEq e38 (by
                                refine (frame_takeEngine _).formed rfl ?_
                                rename_i e41 _ _
                                have h42 := MemoryFormed.viaEq e41 h28
                                exact h42)
                              split
                              · refine formed_refusedStart _ _ ?_
                                rename_i e46
                                have h47 := MemoryFormed.viaEq e46 h40
                                exact h47
                              · refine formed_startScheduled _ _ _ _ _ _ ?_
                                rename_i e48
                                have h49 := MemoryFormed.viaEq e48 h40
                                exact h49

theorem formed_coexGrant (a0 : Nat) {s : State} (h : MemoryFormed s) :
    MemoryFormed (coexGrant a0 s) := by
  unfold coexGrant
  extract_lets x7
  have h8 : MemoryFormed x7 := (frame_modFe _ _ _).formed rfl h
  clear_value x7
  split
  · split
    · exact .ite (formed_enterRxTxFrame _ h8) h8
    · exact h8
  · exact h8

theorem formed_coexTimeout (a0 : Nat) {s : State} (h : MemoryFormed s) :
    MemoryFormed (coexTimeout a0 s) := by
  unfold coexTimeout
  split
  · exact .ite h (formed_cannotStart _ _ (.latch (.inc ((frame_lowerReq _ _).formed rfl h))))
  · exact h

theorem formed_coexWithdrawn (a0 : Nat) {s : State} (h : MemoryFormed s) :
    MemoryFormed (coexWithdrawn a0 s) := by
  unfold coexWithdrawn
  extract_lets x0
  have h1 : MemoryFormed x0 := (frame_modFe _ _ _).formed rfl h
  clear_value x0
  exact .ite (formed_cutTx _ _ (.latch (.inc h1))) h1

theorem formed_offer (a0 : Offer) (a1 : Bool) {s : State} (h : MemoryFormed s) :
    MemoryFormed (offer a0 a1 s) := by
  unfold offer
  extract_lets _ x1
  have h2 : MemoryFormed x1 := (frame_noteStarved _ _ _).formed rfl h
  clear_value x1
  refine .ite ?_ ?_
  · exact h
  · refine .ite ?_ ?_
    · split
      · exact (frame_bindLane _ _ _ _ _).formed rfl h
      · exact h
    · split
      · extract_lets _ x4 x5 _ x7 x8
        have h9 : MemoryFormed x4 := formed_endLane _ _ h
        clear_value x4
        have h10 : MemoryFormed x5 := formed_endLane _ _ h
        clear_value x5
        have h11 : MemoryFormed x7 := .set_preempts h10
        clear_value x7
        have h12 : MemoryFormed x8 := .latch (.inc h11)
        clear_value x8
        exact .ite ((frame_bindLane _ _ _ _ _).formed rfl h9) ((frame_bindLane _ _ _ _ _).formed rfl h12)
      · exact .ite h2 (.latch (.inc h2))

theorem formed_offerBetter (a0 : Offer) (a1 : List Report) {s : State} (h : MemoryFormed s) :
    MemoryFormed (offerBetter a0 a1 s) := by
  unfold offerBetter
  exact .ite (formed_offer _ _ ((frame_noteStarved _ _ _).formed rfl h)) (formed_offer _ _ h)

theorem formed_offerReport (a0 : Offer) (a1 : Bool) {s : State} (h : MemoryFormed s) :
    MemoryFormed (offerReport a0 a1 s) := by
  unfold offerReport
  extract_lets _ _ _ _ x4
  have h5 : MemoryFormed x4 := .ite ((frame_noteStarved _ _ _).formed rfl h) h
  clear_value x4
  exact .ite (.latch (.inc h5)) (formed_offer _ _ (.inc ((frame_setFe _ _ _).formed rfl h)))

theorem formed_detect (a0 : Nat) (a1 : Nat) (a2 : Nat) (a3 : Nat) (a4 : ℤ) (a5 : ℤ) (a6 : Nat)
    (a7 : Bool) {s : State} (h : MemoryFormed s) :
    MemoryFormed (detect a0 a1 a2 a3 a4 a5 a6 a7 s) := by
  unfold detect
  extract_lets _ _ _ _ _ _ x6 _ _
  have h9 : MemoryFormed x6 := (frame_noteReport _ _ _ _ _ _).formed rfl h
  clear_value x6
  refine .ite ?_ ?_
  · split
    · refine .ite ?_ ?_
      · exact h
      · extract_lets _
        refine .ite ?_ ?_
        · exact h9
        · split
          · exact (frame_retake _ _ _).formed rfl h9
          · exact .ite (.ite (formed_offerBetter _ _ h9) (formed_offerReport _ _ h9)) h9
    · exact h
  · exact h

theorem formed_syncFails (a0 : Nat) {s : State} (h : MemoryFormed s) :
    MemoryFormed (syncFails a0 s) := by
  unfold syncFails
  exact formed_endLane _ _ h

theorem formed_preambleLoss (a0 : Nat) {s : State} (h : MemoryFormed s) :
    MemoryFormed (preambleLoss a0 s) := by
  unfold preambleLoss
  exact .ite (formed_syncFails _ h) h

theorem formed_searchExpiry (a0 : Nat) {s : State} (h : MemoryFormed s) :
    MemoryFormed (searchExpiry a0 s) := by
  unfold searchExpiry
  exact .ite (formed_syncFails _ h) h

theorem formed_syncMatch (a0 : Nat) (a1 : BitVec 32) (a2 : ℤ) (a3 : Nat × Nat) {s : State} (h : MemoryFormed s) :
    MemoryFormed (syncMatch a0 a1 a2 a3 s) := by
  unfold syncMatch
  extract_lets _
  refine .ite ?_ ?_
  · exact h
  · split
    · exact .ite (formed_syncFails _ h) ((frame_synced _ _ _).formed rfl h)
    · exact .ite ((frame_synced _ _ _).formed rfl h) h
    · split
      · exact .inc ((frame_synced _ _ _).formed rfl h)
      · exact h
    · exact h

theorem formed_phrBad (a0 : Nat) (a1 : Nat) {s : State} (h : MemoryFormed s) :
    MemoryFormed (phrBad a0 a1 s) := by
  unfold phrBad
  extract_lets _
  exact formed_endLane _ _ (.wr (.inc h))

theorem formed_phrSwitch (a0 : Nat) (a1 : Bool) (a2 : Nat) {s : State} (h : MemoryFormed s) :
    MemoryFormed (phrSwitch a0 a1 a2 s) := by
  unfold phrSwitch
  extract_lets _ x1
  have h2 : MemoryFormed x1 := (frame_setLane _ _ _).formed rfl h
  clear_value x1
  exact .ite (formed_phrBad _ _ h) (.ite (formed_phrBad _ _ h) (.ite (formed_phrBad _ _ h) (.latch (.inc h2))))

theorem formed_phrGood (a0 : Nat) (a1 : Nat) (a2 : Nat) (a3 : Bool) (a4 : Bool) {s : State} (h : MemoryFormed s) :
    MemoryFormed (phrGood a0 a1 a2 a3 a4 s) := by
  unfold phrGood
  extract_lets x0
  have h1 : MemoryFormed x0 := (frame_modLane _ _ _).formed rfl h
  clear_value x0
  exact formed_endLanes _ _ h1

theorem formed_phrComplete (a0 : Nat) (a1 : Phr) {s : State} (h : MemoryFormed s) :
    MemoryFormed (phrComplete a0 a1 s) := by
  unfold phrComplete
  extract_lets _ _ _
  refine .ite ?_ ?_
  · exact h
  · split
    · exact .ite (formed_phrSwitch _ _ _ h) h
    · exact .ite h (.ite (formed_phrBad _ _ h) (.ite (formed_phrBad _ _ h) (formed_phrGood _ _ _ _ _ h)))
    · exact .ite h (.ite (formed_phrBad _ _ h) (.ite (formed_phrBad _ _ h) (.ite (formed_phrBad _ _ h) (.ite
        (formed_phrBad _ _ h) (formed_phrGood _ _ _ _ _ ((frame_modLane _ _ _).formed rfl h))))))
    · exact .ite h (.ite (formed_phrBad _ _ h) (.ite (formed_phrBad _ _ h) (formed_phrGood _ _ _ _ _ h)))

theorem formed_capturePush (a0 : Nat) (a1 : Bool) (a2 : Bool) {s : State} (h : MemoryFormed s) :
    MemoryFormed (capturePush a0 a1 a2 s) := by
  unfold capturePush
  extract_lets _ _ _
  exact .ite h (.ite h (.ite (.latch (.inc (formed_endLane _ _ h))) ((frame_setLane _ _ _).formed rfl h)))

theorem formed_laneWatchdog (a0 : Nat) {s : State} (h : MemoryFormed s) :
    MemoryFormed (laneWatchdog a0 s) := by
  unfold laneWatchdog
  exact .ite (formed_laneFault _ _ h) h

theorem formed_txModFault (a0 : Nat) (a1 : Bool) {s : State} (h : MemoryFormed s) :
    MemoryFormed (txModFault a0 a1 s) := by
  unfold txModFault
  split
  · exact h
  · extract_lets x0 x1
    have h2 : MemoryFormed x0 := .wr (.wr h)
    clear_value x0
    have h3 : MemoryFormed x1 := .wr h2
    clear_value x1
    exact formed_cutTx _ _ (.latch (.inc h3))

theorem formed_mhrComplete (a0 : Nat) (a1 : Mhr) (a2 : Parity) {s : State} (h : MemoryFormed s) :
    MemoryFormed (mhrComplete a0 a1 a2 s) := by
  unfold mhrComplete
  extract_lets _ _
  refine .ite ?_ ?_
  · exact h
  · refine .ite ?_ ?_
    · exact (frame_setRx _ _ _).formed rfl h
    · refine .ite ?_ ?_
      · exact formed_endLane _ _ h
      · refine .ite ?_ ?_
        · exact formed_endLane _ _ h
        · refine .ite ?_ ?_
          · exact (frame_readAck _ _ _).formed rfl h
          · split
            · exact formed_endLane _ _ h
            · refine .ite ?_ ?_
              · exact (frame_setRx _ _ _).formed rfl h
              · split
                · exact (frame_readRecord _ _ _ _).formed rfl h
                · extract_lets x2
                  have h3 : MemoryFormed x2 := .ite ((frame_coreMended _ _).formed rfl h) h
                  clear_value x2
                  exact .ite (formed_coreLost _ (formed_endLane _ _ ((frame_modLane _ _ _).formed rfl h3))) (.ite
                    (.latch (.inc (formed_endLane _ _ ((frame_modLane _ _ _).formed rfl h3))))
                    ((frame_readRecord _ _ _ _).formed rfl h3))

theorem formed_keyReady (a0 : Nat) {s : State} (h : MemoryFormed s) :
    MemoryFormed (keyReady a0 s) := by
  unfold keyReady
  extract_lets _ _
  split
  · exact h
  · refine .ite ?_ ?_
    · exact h
    · extract_lets _ x3
      have h4 : MemoryFormed x3 := by
        unfold x3
        split
        · exact .ite ((frame_cacheInsert _ _ _ _).formed rfl h) h
        · exact h
      clear_value x3
      refine .ite ?_ ?_
      · exact (frame_fix _ _ _).formed rfl (.inc h)
      · generalize e5 : takeEngine _ = p6
        obtain ⟨_, _⟩ := p6
        have h7 := MemoryFormed.viaEq e5 ((frame_takeEngine _).formed rfl h4)
        split
        · refine formed_endLane _ _ ?_
          rename_i e11
          have h12 := MemoryFormed.viaEq e11 h7
          exact h12
        · refine (frame_modRx _ _ _).formed rfl ?_
          rename_i e13
          have h14 := MemoryFormed.viaEq e13 h7
          exact h14

theorem formed_endVerdict (a0 : Nat) (a1 : Disp) {s : State} (h : MemoryFormed s) :
    MemoryFormed (endVerdict a0 a1 s) := by
  unfold endVerdict
  extract_lets _
  exact .ite h ((frame_releaseDrained _ _ _).formed rfl (formed_closeLane _ _ h))

theorem formed_sendAnswer (a0 : Nat) (a1 : Tx) {s : State} (h : MemoryFormed s) :
    MemoryFormed (sendAnswer a0 a1 s) := by
  unfold sendAnswer
  extract_lets x0
  have h1 : MemoryFormed x0 := .ite (formed_closeWait _ h) h
  clear_value x0
  exact formed_enterRxTx _ _ ((frame_startPower _ _ _ _).formed rfl ((frame_raiseReq _ _ _).formed rfl h1))

theorem formed_answer (a0 : Lane) (a1 : Bool) (a2 : Bool) (a3 : Option MeshIe) {s : State} (h : MemoryFormed s) :
    MemoryFormed (answer a0 a1 a2 a3 s) := by
  unfold answer
  split
  · exact h
  · refine .ite ?_ ?_
    · exact h
    · generalize e0 : answerFrom _ _ = p1
      obtain ⟨_, _⟩ := p1
      dsimp only
      have h2 := MemoryFormed.viaEq e0 ((frame_answerFrom _ _).formed rfl h)
      split
      · rename_i e6
        have h7 := MemoryFormed.viaEq e6 h2
        exact h7
      · split
        · generalize e8 : answerEntry _ _ _ _ _ = p9
          obtain ⟨_, _⟩ := p9
          have h10 := MemoryFormed.viaEq e8 (by
            refine (frame_answerEntry _ _ _ _ _).formed rfl ?_
            rename_i e11 _ _ _ _
            have h12 := MemoryFormed.viaEq e11 h2
            exact h12)
          split
          · rename_i e16
            have h17 := MemoryFormed.viaEq e16 h10
            exact h17
          · refine formed_sendAnswer _ _ ?_
            refine (frame_chargeAnswer _ _ _ _ _ _).formed rfl ?_
            refine .ite ?_ ?_
            · refine .inc ?_
              refine .ite ?_ ?_
              · refine .inc ?_
                rename_i e18
                have h19 := MemoryFormed.viaEq e18 h10
                exact h19
              · rename_i e20
                have h21 := MemoryFormed.viaEq e20 h10
                exact h21
            · refine .ite ?_ ?_
              · refine .inc ?_
                rename_i e22
                have h23 := MemoryFormed.viaEq e22 h10
                exact h23
              · rename_i e24
                have h25 := MemoryFormed.viaEq e24 h10
                exact h25
        · generalize e26 : answerEntry _ _ _ _ _ = p27
          obtain ⟨_, _⟩ := p27
          have h28 := MemoryFormed.viaEq e26 (by
            refine (frame_answerEntry _ _ _ _ _).formed rfl ?_
            rename_i e29 _ _ _ _ _ _ _
            have h30 := MemoryFormed.viaEq e29 h2
            exact h30)
          split
          · rename_i e34
            have h35 := MemoryFormed.viaEq e34 h28
            exact h35
          · refine formed_sendAnswer _ _ ?_
            refine (frame_modFe _ _ _).formed rfl ?_
            refine (frame_setFrame _ _ _).formed rfl ?_
            rename_i e36
            have h37 := MemoryFormed.viaEq e36 h28
            exact h37

theorem formed_deliver (a0 : Nat) (a1 : Item) {s : State} (h : MemoryFormed s) :
    MemoryFormed (deliver a0 a1 s) := by
  unfold deliver
  refine .ite ?_ ?_
  · exact formed_endItem _ _ h
  · extract_lets x0 x1
    have h2 : MemoryFormed x0 := .inc h
    clear_value x0
    have h3 : MemoryFormed x1 := .ite (.inc h2) (.ite (.inc h2) h2)
    clear_value x1
    exact (frame_deliverItem _ _).formed rfl h3

theorem formed_noContext (a0 : Item) {s : State} (h : MemoryFormed s) :
    MemoryFormed (noContext a0 s) := by
  unfold noContext
  exact formed_endItem _ _ (.latch (.inc h))

theorem formed_packetQueued (a0 : Packet) {s : State} (h : MemoryFormed s) :
    MemoryFormed (packetQueued a0 s) := by
  unfold packetQueued
  split
  · exact formed_returnSlot _ _ _ _ h
  · exact h

theorem formed_deliverPacket (a0 : Nat) (a1 : Packet) {s : State} (h : MemoryFormed s) :
    MemoryFormed (deliverPacket a0 a1 s) := by
  unfold deliverPacket
  extract_lets _ _ _
  exact formed_packetQueued _ (formed_deliver _ _ h)

theorem formed_deliverTo (a0 : Nat) (a1 : Packet) {s : State} (h : MemoryFormed s) :
    MemoryFormed (deliverTo a0 a1 s) := by
  unfold deliverTo
  exact formed_deliverPacket _ _ h

theorem formed_hopRule (a0 : Packet) {s : State} (h : MemoryFormed s) :
    MemoryFormed ((hopRule a0 s).2) := by
  unfold hopRule
  split
  · dsimp only
    exact h
  · split
    · split
      · dsimp only
        exact formed_endPacket _ _ (.latch (.inc h))
      · dsimp only
        exact h
    · split
      · dsimp only
        exact formed_endPacket _ _ (.latch (.inc h))
      · dsimp only
        exact h

theorem formed_enterDown (a0 : Nat) (a1 : Bool) {s : State} (h : MemoryFormed s) :
    MemoryFormed (enterDown a0 a1 s) := by
  unfold enterDown
  split
  · exact h
  · refine .ite ?_ ?_
    · exact h
    · refine .ite ?_ ?_
      · exact formed_endFrame _ _ h
      · refine .ite ?_ ?_
        · exact formed_storePending _ h
        · extract_lets x0
          have h1 : MemoryFormed x0 := formed_enqueue _ h
          clear_value x0
          exact .ite h1 (.inc h1)

theorem formed_afterEntry (a0 : Packet) {s : State} (h : MemoryFormed s) :
    MemoryFormed (afterEntry a0 s) := by
  unfold afterEntry
  split
  · exact h
  · split
    · exact formed_returnSlot _ _ _ _ h
    · exact formed_returnSlot _ _ _ _ h

theorem formed_uplinkEthernet (a0 : Packet) (a1 : Nat) {s : State} (h : MemoryFormed s) :
    MemoryFormed (uplinkEthernet a0 a1 s) := by
  unfold uplinkEthernet
  extract_lets _
  refine .ite ?_ ?_
  · exact formed_deliverPacket _ _ h
  · generalize e1 : hopRule _ _ = p2
    obtain ⟨_, _⟩ := p2
    dsimp only
    have h3 := MemoryFormed.viaEq e1 (formed_hopRule _ h)
    split
    · rename_i e7
      have h8 := MemoryFormed.viaEq e7 h3
      exact h8
    · generalize e9 : police _ _ _ = p10
      obtain ⟨_, _⟩ := p10
      have h11 := MemoryFormed.viaEq e9 (by
        refine (frame_police _ _ _).formed rfl ?_
        rename_i e12 _ _
        have h13 := MemoryFormed.viaEq e12 h3
        exact h13)
      split
      · refine formed_endPacket _ _ ?_
        rename_i e17
        have h18 := MemoryFormed.viaEq e17 h11
        exact h18
      · refine .ite ?_ ?_
        · refine formed_endPacket _ _ ?_
          rename_i e19
          have h20 := MemoryFormed.viaEq e19 h11
          exact h20
        · refine .ite ?_ ?_
          · refine formed_endPacket _ _ ?_
            refine .inc ?_
            rename_i e21
            have h22 := MemoryFormed.viaEq e21 h11
            exact h22
          · refine (frame_modPort _ _ _).formed rfl ?_
            refine .inc ?_
            refine .ite ?_ ?_
            · refine .inc ?_
              rename_i e23
              have h24 := MemoryFormed.viaEq e23 h11
              exact h24
            · rename_i e25
              have h26 := MemoryFormed.viaEq e25 h11
              exact h26

theorem formed_writeRecord (a0 : Lane) (a1 : Nat) (a2 : Nat) (a3 : Nat) (a4 : Figures)
    (a5 : Option MeshIe) {s : State} (h : MemoryFormed s) :
    MemoryFormed (writeRecord a0 a1 a2 a3 a4 a5 s) := by
  unfold writeRecord
  exact formed_modNode _ _ h

theorem formed_learn (a0 : Nat) (a1 : MeshPath) {s : State} (h : MemoryFormed s) :
    MemoryFormed (learn a0 a1 s) := by
  unfold learn
  extract_lets _ x1 x2 x3
  have h4 : MemoryFormed x1 := formed_modNode _ _ h
  clear_value x1
  have h5 : MemoryFormed x2 := formed_modNode _ _ h
  clear_value x2
  have h6 : MemoryFormed x3 := .ite (.ite (.inc h) h) (.ite (.ite h (.latch (.inc h4))) (.ite (.latch (.inc
    (formed_modNode _ _ h))) (.ite h (.latch (.inc h5)))))
  clear_value x3
  exact formed_modNode _ _ h6

theorem formed_learnFrame (a0 : Nat) (a1 : Nat) (a2 : Nat) (a3 : Nat) (a4 : Option PathIe) {s : State}
    (h : MemoryFormed s) :
    MemoryFormed (learnFrame a0 a1 a2 a3 a4 s) := by
  unfold learnFrame
  extract_lets _ x1
  have h2 : MemoryFormed x1 := formed_learn _ _ h
  clear_value x1
  refine .ite ?_ ?_
  · exact h
  · split
    · exact h2
    · refine .ite ?_ ?_
      · exact .ite (.inc h2) (.inc h2)
      · refine .ite ?_ ?_
        · exact h2
        · extract_lets _ x4
          have h5 : MemoryFormed x4 := formed_learn _ _ h2
          clear_value x4
          exact .ite (.inc h2) (.ite (.latch (.inc h2)) (formed_nodeStat _ _ (formed_modNode _ _ h5)))

theorem formed_appointment (a0 : Lane) (a1 : Nat) (a2 : PollIe) {s : State} (h : MemoryFormed s) :
    MemoryFormed (appointment a0 a1 a2 s) := by
  unfold appointment
  refine .ite ?_ ?_
  · exact h
  · refine .ite ?_ ?_
    · exact formed_modNode _ _ h
    · refine .ite ?_ ?_
      · exact h
      · extract_lets _ _ _ _ x4
        have h5 : MemoryFormed x4 := formed_modNode _ _ h
        clear_value x4
        exact .ite (.inc h) (.inc h5)

theorem formed_hemalReport (a0 : Nat) (a1 : Nat) (a2 : HemalReport) {s : State} (h : MemoryFormed s) :
    MemoryFormed ((hemalReport a0 a1 a2 s).2) := by
  unfold hemalReport
  extract_lets _ _ _ _ _ x5 x6 x7 x8 _
  have h10 : MemoryFormed x5 := .set_ddr (wf_writeOctets h _ _)
  clear_value x5
  have h11 : MemoryFormed x6 := .moveCount h10
  clear_value x6
  have h12 : MemoryFormed x7 := .moveCount h11
  clear_value x7
  have h13 : MemoryFormed x8 := .inc (.moveCount h12)
  clear_value x8
  split
  · dsimp only
    exact h
  · split
    · dsimp only
      exact .ite (formed_endCampaign _ _ h13) h13
    · dsimp only
      exact .inc h

theorem formed_pollFetch (a0 : Nat) (a1 : Bool) {s : State} (h : MemoryFormed s) :
    MemoryFormed (pollFetch a0 a1 s) := by
  unfold pollFetch
  split
  · split
    · split
      · exact (frame_emptyAnswer _ _ _ _).formed rfl h
      · extract_lets _
        refine .ite ?_ ?_
        · exact (frame_emptyAnswer _ _ _ _).formed rfl (formed_backToPending _ (.latch (.inc h)))
        · split
          · refine (frame_emptyAnswer _ _ _ _).formed rfl ?_
            refine formed_endFrame _ _ ?_
            rename_i e4
            have h5 := MemoryFormed.viaEq e4 (by
              split
              · exact (frame_keyCheck _ _).formed rfl h
              · dsimp only
                exact h)
            exact h5
          · refine .ite ?_ ?_
            · refine (frame_emptyAnswer _ _ _ _).formed rfl ?_
              refine formed_endFrame _ _ ?_
              refine (frame_takeCounter _ _).formed rfl ?_
              rename_i e6
              have h7 := MemoryFormed.viaEq e6 (by
                split
                · exact (frame_keyCheck _ _).formed rfl h
                · dsimp only
                  exact h)
              exact h7
            · refine .ite ?_ ?_
              · refine (frame_emptyAnswer _ _ _ _).formed rfl ?_
                refine formed_backToPending _ ?_
                refine .inc ?_
                rename_i e8
                have h9 := MemoryFormed.viaEq e8 (by
                  split
                  · exact (frame_keyCheck _ _).formed rfl h
                  · dsimp only
                    exact h)
                exact h9
              · refine .ite ?_ ?_
                · refine (frame_dataAnswer _ _ _ _ _ _ _ _).formed rfl ?_
                  rename_i e10
                  have h11 := MemoryFormed.viaEq e10 (by
                    split
                    · exact (frame_keyCheck _ _).formed rfl h
                    · dsimp only
                      exact h)
                  exact h11
                · generalize e12 : takeCounter _ _ = p13
                  obtain ⟨_, _⟩ := p13
                  have h14 := MemoryFormed.viaEq e12 (by
                    refine (frame_takeCounter _ _).formed rfl ?_
                    rename_i e15 _ _
                    have h16 := MemoryFormed.viaEq e15 (by
                      split
                      · exact (frame_keyCheck _ _).formed rfl h
                      · dsimp only
                        exact h)
                    exact h16)
                  split
                  · refine (frame_emptyAnswer _ _ _ _).formed rfl ?_
                    refine formed_backToPending _ ?_
                    rename_i e20
                    have h21 := MemoryFormed.viaEq e20 h14
                    exact h21
                  · refine (frame_emptyAnswer _ _ _ _).formed rfl ?_
                    refine formed_endFrame _ _ ?_
                    rename_i e22
                    have h23 := MemoryFormed.viaEq e22 h14
                    exact h23
                  · generalize e24 : takeEngine _ = p25
                    obtain ⟨_, _⟩ := p25
                    have h26 := MemoryFormed.viaEq e24 (by
                      refine (frame_takeEngine _).formed rfl ?_
                      rename_i e27 _ _
                      have h28 := MemoryFormed.viaEq e27 h14
                      exact h28)
                    split
                    · refine (frame_emptyAnswer _ _ _ _).formed rfl ?_
                      refine formed_endFrame _ _ ?_
                      rename_i e32
                      have h33 := MemoryFormed.viaEq e32 h26
                      exact h33
                    · refine (frame_dataAnswer _ _ _ _ _ _ _ _).formed rfl ?_
                      rename_i e34
                      have h35 := MemoryFormed.viaEq e34 h26
                      exact h35
    · exact h
  · exact h

theorem formed_passLane (a0 : Nat) {s : State} (h : MemoryFormed s) :
    MemoryFormed (passLane a0 s) := by
  unfold passLane
  extract_lets _
  exact (frame_releaseDrained _ _ _).formed rfl (formed_closeLane _ _ h)

theorem formed_ackMatched (a0 : Nat) (a1 : Nat) {s : State} (h : MemoryFormed s) :
    MemoryFormed (ackMatched a0 a1 s) := by
  unfold ackMatched
  extract_lets x0 x1 x2
  have h3 : MemoryFormed x0 := formed_passLane _ h
  clear_value x0
  have h4 : MemoryFormed x1 := .inc (.inc h3)
  clear_value x1
  have h5 : MemoryFormed x2 := by
    unfold x2
    split
    · refine .ite ?_ ?_
      · split
        · exact formed_modNode _ _ h4
        · exact h4
      · exact h4
    · exact h4
  clear_value x2
  exact formed_endFrame _ _ h5

theorem formed_ackVerdict (a0 : Nat) (a1 : Bool) (a2 : Bool) {s : State} (h : MemoryFormed s) :
    MemoryFormed (ackVerdict a0 a1 a2 s) := by
  unfold ackVerdict
  extract_lets _
  split
  · exact h
  · refine .ite ?_ ?_
    · exact h
    · refine .ite ?_ ?_
      · exact formed_endVerdict _ _ h
      · refine .ite ?_ ?_
        · exact formed_endVerdict _ _ h
        · split
          · exact formed_endVerdict _ _ h
          · split
            · exact formed_endVerdict _ _ h
            · extract_lets _
              refine .ite ?_ ?_
              · exact .ite (formed_ackMatched _ _ h) (formed_endVerdict _ _ h)
              · split
                · exact formed_endVerdict _ _ h
                · exact .ite h (.ite (formed_endVerdict _ _ ((frame_suppress _).formed rfl h)) (.ite
                    (formed_endVerdict _ _ h) (.ite (formed_endVerdict _ _ (.latch h)) (.ite
                    (formed_ackMatched _ _ h) (formed_endVerdict _ _ h)))))

theorem formed_ackWaitExpiry (a0 : Nat) {s : State} (h : MemoryFormed s) :
    MemoryFormed (ackWaitExpiry a0 s) := by
  unfold ackWaitExpiry
  split
  · extract_lets x0
    have h1 : MemoryFormed x0 := by
      unfold x0
      refine .ite ?_ ?_
      · split
        · exact formed_modNode _ _ h
        · exact h
      · exact h
    clear_value x0
    exact formed_unmatched _ h1
  · exact h

theorem formed_apptCheck (a0 : Nat) {s : State} (h : MemoryFormed s) :
    MemoryFormed (apptCheck a0 s) := by
  unfold apptCheck
  extract_lets _ _ _ _
  refine .ite ?_ ?_
  · exact h
  · split
    · exact formed_modNode _ _ h
    · extract_lets _ x5
      have h6 : MemoryFormed x5 := formed_modNode _ _ ((frame_setFrame _ _ _).formed rfl h)
      clear_value x5
      exact .ite (formed_skipAppointment _ _ h) ((frame_countPending _).formed rfl (formed_syncPending _
        (formed_enqueue _ h6)))

theorem formed_beaconDue (a0 : Nat) {s : State} (h : MemoryFormed s) :
    MemoryFormed (beaconDue a0 s) := by
  unfold beaconDue
  extract_lets _ _ _ _ _ x5 _
  have h7 : MemoryFormed x5 := (frame_modTrack _ _ _).formed rfl (.wr h)
  clear_value x5
  refine .ite ?_ ?_
  · exact h
  · split
    next e17 =>
      have h18 := MemoryFormed.viaEq e17 (by
        split
        · exact (frame_wakeFilter _ _ _ _).formed rfl h7
        · exact h7)
      extract_lets _ _ _
      generalize e14 : newFrame _ = p15
      obtain ⟨_, _⟩ := p15
      have h16 := MemoryFormed.viaEq e14 ((frame_newFrame _).formed rfl h18)
      exact formed_enqueue _ ((frame_setFrame _ _ _).formed rfl h16)

theorem formed_unknownBeacon (a0 : Nat) {s : State} (h : MemoryFormed s) :
    MemoryFormed (unknownBeacon a0 s) := by
  unfold unknownBeacon
  exact formed_endVerdict _ _ (.inc h)

theorem formed_peerBeacon (a0 : Nat) (a1 : Bool) (a2 : Bool) (a3 : Figures) (a4 : List (List Byte)) {s : State}
    (h : MemoryFormed s) :
    MemoryFormed (peerBeacon a0 a1 a2 a3 a4 s) := by
  unfold peerBeacon
  extract_lets _
  split
  · exact h
  · refine .ite ?_ ?_
    · exact h
    · refine .ite ?_ ?_
      · exact formed_endVerdict _ _ h
      · refine .ite ?_ ?_
        · exact formed_endVerdict _ _ h
        · split
          · split
            · exact formed_unknownBeacon _ h
            · refine .ite ?_ ?_
              · exact formed_unknownBeacon _ h
              · split
                · refine .ite ?_ ?_
                  · exact h
                  · refine .ite ?_ ?_
                    · exact formed_endVerdict _ _ ((frame_suppress _).formed rfl h)
                    · refine .ite ?_ ?_
                      · exact formed_endVerdict _ _ h
                      · refine .ite ?_ ?_
                        · exact formed_unknownBeacon _ h
                        · extract_lets x1
                          have h2 : MemoryFormed x1 := .inc ((frame_peerPassed _ _ _ _).formed rfl h)
                          clear_value x1
                          exact .ite (formed_deliver _ _ ((frame_releaseDrained _ _ _).formed rfl h2))
                            (formed_passLane _ h2)
                · exact formed_unknownBeacon _ h
          · exact formed_unknownBeacon _ h

theorem formed_sweeperVisit {s : State} (h : MemoryFormed s) :
    MemoryFormed (sweeperVisit s) := by
  unfold sweeperVisit
  refine .ite ?_ ?_
  · exact h
  · extract_lets _ _ x2 x3
    have h4 : MemoryFormed x2 := .ite (.inc h) h
    clear_value x2
    have h5 : MemoryFormed x3 := .ite h (formed_setNode _ _ h4)
    clear_value x3
    exact .ite (.latch (.inc (.wr h5))) (.wr h5)

theorem formed_ethOther (a0 : Nat) (a1 : Staged) {s : State} (h : MemoryFormed s) :
    MemoryFormed (ethOther a0 a1 s) := by
  unfold ethOther
  exact .ite (formed_deliver _ _ h) ((frame_close _ _ _).formed rfl h)

theorem formed_pendingTimeouts {s : State} (h : MemoryFormed s) :
    MemoryFormed (pendingTimeouts s) := by
  unfold pendingTimeouts
  refine .ite ?_ ?_
  · exact h
  · extract_lets _ _
    exact .foldl h (fun _ _ h2 => .ite ((frame_modFrame _ _ _).formed rfl h2) (formed_endFrame _ _ (.latch (.inc h2))))

theorem formed_reasmTimeout {s : State} (h : MemoryFormed s) :
    MemoryFormed (reasmTimeout s) := by
  unfold reasmTimeout
  extract_lets _
  refine .foldl h (fun _ _ h1 => ?_)
  extract_lets x2 x3 _
  have h5 : MemoryFormed x2 := (frame_countReasm _).formed rfl (.set_reasm h1)
  clear_value x2
  have h6 : MemoryFormed x3 := .latch (.inc h5)
  clear_value x3
  exact formed_endItem _ _ h6

theorem formed_endHorizons (a0 : Nat) {s : State} (h : MemoryFormed s) :
    MemoryFormed (endHorizons a0 s) := by
  unfold endHorizons
  refine .foldl h (fun _ _ h0 => ?_)
  extract_lets _
  exact formed_endFrame _ _ h0

theorem formed_commitFrame (a0 : Nat) {s : State} (h : MemoryFormed s) :
    MemoryFormed (commitFrame a0 s) := by
  unfold commitFrame
  split
  · exact h
  · split
    · split
      · exact formed_skipAppointment _ _ ((frame_regCeiling _).formed rfl h)
      · exact formed_endFrame _ _ ((frame_regCeiling _).formed rfl h)
    · exact (frame_commitReq _ _ _).formed rfl ((frame_recount _ _).formed rfl ((frame_setFrame _ _ _).formed rfl
        ((frame_commitCharges _ _ _ _).formed rfl h)))

theorem formed_drr (a0 : Nat) (a1 : List Nat) (a2 : Nat) {s : State} (h : MemoryFormed s) :
    MemoryFormed (drr a0 a1 a2 s) := by
  induction a2 generalizing a0 a1 s with
  | zero =>
    unfold drr
    exact h
  | succ n ih =>
    unfold drr
    split
    · exact formed_commitFrame _ h
    · split
      · exact h
      · extract_lets x0
        have h1 : MemoryFormed x0 := (frame_modSched _ _ _).formed rfl h
        clear_value x0
        exact ih _ _ (.wr h1)

theorem formed_select (a0 : Nat) {s : State} (h : MemoryFormed s) :
    MemoryFormed (select a0 s) := by
  unfold select
  refine .ite ?_ ?_
  · exact (frame_showHold _ _ _ _).formed rfl h
  · extract_lets x0 _ _ _ _ _ x6
    have h7 : MemoryFormed x0 := formed_endHorizons _ h
    clear_value x0
    have h8 : MemoryFormed x6 := by
      unfold x6
      split
      · split
        · exact formed_commitFrame _ h7
        · exact h7
      · exact formed_drr _ _ _ h7
    clear_value x6
    exact (frame_showHold _ _ _ _).formed rfl h8

theorem formed_lbtRetest (a0 : Nat) {s : State} (h : MemoryFormed s) :
    MemoryFormed (lbtRetest a0 s) := by
  unfold lbtRetest
  split
  · split
    · exact formed_enterRxTxFrame _ h
    · exact h
  · exact h

theorem formed_lateFrame (a0 : Nat) {s : State} (h : MemoryFormed s) :
    MemoryFormed (lateFrame a0 s) := by
  unfold lateFrame
  split
  · exact h
  · split
    · exact formed_skipAppointment _ _ h
    · split
      · exact formed_endFrame _ _ (.latch (.inc h))
      · exact formed_endFrame _ _ h

theorem formed_slipNow (a0 : Nat) {s : State} (h : MemoryFormed s) :
    MemoryFormed (slipNow a0 s) := by
  unfold slipNow
  extract_lets x0
  have h1 : MemoryFormed x0 := by
    unfold x0
    split
    · exact formed_slipExpiry _ h
    · exact h
  clear_value x0
  exact .foldl h1 (fun _ _ h2 => formed_lateFrame _ h2)

theorem formed_keyOpDone (a0 : Bool) {s : State} (h : MemoryFormed s) :
    MemoryFormed (keyOpDone a0 s) := by
  unfold keyOpDone
  split
  · exact h
  · extract_lets _ _ _ x10
    have h11 : MemoryFormed x10 := (frame_journalWrite _ _ _).formed rfl h
    clear_value x10
    exact .ite ((frame_loadEnd _ _ _).formed rfl ((frame_suppress _).formed rfl h)) (.ite h (.ite
      ((frame_loadEnd _ _ _).formed rfl ((frame_flashError _ _ _).formed rfl h)) (.ite (.set_keyOp h)
      ((frame_loadEnd _ _ _).formed rfl (formed_changeSlot _ _ h11)))))

theorem formed_pathMismatch (a0 : PathUser) {s : State} (h : MemoryFormed s) :
    MemoryFormed (pathMismatch a0 s) := by
  unfold pathMismatch
  split
  · split
    · exact (frame_engineMismatch _ _ _).formed rfl ((frame_modLane _ _ _).formed rfl h)
    · exact h
  · split
    · exact (frame_engineMismatch _ _ _).formed rfl (formed_cutTx _ _ h)
    · exact h
  · split
    · split
      · exact (frame_engineMismatch _ _ _).formed rfl (.set_ccmJob h)
      · exact h
    · exact h
  · exact (frame_storageMismatch _ _ _ _ _).formed rfl h

theorem formed_ccmDone (a0 : Bool) {s : State} (h : MemoryFormed s) :
    MemoryFormed (ccmDone a0 s) := by
  unfold ccmDone
  split
  · exact h
  · refine .ite ?_ ?_
    · exact h
    · refine .ite ?_ ?_
      · exact (frame_ccmEnd _ _).formed rfl ((frame_suppress _).formed rfl h)
      · refine .ite ?_ ?_
        · exact (frame_ccmEnd _ _).formed rfl h
        · refine .ite ?_ ?_
          · exact (frame_ccmEnd _ _).formed rfl ((frame_ddrLostIf _ _ _).formed rfl h)
          · extract_lets _ _ _ _ _ _ _
            refine .ite ?_ ?_
            · exact (frame_ccmEnd _ _).formed rfl (.set_ddr (wf_writeOctets h _ _))
            · split
              · exact (frame_ccmEnd _ _).formed rfl h
              · exact (frame_ccmEnd _ _).formed rfl (.set_ddr (wf_writeOctets h _ _))

theorem formed_sciDone (a0 : Bool) {s : State} (h : MemoryFormed s) :
    MemoryFormed (sciDone a0 s) := by
  unfold sciDone
  split
  · exact h
  · refine .ite ?_ ?_
    · exact h
    · refine .ite ?_ ?_
      · exact (frame_sciEnd _ _).formed rfl ((frame_suppress _).formed rfl h)
      · refine .ite ?_ ?_
        · exact (frame_sciEnd _ _).formed rfl h
        · refine .ite ?_ ?_
          · exact (frame_sciEnd _ _).formed rfl ((frame_ddrLostIf _ _ _).formed rfl h)
          · extract_lets _ _ _ _
            refine .ite ?_ ?_
            · generalize e4 : draw _ = p5
              obtain ⟨_, _⟩ := p5
              dsimp only
              have h6 := MemoryFormed.viaEq e4 ((frame_draw _).formed rfl h)
              exact (frame_sciEnd _ _).formed rfl (.set_ddr (wf_writeOctets h6 _ _))
            · exact (frame_sciEnd _ _).formed rfl (.set_ddr (wf_writeOctets h _ _))

theorem formed_ethLinkChange (a0 : Nat) (a1 : Bool) (a2 : Bool) (a3 : Bool) (a4 : Bool) (a5 : Bool) (a6 : Bool)
    (a7 : Bool) (a8 : Nat) {s : State} (h : MemoryFormed s) :
    MemoryFormed (ethLinkChange a0 a1 a2 a3 a4 a5 a6 a7 a8 s) := by
  unfold ethLinkChange
  exact formed_refreshLink _ ((frame_modPort _ _ _).formed rfl ((frame_setLos _ _ _).formed rfl h))

theorem formed_egressOffer (a0 : Nat) {s : State} (h : MemoryFormed s) :
    MemoryFormed (egressOffer a0 s) := by
  unfold egressOffer
  split
  · exact h
  · extract_lets x0
    have h1 : MemoryFormed x0 := (frame_modPort _ _ _).formed rfl h
    clear_value x0
    exact .ite (formed_endEgress _ _ h1) ((frame_modPort _ _ _).formed rfl h1)

theorem formed_egressFrameEnd (a0 : Nat) {s : State} (h : MemoryFormed s) :
    MemoryFormed (egressFrameEnd a0 s) := by
  unfold egressFrameEnd
  extract_lets _ x1 x2
  have h3 : MemoryFormed x1 := (frame_modPort _ _ _).formed rfl h
  clear_value x1
  have h4 : MemoryFormed x2 := (frame_modPort _ _ _).formed rfl h
  clear_value x2
  split
  · exact (frame_countSent _ _ _ _ _).formed rfl ((frame_rmon _ _ _).formed rfl (.inc h3))
  · extract_lets x5 x6
    have h7 : MemoryFormed x5 := .inc ((frame_countSent _ _ _ _ _).formed rfl h4)
    clear_value x5
    have h8 : MemoryFormed x6 := by
      unfold x6
      split
      · exact .ite ((frame_tsPush _ _ _).formed rfl h7) h7
      · exact h7
    clear_value x6
    exact formed_endEgress _ _ h8
  · exact h

theorem formed_egressHoldTimeout (a0 : Nat) {s : State} (h : MemoryFormed s) :
    MemoryFormed (egressHoldTimeout a0 s) := by
  unfold egressHoldTimeout
  extract_lets x0
  clear_value x0
  split
  · exact h
  · extract_lets _ x2
    have h3 : MemoryFormed x2 := (frame_modPort _ _ _).formed rfl h
    clear_value x2
    exact formed_endEgress _ _ (.latch ((frame_rmon _ _ _).formed rfl (.inc h3)))

theorem formed_sfpLos (a0 : Nat) (a1 : Bool) {s : State} (h : MemoryFormed s) :
    MemoryFormed (sfpLos a0 a1 s) := by
  unfold sfpLos
  exact .ite h (formed_refreshLink _ ((frame_setLos _ _ _).formed rfl h))

theorem formed_bar2 (a0 : Bar2) (a1 : Ecc) {s : State} (h : MemoryFormed s) :
    MemoryFormed (bar2 a0 a1 s) := by
  unfold bar2
  refine .ite ?_ ?_
  · extract_lets x0
    have h1 : MemoryFormed x0 := .ite h h
    clear_value x0
    exact (frame_unmapped _ _ _ _).formed rfl h1
  · extract_lets _ _
    exact .ite (.inc (.set_mem h)) (formed_bar2Run _ _ h)

theorem formed_copyMoved (a0 : List Byte) (a1 : Nat) {s : State} (h : MemoryFormed s) :
    MemoryFormed ((copyMoved a0 a1 s).2) := by
  unfold copyMoved
  split
  · dsimp only
    exact h
  · split
    · dsimp only
      exact h
    · dsimp only
      exact formed_winWrite _ _ h

theorem formed_copyTimeout (a0 : List Byte) (a1 : Nat) {s : State} (h : MemoryFormed s) :
    MemoryFormed (copyTimeout a0 a1 s) := by
  unfold copyTimeout
  refine .ite ?_ ?_
  · exact h
  · generalize e0 : copyMoved _ _ _ = p1
    obtain ⟨_, _⟩ := p1
    dsimp only
    have h2 := MemoryFormed.viaEq e0 (formed_copyMoved _ _ h)
    exact (frame_copyEnd _ _ _).formed rfl (.latch (.inc h2))

theorem formed_copyDone (a0 : CopyHow) (a1 : List Byte) (a2 : Nat) {s : State} (h : MemoryFormed s) :
    MemoryFormed (copyDone a0 a1 a2 s) := by
  unfold copyDone
  split
  · exact h
  · extract_lets _
    split
    · generalize e1 : copyMoved _ _ _ = p2
      obtain ⟨_, _⟩ := p2
      dsimp only
      have h3 := MemoryFormed.viaEq e1 (formed_copyMoved _ _ h)
      exact (frame_copyEnd _ _ _).formed rfl h3
    · generalize e4 : copyMoved _ _ _ = p5
      obtain ⟨_, _⟩ := p5
      dsimp only
      have h6 := MemoryFormed.viaEq e4 (formed_copyMoved _ _ h)
      exact (frame_copyEnd _ _ _).formed rfl h6
    · generalize e7 : copyMoved _ _ _ = p8
      obtain ⟨_, _⟩ := p8
      dsimp only
      have h9 := MemoryFormed.viaEq e7 (formed_copyMoved _ _ h)
      exact (frame_copyEnd _ _ _).formed rfl ((frame_ddrLost _ _).formed rfl h9)

theorem formed_ringHandOver (a0 : Bool) {s : State} (h : MemoryFormed s) :
    MemoryFormed (ringHandOver a0 s) := by
  unfold ringHandOver
  split
  · exact h
  · extract_lets x0 _ x2
    have h3 : MemoryFormed x0 := .set_delivered h
    clear_value x0
    have h4 : MemoryFormed x2 := (frame_modRing _ _ _).formed rfl h3
    clear_value x2
    exact .ite (formed_endItem _ _ h3) (formed_claimAll _ (.ite (formed_poisonSlots _ _ _ h4) h4))

theorem formed_fillSlot (a0 : Nat) (a1 : Fill) (a2 : List Byte) (a3 : Nat) {s : State} (h : MemoryFormed s) :
    MemoryFormed (fillSlot a0 a1 a2 a3 s) := by
  unfold fillSlot
  extract_lets _ _ x2 x3
  have h4 : MemoryFormed x2 := formed_winWrite _ _ h
  clear_value x2
  have h5 : MemoryFormed x3 := formed_winWrite _ _ h4
  clear_value x3
  exact formed_winWrite _ _ h5

theorem formed_ringFillDone (a0 : Nat) (a1 : List Byte) {s : State} (h : MemoryFormed s) :
    MemoryFormed (ringFillDone a0 a1 s) := by
  unfold ringFillDone
  split
  · exact h
  · extract_lets _ x1 x2 x3 x4
    have h5 : MemoryFormed x1 := .foldl h (fun _ _ h6 => formed_fillSlot _ _ _ _ h6)
    clear_value x1
    have h7 : MemoryFormed x2 := .foldl h5 (fun _ _ h8 => formed_setTally _ _ _ _ h8)
    clear_value x2
    have h9 : MemoryFormed x3 := (frame_modRing _ _ _).formed rfl h7
    clear_value x3
    have h10 : MemoryFormed x4 := formed_endItem _ _ (.inc h9)
    clear_value x4
    exact (frame_refreshLevel _ _).formed rfl ((frame_slotNotice _ _ _ _).formed rfl h10)

theorem formed_ringTimeout (a0 : Nat) {s : State} (h : MemoryFormed s) :
    MemoryFormed (ringTimeout a0 s) := by
  unfold ringTimeout
  split
  · exact h
  · extract_lets x0 x1
    have h2 : MemoryFormed x0 := (frame_modRing _ _ _).formed rfl h
    clear_value x0
    have h3 : MemoryFormed x1 := formed_endItem _ _ (.inc h2)
    clear_value x1
    exact formed_claimAll _ ((frame_pushNotice _ _ _).formed rfl (.latch h3))

theorem formed_hostTallyWrite (a0 : Nat) (a1 : Nat) (a2 : List (Option Byte)) {s : State} (h : MemoryFormed s) :
    MemoryFormed (hostTallyWrite a0 a1 a2 s) := by
  unfold hostTallyWrite
  exact .ite h (formed_hostWrite _ _ h)

theorem formed_badSlot (a0 : Nat) (a1 : Nat) (a2 : Nat) {s : State} (h : MemoryFormed s) :
    MemoryFormed (badSlot a0 a1 a2 s) := by
  unfold badSlot
  exact formed_returnSlot _ _ _ _ (.inc h)

theorem formed_enterAir (a0 : Frame) {s : State} (h : MemoryFormed s) :
    MemoryFormed (enterAir a0 s) := by
  unfold enterAir
  generalize e0 : newFrame _ = p1
  obtain ⟨_, _⟩ := p1
  dsimp only
  have h2 := MemoryFormed.viaEq e0 ((frame_newFrame _).formed rfl h)
  exact .ite (formed_endFrame _ _ ((frame_setFrame _ _ _).formed rfl h2)) (.ite (formed_endFrame _ _
    ((frame_setFrame _ _ _).formed rfl h2)) (formed_enqueue _ ((frame_setFrame _ _ _).formed rfl h2)))

theorem formed_loseItems (a0 : Nat) (a1 : List Item) {s : State} (h : MemoryFormed s) :
    MemoryFormed ((loseItems a0 a1 s).2) := by
  unfold loseItems
  dsimp only
  exact .foldl h (fun _ _ h0 => formed_endItem _ _ h0)

theorem formed_loseEgress (a0 : Nat) (a1 : List Egress) {s : State} (h : MemoryFormed s) :
    MemoryFormed ((loseEgress a0 a1 s).2) := by
  unfold loseEgress
  dsimp only
  exact .foldl h (fun _ _ h0 => formed_endEgress _ _ h0)

theorem formed_loseFrame (a0 : Nat) {s : State} (h : MemoryFormed s) :
    MemoryFormed (loseFrame a0 s) := by
  unfold loseFrame
  extract_lets x0
  have h1 : MemoryFormed x0 := formed_endFrame _ _ h
  clear_value x0
  generalize e2 : loseItems _ _ _ = p3
  obtain ⟨_, _⟩ := p3
  dsimp only
  have h4 := MemoryFormed.viaEq e2 (formed_loseItems _ _ h1)
  refine (frame_countReasm _).formed rfl ?_
  refine .foldl ?_ (fun _ _ h5 => ?_)
  · refine .set_reasm ?_
    refine .foldl (.set_rereads (.foldl (.foldl (.set_delivered h4) (fun _ _ h8 => (frame_modRing _ _ _).formed rfl
      (formed_loseItems _ _ h8))) (fun _ _ h7 => (frame_modPort _ _ _).formed rfl (.foldl (formed_loseEgress _ _
      (formed_loseEgress _ _ h7)) (fun _ _ h9 => (frame_close _ _ _).formed rfl h9))))) (fun _ _ h6 => ?_)
    split
    · exact formed_endPacket _ _ h6
    · exact h6
  · exact formed_endItem _ _ h5

theorem formed_fillChunkDone {s : State} (h : MemoryFormed s) :
    MemoryFormed (fillChunkDone s) := by
  unfold fillChunkDone
  split
  · exact h
  · refine .ite ?_ ?_
    · exact h
    · extract_lets _ x1 x2 _
      have h4 : MemoryFormed x1 := .set_mem h
      clear_value x1
      have h5 : MemoryFormed x2 := formed_runStalls _ (.wr h4)
      clear_value x2
      split
      · exact .set_mem h5
      · exact .latch (.wr h5)

theorem formed_campOff (a0 : Nat) {s : State} (h : MemoryFormed s) :
    MemoryFormed (campOff a0 s) := by
  unfold campOff
  exact .ite h (.wr (.ite h (formed_blockReset _ (formed_abortWork _ h))))

theorem formed_setupDone (a0 : Bool) {s : State} (h : MemoryFormed s) :
    MemoryFormed (setupDone a0 s) := by
  unfold setupDone
  extract_lets _ _ _ x3 x4
  have h5 : MemoryFormed x3 := .set_ddr (wf_zeroRange (wf_writeOctets h _ _) _ _)
  clear_value x3
  have h6 : MemoryFormed x4 := .wr (.wr (.wr h5))
  clear_value x4
  exact .ite h (.ite ((frame_dissemResult _ _ _).formed rfl ((frame_setCState _ _ _).formed rfl h))
    ((frame_dissemResult _ _ _).formed rfl ((frame_setCState _ _ _).formed rfl (.wr h6))))

theorem formed_windowPlan (a0 : Nat) (a1 : Nat) {s : State} (h : MemoryFormed s) :
    MemoryFormed (windowPlan a0 a1 s) := by
  unfold windowPlan
  refine .ite ?_ ?_
  · exact h
  · extract_lets _ _ x2
    have h3 : MemoryFormed x2 := (frame_modCampaign _ _ _).formed rfl h
    clear_value x2
    exact formed_queueAnnouncement _ _ _ ((frame_showNextWin _ _).formed rfl h3)

theorem formed_windowOpen (a0 : Nat) (a1 : Nat) (a2 : Bool) {s : State} (h : MemoryFormed s) :
    MemoryFormed (windowOpen a0 a1 a2 s) := by
  unfold windowOpen
  split
  · exact h
  · refine .ite ?_ ?_
    · exact h
    · refine .ite ?_ ?_
      · exact (frame_showNextWin _ _).formed rfl ((frame_modCampaign _ _ _).formed rfl h)
      · extract_lets x0 x1 x2
        have h3 : MemoryFormed x0 := (frame_modCampaign _ _ _).formed rfl h
        clear_value x0
        have h4 : MemoryFormed x1 := .incSat (.latch ((frame_showWindowOpen _ _).formed rfl
          ((frame_showNextWin _ _).formed rfl h3)))
        clear_value x1
        have h5 : MemoryFormed x2 := formed_queueSymbol _ _ h4
        clear_value x2
        exact .ite (formed_endCampaign _ _ (formed_endFrame _ _ h5)) (formed_queueSymbol _ _ h5)

theorem formed_belayHello (a0 : Nat) (a1 : List Byte) (a2 : Nat) (a3 : Nat) (a4 : Bool) {s : State}
    (h : MemoryFormed s) :
    MemoryFormed (belayHello a0 a1 a2 a3 a4 s) := by
  unfold belayHello
  refine .ite ?_ ?_
  · exact h
  · refine .ite ?_ ?_
    · exact .wr h
    · extract_lets x0 x1 _ _ _ _
      have h6 : MemoryFormed x0 := .wr h
      clear_value x0
      have h7 : MemoryFormed x1 := (frame_countPke _ _ _).formed rfl h6
      clear_value x1
      split
      · exact h6
      · split
        · exact (frame_countPke _ _ _).formed rfl h7
        · extract_lets _ _
          exact (frame_modRope _ _).formed rfl (formed_changeSlot _ _ h7)

theorem formed_applySlot (a0 : Nat) (a1 : BitVec 32) (a2 : Nat) (a3 : List Byte) {s : State} (h : MemoryFormed s) :
    MemoryFormed (applySlot a0 a1 a2 a3 s) := by
  unfold applySlot
  extract_lets _ _ _
  refine .ite ?_ ?_
  · exact formed_changeSlot _ _ h
  · split
    · exact (frame_mirrorRefused _).formed rfl h
    · extract_lets _ _ _ _ _
      exact .ite ((frame_mirrorRefused _).formed rfl h) (formed_changeSlot _ _ h)

theorem formed_applyNode (a0 : NodeRec) {s : State} (h : MemoryFormed s) :
    MemoryFormed (applyNode a0 s) := by
  unfold applyNode
  extract_lets _ _ _ _ _ _ _
  exact .ite ((frame_mirrorRefused _).formed rfl h) (.ite (.ite (formed_endNodeFrames _ _
    ((frame_cacheDrop _ _).formed rfl (formed_setNode _ _ h))) ((frame_mirrorRefused _).formed rfl h)) (.ite
    ((frame_mirrorRefused _).formed rfl h) (formed_setNode _ _ ((frame_cacheDrop _ _).formed rfl h))))

theorem formed_applyReplay (a0 : Nat) (a1 : Nat) (a2 : Nat) (a3 : Nat) {s : State} (h : MemoryFormed s) :
    MemoryFormed (applyReplay a0 a1 a2 a3 s) := by
  unfold applyReplay
  extract_lets _ _
  exact .ite (formed_modNode _ _ h) ((frame_mirrorRefused _).formed rfl h)

theorem formed_applyRecord (a0 : RopeRec) (a1 : List Nat) {s : State} (h : MemoryFormed s) :
    MemoryFormed (applyRecord a0 a1 s) := by
  unfold applyRecord
  split
  · exact (frame_applyReserve _ _ _).formed rfl h
  · refine .ite ?_ ?_
    · exact h
    · split
      · exact h
      · exact formed_applySlot _ _ _ _ h
      · exact formed_applyNode _ h
      · exact .foldl h (fun _ _ h0 => formed_applyReplay _ _ _ _ h0)
      · exact .ite ((frame_setRole _ _).formed rfl h) h

theorem formed_recordRx (a0 : Nat) (a1 : Bool) (a2 : Bool) (a3 : RopeRec) (a4 : List Nat) {s : State}
    (h : MemoryFormed s) :
    MemoryFormed (recordRx a0 a1 a2 a3 a4 s) := by
  unfold recordRx
  exact .ite h (.ite (.inc h) (.ite h (formed_applyRecord _ _ ((frame_modRope _ _).formed rfl h))))

theorem formed_giveUp {s : State} (h : MemoryFormed s) :
    MemoryFormed (giveUp s) := by
  unfold giveUp
  exact .ite (formed_relinquish h) h

theorem formed_txMute {s : State} (h : MemoryFormed s) :
    MemoryFormed (txMute s) := by
  unfold txMute
  exact .ite (.foldl h (fun _ _ h0 => .ite (formed_cutTx _ _ h0) h0)) h

theorem formed_dualActive {s : State} (h : MemoryFormed s) :
    MemoryFormed (dualActive s) := by
  unfold dualActive
  refine .ite ?_ ?_
  · extract_lets x0
    have h1 : MemoryFormed x0 := .latch (.inc h)
    clear_value x0
    exact .ite h1 (formed_relinquish h1)
  · exact h

theorem formed_keyMirrorDone {s : State} (h : MemoryFormed s) :
    MemoryFormed (keyMirrorDone s) := by
  unfold keyMirrorDone
  refine .ite ?_ ?_
  · exact h
  · extract_lets _ _ _ x3 x4 x5 x6
    have h7 : MemoryFormed x3 := wf_foldl_writeOctets h
    clear_value x3
    have h8 : MemoryFormed x4 := (frame_pcieLink _ _ _ _ _).formed rfl h7
    clear_value x4
    have h9 : MemoryFormed x6 := by
      unfold x6
      unfold x5
      exact formed_refreshLink _ ((frame_modPort _ _ _).formed rfl h8)
    clear_value x6
    refine .ite ?_ ?_
    · unfold x5
      exact formed_refreshLink _ ((frame_modPort _ _ _).formed rfl h9)
    · exact h9

theorem formed_keyDdr {s : State} (h : MemoryFormed s) :
    MemoryFormed (keyDdr s) := by
  unfold keyDdr
  extract_lets _
  generalize e1 : newDdrKey _ = p2
  obtain ⟨_, _⟩ := p2
  dsimp only
  have h3 := MemoryFormed.viaEq e1 ((frame_newDdrKey _).formed rfl h)
  refine .ite ?_ (.wrBool (.set_root h3))
  exact rfl

theorem formed_rootStep (a0 : PufRead) (a1 : Bool) (a2 : Bool) (a3 : Nat) {s : State} (h : MemoryFormed s) :
    MemoryFormed (rootStep a0 a1 a2 a3 s) := by
  unfold rootStep
  extract_lets x0 x1 x2
  have h3 : MemoryFormed x0.2 := (frame_enrol _ _ _ _ _).formed rfl h
  clear_value x0
  have h4 : MemoryFormed x1 := .ite h (.ite (.wr h) (.ite (.ite h3 (.wr ((frame_pufResult _ _).formed rfl h3)))
    ((frame_reconstruct _ _).formed rfl h)))
  clear_value x1
  have h5 : MemoryFormed x2 := formed_keyDdr h4
  clear_value x2
  exact .ite h5 ((frame_addCause _ _).formed rfl h5)

theorem formed_lastDisp (a0 : Nat) (a1 : Disp) {s : State} (h : MemoryFormed s) :
    MemoryFormed (lastDisp a0 a1 s) := by
  unfold lastDisp
  exact formed_nodeStat _ _ h

theorem formed_ringEnable (a0 : Nat) {s : State} (h : MemoryFormed s) :
    MemoryFormed (ringEnable a0 s) := by
  unfold ringEnable
  exact .ite h (.ite (formed_startRing _ h) ((frame_reject _ _ _ _ _ _).formed rfl h))

end Sys2Proof.Machine
end

section
/-! PROOF. The operations that have no frame, for what they run is nearly the whole machine: resets, writes and reads of
registers, the start, bivouac, and the way of a packet. Each leaves the memory in its canonical form. -/

namespace Sys2Proof.Machine

/-! ### Records and stored words -/

theorem formed_queueRecord (x : CairnItem) {s : State} (h : MemoryFormed s) : MemoryFormed (queueRecord x s) :=
  (follows_queueRecord x s).formed h

theorem formed_logCairn (kind : Nat) (data : List Nat) {s : State} (h : MemoryFormed s) :
    MemoryFormed (logCairn kind data s) := formed_queueRecord _ h

theorem formed_settle (srcs : List Nat) (old : State) {s : State} (h : MemoryFormed s) :
    MemoryFormed (settle srcs old s) := (shows_settle (fun _ => true) rfl srcs old s).formed h

theorem formed_clearLatch (pg m : Nat) {s : State} (h : MemoryFormed s) : MemoryFormed (clearLatch pg m s) :=
  (shows_clearLatch (fun _ => true) pg m s rfl rfl).formed h

theorem formed_storeWord (fs : List Field) (data : Nat) {s : State} (h : MemoryFormed s) :
    MemoryFormed (storeWord fs data s) := .foldl h (fun _ _ h0 => .ite h0.wr h0)

theorem formed_clearSticky (fs : List Field) (data : Nat) {s : State} (h : MemoryFormed s) :
    MemoryFormed (clearSticky fs data s) := .foldl h (fun _ _ h0 => .ite h0.wr h0)

/-! ### Resets -/

theorem formed_cleared (kind source : Nat) (hold : Bool) {s : State} (h : MemoryFormed s) :
    MemoryFormed (cleared kind source hold s) := by
  show Memory.wf (if _ then _ else _) = true
  split
  · exact h
  · rfl

theorem formed_performReset (kind kindShown source : Nat) (hold : Bool) {s : State} (h : MemoryFormed s) :
    MemoryFormed (performReset kind kindShown source hold s) := by
  unfold performReset
  extract_lets _ _ _ _ s1 _ _ s2 _ s3 s4 s5 s6 s7 s8 s9 s10
  have h1 : MemoryFormed s1 := .ite ((frame_countForced _ _).formed rfl ((frame_leaveCamp _ _).formed rfl h)) h
  have h3 : MemoryFormed s3 := formed_cleared kind source hold h1
  clear_value s3
  have h4 : MemoryFormed s4 := .ite h3 ((frame_relive _ _ _).formed rfl ((frame_relive _ _ _).formed rfl h3))
  clear_value s4
  have h5 : MemoryFormed s5 := .ite ((frame_fromCheckpoint _).formed rfl h4) h4
  clear_value s5
  have h6 : MemoryFormed s6 := .ite (.wr h5) h5
  clear_value s6
  have h7 : MemoryFormed s7 := (frame_holdRetired _).formed rfl ((frame_showKept _).formed rfl
    ((frame_showWear _).formed rfl ((frame_resumeTime _ _ _).formed rfl h6)))
  clear_value s7
  have h9 : MemoryFormed s9 := .wr (.wr ((frame_resetLock _).formed rfl ((frame_setLifecycle _ _).formed rfl h7)))
  clear_value s9
  have h10 : MemoryFormed s10 := .ite h9 ((frame_beginStart _).formed rfl h9)
  exact .ite (formed_logCairn _ _ h10) h10

theorem formed_deviceReset (kind source : Nat) {s : State} (h : MemoryFormed s) :
    MemoryFormed (deviceReset kind source s) := by
  unfold deviceReset
  have withdrawn : MemoryFormed (withdrawReset s) := (frame_withdrawReset _).formed rfl h
  exact .ite (.ite h.wr (formed_performReset _ _ _ _ h))
    (.ite (.ite h (.ite (formed_performReset _ _ _ _ withdrawn) (formed_performReset _ _ _ _ withdrawn)))
      (formed_performReset _ _ _ _ h))

theorem formed_warmReset (source : Nat) {s : State} (h : MemoryFormed s) : MemoryFormed (warmReset source s) :=
  formed_deviceReset _ _ h

theorem formed_powerOnReset {s : State} (h : MemoryFormed s) : MemoryFormed (powerOnReset s) := formed_deviceReset _ _ h

theorem formed_aonReset {s : State} (h : MemoryFormed s) : MemoryFormed (aonReset s) := formed_deviceReset _ _ h

theorem formed_sagReset (rails : Nat) {s : State} (h : MemoryFormed s) : MemoryFormed (sagReset rails s) := by
  unfold sagReset
  extract_lets s1 _ s2
  have h2 : MemoryFormed s2 := .ite h h
  exact formed_deviceReset _ _ h2

theorem formed_refclkRestored {s : State} (h : MemoryFormed s) : MemoryFormed (refclkRestored s) :=
  .ite (formed_warmReset _ h.set_watch) h

theorem formed_tamper (b : Nat) {s : State} (h : MemoryFormed s) : MemoryFormed (tamper b s) := by
  unfold tamper
  extract_lets _ _ _ s1 s2 x _ s3 s4
  have h2 : MemoryFormed s2 := h
  have h3 : MemoryFormed s3 := formed_queueRecord _ ((frame_zeroizeSlots _).formed rfl h2)
  clear_value s3
  have h4 : MemoryFormed s4 := .ite h3 (formed_logCairn _ _ h3.wr)
  exact .ite h (.ite h2.set_watch (formed_deviceReset _ _ h4))

/-! ### The life cycle and signed requests -/

theorem formed_sealRoot {s : State} (h : MemoryFormed s) : MemoryFormed (sealRoot s) := by
  unfold sealRoot
  split
  · exact (frame_lcResult _ _).formed rfl h
  · extract_lets s1 s2
    have h1 : MemoryFormed s1 := (frame_resealSectors _ _).formed rfl ((frame_remask _ _ _).formed rfl h)
    exact formed_warmReset _ ((frame_closeLock _).formed rfl ((frame_lcResult _ _).formed rfl h1.wr))

theorem formed_lcSeal (flashError : Bool) {s : State} (h : MemoryFormed s) : MemoryFormed (lcSeal flashError s) := by
  unfold lcSeal
  exact .ite ((frame_lcResult _ _).formed rfl h) (.ite ((frame_lcResult _ _).formed rfl h) (.ite
    ((frame_lcResult _ _).formed rfl h) (.ite ((frame_lcResult _ _).formed rfl h) (formed_sealRoot h))))

theorem formed_lcTransition (target : Nat) (withSeal flashError : Bool) {s : State} (h : MemoryFormed s) :
    MemoryFormed (lcTransition target withSeal flashError s) := by
  unfold lcTransition
  have refused (n : Nat) : MemoryFormed (lcResult n s) := (frame_lcResult _ _).formed rfl h
  extract_lets _ s1 _ s2 pin _ s3
  have h1 : MemoryFormed s1 := (frame_dropRoot _).formed rfl ((frame_zeroizeSlots _).formed rfl
    ((frame_keysForceStop _).formed rfl h))
  have h3 : MemoryFormed s3 := (frame_fuse _ _).formed rfl h.set_root
  exact .ite (.ite (refused _) (.ite (refused _) ((frame_fuse _ _).formed rfl
    ((frame_showHelper _).formed rfl h1.set_root.wr))))
    (.ite (.ite (refused _) (.ite (refused _) (.ite (refused _) (.ite (refused _) (.ite (formed_sealRoot h3) h3)))))
      (.ite (.ite (refused _) (.ite (refused _) (.ite (refused _) ((frame_fuse _ _).formed rfl h)))) (refused _)))

theorem formed_lcGo (data : Nat) {s : State} (h : MemoryFormed s) : MemoryFormed (lcGo data s) :=
  .ite ((frame_lcExit _).formed rfl h) (.ite (formed_lcSeal _ h) (formed_lcTransition _ _ _ h))

theorem formed_requestWarm {s : State} (h : MemoryFormed s) : MemoryFormed (requestWarm s) :=
  formed_warmReset _ ((frame_requestEnd _ _).formed rfl h)

theorem formed_requestAct (breach : Nat) {s : State} (h : MemoryFormed s) : MemoryFormed (requestAct breach s) := by
  unfold requestAct
  split
  · exact formed_requestWarm h
  · exact (frame_requestEnter _).formed rfl h
  · exact (frame_requestExit _).formed rfl h
  · exact (frame_requestClear _ _).formed rfl h
  · exact (frame_requestRevert _).formed rfl h

theorem formed_requestGo (breach : Nat) {s : State} (h : MemoryFormed s) : MemoryFormed (requestGo breach s) := by
  have checked : MemoryFormed (requestCheck s).2 := (frame_requestCheck _).formed rfl h
  exact .ite (formed_requestAct _ checked) ((frame_requestEnd _ _).formed rfl checked)

/-! ### Bivouac -/

theorem formed_bivouacSheds {s : State} (h : MemoryFormed s) : MemoryFormed (bivouacSheds s) := by
  unfold bivouacSheds
  extract_lets s1 s2 s3 s4 d s5 q
  have h1 : MemoryFormed s1 := formed_endCampaigns _ h
  have h2 : MemoryFormed s2 := .foldl h1 (fun _ _ h0 => formed_leaveService _ h0)
  have h3 : MemoryFormed s3 := .foldl h2 (fun _ _ h0 => (frame_feOffLevels _ _).formed rfl h0)
  have h4 : MemoryFormed s4 := formed_endFrames _ _ h3
  have h5 : MemoryFormed s5 := .foldl h4.set_delivered (fun _ _ h0 => formed_endItem _ _ h0)
  exact .ite (.foldl ((frame_modPort _ _ _).formed rfl h5) (fun _ _ h0 => formed_endEgress _ _ h0)) h5

theorem formed_bivouacEntry {s : State} (h : MemoryFormed s) : MemoryFormed (bivouacEntry s) :=
  formed_bivouacSheds ((frame_checkpoint _).formed rfl h.set_boot.wr)

theorem formed_bivouacExit {s : State} (h : MemoryFormed s) : MemoryFormed (bivouacExit s) :=
  .foldl (formed_leaveRefresh h.latch) (fun _ _ h0 => formed_returnPage _ _ h0)

theorem formed_bivouacEntered {s : State} (h : MemoryFormed s) : MemoryFormed (bivouacEntered s) := by
  unfold bivouacEntered
  extract_lets s1 s2
  have h1 : MemoryFormed s1 := MemoryFormed.inc (MemoryFormed.wr h)
  have h2 : MemoryFormed s2 := (frame_fe0Unrelieved _).formed rfl (formed_logCairn _ _ h1.latch)
  exact .ite h (.ite (formed_bivouacExit h2) h2)

theorem formed_bivouacExited {s : State} (h : MemoryFormed s) : MemoryFormed (bivouacExited s) := by
  unfold bivouacExited
  extract_lets s1 _ s2 s3
  have h1 : MemoryFormed s1 := .foldl h (fun _ _ h0 => formed_returnPage _ _ h0)
  have h2 : MemoryFormed s2 := h1.set_boot
  have h3 : MemoryFormed s3 := .ite (formed_refreshLink _ ((frame_modPort _ _ _).formed rfl h2))
    (formed_refreshLink _ h2)
  exact .ite (formed_refreshLink _ ((frame_serveRelief _).formed rfl (formed_logCairn _ _ h3.wr.latch))) h

theorem formed_deepEntry {s : State} (h : MemoryFormed s) : MemoryFormed (deepEntry s) := by
  unfold deepEntry
  extract_lets s1 s2 s3 s4
  have h1 : MemoryFormed s1 := .foldl h (fun _ _ h0 => formed_leaveService _ h0)
  clear_value s1
  have h2 : MemoryFormed s2 := formed_refreshLink _ ((frame_modPort _ _ _).formed rfl h1)
  clear_value s2
  have h3 : MemoryFormed s3 := (frame_feOffLevels _ _).formed rfl ((frame_checkpoint _).formed rfl
    (formed_logCairn _ _ h2.wr))
  clear_value s3
  have h4 : MemoryFormed s4 := h3
  clear_value s4
  exact .ite h ((frame_shadowAlone _).formed rfl (.wr h4))

theorem formed_deepAfter {s : State} (h : MemoryFormed s) : MemoryFormed (deepAfter s) := .ite h (formed_deepEntry h)

theorem formed_deepNowSet {s : State} (h : MemoryFormed s) : MemoryFormed (deepNowSet s) := formed_deepEntry h.wr

theorem formed_deepNowClear {s : State} (h : MemoryFormed s) : MemoryFormed (deepNowClear s) := by
  unfold deepNowClear
  extract_lets s1 back s2 _ s3
  have h2 : MemoryFormed s2 := formed_logCairn _ _ (MemoryFormed.wr (MemoryFormed.wr h))
  have h3 : MemoryFormed s3 := h2.set_boot
  exact .ite h.wr (.foldl h3 (fun _ _ h0 => formed_returnPage _ _ h0))

theorem formed_pwrFail {s : State} (h : MemoryFormed s) : MemoryFormed (pwrFail s) := by
  unfold pwrFail
  extract_lets s1 _ s2 s3 s4
  have h1 : MemoryFormed s1 := MemoryFormed.latch (MemoryFormed.wr (MemoryFormed.wr h))
  have h2 : MemoryFormed s2 := (frame_checkpoint _).formed rfl h1.set_boot
  have h3 : MemoryFormed s3 := .foldl h2 (fun _ _ h0 => formed_leaveService _ h0)
  have h4 : MemoryFormed s4 := .foldl h3 (fun _ _ h0 => (frame_feOffLevels _ _).formed rfl h0)
  refine .ite h2 ?_
  split
  · exact formed_bivouacEntry h2
  · exact h2
  · exact .ite ((frame_feOffLevels _ _).formed rfl (formed_leaveService _ h4)) h4

theorem formed_pwrRestored {s : State} (h : MemoryFormed s) : MemoryFormed (pwrRestored s) :=
  .ite (formed_bivouacExit h.set_boot.wr) h.set_boot.wr

/-! ### Supervisor cores -/

theorem formed_coreFault (k pauseUs : Nat) {s : State} (h : MemoryFormed s) : MemoryFormed (coreFault k pauseUs s) := by
  unfold coreFault
  extract_lets _ live s1
  have h1 : MemoryFormed s1 := (frame_abortSince _).formed rfl ((frame_engaged _ _ _ _).formed rfl
    ((frame_adopt _ _).formed rfl h))
  refine .ite (.ite h ((frame_stopCore _ _).formed rfl (.ite ((frame_fwEnd _ _).formed rfl h) h))) (.ite
    (formed_warmReset _ h) ?_)
  clear_value live
  cases live
  · exact (frame_stopCore _ _).formed rfl h1
  · exact (frame_stopCore _ _).formed rfl ((frame_fwEnd _ _).formed rfl ((frame_afterLive _ _).formed rfl h1))

end Sys2Proof.Machine
end

section
/-! PROOF. Writes and reads of registers, the start, and the way of a packet leave the memory in its canonical form. -/

namespace Sys2Proof.Machine

/-! ### Writes -/

theorem formed_of_some {f g : State → State} {s : State} (e : some g = some f) (h : MemoryFormed (g s)) :
    MemoryFormed (f s) := by
  cases e
  exact h

theorem formed_of_one {c : Prop} [Decidable c] {f g : State → State} {s : State}
    (e : (if c then some g else some id) = some f) (hg : MemoryFormed (g s)) (h : MemoryFormed s) : MemoryFormed
      (f s) := by
  split at e
  · exact formed_of_some e hg
  · exact formed_of_some e h

theorem formed_wordCommand {pg off : Nat} {rt : Route} {data : Word} {f : State → State}
    (e : wordCommand pg off rt data = some f) {s : State} (h : MemoryFormed s) : MemoryFormed (f s) := by
  unfold wordCommand at e
  extract_lets d one at e
  split at e
  · refine formed_of_some e ?_
    split
    · exact formed_deepNowSet h
    · exact formed_deepNowClear h
  · exact formed_of_some e ((frame_retireFe _ _ _).formed rfl h)
  · exact formed_of_one e ((frame_noteGo _).formed rfl h) h
  · exact formed_of_one e (formed_tuneGo _ h) h
  · exact formed_of_one e (formed_tuneGo _ h) h
  · exact formed_of_one e (formed_tuneGo _ h) h
  · exact formed_of_one e (formed_tuneGo _ h) h
  · exact formed_of_some e ((frame_calGo _ _ _).formed rfl h)
  · exact formed_of_some e ((frame_calGo _ _ _).formed rfl h)
  · exact formed_of_some e ((frame_calGo _ _ _).formed rfl h)
  · exact formed_of_some e ((frame_calGo _ _ _).formed rfl h)
  · exact formed_of_some e (formed_roleGo _ h)
  · exact formed_of_one e ((frame_progCommit _).formed rfl h) h
  · exact formed_of_some e (formed_nodeGo _ h)
  · exact formed_of_some e (formed_dissemGo _ h)
  · exact formed_of_some e ((frame_ccmGo _ _).formed rfl h)
  · exact formed_of_some e ((frame_sciGo _ _).formed rfl h)
  · exact formed_of_some e ((frame_pkeCmd _ _).formed rfl h)
  · exact formed_of_some e ((frame_sfpAccess _ _ _).formed rfl h)
  · exact formed_of_some e ((frame_sfpAccess _ _ _).formed rfl h)
  · exact formed_of_some e ((frame_incrHiWrite _ _ _).formed rfl h)
  · refine formed_of_some e ?_
    split
    · exact (frame_timeSet _ _ _).formed rfl h
    · exact (frame_timeAdjust _ _ _).formed rfl h
  · exact formed_of_some e ((frame_meshOffsetWrite _ _).formed rfl h)
  · exact formed_of_some e (formed_warmReset _ h)
  · exact formed_of_some e ((frame_copyGo _ _).formed rfl h)
  · exact formed_of_some e ((frame_testOp _ _ _).formed rfl h)
  · exact formed_of_some e ((frame_fwGo _ _).formed rfl h)
  · exact formed_of_one e ((frame_ownerCosign _).formed rfl h) h
  · refine formed_of_some e ?_
    split
    · exact formed_ropeRelinquish h
    · exact (frame_forceTakeover _).formed rfl h
  · exact formed_of_some e (formed_requestGo _ h)
  · exact formed_of_some e ((frame_i2cCmd _ _ _).formed rfl h)
  · split at e
    · exact formed_of_some e ((frame_mgmtAck _ _ _).formed rfl h)
    · cases e
  · cases e

theorem formed_writeWord (pg off data : Nat) {s : State} (h : MemoryFormed s) :
    MemoryFormed (writeWord pg off data s) := by
  unfold writeWord
  extract_lets fs t
  have ht : MemoryFormed t := formed_clearSticky _ _ (formed_storeWord _ _ h)
  exact .ite (formed_clearLatch _ _ h) (.ite (formed_settle _ _ ht) (formed_afterStore _ _ _ _ ht))

theorem formed_routed (pg : Nat) (rt : Route) (op : State → State) (hop : ∀ s, MemoryFormed s → MemoryFormed (op s))
    {s : State} (h : MemoryFormed s) : MemoryFormed (routed pg rt op s) := by
  unfold routed
  split
  · exact hop _ h
  · extract_lets n t
    have ht : MemoryFormed t := hop _ h
    exact .ite ht (.ite (.wr ht) ht)

theorem formed_regCommand (pg off : Nat) (rt : Route) (data : Word) (op : State → State)
    (hop : ∀ s, MemoryFormed s → MemoryFormed (op s)) {s : State} (h : MemoryFormed s) :
    MemoryFormed (regCommand pg off rt data op s) := by
  unfold regCommand
  refine .ite ((frame_noPage _ _ _ _).formed rfl h) ?_
  split
  · exact (frame_reject _ _ _ _ _ _).formed rfl h
  · exact formed_routed _ _ _ hop h

theorem formed_regWrite (pg off : Nat) (rt : Route) (data : Word) {s : State} (h : MemoryFormed s) :
    MemoryFormed (regWrite pg off rt data s) := by
  unfold regWrite
  refine .ite (formed_ctrlWrite _ _ _ h) (.ite ((frame_evtForce _ _ _ _).formed rfl h) (formed_regCommand _ _ _ _ _
    (fun t ht => ?_) h))
  cases e : wordCommand pg off rt data with
  | some f => exact formed_wordCommand e ht
  | none => exact formed_writeWord _ _ _ ht

theorem formed_partialWrite (pg off : Nat) (rt : Route) (data : Word) {s : State} (h : MemoryFormed s) :
    MemoryFormed (partialWrite pg off rt data s) :=
  .ite ((frame_noPage _ _ _ _).formed rfl h) (.ite (formed_regWrite _ _ _ _ h.wr)
    ((frame_reject _ _ _ _ _ _).formed rfl h))

theorem formed_bar0Write (addr : Nat) (be : BitVec 4) (data : Word) {s : State} (h : MemoryFormed s) :
    MemoryFormed (bar0Write addr be data s) :=
  .ite (.ite (formed_regWrite _ _ _ _ h) (formed_partialWrite _ _ _ _ h))
    (.ite (.ite ((frame_msixWrite _ _ _).formed rfl h) h) (.ite h (.ite (formed_windowWrite _ _ _ h)
      ((frame_unmapped _ _ _ _).formed rfl h))))

theorem formed_bar4Command (off data : Nat) (f : State → State) (hf : ∀ s, MemoryFormed s → MemoryFormed
    (f s)) {s : State}
    (h : MemoryFormed s) : MemoryFormed (bar4Command off data f s) :=
  .ite ((frame_trustDenied _).formed rfl h) (.ite ((frame_reject4 _ _ _ _).formed rfl h) (hf _ h))

theorem formed_bar4Act {off data : Nat} {f : State → State} (e : bar4Act off data = some f) {s : State}
    (h : MemoryFormed s) : MemoryFormed (f s) := by
  unfold bar4Act at e
  split at e
  · refine formed_of_some e ?_
    split
    · exact (frame_trustUnlock _).formed rfl h
    · exact (frame_trustClose _).formed rfl h
  · exact formed_of_some e (formed_commitGo _ h)
  · exact formed_of_some e (formed_bar4Command _ _ _ (fun _ ht => formed_lcGo _ ht) h)
  · exact formed_of_some e (formed_bar4Command _ _ _ (fun _ ht => (frame_pufGo _ _).formed rfl ht) h)
  · cases e

theorem formed_bar4Store (off data : Nat) {s : State} (h : MemoryFormed s) : MemoryFormed (bar4Store off data s) := by
  unfold bar4Store
  extract_lets t
  have ht : MemoryFormed t := .foldl h (fun _ _ h0 => .ite h0 h0.wr)
  exact .ite ht.set_root ht

theorem formed_bar4Write (addr : Nat) (be : BitVec 4) (data : Word) {s : State} (h : MemoryFormed s) :
    MemoryFormed (bar4Write addr be data s) := by
  unfold bar4Write
  refine .ite ((frame_trustDenied _).formed rfl h) (.ite h (.ite ((frame_reject4 _ _ _ _).formed rfl h) (.ite
    ((frame_reject4 _ _ _ _).formed rfl h) (.ite ((frame_reject4 _ _ _ _).formed rfl h) ?_))))
  split
  next e => exact formed_bar4Act e h
  next => exact .ite ((frame_reject4 _ _ _ _).formed rfl h) (formed_bar4Store _ _ h)

theorem formed_busWrite (bar : Bar) (addr : Nat) (be : BitVec 4) (data : Word) {s : State} (h : MemoryFormed s) :
    MemoryFormed (busWrite bar addr be data s) := by
  cases bar with
  | bar0 => exact formed_bar0Write _ _ _ h
  | bar4 => exact formed_bar4Write _ _ _ h

/-! ### Reads -/

theorem formed_regRead (pg off : Nat) (rt : Route) {s : State} (h : MemoryFormed s) :
    MemoryFormed (regRead pg off rt s) := by
  unfold regRead
  split
  · exact (frame_noticePop _).formed rfl h
  · exact (frame_cairnRead _).formed rfl h
  · exact (frame_timeNowRead _).formed rfl h
  · exact (frame_ppsTsRead _).formed rfl h
  · exact (frame_meshNowRead _).formed rfl h
  · exact (frame_tsqPop _ _).formed rfl h
  · exact (frame_tsqPop _ _).formed rfl h
  · exact (frame_ethOctetLoRead _ _ _ _).formed rfl h
  · exact (frame_ethOctetLoRead _ _ _ _).formed rfl h
  · exact (frame_ethOctetLoRead _ _ _ _).formed rfl h
  · exact (frame_ethOctetLoRead _ _ _ _).formed rfl h
  · extract_lets fs t
    have ht : MemoryFormed t := .foldl h (fun _ _ h0 => .ite h0.wr h0)
    clear_value t
    have hn : MemoryFormed (nodeScanAdvance t) := (frame_nodeScanAdvance _).formed rfl ht
    exact .ite ((frame_rmonLoRead _ _ _ _).formed rfl h) (.ite hn (.ite ((frame_keysScanAdvance _).formed rfl ht) ht))

theorem formed_barRead (addr more : Nat) (find : Parity) {s : State} (h : MemoryFormed s) :
    MemoryFormed (barRead addr more find s) :=
  .ite (formed_regRead _ _ _ h) (.ite h (.ite (formed_windowRead _ _ _ h) ((frame_unmapped _ _ _ _).formed rfl h)))

theorem formed_routeRead (rt : Route) (addr more : Nat) (find : Parity) {s : State} (h : MemoryFormed s) :
    MemoryFormed (routeRead rt addr more find s) := by
  cases rt with
  | bar0 => exact formed_barRead _ _ _ h
  | mgmtSpi => exact .ite (formed_regRead _ _ _ h) h

theorem formed_spanRead (rt : Route) (span : ReadSpan) {s : State} (h : MemoryFormed s) :
    MemoryFormed (spanRead rt span s) := .ite ((frame_bar4Read _ _).formed rfl h) (formed_routeRead _ _ _ _ h)

theorem formed_spiReadWords (addr k n : Nat) {s : State} (h : MemoryFormed s) :
    MemoryFormed (spiReadWords addr k n s) := by
  induction n generalizing k s with
  | zero => exact h
  | succ n ih =>
    have read : MemoryFormed (routeRead .mgmtSpi (spiAddr addr k) 0 .good s) := formed_routeRead _ _ _ _ h
    exact ih _ read

theorem formed_spiRead (mode3 : Bool) (addr words : Nat) {s : State} (h : MemoryFormed s) :
    MemoryFormed (spiRead mode3 addr words s) := by
  have begun : MemoryFormed (spiBegin mode3 false s) := (frame_spiBegin _ _ _).formed rfl h
  exact .ite (formed_spiReadWords _ _ _ begun) ((frame_spiBad _).formed rfl begun)

theorem formed_spiWriteWords (addr k : Nat) (data : List Word) {s : State} (h : MemoryFormed s) :
    MemoryFormed (spiWriteWords addr k data s) := by
  induction data generalizing k s with
  | nil => exact h
  | cons w r ih => exact ih _ (formed_regWrite _ _ _ _ h)

theorem formed_spiWrite (mode3 : Bool) (addr : Nat) (data : List Word) {s : State} (h : MemoryFormed s) :
    MemoryFormed (spiWrite mode3 addr data s) := by
  have begun : MemoryFormed (spiBegin mode3 true s) := (frame_spiBegin _ _ _).formed rfl h
  exact .ite (formed_spiWriteWords _ _ _ begun) ((frame_spiBad _).formed rfl begun)

/-! ### The start -/

theorem formed_enterCamp {s : State} (h : MemoryFormed s) : MemoryFormed (enterCamp s) := by
  unfold enterCamp
  extract_lets s1 s2 was s3 s4 _ s5
  have h1 : MemoryFormed s1 := .foldl h (fun _ _ h0 => formed_campOff _ h0)
  clear_value s1
  have h2 : MemoryFormed s2 := .foldl h1 (fun _ _ h0 => (frame_feOffLevels _ _).formed rfl h0)
  clear_value s2
  have h4 : MemoryFormed s4 := .ite ((frame_closeLock _).formed rfl (formed_logCairn _ _
    ((frame_setLifecycle _ _).formed rfl h2))) h2
  clear_value s4
  have h5 : MemoryFormed s5 := .ite h4 h4
  exact .wr (.wr (.wr h5))

theorem formed_applyEntry (e : Entry) {s : State} (h : MemoryFormed s) : MemoryFormed (applyEntry e s) :=
  .ite h (.ite ((frame_settingsCtrl _ _ _).formed rfl h) (formed_regWrite _ _ _ _ h))

theorem formed_applyEntries (i : Nat) (l : List Entry) {s : State} (h : MemoryFormed s) :
    MemoryFormed (applyEntries i l s) := by
  induction l generalizing i s with
  | nil => exact h
  | cons e r ih =>
    unfold applyEntries
    extract_lets was t u
    have ht : MemoryFormed t := formed_applyEntry _ h.wr
    clear_value t
    have hu : MemoryFormed u := .ite (.wr ht) ht
    exact .ite h (.ite (ih _ (.wr ht)) (ih _ (.inc hu)))

theorem formed_enablePages {s : State} (h : MemoryFormed s) : MemoryFormed (enablePages s) :=
  .foldl h (fun _ _ h0 => .ite (formed_pageEnable _ h0) h0)

theorem formed_applySettings (c : List Byte) {s : State} (h : MemoryFormed s) : MemoryFormed (applySettings c s) := by
  have applied : MemoryFormed (applyEntries 0 (entriesOf c) (wr F.MGMT.START_STAGE 7 s)) := formed_applyEntries _ _ h.wr
  exact .ite (formed_enablePages applied.wr) applied

theorem formed_settingsStep (readBack : Bool) (n : Nat) {s : State} (h : MemoryFormed s) :
    MemoryFormed (settingsStep readBack n s) := by
  induction n generalizing s with
  | zero => exact (frame_noImage _).formed rfl h
  | succ n ih =>
    unfold settingsStep
    extract_lets r c t m
    have ht : MemoryFormed t := (frame_readSettings _ _).formed rfl h
    clear_value t
    have hm : MemoryFormed m.2 := (frame_migrateCopy _ _ _).formed rfl ht
    clear_value m
    refine .ite (.wr ht) ?_
    split
    · extract_lets f
      have hf : MemoryFormed f.2 := (frame_fallBack _ _).formed rfl hm
      exact .ite (ih ((frame_showSet _).formed rfl hf)) ((frame_noImage _).formed rfl hf)
    · exact formed_applySettings _ hm.wr

theorem formed_celleyStep (readBack : Bool) {s : State} (h : MemoryFormed s) : MemoryFormed
    (celleyStep readBack s) := by
  unfold celleyStep
  extract_lets bootable s1 s2 _ s3
  have h1 : MemoryFormed s1 := .ite (formed_settingsStep _ _ h) h
  clear_value s1
  have h2 : MemoryFormed s2 := (frame_setPageState _ _ _).formed rfl (.wr h1)
  clear_value s2
  have h3 : MemoryFormed s3 := (frame_showTrial _).formed rfl h2
  exact .ite h1 (.wr h3)

theorem formed_clocksLocked (puf : PufRead) (entropyOk flashError : Bool) (pairs cs0 cs1 : Nat)
    (readBack : Bool) {s : State}
    (h : MemoryFormed s) : MemoryFormed (clocksLocked puf entropyOk flashError pairs cs0 cs1 readBack s) := by
  unfold clocksLocked
  extract_lets s1 s2 s3 s4
  have h1 : MemoryFormed s1 := (frame_pllLock _ _).formed rfl ((frame_pllLock _ _).formed rfl
    ((frame_pllRequest _ _).formed rfl ((frame_pllRequest _ _).formed rfl h)))
  clear_value s1
  have h2 : MemoryFormed s2 := formed_rootStep _ _ _ _ (.wr h1)
  clear_value s2
  have h3 : MemoryFormed s3 := (frame_fuseStep _ _ _).formed rfl (.wr h2)
  clear_value s3
  have h4 : MemoryFormed s4 := (frame_manifestStep _).formed rfl (.wr h3)
  exact .ite h (formed_celleyStep _ (.wr h4))

theorem formed_startRun {s : State} (h : MemoryFormed s) : MemoryFormed (startRun s) := by
  unfold startRun
  extract_lets r s1 s2
  have h1 : MemoryFormed s1 := .ite ((frame_writeAct _ _).formed rfl h) h
  clear_value s1
  have h2 : MemoryFormed s2 := .wr (.wr h1)
  exact .ite h (.ite (formed_bivouacEntry h2) h2)

theorem formed_trainedStep {s : State} (h : MemoryFormed s) : MemoryFormed (trainedStep s) :=
  .ite (formed_enterCamp h) (.ite (formed_startRun h.wr) h.wr)

theorem formed_ddrTrained (ok : Bool) (sizeGib : Nat) (twoRanks : Bool) {s : State} (h : MemoryFormed s) :
    MemoryFormed (ddrTrained ok sizeGib twoRanks s) :=
  .ite h (.ite (formed_trainedStep ((frame_startFill _).formed rfl ((frame_setPageState _ _ _).formed rfl h.wrBool.wr)))
    (.ite h.set_boot (formed_trainedStep ((frame_addCause _ _).formed rfl (MemoryFormed.latch
      ((frame_setPageState _ _ _).formed rfl h.wr))))))

/-! ### The way of a packet -/

/-- A state that comes out of a fold beside a result. -/
theorem formed_of_foldl {α β : Type} {l : List β} {g : State × α → β → State × α} {x : State × α} {t : State} {b : α}
    (e : l.foldl g x = (t, b)) (h : MemoryFormed x.1) (hg : ∀ x k, MemoryFormed x.1 → MemoryFormed (g x k).1) :
    MemoryFormed t := by
  induction l generalizing x with
  | nil =>
    cases e
    exact h
  | cons k r ih => exact ih e (hg x k h)

theorem formed_fragmentDown (p : Packet) (f : Frame) (ovh : Nat) (c : List Byte) (pend : Bool) {s : State}
    (h : MemoryFormed s) : MemoryFormed (fragmentDown p f ovh c pend s) := by
  unfold fragmentDown
  extract_lets parts s1
  have h1 : MemoryFormed s1 := .inc (.inc h)
  clear_value s1
  split
  next s2 ids e =>
    have h2 := formed_of_foldl e h1 (fun x k hx => (frame_setFrame _ _ _).formed rfl ((frame_newFrame _).formed rfl hx))
    exact .foldl h2 (fun _ _ h0 => formed_enterDown _ _ h0)

theorem formed_buildDown (p : Packet) (sl n : Nat) {s : State} (h : MemoryFormed s) :
    MemoryFormed (buildDown p sl n s) :=
  formed_afterEntry _ (.ite (formed_fragmentDown _ _ _ _ _ h) (formed_enterDown _ _
    ((frame_setFrame _ _ _).formed rfl h)))

theorem formed_treeNode (p : Packet) (sl n : Nat) {s : State} (h : MemoryFormed s) :
    MemoryFormed (treeNode p sl n s) := by
  unfold treeNode
  refine .ite (formed_deliverPacket _ _ h) ?_
  split
  next e => exact formed_txStat _ _ (.viaEq e (formed_hopRule _ h))
  next e =>
    have passed := MemoryFormed.viaEq e (formed_hopRule _ h)
    have noPath {t : State} (ht : MemoryFormed t) (x : Packet) (d : Disp) : MemoryFormed (txStat (some n) d
      (endPacket x d t)) :=
      formed_txStat _ _ (formed_endPacket _ _ ht)
    exact .ite (noPath passed _ _) (.ite (noPath passed _ _) (.ite (noPath (MemoryFormed.latch passed.inc) _ _)
      (.ite passed.set_rereads (.ite (noPath passed _ _) (formed_buildDown _ _ _ passed)))))

theorem formed_downlinkTree (p : Packet) {s : State} (h : MemoryFormed s) : MemoryFormed (downlinkTree p s) := by
  unfold downlinkTree
  refine .ite (formed_endPacket _ _ h) ?_
  split
  · exact .ite (formed_deliverPacket _ _ h) (formed_endPacket _ _ h)
  · split
    · exact .ite (formed_deliverPacket _ _ h) (formed_endPacket _ _ h)
    · exact .ite (formed_deliverPacket _ _ h) (.ite (formed_endPacket _ _ h) (formed_treeNode _ _ _ h))

theorem formed_routeUplink (p : Packet) (sl : Nat) {s : State} (h : MemoryFormed s) :
    MemoryFormed (routeUplink p sl s) := by
  unfold routeUplink
  refine .ite (formed_deliverTo _ _ h) (.ite (formed_deliverTo _ _ h) (.ite (formed_endPacket _ _ h) (.ite (.ite
    (formed_deliverPacket _ _ h)
    (.ite (formed_endPacket _ _ h) (.ite (formed_hopRule _ h) ?_))) (.ite (formed_deliverPacket _ _ h)
      (formed_uplinkEthernet _ _ h)))))
  split
  next e => exact formed_endPacket _ _ (.viaEq e ((frame_police _ _ _).formed rfl h))
  next e => exact formed_downlinkTree _ (.inc (.viaEq e ((frame_police _ _ _).formed rfl h)))

theorem formed_datagramComplete (k : Nat) (c : Reasm) {s : State} (h : MemoryFormed s) :
    MemoryFormed (datagramComplete k c s) := by
  unfold datagramComplete
  extract_lets s1 item
  have h1 : MemoryFormed s1 := (frame_countReasm _).formed rfl (.inc h.set_reasm)
  clear_value s1
  refine .ite (formed_endItem _ _ h1) ?_
  split
  · exact formed_routeUplink _ _ h1
  · exact formed_deliver _ _ h1

theorem formed_fragmentIn (x : Item) (m : Mhr) (n : Nat) (y : Fragment) {s : State} (h : MemoryFormed s) :
    MemoryFormed (fragmentIn x m n y s) := by
  unfold fragmentIn
  extract_lets st held k c plain s1 c' s2
  have h1 : MemoryFormed s1 := .ite ((frame_countReasm _).formed rfl h.set_reasm) h
  have h2 : MemoryFormed s2 := (frame_countReasm _).formed rfl (wf_writeOctets h _ _)
  exact .ite (formed_endItem _ _ h) (.ite (formed_noContext _ h.inc) (.ite (formed_endItem _ _ h) (.ite
    (formed_noContext _ h)
    (.ite (formed_endItem _ _ (.inc h1)) (.ite (formed_datagramComplete _ _ h2) h2)))))

theorem formed_uplink (x : Item) (m : Mhr) (sl : Nat) (mac sun : Bool) (body : Payload) {s : State}
    (h : MemoryFormed s) :
    MemoryFormed (uplink x m sl mac sun body s) := by
  unfold uplink
  refine .ite (formed_endItem _ _ h) (.ite (formed_deliver _ _ h) ?_)
  split
  · exact formed_deliver _ _ h
  · refine .ite (.ite (formed_deliver _ _ h.inc) ?_) ?_
    · split
      · exact formed_fragmentIn _ _ _ _ h
      · exact formed_deliver _ _ h
    · split
      · exact formed_routeUplink _ _ h
      · exact formed_deliver _ _ h

theorem formed_handOn (l : Lane) (m : Mhr) (x : Item) (b : Body) {s : State} (h : MemoryFormed s) :
    MemoryFormed (handOn l m x b s) := by
  unfold handOn
  refine .ite (formed_endItem _ _ h) ?_
  split
  · split
    · exact formed_uplink _ _ _ _ _ _ h
    · split
      next e => exact formed_endItem _ _ (.viaEq e (formed_hemalReport _ _ _ h))
      next e => exact formed_uplink _ _ _ _ _ _ (.viaEq e (formed_hemalReport _ _ _ h))
  · exact formed_uplink _ _ _ _ _ _ h

theorem formed_passRecorded (i n hw map : Nat) (m : Mhr) (figs : Figures) (b : Body) {s : State} (h : MemoryFormed s) :
    MemoryFormed (passRecorded i n hw map m figs b s) := by
  unfold passRecorded
  extract_lets l x s1 s2 s3 s4 poll s5 s6 s7
  have h1 : MemoryFormed s1 := formed_writeRecord _ _ _ _ _ _ h
  clear_value s1
  have h2 : MemoryFormed s2 := formed_learnFrame _ _ _ _ _ h1
  clear_value s2
  have h4 : MemoryFormed s4 := .inc ((frame_releaseDrained _ _ _).formed rfl (formed_nodeStat _ _ h2))
  clear_value s4
  have h5 : MemoryFormed s5 := .ite (.inc h4) h4
  clear_value s5
  have h6 : MemoryFormed s6 := by
    unfold s6
    split
    · exact formed_appointment _ _ _ h5
    · exact h5
  clear_value s6
  exact formed_handOn _ _ _ _ (formed_answer _ _ _ _ h6)

theorem formed_passUnrecorded (i : Nat) (m : Mhr) (figs : Figures) (b : Body) {s : State} (h : MemoryFormed s) :
    MemoryFormed (passUnrecorded i m figs b s) := by
  unfold passUnrecorded
  extract_lets l join x s1 s2 s3 s4 s5
  have h1 : MemoryFormed s1 := .inc ((frame_releaseDrained _ _ _).formed rfl h)
  clear_value s1
  have h2 : MemoryFormed s2 := .ite (.latch (.inc h1)) h1
  clear_value s2
  have h3 : MemoryFormed s3 := .ite (.inc h2) h2
  clear_value s3
  have h4 : MemoryFormed s4 := by
    unfold s4
    split
    · exact formed_nodeStat _ _ h3
    · exact h3
  clear_value s4
  exact .ite (formed_endVerdict _ _ h) (formed_uplink _ _ _ _ _ _ (formed_answer _ _ _ _ h4))

theorem formed_frameVerdict (i : Nat) (fcsOk micOk : Bool) (figs : Figures) (b : Body) {s : State}
    (h : MemoryFormed s) :
    MemoryFormed (frameVerdict i fcsOk micOk figs b s) := by
  have ends (d : Disp) : MemoryFormed (endVerdict i d s) := formed_endVerdict _ _ h
  unfold frameVerdict
  extract_lets l r
  split
  · exact .ite (ends _) h
  · refine .ite h (.ite (ends _) (.ite (ends _) ?_))
    split
    · exact ends _
    · refine .ite (formed_passUnrecorded _ _ _ _ h) ?_
      split
      · exact h
      · refine .ite h (.ite (formed_endVerdict _ _ ((frame_suppress _).formed rfl h)) (.ite (ends _) (.ite (ends _)
          (.ite (formed_endVerdict _ _ h.latch) ?_))))
        split
        · exact formed_passUnrecorded _ _ _ _ h
        · extract_lets c
          split
          · exact formed_passRecorded _ _ _ _ _ _ _ h
          · exact formed_answer _ _ _ _ (ends _)
          · exact ends _

theorem formed_ethIpv6 (n : Nat) (x : Staged) (ip : Ipv6) {s : State} (h : MemoryFormed s) :
    MemoryFormed (ethIpv6 n x ip s) := by
  unfold ethIpv6
  refine .ite (formed_ethOther _ _ h) (.ite ((frame_close _ _ _).formed rfl h) ?_)
  extract_lets c
  split
  next e => exact (frame_close _ _ _).formed rfl (.viaEq e ((frame_police _ _ _).formed rfl h))
  next e =>
    have policed := MemoryFormed.viaEq e ((frame_police _ _ _).formed rfl h)
    exact .ite (formed_deliverTo _ _ policed) (.ite (formed_deliverTo _ _ policed) (formed_downlinkTree _ policed))

theorem formed_ethHandOn (n : Nat) {s : State} (h : MemoryFormed s) : MemoryFormed (ethHandOn n s) := by
  unfold ethHandOn
  split
  · exact h
  next x r e =>
    extract_lets s1 room
    have h1 : MemoryFormed s1 := (frame_modPort _ _ _).formed rfl h
    clear_value s1
    refine .ite h (.ite ((frame_macControl _ _ _).formed rfl h1) (.ite ((frame_ptpTake _ _ _).formed rfl h1) (.ite
      ((frame_close _ _ _).formed rfl h1) (.ite (formed_ethOther _ _ h1) ?_))))
    split
    · exact (frame_close _ _ _).formed rfl (.inc h1)
    · exact .ite ((frame_close _ _ _).formed rfl (.inc h1)) (formed_ethIpv6 _ _ _ h1)

theorem formed_pathReread {s : State} (h : MemoryFormed s) : MemoryFormed (pathReread s) := by
  refine .foldl h.set_rereads (fun t r ht => ?_)
  split
  · refine .ite (formed_endPacket _ _ ht) ?_
    split
    · exact formed_treeNode _ _ _ ht
    · exact formed_downlinkTree _ ht
  · have read : MemoryFormed (rereadNode r t).2 := (frame_rereadNode _ _).formed rfl ht
    exact .ite read read.set_rereads

/-! ### Transmit rings and the SRAM scrub -/

theorem formed_takeChecked (r i : Nat) {s : State} (h : MemoryFormed s) : MemoryFormed (takeChecked r i s) := by
  have taken : MemoryFormed (newFrame (inc (F.RINGS.PACKETS r) s)).2 := (frame_newFrame _).formed rfl h.inc
  unfold takeChecked
  extract_lets hd len ok b
  refine .ite (formed_badSlot _ _ _ h) ?_
  split
  · split
    · exact formed_badSlot _ _ _ h
    · exact (frame_modPort _ _ _).formed rfl taken
  · split
    · exact formed_badSlot _ _ _ h
    · exact .ite (formed_endPacket _ _ taken) (formed_downlinkTree _ taken)
  · split
    · exact formed_badSlot _ _ _ h.inc
    · exact formed_enterAir _ h.inc

theorem formed_txSlotTake (r : Nat) (lost : SlotLoss) {s : State} (h : MemoryFormed s) :
    MemoryFormed (txSlotTake r lost s) := by
  unfold txSlotTake
  extract_lets i t n rest s1 s2
  have h2 : MemoryFormed s2 := (frame_refreshLevel _ _).formed rfl ((frame_advanceRing _ _ _).formed rfl
    ((frame_modRing _ _ _).formed rfl h))
  exact .ite h (.ite (.ite ((frame_advanceRing _ _ _).formed rfl h) (formed_poisonSlots _ _ _
    ((frame_ddrLost _ _).formed rfl h))) (.ite ((frame_advanceRing _ _ _).formed rfl h) (.ite h
    (.ite (formed_poisonSlots _ _ _ h) (.ite (formed_poisonSlots _ _ _ ((frame_ddrLost _ _).formed rfl h)) (.ite h
      (.ite (formed_poisonSlots _ _ _ h)
      (.ite (formed_badSlot _ _ _ ((frame_ddrLost _ _).formed rfl h2)) (formed_takeChecked _ _ h2)))))))))

theorem formed_parityError (pg : Nat) (work : Bool) {s : State} (h : MemoryFormed s) :
    MemoryFormed (parityError pg work s) := .latch h.wr

theorem formed_sramFound (p : SramPlace) (off : Nat) {s : State} (h : MemoryFormed s) :
    MemoryFormed (sramFound p off s) := by
  cases p with
  | core i both =>
    exact .ite ((frame_sramLost _ _ _).formed rfl (formed_nodeLost _ h)) ((frame_sramCorrected _ _ _).formed rfl h)
  | slot i both =>
    exact .ite ((frame_sramLost _ _ _).formed rfl (.wr (.wr (formed_changeSlot _ _ h))))
      ((frame_sramCorrected _ _ _).formed rfl h)
  | buffer id => exact (frame_sramLost _ _ _).formed rfl (formed_loseFrame _ h)
  | free => exact h
  | cache n => exact (frame_sramLast _ _ _).formed rfl (.inc ((frame_cacheDrop _ _).formed rfl h))
  | lane i => exact (frame_sramLost _ _ _).formed rfl (formed_laneFault _ _ h)
  | modulator p => exact (frame_sramLost _ _ _).formed rfl (formed_txModFault _ _ h)
  | profile => exact (frame_sramLost _ _ _).formed rfl ((frame_loadProfile _).formed rfl h)
  | work pg id =>
    have found : MemoryFormed (parityError pg true (sramLost 3 off s)) := formed_parityError _ _
      ((frame_sramLost _ _ _).formed rfl h)
    refine .ite h ?_
    cases id with
    | some id => exact formed_loseFrame _ found
    | none => exact (frame_workOperation _ _).formed rfl found
  | config pg => exact .ite (formed_pageFault _ _ (formed_parityError _ _ ((frame_sramLost _ _ _).formed rfl h))) h
  | supervisor c us => exact formed_coreFault _ _ ((frame_sramLost _ _ _).formed rfl h)

theorem formed_sramScrub (finds : List SramFind) {s : State} (h : MemoryFormed s) : MemoryFormed
    (sramScrub finds s) := by
  refine .ite h (.foldl h.inc (fun t f ht => ?_))
  have found : MemoryFormed (sramFound f.place f.off t) := formed_sramFound _ _ ht
  dsimp only
  split
  · exact (frame_fieldRepair _ _ _ _).formed rfl found
  · exact found

end Sys2Proof.Machine
end

section
/-! PROOF. Every command, and with it every step, leaves the memory in its canonical form. -/

namespace Sys2Proof.Machine

theorem formed_settleWork (old : State) {s : State} (h : MemoryFormed s) : MemoryFormed (settleWork old s) :=
  (follows_showWork old _).formed ((frame_storeWork old _).formed rfl (formed_airWork h))

/-- A command that, where it goes on, leaves the memory in its form. -/
def KeepsForm (c : Instr) (s : State) : Prop := ∀ t, exec c s = .next t → MemoryFormed t

theorem keeps_of_done {c : Instr} {s u : State} (e : exec c s = done s u) (h : MemoryFormed u) : KeepsForm c s := by
  intro t ht
  rw [e, done, Host.Outcome.next.injEq] at ht
  exact ht ▸ h

theorem keeps_of_work {c : Instr} {s u : State} (e : exec c s = done s (settleWork s u)) (h : MemoryFormed u) :
    KeepsForm c s := keeps_of_done e (formed_settleWork s h)

theorem keeps_of_page {c : Instr} {s u : State} {pg : Nat}
    (e : exec c s = if isPage pg then done s (settleWork s u) else .fault .noSuchPage) (h : MemoryFormed u) :
    KeepsForm c s := by
  cases page : isPage pg with
  | true => exact keeps_of_work (by rw [e, page]; rfl) h
  | false =>
    intro t ht
    rw [e, page] at ht
    cases ht

theorem keepsForm (c : Instr) {s : State} (h : MemoryFormed s) : KeepsForm c s := by
  cases c with
  | sagWarn => exact keeps_of_done rfl ((frame_sagWarn _ _).formed rfl h)
  | supplyHigh => exact keeps_of_done rfl ((frame_supplyHigh _ _).formed rfl h)
  | sagReset => exact keeps_of_work rfl (formed_sagReset _ h)
  | aonPowerOnReset => exact keeps_of_work rfl (formed_aonReset h)
  | suppliesValid => exact keeps_of_work rfl ((frame_suppliesValid _ _ _ _ _).formed rfl h)
  | tamperSupplyChangeover => exact keeps_of_done rfl ((frame_changeover _ _).formed rfl h)
  | vbatCrossing => exact keeps_of_done rfl ((frame_vbatCrossing _ _).formed rfl h)
  | vbatMeasurement => exact keeps_of_done rfl ((frame_vbatMeasure _ _).formed rfl h)
  | pwrFail => exact keeps_of_work rfl (formed_pwrFail h)
  | pwrRestored => exact keeps_of_work rfl (formed_pwrRestored h)
  | xo32kFault => exact keeps_of_done rfl ((frame_xoFault _).formed rfl h)
  | xo32kReturn => exact keeps_of_done rfl ((frame_xoReturn _).formed rfl h)
  | refclkAbsent => exact keeps_of_work rfl (formed_refclkAbsent h)
  | refclkCoarseCheck => exact keeps_of_work rfl (formed_coarseCheck _ h)
  | refclkFineGate => exact keeps_of_work rfl (formed_fineGate _ h)
  | refclkRestored => exact keeps_of_work rfl (formed_refclkRestored h)
  | sdsrefMeasurement => exact keeps_of_done rfl ((frame_sdsrefMeasure _ _).formed rfl h)
  | pllRequest => exact keeps_of_done rfl ((frame_pllRequest _ _).formed rfl h)
  | pllLock => exact keeps_of_done rfl ((frame_pllLock _ _).formed rfl h)
  | pllHoldExpiry => exact keeps_of_done rfl ((frame_pllHoldExpiry _ _).formed rfl h)
  | pllUnlock => exact keeps_of_done rfl ((frame_pllUnlock _ _).formed rfl h)
  | tempSample => exact keeps_of_done rfl ((frame_showHealth _).formed rfl ((frame_tempSample _ _).formed rfl h))
  | registerWrite => exact keeps_of_work rfl (formed_busWrite _ _ _ _ h)
  | rcCounterRead => exact keeps_of_done rfl (formed_spanRead _ _ h)
  | ctrlEnable => exact keeps_of_work rfl (formed_ctrlWrite _ _ _ h)
  | ctrlDisable => exact keeps_of_work rfl (formed_ctrlWrite _ _ _ h)
  | forceStop => exact keeps_of_work rfl (formed_ctrlWrite _ _ _ h)
  | selfTestReq => exact keeps_of_work rfl (formed_ctrlWrite _ _ _ h)
  | ctrlLock => exact keeps_of_work rfl (formed_ctrlWrite _ _ _ h)
  | startSequenceDone => exact keeps_of_page rfl (formed_startDone _ _ h)
  | drainComplete => exact keeps_of_page rfl (formed_drainDone _ h)
  | blockFault => exact keeps_of_page rfl (formed_blockFaulted _ h)
  | selfTestDone => exact keeps_of_page rfl ((frame_selfTestDone _ _ _).formed rfl h)
  | selfTestWaitExpiry => exact keeps_of_page rfl ((frame_selfTestExpiry _ _).formed rfl h)
  | evtForce => exact keeps_of_done rfl ((frame_evtForce _ _ _ _).formed rfl h)
  | holdoffExpiry => exact keeps_of_done rfl ((frame_holdoffExpiry _ _).formed rfl h)
  | msixUnmask => exact keeps_of_done rfl ((frame_msixUnmask _ _).formed rfl h)
  | msixEnable => exact keeps_of_done rfl ((frame_msixEnable _ _ _ _).formed rfl h)
  | mgmtAck => exact keeps_of_done rfl (formed_regWrite _ _ _ _ h)
  | mgmtSpiRead => exact keeps_of_done rfl (formed_spiRead _ _ _ h)
  | mgmtSpiWrite => exact keeps_of_work rfl (formed_spiWrite _ _ _ h)
  | mgmtSpiStatus => exact keeps_of_done rfl ((frame_spiStatus _ _).formed rfl h)
  | quadOn => exact keeps_of_done rfl ((frame_quadOn _ _).formed rfl h)
  | quadOff => exact keeps_of_done rfl ((frame_quadOff _ _).formed rfl h)
  | mgmtSpiCsRise => exact keeps_of_done rfl ((frame_spiEnd _ _).formed rfl h)
  | gpioEdge => exact keeps_of_done rfl ((frame_gpioEdge _ _ _).formed rfl h)
  | i2c1Cmd => exact keeps_of_done rfl ((frame_i2cCmd _ _ _).formed rfl h)
  | i2c1Done => exact keeps_of_done rfl ((frame_i2cDone _ _ _).formed rfl h)
  | i2c1Timeout => exact keeps_of_done rfl ((frame_i2cTimeout _).formed rfl h)
  | extest => exact keeps_of_done rfl ((frame_jtagDrive _ _).formed rfl h)
  | idcode => exact keeps_of_done rfl ((frame_jtagSelect _ _).formed rfl h)
  | samplePreload => exact keeps_of_done rfl ((frame_jtagLoad _ _).formed rfl h)
  | clamp => exact keeps_of_done rfl ((frame_jtagDrive _ _).formed rfl h)
  | highz => exact keeps_of_done rfl ((frame_jtagDrive _ _).formed rfl h)
  | bypass => exact keeps_of_done rfl ((frame_jtagSelect _ _).formed rfl h)
  | jtagTrst => exact keeps_of_done rfl ((frame_jtagReset _).formed rfl h)
  | tuneGo => exact keeps_of_work rfl (formed_regWrite _ _ _ _ h)
  | retuneDrainExpiry => exact keeps_of_work rfl (formed_retuneExpiry _ h)
  | synthLock => exact keeps_of_work rfl ((frame_synthLock _ _ _ _).formed rfl h)
  | settleElapsed => exact keeps_of_work rfl ((frame_settleElapsed _ _ _).formed rfl h)
  | rxTxElapsed => exact keeps_of_work rfl ((frame_rxTxElapsed _ _).formed rfl h)
  | answerGrantSample => exact keeps_of_work rfl (formed_answerGrant _ _ h)
  | txLastSymbol => exact keeps_of_work rfl (formed_txLastSymbol _ h)
  | txRxElapsed => exact keeps_of_work rfl (formed_txRxElapsed _ h)
  | synthUnlock => exact keeps_of_work rfl (formed_synthUnlock _ h)
  | synthRetry => exact keeps_of_work rfl ((frame_lockRetry _ _).formed rfl h)
  | calibrationTemperatureTrigger => exact keeps_of_work rfl ((frame_tempTrigger _ _).formed rfl h)
  | calibrationIqAgeTrigger => exact keeps_of_work rfl ((frame_iqTrigger _ _).formed rfl h)
  | calibrationDone => exact keeps_of_work rfl ((frame_calDone _ _ _ _).formed rfl h)
  | calibrationRetryTimer => exact keeps_of_work rfl ((frame_calRetry _ _).formed rfl h)
  | calReqOsc => exact keeps_of_work rfl (formed_regWrite _ _ _ _ h)
  | calReqSynth => exact keeps_of_work rfl (formed_regWrite _ _ _ _ h)
  | calReqAaf => exact keeps_of_work rfl (formed_regWrite _ _ _ _ h)
  | calReqDc => exact keeps_of_work rfl (formed_regWrite _ _ _ _ h)
  | calReqIq => exact keeps_of_work rfl (formed_regWrite _ _ _ _ h)
  | calibrationOverdue => exact keeps_of_work rfl ((frame_calOverdue _ _).formed rfl h)
  | reliefHandOver => exact keeps_of_work rfl ((frame_handOver _).formed rfl h)
  | relievedLanesEnded => exact keeps_of_work rfl ((frame_relievedLanesEnded _).formed rfl h)
  | reliefHandback => exact keeps_of_work rfl ((frame_handback _).formed rfl h)
  | reliefFe3LanesEnded => exact keeps_of_work rfl ((frame_reliefOver _).formed rfl h)
  | roleIdle => exact keeps_of_work rfl (formed_regWrite _ _ _ _ h)
  | roleExtend => exact keeps_of_work rfl (formed_regWrite _ _ _ _ h)
  | roleSubstitute => exact keeps_of_work rfl (formed_regWrite _ _ _ _ h)
  | roleListenThrough => exact keeps_of_work rfl (formed_regWrite _ _ _ _ h)
  | ltSaturation => exact keeps_of_work rfl ((frame_ltSaturation _).formed rfl h)
  | ltResume => exact keeps_of_work rfl (formed_regWrite _ _ _ _ h)
  | dwellStop => exact keeps_of_work rfl (formed_dwellStop _ h)
  | progCommit => exact keeps_of_work rfl (formed_regWrite _ _ _ _ h)
  | progBankDone => exact keeps_of_done rfl ((frame_progDone _ _).formed rfl h)
  | coexGrant => exact keeps_of_work rfl (formed_coexGrant _ h)
  | coexGntTimeout => exact keeps_of_work rfl (formed_coexTimeout _ h)
  | coexGntWithdrawn => exact keeps_of_work rfl (formed_coexWithdrawn _ h)
  | binEnergyUpdate => exact keeps_of_done rfl ((frame_energyUpdate _ _ _).formed rfl h)
  | detection => exact keeps_of_work rfl (formed_detect _ _ _ _ _ _ _ _ h)
  | detectionReoffer => exact keeps_of_work rfl (formed_detect _ _ _ _ _ _ _ _ h)
  | laneWakeDone => exact keeps_of_work rfl ((frame_laneAwake _ _).formed rfl h)
  | preambleLoss => exact keeps_of_work rfl (formed_preambleLoss _ h)
  | searchMaxExpiry => exact keeps_of_work rfl (formed_searchExpiry _ h)
  | syncMatch => exact keeps_of_work rfl (formed_syncMatch _ _ _ _ h)
  | phrComplete => exact keeps_of_work rfl (formed_phrComplete _ _ h)
  | lastSymbol => exact keeps_of_work rfl ((frame_lastSymbol _ _).formed rfl h)
  | gainStepDown => exact keeps_of_work rfl ((frame_gainDown _ _).formed rfl h)
  | gainStepUp => exact keeps_of_work rfl ((frame_gainUp _ _).formed rfl h)
  | forcedGainStep => exact keeps_of_work rfl ((frame_forcedStep _ _).formed rfl h)
  | gainRecovery => exact keeps_of_work rfl ((frame_gainRecovery _ _).formed rfl h)
  | gainRecoveryEnd => exact keeps_of_work rfl ((frame_gainRecovered _ _).formed rfl h)
  | captureFifoPush => exact keeps_of_work rfl (formed_capturePush _ _ _ h)
  | laneWatchdog => exact keeps_of_work rfl (formed_laneWatchdog _ h)
  | laneFault => exact keeps_of_work rfl (formed_laneFault _ _ h)
  | laneTestDone => exact keeps_of_work rfl ((frame_laneTested _ _ _).formed rfl h)
  | laneSelfcheck => exact keeps_of_work rfl ((frame_laneSelfcheck _ _ _).formed rfl h)
  | txModFault => exact keeps_of_work rfl (formed_txModFault _ _ h)
  | mhrComplete => exact keeps_of_work rfl (formed_mhrComplete _ _ _ h)
  | auxSecurityHeader => exact keeps_of_work rfl ((frame_auxHeader _ _ _ _ _ _ _).formed rfl h)
  | keyReady => exact keeps_of_work rfl (formed_keyReady _ h)
  | frameVerdict => exact keeps_of_work rfl (formed_frameVerdict _ _ _ _ _ h)
  | pollFetch => exact keeps_of_work rfl (formed_pollFetch _ _ h)
  | ackVerdict => exact keeps_of_work rfl (formed_ackVerdict _ _ _ h)
  | ackWaitExpiry => exact keeps_of_work rfl (formed_ackWaitExpiry _ h)
  | apptCheck => exact keeps_of_work rfl (formed_apptCheck _ h)
  | beaconDue => exact keeps_of_work rfl (formed_beaconDue _ h)
  | peerBeacon => exact keeps_of_work rfl (formed_peerBeacon _ _ _ _ _ h)
  | peerMiss => exact keeps_of_work rfl ((frame_peerMiss _ _).formed rfl h)
  | sweeperVisit => exact keeps_of_work rfl (formed_sweeperVisit h)
  | pathReread => exact keeps_of_work rfl (formed_pathReread h)
  | windowWrite => exact keeps_of_work rfl (formed_windowWrite _ _ _ h)
  | nodeRead => exact keeps_of_work rfl (formed_regCommand _ _ _ _ _ (fun _ ht => formed_nodeRead _ _ ht) h)
  | nodeAdmit => exact keeps_of_work rfl (formed_regCommand _ _ _ _ _ (fun _ ht => formed_nodeAdmit _ _ ht) h)
  | nodeUpdate => exact keeps_of_work rfl (formed_regCommand _ _ _ _ _ (fun _ ht => formed_nodeUpdate _ _ ht) h)
  | nodeRemove => exact keeps_of_work rfl (formed_regCommand _ _ _ _ _ (fun _ ht => formed_nodeRemove _ _ ht) h)
  | nodePin => exact keeps_of_work rfl (formed_regCommand _ _ _ _ _ (fun _ ht => formed_nodePin _ _ ht) h)
  | nodeUnpin => exact keeps_of_work rfl (formed_regCommand _ _ _ _ _ (fun _ ht => formed_nodeUnpin _ ht) h)
  | nodeScanAdvance => exact keeps_of_done rfl (formed_regRead _ _ _ h)
  | keysScanAdvance => exact keeps_of_done rfl (formed_regRead _ _ _ h)
  | ethFrameHandOn => exact keeps_of_work rfl (formed_ethHandOn _ h)
  | pendingTimeoutCheck => exact keeps_of_work rfl (formed_pendingTimeouts h)
  | reassemblyTimeout => exact keeps_of_work rfl (formed_reasmTimeout h)
  | schedSelection => exact keeps_of_work rfl (formed_select _ h)
  | bucketRefill => exact keeps_of_done rfl (.foldl h (fun _ _ h0 => (frame_refill _ _).formed rfl h0))
  | horizonExpiry => exact keeps_of_work rfl (formed_endHorizons _ h)
  | frameEnterRxTx => exact keeps_of_work rfl (formed_enterRxTxFrame _ h)
  | lbtBackoffExpiry => exact keeps_of_done rfl ((frame_backoffExpiry _ _ _).formed rfl h)
  | lbtRetest => exact keeps_of_work rfl (formed_lbtRetest _ h)
  | slipExpiry => exact keeps_of_work rfl (formed_slipNow _ h)
  | dwellRunClose => exact keeps_of_done rfl ((frame_dwellClose _ _ _).formed rfl h)
  | pufAutoRefresh => exact keeps_of_work rfl ((frame_pufAutoRefresh _ _ _ _ _).formed rfl h)
  | pufEnrol =>
    exact keeps_of_work rfl (formed_bar4Command _ _ _ (fun _ ht => (frame_pufEnrol _ _ _ _ _).formed rfl ht) h)
  | pufRefresh =>
    exact keeps_of_work rfl (formed_bar4Command _ _ _ (fun _ ht => (frame_pufRefresh _ _ _ _ _).formed rfl ht) h)
  | pufSwap =>
    exact keeps_of_work rfl (formed_bar4Command _ _ _ (fun _ ht => (frame_pufSwap _ _ _ _ _).formed rfl ht) h)
  | pufReseal =>
    exact keeps_of_work rfl (formed_bar4Command _ _ _ (fun _ ht => (frame_pufReseal _ _ _ _).formed rfl ht) h)
  | lcTransition => exact keeps_of_work rfl (formed_bar4Command _ _ _ (fun _ ht => formed_lcTransition _ _ _ ht) h)
  | lcSeal => exact keeps_of_work rfl (formed_bar4Command _ _ _ (fun _ ht => formed_lcSeal _ ht) h)
  | lcExit => exact keeps_of_work rfl (formed_bar4Command _ _ _ (fun _ ht => (frame_lcExit _).formed rfl ht) h)
  | trustUnlock => exact keeps_of_work rfl (formed_bar4Write _ _ _ h)
  | trustClose => exact keeps_of_work rfl (formed_bar4Write _ _ _ h)
  | trustDurationExpiry => exact keeps_of_work rfl ((frame_trustExpiry _).formed rfl h)
  | keyLoad => exact keeps_of_work rfl (formed_keyLoad _ h)
  | keyUnwrapLoad => exact keeps_of_work rfl (formed_keyUnwrapLoad _ h)
  | keyDerive => exact keeps_of_work rfl (formed_keyDerive _ _ _ h)
  | keyErase => exact keeps_of_work rfl (formed_keyErase _ _ h)
  | keyExport => exact keeps_of_work rfl (formed_keyExport _ _ h)
  | keyImport => exact keeps_of_work rfl (formed_keyImport _ _ h)
  | keyWrapOut => exact keeps_of_work rfl (formed_keyWrapOut _ _ h)
  | keyOpDone => exact keeps_of_work rfl (formed_keyOpDone _ h)
  | cacheFlushDone => exact keeps_of_work rfl ((frame_cacheFlushDone _ _).formed rfl h)
  | journalWriteDone => exact keeps_of_work rfl ((frame_journalWriteDone _ _ _).formed rfl h)
  | pathMismatch => exact keeps_of_work rfl (formed_pathMismatch _ h)
  | knownAnswerCheck => exact keeps_of_work rfl ((frame_knownAnswer _ _ _).formed rfl h)
  | engineDrained => exact keeps_of_work rfl ((frame_engineDrained _ _).formed rfl h)
  | ccmEncrypt => exact keeps_of_work rfl (formed_regWrite _ _ _ _ h)
  | ccmDecrypt => exact keeps_of_work rfl (formed_regWrite _ _ _ _ h)
  | ccmJobDone => exact keeps_of_work rfl (formed_ccmDone _ h)
  | scipherXtsEncrypt => exact keeps_of_work rfl (formed_regWrite _ _ _ _ h)
  | scipherXtsDecrypt => exact keeps_of_work rfl (formed_regWrite _ _ _ _ h)
  | scipherCbcEncrypt => exact keeps_of_work rfl (formed_regWrite _ _ _ _ h)
  | scipherCbcDecrypt => exact keeps_of_work rfl (formed_regWrite _ _ _ _ h)
  | scipherCtr => exact keeps_of_work rfl (formed_regWrite _ _ _ _ h)
  | scipherCfbEncrypt => exact keeps_of_work rfl (formed_regWrite _ _ _ _ h)
  | scipherCfbDecrypt => exact keeps_of_work rfl (formed_regWrite _ _ _ _ h)
  | scipherJobDone => exact keeps_of_work rfl (formed_sciDone _ h)
  | pkeVerifyP256 => exact keeps_of_work rfl (formed_regWrite _ _ _ _ h)
  | pkeVerifyP384 => exact keeps_of_work rfl (formed_regWrite _ _ _ _ h)
  | pkeVerifyEd25519 => exact keeps_of_work rfl (formed_regWrite _ _ _ _ h)
  | pkePairPublic => exact keeps_of_work rfl (formed_regWrite _ _ _ _ h)
  | pkePairEcdh => exact keeps_of_work rfl (formed_regWrite _ _ _ _ h)
  | pkeDone => exact keeps_of_work rfl ((frame_pkeDone _ _ _).formed rfl h)
  | ethLinkChange => exact keeps_of_work rfl (formed_ethLinkChange _ _ _ _ _ _ _ _ _ h)
  | ethFrameEnd => exact keeps_of_work rfl ((frame_ethFrameEnd _ _ _ _ _ _ _ _).formed rfl h)
  | pauseTimerExpiry => exact keeps_of_done rfl ((frame_pauseTimerExpiry _ _).formed rfl h)
  | egressOffer => exact keeps_of_work rfl (formed_egressOffer _ h)
  | egressFrameStart => exact keeps_of_work rfl ((frame_egressFrameStart _ _).formed rfl h)
  | egressFrameEnd => exact keeps_of_work rfl (formed_egressFrameEnd _ h)
  | egressHoldTimeout => exact keeps_of_work rfl (formed_egressHoldTimeout _ h)
  | bufferHigh => exact keeps_of_done rfl ((frame_bufferHigh _ _).formed rfl h)
  | pauseRepeat => exact keeps_of_done rfl ((frame_pauseRepeat _ _).formed rfl h)
  | bufferLow => exact keeps_of_done rfl ((frame_bufferLow _ _).formed rfl h)
  | pauseMaxHold => exact keeps_of_done rfl ((frame_pauseMaxHold _ _).formed rfl h)
  | sfpModAbsChange => exact keeps_of_work rfl ((frame_sfpModAbs _ _ _).formed rfl h)
  | sfpIdRead => exact keeps_of_work rfl ((frame_sfpIdRead _ _ _).formed rfl h)
  | sfpDdmPoll => exact keeps_of_done rfl ((frame_sfpDdmPoll _ _ _).formed rfl h)
  | sfpLosChange => exact keeps_of_work rfl (formed_sfpLos _ _ h)
  | sfpAccess => exact keeps_of_done rfl (formed_regWrite _ _ _ _ h)
  | sfpAccessDone => exact keeps_of_done rfl ((frame_sfpAccessDone _ _ _ _ _).formed rfl h)
  | sfpNackRetry => exact keeps_of_done rfl ((frame_sfpNackRetry _ _).formed rfl h)
  | ethOctetLoRead => exact keeps_of_done rfl ((frame_ethOctetLoRead _ _ _ _).formed rfl h)
  | rmonLoRead => exact keeps_of_done rfl ((frame_rmonLoRead _ _ _ _).formed rfl h)
  | incrHiWrite => exact keeps_of_done rfl (formed_regWrite _ _ _ _ h)
  | timeNowRead => exact keeps_of_done rfl (formed_regRead _ _ _ h)
  | meshNowRead => exact keeps_of_done rfl (formed_regRead _ _ _ h)
  | ppsInTsRead => exact keeps_of_done rfl (formed_regRead _ _ _ h)
  | timeSet => exact keeps_of_done rfl (formed_regWrite _ _ _ _ h)
  | timeAdjust => exact keeps_of_done rfl (formed_regWrite _ _ _ _ h)
  | holdover => exact keeps_of_done rfl ((frame_holdover _).formed rfl h)
  | ppsInEdge => exact keeps_of_done rfl ((frame_ppsInEdge _ _).formed rfl h)
  | ppsInLost => exact keeps_of_done rfl ((frame_ppsInLost _).formed rfl h)
  | ppsOutPulse => exact keeps_of_done rfl ((frame_ppsOutPulse _).formed rfl h)
  | ppsOutPulseEnd => exact keeps_of_done rfl ((frame_ppsOutEnd _).formed rfl h)
  | meshOffsetWrite => exact keeps_of_done rfl (formed_regWrite _ _ _ _ h)
  | tsqPop => exact keeps_of_done rfl (formed_regRead _ _ _ h)
  | pcieFunctionReset => exact keeps_of_work rfl ((frame_functionReset _ _).formed rfl h)
  | pcieConfigReady => exact keeps_of_done rfl ((frame_configReady _).formed rfl h)
  | pcieLink => exact keeps_of_work rfl ((frame_pcieLink _ _ _ _ _).formed rfl h)
  | bar2Access => exact keeps_of_work rfl (formed_bar2 _ _ h)
  | copyToHost => exact keeps_of_work rfl (formed_regWrite _ _ _ _ h)
  | copyFromHost => exact keeps_of_work rfl (formed_regWrite _ _ _ _ h)
  | copyCplTimeout => exact keeps_of_work rfl (formed_copyTimeout _ _ h)
  | copyDone => exact keeps_of_work rfl (formed_copyDone _ _ _ h)
  | ringEnable => exact keeps_of_work rfl (formed_regWrite _ _ _ _ h)
  | ringHandOver => exact keeps_of_work rfl (formed_ringHandOver _ h)
  | ringFillDone => exact keeps_of_work rfl (formed_ringFillDone _ _ h)
  | ringTimeout => exact keeps_of_work rfl (formed_ringTimeout _ h)
  | hostTallyWrite => exact keeps_of_work rfl (formed_hostTallyWrite _ _ _ h)
  | txSlotTake => exact keeps_of_work rfl (formed_txSlotTake _ _ h)
  | noticePop => exact keeps_of_done rfl (formed_regRead _ _ _ h)
  | hostifWarmReset => exact keeps_of_work rfl (formed_regWrite _ _ _ _ h)
  | ddrAlert => exact keeps_of_work rfl ((frame_ddrAlert _ _ _).formed rfl h)
  | sramScrubPass => exact keeps_of_work rfl (formed_sramScrub _ h)
  | ddrScrub => exact keeps_of_work rfl ((frame_ddrScrub _ _).formed rfl h)
  | fillChunkDone => exact keeps_of_work rfl (formed_fillChunkDone h)
  | ddrTrainingDone => exact keeps_of_work rfl (formed_ddrTrained _ _ _ h)
  | testWrite => exact keeps_of_work rfl (formed_regWrite _ _ _ _ h)
  | testFlipData => exact keeps_of_work rfl (formed_regWrite _ _ _ _ h)
  | testFlipCheck => exact keeps_of_work rfl (formed_regWrite _ _ _ _ h)
  | testRead => exact keeps_of_work rfl (formed_regWrite _ _ _ _ h)
  | testReadRaw => exact keeps_of_work rfl (formed_regWrite _ _ _ _ h)
  | flashTimeout => exact keeps_of_done rfl ((frame_flashTimeout _ _).formed rfl h)
  | fwupInstall => exact keeps_of_work rfl (formed_regWrite _ _ _ _ h)
  | installDone => exact keeps_of_work rfl ((frame_installDone _ _ _).formed rfl h)
  | fwupActivateLive =>
    exact keeps_of_work rfl (formed_regCommand _ _ _ _ _ (fun _ ht => (frame_fwActivateLive _ _).formed rfl ht) h)
  | liveEpochHandover => exact keeps_of_work rfl ((frame_liveHandover _ _).formed rfl h)
  | fwupActivateAtReset => exact keeps_of_work rfl (formed_regWrite _ _ _ _ h)
  | fwupConfirm => exact keeps_of_work rfl (formed_regWrite _ _ _ _ h)
  | fwupRevert => exact keeps_of_work rfl (formed_regWrite _ _ _ _ h)
  | fwupStoreProfile =>
    exact keeps_of_work rfl (formed_regCommand _ _ _ _ _ (fun _ ht => (frame_fwStoreProfile _ _).formed rfl ht) h)
  | ownerCosignWrite => exact keeps_of_work rfl (formed_regWrite _ _ _ _ h)
  | handoverRecord => exact keeps_of_done rfl ((frame_handoverRecord _).formed rfl h)
  | supervisorCoreFault => exact keeps_of_work rfl (formed_coreFault _ _ h)
  | coreReloadDone => exact keeps_of_work rfl ((frame_coreReload _ _).formed rfl h)
  | trialExpiry => exact keeps_of_done rfl ((frame_trialExpiry _).formed rfl h)
  | trialRecordRewrite => exact keeps_of_work rfl ((frame_trialRewrite _).formed rfl h)
  | microcodeLoadDone => exact keeps_of_work rfl ((frame_microcodeLoaded _ _).formed rfl h)
  | dissemSetup => exact keeps_of_work rfl (formed_regCommand _ _ _ _ _ (fun _ ht => formed_dissemSetup _ ht) h)
  | setupDone => exact keeps_of_work rfl (formed_setupDone _ h)
  | dissemStart =>
    exact keeps_of_work rfl (formed_regCommand _ _ _ _ _ (fun _ ht => (frame_dissemStart _ _).formed rfl ht) h)
  | dissemStop => exact keeps_of_work rfl (formed_regCommand _ _ _ _ _ (fun _ ht => formed_dissemEnd _ _ _ ht) h)
  | dissemAbort => exact keeps_of_work rfl (formed_regCommand _ _ _ _ _ (fun _ ht => formed_dissemEnd _ _ _ ht) h)
  | dissemClear =>
    exact keeps_of_work rfl (formed_regCommand _ _ _ _ _ (fun _ ht => (frame_dissemClear _ _).formed rfl ht) h)
  | dissemExport => exact keeps_of_work rfl (formed_regCommand _ _ _ _ _ (fun _ ht => formed_dissemExport _ _ ht) h)
  | windowPlan => exact keeps_of_work rfl (formed_windowPlan _ _ h)
  | windowOpen => exact keeps_of_work rfl (formed_windowOpen _ _ _ h)
  | windowClose => exact keeps_of_work rfl (formed_windowClose _ _ h)
  | belayHeartbeatSend => exact keeps_of_done rfl ((frame_heartbeatSend _).formed rfl h)
  | belayHeartbeatRx => exact keeps_of_work rfl ((frame_heartbeatRx _ _ _ _ _ _).formed rfl h)
  | attachActivate => exact keeps_of_work rfl ((frame_attachActivate _).formed rfl h)
  | partnerLost => exact keeps_of_work rfl ((frame_partnerLost _).formed rfl h)
  | loneCeilingWait => exact keeps_of_done rfl ((frame_loneCeiling _).formed rfl h)
  | belayLaneFail => exact keeps_of_work rfl ((frame_belayLaneFail _ _).formed rfl h)
  | belayHello => exact keeps_of_work rfl (formed_belayHello _ _ _ _ _ h)
  | belayRecordRx => exact keeps_of_work rfl (formed_recordRx _ _ _ _ _ h)
  | belayRecordResend => exact keeps_of_done rfl ((frame_recordResend _).formed rfl h)
  | replayMirror => exact keeps_of_done rfl ((frame_replayMirror _).formed rfl h)
  | giveUpTimer => exact keeps_of_work rfl (formed_giveUp h)
  | ropeRelinquish => exact keeps_of_work rfl (formed_regWrite _ _ _ _ h)
  | ropeForceTakeover => exact keeps_of_work rfl (formed_regWrite _ _ _ _ h)
  | forceTakeoverDurable => exact keeps_of_work rfl ((frame_forceDurable _ _).formed rfl h)
  | partnerActFall => exact keeps_of_work rfl ((frame_partnerActFall _).formed rfl h)
  | takeoverDelayExpiry => exact keeps_of_work rfl ((frame_takeoverExpiry _).formed rfl h)
  | txMuteTimer => exact keeps_of_work rfl (formed_txMute h)
  | partnerActRise => exact keeps_of_work rfl ((frame_partnerActRise _).formed rfl h)
  | reclaimTimer => exact keeps_of_work rfl ((frame_reclaim _).formed rfl h)
  | dualActive => exact keeps_of_work rfl (formed_dualActive h)
  | retireFe => exact keeps_of_work rfl (formed_regWrite _ _ _ _ h)
  | wearSample => exact keeps_of_done rfl ((frame_wearSample _).formed rfl h)
  | wearOscillatorMeasure => exact keeps_of_done rfl ((frame_wearOscillators _ _).formed rfl h)
  | wearCheckpoint => exact keeps_of_done rfl ((frame_checkpoint _).formed rfl h)
  | tamperMesh => exact keeps_of_work rfl (formed_tamper _ h)
  | tamperSwitch => exact keeps_of_work rfl (formed_tamper _ h)
  | tamperEnv => exact keeps_of_work rfl (formed_tamper _ h)
  | cairnRecordWrite => exact keeps_of_done rfl ((frame_cairnWrite _).formed rfl h)
  | noteGo => exact keeps_of_done rfl (formed_regWrite _ _ _ _ h)
  | cairnRecRead => exact keeps_of_done rfl (formed_regRead _ _ _ h)
  | keyMirrorDone => exact keeps_of_work rfl (formed_keyMirrorDone h)
  | bivouacEntered => exact keeps_of_work rfl (formed_bivouacEntered h)
  | bivouacExited => exact keeps_of_work rfl (formed_bivouacExited h)
  | deepAfterExpiry => exact keeps_of_work rfl (formed_deepAfter h)
  | deepNowSet => exact keeps_of_work rfl (formed_regWrite _ _ _ _ h)
  | deepNowClear => exact keeps_of_work rfl (formed_regWrite _ _ _ _ h)
  | powerOnReset => exact keeps_of_work rfl (formed_powerOnReset h)
  | rstN => exact keeps_of_work rfl (formed_warmReset _ h)
  | startClocksLocked => exact keeps_of_work rfl (formed_clocksLocked _ _ _ _ _ _ _ h)
  | startRun => exact keeps_of_work rfl (formed_startRun h)
  | reqWarmReset => exact keeps_of_work rfl (formed_regWrite _ _ _ _ h)
  | reqEnter => exact keeps_of_work rfl (formed_regWrite _ _ _ _ h)
  | reqExit => exact keeps_of_work rfl (formed_regWrite _ _ _ _ h)
  | reqClearTamper => exact keeps_of_work rfl (formed_regCommand _ _ _ _ _ (fun _ ht => formed_requestGo _ ht) h)
  | reqRevert => exact keeps_of_work rfl (formed_regWrite _ _ _ _ h)
  | supplyConditionClear => exact keeps_of_done rfl ((frame_supplyClear _ _ _).formed rfl h)
  | tamperDomainSupplyLoss => exact keeps_of_done rfl ((frame_maskLost _).formed rfl h)
  | belayBlockLock => exact keeps_of_work rfl ((frame_belayLock _ _).formed rfl h)

/-- Settles O5: a step runs a command of `keepsForm`, or idles. -/
theorem everyStepKeepsTheMemoryForm : Obligations.EveryStepKeepsTheMemoryForm := by
  unfold Obligations.EveryStepKeepsTheMemoryForm
  intro s t h ht
  cases q : s.pending with
  | nil =>
    rw [step_nil q, Host.Outcome.next.injEq] at ht
    exact ht ▸ formed_idle h
  | cons c r =>
    rw [step_cons q] at ht
    exact keepsForm c (s := { s with pending := r }) h t ht

end Sys2Proof.Machine
end
